-- ==== Sys2Proof/Word.lean ====
section
/-! DEFINITION. The words of the module: a register is 32 bits wide (R8), a record or a step word is made of 64-bit
cells, memory is addressed by the byte. -/

namespace Sys2Proof

/-- R8: a register word. -/
abbrev Word := BitVec 32

/-- A Harbour cell's data, a step word, one 64-bit access. -/
abbrev DWord := BitVec 64

/-- A byte of an addressed memory. -/
abbrev Byte := BitVec 8

end Sys2Proof
end

