-- ==== Sys2Proof/Syntax.lean ====
section
/-! DEFINITION. The commands the module takes, as the spec's table of operations and events lists them. -/

namespace Sys2Proof

/-- An operand without content: what the event reports is computed from the state. -/
abbrev Computed := Unit
/-- R33: a field group, A to D. -/
abbrev Grp := Fin 4
/-- A logic die. -/
abbrev Die := Fin 2
/-- R33: a converter of a group that runs a sequence, CV0 to CV7. -/
abbrev Cv := Fin 8
/-- R33: a modulator of a group, CV0 to CV8. -/
abbrev Mod := Fin 10
/-- An analogue input of a group. -/
abbrev Ain := Fin 16
/-- An analogue cell of a group. -/
abbrev Cell := Fin 12
/-- An output of a group. -/
abbrev Out := Fin 8
/-- A DDS engine of a group. -/
abbrev DdsE := Fin 4
/-- A comparator of a group. -/
abbrev Kmp := Fin 16
/-- A general pin of a group, P0 to P15. -/
abbrev GPin := Fin 16
/-- A differential pair of a group. -/
abbrev Dp := Fin 4
/-- A digital pin of a group: 0 to 15 are P0 to P15, 16 to 19 are DP0 to DP3. -/
abbrev Pin := Fin 20
/-- A tracker. -/
abbrev Trk := Fin 4
/-- A step engine. -/
abbrev Eng := Fin 8
/-- An event context. -/
abbrev Ctx := Fin 16384
/-- A limit monitor. -/
abbrev Monitor := Fin 128
/-- A Harbour berth. -/
abbrev Berth := Fin 1024
/-- A DMA channel. -/
abbrev Chan := Fin 64
/-- A region of the fabric, numbered die × 16 + region. -/
abbrev Reg := Fin 32
/-- A fabric clock. -/
abbrev Fclk := Fin 8

/-- R30: where a register write comes from. -/
inductive Src where
  | host
  | ring
  | fabric (d : Die)
  | dma (c : Chan)
  | engine (e : Eng)
  | sched
  | trip
  | policy
  | pair
deriving DecidableEq, Repr

/-- A Colys port. -/
inductive Port where
  | west | east
deriving DecidableEq, Repr

/-- Which part of an 8-byte location an access takes. -/
inductive Half where
  | lo | hi | both
deriving DecidableEq, Repr

/-- R371: what the check of a Harbour cell finds at its read: no error, a single-bit error, a double-bit error in its data,
a double-bit error in its link or end mark. -/
inductive Ecc where
  | none | single | double | link
deriving DecidableEq, Repr

/-- The four registers of a limit monitor. -/
inductive MonReg where
  | cfg | lo | hi | act
deriving DecidableEq, Repr

/-- The lane classes of the ring (R396). -/
inductive RingCls where
  | data | maint
deriving DecidableEq, Repr

/-- What the header of a PTP message tells: the domain, the transport, the sender's clockIdentity. -/
structure PtpHead where
  domain : BitVec 7
  transport : Bool
  sender : BitVec 64
deriving DecidableEq, Repr

/-- R221: a PTP message as it arrives; times in ns. -/
inductive PtpMsg where
  | announce (h : PtpHead) (log : BitVec 8) (priority1 clockClass accuracy priority2 : BitVec 8) (variance : BitVec 16)
      (grandmaster : BitVec 64) (steps utc : BitVec 16) (utcValid arb : Bool)
  | sync (h : PtpHead) (seq : BitVec 16) (twoStep : Bool) (log : BitVec 8) (origin : BitVec 64) (correction : Int)
  | followUp (h : PtpHead) (seq : BitVec 16) (origin : BitVec 64) (correction : Int)
  | delayResp (h : PtpHead) (seq : BitVec 16) (receipt : BitVec 64) (correction : Int)
  | pdelayReq (h : PtpHead) (seq : BitVec 16)
  | pdelayResp (h : PtpHead) (seq : BitVec 16) (twoStep : Bool) (receipt : BitVec 64) (correction : Int)
  | pdelayFollowUp (h : PtpHead) (seq : BitVec 16) (departure : BitVec 64) (correction : Int)
  | other (h : PtpHead)
deriving DecidableEq, Repr

/-- R403: a time packet: the head's module time in ns, ACC_DELAY in units of 1/16 ns, HOPS, UTC_VALID, ARB, the head's
TIME.STATE, UTC_OFFSET; and the residence time in this module of the packet that is forwarded, 1/16 ns. -/
structure TimePkt where
  ns : BitVec 64
  acc : BitVec 32
  hops : BitVec 8
  utcValid : Bool
  arb : Bool
  state : BitVec 2
  utc : BitVec 16
  residence : BitVec 32
deriving DecidableEq, Repr

/-- R229, R234, R237: a source event as it reaches the supervisor. `age` is the number of system clocks since its field
instant where that is not the fixed latency of R18. -/
inductive TrkEvent where
  /-- ENCODER: the levels of the A, B and Z pairs after a change. -/
  | quad (a b z : Bool)
  /-- SINCOS, RESOLVER: the next pair of the outputs that have arrived. -/
  | pair
  /-- MAINS: a crossing of the comparator's filtered level. -/
  | crossing (rising : Bool)
  /-- SCALE: the next output that has arrived. -/
  | output
  /-- An edge of the comparator or general pin that HOME_SRC names. -/
  | home (rising : Bool)
deriving DecidableEq, Repr

/-- R437 to R439: what a heartbeat tells of the partner: its FAULT.PAIR_STATUS, FAULT.PAIR_CFG, CFG.BUILD_ID and STEP.POL_INFO. -/
structure PairAnswer where
  status : Word
  cfg : Word
  build : Word
  policy : Word
deriving DecidableEq, Repr

/-- R415: what an Ethernet frame carries: a PTP message; an ARP request for an IPv4 address with the asker's EUI-48; an ICMP
echo request; an IGMP query for a group; anything else. -/
inductive EthFrame where
  | ptp (m : PtpMsg)
  | arp (target : BitVec 32) (asker : BitVec 48)
  | echo (target asker : BitVec 32) (data : List Byte)
  | igmpQuery (group : BitVec 32)
  | other
deriving DecidableEq, Repr

/-- R410, R412: a configuration request to the endpoint: Bus Master Enable, the power state, MSI-X control, the payload limit. -/
inductive PcieCfg where
  | busMaster (on : Bool)
  | power (d3hot : Bool)
  | msix (enable functionMask : Bool)
  | maxPayload (bytes256 : Bool)
deriving DecidableEq, Repr


/-- The commands of the block: one constructor per row of the command table. A command that is a register write carries
the agent it comes from and the whole 32-bit (or 64-bit) word written. -/
inductive Instr where
  /-- R58: VIN rises above VON while the supervisor is held in power-on reset, which defines t0 and starts the boot ROM, the crystal and module time. -/
  | supplyPowerOn (head : Bool) (addr : BitVec 6)
  /-- R70: At 15 ms the supervisor registers and Colys ports come up, SYS.START.PHASE becomes 1 and the policy check begins. -/
  | supervisorUp
  /-- R70: At its fixed instant the isolated supply of one group is started. -/
  | groupSupplyStart (g : Grp)
  /-- R70: A group's analogue die comes alive and its group link is up, so its GRP registers become readable. -/
  | groupAlive (g : Grp)
  /-- R71: 200 µs after the NV power-up value is applied, the output gate closes unless the power-up value is open. -/
  | nvGateClose (g : Grp) (o : Out)
  /-- R180: 20 ms after the group's die is alive INT_SETTLED sets. -/
  | intSettledTimer (g : Grp)
  /-- R54: At 40 ms reduced service starts, limit monitors go live and SYS.START.PHASE becomes 2. -/
  | reducedServiceStart
  /-- R99: A header or frame of the full stream arrives from flash and is checked, with fabric frames written and group frames held. -/
  | fullLoadFrame (unreadable : Bool)
  /-- R100: With AUTO_FALLBACK set the loader tries the other slot once after a failure. -/
  | fallbackLoadStart
  /-- R99: The trailer checks pass, DONE sets and the held group frames are applied as the configured topology. -/
  | fullLoadVerified (unreadable : Bool)
  /-- R70: Calibrated coefficient sets are read from flash and interpolated, completing step 9 of start-up. -/
  | coeffRestoreDone
  /-- R73: At the first clock where restore is done and every reference has settled or the release bound passed, the module releases into full service. -/
  | release
  /-- R61: VIN falls below VOFF, which starts the dip filter. -/
  | vinFall
  /-- R61: After the dip filter time the dip is detected, DIP sets and DIP_COUNT increments. -/
  | dipDetected
  /-- R61: VIN returns above VON before 1 ms, ending the dip with a DIP fault-log entry. -/
  | dipEnd (micros : Nat)
  /-- R61: VIN still below VON at 1 ms starts the irreversible power-fail sequence. -/
  | powerFailStart
  /-- R64: At the end of hold-up internal rails collapse and outputs and pins take their unpowered states. -/
  | railsCollapse
  /-- R62: After VIN has stayed above VON for 10 ms following a power-fail sequence, the module starts again from a new t0. -/
  | powerFailRestart (head : Bool) (addr : BitVec 6)
  /-- R60: VIN rises above the VIN_HIGH threshold, setting VIN_HIGH and writing one fault-log entry. -/
  | vinHighRise (millivolts : Nat)
  /-- R68: A group rail leaves tolerance for more than 20 µs, so the group is lost and a restart is scheduled or GRP_FAIL latches. -/
  | groupRailFail (g : Grp) (rails : BitVec 4)
  /-- R19: A group link fails and work in flight to the group is reported failed item by item. -/
  | groupLost (g : Grp)
  /-- R68: 100 ms after a rail failure the supervisor performs the group power-up for that group alone. -/
  | groupRestart (g : Grp)
  /-- R69: g.VFLD falls below 10.5 V, clearing VFLD_OK and writing one fault-log entry. -/
  | vfldLow (g : Grp)
  /-- R82: A SYS.RESET write with MODULE set and key C3h resets the module with the group supplies left on. -/
  | moduleReset (src : Src) (v : Word)
  /-- R81: A SYS.RESET write with FABRIC set returns the fabric flip-flops of both logic dies to their initial values. -/
  | fabricReset (src : Src) (v : Word)
  /-- R83: A SYS.RESET write with a GROUP bit set restarts that group at once and re-sends its configuration. -/
  | groupReset (src : Src) (v : Word)
  /-- R44: A write to SYS.MODE requests modes, and the in-force set is evaluated in the following system clock. -/
  | sysModeWrite (src : Src) (v : Word)
  /-- R56: At the first modulator edge at least 50 µs after REDUCED left force, each converter restarts its configured sequence at entry 0. -/
  | reducedExitRestart (g : Grp) (n : Cv)
  /-- R104: A CFG.CTRL write of START with OP 0 starts a region load into the target region. -/
  | cfgRegionLoad (src : Src) (v : Word)
  /-- R108: A CFG.CTRL write of START with OP 1 starts programming a slot or library entry from a host source. -/
  | cfgFlashProgram (src : Src) (v : Word)
  /-- R105: A CFG.CTRL write of ABORT ends the operation in progress with ABORTED. -/
  | cfgAbort (src : Src) (v : Word)
  /-- R97: A CFG.CTRL write of END_OF_SOURCE marks the end of the host source of the operation in progress. -/
  | cfgEndOfSource (src : Src) (v : Word)
  /-- R97: A write to CFG.DATA delivers the next four stream bytes of a host-source operation. -/
  | cfgDataWrite (src : Src) (v : Word)
  /-- R97: No byte arrives for 100 ms, so the stream fails with TRUNCATED. -/
  | streamStopped
  /-- R104: The whole region stream is staged and the frame and trailer checks run on the staged copy. -/
  | regionStreamStaged (unreadable : Bool)
  /-- R103: The staged region stream has verified and the target region is written with its flip-flops held in reset. -/
  | regionStreamChecked
  /-- R103: The target write ends, flip-flops take initial values and the region connects or stays held, with DONE and RESERVE_LOADED set. -/
  | regionLoadWritten
  /-- R108: The written flash copy is verified and the destination is marked valid or the operation fails. -/
  | programmedCopyVerified (unreadable : Bool)
  /-- R103: A write to CFG.HOLD holds or releases regions, connecting a released region at the next edge of each fabric clock. -/
  | cfgHoldWrite (src : Src) (v : Word)
  /-- R108: A write to CFG.BOOT sets the start-up slot and auto-fallback and stores them in flash. -/
  | cfgBootWrite (src : Src) (v : Word)
  /-- R92: A CFG.KEY_REVOKE write with key 5Ah permanently revokes a signing key unless none would remain. -/
  | keyRevoke (src : Src) (v : Word)
  /-- R106: The scrubber reads a configuration word as part of its continuous 50 ms sweep. -/
  | scrubWord (region : Option Reg) (word : Nat) (flips : List (Fin 64)) (last : Bool)
  /-- R121: A fabric clock synthesiser locks and its clock starts without a runt pulse. -/
  | fclkLock (clk : Fclk)
  /-- R121: A fabric clock loses lock, stops, sets LOST and writes a fault-log entry. -/
  | fclkLost (clk : Fclk)
  /-- R116: A block RAM read meets a single-bit or double-bit error, which is corrected or returned and counted. -/
  | bramEccEvent (region : Reg) (k : Fin 4) (word : Fin 1024) (double : Bool)
  /-- R131: A read or write to a die's user register window pulses RD or WR on the fabric register port. -/
  | userRegisterAccess (src : Src) (d : Die) (write : Bool) (a : Fin 65536) (v : Word)
  /-- R131: The fabric drives READY, completing the user register access. -/
  | userRegisterReady (d : Die) (rdata : Word)
  /-- R131: A user register access without READY in 4,096 system clocks completes with an error and is counted. -/
  | userRegisterTimeout (d : Die)
  /-- R132: An M_WR pulse from the fabric issues a module register write as a fabric write source. -/
  | masterPortWrite (d : Die) (addr : BitVec 24) (v : DWord) (wide : Bool)
  /-- R127: A rising edge on a fabric doorbell outlet rings the step engine. -/
  | doorbellOutletRise (d : Die) (e : Eng)
  /-- R129: A write to FAB.TAP names the converter, clock and follow mode of a modulator tap. -/
  | tapConfigWrite (src : Src) (d : Die) (t : Fin 8) (v : Word)
  /-- R133: A FAB.CAP_CTRL write of START takes a snapshot at the next reference edge. -/
  | captureStart (src : Src) (v : Word)
  /-- R134: A FAB.CAP_CTRL write of ARM arms a triggered capture. -/
  | captureArm (src : Src) (v : Word)
  /-- R134: The capture trigger outlet goes to 1 while armed and OBSERVE is in force. -/
  | captureTrigger
  /-- R133: At the reference edge the scope's state is copied into the readback, DONE sets and SEQ increments. -/
  | captureSnapshot
  /-- R133: No reference edge comes within 2 µs, so the snapshot is taken on a system clock edge with RESULT NO_CLOCK. -/
  | captureNoClock
  /-- R141: A write to INP.AI.CFG.MODE changes the input mode within 50 µs unless the input is taken. -/
  | inpModeWrite (src : Src) (g : Grp) (ain : Ain) (v : Word)
  /-- R143: The current limiter of a current-mode input starts acting, setting LIMITED and incrementing LIMIT_COUNT. -/
  | limiterEntry (g : Grp) (ain : Ain)
  /-- R143: The limiter voltage passes 6 V, folding back, or falls below 3 V, leaving fold-back. -/
  | limiterFoldback (g : Grp) (ain : Ain) (enter : Bool)
  /-- R160: A write to CELL.COMMIT checks and closes the cell shadow set or refuses it with REJECTED. -/
  | cellCommit (src : Src) (g : Grp) (v : Word)
  /-- R161: At the chosen crystal edge or entry boundary every field of the cell set takes effect and old track drivers disconnect. -/
  | cellHandover (g : Grp)
  /-- R148: 200 ns after the hand-over the new track drivers connect. -/
  | trackDriverConnect (g : Grp)
  /-- R161: 12 system clocks after the hand-over PENDING clears, DONE sets and the set reopens. -/
  | cellHandoverReported (g : Grp)
  /-- R152: A cell's control level changes, holding, freezing or resetting an integrator or track-and-hold. -/
  | cellCtlChange (g : Grp) (c : Cell) (level : Bool)
  /-- R155: A cell output enters clipping, setting CLIP and incrementing CLIP_COUNT. -/
  | cellClipEntry (g : Grp) (c : Cell)
  /-- R170: A modulator declares overload, clears its integrators and holds its code for 16 samples. -/
  | overloadDeclare (g : Grp) (n : Mod) (positive : Bool)
  /-- R170: 64 samples pass after the end of a hold without a new declaration, ending the overload event. -/
  | overloadEventEnd (g : Grp) (n : Mod)
  /-- R171: After the dwell a conversion window opens and the filter is cleared. -/
  | windowOpen (g : Grp) (n : Cv)
  /-- R172: At an output instant the decimator delivers a filtered, corrected and stamped sample. -/
  | converterOutput (g : Grp) (n : Cv) (x : Computed)
  /-- R203: 12 system clocks after the boundary PENDING clears, DONE sets and the mirror shows the new words. -/
  | sequenceHandoverReported (g : Grp) (n : Cv)
  /-- R192: A write to CV.COMMIT checks and closes the sequence shadow set, taking effect at once when the converter is disabled. -/
  | cvCommit (src : Src) (g : Grp) (n : Cv) (v : Word)
  /-- R198: ENABLE written from 0 to 1 takes the set in force and starts entry 0 or idles at the first modulator edge 16 clocks later. -/
  | cvEnable (src : Src) (g : Grp) (n : Cv) (v : Word)
  /-- R212: ENABLE written to 0 cancels work at the cancellation edge with DISABLED records and stops the modulator. -/
  | cvDisable (src : Src) (g : Grp) (n : Cv) (v : Word)
  /-- R184: A write that changes ILV joins or separates an interleaved pair when both converters are disabled. -/
  | cvIlvWrite (src : Src) (g : Grp) (n : Cv) (v : Word)
  /-- R199: A start request acts at the first modulator edge 16 clocks later, starting a pass, setting START_PEND or ending a visit. -/
  | seqStart (src : Src) (g : Grp) (n : Cv)
  /-- R200: An advance request sets ADV_PEND and ends the visit at the next output of its own entry. -/
  | seqAdvance (src : Src) (g : Grp) (n : Cv)
  /-- R206: An injected request is judged in the clock applied, failing with a FAIL record, merging or making its slot pending. -/
  | injectRequest (src : Src) (g : Grp) (n : Cv) (slots : BitVec 4)
  /-- R208: A pending injected slot acts at its modulator edge, starting at once, interrupting the visit or waiting. -/
  | injectAct (g : Grp) (n : Cv)
  /-- R207: The injected conversion delivers its one output with an INJECTED record and clears its pending bit. -/
  | injectedOutput (g : Grp) (n : Cv) (x : Computed)
  /-- R211: A CANCEL write ends a pending or running slot with a CANCELLED record at the modulator edge 16 clocks later. -/
  | injectCancel (src : Src) (g : Grp) (n : Cv) (slots : BitVec 4)
  /-- R182: A write to INP.REF.CFG.SEL changes the selected reference at the next crystal edge and restarts the settling test. -/
  | refSelWrite (src : Src) (g : Grp) (v : Word)
  /-- R218: A write to TIME.STEP_HI steps module time by the held signed amount. -/
  | timeStepWrite (src : Src) (v : Word)
  /-- R218: A write to TIME.RATE sets the correction when DISCIPLINED is not in force. -/
  | timeRateWrite (src : Src) (v : Word)
  /-- R217: A write to TIME.CTRL sets SLEW_ONLY, PPS output enable, servo bandwidth and step threshold. -/
  | timeCtrlWrite (src : Src) (v : Word)
  /-- R221: The head's IEEE 1588 port receives a PTP message and updates its state and offset measurement. -/
  | ptpMessageReceive (m : PtpMsg)
  /-- R222: No Sync is accepted for the announce receipt timeout, so STATE becomes HOLDOVER with RATE frozen. -/
  | ptpHoldoverTimeout
  /-- R223: A write to TIME.PTP_CFG restarts the port in INITIALIZING. -/
  | ptpCfgWrite (src : Src) (v : Word)
  /-- R221: The port sends a Delay_Req or Pdelay_Req to measure the path delay. -/
  | ptpDelayReqSend
  /-- R224: At every whole millisecond of its module time the head sends a time packet on both Colys ports. -/
  | timePacketSend
  /-- R225: A time packet arrives, is forwarded with added delay, and steers module time when DISCIPLINED is in force. -/
  | timePacketReceive (port : Port) (p : TimePkt)
  /-- R225: No time packet arrives for 10 ms, so a non-head module enters HOLDOVER. -/
  | ringTimeHoldover
  /-- R224: Every 100 ms each port measures its link delay by a round trip of maintenance packets. -/
  | linkDelayMeasure (port : Port)
  /-- R227: Module time reaches a whole second and S.PPS_OUT rises for 1,638,400 system clocks. -/
  | ppsOutRise
  /-- R227: The PPS pulse ends after 1,638,400 system clocks. -/
  | ppsOutFall
  /-- R227: A rising edge at S.PPS_IN latches module time in PPS_CAP and sets PPS_IN. -/
  | ppsInEdge
  /-- R233: A write of ENABLE starts a tracker in SEARCH, or locks TIME and SCALE at once, or freezes it when cleared. -/
  | trackerEnable (src : Src) (k : Trk) (v : Word)
  /-- R229: A source event is placed at its field instant and updates the tracker's phase and velocity. -/
  | trackerSourceEvent (k : Trk) (ev : TrkEvent)
  /-- R236: The fourth bad pair, skipped outputs or a missing crossing put the tracker into HOLD and set LOCK_LOST. -/
  | trackerHoldEntry (k : Trk)
  /-- R236: HOLD_TIME passes in HOLD and the tracker goes LOST with phase frozen. -/
  | trackerHoldTimeout (k : Trk)
  /-- R234: An encoder pair in fail-safe for more than 1 µs makes the tracker LOST. -/
  | encoderFailsafeLost (k : Trk)
  /-- R234: No encoder edge for STOP_TIME sets velocity 0 and STOPPED. -/
  | encoderStopTimeout (k : Trk)
  /-- R237: A write of HOME_NOW sets the phase to HOME_VALUE as a HOME jump. -/
  | homeNow (src : Src) (k : Trk) (v : Word)
  /-- R237: A write of ARM arms homing on HOME_SRC. -/
  | homeArm (src : Src) (k : Trk) (v : Word)
  /-- R237: A write of DISARM clears ARMED. -/
  | homeDisarm (src : Src) (k : Trk) (v : Word)
  /-- R245: A write setting ARM in a context checks it and arms it for judgement from the next clock. -/
  | contextArmingWrite (src : Src) (x : Ctx) (v : DWord) (wide : Bool)
  /-- R246: A control-word write with ARM 0 disarms an armed context with one DISARMED record. -/
  | contextDisarm (src : Src) (x : Ctx) (v : DWord) (wide : Bool)
  /-- R249: In a system clock the scheduler judges armed contexts against module time or the tracker extreme and direction. -/
  | contextJudge
  /-- R252: A hold of contexts ends and the net movement of each held context is judged as jumped over. -/
  | schedHoldEnd
  /-- R254: Up to four decisions per clock are issued in due order, their actions written as scheduler writes. -/
  | decisionIssue
  /-- R256: 16 system clocks after issue a completion record is written into SCHED.CFG.BERTH. -/
  | completionRecord
  /-- R258: A MARK action writes a two-cell mark into its berth 16 clocks after issue. -/
  | schedMark
  /-- R259: A write of SCHED.REPEAT_HI makes an interval entry take effect for its contexts from their next decision. -/
  | schedRepeatWrite (src : Src) (entry : Fin 256) (v : Word)
  /-- R249: A write of SCHED.TRK HYST or HOLD_FIRE sets the tracker's band or hold behaviour when no armed context names it. -/
  | schedTrkWrite (src : Src) (k : Trk) (cfg : Bool) (v : Word)
  /-- R266: A NOP step word executes with no action. -/
  | stepNop (e : Eng)
  /-- R266: A HALT step word halts the engine and sets its HALTED event bit. -/
  | stepHalt (e : Eng)
  /-- R266: A MOVI step word loads an immediate into a data register. -/
  | stepMovi (e : Eng)
  /-- R266: A MOV step word copies one data register to another. -/
  | stepMov (e : Eng)
  /-- R266: An ADD step word adds or subtracts registers and an immediate with saturation. -/
  | stepAdd (e : Eng)
  /-- R266: A SCALE step word multiplies a register by an immediate and shifts with rounding. -/
  | stepScale (e : Eng)
  /-- R266: A LOAD step word reads a window register into a data register, holding the engine until it ends. -/
  | stepLoad (e : Eng)
  /-- R266: A WR step word writes a register value to a window offset. -/
  | stepWr (e : Eng)
  /-- R266: A WRI step word writes an immediate to the window offset in a register. -/
  | stepWri (e : Eng)
  /-- R266: A CMP step word sets a step flag by comparing a register with an immediate or register. -/
  | stepCmp (e : Eng)
  /-- R267: A CMPT step word compares a register against a table of ranges and returns the matching index. -/
  | stepCmpt (e : Eng)
  /-- R266: A SETF step word sets, clears or toggles step flags. -/
  | stepSetf (e : Eng)
  /-- R266: A BR step word branches always or on a step flag. -/
  | stepBr (e : Eng)
  /-- R266: A CALL step word pushes the return address and jumps. -/
  | stepCall (e : Eng)
  /-- R266: A RET step word pops the return address. -/
  | stepRet (e : Eng)
  /-- R266: A START step word issues a converter start request. -/
  | stepStart (e : Eng)
  /-- R266: An INJECT step word issues an injected request. -/
  | stepInject (e : Eng)
  /-- R266: An ADVANCE step word issues an advance request. -/
  | stepAdvance (e : Eng)
  /-- R266: A RING step word rings another engine's doorbell. -/
  | stepRing (e : Eng)
  /-- R266: A CLOCK step word loads module time or a tracker phase plus an offset into a register pair. -/
  | stepClock (e : Eng)
  /-- R270: A doorbell ring latches DB_PEND, starts a halted engine with DB_START, or is ignored when faulted. -/
  | doorbellRing (e : Eng)
  /-- R270: A write to STEP.DOORBELL rings the engines named in its bits. -/
  | stepDoorbellWrite (src : Src) (v : Word)
  /-- R271: A write of RUN starts a halted or faulted engine at ENTRY with an empty stack. -/
  | engineRun (src : Src) (e : Eng) (v : Word)
  /-- R271: A write of HALT halts a waiting engine at once or a running one after its word ends. -/
  | engineHalt (src : Src) (e : Eng) (v : Word)
  /-- R261: A write to STEP.FLAG_SET or FLAG_CLR sets or clears step flags. -/
  | stepFlagWrite (src : Src) (set : Bool) (v : Word)
  /-- R272: A write to step memory stores a step word, refused for 32-bit writes while any engine runs. -/
  | stepMemoryWrite (src : Src) (w : Fin 16384) (v : DWord) (half : Half)
  /-- R274: A STALE period passes without an evaluated record and counts as a violation. -/
  | monitorStale (m : Monitor)
  /-- R275: A write of 1 to a TRIPPED bit returns the monitor to NORMAL when its latest evaluation lay within limits. -/
  | trippedClear (src : Src) (w : Fin 4) (v : Word)
  /-- R279: A write to a monitor's registers is checked for validity and, after lock, for only tightening. -/
  | monitorWrite (src : Src) (m : Monitor) (reg : MonReg) (v : Word)
  /-- R278: A write of key 3Ch to LIMIT.LOCK locks the monitors and the watchdog fields. -/
  | limitLock (src : Src) (v : Word)
  /-- R281: S.SAFE_N low for at least 1 µs enters SAFE. -/
  | safePinLow
  /-- R281: A write of LIMIT.SAFE.ENTER enters SAFE. -/
  | safeEnterWrite (src : Src) (v : Word)
  /-- R282: A write of RELEASE ends SAFE when no cause persists. -/
  | safeRelease (src : Src) (v : Word)
  /-- R281: A W1C write to LIMIT.SAFE.CAUSE clears recorded cause bits. -/
  | safeCauseClear (src : Src) (v : Word)
  /-- R283: A write of key 96h to LIMIT.WDOG_KICK reloads the watchdog. -/
  | watchdogKick (src : Src) (v : Word)
  /-- R284: The watchdog expires, setting EXPIRED and acting with SAFE, engine faults or a module reset. -/
  | watchdogExpiry
  /-- R278: A write of LIMIT.WDOG sets timeout and action before lock or clears EXPIRED, reloading the watchdog. -/
  | wdogWrite (src : Src) (v : Word)
  /-- R289: A STEP.POL_CTRL START with OP 0 programs a policy slot from STEP.POL_DATA. -/
  | policyProgram (src : Src) (v : Word)
  /-- R289: A STEP.POL_CTRL START with OP 1 re-verifies a slot, records it active and writes the NV area. -/
  | policyActivate (src : Src) (v : Word)
  /-- R289: A STEP.POL_CTRL write of ABORT ends the policy operation with ABORTED. -/
  | policyAbort (src : Src) (v : Word)
  /-- R289: A STEP.POL_CTRL write of END_OF_SOURCE marks the end of the image. -/
  | policyEndOfSource (src : Src) (v : Word)
  /-- R289: A write to STEP.POL_DATA delivers the next four image bytes. -/
  | polDataWrite (src : Src) (v : Word)
  /-- R288: The programmed or activated image completes its checks, marking the slot valid or setting POL_ERR. -/
  | policyVerified
  /-- R295: A write to DAC.OUT.VALUE reaches the group 12 clocks later, updates the core and may end a hold. -/
  | dacValueWrite (src : Src) (g : Grp) (o : Out) (v : Word)
  /-- R301: A write to DAC.OUT.CFG sets source, gate and tolerance and starts a range change when RANGE changes. -/
  | dacCfgWrite (src : Src) (g : Grp) (o : Out) (v : Word)
  /-- R301: A range change proceeds through drive to zero, switching, applying contents and settling. -/
  | rangeChangeStep (g : Grp) (o : Out)
  /-- R297: A write to DAC.OUT.NV.NV_RANGE rewrites the NV area with a new CRC within 100 ms. -/
  | nvRangeWrite (src : Src) (g : Grp) (o : Out) (v : Word)
  /-- R304: A write of DDS APPLY checks and closes the DDS shadow set. -/
  | ddsApply (src : Src) (g : Grp) (e : DdsE) (v : Word)
  /-- R304: At the next conversion edge or the phase wrap the DDS set takes effect. -/
  | ddsHandover (g : Grp) (e : DdsE)
  /-- R305: A write of DDS CTRL.ENABLE clears the accumulator and starts the engine, or makes it present 8000h. -/
  | ddsEnableWrite (src : Src) (g : Grp) (e : DdsE) (v : Word)
  /-- R303: Every 128 system clocks the supervisor sends tracker phase and velocity to a FOLLOW engine. -/
  | ddsFollowUpdate (g : Grp) (e : DdsE)
  /-- R306: The group's monitor converter completes a 500 µs slot and reports one reading in MON.READ. -/
  | monitorReading (g : Grp) (x ovr : Computed)
  /-- R308: A write of 1 to RB_FAULT clears the read-back fault and ends that fault cause. -/
  | rbFaultClear (src : Src) (g : Grp) (o : Out) (v : Word)
  /-- R309: A DAC.SPARE write of REQ, or a CORE cause under REPAIR, hands an output to the spare core. -/
  | spareCoreReq (src : Src) (g : Grp) (v : Word)
  /-- R309: At the switching edge the amplifier input moves between the old core and the spare. -/
  | spareCoreSwitch (g : Grp)
  /-- R310: A DAC.SPARE write of RETURN reverses the spare core hand-over. -/
  | spareCoreReturn (src : Src) (g : Grp) (v : Word)
  /-- R316: A write to CMP.K.CFG configures a comparator and presets it at the enabling edge when ENABLE sets. -/
  | cmpCfgWrite (src : Src) (g : Grp) (k : Kmp) (v : Word)
  /-- R318: A write to CMP.K.THR or HYST takes effect at the first filter edge at least 1 µs after it reaches the group. -/
  | cmpThresholdWrite (src : Src) (g : Grp) (k : Kmp) (hyst : Bool) (v : Word)
  /-- R314: The comparator's raw level changes when the track crosses a switching point. -/
  | cmpRawChange (g : Grp) (k : Kmp) (x : Computed)
  /-- R315: At a filter edge the majority filter changes the filtered level F. -/
  | cmpFilterChange (g : Grp) (k : Kmp)
  /-- R326: A write to PIN CFG switches a pin's function at one pin-clock edge through the hold latch. -/
  | pinFuncWrite (src : Src) (g : Grp) (p : Pin) (v : Word)
  /-- R328: A write to PIN.OUT sets GPO levels that reach the pins at one pin-clock edge. -/
  | pinOutWrite (src : Src) (g : Grp) (v : Word)
  /-- R328: A write to PIN.OUT_SET sets GPO bits. -/
  | pinOutSet (src : Src) (g : Grp) (v : Word)
  /-- R328: A write to PIN.OUT_CLR clears GPO bits. -/
  | pinOutClr (src : Src) (g : Grp) (v : Word)
  /-- R328: A write to PIN.OUT_TGL toggles GPO bits. -/
  | pinOutTgl (src : Src) (g : Grp) (v : Word)
  /-- R329: A write to PIN.LOCK advances or restarts the lock sequence and locks the masked pins at its third step. -/
  | pinLockWrite (src : Src) (g : Grp) (v : Word)
  /-- R323: A FIELD switch in current limit for 100 µs or at thermal limit turns off, latches OVERLOAD and writes a fault-log entry. -/
  | fieldOverload (g : Grp) (p : GPin)
  /-- R323: Every 100 ms a switch still driven 1 retries, counting a failed retry in OVL_COUNT. -/
  | fieldRetry (g : Grp) (p : GPin) (failedAgain : Bool)
  /-- R324: A differential pair within ±150 mV for 50 ns enters fail-safe and latches FS. -/
  | pairFailsafe (g : Grp) (d : Dp)
  /-- R339: A write of CAL.GRP.CTRL.RUN starts a calibration run of one item. -/
  | calRun (src : Src) (g : Grp) (v : Word)
  /-- R340: The calibration controller starts a background run for an item that is due under CAL.HOURS. -/
  | calBackgroundStart (g : Grp) (cls : Fin 3) (target : Fin 16)
  /-- R341: A 14.8 ms calibration reading completes and is checked against the run's checks. -/
  | calReading (g : Grp) (value : Int) (ovr : Bool)
  /-- R343: A new field set is written and verified in flash. -/
  | calSetStored (g : Grp) (good : Bool)
  /-- R348: A write of CAL.GRP.CTRL.ABORT fails the run with ABORTED. -/
  | calAbort (src : Src) (g : Grp) (v : Word)
  /-- R350: A write of CTRL.FACTORY discards an item's field set so the factory set takes effect. -/
  | calFactory (src : Src) (g : Grp) (v : Word)
  /-- R338: A write to CAL.GRP.REF_DECL sets the declared external reference. -/
  | calRefDeclWrite (src : Src) (g : Grp) (v : Word)
  /-- R340: A whole operating hour passes and CAL.HOURS increments in flash. -/
  | calHoursTick
  /-- R352: While LOCKED, CAL.XTAL is updated from the mean RATE over the last 16 s. -/
  | xtalDeviationUpdate (mean : Computed)
  /-- R358: A write to a berth's PUSH port pushes a cell into the source's open packet. -/
  | harbourPush (src : Src) (b : Berth) (h : Half) (v : DWord)
  /-- R356: A write to PUSH_END pushes the end-mark cell and commits the packet. -/
  | harbourPushEnd (src : Src) (b : Berth) (h : Half) (v : DWord)
  /-- R358: A read of a berth's POP port pops one cell and reports its tag. -/
  | harbourPop (src : Src) (b : Berth) (h : Half) (ecc : Ecc)
  /-- R357: A read of PEEK returns the head cell without popping. -/
  | harbourPeek (src : Src) (b : Berth) (h : Half) (ecc : Ecc)
  /-- R367: A write to DROP_REST frees cells up to and including the next end mark. -/
  | dropRest (src : Src) (b : Berth) (v : Word)
  /-- R360: At the third edge of the other side's clock a push, commit or pop becomes visible and a popped cell returns to the pool. -/
  | pointerCrossing (b : Berth) (producer : Bool)
  /-- R363: As soon as room frees, a gap mark with the dropped count is committed and the pending count clears. -/
  | gapMarkWrite (b : Berth)
  /-- R359: Fabric delivery writes the head cell of a berth to the user register window and pops it at READY. -/
  | fabricDelivery (b : Berth) (ready : Computed)
  /-- R370: A write to HARB.B.CFG enables or disables a berth, emptying or freeing its cells. -/
  | berthCfgWrite (src : Src) (b : Berth) (v : Word)
  /-- R355: A write to HARB.B.SIZE sets capacity and reserve within the pool limit. -/
  | berthSizeWrite (src : Src) (b : Berth) (v : Word)
  /-- R369: A write to HARB.B.WATER sets the watermarks. -/
  | berthWaterWrite (src : Src) (b : Berth) (v : Word)
  /-- R386: A write of DMA CH.CTRL.START reads the descriptor at DESC and runs the chain. -/
  | dmaStart (src : Src) (c : Chan) (v : Word)
  /-- R388: A write of DMA CH.CTRL.ABORT stops issuing, drains and writes status ABORTED. -/
  | dmaAbort (src : Src) (c : Chan) (v : Word)
  /-- R388: The bus does not drain within 50 µs of an abort, so outstanding tags are abandoned with UNDRAINED. -/
  | dmaUndrained (c : Chan)
  /-- R389: A trigger from CH.CTRL, DMA.TRIGGER or the scheduler adds one to TRIG_PEND. -/
  | dmaTrigger (src : Src) (c : Chan)
  /-- R387: A write of DMA CH.RATE sets the token bucket from the next burst. -/
  | dmaRateWrite (src : Src) (c : Chan) (v : Word)
  /-- R379: The engine reads a descriptor in one burst and checks it, ending with BAD_DESC if invalid. -/
  | dmaDescriptorFetch (c : Chan) (words : List DWord)
  /-- R382: The engine issues one burst per clock for an eligible channel by priority and round-robin. -/
  | dmaBurstIssue
  /-- R382: A read burst returns or a write is acknowledged, freeing its tag. -/
  | dmaBurstComplete (tag : Fin 256) (ok : Bool) (data : List DWord)
  /-- R385: When every write is settled the STATUS word is written with residue and code. -/
  | dmaStatusWriteback (c : Chan) (ok : Bool)
  /-- R385: A read or write without an answer within 1 ms ends with TIMEOUT. -/
  | dmaTransactionTimeout (tag : Fin 256)
  /-- R397: A packet arrives at a port, is checked, acknowledged and executed or forwarded. -/
  | ringPacketReceive (port : Port) (words : List DWord)
  /-- R400: An ACK link word acknowledges packets up to its LSEQ. -/
  | ringAck (port : Port) (cls : RingCls) (lseq : BitVec 10)
  /-- R400: A NAK makes the transmitter resend from the first unacknowledged packet. -/
  | ringNak (port : Port) (cls : RingCls) (lseq : BitVec 10)
  /-- R400: No ACK within 2 µs makes the transmitter resend, and the eighth send of one packet takes the link down. -/
  | ringRetryTimeout (port : Port) (cls : RingCls)
  /-- R401: A request without completion 1 ms after issue completes with TIMEOUT. -/
  | ringRequestTimeout (tag : BitVec 16)
  /-- R405: A port loses block lock, pauses and retrains. -/
  | linkPause (port : Port)
  /-- R406: A pause exceeds 50 µs and the link goes down, turning packets back with RR. -/
  | linkDown (port : Port)
  /-- R395: A port finishes training at the widest width both ends pass. -/
  | linkTrained (port : Port) (width : Fin 8) (partner : BitVec 6)
  /-- R395: A lane fails and the link retrains narrower, setting DEGRADED. -/
  | laneFailRetrain (port : Port) (width : Fin 8)
  /-- R393: The bypass closes within 1 ms of the module's rails collapsing. -/
  | bypassClose
  /-- R394: Every 100 ms, and within 100 µs of a link change, the head sends a census. -/
  | censusSend
  /-- R394: The census returns and the head broadcasts the ring map, from which every module rebuilds COLYS.ROUTE. -/
  | ringMapBroadcast (order : List (BitVec 6)) (closed : Bool)
  /-- R402: A MAINT REG_READ reads one 32-bit supervisor register on the maintenance path. -/
  | regRead (origin : BitVec 6) (tag : BitVec 16) (off : BitVec 24)
  /-- R402: A MAINT LOG_READ returns one fault-log entry by its SEQ. -/
  | logRead (origin : BitVec 6) (tag : BitVec 16) (seq : Word)
  /-- R402: A MAINT SAFE packet enters SAFE with the ring cause. -/
  | maintSafe (origin : BitVec 6) (tag : BitVec 16)
  /-- R402: A MAINT REGION_RESET packet resets one region. -/
  | maintRegionReset (origin : BitVec 6) (tag : BitVec 16) (arg : Word)
  /-- R402: A MAINT CAPTURE packet starts a capture. -/
  | maintCapture (origin : BitVec 6) (tag : BitVec 16) (arg : Word)
  /-- R402: A MAINT MODULE_RESET packet with C3h sends its completion and resets the module. -/
  | maintModuleReset (origin : BitVec 6) (tag : BitVec 16) (arg : Word)
  /-- R402: A MAINT DMA_ABORT packet aborts a DMA channel and completes when the abort ends. -/
  | maintDmaAbort (origin : BitVec 6) (tag : BitVec 16) (arg : Word)
  /-- R403: A DELAY_REQ maintenance packet carries t1 for link delay measurement. -/
  | delayReq (port : Port) (t1 : BitVec 80)
  /-- R403: A DELAY_RESP returns t1, t2 and t3 and the requester computes the link delay. -/
  | delayResp (port : Port) (t1 : BitVec 80) (t2 : BitVec 80) (t3 : BitVec 80)
  /-- R394: A CENSUS packet passing a module has that module append its number. -/
  | census (port : Port) (members : List (BitVec 6))
  /-- R394: A MAP packet delivers the ring map to a module. -/
  | map (port : Port) (seq : BitVec 8) (head : BitVec 6) (order : List (BitVec 6)) (closed : Bool)
  /-- R404: A module's pending event mask changes, or a new map arrives, so it sends an EVENT packet to the head. -/
  | eventMaskChange
  /-- R404: The head applies an EVENT packet whose sequence number is newer and raises MSI-X messages for armed rising lines. -/
  | eventApply (m : BitVec 6) (mask : BitVec 48) (seq : BitVec 16)
  /-- R413: A write to COLYS.EVT_ACK re-arms a line and re-sends its message if still pending. -/
  | evtAck (src : Src) (v : Word)
  /-- R414: A write to COLYS.MNT_CMD issues a MAINT operation to a module. -/
  | mntCmd (src : Src) (v : Word)
  /-- R411: A host memory read or write at BAR0 is translated into a ring transaction to the module. -/
  | hostAccess (m : BitVec 6) (off : BitVec 24) (bytes : Nat) (write : Bool) (v : DWord)
  /-- R412: The head executes a ring READ or WRITE with SPACE HOST as PCI Express requests. -/
  | hostBusMaster (ok : Bool) (data : List DWord)
  /-- R412: A function level reset resets the endpoint and the event map and fails HOST packets in flight. -/
  | pcieFlr
  /-- R415: S.ETH receives a frame, handling PTP, ARP and ICMP echo and discarding and counting others. -/
  | ethFrameReceive (f : EthFrame)
  /-- R419: An event queues a fault-log entry, or counts a loss when the buffer is full. -/
  | logEntryQueue (kind : BitVec 16) (subject : BitVec 16) (parts : List (List Byte))
  /-- R419: A queued fault-log entry is committed to flash in SEQ order. -/
  | logEntryCommit
  /-- R420: A write to FAULT.LOG_SEL loads an entry into LOG_DATA and sets READY or MISSING. -/
  | logSelWrite (src : Src) (v : Word)
  /-- R424: A FAULT.GRP.CONV write of DECLARE with key A7h declares a converter failed. -/
  | convDeclare (src : Src) (g : Grp) (v : Word)
  /-- R424: A FAULT.GRP.CONV write of CLEAR with key A7h clears a converter's failure mark. -/
  | convClear (src : Src) (g : Grp) (v : Word)
  /-- R424: The group reports a decimator parity error and the converter is declared failed. -/
  | convDecimCheck (g : Grp) (n : Cv)
  /-- R425: An unserved failed converter has its work accounted with CONV_FAILED and its modulator stopped. -/
  | convUnserved (g : Grp) (n : Cv)
  /-- R427: The spare converter is promoted for a failed converter and takes its sequence at the next modulator edge. -/
  | sparePromotion (g : Grp)
  /-- R428: A FAULT.GRP.SPARE write of PROMOTE moves a healthy converter to the spare at its next entry boundary. -/
  | sparePromote (src : Src) (g : Grp) (v : Word)
  /-- R428: A FAULT.GRP.SPARE write of RETURN moves the converter back from the spare. -/
  | spareReturn (src : Src) (g : Grp) (v : Word)
  /-- R430: A FAULT.GRP.CORE write of CLEAR with key A7h clears CORE_FAILED of an output. -/
  | coreClear (src : Src) (g : Grp) (v : Word)
  /-- R431: A FAULT.RELOC_CTRL write of START checks and starts relocating a source region into a reserve. -/
  | relocStart (src : Src) (v : Word)
  /-- R434: A FAULT.RELOC_CTRL write of ABORT ends a relocation before the hand-over edge. -/
  | relocAbort (src : Src) (v : Word)
  /-- R432: Block RAM copying completes and the relocation waits for the hand-over edge. -/
  | relocCopyDone
  /-- R433: Copying has not ended 100 ms after start, failing the relocation with STALLED. -/
  | relocStalled
  /-- R432: At edge E of HCLK the state moves to the reserve and outbound crossings switch to it. -/
  | relocHandover
  /-- R432: 12 system clocks after E the source is held and retired and the replacement stored in flash. -/
  | relocRetire
  /-- R435: With AUTO_RELOC and REPAIR, a flagged region is relocated without a request, loading a reserve first if needed. -/
  | autoReloc (r : Reg)
  /-- R423: A FAULT.REGION_RESET write of RESET with key C3h resets a region's state in one system clock. -/
  | regionReset (src : Src) (v : Word)
  /-- R436: A FAULT.REGION_RESET write of UNRETIRE with key C3h records that the region is unretired at the next start. -/
  | unretire (src : Src) (v : Word)
  /-- R438: Every 10 µs each partner reads the other's PAIR_STATUS on the maintenance class. -/
  | pairHeartbeat (answer : Option PairAnswer)
  /-- R438: The active partner sends each output and pin write to the standby as an acknowledged write. -/
  | pairMirrorWrite (off : BitVec 24) (v : Word) (acked : Bool)
  /-- R439: At the first heartbeat answer, or after 10 ms of silence, a partner decides whether it is active or standby. -/
  | pairRoleDecide (answer : Option PairAnswer)
  /-- R441: A ready standby whose heartbeat fails for 100 µs becomes active and closes its gates. -/
  | takeover
  /-- R442: A FAULT.PAIR_CTRL write of SWAP, or REDUCED or PARKED on the active, starts a planned take-over. -/
  | pairSwap (src : Src) (v : Word)
  /-- R442: The standby reads YIELD and becomes active, closing its voltage-class gates. -/
  | pairYieldSeen
  /-- R30: A write to a register with no behaviour of its own stores its fields under their access codes in the order of sources. -/
  | registerWrite (src : Src) (off : BitVec 24) (v : Word)
  /-- R282: S.SAFE_N returns high, clearing LIMIT.SAFE.PIN so that a later RELEASE can end SAFE. -/
  | safePinHigh
  /-- R60: VIN falls back below the VIN_HIGH threshold and SYS.PWR.VIN_HIGH clears. -/
  | vinHighFall
  /-- R323: g.VFLD returns to 10.5 V or more, VFLD_OK sets and FIELD pins driven 1 start delivering current with NO_VFLD cleared. -/
  | vfldReturn (g : Grp)
  /-- R143: The current limiter of a current-mode input stops acting and LIMITING clears. -/
  | limiterExit (g : Grp) (ain : Ain)
  /-- R155: A cell output returns into range and leaves clip within 2 µs, clearing CLIP_NOW. -/
  | cellClipExit (g : Grp) (c : Cell)
  /-- R321: The input level of a general pin or differential pair changes, including a pair leaving fail-safe, updating PIN.LEVEL, FS_NOW and the fabric boundary source. -/
  | pinLevelChange (g : Grp) (p : Pin) (level : Option Bool)
  /-- R234: An ENCODER tracker that is LOST because a pair was in fail-safe sees both pairs valid for 1 ms and becomes LOCKED. -/
  | encoderValidLock (k : Trk)
  /-- R302: A DDS engine sample is clamped at a conversion-clock edge and STATUS.CLIP sets, raising the DDS interrupt. -/
  | ddsSampleClip (g : Grp) (e : DdsE)
  /-- R412: A PCI Express configuration request to the head's endpoint changes Bus Master Enable, the power state or MSI-X control. -/
  | pcieConfigWrite (w : PcieCfg)
  /-- R410: The head's PCI Express link trains up or goes down, changing LINK_UP, SPEED and WIDTH in COLYS.HOST.STATUS. -/
  | pcieLinkChange (up : Bool) (speed : Fin 4) (width : Fin 32)
  /-- R410: A fundamental reset through S.PERST_N, or a hot reset, resets the head's PCI Express endpoint. -/
  | pcieReset
  /-- R415: The S.ETH PHY link comes up or goes down, changing COLYS.ETH.STATUS.LINK_UP. -/
  | ethLinkChange (up : Bool) (mdix : Bool)
deriving DecidableEq, Repr

end Sys2Proof
end

