-- ==== Sys2Proof/Decode.lean ====
section
/-! DEFINITION. The command that a word of the command table spells. The table gives none of its rows any bits (every row's list of
fields is empty): the commands are register accesses, packets and events, not words. So no word spells a command. -/

namespace Sys2Proof

/-- The command that `w`, of `nbits` bits, spells by the table's bits: none, since the table gives its rows no bits. -/
def decodeTableWord (_nbits _w : Nat) : Option Instr := none

end Sys2Proof
end

