-- ==== Sys2Proof/Config.lean ====
section
/-! DEFINITION. What the spec leaves to another standard or to the analogue world, as constants without a body, and the
values that the hardware fixes. Nothing in Lean can evaluate the opaque ones: a claim that holds, holds whatever they are. -/

namespace Sys2Proof.Config

/-- A value the spec leaves open: the `n`-th such value of a run (assumption log entry 1). -/
opaque freeValue : Nat → BitVec 64

/-- R18: latency of a group link in each direction, in system clocks. -/
def linkClocks : Nat := 12

/-- R20: one system clock in units of 2^-32 ns before correction: 400,000 units of 2^-16 ns (R216). -/
def clockUnits : Nat := 400000 * 65536

/-- R334: point `k` (0 to 7) of the factory set of a group's item, for a path: temperature in 1/16 °C, offset code, gain, and
the third value (INTERNAL in µV, or CUNIT). The maker's measurement. Arguments: group, class × 16 + item, path, k. -/
opaque factoryTemp : Nat → Nat → Nat → Nat → BitVec 12
opaque factoryOffset : Nat → Nat → Nat → Nat → BitVec 24
opaque factoryGain : Nat → Nat → Nat → Nat → BitVec 32
opaque factoryAux : Nat → Nat → Nat → Nat → BitVec 32

/-- R137, R140: what an input pair has at a system clock: the voltage across it in volts, or in current mode the current through its
shunt in amperes. Arguments: group, input, system clock. -/
opaque inputVolts : Nat → Nat → Nat → ℚ
opaque inputAmps : Nat → Nat → Nat → ℚ

/-- R183: the voltage at an internal point of a group, in volts, before the scale of its node (TEMP in kelvin): g.REF+ to g.REF-, INTERNAL,
g.VA5, VAMP, g.VFLD, VDG. Arguments: group, node code, system clock. -/
opaque point : Nat → Nat → Nat → ℚ

/-- R300: the voltage at the pin of an output whose gate is open. Arguments: group, output, system clock. -/
opaque openPin : Nat → Nat → Nat → ℚ

/-- R138: what a take delivers whose node voltage lies outside the linear range of 2.6 V. -/
opaque beyondLinear : ℚ → ℚ

/-- R155: where in its tolerance of 0.1 V a cell's clipping level lies, in steps of 0.2 V / 65,535 from 2.7 V. Arguments: group, cell. -/
opaque clipTrim : Nat → Nat → BitVec 16

/-- R466: the code that a modulator's loop would give at a sample (group, modulator, sample number), and how far, as a fraction of FS,
the sum of its weights may stray from the sum of the node voltages. -/
opaque modulatorCode : Nat → Nat → Nat → BitVec 4
opaque modulatorSlack : ℚ

/-- R466: coefficient `k` (1 to 4) of the droop compensator, from its centre; the centre makes the sum of the nine 1. -/
opaque droop : Nat → ℚ

/-- R112, R113: a wire of the fabric that the spec gives no level: one on a loop without a flip-flop, or the carry that leaves
a unit without ARITH. Arguments: system clock, and the wire's kind, place and numbers. -/
opaque openWire : Nat → Nat → Nat → Nat → Nat → Bool

/-- R92: what the slots of one-time-programmable memory hold when the module comes, programmed to the customer's order: a P-256
public key, and the 32 bytes of an AES-256 key. -/
opaque signKey : Nat → Nat × Nat
opaque aesKey : Nat → List Byte

end Sys2Proof.Config
end

