-- ==== Sys2Proof/Machine/RegMap.lean ====
section
/-! DEFINITION. The register map of the module window: one name per register of the spec's register tables, its
offset, its index ranges, and its fields with their access codes (R12) and reset values.
R8: a register is 32 bits; R37 and R38 give the window layout; each block's own chapter gives its rows.
A mirror (read at + 800h) is a register of its own, named CELLM, CVM or DDSM.
A reset value that the spec takes from flash, OTP or straps stands here as the value assumption log entry 4 names. -/

namespace Sys2Proof.Machine

/-- The registers, by the spec's names with the dots and brackets dropped. -/
inductive RegName where
  | SYS_ID | SYS_INST | SYS_SERIAL_LO | SYS_SERIAL_HI | SYS_IRQ_LO | SYS_IRQ_HI
  | SYS_LOCKS | SYS_MODE | SYS_MODE_EFF | SYS_MODE_CHG | SYS_MODE_STAMP_LO | SYS_MODE_STAMP_HI
  | SYS_RESET | SYS_RST_CAUSE | SYS_PWR | SYS_START | SYS_RED_CELL0_LO | SYS_RED_CELL0_HI
  | SYS_RED_STAMP_LO | SYS_RED_STAMP_HI | CFG_ID | CFG_REV | CFG_CTRL | CFG_STATUS
  | CFG_ERR_INFO | CFG_BOOT | CFG_DATA | CFG_HOLD | CFG_RESERVE | CFG_RESERVE_LOADED
  | CFG_BUILD_ID | CFG_SCRUB | CFG_SCRUB_FLAG | CFG_FLASH | CFG_LIB_VALID | CFG_KEYS
  | CFG_KEY_REVOKE | CFG_REFUSED | TIME_NOW_LO | TIME_NOW_HI | TIME_NOW_FRAC | TIME_CTRL
  | TIME_STATE | TIME_OFFSET | TIME_RATE | TIME_STEP_LO | TIME_STEP_HI | TIME_LAST_STEP_LO
  | TIME_LAST_STEP_HI | TIME_STEP_STAMP_LO | TIME_STEP_STAMP_HI | TIME_EVENTS | TIME_PTP_CFG | TIME_PTP_STATUS
  | TIME_PTP_PARENT_LO | TIME_PTP_PARENT_HI | TIME_PTP_DELAY | TIME_RING | TIME_HOP_DELAY | TIME_PPS_CAP_LO
  | TIME_PPS_CAP_HI | TRK_CFG | TRK_CTRL | TRK_PER_CYCLE | TRK_TIMING | TRK_HOME_CFG
  | TRK_CARRIER | TRK_HOME_VALUE_LO | TRK_HOME_VALUE_HI | TRK_STATUS | TRK_PHASE_LO | TRK_PHASE_HI
  | TRK_VEL | TRK_JUMP_FROM_LO | TRK_JUMP_FROM_HI | TRK_JUMP_TO_LO | TRK_JUMP_TO_HI | TRK_JUMP_TIME_LO
  | TRK_JUMP_TIME_HI | TRK_JUMP_CAUSE | TRK_AMPL | TRK_COUNTS | TIDE_REFUSED | SCHED_CFG
  | SCHED_STATUS | SCHED_EVENTS | SCHED_RECORDS | SCHED_REFUSED | SCHED_TRK_HYST | SCHED_TRK_CFG
  | SCHED_TRK_EXTREME_LO | SCHED_TRK_EXTREME_HI | SCHED_REPEAT_LO | SCHED_REPEAT_HI | ENG_CTRL | ENG_ENTRY
  | ENG_STATUS | ENG_COUNTS | ENG_D | STEP_FLAG_SET | STEP_FLAG_CLR | STEP_DOORBELL
  | STEP_EVENTS | STEP_REFUSED | STEP_POL_CTRL | STEP_POL_STATUS | STEP_POL_DATA | STEP_POL_INFO
  | MON_CFG | MON_LO | MON_HI | MON_ACT | LIMIT_STAT | LIMIT_TRIPPED
  | LIMIT_LOCK | LIMIT_SAFE | LIMIT_WDOG | LIMIT_WDOG_KICK | LIMIT_REFUSED | CAL_CTRL
  | CAL_STATUS | CAL_REF_DECL | CAL_REF_READ | CAL_SPREAD | CAL_FAILS | CAL_VIEW_SEL
  | CAL_VIEW_OFS | CAL_VIEW_GAIN | CAL_VIEW_AUX | CAL_VIEW_TEMP | CAL_CFG | CAL_TOL
  | CAL_WINDOW | CAL_INTERVAL | CAL_XTAL | CAL_REFUSED | CAL_HOURS | HARB_CFG
  | HARB_SIZE | HARB_WATER | HARB_STATUS | HARB_C_LEVEL | HARB_P_LEVEL | HARB_PACKETS
  | HARB_GAP | HARB_COUNTS | HARB_LOSS | HARB_POOL | HARB_RESERVE | HARB_ECC
  | HARB_REFUSED | HARB_IRQ_SUM | DMA_CTRL | DMA_RATE | DMA_DESC_LO | DMA_DESC_HI
  | DMA_STATUS | DMA_LAST | DMA_COUNTS | DMA_REMAIN | DMA_TRIGGER_LO | DMA_TRIGGER_HI
  | DMA_TAGS | DMA_REFUSED | DMA_IRQ_SUM_LO | DMA_IRQ_SUM_HI | COLYS_ID | PORT_STATUS
  | PORT_ERRS | PORT_LINKS | COLYS_RING | COLYS_EVENTS | COLYS_EVT_EN_LO | COLYS_EVT_EN_HI
  | COLYS_EVT_PEND_LO | COLYS_EVT_PEND_HI | COLYS_REFUSED | COLYS_COUNTS | COLYS_ROUTE | HOST_CTRL
  | HOST_STATUS | HOST_ERRS | HOST_ERR_ADDR | MNT_CMD | MNT_ARG | MNT_STATUS
  | MNT_DATA | EVT_ACK | MNT_BUF | ETH_MAC_LO | ETH_MAC_HI | ETH_IP_ADDR
  | ETH_STATUS | EVT_STATE_LO | EVT_STATE_HI | COLYS_MAP | FAULT_STATUS | FAULT_EVENTS
  | FAULT_CFG | FAULT_REFUSED | FAULT_CONV | FAULT_SPARE | FAULT_CORE | RELOC_CTRL
  | RELOC_STATUS | FAULT_RETIRED | REGION_RESET | RELOC_LIB | LOG_NEWEST | LOG_OLDEST
  | LOG_SEL | LOG_STATUS | PAIR_CFG | PAIR_STATUS | PAIR_CTRL | PAIR_COUNTS
  | LOG_DATA | INP_CFG | INP_STATUS | INP_REFUSED | REF_CFG | REF_STATUS
  | CELL_CFG | CELL_IN | CELL_FB | CELL_PARAM | CELL_INIT | CELL_SC
  | CELL_CTL | CELL_STATUS | CELL_TRACK | CELL_SCK | CELL_COMMIT | CELL_SHADOW
  | CELL_CLIP_SUMMARY | CELLM_CFG | CELLM_IN | CELLM_FB | CELLM_PARAM | CELLM_INIT
  | CELLM_SC | CELLM_TRACK | CELLM_SCK | CV_CTRL | CV_STATUS | CV_SEQ
  | CV_SEQ_CTL | CV_SEQ_STATE | CV_PASSES | CV_ENTRY | CV_ENTRY_T | CV_INJ
  | CV_INJ_REQ | CV_COMMIT | CV_SHADOW | CV_RECORDS | CVM_SEQ | CVM_ENTRY
  | CVM_ENTRY_T | CV8_STATUS | MON_READ | MON_STATUS | DAC_CFG | DAC_VALUE
  | DAC_STATUS | DAC_NV | DAC_NV_CODES | DAC_SPARE | DAC_REFUSED | DDS_CTRL
  | DDS_FTW_LO | DDS_FTW_HI | DDS_AMP | DDS_PHASE | DDS_FOLLOW | DDS_RATIO
  | DDS_APPLY | DDS_STATUS | DDS_PHASE_NOW | DDSM_FTW_LO | DDSM_FTW_HI | DDSM_AMP
  | DDSM_PHASE | DDSM_FOLLOW | DDSM_RATIO | CMP_CFG | CMP_THR | CMP_HYST
  | CMP_STATUS | CMP_LEVELS | CMP_REFUSED | PIN_P_CFG | PIN_DP_CFG | PIN_OUT
  | PIN_OUT_SET | PIN_OUT_CLR | PIN_OUT_TGL | PIN_LEVEL | PIN_DRIVEN | PIN_STATE
  | PIN_FIELD | PIN_DP_STATUS | PIN_LOCK | PIN_LOCKED | PIN_REFUSED | FAB_CLK
  | FAB_TAP | FAB_TAP_STATUS | FAB_PORT | FAB_PORT_ERR | FAB_BRAM_ECC | FAB_BRAM_ECC_FLAG
  | FAB_CAP_CTRL | FAB_CAP_STATUS | FAB_CAP_STAMP_LO | FAB_CAP_STAMP_HI
deriving DecidableEq, Repr

/-- The access codes of R12. -/
inductive Access where
  | rw | ro | wo | w1c | w1s | w1t | rc | rwl | wc
deriving DecidableEq, Repr

/-- One field of a register: its lowest bit, its width, its access code and its reset value. -/
structure FieldRow where
  lo : Nat
  width : Nat
  acc : Access
  reset : Nat
deriving DecidableEq, Repr

/-- One row of the register map: the offset of its first instance, the number of instances and the stride of each
index (absent indices have one instance), and its fields. -/
structure RegRow where
  base : Nat
  n1 : Nat
  s1 : Nat
  n2 : Nat
  s2 : Nat
  n3 : Nat
  s3 : Nat
  fields : List FieldRow
deriving DecidableEq, Repr

/-- The map itself, in the order of the spec's chapters. -/
def RegName.row : RegName → RegRow
  -- spec chapter 01, R42
  | .SYS_ID => ⟨0x0, 1, 0x0, 1, 0x0, 1, 0x0, [⟨0, 16, .ro, 0x7264⟩, ⟨16, 16, .ro, 0x5356⟩]⟩
  | .SYS_INST => ⟨0x4, 1, 0x0, 1, 0x0, 1, 0x0, [⟨0, 6, .ro, 0⟩, ⟨6, 1, .ro, 0⟩, ⟨7, 1, .ro, 0⟩, ⟨8, 8, .ro, 2⟩]⟩
  | .SYS_SERIAL_LO => ⟨0x8, 1, 0x0, 1, 0x0, 1, 0x0, [⟨0, 32, .ro, 0⟩]⟩
  | .SYS_SERIAL_HI => ⟨0xC, 1, 0x0, 1, 0x0, 1, 0x0, [⟨0, 32, .ro, 0⟩]⟩
  | .SYS_IRQ_LO => ⟨0x10, 1, 0x0, 1, 0x0, 1, 0x0, [⟨0, 32, .ro, 0⟩]⟩
  | .SYS_IRQ_HI => ⟨0x14, 1, 0x0, 1, 0x0, 1, 0x0, [⟨0, 16, .ro, 0⟩]⟩
  | .SYS_LOCKS => ⟨0x18, 1, 0x0, 1, 0x0, 1, 0x0, [⟨0, 1, .ro, 0⟩, ⟨1, 4, .ro, 0⟩]⟩
  -- spec chapter 02, R44
  | .SYS_MODE => ⟨0x40, 1, 0x0, 1, 0x0, 1, 0x0, [⟨0, 1, .rw, 0⟩, ⟨1, 1, .rw, 0⟩, ⟨2, 1, .rw, 0⟩, ⟨3, 1, .rw, 0⟩, ⟨4, 1, .rw, 0⟩, ⟨5, 1, .rw, 0⟩, ⟨6, 1, .rw, 0⟩, ⟨7, 1, .rw, 0⟩]⟩
  | .SYS_MODE_EFF => ⟨0x44, 1, 0x0, 1, 0x0, 1, 0x0, [⟨0, 8, .ro, 8⟩, ⟨8, 8, .ro, 0⟩, ⟨16, 2, .ro, 0⟩, ⟨18, 1, .ro, 1⟩, ⟨19, 4, .ro, 1⟩]⟩
  | .SYS_MODE_CHG => ⟨0x48, 1, 0x0, 1, 0x0, 1, 0x0, [⟨0, 8, .w1c, 0⟩, ⟨8, 8, .rc, 0⟩]⟩
  | .SYS_MODE_STAMP_LO => ⟨0x4C, 1, 0x0, 1, 0x0, 1, 0x0, [⟨0, 32, .ro, 0⟩]⟩
  | .SYS_MODE_STAMP_HI => ⟨0x50, 1, 0x0, 1, 0x0, 1, 0x0, [⟨0, 32, .ro, 0⟩]⟩
  -- spec chapter 03, R80,R81
  | .SYS_RESET => ⟨0x80, 1, 0x0, 1, 0x0, 1, 0x0, [⟨0, 1, .wo, 0⟩, ⟨1, 1, .wo, 0⟩, ⟨4, 4, .wo, 0⟩, ⟨24, 8, .wo, 0⟩]⟩
  | .SYS_RST_CAUSE => ⟨0x84, 1, 0x0, 1, 0x0, 1, 0x0, [⟨0, 4, .ro, 0⟩, ⟨8, 4, .w1c, 0⟩, ⟨12, 1, .w1c, 0⟩]⟩
  | .SYS_PWR => ⟨0x88, 1, 0x0, 1, 0x0, 1, 0x0, [⟨0, 1, .ro, 1⟩, ⟨1, 1, .ro, 0⟩, ⟨2, 1, .w1c, 0⟩, ⟨8, 8, .rc, 0⟩, ⟨16, 4, .ro, 0⟩, ⟨20, 4, .ro, 0⟩, ⟨24, 4, .ro, 0⟩]⟩
  | .SYS_START => ⟨0x8C, 1, 0x0, 1, 0x0, 1, 0x0, [⟨0, 4, .ro, 1⟩, ⟨4, 1, .ro, 0⟩, ⟨5, 1, .ro, 0⟩, ⟨6, 1, .ro, 0⟩, ⟨16, 16, .ro, 0⟩]⟩
  -- spec chapter 02, R55
  | .SYS_RED_CELL0_LO => ⟨0x1000, 64, 0x10, 1, 0x0, 1, 0x0, [⟨0, 32, .ro, 0⟩]⟩
  | .SYS_RED_CELL0_HI => ⟨0x1004, 64, 0x10, 1, 0x0, 1, 0x0, [⟨0, 32, .ro, 0⟩]⟩
  | .SYS_RED_STAMP_LO => ⟨0x1008, 64, 0x10, 1, 0x0, 1, 0x0, [⟨0, 32, .ro, 0⟩]⟩
  | .SYS_RED_STAMP_HI => ⟨0x100C, 64, 0x10, 1, 0x0, 1, 0x0, [⟨0, 32, .ro, 0⟩]⟩
  -- spec chapter 04, R84-R110
  | .CFG_ID => ⟨0x10000, 1, 0x0, 1, 0x0, 1, 0x0, [⟨0, 16, .ro, 0x7264⟩, ⟨16, 16, .ro, 0x5356⟩]⟩
  | .CFG_REV => ⟨0x10004, 1, 0x0, 1, 0x0, 1, 0x0, [⟨0, 8, .ro, 2⟩, ⟨8, 8, .ro, 1⟩, ⟨16, 16, .ro, 6⟩]⟩
  | .CFG_CTRL => ⟨0x10010, 1, 0x0, 1, 0x0, 1, 0x0, [⟨0, 1, .wo, 0⟩, ⟨1, 1, .wo, 0⟩, ⟨2, 1, .wo, 0⟩, ⟨4, 2, .rw, 0⟩, ⟨6, 2, .rw, 0⟩, ⟨8, 5, .rw, 0⟩, ⟨13, 5, .rw, 0⟩, ⟨18, 2, .rw, 0⟩]⟩
  | .CFG_STATUS => ⟨0x10014, 1, 0x0, 1, 0x0, 1, 0x0, [⟨0, 3, .ro, 0⟩, ⟨3, 1, .w1c, 0⟩, ⟨4, 1, .w1c, 0⟩, ⟨5, 5, .ro, 0⟩, ⟨10, 5, .ro, 0⟩, ⟨15, 5, .ro, 0⟩, ⟨20, 1, .ro, 0⟩]⟩
  | .CFG_ERR_INFO => ⟨0x10018, 1, 0x0, 1, 0x0, 1, 0x0, [⟨0, 16, .ro, 0xFFFF⟩]⟩
  | .CFG_BOOT => ⟨0x1001C, 1, 0x0, 1, 0x0, 1, 0x0, [⟨0, 1, .rw, 0⟩, ⟨1, 1, .rw, 0⟩]⟩
  | .CFG_DATA => ⟨0x10020, 1, 0x0, 1, 0x0, 1, 0x0, [⟨0, 32, .wo, 0⟩]⟩
  | .CFG_HOLD => ⟨0x10024, 1, 0x0, 1, 0x0, 1, 0x0, [⟨0, 32, .rw, 0⟩]⟩
  | .CFG_RESERVE => ⟨0x10028, 1, 0x0, 1, 0x0, 1, 0x0, [⟨0, 32, .ro, 0⟩]⟩
  | .CFG_RESERVE_LOADED => ⟨0x1002C, 1, 0x0, 1, 0x0, 1, 0x0, [⟨0, 32, .ro, 0⟩]⟩
  | .CFG_BUILD_ID => ⟨0x10030, 1, 0x0, 1, 0x0, 1, 0x0, [⟨0, 32, .ro, 0⟩]⟩
  | .CFG_SCRUB => ⟨0x10034, 1, 0x0, 1, 0x0, 1, 0x0, [⟨0, 16, .ro, 0⟩, ⟨16, 8, .rc, 0⟩, ⟨24, 8, .rc, 0⟩]⟩
  | .CFG_SCRUB_FLAG => ⟨0x10038, 1, 0x0, 1, 0x0, 1, 0x0, [⟨0, 32, .w1c, 0⟩]⟩
  | .CFG_FLASH => ⟨0x1003C, 1, 0x0, 1, 0x0, 1, 0x0, [⟨0, 1, .ro, 0⟩, ⟨1, 1, .ro, 0⟩]⟩
  | .CFG_LIB_VALID => ⟨0x10040, 1, 0x0, 1, 0x0, 1, 0x0, [⟨0, 32, .ro, 0⟩]⟩
  | .CFG_KEYS => ⟨0x10044, 1, 0x0, 1, 0x0, 1, 0x0, [⟨0, 8, .ro, 0⟩, ⟨8, 8, .ro, 0⟩, ⟨16, 4, .ro, 0⟩]⟩
  | .CFG_KEY_REVOKE => ⟨0x10048, 1, 0x0, 1, 0x0, 1, 0x0, [⟨0, 3, .wo, 0⟩, ⟨24, 8, .wo, 0⟩]⟩
  | .CFG_REFUSED => ⟨0x1004C, 1, 0x0, 1, 0x0, 1, 0x0, [⟨0, 16, .rc, 0⟩]⟩
  -- spec chapter 09, R216-R227
  | .TIME_NOW_LO => ⟨0x20000, 1, 0x0, 1, 0x0, 1, 0x0, [⟨0, 32, .ro, 0⟩]⟩
  | .TIME_NOW_HI => ⟨0x20004, 1, 0x0, 1, 0x0, 1, 0x0, [⟨0, 32, .ro, 0⟩]⟩
  | .TIME_NOW_FRAC => ⟨0x20008, 1, 0x0, 1, 0x0, 1, 0x0, [⟨0, 16, .ro, 0⟩]⟩
  | .TIME_CTRL => ⟨0x20010, 1, 0x0, 1, 0x0, 1, 0x0, [⟨0, 1, .rw, 0⟩, ⟨1, 1, .rw, 1⟩, ⟨2, 2, .rw, 1⟩, ⟨16, 16, .rw, 0x3E8⟩]⟩
  | .TIME_STATE => ⟨0x20014, 1, 0x0, 1, 0x0, 1, 0x0, [⟨0, 2, .ro, 0⟩, ⟨2, 1, .ro, 0⟩, ⟨3, 1, .ro, 0⟩, ⟨4, 1, .ro, 0⟩, ⟨16, 16, .ro, 0⟩]⟩
  | .TIME_OFFSET => ⟨0x20018, 1, 0x0, 1, 0x0, 1, 0x0, [⟨0, 32, .ro, 0⟩]⟩
  | .TIME_RATE => ⟨0x2001C, 1, 0x0, 1, 0x0, 1, 0x0, [⟨0, 32, .rw, 0⟩]⟩
  | .TIME_STEP_LO => ⟨0x20020, 1, 0x0, 1, 0x0, 1, 0x0, [⟨0, 32, .wo, 0⟩]⟩
  | .TIME_STEP_HI => ⟨0x20024, 1, 0x0, 1, 0x0, 1, 0x0, [⟨0, 32, .wo, 0⟩]⟩
  | .TIME_LAST_STEP_LO => ⟨0x20028, 1, 0x0, 1, 0x0, 1, 0x0, [⟨0, 32, .ro, 0⟩]⟩
  | .TIME_LAST_STEP_HI => ⟨0x2002C, 1, 0x0, 1, 0x0, 1, 0x0, [⟨0, 32, .ro, 0⟩]⟩
  | .TIME_STEP_STAMP_LO => ⟨0x20030, 1, 0x0, 1, 0x0, 1, 0x0, [⟨0, 32, .ro, 0⟩]⟩
  | .TIME_STEP_STAMP_HI => ⟨0x20034, 1, 0x0, 1, 0x0, 1, 0x0, [⟨0, 32, .ro, 0⟩]⟩
  | .TIME_EVENTS => ⟨0x20038, 1, 0x0, 1, 0x0, 1, 0x0, [⟨0, 1, .w1c, 0⟩, ⟨1, 1, .w1c, 0⟩, ⟨2, 1, .w1c, 0⟩, ⟨3, 1, .w1c, 0⟩, ⟨4, 1, .w1c, 0⟩, ⟨8, 8, .rc, 0⟩]⟩
  | .TIME_PTP_CFG => ⟨0x20040, 1, 0x0, 1, 0x0, 1, 0x0, [⟨0, 7, .rw, 0⟩, ⟨8, 1, .rw, 0⟩, ⟨9, 1, .rw, 0⟩, ⟨12, 4, .rw, 3⟩]⟩
  | .TIME_PTP_STATUS => ⟨0x20044, 1, 0x0, 1, 0x0, 1, 0x0, [⟨0, 4, .ro, 1⟩, ⟨4, 1, .ro, 0⟩, ⟨8, 8, .ro, 0⟩]⟩
  | .TIME_PTP_PARENT_LO => ⟨0x20048, 1, 0x0, 1, 0x0, 1, 0x0, [⟨0, 32, .ro, 0⟩]⟩
  | .TIME_PTP_PARENT_HI => ⟨0x2004C, 1, 0x0, 1, 0x0, 1, 0x0, [⟨0, 32, .ro, 0⟩]⟩
  | .TIME_PTP_DELAY => ⟨0x20050, 1, 0x0, 1, 0x0, 1, 0x0, [⟨0, 32, .ro, 0⟩]⟩
  | .TIME_RING => ⟨0x20060, 1, 0x0, 1, 0x0, 1, 0x0, [⟨0, 8, .ro, 0⟩, ⟨8, 1, .ro, 0⟩]⟩
  | .TIME_HOP_DELAY => ⟨0x20064, 1, 0x0, 1, 0x0, 1, 0x0, [⟨0, 16, .ro, 0⟩, ⟨16, 16, .ro, 0⟩]⟩
  | .TIME_PPS_CAP_LO => ⟨0x20070, 1, 0x0, 1, 0x0, 1, 0x0, [⟨0, 32, .ro, 0⟩]⟩
  | .TIME_PPS_CAP_HI => ⟨0x20074, 1, 0x0, 1, 0x0, 1, 0x0, [⟨0, 32, .ro, 0⟩]⟩
  -- spec chapter 09, R228-R241
  | .TRK_CFG => ⟨0x30000, 4, 0x100, 1, 0x0, 1, 0x0, [⟨0, 3, .rw, 0⟩, ⟨3, 1, .rw, 0⟩, ⟨4, 1, .rw, 0⟩, ⟨8, 6, .rw, 0⟩, ⟨16, 6, .rw, 0⟩, ⟨24, 6, .rw, 0⟩, ⟨30, 1, .rw, 0⟩]⟩
  | .TRK_CTRL => ⟨0x30004, 4, 0x100, 1, 0x0, 1, 0x0, [⟨0, 1, .rw, 0⟩, ⟨1, 1, .wo, 0⟩, ⟨2, 1, .wo, 0⟩, ⟨3, 1, .wo, 0⟩]⟩
  | .TRK_PER_CYCLE => ⟨0x30008, 4, 0x100, 1, 0x0, 1, 0x0, [⟨0, 32, .rw, 1⟩]⟩
  | .TRK_TIMING => ⟨0x3000C, 4, 0x100, 1, 0x0, 1, 0x0, [⟨0, 16, .rw, 0x64⟩, ⟨16, 8, .rw, 0x10⟩, ⟨24, 8, .rw, 0x14⟩]⟩
  | .TRK_HOME_CFG => ⟨0x30010, 4, 0x100, 1, 0x0, 1, 0x0, [⟨0, 2, .rw, 0⟩, ⟨2, 6, .rw, 0⟩, ⟨8, 2, .rw, 3⟩, ⟨10, 1, .rw, 0⟩, ⟨11, 1, .rw, 0⟩, ⟨12, 1, .rw, 0⟩]⟩
  | .TRK_CARRIER => ⟨0x30014, 4, 0x100, 1, 0x0, 1, 0x0, [⟨0, 16, .rw, 0⟩]⟩
  | .TRK_HOME_VALUE_LO => ⟨0x30018, 4, 0x100, 1, 0x0, 1, 0x0, [⟨0, 32, .rw, 0⟩]⟩
  | .TRK_HOME_VALUE_HI => ⟨0x3001C, 4, 0x100, 1, 0x0, 1, 0x0, [⟨0, 32, .rw, 0⟩]⟩
  | .TRK_STATUS => ⟨0x30020, 4, 0x100, 1, 0x0, 1, 0x0, [⟨0, 3, .ro, 0⟩, ⟨3, 1, .ro, 0⟩, ⟨4, 1, .ro, 0⟩, ⟨5, 1, .ro, 0⟩, ⟨6, 1, .ro, 0⟩, ⟨7, 1, .ro, 0⟩, ⟨8, 1, .w1c, 0⟩, ⟨9, 1, .w1c, 0⟩, ⟨10, 1, .w1c, 0⟩, ⟨11, 1, .w1c, 0⟩, ⟨16, 8, .rc, 0⟩, ⟨24, 8, .rc, 0⟩]⟩
  | .TRK_PHASE_LO => ⟨0x30024, 4, 0x100, 1, 0x0, 1, 0x0, [⟨0, 32, .ro, 0⟩]⟩
  | .TRK_PHASE_HI => ⟨0x30028, 4, 0x100, 1, 0x0, 1, 0x0, [⟨0, 32, .ro, 0⟩]⟩
  | .TRK_VEL => ⟨0x3002C, 4, 0x100, 1, 0x0, 1, 0x0, [⟨0, 32, .ro, 0⟩]⟩
  | .TRK_JUMP_FROM_LO => ⟨0x30030, 4, 0x100, 1, 0x0, 1, 0x0, [⟨0, 32, .ro, 0⟩]⟩
  | .TRK_JUMP_FROM_HI => ⟨0x30034, 4, 0x100, 1, 0x0, 1, 0x0, [⟨0, 32, .ro, 0⟩]⟩
  | .TRK_JUMP_TO_LO => ⟨0x30038, 4, 0x100, 1, 0x0, 1, 0x0, [⟨0, 32, .ro, 0⟩]⟩
  | .TRK_JUMP_TO_HI => ⟨0x3003C, 4, 0x100, 1, 0x0, 1, 0x0, [⟨0, 32, .ro, 0⟩]⟩
  | .TRK_JUMP_TIME_LO => ⟨0x30040, 4, 0x100, 1, 0x0, 1, 0x0, [⟨0, 32, .ro, 0⟩]⟩
  | .TRK_JUMP_TIME_HI => ⟨0x30044, 4, 0x100, 1, 0x0, 1, 0x0, [⟨0, 32, .ro, 0⟩]⟩
  | .TRK_JUMP_CAUSE => ⟨0x30048, 4, 0x100, 1, 0x0, 1, 0x0, [⟨0, 3, .ro, 0⟩]⟩
  | .TRK_AMPL => ⟨0x3004C, 4, 0x100, 1, 0x0, 1, 0x0, [⟨0, 16, .ro, 0⟩]⟩
  | .TRK_COUNTS => ⟨0x30050, 4, 0x100, 1, 0x0, 1, 0x0, [⟨0, 16, .rc, 0⟩, ⟨16, 16, .rc, 0⟩]⟩
  | .TIDE_REFUSED => ⟨0x30F00, 1, 0x0, 1, 0x0, 1, 0x0, [⟨0, 16, .rc, 0⟩]⟩
  -- spec chapter 10, R242-R260
  | .SCHED_CFG => ⟨0x40000, 1, 0x0, 1, 0x0, 1, 0x0, [⟨0, 10, .rw, 0⟩]⟩
  | .SCHED_STATUS => ⟨0x40004, 1, 0x0, 1, 0x0, 1, 0x0, [⟨0, 15, .ro, 0⟩, ⟨16, 1, .ro, 0⟩, ⟨17, 1, .ro, 0⟩]⟩
  | .SCHED_EVENTS => ⟨0x40008, 1, 0x0, 1, 0x0, 1, 0x0, [⟨0, 1, .w1c, 0⟩, ⟨1, 1, .w1c, 0⟩, ⟨2, 1, .w1c, 0⟩, ⟨3, 1, .w1c, 0⟩, ⟨8, 8, .rc, 0⟩, ⟨16, 8, .rc, 0⟩, ⟨24, 8, .rc, 0⟩]⟩
  | .SCHED_RECORDS => ⟨0x4000C, 1, 0x0, 1, 0x0, 1, 0x0, [⟨0, 16, .ro, 0⟩, ⟨16, 16, .rc, 0⟩]⟩
  | .SCHED_REFUSED => ⟨0x40010, 1, 0x0, 1, 0x0, 1, 0x0, [⟨0, 16, .rc, 0⟩]⟩
  | .SCHED_TRK_HYST => ⟨0x40020, 4, 0x8, 1, 0x0, 1, 0x0, [⟨0, 32, .rw, 0⟩]⟩
  | .SCHED_TRK_CFG => ⟨0x40024, 4, 0x8, 1, 0x0, 1, 0x0, [⟨0, 1, .rw, 0⟩, ⟨1, 1, .ro, 0⟩, ⟨2, 1, .ro, 0⟩]⟩
  | .SCHED_TRK_EXTREME_LO => ⟨0x40040, 4, 0x8, 1, 0x0, 1, 0x0, [⟨0, 32, .ro, 0⟩]⟩
  | .SCHED_TRK_EXTREME_HI => ⟨0x40044, 4, 0x8, 1, 0x0, 1, 0x0, [⟨0, 32, .ro, 0⟩]⟩
  | .SCHED_REPEAT_LO => ⟨0x40100, 256, 0x8, 1, 0x0, 1, 0x0, [⟨0, 32, .rw, 0⟩]⟩
  | .SCHED_REPEAT_HI => ⟨0x40104, 256, 0x8, 1, 0x0, 1, 0x0, [⟨0, 32, .rw, 0⟩]⟩
  -- spec chapter 11, R261-R272
  | .ENG_CTRL => ⟨0x50000, 8, 0x80, 1, 0x0, 1, 0x0, [⟨0, 1, .wo, 0⟩, ⟨1, 1, .wo, 0⟩]⟩
  | .ENG_ENTRY => ⟨0x50004, 8, 0x80, 1, 0x0, 1, 0x0, [⟨0, 14, .rw, 0⟩, ⟨16, 1, .rw, 0⟩, ⟨17, 1, .rw, 0⟩]⟩
  | .ENG_STATUS => ⟨0x50008, 8, 0x80, 1, 0x0, 1, 0x0, [⟨0, 3, .ro, 0⟩, ⟨3, 1, .ro, 0⟩, ⟨4, 4, .ro, 0⟩, ⟨8, 5, .ro, 0⟩, ⟨16, 14, .ro, 0⟩]⟩
  | .ENG_COUNTS => ⟨0x5000C, 8, 0x80, 1, 0x0, 1, 0x0, [⟨0, 16, .rc, 0⟩, ⟨16, 16, .rc, 0⟩]⟩
  | .ENG_D => ⟨0x50040, 8, 0x80, 16, 0x4, 1, 0x0, [⟨0, 32, .rw, 0⟩]⟩
  | .STEP_FLAG_SET => ⟨0x50400, 1, 0x0, 1, 0x0, 1, 0x0, [⟨0, 32, .w1s, 0⟩]⟩
  | .STEP_FLAG_CLR => ⟨0x50404, 1, 0x0, 1, 0x0, 1, 0x0, [⟨0, 32, .w1c, 0⟩]⟩
  | .STEP_DOORBELL => ⟨0x50408, 1, 0x0, 1, 0x0, 1, 0x0, [⟨0, 8, .wo, 0⟩]⟩
  | .STEP_EVENTS => ⟨0x5040C, 1, 0x0, 1, 0x0, 1, 0x0, [⟨0, 8, .w1c, 0⟩, ⟨8, 8, .w1c, 0⟩]⟩
  | .STEP_REFUSED => ⟨0x50410, 1, 0x0, 1, 0x0, 1, 0x0, [⟨0, 16, .rc, 0⟩]⟩
  -- spec chapter 11, R286-R290
  | .STEP_POL_CTRL => ⟨0x50500, 1, 0x0, 1, 0x0, 1, 0x0, [⟨0, 1, .wo, 0⟩, ⟨1, 1, .wo, 0⟩, ⟨2, 1, .wo, 0⟩, ⟨4, 2, .rw, 0⟩, ⟨6, 1, .rw, 0⟩]⟩
  | .STEP_POL_STATUS => ⟨0x50504, 1, 0x0, 1, 0x0, 1, 0x0, [⟨0, 3, .ro, 0⟩, ⟨3, 1, .w1c, 0⟩, ⟨4, 1, .w1c, 0⟩, ⟨5, 5, .ro, 0⟩, ⟨10, 1, .ro, 0⟩, ⟨11, 1, .ro, 0⟩, ⟨12, 2, .ro, 0⟩, ⟨16, 16, .rc, 0⟩]⟩
  | .STEP_POL_DATA => ⟨0x50508, 1, 0x0, 1, 0x0, 1, 0x0, [⟨0, 32, .wo, 0⟩]⟩
  | .STEP_POL_INFO => ⟨0x5050C, 1, 0x0, 1, 0x0, 1, 0x0, [⟨0, 32, .ro, 0⟩]⟩
  -- spec chapter 11, R273-R285
  | .MON_CFG => ⟨0x60000, 128, 0x10, 1, 0x0, 1, 0x0, [⟨0, 1, .rw, 0⟩, ⟨1, 1, .rw, 0⟩, ⟨2, 6, .rw, 0⟩, ⟨8, 8, .rw, 0⟩, ⟨16, 4, .rw, 0⟩, ⟨20, 1, .rw, 0⟩, ⟨21, 1, .rw, 0⟩, ⟨22, 1, .rw, 0⟩, ⟨24, 8, .rw, 0⟩]⟩
  | .MON_LO => ⟨0x60004, 128, 0x10, 1, 0x0, 1, 0x0, [⟨0, 24, .rw, 0x800000⟩]⟩
  | .MON_HI => ⟨0x60008, 128, 0x10, 1, 0x0, 1, 0x0, [⟨0, 24, .rw, 0x7FFFFF⟩]⟩
  | .MON_ACT => ⟨0x6000C, 128, 0x10, 1, 0x0, 1, 0x0, [⟨0, 1, .rw, 0⟩, ⟨1, 1, .rw, 0⟩, ⟨2, 2, .rw, 0⟩, ⟨4, 8, .rw, 0⟩, ⟨12, 1, .rw, 0⟩, ⟨13, 3, .rw, 0⟩]⟩
  | .LIMIT_STAT => ⟨0x60800, 128, 0x4, 1, 0x0, 1, 0x0, [⟨0, 2, .ro, 0⟩, ⟨2, 1, .ro, 0⟩, ⟨8, 8, .ro, 0⟩, ⟨16, 8, .rc, 0⟩]⟩
  | .LIMIT_TRIPPED => ⟨0x60A00, 4, 0x4, 1, 0x0, 1, 0x0, [⟨0, 32, .w1c, 0⟩]⟩
  | .LIMIT_LOCK => ⟨0x60B00, 1, 0x0, 1, 0x0, 1, 0x0, [⟨0, 1, .ro, 0⟩, ⟨24, 8, .wo, 0⟩]⟩
  | .LIMIT_SAFE => ⟨0x60B04, 1, 0x0, 1, 0x0, 1, 0x0, [⟨0, 1, .ro, 0⟩, ⟨1, 1, .ro, 0⟩, ⟨2, 1, .wo, 0⟩, ⟨3, 1, .wo, 0⟩, ⟨4, 5, .w1c, 0⟩]⟩
  | .LIMIT_WDOG => ⟨0x60B08, 1, 0x0, 1, 0x0, 1, 0x0, [⟨0, 16, .rwl, 0⟩, ⟨16, 2, .rwl, 0⟩, ⟨18, 1, .w1c, 0⟩]⟩
  | .LIMIT_WDOG_KICK => ⟨0x60B0C, 1, 0x0, 1, 0x0, 1, 0x0, [⟨0, 8, .wo, 0⟩]⟩
  | .LIMIT_REFUSED => ⟨0x60B10, 1, 0x0, 1, 0x0, 1, 0x0, [⟨0, 16, .rc, 0⟩]⟩
  -- spec chapter 14, R334-R353
  | .CAL_CTRL => ⟨0x70000, 4, 0x100, 1, 0x0, 1, 0x0, [⟨0, 1, .wo, 0⟩, ⟨1, 1, .wo, 0⟩, ⟨2, 1, .wo, 0⟩, ⟨4, 2, .rw, 0⟩, ⟨6, 4, .rw, 0⟩]⟩
  | .CAL_STATUS => ⟨0x70004, 4, 0x100, 1, 0x0, 1, 0x0, [⟨0, 3, .ro, 0⟩, ⟨3, 1, .w1c, 0⟩, ⟨4, 1, .w1c, 0⟩, ⟨5, 5, .ro, 0⟩, ⟨10, 1, .ro, 0⟩, ⟨11, 1, .ro, 0⟩, ⟨16, 2, .ro, 0⟩, ⟨18, 4, .ro, 0⟩]⟩
  | .CAL_REF_DECL => ⟨0x70008, 4, 0x100, 1, 0x0, 1, 0x0, [⟨0, 23, .rw, 0⟩]⟩
  | .CAL_REF_READ => ⟨0x7000C, 4, 0x100, 1, 0x0, 1, 0x0, [⟨0, 23, .ro, 0⟩]⟩
  | .CAL_SPREAD => ⟨0x70010, 4, 0x100, 1, 0x0, 1, 0x0, [⟨0, 16, .ro, 0⟩, ⟨16, 16, .ro, 0⟩]⟩
  | .CAL_FAILS => ⟨0x70018, 4, 0x100, 1, 0x0, 1, 0x0, [⟨0, 8, .w1c, 0⟩, ⟨8, 8, .w1c, 0⟩]⟩
  | .CAL_VIEW_SEL => ⟨0x70020, 4, 0x100, 1, 0x0, 1, 0x0, [⟨0, 2, .rw, 0⟩, ⟨2, 4, .rw, 0⟩, ⟨6, 6, .rw, 0⟩, ⟨12, 1, .rw, 0⟩]⟩
  | .CAL_VIEW_OFS => ⟨0x70024, 4, 0x100, 1, 0x0, 1, 0x0, [⟨0, 24, .ro, 0⟩]⟩
  | .CAL_VIEW_GAIN => ⟨0x70028, 4, 0x100, 1, 0x0, 1, 0x0, [⟨0, 32, .ro, 0⟩]⟩
  | .CAL_VIEW_AUX => ⟨0x7002C, 4, 0x100, 1, 0x0, 1, 0x0, [⟨0, 32, .ro, 0⟩]⟩
  | .CAL_VIEW_TEMP => ⟨0x70030, 4, 0x100, 1, 0x0, 1, 0x0, [⟨0, 16, .ro, 0⟩, ⟨16, 4, .ro, 0⟩, ⟨20, 1, .ro, 0⟩]⟩
  | .CAL_CFG => ⟨0x70400, 1, 0x0, 1, 0x0, 1, 0x0, [⟨0, 4, .rw, 2⟩, ⟨8, 3, .rw, 0⟩]⟩
  | .CAL_TOL => ⟨0x70404, 1, 0x0, 1, 0x0, 1, 0x0, [⟨0, 16, .rw, 0x14⟩, ⟨16, 16, .rw, 0x32⟩]⟩
  | .CAL_WINDOW => ⟨0x70408, 1, 0x0, 1, 0x0, 1, 0x0, [⟨0, 16, .rw, 0x32⟩]⟩
  | .CAL_INTERVAL => ⟨0x7040C, 1, 0x0, 1, 0x0, 1, 0x0, [⟨0, 32, .rw, 0⟩]⟩
  | .CAL_XTAL => ⟨0x70410, 1, 0x0, 1, 0x0, 1, 0x0, [⟨0, 24, .ro, 0⟩, ⟨31, 1, .ro, 0⟩]⟩
  | .CAL_REFUSED => ⟨0x70414, 1, 0x0, 1, 0x0, 1, 0x0, [⟨0, 16, .rc, 0⟩]⟩
  | .CAL_HOURS => ⟨0x70418, 1, 0x0, 1, 0x0, 1, 0x0, [⟨0, 32, .ro, 0⟩]⟩
  -- spec chapter 15, R354-R373
  | .HARB_CFG => ⟨0x80000, 1024, 0x10, 1, 0x0, 1, 0x0, [⟨0, 1, .rw, 0⟩, ⟨1, 1, .rw, 0⟩, ⟨2, 2, .rw, 0⟩, ⟨4, 2, .rw, 0⟩, ⟨8, 5, .rw, 0⟩, ⟨16, 16, .rw, 0⟩]⟩
  | .HARB_SIZE => ⟨0x80004, 1024, 0x10, 1, 0x0, 1, 0x0, [⟨0, 16, .rw, 1⟩, ⟨16, 16, .rw, 0⟩]⟩
  | .HARB_WATER => ⟨0x80008, 1024, 0x10, 1, 0x0, 1, 0x0, [⟨0, 16, .rw, 1⟩, ⟨16, 16, .rw, 0⟩]⟩
  | .HARB_STATUS => ⟨0x84000, 1024, 0x20, 1, 0x0, 1, 0x0, [⟨0, 1, .ro, 0⟩, ⟨1, 1, .ro, 0⟩, ⟨2, 1, .ro, 0⟩, ⟨3, 1, .ro, 0⟩, ⟨4, 1, .w1c, 0⟩, ⟨5, 1, .w1c, 0⟩, ⟨6, 1, .w1c, 0⟩, ⟨7, 1, .w1c, 0⟩, ⟨8, 1, .ro, 0⟩, ⟨9, 1, .w1c, 0⟩, ⟨10, 1, .w1c, 0⟩, ⟨11, 1, .ro, 0⟩, ⟨16, 8, .rc, 0⟩, ⟨24, 8, .rc, 0⟩]⟩
  | .HARB_C_LEVEL => ⟨0x84004, 1024, 0x20, 1, 0x0, 1, 0x0, [⟨0, 17, .ro, 0⟩]⟩
  | .HARB_P_LEVEL => ⟨0x84008, 1024, 0x20, 1, 0x0, 1, 0x0, [⟨0, 17, .ro, 0⟩]⟩
  | .HARB_PACKETS => ⟨0x8400C, 1024, 0x20, 1, 0x0, 1, 0x0, [⟨0, 17, .ro, 0⟩]⟩
  | .HARB_GAP => ⟨0x84010, 1024, 0x20, 1, 0x0, 1, 0x0, [⟨0, 32, .ro, 0⟩]⟩
  | .HARB_COUNTS => ⟨0x84014, 1024, 0x20, 1, 0x0, 1, 0x0, [⟨0, 16, .rc, 0⟩, ⟨16, 16, .rc, 0⟩]⟩
  | .HARB_LOSS => ⟨0x84018, 1024, 0x20, 1, 0x0, 1, 0x0, [⟨0, 16, .rc, 0⟩, ⟨16, 16, .rc, 0⟩]⟩
  | .HARB_POOL => ⟨0x8C000, 1, 0x0, 1, 0x0, 1, 0x0, [⟨0, 19, .ro, 0x40000⟩]⟩
  | .HARB_RESERVE => ⟨0x8C004, 1, 0x0, 1, 0x0, 1, 0x0, [⟨0, 19, .ro, 0⟩]⟩
  | .HARB_ECC => ⟨0x8C008, 1, 0x0, 1, 0x0, 1, 0x0, [⟨0, 16, .rc, 0⟩, ⟨16, 16, .rc, 0⟩]⟩
  | .HARB_REFUSED => ⟨0x8C00C, 1, 0x0, 1, 0x0, 1, 0x0, [⟨0, 16, .rc, 0⟩]⟩
  | .HARB_IRQ_SUM => ⟨0x8C100, 32, 0x4, 1, 0x0, 1, 0x0, [⟨0, 32, .ro, 0⟩]⟩
  -- spec chapter 16, R374-R391
  | .DMA_CTRL => ⟨0x90000, 64, 0x40, 1, 0x0, 1, 0x0, [⟨0, 1, .wo, 0⟩, ⟨1, 1, .wo, 0⟩, ⟨2, 1, .wo, 0⟩, ⟨8, 1, .rw, 0⟩, ⟨9, 1, .rw, 0⟩, ⟨10, 6, .rw, 8⟩]⟩
  | .DMA_RATE => ⟨0x90004, 64, 0x40, 1, 0x0, 1, 0x0, [⟨0, 9, .rw, 0⟩, ⟨16, 5, .rw, 0x10⟩]⟩
  | .DMA_DESC_LO => ⟨0x90008, 64, 0x40, 1, 0x0, 1, 0x0, [⟨0, 32, .rw, 0⟩]⟩
  | .DMA_DESC_HI => ⟨0x9000C, 64, 0x40, 1, 0x0, 1, 0x0, [⟨0, 32, .rw, 0⟩]⟩
  | .DMA_STATUS => ⟨0x90010, 64, 0x40, 1, 0x0, 1, 0x0, [⟨0, 3, .ro, 0⟩, ⟨3, 1, .w1c, 0⟩, ⟨4, 1, .w1c, 0⟩, ⟨5, 1, .w1c, 0⟩, ⟨6, 1, .w1c, 0⟩, ⟨7, 1, .ro, 0⟩, ⟨8, 1, .w1c, 0⟩, ⟨16, 8, .ro, 0⟩, ⟨24, 8, .ro, 0⟩]⟩
  | .DMA_LAST => ⟨0x90014, 64, 0x40, 1, 0x0, 1, 0x0, [⟨0, 32, .ro, 0⟩]⟩
  | .DMA_COUNTS => ⟨0x90018, 64, 0x40, 1, 0x0, 1, 0x0, [⟨0, 16, .rc, 0⟩, ⟨16, 16, .rc, 0⟩]⟩
  | .DMA_REMAIN => ⟨0x9001C, 64, 0x40, 1, 0x0, 1, 0x0, [⟨0, 20, .ro, 0⟩]⟩
  | .DMA_TRIGGER_LO => ⟨0x91000, 1, 0x0, 1, 0x0, 1, 0x0, [⟨0, 32, .wo, 0⟩]⟩
  | .DMA_TRIGGER_HI => ⟨0x91004, 1, 0x0, 1, 0x0, 1, 0x0, [⟨0, 32, .wo, 0⟩]⟩
  | .DMA_TAGS => ⟨0x91008, 1, 0x0, 1, 0x0, 1, 0x0, [⟨0, 9, .ro, 0⟩]⟩
  | .DMA_REFUSED => ⟨0x9100C, 1, 0x0, 1, 0x0, 1, 0x0, [⟨0, 16, .rc, 0⟩]⟩
  | .DMA_IRQ_SUM_LO => ⟨0x91010, 1, 0x0, 1, 0x0, 1, 0x0, [⟨0, 32, .ro, 0⟩]⟩
  | .DMA_IRQ_SUM_HI => ⟨0x91014, 1, 0x0, 1, 0x0, 1, 0x0, [⟨0, 32, .ro, 0⟩]⟩
  -- spec chapter 17, R392-R416
  | .COLYS_ID => ⟨0xA0000, 1, 0x0, 1, 0x0, 1, 0x0, [⟨0, 6, .ro, 0⟩, ⟨6, 1, .ro, 0⟩, ⟨7, 1, .ro, 0⟩, ⟨8, 1, .ro, 0⟩]⟩
  | .PORT_STATUS => ⟨0xA0010, 2, 0x10, 1, 0x0, 1, 0x0, [⟨0, 3, .ro, 0⟩, ⟨3, 3, .ro, 0⟩, ⟨6, 1, .w1c, 0⟩, ⟨8, 6, .ro, 0⟩, ⟨14, 1, .ro, 0⟩]⟩
  | .PORT_ERRS => ⟨0xA0014, 2, 0x10, 1, 0x0, 1, 0x0, [⟨0, 16, .rc, 0⟩, ⟨16, 16, .rc, 0⟩]⟩
  | .PORT_LINKS => ⟨0xA0018, 2, 0x10, 1, 0x0, 1, 0x0, [⟨0, 8, .rc, 0⟩, ⟨8, 8, .rc, 0⟩]⟩
  | .COLYS_RING => ⟨0xA0040, 1, 0x0, 1, 0x0, 1, 0x0, [⟨0, 7, .ro, 0⟩, ⟨7, 1, .ro, 0⟩, ⟨8, 6, .ro, 0⟩, ⟨14, 1, .ro, 0⟩, ⟨16, 8, .ro, 0⟩]⟩
  | .COLYS_EVENTS => ⟨0xA0044, 1, 0x0, 1, 0x0, 1, 0x0, [⟨0, 1, .w1c, 0⟩, ⟨1, 1, .w1c, 0⟩, ⟨2, 1, .w1c, 0⟩, ⟨3, 1, .w1c, 0⟩, ⟨4, 1, .w1c, 0⟩, ⟨5, 1, .w1c, 0⟩]⟩
  | .COLYS_EVT_EN_LO => ⟨0xA0048, 1, 0x0, 1, 0x0, 1, 0x0, [⟨0, 13, .rw, 0x1FFF⟩, ⟨16, 6, .rw, 0x3F⟩, ⟨24, 6, .rw, 0x3F⟩]⟩
  | .COLYS_EVT_EN_HI => ⟨0xA004C, 1, 0x0, 1, 0x0, 1, 0x0, [⟨0, 6, .rw, 0x3F⟩, ⟨8, 6, .rw, 0x3F⟩]⟩
  | .COLYS_EVT_PEND_LO => ⟨0xA0050, 1, 0x0, 1, 0x0, 1, 0x0, [⟨0, 32, .ro, 0⟩]⟩
  | .COLYS_EVT_PEND_HI => ⟨0xA0054, 1, 0x0, 1, 0x0, 1, 0x0, [⟨0, 16, .ro, 0⟩]⟩
  | .COLYS_REFUSED => ⟨0xA0058, 1, 0x0, 1, 0x0, 1, 0x0, [⟨0, 16, .rc, 0⟩]⟩
  | .COLYS_COUNTS => ⟨0xA005C, 1, 0x0, 1, 0x0, 1, 0x0, [⟨0, 16, .rc, 0⟩, ⟨16, 16, .rc, 0⟩]⟩
  | .COLYS_ROUTE => ⟨0xA0100, 64, 0x4, 1, 0x0, 1, 0x0, [⟨0, 1, .ro, 0⟩, ⟨1, 1, .ro, 0⟩, ⟨2, 6, .ro, 0⟩]⟩
  | .HOST_CTRL => ⟨0xA1000, 1, 0x0, 1, 0x0, 1, 0x0, [⟨0, 1, .rw, 0⟩]⟩
  | .HOST_STATUS => ⟨0xA1004, 1, 0x0, 1, 0x0, 1, 0x0, [⟨0, 2, .ro, 0⟩, ⟨3, 5, .ro, 0⟩, ⟨8, 1, .ro, 0⟩, ⟨9, 1, .ro, 0⟩, ⟨10, 1, .ro, 0⟩]⟩
  | .HOST_ERRS => ⟨0xA1008, 1, 0x0, 1, 0x0, 1, 0x0, [⟨0, 16, .rc, 0⟩, ⟨16, 16, .rc, 0⟩]⟩
  | .HOST_ERR_ADDR => ⟨0xA100C, 1, 0x0, 1, 0x0, 1, 0x0, [⟨0, 30, .ro, 0⟩, ⟨30, 2, .ro, 0⟩]⟩
  | .MNT_CMD => ⟨0xA1010, 1, 0x0, 1, 0x0, 1, 0x0, [⟨0, 6, .wo, 0⟩, ⟨8, 8, .wo, 0⟩]⟩
  | .MNT_ARG => ⟨0xA1014, 1, 0x0, 1, 0x0, 1, 0x0, [⟨0, 32, .rw, 0⟩]⟩
  | .MNT_STATUS => ⟨0xA1018, 1, 0x0, 1, 0x0, 1, 0x0, [⟨0, 1, .ro, 0⟩, ⟨1, 3, .ro, 0⟩]⟩
  | .MNT_DATA => ⟨0xA101C, 1, 0x0, 1, 0x0, 1, 0x0, [⟨0, 32, .ro, 0⟩]⟩
  | .EVT_ACK => ⟨0xA1020, 1, 0x0, 1, 0x0, 1, 0x0, [⟨0, 6, .wo, 0⟩, ⟨8, 6, .wo, 0⟩]⟩
  | .MNT_BUF => ⟨0xA1100, 32, 0x4, 1, 0x0, 1, 0x0, [⟨0, 32, .ro, 0⟩]⟩
  | .ETH_MAC_LO => ⟨0xA1200, 1, 0x0, 1, 0x0, 1, 0x0, [⟨0, 32, .ro, 0⟩]⟩
  | .ETH_MAC_HI => ⟨0xA1204, 1, 0x0, 1, 0x0, 1, 0x0, [⟨0, 16, .ro, 0⟩]⟩
  | .ETH_IP_ADDR => ⟨0xA1208, 1, 0x0, 1, 0x0, 1, 0x0, [⟨0, 32, .rw, 0⟩]⟩
  | .ETH_STATUS => ⟨0xA120C, 1, 0x0, 1, 0x0, 1, 0x0, [⟨0, 1, .ro, 0⟩, ⟨1, 1, .ro, 0⟩, ⟨16, 16, .rc, 0⟩]⟩
  | .EVT_STATE_LO => ⟨0xA2000, 64, 0x8, 1, 0x0, 1, 0x0, [⟨0, 32, .ro, 0⟩]⟩
  | .EVT_STATE_HI => ⟨0xA2004, 64, 0x8, 1, 0x0, 1, 0x0, [⟨0, 16, .ro, 0⟩]⟩
  | .COLYS_MAP => ⟨0xA4000, 64, 0xC0, 48, 0x4, 1, 0x0, [⟨0, 8, .rw, 0⟩, ⟨8, 1, .rw, 0⟩, ⟨9, 1, .ro, 1⟩]⟩
  -- spec chapter 18, R417-R446
  | .FAULT_STATUS => ⟨0xB0000, 1, 0x0, 1, 0x0, 1, 0x0, [⟨0, 1, .ro, 0⟩, ⟨16, 8, .ro, 0⟩]⟩
  | .FAULT_EVENTS => ⟨0xB0004, 1, 0x0, 1, 0x0, 1, 0x0, [⟨0, 1, .w1c, 0⟩, ⟨1, 1, .w1c, 0⟩, ⟨2, 1, .w1c, 0⟩, ⟨3, 1, .w1c, 0⟩, ⟨4, 1, .w1c, 0⟩, ⟨5, 1, .w1c, 0⟩, ⟨6, 1, .w1c, 0⟩, ⟨7, 1, .w1c, 0⟩, ⟨8, 1, .w1c, 0⟩]⟩
  | .FAULT_CFG => ⟨0xB0008, 1, 0x0, 1, 0x0, 1, 0x0, [⟨0, 1, .rw, 0⟩]⟩
  | .FAULT_REFUSED => ⟨0xB000C, 1, 0x0, 1, 0x0, 1, 0x0, [⟨0, 16, .rc, 0⟩]⟩
  | .FAULT_CONV => ⟨0xB0010, 4, 0x10, 1, 0x0, 1, 0x0, [⟨0, 8, .ro, 0⟩, ⟨8, 8, .wo, 0⟩, ⟨16, 8, .wo, 0⟩, ⟨24, 8, .wo, 0⟩]⟩
  | .FAULT_SPARE => ⟨0xB0014, 4, 0x10, 1, 0x0, 1, 0x0, [⟨0, 3, .rw, 0⟩, ⟨8, 1, .wo, 0⟩, ⟨9, 1, .wo, 0⟩, ⟨10, 1, .ro, 0⟩]⟩
  | .FAULT_CORE => ⟨0xB0018, 4, 0x10, 1, 0x0, 1, 0x0, [⟨0, 8, .ro, 0⟩, ⟨8, 8, .wo, 0⟩, ⟨24, 8, .wo, 0⟩]⟩
  | .RELOC_CTRL => ⟨0xB0050, 1, 0x0, 1, 0x0, 1, 0x0, [⟨0, 5, .rw, 0⟩, ⟨5, 5, .rw, 0⟩, ⟨12, 1, .wo, 0⟩, ⟨13, 1, .wo, 0⟩]⟩
  | .RELOC_STATUS => ⟨0xB0054, 1, 0x0, 1, 0x0, 1, 0x0, [⟨0, 3, .ro, 0⟩, ⟨4, 4, .ro, 0⟩, ⟨8, 5, .ro, 0⟩, ⟨13, 5, .ro, 0⟩, ⟨18, 3, .ro, 0⟩]⟩
  | .FAULT_RETIRED => ⟨0xB0058, 1, 0x0, 1, 0x0, 1, 0x0, [⟨0, 32, .ro, 0⟩]⟩
  | .REGION_RESET => ⟨0xB005C, 1, 0x0, 1, 0x0, 1, 0x0, [⟨0, 5, .wo, 0⟩, ⟨8, 1, .wo, 0⟩, ⟨9, 1, .wo, 0⟩, ⟨24, 8, .wo, 0⟩]⟩
  | .RELOC_LIB => ⟨0xB0080, 32, 0x4, 1, 0x0, 1, 0x0, [⟨0, 5, .rw, 0⟩, ⟨7, 1, .rw, 0⟩, ⟨8, 5, .ro, 0⟩, ⟨15, 1, .ro, 0⟩, ⟨16, 5, .ro, 0⟩, ⟨23, 1, .ro, 0⟩]⟩
  | .LOG_NEWEST => ⟨0xB0100, 1, 0x0, 1, 0x0, 1, 0x0, [⟨0, 32, .ro, 0⟩]⟩
  | .LOG_OLDEST => ⟨0xB0104, 1, 0x0, 1, 0x0, 1, 0x0, [⟨0, 32, .ro, 0⟩]⟩
  | .LOG_SEL => ⟨0xB0108, 1, 0x0, 1, 0x0, 1, 0x0, [⟨0, 32, .rw, 0⟩]⟩
  | .LOG_STATUS => ⟨0xB010C, 1, 0x0, 1, 0x0, 1, 0x0, [⟨0, 1, .ro, 0⟩, ⟨1, 1, .ro, 0⟩]⟩
  | .PAIR_CFG => ⟨0xB0180, 1, 0x0, 1, 0x0, 1, 0x0, [⟨0, 6, .ro, 0⟩, ⟨7, 1, .ro, 0⟩, ⟨8, 2, .ro, 0⟩]⟩
  | .PAIR_STATUS => ⟨0xB0184, 1, 0x0, 1, 0x0, 1, 0x0, [⟨0, 2, .ro, 0⟩, ⟨2, 1, .ro, 0⟩, ⟨3, 1, .ro, 0⟩, ⟨4, 1, .ro, 0⟩, ⟨5, 1, .ro, 0⟩]⟩
  | .PAIR_CTRL => ⟨0xB0188, 1, 0x0, 1, 0x0, 1, 0x0, [⟨0, 1, .wo, 0⟩]⟩
  | .PAIR_COUNTS => ⟨0xB018C, 1, 0x0, 1, 0x0, 1, 0x0, [⟨0, 16, .rc, 0⟩, ⟨16, 16, .rc, 0⟩]⟩
  | .LOG_DATA => ⟨0xB0200, 32, 0x4, 1, 0x0, 1, 0x0, [⟨0, 32, .ro, 0⟩]⟩
  -- spec chapter 06, R136-R148
  | .INP_CFG => ⟨0x100000, 4, 0x40000, 16, 0x10, 1, 0x0, [⟨0, 1, .rw, 0⟩]⟩
  | .INP_STATUS => ⟨0x100004, 4, 0x40000, 16, 0x10, 1, 0x0, [⟨0, 1, .ro, 0⟩, ⟨1, 1, .ro, 0⟩, ⟨2, 1, .w1c, 0⟩, ⟨3, 1, .ro, 0⟩, ⟨8, 8, .rc, 0⟩]⟩
  | .INP_REFUSED => ⟨0x100100, 4, 0x40000, 1, 0x0, 1, 0x0, [⟨0, 16, .rc, 0⟩]⟩
  -- spec chapter 07, R179-R182
  | .REF_CFG => ⟨0x100120, 4, 0x40000, 1, 0x0, 1, 0x0, [⟨0, 2, .rw, 0⟩]⟩
  | .REF_STATUS => ⟨0x100124, 4, 0x40000, 1, 0x0, 1, 0x0, [⟨0, 1, .ro, 0⟩, ⟨1, 1, .ro, 0⟩, ⟨2, 1, .ro, 0⟩, ⟨3, 1, .w1c, 0⟩, ⟨8, 8, .rc, 0⟩, ⟨16, 16, .ro, 0⟩]⟩
  -- spec chapter 06, R149-R166
  | .CELL_CFG => ⟨0x101000, 4, 0x40000, 12, 0x40, 1, 0x0, [⟨0, 4, .rw, 0⟩, ⟨4, 1, .rw, 0⟩, ⟨5, 3, .rw, 0⟩, ⟨8, 6, .rw, 0⟩, ⟨14, 1, .rw, 0⟩]⟩
  | .CELL_IN => ⟨0x101004, 4, 0x40000, 12, 0x40, 3, 0x4, [⟨0, 5, .rw, 0x1F⟩, ⟨5, 1, .rw, 0⟩, ⟨6, 12, .rw, 0⟩, ⟨18, 12, .rw, 0⟩]⟩
  | .CELL_FB => ⟨0x101010, 4, 0x40000, 12, 0x40, 1, 0x0, [⟨0, 12, .rw, 0⟩, ⟨12, 12, .rw, 0⟩]⟩
  | .CELL_PARAM => ⟨0x101014, 4, 0x40000, 12, 0x40, 1, 0x0, [⟨0, 24, .rw, 0⟩]⟩
  | .CELL_INIT => ⟨0x101018, 4, 0x40000, 12, 0x40, 1, 0x0, [⟨0, 12, .rw, 0⟩]⟩
  | .CELL_SC => ⟨0x10101C, 4, 0x40000, 12, 0x40, 1, 0x0, [⟨0, 8, .rw, 0⟩, ⟨8, 2, .rw, 0⟩]⟩
  | .CELL_CTL => ⟨0x101020, 4, 0x40000, 12, 0x40, 1, 0x0, [⟨0, 1, .rw, 0⟩]⟩
  | .CELL_STATUS => ⟨0x101024, 4, 0x40000, 12, 0x40, 1, 0x0, [⟨0, 1, .w1c, 0⟩, ⟨1, 1, .ro, 0⟩, ⟨2, 1, .ro, 0⟩, ⟨3, 1, .ro, 0⟩, ⟨8, 8, .rc, 0⟩]⟩
  | .CELL_TRACK => ⟨0x101400, 4, 0x40000, 24, 0x4, 1, 0x0, [⟨0, 7, .rw, 0x7F⟩, ⟨8, 2, .rw, 0⟩, ⟨10, 3, .rw, 0⟩]⟩
  | .CELL_SCK => ⟨0x101480, 4, 0x40000, 4, 0x4, 1, 0x0, [⟨0, 18, .rw, 0⟩, ⟨31, 1, .rw, 0⟩]⟩
  | .CELL_COMMIT => ⟨0x101500, 4, 0x40000, 1, 0x0, 1, 0x0, [⟨0, 1, .wc, 0⟩, ⟨1, 4, .wc, 0⟩]⟩
  | .CELL_SHADOW => ⟨0x101504, 4, 0x40000, 1, 0x0, 1, 0x0, [⟨0, 1, .ro, 0⟩, ⟨1, 1, .w1c, 0⟩, ⟨2, 1, .w1c, 0⟩, ⟨6, 10, .ro, 0⟩, ⟨16, 16, .rc, 0⟩]⟩
  | .CELL_CLIP_SUMMARY => ⟨0x101508, 4, 0x40000, 1, 0x0, 1, 0x0, [⟨0, 12, .ro, 0⟩]⟩
  | .CELLM_CFG => ⟨0x101800, 4, 0x40000, 12, 0x40, 1, 0x0, [⟨0, 4, .ro, 0⟩, ⟨4, 1, .ro, 0⟩, ⟨5, 3, .ro, 0⟩, ⟨8, 6, .ro, 0⟩, ⟨14, 1, .ro, 0⟩]⟩
  | .CELLM_IN => ⟨0x101804, 4, 0x40000, 12, 0x40, 3, 0x4, [⟨0, 5, .ro, 0x1F⟩, ⟨5, 1, .ro, 0⟩, ⟨6, 12, .ro, 0⟩, ⟨18, 12, .ro, 0⟩]⟩
  | .CELLM_FB => ⟨0x101810, 4, 0x40000, 12, 0x40, 1, 0x0, [⟨0, 12, .ro, 0⟩, ⟨12, 12, .ro, 0⟩]⟩
  | .CELLM_PARAM => ⟨0x101814, 4, 0x40000, 12, 0x40, 1, 0x0, [⟨0, 24, .ro, 0⟩]⟩
  | .CELLM_INIT => ⟨0x101818, 4, 0x40000, 12, 0x40, 1, 0x0, [⟨0, 12, .ro, 0⟩]⟩
  | .CELLM_SC => ⟨0x10181C, 4, 0x40000, 12, 0x40, 1, 0x0, [⟨0, 8, .ro, 0⟩, ⟨8, 2, .ro, 0⟩]⟩
  | .CELLM_TRACK => ⟨0x101C00, 4, 0x40000, 24, 0x4, 1, 0x0, [⟨0, 7, .ro, 0x7F⟩, ⟨8, 2, .ro, 0⟩, ⟨10, 3, .ro, 0⟩]⟩
  | .CELLM_SCK => ⟨0x101C80, 4, 0x40000, 4, 0x4, 1, 0x0, [⟨0, 18, .ro, 0⟩, ⟨31, 1, .ro, 0⟩]⟩
  -- spec chapter 07, R187-R195
  | .CV_CTRL => ⟨0x102000, 4, 0x40000, 8, 0x1000, 1, 0x0, [⟨0, 1, .rw, 0⟩, ⟨1, 1, .rw, 0⟩, ⟨8, 10, .rw, 0⟩]⟩
  | .CV_STATUS => ⟨0x102004, 4, 0x40000, 8, 0x1000, 1, 0x0, [⟨0, 1, .ro, 0⟩, ⟨1, 4, .ro, 0⟩, ⟨5, 1, .ro, 0⟩, ⟨6, 1, .ro, 0⟩, ⟨7, 1, .w1c, 0⟩, ⟨8, 1, .ro, 0⟩, ⟨9, 1, .ro, 0⟩, ⟨16, 8, .rc, 0⟩]⟩
  | .CV_SEQ => ⟨0x102010, 4, 0x40000, 8, 0x1000, 1, 0x0, [⟨0, 4, .rw, 0⟩, ⟨4, 1, .rw, 0⟩]⟩
  -- spec chapter 08, R199,R215
  | .CV_SEQ_CTL => ⟨0x102020, 4, 0x40000, 8, 0x1000, 1, 0x0, [⟨0, 1, .wo, 0⟩, ⟨1, 1, .wo, 0⟩]⟩
  | .CV_SEQ_STATE => ⟨0x102024, 4, 0x40000, 8, 0x1000, 1, 0x0, [⟨0, 9, .ro, 0⟩, ⟨9, 1, .ro, 0⟩, ⟨10, 1, .ro, 0⟩, ⟨11, 1, .ro, 0⟩, ⟨12, 1, .ro, 0⟩, ⟨16, 8, .rc, 0⟩, ⟨24, 8, .rc, 0⟩]⟩
  | .CV_PASSES => ⟨0x102028, 4, 0x40000, 8, 0x1000, 1, 0x0, [⟨0, 32, .ro, 0⟩]⟩
  -- spec chapter 07, R187-R195
  | .CV_ENTRY => ⟨0x102040, 4, 0x40000, 8, 0x1000, 16, 0x8, [⟨0, 7, .rw, 0x7F⟩, ⟨8, 2, .rw, 0⟩, ⟨10, 3, .rw, 0⟩, ⟨14, 2, .rw, 0⟩, ⟨16, 2, .rw, 0⟩, ⟨18, 4, .rw, 0⟩, ⟨22, 1, .rw, 0⟩, ⟨23, 1, .rw, 0⟩, ⟨24, 2, .rw, 0⟩]⟩
  | .CV_ENTRY_T => ⟨0x102044, 4, 0x40000, 8, 0x1000, 16, 0x8, [⟨0, 16, .rw, 0⟩, ⟨16, 8, .rw, 0⟩]⟩
  | .CV_INJ => ⟨0x102100, 4, 0x40000, 8, 0x1000, 4, 0x4, [⟨0, 26, .rw, 0x7F⟩]⟩
  | .CV_INJ_REQ => ⟨0x102110, 4, 0x40000, 8, 0x1000, 1, 0x0, [⟨0, 4, .wo, 0⟩, ⟨4, 4, .ro, 0⟩, ⟨8, 4, .wo, 0⟩]⟩
  | .CV_COMMIT => ⟨0x102180, 4, 0x40000, 8, 0x1000, 1, 0x0, [⟨0, 1, .wc, 0⟩]⟩
  | .CV_SHADOW => ⟨0x102184, 4, 0x40000, 8, 0x1000, 1, 0x0, [⟨0, 1, .ro, 0⟩, ⟨1, 1, .w1c, 0⟩, ⟨2, 1, .w1c, 0⟩, ⟨8, 8, .ro, 0⟩, ⟨16, 16, .rc, 0⟩]⟩
  | .CV_RECORDS => ⟨0x102190, 4, 0x40000, 8, 0x1000, 1, 0x0, [⟨0, 16, .ro, 0⟩, ⟨16, 16, .rc, 0⟩]⟩
  | .CVM_SEQ => ⟨0x102810, 4, 0x40000, 8, 0x1000, 1, 0x0, [⟨0, 4, .ro, 0⟩, ⟨4, 1, .ro, 0⟩]⟩
  | .CVM_ENTRY => ⟨0x102840, 4, 0x40000, 8, 0x1000, 16, 0x8, [⟨0, 7, .ro, 0x7F⟩, ⟨8, 2, .ro, 0⟩, ⟨10, 3, .ro, 0⟩, ⟨14, 2, .ro, 0⟩, ⟨16, 2, .ro, 0⟩, ⟨18, 4, .ro, 0⟩, ⟨22, 1, .ro, 0⟩, ⟨23, 1, .ro, 0⟩, ⟨24, 2, .ro, 0⟩]⟩
  | .CVM_ENTRY_T => ⟨0x102844, 4, 0x40000, 8, 0x1000, 16, 0x8, [⟨0, 16, .ro, 0⟩, ⟨16, 8, .ro, 0⟩]⟩
  | .CV8_STATUS => ⟨0x10A004, 4, 0x40000, 1, 0x0, 1, 0x0, [⟨0, 1, .ro, 0⟩, ⟨1, 4, .ro, 0xF⟩, ⟨6, 1, .ro, 0⟩, ⟨7, 1, .w1c, 0⟩, ⟨8, 2, .ro, 0⟩, ⟨16, 8, .rc, 0⟩]⟩
  -- spec chapter 12, R306-R312
  | .MON_READ => ⟨0x10B000, 4, 0x40000, 16, 0x4, 1, 0x0, [⟨0, 24, .ro, 0⟩, ⟨24, 1, .ro, 0⟩, ⟨25, 7, .ro, 0⟩]⟩
  | .MON_STATUS => ⟨0x10B040, 4, 0x40000, 1, 0x0, 1, 0x0, [⟨0, 16, .ro, 0⟩, ⟨16, 4, .ro, 0⟩]⟩
  -- spec chapter 12, R292-R311
  | .DAC_CFG => ⟨0x10C000, 4, 0x40000, 8, 0x20, 1, 0x0, [⟨0, 3, .rw, 1⟩, ⟨4, 2, .rw, 0⟩, ⟨6, 2, .rw, 0⟩, ⟨8, 5, .rw, 0⟩, ⟨13, 1, .rw, 0⟩, ⟨16, 8, .rw, 0x14⟩]⟩
  | .DAC_VALUE => ⟨0x10C004, 4, 0x40000, 8, 0x20, 1, 0x0, [⟨0, 16, .rw, 0x8000⟩]⟩
  | .DAC_STATUS => ⟨0x10C008, 4, 0x40000, 8, 0x20, 1, 0x0, [⟨0, 3, .ro, 1⟩, ⟨3, 1, .ro, 0⟩, ⟨4, 1, .ro, 0⟩, ⟨5, 1, .ro, 0⟩, ⟨6, 1, .ro, 0⟩, ⟨7, 1, .ro, 0⟩, ⟨8, 1, .ro, 0⟩, ⟨9, 1, .ro, 0⟩, ⟨10, 1, .ro, 0⟩, ⟨12, 3, .ro, 0⟩, ⟨16, 1, .ro, 0⟩, ⟨17, 1, .w1c, 0⟩, ⟨18, 2, .ro, 0⟩, ⟨20, 2, .ro, 0⟩, ⟨22, 1, .ro, 0⟩, ⟨24, 8, .rc, 0⟩]⟩
  | .DAC_NV => ⟨0x10C00C, 4, 0x40000, 8, 0x20, 1, 0x0, [⟨0, 3, .rw, 1⟩, ⟨3, 1, .ro, 0⟩, ⟨4, 1, .ro, 0⟩]⟩
  | .DAC_NV_CODES => ⟨0x10C010, 4, 0x40000, 8, 0x20, 1, 0x0, [⟨0, 16, .ro, 0x8000⟩, ⟨16, 16, .ro, 0x8000⟩]⟩
  | .DAC_SPARE => ⟨0x10C100, 4, 0x40000, 1, 0x0, 1, 0x0, [⟨0, 3, .rw, 0⟩, ⟨8, 1, .wo, 0⟩, ⟨9, 1, .wo, 0⟩, ⟨16, 4, .ro, 0xF⟩, ⟨20, 2, .ro, 0⟩]⟩
  | .DAC_REFUSED => ⟨0x10C104, 4, 0x40000, 1, 0x0, 1, 0x0, [⟨0, 16, .rc, 0⟩]⟩
  -- spec chapter 12, R302-R305
  | .DDS_CTRL => ⟨0x10D000, 4, 0x40000, 4, 0x40, 1, 0x0, [⟨0, 1, .rw, 0⟩]⟩
  | .DDS_FTW_LO => ⟨0x10D004, 4, 0x40000, 4, 0x40, 1, 0x0, [⟨0, 32, .rw, 0⟩]⟩
  | .DDS_FTW_HI => ⟨0x10D008, 4, 0x40000, 4, 0x40, 1, 0x0, [⟨0, 16, .rw, 0⟩]⟩
  | .DDS_AMP => ⟨0x10D00C, 4, 0x40000, 4, 0x40, 1, 0x0, [⟨0, 16, .rw, 0⟩, ⟨16, 16, .rw, 0⟩]⟩
  | .DDS_PHASE => ⟨0x10D010, 4, 0x40000, 4, 0x40, 1, 0x0, [⟨0, 16, .rw, 0⟩]⟩
  | .DDS_FOLLOW => ⟨0x10D014, 4, 0x40000, 4, 0x40, 1, 0x0, [⟨0, 1, .rw, 0⟩, ⟨1, 2, .rw, 0⟩]⟩
  | .DDS_RATIO => ⟨0x10D018, 4, 0x40000, 4, 0x40, 1, 0x0, [⟨0, 32, .rw, 0x10000⟩]⟩
  | .DDS_APPLY => ⟨0x10D020, 4, 0x40000, 4, 0x40, 1, 0x0, [⟨0, 1, .wc, 0⟩]⟩
  | .DDS_STATUS => ⟨0x10D024, 4, 0x40000, 4, 0x40, 1, 0x0, [⟨0, 1, .ro, 0⟩, ⟨1, 1, .w1c, 0⟩, ⟨2, 1, .w1c, 0⟩, ⟨3, 1, .ro, 0⟩, ⟨4, 1, .w1c, 0⟩, ⟨16, 16, .rc, 0⟩]⟩
  | .DDS_PHASE_NOW => ⟨0x10D028, 4, 0x40000, 4, 0x40, 1, 0x0, [⟨0, 16, .ro, 0⟩]⟩
  | .DDSM_FTW_LO => ⟨0x10D804, 4, 0x40000, 4, 0x40, 1, 0x0, [⟨0, 32, .ro, 0⟩]⟩
  | .DDSM_FTW_HI => ⟨0x10D808, 4, 0x40000, 4, 0x40, 1, 0x0, [⟨0, 16, .ro, 0⟩]⟩
  | .DDSM_AMP => ⟨0x10D80C, 4, 0x40000, 4, 0x40, 1, 0x0, [⟨0, 16, .ro, 0⟩, ⟨16, 16, .ro, 0⟩]⟩
  | .DDSM_PHASE => ⟨0x10D810, 4, 0x40000, 4, 0x40, 1, 0x0, [⟨0, 16, .ro, 0⟩]⟩
  | .DDSM_FOLLOW => ⟨0x10D814, 4, 0x40000, 4, 0x40, 1, 0x0, [⟨0, 1, .ro, 0⟩, ⟨1, 2, .ro, 0⟩]⟩
  | .DDSM_RATIO => ⟨0x10D818, 4, 0x40000, 4, 0x40, 1, 0x0, [⟨0, 32, .ro, 0x10000⟩]⟩
  -- spec chapter 13, R313-R320
  | .CMP_CFG => ⟨0x10E000, 4, 0x40000, 16, 0x10, 1, 0x0, [⟨0, 1, .rw, 0⟩, ⟨1, 2, .rw, 0⟩, ⟨3, 1, .rw, 0⟩, ⟨4, 5, .rw, 0x1F⟩, ⟨9, 3, .rw, 0⟩, ⟨12, 5, .rw, 1⟩, ⟨17, 5, .rw, 1⟩]⟩
  | .CMP_THR => ⟨0x10E004, 4, 0x40000, 16, 0x10, 1, 0x0, [⟨0, 14, .rw, 0⟩, ⟨16, 14, .rw, 0⟩]⟩
  | .CMP_HYST => ⟨0x10E008, 4, 0x40000, 16, 0x10, 1, 0x0, [⟨0, 8, .rw, 0⟩]⟩
  | .CMP_STATUS => ⟨0x10E00C, 4, 0x40000, 16, 0x10, 1, 0x0, [⟨0, 1, .ro, 0⟩, ⟨1, 1, .ro, 0⟩, ⟨2, 1, .ro, 0⟩, ⟨3, 1, .ro, 0⟩, ⟨4, 1, .ro, 0⟩, ⟨16, 16, .rc, 0⟩]⟩
  | .CMP_LEVELS => ⟨0x10E100, 4, 0x40000, 1, 0x0, 1, 0x0, [⟨0, 16, .ro, 0⟩]⟩
  | .CMP_REFUSED => ⟨0x10E104, 4, 0x40000, 1, 0x0, 1, 0x0, [⟨0, 16, .rc, 0⟩]⟩
  -- spec chapter 13, R321-R333
  | .PIN_P_CFG => ⟨0x10F000, 4, 0x40000, 16, 0x4, 1, 0x0, [⟨0, 3, .rw, 0⟩, ⟨4, 4, .rw, 0⟩, ⟨8, 1, .rw, 0⟩, ⟨9, 2, .rw, 0⟩, ⟨11, 1, .rw, 0⟩, ⟨12, 3, .rw, 3⟩, ⟨15, 2, .rw, 0⟩]⟩
  | .PIN_DP_CFG => ⟨0x10F040, 4, 0x40000, 4, 0x4, 1, 0x0, [⟨0, 3, .rw, 0⟩, ⟨4, 4, .rw, 0⟩, ⟨8, 1, .rw, 0⟩]⟩
  | .PIN_OUT => ⟨0x10F080, 4, 0x40000, 1, 0x0, 1, 0x0, [⟨0, 20, .rw, 0⟩]⟩
  | .PIN_OUT_SET => ⟨0x10F084, 4, 0x40000, 1, 0x0, 1, 0x0, [⟨0, 20, .w1s, 0⟩]⟩
  | .PIN_OUT_CLR => ⟨0x10F088, 4, 0x40000, 1, 0x0, 1, 0x0, [⟨0, 20, .w1c, 0⟩]⟩
  | .PIN_OUT_TGL => ⟨0x10F08C, 4, 0x40000, 1, 0x0, 1, 0x0, [⟨0, 20, .w1t, 0⟩]⟩
  | .PIN_LEVEL => ⟨0x10F090, 4, 0x40000, 1, 0x0, 1, 0x0, [⟨0, 20, .ro, 0⟩]⟩
  | .PIN_DRIVEN => ⟨0x10F094, 4, 0x40000, 1, 0x0, 1, 0x0, [⟨0, 20, .ro, 0⟩]⟩
  | .PIN_STATE => ⟨0x10F098, 4, 0x40000, 1, 0x0, 1, 0x0, [⟨0, 2, .ro, 0⟩]⟩
  | .PIN_FIELD => ⟨0x10F09C, 4, 0x40000, 1, 0x0, 1, 0x0, [⟨0, 16, .w1c, 0⟩, ⟨16, 16, .ro, 0⟩]⟩
  | .PIN_DP_STATUS => ⟨0x10F0A0, 4, 0x40000, 1, 0x0, 1, 0x0, [⟨0, 4, .ro, 0⟩, ⟨4, 4, .w1c, 0⟩, ⟨16, 16, .rc, 0⟩]⟩
  | .PIN_LOCK => ⟨0x10F0B0, 4, 0x40000, 1, 0x0, 1, 0x0, [⟨0, 32, .wo, 0⟩]⟩
  | .PIN_LOCKED => ⟨0x10F0B4, 4, 0x40000, 1, 0x0, 1, 0x0, [⟨0, 20, .ro, 0⟩, ⟨20, 2, .ro, 0⟩]⟩
  | .PIN_REFUSED => ⟨0x10F0B8, 4, 0x40000, 1, 0x0, 1, 0x0, [⟨0, 16, .rc, 0⟩]⟩
  -- spec chapter 05, R111-R135
  | .FAB_CLK => ⟨0x260000, 1, 0x0, 1, 0x0, 1, 0x0, [⟨0, 8, .ro, 0⟩, ⟨8, 8, .w1c, 0⟩]⟩
  | .FAB_TAP => ⟨0x260010, 2, 0x80000, 8, 0x4, 1, 0x0, [⟨0, 6, .rw, 0⟩, ⟨7, 1, .rw, 0⟩, ⟨8, 3, .rw, 0⟩, ⟨12, 1, .rw, 0⟩]⟩
  | .FAB_TAP_STATUS => ⟨0x260030, 2, 0x80000, 1, 0x0, 1, 0x0, [⟨0, 8, .ro, 0⟩, ⟨8, 8, .ro, 0⟩, ⟨16, 8, .w1c, 0⟩]⟩
  | .FAB_PORT => ⟨0x260040, 2, 0x80000, 1, 0x0, 1, 0x0, [⟨0, 3, .rw, 0⟩]⟩
  | .FAB_PORT_ERR => ⟨0x260044, 2, 0x80000, 1, 0x0, 1, 0x0, [⟨0, 16, .rc, 0⟩, ⟨16, 16, .rc, 0⟩]⟩
  | .FAB_BRAM_ECC => ⟨0x260050, 2, 0x80000, 1, 0x0, 1, 0x0, [⟨0, 16, .rc, 0⟩, ⟨16, 16, .rc, 0⟩]⟩
  | .FAB_BRAM_ECC_FLAG => ⟨0x260054, 2, 0x80000, 1, 0x0, 1, 0x0, [⟨0, 16, .w1c, 0⟩]⟩
  | .FAB_CAP_CTRL => ⟨0x260080, 1, 0x0, 1, 0x0, 1, 0x0, [⟨0, 1, .wo, 0⟩, ⟨1, 1, .wo, 0⟩, ⟨2, 2, .rw, 0⟩, ⟨4, 5, .rw, 0⟩, ⟨9, 3, .rw, 0⟩]⟩
  | .FAB_CAP_STATUS => ⟨0x260084, 1, 0x0, 1, 0x0, 1, 0x0, [⟨0, 2, .ro, 0⟩, ⟨2, 1, .w1c, 0⟩, ⟨3, 3, .ro, 0⟩, ⟨6, 8, .rc, 0⟩, ⟨16, 16, .ro, 0⟩]⟩
  | .FAB_CAP_STAMP_LO => ⟨0x260088, 1, 0x0, 1, 0x0, 1, 0x0, [⟨0, 32, .ro, 0⟩]⟩
  | .FAB_CAP_STAMP_HI => ⟨0x26008C, 1, 0x0, 1, 0x0, 1, 0x0, [⟨0, 32, .ro, 0⟩]⟩

/-- One register instance of the window. -/
structure RegRef where
  name : RegName
  i : Nat
  j : Nat
  k : Nat
deriving DecidableEq, Repr

/-- The instance of a register with the given indices. -/
abbrev rr (n : RegName) (i : Nat := 0) (j : Nat := 0) (k : Nat := 0) : RegRef := ⟨n, i, j, k⟩

/-- Every index lies in its range. -/
def RegRef.valid (r : RegRef) : Bool :=
  r.i < r.name.row.n1 && r.j < r.name.row.n2 && r.k < r.name.row.n3

/-- R8: the offset of a register in the window. -/
def RegRef.offset (r : RegRef) : Nat :=
  r.name.row.base + r.i * r.name.row.s1 + r.j * r.name.row.s2 + r.k * r.name.row.s3

/-- The number that orders the register file; it says nothing about the hardware. -/
def RegRef.key (r : RegRef) : Nat :=
  ((r.name.ctorIdx * 4096 + r.i) * 4096 + r.j) * 4096 + r.k

/-- Bits `lo` to `lo + width - 1`. -/
def bitsMask (lo width : Nat) : Nat := (2 ^ width - 1) <<< lo

/-- The bits of the fields that satisfy `p`. -/
def RegName.maskOf (n : RegName) (p : Access → Bool) : BitVec 32 :=
  BitVec.ofNat 32 (n.row.fields.foldl (fun a f => if p f.acc then a ||| bitsMask f.lo f.width else a) 0)

/-- R11: the bits that are not reserved. -/
def RegName.mask (n : RegName) : BitVec 32 := n.maskOf (fun _ => true)

/-- The word a register holds at reset. -/
def RegName.reset (n : RegName) : BitVec 32 :=
  BitVec.ofNat 32 (n.row.fields.foldl (fun a f => a ||| (f.reset <<< f.lo)) 0)

/-- R12: the word a register holds after software writes `v` over `old`, by each field's access code. RW and WC
store the value, RWL too while its lock has not refused the write, W1C clears, W1S sets, W1T inverts; RO, RC and WO
bits keep what they hold (a WO field's action is the named operation of its register). -/
def RegName.applyWrite (n : RegName) (old v : BitVec 32) : BitVec 32 :=
  let store := n.maskOf (fun a => a == .rw || a == .rwl || a == .wc)
  let w1c := n.maskOf (fun a => a == .w1c)
  let w1s := n.maskOf (fun a => a == .w1s)
  let w1t := n.maskOf (fun a => a == .w1t)
  ((((old &&& ~~~store) ||| (v &&& store)) &&& ~~~(w1c &&& v)) ||| (w1s &&& v)) ^^^ (w1t &&& v)

/-- R12: what a read of the stored word returns; WO fields read as 0. -/
def RegName.readable (n : RegName) (w : BitVec 32) : BitVec 32 :=
  w &&& ~~~(n.maskOf (fun a => a == .wo))

/-- R12: what a read leaves; RC fields clear. -/
def RegName.afterRead (n : RegName) (w : BitVec 32) : BitVec 32 :=
  w &&& ~~~(n.maskOf (fun a => a == .rc))


/-- The registers of the map, part 0. -/
def RegName.part0 : List RegName := [
  .SYS_ID, .SYS_INST, .SYS_SERIAL_LO, .SYS_SERIAL_HI, .SYS_IRQ_LO, .SYS_IRQ_HI, .SYS_LOCKS,
  .SYS_MODE, .SYS_MODE_EFF, .SYS_MODE_CHG, .SYS_MODE_STAMP_LO, .SYS_MODE_STAMP_HI, .SYS_RESET, .SYS_RST_CAUSE,
  .SYS_PWR, .SYS_START, .SYS_RED_CELL0_LO, .SYS_RED_CELL0_HI, .SYS_RED_STAMP_LO, .SYS_RED_STAMP_HI, .CFG_ID,
  .CFG_REV, .CFG_CTRL, .CFG_STATUS, .CFG_ERR_INFO, .CFG_BOOT, .CFG_DATA, .CFG_HOLD]

/-- The registers of the map, part 1. -/
def RegName.part1 : List RegName := [
  .CFG_RESERVE, .CFG_RESERVE_LOADED, .CFG_BUILD_ID, .CFG_SCRUB, .CFG_SCRUB_FLAG, .CFG_FLASH, .CFG_LIB_VALID,
  .CFG_KEYS, .CFG_KEY_REVOKE, .CFG_REFUSED, .TIME_NOW_LO, .TIME_NOW_HI, .TIME_NOW_FRAC, .TIME_CTRL,
  .TIME_STATE, .TIME_OFFSET, .TIME_RATE, .TIME_STEP_LO, .TIME_STEP_HI, .TIME_LAST_STEP_LO, .TIME_LAST_STEP_HI,
  .TIME_STEP_STAMP_LO, .TIME_STEP_STAMP_HI, .TIME_EVENTS, .TIME_PTP_CFG, .TIME_PTP_STATUS, .TIME_PTP_PARENT_LO, .TIME_PTP_PARENT_HI]

/-- The registers of the map, part 2. -/
def RegName.part2 : List RegName := [
  .TIME_PTP_DELAY, .TIME_RING, .TIME_HOP_DELAY, .TIME_PPS_CAP_LO, .TIME_PPS_CAP_HI, .TRK_CFG, .TRK_CTRL,
  .TRK_PER_CYCLE, .TRK_TIMING, .TRK_HOME_CFG, .TRK_CARRIER, .TRK_HOME_VALUE_LO, .TRK_HOME_VALUE_HI, .TRK_STATUS,
  .TRK_PHASE_LO, .TRK_PHASE_HI, .TRK_VEL, .TRK_JUMP_FROM_LO, .TRK_JUMP_FROM_HI, .TRK_JUMP_TO_LO, .TRK_JUMP_TO_HI,
  .TRK_JUMP_TIME_LO, .TRK_JUMP_TIME_HI, .TRK_JUMP_CAUSE, .TRK_AMPL, .TRK_COUNTS, .TIDE_REFUSED, .SCHED_CFG]

/-- The registers of the map, part 3. -/
def RegName.part3 : List RegName := [
  .SCHED_STATUS, .SCHED_EVENTS, .SCHED_RECORDS, .SCHED_REFUSED, .SCHED_TRK_HYST, .SCHED_TRK_CFG, .SCHED_TRK_EXTREME_LO,
  .SCHED_TRK_EXTREME_HI, .SCHED_REPEAT_LO, .SCHED_REPEAT_HI, .ENG_CTRL, .ENG_ENTRY, .ENG_STATUS, .ENG_COUNTS,
  .ENG_D, .STEP_FLAG_SET, .STEP_FLAG_CLR, .STEP_DOORBELL, .STEP_EVENTS, .STEP_REFUSED, .STEP_POL_CTRL,
  .STEP_POL_STATUS, .STEP_POL_DATA, .STEP_POL_INFO, .MON_CFG, .MON_LO, .MON_HI, .MON_ACT]

/-- The registers of the map, part 4. -/
def RegName.part4 : List RegName := [
  .LIMIT_STAT, .LIMIT_TRIPPED, .LIMIT_LOCK, .LIMIT_SAFE, .LIMIT_WDOG, .LIMIT_WDOG_KICK, .LIMIT_REFUSED,
  .CAL_CTRL, .CAL_STATUS, .CAL_REF_DECL, .CAL_REF_READ, .CAL_SPREAD, .CAL_FAILS, .CAL_VIEW_SEL,
  .CAL_VIEW_OFS, .CAL_VIEW_GAIN, .CAL_VIEW_AUX, .CAL_VIEW_TEMP, .CAL_CFG, .CAL_TOL, .CAL_WINDOW,
  .CAL_INTERVAL, .CAL_XTAL, .CAL_REFUSED, .CAL_HOURS, .HARB_CFG, .HARB_SIZE, .HARB_WATER]

/-- The registers of the map, part 5. -/
def RegName.part5 : List RegName := [
  .HARB_STATUS, .HARB_C_LEVEL, .HARB_P_LEVEL, .HARB_PACKETS, .HARB_GAP, .HARB_COUNTS, .HARB_LOSS,
  .HARB_POOL, .HARB_RESERVE, .HARB_ECC, .HARB_REFUSED, .HARB_IRQ_SUM, .DMA_CTRL, .DMA_RATE,
  .DMA_DESC_LO, .DMA_DESC_HI, .DMA_STATUS, .DMA_LAST, .DMA_COUNTS, .DMA_REMAIN, .DMA_TRIGGER_LO,
  .DMA_TRIGGER_HI, .DMA_TAGS, .DMA_REFUSED, .DMA_IRQ_SUM_LO, .DMA_IRQ_SUM_HI, .COLYS_ID, .PORT_STATUS]

/-- The registers of the map, part 6. -/
def RegName.part6 : List RegName := [
  .PORT_ERRS, .PORT_LINKS, .COLYS_RING, .COLYS_EVENTS, .COLYS_EVT_EN_LO, .COLYS_EVT_EN_HI, .COLYS_EVT_PEND_LO,
  .COLYS_EVT_PEND_HI, .COLYS_REFUSED, .COLYS_COUNTS, .COLYS_ROUTE, .HOST_CTRL, .HOST_STATUS, .HOST_ERRS,
  .HOST_ERR_ADDR, .MNT_CMD, .MNT_ARG, .MNT_STATUS, .MNT_DATA, .EVT_ACK, .MNT_BUF,
  .ETH_MAC_LO, .ETH_MAC_HI, .ETH_IP_ADDR, .ETH_STATUS, .EVT_STATE_LO, .EVT_STATE_HI, .COLYS_MAP]

/-- The registers of the map, part 7. -/
def RegName.part7 : List RegName := [
  .FAULT_STATUS, .FAULT_EVENTS, .FAULT_CFG, .FAULT_REFUSED, .FAULT_CONV, .FAULT_SPARE, .FAULT_CORE,
  .RELOC_CTRL, .RELOC_STATUS, .FAULT_RETIRED, .REGION_RESET, .RELOC_LIB, .LOG_NEWEST, .LOG_OLDEST,
  .LOG_SEL, .LOG_STATUS, .PAIR_CFG, .PAIR_STATUS, .PAIR_CTRL, .PAIR_COUNTS, .LOG_DATA,
  .INP_CFG, .INP_STATUS, .INP_REFUSED, .REF_CFG, .REF_STATUS, .CELL_CFG, .CELL_IN]

/-- The registers of the map, part 8. -/
def RegName.part8 : List RegName := [
  .CELL_FB, .CELL_PARAM, .CELL_INIT, .CELL_SC, .CELL_CTL, .CELL_STATUS, .CELL_TRACK,
  .CELL_SCK, .CELL_COMMIT, .CELL_SHADOW, .CELL_CLIP_SUMMARY, .CELLM_CFG, .CELLM_IN, .CELLM_FB,
  .CELLM_PARAM, .CELLM_INIT, .CELLM_SC, .CELLM_TRACK, .CELLM_SCK, .CV_CTRL, .CV_STATUS,
  .CV_SEQ, .CV_SEQ_CTL, .CV_SEQ_STATE, .CV_PASSES, .CV_ENTRY, .CV_ENTRY_T, .CV_INJ]

/-- The registers of the map, part 9. -/
def RegName.part9 : List RegName := [
  .CV_INJ_REQ, .CV_COMMIT, .CV_SHADOW, .CV_RECORDS, .CVM_SEQ, .CVM_ENTRY, .CVM_ENTRY_T,
  .CV8_STATUS, .MON_READ, .MON_STATUS, .DAC_CFG, .DAC_VALUE, .DAC_STATUS, .DAC_NV,
  .DAC_NV_CODES, .DAC_SPARE, .DAC_REFUSED, .DDS_CTRL, .DDS_FTW_LO, .DDS_FTW_HI, .DDS_AMP,
  .DDS_PHASE, .DDS_FOLLOW, .DDS_RATIO, .DDS_APPLY, .DDS_STATUS, .DDS_PHASE_NOW, .DDSM_FTW_LO]

/-- The registers of the map, part 10. -/
def RegName.part10 : List RegName := [
  .DDSM_FTW_HI, .DDSM_AMP, .DDSM_PHASE, .DDSM_FOLLOW, .DDSM_RATIO, .CMP_CFG, .CMP_THR,
  .CMP_HYST, .CMP_STATUS, .CMP_LEVELS, .CMP_REFUSED, .PIN_P_CFG, .PIN_DP_CFG, .PIN_OUT,
  .PIN_OUT_SET, .PIN_OUT_CLR, .PIN_OUT_TGL, .PIN_LEVEL, .PIN_DRIVEN, .PIN_STATE, .PIN_FIELD,
  .PIN_DP_STATUS, .PIN_LOCK, .PIN_LOCKED, .PIN_REFUSED, .FAB_CLK, .FAB_TAP, .FAB_TAP_STATUS]

/-- The registers of the map, part 11. -/
def RegName.part11 : List RegName := [
  .FAB_PORT, .FAB_PORT_ERR, .FAB_BRAM_ECC, .FAB_BRAM_ECC_FLAG, .FAB_CAP_CTRL, .FAB_CAP_STATUS, .FAB_CAP_STAMP_LO,
  .FAB_CAP_STAMP_HI]

/-- Every register of the map, in order. -/
def RegName.list : List RegName := List.flatten [part0, part1, part2, part3, part4, part5, part6, part7, part8, part9, part10, part11]

/-- The indices of the instance of row `r` at offset `off`, if there is one. -/
def RegRow.find (r : RegRow) (off : Nat) : Option (Nat × Nat × Nat) :=
  if off < r.base then none else
  let d := off - r.base
  let i := if r.s1 = 0 then 0 else d / r.s1
  let d1 := d - i * r.s1
  let j := if r.s2 = 0 then 0 else d1 / r.s2
  let d2 := d1 - j * r.s2
  let k := if r.s3 = 0 then 0 else d2 / r.s3
  if i < r.n1 && j < r.n2 && k < r.n3 && d2 - k * r.s3 == 0 then some (i, j, k) else none

/-- The first register of `l` with an instance at offset `off`. -/
def lookupIn (off : Nat) : List RegName → Option RegRef
  | [] => none
  | n :: l => match n.row.find off with
    | some (i, j, k) => some ⟨n, i, j, k⟩
    | none => lookupIn off l

/-- The register at a window offset (R37, R38), none where the offset is reserved or belongs to a memory. -/
def lookupReg (off : Nat) : Option RegRef := lookupIn off RegName.list

/-- A field of a register: its lowest bit and its width. -/
structure Fld where
  name : RegName
  lo : Nat
  width : Nat
deriving DecidableEq, Repr

def F.SYS_ID_DEVICE : Fld := ⟨.SYS_ID, 0, 16⟩
def F.SYS_ID_FAMILY : Fld := ⟨.SYS_ID, 16, 16⟩
def F.SYS_INST_MODULE : Fld := ⟨.SYS_INST, 0, 6⟩
def F.SYS_INST_HEAD : Fld := ⟨.SYS_INST, 6, 1⟩
def F.SYS_INST_HEAD_STRAP : Fld := ⟨.SYS_INST, 7, 1⟩
def F.SYS_INST_DIESET : Fld := ⟨.SYS_INST, 8, 8⟩
def F.SYS_SERIAL_LO_SERIAL : Fld := ⟨.SYS_SERIAL_LO, 0, 32⟩
def F.SYS_SERIAL_HI_SERIAL : Fld := ⟨.SYS_SERIAL_HI, 0, 32⟩
def F.SYS_IRQ_LO_LINES : Fld := ⟨.SYS_IRQ_LO, 0, 32⟩
def F.SYS_IRQ_HI_LINES : Fld := ⟨.SYS_IRQ_HI, 0, 16⟩
def F.SYS_LOCKS_LIMIT : Fld := ⟨.SYS_LOCKS, 0, 1⟩
def F.SYS_LOCKS_PINS : Fld := ⟨.SYS_LOCKS, 1, 4⟩
def F.SYS_MODE_DISCIPLINED : Fld := ⟨.SYS_MODE, 0, 1⟩
def F.SYS_MODE_PHASE_RUN : Fld := ⟨.SYS_MODE, 1, 1⟩
def F.SYS_MODE_PAIRED : Fld := ⟨.SYS_MODE, 2, 1⟩
def F.SYS_MODE_REDUCED : Fld := ⟨.SYS_MODE, 3, 1⟩
def F.SYS_MODE_CALIBRATE : Fld := ⟨.SYS_MODE, 4, 1⟩
def F.SYS_MODE_REPAIR : Fld := ⟨.SYS_MODE, 5, 1⟩
def F.SYS_MODE_OBSERVE : Fld := ⟨.SYS_MODE, 6, 1⟩
def F.SYS_MODE_PARKED : Fld := ⟨.SYS_MODE, 7, 1⟩
def F.SYS_MODE_EFF_EFF : Fld := ⟨.SYS_MODE_EFF, 0, 8⟩
def F.SYS_MODE_EFF_SUSP : Fld := ⟨.SYS_MODE_EFF, 8, 8⟩
def F.SYS_MODE_EFF_PAIR_ROLE : Fld := ⟨.SYS_MODE_EFF, 16, 2⟩
def F.SYS_MODE_EFF_REDUCED_FORCED : Fld := ⟨.SYS_MODE_EFF, 18, 1⟩
def F.SYS_MODE_EFF_FORCE_CAUSE : Fld := ⟨.SYS_MODE_EFF, 19, 4⟩
def F.SYS_MODE_CHG_CHG : Fld := ⟨.SYS_MODE_CHG, 0, 8⟩
def F.SYS_MODE_CHG_COUNT : Fld := ⟨.SYS_MODE_CHG, 8, 8⟩
def F.SYS_MODE_STAMP_LO_STAMP : Fld := ⟨.SYS_MODE_STAMP_LO, 0, 32⟩
def F.SYS_MODE_STAMP_HI_STAMP : Fld := ⟨.SYS_MODE_STAMP_HI, 0, 32⟩
def F.SYS_RESET_MODULE : Fld := ⟨.SYS_RESET, 0, 1⟩
def F.SYS_RESET_FABRIC : Fld := ⟨.SYS_RESET, 1, 1⟩
def F.SYS_RESET_GROUP : Fld := ⟨.SYS_RESET, 4, 4⟩
def F.SYS_RESET_KEY : Fld := ⟨.SYS_RESET, 24, 8⟩
def F.SYS_RST_CAUSE_CAUSE : Fld := ⟨.SYS_RST_CAUSE, 0, 4⟩
def F.SYS_RST_CAUSE_GRP_RESTART : Fld := ⟨.SYS_RST_CAUSE, 8, 4⟩
def F.SYS_RST_CAUSE_FABRIC_RST : Fld := ⟨.SYS_RST_CAUSE, 12, 1⟩
def F.SYS_PWR_VIN_OK : Fld := ⟨.SYS_PWR, 0, 1⟩
def F.SYS_PWR_VIN_HIGH : Fld := ⟨.SYS_PWR, 1, 1⟩
def F.SYS_PWR_DIP : Fld := ⟨.SYS_PWR, 2, 1⟩
def F.SYS_PWR_DIP_COUNT : Fld := ⟨.SYS_PWR, 8, 8⟩
def F.SYS_PWR_GRP_PWR_OK : Fld := ⟨.SYS_PWR, 16, 4⟩
def F.SYS_PWR_VFLD_OK : Fld := ⟨.SYS_PWR, 20, 4⟩
def F.SYS_PWR_GRP_FAIL : Fld := ⟨.SYS_PWR, 24, 4⟩
def F.SYS_START_PHASE : Fld := ⟨.SYS_START, 0, 4⟩
def F.SYS_START_POLICY_OK : Fld := ⟨.SYS_START, 4, 1⟩
def F.SYS_START_SLOT : Fld := ⟨.SYS_START, 5, 1⟩
def F.SYS_START_NV_BAD : Fld := ⟨.SYS_START, 6, 1⟩
def F.SYS_START_RELEASE_TIME : Fld := ⟨.SYS_START, 16, 16⟩
def F.SYS_RED_CELL0_LO_WORD : Fld := ⟨.SYS_RED_CELL0_LO, 0, 32⟩
def F.SYS_RED_CELL0_HI_WORD : Fld := ⟨.SYS_RED_CELL0_HI, 0, 32⟩
def F.SYS_RED_STAMP_LO_WORD : Fld := ⟨.SYS_RED_STAMP_LO, 0, 32⟩
def F.SYS_RED_STAMP_HI_WORD : Fld := ⟨.SYS_RED_STAMP_HI, 0, 32⟩
def F.CFG_ID_DEVICE : Fld := ⟨.CFG_ID, 0, 16⟩
def F.CFG_ID_FAMILY : Fld := ⟨.CFG_ID, 16, 16⟩
def F.CFG_REV_DIESET : Fld := ⟨.CFG_REV, 0, 8⟩
def F.CFG_REV_FMT_MAJOR : Fld := ⟨.CFG_REV, 8, 8⟩
def F.CFG_REV_COMPAT : Fld := ⟨.CFG_REV, 16, 16⟩
def F.CFG_CTRL_START : Fld := ⟨.CFG_CTRL, 0, 1⟩
def F.CFG_CTRL_ABORT : Fld := ⟨.CFG_CTRL, 1, 1⟩
def F.CFG_CTRL_END_OF_SOURCE : Fld := ⟨.CFG_CTRL, 2, 1⟩
def F.CFG_CTRL_OP : Fld := ⟨.CFG_CTRL, 4, 2⟩
def F.CFG_CTRL_SOURCE : Fld := ⟨.CFG_CTRL, 6, 2⟩
def F.CFG_CTRL_LIB_INDEX : Fld := ⟨.CFG_CTRL, 8, 5⟩
def F.CFG_CTRL_TARGET : Fld := ⟨.CFG_CTRL, 13, 5⟩
def F.CFG_CTRL_DEST : Fld := ⟨.CFG_CTRL, 18, 2⟩
def F.CFG_STATUS_STATE : Fld := ⟨.CFG_STATUS, 0, 3⟩
def F.CFG_STATUS_DONE : Fld := ⟨.CFG_STATUS, 3, 1⟩
def F.CFG_STATUS_FAILED : Fld := ⟨.CFG_STATUS, 4, 1⟩
def F.CFG_STATUS_CFG_ERR : Fld := ⟨.CFG_STATUS, 5, 5⟩
def F.CFG_STATUS_ERR_A : Fld := ⟨.CFG_STATUS, 10, 5⟩
def F.CFG_STATUS_ERR_B : Fld := ⟨.CFG_STATUS, 15, 5⟩
def F.CFG_STATUS_CFGERR : Fld := ⟨.CFG_STATUS, 20, 1⟩
def F.CFG_ERR_INFO_FRAME : Fld := ⟨.CFG_ERR_INFO, 0, 16⟩
def F.CFG_BOOT_SLOT : Fld := ⟨.CFG_BOOT, 0, 1⟩
def F.CFG_BOOT_AUTO_FALLBACK : Fld := ⟨.CFG_BOOT, 1, 1⟩
def F.CFG_DATA_WORD : Fld := ⟨.CFG_DATA, 0, 32⟩
def F.CFG_HOLD_HOLD : Fld := ⟨.CFG_HOLD, 0, 32⟩
def F.CFG_RESERVE_RESERVE : Fld := ⟨.CFG_RESERVE, 0, 32⟩
def F.CFG_RESERVE_LOADED_LOADED : Fld := ⟨.CFG_RESERVE_LOADED, 0, 32⟩
def F.CFG_BUILD_ID_BUILD_ID : Fld := ⟨.CFG_BUILD_ID, 0, 32⟩
def F.CFG_SCRUB_SWEEPS : Fld := ⟨.CFG_SCRUB, 0, 16⟩
def F.CFG_SCRUB_CORRECTED : Fld := ⟨.CFG_SCRUB, 16, 8⟩
def F.CFG_SCRUB_FORCED : Fld := ⟨.CFG_SCRUB, 24, 8⟩
def F.CFG_SCRUB_FLAG_FLAG : Fld := ⟨.CFG_SCRUB_FLAG, 0, 32⟩
def F.CFG_FLASH_SLOT_A_VALID : Fld := ⟨.CFG_FLASH, 0, 1⟩
def F.CFG_FLASH_SLOT_B_VALID : Fld := ⟨.CFG_FLASH, 1, 1⟩
def F.CFG_LIB_VALID_VALID : Fld := ⟨.CFG_LIB_VALID, 0, 32⟩
def F.CFG_KEYS_SIGN_PROG : Fld := ⟨.CFG_KEYS, 0, 8⟩
def F.CFG_KEYS_SIGN_REVOKED : Fld := ⟨.CFG_KEYS, 8, 8⟩
def F.CFG_KEYS_AES_PROG : Fld := ⟨.CFG_KEYS, 16, 4⟩
def F.CFG_KEY_REVOKE_INDEX : Fld := ⟨.CFG_KEY_REVOKE, 0, 3⟩
def F.CFG_KEY_REVOKE_KEY : Fld := ⟨.CFG_KEY_REVOKE, 24, 8⟩
def F.CFG_REFUSED_COUNT : Fld := ⟨.CFG_REFUSED, 0, 16⟩
def F.TIME_NOW_LO_NOW : Fld := ⟨.TIME_NOW_LO, 0, 32⟩
def F.TIME_NOW_HI_NOW : Fld := ⟨.TIME_NOW_HI, 0, 32⟩
def F.TIME_NOW_FRAC_FRAC : Fld := ⟨.TIME_NOW_FRAC, 0, 16⟩
def F.TIME_CTRL_SLEW_ONLY : Fld := ⟨.TIME_CTRL, 0, 1⟩
def F.TIME_CTRL_PPS_OUT_EN : Fld := ⟨.TIME_CTRL, 1, 1⟩
def F.TIME_CTRL_BW : Fld := ⟨.TIME_CTRL, 2, 2⟩
def F.TIME_CTRL_STEP_THRESH : Fld := ⟨.TIME_CTRL, 16, 16⟩
def F.TIME_STATE_STATE : Fld := ⟨.TIME_STATE, 0, 2⟩
def F.TIME_STATE_SOURCE : Fld := ⟨.TIME_STATE, 2, 1⟩
def F.TIME_STATE_ARB : Fld := ⟨.TIME_STATE, 3, 1⟩
def F.TIME_STATE_UTC_VALID : Fld := ⟨.TIME_STATE, 4, 1⟩
def F.TIME_STATE_UTC_OFFSET : Fld := ⟨.TIME_STATE, 16, 16⟩
def F.TIME_OFFSET_OFFSET : Fld := ⟨.TIME_OFFSET, 0, 32⟩
def F.TIME_RATE_RATE : Fld := ⟨.TIME_RATE, 0, 32⟩
def F.TIME_STEP_LO_STEP : Fld := ⟨.TIME_STEP_LO, 0, 32⟩
def F.TIME_STEP_HI_STEP : Fld := ⟨.TIME_STEP_HI, 0, 32⟩
def F.TIME_LAST_STEP_LO_LAST_STEP : Fld := ⟨.TIME_LAST_STEP_LO, 0, 32⟩
def F.TIME_LAST_STEP_HI_LAST_STEP : Fld := ⟨.TIME_LAST_STEP_HI, 0, 32⟩
def F.TIME_STEP_STAMP_LO_STEP_STAMP : Fld := ⟨.TIME_STEP_STAMP_LO, 0, 32⟩
def F.TIME_STEP_STAMP_HI_STEP_STAMP : Fld := ⟨.TIME_STEP_STAMP_HI, 0, 32⟩
def F.TIME_EVENTS_STEPPED : Fld := ⟨.TIME_EVENTS, 0, 1⟩
def F.TIME_EVENTS_LOCKED : Fld := ⟨.TIME_EVENTS, 1, 1⟩
def F.TIME_EVENTS_HOLDOVER : Fld := ⟨.TIME_EVENTS, 2, 1⟩
def F.TIME_EVENTS_MASTER_CHANGED : Fld := ⟨.TIME_EVENTS, 3, 1⟩
def F.TIME_EVENTS_PPS_IN : Fld := ⟨.TIME_EVENTS, 4, 1⟩
def F.TIME_EVENTS_STEPS : Fld := ⟨.TIME_EVENTS, 8, 8⟩
def F.TIME_PTP_CFG_DOMAIN : Fld := ⟨.TIME_PTP_CFG, 0, 7⟩
def F.TIME_PTP_CFG_TRANSPORT : Fld := ⟨.TIME_PTP_CFG, 8, 1⟩
def F.TIME_PTP_CFG_DELAY_MECH : Fld := ⟨.TIME_PTP_CFG, 9, 1⟩
def F.TIME_PTP_CFG_ANN_TIMEOUT : Fld := ⟨.TIME_PTP_CFG, 12, 4⟩
def F.TIME_PTP_STATUS_PORT_STATE : Fld := ⟨.TIME_PTP_STATUS, 0, 4⟩
def F.TIME_PTP_STATUS_TWO_STEP : Fld := ⟨.TIME_PTP_STATUS, 4, 1⟩
def F.TIME_PTP_STATUS_LOG_SYNC : Fld := ⟨.TIME_PTP_STATUS, 8, 8⟩
def F.TIME_PTP_PARENT_LO_PARENT : Fld := ⟨.TIME_PTP_PARENT_LO, 0, 32⟩
def F.TIME_PTP_PARENT_HI_PARENT : Fld := ⟨.TIME_PTP_PARENT_HI, 0, 32⟩
def F.TIME_PTP_DELAY_DELAY : Fld := ⟨.TIME_PTP_DELAY, 0, 32⟩
def F.TIME_RING_HOPS : Fld := ⟨.TIME_RING, 0, 8⟩
def F.TIME_RING_FROM : Fld := ⟨.TIME_RING, 8, 1⟩
def F.TIME_HOP_DELAY_WEST : Fld := ⟨.TIME_HOP_DELAY, 0, 16⟩
def F.TIME_HOP_DELAY_EAST : Fld := ⟨.TIME_HOP_DELAY, 16, 16⟩
def F.TIME_PPS_CAP_LO_PPS_CAP : Fld := ⟨.TIME_PPS_CAP_LO, 0, 32⟩
def F.TIME_PPS_CAP_HI_PPS_CAP : Fld := ⟨.TIME_PPS_CAP_HI, 0, 32⟩
def F.TRK_CFG_SRC : Fld := ⟨.TRK_CFG, 0, 3⟩
def F.TRK_CFG_INVERT : Fld := ⟨.TRK_CFG, 3, 1⟩
def F.TRK_CFG_TAPS : Fld := ⟨.TRK_CFG, 4, 1⟩
def F.TRK_CFG_SEL_A : Fld := ⟨.TRK_CFG, 8, 6⟩
def F.TRK_CFG_SEL_B : Fld := ⟨.TRK_CFG, 16, 6⟩
def F.TRK_CFG_SEL_Z : Fld := ⟨.TRK_CFG, 24, 6⟩
def F.TRK_CFG_Z_USED : Fld := ⟨.TRK_CFG, 30, 1⟩
def F.TRK_CTRL_ENABLE : Fld := ⟨.TRK_CTRL, 0, 1⟩
def F.TRK_CTRL_HOME_NOW : Fld := ⟨.TRK_CTRL, 1, 1⟩
def F.TRK_CTRL_ARM : Fld := ⟨.TRK_CTRL, 2, 1⟩
def F.TRK_CTRL_DISARM : Fld := ⟨.TRK_CTRL, 3, 1⟩
def F.TRK_PER_CYCLE_PER_CYCLE : Fld := ⟨.TRK_PER_CYCLE, 0, 32⟩
def F.TRK_TIMING_STOP_TIME : Fld := ⟨.TRK_TIMING, 0, 16⟩
def F.TRK_TIMING_VEL_WIN : Fld := ⟨.TRK_TIMING, 16, 8⟩
def F.TRK_TIMING_HOLD_TIME : Fld := ⟨.TRK_TIMING, 24, 8⟩
def F.TRK_HOME_CFG_HOME_SRC : Fld := ⟨.TRK_HOME_CFG, 0, 2⟩
def F.TRK_HOME_CFG_HOME_SEL : Fld := ⟨.TRK_HOME_CFG, 2, 6⟩
def F.TRK_HOME_CFG_HOME_DIR : Fld := ⟨.TRK_HOME_CFG, 8, 2⟩
def F.TRK_HOME_CFG_HOME_EDGE : Fld := ⟨.TRK_HOME_CFG, 10, 1⟩
def F.TRK_HOME_CFG_AUTO_ARM : Fld := ⟨.TRK_HOME_CFG, 11, 1⟩
def F.TRK_HOME_CFG_KEEP_FRAC : Fld := ⟨.TRK_HOME_CFG, 12, 1⟩
def F.TRK_CARRIER_CARRIER : Fld := ⟨.TRK_CARRIER, 0, 16⟩
def F.TRK_HOME_VALUE_LO_HOME_VALUE : Fld := ⟨.TRK_HOME_VALUE_LO, 0, 32⟩
def F.TRK_HOME_VALUE_HI_HOME_VALUE : Fld := ⟨.TRK_HOME_VALUE_HI, 0, 32⟩
def F.TRK_STATUS_LOCK : Fld := ⟨.TRK_STATUS, 0, 3⟩
def F.TRK_STATUS_HOMED : Fld := ⟨.TRK_STATUS, 3, 1⟩
def F.TRK_STATUS_ARMED : Fld := ⟨.TRK_STATUS, 4, 1⟩
def F.TRK_STATUS_DIR : Fld := ⟨.TRK_STATUS, 5, 1⟩
def F.TRK_STATUS_STOPPED : Fld := ⟨.TRK_STATUS, 6, 1⟩
def F.TRK_STATUS_VEL_SAT : Fld := ⟨.TRK_STATUS, 7, 1⟩
def F.TRK_STATUS_QERR : Fld := ⟨.TRK_STATUS, 8, 1⟩
def F.TRK_STATUS_LOCK_LOST : Fld := ⟨.TRK_STATUS, 9, 1⟩
def F.TRK_STATUS_JUMPED : Fld := ⟨.TRK_STATUS, 10, 1⟩
def F.TRK_STATUS_HOME_DONE : Fld := ⟨.TRK_STATUS, 11, 1⟩
def F.TRK_STATUS_QERR_COUNT : Fld := ⟨.TRK_STATUS, 16, 8⟩
def F.TRK_STATUS_JUMP_COUNT : Fld := ⟨.TRK_STATUS, 24, 8⟩
def F.TRK_PHASE_LO_PHASE : Fld := ⟨.TRK_PHASE_LO, 0, 32⟩
def F.TRK_PHASE_HI_PHASE : Fld := ⟨.TRK_PHASE_HI, 0, 32⟩
def F.TRK_VEL_VEL : Fld := ⟨.TRK_VEL, 0, 32⟩
def F.TRK_JUMP_FROM_LO_JUMP_FROM : Fld := ⟨.TRK_JUMP_FROM_LO, 0, 32⟩
def F.TRK_JUMP_FROM_HI_JUMP_FROM : Fld := ⟨.TRK_JUMP_FROM_HI, 0, 32⟩
def F.TRK_JUMP_TO_LO_JUMP_TO : Fld := ⟨.TRK_JUMP_TO_LO, 0, 32⟩
def F.TRK_JUMP_TO_HI_JUMP_TO : Fld := ⟨.TRK_JUMP_TO_HI, 0, 32⟩
def F.TRK_JUMP_TIME_LO_JUMP_TIME : Fld := ⟨.TRK_JUMP_TIME_LO, 0, 32⟩
def F.TRK_JUMP_TIME_HI_JUMP_TIME : Fld := ⟨.TRK_JUMP_TIME_HI, 0, 32⟩
def F.TRK_JUMP_CAUSE_JUMP_CAUSE : Fld := ⟨.TRK_JUMP_CAUSE, 0, 3⟩
def F.TRK_AMPL_AMPL : Fld := ⟨.TRK_AMPL, 0, 16⟩
def F.TRK_COUNTS_REVERSALS : Fld := ⟨.TRK_COUNTS, 0, 16⟩
def F.TRK_COUNTS_REJECTS : Fld := ⟨.TRK_COUNTS, 16, 16⟩
def F.TIDE_REFUSED_COUNT : Fld := ⟨.TIDE_REFUSED, 0, 16⟩
def F.SCHED_CFG_BERTH : Fld := ⟨.SCHED_CFG, 0, 10⟩
def F.SCHED_STATUS_ARMED : Fld := ⟨.SCHED_STATUS, 0, 15⟩
def F.SCHED_STATUS_HOLD_ALL : Fld := ⟨.SCHED_STATUS, 16, 1⟩
def F.SCHED_STATUS_HOLD_PHASE : Fld := ⟨.SCHED_STATUS, 17, 1⟩
def F.SCHED_EVENTS_LATE : Fld := ⟨.SCHED_EVENTS, 0, 1⟩
def F.SCHED_EVENTS_MISSED : Fld := ⟨.SCHED_EVENTS, 1, 1⟩
def F.SCHED_EVENTS_FAILED : Fld := ⟨.SCHED_EVENTS, 2, 1⟩
def F.SCHED_EVENTS_SLIPPED : Fld := ⟨.SCHED_EVENTS, 3, 1⟩
def F.SCHED_EVENTS_LATE_COUNT : Fld := ⟨.SCHED_EVENTS, 8, 8⟩
def F.SCHED_EVENTS_MISSED_COUNT : Fld := ⟨.SCHED_EVENTS, 16, 8⟩
def F.SCHED_EVENTS_SLIP_COUNT : Fld := ⟨.SCHED_EVENTS, 24, 8⟩
def F.SCHED_RECORDS_NEXT_SEQ : Fld := ⟨.SCHED_RECORDS, 0, 16⟩
def F.SCHED_RECORDS_FAILS : Fld := ⟨.SCHED_RECORDS, 16, 16⟩
def F.SCHED_REFUSED_COUNT : Fld := ⟨.SCHED_REFUSED, 0, 16⟩
def F.SCHED_TRK_HYST_HYST : Fld := ⟨.SCHED_TRK_HYST, 0, 32⟩
def F.SCHED_TRK_CFG_HOLD_FIRE : Fld := ⟨.SCHED_TRK_CFG, 0, 1⟩
def F.SCHED_TRK_CFG_DIR : Fld := ⟨.SCHED_TRK_CFG, 1, 1⟩
def F.SCHED_TRK_CFG_IN_BAND : Fld := ⟨.SCHED_TRK_CFG, 2, 1⟩
def F.SCHED_TRK_EXTREME_LO_EXTREME : Fld := ⟨.SCHED_TRK_EXTREME_LO, 0, 32⟩
def F.SCHED_TRK_EXTREME_HI_EXTREME : Fld := ⟨.SCHED_TRK_EXTREME_HI, 0, 32⟩
def F.SCHED_REPEAT_LO_INTERVAL : Fld := ⟨.SCHED_REPEAT_LO, 0, 32⟩
def F.SCHED_REPEAT_HI_INTERVAL : Fld := ⟨.SCHED_REPEAT_HI, 0, 32⟩
def F.ENG_CTRL_RUN : Fld := ⟨.ENG_CTRL, 0, 1⟩
def F.ENG_CTRL_HALT : Fld := ⟨.ENG_CTRL, 1, 1⟩
def F.ENG_ENTRY_ENTRY : Fld := ⟨.ENG_ENTRY, 0, 14⟩
def F.ENG_ENTRY_DB_START : Fld := ⟨.ENG_ENTRY, 16, 1⟩
def F.ENG_ENTRY_AUTO_RUN : Fld := ⟨.ENG_ENTRY, 17, 1⟩
def F.ENG_STATUS_STATE : Fld := ⟨.ENG_STATUS, 0, 3⟩
def F.ENG_STATUS_DB_PEND : Fld := ⟨.ENG_STATUS, 3, 1⟩
def F.ENG_STATUS_DEPTH : Fld := ⟨.ENG_STATUS, 4, 4⟩
def F.ENG_STATUS_FAULT : Fld := ⟨.ENG_STATUS, 8, 5⟩
def F.ENG_STATUS_PC : Fld := ⟨.ENG_STATUS, 16, 14⟩
def F.ENG_COUNTS_MERGED : Fld := ⟨.ENG_COUNTS, 0, 16⟩
def F.ENG_COUNTS_IGNORED : Fld := ⟨.ENG_COUNTS, 16, 16⟩
def F.ENG_D_D : Fld := ⟨.ENG_D, 0, 32⟩
def F.STEP_FLAG_SET_SF : Fld := ⟨.STEP_FLAG_SET, 0, 32⟩
def F.STEP_FLAG_CLR_SF : Fld := ⟨.STEP_FLAG_CLR, 0, 32⟩
def F.STEP_DOORBELL_RING : Fld := ⟨.STEP_DOORBELL, 0, 8⟩
def F.STEP_EVENTS_HALTED : Fld := ⟨.STEP_EVENTS, 0, 8⟩
def F.STEP_EVENTS_FAULT : Fld := ⟨.STEP_EVENTS, 8, 8⟩
def F.STEP_REFUSED_COUNT : Fld := ⟨.STEP_REFUSED, 0, 16⟩
def F.STEP_POL_CTRL_START : Fld := ⟨.STEP_POL_CTRL, 0, 1⟩
def F.STEP_POL_CTRL_ABORT : Fld := ⟨.STEP_POL_CTRL, 1, 1⟩
def F.STEP_POL_CTRL_END_OF_SOURCE : Fld := ⟨.STEP_POL_CTRL, 2, 1⟩
def F.STEP_POL_CTRL_OP : Fld := ⟨.STEP_POL_CTRL, 4, 2⟩
def F.STEP_POL_CTRL_SLOT : Fld := ⟨.STEP_POL_CTRL, 6, 1⟩
def F.STEP_POL_STATUS_STATE : Fld := ⟨.STEP_POL_STATUS, 0, 3⟩
def F.STEP_POL_STATUS_DONE : Fld := ⟨.STEP_POL_STATUS, 3, 1⟩
def F.STEP_POL_STATUS_FAILED : Fld := ⟨.STEP_POL_STATUS, 4, 1⟩
def F.STEP_POL_STATUS_POL_ERR : Fld := ⟨.STEP_POL_STATUS, 5, 5⟩
def F.STEP_POL_STATUS_ACTIVE_SLOT : Fld := ⟨.STEP_POL_STATUS, 10, 1⟩
def F.STEP_POL_STATUS_FALLBACK : Fld := ⟨.STEP_POL_STATUS, 11, 1⟩
def F.STEP_POL_STATUS_VALID : Fld := ⟨.STEP_POL_STATUS, 12, 2⟩
def F.STEP_POL_STATUS_REG_REFUSED : Fld := ⟨.STEP_POL_STATUS, 16, 16⟩
def F.STEP_POL_DATA_WORD : Fld := ⟨.STEP_POL_DATA, 0, 32⟩
def F.STEP_POL_INFO_VERSION : Fld := ⟨.STEP_POL_INFO, 0, 32⟩
def F.MON_CFG_ENABLE : Fld := ⟨.MON_CFG, 0, 1⟩
def F.MON_CFG_KIND : Fld := ⟨.MON_CFG, 1, 1⟩
def F.MON_CFG_SRC : Fld := ⟨.MON_CFG, 2, 6⟩
def F.MON_CFG_COUNT : Fld := ⟨.MON_CFG, 8, 8⟩
def F.MON_CFG_ENTRY : Fld := ⟨.MON_CFG, 16, 4⟩
def F.MON_CFG_ENTRY_EN : Fld := ⟨.MON_CFG, 20, 1⟩
def F.MON_CFG_RED_ENTRY : Fld := ⟨.MON_CFG, 21, 1⟩
def F.MON_CFG_OVR_VIOL : Fld := ⟨.MON_CFG, 22, 1⟩
def F.MON_CFG_STALE : Fld := ⟨.MON_CFG, 24, 8⟩
def F.MON_LO_LIMIT : Fld := ⟨.MON_LO, 0, 24⟩
def F.MON_HI_LIMIT : Fld := ⟨.MON_HI, 0, 24⟩
def F.MON_ACT_SAFE : Fld := ⟨.MON_ACT, 0, 1⟩
def F.MON_ACT_OUT : Fld := ⟨.MON_ACT, 1, 1⟩
def F.MON_ACT_OUT_GRP : Fld := ⟨.MON_ACT, 2, 2⟩
def F.MON_ACT_OUT_MASK : Fld := ⟨.MON_ACT, 4, 8⟩
def F.MON_ACT_DOORBELL : Fld := ⟨.MON_ACT, 12, 1⟩
def F.MON_ACT_ENGINE : Fld := ⟨.MON_ACT, 13, 3⟩
def F.LIMIT_STAT_STATE : Fld := ⟨.LIMIT_STAT, 0, 2⟩
def F.LIMIT_STAT_STALE : Fld := ⟨.LIMIT_STAT, 2, 1⟩
def F.LIMIT_STAT_RUN : Fld := ⟨.LIMIT_STAT, 8, 8⟩
def F.LIMIT_STAT_TRIPS : Fld := ⟨.LIMIT_STAT, 16, 8⟩
def F.LIMIT_TRIPPED_TRIPPED : Fld := ⟨.LIMIT_TRIPPED, 0, 32⟩
def F.LIMIT_LOCK_LOCKED : Fld := ⟨.LIMIT_LOCK, 0, 1⟩
def F.LIMIT_LOCK_KEY : Fld := ⟨.LIMIT_LOCK, 24, 8⟩
def F.LIMIT_SAFE_ACTIVE : Fld := ⟨.LIMIT_SAFE, 0, 1⟩
def F.LIMIT_SAFE_PIN : Fld := ⟨.LIMIT_SAFE, 1, 1⟩
def F.LIMIT_SAFE_ENTER : Fld := ⟨.LIMIT_SAFE, 2, 1⟩
def F.LIMIT_SAFE_RELEASE : Fld := ⟨.LIMIT_SAFE, 3, 1⟩
def F.LIMIT_SAFE_CAUSE : Fld := ⟨.LIMIT_SAFE, 4, 5⟩
def F.LIMIT_WDOG_TIMEOUT : Fld := ⟨.LIMIT_WDOG, 0, 16⟩
def F.LIMIT_WDOG_ACTION : Fld := ⟨.LIMIT_WDOG, 16, 2⟩
def F.LIMIT_WDOG_EXPIRED : Fld := ⟨.LIMIT_WDOG, 18, 1⟩
def F.LIMIT_WDOG_KICK_KEY : Fld := ⟨.LIMIT_WDOG_KICK, 0, 8⟩
def F.LIMIT_REFUSED_COUNT : Fld := ⟨.LIMIT_REFUSED, 0, 16⟩
def F.CAL_CTRL_RUN : Fld := ⟨.CAL_CTRL, 0, 1⟩
def F.CAL_CTRL_ABORT : Fld := ⟨.CAL_CTRL, 1, 1⟩
def F.CAL_CTRL_FACTORY : Fld := ⟨.CAL_CTRL, 2, 1⟩
def F.CAL_CTRL_CLASS : Fld := ⟨.CAL_CTRL, 4, 2⟩
def F.CAL_CTRL_TARGET : Fld := ⟨.CAL_CTRL, 6, 4⟩
def F.CAL_STATUS_STATE : Fld := ⟨.CAL_STATUS, 0, 3⟩
def F.CAL_STATUS_DONE : Fld := ⟨.CAL_STATUS, 3, 1⟩
def F.CAL_STATUS_FAILED : Fld := ⟨.CAL_STATUS, 4, 1⟩
def F.CAL_STATUS_CAUSE : Fld := ⟨.CAL_STATUS, 5, 5⟩
def F.CAL_STATUS_BACKGROUND : Fld := ⟨.CAL_STATUS, 10, 1⟩
def F.CAL_STATUS_SPARE_STAGE : Fld := ⟨.CAL_STATUS, 11, 1⟩
def F.CAL_STATUS_LAST_CLASS : Fld := ⟨.CAL_STATUS, 16, 2⟩
def F.CAL_STATUS_LAST_TARGET : Fld := ⟨.CAL_STATUS, 18, 4⟩
def F.CAL_REF_DECL_DECL : Fld := ⟨.CAL_REF_DECL, 0, 23⟩
def F.CAL_REF_READ_READ : Fld := ⟨.CAL_REF_READ, 0, 23⟩
def F.CAL_SPREAD_OFS : Fld := ⟨.CAL_SPREAD, 0, 16⟩
def F.CAL_SPREAD_GAIN : Fld := ⟨.CAL_SPREAD, 16, 16⟩
def F.CAL_FAILS_CONV : Fld := ⟨.CAL_FAILS, 0, 8⟩
def F.CAL_FAILS_CORE : Fld := ⟨.CAL_FAILS, 8, 8⟩
def F.CAL_VIEW_SEL_CLASS : Fld := ⟨.CAL_VIEW_SEL, 0, 2⟩
def F.CAL_VIEW_SEL_TARGET : Fld := ⟨.CAL_VIEW_SEL, 2, 4⟩
def F.CAL_VIEW_SEL_PATH : Fld := ⟨.CAL_VIEW_SEL, 6, 6⟩
def F.CAL_VIEW_SEL_FACTORY : Fld := ⟨.CAL_VIEW_SEL, 12, 1⟩
def F.CAL_VIEW_OFS_OFS : Fld := ⟨.CAL_VIEW_OFS, 0, 24⟩
def F.CAL_VIEW_GAIN_GAIN : Fld := ⟨.CAL_VIEW_GAIN, 0, 32⟩
def F.CAL_VIEW_AUX_AUX : Fld := ⟨.CAL_VIEW_AUX, 0, 32⟩
def F.CAL_VIEW_TEMP_TEMP : Fld := ⟨.CAL_VIEW_TEMP, 0, 16⟩
def F.CAL_VIEW_TEMP_POINTS : Fld := ⟨.CAL_VIEW_TEMP, 16, 4⟩
def F.CAL_VIEW_TEMP_FIELD : Fld := ⟨.CAL_VIEW_TEMP, 20, 1⟩
def F.CAL_CFG_REPEATS : Fld := ⟨.CAL_CFG, 0, 4⟩
def F.CAL_CFG_TRACE : Fld := ⟨.CAL_CFG, 8, 3⟩
def F.CAL_TOL_OFS_TOL : Fld := ⟨.CAL_TOL, 0, 16⟩
def F.CAL_TOL_GAIN_TOL : Fld := ⟨.CAL_TOL, 16, 16⟩
def F.CAL_WINDOW_REF_WIN : Fld := ⟨.CAL_WINDOW, 0, 16⟩
def F.CAL_INTERVAL_INTERVAL : Fld := ⟨.CAL_INTERVAL, 0, 32⟩
def F.CAL_XTAL_DEV : Fld := ⟨.CAL_XTAL, 0, 24⟩
def F.CAL_XTAL_VALID : Fld := ⟨.CAL_XTAL, 31, 1⟩
def F.CAL_REFUSED_COUNT : Fld := ⟨.CAL_REFUSED, 0, 16⟩
def F.CAL_HOURS_HOURS : Fld := ⟨.CAL_HOURS, 0, 32⟩
def F.HARB_CFG_ENABLE : Fld := ⟨.HARB_CFG, 0, 1⟩
def F.HARB_CFG_SYNC : Fld := ⟨.HARB_CFG, 1, 1⟩
def F.HARB_CFG_PCLK : Fld := ⟨.HARB_CFG, 2, 2⟩
def F.HARB_CFG_CCLK : Fld := ⟨.HARB_CFG, 4, 2⟩
def F.HARB_CFG_IRQ_EN : Fld := ⟨.HARB_CFG, 8, 5⟩
def F.HARB_CFG_DADDR : Fld := ⟨.HARB_CFG, 16, 16⟩
def F.HARB_SIZE_CAP_M1 : Fld := ⟨.HARB_SIZE, 0, 16⟩
def F.HARB_SIZE_MIN : Fld := ⟨.HARB_SIZE, 16, 16⟩
def F.HARB_WATER_HWM : Fld := ⟨.HARB_WATER, 0, 16⟩
def F.HARB_WATER_LWM : Fld := ⟨.HARB_WATER, 16, 16⟩
def F.HARB_STATUS_EMPTY : Fld := ⟨.HARB_STATUS, 0, 1⟩
def F.HARB_STATUS_FULL : Fld := ⟨.HARB_STATUS, 1, 1⟩
def F.HARB_STATUS_HIGH_NOW : Fld := ⟨.HARB_STATUS, 2, 1⟩
def F.HARB_STATUS_LOW_NOW : Fld := ⟨.HARB_STATUS, 3, 1⟩
def F.HARB_STATUS_HIGH_WATER : Fld := ⟨.HARB_STATUS, 4, 1⟩
def F.HARB_STATUS_LOW_WATER : Fld := ⟨.HARB_STATUS, 5, 1⟩
def F.HARB_STATUS_NOTICE : Fld := ⟨.HARB_STATUS, 6, 1⟩
def F.HARB_STATUS_UNDERRUN : Fld := ⟨.HARB_STATUS, 7, 1⟩
def F.HARB_STATUS_GAP_PEND : Fld := ⟨.HARB_STATUS, 8, 1⟩
def F.HARB_STATUS_GAP_SENT : Fld := ⟨.HARB_STATUS, 9, 1⟩
def F.HARB_STATUS_ECC : Fld := ⟨.HARB_STATUS, 10, 1⟩
def F.HARB_STATUS_BROKEN : Fld := ⟨.HARB_STATUS, 11, 1⟩
def F.HARB_STATUS_HIGH_CROSS : Fld := ⟨.HARB_STATUS, 16, 8⟩
def F.HARB_STATUS_LOW_CROSS : Fld := ⟨.HARB_STATUS, 24, 8⟩
def F.HARB_C_LEVEL_LEVEL : Fld := ⟨.HARB_C_LEVEL, 0, 17⟩
def F.HARB_P_LEVEL_LEVEL : Fld := ⟨.HARB_P_LEVEL, 0, 17⟩
def F.HARB_PACKETS_PACKETS : Fld := ⟨.HARB_PACKETS, 0, 17⟩
def F.HARB_GAP_GAP : Fld := ⟨.HARB_GAP, 0, 32⟩
def F.HARB_COUNTS_UNDERRUNS : Fld := ⟨.HARB_COUNTS, 0, 16⟩
def F.HARB_COUNTS_DROPS : Fld := ⟨.HARB_COUNTS, 16, 16⟩
def F.HARB_LOSS_DISCARDED : Fld := ⟨.HARB_LOSS, 0, 16⟩
def F.HARB_LOSS_ORPHANS : Fld := ⟨.HARB_LOSS, 16, 16⟩
def F.HARB_POOL_FREE : Fld := ⟨.HARB_POOL, 0, 19⟩
def F.HARB_RESERVE_SUM : Fld := ⟨.HARB_RESERVE, 0, 19⟩
def F.HARB_ECC_CORRECTED : Fld := ⟨.HARB_ECC, 0, 16⟩
def F.HARB_ECC_UNCORRECTABLE : Fld := ⟨.HARB_ECC, 16, 16⟩
def F.HARB_REFUSED_COUNT : Fld := ⟨.HARB_REFUSED, 0, 16⟩
def F.HARB_IRQ_SUM_SUM : Fld := ⟨.HARB_IRQ_SUM, 0, 32⟩
def F.DMA_CTRL_START : Fld := ⟨.DMA_CTRL, 0, 1⟩
def F.DMA_CTRL_ABORT : Fld := ⟨.DMA_CTRL, 1, 1⟩
def F.DMA_CTRL_TRIGGER : Fld := ⟨.DMA_CTRL, 2, 1⟩
def F.DMA_CTRL_TRIG_EN : Fld := ⟨.DMA_CTRL, 8, 1⟩
def F.DMA_CTRL_PRIO : Fld := ⟨.DMA_CTRL, 9, 1⟩
def F.DMA_CTRL_MAX_OUT : Fld := ⟨.DMA_CTRL, 10, 6⟩
def F.DMA_RATE_RATE : Fld := ⟨.DMA_RATE, 0, 9⟩
def F.DMA_RATE_DEPTH : Fld := ⟨.DMA_RATE, 16, 5⟩
def F.DMA_DESC_LO_DESC : Fld := ⟨.DMA_DESC_LO, 0, 32⟩
def F.DMA_DESC_HI_DESC : Fld := ⟨.DMA_DESC_HI, 0, 32⟩
def F.DMA_STATUS_STATE : Fld := ⟨.DMA_STATUS, 0, 3⟩
def F.DMA_STATUS_DONE : Fld := ⟨.DMA_STATUS, 3, 1⟩
def F.DMA_STATUS_HALF : Fld := ⟨.DMA_STATUS, 4, 1⟩
def F.DMA_STATUS_ERROR : Fld := ⟨.DMA_STATUS, 5, 1⟩
def F.DMA_STATUS_ABORTED : Fld := ⟨.DMA_STATUS, 6, 1⟩
def F.DMA_STATUS_BARRIER_FORCED : Fld := ⟨.DMA_STATUS, 7, 1⟩
def F.DMA_STATUS_WB_FAILED : Fld := ⟨.DMA_STATUS, 8, 1⟩
def F.DMA_STATUS_TRIG_PEND : Fld := ⟨.DMA_STATUS, 16, 8⟩
def F.DMA_STATUS_OUTSTANDING : Fld := ⟨.DMA_STATUS, 24, 8⟩
def F.DMA_LAST_LAST : Fld := ⟨.DMA_LAST, 0, 32⟩
def F.DMA_COUNTS_ENDED : Fld := ⟨.DMA_COUNTS, 0, 16⟩
def F.DMA_COUNTS_LATE_DISCARD : Fld := ⟨.DMA_COUNTS, 16, 16⟩
def F.DMA_REMAIN_REMAIN : Fld := ⟨.DMA_REMAIN, 0, 20⟩
def F.DMA_TRIGGER_LO_TRIG : Fld := ⟨.DMA_TRIGGER_LO, 0, 32⟩
def F.DMA_TRIGGER_HI_TRIG : Fld := ⟨.DMA_TRIGGER_HI, 0, 32⟩
def F.DMA_TAGS_TAGS : Fld := ⟨.DMA_TAGS, 0, 9⟩
def F.DMA_REFUSED_COUNT : Fld := ⟨.DMA_REFUSED, 0, 16⟩
def F.DMA_IRQ_SUM_LO_SUM : Fld := ⟨.DMA_IRQ_SUM_LO, 0, 32⟩
def F.DMA_IRQ_SUM_HI_SUM : Fld := ⟨.DMA_IRQ_SUM_HI, 0, 32⟩
def F.COLYS_ID_MODULE : Fld := ⟨.COLYS_ID, 0, 6⟩
def F.COLYS_ID_HEAD_STRAP : Fld := ⟨.COLYS_ID, 6, 1⟩
def F.COLYS_ID_HEAD : Fld := ⟨.COLYS_ID, 7, 1⟩
def F.COLYS_ID_ISOLATED : Fld := ⟨.COLYS_ID, 8, 1⟩
def F.PORT_STATUS_STATE : Fld := ⟨.PORT_STATUS, 0, 3⟩
def F.PORT_STATUS_WIDTH : Fld := ⟨.PORT_STATUS, 3, 3⟩
def F.PORT_STATUS_DEGRADED : Fld := ⟨.PORT_STATUS, 6, 1⟩
def F.PORT_STATUS_PARTNER : Fld := ⟨.PORT_STATUS, 8, 6⟩
def F.PORT_STATUS_PARTNER_VALID : Fld := ⟨.PORT_STATUS, 14, 1⟩
def F.PORT_ERRS_CRC_ERR : Fld := ⟨.PORT_ERRS, 0, 16⟩
def F.PORT_ERRS_RETRIES : Fld := ⟨.PORT_ERRS, 16, 16⟩
def F.PORT_LINKS_PAUSES : Fld := ⟨.PORT_LINKS, 0, 8⟩
def F.PORT_LINKS_DOWNS : Fld := ⟨.PORT_LINKS, 8, 8⟩
def F.COLYS_RING_SIZE : Fld := ⟨.COLYS_RING, 0, 7⟩
def F.COLYS_RING_CLOSED : Fld := ⟨.COLYS_RING, 7, 1⟩
def F.COLYS_RING_HEAD : Fld := ⟨.COLYS_RING, 8, 6⟩
def F.COLYS_RING_HEAD_KNOWN : Fld := ⟨.COLYS_RING, 14, 1⟩
def F.COLYS_RING_MAP_SEQ : Fld := ⟨.COLYS_RING, 16, 8⟩
def F.COLYS_EVENTS_BREAK : Fld := ⟨.COLYS_EVENTS, 0, 1⟩
def F.COLYS_EVENTS_REJOIN : Fld := ⟨.COLYS_EVENTS, 1, 1⟩
def F.COLYS_EVENTS_MAP_CHANGED : Fld := ⟨.COLYS_EVENTS, 2, 1⟩
def F.COLYS_EVENTS_HEAD_CONFLICT : Fld := ⟨.COLYS_EVENTS, 3, 1⟩
def F.COLYS_EVENTS_DUP_ADDR : Fld := ⟨.COLYS_EVENTS, 4, 1⟩
def F.COLYS_EVENTS_DEGRADED : Fld := ⟨.COLYS_EVENTS, 5, 1⟩
def F.COLYS_EVT_EN_LO_EN_A : Fld := ⟨.COLYS_EVT_EN_LO, 0, 13⟩
def F.COLYS_EVT_EN_LO_EN_B : Fld := ⟨.COLYS_EVT_EN_LO, 16, 6⟩
def F.COLYS_EVT_EN_LO_EN_C : Fld := ⟨.COLYS_EVT_EN_LO, 24, 6⟩
def F.COLYS_EVT_EN_HI_EN_A : Fld := ⟨.COLYS_EVT_EN_HI, 0, 6⟩
def F.COLYS_EVT_EN_HI_EN_B : Fld := ⟨.COLYS_EVT_EN_HI, 8, 6⟩
def F.COLYS_EVT_PEND_LO_PEND : Fld := ⟨.COLYS_EVT_PEND_LO, 0, 32⟩
def F.COLYS_EVT_PEND_HI_PEND : Fld := ⟨.COLYS_EVT_PEND_HI, 0, 16⟩
def F.COLYS_REFUSED_COUNT : Fld := ⟨.COLYS_REFUSED, 0, 16⟩
def F.COLYS_COUNTS_DUPLICATES : Fld := ⟨.COLYS_COUNTS, 0, 16⟩
def F.COLYS_COUNTS_NO_TARGET : Fld := ⟨.COLYS_COUNTS, 16, 16⟩
def F.COLYS_ROUTE_PRESENT : Fld := ⟨.COLYS_ROUTE, 0, 1⟩
def F.COLYS_ROUTE_PORT : Fld := ⟨.COLYS_ROUTE, 1, 1⟩
def F.COLYS_ROUTE_HOPS : Fld := ⟨.COLYS_ROUTE, 2, 6⟩
def F.HOST_CTRL_ERR_MODE : Fld := ⟨.HOST_CTRL, 0, 1⟩
def F.HOST_STATUS_SPEED : Fld := ⟨.HOST_STATUS, 0, 2⟩
def F.HOST_STATUS_WIDTH : Fld := ⟨.HOST_STATUS, 3, 5⟩
def F.HOST_STATUS_LINK_UP : Fld := ⟨.HOST_STATUS, 8, 1⟩
def F.HOST_STATUS_BME : Fld := ⟨.HOST_STATUS, 9, 1⟩
def F.HOST_STATUS_D3HOT : Fld := ⟨.HOST_STATUS, 10, 1⟩
def F.HOST_ERRS_WR_ERR : Fld := ⟨.HOST_ERRS, 0, 16⟩
def F.HOST_ERRS_RD_ERR : Fld := ⟨.HOST_ERRS, 16, 16⟩
def F.HOST_ERR_ADDR_ADDR : Fld := ⟨.HOST_ERR_ADDR, 0, 30⟩
def F.HOST_ERR_ADDR_STATUS : Fld := ⟨.HOST_ERR_ADDR, 30, 2⟩
def F.MNT_CMD_DST : Fld := ⟨.MNT_CMD, 0, 6⟩
def F.MNT_CMD_OP : Fld := ⟨.MNT_CMD, 8, 8⟩
def F.MNT_ARG_ARG : Fld := ⟨.MNT_ARG, 0, 32⟩
def F.MNT_STATUS_BUSY : Fld := ⟨.MNT_STATUS, 0, 1⟩
def F.MNT_STATUS_STATUS : Fld := ⟨.MNT_STATUS, 1, 3⟩
def F.MNT_DATA_DATA : Fld := ⟨.MNT_DATA, 0, 32⟩
def F.EVT_ACK_MODULE : Fld := ⟨.EVT_ACK, 0, 6⟩
def F.EVT_ACK_LINE : Fld := ⟨.EVT_ACK, 8, 6⟩
def F.MNT_BUF_WORD : Fld := ⟨.MNT_BUF, 0, 32⟩
def F.ETH_MAC_LO_MAC : Fld := ⟨.ETH_MAC_LO, 0, 32⟩
def F.ETH_MAC_HI_MAC : Fld := ⟨.ETH_MAC_HI, 0, 16⟩
def F.ETH_IP_ADDR_IP : Fld := ⟨.ETH_IP_ADDR, 0, 32⟩
def F.ETH_STATUS_LINK_UP : Fld := ⟨.ETH_STATUS, 0, 1⟩
def F.ETH_STATUS_MDIX : Fld := ⟨.ETH_STATUS, 1, 1⟩
def F.ETH_STATUS_DISCARDS : Fld := ⟨.ETH_STATUS, 16, 16⟩
def F.EVT_STATE_LO_MASK : Fld := ⟨.EVT_STATE_LO, 0, 32⟩
def F.EVT_STATE_HI_MASK : Fld := ⟨.EVT_STATE_HI, 0, 16⟩
def F.COLYS_MAP_VECTOR : Fld := ⟨.COLYS_MAP, 0, 8⟩
def F.COLYS_MAP_EN : Fld := ⟨.COLYS_MAP, 8, 1⟩
def F.COLYS_MAP_ARMED : Fld := ⟨.COLYS_MAP, 9, 1⟩
def F.FAULT_STATUS_REPAIRING : Fld := ⟨.FAULT_STATUS, 0, 1⟩
def F.FAULT_STATUS_LOG_PENDING : Fld := ⟨.FAULT_STATUS, 16, 8⟩
def F.FAULT_EVENTS_CONV_FAILED : Fld := ⟨.FAULT_EVENTS, 0, 1⟩
def F.FAULT_EVENTS_PROMOTED : Fld := ⟨.FAULT_EVENTS, 1, 1⟩
def F.FAULT_EVENTS_RETURNED : Fld := ⟨.FAULT_EVENTS, 2, 1⟩
def F.FAULT_EVENTS_RELOC_DONE : Fld := ⟨.FAULT_EVENTS, 3, 1⟩
def F.FAULT_EVENTS_RELOC_FAILED : Fld := ⟨.FAULT_EVENTS, 4, 1⟩
def F.FAULT_EVENTS_TAKEOVER : Fld := ⟨.FAULT_EVENTS, 5, 1⟩
def F.FAULT_EVENTS_PARTNER_LOST : Fld := ⟨.FAULT_EVENTS, 6, 1⟩
def F.FAULT_EVENTS_LOG_OVERFLOW : Fld := ⟨.FAULT_EVENTS, 7, 1⟩
def F.FAULT_EVENTS_PAIR_MISMATCH : Fld := ⟨.FAULT_EVENTS, 8, 1⟩
def F.FAULT_CFG_AUTO_RELOC : Fld := ⟨.FAULT_CFG, 0, 1⟩
def F.FAULT_REFUSED_COUNT : Fld := ⟨.FAULT_REFUSED, 0, 16⟩
def F.FAULT_CONV_FAILED : Fld := ⟨.FAULT_CONV, 0, 8⟩
def F.FAULT_CONV_DECLARE : Fld := ⟨.FAULT_CONV, 8, 8⟩
def F.FAULT_CONV_CLEAR : Fld := ⟨.FAULT_CONV, 16, 8⟩
def F.FAULT_CONV_KEY : Fld := ⟨.FAULT_CONV, 24, 8⟩
def F.FAULT_SPARE_TARGET : Fld := ⟨.FAULT_SPARE, 0, 3⟩
def F.FAULT_SPARE_PROMOTE : Fld := ⟨.FAULT_SPARE, 8, 1⟩
def F.FAULT_SPARE_RETURN : Fld := ⟨.FAULT_SPARE, 9, 1⟩
def F.FAULT_SPARE_PENDING : Fld := ⟨.FAULT_SPARE, 10, 1⟩
def F.FAULT_CORE_FAILED : Fld := ⟨.FAULT_CORE, 0, 8⟩
def F.FAULT_CORE_CLEAR : Fld := ⟨.FAULT_CORE, 8, 8⟩
def F.FAULT_CORE_KEY : Fld := ⟨.FAULT_CORE, 24, 8⟩
def F.RELOC_CTRL_SRC : Fld := ⟨.RELOC_CTRL, 0, 5⟩
def F.RELOC_CTRL_DST : Fld := ⟨.RELOC_CTRL, 5, 5⟩
def F.RELOC_CTRL_START : Fld := ⟨.RELOC_CTRL, 12, 1⟩
def F.RELOC_CTRL_ABORT : Fld := ⟨.RELOC_CTRL, 13, 1⟩
def F.RELOC_STATUS_STATE : Fld := ⟨.RELOC_STATUS, 0, 3⟩
def F.RELOC_STATUS_RESULT : Fld := ⟨.RELOC_STATUS, 4, 4⟩
def F.RELOC_STATUS_SRC : Fld := ⟨.RELOC_STATUS, 8, 5⟩
def F.RELOC_STATUS_DST : Fld := ⟨.RELOC_STATUS, 13, 5⟩
def F.RELOC_STATUS_HCLK : Fld := ⟨.RELOC_STATUS, 18, 3⟩
def F.FAULT_RETIRED_RETIRED : Fld := ⟨.FAULT_RETIRED, 0, 32⟩
def F.REGION_RESET_REGION : Fld := ⟨.REGION_RESET, 0, 5⟩
def F.REGION_RESET_RESET : Fld := ⟨.REGION_RESET, 8, 1⟩
def F.REGION_RESET_UNRETIRE : Fld := ⟨.REGION_RESET, 9, 1⟩
def F.REGION_RESET_KEY : Fld := ⟨.REGION_RESET, 24, 8⟩
def F.RELOC_LIB_LIB : Fld := ⟨.RELOC_LIB, 0, 5⟩
def F.RELOC_LIB_VALID : Fld := ⟨.RELOC_LIB, 7, 1⟩
def F.RELOC_LIB_REPLACED_BY : Fld := ⟨.RELOC_LIB, 8, 5⟩
def F.RELOC_LIB_REPLACED : Fld := ⟨.RELOC_LIB, 15, 1⟩
def F.RELOC_LIB_HOLDS : Fld := ⟨.RELOC_LIB, 16, 5⟩
def F.RELOC_LIB_HOLDS_VALID : Fld := ⟨.RELOC_LIB, 23, 1⟩
def F.LOG_NEWEST_SEQ : Fld := ⟨.LOG_NEWEST, 0, 32⟩
def F.LOG_OLDEST_SEQ : Fld := ⟨.LOG_OLDEST, 0, 32⟩
def F.LOG_SEL_SEQ : Fld := ⟨.LOG_SEL, 0, 32⟩
def F.LOG_STATUS_READY : Fld := ⟨.LOG_STATUS, 0, 1⟩
def F.LOG_STATUS_MISSING : Fld := ⟨.LOG_STATUS, 1, 1⟩
def F.PAIR_CFG_PARTNER : Fld := ⟨.PAIR_CFG, 0, 6⟩
def F.PAIR_CFG_PAIR_EN : Fld := ⟨.PAIR_CFG, 7, 1⟩
def F.PAIR_CFG_PREF : Fld := ⟨.PAIR_CFG, 8, 2⟩
def F.PAIR_STATUS_ROLE : Fld := ⟨.PAIR_STATUS, 0, 2⟩
def F.PAIR_STATUS_PARTNER_SEEN : Fld := ⟨.PAIR_STATUS, 2, 1⟩
def F.PAIR_STATUS_SYNCED : Fld := ⟨.PAIR_STATUS, 3, 1⟩
def F.PAIR_STATUS_MISMATCH : Fld := ⟨.PAIR_STATUS, 4, 1⟩
def F.PAIR_STATUS_YIELD : Fld := ⟨.PAIR_STATUS, 5, 1⟩
def F.PAIR_CTRL_SWAP : Fld := ⟨.PAIR_CTRL, 0, 1⟩
def F.PAIR_COUNTS_DISCARDED : Fld := ⟨.PAIR_COUNTS, 0, 16⟩
def F.PAIR_COUNTS_TAKEOVERS : Fld := ⟨.PAIR_COUNTS, 16, 16⟩
def F.LOG_DATA_WORD : Fld := ⟨.LOG_DATA, 0, 32⟩
def F.INP_CFG_MODE : Fld := ⟨.INP_CFG, 0, 1⟩
def F.INP_STATUS_TAKEN : Fld := ⟨.INP_STATUS, 0, 1⟩
def F.INP_STATUS_LIMITING : Fld := ⟨.INP_STATUS, 1, 1⟩
def F.INP_STATUS_LIMITED : Fld := ⟨.INP_STATUS, 2, 1⟩
def F.INP_STATUS_FOLDBACK : Fld := ⟨.INP_STATUS, 3, 1⟩
def F.INP_STATUS_LIMIT_COUNT : Fld := ⟨.INP_STATUS, 8, 8⟩
def F.INP_REFUSED_COUNT : Fld := ⟨.INP_REFUSED, 0, 16⟩
def F.REF_CFG_SEL : Fld := ⟨.REF_CFG, 0, 2⟩
def F.REF_STATUS_REF_SETTLED : Fld := ⟨.REF_STATUS, 0, 1⟩
def F.REF_STATUS_INT_SETTLED : Fld := ⟨.REF_STATUS, 1, 1⟩
def F.REF_STATUS_REF_RANGE : Fld := ⟨.REF_STATUS, 2, 1⟩
def F.REF_STATUS_LOST : Fld := ⟨.REF_STATUS, 3, 1⟩
def F.REF_STATUS_LOSS_COUNT : Fld := ⟨.REF_STATUS, 8, 8⟩
def F.REF_STATUS_VREF : Fld := ⟨.REF_STATUS, 16, 16⟩
def F.CELL_CFG_FUNC : Fld := ⟨.CELL_CFG, 0, 4⟩
def F.CELL_CFG_SC : Fld := ⟨.CELL_CFG, 4, 1⟩
def F.CELL_CFG_SUBFN : Fld := ⟨.CELL_CFG, 5, 3⟩
def F.CELL_CFG_CTL_SRC : Fld := ⟨.CELL_CFG, 8, 6⟩
def F.CELL_CFG_CTL_INV : Fld := ⟨.CELL_CFG, 14, 1⟩
def F.CELL_IN_TRACK : Fld := ⟨.CELL_IN, 0, 5⟩
def F.CELL_IN_NEG : Fld := ⟨.CELL_IN, 5, 1⟩
def F.CELL_IN_R : Fld := ⟨.CELL_IN, 6, 12⟩
def F.CELL_IN_C : Fld := ⟨.CELL_IN, 18, 12⟩
def F.CELL_FB_RF : Fld := ⟨.CELL_FB, 0, 12⟩
def F.CELL_FB_CF : Fld := ⟨.CELL_FB, 12, 12⟩
def F.CELL_PARAM_PARAM : Fld := ⟨.CELL_PARAM, 0, 24⟩
def F.CELL_INIT_INIT : Fld := ⟨.CELL_INIT, 0, 12⟩
def F.CELL_SC_CS : Fld := ⟨.CELL_SC, 0, 8⟩
def F.CELL_SC_SCK : Fld := ⟨.CELL_SC, 8, 2⟩
def F.CELL_CTL_CTL : Fld := ⟨.CELL_CTL, 0, 1⟩
def F.CELL_STATUS_CLIP : Fld := ⟨.CELL_STATUS, 0, 1⟩
def F.CELL_STATUS_CLIP_NOW : Fld := ⟨.CELL_STATUS, 1, 1⟩
def F.CELL_STATUS_ACTIVE : Fld := ⟨.CELL_STATUS, 2, 1⟩
def F.CELL_STATUS_CTL_LEVEL : Fld := ⟨.CELL_STATUS, 3, 1⟩
def F.CELL_STATUS_CLIP_COUNT : Fld := ⟨.CELL_STATUS, 8, 8⟩
def F.CELL_TRACK_SRC : Fld := ⟨.CELL_TRACK, 0, 7⟩
def F.CELL_TRACK_RNG : Fld := ⟨.CELL_TRACK, 8, 2⟩
def F.CELL_TRACK_GAIN : Fld := ⟨.CELL_TRACK, 10, 3⟩
def F.CELL_SCK_DIV : Fld := ⟨.CELL_SCK, 0, 18⟩
def F.CELL_SCK_ENABLE : Fld := ⟨.CELL_SCK, 31, 1⟩
def F.CELL_COMMIT_AT : Fld := ⟨.CELL_COMMIT, 0, 1⟩
def F.CELL_COMMIT_AT_CV : Fld := ⟨.CELL_COMMIT, 1, 4⟩
def F.CELL_SHADOW_PENDING : Fld := ⟨.CELL_SHADOW, 0, 1⟩
def F.CELL_SHADOW_DONE : Fld := ⟨.CELL_SHADOW, 1, 1⟩
def F.CELL_SHADOW_REJECTED : Fld := ⟨.CELL_SHADOW, 2, 1⟩
def F.CELL_SHADOW_REJ_WORD : Fld := ⟨.CELL_SHADOW, 6, 10⟩
def F.CELL_SHADOW_REFUSED : Fld := ⟨.CELL_SHADOW, 16, 16⟩
def F.CELL_CLIP_SUMMARY_CLIP : Fld := ⟨.CELL_CLIP_SUMMARY, 0, 12⟩
def F.CELLM_CFG_FUNC : Fld := ⟨.CELLM_CFG, 0, 4⟩
def F.CELLM_CFG_SC : Fld := ⟨.CELLM_CFG, 4, 1⟩
def F.CELLM_CFG_SUBFN : Fld := ⟨.CELLM_CFG, 5, 3⟩
def F.CELLM_CFG_CTL_SRC : Fld := ⟨.CELLM_CFG, 8, 6⟩
def F.CELLM_CFG_CTL_INV : Fld := ⟨.CELLM_CFG, 14, 1⟩
def F.CELLM_IN_TRACK : Fld := ⟨.CELLM_IN, 0, 5⟩
def F.CELLM_IN_NEG : Fld := ⟨.CELLM_IN, 5, 1⟩
def F.CELLM_IN_R : Fld := ⟨.CELLM_IN, 6, 12⟩
def F.CELLM_IN_C : Fld := ⟨.CELLM_IN, 18, 12⟩
def F.CELLM_FB_RF : Fld := ⟨.CELLM_FB, 0, 12⟩
def F.CELLM_FB_CF : Fld := ⟨.CELLM_FB, 12, 12⟩
def F.CELLM_PARAM_PARAM : Fld := ⟨.CELLM_PARAM, 0, 24⟩
def F.CELLM_INIT_INIT : Fld := ⟨.CELLM_INIT, 0, 12⟩
def F.CELLM_SC_CS : Fld := ⟨.CELLM_SC, 0, 8⟩
def F.CELLM_SC_SCK : Fld := ⟨.CELLM_SC, 8, 2⟩
def F.CELLM_TRACK_SRC : Fld := ⟨.CELLM_TRACK, 0, 7⟩
def F.CELLM_TRACK_RNG : Fld := ⟨.CELLM_TRACK, 8, 2⟩
def F.CELLM_TRACK_GAIN : Fld := ⟨.CELLM_TRACK, 10, 3⟩
def F.CELLM_SCK_DIV : Fld := ⟨.CELLM_SCK, 0, 18⟩
def F.CELLM_SCK_ENABLE : Fld := ⟨.CELLM_SCK, 31, 1⟩
def F.CV_CTRL_ENABLE : Fld := ⟨.CV_CTRL, 0, 1⟩
def F.CV_CTRL_ILV : Fld := ⟨.CV_CTRL, 1, 1⟩
def F.CV_CTRL_BERTH : Fld := ⟨.CV_CTRL, 8, 10⟩
def F.CV_STATUS_RUNNING : Fld := ⟨.CV_STATUS, 0, 1⟩
def F.CV_STATUS_ENTRY : Fld := ⟨.CV_STATUS, 1, 4⟩
def F.CV_STATUS_INJ_ACTIVE : Fld := ⟨.CV_STATUS, 5, 1⟩
def F.CV_STATUS_OVR_NOW : Fld := ⟨.CV_STATUS, 6, 1⟩
def F.CV_STATUS_OVR : Fld := ⟨.CV_STATUS, 7, 1⟩
def F.CV_STATUS_SPARE_ACTIVE : Fld := ⟨.CV_STATUS, 8, 1⟩
def F.CV_STATUS_FAILED : Fld := ⟨.CV_STATUS, 9, 1⟩
def F.CV_STATUS_OVR_COUNT : Fld := ⟨.CV_STATUS, 16, 8⟩
def F.CV_SEQ_LAST : Fld := ⟨.CV_SEQ, 0, 4⟩
def F.CV_SEQ_RUN : Fld := ⟨.CV_SEQ, 4, 1⟩
def F.CV_SEQ_CTL_START : Fld := ⟨.CV_SEQ_CTL, 0, 1⟩
def F.CV_SEQ_CTL_ADVANCE : Fld := ⟨.CV_SEQ_CTL, 1, 1⟩
def F.CV_SEQ_STATE_REMAIN : Fld := ⟨.CV_SEQ_STATE, 0, 9⟩
def F.CV_SEQ_STATE_IDLE : Fld := ⟨.CV_SEQ_STATE, 9, 1⟩
def F.CV_SEQ_STATE_START_PEND : Fld := ⟨.CV_SEQ_STATE, 10, 1⟩
def F.CV_SEQ_STATE_ADV_PEND : Fld := ⟨.CV_SEQ_STATE, 11, 1⟩
def F.CV_SEQ_STATE_INTERRUPTED : Fld := ⟨.CV_SEQ_STATE, 12, 1⟩
def F.CV_SEQ_STATE_MERGED : Fld := ⟨.CV_SEQ_STATE, 16, 8⟩
def F.CV_SEQ_STATE_IGNORED : Fld := ⟨.CV_SEQ_STATE, 24, 8⟩
def F.CV_PASSES_PASSES : Fld := ⟨.CV_PASSES, 0, 32⟩
def F.CV_ENTRY_NODE : Fld := ⟨.CV_ENTRY, 0, 7⟩
def F.CV_ENTRY_RNG : Fld := ⟨.CV_ENTRY, 8, 2⟩
def F.CV_ENTRY_GAIN : Fld := ⟨.CV_ENTRY, 10, 3⟩
def F.CV_ENTRY_REF : Fld := ⟨.CV_ENTRY, 14, 2⟩
def F.CV_ENTRY_FILT : Fld := ⟨.CV_ENTRY, 16, 2⟩
def F.CV_ENTRY_DEC : Fld := ⟨.CV_ENTRY, 18, 4⟩
def F.CV_ENTRY_DEFER : Fld := ⟨.CV_ENTRY, 22, 1⟩
def F.CV_ENTRY_STAMP : Fld := ⟨.CV_ENTRY, 23, 1⟩
def F.CV_ENTRY_TRK : Fld := ⟨.CV_ENTRY, 24, 2⟩
def F.CV_ENTRY_T_DWELL : Fld := ⟨.CV_ENTRY_T, 0, 16⟩
def F.CV_ENTRY_T_COUNT : Fld := ⟨.CV_ENTRY_T, 16, 8⟩
def F.CV_INJ_CFG : Fld := ⟨.CV_INJ, 0, 26⟩
def F.CV_INJ_REQ_REQ : Fld := ⟨.CV_INJ_REQ, 0, 4⟩
def F.CV_INJ_REQ_PENDING : Fld := ⟨.CV_INJ_REQ, 4, 4⟩
def F.CV_INJ_REQ_CANCEL : Fld := ⟨.CV_INJ_REQ, 8, 4⟩
def F.CV_COMMIT_AT : Fld := ⟨.CV_COMMIT, 0, 1⟩
def F.CV_SHADOW_PENDING : Fld := ⟨.CV_SHADOW, 0, 1⟩
def F.CV_SHADOW_DONE : Fld := ⟨.CV_SHADOW, 1, 1⟩
def F.CV_SHADOW_REJECTED : Fld := ⟨.CV_SHADOW, 2, 1⟩
def F.CV_SHADOW_REJ_WORD : Fld := ⟨.CV_SHADOW, 8, 8⟩
def F.CV_SHADOW_REFUSED : Fld := ⟨.CV_SHADOW, 16, 16⟩
def F.CV_RECORDS_NEXT_SEQ : Fld := ⟨.CV_RECORDS, 0, 16⟩
def F.CV_RECORDS_FAILS : Fld := ⟨.CV_RECORDS, 16, 16⟩
def F.CVM_SEQ_LAST : Fld := ⟨.CVM_SEQ, 0, 4⟩
def F.CVM_SEQ_RUN : Fld := ⟨.CVM_SEQ, 4, 1⟩
def F.CVM_ENTRY_NODE : Fld := ⟨.CVM_ENTRY, 0, 7⟩
def F.CVM_ENTRY_RNG : Fld := ⟨.CVM_ENTRY, 8, 2⟩
def F.CVM_ENTRY_GAIN : Fld := ⟨.CVM_ENTRY, 10, 3⟩
def F.CVM_ENTRY_REF : Fld := ⟨.CVM_ENTRY, 14, 2⟩
def F.CVM_ENTRY_FILT : Fld := ⟨.CVM_ENTRY, 16, 2⟩
def F.CVM_ENTRY_DEC : Fld := ⟨.CVM_ENTRY, 18, 4⟩
def F.CVM_ENTRY_DEFER : Fld := ⟨.CVM_ENTRY, 22, 1⟩
def F.CVM_ENTRY_STAMP : Fld := ⟨.CVM_ENTRY, 23, 1⟩
def F.CVM_ENTRY_TRK : Fld := ⟨.CVM_ENTRY, 24, 2⟩
def F.CVM_ENTRY_T_DWELL : Fld := ⟨.CVM_ENTRY_T, 0, 16⟩
def F.CVM_ENTRY_T_COUNT : Fld := ⟨.CVM_ENTRY_T, 16, 8⟩
def F.CV8_STATUS_RUNNING : Fld := ⟨.CV8_STATUS, 0, 1⟩
def F.CV8_STATUS_SERVES : Fld := ⟨.CV8_STATUS, 1, 4⟩
def F.CV8_STATUS_OVR_NOW : Fld := ⟨.CV8_STATUS, 6, 1⟩
def F.CV8_STATUS_OVR : Fld := ⟨.CV8_STATUS, 7, 1⟩
def F.CV8_STATUS_ROLE : Fld := ⟨.CV8_STATUS, 8, 2⟩
def F.CV8_STATUS_OVR_COUNT : Fld := ⟨.CV8_STATUS, 16, 8⟩
def F.MON_READ_SAMPLE : Fld := ⟨.MON_READ, 0, 24⟩
def F.MON_READ_OVR : Fld := ⟨.MON_READ, 24, 1⟩
def F.MON_READ_NODE : Fld := ⟨.MON_READ, 25, 7⟩
def F.MON_STATUS_CYCLES : Fld := ⟨.MON_STATUS, 0, 16⟩
def F.MON_STATUS_SLOT : Fld := ⟨.MON_STATUS, 16, 4⟩
def F.DAC_CFG_RANGE : Fld := ⟨.DAC_CFG, 0, 3⟩
def F.DAC_CFG_SRC : Fld := ⟨.DAC_CFG, 4, 2⟩
def F.DAC_CFG_DDS : Fld := ⟨.DAC_CFG, 6, 2⟩
def F.DAC_CFG_TRACK : Fld := ⟨.DAC_CFG, 8, 5⟩
def F.DAC_CFG_GATE_OPEN : Fld := ⟨.DAC_CFG, 13, 1⟩
def F.DAC_CFG_RB_TOL : Fld := ⟨.DAC_CFG, 16, 8⟩
def F.DAC_VALUE_CODE : Fld := ⟨.DAC_VALUE, 0, 16⟩
def F.DAC_STATUS_RANGE_NOW : Fld := ⟨.DAC_STATUS, 0, 3⟩
def F.DAC_STATUS_RANGE_BUSY : Fld := ⟨.DAC_STATUS, 3, 1⟩
def F.DAC_STATUS_RANGE_PEND : Fld := ⟨.DAC_STATUS, 4, 1⟩
def F.DAC_STATUS_GATE_CLOSED : Fld := ⟨.DAC_STATUS, 5, 1⟩
def F.DAC_STATUS_NV_HOLD : Fld := ⟨.DAC_STATUS, 6, 1⟩
def F.DAC_STATUS_FAULT_HOLD : Fld := ⟨.DAC_STATUS, 7, 1⟩
def F.DAC_STATUS_PARK_HOLD : Fld := ⟨.DAC_STATUS, 8, 1⟩
def F.DAC_STATUS_SPARE_ACTIVE : Fld := ⟨.DAC_STATUS, 9, 1⟩
def F.DAC_STATUS_CORE_FAILED : Fld := ⟨.DAC_STATUS, 10, 1⟩
def F.DAC_STATUS_FAULT_BY : Fld := ⟨.DAC_STATUS, 12, 3⟩
def F.DAC_STATUS_RB_NOW : Fld := ⟨.DAC_STATUS, 16, 1⟩
def F.DAC_STATUS_RB_FAULT : Fld := ⟨.DAC_STATUS, 17, 1⟩
def F.DAC_STATUS_RB_CAUSE : Fld := ⟨.DAC_STATUS, 18, 2⟩
def F.DAC_STATUS_RB_RUN : Fld := ⟨.DAC_STATUS, 20, 2⟩
def F.DAC_STATUS_RB_CHECKED : Fld := ⟨.DAC_STATUS, 22, 1⟩
def F.DAC_STATUS_RB_COUNT : Fld := ⟨.DAC_STATUS, 24, 8⟩
def F.DAC_NV_NV_RANGE : Fld := ⟨.DAC_NV, 0, 3⟩
def F.DAC_NV_PU_OPEN : Fld := ⟨.DAC_NV, 3, 1⟩
def F.DAC_NV_FAULT_OPEN : Fld := ⟨.DAC_NV, 4, 1⟩
def F.DAC_NV_CODES_PU_CODE : Fld := ⟨.DAC_NV_CODES, 0, 16⟩
def F.DAC_NV_CODES_FAULT_CODE : Fld := ⟨.DAC_NV_CODES, 16, 16⟩
def F.DAC_SPARE_TARGET : Fld := ⟨.DAC_SPARE, 0, 3⟩
def F.DAC_SPARE_REQ : Fld := ⟨.DAC_SPARE, 8, 1⟩
def F.DAC_SPARE_RETURN : Fld := ⟨.DAC_SPARE, 9, 1⟩
def F.DAC_SPARE_SERVES : Fld := ⟨.DAC_SPARE, 16, 4⟩
def F.DAC_SPARE_ROLE : Fld := ⟨.DAC_SPARE, 20, 2⟩
def F.DAC_REFUSED_COUNT : Fld := ⟨.DAC_REFUSED, 0, 16⟩
def F.DDS_CTRL_ENABLE : Fld := ⟨.DDS_CTRL, 0, 1⟩
def F.DDS_FTW_LO_FTW : Fld := ⟨.DDS_FTW_LO, 0, 32⟩
def F.DDS_FTW_HI_FTW : Fld := ⟨.DDS_FTW_HI, 0, 16⟩
def F.DDS_AMP_AMP : Fld := ⟨.DDS_AMP, 0, 16⟩
def F.DDS_AMP_OFFSET : Fld := ⟨.DDS_AMP, 16, 16⟩
def F.DDS_PHASE_PHASE_OFS : Fld := ⟨.DDS_PHASE, 0, 16⟩
def F.DDS_FOLLOW_MODE : Fld := ⟨.DDS_FOLLOW, 0, 1⟩
def F.DDS_FOLLOW_TRK : Fld := ⟨.DDS_FOLLOW, 1, 2⟩
def F.DDS_RATIO_RATIO : Fld := ⟨.DDS_RATIO, 0, 32⟩
def F.DDS_APPLY_AT : Fld := ⟨.DDS_APPLY, 0, 1⟩
def F.DDS_STATUS_PENDING : Fld := ⟨.DDS_STATUS, 0, 1⟩
def F.DDS_STATUS_DONE : Fld := ⟨.DDS_STATUS, 1, 1⟩
def F.DDS_STATUS_REJECTED : Fld := ⟨.DDS_STATUS, 2, 1⟩
def F.DDS_STATUS_RUNNING : Fld := ⟨.DDS_STATUS, 3, 1⟩
def F.DDS_STATUS_CLIP : Fld := ⟨.DDS_STATUS, 4, 1⟩
def F.DDS_STATUS_REFUSED : Fld := ⟨.DDS_STATUS, 16, 16⟩
def F.DDS_PHASE_NOW_PHI : Fld := ⟨.DDS_PHASE_NOW, 0, 16⟩
def F.DDSM_FTW_LO_FTW : Fld := ⟨.DDSM_FTW_LO, 0, 32⟩
def F.DDSM_FTW_HI_FTW : Fld := ⟨.DDSM_FTW_HI, 0, 16⟩
def F.DDSM_AMP_AMP : Fld := ⟨.DDSM_AMP, 0, 16⟩
def F.DDSM_AMP_OFFSET : Fld := ⟨.DDSM_AMP, 16, 16⟩
def F.DDSM_PHASE_PHASE_OFS : Fld := ⟨.DDSM_PHASE, 0, 16⟩
def F.DDSM_FOLLOW_MODE : Fld := ⟨.DDSM_FOLLOW, 0, 1⟩
def F.DDSM_FOLLOW_TRK : Fld := ⟨.DDSM_FOLLOW, 1, 2⟩
def F.DDSM_RATIO_RATIO : Fld := ⟨.DDSM_RATIO, 0, 32⟩
def F.CMP_CFG_ENABLE : Fld := ⟨.CMP_CFG, 0, 1⟩
def F.CMP_CFG_MODE : Fld := ⟨.CMP_CFG, 1, 2⟩
def F.CMP_CFG_INIT : Fld := ⟨.CMP_CFG, 3, 1⟩
def F.CMP_CFG_INPUT : Fld := ⟨.CMP_CFG, 4, 5⟩
def F.CMP_CFG_FCLK : Fld := ⟨.CMP_CFG, 9, 3⟩
def F.CMP_CFG_M : Fld := ⟨.CMP_CFG, 12, 5⟩
def F.CMP_CFG_N : Fld := ⟨.CMP_CFG, 17, 5⟩
def F.CMP_THR_A : Fld := ⟨.CMP_THR, 0, 14⟩
def F.CMP_THR_B : Fld := ⟨.CMP_THR, 16, 14⟩
def F.CMP_HYST_HYST : Fld := ⟨.CMP_HYST, 0, 8⟩
def F.CMP_STATUS_LEVEL : Fld := ⟨.CMP_STATUS, 0, 1⟩
def F.CMP_STATUS_RAW : Fld := ⟨.CMP_STATUS, 1, 1⟩
def F.CMP_STATUS_IN_BAND_AT_START : Fld := ⟨.CMP_STATUS, 2, 1⟩
def F.CMP_STATUS_NV_SET : Fld := ⟨.CMP_STATUS, 3, 1⟩
def F.CMP_STATUS_ACTIVE : Fld := ⟨.CMP_STATUS, 4, 1⟩
def F.CMP_STATUS_EDGES : Fld := ⟨.CMP_STATUS, 16, 16⟩
def F.CMP_LEVELS_LEVELS : Fld := ⟨.CMP_LEVELS, 0, 16⟩
def F.CMP_REFUSED_COUNT : Fld := ⟨.CMP_REFUSED, 0, 16⟩
def F.PIN_P_CFG_FUNC : Fld := ⟨.PIN_P_CFG, 0, 3⟩
def F.PIN_P_CFG_CMP_SEL : Fld := ⟨.PIN_P_CFG, 4, 4⟩
def F.PIN_P_CFG_CLASS : Fld := ⟨.PIN_P_CFG, 8, 1⟩
def F.PIN_P_CFG_DRIVE : Fld := ⟨.PIN_P_CFG, 9, 2⟩
def F.PIN_P_CFG_VOLT : Fld := ⟨.PIN_P_CFG, 11, 1⟩
def F.PIN_P_CFG_PULL : Fld := ⟨.PIN_P_CFG, 12, 3⟩
def F.PIN_P_CFG_ITYPE : Fld := ⟨.PIN_P_CFG, 15, 2⟩
def F.PIN_DP_CFG_FUNC : Fld := ⟨.PIN_DP_CFG, 0, 3⟩
def F.PIN_DP_CFG_CMP_SEL : Fld := ⟨.PIN_DP_CFG, 4, 4⟩
def F.PIN_DP_CFG_TERM : Fld := ⟨.PIN_DP_CFG, 8, 1⟩
def F.PIN_OUT_OUT : Fld := ⟨.PIN_OUT, 0, 20⟩
def F.PIN_OUT_SET_OUT : Fld := ⟨.PIN_OUT_SET, 0, 20⟩
def F.PIN_OUT_CLR_OUT : Fld := ⟨.PIN_OUT_CLR, 0, 20⟩
def F.PIN_OUT_TGL_OUT : Fld := ⟨.PIN_OUT_TGL, 0, 20⟩
def F.PIN_LEVEL_LEVEL : Fld := ⟨.PIN_LEVEL, 0, 20⟩
def F.PIN_DRIVEN_DRIVEN : Fld := ⟨.PIN_DRIVEN, 0, 20⟩
def F.PIN_STATE_STATE : Fld := ⟨.PIN_STATE, 0, 2⟩
def F.PIN_FIELD_OVERLOAD : Fld := ⟨.PIN_FIELD, 0, 16⟩
def F.PIN_FIELD_NO_VFLD : Fld := ⟨.PIN_FIELD, 16, 16⟩
def F.PIN_DP_STATUS_FS_NOW : Fld := ⟨.PIN_DP_STATUS, 0, 4⟩
def F.PIN_DP_STATUS_FS : Fld := ⟨.PIN_DP_STATUS, 4, 4⟩
def F.PIN_DP_STATUS_OVL_COUNT : Fld := ⟨.PIN_DP_STATUS, 16, 16⟩
def F.PIN_LOCK_WORD : Fld := ⟨.PIN_LOCK, 0, 32⟩
def F.PIN_LOCKED_LOCKED : Fld := ⟨.PIN_LOCKED, 0, 20⟩
def F.PIN_LOCKED_STEP : Fld := ⟨.PIN_LOCKED, 20, 2⟩
def F.PIN_REFUSED_COUNT : Fld := ⟨.PIN_REFUSED, 0, 16⟩
def F.FAB_CLK_LOCK : Fld := ⟨.FAB_CLK, 0, 8⟩
def F.FAB_CLK_LOST : Fld := ⟨.FAB_CLK, 8, 8⟩
def F.FAB_TAP_CONV : Fld := ⟨.FAB_TAP, 0, 6⟩
def F.FAB_TAP_FOLLOW : Fld := ⟨.FAB_TAP, 7, 1⟩
def F.FAB_TAP_CLK : Fld := ⟨.FAB_TAP, 8, 3⟩
def F.FAB_TAP_ENABLE : Fld := ⟨.FAB_TAP, 12, 1⟩
def F.FAB_TAP_STATUS_LIVE : Fld := ⟨.FAB_TAP_STATUS, 0, 8⟩
def F.FAB_TAP_STATUS_SLOW : Fld := ⟨.FAB_TAP_STATUS, 8, 8⟩
def F.FAB_TAP_STATUS_SWITCHED : Fld := ⟨.FAB_TAP_STATUS, 16, 8⟩
def F.FAB_PORT_CLK : Fld := ⟨.FAB_PORT, 0, 3⟩
def F.FAB_PORT_ERR_TIMEOUTS : Fld := ⟨.FAB_PORT_ERR, 0, 16⟩
def F.FAB_PORT_ERR_MASTER_REFUSED : Fld := ⟨.FAB_PORT_ERR, 16, 16⟩
def F.FAB_BRAM_ECC_CORRECTED : Fld := ⟨.FAB_BRAM_ECC, 0, 16⟩
def F.FAB_BRAM_ECC_UNCORRECTABLE : Fld := ⟨.FAB_BRAM_ECC, 16, 16⟩
def F.FAB_BRAM_ECC_FLAG_FLAG : Fld := ⟨.FAB_BRAM_ECC_FLAG, 0, 16⟩
def F.FAB_CAP_CTRL_START : Fld := ⟨.FAB_CAP_CTRL, 0, 1⟩
def F.FAB_CAP_CTRL_ARM : Fld := ⟨.FAB_CAP_CTRL, 1, 1⟩
def F.FAB_CAP_CTRL_SCOPE : Fld := ⟨.FAB_CAP_CTRL, 2, 2⟩
def F.FAB_CAP_CTRL_REGION : Fld := ⟨.FAB_CAP_CTRL, 4, 5⟩
def F.FAB_CAP_CTRL_CLK : Fld := ⟨.FAB_CAP_CTRL, 9, 3⟩
def F.FAB_CAP_STATUS_STATE : Fld := ⟨.FAB_CAP_STATUS, 0, 2⟩
def F.FAB_CAP_STATUS_DONE : Fld := ⟨.FAB_CAP_STATUS, 2, 1⟩
def F.FAB_CAP_STATUS_RESULT : Fld := ⟨.FAB_CAP_STATUS, 3, 3⟩
def F.FAB_CAP_STATUS_CAP_REFUSED : Fld := ⟨.FAB_CAP_STATUS, 6, 8⟩
def F.FAB_CAP_STATUS_SEQ : Fld := ⟨.FAB_CAP_STATUS, 16, 16⟩
def F.FAB_CAP_STAMP_LO_STAMP : Fld := ⟨.FAB_CAP_STAMP_LO, 0, 32⟩
def F.FAB_CAP_STAMP_HI_STAMP : Fld := ⟨.FAB_CAP_STAMP_HI, 0, 32⟩

end Sys2Proof.Machine
end

