-- ==== Sys2Proof/Machine/Sparse.lean ====
section
/-! DEFINITION. Sparse stores: a list of key and value pairs in ONE canonical form (keys strictly rising by a numbering of
the keys, no entry equal to what an unlisted key reads as), so that equal stores are equal lists. The register file, the
byte memories and the tables of berths and contexts are all held so. -/

namespace Sys2Proof.Machine

/-- What key `k` reads as: its entry, or `d k` where it has none. -/
def Sparse.get {κ β : Type} [DecidableEq κ] (d : κ → β) : List (κ × β) → κ → β
  | [], k => d k
  | e :: l, k => if e.1 = k then e.2 else Sparse.get d l k

/-- The store without any entry for `k`. -/
def Sparse.erase {κ β : Type} [DecidableEq κ] : List (κ × β) → κ → List (κ × β)
  | [], _ => []
  | e :: l, k => if e.1 = k then Sparse.erase l k else e :: Sparse.erase l k

/-- Put an entry in front of the first one with a larger number. -/
def Sparse.insert {κ β : Type} (code : κ → Nat) : List (κ × β) → κ → β → List (κ × β)
  | [], k, v => [(k, v)]
  | e :: l, k, v => if code k < code e.1 then (k, v) :: e :: l else e :: Sparse.insert code l k v

/-- Store `v` at `k`: the old entry goes, and a new one stands only where `v` differs from what `k` reads as unlisted. -/
def Sparse.set {κ β : Type} [DecidableEq κ] [DecidableEq β] (code : κ → Nat) (d : κ → β)
    (l : List (κ × β)) (k : κ) (v : β) : List (κ × β) :=
  if v = d k then Sparse.erase l k else Sparse.insert code (Sparse.erase l k) k v

/-- The canonical form: numbers strictly rise, every entry satisfies `ok` and differs from its unlisted value. -/
def Sparse.wf {κ β : Type} [DecidableEq β] (code : κ → Nat) (d : κ → β) (ok : κ → β → Bool) : List (κ × β) → Bool
  | [] => true
  | [e] => ok e.1 e.2 && !(decide (e.2 = d e.1))
  | e :: f :: l => ok e.1 e.2 && !(decide (e.2 = d e.1)) && decide (code e.1 < code f.1) && Sparse.wf code d ok (f :: l)

set_option linter.unusedSectionVars false
section
variable {κ β : Type} [DecidableEq κ] [DecidableEq β] (code : κ → Nat) (d : κ → β) (ok : κ → β → Bool)

theorem Sparse.get_erase (l : List (κ × β)) (k k' : κ) :
    Sparse.get d (Sparse.erase l k) k' = if k = k' then d k' else Sparse.get d l k' := by
  induction l with
  | nil => simp [Sparse.erase, Sparse.get]
  | cons e l ih =>
    by_cases h : e.1 = k
    · subst h; simp only [Sparse.erase, if_true, ih, Sparse.get]; split <;> simp_all
    · simp only [Sparse.erase, h, if_false, Sparse.get, ih]
      by_cases h2 : e.1 = k'
      · subst h2; simp [Ne.symm h]
      · simp [h2]

theorem Sparse.get_insert (l : List (κ × β)) (k k' : κ) (v : β) (h : ∀ e ∈ l, e.1 ≠ k) :
    Sparse.get d (Sparse.insert code l k v) k' = if k = k' then v else Sparse.get d l k' := by
  induction l with
  | nil => simp [Sparse.insert, Sparse.get]
  | cons e l ih =>
    have he := h e (by simp)
    simp only [Sparse.insert]
    split
    · simp [Sparse.get]
    · simp only [Sparse.get, ih (fun x hx => h x (by simp [hx]))]
      by_cases h2 : e.1 = k'
      · subst h2; simp [Ne.symm he]
      · simp [h2]

theorem Sparse.not_mem_erase (l : List (κ × β)) (k : κ) : ∀ e ∈ Sparse.erase l k, e.1 ≠ k := by
  induction l with
  | nil => simp [Sparse.erase]
  | cons a l ih =>
    intro e he
    by_cases h : a.1 = k
    · simp only [Sparse.erase, h, if_true] at he; exact ih e he
    · simp only [Sparse.erase, h, if_false, List.mem_cons] at he
      rcases he with rfl | he
      · exact h
      · exact ih e he

/-- A read after a write: the written key gives the written value, every other key what it gave. -/
theorem Sparse.get_set (l : List (κ × β)) (k k' : κ) (v : β) :
    Sparse.get d (Sparse.set code d l k v) k' = if k = k' then v else Sparse.get d l k' := by
  unfold Sparse.set
  split
  · rw [Sparse.get_erase]; split <;> simp_all
  · rw [Sparse.get_insert code d _ k k' v (Sparse.not_mem_erase l k), Sparse.get_erase]; split <;> rfl

theorem Sparse.wf_tail (e : κ × β) (l : List (κ × β)) (h : Sparse.wf code d ok (e :: l)) : Sparse.wf code d ok l := by
  cases l with
  | nil => rfl
  | cons f l => simp only [Sparse.wf, Bool.and_eq_true] at h; exact h.2

theorem Sparse.wf_head (e : κ × β) (l : List (κ × β)) (h : Sparse.wf code d ok (e :: l)) :
    ok e.1 e.2 = true ∧ e.2 ≠ d e.1 := by
  cases l with
  | nil => simpa [Sparse.wf] using h
  | cons f l => simp only [Sparse.wf, Bool.and_eq_true] at h; simpa using h.1.1

theorem Sparse.wf_lt (e : κ × β) (l : List (κ × β)) (h : Sparse.wf code d ok (e :: l)) :
    ∀ f ∈ l, code e.1 < code f.1 := by
  induction l generalizing e with
  | nil => simp
  | cons f l ih =>
    have h1 : code e.1 < code f.1 := by simp only [Sparse.wf, Bool.and_eq_true, decide_eq_true_eq] at h; exact h.1.2
    intro x hx
    rcases List.mem_cons.mp hx with rfl | hx
    · exact h1
    · exact lt_trans h1 (ih f (Sparse.wf_tail code d ok e _ h) x hx)

theorem Sparse.wf_cons (e : κ × β) (l : List (κ × β)) (h1 : ok e.1 e.2 = true) (h2 : e.2 ≠ d e.1)
    (h3 : ∀ f ∈ l, code e.1 < code f.1) (h4 : Sparse.wf code d ok l) : Sparse.wf code d ok (e :: l) := by
  cases l with
  | nil => simp [Sparse.wf, h1, h2]
  | cons f l => simp [Sparse.wf, h1, h2, h3 f (by simp), h4]

theorem Sparse.mem_of_mem_erase (l : List (κ × β)) (k : κ) : ∀ e ∈ Sparse.erase l k, e ∈ l := by
  induction l with
  | nil => simp [Sparse.erase]
  | cons a l ih =>
    intro e he
    by_cases h : a.1 = k
    · simp only [Sparse.erase, h, if_true] at he; exact List.mem_cons_of_mem _ (ih e he)
    · simp only [Sparse.erase, h, if_false, List.mem_cons] at he
      rcases he with rfl | he
      · simp
      · exact List.mem_cons_of_mem _ (ih e he)

theorem Sparse.erase_wf (l : List (κ × β)) (k : κ) (h : Sparse.wf code d ok l) :
    Sparse.wf code d ok (Sparse.erase l k) := by
  induction l with
  | nil => exact h
  | cons a l ih =>
    have ht := ih (Sparse.wf_tail code d ok a l h)
    by_cases hk : a.1 = k
    · simpa only [Sparse.erase, hk, if_true] using ht
    · simp only [Sparse.erase, hk, if_false]
      obtain ⟨h1, h2⟩ := Sparse.wf_head code d ok a l h
      exact Sparse.wf_cons code d ok a _ h1 h2
        (fun f hf => Sparse.wf_lt code d ok a l h f (Sparse.mem_of_mem_erase l k f hf)) ht

theorem Sparse.filter_wf (p : κ × β → Bool) (l : List (κ × β)) (h : Sparse.wf code d ok l) :
    Sparse.wf code d ok (l.filter p) := by
  induction l with
  | nil => simp [Sparse.wf]
  | cons e l ih =>
    have ih := ih (Sparse.wf_tail code d ok e l h)
    rw [List.filter_cons]
    split
    · exact Sparse.wf_cons code d ok e _ (Sparse.wf_head code d ok e l h).1 (Sparse.wf_head code d ok e l h).2
        (fun f hf => Sparse.wf_lt code d ok e l h f (List.mem_of_mem_filter hf)) ih
    · exact ih

theorem Sparse.mem_insert (l : List (κ × β)) (k : κ) (v : β) :
    ∀ e ∈ Sparse.insert code l k v, e = (k, v) ∨ e ∈ l := by
  induction l with
  | nil => simp [Sparse.insert]
  | cons a l ih =>
    intro e he
    simp only [Sparse.insert] at he
    split at he
    · simpa using he
    · rcases List.mem_cons.mp he with rfl | he
      · simp
      · rcases ih e he with h | h
        · exact .inl h
        · exact .inr (List.mem_cons_of_mem _ h)

theorem Sparse.insert_wf (l : List (κ × β)) (k : κ) (v : β) (h : Sparse.wf code d ok l) (h1 : ok k v = true)
    (h2 : v ≠ d k) (h3 : ∀ e ∈ l, code e.1 ≠ code k) : Sparse.wf code d ok (Sparse.insert code l k v) := by
  induction l with
  | nil => simp [Sparse.insert, Sparse.wf, h1, h2]
  | cons a l ih =>
    simp only [Sparse.insert]
    have hlt := Sparse.wf_lt code d ok a l h
    obtain ⟨ha1, ha2⟩ := Sparse.wf_head code d ok a l h
    split
    · rename_i hk
      refine Sparse.wf_cons code d ok (k, v) _ h1 h2 ?_ h
      intro f hf
      rcases List.mem_cons.mp hf with rfl | hf
      · exact hk
      · exact lt_trans hk (hlt f hf)
    · rename_i hk
      have hak : code a.1 < code k := lt_of_le_of_ne (not_lt.mp hk) (h3 a (by simp))
      refine Sparse.wf_cons code d ok a _ ha1 ha2 ?_
        (ih (Sparse.wf_tail code d ok a l h) (fun e he => h3 e (List.mem_cons_of_mem _ he)))
      intro f hf
      rcases Sparse.mem_insert code l k v f hf with rfl | hf
      · exact hak
      · exact hlt f hf

theorem Sparse.wf_all (l : List (κ × β)) (h : Sparse.wf code d ok l) : ∀ e ∈ l, ok e.1 e.2 = true := by
  induction l with
  | nil => simp
  | cons a l ih =>
    intro e he
    rcases List.mem_cons.mp he with rfl | he
    · exact (Sparse.wf_head code d ok _ l h).1
    · exact ih (Sparse.wf_tail code d ok a l h) e he

/-- A write keeps the canonical form. -/
theorem Sparse.set_wf (l : List (κ × β)) (k : κ) (v : β) (h : Sparse.wf code d ok l) (h1 : ok k v = true)
    (inj : ∀ a b, ok a b = true → code a = code k → a = k) : Sparse.wf code d ok (Sparse.set code d l k v) := by
  unfold Sparse.set
  split
  · exact Sparse.erase_wf code d ok l k h
  · rename_i h2
    refine Sparse.insert_wf code d ok _ k v (Sparse.erase_wf code d ok l k h) h1 h2 ?_
    intro e he hc
    exact Sparse.not_mem_erase l k e he
      (inj e.1 e.2 (Sparse.wf_all code d ok l h e (Sparse.mem_of_mem_erase l k e he)) hc)
end

end Sys2Proof.Machine
end

