-- ==== Sys2Proof/Machine/State.lean ====
section
/-! DEFINITION. The state of the module: plain data. -/

namespace Sys2Proof.Machine

/-- Why the machine stops. -/
inductive Fault where
  /-- Raised by VIN_HIGH_RISE with VIN above the absolute maximum of R447: R60 says the behaviour there is not
  specified. Safe: the model stops where the hardware may do anything. -/
  | beyondAbsoluteMaximum
deriving DecidableEq, Repr

/-- Why a command has no meaning. -/
inductive Refusal where
  /-- A command whose meaning is not written yet. Safe: the model stops. -/
  | notModelled (mnemonic : String)
deriving DecidableEq, Repr

/-- The answer of the latest register or port access: none yet, data (0 for a write), an error response, or no target. -/
inductive Resp where
  | none | ok (d : DWord) | error | noTarget
deriving DecidableEq, Repr

/-- What leaves the module, in order. -/
inductive Tx where
  /-- R221: a Delay_Req (false) or Pdelay_Req (true). -/
  | ptpRequest (peer : Bool) (seq : Nat)
  /-- R221: a Pdelay_Resp and its Pdelay_Resp_Follow_Up: receipt and departure times. -/
  | ptpPdelayResp (seq : BitVec 16) (t2 : Nat)
  /-- R398: a packet, headers, payload and trailer. -/
  | packet (port : Port) (words : List DWord)
  /-- R400: the link words ACK and NAK. -/
  | link (port : Port) (cls : RingCls) (good : Bool) (lseq : Nat)
  /-- R403, R394: maintenance packets whose layout the spec does not give, by what they carry: delay requests and responses (stamps in
  units of 2^-16 ns), a census with its members, the ring map. -/
  | delayReq (port : Port) (t1 : Nat)
  | delayResp (port : Port) (t1 t2 t3 : Nat)
  | census (port : Port) (members : List (BitVec 6))
  | map (port : Port) (seq : Nat) (head : BitVec 6) (order : List (BitVec 6)) (closed : Bool)
  /-- R412: a bus-master request: its address, its length, and its bytes where it is a write. -/
  | busRead (addr len : Nat)
  | busWrite (addr : Nat) (bytes : List (Option Byte))
  /-- R413: an MSI-X message: its vector. -/
  | msix (vector : Nat)
  /-- R411: the answer to a host read. -/
  | hostAnswer (r : Resp)
  /-- R415: an ARP reply, an ICMP echo reply, an IGMPv2 report. -/
  | arpReply (dest : BitVec 48)
  | echoReply (dest : BitVec 32) (data : List Byte)
  | igmpReport (group : BitVec 32)
deriving DecidableEq, Repr

/-! ### Supply and start-up -/

/-- Where the supervisor stands between a supply and service. -/
inductive Life where
  /-- Held in power-on reset or unpowered: the module is absent. -/
  | off
  /-- VIN is above VON: t0 has passed and the boot ROM runs (step 1 of R70, steps 1 and 2 of R82). -/
  | boot
  /-- The supervisor registers answer (from step 2 of R70). -/
  | up
  /-- The power-fail sequence of R61 has started. -/
  | failing
  /-- The internal rails have collapsed (step 6 of R61). -/
  | collapsed
deriving DecidableEq, Repr

/-- R57 to R83: supply, groups and start-up. -/
structure PwrSt where
  life : Life
  /-- The present reset is a module reset (R82), not a supply reset. -/
  warm : Bool
  /-- Clock of the start reference: t0, or the reset write or packet. -/
  startRef : Nat
  /-- R61: VIN is below VOFF and the dip filter runs, or the dip has been detected. -/
  vinLow : Bool
  dipSeen : Bool
  /-- R61: the system clock of the fall of VIN. -/
  lowAt : Int
  /-- R41, R6: straps sampled. -/
  module : BitVec 6
  headStrap : Bool
  /-- R70: groups whose isolated supply is started, and groups whose die is alive and link up. -/
  supplied : Vector Bool 4
  alive : Vector Bool 4
  /-- R180: the system clock at which the die of a group last came alive. -/
  aliveAt : Vector Int 4
  /-- R68: the clocks of the failures of a group within the last 10 s, latest first. -/
  failures : Vector (List Nat) 4
  /-- R68: a group restart is owed. -/
  restartDue : Vector Bool 4
  /-- R429: the failure map of the group has been restored since the start. -/
  mapped : Vector Bool 4
  /-- R73: step 9 is complete. -/
  restored : Bool
  /-- R73: released into full service. -/
  released : Bool
  /-- R77: the clock of the verification of a fallback load. -/
  secondVerify : Option Nat
  /-- R45: SYS.MODE was written since the last module reset. -/
  modeWritten : Bool
  /-- R75: the level of S.SAFE_N is low. -/
  safePinLow : Bool
  /-- R60: VIN, in mV, while it is above the VIN_HIGH threshold. -/
  vinHigh : Option Nat
  /-- R69: g.VFLD is at or above 10.5 V. -/
  vfld : Vector Bool 4
  /-- R340: the system clock at which the operating hour in progress is whole. -/
  hourDue : Int
deriving DecidableEq, Repr

/-! ### The fault log -/

/-- R417: one entry of the fault log, without its CRC. -/
structure LogEntry where
  seq : Nat
  kind : Nat
  part : Nat
  parts : Nat
  time : Nat
  subject : Nat
  resets : Nat
  modes : Nat
  data : List Byte
deriving DecidableEq, Repr

/-- R419: the log in flash, the buffer of entries that wait, the next SEQ, the entries lost since the buffer last had
room, and the RESETS counter. -/
structure LogSt where
  flash : List LogEntry
  queue : List LogEntry
  next : Nat
  lost : Nat
  resets : Nat
deriving DecidableEq, Repr

/-! ### The Harbour -/

/-- R356: the sources that may hold an open packet in a berth. -/
inductive PushSrc where
  | host
  | fabric (d : Die)
  | dma (c : Chan)
  | engine (e : Eng)
deriving DecidableEq, Repr

/-- R354: a cell: its data, its end mark, and whether it belongs to a gap mark (R363). -/
structure HCell where
  data : DWord
  last : Bool
  gap : Bool
deriving DecidableEq, Repr

/-- A berth's contents. -/
structure BerthSt where
  /-- Committed cells, head first. -/
  cells : List HCell
  /-- R360: the packets at the tail whose commit the consumer has not seen, oldest first: their sizes, and the edge of the consumer's clock
  by which each had committed. -/
  hidden : List (Nat × Nat)
  /-- R360: the consumer's acts that the producer has not seen, oldest first: the cells each freed, and the edge of the producer's clock. -/
  unseen : List (Nat × Nat)
  /-- R356: the open packet of each source. -/
  opens : List (PushSrc × List DWord)
  /-- R362: the sources whose open packet was dropped and whose end mark is still to come. -/
  discard : List PushSrc
  /-- R362: the pending gap count and the time of its first drop. -/
  gap : Nat
  gapTime : Nat
  /-- R364: the last cell popped. -/
  lastPop : DWord
  /-- R358: low halves held for PUSH and for PUSH_END, and high halves held for POP and for PEEK. -/
  pushLo : List (PushSrc × Word)
  endLo : List (PushSrc × Word)
  popHi : List (PushSrc × Word)
  peekHi : List (PushSrc × Word)
  /-- R357: the tag of the last pop of each source. -/
  tags : List (PushSrc × Nat)
deriving DecidableEq, Repr

/-- An empty berth. -/
def BerthSt.empty : BerthSt := ⟨[], [], [], [], [], 0, 0, 0, [], [], [], [], []⟩

/-! ### Pins, comparators, outputs -/

/-- A general pin or a differential pair. -/
structure PinSt where
  /-- R321: the level an outside source sets; none where nothing outside drives the pin. -/
  ext : Option Bool
  /-- R127: drive and enable outlets of the logic dies: none where the enable outlet is 0. -/
  fab0 : Option Bool
  fab1 : Option Bool
  /-- R326: the hold latch: what the pin drove at the last change of its governing row. -/
  hold : Option Bool
  /-- R323: the FIELD switch has turned off; the clock at which it last did, or a retry failed. -/
  tripped : Bool
  tripAt : Nat
  /-- R234: the clock at which the outside source last came or went. -/
  extAt : Nat
deriving DecidableEq, Repr

/-- R316, R319: which set a comparator runs on. -/
inductive CmpRun where
  | off | configured | nv
deriving DecidableEq, Repr

/-- A comparator. -/
structure CmpSt where
  /-- R315: the last samples of L, latest first. -/
  samples : List Bool
  run : CmpRun
  /-- R318: threshold and hysteresis codes in force. -/
  a : Int
  b : Int
  hyst : Nat
  /-- R316: the set that takes over at the first filter edge, and the clock of what asked for it. -/
  want : Option (CmpRun × Nat)
  /-- R318: the clock of a write to THR or HYST that has not taken effect. -/
  thrAt : Option Nat
  /-- R315: the clock of the last filter edge. -/
  edgeAt : Option Nat
deriving DecidableEq, Repr

/-- A comparator that is off. -/
def CmpSt.initial : CmpSt := ⟨[], .off, 0, 0, 0, none, none, none⟩

/-- R292, R294: what an output's amplifier drives. -/
inductive Drive where
  /-- Unpowered: high-impedance (R64). -/
  | off
  /-- 0 V or 0 mA, in a range change (R301). -/
  | zero
  | code (c : BitVec 16)
  | dds (e : DdsE)
  | track (t : Nat)
  /-- R53: the level that a track gave at the parking edge, in volts at the sense point. -/
  | held (level : ℚ)
deriving DecidableEq, Repr

/-- An output. -/
structure OutSt where
  /-- From step 5 of R70. -/
  powered : Bool
  /-- R71: between step 5 and 200 us after it, and the system clock of step 5. -/
  gateDelay : Bool
  gateFrom : Nat
  /-- R301: the step of the range change in progress, 0 for none, and the new range. -/
  phase : Nat
  target : Nat
  /-- R301: the range left. -/
  from_ : Nat
  /-- R298, R301, R311: the contents of CFG and VALUE in effect. -/
  cfg : Word
  code : BitVec 16
  /-- R297: NV_RANGE as the last supply reset or module reset read it. -/
  nvRange : Nat
  /-- R298: what the parked hold drives. -/
  frozen : Drive
  /-- R298: a VALUE write in PARKED would end the fault state, the NV power-up hold. -/
  endFault : Bool
  endNv : Bool
  /-- R307: what the pin showed last, and the clock at which that changed. -/
  shown : Drive × Bool × Nat
  changed : Nat
deriving DecidableEq, Repr

/-- A DDS engine: its accumulator (R302), the AT of a closed set (R304), the phase wrapped through 0 at the last conversion-clock edge, and in FOLLOW the phase and the advance per conversion
clock it was last sent (R303), both in units of 2^-48 cycle divided by 10^8; and the shadow words whose last write set a reserved bit (R304). -/
structure DdsSt where
  acc : Nat
  atWrap : Bool
  wrapped : Bool
  follow : Nat
  step : Int
  resv : Nat
deriving DecidableEq, Repr

/-! ### The policy image -/

/-- R286 to R290: policy images: the two slots in flash, the image in force, and the image being received. -/
structure PolSt where
  slots : Vector (List Byte) 2
  /-- The plaintext of the image in force; none where none verified (R78). -/
  inForce : Option (List Byte)
  buffer : List Byte
  ended : Bool
  /-- R289: the slot that the operation in progress started with. -/
  slot : Fin 2
deriving DecidableEq, Repr

/-! ### Pairing -/

/-- R437 to R443: mirror writes that wait to be sent, and where a planned take-over stands. -/
structure PairSt where
  mirrorQ : List (BitVec 24 × Word)
  /-- R442: this module has taken over and holds its current-class gates open (steps 2 to 4). -/
  currentHeld : Bool
  /-- A heartbeat has been answered since PAIRED entered force. -/
  heard : Bool
  /-- R438: a mirror write was not acknowledged in time. -/
  behind : Bool
  /-- R442: the planned take-over in which this module became active has not reached step 4. -/
  planned : Bool
  /-- The PAIR_ROLE and the YIELD that the partner last reported. -/
  partner : Nat
  yields : Bool
  /-- R439, R441: the system clock of the last heartbeat answer, or of the entry of PAIRED into force; a heartbeat read since then has
  completed NO_TARGET. -/
  answeredAt : Nat
  gone : Bool
deriving DecidableEq, Repr

/-! ### Flash -/

/-- R287, R297: an output's values in the NV output value area. -/
structure NvVal where
  range : Nat
  pu : Nat
  fault : Nat
  puOpen : Bool
  faultOpen : Bool
deriving DecidableEq, Repr

/-- What flash and OTP hold, beside the fault log and the policy slots. -/
structure FlashSt where
  /-- R72: the NV output value area and whether its CRC fails. -/
  nv : Vector NvVal 32
  nvBad : Bool
  /-- R297: the clock by which the rewrite in progress has ended. -/
  nvUntil : Nat
  /-- R424, R430: the failure map, bit n of group g. -/
  convFailed : Vector Nat 4
  coreFailed : Vector Nat 4
  /-- R84, R108: slots A and B and the library: the bytes programmed. -/
  slots : Vector (List Byte) 2
  lib : Vector (List Byte) 32
  /-- R436: retired regions and their replacements, and the regions to be unretired at the next start. -/
  retired : List (Nat × Nat)
  unretire : List Nat
  /-- R92: the public-key slots (a P-256 point each) and the AES-256 key slots of one-time-programmable memory. -/
  signKeys : Vector (Nat × Nat) 8
  aesKeys : Vector (List Byte) 4
deriving DecidableEq, Repr

/-! ### Step engines and limits -/

/-- R261, R265: what a step engine holds beside its registers. -/
structure EngSt where
  /-- R261: the return stack, top first. -/
  stack : List Nat
  /-- R265: the context of the TIDE wait in progress, and whether it has decided since the wait began. -/
  tide : Option Nat
  tideHit : Bool
  /-- R262: a LOAD waits for a fabric window: the die it waits on, RA and X. -/
  load : Option (Die × Nat × Nat)
  /-- R271: HALT was written while the LOAD was in progress. -/
  halting : Bool
  /-- R270: the clock of the last ring; several rings in one system clock count as one. -/
  rung : Option Nat
deriving DecidableEq, Repr

/-- What a monitor looks at in a record. -/
structure RecView where
  conv : Nat
  entry : Nat
  sample : Int
  fail : Bool
  injected : Bool
  reduced : Bool
  ovr : Bool
deriving DecidableEq, Repr

/-- R273: what the monitors evaluate at the end of the system clock: a record, or the code written to an output. -/
inductive LimCase where
  | record (r : RecView)
  | setpoint (output code : Nat)
deriving DecidableEq, Repr

/-- R273 to R284. -/
structure LimSt where
  /-- R275: the latest evaluation of the monitor lay within the limits. -/
  within : Vector Bool 128
  /-- R274: the clock of the monitor's last evaluated record, or of the last STALE period counted. -/
  seen : Vector Nat 128
  /-- R273, R285: what waits for its evaluation. -/
  due : List LimCase
  /-- R283: the clock at which the watchdog was last reloaded. -/
  wdogRef : Nat
deriving DecidableEq, Repr

/-! ### The scheduler -/

/-- R253: a decision that has not issued: its context, the due clock, the module time then, the outcome, the points. -/
structure Decision where
  ctx : Nat
  due : Nat
  ns : Nat
  outcome : Nat
  count : Nat
deriving DecidableEq, Repr

/-- R252: what holds the contexts of a tracker: nothing, or the tracker, which is out of lock; `first` where the return is
a first lock; `back` is the measured phase of the return, once it has come. -/
inductive TrkHold where
  | free
  | held (first : Bool) (back : Option Int)
deriving DecidableEq, Repr

/-- R242 to R259: what the scheduler holds beside its registers and the context memory. -/
structure SchedSt where
  /-- Decisions waiting, in the order of their issue. -/
  queue : List Decision
  /-- R254: the points gathered for a context whose decision waits. -/
  gather : List (Nat × Nat)
  /-- R247: contexts armed and not judged yet; of those, the clock of the arming write, and the position at it of one armed in a hold
  (R252). -/
  fresh : List Nat
  arms : List (Nat × Nat × Option Int)
  /-- R259: the interval that an armed phase context still uses until its next decision. -/
  was : List (Nat × Nat)
  /-- R254: the clock of the last issue and the decisions issued in it. -/
  issued : Nat × Nat
  /-- R256, R257: completion records on their way: the clock of the issue, berth, cell 0 without SEQ, cell 1. -/
  recs : List (Nat × Nat × Nat × Nat)
  /-- R258: marks on their way: the clock of the issue, berth, cell 0, cell 1. -/
  marks : List (Nat × Nat × Nat × Nat)
  trk : Vector TrkHold 4
  /-- The intervals in force (SCHED.REPEAT), by entry. -/
  intervals : List (Nat × Nat)
deriving DecidableEq, Repr

/-! ### Tide -/

/-- R231: a source event or a jump in a tracker's history: its instant as a system clock, the phase just before and just
after, the velocity from there on, and whether it is a home. -/
structure TrkSeg where
  at_ : Int
  before : Int
  phase : Int
  vel : Int
  home : Bool
deriving DecidableEq, Repr

/-- R234: a converter output, or a filtered modulator sample, on its way to a tracker: its instant, the clock at which it reaches the
supervisor (R229), the value with FS = 2^23, whether it carries OVR, SETTLE or FAIL, whether it is of the cos converter, and the output
period in system clocks. -/
structure TrkIn where
  at_ : Int
  due : Nat
  x : Int
  flagged : Bool
  cos : Bool
  period : Nat
deriving DecidableEq, Repr

/-- R173: a decimator: its four accumulators, and the contents of the third and the fourth at the last instants of 2 × fout, latest
first. Weights count in units of FS / 12. -/
structure Decim where
  acc1 : Int
  acc2 : Int
  acc3 : Int
  acc4 : Int
  taps : List (Int × Int)
deriving DecidableEq, Repr

/-- R171: a cleared filter. -/
def Decim.clear : Decim := ⟨0, 0, 0, 0, []⟩

/-- R306, R309: the monitor converter and the spare core of a group. -/
structure MonSt where
  /-- R306: the modulator edge at which the slot in progress began, the node it converts, and its filter. -/
  slotStart : Nat
  node : Nat
  dec : Decim
  /-- R308: the outputs that wait for slot 13, in the order of their faults. -/
  rbWait : List Out
  /-- R309, R310: the core hand-over in progress is a return; the clock of its decision. -/
  coreReturn : Bool
  coreAt : Nat
deriving DecidableEq, Repr

/-- The monitor converter before its first slot. -/
def MonSt.initial : MonSt := ⟨0, 0, .clear, [], false, 0⟩

/-- R228 to R237: what a tracker holds beside its registers. Positions are in units of 2^-32 of a source period (R234); for
SCALE and TIME in units of 2^-32 cycle. -/
structure TrkSt where
  /-- The position at the latest source event, and the event's instant as a system clock. -/
  pos : Int
  at_ : Int
  /-- R230: the presented phase holds until the measured phase passes this one. -/
  floor : Int
  /-- The instants and positions that the velocity is taken over, latest first. -/
  hist : List (Int × Int)
  /-- The velocity after the latest event, 16.16 cycles per second, before saturation. -/
  vel : Int
  /-- R234: the last levels of A and B. -/
  a : Bool
  b : Bool
  /-- R235: bad pairs, or skipped outputs, in a row; good pairs in a row outside lock; the angle of the last good pair. -/
  bad : Nat
  good : Nat
  angle : Option Nat
  /-- R236: the position that the angle 0 stands for. -/
  org : Int
  /-- R234: the instant of the last crossing and the last period, in system clocks. -/
  crossing : Option Int
  period : Nat
  /-- R234: SCALE's offset, 2^-32 cycle; TIME's starting module time. -/
  offset : Int
  t0 : Nat
  /-- R234: the demodulated events of a resolver: instant, sin and cos products. -/
  demod : List (Int × Int × Int)
  /-- R234: events that no TRACKER_SOURCE_EVENT has taken yet, oldest first; the clock of the latest arrival, and its output period. -/
  inbox : List TrkIn
  lastIn : Nat
  spacing : Nat
  /-- R234: the tracker's own filters for TAPS = 1. -/
  sinD : Decim
  cosD : Decim
  /-- R236: the phase at the entry to HOLD, and its clock. -/
  holdFrom : Int
  holdAt : Nat
  /-- R238: the clock of the last home event. -/
  homed : Option Nat
  /-- R231: the history, latest first. -/
  segs : List TrkSeg
deriving DecidableEq, Repr

/-- A foreign master: its Announce message and how many were received. -/
structure PtpMaster where
  from_ : BitVec 64
  rank : List Nat
  utc : BitVec 16
  utcValid : Bool
  arb : Bool
  /-- R221: logMessageInterval of its Announce messages; those received in the foreign-master window; the clock of the latest. -/
  log : BitVec 8
  seen : Nat
  at_ : Nat
deriving DecidableEq, Repr

/-- R216 to R227. -/
structure TimeSt where
  /-- R222: the last values of RATE, latest first, at most 16. -/
  rates : List Int
  /-- R222, R225: consecutive offsets within the lock band, and beyond the unlock band. -/
  near : Nat
  far : Nat
  /-- R225: the next time packet steps module time. -/
  fresh : Bool
  /-- R221: foreign masters, the Sync that waits for its Follow_Up (sequence, t2, correction), the last t1 and t2, the
  sequence number of the next request, the Delay_Req or Pdelay_Req that waits (sequence, send time), the Pdelay_Resp that
  waits (t2, t4), and whether a path delay is known. -/
  masters : List PtpMaster
  sync : Option (Nat × Int × Int)
  last : Option (Int × Int)
  seq : Nat
  req : Option (Nat × Int)
  resp : Option (Int × Int)
  delayKnown : Bool
  /-- R222: the clock at which the latest Sync was accepted. -/
  syncAt : Nat
  /-- R224: the hops of the last time packet from west and from east, and the clocks at which they arrived. -/
  heard : Vector (Option Nat) 2
  heardAt : Vector Nat 2
  /-- R224, R227: the clocks at which module time, counting, last reached a whole second and a whole millisecond. -/
  second : Option Nat
  milli : Option Nat
  /-- R403: the last link delays measured on west and on east, 1/16 ns, latest first, at most 16. -/
  links : Vector (List Int) 2
  /-- R219: the clocks at which module time stepped or RATE changed, with the time and RATE from there on, latest first. -/
  anchors : List (Nat × Nat × Int)
  /-- R227: S.PPS_OUT is high, and the clock at which it falls. -/
  pps : Bool
  ppsEnd : Nat
deriving DecidableEq, Repr

/-! ### Cells, converters, calibration -/

/-- R153, R154: what a cell's control input does to it. -/
inductive CellMode where
  | runs | initial | frozen | tracks | holds
deriving DecidableEq, Repr

/-- R149 to R158: the voltages inside a cell, in volts. -/
structure CellVolts where
  /-- The amplifier's output, before the limits of LIMIT. -/
  y : ℚ
  /-- R151: the two integrators of a second-order section. -/
  band : ℚ
  low : ℚ
  /-- R150: the currents through the input networks of DIFF, and the inputs at the step before. -/
  amps : Vector ℚ 3
  ins : Vector ℚ 3
  /-- R150: the sign that SQUARE gives x1: +1.25 V. -/
  square : Bool
  /-- R155: the clock at which the output returned into range, while CLIP_NOW is still 1. -/
  back : Option Nat
deriving DecidableEq, Repr

/-- A cell at rest at a voltage. -/
def CellVolts.rest (y : ℚ) : CellVolts := ⟨y, 0, 0, Vector.replicate 3 0, Vector.replicate 3 0, true, none⟩

/-- R141, R145 to R163: the analogue side of a group. -/
structure CellsSt where
  /-- R160, R161: the clock of the COMMIT write; the closed set has taken effect and is not reported yet; the clock at which it did. -/
  commitAt : Nat
  handed : Bool
  takenAt : Nat
  /-- R148: every track has its driver; the tracks that hold their last voltage; the voltages of the tracks, in volts. -/
  connected : Bool
  held : Vector Bool 24
  tracks : Vector ℚ 24
  /-- R153, R154: the modes of the cells. -/
  modes : Vector CellMode 12
  volts : Vector CellVolts 12
  /-- R157: the crystal period that each switched-capacitor clock is in, from the start of phase 1. -/
  sck : Vector Nat 4
  /-- R141: the mode of each input that the group has taken, and the clock at which that mode last changed. -/
  inMode : Vector Nat 16
  inAt : Vector (Option Nat) 16
deriving DecidableEq, Repr

/-- Cells and tracks at rest. -/
def CellsSt.initial : CellsSt :=
  { commitAt := 0, handed := false, takenAt := 0, connected := true, held := Vector.replicate 24 false, tracks := Vector.replicate 24 0
    modes := Vector.replicate 12 .runs, volts := Vector.replicate 12 (.rest 0), sck := Vector.replicate 4 0
    inMode := Vector.replicate 16 0, inAt := Vector.replicate 16 none }

/-- R168: a modulator: the codes of its latest two samples, latest first, and what the sum of the node voltages, as fractions of FS, has
over the sum of the weights given. -/
structure ModSt where
  code : BitVec 4
  prev : BitVec 4
  err : ℚ
deriving DecidableEq, Repr

/-- R170: an overload event: its first clock, the clock after which it has ended, its declarations (clock, positive), latest
first. -/
structure Overload where
  start : Nat
  stop : Option Nat
  decl : List (Nat × Bool)
deriving DecidableEq, Repr

/-- R180, R181: the clocks at which INTERNAL and the selected reference last became settled, the selection, the readings of
the present test, latest first, and the mean at which REF_SETTLED last set; in µV. -/
structure RefSt where
  intAt : Nat
  refAt : Nat
  selAt : Nat
  readings : List Int
  mean : Int
deriving DecidableEq, Repr

/-- What a converter does. -/
inductive ConvRun where
  /-- Disabled, or not serving. -/
  | off
  /-- RUN = 1 and no pass in progress. -/
  | idle
  /-- In a visit. -/
  | visit
  /-- In an injected conversion of a slot. -/
  | inj (s : Fin 4)
  /-- R208: waiting for a pending slot's acting edge. -/
  | hold
  /-- R53: stopped. -/
  | stopped
  /-- R56: waiting for the restart after REDUCED. -/
  | restart
  /-- R425: failed and not served by the spare. -/
  | unserved
deriving DecidableEq, Repr

/-- What follows injected work (R208 to R210) or a stop (R50). -/
inductive ConvNext where
  /-- The interrupted visit resumes. -/
  | resume
  /-- The visit of an entry starts. -/
  | start (e : Nat)
  | idle
deriving DecidableEq, Repr

/-- R467: what waits for its acting edge: an enabling (R198), a disabling (R212), a start request (R199), the cancellation of a slot
(R211), with the acting edge that the slot's request had. -/
inductive CvAct where
  | enable | disable | start
  | cancel (k : Fin 4) (request : Nat)
deriving DecidableEq, Repr

/-- R196 to R214: a converter CV0 to CV7. -/
structure ConvSt where
  run : ConvRun
  next : ConvNext
  /-- R171: the clock at which the dwell in progress began. -/
  began : Nat
  /-- R171: the clock at which the window opened; none in a dwell. -/
  opened : Option Nat
  /-- R173: the filter. -/
  dec : Decim
  /-- R184: the opening of the first window of an interleaved pair (held by the even converter). -/
  grid : Option Nat
  /-- R208: the slot whose node the front end is on. -/
  front : Fin 4
  /-- R467: requests that wait for their acting edges, in the order applied. -/
  acts : List (Nat × CvAct)
  /-- R63: the number of the last record that was written into a berth since the reset. -/
  landed : Option Nat
  /-- R54: it runs the reduced-service sequence; R56: the clock at which REDUCED last left force. -/
  reduced : Bool
  freeAt : Nat
  /-- R208: the acting edges of the pending slots. -/
  actAt : Vector Nat 4
  /-- R178, R188: outputs that still carry SETTLE; the next output carries CAL_STEP. -/
  settle : Nat
  calStep : Bool
  /-- R201, R203: the committed set has taken effect and is not reported yet, and the clock of its boundary; the clock of the COMMIT write. -/
  handed : Bool
  handedAt : Nat
  commitAt : Nat
  /-- R199, R200, R467: the acting edges of a waiting advance request, and of a start request with RUN = 0. -/
  advAt : Nat
  startAt : Option Nat
  /-- R53: it stops after the conversion in progress. -/
  stopping : Bool
  /-- R350: its field set is discarded at the next entry boundary. -/
  factory : Bool
deriving DecidableEq, Repr

/-- R204, R344, R428: the move of work that waits for an entry boundary. -/
inductive SpareMove where
  | none
  /-- The spare takes over the converter, with this ROLE. -/
  | take (n : Fin 8) (role : Nat)
  /-- The converter returns; `step`: its first record carries CAL_STEP. -/
  | back (n : Fin 8) (step : Bool)
deriving DecidableEq, Repr

/-- The spare converter of a group: the move that waits and the clock it was asked for, and the failed converter that a
promotion under R427 is decided for, with the clock of the decision. -/
structure SpareSt where
  move : SpareMove
  moveAt : Nat
  promote : Option (Fin 8)
  promoteAt : Nat
  /-- R427: a promotion that is decided and not reported, and the spare's ROLE before it. -/
  report : Option (Fin 8 × Nat)
  /-- R348: the failed core whose promotion waits for the end of a preempted run. -/
  core : Option (Fin 8)
deriving DecidableEq, Repr

/-- R334: one point of a coefficient set: the path, the die temperature in 1/16 °C, offset, gain, and the third value. -/
structure CalPoint where
  path : Nat
  temp : Int
  ofs : Int
  gain : Nat
  aux : Nat
deriving DecidableEq, Repr

/-- R334, R340: a field set and the value of CAL.HOURS at which it was formed. -/
structure FieldSet where
  points : List CalPoint
  hours : Nat
deriving DecidableEq, Repr

/-- R339 to R346: a run in progress. -/
structure CalRun where
  cls : Nat
  target : Nat
  background : Bool
  /-- The paths measured, and the readings of the measurement in progress: index, reference readings, (path, offset),
  (path, gain), die temperatures. -/
  paths : List Nat
  index : Nat
  refs : List Int
  ofs : List (Nat × Int)
  gains : List (Nat × Int)
  temps : List Int
  /-- The set formed, waiting to be stored. -/
  formed : Option FieldSet
  /-- The run's end: the cause once it is decided. -/
  verdict : Option Nat
deriving DecidableEq, Repr

/-- R334 to R349: the calibration controller of a group: field sets by class × 16 + item, the die temperature, the run,
background failures in a row and the hour of the last failure by item, the clock at which the reading in progress began (R341), and the
last background item, class × 8 + target (R340). -/
structure CalSt where
  sets : List (Nat × FieldSet)
  temp : Int
  run : Option CalRun
  fails : List (Nat × Nat)
  retry : List (Nat × Nat)
  readAt : Nat
  turn : Nat
deriving DecidableEq, Repr

/-! ### The loader and the fabric -/

/-- What the loader does. -/
inductive LoadOp where
  | none
  /-- R99: a full load from a slot; `again`: the fallback of R100. -/
  | full (slot : Fin 2) (again : Bool)
  /-- R104: a region load from the host or from the library; `auto`: for a relocation of R435. -/
  | region (host auto : Bool)
  /-- R108: flash programming: slot 0 or 1, or library entry n as 2 + n. -/
  | program (dest : Nat)
deriving DecidableEq, Repr

/-- R84 to R110: the loader: the bytes received from the host, or copied from the library; the header has passed; how many
frames have been checked; the ADDRESS of the latest one; the group frames' pairs, as window offsets (R88). -/
structure LoadSt where
  op : LoadOp
  target : Reg
  /-- R105: the target was held when the load started, so it stays held until the load ends. -/
  held : Bool
  lib : Fin 32
  stream : List Byte
  ended : Bool
  header : Bool
  frames : Nat
  last : Option Nat
  pairs : List (Nat × Word)
  /-- R100: a fallback load is owed from this slot. -/
  fallback : Option (Fin 2)
  /-- R97: the system clock at which the last byte arrived, or the operation started. -/
  byteAt : Nat
deriving DecidableEq, Repr

/-- What a burst of bus accesses is for: a ring request whose completion is owed, a host access to this module (its bytes and
BAR0 offset), a DMA tag, the delivery of a berth's head cell (R359). -/
inductive BusUse where
  | ring (words : List DWord)
  | host (bytes : Nat) (write : Bool) (off : Nat)
  | dma (tag : Nat)
  | delivery (b : Nat) (c : HCell)
deriving DecidableEq, Repr

/-- A burst whose accesses wait for READY (R131): how many are left, whether one was refused, and the words read, each with its
position in the burst. -/
structure BusJob where
  id : Nat
  use : BusUse
  left : Nat
  bad : Bool
  data : List (Nat × Word)
deriving DecidableEq, Repr

/-- R131: an access to a user register that waits for READY: a command's, or an engine's LOAD; or a burst's, with the burst and
the position in it; `pulse`: 0 before its port-clock cycle, 1 in it (WR or RD is 1), 2 after it. -/
structure PortAccess where
  src : Src
  write : Bool
  addr : Nat
  v : Word
  at_ : Nat
  job : Option (Nat × Nat)
  pulse : Nat
deriving DecidableEq, Repr

/-- R128 to R130: a tap: the samples in its two synchronising stages, with their codes, the sample it presents, its code, STROBE, and whether the spare's
modulator gave that code. -/
structure TapSt where
  first : Nat × BitVec 4
  second : Nat × BitVec 4
  sample : Nat
  code : Nat
  strobe : Bool
  spare : Bool
deriving DecidableEq, Repr

/-- R133, R134: a capture that waits: scope, region, clock, the clock of its START, whether it is deferred (R49), and the level of the
trigger outlets as last sampled. -/
structure Capture where
  scope : Nat
  region : Nat
  clk : Nat
  at_ : Nat
  deferred : Bool
  trigger : Bool
deriving DecidableEq, Repr

/-- R106, R111 to R135: the fabric. Keys: configuration word w of region r is r × 17,360 + w, die word w of die d is
555,520 + d × 15,872 + w; word a of block RAM n is n × 1,024 + a; units by R36's flat index; block RAMs and MAC blocks by
R36's module number. What a table does not list is 0. -/
structure FabSt where
  cfg : List (Nat × DWord)
  bram : List (Nat × Word)
  /-- The four flip-flops of a unit. -/
  ff : List (Nat × Nat)
  /-- MAC: the A and B pipeline registers (24 bits each), the product, the accumulator. -/
  macA : List (Nat × Nat)
  macB : List (Nat × Nat)
  macP : List (Nat × Int)
  acc : List (Nat × Nat)
  /-- Block RAM read register and output register (R116). -/
  ramRead : List (Nat × Nat)
  ramOut : List (Nat × Nat)
  /-- R119: a bridge signal registered on the sending die and on the receiving die; key: sending die × 1,024 + n. -/
  bridge : List (Nat × (Bool × Bool))
  /-- R127: the synchronising stages of the single-bit outlets: key die × 1,024 + u. -/
  sync : List (Nat × (Bool × Bool))
  /-- R106: the scrubber runs. -/
  scrub : Bool
  /-- R120: the phase of each fabric clock, in units of its own rate. -/
  phase : Vector Nat 8
  /-- R126: what each die's taps present (key die × 8 + t), and its tracker phases with their strobes (key die × 4 + k). -/
  taps : Vector TapSt 16
  phases : Vector (Nat × Bool) 8
  /-- R131: the accesses of each die: the first is in progress, the others wait. -/
  access : Vector (List PortAccess) 2
  /-- The bursts among them, and the number of the next one. -/
  jobs : List BusJob
  nextJob : Nat
  /-- R132: the write that a die's master port has issued and that is not applied or refused yet (M_BUSY is 1): M_ADDR, M_DATA, M_WIDE;
  and M_ERR. -/
  master : Vector (Option (Nat × DWord × Bool)) 2
  masterErr : Vector Bool 2
  /-- R360: the edges that each die's port clock has made. -/
  portEdges : Vector Nat 2
  /-- R133, R134: the capture in progress or armed. -/
  capture : Option Capture
deriving DecidableEq, Repr

/-- R431 to R435: a relocation: the clock of step 1 and of step 2, whether edge E has passed and its clock, and whether R435
asked for it and waits for the loader. -/
structure RelocSt where
  start : Nat
  copied : Nat
  over_ : Bool
  edgeAt : Nat
  auto : Option Reg
deriving DecidableEq, Repr

/-! ### DMA -/

/-- R376: a descriptor as the engine read it, with its address. -/
structure DmaDesc where
  addr : Nat
  src : Nat
  dst : Nat
  next : Nat
  len : Nat
  ctl : Nat
deriving DecidableEq, Repr

/-- R378: where a side stands: the address of the next byte, and for a list the address of the next entry, the bytes left in
the present entry, and whether it is the last. -/
structure DmaSide where
  pos : Nat
  entry : Nat
  left : Nat
  last : Bool
deriving DecidableEq, Repr

/-- A descriptor in progress, or one whose STATUS word is still owed: its number in the channel, bytes whose read has been issued, returned pieces by
position, bytes whose write has been issued, bytes acknowledged, the code decided, whether it has completed (R383), and the last
byte of host memory written that no flush has covered. -/
structure DmaJob where
  id : Nat
  desc : DmaDesc
  src : DmaSide
  dst : DmaSide
  asked : Nat
  got : List (Nat × List Byte)
  sent : Nat
  acked : Nat
  code : Nat
  done : Bool
  half : Bool
  barrier : Bool
  hostLast : Option Nat
deriving DecidableEq, Repr

/-- What a tag is held for. -/
inductive DmaUse where
  | read | write | srcEntry | dstEntry | flush
deriving DecidableEq, Repr

/-- R382: a tag: its channel, its descriptor, what for, the address, the position in the transfer, the bytes, the clock of its
issue; the result of a LOCAL access; abandoned under R388. -/
structure DmaTag where
  chan : Chan
  desc : Nat
  use : DmaUse
  addr : Nat
  pos : Nat
  n : Nat
  at_ : Nat
  local_ : Option (Bool × List Byte)
  dead : Bool
deriving DecidableEq, Repr

/-- A channel: the descriptors in progress, oldest first; its tokens (R387) and the clock they were counted at; the clock of an abort (R388); the MAINT
requests (origin, tag) that wait for it; the address whose read is owed (FETCH). -/
structure DmaCh where
  jobs : List DmaJob
  tokens : Nat
  tokenClk : Nat
  abort : Option Nat
  waiters : List (BitVec 6 × BitVec 16)
deriving DecidableEq, Repr

/-- R374 to R391. -/
structure DmaSt where
  ch : Vector DmaCh 64
  tags : List (Nat × DmaTag)
  served : Nat
  servedAt : Option Nat
deriving DecidableEq, Repr

/-! ### The ring and the host port -/

/-- R400: a packet in the retry buffer: LSEQ, how often it was sent, its words without the trailer, the clock of its last send. -/
structure RingSent where
  lseq : Nat
  times : Nat
  words : List DWord
  at_ : Nat
deriving DecidableEq, Repr

/-- R400: one class of one port: the LSEQ expected, the LSEQ of the next packet, the retry buffer, the packets that wait
for the link, and whether the receiver waits for a resend. -/
structure RingLane where
  expect : Nat
  next : Nat
  retry : List RingSent
  queue : List (List DWord)
  refusing : Bool
deriving DecidableEq, Repr

/-- What a request was issued for. -/
inductive RingUse where
  | mnt
  /-- R411: a host access: bytes and BAR0 offset. -/
  | host (bytes : Nat) (write : Bool) (off : Nat)
  | dma (tag : Nat)
  /-- R438: a heartbeat. -/
  | heartbeat
  | other
deriving DecidableEq, Repr

/-- R401: a request that waits for its completion. -/
structure RingReq where
  tag : Nat
  dst : BitVec 6
  use : RingUse
  at_ : Nat
deriving DecidableEq, Repr

/-- R392 to R409: the ports, data class first; the bypass; the next TAG and those issued within the last 1 ms; the requests
that wait; what R407 keeps (source, tag, clock, completion); the event sequence number and the mask last sent; the newest
sequence applied for each module (head); SPACE HOST packets that wait for the endpoint (head); the instant t1 of the delay request
in flight on each port, 2^-16 ns; the head role given up; the numbers that appear twice in the map. -/
structure RingSt where
  lanes : Vector (Vector RingLane 2) 2
  lost : Vector (Option Nat) 2
  bypass : Bool
  tag : Nat
  issued : List (Nat × Nat)
  reqs : List RingReq
  kept : List (BitVec 6 × Nat × Nat × Option (List DWord))
  evSeq : Nat
  evMask : Nat
  evDue : Bool
  /-- R312, R404: lines with a source that no status bit holds, since the last EVENT packet. -/
  once : Nat
  applied : List (BitVec 6 × Nat)
  hostQ : List (List DWord)
  delayT1 : Vector (Option Nat) 2
  gaveUp : Bool
  dup : List (BitVec 6)
  /-- Own requests whose packet met NO_TARGET inside this module, and requests held back (R401, R411): target, use, words with
  TAG 0. -/
  failed : List Nat
  held : List (BitVec 6 × RingUse × List DWord)
deriving DecidableEq, Repr

/-- R410, R413: the endpoint: MSI-X enable and function mask, the payload limit. -/
structure PcieSt where
  msix : Bool
  fmask : Bool
  payload : Nat
deriving DecidableEq, Repr

structure State where
  /-- The commands that wait, first in, first out. -/
  pending : List Instr
  /-- R8, R37: the registers of the window. -/
  regs : List (RegRef × Word)
  /-- R37: the addressed memories of the window, by window offset. -/
  mem : List Host.Cell
  /-- The high words that a read of a low word has latched. -/
  latch : List (RegRef × Word)
  /-- System clocks since t0 or the last module reset (R20). -/
  clk : Nat
  /-- R216: module time in units of 2^-32 ns. -/
  time : Nat
  /-- The model's own: how many free values have been taken. -/
  seed : Nat
  /-- R40, R80: refused accesses of the blocks that have no register to count them in (SYS and MON). -/
  refused : Nat
  /-- The answer of the latest access. -/
  resp : Resp
  /-- What has left the module. -/
  tx : List Tx
  pwr : PwrSt
  /-- R417 to R420. -/
  log : LogSt
  /-- R354: the berths. -/
  harb : List (Nat × BerthSt)
  /-- R321 to R331. -/
  pins : Vector (Vector PinSt 20) 4
  /-- R313 to R319. -/
  cmps : Vector (Vector CmpSt 16) 4
  /-- R292 to R301. -/
  outs : Vector (Vector OutSt 8) 4
  /-- R302 to R305. -/
  dds : Vector (Vector DdsSt 4) 4
  /-- R306 to R310. -/
  mon : Vector MonSt 4
  /-- R286 to R290. -/
  pol : PolSt
  /-- R437 to R443. -/
  pair : PairSt
  /-- Flash and OTP. -/
  flash : FlashSt
  /-- R261 to R272. -/
  eng : Vector EngSt 8
  /-- R273 to R284. -/
  lim : LimSt
  /-- R242 to R260. -/
  sched : SchedSt
  /-- R228 to R241. -/
  trk : Vector TrkSt 4
  /-- R216 to R227. -/
  tim : TimeSt
  /-- R136 to R165. -/
  cells : Vector CellsSt 4
  /-- R167 to R170. -/
  mods : Vector (Vector ModSt 10) 4
  /-- R170: the overload events of the modulators, latest first. -/
  ovl : Vector (Vector (List Overload) 10) 4
  /-- R179 to R182. -/
  refs : Vector RefSt 4
  /-- R196 to R214. -/
  conv : Vector (Vector ConvSt 8) 4
  /-- R424 to R429. -/
  spare : Vector SpareSt 4
  /-- R334 to R349. -/
  cal : Vector CalSt 4
  /-- R84 to R110. -/
  load : LoadSt
  /-- R106, R111 to R135. -/
  fab : FabSt
  /-- R431 to R436. -/
  rel : RelocSt
  /-- R374 to R391. -/
  dma : DmaSt
  /-- R392 to R409. -/
  ring : RingSt
  /-- R410 to R413. -/
  pcie : PcieSt
deriving DecidableEq, Repr

/-- The word a register instance holds at reset. -/
def RegRef.resetWord (r : RegRef) : Word := r.name.reset

/-- A stored register word: its instance exists and its reserved bits are 0 (R11). -/
def RegRef.okWord (r : RegRef) (v : Word) : Bool := r.valid && decide (v &&& ~~~r.name.mask = 0)

/-- R81: an addressed memory reads as 0 where nothing has been written. -/
def memDefault (_ : Nat) : Byte := 0

/-- The canonical form of a byte memory. -/
def memWf (m : List Host.Cell) : Bool := Sparse.wf id memDefault (fun a _ => decide (a < 16777216)) m

/-- The canonical form of the table of berths. -/
def harbWf (h : List (Nat × BerthSt)) : Bool := Sparse.wf id (fun _ => BerthSt.empty) (fun b _ => decide (b < 1024)) h

/-- The well-formed states: the register file and the byte memories are canonical. -/
abbrev State.Wf (s : State) : Prop :=
  Sparse.wf RegRef.key RegRef.resetWord RegRef.okWord s.regs = true ∧ memWf s.mem = true ∧ harbWf s.harb = true

/-- Before the supply: nothing runs. -/
def PwrSt.initial : PwrSt :=
  { life := .off, warm := false, startRef := 0, vinLow := false, dipSeen := false, lowAt := 0, module := 0, headStrap := false
    supplied := Vector.replicate 4 false, alive := Vector.replicate 4 false, aliveAt := Vector.replicate 4 0, failures := Vector.replicate 4 []
    restartDue := Vector.replicate 4 false, mapped := Vector.replicate 4 false, restored := false, released := false, secondVerify := none
    modeWritten := false, safePinLow := false, vinHigh := none, vfld := Vector.replicate 4 false
    hourDue := 589824000000 }

/-- A tracker that is OFF. -/
def TrkSt.initial : TrkSt :=
  { pos := 0, at_ := 0, floor := 0, hist := [], vel := 0, a := false, b := false, bad := 0, good := 0, angle := none, org := 0
    crossing := none, period := 0, offset := 0, t0 := 0, demod := [], inbox := [], lastIn := 0, spacing := 0, sinD := .clear, cosD := .clear
    holdFrom := 0, holdAt := 0, homed := none, segs := [] }

/-- No context armed; the trackers OFF (R252). -/
def SchedSt.initial : SchedSt :=
  { queue := [], gather := [], fresh := [], arms := [], was := [], issued := (0, 0), recs := [], marks := []
    trk := Vector.replicate 4 (.held true none), intervals := [] }

/-- Module time at t0. -/
def TimeSt.initial : TimeSt :=
  { rates := [], near := 0, far := 0, fresh := true, masters := [], sync := none, last := none, seq := 0, req := none, resp := none
    delayKnown := false, syncAt := 0, heard := Vector.replicate 2 none, heardAt := Vector.replicate 2 0, second := none, milli := none
    links := Vector.replicate 2 [], anchors := [], pps := false, ppsEnd := 0 }

/-- A converter that does nothing. -/
def ConvSt.initial : ConvSt :=
  { run := .off, next := .idle, began := 0, opened := none, dec := .clear, grid := none, front := 0, acts := [], landed := none
    reduced := false, freeAt := 0, actAt := Vector.replicate 4 0, settle := 0, calStep := false, handed := false, handedAt := 0, commitAt := 0, advAt := 0, startAt := none, stopping := false, factory := false }

/-- An empty fabric. -/
def FabSt.initial : FabSt :=
  { cfg := [], bram := [], ff := [], macA := [], macB := [], macP := [], acc := [], ramRead := [], ramOut := [], bridge := [], sync := []
    scrub := false, phase := Vector.replicate 8 0, taps := Vector.replicate 16 ⟨(0, 0), (0, 0), 0, 0, false, false⟩, phases := Vector.replicate 8 (0, false)
    access := Vector.replicate 2 [], jobs := [], nextJob := 0
    master := Vector.replicate 2 none, masterErr := Vector.replicate 2 false
    portEdges := Vector.replicate 2 0, capture := none }

/-- Nothing heard of the partner, from a system clock on. -/
def PairSt.initial (clk : Nat) : PairSt :=
  { mirrorQ := [], currentHeld := false, heard := false, behind := false, planned := false, partner := 0, yields := false
    answeredAt := clk, gone := false }

/-- Ports without a link; the bypass closed. -/
def RingSt.initial : RingSt :=
  { lanes := Vector.replicate 2 (Vector.replicate 2 ⟨0, 0, [], [], false⟩), lost := Vector.replicate 2 none, bypass := true
    tag := 0, issued := [], reqs := [], kept := [], evSeq := 0, evMask := 0, evDue := false, once := 0, applied := [], hostQ := []
    delayT1 := Vector.replicate 2 none, gaveUp := false, dup := [], failed := [], held := [] }

/-- The machine right after reset: every register at its reset value, the supervisor still in power-on reset. -/
def State.reset : State :=
  { pending := [], regs := [], mem := [], latch := [], clk := 0, time := 0, seed := 0, refused := 0, resp := .none, tx := []
    pwr := PwrSt.initial
    log := ⟨[], [], 0, 0, 0⟩
    harb := []
    pins := Vector.replicate 4 (Vector.replicate 20 ⟨none, none, none, none, false, 0, 0⟩)
    cmps := Vector.replicate 4 (Vector.replicate 16 .initial)
    outs := Vector.replicate 4 (Vector.replicate 8 ⟨false, false, 0, 0, 0, 0, 0x140001, 0x8000, 1, .off, false, false, (.off, false, 1), 0⟩)
    dds := Vector.replicate 4 (Vector.replicate 4 ⟨0, false, false, 0, 0, 0⟩)
    mon := Vector.replicate 4 .initial
    pol := ⟨Vector.replicate 2 [], none, [], false, 0⟩
    pair := .initial 0
    flash := ⟨Vector.replicate 32 ⟨1, 0x8000, 0x8000, false, false⟩, false, 0, Vector.replicate 4 0, Vector.replicate 4 0,
      Vector.replicate 2 [], Vector.replicate 32 [], [], [],
      Vector.ofFn fun i => Config.signKey i.val, Vector.ofFn fun i => Config.aesKey i.val⟩
    eng := Vector.replicate 8 ⟨[], none, false, none, false, none⟩
    lim := { within := Vector.replicate 128 true, seen := Vector.replicate 128 0, due := [], wdogRef := 0 }
    sched := SchedSt.initial
    trk := Vector.replicate 4 TrkSt.initial
    tim := TimeSt.initial
    cells := Vector.replicate 4 CellsSt.initial
    mods := Vector.replicate 4 (Vector.replicate 10 ⟨0, 0, 0⟩)
    ovl := Vector.replicate 4 (Vector.replicate 10 [])
    refs := Vector.replicate 4 ⟨0, 0, 0, [], 0⟩
    conv := Vector.replicate 4 (Vector.replicate 8 ConvSt.initial)
    spare := Vector.replicate 4 ⟨.none, 0, none, 0, none, none⟩
    cal := Vector.replicate 4 ⟨[], 0, none, [], [], 0, 15⟩
    load := ⟨.none, 0, false, 0, [], false, false, 0, none, [], none, 0⟩
    fab := FabSt.initial
    rel := ⟨0, 0, false, 0, none⟩
    dma := ⟨Vector.replicate 64 ⟨[], 0, 0, none, []⟩, [], 63, none⟩
    ring := RingSt.initial
    pcie := ⟨false, false, 128⟩ }

end Sys2Proof.Machine
end

