-- ==== Sys2Proof/Machine/Ops.lean ====
section
/-! DEFINITION. The named operations over the state. An action is a change of the state together with the proof that it keeps
the state well formed and leaves the command queue alone, so that every meaning built from actions does. -/

namespace Sys2Proof.Machine

/-- What every action guarantees: it keeps the state well formed and leaves the queue alone. -/
def Good (s t : State) : Prop := (s.Wf → t.Wf) ∧ t.pending = s.pending

/-- A change that leaves the queue and every store with a canonical form alone is good. -/
theorem Good.frame {s t : State} (h1 : t.regs = s.regs) (h2 : t.mem = s.mem) (h3 : t.harb = s.harb)
    (h4 : t.pending = s.pending) : Good s t :=
  ⟨fun h => by unfold State.Wf at h ⊢; rwa [h1, h2, h3], h4⟩

/-- A change of the state that keeps it well formed. -/
structure Act where
  run : State → State
  good : ∀ s, Good s (run s)

/-- Nothing happens. -/
def Act.skip : Act := ⟨id, fun _ => ⟨id, rfl⟩⟩

/-- First `a`, then `b`. -/
def Act.andThen (a b : Act) : Act :=
  ⟨fun s => b.run (a.run s), fun s => ⟨fun h => (b.good _).1 ((a.good s).1 h), ((b.good _).2).trans (a.good s).2⟩⟩

/-- One action after the other. -/
def Act.all : List Act → Act
  | [] => .skip
  | a :: l => a.andThen (Act.all l)

/-- The action that the present state chooses. -/
def Act.look (f : State → Act) : Act := ⟨fun s => (f s).run s, fun s => (f s).good s⟩

/-- The action, where the condition holds. -/
def Act.when (c : Bool) (a : Act) : Act := if c then a else .skip

/-- The action for each member of a list, in order. -/
def Act.each {α : Type} (l : List α) (f : α → Act) : Act := Act.all (l.map f)

/-- A change of fields that well-formedness says nothing about. -/
def Act.upd (f : State → State) (h : ∀ s, Good s (f s) := by intro s; exact Good.frame rfl rfl rfl rfl) : Act := ⟨f, h⟩

/-! ### Registers -/

/-- The word a register holds. -/
def State.r (s : State) (n : RegName) (i : Nat := 0) (j : Nat := 0) (k : Nat := 0) : Word :=
  Sparse.get RegRef.resetWord s.regs ⟨n, i, j, k⟩

/-- A field of a word. -/
def Fld.of (f : Fld) (w : Word) : Nat := (w.toNat >>> f.lo) % 2 ^ f.width

/-- The word with a field replaced. -/
def Fld.put (f : Fld) (w : Word) (v : Nat) : Word :=
  (w &&& ~~~(BitVec.ofNat 32 (bitsMask f.lo f.width))) ||| BitVec.ofNat 32 ((v % 2 ^ f.width) <<< f.lo)

/-- A field of a register. -/
def State.f (s : State) (f : Fld) (i : Nat := 0) (j : Nat := 0) (k : Nat := 0) : Nat := f.of (s.r f.name i j k)

/-- A one-bit field of a register. -/
def State.b (s : State) (f : Fld) (i : Nat := 0) (j : Nat := 0) (k : Nat := 0) : Bool := s.f f i j k == 1

/-- Every instance number lies below 4,096, so that the key tells the instances apart. -/
theorem RegName.row_bounds (n : RegName) : n.row.n1 ≤ 4096 ∧ n.row.n2 ≤ 4096 ∧ n.row.n3 ≤ 4096 := by
  cases n <;> exact ⟨by decide, by decide, by decide⟩

theorem RegRef.key_inj (a b : RegRef) (ha : a.valid = true) (hb : b.valid = true) (h : a.key = b.key) : a = b := by
  obtain ⟨an, ai, aj, ak⟩ := a
  obtain ⟨bn, bi, bj, bk⟩ := b
  simp only [RegRef.valid, Bool.and_eq_true, decide_eq_true_eq] at ha hb
  obtain ⟨a1, a2, a3⟩ := RegName.row_bounds an
  obtain ⟨b1, b2, b3⟩ := RegName.row_bounds bn
  simp only [RegRef.key] at h
  have hn : an.ctorIdx = bn.ctorIdx := by omega
  have hn' : an = bn := by
    have := congrArg RegName.ofNat hn
    simpa only [RegName.ofNat_ctorIdx] using this
  subst hn'
  have : ai = bi ∧ aj = bj ∧ ak = bk := by omega
  obtain ⟨rfl, rfl, rfl⟩ := this
  rfl

/-- Store a word in a register; the reserved bits stay 0 (R11), and an instance that does not exist is not stored. -/
def Act.setR (n : RegName) (v : Word) (i : Nat := 0) (j : Nat := 0) (k : Nat := 0) : Act :=
  ⟨fun s => if RegRef.valid ⟨n, i, j, k⟩ then
      { s with regs := Sparse.set RegRef.key RegRef.resetWord s.regs ⟨n, i, j, k⟩ (v &&& n.mask) } else s, by
    intro s
    refine ⟨fun h => ?_, ?_⟩
    · split
      · rename_i hv
        refine ⟨Sparse.set_wf _ _ _ _ _ _ h.1 ?_ ?_, h.2⟩
        · simp only [RegRef.okWord, hv, Bool.true_and, decide_eq_true_eq]
          simp [BitVec.and_assoc]
        · intro a b ha hk
          simp only [RegRef.okWord, Bool.and_eq_true] at ha
          exact RegRef.key_inj a _ ha.1 hv hk
      · exact h
    · split <;> rfl⟩

/-- Store a value in a field of a register. -/
def Act.setF (f : Fld) (v : Nat) (i : Nat := 0) (j : Nat := 0) (k : Nat := 0) : Act :=
  .look fun s => .setR f.name (f.put (s.r f.name i j k) v) i j k

/-- Set or clear a one-bit field of a register. -/
def Act.setB (f : Fld) (v : Bool) (i : Nat := 0) (j : Nat := 0) (k : Nat := 0) : Act := .setF f v.toNat i j k

/-- Add to a counting field, which saturates at all ones. -/
def Act.count (f : Fld) (n : Nat := 1) (i : Nat := 0) (j : Nat := 0) (k : Nat := 0) : Act :=
  .look fun s => .setF f (min (s.f f i j k + n) (2 ^ f.width - 1)) i j k

/-- Set bit `b` of a field. -/
def Act.setBit (f : Fld) (b : Nat) (i : Nat := 0) (j : Nat := 0) (k : Nat := 0) : Act :=
  .look fun s => .setF f (s.f f i j k ||| 1 <<< b) i j k

/-- Clear bit `b` of a field. -/
def Act.clrBit (f : Fld) (b : Nat) (i : Nat := 0) (j : Nat := 0) (k : Nat := 0) : Act :=
  .look fun s => .setF f (s.f f i j k &&& (2 ^ f.width - 1 - 1 <<< b)) i j k

/-- Bit `b` of a field. -/
def State.bit (s : State) (f : Fld) (b : Nat) (i : Nat := 0) (j : Nat := 0) (k : Nat := 0) : Bool := (s.f f i j k).testBit b

/-! ### Addressed memory -/

/-- One byte of the addressed memories of the window. -/
def State.byte (s : State) (a : Nat) : Byte := Sparse.get memDefault s.mem a

/-- `n` bytes from address `a`, the lowest address least significant (R8). -/
def State.bytes (s : State) (a : Nat) : Nat → Nat
  | 0 => 0
  | n + 1 => (s.byte a).toNat + 256 * s.bytes (a + 1) n

/-- Store one byte. -/
def Act.setByte (a : Nat) (v : Byte) : Act :=
  ⟨fun s => if a < 16777216 then { s with mem := Sparse.set id memDefault s.mem a v } else s, by
    intro s
    refine ⟨fun h => ?_, ?_⟩
    · split
      · rename_i ha
        exact ⟨h.1, Sparse.set_wf _ _ _ _ _ _ h.2.1 (by simpa using ha) (fun a b _ h => h), h.2.2⟩
      · exact h
    · split <;> rfl⟩

/-- Store `n` bytes of `v` from address `a`, the lowest address least significant (R8). -/
def Act.setBytes (a v : Nat) : Nat → Act
  | 0 => .skip
  | n + 1 => (Act.setByte a (BitVec.ofNat 8 v)).andThen (Act.setBytes (a + 1) (v / 256) n)

/-- R81: the registers named keep their words, every other takes its reset value. -/
def Act.clearRegs (keep : RegName → Bool) : Act :=
  ⟨fun s => { s with regs := s.regs.filter fun e => keep e.1.name }, fun _ =>
    ⟨fun h => ⟨Sparse.filter_wf _ _ _ _ _ h.1, h.2⟩, rfl⟩⟩

/-- R81: the bytes at the addresses named stay, every other reads as 0. -/
def Act.clearMem (keep : Nat → Bool) : Act :=
  ⟨fun s => { s with mem := s.mem.filter fun e => keep e.1 }, fun _ =>
    ⟨fun h => ⟨h.1, Sparse.filter_wf _ _ _ _ _ h.2.1, h.2.2⟩, rfl⟩⟩

/-- R81: the berths are empty. -/
def Act.clearHarb : Act := ⟨fun s => { s with harb := [] }, fun _ => ⟨fun h => ⟨h.1, h.2.1, rfl⟩, rfl⟩⟩

/-! ### Answers, free values, messages -/

/-- The answer of an access. -/
def Act.answer (r : Resp) : Act := .upd fun s => { s with resp := r }

/-- A message leaves the module. -/
def Act.send (m : Tx) : Act := .upd fun s => { s with tx := s.tx ++ [m] }

/-- Take the next free value: a value the spec leaves open. -/
def Act.fresh (f : BitVec 64 → Act) : Act :=
  .look fun s => (Act.upd fun s => { s with seed := s.seed + 1 }).andThen (f (Config.freeValue s.seed))

/-- R70, R79: the supervisor's registers answer. -/
def State.up (s : State) : Bool := s.pwr.life == .up

/-- R408: an access that finds the supervisor in reset or in the power-fail sequence gets NO_TARGET. -/
def Act.reach (a : Act) : Act := .look fun s => if s.up then a else .answer .noTarget

/-- R73: released into full service. -/
def State.released (s : State) : Bool := s.pwr.released

/-- R70: the group's die is alive and its link is up. -/
def State.alive (s : State) (g : Grp) : Bool := s.pwr.alive[g]

/-- A command that completes. -/
def Act.done (a : Act) (s : State) : Host.Outcome State Fault Refusal := .next (a.run s)

/-- R216: module time in whole nanoseconds, modulo 2^64. -/
def State.ns (s : State) : Nat := s.time / 4294967296 % 2 ^ 64

end Sys2Proof.Machine
end

