-- ==== Sys2Proof/Machine/Operands.lean ====
section
/-! DEFINITION. The number forms the spec's fields and operands take: signed fields, saturation, byte lists, and the check
codes CRC-32C and CRC-32. -/

namespace Sys2Proof.Machine

/-- A two's-complement field of `w` bits. -/
def signed (w v : Nat) : Int := if 2 ^ (w - 1) ≤ v % 2 ^ w then (v % 2 ^ w : Int) - 2 ^ w else (v % 2 ^ w : Int)

/-- The `w`-bit two's-complement form of an integer. -/
def unsigned (w : Nat) (x : Int) : Nat := (x % (2 ^ w : Int)).toNat

/-- Bits `lo` to `lo + w - 1` of a number. -/
def bitsOf (v lo w : Nat) : Nat := v >>> lo % 2 ^ w

/-- Saturation to a range. -/
def clamp (lo hi x : Int) : Int := if x < lo then lo else if hi < x then hi else x

/-- Rounding a quotient to nearest, ties away from zero. -/
def roundDiv (a : Int) (b : Nat) : Int :=
  if b = 0 then 0 else if a < 0 then -((2 * (-a) + b) / (2 * b)) else (2 * a + b) / (2 * b)

/-- `n` bytes of `v`, least significant first. -/
def leBytes (v : Nat) : Nat → List Byte
  | 0 => []
  | n + 1 => BitVec.ofNat 8 v :: leBytes (v / 256) n

/-- The number a little-endian byte list stands for. -/
def leNat : List Byte → Nat
  | [] => 0
  | b :: l => b.toNat + 256 * leNat l

/-- One bit step of a reflected CRC. -/
def crcBit (poly c : BitVec 32) : BitVec 32 := if c.getLsbD 0 then (c >>> 1) ^^^ poly else c >>> 1

/-- One byte step of a reflected CRC. -/
def crcByte (poly c : BitVec 32) (b : Byte) : BitVec 32 :=
  crcBit poly <| crcBit poly <| crcBit poly <| crcBit poly <| crcBit poly <| crcBit poly <| crcBit poly <| crcBit poly
    (c ^^^ b.zeroExtend 32)

/-- A reflected CRC of 32 bits with initial value and final exclusive-or FFFF_FFFFh. -/
def crc (poly : BitVec 32) (l : List Byte) : BitVec 32 := ~~~(l.foldl (crcByte poly) 0xFFFFFFFF)

/-- R86: CRC-32C (polynomial 1EDC_6F41h, reflected 82F6_3B78h). -/
def crc32c (l : List Byte) : BitVec 32 := crc 0x82F63B78 l

/-- R399: the CRC-32 of IEEE 802.3 (polynomial 04C1_1DB7h, reflected EDB8_8320h). -/
def crc32 (l : List Byte) : BitVec 32 := crc 0xEDB88320 l

/-- Association lists: the value held for a key. -/
def assoc {κ β : Type} [DecidableEq κ] : List (κ × β) → κ → Option β
  | [], _ => none
  | e :: l, k => if e.1 = k then some e.2 else assoc l k

/-- Association lists: hold `v` for `k` alone. -/
def assocSet {κ β : Type} [DecidableEq κ] (l : List (κ × β)) (k : κ) (v : β) : List (κ × β) :=
  (k, v) :: l.filter (fun e => !(decide (e.1 = k)))

/-- Association lists: hold nothing for `k`. -/
def assocDel {κ β : Type} [DecidableEq κ] (l : List (κ × β)) (k : κ) : List (κ × β) :=
  l.filter (fun e => !(decide (e.1 = k)))

end Sys2Proof.Machine
end

