-- ==== Sys2Proof/Machine/Access.lean ====
section
/-! DEFINITION. Which agent may write where (R30, R132, R269, R375), and the frame of a register write: it finds the supervisor
present, its source permitted, and answers. -/

namespace Sys2Proof.Machine

/-- The offset lies in a fabric window (R37). -/
def inFabricWindow (off : Nat) : Bool := decide (0x200000 ≤ off ∧ off < 0x300000)

/-- R37: the offset lies in one of the 64 KiB blocks numbered in `l`. -/
def inBlocks (l : List Nat) (off : Nat) : Bool := l.contains (off / 0x10000)

/-- R132, R269, R375: the offsets a source may write at all. -/
def permits (src : Src) (off : Nat) : Bool :=
  match src with
  | .fabric _ => !(inBlocks [0x0, 0x1, 0x2, 0x6, 0x7, 0xB] off || inFabricWindow off)
  | .engine _ => !(inBlocks [0x1, 0x7, 0xB] off || inFabricWindow off || off == 0x80 ||
      decide (0x500000 ≤ off ∧ off < 0x520000))
  | .dma _ => !((inBlocks [0x1, 0x6, 0x7, 0xB] off && off != 0x10020) || off == 0x80)
  | _ => true

/-- The write is taken. -/
def Act.accept : Act := .answer (.ok 0)

/-- The write is refused with an error response and counted in the block's counter. -/
def Act.refuse (counter : Fld) (i : Nat := 0) (j : Nat := 0) : Act := .all [.count counter 1 i j, .answer .error]

/-- R40, R80: an access is refused and counted in a block that has no register for the count. -/
def Act.refuseUncounted : Act := .all [.upd fun s => { s with refused := s.refused + 1 }, .answer .error]

/-- R132: a refused write of the fabric's master port is counted there too. -/
def Act.masterCount (src : Src) : Act :=
  match src with
  | .fabric d => .look fun s => .when (s.resp == .error) (.count F.FAB_PORT_ERR_MASTER_REFUSED 1 d)
  | _ => .skip

/-- A write of `src` to offset `off`, whose effect is `a`: NO_TARGET where the supervisor is absent (R408), an error where
the source may not write there. -/
def Act.write (src : Src) (off : Nat) (a : Act) : Act :=
  .reach <| .all [if permits src off then a else .answer .error, .masterCount src]

/-- A write to a register. -/
def Act.writeTo (src : Src) (n : RegName) (i j k : Nat) (a : Act) : Act := .write src (RegRef.offset ⟨n, i, j, k⟩) a

/-- R12: a register without a behaviour of its own stores its fields under their access codes. -/
def Act.store (n : RegName) (v : Word) (i : Nat := 0) (j : Nat := 0) (k : Nat := 0) : Act :=
  .look fun s => .setR n (n.applyWrite (s.r n i j k) v) i j k

end Sys2Proof.Machine
end

