-- ==== Sys2Proof/Machine/Faultlog.lean ====
section
/-! DEFINITION. The fault log (R417 to R420): queueing, committing and reading entries. -/

namespace Sys2Proof.Machine

/-- R47: the modes in force, as bits. -/
def State.inForce (s : State) : Nat := s.f F.SYS_MODE_EFF_EFF &&& (255 - s.f F.SYS_MODE_EFF_SUSP)

/-- R47: mode bit `n` is in force. -/
def State.mode (s : State) (n : Nat) : Bool := s.inForce.testBit n

/-- The mode bits of R44. -/
abbrev disciplined : Nat := 0
abbrev phaseRun : Nat := 1
abbrev paired : Nat := 2
abbrev reducedMode : Nat := 3
abbrev calibrate : Nat := 4
abbrev repair : Nat := 5
abbrev observed : Nat := 6
abbrev parked : Nat := 7

/-- The entries of one event, one for each part of its data, with consecutive SEQ values (R417). -/
def logParts (s : State) (kind subject : Nat) (parts : List (List Byte)) : List LogEntry :=
  parts.mapIdx fun n d =>
    { seq := (s.log.next + n) % 4294967296, kind := kind, part := n, parts := parts.length, time := s.ns,
      subject := subject, resets := s.log.resets, modes := s.inForce, data := d }

/-- FAULT.STATUS.LOG_PENDING, the entries queued. The field has 8 bits and the buffer 256 entries: the value of a full
buffer is left open (assumption log entry 2). -/
def Act.logPending : Act := .look fun s =>
  if s.log.queue.length < 256 then .setF F.FAULT_STATUS_LOG_PENDING s.log.queue.length
  else .fresh fun v => .setF F.FAULT_STATUS_LOG_PENDING v.toNat

/-- R419: queue the entries of one event, or count the loss. A buffer without room for every part counts as full, and a
count of lost entries is queued ahead of any later entry as soon as there is room. -/
def Act.logMulti (kind subject : Nat) (parts : List (List Byte)) : Act := .look fun s =>
  let more : Bool := decide (s.log.lost > 0)
  if s.log.queue.length + parts.length + more.toNat ≤ 256 then
    (if more then
        Act.upd fun s => { s with log := { s.log with
          queue := s.log.queue ++ logParts s 26 0 [leBytes s.log.lost 4]
          next := (s.log.next + 1) % 4294967296
          lost := 0 } }
      else .skip).andThen <|
    (Act.upd fun s => { s with log := { s.log with
      queue := s.log.queue ++ logParts s kind subject parts
      next := (s.log.next + parts.length) % 4294967296 } }).andThen .logPending
  else (Act.upd fun s => { s with log := { s.log with lost := s.log.lost + 1 } }).andThen
    (.setB F.FAULT_EVENTS_LOG_OVERFLOW true)

/-- R419: queue one entry. -/
def Act.log (kind subject : Nat) (data : List Byte) : Act := .logMulti kind subject [data]

/-- R419: the count of lost entries is queued as soon as the buffer has room. -/
def Act.logOverflow : Act := .look fun s =>
  if 0 < s.log.lost ∧ s.log.queue.length < 256 then
    (Act.upd fun s => { s with log := { s.log with
      queue := s.log.queue ++ logParts s 26 0 [leBytes s.log.lost 4]
      next := (s.log.next + 1) % 4294967296
      lost := 0 } }).andThen .logPending
  else .skip

/-- R417: the ring of 65,536 entries; each new entry overwrites the oldest of a full ring. -/
def logAppend (flash new : List LogEntry) : List LogEntry :=
  let l := flash ++ new
  l.drop (l.length - 65536)

/-- R420: LOG_NEWEST and LOG_OLDEST follow the committed entries. -/
def Act.logBounds : Act := .look fun s =>
  match s.log.flash.head?, s.log.flash.getLast? with
  | some o, some n => .all [.setF F.LOG_OLDEST_SEQ o.seq, .setF F.LOG_NEWEST_SEQ n.seq]
  | _, _ => .skip

/-- R419: the entry at the front of the buffer is committed to flash, all its parts together. -/
def Act.logCommit : Act := .look fun s =>
  match s.log.queue with
  | [] => .skip
  | e :: _ => .all [
      .upd fun s => { s with log := { s.log with
        flash := logAppend s.log.flash (s.log.queue.take e.parts)
        queue := s.log.queue.drop e.parts } },
      .logBounds, .logOverflow, .logPending]

/-- R417: the 124 bytes of an entry that its CRC covers. -/
def LogEntry.body (e : LogEntry) : List Byte :=
  leBytes e.seq 4 ++ leBytes e.kind 2 ++ leBytes e.part 1 ++ leBytes e.parts 1 ++ leBytes e.time 8 ++
  leBytes e.subject 2 ++ leBytes e.resets 1 ++ leBytes e.modes 1 ++
  (e.data ++ List.replicate (104 - e.data.length) 0).take 104

/-- R417: the 128 bytes of an entry. -/
def LogEntry.image (e : LogEntry) : List Byte := e.body ++ leBytes (crc32c e.body).toNat 4

/-- The committed entry of a SEQ. -/
def State.logEntry (s : State) (seq : Nat) : Option LogEntry := s.log.flash.find? (fun e => e.seq == seq)

/-- R420: a write of LOG_SEL loads an entry into LOG_DATA and sets READY, with MISSING where there is none. -/
def Act.logSelect (v : Word) : Act := .look fun s =>
  (Act.setF F.LOG_SEL_SEQ v.toNat).andThen <|
  match s.logEntry v.toNat with
  | some e => .all [
      .each (List.range 32) fun i => .setR .LOG_DATA (BitVec.ofNat 32 (leNat ((e.image.drop (4 * i)).take 4))) i,
      .setB F.LOG_STATUS_READY true, .setB F.LOG_STATUS_MISSING false]
  | none => .all [.setB F.LOG_STATUS_READY true, .setB F.LOG_STATUS_MISSING true]

end Sys2Proof.Machine
end

