-- ==== Sys2Proof/Machine/Link.lean ====
section
/-! DEFINITION. The packets of the ring (R398, R399), the link level (R396, R400), and sending, routing and turning back
(R397, R401, R406, R408). -/

namespace Sys2Proof.Machine

/-- The number of a port: 0 west, 1 east. -/
def portIndex : Port → Fin 2
  | .west => 0
  | .east => 1

/-- The other port. -/
def otherPort : Port → Port
  | .west => .east
  | .east => .west

/-- PORT.STATUS.STATE. -/
abbrev portDown : Nat := 0
abbrev portTraining : Nat := 1
abbrev portIsUp : Nat := 2
abbrev portPaused : Nat := 3

def State.portState (s : State) (p : Port) : Nat := s.f F.PORT_STATUS_STATE (portIndex p)

/-- A port is up (PORT.STATUS.STATE 2). -/
def State.portUp (s : State) (p : Port) : Bool := s.portState p == portIsUp

/-- R405: a link that is up or paused is not down. -/
def State.linkAlive (s : State) (p : Port) : Bool := s.portUp p || s.portState p == portPaused

/-- R41: the module's number. -/
def State.ownNumber (s : State) : BitVec 6 := s.pwr.module

/-! ### Packets -/

/-- R398: the kinds of packet. -/
abbrev pkRead : Nat := 0
abbrev pkWrite : Nat := 1
abbrev pkCompletion : Nat := 2
abbrev pkEvent : Nat := 3
abbrev pkTime : Nat := 4
abbrev pkMaint : Nat := 5

/-- R398: the fields of header word 0. -/
structure PkHead where
  kind : Nat
  maint : Bool := false
  ackReq : Bool := false
  rr : Bool := false
  bcast : Bool := false
  dst : BitVec 6
  src : BitVec 6
  tag : Nat := 0
  beats : Nat := 0
  status : Nat := 0
  firstBe : Nat := 0
  lastBe : Nat := 0

/-- R398: header word 0. -/
def PkHead.word (h : PkHead) : DWord := BitVec.ofNat 64 <|
  h.kind % 16 + h.maint.toNat <<< 4 + h.ackReq.toNat <<< 5 + h.rr.toNat <<< 6 + h.bcast.toNat <<< 7 + h.dst.toNat <<< 8 +
  h.src.toNat <<< 14 + (h.tag % 65536) <<< 20 + (h.beats % 32) <<< 36 + (h.status % 8) <<< 41 + (h.firstBe % 256) <<< 44 +
  (h.lastBe % 256) <<< 52

/-- R398: the fields a header word 0 holds. -/
def pkHead (w : DWord) : PkHead :=
  let n := w.toNat
  { kind := bitsOf n 0 4, maint := n.testBit 4, ackReq := n.testBit 5, rr := n.testBit 6, bcast := n.testBit 7
    dst := BitVec.ofNat 6 (bitsOf n 8 6), src := BitVec.ofNat 6 (bitsOf n 14 6), tag := bitsOf n 20 16
    beats := bitsOf n 36 5, status := bitsOf n 41 3, firstBe := bitsOf n 44 8, lastBe := bitsOf n 52 8 }

/-- Header word 0 of a packet. -/
def headOf (words : List DWord) : PkHead := pkHead (words.headD 0)
/-- Header word 1 of a packet. -/
def word1 (words : List DWord) : Nat := ((words.drop 1).headD 0).toNat
/-- The payload of a packet without its trailer. -/
def payloadOf (words : List DWord) : List DWord := words.drop 2

/-- R399: the CRC of a packet whose trailer holds this LSEQ. -/
def packetCrc (words : List DWord) (lseq : Nat) : BitVec 32 :=
  crc32 ((words.map (fun w => leBytes w.toNat 8)).flatten ++ leBytes (lseq % 1024) 4)

/-- R399: the trailer word. -/
def trailer (words : List DWord) (lseq : Nat) : DWord :=
  BitVec.ofNat 64 ((packetCrc words lseq).toNat + (lseq % 1024) <<< 32)

/-- R400: the packet with another RR. -/
def setRR : List DWord → List DWord
  | [] => []
  | w :: l => (w ||| 64) :: l

/-- R396: the class of a packet: 0 data, 1 maintenance. -/
def laneOf (words : List DWord) : Fin 2 := if (headOf words).maint then 1 else 0

/-- R402: MAINT operations 7 to 10 have no completion. -/
def PkHead.wantsCompletion (h : PkHead) (w1 : Nat) : Bool :=
  h.kind == pkRead || (h.kind == pkMaint && !decide (7 ≤ w1 % 256 ∧ w1 % 256 ≤ 10)) || (h.kind == pkWrite && h.ackReq)

/-- R403: a time packet of the head `src`. -/
def timeWords (src : BitVec 6) (p : TimePkt) : List DWord :=
  [({ kind := pkTime, maint := true, bcast := true, dst := 0, src := src, beats := 1, firstBe := 255, lastBe := 255 } : PkHead).word,
    p.ns, BitVec.ofNat 64 (p.acc.toNat + p.hops.toNat <<< 32 + p.utcValid.toNat <<< 40 + p.arb.toNat <<< 41 +
      p.state.toNat <<< 42 + p.utc.toNat <<< 48)]

/-! ### The link level -/

def Act.setRing (f : RingSt → RingSt) : Act := .upd fun s => { s with ring := f s.ring }

def State.lane (s : State) (p : Port) (c : Fin 2) : RingLane := s.ring.lanes[(portIndex p)][c]

def Act.setLane (p : Port) (c : Fin 2) (f : RingLane → RingLane) : Act := .setRing fun r => { r with
  lanes := r.lanes.set (portIndex p) ((r.lanes[(portIndex p)]).set c (f (r.lanes[(portIndex p)][c]))) }

/-- R400: a packet goes out with the next LSEQ and stays in the retry buffer. -/
def Act.launch (p : Port) (c : Fin 2) (words : List DWord) : Act := .look fun s =>
  let n := (s.lane p c).next
  .all [.setLane p c fun l => { l with next := (n + 1) % 1024, retry := l.retry ++ [⟨n, 1, words, s.clk⟩] },
    .send (.packet p (words ++ [trailer words n]))]

/-- R396, R400: the packets that wait go out as the link and the retry buffer of 512 packets allow. -/
def Act.drainLane (p : Port) (c : Fin 2) : Nat → Act
  | 0 => .skip
  | k + 1 => .look fun s =>
    match (s.lane p c).queue with
    | [] => .skip
    | w :: rest => .when (s.portUp p && decide ((s.lane p c).retry.length < 512)) <|
        .all [.setLane p c fun l => { l with queue := rest }, .launch p c w, Act.drainLane p c k]

/-- A packet waits for its link, behind those of its class, and goes out as soon as it may. -/
def Act.enqueue (p : Port) (words : List DWord) : Act :=
  .all [.setLane p (laneOf words) fun l => { l with queue := l.queue ++ [words] }, .drainLane p (laneOf words) 1]

/-- R406: a packet meets its link: it goes out, or is turned back with RR; `dead` says what becomes of one that cannot be. -/
def Act.transmit (p : Port) (words : List DWord) (dead : Act) : Act := .look fun s =>
  let h := headOf words
  if s.linkAlive p then .enqueue p words
  else if h.kind == pkTime then .skip
  else if h.rr || !s.linkAlive (otherPort p) then dead
  else .enqueue (otherPort p) (setRR words)

/-- R394: the port that the route to a module takes; none without a route, or where the number is isolated (R408). -/
def State.routeTo (s : State) (m : BitVec 6) : Option Port :=
  if s.b F.COLYS_ROUTE_PRESENT m.toNat && !s.ring.dup.contains m then
    some (if s.b F.COLYS_ROUTE_PORT m.toNat then .east else .west)
  else none

/-- A completion or an event takes its route, or is discarded. -/
def Act.sendReply (words : List DWord) : Act := .look fun s =>
  match s.routeTo (headOf words).dst with
  | some p => .transmit p words .skip
  | none => .skip

/-- R407: what has been executed within the last 1 ms. -/
def Act.keep (src : BitVec 6) (tag : Nat) (answer : Option (List DWord)) : Act := .look fun s =>
  let now := s.clk
  .setRing fun r => { r with kept := (src, tag, now, answer) :: r.kept.filter (fun e => decide (now < e.2.2.1 + 163840)) }

/-- R401: the completion of a request. -/
def completionWords (own : BitVec 6) (h : PkHead) (w1 status : Nat) (data : List DWord) : List DWord :=
  let be := if data.isEmpty then 0 else 255
  ({ kind := pkCompletion, maint := h.maint, dst := h.src, src := own, tag := h.tag, beats := data.length,
     status := status, firstBe := be, lastBe := be } : PkHead).word ::
    BitVec.ofNat 64 (if h.kind = pkMaint then w1 % 256 else 0) :: data

/-- R401, R407: the answer to a request: sent where the request calls for one, and kept. NO_TARGET answers are counted. -/
def Act.complete (h : PkHead) (w1 status : Nat) (data : List DWord) : Act := .look fun s =>
  let words := completionWords s.ownNumber h w1 status data
  .when (h.wantsCompletion w1) (.all [
    .when (status == 2) (.count F.COLYS_COUNTS_NO_TARGET), .sendReply words])

/-- R406, R408: a packet that finds no way: an own request fails, another's completes with NO_TARGET. -/
def Act.deadPacket (words : List DWord) : Act := .look fun s =>
  let h := headOf words
  if h.kind == pkCompletion || h.kind == pkEvent || h.kind == pkTime || h.bcast then .skip
  else if h.src == s.ownNumber then .setRing fun r => { r with failed := r.failed ++ [h.tag] }
  else .complete h (word1 words) 2 []

/-- R374: the SPACE of a DMA address. -/
def dmaSpace (a : Nat) : Nat := a / 2 ^ 60
abbrev spaceLocal : Nat := 0
abbrev spaceModule : Nat := 1
abbrev spaceHost : Nat := 2

/-- R394, R397: a packet of this module takes its route; the head's own packets for host memory go to its endpoint. -/
def Act.dispatch (words : List DWord) : Act := .look fun s =>
  let dst := (headOf words).dst
  if dst = s.ownNumber ∧ s.b F.COLYS_ID_HEAD ∧ dmaSpace (word1 words) = spaceHost then
    .setRing fun r => { r with hostQ := r.hostQ ++ [words] }
  else match s.routeTo dst with
  | some p => .transmit p words (.deadPacket words)
  | none => .deadPacket words

/-! ### Requests -/

/-- R401: a TAG is free 1 ms after its issue. -/
def State.tagFree (s : State) (t : Nat) : Bool :=
  !(s.ring.issued.any (fun e => e.1 == t && decide (s.clk < e.2 + 163840))) && !(s.ring.reqs.any (fun q => q.tag == t))

/-- R411: a read of a module waits for the host writes to it. -/
def State.requestHeld (s : State) (dst : BitVec 6) (use : RingUse) : Bool :=
  match use with
  | .host _ false _ => s.ring.reqs.any (fun q => q.dst == dst && (match q.use with | .host _ w _ => w | _ => false))
  | _ => false

/-- A request is issued with the next TAG. -/
def Act.issue (dst : BitVec 6) (use : RingUse) (words : List DWord) : Act := .look fun s =>
  let t := s.ring.tag
  let now := s.clk
  .all [
    .setRing fun r => { r with
      tag := (t + 1) % 65536
      issued := (t, now) :: r.issued.filter (fun e => decide (now < e.2 + 163840))
      reqs := r.reqs ++ [⟨t, dst, use, now⟩] },
    .dispatch (match words with
      | [] => []
      | w :: l => (w ||| BitVec.ofNat 64 (t <<< 20)) :: l)]

/-- The requests held back go out in their order as soon as R401 and R411 allow. An entry without words is a host read of this module,
which takes no packet. -/
def Act.heldIssue : List (BitVec 6 × RingUse × List DWord) → Act
  | [] => .skip
  | (dst, use, words) :: l => .look fun s =>
    if words != [] && s.tagFree s.ring.tag && !s.requestHeld dst use then
      .all [.setRing fun r => { r with held := l }, .issue dst use words, Act.heldIssue l]
    else .skip

/-- R401, R411: a request is issued, or held back behind those that wait. -/
def Act.request (dst : BitVec 6) (use : RingUse) (words : List DWord) : Act := .all [
  .setRing fun r => { r with held := r.held ++ [(dst, use, words)] },
  .look fun s => .heldIssue s.ring.held]

/-- A MAINT request of this module (R402). -/
def State.maintWords (s : State) (dst : BitVec 6) (op arg : Nat) : List DWord :=
  [({ kind := pkMaint, maint := true, dst := dst, src := s.ownNumber } : PkHead).word, BitVec.ofNat 64 (op % 256 + arg <<< 8)]

end Sys2Proof.Machine
end

