-- ==== Sys2Proof/Machine/Harbour.lean ====
section
/-! DEFINITION. The Harbour (R354 to R373): the pool, the berths, packets, ports, gap marks, notices and watermarks. -/

namespace Sys2Proof.Machine

/-- R356: the push source an agent is. -/
def pushSrcOf : Src → PushSrc
  | .fabric d => .fabric d
  | .dma c => .dma c
  | .engine e => .engine e
  | _ => .host

/-- R354: the cells of the pool. -/
abbrev cellsInPool : Nat := 262144

/-- A berth's contents. -/
def State.berth (s : State) (b : Nat) : BerthSt := Sparse.get (fun _ => BerthSt.empty) s.harb b

/-- Replace a berth's contents. -/
def Act.setBerth (b : Nat) (f : BerthSt → BerthSt) : Act :=
  ⟨fun s => if b < 1024 then
      { s with harb := Sparse.set id (fun _ => BerthSt.empty) s.harb b (f (s.berth b)) } else s, by
    intro s
    refine ⟨fun h => ?_, ?_⟩
    · split
      · rename_i hb
        exact ⟨h.1, h.2.1, Sparse.set_wf _ _ _ _ _ _ h.2.2 (by simpa using hb) (fun a b _ h => h)⟩
      · exact h
    · split <;> rfl⟩

/-- Cells of the open packets of a berth. -/
def BerthSt.openCells (q : BerthSt) : Nat := (q.opens.map (fun e => e.2.length)).sum

/-- R360: the producer's view of the level. -/
def BerthSt.pLevel (q : BerthSt) : Nat := q.openCells + q.cells.length + (q.unseen.map Prod.fst).sum

/-- R360: the consumer's view of the level. -/
def BerthSt.cLevel (q : BerthSt) : Nat := q.cells.length - (q.hidden.map Prod.fst).sum

/-- R368: the committed packets that the consumer sees and has not finished popping. -/
def BerthSt.packets (q : BerthSt) : Nat := ((q.cells.take q.cLevel).filter (·.last)).length

/-- The berths that some register write has enabled. -/
def State.enabledBerths (s : State) : List Nat :=
  (s.regs.filter (fun e => e.1.name == .HARB_CFG && F.HARB_CFG_ENABLE.of e.2 == 1)).map (fun e => e.1.i)

/-- R370, R371: the berth is enabled and not broken. -/
def State.berthOn (s : State) (b : Nat) : Bool :=
  s.b F.HARB_CFG_ENABLE b && !s.b F.HARB_STATUS_BROKEN b

/-- R355: the capacity of a berth. -/
def State.berthCap (s : State) (b : Nat) : Nat := s.f F.HARB_SIZE_CAP_M1 b + 1

/-- R355: the reserve of a berth. -/
def State.berthMin (s : State) (b : Nat) : Nat := s.f F.HARB_SIZE_MIN b

/-- R360: cells that no berth holds. -/
def State.poolFree (s : State) : Nat := cellsInPool - (s.harb.map (fun e => e.2.pLevel)).sum

/-- R355: the sum of the reserves of the enabled berths. -/
def State.reserveSum (s : State) : Nat := (s.enabledBerths.map s.berthMin).sum

/-- R355: free cells that no enabled berth's reserve claims. -/
def State.poolUnclaimed (s : State) : Nat :=
  s.poolFree - (s.enabledBerths.map (fun b => s.berthMin b - (s.berth b).pLevel)).sum

/-- R355: the berth may take `n` more cells. -/
def State.berthRoom (s : State) (b n : Nat) : Bool :=
  let u := (s.berth b).pLevel
  decide (u + n ≤ s.berthMin b ∨ (u + n ≤ s.berthCap b ∧ n - (s.berthMin b - u) ≤ s.poolUnclaimed))

/-- R369: the live watermark bits follow the levels; each change from 0 to 1 is latched and counted. -/
def Act.water (b : Nat) : Act := .look fun s =>
  let q := s.berth b
  let high : Bool := decide (s.f F.HARB_WATER_HWM b ≤ q.pLevel)
  let low : Bool := decide (q.cLevel ≤ s.f F.HARB_WATER_LWM b)
  .all [
    .when (high && !s.b F.HARB_STATUS_HIGH_NOW b)
      (.all [.setB F.HARB_STATUS_HIGH_WATER true b, .count F.HARB_STATUS_HIGH_CROSS 1 b]),
    .when (low && !s.b F.HARB_STATUS_LOW_NOW b)
      (.all [.setB F.HARB_STATUS_LOW_WATER true b, .count F.HARB_STATUS_LOW_CROSS 1 b]),
    .setB F.HARB_STATUS_HIGH_NOW high b, .setB F.HARB_STATUS_LOW_NOW low b]

/-- R361: a synchronous berth: the two views are one. -/
def State.berthSync (s : State) (b : Nat) : Bool := s.b F.HARB_CFG_SYNC b

/-- R359, R360: the edges that the clock of a side has made: PCLK or CCLK is the system clock or the port clock of a die. -/
def State.sideEdges (s : State) (sel : Nat) : Nat :=
  match sel with
  | 0 => s.clk
  | d + 1 => s.fab.portEdges[Fin.ofNat 2 d]

/-- R356: a packet commits: it is linked to the tail whole; in a synchronous berth the consumer sees it at once. -/
def Act.commitPacket (b : Nat) (p : List HCell) : Act := .look fun s =>
  if s.berthSync b then
    .all [.setBerth b fun q => { q with cells := q.cells ++ p }, .setB F.HARB_STATUS_NOTICE true b]
  else .setBerth b fun q => { q with cells := q.cells ++ p, hidden := q.hidden ++ [(p.length, s.sideEdges (s.f F.HARB_CFG_CCLK b))] }

/-- The cells of a packet: the end mark stands on the last one. -/
def packetCells (gap : Bool) : List DWord → List HCell
  | [] => []
  | [d] => [⟨d, true, gap⟩]
  | d :: l => ⟨d, false, gap⟩ :: packetCells gap l

/-- R363: while the pending gap count is not 0, a gap mark goes in as soon as there is room for two cells. -/
def Act.gapMark (b : Nat) : Act := .look fun s =>
  let q := s.berth b
  if s.berthOn b && decide (0 < q.gap) && s.berthRoom b 2 then .all [
    .commitPacket b (packetCells true
      [BitVec.ofNat 64 (q.gap + 0x3E * 2 ^ 36), BitVec.ofNat 64 q.gapTime]),
    .setBerth b fun q => { q with gap := 0, gapTime := 0 },
    .setB F.HARB_STATUS_GAP_PEND false b, .setB F.HARB_STATUS_GAP_SENT true b, .water b]
  else .skip

/-- R362: an item is dropped at a full berth. -/
def Act.dropItem (b : Nat) : Act := .look fun s => .all [
  .setBerth b fun q => { q with
    gap := min (q.gap + 1) 4294967295
    gapTime := if q.gap = 0 then s.ns else q.gapTime },
  .count F.HARB_COUNTS_DROPS 1 b, .setB F.HARB_STATUS_GAP_PEND true b]

/-- A module record that reaches no berth is counted in ORPHANS (R359, R370). -/
def Act.orphan (b : Nat) : Act := .count F.HARB_LOSS_ORPHANS 1 b

/-- R359: the berth takes the module's own records. -/
def State.berthTakesRecords (s : State) (b : Nat) : Bool := s.berthOn b && s.f F.HARB_CFG_PCLK b == 0

/-- R362, R363: a record of two cells would land in the berth (behind a gap mark that is due). -/
def State.recordLands (s : State) (b : Nat) : Bool :=
  s.berthTakesRecords b && s.berthRoom b (if (s.berth b).gap = 0 then 2 else 4)

/-- R356, R362: a packet of two cells that the module writes itself is taken whole or dropped whole, behind a gap mark
that is due (R363). -/
def Act.moduleRecord (b : Nat) (c0 c1 : DWord) : Act := .look fun s =>
  if !s.berthTakesRecords b then .orphan b
  else (Act.gapMark b).andThen <| .look fun s =>
    if s.berthRoom b 2 && (s.berth b).gap == 0 then
      (Act.commitPacket b (packetCells false [c0, c1])).andThen (.water b)
    else .dropItem b

/-- R359: the sources that may push. -/
def State.pushAllowed (s : State) (b : Nat) (k : PushSrc) : Bool :=
  match s.f F.HARB_CFG_PCLK b with
  | 0 => true
  | n + 1 => match k with
    | .fabric d => d.val == n
    | _ => false

/-- R356, R362: one cell is pushed by a source, with or without the end mark. -/
def Act.pushCell (b : Nat) (k : PushSrc) (d : DWord) (last : Bool) : Act := .look fun s =>
  if !s.berthOn b || !s.pushAllowed b k then .orphan b
  else if (s.berth b).discard.contains k then
    .when last (.setBerth b fun q => { q with discard := q.discard.filter (fun x => !(decide (x = k))) })
  else (Act.gapMark b).andThen <| .look fun s =>
    let own := (assoc (s.berth b).opens k).getD []
    if s.berthRoom b 1 && ((s.berth b).gap == 0 || !own.isEmpty) then
      if last then .all [
        .setBerth b fun q => { q with opens := assocDel q.opens k },
        .commitPacket b (packetCells false (own ++ [d])), .water b]
      else .all [.setBerth b fun q => { q with opens := assocSet q.opens k (own ++ [d]) }, .water b]
    else .all [
      .setBerth b fun q => { q with
        opens := assocDel q.opens k
        discard := if last then q.discard else k :: q.discard },
      .dropItem b, .gapMark b, .water b]

/-- A refused HARB access: an error response, counted. -/
def Act.harbRefuse : Act := .refuse F.HARB_REFUSED_COUNT

/-- R358: a write to PUSH or PUSH_END, of 64 bits or of one half. -/
def Act.portPush (src : Src) (b : Nat) (last : Bool) (h : Half) (v : DWord) : Act := .look fun s =>
  let k := pushSrcOf src
  let q := s.berth b
  match h with
  | .both => (Act.answer (.ok 0)).andThen (.pushCell b k v last)
  | .lo => .all [.answer (.ok 0), .setBerth b fun q =>
      if last then { q with endLo := assocSet q.endLo k (v.setWidth 32) }
      else { q with pushLo := assocSet q.pushLo k (v.setWidth 32) }]
  | .hi => match assoc (if last then q.endLo else q.pushLo) k with
    | none => .harbRefuse
    | some lo => .all [.answer (.ok 0),
        .setBerth b fun q => if last then { q with endLo := assocDel q.endLo k } else { q with pushLo := assocDel q.pushLo k },
        .pushCell b k ((v.setWidth 32 : Word) ++ lo) last]

/-- The consumer frees `n` cells at the head; in a synchronous berth the producer sees it at once (R360, R361). -/
def Act.freeHead (b n : Nat) : Act := .look fun s => .all [
  .setBerth b fun q => { q with
    cells := q.cells.drop n
    unseen := if s.berthSync b then q.unseen else q.unseen ++ [(n, s.sideEdges (s.f F.HARB_CFG_PCLK b))] },
  .water b, .when (s.berthSync b) (.gapMark b)]

/-- R370: every cell of a berth is freed and what it held is counted and logged. -/
def Act.freeBerth (b : Nat) (broken : Bool) : Act := .look fun s =>
  let q := s.berth b
  let committed := (q.cells.filter (·.last)).length
  .all [
    .count F.HARB_LOSS_DISCARDED (committed + q.opens.length + q.gap) b,
    .log 22 b (leBytes committed 4 ++ leBytes q.opens.length 4 ++ leBytes q.gap 4 ++ leBytes broken.toNat 1),
    .setBerth b fun q => { BerthSt.empty with lastPop := q.lastPop, tags := q.tags },
    .setB F.HARB_STATUS_GAP_PEND false b, .setB F.HARB_STATUS_HIGH_NOW false b, .setB F.HARB_STATUS_LOW_NOW false b]

/-- R371: a double-bit error in a link or an end mark breaks the berth. -/
def Act.breakBerth (b : Nat) : Act := .all [
  .freeBerth b true, .setB F.HARB_STATUS_BROKEN true b, .count F.HARB_ECC_UNCORRECTABLE]

/-- R357, R359, R370: port reads of the berth are answered. -/
def State.portReads (s : State) (b : Nat) : Bool := s.berthOn b && s.f F.HARB_CFG_CCLK b == 0

/-- R364, R371: one cell is popped. -/
def Act.popCell (k : PushSrc) (b : Nat) (ecc : Ecc) : Act := .look fun s =>
  let q := s.berth b
  match q.cells, decide (0 < q.cLevel) with
  | c :: _, true =>
    match ecc with
    | .link => (Act.breakBerth b).andThen (.fresh fun v => .answer (.ok v))
    | _ => .all [
        .when (ecc == .single) (.count F.HARB_ECC_CORRECTED),
        .when (ecc == .double) (.all [.count F.HARB_ECC_UNCORRECTABLE, .setB F.HARB_STATUS_ECC true b]),
        .setBerth b fun q => { q with
          lastPop := c.data
          tags := assocSet q.tags k (c.last.toNat + 2 * c.gap.toNat + 8 * (ecc == .double).toNat) },
        .freeHead b 1, .answer (.ok c.data)]
  | _, _ => .all [
      .setB F.HARB_STATUS_UNDERRUN true b, .count F.HARB_COUNTS_UNDERRUNS 1 b,
      .setBerth b fun q => { q with tags := assocSet q.tags k 4 }, .answer (.ok q.lastPop)]

/-- The half of a 64-bit value. -/
def halfOf (h : Half) (v : DWord) : DWord :=
  match h with
  | .both => v
  | .lo => (v.setWidth 32).setWidth 64
  | .hi => v >>> 32

/-- The data an access has just been answered with. -/
def State.answered (s : State) : DWord :=
  match s.resp with
  | .ok d => d
  | _ => 0

/-- R358: a read of POP, of 64 bits or of one half. -/
def Act.portPop (src : Src) (b : Nat) (h : Half) (ecc : Ecc) : Act := .look fun s =>
  let k := pushSrcOf src
  if !s.portReads b then .harbRefuse else
  match h with
  | .both => .popCell k b ecc
  | .lo => (Act.popCell k b ecc).andThen <| .look fun s => .all [
      .setBerth b fun q => { q with popHi := assocSet q.popHi k ((s.answered >>> 32).setWidth 32) },
      .answer (.ok (halfOf .lo s.answered))]
  | .hi => match assoc (s.berth b).popHi k with
    | none => .answer (.ok 0)
    | some v => .all [.setBerth b fun q => { q with popHi := assocDel q.popHi k }, .answer (.ok (v.setWidth 64))]

/-- R357: the head cell, or the last value of an empty berth. -/
def BerthSt.peek (q : BerthSt) : DWord :=
  match q.cells, decide (0 < q.cLevel) with
  | c :: _, true => c.data
  | _, _ => q.lastPop

/-- R357, R358, R371: a read of PEEK. -/
def Act.portPeek (src : Src) (b : Nat) (h : Half) (ecc : Ecc) : Act := .look fun s =>
  let k := pushSrcOf src
  let v := (s.berth b).peek
  if !s.portReads b then .harbRefuse else
  match h with
  | .hi => match assoc (s.berth b).peekHi k with
    | none => .answer (.ok 0)
    | some v => .all [.setBerth b fun q => { q with peekHi := assocDel q.peekHi k }, .answer (.ok (v.setWidth 64))]
  | _ => if ecc == .link && decide (0 < (s.berth b).cLevel) then (Act.breakBerth b).andThen (.fresh fun v => .answer (.ok (halfOf h v)))
    else .all [
      .when (ecc == .single) (.count F.HARB_ECC_CORRECTED),
      .when (ecc == .double) (.all [.count F.HARB_ECC_UNCORRECTABLE]),
      .when (h == .lo) (.setBerth b fun q => { q with peekHi := assocSet q.peekHi k ((v >>> 32).setWidth 32) }),
      .answer (.ok (halfOf h v))]

/-- R357: the tag of the last pop by the reading source. -/
def State.popTag (s : State) (src : Src) (b : Nat) : Nat := (assoc (s.berth b).tags (pushSrcOf src)).getD 0

/-- Cells from the head up to and including the first end mark. -/
def firstPacket : List HCell → Nat
  | [] => 0
  | c :: l => if c.last then 1 else firstPacket l + 1

/-- R367: a write to DROP_REST. -/
def Act.dropRest (b : Nat) : Act := .look fun s =>
  let q := s.berth b
  if !s.portReads b then .harbRefuse
  else if q.cLevel = 0 then .all [.count F.HARB_COUNTS_UNDERRUNS 1 b, .answer (.ok 0)]
  else .all [.freeHead b (firstPacket q.cells), .answer (.ok 0)]

/-- R372: the clock of a side runs. -/
def State.portClockRuns (s : State) (sel : Nat) : Bool :=
  match sel with
  | 0 => true
  | d + 1 => s.bit F.FAB_CLK_LOCK (s.f F.FAB_PORT_CLK d)

/-- R360, R372: a change that the other side made by edge `at_` of this side's clock crosses: at the third edge, and not while the consumer's
clock is stopped. -/
def State.crosses (s : State) (b : Nat) (sel at_ : Nat) : Bool :=
  s.berthOn b && s.portClockRuns (s.f F.HARB_CFG_CCLK b) && s.portClockRuns sel && decide (at_ + 3 ≤ s.sideEdges sel)

/-- R360: the oldest unseen change of the other side becomes visible: to the producer an act of the consumer, whose cells
return to the pool; to the consumer a commit. -/
def Act.crossing (b : Nat) (producer : Bool) : Act := .look fun s =>
  let q := s.berth b
  if producer then
    match q.unseen with
    | [] => .skip
    | e :: l => .when (s.crosses b (s.f F.HARB_CFG_PCLK b) e.2)
        (.all [.setBerth b fun q => { q with unseen := l }, .water b, .gapMark b])
  else
    match q.hidden with
    | [] => .skip
    | e :: l => .when (s.crosses b (s.f F.HARB_CFG_CCLK b) e.2)
        (.all [.setBerth b fun q => { q with hidden := l }, .setB F.HARB_STATUS_NOTICE true b, .water b])

/-- R370: the berth is enabled empty; the live bits take their values without counting a crossing. -/
def Act.enableBerth (b : Nat) : Act := .all [
  .setBerth b fun _ => BerthSt.empty,
  .setB F.HARB_STATUS_GAP_PEND false b,
  .look fun s => .all [
    .setB F.HARB_STATUS_HIGH_NOW (decide (s.f F.HARB_WATER_HWM b = 0)) b, .setB F.HARB_STATUS_LOW_NOW true b]]

/-- R359, R361, R370: a write to CFG. -/
def Act.berthCfg (b : Nat) (v : Word) : Act := .look fun s =>
  let was := s.b F.HARB_CFG_ENABLE b
  let on := F.HARB_CFG_ENABLE.of v == 1
  let old := s.r .HARB_CFG b
  let fixed : Word := 0xFFFF003E
  if F.HARB_CFG_PCLK.of v == 3 || F.HARB_CFG_CCLK.of v == 3 then .harbRefuse
  else if F.HARB_CFG_SYNC.of v == 1 && F.HARB_CFG_PCLK.of v != F.HARB_CFG_CCLK.of v then .harbRefuse
  else if was && on && !s.b F.HARB_STATUS_BROKEN b && decide ((old ^^^ v) &&& fixed ≠ 0) then .harbRefuse
  else if on && !was && decide (cellsInPool < s.reserveSum + s.berthMin b) then .harbRefuse
  else .all [
    .when (s.berthOn b && !on) (.freeBerth b false),
    .setR .HARB_CFG v b,
    .when (on && (!was || s.b F.HARB_STATUS_BROKEN b)) (.enableBerth b),
    .setB F.HARB_STATUS_BROKEN false b,
    .accept]

/-- R355, R370: a write to SIZE. -/
def Act.berthSize (b : Nat) (v : Word) : Act := .look fun s =>
  let cap := F.HARB_SIZE_CAP_M1.of v + 1
  let min := F.HARB_SIZE_MIN.of v
  let others := s.reserveSum - (if s.b F.HARB_CFG_ENABLE b then s.berthMin b else 0)
  if cap = 1 ∨ cap < min then .harbRefuse
  else if s.b F.HARB_CFG_ENABLE b && decide (cellsInPool < others + min) then .harbRefuse
  else .all [.setR .HARB_SIZE v b, .accept]

/-- R369: a write to WATER. -/
def Act.berthWater (b : Nat) (v : Word) : Act := .look fun s =>
  if F.HARB_WATER_HWM.of v ≤ F.HARB_WATER_LWM.of v ∨ s.berthCap b < F.HARB_WATER_HWM.of v then .harbRefuse
  else .all [.setR .HARB_WATER v b, .accept]

/-- R373: the berth has an interrupt source set. -/
def State.berthIrq (s : State) (b : Nat) : Bool :=
  let en := fun n => s.bit F.HARB_CFG_IRQ_EN n b
  (s.b F.HARB_STATUS_NOTICE b && en 0) || (s.b F.HARB_STATUS_HIGH_WATER b && en 1) ||
  (s.b F.HARB_STATUS_LOW_WATER b && en 2) || (s.b F.HARB_STATUS_GAP_SENT b && en 3) ||
  (s.b F.HARB_STATUS_UNDERRUN b && en 4) || s.b F.HARB_STATUS_ECC b || s.b F.HARB_STATUS_BROKEN b

/-- The berths whose STATUS differs from its reset value. -/
def State.busyBerths (s : State) : List Nat :=
  (s.regs.filter (fun e => e.1.name == .HARB_STATUS)).map (fun e => e.1.i)

/-- The offset of a port of a berth (R357). -/
def portOffset (b port : Nat) : Nat := 0x800000 + b * 0x2000 + port

/-! ### The commands -/

def execHarbourPush (src : Src) (b : Berth) (h : Half) (v : DWord) (s : State) :=
  (Act.write src (portOffset b 0) (Act.portPush src b false h v)).done s
def execHarbourPushEnd (src : Src) (b : Berth) (h : Half) (v : DWord) (s : State) :=
  (Act.write src (portOffset b 8) (Act.portPush src b true h v)).done s
def execHarbourPop (src : Src) (b : Berth) (h : Half) (ecc : Ecc) (s : State) :=
  (Act.reach (Act.portPop src b h ecc)).done s
def execHarbourPeek (src : Src) (b : Berth) (h : Half) (ecc : Ecc) (s : State) :=
  (Act.reach (Act.portPeek src b h ecc)).done s
/-- The value written is ignored (R357). -/
def execDropRest (src : Src) (b : Berth) (_v : Word) (s : State) :=
  (Act.write src (portOffset b 0x28) (Act.dropRest b)).done s
def execPointerCrossing (b : Berth) (producer : Bool) (s : State) := (Act.crossing b producer).done s
def execGapMarkWrite (b : Berth) (s : State) := (Act.gapMark b).done s
def execBerthCfgWrite (src : Src) (b : Berth) (v : Word) (s : State) :=
  (Act.writeTo src .HARB_CFG b 0 0 (Act.berthCfg b v)).done s
def execBerthSizeWrite (src : Src) (b : Berth) (v : Word) (s : State) :=
  (Act.writeTo src .HARB_SIZE b 0 0 (Act.berthSize b v)).done s
def execBerthWaterWrite (src : Src) (b : Berth) (v : Word) (s : State) :=
  (Act.writeTo src .HARB_WATER b 0 0 (Act.berthWater b v)).done s

end Sys2Proof.Machine
end

