-- ==== Sys2Proof/Machine/Image.lean ====
section
/-! DEFINITION. Reading a policy image (R286, R287): its header fields and the sections of its body. -/

namespace Sys2Proof.Machine

/-- `n` bytes at offset `o` of a byte image, as a number. -/
def imgNat (img : List Byte) (o n : Nat) : Nat := leNat ((img.drop o).take n)

/-- R287: the section table: type, offset and size of each section. -/
def imgSections (img : List Byte) : List (Nat × Nat × Nat) :=
  (List.range (imgNat img 0x10 2)).map fun i =>
    (imgNat img (0x40 + 16 * i) 2, imgNat img (0x44 + 16 * i) 4, imgNat img (0x48 + 16 * i) 4)

/-- The contents of every section of a type, in order. -/
def imgSectionsOf (img : List Byte) (ty : Nat) : List (List Byte) :=
  ((imgSections img).filter (fun e => e.1 == ty)).map fun e => (img.drop e.2.1).take e.2.2

/-- The contents of the section of a type that may stand once. -/
def imgSection (img : List Byte) (ty : Nat) : Option (List Byte) := (imgSectionsOf img ty).head?

/-- The section of the image in force; none where no image verified. -/
def State.section (s : State) (ty : Nat) : Option (List Byte) := s.pol.inForce.bind fun img => imgSection img ty

/-- Byte `i` of a byte list, 0 past its end. -/
def byteAt (l : List Byte) (i : Nat) : Nat := ((l.drop i).headD 0).toNat

/-- R331: the safe state byte (section 7) or sleep state byte (section 8) of a pin. Without an image in force it is
high-impedance with 100 kΩ pull-down. -/
def State.pinByte (s : State) (ty : Nat) (g : Grp) (p : Pin) : Nat :=
  match s.section ty with
  | some l => byteAt l (if p.val < 16 then g * 16 + p else 64 + g * 4 + (p - 16))
  | none => 4

/-- R287: the REDUCED section's entry of an input: RNG and MODE; R54's default without it. -/
def State.reducedInput (s : State) (i : Nat) : Nat × Nat :=
  match s.section 9 with
  | some l => (byteAt l i % 4, byteAt l i / 4 % 2)
  | none => (3, 0)

end Sys2Proof.Machine
end

