-- ==== Sys2Proof/Machine/Pins.lean ====
section
/-! DEFINITION. General pins and differential pairs (R321 to R333): drivers, levels, functions, the lock, sleep and safe
states, and the writes of the PIN registers. -/

namespace Sys2Proof.Machine

/-- A pin of a group. -/
def State.pin (s : State) (g : Grp) (p : Pin) : PinSt := s.pins[g][p]

/-- Change a pin of a group. -/
def Act.setPin (g : Grp) (p : Pin) (f : PinSt → PinSt) : Act :=
  .upd fun s => { s with pins := s.pins.set g (s.pins[g].set p (f s.pins[g][p])) }

/-- The CFG word of a pin. -/
def State.pinCfg (s : State) (g : Grp) (p : Pin) : Word :=
  if p.val < 16 then s.r .PIN_P_CFG g p else s.r .PIN_DP_CFG g (p - 16)

/-- R325: the function of a pin. -/
def State.pinFunc (s : State) (g : Grp) (p : Pin) : Nat := F.PIN_P_CFG_FUNC.of (s.pinCfg g p)

/-- R317: the filtered level of a comparator. -/
def State.cmpF (s : State) (g : Grp) (k : Nat) : Bool := s.b F.CMP_STATUS_LEVEL g k

/-- R439: the pairing role. -/
def State.pairRole (s : State) : Nat := s.f F.SYS_MODE_EFF_PAIR_ROLE

/-- R440: a standby's pins and gates do not drive. -/
def State.standby (s : State) : Bool := decide (2 ≤ s.pairRole)

/-- R325: what a pin's function drives: none where its driver is off. -/
def State.pinFuncDrive (s : State) (g : Grp) (p : Pin) : Option Bool :=
  match s.pinFunc g p with
  | 2 => some (s.bit F.PIN_OUT_OUT p g)
  | 3 => (s.pin g p).fab0
  | 4 => (s.pin g p).fab1
  | 5 => some (s.cmpF g (F.PIN_P_CFG_CMP_SEL.of (s.pinCfg g p)))
  | _ => none

/-- R331: what a state byte drives. -/
def stateByteDrive (b : Nat) (hold : Option Bool) : Option Bool :=
  match b % 4 with
  | 1 => some false
  | 2 => some true
  | 3 => hold
  | _ => none

/-- R330: what a pin drives in the row in force (PIN.STATE). -/
def State.pinDrive (s : State) (g : Grp) (p : Pin) : Option Bool :=
  match s.f F.PIN_STATE_STATE g with
  | 1 => if s.standby then none else s.pinFuncDrive g p
  | 2 => stateByteDrive (s.pinByte 8 g p) (s.pin g p).hold
  | 3 => stateByteDrive (s.pinByte 7 g p) (s.pin g p).hold
  | _ => none

/-- What acts on a pin that no driver holds. -/
inductive Pull where
  | none | down | up | keep
deriving DecidableEq, Repr

/-- R321, R330, R331, R440: the pull that acts. -/
def State.pinPull (s : State) (g : Grp) (p : Pin) : Pull :=
  let ofByte := fun b => match b / 4 % 4 with
    | 1 => Pull.down
    | 2 => .up
    | 3 => .keep
    | _ => .none
  match s.f F.PIN_STATE_STATE g with
  | 1 => if s.standby && decide (2 ≤ s.pinFunc g p) then .none else
      match F.PIN_P_CFG_PULL.of (s.pinCfg g p) with
      | 1 | 3 => .down
      | 2 | 4 => .up
      | 5 => .keep
      | _ => .none
  | 2 => ofByte (s.pinByte 8 g p)
  | 3 => ofByte (s.pinByte 7 g p)
  | _ => .down

/-- R323: the group's field supply is present. -/
def State.vfldOk (s : State) (g : Grp) : Bool := s.pwr.vfld[g]

/-- R321, R323: the level that a pin's own driver holds, none where it leaves the pin to the pull. -/
def State.pinHeld (s : State) (g : Grp) (p : Pin) : Option Bool :=
  let w := s.pinCfg g p
  if 16 ≤ p.val then s.pinDrive g p else
  match s.pinDrive g p with
  | none => none
  | some l => match F.PIN_P_CFG_DRIVE.of w with
    | 1 => if l then none else some false
    | 2 => if l && (F.PIN_P_CFG_CLASS.of w == 0 || (s.vfldOk g && !(s.pin g p).tripped)) then some true else none
    | _ => some l

/-- R321, R324, R325: the level an input reads; none where the spec does not specify it. -/
def State.pinLevel (s : State) (g : Grp) (p : Pin) : Option Bool :=
  if s.pinFunc g p = 0 then some false else
  match (s.pin g p).ext with
  | some b => some b
  | none => match s.pinHeld g p with
    | some b => some b
    | none =>
      if 16 ≤ p.val then some true
      else if F.PIN_P_CFG_ITYPE.of (s.pinCfg g p) ≠ 0 then some false
      else match s.pinPull g p with
        | .down => some false
        | .up => some true
        | .keep => some (s.bit F.PIN_LEVEL_LEVEL p g)
        | .none => none

/-- Store one bit of a field. -/
def Act.putBit (f : Fld) (b : Nat) (v : Bool) (i : Nat := 0) (j : Nat := 0) (k : Nat := 0) : Act :=
  if v then .setBit f b i j k else .clrBit f b i j k

/-- R326 step 4: DRIVEN, LEVEL and NO_VFLD of a pin follow its driver. -/
def Act.pinRefresh (g : Grp) (p : Pin) : Act := .look fun s => .all [
  .putBit F.PIN_DRIVEN_DRIVEN p (s.pinDrive g p).isSome g,
  .when (decide (p.val < 16)) (.putBit F.PIN_FIELD_NO_VFLD p
    (F.PIN_P_CFG_CLASS.of (s.pinCfg g p) == 1 && s.pinDrive g p == some true && !s.vfldOk g) g),
  match s.pinLevel g p with
  | some b => .putBit F.PIN_LEVEL_LEVEL p b g
  | none => .fresh fun v => .putBit F.PIN_LEVEL_LEVEL p (v.getLsbD 0) g]

/-- Every pin of a group. -/
def Act.pinsRefresh (g : Grp) : Act := .each (List.finRange 20) (Act.pinRefresh g)

/-- R330: the row that governs the pins of a group. -/
def State.pinRow (s : State) (g : Grp) : Nat :=
  if !s.alive g || !s.released || !s.up then 0
  else if s.b F.LIMIT_SAFE_ACTIVE then 3
  else if s.mode parked then 2
  else 1

/-- R326, R330: where the governing row has changed, the hold latches capture what the pins drive and the pins switch. -/
def Act.pinRowUpdate (g : Grp) : Act := .look fun s =>
  if s.pinRow g = s.f F.PIN_STATE_STATE g then .pinsRefresh g
  else .all [
    .each (List.finRange 20) fun p => .setPin g p fun x => { x with hold := s.pinDrive g p },
    .setF F.PIN_STATE_STATE (s.pinRow g) g,
    .pinsRefresh g]

/-- The pins of every group. -/
def Act.pinRows : Act := .each (List.finRange 4) Act.pinRowUpdate

/-- R329: a pin is locked. -/
def State.pinLocked (s : State) (g : Grp) (p : Pin) : Bool := s.bit F.PIN_LOCKED_LOCKED p g

/-- R321, R325, R327, R329: a CFG word that a pin refuses. -/
def State.pinCfgBad (s : State) (g : Grp) (p : Pin) (v : Word) : Bool :=
  let old := s.pinCfg g p
  let func := F.PIN_P_CFG_FUNC.of v
  s.pinLocked g p || decide (6 ≤ func) ||
  (decide (p.val < 16) && (
    F.PIN_P_CFG_DRIVE.of v == 3 || decide (6 ≤ F.PIN_P_CFG_PULL.of v) || F.PIN_P_CFG_ITYPE.of v == 3 ||
    (F.PIN_P_CFG_CLASS.of v == 1 && F.PIN_P_CFG_DRIVE.of v != 2) ||
    ((decide (2 ≤ func) || decide (2 ≤ F.PIN_P_CFG_FUNC.of old)) &&
      (F.PIN_P_CFG_CLASS.of v != F.PIN_P_CFG_CLASS.of old || F.PIN_P_CFG_DRIVE.of v != F.PIN_P_CFG_DRIVE.of old ||
       F.PIN_P_CFG_VOLT.of v != F.PIN_P_CFG_VOLT.of old || F.PIN_P_CFG_ITYPE.of v != F.PIN_P_CFG_ITYPE.of old))))

/-- Store a pin's CFG word. -/
def Act.setPinCfg (g : Grp) (p : Pin) (v : Word) : Act :=
  if p.val < 16 then .setR .PIN_P_CFG v g p else .setR .PIN_DP_CFG v g (p - 16)

/-- R326: a write of a pin's CFG; the hold latch captures what the pin drives before the switch. -/
def Act.pinCfgWrite (g : Grp) (p : Pin) (v : Word) : Act := .look fun s =>
  if s.pinCfgBad g p v then .refuse F.PIN_REFUSED_COUNT g
  else .all [.setPinCfg g p v, .pinRefresh g p, .accept]

/-- R328: the stored output bits after a write. -/
def Act.pinOutPut (g : Grp) (v : Nat) : Act := .all [.setF F.PIN_OUT_OUT v g, .pinsRefresh g, .accept]

/-- R328: PIN.OUT. -/
def Act.pinOut (g : Grp) (v : Word) : Act := .pinOutPut g v.toNat
/-- R328: OUT_SET, W1S. -/
def Act.pinOutSet (g : Grp) (v : Word) : Act := .look fun s => .pinOutPut g (s.f F.PIN_OUT_OUT g ||| v.toNat)
/-- R328: OUT_CLR, W1C. -/
def Act.pinOutClr (g : Grp) (v : Word) : Act := .look fun s => .pinOutPut g ((s.r .PIN_OUT g &&& ~~~v).toNat)
/-- R328: OUT_TGL, W1T. -/
def Act.pinOutTgl (g : Grp) (v : Word) : Act := .look fun s => .pinOutPut g ((s.r .PIN_OUT g ^^^ v).toNat)

/-- R42: SYS.LOCKS.PINS shows the groups with a locked pin. -/
def Act.locksUpdate (g : Grp) : Act := .look fun s =>
  .putBit F.SYS_LOCKS_PINS g (decide (s.f F.PIN_LOCKED_LOCKED g ≠ 0))

/-- R329: a write to PIN.LOCK. -/
def Act.pinLock (g : Grp) (v : Word) : Act := .look fun s =>
  let restart : Act := .all [.refuse F.PIN_REFUSED_COUNT g, .setF F.PIN_LOCKED_STEP (if v = 0xA5 then 1 else 0) g]
  match s.f F.PIN_LOCKED_STEP g with
  | 0 => if v = 0xA5 then .all [.setF F.PIN_LOCKED_STEP 1 g, .accept] else restart
  | 1 => if v = 0x5A then .all [.setF F.PIN_LOCKED_STEP 2 g, .accept] else restart
  | _ => if v.toNat < 2 ^ 20 then .all [
        .setF F.PIN_LOCKED_LOCKED (s.f F.PIN_LOCKED_LOCKED g ||| v.toNat) g,
        .setF F.PIN_LOCKED_STEP 0 g, .locksUpdate g, .accept]
      else restart

/-- R323: a FIELD switch in current limit, or at its thermal limit, turns off; the log is written once for each latching. -/
def Act.fieldOverload (g : Grp) (p : GPin) : Act := .look fun s =>
  let q : Pin := p.castLE (by decide)
  if F.PIN_P_CFG_CLASS.of (s.pinCfg g q) = 1 ∧ s.pinDrive g q = some true ∧ s.vfldOk g ∧ !(s.pin g q).tripped then .all [
    .setPin g q fun x => { x with tripped := true, tripAt := s.clk },
    .when (!s.bit F.PIN_FIELD_OVERLOAD p g) (.log 23 (g * 16 + p) []),
    .setBit F.PIN_FIELD_OVERLOAD p g, .pinRefresh g q]
  else .skip

/-- R323: a switch that has turned off and is still driven 1 retries, 100 ms after it turned off or last retried. -/
def Act.fieldRetry (g : Grp) (p : GPin) (failed : Bool) : Act := .look fun s =>
  let q : Pin := p.castLE (by decide)
  if (s.pin g q).tripped ∧ s.pinDrive g q = some true ∧ (s.pin g q).tripAt + 16384000 ≤ s.clk then
    if failed then .all [.count F.PIN_DP_STATUS_OVL_COUNT 1 g, .setPin g q fun x => { x with tripAt := s.clk }]
    else .all [.setPin g q fun x => { x with tripped := false }, .pinRefresh g q]
  else .skip

/-- R321: what an outside source sets at a pin; the clock at which a source comes or goes is kept. -/
def Act.pinOutside (g : Grp) (p : Pin) (level : Option Bool) : Act := .look fun s => .setPin g p fun x => { x with
  ext := level, extAt := if x.ext.isSome = level.isSome then x.extAt else s.clk }

/-- R324: a differential pair lies within ±150 mV. -/
def Act.pairFailsafe (g : Grp) (d : Dp) : Act :=
  let q : Pin := ⟨16 + d, by omega⟩
  (Act.pinOutside g q none).andThen <| .look fun s => .when (s.alive g) (.all [
    .setBit F.PIN_DP_STATUS_FS_NOW d g, .setBit F.PIN_DP_STATUS_FS d g, .pinRefresh g q])

/-- R321, R324: the level outside a pin changes; a pair that an outside source drives leaves fail-safe. -/
def Act.pinExternal (g : Grp) (p : Pin) (level : Option Bool) : Act :=
  if h : 16 ≤ p.val then
    match level with
    | none => .pairFailsafe g ⟨p - 16, by omega⟩
    | some _ => .all [.pinOutside g p level,
        .clrBit F.PIN_DP_STATUS_FS_NOW (p - 16) g, .pinRefresh g p]
  else .all [.pinOutside g p level, .pinRefresh g p]

/-- R324, R330: the pins of a group whose die comes alive: an unconnected pair lies in fail-safe. -/
def Act.pinsAlive (g : Grp) : Act := .look fun s => .all [
  .each (List.finRange 4) fun d => .when ((s.pin g ⟨16 + d.val, by omega⟩).ext == none) (.pairFailsafe g d),
  .pinRowUpdate g]

/-- The offset of a pin's CFG. -/
def pinCfgOffset (g : Grp) (p : Pin) : Nat :=
  if p.val < 16 then RegRef.offset ⟨.PIN_P_CFG, g, p, 0⟩ else RegRef.offset ⟨.PIN_DP_CFG, g, p - 16, 0⟩

/-! ### Mirrored registers of a pair -/

/-- R438, R440: a write to a register that partners mirror: a standby takes it only from the mirror and counts others; an
active partner queues what it has applied for the standby. -/
def Act.mirrored (src : Src) (off : Nat) (v : Word) (a : Act) : Act := .look fun s =>
  if s.standby && src != .pair then .all [.count F.PAIR_COUNTS_DISCARDED, .accept]
  else a.andThen <| .look fun t =>
    .when (s.pairRole == 1 && t.resp != .error)
      (.upd fun s => { s with pair := { s.pair with mirrorQ := s.pair.mirrorQ ++ [(BitVec.ofNat 24 off, v)] } })

/-! ### The commands -/

def execPinFuncWrite (src : Src) (g : Grp) (p : Pin) (v : Word) (s : State) :=
  (Act.write src (pinCfgOffset g p) (Act.pinCfgWrite g p v)).done s
def execPinOutWrite (src : Src) (g : Grp) (v : Word) (s : State) :=
  (Act.writeTo src .PIN_OUT g 0 0 (Act.mirrored src (RegRef.offset ⟨.PIN_OUT, g, 0, 0⟩) v (Act.pinOut g v))).done s
def execPinOutSet (src : Src) (g : Grp) (v : Word) (s : State) :=
  (Act.writeTo src .PIN_OUT_SET g 0 0 (Act.mirrored src (RegRef.offset ⟨.PIN_OUT_SET, g, 0, 0⟩) v (Act.pinOutSet g v))).done s
def execPinOutClr (src : Src) (g : Grp) (v : Word) (s : State) :=
  (Act.writeTo src .PIN_OUT_CLR g 0 0 (Act.mirrored src (RegRef.offset ⟨.PIN_OUT_CLR, g, 0, 0⟩) v (Act.pinOutClr g v))).done s
def execPinOutTgl (src : Src) (g : Grp) (v : Word) (s : State) :=
  (Act.writeTo src .PIN_OUT_TGL g 0 0 (Act.mirrored src (RegRef.offset ⟨.PIN_OUT_TGL, g, 0, 0⟩) v (Act.pinOutTgl g v))).done s
def execPinLockWrite (src : Src) (g : Grp) (v : Word) (s : State) :=
  (Act.writeTo src .PIN_LOCK g 0 0 (Act.pinLock g v)).done s
def execFieldOverload (g : Grp) (p : GPin) (s : State) := (Act.fieldOverload g p).done s
def execFieldRetry (g : Grp) (p : GPin) (failedAgain : Bool) (s : State) := (Act.fieldRetry g p failedAgain).done s
def execPairFailsafe (g : Grp) (d : Dp) (s : State) := (Act.pairFailsafe g d).done s
def execPinLevelChange (g : Grp) (p : Pin) (level : Option Bool) (s : State) := (Act.pinExternal g p level).done s

end Sys2Proof.Machine
end

