-- ==== Sys2Proof/Machine/Cmp.lean ====
section
/-! DEFINITION. The window comparators (R313 to R320). A threshold code is 2.5 V / 8,192; switching points are integers
in units of 1/32 nV. -/

namespace Sys2Proof.Machine

/-- A comparator of a group. -/
def State.kmp (s : State) (g : Grp) (k : Kmp) : CmpSt := s.cmps[g][k]

/-- Change a comparator of a group. -/
def Act.setKmp (g : Grp) (k : Kmp) (f : CmpSt → CmpSt) : Act :=
  .upd fun s => { s with cmps := s.cmps.set g (s.cmps[g].set k (f s.cmps[g][k])) }

/-- The thresholds and the hysteresis a comparator works with, and its preset. -/
structure CmpSet where
  a : Int
  b : Int
  hyst : Nat
  init : Bool
deriving DecidableEq, Repr

/-- R318: the configured set. -/
def State.cmpConfigured (s : State) (g : Grp) (k : Kmp) : CmpSet :=
  { a := signed 14 (s.f F.CMP_THR_A g k), b := signed 14 (s.f F.CMP_THR_B g k), hyst := s.f F.CMP_HYST_HYST g k
    init := s.b F.CMP_CFG_INIT g k }

/-- R287, R319: the NV set of the REDUCED section; none without one. -/
def State.cmpNv (s : State) (g : Grp) (k : Kmp) : Option CmpSet :=
  (s.section 9).map fun l =>
    let o := 64 + 8 * (g.val * 16 + k)
    { a := signed 14 (imgNat l o 2), b := signed 14 (imgNat l (o + 2) 2), hyst := byteAt l (o + 4)
      init := byteAt l (o + 5) % 2 == 1 }

/-- R74: a full load is in progress, so the comparators are off in reduced service. -/
def State.loading (s : State) : Bool := decide (s.f F.SYS_START_PHASE ≤ 2)

/-- R316, R319: the set that governs a comparator. -/
def State.cmpWanted (s : State) (g : Grp) (k : Kmp) : CmpRun :=
  if !s.alive g then .off
  else if s.mode reducedMode then
    if s.loading || !(s.cmpNv g k).isSome then .off else .nv
  else if s.released && s.b F.CMP_CFG_ENABLE g k then .configured
  else .off

/-- The set that a comparator's run names. -/
def State.cmpSet (s : State) (g : Grp) (k : Kmp) (r : CmpRun) : Option CmpSet :=
  match r with
  | .off => none
  | .configured => some (s.cmpConfigured g k)
  | .nv => s.cmpNv g k

/-- The nearest integer, ties away from zero. -/
def roundQ (x : ℚ) : Int := if 0 ≤ x then ⌊x + 1 / 2⌋ else -⌊1 / 2 - x⌋

/-- A threshold code plus or minus half the hysteresis, in units of 1/32 nV. -/
def cmpPoint (code : Int) (hyst : Nat) (up : Bool) : Int :=
  code * 9765625 + (if up then 1 else -1) * (hyst : Int) * 16000000

/-- R314: the level that the present input calls for; none where the input lies in band. -/
def cmpCall (mode : Nat) (a b : Int) (hyst : Nat) (x : ℚ) : Option Bool :=
  let y := 32000000000 * x
  let aUp : ℚ := cmpPoint a hyst true
  let aDn : ℚ := cmpPoint a hyst false
  let bUp : ℚ := cmpPoint b hyst true
  let bDn : ℚ := cmpPoint b hyst false
  match mode with
  | 0 => if y > bUp then some true else if y < bDn then some false else none
  | 1 => if y > bUp then some true else if y < aDn then some false else none
  | 2 => if aUp < y ∧ y < bDn then some true else if y < aDn ∨ y > bUp then some false else none
  | _ => if y < aDn ∨ y > bUp then some true else if aUp < y ∧ y < bDn then some false else none

/-- R314: the rule that the thresholds of a mode keep. -/
def cmpRule (mode : Nat) (a b : Int) (hyst : Nat) : Bool :=
  match mode with
  | 0 => true
  | 1 => decide (a ≤ b)
  -- the codes' difference in units of 2.5 V / 8,192 against h in mV
  | _ => decide ((hyst : Int) * 32000000 < (b - a) * 9765625)

/-- R313: the input a comparator sees, in volts: its track, or 0 V without one. -/
def State.cmpInput (s : State) (g : Grp) (k : Kmp) : ℚ :=
  if s.f F.CMP_CFG_INPUT g k = 31 then 0 else s.cells[g].tracks[Fin.ofNat 24 (s.f F.CMP_CFG_INPUT g k)]

/-- R314: what the present input calls for, with the thresholds in force. -/
def State.cmpNow (s : State) (g : Grp) (k : Kmp) : Option Bool :=
  let c := s.kmp g k
  cmpCall (s.f F.CMP_CFG_MODE g k) c.a c.b c.hyst (s.cmpInput g k)

/-- R317: the users of F at the pins follow it. -/
def Act.cmpUsers (g : Grp) (k : Kmp) : Act := .look fun s =>
  .each (List.finRange 20) fun p =>
    .when (s.pinFunc g p == 5 && F.PIN_P_CFG_CMP_SEL.of (s.pinCfg g p) == k.val) (.pinRefresh g p)

/-- R315: F takes a value; a change is counted. -/
def Act.cmpLevel (g : Grp) (k : Kmp) (v : Bool) : Act := .look fun s =>
  if s.cmpF g k = v then .skip
  else .all [.setB F.CMP_STATUS_LEVEL v g k, .putBit F.CMP_LEVELS_LEVELS k v g, .count F.CMP_STATUS_EDGES 1 g k,
    .cmpUsers g k]

/-- R315: F takes the value that at least N of the last M samples have. -/
def Act.cmpMajority (g : Grp) (k : Kmp) : Act := .look fun s =>
  let w := (s.kmp g k).samples
  let n := s.f F.CMP_CFG_N g k
  if n ≤ w.count true then .cmpLevel g k true
  else if n ≤ w.count false then .cmpLevel g k false
  else .skip

/-- R316: an enabling edge on set `c`: L, the samples and F take INIT. An input that calls for the opposite level changes L at once, and
this edge samples it. -/
def Act.cmpPreset (g : Grp) (k : Kmp) (r : CmpRun) (c : CmpSet) : Act := .all [
  .setKmp g k fun x => { x with run := r, a := c.a, b := c.b, hyst := c.hyst, want := none, thrAt := none },
  .cmpLevel g k c.init,
  .look fun s =>
    let l := (s.cmpNow g k).getD c.init
    .all [
      .setKmp g k fun x => { x with samples := l :: List.replicate (s.f F.CMP_CFG_M g k - 1) c.init },
      .setB F.CMP_STATUS_IN_BAND_AT_START (s.cmpNow g k).isNone g k, .setB F.CMP_STATUS_RAW l g k],
  .setB F.CMP_STATUS_ACTIVE true g k, .setB F.CMP_STATUS_NV_SET (r == .nv) g k,
  .cmpMajority g k]

/-- R316, R319: a disabled comparator presents F = 0; a comparator of a lost group keeps its last F. -/
def Act.cmpOff (g : Grp) (k : Kmp) : Act := .look fun s => .all [
  .setKmp g k fun x => { x with run := .off, want := none, thrAt := none },
  .setB F.CMP_STATUS_ACTIVE false g k, .setB F.CMP_STATUS_NV_SET false g k,
  .when (s.alive g) (.cmpLevel g k false)]

/-- R316: set `r` takes over at the first filter edge from here. -/
def Act.cmpEdgeWaits (g : Grp) (k : Kmp) (r : CmpRun) : Act := .look fun s =>
  .setKmp g k fun x => { x with want := some (r, s.clk) }

/-- R316, R319: the comparator follows the set that governs it; a change of set is an enabling edge. -/
def Act.cmpFollow (g : Grp) (k : Kmp) : Act := .look fun s =>
  let r := s.cmpWanted g k
  let x := s.kmp g k
  if x.want.map Prod.fst = some r then .skip
  else if r = x.run then .setKmp g k fun x => { x with want := none }
  else if r = .off then .cmpOff g k
  else .cmpEdgeWaits g k r

/-- Every comparator of a group. -/
def Act.cmpsFollow (g : Grp) : Act := .each (List.finRange 16) (Act.cmpFollow g)

/-- CFG fields that R318 fixes while ENABLE is 1: all but ENABLE itself. -/
def cmpCfgBad (v : Word) : Bool :=
  let i := F.CMP_CFG_INPUT.of v
  let m := F.CMP_CFG_M.of v
  let n := F.CMP_CFG_N.of v
  decide (24 ≤ i ∧ i ≤ 30) || decide (6 ≤ F.CMP_CFG_FCLK.of v) || m == 0 || decide (2 * n ≤ m) || decide (m < n)

/-- R314, R318, R319: a CFG word that the comparator refuses. -/
def State.cmpCfgRefused (s : State) (g : Grp) (k : Kmp) (v : Word) : Bool :=
  let old := s.r .CMP_CFG g k
  let mode := F.CMP_CFG_MODE.of v
  let c := s.cmpConfigured g k
  cmpCfgBad v ||
  (F.CMP_CFG_ENABLE.of old == 1 && decide ((old ^^^ v) &&& 0x003FFFFE ≠ 0)) ||
  !cmpRule mode c.a c.b c.hyst ||
  (match s.cmpNv g k with
    | some n => (s.kmp g k).run == .nv && !cmpRule mode n.a n.b n.hyst
    | none => false)

/-- R316, R318, R319: a write to CFG. -/
def Act.cmpCfg (g : Grp) (k : Kmp) (v : Word) : Act := .look fun s =>
  if s.cmpCfgRefused g k v then .refuse F.CMP_REFUSED_COUNT g
  else .all [.setR .CMP_CFG v g k,
    -- R319: while the NV set runs, a change of the fields it uses makes a new enabling edge
    if (s.kmp g k).run = .nv ∧ (s.r .CMP_CFG g k ^^^ v) &&& 0x003FFFF6 ≠ 0 then .cmpEdgeWaits g k .nv else .cmpFollow g k,
    .accept]

/-- R314, R318: a write to THR or HYST: judged under the MODE in force, taken, in effect from a later filter edge without changing L or F. -/
def Act.cmpThr (g : Grp) (k : Kmp) (hyst : Bool) (v : Word) : Act := .look fun s =>
  let c := s.cmpConfigured g k
  let n : CmpSet := if hyst then { c with hyst := F.CMP_HYST_HYST.of v }
    else { c with a := signed 14 (F.CMP_THR_A.of v), b := signed 14 (F.CMP_THR_B.of v) }
  if !cmpRule (s.f F.CMP_CFG_MODE g k) n.a n.b n.hyst then .refuse F.CMP_REFUSED_COUNT g
  else .all [
    if hyst then .setR .CMP_HYST v g k else .setR .CMP_THR v g k,
    .when ((s.kmp g k).run == .configured) (.setKmp g k fun x => { x with thrAt := some s.clk }),
    .accept]

/-- R314: L takes the level that the input calls for; it keeps its value where the input lies in band. -/
def Act.cmpRaw (g : Grp) (k : Kmp) : Act := .look fun s =>
  .when ((s.kmp g k).run != .off)
    (match s.cmpNow g k with
      | some l => .setB F.CMP_STATUS_RAW l g k
      | none => .skip)

/-- R315: the present system clock carries an edge of the comparator's filter clock of 40.96 MHz / 2^FCLK that has not passed. -/
def State.cmpEdgeDue (s : State) (g : Grp) (k : Kmp) : Bool :=
  s.clk % (4 * 2 ^ s.f F.CMP_CFG_FCLK g k) == 0 && (s.kmp g k).edgeAt != some s.clk

/-- R318: thresholds written at least 1 µs ago take effect; L and F stay as they stand. -/
def Act.cmpThrTake (g : Grp) (k : Kmp) : Act := .look fun s =>
  let c := s.cmpConfigured g k
  .when ((s.kmp g k).thrAt.any fun t => decide (t + 164 ≤ s.clk))
    (.setKmp g k fun x => { x with a := c.a, b := c.b, hyst := c.hyst, thrAt := none })

/-- R315: the running filter samples L. -/
def Act.cmpSample (g : Grp) (k : Kmp) : Act := .all [.cmpRaw g k, .look fun s => .all [
  .setKmp g k fun c => { c with samples := (s.b F.CMP_STATUS_RAW g k :: c.samples).take (s.f F.CMP_CFG_M g k) },
  .cmpMajority g k]]

/-- R315, R316, R318: a filter edge: a set that waits takes over; else thresholds that wait take effect, and L is sampled. -/
def Act.cmpFilter (g : Grp) (k : Kmp) : Act := .look fun s => .when (s.cmpEdgeDue g k) <|
  let x := s.kmp g k
  (Act.setKmp g k fun x => { x with edgeAt := some s.clk }).andThen <|
  match x.want with
  | some (r, _) => match s.cmpSet g k r with
    | some c => .cmpPreset g k r c
    | none => .cmpOff g k
  | none => .when (x.run != .off) (.all [.cmpThrTake g k, .cmpSample g k])

/-- R314, R315: a system clock of the comparators of a group that is alive. -/
def Act.cmpsTurn (g : Grp) : Act := .look fun s => .when (s.alive g)
  (.each (List.finRange 16) fun k => .all [.cmpRaw g k, .cmpFilter g k])

/-! ### The commands -/

def execCmpCfgWrite (src : Src) (g : Grp) (k : Kmp) (v : Word) (s : State) :=
  (Act.writeTo src .CMP_CFG g k 0 (Act.cmpCfg g k v)).done s
def execCmpThresholdWrite (src : Src) (g : Grp) (k : Kmp) (hyst : Bool) (v : Word) (s : State) :=
  (Act.writeTo src (if hyst then .CMP_HYST else .CMP_THR) g k 0 (Act.cmpThr g k hyst v)).done s
def execCmpRawChange (g : Grp) (k : Kmp) (_ : Computed) (s : State) := (Act.cmpRaw g k).done s
def execCmpFilterChange (g : Grp) (k : Kmp) (s : State) := (Act.cmpFilter g k).done s

end Sys2Proof.Machine
end

