-- ==== Sys2Proof/Machine/Dds.lean ====
section
/-! DEFINITION. The DDS engines (R302 to R305). Phases are integers in units of 2^-48 cycle. -/

namespace Sys2Proof.Machine

/-- 2^64 π, rounded down. -/
def piFixed : Int := 57952155664616982739

/-- The sine series in fixed point of 64 fraction bits: `t` is the last term, `k` counts the terms still to add. -/
def sinSeries (x t : Int) (n : Nat) : Nat → Int
  | 0 => t
  | k + 1 =>
    t + sinSeries x (-(t * x / 18446744073709551616 * x / 18446744073709551616) / ((2 * n) * (2 * n + 1))) (n + 1) k

/-- 32,767 sin(2π r / 4,096), rounded to nearest, for r from 0 to 1,024. -/
def sinQuarter (r : Nat) : Int :=
  let x := piFixed * r / 2048
  (2 * 32767 * sinSeries x x 1 12 + 18446744073709551616) / 36893488147419103232

/-- R302: T[i]. -/
def sinTable (i : Nat) : Int :=
  let j := i % 4096
  let r := j % 2048
  let a := if r ≤ 1024 then sinQuarter r else sinQuarter (2048 - r)
  if j < 2048 then a else -a

/-- R302: the interpolated sample at phase φ. -/
def ddsWave (phi : Nat) : Int :=
  let i : Nat := phi / 2 ^ 36 % 4096
  let f : Nat := phi / 2 ^ 20 % 65536
  sinTable i + roundDiv ((sinTable (i + 1) - sinTable i) * (f : Int)) 65536

/-- R302: the code before the clamp. -/
def ddsRaw (phi : Nat) (amp : Nat) (offset : Int) : Int := 0x8000 + offset + roundDiv (ddsWave phi * amp) 65536

/-- A DDS engine of a group. -/
def State.ddsE (s : State) (g : Grp) (e : DdsE) : DdsSt := s.dds[g][e]

/-- Change a DDS engine of a group. -/
def Act.setDds (g : Grp) (e : DdsE) (f : DdsSt → DdsSt) : Act :=
  .upd fun s => { s with dds := s.dds.set g (s.dds[g].set e (f s.dds[g][e])) }

/-- The frequency word in force. -/
def State.ddsFtw (s : State) (g : Grp) (e : DdsE) : Nat :=
  s.f F.DDSM_FTW_LO_FTW g e + 2 ^ 32 * s.f F.DDSM_FTW_HI_FTW g e

/-- R303: the engine follows a tracker. -/
def State.ddsFollows (s : State) (g : Grp) (e : DdsE) : Bool := s.b F.DDSM_FOLLOW_MODE g e

/-- R302, R303: the phase used. -/
def State.ddsPhase (s : State) (g : Grp) (e : DdsE) : Nat :=
  let d := s.ddsE g e
  ((if s.ddsFollows g e then d.follow / 100000000 else d.acc) + s.f F.DDSM_PHASE_PHASE_OFS g e * 2 ^ 32) % 2 ^ 48

/-- The engine generates samples. -/
def State.ddsOn (s : State) (g : Grp) (e : DdsE) : Bool := s.alive g && s.b F.DDS_CTRL_ENABLE g e

/-- R302: the unclamped sample. -/
def State.ddsSample (s : State) (g : Grp) (e : DdsE) : Int :=
  ddsRaw (s.ddsPhase g e) (s.f F.DDSM_AMP_AMP g e) (signed 16 (s.f F.DDSM_AMP_OFFSET g e))

/-- R302: the code an engine presents; 8000h while disabled. -/
def State.ddsCode (s : State) (g : Grp) (e : DdsE) : Nat :=
  if s.ddsOn g e then (clamp 0 0xFFFF (s.ddsSample g e)).toNat else 0x8000

/-- R302: the sample of the present phase is clamped, and CLIP sets. -/
def Act.ddsClip (g : Grp) (e : DdsE) : Act := .look fun s =>
  let c := s.ddsSample g e
  .when (s.ddsOn g e && decide (c < 0 ∨ 0xFFFF < c)) (.setB F.DDS_STATUS_CLIP true g e)

/-- R302, R305: the engine passes a conversion-clock edge: its phase advances, and a sample that is clamped sets CLIP. -/
def Act.ddsEdge (g : Grp) (e : DdsE) : Act := .look fun s =>
  .when (s.ddsOn g e && !s.mode parked) (.all [
    .setDds g e fun d =>
      if s.ddsFollows g e then
        { d with follow := ((d.follow + d.step) % ((2 ^ 48 * 100000000 : Nat) : Int)).toNat, wrapped := false }
      else { d with acc := (d.acc + s.ddsFtw g e) % 2 ^ 48, wrapped := decide (2 ^ 48 ≤ s.ddsPhase g e + s.ddsFtw g e) },
    .ddsClip g e])

/-- R302: as many conversion-clock edges as a span of system clocks holds. -/
def Act.ddsAdvance (g : Grp) (e : DdsE) (edges : Nat) : Act := .each (List.range edges) fun _ => .ddsEdge g e

/-- R304: the shadow set is invalid. -/
def State.ddsInvalid (s : State) (g : Grp) (e : DdsE) : Bool :=
  decide (0x8000 ≤ s.f F.DDS_FTW_HI_FTW g e) || decide ((s.ddsE g e).resv ≠ 0) ||
  (s.b F.DDS_FOLLOW_MODE g e && s.f F.TRK_CFG_SRC (s.f F.DDS_FOLLOW_TRK g e) == 0)

/-- R304: a refused write of the shadow set or of APPLY. -/
def Act.ddsRefuse (g : Grp) (e : DdsE) : Act := .refuse F.DDS_STATUS_REFUSED g e

/-- R304: a write to a word of the shadow set, refused while the set is closed. -/
def Act.ddsShadow (n : RegName) (bit : Nat) (g : Grp) (e : DdsE) (v : Word) : Act := .look fun s =>
  if s.b F.DDS_STATUS_PENDING g e then .ddsRefuse g e
  else .all [.setR n v g e, .setDds g e fun d => { d with
      resv := if v &&& ~~~n.mask = 0 then d.resv &&& (63 - 1 <<< bit) else d.resv ||| 1 <<< bit }, .accept]

/-- R304: every word of the set takes effect. -/
def Act.ddsTake (g : Grp) (e : DdsE) : Act := .look fun s => .all [
  .setR .DDSM_FTW_LO (s.r .DDS_FTW_LO g e) g e, .setR .DDSM_FTW_HI (s.r .DDS_FTW_HI g e) g e,
  .setR .DDSM_AMP (s.r .DDS_AMP g e) g e, .setR .DDSM_PHASE (s.r .DDS_PHASE g e) g e,
  .setR .DDSM_FOLLOW (s.r .DDS_FOLLOW g e) g e, .setR .DDSM_RATIO (s.r .DDS_RATIO g e) g e]

/-- R304: a write of APPLY. -/
def Act.ddsApply (g : Grp) (e : DdsE) (v : Word) : Act := .look fun s =>
  if s.b F.DDS_STATUS_PENDING g e then .ddsRefuse g e
  else if s.ddsInvalid g e then .all [.ddsRefuse g e, .setB F.DDS_STATUS_REJECTED true g e]
  else .all [.setR .DDS_APPLY v g e,
    .setDds g e fun d => { d with atWrap := F.DDS_APPLY_AT.of v == 1 },
    .setB F.DDS_STATUS_PENDING true g e, .accept]

/-- R304: the present conversion-clock edge is one at which the closed set takes effect: with AT = 1, on an engine that is enabled and not
in FOLLOW, an edge at which the phase wraps through 0. -/
def State.ddsEdgeDue (s : State) (g : Grp) (e : DdsE) : Bool :=
  let d := s.ddsE g e
  !(d.atWrap && s.b F.DDS_CTRL_ENABLE g e && !s.ddsFollows g e) || d.wrapped

/-- R304: the hand-over edge; PENDING clears and DONE sets. -/
def Act.ddsHandover (g : Grp) (e : DdsE) : Act := .look fun s =>
  if s.alive g && s.b F.DDS_STATUS_PENDING g e && s.ddsEdgeDue g e then .all [
    .ddsTake g e, .setB F.DDS_STATUS_PENDING false g e, .setB F.DDS_STATUS_DONE true g e]
  else .skip

/-- R305: a write of CTRL.ENABLE. -/
def Act.ddsEnable (g : Grp) (e : DdsE) (v : Word) : Act := .look fun s =>
  let on := F.DDS_CTRL_ENABLE.of v == 1
  .all [
    .when (on && !s.b F.DDS_CTRL_ENABLE g e) (.setDds g e fun d => { d with acc := 0 }),
    .setR .DDS_CTRL v g e, .setB F.DDS_STATUS_RUNNING (on && !s.mode parked) g e, .accept]

/-- R303: the supervisor sends tracker phase and velocity: phase × RATIO / 65,536, and the advance at that velocity for
each conversion-clock edge. -/
def Act.ddsFollowUpdate (g : Grp) (e : DdsE) : Act := .look fun s =>
  let k := s.f F.DDSM_FOLLOW_TRK g e
  let ratio := s.f F.DDSM_RATIO_RATIO g e
  let phase := s.f F.TRK_PHASE_LO_PHASE k + 2 ^ 32 * s.f F.TRK_PHASE_HI_PHASE k
  let vel := signed 32 (s.f F.TRK_VEL_VEL k)
  if s.ddsOn g e && s.ddsFollows g e && !s.mode parked then
    .setDds g e fun d => { d with follow := phase * ratio % 2 ^ 48 * 100000000, step := vel * ratio * 65536 }
  else .skip

/-- R53, R305: the engines stop at PARKED and resume when it leaves force. -/
def Act.ddsPark (g : Grp) (on : Bool) : Act := .each (List.finRange 4) fun e => .look fun s =>
  .setB F.DDS_STATUS_RUNNING (s.b F.DDS_CTRL_ENABLE g e && !on) g e

/-! ### The commands -/

def execDdsApply (src : Src) (g : Grp) (e : DdsE) (v : Word) (s : State) :=
  (Act.writeTo src .DDS_APPLY g e 0 (Act.mirrored src (RegRef.offset ⟨.DDS_APPLY, g, e, 0⟩) v (Act.ddsApply g e v))).done s
def execDdsHandover (g : Grp) (e : DdsE) (s : State) := (Act.ddsHandover g e).done s
def execDdsEnableWrite (src : Src) (g : Grp) (e : DdsE) (v : Word) (s : State) :=
  (Act.writeTo src .DDS_CTRL g e 0 (Act.ddsEnable g e v)).done s
def execDdsFollowUpdate (g : Grp) (e : DdsE) (s : State) := (Act.ddsFollowUpdate g e).done s
def execDdsSampleClip (g : Grp) (e : DdsE) (s : State) := (Act.ddsClip g e).done s

end Sys2Proof.Machine
end

