-- ==== Sys2Proof/Machine/Outputs.lean ====
section
/-! DEFINITION. The outputs (R292 to R301), their read-back (R306 to R308) and the spare core (R309, R310). -/

namespace Sys2Proof.Machine

/-- An output of a group. -/
def State.out (s : State) (g : Grp) (o : Out) : OutSt := s.outs[g][o]

/-- Change an output of a group. -/
def Act.setOut (g : Grp) (o : Out) (f : OutSt → OutSt) : Act :=
  .upd fun s => { s with outs := s.outs.set g (s.outs[g].set o (f s.outs[g][o])) }

/-- Change what a group's monitor converter and spare core hold. -/
def Act.setMon (g : Grp) (f : MonSt → MonSt) : Act := .upd fun s => { s with mon := s.mon.set g (f s.mon[g]) }

/-- The hold bits of R298. -/
def State.faultHold (s : State) (g : Grp) (o : Out) : Bool := s.b F.DAC_STATUS_FAULT_HOLD g o
def State.nvHold (s : State) (g : Grp) (o : Out) : Bool := s.b F.DAC_STATUS_NV_HOLD g o
def State.parkHold (s : State) (g : Grp) (o : Out) : Bool := s.b F.DAC_STATUS_PARK_HOLD g o

/-- R298: some hold is in effect. -/
def State.outHeld (s : State) (g : Grp) (o : Out) : Bool := s.faultHold g o || s.nvHold g o || s.parkHold g o

/-- R293: ranges 4 to 6 form the current class. -/
def currentClass (range : Nat) : Bool := decide (4 ≤ range)

/-- R294, R298, R301: what the amplifier drives; the first hold that applies governs. -/
def State.drive (s : State) (g : Grp) (o : Out) : Drive :=
  let x := s.out g o
  if !s.alive g || !x.powered then .off
  else if x.phase = 1 ∨ x.phase = 2 then .zero
  else if s.faultHold g o then .code (BitVec.ofNat 16 (s.f F.DAC_NV_CODES_FAULT_CODE g o))
  else if s.nvHold g o then .code (BitVec.ofNat 16 (s.f F.DAC_NV_CODES_PU_CODE g o))
  else if s.parkHold g o then x.frozen
  else match F.DAC_CFG_SRC.of x.cfg with
    | 1 => .dds ⟨F.DAC_CFG_DDS.of x.cfg % 4, Nat.mod_lt _ (by decide)⟩
    | 2 => .track (F.DAC_CFG_TRACK.of x.cfg)
    | _ => .code x.code

/-- R298: the governing hold asks for "open". -/
def State.holdOpen (s : State) (g : Grp) (o : Out) : Bool :=
  if s.faultHold g o then s.b F.DAC_NV_FAULT_OPEN g o
  else if s.nvHold g o then s.b F.DAC_NV_PU_OPEN g o
  else false

/-- R300, R442: the gate is open. -/
def State.gateOpen (s : State) (g : Grp) (o : Out) : Bool :=
  let x := s.out g o
  !s.alive g || !x.powered || x.gateDelay || s.standby || s.holdOpen g o || F.DAC_CFG_GATE_OPEN.of x.cfg == 1 ||
  (x.phase != 0 && currentClass x.from_ != currentClass x.target) ||
  (s.pair.currentHeld && currentClass (s.f F.DAC_STATUS_RANGE_NOW g o))

/-- R298, R301, R311: CFG and VALUE come into effect while no hold and no range change defers them. -/
def Act.outSync (g : Grp) (o : Out) : Act := .look fun s =>
  let x := s.out g o
  .when (!s.outHeld g o && x.phase != 1 && x.phase != 2) (.setOut g o fun x => { x with
    cfg := s.r .DAC_CFG g o, code := BitVec.ofNat 16 (s.f F.DAC_VALUE_CODE g o) })

/-- R301: a range change waits or starts. -/
def Act.rangeGo (g : Grp) (o : Out) : Act := .look fun s =>
  let now := s.f F.DAC_STATUS_RANGE_NOW g o
  let want := s.f F.DAC_CFG_RANGE g o
  if s.alive g && s.released && !s.outHeld g o && (s.out g o).phase == 0 && want != now then .all [
    .setOut g o fun x => { x with phase := 1, from_ := now, target := want },
    .setB F.DAC_STATUS_RANGE_BUSY true g o]
  else .skip

/-- What the pin shows: its drive, its gate and its range. -/
def State.outShows (s : State) (g : Grp) (o : Out) : Drive × Bool × Nat :=
  (s.drive g o, !s.gateOpen g o, s.f F.DAC_STATUS_RANGE_NOW g o)

/-- The output follows its holds, its registers and its range change. -/
def Act.outUpdate (g : Grp) (o : Out) : Act := .all [
  .outSync g o, .rangeGo g o,
  .look fun s => .all [
    .setB F.DAC_STATUS_RANGE_PEND
      (s.alive g && (s.out g o).phase == 0 && s.f F.DAC_CFG_RANGE g o != s.f F.DAC_STATUS_RANGE_NOW g o) g o,
    .setB F.DAC_STATUS_GATE_CLOSED (!s.gateOpen g o) g o,
    .when (s.outShows g o != (s.out g o).shown)
      (.setOut g o fun x => { x with shown := s.outShows g o, changed := s.clk })]]

/-- Every output of a group. -/
def Act.outsUpdate (g : Grp) : Act := .each (List.finRange 8) (Act.outUpdate g)

/-- R299: a cause puts an output into its fault state: bit 0 SAFE, 1 a monitor, 2 read-back. -/
def Act.outFault (g : Grp) (o : Out) (cause : Nat) : Act := .all [
  .setBit F.DAC_STATUS_FAULT_BY cause g o, .setB F.DAC_STATUS_FAULT_HOLD true g o,
  .setOut g o fun x => { x with endFault := false }, .outUpdate g o]

/-- R299: a cause ends; the fault state stays until a VALUE write (R298). -/
def Act.outFaultEnd (g : Grp) (o : Out) (cause : Nat) : Act := .clrBit F.DAC_STATUS_FAULT_BY cause g o

/-- R295, R298: the part of a VALUE write that the output takes: it may end holds, now or when PARKED leaves force. -/
def Act.dacValue (g : Grp) (o : Out) (v : Word) : Act := .all [
  .setR .DAC_VALUE v g o,
  .look fun s =>
    let endFault := s.faultHold g o && s.f F.DAC_STATUS_FAULT_BY g o == 0
    let endNv := s.nvHold g o && s.released && !s.mode reducedMode && s.alive g && (s.out g o).powered
    if s.parkHold g o then .setOut g o fun x => { x with endFault := x.endFault || endFault, endNv := x.endNv || endNv }
    else .all [.when endFault (.setB F.DAC_STATUS_FAULT_HOLD false g o), .when endNv (.setB F.DAC_STATUS_NV_HOLD false g o)],
  .outUpdate g o, .accept]

/-- R293, R294, R301: a write to CFG. -/
def Act.dacCfg (g : Grp) (o : Out) (v : Word) : Act := .look fun s =>
  let range := F.DAC_CFG_RANGE.of v
  if range = 7 ∨ F.DAC_CFG_SRC.of v = 3 ∨ 24 ≤ F.DAC_CFG_TRACK.of v then .refuse F.DAC_REFUSED_COUNT g
  else if range ≠ s.f F.DAC_CFG_RANGE g o ∧ (s.b F.DAC_STATUS_RANGE_BUSY g o ∨ s.b F.DAC_STATUS_RANGE_PEND g o) then
    .refuse F.DAC_REFUSED_COUNT g
  else .all [.setR .DAC_CFG v g o,
    .when (F.DAC_CFG_RB_TOL.of v == 0) (.setOut g o fun x => { x with changed := s.clk }),
    .outUpdate g o, .accept]

/-- R301: the next step of a range change. -/
def Act.rangeStep (g : Grp) (o : Out) : Act := .look fun s =>
  match (s.out g o).phase with
  | 0 => .skip
  | 1 => .all [.setOut g o fun x => { x with phase := 2 }, .outUpdate g o]
  | 2 => .all [.setOut g o fun x => { x with phase := 3 },
      .setF F.DAC_STATUS_RANGE_NOW (s.out g o).target g o, .outUpdate g o]
  | _ => .all [.setOut g o fun x => { x with phase := 0, changed := s.clk }, .setB F.DAC_STATUS_RANGE_BUSY false g o, .outUpdate g o]

/-- R72, R297: the NV output value area as the module takes it: where its CRC fails, every value is "open" and every range is 1. -/
def State.nvArea (s : State) : Vector NvVal 32 :=
  if s.flash.nvBad then Vector.replicate 32 ⟨1, 0x8000, 0x8000, true, true⟩ else s.flash.nv

/-- The values of output `o` of group `g` in flash. -/
def State.nvOf (s : State) (g : Grp) (o : Out) : NvVal := s.nvArea[g.val * 8 + o.val]

/-- R297: a write to NV: the area in flash is rewritten with the new range and a new CRC-32C. -/
def Act.nvRange (g : Grp) (o : Out) (v : Word) : Act :=
  if F.DAC_NV_NV_RANGE.of v = 7 then .refuse F.DAC_REFUSED_COUNT g
  else .all [.setF F.DAC_NV_NV_RANGE v.toNat g o,
    .upd fun s => { s with flash := { s.flash with
      nv := s.nvArea.set (g.val * 8 + o.val) { s.nvArea[g.val * 8 + o.val] with range := F.DAC_NV_NV_RANGE.of v }
      nvBad := false, nvUntil := s.clk + 16384000 } },
    .accept]

/-- R72: the NV registers of every output take the values in flash. -/
def Act.nvLoad : Act := .each (List.finRange 4) fun g => .each (List.finRange 8) fun o => .look fun s =>
  let x := s.nvOf g o
  .all [
    .setF F.DAC_NV_NV_RANGE x.range g o, .setB F.DAC_NV_PU_OPEN x.puOpen g o, .setB F.DAC_NV_FAULT_OPEN x.faultOpen g o,
    .setF F.DAC_NV_CODES_PU_CODE x.pu g o, .setF F.DAC_NV_CODES_FAULT_CODE x.fault g o]

/-- R297: a reset: NV_RANGE is in force, and the registers of this chapter whose reset value is an NV value take it (DAC.OUT.CFG.RANGE,
VALUE, RANGE_NOW). -/
def Act.nvResetFields : Act := .each (List.finRange 4) fun g => .each (List.finRange 8) fun o => .look fun s => .all [
  .setOut g o fun x => { x with nvRange := s.f F.DAC_NV_NV_RANGE g o },
  .setF F.DAC_CFG_RANGE (s.f F.DAC_NV_NV_RANGE g o) g o, .setF F.DAC_VALUE_CODE (s.f F.DAC_NV_CODES_PU_CODE g o) g o,
  .setF F.DAC_STATUS_RANGE_NOW (s.f F.DAC_NV_NV_RANGE g o) g o]

/-- R293, R307: the sense bottom and span of a range, in units of 50 mV at the sense point. -/
def senseScale (range : Nat) : Int × Nat :=
  match range with
  | 0 => (-10, 20)
  | 1 => (-20, 40)
  | 2 => (-25, 50)
  | 3 => (0, 20)
  | 4 => (0, 20)
  | 5 => (4, 16)
  | _ => (0, 24)

/-- R145, R293, R294: the level that an output drives at its sense point, in volts: bottom + code × span / 65,536; a track of ±1.25 V gives
the ends of the range, and drives no further. -/
def State.outLevel (s : State) (g : Grp) (o : Out) : ℚ :=
  let (b, span) := senseScale (s.f F.DAC_STATUS_RANGE_NOW g o)
  let level := fun (x : ℚ) => ((b : ℚ) + (span : ℚ) * x) / 20
  match s.drive g o with
  | .off | .zero => 0
  | .code c => level ((c.toNat : ℚ) / 65536)
  | .dds e => level ((s.ddsCode g e : ℚ) / 65536)
  | .track t => level (max 0 (min 1 ((s.cells[g].tracks[Fin.ofNat 24 t] + 5 / 4) / (5 / 2))))
  | .held v => v

/-- R53, R298: the parked hold of an output begins: it holds what it drives, a DDS source its present sample. -/
def Act.outPark (g : Grp) (o : Out) : Act := .look fun s =>
  .when (s.alive g && !s.parkHold g o) (.all [
    .setOut g o fun x => { x with frozen := match s.drive g o with
      | .track _ => .held (s.outLevel g o)
      | .dds e => .code (BitVec.ofNat 16 (s.ddsCode g e))
      | d => d },
    .setB F.DAC_STATUS_PARK_HOLD true g o, .outUpdate g o])

/-- R71, R75, R83: step 5 of R70: each amplifier starts with its gate open on the NV power-up value, or on the fault value
while SAFE is active. -/
def Act.nvApply (g : Grp) : Act := .each (List.finRange 8) fun o => .look fun s => .all [
  .setOut g o fun x => { x with powered := true, gateDelay := true, gateFrom := s.clk, phase := 0, endFault := false, endNv := false },
  .setB F.DAC_STATUS_RANGE_BUSY false g o,
  .setF F.DAC_STATUS_RANGE_NOW (s.out g o).nvRange g o,
  .setB F.DAC_STATUS_NV_HOLD true g o, .setB F.DAC_STATUS_PARK_HOLD false g o,
  if s.b F.LIMIT_SAFE_ACTIVE then .outFault g o 0 else .outUpdate g o,
  .when (s.mode parked) (.outPark g o)]

/-- R71: 200 us after step 5 the gate closes, unless something else holds it open. -/
def Act.nvGateClose (g : Grp) (o : Out) : Act := .look fun s =>
  .when ((s.out g o).gateDelay && decide ((s.out g o).gateFrom + 32768 ≤ s.clk)) (.all [
    .setOut g o fun x => { x with gateDelay := false }, .outUpdate g o])

/-- R309, R427, R432: a repair is in progress: a core hand-over, a promotion not yet reported, a relocation. -/
def State.repairGoing (s : State) : Bool :=
  (List.finRange 4).any (fun g => s.f F.DAC_SPARE_ROLE g == 1 || s.spare[g].report.isSome) ||
    decide (2 ≤ s.f F.RELOC_STATUS_STATE)

/-- FAULT.STATUS.REPAIRING follows. -/
def Act.repairing : Act := .look fun s => .setB F.FAULT_STATUS_REPAIRING s.repairGoing

/-- R64, R310, R311: the outputs of a lost group; a spare hand-over in progress is discarded. -/
def Act.outsLost (g : Grp) : Act := .all [
  .each (List.finRange 8) fun o => .all [
    .setOut g o fun x => { x with powered := false, gateDelay := false, phase := 0, endNv := false },
    .setB F.DAC_STATUS_RANGE_BUSY false g o, .outUpdate g o],
  .look fun s => .when (s.f F.DAC_SPARE_ROLE g == 1)
    (.all [
      if s.mon[g].coreReturn then .setF F.DAC_SPARE_ROLE 3 g
      else .all [.setF F.DAC_SPARE_ROLE 0 g, .setF F.DAC_SPARE_SERVES 15 g],
      .repairing]),
  .setMon g fun m => { m with rbWait := [], coreReturn := false }]

/-- R53, R298: the parked hold begins. -/
def Act.outsPark (g : Grp) : Act := .each (List.finRange 8) (Act.outPark g)

/-- R53, R298: the parked hold ends, and with it the holds that VALUE writes have ended meanwhile. -/
def Act.outsUnpark (g : Grp) : Act := .each (List.finRange 8) fun o => .look fun s =>
  let x := s.out g o
  .when (s.parkHold g o) (.all [
    .setB F.DAC_STATUS_PARK_HOLD false g o,
    .when (x.endFault && s.f F.DAC_STATUS_FAULT_BY g o == 0) (.setB F.DAC_STATUS_FAULT_HOLD false g o),
    .when x.endNv (.setB F.DAC_STATUS_NV_HOLD false g o),
    .setOut g o fun x => { x with endFault := false, endNv := false }, .outUpdate g o])

/-- R54, R298: REDUCED enters force after release: the NV power-up hold begins again. -/
def Act.outsReduced (g : Grp) : Act := .each (List.finRange 8) fun o => .look fun s =>
  .when (s.alive g && (s.out g o).powered) (.all [
    .setB F.DAC_STATUS_NV_HOLD true g o, .setOut g o fun x => { x with endNv := false }, .outUpdate g o])

/-! ### Read-back -/

/-- R293, R307: the expected sense code of a driven code, in units of 50 mV / 2^23. -/
def senseExpected (range code : Nat) : Int :=
  let (b, span) := senseScale range
  b * 8388608 + code * span * 128

/-- R307: the reading `x` differs from the expected sense by more than RB_TOL × 0.1 % of the span. A reading's full
scale, 2^23, is 1.25 V (R176). -/
def senseMismatch (range code tol : Nat) (x : Int) : Bool :=
  let (_, span) := senseScale range
  decide ((tol * span * 8388608 : Int) < 1000 * (25 * x - senseExpected range code).natAbs)

/-- R308: the core node's reading differs from (code − 32,768) × 1.25 V / 32,768 by more than RB_TOL × 0.1 % of 2.5 V. -/
def coreMismatch (code tol : Nat) (x : Int) : Bool :=
  decide ((tol * 16777216 : Int) < 1000 * (x - ((code : Int) - 32768) * 256).natAbs)

/-- The code an output is driven from: none where it follows a DDS engine or a track (R307). -/
def State.drivenCode (s : State) (g : Grp) (o : Out) : Option Nat :=
  match s.drive g o with
  | .code c => some c.toNat
  | _ => none

/-- R307: a reading of the output is checked. -/
def State.rbChecked (s : State) (g : Grp) (o : Out) : Bool :=
  decide (2 ≤ s.f F.SYS_START_PHASE) && !s.gateOpen g o && (s.drivenCode g o).isSome &&
  !s.b F.DAC_STATUS_RANGE_BUSY g o && decide ((s.out g o).changed + 8192 ≤ s.mon[g].slotStart) &&
  !(s.f F.DAC_SPARE_ROLE g == 1 && s.f F.DAC_SPARE_SERVES g == o.val) &&
  s.f F.DAC_CFG_RB_TOL g o != 0

/-- R309: a hand-over between an output's core and the spare is decided. -/
def Act.coreHandover (g : Grp) (o : Nat) (back : Bool) : Act := .all [
  .setF F.DAC_SPARE_ROLE 1 g, .setF F.DAC_SPARE_SERVES o g, .setB F.FAULT_STATUS_REPAIRING true,
  .look fun s => .setMon g fun m => { m with coreReturn := back, coreAt := s.clk }]

/-- R308: the third consecutive mismatch: the read-back fault. -/
def Act.rbFault (g : Grp) (o : Out) (expected x : Int) : Act := .all [
  .setB F.DAC_STATUS_RB_FAULT true g o, .setF F.DAC_STATUS_RB_CAUSE 1 g o, .count F.DAC_STATUS_RB_COUNT 1 g o,
  .log 16 (g * 8 + o) (leBytes (unsigned 32 expected) 4 ++ leBytes (unsigned 32 x) 4 ++ leBytes 1 1),
  .setMon g fun m => { m with rbWait := m.rbWait ++ [o] },
  .outFault g o 2]

/-- R307, R308: a reading of an output's sense point. -/
def Act.readback (g : Grp) (o : Out) (x : Int) : Act := .look fun s =>
  let checked := s.rbChecked g o
  let code := (s.drivenCode g o).getD 0
  let range := s.f F.DAC_STATUS_RANGE_NOW g o
  let bad := senseMismatch range code (s.f F.DAC_CFG_RB_TOL g o) x
  let run := min (s.f F.DAC_STATUS_RB_RUN g o + 1) 3
  (Act.setB F.DAC_STATUS_RB_CHECKED checked g o).andThen <|
  .when checked <| .all [
    .setB F.DAC_STATUS_RB_NOW bad g o,
    .setF F.DAC_STATUS_RB_RUN (if bad then run else 0) g o,
    .when (bad && run == 3 && !s.b F.DAC_STATUS_RB_FAULT g o)
      (.rbFault g o (roundDiv (senseExpected range code) 25) x)]

/-- R308: CORE_FAILED of an output sets and is stored in the failure map. -/
def Act.coreFailed (g : Grp) (o : Out) : Act := .all [
  .setB F.DAC_STATUS_CORE_FAILED true g o, .setBit F.FAULT_CORE_FAILED o g,
  .upd fun s => { s with flash := { s.flash with
    coreFailed := s.flash.coreFailed.set g (s.flash.coreFailed[g] ||| 1 <<< o.val) } }]

/-- R308, R309: the slot 13 reading of the core node of the output that has waited longest. -/
def Act.coreCheck (g : Grp) (x : Int) : Act := .look fun s =>
  match s.mon[g].rbWait with
  | [] => .skip
  | o :: l =>
    let bad := coreMismatch ((s.drivenCode g o).getD (s.out g o).code.toNat) (s.f F.DAC_CFG_RB_TOL g o) x
    .when (s.mon[g].node == 0x48 + o.val) (.all [
      .setMon g fun m => { m with rbWait := l },
      .setF F.DAC_STATUS_RB_CAUSE (if bad then 3 else 2) g o,
      .when bad (.coreFailed g o),
      .when (bad && s.mode repair && s.f F.DAC_SPARE_ROLE g == 0) (.coreHandover g o false)])

/-- R308: a write of 1 to RB_FAULT ends the read-back fault. -/
def Act.rbClear (g : Grp) (o : Out) (v : Word) : Act := .look fun s =>
  (Act.when (F.DAC_STATUS_RB_FAULT.of v == 1 && s.b F.DAC_STATUS_RB_FAULT g o) (.all [
    .setB F.DAC_STATUS_RB_FAULT false g o, .setF F.DAC_STATUS_RB_RUN 0 g o, .setF F.DAC_STATUS_RB_CAUSE 0 g o,
    .setMon g fun m => { m with rbWait := m.rbWait.filter (fun x => !(decide (x = o))) },
    .outFaultEnd g o 2])).andThen .accept

/-- R306: the node a monitor slot converts. -/
def State.slotNode (s : State) (g : Grp) : Nat :=
  let slot := s.f F.MON_STATUS_SLOT g
  if slot < 8 then 0x40 + slot else
  match slot with
  | 8 => match s.f F.REF_CFG_SEL g with
    | 1 => 0x39
    | 2 => 0x3B
    | _ => 0x3A
  | 9 => 0x3C
  | 10 => 0x3D
  | 11 => 0x3E
  | 12 => 0x3F
  | 13 => match s.mon[g].rbWait with
    | o :: _ => 0x48 + o.val
    | [] => 0x48 + s.f F.MON_STATUS_CYCLES g % 8
  | 14 => 0x38
  | _ => 0x3B

/-- R306: the slot that MON.STATUS names begins at the next modulator edge. -/
def Act.slotBegins (g : Grp) : Act := .look fun s => .setMon g fun m => { m with
  slotStart := (s.clk + 15) / 16 * 16, node := s.slotNode g, dec := .clear }

/-- R309 step 3: a core hand-over was decided at least 12 system clocks and 20 µs ago. -/
def State.coreReady (s : State) (g : Grp) : Bool := decide (s.mon[g].coreAt + 3289 ≤ s.clk)

/-- R309, R310: a write of DAC.SPARE with REQ or RETURN. -/
def Act.spareWrite (g : Grp) (v : Word) : Act := .look fun s =>
  let role := s.f F.DAC_SPARE_ROLE g
  let serves := s.f F.DAC_SPARE_SERVES g
  let req := F.DAC_SPARE_REQ.of v == 1
  let ret := F.DAC_SPARE_RETURN.of v == 1
  if req && !(s.mode repair && role == 0) then .refuse F.DAC_REFUSED_COUNT g
  else if ret && !(s.mode repair && role == 3 && !s.b F.DAC_STATUS_CORE_FAILED g serves) then .refuse F.DAC_REFUSED_COUNT g
  else .all [.setF F.DAC_SPARE_TARGET v.toNat g,
    .when req (.coreHandover g (F.DAC_SPARE_TARGET.of v) false),
    .when ret (.coreHandover g serves true), .accept]

/-- R312: an interrupt source that no status bit holds: its line shows it until the next EVENT packet (assumption log entry 5). -/
def Act.once (line : Nat) : Act := .upd fun s => { s with ring := { s.ring with once := s.ring.once ||| 1 <<< line } }

/-- R309 steps 3 and 4: the amplifier input moves, and the hand-over ends. -/
def Act.coreSwitch (g : Grp) : Act := .look fun s =>
  let o := s.f F.DAC_SPARE_SERVES g
  let back := s.mon[g].coreReturn
  if s.alive g && s.coreReady g && s.f F.DAC_SPARE_ROLE g == 1 && !s.b F.DAC_STATUS_RANGE_BUSY g o then .all [
    .setF F.DAC_SPARE_ROLE (if back then 0 else 3) g,
    .when back (.setF F.DAC_SPARE_SERVES 15 g),
    .setB F.DAC_STATUS_SPARE_ACTIVE (!back) g o,
    .repairing,
    if back then .setB F.FAULT_EVENTS_RETURNED true else .setB F.FAULT_EVENTS_PROMOTED true,
    .log (if back then 19 else 18) (0x40 + g * 8 + o) (leBytes (if back then 3 else 0) 1),
    .setMon g fun m => { m with coreReturn := false },
    .setOut g ⟨o % 8, Nat.mod_lt _ (by decide)⟩ fun x => { x with changed := s.clk },
    .once (16 + 8 * g + 2)]
  else .skip

/-! ### The commands -/

def execNvGateClose (g : Grp) (o : Out) (s : State) := (Act.nvGateClose g o).done s
def execDacCfgWrite (src : Src) (g : Grp) (o : Out) (v : Word) (s : State) :=
  (Act.writeTo src .DAC_CFG g o 0 (Act.mirrored src (RegRef.offset ⟨.DAC_CFG, g, o, 0⟩) v (Act.dacCfg g o v))).done s
def execRangeChangeStep (g : Grp) (o : Out) (s : State) := (Act.rangeStep g o).done s
def execNvRangeWrite (src : Src) (g : Grp) (o : Out) (v : Word) (s : State) :=
  (Act.writeTo src .DAC_NV g o 0 (Act.nvRange g o v)).done s
def execRbFaultClear (src : Src) (g : Grp) (o : Out) (v : Word) (s : State) :=
  (Act.writeTo src .DAC_STATUS g o 0 (Act.rbClear g o v)).done s
def execSpareCoreReq (src : Src) (g : Grp) (v : Word) (s : State) :=
  (Act.writeTo src .DAC_SPARE g 0 0 (Act.spareWrite g v)).done s
def execSpareCoreReturn (src : Src) (g : Grp) (v : Word) (s : State) :=
  (Act.writeTo src .DAC_SPARE g 0 0 (Act.spareWrite g v)).done s

end Sys2Proof.Machine
end

