-- ==== Sys2Proof/Machine/Engines.lean ====
section
/-! DEFINITION. The step engines as the rest of the module sees them (R261, R268 to R272): states, doorbells, start, halt,
faults, step flags, data registers and step memory. What a step word does stands in Steps.lean. -/

namespace Sys2Proof.Machine

/-- The states of an engine (STEP.ENG.STATUS.STATE). -/
abbrev engHalted : Nat := 0
abbrev engRunning : Nat := 1
abbrev engWaiting : Nat := 2
abbrev engFaulted : Nat := 3

/-- An engine's state. -/
def State.engState (s : State) (e : Eng) : Nat := s.f F.ENG_STATUS_STATE e

/-- An engine is RUNNING or WAITING. -/
def State.engLive (s : State) (e : Eng) : Bool := s.engState e == engRunning || s.engState e == engWaiting

/-- Change what an engine holds beside its registers. -/
def Act.setEng (e : Eng) (f : EngSt → EngSt) : Act := .upd fun s => { s with eng := s.eng.set e (f s.eng[e]) }

/-- R271: an engine starts at ENTRY with an empty stack; FAULT clears and the data registers stay. -/
def Act.engStart (e : Eng) : Act := .look fun s => .all [
  .setF F.ENG_STATUS_STATE engRunning e, .setF F.ENG_STATUS_PC (s.f F.ENG_ENTRY_ENTRY e) e,
  .setF F.ENG_STATUS_DEPTH 0 e, .setF F.ENG_STATUS_FAULT 0 e,
  .setEng e fun x => { x with stack := [], tide := none, tideHit := false, load := none, halting := false }]

/-- R270: a doorbell rings, and acts by the engine's state. -/
def Act.ring (e : Eng) : Act := .look fun s =>
  if s.eng[e].rung = some s.clk then .skip
  else (Act.setEng e fun x => { x with rung := some s.clk }).andThen <|
    if s.engLive e then
      if s.b F.ENG_STATUS_DB_PEND e then .count F.ENG_COUNTS_MERGED 1 e else .setB F.ENG_STATUS_DB_PEND true e
    else if s.engState e = engFaulted then .count F.ENG_COUNTS_IGNORED 1 e
    else if s.b F.ENG_ENTRY_DB_START e && s.released then .engStart e
    else .setB F.ENG_STATUS_DB_PEND true e

/-- R268: an engine becomes FAULTED; it keeps PC, stack and registers. -/
def Act.engFault (e : Eng) (code : Nat) : Act := .look fun s => .all [
  .setF F.ENG_STATUS_STATE engFaulted e, .setF F.ENG_STATUS_FAULT code e,
  .setEng e fun x => { x with tide := none, tideHit := false, load := none, halting := false },
  .setBit F.STEP_EVENTS_FAULT e,
  .log 14 e (leBytes code 1 ++ leBytes (s.f F.ENG_STATUS_PC e) 2)]

/-- A refused write to the STEP block. -/
def Act.stepRefuse : Act := .refuse F.STEP_REFUSED_COUNT

/-- R271: a write of ENG.CTRL; HALT prevails over RUN. -/
def Act.engCtrl (e : Eng) (v : Word) : Act := .look fun s =>
  if F.ENG_CTRL_HALT.of v = 1 then
    if s.engState e = engRunning ∧ (s.eng[e].load).isSome then .all [.setEng e fun x => { x with halting := true }, .accept]
    else if s.engLive e then .all [.setF F.ENG_STATUS_STATE engHalted e,
      .setEng e fun x => { x with tide := none, tideHit := false }, .accept]
    else .accept
  else if F.ENG_CTRL_RUN.of v = 1 then
    if s.engLive e || !s.released then .stepRefuse
    else .all [.setB F.ENG_STATUS_DB_PEND false e, .engStart e, .accept]
  else .accept

/-- R270: a write of STEP.DOORBELL rings the engines it names. -/
def Act.doorbells (v : Word) : Act := .all [
  .each (List.finRange 8) fun e => .when (v.getLsbD e) (.ring e), .accept]

/-- R261: the step flags, as FLAG_SET and FLAG_CLR show them. -/
def State.flags (s : State) : Word := s.r .STEP_FLAG_SET

/-- The step flags take a value. -/
def Act.setFlags (v : Word) : Act := .setR .STEP_FLAG_SET v

/-- R12, R261: a write of FLAG_SET (W1S) or FLAG_CLR (W1C). -/
def Act.flagWrite (set : Bool) (v : Word) : Act := .look fun s => .all [
  .setFlags (if set then s.flags ||| v else s.flags &&& ~~~v), .accept]

/-- R272: some engine runs. -/
def State.anyEngine (s : State) : Bool := (List.finRange 8).any (fun e => s.engLive e)

/-- The window offset of a step word (R37). -/
def stepOffset (w : Nat) : Nat := 0x500000 + 8 * w

/-- A step word. -/
def State.stepWord (s : State) (w : Nat) : DWord := BitVec.ofNat 64 (s.bytes (stepOffset w) 8)

/-- R272: a write to step memory: a half word is refused while any engine runs. -/
def Act.stepMemory (w : Nat) (v : DWord) (h : Half) : Act := .look fun s =>
  match h with
  | .both => .all [.setBytes (stepOffset w) v.toNat 8, .accept]
  | .lo => if s.anyEngine then .stepRefuse else .all [.setBytes (stepOffset w) v.toNat 4, .accept]
  | .hi => if s.anyEngine then .stepRefuse else .all [.setBytes (stepOffset w + 4) v.toNat 4, .accept]

/-- R272: a write to a data register. -/
def Act.engData (e : Eng) (r : Nat) (v : Word) : Act := .look fun s =>
  if s.engLive e then .stepRefuse else .all [.setR .ENG_D v e r, .accept]

/-- R272: engines are HALTED until release; then every engine with AUTO_RUN starts. -/
def Act.enginesAuto : Act := .each (List.finRange 8) fun e => .look fun s =>
  .when (s.b F.ENG_ENTRY_AUTO_RUN e) (.all [.setB F.ENG_STATUS_DB_PEND false e, .engStart e])

/-! ### The commands -/

def execDoorbellRing (e : Eng) (s : State) := (Act.reach (Act.ring e)).done s
def execStepDoorbellWrite (src : Src) (v : Word) (s : State) := (Act.writeTo src .STEP_DOORBELL 0 0 0 (Act.doorbells v)).done s
def execEngineRun (src : Src) (e : Eng) (v : Word) (s : State) := (Act.writeTo src .ENG_CTRL e 0 0 (Act.engCtrl e v)).done s
def execEngineHalt (src : Src) (e : Eng) (v : Word) (s : State) := (Act.writeTo src .ENG_CTRL e 0 0 (Act.engCtrl e v)).done s
def execStepFlagWrite (src : Src) (set : Bool) (v : Word) (s : State) :=
  (Act.writeTo src (if set then .STEP_FLAG_SET else .STEP_FLAG_CLR) 0 0 0 (Act.flagWrite set v)).done s
def execStepMemoryWrite (src : Src) (w : Fin 16384) (v : DWord) (h : Half) (s : State) :=
  (Act.write src (stepOffset w) (Act.stepMemory w v h)).done s

end Sys2Proof.Machine
end

