-- ==== Sys2Proof/Machine/Limits.lean ====
section
/-! DEFINITION. The limit monitors and their lock (R273 to R280), SAFE (R281, R282), the watchdog (R283, R284), and the
write of an output's value, which KIND 1 monitors judge. -/

namespace Sys2Proof.Machine

/-- A refused write to the LIMIT block. -/
def Act.limitRefuse : Act := .refuse F.LIMIT_REFUSED_COUNT

/-! ### SAFE -/

/-- R281: SAFE enters on a cause: 0 the pin, 1 a trip, 2 the watchdog, 3 ENTER, 4 the ring. Outputs take their fault states
and pins their safe states. -/
def Act.safeEnter (cause : Nat) : Act := (Act.setBit F.LIMIT_SAFE_CAUSE cause).andThen <| .look fun s =>
  if s.b F.LIMIT_SAFE_ACTIVE then .skip else .all [
    .setB F.LIMIT_SAFE_ACTIVE true,
    .log 12 0 (leBytes (s.f F.LIMIT_SAFE_CAUSE) 1),
    .each (List.finRange 4) fun g => .each (List.finRange 8) fun o => .outFault g o 0,
    .pinRows,
    .when (s.mode paired && s.b F.PAIR_CFG_PAIR_EN) <|
      let m := BitVec.ofNat 6 (s.f F.PAIR_CFG_PARTNER)
      .request m .other (s.maintWords m 2 0)]

/-- The monitors whose registers enable them. -/
def State.enabledMonitors (s : State) : List Nat :=
  (s.regs.filter (fun e => e.1.name == .MON_CFG && F.MON_CFG_ENABLE.of e.2 == 1)).map (fun e => e.1.i)

/-- R275: a monitor's TRIPPED bit. -/
def State.tripped (s : State) (m : Nat) : Bool := s.bit F.LIMIT_TRIPPED_TRIPPED (m % 32) (m / 32)

/-- R282: a TRIPPED monitor has SAFE set. -/
def State.safeTripped (s : State) : Bool := (List.range 128).any fun m => s.tripped m && s.b F.MON_ACT_SAFE m

/-- R282: SAFE may be released. -/
def State.safeMayEnd (s : State) : Bool :=
  !s.b F.LIMIT_SAFE_PIN && !s.safeTripped &&
  !(s.b F.LIMIT_WDOG_EXPIRED && decide (s.f F.LIMIT_WDOG_ACTION ≤ 1))

/-- R282: SAFE ends: pins return to their functions; outputs keep their fault states until a VALUE write. -/
def Act.safeEnd : Act := .all [
  .setB F.LIMIT_SAFE_ACTIVE false,
  .each (List.finRange 4) fun g => .each (List.finRange 8) fun o => .outFaultEnd g o 0,
  .pinRows]

/-- R281, R282: a write of LIMIT.SAFE; ENTER prevails over RELEASE, and a refused RELEASE refuses the whole write. -/
def Act.safeWrite (v : Word) : Act := .look fun s =>
  let enter := F.LIMIT_SAFE_ENTER.of v == 1
  let rel := F.LIMIT_SAFE_RELEASE.of v == 1
  let clear : Act := .setF F.LIMIT_SAFE_CAUSE (s.f F.LIMIT_SAFE_CAUSE &&& (31 - F.LIMIT_SAFE_CAUSE.of v))
  if enter then .all [clear, .safeEnter 3, .accept]
  else if rel then
    if s.safeMayEnd then .all [clear, .safeEnd, .accept] else .limitRefuse
  else .all [clear, .accept]

/-! ### Monitors -/

/-- R277, R78: monitors are live. -/
def State.limitsLive (s : State) : Bool :=
  s.up && decide (2 ≤ s.f F.SYS_START_PHASE) && s.pol.inForce.isSome

/-- R275: the trip, with its actions through the trip logic. The entry's value is left open for a trip by staleness. -/
def Act.trip (m : Nat) (value : Option Int) (run : Nat) : Act := .look fun s => .all [
  .setF F.LIMIT_STAT_STATE 3 m, .setBit F.LIMIT_TRIPPED_TRIPPED (m % 32) (m / 32), .count F.LIMIT_STAT_TRIPS 1 m,
  let entry := fun (v : Nat) => Act.log 11 m (leBytes v 4 ++ leBytes run 1 ++ leBytes (s.r .MON_ACT m).toNat 4)
  match value with
    | some x => entry (unsigned 32 x)
    | none => .fresh fun v => entry v.toNat,
  .when (s.b F.MON_ACT_SAFE m) (.safeEnter 1),
  .when (s.b F.MON_ACT_OUT m) (.each (List.finRange 8) fun o =>
    .when (s.bit F.MON_ACT_OUT_MASK o m) (.outFault ⟨s.f F.MON_ACT_OUT_GRP m % 4, Nat.mod_lt _ (by decide)⟩ o 1)),
  .when (s.b F.MON_ACT_DOORBELL m) (.ring ⟨s.f F.MON_ACT_ENGINE m % 8, Nat.mod_lt _ (by decide)⟩)]

/-- Change what the limits hold beside their registers. -/
def Act.setLim (f : LimSt → LimSt) : Act := .upd fun s => { s with lim := f s.lim }

/-- R275: one evaluation of a monitor. -/
def Act.evaluate (m : Monitor) (value : Option Int) (violation : Bool) : Act := .look fun s =>
  let run := min (s.f F.LIMIT_STAT_RUN m + 1) 255
  let was := s.tripped m
  (Act.setLim fun x => { x with within := x.within.set m (!violation), seen := x.seen.set m s.clk }).andThen <|
  if violation then .all [
    .setF F.LIMIT_STAT_RUN run m,
    if was then .skip
    else if s.f F.MON_CFG_COUNT m ≤ run then .trip m value run
    else .setF F.LIMIT_STAT_STATE 2 m]
  else .all [.setF F.LIMIT_STAT_RUN 0 m, .when (!was) (.setF F.LIMIT_STAT_STATE 1 m)]

/-- R273: a value lies outside the limits of a monitor: signed 24-bit codes for KIND 0, unsigned 16-bit ones for KIND 1. -/
def State.violates (s : State) (m : Nat) (x : Int) : Bool :=
  if s.b F.MON_CFG_KIND m then
    decide (x < (s.f F.MON_LO_LIMIT m % 65536 : Nat) ∨ ((s.f F.MON_HI_LIMIT m % 65536 : Nat) : Int) < x)
  else decide (x < signed 24 (s.f F.MON_LO_LIMIT m) ∨ signed 24 (s.f F.MON_HI_LIMIT m) < x)

/-- R274: a monitor evaluates a record. -/
def State.evaluates (s : State) (m : Nat) (r : RecView) : Bool :=
  !s.b F.MON_CFG_KIND m && s.f F.MON_CFG_SRC m == r.conv && !r.fail && !r.injected &&
  (if r.reduced then r.entry == s.f F.MON_CFG_RED_ENTRY m
   else !s.b F.MON_CFG_ENTRY_EN m || r.entry == s.f F.MON_CFG_ENTRY m)

/-- A monitor by its number. -/
def monitorOf (m : Nat) : Monitor := ⟨m % 128, Nat.mod_lt _ (by decide)⟩

/-- R273, R274: the KIND 0 monitors evaluate a record. -/
def Act.monitorRecord (r : RecView) : Act := .look fun s =>
  .when s.limitsLive <| .each s.enabledMonitors fun m => .look fun s =>
    .when (s.evaluates m r) (.all [
      .setB F.LIMIT_STAT_STALE false m,
      .evaluate (monitorOf m) (some r.sample) ((r.ovr && s.b F.MON_CFG_OVR_VIOL m) || s.violates m r.sample)])

/-- R273: the KIND 1 monitors evaluate a setpoint. -/
def Act.monitorSetpoint (output : Nat) (code : Nat) : Act := .look fun s =>
  .when s.limitsLive <| .each s.enabledMonitors fun m => .look fun s =>
    .when (s.b F.MON_CFG_KIND m && s.f F.MON_CFG_SRC m == output)
      (.evaluate (monitorOf m) (some code) (s.violates m code))

/-- R273, R285: a record formed, or a setpoint written, waits for the end of its system clock: the evaluation uses the registers after
every write of that clock, and the trip logic is last (R280). -/
def Act.judgeLater (c : LimCase) : Act := .setLim fun x => { x with due := x.due ++ [c] }

/-- R273, R275, R280: the end of a system clock: what waits is evaluated. -/
def Act.limitsTurn : Act := .look fun s => (Act.setLim fun x => { x with due := [] }).andThen <|
  .each s.lim.due fun c => match c with
    | .record r => .monitorRecord r
    | .setpoint o code => .monitorSetpoint o code

/-- R274: the clock at which a STALE period (in ms) of the monitor ends. -/
def State.staleAt (s : State) (m : Monitor) : Nat := s.lim.seen[m] + s.f F.MON_CFG_STALE m * 163840

/-- R274: a STALE period has passed without an evaluated record: one violation. -/
def Act.monitorStale (m : Monitor) : Act := .look fun s =>
  .when (s.limitsLive && s.b F.MON_CFG_ENABLE m && !s.b F.MON_CFG_KIND m && s.f F.MON_CFG_STALE m != 0 && decide (s.staleAt m ≤ s.clk))
    (.all [.setB F.LIMIT_STAT_STALE true m, .evaluate m none true])

/-- R276, R299: an output named by no TRIPPED monitor's OUT any more loses that cause. -/
def Act.outCauses : Act := .each (List.finRange 4) fun g => .each (List.finRange 8) fun o => .look fun s =>
  .when (s.bit F.DAC_STATUS_FAULT_BY 1 g o && !(List.range 128).any (fun m =>
      s.tripped m && s.b F.MON_ACT_OUT m && s.f F.MON_ACT_OUT_GRP m == g.val && s.bit F.MON_ACT_OUT_MASK o m))
    (.outFaultEnd g o 1)

/-- R275: a write of TRIPPED bits: each clears only when its monitor's latest evaluation lay within the limits and STALE
reads 0. -/
def Act.trippedClear (i : Fin 4) (v : Word) : Act := .all [
  .each (List.finRange 32) fun b => .look fun s =>
    let m := monitorOf (32 * i + b)
    .when (v.getLsbD b && s.tripped m && s.lim.within[m] && !s.b F.LIMIT_STAT_STALE m) (.all [
      .clrBit F.LIMIT_TRIPPED_TRIPPED b i, .setF F.LIMIT_STAT_RUN 0 m,
      .setF F.LIMIT_STAT_STATE (if s.b F.MON_CFG_ENABLE m then 1 else 0) m]),
  .outCauses, .accept]

/-- The four words of a monitor. -/
structure MonWords where
  cfg : Word
  lo : Word
  hi : Word
  act : Word
deriving DecidableEq, Repr

def State.monWords (s : State) (m : Nat) : MonWords := ⟨s.r .MON_CFG m, s.r .MON_LO m, s.r .MON_HI m, s.r .MON_ACT m⟩

/-- A limit as its KIND compares it (R279). -/
def limitValue (kind : Nat) (w : Word) : Int :=
  if kind = 1 then ((F.MON_LO_LIMIT.of w % 65536 : Nat) : Int) else signed 24 (F.MON_LO_LIMIT.of w)

/-- R279: what an enabled monitor may not hold. -/
def MonWords.invalid (w : MonWords) : Bool :=
  let kind := F.MON_CFG_KIND.of w.cfg
  let src := F.MON_CFG_SRC.of w.cfg
  F.MON_CFG_ENABLE.of w.cfg == 1 &&
  (F.MON_CFG_COUNT.of w.cfg == 0 || decide (limitValue kind w.hi < limitValue kind w.lo) ||
   (kind == 0 && (decide (35 < src) || src % 9 == 8)) || (kind == 1 && decide (31 < src)))

/-- R278: every change from `o` to `n` only tightens. -/
def MonWords.tightens (o n : MonWords) : Bool :=
  let same := fun (f : Fld) (a b : Word) => f.of a == f.of b
  let rise := fun (f : Fld) (a b : Word) => decide (f.of a &&& f.of b = f.of a)
  let kind := F.MON_CFG_KIND.of o.cfg
  rise F.MON_CFG_ENABLE o.cfg n.cfg && same F.MON_CFG_KIND o.cfg n.cfg && same F.MON_CFG_SRC o.cfg n.cfg &&
  same F.MON_CFG_ENTRY o.cfg n.cfg && same F.MON_CFG_ENTRY_EN o.cfg n.cfg && same F.MON_CFG_RED_ENTRY o.cfg n.cfg &&
  (same F.MON_CFG_COUNT o.cfg n.cfg ||
    (decide (F.MON_CFG_COUNT.of n.cfg < F.MON_CFG_COUNT.of o.cfg) && F.MON_CFG_COUNT.of n.cfg != 0)) &&
  rise F.MON_CFG_OVR_VIOL o.cfg n.cfg &&
  (same F.MON_CFG_STALE o.cfg n.cfg || F.MON_CFG_STALE.of o.cfg == 0 ||
    (decide (F.MON_CFG_STALE.of n.cfg < F.MON_CFG_STALE.of o.cfg) && F.MON_CFG_STALE.of n.cfg != 0)) &&
  decide (limitValue kind o.lo ≤ limitValue kind n.lo) && decide (limitValue kind n.hi ≤ limitValue kind o.hi) &&
  ((o.lo == n.lo && o.hi == n.hi) || decide (limitValue kind n.lo ≤ limitValue kind n.hi)) &&
  rise F.MON_ACT_SAFE o.act n.act && rise F.MON_ACT_OUT o.act n.act && same F.MON_ACT_OUT_GRP o.act n.act &&
  rise F.MON_ACT_OUT_MASK o.act n.act && rise F.MON_ACT_DOORBELL o.act n.act && same F.MON_ACT_ENGINE o.act n.act

/-- The words of a monitor with one of them replaced. -/
def MonWords.put (w : MonWords) (r : MonReg) (v : Word) : MonWords :=
  match r with
  | .cfg => { w with cfg := v &&& RegName.mask .MON_CFG }
  | .lo => { w with lo := v &&& RegName.mask .MON_LO }
  | .hi => { w with hi := v &&& RegName.mask .MON_HI }
  | .act => { w with act := v &&& RegName.mask .MON_ACT }

/-- The register that a monitor's word is. -/
def monRegName (r : MonReg) : RegName :=
  match r with
  | .cfg => .MON_CFG
  | .lo => .MON_LO
  | .hi => .MON_HI
  | .act => .MON_ACT

/-- R275: the state of a monitor follows its ENABLE bit. -/
def Act.monitorState (m : Nat) : Act := .look fun s =>
  let on := s.b F.MON_CFG_ENABLE m
  let st := s.f F.LIMIT_STAT_STATE m
  if on && st == 0 then .all [.setLim fun x => { x with seen := x.seen.set (monitorOf m) s.clk }, .setF F.LIMIT_STAT_STATE (if s.tripped m then 3 else 1) m, .setF F.LIMIT_STAT_RUN 0 m]
  else if !on && st != 0 then .all [.setF F.LIMIT_STAT_STATE 0 m, .setF F.LIMIT_STAT_RUN 0 m]
  else .skip

/-- R278: the limits are locked. -/
def State.limitLocked (s : State) : Bool := s.b F.LIMIT_LOCK_LOCKED

/-- R278, R279: a write to a register of a monitor. -/
def Act.monitorWrite (m : Nat) (r : MonReg) (v : Word) : Act := .look fun s =>
  let o := s.monWords m
  let n := o.put r v
  if n.invalid || (s.limitLocked && !o.tightens n) then .limitRefuse
  else .all [.setR (monRegName r) v m, .monitorState m, .outCauses, .accept]

/-- R278: the lock acts. -/
def Act.limitLockSet : Act := .all [.setB F.LIMIT_LOCK_LOCKED true, .setB F.SYS_LOCKS_LIMIT true]

/-- R278: a write of LIMIT.LOCK. -/
def Act.limitLock (v : Word) : Act :=
  if F.LIMIT_LOCK_KEY.of v = 0x3C then .all [.limitLockSet, .accept] else .limitRefuse

/-! ### The watchdog -/

/-- R283: the watchdog reloads. -/
def Act.wdogReload : Act := .look fun s => .setLim fun x => { x with wdogRef := s.clk }

/-- R283: the watchdog runs. -/
def State.wdogRuns (s : State) : Bool :=
  s.up && s.released && s.f F.LIMIT_WDOG_TIMEOUT != 0 && !s.b F.LIMIT_WDOG_EXPIRED

/-- R283: TIMEOUT ms have passed since the watchdog was last reloaded. -/
def State.wdogDue (s : State) : Bool := decide (s.lim.wdogRef + s.f F.LIMIT_WDOG_TIMEOUT * 163840 ≤ s.clk)

/-- R283: a kick of the host, which reaches a module over the ring too, or of a step engine reloads the watchdog. -/
def kickSource (src : Src) : Bool :=
  match src with
  | .host | .ring | .engine _ => true
  | .fabric _ | .dma _ | .sched | .trip | .policy | .pair => false

/-- R283: a write of WDOG_KICK. -/
def Act.wdogKick (src : Src) (v : Word) : Act :=
  if F.LIMIT_WDOG_KICK_KEY.of v = 0x96 then .all [.when (kickSource src) .wdogReload, .accept] else .limitRefuse

/-- R12, R278, R284: a write of WDOG: refused whole where it would change a locked field or names ACTION 3. It reloads the watchdog where it
clears EXPIRED or starts it with another TIMEOUT. -/
def Act.wdogWrite (v : Word) : Act := .look fun s =>
  let same := F.LIMIT_WDOG_TIMEOUT.of v == s.f F.LIMIT_WDOG_TIMEOUT && F.LIMIT_WDOG_ACTION.of v == s.f F.LIMIT_WDOG_ACTION
  if F.LIMIT_WDOG_ACTION.of v = 3 ∨ (s.limitLocked && !same) then .limitRefuse
  else .all [
    .when (F.LIMIT_WDOG_EXPIRED.of v == 1 || F.LIMIT_WDOG_TIMEOUT.of v != s.f F.LIMIT_WDOG_TIMEOUT) .wdogReload,
    .store .LIMIT_WDOG v, .accept]

/-- R283, R284: the watchdog expires, unless a kick came in this system clock; `reset` is the module reset of ACTION 2. -/
def Act.wdogExpire (reset : Act) : Act := .look fun s =>
  let action := s.f F.LIMIT_WDOG_ACTION
  if !(s.wdogRuns && s.wdogDue) then .skip else .all [
    .setB F.LIMIT_WDOG_EXPIRED true, .log 13 0 (leBytes action 1),
    match action with
    | 0 => .safeEnter 2
    | 1 => .all [.safeEnter 2, .each (List.finRange 8) fun e => .engFault e 5]
    | _ => reset]

/-! ### Setpoints -/

/-- R273, R276, R295: a write of DAC.OUT.VALUE: the output takes it, and the KIND 1 monitors judge it at the end of the system clock; a
trip's fault state then replaces it in the same clock. -/
def Act.dacValueWrite (g : Grp) (o : Out) (v : Word) : Act := .all [
  .dacValue g o v, .judgeLater (.setpoint (g * 8 + o) (F.DAC_VALUE_CODE.of v))]

/-- R281: S.SAFE_N is low. -/
def Act.safePinLow : Act := .all [
  .upd fun s => { s with pwr := { s.pwr with safePinLow := true } },
  .look fun s => .when s.up (.all [.setB F.LIMIT_SAFE_PIN true, .safeEnter 0])]

/-- R282: S.SAFE_N returns high. -/
def Act.safePinHigh : Act := .all [
  .upd fun s => { s with pwr := { s.pwr with safePinLow := false } },
  .look fun s => .when s.up (.setB F.LIMIT_SAFE_PIN false)]

/-! ### The commands -/

def execMonitorStale (m : Monitor) (s : State) := (Act.monitorStale m).done s
def execTrippedClear (src : Src) (i : Fin 4) (v : Word) (s : State) :=
  (Act.writeTo src .LIMIT_TRIPPED i 0 0 (Act.trippedClear i v)).done s
def execMonitorWrite (src : Src) (m : Monitor) (reg : MonReg) (v : Word) (s : State) :=
  (Act.writeTo src (monRegName reg) m 0 0 (Act.monitorWrite m reg v)).done s
def execLimitLock (src : Src) (v : Word) (s : State) := (Act.writeTo src .LIMIT_LOCK 0 0 0 (Act.limitLock v)).done s
def execSafePinLow (s : State) := Act.safePinLow.done s
def execSafePinHigh (s : State) := Act.safePinHigh.done s
def execSafeEnterWrite (src : Src) (v : Word) (s : State) := (Act.writeTo src .LIMIT_SAFE 0 0 0 (Act.safeWrite v)).done s
def execSafeRelease (src : Src) (v : Word) (s : State) := (Act.writeTo src .LIMIT_SAFE 0 0 0 (Act.safeWrite v)).done s
def execSafeCauseClear (src : Src) (v : Word) (s : State) := (Act.writeTo src .LIMIT_SAFE 0 0 0 (Act.safeWrite v)).done s
def execWatchdogKick (src : Src) (v : Word) (s : State) := (Act.writeTo src .LIMIT_WDOG_KICK 0 0 0 (Act.wdogKick src v)).done s
def execWdogWrite (src : Src) (v : Word) (s : State) := (Act.writeTo src .LIMIT_WDOG 0 0 0 (Act.wdogWrite v)).done s
def execDacValueWrite (src : Src) (g : Grp) (o : Out) (v : Word) (s : State) :=
  (Act.writeTo src .DAC_VALUE g o 0
    (Act.mirrored src (RegRef.offset ⟨.DAC_VALUE, g, o, 0⟩) v (Act.dacValueWrite g o v))).done s

end Sys2Proof.Machine
end

