-- ==== Sys2Proof/Machine/Sched.lean ====
section
/-! DEFINITION. The Tide scheduler (R242 to R260): the context memory, arming, judging, holds, decisions and records. What an
issued action does stands in Issue.lean. -/

namespace Sys2Proof.Machine

/-- R242: the window offset of context x. -/
def ctxOffset (x : Nat) : Nat := 0x400000 + 16 * x

/-- R242: the control word of a context. -/
def State.ctxCtl (s : State) (x : Nat) : Nat := s.bytes (ctxOffset x + 12) 4

/-- R242: PARAM of a context. -/
def State.ctxParam (s : State) (x : Nat) : Nat := s.bytes (ctxOffset x + 8) 4


abbrev ctlAction (c : Nat) : Nat := bitsOf c 0 4
abbrev ctlSrc (c : Nat) : Nat := bitsOf c 4 3
abbrev ctlDir (c : Nat) : Nat := bitsOf c 8 2
abbrev ctlMissed (c : Nat) : Bool := c.testBit 10
abbrev ctlReport (c : Nat) : Bool := c.testBit 11
abbrev ctlRepeat (c : Nat) : Nat := bitsOf c 12 8
abbrev ctlArm (c : Nat) : Bool := c.testBit 31

/-- R242: TARGET of a context: unsigned for module time, signed for a tracker. -/
def State.ctxTarget (s : State) (x : Nat) : Int :=
  let v := s.bytes (ctxOffset x) 8
  if ctlSrc (s.ctxCtl x) = 0 then v else signed 64 v

/-- R244: an entry of SCHED.REPEAT in force. -/
def State.interval (s : State) (i : Nat) : Nat := (assoc s.sched.intervals i).getD 0

/-- R244: the interval that SCHED.REPEAT gives a context; 0 for a one-shot context. -/
def State.ctxNewest (s : State) (x : Nat) : Nat :=
  let i := ctlRepeat (s.ctxCtl x)
  if i = 0 then 0 else s.interval i

/-- R244, R259: the interval that a context uses. -/
def State.ctxInterval (s : State) (x : Nat) : Nat := (assoc s.sched.was x).getD (s.ctxNewest x)

/-- The armed contexts, in ascending order. -/
def State.armedCtx (s : State) : List Nat :=
  s.mem.filterMap fun c =>
    if 0x400000 ≤ c.1 ∧ c.1 < 0x440000 ∧ c.1 % 16 = 15 ∧ 128 ≤ c.2.toNat then some ((c.1 - 0x400000) / 16) else none

/-- The armed contexts on a source: 0 for module time, 1 + k for tracker k. -/
def State.armedOn (s : State) (src : Nat) : List Nat := s.armedCtx.filter (fun x => ctlSrc (s.ctxCtl x) == src)

/-- Change what the scheduler holds. -/
def Act.setSched (f : SchedSt → SchedSt) : Act := .upd fun s => { s with sched := f s.sched }

/-- A refused write to the SCHED block. -/
def Act.schedRefuse : Act := .refuse F.SCHED_REFUSED_COUNT

/-! ### Records -/

/-- R256, R257: a completion record sets out for the berth that SCHED.CFG names now. -/
def Act.schedRecord (x outcome cause slip count : Nat) (armed : Bool) (ns : Nat) : Act := .look fun s =>
  let c0 := x + ctlAction (s.ctxCtl x) * 2 ^ 14 + outcome * 2 ^ 18 + armed.toNat * 2 ^ 21 + cause * 2 ^ 22 +
    min slip 63 * 2 ^ 26 + min count 65535 * 2 ^ 32
  .setSched fun c => { c with recs := c.recs ++ [(s.clk, s.f F.SCHED_CFG_BERTH, c0, ns)] }

/-- R256: the front record is written 16 system clocks after the issue, with the next number; a dropped record consumes its number. -/
def Act.completionRecord : Act := .look fun s =>
  match s.sched.recs with
  | [] => .skip
  | (t, b, c0, c1) :: rest =>
    let seq := s.f F.SCHED_RECORDS_NEXT_SEQ
    .when (decide (t + 16 ≤ s.clk)) (.all [
      .setSched fun c => { c with recs := rest },
      .setF F.SCHED_RECORDS_NEXT_SEQ ((seq + 1) % 65536),
      .moduleRecord b (BitVec.ofNat 64 (c0 + seq * 2 ^ 48)) (BitVec.ofNat 64 c1)])

/-- R258: the front mark is written, 16 system clocks after the issue. -/
def Act.markRecord : Act := .look fun s =>
  match s.sched.marks with
  | [] => .skip
  | (t, b, c0, c1) :: rest => .when (decide (t + 16 ≤ s.clk)) (.all [
      .setSched fun c => { c with marks := rest },
      .moduleRecord b (BitVec.ofNat 64 c0) (BitVec.ofNat 64 c1)])

/-! ### Decisions -/

/-- R253: `a` is issued before `b`. -/
def Decision.before (a b : Decision) : Bool := decide (a.due < b.due ∨ (a.due = b.due ∧ a.ctx ≤ b.ctx))

/-- R253: a decision takes its place in the order of issue. -/
def insertDecision (d : Decision) : List Decision → List Decision
  | [] => [d]
  | e :: l => if e.before d then e :: insertDecision d l else d :: e :: l

/-- R254: a decision of an earlier clock waits. -/
def State.ctxWaits (s : State) (x : Nat) : Bool := s.sched.queue.any (fun d => d.ctx == x && decide (d.due < s.clk))

/-- R250: points that are jumped over join those of the same outcome in the same clock. -/
def joinDecision (x outcome due count : Nat) (l : List Decision) : List Decision :=
  l.map fun d => if d.ctx = x ∧ d.due = due ∧ d.outcome = outcome then { d with count := d.count + count } else d

/-- R250, R253, R254, R265: a decision is made, or its points are gathered while one waits. Engines that wait on the context see
it. -/
def Act.makeDecision (x outcome count due : Nat) : Act := .look fun s =>
  if s.ctxWaits x || (assoc s.sched.gather x).isSome then .setSched fun c => { c with
    gather := assocSet c.gather x ((assoc c.gather x).getD 0 + count) }
  else if outcome ≠ 0 ∧ s.sched.queue.any (fun d => d.ctx == x && d.due == due && d.outcome == outcome) then
    .setSched fun c => { c with queue := joinDecision x outcome due count c.queue }
  else .all [
    .setSched fun c => { c with queue := insertDecision ⟨x, due, s.ns, outcome, count⟩ c.queue },
    .each (List.finRange 8) fun e => .when (s.eng[e].tide == some x) (.setEng e fun q => { q with tideHit := true })]

/-- What the scheduler keeps of a context beside the context memory goes. -/
def Act.ctxForget (x : Nat) : Act := .setSched fun c => { c with
  fresh := c.fresh.filter (fun y => y != x), arms := assocDel c.arms x, was := assocDel c.was x }

/-- R244: ARM clears. -/
def Act.ctxClear (x : Nat) : Act := .look fun s =>
  .setByte (ctxOffset x + 15) (s.byte (ctxOffset x + 15) &&& 0x7F)

/-- R250: a context is accounted for `nm` points crossed by motion and `nj` jumped over, in a direction that DIR includes or
not. -/
def Act.ctxHit (x nm nj : Nat) (included : Bool) : Act := .look fun s =>
  let late : Nat := if ctlMissed (s.ctxCtl x) then 2 else 1
  if !included then .when (s.ctxInterval x == 0) (.ctxClear x)
  else if nm = 0 then .when (nj != 0) (.makeDecision x late nj s.clk)
  else .all [.makeDecision x 0 1 s.clk, .when (nm - 1 + nj != 0) (.makeDecision x late (nm - 1 + nj) s.clk)]

/-! ### Points -/

/-- R244, R249: the points of `t + n × iv` strictly beyond `a` and up to `b`, forward; a one-shot context has one point. -/
def pointsForward (t : Int) (iv : Nat) (a b : Int) : Nat :=
  if b ≤ a then 0
  else if iv = 0 then (decide (a < t ∧ t ≤ b)).toNat
  else (((b - t) / iv) - ((a - t) / iv)).toNat

/-- R249: the same in either direction; in reverse the comparisons are mirrored. -/
def points (t : Int) (iv : Nat) (a b : Int) (reverse : Bool) : Nat :=
  if reverse then pointsForward (-t) iv (-a) (-b) else pointsForward t iv a b

/-- R244: the first point that lies ahead of `e` in the direction of motion. -/
def firstAhead (t : Int) (iv : Nat) (e : Int) (reverse : Bool) : Int :=
  if iv = 0 then t
  else if reverse then -(-t + ((-e - -t) / iv + 1) * iv)
  else t + ((e - t) / iv + 1) * iv

/-- R244: TARGET is rewritten. -/
def Act.setTarget (x : Nat) (t : Int) : Act := .setBytes (ctxOffset x) (unsigned 64 t) 8

/-- R244: TARGET of a repeating context moves to the first point ahead. -/
def Act.ctxAhead (x : Nat) (e : Int) (reverse : Bool) : Act := .look fun s =>
  let iv := s.ctxInterval x
  .when (iv != 0) (.setTarget x (firstAhead (s.ctxTarget x) iv e reverse))

/-- R254: a one-shot context whose decision is made has no further point. -/
def State.ctxDone (s : State) (x : Nat) : Bool := s.sched.queue.any (fun d => d.ctx == x) && s.ctxInterval x == 0

/-- R249, R250: a context's points between two positions. With a decision, an interval that was rewritten comes into use, counted from the
point that the decision is for (R259). -/
def Act.ctxSpan (x : Nat) (a b : Int) (reverse jumped : Bool) : Act := .look fun s =>
  let t := s.ctxTarget x
  let iv := s.ctxInterval x
  let included := (ctlDir (s.ctxCtl x)).testBit reverse.toNat
  let hit := fun n => Act.ctxHit x (if jumped then 0 else n) (if jumped then n else 0) included
  let n := if s.ctxDone x then 0 else points t iv a b reverse
  .when (n != 0) <|
    if included && (assoc s.sched.was x).isSome then
      let f := firstAhead t iv a reverse
      .all [.setTarget x f, .setSched fun c => { c with was := assocDel c.was x },
        hit (1 + points f (s.ctxNewest x) f b reverse), .ctxAhead x b reverse]
    else .all [hit n, .ctxAhead x b reverse]

/-! ### Judging -/

/-- The context is armed and not judged yet. -/
def State.ctxFresh (s : State) (x : Nat) : Bool := s.sched.fresh.contains x

/-- R245: a context that is not judged yet is judged from the clock after its arming write on. -/
def State.ctxReady (s : State) (x : Nat) : Bool := s.ctxFresh x && match assoc s.sched.arms x with
  | some a => decide (a.1 < s.clk)
  | none => true

/-- R252: the position of a context at its arming, where it was armed in a hold. -/
def State.ctxArmedAt (s : State) (x : Nat) : Option Int := (assoc s.sched.arms x).bind Prod.snd

/-- R252: PARKED holds every context; nothing is judged before release (R247). -/
def State.schedHeld (s : State) : Bool := !s.released || s.b F.SCHED_STATUS_HOLD_ALL

/-- R252: the phase contexts of a tracker are held. -/
def State.phaseHeld (s : State) (k : Fin 4) : Bool :=
  s.schedHeld || s.b F.SCHED_STATUS_HOLD_PHASE || s.sched.trk[k] != .free

/-- R248: a time context is judged: points up to `m` were reached by counting, points beyond it up to `j` were jumped
over. -/
def Act.timeJudge (x : Nat) (m j : Int) : Act := .look fun s =>
  let t := s.ctxTarget x
  let iv := s.ctxInterval x
  let nm := points t iv (t - 1) m false
  let nj := points t iv (max (t - 1) m) j false
  .when (!s.ctxDone x && nm + nj != 0) (.all [.ctxHit x nm nj true, .ctxAhead x (max m j) false])

/-- A phase stored in two registers. -/
def State.extreme (s : State) (k : Nat) : Int :=
  signed 64 (s.f F.SCHED_TRK_EXTREME_LO_EXTREME k + 2 ^ 32 * s.f F.SCHED_TRK_EXTREME_HI_EXTREME k)

/-- R249: E takes a value. -/
def Act.setExtreme (k : Nat) (e : Int) : Act :=
  .all [.setF F.SCHED_TRK_EXTREME_LO_EXTREME (unsigned 64 e) k,
    .setF F.SCHED_TRK_EXTREME_HI_EXTREME (unsigned 64 e / 2 ^ 32) k]

/-- The contexts of tracker k that have been judged before. -/
def State.judgedOn (s : State) (k : Nat) : List Nat := (s.armedOn (k + 1)).filter (fun x => !s.ctxFresh x)

/-- Every judged context of a tracker passes from `a` to `b`. -/
def Act.span (k : Nat) (a b : Int) (reverse jumped : Bool) : Act := .look fun s =>
  .each (s.judgedOn k) fun x => .ctxSpan x a b reverse jumped

/-- R249 for motion to `p`; R251 and the end of a hold (R252) where it is a jump. -/
def Act.schedMove (k : Nat) (p : Int) (jumped : Bool) : Act := .look fun s =>
  let e := s.extreme k
  let rev := s.b F.SCHED_TRK_CFG_DIR k
  let h : Int := s.f F.SCHED_TRK_HYST_HYST k
  let ahead := if rev then e - p else p - e
  if 0 < ahead then .all [.span k e p rev jumped, .setExtreme k p, .setB F.SCHED_TRK_CFG_IN_BAND false k]
  else if h < -ahead then
    let mid := if rev then e + h else e - h
    .all [
      .setB F.SCHED_TRK_CFG_DIR (!rev) k,
      if jumped then .span k e p (!rev) true
      else .all [.span k e mid (!rev) true, .span k mid p (!rev) false],
      .each (s.judgedOn k) fun x => .ctxAhead x p (!rev),
      .setExtreme k p, .setB F.SCHED_TRK_CFG_IN_BAND false k]
  else .when (ahead != 0) (.setB F.SCHED_TRK_CFG_IN_BAND true k)

/-- R247: a context is judged as at arming: the points from its TARGET that lie at or behind the position count as jumped
over, where DIR includes the direction. TARGET of a repeating phase context is then the first point ahead (R244). -/
def Act.armJudge (x : Nat) (e : Int) (reverse : Bool) : Act := .look fun s =>
  let t := s.ctxTarget x
  let n := points t (s.ctxInterval x) (if reverse then t + 1 else t - 1) e reverse
  let hit := !s.ctxDone x && n != 0 && (ctlDir (s.ctxCtl x)).testBit reverse.toNat
  (Act.ctxForget x).andThen <| .all [
    .when hit (.ctxHit x 0 n true), .when (hit || ctlSrc (s.ctxCtl x) != 0) (.ctxAhead x e reverse)]

/-- R247, R252: the contexts of tracker k that were armed and not judged are judged at E and D. One that was armed in a hold, which ends at
phase `p`, is judged at its position then and for the movement from there on. -/
def Act.judgeFresh (k : Nat) (p : Int) : Act := .look fun s =>
  .each ((s.armedOn (k + 1)).filter s.ctxReady) fun x => .look fun s =>
    let e := s.extreme k
    let rev := s.b F.SCHED_TRK_CFG_DIR k
    match s.ctxArmedAt x with
    | some a => .all [.armJudge x a rev, .ctxSpan x a p (decide (p < a)) true, .ctxAhead x e rev]
    | none => .armJudge x e rev

/-- The phase a tracker presents. -/
def State.phase (s : State) (k : Nat) : Int :=
  signed 64 (s.f F.TRK_PHASE_LO_PHASE k + 2 ^ 32 * s.f F.TRK_PHASE_HI_PHASE k)

/-- R247, R252: a time context that was armed and not judged: at module time, or where that was at its arming in a hold. -/
def Act.timeArm (x : Nat) : Act := .look fun s =>
  .when (s.ctxReady x) (.armJudge x (max ((s.ctxArmedAt x).getD s.ns) s.ns) false)

/-- R248: the time contexts are judged against module time. -/
def Act.judgeTime : Act := .look fun s =>
  .when (!s.schedHeld) (.each (s.armedOn 0) fun x => .look fun s =>
    if s.ctxFresh x then .timeArm x else .timeJudge x s.ns s.ns)

/-- R249: the phase contexts of a tracker are judged against the presented phase, motion first, then what was armed. -/
def Act.judgePhase (k : Fin 4) : Act := .look fun s =>
  .when (!s.phaseHeld k) (.all [.schedMove k (s.phase k) false, .judgeFresh k (s.phase k)])

/-! ### Holds -/

/-- R252: the modes that hold contexts enter: the motion up to the hold is judged first. -/
def Act.holdModes : Act := .look fun s =>
  let park := s.mode parked
  let noPhase := !s.mode phaseRun
  .all [
    .when ((park && !s.b F.SCHED_STATUS_HOLD_ALL) || (noPhase && !s.b F.SCHED_STATUS_HOLD_PHASE))
      (.each (List.finRange 4) Act.judgePhase),
    .when park (.setB F.SCHED_STATUS_HOLD_ALL true), .when noPhase (.setB F.SCHED_STATUS_HOLD_PHASE true)]

/-- R252: the contexts of a tracker are held from now on; `first` where the return is a first lock. -/
def Act.holdTracker (k : Fin 4) (first : Bool) : Act := .look fun s =>
  let was := match s.sched.trk[k] with
    | .held f _ => f
    | .free => false
  (Act.judgePhase k).andThen <| .setSched fun c => { c with trk := c.trk.set k (.held (first || was) none) }

/-- R252: the tracker has locked again, with measured phase p. -/
def Act.holdBack (k : Fin 4) (p : Int) : Act := .look fun s =>
  match s.sched.trk[k] with
  | .free => .skip
  | .held f _ => .setSched fun c => { c with trk := c.trk.set k (.held f (some p)) }

/-- R252: the tracker holds end whose tracker has locked. -/
def Act.endTrackerHold (k : Fin 4) : Act := .look fun s =>
  match s.sched.trk[k] with
  | .held first (some p) => .when (!s.schedHeld && !s.b F.SCHED_STATUS_HOLD_PHASE) <| .all [
      .setSched fun c => { c with trk := c.trk.set k .free },
      if first then .all [
        .setExtreme k p, .setB F.SCHED_TRK_CFG_DIR (s.b F.TRK_STATUS_DIR k) k, .setB F.SCHED_TRK_CFG_IN_BAND false k,
        .each (s.armedOn (k + 1)) fun x => .armJudge x p (s.b F.TRK_STATUS_DIR k)]
      else .all [.schedMove k p true, .judgeFresh k p]]
  | _ => .skip

/-- R252: every hold that has ended is taken off, and the net movement of its contexts is judged. -/
def Act.holdsEnd : Act := .look fun s =>
  let all := s.b F.SCHED_STATUS_HOLD_ALL && !s.mode parked
  let ph := s.b F.SCHED_STATUS_HOLD_PHASE && s.mode phaseRun
  .when s.released <| .all [
    .when all (.all [.setB F.SCHED_STATUS_HOLD_ALL false,
      .each (s.armedOn 0) fun x => .look fun s =>
        if s.ctxFresh x then .timeArm x else .timeJudge x (s.ctxTarget x - 1) s.ns]),
    .when ph (.setB F.SCHED_STATUS_HOLD_PHASE false),
    .when (all || ph) (.each (List.finRange 4) fun k => .look fun s =>
      .when (!s.phaseHeld k) (.all [.schedMove k (s.phase k) true, .judgeFresh k (s.phase k)])),
    .each (List.finRange 4) Act.endTrackerHold]

/-- R247 to R252: one system clock of the scheduler. -/
def Act.judge : Act := .look fun s =>
  .when s.released <| .all [.holdsEnd, .judgeTime, .each (List.finRange 4) Act.judgePhase]

/-- R251: a tracker jump from `f` to `t`: motion up to `f`, then the jump. -/
def Act.schedJump (k : Fin 4) (f t : Int) : Act := .look fun s =>
  .when (!s.phaseHeld k) (.all [.schedMove k f false, .judgeFresh k f, .schedMove k t true])

/-- R248, R259: module time steps before the contexts of the clock are judged: points that a forward step carries past are jumped over; a
backward step crosses none. -/
def Act.schedTimeStep (old new : Nat) : Act := .look fun s =>
  .when (!s.schedHeld && decide (old < new)) (.each (s.armedOn 0) fun x => .look fun s =>
    if s.ctxFresh x then .skip else .timeJudge x (s.ctxTarget x - 1) new)

/-! ### The context memory -/

/-- R243: the bits of PARAM that an action names. -/
def paramMask (action : Nat) : Nat :=
  match action with
  | 1 => 0x3F | 2 => 0x3F | 3 => 0x33F | 4 => 0xFFFF001F | 5 => 0x3FFFF | 6 => 0x3FFFF | 7 => 0x3FFFF
  | 8 => 0x7 | 9 => 0x3F | 10 => 0xFFFFFFFF | 11 => 0xFFC | _ => 0

/-- R245: what may not be armed. -/
def ctxBad (interval : Nat → Nat) (param ctl : Nat) : Bool :=
  let act := ctlAction ctl
  let conv := param % 64
  decide (12 ≤ act) || decide (5 ≤ ctlSrc ctl) || bitsOf ctl 7 1 != 0 || bitsOf ctl 20 11 != 0 ||
  param &&& (0xFFFFFFFF - paramMask act) != 0 ||
  ctlDir ctl == 0 || (ctlSrc ctl == 0 && ctlDir ctl != 1) || (ctlRepeat ctl != 0 && interval (ctlRepeat ctl) == 0) ||
  ((act == 1 || act == 2 || act == 3) && (decide (35 < conv) || conv % 9 == 8)) ||
  ((act == 5 || act == 6 || act == 7) && param % 65536 == 0) || (act == 11 && bitsOf param 2 2 == 3)

/-- R246: a disarm: one DISARMED record with the points of the decision that waits, which is not issued. -/
def Act.disarm (x : Nat) : Act := .look fun s =>
  let n := ((s.sched.queue.filter (fun d => d.ctx == x)).map (fun d => d.count)).sum
  (Act.schedRecord x 4 0 0 n false s.ns).andThen <| .setSched fun c => { c with
    queue := c.queue.filter (fun d => d.ctx != x)
    gather := assocDel c.gather x
    fresh := c.fresh.filter (fun y => y != x), arms := assocDel c.arms x, was := assocDel c.was x }

/-- R252: the position of a context that is armed in a hold: module time, or the presented phase. -/
def State.heldPosition (s : State) (src : Nat) : Option Int :=
  if src = 0 then (if s.b F.SCHED_STATUS_HOLD_ALL then some s.ns else none)
  else if s.released && s.phaseHeld ⟨(src - 1) % 4, Nat.mod_lt _ (by decide)⟩ then some (s.phase (src - 1)) else none

/-- R245, R246: a write of `n` bytes at byte `o` of context x. -/
def Act.ctxWrite (x o n v : Nat) : Act := .look fun s =>
  let old := s.ctxCtl x
  let touches := decide (12 < o + n)
  let ctl := if touches then v / 2 ^ (8 * (12 - o)) % 2 ^ 32 else old
  let param := if o ≤ 8 ∧ 8 < o + n then v / 2 ^ (8 * (8 - o)) % 2 ^ 32 else s.ctxParam x
  let put := Act.setBytes (ctxOffset x + o) v n
  if ctlArm old then
    if !touches || ctlArm ctl then .schedRefuse else .all [.disarm x, put, .accept]
  else if touches && ctlArm ctl then
    if ctxBad s.interval param ctl then .schedRefuse
    else .all [put, .setSched fun c => { c with
        fresh := c.fresh ++ [x], arms := assocSet c.arms x (s.clk, s.heldPosition (ctlSrc ctl)) }, .accept]
  else .all [put, .accept]

/-- R252, R254: the armed contexts that use an entry of SCHED.REPEAT, and those that name a tracker. -/
def State.repeatUsed (s : State) (i : Nat) : Bool := s.armedCtx.any (fun x => ctlRepeat (s.ctxCtl x) == i)

/-- R259: the armed phase contexts that use an entry keep their interval until their next decision. -/
def State.keepIntervals (s : State) (i : Nat) : List (Nat × Nat) :=
  (s.armedCtx.filter fun x => ctlRepeat (s.ctxCtl x) == i && ctlSrc (s.ctxCtl x) != 0 && !s.ctxFresh x).foldl
    (fun l x => assocSet l x (s.ctxInterval x)) s.sched.was

/-- R259: a write of SCHED.REPEAT_HI: the entry takes effect. Entry 0 is read-only. -/
def Act.repeatWrite (i : Nat) (v : Word) : Act := .look fun s =>
  let n := s.f F.SCHED_REPEAT_LO_INTERVAL i + 2 ^ 32 * v.toNat
  if i = 0 then .accept
  else if n = 0 ∧ s.repeatUsed i then .schedRefuse
  else .all [.setR .SCHED_REPEAT_HI v i, .setSched fun c => { c with
    intervals := assocSet c.intervals i n, was := s.keepIntervals i }, .accept]

/-- The writes of SCHED.TRK HYST and CFG: refused while an armed context names the tracker. -/
def Act.schedTrkWrite (k : Trk) (cfg : Bool) (v : Word) : Act := .look fun s =>
  if (s.armedOn (k + 1)) != [] then .schedRefuse
  else if cfg then .all [.setF F.SCHED_TRK_CFG_HOLD_FIRE (F.SCHED_TRK_CFG_HOLD_FIRE.of v) k, .accept]
  else .all [.setR .SCHED_TRK_HYST v k, .accept]

/-- A 32-bit or 64-bit write at the control word: a 64-bit write covers PARAM as well. -/
def Act.ctlWrite (x : Nat) (v : DWord) (wide : Bool) : Act :=
  if wide then .ctxWrite x 8 8 v.toNat else .ctxWrite x 12 4 (v.toNat % 2 ^ 32)

/-! ### The commands -/

def execContextArmingWrite (src : Src) (x : Ctx) (v : DWord) (wide : Bool) (s : State) :=
  (Act.write src (ctxOffset x + (if wide then 8 else 12)) (Act.ctlWrite x v wide)).done s
def execContextDisarm (src : Src) (x : Ctx) (v : DWord) (wide : Bool) (s : State) :=
  (Act.write src (ctxOffset x + (if wide then 8 else 12)) (Act.ctlWrite x v wide)).done s
def execContextJudge (s : State) := Act.judge.done s
def execSchedHoldEnd (s : State) := Act.holdsEnd.done s
def execCompletionRecord (s : State) := Act.completionRecord.done s
def execSchedMark (s : State) := Act.markRecord.done s
def execSchedRepeatWrite (src : Src) (i : Fin 256) (v : Word) (s : State) :=
  (Act.writeTo src .SCHED_REPEAT_HI i 0 0 (Act.repeatWrite i v)).done s
def execSchedTrkWrite (src : Src) (k : Trk) (cfg : Bool) (v : Word) (s : State) :=
  (Act.writeTo src (if cfg then .SCHED_TRK_CFG else .SCHED_TRK_HYST) k 0 0 (Act.schedTrkWrite k cfg v)).done s

end Sys2Proof.Machine
end

