-- ==== Sys2Proof/Machine/Tracker.lean ====
section
/-! DEFINITION. The phase trackers (R228 to R241). -/

namespace Sys2Proof.Machine

/-- The sources of R234. -/
abbrev srcEncoder : Nat := 1
abbrev srcSincos : Nat := 2
abbrev srcResolver : Nat := 3
abbrev srcMains : Nat := 4
abbrev srcScale : Nat := 5
abbrev srcTime : Nat := 6

/-- The lock states of R233. -/
abbrev lockOff : Nat := 0
abbrev lockSearch : Nat := 1
abbrev lockLocked : Nat := 2
abbrev lockHold : Nat := 3
abbrev lockLost : Nat := 4

/-- A tracker's source. -/
def State.trkSrc (s : State) (k : Trk) : Nat := s.f F.TRK_CFG_SRC k
/-- A tracker's lock state. -/
def State.trkLock (s : State) (k : Trk) : Nat := s.f F.TRK_STATUS_LOCK k
/-- DIR: 1 is reverse. -/
def State.trkRev (s : State) (k : Trk) : Bool := s.b F.TRK_STATUS_DIR k
/-- HOME_VALUE. -/
def State.homeValue (s : State) (k : Trk) : Int :=
  signed 64 (s.f F.TRK_HOME_VALUE_LO_HOME_VALUE k + 2 ^ 32 * s.f F.TRK_HOME_VALUE_HI_HOME_VALUE k)

/-- How many position units make 2^-32 of a cycle (R234). -/
def State.trkDen (s : State) (k : Trk) : Nat :=
  if s.trkSrc k = srcScale ∨ s.trkSrc k = srcTime then 1 else max 1 (s.f F.TRK_PER_CYCLE_PER_CYCLE k)

/-- Change what a tracker holds beside its registers. -/
def Act.setTrk (k : Trk) (f : TrkSt → TrkSt) : Act := .upd fun s => { s with trk := s.trk.set k (f s.trk[k]) }

/-- R216: the advance of module time in one system clock, in units of 2^-32 ns. -/
def State.clockStep (s : State) : Int := Config.clockUnits + signed 32 (s.f F.TIME_RATE_RATE)

/-- R219: the module time at a system clock as it read then, from the anchors of the steps and changes of RATE since. -/
def timeFrom (t : Int) : List (Nat × Nat × Int) → Int
  | [] => t * Config.clockUnits
  | (c, u, r) :: l => if (c : Int) ≤ t then u + (t - c) * (Config.clockUnits + r) else timeFrom t l

/-- The module time at an instant `age` system clocks ago, in units of 2^-32 ns. -/
def State.timeAgo (s : State) (age : Int) : Int :=
  match s.tim.anchors with
  | [] => s.time - age * s.clockStep
  | l => timeFrom (s.clk - age) l

/-- R234: the phase of a TIME tracker at a module time: HOME_VALUE plus FREQ times the elapsed time. -/
def State.timePhase (s : State) (k : Trk) (t : Int) : Int :=
  let freq : Int := s.f F.TRK_PER_CYCLE_PER_CYCLE k
  let d := freq * (t - s.trk[k].t0) / 65536000000000
  if s.b F.TRK_CFG_INVERT k then s.trk[k].pos - d else s.trk[k].pos + d

/-- R229: the phase predicted from the latest source event with the velocity, at system clock `t`: velocity 1 is 2^-16
cycle per second, which is 2^-32 cycle in 2,500 clocks. -/
def State.predict (s : State) (k : Trk) (t : Int) : Int :=
  let x := s.trk[k]
  let den : Int := s.trkDen k
  (x.pos * 2500 + clamp (-2147483648) 2147483647 x.vel * den * (t - x.at_)) / (den * 2500)

/-- R230: the phase never moves against DIR, and an encoder's (R234: and a mains tracker's) stays below its next count. -/
def State.trkPresented (s : State) (k : Trk) : Int :=
  let x := s.trk[k]
  let den : Int := s.trkDen k
  let p := s.predict k s.clk
  let src := s.trkSrc k
  if src = srcTime then s.timePhase k s.time
  else
    let p := if s.trkLock k = lockLocked ∧ (src = srcEncoder ∨ src = srcMains) then
        if s.trkRev k then max p (-((-(x.pos - 4294967296 + 1)) / den)) else min p ((x.pos + 4294967296 - 1) / den)
      else p
    if s.trkRev k then min x.floor p else max x.floor p

/-- R228, R234: the velocity presented, before saturation: an encoder's is limited to one edge over the time since the last
edge, and is 0 when stopped. -/
def State.trkVel (s : State) (k : Trk) : Int :=
  let x := s.trk[k]
  let freq : Int := s.f F.TRK_PER_CYCLE_PER_CYCLE k
  if s.trkSrc k = srcTime then (if s.b F.TRK_CFG_INVERT k then -freq else freq)
  else if s.trkSrc k = srcEncoder then
    if s.b F.TRK_STATUS_STOPPED k then 0
    else if s.clk ≤ x.at_ then x.vel
    else
      let lim := 10737418240000 / (s.trkDen k * (s.clk - x.at_))
      clamp (-lim) lim x.vel
  else x.vel

/-- The presented phase goes into its registers. -/
def Act.setPhase (k : Trk) (p : Int) : Act :=
  .all [.setF F.TRK_PHASE_LO_PHASE (unsigned 64 p) k, .setF F.TRK_PHASE_HI_PHASE (unsigned 64 p / 2 ^ 32) k]

/-- The velocity goes into its register, with VEL_SAT. -/
def Act.setVel (k : Trk) (v : Int) : Act :=
  let c := clamp (-2147483648) 2147483647 v
  .all [.setF F.TRK_VEL_VEL (unsigned 32 c) k, .setB F.TRK_STATUS_VEL_SAT (decide (c ≠ v)) k]

/-- R228, R233: the quantities of one tracker in the present system clock. OFF and LOST freeze the phase; in HOLD the motion
extrapolated beyond 0.25 of a source period clears HOMED (R236). -/
def Act.trkPresent (k : Trk) : Act := .look fun s =>
  let st := s.trkLock k
  if st = lockOff then .skip
  else if st = lockLost then .setVel k 0
  else if st = lockSearch then .all [.setPhase k (s.homeValue k), .setVel k 0]
  else
    let p := s.trkPresented k
    .all [.setPhase k p, .setVel k (s.trkVel k),
      .when (st == lockHold && s.trkSrc k != srcScale &&
          decide (1073741824 < ((p - s.trk[k].holdFrom) * s.trkDen k).natAbs))
        (.setB F.TRK_STATUS_HOMED false k)]

/-- The tracker's scheduler hold of R252 begins. -/
def Act.trkHold (k : Trk) (first : Bool) : Act := .look fun s =>
  .when (first || !s.b F.SCHED_TRK_CFG_HOLD_FIRE k) (.holdTracker k first)

/-- R231: an entry of the history: what is older than 512 ms goes, but for the newest of it. -/
def pruneSegs (now : Int) : List TrkSeg → List TrkSeg
  | [] => []
  | e :: l => if e.at_ < now - 83886080 then [e] else e :: pruneSegs now l

def Act.pushSeg (k : Trk) (t before phase vel : Int) (home : Bool := false) : Act := .look fun s =>
  .setTrk k fun x => { x with segs := pruneSegs s.clk (⟨t, before, phase, vel, home⟩ :: x.segs) }

/-! ### Stamps -/

/-- R231: the phase at an instant from the history: between two events on the line that joins them, after the last one by
its velocity. -/
def segPhase (t : Int) : Option TrkSeg → List TrkSeg → Int
  | none, [] => 0
  | some e, [] => e.before
  | none, e :: l => if e.at_ ≤ t then e.phase + e.vel * (t - e.at_) / 2500 else segPhase t (some e) l
  | some n, e :: l =>
    if e.at_ ≤ t then
      if n.at_ ≤ e.at_ then e.phase else e.phase + (n.before - e.phase) * (t - e.at_) / (n.at_ - e.at_)
    else segPhase t (some e) l

/-- R231: the phase of a tracker at the instant `age` system clocks ago. A TIME tracker's is that of the module time which stood then,
before the homes since. -/
def State.phaseAgo (s : State) (k : Trk) (age : Int) : Int :=
  let x := s.trk[k]
  let t := s.clk - age
  if s.trkSrc k = srcTime ∧ s.trkLock k ≠ lockOff ∧ x.at_ ≤ t then
    s.timePhase k (s.timeAgo age) - ((x.segs.filter fun e => e.home && decide (t < e.at_)).map fun e => e.phase - e.before).sum
  else if x.segs.isEmpty then s.phase k
  else segPhase t none x.segs

/-! ### Jumps and states -/

/-- R232: a jump from `f` to `t` at the instant of module time `at_`; the scheduler takes it from the phase presented
before to the one presented after. -/
def Act.trkJump (k : Trk) (cause : Nat) (f t : Int) (at_ : Int) (before : Int) (count : Bool := true) : Act := .all [
  .setF F.TRK_JUMP_FROM_LO_JUMP_FROM (unsigned 64 f) k, .setF F.TRK_JUMP_FROM_HI_JUMP_FROM (unsigned 64 f / 2 ^ 32) k,
  .setF F.TRK_JUMP_TO_LO_JUMP_TO (unsigned 64 t) k, .setF F.TRK_JUMP_TO_HI_JUMP_TO (unsigned 64 t / 2 ^ 32) k,
  .setF F.TRK_JUMP_TIME_LO_JUMP_TIME (unsigned 64 (at_ / 4294967296)) k,
  .setF F.TRK_JUMP_TIME_HI_JUMP_TIME (unsigned 64 (at_ / 4294967296) / 2 ^ 32) k,
  .setF F.TRK_JUMP_CAUSE_JUMP_CAUSE cause k, .setB F.TRK_STATUS_JUMPED true k,
  .when count (.count F.TRK_STATUS_JUMP_COUNT 1 k),
  .trkPresent k,
  .look fun s => .schedJump k before (s.phase k)]

/-- R233: a tracker takes its first measured value. -/
def Act.trkFirstLock (k : Trk) (t pos : Int) : Act := .look fun s =>
  let p := pos / (s.trkDen k : Int)
  .all [
    .setF F.TRK_STATUS_LOCK lockLocked k,
    .setTrk k fun x => { x with pos := pos, at_ := t, floor := p, hist := [(t, pos)], vel := 0, bad := 0, good := 0 },
    .pushSeg k t (s.phase k) p 0, .trkPresent k, .holdBack k p]

/-- R236: HOLD is entered. LOCK_LOST sets. -/
def Act.trkEnterHold (k : Trk) : Act := .look fun s => .all [
  .trkHold k false,
  .setF F.TRK_STATUS_LOCK lockHold k, .setB F.TRK_STATUS_LOCK_LOST true k,
  .setTrk k fun x => { x with good := 0, holdFrom := x.pos / (s.trkDen k : Int), holdAt := s.clk }, .trkPresent k]

/-- R236: LOST is entered: the phase freezes, velocity 0; SCALE alone keeps HOMED. -/
def Act.trkEnterLost (k : Trk) : Act := .look fun s =>
  let scale := s.trkSrc k == srcScale
  .all [
    .trkPresent k, .trkHold k (!scale),
    .setF F.TRK_STATUS_LOCK lockLost k, .setB F.TRK_STATUS_LOCK_LOST true k,
    .when (!scale) (.setB F.TRK_STATUS_HOMED false k),
    .setTrk k fun x => { x with
      good := 0, bad := 0, hist := [], vel := 0, crossing := none, demod := []
      angle := none },
    .look fun s => .pushSeg k s.clk (s.phase k) (s.phase k) 0, .trkPresent k]

/-- R236: HOLD entry; HOLD_TIME 0 gives LOST at once. -/
def Act.trkLose (k : Trk) : Act := .look fun s =>
  .all [.trkEnterHold k, .when (s.f F.TRK_TIMING_HOLD_TIME k == 0) (.trkEnterLost k)]

/-- R236: the tracker relocks at the measured position. -/
def Act.trkRelock (k : Trk) (t pos : Int) (hist : List (Int × Int)) (vel : Int) : Act := .look fun s =>
  let p := pos / (s.trkDen k : Int)
  let lost := s.trkLock k == lockLost
  let f := if lost then s.phase k else s.predict k t
  let f := if lost then f else if s.trkRev k then min f s.trk[k].floor else max f s.trk[k].floor
  let shown := s.phase k
  .all [
    .setF F.TRK_STATUS_LOCK lockLocked k,
    .setTrk k fun x => { x with pos := pos, at_ := t, floor := p, hist := hist, vel := vel, bad := 0, good := 0 },
    .pushSeg k t f p vel, .trkPresent k,
    .when (f != p) (.trkJump k 2 f p (s.timeAgo (s.clk - t)) shown),
    .holdBack k p]

/-- The velocity over a list of positions: the change across it, in 2^-16 cycle per second. -/
def histVel (den : Nat) (h : List (Int × Int)) : Int :=
  match h.head?, h.getLast? with
  | some (t1, p1), some (t0, p0) => if t1 ≤ t0 then 0 else roundDiv ((p1 - p0) * 2500) (den * (t1 - t0).toNat)
  | _, _ => 0

/-- R230, R234: a source event of a locked tracker moves it to `pos` at instant `t`. Where the source does not give the
velocity, it is that of the last VEL_WIN intervals. -/
def Act.trkMove (k : Trk) (t pos : Int) (vel : Option Int := none) : Act := .look fun s =>
  let x := s.trk[k]
  let den := s.trkDen k
  let p := pos / (den : Int)
  let against := decide (pos ≠ x.pos ∧ (decide (pos < x.pos)) ≠ s.trkRev k)
  let win := s.f F.TRK_TIMING_VEL_WIN k
  let h := if against && s.trkSrc k == srcEncoder then [(t, pos)] else ((t, pos) :: x.hist).take (win + 1)
  let v := vel.getD (histVel den h)
  .all [
    .when against (.all [.setB F.TRK_STATUS_DIR (!s.trkRev k) k, .count F.TRK_COUNTS_REVERSALS 1 k]),
    .setB F.TRK_STATUS_STOPPED false k,
    .setTrk k fun x => { x with pos := pos, at_ := t, floor := if against then p else s.phase k, hist := h, vel := v },
    .pushSeg k t p p v, .trkPresent k]

/-! ### Homing -/

/-- R238: the change of phase by a HOME_NOW applied in system clock `c`. -/
def homeShift (c : Int) (l : List TrkSeg) : Option Int :=
  (l.find? fun e => e.home && e.at_ == c).map fun e => e.phase - e.before

/-- R238: the history without that HOME_NOW. -/
def unhome (c d : Int) : List TrkSeg → List TrkSeg
  | [] => []
  | e :: l => if e.home ∧ e.at_ = c then l else { e with before := e.before - d, phase := e.phase - d } :: unhome c d l

/-- R237: a home event at the instant `age` system clocks ago, 0 for HOME_NOW; `gone` is what a HOME_NOW of this clock, which the event
replaces (R238), has added to the phase. -/
def Act.homeAt (k : Trk) (age : Int) (gone : Option Int) : Act := .look fun s =>
  let x := s.trk[k]
  let t := s.clk - age
  let d0 := gone.getD 0
  let segs := if gone.isSome then unhome s.clk d0 x.segs else x.segs
  let old := if age = 0 then s.trkPresented k
    else if s.trkSrc k = srcTime then s.phaseAgo k age else segPhase t none segs
  let new := if s.b F.TRK_HOME_CFG_KEEP_FRAC k then
      s.homeValue k / 4294967296 * 4294967296 + old % 4294967296
    else s.homeValue k
  let d := new - old - d0
  let dp := d * s.trkDen k
  .all [
    .setTrk k fun x => { x with
      pos := x.pos + dp, org := x.org + dp, offset := x.offset + d, floor := x.floor + d
      hist := x.hist.map (fun e => (e.1, e.2 + dp)), homed := some s.clk, segs := segs },
    .pushSeg k t old new x.vel true,
    .setB F.TRK_STATUS_HOMED true k, .setB F.TRK_STATUS_HOME_DONE true k,
    .when (!s.b F.TRK_HOME_CFG_AUTO_ARM k) (.setB F.TRK_STATUS_ARMED false k),
    .trkJump k 1 old new (s.timeAgo age) (s.phase k) gone.isNone]

/-- R237: a home event; a HOME_NOW and a qualifying edge in one system clock are one, at the edge's instant (R238). -/
def Act.home (k : Trk) (age : Int) : Act := .look fun s =>
  if s.trk[k].homed ≠ some s.clk then .homeAt k age none
  else match homeShift s.clk s.trk[k].segs with
    | some d => .when (age != 0) (.homeAt k age (some d))
    | none => .skip

/-- R237: HOME_DIR allows the present direction. -/
def State.homeAllowed (s : State) (k : Trk) : Bool :=
  s.b F.TRK_STATUS_ARMED k && s.trkLock k == lockLocked && (s.f F.TRK_HOME_CFG_HOME_DIR k).testBit (s.trkRev k).toNat

/-! ### Encoder -/

/-- R18: quadrature edges, comparator levels and pin levels reach the supervisor 12 system clocks after the field instant. -/
abbrev fieldAge : Int := 12

/-- R234: the quadrature count between two levels of A and B: 1 with A leading, −1, or 0. -/
def quadStep (a0 b0 a b : Bool) : Int :=
  if a0 = a ∧ b0 = b then 0 else if (xor a0 b) then -1 else 1

/-- R237: HOME_SRC = Z qualifies an edge: Z is wired, high and not in fail-safe. -/
def State.zQualifies (s : State) (k : Trk) (z : Bool) : Bool :=
  let sel := s.f F.TRK_CFG_SEL_Z k
  s.f F.TRK_HOME_CFG_HOME_SRC k == 1 && s.b F.TRK_CFG_Z_USED k && z &&
  !s.bit F.PIN_DP_STATUS_FS_NOW (sel % 4) (sel / 4 % 4)

/-- R234: A and B have changed. -/
def Act.quadEvent (k : Trk) (a b z : Bool) : Act := .look fun s =>
  let x := s.trk[k]
  let t : Int := s.clk - fieldAge
  let levels := Act.setTrk k fun x => { x with a := a, b := b }
  if a ≠ x.a ∧ b ≠ x.b then .all [levels, .setB F.TRK_STATUS_QERR true k, .count F.TRK_STATUS_QERR_COUNT 1 k,
    .setB F.TRK_STATUS_HOMED false k]
  else
    let d := quadStep x.a x.b a b
    let d := if s.b F.TRK_CFG_INVERT k then -d else d
    .all [levels, .when (d != 0 && s.trkLock k == lockLocked) (.all [
      .trkMove k t (x.pos + d * 4294967296),
      .look fun s => .when (s.zQualifies k z && s.homeAllowed k) (.home k fieldAge)])]

/-! ### Sine and cosine -/

/-- sin of a phase in units of 2^-17 cycle, up to a quarter cycle, with 64 fraction bits. -/
def sinFine (r : Nat) : Int := let x := piFixed * r / 65536; sinSeries x x 1 14

/-- The largest number of half steps of 2^-17 cycle, at most `lo + 2^n − 1`, whose angle the direction (c, s) of the first
quadrant reaches. -/
def angleSearch (c s : Int) (lo : Nat) : Nat → Nat
  | 0 => lo
  | n + 1 =>
    let m := lo + 2 ^ n
    if m ≤ 32768 ∧ c * sinFine m ≤ s * sinFine (32768 - m) then angleSearch c s m n else angleSearch c s lo n

/-- R234: atan2(s, c) in units of 2^-16 period, rounded to nearest. -/
def angle16 (s c : Int) : Nat :=
  let q := fun (c s : Int) => (angleSearch c s 0 16 + 1) / 2
  (if 0 ≤ s ∧ 0 < c then q c s
   else if 0 < s ∧ c ≤ 0 then 16384 + q s (-c)
   else if s ≤ 0 ∧ c < 0 then 32768 + q (-c) (-s)
   else 49152 + q (-s) c) % 65536

/-- R235: the amplitude lies outside 0.15 FS to 1.05 FS (FS is 2^23). -/
def badAmplitude (s c : Int) : Bool :=
  let a := (s * s + c * c) * 10000
  decide (a < 225 * 2 ^ 46 ∨ 11025 * 2 ^ 46 < a)

/-- The amplitude in units of 2^-16 FS. -/
def amplitude16 (s c : Int) : Nat := min 65535 (Nat.sqrt ((s * s + c * c).natAbs / 2 ^ 14))

/-- The phase advance of a DDS engine for each conversion-clock edge, in units of 2^-48 cycle divided by 10^8. -/
def State.ddsRate (s : State) (g : Grp) (e : DdsE) : Int :=
  if s.ddsFollows g e then (s.ddsE g e).step else (s.ddsFtw g e : Int) * 100000000

/-- R234: the sine of a resolver's DDS phase plus CARRIER at an instant `age` system clocks ago, from −32,767 to 32,767. -/
def State.carrier (s : State) (k : Trk) (age : Int) : Int :=
  let n := s.f F.TRK_CFG_SEL_Z k
  let g : Grp := ⟨n / 4 % 4, Nat.mod_lt _ (by decide)⟩
  let e : DdsE := ⟨n % 4, Nat.mod_lt _ (by decide)⟩
  let back := s.ddsRate g e * (age * 625 / 1024) / 100000000
  ddsWave (((s.ddsPhase g e : Int) - back + s.f F.TRK_CARRIER_CARRIER k * 4294967296) % 281474976710656).toNat

/-- R234: the events of the last whole carrier period. -/
def State.carrierWindow (s : State) (k : Trk) (t : Int) (l : List (Int × Int × Int)) : List (Int × Int × Int) :=
  let n := s.f F.TRK_CFG_SEL_Z k
  let r := (s.ddsRate ⟨n / 4 % 4, Nat.mod_lt _ (by decide)⟩ ⟨n % 4, Nat.mod_lt _ (by decide)⟩).natAbs
  l.filter fun e => decide ((t - e.1) * 625 * r < 281474976710656 * 100000000 * 1024)

/-- R235: a bad pair is skipped; the fourth in a row gives HOLD. -/
def Act.badPair (k : Trk) : Act := .look fun s => .all [
  .setTrk k fun x => { x with bad := min (x.bad + 1) 255, good := 0 },
  .when (s.trkLock k == lockLocked && decide (3 ≤ s.trk[k].bad)) (.trkLose k)]

/-- R235, R236: a pair of sin and cos, taken as demodulated; `few` where fewer than 8 events make it bad. -/
def Act.pairEvent (k : Trk) (sn cs : Int) (bad : Bool) (t : Int) : Act := .look fun s =>
  let x := s.trk[k]
  let st := s.trkLock k
  let th := angle16 sn cs
  let th := if s.b F.TRK_CFG_INVERT k then (65536 - th) % 65536 else th
  let turn : Option Int := x.angle.map fun a => ((th : Int) - a + 32768) % 65536 - 32768
  let far := match turn with
    | some d => decide (16384 < d.natAbs)
    | none => false
  .all [
    .setF F.TRK_AMPL_AMPL (amplitude16 sn cs) k,
    if bad || badAmplitude sn cs || far then .badPair k
    else
      let step := turn.getD 0 * 65536
      let keep := Act.setTrk k fun x => { x with angle := some th, bad := 0 }
      if st = lockLocked then .all [keep, .trkMove k t (x.pos + step)]
      else
        let run := if x.good = 0 then [(t, (0 : Int))]
          else ((t, ((x.hist.head?).map Prod.snd).getD 0 + step) :: x.hist).take (s.f F.TRK_TIMING_VEL_WIN k + 1)
        if x.good + 1 < 8 then .all [keep, .setTrk k fun x => { x with good := x.good + 1, hist := run }]
        else if st = lockHold then
          let e := s.predict k t * s.trkDen k
          let m := x.org + (th : Int) * 65536
          let pos := m + roundDiv (e - m) 4294967296 * 4294967296
          let h := run.map fun r => (r.1, r.2 + pos - ((run.head?).map Prod.snd).getD 0)
          .all [keep, .trkRelock k t pos h (histVel (s.trkDen k) h)]
        else
          let base := (if st = lockLost then s.phase k else s.homeValue k) * s.trkDen k
          .all [keep, .setTrk k fun x => { x with org := base }, .trkFirstLock k t (base + (th : Int) * 65536)]]

/-- R234: a converter's output, or a filtered sample (`taps`), sets out to the trackers that take it: instant, arrival, value, whether it
carries OVR, SETTLE or FAIL, output period. -/
def Act.trkFeed (conv : Nat) (taps : Bool) (t : Int) (due : Nat) (x : Int) (flagged : Bool) (period : Nat) : Act :=
  .each (List.finRange 4) fun k => .look fun s =>
    let pair := s.trkSrc k == srcSincos || s.trkSrc k == srcResolver
    let a := s.f F.TRK_CFG_SEL_A k == conv
    let b := pair && s.f F.TRK_CFG_SEL_B k == conv
    .when (s.trkLock k != lockOff && ((s.trkSrc k == srcScale && !taps && a) || (pair && s.b F.TRK_CFG_TAPS k == taps && (a || b))))
      (.setTrk k fun y => { y with inbox := y.inbox ++ [⟨t, due, x, flagged, b, period⟩], lastIn := s.clk, spacing := period })

/-- R234: sin at instant `t` on the line between two outputs. -/
def lineAt (l h : TrkIn) (t : Int) : Int :=
  if h.at_ ≤ l.at_ then l.x else l.x + roundDiv ((h.x - l.x) * (t - l.at_)) (h.at_ - l.at_).toNat

/-- R234, R235: the next cos event of a tracker, with sin at its instant and whether either output carries OVR, SETTLE or FAIL; no sin where
sin has no output on either side within one output period. None while the pair is not complete. -/
def State.nextPair (s : State) (k : Trk) : Option (TrkIn × Option Int × Bool) :=
  let l := s.trk[k].inbox
  match l.find? TrkIn.cos with
  | none => none
  | some c =>
    let near := l.filter fun e => !e.cos && decide (e.due ≤ s.clk ∧ (e.at_ - c.at_).natAbs ≤ c.period)
    if s.clk < c.due then none
    else match (near.filter fun e => decide (e.at_ ≤ c.at_)).getLast?, near.find? fun e => decide (c.at_ ≤ e.at_) with
      | some a, some b => some (c, some (lineAt a b c.at_), c.flagged || a.flagged || b.flagged)
      | _, _ => if c.due + c.period ≤ s.clk then some (c, none, true) else none

/-- R234, R235: a SINCOS or RESOLVER tracker takes its next pair. -/
def Act.sincosEvent (k : Trk) : Act := .look fun s =>
  match s.nextPair k with
  | none => .skip
  | some (c, sn, flagged) =>
    (Act.setTrk k fun x => { x with
      inbox := (x.inbox.erase c).filter fun e => e.cos || decide (c.at_ - c.period ≤ e.at_) }).andThen <|
    match sn with
    | none => .badPair k
    | some v =>
      if s.trkSrc k = srcSincos then .pairEvent k v c.x flagged c.at_
      else
        let w := s.carrier k (s.clk - c.at_)
        let l := s.carrierWindow k c.at_ ((c.at_, v * w, c.x * w) :: s.trk[k].demod)
        let n := 32767 * l.length
        .all [
          .setTrk k fun x => { x with demod := l },
          .pairEvent k (roundDiv (l.map (fun e => e.2.1)).sum n) (roundDiv (l.map (fun e => e.2.2)).sum n)
            (flagged || decide (l.length < 8)) c.at_]

/-! ### Mains and scale -/

/-- R234: the filtered level of comparator `n` of the module. -/
def State.cmpLevelOf (s : State) (n : Nat) : Bool := s.cmpF ⟨n / 16 % 4, Nat.mod_lt _ (by decide)⟩ (n % 16)

/-- 1 / (period × PER_CYCLE) in 2^-16 cycle per second. -/
def State.mainsSpeed (s : State) (k : Trk) (period : Nat) : Int := roundDiv 10737418240000 (s.trkDen k * period)

/-- R236: a crossing `d` system clocks after the last one marks the whole period nearest to the extrapolated phase. -/
def Act.mainsRelock (k : Trk) (t : Int) (d : Nat) : Act := .look fun s =>
  let x := s.trk[k]
  let n := roundDiv (s.predict k t * s.trkDen k - x.pos) 4294967296
  let p := if 0 < n then d / n.toNat else x.period
  .all [.setTrk k fun x => { x with period := p }, .trkRelock k t (x.pos + n * 4294967296) [] (s.mainsSpeed k p)]

/-- R234, R236: a crossing of the level that a MAINS tracker counts. No crossing within 1.25 of the last period is HOLD; periods lie between
1 ms and 100 ms, and a crossing that makes another is rejected as an early one is. -/
def Act.crossingEvent (k : Trk) (rising : Bool) : Act := .look fun s =>
  let x := s.trk[k]
  let t : Int := s.clk - fieldAge
  let st := s.trkLock k
  let mark := Act.setTrk k fun x => { x with crossing := some t }
  if rising = s.b F.TRK_CFG_INVERT k ∨ rising ≠ s.cmpLevelOf (s.f F.TRK_CFG_SEL_A k) then .skip
  else match x.crossing with
    | none => mark
    | some c =>
      let d := (t - c).toNat
      let good := decide (163840 ≤ d ∧ d ≤ 16384000)
      if st = lockSearch ∨ st = lockLost then .all [mark, .when good (.all [
        .trkFirstLock k t ((if st = lockLost then s.phase k else s.homeValue k) * s.trkDen k),
        .setTrk k fun x => { x with period := d, vel := s.mainsSpeed k d }, .trkPresent k])]
      else if 4 * d < 3 * x.period || (st == lockLocked && !good) then .count F.TRK_COUNTS_REJECTS 1 k
      else if st = lockHold then .all [mark, .mainsRelock k t d]
      else if 5 * x.period < 4 * d then .all [.trkLose k, .look fun s => .when (s.trkLock k == lockHold) (.all [mark, .mainsRelock k t d])]
      else .all [mark, .setTrk k fun x => { x with period := d }, .trkMove k t (x.pos + 4294967296) (some (s.mainsSpeed k d))]

/-- R234, R236: a SCALE tracker takes the next output of its converter. -/
def Act.scaleEvent (k : Trk) : Act := .look fun s =>
  match s.trk[k].inbox with
  | [] => .skip
  | e :: l => .when (decide (e.due ≤ s.clk)) <|
    (Act.setTrk k fun x => { x with inbox := l }).andThen <|
    let gain := signed 32 (s.f F.TRK_PER_CYCLE_PER_CYCLE k)
    let pos := e.x * (if s.b F.TRK_CFG_INVERT k then -gain else gain) + s.trk[k].offset
    if e.flagged then .all [
      .setTrk k fun x => { x with bad := min (x.bad + 1) 255 },
      .when (s.trkLock k == lockLocked && decide (3 ≤ s.trk[k].bad)) (.trkLose k)]
    else if s.trkLock k = lockLocked then .all [.setTrk k fun x => { x with bad := 0 }, .trkMove k e.at_ pos]
    else .when (s.trkLock k != lockSearch) (.trkRelock k e.at_ pos [(e.at_, pos)] 0)

/-- R237: the level of the comparator or general pin that HOME_SRC and HOME_SEL name. -/
def State.homeLevel (s : State) (k : Trk) : Bool :=
  let n := s.f F.TRK_HOME_CFG_HOME_SEL k
  if s.f F.TRK_HOME_CFG_HOME_SRC k = 2 then s.cmpLevelOf n else s.bit F.PIN_LEVEL_LEVEL (n % 16) (n / 16 % 4)

/-- R229: a source event of tracker k; one that the tracker's source does not take changes nothing. -/
def Act.trkEvent (k : Trk) (ev : TrkEvent) : Act := .look fun s =>
  let src := s.trkSrc k
  .when (s.trkLock k != lockOff) <| match ev with
    | .quad a b z => .when (src == srcEncoder) (.quadEvent k a b z)
    | .pair => .when (src == srcSincos || src == srcResolver) (.sincosEvent k)
    | .crossing rising => .when (src == srcMains) (.crossingEvent k rising)
    | .output => .when (src == srcScale) (.scaleEvent k)
    | .home rising => .when (decide (2 ≤ s.f F.TRK_HOME_CFG_HOME_SRC k) && rising != s.b F.TRK_HOME_CFG_HOME_EDGE k &&
        rising == s.homeLevel k && s.homeAllowed k) (.home k fieldAge)

/-- R234, R235, R236: the source gives no good event any more: the fourth bad pair or skipped output; no crossing within 1.25 of the last
period; no output of a converter for four output periods. -/
def State.sourceSilent (s : State) (k : Trk) : Bool :=
  let x := s.trk[k]
  if s.trkSrc k = srcMains then match x.crossing with
    | some c => decide (5 * (x.period : Int) < 4 * (s.clk - fieldAge - c))
    | none => false
  else decide (srcSincos ≤ s.trkSrc k ∧ s.trkSrc k ≤ srcScale) &&
    (decide (4 ≤ x.bad) || decide (0 < x.spacing ∧ x.lastIn + 4 * x.spacing ≤ s.clk))

/-- R236: the source is gone: HOLD. -/
def Act.trkHoldEntry (k : Trk) : Act := .look fun s => .when (s.trkLock k == lockLocked && s.sourceSilent k) (.trkLose k)

/-- R236: HOLD_TIME passes. -/
def Act.trkHoldTimeout (k : Trk) : Act := .look fun s =>
  .when (s.trkLock k == lockHold && decide (s.trk[k].holdAt + s.f F.TRK_TIMING_HOLD_TIME k * 163840 ≤ s.clk)) (.trkEnterLost k)

/-- R234: differential pair `n` of the module is valid and has been so, or has been in fail-safe (`lost`), for `clocks` system clocks. -/
def State.pairFor (s : State) (n : Nat) (lost : Bool) (clocks : Nat) : Bool :=
  let g : Grp := ⟨n / 4 % 4, Nat.mod_lt _ (by decide)⟩
  s.alive g && s.bit F.PIN_DP_STATUS_FS_NOW (n % 4) g == lost &&
  decide ((s.pin g ⟨16 + n % 4, by have := Nat.mod_lt n (by decide : 4 > 0); omega⟩).extAt + clocks ≤ s.clk)

/-- R234: a pair of an encoder is in fail-safe for more than 1 µs. -/
def Act.encoderLost (k : Trk) : Act := .look fun s =>
  .when (s.trkSrc k == srcEncoder && s.trkLock k == lockLocked &&
    (s.pairFor (s.f F.TRK_CFG_SEL_A k) true 164 || s.pairFor (s.f F.TRK_CFG_SEL_B k) true 164)) (.trkEnterLost k)

/-- R234: both pairs of an encoder are valid; after LOST for 1 ms. -/
def Act.encoderLock (k : Trk) : Act := .look fun s =>
  let st := s.trkLock k
  let for_ := if st = lockLost then 163840 else 0
  .when (s.trkSrc k == srcEncoder && (st == lockSearch || st == lockLost) &&
      s.pairFor (s.f F.TRK_CFG_SEL_A k) false for_ && s.pairFor (s.f F.TRK_CFG_SEL_B k) false for_)
    (.trkFirstLock k s.clk ((if st = lockLost then s.phase k else s.homeValue k) * s.trkDen k))

/-- R230, R234: no edge for STOP_TIME: velocity 0; the phase stays where it was presented. -/
def Act.encoderStop (k : Trk) : Act := .look fun s =>
  let p := s.trkPresented k
  .when (s.trkSrc k == srcEncoder && s.trkLock k == lockLocked &&
      decide (s.trk[k].at_ + s.f F.TRK_TIMING_STOP_TIME k * 16384 ≤ s.clk)) (.all [
    .setB F.TRK_STATUS_STOPPED true k, .setTrk k fun x => { x with vel := 0, floor := p }, .pushSeg k s.clk p p 0, .trkPresent k])

/-! ### Registers -/

/-- A refused write to the TIME and TIDE blocks. -/
def Act.tideRefuse : Act := .refuse F.TIDE_REFUSED_COUNT

/-- A converter number that R239 allows. -/
def goodConv (n : Nat) : Bool := decide (n ≤ 35) && n % 9 != 8

/-- R239: the configuration is valid. -/
def State.trkValid (s : State) (k : Trk) : Bool :=
  let src := s.trkSrc k
  let a := s.f F.TRK_CFG_SEL_A k
  let b := s.f F.TRK_CFG_SEL_B k
  let per := s.f F.TRK_PER_CYCLE_PER_CYCLE k
  decide (1 ≤ src ∧ src ≤ 6) && per != 0 && (src != srcTime || decide (per ≤ 0x7FFFFFFF)) &&
  s.f F.TRK_TIMING_VEL_WIN k != 0 &&
  (!(src == srcSincos || src == srcResolver) || (goodConv a && goodConv b && a != b)) && (src != srcScale || goodConv a)

/-- R233: ENABLE is set: SEARCH at HOME_VALUE. -/
def Act.trkStart (k : Trk) : Act := .look fun s =>
  let hv := s.homeValue k
  .all [
    .setB F.TRK_CTRL_ENABLE true k,
    .setTrk k fun x => { pos := hv * s.trkDen k, at_ := s.clk, floor := hv, hist := [], vel := 0, a := false, b := false,
                         bad := 0, good := 0, angle := none, org := 0, crossing := none, period := 0, offset := 0,
                         t0 := s.time, demod := [], inbox := [], lastIn := s.clk, spacing := 0, sinD := .clear, cosD := .clear
                         holdFrom := 0, holdAt := 0, homed := none, segs := x.segs },
    .pushSeg k s.clk (s.phase k) hv 0,
    .setF F.TRK_STATUS_LOCK lockSearch k, .setB F.TRK_STATUS_HOMED false k, .setB F.TRK_STATUS_STOPPED false k,
    .setB F.TRK_STATUS_DIR (s.trkSrc k == srcTime && s.b F.TRK_CFG_INVERT k) k,
    .trkHold k true, .trkPresent k]

/-- R233: TIME and SCALE lock in the system clock after ENABLE, homed. -/
def Act.trkAbsolute (k : Trk) : Act := .look fun s =>
  .when (s.trkLock k == lockSearch && (s.trkSrc k == srcTime || s.trkSrc k == srcScale)) (.all [
    .setF F.TRK_STATUS_LOCK lockLocked k, .setB F.TRK_STATUS_HOMED true k, .trkPresent k, .look fun s => .holdBack k (s.phase k)])

/-- R233: ENABLE is cleared: phase and velocity freeze. -/
def Act.trkStop (k : Trk) : Act := .look fun s => .all [
  .trkPresent k, .trkHold k true, .setB F.TRK_CTRL_ENABLE false k, .setF F.TRK_STATUS_LOCK lockOff k,
  .look fun t => .pushSeg k s.clk (t.phase k) (t.phase k) 0]

/-- R233, R237 to R240: a write of TRK.CTRL, refused whole where a part is refused. -/
def Act.trkCtrl (k : Trk) (v : Word) : Act := .look fun s =>
  let on := F.TRK_CTRL_ENABLE.of v == 1
  let was := s.b F.TRK_CTRL_ENABLE k
  let home := F.TRK_CTRL_HOME_NOW.of v == 1
  let arm := F.TRK_CTRL_ARM.of v == 1
  let locked := on && was && s.trkLock k == lockLocked
  if (on && !was && (!s.released || !s.trkValid k)) || (home && !locked) || (arm && s.f F.TRK_HOME_CFG_HOME_SRC k == 0) then
    .tideRefuse
  else .all [
    .when (on && !was) (.trkStart k), .when (!on && was) (.trkStop k),
    .when home (.home k 0),
    .when (F.TRK_CTRL_DISARM.of v == 1) (.setB F.TRK_STATUS_ARMED false k),
    .when arm (.setB F.TRK_STATUS_ARMED true k), .accept]

/-- R238: CFG, PER_CYCLE, TIMING, HOME_CFG and CARRIER may not change while the tracker is enabled. -/
def Act.trkConfig (n : RegName) (k : Trk) (v : Word) : Act := .look fun s =>
  if s.b F.TRK_CTRL_ENABLE k then .tideRefuse else .all [.setR n v k, .accept]

/-! ### Modes, groups and module time -/

/-- The group of a converter number. -/
def convGroup (n : Nat) : Nat := n / 9 % 4

/-- A converter's stream feeds an enabled limit monitor (R53). -/
def State.feedsMonitor (s : State) (conv : Nat) : Bool :=
  s.enabledMonitors.any fun m => !s.b F.MON_CFG_KIND m && s.f F.MON_CFG_SRC m == conv

/-- R240: the converters that a tracker's source takes outputs of. -/
def State.trkConverters (s : State) (k : Trk) : List Nat :=
  let src := s.trkSrc k
  let a := s.f F.TRK_CFG_SEL_A k
  let b := s.f F.TRK_CFG_SEL_B k
  if src = srcScale then [a] else if src = srcSincos ∨ src = srcResolver then [a, b] else []

/-- R240: PARKED takes the source of a tracker away whose converters stop, with their modulators (R167); REDUCED takes the outputs away. -/
def Act.trkModes : Act := .each (List.finRange 4) fun k => .look fun s =>
  let convs := s.trkConverters k
  .when (s.trkLock k == lockLocked &&
      ((s.mode parked && (s.trkSrc k == srcResolver || convs.any (fun n => !s.feedsMonitor n))) ||
       (s.mode reducedMode && convs != [] && (s.trkSrc k == srcScale || !s.b F.TRK_CFG_TAPS k))))
    (.trkLose k)

/-- R240: a group is lost: the sources in it see no events. -/
def Act.trkGroupLost (g : Grp) : Act := .each (List.finRange 4) fun k => .look fun s =>
  let src := s.trkSrc k
  let a := s.f F.TRK_CFG_SEL_A k
  let b := s.f F.TRK_CFG_SEL_B k
  let hit := if src = srcEncoder then a / 4 % 4 == g.val || b / 4 % 4 == g.val
    else if src = srcMains then a / 16 % 4 == g.val
    else (s.trkConverters k).any (fun n => convGroup n == g.val)
  .when (s.trkLock k == lockLocked && hit) (if src = srcEncoder then .trkEnterLost k else .trkLose k)

/-- R220, R232: module time has stepped: every TIME tracker jumps. `before` are the phases just before the step. -/
def Act.trkTimeStep (before : Vector Int 4) : Act := .each (List.finRange 4) fun k => .look fun s =>
  .when (s.trkSrc k == srcTime && s.trkLock k == lockLocked) <|
    let t := s.timePhase k s.time
    .all [.pushSeg k s.clk before[k] t 0, .when (before[k] != t) (.trkJump k 3 before[k] t s.time before[k])]

/-- The phases of the trackers by module time. -/
def State.timePhases (s : State) : Vector Int 4 := Vector.ofFn fun k => s.timePhase k s.time

/-- R228, R233: every tracker presents its quantities; TIME and SCALE lock. -/
def Act.trksPresent : Act := .each (List.finRange 4) fun k => .all [.trkAbsolute k, .trkPresent k]

/-! ### The commands -/

def execTrackerEnable (src : Src) (k : Trk) (v : Word) (s : State) := (Act.writeTo src .TRK_CTRL k 0 0 (Act.trkCtrl k v)).done s
def execHomeNow (src : Src) (k : Trk) (v : Word) (s : State) := (Act.writeTo src .TRK_CTRL k 0 0 (Act.trkCtrl k v)).done s
def execHomeArm (src : Src) (k : Trk) (v : Word) (s : State) := (Act.writeTo src .TRK_CTRL k 0 0 (Act.trkCtrl k v)).done s
def execHomeDisarm (src : Src) (k : Trk) (v : Word) (s : State) := (Act.writeTo src .TRK_CTRL k 0 0 (Act.trkCtrl k v)).done s
def execTrackerSourceEvent (k : Trk) (ev : TrkEvent) (s : State) := (Act.trkEvent k ev).done s
def execTrackerHoldEntry (k : Trk) (s : State) := (Act.trkHoldEntry k).done s
def execTrackerHoldTimeout (k : Trk) (s : State) := (Act.trkHoldTimeout k).done s
def execEncoderFailsafeLost (k : Trk) (s : State) := (Act.encoderLost k).done s
def execEncoderValidLock (k : Trk) (s : State) := (Act.encoderLock k).done s
def execEncoderStopTimeout (k : Trk) (s : State) := (Act.encoderStop k).done s

end Sys2Proof.Machine
end

