-- ==== Sys2Proof/Machine/Time.lean ====
section
/-! DEFINITION. Module time (R216 to R220), the PTP port of the head (R221 to R223), time over the ring (R224 to R226) and
the pulses (R227). -/

namespace Sys2Proof.Machine

/-- The states of TIME.STATE. -/
abbrev timeFree : Nat := 0
abbrev timeAcquiring : Nat := 1
abbrev timeLocked : Nat := 2
abbrev timeHoldover : Nat := 3

/-- Change what module time holds beside its registers. -/
def Act.setTim (f : TimeSt → TimeSt) : Act := .upd fun s => { s with tim := f s.tim }

/-- The module is the head (R392). -/
def State.head (s : State) : Bool := s.b F.SYS_INST_HEAD

/-- What is older than sixteen seconds goes, but for the newest of it. -/
def pruneAnchors (now : Nat) : List (Nat × Nat × Int) → List (Nat × Nat × Int)
  | [] => []
  | a :: l => if a.1 + 2621440000 < now then [a] else a :: pruneAnchors now l

/-- R219: the present module time and RATE are remembered, for stamps of earlier instants. -/
def Act.anchor : Act := .look fun s => .setTim fun t => { t with
  anchors := (s.clk, s.time, signed 32 (s.f F.TIME_RATE_RATE)) :: pruneAnchors s.clk t.anchors }

/-- R216, R224, R227: module time counts on one system clock; where it reaches a whole second or millisecond by that, the clock is kept. -/
def State.clockTurn (s : State) : State :=
  let t := s.time + s.clockStep.toNat
  let reached := fun (p : Nat) (old : Option Nat) => if s.time / (p * 4294967296) < t / (p * 4294967296) then some (s.clk + 1) else old
  { s with clk := s.clk + 1, time := t
           tim := { s.tim with second := reached 1000000000 s.tim.second, milli := reached 1000000 s.tim.milli } }

/-- R217: module time steps by `d` ns: LAST_STEP and STEP_STAMP record it, trackers and time contexts meet it (R220). -/
def Act.timeStep (d : Int) : Act := .look fun s =>
  let old := s.ns
  let before := s.timePhases
  let t := ((s.time : Int) + d * 4294967296) % (79228162514264337593543950336 : Int)
  let ns := t.toNat / 4294967296
  .all [
    .upd fun s => { s with time := t.toNat }, .anchor,
    .setF F.TIME_LAST_STEP_LO_LAST_STEP (unsigned 64 d), .setF F.TIME_LAST_STEP_HI_LAST_STEP (unsigned 64 d / 2 ^ 32),
    .setF F.TIME_STEP_STAMP_LO_STEP_STAMP ns, .setF F.TIME_STEP_STAMP_HI_STEP_STAMP (ns / 2 ^ 32),
    .setB F.TIME_EVENTS_STEPPED true, .count F.TIME_EVENTS_STEPS,
    .trkTimeStep before, .schedTimeStep old ns]

/-- TIME.RATE takes a value, which the mean of R222 remembers. -/
def Act.setRate (r : Int) : Act := .all [
  .setF F.TIME_RATE_RATE (unsigned 32 r),
  .setTim fun t => { t with rates := (r :: t.rates).take 16 }, .anchor]

/-- R222, R225: a discipline slews by its loop. The spec gives the loop's bandwidth and bounds, not its gains: the new RATE
is a free value within ±5,242,880. -/
def Act.slew : Act := .fresh fun v => .setRate (clamp (-5242880) 5242880 (signed 32 v.toNat))

/-- TIME.STATE.STATE takes a value; LOCKED and HOLDOVER set their events. -/
def Act.timeState (n : Nat) : Act := .look fun s => .all [
  .setF F.TIME_STATE_STATE n,
  .when (n == timeLocked && s.f F.TIME_STATE_STATE != timeLocked) (.setB F.TIME_EVENTS_LOCKED true),
  .when (n == timeHoldover && s.f F.TIME_STATE_STATE != timeHoldover) (.setB F.TIME_EVENTS_HOLDOVER true)]

/-- The mean of a list of integers, rounded to nearest. -/
def meanOf (l : List Int) : Int := roundDiv l.sum l.length

/-- R222: HOLDOVER: RATE is frozen at the mean of its last 16 values. -/
def Act.holdover : Act := .look fun s => .all [
  .timeState timeHoldover,
  .when (s.tim.rates != []) (.all [.setF F.TIME_RATE_RATE (unsigned 32 (meanOf s.tim.rates)), .anchor]),
  .setTim fun t => { t with near := 0, far := 0, fresh := true }]

/-- R222, R225: an offset counts towards the lock: LOCKED after 16 in a row within `near` ns, and, for the head's servo,
ACQUIRING after 16 in a row beyond `far` ns. -/
def Act.lockCount (d near : Int) (far : Option Int) : Act := .look fun s =>
  let n := if d.natAbs ≤ near.natAbs then min (s.tim.near + 1) 16 else 0
  let m := match far with
    | some x => if x.natAbs < d.natAbs then min (s.tim.far + 1) 16 else 0
    | none => 0
  .all [
    .setTim fun t => { t with near := n, far := m },
    .when (n == 16 && s.f F.TIME_STATE_STATE == timeAcquiring) (.timeState timeLocked),
    .when (m == 16 && s.f F.TIME_STATE_STATE == timeLocked) (.timeState timeAcquiring)]

/-- TIME.OFFSET takes a measured offset, saturating. -/
def Act.setOffset (d : Int) : Act := .setF F.TIME_OFFSET_OFFSET (unsigned 32 (clamp (-2147483648) 2147483647 d))

/-! ### PTP -/

/-- R222: a new offset of the master from module time. -/
def Act.ptpOffset (d : Int) : Act := .look fun s =>
  let limit : Int := s.f F.TIME_CTRL_STEP_THRESH * 1000
  (Act.setOffset d).andThen <| .when (s.mode disciplined) <|
    (Act.when (s.f F.TIME_STATE_STATE == timeHoldover) (.timeState timeAcquiring)).andThen <|
    if limit < d.natAbs ∧ !s.b F.TIME_CTRL_SLEW_ONLY then .all [
      .timeStep d, .timeState timeAcquiring, .setTim fun t => { t with near := 0, far := 0 }]
    else .all [.slew, .lockCount d 100 (some 1000)]

/-- The port states of TIME.PTP_STATUS. -/
abbrev ptpListening : Nat := 4
abbrev ptpUncalibrated : Nat := 8
abbrev ptpSlave : Nat := 9

/-- R222: PORT_STATE takes a value: the servo is in HOLDOVER from leaving SLAVE on, and ACQUIRING from the return on. -/
def Act.ptpPort (n : Nat) : Act := .look fun s =>
  let old := s.f F.TIME_PTP_STATUS_PORT_STATE
  let st := s.f F.TIME_STATE_STATE
  .all [
    .setF F.TIME_PTP_STATUS_PORT_STATE n,
    .when (s.mode disciplined && old == ptpSlave && n != ptpSlave && st != timeHoldover) .holdover,
    .when (s.mode disciplined && old != ptpSlave && n == ptpSlave && st == timeHoldover) (.timeState timeAcquiring)]

/-- The interval of Announce messages in system clocks: 2^log seconds. -/
def announceClocks (log : BitVec 8) : Nat :=
  if 0 ≤ log.toInt then 163840000 * 2 ^ log.toInt.toNat else 163840000 / 2 ^ (-log.toInt).toNat

/-- R221: the announce receipt timeout, in system clocks, at a rate of Announce messages. -/
def State.receiptClocks (s : State) (log : BitVec 8) : Nat := s.f F.TIME_PTP_CFG_ANN_TIMEOUT * announceClocks log

/-- R221: the time stamp of an event message: a resolution of 8 ns. -/
def State.ptpStamp (s : State) : Int := (s.ns - s.ns % 8 : Nat)

/-- R221: an offset measurement is complete: origin t1 and receipt t2, with the path delay known. -/
def Act.ptpMeasure (t1 t2 : Int) : Act := .look fun s => .all [
  .setTim fun t => { t with last := some (t1, t2) },
  .when s.tim.delayKnown (.all [
    .ptpPort ptpSlave,
    .ptpOffset (t1 + s.f F.TIME_PTP_DELAY_DELAY - t2)])]

/-- A path delay is measured. -/
def Act.ptpDelay (d : Int) : Act := .all [
  .setF F.TIME_PTP_DELAY_DELAY (clamp 0 4294967295 d).toNat,
  .setTim fun t => { t with delayKnown := true, req := none, resp := none }]

/-- The order of the default best master clock algorithm on the ranks of Announce messages. -/
def rankLess : List Nat → List Nat → Bool
  | [], _ => false
  | _, [] => false
  | a :: l, b :: m => decide (a < b) || (a == b && rankLess l m)

/-- R221: the best foreign master that is qualified (two Announce messages). -/
def bestMaster (l : List PtpMaster) : Option PtpMaster :=
  (l.filter (fun m => decide (2 ≤ m.seen))).foldl (fun b m => match b with
    | some c => if rankLess m.rank c.rank then some m else b
    | none => some m) none

/-- The clockIdentity of the parent. -/
def State.parent (s : State) : Nat :=
  s.f F.TIME_PTP_PARENT_LO_PARENT + 2 ^ 32 * s.f F.TIME_PTP_PARENT_HI_PARENT

/-- R221: the exchange of messages with a master begins anew. -/
def Act.ptpAnew : Act := .setTim fun t => { t with sync := none, last := none, req := none, resp := none, delayKnown := false }

/-- R221, R222: the best qualified master becomes the parent; without one the port listens. -/
def Act.ptpElect : Act := .look fun s =>
  match bestMaster s.tim.masters with
  | none => .when (decide (ptpUncalibrated ≤ s.f F.TIME_PTP_STATUS_PORT_STATE)) (.all [.ptpPort ptpListening, .ptpAnew])
  | some b => .all [
      .when (b.from_.toNat != s.parent) (.all [
        .setF F.TIME_PTP_PARENT_LO_PARENT b.from_.toNat, .setF F.TIME_PTP_PARENT_HI_PARENT (b.from_.toNat / 2 ^ 32),
        .setB F.TIME_EVENTS_MASTER_CHANGED true, .ptpAnew]),
      .when (decide (s.f F.TIME_PTP_STATUS_PORT_STATE < ptpUncalibrated)) (.ptpPort ptpUncalibrated),
      .setB F.TIME_STATE_ARB b.arb, .setB F.TIME_STATE_UTC_VALID b.utcValid, .setF F.TIME_STATE_UTC_OFFSET b.utc.toNat]

/-- R221: an Announce message: the master is remembered; it qualifies with its second message within four intervals. -/
def Act.ptpAnnounce (m : PtpMaster) : Act := .look fun s =>
  let seen := match s.tim.masters.find? (fun x => x.from_ == m.from_) with
    | some x => if s.clk ≤ x.at_ + 4 * announceClocks x.log then min (x.seen + 1) 255 else 1
    | none => 1
  (Act.setTim fun t => { t with
    masters := { m with seen := seen, at_ := s.clk } :: t.masters.filter (fun x => x.from_ != m.from_) }).andThen .ptpElect

/-- R221: a master whose Announce messages stay away for the announce receipt timeout. -/
def State.masterGone (s : State) (m : PtpMaster) : Bool := decide (m.at_ + s.receiptClocks m.log ≤ s.clk)

/-- R221: the port in a system clock: an initialized port listens where it has a link, and masters that are gone are forgotten. -/
def Act.ptpTurn : Act := .look fun s => .when s.head (.all [
  .when (s.f F.TIME_PTP_STATUS_PORT_STATE == 1 && s.b F.ETH_STATUS_LINK_UP) (.ptpPort ptpListening),
  .when (s.tim.masters.any s.masterGone) (.all [
    .setTim fun t => { t with masters := t.masters.filter fun m => !s.masterGone m }, .ptpElect])])

/-- R221: the link of S.ETH goes down (`up` false): the port is FAULTY; with a link it starts anew. -/
def Act.ptpLink (up : Bool) : Act := .look fun s => .when s.head (
  if up then .when (s.f F.TIME_PTP_STATUS_PORT_STATE == 2) (.ptpPort 1)
  else .all [.ptpPort 2, .ptpAnew, .setTim fun t => { t with masters := [] }])

/-- The header of a message. -/
def ptpHead : PtpMsg → PtpHead
  | .announce h _ _ _ _ _ _ _ _ _ _ _ => h
  | .sync h _ _ _ _ _ => h
  | .followUp h _ _ _ => h
  | .delayResp h _ _ _ => h
  | .pdelayReq h _ => h
  | .pdelayResp h _ _ _ _ => h
  | .pdelayFollowUp h _ _ _ => h
  | .other h => h

/-- R221: the port takes the messages of its domain and transport; those of a master only from its parent. -/
def Act.ptpReceive (m : PtpMsg) : Act := .look fun s =>
  let h := ptpHead m
  let mine := h.sender.toNat == s.parent && decide (ptpUncalibrated ≤ s.f F.TIME_PTP_STATUS_PORT_STATE)
  let p2p := s.b F.TIME_PTP_CFG_DELAY_MECH
  .when (s.head && s.up && h.domain.toNat == s.f F.TIME_PTP_CFG_DOMAIN && h.transport == s.b F.TIME_PTP_CFG_TRANSPORT) <|
    (Act.when (s.f F.TIME_PTP_STATUS_PORT_STATE == 1) (.ptpPort ptpListening)).andThen <|
    match m with
    | .announce h log p1 c a p2 v gm st utc uv arb => .ptpAnnounce
        ⟨h.sender, [p1.toNat, c.toNat, a.toNat, v.toNat, p2.toNat, gm.toNat, st.toNat, h.sender.toNat], utc, uv, arb, log, 1, s.clk⟩
    | .sync _ seq two log origin corr => .when mine (.all [
        .setTim fun t => { t with syncAt := s.clk },
        .setB F.TIME_PTP_STATUS_TWO_STEP two, .setF F.TIME_PTP_STATUS_LOG_SYNC log.toNat,
        if two then .setTim fun t => { t with sync := some (seq.toNat, s.ptpStamp, corr) }
        else .ptpMeasure (origin.toNat + corr) s.ptpStamp])
    | .followUp _ seq origin corr => .when mine <| match s.tim.sync with
        | some (q, t2, c) => .when (q == seq.toNat) (.all [
            .setTim fun t => { t with sync := none }, .ptpMeasure (origin.toNat + corr + c) t2])
        | none => .skip
    | .delayResp _ seq receipt corr => .when (mine && !p2p) <| match s.tim.req, s.tim.last with
        | some (q, t3), some (t1, t2) => .when (q == seq.toNat) (.ptpDelay (((t2 - t1) + (receipt.toNat - corr - t3)) / 2))
        | _, _ => .skip
    | .pdelayReq _ seq => .when p2p (.send (.ptpPdelayResp seq s.ptpStamp.toNat))
    | .pdelayResp _ seq two receipt corr => .when p2p <| match s.tim.req with
        | some (q, t1) => .when (q == seq.toNat) (
            if two then .setTim fun t => { t with resp := some ((receipt.toNat : Int) + corr, s.ptpStamp) }
            else .ptpDelay ((s.ptpStamp - t1 - corr) / 2))
        | none => .skip
    | .pdelayFollowUp _ seq departure corr => .when p2p <| match s.tim.req, s.tim.resp with
        | some (q, t1), some (t2, t4) => .when (q == seq.toNat) (.ptpDelay (((t4 - t1) - (departure.toNat + corr - t2)) / 2))
        | _, _ => .skip
    | .other _ => .skip

/-- R221: the port measures its path delay: a Delay_Req to a master it follows, or a Pdelay_Req. -/
def Act.ptpRequest : Act := .look fun s =>
  let p2p := s.b F.TIME_PTP_CFG_DELAY_MECH
  .when (s.head && s.up && (p2p || decide (ptpUncalibrated ≤ s.f F.TIME_PTP_STATUS_PORT_STATE))) (.all [
    .send (.ptpRequest p2p s.tim.seq),
    .setTim fun t => { t with req := some (s.tim.seq, s.ptpStamp), resp := none, seq := (s.tim.seq + 1) % 65536 }])

/-- R221: the rate of the parent's Announce messages; without a parent one in 2 s (PRESUMED, log entry 136). -/
def State.announceLog (s : State) : BitVec 8 := ((s.tim.masters.find? fun m => m.from_.toNat == s.parent).map PtpMaster.log).getD 1

/-- R222: no Sync has been accepted for the announce receipt timeout. -/
def Act.ptpTimeout : Act := .look fun s =>
  .when (s.head && s.up && s.mode disciplined && s.f F.TIME_STATE_STATE != timeHoldover &&
    decide (s.tim.syncAt + s.receiptClocks s.announceLog ≤ s.clk)) .holdover

/-- R223: a write of PTP_CFG restarts the port; a LOCKED servo passes to HOLDOVER. The register is reserved on a module
that is not the head. -/
def Act.ptpCfg (v : Word) : Act := .look fun s =>
  let n := F.TIME_PTP_CFG_ANN_TIMEOUT.of v
  if !s.head then .accept
  else if n < 2 ∨ 10 < n then .tideRefuse
  else .all [
    .setR .TIME_PTP_CFG v, .ptpPort 1, .ptpAnew, .setTim fun t => { t with masters := [] },
    .look fun s => .when (s.f F.TIME_STATE_STATE == timeLocked) .holdover, .accept]

/-- R223, R225: DISCIPLINED enters or leaves force. -/
def Act.discipline (on : Bool) : Act :=
  if on then .all [.timeState timeAcquiring, .setTim fun t => { t with near := 0, far := 0, fresh := true }]
  else .timeState timeFree

/-! ### Time over the ring -/

/-- The delay of a port's link, 1/16 ns. -/
def State.hopDelay (s : State) (p : Port) : Nat :=
  match p with
  | .west => s.f F.TIME_HOP_DELAY_WEST
  | .east => s.f F.TIME_HOP_DELAY_EAST

/-- R224, R226, R403: module time has reached a whole millisecond: the head sends a time packet on both ports. -/
def Act.timePacketSend : Act := .look fun s =>
  .when (s.up && s.head && s.tim.milli == some s.clk) (.each [Port.west, Port.east] fun p => .when (s.portUp p) (.enqueue p (timeWords s.ownNumber
    { ns := BitVec.ofNat 64 s.ns, acc := BitVec.ofNat 32 (s.hopDelay p), hops := 1,
      utcValid := s.b F.TIME_STATE_UTC_VALID, arb := s.b F.TIME_STATE_ARB, state := BitVec.ofNat 2 (s.f F.TIME_STATE_STATE),
      utc := BitVec.ofNat 16 (s.f F.TIME_STATE_UTC_OFFSET), residence := 0 })))

/-- R224: the hops from the head in a direction; none where its packets have stayed away for 2 ms. -/
def State.hopsFrom (s : State) (i : Fin 2) : Option Nat := if s.clk ≤ s.tim.heardAt[i] + 327680 then s.tim.heard[i] else none

/-- R224: time is taken from the direction with fewer hops, on a tie from west; from the other where a break has removed the path. -/
def State.timeDirection (s : State) : Port :=
  match s.hopsFrom 0, s.hopsFrom 1 with
  | some w, some e => if w ≤ e then .west else .east
  | none, some _ => .east
  | _, none => .west

/-- R225: module time follows ring time. -/
def Act.ringOffset (d : Int) : Act := .look fun s =>
  let slewOnly := s.b F.TIME_CTRL_SLEW_ONLY
  (Act.setOffset d).andThen <| .when (s.mode disciplined) <|
    (Act.when (s.f F.TIME_STATE_STATE == timeHoldover) (.timeState timeAcquiring)).andThen <|
    (Act.setTim fun t => { t with fresh := false }).andThen <|
    if (s.tim.fresh || decide (1000 < d.natAbs)) && !slewOnly then .all [
      .when (d != 0) (.timeStep d), .setTim fun t => { t with near := 0, far := 0 }]
    else .all [.slew, .lockCount d 20 none]

/-- R403: a module forwards a time packet with its residence time and the delay of the outgoing link added; so does one under reset
(R408). -/
def Act.timeForward (port : Port) (p : TimePkt) : Act := .look fun s =>
  let out := otherPort port
  .when (s.portUp out) (.enqueue out (timeWords (BitVec.ofNat 6 (s.f F.COLYS_RING_HEAD)) { p with
    acc := p.acc + p.residence + BitVec.ofNat 32 (s.hopDelay out), hops := p.hops + 1, residence := 0 }))

/-- R224, R225, R403: a time packet arrives on a port, is forwarded, and steers module time. -/
def Act.timePacket (port : Port) (p : TimePkt) : Act := .look fun s =>
  .when (!s.head) <| (Act.timeForward port p).andThen <| .when s.up <|
    (Act.setTim fun t => { t with
      heard := t.heard.set (portIndex port) (some p.hops.toNat), heardAt := t.heardAt.set (portIndex port) s.clk }).andThen <|
    .look fun s => .when (s.timeDirection == port) (.all [
      .setF F.TIME_RING_HOPS p.hops.toNat, .setF F.TIME_RING_FROM (portIndex port).val,
      .setB F.TIME_STATE_UTC_VALID p.utcValid, .setB F.TIME_STATE_ARB p.arb, .setF F.TIME_STATE_UTC_OFFSET p.utc.toNat,
      .ringOffset (((p.ns.toNat * 16 + p.acc.toNat : Nat) : Int) / 16 - s.ns)])

/-- R225: no time packet has arrived for 10 ms. -/
def Act.ringHoldover : Act := .look fun s =>
  .when (s.up && !s.head && s.mode disciplined && s.f F.TIME_STATE_STATE != timeHoldover &&
    decide (s.tim.heardAt[(0 : Fin 2)] + 1638400 ≤ s.clk ∧ s.tim.heardAt[(1 : Fin 2)] + 1638400 ≤ s.clk)) .holdover

/-! ### Registers and pulses -/

/-- R218: a write of TIME.STEP_HI. -/
def Act.timeStepWrite (v : Word) : Act := .look fun s =>
  if s.mode disciplined then .tideRefuse
  else .all [.timeStep (signed 64 (s.f F.TIME_STEP_LO_STEP + 2 ^ 32 * v.toNat)), .accept]

/-- R216, R218: a write of TIME.RATE. -/
def Act.timeRateWrite (v : Word) : Act := .look fun s =>
  let r := signed 32 v.toNat
  if s.mode disciplined ∨ 5242880 < r.natAbs then .tideRefuse else .all [.setRate r, .accept]

/-- R227: S.PPS_OUT goes low. -/
def Act.ppsLow : Act := .setTim fun t => { t with pps := false }

/-- A write of TIME.CTRL. -/
def Act.timeCtrl (v : Word) : Act :=
  if F.TIME_CTRL_BW.of v = 3 ∨ F.TIME_CTRL_STEP_THRESH.of v = 0 then .tideRefuse
  else .all [.setR .TIME_CTRL v, .when (F.TIME_CTRL_PPS_OUT_EN.of v == 0) .ppsLow, .accept]

/-- R227: module time, counting, has reached a whole second in this system clock: the pulse starts, or starts again. -/
def Act.ppsRise : Act := .look fun s =>
  .when (s.up && s.b F.TIME_CTRL_PPS_OUT_EN && s.tim.second == some s.clk) (.setTim fun t => { t with pps := true, ppsEnd := s.clk + 1638400 })

/-- R227: the pulse ends 1,638,400 system clocks after it last started. -/
def Act.ppsFall : Act := .look fun s => .when (s.tim.pps && decide (s.tim.ppsEnd ≤ s.clk)) .ppsLow

/-- R227: a rising edge at S.PPS_IN. -/
def Act.ppsIn : Act := .look fun s => .when s.up (.all [
  .setF F.TIME_PPS_CAP_LO_PPS_CAP s.ns, .setF F.TIME_PPS_CAP_HI_PPS_CAP (s.ns / 2 ^ 32), .setB F.TIME_EVENTS_PPS_IN true])

/-! ### The commands -/

def execTimeStepWrite (src : Src) (v : Word) (s : State) := (Act.writeTo src .TIME_STEP_HI 0 0 0 (Act.timeStepWrite v)).done s
def execTimeRateWrite (src : Src) (v : Word) (s : State) := (Act.writeTo src .TIME_RATE 0 0 0 (Act.timeRateWrite v)).done s
def execTimeCtrlWrite (src : Src) (v : Word) (s : State) := (Act.writeTo src .TIME_CTRL 0 0 0 (Act.timeCtrl v)).done s
def execPtpMessageReceive (m : PtpMsg) (s : State) := (Act.ptpReceive m).done s
def execPtpHoldoverTimeout (s : State) := Act.ptpTimeout.done s
def execPtpCfgWrite (src : Src) (v : Word) (s : State) := (Act.writeTo src .TIME_PTP_CFG 0 0 0 (Act.ptpCfg v)).done s
def execPtpDelayReqSend (s : State) := Act.ptpRequest.done s
def execTimePacketSend (s : State) := Act.timePacketSend.done s
def execTimePacketReceive (port : Port) (p : TimePkt) (s : State) := (Act.timePacket port p).done s
def execRingTimeHoldover (s : State) := Act.ringHoldover.done s
def execPpsOutRise (s : State) := Act.ppsRise.done s
def execPpsOutFall (s : State) := Act.ppsFall.done s
def execPpsInEdge (s : State) := Act.ppsIn.done s

end Sys2Proof.Machine
end

