-- ==== Sys2Proof/Machine/Analog.lean ====
section
/-! DEFINITION. The analogue side of a group (R136 to R158): takes, nodes, tracks, and the voltages of the cells, in volts. Resistors count
in kΩ and capacitors in pF, so that their products are nanoseconds. The tolerances of R144 and R156 are left out. -/

namespace Sys2Proof.Machine

/-- Change the analogue side of a group. -/
def Act.setCells (g : Grp) (f : CellsSt → CellsSt) : Act := .upd fun s => { s with cells := s.cells.set g (f s.cells[g]) }

/-- The value of `x` between `lo` and `hi`. -/
def clampQ (lo hi x : ℚ) : ℚ := max lo (min hi x)

/-! ### The words in force -/

/-- R159: a word of the set in force: the mirror, or the closed set between the hand-over and its report. -/
def State.cellWord (s : State) (g : Grp) (shadow mirror : RegName) (i : Nat) (k : Nat := 0) : Word :=
  if s.cells[g].handed then s.r shadow g i k else s.r mirror g i k

/-- R149, R152: the CFG word of a cell, the word of its input `k` and the word of a track, in force. -/
def State.cellCfg (s : State) (g : Grp) (c : Nat) : Word := s.cellWord g .CELL_CFG .CELLM_CFG c
def State.cellIn (s : State) (g : Grp) (c k : Nat) : Word := s.cellWord g .CELL_IN .CELLM_IN c k
def State.trackWord (s : State) (g : Grp) (t : Nat) : Word := s.cellWord g .CELL_TRACK .CELLM_TRACK t

/-- R150: FUNC of a cell in force. -/
def State.cellFunc (s : State) (g : Grp) (c : Nat) : Nat := F.CELL_CFG_FUNC.of (s.cellCfg g c)

/-- R155: the voltage of a signed 12-bit level. -/
def levelVolts (code : Nat) : ℚ := signed 12 code * 5 / 4096

/-- R155: LO and HI of a cell. -/
def State.cellLo (s : State) (g : Grp) (c : Nat) : ℚ := levelVolts (F.CELL_PARAM_PARAM.of (s.cellWord g .CELL_PARAM .CELLM_PARAM c))
def State.cellHi (s : State) (g : Grp) (c : Nat) : ℚ :=
  levelVolts (F.CELL_PARAM_PARAM.of (s.cellWord g .CELL_PARAM .CELLM_PARAM c) / 4096)

/-- R153: the INIT voltage of a cell. -/
def State.cellInit (s : State) (g : Grp) (c : Nat) : ℚ := levelVolts (F.CELL_INIT_INIT.of (s.cellWord g .CELL_INIT .CELLM_INIT c))

/-! ### Takes (R137 to R142) -/

/-- R142: REDUCED is in force. -/
def State.reducedOn (s : State) : Bool := s.mode reducedMode

/-- R141, R142: the mode of an input in force: 1 is current. -/
def State.inputMode (s : State) (g : Grp) (i : Nat) : Nat :=
  if s.reducedOn then (s.reducedInput (16 * g + i)).2 else s.f F.INP_CFG_MODE g i

/-- R137: the factor of a range tap. -/
def tapFactor : Nat → ℚ
  | 0 => 4
  | 1 => 1
  | 2 => 1 / 10
  | _ => 1 / 50

/-- R137, R139, R140: the node voltage of a take: of a voltage in volts, or of a current in amperes through the 50 Ω shunt. -/
def takeVolts (current : Bool) (rng gain : Nat) (x : ℚ) : ℚ :=
  (if current then x * 50 * (if rng = 0 then 4 else 1) else x * tapFactor rng) * 2 ^ gain

/-- R138: a node is linear to 2.6 V. -/
def nodeLinear (x : ℚ) : ℚ := if |x| ≤ 13 / 5 then x else Config.beyondLinear x

/-- R141, R142: the mode of an input is changing: it takes 50 µs. -/
def State.inputChanging (s : State) (g : Grp) (i : Nat) : Bool :=
  s.inputMode g i != s.cells[g].inMode[Fin.ofNat 16 i] || (match s.cells[g].inAt[Fin.ofNat 16 i] with
    | some t => decide (s.clk < t + 8192)
    | none => false)

/-- R137 to R141: what a take of an input delivers. -/
def State.inputTake (s : State) (g : Grp) (i rng gain : Nat) : ℚ :=
  if s.inputChanging g i then 0
  else
    let current := s.inputMode g i == 1
    nodeLinear (takeVolts current rng gain (if current then Config.inputAmps g i s.clk else Config.inputVolts g i s.clk))

/-! ### Nodes (R145, R183) -/

/-- R150, R155: the output node of a cell. -/
def State.cellVolts (s : State) (g : Grp) (c : Cell) : ℚ :=
  let y := s.cells[g].volts[c].y
  if !s.b F.CELL_STATUS_ACTIVE g c then 0
  else if s.cellFunc g c = 8 then clampQ (s.cellLo g c) (s.cellHi g c) y else y

/-- R292, R294: the code that the core serving an output holds; none where the group is unpowered. -/
def State.coreCode (s : State) (g : Grp) (o : Out) : Option Nat :=
  match s.drive g o with
  | .off => none
  | .code c => some c.toNat
  | .dds e => some (s.ddsCode g e)
  | .zero | .track _ | .held _ => some (s.out g o).code.toNat

/-- R145, R146, R293: the core node of an output; the spare core where it stands in holds the same code (R309). -/
def State.coreVolts (s : State) (g : Grp) (o : Out) : ℚ :=
  match s.coreCode g o with
  | some c => ((c : ℚ) - 32768) * 5 / 131072
  | none => 0

/-- R145, R300: what the sense point of an output shows; with the gate open, the voltage at the pin is what stands outside, and no
current flows. -/
def State.outSense (s : State) (g : Grp) (o : Out) : ℚ :=
  if !s.gateOpen g o then s.outLevel g o
  else if currentClass (s.f F.DAC_STATUS_RANGE_NOW g o) then 0 else Config.openPin g o s.clk / 10

/-- R183: the node of an internal point. -/
def State.pointVolts (s : State) (g : Grp) (code : Nat) : ℚ :=
  let x := Config.point g code s.clk
  match code with
  | 0x39 => x / 5
  | 0x3A => x * 2 / 5
  | 0x3B => x / 5
  | 0x3C => x / 500
  | 0x3D => x / 32
  | 0x3E => x / 32
  | 0x3F => x
  | _ => 0

/-- R145: the voltage of a node, through the range and gain of a take where it is an input. -/
def State.nodeVolts (s : State) (g : Grp) (node rng gain : Nat) : ℚ :=
  if node < 0x10 then s.inputTake g node rng gain
  else if node < 0x1C then s.cellVolts g (Fin.ofNat 12 (node - 0x10))
  else if 0x20 ≤ node ∧ node < 0x38 then s.cells[g].tracks[Fin.ofNat 24 (node - 0x20)]
  else if 0x38 ≤ node ∧ node < 0x40 then s.pointVolts g node
  else if 0x40 ≤ node ∧ node < 0x48 then s.outSense g (Fin.ofNat 8 (node - 0x40))
  else if 0x48 ≤ node ∧ node < 0x50 then s.coreVolts g (Fin.ofNat 8 (node - 0x48))
  else 0

/-! ### Tracks (R146, R148) -/

/-- R146: the voltage that a track's driver gives it; 0 V where the source is none. -/
def State.trackDriver (s : State) (g : Grp) (t : Nat) : ℚ :=
  let w := s.trackWord g t
  s.nodeVolts g (F.CELL_TRACK_SRC.of w) (F.CELL_TRACK_RNG.of w) (F.CELL_TRACK_GAIN.of w)

/-- R148: the tracks follow their drivers; one without a driver holds its voltage. -/
def Act.tracksTurn (g : Grp) : Act := .look fun s => .setCells g fun x => { x with
  tracks := Vector.ofFn fun t => if x.held[t] then x.tracks[t] else s.trackDriver g t }

/-! ### Cells (R149 to R158) -/

/-- R149: what an input gives the function: the voltage of its track, negated with NEG; 0 V without a track. -/
def State.cellInVolts (s : State) (g : Grp) (c k : Nat) : ℚ :=
  let w := s.cellIn g c k
  let t := F.CELL_IN_TRACK.of w
  if t = 31 then 0 else
    let v := s.cells[g].tracks[Fin.ofNat 24 t]
    if F.CELL_IN_NEG.of w = 1 then -v else v

/-- R157: the crystal edge of this system clock is one at which phase 2 of a switched-capacitor clock starts. -/
def State.sckSamples (s : State) (g : Grp) (k : Fin 4) : Bool :=
  let w := s.cellWord g .CELL_SCK .CELLM_SCK k
  F.CELL_SCK_ENABLE.of w == 1 && s.clk % 8 == 0 && s.cells[g].sck[k] + 1 == F.CELL_SCK_DIV.of w / 2

/-- R157: the switched-capacitor clocks advance at a crystal edge. -/
def Act.sckTurn (g : Grp) : Act := .look fun s => .when (s.clk % 8 == 0) (.setCells g fun x => { x with
  sck := Vector.ofFn fun k =>
    let w := s.cellWord g .CELL_SCK .CELLM_SCK k
    if F.CELL_SCK_ENABLE.of w = 1 then (x.sck[k] + 1) % max 1 (F.CELL_SCK_DIV.of w) else x.sck[k] })

/-- R156, R158: what flows through a resistor of 1 kΩ under 1 V in the step that ends now, in pF V: in continuous time a step is one system
clock of 3,125/512 ns; in switched-capacitor realisation it is one period of the clock, and CS × 10 fF flow. -/
def State.cellFlow (s : State) (g : Grp) (c : Nat) : ℚ :=
  let w := s.cellWord g .CELL_SC .CELLM_SC c
  if F.CELL_CFG_SC.of (s.cellCfg g c) = 0 then 3125 / 512
  else if s.sckSamples g (Fin.ofNat 4 (F.CELL_SC_SCK.of w)) then (F.CELL_SC_CS.of w : ℚ) / 100 else 0

/-- R150: the output of an amplifier after a step, with feedback `rf` and `cf` (0 where absent), an output of `y` before it, and the charge
`q` that its inputs gave. -/
def feedback (flow rf cf y q : ℚ) : ℚ := (cf * y + q) / (cf + flow / rf)

/-- R150: the current through an input network of DIFF after a step in which its voltage rose by `rise`. -/
def networkAmps (flow r c i rise : ℚ) : ℚ := (r * c * i + c * rise) / (r * c + flow)

/-- R150: SQUARE: the sign of x1, with 5 mV of hysteresis. -/
def squareSign (old : Bool) (x : ℚ) : Bool := if old then decide (-1 / 400 ≤ x) else decide (1 / 400 ≤ x)

/-- R155: the level at which a cell's output clips. -/
def clipVolts (g : Grp) (c : Nat) : ℚ := 27 / 10 + ((Config.clipTrim g c).toNat : ℚ) / 327675

/-- R149: the resistor and the capacitor of an input. -/
def State.cellR (s : State) (g : Grp) (c k : Nat) : ℚ := F.CELL_IN_R.of (s.cellIn g c k)
def State.cellC (s : State) (g : Grp) (c k : Nat) : ℚ := F.CELL_IN_C.of (s.cellIn g c k)

/-- R150: the charge that the inputs of a cell give its amplifier in a step: `v` is the cell before it. -/
def State.cellCharge (s : State) (g : Grp) (c : Cell) (v : CellVolts) (ins amps : Vector ℚ 3) (square : Bool) : ℚ :=
  let flow := s.cellFlow g c
  let sum := fun (f : Fin 3 → ℚ) => f 0 + f 1 + f 2
  match s.cellFunc g c with
  | 1 | 8 => sum fun k => flow / s.cellR g c k * ins[k] + s.cellC g c k * (ins[k] - v.ins[k])
  | 2 => sum fun k => flow / s.cellR g c k * ins[k]
  | 3 => sum fun k => flow * amps[k]
  | 5 => flow / s.cellR g c 0 *
      (if F.CELL_CFG_SUBFN.of (s.cellCfg g c) % 2 = 0 then |ins[0]| else max ins[0] 0)
  | 7 => flow / s.cellR g c 0 * ins[0] *
      (if F.CELL_CFG_SUBFN.of (s.cellCfg g c) % 2 = 0 then ins[1] / (5 / 4) else if square then 1 else -1)
  | _ => 0

/-- R151: a second-order section after a step: with u = Σ sk Kk xk, its low-pass and band-pass integrators. -/
def biquad (a q u band low : ℚ) : ℚ × ℚ :=
  let b := (band + a * (u - low)) / (1 + a / q + a * a)
  (b, low + a * b)

/-- R151: what TYPE picks from a section. -/
def biquadOut (type : Nat) (q u band low : ℚ) : ℚ :=
  match type with
  | 0 => low
  | 1 => band / q
  | 2 => u - band / q - low
  | _ => u - band / q

/-- R150 to R155: a cell after a step. -/
def State.cellStep (s : State) (g : Grp) (c : Cell) (v : CellVolts) : CellVolts :=
  let func := s.cellFunc g c
  let sub := F.CELL_CFG_SUBFN.of (s.cellCfg g c)
  let fb := s.cellWord g .CELL_FB .CELLM_FB c
  let rf : ℚ := F.CELL_FB_RF.of fb
  let cf : ℚ := F.CELL_FB_CF.of fb
  let flow := s.cellFlow g c
  let ins := Vector.ofFn fun (k : Fin 3) => s.cellInVolts g c k
  let amps := Vector.ofFn fun (k : Fin 3) => networkAmps flow (s.cellR g c k) (s.cellC g c k) v.amps[k] (ins[k] - v.ins[k])
  let square := squareSign v.square ins[1]
  let q : ℚ := ((F.CELL_PARAM_PARAM.of (s.cellWord g .CELL_PARAM .CELLM_PARAM c) % 8192 : Nat) : ℚ) / 256
  let u := rf / s.cellR g c 0 * ins[0] + rf / s.cellR g c 1 * ins[1] + rf / s.cellR g c 2 * ins[2]
  let bq := biquad (flow / (rf * cf)) q u v.band v.low
  let lin := feedback flow rf cf v.y (s.cellCharge g c v ins amps square)
  let y := match func with
    | 0 => 0
    | 2 => match s.cells[g].modes[c] with
      | .initial => s.cellInit g c
      | .frozen => v.y
      | .runs | .tracks | .holds => if sub.testBit 1 then clampQ (s.cellLo g c) (s.cellHi g c) lin else lin
    | 4 => biquadOut sub q u bq.1 bq.2
    | 6 => if s.cells[g].modes[c] = .holds then v.y else ins[0]
    | _ => lin
  { v with y := clampQ (-clipVolts g c) (clipVolts g c) y, band := bq.1, low := bq.2, amps := amps, ins := ins, square := square }

/-- R150 to R158: the cells after one step. -/
def Act.cellsStep (g : Grp) : Act := .look fun s => .setCells g fun x => { x with
  volts := Vector.ofFn fun c => if s.b F.CELL_STATUS_ACTIVE g c then s.cellStep g c x.volts[c] else x.volts[c] }

/-- R155: a cell's output is clipped: at the limit of every output, or INT or LIMIT at a level at or beyond 2.6 V. -/
def State.cellClips (s : State) (g : Grp) (c : Cell) : Bool :=
  s.alive g && s.b F.CELL_STATUS_ACTIVE g c &&
  (decide (clipVolts g c ≤ |s.cells[g].volts[c].y|) ||
   ((s.cellFunc g c == 2 || s.cellFunc g c == 8) && decide (13 / 5 ≤ |s.cellVolts g c|)))

/-- R150, R153, R162: a cell that starts its function: from 0 V, an integrator from INIT. -/
def Act.cellFresh (g : Grp) (c : Cell) : Act := .look fun s => .setCells g fun x => { x with
  volts := x.volts.set c (.rest (if s.cellFunc g c = 2 then s.cellInit g c else 0)) }

/-- R141, R142: the modes of the inputs as the group takes them. -/
def Act.inputsTurn (g : Grp) : Act := .look fun s => .setCells g fun x => { x with
  inMode := Vector.ofFn fun i => s.inputMode g i
  inAt := Vector.ofFn fun i => if s.inputMode g i = x.inMode[i] then x.inAt[i] else some s.clk }

end Sys2Proof.Machine
end

