-- ==== Sys2Proof/Machine/Cells.lean ====
section
/-! DEFINITION. The cell set of a group, its checks and its hand-over (R159 to R165), the control inputs of the cells (R152 to R154),
clipping and limiting (R143, R155), and a system clock of the analogue side. -/

namespace Sys2Proof.Machine

/-! ### The set -/

/-- R159: the cell words of the shadow set and their mirrors. -/
def cellWords : List (RegName × RegName) :=
  [(.CELL_CFG, .CELLM_CFG), (.CELL_FB, .CELLM_FB), (.CELL_PARAM, .CELLM_PARAM), (.CELL_INIT, .CELLM_INIT),
   (.CELL_SC, .CELLM_SC)]

/-- R146: a source that a track may have. -/
def trackSource (n : Nat) : Bool :=
  decide (n ≤ 0x1B) || decide (0x40 ≤ n ∧ n ≤ 0x4F) || n == 0x7F

/-- R161: SUBFN is a value that FUNC gives a meaning. -/
def subfnOk (func sub : Nat) : Bool :=
  match func with
  | 2 => decide (sub < 4)
  | 4 => decide (sub < 4)
  | 5 => decide (sub < 2)
  | 7 => decide (sub < 2)
  | _ => sub == 0

/-- R161: an input word of a cell is invalid. -/
def cellInBad (func sc k : Nat) (w : Word) : Bool :=
  let t := F.CELL_IN_TRACK.of w
  let named := t != 31
  decide (24 ≤ t ∧ t ≤ 30) || (named && F.CELL_IN_R.of w == 0) ||
  (named && ((decide (1 ≤ k) && (func == 5 || func == 6)) || (k == 2 && func == 7))) ||
  (named && func == 3 && F.CELL_IN_C.of w == 0) || (sc == 1 && F.CELL_IN_C.of w != 0)

/-- R161: LO lies at or above HI. -/
def loHiBad (p : Nat) : Bool := decide (signed 12 (p / 4096) ≤ signed 12 p)

/-- R161: the invalid words of a cell, by word index. Where a rule concerns two words, REJ_WORD names the one that the rule's condition
stands in: CFG for SC with a FUNC other than INT or BIQ, the IN word for an input capacitor under SC, the SC word for CS = 0 or a disabled
clock (DESIGN CHOICE, log entry 115). -/
def State.cellBad (s : State) (g : Grp) (c : Nat) : List Nat :=
  let cfg := s.r .CELL_CFG g c
  let func := F.CELL_CFG_FUNC.of cfg
  let sub := F.CELL_CFG_SUBFN.of cfg
  let sc := F.CELL_CFG_SC.of cfg
  let fb := s.r .CELL_FB g c
  let p := s.f F.CELL_PARAM_PARAM g c
  let scw := s.r .CELL_SC g c
  let noRf := F.CELL_FB_RF.of fb == 0 && (func == 1 || func == 3 || func == 4 || func == 5 || func == 7 || func == 8)
  let noCf := F.CELL_FB_CF.of fb == 0 && (func == 2 || func == 4)
  if func = 0 then [] else
  [(0, decide (8 < func) || !subfnOk func sub || (sc == 1 && func != 2 && func != 4) ||
      decide (32 < F.CELL_CFG_CTL_SRC.of cfg)),
   (1, cellInBad func sc 0 (s.r .CELL_IN g c 0)), (2, cellInBad func sc 1 (s.r .CELL_IN g c 1)),
   (3, cellInBad func sc 2 (s.r .CELL_IN g c 2)),
   (4, noRf || noCf),
   (5, (func == 4 && decide (p % 8192 < 16)) || ((func == 8 || (func == 2 && sub.testBit 1)) && loHiBad p)),
   (7, sc == 1 && (F.CELL_SC_CS.of scw == 0 || !s.b F.CELL_SCK_ENABLE g (F.CELL_SC_SCK.of scw)))].filterMap
    fun e => if e.2 then some (16 * c + e.1) else none

/-- R161: a track word is invalid. -/
def trackBad (w : Word) : Bool :=
  let n := F.CELL_TRACK_SRC.of w
  !trackSource n || (decide (16 ≤ n) && (F.CELL_TRACK_RNG.of w != 0 || F.CELL_TRACK_GAIN.of w != 0))

/-- R161: the first invalid word of the cell set, by its index; `at_` is the word written to COMMIT. -/
def State.cellSetBad (s : State) (g : Grp) (at_ : Option Word) : Option Nat :=
  ((List.range 12).flatMap (s.cellBad g) ++
   ((List.range 24).filter (fun t => trackBad (s.r .CELL_TRACK g t))).map (· + 0x100) ++
   ((List.range 4).filter (fun k => s.b F.CELL_SCK_ENABLE g k && decide (s.f F.CELL_SCK_DIV g k < 20))).map (· + 0x120) ++
   (match at_ with
    | some v => if 8 < F.CELL_COMMIT_AT_CV.of v then [0x140] else []
    | none => [])).head?

/-- A refused write to the cell shadow set. -/
def Act.cellRefuse (g : Grp) : Act := .refuse F.CELL_SHADOW_REFUSED g

/-- R160: a write to a word of the shadow set. -/
def Act.cellShadow (n : RegName) (g : Grp) (i k : Nat) (v : Word) : Act := .look fun s =>
  if s.b F.CELL_SHADOW_PENDING g then .cellRefuse g else .all [.setR n v g i k, .accept]

/-- R160: a write to COMMIT. In a lost group too the set is closed, and it waits for the group's return (DESIGN CHOICE, log entry 116). -/
def Act.cellCommit (g : Grp) (v : Word) : Act := .look fun s =>
  if s.b F.CELL_SHADOW_PENDING g then .cellRefuse g
  else match s.cellSetBad g (some v) with
    | some i => .all [.cellRefuse g, .setB F.CELL_SHADOW_REJECTED true g, .setF F.CELL_SHADOW_REJ_WORD i g]
    | none => .all [.setR .CELL_COMMIT v g, .setB F.CELL_SHADOW_PENDING true g, .setCells g fun x => { x with commitAt := s.clk }, .accept]

/-- R152: the level a cell's control source has. -/
def State.cellSource (s : State) (g : Grp) (c : Cell) : Bool :=
  let n := F.CELL_CFG_CTL_SRC.of (s.cellCfg g c)
  if n = 0 then s.b F.CELL_CTL_CTL g c
  else if n ≤ 16 then s.cmpF g (n - 1)
  else s.bit F.PIN_LEVEL_LEVEL (n - 17) g

/-- R153, R154: what a control level makes of a cell. -/
def cellModeOf (func sub : Nat) (level : Bool) : CellMode :=
  if func = 2 then (if !level then .runs else if sub.testBit 0 then .frozen else .initial)
  else if func = 6 then (if level then .holds else .tracks)
  else .runs

/-- R152 to R154: a cell takes a level of its control source. -/
def Act.cellControl (g : Grp) (c : Cell) (source : Bool) : Act := .look fun s =>
  let w := s.cellCfg g c
  let level := source != (F.CELL_CFG_CTL_INV.of w == 1)
  .all [
    .setB F.CELL_STATUS_CTL_LEVEL level g c,
    .setCells g fun x => { x with modes := x.modes.set c (cellModeOf (F.CELL_CFG_FUNC.of w) (F.CELL_CFG_SUBFN.of w) level) }]

/-- R74, R165: a cell is ACTIVE when it is configured, powered and not OFF. -/
def Act.cellsActive (g : Grp) (on : Bool) : Act := .each (List.finRange 12) fun c => .look fun s => .all [
  .setB F.CELL_STATUS_ACTIVE (on && s.cellFunc g c != 0) g c, .cellControl g c (s.cellSource g c)]

/-- R161, R162: every field of the set takes effect at one edge. The drivers of the tracks that change disconnect (R148), the
switched-capacitor clocks restart at the start of phase 1, a cell keeps its voltages unless its FUNC changes. -/
def Act.cellTake (g : Grp) : Act := .look fun old => .all [
  .setCells g fun x => { x with
    handed := true, takenAt := old.clk, connected := false, sck := Vector.replicate 4 0
    held := Vector.ofFn fun t => x.held[t] || decide (old.r .CELL_TRACK g t ≠ old.trackWord g t) },
  .each (List.finRange 12) fun c =>
    .when (decide (F.CELL_CFG_FUNC.of (old.r .CELL_CFG g c) ≠ old.cellFunc g c)) (.cellFresh g c),
  .look fun s => .cellsActive g (s.alive g)]

/-- R163: converter AT_CV is not running an entry of its own: an entry boundary of its own cannot come. -/
def State.atCvAway (s : State) (g : Grp) (n : Nat) : Bool :=
  let own := fun (m : Cv) => s.conv[g][m].run == .visit && !s.conv[g][m].reduced
  if h : n < 8 then !own ⟨n, h⟩ || s.b F.CV_STATUS_SPARE_ACTIVE g n
  else (List.finRange 8).all fun m => !(s.b F.CV_STATUS_SPARE_ACTIVE g m && own m)

/-- R161: a closed set waits for its hand-over. -/
def State.cellWaits (s : State) (g : Grp) : Bool := s.alive g && s.b F.CELL_SHADOW_PENDING g && !s.cells[g].handed

/-- R161, R163: the crystal edge of this system clock is one for the hand-over: with AT = 0, at least 2 crystal periods after the set has
reached the group; with AT = 1, at which AT_CV is not running its own entry. -/
def State.cellEdge (s : State) (g : Grp) : Bool :=
  s.cellWaits g && s.clk % 8 == 0 &&
  (if s.b F.CELL_COMMIT_AT g then decide (s.cells[g].commitAt + 12 ≤ s.clk) && s.atCvAway g (s.f F.CELL_COMMIT_AT_CV g)
   else decide (s.cells[g].commitAt + 28 ≤ s.clk))

/-- R161, R163: an entry boundary of converter `n` in this system clock is the hand-over's; a boundary of the spare counts for CV8 and for
the converter whose sequence it carries. -/
def State.cellBoundary (s : State) (g : Grp) (n : Cv) : Bool :=
  let a := s.f F.CELL_COMMIT_AT_CV g
  s.cellWaits g && s.b F.CELL_COMMIT_AT g && decide (s.cells[g].commitAt + 12 ≤ s.clk) && !s.conv[g][n].reduced &&
  (a == n.val || (a == 8 && s.b F.CV_STATUS_SPARE_ACTIVE g n))

/-- R161: the hand-over of a closed set at a crystal edge. -/
def Act.cellHandover (g : Grp) : Act := .look fun s => .when (s.cellEdge g) (.cellTake g)

/-- R148: the new track drivers connect, 200 ns (32.768 system clocks) after the hand-over. -/
def Act.trackConnect (g : Grp) : Act := .look fun s => .when (decide (s.cells[g].takenAt + 33 ≤ s.clk))
  (.setCells g fun x => { x with connected := true, held := Vector.replicate 24 false })

/-- R159: the mirror takes the shadow set. -/
def Act.cellMirror (g : Grp) : Act := .look fun s => .all [
  .each (List.range 12) fun c => .all [
    .each cellWords fun w => .setR w.2 (s.r w.1 g c) g c,
    .each (List.range 3) fun k => .setR .CELLM_IN (s.r .CELL_IN g c k) g c k],
  .each (List.range 24) fun t => .setR .CELLM_TRACK (s.r .CELL_TRACK g t) g t,
  .each (List.range 4) fun k => .setR .CELLM_SCK (s.r .CELL_SCK g k) g k]

/-- R161: the hand-over is reported and the set reopens, 12 system clocks after it. -/
def Act.cellReported (g : Grp) : Act := .look fun s =>
  .when (s.cells[g].handed && decide (s.cells[g].takenAt + 12 ≤ s.clk)) (.all [
    .cellMirror g, .setCells g fun x => { x with handed := false },
    .setB F.CELL_SHADOW_PENDING false g, .setB F.CELL_SHADOW_DONE true g])

/-- R153, R165: the cells of a group start on the set in force, integrators at INIT. -/
def Act.cellsStart (g : Grp) : Act := .all [
  .each (List.finRange 12) (Act.cellFresh g), .look fun s => .cellsActive g (s.alive g)]

/-- R164: the set of a full stream takes effect in one hand-over, with no COMMIT write. -/
def Act.cellLoaded (g : Grp) : Act := .all [.cellMirror g, .cellsStart g]

/-- R163, R165: a group is lost or reset: a commit is discarded, reported or not, and the set in force is the one that the mirror shows.
The cells stop. -/
def Act.cellsLost (g : Grp) : Act := .all [
  .setCells g fun x => { x with handed := false, connected := true, held := Vector.replicate 24 false },
  .setB F.CELL_SHADOW_PENDING false g, .cellsActive g false]

/-- R152: a write to CTL acts where CTL_SRC is 0. -/
def Act.cellCtl (g : Grp) (c : Cell) (v : Word) : Act := .all [
  .setR .CELL_CTL v g c,
  .look fun s => .when (F.CELL_CFG_CTL_SRC.of (s.cellCfg g c) == 0)
    (.cellControl g c (F.CELL_CTL_CTL.of v == 1)),
  .accept]

/-! ### Clipping and limiting -/

/-- R155: a cell output enters clipping. -/
def Act.clipEntry (g : Grp) (c : Cell) : Act := .look fun s =>
  .when (s.cellClips g c && !s.b F.CELL_STATUS_CLIP_NOW g c) (.all [
    .setB F.CELL_STATUS_CLIP true g c, .setB F.CELL_STATUS_CLIP_NOW true g c, .count F.CELL_STATUS_CLIP_COUNT 1 g c])

/-- R155: a cell leaves clip, once its output is back in range. -/
def Act.clipExit (g : Grp) (c : Cell) : Act := .look fun s => .when (!s.cellClips g c) (.setB F.CELL_STATUS_CLIP_NOW false g c)

/-- R155: the clip of a cell follows its output: it begins at once, and ends at the latest 2 µs after the output's return into range. -/
def Act.clipTurn (g : Grp) (c : Cell) : Act := .look fun s =>
  let back := if s.cellClips g c then none else some (s.cells[g].volts[c].back.getD s.clk)
  .all [
    .clipEntry g c,
    .when (match back with
      | some t => decide (t + 327 ≤ s.clk)
      | none => false) (.clipExit g c),
    .setCells g fun x => { x with volts := x.volts.set c { x.volts[c] with back := back } }]

/-- R152: a cell follows its control source, within 30 ns. -/
def Act.cellFollow (g : Grp) (c : Cell) : Act := .look fun s =>
  let level := s.cellSource g c != (F.CELL_CFG_CTL_INV.of (s.cellCfg g c) == 1)
  .when (s.b F.CELL_STATUS_ACTIVE g c && level != s.b F.CELL_STATUS_CTL_LEVEL g c) (.cellControl g c (s.cellSource g c))

/-- R146 to R158: a system clock of the analogue side of a group: the tracks take the nodes as they stand, and the cells the tracks. -/
def Act.analogTurn (g : Grp) : Act := .look fun s => .when (s.alive g) (.all [
  .inputsTurn g, .tracksTurn g, .cmpsTurn g,
  .each (List.finRange 12) (Act.cellFollow g), .cellsStep g, .sckTurn g,
  .each (List.finRange 12) (Act.clipTurn g)])

/-- R143: the limiter of a current-mode input starts to act. -/
def Act.limiterEntry (g : Grp) (i : Ain) : Act := .look fun s =>
  .when (s.alive g && s.inputMode g i == 1 && !s.b F.INP_STATUS_LIMITING g i) (.all [
    .setB F.INP_STATUS_LIMITING true g i, .setB F.INP_STATUS_LIMITED true g i, .count F.INP_STATUS_LIMIT_COUNT 1 g i])

/-- R143: the limiter stops acting. -/
def Act.limiterExit (g : Grp) (i : Ain) : Act := .all [
  .setB F.INP_STATUS_LIMITING false g i, .setB F.INP_STATUS_FOLDBACK false g i]

/-- R143: the limiter folds back, or leaves fold-back. -/
def Act.limiterFoldback (g : Grp) (i : Ain) (enter : Bool) : Act := .look fun s =>
  if enter then .when (s.b F.INP_STATUS_LIMITING g i) (.setB F.INP_STATUS_FOLDBACK true g i)
  else .setB F.INP_STATUS_FOLDBACK false g i

/-! ### The commands -/

def execCellHandover (g : Grp) (s : State) := (Act.cellHandover g).done s
def execTrackDriverConnect (g : Grp) (s : State) := (Act.trackConnect g).done s
def execCellHandoverReported (g : Grp) (s : State) := (Act.cellReported g).done s
/-- R152: the control source of a cell has a level: the cell takes it. -/
def execCellCtlChange (g : Grp) (c : Cell) (level : Bool) (s : State) :=
  (Act.look fun t => .when (level == t.cellSource g c) (Act.cellControl g c level)).done s
def execCellClipEntry (g : Grp) (c : Cell) (s : State) := (Act.clipEntry g c).done s
def execCellClipExit (g : Grp) (c : Cell) (s : State) := (Act.clipExit g c).done s
def execLimiterEntry (g : Grp) (i : Ain) (s : State) := (Act.limiterEntry g i).done s
def execLimiterExit (g : Grp) (i : Ain) (s : State) := (Act.limiterExit g i).done s
def execLimiterFoldback (g : Grp) (i : Ain) (enter : Bool) (s : State) := (Act.limiterFoldback g i enter).done s

end Sys2Proof.Machine
end

