-- ==== Sys2Proof/Machine/CalSets.lean ====
section
/-! DEFINITION. Coefficient sets and runs as data (R334 to R343, R349): the values in use at the die temperature, the checks
of a run, the set that an accepted run forms, and the end of a run. -/

namespace Sys2Proof.Machine

/-- Change a group's calibration controller. -/
def Act.setCal (g : Grp) (f : CalSt → CalSt) : Act := .upd fun s => { s with cal := s.cal.set g (f s.cal[g]) }

/-- R341: a reading begins: it lasts 14.8 ms. -/
def Act.readingBegins (g : Grp) : Act := .look fun s => .setCal g fun c => { c with readAt := s.clk }

/-- The key of an item. -/
def calKey (cls item : Nat) : Nat := cls * 16 + item

/-! ### Values in use -/

/-- R334: the factory points of an item's path. -/
def factoryPoints (g : Grp) (cls item path : Nat) : List CalPoint :=
  (List.range 8).map fun k =>
    { path := path, temp := (Config.factoryTemp g (calKey cls item) path k).toInt
      ofs := (Config.factoryOffset g (calKey cls item) path k).toInt
      gain := (Config.factoryGain g (calKey cls item) path k).toNat
      aux := (Config.factoryAux g (calKey cls item) path k).toNat }

/-- R334: the field set of an item. -/
def State.fieldSet (s : State) (g : Grp) (cls item : Nat) : Option FieldSet := assoc s.cal[g].sets (calKey cls item)

/-- R334: the points of an item's path that are in use: the field set's where it has one, else the factory's. -/
def State.calPoints (s : State) (g : Grp) (cls item path : Nat) (factory : Bool) : List CalPoint :=
  match s.fieldSet g cls item with
  | some f => if factory then factoryPoints g cls item path else
      let l := f.points.filter (fun p => p.path == path)
      if l.isEmpty then factoryPoints g cls item path else l
  | none => factoryPoints g cls item path

/-- Insert a point in the order of temperature. -/
def insertPoint (p : CalPoint) : List CalPoint → List CalPoint
  | [] => [p]
  | q :: l => if q.temp ≤ p.temp then q :: insertPoint p l else p :: q :: l

/-- R335: linear interpolation of a value between two points. -/
def interpolate (t t0 t1 v0 v1 : Int) : Int :=
  if t1 ≤ t0 then v0 else v0 + roundDiv ((v1 - v0) * (t - t0)) (t1 - t0).toNat

/-- R335: the values at a die temperature, from points in the order of temperature, never extrapolated. -/
def valuesAt (t : Int) : List CalPoint → CalPoint
  | [] => ⟨0, t, 0, 1073741824, 2500000⟩
  | [p] => p
  | p :: q :: l =>
    if t ≤ p.temp then p
    else if t ≤ q.temp then
      { path := p.path, temp := t, ofs := interpolate t p.temp q.temp p.ofs q.ofs
        gain := (interpolate t p.temp q.temp p.gain q.gain).toNat
        aux := (interpolate t p.temp q.temp p.aux q.aux).toNat }
    else valuesAt t (q :: l)

/-- R335: an item's values in use. -/
def State.inUse (s : State) (g : Grp) (cls item path : Nat) (factory : Bool) : CalPoint :=
  valuesAt s.cal[g].temp ((s.calPoints g cls item path factory).foldr insertPoint [])

/-- R145, R146: a node code is an input. -/
def nodeIsInput (node : Nat) : Bool := decide (node < 16)

/-- R334, R140: the path that a take uses: 0 for every node that is not an input. -/
def State.takePath (s : State) (g : Grp) (node rng gain : Nat) : Nat :=
  if nodeIsInput node then
    1 + (if s.inputMode g node = 1 ∧ 2 ≤ rng then 1 else rng) * 8 + gain
  else 0

/-- R176, R336: the sample of a filtered value, in units of FS: corrected, rounded with ties away from zero, clamped.
Against EXTERNAL or SUPPLY the gain is multiplied by the set's INTERNAL over 2.5 V. -/
def sampleOf (p : CalPoint) (internal : Bool) (y : ℚ) : Int :=
  let gain := (p.gain : ℚ) / 2 ^ 30 * (if internal then 1 else (p.aux : ℚ) / 2500000)
  clamp (-8388608) 8388607 (roundQ ((y - (p.ofs : ℚ) / 2 ^ 23) * gain * 2 ^ 23))

/-! ### Runs -/

/-- R337: the run's class is traced to the external reference. -/
def State.externalTrace (s : State) (cls : Nat) : Bool := s.bit F.CAL_CFG_TRACE cls

/-- R338: the declared value of the reference in µV: REF_DECL, or the factory value of INTERNAL. -/
def State.declared (s : State) (g : Grp) (cls : Nat) : Nat :=
  if s.externalTrace cls then s.f F.CAL_REF_DECL_DECL g else (s.inUse g 0 8 0 true).aux

/-- The spread of a list. -/
def spreadOf : List Int → Int
  | [] => 0
  | x :: l => l.foldl max x - l.foldl min x

/-- The values that a run took for a path. -/
def runOf (l : List (Nat × Int)) (path : Nat) : List Int := (l.filter (fun e => e.1 == path)).map Prod.snd

/-- R342: an offset spread in units of 0.1 ppm of the full span: 2 FS of a converter, 2.5 V of a core, in codes; of a cell,
in µV. -/
def ofsSpread (cls : Nat) (l : List Int) : Nat :=
  (spreadOf l * 10000000 / (match cls with
    | 0 => 16777216
    | 1 => 65536
    | _ => 2500000)).toNat

/-- R342: a gain spread in units of 0.1 ppm of the gain. -/
def gainSpread (l : List Int) : Nat := (spreadOf l * 10000000 / max 1 (meanOf l)).toNat

/-- R342: half a percent of FS. -/
def ofsRange (cls : Nat) : Int :=
  match cls with
  | 0 => 41943
  | 1 => 163
  | _ => 6250

/-- R342: the checks after the last repeat: 0, or the cause of the first that fails. -/
def State.runVerdict (s : State) (g : Grp) (r : CalRun) (item : Nat) : Nat :=
  let bad := r.paths.filterMap fun p =>
    let o := runOf r.ofs p
    let k := runOf r.gains p
    if s.f F.CAL_TOL_OFS_TOL < ofsSpread r.cls o then some 5
    else if s.f F.CAL_TOL_GAIN_TOL < gainSpread k then some 6 else none
  let range := r.paths.any fun p =>
    let u := s.inUse g r.cls item p true
    decide (ofsRange r.cls < (meanOf (runOf r.ofs p) - u.ofs).natAbs) ||
    decide ((u.gain : Int) < 100 * (meanOf (runOf r.gains p) - u.gain).natAbs)
  match bad with
  | c :: _ => c
  | [] => if range then 8 else if 32 < spreadOf r.temps then 9 else 0

/-- R343: one path's points with the new one: within 5 °C of T replaced, else added while fewer than 8, else nearest. -/
def putPoint (l : List CalPoint) (p : CalPoint) : List CalPoint :=
  let dist := fun (q : CalPoint) => (q.temp - p.temp).natAbs
  if l.any (fun q => dist q ≤ 80) then p :: l.filter (fun q => decide (80 < dist q))
  else if l.length < 8 then p :: l
  else
    let m := (l.map dist).foldl min 1000000
    p :: (l.filter (fun q => decide (m < dist q)) ++ (l.filter (fun q => dist q == m)).drop 1)

/-- R343: the field set that a run forms from the set in use. -/
def State.formSet (s : State) (g : Grp) (r : CalRun) (item : Nat) : FieldSet :=
  let t := meanOf r.temps
  let old := match s.fieldSet g r.cls item with
    | some f => f.points
    | none => []
  let kept := old.filter (fun p => !r.paths.contains p.path)
  let new := r.paths.flatMap fun p =>
    putPoint (s.calPoints g r.cls item p false)
      { path := p, temp := t, ofs := meanOf (runOf r.ofs p), gain := (meanOf (runOf r.gains p)).toNat
        aux := (s.inUse g r.cls item p false).aux }
  ⟨kept ++ new, s.r .CAL_HOURS |>.toNat⟩

/-- R349: the entry of a run: trace, declared value, mean reference, T, spreads, CAUSE, end time, then for each path the old
and the new offset and gain; 104 bytes a part. -/
def State.runEntry (s : State) (g : Grp) (r : CalRun) (cause : Nat) : List Byte :=
  let t := meanOf r.temps
  leBytes (s.externalTrace r.cls).toNat 1 ++ leBytes (s.declared g r.cls) 4 ++ leBytes (unsigned 32 (meanOf r.refs)) 4 ++
  leBytes (unsigned 16 t) 2 ++ leBytes (s.r .CAL_SPREAD g).toNat 4 ++ leBytes cause 1 ++ leBytes s.ns 8 ++
  r.paths.flatMap fun p =>
    let u := s.inUse g r.cls r.target p false
    leBytes p 1 ++ leBytes (unsigned 24 u.ofs) 3 ++ leBytes u.gain 4 ++
    leBytes (unsigned 24 (meanOf (runOf r.ofs p))) 3 ++ leBytes (unsigned 32 (meanOf (runOf r.gains p))) 4

/-- R349: the data of an entry in parts of 104 bytes. -/
def chunks : Nat → List Byte → List (List Byte)
  | 0, _ => []
  | n + 1, l => if l.length ≤ 104 then [l] else l.take 104 :: chunks n (l.drop 104)

/-- R340: the accounting of background runs: three failures in a row set the item's bit in FAILS. -/
def Act.backgroundEnd (g : Grp) (r : CalRun) (cause : Nat) : Act := .look fun s =>
  let k := calKey r.cls r.target
  let n := (assoc s.cal[g].fails k).getD 0 + 1
  .when r.background <|
    if cause = 0 then .setCal g fun c => { c with fails := assocDel c.fails k, retry := assocDel c.retry k }
    else .all [
      .setCal g fun c => { c with
        fails := assocSet c.fails k (if 3 ≤ n then 0 else n)
        retry := assocSet c.retry k ((s.r .CAL_HOURS).toNat + (if 3 ≤ n then s.f F.CAL_INTERVAL_INTERVAL else 1)) },
      .when (decide (3 ≤ n)) (if r.cls = 0 then .setBit F.CAL_FAILS_CONV r.target g else .setBit F.CAL_FAILS_CORE r.target g)]

/-- R344, R349: the run of a group ends with a cause, 0 for an accepted one: STATUS and the log record it, and an accepted
set takes effect. -/
def Act.calEnd (g : Grp) (cause : Nat) (spareStage : Bool) : Act := .look fun s =>
  match s.cal[g].run with
  | none => .skip
  | some r => .all [
      .logMulti 21 (calKey r.cls r.target) (chunks 6 (s.runEntry g r cause)),
      .setF F.CAL_STATUS_STATE 0 g, .setF F.CAL_STATUS_CAUSE cause g, .setB F.CAL_STATUS_SPARE_STAGE spareStage g,
      if cause = 0 then .setB F.CAL_STATUS_DONE true g else .setB F.CAL_STATUS_FAILED true g,
      .when (cause == 0) (match r.formed with
        | some f => .setCal g fun c => { c with sets := assocSet c.sets (calKey r.cls r.target) f }
        | none => .skip),
      .backgroundEnd g r cause,
      .setCal g fun c => { c with
        run := none
        fails := if r.cls = 0 ∧ (cause ≠ 8 ∨ spareStage) then assocDel c.fails (1000 + r.target) else c.fails }]

/-- R342: the largest spreads of a measurement go into SPREAD, saturating. -/
def Act.calSpread (g : Grp) (r : CalRun) : Act := .all [
  .setF F.CAL_SPREAD_OFS (min 65535 ((r.paths.map fun p => ofsSpread r.cls (runOf r.ofs p)).foldl max 0)) g,
  .setF F.CAL_SPREAD_GAIN (min 65535 ((r.paths.map fun p => gainSpread (runOf r.gains p)).foldl max 0)) g]

end Sys2Proof.Machine
end

