-- ==== Sys2Proof/Machine/Conv.lean ====
section
/-! DEFINITION. Converters: references (R179 to R182), overload (R170), windows, outputs and records (R171 to R191), the
sequence shadow set (R192, R193). What a converter does next is in Sequence. -/

namespace Sys2Proof.Machine

/-- R33: the module-wide number of a converter. -/
def convNo (g : Grp) (n : Nat) : Nat := 9 * g + n

/-- A converter's state beside its registers. -/
def State.cv (s : State) (g : Grp) (n : Cv) : ConvSt := s.conv[g][n]

/-- Change a converter's state beside its registers. -/
def Act.setCv (g : Grp) (n : Cv) (f : ConvSt → ConvSt) : Act :=
  .upd fun s => { s with conv := s.conv.set g (s.conv[g].set n (f s.conv[g][n])) }

/-! ### Interleaved pairs -/

/-- R184: the even converter of a pair. -/
def evenOf (n : Cv) : Cv := ⟨n - n % 2, by omega⟩
/-- R184: the odd converter of a pair. -/
def oddOf (n : Cv) : Cv := ⟨n - n % 2 + 1, by omega⟩

/-- R184: the converter runs in an interleaved pair. -/
def State.interleaved (s : State) (g : Grp) (n : Cv) : Bool := s.b F.CV_CTRL_ILV g (evenOf n)

/-- R184, R185: the pair runs as one: in the reduced-service sequence ILV is ignored. -/
def State.asPair (s : State) (g : Grp) (n : Cv) : Bool := s.interleaved g n && !(s.cv g n).reduced

/-- R184: the converter whose set and ENABLE govern. -/
def State.governor (s : State) (g : Grp) (n : Cv) : Cv := if s.interleaved g n then evenOf n else n

/-- R184, R185: the converter whose BERTH takes the records. -/
def State.berthOwner (s : State) (g : Grp) (n : Cv) : Cv := if s.asPair g n then evenOf n else n

/-- R184, R185: the converters that a converter's requests govern. -/
def State.governed (s : State) (g : Grp) (n : Cv) : List Cv := if s.asPair g n then [evenOf n, oddOf n] else [n]

/-- R198: ENABLE of the converter. -/
def State.cvEnabled (s : State) (g : Grp) (n : Cv) : Bool := s.b F.CV_CTRL_ENABLE g (s.governor g n)

/-- R424: the spare carries the converter's function. -/
def State.onSpare (s : State) (g : Grp) (n : Cv) : Bool := s.b F.CV_STATUS_SPARE_ACTIVE g n

/-! ### The set in force -/

/-- R201: a word of the set in force: the mirror, or the closed set between the hand-over and its report. -/
def State.seqWord (s : State) (g : Grp) (n : Cv) (shadow mirror : RegName) (e : Nat := 0) : Word :=
  let m := s.governor g n
  if (s.cv g m).handed then s.r shadow g m e else s.r mirror g m e

/-- LAST of the set in force; the sequence of R54 has two entries. -/
def State.seqLast (s : State) (g : Grp) (n : Cv) : Nat :=
  if (s.cv g n).reduced then 1 else F.CV_SEQ_LAST.of (s.seqWord g n .CV_SEQ .CVM_SEQ)

/-- RUN of the set in force. -/
def State.seqOnce (s : State) (g : Grp) (n : Cv) : Bool :=
  !(s.cv g n).reduced && F.CV_SEQ_RUN.of (s.seqWord g n .CV_SEQ .CVM_SEQ) == 1

/-- What an entry or a slot asks of a conversion. -/
structure Conversion where
  node : Nat
  rng : Nat
  gain : Nat
  ref : Nat
  filt : Nat
  dec : Nat
  defer : Bool
  phase : Bool
  trk : Nat
  dwell : Nat
  count : Nat
deriving DecidableEq, Repr

/-- The conversion of an ENTRY word and an ENTRY_T word. -/
def Conversion.ofWords (w t : Word) : Conversion :=
  { node := F.CV_ENTRY_NODE.of w, rng := F.CV_ENTRY_RNG.of w, gain := F.CV_ENTRY_GAIN.of w, ref := F.CV_ENTRY_REF.of w
    filt := F.CV_ENTRY_FILT.of w, dec := F.CV_ENTRY_DEC.of w, defer := F.CV_ENTRY_DEFER.of w == 1
    phase := F.CV_ENTRY_STAMP.of w == 1, trk := F.CV_ENTRY_TRK.of w, dwell := F.CV_ENTRY_T_DWELL.of t
    count := F.CV_ENTRY_T_COUNT.of t }

/-- R54: entry `e` of the reduced-service sequence. -/
def State.reducedConversion (s : State) (g : Grp) (n : Cv) (e : Nat) : Conversion :=
  { node := 2 * n + e, rng := (s.reducedInput (16 * g + 2 * n + e)).1, gain := 0, ref := 1, filt := 0, dec := 3, defer := false
    phase := false, trk := 0, dwell := 200, count := 0 }

/-- The conversion of an entry in force. -/
def State.entryConversion (s : State) (g : Grp) (n : Cv) (e : Nat) : Conversion :=
  if (s.cv g n).reduced then s.reducedConversion g n e
  else .ofWords (s.seqWord g n .CV_ENTRY .CVM_ENTRY e) (s.seqWord g n .CV_ENTRY_T .CVM_ENTRY_T e)

/-- R207: the conversion of an injected slot. -/
def State.slotConversion (s : State) (g : Grp) (n : Cv) (k : Nat) : Conversion :=
  { Conversion.ofWords (s.r .CV_INJ g n k) 0 with defer := false }

/-- The conversion in progress. -/
def State.nowConversion (s : State) (g : Grp) (n : Cv) : Conversion :=
  match (s.cv g n).run with
  | .inj k => s.slotConversion g n k
  | .hold => s.slotConversion g n (s.cv g n).front
  | .off | .idle | .visit | .stopped | .restart | .unserved => s.entryConversion g n (s.f F.CV_STATUS_ENTRY g n)

/-- R174: the settling order N of the filter. -/
def filterOrder (filt : Nat) : Nat := if filt = 0 then 3 else if filt = 1 then 4 else 6

/-- R175: the decimation ratio, in system clocks per output. -/
def outputClocks (dec : Nat) : Nat := 2 ^ (dec + 7) * 16

/-- R171: the span of an output reaches back N periods. -/
def Conversion.spanClocks (c : Conversion) : Nat := filterOrder c.filt * outputClocks c.dec

/-- R174: the group delay is half the settling order. -/
def Conversion.delayClocks (c : Conversion) : Nat := c.spanClocks / 2

/-! ### Windows and output instants (R171, R184) -/

/-- R171: the first modulator edge, as a system clock, at or after `micros` µs of dwell that began at system clock `began`: 1 µs is 163.84
system clocks. -/
def dwellEnd (began micros : Nat) : Nat := (began * 100 + micros * 16384 + 1599) / 1600 * 16

/-- R184: the first point of a grid of period `period` from `t1` that does not lie before `t`. -/
def gridPoint (t1 period t : Nat) : Nat := if t ≤ t1 then t1 else t1 + (t - t1 + period - 1) / period * period

/-- R171, R184, R207: the clock at which the window of the conversion that waits opens; none where an odd converter of a pair still waits
for the first window of the even one. -/
def State.windowDue (s : State) (g : Grp) (n : Cv) : Option Nat :=
  let x := s.cv g n
  let c := s.nowConversion g n
  match x.run with
  | .inj _ => some (x.began + 512)
  | .visit =>
    let t := dwellEnd x.began c.dwell
    if !s.asPair g n then some t
    else match (s.cv g (evenOf n)).grid with
      | some t1 => some (gridPoint (if n.val % 2 = 0 then t1 else t1 + outputClocks c.dec / 2) (outputClocks c.dec) t)
      | none => if n.val % 2 = 0 then some t else none
  | .off | .idle | .hold | .stopped | .restart | .unserved => none

/-- R171: the present clock is an output instant of a window that opened at `t`. -/
def State.outputInstant (s : State) (c : Conversion) (t : Nat) : Bool :=
  decide (t + c.spanClocks ≤ s.clk) && (s.clk - t) % outputClocks c.dec == 0

/-! ### References -/

/-- Change what the reference test of a group holds. -/
def Act.setRef (g : Grp) (f : RefSt → RefSt) : Act := .upd fun s => { s with refs := s.refs.set g (f s.refs[g]) }

/-- R180: REF_SETTLED takes a value; the clock at which it last became 1 is kept. -/
def Act.refSettled (g : Grp) (on : Bool) : Act := .look fun s => .all [
  .when (on && !s.b F.REF_STATUS_REF_SETTLED g) (.setRef g fun x => { x with refAt := s.clk }),
  .setB F.REF_STATUS_REF_SETTLED on g]

/-- R180: REF_SETTLED clears other than by a write to SEL. -/
def Act.refLost (g : Grp) : Act := .look fun s => .when (s.b F.REF_STATUS_REF_SETTLED g) (.all [
  .refSettled g false, .setB F.REF_STATUS_LOST true g, .count F.REF_STATUS_LOSS_COUNT 1 g,
  .setRef g fun x => { x with readings := [] }])

/-- R180: 20 ms after the group's die is alive INTERNAL has settled. -/
def Act.intSettled (g : Grp) : Act := .look fun s =>
  .when (s.alive g && !s.b F.REF_STATUS_INT_SETTLED g && decide (s.pwr.aliveAt[g] + 3276800 ≤ s.clk)) (.all [
  .setB F.REF_STATUS_INT_SETTLED true g, .setRef g fun x => { x with intAt := s.clk },
  .when (s.f F.REF_CFG_SEL g == 0) (.refSettled g true)])

/-- R180: the group is lost: INT_SETTLED clears, and REF_SETTLED with it. -/
def Act.refsLost (g : Grp) : Act := .all [.refLost g, .setB F.REF_STATUS_INT_SETTLED false g]

/-- R182: SEL takes effect. -/
def Act.refSelect (g : Grp) (sel : Nat) : Act := .look fun s => .when (sel != s.f F.REF_CFG_SEL g) (.all [
  .setF F.REF_CFG_SEL sel g, .setB F.REF_STATUS_REF_RANGE false g,
  .setRef g fun x => { x with readings := [], selAt := s.clk },
  .refSettled g (sel == 0 && s.b F.REF_STATUS_INT_SETTLED g)])

/-- R182: a write to INP.REF.CFG. -/
def Act.refCfg (g : Grp) (v : Word) : Act :=
  let sel := F.REF_CFG_SEL.of v
  if sel = 3 then .refuse F.INP_REFUSED_COUNT g else .all [.refSelect g sel, .accept]

/-- R180: the four readings lie within 20 ppm of VREF of their mean. -/
def readingsAgree (l : List Int) : Bool :=
  l.all fun x => decide (((4 * x - l.sum).natAbs : Int) * 1000000 ≤ 20 * l.sum)

/-- R180: a reading of the selected reference, in µV, whose window opened at system clock `taken`: 10 ms are 1,638,400. -/
def Act.refReading (g : Grp) (x : Int) (taken : Nat) : Act := .look fun s =>
  let r := s.refs[g]
  let sel := s.f F.REF_CFG_SEL g
  let out := sel == 1 && decide (x < 950000 ∨ 5250000 < x)
  let settled := s.b F.REF_STATUS_REF_SETTLED g
  let moved := decide (r.mean * 200 < 1000000 * ((x - r.mean).natAbs : Int))
  let l := if r.selAt + 1638400 ≤ taken then (x :: r.readings).take 4 else []
  .all [
    .setF F.REF_STATUS_VREF (clamp 0 65535 (roundDiv x 100)).toNat g,
    .setB F.REF_STATUS_REF_RANGE out g,
    .when (sel != 0) <|
      if settled then .when (out || moved) (.refLost g)
      else .all [
        .setRef g fun x => { x with readings := l },
        .when (l.length == 4 && readingsAgree l && !out && s.b F.REF_STATUS_INT_SETTLED g) (.all [
          .setRef g fun x => { x with mean := roundDiv l.sum 4 }, .refSettled g true])]]

/-! ### Overload -/

/-- Change the overload events of a modulator. -/
def Act.setOvl (g : Grp) (m : Mod) (f : List Overload → List Overload) : Act :=
  .upd fun s => { s with ovl := s.ovl.set g (s.ovl[g].set m (f s.ovl[g][m])) }

/-- R170: the modulator runs for a function of its own; the monitor converter, 9, always does. -/
def State.modRuns (s : State) (g : Grp) (m : Mod) : Bool :=
  if h : m.val < 8 then s.b F.CV_STATUS_RUNNING g (⟨m, h⟩ : Cv) else if m.val = 8 then s.b F.CV8_STATUS_RUNNING g else true

/-- R170: set the overload bits of a modulator; the monitor converter has none. -/
def Act.ovrNow (g : Grp) (m : Mod) (on : Bool) : Act :=
  if m.val < 8 then .setB F.CV_STATUS_OVR_NOW on g m
  else .when (m.val == 8) (.setB F.CV8_STATUS_OVR_NOW on g)

/-- R138, R179: VREF in volts: of INTERNAL, or of the selected reference. -/
def State.vref (s : State) (g : Grp) (internal : Bool) : ℚ :=
  if internal || s.f F.REF_CFG_SEL g == 0 then Config.point g 0x3A s.clk
  else if s.f F.REF_CFG_SEL g = 1 then Config.point g 0x39 s.clk else Config.point g 0x3B s.clk / 2

/-- R306: the conversion of a monitor slot. -/
def State.slotOfMonitor (s : State) (g : Grp) : Conversion :=
  { node := s.mon[g].node, rng := 0, gain := 0, ref := 1, filt := 0, dec := 3, defer := false, phase := false, trk := 0, dwell := 200, count := 0 }

/-- R167: the conversion that the front end of a modulator serves; none where it serves none, or a calibration run. -/
def State.modConversion (s : State) (g : Grp) (m : Mod) : Option Conversion :=
  if h : m.val < 8 then (if s.modRuns g m then some (s.nowConversion g ⟨m, h⟩) else none)
  else if m.val = 9 then some (s.slotOfMonitor g)
  else
    let n := s.f F.CV8_STATUS_SERVES g
    if h : n < 8 then (if 2 ≤ s.f F.CV8_STATUS_ROLE g then some (s.nowConversion g ⟨n, h⟩) else none) else none

/-- R168: the voltage of the node that a modulator has at its input, and its FS = VREF / 2. -/
def State.modNode (s : State) (g : Grp) (m : Mod) : ℚ :=
  match s.modConversion g m with
  | some c => s.nodeVolts g c.node c.rng c.gain
  | none => 0
def State.modScale (s : State) (g : Grp) (m : Mod) : ℚ :=
  match s.modConversion g m with
  | some c => s.vref g (c.ref == 1) / 2
  | none => s.vref g true / 2

/-- R170: the declaration in whose hold the latest sample falls: the 16 samples after it. -/
def State.modHold (s : State) (g : Grp) (m : Mod) : Option Bool :=
  let k := s.clk / 16
  ((s.ovl[g][m].flatMap Overload.decl).find? fun d => decide (d.1 / 16 < k ∧ k ≤ d.1 / 16 + 16)).map Prod.snd

/-- R170: a modulator declares overload only beyond Vov = 1.1 FS, on the side of its input, and not in a hold. -/
def State.mayDeclare (s : State) (g : Grp) (m : Mod) (positive : Bool) : Bool :=
  let x := s.modNode g m
  s.alive g && s.modRuns g m && (s.modHold g m).isNone && decide (11 / 10 * |s.modScale g m| < |x|) && positive == decide (0 < x)

/-- R170: an overload event begins. -/
def Act.ovrBegin (g : Grp) (m : Mod) : Act := .all [
  .ovrNow g m true,
  if m.val < 8 then .all [.setB F.CV_STATUS_OVR true g m, .count F.CV_STATUS_OVR_COUNT 1 g m]
  else .when (m.val == 8) (.all [.setB F.CV8_STATUS_OVR true g, .count F.CV8_STATUS_OVR_COUNT 1 g])]

/-- R170: a declaration begins an event, or belongs to the event in progress. -/
def Act.ovrDeclare (g : Grp) (m : Mod) (positive : Bool) : Act := .look fun s =>
  .when (s.mayDeclare g m positive) <|
  match s.ovl[g][m] with
  | e :: l =>
    if e.stop = none then .setOvl g m fun _ => { e with decl := (s.clk, positive) :: e.decl } :: l
    else .all [.setOvl g m fun l => ⟨s.clk, none, [(s.clk, positive)]⟩ :: l, .ovrBegin g m]
  | [] => .all [.setOvl g m fun _ => [⟨s.clk, none, [(s.clk, positive)]⟩], .ovrBegin g m]

/-- R170: the overload event in progress ends. Events that no span of R175 can reach any more are forgotten. -/
def Act.ovrEnd (g : Grp) (m : Mod) : Act := .look fun s => .all [
  .setOvl g m fun l => (l.map fun e => if e.stop = none then { e with stop := some s.clk } else e).filter
    fun e => decide (s.clk < (e.stop.getD 0) + 134217728),
  .ovrNow g m false]

/-- R170: an event is in progress, and 64 samples have passed after the end of the hold of its last declaration. -/
def State.ovrOver (s : State) (g : Grp) (m : Mod) : Bool :=
  s.ovl[g][m].any fun e => e.stop == none && e.decl.all fun d => decide (d.1 + 1280 ≤ s.clk)

/-! ### Modulators (R167, R168) -/

/-- R168: the weight of a code, in units of FS / 12. -/
def codeWeight (c : BitVec 4) : Int := 2 * (c.toNat : Int) - 15

/-- R168: the code whose weight lies nearest a fraction of FS. -/
def nearestCode (x : ℚ) : BitVec 4 := BitVec.ofNat 4 (clamp 0 15 (roundQ ((12 * x + 15) / 2))).toNat

/-- R168, R466: a sample of a modulator with input `x` and error `e` so far: the code that its loop gives, as far as the error stays in
bounds, so that the mean of the weights is the mean of the input. -/
def modStep (want : BitVec 4) (x e : ℚ) : BitVec 4 × ℚ :=
  let t := e + x
  let c := if |t - codeWeight want / 12| ≤ Config.modulatorSlack then want else nearestCode t
  (c, t - codeWeight c / 12)

/-- R168, R170, R186: a modulator takes a sample: 15 or 0 in a hold, else what its loop gives. -/
def Act.modSample (g : Grp) (m : Mod) : Act := .look fun s =>
  let x := s.mods[g][m]
  let want := Config.modulatorCode g m (s.clk / 16)
  let y : BitVec 4 × ℚ := match s.modHold g m with
    | some positive => (if positive then 15 else 0, 0)
    | none => if (s.modConversion g m).isSome then modStep want (s.modNode g m / s.modScale g m) x.err else (want, 0)
  .upd fun s => { s with mods := s.mods.set g (s.mods[g].set m ⟨y.1, x.code, y.2⟩) }

/-- R129: the code of sample `k` of a modulator, the latest sample or the one before it. -/
def State.modCode (s : State) (g : Grp) (m : Mod) (k : Nat) : BitVec 4 :=
  if s.clk / 16 ≤ k then s.mods[g][m].code else s.mods[g][m].prev

/-! ### Decimators (R173) -/

/-- R173: the four accumulators take a sample; `mark`: this is an instant of 2 × fout. -/
def Decim.feed (d : Decim) (w : Int) (mark : Bool) : Decim :=
  let a1 := d.acc1 + w
  let a2 := d.acc2 + a1
  let a3 := d.acc3 + a2
  let a4 := d.acc4 + a3
  ⟨a1, a2, a3, a4, if mark then ((a3, a4) :: d.taps).take 13 else d.taps⟩

/-- R173: the third difference of the third accumulator, and the fourth of the fourth, `step` instants apart, from instant `i` back. -/
def Decim.diff3 (d : Decim) (step i : Nat) : Int :=
  let a := fun k => (d.taps.getD (i + k * step) (0, 0)).1
  a 0 - 3 * a 1 + 3 * a 2 - a 3
def Decim.diff4 (d : Decim) (step i : Nat) : Int :=
  let a := fun k => (d.taps.getD (i + k * step) (0, 0)).2
  a 0 - 4 * a 1 + 6 * a 2 - 4 * a 3 + a 4

/-- R466: coefficient `i` (0 to 8) of the droop compensator: symmetric, and of sum 1. -/
def droopTap (i : Nat) : ℚ :=
  if i = 4 then 1 - 2 * (Config.droop 1 + Config.droop 2 + Config.droop 3 + Config.droop 4)
  else Config.droop (if i < 4 then 4 - i else i - 4)

/-- R173: the filtered value, in units of FS. -/
def Decim.value (d : Decim) (filt dec : Nat) : ℚ :=
  let ratio : ℚ := 2 ^ (dec + 7)
  if filt = 0 then d.diff3 2 0 / (12 * ratio ^ 3)
  else if filt = 1 then d.diff4 2 0 / (12 * ratio ^ 4)
  else (((List.range 9).map fun i => droopTap i * d.diff4 1 i).sum) / (12 * (ratio / 2) ^ 4)

/-- R171: the modulator that converts for a converter. -/
def State.modOf (s : State) (g : Grp) (n : Cv) : Mod := if s.onSpare g n then 8 else n.castLE (by decide)

/-- R171, R173: the filter of an open window takes the sample of this modulator edge. -/
def Act.decimate (g : Grp) (n : Cv) : Act := .look fun s =>
  match (s.cv g n).opened with
  | some t =>
    let half := 2 ^ ((s.nowConversion g n).dec + 6)
    .when (decide (t < s.clk)) (.setCv g n fun x => { x with
      dec := x.dec.feed (codeWeight s.mods[g][s.modOf g n].code) ((s.clk - t) / 16 % half == 0) })
  | none => .skip

/-- R306: the window of a monitor slot opens after a dwell of 200 µs. -/
def State.slotWindow (s : State) (g : Grp) : Nat := dwellEnd s.mon[g].slotStart 200

/-- R306: the filter of the monitor converter takes a sample in the window of its slot. -/
def Act.monDecimate (g : Grp) : Act := .look fun s => .when (decide (s.slotWindow g < s.clk)) (.setMon g fun m => { m with
  dec := m.dec.feed (codeWeight s.mods[g][9].code) ((s.clk - s.slotWindow g) / 16 % 512 == 0) })

/-- R234: a tracker's own sinc3 with D = 16 takes a sample of converter n, uncorrected; at 640 kS/s it gives an event, whose instant lies
the filter's delay of 24 samples back and which arrives 14 system clocks after the sample (R128). -/
def Act.trkFilter (g : Grp) (n : Cv) (k : Trk) (cos : Bool) : Act := .look fun s =>
  let x := s.trk[k]
  let mark := s.clk % 256 == 0
  let d := (if cos then x.cosD else x.sinD).feed (codeWeight s.mods[g][s.modOf g n].code) mark
  .all [
    .setTrk k fun x => if cos then { x with cosD := d } else { x with sinD := d },
    .when (mark && decide (4 ≤ d.taps.length))
      (.setTrk k fun x => { x with
        inbox := x.inbox ++ [⟨s.clk - 384, s.clk + 14, roundQ (d.diff3 1 0 * 2 ^ 23 / (12 * 16 ^ 3)), false, cos, 256⟩]
        lastIn := s.clk, spacing := 256 })]

/-- R234: the trackers with TAPS = 1 take the samples of converter n. -/
def Act.trkTaps (g : Grp) (n : Cv) : Act := .each (List.finRange 4) fun k => .look fun s =>
  .when (s.trkLock k != lockOff && (s.trkSrc k == srcSincos || s.trkSrc k == srcResolver) && s.b F.TRK_CFG_TAPS k &&
      (s.modConversion g (s.modOf g n)).isSome) (.all [
    .when (s.f F.TRK_CFG_SEL_A k == convNo g n) (.trkFilter g n k false),
    .when (s.f F.TRK_CFG_SEL_B k == convNo g n) (.trkFilter g n k true)])

/-- R167: a modulator edge: all modulators sample on it. -/
def Act.modEdge (g : Grp) : Act := .look fun s => .when (s.alive g && s.clk % 16 == 0) (.all [
  .each (List.finRange 10) (Act.modSample g), .monDecimate g, .each (List.finRange 8) (Act.decimate g), .each (List.finRange 8) (Act.trkTaps g)])

/-! ### Events in a span (R177) -/

/-- R177: the events of a modulator that reach into a span that ends now. -/
def State.ovlIn (s : State) (g : Grp) (m : Mod) (start : Nat) : List Overload :=
  s.ovl[g][m].filter fun e => decide (e.start ≤ s.clk) && (match e.stop with
    | some t => decide (start < t)
    | none => true)

/-- R177: the polarity of the latest declaration; none without an event. -/
def latestPolarity (l : List Overload) : Option Bool :=
  ((l.flatMap Overload.decl).foldl (fun (a : Option (Nat × Bool)) d =>
    match a with
    | some b => if b.1 < d.1 then some d else some b
    | none => some d) none).map Prod.snd

/-! ### Outputs and records -/

/-- The flag bits of R188. -/
abbrev flagOvr : Nat := 1
abbrev flagSettle : Nat := 2
abbrev flagRef : Nat := 4
abbrev flagInjected : Nat := 8
abbrev flagSpare : Nat := 16
abbrev flagReduced : Nat := 32
abbrev flagCalStep : Nat := 64
abbrev flagFail : Nat := 128

/-- A flag where it holds. -/
def flagIf (c : Bool) (f : Nat) : Nat := if c then f else 0

/-- A record before it has its sequence number (R187). -/
structure Rec where
  sample : Int
  flags : Nat
  entry : Nat
  stamp : Nat
deriving DecidableEq, Repr

/-- R187: cell 0 of a record. -/
def Rec.cell0 (x : Rec) (conv seq : Nat) : DWord :=
  BitVec.ofNat 64 (unsigned 24 x.sample + x.flags % 256 * 2 ^ 24 + x.entry % 16 * 2 ^ 32 + conv % 64 * 2 ^ 36 + seq % 65536 * 2 ^ 48)

/-- R55: SYS.RED of an input takes a record. -/
def Act.storeRed (i : Nat) (c0 c1 : DWord) : Act := .all [
  .setR .SYS_RED_CELL0_LO (c0.setWidth 32) i, .setR .SYS_RED_CELL0_HI ((c0 >>> 32).setWidth 32) i,
  .setR .SYS_RED_STAMP_LO (c1.setWidth 32) i, .setR .SYS_RED_STAMP_HI ((c1 >>> 32).setWidth 32) i]

/-- R229, R234: an output is a source event of the trackers that name its converter: at its stamp instant, and at the supervisor 12 system
clocks after the output instant. Injected outputs, and those of the reduced-service sequence, are none. -/
def Act.trkOutput (g : Grp) (n : Cv) (x : Rec) : Act := .look fun s =>
  let c := s.nowConversion g n
  let delay := if x.flags.testBit 7 then 0 else c.delayClocks
  .trkFeed (convNo g n) false (s.clk - delay) (s.clk + 12) x.sample (x.flags.testBit 0 || x.flags.testBit 1 || x.flags.testBit 7)
    (outputClocks c.dec)

/-- R187, R190, R191, R55, R273: a record takes the converter's next number, goes to the limit monitors whatever its berth does, to its berth, and
in reduced service to SYS.RED (`input`). -/
def Act.record (g : Grp) (n : Cv) (x : Rec) (input : Option Nat) : Act := .look fun s =>
  let c0 := x.cell0 (convNo g n) (s.f F.CV_RECORDS_NEXT_SEQ g n)
  let c1 := BitVec.ofNat 64 x.stamp
  let berth := s.f F.CV_CTRL_BERTH g (s.berthOwner g n)
  .all [
    .setF F.CV_RECORDS_NEXT_SEQ (s.f F.CV_RECORDS_NEXT_SEQ g n + 1) g n,
    .when (x.flags.testBit 7) (.count F.CV_RECORDS_FAILS 1 g n),
    .when (!x.flags.testBit 3 && !x.flags.testBit 5) (.trkOutput g n x),
    .judgeLater (.record { conv := convNo g n, entry := x.entry, sample := x.sample, fail := x.flags.testBit 7
                           injected := x.flags.testBit 3, reduced := x.flags.testBit 5, ovr := x.flags.testBit 0 }),
    match input with
      | some i => .storeRed i c0 c1
      | none => .skip,
    .look fun t => .when (s.released && t.recordLands berth) (.setCv g n fun y => { y with landed := some (s.f F.CV_RECORDS_NEXT_SEQ g n) }),
    .when s.released (.moduleRecord berth c0 c1)]

/-- R55: the input whose SYS.RED entry a record of the sequence takes. -/
def State.redInput (s : State) (g : Grp) (n : Cv) (e : Nat) : Option Nat :=
  if (s.cv g n).reduced then some (16 * g + 2 * n + e) else none

/-- R188, R189: the FAIL record of a failed or cancelled item. -/
def Act.failRecord (g : Grp) (n : Cv) (cause entry : Nat) (injected : Bool) : Act := .look fun s =>
  .record g n {
    sample := cause
    flags := flagFail + flagIf injected flagInjected + flagIf (s.onSpare g n) flagSpare + flagIf s.reducedOn flagReduced
    entry := entry, stamp := s.ns } (if injected then none else s.redInput g n entry)

/-- R181: the reference of the entry was not settled at some sample of a span that began at `start`. -/
def State.refUnsettled (s : State) (g : Grp) (c : Conversion) (start : Nat) : Bool :=
  if c.ref = 0 then !s.b F.REF_STATUS_REF_SETTLED g || decide (start < s.refs[g].refAt)
  else !s.b F.REF_STATUS_INT_SETTLED g || decide (start < s.refs[g].intAt)

/-- R336: the coefficients that correct an output. -/
def State.outputPoint (s : State) (g : Grp) (n : Cv) (c : Conversion) : CalPoint :=
  s.inUse g 0 (if s.onSpare g n then 8 else n) (s.takePath g c.node c.rng c.gain) (s.cv g n).reduced

/-- R172: the stamp of an output. -/
def State.outputStamp (s : State) (c : Conversion) : Nat :=
  if c.phase then unsigned 64 (s.phaseAgo ⟨c.trk % 4, Nat.mod_lt _ (by decide)⟩ c.delayClocks)
  else unsigned 64 ((s.timeAgo c.delayClocks + 2147483648) / 4294967296)

/-- R171 to R188: the record of an output whose filtered value is `y`, in units of FS, in a window opened at `opened`. -/
def State.outputRec (s : State) (g : Grp) (n : Cv) (c : Conversion) (opened : Nat) (entry : Nat) (injected : Bool)
    (y : ℚ) : Rec :=
  let start := max opened (s.clk - c.spanClocks)
  let ovr := latestPolarity (s.ovlIn g (s.modOf g n) start)
  { sample := match ovr with
      | some true => 8388607
      | some false => -8388608
      | none => sampleOf (s.outputPoint g n c) (c.ref == 1 || s.f F.REF_CFG_SEL g == 0) y
    flags := flagIf ovr.isSome flagOvr + flagIf (!injected && (s.cv g n).settle != 0) flagSettle +
      flagIf (s.refUnsettled g c start) flagRef + flagIf injected flagInjected + flagIf (s.onSpare g n) flagSpare +
      flagIf s.reducedOn flagReduced + flagIf (s.cv g n).calStep flagCalStep
    entry := entry
    stamp := s.outputStamp c }

/-! ### The sequence shadow set -/

/-- R193: a node code is reserved. -/
def nodeReserved (node : Nat) : Bool := decide (0x1C ≤ node ∧ node ≤ 0x1F) || decide (0x50 ≤ node ∧ node ≤ 0x7E)

/-- R193: an ENTRY or INJ word is invalid. -/
def entryBad (w : Word) : Bool :=
  nodeReserved (F.CV_ENTRY_NODE.of w) || decide (2 ≤ F.CV_ENTRY_REF.of w) || F.CV_ENTRY_FILT.of w == 3 ||
  decide (14 ≤ F.CV_ENTRY_DEC.of w) ||
  (!nodeIsInput (F.CV_ENTRY_NODE.of w) && (F.CV_ENTRY_RNG.of w != 0 || F.CV_ENTRY_GAIN.of w != 0))

/-- R193: the word index of the first invalid word of the shadow set: SEQ is word 4, ENTRY[e] word 16 + 2e. -/
def State.setBad (s : State) (g : Grp) (n : Cv) : Option Nat :=
  let last := s.f F.CV_SEQ_LAST g n
  ((if s.interleaved g n && last != 0 then [4] else []) ++
   ((List.range (last + 1)).filter (fun e => entryBad (s.r .CV_ENTRY g n e))).map (fun e => 16 + 2 * e)).head?

/-- A refused write to a CV block. -/
def Act.cvRefuse (g : Grp) (n : Cv) : Act := .refuse F.CV_SHADOW_REFUSED g n

/-- R192: a write to a word of the sequence shadow set. -/
def Act.cvShadow (w : RegName) (g : Grp) (n : Cv) (e : Nat) (v : Word) : Act := .look fun s =>
  if s.b F.CV_SHADOW_PENDING g n then .cvRefuse g n else .all [.setR w v g n e, .accept]

/-- R201: the committed set takes effect: every word at once. -/
def Act.cvTake (g : Grp) (n : Cv) : Act := .look fun s => .setCv g n fun x => { x with handed := true, handedAt := s.clk }

/-- R203: no boundary of the converter can come. -/
def State.noBoundary (s : State) (g : Grp) (n : Cv) : Bool :=
  let x := s.cv g n
  x.reduced || x.run == .off || x.run == .idle || x.run == .unserved || (x.next == .idle && (match x.run with
    | .inj _ => true
    | .hold => true
    | _ => false))

/-- R203, R205: a committed set takes effect at once where no boundary can come. A converter that is idle stays without a pass until a start
request also where the new set has RUN = 0, and IDLE then reads 0 (DESIGN CHOICE, log entry 117). -/
def Act.cvTakeNow (g : Grp) (n : Cv) : Act := .look fun s =>
  .when (s.b F.CV_SHADOW_PENDING g n && !(s.cv g n).handed && s.noBoundary g n) (.all [
    .cvTake g n, .look fun t => .when ((t.cv g n).run == .idle) (.setB F.CV_SEQ_STATE_IDLE (t.seqOnce g n) g n)])

/-- R192, R193, R160: a write to COMMIT. -/
def Act.cvCommit (g : Grp) (n : Cv) (v : Word) : Act := .look fun s =>
  if s.b F.CV_SHADOW_PENDING g n || s.governor g n != n then .cvRefuse g n
  else match s.setBad g n with
    | some i => .all [.cvRefuse g n, .setB F.CV_SHADOW_REJECTED true g n, .setF F.CV_SHADOW_REJ_WORD i g n]
    | none => .all [
        .setR .CV_COMMIT v g n, .setB F.CV_SHADOW_PENDING true g n,
        .setCv g n fun x => { x with commitAt := s.clk }, .cvTakeNow g n, .accept]

/-- R203: the mirror takes the shadow set. -/
def Act.cvMirror (g : Grp) (n : Cv) : Act := .look fun s => .all [
  .setR .CVM_SEQ (s.r .CV_SEQ g n) g n,
  .each (List.range 16) fun e => .all [
    .setR .CVM_ENTRY (s.r .CV_ENTRY g n e) g n e, .setR .CVM_ENTRY_T (s.r .CV_ENTRY_T g n e) g n e]]

/-- R203: 12 system clocks after the boundary the hand-over is reported and the set reopens. -/
def Act.cvReported (g : Grp) (n : Cv) : Act := .look fun s => .when ((s.cv g n).handed && decide ((s.cv g n).handedAt + 12 ≤ s.clk)) (.all [
  .cvMirror g n, .setCv g n fun x => { x with handed := false },
  .setB F.CV_SHADOW_PENDING false g n, .setB F.CV_SHADOW_DONE true g n])

/-- R205: the group is lost: a commit is discarded; a hand-over that has taken place stands. -/
def Act.cvSetLost (g : Grp) (n : Cv) : Act := .look fun s => .all [
  .when (s.cv g n).handed (.cvMirror g n), .setCv g n fun x => { x with handed := false },
  .setB F.CV_SHADOW_PENDING false g n]

/-! ### Takes -/

/-- R141: an entry from 0 to LAST of a set names an input. -/
def State.setTakes (s : State) (g : Grp) (n : Cv) (seq entry : RegName) (i : Nat) : Bool :=
  (List.range (F.CV_SEQ_LAST.of (s.r seq g n) + 1)).any fun e => F.CV_ENTRY_NODE.of (s.r entry g n e) == i

/-- R141: the input is taken. -/
def State.taken (s : State) (g : Grp) (i : Nat) : Bool :=
  (List.range 24).any (fun t =>
    (F.CELL_TRACK_SRC.of (s.cellWord g .CELL_TRACK .CELLM_TRACK t) == i) ||
    (s.b F.CELL_SHADOW_PENDING g && F.CELL_TRACK_SRC.of (s.r .CELL_TRACK g t) == i)) ||
  (List.finRange 8).any (fun n => s.cvEnabled g n && s.governor g n == n && (
    (!(s.cv g n).handed && s.setTakes g n .CVM_SEQ .CVM_ENTRY i) ||
    (s.b F.CV_SHADOW_PENDING g n && s.setTakes g n .CV_SEQ .CV_ENTRY i)))

/-- R141, R142: a write to INP.AI.CFG. -/
def Act.inpMode (g : Grp) (i : Ain) (v : Word) : Act := .look fun s =>
  if !s.reducedOn && F.INP_CFG_MODE.of v != s.f F.INP_CFG_MODE g i && s.taken g i then .refuse F.INP_REFUSED_COUNT g
  else .all [.setR .INP_CFG v g i, .accept]

/-! ### The commands -/

def execInpModeWrite (src : Src) (g : Grp) (i : Ain) (v : Word) (s : State) :=
  (Act.writeTo src .INP_CFG g i 0 (Act.inpMode g i v)).done s
def execRefSelWrite (src : Src) (g : Grp) (v : Word) (s : State) := (Act.writeTo src .REF_CFG g 0 0 (Act.refCfg g v)).done s
def execIntSettledTimer (g : Grp) (s : State) := (Act.intSettled g).done s
def execOverloadDeclare (g : Grp) (n : Mod) (positive : Bool) (s : State) := (Act.ovrDeclare g n positive).done s
def execOverloadEventEnd (g : Grp) (n : Mod) (s : State) := (Act.look fun t => .when (t.ovrOver g n) (Act.ovrEnd g n)).done s
def execSequenceHandoverReported (g : Grp) (n : Cv) (s : State) := (Act.cvReported g n).done s
def execCvCommit (src : Src) (g : Grp) (n : Cv) (v : Word) (s : State) :=
  (Act.writeTo src .CV_COMMIT g n 0 (Act.cvCommit g n v)).done s

end Sys2Proof.Machine
end

