-- ==== Sys2Proof/Machine/Sequence.lean ====
section
/-! DEFINITION. What a converter does next: visits and boundaries (R196 to R205), injected conversions (R206 to R211),
disabling and accounting (R212, R213), the moves of work to and from the spare (R344, R424 to R429), PARKED and REDUCED
(R50, R53, R54, R56). -/

namespace Sys2Proof.Machine

/-- R467: the first modulator edge at least 16 system clocks after `t`. -/
def actingEdge (t : Nat) : Nat := (t + 31) / 16 * 16

/-! ### What runs -/

/-- The modulator runs for the converter in this state. -/
def ConvRun.works : ConvRun → Bool
  | .off => false
  | .idle => true
  | .visit => true
  | .inj _ => true
  | .hold => true
  | .stopped => false
  | .restart => true
  | .unserved => false

/-- An injected conversion is in progress. -/
def ConvRun.injecting : ConvRun → Bool
  | .inj _ => true
  | .off | .idle | .visit | .hold | .stopped | .restart | .unserved => false

/-- SEQ_STATE.IDLE: RUN = 1 and no pass in progress. -/
def ConvSt.passless (x : ConvSt) : Bool :=
  x.run == .idle || (x.next == .idle && (x.run.injecting || x.run == .hold || x.run == .stopped))

/-- R170, R167: an overload event ends where its modulator stops. -/
def Act.modStop (g : Grp) (m : Mod) : Act := .look fun s => .when (!s.modRuns g m) (.ovrEnd g m)

/-- The status registers follow what the converter does. -/
def Act.cvStatus (g : Grp) (n : Cv) : Act := .look fun s =>
  let x := s.cv g n
  let spare := s.onSpare g n
  .all [
    .setB F.CV_STATUS_RUNNING (x.run.works && !spare) g n,
    .setB F.CV_STATUS_INJ_ACTIVE (x.run.injecting || x.run == .hold) g n,
    .setB F.CV_SEQ_STATE_IDLE (x.passless && s.seqOnce g n) g n,
    .when spare (.setB F.CV8_STATUS_RUNNING x.run.works g),
    .modStop g (s.modOf g n)]

/-- The converter comes to do something else; a window in progress is abandoned and a SETTLE count ends (R178). -/
def Act.cvRun (g : Grp) (n : Cv) (run : ConvRun) (next : ConvNext) : Act := .look fun s => .all [
  .setCv g n fun x => { x with
    run := run, next := next, began := s.clk, opened := none, dec := .clear, settle := 0
    front := match run with
      | .inj k => k
      | .off | .idle | .visit | .hold | .stopped | .restart | .unserved => x.front },
  .cvStatus g n]

/-- R196: a visit of entry `e` starts. -/
def Act.visit (g : Grp) (n : Cv) (e : Nat) : Act := .all [
  .setF F.CV_STATUS_ENTRY e g n,
  .look fun s => .setF F.CV_SEQ_STATE_REMAIN ((s.entryConversion g n e).count + 1) g n,
  .cvRun g n .visit .idle]

/-- R209: the interrupted visit resumes with the outputs it owes. -/
def Act.resumeVisit (g : Grp) (n : Cv) : Act := .all [
  .setB F.CV_SEQ_STATE_INTERRUPTED false g n, .cvRun g n .visit .idle]

/-- R197: the next nominal visit of a dedicated channel, in the window that stays open. -/
def Act.keepVisit (g : Grp) (n : Cv) (settle : Nat) : Act := .all [
  .look fun s => .setF F.CV_SEQ_STATE_REMAIN ((s.entryConversion g n 0).count + 1) g n,
  .setCv g n fun x => { x with settle := settle }]

/-- The converter goes idle; a start request that waits starts a pass (R214). -/
def Act.goIdle (g : Grp) (n : Cv) : Act := .look fun s =>
  if s.b F.CV_SEQ_STATE_START_PEND g n then .all [.setB F.CV_SEQ_STATE_START_PEND false g n, .visit g n 0]
  else .all [.setF F.CV_SEQ_STATE_REMAIN 0 g n, .cvRun g n .idle .idle]

/-! ### Reports of a run and of a promotion -/

/-- R427 step 4: the promotion is reported. -/
def Act.promotionReport (g : Grp) (n : Cv) : Act := .look fun s =>
  match s.spare[g].report with
  | some (m, before) => .when (decide (m = n) && s.onSpare g n) (.all [
      .upd fun s => { s with spare := s.spare.set g { s.spare[g] with report := none } },
      .repairing, .setB F.FAULT_EVENTS_PROMOTED true,
      .log 18 (convNo g n) (leBytes before 1)])
  | none => .skip

/-- Change what the spare converter's moves hold. -/
def Act.setSpare (g : Grp) (f : SpareSt → SpareSt) : Act := .upd fun s => { s with spare := s.spare.set g (f s.spare[g]) }

/-- R427 step 1: a promotion is decided; it supersedes a pending PROMOTE or RETURN (R428). -/
def Act.promoteDecide (g : Grp) (n : Cv) (before : Nat) : Act := .look fun s => .all [
  .setB F.FAULT_STATUS_REPAIRING true, .setF F.CV8_STATUS_ROLE 3 g, .setF F.CV8_STATUS_SERVES n g,
  .setB F.FAULT_SPARE_PENDING false g,
  .setSpare g fun x => { x with move := .none, promote := some n, promoteAt := s.clk, report := some (n, before) }]

/-- R424: a converter is served. -/
def State.served (s : State) (g : Grp) (n : Cv) : Bool := !s.b F.CV_STATUS_FAILED g n || s.onSpare g n

/-- R344, R348: a run's end without a move of work: the spare is idle again. -/
def Act.calFree (g : Grp) (cause : Nat) (spareStage : Bool) : Act := .all [
  .calEnd g cause spareStage, .setF F.CV8_STATUS_ROLE 0 g, .setB F.CV8_STATUS_RUNNING false g,
  .modStop g 8,
  .setSpare g fun x => { x with move := .none }]

/-- R346: the spare core that stands in for a run returns at the next switching edge. -/
def Act.coreStandBack (g : Grp) : Act := .look fun s =>
  .when (s.f F.DAC_SPARE_ROLE g == 2) (.setMon g fun m => { m with coreReturn := true, coreAt := s.clk })

/-- R426, R348: a run in progress gives way to the promotion for converter `n`, with the spare not serving it. -/
def Act.preempt (g : Grp) (n : Cv) : Act := .look fun s =>
  if s.f F.CV8_STATUS_ROLE g = 1 then
    .all [.calFree g 11 (s.f F.CAL_STATUS_STATE g == 1), .coreStandBack g, .promoteDecide g n 1]
  else
    let x := s.f F.CV8_STATUS_SERVES g
    .all [
      .setCal g fun c => { c with run := c.run.map fun r => { r with verdict := some 11 } },
      .setF F.CAL_STATUS_STATE 6 g,
      .setSpare g fun y => { y with move := .back ⟨x % 8, Nat.mod_lt _ (by decide)⟩ false, moveAt := s.clk, promote := some n }]

/-- R424, R426: a converter is declared failed. -/
def Act.declareFailed (g : Grp) (n : Cv) (cause : Nat) : Act := .look fun s =>
  let role := s.f F.CV8_STATUS_ROLE g
  let serves := s.f F.CV8_STATUS_SERVES g
  .when (!s.b F.CV_STATUS_FAILED g n) <| .all [
    .setB F.CV_STATUS_FAILED true g n, .setBit F.FAULT_CONV_FAILED n g, .setB F.FAULT_EVENTS_CONV_FAILED true,
    .log 17 (convNo g n) (leBytes cause 1),
    .upd fun s => { s with flash := { s.flash with
      convFailed := s.flash.convFailed.set g (s.flash.convFailed[g] ||| 1 <<< n.val) } },
    .when (s.mode repair) <|
      if role = 0 then .promoteDecide g n 0
      else if role = 1 then .preempt g n
      else if role = 2 then
        if serves = n.val then .all [.calEnd g 11 false, .setF F.CV8_STATUS_ROLE 3 g, .setSpare g fun x => { x with move := .none }]
        else .when (s.spare[g].promote == none) (.preempt g n)
      else .skip]

/-- R426, R425: REPAIR enters force, or the spare is free again: the lowest-numbered unserved converter is promoted. -/
def Act.promoteLowest (g : Grp) : Act := .look fun s =>
  .when (s.mode repair && s.alive g && s.f F.CV8_STATUS_ROLE g == 0) <|
    match (List.finRange 8).filter (fun n => !s.served g n) with
    | n :: _ => .promoteDecide g n 0
    | [] => .skip

/-- R424 cause 2: two consecutive runs of a converter rejected with COEFF_RANGE outside the spare stage. -/
def Act.calRangeCheck (g : Grp) (r : CalRun) (cause : Nat) : Act := .look fun s =>
  let k := 1000 + r.target
  .when (r.cls == 0 && cause == 8) <|
    if (assoc s.cal[g].fails k).isSome then .all [
      .setCal g fun c => { c with fails := assocDel c.fails k },
      .declareFailed g ⟨r.target % 8, Nat.mod_lt _ (by decide)⟩ 2]
    else .setCal g fun c => { c with fails := assocSet c.fails k 1 }

/-! ### Moves of work -/

/-- R344, R427, R428: the spare carries the converter's function from here on, or the converter carries it again. -/
def Act.carry (g : Grp) (n : Cv) (spare : Bool) : Act := .all [
  .setB F.CV_STATUS_SPARE_ACTIVE spare g n,
  .when (!spare) (.all [.setB F.CV8_STATUS_RUNNING false g, .modStop g 8]),
  .cvStatus g n, .modStop g (n.castLE (by decide))]

/-- R344 step 4, R428: the spare takes the converter's sequence over. -/
def Act.spareTake (g : Grp) (n : Cv) (role : Nat) : Act := .look fun s => .all [
  .setSpare g fun x => { x with move := .none },
  .setF F.CV8_STATUS_ROLE role g, .setF F.CV8_STATUS_SERVES n g,
  .setCv g n fun x => { x with calStep := true },
  .carry g n true,
  if role = 2 then .all [.setF F.CAL_STATUS_STATE 4 g, .readingBegins g]
  else .all [.calEnd g 11 (s.f F.CAL_STATUS_STATE g == 1), .coreStandBack g, .setB F.FAULT_SPARE_PENDING false g, .setB F.FAULT_EVENTS_PROMOTED true,
    .log 18 (convNo g n) (leBytes (s.f F.CV8_STATUS_ROLE g) 1)]]

/-- R344 step 7, R428: the converter takes its sequence back; a run ends there, and a promotion that waited is decided. -/
def Act.spareBack (g : Grp) (n : Cv) (step : Bool) : Act := .look fun s =>
  let role := s.f F.CV8_STATUS_ROLE g
  let cause := (s.cal[g].run.bind fun r => r.verdict).getD 0
  .all [
    .setSpare g fun x => { x with move := .none },
    .setF F.CV8_STATUS_ROLE 0 g, .setF F.CV8_STATUS_SERVES 15 g,
    .carry g n false,
    if role = 2 then .all [
      .calEnd g cause false, .setCv g n fun x => { x with calStep := x.calStep || cause == 0 },
      match s.cal[g].run with
        | some r => .calRangeCheck g r cause
        | none => .skip]
    else .all [.setB F.FAULT_SPARE_PENDING false g, .setB F.FAULT_EVENTS_RETURNED true,
      .log 19 (convNo g n) (leBytes role 1), .setCv g n fun x => { x with calStep := step }],
    match s.spare[g].promote with
      | some m => .promoteDecide g m 2
      | none => .promoteLowest g]

/-- R204 step 4: a move that waits for a boundary of the converter; `edge`: the converter has no boundary to wait for. -/
def Act.spareMove (g : Grp) (n : Cv) (edge : Bool) : Act := .look fun s =>
  let x := s.spare[g]
  let due := edge || decide (x.moveAt + 16 ≤ s.clk)
  match x.move with
  | .none => .skip
  | .take m role => .when (decide (m = n) && due && (role != 2 || s.f F.CAL_STATUS_STATE g == 3)) (.spareTake g n role)
  | .back m step => .when (decide (m = n) && due) (.spareBack g n step)

/-- R204 step 4: a move takes place at this boundary. -/
def State.moveDue (s : State) (g : Grp) (n : Cv) : Bool :=
  let x := s.spare[g]
  decide (x.moveAt + 16 ≤ s.clk) && (match x.move with
    | .none => false
    | .take m role => decide (m = n) && (role != 2 || s.f F.CAL_STATUS_STATE g == 3)
    | .back m _ => decide (m = n))

/-! ### After an output -/

/-- R208: the lowest pending slot whose acting edge has come. -/
def State.readySlot (s : State) (g : Grp) (n : Cv) : Option (Fin 4) :=
  (List.finRange 4).find? fun k => s.bit F.CV_INJ_REQ_PENDING k g n && decide ((s.cv g n).actAt[k] ≤ s.clk)

/-- Some slot is pending. -/
def State.slotPending (s : State) (g : Grp) (n : Cv) : Bool := s.f F.CV_INJ_REQ_PENDING g n != 0

/-- R53: the converter stops here. One that has nothing to do but to wait for a start request stays idle. -/
def Act.cvStop (g : Grp) (n : Cv) (next : ConvNext) : Act := .look fun s =>
  let idle := next == .idle && !s.slotPending g n && !s.b F.CV_SEQ_STATE_START_PEND g n
  .all [
    .setCv g n fun x => { x with stopping := false },
    .when idle (.setF F.CV_SEQ_STATE_REMAIN 0 g n),
    .cvRun g n (if idle then .idle else .stopped) next]

/-- R53: the converter's stream feeds an enabled limit monitor, so PARKED does not stop it. -/
def State.cvFeeds (s : State) (g : Grp) (n : Cv) : Bool := (s.governed g n).any fun m => s.feedsMonitor (convNo g m)

/-- R53: an idle converter that PARKED keeps from starting anything. It counts as stopped for the requests that reach it (DEDUCED, log
entry 37). -/
def State.parkedIdle (s : State) (g : Grp) (n : Cv) : Bool := (s.cv g n).run == .idle && s.mode parked && !s.cvFeeds g n

/-- R53, R206, R214: the converter is stopped, or stops after the conversion in progress. -/
def State.parkedOut (s : State) (g : Grp) (n : Cv) : Bool :=
  (s.cv g n).run == .stopped || (s.cv g n).stopping || s.parkedIdle g n

/-- R204 steps 4 and 5, R209 step 6: what follows when no injected conversion comes first. A dedicated channel keeps its
window, with the SETTLE count `keep`, unless the work moves. -/
def Act.proceed (g : Grp) (n : Cv) (next : ConvNext) (keep : Option Nat) : Act :=
  match next with
  | .resume => .look fun s => if (s.cv g n).stopping then .cvStop g n .resume else .resumeVisit g n
  | .start e => .look fun s =>
    let moves := s.moveDue g n
    (Act.spareMove g n false).andThen <| .look fun s =>
      if (s.cv g n).stopping then .cvStop g n (.start e)
      else match keep with
        | some k => if moves then .visit g n e else .keepVisit g n k
        | none => .visit g n e
  | .idle => (Act.spareMove g n false).andThen <| .look fun s =>
    if (s.cv g n).stopping then .cvStop g n .idle else .goIdle g n

/-- R208, R204 step 3: pending injected conversions come first, lowest slot first; a slot whose edge has not come holds back
what follows (`wait`). -/
def Act.follow (g : Grp) (n : Cv) (next : ConvNext) (keep : Option Nat) (wait : Bool) : Act := .look fun s =>
  if (s.cv g n).stopping && s.slotPending g n then .cvStop g n next
  else match s.readySlot g n with
    | some k => .cvRun g n (.inj k) next
    | none => if wait && s.slotPending g n then .cvRun g n .hold next else .proceed g n next keep

/-- R178: what a hand-over in a dedicated channel does to the window: none restarts it; else the SETTLE count that follows. -/
def State.keepAfter (s t : State) (g : Grp) (n : Cv) : Option Nat :=
  let a := s.entryConversion g n 0
  let b := t.entryConversion g n 0
  if s.seqLast g n ≠ 0 ∨ t.seqLast g n ≠ 0 ∨ t.seqOnce g n ∨ (s.cv g n).reduced then none
  else if a.node ≠ b.node ∨ a.dec ≠ b.dec ∨ a.dwell ≠ b.dwell ∨ a.phase ≠ b.phase ∨ a.trk ≠ b.trk then none
  else if a.rng ≠ b.rng ∨ a.gain ≠ b.gain ∨ a.filt ≠ b.filt ∨ a.ref ≠ b.ref then some (filterOrder b.filt)
  else some (s.cv g n).settle

/-- R201: the committed set's hand-over boundary is this one. -/
def State.handsOver (s : State) (g : Grp) (n : Cv) (endOfPass : Bool) : Bool :=
  let x := s.cv g n
  s.b F.CV_SHADOW_PENDING g n && !x.handed && !x.reduced && decide (x.commitAt + 16 ≤ s.clk) &&
  (!s.b F.CV_COMMIT_AT g n || endOfPass)

/-- R185: a hand-over of a pair restarts or settles the odd converter's window as it does the even one's; a restart gives a new grid. -/
def Act.pairHandover (g : Grp) (n : Cv) (keep : Option Nat) : Act := .look fun s =>
  .when (s.asPair g n && s.governor g n == n) <|
    match keep with
    | some k => .when ((s.cv g (oddOf n)).run == .visit) (.setCv g (oddOf n) fun x => { x with settle := k })
    | none => .all [
        .setCv g n fun x => { x with grid := none },
        .when ((s.cv g (oddOf n)).run == .visit) (.visit g (oddOf n) 0)]

/-- R199, R200: an advance or a start request has acted. -/
def State.advActed (s : State) (g : Grp) (n : Cv) : Bool :=
  s.b F.CV_SEQ_STATE_ADV_PEND g n && decide ((s.cv g n).advAt < s.clk)
def State.startActed (s : State) (g : Grp) (n : Cv) : Bool :=
  match (s.cv g n).startAt with
  | some t => decide (t < s.clk)
  | none => false

/-- R350: a converter that was to discard its field set does so; its next output carries CAL_STEP. -/
def Act.factoryNow (g : Grp) (n : Cv) : Act := .look fun s => .when (s.cv g n).factory (.all [
  .setCal g fun c => { c with sets := assocDel c.sets (calKey 0 n) },
  .setCv g n fun x => { x with factory := false, calStep := true }])

/-- R196, R202, R204: the entry boundary that ends the visit in progress. -/
def Act.boundary (g : Grp) (n : Cv) : Act := .look fun s0 =>
  let e := s0.f F.CV_STATUS_ENTRY g n
  let restart := s0.startActed g n
  let ends := e == s0.seqLast g n
  let hands := s0.handsOver g n ends
  let old := if hands && s0.b F.CV_COMMIT_AT g n then 0 else if ends then 0 else e + 1
  (Act.all [.when (s0.cellBoundary g n) (.cellTake g), .when hands (.cvTake g n)]).andThen <| .look fun s =>
    let past := decide (s.seqLast g n < old)
    let pass := ends || past
    let once := pass && s.seqOnce g n
    let waiting := s.b F.CV_SEQ_STATE_START_PEND g n
    let next : ConvNext := if restart then .start 0 else if once && !waiting then .idle else .start (if past then 0 else old)
    let keep := s0.keepAfter s g n
    .all [
      .when hands (.pairHandover g n keep), .factoryNow g n,
      .when (s.advActed g n) (.setB F.CV_SEQ_STATE_ADV_PEND false g n),
      .when restart (.setCv g n fun x => { x with startAt := none }),
      .when (pass && waiting) (.setB F.CV_SEQ_STATE_START_PEND false g n),
      .setF F.CV_SEQ_STATE_REMAIN 0 g n,
      .when pass (.setR .CV_PASSES (s.r .CV_PASSES g n + 1) g n),
      .follow g n next keep false]

/-- R196, R53: an output of the visit has been delivered. -/
def Act.afterOutput (g : Grp) (n : Cv) : Act := .look fun s =>
  if s.f F.CV_SEQ_STATE_REMAIN g n = 0 ∨ s.advActed g n ∨ s.startActed g n then .boundary g n
  else .when (s.cv g n).stopping (.cvStop g n .resume)

/-- R178: the value of an output that carries SETTLE lies between the old scale and the new, and is free. -/
def Act.filtered (settling : Bool) (y : ℚ) (f : ℚ → Act) : Act :=
  if settling then .fresh fun b => f ((b.toInt : ℚ) / 2 ^ 62) else f y

/-- R172, R187, R196: the output at an output instant of the visit. -/
def Act.output (g : Grp) (n : Cv) : Act := .look fun s =>
  let e := s.f F.CV_STATUS_ENTRY g n
  let c := s.entryConversion g n e
  match (s.cv g n).opened with
  | some t => .when (s.up && s.alive g && (s.cv g n).run == .visit && s.outputInstant c t) <|
      .filtered ((s.cv g n).settle != 0) ((s.cv g n).dec.value c.filt c.dec) fun y => .all [
        .record g n (s.outputRec g n c t e false y) (s.redInput g n e),
        .setCv g n fun y => { y with settle := y.settle - 1, calStep := false },
        .setF F.CV_SEQ_STATE_REMAIN (s.f F.CV_SEQ_STATE_REMAIN g n - 1) g n,
        .promotionReport g n, .afterOutput g n]
  | none => .skip

/-- R171, R184: the window opens at the end of the dwell, and the filter is cleared. The first window of an interleaved pair sets its grid. -/
def Act.windowOpen (g : Grp) (n : Cv) : Act := .look fun s =>
  match s.windowDue g n with
  | some t => .when (s.up && s.alive g && (s.cv g n).opened == none && decide (t ≤ s.clk ∧ s.clk < t + 16)) (.all [
      .setCv g n fun x => { x with opened := some t, dec := .clear },
      .when (s.asPair g n && (s.cv g n).run == .visit && n.val % 2 == 0)
        (.setCv g n fun x => { x with grid := some (x.grid.getD t) })])
  | none => .skip

/-! ### Requests -/

/-- R199, R200, R425: a request has no effect in this state. -/
def State.ignoresRequests (s : State) (g : Grp) (n : Cv) : Bool :=
  let x := s.cv g n
  !s.cvEnabled g n || x.run == .stopped || s.parkedIdle g n || x.run == .off || x.run == .unserved || s.reducedOn || !s.alive g

/-- R467: a request waits for the first modulator edge at least 16 system clocks after it is applied. -/
def Act.actLater (g : Grp) (n : Cv) (a : CvAct) : Act := .look fun s =>
  .setCv g n fun x => { x with acts := x.acts ++ [(actingEdge s.clk, a)] }

/-- R199: a start request waits for its acting edge. -/
def Act.startRequest (g : Grp) (n : Cv) : Act := .actLater g n .start

/-- R199: a start request acts. -/
def Act.startActs (g : Grp) (n : Cv) : Act := .look fun s =>
  if s.ignoresRequests g n then .count F.CV_SEQ_STATE_IGNORED 1 g n
  else if (s.cv g n).run = .idle then .visit g n 0
  else if s.seqOnce g n || (s.cv g n).passless then
    if s.b F.CV_SEQ_STATE_START_PEND g n then .count F.CV_SEQ_STATE_MERGED 1 g n
    else .setB F.CV_SEQ_STATE_START_PEND true g n
  else .each (s.governed g n) fun m => .setCv g m fun x => { x with startAt := some (x.startAt.getD s.clk) }

/-- R200: an advance request. -/
def Act.advanceRequest (g : Grp) (n : Cv) : Act := .look fun s =>
  if s.ignoresRequests g n || (s.cv g n).passless ||
      ((s.cv g n).run == .restart && s.seqOnce g n && !s.b F.CV_SEQ_STATE_START_PEND g n) then
    .count F.CV_SEQ_STATE_IGNORED 1 g n
  else if s.b F.CV_SEQ_STATE_ADV_PEND g n then .count F.CV_SEQ_STATE_MERGED 1 g n
  else .each (s.governed g n) fun m => .all [
    .setB F.CV_SEQ_STATE_ADV_PEND true g m, .setCv g m fun x => { x with advAt := actingEdge s.clk }]

/-- R206, R425: a request for slot `k`. -/
def Act.injectSlot (g : Grp) (n : Cv) (k : Fin 4) : Act := .look fun s =>
  let x := s.cv g n
  let fail := fun (cause : Nat) => Act.failRecord g n cause k true
  if !s.alive g then fail 3
  else if x.run = .unserved then fail 6
  else if !s.cvEnabled g n then fail 1
  else if s.reducedOn then fail 2
  else if s.parkedOut g n then fail 8
  else if entryBad (s.r .CV_INJ g n k &&& 0xFFBFFFFF) then fail 7
  else if s.f F.CV_INJ_REQ_PENDING g n = 15 then fail 4
  else if s.bit F.CV_INJ_REQ_PENDING k g n then .count F.CV_SEQ_STATE_MERGED 1 g n
  else .all [.setBit F.CV_INJ_REQ_PENDING k g n,
    .setCv g n fun y => { y with actAt := y.actAt.set k (actingEdge s.clk) }]

/-- The slots that a mask names, ascending. -/
def slotsOf (mask : Nat) : List (Fin 4) := (List.finRange 4).filter fun k => mask.testBit k

/-- R206: one request per slot, in ascending order. -/
def Act.inject (g : Grp) (n : Cv) (mask : Nat) : Act := .each (slotsOf mask) (Act.injectSlot g n)

/-- R208, R209, R210: pending slots whose edges have come act, at a modulator edge. A converter that PARKED stops leaves them pending
(R214). -/
def Act.injectAct (g : Grp) (n : Cv) : Act := .look fun s =>
  let x := s.cv g n
  .when (s.released && s.clk % 16 == 0 && !s.parkedOut g n) <|
  match s.readySlot g n with
  | none => .skip
  | some k => match x.run with
    | .idle => .cvRun g n (.inj k) .idle
    | .hold => .cvRun g n (.inj k) x.next
    | .visit => .when (!(s.entryConversion g n (s.f F.CV_STATUS_ENTRY g n)).defer) (.all [
        .setB F.CV_SEQ_STATE_INTERRUPTED true g n, .cvRun g n (.inj k) .resume])
    | .inj _ | .off | .stopped | .restart | .unserved => .skip

/-- R207: a slot is free again. R344 step 3: a run that waits for the last one goes on. -/
def Act.slotFree (g : Grp) (n : Cv) (k : Nat) : Act := .all [
  .clrBit F.CV_INJ_REQ_PENDING k g n,
  .look fun s => .when (!s.slotPending g n && s.f F.CAL_STATUS_STATE g == 2 && (s.cal[g].run.any fun r =>
      r.cls == 0 && r.target == n.val)) (.all [
    .setF F.CAL_STATUS_STATE 3 g, .setSpare g fun x => { x with moveAt := s.clk }])]

/-- R207: the injected output. -/
def Act.injectedOutput (g : Grp) (n : Cv) : Act := .look fun s =>
  match (s.cv g n).run, (s.cv g n).opened with
  | .inj k, some t =>
    let c := s.slotConversion g n k
    .when (s.up && s.alive g && s.outputInstant c t) (.all [
      .record g n (s.outputRec g n c t k true ((s.cv g n).dec.value c.filt c.dec)) none,
      .setCv g n fun y => { y with calStep := false },
      .slotFree g n k, .promotionReport g n,
      .look fun s =>
        if (s.cv g n).stopping then .cvStop g n (s.cv g n).next else .follow g n (s.cv g n).next none true])
  | _, _ => .skip

/-- R211: the cancellation of a slot acts. -/
def Act.cancelSlot (g : Grp) (n : Cv) (k : Fin 4) : Act := .look fun s =>
  let x := s.cv g n
  .when (s.bit F.CV_INJ_REQ_PENDING k g n) (.all [
    .failRecord g n 5 k true, .slotFree g n k,
    .look fun s =>
      if x.run = .inj k ∨ (x.run = .hold ∧ !s.slotPending g n) then
        if x.stopping then .cvStop g n x.next else .follow g n x.next none true
      else .skip])

/-- R211, R467: the slots that a mask names, where they are pending, are cancelled at their acting edge. -/
def Act.cancel (g : Grp) (n : Cv) (mask : Nat) : Act := .each (slotsOf mask) fun k => .look fun s =>
  .when (s.bit F.CV_INJ_REQ_PENDING k g n) (.actLater g n (.cancel k (s.cv g n).actAt[k]))

/-- R206, R211, R76: a write to INJ_REQ: requests first. -/
def Act.injReq (g : Grp) (n : Cv) (req can : Nat) : Act := .look fun s =>
  if !s.released && (req != 0 || can != 0) then .cvRefuse g n
  else .all [.inject g n req, .cancel g n can, .accept]

/-- R199, R200, R76: a write to SEQ_CTL. -/
def Act.seqCtl (g : Grp) (n : Cv) (start advance : Bool) : Act := .look fun s =>
  if s.governor g n != n || (!s.released && (start || advance)) then .cvRefuse g n
  else .all [.when start (.startRequest g n), .when advance (.advanceRequest g n), .accept]

/-- R207: a write to INJ. -/
def Act.injWrite (g : Grp) (n : Cv) (k : Nat) (v : Word) : Act := .look fun s =>
  if s.bit F.CV_INJ_REQ_PENDING k g n then .cvRefuse g n else .all [.setR .CV_INJ (v &&& 0xFFBFFFFF) g n k, .accept]

/-! ### Enabling, disabling, accounting -/

/-- R198, R53: the converter takes its sequence up. In PARKED it waits unless its stream feeds a limit monitor. -/
def Act.cvStart (g : Grp) (n : Cv) : Act := .look fun s =>
  let next : ConvNext := if s.seqOnce g n then .idle else .start 0
  if s.mode parked && !s.cvFeeds g n then .cvStop g n next
  else .all [.setCv g n fun x => { x with stopping := false }, .proceed g n next none]

/-- R198: SEQ_STATE and PASSES restart from their reset values. -/
def Act.seqReset (g : Grp) (n : Cv) : Act := .all [
  .setR .CV_SEQ_STATE 0 g n, .setR .CV_PASSES 0 g n,
  .setCv g n fun x => { x with startAt := none, advAt := 0, stopping := false }]

/-- R345: the target of a run in progress that was disabled when the run started. -/
def State.calHolds (s : State) (g : Grp) (n : Cv) : Bool :=
  s.cal[g].run.any (fun r => r.cls == 0 && r.target == n.val) && s.f F.CV8_STATUS_ROLE g == 0

/-- R198, R184: the enabling edge. An unserved converter (R425), reduced service (R54), a lost group and a run that measures the
converter (R345) leave it where it is. -/
def Act.cvEnable (g : Grp) (n : Cv) : Act := .look fun s =>
  .when ((s.cv g n).run == .off && s.alive g && s.released && !s.reducedOn && !s.calHolds g n && s.served g n)
    (.all [.seqReset g n, .setCv g n fun x => { x with grid := none }, .cvStart g n])

/-- R212, R213, R425, R83: the conversion in progress and the pending slots end with one FAIL record each. -/
def Act.account (g : Grp) (n : Cv) (cause : Nat) : Act := .look fun s => .all [
  match (s.cv g n).run with
    | .visit => .failRecord g n cause (s.f F.CV_STATUS_ENTRY g n) false
    | .inj k => .failRecord g n cause k true
    | .off | .idle | .hold | .stopped | .restart | .unserved => .skip,
  .each (slotsOf (s.f F.CV_INJ_REQ_PENDING g n)) (fun k =>
    .when ((s.cv g n).run != .inj k) (.failRecord g n cause k true)),
  .setF F.CV_INJ_REQ_PENDING 0 g n,
  .setB F.CV_SEQ_STATE_START_PEND false g n, .setB F.CV_SEQ_STATE_ADV_PEND false g n,
  .setB F.CV_SEQ_STATE_INTERRUPTED false g n, .setF F.CV_SEQ_STATE_REMAIN 0 g n,
  .setCv g n fun x => { x with startAt := none, stopping := false }]

/-- R348: a run whose target is disabled, or whose group enters REDUCED or is lost, fails; the spare is free at once. -/
def Act.calFail (g : Grp) (cause : Nat) : Act := .look fun s =>
  .when s.cal[g].run.isSome <|
    let x := s.f F.CV8_STATUS_SERVES g
    .all [
      .when (s.f F.CV8_STATUS_ROLE g == 2) (.carry g ⟨x % 8, Nat.mod_lt _ (by decide)⟩ false),
      .setF F.CV8_STATUS_SERVES 15 g, .calFree g cause (s.f F.CAL_STATUS_STATE g == 1), .coreStandBack g,
      match s.spare[g].promote with
        | some m => .promoteDecide g m 2
        | none => .promoteLowest g]

/-- R212: the cancellation edge. In reduced service nothing configured runs. -/
def Act.cvDisable (g : Grp) (n : Cv) : Act := .look fun s =>
  let calibrated := s.cal[g].run.any fun r => r.cls == 0 && r.target == n.val && !s.calHolds g n
  .when (!(s.cv g n).reduced && (s.cv g n).run != .unserved && ((s.cv g n).run != .off || s.slotPending g n)) (.all [
    .account g n 1, .cvRun g n .off .idle, .cvTakeNow g n, .factoryNow g n,
    .when calibrated (.calFail g 12),
    .spareMove g n true])

/-- R184, R191, R198, R212: a write to CTRL. -/
def Act.cvCtrl (g : Grp) (n : Cv) (v : Word) : Act := .look fun s =>
  let even := n.val % 2 == 0
  let ilv := even && F.CV_CTRL_ILV.of v == 1
  let en := F.CV_CTRL_ENABLE.of v == 1
  let was := s.b F.CV_CTRL_ENABLE g n
  if s.governor g n != n then .cvRefuse g n
  else if ilv != s.b F.CV_CTRL_ILV g n && (was || s.b F.CV_CTRL_ENABLE g (oddOf n) ||
      F.CV_SEQ_LAST.of (s.seqWord g n .CV_SEQ .CVM_SEQ) != 0) then .cvRefuse g n
  else .all [
    .setR .CV_CTRL (F.CV_CTRL_ILV.put v ilv.toNat) g n,
    .look fun s => .when (en != was) (.each (s.governed g n) fun m => .actLater g m (if en then .enable else .disable)),
    .accept]

/-- R212: of an enabling and a later disabling that fall on one edge, the enabling starts nothing. -/
def enablingsThatStand : List CvAct → List CvAct
  | [] => []
  | .enable :: l => if l.contains .disable then enablingsThatStand l else .enable :: enablingsThatStand l
  | a :: l => a :: enablingsThatStand l

/-- R467: what acts at an edge. A cancellation ends only the request that it was written for. -/
def Act.cvAct (g : Grp) (n : Cv) : CvAct → Act
  | .enable => .cvEnable g n
  | .disable => .cvDisable g n
  | .start => .startActs g n
  | .cancel k request => .look fun s => .when ((s.cv g n).actAt[k] == request) (.cancelSlot g n k)

/-- R467: what waits for this modulator edge acts, after the outputs of the edge, in the order applied. -/
def Act.cvEdge (g : Grp) (n : Cv) : Act := .look fun s =>
  let due := (s.cv g n).acts.filter fun a => decide (a.1 ≤ s.clk)
  .when (!due.isEmpty) (.all [
    .setCv g n fun x => { x with acts := x.acts.filter fun a => decide (s.clk < a.1) },
    .each (enablingsThatStand (due.map Prod.snd)) (Act.cvAct g n)])

/-- R428, R214: a move of work of a converter that has no entry boundary takes place at its acting edge, once no slot is pending. -/
def Act.moveEdge (g : Grp) : Act := .look fun s =>
  let x := s.spare[g]
  let go := fun (n : Cv) =>
    let run := (s.cv g n).run
    Act.when ((run == .off || run == .idle || run == .stopped) && !s.slotPending g n && decide (actingEdge x.moveAt ≤ s.clk)) (.spareMove g n true)
  match x.move with
  | .none => .skip
  | .take n _ => go n
  | .back n _ => go n

/-! ### Failed converters and promotions -/

/-- R425: an unserved converter's work is accounted for and its modulator stops. -/
def Act.unserve (g : Grp) (n : Cv) : Act := .look fun s =>
  .when (!s.served g n && (s.cv g n).run != .unserved &&
      !(s.spare[g].promote == some n && s.f F.CV8_STATUS_ROLE g == 3)) (.all [
    .account g n 6, .cvRun g n .unserved .idle, .cvTakeNow g n])

/-- R54: the reduced-service sequence starts at entry 0. PARKED stops it as any other sequence. -/
def Act.reducedStart (g : Grp) (n : Cv) : Act := .look fun s =>
  .when (s.alive g && s.served g n) (.all [
    .setCv g n fun x => { x with reduced := true, stopping := false },
    if s.mode parked && !s.feedsMonitor (convNo g n) then .cvStop g n (.start 0) else .visit g n 0])

/-- A converter that is served again takes up what it should run (R425, R427). -/
def Act.cvServe (g : Grp) (n : Cv) : Act := .look fun s => .when ((s.cv g n).run == .unserved) <|
  if s.reducedOn then .reducedStart g n
  else .all [.cvRun g n .off .idle, .when (s.cvEnabled g n) (.cvEnable g n)]

/-- R427 step 2: the promotion's modulator edge. -/
def Act.promote (g : Grp) : Act := .look fun s =>
  match s.spare[g].promote with
  | none => .skip
  | some n => .when (s.alive g && s.f F.CV8_STATUS_ROLE g == 3 && s.f F.CV8_STATUS_SERVES g == n.val) (.all [
      .setSpare g fun x => { x with promote := none },
      .setCv g n fun x => { x with calStep := true },
      .carry g n true,
      match (s.cv g n).run with
        | .visit => .all [.setB F.CV_SEQ_STATE_INTERRUPTED true g n, .follow g n .resume none true]
        | .inj _ => .follow g n (s.cv g n).next none true
        | .hold => .follow g n (s.cv g n).next none true
        | .unserved => .cvServe g n
        | .off => .when (s.cvEnabled g n) (.cvEnable g n)
        | .idle | .stopped | .restart => .cvStatus g n,
      .look fun t => .when (!((t.cv g n).run == .visit || (t.cv g n).run.injecting || (t.cv g n).run == .hold))
        (.promotionReport g n)])

/-- R424: a write to FAULT.GRP.CONV. -/
def Act.faultConv (g : Grp) (v : Word) : Act := .look fun s =>
  let dec := F.FAULT_CONV_DECLARE.of v
  let clr := F.FAULT_CONV_CLEAR.of v
  if F.FAULT_CONV_KEY.of v ≠ 0xA7 ∨ dec &&& clr ≠ 0 ∨ !(dec != 0 || clr != 0) then .refuse F.FAULT_REFUSED_COUNT
  else .all [
    .each (List.finRange 8) fun n => .when (dec.testBit n) (.declareFailed g n 3),
    .each (List.finRange 8) fun n => .when (clr.testBit n && s.b F.CV_STATUS_FAILED g n) (.all [
      .setB F.CV_STATUS_FAILED false g n, .clrBit F.FAULT_CONV_FAILED n g,
      .upd fun s => { s with flash := { s.flash with
        convFailed := s.flash.convFailed.set g (s.flash.convFailed[g] &&& (255 - 1 <<< n.val)) } },
      .cvServe g n]),
    .accept]

/-- R428: a write to FAULT.GRP.SPARE. -/
def Act.faultSpare (g : Grp) (v : Word) : Act := .look fun s =>
  let n : Cv := ⟨F.FAULT_SPARE_TARGET.of v % 8, Nat.mod_lt _ (by decide)⟩
  let role := s.f F.CV8_STATUS_ROLE g
  let pend := s.b F.FAULT_SPARE_PENDING g
  let pro := F.FAULT_SPARE_PROMOTE.of v == 1
  let ret := F.FAULT_SPARE_RETURN.of v == 1
  let proOk := s.mode repair && role == 0 && !pend && s.alive g
  let retOk := s.mode repair && role == 3 && s.f F.CV8_STATUS_SERVES g == n.val && !s.b F.CV_STATUS_FAILED g n && !pend &&
    s.alive g && s.spare[g].promote == none
  if (pro && !proOk) || (ret && !retOk) then .refuse F.FAULT_REFUSED_COUNT
  else .all [
    .setF F.FAULT_SPARE_TARGET n g,
    .when (pro || ret) (.all [
      .setB F.FAULT_SPARE_PENDING true g,
      .setSpare g fun x => { x with move := if pro then .take n 3 else .back n true, moveAt := s.clk }]),
    .accept]

/-! ### Modes, groups -/

/-- R53: PARKED enters force. -/
def Act.cvPark (g : Grp) (n : Cv) : Act := .look fun s =>
  let x := s.cv g n
  .when (!s.cvFeeds g n) <| match x.run with
    | .visit | .inj _ => .setCv g n fun y => { y with stopping := true }
    | .hold => .cvStop g n x.next
    | .off | .idle | .stopped | .restart | .unserved => .skip

/-- R50, R202: what runs when a set takes effect at a resumption. -/
def Act.resumeWith (g : Grp) (n : Cv) (next : ConvNext) : Act := .look fun s =>
  let e := match next with
    | .resume => s.f F.CV_STATUS_ENTRY g n
    | .start e => e
    | .idle => 0
  if next = .idle then .follow g n .idle none true
  else if s.seqLast g n < e then .all [
    .setR .CV_PASSES (s.r .CV_PASSES g n + 1) g n, .setB F.CV_SEQ_STATE_INTERRUPTED false g n,
    .follow g n (if s.seqOnce g n then .idle else .start 0) none true]
  else .all [
    .setF F.CV_SEQ_STATE_REMAIN (min (s.f F.CV_SEQ_STATE_REMAIN g n) ((s.entryConversion g n e).count + 1)) g n,
    .follow g n next none true]

/-- R53, R50, R214: PARKED leaves force: a stopped converter takes up what it owes, pending slots first. -/
def Act.cvUnpark (g : Grp) (n : Cv) : Act := .look fun s =>
  let x := s.cv g n
  let takes := s.b F.CV_SHADOW_PENDING g n && !x.handed && !x.reduced
  (Act.setCv g n fun y => { y with stopping := false }).andThen <|
  .when (x.run == .stopped && s.alive g) <|
    if takes then .all [.cvTake g n, .resumeWith g n x.next] else .follow g n x.next none true

/-- R213, R54: REDUCED enters force after release. The factory set takes effect (R188). -/
def Act.cvReduce (g : Grp) (n : Cv) : Act := .look fun s => .when (s.alive g) (.all [
  .account g n 2,
  .setCv g n fun x => { x with reduced := true }, .cvTakeNow g n, .factoryNow g n, .setCv g n fun x => { x with calStep := true },
  .when ((s.cv g n).run != .unserved) (.reducedStart g n)])

/-- R56: REDUCED leaves force: the reduced-service conversion is abandoned, and an enabled converter waits for its restart. -/
def Act.cvUnreduce (g : Grp) (n : Cv) : Act := .look fun s => .when (s.cv g n).reduced (.all [
  .setCv g n fun x => { x with reduced := false, freeAt := s.clk, stopping := false, calStep := s.cvEnabled g n },
  .seqReset g n, .setF F.CV_STATUS_ENTRY 0 g n,
  if (s.cv g n).run = .unserved then .skip
  else if s.cvEnabled g n then .cvRun g n .restart .idle
  else .all [.cvRun g n .off .idle, .spareMove g n true]])

/-- R56: the first modulator edge at least 50 µs after REDUCED left force. -/
def State.restartEdge (s : State) (g : Grp) (n : Cv) : Nat := ((s.cv g n).freeAt + 8207) / 16 * 16

/-- R56: the restart: pending slots first, then entry 0. -/
def Act.cvRestart (g : Grp) (n : Cv) : Act := .look fun s =>
  .when ((s.cv g n).run == .restart && s.alive g && decide (s.restartEdge g n ≤ s.clk)) <|
    if s.mode parked && !s.cvFeeds g n then .cvStop g n (if s.seqOnce g n then .idle else .start 0)
    else .follow g n (if s.seqOnce g n then .idle else .start 0) none false

/-- R19, R83, R205: the group is lost or reset. -/
def Act.cvLost (g : Grp) (n : Cv) : Act := .all [
  .account g n 3, .cvSetLost g n, .factoryNow g n,
  .setCv g n fun x => { x with reduced := false },
  .look fun s => .when ((s.cv g n).run != .unserved) (.cvRun g n .off .idle)]

/-- R83: the group returns: each converter restarts at entry 0 with CAL_STEP. PASSES and SEQ_STATE start from 0 as at an enabling
(DESIGN CHOICE, log entry 120). -/
def Act.cvReturn (g : Grp) (n : Cv) : Act := .look fun s => .all [
  .setCv g n fun x => { x with calStep := true },
  if s.reducedOn then .reducedStart g n
  else if s.cvEnabled g n then .cvEnable g n
  else .spareMove g n true]

/-- R429: the failure map is restored: the lowest-numbered failed converter is promoted, the others stay unserved. -/
def Act.restoreFailed (g : Grp) : Act := .look fun s =>
  let l : List Cv := (List.finRange 8).filter fun n => s.flash.convFailed[g].testBit n
  .all [
    .setF F.FAULT_CONV_FAILED s.flash.convFailed[g] g,
    .each l fun (n : Cv) => .all [.setB F.CV_STATUS_FAILED true g n, .cvRun g n .unserved .idle],
    match l with
      | n :: _ => .all [
          .setF F.CV8_STATUS_ROLE 3 g, .setF F.CV8_STATUS_SERVES n g, .setB F.CV_STATUS_SPARE_ACTIVE true g n,
          .cvRun g n .off .idle]
      | [] => .skip]

/-! ### The commands -/
def execWindowOpen (g : Grp) (n : Cv) (s : State) := (Act.windowOpen g n).done s
def execSeqStart (src : Src) (g : Grp) (n : Cv) (s : State) :=
  (Act.writeTo src .CV_SEQ_CTL g n 0 (Act.seqCtl g n true false)).done s
def execSeqAdvance (src : Src) (g : Grp) (n : Cv) (s : State) :=
  (Act.writeTo src .CV_SEQ_CTL g n 0 (Act.seqCtl g n false true)).done s
def execInjectRequest (src : Src) (g : Grp) (n : Cv) (slots : BitVec 4) (s : State) :=
  (Act.writeTo src .CV_INJ_REQ g n 0 (Act.injReq g n slots.toNat 0)).done s
def execInjectAct (g : Grp) (n : Cv) (s : State) := (Act.injectAct g n).done s
def execReducedExitRestart (g : Grp) (n : Cv) (s : State) := (Act.cvRestart g n).done s
def execConvUnserved (g : Grp) (n : Cv) (s : State) := (Act.unserve g n).done s
def execSparePromotion (g : Grp) (s : State) :=
  (Act.look fun t => .when (decide (actingEdge t.spare[g].promoteAt ≤ t.clk)) (.promote g)).done s

end Sys2Proof.Machine
end

