-- ==== Sys2Proof/Machine/Cal.lean ====
section
/-! DEFINITION. Calibration runs and their collisions (R339 to R350), the spare core's switches (R309, R310, R346), the hours
and the crystal (R340, R352). -/

namespace Sys2Proof.Machine

/-- A refused write to the CAL block. -/
def Act.calRefuse : Act := .refuse F.CAL_REFUSED_COUNT

/-- Change the run in progress. -/
def Act.setRun (g : Grp) (f : CalRun → CalRun) : Act := .setCal g fun c => { c with run := c.run.map f }

/-! ### Starting a run -/

/-- How many items a class has. -/
def classSize (cls : Nat) : Nat := if cls = 2 then 12 else if cls = 3 then 0 else 8

/-- R339: a run of the item may start. -/
def State.runMayStart (s : State) (g : Grp) (cls target : Nat) : Bool :=
  s.released && s.f F.CAL_STATUS_STATE g == 0 && !s.bit F.SYS_MODE_EFF_EFF reducedMode && !s.bit F.SYS_MODE_EFF_EFF parked &&
  s.alive g && decide (target < classSize cls) && s.f F.CV8_STATUS_ROLE g == 0 &&
  (cls != 1 || (!s.b F.DAC_STATUS_CORE_FAILED g target && s.f F.DAC_SPARE_ROLE g == 0)) &&
  (cls != 2 || (s.cellFunc g target == 0 && !s.b F.CELL_SHADOW_PENDING g))

/-- The paths of ENTRY or INJ words. -/
def State.pathsOf (s : State) (g : Grp) (l : List Word) : List Nat :=
  l.map fun w => s.takePath g (F.CV_ENTRY_NODE.of w) (F.CV_ENTRY_RNG.of w) (F.CV_ENTRY_GAIN.of w)

/-- R341: the paths of a converter run: path 0, and every take named by the entries in force and by the INJ words. -/
def State.runPaths (s : State) (g : Grp) (n : Cv) : List Nat :=
  let l := s.pathsOf g ((List.range (F.CV_SEQ_LAST.of (s.seqWord g n .CV_SEQ .CVM_SEQ) + 1)).map
      (fun e => s.seqWord g n .CV_ENTRY .CVM_ENTRY e) ++ (List.range 4).map (fun k => s.r .CV_INJ g n k))
  (List.range 33).filter fun p => p == 0 || l.contains p

/-- R345: the target converter of a run is not running. -/
def State.targetIdle (s : State) (g : Grp) (n : Cv) : Bool := (s.cv g n).run == .off || (s.cv g n).run == .unserved

/-- A converter by its number. -/
def cvOf (n : Nat) : Cv := ⟨n % 8, Nat.mod_lt _ (by decide)⟩

/-- R344 to R347, R338: a run starts. -/
def Act.runStart (g : Grp) (cls target : Nat) (background : Bool) : Act := .look fun s =>
  let direct := cls == 0 && s.targetIdle g (cvOf target)
  let stage1 := cls != 2 && !direct
  .all [
    .setCal g fun c => { c with run := some {
      cls := cls, target := target, background := background, paths := if cls = 0 then s.runPaths g (cvOf target) else [0]
      index := 0, refs := [], ofs := [], gains := [], temps := [], formed := none, verdict := none } },
    .setF F.CAL_STATUS_STATE (if stage1 then 1 else 4) g, .readingBegins g,
    .setB F.CAL_STATUS_BACKGROUND background g, .setF F.CAL_STATUS_LAST_CLASS cls g, .setF F.CAL_STATUS_LAST_TARGET target g,
    .when (!direct) (.all [.setF F.CV8_STATUS_ROLE 1 g, .setB F.CV8_STATUS_RUNNING true g]),
    .when (s.externalTrace cls && s.f F.CAL_REF_DECL_DECL g == 0) (.calFree g 3 stage1)]

/-! ### Ending a run -/

/-- The end of a run whose target needs no move back: the spare is free, a converter that was enabled meanwhile starts
(R345). -/
def Act.runOver (g : Grp) (cause : Nat) : Act := .look fun s =>
  match s.cal[g].run with
  | none => .skip
  | some r => .all [
      .calFree g cause false,
      .when (r.cls == 0) (.all [
        .when (cause == 0) (.setCv g (cvOf r.target) fun x => { x with calStep := true }),
        .when (s.cvEnabled g (cvOf r.target)) (.cvEnable g (cvOf r.target))]),
      .calRangeCheck g r cause, .promoteLowest g]

/-- R344 to R348: a run ends with a cause, 0 for an accepted one; a stand-in returns first. -/
def Act.runFinish (g : Grp) (cause : Nat) : Act := .look fun s =>
  match s.cal[g].run with
  | none => .skip
  | some r =>
    let state := s.f F.CAL_STATUS_STATE g
    if state = 6 then .skip
    else if state = 1 then .all [.calFree g cause true, .promoteLowest g]
    else if r.cls = 0 ∧ s.f F.CV8_STATUS_ROLE g = 2 then .all [
      .setRun g fun r => { r with verdict := some cause }, .setF F.CAL_STATUS_STATE 6 g,
      .setSpare g fun x => { x with move := .back (cvOf r.target) (cause == 0), moveAt := s.clk }]
    else if s.f F.DAC_SPARE_ROLE g = 2 then .all [
      .setRun g fun r => { r with verdict := some cause }, .setF F.CAL_STATUS_STATE 6 g, .coreStandBack g]
    else .runOver g cause

/-! ### Readings -/

/-- The measurement that the run's stage makes: the spare converter's own, or the target's. -/
def State.measured (s : State) (g : Grp) (r : CalRun) : CalRun × Nat :=
  if s.f F.CAL_STATUS_STATE g = 1 then ({ r with cls := 0 }, 8) else (r, r.target)

/-- R341: the readings of one measurement. -/
def State.runLength (s : State) (r : CalRun) : Nat := s.f F.CAL_CFG_REPEATS * (3 * r.paths.length + 1)

/-- R341, R137: the node voltage of a calibration voltage at tap 1 through a path, in units of 1/50 µV. -/
def nodeAtTap1 (ref path : Nat) : Nat :=
  if path = 0 then ref * 50
  else ref * (match (path - 1) / 8 with
    | 0 => 200
    | 1 => 50
    | 2 => 5
    | _ => 1) * 2 ^ ((path - 1) % 8)

/-- R338, R341: the checks of a reference reading: 0, or the cause. -/
def State.refVerdict (s : State) (g : Grp) (r : CalRun) (x : Int) : Nat :=
  let d := s.declared g r.cls
  if s.externalTrace r.cls && decide (s.f F.CAL_WINDOW_REF_WIN * d < 10000 * (x - d).natAbs) then 1
  else if s.externalTrace r.cls && decide (((s.f F.CAL_TOL_GAIN_TOL * d : Nat) : Int) < 10000000 * spreadOf (x :: r.refs)) then 2
  else if r.paths.any (fun p => decide (nodeAtTap1 x.toNat p < 62500 * 50)) then 4
  else 0

/-- R341: the run takes a reading: of the reference, then for each path the zero, the calibration voltage through the path,
and the same through path 0. What a reading of the latter three gives is its offset code, for a cell its RUNIT, and the
gain, or for a cell its CUNIT (kept under the path number 100). -/
def CalRun.take (r : CalRun) (temp value : Int) : CalRun :=
  let k := r.index % (3 * r.paths.length + 1)
  let path := (r.paths.drop ((k - 1) / 3)).headD 0
  let r := { r with index := r.index + 1, temps := temp :: r.temps }
  if k = 0 then { r with refs := value :: r.refs }
  else match (k - 1) % 3 with
    | 0 => { r with ofs := (path, value) :: r.ofs }
    | 1 => if r.cls = 2 then { r with gains := (path, value) :: r.gains } else r
    | _ => { r with gains := (if r.cls = 2 then 100 else path, value) :: r.gains }

/-- R334: the third value of a cell's set is the CUNIT that the run measured. -/
def CalRun.withUnit (r : CalRun) (f : FieldSet) : FieldSet :=
  let unit := (meanOf (runOf r.gains 100)).toNat
  let put := fun (p : CalPoint) => if p.temp = meanOf r.temps then { p with aux := unit } else p
  if r.cls = 2 then { f with points := f.points.map put } else f

/-- R344 step 3, R346: the spare's own measurement is accepted; the take-over waits. -/
def Act.stageOver (g : Grp) (r : CalRun) (set : FieldSet) : Act := .look fun s => .all [
  .setCal g fun c => { c with sets := assocSet c.sets (calKey 0 8) set },
  .setRun g fun r => { r with index := 0, refs := [], ofs := [], gains := [], temps := [] },
  if r.cls = 0 then
    if s.spare[g].move != .none then .all [.calFree g 11 true]
    else .all [
      .setF F.CAL_STATUS_STATE (if s.slotPending g (cvOf r.target) then 2 else 3) g,
      .setSpare g fun x => { x with move := .take (cvOf r.target) 2, moveAt := s.clk }]
  else if s.f F.DAC_SPARE_ROLE g ≠ 0 then .calFree g 11 true
  else .all [.setF F.CAL_STATUS_STATE 3 g, .setF F.DAC_SPARE_ROLE 2 g, .setF F.DAC_SPARE_SERVES r.target g,
    .setMon g fun m => { m with coreAt := s.clk }]]

/-- R342, R343: the measurement is complete. -/
def Act.measurementOver (g : Grp) : Act := .look fun s =>
  match s.cal[g].run with
  | none => .skip
  | some r =>
    let m := s.measured g r
    let cause := s.runVerdict g m.1 m.2
    let set := m.1.withUnit (s.formSet g m.1 m.2)
    (Act.calSpread g m.1).andThen <|
    if cause ≠ 0 then .runFinish g cause
    else if s.f F.CAL_STATUS_STATE g = 1 then .stageOver g r set
    else .all [.setRun g fun r => { r with formed := some set }, .setF F.CAL_STATUS_STATE 5 g]

/-- R341: the reading in progress is complete, 14.8 ms after it began. -/
def State.readingDue (s : State) (g : Grp) : Bool :=
  s.alive g && (s.f F.CAL_STATUS_STATE g == 1 || s.f F.CAL_STATUS_STATE g == 4) && decide (s.cal[g].readAt + 2424832 ≤ s.clk)

/-- R341, R342: a reading completes. -/
def Act.calReading (g : Grp) (value : Int) (ovr : Bool) : Act := .look fun s =>
  match s.cal[g].run with
  | none => .skip
  | some r =>
    let isRef := r.index % (3 * r.paths.length + 1) == 0
    let cause := if ovr then 7 else if isRef then s.refVerdict g r value else 0
    .when (s.readingDue g) (.all [
      .readingBegins g,
      .when isRef (.setF F.CAL_REF_READ_READ (clamp 0 8388607 value).toNat g),
      .setRun g fun r => r.take s.cal[g].temp value,
      if cause ≠ 0 then .runFinish g cause
      else .when (decide (s.runLength r ≤ r.index + 1)) (.measurementOver g)])

/-- R343: the new set is written and verified in flash. -/
def Act.setStored (g : Grp) (good : Bool) : Act := .look fun s =>
  .when (s.f F.CAL_STATUS_STATE g == 5) (.runFinish g (if good then 0 else 10))

/-! ### The spare core -/

/-- R346: the switching edge of a core run's stand-in, or of its return. -/
def Act.standIn (g : Grp) : Act := .look fun s =>
  let o := s.f F.DAC_SPARE_SERVES g
  if s.mon[g].coreReturn then .all [
    .setB F.DAC_STATUS_SPARE_ACTIVE false g o, .setF F.DAC_SPARE_ROLE 0 g, .setF F.DAC_SPARE_SERVES 15 g,
    .setMon g fun m => { m with coreReturn := false },
    match s.cal[g].run.bind fun r => r.verdict with
      | some cause => .runOver g cause
      | none => .skip,
    match s.spare[g].core with
      | some k => .all [.setSpare g fun x => { x with core := none }, .coreHandover g k false]
      | none => .skip]
  else .all [.setB F.DAC_STATUS_SPARE_ACTIVE true g o, .setF F.CAL_STATUS_STATE 4 g, .readingBegins g]

/-- R309 steps 3 and 4, R346: the amplifier input moves at one conversion-clock edge. -/
def Act.coreEdge (g : Grp) : Act := .look fun s =>
  if s.f F.DAC_SPARE_ROLE g = 2 then
    .when (s.alive g && s.coreReady g && !s.b F.DAC_STATUS_RANGE_BUSY g (s.f F.DAC_SPARE_SERVES g)) (.standIn g)
  else .coreSwitch g

/-- R308, R348: a slot 13 reading; a core found failed while a core run goes on preempts it. -/
def Act.coreReading (g : Grp) (x : Int) : Act := .look fun s =>
  let coreRun := s.cal[g].run.any fun r => r.cls == 1
  (Act.coreCheck g x).andThen <| .look fun t =>
    match t.mode repair && coreRun && t.f F.FAULT_CORE_FAILED g != s.f F.FAULT_CORE_FAILED g, s.mon[g].rbWait with
    | true, o :: _ =>
      if s.f F.DAC_SPARE_ROLE g = 2 then .all [.runFinish g 11, .setSpare g fun y => { y with core := some o }]
      else .all [.calFree g 11 (s.f F.CAL_STATUS_STATE g == 1), .promoteLowest g]
    | _, _ => .skip

/-! ### Writes -/

/-- R350: the item's field set is discarded. -/
def Act.factorySet (g : Grp) (cls target : Nat) : Act := .look fun s =>
  let running := cls == 0 && decide (target < 8) && (s.cv g (cvOf target)).run.works && !(s.cv g (cvOf target)).reduced &&
    (s.fieldSet g 0 target).isSome
  .when (decide (target < classSize cls)) <|
    if running then .setCv g (cvOf target) fun x => { x with factory := true }
    else .setCal g fun c => { c with sets := assocDel c.sets (calKey cls target) }

/-- R339, R348, R350: a write to CAL.GRP.CTRL; ABORT prevails over RUN. -/
def Act.calCtrl (g : Grp) (v : Word) : Act := .look fun s =>
  let cls := F.CAL_CTRL_CLASS.of v
  let target := F.CAL_CTRL_TARGET.of v
  let abort := F.CAL_CTRL_ABORT.of v == 1
  let run := F.CAL_CTRL_RUN.of v == 1 && !abort
  let factory := F.CAL_CTRL_FACTORY.of v == 1
  if (factory && s.f F.CAL_STATUS_STATE g != 0) || (run && !s.runMayStart g cls target) then .calRefuse
  else .all [
    .setR .CAL_CTRL (v &&& 0x3F0) g,
    .when abort (.runFinish g 15), .when factory (.factorySet g cls target), .when run (.runStart g cls target false),
    .accept]

/-- R338, R348: a write to REF_DECL. -/
def Act.refDecl (g : Grp) (v : Word) : Act := .look fun s =>
  if s.f F.CAL_STATUS_STATE g ≠ 0 ∨ (F.CAL_REF_DECL_DECL.of v ≠ 0 ∧
      (F.CAL_REF_DECL_DECL.of v < 1000000 ∨ 5000000 < F.CAL_REF_DECL_DECL.of v)) then .calRefuse
  else .all [.setR .CAL_REF_DECL v g, .accept]

/-- R340: the item is due. -/
def State.runDue (s : State) (g : Grp) (cls target : Nat) : Bool :=
  let hours := (s.r .CAL_HOURS).toNat
  let formed := match s.fieldSet g cls target with
    | some f => f.hours
    | none => 0
  let retry := (assoc s.cal[g].retry (calKey cls target)).getD 0
  decide (s.f F.CAL_INTERVAL_INTERVAL ≤ hours - formed ∧ retry ≤ hours)

/-- R340: an item for which the controller may start a background run. -/
def State.backgroundDue (s : State) (g : Grp) (cls target : Nat) : Bool :=
  s.mode calibrate && s.f F.CAL_INTERVAL_INTERVAL != 0 && decide (cls < 2 ∧ target < 8) && s.runDue g cls target && s.runMayStart g cls target

/-- R340: the item whose turn it is: the first after the last one, of converters 0 to 7 and then cores 0 to 7. -/
def State.backgroundTurn (s : State) (g : Grp) : Option Nat :=
  ((List.range 16).map fun i => (s.cal[g].turn + 1 + i) % 16).find? fun k => s.backgroundDue g (k / 8) (k % 8)

/-- R340: a background run starts, for the item whose turn it is. -/
def Act.backgroundStart (g : Grp) (cls target : Nat) : Act := .look fun s =>
  .when (decide (target < 8) && s.backgroundTurn g == some (cls * 8 + target)) (.all [
    .setCal g fun c => { c with turn := cls * 8 + target }, .runStart g cls target true])

/-- R348: a commit of the cell set during a cell run aborts the run. -/
def Act.cellCommitRun (g : Grp) (v : Word) : Act := .look fun s =>
  (Act.cellCommit g v).andThen <| .look fun t =>
    .when (!s.b F.CELL_SHADOW_PENDING g && t.b F.CELL_SHADOW_PENDING g && s.cal[g].run.any (fun r => r.cls == 2))
      (.runFinish g 15)

/-- R340: CAL.HOURS counts a whole operating hour, 589,824,000,000 system clocks. -/
def Act.hoursTick : Act := .look fun s => .when (s.up && decide (s.pwr.hourDue ≤ s.clk)) (.all [
  .setR .CAL_HOURS (s.r .CAL_HOURS + 1),
  .upd fun s => { s with pwr := { s.pwr with hourDue := s.pwr.hourDue + 589824000000 } }])

/-- R352: the mean of RATE over the last 16 s, or since the start. -/
def State.rateMean (s : State) : Int :=
  let start := s.clk - 2621440000
  let sum := s.tim.anchors.foldl (fun (a : Int × Nat) e => (a.1 + e.2.2 * ((a.2 - max start e.1 : Nat) : Int), min a.2 (max start e.1))) (0, s.clk)
  roundDiv sum.1 (s.clk - start)

/-- R352: while LOCKED, CAL.XTAL reports the deviation of the crystal from the mean of RATE, in 0.01 ppm: RATE is in units
of 2^-32 ns per clock of 400,000 × 2^-16 ns (R216), and a fast crystal needs a negative correction. -/
def Act.xtal : Act := .look fun s => .when s.up <|
  if s.f F.TIME_STATE_STATE = 2 then .all [
    .setF F.CAL_XTAL_DEV (unsigned 24 (clamp (-8388608) 8388607 (roundDiv (-s.rateMean * 1000) 262144))),
    .setB F.CAL_XTAL_VALID true]
  else .setB F.CAL_XTAL_VALID false

/-- R348, R83: the group is lost: its run fails, and a core's stand-in ends. -/
def Act.calLost (g : Grp) : Act := .all [
  .look fun s => .when (s.f F.DAC_SPARE_ROLE g == 2) (.all [
    .setB F.DAC_STATUS_SPARE_ACTIVE false g (s.f F.DAC_SPARE_SERVES g),
    .setF F.DAC_SPARE_ROLE 0 g, .setF F.DAC_SPARE_SERVES 15 g,
    match s.spare[g].core with
      | some k => .all [.setSpare g fun x => { x with core := none }, .coreHandover g k false]
      | none => .skip]),
  .calFail g 14]

/-! ### The commands -/

def execCalRefDeclWrite (src : Src) (g : Grp) (v : Word) (s : State) :=
  (Act.writeTo src .CAL_REF_DECL g 0 0 (Act.refDecl g v)).done s
def execCalHoursTick (s : State) := Act.hoursTick.done s
def execXtalDeviationUpdate (_ : Computed) (s : State) := Act.xtal.done s

end Sys2Proof.Machine
end

