-- ==== Sys2Proof/Machine/Crypto.lean ====
section
/-! DEFINITION. The cryptographic checks that the spec takes from other standards (R90, R91, R96): SHA-256 of FIPS 180-4,
ECDSA over P-256 of FIPS 186-5, AES-256-GCM of SP 800-38D. The keys stand in State (R92). -/

namespace Sys2Proof.Machine

/-! ### SHA-256 -/

/-- FIPS 180-4, 4.2.2: the constants, eight to a row. -/
def shaK : List (List (BitVec 32)) :=
  [[0x428A2F98, 0x71374491, 0xB5C0FBCF, 0xE9B5DBA5, 0x3956C25B, 0x59F111F1, 0x923F82A4, 0xAB1C5ED5],
   [0xD807AA98, 0x12835B01, 0x243185BE, 0x550C7DC3, 0x72BE5D74, 0x80DEB1FE, 0x9BDC06A7, 0xC19BF174],
   [0xE49B69C1, 0xEFBE4786, 0x0FC19DC6, 0x240CA1CC, 0x2DE92C6F, 0x4A7484AA, 0x5CB0A9DC, 0x76F988DA],
   [0x983E5152, 0xA831C66D, 0xB00327C8, 0xBF597FC7, 0xC6E00BF3, 0xD5A79147, 0x06CA6351, 0x14292967],
   [0x27B70A85, 0x2E1B2138, 0x4D2C6DFC, 0x53380D13, 0x650A7354, 0x766A0ABB, 0x81C2C92E, 0x92722C85],
   [0xA2BFE8A1, 0xA81A664B, 0xC24B8B70, 0xC76C51A3, 0xD192E819, 0xD6990624, 0xF40E3585, 0x106AA070],
   [0x19A4C116, 0x1E376C08, 0x2748774C, 0x34B0BCB5, 0x391C0CB3, 0x4ED8AA4A, 0x5B9CCA4F, 0x682E6FF3],
   [0x748F82EE, 0x78A5636F, 0x84C87814, 0x8CC70208, 0x90BEFFFA, 0xA4506CEB, 0xBEF9A3F7, 0xC67178F2]]

/-- FIPS 180-4, 5.3.3: the initial hash value. -/
def shaInit : List (BitVec 32) := [0x6A09E667, 0xBB67AE85, 0x3C6EF372, 0xA54FF53A, 0x510E527F, 0x9B05688C, 0x1F83D9AB, 0x5BE0CD19]

def rotr (x : BitVec 32) (n : Nat) : BitVec 32 := x.rotateRight n

/-- One round: the working variables a to h, and the sum of the constant and the schedule word. -/
def shaRound (v : List (BitVec 32)) (kw : BitVec 32) : List (BitVec 32) :=
  match v with
  | [a, b, c, d, e, f, g, h] =>
    let t1 := h + (rotr e 6 ^^^ rotr e 11 ^^^ rotr e 25) + ((e &&& f) ^^^ (~~~e &&& g)) + kw
    let t2 := (rotr a 2 ^^^ rotr a 13 ^^^ rotr a 22) + ((a &&& b) ^^^ (a &&& c) ^^^ (b &&& c))
    [t1 + t2, a, b, c, d + t1, e, f, g]
  | v => v

/-- The next word of the message schedule, from the sixteen before it, latest first. -/
def shaNext (w : List (BitVec 32)) : BitVec 32 :=
  let x := (w.drop 14).headD 0
  let y := (w.drop 1).headD 0
  (rotr y 17 ^^^ rotr y 19 ^^^ (y >>> 10)) + (w.drop 6).headD 0 + (rotr x 7 ^^^ rotr x 18 ^^^ (x >>> 3)) +
    (w.drop 15).headD 0

/-- The rounds that remain: each takes the oldest of the sixteen schedule words (latest first) and adds one. -/
def shaRounds : List (BitVec 32) → List (BitVec 32) → List (BitVec 32) → List (BitVec 32)
  | [], _, v => v
  | k :: ks, w, v => shaRounds ks ((shaNext w :: w).take 16) (shaRound v (k + (w.drop 15).headD 0))

/-- A big-endian number. -/
def beNat (l : List Byte) : Nat := leNat l.reverse

/-- The 32-bit words of a block, big-endian. -/
def beWords : List Byte → List (BitVec 32)
  | a :: b :: c :: d :: l => BitVec.ofNat 32 (beNat [a, b, c, d]) :: beWords l
  | _ => []

/-- One block of 64 bytes. -/
def shaBlock (h : List (BitVec 32)) (b : List Byte) : List (BitVec 32) :=
  List.zipWith (· + ·) h (shaRounds shaK.flatten (beWords b).reverse h)

/-- The blocks of a padded message. -/
def shaBlocks : Nat → List (BitVec 32) → List Byte → List (BitVec 32)
  | 0, h, _ => h
  | n + 1, h, m => shaBlocks n (shaBlock h (m.take 64)) (m.drop 64)

/-- SHA-256 of a message, as a number. -/
def sha256 (m : List Byte) : Nat :=
  let pad := (119 - m.length % 64) % 64
  let p := m ++ [0x80] ++ List.replicate pad 0 ++ (leBytes (8 * m.length) 8).reverse
  (shaBlocks (p.length / 64) shaInit p).foldl (fun n w => n * 2 ^ 32 + w.toNat) 0

/-! ### ECDSA over P-256 -/

abbrev p256 : Nat := 0xFFFFFFFF00000001000000000000000000000000FFFFFFFFFFFFFFFFFFFFFFFF
abbrev p256n : Nat := 0xFFFFFFFF00000000FFFFFFFFFFFFFFFFBCE6FAADA7179E84F3B9CAC2FC632551
abbrev p256b : Nat := 0x5AC635D8AA3A93E7B3EBBD55769886BC651D06B0CC53B0F63BCE3C3E27D2604B
abbrev p256x : Nat := 0x6B17D1F2E12C4247F8BCE6E563A440F277037D812DEB33A0F4A13945D898C296
abbrev p256y : Nat := 0x4FE342E2FE1A7F9B8EE7EB4A7C0F9E162BCE33576B315ECECBB6406837BF51F5

/-- A power modulo `m`, by `k` squarings. -/
def powMod (m : Nat) : Nat → Nat → Nat → Nat
  | 0, _, _ => 1 % m
  | k + 1, a, e => (if e % 2 = 1 then a else 1) * powMod m k (a * a % m) (e / 2) % m

/-- The inverse modulo a prime. -/
def invMod (m a : Nat) : Nat := powMod m 256 (a % m) (m - 2)

/-- A point of the curve; none is the point at infinity. -/
abbrev Point := Option (Nat × Nat)

/-- The sum of two points of y² = x³ − 3x + b. -/
def pointAdd : Point → Point → Point
  | none, q => q
  | p, none => p
  | some (x, y), some (u, v) =>
    if x = u ∧ (y + v) % p256 = 0 then none else
    let l := if x = u then (3 * x * x + (p256 - 3)) * invMod p256 (2 * y) % p256
      else (v + (p256 - y)) * invMod p256 (u + (p256 - x)) % p256
    let z := (l * l + (p256 - x) + (p256 - u)) % p256
    some (z, (l * (x + (p256 - z)) + (p256 - y)) % p256)

/-- A multiple of a point, by `k` doublings. -/
def pointMul : Nat → Nat → Point → Point
  | 0, _, _ => none
  | k + 1, e, p => pointAdd (if e % 2 = 1 then p else none) (pointMul k (e / 2) (pointAdd p p))

/-- FIPS 186-5, 6.4.2: the signature (r, s) over a 256-bit digest verifies against the public key. -/
def ecdsaVerify (key : Nat × Nat) (e r s : Nat) : Bool :=
  decide (0 < r ∧ r < p256n ∧ 0 < s ∧ s < p256n) &&
  let w := invMod p256n s
  match pointAdd (pointMul 256 (e * w % p256n) (some (p256x, p256y))) (pointMul 256 (r * w % p256n) (some key)) with
  | none => false
  | some (x, _) => x % p256n == r

/-! ### AES-256-GCM -/

/-- Multiplication by x in GF(2^8). -/
def xtime (a : Nat) : Nat := if a < 128 then 2 * a else (2 * a) ^^^ 0x11B

/-- Multiplication in GF(2^8). -/
def gfMul : Nat → Nat → Nat → Nat
  | 0, _, _ => 0
  | k + 1, a, b => (if b % 2 = 1 then a else 0) ^^^ gfMul k (xtime a) (b / 2)

/-- The power a^(2^k − 2), for k = 8 the inverse. -/
def gfPow : Nat → Nat → Nat
  | 0, _ => 1
  | k + 1, a => let q := gfMul 8 a a; gfMul 8 q (gfPow k q)

/-- FIPS 197: the S-box: the inverse, then the affine map. -/
def sbox (a : Nat) : Nat :=
  let i := gfPow 7 a
  let r := fun k => (i <<< k ||| i >>> (8 - k)) % 256
  i ^^^ r 1 ^^^ r 2 ^^^ r 3 ^^^ r 4 ^^^ 0x63

def xorBytes (a b : List Nat) : List Nat := List.zipWith (· ^^^ ·) a b

/-- The words of the key schedule from the eight before (latest first): word number `i`. -/
def keyWords : Nat → Nat → Nat → List (List Nat) → List (List Nat)
  | 0, _, _, w => w
  | n + 1, i, rcon, w =>
    let t := w.headD []
    let u := if i % 8 = 0 then xorBytes ((t.drop 1 ++ t.take 1).map sbox) [rcon, 0, 0, 0]
      else if i % 8 = 4 then t.map sbox else t
    keyWords n (i + 1) (if i % 8 = 0 then xtime rcon else rcon) (xorBytes u ((w.drop 7).headD []) :: w)

/-- A list in pieces of `n`. -/
def pieces {α : Type} (n : Nat) : Nat → List α → List (List α)
  | 0, _ => []
  | k + 1, l => l.take n :: pieces n k (l.drop n)

/-- The fifteen round keys of a 32-byte key. -/
def roundKeys (key : List Nat) : List (List Nat) :=
  let w := (keyWords 52 8 1 (pieces 4 8 key).reverse).reverse
  (pieces 4 15 w).map List.flatten

/-- The state is 16 bytes, column by column. -/
def shiftRows (s : List Nat) : List Nat := (List.range 16).map fun i => (s.drop ((i + 4 * (i % 4)) % 16)).headD 0

def mixColumn (c : List Nat) : List Nat :=
  (List.range 4).map fun i =>
    let a := fun k => (c.drop ((i + k) % 4)).headD 0
    xtime (a 0) ^^^ xtime (a 1) ^^^ a 1 ^^^ a 2 ^^^ a 3

def mixColumns (s : List Nat) : List Nat := ((pieces 4 4 s).map mixColumn).flatten

/-- The rounds after the first key: the last one has no MixColumns. -/
def aesRounds : List (List Nat) → List Nat → List Nat
  | [], s => s
  | [k], s => xorBytes (shiftRows (s.map sbox)) k
  | k :: ks, s => aesRounds ks (xorBytes (mixColumns (shiftRows (s.map sbox))) k)

/-- AES-256 of one block under an expanded key. -/
def aesBlock (rk : List (List Nat)) (b : List Nat) : List Nat := aesRounds (rk.drop 1) (xorBytes b (rk.headD []))

/-- A number as 16 bytes, big-endian. -/
def be16 (n : Nat) : List Nat := ((leBytes n 16).reverse).map (·.toNat)

/-- The number that bytes stand for, big-endian. -/
def beOf (l : List Nat) : Nat := l.foldl (fun n b => n * 256 + b) 0

/-- SP 800-38D, 6.3: multiplication in GF(2^128), bit 0 the leftmost. -/
def ghashMul : Nat → Nat → Nat → Nat
  | 0, _, _ => 0
  | k + 1, x, v => (if x.testBit k then v else 0) ^^^
      ghashMul k x (if v % 2 = 0 then v / 2 else v / 2 ^^^ 0xE1 * 2 ^ 120)

/-- Zeros up to a multiple of 16 bytes. -/
def pad16 (l : List Nat) : List Nat := l ++ List.replicate ((16 - l.length % 16) % 16) 0

def ghash (h : Nat) (l : List Nat) : Nat :=
  (pieces 16 (l.length / 16) l).foldl (fun y b => ghashMul 128 (y ^^^ beOf b) h) 0

/-- The key stream blocks from counter `c` of a 12-byte IV. -/
def gcmStream (rk : List (List Nat)) (iv : List Nat) (c : Nat) : Nat → List Nat
  | 0 => []
  | n + 1 => aesBlock rk (iv ++ (be16 c).drop 12) ++ gcmStream rk iv (c + 1) n

/-- SP 800-38D, 7.1: the other of plaintext and ciphertext. -/
def gcmCrypt (key iv text : List Byte) : List Byte :=
  let rk := roundKeys (key.map (·.toNat))
  (xorBytes (text.map (·.toNat)) (gcmStream rk (iv.map (·.toNat)) 2 ((text.length + 15) / 16))).map (BitVec.ofNat 8)

/-- SP 800-38D: the tag over the additional data and the ciphertext, as 16 bytes. -/
def gcmTag (key iv aad cipher : List Byte) : List Byte :=
  let rk := roundKeys (key.map (·.toNat))
  let h := beOf (aesBlock rk (List.replicate 16 0))
  let l := pad16 (aad.map (·.toNat)) ++ pad16 (cipher.map (·.toNat)) ++ (be16 (8 * aad.length)).drop 8 ++
    (be16 (8 * cipher.length)).drop 8
  (xorBytes (be16 (ghash h l)) (aesBlock rk (iv.map (·.toNat) ++ [0, 0, 0, 1]))).map (BitVec.ofNat 8)

end Sys2Proof.Machine
end

