-- ==== Sys2Proof/Machine/Stream.lean ====
section
/-! DEFINITION. Streams (R84 to R96): the checks of a header, of a frame and of a trailer, and the configuration words that
a frame carries (R122 to R125). -/

namespace Sys2Proof.Machine

/-- R109: the codes. -/
abbrev errWrongDevice : Nat := 1
abbrev errBadHeader : Nat := 2
abbrev errBadVersion : Nat := 3
abbrev errWrongKind : Nat := 4
abbrev errKeyInvalid : Nat := 5
abbrev errTruncated : Nat := 6
abbrev errFrameCrc : Nat := 7
abbrev errFrameOrder : Nat := 8
abbrev errBadFrame : Nat := 9
abbrev errRouteConflict : Nat := 10
abbrev errOutOfRegion : Nat := 11
abbrev errReserveRule : Nat := 12
abbrev errDigest : Nat := 13
abbrev errSignature : Nat := 14
abbrev errAuthTag : Nat := 15
abbrev errSlotEmpty : Nat := 16
abbrev errFlash : Nat := 17
abbrev errTargetInvalid : Nat := 18
abbrev errNoFull : Nat := 19
abbrev errAborted : Nat := 20

/-- The first of a list of checks that fails gives the code; 0 where all pass. -/
def firstFailure : List (Bool × Nat) → Nat
  | [] => 0
  | (ok, code) :: l => if ok then firstFailure l else code

/-- Bytes `o` to `o + n − 1` are 0. -/
def zeroBytes (img : List Byte) (o n : Nat) : Bool := imgNat img o n == 0

/-! ### The header -/

/-- R85: fields of a header. -/
def hdrKind (h : List Byte) : Nat := byteAt h 0x0B
def hdrLength (h : List Byte) : Nat := imgNat h 0x0C 4
def hdrMask (h : List Byte) : Nat := imgNat h 0x10 4
def hdrKey (h : List Byte) : Nat := byteAt h 0x14 % 8
def hdrAes (h : List Byte) : Nat := byteAt h 0x14 / 16 % 4
def hdrEncrypted (h : List Byte) : Bool := byteAt h 0x15 % 2 == 1
def hdrFrames (h : List Byte) : Nat := imgNat h 0x16 2
def hdrIv (h : List Byte) : List Byte := (h.drop 0x18).take 12
def hdrBuild (h : List Byte) : Nat := imgNat h 0x24 4

/-- R85, R286: the reserved bits of KEY_INDEX and FLAGS are 0, and IV is 0 where nothing is encrypted. -/
def hdrKeysClean (h : List Byte) : Bool :=
  byteAt h 0x14 &&& 0xC8 == 0 && decide (byteAt h 0x15 < 2) && (hdrEncrypted h || zeroBytes h 0x18 12)

/-- R92, R93 check 7: the keys that a header names may be used. -/
def State.keysValid (s : State) (h : List Byte) : Bool :=
  s.bit F.CFG_KEYS_SIGN_PROG (hdrKey h) && !s.bit F.CFG_KEYS_SIGN_REVOKED (hdrKey h) &&
    (!hdrEncrypted h || s.bit F.CFG_KEYS_AES_PROG (hdrAes h))

/-- R26, R84, R93: the length and the frame count of a stream of a kind. -/
def hdrSizeGood (h : List Byte) : Bool :=
  hdrLength h == 192 + 256 * hdrFrames h && decide (1 ≤ hdrFrames h) &&
    decide (hdrFrames h ≤ if hdrKind h = 1 then 22527 else 639)

/-- R93 check 8: a full stream leaves a reserve in each die; a region stream may be loaded somewhere. -/
def hdrMaskGood (h : List Byte) : Bool :=
  if hdrKind h = 1 then hdrMask h % 65536 != 65535 && hdrMask h / 65536 % 65536 != 65535 else hdrMask h != 0

/-- R93: the checks of a stream's 64 header bytes, in order: 0 where all pass. `kind` is what the operation takes, and
`target` the target of a region load. -/
def State.headerCode (s : State) (h : List Byte) (kind : Nat) (target : Option Nat) : Nat :=
  firstFailure [
    (imgNat h 0 4 == 0x424E5653, errWrongDevice),
    (imgNat h 0x3C 4 == (crc32c (h.take 60)).toNat, errBadHeader),
    (imgNat h 6 2 == s.f F.CFG_ID_FAMILY && imgNat h 8 2 == s.f F.CFG_ID_DEVICE && s.bit F.CFG_REV_COMPAT (byteAt h 0x0A),
      errWrongDevice),
    (byteAt h 5 == s.f F.CFG_REV_FMT_MAJOR, errBadVersion),
    (hdrKind h == kind, errWrongKind),
    (hdrSizeGood h && hdrKeysClean h && zeroBytes h 0x28 20, errBadHeader),
    (s.keysValid h, errKeyInvalid),
    (hdrMaskGood h, errReserveRule),
    (match target with
      | none => true
      | some t => (hdrMask h).testBit t && (s.bit F.CFG_RESERVE_RESERVE t || s.bit F.CFG_HOLD_HOLD t || s.load.held), errTargetInvalid)]

/-! ### Configuration words -/

/-- R106: how many configuration words a region and a die hold (R124, R125). -/
abbrev regionWords : Nat := 17360
abbrev dieWords : Nat := 15872

/-- Sixty-four selects of one bit each are one select: a field at `lo` of `w` bits. -/
abbrev Sel := Nat × Nat

/-- R123: the selects of word `k` of a unit's frame, and the bits its table names; `outlet`: the unit carries one. -/
def unitWord (outlet : Bool) (k : Nat) : List Sel × Nat :=
  if k = 0 then ([], 2 ^ 64 - 1)
  else if k = 1 then ([(3, 2), (16, 8)], 0x00FF3F1F)
  else if k ≤ 19 then ([(0, 64)], 2 ^ 64 - 1)
  else if k ≤ 25 then ([(0, 16), (16, 2), (18, 16), (34, 2), (36, 16), (52, 2)], 2 ^ 54 - 1)
  else if k = 26 then ([(0, 2), (2, 2), (4, 2), (6, 2)], 0xFF)
  else if k = 27 && outlet then ([(0, 64)], 2 ^ 64 - 1)
  else ([], 0)

/-- R124: the same of region word `w`. -/
def regionWord (w : Nat) : List Sel × Nat :=
  if w < 1332 then ([(0, 64)], 2 ^ 64 - 1)
  else if w < 1336 then ([(0, 8), (8, 8)], 0x1FFFF)
  else if w < 1340 then ([(8, 8)], 0xFF1F)
  else ([], 0)

/-- R125: the same of die word `w`. -/
def dieWord (w : Nat) : List Sel × Nat :=
  if w < 5120 then ([(0, 64)], 2 ^ 64 - 1)
  else if w < 5248 then ((List.range 8).map fun n => (8 * n, 8), 2 ^ 64 - 1)
  else if w < 6272 then ([(0, 64)], 2 ^ 64 - 1)
  else if w < 6276 then ([], 2 ^ 32 - 1)
  else ([], 0)

/-- The selects and the named bits of configuration word `w` of a region (frame × 31 + word). -/
def regionWordMap (w : Nat) : List Sel × Nat :=
  if w < 512 * 31 then unitWord (decide (w / 31 % 16 < 8)) (w % 31) else regionWord (w - 512 * 31)

/-- A select of a word. -/
def selOf (v : DWord) (f : Sel) : Nat := v.toNat >>> f.1 % 2 ^ f.2

/-- R95: at most one bit of a select is 1. -/
def selValid (n : Nat) : Bool := n &&& (n - 1) == 0

/-- R120: the limits of a synthesiser word. -/
def synthGood (v : DWord) : Bool :=
  let n := bitsOf v.toNat 0 7
  let f := bitsOf v.toNat 7 16
  let m := bitsOf v.toNat 23 8
  let x := n * 65536 + f
  decide (40 ≤ n ∧ n ≤ 79 ∧ 5 ≤ m) && decide (40 * 65536 ≤ x ∧ x ≤ 80 * 65536) && decide (2048 * x ≤ 20000 * 65536 * m)

/-- R123, R120: what makes a word's contents BAD_FRAME, beside unnamed bits. -/
def wordContentBad (die : Bool) (w : Nat) (v : DWord) : Bool :=
  if die then decide (6272 ≤ w ∧ w < 6276) && !synthGood v
  else decide (w < 512 * 31) && w % 31 == 1 && (bitsOf v.toNat 0 2 == 3 || (v.getLsbD 2 && bitsOf v.toNat 0 2 != 0))

/-! ### Frames -/

/-- R86: the fields of a frame's plaintext. -/
def frameAddr (f : List Byte) : Nat := imgNat f 0 4
def frameWord (f : List Byte) (k : Nat) : DWord := BitVec.ofNat 64 (imgNat f (4 + 8 * k) 8)
def frameWords (f : List Byte) : List DWord := (List.range 31).map (frameWord f)

/-- R87: the space and the fields of an ADDRESS. -/
def addrSpace (a : Nat) : Nat := a / 2 ^ 28
def addrRegion (a : Nat) : Nat := bitsOf a 16 5
def addrDie (a : Nat) : Nat := bitsOf a 20 1
def addrIndex (a : Nat) : Nat := bitsOf a 0 10
def addrRam (a : Nat) : Nat := bitsOf a 10 2

/-- R87: the bits of an ADDRESS that the table names. -/
def addrNamed (a : Nat) : Nat :=
  match addrSpace a with
  | 0 => 0x1F03FF
  | 1 => 0x1F0FFF
  | 2 => 0x1001FF
  | 3 | 4 | 5 => 0x300FF
  | _ => 0

/-- R87, R88: the sub-blocks of a group that a space may write. -/
def spaceBlocks (space : Nat) : List Nat :=
  if space = 3 then [0x0, 0x1, 0xB, 0xC, 0xD, 0xE]
  else if space = 4 then [0x2, 0x3, 0x4, 0x5, 0x6, 0x7, 0x8, 0x9, 0xA]
  else [0xF]

/-- R88: the pairs of a register write list: offset and value, without the padding. -/
def framePairs (f : List Byte) : List (Nat × Word) :=
  ((frameWords f).map fun v => (v.toNat % 2 ^ 32, BitVec.ofNat 32 (v.toNat / 2 ^ 32))).filter
    (fun e => e.1 != 0xFFFFFFFF)

/-- R164: a pair's offset names CELL.COMMIT, CELL.SHADOW, CELL.CLIP_SUMMARY, a STATUS word of an input or a cell, or the active mirror. -/
def pairForbidden (off : Nat) : Bool :=
  decide (0x1500 ≤ off ∧ off ≤ 0x1508) || decide (0x1800 ≤ off ∧ off < 0x2000) ||
  (decide (off < 0x100) && off % 16 == 4) || (decide (0x1000 ≤ off ∧ off < 0x1300) && off % 64 == 0x24)

/-- R88, R164: a pair's offset is aligned, lies in a sub-block of the space, and may be named. -/
def pairGood (space off : Nat) : Bool :=
  off % 4 == 0 && (spaceBlocks space).contains (off / 0x1000) && !(space == 3 && pairForbidden off)

/-- R87: the words that a block RAM frame writes past word 1,023 are 0. -/
def ramTailZero (f : List Byte) : Bool :=
  (List.range 62).all fun i => decide (addrIndex (frameAddr f) + i < 1024) || imgNat f (4 + 4 * i) 4 == 0

/-- The first word of a frame, as a word of its region or die. -/
def frameBase (a : Nat) : Nat := if addrSpace a = 2 then bitsOf a 0 9 * 31 else addrIndex a * 31

/-- The select map of word `k` of a frame of space 0h or 2h. -/
def frameWordMap (a k : Nat) : List Sel × Nat :=
  if addrSpace a = 2 then dieWord (frameBase a + k) else regionWordMap (frameBase a + k)

/-- The words of a frame with their numbers. -/
def numbered (f : List Byte) : List (Nat × DWord) := (List.range 31).map fun k => (k, frameWord f k)

/-- R123 to R125: a bit stands that no table names, or a word's contents are not allowed. A non-zero word that R124 or R125 reserves
counts as such a bit (DEDUCED, log entry 121). -/
def framePayloadBad (f : List Byte) : Bool :=
  let a := frameAddr f
  (numbered f).any fun e =>
    e.2.toNat &&& (2 ^ 64 - 1 - (frameWordMap a e.1).2) != 0 ||
      wordContentBad (addrSpace a == 2) (frameBase a + e.1) e.2

/-- R95, R122: every select of a frame is valid. -/
def frameSelectsGood (f : List Byte) : Bool :=
  (numbered f).all fun e => (frameWordMap (frameAddr f) e.1).1.all fun sl => selValid (selOf e.2 sl)

/-- R102: what makes a frame of a region stream OUT_OF_REGION. -/
def frameOutside (f : List Byte) : Bool :=
  let a := frameAddr f
  decide (1 < addrSpace a) || addrRegion a != 0 || (addrSpace a == 0 && decide (559 < addrIndex a)) ||
    (addrSpace a == 1 && !ramTailZero f)

/-- R87, R88: what makes a frame BAD_FRAME. -/
def frameBad (f : List Byte) : Bool :=
  let a := frameAddr f
  let space := addrSpace a
  a % 2 ^ 28 &&& (2 ^ 28 - 1 - addrNamed a) != 0 ||
  match space with
  | 0 => decide (559 < addrIndex a) || framePayloadBad f
  | 1 => !ramTailZero f
  | 2 => framePayloadBad f
  | 3 | 4 | 5 => !((framePairs f).all fun e => pairGood space e.1)
  | _ => true

/-- R94: the checks of a frame's plaintext in order: 0 where all pass. `last` is the ADDRESS before it. -/
def frameCode (h : List Byte) (last : Option Nat) (f : List Byte) : Nat :=
  let a := frameAddr f
  firstFailure [
    (imgNat f 0xFC 4 == (crc32c (f.take 252)).toNat, errFrameCrc),
    (match last with | none => true | some l => decide (l < a), errFrameOrder),
    (hdrKind h == 1 || !frameOutside f, errOutOfRegion),
    (!frameBad f, errBadFrame),
    (hdrKind h != 1 || decide (1 < addrSpace a) || (hdrMask h).testBit (addrRegion a), errReserveRule),
    (decide (1 ≤ addrSpace a ∧ addrSpace a ≠ 2) || frameSelectsGood f, errRouteConflict)]

/-! ### The body and the trailer -/

/-- R91: the plaintext of a body, `n` bytes of it. -/
def State.plainBody (s : State) (img : List Byte) (n : Nat) : List Byte :=
  let body := (img.drop 64).take n
  if hdrEncrypted img then gcmCrypt s.flash.aesKeys[Fin.ofNat 4 (hdrAes img)] (hdrIv img) body else body

/-- The plaintext of frame `i`. -/
def State.plainFrame (s : State) (img : List Byte) (i : Nat) : List Byte := (s.plainBody img (256 * (i + 1))).drop (256 * i)

/-- R90, R96: the checks of the trailer after a body of `n` bytes: 0 where all pass. Its reserved bytes 70h to 7Fh are not judged, since no
check of R93 to R96 names them (DEDUCED, log entry 124). -/
def State.trailerCode (s : State) (img : List Byte) (n : Nat) : Nat :=
  let t := (img.drop (64 + n)).take 128
  let digest := sha256 (img.take (64 + n))
  firstFailure [
    (beNat (t.take 32) == digest, errDigest),
    (ecdsaVerify (s.flash.signKeys[Fin.ofNat 8 (hdrKey img)]) digest (beNat ((t.drop 32).take 32)) (beNat ((t.drop 64).take 32)), errSignature),
    (if hdrEncrypted img then
        (t.drop 96).take 16 == gcmTag s.flash.aesKeys[Fin.ofNat 4 (hdrAes img)] (hdrIv img) (img.take 64) ((img.drop 64).take n)
      else zeroBytes t 96 16, errAuthTag)]

/-- R99: the pairs of a group frame, as window offsets. -/
def heldPairs (f : List Byte) : List (Nat × Word) :=
  if addrSpace (frameAddr f) ≤ 2 then []
  else (framePairs f).map fun e => (0x100000 + bitsOf (frameAddr f) 16 2 * 0x40000 + e.1, e.2)

/-- R164: frame `i` is the last of space 3h for its group. -/
def State.lastTopology (s : State) (img : List Byte) (i : Nat) : Bool :=
  let a := frameAddr (s.plainFrame img i)
  addrSpace a == 3 && (decide (hdrFrames img ≤ i + 1) || decide (frameAddr (s.plainFrame img (i + 1)) / 2 ^ 16 ≠ a / 2 ^ 16))

/-- The state in which a list of pairs is held in the registers they name. -/
def Act.storePairs (l : List (Nat × Word)) : Act := .each l fun e =>
  match lookupReg e.1 with
  | some r => .setR r.name e.2 r.i r.j r.k
  | none => .skip

/-- R164: the final cell set of a group, as the held pairs would leave it, is valid under R161. -/
def State.topologyGood (s : State) (g : Nat) (l : List (Nat × Word)) : Bool :=
  (((Act.storePairs l).run s).cellSetBad ⟨g % 4, Nat.mod_lt _ (by decide)⟩ none).isNone

/-- R94, R164: the code of frame `i` of a stream: `last` is the ADDRESS before it, `l` the pairs held so far. -/
def State.frameCodeAt (s : State) (img : List Byte) (i : Nat) (last : Option Nat) (l : List (Nat × Word)) : Nat :=
  let f := s.plainFrame img i
  let c := frameCode (img.take 64) last f
  if c ≠ 0 then c
  else if s.lastTopology img i && !s.topologyGood (bitsOf (frameAddr f) 16 2) (l ++ heldPairs f) then errBadFrame
  else 0

/-- The codes of frames `i` to `i + k − 1`: the first failure with its position. -/
def State.framesCode (s : State) (img : List Byte) : Nat → Nat → Option Nat → List (Nat × Word) → Nat × Nat
  | 0, _, _, _ => (0, 0xFFFF)
  | k + 1, i, last, l =>
    let f := s.plainFrame img i
    let c := s.frameCodeAt img i last l
    if c ≠ 0 then (c, i) else s.framesCode img k (i + 1) (some (frameAddr f)) (l ++ heldPairs f)

/-- R94, R96: the frames and the trailer of a whole staged or programmed stream: the code and the position (R100). -/
def State.bodyCode (s : State) (img : List Byte) : Nat × Nat :=
  let n := hdrFrames img
  -- R164: a stream that is staged or programmed is judged on registers at their reset values
  let c := ({ s with regs := [] } : State).framesCode img n 0 none []
  if c.1 ≠ 0 then c else (s.trailerCode img (256 * n), 0xFFFF)

end Sys2Proof.Machine
end

