-- ==== Sys2Proof/Machine/Fabmem.lean ====
section
/-! DEFINITION. What the fabric holds (R106, R111 to R124): configuration words, flip-flops, block RAM; a region in reset. -/

namespace Sys2Proof.Machine

/-- Change what the fabric holds. -/
def Act.setFab (f : FabSt → FabSt) : Act := .upd fun s => { s with fab := f s.fab }

/-- A sparse table of numbers. -/
def tabGet {α : Type} (d : α) (l : List (Nat × α)) (k : Nat) : α := Sparse.get (fun _ => d) l k
def tabSet {α : Type} [DecidableEq α] (d : α) (l : List (Nat × α)) (k : Nat) (v : α) : List (Nat × α) :=
  Sparse.set id (fun _ => d) l k v

/-- The key of word `w` of a region, and of a die. -/
def regionKey (r w : Nat) : Nat := r * regionWords + w
def dieKey (d w : Nat) : Nat := 32 * regionWords + d * dieWords + w

/-- A configuration word. -/
def State.cfgWord (s : State) (key : Nat) : DWord := tabGet 0 s.fab.cfg key
def Act.setCfgWord (key : Nat) (v : DWord) : Act := .setFab fun f => { f with cfg := tabSet 0 f.cfg key v }

/-- The keys of a table outside a range. -/
def tabDrop {α : Type} (l : List (Nat × α)) (lo n : Nat) : List (Nat × α) :=
  l.filter fun e => decide (e.1 < lo ∨ lo + n ≤ e.1)

/-- R89, R99: configuration memory and block RAM are set to 0. -/
def Act.clearConfig : Act := .setFab fun f => { f with cfg := [], bram := [] }

/-- The same of one region. -/
def Act.clearRegion (r : Nat) : Act := .setFab fun f => { f with
  cfg := tabDrop f.cfg (r * regionWords) regionWords
  bram := tabDrop f.bram (r * 4096) 4096 }

/-- R123: word `k` of local unit `n` (cluster × 16 + unit) of region `r`. -/
def State.unitWord (s : State) (r n k : Nat) : DWord := s.cfgWord (regionKey r (n * 31 + k))

/-- R124: region word `w` of region `r`. -/
def State.regionWord (s : State) (r w : Nat) : DWord := s.cfgWord (regionKey r (512 * 31 + w))

/-- R125: die word `w` of die `d`. -/
def State.dieWord (s : State) (d w : Nat) : DWord := s.cfgWord (dieKey d w)

/-- R112: the unit's mode: 0 logic, 1 RAM, 2 shift. -/
def State.unitMode (s : State) (r n : Nat) : Nat := bitsOf (s.unitWord r n 1).toNat 0 2

/-- R123: FF_INIT of a unit. -/
def State.unitInit (s : State) (r n : Nat) : Nat := bitsOf (s.unitWord r n 1).toNat 8 4

/-- The local units of a region whose word 1 is not 0. -/
def State.usedUnits (s : State) (r : Nat) : List Nat :=
  (s.fab.cfg.filter (fun e => decide (r * regionWords ≤ e.1 ∧ e.1 < r * regionWords + 512 * 31) &&
    (e.1 - r * regionWords) % 31 == 1)).map fun e => (e.1 - r * regionWords) / 31

/-- R89, R99, R112: before configuration is written, no flip-flop and no register of a hard block holds anything. -/
def Act.clearLogic : Act := .setFab fun f => { f with
  ff := [], macA := [], macB := [], macP := [], acc := [], ramRead := [], ramOut := [], bridge := [] }

/-- R112, R423: every flip-flop of the region takes FF_INIT; MAC and block RAM output registers are 0. -/
def Act.regionInit (r : Nat) : Act := .look fun s => .setFab fun f => { f with
  ff := (s.usedUnits r).foldl (fun l n => tabSet 0 l (r * 512 + n) (s.unitInit r n)) (tabDrop f.ff (r * 512) 512)
  macA := tabDrop f.macA (r * 4) 4, macB := tabDrop f.macB (r * 4) 4, macP := tabDrop f.macP (r * 4) 4
  acc := tabDrop f.acc (r * 4) 4, ramRead := tabDrop f.ramRead (r * 4) 4, ramOut := tabDrop f.ramOut (r * 4) 4 }

/-- The loader writes this region (R103). -/
def State.writingRegion (s : State) (r : Nat) : Bool :=
  s.f F.CFG_STATUS_STATE == 4 && s.load.target.val == r

/-- R105: a region load is in progress, and the region is its target. -/
def State.loadTarget (s : State) (r : Nat) : Bool :=
  match s.load.op with
  | .region _ _ => s.load.target.val == r && (s.load.held || s.bit F.CFG_RESERVE_RESERVE r)
  | _ => false

/-- R103, R105: the region is held: its flip-flops in reset, its crossings disconnected. A target that was held when its load started
stays held until the load ends. -/
def State.regionHeld (s : State) (r : Nat) : Bool :=
  s.bit F.CFG_HOLD_HOLD r || s.writingRegion r || (s.loadTarget r && s.load.held)

/-- R103, R432 step 3: the region does not run: it is held, or it is a reserve that no hand-over edge has connected. -/
def State.regionApart (s : State) (r : Nat) : Bool :=
  s.regionHeld r || (s.bit F.CFG_RESERVE_RESERVE r && !(s.rel.over_ && s.f F.RELOC_STATUS_DST == r))

/-- R121: a fabric clock runs. -/
def State.fclkLocked (s : State) (i : Nat) : Bool := s.bit F.FAB_CLK_LOCK i

/-- R87, R102: a frame's words go to region `r` (spaces 0h and 1h), or to its die (space 2h). -/
def Act.writeFrame (f : List Byte) (r : Nat) : Act :=
  let a := frameAddr f
  match addrSpace a with
  | 0 => .each (numbered f) fun e => .setCfgWord (regionKey r (frameBase a + e.1)) e.2
  | 1 => .setFab fun x => { x with
      bram := (List.range 62).foldl (fun l i => if addrIndex a + i < 1024 then
        tabSet 0 l (r * 4096 + addrRam a * 1024 + addrIndex a + i) (BitVec.ofNat 32 (imgNat f (4 + 4 * i) 4)) else l) x.bram }
  | 2 => .each (numbered f) fun e => .setCfgWord (dieKey (addrDie a) (frameBase a + e.1)) e.2
  | _ => .skip

/-! ### The crossings of a region that moves (R432, R436) -/

/-- R125, R432 step 3: a boulevard select that names an outbound crossing of region `a` names region `b`'s (numbers in the die):
bit j names pool source j × 64 + …, so a region has two bits. -/
def moveSelect (a b : Nat) (v : DWord) : DWord :=
  let x := v.toNat
  let two := bitsOf x (2 * a) 2
  BitVec.ofNat 64 ((x &&& (2 ^ 64 - 1 - 3 <<< (2 * a))) ||| two <<< (2 * b))

/-- The boulevard tracks of a die switch from region `a` to region `b`. -/
def Act.moveOutbound (d a b : Nat) : Act := .look fun s =>
  .each (s.fab.cfg.filter fun e => decide (dieKey d 0 ≤ e.1 ∧ e.1 < dieKey d 2048)) fun e =>
    .setCfgWord e.1 (moveSelect a b e.2)

/-- R432 step 1: region `b`'s inbound crossings take the selections of region `a`'s. -/
def Act.copyInbound (d a b : Nat) : Act := .look fun s =>
  .each (List.range 128) fun x => .setCfgWord (dieKey d (2048 + b * 128 + x)) (s.dieWord d (2048 + a * 128 + x))

end Sys2Proof.Machine
end

