-- ==== Sys2Proof/Machine/Cfg.lean ====
section
/-! DEFINITION. The loader (R97 to R110): full loads at start-up, region loads, flash programming, the hold register, keys. -/

namespace Sys2Proof.Machine

/-- Change what the loader holds. -/
def Act.setLoad (f : LoadSt → LoadSt) : Act := .upd fun s => { s with load := f s.load }

/-- A refused write to the CFG block. -/
def Act.cfgRefuse : Act := .refuse F.CFG_REFUSED_COUNT

/-- CFG.STATUS.STATE. -/
def State.cfgState (s : State) : Nat := s.f F.CFG_STATUS_STATE
def Act.cfgState (n : Nat) : Act := .setF F.CFG_STATUS_STATE n

/-- An action that gives no answer of its own. -/
def Act.silent (a : Act) : Act := .look fun s => .all [a, .answer s.resp]

/-- R104: the loader is idle. -/
def Act.loadIdle : Act := .all [.cfgState 0, .setLoad fun l => { l with
  op := .none, held := false, stream := [], ended := false, header := false, frames := 0, last := none, pairs := [] }]

/-! ### Full loads -/

/-- The field of the slot's last code. -/
def errField (slot : Fin 2) : Fld := if slot = 0 then F.CFG_STATUS_ERR_A else F.CFG_STATUS_ERR_B

/-- The comparators follow the end of a load (R319). -/
def Act.cmpsFollowAll : Act := .each (List.finRange 4) Act.cmpsFollow

/-- R100, R77: the full load fails with a code at a position; the other slot is tried once with AUTO_FALLBACK. -/
def Act.fullFail (slot : Fin 2) (again : Bool) (code pos : Nat) : Act := .look fun s =>
  let retry := !again && s.b F.CFG_BOOT_AUTO_FALLBACK
  .all [
    .setB F.CFG_STATUS_CFGERR true, .setF F.CFG_STATUS_CFG_ERR code, .setF (errField slot) code,
    .setF F.CFG_ERR_INFO_FRAME pos, .setB F.CFG_STATUS_FAILED true,
    .log 7 slot (leBytes code 1 ++ leBytes pos 2),
    .clearConfig, .loadIdle,
    if retry then .all [.cfgState 1, .setLoad fun l => { l with fallback := some (slot + 1) }]
    else .all [
      .setF F.SYS_START_PHASE 6, .setF F.SYS_MODE_EFF_FORCE_CAUSE 2, .setB F.SYS_MODE_EFF_REDUCED_FORCED true,
      .setFab fun f => { f with scrub := true }, .cmpsFollowAll]]

/-- R108: a slot holds a verified full stream. -/
def State.slotValid (s : State) (slot : Fin 2) : Bool :=
  s.b (if slot = 0 then F.CFG_FLASH_SLOT_A_VALID else F.CFG_FLASH_SLOT_B_VALID)

/-- R99, R100: a full load starts from a slot. -/
def Act.fullStart (slot : Fin 2) (again : Bool) : Act := .look fun s => .all [
  .clearConfig, .clearLogic, .loadIdle, .cfgState 1,
  .setLoad fun l => { l with op := .full slot again, stream := s.flash.slots[slot], fallback := none },
  .when (!s.slotValid slot) (.fullFail slot again errSlotEmpty 0xFFFF)]

/-- The slot that CFG.BOOT names. -/
def State.bootSlot (s : State) : Fin 2 := ⟨s.f F.CFG_BOOT_SLOT % 2, Nat.mod_lt _ (by decide)⟩

/-- R436: where the function of a region that logic was built for runs: its replacement, or that one's, while each is a reserve of
the stream. -/
def remapChain (retired : List (Nat × Nat)) (mask : Nat) (r : Nat) : Nat → Nat
  | 0 => r
  | n + 1 => match assoc retired r with
    | some t => if mask.testBit t then r else remapChain retired mask t n
    | none => r

/-- R436: the region that takes the frames addressed to `r`. -/
def State.remap (s : State) (mask : Nat) (r : Nat) : Nat := remapChain s.flash.retired mask r 32

/-- R99: a frame that has passed its checks is written, or held. -/
def Act.fullFrame (h f : List Byte) : Act := .look fun s =>
  let a := frameAddr f
  if addrSpace a ≤ 2 then .writeFrame f (s.remap (hdrMask h) (addrRegion a))
  else .setLoad fun l => { l with pairs := l.pairs ++ heldPairs f }

/-- R99 to R101: the header, or the next frame, of the full load arrives. -/
def Act.fullNext (unreadable : Bool) : Act := .look fun s =>
  match s.load.op with
  | .full slot again =>
    let img := s.load.stream
    let i := s.load.frames
    let pos := if s.load.header then i else 0xFFFF
    if unreadable then .fullFail slot again errFlash pos
    else if !s.load.header then
      if img.length < 64 then .fullFail slot again errTruncated 0xFFFF else
      let c := s.headerCode (img.take 64) 1 none
      if c ≠ 0 then .fullFail slot again c 0xFFFF else .setLoad fun l => { l with header := true }
    else if i < hdrFrames img then
      if img.length < 64 + 256 * (i + 1) then .fullFail slot again errTruncated i else
      let f := s.plainFrame img i
      let c := s.frameCodeAt img i s.load.last s.load.pairs
      if c ≠ 0 then .fullFail slot again c i
      else .all [.fullFrame (img.take 64) f,
        .setLoad fun l => { l with frames := i + 1, last := some (frameAddr f) }]
    else .skip
  | _ => .skip

/-- R100: the fallback load starts once. -/
def Act.fallbackStart : Act := .look fun s =>
  match s.load.fallback with
  | some slot => .fullStart slot true
  | none => .skip

/-- A RELOC entry: source, target, result, duration in µs. -/
def Act.logReloc (src dst result micros : Nat) : Act := .log 20 src (leBytes dst 1 ++ leBytes result 1 ++ leBytes micros 4)

/-- R436: the retired regions that the stream holds logic for take their replacements, or a conflict is recorded. -/
def Act.remapApply (mask : Nat) : Act := .look fun s =>
  .each s.flash.retired fun e =>
    let t := s.remap mask e.1
    if !mask.testBit e.1 then .setBit F.CFG_HOLD_HOLD e.1
    else if t == e.1 then .logReloc e.1 e.2 11 0
    else .all [
      .copyInbound (e.1 / 16) (e.1 % 16) (t % 16), .moveOutbound (e.1 / 16) (e.1 % 16) (t % 16),
      .setBit F.CFG_HOLD_HOLD e.1, .clrBit F.CFG_RESERVE_RESERVE t]

/-! ### Region loads and flash programming -/

/-- R98, R104: the operation in progress fails with a code at a position. -/
def Act.loadFail (code pos : Nat) : Act := .look fun s => .all [
  .setF F.CFG_STATUS_CFG_ERR code, .setF F.CFG_ERR_INFO_FRAME pos, .setB F.CFG_STATUS_FAILED true,
  match s.load.op with
  | .region _ auto => .all [
      .log 7 s.load.target (leBytes code 1 ++ leBytes pos 2),
      .when auto (.look fun t => match t.rel.auto with
        | some r => .all [
            .setF F.RELOC_STATUS_STATE 0, .setF F.RELOC_STATUS_RESULT 10, .repairing,
            .setB F.FAULT_EVENTS_RELOC_FAILED true, .logReloc r s.load.target 10 0,
            .upd fun u => { u with rel := { u.rel with auto := none } }]
        | none => .skip)]
  | .program d => .when (decide (d < 2)) (.log 7 d (leBytes code 1 ++ leBytes pos 2))
  | _ => .skip,
  .loadIdle]

/-- What kind a destination takes: a slot FULL, a library entry REGION. -/
def LoadOp.kind : LoadOp → Nat
  | .program d => if d < 2 then 1 else 2
  | .full _ _ => 1
  | _ => 2

/-- R93: the header checks of the operation in progress, once 64 bytes are there. -/
def Act.loadHeader : Act := .look fun s =>
  .when (!s.load.header && decide (64 ≤ s.load.stream.length)) <|
    let target := match s.load.op with
      | .region _ _ => some s.load.target.val
      | _ => none
    let c := s.headerCode (s.load.stream.take 64) s.load.op.kind target
    if c ≠ 0 then .loadFail c 0xFFFF else .setLoad fun l => { l with header := true }

/-- R97: the clock from which the 100 ms without a byte count. -/
def Act.byteArrives : Act := .look fun s => .setLoad fun l => { l with byteAt := s.clk }

/-- R104: a region load starts. -/
def Act.regionStart (host auto : Bool) (lib : Fin 32) (target : Reg) : Act := .look fun s => .all [
  .byteArrives,
  .setF F.CFG_STATUS_CFG_ERR 0, .cfgState 2,
  .setLoad fun l => { l with op := .region host auto, target := target, held := s.bit F.CFG_HOLD_HOLD target, lib := lib, ended := false, header := false,
                             stream := if host then [] else s.flash.lib[lib] },
  .when (!host) (if s.bit F.CFG_LIB_VALID_VALID lib then .loadHeader else .loadFail errSlotEmpty 0xFFFF)]

/-- R108: the destination of flash programming is marked invalid. -/
def Act.markFlash (d : Nat) (valid : Bool) : Act :=
  if d = 0 then .setB F.CFG_FLASH_SLOT_A_VALID valid
  else if d = 1 then .setB F.CFG_FLASH_SLOT_B_VALID valid
  else .putBit F.CFG_LIB_VALID_VALID (d - 2) valid

/-- R108: the bytes of a slot or a library entry. -/
def Act.putFlash (d : Nat) (img : List Byte) : Act := .upd fun s => { s with flash := { s.flash with
  slots := Vector.ofFn fun i => if i.val = d then img else s.flash.slots[i]
  lib := Vector.ofFn fun i => if 2 + i.val = d then img else s.flash.lib[i] } }

/-- R108: flash programming starts. -/
def Act.programStart (d : Nat) : Act := .all [
  .byteArrives, .setF F.CFG_STATUS_CFG_ERR 0, .cfgState 5, .markFlash d false, .putFlash d [],
  .setLoad fun l => { l with op := .program d, stream := [], ended := false, header := false }]

/-- R104: the operation in progress reads a host source. -/
def State.hostSource (s : State) : Bool :=
  match s.load.op with
  | .region host _ => host
  | .program _ => true
  | _ => false

/-- The host's bytes are still being received. -/
def State.receiving (s : State) : Bool := s.hostSource && (s.cfgState == 2 || s.cfgState == 5)

/-- R105: ABORT of the operation in progress. A full load fails as R100 says. A region target in step 5 is left held, which shows as its
CFG.HOLD bit set and its RESERVE_LOADED bit clear (DESIGN CHOICE, log entry 125). -/
def Act.loadAbort : Act := .look fun s =>
  match s.load.op with
  | .none => .skip
  | .full slot again => .fullFail slot again errAborted 0xFFFF
  | .region _ _ => .all [
      .when (s.cfgState == 4) (.all [
        .clearRegion s.load.target, .regionInit s.load.target, .setBit F.CFG_HOLD_HOLD s.load.target,
        .clrBit F.CFG_RESERVE_LOADED_LOADED s.load.target]),
      .loadFail errAborted 0xFFFF]
  | .program _ => .loadFail errAborted 0xFFFF

/-- R97: bytes are missing. -/
def State.streamShort (s : State) : Bool := decide (s.load.stream.length < max 64 (hdrLength s.load.stream))

/-- R97: the host source ends; what has not arrived by then does not arrive. -/
def Act.sourceEnds : Act := .look fun s =>
  .all [.setLoad fun l => { l with ended := true }, .when (s.receiving && s.streamShort) (.loadFail errTruncated 0xFFFF)]

/-- The RW fields of CFG.CTRL. -/
def Act.cfgCtrlFields (v : Word) : Act := .store .CFG_CTRL v

/-- R104: the command that a write of START gives. NO_FULL: a full stream must have been verified and released; ERR_INFO then keeps its
value (DESIGN CHOICE, log entry 122). -/
def Act.cfgStart (v : Word) : Act := .look fun s =>
  let lib : Fin 32 := ⟨F.CFG_CTRL_LIB_INDEX.of v % 32, Nat.mod_lt _ (by decide)⟩
  let target : Reg := ⟨F.CFG_CTRL_TARGET.of v % 32, Nat.mod_lt _ (by decide)⟩
  match F.CFG_CTRL_OP.of v, F.CFG_CTRL_SOURCE.of v, F.CFG_CTRL_DEST.of v with
  | 0, src, _ =>
    if 2 ≤ src then .cfgRefuse
    else if !s.released then .all [
      .cfgRefuse, .setF F.CFG_STATUS_CFG_ERR errNoFull, .setB F.CFG_STATUS_FAILED true]
    else .all [.cfgCtrlFields v, .accept, .regionStart (src == 1) false lib target]
  | 1, _, dest => if dest = 3 then .cfgRefuse
    else .all [.cfgCtrlFields v, .accept, .programStart (if dest = 2 then 2 + lib else dest)]
  | _, _, _ => .cfgRefuse

/-- R104, R105: a write of CFG.CTRL. -/
def Act.cfgCtrl (v : Word) : Act := .look fun s =>
  if s.cfgState ≠ 0 then
    if F.CFG_CTRL_ABORT.of v = 1 then .all [.accept, .loadAbort]
    else if F.CFG_CTRL_END_OF_SOURCE.of v = 1 ∧ s.hostSource then .all [.accept, .sourceEnds]
    else .cfgRefuse
  else if F.CFG_CTRL_END_OF_SOURCE.of v = 1 then .cfgRefuse
  else if F.CFG_CTRL_START.of v = 1 ∧ F.CFG_CTRL_ABORT.of v = 0 then .cfgStart v
  else .all [.cfgCtrlFields v, .accept]

/-- R97, R104: a word of a host source arrives. The word that completes LENGTH bytes starts the checks, without waiting for END_OF_SOURCE
(DESIGN CHOICE, log entry 123). -/
def Act.cfgData (v : Word) : Act := .look fun s =>
  let full := s.load.header && decide (hdrLength s.load.stream ≤ s.load.stream.length)
  if !s.receiving || s.load.ended || full then .cfgRefuse
  else .all [
    .accept, .byteArrives, .setLoad fun l => { l with stream := l.stream ++ leBytes v.toNat 4 },
    .when (s.load.stream.length + 4 == 64) .loadHeader,
    .look fun t => match t.load.op with
      | .program _ => .when (t.load.header && decide (hdrLength t.load.stream ≤ t.load.stream.length)) (.cfgState 6)
      | _ => .skip]

/-- R97: no byte has arrived for 100 ms. -/
def Act.streamStopped : Act := .look fun s =>
  .when (s.receiving && s.streamShort && decide (s.load.byteAt + 16384000 ≤ s.clk)) (.loadFail errTruncated 0xFFFF)

/-- R104 steps 3 and 4: the stream is staged, and every check runs on the staged copy. -/
def Act.regionStaged (unreadable : Bool) : Act := .look fun s =>
  match s.load.op with
  | .region host _ =>
    .when (s.cfgState == 2) <|
      if unreadable && !host then .loadFail errFlash 0xFFFF
      else if s.streamShort then .when (!host) (.loadFail errTruncated 0xFFFF)
      else
        let c := s.bodyCode s.load.stream
        .all [.cfgState 3, .when (c.1 != 0) (.loadFail c.1 c.2)]
  | _ => .skip

/-- R103, R104 step 5: the target is written, with its flip-flops in reset. -/
def Act.regionChecked : Act := .look fun s =>
  match s.load.op with
  | .region _ _ => .when (s.cfgState == 3) (.all [
      .cfgState 4, .clearRegion s.load.target,
      .each (List.range (hdrFrames s.load.stream)) fun i => .writeFrame (s.plainFrame s.load.stream i) s.load.target,
      .regionInit s.load.target])
  | _ => .skip

/-- R103, R104 step 6, R435: the write ends. -/
def Act.regionWritten : Act := .look fun s =>
  match s.load.op with
  | .region host _ => .when (s.cfgState == 4) (.all [
      .regionInit s.load.target, .loadIdle, .setB F.CFG_STATUS_DONE true,
      .when (s.bit F.CFG_RESERVE_RESERVE s.load.target) (.all [
        .setBit F.CFG_RESERVE_LOADED_LOADED s.load.target,
        if host then .setB F.RELOC_LIB_HOLDS_VALID false s.load.target
        else .all [.setF F.RELOC_LIB_HOLDS s.load.lib s.load.target, .setB F.RELOC_LIB_HOLDS_VALID true s.load.target]])])
  | _ => .skip

/-- R108: the written copy is verified. -/
def Act.programVerified (unreadable : Bool) : Act := .look fun s =>
  match s.load.op with
  | .program d => .when (s.cfgState == 6) <|
      if unreadable then .loadFail errFlash 0xFFFF
      else
        let c := s.bodyCode s.load.stream
        if c.1 ≠ 0 then .loadFail c.1 c.2
        else .all [.putFlash d s.load.stream, .markFlash d true, .loadIdle, .setB F.CFG_STATUS_DONE true]
  | _ => .skip

/-! ### Hold, boot, keys -/

/-- R103, R436: a write of CFG.HOLD; a retired region stays held. A region that becomes held goes into reset. -/
def Act.cfgHold (v : Word) : Act := .look fun s =>
  let w := v ||| s.r .FAULT_RETIRED
  .all [
    .setR .CFG_HOLD w,
    .each ((List.range 32).filter fun r => w.getLsbD r && !s.bit F.CFG_HOLD_HOLD r) Act.regionInit,
    .accept]

/-- A write of CFG.BOOT, stored in flash: the register is the flash's value. -/
def Act.cfgBoot (v : Word) : Act := .all [.store .CFG_BOOT v, .accept]

/-- R92: a write of CFG.KEY_REVOKE. -/
def Act.keyRevoke (v : Word) : Act := .look fun s =>
  let revoked := s.f F.CFG_KEYS_SIGN_REVOKED ||| 1 <<< F.CFG_KEY_REVOKE_INDEX.of v
  if F.CFG_KEY_REVOKE_KEY.of v ≠ 0x5A ∨ s.f F.CFG_KEYS_SIGN_PROG &&& (255 - revoked) = 0 then .cfgRefuse
  else .all [.setF F.CFG_KEYS_SIGN_REVOKED revoked, .accept]

/-! ### The commands -/

def execFullLoadFrame (unreadable : Bool) (s : State) := (Act.fullNext unreadable).done s
def execFallbackLoadStart (s : State) := Act.fallbackStart.done s
def execCfgRegionLoad (src : Src) (v : Word) (s : State) := (Act.writeTo src .CFG_CTRL 0 0 0 (Act.cfgCtrl v)).done s
def execCfgFlashProgram (src : Src) (v : Word) (s : State) := (Act.writeTo src .CFG_CTRL 0 0 0 (Act.cfgCtrl v)).done s
def execCfgAbort (src : Src) (v : Word) (s : State) := (Act.writeTo src .CFG_CTRL 0 0 0 (Act.cfgCtrl v)).done s
def execCfgEndOfSource (src : Src) (v : Word) (s : State) := (Act.writeTo src .CFG_CTRL 0 0 0 (Act.cfgCtrl v)).done s
def execCfgDataWrite (src : Src) (v : Word) (s : State) := (Act.writeTo src .CFG_DATA 0 0 0 (Act.cfgData v)).done s
def execStreamStopped (s : State) := Act.streamStopped.done s
def execRegionStreamStaged (unreadable : Bool) (s : State) := (Act.regionStaged unreadable).done s
def execRegionStreamChecked (s : State) := Act.regionChecked.done s
def execProgrammedCopyVerified (unreadable : Bool) (s : State) := (Act.programVerified unreadable).done s
def execCfgHoldWrite (src : Src) (v : Word) (s : State) := (Act.writeTo src .CFG_HOLD 0 0 0 (Act.cfgHold v)).done s
def execCfgBootWrite (src : Src) (v : Word) (s : State) := (Act.writeTo src .CFG_BOOT 0 0 0 (Act.cfgBoot v)).done s
def execKeyRevoke (src : Src) (v : Word) (s : State) := (Act.writeTo src .CFG_KEY_REVOKE 0 0 0 (Act.keyRevoke v)).done s

end Sys2Proof.Machine
end

