-- ==== Sys2Proof/Machine/Policy.lean ====
section
/-! DEFINITION. Policy images (R286 to R290): their checks, their reception, and the sections that are in force from the
start on. What needs the register bus (REGS pairs) comes later. -/

namespace Sys2Proof.Machine

/-- R288: the codes of its own. -/
abbrev polSectionCrc : Nat := 7
abbrev polBadSection : Nat := 24
abbrev polMissing : Nat := 25
abbrev polWiden : Nat := 26

/-- R286: the fields of an image's header. -/
def polSections (h : List Byte) : Nat := imgNat h 0x10 2
def polVersion (h : List Byte) : Nat := imgNat h 0x28 4

/-- The plaintext of an image: header, body, and the trailer as it stands. -/
def State.polPlain (s : State) (img : List Byte) : List Byte :=
  let n := img.length - 192
  img.take 64 ++ s.plainBody img n ++ img.drop (64 + n)

/-- R287: where the last section ends. -/
def polDataEnd (plain : List Byte) : Nat := (imgSections plain).foldl (fun m e => max m (e.2.1 + e.2.2)) (64 + 16 * polSections plain)

/-- R286, R288: LENGTH and SECTIONS; the padding that ends the body is shorter than 16 bytes. -/
def polSizeGood (plain : List Byte) : Bool :=
  let n := hdrLength plain
  let e := polDataEnd plain + 128
  decide (5 ≤ polSections plain ∧ polSections plain ≤ 32 ∧ n ≤ 524288 ∧ e ≤ n ∧ n < e + 16)

/-- R286, R93: the header checks, in order. LENGTH is judged with the whole image. -/
def State.polHeaderCode (s : State) (h : List Byte) : Nat :=
  firstFailure [
    (imgNat h 0 4 == 0x504E5653, errWrongDevice),
    (imgNat h 0x3C 4 == (crc32c (h.take 60)).toNat, errBadHeader),
    (imgNat h 6 2 == s.f F.CFG_ID_FAMILY && imgNat h 8 2 == s.f F.CFG_ID_DEVICE, errWrongDevice),
    (byteAt h 5 == s.f F.CFG_REV_FMT_MAJOR, errBadVersion),
    (hdrKind h == 3, errWrongKind),
    (decide (5 ≤ polSections h ∧ polSections h ≤ 32 ∧ 192 ≤ hdrLength h ∧ hdrLength h ≤ 524288) && hdrKeysClean h && byteAt h 0x0A == 0 &&
      zeroBytes h 0x12 2 && zeroBytes h 0x16 2 && zeroBytes h 0x2C 16, errBadHeader),
    (s.keysValid h, errKeyInvalid)]

/-! ### The sections -/

/-- R287: the table: reserved bytes 0, offsets ascending in multiples of 16, no overlap, padding short and 0. -/
def sectionsPlaced (plain : List Byte) : Nat → List (Nat × Nat × Nat) → Bool
  | _, [] => true
  | e, (_, off, size) :: l =>
    decide (off % 16 = 0 ∧ e ≤ off ∧ off < e + 16) && zeroBytes plain e (off - e) && sectionsPlaced plain (off + size) l

/-- The table's entries have their reserved bytes 0. -/
def tableClean (plain : List Byte) : Bool := (List.range (polSections plain)).all fun i => zeroBytes plain (0x42 + 16 * i) 2

/-- R287: the range of a STEP or CONTEXTS section: START and COUNT. -/
def sectionRange (l : List Byte) : Nat × Nat := (imgNat l 0 4, imgNat l 4 4)

/-- R287: SIZE, bytes of 0 and range of a section of START and COUNT with items of `n` bytes. -/
def rangeGood (l : List Byte) (n : Nat) : Bool :=
  let r := sectionRange l
  decide (16 ≤ l.length) && l.length == 16 + n * r.2 && zeroBytes l 8 8 && decide (r.1 + r.2 ≤ 16384)

/-- The pairs of a REGS section: offset and value, without the padding (R88). -/
def regsPairs (l : List Byte) : List (Nat × Word) :=
  ((List.range (l.length / 8)).map fun i => (imgNat l (8 * i) 4, BitVec.ofNat 32 (imgNat l (8 * i + 4) 4))).filter
    (fun e => e.1 != 0xFFFFFFFF)

/-- R287: the offsets a REGS pair may name: TIME.CTRL, TIDE, SCHED registers, HARB, DMA. -/
def regsPairGood (off : Nat) : Bool :=
  off % 4 == 0 && (off == RegRef.offset ⟨.TIME_CTRL, 0, 0, 0⟩ || [0x3, 0x4, 0x8, 0x9].contains (off / 0x10000))

/-- All the REGS pairs of an image, in order. -/
def imgRegs (plain : List Byte) : List (Nat × Word) := ((imgSectionsOf plain 4).map regsPairs).flatten

/-- The value that the last pair naming an offset gives. -/
def lastPair (l : List (Nat × Word)) (off : Nat) : Nat := l.foldl (fun v e => if e.1 = off then e.2.toNat else v) 0

/-- R244: the interval of an entry of SCHED.REPEAT once the image's REGS pairs are applied. -/
def imgInterval (plain : List Byte) (i : Nat) : Nat :=
  if i = 0 then 0 else
  let l := imgRegs plain
  lastPair l (RegRef.offset ⟨.SCHED_REPEAT_LO, i, 0, 0⟩) + lastPair l (RegRef.offset ⟨.SCHED_REPEAT_HI, i, 0, 0⟩) * 2 ^ 32

/-- R245, R287: no armed context of a section fails the checks of an arming write. -/
def contextsGood (plain l : List Byte) : Bool :=
  (List.range (sectionRange l).2).all fun i =>
    let ctl := imgNat l (16 + 16 * i + 12) 4
    !ctlArm ctl || !ctxBad (imgInterval plain) (imgNat l (16 + 16 * i + 8) 4) ctl

/-- R287: SAFE_PINS and SLEEP_PINS. -/
def pinBytesGood (l : List Byte) : Bool :=
  l.length == 80 && (List.range 80).all fun i => decide (byteAt l i < if i < 64 then 16 else 4)

/-- R287: a section by its type. -/
def sectionGood (plain : List Byte) (ty : Nat) (l : List Byte) : Bool :=
  match ty with
  | 1 => rangeGood l 8
  | 2 => l.length == 32
  | 3 => rangeGood l 16 && contextsGood plain l
  | 4 => l.length % 8 == 0 && (regsPairs l).all fun e => regsPairGood e.1
  | 5 => l.length == 2064 && zeroBytes l 2053 11
  | 6 => l.length == 256 && (List.range 32).all fun o =>
      byteAt l (8 * o + 3) == 0 && zeroBytes l (8 * o + 6) 2 && decide (byteAt l (8 * o + 2) < 4)
  | 7 | 8 => pinBytesGood l
  | 9 => l.length == 576 && (List.range 64).all fun k => zeroBytes l (64 + 8 * k + 6) 2
  | 10 => l.length == 16 && decide (2 ≤ byteAt l 0 ∧ byteAt l 0 ≤ 8) && zeroBytes l 12 4
  | 11 => l.length == 4 && zeroBytes l 1 3
  | 12 => l.length == 16 && decide (byteAt l 1 ≤ 2) && zeroBytes l 2 14
  | _ => false

/-- R287: STEP sections do not overlap. -/
def stepsApart : List (List Byte) → Bool
  | [] => true
  | a :: l => l.all (fun b =>
      let x := sectionRange a
      let y := sectionRange b
      decide (x.1 + x.2 ≤ y.1 ∨ y.1 + y.2 ≤ x.1)) && stepsApart l

/-- The section types that stand once, and those that stand at most once. -/
def onceTypes : List Nat := [5, 6, 7, 8, 11]
def atMostOnce : List Nat := [2, 5, 6, 7, 8, 9, 10, 11, 12]

/-- How often a type stands. -/
def typeCount (plain : List Byte) (ty : Nat) : Nat := (imgSectionsOf plain ty).length

/-- R287: nothing breaks the rules of the sections. -/
def polSectionsGood (plain : List Byte) : Bool :=
  tableClean plain && zeroBytes plain (polDataEnd plain) (hdrLength plain - 128 - polDataEnd plain) &&
  sectionsPlaced plain (64 + 16 * polSections plain) (imgSections plain) &&
  (imgSections plain).all (fun e => sectionGood plain e.1 ((plain.drop e.2.1).take e.2.2)) &&
  atMostOnce.all (fun ty => decide (typeCount plain ty ≤ 1)) && stepsApart (imgSectionsOf plain 1)

/-- R288: every SCRC. -/
def polCrcGood (plain : List Byte) : Bool :=
  (List.range (polSections plain)).all fun i =>
    imgNat plain (0x4C + 16 * i) 4 ==
      (crc32c ((plain.drop (imgNat plain (0x44 + 16 * i) 4)).take (imgNat plain (0x48 + 16 * i) 4))).toNat

/-- The four words that a LIMITS section gives a monitor. -/
def limitWords (l : List Byte) (m : Nat) : MonWords :=
  let w := fun k => BitVec.ofNat 32 (imgNat l (16 * m + 4 * k) 4)
  ⟨w 0 &&& RegName.mask .MON_CFG, w 1 &&& RegName.mask .MON_LO, w 2 &&& RegName.mask .MON_HI, w 3 &&& RegName.mask .MON_ACT⟩

/-- R278, R288: the monitors of an image would widen the locked ones in force. -/
def State.polWidens (s : State) (plain : List Byte) : Bool :=
  s.limitLocked && match imgSection plain 5 with
  | none => false
  | some l => (List.range 128).any fun m =>
      let n := limitWords l m
      s.monWords m != n && !(s.monWords m).tightens n

/-- R288: all the checks of an image, in order: 0 where it verifies. -/
def State.polCode (s : State) (img : List Byte) : Nat :=
  let h := s.polHeaderCode (img.take 64)
  if img.length < 192 ∨ img.length < hdrLength img then (if h ≠ 0 ∧ 64 ≤ img.length then h else errTruncated)
  else if h ≠ 0 then h else
  let plain := s.polPlain (img.take (hdrLength img))
  firstFailure [
    (polSizeGood plain, errBadHeader),
    (s.trailerCode img (hdrLength img - 192) == 0, s.trailerCode img (hdrLength img - 192)),
    (polCrcGood plain, polSectionCrc),
    (polSectionsGood plain, polBadSection),
    (onceTypes.all (fun ty => typeCount plain ty == 1), polMissing),
    (!s.polWidens plain, polWiden)]

/-! ### The image in force -/

/-- Change what the policy loader holds. -/
def Act.setPol (f : PolSt → PolSt) : Act := .upd fun s => { s with pol := f s.pol }

/-- R287: the STEP sections go into step memory. -/
def Act.policySteps (plain : List Byte) : Act := .each (imgSectionsOf plain 1) fun l =>
  .each (List.range (sectionRange l).2) fun i => .setBytes (stepOffset ((sectionRange l).1 + i)) (imgNat l (16 + 8 * i) 8) 8

/-- R287: the LIMITS section: the monitors and the watchdog. -/
def Act.policyLimits (plain : List Byte) : Act :=
  match imgSection plain 5 with
  | none => .skip
  | some l => .all [
      .each (List.range 128) fun m =>
        let w := limitWords l m
        .all [.setR .MON_CFG w.cfg m, .setR .MON_LO w.lo m, .setR .MON_HI w.hi m, .setR .MON_ACT w.act m],
      -- R280: a locked watchdog keeps its timeout and action
      .look fun s => .when (!s.limitLocked) <| .setR .LIMIT_WDOG (RegName.applyWrite .LIMIT_WDOG (s.r .LIMIT_WDOG) (BitVec.ofNat 32 (imgNat l 2048 4)))]

/-- R277: monitors go live: an enabled monitor is NORMAL. -/
def Act.monitorsLive : Act := .look fun s => .when s.limitsLive (.each (List.range 128) Act.monitorState)

/-- R287: CAL and PAIR sections. -/
def Act.policyCal (plain : List Byte) : Act :=
  match imgSection plain 10 with
  | none => .skip
  | some l => .all [
      .setF F.CAL_CFG_REPEATS (byteAt l 0), .setF F.CAL_CFG_TRACE (byteAt l 1),
      .setF F.CAL_TOL_OFS_TOL (imgNat l 2 2), .setF F.CAL_TOL_GAIN_TOL (imgNat l 4 2),
      .setF F.CAL_WINDOW_REF_WIN (imgNat l 6 2), .setF F.CAL_INTERVAL_INTERVAL (imgNat l 8 4)]

def Act.policyPair (plain : List Byte) : Act :=
  match imgSection plain 12 with
  | none => .setR .PAIR_CFG 0
  | some l => .all [
      .setF F.PAIR_CFG_PARTNER (byteAt l 0 % 64), .setF F.PAIR_CFG_PAIR_EN (byteAt l 0 / 128), .setF F.PAIR_CFG_PREF (byteAt l 1)]

/-- R290: the sections that are in force from the time an image is. -/
def Act.policyTake (img : List Byte) : Act := .look fun s =>
  let plain := s.polPlain (img.take (hdrLength img))
  .all [
    .setPol fun p => { p with inForce := some plain },
    .setB F.SYS_START_POLICY_OK true, .setF F.STEP_POL_INFO_VERSION (polVersion plain),
    .policySteps plain, .policyLimits plain, .policyCal plain, .policyPair plain, .monitorsLive]

/-- The active slot, and the other. -/
def State.activeSlot (s : State) : Fin 2 := ⟨s.f F.STEP_POL_STATUS_ACTIVE_SLOT % 2, Nat.mod_lt _ (by decide)⟩

/-- R289: at start-up the active slot is verified first, and then the other. -/
def Act.policyStart : Act := .look fun s =>
  let a := s.activeSlot
  if s.polCode s.pol.slots[a] = 0 then .policyTake s.pol.slots[a]
  else if s.polCode s.pol.slots[a + 1] = 0 then .all [.setB F.STEP_POL_STATUS_FALLBACK true, .policyTake s.pol.slots[a + 1]]
  else .skip

/-- R72, R287: the NV output value area is written from the NV section; the ranges of R297 stay. -/
def Act.policyNv (plain : List Byte) : Act :=
  match imgSection plain 6 with
  | none => .skip
  | some l => .upd fun s => { s with flash := { s.flash with
      nvBad := false
      nv := Vector.ofFn fun o => {
        range := s.nvArea[o].range, pu := imgNat l (8 * o) 2, fault := imgNat l (8 * o + 4) 2
        puOpen := (byteAt l (8 * o + 2)).testBit 0, faultOpen := (byteAt l (8 * o + 2)).testBit 1 } } }

/-! ### Programming and activating -/

def State.polState (s : State) : Nat := s.f F.STEP_POL_STATUS_STATE

/-- The operation ends: with a code, or well. -/
def Act.polEnd (code : Nat) : Act := .all [
  .setF F.STEP_POL_STATUS_STATE 0, .setPol fun p => { p with buffer := [], ended := false },
  .setF F.STEP_POL_STATUS_POL_ERR code,
  if code = 0 then .setB F.STEP_POL_STATUS_DONE true else .setB F.STEP_POL_STATUS_FAILED true]

/-- The slot that the operation in progress named at its START. -/
def State.polSlot (s : State) : Fin 2 := s.pol.slot

/-- R289: an operation starts. -/
def Act.polStart (v : Word) : Act := .look fun s =>
  let slot : Fin 2 := ⟨F.STEP_POL_CTRL_SLOT.of v % 2, Nat.mod_lt _ (by decide)⟩
  match F.STEP_POL_CTRL_OP.of v with
  | 0 => .all [
      .store .STEP_POL_CTRL v, .accept, .clrBit F.STEP_POL_STATUS_VALID slot,
      .setPol fun p => { p with buffer := [], ended := false, slot := slot, slots := p.slots.set slot [] },
      .setF F.STEP_POL_STATUS_STATE 1]
  | 1 => .all [
      .store .STEP_POL_CTRL v, .accept, .setPol fun p => { p with slot := slot },
      if s.bit F.STEP_POL_STATUS_VALID slot then .setF F.STEP_POL_STATUS_STATE 3 else .polEnd errSlotEmpty]
  | _ => .stepRefuse

/-- The image is whole. -/
def PolSt.whole (p : PolSt) : Bool := decide (64 ≤ p.buffer.length) && decide (hdrLength p.buffer ≤ p.buffer.length)

/-- R12, R289: a write of STEP.POL_CTRL: OP and SLOT store their values whatever else the write does. -/
def Act.polCtrl (v : Word) : Act := .look fun s =>
  let stored := Act.store .STEP_POL_CTRL v
  if F.STEP_POL_CTRL_ABORT.of v = 1 then
    .all [stored, .accept, .when (s.polState != 0) (.polEnd errAborted)]
  else if F.STEP_POL_CTRL_END_OF_SOURCE.of v = 1 then
    if s.polState = 1 then .all [stored, .accept, if s.pol.whole then .setF F.STEP_POL_STATUS_STATE 2 else .polEnd errTruncated]
    else if s.polState = 2 then .all [stored, .accept]
    else .stepRefuse
  else if F.STEP_POL_CTRL_START.of v = 1 then if s.polState ≠ 0 then .stepRefuse else .polStart v
  else .all [stored, .accept]

/-- R289: the next four bytes of the image arrive. -/
def Act.polData (v : Word) : Act := .look fun s =>
  if s.polState ≠ 1 then .stepRefuse
  else .all [
    .accept, .setPol fun p => { p with buffer := p.buffer ++ leBytes v.toNat 4 },
    .look fun t =>
      let c := t.polHeaderCode (t.pol.buffer.take 64)
      if t.pol.buffer.length = 64 ∧ c ≠ 0 then .polEnd c
      else .when t.pol.whole (.setF F.STEP_POL_STATUS_STATE 2)]

/-! ### The commands -/

def execPolicyProgram (src : Src) (v : Word) (s : State) := (Act.writeTo src .STEP_POL_CTRL 0 0 0 (Act.polCtrl v)).done s
def execPolicyActivate (src : Src) (v : Word) (s : State) := (Act.writeTo src .STEP_POL_CTRL 0 0 0 (Act.polCtrl v)).done s
def execPolicyAbort (src : Src) (v : Word) (s : State) := (Act.writeTo src .STEP_POL_CTRL 0 0 0 (Act.polCtrl v)).done s
def execPolicyEndOfSource (src : Src) (v : Word) (s : State) := (Act.writeTo src .STEP_POL_CTRL 0 0 0 (Act.polCtrl v)).done s
def execPolDataWrite (src : Src) (v : Word) (s : State) := (Act.writeTo src .STEP_POL_DATA 0 0 0 (Act.polData v)).done s

end Sys2Proof.Machine
end

