-- ==== Sys2Proof/Machine/Fabric.lean ====
section
/-! DEFINITION. The fabric's meetings with the module (R116, R121, R127 to R135): clocks, user registers, berth delivery,
taps, doorbells, capture. -/

namespace Sys2Proof.Machine

/-! ### Clocks -/

/-- R120, R125: the synthesiser word of a fabric clock. -/
def State.synthWord (s : State) (i : Nat) : DWord := s.dieWord (i / 4) (6272 + i % 4)

/-- R120: the synthesiser's N × 65,536 + F, and its M. -/
def synthRate (w : DWord) : Nat := bitsOf w.toNat 0 7 * 65536 + bitsOf w.toNat 7 16
def synthDiv (w : DWord) : Nat := bitsOf w.toNat 23 8

/-- R121: a synthesiser whose ENABLE bit is set locks. -/
def Act.fclkLock (i : Fclk) : Act := .look fun s => .when ((s.synthWord i).getLsbD 31) (.all [
  .setBit F.FAB_CLK_LOCK i, .setFab fun f => { f with phase := f.phase.set i 0 }])

/-- R121: a fabric clock loses lock and stops. -/
def Act.fclkLost (i : Fclk) : Act := .look fun s => .when (s.fclkLocked i) (.all [
  .clrBit F.FAB_CLK_LOCK i, .setBit F.FAB_CLK_LOST i, .log 9 i []])

/-- R116: a word with two of its 39 stored bits flipped (32 data bits and 7 check bits); which two is open. -/
def twoFlips (x : BitVec 64) (w : Word) : Word :=
  let a := x.toNat % 39
  let b := (a + 1 + x.toNat / 39 % 38) % 39
  w ^^^ BitVec.ofNat 32 (2 ^ a) ^^^ BitVec.ofNat 32 (2 ^ b)

/-- R116: a read of a block RAM meets an error. A single-bit error is corrected at the read; with a double-bit error the word stands in the
array as it is, and the read returns it so. -/
def Act.bramEcc (r : Reg) (k : Fin 4) (word : Fin 1024) (double : Bool) : Act :=
  let d := r.val / 16
  let key := r.val * 4096 + k.val * 1024 + word.val
  .all [
    .when double (.fresh fun x => .setFab fun f =>
      let w := twoFlips x (tabGet 0 f.bram key)
      { f with bram := tabSet 0 f.bram key w, ramRead := tabSet 0 f.ramRead (r.val * 4 + k.val) w.toNat }),
    .count (if double then F.FAB_BRAM_ECC_UNCORRECTABLE else F.FAB_BRAM_ECC_CORRECTED) 1 d,
    .setBit F.FAB_BRAM_ECC_FLAG_FLAG (r % 16) d,
    .when double (.log 10 r (leBytes k 1 ++ leBytes word 2))]

/-! ### User registers -/

/-- R131: accesses to a die's user registers reach the fabric. -/
def State.userPort (s : State) (d : Die) : Bool := s.released && s.fclkLocked (s.f F.FAB_PORT_CLK d)

/-- R131: an access joins those of its die; before release, or without a port clock, it is refused at once. -/
def Act.userAccess (src : Src) (d : Die) (write : Bool) (a : Nat) (v : Word) (job : Option (Nat × Nat) := none) : Act := .look fun s =>
  if s.userPort d then .all [
    .setFab fun f => { f with access := f.access.set d (f.access[d] ++ [⟨src, write, a, v, s.clk, job, 0⟩]) },
    match src with
    | .engine _ => .skip
    | _ => .answer .none]
  else .answer .error

/-- R266: the value that a LOAD puts into its register: with X[5], sign-extended from bit X[4:0]. -/
def loadValue (x : Nat) (v : Word) : Word :=
  if x.testBit 5 then BitVec.ofInt 32 (signed (x % 32 + 1) v.toNat) else v

/-- R262, R268: PC advances past the word in progress; an engine that HALT waits for becomes HALTED. -/
def Act.engAdvance (e : Eng) : Act := .look fun s =>
  let pc := s.f F.ENG_STATUS_PC e
  .all [
    .setEng e fun x => { x with tide := none, tideHit := false, load := none },
    if pc = 16383 then .engFault e 3
    else .all [
      .setF F.ENG_STATUS_PC (pc + 1) e,
      .setF F.ENG_STATUS_STATE (if s.eng[e].halting then engHalted else engRunning) e,
      .setEng e fun x => { x with halting := false }]]

/-- R262, R268: the LOAD of an engine ends with a value, or with an error response. -/
def Act.engLoadEnd (e : Eng) (v : Option Word) : Act := .look fun s =>
  match s.eng[e].load, v with
  | some (_, ra, x), some w => .all [.setR .ENG_D (loadValue x w) e ra, .engAdvance e]
  | some _, none => .engFault e 4
  | none, _ => .skip

/-- One access of a burst has ended. -/
def Act.jobPart (id pos : Nat) (r : Resp) : Act := .setFab fun f => { f with jobs := f.jobs.map fun b =>
  if b.id ≠ id then b else match r with
    | .ok v => { b with left := b.left - 1, data := b.data ++ [(pos, v.setWidth 32)] }
    | _ => { b with left := b.left - 1, bad := true } }

/-- The first access of a die ends with an answer. -/
def Act.accessEnd (d : Die) (r : Resp) : Act := .look fun s =>
  match s.fab.access[d] with
  | [] => .skip
  | a :: l => .all [
      .setFab fun f => { f with access := f.access.set d (match l with
        | [] => []
        | b :: m => { b with at_ := s.clk } :: m) },
      match a.src with
      | .engine e => .engLoadEnd e (match r with
        | .ok v => some (BitVec.ofNat 32 v.toNat)
        | _ => none)
      | _ => match a.job with
        | some (id, pos) => .jobPart id pos r
        | none => .answer r]

/-- R131: the fabric drives READY. -/
def Act.userReady (d : Die) (rdata : Word) : Act := .look fun s =>
  match s.fab.access[d] with
  | [] => .skip
  | a :: _ => .accessEnd d (.ok (if a.write then 0 else BitVec.ofNat 64 rdata.toNat))

/-- R131: the access in progress has had no READY within 4,096 system clocks. -/
def State.accessLate (s : State) (d : Die) : Bool := s.fab.access[d].head?.any fun a => decide (a.at_ + 4096 ≤ s.clk)

/-- R131: an access without READY ends with an error. -/
def Act.userTimeout (d : Die) : Act := .all [.count F.FAB_PORT_ERR_TIMEOUTS 1 d, .accessEnd d .error]

/-- R359: the die that a berth is delivered to. -/
def State.deliveryDie (s : State) (b : Nat) : Option Die :=
  match s.f F.HARB_CFG_CCLK b with
  | 1 => some 0
  | 2 => some 1
  | _ => none

/-- R359: the user register that takes the high half of a delivered cell. -/
def highRegister (c : HCell) : Nat := if c.last && c.gap then 3 else if c.last then 2 else 1

/-- R359: the head cell of the berth is being delivered. -/
def State.delivering (s : State) (b : Nat) : Bool := s.fab.jobs.any fun j => match j.use with
  | .delivery n _ => n == b
  | _ => false

/-- R359: the head cell goes to the user register window, as two writes of R131: the low half to DADDR, the high half after it. -/
def Act.fabricDelivery (b : Nat) : Act := .look fun s =>
  match s.deliveryDie b, (s.berth b).cells.head? with
  | some d, some c =>
    let id := s.fab.nextJob
    let base := s.f F.HARB_CFG_DADDR b
    let write := fun (k : Nat) (v : Word) (pos : Nat) => PortAccess.mk .host true ((base + k) % 65536) v s.clk (some (id, pos)) 0
    .when (s.berthOn b && decide (0 < (s.berth b).cLevel) && s.userPort d && !s.delivering b) (.setFab fun f => { f with
      nextJob := id + 1, jobs := f.jobs ++ [⟨id, .delivery b c, 2, false, []⟩]
      access := f.access.set d (f.access[d] ++ [write 0 (c.data.setWidth 32) 0, write (highRegister c) ((c.data >>> 32).setWidth 32) 1]) })
  | _, _ => .skip

/-- R359: READY has answered both writes and pops the cell; a time-out leaves it in the berth. -/
def Act.deliveryEnd (b : Nat) (c : HCell) (ready : Bool) : Act := .look fun s =>
  .when (ready && s.berthOn b && decide (0 < (s.berth b).cLevel) && (s.berth b).cells.head? == some c) (.freeHead b 1)

/-! ### Taps -/

/-- R129: the tap's clock runs below 20.48 MHz: N + F / 65,536 < M. -/
def State.tapSlow (s : State) (d : Die) (t : Nat) : Bool :=
  let w := s.synthWord (s.f F.FAB_TAP_CLK d t)
  decide (synthRate w < 65536 * synthDiv w)

/-- R129, R130: the modulator that a tap takes: the spare's where FOLLOW is set and the spare stands in. -/
def State.tapModulator (s : State) (d : Die) (t : Nat) : Grp × Mod :=
  let n := s.f F.FAB_TAP_CONV d t
  let g : Grp := ⟨n / 9 % 4, Nat.mod_lt _ (by decide)⟩
  let m : Mod := ⟨n % 9, by omega⟩
  if h : n % 9 < 8 then
    if s.b F.FAB_TAP_FOLLOW d t && s.onSpare g ⟨n % 9, h⟩ then (g, 8) else (g, m)
  else (g, m)

/-- R129: a write of FAB.TAP. The block has one counter of refused writes (CAP_REFUSED). -/
def Act.tapWrite (d : Die) (t : Fin 8) (v : Word) : Act :=
  if 36 ≤ F.FAB_TAP_CONV.of v then .refuse F.FAB_CAP_STATUS_CAP_REFUSED
  else .all [.setR .FAB_TAP v d t,
    .look fun s => .setFab fun f =>
      let i := Fin.ofNat 16 (d.val * 8 + t.val)
      { f with taps := f.taps.set i { f.taps[i] with spare := (s.tapModulator d t).2 == 8 } },
    .accept]

/-- R129: a modulator runs: a running converter's own, the spare's while it serves, or that of a run's target. -/
def State.modulatorRuns (s : State) (g : Grp) (m : Mod) : Bool :=
  s.alive g &&
  if h : m.val < 8 then
    (!s.onSpare g ⟨m, h⟩ && s.b F.CV_STATUS_RUNNING g m) ||
      (match s.cal[g].run with
        | some r => r.cls == 0 && r.target == m.val && s.f F.CAL_STATUS_STATE g != 0
        | none => false)
  else s.b F.CV8_STATUS_RUNNING g

/-- R129: a tap is live. -/
def State.tapLive (s : State) (d : Die) (t : Nat) : Bool :=
  let x := s.tapModulator d t
  s.b F.FAB_TAP_ENABLE d t && s.fclkLocked (s.f F.FAB_TAP_CLK d t) && !s.tapSlow d t && s.modulatorRuns x.1 x.2

/-! ### Capture -/

/-- R434: a relocation is in progress and its edge E has not passed. -/
def State.relocating (s : State) : Bool := decide (2 ≤ s.f F.RELOC_STATUS_STATE) && !s.rel.over_

/-- R432: the region whose state stands for region `r`: the one that has taken its function. -/
def State.actingRegion (s : State) (r : Nat) : Nat :=
  let r := (List.range 32).foldl (fun r _ => if s.b F.RELOC_LIB_REPLACED r then s.f F.RELOC_LIB_REPLACED_BY r else r) r
  if s.rel.over_ && s.f F.RELOC_STATUS_SRC == r && decide (2 ≤ s.f F.RELOC_STATUS_STATE) then s.f F.RELOC_STATUS_DST
  else r

/-- R133: the regions of a scope. -/
def scopeRegions (scope region : Nat) : List Nat :=
  match scope with
  | 0 => [region]
  | 1 => (List.range 16).map (fun r => region / 16 * 16 + r)
  | _ => List.range 32

/-- R134: the scope covers a region under relocation. -/
def State.scopeMoves (s : State) (c : Capture) : Bool :=
  s.relocating && (scopeRegions c.scope c.region).any fun r =>
    r == s.f F.RELOC_STATUS_SRC || r == s.f F.RELOC_STATUS_DST

/-- R116: the word on a block RAM's output. -/
def State.ramOutput (s : State) (r k : Nat) : Nat :=
  if (s.regionWord r (1332 + k)).getLsbD 16 then tabGet 0 s.fab.ramOut (r * 4 + k) else tabGet 0 s.fab.ramRead (r * 4 + k)

/-- R135: the flip-flops of eight units, as a word. -/
def State.ffWord (s : State) (r k : Nat) : Nat :=
  ((List.range 8).map fun i => tabGet 0 s.fab.ff (r * 512 + 8 * k + i) * 16 ^ i).sum

/-- R133, R135: the state of a region goes into its readback. A flip-flop of another clock is copied as it stands when the snapshot is
taken, one of the two values R133 allows (DESIGN CHOICE, log entry 126); the table bytes of units outside RAM mode keep what an earlier
capture put there (DESIGN CHOICE, log entry 127). -/
def Act.captureRegion (r : Nat) : Act := .look fun s =>
  let base := 0x240000 + r / 16 * 0x80000 + r % 16 * 0x2000
  .all [
    .each (List.range 64) fun k => .setBytes (base + 4 * k) (s.ffWord r k) 4,
    .each (List.range 4) fun k => .all [
      .setBytes (base + 0x100 + 16 * k) (tabGet 0 s.fab.acc (r * 4 + k)) 7,
      .setBytes (base + 0x108 + 16 * k) (tabGet 0 s.fab.macA (r * 4 + k)) 3,
      .setBytes (base + 0x10B + 16 * k) (tabGet 0 s.fab.macB (r * 4 + k)) 3,
      .setBytes (base + 0x140 + 4 * k) (s.ramOutput r k) 4],
    .each ((s.usedUnits r).filter fun n => s.unitMode r n == 1) fun n =>
      .setBytes (base + 0x1000 + 8 * n) (s.unitWord r n 0).toNat 8]

/-- The capture ends with a result. -/
def Act.captureEnd (result : Nat) : Act := .all [
  .setF F.FAB_CAP_STATUS_STATE 0, .setB F.FAB_CAP_STATUS_DONE true, .setF F.FAB_CAP_STATUS_RESULT result,
  .setFab fun f => { f with capture := none }]

/-- R133: the snapshot. -/
def Act.snapshot (c : Capture) (result : Nat) : Act := .look fun s => .all [
  .each (((scopeRegions c.scope c.region).map s.actingRegion).dedup) Act.captureRegion,
  .setF F.FAB_CAP_STATUS_SEQ (s.f F.FAB_CAP_STATUS_SEQ + 1),
  .setR .FAB_CAP_STAMP_LO (BitVec.ofNat 32 s.ns), .setR .FAB_CAP_STAMP_HI (BitVec.ofNat 32 (s.ns / 2 ^ 32)),
  .captureEnd result]

/-- R133, R134: a capture starts, is refused, or ends at once in PARKED. -/
def Act.captureStart (scope region clk : Nat) : Act := .look fun s =>
  if s.f F.FAB_CAP_STATUS_STATE ≠ 0 ∨ scope = 3 then .refuse F.FAB_CAP_STATUS_CAP_REFUSED
  else if s.mode parked then .all [.captureEnd 1, .accept]
  else
    let c : Capture := ⟨scope, region, clk, s.clk, false, false⟩
    .all [.setFab fun f => { f with capture := some { c with deferred := s.scopeMoves c } },
      .setF F.FAB_CAP_STATUS_STATE 1, .accept]

/-- R134: a capture is armed. -/
def Act.captureArm (scope region clk : Nat) : Act := .look fun s =>
  if s.f F.FAB_CAP_STATUS_STATE ≠ 0 ∨ scope = 3 then .refuse F.FAB_CAP_STATUS_CAP_REFUSED
  else .all [.setFab fun f => { f with capture := some ⟨scope, region, clk, s.clk, false, false⟩ },
    .setF F.FAB_CAP_STATUS_STATE 2, .accept]

/-- R133, R134: a write of FAB.CAP_CTRL: START prevails over ARM. A refused command stores nothing. -/
def Act.captureCtrl (v : Word) : Act := .all [
  .when (F.FAB_CAP_CTRL_START.of v == 0 && F.FAB_CAP_CTRL_ARM.of v == 0) .accept,
  .when (F.FAB_CAP_CTRL_START.of v == 1)
    (.captureStart (F.FAB_CAP_CTRL_SCOPE.of v) (F.FAB_CAP_CTRL_REGION.of v) (F.FAB_CAP_CTRL_CLK.of v)),
  .when (F.FAB_CAP_CTRL_START.of v == 0 && F.FAB_CAP_CTRL_ARM.of v == 1)
    (.captureArm (F.FAB_CAP_CTRL_SCOPE.of v) (F.FAB_CAP_CTRL_REGION.of v) (F.FAB_CAP_CTRL_CLK.of v)),
  .look fun s => .when (s.resp != .error) (.store .FAB_CAP_CTRL v)]

/-- R134: the trigger outlets are sampled while a capture is armed. -/
def Act.captureTrigger (level : Bool) : Act := .look fun s =>
  match s.fab.capture with
  | some c => .when (s.f F.FAB_CAP_STATUS_STATE == 2) (.setFab fun f => { f with capture := some { c with trigger := level } })
  | none => .skip

/-- R134: an armed capture whose trigger is sampled 1 at a reference edge fires, while OBSERVE is in force. -/
def State.captureFires (s : State) (c : Capture) : Bool :=
  s.f F.FAB_CAP_STATUS_STATE == 1 || (s.f F.FAB_CAP_STATUS_STATE == 2 && c.trigger && s.mode observed)

/-- R133, R134: a reference edge, or (`edge` false) 2 µs without one. A capture of a region under relocation is deferred: it is taken at
the first such edge after the hand-over edge. -/
def Act.captureEdge (edge : Bool) : Act := .look fun s =>
  match s.fab.capture with
  | some c => .when (s.captureFires c && if edge then s.fclkLocked c.clk else s.f F.FAB_CAP_STATUS_STATE == 1 && decide (c.at_ + 328 ≤ s.clk))
      (if s.scopeMoves c then .all [
        .setFab fun f => { f with capture := some { c with deferred := true } }, .setF F.FAB_CAP_STATUS_STATE 1]
      else .snapshot c (if !edge then 2 else if c.deferred then 3 else 0))
  | none => .skip

/-- R49: PARKED enters force: a capture that waits for its edge is completed SUSPENDED; an armed one stays armed. -/
def Act.captureParked : Act := .look fun s => .when (s.f F.FAB_CAP_STATUS_STATE == 1) (.captureEnd 1)

/-! ### The commands -/

def execFclkLock (i : Fclk) (s : State) := (Act.fclkLock i).done s
def execFclkLost (i : Fclk) (s : State) := (Act.fclkLost i).done s
def execBramEccEvent (region : Reg) (k : Fin 4) (word : Fin 1024) (double : Bool) (s : State) :=
  (Act.bramEcc region k word double).done s
/-- The offset of a user register (R131). -/
def userOffset (d : Die) (a : Nat) : Nat := 0x200000 + d * 0x80000 + 4 * a
def execUserRegisterAccess (src : Src) (d : Die) (write : Bool) (a : Fin 65536) (v : Word) (s : State) :=
  (if write then Act.write src (userOffset d a) (Act.userAccess src d true a v)
    else Act.reach (Act.userAccess src d false a v)).done s
def execFabricDelivery (b : Berth) (_ : Computed) (s : State) := (Act.fabricDelivery b).done s
/-- R127: a doorbell outlet rises. -/
def execDoorbellOutletRise (_d : Die) (e : Eng) (s : State) := (Act.look fun t => .when t.released (.ring e)).done s
def execTapConfigWrite (src : Src) (d : Die) (t : Fin 8) (v : Word) (s : State) :=
  (Act.writeTo src .FAB_TAP d t 0 (Act.tapWrite d t v)).done s
def execCaptureStart (src : Src) (v : Word) (s : State) := (Act.writeTo src .FAB_CAP_CTRL 0 0 0 (Act.captureCtrl v)).done s
def execCaptureArm (src : Src) (v : Word) (s : State) := (Act.writeTo src .FAB_CAP_CTRL 0 0 0 (Act.captureCtrl v)).done s
def execCaptureTrigger (s : State) := (Act.captureTrigger true).done s
def execCaptureSnapshot (s : State) := (Act.captureEdge true).done s
def execCaptureNoClock (s : State) := (Act.captureEdge false).done s

end Sys2Proof.Machine
end

