-- ==== Sys2Proof/Machine/Dma.lean ====
section
/-! DEFINITION. The DMA engine as software commands it: start, abort, triggers, pacing (R374 to R391). Moving bytes is in
DmaRun. -/

namespace Sys2Proof.Machine

/-- The states of CH.STATUS.STATE. -/
abbrev dmaIdle : Nat := 0
abbrev dmaFetch : Nat := 1
abbrev dmaWaitTrig : Nat := 2
abbrev dmaRun : Nat := 3
abbrev dmaDrain : Nat := 4
abbrev dmaHalted : Nat := 5

/-- R385: the codes of the STATUS word. -/
abbrev codeOk : Nat := 0
abbrev codeErrorTail : Nat := 1
abbrev codeReadError : Nat := 2
abbrev codeWriteError : Nat := 3
abbrev codeNoTarget : Nat := 4
abbrev codeAborted : Nat := 5
abbrev codeBadDesc : Nat := 6
abbrev codeBadList : Nat := 7
abbrev codeUnderrun : Nat := 8
abbrev codeEcc : Nat := 9
abbrev codeTimeout : Nat := 10
abbrev codeDescError : Nat := 11
abbrev codeUndrained : Nat := 12

def State.dmaState (s : State) (c : Chan) : Nat := s.f F.DMA_STATUS_STATE c
def Act.dmaState (c : Chan) (n : Nat) : Act := .setF F.DMA_STATUS_STATE n c

def State.ch (s : State) (c : Chan) : DmaCh := s.dma.ch[c]
def Act.setDma (f : DmaSt → DmaSt) : Act := .upd fun s => { s with dma := f s.dma }
def Act.setCh (c : Chan) (f : DmaCh → DmaCh) : Act := .setDma fun d => { d with ch := d.ch.set c (f d.ch[c]) }

def Act.dmaRefuse : Act := .refuse F.DMA_REFUSED_COUNT

/-- R374: CH.DESC, a DMA address. -/
def State.dmaDesc (s : State) (c : Chan) : Nat := s.f F.DMA_DESC_LO_DESC c + 2 ^ 32 * s.f F.DMA_DESC_HI_DESC c
def Act.setDesc (c : Chan) (a : Nat) : Act := .all [
  .setF F.DMA_DESC_LO_DESC a c, .setF F.DMA_DESC_HI_DESC (a / 2 ^ 32) c]

/-- The tags a channel holds (R382), and those that are not abandoned. -/
def State.dmaTags (s : State) (c : Chan) : List (Nat × DmaTag) :=
  s.dma.tags.filter (fun e => e.2.chan == c && !e.2.dead)

def Act.outstanding (c : Chan) : Act := .look fun s => .setF F.DMA_STATUS_OUTSTANDING (s.dmaTags c).length c

/-- R402: the completions of the MAINT requests that wait for the abort. -/
def Act.abortAnswered (c : Chan) : Act := .look fun s =>
  let own := s.ownNumber
  .all [.setCh c fun x => { x with waiters := [] },
    .each (s.ch c).waiters fun e =>
      if e.1 == own then .all [.setB F.MNT_STATUS_BUSY false, .setF F.MNT_STATUS_STATUS 0]
      else
        let h : PkHead := { kind := pkMaint, maint := true, dst := own, src := e.1, tag := e.2.toNat }
        .all [.keep e.1 e.2.toNat (some (completionWords own h 6 0 [])), .complete h 6 0 []]]

/-- R388: the channel becomes IDLE. -/
def Act.dmaEnd (c : Chan) : Act := .all [
  .setCh c fun x => { x with jobs := [], abort := none }, .dmaState c dmaIdle,
  .outstanding c, .abortAnswered c]

/-- R386, R388: no new burst of the channel is issued; what remains to be reported of the descriptor ends with this code. -/
def DmaJob.stop (code : Nat) (j : DmaJob) : DmaJob := if j.code = 0 ∧ !j.done then { j with code := code } else j

/-- R388: ABORT acts. During a descriptor read the read completes first (R390). -/
def Act.dmaAbort (c : Chan) : Act := .look fun s =>
  let st := s.dmaState c
  if st = dmaHalted then .dmaEnd c
  else if st = dmaIdle then .abortAnswered c
  else if (s.ch c).abort.isSome then .skip
  else .all [
    .setCh c fun x => { x with abort := some s.clk, jobs := x.jobs.map (DmaJob.stop codeAborted) },
    .when (st != dmaFetch) (.dmaState c dmaDrain)]

/-- R389: a trigger is taken, where TRIG_EN is 1 and fewer than 255 wait. -/
def State.triggerTaken (s : State) (c : Chan) : Bool :=
  s.b F.DMA_CTRL_TRIG_EN c && decide (s.f F.DMA_STATUS_TRIG_PEND c < 255)

/-- R389: the descriptor that waits in WAIT_TRIG runs as soon as a trigger waits. -/
def Act.dmaConsume (c : Chan) : Act := .look fun s =>
  .when (s.dmaState c == dmaWaitTrig && (!s.b F.DMA_CTRL_TRIG_EN c || decide (1 ≤ s.f F.DMA_STATUS_TRIG_PEND c))) (.all [
    .when (s.b F.DMA_CTRL_TRIG_EN c) (.setF F.DMA_STATUS_TRIG_PEND (s.f F.DMA_STATUS_TRIG_PEND c - 1) c),
    .dmaState c dmaRun])

/-- R389: one trigger. -/
def Act.dmaTrigger (c : Chan) : Act := .look fun s =>
  if s.triggerTaken c then .all [.count F.DMA_STATUS_TRIG_PEND 1 c, .dmaConsume c, .accept] else .dmaRefuse

/-- R382, R386, R388, R389: a write of CH.CTRL is taken or refused whole. TRIG_EN changes first, then ABORT or START acts, then the
trigger. -/
def Act.dmaCtrl (c : Chan) (v : Word) : Act := .look fun s =>
  let st := s.dmaState c
  let out := F.DMA_CTRL_MAX_OUT.of v
  let start := v.getLsbD 0 && !v.getLsbD 1
  let changes := F.DMA_CTRL_TRIG_EN.of v != s.f F.DMA_CTRL_TRIG_EN c
  let bad := out == 0 || decide (32 < out) || (changes && st != dmaIdle) || (start && st != dmaIdle && st != dmaHalted) ||
    (v.getLsbD 2 && (!v.getLsbD 8 || (!changes && s.f F.DMA_STATUS_TRIG_PEND c == 255)))
  if bad then .dmaRefuse
  else .all [
    .when changes (.setF F.DMA_STATUS_TRIG_PEND 0 c),
    .store .DMA_CTRL v c,
    .when (v.getLsbD 1) (.dmaAbort c),
    .when start (.all [.setCh c fun x => { x with abort := none }, .dmaState c dmaFetch]),
    .when (v.getLsbD 2) (.dmaTrigger c),
    .accept]

/-- R387: the tokens of a channel now: RATE in each system clock, at most DEPTH × 256. -/
def State.dmaTokens (s : State) (c : Chan) : Nat :=
  min (256 * s.f F.DMA_RATE_DEPTH c) ((s.ch c).tokens + s.f F.DMA_RATE_RATE c * (s.clk - (s.ch c).tokenClk))

/-- R387: a write of CH.RATE applies from the next burst; the tokens gained so far are counted first. -/
def Act.dmaRate (c : Chan) (v : Word) : Act := .look fun s =>
  if 256 < F.DMA_RATE_RATE.of v ∨ F.DMA_RATE_DEPTH.of v = 0 ∨ 16 < F.DMA_RATE_DEPTH.of v then .dmaRefuse
  else
    let t := s.dmaTokens c
    let now := s.clk
    .all [.setCh c fun x => { x with tokens := t, tokenClk := now }, .store .DMA_RATE v c, .accept]

/-- R376: a write of DESC_LO or DESC_HI. -/
def Act.dmaDescWrite (c : Chan) (high : Bool) (v : Word) : Act := .look fun s =>
  let st := s.dmaState c
  if (st != dmaIdle && st != dmaHalted) || (!high && v.toNat % 32 != 0) then .dmaRefuse
  else .all [.setR (if high then .DMA_DESC_HI else .DMA_DESC_LO) v c, .accept]

/-- R389: a write of DMA.TRIGGER_LO or TRIGGER_HI triggers each channel named, and is answered with an error where one trigger is
refused. -/
def Act.dmaTriggers (base : Nat) (v : Word) : Act := .all [
  .accept,
  .each ((List.finRange 64).filter fun c => decide (base ≤ c.val ∧ c.val < base + 32) && v.getLsbD (c.val - base)) fun c =>
    .look fun s => if s.triggerTaken c then .all [.count F.DMA_STATUS_TRIG_PEND 1 c, .dmaConsume c] else .dmaRefuse]

/-- R383: BARRIER is forced while REDUCED is in force and while a repair is in progress. -/
def State.barrierForced (s : State) : Bool := s.mode reducedMode || s.b F.FAULT_STATUS_REPAIRING

/-- R383: the forcing applies to each descriptor that has not completed when the condition arises. -/
def Act.barriers : Act := .look fun s => .when s.barrierForced <| .each (List.finRange 64) fun c => .look fun s =>
  .when ((s.ch c).jobs.any (fun j => !j.done && !j.barrier)) 
    (.setCh c fun x => { x with jobs := x.jobs.map fun j => if j.done then j else { j with barrier := true } })

/-- R391: a channel has an interrupt source set. -/
def State.dmaIrq (s : State) (c : Nat) : Bool := (s.r .DMA_STATUS c).toNat &&& 0x178 != 0

/-! ### The commands -/

def execDmaStart (src : Src) (c : Chan) (v : Word) (s : State) := (Act.writeTo src .DMA_CTRL c 0 0 (Act.dmaCtrl c v)).done s
def execDmaAbort (src : Src) (c : Chan) (v : Word) (s : State) := (Act.writeTo src .DMA_CTRL c 0 0 (Act.dmaCtrl c v)).done s
def execDmaTrigger (src : Src) (c : Chan) (s : State) := (Act.write src (if c.val < 32 then 0x91000 else 0x91004) (Act.dmaTrigger c)).done s
def execDmaRateWrite (src : Src) (c : Chan) (v : Word) (s : State) := (Act.writeTo src .DMA_RATE c 0 0 (Act.dmaRate c v)).done s

end Sys2Proof.Machine
end

