-- ==== Sys2Proof/Machine/Reloc.lean ====
section
/-! DEFINITION. The scrubber (R106, R107), region reset (R423) and region relocation (R431 to R436). -/

namespace Sys2Proof.Machine

def Act.faultRefuse : Act := .refuse F.FAULT_REFUSED_COUNT

def Act.setRel (f : RelocSt → RelocSt) : Act := .upd fun s => { s with rel := f s.rel }

/-- RELOC_STATUS.STATE. -/
abbrev relIdle : Nat := 0
abbrev relLoading : Nat := 1
abbrev relCopying : Nat := 2
abbrev relWaiting : Nat := 3

def State.relState (s : State) : Nat := s.f F.RELOC_STATUS_STATE
/-- The source and the target in progress. -/
def State.relSrc (s : State) : Nat := s.f F.RELOC_STATUS_SRC
def State.relDst (s : State) : Nat := s.f F.RELOC_STATUS_DST

/-- The one-hot clock selects of a region, by position: the units, then block RAMs (write, read), then MAC blocks (R123, R124). -/
def State.clockSelects (s : State) (r : Nat) : List (Nat × Nat) :=
  ((s.usedUnits r).map fun n => (n, bitsOf (s.unitWord r n 1).toNat 16 8)) ++
  ((List.range 4).map fun k => (512 + k, bitsOf (s.regionWord r (1332 + k)).toNat 0 8)) ++
  ((List.range 4).map fun k => (516 + k, bitsOf (s.regionWord r (1332 + k)).toNat 8 8)) ++
  ((List.range 4).map fun k => (520 + k, bitsOf (s.regionWord r (1336 + k)).toNat 8 8))

/-- The selections made, in order of position. -/
def State.clocksSelected (s : State) (r : Nat) : List (Nat × Nat) := (s.clockSelects r).filter fun e => e.2 != 0

/-- R431: the one clock that the selections of a region name; none where they do not all name one. -/
def State.oneClock (s : State) (r : Nat) : Option Fclk :=
  match s.clocksSelected r with
  | [] => none
  | e :: l => if l.all (fun x => x.2 == e.2) then (List.finRange 8).find? (fun i => e.2 == 1 <<< i.val) else none

/-- R436: the region is retired. -/
def State.retired (s : State) (r : Nat) : Bool := s.bit F.FAULT_RETIRED_RETIRED r

/-- The loader loads this region. -/
def State.loadingRegion (s : State) (r : Nat) : Bool :=
  match s.load.op with
  | .region _ _ => s.load.target.val == r
  | _ => false

/-- R431: why a relocation of `a` into `b` may not start; 0 where it may. The conditions are taken in the order of the table. -/
def State.relocBar (s : State) (a b : Nat) : Nat :=
  if !s.mode repair then 1
  else if s.b F.SYS_MODE_EFF_REDUCED_FORCED then 2
  else if s.mode parked then 3
  else if a / 16 != b / 16 || !s.bit F.CFG_RESERVE_RESERVE b || !s.bit F.CFG_RESERVE_LOADED_LOADED b ||
      s.bit F.CFG_RESERVE_RESERVE a || s.retired a || s.regionHeld a || s.regionHeld b ||
      s.loadingRegion a || s.loadingRegion b then 4
  else if !((s.oneClock a).any fun i => s.fclkLocked i) then 5
  else if (List.range 524).any (fun p => (assoc (s.clocksSelected a) p) != (assoc (s.clocksSelected b) p)) then 6
  else if s.relState ≠ relIdle then 7
  else 0

/-- R432 step 1: the relocation starts. -/
def Act.relocBegin (a b : Nat) : Act := .look fun s => .all [
  .setF F.RELOC_STATUS_STATE relCopying, .setF F.RELOC_STATUS_SRC a, .setF F.RELOC_STATUS_DST b,
  .setF F.RELOC_STATUS_HCLK (((s.oneClock a).map Fin.val).getD 0),
  .setRel fun _ => ⟨s.clk, 0, false, 0, none⟩,
  .copyInbound (a / 16) (a % 16) (b % 16),
  .repairing, .barriers]

/-- The time since step 1, µs. -/
def State.relMicros (s : State) : Nat := (s.clk - s.rel.start) * 100 / 16384

/-- The relocation has failed with a result (R433 to R435). -/
def Act.relocFail (a b result : Nat) : Act := .look fun s => .all [
  .setF F.RELOC_STATUS_STATE relIdle, .setF F.RELOC_STATUS_RESULT result, .setB F.FAULT_EVENTS_RELOC_FAILED true,
  .logReloc a b result (if s.relState = relCopying ∨ s.relState = relWaiting then s.relMicros else 0),
  .setRel fun x => { x with auto := none }, .repairing]

/-- R434: before E the target's state is cleared, and it is left held and not loaded; the source is untouched. -/
def Act.relocBreak (result : Nat) : Act := .look fun s =>
  .when s.relocating (
    let b := s.relDst
    .all [
      .regionInit b, .setFab fun f => { f with bram := tabDrop f.bram (b * 4096) 4096 },
      .setBit F.CFG_HOLD_HOLD b, .clrBit F.CFG_RESERVE_LOADED_LOADED b,
      .relocFail s.relSrc b result])

/-- R434: ABORT, and what acts as ABORT. While the reserve is being loaded, the load ends too. -/
def Act.relocAbort : Act := .look fun s =>
  if s.relState = relLoading then .all [
    .relocFail s.relSrc s.relDst 9,
    match s.load.op with
      | .region _ true => .loadAbort
      | _ => .skip]
  else .relocBreak 9

/-- R431, R434: a write of FAULT.RELOC_CTRL; ABORT prevails. -/
def Act.relocCtrl (v : Word) : Act := .look fun s =>
  let a := F.RELOC_CTRL_SRC.of v
  let b := F.RELOC_CTRL_DST.of v
  let bar := s.relocBar a b
  if v.getLsbD 13 then .all [.store .RELOC_CTRL v, .relocAbort, .accept]
  else if !v.getLsbD 12 then .all [.store .RELOC_CTRL v, .accept]
  else if bar ≠ 0 then .all [.setF F.RELOC_STATUS_RESULT bar, .faultRefuse]
  else .all [.store .RELOC_CTRL v, .relocBegin a b, .accept]

/-- A write clock is selected for block RAM `k` of a region (R433). -/
def State.ramWritten (s : State) (r k : Nat) : Bool := bitsOf (s.regionWord r (1332 + k)).toNat 0 8 != 0

/-- Entries of a table from `a`, moved to `b`, in place of those there. -/
def tabMove {α : Type} (l : List (Nat × α)) (a b n : Nat) : List (Nat × α) :=
  ((l.filter fun e => decide (a ≤ e.1 ∧ e.1 < a + n)).map fun e => (b + (e.1 - a), e.2)) ++ tabDrop l b n

/-- R433: the block RAMs of the source whose write clock is selected stand in the target. -/
def Act.copyRams (a b : Nat) : Act := .look fun s =>
  .each ((List.range 4).filter (s.ramWritten a)) fun k => .setFab fun f => { f with
    bram := (f.bram.filter fun e => decide (a * 4096 + k * 1024 ≤ e.1 ∧ e.1 < a * 4096 + k * 1024 + 1024)).foldl
      (fun l e => tabSet 0 l (b * 4096 + (e.1 - a * 4096)) e.2) (tabDrop f.bram (b * 4096 + k * 1024) 1024) }

/-- R432 step 2: copying is complete. -/
def Act.relocCopied : Act := .look fun s => .when (s.relState == relCopying) (.all [
  .copyRams s.relSrc s.relDst, .setF F.RELOC_STATUS_STATE relWaiting, .setRel fun x => { x with copied := s.clk }])

/-- R433, R434: 100 ms, in system clocks. -/
abbrev relocLimit : Nat := 16384000

/-- R433, R434: the limit has passed: from step 1 until copying ends, and from there until the edge E. -/
def State.relocLate (s : State) : Bool :=
  decide (relocLimit ≤ s.clk - (if s.relState = relCopying then s.rel.start else s.rel.copied))

def Act.relocStalled : Act := .look fun s => .when s.relocLate (.relocBreak 8)

/-- R432 step 3, at E: flip-flops, MAC and output registers. -/
def Act.moveState (a b : Nat) : Act := .setFab fun f => { f with
  ff := tabMove f.ff (a * 512) (b * 512) 512
  macA := tabMove f.macA (a * 4) (b * 4) 4, macB := tabMove f.macB (a * 4) (b * 4) 4
  macP := tabMove f.macP (a * 4) (b * 4) 4, acc := tabMove f.acc (a * 4) (b * 4) 4
  ramRead := tabMove f.ramRead (a * 4) (b * 4) 4, ramOut := tabMove f.ramOut (a * 4) (b * 4) 4 }

/-- R432 step 3: the truth tables of the units in RAM mode. -/
def Act.moveTables (a b : Nat) : Act := .look fun s =>
  .each ((s.usedUnits a).filter fun n => s.unitMode a n == 1) fun n =>
    .setCfgWord (regionKey b (n * 31)) (s.unitWord a n 0)

/-- R432 step 3: the edge E of the hand-over clock, at least 4 system clocks after copying ended. -/
def Act.relocHandover : Act := .look fun s =>
  .when (s.relState == relWaiting && !s.rel.over_ && s.fclkLocked (s.f F.RELOC_STATUS_HCLK) && decide (s.rel.copied + 4 ≤ s.clk)) (
    let a := s.relSrc
    let b := s.relDst
    .all [
      .copyRams a b, .moveState a b, .moveTables a b, .moveOutbound (a / 16) (a % 16) (b % 16),
      .clrBit F.CFG_HOLD_HOLD b, .setRel fun x => { x with over_ := true, edgeAt := s.clk }])

/-- R432 step 4: 12 system clocks after E the source is held and retired, and the tables follow. -/
def Act.relocRetire : Act := .look fun s =>
  .when (s.relState == relWaiting && s.rel.over_ && decide (s.rel.edgeAt + 12 ≤ s.clk)) (
    let a := s.relSrc
    let b := s.relDst
    .all [
      .setBit F.CFG_HOLD_HOLD a, .regionInit a, .setBit F.FAULT_RETIRED_RETIRED a,
      .clrBit F.CFG_RESERVE_RESERVE b, .clrBit F.CFG_RESERVE_LOADED_LOADED b,
      .upd fun s => { s with flash := { s.flash with
        retired := assocSet s.flash.retired a b, unretire := s.flash.unretire.filter (fun x => x != a) } },
      .setF F.RELOC_LIB_LIB (s.f F.RELOC_LIB_LIB a) b, .setF F.RELOC_LIB_VALID (s.f F.RELOC_LIB_VALID a) b,
      .setB F.RELOC_LIB_REPLACED true a, .setF F.RELOC_LIB_REPLACED_BY b a,
      .setF F.RELOC_LIB_HOLDS 0 b, .setB F.RELOC_LIB_HOLDS_VALID false b,
      .setF F.RELOC_STATUS_STATE relIdle, .setF F.RELOC_STATUS_RESULT 0, .setB F.FAULT_EVENTS_RELOC_DONE true,
      .repairing, .logReloc a b 0 s.relMicros])

/-! ### Relocation without a request (R435) -/

/-- The reserves of a region's die, lowest first. -/
def State.reservesOf (s : State) (r : Nat) : List Nat :=
  (List.range 32).filter fun t => t / 16 == r / 16 && s.bit F.CFG_RESERVE_RESERVE t

/-- The load of the reserve starts once no loader operation is in progress. -/
def Act.autoLoad : Act := .look fun s =>
  match s.rel.auto with
  | some r => .when (s.relState == relLoading && s.load.op == .none) <|
      .regionStart false true ⟨s.f F.RELOC_LIB_LIB r % 32, Nat.mod_lt _ (by decide)⟩
        ⟨s.relDst % 32, Nat.mod_lt _ (by decide)⟩
  | none => .skip

/-- R435 step 2: the relocation starts, or fails as R431 says. -/
def Act.autoBegin (a b : Nat) : Act := .look fun s =>
  let bar := s.relocBar a b
  if bar ≠ 0 then .relocFail a b bar else .relocBegin a b

/-- The region's bit is set in CFG.SCRUB_FLAG or FAB.BRAM_ECC_FLAG. -/
def State.flagged (s : State) (r : Nat) : Bool :=
  s.bit F.CFG_SCRUB_FLAG_FLAG r || s.bit F.FAB_BRAM_ECC_FLAG_FLAG (r % 16) (r / 16)

/-- R435: a flagged region is relocated without a request. -/
def Act.autoReloc (r : Reg) : Act := .look fun s =>
  .when (s.b F.FAULT_CFG_AUTO_RELOC && s.mode repair && s.flagged r && s.b F.RELOC_LIB_VALID r && s.relState == relIdle) <|
    let lib := s.f F.RELOC_LIB_LIB r
    let holds (t : Nat) : Bool := s.bit F.CFG_RESERVE_LOADED_LOADED t && s.b F.RELOC_LIB_HOLDS_VALID t && s.f F.RELOC_LIB_HOLDS t == lib
    if s.b F.SYS_MODE_EFF_REDUCED_FORCED then .relocFail r r 2
    else if s.mode parked then .relocFail r r 3
    else match (s.reservesOf r).find? holds with
    | some t => .autoBegin r t
    | none => match (s.reservesOf r).find? (fun t => !s.bit F.CFG_RESERVE_LOADED_LOADED t) with
      | some t => .all [
          .setF F.RELOC_STATUS_STATE relLoading, .setF F.RELOC_STATUS_SRC r, .setF F.RELOC_STATUS_DST t,
          .setRel fun x => { x with auto := some r }, .autoLoad]
      | none => .relocFail r r 4

/-- R104 step 6, R435: the load has ended; one that R435 asked for is followed by the relocation. -/
def Act.regionLoaded : Act := .look fun s =>
  let mine := match s.load.op with
    | .region _ auto => auto && s.cfgState == 4
    | _ => false
  .all [.regionWritten,
    .when mine (.look fun t => match t.rel.auto with
      | some r => .all [.setF F.RELOC_STATUS_STATE relIdle, .autoBegin r t.relDst]
      | none => .skip)]

/-! ### Region reset and unretirement -/

/-- R423, R105, R434: a region reset. A load of the region and a relocation of or into it end; a held or retired region keeps its
state. -/
def Act.regionReset (r : Nat) : Act := .look fun s => .all [
  .when (s.loadingRegion r) .loadAbort,
  .when (s.relocating && (s.relSrc == r || s.relDst == r)) (.relocBreak 9),
  .look fun t => .when (!t.regionHeld r && !t.retired r) (.regionInit r)]

/-- A write of FAULT.REGION_RESET. -/
def Act.regionResetWrite (v : Word) : Act := .look fun s =>
  let r := F.REGION_RESET_REGION.of v
  if F.REGION_RESET_KEY.of v ≠ 0xC3 then .faultRefuse
  else .all [
    .when (F.REGION_RESET_RESET.of v == 1) (.regionReset r),
    .when (F.REGION_RESET_UNRETIRE.of v == 1 && s.retired r)
      (.upd fun s => { s with flash := { s.flash with unretire := r :: s.flash.unretire.filter (fun x => x != r) } }),
    .accept]

/-- R436: at a start reference the regions recorded are unretired. -/
def Act.unretireAll : Act := .look fun s => .all [
  .each s.flash.unretire fun r => .clrBit F.FAULT_RETIRED_RETIRED r,
  .upd fun s => { s with flash := { s.flash with
    retired := s.flash.retired.filter (fun e => !s.flash.unretire.contains e.1), unretire := [] } }]

/-! ### The scrubber -/

/-- R107: the selects of a word with two or more bits set. -/
def badSelects (m : List Sel) (v : DWord) : List Sel := m.filter fun f => !selValid (selOf v f)

/-- The word with selects at the safe code. -/
def forceSafe (l : List Sel) (v : DWord) : DWord :=
  l.foldl (fun v f => v &&& ~~~(BitVec.ofNat 64 ((2 ^ f.2 - 1) <<< f.1))) v

/-- R105, R106, R123: the configuration words the scrubber passes by: word 0 of a unit in RAM or shift mode, which is user state, and the
target of a region load until the load ends. -/
def State.scrubSkips (s : State) (r w : Nat) : Bool :=
  (decide (w < 512 * 31) && w % 31 == 0 && s.unitMode r (w / 31) != 0) || s.writingRegion r || s.loadTarget r

/-- R107: a word with flipped bits is read: one is corrected, two are forced safe; more are beyond the check (a free value). The word
address in the entry and the subject of a die word are not defined (free). -/
def Act.scrubFound (region : Option Nat) (key : Nat) (m : List Sel) (flips : List (Fin 64)) : Act := .look fun s =>
  let v := flips.foldl (fun v b => v ^^^ BitVec.ofNat 64 (1 <<< b.val)) (s.cfgWord key)
  let bad := badSelects m v
  let forced := forceSafe bad v
  match flips with
  | [] => .skip
  | [_] => .count F.CFG_SCRUB_CORRECTED
  | [_, _] => .all [
      .setCfgWord key forced, .count F.CFG_SCRUB_FORCED,
      .fresh fun x =>
        let addr := leBytes x.toNat 4
        let mask := leBytes (v &&& ~~~forced).toNat 8
        match region with
        | some r => .all [
            .setBit F.CFG_SCRUB_FLAG_FLAG r, .log 8 r (addr ++ mask),
            .when (s.relocating && s.relDst == r) (.relocBreak 9)]
        | none => .log 8 (x.toNat / 2 ^ 32 % 65536) (addr ++ mask)]
  | _ => .fresh fun x => .setCfgWord key x

/-- R106: the scrubber reads a word: of a region, or of a die (word number die × 15,872 + w); `last`: the sweep ends. -/
def Act.scrubWord (region : Option Reg) (word : Nat) (flips : List (Fin 64)) (last : Bool) : Act := .look fun s =>
  .when (s.fab.scrub && s.up) (.all [
    match region with
      | some r => .when (decide (word < regionWords) && !s.scrubSkips r word)
          (.scrubFound (some r) (regionKey r word) (regionWordMap word).1 flips.dedup)
      | none => .when (decide (word < 2 * dieWords))
          (.scrubFound none (dieKey 0 word) (dieWord (word % dieWords)).1 flips.dedup),
    .when last (.setF F.CFG_SCRUB_SWEEPS (s.f F.CFG_SCRUB_SWEEPS + 1))])

/-! ### Failed cores -/

/-- R430: a write of FAULT.GRP.CORE. -/
def Act.faultCore (g : Grp) (v : Word) : Act :=
  let clr := F.FAULT_CORE_CLEAR.of v
  if F.FAULT_CORE_KEY.of v ≠ 0xA7 then .faultRefuse
  else .all [
    .each (List.finRange 8) fun o => .when (clr.testBit o) (.all [
      .setB F.DAC_STATUS_CORE_FAILED false g o, .clrBit F.FAULT_CORE_FAILED o g,
      .upd fun s => { s with flash := { s.flash with
        coreFailed := s.flash.coreFailed.set g (s.flash.coreFailed[g] &&& (255 - 1 <<< o.val)) } }]),
    .accept]

/-! ### The commands -/

def execRegionLoadWritten (s : State) := Act.regionLoaded.done s
def execScrubWord (region : Option Reg) (word : Nat) (flips : List (Fin 64)) (last : Bool) (s : State) :=
  (Act.scrubWord region word flips last).done s
def execRelocCopyDone (s : State) := Act.relocCopied.done s
def execRelocStalled (s : State) := Act.relocStalled.done s
def execRelocHandover (s : State) := Act.relocHandover.done s
def execRelocAbort (src : Src) (v : Word) (s : State) := (Act.writeTo src .RELOC_CTRL 0 0 0 (Act.relocCtrl v)).done s
def execAutoReloc (r : Reg) (s : State) := (Act.autoReloc r).done s
def execRegionReset (src : Src) (v : Word) (s : State) := (Act.writeTo src .REGION_RESET 0 0 0 (Act.regionResetWrite v)).done s
def execUnretire (src : Src) (v : Word) (s : State) := (Act.writeTo src .REGION_RESET 0 0 0 (Act.regionResetWrite v)).done s
def execCoreClear (src : Src) (g : Grp) (v : Word) (s : State) := (Act.writeTo src .FAULT_CORE g 0 0 (Act.faultCore g v)).done s

end Sys2Proof.Machine
end

