-- ==== Sys2Proof/Machine/Pair.lean ====
section
/-! DEFINITION. Paired modules (R437 to R443). -/

namespace Sys2Proof.Machine

def Act.setPair (f : PairSt → PairSt) : Act := .upd fun s => { s with pair := f s.pair }

/-- R437: the partner's number. -/
def State.partner (s : State) : BitVec 6 := BitVec.ofNat 6 (s.f F.PAIR_CFG_PARTNER)

/-- R439: PAIRED is in force and PAIR_EN is 1. -/
def State.pairing (s : State) : Bool := s.mode paired && s.b F.PAIR_CFG_PAIR_EN && s.up

/-- Outputs and pins follow PAIR_ROLE (R300, R440). -/
def Act.pairField : Act := .each (List.finRange 4) fun g => .all [.outsUpdate g, .pinsRefresh g]

/-- R439: PAIR_ROLE changes. -/
def Act.pairRole (n : Nat) : Act := .look fun s => .when (n != s.pairRole) (.all [
  .setF F.SYS_MODE_EFF_PAIR_ROLE n, .setF F.PAIR_STATUS_ROLE n, .pairField])

/-- R439: what a standby's readiness takes. -/
def State.pairReady (s : State) : Bool :=
  s.released && !s.mode parked && !s.mode reducedMode && s.b F.PAIR_STATUS_PARTNER_SEEN && s.b F.PAIR_STATUS_SYNCED &&
  !s.b F.PAIR_STATUS_MISMATCH

/-- R439: a standby is ready or not. -/
def Act.pairStandby : Act := .look fun s => .pairRole (if s.pairReady then 2 else 3)

/-- R439: PAIRED enters force. -/
def Act.pairEnter : Act := .look fun s => .when (s.b F.PAIR_CFG_PAIR_EN) (.all [
  .setPair fun _ => .initial s.clk,
  .setB F.PAIR_STATUS_PARTNER_SEEN false, .setB F.PAIR_STATUS_SYNCED true, .setB F.PAIR_STATUS_YIELD false,
  .pairRole 3])

/-- R443: PAIRED leaves force: a standby commands every gate open. -/
def Act.pairLeave : Act := .look fun s => .all [
  .when s.standby (.each (List.finRange 4) fun g => .each (List.finRange 8) fun o => .all [
    .setB F.DAC_CFG_GATE_OPEN true g o,
    .setOut g o fun x => { x with cfg := F.DAC_CFG_GATE_OPEN.put x.cfg 1 }]),
  .setPair fun _ => .initial s.clk,
  .setB F.PAIR_STATUS_PARTNER_SEEN false, .setB F.PAIR_STATUS_SYNCED false, .setB F.PAIR_STATUS_YIELD false,
  .setB F.PAIR_STATUS_MISMATCH false,
  .pairRole 0, .pairField]

/-- R418 kind 25: a PAIR entry. -/
def Act.logPair (old new cause : Nat) : Act := .look fun s =>
  .log 25 s.partner.toNat (leBytes old 1 ++ leBytes new 1 ++ leBytes cause 1)

/-- R438: the next heartbeat: a REG_READ of the partner's FAULT.PAIR_STATUS. -/
def Act.heartbeatSend : Act := .look fun s => .request s.partner .heartbeat (s.maintWords s.partner 0 0x0B0184)

/-- R437 to R439: what a heartbeat's answer tells. -/
def Act.pairHear (a : PairAnswer) : Act := .look fun s =>
  let differs := a.build != s.r .CFG_BUILD_ID || a.policy != s.r .STEP_POL_INFO
  .all [
    .setB F.PAIR_STATUS_PARTNER_SEEN true,
    .setPair fun p => { p with
      partner := F.PAIR_STATUS_ROLE.of a.status, yields := F.PAIR_STATUS_YIELD.of a.status == 1, answeredAt := s.clk, gone := false },
    .when (differs && !s.b F.PAIR_STATUS_MISMATCH) (.setB F.FAULT_EVENTS_PAIR_MISMATCH true),
    .setB F.PAIR_STATUS_MISMATCH differs,
    .when s.standby (.setF F.PAIR_STATUS_SYNCED (F.PAIR_STATUS_SYNCED.of a.status))]

/-- R442: the active partner yields, where the standby is ready. -/
def Act.pairYield : Act := .look fun s =>
  .when (s.pairing && s.pairRole == 1 && s.pair.partner == 2) (.setB F.PAIR_STATUS_YIELD true)

/-- R438, R439, R442: a heartbeat ends, with the partner's answer or without one, and the next is sent. -/
def Act.heartbeat (answer : Option PairAnswer) : Act := .look fun s => .when s.pairing <| .all [
  match answer with
    | none => .setB F.PAIR_STATUS_PARTNER_SEEN false
    | some a =>
      let role := F.PAIR_STATUS_ROLE.of a.status
      .all [
        .pairHear a,
        .look fun t =>
          if t.pairRole = 1 then
            if t.b F.PAIR_STATUS_YIELD then .when (role == 1) (.all [
              .setB F.PAIR_STATUS_YIELD false, .pairStandby])
            else if t.pair.planned then .when (decide (2 ≤ role)) (.all [
              .setPair fun p => { p with currentHeld := false, planned := false }, .logPair 2 1 2, .pairField])
            else .when (role == 1 && decide (t.partner.toNat < t.ownNumber.toNat)) .pairStandby
          else .when (t.pair.heard && t.standby) .pairStandby],
  .heartbeatSend]

/-- R439, R441: no heartbeat answer has arrived for `n` system clocks. -/
def State.silentFor (s : State) (n : Nat) : Bool := decide (s.pair.answeredAt + n ≤ s.clk)

/-- R441: a heartbeat read has completed NO_TARGET, or no answer has arrived for 100 µs. -/
def State.partnerLost (s : State) : Bool := s.pair.gone || s.silentFor 16384

/-- R439: PREF 1 prefers to be active. -/
abbrev prefActive : Nat := 1

/-- R439: the first answer decides the role, or 10 ms without one. R49: a module in REDUCED does not become active while its partner
is ready. -/
def Act.roleDecide (answer : Option PairAnswer) : Act := .look fun s => .when (s.pairing && s.standby) <|
  match answer with
  | none => .when (s.silentFor 1638400) (.all [.setPair fun p => { p with heard := true }, .pairRole 1])
  | some a => .when (!s.pair.heard) <|
    let role := F.PAIR_STATUS_ROLE.of a.status
    let mine := s.f F.PAIR_CFG_PREF
    let theirs := F.PAIR_CFG_PREF.of a.cfg
    let wins := (mine == prefActive && theirs != prefActive) ||
      (mine == theirs && decide (s.ownNumber.toNat < s.partner.toNat))
    .all [
      .setPair fun p => { p with heard := true }, .pairHear a,
      if role != 1 && wins && !(s.mode reducedMode && role == 2) then .pairRole 1 else .pairStandby]

/-- R441: a ready standby takes over from a failed partner. -/
def Act.takeover : Act := .look fun s => .when (s.pairing && s.pairRole == 2 && s.partnerLost) (.all [
  .setB F.FAULT_EVENTS_TAKEOVER true, .setB F.FAULT_EVENTS_PARTNER_LOST true, .count F.PAIR_COUNTS_TAKEOVERS,
  .setB F.PAIR_STATUS_PARTNER_SEEN false, .setPair fun p => { p with partner := 0, mirrorQ := [], behind := false },
  .pairRole 1, .logPair 2 1 1])

/-- R442 step 2: a ready standby reads YIELD and becomes active; its current-class gates stay open. -/
def Act.yieldSeen : Act := .look fun s => .when (s.pairing && s.pairRole == 2 && s.pair.yields) (.all [
  .count F.PAIR_COUNTS_TAKEOVERS,
  .setPair fun p => { p with currentHeld := true, planned := true, mirrorQ := [], behind := false },
  .pairRole 1])

/-- R442: a write of FAULT.PAIR_CTRL. -/
def Act.pairCtrl (v : Word) : Act := .look fun s =>
  if !v.getLsbD 0 then .accept
  else if s.pairing && s.pairRole == 1 && s.pair.partner == 2 then .all [.setB F.PAIR_STATUS_YIELD true, .accept]
  else .faultRefuse

/-- R398: a WRITE of one 32-bit word, acknowledged. -/
def State.writeWords (s : State) (dst : BitVec 6) (off : Nat) (v : Word) : List DWord :=
  let high := off / 4 % 2
  let be := 15 <<< (4 * high)
  [({ kind := pkWrite, ackReq := true, dst := dst, src := s.ownNumber, beats := 1, firstBe := be, lastBe := be } : PkHead).word,
    BitVec.ofNat 64 (off / 8 * 8), BitVec.ofNat 64 (v.toNat <<< (32 * high))]

/-- R438: the oldest write that waits goes to the standby, and is acknowledged within 1 ms or not. -/
def Act.mirrorWrite (off : BitVec 24) (v : Word) (acked : Bool) : Act := .look fun s =>
  match s.pair.mirrorQ with
  | e :: rest => .when (s.pairing && s.pairRole == 1 && e.1 == off && e.2 == v) (.all [
      .setPair fun p => { p with mirrorQ := rest, behind := p.behind || !acked },
      .request s.partner .other (s.writeWords s.partner off.toNat v),
      .look fun t => .setB F.PAIR_STATUS_SYNCED (!t.pair.behind)])
  | [] => .skip

end Sys2Proof.Machine
end

