-- ==== Sys2Proof/Machine/Modes.lean ====
section
/-! DEFINITION. The in-force set of modes (R44 to R53) and what enters and leaves with a mode. The commands that can change
the set, or what R47 computes it from, stand here too: each ends with its evaluation. -/

namespace Sys2Proof.Machine

/-- A forcing condition of FORCE_CAUSE holds. -/
def State.forced (s : State) : Bool := s.f F.SYS_MODE_EFF_FORCE_CAUSE != 0

/-- R45, R46, R47: eff. -/
def State.modeEff (s : State) : Nat :=
  if !s.released then 8
  else if s.forced then s.f ⟨.SYS_MODE, 0, 8⟩ ||| 8 else s.f ⟨.SYS_MODE, 0, 8⟩

/-- R47: what holds PARKED back. -/
def State.parkedWaits (s : State) : Bool :=
  s.pairRole == 1 || (List.finRange 4).any (fun g => s.cal[g].run.isSome) || s.relState != relIdle

/-- R47: susp. -/
def State.modeSusp (s : State) : Nat :=
  let eff := s.modeEff
  let park := eff.testBit parked
  (if park && s.parkedWaits then 128 else 0) |||
  (if park && !s.parkedWaits then eff &&& 0x72 else 0) |||
  (if eff.testBit reducedMode then eff &&& 0x10 else 0)

/-- Every group. -/
def Act.groups (f : Grp → Act) : Act := .each (List.finRange 4) f
/-- Every converter. -/
def Act.converters (f : Grp → Cv → Act) : Act := .groups fun g => .each (List.finRange 8) fun n => f g n

/-- R53: PARKED enters force. -/
def Act.parkedEnters : Act := .all [
  .holdModes, .pinRows, .groups .outsPark, .groups (Act.ddsPark · true), .converters .cvPark, .captureParked, .trkModes]

/-- R53: PARKED leaves force. -/
def Act.parkedLeaves : Act := .all [
  .converters .cvUnpark, .holdsEnd, .pinRows, .groups .outsUnpark, .groups (Act.ddsPark · false)]

/-- R54: REDUCED enters force after release. -/
def Act.reducedEnters : Act := .all [
  .trkModes, .groups (Act.calFail · 13), .converters .cvReduce, .groups .outsReduced, .groups .cmpsFollow, .barriers]

/-- R56: REDUCED leaves force. -/
def Act.reducedLeaves : Act := .all [.converters .cvUnreduce, .groups .cmpsFollow]

/-- What follows from the modes that have entered (`on`) and left force. PARKED comes before REDUCED on entry and after it on
leaving, as R47's precedence has it. R49, R439: a standby is not ready while PARKED or REDUCED is in force. -/
def Act.modeEffects (on off : Nat) : Act := .all [
  .when (off.testBit reducedMode) .reducedLeaves,
  .when (off.testBit parked) .parkedLeaves,
  .when (on.testBit parked) .parkedEnters,
  .when (on.testBit reducedMode) .reducedEnters,
  .when (on.testBit disciplined) (.discipline true),
  .when (off.testBit disciplined) (.discipline false),
  .when (on.testBit phaseRun) .holdsEnd,
  .when (off.testBit phaseRun) .holdModes,
  .when (on.testBit repair) (.groups .promoteLowest),
  .when (on.testBit paired) .pairEnter,
  .when (off.testBit paired) .pairLeave,
  .look fun s => .when (s.pairing && s.pair.heard && s.standby) .pairStandby]

/-- R44, R47: the in-force set is computed; where it changes, CHG, COUNT and STAMP record it and its effects follow. On an active
partner, a request for PARKED or REDUCED starts a planned take-over (R442). -/
def Act.modes : Act := .look fun s => .when s.up <|
  let old := s.inForce
  let now := s.modeEff &&& (255 - s.modeSusp)
  .all [
    .setF F.SYS_MODE_EFF_EFF s.modeEff, .setF F.SYS_MODE_EFF_SUSP s.modeSusp,
    .setB F.SYS_MODE_EFF_REDUCED_FORCED s.forced,
    .when (now != old) (.all [
      .setF F.SYS_MODE_CHG_CHG (s.f F.SYS_MODE_CHG_CHG ||| (now ^^^ old)), .count F.SYS_MODE_CHG_COUNT,
      .setR .SYS_MODE_STAMP_LO (BitVec.ofNat 32 s.ns), .setR .SYS_MODE_STAMP_HI (BitVec.ofNat 32 (s.ns / 2 ^ 32)),
      .modeEffects (now &&& (255 - old)) (old &&& (255 - now))]),
    -- R252: phase contexts are held wherever PHASE_RUN is not in force
    .when (s.released && !now.testBit phaseRun && !s.b F.SCHED_STATUS_HOLD_PHASE) .holdModes,
    .when (s.modeEff &&& 0x88 != 0) .pairYield,
    .barriers]

/-- R43 to R46: a write of SYS.MODE. -/
def Act.sysMode (v : Word) : Act := .all [
  .store .SYS_MODE v, .upd fun s => { s with pwr := { s.pwr with modeWritten := true } }, .accept, .modes]

/-- A command whose effect may change what R47 looks at. -/
def Act.thenModes (a : Act) : Act := .all [a, .modes]

/-! ### The monitor converter -/

/-- R306: MON_READ of a slot. -/
def Act.monRead (g : Grp) (slot node : Nat) (x : Int) (ovr : Bool) : Act := .all [
  .setF F.MON_READ_SAMPLE (unsigned 24 x) g slot, .setB F.MON_READ_OVR ovr g slot, .setF F.MON_READ_NODE node g slot]

/-- R306: the reading of the slot in progress may be delivered: an output instant of its window. -/
def State.slotDue (s : State) (g : Grp) : Bool := s.alive g && s.outputInstant (s.slotOfMonitor g) (s.slotWindow g)

/-- R177: the polarity of an overload that reaches into the reading; none without one. -/
def State.slotOverload (s : State) (g : Grp) : Option Bool := latestPolarity (s.ovlIn g 9 (s.slotWindow g))

/-- R176, R177, R306: the reading: the monitor converter has no coefficients (R334). -/
def State.slotValue (s : State) (g : Grp) : Int :=
  match s.slotOverload g with
  | some true => 8388607
  | some false => -8388608
  | none => clamp (-8388608) 8388607 (roundQ (s.mon[g].dec.value 0 3 * 2 ^ 23))

/-- R183: TEMP is 2 mV per kelvin, and FS is 1.25 V; in 1/16 °C. -/
def dieTemperature (x : Int) : Int := roundDiv (x * 50000 - 21852 * 8388608) (5 * 8388608)

/-- R179, R180, R183: VREF in µV from a reading of slot 8, whose full scale is 1.25 V: EXTERNAL reads at its node times 5; INTERNAL times 2.5;
SUPPLY's VREF is half of VA5, which reads times 5. -/
def refMicrovolts (sel : Nat) (x : Int) : Int := roundDiv (x * (if sel = 1 then 6250000 else 3125000)) 8388608

/-- R306 to R309, R180, R346: a slot of the monitor converter ends: 0 to 7 are the outputs' sense points, 8 the reference, 9 the die
temperature, 13 the core node. The next slot begins. -/
def Act.monitorSlot (g : Grp) : Act := .look fun s => .when (s.slotDue g) <|
  let slot := s.f F.MON_STATUS_SLOT g
  let value := s.slotValue g
  .all [
    .monRead g slot s.mon[g].node value (s.slotOverload g).isSome,
    if h : slot < 8 then .readback g ⟨slot, h⟩ value
    else if slot = 8 then .refReading g (refMicrovolts (s.f F.REF_CFG_SEL g) value) (s.slotWindow g)
    else if slot = 9 then .setCal g fun c => { c with temp := dieTemperature value }
    else if slot = 13 then .coreReading g value
    else .skip,
    .setF F.MON_STATUS_SLOT (slot + 1) g,
    .when (slot == 15) (.setF F.MON_STATUS_CYCLES (s.f F.MON_STATUS_CYCLES g + 1) g),
    .slotBegins g]

/-! ### The commands -/

def execConverterOutput (g : Grp) (n : Cv) (_ : Computed) (s : State) := (Act.thenModes (Act.output g n)).done s
def execInjectedOutput (g : Grp) (n : Cv) (_ : Computed) (s : State) := (Act.thenModes (Act.injectedOutput g n)).done s
def execCvEnable (src : Src) (g : Grp) (n : Cv) (v : Word) (s : State) :=
  (Act.thenModes (Act.writeTo src .CV_CTRL g n 0 (Act.cvCtrl g n v))).done s
def execCvDisable (src : Src) (g : Grp) (n : Cv) (v : Word) (s : State) :=
  (Act.thenModes (Act.writeTo src .CV_CTRL g n 0 (Act.cvCtrl g n v))).done s
def execCvIlvWrite (src : Src) (g : Grp) (n : Cv) (v : Word) (s : State) :=
  (Act.thenModes (Act.writeTo src .CV_CTRL g n 0 (Act.cvCtrl g n v))).done s
def execInjectCancel (src : Src) (g : Grp) (n : Cv) (slots : BitVec 4) (s : State) :=
  (Act.thenModes (Act.writeTo src .CV_INJ_REQ g n 0 (Act.injReq g n 0 slots.toNat))).done s
def execConvDeclare (src : Src) (g : Grp) (v : Word) (s : State) :=
  (Act.thenModes (Act.writeTo src .FAULT_CONV g 0 0 (Act.faultConv g v))).done s
def execConvClear (src : Src) (g : Grp) (v : Word) (s : State) :=
  (Act.thenModes (Act.writeTo src .FAULT_CONV g 0 0 (Act.faultConv g v))).done s
def execConvDecimCheck (g : Grp) (n : Cv) (s : State) :=
  (Act.thenModes (.look fun t => .when (t.alive g) (Act.declareFailed g n 1))).done s
def execSparePromote (src : Src) (g : Grp) (v : Word) (s : State) :=
  (Act.thenModes (Act.writeTo src .FAULT_SPARE g 0 0 (Act.faultSpare g v))).done s
def execSpareReturn (src : Src) (g : Grp) (v : Word) (s : State) :=
  (Act.thenModes (Act.writeTo src .FAULT_SPARE g 0 0 (Act.faultSpare g v))).done s
def execSpareCoreSwitch (g : Grp) (s : State) :=
  (Act.thenModes (Act.coreEdge g)).done s
def execCellCommit (src : Src) (g : Grp) (v : Word) (s : State) :=
  (Act.thenModes (Act.writeTo src .CELL_COMMIT g 0 0 (Act.cellCommitRun g v))).done s
def execCalRun (src : Src) (g : Grp) (v : Word) (s : State) :=
  (Act.thenModes (Act.writeTo src .CAL_CTRL g 0 0 (Act.calCtrl g v))).done s
def execCalAbort (src : Src) (g : Grp) (v : Word) (s : State) :=
  (Act.thenModes (Act.writeTo src .CAL_CTRL g 0 0 (Act.calCtrl g v))).done s
def execCalFactory (src : Src) (g : Grp) (v : Word) (s : State) :=
  (Act.thenModes (Act.writeTo src .CAL_CTRL g 0 0 (Act.calCtrl g v))).done s
def execCalBackgroundStart (g : Grp) (cls : Fin 3) (target : Fin 16) (s : State) :=
  (Act.thenModes (Act.backgroundStart g cls target)).done s
def execCalReading (g : Grp) (value : Int) (ovr : Bool) (s : State) := (Act.thenModes (Act.calReading g value ovr)).done s
def execCalSetStored (g : Grp) (good : Bool) (s : State) := (Act.thenModes (Act.setStored g good)).done s
def execMonitorReading (g : Grp) (_ _ : Computed) (s : State) := (Act.thenModes (Act.monitorSlot g)).done s
def execSysModeWrite (src : Src) (v : Word) (s : State) := (Act.writeTo src .SYS_MODE 0 0 0 (Act.sysMode v)).done s
def execRelocStart (src : Src) (v : Word) (s : State) := (Act.thenModes (Act.writeTo src .RELOC_CTRL 0 0 0 (Act.relocCtrl v))).done s
def execRelocRetire (s : State) := (Act.thenModes Act.relocRetire).done s
def execPairHeartbeat (answer : Option PairAnswer) (s : State) := (Act.thenModes (Act.heartbeat answer)).done s
def execPairMirrorWrite (off : BitVec 24) (v : Word) (acked : Bool) (s : State) := (Act.mirrorWrite off v acked).done s
def execPairRoleDecide (answer : Option PairAnswer) (s : State) := (Act.thenModes (Act.roleDecide answer)).done s
def execTakeover (s : State) := (Act.thenModes Act.takeover).done s
def execPairSwap (src : Src) (v : Word) (s : State) := (Act.thenModes (Act.writeTo src .PAIR_CTRL 0 0 0 (Act.pairCtrl v))).done s
def execPairYieldSeen (s : State) := (Act.thenModes Act.yieldSeen).done s

end Sys2Proof.Machine
end

