-- ==== Sys2Proof/Machine/Power.lean ====
section
/-! DEFINITION. Supply, groups, start-up and resets (R57 to R83). -/

namespace Sys2Proof.Machine

def Act.setPwr (f : PwrSt → PwrSt) : Act := .upd fun s => { s with pwr := f s.pwr }

def Act.setFlash (f : FlashSt → FlashSt) : Act := .upd fun s => { s with flash := f s.flash }

/-! ### What a reset clears (R81) -/

/-- Registers whose values live in flash or one-time-programmable memory. -/
def flashRegs : List RegName := [.SYS_SERIAL_LO, .SYS_SERIAL_HI, .CFG_BOOT, .CFG_FLASH, .CFG_LIB_VALID, .CFG_KEYS, .CAL_HOURS,
  .FAULT_RETIRED, .LOG_NEWEST, .LOG_OLDEST, .ETH_MAC_LO, .ETH_MAC_HI, .FAULT_CONV, .FAULT_CORE]

/-- Registers that show a link or a port, which a module reset leaves alone. -/
def linkRegs : List RegName := [.PORT_STATUS, .HOST_STATUS]

/-- What every reset of the supervisor clears beside registers and memories: the state of its engines and of the groups' work. Flash,
the log and what outside sources drive stay. -/
def Act.clearWork : Act := .upd fun s => { s with
  latch := [], clk := 0, time := 0
  pins := s.pins.map fun v => v.map fun p => { p with fab0 := none, fab1 := none, hold := none, tripped := false, tripAt := 0, extAt := 0 }
  cmps := State.reset.cmps
  dds := State.reset.dds, mon := State.reset.mon
  outs := s.outs.map fun v => v.map fun o => { (State.reset.outs[(0 : Fin 4)][(0 : Fin 8)]) with powered := o.powered }
  pol := { s.pol with inForce := none, buffer := [], ended := false, slot := 0 }
  pair := State.reset.pair
  eng := State.reset.eng, lim := State.reset.lim, sched := State.reset.sched, trk := State.reset.trk, tim := State.reset.tim
  cells := s.cells.map fun x => { CellsSt.initial with inMode := x.inMode }
  ovl := State.reset.ovl, refs := State.reset.refs, conv := State.reset.conv
  spare := State.reset.spare
  cal := s.cal.map fun c => { c with run := none, fails := [], retry := [], readAt := 0, turn := 15 }
  load := State.reset.load, fab := State.reset.fab, rel := State.reset.rel, dma := State.reset.dma
  log := { s.log with resets := (s.log.resets + 1) % 256 } }

/-- R289, R430: the fields of other registers that live in flash. -/
def Act.flashFields (old : State) : Act := .all [
  .setF F.STEP_POL_STATUS_ACTIVE_SLOT (old.f F.STEP_POL_STATUS_ACTIVE_SLOT),
  .setF F.STEP_POL_STATUS_VALID (old.f F.STEP_POL_STATUS_VALID),
  .setB F.SYS_PWR_VIN_OK (!old.pwr.vinLow)]

/-- R81, R436: the start reference of a reset: registers and memories clear, regions are unretired. -/
def Act.clearAll (warm : Bool) (cause : Nat) : Act := .look fun old => .all [
  .unretireAll,
  .clearRegs fun n => flashRegs.contains n || (warm && linkRegs.contains n),
  .clearMem fun a => warm && decide (0xA8000 ≤ a ∧ a < 0xAA000),
  .clearHarb, .clearWork, .flashFields old,
  .setF F.SYS_RST_CAUSE_CAUSE cause]

/-- R70 step 1: a supply reset from a new t0. What waited in the log's buffer is lost with the supply. -/
def Act.supplyStart (cause : Nat) (head : Bool) (addr : BitVec 6) : Act := .all [
  .setPwr fun p => { p with vinLow := false },
  .setFlash fun f => { f with nvUntil := 0 },
  .clearAll false cause,
  .upd fun s => { s with
    pwr := { PwrSt.initial with
      life := .boot, module := addr, headStrap := head, safePinLow := s.pwr.safePinLow
      vinHigh := s.pwr.vinHigh, vfld := s.pwr.vfld }
    outs := State.reset.outs, cells := State.reset.cells, mods := State.reset.mods
    cal := s.cal.map fun c => { c with temp := 0 }
    ring := RingSt.initial, pcie := State.reset.pcie
    log := { s.log with queue := [], lost := 0, next := ((s.log.flash.getLast?).map fun e => (e.seq + 1) % 4294967296).getD 0 } },
  .nvLoad, .nvResetFields]

/-- R82 step 1: a module reset. The group supplies stay on, the outputs go to their NV power-up values, or to their fault values while
S.SAFE_N is low (R75). R180: INT_SETTLED keeps its value. FAULT_BY bit 0 and FAULT_HOLD, set because S.SAFE_N was low at the reset, stay
until a VALUE write even where the line is high again before SUPERVISOR_UP (DESIGN CHOICE, log entry 119). -/
def Act.moduleReset (cause : Nat) : Act := .look fun old => .all [
  .clearAll true cause,
  .setFlash fun f => { f with nvUntil := old.flash.nvUntil - old.clk },
  .nvLoad, .nvResetFields,
  .setF F.SYS_PWR_GRP_PWR_OK (old.f F.SYS_PWR_GRP_PWR_OK),
  .setPwr fun p => { p with
    life := .boot, warm := true, startRef := 0, dipSeen := p.dipSeen, failures := Vector.replicate 4 []
    restartDue := Vector.ofFn fun g => p.restartDue[g] || !p.supplied[g]
    mapped := Vector.replicate 4 false
    restored := false, released := false, secondVerify := none, modeWritten := false, hourDue := p.hourDue - old.clk
    lowAt := p.lowAt - old.clk, aliveAt := p.aliveAt.map fun t => t - old.clk },
  .upd fun s => { s with
    ring := { s.ring with
      reqs := [], issued := s.ring.issued.map (fun e => (e.1, 0)), kept := s.ring.kept.map (fun e => (e.1, e.2.1, 0, e.2.2.2))
      applied := [], hostQ := [], gaveUp := false, dup := [], failed := [], held := [], evMask := 0, evDue := false, once := 0 } },
  .groups fun g => .all [
    .setB F.REF_STATUS_INT_SETTLED (old.b F.REF_STATUS_INT_SETTLED g) g,
    .setB F.REF_STATUS_REF_SETTLED (old.b F.REF_STATUS_INT_SETTLED g) g,
    .when (old.alive g) (.each (List.finRange 8) fun o => .all [
      .setB F.DAC_STATUS_NV_HOLD true g o,
      if old.pwr.safePinLow then .outFault g o 0 else .outUpdate g o]),
    .when (old.alive g) (.slotBegins g),
    .pinRowUpdate g]]

/-! ### Groups -/

def Act.setAlive (g : Grp) (on : Bool) : Act := .look fun s => .setPwr fun p => { p with
  alive := p.alive.set g on, aliveAt := if on then p.aliveAt.set g s.clk else p.aliveAt }

/-- R19, R68, R83: the group is lost: its work is reported failed item by item, and its outputs and pins take the states of R64. -/
def Act.groupLost (g : Grp) : Act := .look fun s => .when (s.alive g) (.all [
  .setAlive g false,
  .each (List.finRange 8) fun n => .cvLost g n,
  .calLost g, .cellsLost g, .refsLost g, .outsLost g, .cmpsFollow g, .trkGroupLost g,
  .each (List.finRange 10) fun m => .setOvl g m fun _ => [],
  .pinRowUpdate g])

/-- R429: the spare core is promoted for the lowest-numbered failed core. -/
def Act.restoreCores (g : Grp) : Act := .look fun s =>
  let l : List Out := (List.finRange 8).filter fun o => s.flash.coreFailed[g].testBit o
  .all [
    .setF F.FAULT_CORE_FAILED s.flash.coreFailed[g] g,
    .each l fun (o : Out) => .setB F.DAC_STATUS_CORE_FAILED true g o,
    match l with
      | o :: _ => .all [.setF F.DAC_SPARE_ROLE 3 g, .setF F.DAC_SPARE_SERVES o g, .setB F.DAC_STATUS_SPARE_ACTIVE true g o]
      | [] => .skip]

/-- R429: the failure map of a group is restored, once in each start. -/
def Act.restoreMap (g : Grp) : Act := .look fun s => .when (!s.pwr.mapped[g]) (.all [
  .restoreFailed g, .restoreCores g, .setPwr fun p => { p with mapped := p.mapped.set g true }])

/-- R72: the NV area has failed its CRC when a group reaches step 5, or when the outputs of living groups take their values again
(R82 step 1). -/
def Act.nvBad : Act := .look fun s => .when (s.flash.nvBad && !s.b F.SYS_START_NV_BAD) (.all [
  .setB F.SYS_START_NV_BAD true, .log 6 0 []])

/-- R70 step 6, R83: what runs on a group that is alive, from step 6 on. -/
def Act.groupServes (g : Grp) : Act := .look fun s => .when (s.alive g && decide (2 ≤ s.f F.SYS_START_PHASE)) (.all [
  .when (s.f F.SYS_START_PHASE != 2 && s.f F.SYS_START_PHASE != 6) (.cellsStart g),
  .promote g,
  .each (List.finRange 8) fun n => .cvReturn g n,
  .promoteLowest g, .cmpsFollow g])

/-- R70 steps 4 and 5, R83, R306: the die is alive, the failure map is restored, NV values are applied, and the monitor converter starts its
cycle with slot 0. -/
def Act.groupAlive (g : Grp) : Act := .look fun s => .when (s.up && s.pwr.supplied[g] && !s.alive g) (.all [
  .setAlive g true,
  .restoreMap g, .nvBad, .nvApply g, .pinsAlive g, .setF F.MON_STATUS_SLOT 0 g, .slotBegins g, .groupServes g])

/-- R68: a restart of the group is owed, and 100 ms have passed since its rail failed. -/
def State.restartNow (s : State) (g : Grp) : Bool := s.pwr.restartDue[g] && s.pwr.failures[g].head?.all fun t => decide (t + 16384000 ≤ s.clk)

/-- R68: a group restart begins; R83: a group reset too (`cause` 1). The rails settle (R70 step 3). -/
def Act.groupRestart (g : Grp) (cause : Nat) : Act := .all [
  .setPwr fun p => { p with supplied := p.supplied.set g true, restartDue := p.restartDue.set g false },
  .setBit F.SYS_PWR_GRP_PWR_OK g,
  .setBit F.SYS_RST_CAUSE_GRP_RESTART g, .log 5 g (leBytes cause 1)]

/-- R68: a rail has left its tolerance. The third failure within 10 s latches GRP_FAIL. -/
def Act.railFail (g : Grp) (rails : Nat) : Act := .look fun s => .when ((s.pwr.life == .boot || s.up) && s.pwr.supplied[g]) <|
  let l := s.clk :: (s.pwr.failures[g].filter fun t => decide (s.clk ≤ t + 1638400000))
  let latch := decide (3 ≤ l.length)
  .all [
    .clrBit F.SYS_PWR_GRP_PWR_OK g, .groupLost g,
    .when latch (.setBit F.SYS_PWR_GRP_FAIL g),
    .setPwr fun p => { p with
      supplied := p.supplied.set g false, failures := p.failures.set g l, restartDue := p.restartDue.set g (!latch) },
    .look fun t => .log 4 g (leBytes rails 1 ++ leBytes l.length 1 ++ leBytes (t.f F.SYS_PWR_GRP_FAIL) 1)]

/-- R83: a group reset. -/
def Act.groupReset (g : Grp) : Act := .all [
  .groupLost g, .clrBit F.SYS_PWR_GRP_PWR_OK g, .clrBit F.SYS_PWR_GRP_FAIL g,
  .setPwr fun p => { p with failures := p.failures.set g [] },
  .setR .PIN_LOCKED 0 g, .locksUpdate g,
  .groupRestart g 1]

/-- R81: a fabric reset: every flip-flop takes its initial value; block RAM is kept. -/
def Act.fabricReset : Act := .all [
  .each (List.range 32) Act.regionInit, .setFab fun f => { f with bridge := [] },
  .setB F.SYS_RST_CAUSE_FABRIC_RST true]

/-- R80: a write of SYS.RESET. -/
def Act.sysReset (v : Word) : Act :=
  if F.SYS_RESET_KEY.of v ≠ 0xC3 then .refuseUncounted
  else if F.SYS_RESET_MODULE.of v = 1 then .all [.accept, .moduleReset 1]
  else .all [
    .when (F.SYS_RESET_FABRIC.of v == 1) .fabricReset,
    .groups fun g => .when ((F.SYS_RESET_GROUP.of v).testBit g) (.groupReset g),
    .accept]

/-! ### Start-up -/

/-- R60: VIN_HIGH sets, with its entry, where VIN is above the threshold and the bit is 0. -/
def Act.vinHighShows : Act := .look fun s =>
  match s.pwr.vinHigh with
  | some mv => .when (s.up && !s.b F.SYS_PWR_VIN_HIGH) (.all [.setB F.SYS_PWR_VIN_HIGH true, .log 3 0 (leBytes mv 4)])
  | none => .skip

/-- R70, R82: at least `n` system clocks have passed since the start reference. -/
def State.started (s : State) (n : Nat) : Bool := decide (s.pwr.startRef + n ≤ s.clk)

/-- R70 step 2, R82 step 3: 15 ms after the reference the supervisor's registers and ports come up, and the policy image is verified. -/
def Act.supervisorUp : Act := .look fun s => .when (s.pwr.life == .boot && s.started 2457600) (.all [
  .setPwr fun p => { p with life := .up },
  .setF F.SYS_START_PHASE 1,
  .setF F.SYS_INST_MODULE s.pwr.module.toNat, .setB F.SYS_INST_HEAD s.pwr.headStrap,
  .setB F.SYS_INST_HEAD_STRAP s.pwr.headStrap,
  .setF F.COLYS_ID_MODULE s.pwr.module.toNat, .setB F.COLYS_ID_HEAD_STRAP s.pwr.headStrap,
  .setB F.COLYS_ID_HEAD s.pwr.headStrap,
  .when s.ring.bypass (.each [0, 1] fun p => .setF F.PORT_STATUS_STATE portTraining p),
  .setRing fun r => { r with bypass := false },
  .policyStart,
  .when s.pwr.safePinLow (.all [.setB F.LIMIT_SAFE_PIN true, .safeEnter 0]),
  .vinHighShows, .groups fun g => .when s.pwr.vfld[g] (.setBit F.SYS_PWR_VFLD_OK g),
  .groups fun g => .when (s.alive g) (.all [.restoreMap g, .nvBad, .pinRowUpdate g])])

/-- R70 step 3: the isolated supply of the group starts, at 15, 19, 23 or 27 ms, and its rails settle. -/
def Act.groupSupply (g : Grp) : Act := .look fun s =>
  .when (s.up && s.started (2457600 + 655360 * g) && !s.bit F.SYS_PWR_GRP_FAIL g && !s.pwr.supplied[g]) (.all [
  .setPwr fun p => { p with supplied := p.supplied.set g true }, .setBit F.SYS_PWR_GRP_PWR_OK g])

/-- R70 step 6, R82 step 4: at 40 ms, or 20 ms after a module reset, reduced service starts, the monitors go live, and the full stream's
load starts. -/
def Act.reducedService : Act := .look fun s =>
  .when (s.up && s.f F.SYS_START_PHASE == 1 && s.started (if s.pwr.warm then 3276800 else 6553600)) (.all [
  .setF F.SYS_START_PHASE 2, .monitorsLive,
  .converters fun g n => .look fun t => .when (t.alive g) (.reducedStart g n),
  .fullStart s.bootSlot false])

/-- R70 step 9. -/
def Act.coeffRestored : Act := .look fun s => .when (s.f F.SYS_START_PHASE == 3) (.all [
  .setPwr fun p => { p with restored := true }, .setF F.SYS_START_PHASE 4])

/-! ### The supply -/

/-- R61: VIN falls below VOFF. -/
def Act.vinFall : Act := .look fun s => .when (s.pwr.life == .boot || s.up) (.all [
  .setPwr fun p => { p with vinLow := true, dipSeen := false, lowAt := s.clk }, .setB F.SYS_PWR_VIN_OK false])

/-- R61: VIN has been below VOFF for 1 ms. -/
def State.dipOver (s : State) : Bool := decide (s.pwr.lowAt + 163840 ≤ s.clk)

/-- R61 step 1. -/
def Act.dipDetected : Act := .look fun s =>
  .when (s.pwr.vinLow && !s.pwr.dipSeen && (s.pwr.life == .boot || s.up)) (.all [
    .setPwr fun p => { p with dipSeen := true }, .setB F.SYS_PWR_DIP true, .count F.SYS_PWR_DIP_COUNT])

/-- R61 step 2: VIN is back above VON before 1 ms. -/
def Act.dipEnd (micros : Nat) : Act := .look fun s => .when (s.pwr.vinLow && !s.dipOver && (s.pwr.life == .boot || s.up)) (.all [
  .setPwr fun p => { p with vinLow := false, dipSeen := false }, .setB F.SYS_PWR_VIN_OK true,
  .when s.pwr.dipSeen (.log 2 0 (leBytes micros 4))])

/-- R63: the sequence number of the last record that each converter has in a berth; CV8 has none of its own (free), and a converter that
has written none since the reset gives FFFFh (DESIGN CHOICE, log entry 118). -/
def State.lastSeqs (s : State) (spare : Nat) : List Byte :=
  ((List.range 36).map fun n =>
    if n % 9 = 8 then leBytes (spare >>> (16 * (n / 9))) 2
    else leBytes ((s.cv (Fin.ofNat 4 (n / 9)) (Fin.ofNat 8 (n % 9))).landed.getD 65535) 2).flatten

/-- R63: the descriptor addresses of the DMA channels, 13 in a part. -/
def State.lastDescs (s : State) : List (List Byte) :=
  (List.range 5).map fun i => (((List.finRange 64).filter fun c => c.val / 13 == i).map fun c => leBytes (s.dmaDesc c) 8).flatten

/-- R419, R63: the power-fail record is committed, and queued entries as far as hold-up allows (how many is open). -/
def Act.powerFailRecord : Act := .fresh fun x => .fresh fun y => .look fun s =>
  let lost := y.toNat % (s.log.queue.length + 1)
  let parts := logParts s 1 0 ((s.lastSeqs x.toNat ++ leBytes lost 2) :: s.lastDescs)
  .all [
    .upd fun s => { s with log := { s.log with
      flash := logAppend s.log.flash (s.log.queue.take (s.log.queue.length - lost) ++ parts)
      queue := [], next := (s.log.next + 6) % 4294967296 } },
    .logBounds]

/-- R61 steps 3 to 5: the power-fail sequence: outputs take their fault values, pins their safe states. -/
def Act.powerFail : Act := .look fun s => .when (s.pwr.vinLow && s.pwr.dipSeen && s.dipOver && (s.pwr.life == .boot || s.up)) (.all [
  .powerFailRecord,
  .groups fun g => .all [
    .each (List.finRange 8) fun o => .outFault g o 0,
    .when (s.alive g) (.all [
      .each (List.finRange 20) fun p => .look fun t => .setPin g p fun x => { x with hold := t.pinDrive g p },
      .setF F.PIN_STATE_STATE 3 g, .pinsRefresh g])],
  .setPwr fun p => { p with life := .failing }])

/-- R64: the rails have collapsed. -/
def Act.railsCollapse : Act := .look fun s => .when (s.pwr.life == .failing) (.all [
  .groups fun g => .all [
    .setAlive g false, .outsLost g, .each (List.finRange 16) fun k => .cmpOff g k, .setF F.PIN_STATE_STATE 0 g, .pinsRefresh g],
  .setFlash fun f => { f with nvBad := f.nvBad || decide (s.clk < f.nvUntil) },
  .setPwr fun p => { p with life := .collapsed, supplied := Vector.replicate 4 false }])

/-- R69: g.VFLD falls below 10.5 V: VFLD_OK clears, with its entry, where it was set. -/
def Act.vfldLow (g : Grp) : Act := .all [
  .setPwr fun p => { p with vfld := p.vfld.set g false },
  .look fun s => .when (s.bit F.SYS_PWR_VFLD_OK g) (.all [.clrBit F.SYS_PWR_VFLD_OK g, .when s.up (.log 24 g [])]),
  .pinsRefresh g]

/-- R69, R323: g.VFLD is back. -/
def Act.vfldReturn (g : Grp) : Act := .all [
  .setPwr fun p => { p with vfld := p.vfld.set g true },
  .look fun s => .when s.up (.setBit F.SYS_PWR_VFLD_OK g), .pinsRefresh g]

/-! ### The commands -/

def execSupplyPowerOn (head : Bool) (addr : BitVec 6) (s : State) :=
  (Act.look fun t => .when (t.pwr.life == .off || t.pwr.life == .collapsed) (.supplyStart 0 head addr)).done s
def execSupervisorUp (s : State) := Act.supervisorUp.done s
def execGroupSupplyStart (g : Grp) (s : State) := (Act.groupSupply g).done s
def execGroupAlive (g : Grp) (s : State) := (Act.thenModes (Act.groupAlive g)).done s
def execReducedServiceStart (s : State) := Act.reducedService.done s
def execCoeffRestoreDone (s : State) := Act.coeffRestored.done s
def execVinFall (s : State) := Act.vinFall.done s
def execDipDetected (s : State) := Act.dipDetected.done s
def execDipEnd (micros : Nat) (s : State) := (Act.dipEnd micros).done s
def execPowerFailStart (s : State) := Act.powerFail.done s
def execRailsCollapse (s : State) := Act.railsCollapse.done s
/-- R62: VIN has stayed above VON for 10 ms after a power-fail sequence. -/
def execPowerFailRestart (head : Bool) (addr : BitVec 6) (s : State) :=
  (Act.look fun t => .when (t.pwr.life == .failing || t.pwr.life == .collapsed) (.supplyStart 4 head addr)).done s
/-- R60, R447: beyond the absolute maximum of 100 V nothing is specified. -/
def execVinHighRise (millivolts : Nat) (s : State) : Host.Outcome State Fault Refusal :=
  if 100000 < millivolts then .fault .beyondAbsoluteMaximum
  else (Act.all [.setPwr fun p => { p with vinHigh := some millivolts }, .vinHighShows]).done s
def execVinHighFall (s : State) := (Act.all [.setPwr fun p => { p with vinHigh := none }, .setB F.SYS_PWR_VIN_HIGH false]).done s
def execGroupRailFail (g : Grp) (rails : BitVec 4) (s : State) := (Act.thenModes (Act.railFail g rails.toNat)).done s
def execGroupLost (g : Grp) (s : State) := (Act.thenModes (Act.groupLost g)).done s
def execGroupRestart (g : Grp) (s : State) :=
  (Act.look fun t => .when (t.up && t.restartNow g) (.groupRestart g 0)).done s
def execVfldLow (g : Grp) (s : State) := (Act.vfldLow g).done s
def execVfldReturn (g : Grp) (s : State) := (Act.vfldReturn g).done s
def execModuleReset (src : Src) (v : Word) (s : State) := (Act.writeTo src .SYS_RESET 0 0 0 (Act.sysReset v)).done s
def execFabricReset (src : Src) (v : Word) (s : State) := (Act.writeTo src .SYS_RESET 0 0 0 (Act.sysReset v)).done s
def execGroupReset (src : Src) (v : Word) (s : State) := (Act.thenModes (Act.writeTo src .SYS_RESET 0 0 0 (Act.sysReset v))).done s
/-- R284: the watchdog expires. -/
def execWatchdogExpiry (s : State) := (Act.wdogExpire (.moduleReset 3)).done s

end Sys2Proof.Machine
end

