-- ==== Sys2Proof/Machine/Read.lean ====
section
/-! DEFINITION. Reads of the window: where an offset lies (R37, R38), the words that are computed at their read, the interrupt lines
(R404), latched words, and the answer to a read. -/

namespace Sys2Proof.Machine

/-! ### Places -/

/-- What lies at an offset of the window. -/
inductive Place where
  | reg (r : RegRef)
  /-- R131: a user register. -/
  | user (d : Die) (a : Fin 65536)
  /-- R242: the context memory. -/
  | context (x : Ctx) (o : Nat)
  /-- R264: the step memory. -/
  | step (w : Fin 16384) (high : Bool)
  /-- R376: the descriptor memory, and on the head the MSI-X table. -/
  | memory (a : Nat)
  /-- R135: capture readback; the PBA. -/
  | readback (a : Nat)
  /-- R357: a port of a berth. -/
  | port (b : Berth) (p : Nat)
  | reserved
deriving DecidableEq, Repr

/-- R37: the place of an offset. -/
def placeOf (off : Nat) : Place :=
  let plain := match lookupReg off with
    | some r => Place.reg r
    | none => .reserved
  if 0x98000 ≤ off ∧ off < 0xA0000 then .memory off
  else if 0xA8000 ≤ off ∧ off < 0xA9000 then .memory off
  else if 0xA9000 ≤ off ∧ off < 0xAA000 then .readback off
  else if off < 0x200000 then plain
  else if off < 0x300000 then
    let o := off % 0x80000
    if o < 0x40000 then .user (Fin.ofNat 2 ((off - 0x200000) / 0x80000)) (Fin.ofNat 65536 (o / 4))
    else if o < 0x60000 then .readback off
    else plain
  else if 0x400000 ≤ off ∧ off < 0x440000 then .context (Fin.ofNat 16384 ((off - 0x400000) / 16)) (off % 16)
  else if 0x500000 ≤ off ∧ off < 0x520000 then .step (Fin.ofNat 16384 ((off - 0x500000) / 8)) (decide (off % 8 ≠ 0))
  else if 0x800000 ≤ off ∧ off < 0x1000000 then .port (Fin.ofNat 1024 ((off - 0x800000) / 0x2000)) (off % 0x2000)
  else .reserved

/-- COLYS, TIME: the registers that exist on a head alone. -/
def headRegs : List RegName := [.HOST_CTRL, .HOST_STATUS, .HOST_ERRS, .HOST_ERR_ADDR, .MNT_CMD, .MNT_ARG, .MNT_STATUS, .MNT_DATA,
  .TIME_PTP_CFG, .TIME_PTP_STATUS, .EVT_ACK, .MNT_BUF, .ETH_MAC_LO, .ETH_MAC_HI, .ETH_IP_ADDR, .ETH_STATUS, .EVT_STATE_LO, .EVT_STATE_HI, .COLYS_MAP]

/-- COLYS.ID.HEAD. -/
def State.acting (s : State) : Bool := s.b F.COLYS_ID_HEAD

/-- A register that this module does not have: the head's on another module, and what FAB[1] has not (R11). -/
def State.absent (s : State) (r : RegRef) : Bool := headRegs.contains r.name && !s.acting

/-- R70: a register of a GRP block. -/
def groupOf (off : Nat) : Option Grp := if 0x100000 ≤ off ∧ off < 0x200000 then some (Fin.ofNat 4 ((off - 0x100000) / 0x40000)) else none

/-! ### Interrupt lines (R404) -/

/-- A number from its bits, bit 0 first. -/
def bitsNat : List Bool → Nat
  | [] => 0
  | b :: l => b.toNat + 2 * bitsNat l

/-- The lines of a group: cell, converters, output, DDS, pin, calibration (R166, R194, R312, R333, R353). -/
def State.groupLines (s : State) (g : Grp) : Nat := bitsNat [
  s.b F.CELL_SHADOW_DONE g || s.b F.CELL_SHADOW_REJECTED g || (List.range 12).any (fun c => s.b F.CELL_STATUS_CLIP g c),
  (List.range 8).any (fun n => s.b F.CV_SHADOW_DONE g n || s.b F.CV_SHADOW_REJECTED g n || s.b F.CV_STATUS_OVR g n),
  (List.range 8).any (fun o => s.b F.DAC_STATUS_RB_FAULT g o),
  (List.range 4).any (fun e => s.b F.DDS_STATUS_DONE g e || s.b F.DDS_STATUS_REJECTED g e || s.b F.DDS_STATUS_CLIP g e),
  s.f F.PIN_FIELD_OVERLOAD g != 0 || s.f F.PIN_DP_STATUS_FS g != 0,
  s.b F.CAL_STATUS_DONE g || s.b F.CAL_STATUS_FAILED g || s.f F.CAL_FAILS_CONV g != 0 || s.f F.CAL_FAILS_CORE g != 0]

/-- R404: every line with a source set. -/
def State.lines (s : State) : Nat :=
  (bitsNat ([
    s.b F.CFG_STATUS_DONE || s.b F.CFG_STATUS_FAILED,
    (s.r .TIME_EVENTS).toNat % 32 != 0] ++
    (List.range 4).map (fun k => s.b F.TRK_STATUS_JUMPED k || s.b F.TRK_STATUS_LOCK_LOST k || s.b F.TRK_STATUS_HOME_DONE k ||
      s.b F.TRK_STATUS_QERR k) ++ [
    (s.r .SCHED_EVENTS).toNat % 16 != 0,
    s.r .STEP_EVENTS != 0,
    (List.range 4).any (fun i => s.r .LIMIT_TRIPPED i != 0) || s.b F.LIMIT_SAFE_ACTIVE || s.b F.LIMIT_WDOG_EXPIRED,
    s.busyBerths.any s.berthIrq,
    (List.range 64).any s.dmaIrq,
    s.r .FAULT_EVENTS != 0,
    s.r .COLYS_EVENTS != 0]) +
  ((List.finRange 4).map fun g => s.groupLines g <<< (16 + 8 * g.val)).sum) ||| s.ring.once

/-- R404: the pending mask. -/
def State.pendingMask (s : State) : Nat :=
  s.lines &&& ((s.r .COLYS_EVT_EN_LO).toNat + (s.r .COLYS_EVT_EN_HI).toNat <<< 32)

/-! ### Words computed at their read -/

/-- R360, R368, R369: HARB.B.STATUS. -/
def State.harbStatus (s : State) (b : Nat) : Word :=
  let on := s.b F.HARB_CFG_ENABLE b
  F.HARB_STATUS_EMPTY.put (F.HARB_STATUS_FULL.put (s.r .HARB_STATUS b) (on && !s.berthRoom b 1).toNat)
    (on && (s.berth b).cLevel == 0).toNat

/-- R350, CAL: the item and the path that VIEW_SEL names. -/
def State.viewed (s : State) (g : Grp) : CalPoint × Nat × Bool :=
  let cls := s.f F.CAL_VIEW_SEL_CLASS g
  let item := s.f F.CAL_VIEW_SEL_TARGET g
  let path := s.f F.CAL_VIEW_SEL_PATH g
  let factory := s.b F.CAL_VIEW_SEL_FACTORY g
  (s.inUse g cls item path factory, (s.calPoints g cls item path factory).length, (s.fieldSet g cls item).isSome)

/-- The word a register shows: what it stores, or what its rule computes. -/
def State.shown (s : State) (r : RegRef) : Word :=
  let g : Grp := Fin.ofNat 4 r.i
  let w := s.r r.name r.i r.j r.k
  let nat := fun (n : Nat) => BitVec.ofNat 32 n
  match r.name with
  | .SYS_IRQ_LO => nat s.lines
  | .SYS_IRQ_HI => nat (s.lines / 2 ^ 32)
  | .TIME_NOW_LO => nat s.ns
  | .TIME_NOW_HI => nat (s.ns / 2 ^ 32)
  | .TIME_NOW_FRAC => nat (s.time / 65536 % 65536)
  | .TIME_STATE => F.TIME_STATE_SOURCE.put w (!s.head).toNat
  | .STEP_FLAG_CLR => s.flags
  | .SCHED_STATUS => F.SCHED_STATUS_ARMED.put w s.armedCtx.length
  | .CAL_VIEW_OFS => nat (unsigned 24 (s.viewed g).1.ofs)
  | .CAL_VIEW_GAIN => nat (s.viewed g).1.gain
  | .CAL_VIEW_AUX => if s.f F.CAL_VIEW_SEL_CLASS g = 1 then 0 else nat (s.viewed g).1.aux
  | .CAL_VIEW_TEMP => nat (unsigned 16 s.cal[g].temp + (s.viewed g).2.1 % 16 * 65536 + (s.viewed g).2.2.toNat * 1048576)
  | .CAL_XTAL => F.CAL_XTAL_VALID.put w (s.b F.CAL_XTAL_VALID && s.f F.TIME_STATE_STATE == 2).toNat
  | .HARB_STATUS => s.harbStatus r.i
  | .HARB_C_LEVEL => nat (s.berth r.i).cLevel
  | .HARB_P_LEVEL => nat (s.berth r.i).pLevel
  | .HARB_PACKETS => nat (s.berth r.i).packets
  | .HARB_GAP => nat (s.berth r.i).gap
  | .HARB_POOL => nat s.poolFree
  | .HARB_RESERVE => nat s.reserveSum
  | .HARB_IRQ_SUM => nat (bitsNat ((List.range 32).map fun k => s.berthIrq (32 * r.i + k)))
  | .DMA_STATUS => F.DMA_STATUS_BARRIER_FORCED.put w s.barrierForced.toNat
  | .DMA_TAGS => nat s.dma.tags.length
  | .DMA_IRQ_SUM_LO => nat (bitsNat ((List.range 32).map s.dmaIrq))
  | .DMA_IRQ_SUM_HI => nat (bitsNat ((List.range 32).map fun k => s.dmaIrq (32 + k)))
  | .COLYS_EVT_PEND_LO => nat s.pendingMask
  | .COLYS_EVT_PEND_HI => nat (s.pendingMask / 2 ^ 32)
  | .INP_STATUS => F.INP_STATUS_TAKEN.put w (s.taken g r.j).toNat
  | .CELL_CLIP_SUMMARY => nat (bitsNat ((List.range 12).map fun c => s.b F.CELL_STATUS_CLIP g c))
  | .DDS_PHASE_NOW => nat (s.ddsPhase g (Fin.ofNat 4 r.j) / 2 ^ 32)
  | .PIN_OUT_SET | .PIN_OUT_CLR | .PIN_OUT_TGL => s.r .PIN_OUT r.i
  | .FAB_TAP_STATUS =>
    let d : Die := Fin.ofNat 2 r.i
    F.FAB_TAP_STATUS_LIVE.put (F.FAB_TAP_STATUS_SLOW.put w (bitsNat ((List.range 8).map fun t => s.tapSlow d t)))
      (bitsNat ((List.range 8).map fun t => s.tapLive d t))
  | _ => w

/-- The registers that a read of this one latches. -/
def latchedBy (r : RegRef) : List RegRef :=
  let l := fun (ns : List RegName) => ns.map fun n => (⟨n, r.i, r.j, r.k⟩ : RegRef)
  match r.name with
  | .SYS_SERIAL_LO => l [.SYS_SERIAL_HI]
  | .SYS_MODE_STAMP_LO => l [.SYS_MODE_STAMP_HI]
  | .SYS_RED_CELL0_LO => l [.SYS_RED_CELL0_HI, .SYS_RED_STAMP_LO, .SYS_RED_STAMP_HI]
  | .TIME_NOW_LO => l [.TIME_NOW_HI, .TIME_NOW_FRAC]
  | .TIME_LAST_STEP_LO => l [.TIME_LAST_STEP_HI, .TIME_STEP_STAMP_LO, .TIME_STEP_STAMP_HI]
  | .TIME_PPS_CAP_LO => l [.TIME_PPS_CAP_HI]
  | .TRK_PHASE_LO => l [.TRK_PHASE_HI, .TRK_VEL]
  | .TRK_JUMP_FROM_LO => l [.TRK_JUMP_FROM_HI, .TRK_JUMP_TO_LO, .TRK_JUMP_TO_HI, .TRK_JUMP_TIME_LO, .TRK_JUMP_TIME_HI, .TRK_JUMP_CAUSE]
  | .SCHED_TRK_EXTREME_LO => l [.SCHED_TRK_EXTREME_HI]
  | .CAL_VIEW_OFS => l [.CAL_VIEW_GAIN, .CAL_VIEW_AUX, .CAL_VIEW_TEMP]
  | .DMA_DESC_LO => l [.DMA_DESC_HI]
  | .FAB_CAP_STAMP_LO => l [.FAB_CAP_STAMP_HI]
  | _ => []

/-- R12, R14: a read of a register: its latched word where it has one, else the word shown; RC fields clear, and a low word
latches its others. -/
def Act.readReg (r : RegRef) : Act := .look fun s =>
  let answer := fun (w : Word) => Act.answer (.ok ((r.name.readable w).setWidth 64))
  if s.absent r then .answer (.ok 0)
  else match assoc s.latch r with
  | some w => .all [.upd fun s => { s with latch := assocDel s.latch r }, answer w]
  | none =>
    let held := (latchedBy r).map fun q => (q, s.shown q)
    .all [
      .upd fun s => { s with latch := held.foldl (fun l e => assocSet l e.1 e.2) s.latch },
      .setR r.name (r.name.afterRead (s.r r.name r.i r.j r.k)) r.i r.j r.k,
      answer (s.shown r)]

/-! ### Refused accesses -/

/-- R40: the counter of refused accesses of the block an offset lies in; SYS and TIME share none, so SYS has none and TIME counts with
TIDE. -/
def Act.refuseAt (off : Nat) : Act :=
  let g := (off - 0x100000) / 0x40000
  let sub := off % 0x40000 / 0x1000
  match off / 0x10000 with
  | 0x0 => .refuseUncounted
  | 0x1 => .cfgRefuse
  | 0x2 | 0x3 => .tideRefuse
  | 0x4 => .schedRefuse
  | 0x5 => .stepRefuse
  | 0x6 => .limitRefuse
  | 0x7 => .calRefuse
  | 0x8 => .harbRefuse
  | 0x9 => .dmaRefuse
  | 0xA => .refuse F.COLYS_REFUSED_COUNT
  | 0xB => .faultRefuse
  | _ =>
    if 0x100000 ≤ off ∧ off < 0x200000 then
      if sub = 0 then .refuse F.INP_REFUSED_COUNT g
      else if sub = 1 then .refuse F.CELL_SHADOW_REFUSED g
      else if sub < 10 then .refuse F.CV_SHADOW_REFUSED g (sub - 2)
      else if sub = 12 then .refuse F.DAC_REFUSED_COUNT g
      else if sub = 13 then .refuse F.DDS_STATUS_REFUSED g (off % 0x400 / 0x40)
      else if sub = 14 then .refuse F.CMP_REFUSED_COUNT g
      else if sub = 15 then .refuse F.PIN_REFUSED_COUNT g
      else .refuseUncounted
    else if 0x200000 ≤ off ∧ off < 0x300000 then .refuse F.FAB_CAP_STATUS_CAP_REFUSED
    else if 0x400000 ≤ off ∧ off < 0x440000 then .schedRefuse
    else if 0x500000 ≤ off ∧ off < 0x520000 then .stepRefuse
    else if 0x800000 ≤ off then .harbRefuse
    else .answer .error

/-! ### A read -/

/-- The bytes of a memory at an offset, as an answer. -/
def Act.readBytes (a n : Nat) : Act := .look fun s => .answer (.ok (BitVec.ofNat 64 (s.bytes a n)))

/-- R357: a 32-bit read of a port. -/
def Act.readPort (src : Src) (b : Berth) (p : Nat) : Act := .look fun s =>
  match p with
  | 0x10 => .portPop src b .lo .none
  | 0x14 => .portPop src b .hi .none
  | 0x18 => .portPeek src b .lo .none
  | 0x1C => .portPeek src b .hi .none
  | 0x20 => if s.portReads b then .answer (.ok (BitVec.ofNat 64 (s.popTag src b))) else .harbRefuse
  | _ => .answer (.ok 0)

/-- An aligned 32-bit read. The answer to a read of a user register comes later (R131); `job` names the burst it belongs to. -/
def Act.read32 (src : Src) (off : Nat) (job : Option (Nat × Nat)) : Act := .look fun s =>
  match placeOf off with
  | .reg r => match groupOf off with
    | some g => if s.alive g then .readReg r else .answer .error
    | none => .readReg r
  | .user d a => .userAccess src d false a 0 job
  | .context x o => .readBytes (ctxOffset x + o) 4
  | .step w high => .readBytes (stepOffset w + 4 * high.toNat) 4
  | .memory a | .readback a => if 0xA0000 ≤ a ∧ a < 0xB0000 ∧ !s.acting then .answer (.ok 0) else .readBytes a 4
  | .port b p => .readPort src b p
  | .reserved => .answer (.ok 0)

/-- R40: a place whose aligned 64-bit accesses are indivisible. -/
def indivisible (off : Nat) : Bool :=
  decide ((0x400000 ≤ off ∧ off < 0x440000) ∨ (0x500000 ≤ off ∧ off < 0x520000) ∨ 0x800000 ≤ off)

/-- R40: an aligned 64-bit read that is indivisible. -/
def Act.read64 (src : Src) (off : Nat) : Act :=
  match placeOf off with
  | .port b p =>
    match p with
    | 0x10 => .portPop src b .both .none
    | 0x18 => .portPeek src b .both .none
    | _ => .readPort src b p
  | .context x o => .readBytes (ctxOffset x + o) 8
  | .step w _ => .readBytes (stepOffset w) 8
  | _ => .answer (.ok 0)

end Sys2Proof.Machine
end

