-- ==== Sys2Proof/Machine/Maint.lean ====
section
/-! DEFINITION. Maintenance operations (R402, R414, R422), and the interrupt messages of the head (R413). -/

namespace Sys2Proof.Machine

/-! ### MSI-X (R413) -/

/-- The vector control word of a vector, and the byte of the PBA that holds its pending bit. -/
def vectorControl (v : Nat) : Nat := 0xA8000 + 16 * v + 12
def vectorPending (v : Nat) : Nat := 0xA9000 + v / 8

/-- The endpoint may send messages: MSI-X is enabled and not masked as a whole, and the function is a bus master in D0. -/
def State.msixOpen (s : State) : Bool :=
  s.pcie.msix && !s.pcie.fmask && s.b F.HOST_STATUS_BME && !s.b F.HOST_STATUS_D3HOT

/-- The vector is masked by itself. -/
def State.vectorMasked (s : State) (v : Nat) : Bool := (s.byte (vectorControl v)).getLsbD 0

/-- A message of a vector: sent, or pending while it is masked. -/
def Act.msix (v : Nat) : Act := .look fun s =>
  if s.msixOpen && !s.vectorMasked v then .send (.msix v)
  else .setByte (vectorPending v) (s.byte (vectorPending v) ||| BitVec.ofNat 8 (1 <<< (v % 8)))

/-- Messages that wait go out as soon as nothing masks them. -/
def Act.msixPending : Act := .look fun s => .when s.msixOpen <|
  .each (List.range 256) fun v => .look fun t =>
    let byte := t.byte (vectorPending v)
    .when (byte.getLsbD (v % 8) && !t.vectorMasked v) (.all [
      .setByte (vectorPending v) (byte &&& ~~~(BitVec.ofNat 8 (1 <<< (v % 8)))), .send (.msix v)])

/-- R413: line `l` of module `m` is pending by its latest mask. -/
def State.eventState (s : State) (m l : Nat) : Bool :=
  if l < 32 then s.bit F.EVT_STATE_LO_MASK l m else s.bit F.EVT_STATE_HI_MASK (l - 32) m

/-- R413: a line rises, or is acknowledged while it is pending. -/
def Act.raiseLine (m l : Nat) : Act := .look fun s =>
  .when (s.b F.COLYS_MAP_EN m l && s.b F.COLYS_MAP_ARMED m l) (.all [
    .setB F.COLYS_MAP_ARMED false m l, .msix (s.f F.COLYS_MAP_VECTOR m l)])

/-- R413: a write of EVT_ACK. -/
def Act.evtAck (v : Word) : Act := .look fun s =>
  let m := F.EVT_ACK_MODULE.of v
  let l := F.EVT_ACK_LINE.of v
  .all [
    .when (s.acting && decide (l < 48)) (.all [
      .setB F.COLYS_MAP_ARMED true m l, .when (s.eventState m l) (.raiseLine m l)]),
    .accept]

/-- R404, R413: the head takes a module's mask; lines that rise raise their messages. -/
def Act.takeMask (m mask : Nat) : Act := .look fun s =>
  let rises := (List.range 48).filter fun l => mask.testBit l && !s.eventState m l
  .all [
    .setF F.EVT_STATE_LO_MASK mask m, .setF F.EVT_STATE_HI_MASK (mask / 2 ^ 32) m,
    .each rises fun l => .raiseLine m l]

/-- R404: sequence number `a` is newer than `b`, modulo 65,536. -/
def newerSeq (a b : Nat) : Bool := decide (0 < (a + 65536 - b) % 65536 ∧ (a + 65536 - b) % 65536 < 32768)

/-- R404: the head applies an EVENT whose sequence number is newer than the last one applied for its module. -/
def Act.eventApply (m : BitVec 6) (mask seq : Nat) : Act := .look fun s =>
  let newer := match assoc s.ring.applied m with
    | some n => newerSeq seq n
    | none => true
  .when (s.up && s.acting && newer) (.all [
    .setRing fun r => { r with applied := assocSet r.applied m seq }, .takeMask m.toNat mask])

/-- R404: the module sends its pending mask to the head on the data class; on the head itself it is applied at once. Without a map
that names a head none is sent. -/
def Act.eventSend : Act := .look fun s =>
  let mask := s.pendingMask
  let seq := (s.ring.evSeq + 1) % 65536
  let head := BitVec.ofNat 6 (s.f F.COLYS_RING_HEAD)
  .when (s.up && (s.acting || s.b F.COLYS_RING_HEAD_KNOWN)) (.all [
    .setRing fun r => { r with evSeq := seq, evMask := mask, evDue := false, once := 0 },
    if s.acting then .eventApply s.ownNumber mask seq
    else .sendReply [({ kind := pkEvent, dst := head, src := s.ownNumber } : PkHead).word,
      BitVec.ofNat 64 (mask % 2 ^ 48 + seq <<< 48)]])

/-! ### Maintenance operations -/

/-- R414: a MAINT operation of this head ends. -/
def Act.mntEnd (status : Nat) (data : List DWord) : Act := .all [
  .setB F.MNT_STATUS_BUSY false, .setF F.MNT_STATUS_STATUS status,
  .setR .MNT_DATA ((data.headD 0).setWidth 32),
  .each (List.range 16) fun n => .all [
    .setR .MNT_BUF ((data.getD n 0).setWidth 32) (2 * n),
    .setR .MNT_BUF ((data.getD n 0 >>> 32).setWidth 32) (2 * n + 1)]]

/-- R402: the completion of a MAINT operation, to this module's own MNT registers or over the ring. -/
def Act.maintAnswer (origin : BitVec 6) (tag op status : Nat) (data : List DWord) : Act := .look fun s =>
  if origin == s.ownNumber then .mntEnd status data
  else
    let h : PkHead := { kind := pkMaint, maint := true, dst := s.ownNumber, src := origin, tag := tag }
    .all [.keep origin tag (some (completionWords s.ownNumber h op status data)), .complete h op status data]

/-- R402: REG_READ serves these offsets. -/
def regReadable (off : Nat) : Bool :=
  off % 4 == 0 && decide (off < 0xC0000 ∨ (0x400000 ≤ off ∧ off < 0x440000) ∨ (0x500000 ≤ off ∧ off < 0x520000))

/-- R420: the 16 beats of an entry. -/
def entryBeats (e : LogEntry) : List DWord := (List.range 16).map fun i => BitVec.ofNat 64 (leNat ((e.image.drop (8 * i)).take 8))

/-- R64, R393: the module is powered, so that a packet reaches it. -/
def State.present (s : State) : Bool := s.pwr.life != .off && s.pwr.life != .collapsed

/-- R402, R408, R422: a MAINT operation for this module; `arg` is ARG. -/
def Act.maintRun (origin : BitVec 6) (tag op arg : Nat) : Act := .look fun s =>
  let done := fun (st : Nat) (data : List DWord) => Act.maintAnswer origin tag op st data
  if !s.present then .skip
  else if !s.up || s.b F.COLYS_ID_ISOLATED then done 2 []
  else match op with
  | 0 =>
    let off := arg % 2 ^ 24
    if regReadable off then (Act.read32 .ring off none).andThen <| .look fun t => match t.resp with
      | .ok d => done 0 [d]
      | _ => done 1 []
    else done 1 []
  | 1 => match s.logEntry (arg % 2 ^ 32) with
    | some e => done 0 (entryBeats e)
    | none => done 1 []
  | 2 => .all [.safeEnter 4, done 0 []]
  | 3 => if 32 ≤ arg then done 1 [] else .all [.regionReset arg, done 0 []]
  | 4 => if arg % 4 ≠ 0 ∨ 0x1000 ≤ arg then done 1 []
    else (Act.captureCtrl (BitVec.ofNat 32 (arg + 1))).andThen <| .look fun t =>
      done (if t.resp == .error then 1 else 0) []
  | 5 => if arg ≠ 0xC3 then done 1 [] else .all [done 0 [], .moduleReset 2]
  | 6 => if h : arg < 64 then .all [
      .setCh ⟨arg, h⟩ fun x => { x with waiters := x.waiters ++ [(origin, BitVec.ofNat 16 tag)] }, .dmaAbort ⟨arg, h⟩]
    else done 1 []
  | _ => done 1 []

/-- R414: a write of MNT_CMD: an operation for this module runs at once, another's goes over the ring. -/
def Act.mntCmd (v : Word) : Act := .look fun s =>
  let dst := BitVec.ofNat 6 (F.MNT_CMD_DST.of v)
  let op := F.MNT_CMD_OP.of v
  let arg := (s.r .MNT_ARG).toNat
  if !s.acting then .accept
  else if s.b F.MNT_STATUS_BUSY then .refuse F.COLYS_REFUSED_COUNT
  else .all [
    .setF F.MNT_STATUS_STATUS 0, .setB F.MNT_STATUS_BUSY true,
    if dst == s.ownNumber then
      if 7 ≤ op ∧ op ≤ 10 then .setRing fun r => { r with reqs := r.reqs ++ [⟨r.tag, dst, .mnt, s.clk⟩], tag := (r.tag + 1) % 65536 }
      else .maintRun dst 0 op arg
    else .request dst .mnt (s.maintWords dst op arg),
    .accept]

end Sys2Proof.Machine
end

