-- ==== Sys2Proof/Machine/Bus.lean ====
section
/-! DEFINITION. The module bus: what a write to each register does, and accesses of 32 and 64 bits (R40). -/

namespace Sys2Proof.Machine

/-- A write to a register: its own rule where it has one, else its fields' access codes (R12). -/
def Act.regWrite (src : Src) (r : RegRef) (v : Word) : Act :=
  let g : Grp := Fin.ofNat 4 r.i
  let n : Cv := Fin.ofNat 8 r.j
  let m := fun (a : Act) => Act.mirrored src r.offset v a
  let refuseIf := fun (bad : Bool) (no : Act) => if bad then no else Act.all [.store r.name v r.i r.j r.k, .accept]
  match r.name with
  | .SYS_MODE => .sysMode v
  | .SYS_RESET => .sysReset v
  | .CFG_CTRL => .cfgCtrl v
  | .CFG_DATA => .cfgData v
  | .CFG_HOLD => .cfgHold v
  | .CFG_BOOT => .cfgBoot v
  | .CFG_KEY_REVOKE => .keyRevoke v
  | .TIME_CTRL => .timeCtrl v
  | .TIME_RATE => .timeRateWrite v
  | .TIME_STEP_LO => .all [.setR .TIME_STEP_LO v, .accept]
  | .TIME_STEP_HI => .timeStepWrite v
  | .TIME_PTP_CFG => .ptpCfg v
  | .TRK_CTRL => .trkCtrl (Fin.ofNat 4 r.i) v
  | .TRK_CFG | .TRK_PER_CYCLE | .TRK_TIMING | .TRK_HOME_CFG | .TRK_CARRIER => .trkConfig r.name (Fin.ofNat 4 r.i) v
  | .SCHED_TRK_HYST => .schedTrkWrite (Fin.ofNat 4 r.i) false v
  | .SCHED_TRK_CFG => .schedTrkWrite (Fin.ofNat 4 r.i) true v
  | .SCHED_REPEAT_LO => if r.i = 0 then .accept else .all [.setR .SCHED_REPEAT_LO v r.i, .accept]
  | .SCHED_REPEAT_HI => .repeatWrite r.i v
  | .ENG_CTRL => .engCtrl (Fin.ofNat 8 r.i) v
  | .ENG_D => .engData (Fin.ofNat 8 r.i) r.j v
  | .STEP_FLAG_SET => .flagWrite true v
  | .STEP_FLAG_CLR => .flagWrite false v
  | .STEP_DOORBELL => .doorbells v
  | .STEP_POL_CTRL => .polCtrl v
  | .STEP_POL_DATA => .polData v
  | .MON_CFG => .monitorWrite r.i .cfg v
  | .MON_LO => .monitorWrite r.i .lo v
  | .MON_HI => .monitorWrite r.i .hi v
  | .MON_ACT => .monitorWrite r.i .act v
  | .LIMIT_TRIPPED => .trippedClear (Fin.ofNat 4 r.i) v
  | .LIMIT_LOCK => .limitLock v
  | .LIMIT_SAFE => .safeWrite v
  | .LIMIT_WDOG => .wdogWrite v
  | .LIMIT_WDOG_KICK => .wdogKick src v
  | .CAL_CTRL => .calCtrl g v
  | .CAL_REF_DECL => .refDecl g v
  | .CAL_VIEW_SEL => refuseIf (decide (33 ≤ F.CAL_VIEW_SEL_PATH.of v)) .calRefuse
  | .CAL_CFG => refuseIf (decide (F.CAL_CFG_REPEATS.of v < 2 ∨ 8 < F.CAL_CFG_REPEATS.of v)) .calRefuse
  | .CAL_TOL => refuseIf (decide (F.CAL_TOL_OFS_TOL.of v < 1 ∨ 1000 < F.CAL_TOL_OFS_TOL.of v ∨ F.CAL_TOL_GAIN_TOL.of v < 1 ∨
      1000 < F.CAL_TOL_GAIN_TOL.of v)) .calRefuse
  | .CAL_WINDOW => refuseIf (decide (F.CAL_WINDOW_REF_WIN.of v < 1 ∨ 50 < F.CAL_WINDOW_REF_WIN.of v)) .calRefuse
  | .HARB_CFG => .berthCfg r.i v
  | .HARB_SIZE => .berthSize r.i v
  | .HARB_WATER => .berthWater r.i v
  | .DMA_CTRL => .dmaCtrl (Fin.ofNat 64 r.i) v
  | .DMA_RATE => .dmaRate (Fin.ofNat 64 r.i) v
  | .DMA_DESC_LO => .dmaDescWrite (Fin.ofNat 64 r.i) false v
  | .DMA_DESC_HI => .dmaDescWrite (Fin.ofNat 64 r.i) true v
  | .DMA_TRIGGER_LO => .dmaTriggers 0 v
  | .DMA_TRIGGER_HI => .dmaTriggers 32 v
  | .MNT_CMD => .mntCmd v
  | .EVT_ACK => .evtAck v
  | .FAULT_CONV => .faultConv g v
  | .FAULT_SPARE => .faultSpare g v
  | .FAULT_CORE => .faultCore g v
  | .RELOC_CTRL => .relocCtrl v
  | .REGION_RESET => .regionResetWrite v
  | .LOG_SEL => .all [.logSelect v, .accept]
  | .PAIR_CTRL => .pairCtrl v
  | .INP_CFG => .inpMode g (Fin.ofNat 16 r.j) v
  | .REF_CFG => .refCfg g v
  | .CELL_CFG | .CELL_IN | .CELL_FB | .CELL_PARAM | .CELL_INIT | .CELL_SC | .CELL_TRACK | .CELL_SCK => .cellShadow r.name g r.j r.k v
  | .CELL_CTL => .cellCtl g (Fin.ofNat 12 r.j) v
  | .CELL_COMMIT => .cellCommitRun g v
  | .CV_CTRL => .cvCtrl g n v
  | .CV_SEQ | .CV_ENTRY | .CV_ENTRY_T => .cvShadow r.name g n r.k v
  | .CV_SEQ_CTL => .seqCtl g n (v.getLsbD 0) (v.getLsbD 1)
  | .CV_INJ => .injWrite g n r.k v
  | .CV_INJ_REQ => .injReq g n (F.CV_INJ_REQ_REQ.of v) (F.CV_INJ_REQ_CANCEL.of v)
  | .CV_COMMIT => .cvCommit g n v
  | .DAC_CFG => m (.dacCfg g (Fin.ofNat 8 r.j) v)
  | .DAC_VALUE => m (.dacValueWrite g (Fin.ofNat 8 r.j) v)
  | .DAC_STATUS => .rbClear g (Fin.ofNat 8 r.j) v
  | .DAC_NV => .nvRange g (Fin.ofNat 8 r.j) v
  | .DAC_SPARE => .spareWrite g v
  | .DDS_CTRL => .ddsEnable g (Fin.ofNat 4 r.j) v
  | .DDS_FTW_LO => m (.ddsShadow r.name 0 g (Fin.ofNat 4 r.j) v)
  | .DDS_FTW_HI => m (.ddsShadow r.name 1 g (Fin.ofNat 4 r.j) v)
  | .DDS_AMP => m (.ddsShadow r.name 2 g (Fin.ofNat 4 r.j) v)
  | .DDS_PHASE => m (.ddsShadow r.name 3 g (Fin.ofNat 4 r.j) v)
  | .DDS_FOLLOW => m (.ddsShadow r.name 4 g (Fin.ofNat 4 r.j) v)
  | .DDS_RATIO => m (.ddsShadow r.name 5 g (Fin.ofNat 4 r.j) v)
  | .DDS_APPLY => m (.ddsApply g (Fin.ofNat 4 r.j) v)
  | .CMP_CFG => .cmpCfg g (Fin.ofNat 16 r.j) v
  | .CMP_THR => .cmpThr g (Fin.ofNat 16 r.j) false v
  | .CMP_HYST => .cmpThr g (Fin.ofNat 16 r.j) true v
  | .PIN_P_CFG => .pinCfgWrite g (Fin.ofNat 20 r.j) v
  | .PIN_DP_CFG => .pinCfgWrite g (Fin.ofNat 20 (16 + r.j)) v
  | .PIN_OUT => m (.pinOut g v)
  | .PIN_OUT_SET => m (.pinOutSet g v)
  | .PIN_OUT_CLR => m (.pinOutClr g v)
  | .PIN_OUT_TGL => m (.pinOutTgl g v)
  | .PIN_LOCK => .pinLock g v
  | .FAB_TAP => .tapWrite (Fin.ofNat 2 r.i) (Fin.ofNat 8 r.j) v
  | .FAB_CAP_CTRL => .captureCtrl v
  | _ => .all [.store r.name v r.i r.j r.k, .accept]

/-- R357: a 32-bit write to a port. -/
def Act.writePort (src : Src) (b : Berth) (p : Nat) (v : DWord) : Act :=
  match p with
  | 0x0 => .portPush src b false .lo v
  | 0x4 => .portPush src b false .hi v
  | 0x8 => .portPush src b true .lo v
  | 0xC => .portPush src b true .hi v
  | 0x28 => .dropRest b
  | _ => .accept

/-- R19, R390: a DMA write to the GRP block of a lost group fails. -/
def State.lostTarget (s : State) (src : Src) (off : Nat) : Bool :=
  match src with
  | .dma _ => decide (0x100000 ≤ off ∧ off < 0x200000) && !s.alive (Fin.ofNat 4 ((off - 0x100000) / 0x40000))
  | _ => false

/-- What an aligned 32-bit write at an offset does. -/
def Act.place32 (src : Src) (off : Nat) (v : Word) (job : Option (Nat × Nat)) : Act := .look fun s =>
  if s.lostTarget src off then .answer .error else
  match placeOf off with
  | .reg r => if s.absent r then .accept else .regWrite src r v
  | .user d a => .userAccess src d true a v job
  | .context x o => .ctxWrite x o 4 v.toNat
  | .step w high => .stepMemory w (v.setWidth 64) (if high then .hi else .lo)
  | .memory a =>
    if 0xA0000 ≤ a then .all [.when s.acting (.all [.setBytes a v.toNat 4, .msixPending]), .accept]
    else .all [.setBytes a v.toNat 4, .accept]
  | .port b p => .writePort src b p (v.setWidth 64)
  | .readback _ | .reserved => .accept

/-- An aligned 32-bit write of a source. -/
def Act.write32 (src : Src) (off : Nat) (v : Word) (job : Option (Nat × Nat)) : Act := .write src off (.place32 src off v job)

/-- R40: an aligned 64-bit write that is indivisible. -/
def Act.write64 (src : Src) (off : Nat) (v : DWord) : Act := .write src off <|
  match placeOf off with
  | .port b p =>
    match p with
    | 0x0 => .portPush src b false .both v
    | 0x8 => .portPush src b true .both v
    | _ => .writePort src b p v
  | .context x o => .ctxWrite x o 8 v.toNat
  | .step w _ => .stepMemory w v .both
  | _ => .accept

/-- The answer of the access in progress counts as an error where the one before it was one. -/
def Act.both (before : Resp) : Act := match before with
  | .error => .answer .error
  | .noTarget => .answer .noTarget
  | _ => .skip

/-- R40: a write of `n` bytes: an aligned word, or an aligned pair of words, or refused. -/
def Act.busWrite (src : Src) (off n : Nat) (v : DWord) (job : Option (Nat × Nat) := none) : Act :=
  if n = 4 ∧ off % 4 = 0 then .write32 src off (v.setWidth 32) job
  else if n = 8 ∧ off % 8 = 0 then
    if indivisible off then .write64 src off v
    else (Act.write32 src off (v.setWidth 32) job).andThen <| .look fun s =>
      (Act.write32 src (off + 4) ((v >>> 32).setWidth 32) (job.map fun j => (j.1, j.2 + 1))).andThen (.both s.resp)
  else .reach (.all [.refuseAt off, .masterCount src])

/-- R40: a read of `n` bytes. -/
def Act.busRead (src : Src) (off n : Nat) (job : Option (Nat × Nat) := none) : Act := .reach <|
  if n = 4 ∧ off % 4 = 0 then .read32 src off job
  else if n = 8 ∧ off % 8 = 0 then
    if indivisible off then .read64 src off
    else (Act.read32 src off job).andThen <| .look fun s =>
      let low := s.answered
      (Act.read32 src (off + 4) (job.map fun j => (j.1, j.2 + 1))).andThen <| .look fun t => match s.resp, t.resp with
        | .ok _, .ok d => .answer (.ok (low ||| d <<< 32))
        | r, _ => .both r
  else .refuseAt off

/-- R132: a write of a fabric's master port is applied or refused. -/
def Act.masterWrite (d : Die) (off : Nat) (v : DWord) (wide : Bool) : Act := .look fun s =>
  let src := Src.fabric d
  .when s.released <| .all [
    if wide && !indivisible off then .all [.refuseAt off, .masterCount src] else .busWrite src off (if wide then 8 else 4) v,
    .look fun t => .setFab fun f => { f with
      master := f.master.set d none, masterErr := f.masterErr.set d (t.resp == .error) }]

/-- R132: M_WR is 1 at an edge of the port clock: a write is issued, or ignored while M_BUSY is 1. -/
def Act.masterPulse (d : Die) (off : Nat) (v : DWord) (wide : Bool) : Act := .look fun s =>
  if s.fab.master[d].isSome then .all [
    .count F.FAB_PORT_ERR_MASTER_REFUSED 1 d, .setFab fun f => { f with masterErr := f.masterErr.set d true }]
  else .setFab fun f => { f with master := f.master.set d (some (off, v, wide)) }

/-- R132: a die's write that has been issued is carried out, and `a` where none has. -/
def Act.masterIssued (d : Die) (a : Act) : Act := .look fun s =>
  match s.fab.master[d] with
  | some (off, v, wide) => .masterWrite d off v wide
  | none => a

/-- R30, R132: the write that a die has issued and that waits is carried out, without an answer to anyone. -/
def Act.masterTurn (d : Die) : Act := .look fun s => .all [.masterIssued d .skip, .answer s.resp]

end Sys2Proof.Machine
end

