-- ==== Sys2Proof/Machine/Flags.lean ====
section
/-! DEFINITION. Step words as fields (R264), their operand checks (R264 to R268), wait conditions (R265), compare conditions and
step flags (R266, R267). -/

namespace Sys2Proof.Machine

/-- R264: a step word. -/
structure StepWord where
  op : Nat
  wq : Nat
  wk : Nat
  ra : Nat
  rb : Nat
  x : Nat
  imm : Nat
deriving DecidableEq, Repr

/-- R264: the fields of a step word. -/
def stepFields (w : DWord) : StepWord :=
  let n := w.toNat
  ⟨bitsOf n 0 6, bitsOf n 6 3, bitsOf n 9 3, bitsOf n 12 4, bitsOf n 16 4, bitsOf n 20 12, bitsOf n 32 32⟩

/-- R266: what an opcode uses: RA, RB, how many bits of X, IMM. -/
def opUses (op : Nat) : Bool × Bool × Nat × Bool :=
  match op with
  | 0x02 => (true, false, 0, true)
  | 0x03 => (true, true, 0, false)
  | 0x04 => (true, true, 1, true)
  | 0x05 => (true, true, 6, true)
  | 0x06 => (true, false, 6, true)
  | 0x07 => (true, false, 0, true)
  | 0x08 => (false, true, 0, true)
  | 0x09 => (true, true, 9, true)
  | 0x0A => (true, true, 0, true)
  | 0x0B => (false, false, 2, true)
  | 0x0C => (false, false, 7, true)
  | 0x0D | 0x0F | 0x10 | 0x11 | 0x12 => (false, false, 0, true)
  | 0x13 => (true, false, 3, true)
  | _ => (false, false, 0, false)

/-- R243, R268: a converter number of an IMM laid out as PARAM: not a spare, at most 35; `slot`: the slot's bits are named. -/
def convParamBad (imm : Nat) (slot : Bool) : Bool :=
  let n := imm % 64
  decide (35 < n) || n % 9 == 8 || imm &&& (0xFFFFFFFF - (if slot then 0x33F else 0x3F)) != 0

/-- R264 to R268: a word that faults with INVALID. A field, or the part of X, that the opcode's row does not name must be 0. -/
def StepWord.bad (w : StepWord) : Bool :=
  let (a, b, n, i) := opUses w.op
  decide (0x13 < w.op) || ((w.wk == 0 || w.wk == 1) && w.wq != 0) || (w.wk == 3 && w.wq % 2 != 0) ||
  (!a && w.ra != 0) || (!b && w.rb != 0) || decide (2 ^ n ≤ w.x) || (!i && w.imm != 0) ||
  (match w.op with
    | 0x05 => decide (47 < w.x)
    | 0x06 => decide (2 ^ 24 ≤ w.imm) || w.imm % 4 != 0
    | 0x07 => decide (2 ^ 24 ≤ w.imm) || w.imm % 4 != 0
    | 0x09 => decide (6 ≤ bitsOf w.x 5 3)
    | 0x0A => bitsOf w.imm 21 3 != 0 || decide (16384 < w.imm % 16384 + w.imm / 2 ^ 24 + 1)
    | 0x0B => w.x == 3
    | 0x0F | 0x11 => convParamBad w.imm false
    | 0x10 => convParamBad w.imm true
    | 0x13 => w.ra % 2 != 0 || decide (4 < w.x)
    | _ => false)

/-- R261: a data register as a signed number. -/
def State.d (s : State) (e : Eng) (r : Nat) : Int := (s.r .ENG_D e r).toInt

/-- R261: saturation of a result. -/
def saturate (x : Int) : Word := BitVec.ofInt 32 (clamp (-2147483648) 2147483647 x)

/-- R266: a condition of CMP. -/
def cmpCond (cond : Nat) (a y : Int) : Bool :=
  match cond with
  | 0 => decide (a = y)
  | 1 => decide (a ≠ y)
  | 2 => decide (a < y)
  | 3 => decide (a ≤ y)
  | 4 => decide (y < a)
  | _ => decide (y ≤ a)

/-- R261: a step flag. -/
def State.flag (s : State) (n : Nat) : Bool := s.flags.getLsbD (n % 32)

/-- R266, R267: one step flag takes a value. -/
def Act.setFlag (n : Nat) (v : Bool) : Act := .look fun s =>
  .setFlags (if v then s.flags ||| BitVec.ofNat 32 (1 <<< n) else s.flags &&& ~~~(BitVec.ofNat 32 (1 <<< n)))

/-- R265: the wait condition of a word holds in this slot. -/
def State.waitOver (s : State) (e : Eng) (w : StepWord) : Bool :=
  let a := (s.r .ENG_D e w.wq).toNat
  match w.wk with
  | 0 => true
  | 1 => s.b F.ENG_STATUS_DB_PEND e
  | 2 => s.flag (a % 32) == a.testBit 8
  | 3 => decide (a + 2 ^ 32 * (s.r .ENG_D e (w.wq + 1)).toNat ≤ s.ns)
  | 4 => s.eng[e].tide == some (a % 16384) && s.eng[e].tideHit
  | 5 => (s.berth (a % 1024)).packets != 0
  | 6 => s.cmpF (Fin.ofNat 4 (a % 64 / 16)) (a % 16) == a.testBit 8
  | _ => decide (2 ≤ s.f F.LIMIT_STAT_STATE (a % 128))

/-- R267: the index of the first entry of a table, from word `w` on, whose range holds `a`. -/
def State.tableIndex (s : State) (a : Int) (w : Nat) : Nat → Nat → Option Nat
  | _, 0 => none
  | i, n + 1 =>
    let v := (s.stepWord (w + i)).toNat
    if signed 32 v ≤ a ∧ a ≤ signed 32 (v / 2 ^ 32) then some i else s.tableIndex a w (i + 1) n

end Sys2Proof.Machine
end

