-- ==== Sys2Proof/Machine/Steps.lean ====
section
/-! DEFINITION. The slot of a step engine, and what each step word does (R262 to R269). -/

namespace Sys2Proof.Machine

/-- R268: the word ends: PC advances, unless the word has halted or faulted its engine, whose halt comes after the word (R271). -/
def Act.wordEnds (e : Eng) : Act := .look fun s =>
  if s.engState e = engHalted then
    let pc := s.f F.ENG_STATUS_PC e
    if pc = 16383 then .engFault e 3 else .setF F.ENG_STATUS_PC (pc + 1) e
  else if s.engState e = engFaulted then .skip
  else .engAdvance e

/-- A word that branches ends. -/
def Act.branch (e : Eng) (pc : Nat) : Act :=
  if 16384 ≤ pc then .engFault e 3
  else .all [.setEng e fun x => { x with tide := none, tideHit := false },
    .setF F.ENG_STATUS_PC pc e, .setF F.ENG_STATUS_STATE engRunning e]

/-- A word that only gives a register a value. -/
def Act.result (e : Eng) (r : Nat) (v : Word) : Act := .all [.setR .ENG_D v e r, .wordEnds e]

/-- R266, R268, R269: a WR or WRI. -/
def Act.engWrite (e : Eng) (off : Nat) (v : Word) : Act :=
  if off % 4 ≠ 0 then .engFault e 1
  else (Act.write32 (.engine e) off v none).andThen <| .look fun s =>
    if s.resp = .ok 0 then .wordEnds e else .engFault e 4

/-- R266, R262, R268: a LOAD; one from a fabric window holds the engine until READY. -/
def Act.engLoad (e : Eng) (ra x off : Nat) : Act := .look fun s =>
  match placeOf off with
  | .user d a =>
    if s.userPort d then .all [.setEng e fun q => { q with load := some (d, ra, x) }, .userAccess (.engine e) d false a 0]
    else .engFault e 4
  | _ => (Act.busRead (.engine e) off 4).andThen <| .look fun t => match t.resp with
    | .ok v => .result e ra (loadValue x (v.setWidth 32))
    | _ => .engFault e 4

/-- R266: the converter that an IMM names. -/
def paramConverter (imm : Nat) : Grp × Cv := (Fin.ofNat 4 (imm % 64 / 9), Fin.ofNat 8 (imm % 64 % 9))

/-- R54, R199: a start action of the scheduler or of a step word: a start request; while REDUCED is in force it is ignored, with a FAIL record
of cause REDUCED. -/
def Act.startAction (g : Grp) (n : Cv) : Act := .look fun s =>
  if s.reducedOn && s.alive g && s.cvEnabled g n && s.governor g n == n then
    .all [.failRecord g n 2 0 false, .count F.CV_SEQ_STATE_IGNORED 1 g n, .accept]
  else .seqCtl g n true false

/-! ### The words -/

def Act.wordNop (e : Eng) (_w : StepWord) : Act := .wordEnds e
/-- R266: HALT. PC stays. -/
def Act.wordHalt (e : Eng) (_w : StepWord) : Act := .all [
  .setF F.ENG_STATUS_STATE engHalted e, .setEng e fun x => { x with tide := none, tideHit := false },
  .setBit F.STEP_EVENTS_HALTED e]
def Act.wordMovi (e : Eng) (w : StepWord) : Act := .result e w.ra (BitVec.ofNat 32 w.imm)
def Act.wordMov (e : Eng) (w : StepWord) : Act := .look fun s => .result e w.ra (s.r .ENG_D e w.rb)
def Act.wordAdd (e : Eng) (w : StepWord) : Act := .look fun s =>
  .result e w.ra (saturate (s.d e w.ra + (if w.x = 1 then -s.d e w.rb else s.d e w.rb) + signed 32 w.imm))
def Act.wordScale (e : Eng) (w : StepWord) : Act := .look fun s =>
  .result e w.ra (saturate (roundDiv (s.d e w.rb * signed 32 w.imm) (2 ^ w.x)))
def Act.wordLoad (e : Eng) (w : StepWord) : Act := .engLoad e w.ra w.x w.imm
def Act.wordWr (e : Eng) (w : StepWord) : Act := .look fun s => .engWrite e w.imm (s.r .ENG_D e w.ra)
def Act.wordWri (e : Eng) (w : StepWord) : Act := .look fun s =>
  .engWrite e ((s.r .ENG_D e w.rb).toNat % 2 ^ 24) (BitVec.ofNat 32 w.imm)
def Act.wordCmp (e : Eng) (w : StepWord) : Act := .look fun s =>
  let y := if w.x.testBit 8 then s.d e w.rb else signed 32 w.imm
  .all [.setFlag (w.x % 32) (cmpCond (bitsOf w.x 5 3) (s.d e w.ra) y), .wordEnds e]
def Act.wordCmpt (e : Eng) (w : StepWord) : Act := .look fun s =>
  let i := s.tableIndex (s.d e w.ra) (w.imm % 16384) 0 (w.imm / 2 ^ 24 + 1)
  .all [.setFlag (bitsOf w.imm 16 5) i.isSome, .result e w.rb (match i with
    | some n => BitVec.ofNat 32 n
    | none => 0xFFFFFFFF)]
def Act.wordSetf (e : Eng) (w : StepWord) : Act := .look fun s =>
  let m := BitVec.ofNat 32 w.imm
  .all [.setFlags (match w.x with
    | 0 => s.flags &&& ~~~m
    | 1 => s.flags ||| m
    | _ => s.flags ^^^ m), .wordEnds e]
def Act.wordBr (e : Eng) (w : StepWord) : Act := .look fun s =>
  if w.x.testBit 6 || s.flag (w.x % 32) == w.x.testBit 5 then .branch e (w.imm % 16384) else .wordEnds e
def Act.wordCall (e : Eng) (w : StepWord) : Act := .look fun s =>
  if 8 ≤ s.f F.ENG_STATUS_DEPTH e then .engFault e 2
  else .all [
    .setEng e fun x => { x with stack := (s.f F.ENG_STATUS_PC e + 1) :: x.stack },
    .setF F.ENG_STATUS_DEPTH (s.f F.ENG_STATUS_DEPTH e + 1) e, .branch e (w.imm % 16384)]
def Act.wordRet (e : Eng) (_w : StepWord) : Act := .look fun s =>
  match s.eng[e].stack with
  | [] => .engFault e 2
  | pc :: l => if 16384 ≤ pc then .engFault e 3 else .all [
      .setEng e fun x => { x with stack := l }, .setF F.ENG_STATUS_DEPTH (s.f F.ENG_STATUS_DEPTH e - 1) e, .branch e pc]
/-- R266, R268: a request's outcome is the converter's to report. -/
def Act.wordStart (e : Eng) (w : StepWord) : Act :=
  let c := paramConverter w.imm
  .all [.silent (.startAction c.1 c.2), .wordEnds e]
def Act.wordInject (e : Eng) (w : StepWord) : Act :=
  let c := paramConverter w.imm
  .all [.silent (.injReq c.1 c.2 (1 <<< bitsOf w.imm 8 2) 0), .wordEnds e]
def Act.wordAdvance (e : Eng) (w : StepWord) : Act :=
  let c := paramConverter w.imm
  .all [.silent (.seqCtl c.1 c.2 false true), .wordEnds e]
def Act.wordRing (e : Eng) (w : StepWord) : Act := .all [.ring (Fin.ofNat 8 (w.imm % 8)), .wordEnds e]
def Act.wordClock (e : Eng) (w : StepWord) : Act := .look fun s =>
  let v := unsigned 64 ((if w.x = 0 then (s.ns : Int) else s.phase (w.x - 1)) + signed 32 w.imm)
  .all [.setR .ENG_D (BitVec.ofNat 32 v) e w.ra, .result e (w.ra + 1) (BitVec.ofNat 32 (v / 2 ^ 32))]

/-! ### The slot -/

/-- R262: a slot of an engine whose word has opcode `op`: the wait is evaluated, and the word executes where it is over. A word that
breaks R264 to R268 faults whichever row names it. -/
def Act.stepSlot (op : Nat) (e : Eng) (word : StepWord → Act) : Act := .look fun s =>
  let w := stepFields (s.stepWord (s.f F.ENG_STATUS_PC e))
  .when (s.up && s.released && s.engLive e && (s.eng[e].load).isNone) <|
    if w.bad then .engFault e 1
    else .when (w.op == op) <|
      if s.waitOver e w then .all [.when (w.wk == 1) (.setB F.ENG_STATUS_DB_PEND false e), .setF F.ENG_STATUS_STATE engRunning e, word w]
      else .all [.setF F.ENG_STATUS_STATE engWaiting e,
        .when (w.wk == 4 && (s.eng[e].tide).isNone)
          (.setEng e fun x => { x with tide := some ((s.r .ENG_D e w.wq).toNat % 16384), tideHit := false })]

/-! ### The commands -/

def execStepNop (e : Eng) (s : State) := (Act.stepSlot 0x00 e (Act.wordNop e)).done s
def execStepHalt (e : Eng) (s : State) := (Act.stepSlot 0x01 e (Act.wordHalt e)).done s
def execStepMovi (e : Eng) (s : State) := (Act.stepSlot 0x02 e (Act.wordMovi e)).done s
def execStepMov (e : Eng) (s : State) := (Act.stepSlot 0x03 e (Act.wordMov e)).done s
def execStepAdd (e : Eng) (s : State) := (Act.stepSlot 0x04 e (Act.wordAdd e)).done s
def execStepScale (e : Eng) (s : State) := (Act.stepSlot 0x05 e (Act.wordScale e)).done s
def execStepLoad (e : Eng) (s : State) := (Act.stepSlot 0x06 e (Act.wordLoad e)).done s
def execStepWr (e : Eng) (s : State) := (Act.thenModes (Act.stepSlot 0x07 e (Act.wordWr e))).done s
def execStepWri (e : Eng) (s : State) := (Act.thenModes (Act.stepSlot 0x08 e (Act.wordWri e))).done s
def execStepCmp (e : Eng) (s : State) := (Act.stepSlot 0x09 e (Act.wordCmp e)).done s
def execStepCmpt (e : Eng) (s : State) := (Act.stepSlot 0x0A e (Act.wordCmpt e)).done s
def execStepSetf (e : Eng) (s : State) := (Act.stepSlot 0x0B e (Act.wordSetf e)).done s
def execStepBr (e : Eng) (s : State) := (Act.stepSlot 0x0C e (Act.wordBr e)).done s
def execStepCall (e : Eng) (s : State) := (Act.stepSlot 0x0D e (Act.wordCall e)).done s
def execStepRet (e : Eng) (s : State) := (Act.stepSlot 0x0E e (Act.wordRet e)).done s
def execStepStart (e : Eng) (s : State) := (Act.stepSlot 0x0F e (Act.wordStart e)).done s
def execStepInject (e : Eng) (s : State) := (Act.stepSlot 0x10 e (Act.wordInject e)).done s
def execStepAdvance (e : Eng) (s : State) := (Act.stepSlot 0x11 e (Act.wordAdvance e)).done s
def execStepRing (e : Eng) (s : State) := (Act.stepSlot 0x12 e (Act.wordRing e)).done s
def execStepClock (e : Eng) (s : State) := (Act.stepSlot 0x13 e (Act.wordClock e)).done s

end Sys2Proof.Machine
end

