-- ==== Sys2Proof/Machine/Issue.lean ====
section
/-! DEFINITION. Issue of the scheduler's decisions (R243, R253 to R256). -/

namespace Sys2Proof.Machine

/-- R243: the group that an action is bound to. -/
def actionGroup (action param : Nat) : Option Grp :=
  match action with
  | 1 | 2 | 3 => some (paramConverter param).1
  | 4 => some (Fin.ofNat 4 (param % 32 / 8))
  | 5 | 6 | 7 => some (Fin.ofNat 4 (param / 65536))
  | _ => none

/-- A write of the scheduler to a register that partners mirror. -/
def Act.schedWrite (n : RegName) (g i : Nat) (v : Word) (a : Act) : Act :=
  .writeTo .sched n g i 0 (.mirrored .sched (RegRef.offset ⟨n, g, i, 0⟩) v a)

/-- R243, R255: the action of a context, as a write from the source "scheduler actions"; its answer tells whether its target took
it. -/
def Act.schedAct (x action param due : Nat) : Act :=
  let c := paramConverter param
  let g : Grp := Fin.ofNat 4 (param / 65536)
  let mask := BitVec.ofNat 32 (param % 65536)
  match action with
  | 1 => .startAction c.1 c.2
  | 2 => .seqCtl c.1 c.2 false true
  | 3 => .injReq c.1 c.2 (1 <<< bitsOf param 8 2) 0
  | 4 =>
    let og : Grp := Fin.ofNat 4 (param % 32 / 8)
    let o : Out := Fin.ofNat 8 param
    let v := BitVec.ofNat 32 (param / 65536)
    .schedWrite .DAC_VALUE og o v (.dacValueWrite og o v)
  | 5 => .schedWrite .PIN_OUT_SET g 0 mask (.pinOutSet g mask)
  | 6 => .schedWrite .PIN_OUT_CLR g 0 mask (.pinOutClr g mask)
  | 7 => .schedWrite .PIN_OUT_TGL g 0 mask (.pinOutTgl g mask)
  | 8 => .all [.ring (Fin.ofNat 8 param), .accept]
  | 9 => .dmaTrigger (Fin.ofNat 64 param)
  | 10 => .look fun s => .all [.setSched fun q => { q with marks := q.marks ++ [(s.clk, param % 1024, param / 1024 + 0x3F * 2 ^ 36 + x * 2 ^ 48, due)] },
      .accept]
  | 11 =>
    let v := BitVec.ofNat 32 param
    .captureStart (F.FAB_CAP_CTRL_SCOPE.of v) (F.FAB_CAP_CTRL_REGION.of v) (F.FAB_CAP_CTRL_CLK.of v)
  | _ => .accept

/-- R254, R256: a decision has issued with this outcome and cause: its record, its events; a one-shot context disarms (R244). -/
def Act.decided (d : Decision) (outcome cause : Nat) : Act := .look fun s =>
  let slip := s.clk - d.due
  let armed := s.ctxInterval d.ctx != 0
  .all [
    .when (outcome != 0 || ctlReport (s.ctxCtl d.ctx) || slip != 0) (.schedRecord d.ctx outcome cause slip d.count armed d.ns),
    .when (!armed) (.all [.ctxClear d.ctx, .ctxForget d.ctx]),
    .when (outcome == 1) (.all [.setB F.SCHED_EVENTS_LATE true, .count F.SCHED_EVENTS_LATE_COUNT]),
    .when (outcome == 2) (.all [.setB F.SCHED_EVENTS_MISSED true, .count F.SCHED_EVENTS_MISSED_COUNT]),
    .when (outcome == 3) (.all [.setB F.SCHED_EVENTS_FAILED true, .count F.SCHED_RECORDS_FAILS]),
    .when (slip != 0) (.all [.setB F.SCHED_EVENTS_SLIPPED true, .count F.SCHED_EVENTS_SLIP_COUNT])]

/-- R255: a decision is issued: MISSED acts not at all, a group-bound action of a lost group fails, and so does a refused one. -/
def Act.issueOne (d : Decision) : Act := .look fun s =>
  let act := ctlAction (s.ctxCtl d.ctx)
  let param := s.ctxParam d.ctx
  let lost := match actionGroup act param with
    | some g => !s.alive g
    | none => false
  if d.outcome = 2 then .decided d 2 0
  else if lost then .decided d 3 2
  else .all [.schedAct d.ctx act param d.ns,
    .look fun t => if t.resp = .ok 0 then .decided d d.outcome 0 else .decided d 3 1,
    .answer s.resp]

/-- R254: at most four decisions in one system clock, in their order. -/
def Act.issueUpTo : Nat → Act
  | 0 => .skip
  | k + 1 => .look fun s =>
    let now := s.clk
    let used := if s.sched.issued.1 = now then s.sched.issued.2 else 0
    match s.sched.queue with
    | [] => .skip
    | d :: rest => .when (decide (used < 4)) <| .all [
        .setSched fun c => { c with queue := rest, issued := (now, used + 1) }, .issueOne d, Act.issueUpTo k]

/-- R254: the points gathered while a decision waited become one decision in the clock after its issue. -/
def Act.gathered : Act := .look fun s =>
  .each (s.sched.gather.filter fun e => !s.ctxWaits e.1) fun e => .all [
    .setSched fun c => { c with gather := assocDel c.gather e.1 },
    .when (ctlArm (s.ctxCtl e.1)) (.makeDecision e.1 (if ctlMissed (s.ctxCtl e.1) then 2 else 1) e.2 s.clk)]

/-! ### The command -/

def execDecisionIssue (s : State) := (Act.thenModes (Act.issueUpTo 4)).done s

end Sys2Proof.Machine
end

