-- ==== Sys2Proof/Machine/DmaRun.lean ====
section
/-! DEFINITION. Bursts on the module bus and over the ring, and what the DMA engine does with a chain of descriptors (R374 to R391). -/

namespace Sys2Proof.Machine

/-! ### Bursts of this module's bus -/

/-- One access of a burst: its offset, its bytes, its position in the burst (in words of 4 bytes), and the data of a write. -/
structure BusPart where
  off : Nat
  n : Nat
  pos : Nat
  data : DWord

/-- The words that an access stands for. -/
def BusPart.words (p : BusPart) : Nat := if p.n = 8 then 2 else 1

/-- An access of a burst runs; one that waits for READY (R131) reports later. -/
def Act.busPart (src : Src) (id : Nat) (write : Bool) (p : BusPart) : Act :=
  (if write then Act.busWrite src p.off p.n p.data (some (id, p.pos)) else .busRead src p.off p.n (some (id, p.pos))).andThen <|
  .look fun s => match s.resp with
    | .none => .skip
    | .ok d => .all [.jobPart id p.pos (.ok d), .when (p.words == 2) (.jobPart id (p.pos + 1) (.ok (d >>> 32)))]
    | _ => .each (List.range p.words) fun _ => .jobPart id p.pos .error

/-- A burst of accesses to this module's window. -/
def Act.busBurst (use : BusUse) (src : Src) (write : Bool) (parts : List BusPart) : Act := .look fun s =>
  let id := s.fab.nextJob
  .all [
    .setFab fun f => { f with nextJob := id + 1, jobs := f.jobs ++ [⟨id, use, (parts.map BusPart.words).sum, false, []⟩] },
    .each parts fun p => .busPart src id write p]

/-- The bytes a burst has read, in their order. -/
def BusJob.bytes (j : BusJob) (words : Nat) : List Byte :=
  ((List.range words).map fun k => match assoc j.data k with
    | some w => leBytes w.toNat 4
    | none => []).flatten

/-- R40: the accesses of a burst of `n` bytes, a multiple of 4, with `data` for a write: pairs of words where they are aligned. -/
def busParts : Nat → Nat → Nat → Nat → List Byte → List BusPart
  | 0, _, _, _, _ => []
  | k + 1, off, n, pos, data =>
    if n = 0 then []
    else if off % 8 = 0 ∧ 8 ≤ n then
      ⟨off, 8, pos, BitVec.ofNat 64 (leNat (data.take 8))⟩ :: busParts k (off + 8) (n - 8) (pos + 2) (data.drop 8)
    else ⟨off, 4, pos, BitVec.ofNat 64 (leNat (data.take 4))⟩ :: busParts k (off + 4) (n - 4) (pos + 1) (data.drop 4)

/-! ### Bursts over the ring (R398, R399) -/

/-- The byte enables of `n` bytes from byte `o` of a beat. -/
def beatEnables (o n : Nat) : Nat := (2 ^ n - 1) * 2 ^ o % 256

/-- The beats that `n` bytes from address `a` touch. -/
def beatCount (a n : Nat) : Nat := (a % 8 + n + 7) / 8

/-- Payload words from bytes. -/
def packWords : Nat → List Byte → List DWord
  | 0, _ => []
  | k + 1, l => BitVec.ofNat 64 (leNat (l.take 8)) :: packWords k (l.drop 8)

/-- A READ or WRITE packet of `n` bytes at address `a`, without its TAG. -/
def burstPacket (own dst : BitVec 6) (write : Bool) (a n : Nat) (data : List Byte) : List DWord :=
  let o := a % 8
  let beats := beatCount a n
  let first := if beats ≤ 1 then beatEnables o n else beatEnables o (8 - o)
  let last := if beats ≤ 1 then first else beatEnables 0 ((o + n - 1) % 8 + 1)
  ({ kind := if write then pkWrite else pkRead, ackReq := write, dst := dst, src := own, beats := beats
     firstBe := first, lastBe := last } : PkHead).word ::
    BitVec.ofNat 64 a :: (if write then packWords beats (List.replicate o 0 ++ data) else [])

/-- The `n` bytes from address `a` in the payload of a completion. -/
def unpackBytes (a n : Nat) (payload : List DWord) : List Byte :=
  (((payload.map fun w => leBytes w.toNat 8).flatten).drop (a % 8)).take n

/-! ### DMA addresses -/

/-- R374: the address lies in this module's window. -/
def State.dmaHere (s : State) (a : Nat) : Bool :=
  dmaSpace a == spaceLocal || (dmaSpace a == spaceModule && bitsOf a 24 6 == s.ownNumber.toNat)

/-- R374: offsets that take multiples of 8 bytes only. -/
def wideOffset (off : Nat) : Bool := decide (0x98000 ≤ off ∧ off < 0xA0000) || indivisible off

/-- R374: an address and a length that the engine takes. -/
def dmaAddrOk (a n : Nat) : Bool :=
  let unit := if wideOffset (a % 2 ^ 24) then 8 else 4
  let whole := a % unit == 0 && n % unit == 0
  match dmaSpace a with
  | 0 => bitsOf a 24 36 == 0 && whole
  | 1 => bitsOf a 30 30 == 0 && whole
  | 2 => true
  | _ => false

/-- The module a request for an address goes to, and the address it carries there. -/
def State.dmaTarget (s : State) (a : Nat) : BitVec 6 × Nat :=
  if dmaSpace a = spaceHost then (BitVec.ofNat 6 (s.f F.COLYS_RING_HEAD), a) else (BitVec.ofNat 6 (bitsOf a 24 6), a % 2 ^ 24)

/-- A request of the engine goes over the ring. -/
def Act.dmaRequest (use : RingUse) (write : Bool) (a n : Nat) (data : List Byte) : Act := .look fun s =>
  let t := s.dmaTarget a
  .request t.1 use (burstPacket s.ownNumber t.1 write t.2 n data)

/-! ### Descriptors -/

/-- R377: the CTRL bits. -/
def DmaDesc.bit (d : DmaDesc) (n : Nat) : Bool := d.ctl.testBit (n - 20)
def DmaDesc.srcSg (d : DmaDesc) : Bool := d.bit 20
def DmaDesc.dstSg (d : DmaDesc) : Bool := d.bit 21
def DmaDesc.srcFixed (d : DmaDesc) : Bool := d.bit 22
def DmaDesc.dstFixed (d : DmaDesc) : Bool := d.bit 23
def DmaDesc.ends (d : DmaDesc) : Bool := d.bit 24
def DmaDesc.waits (d : DmaDesc) : Bool := d.bit 25
def DmaDesc.last (d : DmaDesc) : Bool := d.bit 29

/-- R376: a descriptor from its 32 bytes. -/
def dmaDescOf (a : Nat) (w : List DWord) : DmaDesc :=
  let n := (w.getD 3 0).toNat
  ⟨a, (w.getD 0 0).toNat, (w.getD 1 0).toNat, (w.getD 2 0).toNat, n % 2 ^ 20, bitsOf n 20 12⟩

/-- R379: one side of a descriptor is invalid. -/
def dmaSideBad (a len : Nat) (sg fixed : Bool) : Bool :=
  (if sg then a % 16 != 0 || !dmaAddrOk a 16 else !dmaAddrOk a len) || (sg && fixed) || (fixed && (a % 8 != 0 || len % 8 != 0))

/-- R379: an invalid descriptor. -/
def DmaDesc.bad (d : DmaDesc) : Bool :=
  d.len == 0 || d.bit 30 || d.bit 31 || dmaSideBad d.src d.len d.srcSg d.srcFixed || dmaSideBad d.dst d.len d.dstSg d.dstFixed ||
  (d.waits && !d.srcFixed) || (d.ends && !d.dstFixed)

/-- R378: a side before its first byte. -/
def dmaSideOf (a len : Nat) (sg : Bool) : DmaSide := if sg then ⟨0, a, 0, false⟩ else ⟨a, 0, len, true⟩

/-- R376, R379: an address at which a descriptor may be read. -/
def dmaDescAddrOk (a : Nat) : Bool := a % 32 == 0 && dmaAddrOk a 32

/-! ### Ends of descriptors -/

/-- The descriptor in progress. -/
def State.dmaJob (s : State) (c : Chan) : Option DmaJob := (s.ch c).jobs.find? (fun j => !j.done)

def Act.setJob (c : Chan) (id : Nat) (f : DmaJob → DmaJob) : Act :=
  .setCh c fun x => { x with jobs := x.jobs.map fun j => if j.id = id then f j else j }

/-- The number of the next descriptor. -/
def State.dmaNextId (s : State) (c : Chan) : Nat := (s.ch c).jobs.foldl (fun n j => max n (j.id + 1)) 0

/-- A descriptor joins those in progress. -/
def Act.dmaAdd (c : Chan) (d : DmaDesc) (code : Nat) : Act := .look fun s =>
  let id := s.dmaNextId c
  let forced := s.barrierForced
  .setCh c fun x => { x with jobs := x.jobs ++ [{
    id := id, desc := d, src := dmaSideOf d.src d.len d.srcSg, dst := dmaSideOf d.dst d.len d.dstSg
    asked := 0, got := [], sent := 0, acked := 0, code := code, done := false, half := false
    barrier := d.bit 26 || forced, hostLast := none }] }

/-- R386: a descriptor ends with a code: the channel stops issuing, and the current descriptor of a channel that has moved past it ends
with ABORTED. -/
def Act.dmaFail (c : Chan) (id code : Nat) : Act := .all [
  .setCh c fun x => { x with jobs := x.jobs.map fun j =>
    if j.id ≠ id then DmaJob.stop codeAborted j else if j.code = 0 then { j with code := code } else j },
  .look fun s => .when (s.dmaState c != dmaFetch) (.dmaState c dmaDrain)]

/-- R379, R386: the next descriptor cannot be read, or its address is refused: the channel halts with DESC_ERROR. -/
def Act.dmaDescError (c : Chan) (a : Nat) : Act := .all [
  .setDesc c a, .dmaAdd c ⟨a, 0, 0, 0, 0, 0⟩ codeDescError, .dmaState c dmaDrain]

/-- R384: HALF sets when the bytes counted reach half of LENGTH, rounded up. -/
def Act.dmaHalf (c : Chan) (j : DmaJob) (counted : Nat) : Act :=
  .when (j.desc.bit 27 && !j.half && decide ((j.desc.len + 1) / 2 ≤ counted)) (.all [
    .setB F.DMA_STATUS_HALF true c, .setJob c j.id fun j => { j with half := true }])

/-- R383: the descriptor completes; the channel reads NEXT unless LAST is 1. -/
def Act.dmaComplete (c : Chan) (j : DmaJob) : Act := .all [
  .setJob c j.id fun j => { j with done := true },
  .when (j.desc.bit 28) (.setB F.DMA_STATUS_DONE true c),
  if j.desc.last then .dmaState c dmaDrain
  else if dmaDescAddrOk j.desc.next then .all [.setDesc c j.desc.next, .dmaState c dmaFetch]
  else .dmaDescError c j.desc.next]

/-- A tag of a descriptor is held. -/
def State.dmaBusy (s : State) (c : Chan) (id : Nat) : Bool := (s.dmaTags c).any (fun e => e.2.desc == id)

/-- R383: the descriptor in progress completes once its last write has left, with BARRIER once everything is acknowledged. -/
def Act.dmaCheck (c : Chan) : Act := .look fun s => match s.dmaJob c with
  | some j => .when (j.code == 0 && j.sent == j.desc.len && (!j.barrier || (!s.dmaBusy c j.id && j.hostLast.isNone))) (.dmaComplete c j)
  | none => .skip

/-! ### Fetching -/

/-- Read `k` pairs of words of the own window. -/
def Act.dmaRead (c : Chan) : Nat → Nat → List DWord → (Option (List DWord) → Act) → Act
  | 0, _, acc, f => f (some acc.reverse)
  | k + 1, off, acc, f => (Act.busRead (.dma c) off 8).andThen <| .look fun s => match s.resp with
    | .ok d => Act.dmaRead c k (off + 8) (d :: acc) f
    | _ => f none

/-- R379, R389, R390: a descriptor has been read. -/
def Act.dmaFetched (c : Chan) (d : DmaDesc) : Act := .look fun s =>
  let stopped := (s.ch c).abort.isSome || (s.ch c).jobs.any (fun j => j.code != 0)
  let code := if stopped then codeAborted else if d.bad then codeBadDesc else codeOk
  .all [
    .dmaAdd c d code, .setF F.DMA_REMAIN_REMAIN d.len c,
    if code ≠ 0 then .dmaState c dmaDrain
    else if s.b F.DMA_CTRL_TRIG_EN c then .all [.dmaState c dmaWaitTrig, .dmaConsume c]
    else .dmaState c dmaRun]

/-- R379, R390: the descriptor at DESC is read in one burst: from the own window, or from elsewhere, in which case `words` is the answer
(not 4 words: it could not be read). -/
def Act.dmaFetchRun (c : Chan) (words : List DWord) : Act := .look fun s =>
  let a := s.dmaDesc c
  let off := a % 2 ^ 24
  let end_ := fun (r : Option (List DWord)) => match r with
    | some w => Act.dmaFetched c (dmaDescOf a w)
    | none => .dmaDescError c a
  let given := if words.length = 4 then some words else none
  .when (s.dmaState c == dmaFetch) <| .silent <|
    if !dmaDescAddrOk a then end_ none
    else if s.dmaHere a then
      match placeOf off with
      | .user _ _ => end_ given
      | _ => .dmaRead c 4 off [] end_
    else .all [.dmaRequest .other false a 32 [], end_ given]

/-! ### Bursts of a channel -/

/-- A burst that a channel would issue. -/
structure DmaBurst where
  use : DmaUse
  addr : Nat
  pos : Nat
  n : Nat
  data : List Byte
deriving DecidableEq, Repr

/-- The returned bytes that follow position `p` without a hole. -/
def gotFrom : Nat → List (Nat × List Byte) → Nat → List Byte
  | 0, _, _ => []
  | k + 1, got, p => match got.find? (fun e => e.1 == p) with
    | some e => e.2 ++ gotFrom k got (p + e.2.length)
    | none => []

def DmaJob.ready (j : DmaJob) : List Byte := gotFrom j.got.length j.got j.sent

/-- R381: the source berth of a WAIT_DATA descriptor holds no cell to pop. -/
def State.dmaStarved (s : State) (j : DmaJob) : Bool :=
  j.desc.waits && s.dmaHere j.src.pos &&
  match placeOf (j.src.pos % 2 ^ 24) with
  | .port b _ => s.berthOn b && (s.berth b).cLevel == 0
  | _ => false

/-- R380: the next write burst of a descriptor, or the entry of its destination list. -/
def State.dmaWrite (s : State) (c : Chan) (j : DmaJob) : Option DmaBurst :=
  let avail := j.ready
  if j.sent = j.desc.len ∨ avail = [] then none
  else if j.dst.left = 0 then
    if (s.dmaTags c).any (fun e => e.2.desc == j.id && e.2.use == .dstEntry) then none
    else some ⟨.dstEntry, j.dst.entry, 0, 16, []⟩
  else if j.desc.dstFixed then
    if avail.length < 8 then none
    else some ⟨.write, j.dst.pos + (if j.desc.ends ∧ j.sent + 8 = j.desc.len then 8 else 0), j.sent, 8, avail.take 8⟩
  else
    let want := min (128 - j.dst.pos % 128) j.dst.left
    let n := if want ≤ avail.length then want
      else if s.dmaStarved j && !s.dmaBusy c j.id then avail.length else 0
    if n = 0 then none else some ⟨.write, j.dst.pos, j.sent, n, avail.take n⟩

/-- R380: the bytes of the next read piece at an address with so many bytes left. -/
def funnelPiece (a left : Nat) : Nat :=
  let narrow := if a % 4 = 0 ∧ 4 ≤ left then 4 else if a % 2 = 0 ∧ 2 ≤ left then 2 else 1
  if a % 8 = 0 ∧ 8 ≤ left then min (left / 8 * 8) (128 - a % 128) else narrow

/-- R380, R381: the next read burst of a descriptor, or the entry of its source list. -/
def State.dmaNextRead (s : State) (c : Chan) (j : DmaJob) : Option DmaBurst :=
  if j.asked = j.desc.len then none
  else if j.src.left = 0 then
    if (s.dmaTags c).any (fun e => e.2.desc == j.id && e.2.use == .srcEntry) then none
    else some ⟨.srcEntry, j.src.entry, 0, 16, []⟩
  else if j.desc.srcFixed then
    if s.dmaStarved j then none else some ⟨.read, j.src.pos, j.asked, 8, []⟩
  else some ⟨.read, j.src.pos, j.asked, funnelPiece j.src.pos j.src.left, []⟩

/-- R383: the read of the last byte written to host memory, once every write has returned. -/
def State.dmaFlush (s : State) (c : Chan) (j : DmaJob) : Option DmaBurst :=
  match j.hostLast with
  | some a => if j.barrier ∧ j.sent = j.desc.len ∧ !s.dmaBusy c j.id then some ⟨.flush, a, j.sent, 1, []⟩ else none
  | none => none

/-- The next burst of a descriptor: a write whose data is whole, else a read. -/
def State.dmaBurst (s : State) (c : Chan) (j : DmaJob) : Option DmaBurst :=
  match s.dmaWrite c j with
  | some b => some b
  | none => match s.dmaNextRead c j with
    | some b => some b
    | none => s.dmaFlush c j

/-- R382: the tags that the channel may hold. -/
def State.dmaMax (s : State) (c : Chan) (j : DmaJob) : Nat :=
  if j.desc.srcFixed || j.desc.dstFixed then 1 else s.f F.DMA_CTRL_MAX_OUT c

/-- R382, R387: the burst that an eligible channel issues. -/
def State.dmaEligible (s : State) (c : Chan) : Option (DmaJob × DmaBurst) :=
  if s.dmaState c = dmaRun ∧ (s.ch c).abort.isNone ∧ s.dma.tags.length < 256 then
    match s.dmaJob c with
    | some j => if j.code = 0 ∧ (s.dmaTags c).length < s.dmaMax c j then
        match s.dmaBurst c j with
        | some b => if s.f F.DMA_RATE_RATE c = 0 ∨ 256 * beatCount b.addr b.n ≤ s.dmaTokens c then some (j, b) else none
        | none => none
      else none
    | none => none
  else none

/-- R382: the channels in the order the engine looks at them: PRIO 1 first, and within a level after the one served last. -/
def State.dmaOrder (s : State) : List Chan :=
  let l : List Chan := List.map (fun k => Fin.ofNat 64 (s.dma.served + 1 + k)) (List.range 64)
  l.filter (fun (c : Chan) => s.b F.DMA_CTRL_PRIO c) ++ l.filter (fun (c : Chan) => !s.b F.DMA_CTRL_PRIO c)

/-- The lowest tag that is free. -/
def State.dmaFreeTag (s : State) : Nat := ((List.range 256).find? fun t => (assoc s.dma.tags t).isNone).getD 0

/-- A side has moved on by `n` bytes. -/
def DmaSide.move (x : DmaSide) (n : Nat) (fixed : Bool) : DmaSide :=
  { x with pos := if fixed then x.pos else x.pos + n, left := x.left - n }

/-- What the issue of a burst changes in its descriptor. -/
def DmaJob.issued (j : DmaJob) (b : DmaBurst) : DmaJob :=
  match b.use with
  | .read => { j with asked := j.asked + b.n, src := j.src.move b.n j.desc.srcFixed }
  | .write =>
    let rest := j.ready.drop b.n
    { j with
      sent := j.sent + b.n, dst := j.dst.move b.n j.desc.dstFixed
      got := (if rest = [] then [] else [(j.sent + b.n, rest)]) ++ j.got.filter (fun e => decide (j.sent + j.ready.length ≤ e.1))
      hostLast := if dmaSpace b.addr = spaceHost then some (b.addr + b.n - 1) else j.hostLast }
  | _ => j

/-- Bursts of the engine that have ended on this module's bus are held for their completion. -/
def Act.dmaCollect : Act := .look fun s => .each (s.fab.jobs.filter fun j => j.left == 0) fun j => match j.use with
  | .dma tag => .all [
      .setFab fun f => { f with jobs := f.jobs.filter (fun k => k.id != j.id) },
      .setDma fun d => { d with tags := d.tags.map fun e =>
        if e.1 = tag then (e.1, { e.2 with local_ := some (!j.bad, j.bytes ((e.2.n + 3) / 4)) }) else e }]
  | _ => .skip

/-- R381: what the tag of a pop shows ends the descriptor. -/
def Act.dmaPopTag (c : Chan) (j : DmaJob) (b : DmaBurst) : Act := .look fun s =>
  match placeOf (b.addr % 2 ^ 24) with
  | .port n 0x10 => .when (b.use == .read && s.portReads n) <|
      let t := s.popTag (.dma c) n
      if t.testBit 3 then .dmaFail c j.id codeEcc else if t.testBit 2 then .dmaFail c j.id codeUnderrun else .skip
  | _ => .skip

/-- R382: a burst is issued: it takes a tag and its tokens, and goes to the bus or to the ring. -/
def Act.dmaIssue (c : Chan) (j : DmaJob) (b : DmaBurst) : Act := .look fun s =>
  let tag := s.dmaFreeTag
  let now := s.clk
  let left := s.dmaTokens c - (if s.f F.DMA_RATE_RATE c = 0 then 0 else 256 * beatCount b.addr b.n)
  let write := b.use == .write
  .all [
    .setCh c fun x => { x with tokens := left, tokenClk := now },
    .setDma fun d => { d with served := c, servedAt := some now, tags := (tag, ⟨c, j.id, b.use, b.addr, b.pos, b.n, now, none, false⟩) :: d.tags },
    .setJob c j.id fun j => j.issued b,
    .outstanding c,
    if s.dmaHere b.addr then .all [
      .busBurst (.dma tag) (.dma c) write (busParts 34 (b.addr % 2 ^ 24) b.n 0 b.data), .dmaCollect, .dmaPopTag c j b]
    else .dmaRequest (.dma tag) write b.addr b.n b.data,
    .when (write && !j.barrier) (.all [.dmaHalf c j (j.sent + b.n), .dmaCheck c])]

/-- R382: the engine issues at most one burst in a system clock. -/
def Act.dmaBurstIssue : Act := .look fun s => .when (s.dma.servedAt != some s.clk) <|
  match s.dmaOrder.findSome? fun c => (s.dmaEligible c).map fun x => (c, x) with
  | some (c, j, b) => .silent (.dmaIssue c j b)
  | none => .skip

/-! ### Completions -/

/-- R385: the code that an answer other than OK stands for. -/
def dmaCode (status code : Nat) : Nat := if status = 2 then codeNoTarget else if status = 3 then codeTimeout else code

/-- R378: an entry of a list, checked against the bytes that come before it. -/
def dmaEntry (bytes : List Byte) (entry taken len : Nat) : Option DmaSide :=
  let a := leNat (bytes.take 8)
  let w := leNat ((bytes.drop 8).take 4)
  let n := w % 2 ^ 20
  let last := w.testBit 31
  if n = 0 ∨ bitsOf w 20 11 ≠ 0 ∨ leNat (bytes.drop 12) ≠ 0 ∨ !dmaAddrOk a n ∨ len < taken + n ∨ (last != (taken + n == len)) then none
  else some ⟨a, entry + 16, n, last⟩

/-- R380 to R385: an answer settles what its tag was held for. -/
def Act.dmaSettle (t : DmaTag) (status : Nat) (bytes : List Byte) : Act := .look fun s =>
  let c := t.chan
  match (s.ch c).jobs.find? (fun j => j.id == t.desc) with
  | none => .skip
  | some j =>
    let short := t.use != .write && decide (bytes.length < t.n)
    let st := if status = 0 ∧ short then 1 else status
    let lost := if j.sent = j.desc.len then codeErrorTail else codeWriteError
    match t.use with
    | .read =>
      if st ≠ 0 then .dmaFail c j.id (dmaCode st codeReadError)
      else .all [
        .setJob c j.id fun j => { j with got := j.got ++ [(t.pos, bytes)] },
        .when (!j.done) (.setF F.DMA_REMAIN_REMAIN (s.f F.DMA_REMAIN_REMAIN c - t.n) c)]
    | .srcEntry =>
      if st ≠ 0 then .dmaFail c j.id (dmaCode st codeReadError)
      else match dmaEntry bytes j.src.entry j.asked j.desc.len with
        | some x => .setJob c j.id fun j => { j with src := x }
        | none => .dmaFail c j.id codeBadList
    | .dstEntry =>
      if st ≠ 0 then .dmaFail c j.id (dmaCode st codeReadError)
      else match dmaEntry bytes j.dst.entry j.sent j.desc.len with
        | some x => .setJob c j.id fun j => { j with dst := x }
        | none => .dmaFail c j.id codeBadList
    | .write =>
      if st ≠ 0 then .dmaFail c j.id (dmaCode st lost)
      else .when (!(j.barrier && dmaSpace t.addr == spaceHost)) (.all [
        .setJob c j.id fun j => { j with acked := j.acked + t.n, hostLast := if j.barrier then j.hostLast else none },
        .when j.barrier (.dmaHalf c j (j.acked + t.n))])
    | .flush =>
      if st ≠ 0 then .dmaFail c j.id (dmaCode st lost)
      else .all [.setJob c j.id fun j => { j with acked := j.sent, hostLast := none }, .dmaHalf c j j.sent]

/-- R382, R388: a tag's answer has come; one that was abandoned is counted. -/
def Act.dmaReturn (tag status : Nat) (bytes : List Byte) : Act := .look fun s =>
  match assoc s.dma.tags tag with
  | none => .skip
  | some t => .all [
      .setDma fun d => { d with tags := assocDel d.tags tag },
      if t.dead then .count F.DMA_COUNTS_LATE_DISCARD 1 t.chan
      else .all [.outstanding t.chan, .dmaSettle t status bytes, .dmaCheck t.chan]]

/-- The request of a tag waits no longer. -/
def Act.dmaForget (tag : Nat) : Act := .setRing fun r => { r with
  reqs := r.reqs.filter (fun q => match q.use with | .dma t => t != tag | _ => true)
  held := r.held.filter (fun q => match q.2.1 with | .dma t => t != tag | _ => true) }

/-- R382: a burst completes: one of this module's bus with what its accesses gave, another with the answer given. -/
def Act.dmaBurstComplete (tag : Nat) (ok : Bool) (data : List DWord) : Act := .look fun s =>
  match assoc s.dma.tags tag with
  | none => .skip
  | some t => match t.local_ with
    | some (good, bytes) => .dmaReturn tag (!good).toNat (bytes.take t.n)
    | none => .when (!s.dmaHere t.addr) (.all [.dmaForget tag, .dmaReturn tag (!ok).toNat (unpackBytes t.addr t.n data)])

/-- R385: no answer within 1 ms. An abandoned tag is free again. -/
def Act.dmaTimeout (tag : Nat) : Act := .look fun s =>
  match assoc s.dma.tags tag with
  | none => .skip
  | some t => .when (decide (t.at_ + 163840 ≤ s.clk)) <| .all [.dmaForget tag,
      if t.dead then .setDma fun d => { d with tags := assocDel d.tags tag } else .dmaReturn tag 3 []]

/-! ### The STATUS word -/

/-- R385: the STATUS word. -/
def dmaStatusWord (residue code : Nat) : Word := BitVec.ofNat 32 (residue % 2 ^ 20 + code * 2 ^ 20 + 2 ^ 31)

/-- R385: the STATUS word of a descriptor: OK only without a residue. -/
def DmaJob.status (j : DmaJob) : Nat × Nat :=
  let residue := j.desc.len - j.acked
  (residue, if j.code = 0 ∧ residue ≠ 0 then codeErrorTail else j.code)

/-- The STATUS word is written into the descriptor and into LAST; where the descriptor cannot be written only LAST holds it. -/
def Act.dmaPut (c : Chan) (a : Nat) (w : Word) (ok : Bool) : Act := .look fun s =>
  let failed : Act := .setB F.DMA_STATUS_WB_FAILED true c
  .all [
    .setR .DMA_LAST w c, .count F.DMA_COUNTS_ENDED 1 c,
    if s.dmaHere a then (Act.busWrite (.dma c) (a % 2 ^ 24) 4 (w.setWidth 64)).andThen <| .look fun t => match t.resp with
      | .ok _ | .none => .skip
      | _ => failed
    else .all [.dmaRequest .other true a 4 (leBytes w.toNat 4), .when (!ok) failed]]

/-- R386, R388: a STATUS word is written: a failure halts the channel, unless the current descriptor still has to end; an abort, and the
end of a chain, leave it IDLE once nothing more is owed. -/
def Act.dmaSettled (c : Chan) (failed : Bool) : Act := .look fun s =>
  let jobs := (s.ch c).jobs
  .when (s.dmaState c == dmaDrain) <|
    if failed then .when (jobs.all (fun j => j.done)) (.dmaState c dmaHalted)
    else .when (jobs == []) (.all [.when (s.ch c).abort.isSome (.setB F.DMA_STATUS_ABORTED true c), .dmaEnd c])

/-- R379, R385, R386: the oldest descriptor whose bursts are all settled ends: its STATUS word is written. A descriptor that could not
be read has none; LAST alone tells. -/
def Act.dmaStatus (c : Chan) (ok : Bool) : Act := .look fun s =>
  match (s.ch c).jobs with
  | [] => .skip
  | j :: rest => .when ((j.done || j.code != 0) && !s.dmaBusy c j.id) <| .silent <| .all [
      .setCh c fun x => { x with jobs := rest },
      if j.code = codeDescError then .all [
        .setR .DMA_LAST (dmaStatusWord 0 codeDescError) c, .setB F.DMA_STATUS_WB_FAILED true c]
      else .dmaPut c (j.desc.addr + 28) (dmaStatusWord j.status.1 j.status.2) ok,
      .when (j.status.2 != 0 && !(j.code == codeAborted && (s.ch c).abort.isSome)) (.setB F.DMA_STATUS_ERROR true c),
      .dmaSettled c (j.status.2 != 0 && (s.ch c).abort.isNone)]

/-- R388: the bus has not drained within 50 µs of an abort: the tags are abandoned and their bytes count into the residue. While the
descriptor is still being read its residue is open. -/
def Act.dmaUndrained (c : Chan) : Act := .look fun s =>
  let reading := s.dmaState c == dmaFetch
  .when ((s.ch c).abort.any fun t => decide (t + 8192 ≤ s.clk)) <| .silent <| .all [
    .setDma fun d => { d with tags := d.tags.map fun e => if e.2.chan = c then (e.1, { e.2 with dead := true }) else e },
    .outstanding c,
    .each ((s.ch c).jobs.filter fun j => j.code != codeDescError) fun j =>
      .dmaPut c (j.desc.addr + 28) (dmaStatusWord j.status.1 codeUndrained) true,
    .when reading (.fresh fun v => .dmaPut c (s.dmaDesc c + 28) (dmaStatusWord v.toNat codeUndrained) true),
    .setB F.DMA_STATUS_ABORTED true c, .dmaEnd c]

end Sys2Proof.Machine
end

