-- ==== Sys2Proof/Machine/RingRun.lean ====
section
/-! DEFINITION. The ring as packets and link events reach the module (R392 to R409), the host port (R410 to R414), the Ethernet port
(R415), and the ends of what the module has asked for. -/

namespace Sys2Proof.Machine

/-! ### Ends of requests -/

/-- R411: a host access ends; `off` is its BAR0 offset. -/
def Act.hostEnd (bytes : Nat) (write : Bool) (off status : Nat) (data : DWord) : Act := .look fun s =>
  let reply := fun (r : Resp) => Act.all [.answer r, .when (!write) (.send (.hostAnswer r))]
  .when s.acting <|
    if status = 0 then reply (.ok (if write then 0 else data))
    else .all [
      .setF F.HOST_ERR_ADDR_ADDR off, .setF F.HOST_ERR_ADDR_STATUS status,
      .count (if write then F.HOST_ERRS_WR_ERR else F.HOST_ERRS_RD_ERR),
      reply (if !write && !s.b F.HOST_CTRL_ERR_MODE then .ok (BitVec.ofNat 64 (2 ^ (8 * bytes) - 1)) else .error)]

/-- R401: a request ends with a STATUS and a payload. -/
def Act.reqEnd (tag status : Nat) (data : List DWord) : Act := .look fun s =>
  match s.ring.reqs.find? (fun q => q.tag == tag) with
  | none => .skip
  | some q => (Act.setRing fun r => { r with reqs := r.reqs.filter (fun q => q.tag != tag) }).andThen <|
    match q.use with
    | .mnt => .mntEnd status data
    | .host n w off => .hostEnd n w off status <|
        if n = 4 ∧ !w ∧ regReadable (off % 2 ^ 24) then data.headD 0 &&& 0xFFFFFFFF
        else BitVec.ofNat 64 (leNat (unpackBytes off n data))
    | .dma t => match assoc s.dma.tags t with
      | some x => .dmaReturn t status (unpackBytes x.addr x.n data)
      | none => .skip
    | .heartbeat => .when (status == 2) (.setPair fun p => { p with gone := true })
    | .other => .skip

/-- R401: a request was issued at least 1 ms ago. -/
def State.requestLate (s : State) (tag : Nat) : Bool := s.ring.reqs.any fun q => q.tag == tag && decide (q.at_ + 163840 ≤ s.clk)

/-- R401, R407: the answer to a request of another module is kept and sent. -/
def Act.reply (h : PkHead) (w1 status : Nat) (data : List DWord) : Act := .look fun s => .all [
  .keep h.src h.tag (if h.wantsCompletion w1 then some (completionWords s.ownNumber h w1 status data) else none),
  .complete h w1 status data]

/-- The payload that a READ has gathered. -/
def BusJob.beats (j : BusJob) (n : Nat) : List DWord := (List.range n).map fun i =>
  ((assoc j.data (2 * i)).getD 0).setWidth 64 ||| ((assoc j.data (2 * i + 1)).getD 0).setWidth 64 <<< 32

/-- A burst has ended: its completion, its answer, or its result for the DMA engine. -/
def Act.jobEnd (j : BusJob) : Act :=
  let status := j.bad.toNat
  match j.use with
  | .ring words =>
    let h := headOf words
    .reply h (word1 words) status (if h.kind = pkRead ∧ !j.bad then j.beats h.beats else [])
  | .host n w off => .hostEnd n w off status (BitVec.ofNat 64 (leNat (j.bytes (n / 4))))
  | .dma _ => .skip
  | .delivery b c => .deliveryEnd b c !j.bad

/-- Every burst whose accesses have ended. -/
def Act.collect : Act := .all [.dmaCollect, .look fun s => .each (s.fab.jobs.filter fun j => j.left == 0) fun j => .all [
  .setFab fun f => { f with jobs := f.jobs.filter (fun k => k.id != j.id) }, .jobEnd j]]

/-- R411: a host access of this module's own window waits for the host writes before it. -/
def State.hostWriting (s : State) : Bool :=
  s.fab.jobs.any fun j => match j.use with
    | .host _ w _ => w
    | _ => false

/-- R411: host reads of this module that had to wait. -/
def Act.heldOwn : List (BitVec 6 × RingUse × List DWord) → Act
  | (_, .host n false off, []) :: l => .look fun s => .when (!s.hostWriting) <| .all [
      .setRing fun r => { r with held := l },
      .busBurst (.host n false off) .host false (busParts 2 (off % 2 ^ 24) n 0 []), .collect, Act.heldOwn l]
  | _ => .skip

/-- R406, R408: own requests that met no target end, and what was held back goes on. -/
def Act.settleOnce : Act := .look fun s => .all [
  .setRing fun r => { r with failed := [] },
  .each s.ring.failed fun t => .reqEnd t 2 [],
  .look fun t => .heldOwn t.ring.held, .look fun t => .heldIssue t.ring.held]

/-- What a command has left behind is settled, and the in-force set evaluated. -/
def Act.settled : Act := .all [.settleOnce, .settleOnce, .modes]

/-- A command that may leave something behind. -/
def Act.ringDone (a : Act) : Act := .all [a, .settled]

/-! ### Requests from the ring -/

/-- R398: the accesses of one beat: its byte enables take both words, one of them, or none; anything else is refused under R40. -/
def beatParts (base i be : Nat) (data : DWord) : List BusPart :=
  let a := base + 8 * i
  match be with
  | 0xFF => [⟨a, 8, 2 * i, data⟩]
  | 0x0F => [⟨a, 4, 2 * i, data⟩]
  | 0xF0 => [⟨a + 4, 4, 2 * i + 1, data >>> 32⟩]
  | 0 => []
  | _ => [⟨a, 1, 2 * i, data⟩]

/-- The byte enables of beat `i`. -/
def PkHead.be (h : PkHead) (i : Nat) : Nat := if i = 0 then h.firstBe else if i + 1 = h.beats then h.lastBe else 255

/-- R401, R412: a READ or WRITE is executed. -/
def Act.ringAccess (words : List DWord) : Act := .look fun s =>
  let h := headOf words
  let a := word1 words
  let write := h.kind == pkWrite
  if dmaSpace a = spaceHost ∧ s.acting then .setRing fun r => { r with hostQ := r.hostQ ++ [words] }
  else if dmaSpace a ≠ spaceLocal ∨ bitsOf a 24 36 ≠ 0 ∨ h.beats = 0 ∨ 16 < h.beats then .reply h a 1 []
  else .all [
    .busBurst (.ring words) .ring write
      (((List.range h.beats).map fun i => beatParts (a / 8 * 8) i (h.be i) ((payloadOf words).getD i 0)).flatten),
    .collect]

/-- R407: what is known of a request that comes again. -/
def State.kept (s : State) (h : PkHead) : Option (Option (List DWord)) :=
  (s.ring.kept.find? fun e => e.1 == h.src && e.2.1 == h.tag && decide (s.clk < e.2.2.1 + 163840)).map fun e => e.2.2.2

/-- R407: the request is being executed. -/
def State.executing (s : State) (h : PkHead) : Bool :=
  let same := fun (w : List DWord) => (headOf w).src == h.src && (headOf w).tag == h.tag
  s.ring.hostQ.any same || s.fab.jobs.any fun j => match j.use with
    | .ring w => same w
    | _ => false

/-- R407: a packet with RR that was executed before is not executed again: its completion is sent again. -/
def Act.unlessDone (words : List DWord) (a : Act) : Act := .look fun s =>
  let h := headOf words
  if !h.rr then a
  else match s.kept h with
    | some c => .all [.count F.COLYS_COUNTS_DUPLICATES, match c with
        | some w => .sendReply w
        | none => .skip]
    | none => if s.executing h then .count F.COLYS_COUNTS_DUPLICATES else a

/-- R398, R408: a packet addressed to this module. -/
def Act.execute (words : List DWord) : Act := .look fun s =>
  let h := headOf words
  let w1 := word1 words
  if !s.up || s.b F.COLYS_ID_ISOLATED then .when (h.kind != pkCompletion) (.complete h w1 2 [])
  else if h.kind = pkCompletion then .reqEnd h.tag h.status (payloadOf words)
  else if h.kind = pkEvent then .eventApply h.src (w1 % 2 ^ 48) (w1 / 2 ^ 48)
  else if h.kind = pkMaint then
    .when (!decide (7 ≤ w1 % 256 ∧ w1 % 256 ≤ 10)) (.unlessDone words (.maintRun h.src h.tag (w1 % 256) (w1 / 256 % 2 ^ 32)))
  else if h.kind = pkRead ∨ h.kind = pkWrite then .unlessDone words (.ringAccess words)
  else .skip

/-- R403: the time packet in a TIME packet's words. -/
def timeOf (words : List DWord) (residence : BitVec 32) : TimePkt :=
  let b := ((payloadOf words).headD 0).toNat
  { ns := BitVec.ofNat 64 (word1 words), acc := BitVec.ofNat 32 b, hops := BitVec.ofNat 8 (bitsOf b 32 8)
    utcValid := b.testBit 40, arb := b.testBit 41, state := BitVec.ofNat 2 (bitsOf b 42 2), utc := BitVec.ofNat 16 (bitsOf b 48 16)
    residence := residence }

/-- R398: a packet's class and count of words agree with its kind. -/
def packetOk (words : List DWord) : Bool :=
  let h := headOf words
  decide (h.kind ≤ pkMaint) && decide ((words.headD 0).toNat < 2 ^ 60) && decide (h.beats ≤ 16) &&
  words.length == 2 + (if h.kind = pkRead then 0 else h.beats)

/-- R397, R403, R408: a good packet is forwarded, executed, or both. A module under reset forwards throughout. -/
def Act.packet (port : Port) (words : List DWord) : Act := .look fun s =>
  let h := headOf words
  if h.kind = pkTime then .fresh fun v => if s.up then .timePacket port (timeOf words (v.setWidth 32))
    else .timeForward port (timeOf words (v.setWidth 32))
  else if h.bcast then .skip
  else if h.dst = s.ownNumber then .execute words
  else if h.src = s.ownNumber ∧ !h.rr then .deadPacket words
  else .transmit (otherPort port) words (.deadPacket words)

/-- R399, R400: a packet arrives with its trailer: it is checked, answered with ACK or NAK, and taken when it is the next of its class. -/
def Act.linkReceive (port : Port) (words : List DWord) : Act := .look fun s =>
  let body := words.dropLast
  let t := (words.getLastD 0).toNat
  let lseq := bitsOf t 32 10
  let c := laneOf body
  let cls := if c = 1 then RingCls.maint else .data
  let x := s.lane port c
  let last := (x.expect + 1023) % 1024
  let nak : Act := .when (!x.refusing) (.all [
    .setLane port c fun x => { x with refusing := true }, .send (.link port cls false last)])
  .when (s.present && !s.ring.bypass && s.portUp port) <|
    if !packetOk body || t / 2 ^ 42 != 0 || (packetCrc body lseq).toNat != t % 2 ^ 32 then
      .all [.count F.PORT_ERRS_CRC_ERR 1 (portIndex port), nak]
    else if lseq = x.expect then .all [
      .setLane port c fun x => { x with expect := (lseq + 1) % 1024, refusing := false },
      .send (.link port cls true lseq), .packet port body]
    else if (x.expect + 1024 - lseq) % 1024 ≤ 512 then .when (!x.refusing) (.send (.link port cls true last))
    else nak

/-! ### Links -/

def laneClass : RingCls → Fin 2
  | .data => 0
  | .maint => 1

/-- R400: what an ACK of `lseq` leaves in the retry buffer. -/
def ackDrop (l : List RingSent) (lseq : Nat) : List RingSent :=
  if l.any (fun e => e.lseq == lseq) then (l.dropWhile fun e => e.lseq != lseq).drop 1 else l

def Act.drainAll (p : Port) (c : Fin 2) : Act := .look fun s => .drainLane p c (s.lane p c).queue.length

/-- R400: an ACK. -/
def Act.ringAck (p : Port) (c : Fin 2) (lseq : Nat) : Act := .all [
  .setLane p c fun l => { l with retry := ackDrop l.retry lseq }, .drainAll p c]

/-- R405, R406: the link is down: TIME packets go, every other packet held for it is turned back, maintenance first. -/
def Act.linkDown (p : Port) : Act := .look fun s =>
  let i := portIndex p
  let now := s.clk
  let words := fun (c : Fin 2) => ((s.lane p c).retry.map RingSent.words) ++ (s.lane p c).queue
  .when (s.linkAlive p) <| .all [
    .setF F.PORT_STATUS_STATE portDown i, .setF F.PORT_STATUS_WIDTH 0 i, .setF F.PORT_STATUS_PARTNER 0 i,
    .setB F.PORT_STATUS_PARTNER_VALID false i, .count F.PORT_LINKS_DOWNS 1 i, .setB F.COLYS_EVENTS_BREAK true,
    .setTim fun t => { t with heard := t.heard.set i none },
    .setRing fun r => { r with lost := r.lost.set i (some now) },
    .each [1, 0] fun c => .setLane p c fun _ => ⟨0, 0, [], [], false⟩,
    .each (words 1 ++ words 0) fun w => .transmit p w (.deadPacket w)]

/-- R400: the transmitter resends from the first unacknowledged packet; the eighth send of one packet takes the link down. -/
def Act.resend (p : Port) (c : Fin 2) : Act := .look fun s =>
  let l := (s.lane p c).retry
  .when (s.portUp p && l != []) <| .all [
    .count F.PORT_ERRS_RETRIES 1 (portIndex p),
    .setLane p c fun x => { x with retry := x.retry.map fun e => { e with times := e.times + 1, at_ := s.clk } },
    .each l fun e => .send (.packet p (e.words ++ [trailer e.words e.lseq])),
    .when (l.any fun e => decide (7 ≤ e.times)) (.linkDown p)]

/-- R400: no ACK has arrived within 2 µs of the send of the first unacknowledged packet. -/
def State.ackLate (s : State) (p : Port) (c : Fin 2) : Bool := (s.lane p c).retry.head?.any fun e => decide (e.at_ + 328 ≤ s.clk)

/-- R405: a port loses block lock. -/
def Act.linkPause (p : Port) : Act := .look fun s =>
  let now := s.clk
  .when (s.portUp p) (.all [
    .setF F.PORT_STATUS_STATE portPaused (portIndex p), .setRing fun r => { r with lost := r.lost.set (portIndex p) (some now) }])

/-- R395: the widths a port trains at. -/
def laneWidth (w : Nat) : Bool := w == 1 || w == 2 || w == 4

/-- A paused link is up again: each class resends, then sends what waits (R405). -/
def Act.linkResumes (p : Port) : Act := .all [
  .setF F.PORT_STATUS_STATE portIsUp (portIndex p), .count F.PORT_LINKS_PAUSES 1 (portIndex p),
  .setRing fun r => { r with lost := r.lost.set (portIndex p) none },
  .resend p 1, .resend p 0, .drainAll p 1, .drainAll p 0]

/-- R405: a pause of the port has lasted 50 µs. -/
def State.pauseOver (s : State) (p : Port) : Bool :=
  s.portState p == portPaused && (s.ring.lost[portIndex p]).any fun t => decide (t + 8192 ≤ s.clk)

/-- R395, R405: a port has trained: a pause ends, or the link comes up with a fresh LSEQ. -/
def Act.linkUp (p : Port) (width : Nat) (partner : BitVec 6) : Act := .look fun s =>
  let i := portIndex p
  .when (s.present && !s.ring.bypass && laneWidth width && !s.portUp p) <| .all [
    .setF F.PORT_STATUS_WIDTH width i, .setF F.PORT_STATUS_PARTNER partner.toNat i, .setB F.PORT_STATUS_PARTNER_VALID true i,
    if s.portState p = portPaused then .linkResumes p
    else .all [
      .when (s.ring.lost[i]).isSome (.setB F.COLYS_EVENTS_REJOIN true),
      .setF F.PORT_STATUS_STATE portIsUp i,
      .setRing fun r => { r with lost := r.lost.set i none },
      .each [1, 0] fun c => .all [
        .setLane p c fun l => { l with expect := 0, next := 0, retry := [], refusing := false }, .drainAll p c]]]

/-- R395, R405, R409: a port has trained. A pause of 50 µs has taken its link down, and its return is a rejoin. -/
def Act.linkTrained (p : Port) (width : Nat) (partner : BitVec 6) : Act := .all [
  .look fun s => .when (s.pauseOver p) (.linkDown p), .linkUp p width partner]

/-- R395: a lane fails and the link retrains narrower; the retraining is a pause. -/
def Act.laneFail (p : Port) (width : Nat) : Act := .look fun s =>
  let i := portIndex p
  .when (s.linkAlive p && laneWidth width && decide (width < s.f F.PORT_STATUS_WIDTH i)) <| .all [
    .setF F.PORT_STATUS_WIDTH width i, .setB F.PORT_STATUS_DEGRADED true i, .setB F.COLYS_EVENTS_DEGRADED true, .linkResumes p]

/-! ### Link delay (R403) -/

/-- An instant at a lane serialiser: module time, 2^-16 ns, with a resolution of 0.5 ns within the system clock. -/
def State.laneTime (s : State) (v : Nat) : Nat := (s.time / 2147483648 + v % 12) * 32768

def Act.delayMeasure (p : Port) : Act := .fresh fun v => .look fun s =>
  let t1 := s.laneTime v.toNat
  .when (s.up && s.portUp p) (.all [
    .setRing fun r => { r with delayT1 := r.delayT1.set (portIndex p) (some t1) }, .send (.delayReq p t1)])

/-- R403: a DELAY_REQ is answered with t1, the instant of its arrival and that of the answer's departure. -/
def Act.delayReq (p : Port) (t1 : Nat) : Act := .fresh fun v => .fresh fun w => .look fun s =>
  let t2 := s.laneTime v.toNat
  .when (s.up && s.portUp p) (.send (.delayResp p t1 t2 (t2 + (w.toNat % 2 ^ 32) * 32768)))

/-- R403: the result in units of 1/16 ns, and the mean of the last 16. -/
def Act.delayResp (p : Port) (t1 t2 t3 : Nat) : Act := .fresh fun v => .look fun s =>
  let i := portIndex p
  let t4 := s.laneTime v.toNat
  let d := (((t4 : Int) - t1) - ((t3 : Int) - t2)) / 2 / 4096
  let l := (d :: s.tim.links[i]).take 16
  .when (s.up && s.ring.delayT1[i] == some t1) (.all [
    .setRing fun r => { r with delayT1 := r.delayT1.set i none },
    .setTim fun t => { t with links := t.links.set i l },
    .setF (match p with | .west => F.TIME_HOP_DELAY_WEST | .east => F.TIME_HOP_DELAY_EAST) (clamp 0 65535 (meanOf l)).toNat])

/-! ### Census and map (R394) -/

/-- R394: hops from position `i` to position `j` of a ring of these modules, named from west to east, and whether they go east. -/
def ringHops (n : Nat) (closed : Bool) (i j : Nat) : Nat × Bool :=
  if closed then
    let east := (j + n - i) % n
    let west := (i + n - j) % n
    if west < east then (west, false) else (east, true)
  else if i ≤ j then (j - i, true) else (i - j, false)

/-- R394: COLYS.ROUTE of a module in this map. -/
def routeWord (own : BitVec 6) (order : List (BitVec 6)) (closed : Bool) (m : BitVec 6) : Word :=
  if order.contains m then
    let h := ringHops order.length closed (order.idxOf own) (order.idxOf m)
    BitVec.ofNat 32 (1 + 2 * h.2.toNat + 4 * (h.1 % 64))
  else 0

/-- R394: the numbers that appear twice in a map; the head's stays its own. -/
def twice (head : BitVec 6) (order : List (BitVec 6)) : List (BitVec 6) :=
  (order.filter fun m => m != head && decide (2 ≤ order.count m)).dedup

/-- R394: COLYS.RING of a map, without MAP_SEQ. -/
def ringWord (head : BitVec 6) (order : List (BitVec 6)) (closed : Bool) : Nat :=
  order.length % 128 + closed.toNat * 128 + head.toNat * 256 + 16384

/-- The map tells the module nothing new. -/
def State.sameMap (s : State) (head : BitVec 6) (order : List (BitVec 6)) (closed : Bool) : Bool :=
  (s.r .COLYS_RING).toNat % 32768 == ringWord head order closed && s.ring.dup == twice head order &&
  (List.range 64).all fun m => s.r .COLYS_ROUTE m == routeWord s.ownNumber order closed (BitVec.ofNat 6 m)

/-- R394, R404: a module takes a ring map: routes, isolation, and an EVENT packet that is due. -/
def Act.takeMap (seq : Nat) (head : BitVec 6) (order : List (BitVec 6)) (closed : Bool) : Act := .look fun s =>
  let dup := twice head order
  .all [
    .when (!s.sameMap head order closed) (.setB F.COLYS_EVENTS_MAP_CHANGED true),
    .each (List.range 64) fun m => .setR .COLYS_ROUTE (routeWord s.ownNumber order closed (BitVec.ofNat 6 m)) m,
    .setR .COLYS_RING (BitVec.ofNat 32 (ringWord head order closed + seq % 256 * 65536)),
    .setB F.COLYS_ID_ISOLATED (!s.acting && decide (2 ≤ order.count s.ownNumber)),
    .when (order.any fun m => decide (2 ≤ order.count m)) (.setB F.COLYS_EVENTS_DUP_ADDR true),
    .setRing fun r => { r with dup := dup, evDue := true }]

/-- R394: the head starts a census out of its east port. -/
def Act.censusSend : Act := .look fun s =>
  .when (s.up && s.acting && s.portUp .east) (.send (.census .east [s.ownNumber]))

/-- R394: a census passes: the module appends its number and sends it on, or back from the end of a broken ring; a census on its way back
passes unchanged. A head that meets the census of a head with a lower number gives up its role. -/
def Act.census (port : Port) (members : List (BitVec 6)) : Act := .look fun s =>
  let other := otherPort port
  let out := port == .west
  let list := if out then members ++ [s.ownNumber] else members
  let onward : Act := if s.portUp other then .send (.census other list) else .when (out && s.portUp port) (.send (.census port list))
  .when (s.up && s.portUp port) <|
    if s.acting then
      match members.head? with
      | some h => .when (decide (h.toNat < s.ownNumber.toNat)) (.all [
          .setRing fun r => { r with gaveUp := true },
          .setB F.COLYS_ID_HEAD false, .setB F.SYS_INST_HEAD false, .setB F.COLYS_EVENTS_HEAD_CONFLICT true, onward])
      | none => .skip
    else onward

/-- R394: a MAP packet is taken, unless it was before, and goes on. -/
def Act.mapPacket (port : Port) (seq : Nat) (head : BitVec 6) (order : List (BitVec 6)) (closed : Bool) : Act := .look fun s =>
  let other := otherPort port
  let known := s.b F.COLYS_RING_HEAD_KNOWN && s.f F.COLYS_RING_MAP_SEQ == seq
  .when (s.up && s.portUp port && !s.acting) <| .all [
    .when (!known) (.takeMap seq head order closed),
    .when (s.portUp other) (.send (.map other seq head order closed))]

/-- R394: the census has returned: the head takes the map and broadcasts it out of both ports; MAP_SEQ counts the maps that differ. -/
def Act.mapBroadcast (order : List (BitVec 6)) (closed : Bool) : Act := .look fun s =>
  let own := s.ownNumber
  let known := s.b F.COLYS_RING_HEAD_KNOWN && s.sameMap own order closed
  let seq := if known then s.f F.COLYS_RING_MAP_SEQ else (s.f F.COLYS_RING_MAP_SEQ + 1) % 256
  .when (s.up && s.acting && order.contains own) <| .all [
    .when (!known) (.takeMap seq own order closed),
    .each [Port.west, Port.east] fun p => .when (s.portUp p) (.send (.map p seq own order closed))]

/-! ### The host port -/

/-- R411: a host access at BAR0. -/
def Act.hostAccess (m : BitVec 6) (off bytes : Nat) (write : Bool) (v : DWord) : Act := .look fun s =>
  let bar := m.toNat * 2 ^ 24 + off
  let own := s.ownNumber
  let use := RingUse.host bytes write bar
  if !s.acting then .answer .noTarget
  else if (bytes ≠ 4 ∧ bytes ≠ 8) ∨ off % bytes ≠ 0 then .all [
    .answer .error, if write then .count F.HOST_ERRS_WR_ERR else .send (.hostAnswer .error)]
  else if m = own then
    if !write && s.hostWriting then .all [.answer .none, .setRing fun r => { r with held := r.held ++ [(own, use, [])] }]
    else .all [.answer .none, .busBurst (.host bytes write bar) .host write (busParts 2 off bytes 0 (leBytes v.toNat bytes)), .collect]
  else if !write && bytes == 4 && regReadable off then .all [.answer .none, .request m use (s.maintWords m 0 off)]
  else .all [.answer .none, .request m use (burstPacket own m write off bytes (leBytes v.toNat bytes))]

/-- R412: pieces of a transfer of `n` bytes that cross no 4 KiB boundary and hold at most `limit` bytes. -/
def hostPieces (limit : Nat) : Nat → Nat → Nat → List (Nat × Nat)
  | 0, _, _ => []
  | k + 1, a, n => if n = 0 then [] else
    let c := min n (min limit (4096 - a % 4096))
    (a, c) :: hostPieces limit k (a + c) (n - c)

/-- The bytes of a WRITE for host memory, those that are not enabled left out. -/
def hostBytes (words : List DWord) : List (Option Byte) :=
  let h := headOf words
  ((payloadOf words).mapIdx fun i w => (leBytes w.toNat 8).mapIdx fun k b => if (h.be i).testBit k then some b else none).flatten

/-- Zero bits at the bottom of a byte-enable field, and at its top. -/
def enablesLow (be : Nat) : Nat := ((List.range 8).find? fun k => be.testBit k).getD 8
def enablesHigh (be : Nat) : Nat := ((List.range 8).find? fun k => be.testBit (7 - k)).getD 8

/-- R412: the packet for host memory that waits longest has been executed. -/
def Act.hostMaster (ok : Bool) (data : List DWord) : Act := .look fun s =>
  match s.ring.hostQ with
  | [] => .skip
  | words :: rest =>
    let h := headOf words
    let a := word1 words % 2 ^ 60
    let base := a / 8 * 8
    let reply := fun (status : Nat) (d : List DWord) =>
      if h.src = s.ownNumber then Act.reqEnd h.tag status d else .reply h (word1 words) status d
    let bytes := hostBytes words
    let skip := enablesLow (h.be 0)
    let len := 8 * h.beats - skip - enablesHigh (h.be (h.beats - 1))
    (Act.setRing fun r => { r with hostQ := rest }).andThen <|
    if !s.acting || !s.b F.HOST_STATUS_BME || s.b F.HOST_STATUS_D3HOT then reply 1 []
    else if h.kind = pkWrite then .all [
      .each (hostPieces s.pcie.payload 32 base bytes.length) fun p => .send (.busWrite p.1 ((bytes.drop (p.1 - base)).take p.2)),
      reply 0 []]
    else .all [
      .each (hostPieces 512 32 (base + skip) len) fun p => .send (.busRead p.1 p.2),
      if ok ∧ data.length = h.beats then reply 0 data else reply 1 []]

/-- R412: the endpoint is reset. -/
def Act.endpointReset : Act := .look fun s => .when s.acting <| .all [
  .upd fun s => { s with pcie := ⟨false, false, 128⟩ },
  .setB F.HOST_STATUS_BME false, .setB F.HOST_STATUS_D3HOT false,
  .clearMem fun a => !decide (0xA8000 ≤ a ∧ a < 0xAA000),
  .each (List.range 256) fun v => .setByte (vectorControl v) 1,
  .each (List.range 64) fun m => .each (List.range 48) fun l => .all [
    .setB F.COLYS_MAP_EN false m l, .setB F.COLYS_MAP_ARMED true m l],
  .setRing fun r => { r with
    reqs := r.reqs.map fun q => match q.use with
      | .host _ _ _ => { q with use := .other }
      | _ => q
    held := r.held.filter fun q => match q.2.1 with
      | .host _ _ _ => false
      | _ => true },
  .setFab fun f => { f with jobs := f.jobs.filter fun j => match j.use with
    | .host _ _ _ => false
    | _ => true },
  .each s.ring.hostQ fun _ => .hostMaster false []]

/-- R79: the head's endpoint answers configuration requests: from t0 + 20 ms. -/
def State.endpointUp (s : State) : Bool := s.acting && (s.pwr.warm || decide (s.pwr.startRef + 3276800 ≤ s.clk))

/-- R410, R412, R413: a configuration request. -/
def Act.pcieConfig (w : PcieCfg) : Act := .look fun s => .when s.endpointUp <| .all [
  match w with
  | .busMaster on => .setB F.HOST_STATUS_BME on
  | .power d3hot => .setB F.HOST_STATUS_D3HOT d3hot
  | .msix enable mask => .upd fun s => { s with pcie := { s.pcie with msix := enable, fmask := mask } }
  | .maxPayload big => .upd fun s => { s with pcie := { s.pcie with payload := if big then 256 else 128 } },
  .msixPending]

/-- R410: the host link trains up or goes down. -/
def Act.pcieLink (up : Bool) (speed width : Nat) : Act := .look fun s => .when s.acting <| .all [
  .setB F.HOST_STATUS_LINK_UP up, .setF F.HOST_STATUS_SPEED (if up then speed else 0),
  .setF F.HOST_STATUS_WIDTH (if up then width else 0)]

/-! ### The Ethernet port -/

/-- R415: the groups of PTP on UDP. -/
def ptpGroups : List (BitVec 32) := [0xE0000181, 0xE000006B]

/-- R415: a frame arrives at S.ETH. -/
def Act.ethFrame (f : EthFrame) : Act := .look fun s =>
  let ip := s.r .ETH_IP_ADDR
  let discard : Act := .count F.ETH_STATUS_DISCARDS
  .when (s.up && s.acting && s.b F.ETH_STATUS_LINK_UP) <| match f with
    | .ptp m => if ip = 0 ∧ (ptpHead m).transport = false then discard else .ptpReceive m
    | .arp target asker => if ip ≠ 0 ∧ target = ip then .send (.arpReply asker) else discard
    | .echo target asker data => if ip ≠ 0 ∧ target = ip then .send (.echoReply asker data) else discard
    | .igmpQuery g =>
      let l := ptpGroups.filter fun x => g == 0 || g == x
      if ip = 0 ∨ l = [] then discard else .each l fun x => .send (.igmpReport x)
    | .other => discard

/-! ### User registers -/

/-- R385: a fabric window that times out ends a DMA descriptor with TIMEOUT. -/
def Act.dmaWindowTimeout (d : Die) : Act := .look fun s =>
  match (s.fab.access[d]).head? with
  | some a => match a.job with
    | some (id, _) => match s.fab.jobs.find? (fun j => j.id == id) with
      | some j => match j.use with
        | .dma tag => match assoc s.dma.tags tag with
          | some t => .when (!t.dead) (.dmaFail t.chan t.desc codeTimeout)
          | none => .skip
        | _ => .skip
      | none => .skip
    | none => .skip
  | none => .skip

/-! ### The commands -/

def execUserRegisterReady (d : Die) (rdata : Word) (s : State) := (Act.ringDone (.all [.userReady d rdata, .collect])).done s
def execUserRegisterTimeout (d : Die) (s : State) :=
  (Act.ringDone (.look fun t => .when (t.accessLate d) (.all [.dmaWindowTimeout d, .userTimeout d, .collect]))).done s
def execMasterPortWrite (d : Die) (addr : BitVec 24) (v : DWord) (wide : Bool) (s : State) :=
  (Act.ringDone (.masterIssued d (.masterWrite d addr.toNat v wide))).done s
def execRegisterWrite (src : Src) (off : BitVec 24) (v : Word) (s : State) :=
  (Act.ringDone (.busWrite src off.toNat 4 (v.setWidth 64))).done s
def execLinkDelayMeasure (port : Port) (s : State) := (Act.delayMeasure port).done s
def execDmaUndrained (c : Chan) (s : State) := (Act.ringDone (.dmaUndrained c)).done s
def execDmaDescriptorFetch (c : Chan) (words : List DWord) (s : State) := (Act.ringDone (.dmaFetchRun c words)).done s
def execDmaBurstIssue (s : State) := (Act.ringDone .dmaBurstIssue).done s
def execDmaBurstComplete (tag : Fin 256) (ok : Bool) (data : List DWord) (s : State) :=
  (Act.ringDone (.dmaBurstComplete tag ok data)).done s
def execDmaStatusWriteback (c : Chan) (ok : Bool) (s : State) := (Act.ringDone (.dmaStatus c ok)).done s
def execDmaTransactionTimeout (tag : Fin 256) (s : State) := (Act.ringDone (.dmaTimeout tag)).done s
def execRingPacketReceive (port : Port) (words : List DWord) (s : State) := (Act.ringDone (.linkReceive port words)).done s
def execRingAck (port : Port) (cls : RingCls) (lseq : BitVec 10) (s : State) :=
  (Act.ringDone (.ringAck port (laneClass cls) lseq.toNat)).done s
def execRingNak (port : Port) (cls : RingCls) (lseq : BitVec 10) (s : State) :=
  (Act.ringDone (.all [.ringAck port (laneClass cls) lseq.toNat, .resend port (laneClass cls)])).done s
def execRingRetryTimeout (port : Port) (cls : RingCls) (s : State) := (Act.ringDone (.look fun t => .when (t.ackLate port (laneClass cls)) (.resend port (laneClass cls)))).done s
/-- R401: no completion has arrived 1 ms after the issue. -/
def execRingRequestTimeout (tag : BitVec 16) (s : State) :=
  (Act.ringDone (.look fun t => .when (t.requestLate tag.toNat) (.reqEnd tag.toNat 3 []))).done s
def execLinkPause (port : Port) (s : State) := (Act.linkPause port).done s
/-- R405: a pause has lasted 50 µs. -/
def execLinkDown (port : Port) (s : State) := (Act.ringDone (.when (s.pauseOver port) (.linkDown port))).done s
def execLinkTrained (port : Port) (width : Fin 8) (partner : BitVec 6) (s : State) :=
  (Act.ringDone (.linkTrained port width partner)).done s
def execLaneFailRetrain (port : Port) (width : Fin 8) (s : State) := (Act.ringDone (.laneFail port width)).done s
/-- R393: the bypass closes after the rails have collapsed. -/
def execBypassClose (s : State) := (Act.when (s.pwr.life == .collapsed || s.pwr.life == .off)
  (.setRing fun r => { r with bypass := true })).done s
def execCensusSend (s : State) := Act.censusSend.done s
def execRingMapBroadcast (order : List (BitVec 6)) (closed : Bool) (s : State) := (Act.ringDone (.mapBroadcast order closed)).done s
def execRegRead (origin : BitVec 6) (tag : BitVec 16) (off : BitVec 24) (s : State) :=
  (Act.ringDone (.maintRun origin tag.toNat 0 off.toNat)).done s
def execLogRead (origin : BitVec 6) (tag : BitVec 16) (seq : Word) (s : State) :=
  (Act.ringDone (.maintRun origin tag.toNat 1 seq.toNat)).done s
def execMaintSafe (origin : BitVec 6) (tag : BitVec 16) (s : State) := (Act.ringDone (.maintRun origin tag.toNat 2 0)).done s
def execMaintRegionReset (origin : BitVec 6) (tag : BitVec 16) (arg : Word) (s : State) :=
  (Act.ringDone (.maintRun origin tag.toNat 3 arg.toNat)).done s
def execMaintCapture (origin : BitVec 6) (tag : BitVec 16) (arg : Word) (s : State) :=
  (Act.ringDone (.maintRun origin tag.toNat 4 arg.toNat)).done s
def execMaintModuleReset (origin : BitVec 6) (tag : BitVec 16) (arg : Word) (s : State) :=
  (Act.ringDone (.maintRun origin tag.toNat 5 arg.toNat)).done s
def execMaintDmaAbort (origin : BitVec 6) (tag : BitVec 16) (arg : Word) (s : State) :=
  (Act.ringDone (.maintRun origin tag.toNat 6 arg.toNat)).done s
def execDelayReq (port : Port) (t1 : BitVec 80) (s : State) := (Act.delayReq port t1.toNat).done s
def execDelayResp (port : Port) (t1 t2 t3 : BitVec 80) (s : State) := (Act.delayResp port t1.toNat t2.toNat t3.toNat).done s
def execCensus (port : Port) (members : List (BitVec 6)) (s : State) := (Act.census port members).done s
def execMap (port : Port) (seq : BitVec 8) (head : BitVec 6) (order : List (BitVec 6)) (closed : Bool) (s : State) :=
  (Act.ringDone (.mapPacket port seq.toNat head order closed)).done s
/-- R404: the pending mask has changed, or a map or a source without a status bit calls for an EVENT packet. -/
def execEventMaskChange (s : State) := (Act.ringDone (.when
  (s.pendingMask != s.ring.evMask || s.ring.evDue || s.ring.once != 0) .eventSend)).done s
def execEventApply (m : BitVec 6) (mask : BitVec 48) (seq : BitVec 16) (s : State) := (Act.eventApply m mask.toNat seq.toNat).done s
def execEvtAck (src : Src) (v : Word) (s : State) := (Act.writeTo src .EVT_ACK 0 0 0 (.evtAck v)).done s
def execMntCmd (src : Src) (v : Word) (s : State) := (Act.ringDone (.writeTo src .MNT_CMD 0 0 0 (.mntCmd v))).done s
def execHostAccess (m : BitVec 6) (off : BitVec 24) (bytes : Nat) (write : Bool) (v : DWord) (s : State) :=
  (Act.ringDone (.hostAccess m off.toNat bytes write v)).done s
def execHostBusMaster (ok : Bool) (data : List DWord) (s : State) := (Act.ringDone (.hostMaster ok data)).done s
def execPcieFlr (s : State) := (Act.ringDone .endpointReset).done s
def execPcieConfigWrite (w : PcieCfg) (s : State) := (Act.pcieConfig w).done s
def execPcieLinkChange (up : Bool) (speed : Fin 4) (width : Fin 32) (s : State) := (Act.pcieLink up speed width).done s
def execPcieReset (s : State) := (Act.ringDone .endpointReset).done s
def execEthFrameReceive (f : EthFrame) (s : State) := (Act.ethFrame f).done s
def execEthLinkChange (up : Bool) (mdix : Bool) (s : State) := (Act.when s.acting (.all [
  .setB F.ETH_STATUS_LINK_UP up, .setB F.ETH_STATUS_MDIX mdix, .ptpLink up])).done s
def execLogEntryQueue (kind : BitVec 16) (subject : BitVec 16) (parts : List (List Byte)) (s : State) :=
  (Act.logMulti kind.toNat subject.toNat parts).done s
def execLogEntryCommit (s : State) := Act.logCommit.done s
def execLogSelWrite (src : Src) (v : Word) (s : State) := (Act.writeTo src .LOG_SEL 0 0 0 (.all [.logSelect v, .accept])).done s

end Sys2Proof.Machine
end

