-- ==== Sys2Proof/Machine/Apply.lean ====
section
/-! DEFINITION. The end of a full load (R88, R96, R99), release into full service (R73), and the policy image as it is applied (R289,
R290). -/

namespace Sys2Proof.Machine

/-! ### The configured topology (R70 step 8) -/

/-- R88, R164: a pair of a register write list is applied, as a write of its register: what the register refuses it counts. CELL words go
into the shadow. -/
def Act.topologyPair (off : Nat) (v : Word) : Act :=
  match lookupReg off with
  | none => .skip
  | some r => .silent <| match r.name with
    | .CELL_CFG | .CELL_IN | .CELL_FB | .CELL_PARAM | .CELL_INIT | .CELL_SC | .CELL_TRACK | .CELL_SCK => .setR r.name v r.i r.j r.k
    | _ => .regWrite .policy r v

/-- R88, R164: the configured topology and the initial sequences take effect; comparators start on NV thresholds (R70). -/
def Act.topologyApply : Act := .look fun s => .all [
  .each s.load.pairs fun e => .topologyPair e.1 e.2,
  .each (List.finRange 4) fun g => .all [
    .cellLoaded g, .each (List.finRange 8) (Act.cvMirror g), .cmpsFollow g, .outsUpdate g, .pinsRefresh g]]

/-- R99, R96: the trailer checks pass, and the stream is verified. -/
def Act.fullVerified (unreadable : Bool) : Act := .look fun s =>
  match s.load.op with
  | .full slot again =>
    let img := s.load.stream
    let n := hdrFrames img
    if !s.load.header || s.load.frames ≠ n then .skip
    else if unreadable then .fullFail slot again errFlash 0xFFFF
    else if img.length < 192 + 256 * n then .fullFail slot again errTruncated 0xFFFF
    else
      let c := s.trailerCode img (256 * n)
      if c ≠ 0 then .fullFail slot again c 0xFFFF
      else .all [
        .setB F.CFG_STATUS_DONE true, .setB F.CFG_STATUS_CFGERR false,
        .setF F.CFG_BUILD_ID_BUILD_ID (hdrBuild img),
        .setF F.CFG_RESERVE_RESERVE (2 ^ 32 - 1 - hdrMask img),
        .setF F.CFG_RESERVE_LOADED_LOADED 0,
        .remapApply (hdrMask img),
        .setF F.SYS_START_SLOT slot, .setF F.SYS_START_PHASE 3,
        .when again (.upd fun t => { t with pwr := { t.pwr with secondVerify := some t.clk } }),
        .each (List.range 32) Act.regionInit,
        .topologyApply, .setFab fun f => { f with scrub := true }, .loadIdle]
  | _ => .skip

/-! ### Release -/

/-- R290: a REGS pair is written; one that its register refuses is counted and logged, and release proceeds. -/
def Act.regsPair (e : Nat × Word) : Act := (Act.busWrite .policy e.1 4 (e.2.setWidth 64)).andThen <| .look fun s =>
  .when (s.resp == .error) (.all [.count F.STEP_POL_STATUS_REG_REFUSED, .log 15 0 (leBytes e.1 4 ++ leBytes e.2.toNat 4)])

/-- R287, R290: the contexts of a CONTEXTS section. -/
def Act.policyContexts (l : List Byte) : Act := .each (List.range (sectionRange l).2) fun i =>
  let x := (sectionRange l).1 + i
  .all [.ctxWrite x 0 8 (imgNat l (16 + 16 * i) 8), .ctxWrite x 8 8 (imgNat l (16 + 16 * i + 8) 8)]

/-- R290: REGS, CONTEXTS, ENGINES and the lock, in this order. -/
def Act.policyApply (plain : List Byte) : Act := .silent <| .all [
  .each (imgRegs plain) .regsPair,
  .each (imgSectionsOf plain 3) .policyContexts,
  .each (imgSectionsOf plain 2) fun l => .each (List.range 8) fun e => .setR .ENG_ENTRY (BitVec.ofNat 32 (imgNat l (4 * e) 4)) e,
  .when (match imgSection plain 5 with
    | some l => (byteAt l 2052).testBit 0
    | none => false) .limitLockSet]

/-- R45: SYS.MODE takes the policy image's default, unless it was written since the last module reset. -/
def Act.modeDefault (plain : List Byte) : Act := .look fun s =>
  match imgSection plain 11 with
  | some l => .when (!s.pwr.modeWritten) (.setR .SYS_MODE (BitVec.ofNat 32 (byteAt l 0)))
  | none => .skip

/-- R73, R77, R82: the release bound, as a system clock: 250 ms after t0, 230 ms after a module reset; after a fallback load not before 90 ms
after its verification. -/
def State.releaseBound (s : State) : Nat :=
  let n := s.pwr.startRef + if s.pwr.warm then 37683200 else 40960000
  match s.pwr.secondVerify with
  | some c => max n (c + 14745600)
  | none => n

/-- R73: the condition of release. -/
def State.mayRelease (s : State) : Bool :=
  s.up && !s.released && s.pwr.restored && s.f F.SYS_START_PHASE == 4 &&
  (decide (s.releaseBound ≤ s.clk) ||
    (List.finRange 4).all fun g => s.b F.REF_STATUS_REF_SETTLED g || s.bit F.SYS_PWR_GRP_FAIL g)

/-- SYS.START.RELEASE_TIME, in units of 10 µs. -/
def releaseTime (clocks : Nat) : Nat := min 65535 (clocks * 10 / 16384)

/-- R73, R112, R290: release: every flip-flop of the fabric takes FF_INIT. -/
def Act.releaseNow : Act := .look fun s => .when s.mayRelease <| .all [
  .upd fun s => { s with pwr := { s.pwr with released := true } },
  .setF F.SYS_START_PHASE 5, .setF F.SYS_START_RELEASE_TIME (releaseTime (s.clk - s.pwr.startRef)),
  match s.pol.inForce with
    | some plain => .all [.setF F.SYS_MODE_EFF_FORCE_CAUSE 0, .modeDefault plain, .policyApply plain]
    | none => .setF F.SYS_MODE_EFF_FORCE_CAUSE 3,
  .each (List.range 32) Act.regionInit,
  .wdogReload, .modes, .cmpsFollowAll, .pinRows, .enginesAuto]

/-- R289: an image that is activated while none is in force takes effect at once. -/
def Act.policyAtOnce (img : List Byte) : Act := .look fun s =>
  let plain := s.polPlain (img.take (hdrLength img))
  .all [.policyTake img, .nvLoad, .setF F.SYS_MODE_EFF_FORCE_CAUSE 0, .modeDefault plain, .policyApply plain, .modes,
    .cmpsFollowAll, .pinRows, .enginesAuto]

/-- R288, R289: the checks of the image received, or of the slot to be activated, are complete. -/
def Act.policyVerified : Act := .look fun s =>
  let slot := s.polSlot
  if s.polState = 2 then
    let img := s.pol.buffer.take (hdrLength s.pol.buffer)
    let c := s.polCode img
    if c ≠ 0 then .polEnd c
    else .all [
      .setPol fun p => { p with slots := p.slots.set slot img }, .setBit F.STEP_POL_STATUS_VALID slot, .polEnd 0]
  else if s.polState = 3 then
    let img := s.pol.slots[slot]
    let c := s.polCode img
    if c ≠ 0 then .polEnd c
    else .all [
      .setF F.STEP_POL_STATUS_ACTIVE_SLOT slot, .policyNv (s.polPlain (img.take (hdrLength img))), .polEnd 0,
      .when (s.released && s.f F.SYS_MODE_EFF_FORCE_CAUSE == 3) (.policyAtOnce img)]
  else .skip

/-! ### The commands -/

def execFullLoadVerified (unreadable : Bool) (s : State) := (Act.fullVerified unreadable).done s
def execRelease (s : State) := (Act.ringDone .releaseNow).done s
def execPolicyVerified (s : State) := (Act.ringDone .policyVerified).done s

end Sys2Proof.Machine
end

