-- ==== Sys2Proof/Machine/Logic.lean ====
section
/-! DEFINITION. The fabric's own logic: the level of every wire (R22, R23, R111 to R119, R126), what an edge of a fabric clock
does (R112 to R121), and what the boundary outlets do (R127). -/

namespace Sys2Proof.Machine

/-! ### Wires -/

/-- The kinds of wire that a multiplexer or a LUT drives. -/
inductive NetKind where
  /-- R111, R113: input, LUT output or sum Oj, carry cj, and unit output j of a unit. -/
  | input | comb | carry | unitOut
  /-- R114: an inlet and an outlet of a cluster. -/
  | inlet | outlet
  /-- R115: an avenue track, a hard input, an outbound crossing; R118: an inbound crossing. -/
  | track | hard | outbound | inbound
  /-- R118: a boulevard track, a departure of the die bridge, a boundary outlet. -/
  | boulevard | departure | boundary
deriving DecidableEq, Repr

/-- A wire: its kind, its place (a region r = die × 16 + region, or a die), and its numbers there: for a unit its local number
(cluster × 16 + unit) and the bit or input, for an inlet or outlet its cluster and its number. -/
structure Net where
  kind : NetKind
  place : Nat
  a : Nat
  b : Nat
deriving DecidableEq, Repr

/-- R95, R107: the level that a select gives, each source's level known: the select gates its sources and combines them in an OR; all
zeros drive 0. -/
def selected (w : Nat) (f : Nat → Bool) : Bool :=
  decide (w ≠ 0) && (List.range (w.log2 + 1)).any fun k => w.testBit k && f k

/-- A number read bit by bit. -/
def wiresNat (n : Nat) (f : Nat → Bool) : Nat := ((List.range n).map fun i => (f i).toNat * 2 ^ i).sum

/-- R117: the accumulator of a MAC block, and bit `i` of its output window. -/
def State.macWindow (s : State) (r k i : Nat) : Bool :=
  (tabGet 0 s.fab.acc (r * 4 + k)).testBit (i + 8 * bitsOf (s.regionWord r (1336 + k)).toNat 2 2)

/-- R115: a bit of a region's hard output bus. -/
def State.hardOut (s : State) (r b : Nat) : Bool :=
  if b < 128 then (s.ramOutput r (b / 32)).testBit (b % 32) else s.macWindow r (b / 32 - 4) (b % 32)

/-- The access that drives the register port of a die (R131). -/
def State.portAccess (s : State) (d : Die) : Option PortAccess := s.fab.access[d].head?

/-- R126: the level of boundary source `q` of a die. -/
def State.boundarySource (s : State) (d : Die) (q : Nat) : Bool :=
  let port := fun (f : PortAccess → Bool) => match s.portAccess d with
    | some a => f a
    | none => false
  if q < 40 then
    let t := s.fab.taps[Fin.ofNat 16 (d * 8 + q / 5)]
    s.tapLive d (q / 5) && (if q % 5 = 4 then t.strobe else t.code.testBit (q % 5))
  else if q < 104 then s.cmpF (Fin.ofNat 4 ((q - 40) / 16)) ((q - 40) % 16)
  else if q < 168 then s.bit F.PIN_LEVEL_LEVEL ((q - 104) % 16) ((q - 104) / 16)
  else if q < 184 then s.bit F.PIN_LEVEL_LEVEL (16 + (q - 168) % 4) ((q - 168) / 4)
  else if q < 312 then (s.fab.phases[Fin.ofNat 8 (d * 4 + (q - 184) / 32)]).1.testBit ((q - 184) % 32)
  else if q < 316 then (s.fab.phases[Fin.ofNat 8 (d * 4 + (q - 312))]).2
  else if q < 332 then port fun a => a.addr.testBit (q - 316)
  else if q < 364 then port fun a => a.v.getLsbD (q - 332)
  else if q = 364 then port fun a => a.write && a.pulse == 1
  else if q = 365 then port fun a => !a.write && a.pulse == 1
  else if q = 366 then s.fab.master[d].isSome
  else if q = 367 then s.fab.masterErr[d]
  else false

/-- R27, R119: arrival `n` of the die bridge: what the other die sent, and 0 where the signal has no clock selected. -/
def State.bridgeArrival (s : State) (d n : Nat) : Bool :=
  bitsOf (s.dieWord (1 - d) (5120 + n / 8)).toNat (8 * (n % 8)) 8 != 0 && (tabGet (false, false) s.fab.bridge ((1 - d) * 1024 + n)).2

/-- The level of a wire. A chain of wires is no longer than the fabric has wires; one that is longer runs in a loop, whose level the
spec does not give. -/
def State.net (s : State) : Nat → Net → Bool
  | 0, w => Config.openWire s.clk w.kind.ctorIdx w.place w.a w.b
  | fuel + 1, w =>
    let go := fun (k : NetKind) (p a b : Nat) => s.net fuel ⟨k, p, a, b⟩
    let word := (s.unitWord w.place w.a 1).toNat
    let lut := fun j => (s.unitWord w.place w.a 0).getLsbD (16 * j + wiresNat 4 fun k => go .input w.place w.a (4 * j + k))
    match w.kind with
    | .input =>
      let sel := bitsOf (s.unitWord w.place w.a (20 + w.b / 3)).toNat (18 * (w.b % 3)) 18
      selected (sel / 65536) fun choice => match choice with
      | 0 => selected (s.unitWord w.place w.a (2 + w.b)).toNat fun k => go .unitOut w.place (w.a / 16 * 16 + k / 4) (k % 4)
      | _ => selected (sel % 65536) fun i => go .inlet w.place (w.a / 16) i
    | .comb => match word % 4 with
      | 0 => Bool.xor (lut w.b) (word.testBit 2 && go .carry w.place w.a w.b)
      | 1 => (s.unitWord w.place w.a 0).getLsbD (16 * w.b + wiresNat 4 fun k => go .input w.place w.a k)
      | _ => false
    | .carry => match w.b with
      | 0 => selected (bitsOf word 3 2) fun choice => match choice with
        | 0 => true
        | _ => if w.a = 0 then false
          else if (s.unitWord w.place (w.a - 1) 1).getLsbD 2 then go .carry w.place (w.a - 1) 4
          else Config.openWire s.clk w.kind.ctorIdx w.place w.a 0
      | j + 1 => if lut j then go .carry w.place w.a j else go .input w.place w.a (4 * j)
    | .unitOut => selected (bitsOf (s.unitWord w.place w.a 26).toNat (2 * w.b) 2) fun choice => match choice with
      | 0 => go .comb w.place w.a w.b
      | _ => (tabGet 0 s.fab.ff (w.place * 512 + w.a)).testBit w.b
    | .inlet => selected (s.regionWord w.place (256 + w.a * 16 + w.b)).toNat fun j => go .track w.place (4 * j + w.b % 4) 0
    | .outlet => selected (s.unitWord w.place (w.a * 16 + w.b) 27).toNat fun k => go .unitOut w.place (w.a * 16 + k / 4) (k % 4)
    | .track => selected (s.regionWord w.place w.a).toNat fun j =>
      if j < 32 then go .outlet w.place j (w.a % 8)
      else if j < 48 then go .inbound w.place (w.a % 8 * 16 + (j - 32)) 0
      else s.hardOut w.place (w.a % 16 * 16 + (j - 48))
    | .hard => selected (s.regionWord w.place (768 + w.a)).toNat fun j => go .track w.place (4 * j + w.a % 4) 0
    | .outbound => !s.regionApart w.place &&
      selected (s.regionWord w.place (1204 + w.a)).toNat fun j => go .track w.place (4 * j + w.a % 4) 0
    | .inbound => !s.regionHeld w.place &&
      selected (s.dieWord (w.place / 16) (2048 + w.place % 16 * 128 + w.a)).toNat
        fun j => go .boulevard (w.place / 16) (32 * j + w.a % 32) 0
    | .boulevard => selected (s.dieWord w.place w.a).toNat fun j =>
      let p := 64 * j + w.a % 64
      if p < 2048 then go .outbound (w.place * 16 + p / 128) (p % 128) 0
      else if p < 3072 then s.bridgeArrival w.place (p - 2048)
      else s.boundarySource (Fin.ofNat 2 w.place) (p - 3072)
    | .departure => selected (s.dieWord w.place (4096 + w.a)).toNat fun j => go .boulevard w.place (32 * j + w.a % 32) 0
    | .boundary => selected (s.dieWord w.place (5248 + w.a)).toNat fun j => go .boulevard w.place (32 * j + w.a % 32) 0

/-- More than the wires of the module. -/
def netBound : Nat := 1000000

/-- The level of a wire. -/
def State.wire (s : State) (k : NetKind) (place a : Nat) (b : Nat := 0) : Bool := s.net netBound ⟨k, place, a, b⟩

/-- Consecutive hard inputs of a region, as a number. -/
def State.hardNat (s : State) (r n width : Nat) : Nat := wiresNat width fun i => s.wire .hard r (n + i)

/-- Consecutive boundary outlets of a die, as a number. -/
def State.outletNat (s : State) (d u width : Nat) : Nat := wiresNat width fun i => s.wire .boundary d (u + i)

/-! ### An edge of a fabric clock -/

/-- R112: the flip-flops of a unit after an edge of its clock. -/
def State.ffNext (s : State) (r n : Nat) : Nat :=
  let word := (s.unitWord r n 1).toNat
  let old := tabGet 0 s.fab.ff (r * 512 + n)
  if word.testBit 13 && s.wire .input r n 17 then bitsOf word 8 4
  else if word % 4 != 1 && word.testBit 12 && !s.wire .input r n 16 then old
  else if word % 4 = 2 then (2 * old + (s.wire .input r n 0).toNat) % 16
  else wiresNat 4 fun j => s.wire .comb r n j

/-- R112: the truth tables of a unit in RAM mode after an edge. -/
def State.ramNext (s : State) (r n : Nat) : DWord :=
  let a := wiresNat 4 fun k => s.wire .input r n k
  let w := s.unitWord r n 0
  if s.wire .input r n 16 then
    (List.range 4).foldl (fun w j =>
      let m : DWord := BitVec.ofNat 64 (2 ^ (16 * j + a))
      if s.wire .input r n (4 + j) then w ||| m else w &&& ~~~m) w
  else w

/-- R112: the running units that clock `i` drives, in the regions that run. -/
def State.clockedUnits (s : State) (i : Nat) : List (Nat × Nat) :=
  (List.range 32).flatMap fun r => if s.regionApart r then [] else
    ((s.usedUnits r).filter fun n => (s.unitWord r n 1).getLsbD (16 + i)).map fun n => (r, n)

/-- The hard blocks that clock `i` drives: region, block, by the word that holds the select and its lowest bit. -/
def State.clockedBlocks (s : State) (word lo i : Nat) : List (Nat × Nat) :=
  (List.range 32).flatMap fun r => if s.regionApart r then [] else
    ((List.range 4).filter fun k => (s.regionWord r (word + k)).getLsbD (lo + i)).map fun k => (r, k)

/-- R116: a block RAM's word with the bytes that its write port writes. -/
def State.bramNext (s : State) (r k : Nat) (old : Word) : Word :=
  let n := 58 * k
  (List.range 4).foldl (fun w b =>
    if s.wire .hard r (n + 43 + b) then
      let m : Word := BitVec.ofNat 32 (255 <<< (8 * b))
      (w &&& ~~~m) ||| (BitVec.ofNat 32 (s.hardNat r (n + 10) 32) &&& m)
    else w) old

/-- R117: the value of an operand. -/
def macOperand (isSigned : Bool) (v : Nat) : Int := if isSigned then signed 24 v else (v : Int)

/-- R117: the accumulator after an enabled edge, as 56 bits. -/
def macAcc (load clr sat : Bool) (acc : Nat) (p : Int) : Nat :=
  if clr then 0 else if load then unsigned 56 p
  else
    let x := signed 56 acc + p
    unsigned 56 (if sat then clamp (-(2 ^ 55)) (2 ^ 55 - 1) x else x)

/-- R117: a MAC block at an edge of its clock: operands, product and accumulator each move one stage, where CE is 1. -/
def Act.macEdge (s : State) (r k : Nat) : Act :=
  let n := 232 + 51 * k
  let word := s.regionWord r (1336 + k)
  let key := r * 4 + k
  .when (s.wire .hard r (n + 50)) <| .setFab fun f => { f with
    acc := tabSet 0 f.acc key (macAcc (s.wire .hard r (n + 48)) (s.wire .hard r (n + 49)) (word.getLsbD 4)
      (tabGet 0 s.fab.acc key) (tabGet 0 s.fab.macP key))
    macP := tabSet 0 f.macP key (macOperand (word.getLsbD 0) (tabGet 0 s.fab.macA key) *
      macOperand (word.getLsbD 1) (tabGet 0 s.fab.macB key))
    macA := tabSet 0 f.macA key (s.hardNat r n 24)
    macB := tabSet 0 f.macB key (s.hardNat r (n + 24) 24) }

/-- R116: a block RAM at an edge of its write clock. -/
def Act.ramWriteEdge (s : State) (r k : Nat) : Act :=
  .when (s.wire .hard r (58 * k + 42)) <|
    let key := r * 4096 + k * 1024 + s.hardNat r (58 * k) 10
    .setFab fun f => { f with bram := tabSet 0 f.bram key (s.bramNext r k (tabGet 0 s.fab.bram key)) }

/-- R116: a block RAM at an edge of its read clock: the word read before the write of the same edge; the output register follows it. -/
def Act.ramReadEdge (s : State) (r k : Nat) : Act :=
  let key := r * 4 + k
  .setFab fun f => { f with
    ramOut := tabSet 0 f.ramOut key (tabGet 0 s.fab.ramRead key)
    ramRead := if s.wire .hard r (58 * k + 57) then
        tabSet 0 f.ramRead key (tabGet 0 s.fab.bram (r * 4096 + k * 1024 + s.hardNat r (58 * k + 47) 10)).toNat
      else f.ramRead }

/-- R119: the signals of the bridge that clock `i` registers: their keys, sending die × 1,024 + n. -/
def State.clockedBridge (s : State) (i : Nat) : List Nat :=
  (List.range 2).flatMap fun d => (List.range 128).flatMap fun w =>
    let word := s.dieWord d (5120 + w)
    if word = 0 then [] else
      ((List.range 8).filter fun b => word.getLsbD (8 * b + i)).map fun b => d * 1024 + 8 * w + b

/-- R128 to R130, R167: a tap at an edge of its clock. A modulator sample is taken every 16 system clocks; its code arrives 14 system clocks
later and passes two synchronising stages. A sample that the tap has not presented comes with STROBE 1 for this cycle. -/
def State.tapNext (s : State) (d : Die) (t : Nat) : TapSt :=
  let old := s.fab.taps[Fin.ofNat 16 (d * 8 + t)]
  let m := s.tapModulator d t
  let now := (s.clk - 14) / 16
  let x := { old with first := (now, s.modCode m.1 m.2 now), second := old.first, strobe := false }
  if old.second.1 = old.sample ∨ old.second.1 + 4 < now then x
  else { x with sample := old.second.1, code := old.second.2.toNat, strobe := true, spare := m.2 == 8 }

/-- R129, R130: a tap takes its next code; the first code of another modulator that the tap follows its converter to sets SWITCHED. -/
def Act.tapEdge (d : Die) (t : Nat) : Act := .look fun s =>
  let i := Fin.ofNat 16 (d.val * 8 + t)
  let x := s.tapNext d t
  .all [
    .when (x.strobe && s.b F.FAB_TAP_FOLLOW d t && x.spare != s.fab.taps[i].spare) (.setBit F.FAB_TAP_STATUS_SWITCHED t d),
    .setFab fun f => { f with taps := f.taps.set i x }]

/-- R126: a tracker's phase bits 47 to 16. -/
def State.trkBits (s : State) (k : Nat) : Nat :=
  bitsOf (s.f F.TRK_PHASE_LO_PHASE k + 2 ^ 32 * s.f F.TRK_PHASE_HI_PHASE k) 16 32

/-- R126, R131: the port clock of a die: the tracker phases move together; WR or RD is 1 for one cycle; M_ERR falls. -/
def Act.portEdge (d : Die) : Act := .look fun s => .all [
  .each (List.range 4) fun k =>
    let x := s.trkBits k
    let i := Fin.ofNat 8 (d * 4 + k)
    .setFab fun f => { f with phases := f.phases.set i (x, decide (x ≠ f.phases[i].1)) },
  .setFab fun f => { f with
    masterErr := f.masterErr.set d false, portEdges := f.portEdges.set d (f.portEdges[d] + 1)
    access := f.access.set d (match f.access[d] with
      | [] => []
      | a :: l => { a with pulse := min 2 (a.pulse + 1) } :: l) }]

/-- R131, R132: what the port outlets say at a port-clock edge: `s` is the state before it. -/
def Act.portOutlets (s : State) (d : Die) : Act := .all [
  .when (decide ((s.portAccess d).any fun a => decide (1 ≤ a.pulse)) && s.wire .boundary d 200)
    (.all [.userReady d (BitVec.ofNat 32 (s.outletNat d 168 32)), .collect]),
  .when (s.wire .boundary d 290)
    (.masterPulse d (s.outletNat d 201 24) (BitVec.ofNat 64 (s.outletNat d 225 64)) (s.wire .boundary d 289))]

/-- R112, R116 to R119, R126, R129, R133: an edge of a fabric clock: every element on it moves at once; a capture that has this clock for
its reference takes the values of this edge. -/
def Act.fclkEdge (i : Fclk) : Act := .look fun s => .all [
  .each (s.clockedUnits i) fun e => .setFab fun f => { f with
    ff := tabSet 0 f.ff (e.1 * 512 + e.2) (s.ffNext e.1 e.2)
    cfg := if s.unitMode e.1 e.2 = 1 then tabSet 0 f.cfg (regionKey e.1 (e.2 * 31)) (s.ramNext e.1 e.2) else f.cfg },
  .each (s.clockedBlocks 1332 0 i) fun e => .ramWriteEdge s e.1 e.2,
  .each (s.clockedBlocks 1332 8 i) fun e => .ramReadEdge s e.1 e.2,
  .each (s.clockedBlocks 1336 8 i) fun e => .macEdge s e.1 e.2,
  .each (s.clockedBridge i) fun k => .setFab fun f => { f with
    bridge := tabSet (false, false) f.bridge k (s.wire .departure (k / 1024) (k % 1024), (tabGet (false, false) s.fab.bridge k).1) },
  .each (List.finRange 2) fun d => .each (List.range 8) fun t =>
    .when (s.tapLive d t && s.f F.FAB_TAP_CLK d t == i.val) (.tapEdge d t),
  .each (List.finRange 2) fun d => .when (s.f F.FAB_PORT_CLK d == i.val) (.all [.portEdge d, .portOutlets s d]),
  .look fun t => match t.fab.capture with
    | some c => .when (c.clk == i.val && (t.f F.FAB_CAP_STATUS_STATE != 1 || decide (c.at_ + 5 ≤ t.clk))) (.captureEdge true)
    | none => .skip]

/-- R120: the edges of a fabric clock in one system clock: fout / 163.84 MHz is (N + F / 65,536) / (8 × M). -/
def Act.fclkTurn (i : Fclk) : Act := .look fun s => .when (s.fclkLocked i) <|
  let div := 524288 * synthDiv (s.synthWord i)
  let p := s.fab.phase[i] + synthRate (s.synthWord i)
  .all [
    .setFab fun f => { f with phase := f.phase.set i (if div = 0 then 0 else p % div) },
    .each (List.range (min 2 (p / div))) fun _ => .fclkEdge i]

/-! ### The outlets on the system clock -/

/-- R127: the outlets of a die that the supervisor samples on the system clock and that may not rest at 0. -/
def State.sampledOutlets (s : State) (d : Nat) : List Nat :=
  (List.range 168 ++ [291]).filter fun u =>
    s.dieWord d (5248 + u) != 0 || tabGet (false, false) s.fab.sync (d * 1024 + u) != (false, false)

/-- R127: a single-bit outlet after its two synchronising stages. -/
def State.outlet (s : State) (d u : Nat) : Bool := (tabGet (false, false) s.fab.sync (d * 1024 + u)).2

/-- R127: the synchronising stages move. -/
def Act.syncOutlets : Act := .look fun s =>
  .each (List.range 2) fun d => .each (s.sampledOutlets d) fun u => .setFab fun f => { f with
    sync := tabSet (false, false) f.sync (d * 1024 + u)
      (s.wire .boundary d u, (tabGet (false, false) s.fab.sync (d * 1024 + u)).1) }

/-- R127: what a die drives on a pin: none where the enable outlet is 0. -/
def State.outletDrive (s : State) (d g : Nat) (p : Pin) : Option Bool :=
  let drive := if p.val < 16 then g * 16 + p else 128 + g * 4 + (p - 16)
  let enable := if p.val < 16 then 64 + g * 16 + p else 144 + g * 4 + (p - 16)
  if s.outlet d enable then some (s.outlet d drive) else none

/-- R127: the pins of a group follow the outlets. -/
def Act.pinOutlets (g : Grp) : Act := .each (List.finRange 20) fun p => .look fun s =>
  let x := s.outletDrive 0 g p
  let y := s.outletDrive 1 g p
  .when (s.alive g && decide (x ≠ (s.pin g p).fab0 ∨ y ≠ (s.pin g p).fab1))
    (.all [.setPin g p fun q => { q with fab0 := x, fab1 := y }, .pinRefresh g p])

/-- R127: pins, doorbells and the capture trigger follow the outlets; a doorbell that both dies ring in one clock rings once. -/
def Act.outletsTurn : Act := .look fun s => .when s.released (.all [
  .syncOutlets,
  .each (List.finRange 4) .pinOutlets,
  .each (List.finRange 8) fun e => .look fun t =>
    .when ((List.range 2).any fun d => t.outlet d (160 + e) && !s.outlet d (160 + e)) (.ring e),
  .look fun t => .captureTrigger (t.outlet 0 291 || t.outlet 1 291)])

/-- One system clock of the fabric: writes of the master ports that still wait are carried out, die 0 first (R132), and the clocks turn. -/
def Act.fabricTurn : Act := .look fun s => .when s.released (.all [
  .each (List.finRange 2) .masterTurn, .each (List.finRange 8) .fclkTurn, .outletsTurn])

end Sys2Proof.Machine
end

