-- ==== Sys2Proof/Machine/Ticks.lean ====
section
/-! DEFINITION. One system clock (R20): what happens in the module when no command waits. -/

namespace Sys2Proof.Machine

/-- R302: a DDS engine advances at each edge of the 100 MHz conversion clock, 625 in 1,024 system clocks. -/
def conversionEdges (clk : Nat) : Nat := (clk + 1) * 625 / 1024 - clk * 625 / 1024

/-- A system clock: what waits for its last moment acts, the trip logic (R30) and the requests of R467; module time and the DDS engines advance (R216, R302), the analogue side of
the groups and the modulators turn (R146 to R173), the trackers present their phases (R228), points gathered become decisions (R254), the
fabric's clocks turn (R120), and what waited is settled. -/
def Act.tick : Act := .look fun s => .when (s.pwr.life != .off && s.pwr.life != .collapsed) (.all [
  .when s.up (.all [.limitsTurn, .converters .cvEdge, .groups .moveEdge]),
  .upd State.clockTurn,
  .each (List.finRange 4) fun g => .each (List.finRange 4) fun e => .ddsAdvance g e (conversionEdges s.clk),
  .groups .analogTurn,
  .when s.up (.all [.ptpTurn, .groups .modEdge, .trksPresent, .gathered, .fabricTurn, .autoLoad, .settleOnce, .modes])])

end Sys2Proof.Machine
end

