-- ==== Sys2Proof/Machine/Dispatch.lean ====
section
/-! DEFINITION. The dispatch: one arm per command of the table, each a direct call of its meaning. -/

namespace Sys2Proof.Machine

def exec (i : Instr) (s : State) : Host.Outcome State Fault Refusal :=
  match i with
  | .supplyPowerOn head addr => Sys2Proof.Machine.execSupplyPowerOn head addr s
  | .supervisorUp => Sys2Proof.Machine.execSupervisorUp s
  | .groupSupplyStart g => Sys2Proof.Machine.execGroupSupplyStart g s
  | .groupAlive g => Sys2Proof.Machine.execGroupAlive g s
  | .nvGateClose g o => Sys2Proof.Machine.execNvGateClose g o s
  | .intSettledTimer g => Sys2Proof.Machine.execIntSettledTimer g s
  | .reducedServiceStart => Sys2Proof.Machine.execReducedServiceStart s
  | .fullLoadFrame unreadable => Sys2Proof.Machine.execFullLoadFrame unreadable s
  | .fallbackLoadStart => Sys2Proof.Machine.execFallbackLoadStart s
  | .fullLoadVerified unreadable => Sys2Proof.Machine.execFullLoadVerified unreadable s
  | .coeffRestoreDone => Sys2Proof.Machine.execCoeffRestoreDone s
  | .release => Sys2Proof.Machine.execRelease s
  | .vinFall => Sys2Proof.Machine.execVinFall s
  | .dipDetected => Sys2Proof.Machine.execDipDetected s
  | .dipEnd micros => Sys2Proof.Machine.execDipEnd micros s
  | .powerFailStart => Sys2Proof.Machine.execPowerFailStart s
  | .railsCollapse => Sys2Proof.Machine.execRailsCollapse s
  | .powerFailRestart head addr => Sys2Proof.Machine.execPowerFailRestart head addr s
  | .vinHighRise millivolts => Sys2Proof.Machine.execVinHighRise millivolts s
  | .groupRailFail g rails => Sys2Proof.Machine.execGroupRailFail g rails s
  | .groupLost g => Sys2Proof.Machine.execGroupLost g s
  | .groupRestart g => Sys2Proof.Machine.execGroupRestart g s
  | .vfldLow g => Sys2Proof.Machine.execVfldLow g s
  | .moduleReset src v => Sys2Proof.Machine.execModuleReset src v s
  | .fabricReset src v => Sys2Proof.Machine.execFabricReset src v s
  | .groupReset src v => Sys2Proof.Machine.execGroupReset src v s
  | .sysModeWrite src v => Sys2Proof.Machine.execSysModeWrite src v s
  | .reducedExitRestart g n => Sys2Proof.Machine.execReducedExitRestart g n s
  | .cfgRegionLoad src v => Sys2Proof.Machine.execCfgRegionLoad src v s
  | .cfgFlashProgram src v => Sys2Proof.Machine.execCfgFlashProgram src v s
  | .cfgAbort src v => Sys2Proof.Machine.execCfgAbort src v s
  | .cfgEndOfSource src v => Sys2Proof.Machine.execCfgEndOfSource src v s
  | .cfgDataWrite src v => Sys2Proof.Machine.execCfgDataWrite src v s
  | .streamStopped => Sys2Proof.Machine.execStreamStopped s
  | .regionStreamStaged unreadable => Sys2Proof.Machine.execRegionStreamStaged unreadable s
  | .regionStreamChecked => Sys2Proof.Machine.execRegionStreamChecked s
  | .regionLoadWritten => Sys2Proof.Machine.execRegionLoadWritten s
  | .programmedCopyVerified unreadable => Sys2Proof.Machine.execProgrammedCopyVerified unreadable s
  | .cfgHoldWrite src v => Sys2Proof.Machine.execCfgHoldWrite src v s
  | .cfgBootWrite src v => Sys2Proof.Machine.execCfgBootWrite src v s
  | .keyRevoke src v => Sys2Proof.Machine.execKeyRevoke src v s
  | .scrubWord region word flips last => Sys2Proof.Machine.execScrubWord region word flips last s
  | .fclkLock clk => Sys2Proof.Machine.execFclkLock clk s
  | .fclkLost clk => Sys2Proof.Machine.execFclkLost clk s
  | .bramEccEvent region k word double => Sys2Proof.Machine.execBramEccEvent region k word double s
  | .userRegisterAccess src d write a v => Sys2Proof.Machine.execUserRegisterAccess src d write a v s
  | .userRegisterReady d rdata => Sys2Proof.Machine.execUserRegisterReady d rdata s
  | .userRegisterTimeout d => Sys2Proof.Machine.execUserRegisterTimeout d s
  | .masterPortWrite d addr v wide => Sys2Proof.Machine.execMasterPortWrite d addr v wide s
  | .doorbellOutletRise d e => Sys2Proof.Machine.execDoorbellOutletRise d e s
  | .tapConfigWrite src d t v => Sys2Proof.Machine.execTapConfigWrite src d t v s
  | .captureStart src v => Sys2Proof.Machine.execCaptureStart src v s
  | .captureArm src v => Sys2Proof.Machine.execCaptureArm src v s
  | .captureTrigger => Sys2Proof.Machine.execCaptureTrigger s
  | .captureSnapshot => Sys2Proof.Machine.execCaptureSnapshot s
  | .captureNoClock => Sys2Proof.Machine.execCaptureNoClock s
  | .inpModeWrite src g ain v => Sys2Proof.Machine.execInpModeWrite src g ain v s
  | .limiterEntry g ain => Sys2Proof.Machine.execLimiterEntry g ain s
  | .limiterFoldback g ain enter => Sys2Proof.Machine.execLimiterFoldback g ain enter s
  | .cellCommit src g v => Sys2Proof.Machine.execCellCommit src g v s
  | .cellHandover g => Sys2Proof.Machine.execCellHandover g s
  | .trackDriverConnect g => Sys2Proof.Machine.execTrackDriverConnect g s
  | .cellHandoverReported g => Sys2Proof.Machine.execCellHandoverReported g s
  | .cellCtlChange g c level => Sys2Proof.Machine.execCellCtlChange g c level s
  | .cellClipEntry g c => Sys2Proof.Machine.execCellClipEntry g c s
  | .overloadDeclare g n positive => Sys2Proof.Machine.execOverloadDeclare g n positive s
  | .overloadEventEnd g n => Sys2Proof.Machine.execOverloadEventEnd g n s
  | .windowOpen g n => Sys2Proof.Machine.execWindowOpen g n s
  | .converterOutput g n x => Sys2Proof.Machine.execConverterOutput g n x s
  | .sequenceHandoverReported g n => Sys2Proof.Machine.execSequenceHandoverReported g n s
  | .cvCommit src g n v => Sys2Proof.Machine.execCvCommit src g n v s
  | .cvEnable src g n v => Sys2Proof.Machine.execCvEnable src g n v s
  | .cvDisable src g n v => Sys2Proof.Machine.execCvDisable src g n v s
  | .cvIlvWrite src g n v => Sys2Proof.Machine.execCvIlvWrite src g n v s
  | .seqStart src g n => Sys2Proof.Machine.execSeqStart src g n s
  | .seqAdvance src g n => Sys2Proof.Machine.execSeqAdvance src g n s
  | .injectRequest src g n slots => Sys2Proof.Machine.execInjectRequest src g n slots s
  | .injectAct g n => Sys2Proof.Machine.execInjectAct g n s
  | .injectedOutput g n x => Sys2Proof.Machine.execInjectedOutput g n x s
  | .injectCancel src g n slots => Sys2Proof.Machine.execInjectCancel src g n slots s
  | .refSelWrite src g v => Sys2Proof.Machine.execRefSelWrite src g v s
  | .timeStepWrite src v => Sys2Proof.Machine.execTimeStepWrite src v s
  | .timeRateWrite src v => Sys2Proof.Machine.execTimeRateWrite src v s
  | .timeCtrlWrite src v => Sys2Proof.Machine.execTimeCtrlWrite src v s
  | .ptpMessageReceive m => Sys2Proof.Machine.execPtpMessageReceive m s
  | .ptpHoldoverTimeout => Sys2Proof.Machine.execPtpHoldoverTimeout s
  | .ptpCfgWrite src v => Sys2Proof.Machine.execPtpCfgWrite src v s
  | .ptpDelayReqSend => Sys2Proof.Machine.execPtpDelayReqSend s
  | .timePacketSend => Sys2Proof.Machine.execTimePacketSend s
  | .timePacketReceive port p => Sys2Proof.Machine.execTimePacketReceive port p s
  | .ringTimeHoldover => Sys2Proof.Machine.execRingTimeHoldover s
  | .linkDelayMeasure port => Sys2Proof.Machine.execLinkDelayMeasure port s
  | .ppsOutRise => Sys2Proof.Machine.execPpsOutRise s
  | .ppsOutFall => Sys2Proof.Machine.execPpsOutFall s
  | .ppsInEdge => Sys2Proof.Machine.execPpsInEdge s
  | .trackerEnable src k v => Sys2Proof.Machine.execTrackerEnable src k v s
  | .trackerSourceEvent k ev => Sys2Proof.Machine.execTrackerSourceEvent k ev s
  | .trackerHoldEntry k => Sys2Proof.Machine.execTrackerHoldEntry k s
  | .trackerHoldTimeout k => Sys2Proof.Machine.execTrackerHoldTimeout k s
  | .encoderFailsafeLost k => Sys2Proof.Machine.execEncoderFailsafeLost k s
  | .encoderStopTimeout k => Sys2Proof.Machine.execEncoderStopTimeout k s
  | .homeNow src k v => Sys2Proof.Machine.execHomeNow src k v s
  | .homeArm src k v => Sys2Proof.Machine.execHomeArm src k v s
  | .homeDisarm src k v => Sys2Proof.Machine.execHomeDisarm src k v s
  | .contextArmingWrite src x v wide => Sys2Proof.Machine.execContextArmingWrite src x v wide s
  | .contextDisarm src x v wide => Sys2Proof.Machine.execContextDisarm src x v wide s
  | .contextJudge => Sys2Proof.Machine.execContextJudge s
  | .schedHoldEnd => Sys2Proof.Machine.execSchedHoldEnd s
  | .decisionIssue => Sys2Proof.Machine.execDecisionIssue s
  | .completionRecord => Sys2Proof.Machine.execCompletionRecord s
  | .schedMark => Sys2Proof.Machine.execSchedMark s
  | .schedRepeatWrite src entry v => Sys2Proof.Machine.execSchedRepeatWrite src entry v s
  | .schedTrkWrite src k cfg v => Sys2Proof.Machine.execSchedTrkWrite src k cfg v s
  | .stepNop e => Sys2Proof.Machine.execStepNop e s
  | .stepHalt e => Sys2Proof.Machine.execStepHalt e s
  | .stepMovi e => Sys2Proof.Machine.execStepMovi e s
  | .stepMov e => Sys2Proof.Machine.execStepMov e s
  | .stepAdd e => Sys2Proof.Machine.execStepAdd e s
  | .stepScale e => Sys2Proof.Machine.execStepScale e s
  | .stepLoad e => Sys2Proof.Machine.execStepLoad e s
  | .stepWr e => Sys2Proof.Machine.execStepWr e s
  | .stepWri e => Sys2Proof.Machine.execStepWri e s
  | .stepCmp e => Sys2Proof.Machine.execStepCmp e s
  | .stepCmpt e => Sys2Proof.Machine.execStepCmpt e s
  | .stepSetf e => Sys2Proof.Machine.execStepSetf e s
  | .stepBr e => Sys2Proof.Machine.execStepBr e s
  | .stepCall e => Sys2Proof.Machine.execStepCall e s
  | .stepRet e => Sys2Proof.Machine.execStepRet e s
  | .stepStart e => Sys2Proof.Machine.execStepStart e s
  | .stepInject e => Sys2Proof.Machine.execStepInject e s
  | .stepAdvance e => Sys2Proof.Machine.execStepAdvance e s
  | .stepRing e => Sys2Proof.Machine.execStepRing e s
  | .stepClock e => Sys2Proof.Machine.execStepClock e s
  | .doorbellRing e => Sys2Proof.Machine.execDoorbellRing e s
  | .stepDoorbellWrite src v => Sys2Proof.Machine.execStepDoorbellWrite src v s
  | .engineRun src e v => Sys2Proof.Machine.execEngineRun src e v s
  | .engineHalt src e v => Sys2Proof.Machine.execEngineHalt src e v s
  | .stepFlagWrite src set v => Sys2Proof.Machine.execStepFlagWrite src set v s
  | .stepMemoryWrite src w v half => Sys2Proof.Machine.execStepMemoryWrite src w v half s
  | .monitorStale m => Sys2Proof.Machine.execMonitorStale m s
  | .trippedClear src w v => Sys2Proof.Machine.execTrippedClear src w v s
  | .monitorWrite src m reg v => Sys2Proof.Machine.execMonitorWrite src m reg v s
  | .limitLock src v => Sys2Proof.Machine.execLimitLock src v s
  | .safePinLow => Sys2Proof.Machine.execSafePinLow s
  | .safeEnterWrite src v => Sys2Proof.Machine.execSafeEnterWrite src v s
  | .safeRelease src v => Sys2Proof.Machine.execSafeRelease src v s
  | .safeCauseClear src v => Sys2Proof.Machine.execSafeCauseClear src v s
  | .watchdogKick src v => Sys2Proof.Machine.execWatchdogKick src v s
  | .watchdogExpiry => Sys2Proof.Machine.execWatchdogExpiry s
  | .wdogWrite src v => Sys2Proof.Machine.execWdogWrite src v s
  | .policyProgram src v => Sys2Proof.Machine.execPolicyProgram src v s
  | .policyActivate src v => Sys2Proof.Machine.execPolicyActivate src v s
  | .policyAbort src v => Sys2Proof.Machine.execPolicyAbort src v s
  | .policyEndOfSource src v => Sys2Proof.Machine.execPolicyEndOfSource src v s
  | .polDataWrite src v => Sys2Proof.Machine.execPolDataWrite src v s
  | .policyVerified => Sys2Proof.Machine.execPolicyVerified s
  | .dacValueWrite src g o v => Sys2Proof.Machine.execDacValueWrite src g o v s
  | .dacCfgWrite src g o v => Sys2Proof.Machine.execDacCfgWrite src g o v s
  | .rangeChangeStep g o => Sys2Proof.Machine.execRangeChangeStep g o s
  | .nvRangeWrite src g o v => Sys2Proof.Machine.execNvRangeWrite src g o v s
  | .ddsApply src g e v => Sys2Proof.Machine.execDdsApply src g e v s
  | .ddsHandover g e => Sys2Proof.Machine.execDdsHandover g e s
  | .ddsEnableWrite src g e v => Sys2Proof.Machine.execDdsEnableWrite src g e v s
  | .ddsFollowUpdate g e => Sys2Proof.Machine.execDdsFollowUpdate g e s
  | .monitorReading g x ovr => Sys2Proof.Machine.execMonitorReading g x ovr s
  | .rbFaultClear src g o v => Sys2Proof.Machine.execRbFaultClear src g o v s
  | .spareCoreReq src g v => Sys2Proof.Machine.execSpareCoreReq src g v s
  | .spareCoreSwitch g => Sys2Proof.Machine.execSpareCoreSwitch g s
  | .spareCoreReturn src g v => Sys2Proof.Machine.execSpareCoreReturn src g v s
  | .cmpCfgWrite src g k v => Sys2Proof.Machine.execCmpCfgWrite src g k v s
  | .cmpThresholdWrite src g k hyst v => Sys2Proof.Machine.execCmpThresholdWrite src g k hyst v s
  | .cmpRawChange g k x => Sys2Proof.Machine.execCmpRawChange g k x s
  | .cmpFilterChange g k => Sys2Proof.Machine.execCmpFilterChange g k s
  | .pinFuncWrite src g p v => Sys2Proof.Machine.execPinFuncWrite src g p v s
  | .pinOutWrite src g v => Sys2Proof.Machine.execPinOutWrite src g v s
  | .pinOutSet src g v => Sys2Proof.Machine.execPinOutSet src g v s
  | .pinOutClr src g v => Sys2Proof.Machine.execPinOutClr src g v s
  | .pinOutTgl src g v => Sys2Proof.Machine.execPinOutTgl src g v s
  | .pinLockWrite src g v => Sys2Proof.Machine.execPinLockWrite src g v s
  | .fieldOverload g p => Sys2Proof.Machine.execFieldOverload g p s
  | .fieldRetry g p failedAgain => Sys2Proof.Machine.execFieldRetry g p failedAgain s
  | .pairFailsafe g d => Sys2Proof.Machine.execPairFailsafe g d s
  | .calRun src g v => Sys2Proof.Machine.execCalRun src g v s
  | .calBackgroundStart g cls target => Sys2Proof.Machine.execCalBackgroundStart g cls target s
  | .calReading g value ovr => Sys2Proof.Machine.execCalReading g value ovr s
  | .calSetStored g good => Sys2Proof.Machine.execCalSetStored g good s
  | .calAbort src g v => Sys2Proof.Machine.execCalAbort src g v s
  | .calFactory src g v => Sys2Proof.Machine.execCalFactory src g v s
  | .calRefDeclWrite src g v => Sys2Proof.Machine.execCalRefDeclWrite src g v s
  | .calHoursTick => Sys2Proof.Machine.execCalHoursTick s
  | .xtalDeviationUpdate mean => Sys2Proof.Machine.execXtalDeviationUpdate mean s
  | .harbourPush src b h v => Sys2Proof.Machine.execHarbourPush src b h v s
  | .harbourPushEnd src b h v => Sys2Proof.Machine.execHarbourPushEnd src b h v s
  | .harbourPop src b h ecc => Sys2Proof.Machine.execHarbourPop src b h ecc s
  | .harbourPeek src b h ecc => Sys2Proof.Machine.execHarbourPeek src b h ecc s
  | .dropRest src b v => Sys2Proof.Machine.execDropRest src b v s
  | .pointerCrossing b producer => Sys2Proof.Machine.execPointerCrossing b producer s
  | .gapMarkWrite b => Sys2Proof.Machine.execGapMarkWrite b s
  | .fabricDelivery b ready => Sys2Proof.Machine.execFabricDelivery b ready s
  | .berthCfgWrite src b v => Sys2Proof.Machine.execBerthCfgWrite src b v s
  | .berthSizeWrite src b v => Sys2Proof.Machine.execBerthSizeWrite src b v s
  | .berthWaterWrite src b v => Sys2Proof.Machine.execBerthWaterWrite src b v s
  | .dmaStart src c v => Sys2Proof.Machine.execDmaStart src c v s
  | .dmaAbort src c v => Sys2Proof.Machine.execDmaAbort src c v s
  | .dmaUndrained c => Sys2Proof.Machine.execDmaUndrained c s
  | .dmaTrigger src c => Sys2Proof.Machine.execDmaTrigger src c s
  | .dmaRateWrite src c v => Sys2Proof.Machine.execDmaRateWrite src c v s
  | .dmaDescriptorFetch c words => Sys2Proof.Machine.execDmaDescriptorFetch c words s
  | .dmaBurstIssue => Sys2Proof.Machine.execDmaBurstIssue s
  | .dmaBurstComplete tag ok data => Sys2Proof.Machine.execDmaBurstComplete tag ok data s
  | .dmaStatusWriteback c ok => Sys2Proof.Machine.execDmaStatusWriteback c ok s
  | .dmaTransactionTimeout tag => Sys2Proof.Machine.execDmaTransactionTimeout tag s
  | .ringPacketReceive port words => Sys2Proof.Machine.execRingPacketReceive port words s
  | .ringAck port cls lseq => Sys2Proof.Machine.execRingAck port cls lseq s
  | .ringNak port cls lseq => Sys2Proof.Machine.execRingNak port cls lseq s
  | .ringRetryTimeout port cls => Sys2Proof.Machine.execRingRetryTimeout port cls s
  | .ringRequestTimeout tag => Sys2Proof.Machine.execRingRequestTimeout tag s
  | .linkPause port => Sys2Proof.Machine.execLinkPause port s
  | .linkDown port => Sys2Proof.Machine.execLinkDown port s
  | .linkTrained port width partner => Sys2Proof.Machine.execLinkTrained port width partner s
  | .laneFailRetrain port width => Sys2Proof.Machine.execLaneFailRetrain port width s
  | .bypassClose => Sys2Proof.Machine.execBypassClose s
  | .censusSend => Sys2Proof.Machine.execCensusSend s
  | .ringMapBroadcast order closed => Sys2Proof.Machine.execRingMapBroadcast order closed s
  | .regRead origin tag off => Sys2Proof.Machine.execRegRead origin tag off s
  | .logRead origin tag seq => Sys2Proof.Machine.execLogRead origin tag seq s
  | .maintSafe origin tag => Sys2Proof.Machine.execMaintSafe origin tag s
  | .maintRegionReset origin tag arg => Sys2Proof.Machine.execMaintRegionReset origin tag arg s
  | .maintCapture origin tag arg => Sys2Proof.Machine.execMaintCapture origin tag arg s
  | .maintModuleReset origin tag arg => Sys2Proof.Machine.execMaintModuleReset origin tag arg s
  | .maintDmaAbort origin tag arg => Sys2Proof.Machine.execMaintDmaAbort origin tag arg s
  | .delayReq port t1 => Sys2Proof.Machine.execDelayReq port t1 s
  | .delayResp port t1 t2 t3 => Sys2Proof.Machine.execDelayResp port t1 t2 t3 s
  | .census port members => Sys2Proof.Machine.execCensus port members s
  | .map port seq head order closed => Sys2Proof.Machine.execMap port seq head order closed s
  | .eventMaskChange => Sys2Proof.Machine.execEventMaskChange s
  | .eventApply m mask seq => Sys2Proof.Machine.execEventApply m mask seq s
  | .evtAck src v => Sys2Proof.Machine.execEvtAck src v s
  | .mntCmd src v => Sys2Proof.Machine.execMntCmd src v s
  | .hostAccess m off bytes write v => Sys2Proof.Machine.execHostAccess m off bytes write v s
  | .hostBusMaster ok data => Sys2Proof.Machine.execHostBusMaster ok data s
  | .pcieFlr => Sys2Proof.Machine.execPcieFlr s
  | .ethFrameReceive f => Sys2Proof.Machine.execEthFrameReceive f s
  | .logEntryQueue kind subject parts => Sys2Proof.Machine.execLogEntryQueue kind subject parts s
  | .logEntryCommit => Sys2Proof.Machine.execLogEntryCommit s
  | .logSelWrite src v => Sys2Proof.Machine.execLogSelWrite src v s
  | .convDeclare src g v => Sys2Proof.Machine.execConvDeclare src g v s
  | .convClear src g v => Sys2Proof.Machine.execConvClear src g v s
  | .convDecimCheck g n => Sys2Proof.Machine.execConvDecimCheck g n s
  | .convUnserved g n => Sys2Proof.Machine.execConvUnserved g n s
  | .sparePromotion g => Sys2Proof.Machine.execSparePromotion g s
  | .sparePromote src g v => Sys2Proof.Machine.execSparePromote src g v s
  | .spareReturn src g v => Sys2Proof.Machine.execSpareReturn src g v s
  | .coreClear src g v => Sys2Proof.Machine.execCoreClear src g v s
  | .relocStart src v => Sys2Proof.Machine.execRelocStart src v s
  | .relocAbort src v => Sys2Proof.Machine.execRelocAbort src v s
  | .relocCopyDone => Sys2Proof.Machine.execRelocCopyDone s
  | .relocStalled => Sys2Proof.Machine.execRelocStalled s
  | .relocHandover => Sys2Proof.Machine.execRelocHandover s
  | .relocRetire => Sys2Proof.Machine.execRelocRetire s
  | .autoReloc r => Sys2Proof.Machine.execAutoReloc r s
  | .regionReset src v => Sys2Proof.Machine.execRegionReset src v s
  | .unretire src v => Sys2Proof.Machine.execUnretire src v s
  | .pairHeartbeat answer => Sys2Proof.Machine.execPairHeartbeat answer s
  | .pairMirrorWrite off v acked => Sys2Proof.Machine.execPairMirrorWrite off v acked s
  | .pairRoleDecide answer => Sys2Proof.Machine.execPairRoleDecide answer s
  | .takeover => Sys2Proof.Machine.execTakeover s
  | .pairSwap src v => Sys2Proof.Machine.execPairSwap src v s
  | .pairYieldSeen => Sys2Proof.Machine.execPairYieldSeen s
  | .registerWrite src off v => Sys2Proof.Machine.execRegisterWrite src off v s
  | .safePinHigh => Sys2Proof.Machine.execSafePinHigh s
  | .vinHighFall => Sys2Proof.Machine.execVinHighFall s
  | .vfldReturn g => Sys2Proof.Machine.execVfldReturn g s
  | .limiterExit g ain => Sys2Proof.Machine.execLimiterExit g ain s
  | .cellClipExit g c => Sys2Proof.Machine.execCellClipExit g c s
  | .pinLevelChange g p level => Sys2Proof.Machine.execPinLevelChange g p level s
  | .encoderValidLock k => Sys2Proof.Machine.execEncoderValidLock k s
  | .ddsSampleClip g e => Sys2Proof.Machine.execDdsSampleClip g e s
  | .pcieConfigWrite w => Sys2Proof.Machine.execPcieConfigWrite w s
  | .pcieLinkChange up speed width => Sys2Proof.Machine.execPcieLinkChange up speed width s
  | .pcieReset => Sys2Proof.Machine.execPcieReset s
  | .ethLinkChange up mdix => Sys2Proof.Machine.execEthLinkChange up mdix s

end Sys2Proof.Machine
end

