-- ==== Sys2Proof/Safety.lean ====
section
/-! DEFINITION. What counts as a safe run, and the terms in which the statements speak of a command's effect. -/

namespace Sys2Proof.Machine

/-! ### Safe runs -/

/-- A step that answers a next state. -/
def State.steps (s t : State) : Prop := step s = .next t

/-- R11, R81: the machine's stores are in their canonical form, no register has a reserved bit set, and no register, byte or berth
outside the window is stored. -/
abbrev State.Safe (s : State) : Prop := s.Wf

/-- A run of `k` steps that neither stops nor leaves the safe states. -/
def State.runs : Nat → State → Prop
  | 0, s => s.Safe
  | k + 1, s => s.Safe ∧ ∃ t, s.steps t ∧ t.runs k

/-! ### How a command answers -/

/-- The command answers a next state, of which `P` holds. -/
def Answers (c : Instr) (s : State) (P : State → Prop) : Prop := ∃ t, exec c s = .next t ∧ P t

/-- The command answers a next state: the evaluation of the in-force set (R44, R47), which follows its effect, applied to a state of
which `P` holds. -/
def AnswersThenModes (c : Instr) (s : State) (P : State → Prop) : Prop := ∃ u, exec c s = .next (Act.modes.run u) ∧ P u

/-- The command answers a next state: what follows a command that may leave requests behind (R401, R411) and the evaluation of the
in-force set, applied to a state of which `P` holds. -/
def AnswersThenSettled (c : Instr) (s : State) (P : State → Prop) : Prop := ∃ u, exec c s = .next (Act.settled.run u) ∧ P u

/-! ### What a command leaves alone -/

/-- Every register instance but those named keeps its word. -/
def RegsKept (l : List RegRef) (s t : State) : Prop := ∀ n i j k, (⟨n, i, j, k⟩ : RegRef) ∉ l → t.r n i j k = s.r n i j k

/-- Every register but those with a name in the list keeps its words. -/
def NamesKept (l : List RegName) (s t : State) : Prop := ∀ n i j k, n ∉ l → t.r n i j k = s.r n i j k

/-- Every byte of the addressed memories keeps its value. -/
def BytesKept (s t : State) : Prop := ∀ a, t.byte a = s.byte a

/-- Every byte outside the `n` bytes from `a` keeps its value. -/
def BytesKeptBut (a n : Nat) (s t : State) : Prop := ∀ b, (b < a ∨ a + n ≤ b) → t.byte b = s.byte b

/-- Nothing but registers and the answer of the access has changed: no byte of memory, no berth, no time, no flash. -/
def OnlyRegs (s t : State) : Prop := t = { s with regs := t.regs, resp := t.resp }

/-- Nothing but registers, the answer, the fault log and the count of free values has changed. -/
def OnlyRegsAndLog (s t : State) : Prop := t = { s with regs := t.regs, resp := t.resp, log := t.log, seed := t.seed }

/-- A write of a source reaches the register at an offset: the supervisor answers and the source may write there (R30, R408). -/
abbrev State.takes (s : State) (src : Src) (off : Nat) : Prop := s.up = true ∧ permits src off = true

/-- A write of a source reaches an instance of a register. -/
abbrev State.takesReg (s : State) (src : Src) (n : RegName) (i : Nat := 0) (j : Nat := 0) (k : Nat := 0) : Prop :=
  s.takes src (RegRef.offset ⟨n, i, j, k⟩)

/-- A field that counts and saturates has counted one more. -/
def Counted (f : Fld) (s t : State) (i : Nat := 0) (j : Nat := 0) : Prop := t.f f i j = min (s.f f i j + 1) (2 ^ f.width - 1)

/-! ### What the statements about step words speak of -/

/-- R262: the slot of engine `e` executes the word `w`: the engine is live with no LOAD in progress, its PC names `w`, the word is valid and
its wait is over. -/
abbrev State.slot (s : State) (e : Eng) (w : StepWord) : Prop :=
  s.up = true ∧ s.released = true ∧ s.engLive e = true ∧ s.eng[e].load = none ∧ s.eng[e].halting = false ∧
  w = stepFields (s.stepWord (s.f F.ENG_STATUS_PC e)) ∧ w.bad = false ∧ s.waitOver e w = true ∧ s.f F.ENG_STATUS_PC e < 16383

/-- R261, R262: the engine goes on at `pc`, RUNNING, with no wait in progress; but for its status, the registers named and what it holds
beside its registers, nothing has changed. -/
def EngineGoesOn (s t : State) (e : Eng) (pc : Nat) (l : List RegRef) : Prop :=
  t.f F.ENG_STATUS_PC e = pc ∧ t.f F.ENG_STATUS_STATE e = engRunning ∧ t.eng[e].tide = none ∧
  RegsKept (⟨.ENG_STATUS, e, 0, 0⟩ :: l) s t ∧ t = { s with regs := t.regs, eng := t.eng } ∧
  ∀ d : Eng, d ≠ e → t.eng[d] = s.eng[d]

/-! ### Requests to converters -/

/-- R76, R184, R199: a start request is taken: the module is released, and the converter governs itself. -/
abbrev State.takesStart (s : State) (g : Grp) (n : Cv) : Prop := s.released = true ∧ s.governor g n = n

/-- R467: the converter holds one more request, which waits for its acting edge; nothing else of the module has changed but
registers and the answer. -/
def WaitsForEdge (s t : State) (g : Grp) (n : Cv) (a : CvAct) : Prop :=
  (t.cv g n).acts = (s.cv g n).acts ++ [(actingEdge s.clk, a)] ∧ (∀ m : Cv, m ≠ n → t.cv g m = s.cv g m) ∧
  t = { s with regs := t.regs, conv := t.conv, resp := t.resp }

/-- R200: an advance request is taken. -/
abbrev State.advances (s : State) (g : Grp) (n : Cv) : Prop :=
  s.released = true ∧ s.governor g n = n ∧ s.ignoresRequests g n = false ∧ (s.cv g n).run = .visit ∧
  s.b F.CV_SEQ_STATE_ADV_PEND g n = false

/-- R206: a request for slot `k` is taken. -/
abbrev State.injects (s : State) (g : Grp) (n : Cv) (k : Fin 4) : Prop :=
  s.released = true ∧ s.alive g = true ∧ (s.cv g n).run = .visit ∧ (s.cv g n).stopping = false ∧ s.cvEnabled g n = true ∧
  s.reducedOn = false ∧
  entryBad (s.r .CV_INJ g n k &&& 0xFFBFFFFF) = false ∧ s.f F.CV_INJ_REQ_PENDING g n = 0

end Sys2Proof.Machine
end

