-- ==== Sys2Proof/Certificates/Slice0/Obligations.lean ====
section
/-! DEFINITION. The statements about the model, for the provers. -/

open Sys2Proof Sys2Proof.Machine

/-! ### Step words (R262 to R268) -/

/-- R266, R261: the step words that give a data register a value: MOVI, MOV, ADD, SCALE, CMPT and CLOCK. Each writes the value the table
gives, PC advances by one, and every other register, every byte and the rest of the state stay. -/
def Obligations.StepWordsGiveValues : Prop := ∀ (s : State) (e : Eng) (w : StepWord), s.slot e w →
  let next := s.f F.ENG_STATUS_PC e + 1
  (w.op = 0x02 → Answers (.stepMovi e) s fun t =>
    t.r .ENG_D e w.ra = BitVec.ofNat 32 w.imm ∧ EngineGoesOn s t e next [⟨.ENG_D, e, w.ra, 0⟩]) ∧
  (w.op = 0x03 → Answers (.stepMov e) s fun t =>
    t.r .ENG_D e w.ra = s.r .ENG_D e w.rb ∧ EngineGoesOn s t e next [⟨.ENG_D, e, w.ra, 0⟩]) ∧
  (w.op = 0x04 → Answers (.stepAdd e) s fun t =>
    t.r .ENG_D e w.ra = saturate (s.d e w.ra + (if w.x = 1 then -s.d e w.rb else s.d e w.rb) + signed 32 w.imm) ∧
    EngineGoesOn s t e next [⟨.ENG_D, e, w.ra, 0⟩]) ∧
  (w.op = 0x05 → Answers (.stepScale e) s fun t =>
    t.r .ENG_D e w.ra = saturate (roundDiv (s.d e w.rb * signed 32 w.imm) (2 ^ w.x)) ∧
    EngineGoesOn s t e next [⟨.ENG_D, e, w.ra, 0⟩]) ∧
  (w.op = 0x0A → Answers (.stepCmpt e) s fun t =>
    let i := s.tableIndex (s.d e w.ra) (w.imm % 16384) 0 (w.imm / 2 ^ 24 + 1)
    t.r .ENG_D e w.rb = (match i with
      | some n => BitVec.ofNat 32 n
      | none => 0xFFFFFFFF) ∧
    t.flag (bitsOf w.imm 16 5) = i.isSome ∧
    (∀ n, n < 32 → n ≠ bitsOf w.imm 16 5 → t.flag n = s.flag n) ∧
    EngineGoesOn s t e next [⟨.ENG_D, e, w.rb, 0⟩, ⟨.STEP_FLAG_SET, 0, 0, 0⟩]) ∧
  (w.op = 0x13 → Answers (.stepClock e) s fun t =>
    let v := unsigned 64 ((if w.x = 0 then (s.ns : Int) else s.phase (w.x - 1)) + signed 32 w.imm)
    t.r .ENG_D e w.ra = BitVec.ofNat 32 v ∧ t.r .ENG_D e (w.ra + 1) = BitVec.ofNat 32 (v / 2 ^ 32) ∧
    EngineGoesOn s t e next [⟨.ENG_D, e, w.ra, 0⟩, ⟨.ENG_D, e, w.ra + 1, 0⟩])

/-- R266, R261, R268: NOP, CMP and SETF go on at the next word; BR, CALL and RET go where they name; HALT leaves the engine HALTED with its
PC; a CALL on a full stack and a RET on an empty one fault with code 2, and a RET past the end of step memory with code 3, each with PC
and stack kept. -/
def Obligations.StepWordsControlFlow : Prop := ∀ (s : State) (e : Eng) (w : StepWord), s.slot e w →
  let pc := s.f F.ENG_STATUS_PC e
  (w.op = 0x00 → Answers (.stepNop e) s fun t => EngineGoesOn s t e (pc + 1) []) ∧
  (w.op = 0x01 → Answers (.stepHalt e) s fun t =>
    t.f F.ENG_STATUS_STATE e = engHalted ∧ t.f F.ENG_STATUS_PC e = pc ∧ t.bit F.STEP_EVENTS_HALTED e = true ∧
    RegsKept [⟨.ENG_STATUS, e, 0, 0⟩, ⟨.STEP_EVENTS, 0, 0, 0⟩] s t ∧ BytesKept s t) ∧
  (w.op = 0x09 → Answers (.stepCmp e) s fun t =>
    t.flag (w.x % 32) = cmpCond (bitsOf w.x 5 3) (s.d e w.ra) (if w.x.testBit 8 then s.d e w.rb else signed 32 w.imm) ∧
    (∀ n, n < 32 → n ≠ w.x % 32 → t.flag n = s.flag n) ∧
    EngineGoesOn s t e (pc + 1) [⟨.STEP_FLAG_SET, 0, 0, 0⟩]) ∧
  (w.op = 0x0B → Answers (.stepSetf e) s fun t =>
    t.flags = (if w.x = 0 then s.flags &&& ~~~BitVec.ofNat 32 w.imm else if w.x = 1 then s.flags ||| BitVec.ofNat 32 w.imm
      else s.flags ^^^ BitVec.ofNat 32 w.imm) ∧ EngineGoesOn s t e (pc + 1) [⟨.STEP_FLAG_SET, 0, 0, 0⟩]) ∧
  (w.op = 0x0C → Answers (.stepBr e) s fun t =>
    EngineGoesOn s t e (if w.x.testBit 6 || s.flag (w.x % 32) == w.x.testBit 5 then w.imm % 16384 else pc + 1) []) ∧
  (w.op = 0x0D → s.f F.ENG_STATUS_DEPTH e < 8 → Answers (.stepCall e) s fun t =>
    t.eng[e].stack = (pc + 1) :: s.eng[e].stack ∧ t.f F.ENG_STATUS_DEPTH e = s.f F.ENG_STATUS_DEPTH e + 1 ∧
    EngineGoesOn s t e (w.imm % 16384) []) ∧
  (w.op = 0x0D → 8 ≤ s.f F.ENG_STATUS_DEPTH e → Answers (.stepCall e) s fun t =>
    t.f F.ENG_STATUS_STATE e = engFaulted ∧ t.f F.ENG_STATUS_FAULT e = 2 ∧ t.f F.ENG_STATUS_PC e = pc ∧
    t.eng[e].stack = s.eng[e].stack) ∧
  (w.op = 0x0E → ∀ p l, s.eng[e].stack = p :: l → 16384 ≤ p → Answers (.stepRet e) s fun t =>
    t.f F.ENG_STATUS_STATE e = engFaulted ∧ t.f F.ENG_STATUS_FAULT e = 3 ∧ t.f F.ENG_STATUS_PC e = pc ∧
    t.eng[e].stack = s.eng[e].stack) ∧
  (w.op = 0x0E → ∀ p l, s.eng[e].stack = p :: l → p < 16384 → Answers (.stepRet e) s fun t =>
    t.eng[e].stack = l ∧ t.f F.ENG_STATUS_DEPTH e = s.f F.ENG_STATUS_DEPTH e - 1 ∧ EngineGoesOn s t e p []) ∧
  (w.op = 0x0E → s.eng[e].stack = [] → Answers (.stepRet e) s fun t =>
    t.f F.ENG_STATUS_STATE e = engFaulted ∧ t.f F.ENG_STATUS_FAULT e = 2 ∧ t.f F.ENG_STATUS_PC e = pc)

/-- R262, R266, R268: LOAD gives RA what the module answers, and from a user register it holds the engine; WR and WRI write as the source
"step engine" and then go on, or fault with code 4 where the write was refused; RING, START, INJECT and ADVANCE go on whatever becomes of
the request; a start request that is taken waits for its acting edge, and the others show at once. -/
def Obligations.StepWordsReachOut : Prop := ∀ (s : State) (e : Eng) (w : StepWord), s.slot e w →
  let pc := s.f F.ENG_STATUS_PC e
  let goesOn := fun (t : State) => t.f F.ENG_STATUS_PC e = pc + 1 ∧ t.f F.ENG_STATUS_STATE e = engRunning
  let c := paramConverter w.imm
  (w.op = 0x06 → ∀ d a, placeOf w.imm = .user d a → s.userPort d = true → Answers (.stepLoad e) s fun t =>
    t.eng[e].load = some (d, w.ra, w.x) ∧ t.f F.ENG_STATUS_PC e = pc ∧
    t.fab.access[d] = s.fab.access[d] ++ [⟨.engine e, false, a, 0, s.clk, none, 0⟩] ∧ RegsKept [⟨.ENG_STATUS, e, 0, 0⟩] s t) ∧
  (w.op = 0x06 → (∀ d a, placeOf w.imm ≠ .user d a) → ∃ u, u = { s with regs := u.regs } ∧ RegsKept [⟨.ENG_STATUS, e, 0, 0⟩] s u ∧
    ∀ v, ((Act.busRead (.engine e) w.imm 4).run u).resp = .ok v →
      Answers (.stepLoad e) s fun t => t.r .ENG_D e w.ra = loadValue w.x (v.setWidth 32)) ∧
  (w.op = 0x07 → ∃ u, u = { s with regs := u.regs } ∧ RegsKept [⟨.ENG_STATUS, e, 0, 0⟩] s u ∧
    let r := (Act.write32 (.engine e) w.imm (s.r .ENG_D e w.ra) none).run u
    exec (.stepWr e) s = .next (Act.modes.run ((if r.resp = .ok 0 then Act.wordEnds e else Act.engFault e 4).run r))) ∧
  (w.op = 0x08 → (s.r .ENG_D e w.rb).toNat % 4 = 0 → ∃ u, u = { s with regs := u.regs } ∧ RegsKept [⟨.ENG_STATUS, e, 0, 0⟩] s u ∧
    let r := (Act.write32 (.engine e) ((s.r .ENG_D e w.rb).toNat % 2 ^ 24) (BitVec.ofNat 32 w.imm) none).run u
    exec (.stepWri e) s = .next (Act.modes.run ((if r.resp = .ok 0 then Act.wordEnds e else Act.engFault e 4).run r))) ∧
  (w.op = 0x12 → Answers (.stepRing e) s fun t => goesOn t ∧ t.eng[(Fin.ofNat 8 (w.imm % 8) : Eng)].rung = some s.clk) ∧
  (w.op = 0x0F → s.takesStart c.1 c.2 → s.reducedOn = false → Answers (.stepStart e) s fun t =>
    goesOn t ∧ (t.cv c.1 c.2).acts = (s.cv c.1 c.2).acts ++ [(actingEdge s.clk, .start)]) ∧
  (w.op = 0x10 → s.injects c.1 c.2 (Fin.ofNat 4 (bitsOf w.imm 8 2)) → Answers (.stepInject e) s fun t =>
    goesOn t ∧ t.bit F.CV_INJ_REQ_PENDING (bitsOf w.imm 8 2) c.1 c.2 = true) ∧
  (w.op = 0x11 → s.advances c.1 c.2 → Answers (.stepAdvance e) s fun t =>
    goesOn t ∧ t.b F.CV_SEQ_STATE_ADV_PEND c.1 c.2 = true)

/-- R262, R265, R268: a word that R264 to R268 call invalid faults its engine with code 1 whatever its opcode, and a word whose wait is not
over leaves the engine WAITING at it. -/
def Obligations.StepWordsInvalidOrWaiting : Prop := ∀ (s : State) (e : Eng),
  let w := stepFields (s.stepWord (s.f F.ENG_STATUS_PC e))
  s.up = true → s.released = true → s.engLive e = true → s.eng[e].load = none →
  (w.bad = true → Answers (.stepNop e) s fun t =>
    t.f F.ENG_STATUS_STATE e = engFaulted ∧ t.f F.ENG_STATUS_FAULT e = 1 ∧ t.f F.ENG_STATUS_PC e = s.f F.ENG_STATUS_PC e ∧
    t.bit F.STEP_EVENTS_FAULT e = true) ∧
  (w.bad = false → w.op = 0x02 → s.waitOver e w = false → Answers (.stepMovi e) s fun t =>
    t.f F.ENG_STATUS_STATE e = engWaiting ∧ t.f F.ENG_STATUS_PC e = s.f F.ENG_STATUS_PC e ∧ RegsKept [⟨.ENG_STATUS, e, 0, 0⟩] s t)

/-! ### Engines from outside (R261, R270 to R272) -/

/-- R270, R271, R272: a doorbell by the engine's state, and the writes that ring, start and halt engines. -/
def Obligations.EngineDoorbellsAndControl : Prop := ∀ (s : State) (e : Eng) (src : Src) (v : Word),
  (s.up = true → s.eng[e].rung ≠ some s.clk → Answers (.doorbellRing e) s fun t =>
    t.eng[e].rung = some s.clk ∧ (∀ d : Eng, d ≠ e → t.eng[d] = s.eng[d]) ∧ BytesKept s t ∧
    RegsKept [⟨.ENG_STATUS, e, 0, 0⟩, ⟨.ENG_COUNTS, e, 0, 0⟩] s t ∧
    (s.engLive e = true → s.b F.ENG_STATUS_DB_PEND e = false → t.b F.ENG_STATUS_DB_PEND e = true) ∧
    (s.engLive e = true → s.b F.ENG_STATUS_DB_PEND e = true → Counted F.ENG_COUNTS_MERGED s t e) ∧
    (s.engState e = engFaulted → Counted F.ENG_COUNTS_IGNORED s t e) ∧
    (s.engState e = engHalted → s.b F.ENG_ENTRY_DB_START e = true → s.released = true →
      t.engState e = engRunning ∧ t.f F.ENG_STATUS_PC e = s.f F.ENG_ENTRY_ENTRY e ∧ t.eng[e].stack = []) ∧
    (s.engState e = engHalted → s.b F.ENG_ENTRY_DB_START e = false → t.b F.ENG_STATUS_DB_PEND e = true)) ∧
  (s.takesReg src .STEP_DOORBELL → Answers (.stepDoorbellWrite src v) s fun t =>
    t.resp = .ok 0 ∧ ∀ d : Eng, v.getLsbD d = true → t.eng[d].rung = some s.clk) ∧
  (s.takesReg src .ENG_CTRL e → F.ENG_CTRL_HALT.of v = 0 → F.ENG_CTRL_RUN.of v = 1 → s.engLive e = false → s.released = true →
    Answers (.engineRun src e v) s fun t =>
      t.resp = .ok 0 ∧ t.engState e = engRunning ∧ t.f F.ENG_STATUS_PC e = s.f F.ENG_ENTRY_ENTRY e ∧
      t.f F.ENG_STATUS_DEPTH e = 0 ∧ t.f F.ENG_STATUS_FAULT e = 0 ∧ t.b F.ENG_STATUS_DB_PEND e = false ∧ t.eng[e].stack = [] ∧
      RegsKept [⟨.ENG_STATUS, e, 0, 0⟩] s t ∧ BytesKept s t) ∧
  (s.takesReg src .ENG_CTRL e → F.ENG_CTRL_HALT.of v = 1 → s.engLive e = true → s.eng[e].load = none →
    Answers (.engineHalt src e v) s fun t =>
      t.resp = .ok 0 ∧ t.engState e = engHalted ∧ t.f F.ENG_STATUS_PC e = s.f F.ENG_STATUS_PC e ∧
      RegsKept [⟨.ENG_STATUS, e, 0, 0⟩] s t ∧ BytesKept s t)

/-- R12, R261, R272: a write of the step flags; a write of a step word, and of half of one, which is refused while an engine runs. -/
def Obligations.StepFlagsAndMemory : Prop := ∀ (s : State) (src : Src) (v : Word) (w : Fin 16384) (x : DWord),
  (s.takesReg src .STEP_FLAG_SET → Answers (.stepFlagWrite src true v) s fun t =>
    t.resp = .ok 0 ∧ t.flags = s.flags ||| v ∧ RegsKept [⟨.STEP_FLAG_SET, 0, 0, 0⟩] s t ∧ OnlyRegs s t) ∧
  (s.takesReg src .STEP_FLAG_CLR → Answers (.stepFlagWrite src false v) s fun t =>
    t.resp = .ok 0 ∧ t.flags = s.flags &&& ~~~v ∧ RegsKept [⟨.STEP_FLAG_SET, 0, 0, 0⟩] s t ∧ OnlyRegs s t) ∧
  (s.takes src (stepOffset w) → Answers (.stepMemoryWrite src w x .both) s fun t =>
    t.resp = .ok 0 ∧ t.stepWord w = x ∧ BytesKeptBut (stepOffset w) 8 s t ∧ RegsKept [] s t) ∧
  (s.takes src (stepOffset w) → s.anyEngine = false →
    (Answers (.stepMemoryWrite src w x .lo) s fun t =>
      t.resp = .ok 0 ∧ s.bytes (stepOffset w + 4) 4 = t.bytes (stepOffset w + 4) 4 ∧ t.bytes (stepOffset w) 4 = x.toNat % 2 ^ 32 ∧
      BytesKeptBut (stepOffset w) 4 s t ∧ RegsKept [] s t) ∧
    (Answers (.stepMemoryWrite src w x .hi) s fun t =>
      t.resp = .ok 0 ∧ t.bytes (stepOffset w + 4) 4 = x.toNat % 2 ^ 32 ∧ BytesKeptBut (stepOffset w + 4) 4 s t ∧ RegsKept [] s t)) ∧
  (s.takes src (stepOffset w) → s.anyEngine = true → ∀ h, h ≠ .both →
    Answers (.stepMemoryWrite src w x h) s fun t =>
      t.resp = .error ∧ Counted F.STEP_REFUSED_COUNT s t ∧ BytesKept s t)

/-! ### Converters (R171 to R214) -/

/-- R199, R200, R206, R211, R467: the requests that a converter takes. A start request and a cancellation wait for their acting edges and
change nothing before; an advance request and an injection request show at once, with the acting edge they wait for. At its edge a start
request of an idle converter starts the visit of entry 0, and the cancellation of a pending slot frees it with one record. What comes
first in the clock of an acting edge is the model's reading (log entry 133). -/
def Obligations.ConverterRequests : Prop := ∀ (s : State) (src : Src) (g : Grp) (n : Cv),
  (s.takesReg src .CV_SEQ_CTL g n → s.takesStart g n → Answers (.seqStart src g n) s fun t =>
    t.resp = .ok 0 ∧ t.regs = s.regs ∧ WaitsForEdge s t g n .start) ∧
  (s.ignoresRequests g n = false → (s.cv g n).run = .idle →
    let u := (Act.cvAct g n .start).run s
    (u.cv g n).run = .visit ∧ (u.cv g n).opened = none ∧ (u.cv g n).began = s.clk ∧ u.f F.CV_STATUS_ENTRY g n = 0 ∧
    u.f F.CV_SEQ_STATE_REMAIN g n = (s.entryConversion g n 0).count + 1 ∧
    NamesKept [.CV_STATUS, .CV_SEQ_STATE, .CV8_STATUS] s u ∧
    u = { s with regs := u.regs, conv := u.conv, ovl := u.ovl }) ∧
  (s.takesReg src .CV_SEQ_CTL g n → s.advances g n → Answers (.seqAdvance src g n) s fun t =>
    t.resp = .ok 0 ∧ t.b F.CV_SEQ_STATE_ADV_PEND g n = true ∧ (t.cv g n).advAt = actingEdge s.clk ∧
    RegsKept [⟨.CV_SEQ_STATE, g, evenOf n, 0⟩, ⟨.CV_SEQ_STATE, g, oddOf n, 0⟩] s t ∧
    t = { s with regs := t.regs, conv := t.conv, resp := t.resp }) ∧
  (∀ k : Fin 4, s.takesReg src .CV_INJ_REQ g n → s.injects g n k →
    Answers (.injectRequest src g n (BitVec.ofNat 4 (2 ^ k.val))) s fun t =>
      t.resp = .ok 0 ∧ t.f F.CV_INJ_REQ_PENDING g n = 2 ^ k.val ∧ (t.cv g n).actAt[k] = actingEdge s.clk ∧
      RegsKept [⟨.CV_INJ_REQ, g, n, 0⟩] s t ∧ t = { s with regs := t.regs, conv := t.conv, resp := t.resp }) ∧
  (∀ k : Fin 4, s.takesReg src .CV_INJ_REQ g n → s.released = true → s.bit F.CV_INJ_REQ_PENDING k g n = true →
    AnswersThenModes (.injectCancel src g n (BitVec.ofNat 4 (2 ^ k.val))) s fun u =>
      u.resp = .ok 0 ∧ u.regs = s.regs ∧ WaitsForEdge s u g n (.cancel k (s.cv g n).actAt[k])) ∧
  (∀ k : Fin 4, s.bit F.CV_INJ_REQ_PENDING k g n = true → (s.cv g n).run = .visit →
    let u := (Act.cvAct g n (.cancel k (s.cv g n).actAt[k])).run s
    u.bit F.CV_INJ_REQ_PENDING k g n = false ∧ (u.cv g n).run = .visit ∧
    u.f F.CV_RECORDS_NEXT_SEQ g n = (s.f F.CV_RECORDS_NEXT_SEQ g n + 1) % 65536)

/-- R171, R184, R187, R196, R208 to R210, R56, R425: what comes to a converter by itself. The window opens at the first modulator edge after
the dwell, or at the next point of its pair's grid; at an output instant the output takes the next number of its converter; a slot whose
edge has come takes the modulator at a modulator edge, and a visit with DEFER 0 is interrupted; its output frees the slot; a converter
left waiting by REDUCED restarts at entry 0; an unserved converter stops with its slots cancelled. -/
def Obligations.ConverterEvents : Prop := ∀ (s : State) (g : Grp) (n : Cv),
  (∀ t, s.up = true → s.alive g = true → (s.cv g n).opened = none → s.windowDue g n = some t → t ≤ s.clk → s.clk < t + 16 →
    Answers (.windowOpen g n) s fun u =>
      (u.cv g n).opened = some t ∧ (u.cv g n).dec = .clear ∧ (u.cv g n).run = (s.cv g n).run ∧ u = { s with conv := u.conv } ∧
      (s.asPair g n = true → (s.cv g n).run = .visit → n.val % 2 = 0 → (u.cv g n).grid = some ((s.cv g n).grid.getD t))) ∧
  (∀ c, s.up = true → s.alive g = true → (s.cv g n).run = .visit → (s.cv g n).opened = some c →
    s.outputInstant (s.entryConversion g n (s.f F.CV_STATUS_ENTRY g n)) c = true → AnswersThenModes (.converterOutput g n ()) s fun u =>
      u.f F.CV_RECORDS_NEXT_SEQ g n = (s.f F.CV_RECORDS_NEXT_SEQ g n + 1) % 65536 ∧ u.clk = s.clk ∧ u.time = s.time) ∧
  (∀ k c, s.up = true → s.alive g = true → (s.cv g n).run = .inj k → (s.cv g n).opened = some c →
    s.outputInstant (s.slotConversion g n k) c = true → AnswersThenModes (.injectedOutput g n ()) s fun u =>
      u.bit F.CV_INJ_REQ_PENDING k g n = false ∧
      u.f F.CV_RECORDS_NEXT_SEQ g n = (s.f F.CV_RECORDS_NEXT_SEQ g n + 1) % 65536) ∧
  (∀ k, s.released = true → s.clk % 16 = 0 → s.parkedOut g n = false → s.readySlot g n = some k → (s.cv g n).run = .idle →
    Answers (.injectAct g n) s fun t =>
      (t.cv g n).run = .inj k ∧ (t.cv g n).next = .idle ∧ t.b F.CV_STATUS_INJ_ACTIVE g n = true) ∧
  (∀ k, s.released = true → s.clk % 16 = 0 → s.parkedOut g n = false → s.readySlot g n = some k → (s.cv g n).run = .visit →
    (s.entryConversion g n (s.f F.CV_STATUS_ENTRY g n)).defer = false → Answers (.injectAct g n) s fun t =>
      (t.cv g n).run = .inj k ∧ (t.cv g n).next = .resume ∧ t.b F.CV_SEQ_STATE_INTERRUPTED g n = true) ∧
  ((s.cv g n).run = .restart → s.alive g = true → s.mode parked = false → s.slotPending g n = false →
    (s.cv g n).stopping = false → s.seqOnce g n = false → s.spare[g].move = .none → s.restartEdge g n ≤ s.clk →
    Answers (.reducedExitRestart g n) s fun t =>
      (t.cv g n).run = .visit ∧ t.f F.CV_STATUS_ENTRY g n = 0 ∧ NamesKept [.CV_STATUS, .CV_SEQ_STATE, .CV8_STATUS] s t) ∧
  (s.served g n = false → (s.cv g n).run ≠ .unserved → s.spare[g].promote ≠ some n → Answers (.convUnserved g n) s fun t =>
    (t.cv g n).run = .unserved ∧ t.f F.CV_INJ_REQ_PENDING g n = 0 ∧ t.b F.CV_SEQ_STATE_START_PEND g n = false ∧
    t.b F.CV_SEQ_STATE_ADV_PEND g n = false ∧ t.f F.CV_SEQ_STATE_REMAIN g n = 0)

/-- R184, R198, R212, R467: writes of a converter's CTRL. The fields stand at once; an enabling and a disabling wait for their acting edge. At
that edge an enabled converter starts entry 0 with SEQ_STATE and PASSES at their reset values, and a disabled one stops with its slots
cancelled. A pair forms where both converters are disabled and the set has one entry. What comes first in the clock of an acting edge is
the model's reading (log entry 133). -/
def Obligations.ConverterControl : Prop := ∀ (s : State) (src : Src) (g : Grp) (n : Cv) (v : Word),
  (s.takesReg src .CV_CTRL g n → s.interleaved g n = false → s.b F.CV_CTRL_ILV g n = false →
    (F.CV_CTRL_ENABLE.of v = 1 → F.CV_CTRL_ILV.of v = 0 → s.b F.CV_CTRL_ENABLE g n = false → AnswersThenModes (.cvEnable src g n v) s fun u =>
      u.resp = .ok 0 ∧ u.b F.CV_CTRL_ENABLE g n = true ∧ u.f F.CV_CTRL_BERTH g n = F.CV_CTRL_BERTH.of v ∧
      RegsKept [⟨.CV_CTRL, g, n, 0⟩] s u ∧ WaitsForEdge s u g n .enable) ∧
    (F.CV_CTRL_ENABLE.of v = 0 → F.CV_CTRL_ILV.of v = 0 → s.b F.CV_CTRL_ENABLE g n = true → AnswersThenModes (.cvDisable src g n v) s fun u =>
      u.resp = .ok 0 ∧ u.b F.CV_CTRL_ENABLE g n = false ∧ u.f F.CV_CTRL_BERTH g n = F.CV_CTRL_BERTH.of v ∧
      RegsKept [⟨.CV_CTRL, g, n, 0⟩] s u ∧ WaitsForEdge s u g n .disable) ∧
    (n.val % 2 = 0 → F.CV_CTRL_ENABLE.of v = 0 → F.CV_CTRL_ILV.of v = 1 → s.b F.CV_CTRL_ENABLE g n = false →
      s.b F.CV_CTRL_ENABLE g (oddOf n) = false → F.CV_SEQ_LAST.of (s.seqWord g n .CV_SEQ .CVM_SEQ) = 0 →
      AnswersThenModes (.cvIlvWrite src g n v) s fun u =>
        u.resp = .ok 0 ∧ u.interleaved g n = true ∧ RegsKept [⟨.CV_CTRL, g, n, 0⟩] s u ∧ OnlyRegs s u)) ∧
  ((s.cv g n).run = .off → s.alive g = true → s.released = true → s.reducedOn = false → s.served g n = true → s.mode parked = false →
    s.seqOnce g n = false → s.cal[g].run = none → s.spare[g].move = .none →
    let u := (Act.cvAct g n .enable).run s
    (u.cv g n).run = .visit ∧ u.f F.CV_STATUS_ENTRY g n = 0 ∧ u.r .CV_PASSES g n = 0 ∧ u.b F.CV_SEQ_STATE_START_PEND g n = false ∧
    u.f F.CV_SEQ_STATE_MERGED g n = 0 ∧ u.f F.CV_SEQ_STATE_IGNORED g n = 0 ∧
    NamesKept [.CV_STATUS, .CV_SEQ_STATE, .CV_PASSES, .CV8_STATUS] s u) ∧
  ((s.cv g n).reduced = false → (s.cv g n).run ≠ .unserved → (s.cv g n).run ≠ .off → s.cal[g].run = none → s.spare[g].move = .none →
    let u := (Act.cvAct g n .disable).run s
    (u.cv g n).run = .off ∧ u.f F.CV_INJ_REQ_PENDING g n = 0 ∧ u.b F.CV_STATUS_RUNNING g n = false ∧
    u.b F.CV_SEQ_STATE_START_PEND g n = false ∧ u.b F.CV_SEQ_STATE_ADV_PEND g n = false ∧ u.f F.CV_SEQ_STATE_REMAIN g n = 0)

/-- R192, R193, R201, R203: a commit of a valid shadow set is pending, and has taken effect where no boundary can come; a commit while one is
pending, or of an invalid set, is refused and counted; at its report the mirror takes the shadow set. -/
def Obligations.SequenceCommit : Prop := ∀ (s : State) (src : Src) (g : Grp) (n : Cv) (v : Word),
  (s.takesReg src .CV_COMMIT g n → s.b F.CV_SHADOW_PENDING g n = false → s.governor g n = n → s.setBad g n = none →
    Answers (.cvCommit src g n v) s fun t =>
      t.resp = .ok 0 ∧ t.b F.CV_SHADOW_PENDING g n = true ∧ (t.cv g n).commitAt = s.clk ∧
      (t.cv g n).handed = ((s.cv g n).handed || s.noBoundary g n) ∧
      RegsKept [⟨.CV_COMMIT, g, n, 0⟩, ⟨.CV_SHADOW, g, n, 0⟩, ⟨.CV_SEQ_STATE, g, n, 0⟩] s t ∧
      ((s.cv g n).run ≠ .idle → t.r .CV_SEQ_STATE g n = s.r .CV_SEQ_STATE g n) ∧
      t = { s with regs := t.regs, conv := t.conv, resp := t.resp }) ∧
  (s.takesReg src .CV_COMMIT g n → s.b F.CV_SHADOW_PENDING g n = true → Answers (.cvCommit src g n v) s fun t =>
    t.resp = .error ∧ Counted F.CV_SHADOW_REFUSED s t g n ∧ NamesKept [.CV_SHADOW, .FAB_PORT_ERR] s t ∧ OnlyRegs s t) ∧
  (∀ i, s.takesReg src .CV_COMMIT g n → s.b F.CV_SHADOW_PENDING g n = false → s.governor g n = n → s.setBad g n = some i →
    Answers (.cvCommit src g n v) s fun t =>
      t.resp = .error ∧ Counted F.CV_SHADOW_REFUSED s t g n ∧ t.b F.CV_SHADOW_REJECTED g n = true ∧
      t.f F.CV_SHADOW_REJ_WORD g n = i ∧ NamesKept [.CV_SHADOW, .FAB_PORT_ERR] s t ∧ OnlyRegs s t) ∧
  (s.Wf → (s.cv g n).handed = true → (s.cv g n).handedAt + 12 ≤ s.clk → Answers (.sequenceHandoverReported g n) s fun t =>
    t.r .CVM_SEQ g n = s.r .CV_SEQ g n ∧
    (∀ e, e < 16 → t.r .CVM_ENTRY g n e = s.r .CV_ENTRY g n e ∧ t.r .CVM_ENTRY_T g n e = s.r .CV_ENTRY_T g n e) ∧
    t.b F.CV_SHADOW_PENDING g n = false ∧ t.b F.CV_SHADOW_DONE g n = true ∧ (t.cv g n).handed = false ∧
    NamesKept [.CVM_SEQ, .CVM_ENTRY, .CVM_ENTRY_T, .CV_SHADOW] s t ∧ t = { s with regs := t.regs, conv := t.conv })

/-! ### Inputs and references (R141, R170, R180 to R182) -/

/-- R141, R142, R170, R180, R182: an input's mode, the reference selection, the settling of INTERNAL, and overload events. -/
def Obligations.InputsAndReferences : Prop := ∀ (s : State) (src : Src) (g : Grp) (i : Ain) (m : Mod) (p : Bool) (v : Word),
  (s.takesReg src .INP_CFG g i → (s.taken g i = false ∨ F.INP_CFG_MODE.of v = s.f F.INP_CFG_MODE g i) →
    Answers (.inpModeWrite src g i v) s fun t =>
      t.resp = .ok 0 ∧ t.f F.INP_CFG_MODE g i = F.INP_CFG_MODE.of v ∧ RegsKept [⟨.INP_CFG, g, i, 0⟩] s t ∧ OnlyRegs s t) ∧
  (s.takesReg src .INP_CFG g i → s.taken g i = true → s.reducedOn = false → F.INP_CFG_MODE.of v ≠ s.f F.INP_CFG_MODE g i →
    Answers (.inpModeWrite src g i v) s fun t =>
      t.resp = .error ∧ t.f F.INP_CFG_MODE g i = s.f F.INP_CFG_MODE g i ∧ Counted F.INP_REFUSED_COUNT s t g ∧ OnlyRegs s t) ∧
  (s.takesReg src .REF_CFG g → F.REF_CFG_SEL.of v ≠ 3 → F.REF_CFG_SEL.of v ≠ s.f F.REF_CFG_SEL g →
    Answers (.refSelWrite src g v) s fun t =>
      t.resp = .ok 0 ∧ t.f F.REF_CFG_SEL g = F.REF_CFG_SEL.of v ∧ t.b F.REF_STATUS_REF_RANGE g = false ∧
      (t.b F.REF_STATUS_REF_SETTLED g ↔ F.REF_CFG_SEL.of v = 0 ∧ s.b F.REF_STATUS_INT_SETTLED g = true) ∧
      RegsKept [⟨.REF_CFG, g, 0, 0⟩, ⟨.REF_STATUS, g, 0, 0⟩] s t ∧ t = { s with regs := t.regs, refs := t.refs, resp := t.resp }) ∧
  (s.takesReg src .REF_CFG g → F.REF_CFG_SEL.of v = 3 → Answers (.refSelWrite src g v) s fun t =>
    t.resp = .error ∧ t.f F.REF_CFG_SEL g = s.f F.REF_CFG_SEL g ∧ Counted F.INP_REFUSED_COUNT s t g ∧ OnlyRegs s t) ∧
  (s.alive g = true → s.b F.REF_STATUS_INT_SETTLED g = false → s.pwr.aliveAt[g] + 3276800 ≤ s.clk →
    Answers (.intSettledTimer g) s fun t =>
    t.b F.REF_STATUS_INT_SETTLED g = true ∧ t.refs[g].intAt = s.clk ∧
    (s.f F.REF_CFG_SEL g = 0 → t.b F.REF_STATUS_REF_SETTLED g = true) ∧ RegsKept [⟨.REF_STATUS, g, 0, 0⟩] s t) ∧
  (s.mayDeclare g m p = true → s.ovl[g][m] = [] → Answers (.overloadDeclare g m p) s fun t =>
    t.ovl[g][m] = [⟨s.clk, none, [(s.clk, p)]⟩] ∧
    (∀ n : Cv, m = n.castLE (by decide) → t.b F.CV_STATUS_OVR_NOW g n = true ∧ t.b F.CV_STATUS_OVR g n = true ∧
      Counted F.CV_STATUS_OVR_COUNT s t g n) ∧
    (m = 8 → t.b F.CV8_STATUS_OVR_NOW g = true ∧ t.b F.CV8_STATUS_OVR g = true ∧ Counted F.CV8_STATUS_OVR_COUNT s t g) ∧
    NamesKept [.CV_STATUS, .CV8_STATUS] s t ∧ t = { s with regs := t.regs, ovl := t.ovl }) ∧
  (s.ovrOver g m = true → Answers (.overloadEventEnd g m) s fun t =>
    (∀ e ∈ t.ovl[g][m], e.stop ≠ none) ∧
    (∀ n : Cv, m = n.castLE (by decide) → t.b F.CV_STATUS_OVR_NOW g n = false ∧ t.b F.CV_STATUS_OVR g n = s.b F.CV_STATUS_OVR g n) ∧
    (m = 8 → t.b F.CV8_STATUS_OVR_NOW g = false) ∧
    NamesKept [.CV_STATUS, .CV8_STATUS] s t ∧ t = { s with regs := t.regs, ovl := t.ovl })

/-! ### Calibration (R334 to R352) -/

/-- R339, R340, R344 to R346: a run that may start begins with no reading, in the stage that its class and its target give, and takes the
spare converter unless the target itself is idle; so does a background run whose turn it is. A run that is traced to a reference that
nothing declares (R338) ends at once with cause 3. Where the turn of the background starts is the model's choice (log entry 157). -/
def Obligations.CalibrationStarts : Prop := ∀ (s : State) (src : Src) (g : Grp) (v : Word) (cls : Fin 3) (target : Fin 16),
  s.runMayStart g cls target = true →
  let traced := s.externalTrace cls = false ∨ s.f F.CAL_REF_DECL_DECL g ≠ 0
  let direct : Bool := cls == 0 && s.targetIdle g (cvOf target)
  let begun := fun (u : State) (back : Bool) =>
    (∃ r, u.cal[g].run = some r ∧ r.cls = cls.val ∧ r.target = target.val ∧ r.background = back ∧ r.index = 0) ∧
    u.f F.CAL_STATUS_STATE g = (if cls != 2 && !direct then 1 else 4) ∧ u.b F.CAL_STATUS_BACKGROUND g = back ∧
    u.f F.CAL_STATUS_LAST_CLASS g = cls.val ∧ u.f F.CAL_STATUS_LAST_TARGET g = target.val ∧
    (direct = false → u.f F.CV8_STATUS_ROLE g = 1 ∧ u.b F.CV8_STATUS_RUNNING g = true) ∧
    NamesKept [.CAL_CTRL, .CAL_STATUS, .CV8_STATUS] s u
  (s.takesReg src .CAL_CTRL g → F.CAL_CTRL_RUN.of v = 1 → F.CAL_CTRL_ABORT.of v = 0 → F.CAL_CTRL_FACTORY.of v = 0 →
    F.CAL_CTRL_CLASS.of v = cls.val → F.CAL_CTRL_TARGET.of v = target.val →
    (traced → AnswersThenModes (.calRun src g v) s fun u => u.resp = .ok 0 ∧ begun u false) ∧
    (¬ traced → AnswersThenModes (.calRun src g v) s fun u =>
      u.resp = .ok 0 ∧ u.cal[g].run = none ∧ u.f F.CAL_STATUS_STATE g = 0 ∧ u.f F.CAL_STATUS_CAUSE g = 3 ∧
      u.b F.CAL_STATUS_FAILED g = true ∧ u.f F.CV8_STATUS_ROLE g = 0)) ∧
  (target.val < 8 → s.backgroundTurn g = some (cls.val * 8 + target.val) → traced →
    AnswersThenModes (.calBackgroundStart g cls target) s fun u => begun u true ∧ u.cal[g].turn = cls.val * 8 + target.val)

/-- R341 to R343, R348, R350: a reading is complete 14.8 ms after it began, and one that is not the last is kept; an overload of the monitor
ends the run in its first stage with cause 7; an abort ends a run in its first stage, or of a cell, at once with cause 15, and sends a
converter's work back first; FACTORY discards the set of an item that is not converting, and otherwise waits for the converter; a stored
set takes effect, and a set that flash refused does not. -/
def Obligations.CalibrationRuns : Prop := ∀ (s : State) (src : Src) (g : Grp) (v : Word) (x : Int) (r : CalRun),
  (s.cal[g].run = some r → s.readingDue g = true →
    r.index % (3 * r.paths.length + 1) ≠ 0 → r.index + 1 < s.runLength r → AnswersThenModes (.calReading g x false) s fun u =>
      u.cal[g].run = some (r.take s.cal[g].temp x) ∧ u.cal[g].readAt = s.clk ∧ RegsKept [] s u) ∧
  (s.cal[g].run = some r → s.readingDue g = true → s.f F.CAL_STATUS_STATE g = 1 → AnswersThenModes (.calReading g x true) s fun u =>
    u.cal[g].run = none ∧ u.f F.CAL_STATUS_STATE g = 0 ∧ u.f F.CAL_STATUS_CAUSE g = 7 ∧ u.b F.CAL_STATUS_FAILED g = true ∧
    u.b F.CAL_STATUS_SPARE_STAGE g = true) ∧
  (s.takesReg src .CAL_CTRL g → F.CAL_CTRL_ABORT.of v = 1 → F.CAL_CTRL_FACTORY.of v = 0 → s.cal[g].run = some r →
    (s.f F.CAL_STATUS_STATE g = 1 → AnswersThenModes (.calAbort src g v) s fun u =>
      u.resp = .ok 0 ∧ u.cal[g].run = none ∧ u.f F.CAL_STATUS_STATE g = 0 ∧ u.f F.CAL_STATUS_CAUSE g = 15 ∧
      u.b F.CAL_STATUS_FAILED g = true) ∧
    (s.f F.CAL_STATUS_STATE g = 4 → r.cls = 2 → s.f F.DAC_SPARE_ROLE g ≠ 2 → AnswersThenModes (.calAbort src g v) s fun u =>
      u.resp = .ok 0 ∧ u.cal[g].run = none ∧ u.f F.CAL_STATUS_STATE g = 0 ∧ u.f F.CAL_STATUS_CAUSE g = 15) ∧
    (s.f F.CAL_STATUS_STATE g = 4 → r.cls = 0 → s.f F.CV8_STATUS_ROLE g = 2 → AnswersThenModes (.calAbort src g v) s fun u =>
      u.resp = .ok 0 ∧ u.f F.CAL_STATUS_STATE g = 6 ∧ u.cal[g].run = some { r with verdict := some 15 } ∧
      u.spare[g].move = .back (cvOf r.target) false)) ∧
  (s.takesReg src .CAL_CTRL g → F.CAL_CTRL_ABORT.of v = 0 → F.CAL_CTRL_RUN.of v = 0 → F.CAL_CTRL_FACTORY.of v = 1 →
    s.f F.CAL_STATUS_STATE g = 0 →
    let cls := F.CAL_CTRL_CLASS.of v
    let target := F.CAL_CTRL_TARGET.of v
    let y := s.cv g (cvOf target)
    target < classSize cls →
    (cls ≠ 0 ∨ y.run.works = false ∨ y.reduced = true → AnswersThenModes (.calFactory src g v) s fun u =>
      u.resp = .ok 0 ∧ u.fieldSet g cls target = none ∧ NamesKept [.CAL_CTRL] s u) ∧
    (cls = 0 → y.run.works = true → y.reduced = false → (s.fieldSet g 0 target).isSome = true →
      AnswersThenModes (.calFactory src g v) s fun u =>
        u.resp = .ok 0 ∧ (u.cv g (cvOf target)).factory = true ∧ u.fieldSet g 0 target = s.fieldSet g 0 target)) ∧
  (∀ f, s.cal[g].run = some r → s.f F.CAL_STATUS_STATE g = 5 → r.cls = 2 → s.f F.DAC_SPARE_ROLE g ≠ 2 → r.formed = some f →
    (AnswersThenModes (.calSetStored g true) s fun u =>
      u.cal[g].run = none ∧ u.f F.CAL_STATUS_STATE g = 0 ∧ u.f F.CAL_STATUS_CAUSE g = 0 ∧ u.b F.CAL_STATUS_DONE g = true ∧
      u.fieldSet g 2 r.target = some f) ∧
    (AnswersThenModes (.calSetStored g false) s fun u =>
      u.cal[g].run = none ∧ u.f F.CAL_STATUS_CAUSE g = 10 ∧ u.b F.CAL_STATUS_FAILED g = true ∧
      u.fieldSet g 2 r.target = s.fieldSet g 2 r.target))

/-- R338, R340, R348, R352: the declared reference, within 1 V to 5 V and only between runs; the operating hours, each 589,824,000,000 system
clocks; the deviation of the crystal from the mean of RATE, valid while module time is LOCKED. -/
def Obligations.CalibrationRegisters : Prop := ∀ (s : State) (src : Src) (g : Grp) (v : Word),
  (s.takesReg src .CAL_REF_DECL g →
    let d := F.CAL_REF_DECL_DECL.of v
    (s.f F.CAL_STATUS_STATE g = 0 → (d = 0 ∨ 1000000 ≤ d ∧ d ≤ 5000000) → Answers (.calRefDeclWrite src g v) s fun t =>
      t.resp = .ok 0 ∧ t.f F.CAL_REF_DECL_DECL g = d ∧ RegsKept [⟨.CAL_REF_DECL, g, 0, 0⟩] s t ∧ OnlyRegs s t) ∧
    (s.f F.CAL_STATUS_STATE g ≠ 0 ∨ (0 < d ∧ (d < 1000000 ∨ 5000000 < d)) → Answers (.calRefDeclWrite src g v) s fun t =>
      t.resp = .error ∧ Counted F.CAL_REFUSED_COUNT s t ∧ NamesKept [.CAL_REFUSED, .FAB_PORT_ERR] s t ∧ OnlyRegs s t)) ∧
  (s.up = true → s.pwr.hourDue ≤ s.clk → Answers .calHoursTick s fun t =>
    t.r .CAL_HOURS = s.r .CAL_HOURS + 1 ∧ RegsKept [⟨.CAL_HOURS, 0, 0, 0⟩] s t ∧
    t = { s with regs := t.regs, pwr := { s.pwr with hourDue := s.pwr.hourDue + 589824000000 } }) ∧
  (s.up = true → Answers (.xtalDeviationUpdate ()) s fun t =>
    t.b F.CAL_XTAL_VALID = decide (s.f F.TIME_STATE_STATE = 2) ∧
    (s.f F.TIME_STATE_STATE = 2 →
      t.f F.CAL_XTAL_DEV = unsigned 24 (clamp (-8388608) 8388607 (roundDiv (-s.rateMean * 1000) 262144))) ∧
    RegsKept [⟨.CAL_XTAL, 0, 0, 0⟩] s t ∧ OnlyRegs s t)

/-! ### Failed converters and cores (R424 to R430) -/

/-- R424, R426: a converter is declared failed by software or by its decimation check: FAILED sets in CV.STATUS, in FAULT and in flash, and
with REPAIR in force and the spare free its promotion is decided; CLEAR clears all three. -/
def Obligations.ConvertersFail : Prop := ∀ (s : State) (src : Src) (g : Grp) (n : Cv) (v : Word),
  let failed := fun (u : State) =>
    u.b F.CV_STATUS_FAILED g n = true ∧ u.bit F.FAULT_CONV_FAILED n g = true ∧ u.flash.convFailed[g].testBit n = true ∧
    u.b F.FAULT_EVENTS_CONV_FAILED = true ∧
    (s.mode repair = false → u.f F.CV8_STATUS_ROLE g = s.f F.CV8_STATUS_ROLE g) ∧
    (s.mode repair = true → s.f F.CV8_STATUS_ROLE g = 0 →
      u.f F.CV8_STATUS_ROLE g = 3 ∧ u.f F.CV8_STATUS_SERVES g = n.val ∧ u.spare[g].promote = some n)
  (s.takesReg src .FAULT_CONV g → F.FAULT_CONV_KEY.of v = 0xA7 → F.FAULT_CONV_DECLARE.of v = 2 ^ n.val →
    F.FAULT_CONV_CLEAR.of v = 0 → s.b F.CV_STATUS_FAILED g n = false →
    AnswersThenModes (.convDeclare src g v) s fun u => u.resp = .ok 0 ∧ failed u) ∧
  (s.alive g = true → s.b F.CV_STATUS_FAILED g n = false → AnswersThenModes (.convDecimCheck g n) s failed) ∧
  (s.takesReg src .FAULT_CONV g → F.FAULT_CONV_KEY.of v = 0xA7 → F.FAULT_CONV_DECLARE.of v = 0 →
    F.FAULT_CONV_CLEAR.of v = 2 ^ n.val → s.b F.CV_STATUS_FAILED g n = true → (s.cv g n).run ≠ .unserved →
    AnswersThenModes (.convClear src g v) s fun u =>
      u.resp = .ok 0 ∧ u.b F.CV_STATUS_FAILED g n = false ∧ u.bit F.FAULT_CONV_FAILED n g = false ∧
      u.flash.convFailed[g].testBit n = false ∧ NamesKept [.CV_STATUS, .FAULT_CONV] s u) ∧
  (s.takesReg src .FAULT_CONV g → F.FAULT_CONV_KEY.of v ≠ 0xA7 → AnswersThenModes (.convDeclare src g v) s fun u =>
    u.resp = .error ∧ Counted F.FAULT_REFUSED_COUNT s u ∧ NamesKept [.FAULT_REFUSED, .FAB_PORT_ERR] s u ∧ OnlyRegs s u)

/-- R427, R428: a decided promotion moves the work of its converter to the spare at a modulator edge, and a visit in progress starts its
window again; PROMOTE and RETURN that are allowed are PENDING, until the boundary of a converter that converts, and until their acting
edge, with no slot pending, where it does not. -/
def Obligations.SpareConverter : Prop := ∀ (s : State) (src : Src) (g : Grp) (n : Cv) (v : Word),
  (s.spare[g].promote = some n → s.alive g = true → s.f F.CV8_STATUS_ROLE g = 3 → s.f F.CV8_STATUS_SERVES g = n.val →
    actingEdge s.spare[g].promoteAt ≤ s.clk →
    (s.cv g n).run = .idle ∨ (s.cv g n).run = .stopped ∨ (s.cv g n).run = .restart → Answers (.sparePromotion g) s fun t =>
      t.spare[g].promote = none ∧ t.b F.CV_STATUS_SPARE_ACTIVE g n = true ∧ (t.cv g n).calStep = true ∧
      (t.cv g n).run = (s.cv g n).run) ∧
  (s.spare[g].promote = some n → s.alive g = true → s.f F.CV8_STATUS_ROLE g = 3 → s.f F.CV8_STATUS_SERVES g = n.val →
    actingEdge s.spare[g].promoteAt ≤ s.clk →
    (s.cv g n).run = .visit → (s.cv g n).stopping = false → s.slotPending g n = false → Answers (.sparePromotion g) s fun t =>
      t.spare[g].promote = none ∧ t.b F.CV_STATUS_SPARE_ACTIVE g n = true ∧ (t.cv g n).calStep = true ∧
      (t.cv g n).run = .visit ∧ (t.cv g n).opened = none ∧ t.f F.CV_STATUS_ENTRY g n = s.f F.CV_STATUS_ENTRY g n) ∧
  (s.takesReg src .FAULT_SPARE g → s.mode repair = true → s.alive g = true → s.b F.FAULT_SPARE_PENDING g = false →
    F.FAULT_SPARE_TARGET.of v = n.val →
    (F.FAULT_SPARE_PROMOTE.of v = 1 → F.FAULT_SPARE_RETURN.of v = 0 → s.f F.CV8_STATUS_ROLE g = 0 →
      AnswersThenModes (.sparePromote src g v) s fun u =>
        u.resp = .ok 0 ∧ u.b F.FAULT_SPARE_PENDING g = true ∧ u.spare[g].move = .take n 3 ∧ u.spare[g].moveAt = s.clk ∧
        RegsKept [⟨.FAULT_SPARE, g, 0, 0⟩] s u ∧ u = { s with regs := u.regs, spare := u.spare, resp := u.resp }) ∧
    (F.FAULT_SPARE_PROMOTE.of v = 0 → F.FAULT_SPARE_RETURN.of v = 1 → s.f F.CV8_STATUS_ROLE g = 3 →
      s.f F.CV8_STATUS_SERVES g = n.val → s.b F.CV_STATUS_FAILED g n = false → s.spare[g].promote = none →
      AnswersThenModes (.spareReturn src g v) s fun u =>
        u.resp = .ok 0 ∧ u.b F.FAULT_SPARE_PENDING g = true ∧ u.spare[g].move = .back n true ∧ u.spare[g].moveAt = s.clk ∧
        RegsKept [⟨.FAULT_SPARE, g, 0, 0⟩] s u ∧ u = { s with regs := u.regs, spare := u.spare, resp := u.resp })) ∧
  ((s.cv g n).run = .off ∨ (s.cv g n).run = .idle ∨ (s.cv g n).run = .stopped → s.slotPending g n = false →
    actingEdge s.spare[g].moveAt ≤ s.clk →
    let u := (Act.moveEdge g).run s
    (s.spare[g].move = .take n 3 →
      u.spare[g].move = .none ∧ u.b F.FAULT_SPARE_PENDING g = false ∧ u.b F.CV_STATUS_SPARE_ACTIVE g n = true ∧
      u.f F.CV8_STATUS_ROLE g = 3 ∧ u.f F.CV8_STATUS_SERVES g = n.val ∧ u.b F.FAULT_EVENTS_PROMOTED = true) ∧
    (s.spare[g].move = .back n true → s.f F.CV8_STATUS_ROLE g = 3 →
      u.spare[g].move = .none ∧ u.b F.FAULT_SPARE_PENDING g = false ∧ u.b F.CV_STATUS_SPARE_ACTIVE g n = false ∧
      (u.cv g n).calStep = true ∧ u.b F.FAULT_EVENTS_RETURNED = true))

/-- R309, R310, R346, R430: the spare core: requests and returns that REPAIR allows, those it refuses, the switching edge once the hand-over
is due, and the clearing of failed cores. -/
def Obligations.SpareCore : Prop := ∀ (s : State) (src : Src) (g : Grp) (o : Out) (v : Word),
  (s.takesReg src .DAC_SPARE g → s.mode repair = true →
    (F.DAC_SPARE_REQ.of v = 1 → F.DAC_SPARE_RETURN.of v = 0 → s.f F.DAC_SPARE_ROLE g = 0 →
      Answers (.spareCoreReq src g v) s fun t =>
        t.resp = .ok 0 ∧ t.f F.DAC_SPARE_ROLE g = 1 ∧ t.f F.DAC_SPARE_SERVES g = F.DAC_SPARE_TARGET.of v ∧
        t.b F.FAULT_STATUS_REPAIRING = true ∧ t.mon[g].coreReturn = false ∧ t.mon[g].coreAt = s.clk ∧
        NamesKept [.DAC_SPARE, .FAULT_STATUS] s t ∧ t = { s with regs := t.regs, mon := t.mon, resp := t.resp }) ∧
    (F.DAC_SPARE_REQ.of v = 0 → F.DAC_SPARE_RETURN.of v = 1 → s.f F.DAC_SPARE_ROLE g = 3 →
      s.b F.DAC_STATUS_CORE_FAILED g (s.f F.DAC_SPARE_SERVES g) = false → Answers (.spareCoreReturn src g v) s fun t =>
        t.resp = .ok 0 ∧ t.f F.DAC_SPARE_ROLE g = 1 ∧ t.f F.DAC_SPARE_SERVES g = s.f F.DAC_SPARE_SERVES g ∧
        t.mon[g].coreReturn = true ∧ t.mon[g].coreAt = s.clk ∧ NamesKept [.DAC_SPARE, .FAULT_STATUS] s t)) ∧
  (s.takesReg src .DAC_SPARE g → s.mode repair = false → F.DAC_SPARE_REQ.of v = 1 → Answers (.spareCoreReq src g v) s fun t =>
    t.resp = .error ∧ Counted F.DAC_REFUSED_COUNT s t g ∧ NamesKept [.DAC_REFUSED, .FAB_PORT_ERR] s t ∧ OnlyRegs s t) ∧
  (s.alive g = true → s.coreReady g = true → s.f F.DAC_SPARE_ROLE g = 1 → s.f F.DAC_SPARE_SERVES g = o.val → s.b F.DAC_STATUS_RANGE_BUSY g o = false →
    AnswersThenModes (.spareCoreSwitch g) s fun u =>
      u.f F.DAC_SPARE_ROLE g = (if s.mon[g].coreReturn then 0 else 3) ∧ u.b F.DAC_STATUS_SPARE_ACTIVE g o = !s.mon[g].coreReturn ∧
      u.mon[g].coreReturn = false ∧
      (if s.mon[g].coreReturn then u.b F.FAULT_EVENTS_RETURNED else u.b F.FAULT_EVENTS_PROMOTED) = true) ∧
  (s.takesReg src .FAULT_CORE g → F.FAULT_CORE_KEY.of v = 0xA7 → F.FAULT_CORE_CLEAR.of v = 2 ^ o.val →
    Answers (.coreClear src g v) s fun t =>
      t.resp = .ok 0 ∧ t.b F.DAC_STATUS_CORE_FAILED g o = false ∧ t.bit F.FAULT_CORE_FAILED o g = false ∧
      t.flash.coreFailed[g].testBit o = false ∧
      RegsKept [⟨.DAC_STATUS, g, o, 0⟩, ⟨.FAULT_CORE, g, 0, 0⟩] s t ∧
      t = { s with regs := t.regs, flash := t.flash, resp := t.resp })

/-! ### Cells and limiters (R143, R148, R152 to R163) -/

/-- R148, R159, R161, R162: a commit of a valid cell set is pending; its hand-over comes at a crystal edge, disconnects the drivers of the
tracks that change, which the new ones follow 33 system clocks later, restarts the switched-capacitor clocks, and keeps what the cells
hold unless their FUNC changes; 12 system clocks later every word of the mirror is that of the shadow set. The phase of the clocks is the
model's choice (log entry 131). -/
def Obligations.CellSet : Prop := ∀ (s : State) (src : Src) (g : Grp) (v : Word),
  (s.takesReg src .CELL_COMMIT g → s.b F.CELL_SHADOW_PENDING g = false →
    (s.cellSetBad g (some v) = none → s.cal[g].run = none → AnswersThenModes (.cellCommit src g v) s fun u =>
      u.resp = .ok 0 ∧ u.b F.CELL_SHADOW_PENDING g = true ∧ u.r .CELL_COMMIT g = v &&& 0x1F ∧ u.cells[g].commitAt = s.clk ∧
      RegsKept [⟨.CELL_COMMIT, g, 0, 0⟩, ⟨.CELL_SHADOW, g, 0, 0⟩] s u ∧ u = { s with regs := u.regs, cells := u.cells, resp := u.resp }) ∧
    (∀ i, s.cellSetBad g (some v) = some i → AnswersThenModes (.cellCommit src g v) s fun u =>
      u.resp = .error ∧ u.b F.CELL_SHADOW_REJECTED g = true ∧ u.f F.CELL_SHADOW_REJ_WORD g = i ∧
      Counted F.CELL_SHADOW_REFUSED s u g ∧ NamesKept [.CELL_SHADOW, .FAB_PORT_ERR] s u ∧ OnlyRegs s u)) ∧
  (s.cellEdge g = true → Answers (.cellHandover g) s fun t =>
    t.cells[g].handed = true ∧ t.cells[g].connected = false ∧ t.cells[g].takenAt = s.clk ∧ t.cells[g].sck = Vector.replicate 4 0 ∧
    (∀ k : Fin 24, t.cells[g].held[k] = (s.cells[g].held[k] || decide (s.r .CELL_TRACK g k ≠ s.trackWord g k))) ∧
    (∀ c : Cell, t.cells[g].volts[c] =
      if F.CELL_CFG_FUNC.of (s.r .CELL_CFG g c) = s.cellFunc g c then s.cells[g].volts[c]
      else .rest (if F.CELL_CFG_FUNC.of (s.r .CELL_CFG g c) = 2 then levelVolts (s.f F.CELL_INIT_INIT g c) else 0)) ∧
    (∀ c : Cell, t.b F.CELL_STATUS_ACTIVE g c = (F.CELL_CFG_FUNC.of (s.r .CELL_CFG g c) != 0)) ∧
    NamesKept [.CELL_STATUS] s t ∧ t = { s with regs := t.regs, cells := t.cells }) ∧
  (s.cells[g].takenAt + 33 ≤ s.clk → Answers (.trackDriverConnect g) s fun t =>
    t.cells[g].connected = true ∧ t.cells[g].held = Vector.replicate 24 false ∧ t = { s with cells := t.cells }) ∧
  (s.Wf → s.cells[g].handed = true → s.cells[g].takenAt + 12 ≤ s.clk → Answers (.cellHandoverReported g) s fun t =>
    (∀ c : Cell, t.r .CELLM_CFG g c = s.r .CELL_CFG g c ∧ t.r .CELLM_FB g c = s.r .CELL_FB g c ∧
      t.r .CELLM_PARAM g c = s.r .CELL_PARAM g c ∧ t.r .CELLM_INIT g c = s.r .CELL_INIT g c ∧ t.r .CELLM_SC g c = s.r .CELL_SC g c ∧
      ∀ k, k < 3 → t.r .CELLM_IN g c k = s.r .CELL_IN g c k) ∧
    (∀ n, n < 24 → t.r .CELLM_TRACK g n = s.r .CELL_TRACK g n) ∧ (∀ k, k < 4 → t.r .CELLM_SCK g k = s.r .CELL_SCK g k) ∧
    t.cells[g].handed = false ∧ t.b F.CELL_SHADOW_PENDING g = false ∧ t.b F.CELL_SHADOW_DONE g = true)

/-- R143, R152 to R155: a cell takes the level that its control source has; clipping and limiting set their NOW bit, their sticky bit and
their count on entry, and clear NOW on leaving. -/
def Obligations.CellEvents : Prop := ∀ (s : State) (g : Grp) (c : Cell) (i : Ain) (l : Bool),
  (l = s.cellSource g c → Answers (.cellCtlChange g c l) s fun t =>
    let w := s.cellCfg g c
    let level := l != (F.CELL_CFG_CTL_INV.of w == 1)
    t.b F.CELL_STATUS_CTL_LEVEL g c = level ∧
    t.cells[g].modes[c] = cellModeOf (F.CELL_CFG_FUNC.of w) (F.CELL_CFG_SUBFN.of w) level ∧
    RegsKept [⟨.CELL_STATUS, g, c, 0⟩] s t ∧ t = { s with regs := t.regs, cells := t.cells }) ∧
  (s.cellClips g c = true → s.b F.CELL_STATUS_CLIP_NOW g c = false →
    Answers (.cellClipEntry g c) s fun t =>
      t.b F.CELL_STATUS_CLIP g c = true ∧ t.b F.CELL_STATUS_CLIP_NOW g c = true ∧ Counted F.CELL_STATUS_CLIP_COUNT s t g c ∧
      RegsKept [⟨.CELL_STATUS, g, c, 0⟩] s t ∧ OnlyRegs s t) ∧
  (s.cellClips g c = false → Answers (.cellClipExit g c) s fun t =>
    t.b F.CELL_STATUS_CLIP_NOW g c = false ∧ t.b F.CELL_STATUS_CLIP g c = s.b F.CELL_STATUS_CLIP g c ∧
    RegsKept [⟨.CELL_STATUS, g, c, 0⟩] s t ∧ OnlyRegs s t) ∧
  (s.alive g = true → s.inputMode g i = 1 → s.b F.INP_STATUS_LIMITING g i = false → Answers (.limiterEntry g i) s fun t =>
    t.b F.INP_STATUS_LIMITING g i = true ∧ t.b F.INP_STATUS_LIMITED g i = true ∧ Counted F.INP_STATUS_LIMIT_COUNT s t g i ∧
    RegsKept [⟨.INP_STATUS, g, i, 0⟩] s t ∧ OnlyRegs s t) ∧
  (Answers (.limiterExit g i) s fun t =>
    t.b F.INP_STATUS_LIMITING g i = false ∧ t.b F.INP_STATUS_FOLDBACK g i = false ∧
    RegsKept [⟨.INP_STATUS, g, i, 0⟩] s t ∧ OnlyRegs s t) ∧
  (s.b F.INP_STATUS_LIMITING g i = true → Answers (.limiterFoldback g i l) s fun t =>
    t.b F.INP_STATUS_FOLDBACK g i = l ∧ RegsKept [⟨.INP_STATUS, g, i, 0⟩] s t ∧ OnlyRegs s t)

/-! ### Outputs and DDS (R292 to R311) -/

/-- R273, R293 to R301: writes of an output's VALUE, which the KIND 1 monitors judge at the end of the system clock, of CFG and of NV, the
steps of a range change, and the closing of the gate after power-up. The end of the clock is the model's reading (log entry 143). -/
def Obligations.OutputWrites : Prop := ∀ (s : State) (src : Src) (g : Grp) (o : Out) (v : Word),
  (s.takesReg src .DAC_VALUE g o → s.standby = false → Answers (.dacValueWrite src g o v) s fun t =>
    t.resp = .ok 0 ∧ t.f F.DAC_VALUE_CODE g o = F.DAC_VALUE_CODE.of v ∧
    t.lim.due = s.lim.due ++ [.setpoint (g.val * 8 + o.val) (F.DAC_VALUE_CODE.of v)] ∧
    RegsKept [⟨.DAC_VALUE, g, o, 0⟩, ⟨.DAC_STATUS, g, o, 0⟩] s t ∧
    t = { s with regs := t.regs, outs := t.outs, lim := t.lim, pair := t.pair, resp := t.resp } ∧
    (s.outHeld g o = false → (s.out g o).phase = 0 → (t.out g o).code = BitVec.ofNat 16 (F.DAC_VALUE_CODE.of v))) ∧
  (s.takesReg src .DAC_VALUE g o → s.standby = true → src ≠ .pair → Answers (.dacValueWrite src g o v) s fun t =>
    t.resp = .ok 0 ∧ Counted F.PAIR_COUNTS_DISCARDED s t ∧ RegsKept [⟨.PAIR_COUNTS, 0, 0, 0⟩] s t ∧ OnlyRegs s t) ∧
  (s.takesReg src .DAC_CFG g o → s.standby = false → F.DAC_CFG_RANGE.of v ≠ 7 → F.DAC_CFG_SRC.of v ≠ 3 → F.DAC_CFG_TRACK.of v < 24 →
    (F.DAC_CFG_RANGE.of v = s.f F.DAC_CFG_RANGE g o ∨
      s.b F.DAC_STATUS_RANGE_BUSY g o = false ∧ s.b F.DAC_STATUS_RANGE_PEND g o = false) →
    Answers (.dacCfgWrite src g o v) s fun t =>
      t.resp = .ok 0 ∧ t.r .DAC_CFG g o = v &&& RegName.mask .DAC_CFG ∧
      RegsKept [⟨.DAC_CFG, g, o, 0⟩, ⟨.DAC_STATUS, g, o, 0⟩] s t ∧
      t = { s with regs := t.regs, outs := t.outs, pair := t.pair, resp := t.resp }) ∧
  (s.takesReg src .DAC_CFG g o → s.standby = false →
    (F.DAC_CFG_RANGE.of v = 7 ∨ F.DAC_CFG_SRC.of v = 3 ∨ 24 ≤ F.DAC_CFG_TRACK.of v) → Answers (.dacCfgWrite src g o v) s fun t =>
      t.resp = .error ∧ Counted F.DAC_REFUSED_COUNT s t g ∧ NamesKept [.DAC_REFUSED, .FAB_PORT_ERR] s t ∧ OnlyRegs s t) ∧
  ((s.out g o).phase = 1 → Answers (.rangeChangeStep g o) s fun t =>
    (t.out g o).phase = 2 ∧ RegsKept [⟨.DAC_STATUS, g, o, 0⟩] s t ∧ t = { s with regs := t.regs, outs := t.outs }) ∧
  ((s.out g o).phase = 2 → (s.out g o).target < 7 → Answers (.rangeChangeStep g o) s fun t =>
    (t.out g o).phase = 3 ∧ t.f F.DAC_STATUS_RANGE_NOW g o = (s.out g o).target ∧
    RegsKept [⟨.DAC_STATUS, g, o, 0⟩] s t ∧ t = { s with regs := t.regs, outs := t.outs }) ∧
  ((s.out g o).phase = 3 → s.f F.DAC_CFG_RANGE g o = s.f F.DAC_STATUS_RANGE_NOW g o → Answers (.rangeChangeStep g o) s fun t =>
    (t.out g o).phase = 0 ∧ t.b F.DAC_STATUS_RANGE_BUSY g o = false ∧
    RegsKept [⟨.DAC_STATUS, g, o, 0⟩] s t ∧ t = { s with regs := t.regs, outs := t.outs }) ∧
  (s.takesReg src .DAC_NV g o → F.DAC_NV_NV_RANGE.of v ≠ 7 → Answers (.nvRangeWrite src g o v) s fun t =>
    t.resp = .ok 0 ∧ t.f F.DAC_NV_NV_RANGE g o = F.DAC_NV_NV_RANGE.of v ∧
    t.flash = { s.flash with
      nv := s.nvArea.set (g.val * 8 + o.val) { s.nvArea[g.val * 8 + o.val] with range := F.DAC_NV_NV_RANGE.of v }
      nvBad := false, nvUntil := s.clk + 16384000 } ∧
    RegsKept [⟨.DAC_NV, g, o, 0⟩] s t ∧ t = { s with regs := t.regs, flash := t.flash, resp := t.resp }) ∧
  (s.takesReg src .DAC_NV g o → F.DAC_NV_NV_RANGE.of v = 7 → Answers (.nvRangeWrite src g o v) s fun t =>
    t.resp = .error ∧ Counted F.DAC_REFUSED_COUNT s t g ∧ NamesKept [.DAC_REFUSED, .FAB_PORT_ERR] s t ∧ OnlyRegs s t) ∧
  ((s.out g o).gateDelay = true → (s.out g o).gateFrom + 32768 ≤ s.clk → Answers (.nvGateClose g o) s fun t =>
    (t.out g o).gateDelay = false ∧ t.b F.DAC_STATUS_GATE_CLOSED g o = !t.gateOpen g o ∧
    RegsKept [⟨.DAC_STATUS, g, o, 0⟩] s t ∧ t = { s with regs := t.regs, outs := t.outs }) ∧
  (s.takesReg src .DAC_STATUS g o → F.DAC_STATUS_RB_FAULT.of v = 1 → s.b F.DAC_STATUS_RB_FAULT g o = true →
    Answers (.rbFaultClear src g o v) s fun t =>
      t.resp = .ok 0 ∧ t.b F.DAC_STATUS_RB_FAULT g o = false ∧ t.f F.DAC_STATUS_RB_RUN g o = 0 ∧
      t.f F.DAC_STATUS_RB_CAUSE g o = 0 ∧ t.bit F.DAC_STATUS_FAULT_BY 2 g o = false ∧
      t.b F.DAC_STATUS_FAULT_HOLD g o = s.b F.DAC_STATUS_FAULT_HOLD g o ∧
      RegsKept [⟨.DAC_STATUS, g, o, 0⟩] s t ∧ t = { s with regs := t.regs, mon := t.mon, resp := t.resp })

/-- R302 to R305: the shadow set of a DDS engine: a valid APPLY is pending, an invalid one is rejected and counted, and the hand-over, at an
edge where AT = 0 or the phase has wrapped, moves every word; ENABLE starts the accumulator at 0; the phase sent in FOLLOW; the clip flag.
-/
def Obligations.DdsEngines : Prop := ∀ (s : State) (src : Src) (g : Grp) (e : DdsE) (v : Word),
  (s.takesReg src .DDS_APPLY g e → s.standby = false → s.b F.DDS_STATUS_PENDING g e = false →
    (s.ddsInvalid g e = false → Answers (.ddsApply src g e v) s fun t =>
      t.resp = .ok 0 ∧ t.b F.DDS_STATUS_PENDING g e = true ∧ (t.ddsE g e).atWrap = (F.DDS_APPLY_AT.of v == 1) ∧
      RegsKept [⟨.DDS_APPLY, g, e, 0⟩, ⟨.DDS_STATUS, g, e, 0⟩] s t ∧
      t = { s with regs := t.regs, dds := t.dds, pair := t.pair, resp := t.resp }) ∧
    (s.ddsInvalid g e = true → Answers (.ddsApply src g e v) s fun t =>
      t.resp = .error ∧ t.b F.DDS_STATUS_PENDING g e = false ∧ t.b F.DDS_STATUS_REJECTED g e = true ∧
      Counted F.DDS_STATUS_REFUSED s t g e ∧ NamesKept [.DDS_STATUS, .FAB_PORT_ERR] s t)) ∧
  (s.Wf → s.alive g = true → s.b F.DDS_STATUS_PENDING g e = true → s.ddsEdgeDue g e = true → Answers (.ddsHandover g e) s fun t =>
    t.r .DDSM_FTW_LO g e = s.r .DDS_FTW_LO g e ∧ t.r .DDSM_FTW_HI g e = s.r .DDS_FTW_HI g e ∧
    t.r .DDSM_AMP g e = s.r .DDS_AMP g e ∧ t.r .DDSM_PHASE g e = s.r .DDS_PHASE g e ∧
    t.r .DDSM_FOLLOW g e = s.r .DDS_FOLLOW g e ∧ t.r .DDSM_RATIO g e = s.r .DDS_RATIO g e ∧
    t.b F.DDS_STATUS_PENDING g e = false ∧ t.b F.DDS_STATUS_DONE g e = true ∧ OnlyRegs s t) ∧
  (s.takesReg src .DDS_CTRL g e → F.DDS_CTRL_ENABLE.of v = 1 → s.b F.DDS_CTRL_ENABLE g e = false →
    Answers (.ddsEnableWrite src g e v) s fun t =>
      t.resp = .ok 0 ∧ t.b F.DDS_CTRL_ENABLE g e = true ∧ (t.ddsE g e).acc = 0 ∧
      t.b F.DDS_STATUS_RUNNING g e = !s.mode parked ∧
      RegsKept [⟨.DDS_CTRL, g, e, 0⟩, ⟨.DDS_STATUS, g, e, 0⟩] s t ∧ t = { s with regs := t.regs, dds := t.dds, resp := t.resp }) ∧
  (s.ddsOn g e = true → s.ddsFollows g e = true → s.mode parked = false → Answers (.ddsFollowUpdate g e) s fun t =>
    let k := s.f F.DDSM_FOLLOW_TRK g e
    let ratio := s.f F.DDSM_RATIO_RATIO g e
    t.ddsPhase g e = ((s.f F.TRK_PHASE_LO_PHASE k + 2 ^ 32 * s.f F.TRK_PHASE_HI_PHASE k) * ratio +
      s.f F.DDSM_PHASE_PHASE_OFS g e * 2 ^ 32) % 2 ^ 48 ∧
    (t.ddsE g e).step = signed 32 (s.f F.TRK_VEL_VEL k) * ratio * 65536 ∧ t = { s with dds := t.dds }) ∧
  (s.ddsOn g e = true → (s.ddsSample g e < 0 ∨ 0xFFFF < s.ddsSample g e) → Answers (.ddsSampleClip g e) s fun t =>
    t.b F.DDS_STATUS_CLIP g e = true ∧ (t.ddsCode g e = 0 ∨ t.ddsCode g e = 0xFFFF) ∧
    RegsKept [⟨.DDS_STATUS, g, e, 0⟩] s t ∧ OnlyRegs s t)

/-! ### Comparators and pins (R313 to R333) -/

/-- R314 to R319: a comparator that is enabled waits for its next filter edge and presents INIT there; a refused CFG is counted; a threshold
that keeps the rule of the MODE in force is taken, and acts at a filter edge 1 µs later; the raw level follows the input where it meets a
condition; the filtered level is the one that at least N of the last M samples have. The phase of the filter edges is the model's choice
(log entry 148). -/
def Obligations.Comparators : Prop := ∀ (s : State) (src : Src) (g : Grp) (k : Kmp) (v : Word),
  (s.takesReg src .CMP_CFG g k → s.cmpCfgRefused g k v = false → Answers (.cmpCfgWrite src g k v) s fun t =>
    t.resp = .ok 0 ∧ t.r .CMP_CFG g k = v &&& RegName.mask .CMP_CFG ∧
    ((s.kmp g k).run = .off → (s.kmp g k).want = none → s.alive g = true → s.released = true → s.mode reducedMode = false →
      F.CMP_CFG_ENABLE.of v = 1 → (t.kmp g k).want = some (.configured, s.clk) ∧ (t.kmp g k).run = .off)) ∧
  (s.takesReg src .CMP_CFG g k → s.cmpCfgRefused g k v = true → Answers (.cmpCfgWrite src g k v) s fun t =>
    t.resp = .error ∧ Counted F.CMP_REFUSED_COUNT s t g ∧ NamesKept [.CMP_REFUSED, .FAB_PORT_ERR] s t ∧ OnlyRegs s t) ∧
  (s.takesReg src .CMP_THR g k →
    cmpRule (s.f F.CMP_CFG_MODE g k) (signed 14 (F.CMP_THR_A.of v)) (signed 14 (F.CMP_THR_B.of v)) (s.f F.CMP_HYST_HYST g k) = true →
    Answers (.cmpThresholdWrite src g k false v) s fun t =>
      t.resp = .ok 0 ∧ t.r .CMP_THR g k = v &&& RegName.mask .CMP_THR ∧
      ((s.kmp g k).run = .configured → (t.kmp g k).thrAt = some s.clk) ∧
      RegsKept [⟨.CMP_THR, g, k, 0⟩] s t ∧ t = { s with regs := t.regs, cmps := t.cmps, resp := t.resp }) ∧
  (s.takesReg src .CMP_HYST g k →
    cmpRule (s.f F.CMP_CFG_MODE g k) (signed 14 (s.f F.CMP_THR_A g k)) (signed 14 (s.f F.CMP_THR_B g k)) (F.CMP_HYST_HYST.of v) = true →
    Answers (.cmpThresholdWrite src g k true v) s fun t =>
      t.resp = .ok 0 ∧ t.f F.CMP_HYST_HYST g k = F.CMP_HYST_HYST.of v ∧ RegsKept [⟨.CMP_HYST, g, k, 0⟩] s t) ∧
  ((s.kmp g k).run ≠ .off → Answers (.cmpRawChange g k ()) s fun t =>
    let c := s.kmp g k
    t.b F.CMP_STATUS_RAW g k = (cmpCall (s.f F.CMP_CFG_MODE g k) c.a c.b c.hyst (s.cmpInput g k)).getD (s.b F.CMP_STATUS_RAW g k) ∧
    RegsKept [⟨.CMP_STATUS, g, k, 0⟩] s t ∧ OnlyRegs s t) ∧
  (s.cmpEdgeDue g k = true → (s.kmp g k).run ≠ .off → (s.kmp g k).want = none →
    ((s.kmp g k).thrAt = none → Answers (.cmpFilterChange g k) s fun t =>
      let l := (s.cmpNow g k).getD (s.b F.CMP_STATUS_RAW g k)
      let w := (l :: (s.kmp g k).samples).take (s.f F.CMP_CFG_M g k)
      let n := s.f F.CMP_CFG_N g k
      (t.kmp g k).samples = w ∧ (t.kmp g k).edgeAt = some s.clk ∧
      t.cmpF g k = (if n ≤ w.count true then true else if n ≤ w.count false then false else s.cmpF g k) ∧
      (t.cmpF g k ≠ s.cmpF g k → Counted F.CMP_STATUS_EDGES s t g k)) ∧
    (∀ c, (s.kmp g k).thrAt = some c → c + 164 ≤ s.clk → Answers (.cmpFilterChange g k) s fun t =>
      (t.kmp g k).a = signed 14 (s.f F.CMP_THR_A g k) ∧ (t.kmp g k).b = signed 14 (s.f F.CMP_THR_B g k) ∧
      (t.kmp g k).hyst = s.f F.CMP_HYST_HYST g k ∧ (t.kmp g k).thrAt = none)) ∧
  (∀ r c n, s.cmpEdgeDue g k = true → (s.kmp g k).want = some (r, n) → s.cmpSet g k r = some c → 2 ≤ s.f F.CMP_CFG_N g k →
    Answers (.cmpFilterChange g k) s fun t =>
      (t.kmp g k).run = r ∧ (t.kmp g k).a = c.a ∧ (t.kmp g k).b = c.b ∧ (t.kmp g k).hyst = c.hyst ∧
      t.b F.CMP_STATUS_ACTIVE g k = true ∧ t.b F.CMP_STATUS_NV_SET g k = (r == .nv) ∧ t.cmpF g k = c.init)

/-- R326 to R329: a CFG word that a pin does not refuse, the four ways to write the stored output bits, and the sequence that locks pins. -/
def Obligations.PinWrites : Prop := ∀ (s : State) (src : Src) (g : Grp) (p : Pin) (v : Word),
  (s.takes src (pinCfgOffset g p) → s.pinCfgBad g p v = false → Answers (.pinFuncWrite src g p v) s fun t =>
    t.resp = .ok 0 ∧ t.pinFunc g p = F.PIN_P_CFG_FUNC.of v ∧ t.bit F.PIN_DRIVEN_DRIVEN p g = (t.pinDrive g p).isSome ∧
    NamesKept [.PIN_P_CFG, .PIN_DP_CFG, .PIN_DRIVEN, .PIN_FIELD, .PIN_LEVEL] s t ∧
    t = { s with regs := t.regs, seed := t.seed, resp := t.resp }) ∧
  (s.takes src (pinCfgOffset g p) → s.pinCfgBad g p v = true → Answers (.pinFuncWrite src g p v) s fun t =>
    t.resp = .error ∧ Counted F.PIN_REFUSED_COUNT s t g ∧ NamesKept [.PIN_REFUSED, .FAB_PORT_ERR] s t ∧ OnlyRegs s t) ∧
  (s.standby = false →
    let put := fun (t : State) (b : Pin → Bool) => t.resp = .ok 0 ∧ (∀ q : Pin, t.bit F.PIN_OUT_OUT q g = b q) ∧
      NamesKept [.PIN_OUT, .PIN_DRIVEN, .PIN_FIELD, .PIN_LEVEL] s t ∧
      t = { s with regs := t.regs, seed := t.seed, pair := t.pair, resp := t.resp }
    (s.takesReg src .PIN_OUT g → Answers (.pinOutWrite src g v) s fun t => put t fun q => v.getLsbD q) ∧
    (s.takesReg src .PIN_OUT_SET g → Answers (.pinOutSet src g v) s fun t => put t fun q => s.bit F.PIN_OUT_OUT q g || v.getLsbD q) ∧
    (s.takesReg src .PIN_OUT_CLR g → Answers (.pinOutClr src g v) s fun t => put t fun q => s.bit F.PIN_OUT_OUT q g && !v.getLsbD q) ∧
    (s.takesReg src .PIN_OUT_TGL g → Answers (.pinOutTgl src g v) s fun t => put t fun q => s.bit F.PIN_OUT_OUT q g != v.getLsbD q)) ∧
  (s.takesReg src .PIN_LOCK g →
    let step := s.f F.PIN_LOCKED_STEP g
    let goes := fun (n : Nat) => Answers (.pinLockWrite src g v) s fun t =>
      t.resp = .ok 0 ∧ t.f F.PIN_LOCKED_STEP g = n ∧ t.f F.PIN_LOCKED_LOCKED g = s.f F.PIN_LOCKED_LOCKED g ∧
      RegsKept [⟨.PIN_LOCKED, g, 0, 0⟩] s t ∧ OnlyRegs s t
    (step = 0 → v = 0xA5 → goes 1) ∧ (step = 1 → v = 0x5A → goes 2) ∧
    (step = 2 → v.toNat < 2 ^ 20 → Answers (.pinLockWrite src g v) s fun t =>
      t.resp = .ok 0 ∧ t.f F.PIN_LOCKED_STEP g = 0 ∧ (∀ q : Pin, t.pinLocked g q = (s.pinLocked g q || v.getLsbD q)) ∧
      NamesKept [.PIN_LOCKED, .SYS_LOCKS] s t ∧ OnlyRegs s t) ∧
    (step = 1 → v ≠ 0x5A → Answers (.pinLockWrite src g v) s fun t =>
      t.resp = .error ∧ Counted F.PIN_REFUSED_COUNT s t g ∧ t.f F.PIN_LOCKED_LOCKED g = s.f F.PIN_LOCKED_LOCKED g))

/-- R321, R323, R324: a FIELD switch in overload turns off and latches, and its retry 100 ms later; a pair in fail-safe; a level from outside.
-/
def Obligations.PinEvents : Prop := ∀ (s : State) (g : Grp) (p : GPin) (d : Dp) (q : Pin) (l : Bool),
  let i : Pin := p.castLE (by decide)
  (F.PIN_P_CFG_CLASS.of (s.pinCfg g i) = 1 → s.pinDrive g i = some true → s.vfldOk g = true → (s.pin g i).tripped = false →
    Answers (.fieldOverload g p) s fun t =>
      (t.pin g i).tripped = true ∧ (t.pin g i).tripAt = s.clk ∧ t.bit F.PIN_FIELD_OVERLOAD p g = true ∧
      t = { s with regs := t.regs, pins := t.pins, log := t.log, seed := t.seed }) ∧
  ((s.pin g i).tripped = true → s.pinDrive g i = some true → (s.pin g i).tripAt + 16384000 ≤ s.clk →
    (Answers (.fieldRetry g p true) s fun t =>
      Counted F.PIN_DP_STATUS_OVL_COUNT s t g ∧ (t.pin g i).tripped = true ∧ (t.pin g i).tripAt = s.clk ∧
      RegsKept [⟨.PIN_DP_STATUS, g, 0, 0⟩] s t ∧ t = { s with regs := t.regs, pins := t.pins }) ∧
    (Answers (.fieldRetry g p false) s fun t =>
      (t.pin g i).tripped = false ∧ NamesKept [.PIN_DRIVEN, .PIN_FIELD, .PIN_LEVEL] s t ∧
      t = { s with regs := t.regs, pins := t.pins, seed := t.seed })) ∧
  (s.alive g = true → Answers (.pairFailsafe g d) s fun t =>
    let j : Pin := ⟨16 + d.val, by omega⟩
    t.bit F.PIN_DP_STATUS_FS_NOW d g = true ∧ t.bit F.PIN_DP_STATUS_FS d g = true ∧ (t.pin g j).ext = none ∧
    (s.pinFunc g j ≠ 0 → s.pinDrive g j = none → t.bit F.PIN_LEVEL_LEVEL j g = true)) ∧
  (Answers (.pinLevelChange g q (some l)) s fun t =>
    (t.pin g q).ext = some l ∧ t.bit F.PIN_LEVEL_LEVEL q g = (s.pinFunc g q != 0 && l) ∧
    (16 ≤ q.val → t.bit F.PIN_DP_STATUS_FS_NOW (q.val - 16) g = false) ∧
    NamesKept [.PIN_DRIVEN, .PIN_FIELD, .PIN_LEVEL, .PIN_DP_STATUS] s t ∧ t = { s with regs := t.regs, pins := t.pins })

/-! ### Limits, SAFE and the watchdog (R273 to R284) -/

/-- R273 to R275, R285: at the end of a system clock a record that waits, or a code written to an output, is judged: a value outside the
limits is one violation more, one within them ends the row. A monitor in whose STALE period no record came has one violation more, and
trips at its COUNT; a TRIPPED bit clears only where the latest evaluation lay within the limits. That what waits is judged at the end of
the clock, and from where a STALE period runs, is the model's reading (log entries 143 and 144). -/
def Obligations.MonitorEvaluations : Prop := ∀ (s : State) (src : Src) (m : Monitor) (i : Fin 4) (b : Fin 32),
  let run := min (s.f F.LIMIT_STAT_RUN m + 1) 255
  let judges := fun (bad : Bool) =>
    let u := Act.limitsTurn.run s
    u.lim.due = [] ∧ u.lim.within[m] = !bad ∧ u.f F.LIMIT_STAT_RUN m = (if bad then run else 0) ∧
    (bad = true → s.tripped m = false → s.f F.MON_CFG_COUNT m ≤ run → u.tripped m = true ∧ u.f F.LIMIT_STAT_STATE m = 3) ∧
    (bad = false ∨ run < s.f F.MON_CFG_COUNT m → u.tripped m = s.tripped m)
  (∀ r, s.limitsLive = true → s.enabledMonitors = [m.val] → s.lim.due = [.record r] → s.evaluates m r = true →
    judges (r.ovr && s.b F.MON_CFG_OVR_VIOL m || s.violates m r.sample)) ∧
  (∀ c, s.limitsLive = true → s.enabledMonitors = [m.val] → s.lim.due = [.setpoint (s.f F.MON_CFG_SRC m) c] →
    s.b F.MON_CFG_KIND m = true → judges (s.violates m c)) ∧
  (s.limitsLive = true → s.b F.MON_CFG_ENABLE m = true → s.b F.MON_CFG_KIND m = false → s.f F.MON_CFG_STALE m ≠ 0 →
    s.staleAt m ≤ s.clk → Answers (.monitorStale m) s fun t =>
      t.lim.seen[m] = s.clk ∧
      t.b F.LIMIT_STAT_STALE m = true ∧ t.f F.LIMIT_STAT_RUN m = run ∧ t.lim.within[m] = false ∧
      (s.tripped m = false → s.f F.MON_CFG_COUNT m ≤ run →
        t.tripped m = true ∧ t.f F.LIMIT_STAT_STATE m = 3 ∧ Counted F.LIMIT_STAT_TRIPS s t m ∧
        (s.b F.MON_ACT_SAFE m = true → t.b F.LIMIT_SAFE_ACTIVE = true)) ∧
      (s.tripped m = false → run < s.f F.MON_CFG_COUNT m → t.tripped m = false ∧ t.f F.LIMIT_STAT_STATE m = 2)) ∧
  (let n := monitorOf (32 * i + b)
   s.takesReg src .LIMIT_TRIPPED i → s.tripped n = true →
    (s.lim.within[n] = true → s.b F.LIMIT_STAT_STALE n = false →
      Answers (.trippedClear src i (BitVec.ofNat 32 (2 ^ b.val))) s fun t =>
        t.resp = .ok 0 ∧ t.tripped n = false ∧ t.f F.LIMIT_STAT_RUN n = 0 ∧
        t.f F.LIMIT_STAT_STATE n = (if s.b F.MON_CFG_ENABLE n then 1 else 0) ∧
        NamesKept [.LIMIT_TRIPPED, .LIMIT_STAT, .DAC_STATUS] s t ∧ OnlyRegs s t) ∧
    ((s.lim.within[n] = false ∨ s.b F.LIMIT_STAT_STALE n = true) →
      Answers (.trippedClear src i (BitVec.ofNat 32 (2 ^ b.val))) s fun t =>
        t.resp = .ok 0 ∧ t.tripped n = true ∧ NamesKept [.DAC_STATUS] s t ∧ OnlyRegs s t))

/-- R278, R279: a word of a monitor is taken where the monitor would be valid and, once locked, no looser; LOCK takes its key. -/
def Obligations.MonitorWrites : Prop := ∀ (s : State) (src : Src) (m : Monitor) (r : MonReg) (v : Word),
  (s.takesReg src (monRegName r) m →
    let new := (s.monWords m).put r v
    (new.invalid = false → (s.limitLocked = false ∨ (s.monWords m).tightens new = true) → Answers (.monitorWrite src m r v) s fun t =>
      t.resp = .ok 0 ∧ t.r (monRegName r) m = v &&& (monRegName r).mask ∧
      NamesKept [monRegName r, .LIMIT_STAT, .DAC_STATUS] s t ∧ t = { s with regs := t.regs, lim := t.lim, resp := t.resp }) ∧
    ((new.invalid = true ∨ s.limitLocked = true ∧ (s.monWords m).tightens new = false) → Answers (.monitorWrite src m r v) s fun t =>
      t.resp = .error ∧ Counted F.LIMIT_REFUSED_COUNT s t ∧ NamesKept [.LIMIT_REFUSED, .FAB_PORT_ERR] s t ∧ OnlyRegs s t)) ∧
  (s.takesReg src .LIMIT_LOCK → (F.LIMIT_LOCK_KEY.of v = 0x3C → Answers (.limitLock src v) s fun t =>
      t.resp = .ok 0 ∧ t.limitLocked = true ∧ t.b F.SYS_LOCKS_LIMIT = true ∧
      RegsKept [⟨.LIMIT_LOCK, 0, 0, 0⟩, ⟨.SYS_LOCKS, 0, 0, 0⟩] s t ∧ OnlyRegs s t) ∧
    (F.LIMIT_LOCK_KEY.of v ≠ 0x3C → Answers (.limitLock src v) s fun t =>
      t.resp = .error ∧ t.limitLocked = s.limitLocked ∧ Counted F.LIMIT_REFUSED_COUNT s t ∧ OnlyRegs s t))

/-- R281, R282: the pin and ENTER enter SAFE, which puts every output into its fault state; RELEASE ends it only where nothing holds it;
causes clear by a write of 1. -/
def Obligations.SafeState : Prop := ∀ (s : State) (src : Src) (v : Word),
  let entered := fun (t : State) (cause : Nat) =>
    t.b F.LIMIT_SAFE_ACTIVE = true ∧ t.bit F.LIMIT_SAFE_CAUSE cause = true ∧
    (s.b F.LIMIT_SAFE_ACTIVE = false → ∀ (g : Grp) (o : Out),
      t.b F.DAC_STATUS_FAULT_HOLD g o = true ∧ t.bit F.DAC_STATUS_FAULT_BY 0 g o = true)
  (s.up = true → Answers .safePinLow s fun t => t.b F.LIMIT_SAFE_PIN = true ∧ t.pwr.safePinLow = true ∧ entered t 0) ∧
  (s.up = true → Answers .safePinHigh s fun t =>
    t.b F.LIMIT_SAFE_PIN = false ∧ t.b F.LIMIT_SAFE_ACTIVE = s.b F.LIMIT_SAFE_ACTIVE ∧ t.pwr.safePinLow = false ∧
    RegsKept [⟨.LIMIT_SAFE, 0, 0, 0⟩] s t ∧ t = { s with regs := t.regs, pwr := t.pwr }) ∧
  (s.takesReg src .LIMIT_SAFE →
    (F.LIMIT_SAFE_ENTER.of v = 1 → Answers (.safeEnterWrite src v) s fun t => t.resp = .ok 0 ∧ entered t 3) ∧
    (F.LIMIT_SAFE_ENTER.of v = 0 → F.LIMIT_SAFE_RELEASE.of v = 1 → s.safeMayEnd = true → Answers (.safeRelease src v) s fun t =>
      t.resp = .ok 0 ∧ t.b F.LIMIT_SAFE_ACTIVE = false ∧ ∀ (g : Grp) (o : Out),
        t.bit F.DAC_STATUS_FAULT_BY 0 g o = false ∧ t.b F.DAC_STATUS_FAULT_HOLD g o = s.b F.DAC_STATUS_FAULT_HOLD g o) ∧
    (F.LIMIT_SAFE_ENTER.of v = 0 → F.LIMIT_SAFE_RELEASE.of v = 1 → s.safeMayEnd = false → Answers (.safeRelease src v) s fun t =>
      t.resp = .error ∧ Counted F.LIMIT_REFUSED_COUNT s t ∧ NamesKept [.LIMIT_REFUSED, .FAB_PORT_ERR] s t ∧ OnlyRegs s t) ∧
    (F.LIMIT_SAFE_ENTER.of v = 0 → F.LIMIT_SAFE_RELEASE.of v = 0 → Answers (.safeCauseClear src v) s fun t =>
      t.resp = .ok 0 ∧ t.f F.LIMIT_SAFE_CAUSE = s.f F.LIMIT_SAFE_CAUSE &&& (31 - F.LIMIT_SAFE_CAUSE.of v) ∧
      t.b F.LIMIT_SAFE_ACTIVE = s.b F.LIMIT_SAFE_ACTIVE ∧ RegsKept [⟨.LIMIT_SAFE, 0, 0, 0⟩] s t ∧ OnlyRegs s t))

/-- R283, R284: a kick with its key reloads the watchdog where the host or a step engine sends it; a write of WDOG that clears EXPIRED or
names another TIMEOUT reloads it; TIMEOUT ms after the last reload it expires: EXPIRED sets, ACTION 0 and 1 enter SAFE, ACTION 1 faults
every engine with code 5, and ACTION 2 resets the module. Which writes and which kicks reload it is the model's reading (log entry 145).
-/
def Obligations.Watchdog : Prop := ∀ (s : State) (src : Src) (v : Word),
  (s.takesReg src .LIMIT_WDOG_KICK → (F.LIMIT_WDOG_KICK_KEY.of v = 0x96 → Answers (.watchdogKick src v) s fun t =>
      t.resp = .ok 0 ∧ t.lim.wdogRef = (if kickSource src then s.clk else s.lim.wdogRef) ∧
      t = { s with lim := t.lim, resp := t.resp }) ∧
    (F.LIMIT_WDOG_KICK_KEY.of v ≠ 0x96 → Answers (.watchdogKick src v) s fun t =>
      t.resp = .error ∧ t.lim.wdogRef = s.lim.wdogRef ∧ Counted F.LIMIT_REFUSED_COUNT s t ∧ OnlyRegs s t)) ∧
  (s.takesReg src .LIMIT_WDOG → F.LIMIT_WDOG_ACTION.of v ≠ 3 → s.limitLocked = false → Answers (.wdogWrite src v) s fun t =>
    t.resp = .ok 0 ∧ t.f F.LIMIT_WDOG_TIMEOUT = F.LIMIT_WDOG_TIMEOUT.of v ∧ t.f F.LIMIT_WDOG_ACTION = F.LIMIT_WDOG_ACTION.of v ∧
    t.b F.LIMIT_WDOG_EXPIRED = (s.b F.LIMIT_WDOG_EXPIRED && F.LIMIT_WDOG_EXPIRED.of v == 0) ∧
    t.lim.wdogRef = (if F.LIMIT_WDOG_EXPIRED.of v = 1 ∨ F.LIMIT_WDOG_TIMEOUT.of v ≠ s.f F.LIMIT_WDOG_TIMEOUT then s.clk
      else s.lim.wdogRef) ∧
    RegsKept [⟨.LIMIT_WDOG, 0, 0, 0⟩] s t ∧ t = { s with regs := t.regs, lim := t.lim, resp := t.resp }) ∧
  (s.takesReg src .LIMIT_WDOG → F.LIMIT_WDOG_ACTION.of v = 3 → Answers (.wdogWrite src v) s fun t =>
    t.resp = .error ∧ t.r .LIMIT_WDOG = s.r .LIMIT_WDOG ∧ Counted F.LIMIT_REFUSED_COUNT s t ∧ OnlyRegs s t) ∧
  (s.wdogRuns = true → s.wdogDue = true →
    (s.f F.LIMIT_WDOG_ACTION ≤ 1 → Answers .watchdogExpiry s fun t =>
      t.b F.LIMIT_WDOG_EXPIRED = true ∧ t.b F.LIMIT_SAFE_ACTIVE = true ∧ t.bit F.LIMIT_SAFE_CAUSE 2 = true ∧
      (s.f F.LIMIT_WDOG_ACTION = 1 → ∀ e : Eng, t.engState e = engFaulted ∧ t.f F.ENG_STATUS_FAULT e = 5)) ∧
    (s.f F.LIMIT_WDOG_ACTION = 2 → Answers .watchdogExpiry s fun t =>
      t.pwr.life = .boot ∧ t.pwr.warm = true ∧ t.f F.SYS_RST_CAUSE_CAUSE = 3 ∧ t.b F.LIMIT_WDOG_EXPIRED = false))

/-! ### Modes (R44 to R48) -/

/-- R45, R46: a write of SYS.MODE replaces the request, and the in-force set is evaluated with it. -/
def Obligations.ModeRequest : Prop := ∀ (s : State) (src : Src) (v : Word), s.takesReg src .SYS_MODE →
  AnswersThenModes (.sysModeWrite src v) s fun u =>
    u.resp = .ok 0 ∧ u.f ⟨.SYS_MODE, 0, 8⟩ = v.toNat % 256 ∧ RegsKept [⟨.SYS_MODE, 0, 0, 0⟩] s u ∧
    u = { s with regs := u.regs, pwr := u.pwr, resp := u.resp }

/-- R45 to R48: what every evaluation leaves in SYS.MODE_EFF: REDUCED alone before release, REDUCED added under a forcing condition, and what
PARKED and REDUCED hold back. Where it changes the set in force, CHG takes the bits that changed, COUNT counts and the stamp is the time
of the change; where it does not, all of them stay. -/
def Obligations.ModesInForce : Prop := ∀ (s : State), s.up = true →
  let t := Act.modes.run s
  let request := s.f ⟨.SYS_MODE, 0, 8⟩
  let now := s.modeEff &&& (255 - s.modeSusp)
  let eff := if s.released = false then 8 else if s.f F.SYS_MODE_EFF_FORCE_CAUSE = 0 then request else request ||| 8
  t.f F.SYS_MODE_EFF_EFF = eff ∧ t.f F.SYS_MODE_EFF_SUSP = s.modeSusp ∧ t.r .SYS_MODE = s.r .SYS_MODE ∧
  t.pwr.released = s.pwr.released ∧ t.clk = s.clk ∧ t.time = s.time ∧
  (now = s.inForce → t.r .SYS_MODE_CHG = s.r .SYS_MODE_CHG ∧ t.r .SYS_MODE_STAMP_LO = s.r .SYS_MODE_STAMP_LO ∧
    t.r .SYS_MODE_STAMP_HI = s.r .SYS_MODE_STAMP_HI) ∧
  (now ≠ s.inForce → t.f F.SYS_MODE_CHG_CHG = s.f F.SYS_MODE_CHG_CHG ||| (now ^^^ s.inForce) ∧ Counted F.SYS_MODE_CHG_COUNT s t ∧
    t.r .SYS_MODE_STAMP_LO = BitVec.ofNat 32 s.ns ∧ t.r .SYS_MODE_STAMP_HI = BitVec.ofNat 32 (s.ns / 2 ^ 32))

/-! ### The monitor converter (R306) -/

/-- R176, R177, R183, R306: at the output instant of a slot of the monitor converter MON.READ takes the reading of its window, its overload
flag and the node it converted, and the next slot follows at the next modulator edge; the slot of the die temperature sets it. The phase
of the slots is the model's choice (log entry 150). -/
def Obligations.MonitorConverter : Prop := ∀ (s : State) (g : Grp), s.slotDue g = true →
  AnswersThenModes (.monitorReading g () ()) s fun u =>
    let slot := s.f F.MON_STATUS_SLOT g
    u.f F.MON_READ_SAMPLE g slot = unsigned 24 (s.slotValue g) ∧ u.b F.MON_READ_OVR g slot = (s.slotOverload g).isSome ∧
    u.f F.MON_READ_NODE g slot = s.mon[g].node % 2 ^ F.MON_READ_NODE.width ∧
    u.f F.MON_STATUS_SLOT g = (slot + 1) % 16 ∧
    u.f F.MON_STATUS_CYCLES g = (s.f F.MON_STATUS_CYCLES g + (if slot = 15 then 1 else 0)) % 65536 ∧
    (slot = 9 → u.cal[g].temp = dieTemperature (s.slotValue g)) ∧
    u.mon[g].slotStart = (s.clk + 15) / 16 * 16 ∧ u.mon[g].node = u.slotNode g ∧ u.mon[g].dec = .clear

/-! ### Pairs (R437 to R443) -/

/-- R438, R439, R441, R442: heartbeats and what their answers tell, the role decided by the first of them, the take-over by a ready standby,
and the mirrored writes. -/
def Obligations.Pairs : Prop := ∀ (s : State) (src : Src) (a : PairAnswer) (off : BitVec 24) (v : Word) (acked : Bool),
  (s.pairing = true →
    (AnswersThenModes (.pairHeartbeat none) s fun u => u.b F.PAIR_STATUS_PARTNER_SEEN = false ∧ u.pairRole = s.pairRole) ∧
    (AnswersThenModes (.pairHeartbeat (some a)) s fun u =>
      u.b F.PAIR_STATUS_PARTNER_SEEN = true ∧
      u.b F.PAIR_STATUS_MISMATCH = (a.build != s.r .CFG_BUILD_ID || a.policy != s.r .STEP_POL_INFO)) ∧
    (s.standby = true → s.silentFor 1638400 = true → AnswersThenModes (.pairRoleDecide none) s fun u =>
      u.pairRole = 1 ∧ u.pair.heard = true) ∧
    (s.standby = true → s.pair.heard = false → s.mode reducedMode = false → F.PAIR_STATUS_ROLE.of a.status ≠ 1 →
      s.f F.PAIR_CFG_PREF = F.PAIR_CFG_PREF.of a.cfg → s.ownNumber.toNat < s.partner.toNat →
      AnswersThenModes (.pairRoleDecide (some a)) s fun u => u.pairRole = 1 ∧ u.pair.heard = true) ∧
    (s.standby = true → s.pair.heard = false → F.PAIR_STATUS_ROLE.of a.status = 1 →
      AnswersThenModes (.pairRoleDecide (some a)) s fun u => u.pairRole = 2 ∨ u.pairRole = 3) ∧
    (s.pairRole = 2 →
      (s.partnerLost = true → AnswersThenModes .takeover s fun u =>
        u.pairRole = 1 ∧ u.b F.FAULT_EVENTS_TAKEOVER = true ∧ u.b F.FAULT_EVENTS_PARTNER_LOST = true ∧
        Counted F.PAIR_COUNTS_TAKEOVERS s u ∧ u.b F.PAIR_STATUS_PARTNER_SEEN = false) ∧
      (s.partnerLost = false → AnswersThenModes .takeover s fun u => u = s) ∧
      (s.pair.yields = true → AnswersThenModes .pairYieldSeen s fun u =>
        u.pairRole = 1 ∧ u.pair.currentHeld = true ∧ Counted F.PAIR_COUNTS_TAKEOVERS s u)) ∧
    (s.takesReg src .PAIR_CTRL → v.getLsbD 0 = true →
      (s.pairRole = 1 → s.pair.partner = 2 → AnswersThenModes (.pairSwap src v) s fun u =>
        u.resp = .ok 0 ∧ u.b F.PAIR_STATUS_YIELD = true ∧ RegsKept [⟨.PAIR_STATUS, 0, 0, 0⟩] s u ∧ OnlyRegs s u) ∧
      (s.pairRole ≠ 1 ∨ s.pair.partner ≠ 2 → AnswersThenModes (.pairSwap src v) s fun u =>
        u.resp = .error ∧ Counted F.FAULT_REFUSED_COUNT s u ∧ NamesKept [.FAULT_REFUSED, .FAB_PORT_ERR] s u ∧ OnlyRegs s u)) ∧
    (∀ l, s.pair.mirrorQ = (off, v) :: l → s.pairRole = 1 → Answers (.pairMirrorWrite off v acked) s fun t =>
      t.pair.mirrorQ = l ∧ t.b F.PAIR_STATUS_SYNCED = (!s.pair.behind && acked) ∧
      NamesKept [.PAIR_STATUS, .COLYS_COUNTS] s t))

/-! ### Supply, start-up and resets (R57 to R83) -/

/-- R61, R70, R72, R81: a supply reset leaves the supervisor in start-up with every register at its reset value but those that flash, OTP, the
straps or the supply give, its memories at 0, its berths empty and the flash log kept; the first step of start-up makes it answer. -/
def Obligations.SupplyResets : Prop := ∀ (s : State) (head : Bool) (addr : BitVec 6),
  let fresh := fun (t : State) (cause : Nat) =>
    t.pwr.life = .boot ∧ t.up = false ∧ t.pwr.module = addr ∧ t.pwr.headStrap = head ∧ t.clk = 0 ∧ t.time = 0 ∧
    t.released = false ∧ (∀ g, t.alive g = false) ∧ t.f F.SYS_RST_CAUSE_CAUSE = cause ∧ t.harb = [] ∧ (∀ b, t.byte b = 0) ∧
    t.log.flash = s.log.flash ∧ t.log.queue = [] ∧ t.flash.slots = s.flash.slots ∧ t.pol.slots = s.pol.slots ∧
    (∀ (g : Grp) (o : Out), t.f F.DAC_NV_NV_RANGE g o = (s.nvOf g o).range % 8 ∧
      t.f F.DAC_VALUE_CODE g o = (s.nvOf g o).pu % 65536) ∧
    (∀ n i j k, n ∉ flashRegs → n ∉ [RegName.STEP_POL_STATUS, .SYS_PWR, .SYS_RST_CAUSE, .DAC_NV, .DAC_NV_CODES, .DAC_CFG,
      .DAC_VALUE, .DAC_STATUS] → t.r n i j k = n.reset)
  (s.pwr.life = .off ∨ s.pwr.life = .collapsed → Answers (.supplyPowerOn head addr) s fun t => fresh t 0) ∧
  (s.pwr.life = .failing ∨ s.pwr.life = .collapsed → Answers (.powerFailRestart head addr) s fun t => fresh t 4) ∧
  (s.pwr.life = .boot → s.started 2457600 = true → Answers .supervisorUp s fun t =>
    t.up = true ∧ t.ring.bypass = false ∧ t.f F.SYS_INST_MODULE = s.pwr.module.toNat ∧ t.b F.SYS_INST_HEAD = s.pwr.headStrap ∧
    t.f F.COLYS_ID_MODULE = s.pwr.module.toNat)

/-- R60 to R64, R69, R297: the dip filter and the power-fail sequence, in start-up too; a rewrite of the NV area that the collapse interrupts
leaves it bad; VIN above 65 V, and the field supplies. VIN beyond the absolute maximum of R447 is the one condition under which the model
stops. That the rewrite takes the whole 100 ms is the model's choice (log entry 24). -/
def Obligations.SupplyEvents : Prop := ∀ (s : State) (micros mv : Nat) (g : Grp),
  let runs := s.pwr.life = .boot ∨ s.up = true
  let logged := fun (t : State) (kind : Nat) => s.log.lost = 0 → s.log.queue.length < 256 →
    t.log.queue.map LogEntry.kind = s.log.queue.map LogEntry.kind ++ [kind]
  (runs → Answers .vinFall s fun t =>
    t.pwr.vinLow = true ∧ t.b F.SYS_PWR_VIN_OK = false ∧ RegsKept [⟨.SYS_PWR, 0, 0, 0⟩] s t ∧
    t = { s with regs := t.regs, pwr := t.pwr }) ∧
  (runs → s.pwr.vinLow = true → s.pwr.dipSeen = false → Answers .dipDetected s fun t =>
    t.pwr.dipSeen = true ∧ t.b F.SYS_PWR_DIP = true ∧ Counted F.SYS_PWR_DIP_COUNT s t ∧ RegsKept [⟨.SYS_PWR, 0, 0, 0⟩] s t ∧
    t = { s with regs := t.regs, pwr := t.pwr }) ∧
  (runs → s.pwr.vinLow = true → s.dipOver = false → Answers (.dipEnd micros) s fun t =>
    t.pwr.vinLow = false ∧ t.pwr.dipSeen = false ∧ t.b F.SYS_PWR_VIN_OK = true ∧ (s.pwr.dipSeen = true → logged t 2) ∧
    NamesKept [.SYS_PWR, .FAULT_STATUS, .FAULT_EVENTS] s t ∧
    t = { s with regs := t.regs, pwr := t.pwr, log := t.log, seed := t.seed }) ∧
  (runs → s.pwr.vinLow = true → s.pwr.dipSeen = true → s.dipOver = true → Answers .powerFailStart s fun t =>
    t.pwr.life = .failing ∧ t.log.queue = [] ∧
    (∀ (g : Grp) (o : Out), t.b F.DAC_STATUS_FAULT_HOLD g o = true) ∧
    ∀ g : Grp, s.alive g = true → t.f F.PIN_STATE_STATE g = 3) ∧
  (s.pwr.life = .failing → Answers .railsCollapse s fun t =>
    t.pwr.life = .collapsed ∧ t.flash.nvBad = (s.flash.nvBad || decide (s.clk < s.flash.nvUntil)) ∧
    ∀ g : Grp, t.alive g = false ∧ t.f F.PIN_STATE_STATE g = 0 ∧ ∀ o : Out, (t.out g o).powered = false) ∧
  (mv ≤ 100000 → (s.up = true → s.b F.SYS_PWR_VIN_HIGH = false → Answers (.vinHighRise mv) s fun t =>
      t.b F.SYS_PWR_VIN_HIGH = true ∧ t.pwr.vinHigh = some mv ∧ logged t 3 ∧ NamesKept [.SYS_PWR, .FAULT_STATUS, .FAULT_EVENTS] s t ∧
      t = { s with regs := t.regs, pwr := t.pwr, log := t.log, seed := t.seed }) ∧
    (s.up = false ∨ s.b F.SYS_PWR_VIN_HIGH = true → Answers (.vinHighRise mv) s fun t =>
      t = { s with pwr := { s.pwr with vinHigh := some mv } })) ∧
  (100000 < mv → exec (.vinHighRise mv) s = .fault .beyondAbsoluteMaximum) ∧
  (Answers .vinHighFall s fun t =>
    t.b F.SYS_PWR_VIN_HIGH = false ∧ t.pwr.vinHigh = none ∧ RegsKept [⟨.SYS_PWR, 0, 0, 0⟩] s t ∧
    t = { s with regs := t.regs, pwr := t.pwr }) ∧
  (Answers (.vfldLow g) s fun t =>
    t.vfldOk g = false ∧ t.bit F.SYS_PWR_VFLD_OK g = false ∧
    (s.up = true → s.bit F.SYS_PWR_VFLD_OK g = true → logged t 24) ∧
    NamesKept [.SYS_PWR, .FAULT_STATUS, .FAULT_EVENTS, .PIN_DRIVEN, .PIN_FIELD, .PIN_LEVEL] s t ∧
    t = { s with regs := t.regs, pwr := t.pwr, log := t.log, seed := t.seed }) ∧
  (Answers (.vfldReturn g) s fun t =>
    t.vfldOk g = true ∧ (s.up = true → t.bit F.SYS_PWR_VFLD_OK g = true) ∧
    NamesKept [.SYS_PWR, .PIN_DRIVEN, .PIN_FIELD, .PIN_LEVEL] s t ∧
    t = { s with regs := t.regs, pwr := t.pwr, seed := t.seed })

/-- R68, R70, R83: a group's supply starts and its rails settle, its die comes alive on the NV power-up values with its gates open, it is lost
with its rails, and the third failure within 10 s latches GRP_FAIL; a restart is owed until it begins. That the rails have settled with
the start of the supply is the model's reading (log entry 96). -/
def Obligations.GroupSupplies : Prop := ∀ (s : State) (g : Grp) (rails : BitVec 4),
  (s.up = true → s.started (2457600 + 655360 * g) = true → s.bit F.SYS_PWR_GRP_FAIL g = false → s.pwr.supplied[g] = false →
    Answers (.groupSupplyStart g) s fun t =>
    t.pwr.supplied[g] = true ∧ t.bit F.SYS_PWR_GRP_PWR_OK g = true ∧ RegsKept [⟨.SYS_PWR, 0, 0, 0⟩] s t ∧
    t = { s with regs := t.regs, pwr := t.pwr }) ∧
  (s.up = true → s.pwr.supplied[g] = true → s.alive g = false → AnswersThenModes (.groupAlive g) s fun u =>
    u.alive g = true ∧ u.r .SYS_PWR = s.r .SYS_PWR ∧ u.pwr.mapped[g] = true ∧ u.f F.MON_STATUS_SLOT g = 0 ∧
    ∀ o : Out, (u.out g o).powered = true ∧ (u.out g o).gateDelay = true ∧ u.b F.DAC_STATUS_GATE_CLOSED g o = false) ∧
  (s.pwr.life = .boot ∨ s.up = true → s.pwr.supplied[g] = true → AnswersThenModes (.groupRailFail g rails) s fun u =>
    u.alive g = false ∧ u.pwr.supplied[g] = false ∧ u.bit F.SYS_PWR_GRP_PWR_OK g = false ∧
    (2 ≤ (s.pwr.failures[g].filter fun t => decide (s.clk ≤ t + 1638400000)).length →
      u.bit F.SYS_PWR_GRP_FAIL g = true ∧ u.pwr.restartDue[g] = false) ∧
    ((s.pwr.failures[g].filter fun t => decide (s.clk ≤ t + 1638400000)).length < 2 → u.pwr.restartDue[g] = true)) ∧
  (s.alive g = true → AnswersThenModes (.groupLost g) s fun u =>
    u.alive g = false ∧ (∀ o : Out, (u.out g o).powered = false ∧ u.b F.DAC_STATUS_GATE_CLOSED g o = false) ∧
    u.f F.PIN_STATE_STATE g = 0 ∧ u.b F.REF_STATUS_INT_SETTLED g = false ∧
    ∀ n : Cv, (u.cv g n).run = .off ∨ (u.cv g n).run = .unserved) ∧
  (s.up = true → s.restartNow g = true → Answers (.groupRestart g) s fun t =>
    t.pwr.supplied[g] = true ∧ t.pwr.restartDue[g] = false ∧ t.bit F.SYS_PWR_GRP_PWR_OK g = true ∧
    t.bit F.SYS_RST_CAUSE_GRP_RESTART g = true ∧ NamesKept [.SYS_PWR, .SYS_RST_CAUSE, .FAULT_STATUS, .FAULT_EVENTS] s t ∧
    t = { s with regs := t.regs, pwr := t.pwr, log := t.log, seed := t.seed })

/-- R80 to R83: SYS.RESET acts with its key alone: a module reset leaves the supervisor in start-up with its clock and its time at 0 and the
group supplies on; a fabric reset keeps block RAM; a group reset clears the pin lock of its group. That a write with a bad key counts in
no register is the model's reading (log entry 97). -/
def Obligations.Resets : Prop := ∀ (s : State) (src : Src) (v : Word) (g : Grp), s.takesReg src .SYS_RESET →
  (F.SYS_RESET_KEY.of v = 0xC3 → F.SYS_RESET_MODULE.of v = 1 → Answers (.moduleReset src v) s fun t =>
    t.pwr.life = .boot ∧ t.pwr.warm = true ∧ t.clk = 0 ∧ t.time = 0 ∧ t.released = false ∧ t.f F.SYS_RST_CAUSE_CAUSE = 1 ∧
    t.harb = [] ∧ (∀ g, t.alive g = s.alive g ∧ t.pwr.supplied[g] = s.pwr.supplied[g]) ∧ t.log.flash = s.log.flash) ∧
  (F.SYS_RESET_KEY.of v ≠ 0xC3 → Answers (.moduleReset src v) s fun t =>
    t.resp = .error ∧ NamesKept [.FAB_PORT_ERR] s t ∧ t = { s with regs := t.regs, refused := s.refused + 1, resp := t.resp }) ∧
  (F.SYS_RESET_KEY.of v = 0xC3 → F.SYS_RESET_MODULE.of v = 0 → F.SYS_RESET_FABRIC.of v = 1 → F.SYS_RESET_GROUP.of v = 0 →
    Answers (.fabricReset src v) s fun t =>
      t.resp = .ok 0 ∧ t.b F.SYS_RST_CAUSE_FABRIC_RST = true ∧ t.fab.bram = s.fab.bram ∧ t.fab.cfg = s.fab.cfg ∧
      t.fab.bridge = [] ∧ RegsKept [⟨.SYS_RST_CAUSE, 0, 0, 0⟩] s t) ∧
  (F.SYS_RESET_KEY.of v = 0xC3 → F.SYS_RESET_MODULE.of v = 0 → F.SYS_RESET_FABRIC.of v = 0 → F.SYS_RESET_GROUP.of v = 2 ^ g.val →
    AnswersThenModes (.groupReset src v) s fun u =>
      u.resp = .ok 0 ∧ u.alive g = false ∧ u.pwr.supplied[g] = true ∧ u.r .PIN_LOCKED g = 0 ∧
      u.bit F.SYS_PWR_GRP_FAIL g = false ∧ u.bit F.SYS_PWR_GRP_PWR_OK g = true ∧ u.bit F.SYS_RST_CAUSE_GRP_RESTART g = true)

/-! ### Module time (R216 to R227) -/

/-- R217, R218, R227: a step of module time, a write of RATE and of CTRL, what is refused, and the pulses: one starts in the system clock in
which module time, counting, reaches a whole second, and ends 1,638,400 system clocks after it last started. -/
def Obligations.ModuleTime : Prop := ∀ (s : State) (src : Src) (v : Word),
  (s.takesReg src .TIME_STEP_HI → s.mode disciplined = false → Answers (.timeStepWrite src v) s fun t =>
    let d := signed 64 (s.f F.TIME_STEP_LO_STEP + 2 ^ 32 * v.toNat)
    t.resp = .ok 0 ∧ (t.time : Int) = ((s.time : Int) + d * 2 ^ 32) % 2 ^ 96 ∧
    t.f F.TIME_LAST_STEP_LO_LAST_STEP = unsigned 64 d % 2 ^ 32 ∧ t.f F.TIME_LAST_STEP_HI_LAST_STEP = unsigned 64 d / 2 ^ 32 ∧
    t.f F.TIME_STEP_STAMP_LO_STEP_STAMP = t.ns % 2 ^ 32 ∧ t.f F.TIME_STEP_STAMP_HI_STEP_STAMP = t.ns / 2 ^ 32 ∧
    t.b F.TIME_EVENTS_STEPPED = true ∧ Counted F.TIME_EVENTS_STEPS s t ∧ t.r .TIME_RATE = s.r .TIME_RATE ∧
    ∀ a, (a < 0x400000 ∨ 0x440000 ≤ a) → t.byte a = s.byte a) ∧
  (s.takesReg src .TIME_STEP_HI → s.mode disciplined = true → Answers (.timeStepWrite src v) s fun t =>
    t.resp = .error ∧ Counted F.TIDE_REFUSED_COUNT s t ∧ NamesKept [.TIDE_REFUSED, .FAB_PORT_ERR] s t ∧ OnlyRegs s t) ∧
  (s.takesReg src .TIME_RATE → s.mode disciplined = false → (signed 32 v.toNat).natAbs ≤ 5242880 →
    Answers (.timeRateWrite src v) s fun t =>
      t.resp = .ok 0 ∧ t.r .TIME_RATE = v ∧ t.clockStep = Config.clockUnits + signed 32 v.toNat ∧
      RegsKept [⟨.TIME_RATE, 0, 0, 0⟩] s t ∧ t = { s with regs := t.regs, tim := t.tim, resp := t.resp }) ∧
  (s.takesReg src .TIME_RATE → (s.mode disciplined = true ∨ 5242880 < (signed 32 v.toNat).natAbs) →
    Answers (.timeRateWrite src v) s fun t =>
      t.resp = .error ∧ Counted F.TIDE_REFUSED_COUNT s t ∧ NamesKept [.TIDE_REFUSED, .FAB_PORT_ERR] s t ∧ OnlyRegs s t) ∧
  (s.takesReg src .TIME_CTRL → F.TIME_CTRL_BW.of v ≠ 3 → F.TIME_CTRL_STEP_THRESH.of v ≠ 0 → Answers (.timeCtrlWrite src v) s fun t =>
    t.resp = .ok 0 ∧ t.r .TIME_CTRL = v &&& RegName.mask .TIME_CTRL ∧
    (F.TIME_CTRL_PPS_OUT_EN.of v = 0 → t.tim.pps = false) ∧ (F.TIME_CTRL_PPS_OUT_EN.of v = 1 → t.tim = s.tim) ∧
    RegsKept [⟨.TIME_CTRL, 0, 0, 0⟩] s t ∧ t = { s with regs := t.regs, tim := t.tim, resp := t.resp }) ∧
  (s.takesReg src .TIME_CTRL → (F.TIME_CTRL_BW.of v = 3 ∨ F.TIME_CTRL_STEP_THRESH.of v = 0) → Answers (.timeCtrlWrite src v) s fun t =>
    t.resp = .error ∧ Counted F.TIDE_REFUSED_COUNT s t ∧ NamesKept [.TIDE_REFUSED, .FAB_PORT_ERR] s t ∧ OnlyRegs s t) ∧
  (s.up = true → s.b F.TIME_CTRL_PPS_OUT_EN = true → s.tim.second = some s.clk → Answers .ppsOutRise s fun t =>
    t = { s with tim := { s.tim with pps := true, ppsEnd := s.clk + 1638400 } }) ∧
  (s.tim.pps = true → s.tim.ppsEnd ≤ s.clk → Answers .ppsOutFall s fun t => t = { s with tim := { s.tim with pps := false } }) ∧
  (s.clk < s.tim.ppsEnd → Answers .ppsOutFall s fun t => t = s) ∧
  (s.up = true → Answers .ppsInEdge s fun t =>
    t.f F.TIME_PPS_CAP_LO_PPS_CAP = s.ns % 2 ^ 32 ∧ t.f F.TIME_PPS_CAP_HI_PPS_CAP = s.ns / 2 ^ 32 ∧
    t.b F.TIME_EVENTS_PPS_IN = true ∧
    RegsKept [⟨.TIME_PPS_CAP_LO, 0, 0, 0⟩, ⟨.TIME_PPS_CAP_HI, 0, 0, 0⟩, ⟨.TIME_EVENTS, 0, 0, 0⟩] s t ∧
    t = { s with regs := t.regs, resp := t.resp })

/-- R20, R216: a step on an empty queue is one system clock (the model's choice, log entry 6); before the supply, the block idles. Where
nothing waits for its edge, module time advances by one clock and the correction, the DDS engines and the analogue side of the groups move
and report in their own registers alone, and, while the supervisor runs, what happens by itself happens. -/
def Obligations.EmptyQueueTicks : Prop := ∀ (s : State),
  (s.pending = [] → (s.pwr.life = .off ∨ s.pwr.life = .collapsed) → step s = .next s) ∧
  (s.pending = [] → s.pwr.life ≠ .off → s.pwr.life ≠ .collapsed → s.lim.due = [] →
    (∀ (g : Grp) (n : Cv), (s.cv g n).acts = []) → (∀ g : Grp, s.spare[g].move = .none) → ∃ u,
    u = { s with
      clk := s.clk + 1, time := s.time + s.clockStep.toNat, tim := s.clockTurn.tim
      regs := u.regs, dds := u.dds, cells := u.cells, cmps := u.cmps, seed := u.seed } ∧
    NamesKept [.DDS_STATUS, .CMP_STATUS, .CMP_LEVELS, .CELL_STATUS, .PIN_DRIVEN, .PIN_FIELD, .PIN_LEVEL] s u ∧
    (s.up = false → step s = .next u) ∧
    (s.up = true → step s = .next ((Act.all [.ptpTurn, .groups .modEdge, .trksPresent, .gathered, .fabricTurn, .autoLoad, .settleOnce,
      .modes]).run u)))

/-- R221 to R226, R403: the head's PTP port, the time packets that the head sends at a whole millisecond, the loss of either source, and the
measurement of a link's delay. The times after which a master is forgotten and a direction counts as removed are the model's (log entries
136 and 137). -/
def Obligations.TimeSources : Prop := ∀ (s : State) (src : Src) (v : Word) (p : Port) (h : PtpHead) (seq : BitVec 16) (log : BitVec 8)
    (origin : BitVec 64) (corr : Int) (k : TimePkt) (t1 t2 t3 : BitVec 80),
  (s.head = true → s.up = true → h.domain.toNat = s.f F.TIME_PTP_CFG_DOMAIN → h.transport = s.b F.TIME_PTP_CFG_TRANSPORT →
    h.sender.toNat = s.parent → 8 ≤ s.f F.TIME_PTP_STATUS_PORT_STATE → s.tim.delayKnown = true → s.mode disciplined = false →
    Answers (.ptpMessageReceive (.sync h seq false log origin corr)) s fun t =>
      t.tim.syncAt = s.clk ∧ t.f F.TIME_PTP_STATUS_PORT_STATE = 9 ∧ t.b F.TIME_PTP_STATUS_TWO_STEP = false ∧ t.f F.TIME_PTP_STATUS_LOG_SYNC = log.toNat ∧
      t.f F.TIME_OFFSET_OFFSET = unsigned 32 (clamp (-2147483648) 2147483647
        (origin.toNat + corr + s.f F.TIME_PTP_DELAY_DELAY - (s.ns - s.ns % 8 : Nat))) ∧
      RegsKept [⟨.TIME_PTP_STATUS, 0, 0, 0⟩, ⟨.TIME_OFFSET, 0, 0, 0⟩] s t ∧ t = { s with regs := t.regs, tim := t.tim }) ∧
  (h.domain.toNat ≠ s.f F.TIME_PTP_CFG_DOMAIN → Answers (.ptpMessageReceive (.sync h seq false log origin corr)) s fun t => t = s) ∧
  (s.head = true → s.up = true → s.mode disciplined = true → s.f F.TIME_STATE_STATE ≠ timeHoldover →
    s.tim.syncAt + s.receiptClocks s.announceLog ≤ s.clk → Answers .ptpHoldoverTimeout s fun t =>
    t.f F.TIME_STATE_STATE = timeHoldover ∧ t.b F.TIME_EVENTS_HOLDOVER = true ∧
    (s.tim.rates ≠ [] → t.f F.TIME_RATE_RATE = unsigned 32 (meanOf s.tim.rates)) ∧ (s.tim.rates = [] → t.r .TIME_RATE = s.r .TIME_RATE) ∧
    NamesKept [.TIME_STATE, .TIME_EVENTS, .TIME_RATE] s t ∧ t = { s with regs := t.regs, tim := t.tim }) ∧
  (s.takesReg src .TIME_PTP_CFG → s.head = true → 2 ≤ F.TIME_PTP_CFG_ANN_TIMEOUT.of v → F.TIME_PTP_CFG_ANN_TIMEOUT.of v ≤ 10 →
    Answers (.ptpCfgWrite src v) s fun t =>
      t.resp = .ok 0 ∧ t.r .TIME_PTP_CFG = v &&& RegName.mask .TIME_PTP_CFG ∧ t.f F.TIME_PTP_STATUS_PORT_STATE = 1 ∧
      t.tim.masters = [] ∧ (s.f F.TIME_STATE_STATE = timeLocked → t.f F.TIME_STATE_STATE = timeHoldover)) ∧
  (s.takesReg src .TIME_PTP_CFG → s.head = false → Answers (.ptpCfgWrite src v) s fun t => t = { s with resp := .ok 0 }) ∧
  (s.takesReg src .TIME_PTP_CFG → s.head = true → (F.TIME_PTP_CFG_ANN_TIMEOUT.of v < 2 ∨ 10 < F.TIME_PTP_CFG_ANN_TIMEOUT.of v) →
    Answers (.ptpCfgWrite src v) s fun t =>
      t.resp = .error ∧ Counted F.TIDE_REFUSED_COUNT s t ∧ NamesKept [.TIDE_REFUSED, .FAB_PORT_ERR] s t ∧ OnlyRegs s t) ∧
  (s.head = true → s.up = true → (s.b F.TIME_PTP_CFG_DELAY_MECH = true ∨ 8 ≤ s.f F.TIME_PTP_STATUS_PORT_STATE) →
    Answers .ptpDelayReqSend s fun t =>
      t.tx = s.tx ++ [.ptpRequest (s.b F.TIME_PTP_CFG_DELAY_MECH) s.tim.seq] ∧
      t.tim.req = some (s.tim.seq, ((s.ns - s.ns % 8 : Nat) : Int)) ∧ t.tim.seq = (s.tim.seq + 1) % 65536 ∧
      t = { s with tx := t.tx, tim := t.tim }) ∧
  (s.head = true → s.up = true → s.tim.milli = some s.clk → s.portUp p = true → s.portUp (otherPort p) = false → (s.lane p 1).queue = [] →
    (s.lane p 1).retry.length < 512 → Answers .timePacketSend s fun t => ∃ x : TimePkt,
      x.ns = BitVec.ofNat 64 s.ns ∧ x.acc = BitVec.ofNat 32 (s.hopDelay p) ∧ x.hops = 1 ∧ x.arb = s.b F.TIME_STATE_ARB ∧
      x.utcValid = s.b F.TIME_STATE_UTC_VALID ∧ x.utc.toNat = s.f F.TIME_STATE_UTC_OFFSET ∧ x.state.toNat = s.f F.TIME_STATE_STATE ∧
      t.tx = s.tx ++ [.packet p (timeWords s.ownNumber x ++ [trailer (timeWords s.ownNumber x) (s.lane p 1).next])] ∧
      t = { s with ring := t.ring, tx := t.tx }) ∧
  (s.head = false → s.up = true → s.mode disciplined = false →
    ({ s with tim := { s.tim with
      heard := s.tim.heard.set (portIndex p) (some k.hops.toNat), heardAt := s.tim.heardAt.set (portIndex p) s.clk } } :
      State).timeDirection = p →
    Answers (.timePacketReceive p k) s fun t =>
      t.f F.TIME_RING_HOPS = k.hops.toNat ∧ t.f F.TIME_RING_FROM = (portIndex p).val ∧
      t.b F.TIME_STATE_ARB = k.arb ∧ t.b F.TIME_STATE_UTC_VALID = k.utcValid ∧ t.f F.TIME_STATE_UTC_OFFSET = k.utc.toNat ∧
      t.f F.TIME_OFFSET_OFFSET = unsigned 32 (clamp (-2147483648) 2147483647
        (((k.ns.toNat * 16 + k.acc.toNat : Nat) : Int) / 16 - s.ns)) ∧
      t.time = s.time ∧ NamesKept [.TIME_RING, .TIME_STATE, .TIME_OFFSET] s t) ∧
  (s.head = true → Answers (.timePacketReceive p k) s fun t => t = s) ∧
  (s.head = false → s.up = true → s.mode disciplined = true → s.f F.TIME_STATE_STATE ≠ timeHoldover →
    (∀ i : Fin 2, s.tim.heardAt[i] + 1638400 ≤ s.clk) → Answers .ringTimeHoldover s fun t =>
    t.f F.TIME_STATE_STATE = timeHoldover ∧ t.b F.TIME_EVENTS_HOLDOVER = true ∧
    NamesKept [.TIME_STATE, .TIME_EVENTS, .TIME_RATE] s t ∧ t = { s with regs := t.regs, tim := t.tim }) ∧
  (s.up = true → s.portUp p = true → Answers (.linkDelayMeasure p) s fun t => ∃ n,
    t.ring.delayT1[portIndex p] = some n ∧ t.tx = s.tx ++ [.delayReq p n] ∧ t = { s with ring := t.ring, tx := t.tx, seed := t.seed }) ∧
  (s.up = true → s.portUp p = true → Answers (.delayReq p t1) s fun t => ∃ m n,
    m ≤ n ∧ t.tx = s.tx ++ [.delayResp p t1.toNat m n] ∧ t = { s with tx := t.tx, seed := t.seed }) ∧
  (s.up = true → s.ring.delayT1[portIndex p] = some t1.toNat → Answers (.delayResp p t1 t2 t3) s fun t =>
    t.ring.delayT1[portIndex p] = none ∧ (∃ d, t.tim.links[portIndex p] = (d :: s.tim.links[portIndex p]).take 16) ∧
    t.hopDelay p = (clamp 0 65535 (meanOf t.tim.links[portIndex p])).toNat ∧ t.hopDelay (otherPort p) = s.hopDelay (otherPort p) ∧
    RegsKept [⟨.TIME_HOP_DELAY, 0, 0, 0⟩] s t)

/-! ### Phase trackers (R228 to R241) -/

/-- R228 to R238: the enable of a tracker and what is refused, homing by HOME_NOW and by an edge, the loss of a source and the return of an
encoder, the end of HOLD_TIME, the edges of an encoder, a crossing of the mains, and an output of a scale. When a source counts as silent,
and which crossing is rejected, is the model's reading (log entries 138 and 139). -/
def Obligations.Trackers : Prop := ∀ (s : State) (src : Src) (k : Trk) (v : Word) (a b : Bool) (ev : TrkEvent),
  let names := [RegName.TRK_CTRL, .TRK_STATUS, .TRK_PHASE_LO, .TRK_PHASE_HI, .TRK_VEL, .SCHED_TRK_CFG, .SCHED_TRK_EXTREME_LO,
    .SCHED_TRK_EXTREME_HI]
  let quiet := F.TRK_CTRL_HOME_NOW.of v = 0 ∧ F.TRK_CTRL_ARM.of v = 0 ∧ F.TRK_CTRL_DISARM.of v = 0
  let same := (F.TRK_CTRL_ENABLE.of v == 1) = s.b F.TRK_CTRL_ENABLE k
  (s.takesReg src .TRK_CTRL k → quiet → F.TRK_CTRL_ENABLE.of v = 1 → s.b F.TRK_CTRL_ENABLE k = false → s.released = true →
    s.trkValid k = true → Answers (.trackerEnable src k v) s fun t =>
      t.resp = .ok 0 ∧ t.b F.TRK_CTRL_ENABLE k = true ∧ t.phase k = s.homeValue k ∧
      t.trkLock k = lockSearch ∧ t.b F.TRK_STATUS_HOMED k = false ∧ t.f F.TRK_VEL_VEL k = 0 ∧
      NamesKept names s t ∧ ∀ a, (a < 0x400000 ∨ 0x440000 ≤ a) → t.byte a = s.byte a) ∧
  (s.trkLock k = lockSearch → (s.trkSrc k = srcTime ∨ s.trkSrc k = srcScale) →
    let u := (Act.trkAbsolute k).run s
    u.trkLock k = lockLocked ∧ u.b F.TRK_STATUS_HOMED k = true ∧ NamesKept names s u) ∧
  (s.takesReg src .TRK_CTRL k → quiet → F.TRK_CTRL_ENABLE.of v = 0 → s.b F.TRK_CTRL_ENABLE k = true →
    Answers (.trackerEnable src k v) s fun t =>
      t.resp = .ok 0 ∧ t.b F.TRK_CTRL_ENABLE k = false ∧ t.trkLock k = lockOff ∧ NamesKept names s t) ∧
  (s.takesReg src .TRK_CTRL k → F.TRK_CTRL_ENABLE.of v = 1 → s.b F.TRK_CTRL_ENABLE k = false →
    (s.released = false ∨ s.trkValid k = false) → Answers (.trackerEnable src k v) s fun t =>
      t.resp = .error ∧ Counted F.TIDE_REFUSED_COUNT s t ∧ NamesKept [.TIDE_REFUSED, .FAB_PORT_ERR] s t ∧ OnlyRegs s t) ∧
  (s.takesReg src .TRK_CTRL k → F.TRK_CTRL_ENABLE.of v = 1 → F.TRK_CTRL_HOME_NOW.of v = 1 → F.TRK_CTRL_ARM.of v = 0 →
    s.b F.TRK_CTRL_ENABLE k = true → s.trkLock k = lockLocked → s.trk[k].homed ≠ some s.clk → Answers (.homeNow src k v) s fun t =>
      t.resp = .ok 0 ∧ t.b F.TRK_STATUS_HOMED k = true ∧ t.b F.TRK_STATUS_HOME_DONE k = true ∧ t.b F.TRK_STATUS_JUMPED k = true ∧
      t.f F.TRK_JUMP_CAUSE_JUMP_CAUSE k = 1 ∧ Counted F.TRK_STATUS_JUMP_COUNT s t k ∧
      (s.b F.TRK_HOME_CFG_KEEP_FRAC k = false → t.f F.TRK_JUMP_TO_LO_JUMP_TO k = s.f F.TRK_HOME_VALUE_LO_HOME_VALUE k ∧
        t.f F.TRK_JUMP_TO_HI_JUMP_TO k = s.f F.TRK_HOME_VALUE_HI_HOME_VALUE k ∧ t.phase k = s.homeValue k)) ∧
  (2 ≤ s.f F.TRK_HOME_CFG_HOME_SRC k → a ≠ s.b F.TRK_HOME_CFG_HOME_EDGE k → a = s.homeLevel k → s.homeAllowed k = true →
    s.trk[k].homed ≠ some s.clk → Answers (.trackerSourceEvent k (.home a)) s fun t =>
      t.b F.TRK_STATUS_HOMED k = true ∧ t.b F.TRK_STATUS_HOME_DONE k = true ∧ t.f F.TRK_JUMP_CAUSE_JUMP_CAUSE k = 1 ∧
      t.b F.TRK_STATUS_ARMED k = s.b F.TRK_HOME_CFG_AUTO_ARM k ∧
      (s.b F.TRK_HOME_CFG_KEEP_FRAC k = false → t.f F.TRK_JUMP_TO_LO_JUMP_TO k = s.f F.TRK_HOME_VALUE_LO_HOME_VALUE k ∧
        t.f F.TRK_JUMP_TO_HI_JUMP_TO k = s.f F.TRK_HOME_VALUE_HI_HOME_VALUE k)) ∧
  (s.takesReg src .TRK_CTRL k → F.TRK_CTRL_HOME_NOW.of v = 0 → F.TRK_CTRL_ARM.of v = 1 → same →
    (s.f F.TRK_HOME_CFG_HOME_SRC k ≠ 0 → Answers (.homeArm src k v) s fun t =>
      t.resp = .ok 0 ∧ t.b F.TRK_STATUS_ARMED k = true ∧ RegsKept [⟨.TRK_STATUS, k, 0, 0⟩] s t ∧ OnlyRegs s t) ∧
    (s.f F.TRK_HOME_CFG_HOME_SRC k = 0 → Answers (.homeArm src k v) s fun t =>
      t.resp = .error ∧ Counted F.TIDE_REFUSED_COUNT s t ∧ NamesKept [.TIDE_REFUSED, .FAB_PORT_ERR] s t ∧ OnlyRegs s t)) ∧
  (s.takesReg src .TRK_CTRL k → F.TRK_CTRL_HOME_NOW.of v = 0 → F.TRK_CTRL_ARM.of v = 0 → F.TRK_CTRL_DISARM.of v = 1 → same →
    Answers (.homeDisarm src k v) s fun t =>
      t.resp = .ok 0 ∧ t.b F.TRK_STATUS_ARMED k = false ∧ RegsKept [⟨.TRK_STATUS, k, 0, 0⟩] s t ∧ OnlyRegs s t) ∧
  (s.trkLock k = lockLocked → s.sourceSilent k = true → Answers (.trackerHoldEntry k) s fun t =>
    t.trkLock k = (if s.f F.TRK_TIMING_HOLD_TIME k = 0 then lockLost else lockHold) ∧ t.b F.TRK_STATUS_LOCK_LOST k = true ∧
    NamesKept names s t) ∧
  (s.trkLock k = lockHold → s.trk[k].holdAt + s.f F.TRK_TIMING_HOLD_TIME k * 163840 ≤ s.clk → Answers (.trackerHoldTimeout k) s fun t =>
    t.trkLock k = lockLost ∧ t.b F.TRK_STATUS_LOCK_LOST k = true ∧ t.f F.TRK_VEL_VEL k = 0 ∧
    (s.trkSrc k ≠ srcScale → t.b F.TRK_STATUS_HOMED k = false) ∧
    (s.trkSrc k = srcScale → t.b F.TRK_STATUS_HOMED k = s.b F.TRK_STATUS_HOMED k) ∧ NamesKept names s t) ∧
  (s.trkSrc k = srcEncoder →
    (s.trkLock k = lockLocked →
      (s.pairFor (s.f F.TRK_CFG_SEL_A k) true 164 || s.pairFor (s.f F.TRK_CFG_SEL_B k) true 164) = true →
      Answers (.encoderFailsafeLost k) s fun t =>
      t.trkLock k = lockLost ∧ t.b F.TRK_STATUS_HOMED k = false ∧ t.f F.TRK_VEL_VEL k = 0 ∧ NamesKept names s t) ∧
    (s.trkLock k = lockSearch → s.pairFor (s.f F.TRK_CFG_SEL_A k) false 0 = true →
      s.pairFor (s.f F.TRK_CFG_SEL_B k) false 0 = true → Answers (.encoderValidLock k) s fun t =>
      t.trkLock k = lockLocked ∧ t.phase k = s.homeValue k ∧ NamesKept names s t) ∧
    (s.trkLock k = lockLocked → s.trk[k].at_ + s.f F.TRK_TIMING_STOP_TIME k * 16384 ≤ s.clk → Answers (.encoderStopTimeout k) s fun t =>
      t.b F.TRK_STATUS_STOPPED k = true ∧ t.f F.TRK_VEL_VEL k = 0 ∧ t.trkLock k = lockLocked ∧ NamesKept names s t) ∧
    (s.trkLock k ≠ lockOff → a ≠ s.trk[k].a → b ≠ s.trk[k].b → Answers (.trackerSourceEvent k (.quad a b false)) s fun t =>
      t.b F.TRK_STATUS_QERR k = true ∧ Counted F.TRK_STATUS_QERR_COUNT s t k ∧ t.b F.TRK_STATUS_HOMED k = false ∧
      t.trk[k] = { s.trk[k] with a := a, b := b } ∧ RegsKept [⟨.TRK_STATUS, k, 0, 0⟩] s t) ∧
    (s.trkLock k = lockLocked → (a = s.trk[k].a ↔ b ≠ s.trk[k].b) → s.b F.TRK_CFG_INVERT k = false →
      Answers (.trackerSourceEvent k (.quad a b false)) s fun t =>
        t.trk[k].pos = s.trk[k].pos + quadStep s.trk[k].a s.trk[k].b a b * 2 ^ 32 ∧ t.trk[k].at_ = s.clk - 12 ∧
        t.trk[k].a = a ∧ t.trk[k].b = b ∧ t.b F.TRK_STATUS_STOPPED k = false ∧ t.trkLock k = lockLocked)) ∧
  (∀ c, s.trkSrc k = srcMains → s.trkLock k = lockLocked → a ≠ s.b F.TRK_CFG_INVERT k → a = s.cmpLevelOf (s.f F.TRK_CFG_SEL_A k) →
    s.trk[k].crossing = some c →
    let d := ((s.clk : Int) - 12 - c).toNat
    163840 ≤ d → d ≤ 16384000 → 3 * s.trk[k].period ≤ 4 * d → 4 * d ≤ 5 * s.trk[k].period →
    Answers (.trackerSourceEvent k (.crossing a)) s fun t =>
      t.trk[k].pos = s.trk[k].pos + 2 ^ 32 ∧ t.trk[k].at_ = s.clk - 12 ∧ t.trk[k].period = d ∧
      t.trk[k].crossing = some ((s.clk : Int) - 12) ∧ t.trkLock k = lockLocked) ∧
  (∀ e l, s.trkSrc k = srcScale → s.trkLock k = lockLocked → s.trk[k].inbox = e :: l → e.due ≤ s.clk → e.flagged = false →
    s.b F.TRK_CFG_INVERT k = false → Answers (.trackerSourceEvent k .output) s fun t =>
      t.trk[k].inbox = l ∧ t.trk[k].bad = 0 ∧ t.trk[k].at_ = e.at_ ∧
      t.trk[k].pos = e.x * signed 32 (s.f F.TRK_PER_CYCLE_PER_CYCLE k) + s.trk[k].offset) ∧
  (s.trkLock k = lockOff → Answers (.trackerSourceEvent k ev) s fun t => t = s)

/-! ### The Tide scheduler (R242 to R260) -/

/-- R242, R245, R246, R252, R259: the writes that arm a context, that disarm one, and that an armed context refuses; the intervals and the
settings of a tracker. -/
def Obligations.EventContexts : Prop := ∀ (s : State) (src : Src) (x : Ctx) (v : DWord) (i : Fin 256) (w : Word) (k : Trk),
  (s.takes src (ctxOffset x + 12) → ctlArm (s.ctxCtl x) = false → ctlArm (v.toNat % 2 ^ 32) = true →
    (ctxBad s.interval (s.ctxParam x) (v.toNat % 2 ^ 32) = false → Answers (.contextArmingWrite src x v false) s fun t =>
      t.resp = .ok 0 ∧ t.ctxCtl x = v.toNat % 2 ^ 32 ∧ t.sched = { s.sched with
        fresh := s.sched.fresh ++ [x.val]
        arms := assocSet s.sched.arms x (s.clk, s.heldPosition (ctlSrc (v.toNat % 2 ^ 32))) } ∧
      BytesKeptBut (ctxOffset x + 12) 4 s t ∧ t = { s with mem := t.mem, sched := t.sched, resp := t.resp }) ∧
    (ctxBad s.interval (s.ctxParam x) (v.toNat % 2 ^ 32) = true → Answers (.contextArmingWrite src x v false) s fun t =>
      t.resp = .error ∧ Counted F.SCHED_REFUSED_COUNT s t ∧ NamesKept [.SCHED_REFUSED, .FAB_PORT_ERR] s t ∧ OnlyRegs s t)) ∧
  (s.takes src (ctxOffset x + 8) → ctlArm (s.ctxCtl x) = false → ctlArm (v.toNat / 2 ^ 32) = true →
    ctxBad s.interval (v.toNat % 2 ^ 32) (v.toNat / 2 ^ 32) = false → Answers (.contextArmingWrite src x v true) s fun t =>
      t.resp = .ok 0 ∧ t.ctxCtl x = v.toNat / 2 ^ 32 ∧ t.ctxParam x = v.toNat % 2 ^ 32 ∧
      t.sched = { s.sched with
        fresh := s.sched.fresh ++ [x.val]
        arms := assocSet s.sched.arms x (s.clk, s.heldPosition (ctlSrc (v.toNat / 2 ^ 32))) } ∧
      BytesKeptBut (ctxOffset x + 8) 8 s t ∧ t = { s with mem := t.mem, sched := t.sched, resp := t.resp }) ∧
  (s.takes src (ctxOffset x + 12) → ctlArm (s.ctxCtl x) = true →
    (ctlArm (v.toNat % 2 ^ 32) = false → Answers (.contextDisarm src x v false) s fun t =>
      t.resp = .ok 0 ∧ t.ctxCtl x = v.toNat % 2 ^ 32 ∧ t.sched.queue = s.sched.queue.filter (fun d => d.ctx != x.val) ∧
      t.sched.recs.length = s.sched.recs.length + 1 ∧ BytesKeptBut (ctxOffset x + 12) 4 s t ∧
      t = { s with mem := t.mem, sched := t.sched, resp := t.resp }) ∧
    (ctlArm (v.toNat % 2 ^ 32) = true → Answers (.contextArmingWrite src x v false) s fun t =>
      t.resp = .error ∧ Counted F.SCHED_REFUSED_COUNT s t ∧ NamesKept [.SCHED_REFUSED, .FAB_PORT_ERR] s t ∧ OnlyRegs s t)) ∧
  (s.takesReg src .SCHED_REPEAT_HI i →
    let n := s.f F.SCHED_REPEAT_LO_INTERVAL i + 2 ^ 32 * w.toNat
    (i.val = 0 → Answers (.schedRepeatWrite src i w) s fun t => t = { s with resp := .ok 0 }) ∧
    (i.val ≠ 0 → (n ≠ 0 ∨ s.repeatUsed i = false) → Answers (.schedRepeatWrite src i w) s fun t =>
      t.resp = .ok 0 ∧ t.interval i = n ∧ (∀ j, j ≠ i.val → t.interval j = s.interval j) ∧
      RegsKept [⟨.SCHED_REPEAT_HI, i, 0, 0⟩] s t ∧ t = { s with regs := t.regs, sched := t.sched, resp := t.resp }) ∧
    (i.val ≠ 0 → n = 0 → s.repeatUsed i = true → Answers (.schedRepeatWrite src i w) s fun t =>
      t.resp = .error ∧ Counted F.SCHED_REFUSED_COUNT s t ∧ NamesKept [.SCHED_REFUSED, .FAB_PORT_ERR] s t ∧ OnlyRegs s t)) ∧
  (s.takesReg src .SCHED_TRK_HYST k → s.armedOn (k + 1) = [] → Answers (.schedTrkWrite src k false w) s fun t =>
    t.resp = .ok 0 ∧ t.r .SCHED_TRK_HYST k = w &&& RegName.mask .SCHED_TRK_HYST ∧ RegsKept [⟨.SCHED_TRK_HYST, k, 0, 0⟩] s t ∧
    OnlyRegs s t) ∧
  (s.takesReg src .SCHED_TRK_CFG k → s.armedOn (k + 1) = [] → Answers (.schedTrkWrite src k true w) s fun t =>
    t.resp = .ok 0 ∧ t.f F.SCHED_TRK_CFG_HOLD_FIRE k = F.SCHED_TRK_CFG_HOLD_FIRE.of w ∧
    t.b F.SCHED_TRK_CFG_DIR k = s.b F.SCHED_TRK_CFG_DIR k ∧ RegsKept [⟨.SCHED_TRK_CFG, k, 0, 0⟩] s t ∧ OnlyRegs s t) ∧
  (s.takesReg src .SCHED_TRK_HYST k → s.armedOn (k + 1) ≠ [] → Answers (.schedTrkWrite src k false w) s fun t =>
    t.resp = .error ∧ Counted F.SCHED_REFUSED_COUNT s t ∧ NamesKept [.SCHED_REFUSED, .FAB_PORT_ERR] s t ∧ OnlyRegs s t)

/-- R248, R252 to R258: one clock of judging a one-shot time context whose point is reached, the end of the holds, the issue of a decision,
and the records and marks on their way to their berths. -/
def Obligations.Scheduler : Prop := ∀ (s : State) (x : Ctx) (d : Decision) (at_ b c0 c1 : Nat) (l : List (Nat × Nat × Nat × Nat)),
  (s.released = false → Answers .contextJudge s fun t => t = s) ∧
  (s.released = true → s.b F.SCHED_STATUS_HOLD_ALL = false → s.b F.SCHED_STATUS_HOLD_PHASE = false →
    (∀ k : Trk, s.sched.trk[k] = .free) → s.armedCtx = [x.val] → ctlSrc (s.ctxCtl x) = 0 → s.ctxFresh x = false →
    s.ctxInterval x = 0 → s.sched.queue = [] → s.sched.gather = [] → s.ctxTarget x ≤ s.ns → Answers .contextJudge s fun t =>
      t.sched.queue = [⟨x.val, s.clk, s.ns, 0, 1⟩] ∧ BytesKept s t) ∧
  (s.released = true → s.b F.SCHED_STATUS_HOLD_ALL = true → s.mode parked = false → Answers .schedHoldEnd s fun t =>
    t.b F.SCHED_STATUS_HOLD_ALL = false) ∧
  (s.released = true → s.b F.SCHED_STATUS_HOLD_PHASE = true → s.mode phaseRun = true → Answers .schedHoldEnd s fun t =>
    t.b F.SCHED_STATUS_HOLD_PHASE = false) ∧
  (s.sched.queue = [] → AnswersThenModes .decisionIssue s fun u => u = s) ∧
  (s.sched.queue = [d] → (if s.sched.issued.1 = s.clk then s.sched.issued.2 else 0) < 4 →
    (d.outcome = 2 → AnswersThenModes .decisionIssue s fun u =>
      u.sched.queue = [] ∧ u.b F.SCHED_EVENTS_MISSED = true ∧ Counted F.SCHED_EVENTS_MISSED_COUNT s u ∧
      u.sched.recs.length = s.sched.recs.length + 1 ∧ u.eng = s.eng) ∧
    (d.outcome = 0 → ctlAction (s.ctxCtl d.ctx) = 8 → ctlReport (s.ctxCtl d.ctx) = false → d.due = s.clk →
      (let e : Eng := Fin.ofNat 8 (s.ctxParam d.ctx)
       s.eng[e].rung ≠ some s.clk → s.engLive e = true → s.up = true → s.b F.ENG_STATUS_DB_PEND e = false →
       AnswersThenModes .decisionIssue s fun u =>
        u.sched.queue = [] ∧ u.b F.ENG_STATUS_DB_PEND e = true ∧ u.sched.recs = s.sched.recs ∧
        u.r .SCHED_EVENTS = s.r .SCHED_EVENTS)) ∧
    (∀ g : Grp, d.outcome = 0 → actionGroup (ctlAction (s.ctxCtl d.ctx)) (s.ctxParam d.ctx) = some g → s.alive g = false →
      AnswersThenModes .decisionIssue s fun u =>
        u.sched.queue = [] ∧ u.b F.SCHED_EVENTS_FAILED = true ∧ Counted F.SCHED_RECORDS_FAILS s u ∧
        u.sched.recs.length = s.sched.recs.length + 1)) ∧
  (s.sched.recs = (at_, b, c0, c1) :: l → at_ + 16 ≤ s.clk → Answers .completionRecord s fun t =>
    t.sched = { s.sched with recs := l } ∧
    t.f F.SCHED_RECORDS_NEXT_SEQ = (s.f F.SCHED_RECORDS_NEXT_SEQ + 1) % 65536 ∧
    (b < 1024 → s.berthTakesRecords b = false → Counted F.HARB_LOSS_ORPHANS s t b ∧ t.harb = s.harb) ∧
    (b < 1024 → s.berthTakesRecords b = true → (s.berth b).gap = 0 → s.berthRoom b 2 = true →
      (t.berth b).cells = (s.berth b).cells ++ packetCells false
        [BitVec.ofNat 64 (c0 + s.f F.SCHED_RECORDS_NEXT_SEQ * 2 ^ 48), BitVec.ofNat 64 c1])) ∧
  (s.sched.marks = (at_, b, c0, c1) :: l → at_ + 16 ≤ s.clk → Answers .schedMark s fun t =>
    t.sched = { s.sched with marks := l } ∧
    (b < 1024 → s.berthTakesRecords b = false → Counted F.HARB_LOSS_ORPHANS s t b ∧ t.harb = s.harb) ∧
    (b < 1024 → s.berthTakesRecords b = true → (s.berth b).gap = 0 → s.berthRoom b 2 = true →
      (t.berth b).cells = (s.berth b).cells ++ packetCells false [BitVec.ofNat 64 c0, BitVec.ofNat 64 c1]))


/-! ### The Harbour (R354 to R373) -/

/-- R356 to R358, R362, R364, R367: pushes, whole and in halves, the commit of a packet, a drop at a full berth, pops, PEEK and DROP_REST. -/
def Obligations.HarbourPackets : Prop := ∀ (s : State) (src : Src) (b : Berth) (v : DWord) (w : Word) (c : HCell) (l : List HCell),
  let k := pushSrcOf src
  let own := (assoc (s.berth b).opens k).getD []
  let takes := s.berthOn b = true ∧ s.pushAllowed b k = true ∧ (s.berth b).discard.contains k = false ∧ (s.berth b).gap = 0
  (s.takes src (portOffset b 0) → takes → s.berthRoom b 1 = true → Answers (.harbourPush src b .both v) s fun t =>
    t.resp = .ok 0 ∧ assoc (t.berth b).opens k = some (own ++ [v]) ∧ (t.berth b).cells = (s.berth b).cells ∧
    RegsKept [⟨.HARB_STATUS, b, 0, 0⟩] s t ∧ t = { s with regs := t.regs, harb := t.harb, resp := t.resp }) ∧
  (s.takes src (portOffset b 8) → takes → s.berthRoom b 1 = true → Answers (.harbourPushEnd src b .both v) s fun t =>
    t.resp = .ok 0 ∧ assoc (t.berth b).opens k = none ∧
    (t.berth b).cells = (s.berth b).cells ++ packetCells false (own ++ [v]) ∧
    (s.berthSync b = true → t.b F.HARB_STATUS_NOTICE b = true ∧ (t.berth b).hidden = (s.berth b).hidden) ∧
    (s.berthSync b = false → (t.berth b).hidden = (s.berth b).hidden ++
      [(own.length + 1, s.sideEdges (s.f F.HARB_CFG_CCLK b))]) ∧
    RegsKept [⟨.HARB_STATUS, b, 0, 0⟩] s t ∧ t = { s with regs := t.regs, harb := t.harb, resp := t.resp }) ∧
  (s.takes src (portOffset b 0) → takes → s.berthRoom b 1 = false → assoc (s.berth b).opens k = none →
    Answers (.harbourPush src b .both v) s fun t =>
      t.resp = .ok 0 ∧ (t.berth b).gap = 1 ∧ (t.berth b).gapTime = s.ns ∧ (t.berth b).discard = k :: (s.berth b).discard ∧
      (t.berth b).cells = (s.berth b).cells ∧ Counted F.HARB_COUNTS_DROPS s t b ∧ t.b F.HARB_STATUS_GAP_PEND b = true) ∧
  (s.takes src (portOffset b 0) → s.berthOn b = false → Answers (.harbourPush src b .both v) s fun t =>
    t.resp = .ok 0 ∧ Counted F.HARB_LOSS_ORPHANS s t b ∧ RegsKept [⟨.HARB_LOSS, b, 0, 0⟩] s t ∧ OnlyRegs s t) ∧
  (s.takes src (portOffset b 0) → Answers (.harbourPush src b .lo v) s fun t =>
    t.resp = .ok 0 ∧ assoc (t.berth b).pushLo k = some (v.setWidth 32) ∧ t = { s with harb := t.harb, resp := t.resp }) ∧
  (s.takes src (portOffset b 0) → assoc (s.berth b).pushLo k = some w → takes → s.berthRoom b 1 = true →
    Answers (.harbourPush src b .hi v) s fun t =>
      t.resp = .ok 0 ∧ assoc (t.berth b).opens k = some (own ++ [((v.setWidth 32 : Word) ++ w)]) ∧ assoc (t.berth b).pushLo k = none) ∧
  (s.takes src (portOffset b 0) → assoc (s.berth b).pushLo k = none → Answers (.harbourPush src b .hi v) s fun t =>
    t.resp = .error ∧ Counted F.HARB_REFUSED_COUNT s t ∧ NamesKept [.HARB_REFUSED, .FAB_PORT_ERR] s t ∧ OnlyRegs s t) ∧
  (s.up = true → s.portReads b = true → (s.berth b).cells = c :: l → 0 < (s.berth b).cLevel → (s.berth b).gap = 0 →
    Answers (.harbourPop src b .both .none) s fun t =>
      t.resp = .ok c.data ∧ (t.berth b).cells = l ∧ (t.berth b).lastPop = c.data ∧
      t.popTag src b = c.last.toNat + 2 * c.gap.toNat ∧
      RegsKept [⟨.HARB_STATUS, b, 0, 0⟩] s t ∧ t = { s with regs := t.regs, harb := t.harb, resp := t.resp }) ∧
  (s.up = true → s.portReads b = true → (s.berth b).cLevel = 0 → Answers (.harbourPop src b .both .none) s fun t =>
    t.resp = .ok (s.berth b).lastPop ∧ t.popTag src b = 4 ∧ t.b F.HARB_STATUS_UNDERRUN b = true ∧
    Counted F.HARB_COUNTS_UNDERRUNS s t b ∧ (t.berth b).cells = (s.berth b).cells ∧
    RegsKept [⟨.HARB_STATUS, b, 0, 0⟩, ⟨.HARB_COUNTS, b, 0, 0⟩] s t) ∧
  (s.up = true → s.portReads b = true → Answers (.harbourPeek src b .both .none) s fun t =>
    t = { s with resp := .ok (s.berth b).peek }) ∧
  (s.up = true → s.portReads b = false →
    (Answers (.harbourPop src b .both .none) s fun t => t.resp = .error ∧ Counted F.HARB_REFUSED_COUNT s t ∧ OnlyRegs s t) ∧
    (Answers (.harbourPeek src b .both .none) s fun t => t.resp = .error ∧ Counted F.HARB_REFUSED_COUNT s t ∧ OnlyRegs s t)) ∧
  (s.takes src (portOffset b 0x28) → s.portReads b = true → 0 < (s.berth b).cLevel → (s.berth b).gap = 0 →
    Answers (.dropRest src b w) s fun t =>
      t.resp = .ok 0 ∧ (t.berth b).cells = (s.berth b).cells.drop (firstPacket (s.berth b).cells) ∧
      RegsKept [⟨.HARB_STATUS, b, 0, 0⟩] s t) ∧
  (s.takes src (portOffset b 0x28) → s.portReads b = true → (s.berth b).cLevel = 0 → Answers (.dropRest src b w) s fun t =>
    t.resp = .ok 0 ∧ Counted F.HARB_COUNTS_UNDERRUNS s t b ∧ RegsKept [⟨.HARB_COUNTS, b, 0, 0⟩] s t ∧ OnlyRegs s t)

/-- R355, R359, R360, R363, R369, R370: what one side of a berth sees of the other, at the third edge of its own clock; the gap mark; the
delivery to the fabric, which writes two user registers and pops the cell where READY answers; and the registers of a berth. -/
def Obligations.HarbourBerths : Prop := ∀ (s : State) (src : Src) (b : Berth) (v : Word) (n : Nat × Nat) (l : List (Nat × Nat)) (d : Die),
  ((s.berth b).gap = 0 →
    ((s.berth b).unseen = n :: l → s.crosses b (s.f F.HARB_CFG_PCLK b) n.2 = true → Answers (.pointerCrossing b true) s fun t =>
      t.berth b = { s.berth b with unseen := l } ∧ RegsKept [⟨.HARB_STATUS, b, 0, 0⟩] s t ∧ t = { s with regs := t.regs, harb := t.harb }) ∧
    ((s.berth b).hidden = n :: l → s.crosses b (s.f F.HARB_CFG_CCLK b) n.2 = true → Answers (.pointerCrossing b false) s fun t =>
      t.berth b = { s.berth b with hidden := l } ∧ t.b F.HARB_STATUS_NOTICE b = true ∧ RegsKept [⟨.HARB_STATUS, b, 0, 0⟩] s t ∧
      t = { s with regs := t.regs, harb := t.harb })) ∧
  (s.berthOn b = false ∨ s.portClockRuns (s.f F.HARB_CFG_CCLK b) = false → Answers (.pointerCrossing b false) s fun t => t = s) ∧
  (s.berthOn b = true → 0 < (s.berth b).gap → s.berthRoom b 2 = true → Answers (.gapMarkWrite b) s fun t =>
    (t.berth b).cells = (s.berth b).cells ++ packetCells true
      [BitVec.ofNat 64 ((s.berth b).gap + 0x3E * 2 ^ 36), BitVec.ofNat 64 (s.berth b).gapTime] ∧
    (t.berth b).gap = 0 ∧ t.b F.HARB_STATUS_GAP_PEND b = false ∧ t.b F.HARB_STATUS_GAP_SENT b = true ∧
    RegsKept [⟨.HARB_STATUS, b, 0, 0⟩] s t ∧ t = { s with regs := t.regs, harb := t.harb }) ∧
  (∀ c m, s.deliveryDie b = some d → s.berthOn b = true → 0 < (s.berth b).cLevel → (s.berth b).cells = c :: m →
    (s.userPort d = true → s.delivering b = false → Answers (.fabricDelivery b ()) s fun t =>
      (∃ x y, t.fab.access[d] = s.fab.access[d] ++ [x, y] ∧
        x.write = true ∧ x.addr = s.f F.HARB_CFG_DADDR b % 65536 ∧ x.v = c.data.setWidth 32 ∧
        y.write = true ∧ y.addr = (s.f F.HARB_CFG_DADDR b + highRegister c) % 65536 ∧ y.v = (c.data >>> 32).setWidth 32) ∧
      t.delivering b = true ∧ t = { s with fab := t.fab }) ∧
    ((s.berth b).gap = 0 →
      ((Act.deliveryEnd b c true).run s).berth b = { s.berth b with
        cells := m, unseen := (((Act.deliveryEnd b c true).run s).berth b).unseen } ∧
      (Act.deliveryEnd b c false).run s = s)) ∧
  (s.takesReg src .HARB_CFG b → F.HARB_CFG_PCLK.of v ≠ 3 → F.HARB_CFG_CCLK.of v ≠ 3 →
    (F.HARB_CFG_SYNC.of v = 1 → F.HARB_CFG_PCLK.of v = F.HARB_CFG_CCLK.of v) →
    (F.HARB_CFG_ENABLE.of v = 1 → s.b F.HARB_CFG_ENABLE b = false → s.reserveSum + s.berthMin b ≤ cellsInPool →
      Answers (.berthCfgWrite src b v) s fun t =>
        t.resp = .ok 0 ∧ t.r .HARB_CFG b = v &&& RegName.mask .HARB_CFG ∧ t.berth b = BerthSt.empty ∧
        t.b F.HARB_STATUS_BROKEN b = false ∧ RegsKept [⟨.HARB_CFG, b, 0, 0⟩, ⟨.HARB_STATUS, b, 0, 0⟩] s t) ∧
    (F.HARB_CFG_ENABLE.of v = 1 → s.b F.HARB_CFG_ENABLE b = false → cellsInPool < s.reserveSum + s.berthMin b →
      Answers (.berthCfgWrite src b v) s fun t =>
        t.resp = .error ∧ Counted F.HARB_REFUSED_COUNT s t ∧ NamesKept [.HARB_REFUSED, .FAB_PORT_ERR] s t ∧ OnlyRegs s t) ∧
    (F.HARB_CFG_ENABLE.of v = 0 → s.berthOn b = true → Answers (.berthCfgWrite src b v) s fun t =>
      t.resp = .ok 0 ∧ t.r .HARB_CFG b = v &&& RegName.mask .HARB_CFG ∧ (t.berth b).pLevel = 0 ∧ (t.berth b).gap = 0 ∧
      t.f F.HARB_LOSS_DISCARDED b = min (s.f F.HARB_LOSS_DISCARDED b +
        (((s.berth b).cells.filter (·.last)).length + (s.berth b).opens.length + (s.berth b).gap)) 65535)) ∧
  (s.takesReg src .HARB_CFG b → (F.HARB_CFG_PCLK.of v = 3 ∨ F.HARB_CFG_CCLK.of v = 3) → Answers (.berthCfgWrite src b v) s fun t =>
    t.resp = .error ∧ Counted F.HARB_REFUSED_COUNT s t ∧ NamesKept [.HARB_REFUSED, .FAB_PORT_ERR] s t ∧ OnlyRegs s t) ∧
  (s.takesReg src .HARB_SIZE b → s.b F.HARB_CFG_ENABLE b = false → 1 ≤ F.HARB_SIZE_CAP_M1.of v →
    F.HARB_SIZE_MIN.of v ≤ F.HARB_SIZE_CAP_M1.of v + 1 → Answers (.berthSizeWrite src b v) s fun t =>
      t.resp = .ok 0 ∧ t.r .HARB_SIZE b = v &&& RegName.mask .HARB_SIZE ∧ RegsKept [⟨.HARB_SIZE, b, 0, 0⟩] s t ∧ OnlyRegs s t) ∧
  (s.takesReg src .HARB_SIZE b → (F.HARB_SIZE_CAP_M1.of v = 0 ∨ F.HARB_SIZE_CAP_M1.of v + 1 < F.HARB_SIZE_MIN.of v) →
    Answers (.berthSizeWrite src b v) s fun t =>
      t.resp = .error ∧ Counted F.HARB_REFUSED_COUNT s t ∧ NamesKept [.HARB_REFUSED, .FAB_PORT_ERR] s t ∧ OnlyRegs s t) ∧
  (s.takesReg src .HARB_WATER b → F.HARB_WATER_LWM.of v < F.HARB_WATER_HWM.of v → F.HARB_WATER_HWM.of v ≤ s.berthCap b →
    Answers (.berthWaterWrite src b v) s fun t =>
      t.resp = .ok 0 ∧ t.r .HARB_WATER b = v &&& RegName.mask .HARB_WATER ∧ RegsKept [⟨.HARB_WATER, b, 0, 0⟩] s t ∧ OnlyRegs s t) ∧
  (s.takesReg src .HARB_WATER b → (F.HARB_WATER_HWM.of v ≤ F.HARB_WATER_LWM.of v ∨ s.berthCap b < F.HARB_WATER_HWM.of v) →
    Answers (.berthWaterWrite src b v) s fun t =>
      t.resp = .error ∧ Counted F.HARB_REFUSED_COUNT s t ∧ NamesKept [.HARB_REFUSED, .FAB_PORT_ERR] s t ∧ OnlyRegs s t)

/-! ### DMA (R374 to R391) -/

/-- R382, R386 to R389: START, ABORT and what is refused of CH.CTRL, the end of an abort that has not drained in 50 µs, triggers and pacing.
-/
def Obligations.DmaCommands : Prop := ∀ (s : State) (src : Src) (c : Chan) (v : Word),
  let fits := 1 ≤ F.DMA_CTRL_MAX_OUT.of v ∧ F.DMA_CTRL_MAX_OUT.of v ≤ 32 ∧
    (F.DMA_CTRL_TRIG_EN.of v = s.f F.DMA_CTRL_TRIG_EN c ∨ s.dmaState c = dmaIdle)
  (s.takesReg src .DMA_CTRL c → fits → v.getLsbD 0 = true → v.getLsbD 1 = false → v.getLsbD 2 = false →
    (s.dmaState c = dmaIdle ∨ s.dmaState c = dmaHalted) → Answers (.dmaStart src c v) s fun t =>
      t.resp = .ok 0 ∧ t.dmaState c = dmaFetch ∧ t.f F.DMA_CTRL_MAX_OUT c = F.DMA_CTRL_MAX_OUT.of v ∧
      t.f F.DMA_CTRL_PRIO c = F.DMA_CTRL_PRIO.of v ∧ t.f F.DMA_CTRL_TRIG_EN c = F.DMA_CTRL_TRIG_EN.of v ∧ (t.ch c).abort = none ∧
      RegsKept [⟨.DMA_CTRL, c, 0, 0⟩, ⟨.DMA_STATUS, c, 0, 0⟩] s t ∧ t = { s with regs := t.regs, dma := t.dma, resp := t.resp }) ∧
  (s.takesReg src .DMA_CTRL c →
    (F.DMA_CTRL_MAX_OUT.of v = 0 ∨ 32 < F.DMA_CTRL_MAX_OUT.of v ∨
      v.getLsbD 0 = true ∧ v.getLsbD 1 = false ∧ s.dmaState c ≠ dmaIdle ∧ s.dmaState c ≠ dmaHalted) →
    Answers (.dmaStart src c v) s fun t =>
      t.resp = .error ∧ Counted F.DMA_REFUSED_COUNT s t ∧ NamesKept [.DMA_REFUSED, .FAB_PORT_ERR] s t ∧ OnlyRegs s t) ∧
  (s.takesReg src .DMA_CTRL c → fits → v.getLsbD 1 = true → v.getLsbD 2 = false →
    (s.dmaState c = dmaHalted → Answers (.dmaAbort src c v) s fun t =>
      t.resp = .ok 0 ∧ t.dmaState c = dmaIdle ∧ (t.ch c).jobs = []) ∧
    ((s.dmaState c = dmaRun ∨ s.dmaState c = dmaWaitTrig) → (s.ch c).abort = none → Answers (.dmaAbort src c v) s fun t =>
      t.resp = .ok 0 ∧ t.dmaState c = dmaDrain ∧ (t.ch c).abort = some s.clk ∧
      RegsKept [⟨.DMA_CTRL, c, 0, 0⟩, ⟨.DMA_STATUS, c, 0, 0⟩] s t) ∧
    (s.dmaState c = dmaFetch → (s.ch c).abort = none → Answers (.dmaAbort src c v) s fun t =>
      t.resp = .ok 0 ∧ t.dmaState c = dmaFetch ∧ (t.ch c).abort = some s.clk)) ∧
  (∀ t, (s.ch c).abort = some t → t + 8192 ≤ s.clk → AnswersThenSettled (.dmaUndrained c) s fun u =>
    u.b F.DMA_STATUS_ABORTED c = true ∧ u.dmaState c = dmaIdle ∧ (u.ch c).jobs = [] ∧ (u.ch c).abort = none ∧ u.dmaTags c = []) ∧
  ((s.ch c).abort = none → AnswersThenSettled (.dmaUndrained c) s fun u => u = s) ∧
  (s.takes src (if c.val < 32 then 0x91000 else 0x91004) →
    (s.triggerTaken c = true → s.dmaState c ≠ dmaWaitTrig → Answers (.dmaTrigger src c) s fun t =>
      t.resp = .ok 0 ∧ t.f F.DMA_STATUS_TRIG_PEND c = s.f F.DMA_STATUS_TRIG_PEND c + 1 ∧
      RegsKept [⟨.DMA_STATUS, c, 0, 0⟩] s t ∧ OnlyRegs s t) ∧
    (s.triggerTaken c = true → s.dmaState c = dmaWaitTrig → Answers (.dmaTrigger src c) s fun t =>
      t.resp = .ok 0 ∧ t.dmaState c = dmaRun ∧ t.f F.DMA_STATUS_TRIG_PEND c = s.f F.DMA_STATUS_TRIG_PEND c ∧
      RegsKept [⟨.DMA_STATUS, c, 0, 0⟩] s t ∧ OnlyRegs s t) ∧
    (s.triggerTaken c = false → Answers (.dmaTrigger src c) s fun t =>
      t.resp = .error ∧ Counted F.DMA_REFUSED_COUNT s t ∧ NamesKept [.DMA_REFUSED, .FAB_PORT_ERR] s t ∧ OnlyRegs s t)) ∧
  (s.takesReg src .DMA_RATE c → F.DMA_RATE_RATE.of v ≤ 256 → 1 ≤ F.DMA_RATE_DEPTH.of v → F.DMA_RATE_DEPTH.of v ≤ 16 →
    Answers (.dmaRateWrite src c v) s fun t =>
      t.resp = .ok 0 ∧ t.f F.DMA_RATE_RATE c = F.DMA_RATE_RATE.of v ∧ t.f F.DMA_RATE_DEPTH c = F.DMA_RATE_DEPTH.of v ∧
      (t.ch c).tokens = s.dmaTokens c ∧ RegsKept [⟨.DMA_RATE, c, 0, 0⟩] s t ∧
      t = { s with regs := t.regs, dma := t.dma, resp := t.resp }) ∧
  (s.takesReg src .DMA_RATE c → (256 < F.DMA_RATE_RATE.of v ∨ F.DMA_RATE_DEPTH.of v = 0 ∨ 16 < F.DMA_RATE_DEPTH.of v) →
    Answers (.dmaRateWrite src c v) s fun t =>
      t.resp = .error ∧ Counted F.DMA_REFUSED_COUNT s t ∧ NamesKept [.DMA_REFUSED, .FAB_PORT_ERR] s t ∧ OnlyRegs s t)

/-- R376, R379, R382, R385, R388: a descriptor fetched from elsewhere, the issue of a read burst over the ring, one in a system clock, the end
of a burst and its time-out after 1 ms, and the STATUS word of the last descriptor. -/
def Obligations.DmaTransfers : Prop := ∀ (s : State) (c : Chan) (w : List DWord) (tag : Fin 256) (ok : Bool) (j : DmaJob) (b : DmaBurst)
    (x : DmaTag),
  (s.dmaState c = dmaFetch → dmaDescAddrOk (s.dmaDesc c) = true → s.dmaHere (s.dmaDesc c) = false → w.length = 4 →
    (s.ch c).jobs = [] → (s.ch c).abort = none →
    (let d := dmaDescOf (s.dmaDesc c) w
     (d.bad = false → s.b F.DMA_CTRL_TRIG_EN c = false → AnswersThenSettled (.dmaDescriptorFetch c w) s fun u =>
      u.dmaState c = dmaRun ∧ u.f F.DMA_REMAIN_REMAIN c = d.len ∧ (u.ch c).jobs.map DmaJob.desc = [d]) ∧
     (d.bad = true → AnswersThenSettled (.dmaDescriptorFetch c w) s fun u =>
      u.dmaState c = dmaDrain ∧ (u.ch c).jobs.map DmaJob.code = [codeBadDesc]))) ∧
  (s.dmaState c = dmaFetch → dmaDescAddrOk (s.dmaDesc c) = false → (s.ch c).jobs = [] →
    AnswersThenSettled (.dmaDescriptorFetch c w) s fun u => u.dmaState c = dmaDrain ∧ (u.ch c).jobs.map DmaJob.code = [codeDescError]) ∧
  (s.dmaState c ≠ dmaFetch → AnswersThenSettled (.dmaDescriptorFetch c w) s fun u => u = s) ∧
  (s.dmaOrder.findSome? (fun c => (s.dmaEligible c).map fun x => (c, x)) = none → AnswersThenSettled .dmaBurstIssue s fun u => u = s) ∧
  (s.dma.servedAt = some s.clk → AnswersThenSettled .dmaBurstIssue s fun u => u = s) ∧
  (s.dma.servedAt ≠ some s.clk →
    s.dmaOrder.findSome? (fun c => (s.dmaEligible c).map fun x => (c, x)) = some (c, j, b) → s.dmaHere b.addr = false → b.use = .read →
    AnswersThenSettled .dmaBurstIssue s fun u =>
      u.dma.served = c.val ∧ u.dma.servedAt = some s.clk ∧ u.dma.tags = (s.dmaFreeTag, ⟨c, j.id, .read, b.addr, b.pos, b.n, s.clk, none, false⟩) :: s.dma.tags ∧
      (u.ch c).tokens = s.dmaTokens c - (if s.f F.DMA_RATE_RATE c = 0 then 0 else 256 * beatCount b.addr b.n) ∧ u.resp = s.resp) ∧
  (assoc s.dma.tags tag.val = none → AnswersThenSettled (.dmaBurstComplete tag ok w) s fun u => u = s) ∧
  (assoc s.dma.tags tag.val = some x → (x.local_.isSome = true ∨ s.dmaHere x.addr = false) →
    AnswersThenSettled (.dmaBurstComplete tag ok w) s fun u =>
      assoc u.dma.tags tag.val = none ∧ (x.dead = true → Counted F.DMA_COUNTS_LATE_DISCARD s u x.chan)) ∧
  (assoc s.dma.tags tag.val = some x → x.use = .read → x.dead = false → x.local_ = none → s.dmaHere x.addr = false →
    (s.ch x.chan).jobs = [j] → j.id = x.desc → j.sent < j.desc.len → j.done = false →
    (unpackBytes x.addr x.n w).length = x.n → AnswersThenSettled (.dmaBurstComplete tag true w) s fun u =>
      (u.ch x.chan).jobs = [{ j with got := j.got ++ [(x.pos, unpackBytes x.addr x.n w)] }] ∧
      u.f F.DMA_REMAIN_REMAIN x.chan = s.f F.DMA_REMAIN_REMAIN x.chan - x.n) ∧
  (assoc s.dma.tags tag.val = some x → x.at_ + 163840 ≤ s.clk → AnswersThenSettled (.dmaTransactionTimeout tag) s fun u =>
    assoc u.dma.tags tag.val = none ∧
    (x.dead = false → x.use = .read → (s.ch x.chan).jobs = [j] → j.id = x.desc → j.code = 0 → s.dmaState x.chan = dmaRun →
      (u.ch x.chan).jobs = [{ j with code := codeTimeout }] ∧ u.dmaState x.chan = dmaDrain)) ∧
  ((s.ch c).jobs = [j] → j.done = true → j.code = 0 → j.acked = j.desc.len → s.dmaBusy c j.id = false → s.dmaState c = dmaDrain →
    (s.ch c).abort = none → s.dmaHere (j.desc.addr + 28) = false → AnswersThenSettled (.dmaStatusWriteback c true) s fun u =>
      u.r .DMA_LAST c = dmaStatusWord 0 codeOk ∧ Counted F.DMA_COUNTS_ENDED s u c ∧ u.dmaState c = dmaIdle ∧ (u.ch c).jobs = [] ∧
      u.b F.DMA_STATUS_ERROR c = s.b F.DMA_STATUS_ERROR c)


/-! ### Start-up and configuration (R70, R73, R97 to R108) -/

/-- R70, R73, R99, R100: reduced service, the full load frame by frame, its failure with and without a fallback, its end, the coefficients,
release without a policy image, and a region load whose library entry cannot be read. -/
def Obligations.FullLoad : Prop := ∀ (s : State) (slot : Fin 2) (again auto : Bool),
  let img := s.load.stream
  let fails := fun (t : State) (code : Nat) (again : Bool) =>
    t.f F.CFG_STATUS_CFG_ERR = code ∧ t.b F.CFG_STATUS_FAILED = true ∧ t.b F.CFG_STATUS_CFGERR = true ∧ t.load.op = .none ∧
    t.fab.cfg = [] ∧
    if again = false ∧ s.b F.CFG_BOOT_AUTO_FALLBACK = true then t.cfgState = 1 ∧ t.load.fallback = some (slot + 1)
    else t.cfgState = 0 ∧ t.f F.SYS_START_PHASE = 6 ∧ t.f F.SYS_MODE_EFF_FORCE_CAUSE = 2
  (s.up = true → s.f F.SYS_START_PHASE = 1 → s.started (if s.pwr.warm = true then 3276800 else 6553600) = true → slot = s.bootSlot →
    (s.slotValid slot = true → Answers .reducedServiceStart s fun t =>
      t.f F.SYS_START_PHASE = 2 ∧ t.cfgState = 1 ∧ t.load.op = .full slot false ∧ t.load.stream = s.flash.slots[slot] ∧
      t.load.frames = 0 ∧ t.load.header = false ∧ t.fab.cfg = [] ∧ t.fab.bram = []) ∧
    (s.slotValid slot = false → Answers .reducedServiceStart s fun t => fails t errSlotEmpty false)) ∧
  (s.load.op = .full slot again →
    (Answers (.fullLoadFrame true) s fun t => fails t errFlash again) ∧
    (s.load.header = false → 64 ≤ img.length → s.headerCode (img.take 64) 1 none = 0 → Answers (.fullLoadFrame false) s fun t =>
      t = { s with load := { s.load with header := true } }) ∧
    (s.load.header = true → s.load.frames < hdrFrames img → 64 + 256 * (s.load.frames + 1) ≤ img.length →
      s.frameCodeAt img s.load.frames s.load.last s.load.pairs = 0 → Answers (.fullLoadFrame false) s fun t =>
        t.load.frames = s.load.frames + 1 ∧ t.load.last = some (frameAddr (s.plainFrame img s.load.frames)) ∧
        t = { s with load := t.load, fab := t.fab }) ∧
    (s.load.header = true → s.load.frames < hdrFrames img → img.length < 64 + 256 * (s.load.frames + 1) →
      Answers (.fullLoadFrame false) s fun t => fails t errTruncated again ∧ t.f F.CFG_ERR_INFO_FRAME = s.load.frames % 65536) ∧
    (s.load.header = true → s.load.frames = hdrFrames img → 192 + 256 * hdrFrames img ≤ img.length →
      s.trailerCode img (256 * hdrFrames img) = 0 → Answers (.fullLoadVerified false) s fun t =>
        t.load.op = .none ∧ t.fab.scrub = true ∧ t.pwr.secondVerify = (if again then some s.clk else s.pwr.secondVerify) ∧
        (s.load.pairs = [] → t.f F.CFG_BUILD_ID_BUILD_ID = hdrBuild img ∧ t.f F.SYS_START_SLOT = slot.val ∧
          t.f F.SYS_START_PHASE = 3 ∧ t.b F.CFG_STATUS_DONE = true ∧ t.cfgState = 0)) ∧
    (s.load.header = true → s.load.frames = hdrFrames img → Answers (.fullLoadVerified true) s fun t => fails t errFlash again)) ∧
  (s.load.fallback = some slot → s.slotValid slot = true → Answers .fallbackLoadStart s fun t =>
    t.load.op = .full slot true ∧ t.load.stream = s.flash.slots[slot] ∧ t.load.fallback = none ∧ t.cfgState = 1 ∧ t.fab.cfg = [] ∧
    RegsKept [⟨.CFG_STATUS, 0, 0, 0⟩] s t) ∧
  (s.load.fallback = none → Answers .fallbackLoadStart s fun t => t = s) ∧
  (s.f F.SYS_START_PHASE = 3 → Answers .coeffRestoreDone s fun t =>
    t.f F.SYS_START_PHASE = 4 ∧ t.pwr.restored = true ∧ RegsKept [⟨.SYS_START, 0, 0, 0⟩] s t ∧ t = { s with regs := t.regs, pwr := t.pwr }) ∧
  (s.mayRelease = true → s.pol.inForce = none → AnswersThenSettled .release s fun u =>
    u.released = true ∧ u.f F.SYS_START_PHASE = 5 ∧ u.f F.SYS_MODE_EFF_FORCE_CAUSE = 3 ∧
    u.f F.SYS_START_RELEASE_TIME = releaseTime (s.clk - s.pwr.startRef)) ∧
  (s.mayRelease = false → AnswersThenSettled .release s fun u => u = s) ∧
  (s.load.op = .region false auto → s.cfgState = 2 → Answers (.regionStreamStaged true) s fun t =>
    t.f F.CFG_STATUS_CFG_ERR = errFlash ∧ t.b F.CFG_STATUS_FAILED = true ∧ t.cfgState = 0 ∧ t.load.op = .none)

/-- R92, R97, R103 to R108: the commands of CFG.CTRL, the words of a host source, the steps of a region load and of flash programming, the
hold register, the boot register, keys and the scrubber. -/
def Obligations.Configuration : Prop := ∀ (s : State) (src : Src) (v : Word) (h a : Bool) (d : Nat) (r : Reg) (w : Nat) (x y : Fin 64),
  let refused := fun (t : State) => t.resp = .error ∧ Counted F.CFG_REFUSED_COUNT s t ∧
    NamesKept [.CFG_REFUSED, .FAB_PORT_ERR] s t ∧ OnlyRegs s t
  let failed := fun (t : State) (code : Nat) => t.f F.CFG_STATUS_CFG_ERR = code % 32 ∧ t.b F.CFG_STATUS_FAILED = true ∧ t.cfgState = 0 ∧
    t.load.op = .none
  let lib := F.CFG_CTRL_LIB_INDEX.of v
  let target := F.CFG_CTRL_TARGET.of v
  (s.takesReg src .CFG_CTRL → s.cfgState = 0 → F.CFG_CTRL_END_OF_SOURCE.of v = 0 → F.CFG_CTRL_START.of v = 1 → F.CFG_CTRL_ABORT.of v = 0 →
    (F.CFG_CTRL_OP.of v = 0 → s.released = true →
      (F.CFG_CTRL_SOURCE.of v = 1 → Answers (.cfgRegionLoad src v) s fun t =>
        t.resp = .ok 0 ∧ t.cfgState = 2 ∧ t.load.op = .region true false ∧ t.load.target.val = target ∧ t.load.stream = [] ∧
        t.f F.CFG_STATUS_CFG_ERR = 0) ∧
      (F.CFG_CTRL_SOURCE.of v = 0 → s.bit F.CFG_LIB_VALID_VALID lib = false → Answers (.cfgRegionLoad src v) s fun t =>
        t.resp = .ok 0 ∧ failed t errSlotEmpty) ∧
      (F.CFG_CTRL_SOURCE.of v = 0 → s.bit F.CFG_LIB_VALID_VALID lib = true → 64 ≤ (s.flash.lib[Fin.ofNat 32 lib]).length →
        s.headerCode ((s.flash.lib[Fin.ofNat 32 lib]).take 64) 2 (some target) = 0 → Answers (.cfgRegionLoad src v) s fun t =>
          t.resp = .ok 0 ∧ t.cfgState = 2 ∧ t.load.op = .region false false ∧ t.load.header = true ∧
          t.load.stream = s.flash.lib[Fin.ofNat 32 lib]) ∧
      (2 ≤ F.CFG_CTRL_SOURCE.of v → Answers (.cfgRegionLoad src v) s refused)) ∧
    (F.CFG_CTRL_OP.of v = 0 → F.CFG_CTRL_SOURCE.of v < 2 → s.released = false → Answers (.cfgRegionLoad src v) s fun t =>
      t.resp = .error ∧ t.f F.CFG_STATUS_CFG_ERR = errNoFull ∧ t.b F.CFG_STATUS_FAILED = true ∧ Counted F.CFG_REFUSED_COUNT s t) ∧
    (F.CFG_CTRL_OP.of v = 1 → F.CFG_CTRL_DEST.of v ≠ 3 → Answers (.cfgFlashProgram src v) s fun t =>
      t.resp = .ok 0 ∧ t.cfgState = 5 ∧
      t.load.op = .program (if F.CFG_CTRL_DEST.of v = 2 then 2 + lib else F.CFG_CTRL_DEST.of v) ∧ t.load.stream = [] ∧
      (F.CFG_CTRL_DEST.of v = 0 → t.slotValid 0 = false ∧ t.flash.slots[(0 : Fin 2)] = []) ∧
      (F.CFG_CTRL_DEST.of v = 1 → t.slotValid 1 = false ∧ t.flash.slots[(1 : Fin 2)] = []) ∧
      (F.CFG_CTRL_DEST.of v = 2 → t.bit F.CFG_LIB_VALID_VALID lib = false)) ∧
    (F.CFG_CTRL_OP.of v = 1 → F.CFG_CTRL_DEST.of v = 3 → Answers (.cfgFlashProgram src v) s refused) ∧
    (2 ≤ F.CFG_CTRL_OP.of v → Answers (.cfgRegionLoad src v) s refused)) ∧
  (s.takesReg src .CFG_CTRL → s.cfgState ≠ 0 → F.CFG_CTRL_ABORT.of v = 0 → F.CFG_CTRL_END_OF_SOURCE.of v = 0 →
    Answers (.cfgRegionLoad src v) s refused) ∧
  (s.takesReg src .CFG_CTRL → s.cfgState ≠ 0 → F.CFG_CTRL_ABORT.of v = 1 → (s.load.op = .region h a ∨ s.load.op = .program d) →
    Answers (.cfgAbort src v) s fun t => t.resp = .ok 0 ∧ failed t errAborted) ∧
  (s.takesReg src .CFG_CTRL → F.CFG_CTRL_ABORT.of v = 0 → F.CFG_CTRL_END_OF_SOURCE.of v = 1 →
    (s.cfgState ≠ 0 → s.hostSource = true → s.receiving = true → s.streamShort = true → Answers (.cfgEndOfSource src v) s fun t =>
      t.resp = .ok 0 ∧ failed t errTruncated) ∧
    (s.cfgState ≠ 0 → s.hostSource = true → (s.receiving = false ∨ s.streamShort = false) → Answers (.cfgEndOfSource src v) s fun t =>
      t = { s with load := { s.load with ended := true }, resp := .ok 0 }) ∧
    ((s.cfgState = 0 ∨ s.hostSource = false) → Answers (.cfgEndOfSource src v) s refused)) ∧
  (s.takesReg src .CFG_DATA → s.receiving = true → s.load.ended = false → (s.load.header = false ∨ s.load.stream.length < hdrLength s.load.stream) →
    (s.load.header = true ∨ s.load.stream.length + 4 ≠ 64) → Answers (.cfgDataWrite src v) s fun t =>
      t.resp = .ok 0 ∧ t.load = { s.load with stream := s.load.stream ++ leBytes v.toNat 4, byteAt := s.clk } ∧
      (s.load.op = .program d → s.load.header = true → hdrLength t.load.stream ≤ t.load.stream.length → t.cfgState = 6) ∧
      (s.load.op = .region h a → t.cfgState = s.cfgState) ∧ RegsKept [⟨.CFG_STATUS, 0, 0, 0⟩] s t) ∧
  (s.takesReg src .CFG_DATA → (s.receiving = false ∨ s.load.ended = true) → Answers (.cfgDataWrite src v) s refused) ∧
  (s.receiving = true → s.streamShort = true → s.load.byteAt + 16384000 ≤ s.clk → Answers .streamStopped s fun t => failed t errTruncated) ∧
  (s.load.op = .region h a →
    (s.cfgState = 2 → s.streamShort = false →
      ((s.bodyCode s.load.stream).1 = 0 → Answers (.regionStreamStaged false) s fun t =>
        t.cfgState = 3 ∧ RegsKept [⟨.CFG_STATUS, 0, 0, 0⟩] s t ∧ OnlyRegs s t) ∧
      ((s.bodyCode s.load.stream).1 ≠ 0 → Answers (.regionStreamStaged false) s fun t => failed t (s.bodyCode s.load.stream).1)) ∧
    (s.cfgState = 2 → h = false → Answers (.regionStreamStaged true) s fun t => failed t errFlash) ∧
    (s.cfgState = 3 → Answers .regionStreamChecked s fun t =>
      t.cfgState = 4 ∧ t.regionHeld s.load.target = true ∧ RegsKept [⟨.CFG_STATUS, 0, 0, 0⟩] s t ∧ t = { s with regs := t.regs, fab := t.fab }) ∧
    (s.cfgState = 4 → a = false → Answers .regionLoadWritten s fun t =>
      t.b F.CFG_STATUS_DONE = true ∧ t.cfgState = 0 ∧ t.load.op = .none ∧
      (s.bit F.CFG_RESERVE_RESERVE s.load.target = true → t.bit F.CFG_RESERVE_LOADED_LOADED s.load.target = true) ∧
      (s.bit F.CFG_RESERVE_RESERVE s.load.target = false → RegsKept [⟨.CFG_STATUS, 0, 0, 0⟩] s t))) ∧
  (s.load.op = .program d → s.cfgState = 6 →
    ((s.bodyCode s.load.stream).1 = 0 → Answers (.programmedCopyVerified false) s fun t =>
      t.b F.CFG_STATUS_DONE = true ∧ t.cfgState = 0 ∧
      (d = 0 → t.slotValid 0 = true ∧ t.flash.slots[(0 : Fin 2)] = s.load.stream) ∧
      (d = 1 → t.slotValid 1 = true ∧ t.flash.slots[(1 : Fin 2)] = s.load.stream)) ∧
    ((s.bodyCode s.load.stream).1 ≠ 0 → Answers (.programmedCopyVerified false) s fun t => failed t (s.bodyCode s.load.stream).1)) ∧
  (s.takesReg src .CFG_HOLD → Answers (.cfgHoldWrite src v) s fun t =>
    t.resp = .ok 0 ∧ t.r .CFG_HOLD = v ||| s.r .FAULT_RETIRED ∧ RegsKept [⟨.CFG_HOLD, 0, 0, 0⟩] s t ∧
    t = { s with regs := t.regs, fab := t.fab, resp := t.resp } ∧
    (s.load.op = .region h a → s.load.held = true → t.regionHeld s.load.target = true)) ∧
  (s.takesReg src .CFG_BOOT → Answers (.cfgBootWrite src v) s fun t =>
    t.resp = .ok 0 ∧ t.f F.CFG_BOOT_SLOT = F.CFG_BOOT_SLOT.of v ∧ t.f F.CFG_BOOT_AUTO_FALLBACK = F.CFG_BOOT_AUTO_FALLBACK.of v ∧
    RegsKept [⟨.CFG_BOOT, 0, 0, 0⟩] s t ∧ OnlyRegs s t) ∧
  (s.takesReg src .CFG_KEY_REVOKE →
    let revoked := s.f F.CFG_KEYS_SIGN_REVOKED ||| 1 <<< F.CFG_KEY_REVOKE_INDEX.of v
    let last := s.f F.CFG_KEYS_SIGN_PROG &&& (255 - revoked) = 0
    (F.CFG_KEY_REVOKE_KEY.of v = 0x5A → ¬last → Answers (.keyRevoke src v) s fun t =>
      t.resp = .ok 0 ∧ t.f F.CFG_KEYS_SIGN_REVOKED = revoked ∧ t.f F.CFG_KEYS_SIGN_PROG = s.f F.CFG_KEYS_SIGN_PROG ∧
      RegsKept [⟨.CFG_KEYS, 0, 0, 0⟩] s t ∧ OnlyRegs s t) ∧
    (F.CFG_KEY_REVOKE_KEY.of v ≠ 0x5A ∨ last → Answers (.keyRevoke src v) s refused)) ∧
  (s.fab.scrub = true → s.up = true → w < regionWords → s.scrubSkips r w = false →
    (Answers (.scrubWord (some r) w [x] false) s fun t =>
      Counted F.CFG_SCRUB_CORRECTED s t ∧ RegsKept [⟨.CFG_SCRUB, 0, 0, 0⟩] s t ∧ OnlyRegs s t) ∧
    (x ≠ y → Answers (.scrubWord (some r) w [x, y] false) s fun t =>
      Counted F.CFG_SCRUB_FORCED s t ∧ t.bit F.CFG_SCRUB_FLAG_FLAG r = true) ∧
    (Answers (.scrubWord (some r) w [] true) s fun t =>
      t.f F.CFG_SCRUB_SWEEPS = (s.f F.CFG_SCRUB_SWEEPS + 1) % 65536 ∧ RegsKept [⟨.CFG_SCRUB, 0, 0, 0⟩] s t ∧ OnlyRegs s t)) ∧
  (s.fab.scrub = false → Answers (.scrubWord (some r) w [x] false) s fun t => t = s)

/-! ### The fabric's meetings with the module (R116 to R135) -/

/-- R116, R121, R127 to R134: fabric clocks, errors of block RAM, user registers, the master port, outlets, taps and captures. How long an
issued write waits, and what a capture meets that moves, is the model's reading (log entries 68 and 162). -/
def Obligations.FabricPorts : Prop := ∀ (s : State) (src : Src) (v w : Word) (i : Fclk) (r : Reg) (k : Fin 4) (n : Fin 1024) (d : Die)
    (a : Fin 65536) (e : Eng) (t8 : Fin 8) (p : PortAccess) (l : List PortAccess) (c : Capture) (addr : BitVec 24) (x : DWord),
  let refused := fun (t : State) => t.resp = .error ∧ Counted F.FAB_CAP_STATUS_CAP_REFUSED s t ∧
    NamesKept [.FAB_CAP_STATUS, .FAB_PORT_ERR] s t ∧ OnlyRegs s t
  ((s.synthWord i).getLsbD 31 = true → Answers (.fclkLock i) s fun t =>
    t.fclkLocked i = true ∧ t.fab.phase[i] = 0 ∧ (∀ j : Fclk, j ≠ i → t.fclkLocked j = s.fclkLocked j) ∧
    RegsKept [⟨.FAB_CLK, 0, 0, 0⟩] s t ∧ t = { s with regs := t.regs, fab := t.fab }) ∧
  ((s.synthWord i).getLsbD 31 = false → Answers (.fclkLock i) s fun t => t = s) ∧
  (s.fclkLocked i = true → Answers (.fclkLost i) s fun t =>
    t.fclkLocked i = false ∧ t.bit F.FAB_CLK_LOST i = true ∧ NamesKept [.FAB_CLK, .FAULT_STATUS, .FAULT_EVENTS] s t ∧ OnlyRegsAndLog s t) ∧
  (Answers (.bramEccEvent r k n false) s fun t =>
    Counted F.FAB_BRAM_ECC_CORRECTED s t (r / 16) ∧ t.bit F.FAB_BRAM_ECC_FLAG_FLAG (r % 16) (r / 16) = true ∧
    RegsKept [⟨.FAB_BRAM_ECC, r / 16, 0, 0⟩, ⟨.FAB_BRAM_ECC_FLAG, r / 16, 0, 0⟩] s t ∧ OnlyRegs s t) ∧
  (Answers (.bramEccEvent r k n true) s fun t =>
    Counted F.FAB_BRAM_ECC_UNCORRECTABLE s t (r / 16) ∧ t.bit F.FAB_BRAM_ECC_FLAG_FLAG (r % 16) (r / 16) = true ∧
    NamesKept [.FAB_BRAM_ECC, .FAB_BRAM_ECC_FLAG, .FAULT_STATUS, .FAULT_EVENTS] s t ∧
    (∃ y : Word, t.fab.bram = tabSet 0 s.fab.bram (r.val * 4096 + k.val * 1024 + n.val) y ∧
      t.fab.ramRead = tabSet 0 s.fab.ramRead (r.val * 4 + k.val) y.toNat) ∧
    t = { s with regs := t.regs, log := t.log, seed := t.seed, fab := { s.fab with bram := t.fab.bram, ramRead := t.fab.ramRead } }) ∧
  (s.userPort d = true → (∀ e, src ≠ .engine e) →
    (s.takes src (userOffset d a) → Answers (.userRegisterAccess src d true a v) s fun t =>
      t.resp = .none ∧ t.fab.access[d] = s.fab.access[d] ++ [⟨src, true, a, v, s.clk, none, 0⟩] ∧
      t = { s with fab := t.fab, resp := t.resp }) ∧
    (s.up = true → Answers (.userRegisterAccess src d false a v) s fun t =>
      t.resp = .none ∧ t.fab.access[d] = s.fab.access[d] ++ [⟨src, false, a, v, s.clk, none, 0⟩] ∧
      t = { s with fab := t.fab, resp := t.resp })) ∧
  (s.userPort d = false → s.up = true → Answers (.userRegisterAccess src d false a v) s fun t => t = { s with resp := .error }) ∧
  (s.fab.access[d] = p :: l →
    (AnswersThenSettled (.userRegisterReady d v) s fun u =>
      (u.fab.access[d]).map PortAccess.addr = l.map PortAccess.addr ∧
      ((∀ e, p.src ≠ .engine e) → p.job = none → s.fab.jobs = [] → u.resp = .ok (if p.write then 0 else v.setWidth 64))) ∧
    (s.accessLate d = false → AnswersThenSettled (.userRegisterTimeout d) s fun u => u = s) ∧
    (s.accessLate d = true → AnswersThenSettled (.userRegisterTimeout d) s fun u =>
      Counted F.FAB_PORT_ERR_TIMEOUTS s u d ∧ (u.fab.access[d]).map PortAccess.addr = l.map PortAccess.addr ∧
      ((∀ e, p.src ≠ .engine e) → p.job = none → s.fab.jobs = [] → u.resp = .error))) ∧
  (s.released = true → s.up = true → s.fab.master[d] = none →
    (permits (.fabric d) addr.toNat = true → addr.toNat % 4 = 0 → AnswersThenSettled (.masterPortWrite d addr x false) s fun u =>
      u.regs = ((Act.write32 (.fabric d) addr.toNat (x.setWidth 32) none).run s).regs ∧ u.fab.masterErr[d] = (u.resp == .error)) ∧
    (permits (.fabric d) addr.toNat = false → addr.toNat % 4 = 0 → AnswersThenSettled (.masterPortWrite d addr x false) s fun u =>
      u.resp = .error ∧ u.fab.masterErr[d] = true ∧ Counted F.FAB_PORT_ERR_MASTER_REFUSED s u d ∧
      RegsKept [⟨.FAB_PORT_ERR, d, 0, 0⟩] s u)) ∧
  (s.released = false → AnswersThenSettled (.masterPortWrite d addr x false) s fun u => u = s) ∧
  (s.released = true → s.eng[e].rung ≠ some s.clk → s.engLive e = true → s.b F.ENG_STATUS_DB_PEND e = false →
    Answers (.doorbellOutletRise d e) s fun t => t.b F.ENG_STATUS_DB_PEND e = true ∧ RegsKept [⟨.ENG_STATUS, e, 0, 0⟩] s t) ∧
  (s.released = false → Answers (.doorbellOutletRise d e) s fun t => t = s) ∧
  (s.takesReg src .FAB_TAP d t8 →
    (F.FAB_TAP_CONV.of v < 36 → Answers (.tapConfigWrite src d t8 v) s fun t =>
      t.resp = .ok 0 ∧ t.r .FAB_TAP d t8 = v &&& RegName.mask .FAB_TAP ∧ RegsKept [⟨.FAB_TAP, d, t8, 0⟩] s t ∧
      t = { s with regs := t.regs, resp := t.resp, fab := { s.fab with taps := t.fab.taps } }) ∧
    (36 ≤ F.FAB_TAP_CONV.of v → Answers (.tapConfigWrite src d t8 v) s refused)) ∧
  (s.takesReg src .FAB_CAP_CTRL →
    (F.FAB_CAP_CTRL_START.of v = 1 → s.f F.FAB_CAP_STATUS_STATE = 0 → F.FAB_CAP_CTRL_SCOPE.of v ≠ 3 →
      (s.mode parked = false → Answers (.captureStart src v) s fun t =>
        t.resp = .ok 0 ∧ t.f F.FAB_CAP_STATUS_STATE = 1 ∧ t.fab.capture.map Capture.scope = some (F.FAB_CAP_CTRL_SCOPE.of v) ∧
        t.fab.capture.map Capture.region = some (F.FAB_CAP_CTRL_REGION.of v) ∧ t.fab.capture.map Capture.at_ = some s.clk) ∧
      (s.mode parked = true → Answers (.captureStart src v) s fun t =>
        t.resp = .ok 0 ∧ t.f F.FAB_CAP_STATUS_STATE = 0 ∧ t.b F.FAB_CAP_STATUS_DONE = true ∧ t.f F.FAB_CAP_STATUS_RESULT = 1)) ∧
    (F.FAB_CAP_CTRL_START.of v = 1 → (s.f F.FAB_CAP_STATUS_STATE ≠ 0 ∨ F.FAB_CAP_CTRL_SCOPE.of v = 3) →
      Answers (.captureStart src v) s refused) ∧
    (F.FAB_CAP_CTRL_START.of v = 0 → F.FAB_CAP_CTRL_ARM.of v = 1 → s.f F.FAB_CAP_STATUS_STATE = 0 → F.FAB_CAP_CTRL_SCOPE.of v ≠ 3 →
      Answers (.captureArm src v) s fun t =>
        t.resp = .ok 0 ∧ t.f F.FAB_CAP_STATUS_STATE = 2 ∧ t.fab.capture.map Capture.scope = some (F.FAB_CAP_CTRL_SCOPE.of v))) ∧
  (s.fab.capture = some c →
    (s.f F.FAB_CAP_STATUS_STATE = 2 → Answers .captureTrigger s fun t =>
      t = { s with fab := { s.fab with capture := some { c with trigger := true } } }) ∧
    (s.captureFires c = true → s.scopeMoves c = true → s.fclkLocked c.clk = true → Answers .captureSnapshot s fun t =>
      t.f F.FAB_CAP_STATUS_STATE = 1 ∧ t.fab.capture = some { c with deferred := true } ∧ RegsKept [⟨.FAB_CAP_STATUS, 0, 0, 0⟩] s t ∧
      t = { s with regs := t.regs, fab := { s.fab with capture := t.fab.capture } }) ∧
    (s.captureFires c = false → Answers .captureSnapshot s fun t => t = s) ∧
    (s.captureFires c = true → s.scopeMoves c = false →
      let taken := fun (t : State) (result : Nat) =>
        t.f F.FAB_CAP_STATUS_STATE = 0 ∧ t.b F.FAB_CAP_STATUS_DONE = true ∧ t.f F.FAB_CAP_STATUS_RESULT = result ∧
        t.f F.FAB_CAP_STATUS_SEQ = (s.f F.FAB_CAP_STATUS_SEQ + 1) % 65536 ∧ t.r .FAB_CAP_STAMP_LO = BitVec.ofNat 32 s.ns ∧
        t.r .FAB_CAP_STAMP_HI = BitVec.ofNat 32 (s.ns / 2 ^ 32) ∧ t.fab.capture = none ∧
        NamesKept [.FAB_CAP_STATUS, .FAB_CAP_STAMP_LO, .FAB_CAP_STAMP_HI] s t ∧ ∀ b, b < 0x240000 → t.byte b = s.byte b
      (s.fclkLocked c.clk = true → Answers .captureSnapshot s fun t => taken t (if c.deferred then 3 else 0)) ∧
      (s.f F.FAB_CAP_STATUS_STATE = 1 → c.at_ + 328 ≤ s.clk → Answers .captureNoClock s fun t => taken t 2))) ∧
  (s.f F.FAB_CAP_STATUS_STATE = 0 → Answers .captureTrigger s fun t => t = s)

/-! ### Policy images (R286 to R290) -/

/-- R288, R289: programming, activation, ABORT and the end of the source, the bytes of an image, and the end of its checks. -/
def Obligations.PolicyImages : Prop := ∀ (s : State) (src : Src) (v : Word),
  let slot := F.STEP_POL_CTRL_SLOT.of v
  let refused := fun (t : State) => t.resp = .error ∧ Counted F.STEP_REFUSED_COUNT s t ∧
    NamesKept [.STEP_REFUSED, .FAB_PORT_ERR] s t ∧ OnlyRegs s t
  let ended := fun (t : State) (code : Nat) => t.polState = 0 ∧ t.f F.STEP_POL_STATUS_POL_ERR = code % 32 ∧
    t.b F.STEP_POL_STATUS_FAILED = true ∧ t.pol.buffer = [] ∧ RegsKept [⟨.STEP_POL_STATUS, 0, 0, 0⟩, ⟨.STEP_POL_CTRL, 0, 0, 0⟩] s t
  (s.takesReg src .STEP_POL_CTRL → F.STEP_POL_CTRL_ABORT.of v = 0 → F.STEP_POL_CTRL_END_OF_SOURCE.of v = 0 →
    F.STEP_POL_CTRL_START.of v = 1 →
    (s.polState = 0 → F.STEP_POL_CTRL_OP.of v = 0 → Answers (.policyProgram src v) s fun t =>
      t.resp = .ok 0 ∧ t.polState = 1 ∧ t.bit F.STEP_POL_STATUS_VALID slot = false ∧ t.pol.buffer = [] ∧
      t.pol.slots[Fin.ofNat 2 slot] = [] ∧ t.f F.STEP_POL_CTRL_SLOT = slot ∧
      RegsKept [⟨.STEP_POL_STATUS, 0, 0, 0⟩, ⟨.STEP_POL_CTRL, 0, 0, 0⟩] s t) ∧
    (s.polState = 0 → F.STEP_POL_CTRL_OP.of v = 1 →
      (s.bit F.STEP_POL_STATUS_VALID slot = true → Answers (.policyActivate src v) s fun t =>
        t.resp = .ok 0 ∧ t.polState = 3 ∧ t.f F.STEP_POL_CTRL_SLOT = slot ∧ t.pol = { s.pol with slot := Fin.ofNat 2 slot } ∧
        RegsKept [⟨.STEP_POL_STATUS, 0, 0, 0⟩, ⟨.STEP_POL_CTRL, 0, 0, 0⟩] s t) ∧
      (s.bit F.STEP_POL_STATUS_VALID slot = false → Answers (.policyActivate src v) s fun t => t.resp = .ok 0 ∧ ended t errSlotEmpty)) ∧
    (s.polState = 0 → 2 ≤ F.STEP_POL_CTRL_OP.of v → Answers (.policyProgram src v) s refused) ∧
    (s.polState ≠ 0 → Answers (.policyProgram src v) s refused)) ∧
  (s.takesReg src .STEP_POL_CTRL → F.STEP_POL_CTRL_ABORT.of v = 1 →
    (s.polState ≠ 0 → Answers (.policyAbort src v) s fun t => t.resp = .ok 0 ∧ ended t errAborted) ∧
    (Answers (.policyAbort src v) s fun t =>
      t.f F.STEP_POL_CTRL_SLOT = slot ∧ t.f F.STEP_POL_CTRL_OP = F.STEP_POL_CTRL_OP.of v) ∧
    (s.polState = 0 → Answers (.policyAbort src v) s fun t => t.resp = .ok 0 ∧ RegsKept [⟨.STEP_POL_CTRL, 0, 0, 0⟩] s t ∧ OnlyRegs s t)) ∧
  (s.takesReg src .STEP_POL_CTRL → F.STEP_POL_CTRL_ABORT.of v = 0 → F.STEP_POL_CTRL_END_OF_SOURCE.of v = 1 →
    (s.polState = 1 → s.pol.whole = true → Answers (.policyEndOfSource src v) s fun t => t.resp = .ok 0 ∧ t.polState = 2 ∧ t.pol = s.pol) ∧
    (s.polState = 1 → s.pol.whole = false → Answers (.policyEndOfSource src v) s fun t => t.resp = .ok 0 ∧ ended t errTruncated) ∧
    (s.polState = 2 → Answers (.policyEndOfSource src v) s fun t =>
      t.resp = .ok 0 ∧ RegsKept [⟨.STEP_POL_CTRL, 0, 0, 0⟩] s t ∧ OnlyRegs s t) ∧
    (s.polState ≠ 1 → s.polState ≠ 2 → Answers (.policyEndOfSource src v) s refused)) ∧
  (s.takesReg src .STEP_POL_CTRL → F.STEP_POL_CTRL_ABORT.of v = 0 → F.STEP_POL_CTRL_END_OF_SOURCE.of v = 0 →
    F.STEP_POL_CTRL_START.of v = 0 → Answers (.policyProgram src v) s fun t =>
      t.resp = .ok 0 ∧ t.f F.STEP_POL_CTRL_SLOT = slot ∧ t.f F.STEP_POL_CTRL_OP = F.STEP_POL_CTRL_OP.of v ∧
      RegsKept [⟨.STEP_POL_CTRL, 0, 0, 0⟩] s t ∧ OnlyRegs s t) ∧
  (s.takesReg src .STEP_POL_DATA → s.polState = 1 → s.pol.buffer.length + 4 ≠ 64 → Answers (.polDataWrite src v) s fun t =>
    t.resp = .ok 0 ∧ t.pol = { s.pol with buffer := s.pol.buffer ++ leBytes v.toNat 4 } ∧
    t.polState = (if t.pol.whole then 2 else 1) ∧ RegsKept [⟨.STEP_POL_STATUS, 0, 0, 0⟩] s t ∧
    t = { s with regs := t.regs, pol := t.pol, resp := t.resp }) ∧
  (s.takesReg src .STEP_POL_DATA → s.polState ≠ 1 → Answers (.polDataWrite src v) s refused) ∧
  (s.polState = 2 →
    let img := s.pol.buffer.take (hdrLength s.pol.buffer)
    (s.polCode img = 0 → AnswersThenSettled .policyVerified s fun u =>
      u.pol.slots[s.polSlot] = img ∧ u.bit F.STEP_POL_STATUS_VALID s.polSlot = true ∧ u.b F.STEP_POL_STATUS_DONE = true ∧ u.polState = 0 ∧
      u.pol.inForce = s.pol.inForce) ∧
    (s.polCode img ≠ 0 → AnswersThenSettled .policyVerified s fun u => ended u (s.polCode img) ∧ u.pol.slots = s.pol.slots)) ∧
  (s.polState = 3 →
    (s.polCode s.pol.slots[s.polSlot] ≠ 0 → AnswersThenSettled .policyVerified s fun u =>
      ended u (s.polCode s.pol.slots[s.polSlot]) ∧ u.f F.STEP_POL_STATUS_ACTIVE_SLOT = s.f F.STEP_POL_STATUS_ACTIVE_SLOT) ∧
    (s.polCode s.pol.slots[s.polSlot] = 0 → (s.released = false ∨ s.f F.SYS_MODE_EFF_FORCE_CAUSE ≠ 3) →
      AnswersThenSettled .policyVerified s fun u =>
        u.f F.STEP_POL_STATUS_ACTIVE_SLOT = s.polSlot.val ∧ u.b F.STEP_POL_STATUS_DONE = true ∧ u.polState = 0 ∧
        u.pol.inForce = s.pol.inForce ∧ RegsKept [⟨.STEP_POL_STATUS, 0, 0, 0⟩] s u))

/-! ### Region relocation (R423, R431 to R436) -/

/-- R423, R431 to R436: the start of a relocation and what bars it, ABORT, the end of copying, the limit, the hand-over, the retirement of the
source, a relocation without a request, region resets and the record of an unretirement. -/
def Obligations.Relocation : Prop := ∀ (s : State) (src : Src) (v : Word) (r : Reg),
  let a := F.RELOC_CTRL_SRC.of v
  let b := F.RELOC_CTRL_DST.of v
  let refused := fun (t : State) => t.resp = .error ∧ Counted F.FAULT_REFUSED_COUNT s t
  let broken := fun (t : State) (result : Nat) =>
    t.relState = relIdle ∧ t.f F.RELOC_STATUS_RESULT = result ∧ t.b F.FAULT_EVENTS_RELOC_FAILED = true ∧
    t.bit F.CFG_HOLD_HOLD s.relDst = true ∧ t.bit F.CFG_RESERVE_LOADED_LOADED s.relDst = false ∧ t.fab.cfg = s.fab.cfg
  (s.takesReg src .RELOC_CTRL → v.getLsbD 13 = false → v.getLsbD 12 = true →
    (s.relocBar a b = 0 → AnswersThenModes (.relocStart src v) s fun u =>
      u.resp = .ok 0 ∧ u.relState = relCopying ∧ u.relSrc = a ∧ u.relDst = b ∧ u.rel = ⟨s.clk, 0, false, 0, none⟩ ∧
      u.f F.RELOC_STATUS_HCLK = ((s.oneClock a).map Fin.val).getD 0 ∧ u.b F.FAULT_STATUS_REPAIRING = true) ∧
    (s.relocBar a b ≠ 0 → AnswersThenModes (.relocStart src v) s fun u =>
      refused u ∧ u.f F.RELOC_STATUS_RESULT = s.relocBar a b ∧ u.relState = s.relState ∧
      NamesKept [.RELOC_STATUS, .FAULT_REFUSED, .FAB_PORT_ERR] s u ∧ OnlyRegs s u)) ∧
  (s.takesReg src .RELOC_CTRL → v.getLsbD 13 = true →
    (s.relocating = true → s.relState ≠ relLoading → Answers (.relocAbort src v) s fun t => t.resp = .ok 0 ∧ broken t 9) ∧
    (s.relocating = false → s.relState ≠ relLoading → Answers (.relocAbort src v) s fun t =>
      t.resp = .ok 0 ∧ RegsKept [⟨.RELOC_CTRL, 0, 0, 0⟩] s t ∧ OnlyRegs s t)) ∧
  (s.relState = relCopying → Answers .relocCopyDone s fun t =>
    t.relState = relWaiting ∧ t.rel = { s.rel with copied := s.clk } ∧ RegsKept [⟨.RELOC_STATUS, 0, 0, 0⟩] s t ∧
    t = { s with regs := t.regs, rel := t.rel, fab := t.fab }) ∧
  (s.relocating = true → s.relocLate = true → Answers .relocStalled s fun t => broken t 8) ∧
  ((s.relocating = false ∨ s.relocLate = false) → Answers .relocStalled s fun t => t = s) ∧
  (s.relState = relWaiting → s.rel.over_ = false → s.fclkLocked (s.f F.RELOC_STATUS_HCLK) = true → s.rel.copied + 4 ≤ s.clk →
    Answers .relocHandover s fun t =>
    t.rel.over_ = true ∧ t.bit F.CFG_HOLD_HOLD s.relDst = false ∧ t.relState = relWaiting ∧ RegsKept [⟨.CFG_HOLD, 0, 0, 0⟩] s t ∧
    t = { s with regs := t.regs, rel := t.rel, fab := t.fab }) ∧
  (s.relState = relWaiting → s.rel.over_ = true → s.rel.edgeAt + 12 ≤ s.clk → s.relSrc ≠ s.relDst → AnswersThenModes .relocRetire s fun u =>
    u.relState = relIdle ∧ u.f F.RELOC_STATUS_RESULT = 0 ∧ u.b F.FAULT_EVENTS_RELOC_DONE = true ∧
    u.bit F.CFG_HOLD_HOLD s.relSrc = true ∧ u.retired s.relSrc = true ∧ u.bit F.CFG_RESERVE_RESERVE s.relDst = false ∧
    u.bit F.CFG_RESERVE_LOADED_LOADED s.relDst = false ∧ u.f F.RELOC_LIB_REPLACED_BY s.relSrc = s.relDst ∧
    u.b F.RELOC_LIB_REPLACED s.relSrc = true ∧ u.f F.RELOC_LIB_LIB s.relDst = s.f F.RELOC_LIB_LIB s.relSrc ∧
    assoc u.flash.retired s.relSrc = some s.relDst) ∧
  (s.b F.FAULT_CFG_AUTO_RELOC = true → s.mode repair = true → s.flagged r = true → s.b F.RELOC_LIB_VALID r = true → s.relState = relIdle →
    (s.b F.SYS_MODE_EFF_REDUCED_FORCED = false → s.mode parked = true → Answers (.autoReloc r) s fun t =>
      t.f F.RELOC_STATUS_RESULT = 3 ∧ t.b F.FAULT_EVENTS_RELOC_FAILED = true ∧ t.relState = relIdle) ∧
    (s.b F.SYS_MODE_EFF_REDUCED_FORCED = false → s.mode parked = false → s.reservesOf r = [] → Answers (.autoReloc r) s fun t =>
      t.f F.RELOC_STATUS_RESULT = 4 ∧ t.b F.FAULT_EVENTS_RELOC_FAILED = true ∧ t.relState = relIdle) ∧
    (∀ n : Reg, s.b F.SYS_MODE_EFF_REDUCED_FORCED = false → s.mode parked = false → s.reservesOf r = [n.val] →
      s.bit F.CFG_RESERVE_LOADED_LOADED n = false → s.load.op ≠ .none → Answers (.autoReloc r) s fun t =>
        t.relState = relLoading ∧ t.relSrc = r ∧ t.relDst = n ∧ t.rel.auto = some r)) ∧
  ((s.b F.FAULT_CFG_AUTO_RELOC = false ∨ s.flagged r = false ∨ s.relState ≠ relIdle) → Answers (.autoReloc r) s fun t => t = s) ∧
  (s.takesReg src .REGION_RESET →
    let n := F.REGION_RESET_REGION.of v
    (F.REGION_RESET_KEY.of v = 0xC3 → F.REGION_RESET_RESET.of v = 1 → F.REGION_RESET_UNRETIRE.of v = 0 → s.loadingRegion n = false →
      s.relocating = false → s.regionHeld n = false → s.retired n = false → Answers (.regionReset src v) s fun t =>
        t = { (Act.regionInit n).run s with resp := .ok 0 }) ∧
    (F.REGION_RESET_KEY.of v = 0xC3 → F.REGION_RESET_RESET.of v = 1 → F.REGION_RESET_UNRETIRE.of v = 0 → s.loadingRegion n = false →
      s.relocating = false → (s.regionHeld n = true ∨ s.retired n = true) → Answers (.regionReset src v) s fun t =>
        t = { s with resp := .ok 0 }) ∧
    (F.REGION_RESET_KEY.of v = 0xC3 → F.REGION_RESET_RESET.of v = 0 → F.REGION_RESET_UNRETIRE.of v = 1 → s.retired n = true →
      Answers (.unretire src v) s fun t =>
        t.resp = .ok 0 ∧ t.flash.unretire.contains n = true ∧ t = { s with flash := t.flash, resp := t.resp }) ∧
    (F.REGION_RESET_KEY.of v ≠ 0xC3 → Answers (.regionReset src v) s fun t => refused t ∧ OnlyRegs s t))


/-! ### The ring's links (R393 to R409) -/

/-- R393, R395 to R400, R405, R406: packets that arrive damaged, again, to be passed on or for everyone, ACK, NAK and the retry time-out, and
a port that pauses, goes down, trains or loses a lane. -/
def Obligations.RingLinks : Prop := ∀ (s : State) (p : Port) (words : List DWord) (cls : RingCls) (lseq : BitVec 10) (width : Fin 8)
    (partner : BitVec 6),
  let body := words.dropLast
  let n := (words.getLastD 0).toNat
  let got := bitsOf n 32 10
  let c := laneOf body
  let x := s.lane p c
  let kind := if c = 1 then RingCls.maint else .data
  let good := packetOk body = true ∧ n / 2 ^ 42 = 0 ∧ (packetCrc body got).toNat = n % 2 ^ 32
  let i := portIndex p
  let y := s.lane p (laneClass cls)
  let dropped := ackDrop y.retry lseq.toNat
  let sends := fun (l : List RingSent) => l.map fun e => Tx.packet p (e.words ++ [trailer e.words e.lseq])
  let calm := fun (l : List RingSent) => l ≠ [] ∧ l.any (fun e => decide (7 ≤ e.times)) = false
  (s.present = true → s.ring.bypass = false → s.portUp p = true →
    (¬good → x.refusing = false → AnswersThenSettled (.ringPacketReceive p words) s fun u =>
      Counted F.PORT_ERRS_CRC_ERR s u i ∧ (u.lane p c).refusing = true ∧
      u.tx = s.tx ++ [.link p kind false ((x.expect + 1023) % 1024)] ∧
      RegsKept [⟨.PORT_ERRS, i, 0, 0⟩] s u ∧ u = { s with regs := u.regs, ring := u.ring, tx := u.tx }) ∧
    (good → got ≠ x.expect → (x.expect + 1024 - got) % 1024 ≤ 512 → x.refusing = false →
      AnswersThenSettled (.ringPacketReceive p words) s fun u =>
        u = { s with tx := s.tx ++ [.link p kind true ((x.expect + 1023) % 1024)] }) ∧
    (good → got = x.expect → (headOf body).kind ≠ pkTime → (headOf body).bcast = true →
      AnswersThenSettled (.ringPacketReceive p words) s fun u =>
        u.lane p c = { x with expect := (got + 1) % 1024, refusing := false } ∧ u.tx = s.tx ++ [.link p kind true got] ∧
        u = { s with ring := u.ring, tx := u.tx }) ∧
    (good → got = x.expect → (headOf body).kind ≠ pkTime → (headOf body).bcast = false → (headOf body).dst ≠ s.ownNumber →
      (headOf body).src ≠ s.ownNumber → s.portUp (otherPort p) = true → (s.lane (otherPort p) c).queue = [] →
      (s.lane (otherPort p) c).retry.length < 512 → AnswersThenSettled (.ringPacketReceive p words) s fun u =>
        u.tx = s.tx ++ [.link p kind true got, .packet (otherPort p) (body ++ [trailer body (s.lane (otherPort p) c).next])] ∧
        (u.lane p c).expect = (got + 1) % 1024 ∧ u = { s with ring := u.ring, tx := u.tx })) ∧
  (s.present = false ∨ s.ring.bypass = true ∨ s.portUp p = false → AnswersThenSettled (.ringPacketReceive p words) s fun u => u = s) ∧
  (y.queue = [] → AnswersThenSettled (.ringAck p cls lseq) s fun u =>
    u.lane p (laneClass cls) = { y with retry := dropped } ∧ u = { s with ring := u.ring }) ∧
  (y.queue = [] → s.portUp p = true → calm dropped → AnswersThenSettled (.ringNak p cls lseq) s fun u =>
    u.tx = s.tx ++ sends dropped ∧ Counted F.PORT_ERRS_RETRIES s u i ∧
    (u.lane p (laneClass cls)).retry = dropped.map (fun e => { e with times := e.times + 1, at_ := s.clk }) ∧ RegsKept [⟨.PORT_ERRS, i, 0, 0⟩] s u) ∧
  (s.ackLate p (laneClass cls) = false → AnswersThenSettled (.ringRetryTimeout p cls) s fun u => u = s) ∧
  (s.portUp p = true → calm y.retry → s.ackLate p (laneClass cls) = true → AnswersThenSettled (.ringRetryTimeout p cls) s fun u =>
    u.tx = s.tx ++ sends y.retry ∧ Counted F.PORT_ERRS_RETRIES s u i ∧ RegsKept [⟨.PORT_ERRS, i, 0, 0⟩] s u) ∧
  (s.portUp p = true → y.retry.any (fun e => decide (7 ≤ e.times)) = true → s.ackLate p (laneClass cls) = true → AnswersThenSettled (.ringRetryTimeout p cls) s fun u =>
    u.portState p = portDown ∧ Counted F.PORT_LINKS_DOWNS s u i ∧ u.b F.COLYS_EVENTS_BREAK = true) ∧
  (s.portUp p = true → Answers (.linkPause p) s fun t =>
    t.portState p = portPaused ∧ t.ring.lost[i] = some s.clk ∧ RegsKept [⟨.PORT_STATUS, i, 0, 0⟩] s t ∧
    t = { s with regs := t.regs, ring := t.ring }) ∧
  (s.pauseOver p = true → AnswersThenSettled (.linkDown p) s fun u =>
    u.portState p = portDown ∧ u.f F.PORT_STATUS_WIDTH i = 0 ∧ u.b F.PORT_STATUS_PARTNER_VALID i = false ∧
    Counted F.PORT_LINKS_DOWNS s u i ∧ u.b F.COLYS_EVENTS_BREAK = true ∧ u.tim.heard[i] = none) ∧
  (s.pauseOver p = false → AnswersThenSettled (.linkDown p) s fun u => u = s) ∧
  (s.present = true → s.ring.bypass = false → laneWidth width = true → s.portUp p = false →
    (s.portState p ≠ portPaused → AnswersThenSettled (.linkTrained p width partner) s fun u =>
      u.portState p = portIsUp ∧ u.f F.PORT_STATUS_WIDTH i = width.val ∧ u.f F.PORT_STATUS_PARTNER i = partner.toNat ∧
      u.b F.PORT_STATUS_PARTNER_VALID i = true ∧ (u.lane p 0).expect = 0 ∧ (u.lane p 1).expect = 0 ∧
      (s.ring.lost[i].isSome = true → u.b F.COLYS_EVENTS_REJOIN = true)) ∧
    (s.portState p = portPaused → s.pauseOver p = false → (s.lane p 0).retry = [] → (s.lane p 1).retry = [] →
      AnswersThenSettled (.linkTrained p width partner) s fun u =>
        u.portState p = portIsUp ∧ u.f F.PORT_STATUS_WIDTH i = width.val ∧ Counted F.PORT_LINKS_PAUSES s u i ∧
        (u.lane p 0).expect = (s.lane p 0).expect) ∧
    (s.pauseOver p = true → AnswersThenSettled (.linkTrained p width partner) s fun u =>
      u.portState p = portIsUp ∧ Counted F.PORT_LINKS_DOWNS s u i ∧ u.b F.COLYS_EVENTS_BREAK = true ∧ u.b F.COLYS_EVENTS_REJOIN = true ∧
      (u.lane p 0).expect = 0)) ∧
  (s.linkAlive p = true → laneWidth width = true → width.val < s.f F.PORT_STATUS_WIDTH i → (s.lane p 0).retry = [] →
    (s.lane p 1).retry = [] → AnswersThenSettled (.laneFailRetrain p width) s fun u =>
      u.portState p = portIsUp ∧ u.f F.PORT_STATUS_WIDTH i = width.val ∧ u.b F.PORT_STATUS_DEGRADED i = true ∧
      u.b F.COLYS_EVENTS_DEGRADED = true ∧ Counted F.PORT_LINKS_PAUSES s u i) ∧
  (s.pwr.life = .collapsed ∨ s.pwr.life = .off → Answers .bypassClose s fun t => t = { s with ring := { s.ring with bypass := true } })

/-- R394, R401, R404, R413: a request that times out, the census and the map, the mask that a module sends, and the lines and messages of the
head. -/
def Obligations.RingMaps : Prop := ∀ (s : State) (src : Src) (p : Port) (tag : BitVec 16) (q : RingReq) (order : List (BitVec 6))
    (closed : Bool) (seq : BitVec 8) (head m : BitVec 6) (mask : BitVec 48) (ev : BitVec 16) (v : Word) (bytes off : Nat),
  let own := s.ownNumber
  let mapped := fun (u : State) (head : BitVec 6) (seq : Nat) =>
    u.f F.COLYS_RING_SIZE = order.length % 128 ∧ u.b F.COLYS_RING_CLOSED = closed ∧ u.f F.COLYS_RING_HEAD = head.toNat ∧
    u.b F.COLYS_RING_HEAD_KNOWN = true ∧ u.f F.COLYS_RING_MAP_SEQ = seq ∧ u.ring.evDue = true ∧
    ∀ k : BitVec 6, u.r .COLYS_ROUTE k.toNat = routeWord own order closed k
  (s.requestLate tag.toNat = false → AnswersThenSettled (.ringRequestTimeout tag) s fun u => u = s) ∧
  (s.ring.reqs.find? (fun q => q.tag == tag.toNat) = some q → q.at_ + 163840 ≤ s.clk →
    let left := s.ring.reqs.filter fun q => q.tag != tag.toNat
    (q.use = .other → AnswersThenSettled (.ringRequestTimeout tag) s fun u => u = { s with ring := { s.ring with reqs := left } }) ∧
    (q.use = .mnt → AnswersThenSettled (.ringRequestTimeout tag) s fun u =>
      u.b F.MNT_STATUS_BUSY = false ∧ u.f F.MNT_STATUS_STATUS = 3 ∧ u.ring.reqs = left) ∧
    (q.use = .host bytes false off → s.acting = true → s.b F.HOST_CTRL_ERR_MODE = true → AnswersThenSettled (.ringRequestTimeout tag) s fun u =>
      u.resp = .error ∧ u.tx = s.tx ++ [.hostAnswer .error] ∧ u.f F.HOST_ERR_ADDR_STATUS = 3 ∧
      u.f F.HOST_ERR_ADDR_ADDR = off % 2 ^ 30 ∧ Counted F.HOST_ERRS_RD_ERR s u ∧ u.ring.reqs = left)) ∧
  (s.ring.reqs.find? (fun q => q.tag == tag.toNat) = none → AnswersThenSettled (.ringRequestTimeout tag) s fun u => u = s) ∧
  (s.up = true → s.acting = true → s.portUp .east = true → Answers .censusSend s fun t =>
    t = { s with tx := s.tx ++ [.census .east [own]] }) ∧
  (s.acting = false → Answers .censusSend s fun t => t = s) ∧
  (s.up = true → s.portUp p = true →
    (s.acting = false → s.portUp (otherPort p) = true → Answers (.census p order) s fun t =>
      t = { s with tx := s.tx ++ [.census (otherPort p) (if p = .west then order ++ [own] else order)] }) ∧
    (s.acting = true → order.head? = some m → m.toNat < own.toNat → Answers (.census p order) s fun t =>
      t.ring.gaveUp = true ∧ t.acting = false ∧ t.head = false ∧ t.b F.COLYS_EVENTS_HEAD_CONFLICT = true ∧
      NamesKept [.COLYS_ID, .SYS_INST, .COLYS_EVENTS] s t) ∧
    (s.acting = true → order.head? = some m → own.toNat ≤ m.toNat → Answers (.census p order) s fun t => t = s)) ∧
  (s.up = true → s.acting = true → order.contains own = true → (s.b F.COLYS_RING_HEAD_KNOWN && s.sameMap own order closed) = false →
    AnswersThenSettled (.ringMapBroadcast order closed) s fun u => mapped u own ((s.f F.COLYS_RING_MAP_SEQ + 1) % 256)) ∧
  (s.up = true → s.portUp p = true → s.acting = false →
    ((s.b F.COLYS_RING_HEAD_KNOWN && s.f F.COLYS_RING_MAP_SEQ == seq.toNat) = false → AnswersThenSettled (.map p seq head order closed) s fun u =>
      mapped u head seq.toNat ∧ u.b F.COLYS_ID_ISOLATED = decide (2 ≤ order.count own) ∧
      u.tx = s.tx ++ (if s.portUp (otherPort p) then [.map (otherPort p) seq.toNat head order closed] else [])) ∧
    ((s.b F.COLYS_RING_HEAD_KNOWN && s.f F.COLYS_RING_MAP_SEQ == seq.toNat) = true → AnswersThenSettled (.map p seq head order closed) s fun u =>
      u = { s with tx := s.tx ++ (if s.portUp (otherPort p) then [.map (otherPort p) seq.toNat head order closed] else []) })) ∧
  ((s.pendingMask ≠ s.ring.evMask ∨ s.ring.evDue = true ∨ s.ring.once ≠ 0) → s.up = true →
    (s.acting = true ∨ s.b F.COLYS_RING_HEAD_KNOWN = true) → AnswersThenSettled .eventMaskChange s fun u =>
      u.ring.evSeq = (s.ring.evSeq + 1) % 65536 ∧ u.ring.evMask = s.pendingMask ∧ u.ring.evDue = false ∧ u.ring.once = 0) ∧
  (s.pendingMask = s.ring.evMask → s.ring.evDue = false → s.ring.once = 0 → AnswersThenSettled .eventMaskChange s fun u => u = s) ∧
  (s.up = true → s.acting = true → (∀ n, assoc s.ring.applied m = some n → newerSeq ev.toNat n = true) →
    Answers (.eventApply m mask ev) s fun t =>
      assoc t.ring.applied m = some ev.toNat ∧ t.f F.EVT_STATE_LO_MASK m.toNat = mask.toNat % 2 ^ 32 ∧
      t.f F.EVT_STATE_HI_MASK m.toNat = mask.toNat / 2 ^ 32 ∧
      ∀ l, l < 48 → mask.toNat.testBit l = true → s.eventState m.toNat l = false → s.b F.COLYS_MAP_EN m.toNat l = true →
        t.b F.COLYS_MAP_ARMED m.toNat l = false) ∧
  ((s.acting = false ∨ ∃ n, assoc s.ring.applied m = some n ∧ newerSeq ev.toNat n = false) → Answers (.eventApply m mask ev) s fun t => t = s) ∧
  (s.takesReg src .EVT_ACK →
    let k := F.EVT_ACK_MODULE.of v
    let l := F.EVT_ACK_LINE.of v
    (s.acting = true → l < 48 → s.eventState k l = false → Answers (.evtAck src v) s fun t =>
      t.resp = .ok 0 ∧ t.b F.COLYS_MAP_ARMED k l = true ∧ RegsKept [⟨.COLYS_MAP, k, l, 0⟩] s t ∧ OnlyRegs s t) ∧
    (s.acting = true → l < 48 → s.eventState k l = true → s.b F.COLYS_MAP_EN k l = true → s.msixOpen = true →
      s.vectorMasked (s.f F.COLYS_MAP_VECTOR k l) = false → Answers (.evtAck src v) s fun t =>
        t.resp = .ok 0 ∧ t.b F.COLYS_MAP_ARMED k l = false ∧ t.tx = s.tx ++ [.msix (s.f F.COLYS_MAP_VECTOR k l)]) ∧
    (s.acting = false ∨ 48 ≤ l → Answers (.evtAck src v) s fun t => t = { s with resp := .ok 0 }))

/-! ### Maintenance (R402, R414, R422) -/

/-- R402, R414: the maintenance operations that a head runs on itself, the completion that another module gets, and MNT_CMD. -/
def Obligations.Maintenance : Prop := ∀ (s : State) (src : Src) (m : BitVec 6) (tag : BitVec 16) (off : BitVec 24) (arg v : Word)
    (d : DWord) (e : LogEntry),
  let own := s.ownNumber
  let ends := fun (u : State) (status : Nat) => u.b F.MNT_STATUS_BUSY = false ∧ u.f F.MNT_STATUS_STATUS = status
  (s.up = true → s.b F.COLYS_ID_ISOLATED = false →
    (regReadable off.toNat = true → ((Act.read32 .ring off.toNat none).run s).resp = .ok d → AnswersThenSettled (.regRead own tag off) s fun u =>
      ends u 0 ∧ u.r .MNT_DATA = d.setWidth 32) ∧
    (regReadable off.toNat = false → AnswersThenSettled (.regRead own tag off) s fun u => ends u 1) ∧
    (s.logEntry arg.toNat = some e → AnswersThenSettled (.logRead own tag arg) s fun u =>
      ends u 0 ∧ u.r .MNT_BUF = ((entryBeats e).headD 0).setWidth 32) ∧
    (s.logEntry arg.toNat = none → AnswersThenSettled (.logRead own tag arg) s fun u => ends u 1) ∧
    (s.logEntry arg.toNat = none → m ≠ own → AnswersThenSettled (.logRead m tag arg) s fun u =>
      u.ring.kept.head? = some (m, tag.toNat, s.clk, some (completionWords own
        { kind := pkMaint, maint := true, dst := own, src := m, tag := tag.toNat } 1 1 []))) ∧
    (AnswersThenSettled (.maintSafe own tag) s fun u =>
      ends u 0 ∧ u.b F.LIMIT_SAFE_ACTIVE = true ∧ u.bit F.LIMIT_SAFE_CAUSE 4 = true) ∧
    (32 ≤ arg.toNat → AnswersThenSettled (.maintRegionReset own tag arg) s fun u => ends u 1) ∧
    (arg.toNat < 32 → AnswersThenSettled (.maintRegionReset own tag arg) s fun u =>
      ends u 0 ∧ (s.loadingRegion arg.toNat = false → s.relocating = false → s.regionHeld arg.toNat = false → s.retired arg.toNat = false →
        u.fab = ((Act.regionInit arg.toNat).run s).fab)) ∧
    (arg.toNat % 4 ≠ 0 ∨ 0x1000 ≤ arg.toNat → AnswersThenSettled (.maintCapture own tag arg) s fun u => ends u 1) ∧
    (arg.toNat % 4 = 0 → arg.toNat < 0x1000 → F.FAB_CAP_CTRL_SCOPE.of arg ≠ 3 → s.f F.FAB_CAP_STATUS_STATE = 0 → s.mode parked = false →
      AnswersThenSettled (.maintCapture own tag arg) s fun u =>
        ends u 0 ∧ u.f F.FAB_CAP_STATUS_STATE = 1 ∧ u.fab.capture.map Capture.scope = some (F.FAB_CAP_CTRL_SCOPE.of arg)) ∧
    (arg.toNat ≠ 0xC3 → AnswersThenSettled (.maintModuleReset own tag arg) s fun u => ends u 1 ∧ u.pwr = s.pwr) ∧
    (arg.toNat = 0xC3 → AnswersThenSettled (.maintModuleReset own tag arg) s fun u =>
      u.pwr.life = .boot ∧ u.up = false ∧ u.f F.SYS_RST_CAUSE_CAUSE = 2) ∧
    (64 ≤ arg.toNat → AnswersThenSettled (.maintDmaAbort own tag arg) s fun u => ends u 1) ∧
    (∀ c : Chan, arg.toNat = c.val → s.dmaState c = dmaRun → (s.ch c).abort = none → AnswersThenSettled (.maintDmaAbort own tag arg) s fun u =>
      u.dmaState c = dmaDrain ∧ (u.ch c).abort = some s.clk ∧ (u.ch c).waiters = (s.ch c).waiters ++ [(own, tag)]) ∧
    (∀ c : Chan, arg.toNat = c.val → s.dmaState c = dmaIdle → (s.ch c).waiters = [] → AnswersThenSettled (.maintDmaAbort own tag arg) s fun u =>
      ends u 0 ∧ (u.ch c).waiters = [])) ∧
  (s.pwr.life = .off ∨ s.pwr.life = .collapsed → AnswersThenSettled (.maintSafe m tag) s fun u => u = s) ∧
  (s.takesReg src .MNT_CMD →
    let dst := BitVec.ofNat 6 (F.MNT_CMD_DST.of v)
    (s.acting = false → AnswersThenSettled (.mntCmd src v) s fun u => u = { s with resp := .ok 0 }) ∧
    (s.acting = true → s.b F.MNT_STATUS_BUSY = true → AnswersThenSettled (.mntCmd src v) s fun u =>
      u.resp = .error ∧ Counted F.COLYS_REFUSED_COUNT s u ∧ NamesKept [.COLYS_REFUSED, .FAB_PORT_ERR] s u ∧ OnlyRegs s u) ∧
    (s.acting = true → s.b F.MNT_STATUS_BUSY = false → dst ≠ own → AnswersThenSettled (.mntCmd src v) s fun u =>
      u.resp = .ok 0 ∧ u.b F.MNT_STATUS_BUSY = true ∧ u.f F.MNT_STATUS_STATUS = 0) ∧
    (s.acting = true → s.b F.MNT_STATUS_BUSY = false → s.b F.COLYS_ID_ISOLATED = false → dst = own → 11 ≤ F.MNT_CMD_OP.of v →
      AnswersThenSettled (.mntCmd src v) s fun u => u.resp = .ok 0 ∧ ends u 1))

/-! ### The host port and Ethernet (R410 to R415) -/

/-- R410 to R412, R415: accesses at BAR0, packets for host memory, the endpoint's resets and configuration, and the frames of the Ethernet
port. -/
def Obligations.HostAndEthernet : Prop := ∀ (s : State) (m : BitVec 6) (off : BitVec 24) (bytes : Nat) (write ok : Bool) (v : DWord)
    (words : List DWord) (rest : List (List DWord)) (data : List DWord) (on : Bool) (speed : Fin 4) (width : Fin 32) (f : EthFrame)
    (asker : BitVec 48) (from_ : BitVec 32) (echo : List Byte),
  let own := s.ownNumber
  let bar := m.toNat * 2 ^ 24 + off.toNat
  (s.acting = false → AnswersThenSettled (.hostAccess m off bytes write v) s fun u => u = { s with resp := .noTarget }) ∧
  (s.acting = true → (bytes ≠ 4 ∧ bytes ≠ 8 ∨ off.toNat % bytes ≠ 0) →
    (AnswersThenSettled (.hostAccess m off bytes true v) s fun u =>
      u.resp = .error ∧ Counted F.HOST_ERRS_WR_ERR s u ∧ RegsKept [⟨.HOST_ERRS, 0, 0, 0⟩] s u ∧ OnlyRegs s u) ∧
    (AnswersThenSettled (.hostAccess m off bytes false v) s fun u =>
      u = { s with resp := .error, tx := s.tx ++ [.hostAnswer .error] })) ∧
  (s.acting = true → (bytes = 4 ∨ bytes = 8) → off.toNat % bytes = 0 → m ≠ own → s.ring.held = [] → s.tagFree s.ring.tag = true →
    s.requestHeld m (.host bytes write bar) = false → AnswersThenSettled (.hostAccess m off bytes write v) s fun u =>
      u.resp = .none ∧ u.ring.reqs = s.ring.reqs ++ [⟨s.ring.tag, m, .host bytes write bar, s.clk⟩] ∧
      u.ring.tag = (s.ring.tag + 1) % 65536 ∧ u.ring.held = []) ∧
  (s.acting = true → s.up = true → s.fab.jobs = [] → off.toNat = RegRef.offset ⟨.MNT_ARG, 0, 0, 0⟩ →
    (AnswersThenSettled (.hostAccess own off 4 true v) s fun u =>
      u.resp = .ok 0 ∧ u.r .MNT_ARG = v.setWidth 32 ∧ RegsKept [⟨.MNT_ARG, 0, 0, 0⟩] s u ∧ u.tx = s.tx) ∧
    (assoc s.latch ⟨.MNT_ARG, 0, 0, 0⟩ = none → AnswersThenSettled (.hostAccess own off 4 false v) s fun u =>
      u.resp = .ok ((s.r .MNT_ARG).setWidth 64) ∧ u.tx = s.tx ++ [.hostAnswer (.ok ((s.r .MNT_ARG).setWidth 64))])) ∧
  (s.ring.hostQ = [] → AnswersThenSettled (.hostBusMaster ok data) s fun u => u = s) ∧
  (s.ring.hostQ = words :: rest → (headOf words).src ≠ own →
    (AnswersThenSettled (.hostBusMaster ok data) s fun u => u.ring.hostQ = rest) ∧
    (s.acting = true → s.b F.HOST_STATUS_BME = true → s.b F.HOST_STATUS_D3HOT = false → (headOf words).kind = pkWrite →
      AnswersThenSettled (.hostBusMaster ok data) s fun u => ∃ l, u.tx = s.tx ++
        (hostPieces s.pcie.payload 32 (word1 words % 2 ^ 60 / 8 * 8) (hostBytes words).length).map (fun p =>
          Tx.busWrite p.1 (((hostBytes words).drop (p.1 - word1 words % 2 ^ 60 / 8 * 8)).take p.2)) ++ l)) ∧
  (s.acting = true → s.ring.hostQ = [] → ∀ c, c = Instr.pcieFlr ∨ c = Instr.pcieReset → AnswersThenSettled c s fun u =>
    u.pcie = ⟨false, false, 128⟩ ∧ u.b F.HOST_STATUS_BME = false ∧ u.b F.HOST_STATUS_D3HOT = false ∧
    ∀ (k : Fin 64) (l : Fin 48), u.b F.COLYS_MAP_EN k l = false ∧ u.b F.COLYS_MAP_ARMED k l = true) ∧
  (s.acting = false → ∀ c, c = Instr.pcieFlr ∨ c = Instr.pcieReset → AnswersThenSettled c s fun u => u = s) ∧
  (s.endpointUp = true →
    (Answers (.pcieConfigWrite (.busMaster on)) s fun t => t.b F.HOST_STATUS_BME = on ∧ RegsKept [⟨.HOST_STATUS, 0, 0, 0⟩] s t) ∧
    (Answers (.pcieConfigWrite (.power on)) s fun t => t.b F.HOST_STATUS_D3HOT = on ∧ RegsKept [⟨.HOST_STATUS, 0, 0, 0⟩] s t) ∧
    (Answers (.pcieConfigWrite (.msix on ok)) s fun t =>
      t.pcie = { s.pcie with msix := on, fmask := ok } ∧ RegsKept [] s t) ∧
    (Answers (.pcieConfigWrite (.maxPayload on)) s fun t =>
      t.pcie = { s.pcie with payload := if on then 256 else 128 } ∧ RegsKept [] s t)) ∧
  (s.endpointUp = false → ∀ w, Answers (.pcieConfigWrite w) s fun t => t = s) ∧
  (s.acting = true →
    (Answers (.pcieLinkChange on speed width) s fun t =>
      t.b F.HOST_STATUS_LINK_UP = on ∧ t.f F.HOST_STATUS_SPEED = (if on then speed.val else 0) ∧
      t.f F.HOST_STATUS_WIDTH = (if on then width.val else 0) ∧ RegsKept [⟨.HOST_STATUS, 0, 0, 0⟩] s t ∧ OnlyRegs s t) ∧
    (Answers (.ethLinkChange on ok) s fun t =>
      t.b F.ETH_STATUS_LINK_UP = on ∧ t.b F.ETH_STATUS_MDIX = ok ∧
      (s.head = true → on = false → t.f F.TIME_PTP_STATUS_PORT_STATE = 2 ∧ t.tim.masters = []) ∧
      (s.head = true → on = true → s.f F.TIME_PTP_STATUS_PORT_STATE = 2 → t.f F.TIME_PTP_STATUS_PORT_STATE = 1) ∧
      NamesKept [.ETH_STATUS, .TIME_PTP_STATUS, .TIME_STATE, .TIME_EVENTS, .TIME_RATE] s t ∧ t = { s with regs := t.regs, tim := t.tim })) ∧
  (s.up = true → s.acting = true → s.b F.ETH_STATUS_LINK_UP = true →
    (s.r .ETH_IP_ADDR ≠ 0 → Answers (.ethFrameReceive (.arp (s.r .ETH_IP_ADDR) asker)) s fun t =>
      t = { s with tx := s.tx ++ [.arpReply asker] }) ∧
    (s.r .ETH_IP_ADDR ≠ 0 → Answers (.ethFrameReceive (.echo (s.r .ETH_IP_ADDR) from_ echo)) s fun t =>
      t = { s with tx := s.tx ++ [.echoReply from_ echo] }) ∧
    (Answers (.ethFrameReceive .other) s fun t =>
      Counted F.ETH_STATUS_DISCARDS s t ∧ RegsKept [⟨.ETH_STATUS, 0, 0, 0⟩] s t ∧ OnlyRegs s t)) ∧
  (s.up = false ∨ s.acting = false ∨ s.b F.ETH_STATUS_LINK_UP = false → Answers (.ethFrameReceive f) s fun t => t = s)

/-! ### Register writes and the fault log (R11, R12, R30, R40, R417 to R420) -/

/-- R11, R12, R30, R40: a word written to a register of read-write fields, to flags that a write of 1 clears, to a reserved offset, where the
source may not write, to an address that is not aligned, and while the supervisor is absent. -/
def Obligations.RegisterWrites : Prop := ∀ (s : State) (src : Src) (off : BitVec 24) (v : Word),
  (s.takesReg src .SCHED_CFG → off.toNat = RegRef.offset ⟨.SCHED_CFG, 0, 0, 0⟩ → AnswersThenSettled (.registerWrite src off v) s fun u =>
    u.resp = .ok 0 ∧ u.r .SCHED_CFG = v &&& RegName.mask .SCHED_CFG ∧ RegsKept [⟨.SCHED_CFG, 0, 0, 0⟩] s u ∧ OnlyRegs s u) ∧
  (s.takesReg src .TIME_EVENTS → off.toNat = RegRef.offset ⟨.TIME_EVENTS, 0, 0, 0⟩ → AnswersThenSettled (.registerWrite src off v) s fun u =>
    u.resp = .ok 0 ∧ u.b F.TIME_EVENTS_STEPPED = (s.b F.TIME_EVENTS_STEPPED && !v.getLsbD 0) ∧
    u.b F.TIME_EVENTS_LOCKED = (s.b F.TIME_EVENTS_LOCKED && !v.getLsbD 1) ∧
    u.f F.TIME_EVENTS_STEPS = s.f F.TIME_EVENTS_STEPS ∧ RegsKept [⟨.TIME_EVENTS, 0, 0, 0⟩] s u ∧ OnlyRegs s u) ∧
  (s.takes src off.toNat → off.toNat % 4 = 0 → placeOf off.toNat = .reserved → AnswersThenSettled (.registerWrite src off v) s fun u =>
    u = { s with resp := .ok 0 }) ∧
  (s.up = true → permits src off.toNat = false → off.toNat % 4 = 0 → AnswersThenSettled (.registerWrite src off v) s fun u =>
    u.resp = .error ∧ NamesKept [.FAB_PORT_ERR] s u ∧ OnlyRegs s u) ∧
  (s.up = true → off.toNat % 4 ≠ 0 → AnswersThenSettled (.registerWrite src off v) s fun u => u.resp = .error ∧ OnlyRegs s u) ∧
  (s.up = true → off.toNat % 4 ≠ 0 → off.toNat / 0x10000 = 4 → AnswersThenSettled (.registerWrite src off v) s fun u =>
    Counted F.SCHED_REFUSED_COUNT s u ∧ NamesKept [.SCHED_REFUSED, .FAB_PORT_ERR] s u) ∧
  (s.up = false → AnswersThenSettled (.registerWrite src off v) s fun u => u = { s with resp := .noTarget })

/-- R417 to R420: an event's entries are queued whole or lost and counted, the front entry is committed with all its parts, and LOG_SEL loads
a committed entry. -/
def Obligations.FaultLog : Prop := ∀ (s : State) (src : Src) (v : Word) (kind subject : BitVec 16) (parts : List (List Byte)) (e : LogEntry)
    (l : List LogEntry),
  (s.log.lost = 0 → s.log.queue.length + parts.length ≤ 256 → Answers (.logEntryQueue kind subject parts) s fun t =>
    t.log = { s.log with
      queue := s.log.queue ++ logParts s kind.toNat subject.toNat parts, next := (s.log.next + parts.length) % 4294967296 } ∧
    (t.log.queue.length < 256 → t.f F.FAULT_STATUS_LOG_PENDING = t.log.queue.length) ∧
    RegsKept [⟨.FAULT_STATUS, 0, 0, 0⟩] s t ∧ OnlyRegsAndLog s t) ∧
  (256 < s.log.queue.length + parts.length + (if 0 < s.log.lost then 1 else 0) → Answers (.logEntryQueue kind subject parts) s fun t =>
    t.log = { s.log with lost := s.log.lost + 1 } ∧ t.b F.FAULT_EVENTS_LOG_OVERFLOW = true ∧
    RegsKept [⟨.FAULT_EVENTS, 0, 0, 0⟩] s t ∧ OnlyRegsAndLog s t) ∧
  (s.log.queue = e :: l → s.log.lost = 0 → Answers .logEntryCommit s fun t =>
    t.log = { s.log with flash := logAppend s.log.flash (s.log.queue.take e.parts), queue := s.log.queue.drop e.parts } ∧
    NamesKept [.LOG_OLDEST, .LOG_NEWEST, .FAULT_STATUS] s t ∧ OnlyRegsAndLog s t) ∧
  (s.log.queue = [] → Answers .logEntryCommit s fun t => t = s) ∧
  (s.takesReg src .LOG_SEL →
    (s.logEntry v.toNat = some e → Answers (.logSelWrite src v) s fun t =>
      t.resp = .ok 0 ∧ t.r .LOG_SEL = v ∧ t.b F.LOG_STATUS_READY = true ∧ t.b F.LOG_STATUS_MISSING = false ∧
      (∀ i, i < 32 → t.r .LOG_DATA i = BitVec.ofNat 32 (leNat ((e.image.drop (4 * i)).take 4))) ∧
      NamesKept [.LOG_SEL, .LOG_STATUS, .LOG_DATA] s t ∧ OnlyRegs s t) ∧
    (s.logEntry v.toNat = none → Answers (.logSelWrite src v) s fun t =>
      t.resp = .ok 0 ∧ t.r .LOG_SEL = v ∧ t.b F.LOG_STATUS_READY = true ∧ t.b F.LOG_STATUS_MISSING = true ∧
      NamesKept [.LOG_SEL, .LOG_STATUS] s t ∧ OnlyRegs s t))

/-! ### The block as a whole -/

/-- Commands are taken first in, first out: a step is `exec` of the front command on the state with the queue's rest. -/
def Obligations.StepRunsFront : Prop := ∀ (s : State) (c : Instr) (rest : List Instr),
  s.pending = c :: rest → step s = exec c { s with pending := rest }

/-- R81: the state before the supply is safe: every register at its reset value, the memories at 0, the berths and the queue empty. The reset
values that the spec does not give are the model's (log entries 4 and 8). -/
def Obligations.ResetState : Prop :=
  State.reset.Safe ∧ State.reset.pending = [] ∧ State.reset.up = false ∧ (∀ n i j k, State.reset.r n i j k = n.reset) ∧
  (∀ a, State.reset.byte a = 0) ∧ State.reset.harb = [] ∧ decodeTableWord 0 0 = none

/-- R11, R81: every step keeps the stores in their canonical form: no reserved bit of a register is ever set, and nothing outside the window
is stored. -/
def Obligations.StepKeepsSafe : Prop := ∀ (s t : State), s.Safe → s.steps t → t.Safe ∧
  ∀ n i j k, RegRef.valid ⟨n, i, j, k⟩ = true → t.r n i j k &&& ~~~(RegName.mask n) = 0
end

