-- ==== Sys2Proof/Laws/Acts.lean ====
section
/-! SUPPORT. What actions do, said once for each combinator: how each runs, and what kept by its parts is kept by the whole. -/

namespace Sys2Proof.Machine

/-! ### How the combinators run -/

@[simp] theorem Act.skip_run (s : State) : Act.skip.run s = s := rfl
@[simp] theorem Act.andThen_run (a b : Act) (s : State) : (a.andThen b).run s = b.run (a.run s) := rfl
@[simp] theorem Act.all_nil_run (s : State) : (Act.all []).run s = s := rfl
@[simp] theorem Act.all_cons_run (a : Act) (l : List Act) (s : State) : (Act.all (a :: l)).run s = (Act.all l).run (a.run s) := rfl
@[simp] theorem Act.look_run (f : State → Act) (s : State) : (Act.look f).run s = (f s).run s := rfl
@[simp] theorem Act.when_true_run (a : Act) (s : State) : (Act.when true a).run s = a.run s := rfl
@[simp] theorem Act.when_false_run (a : Act) (s : State) : (Act.when false a).run s = s := rfl
@[simp] theorem Act.each_nil_run {α : Type} (f : α → Act) (s : State) : (Act.each [] f).run s = s := rfl
@[simp] theorem Act.each_cons_run {α : Type} (x : α) (l : List α) (f : α → Act) (s : State) :
    (Act.each (x :: l) f).run s = (Act.each l f).run ((f x).run s) := rfl
@[simp] theorem Act.upd_run (f : State → State) (h : ∀ s, Good s (f s)) (s : State) : (Act.upd f h).run s = f s := rfl
@[simp] theorem Act.done_eq (a : Act) (s : State) : a.done s = .next (a.run s) := rfl

theorem Act.when_run (c : Bool) (a : Act) (s : State) : (Act.when c a).run s = if c then a.run s else s := by
  cases c <;> rfl

/-! ### What actions keep -/

/-- A relation between states that holds over doing nothing and over one change after another. -/
structure Frame (P : State → State → Prop) : Prop where
  refl : ∀ s, P s s
  trans : ∀ {s t u}, P s t → P t u → P s u

/-- The action relates each state to the one it leaves. -/
def Act.Keeps (P : State → State → Prop) (a : Act) : Prop := ∀ s, P s (a.run s)

theorem Act.keeps_skip {P} (h : Frame P) : Act.skip.Keeps P := h.refl
theorem Act.keeps_andThen {P} (h : Frame P) {a b : Act} (ha : a.Keeps P) (hb : b.Keeps P) : (a.andThen b).Keeps P :=
  fun s => h.trans (ha s) (hb _)
theorem Act.keeps_nil {P} (h : Frame P) : (Act.all []).Keeps P := h.refl
theorem Act.keeps_cons {P} (h : Frame P) {a : Act} {l : List Act} (ha : a.Keeps P) (hl : (Act.all l).Keeps P) :
    (Act.all (a :: l)).Keeps P := fun s => h.trans (ha s) (hl _)
theorem Act.keeps_look {P} {f : State → Act} (hf : ∀ s, (f s).Keeps P) : (Act.look f).Keeps P := fun s => hf s s
theorem Act.keeps_when {P} (h : Frame P) {c : Bool} {a : Act} (ha : a.Keeps P) : (Act.when c a).Keeps P := by
  cases c
  · exact h.refl
  · exact ha
theorem Act.keeps_each {P} (h : Frame P) {α : Type} (l : List α) {f : α → Act} (hf : ∀ x, (f x).Keeps P) :
    (Act.each l f).Keeps P := by
  induction l with
  | nil => exact h.refl
  | cons x l ih => exact fun s => h.trans (hf x s) (ih _)
theorem Act.keeps_upd {P} {f : State → State} {h : ∀ s, Good s (f s)} (hf : ∀ s, P s (f s)) : (Act.upd f h).Keeps P := hf

end Sys2Proof.Machine
end

