-- ==== Sys2Proof/WellFormed.lean ====
section
/-! DEFINITION. The commands whose operands the spec allows: lists and numbers within the sizes it gives. The operands of a fixed
range carry it in their types. -/

namespace Sys2Proof

/-- The check of one command. -/
def Instr.wellFormed : Instr → Bool
  /- R61: a dip ends before 1 ms. -/
  | .dipEnd micros => decide (micros < 1000)
  /- R122: the words of a region, or of the two dies; each bit flips at most once. -/
  | .scrubWord region word flips _ =>
    decide (word < if region.isSome then 17360 else 31744) && decide flips.Nodup && decide (flips ≠ [])
  /- R376, R379: a descriptor of four words, read in one burst. -/
  | .dmaDescriptorFetch _ words => decide (words.length = 4)
  /- R380: a burst of at most 16 beats. -/
  | .dmaBurstComplete _ _ data => decide (data.length ≤ 16)
  /- R398: two header words, at most 16 payload words, a trailer. -/
  | .ringPacketReceive _ words => decide (3 ≤ words.length) && decide (words.length ≤ 19)
  /- R22, R394: at most 64 modules, each once. -/
  | .ringMapBroadcast order _ => decide (order.length ≤ 64)
  | .census _ members => decide (members.length ≤ 64)
  | .map _ _ _ order _ => decide (order.length ≤ 64)
  /- R411: an access of 1 to 8 bytes. -/
  | .hostAccess _ _ bytes _ _ => decide (1 ≤ bytes) && decide (bytes ≤ 8)
  /- R380, R412: a burst of at most 16 beats. -/
  | .hostBusMaster _ data => decide (data.length ≤ 16)
  /- R415: an IPv4 packet in a frame of 1,500 bytes. -/
  | .ethFrameReceive (.echo _ _ data) => decide (data.length ≤ 1472)
  /- R417: 1 to 6 parts of at most 104 bytes. -/
  | .logEntryQueue _ _ parts =>
    decide (parts ≠ []) && decide (parts.length ≤ 6) && parts.all fun p => decide (p.length ≤ 104)
  | _ => true

/-- How many list elements a command carries. -/
def Instr.payload : Instr → Nat
  | .scrubWord _ _ flips _ => flips.length
  | .dmaDescriptorFetch _ words => words.length
  | .dmaBurstComplete _ _ data => data.length
  | .ringPacketReceive _ words => words.length
  | .ringMapBroadcast order _ => order.length
  | .census _ members => members.length
  | .map _ _ _ order _ => order.length
  | .hostBusMaster _ data => data.length
  | .ethFrameReceive (.echo _ _ data) => data.length
  | .logEntryQueue _ _ parts => parts.length
  | _ => 0

end Sys2Proof
end

