-- ==== Sys2Proof/Laws/PerInstr.lean ====
section
/-! SUPPORT. Statements about every command as syntax, one lemma per constructor. -/

namespace Sys2Proof.Laws.CommandOk

/-- A well-formed command carries at most 1,472 list elements (the data of an echo request, R415; every other list is shorter). -/
def Statement (i : Instr) : Prop := i.wellFormed = true → i.payload ≤ 1472

theorem supplyPowerOn (head : Bool) (addr : BitVec 6) : Statement (.supplyPowerOn head addr) := fun _ => Nat.zero_le _
theorem supervisorUp : Statement (.supervisorUp) := fun _ => Nat.zero_le _
theorem groupSupplyStart (g : Grp) : Statement (.groupSupplyStart g) := fun _ => Nat.zero_le _
theorem groupAlive (g : Grp) : Statement (.groupAlive g) := fun _ => Nat.zero_le _
theorem nvGateClose (g : Grp) (o : Out) : Statement (.nvGateClose g o) := fun _ => Nat.zero_le _
theorem intSettledTimer (g : Grp) : Statement (.intSettledTimer g) := fun _ => Nat.zero_le _
theorem reducedServiceStart : Statement (.reducedServiceStart) := fun _ => Nat.zero_le _
theorem fullLoadFrame (unreadable : Bool) : Statement (.fullLoadFrame unreadable) := fun _ => Nat.zero_le _
theorem fallbackLoadStart : Statement (.fallbackLoadStart) := fun _ => Nat.zero_le _
theorem fullLoadVerified (unreadable : Bool) : Statement (.fullLoadVerified unreadable) := fun _ => Nat.zero_le _
theorem coeffRestoreDone : Statement (.coeffRestoreDone) := fun _ => Nat.zero_le _
theorem release : Statement (.release) := fun _ => Nat.zero_le _
theorem vinFall : Statement (.vinFall) := fun _ => Nat.zero_le _
theorem dipDetected : Statement (.dipDetected) := fun _ => Nat.zero_le _
theorem dipEnd (micros : Nat) : Statement (.dipEnd micros) := fun _ => Nat.zero_le _
theorem powerFailStart : Statement (.powerFailStart) := fun _ => Nat.zero_le _
theorem railsCollapse : Statement (.railsCollapse) := fun _ => Nat.zero_le _
theorem powerFailRestart (head : Bool) (addr : BitVec 6) : Statement (.powerFailRestart head addr) := fun _ => Nat.zero_le _
theorem vinHighRise (millivolts : Nat) : Statement (.vinHighRise millivolts) := fun _ => Nat.zero_le _
theorem groupRailFail (g : Grp) (rails : BitVec 4) : Statement (.groupRailFail g rails) := fun _ => Nat.zero_le _
theorem groupLost (g : Grp) : Statement (.groupLost g) := fun _ => Nat.zero_le _
theorem groupRestart (g : Grp) : Statement (.groupRestart g) := fun _ => Nat.zero_le _
theorem vfldLow (g : Grp) : Statement (.vfldLow g) := fun _ => Nat.zero_le _
theorem moduleReset (src : Src) (v : Word) : Statement (.moduleReset src v) := fun _ => Nat.zero_le _
theorem fabricReset (src : Src) (v : Word) : Statement (.fabricReset src v) := fun _ => Nat.zero_le _
theorem groupReset (src : Src) (v : Word) : Statement (.groupReset src v) := fun _ => Nat.zero_le _
theorem sysModeWrite (src : Src) (v : Word) : Statement (.sysModeWrite src v) := fun _ => Nat.zero_le _
theorem reducedExitRestart (g : Grp) (n : Cv) : Statement (.reducedExitRestart g n) := fun _ => Nat.zero_le _
theorem cfgRegionLoad (src : Src) (v : Word) : Statement (.cfgRegionLoad src v) := fun _ => Nat.zero_le _
theorem cfgFlashProgram (src : Src) (v : Word) : Statement (.cfgFlashProgram src v) := fun _ => Nat.zero_le _
theorem cfgAbort (src : Src) (v : Word) : Statement (.cfgAbort src v) := fun _ => Nat.zero_le _
theorem cfgEndOfSource (src : Src) (v : Word) : Statement (.cfgEndOfSource src v) := fun _ => Nat.zero_le _
theorem cfgDataWrite (src : Src) (v : Word) : Statement (.cfgDataWrite src v) := fun _ => Nat.zero_le _
theorem streamStopped : Statement (.streamStopped) := fun _ => Nat.zero_le _
theorem regionStreamStaged (unreadable : Bool) : Statement (.regionStreamStaged unreadable) := fun _ => Nat.zero_le _
theorem regionStreamChecked : Statement (.regionStreamChecked) := fun _ => Nat.zero_le _
theorem regionLoadWritten : Statement (.regionLoadWritten) := fun _ => Nat.zero_le _
theorem programmedCopyVerified (unreadable : Bool) : Statement (.programmedCopyVerified unreadable) := fun _ => Nat.zero_le _
theorem cfgHoldWrite (src : Src) (v : Word) : Statement (.cfgHoldWrite src v) := fun _ => Nat.zero_le _
theorem cfgBootWrite (src : Src) (v : Word) : Statement (.cfgBootWrite src v) := fun _ => Nat.zero_le _
theorem keyRevoke (src : Src) (v : Word) : Statement (.keyRevoke src v) := fun _ => Nat.zero_le _
theorem scrubWord (region : Option Reg) (word : Nat) (flips : List (Fin 64)) (last : Bool) : Statement (.scrubWord region word flips last) := by
  simp only [Statement, Instr.wellFormed, Instr.payload, Bool.and_eq_true, decide_eq_true_eq]
  intro h
  have := (List.nodup_iff_injective_get.mp h.1.2)
  have := Fintype.card_le_of_injective _ this
  simp at this; omega
theorem fclkLock (clk : Fclk) : Statement (.fclkLock clk) := fun _ => Nat.zero_le _
theorem fclkLost (clk : Fclk) : Statement (.fclkLost clk) := fun _ => Nat.zero_le _
theorem bramEccEvent (region : Reg) (k : Fin 4) (word : Fin 1024) (double : Bool) : Statement (.bramEccEvent region k word double) := fun _ => Nat.zero_le _
theorem userRegisterAccess (src : Src) (d : Die) (write : Bool) (a : Fin 65536) (v : Word) : Statement (.userRegisterAccess src d write a v) := fun _ => Nat.zero_le _
theorem userRegisterReady (d : Die) (rdata : Word) : Statement (.userRegisterReady d rdata) := fun _ => Nat.zero_le _
theorem userRegisterTimeout (d : Die) : Statement (.userRegisterTimeout d) := fun _ => Nat.zero_le _
theorem masterPortWrite (d : Die) (addr : BitVec 24) (v : DWord) (wide : Bool) : Statement (.masterPortWrite d addr v wide) := fun _ => Nat.zero_le _
theorem doorbellOutletRise (d : Die) (e : Eng) : Statement (.doorbellOutletRise d e) := fun _ => Nat.zero_le _
theorem tapConfigWrite (src : Src) (d : Die) (t : Fin 8) (v : Word) : Statement (.tapConfigWrite src d t v) := fun _ => Nat.zero_le _
theorem captureStart (src : Src) (v : Word) : Statement (.captureStart src v) := fun _ => Nat.zero_le _
theorem captureArm (src : Src) (v : Word) : Statement (.captureArm src v) := fun _ => Nat.zero_le _
theorem captureTrigger : Statement (.captureTrigger) := fun _ => Nat.zero_le _
theorem captureSnapshot : Statement (.captureSnapshot) := fun _ => Nat.zero_le _
theorem captureNoClock : Statement (.captureNoClock) := fun _ => Nat.zero_le _
theorem inpModeWrite (src : Src) (g : Grp) (ain : Ain) (v : Word) : Statement (.inpModeWrite src g ain v) := fun _ => Nat.zero_le _
theorem limiterEntry (g : Grp) (ain : Ain) : Statement (.limiterEntry g ain) := fun _ => Nat.zero_le _
theorem limiterFoldback (g : Grp) (ain : Ain) (enter : Bool) : Statement (.limiterFoldback g ain enter) := fun _ => Nat.zero_le _
theorem cellCommit (src : Src) (g : Grp) (v : Word) : Statement (.cellCommit src g v) := fun _ => Nat.zero_le _
theorem cellHandover (g : Grp) : Statement (.cellHandover g) := fun _ => Nat.zero_le _
theorem trackDriverConnect (g : Grp) : Statement (.trackDriverConnect g) := fun _ => Nat.zero_le _
theorem cellHandoverReported (g : Grp) : Statement (.cellHandoverReported g) := fun _ => Nat.zero_le _
theorem cellCtlChange (g : Grp) (c : Cell) (level : Bool) : Statement (.cellCtlChange g c level) := fun _ => Nat.zero_le _
theorem cellClipEntry (g : Grp) (c : Cell) : Statement (.cellClipEntry g c) := fun _ => Nat.zero_le _
theorem overloadDeclare (g : Grp) (n : Mod) (positive : Bool) : Statement (.overloadDeclare g n positive) := fun _ => Nat.zero_le _
theorem overloadEventEnd (g : Grp) (n : Mod) : Statement (.overloadEventEnd g n) := fun _ => Nat.zero_le _
theorem windowOpen (g : Grp) (n : Cv) : Statement (.windowOpen g n) := fun _ => Nat.zero_le _
theorem converterOutput (g : Grp) (n : Cv) (x : Computed) : Statement (.converterOutput g n x) := fun _ => Nat.zero_le _
theorem sequenceHandoverReported (g : Grp) (n : Cv) : Statement (.sequenceHandoverReported g n) := fun _ => Nat.zero_le _
theorem cvCommit (src : Src) (g : Grp) (n : Cv) (v : Word) : Statement (.cvCommit src g n v) := fun _ => Nat.zero_le _
theorem cvEnable (src : Src) (g : Grp) (n : Cv) (v : Word) : Statement (.cvEnable src g n v) := fun _ => Nat.zero_le _
theorem cvDisable (src : Src) (g : Grp) (n : Cv) (v : Word) : Statement (.cvDisable src g n v) := fun _ => Nat.zero_le _
theorem cvIlvWrite (src : Src) (g : Grp) (n : Cv) (v : Word) : Statement (.cvIlvWrite src g n v) := fun _ => Nat.zero_le _
theorem seqStart (src : Src) (g : Grp) (n : Cv) : Statement (.seqStart src g n) := fun _ => Nat.zero_le _
theorem seqAdvance (src : Src) (g : Grp) (n : Cv) : Statement (.seqAdvance src g n) := fun _ => Nat.zero_le _
theorem injectRequest (src : Src) (g : Grp) (n : Cv) (slots : BitVec 4) : Statement (.injectRequest src g n slots) := fun _ => Nat.zero_le _
theorem injectAct (g : Grp) (n : Cv) : Statement (.injectAct g n) := fun _ => Nat.zero_le _
theorem injectedOutput (g : Grp) (n : Cv) (x : Computed) : Statement (.injectedOutput g n x) := fun _ => Nat.zero_le _
theorem injectCancel (src : Src) (g : Grp) (n : Cv) (slots : BitVec 4) : Statement (.injectCancel src g n slots) := fun _ => Nat.zero_le _
theorem refSelWrite (src : Src) (g : Grp) (v : Word) : Statement (.refSelWrite src g v) := fun _ => Nat.zero_le _
theorem timeStepWrite (src : Src) (v : Word) : Statement (.timeStepWrite src v) := fun _ => Nat.zero_le _
theorem timeRateWrite (src : Src) (v : Word) : Statement (.timeRateWrite src v) := fun _ => Nat.zero_le _
theorem timeCtrlWrite (src : Src) (v : Word) : Statement (.timeCtrlWrite src v) := fun _ => Nat.zero_le _
theorem ptpMessageReceive (m : PtpMsg) : Statement (.ptpMessageReceive m) := fun _ => Nat.zero_le _
theorem ptpHoldoverTimeout : Statement (.ptpHoldoverTimeout) := fun _ => Nat.zero_le _
theorem ptpCfgWrite (src : Src) (v : Word) : Statement (.ptpCfgWrite src v) := fun _ => Nat.zero_le _
theorem ptpDelayReqSend : Statement (.ptpDelayReqSend) := fun _ => Nat.zero_le _
theorem timePacketSend : Statement (.timePacketSend) := fun _ => Nat.zero_le _
theorem timePacketReceive (port : Port) (p : TimePkt) : Statement (.timePacketReceive port p) := fun _ => Nat.zero_le _
theorem ringTimeHoldover : Statement (.ringTimeHoldover) := fun _ => Nat.zero_le _
theorem linkDelayMeasure (port : Port) : Statement (.linkDelayMeasure port) := fun _ => Nat.zero_le _
theorem ppsOutRise : Statement (.ppsOutRise) := fun _ => Nat.zero_le _
theorem ppsOutFall : Statement (.ppsOutFall) := fun _ => Nat.zero_le _
theorem ppsInEdge : Statement (.ppsInEdge) := fun _ => Nat.zero_le _
theorem trackerEnable (src : Src) (k : Trk) (v : Word) : Statement (.trackerEnable src k v) := fun _ => Nat.zero_le _
theorem trackerSourceEvent (k : Trk) (ev : TrkEvent) : Statement (.trackerSourceEvent k ev) := fun _ => Nat.zero_le _
theorem trackerHoldEntry (k : Trk) : Statement (.trackerHoldEntry k) := fun _ => Nat.zero_le _
theorem trackerHoldTimeout (k : Trk) : Statement (.trackerHoldTimeout k) := fun _ => Nat.zero_le _
theorem encoderFailsafeLost (k : Trk) : Statement (.encoderFailsafeLost k) := fun _ => Nat.zero_le _
theorem encoderStopTimeout (k : Trk) : Statement (.encoderStopTimeout k) := fun _ => Nat.zero_le _
theorem homeNow (src : Src) (k : Trk) (v : Word) : Statement (.homeNow src k v) := fun _ => Nat.zero_le _
theorem homeArm (src : Src) (k : Trk) (v : Word) : Statement (.homeArm src k v) := fun _ => Nat.zero_le _
theorem homeDisarm (src : Src) (k : Trk) (v : Word) : Statement (.homeDisarm src k v) := fun _ => Nat.zero_le _
theorem contextArmingWrite (src : Src) (x : Ctx) (v : DWord) (wide : Bool) : Statement (.contextArmingWrite src x v wide) := fun _ => Nat.zero_le _
theorem contextDisarm (src : Src) (x : Ctx) (v : DWord) (wide : Bool) : Statement (.contextDisarm src x v wide) := fun _ => Nat.zero_le _
theorem contextJudge : Statement (.contextJudge) := fun _ => Nat.zero_le _
theorem schedHoldEnd : Statement (.schedHoldEnd) := fun _ => Nat.zero_le _
theorem decisionIssue : Statement (.decisionIssue) := fun _ => Nat.zero_le _
theorem completionRecord : Statement (.completionRecord) := fun _ => Nat.zero_le _
theorem schedMark : Statement (.schedMark) := fun _ => Nat.zero_le _
theorem schedRepeatWrite (src : Src) (entry : Fin 256) (v : Word) : Statement (.schedRepeatWrite src entry v) := fun _ => Nat.zero_le _
theorem schedTrkWrite (src : Src) (k : Trk) (cfg : Bool) (v : Word) : Statement (.schedTrkWrite src k cfg v) := fun _ => Nat.zero_le _
theorem stepNop (e : Eng) : Statement (.stepNop e) := fun _ => Nat.zero_le _
theorem stepHalt (e : Eng) : Statement (.stepHalt e) := fun _ => Nat.zero_le _
theorem stepMovi (e : Eng) : Statement (.stepMovi e) := fun _ => Nat.zero_le _
theorem stepMov (e : Eng) : Statement (.stepMov e) := fun _ => Nat.zero_le _
theorem stepAdd (e : Eng) : Statement (.stepAdd e) := fun _ => Nat.zero_le _
theorem stepScale (e : Eng) : Statement (.stepScale e) := fun _ => Nat.zero_le _
theorem stepLoad (e : Eng) : Statement (.stepLoad e) := fun _ => Nat.zero_le _
theorem stepWr (e : Eng) : Statement (.stepWr e) := fun _ => Nat.zero_le _
theorem stepWri (e : Eng) : Statement (.stepWri e) := fun _ => Nat.zero_le _
theorem stepCmp (e : Eng) : Statement (.stepCmp e) := fun _ => Nat.zero_le _
theorem stepCmpt (e : Eng) : Statement (.stepCmpt e) := fun _ => Nat.zero_le _
theorem stepSetf (e : Eng) : Statement (.stepSetf e) := fun _ => Nat.zero_le _
theorem stepBr (e : Eng) : Statement (.stepBr e) := fun _ => Nat.zero_le _
theorem stepCall (e : Eng) : Statement (.stepCall e) := fun _ => Nat.zero_le _
theorem stepRet (e : Eng) : Statement (.stepRet e) := fun _ => Nat.zero_le _
theorem stepStart (e : Eng) : Statement (.stepStart e) := fun _ => Nat.zero_le _
theorem stepInject (e : Eng) : Statement (.stepInject e) := fun _ => Nat.zero_le _
theorem stepAdvance (e : Eng) : Statement (.stepAdvance e) := fun _ => Nat.zero_le _
theorem stepRing (e : Eng) : Statement (.stepRing e) := fun _ => Nat.zero_le _
theorem stepClock (e : Eng) : Statement (.stepClock e) := fun _ => Nat.zero_le _
theorem doorbellRing (e : Eng) : Statement (.doorbellRing e) := fun _ => Nat.zero_le _
theorem stepDoorbellWrite (src : Src) (v : Word) : Statement (.stepDoorbellWrite src v) := fun _ => Nat.zero_le _
theorem engineRun (src : Src) (e : Eng) (v : Word) : Statement (.engineRun src e v) := fun _ => Nat.zero_le _
theorem engineHalt (src : Src) (e : Eng) (v : Word) : Statement (.engineHalt src e v) := fun _ => Nat.zero_le _
theorem stepFlagWrite (src : Src) (set : Bool) (v : Word) : Statement (.stepFlagWrite src set v) := fun _ => Nat.zero_le _
theorem stepMemoryWrite (src : Src) (w : Fin 16384) (v : DWord) (half : Half) : Statement (.stepMemoryWrite src w v half) := fun _ => Nat.zero_le _
theorem monitorStale (m : Monitor) : Statement (.monitorStale m) := fun _ => Nat.zero_le _
theorem trippedClear (src : Src) (w : Fin 4) (v : Word) : Statement (.trippedClear src w v) := fun _ => Nat.zero_le _
theorem monitorWrite (src : Src) (m : Monitor) (reg : MonReg) (v : Word) : Statement (.monitorWrite src m reg v) := fun _ => Nat.zero_le _
theorem limitLock (src : Src) (v : Word) : Statement (.limitLock src v) := fun _ => Nat.zero_le _
theorem safePinLow : Statement (.safePinLow) := fun _ => Nat.zero_le _
theorem safeEnterWrite (src : Src) (v : Word) : Statement (.safeEnterWrite src v) := fun _ => Nat.zero_le _
theorem safeRelease (src : Src) (v : Word) : Statement (.safeRelease src v) := fun _ => Nat.zero_le _
theorem safeCauseClear (src : Src) (v : Word) : Statement (.safeCauseClear src v) := fun _ => Nat.zero_le _
theorem watchdogKick (src : Src) (v : Word) : Statement (.watchdogKick src v) := fun _ => Nat.zero_le _
theorem watchdogExpiry : Statement (.watchdogExpiry) := fun _ => Nat.zero_le _
theorem wdogWrite (src : Src) (v : Word) : Statement (.wdogWrite src v) := fun _ => Nat.zero_le _
theorem policyProgram (src : Src) (v : Word) : Statement (.policyProgram src v) := fun _ => Nat.zero_le _
theorem policyActivate (src : Src) (v : Word) : Statement (.policyActivate src v) := fun _ => Nat.zero_le _
theorem policyAbort (src : Src) (v : Word) : Statement (.policyAbort src v) := fun _ => Nat.zero_le _
theorem policyEndOfSource (src : Src) (v : Word) : Statement (.policyEndOfSource src v) := fun _ => Nat.zero_le _
theorem polDataWrite (src : Src) (v : Word) : Statement (.polDataWrite src v) := fun _ => Nat.zero_le _
theorem policyVerified : Statement (.policyVerified) := fun _ => Nat.zero_le _
theorem dacValueWrite (src : Src) (g : Grp) (o : Out) (v : Word) : Statement (.dacValueWrite src g o v) := fun _ => Nat.zero_le _
theorem dacCfgWrite (src : Src) (g : Grp) (o : Out) (v : Word) : Statement (.dacCfgWrite src g o v) := fun _ => Nat.zero_le _
theorem rangeChangeStep (g : Grp) (o : Out) : Statement (.rangeChangeStep g o) := fun _ => Nat.zero_le _
theorem nvRangeWrite (src : Src) (g : Grp) (o : Out) (v : Word) : Statement (.nvRangeWrite src g o v) := fun _ => Nat.zero_le _
theorem ddsApply (src : Src) (g : Grp) (e : DdsE) (v : Word) : Statement (.ddsApply src g e v) := fun _ => Nat.zero_le _
theorem ddsHandover (g : Grp) (e : DdsE) : Statement (.ddsHandover g e) := fun _ => Nat.zero_le _
theorem ddsEnableWrite (src : Src) (g : Grp) (e : DdsE) (v : Word) : Statement (.ddsEnableWrite src g e v) := fun _ => Nat.zero_le _
theorem ddsFollowUpdate (g : Grp) (e : DdsE) : Statement (.ddsFollowUpdate g e) := fun _ => Nat.zero_le _
theorem monitorReading (g : Grp) (x ovr : Computed) : Statement (.monitorReading g x ovr) := fun _ => Nat.zero_le _
theorem rbFaultClear (src : Src) (g : Grp) (o : Out) (v : Word) : Statement (.rbFaultClear src g o v) := fun _ => Nat.zero_le _
theorem spareCoreReq (src : Src) (g : Grp) (v : Word) : Statement (.spareCoreReq src g v) := fun _ => Nat.zero_le _
theorem spareCoreSwitch (g : Grp) : Statement (.spareCoreSwitch g) := fun _ => Nat.zero_le _
theorem spareCoreReturn (src : Src) (g : Grp) (v : Word) : Statement (.spareCoreReturn src g v) := fun _ => Nat.zero_le _
theorem cmpCfgWrite (src : Src) (g : Grp) (k : Kmp) (v : Word) : Statement (.cmpCfgWrite src g k v) := fun _ => Nat.zero_le _
theorem cmpThresholdWrite (src : Src) (g : Grp) (k : Kmp) (hyst : Bool) (v : Word) : Statement (.cmpThresholdWrite src g k hyst v) := fun _ => Nat.zero_le _
theorem cmpRawChange (g : Grp) (k : Kmp) (x : Computed) : Statement (.cmpRawChange g k x) := fun _ => Nat.zero_le _
theorem cmpFilterChange (g : Grp) (k : Kmp) : Statement (.cmpFilterChange g k) := fun _ => Nat.zero_le _
theorem pinFuncWrite (src : Src) (g : Grp) (p : Pin) (v : Word) : Statement (.pinFuncWrite src g p v) := fun _ => Nat.zero_le _
theorem pinOutWrite (src : Src) (g : Grp) (v : Word) : Statement (.pinOutWrite src g v) := fun _ => Nat.zero_le _
theorem pinOutSet (src : Src) (g : Grp) (v : Word) : Statement (.pinOutSet src g v) := fun _ => Nat.zero_le _
theorem pinOutClr (src : Src) (g : Grp) (v : Word) : Statement (.pinOutClr src g v) := fun _ => Nat.zero_le _
theorem pinOutTgl (src : Src) (g : Grp) (v : Word) : Statement (.pinOutTgl src g v) := fun _ => Nat.zero_le _
theorem pinLockWrite (src : Src) (g : Grp) (v : Word) : Statement (.pinLockWrite src g v) := fun _ => Nat.zero_le _
theorem fieldOverload (g : Grp) (p : GPin) : Statement (.fieldOverload g p) := fun _ => Nat.zero_le _
theorem fieldRetry (g : Grp) (p : GPin) (failedAgain : Bool) : Statement (.fieldRetry g p failedAgain) := fun _ => Nat.zero_le _
theorem pairFailsafe (g : Grp) (d : Dp) : Statement (.pairFailsafe g d) := fun _ => Nat.zero_le _
theorem calRun (src : Src) (g : Grp) (v : Word) : Statement (.calRun src g v) := fun _ => Nat.zero_le _
theorem calBackgroundStart (g : Grp) (cls : Fin 3) (target : Fin 16) : Statement (.calBackgroundStart g cls target) := fun _ => Nat.zero_le _
theorem calReading (g : Grp) (value : Int) (ovr : Bool) : Statement (.calReading g value ovr) := fun _ => Nat.zero_le _
theorem calSetStored (g : Grp) (good : Bool) : Statement (.calSetStored g good) := fun _ => Nat.zero_le _
theorem calAbort (src : Src) (g : Grp) (v : Word) : Statement (.calAbort src g v) := fun _ => Nat.zero_le _
theorem calFactory (src : Src) (g : Grp) (v : Word) : Statement (.calFactory src g v) := fun _ => Nat.zero_le _
theorem calRefDeclWrite (src : Src) (g : Grp) (v : Word) : Statement (.calRefDeclWrite src g v) := fun _ => Nat.zero_le _
theorem calHoursTick : Statement (.calHoursTick) := fun _ => Nat.zero_le _
theorem xtalDeviationUpdate (mean : Computed) : Statement (.xtalDeviationUpdate mean) := fun _ => Nat.zero_le _
theorem harbourPush (src : Src) (b : Berth) (h : Half) (v : DWord) : Statement (.harbourPush src b h v) := fun _ => Nat.zero_le _
theorem harbourPushEnd (src : Src) (b : Berth) (h : Half) (v : DWord) : Statement (.harbourPushEnd src b h v) := fun _ => Nat.zero_le _
theorem harbourPop (src : Src) (b : Berth) (h : Half) (ecc : Ecc) : Statement (.harbourPop src b h ecc) := fun _ => Nat.zero_le _
theorem harbourPeek (src : Src) (b : Berth) (h : Half) (ecc : Ecc) : Statement (.harbourPeek src b h ecc) := fun _ => Nat.zero_le _
theorem dropRest (src : Src) (b : Berth) (v : Word) : Statement (.dropRest src b v) := fun _ => Nat.zero_le _
theorem pointerCrossing (b : Berth) (producer : Bool) : Statement (.pointerCrossing b producer) := fun _ => Nat.zero_le _
theorem gapMarkWrite (b : Berth) : Statement (.gapMarkWrite b) := fun _ => Nat.zero_le _
theorem fabricDelivery (b : Berth) (ready : Computed) : Statement (.fabricDelivery b ready) := fun _ => Nat.zero_le _
theorem berthCfgWrite (src : Src) (b : Berth) (v : Word) : Statement (.berthCfgWrite src b v) := fun _ => Nat.zero_le _
theorem berthSizeWrite (src : Src) (b : Berth) (v : Word) : Statement (.berthSizeWrite src b v) := fun _ => Nat.zero_le _
theorem berthWaterWrite (src : Src) (b : Berth) (v : Word) : Statement (.berthWaterWrite src b v) := fun _ => Nat.zero_le _
theorem dmaStart (src : Src) (c : Chan) (v : Word) : Statement (.dmaStart src c v) := fun _ => Nat.zero_le _
theorem dmaAbort (src : Src) (c : Chan) (v : Word) : Statement (.dmaAbort src c v) := fun _ => Nat.zero_le _
theorem dmaUndrained (c : Chan) : Statement (.dmaUndrained c) := fun _ => Nat.zero_le _
theorem dmaTrigger (src : Src) (c : Chan) : Statement (.dmaTrigger src c) := fun _ => Nat.zero_le _
theorem dmaRateWrite (src : Src) (c : Chan) (v : Word) : Statement (.dmaRateWrite src c v) := fun _ => Nat.zero_le _
theorem dmaDescriptorFetch (c : Chan) (words : List DWord) : Statement (.dmaDescriptorFetch c words) := by
  simp only [Statement, Instr.wellFormed, Instr.payload, decide_eq_true_eq]; omega
theorem dmaBurstIssue : Statement (.dmaBurstIssue) := fun _ => Nat.zero_le _
theorem dmaBurstComplete (tag : Fin 256) (ok : Bool) (data : List DWord) : Statement (.dmaBurstComplete tag ok data) := by
  simp only [Statement, Instr.wellFormed, Instr.payload, decide_eq_true_eq]; omega
theorem dmaStatusWriteback (c : Chan) (ok : Bool) : Statement (.dmaStatusWriteback c ok) := fun _ => Nat.zero_le _
theorem dmaTransactionTimeout (tag : Fin 256) : Statement (.dmaTransactionTimeout tag) := fun _ => Nat.zero_le _
theorem ringPacketReceive (port : Port) (words : List DWord) : Statement (.ringPacketReceive port words) := by
  simp only [Statement, Instr.wellFormed, Instr.payload, Bool.and_eq_true, decide_eq_true_eq]; omega
theorem ringAck (port : Port) (cls : RingCls) (lseq : BitVec 10) : Statement (.ringAck port cls lseq) := fun _ => Nat.zero_le _
theorem ringNak (port : Port) (cls : RingCls) (lseq : BitVec 10) : Statement (.ringNak port cls lseq) := fun _ => Nat.zero_le _
theorem ringRetryTimeout (port : Port) (cls : RingCls) : Statement (.ringRetryTimeout port cls) := fun _ => Nat.zero_le _
theorem ringRequestTimeout (tag : BitVec 16) : Statement (.ringRequestTimeout tag) := fun _ => Nat.zero_le _
theorem linkPause (port : Port) : Statement (.linkPause port) := fun _ => Nat.zero_le _
theorem linkDown (port : Port) : Statement (.linkDown port) := fun _ => Nat.zero_le _
theorem linkTrained (port : Port) (width : Fin 8) (partner : BitVec 6) : Statement (.linkTrained port width partner) := fun _ => Nat.zero_le _
theorem laneFailRetrain (port : Port) (width : Fin 8) : Statement (.laneFailRetrain port width) := fun _ => Nat.zero_le _
theorem bypassClose : Statement (.bypassClose) := fun _ => Nat.zero_le _
theorem censusSend : Statement (.censusSend) := fun _ => Nat.zero_le _
theorem ringMapBroadcast (order : List (BitVec 6)) (closed : Bool) : Statement (.ringMapBroadcast order closed) := by
  simp only [Statement, Instr.wellFormed, Instr.payload, decide_eq_true_eq]; omega
theorem regRead (origin : BitVec 6) (tag : BitVec 16) (off : BitVec 24) : Statement (.regRead origin tag off) := fun _ => Nat.zero_le _
theorem logRead (origin : BitVec 6) (tag : BitVec 16) (seq : Word) : Statement (.logRead origin tag seq) := fun _ => Nat.zero_le _
theorem maintSafe (origin : BitVec 6) (tag : BitVec 16) : Statement (.maintSafe origin tag) := fun _ => Nat.zero_le _
theorem maintRegionReset (origin : BitVec 6) (tag : BitVec 16) (arg : Word) : Statement (.maintRegionReset origin tag arg) := fun _ => Nat.zero_le _
theorem maintCapture (origin : BitVec 6) (tag : BitVec 16) (arg : Word) : Statement (.maintCapture origin tag arg) := fun _ => Nat.zero_le _
theorem maintModuleReset (origin : BitVec 6) (tag : BitVec 16) (arg : Word) : Statement (.maintModuleReset origin tag arg) := fun _ => Nat.zero_le _
theorem maintDmaAbort (origin : BitVec 6) (tag : BitVec 16) (arg : Word) : Statement (.maintDmaAbort origin tag arg) := fun _ => Nat.zero_le _
theorem delayReq (port : Port) (t1 : BitVec 80) : Statement (.delayReq port t1) := fun _ => Nat.zero_le _
theorem delayResp (port : Port) (t1 : BitVec 80) (t2 : BitVec 80) (t3 : BitVec 80) : Statement (.delayResp port t1 t2 t3) := fun _ => Nat.zero_le _
theorem census (port : Port) (members : List (BitVec 6)) : Statement (.census port members) := by
  simp only [Statement, Instr.wellFormed, Instr.payload, decide_eq_true_eq]; omega
theorem map (port : Port) (seq : BitVec 8) (head : BitVec 6) (order : List (BitVec 6)) (closed : Bool) : Statement (.map port seq head order closed) := by
  simp only [Statement, Instr.wellFormed, Instr.payload, decide_eq_true_eq]; omega
theorem eventMaskChange : Statement (.eventMaskChange) := fun _ => Nat.zero_le _
theorem eventApply (m : BitVec 6) (mask : BitVec 48) (seq : BitVec 16) : Statement (.eventApply m mask seq) := fun _ => Nat.zero_le _
theorem evtAck (src : Src) (v : Word) : Statement (.evtAck src v) := fun _ => Nat.zero_le _
theorem mntCmd (src : Src) (v : Word) : Statement (.mntCmd src v) := fun _ => Nat.zero_le _
theorem hostAccess (m : BitVec 6) (off : BitVec 24) (bytes : Nat) (write : Bool) (v : DWord) : Statement (.hostAccess m off bytes write v) := fun _ => Nat.zero_le _
theorem hostBusMaster (ok : Bool) (data : List DWord) : Statement (.hostBusMaster ok data) := by
  simp only [Statement, Instr.wellFormed, Instr.payload, decide_eq_true_eq]; omega
theorem pcieFlr : Statement (.pcieFlr) := fun _ => Nat.zero_le _
theorem ethFrameReceive (f : EthFrame) : Statement (.ethFrameReceive f) := by
  cases f <;> simp only [Statement, Instr.wellFormed, Instr.payload, decide_eq_true_eq] <;> omega
theorem logEntryQueue (kind : BitVec 16) (subject : BitVec 16) (parts : List (List Byte)) : Statement (.logEntryQueue kind subject parts) := by
  simp only [Statement, Instr.wellFormed, Instr.payload, Bool.and_eq_true, decide_eq_true_eq]; omega
theorem logEntryCommit : Statement (.logEntryCommit) := fun _ => Nat.zero_le _
theorem logSelWrite (src : Src) (v : Word) : Statement (.logSelWrite src v) := fun _ => Nat.zero_le _
theorem convDeclare (src : Src) (g : Grp) (v : Word) : Statement (.convDeclare src g v) := fun _ => Nat.zero_le _
theorem convClear (src : Src) (g : Grp) (v : Word) : Statement (.convClear src g v) := fun _ => Nat.zero_le _
theorem convDecimCheck (g : Grp) (n : Cv) : Statement (.convDecimCheck g n) := fun _ => Nat.zero_le _
theorem convUnserved (g : Grp) (n : Cv) : Statement (.convUnserved g n) := fun _ => Nat.zero_le _
theorem sparePromotion (g : Grp) : Statement (.sparePromotion g) := fun _ => Nat.zero_le _
theorem sparePromote (src : Src) (g : Grp) (v : Word) : Statement (.sparePromote src g v) := fun _ => Nat.zero_le _
theorem spareReturn (src : Src) (g : Grp) (v : Word) : Statement (.spareReturn src g v) := fun _ => Nat.zero_le _
theorem coreClear (src : Src) (g : Grp) (v : Word) : Statement (.coreClear src g v) := fun _ => Nat.zero_le _
theorem relocStart (src : Src) (v : Word) : Statement (.relocStart src v) := fun _ => Nat.zero_le _
theorem relocAbort (src : Src) (v : Word) : Statement (.relocAbort src v) := fun _ => Nat.zero_le _
theorem relocCopyDone : Statement (.relocCopyDone) := fun _ => Nat.zero_le _
theorem relocStalled : Statement (.relocStalled) := fun _ => Nat.zero_le _
theorem relocHandover : Statement (.relocHandover) := fun _ => Nat.zero_le _
theorem relocRetire : Statement (.relocRetire) := fun _ => Nat.zero_le _
theorem autoReloc (r : Reg) : Statement (.autoReloc r) := fun _ => Nat.zero_le _
theorem regionReset (src : Src) (v : Word) : Statement (.regionReset src v) := fun _ => Nat.zero_le _
theorem unretire (src : Src) (v : Word) : Statement (.unretire src v) := fun _ => Nat.zero_le _
theorem pairHeartbeat (answer : Option PairAnswer) : Statement (.pairHeartbeat answer) := fun _ => Nat.zero_le _
theorem pairMirrorWrite (off : BitVec 24) (v : Word) (acked : Bool) : Statement (.pairMirrorWrite off v acked) := fun _ => Nat.zero_le _
theorem pairRoleDecide (answer : Option PairAnswer) : Statement (.pairRoleDecide answer) := fun _ => Nat.zero_le _
theorem takeover : Statement (.takeover) := fun _ => Nat.zero_le _
theorem pairSwap (src : Src) (v : Word) : Statement (.pairSwap src v) := fun _ => Nat.zero_le _
theorem pairYieldSeen : Statement (.pairYieldSeen) := fun _ => Nat.zero_le _
theorem registerWrite (src : Src) (off : BitVec 24) (v : Word) : Statement (.registerWrite src off v) := fun _ => Nat.zero_le _
theorem safePinHigh : Statement (.safePinHigh) := fun _ => Nat.zero_le _
theorem vinHighFall : Statement (.vinHighFall) := fun _ => Nat.zero_le _
theorem vfldReturn (g : Grp) : Statement (.vfldReturn g) := fun _ => Nat.zero_le _
theorem limiterExit (g : Grp) (ain : Ain) : Statement (.limiterExit g ain) := fun _ => Nat.zero_le _
theorem cellClipExit (g : Grp) (c : Cell) : Statement (.cellClipExit g c) := fun _ => Nat.zero_le _
theorem pinLevelChange (g : Grp) (p : Pin) (level : Option Bool) : Statement (.pinLevelChange g p level) := fun _ => Nat.zero_le _
theorem encoderValidLock (k : Trk) : Statement (.encoderValidLock k) := fun _ => Nat.zero_le _
theorem ddsSampleClip (g : Grp) (e : DdsE) : Statement (.ddsSampleClip g e) := fun _ => Nat.zero_le _
theorem pcieConfigWrite (w : PcieCfg) : Statement (.pcieConfigWrite w) := fun _ => Nat.zero_le _
theorem pcieLinkChange (up : Bool) (speed : Fin 4) (width : Fin 32) : Statement (.pcieLinkChange up speed width) := fun _ => Nat.zero_le _
theorem pcieReset : Statement (.pcieReset) := fun _ => Nat.zero_le _
theorem ethLinkChange (up : Bool) (mdix : Bool) : Statement (.ethLinkChange up mdix) := fun _ => Nat.zero_le _

end Sys2Proof.Laws.CommandOk
end

