-- ==== Sys2Proof/Laws/State.lean ====
section
/-! SUPPORT. One lemma per field of the state for each primitive update: what it leaves alone. -/

namespace Sys2Proof.Machine

@[simp] theorem Act.setR_pending (n : RegName) (v : Word) (i j k : Nat) (s : State) :
    ((Act.setR n v i j k).run s).pending = s.pending := by
  unfold Act.setR; dsimp only; split <;> rfl
@[simp] theorem Act.setR_mem (n : RegName) (v : Word) (i j k : Nat) (s : State) :
    ((Act.setR n v i j k).run s).mem = s.mem := by
  unfold Act.setR; dsimp only; split <;> rfl
@[simp] theorem Act.setR_latch (n : RegName) (v : Word) (i j k : Nat) (s : State) :
    ((Act.setR n v i j k).run s).latch = s.latch := by
  unfold Act.setR; dsimp only; split <;> rfl
@[simp] theorem Act.setR_clk (n : RegName) (v : Word) (i j k : Nat) (s : State) :
    ((Act.setR n v i j k).run s).clk = s.clk := by
  unfold Act.setR; dsimp only; split <;> rfl
@[simp] theorem Act.setR_time (n : RegName) (v : Word) (i j k : Nat) (s : State) :
    ((Act.setR n v i j k).run s).time = s.time := by
  unfold Act.setR; dsimp only; split <;> rfl
@[simp] theorem Act.setR_seed (n : RegName) (v : Word) (i j k : Nat) (s : State) :
    ((Act.setR n v i j k).run s).seed = s.seed := by
  unfold Act.setR; dsimp only; split <;> rfl
@[simp] theorem Act.setR_resp (n : RegName) (v : Word) (i j k : Nat) (s : State) :
    ((Act.setR n v i j k).run s).resp = s.resp := by
  unfold Act.setR; dsimp only; split <;> rfl
@[simp] theorem Act.setR_tx (n : RegName) (v : Word) (i j k : Nat) (s : State) :
    ((Act.setR n v i j k).run s).tx = s.tx := by
  unfold Act.setR; dsimp only; split <;> rfl
@[simp] theorem Act.setR_pwr (n : RegName) (v : Word) (i j k : Nat) (s : State) :
    ((Act.setR n v i j k).run s).pwr = s.pwr := by
  unfold Act.setR; dsimp only; split <;> rfl
@[simp] theorem Act.setR_log (n : RegName) (v : Word) (i j k : Nat) (s : State) :
    ((Act.setR n v i j k).run s).log = s.log := by
  unfold Act.setR; dsimp only; split <;> rfl
@[simp] theorem Act.setR_harb (n : RegName) (v : Word) (i j k : Nat) (s : State) :
    ((Act.setR n v i j k).run s).harb = s.harb := by
  unfold Act.setR; dsimp only; split <;> rfl
@[simp] theorem Act.setR_pins (n : RegName) (v : Word) (i j k : Nat) (s : State) :
    ((Act.setR n v i j k).run s).pins = s.pins := by
  unfold Act.setR; dsimp only; split <;> rfl
@[simp] theorem Act.setR_cmps (n : RegName) (v : Word) (i j k : Nat) (s : State) :
    ((Act.setR n v i j k).run s).cmps = s.cmps := by
  unfold Act.setR; dsimp only; split <;> rfl
@[simp] theorem Act.setR_outs (n : RegName) (v : Word) (i j k : Nat) (s : State) :
    ((Act.setR n v i j k).run s).outs = s.outs := by
  unfold Act.setR; dsimp only; split <;> rfl
@[simp] theorem Act.setR_dds (n : RegName) (v : Word) (i j k : Nat) (s : State) :
    ((Act.setR n v i j k).run s).dds = s.dds := by
  unfold Act.setR; dsimp only; split <;> rfl
@[simp] theorem Act.setR_mon (n : RegName) (v : Word) (i j k : Nat) (s : State) :
    ((Act.setR n v i j k).run s).mon = s.mon := by
  unfold Act.setR; dsimp only; split <;> rfl
@[simp] theorem Act.setR_pol (n : RegName) (v : Word) (i j k : Nat) (s : State) :
    ((Act.setR n v i j k).run s).pol = s.pol := by
  unfold Act.setR; dsimp only; split <;> rfl
@[simp] theorem Act.setR_pair (n : RegName) (v : Word) (i j k : Nat) (s : State) :
    ((Act.setR n v i j k).run s).pair = s.pair := by
  unfold Act.setR; dsimp only; split <;> rfl
@[simp] theorem Act.setR_flash (n : RegName) (v : Word) (i j k : Nat) (s : State) :
    ((Act.setR n v i j k).run s).flash = s.flash := by
  unfold Act.setR; dsimp only; split <;> rfl
@[simp] theorem Act.setR_eng (n : RegName) (v : Word) (i j k : Nat) (s : State) :
    ((Act.setR n v i j k).run s).eng = s.eng := by
  unfold Act.setR; dsimp only; split <;> rfl
@[simp] theorem Act.setR_lim (n : RegName) (v : Word) (i j k : Nat) (s : State) :
    ((Act.setR n v i j k).run s).lim = s.lim := by
  unfold Act.setR; dsimp only; split <;> rfl
@[simp] theorem Act.setR_sched (n : RegName) (v : Word) (i j k : Nat) (s : State) :
    ((Act.setR n v i j k).run s).sched = s.sched := by
  unfold Act.setR; dsimp only; split <;> rfl
@[simp] theorem Act.setR_trk (n : RegName) (v : Word) (i j k : Nat) (s : State) :
    ((Act.setR n v i j k).run s).trk = s.trk := by
  unfold Act.setR; dsimp only; split <;> rfl
@[simp] theorem Act.setR_tim (n : RegName) (v : Word) (i j k : Nat) (s : State) :
    ((Act.setR n v i j k).run s).tim = s.tim := by
  unfold Act.setR; dsimp only; split <;> rfl
@[simp] theorem Act.setR_cells (n : RegName) (v : Word) (i j k : Nat) (s : State) :
    ((Act.setR n v i j k).run s).cells = s.cells := by
  unfold Act.setR; dsimp only; split <;> rfl
@[simp] theorem Act.setR_ovl (n : RegName) (v : Word) (i j k : Nat) (s : State) :
    ((Act.setR n v i j k).run s).ovl = s.ovl := by
  unfold Act.setR; dsimp only; split <;> rfl
@[simp] theorem Act.setR_refs (n : RegName) (v : Word) (i j k : Nat) (s : State) :
    ((Act.setR n v i j k).run s).refs = s.refs := by
  unfold Act.setR; dsimp only; split <;> rfl
@[simp] theorem Act.setR_conv (n : RegName) (v : Word) (i j k : Nat) (s : State) :
    ((Act.setR n v i j k).run s).conv = s.conv := by
  unfold Act.setR; dsimp only; split <;> rfl
@[simp] theorem Act.setR_spare (n : RegName) (v : Word) (i j k : Nat) (s : State) :
    ((Act.setR n v i j k).run s).spare = s.spare := by
  unfold Act.setR; dsimp only; split <;> rfl
@[simp] theorem Act.setR_cal (n : RegName) (v : Word) (i j k : Nat) (s : State) :
    ((Act.setR n v i j k).run s).cal = s.cal := by
  unfold Act.setR; dsimp only; split <;> rfl
@[simp] theorem Act.setR_load (n : RegName) (v : Word) (i j k : Nat) (s : State) :
    ((Act.setR n v i j k).run s).load = s.load := by
  unfold Act.setR; dsimp only; split <;> rfl
@[simp] theorem Act.setR_fab (n : RegName) (v : Word) (i j k : Nat) (s : State) :
    ((Act.setR n v i j k).run s).fab = s.fab := by
  unfold Act.setR; dsimp only; split <;> rfl
@[simp] theorem Act.setR_rel (n : RegName) (v : Word) (i j k : Nat) (s : State) :
    ((Act.setR n v i j k).run s).rel = s.rel := by
  unfold Act.setR; dsimp only; split <;> rfl
@[simp] theorem Act.setR_dma (n : RegName) (v : Word) (i j k : Nat) (s : State) :
    ((Act.setR n v i j k).run s).dma = s.dma := by
  unfold Act.setR; dsimp only; split <;> rfl
@[simp] theorem Act.setR_ring (n : RegName) (v : Word) (i j k : Nat) (s : State) :
    ((Act.setR n v i j k).run s).ring = s.ring := by
  unfold Act.setR; dsimp only; split <;> rfl
@[simp] theorem Act.setR_pcie (n : RegName) (v : Word) (i j k : Nat) (s : State) :
    ((Act.setR n v i j k).run s).pcie = s.pcie := by
  unfold Act.setR; dsimp only; split <;> rfl
@[simp] theorem Act.setF_pending (f : Fld) (v : Nat) (i j k : Nat) (s : State) :
    ((Act.setF f v i j k).run s).pending = s.pending := Act.setR_pending ..
@[simp] theorem Act.setF_mem (f : Fld) (v : Nat) (i j k : Nat) (s : State) :
    ((Act.setF f v i j k).run s).mem = s.mem := Act.setR_mem ..
@[simp] theorem Act.setF_latch (f : Fld) (v : Nat) (i j k : Nat) (s : State) :
    ((Act.setF f v i j k).run s).latch = s.latch := Act.setR_latch ..
@[simp] theorem Act.setF_clk (f : Fld) (v : Nat) (i j k : Nat) (s : State) :
    ((Act.setF f v i j k).run s).clk = s.clk := Act.setR_clk ..
@[simp] theorem Act.setF_time (f : Fld) (v : Nat) (i j k : Nat) (s : State) :
    ((Act.setF f v i j k).run s).time = s.time := Act.setR_time ..
@[simp] theorem Act.setF_seed (f : Fld) (v : Nat) (i j k : Nat) (s : State) :
    ((Act.setF f v i j k).run s).seed = s.seed := Act.setR_seed ..
@[simp] theorem Act.setF_resp (f : Fld) (v : Nat) (i j k : Nat) (s : State) :
    ((Act.setF f v i j k).run s).resp = s.resp := Act.setR_resp ..
@[simp] theorem Act.setF_tx (f : Fld) (v : Nat) (i j k : Nat) (s : State) :
    ((Act.setF f v i j k).run s).tx = s.tx := Act.setR_tx ..
@[simp] theorem Act.setF_pwr (f : Fld) (v : Nat) (i j k : Nat) (s : State) :
    ((Act.setF f v i j k).run s).pwr = s.pwr := Act.setR_pwr ..
@[simp] theorem Act.setF_log (f : Fld) (v : Nat) (i j k : Nat) (s : State) :
    ((Act.setF f v i j k).run s).log = s.log := Act.setR_log ..
@[simp] theorem Act.setF_harb (f : Fld) (v : Nat) (i j k : Nat) (s : State) :
    ((Act.setF f v i j k).run s).harb = s.harb := Act.setR_harb ..
@[simp] theorem Act.setF_pins (f : Fld) (v : Nat) (i j k : Nat) (s : State) :
    ((Act.setF f v i j k).run s).pins = s.pins := Act.setR_pins ..
@[simp] theorem Act.setF_cmps (f : Fld) (v : Nat) (i j k : Nat) (s : State) :
    ((Act.setF f v i j k).run s).cmps = s.cmps := Act.setR_cmps ..
@[simp] theorem Act.setF_outs (f : Fld) (v : Nat) (i j k : Nat) (s : State) :
    ((Act.setF f v i j k).run s).outs = s.outs := Act.setR_outs ..
@[simp] theorem Act.setF_dds (f : Fld) (v : Nat) (i j k : Nat) (s : State) :
    ((Act.setF f v i j k).run s).dds = s.dds := Act.setR_dds ..
@[simp] theorem Act.setF_mon (f : Fld) (v : Nat) (i j k : Nat) (s : State) :
    ((Act.setF f v i j k).run s).mon = s.mon := Act.setR_mon ..
@[simp] theorem Act.setF_pol (f : Fld) (v : Nat) (i j k : Nat) (s : State) :
    ((Act.setF f v i j k).run s).pol = s.pol := Act.setR_pol ..
@[simp] theorem Act.setF_pair (f : Fld) (v : Nat) (i j k : Nat) (s : State) :
    ((Act.setF f v i j k).run s).pair = s.pair := Act.setR_pair ..
@[simp] theorem Act.setF_flash (f : Fld) (v : Nat) (i j k : Nat) (s : State) :
    ((Act.setF f v i j k).run s).flash = s.flash := Act.setR_flash ..
@[simp] theorem Act.setF_eng (f : Fld) (v : Nat) (i j k : Nat) (s : State) :
    ((Act.setF f v i j k).run s).eng = s.eng := Act.setR_eng ..
@[simp] theorem Act.setF_lim (f : Fld) (v : Nat) (i j k : Nat) (s : State) :
    ((Act.setF f v i j k).run s).lim = s.lim := Act.setR_lim ..
@[simp] theorem Act.setF_sched (f : Fld) (v : Nat) (i j k : Nat) (s : State) :
    ((Act.setF f v i j k).run s).sched = s.sched := Act.setR_sched ..
@[simp] theorem Act.setF_trk (f : Fld) (v : Nat) (i j k : Nat) (s : State) :
    ((Act.setF f v i j k).run s).trk = s.trk := Act.setR_trk ..
@[simp] theorem Act.setF_tim (f : Fld) (v : Nat) (i j k : Nat) (s : State) :
    ((Act.setF f v i j k).run s).tim = s.tim := Act.setR_tim ..
@[simp] theorem Act.setF_cells (f : Fld) (v : Nat) (i j k : Nat) (s : State) :
    ((Act.setF f v i j k).run s).cells = s.cells := Act.setR_cells ..
@[simp] theorem Act.setF_ovl (f : Fld) (v : Nat) (i j k : Nat) (s : State) :
    ((Act.setF f v i j k).run s).ovl = s.ovl := Act.setR_ovl ..
@[simp] theorem Act.setF_refs (f : Fld) (v : Nat) (i j k : Nat) (s : State) :
    ((Act.setF f v i j k).run s).refs = s.refs := Act.setR_refs ..
@[simp] theorem Act.setF_conv (f : Fld) (v : Nat) (i j k : Nat) (s : State) :
    ((Act.setF f v i j k).run s).conv = s.conv := Act.setR_conv ..
@[simp] theorem Act.setF_spare (f : Fld) (v : Nat) (i j k : Nat) (s : State) :
    ((Act.setF f v i j k).run s).spare = s.spare := Act.setR_spare ..
@[simp] theorem Act.setF_cal (f : Fld) (v : Nat) (i j k : Nat) (s : State) :
    ((Act.setF f v i j k).run s).cal = s.cal := Act.setR_cal ..
@[simp] theorem Act.setF_load (f : Fld) (v : Nat) (i j k : Nat) (s : State) :
    ((Act.setF f v i j k).run s).load = s.load := Act.setR_load ..
@[simp] theorem Act.setF_fab (f : Fld) (v : Nat) (i j k : Nat) (s : State) :
    ((Act.setF f v i j k).run s).fab = s.fab := Act.setR_fab ..
@[simp] theorem Act.setF_rel (f : Fld) (v : Nat) (i j k : Nat) (s : State) :
    ((Act.setF f v i j k).run s).rel = s.rel := Act.setR_rel ..
@[simp] theorem Act.setF_dma (f : Fld) (v : Nat) (i j k : Nat) (s : State) :
    ((Act.setF f v i j k).run s).dma = s.dma := Act.setR_dma ..
@[simp] theorem Act.setF_ring (f : Fld) (v : Nat) (i j k : Nat) (s : State) :
    ((Act.setF f v i j k).run s).ring = s.ring := Act.setR_ring ..
@[simp] theorem Act.setF_pcie (f : Fld) (v : Nat) (i j k : Nat) (s : State) :
    ((Act.setF f v i j k).run s).pcie = s.pcie := Act.setR_pcie ..
@[simp] theorem Act.setB_pending (f : Fld) (v : Bool) (i j k : Nat) (s : State) :
    ((Act.setB f v i j k).run s).pending = s.pending := Act.setR_pending ..
@[simp] theorem Act.setB_mem (f : Fld) (v : Bool) (i j k : Nat) (s : State) :
    ((Act.setB f v i j k).run s).mem = s.mem := Act.setR_mem ..
@[simp] theorem Act.setB_latch (f : Fld) (v : Bool) (i j k : Nat) (s : State) :
    ((Act.setB f v i j k).run s).latch = s.latch := Act.setR_latch ..
@[simp] theorem Act.setB_clk (f : Fld) (v : Bool) (i j k : Nat) (s : State) :
    ((Act.setB f v i j k).run s).clk = s.clk := Act.setR_clk ..
@[simp] theorem Act.setB_time (f : Fld) (v : Bool) (i j k : Nat) (s : State) :
    ((Act.setB f v i j k).run s).time = s.time := Act.setR_time ..
@[simp] theorem Act.setB_seed (f : Fld) (v : Bool) (i j k : Nat) (s : State) :
    ((Act.setB f v i j k).run s).seed = s.seed := Act.setR_seed ..
@[simp] theorem Act.setB_resp (f : Fld) (v : Bool) (i j k : Nat) (s : State) :
    ((Act.setB f v i j k).run s).resp = s.resp := Act.setR_resp ..
@[simp] theorem Act.setB_tx (f : Fld) (v : Bool) (i j k : Nat) (s : State) :
    ((Act.setB f v i j k).run s).tx = s.tx := Act.setR_tx ..
@[simp] theorem Act.setB_pwr (f : Fld) (v : Bool) (i j k : Nat) (s : State) :
    ((Act.setB f v i j k).run s).pwr = s.pwr := Act.setR_pwr ..
@[simp] theorem Act.setB_log (f : Fld) (v : Bool) (i j k : Nat) (s : State) :
    ((Act.setB f v i j k).run s).log = s.log := Act.setR_log ..
@[simp] theorem Act.setB_harb (f : Fld) (v : Bool) (i j k : Nat) (s : State) :
    ((Act.setB f v i j k).run s).harb = s.harb := Act.setR_harb ..
@[simp] theorem Act.setB_pins (f : Fld) (v : Bool) (i j k : Nat) (s : State) :
    ((Act.setB f v i j k).run s).pins = s.pins := Act.setR_pins ..
@[simp] theorem Act.setB_cmps (f : Fld) (v : Bool) (i j k : Nat) (s : State) :
    ((Act.setB f v i j k).run s).cmps = s.cmps := Act.setR_cmps ..
@[simp] theorem Act.setB_outs (f : Fld) (v : Bool) (i j k : Nat) (s : State) :
    ((Act.setB f v i j k).run s).outs = s.outs := Act.setR_outs ..
@[simp] theorem Act.setB_dds (f : Fld) (v : Bool) (i j k : Nat) (s : State) :
    ((Act.setB f v i j k).run s).dds = s.dds := Act.setR_dds ..
@[simp] theorem Act.setB_mon (f : Fld) (v : Bool) (i j k : Nat) (s : State) :
    ((Act.setB f v i j k).run s).mon = s.mon := Act.setR_mon ..
@[simp] theorem Act.setB_pol (f : Fld) (v : Bool) (i j k : Nat) (s : State) :
    ((Act.setB f v i j k).run s).pol = s.pol := Act.setR_pol ..
@[simp] theorem Act.setB_pair (f : Fld) (v : Bool) (i j k : Nat) (s : State) :
    ((Act.setB f v i j k).run s).pair = s.pair := Act.setR_pair ..
@[simp] theorem Act.setB_flash (f : Fld) (v : Bool) (i j k : Nat) (s : State) :
    ((Act.setB f v i j k).run s).flash = s.flash := Act.setR_flash ..
@[simp] theorem Act.setB_eng (f : Fld) (v : Bool) (i j k : Nat) (s : State) :
    ((Act.setB f v i j k).run s).eng = s.eng := Act.setR_eng ..
@[simp] theorem Act.setB_lim (f : Fld) (v : Bool) (i j k : Nat) (s : State) :
    ((Act.setB f v i j k).run s).lim = s.lim := Act.setR_lim ..
@[simp] theorem Act.setB_sched (f : Fld) (v : Bool) (i j k : Nat) (s : State) :
    ((Act.setB f v i j k).run s).sched = s.sched := Act.setR_sched ..
@[simp] theorem Act.setB_trk (f : Fld) (v : Bool) (i j k : Nat) (s : State) :
    ((Act.setB f v i j k).run s).trk = s.trk := Act.setR_trk ..
@[simp] theorem Act.setB_tim (f : Fld) (v : Bool) (i j k : Nat) (s : State) :
    ((Act.setB f v i j k).run s).tim = s.tim := Act.setR_tim ..
@[simp] theorem Act.setB_cells (f : Fld) (v : Bool) (i j k : Nat) (s : State) :
    ((Act.setB f v i j k).run s).cells = s.cells := Act.setR_cells ..
@[simp] theorem Act.setB_ovl (f : Fld) (v : Bool) (i j k : Nat) (s : State) :
    ((Act.setB f v i j k).run s).ovl = s.ovl := Act.setR_ovl ..
@[simp] theorem Act.setB_refs (f : Fld) (v : Bool) (i j k : Nat) (s : State) :
    ((Act.setB f v i j k).run s).refs = s.refs := Act.setR_refs ..
@[simp] theorem Act.setB_conv (f : Fld) (v : Bool) (i j k : Nat) (s : State) :
    ((Act.setB f v i j k).run s).conv = s.conv := Act.setR_conv ..
@[simp] theorem Act.setB_spare (f : Fld) (v : Bool) (i j k : Nat) (s : State) :
    ((Act.setB f v i j k).run s).spare = s.spare := Act.setR_spare ..
@[simp] theorem Act.setB_cal (f : Fld) (v : Bool) (i j k : Nat) (s : State) :
    ((Act.setB f v i j k).run s).cal = s.cal := Act.setR_cal ..
@[simp] theorem Act.setB_load (f : Fld) (v : Bool) (i j k : Nat) (s : State) :
    ((Act.setB f v i j k).run s).load = s.load := Act.setR_load ..
@[simp] theorem Act.setB_fab (f : Fld) (v : Bool) (i j k : Nat) (s : State) :
    ((Act.setB f v i j k).run s).fab = s.fab := Act.setR_fab ..
@[simp] theorem Act.setB_rel (f : Fld) (v : Bool) (i j k : Nat) (s : State) :
    ((Act.setB f v i j k).run s).rel = s.rel := Act.setR_rel ..
@[simp] theorem Act.setB_dma (f : Fld) (v : Bool) (i j k : Nat) (s : State) :
    ((Act.setB f v i j k).run s).dma = s.dma := Act.setR_dma ..
@[simp] theorem Act.setB_ring (f : Fld) (v : Bool) (i j k : Nat) (s : State) :
    ((Act.setB f v i j k).run s).ring = s.ring := Act.setR_ring ..
@[simp] theorem Act.setB_pcie (f : Fld) (v : Bool) (i j k : Nat) (s : State) :
    ((Act.setB f v i j k).run s).pcie = s.pcie := Act.setR_pcie ..
@[simp] theorem Act.count_pending (f : Fld) (n : Nat) (i j k : Nat) (s : State) :
    ((Act.count f n i j k).run s).pending = s.pending := Act.setR_pending ..
@[simp] theorem Act.count_mem (f : Fld) (n : Nat) (i j k : Nat) (s : State) :
    ((Act.count f n i j k).run s).mem = s.mem := Act.setR_mem ..
@[simp] theorem Act.count_latch (f : Fld) (n : Nat) (i j k : Nat) (s : State) :
    ((Act.count f n i j k).run s).latch = s.latch := Act.setR_latch ..
@[simp] theorem Act.count_clk (f : Fld) (n : Nat) (i j k : Nat) (s : State) :
    ((Act.count f n i j k).run s).clk = s.clk := Act.setR_clk ..
@[simp] theorem Act.count_time (f : Fld) (n : Nat) (i j k : Nat) (s : State) :
    ((Act.count f n i j k).run s).time = s.time := Act.setR_time ..
@[simp] theorem Act.count_seed (f : Fld) (n : Nat) (i j k : Nat) (s : State) :
    ((Act.count f n i j k).run s).seed = s.seed := Act.setR_seed ..
@[simp] theorem Act.count_resp (f : Fld) (n : Nat) (i j k : Nat) (s : State) :
    ((Act.count f n i j k).run s).resp = s.resp := Act.setR_resp ..
@[simp] theorem Act.count_tx (f : Fld) (n : Nat) (i j k : Nat) (s : State) :
    ((Act.count f n i j k).run s).tx = s.tx := Act.setR_tx ..
@[simp] theorem Act.count_pwr (f : Fld) (n : Nat) (i j k : Nat) (s : State) :
    ((Act.count f n i j k).run s).pwr = s.pwr := Act.setR_pwr ..
@[simp] theorem Act.count_log (f : Fld) (n : Nat) (i j k : Nat) (s : State) :
    ((Act.count f n i j k).run s).log = s.log := Act.setR_log ..
@[simp] theorem Act.count_harb (f : Fld) (n : Nat) (i j k : Nat) (s : State) :
    ((Act.count f n i j k).run s).harb = s.harb := Act.setR_harb ..
@[simp] theorem Act.count_pins (f : Fld) (n : Nat) (i j k : Nat) (s : State) :
    ((Act.count f n i j k).run s).pins = s.pins := Act.setR_pins ..
@[simp] theorem Act.count_cmps (f : Fld) (n : Nat) (i j k : Nat) (s : State) :
    ((Act.count f n i j k).run s).cmps = s.cmps := Act.setR_cmps ..
@[simp] theorem Act.count_outs (f : Fld) (n : Nat) (i j k : Nat) (s : State) :
    ((Act.count f n i j k).run s).outs = s.outs := Act.setR_outs ..
@[simp] theorem Act.count_dds (f : Fld) (n : Nat) (i j k : Nat) (s : State) :
    ((Act.count f n i j k).run s).dds = s.dds := Act.setR_dds ..
@[simp] theorem Act.count_mon (f : Fld) (n : Nat) (i j k : Nat) (s : State) :
    ((Act.count f n i j k).run s).mon = s.mon := Act.setR_mon ..
@[simp] theorem Act.count_pol (f : Fld) (n : Nat) (i j k : Nat) (s : State) :
    ((Act.count f n i j k).run s).pol = s.pol := Act.setR_pol ..
@[simp] theorem Act.count_pair (f : Fld) (n : Nat) (i j k : Nat) (s : State) :
    ((Act.count f n i j k).run s).pair = s.pair := Act.setR_pair ..
@[simp] theorem Act.count_flash (f : Fld) (n : Nat) (i j k : Nat) (s : State) :
    ((Act.count f n i j k).run s).flash = s.flash := Act.setR_flash ..
@[simp] theorem Act.count_eng (f : Fld) (n : Nat) (i j k : Nat) (s : State) :
    ((Act.count f n i j k).run s).eng = s.eng := Act.setR_eng ..
@[simp] theorem Act.count_lim (f : Fld) (n : Nat) (i j k : Nat) (s : State) :
    ((Act.count f n i j k).run s).lim = s.lim := Act.setR_lim ..
@[simp] theorem Act.count_sched (f : Fld) (n : Nat) (i j k : Nat) (s : State) :
    ((Act.count f n i j k).run s).sched = s.sched := Act.setR_sched ..
@[simp] theorem Act.count_trk (f : Fld) (n : Nat) (i j k : Nat) (s : State) :
    ((Act.count f n i j k).run s).trk = s.trk := Act.setR_trk ..
@[simp] theorem Act.count_tim (f : Fld) (n : Nat) (i j k : Nat) (s : State) :
    ((Act.count f n i j k).run s).tim = s.tim := Act.setR_tim ..
@[simp] theorem Act.count_cells (f : Fld) (n : Nat) (i j k : Nat) (s : State) :
    ((Act.count f n i j k).run s).cells = s.cells := Act.setR_cells ..
@[simp] theorem Act.count_ovl (f : Fld) (n : Nat) (i j k : Nat) (s : State) :
    ((Act.count f n i j k).run s).ovl = s.ovl := Act.setR_ovl ..
@[simp] theorem Act.count_refs (f : Fld) (n : Nat) (i j k : Nat) (s : State) :
    ((Act.count f n i j k).run s).refs = s.refs := Act.setR_refs ..
@[simp] theorem Act.count_conv (f : Fld) (n : Nat) (i j k : Nat) (s : State) :
    ((Act.count f n i j k).run s).conv = s.conv := Act.setR_conv ..
@[simp] theorem Act.count_spare (f : Fld) (n : Nat) (i j k : Nat) (s : State) :
    ((Act.count f n i j k).run s).spare = s.spare := Act.setR_spare ..
@[simp] theorem Act.count_cal (f : Fld) (n : Nat) (i j k : Nat) (s : State) :
    ((Act.count f n i j k).run s).cal = s.cal := Act.setR_cal ..
@[simp] theorem Act.count_load (f : Fld) (n : Nat) (i j k : Nat) (s : State) :
    ((Act.count f n i j k).run s).load = s.load := Act.setR_load ..
@[simp] theorem Act.count_fab (f : Fld) (n : Nat) (i j k : Nat) (s : State) :
    ((Act.count f n i j k).run s).fab = s.fab := Act.setR_fab ..
@[simp] theorem Act.count_rel (f : Fld) (n : Nat) (i j k : Nat) (s : State) :
    ((Act.count f n i j k).run s).rel = s.rel := Act.setR_rel ..
@[simp] theorem Act.count_dma (f : Fld) (n : Nat) (i j k : Nat) (s : State) :
    ((Act.count f n i j k).run s).dma = s.dma := Act.setR_dma ..
@[simp] theorem Act.count_ring (f : Fld) (n : Nat) (i j k : Nat) (s : State) :
    ((Act.count f n i j k).run s).ring = s.ring := Act.setR_ring ..
@[simp] theorem Act.count_pcie (f : Fld) (n : Nat) (i j k : Nat) (s : State) :
    ((Act.count f n i j k).run s).pcie = s.pcie := Act.setR_pcie ..
@[simp] theorem Act.setBit_pending (f : Fld) (b : Nat) (i j k : Nat) (s : State) :
    ((Act.setBit f b i j k).run s).pending = s.pending := Act.setR_pending ..
@[simp] theorem Act.setBit_mem (f : Fld) (b : Nat) (i j k : Nat) (s : State) :
    ((Act.setBit f b i j k).run s).mem = s.mem := Act.setR_mem ..
@[simp] theorem Act.setBit_latch (f : Fld) (b : Nat) (i j k : Nat) (s : State) :
    ((Act.setBit f b i j k).run s).latch = s.latch := Act.setR_latch ..
@[simp] theorem Act.setBit_clk (f : Fld) (b : Nat) (i j k : Nat) (s : State) :
    ((Act.setBit f b i j k).run s).clk = s.clk := Act.setR_clk ..
@[simp] theorem Act.setBit_time (f : Fld) (b : Nat) (i j k : Nat) (s : State) :
    ((Act.setBit f b i j k).run s).time = s.time := Act.setR_time ..
@[simp] theorem Act.setBit_seed (f : Fld) (b : Nat) (i j k : Nat) (s : State) :
    ((Act.setBit f b i j k).run s).seed = s.seed := Act.setR_seed ..
@[simp] theorem Act.setBit_resp (f : Fld) (b : Nat) (i j k : Nat) (s : State) :
    ((Act.setBit f b i j k).run s).resp = s.resp := Act.setR_resp ..
@[simp] theorem Act.setBit_tx (f : Fld) (b : Nat) (i j k : Nat) (s : State) :
    ((Act.setBit f b i j k).run s).tx = s.tx := Act.setR_tx ..
@[simp] theorem Act.setBit_pwr (f : Fld) (b : Nat) (i j k : Nat) (s : State) :
    ((Act.setBit f b i j k).run s).pwr = s.pwr := Act.setR_pwr ..
@[simp] theorem Act.setBit_log (f : Fld) (b : Nat) (i j k : Nat) (s : State) :
    ((Act.setBit f b i j k).run s).log = s.log := Act.setR_log ..
@[simp] theorem Act.setBit_harb (f : Fld) (b : Nat) (i j k : Nat) (s : State) :
    ((Act.setBit f b i j k).run s).harb = s.harb := Act.setR_harb ..
@[simp] theorem Act.setBit_pins (f : Fld) (b : Nat) (i j k : Nat) (s : State) :
    ((Act.setBit f b i j k).run s).pins = s.pins := Act.setR_pins ..
@[simp] theorem Act.setBit_cmps (f : Fld) (b : Nat) (i j k : Nat) (s : State) :
    ((Act.setBit f b i j k).run s).cmps = s.cmps := Act.setR_cmps ..
@[simp] theorem Act.setBit_outs (f : Fld) (b : Nat) (i j k : Nat) (s : State) :
    ((Act.setBit f b i j k).run s).outs = s.outs := Act.setR_outs ..
@[simp] theorem Act.setBit_dds (f : Fld) (b : Nat) (i j k : Nat) (s : State) :
    ((Act.setBit f b i j k).run s).dds = s.dds := Act.setR_dds ..
@[simp] theorem Act.setBit_mon (f : Fld) (b : Nat) (i j k : Nat) (s : State) :
    ((Act.setBit f b i j k).run s).mon = s.mon := Act.setR_mon ..
@[simp] theorem Act.setBit_pol (f : Fld) (b : Nat) (i j k : Nat) (s : State) :
    ((Act.setBit f b i j k).run s).pol = s.pol := Act.setR_pol ..
@[simp] theorem Act.setBit_pair (f : Fld) (b : Nat) (i j k : Nat) (s : State) :
    ((Act.setBit f b i j k).run s).pair = s.pair := Act.setR_pair ..
@[simp] theorem Act.setBit_flash (f : Fld) (b : Nat) (i j k : Nat) (s : State) :
    ((Act.setBit f b i j k).run s).flash = s.flash := Act.setR_flash ..
@[simp] theorem Act.setBit_eng (f : Fld) (b : Nat) (i j k : Nat) (s : State) :
    ((Act.setBit f b i j k).run s).eng = s.eng := Act.setR_eng ..
@[simp] theorem Act.setBit_lim (f : Fld) (b : Nat) (i j k : Nat) (s : State) :
    ((Act.setBit f b i j k).run s).lim = s.lim := Act.setR_lim ..
@[simp] theorem Act.setBit_sched (f : Fld) (b : Nat) (i j k : Nat) (s : State) :
    ((Act.setBit f b i j k).run s).sched = s.sched := Act.setR_sched ..
@[simp] theorem Act.setBit_trk (f : Fld) (b : Nat) (i j k : Nat) (s : State) :
    ((Act.setBit f b i j k).run s).trk = s.trk := Act.setR_trk ..
@[simp] theorem Act.setBit_tim (f : Fld) (b : Nat) (i j k : Nat) (s : State) :
    ((Act.setBit f b i j k).run s).tim = s.tim := Act.setR_tim ..
@[simp] theorem Act.setBit_cells (f : Fld) (b : Nat) (i j k : Nat) (s : State) :
    ((Act.setBit f b i j k).run s).cells = s.cells := Act.setR_cells ..
@[simp] theorem Act.setBit_ovl (f : Fld) (b : Nat) (i j k : Nat) (s : State) :
    ((Act.setBit f b i j k).run s).ovl = s.ovl := Act.setR_ovl ..
@[simp] theorem Act.setBit_refs (f : Fld) (b : Nat) (i j k : Nat) (s : State) :
    ((Act.setBit f b i j k).run s).refs = s.refs := Act.setR_refs ..
@[simp] theorem Act.setBit_conv (f : Fld) (b : Nat) (i j k : Nat) (s : State) :
    ((Act.setBit f b i j k).run s).conv = s.conv := Act.setR_conv ..
@[simp] theorem Act.setBit_spare (f : Fld) (b : Nat) (i j k : Nat) (s : State) :
    ((Act.setBit f b i j k).run s).spare = s.spare := Act.setR_spare ..
@[simp] theorem Act.setBit_cal (f : Fld) (b : Nat) (i j k : Nat) (s : State) :
    ((Act.setBit f b i j k).run s).cal = s.cal := Act.setR_cal ..
@[simp] theorem Act.setBit_load (f : Fld) (b : Nat) (i j k : Nat) (s : State) :
    ((Act.setBit f b i j k).run s).load = s.load := Act.setR_load ..
@[simp] theorem Act.setBit_fab (f : Fld) (b : Nat) (i j k : Nat) (s : State) :
    ((Act.setBit f b i j k).run s).fab = s.fab := Act.setR_fab ..
@[simp] theorem Act.setBit_rel (f : Fld) (b : Nat) (i j k : Nat) (s : State) :
    ((Act.setBit f b i j k).run s).rel = s.rel := Act.setR_rel ..
@[simp] theorem Act.setBit_dma (f : Fld) (b : Nat) (i j k : Nat) (s : State) :
    ((Act.setBit f b i j k).run s).dma = s.dma := Act.setR_dma ..
@[simp] theorem Act.setBit_ring (f : Fld) (b : Nat) (i j k : Nat) (s : State) :
    ((Act.setBit f b i j k).run s).ring = s.ring := Act.setR_ring ..
@[simp] theorem Act.setBit_pcie (f : Fld) (b : Nat) (i j k : Nat) (s : State) :
    ((Act.setBit f b i j k).run s).pcie = s.pcie := Act.setR_pcie ..
@[simp] theorem Act.clrBit_pending (f : Fld) (b : Nat) (i j k : Nat) (s : State) :
    ((Act.clrBit f b i j k).run s).pending = s.pending := Act.setR_pending ..
@[simp] theorem Act.clrBit_mem (f : Fld) (b : Nat) (i j k : Nat) (s : State) :
    ((Act.clrBit f b i j k).run s).mem = s.mem := Act.setR_mem ..
@[simp] theorem Act.clrBit_latch (f : Fld) (b : Nat) (i j k : Nat) (s : State) :
    ((Act.clrBit f b i j k).run s).latch = s.latch := Act.setR_latch ..
@[simp] theorem Act.clrBit_clk (f : Fld) (b : Nat) (i j k : Nat) (s : State) :
    ((Act.clrBit f b i j k).run s).clk = s.clk := Act.setR_clk ..
@[simp] theorem Act.clrBit_time (f : Fld) (b : Nat) (i j k : Nat) (s : State) :
    ((Act.clrBit f b i j k).run s).time = s.time := Act.setR_time ..
@[simp] theorem Act.clrBit_seed (f : Fld) (b : Nat) (i j k : Nat) (s : State) :
    ((Act.clrBit f b i j k).run s).seed = s.seed := Act.setR_seed ..
@[simp] theorem Act.clrBit_resp (f : Fld) (b : Nat) (i j k : Nat) (s : State) :
    ((Act.clrBit f b i j k).run s).resp = s.resp := Act.setR_resp ..
@[simp] theorem Act.clrBit_tx (f : Fld) (b : Nat) (i j k : Nat) (s : State) :
    ((Act.clrBit f b i j k).run s).tx = s.tx := Act.setR_tx ..
@[simp] theorem Act.clrBit_pwr (f : Fld) (b : Nat) (i j k : Nat) (s : State) :
    ((Act.clrBit f b i j k).run s).pwr = s.pwr := Act.setR_pwr ..
@[simp] theorem Act.clrBit_log (f : Fld) (b : Nat) (i j k : Nat) (s : State) :
    ((Act.clrBit f b i j k).run s).log = s.log := Act.setR_log ..
@[simp] theorem Act.clrBit_harb (f : Fld) (b : Nat) (i j k : Nat) (s : State) :
    ((Act.clrBit f b i j k).run s).harb = s.harb := Act.setR_harb ..
@[simp] theorem Act.clrBit_pins (f : Fld) (b : Nat) (i j k : Nat) (s : State) :
    ((Act.clrBit f b i j k).run s).pins = s.pins := Act.setR_pins ..
@[simp] theorem Act.clrBit_cmps (f : Fld) (b : Nat) (i j k : Nat) (s : State) :
    ((Act.clrBit f b i j k).run s).cmps = s.cmps := Act.setR_cmps ..
@[simp] theorem Act.clrBit_outs (f : Fld) (b : Nat) (i j k : Nat) (s : State) :
    ((Act.clrBit f b i j k).run s).outs = s.outs := Act.setR_outs ..
@[simp] theorem Act.clrBit_dds (f : Fld) (b : Nat) (i j k : Nat) (s : State) :
    ((Act.clrBit f b i j k).run s).dds = s.dds := Act.setR_dds ..
@[simp] theorem Act.clrBit_mon (f : Fld) (b : Nat) (i j k : Nat) (s : State) :
    ((Act.clrBit f b i j k).run s).mon = s.mon := Act.setR_mon ..
@[simp] theorem Act.clrBit_pol (f : Fld) (b : Nat) (i j k : Nat) (s : State) :
    ((Act.clrBit f b i j k).run s).pol = s.pol := Act.setR_pol ..
@[simp] theorem Act.clrBit_pair (f : Fld) (b : Nat) (i j k : Nat) (s : State) :
    ((Act.clrBit f b i j k).run s).pair = s.pair := Act.setR_pair ..
@[simp] theorem Act.clrBit_flash (f : Fld) (b : Nat) (i j k : Nat) (s : State) :
    ((Act.clrBit f b i j k).run s).flash = s.flash := Act.setR_flash ..
@[simp] theorem Act.clrBit_eng (f : Fld) (b : Nat) (i j k : Nat) (s : State) :
    ((Act.clrBit f b i j k).run s).eng = s.eng := Act.setR_eng ..
@[simp] theorem Act.clrBit_lim (f : Fld) (b : Nat) (i j k : Nat) (s : State) :
    ((Act.clrBit f b i j k).run s).lim = s.lim := Act.setR_lim ..
@[simp] theorem Act.clrBit_sched (f : Fld) (b : Nat) (i j k : Nat) (s : State) :
    ((Act.clrBit f b i j k).run s).sched = s.sched := Act.setR_sched ..
@[simp] theorem Act.clrBit_trk (f : Fld) (b : Nat) (i j k : Nat) (s : State) :
    ((Act.clrBit f b i j k).run s).trk = s.trk := Act.setR_trk ..
@[simp] theorem Act.clrBit_tim (f : Fld) (b : Nat) (i j k : Nat) (s : State) :
    ((Act.clrBit f b i j k).run s).tim = s.tim := Act.setR_tim ..
@[simp] theorem Act.clrBit_cells (f : Fld) (b : Nat) (i j k : Nat) (s : State) :
    ((Act.clrBit f b i j k).run s).cells = s.cells := Act.setR_cells ..
@[simp] theorem Act.clrBit_ovl (f : Fld) (b : Nat) (i j k : Nat) (s : State) :
    ((Act.clrBit f b i j k).run s).ovl = s.ovl := Act.setR_ovl ..
@[simp] theorem Act.clrBit_refs (f : Fld) (b : Nat) (i j k : Nat) (s : State) :
    ((Act.clrBit f b i j k).run s).refs = s.refs := Act.setR_refs ..
@[simp] theorem Act.clrBit_conv (f : Fld) (b : Nat) (i j k : Nat) (s : State) :
    ((Act.clrBit f b i j k).run s).conv = s.conv := Act.setR_conv ..
@[simp] theorem Act.clrBit_spare (f : Fld) (b : Nat) (i j k : Nat) (s : State) :
    ((Act.clrBit f b i j k).run s).spare = s.spare := Act.setR_spare ..
@[simp] theorem Act.clrBit_cal (f : Fld) (b : Nat) (i j k : Nat) (s : State) :
    ((Act.clrBit f b i j k).run s).cal = s.cal := Act.setR_cal ..
@[simp] theorem Act.clrBit_load (f : Fld) (b : Nat) (i j k : Nat) (s : State) :
    ((Act.clrBit f b i j k).run s).load = s.load := Act.setR_load ..
@[simp] theorem Act.clrBit_fab (f : Fld) (b : Nat) (i j k : Nat) (s : State) :
    ((Act.clrBit f b i j k).run s).fab = s.fab := Act.setR_fab ..
@[simp] theorem Act.clrBit_rel (f : Fld) (b : Nat) (i j k : Nat) (s : State) :
    ((Act.clrBit f b i j k).run s).rel = s.rel := Act.setR_rel ..
@[simp] theorem Act.clrBit_dma (f : Fld) (b : Nat) (i j k : Nat) (s : State) :
    ((Act.clrBit f b i j k).run s).dma = s.dma := Act.setR_dma ..
@[simp] theorem Act.clrBit_ring (f : Fld) (b : Nat) (i j k : Nat) (s : State) :
    ((Act.clrBit f b i j k).run s).ring = s.ring := Act.setR_ring ..
@[simp] theorem Act.clrBit_pcie (f : Fld) (b : Nat) (i j k : Nat) (s : State) :
    ((Act.clrBit f b i j k).run s).pcie = s.pcie := Act.setR_pcie ..
@[simp] theorem Act.putBit_pending (f : Fld) (b : Nat) (v : Bool) (i j k : Nat) (s : State) :
    ((Act.putBit f b v i j k).run s).pending = s.pending := by
  unfold Act.putBit; split <;> simp
@[simp] theorem Act.putBit_mem (f : Fld) (b : Nat) (v : Bool) (i j k : Nat) (s : State) :
    ((Act.putBit f b v i j k).run s).mem = s.mem := by
  unfold Act.putBit; split <;> simp
@[simp] theorem Act.putBit_latch (f : Fld) (b : Nat) (v : Bool) (i j k : Nat) (s : State) :
    ((Act.putBit f b v i j k).run s).latch = s.latch := by
  unfold Act.putBit; split <;> simp
@[simp] theorem Act.putBit_clk (f : Fld) (b : Nat) (v : Bool) (i j k : Nat) (s : State) :
    ((Act.putBit f b v i j k).run s).clk = s.clk := by
  unfold Act.putBit; split <;> simp
@[simp] theorem Act.putBit_time (f : Fld) (b : Nat) (v : Bool) (i j k : Nat) (s : State) :
    ((Act.putBit f b v i j k).run s).time = s.time := by
  unfold Act.putBit; split <;> simp
@[simp] theorem Act.putBit_seed (f : Fld) (b : Nat) (v : Bool) (i j k : Nat) (s : State) :
    ((Act.putBit f b v i j k).run s).seed = s.seed := by
  unfold Act.putBit; split <;> simp
@[simp] theorem Act.putBit_resp (f : Fld) (b : Nat) (v : Bool) (i j k : Nat) (s : State) :
    ((Act.putBit f b v i j k).run s).resp = s.resp := by
  unfold Act.putBit; split <;> simp
@[simp] theorem Act.putBit_tx (f : Fld) (b : Nat) (v : Bool) (i j k : Nat) (s : State) :
    ((Act.putBit f b v i j k).run s).tx = s.tx := by
  unfold Act.putBit; split <;> simp
@[simp] theorem Act.putBit_pwr (f : Fld) (b : Nat) (v : Bool) (i j k : Nat) (s : State) :
    ((Act.putBit f b v i j k).run s).pwr = s.pwr := by
  unfold Act.putBit; split <;> simp
@[simp] theorem Act.putBit_log (f : Fld) (b : Nat) (v : Bool) (i j k : Nat) (s : State) :
    ((Act.putBit f b v i j k).run s).log = s.log := by
  unfold Act.putBit; split <;> simp
@[simp] theorem Act.putBit_harb (f : Fld) (b : Nat) (v : Bool) (i j k : Nat) (s : State) :
    ((Act.putBit f b v i j k).run s).harb = s.harb := by
  unfold Act.putBit; split <;> simp
@[simp] theorem Act.putBit_pins (f : Fld) (b : Nat) (v : Bool) (i j k : Nat) (s : State) :
    ((Act.putBit f b v i j k).run s).pins = s.pins := by
  unfold Act.putBit; split <;> simp
@[simp] theorem Act.putBit_cmps (f : Fld) (b : Nat) (v : Bool) (i j k : Nat) (s : State) :
    ((Act.putBit f b v i j k).run s).cmps = s.cmps := by
  unfold Act.putBit; split <;> simp
@[simp] theorem Act.putBit_outs (f : Fld) (b : Nat) (v : Bool) (i j k : Nat) (s : State) :
    ((Act.putBit f b v i j k).run s).outs = s.outs := by
  unfold Act.putBit; split <;> simp
@[simp] theorem Act.putBit_dds (f : Fld) (b : Nat) (v : Bool) (i j k : Nat) (s : State) :
    ((Act.putBit f b v i j k).run s).dds = s.dds := by
  unfold Act.putBit; split <;> simp
@[simp] theorem Act.putBit_mon (f : Fld) (b : Nat) (v : Bool) (i j k : Nat) (s : State) :
    ((Act.putBit f b v i j k).run s).mon = s.mon := by
  unfold Act.putBit; split <;> simp
@[simp] theorem Act.putBit_pol (f : Fld) (b : Nat) (v : Bool) (i j k : Nat) (s : State) :
    ((Act.putBit f b v i j k).run s).pol = s.pol := by
  unfold Act.putBit; split <;> simp
@[simp] theorem Act.putBit_pair (f : Fld) (b : Nat) (v : Bool) (i j k : Nat) (s : State) :
    ((Act.putBit f b v i j k).run s).pair = s.pair := by
  unfold Act.putBit; split <;> simp
@[simp] theorem Act.putBit_flash (f : Fld) (b : Nat) (v : Bool) (i j k : Nat) (s : State) :
    ((Act.putBit f b v i j k).run s).flash = s.flash := by
  unfold Act.putBit; split <;> simp
@[simp] theorem Act.putBit_eng (f : Fld) (b : Nat) (v : Bool) (i j k : Nat) (s : State) :
    ((Act.putBit f b v i j k).run s).eng = s.eng := by
  unfold Act.putBit; split <;> simp
@[simp] theorem Act.putBit_lim (f : Fld) (b : Nat) (v : Bool) (i j k : Nat) (s : State) :
    ((Act.putBit f b v i j k).run s).lim = s.lim := by
  unfold Act.putBit; split <;> simp
@[simp] theorem Act.putBit_sched (f : Fld) (b : Nat) (v : Bool) (i j k : Nat) (s : State) :
    ((Act.putBit f b v i j k).run s).sched = s.sched := by
  unfold Act.putBit; split <;> simp
@[simp] theorem Act.putBit_trk (f : Fld) (b : Nat) (v : Bool) (i j k : Nat) (s : State) :
    ((Act.putBit f b v i j k).run s).trk = s.trk := by
  unfold Act.putBit; split <;> simp
@[simp] theorem Act.putBit_tim (f : Fld) (b : Nat) (v : Bool) (i j k : Nat) (s : State) :
    ((Act.putBit f b v i j k).run s).tim = s.tim := by
  unfold Act.putBit; split <;> simp
@[simp] theorem Act.putBit_cells (f : Fld) (b : Nat) (v : Bool) (i j k : Nat) (s : State) :
    ((Act.putBit f b v i j k).run s).cells = s.cells := by
  unfold Act.putBit; split <;> simp
@[simp] theorem Act.putBit_ovl (f : Fld) (b : Nat) (v : Bool) (i j k : Nat) (s : State) :
    ((Act.putBit f b v i j k).run s).ovl = s.ovl := by
  unfold Act.putBit; split <;> simp
@[simp] theorem Act.putBit_refs (f : Fld) (b : Nat) (v : Bool) (i j k : Nat) (s : State) :
    ((Act.putBit f b v i j k).run s).refs = s.refs := by
  unfold Act.putBit; split <;> simp
@[simp] theorem Act.putBit_conv (f : Fld) (b : Nat) (v : Bool) (i j k : Nat) (s : State) :
    ((Act.putBit f b v i j k).run s).conv = s.conv := by
  unfold Act.putBit; split <;> simp
@[simp] theorem Act.putBit_spare (f : Fld) (b : Nat) (v : Bool) (i j k : Nat) (s : State) :
    ((Act.putBit f b v i j k).run s).spare = s.spare := by
  unfold Act.putBit; split <;> simp
@[simp] theorem Act.putBit_cal (f : Fld) (b : Nat) (v : Bool) (i j k : Nat) (s : State) :
    ((Act.putBit f b v i j k).run s).cal = s.cal := by
  unfold Act.putBit; split <;> simp
@[simp] theorem Act.putBit_load (f : Fld) (b : Nat) (v : Bool) (i j k : Nat) (s : State) :
    ((Act.putBit f b v i j k).run s).load = s.load := by
  unfold Act.putBit; split <;> simp
@[simp] theorem Act.putBit_fab (f : Fld) (b : Nat) (v : Bool) (i j k : Nat) (s : State) :
    ((Act.putBit f b v i j k).run s).fab = s.fab := by
  unfold Act.putBit; split <;> simp
@[simp] theorem Act.putBit_rel (f : Fld) (b : Nat) (v : Bool) (i j k : Nat) (s : State) :
    ((Act.putBit f b v i j k).run s).rel = s.rel := by
  unfold Act.putBit; split <;> simp
@[simp] theorem Act.putBit_dma (f : Fld) (b : Nat) (v : Bool) (i j k : Nat) (s : State) :
    ((Act.putBit f b v i j k).run s).dma = s.dma := by
  unfold Act.putBit; split <;> simp
@[simp] theorem Act.putBit_ring (f : Fld) (b : Nat) (v : Bool) (i j k : Nat) (s : State) :
    ((Act.putBit f b v i j k).run s).ring = s.ring := by
  unfold Act.putBit; split <;> simp
@[simp] theorem Act.putBit_pcie (f : Fld) (b : Nat) (v : Bool) (i j k : Nat) (s : State) :
    ((Act.putBit f b v i j k).run s).pcie = s.pcie := by
  unfold Act.putBit; split <;> simp
@[simp] theorem Act.setByte_pending (a : Nat) (v : Byte) (s : State) : ((Act.setByte a v).run s).pending = s.pending := by
  unfold Act.setByte; dsimp only; split <;> rfl
@[simp] theorem Act.setByte_regs (a : Nat) (v : Byte) (s : State) : ((Act.setByte a v).run s).regs = s.regs := by
  unfold Act.setByte; dsimp only; split <;> rfl
@[simp] theorem Act.setByte_latch (a : Nat) (v : Byte) (s : State) : ((Act.setByte a v).run s).latch = s.latch := by
  unfold Act.setByte; dsimp only; split <;> rfl
@[simp] theorem Act.setByte_clk (a : Nat) (v : Byte) (s : State) : ((Act.setByte a v).run s).clk = s.clk := by
  unfold Act.setByte; dsimp only; split <;> rfl
@[simp] theorem Act.setByte_time (a : Nat) (v : Byte) (s : State) : ((Act.setByte a v).run s).time = s.time := by
  unfold Act.setByte; dsimp only; split <;> rfl
@[simp] theorem Act.setByte_seed (a : Nat) (v : Byte) (s : State) : ((Act.setByte a v).run s).seed = s.seed := by
  unfold Act.setByte; dsimp only; split <;> rfl
@[simp] theorem Act.setByte_resp (a : Nat) (v : Byte) (s : State) : ((Act.setByte a v).run s).resp = s.resp := by
  unfold Act.setByte; dsimp only; split <;> rfl
@[simp] theorem Act.setByte_tx (a : Nat) (v : Byte) (s : State) : ((Act.setByte a v).run s).tx = s.tx := by
  unfold Act.setByte; dsimp only; split <;> rfl
@[simp] theorem Act.setByte_pwr (a : Nat) (v : Byte) (s : State) : ((Act.setByte a v).run s).pwr = s.pwr := by
  unfold Act.setByte; dsimp only; split <;> rfl
@[simp] theorem Act.setByte_log (a : Nat) (v : Byte) (s : State) : ((Act.setByte a v).run s).log = s.log := by
  unfold Act.setByte; dsimp only; split <;> rfl
@[simp] theorem Act.setByte_harb (a : Nat) (v : Byte) (s : State) : ((Act.setByte a v).run s).harb = s.harb := by
  unfold Act.setByte; dsimp only; split <;> rfl
@[simp] theorem Act.setByte_pins (a : Nat) (v : Byte) (s : State) : ((Act.setByte a v).run s).pins = s.pins := by
  unfold Act.setByte; dsimp only; split <;> rfl
@[simp] theorem Act.setByte_cmps (a : Nat) (v : Byte) (s : State) : ((Act.setByte a v).run s).cmps = s.cmps := by
  unfold Act.setByte; dsimp only; split <;> rfl
@[simp] theorem Act.setByte_outs (a : Nat) (v : Byte) (s : State) : ((Act.setByte a v).run s).outs = s.outs := by
  unfold Act.setByte; dsimp only; split <;> rfl
@[simp] theorem Act.setByte_dds (a : Nat) (v : Byte) (s : State) : ((Act.setByte a v).run s).dds = s.dds := by
  unfold Act.setByte; dsimp only; split <;> rfl
@[simp] theorem Act.setByte_mon (a : Nat) (v : Byte) (s : State) : ((Act.setByte a v).run s).mon = s.mon := by
  unfold Act.setByte; dsimp only; split <;> rfl
@[simp] theorem Act.setByte_pol (a : Nat) (v : Byte) (s : State) : ((Act.setByte a v).run s).pol = s.pol := by
  unfold Act.setByte; dsimp only; split <;> rfl
@[simp] theorem Act.setByte_pair (a : Nat) (v : Byte) (s : State) : ((Act.setByte a v).run s).pair = s.pair := by
  unfold Act.setByte; dsimp only; split <;> rfl
@[simp] theorem Act.setByte_flash (a : Nat) (v : Byte) (s : State) : ((Act.setByte a v).run s).flash = s.flash := by
  unfold Act.setByte; dsimp only; split <;> rfl
@[simp] theorem Act.setByte_eng (a : Nat) (v : Byte) (s : State) : ((Act.setByte a v).run s).eng = s.eng := by
  unfold Act.setByte; dsimp only; split <;> rfl
@[simp] theorem Act.setByte_lim (a : Nat) (v : Byte) (s : State) : ((Act.setByte a v).run s).lim = s.lim := by
  unfold Act.setByte; dsimp only; split <;> rfl
@[simp] theorem Act.setByte_sched (a : Nat) (v : Byte) (s : State) : ((Act.setByte a v).run s).sched = s.sched := by
  unfold Act.setByte; dsimp only; split <;> rfl
@[simp] theorem Act.setByte_trk (a : Nat) (v : Byte) (s : State) : ((Act.setByte a v).run s).trk = s.trk := by
  unfold Act.setByte; dsimp only; split <;> rfl
@[simp] theorem Act.setByte_tim (a : Nat) (v : Byte) (s : State) : ((Act.setByte a v).run s).tim = s.tim := by
  unfold Act.setByte; dsimp only; split <;> rfl
@[simp] theorem Act.setByte_cells (a : Nat) (v : Byte) (s : State) : ((Act.setByte a v).run s).cells = s.cells := by
  unfold Act.setByte; dsimp only; split <;> rfl
@[simp] theorem Act.setByte_ovl (a : Nat) (v : Byte) (s : State) : ((Act.setByte a v).run s).ovl = s.ovl := by
  unfold Act.setByte; dsimp only; split <;> rfl
@[simp] theorem Act.setByte_refs (a : Nat) (v : Byte) (s : State) : ((Act.setByte a v).run s).refs = s.refs := by
  unfold Act.setByte; dsimp only; split <;> rfl
@[simp] theorem Act.setByte_conv (a : Nat) (v : Byte) (s : State) : ((Act.setByte a v).run s).conv = s.conv := by
  unfold Act.setByte; dsimp only; split <;> rfl
@[simp] theorem Act.setByte_spare (a : Nat) (v : Byte) (s : State) : ((Act.setByte a v).run s).spare = s.spare := by
  unfold Act.setByte; dsimp only; split <;> rfl
@[simp] theorem Act.setByte_cal (a : Nat) (v : Byte) (s : State) : ((Act.setByte a v).run s).cal = s.cal := by
  unfold Act.setByte; dsimp only; split <;> rfl
@[simp] theorem Act.setByte_load (a : Nat) (v : Byte) (s : State) : ((Act.setByte a v).run s).load = s.load := by
  unfold Act.setByte; dsimp only; split <;> rfl
@[simp] theorem Act.setByte_fab (a : Nat) (v : Byte) (s : State) : ((Act.setByte a v).run s).fab = s.fab := by
  unfold Act.setByte; dsimp only; split <;> rfl
@[simp] theorem Act.setByte_rel (a : Nat) (v : Byte) (s : State) : ((Act.setByte a v).run s).rel = s.rel := by
  unfold Act.setByte; dsimp only; split <;> rfl
@[simp] theorem Act.setByte_dma (a : Nat) (v : Byte) (s : State) : ((Act.setByte a v).run s).dma = s.dma := by
  unfold Act.setByte; dsimp only; split <;> rfl
@[simp] theorem Act.setByte_ring (a : Nat) (v : Byte) (s : State) : ((Act.setByte a v).run s).ring = s.ring := by
  unfold Act.setByte; dsimp only; split <;> rfl
@[simp] theorem Act.setByte_pcie (a : Nat) (v : Byte) (s : State) : ((Act.setByte a v).run s).pcie = s.pcie := by
  unfold Act.setByte; dsimp only; split <;> rfl
@[simp] theorem Act.setBytes_pending (n a v : Nat) (s : State) : ((Act.setBytes a v n).run s).pending = s.pending := by
  induction n generalizing a v s with
  | zero => rfl
  | succ n ih => simp [Act.setBytes, ih]
@[simp] theorem Act.setBytes_regs (n a v : Nat) (s : State) : ((Act.setBytes a v n).run s).regs = s.regs := by
  induction n generalizing a v s with
  | zero => rfl
  | succ n ih => simp [Act.setBytes, ih]
@[simp] theorem Act.setBytes_latch (n a v : Nat) (s : State) : ((Act.setBytes a v n).run s).latch = s.latch := by
  induction n generalizing a v s with
  | zero => rfl
  | succ n ih => simp [Act.setBytes, ih]
@[simp] theorem Act.setBytes_clk (n a v : Nat) (s : State) : ((Act.setBytes a v n).run s).clk = s.clk := by
  induction n generalizing a v s with
  | zero => rfl
  | succ n ih => simp [Act.setBytes, ih]
@[simp] theorem Act.setBytes_time (n a v : Nat) (s : State) : ((Act.setBytes a v n).run s).time = s.time := by
  induction n generalizing a v s with
  | zero => rfl
  | succ n ih => simp [Act.setBytes, ih]
@[simp] theorem Act.setBytes_seed (n a v : Nat) (s : State) : ((Act.setBytes a v n).run s).seed = s.seed := by
  induction n generalizing a v s with
  | zero => rfl
  | succ n ih => simp [Act.setBytes, ih]
@[simp] theorem Act.setBytes_resp (n a v : Nat) (s : State) : ((Act.setBytes a v n).run s).resp = s.resp := by
  induction n generalizing a v s with
  | zero => rfl
  | succ n ih => simp [Act.setBytes, ih]
@[simp] theorem Act.setBytes_tx (n a v : Nat) (s : State) : ((Act.setBytes a v n).run s).tx = s.tx := by
  induction n generalizing a v s with
  | zero => rfl
  | succ n ih => simp [Act.setBytes, ih]
@[simp] theorem Act.setBytes_pwr (n a v : Nat) (s : State) : ((Act.setBytes a v n).run s).pwr = s.pwr := by
  induction n generalizing a v s with
  | zero => rfl
  | succ n ih => simp [Act.setBytes, ih]
@[simp] theorem Act.setBytes_log (n a v : Nat) (s : State) : ((Act.setBytes a v n).run s).log = s.log := by
  induction n generalizing a v s with
  | zero => rfl
  | succ n ih => simp [Act.setBytes, ih]
@[simp] theorem Act.setBytes_harb (n a v : Nat) (s : State) : ((Act.setBytes a v n).run s).harb = s.harb := by
  induction n generalizing a v s with
  | zero => rfl
  | succ n ih => simp [Act.setBytes, ih]
@[simp] theorem Act.setBytes_pins (n a v : Nat) (s : State) : ((Act.setBytes a v n).run s).pins = s.pins := by
  induction n generalizing a v s with
  | zero => rfl
  | succ n ih => simp [Act.setBytes, ih]
@[simp] theorem Act.setBytes_cmps (n a v : Nat) (s : State) : ((Act.setBytes a v n).run s).cmps = s.cmps := by
  induction n generalizing a v s with
  | zero => rfl
  | succ n ih => simp [Act.setBytes, ih]
@[simp] theorem Act.setBytes_outs (n a v : Nat) (s : State) : ((Act.setBytes a v n).run s).outs = s.outs := by
  induction n generalizing a v s with
  | zero => rfl
  | succ n ih => simp [Act.setBytes, ih]
@[simp] theorem Act.setBytes_dds (n a v : Nat) (s : State) : ((Act.setBytes a v n).run s).dds = s.dds := by
  induction n generalizing a v s with
  | zero => rfl
  | succ n ih => simp [Act.setBytes, ih]
@[simp] theorem Act.setBytes_mon (n a v : Nat) (s : State) : ((Act.setBytes a v n).run s).mon = s.mon := by
  induction n generalizing a v s with
  | zero => rfl
  | succ n ih => simp [Act.setBytes, ih]
@[simp] theorem Act.setBytes_pol (n a v : Nat) (s : State) : ((Act.setBytes a v n).run s).pol = s.pol := by
  induction n generalizing a v s with
  | zero => rfl
  | succ n ih => simp [Act.setBytes, ih]
@[simp] theorem Act.setBytes_pair (n a v : Nat) (s : State) : ((Act.setBytes a v n).run s).pair = s.pair := by
  induction n generalizing a v s with
  | zero => rfl
  | succ n ih => simp [Act.setBytes, ih]
@[simp] theorem Act.setBytes_flash (n a v : Nat) (s : State) : ((Act.setBytes a v n).run s).flash = s.flash := by
  induction n generalizing a v s with
  | zero => rfl
  | succ n ih => simp [Act.setBytes, ih]
@[simp] theorem Act.setBytes_eng (n a v : Nat) (s : State) : ((Act.setBytes a v n).run s).eng = s.eng := by
  induction n generalizing a v s with
  | zero => rfl
  | succ n ih => simp [Act.setBytes, ih]
@[simp] theorem Act.setBytes_lim (n a v : Nat) (s : State) : ((Act.setBytes a v n).run s).lim = s.lim := by
  induction n generalizing a v s with
  | zero => rfl
  | succ n ih => simp [Act.setBytes, ih]
@[simp] theorem Act.setBytes_sched (n a v : Nat) (s : State) : ((Act.setBytes a v n).run s).sched = s.sched := by
  induction n generalizing a v s with
  | zero => rfl
  | succ n ih => simp [Act.setBytes, ih]
@[simp] theorem Act.setBytes_trk (n a v : Nat) (s : State) : ((Act.setBytes a v n).run s).trk = s.trk := by
  induction n generalizing a v s with
  | zero => rfl
  | succ n ih => simp [Act.setBytes, ih]
@[simp] theorem Act.setBytes_tim (n a v : Nat) (s : State) : ((Act.setBytes a v n).run s).tim = s.tim := by
  induction n generalizing a v s with
  | zero => rfl
  | succ n ih => simp [Act.setBytes, ih]
@[simp] theorem Act.setBytes_cells (n a v : Nat) (s : State) : ((Act.setBytes a v n).run s).cells = s.cells := by
  induction n generalizing a v s with
  | zero => rfl
  | succ n ih => simp [Act.setBytes, ih]
@[simp] theorem Act.setBytes_ovl (n a v : Nat) (s : State) : ((Act.setBytes a v n).run s).ovl = s.ovl := by
  induction n generalizing a v s with
  | zero => rfl
  | succ n ih => simp [Act.setBytes, ih]
@[simp] theorem Act.setBytes_refs (n a v : Nat) (s : State) : ((Act.setBytes a v n).run s).refs = s.refs := by
  induction n generalizing a v s with
  | zero => rfl
  | succ n ih => simp [Act.setBytes, ih]
@[simp] theorem Act.setBytes_conv (n a v : Nat) (s : State) : ((Act.setBytes a v n).run s).conv = s.conv := by
  induction n generalizing a v s with
  | zero => rfl
  | succ n ih => simp [Act.setBytes, ih]
@[simp] theorem Act.setBytes_spare (n a v : Nat) (s : State) : ((Act.setBytes a v n).run s).spare = s.spare := by
  induction n generalizing a v s with
  | zero => rfl
  | succ n ih => simp [Act.setBytes, ih]
@[simp] theorem Act.setBytes_cal (n a v : Nat) (s : State) : ((Act.setBytes a v n).run s).cal = s.cal := by
  induction n generalizing a v s with
  | zero => rfl
  | succ n ih => simp [Act.setBytes, ih]
@[simp] theorem Act.setBytes_load (n a v : Nat) (s : State) : ((Act.setBytes a v n).run s).load = s.load := by
  induction n generalizing a v s with
  | zero => rfl
  | succ n ih => simp [Act.setBytes, ih]
@[simp] theorem Act.setBytes_fab (n a v : Nat) (s : State) : ((Act.setBytes a v n).run s).fab = s.fab := by
  induction n generalizing a v s with
  | zero => rfl
  | succ n ih => simp [Act.setBytes, ih]
@[simp] theorem Act.setBytes_rel (n a v : Nat) (s : State) : ((Act.setBytes a v n).run s).rel = s.rel := by
  induction n generalizing a v s with
  | zero => rfl
  | succ n ih => simp [Act.setBytes, ih]
@[simp] theorem Act.setBytes_dma (n a v : Nat) (s : State) : ((Act.setBytes a v n).run s).dma = s.dma := by
  induction n generalizing a v s with
  | zero => rfl
  | succ n ih => simp [Act.setBytes, ih]
@[simp] theorem Act.setBytes_ring (n a v : Nat) (s : State) : ((Act.setBytes a v n).run s).ring = s.ring := by
  induction n generalizing a v s with
  | zero => rfl
  | succ n ih => simp [Act.setBytes, ih]
@[simp] theorem Act.setBytes_pcie (n a v : Nat) (s : State) : ((Act.setBytes a v n).run s).pcie = s.pcie := by
  induction n generalizing a v s with
  | zero => rfl
  | succ n ih => simp [Act.setBytes, ih]
theorem Act.answer_run (x : Resp) (s : State) : (Act.answer x).run s = { s with resp := x } := rfl
@[simp] theorem Act.answer_resp (x : Resp) (s : State) : ((Act.answer x).run s).resp = ({ s with resp := x } : State).resp := rfl
@[simp] theorem Act.answer_regs (x : Resp) (s : State) : ((Act.answer x).run s).regs = s.regs := rfl
@[simp] theorem Act.answer_pwr (x : Resp) (s : State) : ((Act.answer x).run s).pwr = s.pwr := rfl
@[simp] theorem Act.answer_clk (x : Resp) (s : State) : ((Act.answer x).run s).clk = s.clk := rfl
@[simp] theorem Act.answer_time (x : Resp) (s : State) : ((Act.answer x).run s).time = s.time := rfl
@[simp] theorem Act.answer_harb (x : Resp) (s : State) : ((Act.answer x).run s).harb = s.harb := rfl
@[simp] theorem Act.answer_mem (x : Resp) (s : State) : ((Act.answer x).run s).mem = s.mem := rfl
@[simp] theorem Act.answer_log (x : Resp) (s : State) : ((Act.answer x).run s).log = s.log := rfl
@[simp] theorem Act.answer_tx (x : Resp) (s : State) : ((Act.answer x).run s).tx = s.tx := rfl
@[simp] theorem Act.answer_seed (x : Resp) (s : State) : ((Act.answer x).run s).seed = s.seed := rfl
@[simp] theorem Act.answer_r (x : Resp) (s : State) (n : RegName) (i' j' k' : Nat) : ((Act.answer x).run s).r n i' j' k' = s.r n i' j' k' := rfl
@[simp] theorem Act.answer_f (x : Resp) (s : State) (n : Fld) (i' j' k' : Nat) : ((Act.answer x).run s).f n i' j' k' = s.f n i' j' k' := rfl
theorem Act.send_run (x : Tx) (s : State) : (Act.send x).run s = { s with tx := s.tx ++ [x] } := rfl
@[simp] theorem Act.send_tx (x : Tx) (s : State) : ((Act.send x).run s).tx = ({ s with tx := s.tx ++ [x] } : State).tx := rfl
@[simp] theorem Act.send_regs (x : Tx) (s : State) : ((Act.send x).run s).regs = s.regs := rfl
@[simp] theorem Act.send_pwr (x : Tx) (s : State) : ((Act.send x).run s).pwr = s.pwr := rfl
@[simp] theorem Act.send_clk (x : Tx) (s : State) : ((Act.send x).run s).clk = s.clk := rfl
@[simp] theorem Act.send_time (x : Tx) (s : State) : ((Act.send x).run s).time = s.time := rfl
@[simp] theorem Act.send_harb (x : Tx) (s : State) : ((Act.send x).run s).harb = s.harb := rfl
@[simp] theorem Act.send_mem (x : Tx) (s : State) : ((Act.send x).run s).mem = s.mem := rfl
@[simp] theorem Act.send_resp (x : Tx) (s : State) : ((Act.send x).run s).resp = s.resp := rfl
@[simp] theorem Act.send_log (x : Tx) (s : State) : ((Act.send x).run s).log = s.log := rfl
@[simp] theorem Act.send_seed (x : Tx) (s : State) : ((Act.send x).run s).seed = s.seed := rfl
@[simp] theorem Act.send_r (x : Tx) (s : State) (n : RegName) (i' j' k' : Nat) : ((Act.send x).run s).r n i' j' k' = s.r n i' j' k' := rfl
@[simp] theorem Act.send_f (x : Tx) (s : State) (n : Fld) (i' j' k' : Nat) : ((Act.send x).run s).f n i' j' k' = s.f n i' j' k' := rfl
theorem Act.setPwr_run (x : PwrSt → PwrSt) (s : State) : (Act.setPwr x).run s = { s with pwr := x s.pwr } := rfl
@[simp] theorem Act.setPwr_pwr (x : PwrSt → PwrSt) (s : State) : ((Act.setPwr x).run s).pwr = ({ s with pwr := x s.pwr } : State).pwr := rfl
@[simp] theorem Act.setPwr_regs (x : PwrSt → PwrSt) (s : State) : ((Act.setPwr x).run s).regs = s.regs := rfl
@[simp] theorem Act.setPwr_clk (x : PwrSt → PwrSt) (s : State) : ((Act.setPwr x).run s).clk = s.clk := rfl
@[simp] theorem Act.setPwr_time (x : PwrSt → PwrSt) (s : State) : ((Act.setPwr x).run s).time = s.time := rfl
@[simp] theorem Act.setPwr_harb (x : PwrSt → PwrSt) (s : State) : ((Act.setPwr x).run s).harb = s.harb := rfl
@[simp] theorem Act.setPwr_mem (x : PwrSt → PwrSt) (s : State) : ((Act.setPwr x).run s).mem = s.mem := rfl
@[simp] theorem Act.setPwr_resp (x : PwrSt → PwrSt) (s : State) : ((Act.setPwr x).run s).resp = s.resp := rfl
@[simp] theorem Act.setPwr_log (x : PwrSt → PwrSt) (s : State) : ((Act.setPwr x).run s).log = s.log := rfl
@[simp] theorem Act.setPwr_tx (x : PwrSt → PwrSt) (s : State) : ((Act.setPwr x).run s).tx = s.tx := rfl
@[simp] theorem Act.setPwr_seed (x : PwrSt → PwrSt) (s : State) : ((Act.setPwr x).run s).seed = s.seed := rfl
@[simp] theorem Act.setPwr_r (x : PwrSt → PwrSt) (s : State) (n : RegName) (i' j' k' : Nat) : ((Act.setPwr x).run s).r n i' j' k' = s.r n i' j' k' := rfl
@[simp] theorem Act.setPwr_f (x : PwrSt → PwrSt) (s : State) (n : Fld) (i' j' k' : Nat) : ((Act.setPwr x).run s).f n i' j' k' = s.f n i' j' k' := rfl
theorem Act.setFlash_run (x : FlashSt → FlashSt) (s : State) : (Act.setFlash x).run s = { s with flash := x s.flash } := rfl
@[simp] theorem Act.setFlash_flash (x : FlashSt → FlashSt) (s : State) : ((Act.setFlash x).run s).flash = ({ s with flash := x s.flash } : State).flash := rfl
@[simp] theorem Act.setFlash_regs (x : FlashSt → FlashSt) (s : State) : ((Act.setFlash x).run s).regs = s.regs := rfl
@[simp] theorem Act.setFlash_pwr (x : FlashSt → FlashSt) (s : State) : ((Act.setFlash x).run s).pwr = s.pwr := rfl
@[simp] theorem Act.setFlash_clk (x : FlashSt → FlashSt) (s : State) : ((Act.setFlash x).run s).clk = s.clk := rfl
@[simp] theorem Act.setFlash_time (x : FlashSt → FlashSt) (s : State) : ((Act.setFlash x).run s).time = s.time := rfl
@[simp] theorem Act.setFlash_harb (x : FlashSt → FlashSt) (s : State) : ((Act.setFlash x).run s).harb = s.harb := rfl
@[simp] theorem Act.setFlash_mem (x : FlashSt → FlashSt) (s : State) : ((Act.setFlash x).run s).mem = s.mem := rfl
@[simp] theorem Act.setFlash_resp (x : FlashSt → FlashSt) (s : State) : ((Act.setFlash x).run s).resp = s.resp := rfl
@[simp] theorem Act.setFlash_log (x : FlashSt → FlashSt) (s : State) : ((Act.setFlash x).run s).log = s.log := rfl
@[simp] theorem Act.setFlash_tx (x : FlashSt → FlashSt) (s : State) : ((Act.setFlash x).run s).tx = s.tx := rfl
@[simp] theorem Act.setFlash_seed (x : FlashSt → FlashSt) (s : State) : ((Act.setFlash x).run s).seed = s.seed := rfl
@[simp] theorem Act.setFlash_r (x : FlashSt → FlashSt) (s : State) (n : RegName) (i' j' k' : Nat) : ((Act.setFlash x).run s).r n i' j' k' = s.r n i' j' k' := rfl
@[simp] theorem Act.setFlash_f (x : FlashSt → FlashSt) (s : State) (n : Fld) (i' j' k' : Nat) : ((Act.setFlash x).run s).f n i' j' k' = s.f n i' j' k' := rfl
theorem Act.setFab_run (x : FabSt → FabSt) (s : State) : (Act.setFab x).run s = { s with fab := x s.fab } := rfl
@[simp] theorem Act.setFab_fab (x : FabSt → FabSt) (s : State) : ((Act.setFab x).run s).fab = ({ s with fab := x s.fab } : State).fab := rfl
@[simp] theorem Act.setFab_regs (x : FabSt → FabSt) (s : State) : ((Act.setFab x).run s).regs = s.regs := rfl
@[simp] theorem Act.setFab_pwr (x : FabSt → FabSt) (s : State) : ((Act.setFab x).run s).pwr = s.pwr := rfl
@[simp] theorem Act.setFab_clk (x : FabSt → FabSt) (s : State) : ((Act.setFab x).run s).clk = s.clk := rfl
@[simp] theorem Act.setFab_time (x : FabSt → FabSt) (s : State) : ((Act.setFab x).run s).time = s.time := rfl
@[simp] theorem Act.setFab_harb (x : FabSt → FabSt) (s : State) : ((Act.setFab x).run s).harb = s.harb := rfl
@[simp] theorem Act.setFab_mem (x : FabSt → FabSt) (s : State) : ((Act.setFab x).run s).mem = s.mem := rfl
@[simp] theorem Act.setFab_resp (x : FabSt → FabSt) (s : State) : ((Act.setFab x).run s).resp = s.resp := rfl
@[simp] theorem Act.setFab_log (x : FabSt → FabSt) (s : State) : ((Act.setFab x).run s).log = s.log := rfl
@[simp] theorem Act.setFab_tx (x : FabSt → FabSt) (s : State) : ((Act.setFab x).run s).tx = s.tx := rfl
@[simp] theorem Act.setFab_seed (x : FabSt → FabSt) (s : State) : ((Act.setFab x).run s).seed = s.seed := rfl
@[simp] theorem Act.setFab_r (x : FabSt → FabSt) (s : State) (n : RegName) (i' j' k' : Nat) : ((Act.setFab x).run s).r n i' j' k' = s.r n i' j' k' := rfl
@[simp] theorem Act.setFab_f (x : FabSt → FabSt) (s : State) (n : Fld) (i' j' k' : Nat) : ((Act.setFab x).run s).f n i' j' k' = s.f n i' j' k' := rfl
theorem Act.setRing_run (x : RingSt → RingSt) (s : State) : (Act.setRing x).run s = { s with ring := x s.ring } := rfl
@[simp] theorem Act.setRing_ring (x : RingSt → RingSt) (s : State) : ((Act.setRing x).run s).ring = ({ s with ring := x s.ring } : State).ring := rfl
@[simp] theorem Act.setRing_regs (x : RingSt → RingSt) (s : State) : ((Act.setRing x).run s).regs = s.regs := rfl
@[simp] theorem Act.setRing_pwr (x : RingSt → RingSt) (s : State) : ((Act.setRing x).run s).pwr = s.pwr := rfl
@[simp] theorem Act.setRing_clk (x : RingSt → RingSt) (s : State) : ((Act.setRing x).run s).clk = s.clk := rfl
@[simp] theorem Act.setRing_time (x : RingSt → RingSt) (s : State) : ((Act.setRing x).run s).time = s.time := rfl
@[simp] theorem Act.setRing_harb (x : RingSt → RingSt) (s : State) : ((Act.setRing x).run s).harb = s.harb := rfl
@[simp] theorem Act.setRing_mem (x : RingSt → RingSt) (s : State) : ((Act.setRing x).run s).mem = s.mem := rfl
@[simp] theorem Act.setRing_resp (x : RingSt → RingSt) (s : State) : ((Act.setRing x).run s).resp = s.resp := rfl
@[simp] theorem Act.setRing_log (x : RingSt → RingSt) (s : State) : ((Act.setRing x).run s).log = s.log := rfl
@[simp] theorem Act.setRing_tx (x : RingSt → RingSt) (s : State) : ((Act.setRing x).run s).tx = s.tx := rfl
@[simp] theorem Act.setRing_seed (x : RingSt → RingSt) (s : State) : ((Act.setRing x).run s).seed = s.seed := rfl
@[simp] theorem Act.setRing_r (x : RingSt → RingSt) (s : State) (n : RegName) (i' j' k' : Nat) : ((Act.setRing x).run s).r n i' j' k' = s.r n i' j' k' := rfl
@[simp] theorem Act.setRing_f (x : RingSt → RingSt) (s : State) (n : Fld) (i' j' k' : Nat) : ((Act.setRing x).run s).f n i' j' k' = s.f n i' j' k' := rfl
theorem Act.setTim_run (x : TimeSt → TimeSt) (s : State) : (Act.setTim x).run s = { s with tim := x s.tim } := rfl
@[simp] theorem Act.setTim_tim (x : TimeSt → TimeSt) (s : State) : ((Act.setTim x).run s).tim = ({ s with tim := x s.tim } : State).tim := rfl
@[simp] theorem Act.setTim_regs (x : TimeSt → TimeSt) (s : State) : ((Act.setTim x).run s).regs = s.regs := rfl
@[simp] theorem Act.setTim_pwr (x : TimeSt → TimeSt) (s : State) : ((Act.setTim x).run s).pwr = s.pwr := rfl
@[simp] theorem Act.setTim_clk (x : TimeSt → TimeSt) (s : State) : ((Act.setTim x).run s).clk = s.clk := rfl
@[simp] theorem Act.setTim_time (x : TimeSt → TimeSt) (s : State) : ((Act.setTim x).run s).time = s.time := rfl
@[simp] theorem Act.setTim_harb (x : TimeSt → TimeSt) (s : State) : ((Act.setTim x).run s).harb = s.harb := rfl
@[simp] theorem Act.setTim_mem (x : TimeSt → TimeSt) (s : State) : ((Act.setTim x).run s).mem = s.mem := rfl
@[simp] theorem Act.setTim_resp (x : TimeSt → TimeSt) (s : State) : ((Act.setTim x).run s).resp = s.resp := rfl
@[simp] theorem Act.setTim_log (x : TimeSt → TimeSt) (s : State) : ((Act.setTim x).run s).log = s.log := rfl
@[simp] theorem Act.setTim_tx (x : TimeSt → TimeSt) (s : State) : ((Act.setTim x).run s).tx = s.tx := rfl
@[simp] theorem Act.setTim_seed (x : TimeSt → TimeSt) (s : State) : ((Act.setTim x).run s).seed = s.seed := rfl
@[simp] theorem Act.setTim_r (x : TimeSt → TimeSt) (s : State) (n : RegName) (i' j' k' : Nat) : ((Act.setTim x).run s).r n i' j' k' = s.r n i' j' k' := rfl
@[simp] theorem Act.setTim_f (x : TimeSt → TimeSt) (s : State) (n : Fld) (i' j' k' : Nat) : ((Act.setTim x).run s).f n i' j' k' = s.f n i' j' k' := rfl
theorem Act.setDma_run (x : DmaSt → DmaSt) (s : State) : (Act.setDma x).run s = { s with dma := x s.dma } := rfl
@[simp] theorem Act.setDma_dma (x : DmaSt → DmaSt) (s : State) : ((Act.setDma x).run s).dma = ({ s with dma := x s.dma } : State).dma := rfl
@[simp] theorem Act.setDma_regs (x : DmaSt → DmaSt) (s : State) : ((Act.setDma x).run s).regs = s.regs := rfl
@[simp] theorem Act.setDma_pwr (x : DmaSt → DmaSt) (s : State) : ((Act.setDma x).run s).pwr = s.pwr := rfl
@[simp] theorem Act.setDma_clk (x : DmaSt → DmaSt) (s : State) : ((Act.setDma x).run s).clk = s.clk := rfl
@[simp] theorem Act.setDma_time (x : DmaSt → DmaSt) (s : State) : ((Act.setDma x).run s).time = s.time := rfl
@[simp] theorem Act.setDma_harb (x : DmaSt → DmaSt) (s : State) : ((Act.setDma x).run s).harb = s.harb := rfl
@[simp] theorem Act.setDma_mem (x : DmaSt → DmaSt) (s : State) : ((Act.setDma x).run s).mem = s.mem := rfl
@[simp] theorem Act.setDma_resp (x : DmaSt → DmaSt) (s : State) : ((Act.setDma x).run s).resp = s.resp := rfl
@[simp] theorem Act.setDma_log (x : DmaSt → DmaSt) (s : State) : ((Act.setDma x).run s).log = s.log := rfl
@[simp] theorem Act.setDma_tx (x : DmaSt → DmaSt) (s : State) : ((Act.setDma x).run s).tx = s.tx := rfl
@[simp] theorem Act.setDma_seed (x : DmaSt → DmaSt) (s : State) : ((Act.setDma x).run s).seed = s.seed := rfl
@[simp] theorem Act.setDma_r (x : DmaSt → DmaSt) (s : State) (n : RegName) (i' j' k' : Nat) : ((Act.setDma x).run s).r n i' j' k' = s.r n i' j' k' := rfl
@[simp] theorem Act.setDma_f (x : DmaSt → DmaSt) (s : State) (n : Fld) (i' j' k' : Nat) : ((Act.setDma x).run s).f n i' j' k' = s.f n i' j' k' := rfl
theorem Act.setSched_run (x : SchedSt → SchedSt) (s : State) : (Act.setSched x).run s = { s with sched := x s.sched } := rfl
@[simp] theorem Act.setSched_sched (x : SchedSt → SchedSt) (s : State) : ((Act.setSched x).run s).sched = ({ s with sched := x s.sched } : State).sched := rfl
@[simp] theorem Act.setSched_regs (x : SchedSt → SchedSt) (s : State) : ((Act.setSched x).run s).regs = s.regs := rfl
@[simp] theorem Act.setSched_pwr (x : SchedSt → SchedSt) (s : State) : ((Act.setSched x).run s).pwr = s.pwr := rfl
@[simp] theorem Act.setSched_clk (x : SchedSt → SchedSt) (s : State) : ((Act.setSched x).run s).clk = s.clk := rfl
@[simp] theorem Act.setSched_time (x : SchedSt → SchedSt) (s : State) : ((Act.setSched x).run s).time = s.time := rfl
@[simp] theorem Act.setSched_harb (x : SchedSt → SchedSt) (s : State) : ((Act.setSched x).run s).harb = s.harb := rfl
@[simp] theorem Act.setSched_mem (x : SchedSt → SchedSt) (s : State) : ((Act.setSched x).run s).mem = s.mem := rfl
@[simp] theorem Act.setSched_resp (x : SchedSt → SchedSt) (s : State) : ((Act.setSched x).run s).resp = s.resp := rfl
@[simp] theorem Act.setSched_log (x : SchedSt → SchedSt) (s : State) : ((Act.setSched x).run s).log = s.log := rfl
@[simp] theorem Act.setSched_tx (x : SchedSt → SchedSt) (s : State) : ((Act.setSched x).run s).tx = s.tx := rfl
@[simp] theorem Act.setSched_seed (x : SchedSt → SchedSt) (s : State) : ((Act.setSched x).run s).seed = s.seed := rfl
@[simp] theorem Act.setSched_r (x : SchedSt → SchedSt) (s : State) (n : RegName) (i' j' k' : Nat) : ((Act.setSched x).run s).r n i' j' k' = s.r n i' j' k' := rfl
@[simp] theorem Act.setSched_f (x : SchedSt → SchedSt) (s : State) (n : Fld) (i' j' k' : Nat) : ((Act.setSched x).run s).f n i' j' k' = s.f n i' j' k' := rfl
theorem Act.setPol_run (x : PolSt → PolSt) (s : State) : (Act.setPol x).run s = { s with pol := x s.pol } := rfl
@[simp] theorem Act.setPol_pol (x : PolSt → PolSt) (s : State) : ((Act.setPol x).run s).pol = ({ s with pol := x s.pol } : State).pol := rfl
@[simp] theorem Act.setPol_regs (x : PolSt → PolSt) (s : State) : ((Act.setPol x).run s).regs = s.regs := rfl
@[simp] theorem Act.setPol_pwr (x : PolSt → PolSt) (s : State) : ((Act.setPol x).run s).pwr = s.pwr := rfl
@[simp] theorem Act.setPol_clk (x : PolSt → PolSt) (s : State) : ((Act.setPol x).run s).clk = s.clk := rfl
@[simp] theorem Act.setPol_time (x : PolSt → PolSt) (s : State) : ((Act.setPol x).run s).time = s.time := rfl
@[simp] theorem Act.setPol_harb (x : PolSt → PolSt) (s : State) : ((Act.setPol x).run s).harb = s.harb := rfl
@[simp] theorem Act.setPol_mem (x : PolSt → PolSt) (s : State) : ((Act.setPol x).run s).mem = s.mem := rfl
@[simp] theorem Act.setPol_resp (x : PolSt → PolSt) (s : State) : ((Act.setPol x).run s).resp = s.resp := rfl
@[simp] theorem Act.setPol_log (x : PolSt → PolSt) (s : State) : ((Act.setPol x).run s).log = s.log := rfl
@[simp] theorem Act.setPol_tx (x : PolSt → PolSt) (s : State) : ((Act.setPol x).run s).tx = s.tx := rfl
@[simp] theorem Act.setPol_seed (x : PolSt → PolSt) (s : State) : ((Act.setPol x).run s).seed = s.seed := rfl
@[simp] theorem Act.setPol_r (x : PolSt → PolSt) (s : State) (n : RegName) (i' j' k' : Nat) : ((Act.setPol x).run s).r n i' j' k' = s.r n i' j' k' := rfl
@[simp] theorem Act.setPol_f (x : PolSt → PolSt) (s : State) (n : Fld) (i' j' k' : Nat) : ((Act.setPol x).run s).f n i' j' k' = s.f n i' j' k' := rfl
theorem Act.setPair_run (x : PairSt → PairSt) (s : State) : (Act.setPair x).run s = { s with pair := x s.pair } := rfl
@[simp] theorem Act.setPair_pair (x : PairSt → PairSt) (s : State) : ((Act.setPair x).run s).pair = ({ s with pair := x s.pair } : State).pair := rfl
@[simp] theorem Act.setPair_regs (x : PairSt → PairSt) (s : State) : ((Act.setPair x).run s).regs = s.regs := rfl
@[simp] theorem Act.setPair_pwr (x : PairSt → PairSt) (s : State) : ((Act.setPair x).run s).pwr = s.pwr := rfl
@[simp] theorem Act.setPair_clk (x : PairSt → PairSt) (s : State) : ((Act.setPair x).run s).clk = s.clk := rfl
@[simp] theorem Act.setPair_time (x : PairSt → PairSt) (s : State) : ((Act.setPair x).run s).time = s.time := rfl
@[simp] theorem Act.setPair_harb (x : PairSt → PairSt) (s : State) : ((Act.setPair x).run s).harb = s.harb := rfl
@[simp] theorem Act.setPair_mem (x : PairSt → PairSt) (s : State) : ((Act.setPair x).run s).mem = s.mem := rfl
@[simp] theorem Act.setPair_resp (x : PairSt → PairSt) (s : State) : ((Act.setPair x).run s).resp = s.resp := rfl
@[simp] theorem Act.setPair_log (x : PairSt → PairSt) (s : State) : ((Act.setPair x).run s).log = s.log := rfl
@[simp] theorem Act.setPair_tx (x : PairSt → PairSt) (s : State) : ((Act.setPair x).run s).tx = s.tx := rfl
@[simp] theorem Act.setPair_seed (x : PairSt → PairSt) (s : State) : ((Act.setPair x).run s).seed = s.seed := rfl
@[simp] theorem Act.setPair_r (x : PairSt → PairSt) (s : State) (n : RegName) (i' j' k' : Nat) : ((Act.setPair x).run s).r n i' j' k' = s.r n i' j' k' := rfl
@[simp] theorem Act.setPair_f (x : PairSt → PairSt) (s : State) (n : Fld) (i' j' k' : Nat) : ((Act.setPair x).run s).f n i' j' k' = s.f n i' j' k' := rfl
theorem Act.setLoad_run (x : LoadSt → LoadSt) (s : State) : (Act.setLoad x).run s = { s with load := x s.load } := rfl
@[simp] theorem Act.setLoad_load (x : LoadSt → LoadSt) (s : State) : ((Act.setLoad x).run s).load = ({ s with load := x s.load } : State).load := rfl
@[simp] theorem Act.setLoad_regs (x : LoadSt → LoadSt) (s : State) : ((Act.setLoad x).run s).regs = s.regs := rfl
@[simp] theorem Act.setLoad_pwr (x : LoadSt → LoadSt) (s : State) : ((Act.setLoad x).run s).pwr = s.pwr := rfl
@[simp] theorem Act.setLoad_clk (x : LoadSt → LoadSt) (s : State) : ((Act.setLoad x).run s).clk = s.clk := rfl
@[simp] theorem Act.setLoad_time (x : LoadSt → LoadSt) (s : State) : ((Act.setLoad x).run s).time = s.time := rfl
@[simp] theorem Act.setLoad_harb (x : LoadSt → LoadSt) (s : State) : ((Act.setLoad x).run s).harb = s.harb := rfl
@[simp] theorem Act.setLoad_mem (x : LoadSt → LoadSt) (s : State) : ((Act.setLoad x).run s).mem = s.mem := rfl
@[simp] theorem Act.setLoad_resp (x : LoadSt → LoadSt) (s : State) : ((Act.setLoad x).run s).resp = s.resp := rfl
@[simp] theorem Act.setLoad_log (x : LoadSt → LoadSt) (s : State) : ((Act.setLoad x).run s).log = s.log := rfl
@[simp] theorem Act.setLoad_tx (x : LoadSt → LoadSt) (s : State) : ((Act.setLoad x).run s).tx = s.tx := rfl
@[simp] theorem Act.setLoad_seed (x : LoadSt → LoadSt) (s : State) : ((Act.setLoad x).run s).seed = s.seed := rfl
@[simp] theorem Act.setLoad_r (x : LoadSt → LoadSt) (s : State) (n : RegName) (i' j' k' : Nat) : ((Act.setLoad x).run s).r n i' j' k' = s.r n i' j' k' := rfl
@[simp] theorem Act.setLoad_f (x : LoadSt → LoadSt) (s : State) (n : Fld) (i' j' k' : Nat) : ((Act.setLoad x).run s).f n i' j' k' = s.f n i' j' k' := rfl
theorem Act.setRel_run (x : RelocSt → RelocSt) (s : State) : (Act.setRel x).run s = { s with rel := x s.rel } := rfl
@[simp] theorem Act.setRel_rel (x : RelocSt → RelocSt) (s : State) : ((Act.setRel x).run s).rel = ({ s with rel := x s.rel } : State).rel := rfl
@[simp] theorem Act.setRel_regs (x : RelocSt → RelocSt) (s : State) : ((Act.setRel x).run s).regs = s.regs := rfl
@[simp] theorem Act.setRel_pwr (x : RelocSt → RelocSt) (s : State) : ((Act.setRel x).run s).pwr = s.pwr := rfl
@[simp] theorem Act.setRel_clk (x : RelocSt → RelocSt) (s : State) : ((Act.setRel x).run s).clk = s.clk := rfl
@[simp] theorem Act.setRel_time (x : RelocSt → RelocSt) (s : State) : ((Act.setRel x).run s).time = s.time := rfl
@[simp] theorem Act.setRel_harb (x : RelocSt → RelocSt) (s : State) : ((Act.setRel x).run s).harb = s.harb := rfl
@[simp] theorem Act.setRel_mem (x : RelocSt → RelocSt) (s : State) : ((Act.setRel x).run s).mem = s.mem := rfl
@[simp] theorem Act.setRel_resp (x : RelocSt → RelocSt) (s : State) : ((Act.setRel x).run s).resp = s.resp := rfl
@[simp] theorem Act.setRel_log (x : RelocSt → RelocSt) (s : State) : ((Act.setRel x).run s).log = s.log := rfl
@[simp] theorem Act.setRel_tx (x : RelocSt → RelocSt) (s : State) : ((Act.setRel x).run s).tx = s.tx := rfl
@[simp] theorem Act.setRel_seed (x : RelocSt → RelocSt) (s : State) : ((Act.setRel x).run s).seed = s.seed := rfl
@[simp] theorem Act.setRel_r (x : RelocSt → RelocSt) (s : State) (n : RegName) (i' j' k' : Nat) : ((Act.setRel x).run s).r n i' j' k' = s.r n i' j' k' := rfl
@[simp] theorem Act.setRel_f (x : RelocSt → RelocSt) (s : State) (n : Fld) (i' j' k' : Nat) : ((Act.setRel x).run s).f n i' j' k' = s.f n i' j' k' := rfl
theorem Act.setCal_run (g : Grp) (x : CalSt → CalSt) (s : State) : (Act.setCal g x).run s = { s with cal := s.cal.set g (x s.cal[g]) } := rfl
@[simp] theorem Act.setCal_cal (g : Grp) (x : CalSt → CalSt) (s : State) : ((Act.setCal g x).run s).cal = ({ s with cal := s.cal.set g (x s.cal[g]) } : State).cal := rfl
@[simp] theorem Act.setCal_regs (g : Grp) (x : CalSt → CalSt) (s : State) : ((Act.setCal g x).run s).regs = s.regs := rfl
@[simp] theorem Act.setCal_pwr (g : Grp) (x : CalSt → CalSt) (s : State) : ((Act.setCal g x).run s).pwr = s.pwr := rfl
@[simp] theorem Act.setCal_clk (g : Grp) (x : CalSt → CalSt) (s : State) : ((Act.setCal g x).run s).clk = s.clk := rfl
@[simp] theorem Act.setCal_time (g : Grp) (x : CalSt → CalSt) (s : State) : ((Act.setCal g x).run s).time = s.time := rfl
@[simp] theorem Act.setCal_harb (g : Grp) (x : CalSt → CalSt) (s : State) : ((Act.setCal g x).run s).harb = s.harb := rfl
@[simp] theorem Act.setCal_mem (g : Grp) (x : CalSt → CalSt) (s : State) : ((Act.setCal g x).run s).mem = s.mem := rfl
@[simp] theorem Act.setCal_resp (g : Grp) (x : CalSt → CalSt) (s : State) : ((Act.setCal g x).run s).resp = s.resp := rfl
@[simp] theorem Act.setCal_log (g : Grp) (x : CalSt → CalSt) (s : State) : ((Act.setCal g x).run s).log = s.log := rfl
@[simp] theorem Act.setCal_tx (g : Grp) (x : CalSt → CalSt) (s : State) : ((Act.setCal g x).run s).tx = s.tx := rfl
@[simp] theorem Act.setCal_seed (g : Grp) (x : CalSt → CalSt) (s : State) : ((Act.setCal g x).run s).seed = s.seed := rfl
@[simp] theorem Act.setCal_r (g : Grp) (x : CalSt → CalSt) (s : State) (n : RegName) (i' j' k' : Nat) : ((Act.setCal g x).run s).r n i' j' k' = s.r n i' j' k' := rfl
@[simp] theorem Act.setCal_f (g : Grp) (x : CalSt → CalSt) (s : State) (n : Fld) (i' j' k' : Nat) : ((Act.setCal g x).run s).f n i' j' k' = s.f n i' j' k' := rfl
theorem Act.setCells_run (g : Grp) (x : CellsSt → CellsSt) (s : State) : (Act.setCells g x).run s = { s with cells := s.cells.set g (x s.cells[g]) } := rfl
@[simp] theorem Act.setCells_cells (g : Grp) (x : CellsSt → CellsSt) (s : State) : ((Act.setCells g x).run s).cells = ({ s with cells := s.cells.set g (x s.cells[g]) } : State).cells := rfl
@[simp] theorem Act.setCells_regs (g : Grp) (x : CellsSt → CellsSt) (s : State) : ((Act.setCells g x).run s).regs = s.regs := rfl
@[simp] theorem Act.setCells_pwr (g : Grp) (x : CellsSt → CellsSt) (s : State) : ((Act.setCells g x).run s).pwr = s.pwr := rfl
@[simp] theorem Act.setCells_clk (g : Grp) (x : CellsSt → CellsSt) (s : State) : ((Act.setCells g x).run s).clk = s.clk := rfl
@[simp] theorem Act.setCells_time (g : Grp) (x : CellsSt → CellsSt) (s : State) : ((Act.setCells g x).run s).time = s.time := rfl
@[simp] theorem Act.setCells_harb (g : Grp) (x : CellsSt → CellsSt) (s : State) : ((Act.setCells g x).run s).harb = s.harb := rfl
@[simp] theorem Act.setCells_mem (g : Grp) (x : CellsSt → CellsSt) (s : State) : ((Act.setCells g x).run s).mem = s.mem := rfl
@[simp] theorem Act.setCells_resp (g : Grp) (x : CellsSt → CellsSt) (s : State) : ((Act.setCells g x).run s).resp = s.resp := rfl
@[simp] theorem Act.setCells_log (g : Grp) (x : CellsSt → CellsSt) (s : State) : ((Act.setCells g x).run s).log = s.log := rfl
@[simp] theorem Act.setCells_tx (g : Grp) (x : CellsSt → CellsSt) (s : State) : ((Act.setCells g x).run s).tx = s.tx := rfl
@[simp] theorem Act.setCells_seed (g : Grp) (x : CellsSt → CellsSt) (s : State) : ((Act.setCells g x).run s).seed = s.seed := rfl
@[simp] theorem Act.setCells_r (g : Grp) (x : CellsSt → CellsSt) (s : State) (n : RegName) (i' j' k' : Nat) : ((Act.setCells g x).run s).r n i' j' k' = s.r n i' j' k' := rfl
@[simp] theorem Act.setCells_f (g : Grp) (x : CellsSt → CellsSt) (s : State) (n : Fld) (i' j' k' : Nat) : ((Act.setCells g x).run s).f n i' j' k' = s.f n i' j' k' := rfl
theorem Act.setRef_run (g : Grp) (x : RefSt → RefSt) (s : State) : (Act.setRef g x).run s = { s with refs := s.refs.set g (x s.refs[g]) } := rfl
@[simp] theorem Act.setRef_refs (g : Grp) (x : RefSt → RefSt) (s : State) : ((Act.setRef g x).run s).refs = ({ s with refs := s.refs.set g (x s.refs[g]) } : State).refs := rfl
@[simp] theorem Act.setRef_regs (g : Grp) (x : RefSt → RefSt) (s : State) : ((Act.setRef g x).run s).regs = s.regs := rfl
@[simp] theorem Act.setRef_pwr (g : Grp) (x : RefSt → RefSt) (s : State) : ((Act.setRef g x).run s).pwr = s.pwr := rfl
@[simp] theorem Act.setRef_clk (g : Grp) (x : RefSt → RefSt) (s : State) : ((Act.setRef g x).run s).clk = s.clk := rfl
@[simp] theorem Act.setRef_time (g : Grp) (x : RefSt → RefSt) (s : State) : ((Act.setRef g x).run s).time = s.time := rfl
@[simp] theorem Act.setRef_harb (g : Grp) (x : RefSt → RefSt) (s : State) : ((Act.setRef g x).run s).harb = s.harb := rfl
@[simp] theorem Act.setRef_mem (g : Grp) (x : RefSt → RefSt) (s : State) : ((Act.setRef g x).run s).mem = s.mem := rfl
@[simp] theorem Act.setRef_resp (g : Grp) (x : RefSt → RefSt) (s : State) : ((Act.setRef g x).run s).resp = s.resp := rfl
@[simp] theorem Act.setRef_log (g : Grp) (x : RefSt → RefSt) (s : State) : ((Act.setRef g x).run s).log = s.log := rfl
@[simp] theorem Act.setRef_tx (g : Grp) (x : RefSt → RefSt) (s : State) : ((Act.setRef g x).run s).tx = s.tx := rfl
@[simp] theorem Act.setRef_seed (g : Grp) (x : RefSt → RefSt) (s : State) : ((Act.setRef g x).run s).seed = s.seed := rfl
@[simp] theorem Act.setRef_r (g : Grp) (x : RefSt → RefSt) (s : State) (n : RegName) (i' j' k' : Nat) : ((Act.setRef g x).run s).r n i' j' k' = s.r n i' j' k' := rfl
@[simp] theorem Act.setRef_f (g : Grp) (x : RefSt → RefSt) (s : State) (n : Fld) (i' j' k' : Nat) : ((Act.setRef g x).run s).f n i' j' k' = s.f n i' j' k' := rfl
theorem Act.setSpare_run (g : Grp) (x : SpareSt → SpareSt) (s : State) : (Act.setSpare g x).run s = { s with spare := s.spare.set g (x s.spare[g]) } := rfl
@[simp] theorem Act.setSpare_spare (g : Grp) (x : SpareSt → SpareSt) (s : State) : ((Act.setSpare g x).run s).spare = ({ s with spare := s.spare.set g (x s.spare[g]) } : State).spare := rfl
@[simp] theorem Act.setSpare_regs (g : Grp) (x : SpareSt → SpareSt) (s : State) : ((Act.setSpare g x).run s).regs = s.regs := rfl
@[simp] theorem Act.setSpare_pwr (g : Grp) (x : SpareSt → SpareSt) (s : State) : ((Act.setSpare g x).run s).pwr = s.pwr := rfl
@[simp] theorem Act.setSpare_clk (g : Grp) (x : SpareSt → SpareSt) (s : State) : ((Act.setSpare g x).run s).clk = s.clk := rfl
@[simp] theorem Act.setSpare_time (g : Grp) (x : SpareSt → SpareSt) (s : State) : ((Act.setSpare g x).run s).time = s.time := rfl
@[simp] theorem Act.setSpare_harb (g : Grp) (x : SpareSt → SpareSt) (s : State) : ((Act.setSpare g x).run s).harb = s.harb := rfl
@[simp] theorem Act.setSpare_mem (g : Grp) (x : SpareSt → SpareSt) (s : State) : ((Act.setSpare g x).run s).mem = s.mem := rfl
@[simp] theorem Act.setSpare_resp (g : Grp) (x : SpareSt → SpareSt) (s : State) : ((Act.setSpare g x).run s).resp = s.resp := rfl
@[simp] theorem Act.setSpare_log (g : Grp) (x : SpareSt → SpareSt) (s : State) : ((Act.setSpare g x).run s).log = s.log := rfl
@[simp] theorem Act.setSpare_tx (g : Grp) (x : SpareSt → SpareSt) (s : State) : ((Act.setSpare g x).run s).tx = s.tx := rfl
@[simp] theorem Act.setSpare_seed (g : Grp) (x : SpareSt → SpareSt) (s : State) : ((Act.setSpare g x).run s).seed = s.seed := rfl
@[simp] theorem Act.setSpare_r (g : Grp) (x : SpareSt → SpareSt) (s : State) (n : RegName) (i' j' k' : Nat) : ((Act.setSpare g x).run s).r n i' j' k' = s.r n i' j' k' := rfl
@[simp] theorem Act.setSpare_f (g : Grp) (x : SpareSt → SpareSt) (s : State) (n : Fld) (i' j' k' : Nat) : ((Act.setSpare g x).run s).f n i' j' k' = s.f n i' j' k' := rfl
theorem Act.setEng_run (e : Eng) (x : EngSt → EngSt) (s : State) : (Act.setEng e x).run s = { s with eng := s.eng.set e (x s.eng[e]) } := rfl
@[simp] theorem Act.setEng_eng (e : Eng) (x : EngSt → EngSt) (s : State) : ((Act.setEng e x).run s).eng = ({ s with eng := s.eng.set e (x s.eng[e]) } : State).eng := rfl
@[simp] theorem Act.setEng_regs (e : Eng) (x : EngSt → EngSt) (s : State) : ((Act.setEng e x).run s).regs = s.regs := rfl
@[simp] theorem Act.setEng_pwr (e : Eng) (x : EngSt → EngSt) (s : State) : ((Act.setEng e x).run s).pwr = s.pwr := rfl
@[simp] theorem Act.setEng_clk (e : Eng) (x : EngSt → EngSt) (s : State) : ((Act.setEng e x).run s).clk = s.clk := rfl
@[simp] theorem Act.setEng_time (e : Eng) (x : EngSt → EngSt) (s : State) : ((Act.setEng e x).run s).time = s.time := rfl
@[simp] theorem Act.setEng_harb (e : Eng) (x : EngSt → EngSt) (s : State) : ((Act.setEng e x).run s).harb = s.harb := rfl
@[simp] theorem Act.setEng_mem (e : Eng) (x : EngSt → EngSt) (s : State) : ((Act.setEng e x).run s).mem = s.mem := rfl
@[simp] theorem Act.setEng_resp (e : Eng) (x : EngSt → EngSt) (s : State) : ((Act.setEng e x).run s).resp = s.resp := rfl
@[simp] theorem Act.setEng_log (e : Eng) (x : EngSt → EngSt) (s : State) : ((Act.setEng e x).run s).log = s.log := rfl
@[simp] theorem Act.setEng_tx (e : Eng) (x : EngSt → EngSt) (s : State) : ((Act.setEng e x).run s).tx = s.tx := rfl
@[simp] theorem Act.setEng_seed (e : Eng) (x : EngSt → EngSt) (s : State) : ((Act.setEng e x).run s).seed = s.seed := rfl
@[simp] theorem Act.setEng_r (e : Eng) (x : EngSt → EngSt) (s : State) (n : RegName) (i' j' k' : Nat) : ((Act.setEng e x).run s).r n i' j' k' = s.r n i' j' k' := rfl
@[simp] theorem Act.setEng_f (e : Eng) (x : EngSt → EngSt) (s : State) (n : Fld) (i' j' k' : Nat) : ((Act.setEng e x).run s).f n i' j' k' = s.f n i' j' k' := rfl
theorem Act.setTrk_run (k : Trk) (x : TrkSt → TrkSt) (s : State) : (Act.setTrk k x).run s = { s with trk := s.trk.set k (x s.trk[k]) } := rfl
@[simp] theorem Act.setTrk_trk (k : Trk) (x : TrkSt → TrkSt) (s : State) : ((Act.setTrk k x).run s).trk = ({ s with trk := s.trk.set k (x s.trk[k]) } : State).trk := rfl
@[simp] theorem Act.setTrk_regs (k : Trk) (x : TrkSt → TrkSt) (s : State) : ((Act.setTrk k x).run s).regs = s.regs := rfl
@[simp] theorem Act.setTrk_pwr (k : Trk) (x : TrkSt → TrkSt) (s : State) : ((Act.setTrk k x).run s).pwr = s.pwr := rfl
@[simp] theorem Act.setTrk_clk (k : Trk) (x : TrkSt → TrkSt) (s : State) : ((Act.setTrk k x).run s).clk = s.clk := rfl
@[simp] theorem Act.setTrk_time (k : Trk) (x : TrkSt → TrkSt) (s : State) : ((Act.setTrk k x).run s).time = s.time := rfl
@[simp] theorem Act.setTrk_harb (k : Trk) (x : TrkSt → TrkSt) (s : State) : ((Act.setTrk k x).run s).harb = s.harb := rfl
@[simp] theorem Act.setTrk_mem (k : Trk) (x : TrkSt → TrkSt) (s : State) : ((Act.setTrk k x).run s).mem = s.mem := rfl
@[simp] theorem Act.setTrk_resp (k : Trk) (x : TrkSt → TrkSt) (s : State) : ((Act.setTrk k x).run s).resp = s.resp := rfl
@[simp] theorem Act.setTrk_log (k : Trk) (x : TrkSt → TrkSt) (s : State) : ((Act.setTrk k x).run s).log = s.log := rfl
@[simp] theorem Act.setTrk_tx (k : Trk) (x : TrkSt → TrkSt) (s : State) : ((Act.setTrk k x).run s).tx = s.tx := rfl
@[simp] theorem Act.setTrk_seed (k : Trk) (x : TrkSt → TrkSt) (s : State) : ((Act.setTrk k x).run s).seed = s.seed := rfl
@[simp] theorem Act.setTrk_r (k : Trk) (x : TrkSt → TrkSt) (s : State) (n : RegName) (i' j' k' : Nat) : ((Act.setTrk k x).run s).r n i' j' k' = s.r n i' j' k' := rfl
@[simp] theorem Act.setTrk_f (k : Trk) (x : TrkSt → TrkSt) (s : State) (n : Fld) (i' j' k' : Nat) : ((Act.setTrk k x).run s).f n i' j' k' = s.f n i' j' k' := rfl
theorem Act.setKmp_run (g : Grp) (k : Kmp) (x : CmpSt → CmpSt) (s : State) : (Act.setKmp g k x).run s = { s with cmps := s.cmps.set g (s.cmps[g].set k (x s.cmps[g][k])) } := rfl
@[simp] theorem Act.setKmp_cmps (g : Grp) (k : Kmp) (x : CmpSt → CmpSt) (s : State) : ((Act.setKmp g k x).run s).cmps = ({ s with cmps := s.cmps.set g (s.cmps[g].set k (x s.cmps[g][k])) } : State).cmps := rfl
@[simp] theorem Act.setKmp_regs (g : Grp) (k : Kmp) (x : CmpSt → CmpSt) (s : State) : ((Act.setKmp g k x).run s).regs = s.regs := rfl
@[simp] theorem Act.setKmp_pwr (g : Grp) (k : Kmp) (x : CmpSt → CmpSt) (s : State) : ((Act.setKmp g k x).run s).pwr = s.pwr := rfl
@[simp] theorem Act.setKmp_clk (g : Grp) (k : Kmp) (x : CmpSt → CmpSt) (s : State) : ((Act.setKmp g k x).run s).clk = s.clk := rfl
@[simp] theorem Act.setKmp_time (g : Grp) (k : Kmp) (x : CmpSt → CmpSt) (s : State) : ((Act.setKmp g k x).run s).time = s.time := rfl
@[simp] theorem Act.setKmp_harb (g : Grp) (k : Kmp) (x : CmpSt → CmpSt) (s : State) : ((Act.setKmp g k x).run s).harb = s.harb := rfl
@[simp] theorem Act.setKmp_mem (g : Grp) (k : Kmp) (x : CmpSt → CmpSt) (s : State) : ((Act.setKmp g k x).run s).mem = s.mem := rfl
@[simp] theorem Act.setKmp_resp (g : Grp) (k : Kmp) (x : CmpSt → CmpSt) (s : State) : ((Act.setKmp g k x).run s).resp = s.resp := rfl
@[simp] theorem Act.setKmp_log (g : Grp) (k : Kmp) (x : CmpSt → CmpSt) (s : State) : ((Act.setKmp g k x).run s).log = s.log := rfl
@[simp] theorem Act.setKmp_tx (g : Grp) (k : Kmp) (x : CmpSt → CmpSt) (s : State) : ((Act.setKmp g k x).run s).tx = s.tx := rfl
@[simp] theorem Act.setKmp_seed (g : Grp) (k : Kmp) (x : CmpSt → CmpSt) (s : State) : ((Act.setKmp g k x).run s).seed = s.seed := rfl
@[simp] theorem Act.setKmp_r (g : Grp) (k : Kmp) (x : CmpSt → CmpSt) (s : State) (n : RegName) (i' j' k' : Nat) : ((Act.setKmp g k x).run s).r n i' j' k' = s.r n i' j' k' := rfl
@[simp] theorem Act.setKmp_f (g : Grp) (k : Kmp) (x : CmpSt → CmpSt) (s : State) (n : Fld) (i' j' k' : Nat) : ((Act.setKmp g k x).run s).f n i' j' k' = s.f n i' j' k' := rfl
theorem Act.setCv_run (g : Grp) (k : Cv) (x : ConvSt → ConvSt) (s : State) : (Act.setCv g k x).run s = { s with conv := s.conv.set g (s.conv[g].set k (x s.conv[g][k])) } := rfl
@[simp] theorem Act.setCv_conv (g : Grp) (k : Cv) (x : ConvSt → ConvSt) (s : State) : ((Act.setCv g k x).run s).conv = ({ s with conv := s.conv.set g (s.conv[g].set k (x s.conv[g][k])) } : State).conv := rfl
@[simp] theorem Act.setCv_regs (g : Grp) (k : Cv) (x : ConvSt → ConvSt) (s : State) : ((Act.setCv g k x).run s).regs = s.regs := rfl
@[simp] theorem Act.setCv_pwr (g : Grp) (k : Cv) (x : ConvSt → ConvSt) (s : State) : ((Act.setCv g k x).run s).pwr = s.pwr := rfl
@[simp] theorem Act.setCv_clk (g : Grp) (k : Cv) (x : ConvSt → ConvSt) (s : State) : ((Act.setCv g k x).run s).clk = s.clk := rfl
@[simp] theorem Act.setCv_time (g : Grp) (k : Cv) (x : ConvSt → ConvSt) (s : State) : ((Act.setCv g k x).run s).time = s.time := rfl
@[simp] theorem Act.setCv_harb (g : Grp) (k : Cv) (x : ConvSt → ConvSt) (s : State) : ((Act.setCv g k x).run s).harb = s.harb := rfl
@[simp] theorem Act.setCv_mem (g : Grp) (k : Cv) (x : ConvSt → ConvSt) (s : State) : ((Act.setCv g k x).run s).mem = s.mem := rfl
@[simp] theorem Act.setCv_resp (g : Grp) (k : Cv) (x : ConvSt → ConvSt) (s : State) : ((Act.setCv g k x).run s).resp = s.resp := rfl
@[simp] theorem Act.setCv_log (g : Grp) (k : Cv) (x : ConvSt → ConvSt) (s : State) : ((Act.setCv g k x).run s).log = s.log := rfl
@[simp] theorem Act.setCv_tx (g : Grp) (k : Cv) (x : ConvSt → ConvSt) (s : State) : ((Act.setCv g k x).run s).tx = s.tx := rfl
@[simp] theorem Act.setCv_seed (g : Grp) (k : Cv) (x : ConvSt → ConvSt) (s : State) : ((Act.setCv g k x).run s).seed = s.seed := rfl
@[simp] theorem Act.setCv_r (g : Grp) (k : Cv) (x : ConvSt → ConvSt) (s : State) (n : RegName) (i' j' k' : Nat) : ((Act.setCv g k x).run s).r n i' j' k' = s.r n i' j' k' := rfl
@[simp] theorem Act.setCv_f (g : Grp) (k : Cv) (x : ConvSt → ConvSt) (s : State) (n : Fld) (i' j' k' : Nat) : ((Act.setCv g k x).run s).f n i' j' k' = s.f n i' j' k' := rfl
theorem Act.setDds_run (g : Grp) (k : DdsE) (x : DdsSt → DdsSt) (s : State) : (Act.setDds g k x).run s = { s with dds := s.dds.set g (s.dds[g].set k (x s.dds[g][k])) } := rfl
@[simp] theorem Act.setDds_dds (g : Grp) (k : DdsE) (x : DdsSt → DdsSt) (s : State) : ((Act.setDds g k x).run s).dds = ({ s with dds := s.dds.set g (s.dds[g].set k (x s.dds[g][k])) } : State).dds := rfl
@[simp] theorem Act.setDds_regs (g : Grp) (k : DdsE) (x : DdsSt → DdsSt) (s : State) : ((Act.setDds g k x).run s).regs = s.regs := rfl
@[simp] theorem Act.setDds_pwr (g : Grp) (k : DdsE) (x : DdsSt → DdsSt) (s : State) : ((Act.setDds g k x).run s).pwr = s.pwr := rfl
@[simp] theorem Act.setDds_clk (g : Grp) (k : DdsE) (x : DdsSt → DdsSt) (s : State) : ((Act.setDds g k x).run s).clk = s.clk := rfl
@[simp] theorem Act.setDds_time (g : Grp) (k : DdsE) (x : DdsSt → DdsSt) (s : State) : ((Act.setDds g k x).run s).time = s.time := rfl
@[simp] theorem Act.setDds_harb (g : Grp) (k : DdsE) (x : DdsSt → DdsSt) (s : State) : ((Act.setDds g k x).run s).harb = s.harb := rfl
@[simp] theorem Act.setDds_mem (g : Grp) (k : DdsE) (x : DdsSt → DdsSt) (s : State) : ((Act.setDds g k x).run s).mem = s.mem := rfl
@[simp] theorem Act.setDds_resp (g : Grp) (k : DdsE) (x : DdsSt → DdsSt) (s : State) : ((Act.setDds g k x).run s).resp = s.resp := rfl
@[simp] theorem Act.setDds_log (g : Grp) (k : DdsE) (x : DdsSt → DdsSt) (s : State) : ((Act.setDds g k x).run s).log = s.log := rfl
@[simp] theorem Act.setDds_tx (g : Grp) (k : DdsE) (x : DdsSt → DdsSt) (s : State) : ((Act.setDds g k x).run s).tx = s.tx := rfl
@[simp] theorem Act.setDds_seed (g : Grp) (k : DdsE) (x : DdsSt → DdsSt) (s : State) : ((Act.setDds g k x).run s).seed = s.seed := rfl
@[simp] theorem Act.setDds_r (g : Grp) (k : DdsE) (x : DdsSt → DdsSt) (s : State) (n : RegName) (i' j' k' : Nat) : ((Act.setDds g k x).run s).r n i' j' k' = s.r n i' j' k' := rfl
@[simp] theorem Act.setDds_f (g : Grp) (k : DdsE) (x : DdsSt → DdsSt) (s : State) (n : Fld) (i' j' k' : Nat) : ((Act.setDds g k x).run s).f n i' j' k' = s.f n i' j' k' := rfl
theorem Act.setOut_run (g : Grp) (k : Out) (x : OutSt → OutSt) (s : State) : (Act.setOut g k x).run s = { s with outs := s.outs.set g (s.outs[g].set k (x s.outs[g][k])) } := rfl
@[simp] theorem Act.setOut_outs (g : Grp) (k : Out) (x : OutSt → OutSt) (s : State) : ((Act.setOut g k x).run s).outs = ({ s with outs := s.outs.set g (s.outs[g].set k (x s.outs[g][k])) } : State).outs := rfl
@[simp] theorem Act.setOut_regs (g : Grp) (k : Out) (x : OutSt → OutSt) (s : State) : ((Act.setOut g k x).run s).regs = s.regs := rfl
@[simp] theorem Act.setOut_pwr (g : Grp) (k : Out) (x : OutSt → OutSt) (s : State) : ((Act.setOut g k x).run s).pwr = s.pwr := rfl
@[simp] theorem Act.setOut_clk (g : Grp) (k : Out) (x : OutSt → OutSt) (s : State) : ((Act.setOut g k x).run s).clk = s.clk := rfl
@[simp] theorem Act.setOut_time (g : Grp) (k : Out) (x : OutSt → OutSt) (s : State) : ((Act.setOut g k x).run s).time = s.time := rfl
@[simp] theorem Act.setOut_harb (g : Grp) (k : Out) (x : OutSt → OutSt) (s : State) : ((Act.setOut g k x).run s).harb = s.harb := rfl
@[simp] theorem Act.setOut_mem (g : Grp) (k : Out) (x : OutSt → OutSt) (s : State) : ((Act.setOut g k x).run s).mem = s.mem := rfl
@[simp] theorem Act.setOut_resp (g : Grp) (k : Out) (x : OutSt → OutSt) (s : State) : ((Act.setOut g k x).run s).resp = s.resp := rfl
@[simp] theorem Act.setOut_log (g : Grp) (k : Out) (x : OutSt → OutSt) (s : State) : ((Act.setOut g k x).run s).log = s.log := rfl
@[simp] theorem Act.setOut_tx (g : Grp) (k : Out) (x : OutSt → OutSt) (s : State) : ((Act.setOut g k x).run s).tx = s.tx := rfl
@[simp] theorem Act.setOut_seed (g : Grp) (k : Out) (x : OutSt → OutSt) (s : State) : ((Act.setOut g k x).run s).seed = s.seed := rfl
@[simp] theorem Act.setOut_r (g : Grp) (k : Out) (x : OutSt → OutSt) (s : State) (n : RegName) (i' j' k' : Nat) : ((Act.setOut g k x).run s).r n i' j' k' = s.r n i' j' k' := rfl
@[simp] theorem Act.setOut_f (g : Grp) (k : Out) (x : OutSt → OutSt) (s : State) (n : Fld) (i' j' k' : Nat) : ((Act.setOut g k x).run s).f n i' j' k' = s.f n i' j' k' := rfl
theorem Act.setPin_run (g : Grp) (k : Pin) (x : PinSt → PinSt) (s : State) : (Act.setPin g k x).run s = { s with pins := s.pins.set g (s.pins[g].set k (x s.pins[g][k])) } := rfl
@[simp] theorem Act.setPin_pins (g : Grp) (k : Pin) (x : PinSt → PinSt) (s : State) : ((Act.setPin g k x).run s).pins = ({ s with pins := s.pins.set g (s.pins[g].set k (x s.pins[g][k])) } : State).pins := rfl
@[simp] theorem Act.setPin_regs (g : Grp) (k : Pin) (x : PinSt → PinSt) (s : State) : ((Act.setPin g k x).run s).regs = s.regs := rfl
@[simp] theorem Act.setPin_pwr (g : Grp) (k : Pin) (x : PinSt → PinSt) (s : State) : ((Act.setPin g k x).run s).pwr = s.pwr := rfl
@[simp] theorem Act.setPin_clk (g : Grp) (k : Pin) (x : PinSt → PinSt) (s : State) : ((Act.setPin g k x).run s).clk = s.clk := rfl
@[simp] theorem Act.setPin_time (g : Grp) (k : Pin) (x : PinSt → PinSt) (s : State) : ((Act.setPin g k x).run s).time = s.time := rfl
@[simp] theorem Act.setPin_harb (g : Grp) (k : Pin) (x : PinSt → PinSt) (s : State) : ((Act.setPin g k x).run s).harb = s.harb := rfl
@[simp] theorem Act.setPin_mem (g : Grp) (k : Pin) (x : PinSt → PinSt) (s : State) : ((Act.setPin g k x).run s).mem = s.mem := rfl
@[simp] theorem Act.setPin_resp (g : Grp) (k : Pin) (x : PinSt → PinSt) (s : State) : ((Act.setPin g k x).run s).resp = s.resp := rfl
@[simp] theorem Act.setPin_log (g : Grp) (k : Pin) (x : PinSt → PinSt) (s : State) : ((Act.setPin g k x).run s).log = s.log := rfl
@[simp] theorem Act.setPin_tx (g : Grp) (k : Pin) (x : PinSt → PinSt) (s : State) : ((Act.setPin g k x).run s).tx = s.tx := rfl
@[simp] theorem Act.setPin_seed (g : Grp) (k : Pin) (x : PinSt → PinSt) (s : State) : ((Act.setPin g k x).run s).seed = s.seed := rfl
@[simp] theorem Act.setPin_r (g : Grp) (k : Pin) (x : PinSt → PinSt) (s : State) (n : RegName) (i' j' k' : Nat) : ((Act.setPin g k x).run s).r n i' j' k' = s.r n i' j' k' := rfl
@[simp] theorem Act.setPin_f (g : Grp) (k : Pin) (x : PinSt → PinSt) (s : State) (n : Fld) (i' j' k' : Nat) : ((Act.setPin g k x).run s).f n i' j' k' = s.f n i' j' k' := rfl
theorem Act.setOvl_run (g : Grp) (k : Mod) (x : List Overload → List Overload) (s : State) : (Act.setOvl g k x).run s = { s with ovl := s.ovl.set g (s.ovl[g].set k (x s.ovl[g][k])) } := rfl
@[simp] theorem Act.setOvl_ovl (g : Grp) (k : Mod) (x : List Overload → List Overload) (s : State) : ((Act.setOvl g k x).run s).ovl = ({ s with ovl := s.ovl.set g (s.ovl[g].set k (x s.ovl[g][k])) } : State).ovl := rfl
@[simp] theorem Act.setOvl_regs (g : Grp) (k : Mod) (x : List Overload → List Overload) (s : State) : ((Act.setOvl g k x).run s).regs = s.regs := rfl
@[simp] theorem Act.setOvl_pwr (g : Grp) (k : Mod) (x : List Overload → List Overload) (s : State) : ((Act.setOvl g k x).run s).pwr = s.pwr := rfl
@[simp] theorem Act.setOvl_clk (g : Grp) (k : Mod) (x : List Overload → List Overload) (s : State) : ((Act.setOvl g k x).run s).clk = s.clk := rfl
@[simp] theorem Act.setOvl_time (g : Grp) (k : Mod) (x : List Overload → List Overload) (s : State) : ((Act.setOvl g k x).run s).time = s.time := rfl
@[simp] theorem Act.setOvl_harb (g : Grp) (k : Mod) (x : List Overload → List Overload) (s : State) : ((Act.setOvl g k x).run s).harb = s.harb := rfl
@[simp] theorem Act.setOvl_mem (g : Grp) (k : Mod) (x : List Overload → List Overload) (s : State) : ((Act.setOvl g k x).run s).mem = s.mem := rfl
@[simp] theorem Act.setOvl_resp (g : Grp) (k : Mod) (x : List Overload → List Overload) (s : State) : ((Act.setOvl g k x).run s).resp = s.resp := rfl
@[simp] theorem Act.setOvl_log (g : Grp) (k : Mod) (x : List Overload → List Overload) (s : State) : ((Act.setOvl g k x).run s).log = s.log := rfl
@[simp] theorem Act.setOvl_tx (g : Grp) (k : Mod) (x : List Overload → List Overload) (s : State) : ((Act.setOvl g k x).run s).tx = s.tx := rfl
@[simp] theorem Act.setOvl_seed (g : Grp) (k : Mod) (x : List Overload → List Overload) (s : State) : ((Act.setOvl g k x).run s).seed = s.seed := rfl
@[simp] theorem Act.setOvl_r (g : Grp) (k : Mod) (x : List Overload → List Overload) (s : State) (n : RegName) (i' j' k' : Nat) : ((Act.setOvl g k x).run s).r n i' j' k' = s.r n i' j' k' := rfl
@[simp] theorem Act.setOvl_f (g : Grp) (k : Mod) (x : List Overload → List Overload) (s : State) (n : Fld) (i' j' k' : Nat) : ((Act.setOvl g k x).run s).f n i' j' k' = s.f n i' j' k' := rfl

/-! ### Reading registers -/

theorem State.r_eq (s : State) (n : RegName) (i j k : Nat) : s.r n i j k = Sparse.get RegRef.resetWord s.regs ⟨n, i, j, k⟩ := rfl

/-- A register reads as what was stored, without its reserved bits. -/
theorem Act.setR_r (n : RegName) (v : Word) (i j k : Nat) (s : State) (n' : RegName) (i' j' k' : Nat) :
    ((Act.setR n v i j k).run s).r n' i' j' k' =
      if RegRef.valid ⟨n, i, j, k⟩ = true ∧ (⟨n, i, j, k⟩ : RegRef) = ⟨n', i', j', k'⟩ then v &&& n.mask else s.r n' i' j' k' := by
  simp only [Act.setR, State.r]
  split
  · rename_i h
    rw [Sparse.get_set]; simp [h]
  · rename_i h
    simp [h]

theorem Act.setR_r_same (n : RegName) (v : Word) (i j k : Nat) (s : State) (h : RegRef.valid ⟨n, i, j, k⟩ = true) :
    ((Act.setR n v i j k).run s).r n i j k = v &&& n.mask := by
  rw [Act.setR_r]; simp [h]

theorem Act.setR_r_ne (n : RegName) (v : Word) (i j k : Nat) (s : State) (n' : RegName) (i' j' k' : Nat) (h : n ≠ n') :
    ((Act.setR n v i j k).run s).r n' i' j' k' = s.r n' i' j' k' := by
  rw [Act.setR_r, if_neg]; intro e; exact h (RegRef.mk.inj e.2).1

theorem Act.setR_r_ne_inst (n : RegName) (v : Word) (i j k : Nat) (s : State) (i' j' k' : Nat) (h : ¬ (i = i' ∧ j = j' ∧ k = k')) :
    ((Act.setR n v i j k).run s).r n i' j' k' = s.r n i' j' k' := by
  rw [Act.setR_r, if_neg]; intro e; exact h (RegRef.mk.inj e.2).2

/-- The bits of a field all exist in its register. -/
def Fld.inMask (f : Fld) : Bool := decide (f.lo + f.width ≤ 32) && (List.range f.width).all fun i => f.name.mask.getLsbD (f.lo + i)

/-- Two fields of one register share no bit. -/
def Fld.apart (f g : Fld) : Bool := decide (f.lo + f.width ≤ g.lo ∨ g.lo + g.width ≤ f.lo)

theorem Fld.testBit_of (f : Fld) (w : Word) (i : Nat) : (f.of w).testBit i = (decide (i < f.width) && w.getLsbD (f.lo + i)) := by
  simp [Fld.of, Nat.testBit_mod_two_pow, Nat.testBit_shiftRight, BitVec.getLsbD]

theorem bitsMask_testBit (lo width i : Nat) : (bitsMask lo width).testBit i = (decide (lo ≤ i) && decide (i - lo < width)) := by
  simp [bitsMask, Nat.testBit_shiftLeft, Nat.testBit_two_pow_sub_one]

theorem Fld.put_getLsbD (f : Fld) (w : Word) (v i : Nat) (h : i < 32) : (f.put w v).getLsbD i =
    if f.lo ≤ i ∧ i < f.lo + f.width then v.testBit (i - f.lo) else w.getLsbD i := by
  simp only [Fld.put, BitVec.getLsbD_or, BitVec.getLsbD_and, BitVec.getLsbD_not, BitVec.getLsbD_ofNat, bitsMask_testBit,
    Nat.testBit_shiftLeft, Nat.testBit_mod_two_pow, h, decide_true, Bool.true_and]
  by_cases h1 : f.lo ≤ i <;> by_cases h2 : i < f.lo + f.width
  · have : i - f.lo < f.width := by omega
    simp [h1, h2, this]
  · have : ¬ (i - f.lo < f.width) := by omega
    simp [h1, h2, this]
  · simp [h1]
  · simp [h1]

theorem Fld.mask_getLsbD (f : Fld) (h : f.inMask = true) (i : Nat) (hi : i < f.width) : f.name.mask.getLsbD (f.lo + i) = true := by
  simp only [Fld.inMask, Bool.and_eq_true, List.all_eq_true, List.mem_range] at h
  exact h.2 i hi

/-- A field reads as the value stored in it. -/
theorem Act.setF_f_same (f : Fld) (v i j k : Nat) (s : State) (hv : RegRef.valid ⟨f.name, i, j, k⟩ = true) (hm : f.inMask = true) :
    ((Act.setF f v i j k).run s).f f i j k = v % 2 ^ f.width := by
  show f.of (((Act.setR f.name (f.put (s.r f.name i j k) v) i j k).run s).r f.name i j k) = _
  rw [Act.setR_r_same _ _ _ _ _ _ hv]
  apply Nat.eq_of_testBit_eq
  intro b
  rw [Fld.testBit_of, Nat.testBit_mod_two_pow]
  by_cases hb : b < f.width
  · have hlo : f.lo + f.width ≤ 32 := by
      simp only [Fld.inMask, Bool.and_eq_true, decide_eq_true_eq] at hm; exact hm.1
    have h32 : f.lo + b < 32 := by omega
    rw [BitVec.getLsbD_and, f.mask_getLsbD hm b hb, f.put_getLsbD _ _ _ h32]
    simp [hb]
  · simp [hb]

/-- A field keeps its value when another field of its register is stored. -/
theorem Act.setF_f_apart (f g : Fld) (v i j k : Nat) (s : State) (hn : f.name = g.name) (ha : f.apart g = true) (hm : g.inMask = true) :
    ((Act.setF f v i j k).run s).f g i j k = s.f g i j k := by
  show g.of (((Act.setR f.name (f.put (s.r f.name i j k) v) i j k).run s).r g.name i j k) = g.of (s.r g.name i j k)
  rw [← hn, Act.setR_r]
  split
  · apply Nat.eq_of_testBit_eq
    intro b
    rw [Fld.testBit_of, Fld.testBit_of]
    by_cases hb : b < g.width
    · have hlo : g.lo + g.width ≤ 32 := by
        simp only [Fld.inMask, Bool.and_eq_true, decide_eq_true_eq] at hm; exact hm.1
      have h32 : g.lo + b < 32 := by omega
      simp only [Fld.apart, decide_eq_true_eq] at ha
      have hm' := g.mask_getLsbD hm b hb
      rw [← hn] at hm'
      rw [BitVec.getLsbD_and, hm', f.put_getLsbD _ _ _ h32, if_neg (by omega)]
      simp
    · simp [hb]
  · rfl

/-- A field keeps its value when another register is stored. -/
theorem Act.setF_f_ne (f g : Fld) (v i j k i' j' k' : Nat) (s : State) (hn : f.name ≠ g.name) :
    ((Act.setF f v i j k).run s).f g i' j' k' = s.f g i' j' k' :=
  congrArg g.of (Act.setR_r_ne _ _ _ _ _ _ _ _ _ _ hn)

theorem Act.setF_f_inst (f g : Fld) (v i j k i' j' k' : Nat) (s : State) (hi : ¬ (i = i' ∧ j = j' ∧ k = k')) :
    ((Act.setF f v i j k).run s).f g i' j' k' = s.f g i' j' k' := by
  show g.of (((Act.setR f.name _ i j k).run s).r g.name i' j' k') = g.of (s.r g.name i' j' k')
  rw [Act.setR_r, if_neg]; intro e; exact hi (RegRef.mk.inj e.2).2

theorem Act.setF_r_ne (f : Fld) (v i j k : Nat) (n : RegName) (i' j' k' : Nat) (s : State) (hn : f.name ≠ n) :
    ((Act.setF f v i j k).run s).r n i' j' k' = s.r n i' j' k' := Act.setR_r_ne _ _ _ _ _ _ _ _ _ _ hn

/-- The other field updates are `setF` with a value that the state gives. -/
theorem Act.setB_eq (f : Fld) (v : Bool) (i j k : Nat) : Act.setB f v i j k = Act.setF f v.toNat i j k := rfl
theorem Act.count_run (f : Fld) (n i j k : Nat) (s : State) :
    (Act.count f n i j k).run s = (Act.setF f (min (s.f f i j k + n) (2 ^ f.width - 1)) i j k).run s := rfl
theorem Act.setBit_run (f : Fld) (b i j k : Nat) (s : State) :
    (Act.setBit f b i j k).run s = (Act.setF f (s.f f i j k ||| 1 <<< b) i j k).run s := rfl
theorem Act.clrBit_run (f : Fld) (b i j k : Nat) (s : State) :
    (Act.clrBit f b i j k).run s = (Act.setF f (s.f f i j k &&& (2 ^ f.width - 1 - 1 <<< b)) i j k).run s := rfl
theorem Act.putBit_run (f : Fld) (b : Nat) (v : Bool) (i j k : Nat) (s : State) :
    (Act.putBit f b v i j k).run s = if v then (Act.setBit f b i j k).run s else (Act.clrBit f b i j k).run s := by
  unfold Act.putBit; split <;> rfl

/-- A one-bit field that was set or cleared. -/
theorem Act.setB_b_same (f : Fld) (v : Bool) (i j k : Nat) (s : State) (hv : RegRef.valid ⟨f.name, i, j, k⟩ = true)
    (hm : f.inMask = true) (hw : f.width = 1) : ((Act.setB f v i j k).run s).b f i j k = v := by
  simp only [State.b, Act.setB_eq, Act.setF_f_same f _ i j k s hv hm, hw]
  cases v <;> rfl

theorem Act.setF_b_ne (f g : Fld) (v i j k i' j' k' : Nat) (s : State) (hn : f.name ≠ g.name) :
    ((Act.setF f v i j k).run s).b g i' j' k' = s.b g i' j' k' := by
  simp only [State.b, Act.setF_f_ne f g v i j k i' j' k' s hn]

theorem Act.setF_b_apart (f g : Fld) (v i j k : Nat) (s : State) (hn : f.name = g.name) (ha : f.apart g = true) (hm : g.inMask = true) :
    ((Act.setF f v i j k).run s).b g i j k = s.b g i j k := by
  simp only [State.b, Act.setF_f_apart f g v i j k s hn ha hm]

/-! ### The modulators, and the count of refused accesses -/

@[simp] theorem Act.setR_mods (n : RegName) (v : Word) (i j k : Nat) (s : State) :
    ((Act.setR n v i j k).run s).mods = s.mods := by
  unfold Act.setR; dsimp only; split <;> rfl
@[simp] theorem Act.setR_refused (n : RegName) (v : Word) (i j k : Nat) (s : State) :
    ((Act.setR n v i j k).run s).refused = s.refused := by
  unfold Act.setR; dsimp only; split <;> rfl
@[simp] theorem Act.setF_mods (f : Fld) (v : Nat) (i j k : Nat) (s : State) :
    ((Act.setF f v i j k).run s).mods = s.mods := Act.setR_mods ..
@[simp] theorem Act.setF_refused (f : Fld) (v : Nat) (i j k : Nat) (s : State) :
    ((Act.setF f v i j k).run s).refused = s.refused := Act.setR_refused ..
@[simp] theorem Act.setB_mods (f : Fld) (v : Bool) (i j k : Nat) (s : State) :
    ((Act.setB f v i j k).run s).mods = s.mods := Act.setR_mods ..
@[simp] theorem Act.setB_refused (f : Fld) (v : Bool) (i j k : Nat) (s : State) :
    ((Act.setB f v i j k).run s).refused = s.refused := Act.setR_refused ..
@[simp] theorem Act.count_mods (f : Fld) (n : Nat) (i j k : Nat) (s : State) :
    ((Act.count f n i j k).run s).mods = s.mods := Act.setR_mods ..
@[simp] theorem Act.count_refused (f : Fld) (n : Nat) (i j k : Nat) (s : State) :
    ((Act.count f n i j k).run s).refused = s.refused := Act.setR_refused ..
@[simp] theorem Act.setBit_mods (f : Fld) (b : Nat) (i j k : Nat) (s : State) :
    ((Act.setBit f b i j k).run s).mods = s.mods := Act.setR_mods ..
@[simp] theorem Act.setBit_refused (f : Fld) (b : Nat) (i j k : Nat) (s : State) :
    ((Act.setBit f b i j k).run s).refused = s.refused := Act.setR_refused ..
@[simp] theorem Act.clrBit_mods (f : Fld) (b : Nat) (i j k : Nat) (s : State) :
    ((Act.clrBit f b i j k).run s).mods = s.mods := Act.setR_mods ..
@[simp] theorem Act.clrBit_refused (f : Fld) (b : Nat) (i j k : Nat) (s : State) :
    ((Act.clrBit f b i j k).run s).refused = s.refused := Act.setR_refused ..
@[simp] theorem Act.putBit_mods (f : Fld) (b : Nat) (v : Bool) (i j k : Nat) (s : State) :
    ((Act.putBit f b v i j k).run s).mods = s.mods := by
  unfold Act.putBit; split <;> simp
@[simp] theorem Act.putBit_refused (f : Fld) (b : Nat) (v : Bool) (i j k : Nat) (s : State) :
    ((Act.putBit f b v i j k).run s).refused = s.refused := by
  unfold Act.putBit; split <;> simp
@[simp] theorem Act.setByte_mods (a : Nat) (v : Byte) (s : State) : ((Act.setByte a v).run s).mods = s.mods := by
  unfold Act.setByte; dsimp only; split <;> rfl
@[simp] theorem Act.setBytes_mods (n a v : Nat) (s : State) : ((Act.setBytes a v n).run s).mods = s.mods := by
  induction n generalizing a v s with
  | zero => rfl
  | succ n ih => simp [Act.setBytes, ih]
@[simp] theorem Act.setByte_refused (a : Nat) (v : Byte) (s : State) : ((Act.setByte a v).run s).refused = s.refused := by
  unfold Act.setByte; dsimp only; split <;> rfl
@[simp] theorem Act.setBytes_refused (n a v : Nat) (s : State) : ((Act.setBytes a v n).run s).refused = s.refused := by
  induction n generalizing a v s with
  | zero => rfl
  | succ n ih => simp [Act.setBytes, ih]

/-! ### The monitor converters and the limit monitors -/

theorem Act.setMon_run (g : Grp) (x : MonSt → MonSt) (s : State) : (Act.setMon g x).run s = { s with mon := s.mon.set g (x s.mon[g]) } := rfl
@[simp] theorem Act.setMon_mon (g : Grp) (x : MonSt → MonSt) (s : State) : ((Act.setMon g x).run s).mon = ({ s with mon := s.mon.set g (x s.mon[g]) } : State).mon := rfl
@[simp] theorem Act.setMon_regs (g : Grp) (x : MonSt → MonSt) (s : State) : ((Act.setMon g x).run s).regs = s.regs := rfl
@[simp] theorem Act.setMon_pwr (g : Grp) (x : MonSt → MonSt) (s : State) : ((Act.setMon g x).run s).pwr = s.pwr := rfl
@[simp] theorem Act.setMon_clk (g : Grp) (x : MonSt → MonSt) (s : State) : ((Act.setMon g x).run s).clk = s.clk := rfl
@[simp] theorem Act.setMon_time (g : Grp) (x : MonSt → MonSt) (s : State) : ((Act.setMon g x).run s).time = s.time := rfl
@[simp] theorem Act.setMon_harb (g : Grp) (x : MonSt → MonSt) (s : State) : ((Act.setMon g x).run s).harb = s.harb := rfl
@[simp] theorem Act.setMon_mem (g : Grp) (x : MonSt → MonSt) (s : State) : ((Act.setMon g x).run s).mem = s.mem := rfl
@[simp] theorem Act.setMon_resp (g : Grp) (x : MonSt → MonSt) (s : State) : ((Act.setMon g x).run s).resp = s.resp := rfl
@[simp] theorem Act.setMon_log (g : Grp) (x : MonSt → MonSt) (s : State) : ((Act.setMon g x).run s).log = s.log := rfl
@[simp] theorem Act.setMon_tx (g : Grp) (x : MonSt → MonSt) (s : State) : ((Act.setMon g x).run s).tx = s.tx := rfl
@[simp] theorem Act.setMon_seed (g : Grp) (x : MonSt → MonSt) (s : State) : ((Act.setMon g x).run s).seed = s.seed := rfl
@[simp] theorem Act.setMon_r (g : Grp) (x : MonSt → MonSt) (s : State) (n : RegName) (i' j' k' : Nat) : ((Act.setMon g x).run s).r n i' j' k' = s.r n i' j' k' := rfl
@[simp] theorem Act.setMon_f (g : Grp) (x : MonSt → MonSt) (s : State) (n : Fld) (i' j' k' : Nat) : ((Act.setMon g x).run s).f n i' j' k' = s.f n i' j' k' := rfl
theorem Act.setLim_run (x : LimSt → LimSt) (s : State) : (Act.setLim x).run s = { s with lim := x s.lim } := rfl
@[simp] theorem Act.setLim_lim (x : LimSt → LimSt) (s : State) : ((Act.setLim x).run s).lim = ({ s with lim := x s.lim } : State).lim := rfl
@[simp] theorem Act.setLim_regs (x : LimSt → LimSt) (s : State) : ((Act.setLim x).run s).regs = s.regs := rfl
@[simp] theorem Act.setLim_pwr (x : LimSt → LimSt) (s : State) : ((Act.setLim x).run s).pwr = s.pwr := rfl
@[simp] theorem Act.setLim_clk (x : LimSt → LimSt) (s : State) : ((Act.setLim x).run s).clk = s.clk := rfl
@[simp] theorem Act.setLim_time (x : LimSt → LimSt) (s : State) : ((Act.setLim x).run s).time = s.time := rfl
@[simp] theorem Act.setLim_harb (x : LimSt → LimSt) (s : State) : ((Act.setLim x).run s).harb = s.harb := rfl
@[simp] theorem Act.setLim_mem (x : LimSt → LimSt) (s : State) : ((Act.setLim x).run s).mem = s.mem := rfl
@[simp] theorem Act.setLim_resp (x : LimSt → LimSt) (s : State) : ((Act.setLim x).run s).resp = s.resp := rfl
@[simp] theorem Act.setLim_log (x : LimSt → LimSt) (s : State) : ((Act.setLim x).run s).log = s.log := rfl
@[simp] theorem Act.setLim_tx (x : LimSt → LimSt) (s : State) : ((Act.setLim x).run s).tx = s.tx := rfl
@[simp] theorem Act.setLim_seed (x : LimSt → LimSt) (s : State) : ((Act.setLim x).run s).seed = s.seed := rfl
@[simp] theorem Act.setLim_r (x : LimSt → LimSt) (s : State) (n : RegName) (i' j' k' : Nat) : ((Act.setLim x).run s).r n i' j' k' = s.r n i' j' k' := rfl
@[simp] theorem Act.setLim_f (x : LimSt → LimSt) (s : State) (n : Fld) (i' j' k' : Nat) : ((Act.setLim x).run s).f n i' j' k' = s.f n i' j' k' := rfl

end Sys2Proof.Machine
end

