-- ==== Sys2Proof/Tests/Slice0.lean ====
section
/-! SUPPORT. Tests: standard check values, the spec's worked examples, commands that are not well formed, and for every obligation
a state and operands that meet what it assumes. -/

namespace Sys2Proof.Machine
/-- The state with a field of a register set. -/
def State.put (s : State) (f : Fld) (v : Nat) (i j k : Nat := 0) : State := (Act.setF f v i j k).run s
/-- The state with bytes in its memory. -/
def State.putMem (s : State) (a v n : Nat) : State := (Act.setBytes a v n).run s
/-- The state with an enabled converter that does this. -/
def State.doing (s : State) (g : Grp) (n : Cv) (r : ConvRun) (o : Option Nat := none) : State :=
  { s.put F.CV_CTRL_ENABLE 1 g n with conv := s.conv.set g (s.conv[g].set n { s.conv[g][n] with run := r, opened := o }) }
/-- The state at this system clock. -/
def State.atClock (s : State) (n : Nat) : State := { s with clk := n }
/-- The state with field supplies. -/
def State.fielded (s : State) : State := { s with pwr := { s.pwr with vfld := Vector.replicate 4 true } }
/-- The state with these modes requested and in force. -/
def State.modesOn (s : State) (m : Nat) : State := (s.put ⟨.SYS_MODE, 0, 8⟩ m).put ⟨.SYS_MODE_EFF, 0, 32⟩ m
end Sys2Proof.Machine
namespace Sys2Proof.Tests
open Sys2Proof.Machine
/-- A module in service, its groups alive, no mode requested. -/
def live : State := { State.reset with
  pwr := { PwrSt.initial with life := .up, released := true, restored := true, alive := Vector.replicate 4 true } }.modesOn 0
/-- R262, R264: engine 0 runs at word 5, which holds these fields. -/
def stepping (op ra rb x imm : Nat) (wk : Nat := 0) : State :=
  ((live.putMem (stepOffset 5) (op + 512 * wk + 4096 * ra + 65536 * rb + 1048576 * x + 2 ^ 32 * imm) 8).put F.ENG_STATUS_STATE 1 0).put
    F.ENG_STATUS_PC 5 0
end Sys2Proof.Tests
namespace Sys2Proof.Tests
open Sys2Proof.Machine
/-- Converter 0 of group 3 converts track 0, whose voltage lies beyond 1.1 FS. -/
def declaring : State := { ((live.doing 3 0 .visit).put F.CV_STATUS_RUNNING 1 3 0).put ⟨.CVM_ENTRY, 0, 7⟩ 0x20 3 0 with
  cells := live.cells.set 3 { live.cells[3] with tracks := Vector.replicate 24 (|Config.point 3 0x3A 0| + 1) } }
/-- Cell 11 of group 3 is an integrator at 2.6 V. -/
def clipping : State := { (live.put F.CELL_STATUS_ACTIVE 1 3 11).put ⟨.CELLM_CFG, 0, 4⟩ 2 3 11 with
  cells := live.cells.set 3 { live.cells[3] with volts := Vector.replicate 12 (.rest (13 / 5)) } }
theorem clipping_clips : clipping.cellClips 3 11 = true := by
  rw [State.cellClips, Bool.and_eq_true, Bool.or_eq_true]
  exact ⟨by decide +kernel, Or.inr (by decide +kernel)⟩
theorem declaring_may : declaring.mayDeclare 3 0 true = true := by
  have a : declaring.modNode 3 0 = |Config.point 3 0x3A 0| + 1 := by rfl
  have b : declaring.modScale 3 0 = Config.point 3 0x3A 0 / 2 := by rfl
  have c : (declaring.alive 3 && declaring.modRuns 3 0 && (declaring.modHold 3 0).isNone) = true := by decide +kernel
  have d := abs_nonneg (Config.point 3 0x3A 0)
  simp only [State.mayDeclare, a, b, c, Bool.true_and, abs_div, abs_of_pos (add_pos_of_nonneg_of_pos d one_pos), Bool.and_eq_true,
    decide_eq_true_eq, beq_iff_eq, abs_two]
  exact ⟨by linarith, by simpa using by linarith⟩
end Sys2Proof.Tests

namespace Sys2Proof.Machine
/-- The state with one public key in every slot (R92). -/
def State.withKey (s : State) (k : Nat × Nat) : State := { s.put F.CFG_KEYS_SIGN_PROG 255 with
  flash := { s.flash with signKeys := Vector.replicate 8 k } }
end Sys2Proof.Machine
namespace Sys2Proof.Tests
open Sys2Proof.Machine
/-- R84 to R90: a full stream of one frame, for the die of region 0, whose words are 0. -/
def fullImg : List Byte :=
  leBytes 0x1000000000001000001C00102726453560100424E5653 23 ++ List.replicate 37 0 ++ leBytes 0xD21FF8E0 4 ++
  List.replicate 252 0 ++ leBytes 0x1605C25F36E61F1996305D4E2DAD6B62CC6CBF5569449CAAEDB6501667E65321 32 ++
  leBytes 0x1605C25F36E61F1996305D4E2DAD6B62CC6CBF5569449CAAEDB65016D68D2884 32 ++
  leBytes 0x1605C25F36E61F1996305D4E2DAD6B62CC6CBF5569449CAAEDB65016D68D2884 32 ++ leBytes 0xD68D2884 4 ++ List.replicate 32 0
/-- A public key under which its signature verifies. -/
def fullKey : Nat × Nat :=
  (57259034957125815521378652502084092465066513374356819959275778561545015832471,
   53773198283188523323237262418160238481218234369615158998740593942493636799479)
/-- R102: a region stream of one frame, built for region 0 (R85). -/
def regionImg : List Byte :=
  leBytes 0x1000000000001000001C00202726453560100424E5653 23 ++ List.replicate 37 0 ++ leBytes 0x9F784C17 4 ++
  List.replicate 252 0 ++ leBytes 0x3AF99167C5AE76D2ACD1E8E73DA8F394D5F98F2A083C3FAC21C7B4067E65321 32 ++
  leBytes 0x3AF99167C5AE76D2ACD1E8E73DA8F394D5F98F2A083C3FAC21C7B40562F09E0 32 ++
  leBytes 0x3AF99167C5AE76D2ACD1E8E73DA8F394D5F98F2A083C3FAC21C7B40562F09E0 32 ++ leBytes 0x562F09E0 4 ++ List.replicate 32 0
def regionImgKey : Nat × Nat :=
  (38186984912617140528726003356196638792653730806118456931097406742164708134423,
   15629098194171173337931964126385331136392669233138432942383850303733021403383)
/-- R286, R287: a policy image of the five sections that stand once, their contents 0. -/
def policyImg : List Byte :=
  leBytes 0x500000AC40300726453560100504E5653 17 ++ List.replicate 43 0 ++
  leBytes 0x100000008A0000000067CC5725D000008100000009000000005F2A8E8C4 32 ++
  leBytes 0x50000009F0000000082035E21C00000050000009A000000007B872B190 32 ++
  leBytes 0x48674BC70000000400000A400000000B2035E21C 20 ++ List.replicate 2484 0 ++
  leBytes 0x6130BB5C748A0F5BE848717A44B58B6AEAC463DB9905C3D0887C4B7DAEFF1965 32 ++
  leBytes 0x6130BB5C748A0F5BE848717A44B58B6AEAC463DB9905C3D0887C4B7DAEFF1965 32 ++
  leBytes 0x6130BB5C748A0F5BE848717A44B58B6AEAC463DB9905C3D0887C4B7DAEFF1965 32 ++ List.replicate 32 0
def policyKey : Nat × Nat :=
  (21622994383376190703580849322173447876064886194329893175916544849648661826828,
   98293206346045522450339103007746522833301123424851619627555757827568026642144)
end Sys2Proof.Tests

namespace Sys2Proof.Tests

open Sys2Proof Sys2Proof.Machine

/-! ### Check values of the standards that the spec names -/

/-- The check value of CRC-32C over "123456789". -/
theorem test_crc32c : crc32c (leBytes 0x393837363534333231 9) = 0xE3069283 := by decide +kernel

/-- The check value of CRC-32 of IEEE 802.3 over "123456789". -/
theorem test_crc32 : crc32 (leBytes 0x393837363534333231 9) = 0xCBF43926 := by decide +kernel

/-- FIPS 180-4: SHA-256 of "abc". -/
theorem test_sha256 : sha256 [0x61, 0x62, 0x63] = 0xBA7816BF8F01CFEA414140DE5DAE2223B00361A396177A9CB410FF61F20015AD := by
  decide +kernel

/-- Test case 13 of the GCM specification: AES-256, a key and an IV of zeros, no text. -/
theorem test_gcmTag : gcmTag (List.replicate 32 0) (List.replicate 12 0) [] [] =
    leBytes 0x8B73CBC4F1B463A9B93645C7FB8A0F53 16 := by decide +kernel

/-! ### The spec's worked examples -/

/-- Offsets of the examples of chapters 7, 9, 11 and 12. -/
theorem test_offsets :
    RegRef.offset ⟨.CV_SEQ, 1, 0, 0⟩ = 0x142010 ∧ RegRef.offset ⟨.CV_ENTRY, 1, 2, 0⟩ = 0x144040 ∧
    RegRef.offset ⟨.DDS_FTW_LO, 0, 0, 0⟩ = 0x10D004 ∧ RegRef.offset ⟨.DAC_VALUE, 1, 1, 0⟩ = 0x14C024 ∧
    RegRef.offset ⟨.TRK_TIMING, 0, 0, 0⟩ = 0x03000C ∧ RegRef.offset ⟨.MON_HI, 5, 0, 0⟩ = 0x060058 ∧
    RegRef.offset ⟨.LIMIT_STAT, 5, 0, 0⟩ = 0x060814 ∧ RegRef.offset ⟨.ENG_ENTRY, 2, 0, 0⟩ = 0x050104 := by decide +kernel

/-- The step words of the pressure trip: wait DOORBELL with SETF, MOVI, CLOCK, wait TIME with WRI, BR. -/
theorem test_stepFields :
    stepFields 0x000000080010020B = ⟨0x0B, 0, 1, 0, 0, 1, 8⟩ ∧ stepFields 0x00060A0000004002 = ⟨0x02, 0, 0, 4, 0, 0, 0x60A00⟩ ∧
    stepFields 0x1DCD650000002013 = ⟨0x13, 0, 0, 2, 0, 0, 500000000⟩ ∧ stepFields 0x0000002000040688 = ⟨0x08, 2, 3, 0, 4, 0, 0x20⟩ ∧
    stepFields 0x000001000400000C = ⟨0x0C, 0, 0, 0, 0, 0x40, 0x100⟩ := by decide +kernel

/-- Its second word, executed: D4 := 06_0A00h, and the engine goes on with the next word. -/
theorem test_stepMovi :
    (match exec (.stepMovi 0) (stepping 2 4 0 0 0x60A00) with
     | .next t => t.r .ENG_D 0 4 == 0x60A00 && t.f F.ENG_STATUS_PC 0 == 6
     | _ => false) = true := by decide +kernel

/-- Chapter 7: record 01F4h of the pressure loop is 01F4_0090_003D_70A4h. -/
theorem test_record : (⟨0x3D70A4, 0, 0, 0⟩ : Rec).cell0 9 0x1F4 = 0x01F40090003D70A4 := by decide +kernel

/-! ### The queue -/

/-- On an empty queue, before the supply, the block idles; a command in front is taken. -/
theorem test_step :
    (match step State.reset with | .next t => t.clk == 0 && t.time == 0 && t.tx == [] | _ => false) = true ∧
    (match step { live with pending := [.ppsOutFall, .ppsInEdge] } with | .next t => t.pending == [.ppsInEdge] | _ => false) = true := by
  decide +kernel

/-! ### Commands that are not well formed -/

theorem test_dipEnd_long : (Instr.dipEnd 1000).wellFormed = false := by decide
theorem test_scrubWord_beyond : (Instr.scrubWord (some 0) 17360 [0] false).wellFormed = false := by decide
theorem test_scrubWord_die : (Instr.scrubWord none 31744 [0] false).wellFormed = false := by decide
theorem test_scrubWord_twice : (Instr.scrubWord none 0 [5, 5] false).wellFormed = false := by decide
theorem test_scrubWord_none : (Instr.scrubWord none 0 [] false).wellFormed = false := by decide
theorem test_dmaDescriptorFetch_short : (Instr.dmaDescriptorFetch 0 [0, 0, 0]).wellFormed = false := by decide
theorem test_dmaBurstComplete_long : (Instr.dmaBurstComplete 0 true (List.replicate 17 0)).wellFormed = false := by decide
theorem test_ringPacketReceive_short : (Instr.ringPacketReceive .west [0, 0]).wellFormed = false := by decide
theorem test_ringPacketReceive_long : (Instr.ringPacketReceive .west (List.replicate 20 0)).wellFormed = false := by decide
theorem test_ringMapBroadcast_long : (Instr.ringMapBroadcast (List.replicate 65 0) true).wellFormed = false := by decide
theorem test_census_long : (Instr.census .west (List.replicate 65 0)).wellFormed = false := by decide
theorem test_map_long : (Instr.map .west 0 0 (List.replicate 65 0) true).wellFormed = false := by decide
theorem test_hostAccess_empty : (Instr.hostAccess 0 0 0 false 0).wellFormed = false := by decide
theorem test_hostAccess_wide : (Instr.hostAccess 0 0 9 false 0).wellFormed = false := by decide
theorem test_hostBusMaster_long : (Instr.hostBusMaster true (List.replicate 17 0)).wellFormed = false := by decide
theorem test_ethFrame_long : (Instr.ethFrameReceive (.echo 0 0 (List.replicate 1473 0))).wellFormed = false := by decide +kernel
theorem test_logEntry_none : (Instr.logEntryQueue 0 0 []).wellFormed = false := by decide
theorem test_logEntry_parts : (Instr.logEntryQueue 0 0 (List.replicate 7 [])).wellFormed = false := by decide
theorem test_logEntry_long : (Instr.logEntryQueue 0 0 [List.replicate 105 0]).wellFormed = false := by decide

/-! ### What the obligations assume -/

/-- A command waits in front. -/
theorem witness_StepRunsFront : ∃ s : State, ∃ c : Instr, ∃ rest : List Instr, s.pending = c :: rest :=
  ⟨{ live with pending := [.ppsOutFall] }, .ppsOutFall, [], rfl⟩

/-- An empty queue: without a supply, while the boot ROM runs, and in service with nothing waiting for its edge. -/
theorem witness_EmptyQueueTicks :
    (∃ s : State, s.pending = [] ∧ (s.pwr.life = .off ∨ s.pwr.life = .collapsed)) ∧
    (∃ s : State, s.pending = [] ∧ s.pwr.life ≠ .off ∧ s.pwr.life ≠ .collapsed ∧ s.lim.due = [] ∧
      (∀ (g : Grp) (n : Cv), (s.cv g n).acts = []) ∧ (∀ g : Grp, s.spare[g].move = .none) ∧ s.up = false) ∧
    (∃ s : State, s.pending = [] ∧ s.pwr.life ≠ .off ∧ s.pwr.life ≠ .collapsed ∧ s.lim.due = [] ∧
      (∀ (g : Grp) (n : Cv), (s.cv g n).acts = []) ∧ (∀ g : Grp, s.spare[g].move = .none) ∧ s.up = true) :=
  ⟨⟨State.reset, by decide +kernel⟩, ⟨{ State.reset with pwr := { PwrSt.initial with life := .boot } }, by decide +kernel⟩,
    ⟨live, by decide +kernel⟩⟩

/-- A safe state with a command in front, and the state that its step answers. -/
theorem witness_StepKeepsSafe : ∃ s t : State, s.Safe ∧ s.pending ≠ [] ∧ s.steps t := by
  refine ⟨{ live with pending := [.ppsOutFall] }, _, by decide +kernel, by decide +kernel, rfl⟩

section

set_option maxRecDepth 100000
set_option Elab.async false

/-- What `Obligations.StepWordsGiveValues` assumes, clause by clause. -/
theorem witness_StepWordsGiveValues :
    (∃ s : State, ∃ e : Eng, ∃ w : StepWord, s.slot e w ∧ w.op = 0x02) ∧
    (∃ s : State, ∃ e : Eng, ∃ w : StepWord, s.slot e w ∧ w.op = 0x03) ∧
    (∃ s : State, ∃ e : Eng, ∃ w : StepWord, s.slot e w ∧ w.op = 0x04) ∧
    (∃ s : State, ∃ e : Eng, ∃ w : StepWord, s.slot e w ∧ w.op = 0x05) ∧
    (∃ s : State, ∃ e : Eng, ∃ w : StepWord, s.slot e w ∧ w.op = 0x0A) ∧
    (∃ s : State, ∃ e : Eng, ∃ w : StepWord, s.slot e w ∧ w.op = 0x13) := by
  refine ⟨?_, ?_, ?_, ?_, ?_, ?_⟩
  · refine ⟨stepping 2 15 0 0 4294967295, 0, stepFields ((stepping 2 15 0 0 4294967295).stepWord 5), ?_⟩
    decide +kernel
  · refine ⟨(stepping 3 15 1 0 0).put ⟨.ENG_D, 0, 32⟩ 7 0 1, 0, stepFields (((stepping 3 15 1 0 0).put ⟨.ENG_D, 0, 32⟩ 7 0 1).stepWord 5),
    ?_⟩
    decide +kernel
  · refine ⟨(stepping 4 3 4 1 4294967295).put ⟨.ENG_D, 0, 32⟩ 0x80000000 0 3, 0, stepFields (((stepping 4 3 4 1 4294967295).put ⟨.ENG_D,
    0, 32⟩ 0x80000000 0 3).stepWord 5), ?_⟩
    decide +kernel
  · refine ⟨(stepping 5 3 4 47 2147483647).put ⟨.ENG_D, 0, 32⟩ 0x80000000 0 4, 0, stepFields (((stepping 5 3 4 47 2147483647).put ⟨.ENG_D,
    0, 32⟩ 0x80000000 0 4).stepWord 5), ?_⟩
    decide +kernel
  · refine ⟨stepping 10 1 2 0 2047999, 0, stepFields ((stepping 10 1 2 0 2047999).stepWord 5), ?_⟩
    decide +kernel
  · refine ⟨stepping 19 14 0 4 4294967295, 0, stepFields ((stepping 19 14 0 4 4294967295).stepWord 5), ?_⟩
    decide +kernel

/-- What `Obligations.StepWordsControlFlow` assumes, clause by clause. -/
theorem witness_StepWordsControlFlow :
    (∃ s : State, ∃ e : Eng, ∃ w : StepWord, s.slot e w ∧ w.op = 0x00) ∧
    (∃ s : State, ∃ e : Eng, ∃ w : StepWord, s.slot e w ∧ w.op = 0x01) ∧
    (∃ s : State, ∃ e : Eng, ∃ w : StepWord, s.slot e w ∧ w.op = 0x09) ∧
    (∃ s : State, ∃ e : Eng, ∃ w : StepWord, s.slot e w ∧ w.op = 0x0B) ∧
    (∃ s : State, ∃ e : Eng, ∃ w : StepWord, s.slot e w ∧ w.op = 0x0C) ∧
    (∃ s : State, ∃ e : Eng, ∃ w : StepWord, s.slot e w ∧ w.op = 0x0D ∧ s.f F.ENG_STATUS_DEPTH e < 8) ∧
    (∃ s : State, ∃ e : Eng, ∃ w : StepWord, s.slot e w ∧ w.op = 0x0D ∧ 8 ≤ s.f F.ENG_STATUS_DEPTH e) ∧
    (∃ s : State, ∃ e : Eng, ∃ w : StepWord, ∃ p : Nat, ∃ l : List Nat, s.slot e w ∧ w.op = 0x0E ∧ s.eng[e].stack = p :: l ∧ 16384 ≤ p) ∧
    (∃ s : State, ∃ e : Eng, ∃ w : StepWord, ∃ p : Nat, ∃ l : List Nat, s.slot e w ∧ w.op = 0x0E ∧ s.eng[e].stack = p :: l ∧ p < 16384) ∧
    (∃ s : State, ∃ e : Eng, ∃ w : StepWord, s.slot e w ∧ w.op = 0x0E ∧ s.eng[e].stack = []) := by
  refine ⟨?_, ?_, ?_, ?_, ?_, ?_, ?_, ?_, ?_, ?_⟩
  · refine ⟨stepping 0 0 0 0 0, 0, stepFields ((stepping 0 0 0 0 0).stepWord 5), ?_⟩
    decide +kernel
  · refine ⟨stepping 1 0 0 0 0, 0, stepFields ((stepping 1 0 0 0 0).stepWord 5), ?_⟩
    decide +kernel
  · refine ⟨stepping 9 1 2 447 0, 0, stepFields ((stepping 9 1 2 447 0).stepWord 5), ?_⟩
    decide +kernel
  · refine ⟨stepping 11 0 0 2 4294967295, 0, stepFields ((stepping 11 0 0 2 4294967295).stepWord 5), ?_⟩
    decide +kernel
  · refine ⟨stepping 12 0 0 63 16383, 0, stepFields ((stepping 12 0 0 63 16383).stepWord 5), ?_⟩
    decide +kernel
  · refine ⟨(stepping 13 0 0 0 16383).put F.ENG_STATUS_DEPTH 7 0, 0, stepFields (((stepping 13 0 0 0 16383).put F.ENG_STATUS_DEPTH 7
    0).stepWord 5), ?_⟩
    decide +kernel
  · refine ⟨(stepping 13 0 0 0 3).put F.ENG_STATUS_DEPTH 8 0, 0, stepFields (((stepping 13 0 0 0 3).put F.ENG_STATUS_DEPTH 8 0).stepWord
    5), ?_⟩
    decide +kernel
  · refine ⟨{ stepping 0x0E 0 0 0 0 with eng := live.eng.set 0 { live.eng[0] with stack := [16384] } }, 0, stepFields (({ stepping 0x0E 0 0 0 0 with eng := live.eng.set 0 { live.eng[0] with stack := [16384] } }).stepWord 5), 16384, [], ?_⟩
    decide +kernel
  · refine ⟨{ stepping 0x0E 0 0 0 0 with eng := live.eng.set 0 { live.eng[0] with stack := [16383] } }, 0, stepFields (({ stepping 0x0E 0 0 0 0 with eng := live.eng.set 0 { live.eng[0] with stack := [16383] } }).stepWord 5), 16383, [], ?_⟩
    decide +kernel
  · refine ⟨stepping 14 0 0 0 0, 0, stepFields ((stepping 14 0 0 0 0).stepWord 5), ?_⟩
    decide +kernel

/-- What `Obligations.StepWordsReachOut` assumes, clause by clause. -/
theorem witness_StepWordsReachOut :
    (∃ s : State, ∃ e : Eng, ∃ w : StepWord, ∃ d : Die, ∃ a : Fin 65536, s.slot e w ∧ w.op = 0x06 ∧ placeOf w.imm = .user d a ∧ s.userPort
      d = true) ∧
    (∃ s : State, ∃ e : Eng, ∃ w : StepWord, s.slot e w ∧ w.op = 0x06 ∧ (∀ d a, placeOf w.imm ≠ .user d a)) ∧
    (∃ s : State, ∃ e : Eng, ∃ w : StepWord, s.slot e w ∧ w.op = 0x07) ∧
    (∃ s : State, ∃ e : Eng, ∃ w : StepWord, s.slot e w ∧ w.op = 0x08 ∧ (s.r .ENG_D e w.rb).toNat % 4 = 0) ∧
    (∃ s : State, ∃ e : Eng, ∃ w : StepWord, s.slot e w ∧ w.op = 0x12) ∧
    (∃ s : State, ∃ e : Eng, ∃ w : StepWord,
      s.slot e w ∧
      let c := paramConverter w.imm
      w.op = 0x0F ∧ s.takesStart c.1 c.2 ∧ s.reducedOn = false) ∧
    (∃ s : State, ∃ e : Eng, ∃ w : StepWord,
      s.slot e w ∧
      let c := paramConverter w.imm
      w.op = 0x10 ∧ s.injects c.1 c.2 (Fin.ofNat 4 (bitsOf w.imm 8 2))) ∧
    (∃ s : State, ∃ e : Eng, ∃ w : StepWord,
      s.slot e w ∧
      let c := paramConverter w.imm
      w.op = 0x11 ∧ s.advances c.1 c.2) := by
  refine ⟨?_, ?_, ?_, ?_, ?_, ?_, ?_, ?_⟩
  · refine ⟨(stepping 0x06 2 0 0 0x200004).put F.FAB_CLK_LOCK 1, 0, stepFields (((stepping 0x06 2 0 0 0x200004).put F.FAB_CLK_LOCK
    1).stepWord 5), 0, 1, ?_⟩
    decide +kernel
  · refine ⟨stepping 6 2 0 63 262160, 0, stepFields ((stepping 6 2 0 63 262160).stepWord 5), ?_⟩
    refine ⟨by decide +kernel, by decide +kernel, fun d a h => ?_⟩
    have k : (match placeOf 0x40010 with | .user _ _ => true | _ => false) = false := by decide +kernel
    rw [show placeOf 0x40010 = .user d a from h] at k
    cases k
  · refine ⟨stepping 7 2 0 0 262144, 0, stepFields ((stepping 7 2 0 0 262144).stepWord 5), ?_⟩
    decide +kernel
  · refine ⟨(stepping 8 0 2 0 5).put ⟨.ENG_D, 0, 32⟩ 0x40000 0 2, 0, stepFields (((stepping 8 0 2 0 5).put ⟨.ENG_D, 0, 32⟩ 0x40000 0
    2).stepWord 5), ?_⟩
    decide +kernel
  · refine ⟨stepping 18 0 0 0 7, 0, stepFields ((stepping 18 0 0 0 7).stepWord 5), ?_⟩
    decide +kernel
  · refine ⟨(stepping 0x0F 0 0 0 34).doing 3 7 .idle, 0, stepFields (((stepping 0x0F 0 0 0 34).doing 3 7 .idle).stepWord 5), ?_⟩
    decide +kernel
  · refine ⟨((stepping 0x10 0 0 0 (34 + 256 * 3)).doing 3 7 .visit), 0, stepFields ((((stepping 0x10 0 0 0 (34 + 256 * 3)).doing 3 7
    .visit)).stepWord 5), ?_⟩
    decide +kernel
  · refine ⟨(stepping 0x11 0 0 0 34).doing 3 7 .visit, 0, stepFields (((stepping 0x11 0 0 0 34).doing 3 7 .visit).stepWord 5), ?_⟩
    decide +kernel

/-- What `Obligations.StepWordsInvalidOrWaiting` assumes, clause by clause. -/
theorem witness_StepWordsInvalidOrWaiting :
    (∃ s : State, ∃ e : Eng,
      let w := stepFields (s.stepWord (s.f F.ENG_STATUS_PC e))
      s.up = true ∧ s.released = true ∧ s.engLive e = true ∧ s.eng[e].load = none ∧ w.bad = true) ∧
    (∃ s : State, ∃ e : Eng,
      let w := stepFields (s.stepWord (s.f F.ENG_STATUS_PC e))
      s.up = true ∧ s.released = true ∧ s.engLive e = true ∧ s.eng[e].load = none ∧ w.bad = false ∧ w.op = 0x02 ∧ s.waitOver e w = false) := by
  refine ⟨?_, ?_⟩
  · refine ⟨stepping 63 0 0 0 0, 0, ?_⟩
    decide +kernel
  · refine ⟨stepping 2 0 0 0 0 1, 0, ?_⟩
    decide +kernel

/-- What `Obligations.EngineDoorbellsAndControl` assumes, clause by clause. -/
theorem witness_EngineDoorbellsAndControl :
    (∃ s : State, ∃ e : Eng, s.up = true ∧ s.eng[e].rung ≠ some s.clk) ∧
    (∃ s : State, ∃ src : Src, s.takesReg src .STEP_DOORBELL) ∧
    (∃ s : State, ∃ e : Eng, ∃ src : Src, ∃ v : Word, s.takesReg src .ENG_CTRL e ∧ F.ENG_CTRL_HALT.of v = 0 ∧ F.ENG_CTRL_RUN.of v = 1 ∧
      s.engLive e = false ∧ s.released = true) ∧
    (∃ s : State, ∃ e : Eng, ∃ src : Src, ∃ v : Word, s.takesReg src .ENG_CTRL e ∧ F.ENG_CTRL_HALT.of v = 1 ∧ s.engLive e = true ∧
      s.eng[e].load = none) := by
  refine ⟨?_, ?_, ?_, ?_⟩
  · refine ⟨live, 7, ?_⟩
    decide +kernel
  · refine ⟨live, .host, ?_⟩
    decide +kernel
  · refine ⟨live, 7, .host, 1, ?_⟩
    decide +kernel
  · refine ⟨stepping 0 0 0 0 0, 0, .host, 3, ?_⟩
    decide +kernel

/-- What `Obligations.StepFlagsAndMemory` assumes, clause by clause. -/
theorem witness_StepFlagsAndMemory :
    (∃ s : State, ∃ src : Src, s.takesReg src .STEP_FLAG_SET) ∧
    (∃ s : State, ∃ src : Src, s.takesReg src .STEP_FLAG_CLR) ∧
    (∃ s : State, ∃ src : Src, ∃ w : Fin 16384, s.takes src (stepOffset w)) ∧
    (∃ s : State, ∃ src : Src, ∃ w : Fin 16384, s.takes src (stepOffset w) ∧ s.anyEngine = false) ∧
    (∃ s : State, ∃ src : Src, ∃ w : Fin 16384, ∃ h : Half, s.takes src (stepOffset w) ∧ s.anyEngine = true ∧ h ≠ .both) := by
  refine ⟨?_, ?_, ?_, ?_, ?_⟩
  · refine ⟨live, .host, ?_⟩
    decide +kernel
  · refine ⟨live, .host, ?_⟩
    decide +kernel
  · refine ⟨live, .host, 16383, ?_⟩
    decide +kernel
  · refine ⟨live, .host, 16383, ?_⟩
    decide +kernel
  · refine ⟨stepping 0 0 0 0 0, .host, 16383, .lo, ?_⟩
    decide +kernel

/-- What `Obligations.ConverterRequests` assumes, clause by clause. -/
theorem witness_ConverterRequests :
    (∃ s : State, ∃ src : Src, ∃ g : Grp, ∃ n : Cv, s.takesReg src .CV_SEQ_CTL g n ∧ s.takesStart g n) ∧
    (∃ s : State, ∃ g : Grp, ∃ n : Cv, s.ignoresRequests g n = false ∧ (s.cv g n).run = .idle) ∧
    (∃ s : State, ∃ src : Src, ∃ g : Grp, ∃ n : Cv, s.takesReg src .CV_SEQ_CTL g n ∧ s.advances g n) ∧
    (∃ s : State, ∃ src : Src, ∃ g : Grp, ∃ n : Cv, ∃ k : Fin 4, s.takesReg src .CV_INJ_REQ g n ∧ s.injects g n k) ∧
    (∃ s : State, ∃ src : Src, ∃ g : Grp, ∃ n : Cv, ∃ k : Fin 4, s.takesReg src .CV_INJ_REQ g n ∧ s.released = true ∧ s.bit
      F.CV_INJ_REQ_PENDING k g n = true) ∧
    (∃ s : State, ∃ g : Grp, ∃ n : Cv, ∃ k : Fin 4, s.bit F.CV_INJ_REQ_PENDING k g n = true ∧ (s.cv g n).run = .visit) := by
  refine ⟨?_, ?_, ?_, ?_, ?_, ?_⟩
  · refine ⟨live.doing 3 7 .idle, .host, 3, 7, ?_⟩
    decide +kernel
  · refine ⟨live.doing 3 7 .idle, 3, 7, ?_⟩
    decide +kernel
  · refine ⟨live.doing 3 7 .visit, .host, 3, 7, ?_⟩
    decide +kernel
  · refine ⟨live.doing 3 7 .visit, .host, 3, 7, 3, ?_⟩
    decide +kernel
  · refine ⟨(live.doing 3 7 .visit).put F.CV_INJ_REQ_PENDING 8 3 7, .host, 3, 7, 3, ?_⟩
    decide +kernel
  · refine ⟨(live.doing 3 7 .visit).put F.CV_INJ_REQ_PENDING 8 3 7, 3, 7, 3, ?_⟩
    decide +kernel

/-- What `Obligations.ConverterEvents` assumes, clause by clause. -/
theorem witness_ConverterEvents :
    (∃ s : State, ∃ g : Grp, ∃ n : Cv, ∃ t, s.up = true ∧ s.alive g = true ∧ (s.cv g n).opened = none ∧ s.windowDue g n = some t ∧ t ≤
      s.clk ∧ s.clk < t + 16) ∧
    (∃ s : State, ∃ g : Grp, ∃ n : Cv, ∃ c : Nat, s.up = true ∧ s.alive g = true ∧ (s.cv g n).run = .visit ∧ (s.cv g n).opened = some c ∧
      s.outputInstant (s.entryConversion g n (s.f F.CV_STATUS_ENTRY g n)) c = true) ∧
    (∃ s : State, ∃ g : Grp, ∃ n : Cv, ∃ k : Fin 4, ∃ c : Nat, s.up = true ∧ s.alive g = true ∧ (s.cv g n).run = .inj k ∧ (s.cv g
      n).opened = some c ∧ s.outputInstant (s.slotConversion g n k) c = true) ∧
    (∃ s : State, ∃ g : Grp, ∃ n : Cv, ∃ k : Fin 4, s.released = true ∧ s.clk % 16 = 0 ∧ s.parkedOut g n = false ∧ s.readySlot g n = some
      k ∧ (s.cv g n).run = .idle) ∧
    (∃ s : State, ∃ g : Grp, ∃ n : Cv, ∃ k : Fin 4, s.released = true ∧ s.clk % 16 = 0 ∧ s.parkedOut g n = false ∧ s.readySlot g n = some
      k ∧ (s.cv g n).run = .visit ∧ (s.entryConversion g n (s.f F.CV_STATUS_ENTRY g n)).defer = false) ∧
    (∃ s : State, ∃ g : Grp, ∃ n : Cv, (s.cv g n).run = .restart ∧ s.alive g = true ∧ s.mode parked = false ∧ s.slotPending g n = false ∧
      (s.cv g n).stopping = false ∧ s.seqOnce g n = false ∧ s.spare[g].move = .none ∧ s.restartEdge g n ≤ s.clk) ∧
    (∃ s : State, ∃ g : Grp, ∃ n : Cv, s.served g n = false ∧ (s.cv g n).run ≠ .unserved ∧ s.spare[g].promote ≠ some n) := by
  refine ⟨?_, ?_, ?_, ?_, ?_, ?_, ?_⟩
  · refine ⟨live.doing 3 7 .visit, 3, 7, 0, ?_⟩
    decide +kernel
  · refine ⟨(live.doing 3 7 .visit (some 0)).atClock 6144, 3, 7, 0, ?_⟩
    decide +kernel
  · refine ⟨((live.doing 3 7 (.inj 3) (some 0)).put F.CV_INJ_REQ_PENDING 8 3 7).atClock 6144, 3, 7, 3, 0, ?_⟩
    decide +kernel
  · refine ⟨(live.doing 3 7 .idle).put F.CV_INJ_REQ_PENDING 8 3 7, 3, 7, 3, ?_⟩
    decide +kernel
  · refine ⟨(live.doing 3 7 .visit).put F.CV_INJ_REQ_PENDING 8 3 7, 3, 7, 3, ?_⟩
    decide +kernel
  · refine ⟨(live.doing 3 7 .restart).atClock 8207, 3, 7, ?_⟩
    decide +kernel
  · refine ⟨(live.doing 3 7 .visit).put F.CV_STATUS_FAILED 1 3 7, 3, 7, ?_⟩
    decide +kernel

/-- What `Obligations.ConverterControl` assumes, clause by clause. -/
theorem witness_ConverterControl :
    (∃ s : State, ∃ src : Src, ∃ g : Grp, ∃ n : Cv, ∃ v : Word, s.takesReg src .CV_CTRL g n ∧ s.interleaved g n = false ∧ s.b
      F.CV_CTRL_ILV g n = false ∧ F.CV_CTRL_ENABLE.of v = 1 ∧ F.CV_CTRL_ILV.of v = 0 ∧ s.b F.CV_CTRL_ENABLE g n = false) ∧
    (∃ s : State, ∃ src : Src, ∃ g : Grp, ∃ n : Cv, ∃ v : Word, s.takesReg src .CV_CTRL g n ∧ s.interleaved g n = false ∧ s.b
      F.CV_CTRL_ILV g n = false ∧ F.CV_CTRL_ENABLE.of v = 0 ∧ F.CV_CTRL_ILV.of v = 0 ∧ s.b F.CV_CTRL_ENABLE g n = true) ∧
    (∃ s : State, ∃ src : Src, ∃ g : Grp, ∃ n : Cv, ∃ v : Word, s.takesReg src .CV_CTRL g n ∧ s.interleaved g n = false ∧ s.b
      F.CV_CTRL_ILV g n = false ∧ n.val % 2 = 0 ∧ F.CV_CTRL_ENABLE.of v = 0 ∧ F.CV_CTRL_ILV.of v = 1 ∧ s.b F.CV_CTRL_ENABLE g n = false ∧
      s.b F.CV_CTRL_ENABLE g (oddOf n) = false ∧ F.CV_SEQ_LAST.of (s.seqWord g n .CV_SEQ .CVM_SEQ) = 0) ∧
    (∃ s : State, ∃ g : Grp, ∃ n : Cv, (s.cv g n).run = .off ∧ s.alive g = true ∧ s.released = true ∧ s.reducedOn = false ∧ s.served g n =
      true ∧ s.mode parked = false ∧ s.seqOnce g n = false ∧ s.cal[g].run = none ∧ s.spare[g].move = .none) ∧
    (∃ s : State, ∃ g : Grp, ∃ n : Cv, (s.cv g n).reduced = false ∧ (s.cv g n).run ≠ .unserved ∧ (s.cv g n).run ≠ .off ∧ s.cal[g].run =
      none ∧ s.spare[g].move = .none) := by
  refine ⟨?_, ?_, ?_, ?_, ?_⟩
  · refine ⟨live, .host, 3, 7, F.CV_CTRL_BERTH.put (F.CV_CTRL_ENABLE.put 0 1) 1023, ?_⟩
    decide +kernel
  · refine ⟨live.doing 3 7 .visit, .host, 3, 7, 0, ?_⟩
    decide +kernel
  · refine ⟨live, .host, 3, 6, F.CV_CTRL_ILV.put 0 1, ?_⟩
    decide +kernel
  · refine ⟨live, 0, 0, ?_⟩
    decide +kernel
  · refine ⟨live.doing 3 7 .visit, 3, 7, ?_⟩
    decide +kernel

/-- What `Obligations.SequenceCommit` assumes, clause by clause. -/
theorem witness_SequenceCommit :
    (∃ s : State, ∃ src : Src, ∃ g : Grp, ∃ n : Cv, s.takesReg src .CV_COMMIT g n ∧ s.b F.CV_SHADOW_PENDING g n = false ∧ s.governor g n =
      n ∧ s.setBad g n = none) ∧
    (∃ s : State, ∃ src : Src, ∃ g : Grp, ∃ n : Cv, s.takesReg src .CV_COMMIT g n ∧ s.b F.CV_SHADOW_PENDING g n = true) ∧
    (∃ s : State, ∃ src : Src, ∃ g : Grp, ∃ n : Cv, ∃ i : Nat, s.takesReg src .CV_COMMIT g n ∧ s.b F.CV_SHADOW_PENDING g n = false ∧
      s.governor g n = n ∧ s.setBad g n = some i) ∧
    (∃ s : State, ∃ g : Grp, ∃ n : Cv, s.Wf ∧ (s.cv g n).handed = true ∧ (s.cv g n).handedAt + 12 ≤ s.clk) := by
  refine ⟨?_, ?_, ?_, ?_⟩
  · refine ⟨live, .host, 3, 7, ?_⟩
    decide +kernel
  · refine ⟨live.put F.CV_SHADOW_PENDING 1 3 7, .host, 3, 7, ?_⟩
    decide +kernel
  · refine ⟨(live.put F.CV_SEQ_LAST 15 3 7).put ⟨.CV_ENTRY, 0, 32⟩ 0xFFFFFFFF 3 7 15, .host, 3, 7, 46, ?_⟩
    decide +kernel
  · refine ⟨({ live with conv := live.conv.set 3 (live.conv[3].set 7 { live.conv[3][7] with handed := true }) }).atClock 12, 3, 7, ?_⟩
    decide +kernel

/-- What `Obligations.InputsAndReferences` assumes, clause by clause. -/
theorem witness_InputsAndReferences :
    (∃ s : State, ∃ src : Src, ∃ g : Grp, ∃ i : Ain, ∃ v : Word, s.takesReg src .INP_CFG g i ∧ (s.taken g i = false ∨ F.INP_CFG_MODE.of v
      = s.f F.INP_CFG_MODE g i)) ∧
    (∃ s : State, ∃ src : Src, ∃ g : Grp, ∃ i : Ain, ∃ v : Word, s.takesReg src .INP_CFG g i ∧ s.taken g i = true ∧ s.reducedOn = false ∧
      F.INP_CFG_MODE.of v ≠ s.f F.INP_CFG_MODE g i) ∧
    (∃ s : State, ∃ src : Src, ∃ g : Grp, ∃ v : Word, s.takesReg src .REF_CFG g ∧ F.REF_CFG_SEL.of v ≠ 3 ∧ F.REF_CFG_SEL.of v ≠ s.f
      F.REF_CFG_SEL g) ∧
    (∃ s : State, ∃ src : Src, ∃ g : Grp, ∃ v : Word, s.takesReg src .REF_CFG g ∧ F.REF_CFG_SEL.of v = 3) ∧
    (∃ s : State, ∃ g : Grp, s.alive g = true ∧ s.b F.REF_STATUS_INT_SETTLED g = false ∧ s.pwr.aliveAt[g] + 3276800 ≤ s.clk) ∧
    (∃ s : State, ∃ g : Grp, ∃ m : Mod, ∃ p : Bool, s.mayDeclare g m p = true ∧ s.ovl[g][m] = []) ∧
    (∃ s : State, ∃ g : Grp, ∃ m : Mod, s.ovrOver g m = true) := by
  refine ⟨?_, ?_, ?_, ?_, ?_, ?_, ?_⟩
  · refine ⟨live, .host, 3, 15, F.INP_CFG_MODE.put 0 1, ?_⟩
    decide +kernel
  · refine ⟨(live.put F.CELL_SHADOW_PENDING 1 3).put F.CELL_TRACK_SRC 15 3 23, .host, 3, 15, F.INP_CFG_MODE.put 0 1, ?_⟩
    decide +kernel
  · refine ⟨live, .host, 3, F.REF_CFG_SEL.put 0 2, ?_⟩
    decide +kernel
  · refine ⟨live, .host, 3, F.REF_CFG_SEL.put 0 3, ?_⟩
    decide +kernel
  · refine ⟨live.atClock 3276800, 3, ?_⟩
    decide +kernel
  · refine ⟨declaring, 3, 0, true, ?_⟩
    exact ⟨declaring_may, by decide +kernel⟩
  · refine ⟨{ live.atClock 1280 with ovl := live.ovl.set 3 (live.ovl[3].set 8 [⟨0, none, [(0, true)]⟩]) }, 3, 8, ?_⟩
    decide +kernel

/-- What `Obligations.CalibrationStarts` assumes, clause by clause. -/
theorem witness_CalibrationStarts :
    (∃ s : State, ∃ src : Src, ∃ g : Grp, ∃ v : Word, ∃ cls : Fin 3, ∃ target : Fin 16,
      s.runMayStart g cls target = true ∧
      let traced := s.externalTrace cls = false ∨ s.f F.CAL_REF_DECL_DECL g ≠ 0
      s.takesReg src .CAL_CTRL g ∧ F.CAL_CTRL_RUN.of v = 1 ∧ F.CAL_CTRL_ABORT.of v = 0 ∧ F.CAL_CTRL_FACTORY.of v = 0 ∧ F.CAL_CTRL_CLASS.of
        v = cls.val ∧ F.CAL_CTRL_TARGET.of v = target.val ∧ traced) ∧
    (∃ s : State, ∃ src : Src, ∃ g : Grp, ∃ v : Word, ∃ cls : Fin 3, ∃ target : Fin 16,
      s.runMayStart g cls target = true ∧
      let traced := s.externalTrace cls = false ∨ s.f F.CAL_REF_DECL_DECL g ≠ 0
      s.takesReg src .CAL_CTRL g ∧ F.CAL_CTRL_RUN.of v = 1 ∧ F.CAL_CTRL_ABORT.of v = 0 ∧ F.CAL_CTRL_FACTORY.of v = 0 ∧ F.CAL_CTRL_CLASS.of
        v = cls.val ∧ F.CAL_CTRL_TARGET.of v = target.val ∧ (¬ traced)) ∧
    (∃ s : State, ∃ g : Grp, ∃ cls : Fin 3, ∃ target : Fin 16,
      s.runMayStart g cls target = true ∧
      let traced := s.externalTrace cls = false ∨ s.f F.CAL_REF_DECL_DECL g ≠ 0
      target.val < 8 ∧ s.backgroundTurn g = some (cls.val * 8 + target.val) ∧ traced) := by
  refine ⟨?_, ?_, ?_⟩
  · refine ⟨live, .host, 3, F.CAL_CTRL_TARGET.put (F.CAL_CTRL_CLASS.put (F.CAL_CTRL_RUN.put 0 1) 2) 11, 2, 11, ?_⟩
    decide +kernel
  · refine ⟨live.put F.CAL_CFG_TRACE 2, .host, 3, F.CAL_CTRL_TARGET.put (F.CAL_CTRL_CLASS.put (F.CAL_CTRL_RUN.put 0 1) 1) 7, 1, 7, ?_⟩
    decide +kernel
  · refine ⟨{ ((live.modesOn 16).put F.CAL_INTERVAL_INTERVAL 1).put ⟨.CAL_HOURS, 0, 32⟩ 1 with cal := live.cal.set 3 { live.cal[3] with turn := 14 } }, 3, 1, 7, ?_⟩
    decide +kernel

/-- What `Obligations.CalibrationRuns` assumes, clause by clause. -/
theorem witness_CalibrationRuns :
    (∃ s : State, ∃ g : Grp, ∃ r : CalRun, s.cal[g].run = some r ∧ s.readingDue g = true ∧ r.index % (3 * r.paths.length + 1) ≠ 0 ∧
      r.index + 1 < s.runLength r) ∧
    (∃ s : State, ∃ g : Grp, ∃ r : CalRun, s.cal[g].run = some r ∧ s.readingDue g = true ∧ s.f F.CAL_STATUS_STATE g = 1) ∧
    (∃ s : State, ∃ src : Src, ∃ g : Grp, ∃ v : Word, ∃ r : CalRun, s.takesReg src .CAL_CTRL g ∧ F.CAL_CTRL_ABORT.of v = 1 ∧
      F.CAL_CTRL_FACTORY.of v = 0 ∧ s.cal[g].run = some r ∧ s.f F.CAL_STATUS_STATE g = 1) ∧
    (∃ s : State, ∃ src : Src, ∃ g : Grp, ∃ v : Word, ∃ r : CalRun, s.takesReg src .CAL_CTRL g ∧ F.CAL_CTRL_ABORT.of v = 1 ∧
      F.CAL_CTRL_FACTORY.of v = 0 ∧ s.cal[g].run = some r ∧ s.f F.CAL_STATUS_STATE g = 4 ∧ r.cls = 2 ∧ s.f F.DAC_SPARE_ROLE g ≠ 2) ∧
    (∃ s : State, ∃ src : Src, ∃ g : Grp, ∃ v : Word, ∃ r : CalRun, s.takesReg src .CAL_CTRL g ∧ F.CAL_CTRL_ABORT.of v = 1 ∧
      F.CAL_CTRL_FACTORY.of v = 0 ∧ s.cal[g].run = some r ∧ s.f F.CAL_STATUS_STATE g = 4 ∧ r.cls = 0 ∧ s.f F.CV8_STATUS_ROLE g = 2) ∧
    (∃ s : State, ∃ src : Src, ∃ g : Grp, ∃ v : Word,
      s.takesReg src .CAL_CTRL g ∧ F.CAL_CTRL_ABORT.of v = 0 ∧ F.CAL_CTRL_RUN.of v = 0 ∧ F.CAL_CTRL_FACTORY.of v = 1 ∧ s.f
        F.CAL_STATUS_STATE g = 0 ∧
      let cls := F.CAL_CTRL_CLASS.of v
      let target := F.CAL_CTRL_TARGET.of v
      let y := s.cv g (cvOf target)
      target < classSize cls ∧ (cls ≠ 0 ∨ y.run.works = false ∨ y.reduced = true)) ∧
    (∃ s : State, ∃ src : Src, ∃ g : Grp, ∃ v : Word,
      s.takesReg src .CAL_CTRL g ∧ F.CAL_CTRL_ABORT.of v = 0 ∧ F.CAL_CTRL_RUN.of v = 0 ∧ F.CAL_CTRL_FACTORY.of v = 1 ∧ s.f
        F.CAL_STATUS_STATE g = 0 ∧
      let cls := F.CAL_CTRL_CLASS.of v
      let target := F.CAL_CTRL_TARGET.of v
      let y := s.cv g (cvOf target)
      target < classSize cls ∧ cls = 0 ∧ y.run.works = true ∧ y.reduced = false ∧ (s.fieldSet g 0 target).isSome = true) ∧
    (∃ s : State, ∃ g : Grp, ∃ r : CalRun, ∃ f : FieldSet, s.cal[g].run = some r ∧ s.f F.CAL_STATUS_STATE g = 5 ∧ r.cls = 2 ∧ s.f
      F.DAC_SPARE_ROLE g ≠ 2 ∧ r.formed = some f) := by
  refine ⟨?_, ?_, ?_, ?_, ?_, ?_, ?_, ?_⟩
  · refine ⟨{ live.put F.CAL_STATUS_STATE 1 3 with clk := 2424832, cal := live.cal.set 3 { live.cal[3] with run := some (⟨0, 7, false, [0], 1, [], [], [], [], none, none⟩) } }, 3, ⟨0, 7, false, [0], 1, [], [], [], [], none, none⟩, ?_⟩
    decide +kernel
  · refine ⟨{ live.put F.CAL_STATUS_STATE 1 3 with clk := 2424832, cal := live.cal.set 3 { live.cal[3] with run := some (⟨0, 7, false, [0], 1, [], [], [], [], none, none⟩) } }, 3, ⟨0, 7, false, [0], 1, [], [], [], [], none, none⟩, ?_⟩
    decide +kernel
  · refine ⟨{ live.put F.CAL_STATUS_STATE 1 3 with cal := live.cal.set 3 { live.cal[3] with run := some (⟨0, 7, false, [0], 1, [], [], [], [], none, none⟩) } }, .host, 3, F.CAL_CTRL_ABORT.put 0 1, ⟨0, 7, false, [0], 1, [], [], [], [], none, none⟩, ?_⟩
    decide +kernel
  · refine ⟨{ live.put F.CAL_STATUS_STATE 4 3 with cal := live.cal.set 3 { live.cal[3] with run := some (⟨2, 11, false, [0], 1, [], [], [], [], none, none⟩) } }, .host, 3, F.CAL_CTRL_ABORT.put 0 1, ⟨2, 11, false, [0], 1, [], [], [], [], none, none⟩, ?_⟩
    decide +kernel
  · refine ⟨{ live.put F.CAL_STATUS_STATE 4 3 |>.put F.CV8_STATUS_ROLE 2 3 with cal := live.cal.set 3 { live.cal[3] with run := some (⟨0, 7, false, [0], 1, [], [], [], [], none, none⟩) } }, .host, 3, F.CAL_CTRL_ABORT.put 0 1, ⟨0, 7, false, [0], 1, [], [], [], [], none, none⟩, ?_⟩
    decide +kernel
  · refine ⟨live, .host, 3, F.CAL_CTRL_TARGET.put (F.CAL_CTRL_CLASS.put (F.CAL_CTRL_FACTORY.put 0 1) 2) 11, ?_⟩
    decide +kernel
  · refine ⟨{ live.doing 3 7 .visit with cal := live.cal.set 3 { live.cal[3] with sets := [(7, ⟨[], 0⟩)] } }, .host, 3, F.CAL_CTRL_TARGET.put (F.CAL_CTRL_FACTORY.put 0 1) 7, ?_⟩
    decide +kernel
  · refine ⟨{ live.put F.CAL_STATUS_STATE 5 3 with cal := live.cal.set 3 { live.cal[3] with run := some (⟨2, 11, false, [0], 1, [], [], [], [], some ⟨[], 5⟩, none⟩) } }, 3, ⟨2, 11, false, [0], 1, [], [], [], [], some ⟨[], 5⟩, none⟩, ⟨[], 5⟩, ?_⟩
    decide +kernel

/-- What `Obligations.CalibrationRegisters` assumes, clause by clause. -/
theorem witness_CalibrationRegisters :
    (∃ s : State, ∃ src : Src, ∃ g : Grp, ∃ v : Word,
      s.takesReg src .CAL_REF_DECL g ∧
      let d := F.CAL_REF_DECL_DECL.of v
      s.f F.CAL_STATUS_STATE g = 0 ∧ (d = 0 ∨ 1000000 ≤ d ∧ d ≤ 5000000)) ∧
    (∃ s : State, ∃ src : Src, ∃ g : Grp, ∃ v : Word,
      s.takesReg src .CAL_REF_DECL g ∧
      let d := F.CAL_REF_DECL_DECL.of v
      (s.f F.CAL_STATUS_STATE g ≠ 0 ∨ (0 < d ∧ (d < 1000000 ∨ 5000000 < d)))) ∧
    (∃ s : State, s.up = true ∧ s.pwr.hourDue ≤ s.clk) ∧
    (∃ s : State, s.up = true) := by
  refine ⟨?_, ?_, ?_, ?_⟩
  · refine ⟨live, .host, 3, F.CAL_REF_DECL_DECL.put 0 5000000, ?_⟩
    decide +kernel
  · refine ⟨live, .host, 3, F.CAL_REF_DECL_DECL.put 0 5000001, ?_⟩
    decide +kernel
  · refine ⟨live.atClock 589824000000, ?_⟩
    decide +kernel
  · refine ⟨live.put F.TIME_STATE_STATE 2, ?_⟩
    decide +kernel

/-- What `Obligations.ConvertersFail` assumes, clause by clause. -/
theorem witness_ConvertersFail :
    (∃ s : State, ∃ src : Src, ∃ g : Grp, ∃ n : Cv, ∃ v : Word, s.takesReg src .FAULT_CONV g ∧ F.FAULT_CONV_KEY.of v = 0xA7 ∧
      F.FAULT_CONV_DECLARE.of v = 2 ^ n.val ∧ F.FAULT_CONV_CLEAR.of v = 0 ∧ s.b F.CV_STATUS_FAILED g n = false) ∧
    (∃ s : State, ∃ g : Grp, ∃ n : Cv, s.alive g = true ∧ s.b F.CV_STATUS_FAILED g n = false) ∧
    (∃ s : State, ∃ src : Src, ∃ g : Grp, ∃ n : Cv, ∃ v : Word, s.takesReg src .FAULT_CONV g ∧ F.FAULT_CONV_KEY.of v = 0xA7 ∧
      F.FAULT_CONV_DECLARE.of v = 0 ∧ F.FAULT_CONV_CLEAR.of v = 2 ^ n.val ∧ s.b F.CV_STATUS_FAILED g n = true ∧ (s.cv g n).run ≠
      .unserved) ∧
    (∃ s : State, ∃ src : Src, ∃ g : Grp, ∃ v : Word, s.takesReg src .FAULT_CONV g ∧ F.FAULT_CONV_KEY.of v ≠ 0xA7) := by
  refine ⟨?_, ?_, ?_, ?_⟩
  · refine ⟨live.modesOn 32, .host, 3, 7, F.FAULT_CONV_DECLARE.put (F.FAULT_CONV_KEY.put 0 0xA7) 128, ?_⟩
    decide +kernel
  · refine ⟨live.doing 3 7 .visit, 3, 7, ?_⟩
    decide +kernel
  · refine ⟨(live.put F.CV_STATUS_FAILED 1 3 7).put F.FAULT_CONV_FAILED 128 3, .host, 3, 7, F.FAULT_CONV_CLEAR.put (F.FAULT_CONV_KEY.put 0
    0xA7) 128, ?_⟩
    decide +kernel
  · refine ⟨live, .host, 3, F.FAULT_CONV_CLEAR.put (F.FAULT_CONV_KEY.put 0 0xA6) 128, ?_⟩
    decide +kernel

/-- What `Obligations.SpareConverter` assumes, clause by clause. -/
theorem witness_SpareConverter :
    (∃ s : State, ∃ g : Grp, ∃ n : Cv, s.spare[g].promote = some n ∧ s.alive g = true ∧ s.f F.CV8_STATUS_ROLE g = 3 ∧ s.f
      F.CV8_STATUS_SERVES g = n.val ∧ actingEdge s.spare[g].promoteAt ≤ s.clk ∧ ((s.cv g n).run = .idle ∨ (s.cv g n).run = .stopped ∨
      (s.cv g n).run = .restart)) ∧
    (∃ s : State, ∃ g : Grp, ∃ n : Cv, s.spare[g].promote = some n ∧ s.alive g = true ∧ s.f F.CV8_STATUS_ROLE g = 3 ∧ s.f
      F.CV8_STATUS_SERVES g = n.val ∧ actingEdge s.spare[g].promoteAt ≤ s.clk ∧ (s.cv g n).run = .visit ∧ (s.cv g n).stopping = false ∧
      s.slotPending g n = false) ∧
    (∃ s : State, ∃ src : Src, ∃ g : Grp, ∃ n : Cv, ∃ v : Word, s.takesReg src .FAULT_SPARE g ∧ s.mode repair = true ∧ s.alive g = true ∧
      s.b F.FAULT_SPARE_PENDING g = false ∧ F.FAULT_SPARE_TARGET.of v = n.val ∧ F.FAULT_SPARE_PROMOTE.of v = 1 ∧ F.FAULT_SPARE_RETURN.of v
      = 0 ∧ s.f F.CV8_STATUS_ROLE g = 0) ∧
    (∃ s : State, ∃ src : Src, ∃ g : Grp, ∃ n : Cv, ∃ v : Word, s.takesReg src .FAULT_SPARE g ∧ s.mode repair = true ∧ s.alive g = true ∧
      s.b F.FAULT_SPARE_PENDING g = false ∧ F.FAULT_SPARE_TARGET.of v = n.val ∧ F.FAULT_SPARE_PROMOTE.of v = 0 ∧ F.FAULT_SPARE_RETURN.of v
      = 1 ∧ s.f F.CV8_STATUS_ROLE g = 3 ∧ s.f F.CV8_STATUS_SERVES g = n.val ∧ s.b F.CV_STATUS_FAILED g n = false ∧ s.spare[g].promote =
      none) ∧
    (∃ s : State, ∃ g : Grp, ∃ n : Cv, ((s.cv g n).run = .off ∨ (s.cv g n).run = .idle ∨ (s.cv g n).run = .stopped) ∧ s.slotPending g n =
      false ∧ actingEdge s.spare[g].moveAt ≤ s.clk) := by
  refine ⟨?_, ?_, ?_, ?_, ?_⟩
  · refine ⟨({ ((live.doing 3 7 .idle).put F.CV8_STATUS_ROLE 3 3).put F.CV8_STATUS_SERVES 7 3 with spare := live.spare.set 3 { live.spare[3] with promote := some 7 } }).atClock 16, 3, 7, ?_⟩
    decide +kernel
  · refine ⟨({ (((live.modesOn 32).doing 3 7 .visit).put F.CV8_STATUS_ROLE 3 3).put F.CV8_STATUS_SERVES 7 3 with spare := live.spare.set 3 { live.spare[3] with promote := some 7 } }).atClock 16, 3, 7, ?_⟩
    decide +kernel
  · refine ⟨(live.modesOn 32).doing 3 7 .visit, .host, 3, 7, F.FAULT_SPARE_PROMOTE.put (F.FAULT_SPARE_TARGET.put 0 7) 1, ?_⟩
    decide +kernel
  · refine ⟨(((live.modesOn 32).doing 3 7 .visit).put F.CV8_STATUS_ROLE 3 3).put F.CV8_STATUS_SERVES 7 3, .host, 3, 7,
    F.FAULT_SPARE_RETURN.put (F.FAULT_SPARE_TARGET.put 0 7) 1, ?_⟩
    decide +kernel
  · refine ⟨{ (live.modesOn 32).doing 3 7 .idle with clk := 16, spare := live.spare.set 3 { live.spare[3] with move := .take 7 3 } }, 3, 7, ?_⟩
    decide +kernel

/-- What `Obligations.SpareCore` assumes, clause by clause. -/
theorem witness_SpareCore :
    (∃ s : State, ∃ src : Src, ∃ g : Grp, ∃ v : Word, s.takesReg src .DAC_SPARE g ∧ s.mode repair = true ∧ F.DAC_SPARE_REQ.of v = 1 ∧
      F.DAC_SPARE_RETURN.of v = 0 ∧ s.f F.DAC_SPARE_ROLE g = 0) ∧
    (∃ s : State, ∃ src : Src, ∃ g : Grp, ∃ v : Word, s.takesReg src .DAC_SPARE g ∧ s.mode repair = true ∧ F.DAC_SPARE_REQ.of v = 0 ∧
      F.DAC_SPARE_RETURN.of v = 1 ∧ s.f F.DAC_SPARE_ROLE g = 3 ∧ s.b F.DAC_STATUS_CORE_FAILED g (s.f F.DAC_SPARE_SERVES g) = false) ∧
    (∃ s : State, ∃ src : Src, ∃ g : Grp, ∃ v : Word, s.takesReg src .DAC_SPARE g ∧ s.mode repair = false ∧ F.DAC_SPARE_REQ.of v = 1) ∧
    (∃ s : State, ∃ g : Grp, ∃ o : Out, s.alive g = true ∧ s.coreReady g = true ∧ s.f F.DAC_SPARE_ROLE g = 1 ∧ s.f F.DAC_SPARE_SERVES g =
      o.val ∧ s.b F.DAC_STATUS_RANGE_BUSY g o = false) ∧
    (∃ s : State, ∃ src : Src, ∃ g : Grp, ∃ o : Out, ∃ v : Word, s.takesReg src .FAULT_CORE g ∧ F.FAULT_CORE_KEY.of v = 0xA7 ∧
      F.FAULT_CORE_CLEAR.of v = 2 ^ o.val) := by
  refine ⟨?_, ?_, ?_, ?_, ?_⟩
  · refine ⟨live.modesOn 32, .host, 3, F.DAC_SPARE_REQ.put (F.DAC_SPARE_TARGET.put 0 7) 1, ?_⟩
    decide +kernel
  · refine ⟨((live.modesOn 32).put F.DAC_SPARE_ROLE 3 3).put F.DAC_SPARE_SERVES 7 3, .host, 3, F.DAC_SPARE_RETURN.put 0 1, ?_⟩
    decide +kernel
  · refine ⟨live, .host, 3, F.DAC_SPARE_REQ.put 0 1, ?_⟩
    decide +kernel
  · refine ⟨((live.put F.DAC_SPARE_ROLE 1 3).put F.DAC_SPARE_SERVES 7 3).atClock 3289, 3, 7, ?_⟩
    decide +kernel
  · refine ⟨live.put F.FAULT_CORE_FAILED 128 3, .host, 3, 7, F.FAULT_CORE_CLEAR.put (F.FAULT_CORE_KEY.put 0 0xA7) 128, ?_⟩
    decide +kernel

/-- What `Obligations.CellSet` assumes, clause by clause. -/
theorem witness_CellSet :
    (∃ s : State, ∃ src : Src, ∃ g : Grp, ∃ v : Word, s.takesReg src .CELL_COMMIT g ∧ s.b F.CELL_SHADOW_PENDING g = false ∧ s.cellSetBad g
      (some v) = none ∧ s.cal[g].run = none) ∧
    (∃ s : State, ∃ src : Src, ∃ g : Grp, ∃ v : Word, ∃ i : Nat, s.takesReg src .CELL_COMMIT g ∧ s.b F.CELL_SHADOW_PENDING g = false ∧
      s.cellSetBad g (some v) = some i) ∧
    (∃ s : State, ∃ g : Grp, s.cellEdge g = true) ∧
    (∃ s : State, ∃ g : Grp, s.cells[g].takenAt + 33 ≤ s.clk) ∧
    (∃ s : State, ∃ g : Grp, s.Wf ∧ s.cells[g].handed = true ∧ s.cells[g].takenAt + 12 ≤ s.clk) := by
  refine ⟨?_, ?_, ?_, ?_, ?_⟩
  · refine ⟨live, .host, 3, F.CELL_COMMIT_AT_CV.put 0 8, ?_⟩
    decide +kernel
  · refine ⟨live, .host, 3, F.CELL_COMMIT_AT_CV.put 0 9, 0x140, ?_⟩
    decide +kernel
  · refine ⟨((live.put F.CELL_SHADOW_PENDING 1 3).put F.CELL_CFG_FUNC 2 3 11).atClock 32, 3, ?_⟩
    decide +kernel
  · refine ⟨live.atClock 33, 3, ?_⟩
    decide +kernel
  · refine ⟨{ live with clk := 12, cells := live.cells.set 3 { live.cells[3] with handed := true } }, 3, ?_⟩
    decide +kernel

/-- What `Obligations.CellEvents` assumes, clause by clause. -/
theorem witness_CellEvents :
    (∃ s : State, ∃ g : Grp, ∃ c : Cell, ∃ l : Bool, l = s.cellSource g c) ∧
    (∃ s : State, ∃ g : Grp, ∃ c : Cell, s.cellClips g c = true ∧ s.b F.CELL_STATUS_CLIP_NOW g c = false) ∧
    (∃ s : State, ∃ g : Grp, ∃ c : Cell, s.cellClips g c = false) ∧
    (∃ s : State, ∃ g : Grp, ∃ i : Ain, s.alive g = true ∧ s.inputMode g i = 1 ∧ s.b F.INP_STATUS_LIMITING g i = false) ∧
    (∃ s : State, ∃ g : Grp, ∃ i : Ain, s.b F.INP_STATUS_LIMITING g i = true) := by
  refine ⟨?_, ?_, ?_, ?_, ?_⟩
  · refine ⟨live, 3, 11, (live).cellSource 3 11, ?_⟩
    decide +kernel
  · refine ⟨clipping, 3, 11, ?_⟩
    exact ⟨clipping_clips, by decide +kernel⟩
  · refine ⟨(live.put ⟨.CELL_STATUS, 0, 32⟩ 0xFFFFFFFF 3 11).put F.CELL_STATUS_ACTIVE 0 3 11, 3, 11, ?_⟩
    decide +kernel
  · refine ⟨live.put F.INP_CFG_MODE 1 3 15, 3, 15, ?_⟩
    decide +kernel
  · refine ⟨live.put F.INP_STATUS_LIMITING 1 3 15, 3, 15, ?_⟩
    decide +kernel

/-- What `Obligations.OutputWrites` assumes, clause by clause. -/
theorem witness_OutputWrites :
    (∃ s : State, ∃ src : Src, ∃ g : Grp, ∃ o : Out, s.takesReg src .DAC_VALUE g o ∧ s.standby = false) ∧
    (∃ s : State, ∃ src : Src, ∃ g : Grp, ∃ o : Out, s.takesReg src .DAC_VALUE g o ∧ s.standby = true ∧ src ≠ .pair) ∧
    (∃ s : State, ∃ src : Src, ∃ g : Grp, ∃ o : Out, ∃ v : Word, s.takesReg src .DAC_CFG g o ∧ s.standby = false ∧ F.DAC_CFG_RANGE.of v ≠
      7 ∧ F.DAC_CFG_SRC.of v ≠ 3 ∧ F.DAC_CFG_TRACK.of v < 24 ∧ (F.DAC_CFG_RANGE.of v = s.f F.DAC_CFG_RANGE g o ∨ s.b
      F.DAC_STATUS_RANGE_BUSY g o = false ∧ s.b F.DAC_STATUS_RANGE_PEND g o = false)) ∧
    (∃ s : State, ∃ src : Src, ∃ g : Grp, ∃ o : Out, ∃ v : Word, s.takesReg src .DAC_CFG g o ∧ s.standby = false ∧ (F.DAC_CFG_RANGE.of v =
      7 ∨ F.DAC_CFG_SRC.of v = 3 ∨ 24 ≤ F.DAC_CFG_TRACK.of v)) ∧
    (∃ s : State, ∃ g : Grp, ∃ o : Out, (s.out g o).phase = 1) ∧
    (∃ s : State, ∃ g : Grp, ∃ o : Out, (s.out g o).phase = 2 ∧ (s.out g o).target < 7) ∧
    (∃ s : State, ∃ g : Grp, ∃ o : Out, (s.out g o).phase = 3 ∧ s.f F.DAC_CFG_RANGE g o = s.f F.DAC_STATUS_RANGE_NOW g o) ∧
    (∃ s : State, ∃ src : Src, ∃ g : Grp, ∃ o : Out, ∃ v : Word, s.takesReg src .DAC_NV g o ∧ F.DAC_NV_NV_RANGE.of v ≠ 7) ∧
    (∃ s : State, ∃ src : Src, ∃ g : Grp, ∃ o : Out, ∃ v : Word, s.takesReg src .DAC_NV g o ∧ F.DAC_NV_NV_RANGE.of v = 7) ∧
    (∃ s : State, ∃ g : Grp, ∃ o : Out, (s.out g o).gateDelay = true ∧ (s.out g o).gateFrom + 32768 ≤ s.clk) ∧
    (∃ s : State, ∃ src : Src, ∃ g : Grp, ∃ o : Out, ∃ v : Word, s.takesReg src .DAC_STATUS g o ∧ F.DAC_STATUS_RB_FAULT.of v = 1 ∧ s.b
      F.DAC_STATUS_RB_FAULT g o = true) := by
  refine ⟨?_, ?_, ?_, ?_, ?_, ?_, ?_, ?_, ?_, ?_, ?_⟩
  · refine ⟨live, .host, 3, 7, ?_⟩
    decide +kernel
  · refine ⟨live.put F.SYS_MODE_EFF_PAIR_ROLE 2, .host, 3, 7, ?_⟩
    decide +kernel
  · refine ⟨live, .host, 3, 7, F.DAC_CFG_TRACK.put (F.DAC_CFG_RANGE.put 0 6) 23, ?_⟩
    decide +kernel
  · refine ⟨live, .host, 3, 7, F.DAC_CFG_TRACK.put (F.DAC_CFG_RANGE.put 0 1) 24, ?_⟩
    decide +kernel
  · refine ⟨{ live with outs := live.outs.set 3 (live.outs[3].set 7 { live.outs[3][7] with phase := 1, target := 0 }) }, 3, 7, ?_⟩
    decide +kernel
  · refine ⟨{ live with outs := live.outs.set 3 (live.outs[3].set 7 { live.outs[3][7] with phase := 2, target := 6 }) }, 3, 7, ?_⟩
    decide +kernel
  · refine ⟨({ live with outs := live.outs.set 3 (live.outs[3].set 7 { live.outs[3][7] with phase := 3, target := 1 }) }).put F.DAC_STATUS_RANGE_NOW 1 3 7 |>.put F.DAC_CFG_RANGE 1 3 7, 3, 7, ?_⟩
    decide +kernel
  · refine ⟨live, .host, 3, 7, F.DAC_NV_NV_RANGE.put 0 6, ?_⟩
    decide +kernel
  · refine ⟨live, .host, 3, 7, F.DAC_NV_NV_RANGE.put 0 7, ?_⟩
    decide +kernel
  · refine ⟨{ live with clk := 32768, outs := live.outs.set 3 (live.outs[3].set 7 { live.outs[3][7] with gateDelay := true }) }, 3, 7, ?_⟩
    decide +kernel
  · refine ⟨live.put ⟨.DAC_STATUS, 0, 32⟩ 0xFFFFFFFF 3 7, .host, 3, 7, F.DAC_STATUS_RB_FAULT.put 0 1, ?_⟩
    decide +kernel

/-- What `Obligations.DdsEngines` assumes, clause by clause. -/
theorem witness_DdsEngines :
    (∃ s : State, ∃ src : Src, ∃ g : Grp, ∃ e : DdsE, s.takesReg src .DDS_APPLY g e ∧ s.standby = false ∧ s.b F.DDS_STATUS_PENDING g e =
      false ∧ s.ddsInvalid g e = false) ∧
    (∃ s : State, ∃ src : Src, ∃ g : Grp, ∃ e : DdsE, s.takesReg src .DDS_APPLY g e ∧ s.standby = false ∧ s.b F.DDS_STATUS_PENDING g e =
      false ∧ s.ddsInvalid g e = true) ∧
    (∃ s : State, ∃ g : Grp, ∃ e : DdsE, s.Wf ∧ s.alive g = true ∧ s.b F.DDS_STATUS_PENDING g e = true ∧ s.ddsEdgeDue g e = true) ∧
    (∃ s : State, ∃ src : Src, ∃ g : Grp, ∃ e : DdsE, ∃ v : Word, s.takesReg src .DDS_CTRL g e ∧ F.DDS_CTRL_ENABLE.of v = 1 ∧ s.b
      F.DDS_CTRL_ENABLE g e = false) ∧
    (∃ s : State, ∃ g : Grp, ∃ e : DdsE, s.ddsOn g e = true ∧ s.ddsFollows g e = true ∧ s.mode parked = false) ∧
    (∃ s : State, ∃ g : Grp, ∃ e : DdsE, s.ddsOn g e = true ∧ (s.ddsSample g e < 0 ∨ 0xFFFF < s.ddsSample g e)) := by
  refine ⟨?_, ?_, ?_, ?_, ?_, ?_⟩
  · refine ⟨live, .host, 3, 3, ?_⟩
    decide +kernel
  · refine ⟨live.put F.DDS_FTW_HI_FTW 0x8000 3 3, .host, 3, 3, ?_⟩
    decide +kernel
  · refine ⟨live.put F.DDS_STATUS_PENDING 1 3 3, 3, 3, ?_⟩
    decide +kernel
  · refine ⟨live, .host, 3, 3, 1, ?_⟩
    decide +kernel
  · refine ⟨((live.put F.DDS_CTRL_ENABLE 1 3 3).put F.DDSM_FOLLOW_MODE 1 3 3).put F.DDSM_FOLLOW_TRK 3 3 3, 3, 3, ?_⟩
    decide +kernel
  · refine ⟨((live.put F.DDS_CTRL_ENABLE 1 3 3).put F.DDSM_AMP_OFFSET 0x7FFF 3 3).put F.DDSM_AMP_AMP 0x7FFF 3 3 |>.put
    F.DDSM_PHASE_PHASE_OFS 0x4000 3 3, 3, 3, ?_⟩
    decide +kernel

/-- What `Obligations.Comparators` assumes, clause by clause. -/
theorem witness_Comparators :
    (∃ s : State, ∃ src : Src, ∃ g : Grp, ∃ k : Kmp, ∃ v : Word, s.takesReg src .CMP_CFG g k ∧ s.cmpCfgRefused g k v = false) ∧
    (∃ s : State, ∃ src : Src, ∃ g : Grp, ∃ k : Kmp, ∃ v : Word, s.takesReg src .CMP_CFG g k ∧ s.cmpCfgRefused g k v = true) ∧
    (∃ s : State, ∃ src : Src, ∃ g : Grp, ∃ k : Kmp, ∃ v : Word, s.takesReg src .CMP_THR g k ∧ cmpRule (s.f F.CMP_CFG_MODE g k) (signed 14
      (F.CMP_THR_A.of v)) (signed 14 (F.CMP_THR_B.of v)) (s.f F.CMP_HYST_HYST g k) = true) ∧
    (∃ s : State, ∃ src : Src, ∃ g : Grp, ∃ k : Kmp, ∃ v : Word, s.takesReg src .CMP_HYST g k ∧ cmpRule (s.f F.CMP_CFG_MODE g k) (signed
      14 (s.f F.CMP_THR_A g k)) (signed 14 (s.f F.CMP_THR_B g k)) (F.CMP_HYST_HYST.of v) = true) ∧
    (∃ s : State, ∃ g : Grp, ∃ k : Kmp, (s.kmp g k).run ≠ .off) ∧
    (∃ s : State, ∃ g : Grp, ∃ k : Kmp, s.cmpEdgeDue g k = true ∧ (s.kmp g k).run ≠ .off ∧ (s.kmp g k).want = none ∧ (s.kmp g k).thrAt =
      none) ∧
    (∃ s : State, ∃ g : Grp, ∃ k : Kmp, ∃ c : Nat, s.cmpEdgeDue g k = true ∧ (s.kmp g k).run ≠ .off ∧ (s.kmp g k).want = none ∧ (s.kmp g
      k).thrAt = some c ∧ c + 164 ≤ s.clk) ∧
    (∃ s : State, ∃ g : Grp, ∃ k : Kmp, ∃ r : CmpRun, ∃ c : CmpSet, ∃ n : Nat, s.cmpEdgeDue g k = true ∧ (s.kmp g k).want = some (r, n) ∧
      s.cmpSet g k r = some c ∧ 2 ≤ s.f F.CMP_CFG_N g k) := by
  refine ⟨?_, ?_, ?_, ?_, ?_, ?_, ?_, ?_⟩
  · refine ⟨live, .host, 3, 15, F.CMP_CFG_INPUT.put (F.CMP_CFG_M.put (F.CMP_CFG_N.put (F.CMP_CFG_ENABLE.put 0 1) 4) 4) 31, ?_⟩
    decide +kernel
  · refine ⟨live.put F.CMP_CFG_ENABLE 1 3 15, .host, 3, 15, F.CMP_CFG_M.put (F.CMP_CFG_ENABLE.put 0 1) 7, ?_⟩
    decide +kernel
  · refine ⟨live.put F.CMP_CFG_MODE 1 3 15, .host, 3, 15, F.CMP_THR_B.put (F.CMP_THR_A.put 0 5) 5, ?_⟩
    decide +kernel
  · refine ⟨live, .host, 3, 15, F.CMP_HYST_HYST.put 0 3, ?_⟩
    decide +kernel
  · refine ⟨{ live with cmps := live.cmps.set 3 (live.cmps[3].set 15 { live.cmps[3][15] with run := .configured }) }, 3, 15, ?_⟩
    decide +kernel
  · refine ⟨{ ((live.put F.CMP_CFG_N 1 3 15).put F.CMP_CFG_M 1 3 15) with cmps := live.cmps.set 3 (live.cmps[3].set 15 { live.cmps[3][15] with run := .configured }) }, 3, 15, ?_⟩
    decide +kernel
  · refine ⟨{ live with clk := 164, cmps := live.cmps.set 3 (live.cmps[3].set 15 { live.cmps[3][15] with run := .configured, thrAt := some 0 }) }, 3, 15, 0, ?_⟩
    decide +kernel
  · refine ⟨({ live with cmps := live.cmps.set 3 (live.cmps[3].set 15 { live.cmps[3][15] with want := some (.configured, 0) }) }).put F.CMP_CFG_N 2 3 15, 3, 15, .configured, (({ live with cmps := live.cmps.set 3 (live.cmps[3].set 15 { live.cmps[3][15] with want := some (.configured, 0) }) }).put F.CMP_CFG_N 2 3 15).cmpConfigured 3 15, 0, ?_⟩
    decide +kernel

/-- What `Obligations.PinWrites` assumes, clause by clause. -/
theorem witness_PinWrites :
    (∃ s : State, ∃ src : Src, ∃ g : Grp, ∃ p : Pin, ∃ v : Word, s.takes src (pinCfgOffset g p) ∧ s.pinCfgBad g p v = false) ∧
    (∃ s : State, ∃ src : Src, ∃ g : Grp, ∃ p : Pin, ∃ v : Word, s.takes src (pinCfgOffset g p) ∧ s.pinCfgBad g p v = true) ∧
    (∃ s : State, ∃ src : Src, ∃ g : Grp, s.standby = false ∧ s.takesReg src .PIN_OUT g) ∧
    (∃ s : State, ∃ src : Src, ∃ g : Grp, s.standby = false ∧ s.takesReg src .PIN_OUT_SET g) ∧
    (∃ s : State, ∃ src : Src, ∃ g : Grp, s.standby = false ∧ s.takesReg src .PIN_OUT_CLR g) ∧
    (∃ s : State, ∃ src : Src, ∃ g : Grp, s.standby = false ∧ s.takesReg src .PIN_OUT_TGL g) ∧
    (∃ s : State, ∃ src : Src, ∃ g : Grp, ∃ v : Word,
      s.takesReg src .PIN_LOCK g ∧
      let step := s.f F.PIN_LOCKED_STEP g
      step = 0 ∧ v = 0xA5) ∧
    (∃ s : State, ∃ src : Src, ∃ g : Grp, ∃ v : Word,
      s.takesReg src .PIN_LOCK g ∧
      let step := s.f F.PIN_LOCKED_STEP g
      step = 1 ∧ v = 0x5A) ∧
    (∃ s : State, ∃ src : Src, ∃ g : Grp, ∃ v : Word,
      s.takesReg src .PIN_LOCK g ∧
      let step := s.f F.PIN_LOCKED_STEP g
      step = 2 ∧ v.toNat < 2 ^ 20) ∧
    (∃ s : State, ∃ src : Src, ∃ g : Grp, ∃ v : Word,
      s.takesReg src .PIN_LOCK g ∧
      let step := s.f F.PIN_LOCKED_STEP g
      step = 1 ∧ v ≠ 0x5A) := by
  refine ⟨?_, ?_, ?_, ?_, ?_, ?_, ?_, ?_, ?_, ?_⟩
  · refine ⟨live, .host, 3, 19, F.PIN_P_CFG_FUNC.put 0 5, ?_⟩
    decide +kernel
  · refine ⟨live.put F.PIN_LOCKED_LOCKED 0x80000 3, .host, 3, 19, F.PIN_P_CFG_FUNC.put 0 1, ?_⟩
    decide +kernel
  · refine ⟨live.put F.PIN_OUT_OUT 0x55555 3, .host, 3, ?_⟩
    decide +kernel
  · refine ⟨live.put F.PIN_OUT_OUT 0x55555 3, .host, 3, ?_⟩
    decide +kernel
  · refine ⟨live.put F.PIN_OUT_OUT 0x55555 3, .host, 3, ?_⟩
    decide +kernel
  · refine ⟨live.put F.PIN_OUT_OUT 0x55555 3, .host, 3, ?_⟩
    decide +kernel
  · refine ⟨live, .host, 3, 0xA5, ?_⟩
    decide +kernel
  · refine ⟨live.put F.PIN_LOCKED_STEP 1 3, .host, 3, 0x5A, ?_⟩
    decide +kernel
  · refine ⟨live.put F.PIN_LOCKED_STEP 2 3, .host, 3, 0x80001, ?_⟩
    decide +kernel
  · refine ⟨live.put F.PIN_LOCKED_STEP 1 3, .host, 3, 0xA5, ?_⟩
    decide +kernel

/-- What `Obligations.PinEvents` assumes, clause by clause. -/
theorem witness_PinEvents :
    (∃ s : State, ∃ g : Grp, ∃ p : GPin,
      let i : Pin := p.castLE (by decide)
      F.PIN_P_CFG_CLASS.of (s.pinCfg g i) = 1 ∧ s.pinDrive g i = some true ∧ s.vfldOk g = true ∧ (s.pin g i).tripped = false) ∧
    (∃ s : State, ∃ g : Grp, ∃ p : GPin,
      let i : Pin := p.castLE (by decide)
      (s.pin g i).tripped = true ∧ s.pinDrive g i = some true ∧ (s.pin g i).tripAt + 16384000 ≤ s.clk) ∧
    (∃ s : State, ∃ g : Grp, s.alive g = true) := by
  refine ⟨?_, ?_, ?_⟩
  · refine ⟨(((((live.put F.PIN_STATE_STATE 1 3).put F.PIN_P_CFG_FUNC 2 3 15).put F.PIN_OUT_OUT 0x8000 3).put F.PIN_P_CFG_CLASS 1 3
    15).put F.PIN_P_CFG_DRIVE 2 3 15).fielded, 3, 15, ?_⟩
    decide +kernel
  · refine ⟨{ (((((live.put F.PIN_STATE_STATE 1 3).put F.PIN_P_CFG_FUNC 2 3 15).put F.PIN_OUT_OUT 0x8000 3).put F.PIN_P_CFG_CLASS 1 3 15).put F.PIN_P_CFG_DRIVE 2 3 15).fielded with clk := 16384000, pins := live.pins.set 3 (live.pins[3].set 15 { live.pins[3][15] with tripped := true }) }, 3, 15, ?_⟩
    decide +kernel
  · refine ⟨live.put F.PIN_DP_CFG_FUNC 1 3 3, 3, ?_⟩
    decide +kernel

/-- What `Obligations.MonitorEvaluations` assumes, clause by clause. -/
theorem witness_MonitorEvaluations :
    (∃ s : State, ∃ m : Monitor, ∃ r : RecView, s.limitsLive = true ∧ s.enabledMonitors = [m.val] ∧ s.lim.due = [.record r] ∧ s.evaluates
      m r = true) ∧
    (∃ s : State, ∃ m : Monitor, ∃ c : Nat, s.limitsLive = true ∧ s.enabledMonitors = [m.val] ∧ s.lim.due = [.setpoint (s.f F.MON_CFG_SRC
      m) c] ∧ s.b F.MON_CFG_KIND m = true) ∧
    (∃ s : State, ∃ m : Monitor, s.limitsLive = true ∧ s.b F.MON_CFG_ENABLE m = true ∧ s.b F.MON_CFG_KIND m = false ∧ s.f F.MON_CFG_STALE
      m ≠ 0 ∧ s.staleAt m ≤ s.clk) ∧
    (∃ s : State, ∃ src : Src, ∃ i : Fin 4, ∃ b : Fin 32,
      let n := monitorOf (32 * i + b)
      s.takesReg src .LIMIT_TRIPPED i ∧ s.tripped n = true ∧ s.lim.within[n] = true ∧ s.b F.LIMIT_STAT_STALE n = false) ∧
    (∃ s : State, ∃ src : Src, ∃ i : Fin 4, ∃ b : Fin 32,
      let n := monitorOf (32 * i + b)
      s.takesReg src .LIMIT_TRIPPED i ∧ s.tripped n = true ∧ (s.lim.within[n] = false ∨ s.b F.LIMIT_STAT_STALE n = true)) := by
  refine ⟨?_, ?_, ?_, ?_, ?_⟩
  · refine ⟨({ live.put F.SYS_START_PHASE 2 with pol := { live.pol with inForce := some [] }, lim := { live.lim with due := [.record ⟨0, 0, 1, false, false, false, false⟩] } }).put F.MON_CFG_ENABLE 1 127, 127, ⟨0, 0, 1, false, false, false, false⟩, ?_⟩
    decide +kernel
  · refine ⟨(({ live.put F.SYS_START_PHASE 2 with pol := { live.pol with inForce := some [] }, lim := { live.lim with due := [.setpoint 0 5] } }).put F.MON_CFG_ENABLE 1 127).put F.MON_CFG_KIND 1 127, 127, 5, ?_⟩
    decide +kernel
  · refine ⟨(({ live.put F.SYS_START_PHASE 2 with pol := { live.pol with inForce := some [] } }).put F.MON_CFG_ENABLE 1 127 |>.put F.MON_CFG_STALE 1 127 |>.put F.MON_CFG_COUNT 1 127 |>.put F.MON_ACT_SAFE 1 127).atClock 163840, 127, ?_⟩
    decide +kernel
  · refine ⟨(live.put F.LIMIT_TRIPPED_TRIPPED 0x80000000 3).put F.LIMIT_STAT_STATE 3 127, .host, 3, 31, ?_⟩
    decide +kernel
  · refine ⟨(live.put F.LIMIT_TRIPPED_TRIPPED 0x80000000 3).put F.LIMIT_STAT_STALE 1 127, .host, 3, 31, ?_⟩
    decide +kernel

/-- What `Obligations.MonitorWrites` assumes, clause by clause. -/
theorem witness_MonitorWrites :
    (∃ s : State, ∃ src : Src, ∃ m : Monitor, ∃ r : MonReg, ∃ v : Word,
      s.takesReg src (monRegName r) m ∧
      let new := (s.monWords m).put r v
      new.invalid = false ∧ (s.limitLocked = false ∨ (s.monWords m).tightens new = true)) ∧
    (∃ s : State, ∃ src : Src, ∃ m : Monitor, ∃ r : MonReg, ∃ v : Word,
      s.takesReg src (monRegName r) m ∧
      let new := (s.monWords m).put r v
      (new.invalid = true ∨ s.limitLocked = true ∧ (s.monWords m).tightens new = false)) ∧
    (∃ s : State, ∃ src : Src, ∃ v : Word, s.takesReg src .LIMIT_LOCK ∧ F.LIMIT_LOCK_KEY.of v = 0x3C) ∧
    (∃ s : State, ∃ src : Src, ∃ v : Word, s.takesReg src .LIMIT_LOCK ∧ F.LIMIT_LOCK_KEY.of v ≠ 0x3C) := by
  refine ⟨?_, ?_, ?_, ?_⟩
  · refine ⟨live, .host, 127, .cfg, F.MON_CFG_COUNT.put (F.MON_CFG_ENABLE.put 0 1) 1, ?_⟩
    decide +kernel
  · refine ⟨live, .host, 127, .cfg, F.MON_CFG_ENABLE.put 0 1, ?_⟩
    decide +kernel
  · refine ⟨live, .host, F.LIMIT_LOCK_KEY.put 0 0x3C, ?_⟩
    decide +kernel
  · refine ⟨live, .host, F.LIMIT_LOCK_KEY.put 0 0x3D, ?_⟩
    decide +kernel

/-- What `Obligations.SafeState` assumes, clause by clause. -/
theorem witness_SafeState :
    (∃ s : State, s.up = true) ∧
    (∃ s : State, ∃ src : Src, ∃ v : Word, s.takesReg src .LIMIT_SAFE ∧ F.LIMIT_SAFE_ENTER.of v = 1) ∧
    (∃ s : State, ∃ src : Src, ∃ v : Word, s.takesReg src .LIMIT_SAFE ∧ F.LIMIT_SAFE_ENTER.of v = 0 ∧ F.LIMIT_SAFE_RELEASE.of v = 1 ∧
      s.safeMayEnd = true) ∧
    (∃ s : State, ∃ src : Src, ∃ v : Word, s.takesReg src .LIMIT_SAFE ∧ F.LIMIT_SAFE_ENTER.of v = 0 ∧ F.LIMIT_SAFE_RELEASE.of v = 1 ∧
      s.safeMayEnd = false) ∧
    (∃ s : State, ∃ src : Src, ∃ v : Word, s.takesReg src .LIMIT_SAFE ∧ F.LIMIT_SAFE_ENTER.of v = 0 ∧ F.LIMIT_SAFE_RELEASE.of v = 0) := by
  refine ⟨?_, ?_, ?_, ?_, ?_⟩
  · refine ⟨live, ?_⟩
    decide +kernel
  · refine ⟨live, .host, F.LIMIT_SAFE_ENTER.put 0 1, ?_⟩
    decide +kernel
  · refine ⟨live.put F.LIMIT_SAFE_ACTIVE 1, .host, F.LIMIT_SAFE_RELEASE.put 0 1, ?_⟩
    decide +kernel
  · refine ⟨live.put F.LIMIT_SAFE_PIN 1, .host, F.LIMIT_SAFE_RELEASE.put 0 1, ?_⟩
    decide +kernel
  · refine ⟨live.put F.LIMIT_SAFE_CAUSE 31, .host, F.LIMIT_SAFE_CAUSE.put 0 5, ?_⟩
    decide +kernel

/-- What `Obligations.Watchdog` assumes, clause by clause. -/
theorem witness_Watchdog :
    (∃ s : State, ∃ src : Src, ∃ v : Word, s.takesReg src .LIMIT_WDOG_KICK ∧ F.LIMIT_WDOG_KICK_KEY.of v = 0x96) ∧
    (∃ s : State, ∃ src : Src, ∃ v : Word, s.takesReg src .LIMIT_WDOG_KICK ∧ F.LIMIT_WDOG_KICK_KEY.of v ≠ 0x96) ∧
    (∃ s : State, ∃ src : Src, ∃ v : Word, s.takesReg src .LIMIT_WDOG ∧ F.LIMIT_WDOG_ACTION.of v ≠ 3 ∧ s.limitLocked = false) ∧
    (∃ s : State, ∃ src : Src, ∃ v : Word, s.takesReg src .LIMIT_WDOG ∧ F.LIMIT_WDOG_ACTION.of v = 3) ∧
    (∃ s : State, s.wdogRuns = true ∧ s.wdogDue = true ∧ s.f F.LIMIT_WDOG_ACTION ≤ 1) ∧
    (∃ s : State, s.wdogRuns = true ∧ s.wdogDue = true ∧ s.f F.LIMIT_WDOG_ACTION = 2) := by
  refine ⟨?_, ?_, ?_, ?_, ?_, ?_⟩
  · refine ⟨live, .host, F.LIMIT_WDOG_KICK_KEY.put 0 0x96, ?_⟩
    decide +kernel
  · refine ⟨live, .host, F.LIMIT_WDOG_KICK_KEY.put 0 0x97, ?_⟩
    decide +kernel
  · refine ⟨live, .host, F.LIMIT_WDOG_ACTION.put (F.LIMIT_WDOG_TIMEOUT.put 0 1) 2, ?_⟩
    decide +kernel
  · refine ⟨live, .host, F.LIMIT_WDOG_ACTION.put 0 3, ?_⟩
    decide +kernel
  · refine ⟨((live.put F.LIMIT_WDOG_TIMEOUT 1).put F.LIMIT_WDOG_ACTION 1).atClock 163840, ?_⟩
    decide +kernel
  · refine ⟨((live.put F.LIMIT_WDOG_TIMEOUT 1).put F.LIMIT_WDOG_ACTION 2).atClock 163840, ?_⟩
    decide +kernel

/-- What `Obligations.ModeRequest` assumes. -/
theorem witness_ModeRequest :
    ∃ s : State, ∃ src : Src, s.takesReg src .SYS_MODE := by
  refine ⟨live, .host, ?_⟩
  decide +kernel

/-- What `Obligations.ModesInForce` assumes. -/
theorem witness_ModesInForce :
    ∃ s : State, s.up = true := by
  refine ⟨live.put ⟨.SYS_MODE, 0, 8⟩ 0xFF, ?_⟩
  decide +kernel

/-- What `Obligations.MonitorConverter` assumes. -/
theorem witness_MonitorConverter :
    ∃ s : State, ∃ g : Grp, s.slotDue g = true := by
  refine ⟨(live.put F.MON_STATUS_SLOT 15 3).atClock 81920, 3, ?_⟩
  decide +kernel

/-- What `Obligations.Pairs` assumes, clause by clause. -/
theorem witness_Pairs :
    (∃ s : State, s.pairing = true) ∧
    (∃ s : State, s.pairing = true ∧ s.standby = true ∧ s.silentFor 1638400 = true) ∧
    (∃ s : State, ∃ a : PairAnswer, s.pairing = true ∧ s.standby = true ∧ s.pair.heard = false ∧ s.mode reducedMode = false ∧
      F.PAIR_STATUS_ROLE.of a.status ≠ 1 ∧ s.f F.PAIR_CFG_PREF = F.PAIR_CFG_PREF.of a.cfg ∧ s.ownNumber.toNat < s.partner.toNat) ∧
    (∃ s : State, ∃ a : PairAnswer, s.pairing = true ∧ s.standby = true ∧ s.pair.heard = false ∧ F.PAIR_STATUS_ROLE.of a.status = 1) ∧
    (∃ s : State, s.pairing = true ∧ s.pairRole = 2 ∧ s.partnerLost = true) ∧
    (∃ s : State, s.pairing = true ∧ s.pairRole = 2 ∧ s.partnerLost = false) ∧
    (∃ s : State, s.pairing = true ∧ s.pairRole = 2 ∧ s.pair.yields = true) ∧
    (∃ s : State, ∃ src : Src, ∃ v : Word, s.pairing = true ∧ s.takesReg src .PAIR_CTRL ∧ v.getLsbD 0 = true ∧ s.pairRole = 1 ∧
      s.pair.partner = 2) ∧
    (∃ s : State, ∃ src : Src, ∃ v : Word, s.pairing = true ∧ s.takesReg src .PAIR_CTRL ∧ v.getLsbD 0 = true ∧ (s.pairRole ≠ 1 ∨
      s.pair.partner ≠ 2)) ∧
    (∃ s : State, ∃ off : BitVec 24, ∃ v : Word, ∃ l : List (BitVec 24 × Word), s.pairing = true ∧ s.pair.mirrorQ = (off, v) :: l ∧
      s.pairRole = 1) := by
  refine ⟨?_, ?_, ?_, ?_, ?_, ?_, ?_, ?_, ?_, ?_⟩
  · refine ⟨((live.modesOn 4).put F.PAIR_CFG_PAIR_EN 1), ?_⟩
    decide +kernel
  · refine ⟨(((live.modesOn 4).put F.PAIR_CFG_PAIR_EN 1).put F.SYS_MODE_EFF_PAIR_ROLE 2).atClock 1638400, ?_⟩
    decide +kernel
  · refine ⟨((live.modesOn 4).put F.PAIR_CFG_PAIR_EN 1).put F.SYS_MODE_EFF_PAIR_ROLE 2 |>.put F.PAIR_CFG_PARTNER 1, ⟨0, 0, 0, 0⟩, ?_⟩
    decide +kernel
  · refine ⟨((live.modesOn 4).put F.PAIR_CFG_PAIR_EN 1).put F.SYS_MODE_EFF_PAIR_ROLE 2, ⟨F.PAIR_STATUS_ROLE.put 0 1, 0, 0, 0⟩, ?_⟩
    decide +kernel
  · refine ⟨{ ((live.modesOn 4).put F.PAIR_CFG_PAIR_EN 1).put F.SYS_MODE_EFF_PAIR_ROLE 2 with pair := { live.pair with gone := true } }, ?_⟩
    decide +kernel
  · refine ⟨((live.modesOn 4).put F.PAIR_CFG_PAIR_EN 1).put F.SYS_MODE_EFF_PAIR_ROLE 2, ?_⟩
    decide +kernel
  · refine ⟨{ ((live.modesOn 4).put F.PAIR_CFG_PAIR_EN 1).put F.SYS_MODE_EFF_PAIR_ROLE 2 with pair := { live.pair with yields := true } }, ?_⟩
    decide +kernel
  · refine ⟨{ ((live.modesOn 4).put F.PAIR_CFG_PAIR_EN 1).put F.SYS_MODE_EFF_PAIR_ROLE 1 with pair := { live.pair with partner := 2 } }, .host, 1, ?_⟩
    decide +kernel
  · refine ⟨((live.modesOn 4).put F.PAIR_CFG_PAIR_EN 1), .host, 1, ?_⟩
    decide +kernel
  · refine ⟨{ ((live.modesOn 4).put F.PAIR_CFG_PAIR_EN 1).put F.SYS_MODE_EFF_PAIR_ROLE 1 with pair := { live.pair with mirrorQ := [(0, 0)] } }, 0, 0, [], ?_⟩
    decide +kernel

/-- What `Obligations.SupplyResets` assumes, clause by clause. -/
theorem witness_SupplyResets :
    (∃ s : State, (s.pwr.life = .off ∨ s.pwr.life = .collapsed)) ∧
    (∃ s : State, (s.pwr.life = .failing ∨ s.pwr.life = .collapsed)) ∧
    (∃ s : State, s.pwr.life = .boot ∧ s.started 2457600 = true) := by
  refine ⟨?_, ?_, ?_⟩
  · refine ⟨State.reset, ?_⟩
    decide +kernel
  · refine ⟨{ live with pwr := { live.pwr with life := .failing } }, ?_⟩
    decide +kernel
  · refine ⟨({ live with pwr := { live.pwr with life := .boot, module := 63 } }).atClock 2457600, ?_⟩
    decide +kernel

/-- What `Obligations.SupplyEvents` assumes, clause by clause. -/
theorem witness_SupplyEvents :
    (∃ s : State,
      let runs := s.pwr.life = .boot ∨ s.up = true
      runs) ∧
    (∃ s : State,
      let runs := s.pwr.life = .boot ∨ s.up = true
      runs ∧ s.pwr.vinLow = true ∧ s.pwr.dipSeen = false) ∧
    (∃ s : State,
      let runs := s.pwr.life = .boot ∨ s.up = true
      runs ∧ s.pwr.vinLow = true ∧ s.dipOver = false) ∧
    (∃ s : State,
      let runs := s.pwr.life = .boot ∨ s.up = true
      runs ∧ s.pwr.vinLow = true ∧ s.pwr.dipSeen = true ∧ s.dipOver = true) ∧
    (∃ s : State, s.pwr.life = .failing) ∧
    (∃ s : State, ∃ mv : Nat, mv ≤ 100000 ∧ s.up = true ∧ s.b F.SYS_PWR_VIN_HIGH = false) ∧
    (∃ s : State, ∃ mv : Nat, mv ≤ 100000 ∧ (s.up = false ∨ s.b F.SYS_PWR_VIN_HIGH = true)) ∧
    (∃ mv : Nat, 100000 < mv) := by
  refine ⟨?_, ?_, ?_, ?_, ?_, ?_, ?_, ?_⟩
  · refine ⟨live, ?_⟩
    decide +kernel
  · refine ⟨{ live with pwr := { live.pwr with vinLow := true } }, ?_⟩
    decide +kernel
  · refine ⟨{ live with pwr := { live.pwr with vinLow := true } }, ?_⟩
    decide +kernel
  · refine ⟨({ live with pwr := { live.pwr with vinLow := true, dipSeen := true } }).atClock 163840, ?_⟩
    decide +kernel
  · refine ⟨{ live with pwr := { live.pwr with life := .failing } }, ?_⟩
    decide +kernel
  · refine ⟨live, 100000, ?_⟩
    decide +kernel
  · refine ⟨live.put F.SYS_PWR_VIN_HIGH 1, 100000, ?_⟩
    decide +kernel
  · refine ⟨100001, ?_⟩
    decide +kernel

/-- What `Obligations.GroupSupplies` assumes, clause by clause. -/
theorem witness_GroupSupplies :
    (∃ s : State, ∃ g : Grp, s.up = true ∧ s.started (2457600 + 655360 * g) = true ∧ s.bit F.SYS_PWR_GRP_FAIL g = false ∧
      s.pwr.supplied[g] = false) ∧
    (∃ s : State, ∃ g : Grp, s.up = true ∧ s.pwr.supplied[g] = true ∧ s.alive g = false) ∧
    (∃ s : State, ∃ g : Grp, (s.pwr.life = .boot ∨ s.up = true) ∧ s.pwr.supplied[g] = true) ∧
    (∃ s : State, ∃ g : Grp, s.alive g = true) ∧
    (∃ s : State, ∃ g : Grp, s.up = true ∧ s.restartNow g = true) := by
  refine ⟨?_, ?_, ?_, ?_, ?_⟩
  · refine ⟨live.atClock (2457600 + 655360 * 3), 3, ?_⟩
    decide +kernel
  · refine ⟨{ live with pwr := { live.pwr with supplied := Vector.replicate 4 true, alive := Vector.replicate 4 false } }, 3, ?_⟩
    decide +kernel
  · refine ⟨{ live with pwr := { live.pwr with supplied := Vector.replicate 4 true, failures := Vector.replicate 4 [0, 0] } }, 3, ?_⟩
    decide +kernel
  · refine ⟨live, 3, ?_⟩
    decide +kernel
  · refine ⟨{ live with pwr := { live.pwr with restartDue := Vector.replicate 4 true } }, 3, ?_⟩
    decide +kernel

/-- What `Obligations.Resets` assumes, clause by clause. -/
theorem witness_Resets :
    (∃ s : State, ∃ src : Src, ∃ v : Word, s.takesReg src .SYS_RESET ∧ F.SYS_RESET_KEY.of v = 0xC3 ∧ F.SYS_RESET_MODULE.of v = 1) ∧
    (∃ s : State, ∃ src : Src, ∃ v : Word, s.takesReg src .SYS_RESET ∧ F.SYS_RESET_KEY.of v ≠ 0xC3) ∧
    (∃ s : State, ∃ src : Src, ∃ v : Word, s.takesReg src .SYS_RESET ∧ F.SYS_RESET_KEY.of v = 0xC3 ∧ F.SYS_RESET_MODULE.of v = 0 ∧
      F.SYS_RESET_FABRIC.of v = 1 ∧ F.SYS_RESET_GROUP.of v = 0) ∧
    (∃ s : State, ∃ src : Src, ∃ v : Word, ∃ g : Grp, s.takesReg src .SYS_RESET ∧ F.SYS_RESET_KEY.of v = 0xC3 ∧ F.SYS_RESET_MODULE.of v =
      0 ∧ F.SYS_RESET_FABRIC.of v = 0 ∧ F.SYS_RESET_GROUP.of v = 2 ^ g.val) := by
  refine ⟨?_, ?_, ?_, ?_⟩
  · refine ⟨live, .host, F.SYS_RESET_MODULE.put (F.SYS_RESET_KEY.put 0 0xC3) 1, ?_⟩
    decide +kernel
  · refine ⟨live, .host, F.SYS_RESET_MODULE.put (F.SYS_RESET_KEY.put 0 0xC2) 1, ?_⟩
    decide +kernel
  · refine ⟨live, .host, F.SYS_RESET_FABRIC.put (F.SYS_RESET_KEY.put 0 0xC3) 1, ?_⟩
    decide +kernel
  · refine ⟨live, .host, F.SYS_RESET_GROUP.put (F.SYS_RESET_KEY.put 0 0xC3) 8, 3, ?_⟩
    decide +kernel

/-- What `Obligations.ModuleTime` assumes, clause by clause. -/
theorem witness_ModuleTime :
    (∃ s : State, ∃ src : Src, s.takesReg src .TIME_STEP_HI ∧ s.mode disciplined = false) ∧
    (∃ s : State, ∃ src : Src, s.takesReg src .TIME_STEP_HI ∧ s.mode disciplined = true) ∧
    (∃ s : State, ∃ src : Src, ∃ v : Word, s.takesReg src .TIME_RATE ∧ s.mode disciplined = false ∧ (signed 32 v.toNat).natAbs ≤ 5242880) ∧
    (∃ s : State, ∃ src : Src, ∃ v : Word, s.takesReg src .TIME_RATE ∧ (s.mode disciplined = true ∨ 5242880 < (signed 32 v.toNat).natAbs)) ∧
    (∃ s : State, ∃ src : Src, ∃ v : Word, s.takesReg src .TIME_CTRL ∧ F.TIME_CTRL_BW.of v ≠ 3 ∧ F.TIME_CTRL_STEP_THRESH.of v ≠ 0) ∧
    (∃ s : State, ∃ src : Src, ∃ v : Word, s.takesReg src .TIME_CTRL ∧ (F.TIME_CTRL_BW.of v = 3 ∨ F.TIME_CTRL_STEP_THRESH.of v = 0)) ∧
    (∃ s : State, s.up = true ∧ s.b F.TIME_CTRL_PPS_OUT_EN = true ∧ s.tim.second = some s.clk) ∧
    (∃ s : State, s.tim.pps = true ∧ s.tim.ppsEnd ≤ s.clk) ∧
    (∃ s : State, s.clk < s.tim.ppsEnd) ∧
    (∃ s : State, s.up = true) := by
  refine ⟨?_, ?_, ?_, ?_, ?_, ?_, ?_, ?_, ?_, ?_⟩
  · refine ⟨live, .host, ?_⟩
    decide +kernel
  · refine ⟨(live.modesOn 1), .host, ?_⟩
    decide +kernel
  · refine ⟨live, .host, 5242880, ?_⟩
    decide +kernel
  · refine ⟨live, .host, 5242881, ?_⟩
    decide +kernel
  · refine ⟨live, .host, F.TIME_CTRL_STEP_THRESH.put 0 1, ?_⟩
    decide +kernel
  · refine ⟨live, .host, F.TIME_CTRL_STEP_THRESH.put 0 0, ?_⟩
    decide +kernel
  · refine ⟨{ live.put F.TIME_CTRL_PPS_OUT_EN 1 with tim := { live.tim with second := some 0 } }, ?_⟩
    decide +kernel
  · refine ⟨{ live with tim := { live.tim with pps := true } }, ?_⟩
    decide +kernel
  · refine ⟨{ live with tim := { live.tim with ppsEnd := 1 } }, ?_⟩
    decide +kernel
  · refine ⟨live, ?_⟩
    decide +kernel

/-- What `Obligations.TimeSources` assumes, clause by clause. -/
theorem witness_TimeSources :
    (∃ s : State, ∃ h : PtpHead, s.head = true ∧ s.up = true ∧ h.domain.toNat = s.f F.TIME_PTP_CFG_DOMAIN ∧ h.transport = s.b
      F.TIME_PTP_CFG_TRANSPORT ∧ h.sender.toNat = s.parent ∧ 8 ≤ s.f F.TIME_PTP_STATUS_PORT_STATE ∧ s.tim.delayKnown = true ∧ s.mode
      disciplined = false) ∧
    (∃ s : State, ∃ h : PtpHead, h.domain.toNat ≠ s.f F.TIME_PTP_CFG_DOMAIN) ∧
    (∃ s : State, s.head = true ∧ s.up = true ∧ s.mode disciplined = true ∧ s.f F.TIME_STATE_STATE ≠ timeHoldover ∧ s.tim.syncAt +
      s.receiptClocks s.announceLog ≤ s.clk) ∧
    (∃ s : State, ∃ src : Src, ∃ v : Word, s.takesReg src .TIME_PTP_CFG ∧ s.head = true ∧ 2 ≤ F.TIME_PTP_CFG_ANN_TIMEOUT.of v ∧
      F.TIME_PTP_CFG_ANN_TIMEOUT.of v ≤ 10) ∧
    (∃ s : State, ∃ src : Src, s.takesReg src .TIME_PTP_CFG ∧ s.head = false) ∧
    (∃ s : State, ∃ src : Src, ∃ v : Word, s.takesReg src .TIME_PTP_CFG ∧ s.head = true ∧ (F.TIME_PTP_CFG_ANN_TIMEOUT.of v < 2 ∨ 10 <
      F.TIME_PTP_CFG_ANN_TIMEOUT.of v)) ∧
    (∃ s : State, s.head = true ∧ s.up = true ∧ (s.b F.TIME_PTP_CFG_DELAY_MECH = true ∨ 8 ≤ s.f F.TIME_PTP_STATUS_PORT_STATE)) ∧
    (∃ s : State, ∃ p : Port, s.head = true ∧ s.up = true ∧ s.tim.milli = some s.clk ∧ s.portUp p = true ∧ s.portUp (otherPort p) = false
      ∧ (s.lane p 1).queue = [] ∧ (s.lane p 1).retry.length < 512) ∧
    (∃ s : State, ∃ p : Port, ∃ k : TimePkt, s.head = false ∧ s.up = true ∧ s.mode disciplined = false ∧ ({ s with tim := { s.tim with
      heard := s.tim.heard.set (portIndex p) (some k.hops.toNat), heardAt := s.tim.heardAt.set (portIndex p) s.clk } } :
      State).timeDirection = p) ∧
    (∃ s : State, s.head = true) ∧
    (∃ s : State, s.head = false ∧ s.up = true ∧ s.mode disciplined = true ∧ s.f F.TIME_STATE_STATE ≠ timeHoldover ∧ (∀ i : Fin 2,
      s.tim.heardAt[i] + 1638400 ≤ s.clk)) ∧
    (∃ s : State, ∃ p : Port, s.up = true ∧ s.portUp p = true) ∧
    (∃ s : State, ∃ p : Port, ∃ t1 : BitVec 80, s.up = true ∧ s.ring.delayT1[portIndex p] = some t1.toNat) := by
  refine ⟨?_, ?_, ?_, ?_, ?_, ?_, ?_, ?_, ?_, ?_, ?_, ?_, ?_⟩
  · refine ⟨{ (live.put F.SYS_INST_HEAD 1).put F.TIME_PTP_STATUS_PORT_STATE 8 with tim := { live.tim with delayKnown := true } }, ⟨0, false, 0⟩, ?_⟩
    decide +kernel
  · refine ⟨live, ⟨1, false, 0⟩, ?_⟩
    decide +kernel
  · refine ⟨{ (live.modesOn 1).put F.SYS_INST_HEAD 1 with clk := 10000000000 }, ?_⟩
    decide +kernel
  · refine ⟨live.put F.SYS_INST_HEAD 1, .host, F.TIME_PTP_CFG_ANN_TIMEOUT.put 0 10, ?_⟩
    decide +kernel
  · refine ⟨live, .host, ?_⟩
    decide +kernel
  · refine ⟨live.put F.SYS_INST_HEAD 1, .host, F.TIME_PTP_CFG_ANN_TIMEOUT.put 0 11, ?_⟩
    decide +kernel
  · refine ⟨(live.put F.SYS_INST_HEAD 1).put F.TIME_PTP_STATUS_PORT_STATE 8, ?_⟩
    decide +kernel
  · refine ⟨{ (live.put F.SYS_INST_HEAD 1).put F.PORT_STATUS_STATE 2 0 with tim := { live.tim with milli := some 0 } }, .west, ?_⟩
    decide +kernel
  · refine ⟨live, .west, ⟨0, 0, 63, false, false, 0, 0, 0⟩, ?_⟩
    decide +kernel
  · refine ⟨live.put F.SYS_INST_HEAD 1, ?_⟩
    decide +kernel
  · refine ⟨(live.modesOn 1).atClock 1638400, ?_⟩
    decide +kernel
  · refine ⟨live.put F.PORT_STATUS_STATE 2 0, .west, ?_⟩
    decide +kernel
  · refine ⟨{ live with ring := { live.ring with delayT1 := Vector.replicate 2 (some 5) } }, .west, 5, ?_⟩
    decide +kernel

/-- What `Obligations.Trackers` assumes, clause by clause. -/
theorem witness_Trackers :
    (∃ s : State, ∃ src : Src, ∃ k : Trk, ∃ v : Word,
      let quiet := F.TRK_CTRL_HOME_NOW.of v = 0 ∧ F.TRK_CTRL_ARM.of v = 0 ∧ F.TRK_CTRL_DISARM.of v = 0
      s.takesReg src .TRK_CTRL k ∧ quiet ∧ F.TRK_CTRL_ENABLE.of v = 1 ∧ s.b F.TRK_CTRL_ENABLE k = false ∧ s.released = true ∧ s.trkValid k
        = true) ∧
    (∃ s : State, ∃ k : Trk, s.trkLock k = lockSearch ∧ (s.trkSrc k = srcTime ∨ s.trkSrc k = srcScale)) ∧
    (∃ s : State, ∃ src : Src, ∃ k : Trk, ∃ v : Word,
      let quiet := F.TRK_CTRL_HOME_NOW.of v = 0 ∧ F.TRK_CTRL_ARM.of v = 0 ∧ F.TRK_CTRL_DISARM.of v = 0
      s.takesReg src .TRK_CTRL k ∧ quiet ∧ F.TRK_CTRL_ENABLE.of v = 0 ∧ s.b F.TRK_CTRL_ENABLE k = true) ∧
    (∃ s : State, ∃ src : Src, ∃ k : Trk, ∃ v : Word, s.takesReg src .TRK_CTRL k ∧ F.TRK_CTRL_ENABLE.of v = 1 ∧ s.b F.TRK_CTRL_ENABLE k =
      false ∧ (s.released = false ∨ s.trkValid k = false)) ∧
    (∃ s : State, ∃ src : Src, ∃ k : Trk, ∃ v : Word, s.takesReg src .TRK_CTRL k ∧ F.TRK_CTRL_ENABLE.of v = 1 ∧ F.TRK_CTRL_HOME_NOW.of v =
      1 ∧ F.TRK_CTRL_ARM.of v = 0 ∧ s.b F.TRK_CTRL_ENABLE k = true ∧ s.trkLock k = lockLocked ∧ s.trk[k].homed ≠ some s.clk) ∧
    (∃ s : State, ∃ k : Trk, ∃ a : Bool, 2 ≤ s.f F.TRK_HOME_CFG_HOME_SRC k ∧ a ≠ s.b F.TRK_HOME_CFG_HOME_EDGE k ∧ a = s.homeLevel k ∧
      s.homeAllowed k = true ∧ s.trk[k].homed ≠ some s.clk) ∧
    (∃ s : State, ∃ src : Src, ∃ k : Trk, ∃ v : Word,
      let same := (F.TRK_CTRL_ENABLE.of v == 1) = s.b F.TRK_CTRL_ENABLE k
      s.takesReg src .TRK_CTRL k ∧ F.TRK_CTRL_HOME_NOW.of v = 0 ∧ F.TRK_CTRL_ARM.of v = 1 ∧ same ∧ s.f F.TRK_HOME_CFG_HOME_SRC k ≠ 0) ∧
    (∃ s : State, ∃ src : Src, ∃ k : Trk, ∃ v : Word,
      let same := (F.TRK_CTRL_ENABLE.of v == 1) = s.b F.TRK_CTRL_ENABLE k
      s.takesReg src .TRK_CTRL k ∧ F.TRK_CTRL_HOME_NOW.of v = 0 ∧ F.TRK_CTRL_ARM.of v = 1 ∧ same ∧ s.f F.TRK_HOME_CFG_HOME_SRC k = 0) ∧
    (∃ s : State, ∃ src : Src, ∃ k : Trk, ∃ v : Word,
      let same := (F.TRK_CTRL_ENABLE.of v == 1) = s.b F.TRK_CTRL_ENABLE k
      s.takesReg src .TRK_CTRL k ∧ F.TRK_CTRL_HOME_NOW.of v = 0 ∧ F.TRK_CTRL_ARM.of v = 0 ∧ F.TRK_CTRL_DISARM.of v = 1 ∧ same) ∧
    (∃ s : State, ∃ k : Trk, s.trkLock k = lockLocked ∧ s.sourceSilent k = true) ∧
    (∃ s : State, ∃ k : Trk, s.trkLock k = lockHold ∧ s.trk[k].holdAt + s.f F.TRK_TIMING_HOLD_TIME k * 163840 ≤ s.clk) ∧
    (∃ s : State, ∃ k : Trk, s.trkSrc k = srcEncoder ∧ s.trkLock k = lockLocked ∧ (s.pairFor (s.f F.TRK_CFG_SEL_A k) true 164 || s.pairFor
      (s.f F.TRK_CFG_SEL_B k) true 164) = true) ∧
    (∃ s : State, ∃ k : Trk, s.trkSrc k = srcEncoder ∧ s.trkLock k = lockSearch ∧ s.pairFor (s.f F.TRK_CFG_SEL_A k) false 0 = true ∧
      s.pairFor (s.f F.TRK_CFG_SEL_B k) false 0 = true) ∧
    (∃ s : State, ∃ k : Trk, s.trkSrc k = srcEncoder ∧ s.trkLock k = lockLocked ∧ s.trk[k].at_ + s.f F.TRK_TIMING_STOP_TIME k * 16384 ≤
      s.clk) ∧
    (∃ s : State, ∃ k : Trk, ∃ a : Bool, ∃ b : Bool, s.trkSrc k = srcEncoder ∧ s.trkLock k ≠ lockOff ∧ a ≠ s.trk[k].a ∧ b ≠ s.trk[k].b) ∧
    (∃ s : State, ∃ k : Trk, ∃ a : Bool, ∃ b : Bool, s.trkSrc k = srcEncoder ∧ s.trkLock k = lockLocked ∧ (a = s.trk[k].a ↔ b ≠
      s.trk[k].b) ∧ s.b F.TRK_CFG_INVERT k = false) ∧
    (∃ s : State, ∃ k : Trk, ∃ a : Bool, ∃ c : Int,
      s.trkSrc k = srcMains ∧ s.trkLock k = lockLocked ∧ a ≠ s.b F.TRK_CFG_INVERT k ∧ a = s.cmpLevelOf (s.f F.TRK_CFG_SEL_A k) ∧
        s.trk[k].crossing = some c ∧
      let d := ((s.clk : Int) - 12 - c).toNat
      163840 ≤ d ∧ d ≤ 16384000 ∧ 3 * s.trk[k].period ≤ 4 * d ∧ 4 * d ≤ 5 * s.trk[k].period) ∧
    (∃ s : State, ∃ k : Trk, ∃ e : TrkIn, ∃ l : List TrkIn, s.trkSrc k = srcScale ∧ s.trkLock k = lockLocked ∧ s.trk[k].inbox = e :: l ∧
      e.due ≤ s.clk ∧ e.flagged = false ∧ s.b F.TRK_CFG_INVERT k = false) ∧
    (∃ s : State, ∃ k : Trk, s.trkLock k = lockOff) := by
  refine ⟨?_, ?_, ?_, ?_, ?_, ?_, ?_, ?_, ?_, ?_, ?_, ?_, ?_, ?_, ?_, ?_, ?_, ?_, ?_⟩
  · refine ⟨((((live.put F.TRK_CFG_SRC 1 3).put F.TRK_PER_CYCLE_PER_CYCLE 4 3).put F.TRK_TIMING_VEL_WIN 1 3).put F.TRK_STATUS_LOCK 0 3),
    .host, 3, 1, ?_⟩
    decide +kernel
  · refine ⟨(((live.put F.TRK_CFG_SRC 6 3).put F.TRK_PER_CYCLE_PER_CYCLE 4 3).put F.TRK_TIMING_VEL_WIN 1 3).put F.TRK_STATUS_LOCK 1 3, 3,
    ?_⟩
    decide +kernel
  · refine ⟨((((live.put F.TRK_CFG_SRC 1 3).put F.TRK_PER_CYCLE_PER_CYCLE 4 3).put F.TRK_TIMING_VEL_WIN 1 3).put F.TRK_STATUS_LOCK 2
    3).put F.TRK_CTRL_ENABLE 1 3, .host, 3, 0, ?_⟩
    decide +kernel
  · refine ⟨live, .host, 3, 1, ?_⟩
    decide +kernel
  · refine ⟨((((live.put F.TRK_CFG_SRC 1 3).put F.TRK_PER_CYCLE_PER_CYCLE 4 3).put F.TRK_TIMING_VEL_WIN 1 3).put F.TRK_STATUS_LOCK 2
    3).put F.TRK_CTRL_ENABLE 1 3, .host, 3, F.TRK_CTRL_HOME_NOW.put (F.TRK_CTRL_ENABLE.put 0 1) 1, ?_⟩
    decide +kernel
  · refine ⟨(((((((live.put F.TRK_CFG_SRC 1 3).put F.TRK_PER_CYCLE_PER_CYCLE 4 3).put F.TRK_TIMING_VEL_WIN 1 3).put F.TRK_STATUS_LOCK 2
    3).put F.TRK_HOME_CFG_HOME_SRC 3 3).put F.TRK_HOME_CFG_HOME_DIR 3 3).put F.TRK_STATUS_ARMED 1 3).put ⟨.PIN_LEVEL, 0, 32⟩ 0xFFFF 0, 3,
    true, ?_⟩
    decide +kernel
  · refine ⟨live.put F.TRK_HOME_CFG_HOME_SRC 1 3, .host, 3, F.TRK_CTRL_ARM.put 0 1, ?_⟩
    decide +kernel
  · refine ⟨live, .host, 3, F.TRK_CTRL_ARM.put 0 1, ?_⟩
    decide +kernel
  · refine ⟨live, .host, 3, F.TRK_CTRL_DISARM.put 0 1, ?_⟩
    decide +kernel
  · refine ⟨{ ((((live.put F.TRK_CFG_SRC 5 3).put F.TRK_PER_CYCLE_PER_CYCLE 4 3).put F.TRK_TIMING_VEL_WIN 1 3).put F.TRK_STATUS_LOCK 2 3) with clk := 100, trk := live.trk.set 3 { live.trk[3] with spacing := 20, lastIn := 20 } }, 3, ?_⟩
    decide +kernel
  · refine ⟨{ ((((live.put F.TRK_CFG_SRC 1 3).put F.TRK_PER_CYCLE_PER_CYCLE 4 3).put F.TRK_TIMING_VEL_WIN 1 3).put F.TRK_STATUS_LOCK 3 3).put F.TRK_TIMING_HOLD_TIME 0 3 with clk := 0, trk := live.trk.set 3 { live.trk[3] with holdAt := 0 } }, 3, ?_⟩
    decide +kernel
  · refine ⟨((((((live.put F.TRK_CFG_SRC 1 3).put F.TRK_PER_CYCLE_PER_CYCLE 4 3).put F.TRK_TIMING_VEL_WIN 1 3).put F.TRK_STATUS_LOCK 2
    3).put ⟨.PIN_DP_STATUS, 0, 32⟩ 0xFFFFFFFF 0).atClock 164), 3, ?_⟩
    decide +kernel
  · refine ⟨((((live.put F.TRK_CFG_SRC 1 3).put F.TRK_PER_CYCLE_PER_CYCLE 4 3).put F.TRK_TIMING_VEL_WIN 1 3).put F.TRK_STATUS_LOCK 1 3),
    3, ?_⟩
    decide +kernel
  · refine ⟨((((live.put F.TRK_CFG_SRC 1 3).put F.TRK_PER_CYCLE_PER_CYCLE 4 3).put F.TRK_TIMING_VEL_WIN 1 3).put F.TRK_STATUS_LOCK 2
    3).put F.TRK_TIMING_STOP_TIME 0 3, 3, ?_⟩
    decide +kernel
  · refine ⟨((((live.put F.TRK_CFG_SRC 1 3).put F.TRK_PER_CYCLE_PER_CYCLE 4 3).put F.TRK_TIMING_VEL_WIN 1 3).put F.TRK_STATUS_LOCK 2 3),
    3, true, true, ?_⟩
    decide +kernel
  · refine ⟨((((live.put F.TRK_CFG_SRC 1 3).put F.TRK_PER_CYCLE_PER_CYCLE 4 3).put F.TRK_TIMING_VEL_WIN 1 3).put F.TRK_STATUS_LOCK 2 3),
    3, true, false, ?_⟩
    decide +kernel
  · refine ⟨{ ((((live.put F.TRK_CFG_SRC 4 3).put F.TRK_PER_CYCLE_PER_CYCLE 4 3).put F.TRK_TIMING_VEL_WIN 1 3).put F.TRK_STATUS_LOCK 2 3).put F.CMP_STATUS_LEVEL 1 0 0 with clk := 200012, trk := live.trk.set 3 { live.trk[3] with crossing := some 0, period := 200000 } }, 3, true, 0, ?_⟩
    decide +kernel
  · refine ⟨{ ((((live.put F.TRK_CFG_SRC 5 3).put F.TRK_PER_CYCLE_PER_CYCLE 4 3).put F.TRK_TIMING_VEL_WIN 1 3).put F.TRK_STATUS_LOCK 2 3) with clk := 8192, trk := live.trk.set 3 { live.trk[3] with inbox := [⟨8000, 8192, 5, false, false, 2048⟩] } }, 3, ⟨8000, 8192, 5, false, false, 2048⟩, [], ?_⟩
    decide +kernel
  · refine ⟨live, 3, ?_⟩
    decide +kernel

/-- What `Obligations.EventContexts` assumes, clause by clause. -/
theorem witness_EventContexts :
    (∃ s : State, ∃ src : Src, ∃ x : Ctx, ∃ v : DWord, s.takes src (ctxOffset x + 12) ∧ ctlArm (s.ctxCtl x) = false ∧ ctlArm (v.toNat % 2
      ^ 32) = true ∧ ctxBad s.interval (s.ctxParam x) (v.toNat % 2 ^ 32) = false) ∧
    (∃ s : State, ∃ src : Src, ∃ x : Ctx, ∃ v : DWord, s.takes src (ctxOffset x + 12) ∧ ctlArm (s.ctxCtl x) = false ∧ ctlArm (v.toNat % 2
      ^ 32) = true ∧ ctxBad s.interval (s.ctxParam x) (v.toNat % 2 ^ 32) = true) ∧
    (∃ s : State, ∃ src : Src, ∃ x : Ctx, ∃ v : DWord, s.takes src (ctxOffset x + 8) ∧ ctlArm (s.ctxCtl x) = false ∧ ctlArm (v.toNat / 2 ^
      32) = true ∧ ctxBad s.interval (v.toNat % 2 ^ 32) (v.toNat / 2 ^ 32) = false) ∧
    (∃ s : State, ∃ src : Src, ∃ x : Ctx, ∃ v : DWord, s.takes src (ctxOffset x + 12) ∧ ctlArm (s.ctxCtl x) = true ∧ ctlArm (v.toNat % 2 ^
      32) = false) ∧
    (∃ s : State, ∃ src : Src, ∃ x : Ctx, ∃ v : DWord, s.takes src (ctxOffset x + 12) ∧ ctlArm (s.ctxCtl x) = true ∧ ctlArm (v.toNat % 2 ^
      32) = true) ∧
    (∃ s : State, ∃ src : Src, ∃ i : Fin 256, s.takesReg src .SCHED_REPEAT_HI i ∧ i.val = 0) ∧
    (∃ s : State, ∃ src : Src, ∃ i : Fin 256, ∃ w : Word,
      s.takesReg src .SCHED_REPEAT_HI i ∧
      let n := s.f F.SCHED_REPEAT_LO_INTERVAL i + 2 ^ 32 * w.toNat
      i.val ≠ 0 ∧ (n ≠ 0 ∨ s.repeatUsed i = false)) ∧
    (∃ s : State, ∃ src : Src, ∃ i : Fin 256, ∃ w : Word,
      s.takesReg src .SCHED_REPEAT_HI i ∧
      let n := s.f F.SCHED_REPEAT_LO_INTERVAL i + 2 ^ 32 * w.toNat
      i.val ≠ 0 ∧ n = 0 ∧ s.repeatUsed i = true) ∧
    (∃ s : State, ∃ src : Src, ∃ k : Trk, s.takesReg src .SCHED_TRK_HYST k ∧ s.armedOn (k + 1) = []) ∧
    (∃ s : State, ∃ src : Src, ∃ k : Trk, s.takesReg src .SCHED_TRK_CFG k ∧ s.armedOn (k + 1) = []) ∧
    (∃ s : State, ∃ src : Src, ∃ k : Trk, s.takesReg src .SCHED_TRK_HYST k ∧ s.armedOn (k + 1) ≠ []) := by
  refine ⟨?_, ?_, ?_, ?_, ?_, ?_, ?_, ?_, ?_, ?_, ?_⟩
  · refine ⟨live, .host, 16383, 0x80000100, ?_⟩
    decide +kernel
  · refine ⟨live, .host, 16383, 0x80000000, ?_⟩
    decide +kernel
  · refine ⟨live, .host, 16383, 0x8000010000000000, ?_⟩
    decide +kernel
  · refine ⟨(live).putMem (ctxOffset 16383 + 12) 0x80000100 4, .host, 16383, 0x100, ?_⟩
    decide +kernel
  · refine ⟨(live).putMem (ctxOffset 16383 + 12) 0x80000100 4, .host, 16383, 0x80000100, ?_⟩
    decide +kernel
  · refine ⟨live, .host, 0, ?_⟩
    decide +kernel
  · refine ⟨live, .host, 255, 5, ?_⟩
    decide +kernel
  · refine ⟨(live).putMem (ctxOffset 16383 + 12) 0x800FF100 4, .host, 255, 0, ?_⟩
    decide +kernel
  · refine ⟨live, .host, 3, ?_⟩
    decide +kernel
  · refine ⟨live, .host, 3, ?_⟩
    decide +kernel
  · refine ⟨(live).putMem (ctxOffset 16383 + 12) 0x80000140 4, .host, 3, ?_⟩
    decide +kernel

/-- What `Obligations.Scheduler` assumes, clause by clause. -/
theorem witness_Scheduler :
    (∃ s : State, s.released = false) ∧
    (∃ s : State, ∃ x : Ctx, s.released = true ∧ s.b F.SCHED_STATUS_HOLD_ALL = false ∧ s.b F.SCHED_STATUS_HOLD_PHASE = false ∧ (∀ k : Trk,
      s.sched.trk[k] = .free) ∧ s.armedCtx = [x.val] ∧ ctlSrc (s.ctxCtl x) = 0 ∧ s.ctxFresh x = false ∧ s.ctxInterval x = 0 ∧
      s.sched.queue = [] ∧ s.sched.gather = [] ∧ s.ctxTarget x ≤ s.ns) ∧
    (∃ s : State, s.released = true ∧ s.b F.SCHED_STATUS_HOLD_ALL = true ∧ s.mode parked = false) ∧
    (∃ s : State, s.released = true ∧ s.b F.SCHED_STATUS_HOLD_PHASE = true ∧ s.mode phaseRun = true) ∧
    (∃ s : State, s.sched.queue = []) ∧
    (∃ s : State, ∃ d : Decision, s.sched.queue = [d] ∧ (if s.sched.issued.1 = s.clk then s.sched.issued.2 else 0) < 4 ∧ d.outcome = 2) ∧
    (∃ s : State, ∃ d : Decision,
      s.sched.queue = [d] ∧ (if s.sched.issued.1 = s.clk then s.sched.issued.2 else 0) < 4 ∧ d.outcome = 0 ∧ ctlAction (s.ctxCtl d.ctx) =
        8 ∧ ctlReport (s.ctxCtl d.ctx) = false ∧ d.due = s.clk ∧
      let e : Eng := Fin.ofNat 8 (s.ctxParam d.ctx)
      s.eng[e].rung ≠ some s.clk ∧ s.engLive e = true ∧ s.up = true ∧ s.b F.ENG_STATUS_DB_PEND e = false) ∧
    (∃ s : State, ∃ d : Decision, ∃ g : Grp, s.sched.queue = [d] ∧ (if s.sched.issued.1 = s.clk then s.sched.issued.2 else 0) < 4 ∧
      d.outcome = 0 ∧ actionGroup (ctlAction (s.ctxCtl d.ctx)) (s.ctxParam d.ctx) = some g ∧ s.alive g = false) ∧
    (∃ s : State, ∃ at_ : Nat, ∃ b : Nat, ∃ c0 : Nat, ∃ c1 : Nat, ∃ l : List (Nat × Nat × Nat × Nat), s.sched.recs = (at_, b, c0, c1) :: l
      ∧ at_ + 16 ≤ s.clk) ∧
    (∃ s : State, ∃ at_ : Nat, ∃ b : Nat, ∃ c0 : Nat, ∃ c1 : Nat, ∃ l : List (Nat × Nat × Nat × Nat), s.sched.marks = (at_, b, c0, c1) ::
      l ∧ at_ + 16 ≤ s.clk) := by
  refine ⟨?_, ?_, ?_, ?_, ?_, ?_, ?_, ?_, ?_, ?_⟩
  · refine ⟨State.reset, ?_⟩
    decide +kernel
  · refine ⟨{ ((live).putMem (ctxOffset 16383 + 12) 0x80000100 4) with sched := { live.sched with trk := Vector.replicate 4 .free } }, 16383, ?_⟩
    decide +kernel
  · refine ⟨live.put F.SCHED_STATUS_HOLD_ALL 1, ?_⟩
    decide +kernel
  · refine ⟨(live.modesOn 2).put F.SCHED_STATUS_HOLD_PHASE 1, ?_⟩
    decide +kernel
  · refine ⟨live, ?_⟩
    decide +kernel
  · refine ⟨{ live with sched := { live.sched with queue := [⟨5, 0, 0, 2, 0⟩] } }, ⟨5, 0, 0, 2, 0⟩, ?_⟩
    decide +kernel
  · refine ⟨{ ((live).putMem (ctxOffset 16383 + 12) 0x108 4).putMem (ctxOffset 16383 + 8) 7 4 |>.put F.ENG_STATUS_STATE 2 7 with sched := { live.sched with queue := [⟨16383, 0, 0, 0, 0⟩] } }, ⟨16383, 0, 0, 0, 0⟩, ?_⟩
    decide +kernel
  · refine ⟨{ ((live).putMem (ctxOffset 16383 + 12) 0x101 4) with sched := { live.sched with queue := [⟨16383, 0, 0, 0, 0⟩] }, pwr := { live.pwr with alive := Vector.replicate 4 false } }, ⟨16383, 0, 0, 0, 0⟩, 0, ?_⟩
    decide +kernel
  · refine ⟨{ live with clk := 21, sched := { live.sched with recs := [(5, 1023, 1, 2)] } }, 5, 1023, 1, 2, [], ?_⟩
    decide +kernel
  · refine ⟨{ live with clk := 21, sched := { live.sched with marks := [(5, 1023, 1, 2)] } }, 5, 1023, 1, 2, [], ?_⟩
    decide +kernel

/-- What `Obligations.HarbourPackets` assumes, clause by clause. -/
theorem witness_HarbourPackets :
    (∃ s : State, ∃ src : Src, ∃ b : Berth,
      let k := pushSrcOf src
      let takes := s.berthOn b = true ∧ s.pushAllowed b k = true ∧ (s.berth b).discard.contains k = false ∧ (s.berth b).gap = 0
      s.takes src (portOffset b 0) ∧ takes ∧ s.berthRoom b 1 = true) ∧
    (∃ s : State, ∃ src : Src, ∃ b : Berth,
      let k := pushSrcOf src
      let takes := s.berthOn b = true ∧ s.pushAllowed b k = true ∧ (s.berth b).discard.contains k = false ∧ (s.berth b).gap = 0
      s.takes src (portOffset b 8) ∧ takes ∧ s.berthRoom b 1 = true) ∧
    (∃ s : State, ∃ src : Src, ∃ b : Berth,
      let k := pushSrcOf src
      let takes := s.berthOn b = true ∧ s.pushAllowed b k = true ∧ (s.berth b).discard.contains k = false ∧ (s.berth b).gap = 0
      s.takes src (portOffset b 0) ∧ takes ∧ s.berthRoom b 1 = false ∧ assoc (s.berth b).opens k = none) ∧
    (∃ s : State, ∃ src : Src, ∃ b : Berth, s.takes src (portOffset b 0) ∧ s.berthOn b = false) ∧
    (∃ s : State, ∃ src : Src, ∃ b : Berth, s.takes src (portOffset b 0)) ∧
    (∃ s : State, ∃ src : Src, ∃ b : Berth, ∃ w : Word,
      let k := pushSrcOf src
      let takes := s.berthOn b = true ∧ s.pushAllowed b k = true ∧ (s.berth b).discard.contains k = false ∧ (s.berth b).gap = 0
      s.takes src (portOffset b 0) ∧ assoc (s.berth b).pushLo k = some w ∧ takes ∧ s.berthRoom b 1 = true) ∧
    (∃ s : State, ∃ src : Src, ∃ b : Berth,
      let k := pushSrcOf src
      s.takes src (portOffset b 0) ∧ assoc (s.berth b).pushLo k = none) ∧
    (∃ s : State, ∃ b : Berth, ∃ c : HCell, ∃ l : List HCell, s.up = true ∧ s.portReads b = true ∧ (s.berth b).cells = c :: l ∧ 0 <
      (s.berth b).cLevel ∧ (s.berth b).gap = 0) ∧
    (∃ s : State, ∃ b : Berth, s.up = true ∧ s.portReads b = true ∧ (s.berth b).cLevel = 0) ∧
    (∃ s : State, ∃ b : Berth, s.up = true ∧ s.portReads b = true) ∧
    (∃ s : State, ∃ b : Berth, s.up = true ∧ s.portReads b = false) ∧
    (∃ s : State, ∃ src : Src, ∃ b : Berth, s.takes src (portOffset b 0x28) ∧ s.portReads b = true ∧ 0 < (s.berth b).cLevel ∧ (s.berth
      b).gap = 0) ∧
    (∃ s : State, ∃ src : Src, ∃ b : Berth, s.takes src (portOffset b 0x28) ∧ s.portReads b = true ∧ (s.berth b).cLevel = 0) := by
  refine ⟨?_, ?_, ?_, ?_, ?_, ?_, ?_, ?_, ?_, ?_, ?_, ?_, ?_⟩
  · refine ⟨((live.put F.HARB_CFG_ENABLE 1 1023).put F.HARB_SIZE_CAP_M1 7 1023), .host, 1023, ?_⟩
    decide +kernel
  · refine ⟨((live.put F.HARB_CFG_ENABLE 1 1023).put F.HARB_SIZE_CAP_M1 7 1023), .host, 1023, ?_⟩
    decide +kernel
  · refine ⟨{ ((live.put F.HARB_CFG_ENABLE 1 1023).put F.HARB_SIZE_CAP_M1 7 1023) with harb := [(1023, { BerthSt.empty with cells := List.replicate 8 ⟨7, true, false⟩ })] }, .host, 1023, ?_⟩
    decide +kernel
  · refine ⟨live, .host, 1023, ?_⟩
    decide +kernel
  · refine ⟨((live.put F.HARB_CFG_ENABLE 1 1023).put F.HARB_SIZE_CAP_M1 7 1023), .host, 1023, ?_⟩
    decide +kernel
  · refine ⟨{ ((live.put F.HARB_CFG_ENABLE 1 1023).put F.HARB_SIZE_CAP_M1 7 1023) with harb := [(1023, { BerthSt.empty with pushLo := [(.host, 5)] })] }, .host, 1023, 5, ?_⟩
    decide +kernel
  · refine ⟨((live.put F.HARB_CFG_ENABLE 1 1023).put F.HARB_SIZE_CAP_M1 7 1023), .host, 1023, ?_⟩
    decide +kernel
  · refine ⟨{ ((live.put F.HARB_CFG_ENABLE 1 1023).put F.HARB_SIZE_CAP_M1 7 1023) with harb := [(1023, { BerthSt.empty with cells := [⟨7, true, false⟩] })] }, 1023, ⟨7, true, false⟩, [], ?_⟩
    decide +kernel
  · refine ⟨((live.put F.HARB_CFG_ENABLE 1 1023).put F.HARB_SIZE_CAP_M1 7 1023), 1023, ?_⟩
    decide +kernel
  · refine ⟨{ ((live.put F.HARB_CFG_ENABLE 1 1023).put F.HARB_SIZE_CAP_M1 7 1023) with harb := [(1023, { BerthSt.empty with cells := [⟨7, true, false⟩] })] }, 1023, ?_⟩
    decide +kernel
  · refine ⟨live, 1023, ?_⟩
    decide +kernel
  · refine ⟨{ ((live.put F.HARB_CFG_ENABLE 1 1023).put F.HARB_SIZE_CAP_M1 7 1023) with harb := [(1023, { BerthSt.empty with cells := [⟨7, true, false⟩] })] }, .host, 1023, ?_⟩
    decide +kernel
  · refine ⟨((live.put F.HARB_CFG_ENABLE 1 1023).put F.HARB_SIZE_CAP_M1 7 1023), .host, 1023, ?_⟩
    decide +kernel

/-- What `Obligations.HarbourBerths` assumes, clause by clause. -/
theorem witness_HarbourBerths :
    (∃ s : State, ∃ b : Berth, ∃ n : Nat × Nat, ∃ l : List (Nat × Nat), (s.berth b).gap = 0 ∧ (s.berth b).unseen = n :: l ∧ s.crosses b
      (s.f F.HARB_CFG_PCLK b) n.2 = true) ∧
    (∃ s : State, ∃ b : Berth, ∃ n : Nat × Nat, ∃ l : List (Nat × Nat), (s.berth b).gap = 0 ∧ (s.berth b).hidden = n :: l ∧ s.crosses b
      (s.f F.HARB_CFG_CCLK b) n.2 = true) ∧
    (∃ s : State, ∃ b : Berth, (s.berthOn b = false ∨ s.portClockRuns (s.f F.HARB_CFG_CCLK b) = false)) ∧
    (∃ s : State, ∃ b : Berth, s.berthOn b = true ∧ 0 < (s.berth b).gap ∧ s.berthRoom b 2 = true) ∧
    (∃ s : State, ∃ b : Berth, ∃ d : Die, ∃ c : HCell, ∃ m : List HCell, s.deliveryDie b = some d ∧ s.berthOn b = true ∧ 0 < (s.berth
      b).cLevel ∧ (s.berth b).cells = c :: m ∧ s.userPort d = true ∧ s.delivering b = false) ∧
    (∃ s : State, ∃ b : Berth, ∃ d : Die, ∃ c : HCell, ∃ m : List HCell, s.deliveryDie b = some d ∧ s.berthOn b = true ∧ 0 < (s.berth
      b).cLevel ∧ (s.berth b).cells = c :: m ∧ (s.berth b).gap = 0) ∧
    (∃ s : State, ∃ src : Src, ∃ b : Berth, ∃ v : Word, s.takesReg src .HARB_CFG b ∧ F.HARB_CFG_PCLK.of v ≠ 3 ∧ F.HARB_CFG_CCLK.of v ≠ 3 ∧
      (F.HARB_CFG_SYNC.of v = 1 → F.HARB_CFG_PCLK.of v = F.HARB_CFG_CCLK.of v) ∧ F.HARB_CFG_ENABLE.of v = 1 ∧ s.b F.HARB_CFG_ENABLE b =
      false ∧ s.reserveSum + s.berthMin b ≤ cellsInPool) ∧
    (∃ s : State, ∃ src : Src, ∃ b : Berth, ∃ v : Word, s.takesReg src .HARB_CFG b ∧ F.HARB_CFG_PCLK.of v ≠ 3 ∧ F.HARB_CFG_CCLK.of v ≠ 3 ∧
      (F.HARB_CFG_SYNC.of v = 1 → F.HARB_CFG_PCLK.of v = F.HARB_CFG_CCLK.of v) ∧ F.HARB_CFG_ENABLE.of v = 1 ∧ s.b F.HARB_CFG_ENABLE b =
      false ∧ cellsInPool < s.reserveSum + s.berthMin b) ∧
    (∃ s : State, ∃ src : Src, ∃ b : Berth, ∃ v : Word, s.takesReg src .HARB_CFG b ∧ F.HARB_CFG_PCLK.of v ≠ 3 ∧ F.HARB_CFG_CCLK.of v ≠ 3 ∧
      (F.HARB_CFG_SYNC.of v = 1 → F.HARB_CFG_PCLK.of v = F.HARB_CFG_CCLK.of v) ∧ F.HARB_CFG_ENABLE.of v = 0 ∧ s.berthOn b = true) ∧
    (∃ s : State, ∃ src : Src, ∃ b : Berth, ∃ v : Word, s.takesReg src .HARB_CFG b ∧ (F.HARB_CFG_PCLK.of v = 3 ∨ F.HARB_CFG_CCLK.of v =
      3)) ∧
    (∃ s : State, ∃ src : Src, ∃ b : Berth, ∃ v : Word, s.takesReg src .HARB_SIZE b ∧ s.b F.HARB_CFG_ENABLE b = false ∧ 1 ≤
      F.HARB_SIZE_CAP_M1.of v ∧ F.HARB_SIZE_MIN.of v ≤ F.HARB_SIZE_CAP_M1.of v + 1) ∧
    (∃ s : State, ∃ src : Src, ∃ b : Berth, ∃ v : Word, s.takesReg src .HARB_SIZE b ∧ (F.HARB_SIZE_CAP_M1.of v = 0 ∨ F.HARB_SIZE_CAP_M1.of
      v + 1 < F.HARB_SIZE_MIN.of v)) ∧
    (∃ s : State, ∃ src : Src, ∃ b : Berth, ∃ v : Word, s.takesReg src .HARB_WATER b ∧ F.HARB_WATER_LWM.of v < F.HARB_WATER_HWM.of v ∧
      F.HARB_WATER_HWM.of v ≤ s.berthCap b) ∧
    (∃ s : State, ∃ src : Src, ∃ b : Berth, ∃ v : Word, s.takesReg src .HARB_WATER b ∧ (F.HARB_WATER_HWM.of v ≤ F.HARB_WATER_LWM.of v ∨
      s.berthCap b < F.HARB_WATER_HWM.of v)) := by
  refine ⟨?_, ?_, ?_, ?_, ?_, ?_, ?_, ?_, ?_, ?_, ?_, ?_, ?_, ?_⟩
  · refine ⟨{ ((live.put F.HARB_CFG_ENABLE 1 1023).put F.HARB_SIZE_CAP_M1 7 1023) with clk := 3, harb := [(1023, { BerthSt.empty with unseen := [(2, 0)] })] }, 1023, (2, 0), [], ?_⟩
    decide +kernel
  · refine ⟨{ ((live.put F.HARB_CFG_ENABLE 1 1023).put F.HARB_SIZE_CAP_M1 7 1023) with clk := 3, harb := [(1023, { BerthSt.empty with cells := [⟨7, true, false⟩], hidden := [(1, 0)] })] }, 1023, (1, 0), [], ?_⟩
    decide +kernel
  · refine ⟨live, 1023, ?_⟩
    decide +kernel
  · refine ⟨{ ((live.put F.HARB_CFG_ENABLE 1 1023).put F.HARB_SIZE_CAP_M1 7 1023) with harb := [(1023, { BerthSt.empty with gap := 5 })] }, 1023, ?_⟩
    decide +kernel
  · refine ⟨{ ((((live.put F.FAB_CLK_LOCK 15).put F.HARB_CFG_ENABLE 1 1023).put F.HARB_SIZE_CAP_M1 7 1023).put F.HARB_CFG_CCLK 1 1023) with harb := [(1023, { BerthSt.empty with cells := [⟨7, true, false⟩] })] }, 1023, 0, ⟨7, true, false⟩, [], ?_⟩
    decide +kernel
  · refine ⟨{ ((((live.put F.FAB_CLK_LOCK 15).put F.HARB_CFG_ENABLE 1 1023).put F.HARB_SIZE_CAP_M1 7 1023).put F.HARB_CFG_CCLK 1 1023) with harb := [(1023, { BerthSt.empty with cells := [⟨7, true, false⟩] })] }, 1023, 0, ⟨7, true, false⟩, [], ?_⟩
    decide +kernel
  · refine ⟨(live.put F.HARB_SIZE_CAP_M1 7 1023), .host, 1023, F.HARB_CFG_ENABLE.put 0 1, ?_⟩
    decide +kernel
  · refine ⟨(((((((((live).put F.HARB_SIZE_MIN 65535 0).put F.HARB_CFG_ENABLE 1 0).put F.HARB_SIZE_MIN 65535 1).put F.HARB_CFG_ENABLE 1
    1).put F.HARB_SIZE_MIN 65535 2).put F.HARB_CFG_ENABLE 1 2).put F.HARB_SIZE_MIN 65535 3).put F.HARB_CFG_ENABLE 1 3).put F.HARB_SIZE_MIN
    65535 1023, .host, 1023, F.HARB_CFG_ENABLE.put 0 1, ?_⟩
    decide +kernel
  · refine ⟨{ ((live.put F.HARB_CFG_ENABLE 1 1023).put F.HARB_SIZE_CAP_M1 7 1023) with harb := [(1023, { BerthSt.empty with cells := [⟨7, true, false⟩] })] }, .host, 1023, 0, ?_⟩
    decide +kernel
  · refine ⟨live, .host, 1023, F.HARB_CFG_CCLK.put 0 3, ?_⟩
    decide +kernel
  · refine ⟨live, .host, 1023, F.HARB_SIZE_MIN.put (F.HARB_SIZE_CAP_M1.put 0 1) 2, ?_⟩
    decide +kernel
  · refine ⟨live, .host, 1023, 0, ?_⟩
    decide +kernel
  · refine ⟨(live.put F.HARB_SIZE_CAP_M1 7 1023), .host, 1023, F.HARB_WATER_LWM.put (F.HARB_WATER_HWM.put 0 8) 7, ?_⟩
    decide +kernel
  · refine ⟨(live.put F.HARB_SIZE_CAP_M1 7 1023), .host, 1023, F.HARB_WATER_LWM.put (F.HARB_WATER_HWM.put 0 9) 7, ?_⟩
    decide +kernel

/-- What `Obligations.DmaCommands` assumes, clause by clause. -/
theorem witness_DmaCommands :
    (∃ s : State, ∃ src : Src, ∃ c : Chan, ∃ v : Word,
      let fits := 1 ≤ F.DMA_CTRL_MAX_OUT.of v ∧ F.DMA_CTRL_MAX_OUT.of v ≤ 32 ∧ (F.DMA_CTRL_TRIG_EN.of v = s.f F.DMA_CTRL_TRIG_EN c ∨
        s.dmaState c = dmaIdle)
      s.takesReg src .DMA_CTRL c ∧ fits ∧ v.getLsbD 0 = true ∧ v.getLsbD 1 = false ∧ v.getLsbD 2 = false ∧ (s.dmaState c = dmaIdle ∨
        s.dmaState c = dmaHalted)) ∧
    (∃ s : State, ∃ src : Src, ∃ c : Chan, ∃ v : Word, s.takesReg src .DMA_CTRL c ∧ (F.DMA_CTRL_MAX_OUT.of v = 0 ∨ 32 <
      F.DMA_CTRL_MAX_OUT.of v ∨ v.getLsbD 0 = true ∧ v.getLsbD 1 = false ∧ s.dmaState c ≠ dmaIdle ∧ s.dmaState c ≠ dmaHalted)) ∧
    (∃ s : State, ∃ src : Src, ∃ c : Chan, ∃ v : Word,
      let fits := 1 ≤ F.DMA_CTRL_MAX_OUT.of v ∧ F.DMA_CTRL_MAX_OUT.of v ≤ 32 ∧ (F.DMA_CTRL_TRIG_EN.of v = s.f F.DMA_CTRL_TRIG_EN c ∨
        s.dmaState c = dmaIdle)
      s.takesReg src .DMA_CTRL c ∧ fits ∧ v.getLsbD 1 = true ∧ v.getLsbD 2 = false ∧ s.dmaState c = dmaHalted) ∧
    (∃ s : State, ∃ src : Src, ∃ c : Chan, ∃ v : Word,
      let fits := 1 ≤ F.DMA_CTRL_MAX_OUT.of v ∧ F.DMA_CTRL_MAX_OUT.of v ≤ 32 ∧ (F.DMA_CTRL_TRIG_EN.of v = s.f F.DMA_CTRL_TRIG_EN c ∨
        s.dmaState c = dmaIdle)
      s.takesReg src .DMA_CTRL c ∧ fits ∧ v.getLsbD 1 = true ∧ v.getLsbD 2 = false ∧ (s.dmaState c = dmaRun ∨ s.dmaState c = dmaWaitTrig)
        ∧ (s.ch c).abort = none) ∧
    (∃ s : State, ∃ src : Src, ∃ c : Chan, ∃ v : Word,
      let fits := 1 ≤ F.DMA_CTRL_MAX_OUT.of v ∧ F.DMA_CTRL_MAX_OUT.of v ≤ 32 ∧ (F.DMA_CTRL_TRIG_EN.of v = s.f F.DMA_CTRL_TRIG_EN c ∨
        s.dmaState c = dmaIdle)
      s.takesReg src .DMA_CTRL c ∧ fits ∧ v.getLsbD 1 = true ∧ v.getLsbD 2 = false ∧ s.dmaState c = dmaFetch ∧ (s.ch c).abort = none) ∧
    (∃ s : State, ∃ c : Chan, ∃ t : Nat, (s.ch c).abort = some t ∧ t + 8192 ≤ s.clk) ∧
    (∃ s : State, ∃ c : Chan, (s.ch c).abort = none) ∧
    (∃ s : State, ∃ src : Src, ∃ c : Chan, s.takes src (if c.val < 32 then 0x91000 else 0x91004) ∧ s.triggerTaken c = true ∧ s.dmaState c
      ≠ dmaWaitTrig) ∧
    (∃ s : State, ∃ src : Src, ∃ c : Chan, s.takes src (if c.val < 32 then 0x91000 else 0x91004) ∧ s.triggerTaken c = true ∧ s.dmaState c
      = dmaWaitTrig) ∧
    (∃ s : State, ∃ src : Src, ∃ c : Chan, s.takes src (if c.val < 32 then 0x91000 else 0x91004) ∧ s.triggerTaken c = false) ∧
    (∃ s : State, ∃ src : Src, ∃ c : Chan, ∃ v : Word, s.takesReg src .DMA_RATE c ∧ F.DMA_RATE_RATE.of v ≤ 256 ∧ 1 ≤ F.DMA_RATE_DEPTH.of v
      ∧ F.DMA_RATE_DEPTH.of v ≤ 16) ∧
    (∃ s : State, ∃ src : Src, ∃ c : Chan, ∃ v : Word, s.takesReg src .DMA_RATE c ∧ (256 < F.DMA_RATE_RATE.of v ∨ F.DMA_RATE_DEPTH.of v =
      0 ∨ 16 < F.DMA_RATE_DEPTH.of v)) := by
  refine ⟨?_, ?_, ?_, ?_, ?_, ?_, ?_, ?_, ?_, ?_, ?_, ?_⟩
  · refine ⟨(live.put F.DMA_STATUS_STATE 5 63), .host, 63, F.DMA_CTRL_MAX_OUT.put 1 32, ?_⟩
    decide +kernel
  · refine ⟨(live.put F.DMA_STATUS_STATE 5 63), .host, 63, F.DMA_CTRL_MAX_OUT.put 1 33, ?_⟩
    decide +kernel
  · refine ⟨(live.put F.DMA_STATUS_STATE 5 63), .host, 63, F.DMA_CTRL_MAX_OUT.put 2 32, ?_⟩
    decide +kernel
  · refine ⟨(live.put F.DMA_STATUS_STATE 3 63), .host, 63, F.DMA_CTRL_MAX_OUT.put 3 32, ?_⟩
    decide +kernel
  · refine ⟨(live.put F.DMA_STATUS_STATE 1 63), .host, 63, F.DMA_CTRL_MAX_OUT.put 3 32, ?_⟩
    decide +kernel
  · refine ⟨({ (live.put F.DMA_STATUS_STATE 4 63) with dma := { live.dma with ch := live.dma.ch.set 63 { live.dma.ch[(63 : Fin 64)] with abort := some 0 } } }).atClock 8192, 63, 0, ?_⟩
    decide +kernel
  · refine ⟨(live.put F.DMA_STATUS_STATE 3 63), 63, ?_⟩
    decide +kernel
  · refine ⟨live.put F.DMA_CTRL_TRIG_EN 1 63, .host, 63, ?_⟩
    decide +kernel
  · refine ⟨((live.put F.DMA_CTRL_TRIG_EN 1 63).put F.DMA_STATUS_STATE 2 63), .host, 63, ?_⟩
    decide +kernel
  · refine ⟨live, .host, 63, ?_⟩
    decide +kernel
  · refine ⟨live, .host, 63, F.DMA_RATE_DEPTH.put (F.DMA_RATE_RATE.put 0 256) 16, ?_⟩
    decide +kernel
  · refine ⟨live, .host, 63, F.DMA_RATE_DEPTH.put (F.DMA_RATE_RATE.put 0 257) 16, ?_⟩
    decide +kernel

/-- What `Obligations.DmaTransfers` assumes, clause by clause. -/
theorem witness_DmaTransfers :
    (∃ s : State, ∃ c : Chan, ∃ w : List DWord,
      s.dmaState c = dmaFetch ∧ dmaDescAddrOk (s.dmaDesc c) = true ∧ s.dmaHere (s.dmaDesc c) = false ∧ w.length = 4 ∧ (s.ch c).jobs = [] ∧
        (s.ch c).abort = none ∧
      let d := dmaDescOf (s.dmaDesc c) w
      d.bad = false ∧ s.b F.DMA_CTRL_TRIG_EN c = false) ∧
    (∃ s : State, ∃ c : Chan, ∃ w : List DWord,
      s.dmaState c = dmaFetch ∧ dmaDescAddrOk (s.dmaDesc c) = true ∧ s.dmaHere (s.dmaDesc c) = false ∧ w.length = 4 ∧ (s.ch c).jobs = [] ∧
        (s.ch c).abort = none ∧
      let d := dmaDescOf (s.dmaDesc c) w
      d.bad = true) ∧
    (∃ s : State, ∃ c : Chan, s.dmaState c = dmaFetch ∧ dmaDescAddrOk (s.dmaDesc c) = false ∧ (s.ch c).jobs = []) ∧
    (∃ s : State, ∃ c : Chan, s.dmaState c ≠ dmaFetch) ∧
    (∃ s : State, s.dmaOrder.findSome? (fun c => (s.dmaEligible c).map fun x => (c, x)) = none) ∧
    (∃ s : State, s.dma.servedAt = some s.clk) ∧
    (∃ s : State, ∃ c : Chan, ∃ j : DmaJob, ∃ b : DmaBurst, s.dma.servedAt ≠ some s.clk ∧ s.dmaOrder.findSome? (fun c => (s.dmaEligible
      c).map fun x => (c, x)) = some (c, j, b) ∧ s.dmaHere b.addr = false ∧ b.use = .read) ∧
    (∃ s : State, ∃ tag : Fin 256, assoc s.dma.tags tag.val = none) ∧
    (∃ s : State, ∃ tag : Fin 256, ∃ x : DmaTag, assoc s.dma.tags tag.val = some x ∧ (x.local_.isSome = true ∨ s.dmaHere x.addr = false)) ∧
    (∃ s : State, ∃ w : List DWord, ∃ tag : Fin 256, ∃ j : DmaJob, ∃ x : DmaTag, assoc s.dma.tags tag.val = some x ∧ x.use = .read ∧
      x.dead = false ∧ x.local_ = none ∧ s.dmaHere x.addr = false ∧ (s.ch x.chan).jobs = [j] ∧ j.id = x.desc ∧ j.sent < j.desc.len ∧
      j.done = false ∧ (unpackBytes x.addr x.n w).length = x.n) ∧
    (∃ s : State, ∃ tag : Fin 256, ∃ x : DmaTag, assoc s.dma.tags tag.val = some x ∧ x.at_ + 163840 ≤ s.clk) ∧
    (∃ s : State, ∃ c : Chan, ∃ j : DmaJob, (s.ch c).jobs = [j] ∧ j.done = true ∧ j.code = 0 ∧ j.acked = j.desc.len ∧ s.dmaBusy c j.id =
      false ∧ s.dmaState c = dmaDrain ∧ (s.ch c).abort = none ∧ s.dmaHere (j.desc.addr + 28) = false) := by
  refine ⟨?_, ?_, ?_, ?_, ?_, ?_, ?_, ?_, ?_, ?_, ?_, ?_⟩
  · refine ⟨(((live.put F.DMA_STATUS_STATE 1 63).put F.DMA_DESC_LO_DESC (0x2000000000000000) 63).put F.DMA_DESC_HI_DESC
    ((0x2000000000000000) / 2 ^ 32) 63), 63, [0x2000000000000100, 0x2000000000000200, 0, BitVec.ofNat 64 (256 + 2 ^ 20 * 2 ^ 9)], ?_⟩
    decide +kernel
  · refine ⟨(((live.put F.DMA_STATUS_STATE 1 63).put F.DMA_DESC_LO_DESC (0x2000000000000000) 63).put F.DMA_DESC_HI_DESC
    ((0x2000000000000000) / 2 ^ 32) 63), 63, [0, 0, 0, 0], ?_⟩
    decide +kernel
  · refine ⟨(((live.put F.DMA_STATUS_STATE 1 63).put F.DMA_DESC_LO_DESC (4) 63).put F.DMA_DESC_HI_DESC ((4) / 2 ^ 32) 63), 63, ?_⟩
    decide +kernel
  · refine ⟨live, 63, ?_⟩
    decide +kernel
  · refine ⟨live, ?_⟩
    decide +kernel
  · refine ⟨{ live with dma := { live.dma with servedAt := some 0 } }, ?_⟩
    decide +kernel
  · refine ⟨{ ((live.put F.DMA_STATUS_STATE 3 63).put F.DMA_CTRL_MAX_OUT 4 63) with dma := { live.dma with ch := live.dma.ch.set 63 { live.dma.ch[(63 : Fin 64)] with jobs := [⟨0, ⟨0x2000000000000000, 0x2000000000000100, 0x2000000000000200, 0, 256, 2 ^ 9⟩, ⟨0x2000000000000100, 0, 256, true⟩, ⟨0x2000000000000200, 0, 256, true⟩, 0, [], 0, 0, 0, false, false, false, none⟩] }, tags := [] } }, 63, ⟨0, ⟨0x2000000000000000, 0x2000000000000100, 0x2000000000000200, 0, 256, 2 ^ 9⟩, ⟨0x2000000000000100, 0, 256, true⟩, ⟨0x2000000000000200, 0, 256, true⟩, 0, [], 0, 0, 0, false, false, false, none⟩, ⟨.read, 0x2000000000000100, 0, 128, []⟩, ?_⟩
    decide +kernel
  · refine ⟨live, 255, ?_⟩
    decide +kernel
  · refine ⟨{ (live.put F.DMA_STATUS_STATE 3 63) with dma := { live.dma with ch := live.dma.ch.set 63 { live.dma.ch[(63 : Fin 64)] with jobs := [⟨0, ⟨0x2000000000000000, 0x2000000000000100, 0x2000000000000200, 0, 256, 2 ^ 9⟩, ⟨0x2000000000000100, 0, 256, true⟩, ⟨0x2000000000000200, 0, 256, true⟩, 128, [], 0, 0, 0, false, false, false, none⟩] }, tags := [(255, ⟨63, 0, .read, 0x2000000000000100, 0, 128, 0, none, false⟩)] } }, 255, ⟨63, 0, .read, 0x2000000000000100, 0, 128, 0, none, false⟩, ?_⟩
    decide +kernel
  · refine ⟨{ (live.put F.DMA_STATUS_STATE 3 63) with dma := { live.dma with ch := live.dma.ch.set 63 { live.dma.ch[(63 : Fin 64)] with jobs := [⟨0, ⟨0x2000000000000000, 0x2000000000000100, 0x2000000000000200, 0, 256, 2 ^ 9⟩, ⟨0x2000000000000100, 0, 256, true⟩, ⟨0x2000000000000200, 0, 256, true⟩, 128, [], 0, 0, 0, false, false, false, none⟩] }, tags := [(255, ⟨63, 0, .read, 0x2000000000000100, 0, 128, 0, none, false⟩)] } }, List.replicate 16 5, 255, ⟨0, ⟨0x2000000000000000, 0x2000000000000100, 0x2000000000000200, 0, 256, 2 ^ 9⟩, ⟨0x2000000000000100, 0, 256, true⟩, ⟨0x2000000000000200, 0, 256, true⟩, 128, [], 0, 0, 0, false, false, false, none⟩, ⟨63, 0, .read, 0x2000000000000100, 0, 128, 0, none, false⟩, ?_⟩
    decide +kernel
  · refine ⟨({ (live.put F.DMA_STATUS_STATE 3 63) with dma := { live.dma with ch := live.dma.ch.set 63 { live.dma.ch[(63 : Fin 64)] with jobs := [⟨0, ⟨0x2000000000000000, 0x2000000000000100, 0x2000000000000200, 0, 256, 2 ^ 9⟩, ⟨0x2000000000000100, 0, 256, true⟩, ⟨0x2000000000000200, 0, 256, true⟩, 128, [], 0, 0, 0, false, false, false, none⟩] }, tags := [(255, ⟨63, 0, .read, 0x2000000000000100, 0, 128, 0, none, false⟩)] } }).atClock 163840, 255, ⟨63, 0, .read, 0x2000000000000100, 0, 128, 0, none, false⟩, ?_⟩
    decide +kernel
  · refine ⟨{ (live.put F.DMA_STATUS_STATE 4 63) with dma := { live.dma with ch := live.dma.ch.set 63 { live.dma.ch[(63 : Fin 64)] with jobs := [⟨0, ⟨0x2000000000000000, 0x2000000000000100, 0x2000000000000200, 0, 256, 2 ^ 9⟩, ⟨0x2000000000000100, 0, 256, true⟩, ⟨0x2000000000000200, 0, 256, true⟩, 256, [], 256, 256, 0, true, false, false, none⟩] }, tags := [] } }, 63, ⟨0, ⟨0x2000000000000000, 0x2000000000000100, 0x2000000000000200, 0, 256, 2 ^ 9⟩, ⟨0x2000000000000100, 0, 256, true⟩, ⟨0x2000000000000200, 0, 256, true⟩, 256, [], 256, 256, 0, true, false, false, none⟩, ?_⟩
    decide +kernel

/-- What `Obligations.FullLoad` assumes, clause by clause. -/
theorem witness_FullLoad :
    (∃ s : State, ∃ slot : Fin 2, s.up = true ∧ s.f F.SYS_START_PHASE = 1 ∧ s.started (if s.pwr.warm = true then 3276800 else 6553600) =
      true ∧ slot = s.bootSlot ∧ s.slotValid slot = true) ∧
    (∃ s : State, ∃ slot : Fin 2, s.up = true ∧ s.f F.SYS_START_PHASE = 1 ∧ s.started (if s.pwr.warm = true then 3276800 else 6553600) =
      true ∧ slot = s.bootSlot ∧ s.slotValid slot = false) ∧
    (∃ s : State, ∃ slot : Fin 2, ∃ again : Bool, s.load.op = .full slot again) ∧
    (∃ s : State, ∃ slot : Fin 2, ∃ again : Bool,
      let img := s.load.stream
      s.load.op = .full slot again ∧ s.load.header = false ∧ 64 ≤ img.length ∧ s.headerCode (img.take 64) 1 none = 0) ∧
    (∃ s : State, ∃ slot : Fin 2, ∃ again : Bool,
      let img := s.load.stream
      s.load.op = .full slot again ∧ s.load.header = true ∧ s.load.frames < hdrFrames img ∧ 64 + 256 * (s.load.frames + 1) ≤ img.length ∧
        s.frameCodeAt img s.load.frames s.load.last s.load.pairs = 0) ∧
    (∃ s : State, ∃ slot : Fin 2, ∃ again : Bool,
      let img := s.load.stream
      s.load.op = .full slot again ∧ s.load.header = true ∧ s.load.frames < hdrFrames img ∧ img.length < 64 + 256 * (s.load.frames + 1)) ∧
    (∃ s : State, ∃ slot : Fin 2, ∃ again : Bool,
      let img := s.load.stream
      s.load.op = .full slot again ∧ s.load.header = true ∧ s.load.frames = hdrFrames img ∧ 192 + 256 * hdrFrames img ≤ img.length ∧
        s.trailerCode img (256 * hdrFrames img) = 0) ∧
    (∃ s : State, ∃ slot : Fin 2, ∃ again : Bool,
      let img := s.load.stream
      s.load.op = .full slot again ∧ s.load.header = true ∧ s.load.frames = hdrFrames img) ∧
    (∃ s : State, ∃ slot : Fin 2, s.load.fallback = some slot ∧ s.slotValid slot = true) ∧
    (∃ s : State, s.load.fallback = none) ∧
    (∃ s : State, s.f F.SYS_START_PHASE = 3) ∧
    (∃ s : State, s.mayRelease = true ∧ s.pol.inForce = none) ∧
    (∃ s : State, s.mayRelease = false) ∧
    (∃ s : State, ∃ auto : Bool, s.load.op = .region false auto ∧ s.cfgState = 2) := by
  refine ⟨?_, ?_, ?_, ?_, ?_, ?_, ?_, ?_, ?_, ?_, ?_, ?_, ?_, ?_⟩
  · refine ⟨((live.put F.SYS_START_PHASE 1).put F.CFG_FLASH_SLOT_A_VALID 1).atClock 6553600, 0, ?_⟩
    decide +kernel
  · refine ⟨(live.put F.SYS_START_PHASE 1).atClock 6553600, 0, ?_⟩
    decide +kernel
  · refine ⟨{ live with load := { live.load with op := .full 1 false } }, 1, false, ?_⟩
    decide +kernel
  · refine ⟨{ (live.withKey fullKey) with load := { live.load with op := .full 1 false, stream := fullImg } }, 1, false, ?_⟩
    decide +kernel
  · refine ⟨{ (live.withKey fullKey) with load := { live.load with op := .full 1 false, stream := fullImg, header := true } }, 1, false, ?_⟩
    decide +kernel
  · refine ⟨{ (live.withKey fullKey) with load := { live.load with op := .full 1 false, stream := fullImg.take 319, header := true } }, 1, false, ?_⟩
    decide +kernel
  · refine ⟨{ (live.withKey fullKey) with load := { live.load with op := .full 1 false, stream := fullImg, header := true, frames := 1 } }, 1, false, ?_⟩
    decide +kernel
  · refine ⟨{ (live.withKey fullKey) with load := { live.load with op := .full 1 true, stream := fullImg, header := true, frames := 1 } }, 1, true, ?_⟩
    decide +kernel
  · refine ⟨{ (live.put F.CFG_FLASH_SLOT_B_VALID 1) with load := { live.load with fallback := some 1 } }, 1, ?_⟩
    decide +kernel
  · refine ⟨live, ?_⟩
    decide +kernel
  · refine ⟨live.put F.SYS_START_PHASE 3, ?_⟩
    decide +kernel
  · refine ⟨{ live.put F.SYS_START_PHASE 4 with clk := 40960000, pwr := { live.pwr with released := false } }, ?_⟩
    decide +kernel
  · refine ⟨live, ?_⟩
    decide +kernel
  · refine ⟨{ live.put F.CFG_STATUS_STATE 2 with load := { live.load with op := .region false true } }, true, ?_⟩
    decide +kernel

/-- What `Obligations.Configuration` assumes, clause by clause. -/
theorem witness_Configuration :
    (∃ s : State, ∃ src : Src, ∃ v : Word, s.takesReg src .CFG_CTRL ∧ s.cfgState = 0 ∧ F.CFG_CTRL_END_OF_SOURCE.of v = 0 ∧
      F.CFG_CTRL_START.of v = 1 ∧ F.CFG_CTRL_ABORT.of v = 0 ∧ F.CFG_CTRL_OP.of v = 0 ∧ s.released = true ∧ F.CFG_CTRL_SOURCE.of v = 1) ∧
    (∃ s : State, ∃ src : Src, ∃ v : Word,
      let lib := F.CFG_CTRL_LIB_INDEX.of v
      s.takesReg src .CFG_CTRL ∧ s.cfgState = 0 ∧ F.CFG_CTRL_END_OF_SOURCE.of v = 0 ∧ F.CFG_CTRL_START.of v = 1 ∧ F.CFG_CTRL_ABORT.of v =
        0 ∧ F.CFG_CTRL_OP.of v = 0 ∧ s.released = true ∧ F.CFG_CTRL_SOURCE.of v = 0 ∧ s.bit F.CFG_LIB_VALID_VALID lib = false) ∧
    (∃ s : State, ∃ src : Src, ∃ v : Word,
      let lib := F.CFG_CTRL_LIB_INDEX.of v
      let target := F.CFG_CTRL_TARGET.of v
      s.takesReg src .CFG_CTRL ∧ s.cfgState = 0 ∧ F.CFG_CTRL_END_OF_SOURCE.of v = 0 ∧ F.CFG_CTRL_START.of v = 1 ∧ F.CFG_CTRL_ABORT.of v =
        0 ∧ F.CFG_CTRL_OP.of v = 0 ∧ s.released = true ∧ F.CFG_CTRL_SOURCE.of v = 0 ∧ s.bit F.CFG_LIB_VALID_VALID lib = true ∧ 64 ≤
        (s.flash.lib[Fin.ofNat 32 lib]).length ∧ s.headerCode ((s.flash.lib[Fin.ofNat 32 lib]).take 64) 2 (some target) = 0) ∧
    (∃ s : State, ∃ src : Src, ∃ v : Word, s.takesReg src .CFG_CTRL ∧ s.cfgState = 0 ∧ F.CFG_CTRL_END_OF_SOURCE.of v = 0 ∧
      F.CFG_CTRL_START.of v = 1 ∧ F.CFG_CTRL_ABORT.of v = 0 ∧ F.CFG_CTRL_OP.of v = 0 ∧ s.released = true ∧ 2 ≤ F.CFG_CTRL_SOURCE.of v) ∧
    (∃ s : State, ∃ src : Src, ∃ v : Word, s.takesReg src .CFG_CTRL ∧ s.cfgState = 0 ∧ F.CFG_CTRL_END_OF_SOURCE.of v = 0 ∧
      F.CFG_CTRL_START.of v = 1 ∧ F.CFG_CTRL_ABORT.of v = 0 ∧ F.CFG_CTRL_OP.of v = 0 ∧ F.CFG_CTRL_SOURCE.of v < 2 ∧ s.released = false) ∧
    (∃ s : State, ∃ src : Src, ∃ v : Word, s.takesReg src .CFG_CTRL ∧ s.cfgState = 0 ∧ F.CFG_CTRL_END_OF_SOURCE.of v = 0 ∧
      F.CFG_CTRL_START.of v = 1 ∧ F.CFG_CTRL_ABORT.of v = 0 ∧ F.CFG_CTRL_OP.of v = 1 ∧ F.CFG_CTRL_DEST.of v ≠ 3) ∧
    (∃ s : State, ∃ src : Src, ∃ v : Word, s.takesReg src .CFG_CTRL ∧ s.cfgState = 0 ∧ F.CFG_CTRL_END_OF_SOURCE.of v = 0 ∧
      F.CFG_CTRL_START.of v = 1 ∧ F.CFG_CTRL_ABORT.of v = 0 ∧ F.CFG_CTRL_OP.of v = 1 ∧ F.CFG_CTRL_DEST.of v = 3) ∧
    (∃ s : State, ∃ src : Src, ∃ v : Word, s.takesReg src .CFG_CTRL ∧ s.cfgState = 0 ∧ F.CFG_CTRL_END_OF_SOURCE.of v = 0 ∧
      F.CFG_CTRL_START.of v = 1 ∧ F.CFG_CTRL_ABORT.of v = 0 ∧ 2 ≤ F.CFG_CTRL_OP.of v) ∧
    (∃ s : State, ∃ src : Src, ∃ v : Word, s.takesReg src .CFG_CTRL ∧ s.cfgState ≠ 0 ∧ F.CFG_CTRL_ABORT.of v = 0 ∧
      F.CFG_CTRL_END_OF_SOURCE.of v = 0) ∧
    (∃ s : State, ∃ src : Src, ∃ v : Word, ∃ h : Bool, ∃ a : Bool, ∃ d : Nat, s.takesReg src .CFG_CTRL ∧ s.cfgState ≠ 0 ∧
      F.CFG_CTRL_ABORT.of v = 1 ∧ (s.load.op = .region h a ∨ s.load.op = .program d)) ∧
    (∃ s : State, ∃ src : Src, ∃ v : Word, s.takesReg src .CFG_CTRL ∧ F.CFG_CTRL_ABORT.of v = 0 ∧ F.CFG_CTRL_END_OF_SOURCE.of v = 1 ∧
      s.cfgState ≠ 0 ∧ s.hostSource = true ∧ s.receiving = true ∧ s.streamShort = true) ∧
    (∃ s : State, ∃ src : Src, ∃ v : Word, s.takesReg src .CFG_CTRL ∧ F.CFG_CTRL_ABORT.of v = 0 ∧ F.CFG_CTRL_END_OF_SOURCE.of v = 1 ∧
      s.cfgState ≠ 0 ∧ s.hostSource = true ∧ (s.receiving = false ∨ s.streamShort = false)) ∧
    (∃ s : State, ∃ src : Src, ∃ v : Word, s.takesReg src .CFG_CTRL ∧ F.CFG_CTRL_ABORT.of v = 0 ∧ F.CFG_CTRL_END_OF_SOURCE.of v = 1 ∧
      (s.cfgState = 0 ∨ s.hostSource = false)) ∧
    (∃ s : State, ∃ src : Src, s.takesReg src .CFG_DATA ∧ s.receiving = true ∧ s.load.ended = false ∧ (s.load.header = false ∨
      s.load.stream.length < hdrLength s.load.stream) ∧ (s.load.header = true ∨ s.load.stream.length + 4 ≠ 64)) ∧
    (∃ s : State, ∃ src : Src, s.takesReg src .CFG_DATA ∧ (s.receiving = false ∨ s.load.ended = true)) ∧
    (∃ s : State, s.receiving = true ∧ s.streamShort = true ∧ s.load.byteAt + 16384000 ≤ s.clk) ∧
    (∃ s : State, ∃ h : Bool, ∃ a : Bool, s.load.op = .region h a ∧ s.cfgState = 2 ∧ s.streamShort = false ∧ (s.bodyCode s.load.stream).1
      = 0) ∧
    (∃ s : State, ∃ h : Bool, ∃ a : Bool, s.load.op = .region h a ∧ s.cfgState = 2 ∧ s.streamShort = false ∧ (s.bodyCode s.load.stream).1
      ≠ 0) ∧
    (∃ s : State, ∃ h : Bool, ∃ a : Bool, s.load.op = .region h a ∧ s.cfgState = 2 ∧ h = false) ∧
    (∃ s : State, ∃ h : Bool, ∃ a : Bool, s.load.op = .region h a ∧ s.cfgState = 3) ∧
    (∃ s : State, ∃ h : Bool, ∃ a : Bool, s.load.op = .region h a ∧ s.cfgState = 4 ∧ a = false) ∧
    (∃ s : State, ∃ d : Nat, s.load.op = .program d ∧ s.cfgState = 6 ∧ (s.bodyCode s.load.stream).1 = 0) ∧
    (∃ s : State, ∃ d : Nat, s.load.op = .program d ∧ s.cfgState = 6 ∧ (s.bodyCode s.load.stream).1 ≠ 0) ∧
    (∃ s : State, ∃ src : Src, s.takesReg src .CFG_HOLD) ∧
    (∃ s : State, ∃ src : Src, s.takesReg src .CFG_BOOT) ∧
    (∃ s : State, ∃ src : Src, ∃ v : Word,
      s.takesReg src .CFG_KEY_REVOKE ∧
      let revoked := s.f F.CFG_KEYS_SIGN_REVOKED ||| 1 <<< F.CFG_KEY_REVOKE_INDEX.of v
      let last := s.f F.CFG_KEYS_SIGN_PROG &&& (255 - revoked) = 0
      F.CFG_KEY_REVOKE_KEY.of v = 0x5A ∧ (¬last)) ∧
    (∃ s : State, ∃ src : Src, ∃ v : Word,
      s.takesReg src .CFG_KEY_REVOKE ∧
      let revoked := s.f F.CFG_KEYS_SIGN_REVOKED ||| 1 <<< F.CFG_KEY_REVOKE_INDEX.of v
      let last := s.f F.CFG_KEYS_SIGN_PROG &&& (255 - revoked) = 0
      (F.CFG_KEY_REVOKE_KEY.of v ≠ 0x5A ∨ last)) ∧
    (∃ s : State, ∃ r : Reg, ∃ w : Nat, s.fab.scrub = true ∧ s.up = true ∧ w < regionWords ∧ s.scrubSkips r w = false) ∧
    (∃ s : State, ∃ r : Reg, ∃ w : Nat, ∃ x : Fin 64, ∃ y : Fin 64, s.fab.scrub = true ∧ s.up = true ∧ w < regionWords ∧ s.scrubSkips r w
      = false ∧ x ≠ y) ∧
    (∃ s : State, s.fab.scrub = false) := by
  refine ⟨?_, ?_, ?_, ?_, ?_, ?_, ?_, ?_, ?_, ?_, ?_, ?_, ?_, ?_, ?_, ?_, ?_, ?_, ?_, ?_, ?_, ?_, ?_, ?_, ?_, ?_, ?_, ?_, ?_, ?_⟩
  · refine ⟨live, .host, F.CFG_CTRL_START.put (F.CFG_CTRL_SOURCE.put 0 1) 1, ?_⟩
    decide +kernel
  · refine ⟨live, .host, F.CFG_CTRL_START.put (F.CFG_CTRL_LIB_INDEX.put 0 31) 1, ?_⟩
    decide +kernel
  · refine ⟨{ (live.withKey regionImgKey).put F.CFG_LIB_VALID_VALID 0xFFFFFFFF |>.put F.CFG_RESERVE_RESERVE 1 with flash := { (live.withKey regionImgKey).flash with lib := Vector.replicate 32 regionImg } }, .host, F.CFG_CTRL_START.put (F.CFG_CTRL_LIB_INDEX.put 0 31) 1, ?_⟩
    decide +kernel
  · refine ⟨live, .host, F.CFG_CTRL_START.put (F.CFG_CTRL_SOURCE.put 0 2) 1, ?_⟩
    decide +kernel
  · refine ⟨{ live with pwr := { live.pwr with released := false } }, .host, F.CFG_CTRL_START.put (F.CFG_CTRL_SOURCE.put 0 1) 1, ?_⟩
    decide +kernel
  · refine ⟨live, .host, F.CFG_CTRL_START.put (F.CFG_CTRL_OP.put 0 1) 1, ?_⟩
    decide +kernel
  · refine ⟨live, .host, F.CFG_CTRL_START.put (F.CFG_CTRL_DEST.put (F.CFG_CTRL_OP.put 0 1) 3) 1, ?_⟩
    decide +kernel
  · refine ⟨live, .host, F.CFG_CTRL_START.put (F.CFG_CTRL_OP.put 0 2) 1, ?_⟩
    decide +kernel
  · refine ⟨(live.put F.CFG_STATUS_STATE 1), .host, F.CFG_CTRL_START.put 0 1, ?_⟩
    decide +kernel
  · refine ⟨{ (live.put F.CFG_STATUS_STATE 2) with load := { live.load with op := .region true false } }, .host, F.CFG_CTRL_ABORT.put 0 1, true, false, 0, ?_⟩
    decide +kernel
  · refine ⟨{ (live.put F.CFG_STATUS_STATE 2) with load := { live.load with op := .region true false } }, .host, F.CFG_CTRL_END_OF_SOURCE.put 0 1, ?_⟩
    decide +kernel
  · refine ⟨{ (live.put F.CFG_STATUS_STATE 3) with load := { live.load with op := .region true false } }, .host, F.CFG_CTRL_END_OF_SOURCE.put 0 1, ?_⟩
    decide +kernel
  · refine ⟨live, .host, F.CFG_CTRL_END_OF_SOURCE.put 0 1, ?_⟩
    decide +kernel
  · refine ⟨{ (live.put F.CFG_STATUS_STATE 2) with load := { live.load with op := .region true false } }, .host, ?_⟩
    decide +kernel
  · refine ⟨live, .host, ?_⟩
    decide +kernel
  · refine ⟨({ (live.put F.CFG_STATUS_STATE 2) with load := { live.load with op := .region true false } }).atClock 16384000, ?_⟩
    decide +kernel
  · refine ⟨{ ((live.withKey regionImgKey).put F.CFG_STATUS_STATE 2) with load := { live.load with op := .region true false, stream := regionImg, header := true } }, true, false, ?_⟩
    decide +kernel
  · refine ⟨{ ((live.withKey fullKey).put F.CFG_STATUS_STATE 2) with load := { live.load with op := .region true false, stream := regionImg, header := true } }, true, false, ?_⟩
    decide +kernel
  · refine ⟨{ (live.put F.CFG_STATUS_STATE 2) with load := { live.load with op := .region false false } }, false, false, ?_⟩
    decide +kernel
  · refine ⟨{ ((live.withKey regionImgKey).put F.CFG_STATUS_STATE 3) with load := { live.load with op := .region true false, stream := regionImg, header := true } }, true, false, ?_⟩
    decide +kernel
  · refine ⟨{ ((live.withKey regionImgKey).put F.CFG_STATUS_STATE 4) with load := { live.load with op := .region true false, stream := regionImg, header := true } }, true, false, ?_⟩
    decide +kernel
  · refine ⟨{ ((live.withKey regionImgKey).put F.CFG_STATUS_STATE 6) with load := { live.load with op := .program 33, stream := regionImg, header := true } }, 33, ?_⟩
    decide +kernel
  · refine ⟨{ ((live.withKey fullKey).put F.CFG_STATUS_STATE 6) with load := { live.load with op := .program 33, stream := regionImg, header := true } }, 33, ?_⟩
    decide +kernel
  · refine ⟨live, .host, ?_⟩
    decide +kernel
  · refine ⟨live, .host, ?_⟩
    decide +kernel
  · refine ⟨live.put F.CFG_KEYS_SIGN_PROG 129, .host, F.CFG_KEY_REVOKE_INDEX.put (F.CFG_KEY_REVOKE_KEY.put 0 0x5A) 7, ?_⟩
    decide +kernel
  · refine ⟨live.put F.CFG_KEYS_SIGN_PROG 128, .host, F.CFG_KEY_REVOKE_INDEX.put (F.CFG_KEY_REVOKE_KEY.put 0 0x5A) 7, ?_⟩
    decide +kernel
  · refine ⟨{ live with fab := { live.fab with scrub := true } }, 31, 17359, ?_⟩
    decide +kernel
  · refine ⟨{ live with fab := { live.fab with scrub := true } }, 31, 17359, 63, 0, ?_⟩
    decide +kernel
  · refine ⟨live, ?_⟩
    decide +kernel

/-- What `Obligations.FabricPorts` assumes, clause by clause. -/
theorem witness_FabricPorts :
    (∃ s : State, ∃ i : Fclk, (s.synthWord i).getLsbD 31 = true) ∧
    (∃ s : State, ∃ i : Fclk, (s.synthWord i).getLsbD 31 = false) ∧
    (∃ s : State, ∃ i : Fclk, s.fclkLocked i = true) ∧
    (∃ s : State, ∃ src : Src, ∃ d : Die, ∃ a : Fin 65536, s.userPort d = true ∧ (∀ e, src ≠ .engine e) ∧ s.takes src (userOffset d a)) ∧
    (∃ s : State, ∃ src : Src, ∃ d : Die, s.userPort d = true ∧ (∀ e, src ≠ .engine e) ∧ s.up = true) ∧
    (∃ s : State, ∃ d : Die, s.userPort d = false ∧ s.up = true) ∧
    (∃ s : State, ∃ d : Die, ∃ p : PortAccess, ∃ l : List PortAccess, s.fab.access[d] = p :: l) ∧
    (∃ s : State, ∃ d : Die, ∃ p : PortAccess, ∃ l : List PortAccess, s.fab.access[d] = p :: l ∧ s.accessLate d = false) ∧
    (∃ s : State, ∃ d : Die, ∃ p : PortAccess, ∃ l : List PortAccess, s.fab.access[d] = p :: l ∧ s.accessLate d = true) ∧
    (∃ s : State, ∃ d : Die, ∃ addr : BitVec 24, s.released = true ∧ s.up = true ∧ s.fab.master[d] = none ∧ permits (.fabric d) addr.toNat
      = true ∧ addr.toNat % 4 = 0) ∧
    (∃ s : State, ∃ d : Die, ∃ addr : BitVec 24, s.released = true ∧ s.up = true ∧ s.fab.master[d] = none ∧ permits (.fabric d) addr.toNat
      = false ∧ addr.toNat % 4 = 0) ∧
    (∃ s : State, s.released = false) ∧
    (∃ s : State, ∃ e : Eng, s.released = true ∧ s.eng[e].rung ≠ some s.clk ∧ s.engLive e = true ∧ s.b F.ENG_STATUS_DB_PEND e = false) ∧
    (∃ s : State, ∃ src : Src, ∃ v : Word, ∃ d : Die, ∃ t8 : Fin 8, s.takesReg src .FAB_TAP d t8 ∧ F.FAB_TAP_CONV.of v < 36) ∧
    (∃ s : State, ∃ src : Src, ∃ v : Word, ∃ d : Die, ∃ t8 : Fin 8, s.takesReg src .FAB_TAP d t8 ∧ 36 ≤ F.FAB_TAP_CONV.of v) ∧
    (∃ s : State, ∃ src : Src, ∃ v : Word, s.takesReg src .FAB_CAP_CTRL ∧ F.FAB_CAP_CTRL_START.of v = 1 ∧ s.f F.FAB_CAP_STATUS_STATE = 0 ∧
      F.FAB_CAP_CTRL_SCOPE.of v ≠ 3 ∧ s.mode parked = false) ∧
    (∃ s : State, ∃ src : Src, ∃ v : Word, s.takesReg src .FAB_CAP_CTRL ∧ F.FAB_CAP_CTRL_START.of v = 1 ∧ s.f F.FAB_CAP_STATUS_STATE = 0 ∧
      F.FAB_CAP_CTRL_SCOPE.of v ≠ 3 ∧ s.mode parked = true) ∧
    (∃ s : State, ∃ src : Src, ∃ v : Word, s.takesReg src .FAB_CAP_CTRL ∧ F.FAB_CAP_CTRL_START.of v = 1 ∧ (s.f F.FAB_CAP_STATUS_STATE ≠ 0
      ∨ F.FAB_CAP_CTRL_SCOPE.of v = 3)) ∧
    (∃ s : State, ∃ src : Src, ∃ v : Word, s.takesReg src .FAB_CAP_CTRL ∧ F.FAB_CAP_CTRL_START.of v = 0 ∧ F.FAB_CAP_CTRL_ARM.of v = 1 ∧
      s.f F.FAB_CAP_STATUS_STATE = 0 ∧ F.FAB_CAP_CTRL_SCOPE.of v ≠ 3) ∧
    (∃ s : State, ∃ c : Capture, s.fab.capture = some c ∧ s.f F.FAB_CAP_STATUS_STATE = 2) ∧
    (∃ s : State, ∃ c : Capture, s.fab.capture = some c ∧ s.captureFires c = true ∧ s.scopeMoves c = true ∧ s.fclkLocked c.clk = true) ∧
    (∃ s : State, ∃ c : Capture, s.fab.capture = some c ∧ s.captureFires c = false) ∧
    (∃ s : State, ∃ c : Capture, s.fab.capture = some c ∧ s.captureFires c = true ∧ s.scopeMoves c = false ∧ s.fclkLocked c.clk = true) ∧
    (∃ s : State, ∃ c : Capture, s.fab.capture = some c ∧ s.captureFires c = true ∧ s.scopeMoves c = false ∧ s.f F.FAB_CAP_STATUS_STATE =
      1 ∧ c.at_ + 328 ≤ s.clk) ∧
    (∃ s : State, s.f F.FAB_CAP_STATUS_STATE = 0) := by
  refine ⟨?_, ?_, ?_, ?_, ?_, ?_, ?_, ?_, ?_, ?_, ?_, ?_, ?_, ?_, ?_, ?_, ?_, ?_, ?_, ?_, ?_, ?_, ?_, ?_, ?_⟩
  · refine ⟨{ live with fab := { live.fab with cfg := [(dieKey 1 6275, 0x80000000)] } }, 7, ?_⟩
    decide +kernel
  · refine ⟨live, 7, ?_⟩
    decide +kernel
  · refine ⟨(live.put F.FAB_CLK_LOCK 255), 7, ?_⟩
    decide +kernel
  · refine ⟨(live.put F.FAB_CLK_LOCK 255), .host, 1, 65535, ?_⟩
    decide +kernel
  · refine ⟨(live.put F.FAB_CLK_LOCK 255), .host, 1, ?_⟩
    decide +kernel
  · refine ⟨live, 1, ?_⟩
    decide +kernel
  · refine ⟨{ (live.put F.FAB_CLK_LOCK 255) with fab := { live.fab with access := live.fab.access.set 1 [⟨.host, true, 0, 5, 0, none, 0⟩] } }, 1, ⟨.host, true, 0, 5, 0, none, 0⟩, [], ?_⟩
    decide +kernel
  · refine ⟨{ (live.put F.FAB_CLK_LOCK 255) with fab := { live.fab with access := live.fab.access.set 1 [⟨.host, true, 0, 5, 0, none, 0⟩] } }, 1, ⟨.host, true, 0, 5, 0, none, 0⟩, [], ?_⟩
    decide +kernel
  · refine ⟨({ (live.put F.FAB_CLK_LOCK 255) with fab := { live.fab with access := live.fab.access.set 1 [⟨.host, true, 0, 5, 0, none, 0⟩] } }).atClock 4096, 1, ⟨.host, true, 0, 5, 0, none, 0⟩, [], ?_⟩
    decide +kernel
  · refine ⟨live, 1, 0x40000, ?_⟩
    decide +kernel
  · refine ⟨live, 1, 0x10000, ?_⟩
    decide +kernel
  · refine ⟨{ live with pwr := { live.pwr with released := false } }, ?_⟩
    decide +kernel
  · refine ⟨live.put F.ENG_STATUS_STATE 2 7, 7, ?_⟩
    decide +kernel
  · refine ⟨live, .host, F.FAB_TAP_CONV.put 0 35, 1, 7, ?_⟩
    decide +kernel
  · refine ⟨live, .host, F.FAB_TAP_CONV.put 0 36, 1, 7, ?_⟩
    decide +kernel
  · refine ⟨live, .host, F.FAB_CAP_CTRL_SCOPE.put (F.FAB_CAP_CTRL_START.put 0 1) 2, ?_⟩
    decide +kernel
  · refine ⟨live.modesOn 128, .host, F.FAB_CAP_CTRL_SCOPE.put (F.FAB_CAP_CTRL_START.put 0 1) 2, ?_⟩
    decide +kernel
  · refine ⟨live, .host, F.FAB_CAP_CTRL_SCOPE.put (F.FAB_CAP_CTRL_START.put 0 1) 3, ?_⟩
    decide +kernel
  · refine ⟨live, .host, F.FAB_CAP_CTRL_SCOPE.put (F.FAB_CAP_CTRL_ARM.put 0 1) 2, ?_⟩
    decide +kernel
  · refine ⟨{ (live.put F.FAB_CAP_STATUS_STATE 2) with fab := { live.fab with capture := some ⟨3, 0, 7, 0, false, false⟩ } }, ⟨3, 0, 7, 0, false, false⟩, ?_⟩
    decide +kernel
  · refine ⟨{ ((((live.modesOn 64).put F.RELOC_STATUS_STATE 2).put F.FAB_CLK_LOCK 255).put F.FAB_CAP_STATUS_STATE 2) with fab := { live.fab with capture := some ⟨2, 0, 7, 0, false, true⟩ } }, ⟨2, 0, 7, 0, false, true⟩, ?_⟩
    decide +kernel
  · refine ⟨{ (live.put F.FAB_CAP_STATUS_STATE 2) with fab := { live.fab with capture := some ⟨3, 0, 7, 0, false, false⟩ } }, ⟨3, 0, 7, 0, false, false⟩, ?_⟩
    decide +kernel
  · refine ⟨{ ((live.put F.FAB_CLK_LOCK 255).put F.FAB_CAP_STATUS_STATE 1) with fab := { live.fab with capture := some ⟨3, 0, 7, 0, false, false⟩ } }, ⟨3, 0, 7, 0, false, false⟩, ?_⟩
    decide +kernel
  · refine ⟨({ ((live.put F.FAB_CLK_LOCK 255).put F.FAB_CAP_STATUS_STATE 1) with fab := { live.fab with capture := some ⟨3, 0, 7, 0, false, false⟩ } }).atClock 328, ⟨3, 0, 7, 0, false, false⟩, ?_⟩
    decide +kernel
  · refine ⟨live, ?_⟩
    decide +kernel

/-- What `Obligations.PolicyImages` assumes, clause by clause. -/
theorem witness_PolicyImages :
    (∃ s : State, ∃ src : Src, ∃ v : Word, s.takesReg src .STEP_POL_CTRL ∧ F.STEP_POL_CTRL_ABORT.of v = 0 ∧
      F.STEP_POL_CTRL_END_OF_SOURCE.of v = 0 ∧ F.STEP_POL_CTRL_START.of v = 1 ∧ s.polState = 0 ∧ F.STEP_POL_CTRL_OP.of v = 0) ∧
    (∃ s : State, ∃ src : Src, ∃ v : Word,
      let slot := F.STEP_POL_CTRL_SLOT.of v
      s.takesReg src .STEP_POL_CTRL ∧ F.STEP_POL_CTRL_ABORT.of v = 0 ∧ F.STEP_POL_CTRL_END_OF_SOURCE.of v = 0 ∧ F.STEP_POL_CTRL_START.of v
        = 1 ∧ s.polState = 0 ∧ F.STEP_POL_CTRL_OP.of v = 1 ∧ s.bit F.STEP_POL_STATUS_VALID slot = true) ∧
    (∃ s : State, ∃ src : Src, ∃ v : Word,
      let slot := F.STEP_POL_CTRL_SLOT.of v
      s.takesReg src .STEP_POL_CTRL ∧ F.STEP_POL_CTRL_ABORT.of v = 0 ∧ F.STEP_POL_CTRL_END_OF_SOURCE.of v = 0 ∧ F.STEP_POL_CTRL_START.of v
        = 1 ∧ s.polState = 0 ∧ F.STEP_POL_CTRL_OP.of v = 1 ∧ s.bit F.STEP_POL_STATUS_VALID slot = false) ∧
    (∃ s : State, ∃ src : Src, ∃ v : Word, s.takesReg src .STEP_POL_CTRL ∧ F.STEP_POL_CTRL_ABORT.of v = 0 ∧
      F.STEP_POL_CTRL_END_OF_SOURCE.of v = 0 ∧ F.STEP_POL_CTRL_START.of v = 1 ∧ s.polState = 0 ∧ 2 ≤ F.STEP_POL_CTRL_OP.of v) ∧
    (∃ s : State, ∃ src : Src, ∃ v : Word, s.takesReg src .STEP_POL_CTRL ∧ F.STEP_POL_CTRL_ABORT.of v = 0 ∧
      F.STEP_POL_CTRL_END_OF_SOURCE.of v = 0 ∧ F.STEP_POL_CTRL_START.of v = 1 ∧ s.polState ≠ 0) ∧
    (∃ s : State, ∃ src : Src, ∃ v : Word, s.takesReg src .STEP_POL_CTRL ∧ F.STEP_POL_CTRL_ABORT.of v = 1 ∧ s.polState ≠ 0) ∧
    (∃ s : State, ∃ src : Src, ∃ v : Word, s.takesReg src .STEP_POL_CTRL ∧ F.STEP_POL_CTRL_ABORT.of v = 1) ∧
    (∃ s : State, ∃ src : Src, ∃ v : Word, s.takesReg src .STEP_POL_CTRL ∧ F.STEP_POL_CTRL_ABORT.of v = 1 ∧ s.polState = 0) ∧
    (∃ s : State, ∃ src : Src, ∃ v : Word, s.takesReg src .STEP_POL_CTRL ∧ F.STEP_POL_CTRL_ABORT.of v = 0 ∧
      F.STEP_POL_CTRL_END_OF_SOURCE.of v = 1 ∧ s.polState = 1 ∧ s.pol.whole = true) ∧
    (∃ s : State, ∃ src : Src, ∃ v : Word, s.takesReg src .STEP_POL_CTRL ∧ F.STEP_POL_CTRL_ABORT.of v = 0 ∧
      F.STEP_POL_CTRL_END_OF_SOURCE.of v = 1 ∧ s.polState = 1 ∧ s.pol.whole = false) ∧
    (∃ s : State, ∃ src : Src, ∃ v : Word, s.takesReg src .STEP_POL_CTRL ∧ F.STEP_POL_CTRL_ABORT.of v = 0 ∧
      F.STEP_POL_CTRL_END_OF_SOURCE.of v = 1 ∧ s.polState = 2) ∧
    (∃ s : State, ∃ src : Src, ∃ v : Word, s.takesReg src .STEP_POL_CTRL ∧ F.STEP_POL_CTRL_ABORT.of v = 0 ∧
      F.STEP_POL_CTRL_END_OF_SOURCE.of v = 1 ∧ s.polState ≠ 1 ∧ s.polState ≠ 2) ∧
    (∃ s : State, ∃ src : Src, ∃ v : Word, s.takesReg src .STEP_POL_CTRL ∧ F.STEP_POL_CTRL_ABORT.of v = 0 ∧
      F.STEP_POL_CTRL_END_OF_SOURCE.of v = 0 ∧ F.STEP_POL_CTRL_START.of v = 0) ∧
    (∃ s : State, ∃ src : Src, s.takesReg src .STEP_POL_DATA ∧ s.polState = 1 ∧ s.pol.buffer.length + 4 ≠ 64) ∧
    (∃ s : State, ∃ src : Src, s.takesReg src .STEP_POL_DATA ∧ s.polState ≠ 1) ∧
    (∃ s : State,
      s.polState = 2 ∧
      let img := s.pol.buffer.take (hdrLength s.pol.buffer)
      s.polCode img = 0) ∧
    (∃ s : State,
      s.polState = 2 ∧
      let img := s.pol.buffer.take (hdrLength s.pol.buffer)
      s.polCode img ≠ 0) ∧
    (∃ s : State, s.polState = 3 ∧ s.polCode s.pol.slots[s.polSlot] ≠ 0) ∧
    (∃ s : State, s.polState = 3 ∧ s.polCode s.pol.slots[s.polSlot] = 0 ∧ (s.released = false ∨ s.f F.SYS_MODE_EFF_FORCE_CAUSE ≠ 3)) := by
  refine ⟨?_, ?_, ?_, ?_, ?_, ?_, ?_, ?_, ?_, ?_, ?_, ?_, ?_, ?_, ?_, ?_, ?_, ?_, ?_⟩
  · refine ⟨live, .host, F.STEP_POL_CTRL_SLOT.put (F.STEP_POL_CTRL_START.put 0 1) 1, ?_⟩
    decide +kernel
  · refine ⟨live.put F.STEP_POL_STATUS_VALID 2, .host, F.STEP_POL_CTRL_SLOT.put (F.STEP_POL_CTRL_OP.put (F.STEP_POL_CTRL_START.put 0 1) 1)
    1, ?_⟩
    decide +kernel
  · refine ⟨live, .host, F.STEP_POL_CTRL_SLOT.put (F.STEP_POL_CTRL_OP.put (F.STEP_POL_CTRL_START.put 0 1) 1) 1, ?_⟩
    decide +kernel
  · refine ⟨live, .host, F.STEP_POL_CTRL_OP.put (F.STEP_POL_CTRL_START.put 0 1) 2, ?_⟩
    decide +kernel
  · refine ⟨live.put F.STEP_POL_STATUS_STATE 3, .host, F.STEP_POL_CTRL_START.put 0 1, ?_⟩
    decide +kernel
  · refine ⟨live.put F.STEP_POL_STATUS_STATE 2, .host, F.STEP_POL_CTRL_ABORT.put 0 1, ?_⟩
    decide +kernel
  · refine ⟨live, .host, F.STEP_POL_CTRL_SLOT.put (F.STEP_POL_CTRL_ABORT.put 0 1) 1, ?_⟩
    decide +kernel
  · refine ⟨live, .host, F.STEP_POL_CTRL_ABORT.put 0 1, ?_⟩
    decide +kernel
  · refine ⟨{ live.put F.STEP_POL_STATUS_STATE 1 with pol := { live.pol with buffer := policyImg } }, .host, F.STEP_POL_CTRL_END_OF_SOURCE.put 0 1, ?_⟩
    decide +kernel
  · refine ⟨{ live.put F.STEP_POL_STATUS_STATE 1 with pol := { live.pol with buffer := policyImg.take 99 } }, .host, F.STEP_POL_CTRL_END_OF_SOURCE.put 0 1, ?_⟩
    decide +kernel
  · refine ⟨live.put F.STEP_POL_STATUS_STATE 2, .host, F.STEP_POL_CTRL_END_OF_SOURCE.put 0 1, ?_⟩
    decide +kernel
  · refine ⟨live.put F.STEP_POL_STATUS_STATE 3, .host, F.STEP_POL_CTRL_END_OF_SOURCE.put 0 1, ?_⟩
    decide +kernel
  · refine ⟨live, .host, F.STEP_POL_CTRL_SLOT.put 0 1, ?_⟩
    decide +kernel
  · refine ⟨live.put F.STEP_POL_STATUS_STATE 1, .host, ?_⟩
    decide +kernel
  · refine ⟨live, .host, ?_⟩
    decide +kernel
  · refine ⟨{ (live.withKey policyKey).put F.STEP_POL_STATUS_STATE 2 with pol := { live.pol with buffer := policyImg } }, ?_⟩
    decide +kernel
  · refine ⟨{ live.put F.STEP_POL_STATUS_STATE 2 with pol := { live.pol with buffer := policyImg } }, ?_⟩
    decide +kernel
  · refine ⟨live.put F.STEP_POL_STATUS_STATE 3, ?_⟩
    decide +kernel
  · refine ⟨{ (live.withKey policyKey).put F.STEP_POL_STATUS_STATE 3 with pol := { live.pol with slots := Vector.replicate 2 policyImg } }, ?_⟩
    decide +kernel

/-- What `Obligations.Relocation` assumes, clause by clause. -/
theorem witness_Relocation :
    (∃ s : State, ∃ src : Src, ∃ v : Word,
      let a := F.RELOC_CTRL_SRC.of v
      let b := F.RELOC_CTRL_DST.of v
      s.takesReg src .RELOC_CTRL ∧ v.getLsbD 13 = false ∧ v.getLsbD 12 = true ∧ s.relocBar a b = 0) ∧
    (∃ s : State, ∃ src : Src, ∃ v : Word,
      let a := F.RELOC_CTRL_SRC.of v
      let b := F.RELOC_CTRL_DST.of v
      s.takesReg src .RELOC_CTRL ∧ v.getLsbD 13 = false ∧ v.getLsbD 12 = true ∧ s.relocBar a b ≠ 0) ∧
    (∃ s : State, ∃ src : Src, ∃ v : Word, s.takesReg src .RELOC_CTRL ∧ v.getLsbD 13 = true ∧ s.relocating = true ∧ s.relState ≠
      relLoading) ∧
    (∃ s : State, ∃ src : Src, ∃ v : Word, s.takesReg src .RELOC_CTRL ∧ v.getLsbD 13 = true ∧ s.relocating = false ∧ s.relState ≠
      relLoading) ∧
    (∃ s : State, s.relState = relCopying) ∧
    (∃ s : State, s.relocating = true ∧ s.relocLate = true) ∧
    (∃ s : State, (s.relocating = false ∨ s.relocLate = false)) ∧
    (∃ s : State, s.relState = relWaiting ∧ s.rel.over_ = false ∧ s.fclkLocked (s.f F.RELOC_STATUS_HCLK) = true ∧ s.rel.copied + 4 ≤
      s.clk) ∧
    (∃ s : State, s.relState = relWaiting ∧ s.rel.over_ = true ∧ s.rel.edgeAt + 12 ≤ s.clk ∧ s.relSrc ≠ s.relDst) ∧
    (∃ s : State, ∃ r : Reg, s.b F.FAULT_CFG_AUTO_RELOC = true ∧ s.mode repair = true ∧ s.flagged r = true ∧ s.b F.RELOC_LIB_VALID r =
      true ∧ s.relState = relIdle ∧ s.b F.SYS_MODE_EFF_REDUCED_FORCED = false ∧ s.mode parked = true) ∧
    (∃ s : State, ∃ r : Reg, s.b F.FAULT_CFG_AUTO_RELOC = true ∧ s.mode repair = true ∧ s.flagged r = true ∧ s.b F.RELOC_LIB_VALID r =
      true ∧ s.relState = relIdle ∧ s.b F.SYS_MODE_EFF_REDUCED_FORCED = false ∧ s.mode parked = false ∧ s.reservesOf r = []) ∧
    (∃ s : State, ∃ r : Reg, ∃ n : Reg, s.b F.FAULT_CFG_AUTO_RELOC = true ∧ s.mode repair = true ∧ s.flagged r = true ∧ s.b
      F.RELOC_LIB_VALID r = true ∧ s.relState = relIdle ∧ s.b F.SYS_MODE_EFF_REDUCED_FORCED = false ∧ s.mode parked = false ∧ s.reservesOf
      r = [n.val] ∧ s.bit F.CFG_RESERVE_LOADED_LOADED n = false ∧ s.load.op ≠ .none) ∧
    (∃ s : State, ∃ r : Reg, (s.b F.FAULT_CFG_AUTO_RELOC = false ∨ s.flagged r = false ∨ s.relState ≠ relIdle)) ∧
    (∃ s : State, ∃ src : Src, ∃ v : Word,
      s.takesReg src .REGION_RESET ∧
      let n := F.REGION_RESET_REGION.of v
      F.REGION_RESET_KEY.of v = 0xC3 ∧ F.REGION_RESET_RESET.of v = 1 ∧ F.REGION_RESET_UNRETIRE.of v = 0 ∧ s.loadingRegion n = false ∧
        s.relocating = false ∧ s.regionHeld n = false ∧ s.retired n = false) ∧
    (∃ s : State, ∃ src : Src, ∃ v : Word,
      s.takesReg src .REGION_RESET ∧
      let n := F.REGION_RESET_REGION.of v
      F.REGION_RESET_KEY.of v = 0xC3 ∧ F.REGION_RESET_RESET.of v = 1 ∧ F.REGION_RESET_UNRETIRE.of v = 0 ∧ s.loadingRegion n = false ∧
        s.relocating = false ∧ (s.regionHeld n = true ∨ s.retired n = true)) ∧
    (∃ s : State, ∃ src : Src, ∃ v : Word,
      s.takesReg src .REGION_RESET ∧
      let n := F.REGION_RESET_REGION.of v
      F.REGION_RESET_KEY.of v = 0xC3 ∧ F.REGION_RESET_RESET.of v = 0 ∧ F.REGION_RESET_UNRETIRE.of v = 1 ∧ s.retired n = true) ∧
    (∃ s : State, ∃ src : Src, ∃ v : Word, s.takesReg src .REGION_RESET ∧ F.REGION_RESET_KEY.of v ≠ 0xC3) := by
  refine ⟨?_, ?_, ?_, ?_, ?_, ?_, ?_, ?_, ?_, ?_, ?_, ?_, ?_, ?_, ?_, ?_, ?_⟩
  · refine ⟨{ ((((live.modesOn 32).put F.CFG_RESERVE_RESERVE 2).put F.CFG_RESERVE_LOADED_LOADED 2).put F.FAB_CLK_LOCK 1) with fab := { live.fab with cfg := [(regionKey 0 1, 0x10008), (regionKey 1 1, 0x10008)] } }, .host, F.RELOC_CTRL_DST.put 0x1000 1, ?_⟩
    decide +kernel
  · refine ⟨live, .host, F.RELOC_CTRL_DST.put 0x1000 1, ?_⟩
    decide +kernel
  · refine ⟨(live.put F.RELOC_STATUS_STATE 2), .host, 0x2000, ?_⟩
    decide +kernel
  · refine ⟨(live.put F.RELOC_STATUS_STATE 0), .host, 0x2000, ?_⟩
    decide +kernel
  · refine ⟨(live.put F.RELOC_STATUS_STATE 2), ?_⟩
    decide +kernel
  · refine ⟨((live.put F.RELOC_STATUS_STATE 3)).atClock 16384000, ?_⟩
    decide +kernel
  · refine ⟨live, ?_⟩
    decide +kernel
  · refine ⟨((live.put F.RELOC_STATUS_STATE 3).put F.FAB_CLK_LOCK 255).atClock 4, ?_⟩
    decide +kernel
  · refine ⟨({ ((live.put F.RELOC_STATUS_STATE 3).put F.RELOC_STATUS_DST 1) with rel := { live.rel with over_ := true } }).atClock 12, ?_⟩
    decide +kernel
  · refine ⟨((((live.modesOn 160).put F.FAULT_CFG_AUTO_RELOC 1).put F.CFG_SCRUB_FLAG_FLAG 0x80000000).put F.RELOC_LIB_VALID 1 31), 31, ?_⟩
    decide +kernel
  · refine ⟨((((live.modesOn 32).put F.FAULT_CFG_AUTO_RELOC 1).put F.CFG_SCRUB_FLAG_FLAG 0x80000000).put F.RELOC_LIB_VALID 1 31).put
    F.CFG_RESERVE_RESERVE 0, 31, ?_⟩
    decide +kernel
  · refine ⟨{ (((((live.modesOn 32).put F.FAULT_CFG_AUTO_RELOC 1).put F.CFG_SCRUB_FLAG_FLAG 0x80000000).put F.RELOC_LIB_VALID 1 31).put F.CFG_RESERVE_RESERVE 0x10000) with load := { live.load with op := .program 1 } }, 31, 16, ?_⟩
    decide +kernel
  · refine ⟨live, 31, ?_⟩
    decide +kernel
  · refine ⟨live, .host, F.REGION_RESET_REGION.put (F.REGION_RESET_KEY.put (F.REGION_RESET_RESET.put 0 1) 0xC3) 31, ?_⟩
    decide +kernel
  · refine ⟨live.put F.CFG_HOLD_HOLD 0x80000000, .host, F.REGION_RESET_REGION.put (F.REGION_RESET_KEY.put (F.REGION_RESET_RESET.put 0 1)
    0xC3) 31, ?_⟩
    decide +kernel
  · refine ⟨live.put F.FAULT_RETIRED_RETIRED 0x80000000, .host, F.REGION_RESET_REGION.put (F.REGION_RESET_KEY.put
    (F.REGION_RESET_UNRETIRE.put 0 1) 0xC3) 31, ?_⟩
    decide +kernel
  · refine ⟨live, .host, F.REGION_RESET_RESET.put 0 1, ?_⟩
    decide +kernel

/-- What `Obligations.RingLinks` assumes, clause by clause. -/
theorem witness_RingLinks :
    (∃ s : State, ∃ p : Port, ∃ words : List DWord,
      let body := words.dropLast
      let n := (words.getLastD 0).toNat
      let got := bitsOf n 32 10
      let c := laneOf body
      let x := s.lane p c
      let good := packetOk body = true ∧ n / 2 ^ 42 = 0 ∧ (packetCrc body got).toNat = n % 2 ^ 32
      s.present = true ∧ s.ring.bypass = false ∧ s.portUp p = true ∧ (¬good) ∧ x.refusing = false) ∧
    (∃ s : State, ∃ p : Port, ∃ words : List DWord,
      let body := words.dropLast
      let n := (words.getLastD 0).toNat
      let got := bitsOf n 32 10
      let c := laneOf body
      let x := s.lane p c
      let good := packetOk body = true ∧ n / 2 ^ 42 = 0 ∧ (packetCrc body got).toNat = n % 2 ^ 32
      s.present = true ∧ s.ring.bypass = false ∧ s.portUp p = true ∧ good ∧ got ≠ x.expect ∧ (x.expect + 1024 - got) % 1024 ≤ 512 ∧
        x.refusing = false) ∧
    (∃ s : State, ∃ p : Port, ∃ words : List DWord,
      let body := words.dropLast
      let n := (words.getLastD 0).toNat
      let got := bitsOf n 32 10
      let c := laneOf body
      let x := s.lane p c
      let good := packetOk body = true ∧ n / 2 ^ 42 = 0 ∧ (packetCrc body got).toNat = n % 2 ^ 32
      s.present = true ∧ s.ring.bypass = false ∧ s.portUp p = true ∧ good ∧ got = x.expect ∧ (headOf body).kind ≠ pkTime ∧ (headOf
        body).bcast = true) ∧
    (∃ s : State, ∃ p : Port, ∃ words : List DWord,
      let body := words.dropLast
      let n := (words.getLastD 0).toNat
      let got := bitsOf n 32 10
      let c := laneOf body
      let x := s.lane p c
      let good := packetOk body = true ∧ n / 2 ^ 42 = 0 ∧ (packetCrc body got).toNat = n % 2 ^ 32
      s.present = true ∧ s.ring.bypass = false ∧ s.portUp p = true ∧ good ∧ got = x.expect ∧ (headOf body).kind ≠ pkTime ∧ (headOf
        body).bcast = false ∧ (headOf body).dst ≠ s.ownNumber ∧ (headOf body).src ≠ s.ownNumber ∧ s.portUp (otherPort p) = true ∧ (s.lane
        (otherPort p) c).queue = [] ∧ (s.lane (otherPort p) c).retry.length < 512) ∧
    (∃ s : State, ∃ p : Port, (s.present = false ∨ s.ring.bypass = true ∨ s.portUp p = false)) ∧
    (∃ s : State, ∃ p : Port, ∃ cls : RingCls,
      let y := s.lane p (laneClass cls)
      y.queue = []) ∧
    (∃ s : State, ∃ p : Port, ∃ cls : RingCls, ∃ lseq : BitVec 10,
      let y := s.lane p (laneClass cls)
      let dropped := ackDrop y.retry lseq.toNat
      let calm := fun (l : List RingSent) => l ≠ [] ∧ l.any (fun e => decide (7 ≤ e.times)) = false
      y.queue = [] ∧ s.portUp p = true ∧ calm dropped) ∧
    (∃ s : State, ∃ p : Port, ∃ cls : RingCls, s.ackLate p (laneClass cls) = false) ∧
    (∃ s : State, ∃ p : Port, ∃ cls : RingCls,
      let y := s.lane p (laneClass cls)
      let calm := fun (l : List RingSent) => l ≠ [] ∧ l.any (fun e => decide (7 ≤ e.times)) = false
      s.portUp p = true ∧ calm y.retry ∧ s.ackLate p (laneClass cls) = true) ∧
    (∃ s : State, ∃ p : Port, ∃ cls : RingCls,
      let y := s.lane p (laneClass cls)
      s.portUp p = true ∧ y.retry.any (fun e => decide (7 ≤ e.times)) = true ∧ s.ackLate p (laneClass cls) = true) ∧
    (∃ s : State, ∃ p : Port, s.portUp p = true) ∧
    (∃ s : State, ∃ p : Port, s.pauseOver p = true) ∧
    (∃ s : State, ∃ p : Port, s.pauseOver p = false) ∧
    (∃ s : State, ∃ p : Port, ∃ width : Fin 8, s.present = true ∧ s.ring.bypass = false ∧ laneWidth width = true ∧ s.portUp p = false ∧
      s.portState p ≠ portPaused) ∧
    (∃ s : State, ∃ p : Port, ∃ width : Fin 8, s.present = true ∧ s.ring.bypass = false ∧ laneWidth width = true ∧ s.portUp p = false ∧
      s.portState p = portPaused ∧ s.pauseOver p = false ∧ (s.lane p 0).retry = [] ∧ (s.lane p 1).retry = []) ∧
    (∃ s : State, ∃ p : Port, ∃ width : Fin 8, s.present = true ∧ s.ring.bypass = false ∧ laneWidth width = true ∧ s.portUp p = false ∧
      s.pauseOver p = true) ∧
    (∃ s : State, ∃ p : Port, ∃ width : Fin 8,
      let i := portIndex p
      s.linkAlive p = true ∧ laneWidth width = true ∧ width.val < s.f F.PORT_STATUS_WIDTH i ∧ (s.lane p 0).retry = [] ∧ (s.lane p 1).retry
        = []) ∧
    (∃ s : State, (s.pwr.life = .collapsed ∨ s.pwr.life = .off)) := by
  refine ⟨?_, ?_, ?_, ?_, ?_, ?_, ?_, ?_, ?_, ?_, ?_, ?_, ?_, ?_, ?_, ?_, ?_, ?_⟩
  · refine ⟨{ ((live.put F.PORT_STATUS_STATE 2 0).put F.PORT_STATUS_STATE 2 1) with ring := { live.ring with bypass := false } }, .west, [0, 1, 2], ?_⟩
    decide +kernel
  · refine ⟨{ ((live.put F.PORT_STATUS_STATE 2 0).put F.PORT_STATUS_STATE 2 1) with ring := { live.ring with bypass := false, lanes := Vector.replicate 2 (Vector.replicate 2 ⟨5, 0, [], [], false⟩) } }, .west, (let b : List DWord := [(({ kind := pkWrite, dst := 5, src := 7, beats := 1, firstBe := 255, lastBe := 255 }) : PkHead).word, 0x40, 7]; b ++ [trailer b 1023]), ?_⟩
    decide +kernel
  · refine ⟨{ ((live.put F.PORT_STATUS_STATE 2 0).put F.PORT_STATUS_STATE 2 1) with ring := { live.ring with bypass := false, lanes := Vector.replicate 2 (Vector.replicate 2 ⟨1023, 0, [], [], false⟩) } }, .west, (let b : List DWord := [(({ kind := pkWrite, dst := 0, src := 7, beats := 1, firstBe := 255, lastBe := 255 , bcast := true}) : PkHead).word, 0x40, 7]; b ++ [trailer b 1023]), ?_⟩
    decide +kernel
  · refine ⟨{ ((live.put F.PORT_STATUS_STATE 2 0).put F.PORT_STATUS_STATE 2 1) with ring := { live.ring with bypass := false, lanes := Vector.replicate 2 (Vector.replicate 2 ⟨0, 0, [], [], false⟩) } }, .west, (let b : List DWord := [(({ kind := pkWrite, dst := 5, src := 7, beats := 1, firstBe := 255, lastBe := 255 }) : PkHead).word, 0x40, 7]; b ++ [trailer b 0]), ?_⟩
    decide +kernel
  · refine ⟨live, .west, ?_⟩
    decide +kernel
  · refine ⟨{ ((live.put F.PORT_STATUS_STATE 2 0).put F.PORT_STATUS_STATE 2 1) with ring := { live.ring with bypass := false, lanes := Vector.replicate 2 (Vector.replicate 2 ⟨0, 0, [⟨1022, 1, [5], 0⟩, ⟨1023, 1, [6], 0⟩], [], false⟩) } }, .west, .maint, ?_⟩
    decide +kernel
  · refine ⟨{ ((live.put F.PORT_STATUS_STATE 2 0).put F.PORT_STATUS_STATE 2 1) with ring := { live.ring with bypass := false, lanes := Vector.replicate 2 (Vector.replicate 2 ⟨0, 0, [⟨1022, 6, [5], 0⟩, ⟨1023, 6, [6], 0⟩], [], false⟩) } }, .west, .maint, 1022, ?_⟩
    decide +kernel
  · refine ⟨live, .west, .maint, ?_⟩
    decide +kernel
  · refine ⟨({ ((live.put F.PORT_STATUS_STATE 2 0).put F.PORT_STATUS_STATE 2 1) with ring := { live.ring with bypass := false, lanes := Vector.replicate 2 (Vector.replicate 2 ⟨0, 0, [⟨1022, 6, [5], 0⟩, ⟨1023, 6, [6], 0⟩], [], false⟩) } }).atClock 328, .west, .maint, ?_⟩
    decide +kernel
  · refine ⟨({ ((live.put F.PORT_STATUS_STATE 2 0).put F.PORT_STATUS_STATE 2 1) with ring := { live.ring with bypass := false, lanes := Vector.replicate 2 (Vector.replicate 2 ⟨0, 0, [⟨1022, 7, [5], 0⟩, ⟨1023, 7, [6], 0⟩], [], false⟩) } }).atClock 328, .west, .maint, ?_⟩
    decide +kernel
  · refine ⟨((live.put F.PORT_STATUS_STATE 2 0).put F.PORT_STATUS_STATE 2 1), .west, ?_⟩
    decide +kernel
  · refine ⟨{ (live.put F.PORT_STATUS_STATE 3 0) with clk := 8192, ring := { live.ring with bypass := false, lost := live.ring.lost.set 0 (some 0) } }, .west, ?_⟩
    decide +kernel
  · refine ⟨live, .west, ?_⟩
    decide +kernel
  · refine ⟨{ live with ring := { live.ring with bypass := false } }, .west, 4, ?_⟩
    decide +kernel
  · refine ⟨{ (live.put F.PORT_STATUS_STATE 3 0) with ring := { live.ring with bypass := false } }, .west, 4, ?_⟩
    decide +kernel
  · refine ⟨{ (live.put F.PORT_STATUS_STATE 3 0) with clk := 8192, ring := { live.ring with bypass := false, lost := live.ring.lost.set 0 (some 0) } }, .west, 4, ?_⟩
    decide +kernel
  · refine ⟨(live.put F.PORT_STATUS_STATE 3 0).put F.PORT_STATUS_WIDTH 4 0, .west, 2, ?_⟩
    decide +kernel
  · refine ⟨State.reset, ?_⟩
    decide +kernel

/-- What `Obligations.RingMaps` assumes, clause by clause. -/
theorem witness_RingMaps :
    (∃ s : State, ∃ tag : BitVec 16, s.requestLate tag.toNat = false) ∧
    (∃ s : State, ∃ tag : BitVec 16, ∃ q : RingReq, s.ring.reqs.find? (fun q => q.tag == tag.toNat) = some q ∧ q.at_ + 163840 ≤ s.clk ∧
      q.use = .other) ∧
    (∃ s : State, ∃ tag : BitVec 16, ∃ q : RingReq, s.ring.reqs.find? (fun q => q.tag == tag.toNat) = some q ∧ q.at_ + 163840 ≤ s.clk ∧
      q.use = .mnt) ∧
    (∃ s : State, ∃ tag : BitVec 16, ∃ q : RingReq, ∃ bytes : Nat, ∃ off : Nat, s.ring.reqs.find? (fun q => q.tag == tag.toNat) = some q ∧
      q.at_ + 163840 ≤ s.clk ∧ q.use = .host bytes false off ∧ s.acting = true ∧ s.b F.HOST_CTRL_ERR_MODE = true) ∧
    (∃ s : State, ∃ tag : BitVec 16, s.ring.reqs.find? (fun q => q.tag == tag.toNat) = none) ∧
    (∃ s : State, s.up = true ∧ s.acting = true ∧ s.portUp .east = true) ∧
    (∃ s : State, s.acting = false) ∧
    (∃ s : State, ∃ p : Port, s.up = true ∧ s.portUp p = true ∧ s.acting = false ∧ s.portUp (otherPort p) = true) ∧
    (∃ s : State, ∃ p : Port, ∃ order : List (BitVec 6), ∃ m : BitVec 6,
      let own := s.ownNumber
      s.up = true ∧ s.portUp p = true ∧ s.acting = true ∧ order.head? = some m ∧ m.toNat < own.toNat) ∧
    (∃ s : State, ∃ p : Port, ∃ order : List (BitVec 6), ∃ m : BitVec 6,
      let own := s.ownNumber
      s.up = true ∧ s.portUp p = true ∧ s.acting = true ∧ order.head? = some m ∧ own.toNat ≤ m.toNat) ∧
    (∃ s : State, ∃ order : List (BitVec 6), ∃ closed : Bool,
      let own := s.ownNumber
      s.up = true ∧ s.acting = true ∧ order.contains own = true ∧ (s.b F.COLYS_RING_HEAD_KNOWN && s.sameMap own order closed) = false) ∧
    (∃ s : State, ∃ p : Port, ∃ seq : BitVec 8, s.up = true ∧ s.portUp p = true ∧ s.acting = false ∧ (s.b F.COLYS_RING_HEAD_KNOWN && s.f
      F.COLYS_RING_MAP_SEQ == seq.toNat) = false) ∧
    (∃ s : State, ∃ p : Port, ∃ seq : BitVec 8, s.up = true ∧ s.portUp p = true ∧ s.acting = false ∧ (s.b F.COLYS_RING_HEAD_KNOWN && s.f
      F.COLYS_RING_MAP_SEQ == seq.toNat) = true) ∧
    (∃ s : State, (s.pendingMask ≠ s.ring.evMask ∨ s.ring.evDue = true ∨ s.ring.once ≠ 0) ∧ s.up = true ∧ (s.acting = true ∨ s.b
      F.COLYS_RING_HEAD_KNOWN = true)) ∧
    (∃ s : State, s.pendingMask = s.ring.evMask ∧ s.ring.evDue = false ∧ s.ring.once = 0) ∧
    (∃ s : State, ∃ m : BitVec 6, ∃ ev : BitVec 16, s.up = true ∧ s.acting = true ∧ (∀ n, assoc s.ring.applied m = some n → newerSeq
      ev.toNat n = true)) ∧
    (∃ s : State, ∃ m : BitVec 6, ∃ ev : BitVec 16, (s.acting = false ∨ ∃ n, assoc s.ring.applied m = some n ∧ newerSeq ev.toNat n =
      false)) ∧
    (∃ s : State, ∃ src : Src, ∃ v : Word,
      s.takesReg src .EVT_ACK ∧
      let k := F.EVT_ACK_MODULE.of v
      let l := F.EVT_ACK_LINE.of v
      s.acting = true ∧ l < 48 ∧ s.eventState k l = false) ∧
    (∃ s : State, ∃ src : Src, ∃ v : Word,
      s.takesReg src .EVT_ACK ∧
      let k := F.EVT_ACK_MODULE.of v
      let l := F.EVT_ACK_LINE.of v
      s.acting = true ∧ l < 48 ∧ s.eventState k l = true ∧ s.b F.COLYS_MAP_EN k l = true ∧ s.msixOpen = true ∧ s.vectorMasked (s.f
        F.COLYS_MAP_VECTOR k l) = false) ∧
    (∃ s : State, ∃ src : Src, ∃ v : Word,
      s.takesReg src .EVT_ACK ∧
      let l := F.EVT_ACK_LINE.of v
      (s.acting = false ∨ 48 ≤ l)) := by
  refine ⟨?_, ?_, ?_, ?_, ?_, ?_, ?_, ?_, ?_, ?_, ?_, ?_, ?_, ?_, ?_, ?_, ?_, ?_, ?_, ?_⟩
  · refine ⟨live, 0, ?_⟩
    decide +kernel
  · refine ⟨({ live with ring := { live.ring with reqs := [⟨65535, 5, .other, 0⟩] } }).atClock 163840, 65535, ⟨65535, 5, .other, 0⟩, ?_⟩
    decide +kernel
  · refine ⟨({ live with ring := { live.ring with reqs := [⟨65535, 5, .mnt, 0⟩] } }).atClock 163840, 65535, ⟨65535, 5, .mnt, 0⟩, ?_⟩
    decide +kernel
  · refine ⟨({ ((live.put F.COLYS_ID_HEAD 1).put F.HOST_CTRL_ERR_MODE 1) with ring := { live.ring with reqs := [⟨65535, 5, .host 8 false 64, 0⟩] } }).atClock 163840, 65535, ⟨65535, 5, .host 8 false 64, 0⟩, 8, 64, ?_⟩
    decide +kernel
  · refine ⟨live, 65535, ?_⟩
    decide +kernel
  · refine ⟨(((live.put F.PORT_STATUS_STATE 2 0).put F.PORT_STATUS_STATE 2 1).put F.COLYS_ID_HEAD 1), ?_⟩
    decide +kernel
  · refine ⟨live, ?_⟩
    decide +kernel
  · refine ⟨((live.put F.PORT_STATUS_STATE 2 0).put F.PORT_STATUS_STATE 2 1), .west, ?_⟩
    decide +kernel
  · refine ⟨{ (((live.put F.PORT_STATUS_STATE 2 0).put F.PORT_STATUS_STATE 2 1).put F.COLYS_ID_HEAD 1) with pwr := { live.pwr with module := 63 } }, .west, [5, 63], 5, ?_⟩
    decide +kernel
  · refine ⟨(((live.put F.PORT_STATUS_STATE 2 0).put F.PORT_STATUS_STATE 2 1).put F.COLYS_ID_HEAD 1), .west, [5, 63], 5, ?_⟩
    decide +kernel
  · refine ⟨(live.put F.COLYS_ID_HEAD 1), [0, 5], true, ?_⟩
    decide +kernel
  · refine ⟨((live.put F.PORT_STATUS_STATE 2 0).put F.PORT_STATUS_STATE 2 1), .west, 255, ?_⟩
    decide +kernel
  · refine ⟨(((live.put F.PORT_STATUS_STATE 2 0).put F.PORT_STATUS_STATE 2 1).put F.COLYS_RING_HEAD_KNOWN 1).put F.COLYS_RING_MAP_SEQ 255,
    .west, 255, ?_⟩
    decide +kernel
  · refine ⟨{ (live.put F.COLYS_ID_HEAD 1) with ring := { live.ring with evDue := true } }, ?_⟩
    decide +kernel
  · refine ⟨live, ?_⟩
    decide +kernel
  · refine ⟨{ (live.put F.COLYS_ID_HEAD 1) with ring := { live.ring with applied := [(63, 65535)] } }, 63, 0, ?_⟩
    decide +kernel
  · refine ⟨live, 0, 0, ?_⟩
    decide +kernel
  · refine ⟨(live.put F.COLYS_ID_HEAD 1), .host, F.EVT_ACK_LINE.put (F.EVT_ACK_MODULE.put 0 63) 47, ?_⟩
    decide +kernel
  · refine ⟨{ (((live.put F.COLYS_ID_HEAD 1).put F.EVT_STATE_HI_MASK 0xFFFF 63).put F.COLYS_MAP_EN 1 63 47).put F.HOST_STATUS_BME 1 with pcie := { live.pcie with msix := true, fmask := false } }, .host, F.EVT_ACK_LINE.put (F.EVT_ACK_MODULE.put 0 63) 47, ?_⟩
    decide +kernel
  · refine ⟨live, .host, F.EVT_ACK_LINE.put (F.EVT_ACK_MODULE.put 0 63) 47, ?_⟩
    decide +kernel

/-- What `Obligations.Maintenance` assumes, clause by clause. -/
theorem witness_Maintenance :
    (∃ s : State, ∃ off : BitVec 24, ∃ d : DWord, s.up = true ∧ s.b F.COLYS_ID_ISOLATED = false ∧ regReadable off.toNat = true ∧
      ((Act.read32 .ring off.toNat none).run s).resp = .ok d) ∧
    (∃ s : State, ∃ off : BitVec 24, s.up = true ∧ s.b F.COLYS_ID_ISOLATED = false ∧ regReadable off.toNat = false) ∧
    (∃ s : State, ∃ arg : Word, ∃ e : LogEntry, s.up = true ∧ s.b F.COLYS_ID_ISOLATED = false ∧ s.logEntry arg.toNat = some e) ∧
    (∃ s : State, ∃ arg : Word, s.up = true ∧ s.b F.COLYS_ID_ISOLATED = false ∧ s.logEntry arg.toNat = none) ∧
    (∃ s : State, ∃ m : BitVec 6, ∃ arg : Word,
      let own := s.ownNumber
      s.up = true ∧ s.b F.COLYS_ID_ISOLATED = false ∧ s.logEntry arg.toNat = none ∧ m ≠ own) ∧
    (∃ s : State, s.up = true ∧ s.b F.COLYS_ID_ISOLATED = false) ∧
    (∃ s : State, ∃ arg : Word, s.up = true ∧ s.b F.COLYS_ID_ISOLATED = false ∧ 32 ≤ arg.toNat) ∧
    (∃ s : State, ∃ arg : Word, s.up = true ∧ s.b F.COLYS_ID_ISOLATED = false ∧ arg.toNat < 32) ∧
    (∃ s : State, ∃ arg : Word, s.up = true ∧ s.b F.COLYS_ID_ISOLATED = false ∧ (arg.toNat % 4 ≠ 0 ∨ 0x1000 ≤ arg.toNat)) ∧
    (∃ s : State, ∃ arg : Word, s.up = true ∧ s.b F.COLYS_ID_ISOLATED = false ∧ arg.toNat % 4 = 0 ∧ arg.toNat < 0x1000 ∧
      F.FAB_CAP_CTRL_SCOPE.of arg ≠ 3 ∧ s.f F.FAB_CAP_STATUS_STATE = 0 ∧ s.mode parked = false) ∧
    (∃ s : State, ∃ arg : Word, s.up = true ∧ s.b F.COLYS_ID_ISOLATED = false ∧ arg.toNat ≠ 0xC3) ∧
    (∃ s : State, ∃ arg : Word, s.up = true ∧ s.b F.COLYS_ID_ISOLATED = false ∧ arg.toNat = 0xC3) ∧
    (∃ s : State, ∃ arg : Word, s.up = true ∧ s.b F.COLYS_ID_ISOLATED = false ∧ 64 ≤ arg.toNat) ∧
    (∃ s : State, ∃ arg : Word, ∃ c : Chan, s.up = true ∧ s.b F.COLYS_ID_ISOLATED = false ∧ arg.toNat = c.val ∧ s.dmaState c = dmaRun ∧
      (s.ch c).abort = none) ∧
    (∃ s : State, ∃ arg : Word, ∃ c : Chan, s.up = true ∧ s.b F.COLYS_ID_ISOLATED = false ∧ arg.toNat = c.val ∧ s.dmaState c = dmaIdle ∧
      (s.ch c).waiters = []) ∧
    (∃ s : State, (s.pwr.life = .off ∨ s.pwr.life = .collapsed)) ∧
    (∃ s : State, ∃ src : Src, s.takesReg src .MNT_CMD ∧ s.acting = false) ∧
    (∃ s : State, ∃ src : Src, s.takesReg src .MNT_CMD ∧ s.acting = true ∧ s.b F.MNT_STATUS_BUSY = true) ∧
    (∃ s : State, ∃ src : Src, ∃ v : Word,
      let own := s.ownNumber
      s.takesReg src .MNT_CMD ∧
      let dst := BitVec.ofNat 6 (F.MNT_CMD_DST.of v)
      s.acting = true ∧ s.b F.MNT_STATUS_BUSY = false ∧ dst ≠ own) ∧
    (∃ s : State, ∃ src : Src, ∃ v : Word,
      let own := s.ownNumber
      s.takesReg src .MNT_CMD ∧
      let dst := BitVec.ofNat 6 (F.MNT_CMD_DST.of v)
      s.acting = true ∧ s.b F.MNT_STATUS_BUSY = false ∧ s.b F.COLYS_ID_ISOLATED = false ∧ dst = own ∧ 11 ≤ F.MNT_CMD_OP.of v) := by
  refine ⟨?_, ?_, ?_, ?_, ?_, ?_, ?_, ?_, ?_, ?_, ?_, ?_, ?_, ?_, ?_, ?_, ?_, ?_, ?_, ?_⟩
  · refine ⟨live, 0x40000, 0, ?_⟩
    decide +kernel
  · refine ⟨live, 0xC0000, ?_⟩
    decide +kernel
  · refine ⟨{ live with log := { live.log with flash := [⟨7, 1, 0, 1, 0, 0, 0, 0, []⟩] } }, 7, ⟨7, 1, 0, 1, 0, 0, 0, 0, []⟩, ?_⟩
    decide +kernel
  · refine ⟨live, 7, ?_⟩
    decide +kernel
  · refine ⟨live, 63, 7, ?_⟩
    decide +kernel
  · refine ⟨live, ?_⟩
    decide +kernel
  · refine ⟨live, 32, ?_⟩
    decide +kernel
  · refine ⟨live, 31, ?_⟩
    decide +kernel
  · refine ⟨live, 0x1000, ?_⟩
    decide +kernel
  · refine ⟨live, 0x0, ?_⟩
    decide +kernel
  · refine ⟨live, 0xC2, ?_⟩
    decide +kernel
  · refine ⟨live, 0xC3, ?_⟩
    decide +kernel
  · refine ⟨live, 64, ?_⟩
    decide +kernel
  · refine ⟨live.put F.DMA_STATUS_STATE 3 63, 63, 63, ?_⟩
    decide +kernel
  · refine ⟨live, 63, 63, ?_⟩
    decide +kernel
  · refine ⟨State.reset, ?_⟩
    decide +kernel
  · refine ⟨live, .host, ?_⟩
    decide +kernel
  · refine ⟨(live.put F.COLYS_ID_HEAD 1).put F.MNT_STATUS_BUSY 1, .host, ?_⟩
    decide +kernel
  · refine ⟨(live.put F.COLYS_ID_HEAD 1), .host, F.MNT_CMD_DST.put 0 63, ?_⟩
    decide +kernel
  · refine ⟨(live.put F.COLYS_ID_HEAD 1), .host, F.MNT_CMD_OP.put 0 11, ?_⟩
    decide +kernel

/-- What `Obligations.HostAndEthernet` assumes, clause by clause. -/
theorem witness_HostAndEthernet :
    (∃ s : State, s.acting = false) ∧
    (∃ s : State, ∃ off : BitVec 24, ∃ bytes : Nat, s.acting = true ∧ (bytes ≠ 4 ∧ bytes ≠ 8 ∨ off.toNat % bytes ≠ 0)) ∧
    (∃ s : State, ∃ m : BitVec 6, ∃ off : BitVec 24, ∃ bytes : Nat, ∃ write : Bool,
      let own := s.ownNumber
      let bar := m.toNat * 2 ^ 24 + off.toNat
      s.acting = true ∧ (bytes = 4 ∨ bytes = 8) ∧ off.toNat % bytes = 0 ∧ m ≠ own ∧ s.ring.held = [] ∧ s.tagFree s.ring.tag = true ∧
        s.requestHeld m (.host bytes write bar) = false) ∧
    (∃ s : State, ∃ off : BitVec 24, s.acting = true ∧ s.up = true ∧ s.fab.jobs = [] ∧ off.toNat = RegRef.offset ⟨.MNT_ARG, 0, 0, 0⟩) ∧
    (∃ s : State, ∃ off : BitVec 24, s.acting = true ∧ s.up = true ∧ s.fab.jobs = [] ∧ off.toNat = RegRef.offset ⟨.MNT_ARG, 0, 0, 0⟩ ∧
      assoc s.latch ⟨.MNT_ARG, 0, 0, 0⟩ = none) ∧
    (∃ s : State, s.ring.hostQ = []) ∧
    (∃ s : State, ∃ words : List DWord, ∃ rest : List (List DWord),
      let own := s.ownNumber
      s.ring.hostQ = words :: rest ∧ (headOf words).src ≠ own) ∧
    (∃ s : State, ∃ words : List DWord, ∃ rest : List (List DWord),
      let own := s.ownNumber
      s.ring.hostQ = words :: rest ∧ (headOf words).src ≠ own ∧ s.acting = true ∧ s.b F.HOST_STATUS_BME = true ∧ s.b F.HOST_STATUS_D3HOT =
        false ∧ (headOf words).kind = pkWrite) ∧
    (∃ s : State, ∃ c : Instr, s.acting = true ∧ s.ring.hostQ = [] ∧ (c = Instr.pcieFlr ∨ c = Instr.pcieReset)) ∧
    (∃ s : State, ∃ c : Instr, s.acting = false ∧ (c = Instr.pcieFlr ∨ c = Instr.pcieReset)) ∧
    (∃ s : State, s.endpointUp = true) ∧
    (∃ s : State, s.endpointUp = false) ∧
    (∃ s : State, s.acting = true) ∧
    (∃ s : State, s.up = true ∧ s.acting = true ∧ s.b F.ETH_STATUS_LINK_UP = true ∧ s.r .ETH_IP_ADDR ≠ 0) ∧
    (∃ s : State, s.up = true ∧ s.acting = true ∧ s.b F.ETH_STATUS_LINK_UP = true) ∧
    (∃ s : State, (s.up = false ∨ s.acting = false ∨ s.b F.ETH_STATUS_LINK_UP = false)) := by
  refine ⟨?_, ?_, ?_, ?_, ?_, ?_, ?_, ?_, ?_, ?_, ?_, ?_, ?_, ?_, ?_, ?_⟩
  · refine ⟨live, ?_⟩
    decide +kernel
  · refine ⟨(live.put F.COLYS_ID_HEAD 1), 4, 8, ?_⟩
    decide +kernel
  · refine ⟨(live.put F.COLYS_ID_HEAD 1), 63, 0xFFFFF8, 8, true, ?_⟩
    decide +kernel
  · refine ⟨(live.put F.COLYS_ID_HEAD 1), BitVec.ofNat 24 (RegRef.offset ⟨.MNT_ARG, 0, 0, 0⟩), ?_⟩
    decide +kernel
  · refine ⟨(live.put F.COLYS_ID_HEAD 1), BitVec.ofNat 24 (RegRef.offset ⟨.MNT_ARG, 0, 0, 0⟩), ?_⟩
    decide +kernel
  · refine ⟨live, ?_⟩
    decide +kernel
  · refine ⟨{ live with ring := { live.ring with hostQ := [(({ kind := pkWrite, dst := 0, src := 7, beats := 1, firstBe := 255, lastBe := 255 } : PkHead).word :: [0, 7])] } }, (({ kind := pkWrite, dst := 0, src := 7, beats := 1, firstBe := 255, lastBe := 255 } : PkHead).word :: [0, 7]), [], ?_⟩
    decide +kernel
  · refine ⟨{ ((live.put F.COLYS_ID_HEAD 1).put F.HOST_STATUS_BME 1) with ring := { live.ring with hostQ := [(({ kind := pkWrite, dst := 0, src := 7, beats := 1, firstBe := 255, lastBe := 255 } : PkHead).word :: [0, 7])] } }, (({ kind := pkWrite, dst := 0, src := 7, beats := 1, firstBe := 255, lastBe := 255 } : PkHead).word :: [0, 7]), [], ?_⟩
    decide +kernel
  · refine ⟨(live.put F.COLYS_ID_HEAD 1), .pcieFlr, ?_⟩
    decide +kernel
  · refine ⟨live, .pcieReset, ?_⟩
    decide +kernel
  · refine ⟨((live.put F.COLYS_ID_HEAD 1)).atClock 3276800, ?_⟩
    decide +kernel
  · refine ⟨live, ?_⟩
    decide +kernel
  · refine ⟨(live.put F.COLYS_ID_HEAD 1), ?_⟩
    decide +kernel
  · refine ⟨((live.put F.COLYS_ID_HEAD 1).put F.ETH_STATUS_LINK_UP 1).put ⟨.ETH_IP_ADDR, 0, 32⟩ 0xC0A80001, ?_⟩
    decide +kernel
  · refine ⟨(live.put F.COLYS_ID_HEAD 1).put F.ETH_STATUS_LINK_UP 1, ?_⟩
    decide +kernel
  · refine ⟨live, ?_⟩
    decide +kernel

/-- What `Obligations.RegisterWrites` assumes, clause by clause. -/
theorem witness_RegisterWrites :
    (∃ s : State, ∃ src : Src, ∃ off : BitVec 24, s.takesReg src .SCHED_CFG ∧ off.toNat = RegRef.offset ⟨.SCHED_CFG, 0, 0, 0⟩) ∧
    (∃ s : State, ∃ src : Src, ∃ off : BitVec 24, s.takesReg src .TIME_EVENTS ∧ off.toNat = RegRef.offset ⟨.TIME_EVENTS, 0, 0, 0⟩) ∧
    (∃ s : State, ∃ src : Src, ∃ off : BitVec 24, s.takes src off.toNat ∧ off.toNat % 4 = 0 ∧ placeOf off.toNat = .reserved) ∧
    (∃ s : State, ∃ src : Src, ∃ off : BitVec 24, s.up = true ∧ permits src off.toNat = false ∧ off.toNat % 4 = 0) ∧
    (∃ s : State, ∃ off : BitVec 24, s.up = true ∧ off.toNat % 4 ≠ 0) ∧
    (∃ s : State, ∃ off : BitVec 24, s.up = true ∧ off.toNat % 4 ≠ 0 ∧ off.toNat / 0x10000 = 4) ∧
    (∃ s : State, s.up = false) := by
  refine ⟨?_, ?_, ?_, ?_, ?_, ?_, ?_⟩
  · refine ⟨live, .host, BitVec.ofNat 24 (RegRef.offset ⟨.SCHED_CFG, 0, 0, 0⟩), ?_⟩
    decide +kernel
  · refine ⟨live, .host, BitVec.ofNat 24 (RegRef.offset ⟨.TIME_EVENTS, 0, 0, 0⟩), ?_⟩
    decide +kernel
  · refine ⟨live, .host, 0xFFC, ?_⟩
    decide +kernel
  · refine ⟨live, .engine 7, 0x80, ?_⟩
    decide +kernel
  · refine ⟨live, 0xFFFFFF, ?_⟩
    decide +kernel
  · refine ⟨live, 0x40001, ?_⟩
    decide +kernel
  · refine ⟨State.reset, ?_⟩
    decide +kernel

/-- What `Obligations.FaultLog` assumes, clause by clause. -/
theorem witness_FaultLog :
    (∃ s : State, ∃ parts : List (List Byte), s.log.lost = 0 ∧ s.log.queue.length + parts.length ≤ 256) ∧
    (∃ s : State, ∃ parts : List (List Byte), 256 < s.log.queue.length + parts.length + (if 0 < s.log.lost then 1 else 0)) ∧
    (∃ s : State, ∃ e : LogEntry, ∃ l : List LogEntry, s.log.queue = e :: l ∧ s.log.lost = 0) ∧
    (∃ s : State, s.log.queue = []) ∧
    (∃ s : State, ∃ src : Src, ∃ v : Word, ∃ e : LogEntry, s.takesReg src .LOG_SEL ∧ s.logEntry v.toNat = some e) ∧
    (∃ s : State, ∃ src : Src, ∃ v : Word, s.takesReg src .LOG_SEL ∧ s.logEntry v.toNat = none) := by
  refine ⟨?_, ?_, ?_, ?_, ?_, ?_⟩
  · refine ⟨live, List.replicate 255 [], ?_⟩
    decide +kernel
  · refine ⟨{ live with log := { live.log with queue := List.replicate 256 ⟨7, 1, 0, 1, 0, 0, 0, 0, []⟩ } }, List.replicate 1 [], ?_⟩
    decide +kernel
  · refine ⟨{ live with log := { live.log with queue := [⟨7, 1, 0, 1, 0, 0, 0, 0, []⟩] } }, ⟨7, 1, 0, 1, 0, 0, 0, 0, []⟩, [], ?_⟩
    decide +kernel
  · refine ⟨live, ?_⟩
    decide +kernel
  · refine ⟨{ live with log := { live.log with flash := [⟨7, 1, 0, 1, 0, 0, 0, 0, []⟩] } }, .host, 7, ⟨7, 1, 0, 1, 0, 0, 0, 0, []⟩, ?_⟩
    decide +kernel
  · refine ⟨live, .host, 7, ?_⟩
    decide +kernel

end

end Sys2Proof.Tests
end

section
/-! The supply's events (R60 to R64, R69). First what an action leaves alone, said once for each frame and each shared operation; then
one lemma per event. -/

namespace Sys2Proof.Machine

/-! ### Fields under the primitive updates -/

/-- A store to `f` leaves `g` alone in every row: another register, or no common bit. -/
def Fld.spares (f g : Fld) : Bool := decide (f.name ≠ g.name) || f.apart g

theorem Act.setF_f_spared {f g : Fld} (v i j k i' j' k' : Nat) (s : State) (h : f.spares g = true) (hm : g.inMask = true) :
    ((Act.setF f v i j k).run s).f g i' j' k' = s.f g i' j' k' := by
  simp only [Fld.spares, Bool.or_eq_true, decide_eq_true_eq] at h
  by_cases hn : f.name = g.name
  · by_cases hi : i = i' ∧ j = j' ∧ k = k'
    · obtain ⟨rfl, rfl, rfl⟩ := hi
      exact Act.setF_f_apart f g v i j k s hn (h.resolve_left (not_not_intro hn)) hm
    · exact Act.setF_f_inst f g v i j k i' j' k' s hi
  · exact Act.setF_f_ne f g v i j k i' j' k' s hn

/-- A field that already holds a value holds it after the value is stored in any row of the register. -/
theorem Act.setF_f_stays {f : Fld} {v : Nat} (i j k i' j' k' : Nat) (s : State) (hm : f.inMask = true) (hv : v < 2 ^ f.width)
    (h : s.f f i' j' k' = v) : ((Act.setF f v i j k).run s).f f i' j' k' = v := by
  by_cases hi : i = i' ∧ j = j' ∧ k = k'
  · obtain ⟨rfl, rfl, rfl⟩ := hi
    by_cases hr : RegRef.valid ⟨f.name, i, j, k⟩ = true
    · rw [Act.setF_f_same f v i j k s hr hm, Nat.mod_eq_of_lt hv]
    · have hskip : (Act.setF f v i j k).run s = s := if_neg hr
      rw [hskip, h]
  · rw [Act.setF_f_inst f f v i j k i' j' k' s hi, h]

theorem Act.setF_b_spared {f g : Fld} (v i j k i' j' k' : Nat) (s : State) (h : f.spares g = true) (hm : g.inMask = true) :
    ((Act.setF f v i j k).run s).b g i' j' k' = s.b g i' j' k' := by
  simp only [State.b, Act.setF_f_spared v i j k i' j' k' s h hm]

theorem Act.count_f_same (f : Fld) (i j : Nat) (s : State) (hr : RegRef.valid ⟨f.name, i, j, 0⟩ = true) (hm : f.inMask = true) :
    ((Act.count f 1 i j).run s).f f i j = min (s.f f i j + 1) (2 ^ f.width - 1) := by
  have hpos : 0 < 2 ^ f.width := Nat.two_pow_pos _
  rw [Act.count_run, Act.setF_f_same f _ i j 0 s hr hm]
  exact Nat.mod_eq_of_lt (by omega)

theorem Act.setBit_bit_same (f : Fld) (b i j k : Nat) (s : State) (hr : RegRef.valid ⟨f.name, i, j, k⟩ = true) (hm : f.inMask = true)
    (hb : b < f.width) : ((Act.setBit f b i j k).run s).bit f b i j k = true := by
  simp [State.bit, Act.setBit_run, Act.setF_f_same f _ i j k s hr hm, Nat.testBit_mod_two_pow, Nat.testBit_shiftLeft, hb]

theorem Act.clrBit_bit_same (f : Fld) (b i j k : Nat) (s : State) (hr : RegRef.valid ⟨f.name, i, j, k⟩ = true) (hm : f.inMask = true)
    (hb : b < f.width) : ((Act.clrBit f b i j k).run s).bit f b i j k = false := by
  have hmask : (2 ^ f.width - 1 - 1 <<< b).testBit b = false := by
    rw [Nat.one_shiftLeft, Nat.sub_sub, Nat.add_comm 1, Nat.testBit_two_pow_sub_succ (Nat.pow_lt_pow_right (by decide) hb)]
    simp
  simp [State.bit, Act.clrBit_run, Act.setF_f_same f _ i j k s hr hm, Nat.testBit_mod_two_pow, hmask]

/-! ### Frames -/

theorem Act.keeps_all {P : State → State → Prop} (hP : Frame P) {l : List Act} (h : l.Forall (Act.Keeps P)) : (Act.all l).Keeps P := by
  induction l with
  | nil => exact Act.keeps_nil hP
  | cons a l ih =>
    obtain ⟨ha, hl⟩ := List.forall_cons _ _ _ |>.mp h
    exact Act.keeps_cons hP ha (ih hl)

theorem NamesKept.f_eq {l : List RegName} {s t : State} (h : NamesKept l s t) {f : Fld} (hf : f.name ∉ l) (i j k : Nat) :
    t.f f i j k = s.f f i j k := congrArg f.of (h f.name i j k hf)

/-- Nothing but the registers named, the fault log and the count of free values has changed. -/
structure OnlyLog (l : List RegName) (s t : State) : Prop where
  kept : NamesKept l s t
  rest : t = { s with regs := t.regs, log := t.log, seed := t.seed }

variable {l : List RegName}

theorem OnlyLog.frame : Frame (OnlyLog l) where
  refl _ := ⟨fun _ _ _ _ _ => rfl, rfl⟩
  trans {_ _ u} h1 h2 := ⟨fun n i j k hn => (h2.kept n i j k hn).trans (h1.kept n i j k hn),
    h2.rest.trans (congrArg (fun x : State => { x with regs := u.regs, log := u.log, seed := u.seed }) h1.rest)⟩

theorem OnlyLog.of_log (s : State) (x : LogSt) : OnlyLog l s { s with log := x } := ⟨fun _ _ _ _ _ => rfl, rfl⟩

theorem OnlyLog.of_seed (s : State) (n : Nat) : OnlyLog l s { s with seed := n } := ⟨fun _ _ _ _ _ => rfl, rfl⟩

theorem OnlyLog.pwr {s t : State} (h : OnlyLog l s t) : t.pwr = s.pwr := (congrArg State.pwr h.rest :)

/-- The supply changes first, then the registers named and the log alone. -/
theorem OnlyLog.of_setPwr {x : PwrSt → PwrSt} {s t : State} (h : OnlyLog l ((Act.setPwr x).run s) t) :
    NamesKept l s t ∧ t = { s with regs := t.regs, pwr := t.pwr, log := t.log, seed := t.seed } :=
  ⟨h.kept, by rw [h.pwr]; exact h.rest⟩

theorem Act.setF_rest (f : Fld) (v i j k : Nat) (s : State) :
    (Act.setF f v i j k).run s = { s with regs := ((Act.setF f v i j k).run s).regs } := by
  simp only [Act.setF, Act.setR, Act.look_run]
  split <;> rfl

theorem Act.setF_onlyLog {f : Fld} (h : f.name ∈ l) (v i j k : Nat) : (Act.setF f v i j k).Keeps (OnlyLog l) := fun s =>
  { kept := fun n i' j' k' hn => Act.setF_r_ne f v i j k n i' j' k' s fun e => hn (e ▸ h)
    rest := by conv => { lhs; rw [Act.setF_rest] }; simp }

/-- The supply's register may have changed, and nothing else has. -/
structure OnlySysPwr (s t : State) : Prop where
  kept : RegsKept [⟨.SYS_PWR, 0, 0, 0⟩] s t
  rest : t = { s with regs := t.regs }

theorem OnlySysPwr.frame : Frame OnlySysPwr where
  refl _ := ⟨fun _ _ _ _ _ => rfl, rfl⟩
  trans {_ _ u} h1 h2 := ⟨fun n i j k hn => (h2.kept n i j k hn).trans (h1.kept n i j k hn),
    h2.rest.trans (congrArg (fun x : State => { x with regs := u.regs }) h1.rest)⟩

theorem Act.setF_onlySysPwr {f : Fld} (hf : f.name = .SYS_PWR) (v : Nat) : (Act.setF f v).Keeps OnlySysPwr := fun s =>
  { kept := fun _ _ _ _ hn => (Act.setR_r ..).trans (if_neg fun e => hn (List.mem_singleton.mpr (hf ▸ e.2.symm)))
    rest := Act.setF_rest f v 0 0 0 s }

theorem Act.setB_onlySysPwr {f : Fld} (hf : f.name = .SYS_PWR) (v : Bool) : (Act.setB f v).Keeps OnlySysPwr :=
  Act.setF_onlySysPwr hf v.toNat

theorem Act.count_onlySysPwr {f : Fld} (hf : f.name = .SYS_PWR) : (Act.count f).Keeps OnlySysPwr :=
  Act.keeps_look fun _ => Act.setF_onlySysPwr hf _

theorem Act.clrBit_onlySysPwr {f : Fld} (hf : f.name = .SYS_PWR) (b : Nat) : (Act.clrBit f b).Keeps OnlySysPwr :=
  Act.keeps_look fun _ => Act.setF_onlySysPwr hf _

theorem Act.setBit_onlySysPwr {f : Fld} (hf : f.name = .SYS_PWR) (b : Nat) : (Act.setBit f b).Keeps OnlySysPwr :=
  Act.keeps_look fun _ => Act.setF_onlySysPwr hf _

theorem OnlySysPwr.onlyLog {s t : State} (h : OnlySysPwr s t) (hl : .SYS_PWR ∈ l) : OnlyLog l s t where
  kept _ i j k hn := h.kept _ i j k fun e => hn ((RegRef.mk.inj (List.mem_singleton.mp e)).1 ▸ hl)
  rest := by conv => { lhs; rw [h.rest] }; rw [h.rest]

theorem OnlySysPwr.log {s t : State} (h : OnlySysPwr s t) : t.log = s.log := (congrArg State.log h.rest :)

theorem OnlySysPwr.pwr {s t : State} (h : OnlySysPwr s t) : t.pwr = s.pwr := (congrArg State.pwr h.rest :)

theorem OnlySysPwr.of_setPwr {x : PwrSt → PwrSt} {s t : State} (h : OnlySysPwr ((Act.setPwr x).run s) t) :
    RegsKept [⟨.SYS_PWR, 0, 0, 0⟩] s t ∧ t = { s with regs := t.regs, pwr := t.pwr } :=
  ⟨h.kept, by rw [h.pwr]; exact h.rest⟩

/-! ### The fault log -/

theorem Act.log_onlyLog (hs : .FAULT_STATUS ∈ l) (he : .FAULT_EVENTS ∈ l) (kind subject : Nat) (data : List Byte) :
    (Act.log kind subject data).Keeps (OnlyLog l) := by
  have hpending : Act.logPending.Keeps (OnlyLog l) := Act.keeps_look fun s => by
    split
    · exact Act.setF_onlyLog hs _ _ _ _
    · exact Act.keeps_look fun _ => Act.keeps_andThen OnlyLog.frame (fun s => OnlyLog.of_seed s _) (Act.setF_onlyLog hs _ _ _ _)
  refine Act.keeps_look fun s => ?_
  dsimp only
  split
  · refine Act.keeps_andThen OnlyLog.frame ?_ (Act.keeps_andThen OnlyLog.frame (fun s => OnlyLog.of_log s _) hpending)
    split
    · exact fun s => OnlyLog.of_log s _
    · exact Act.keeps_skip OnlyLog.frame
  · exact Act.keeps_andThen OnlyLog.frame (fun s => OnlyLog.of_log s _) (Act.setF_onlyLog he _ _ _ _)

theorem Act.logPending_log (s : State) : (Act.logPending.run s).log = s.log := by
  rw [Act.logPending, Act.look_run]
  split
  · exact Act.setF_log ..
  · exact Act.setF_log ..

/-- R419: an entry of a kind has joined the end of the buffer, where it had room and no loss was owed. -/
def Logged (s t : State) (kind : Nat) : Prop := s.log.lost = 0 → s.log.queue.length < 256 →
  t.log.queue.map LogEntry.kind = s.log.queue.map LogEntry.kind ++ [kind]

theorem Act.log_logged (kind subject : Nat) (data : List Byte) (s : State) : Logged s ((Act.log kind subject data).run s) kind := by
  intro hlost hroom
  have hfits : s.log.queue.length + [data].length + (decide (s.log.lost > 0)).toNat ≤ 256 := by simp [hlost]; omega
  simp only [Act.log, Act.logMulti, Act.look_run, if_pos hfits]
  simp [hlost, Act.logPending_log, logParts]

/-! ### Winding down -/

/-- What the power-fail sequence and the collapse keep, group after group: the log and the flash stay, no group comes alive, no output is
powered, a fault hold stays, and the pins of a group in the row `row` stay in it. -/
structure WindsDown (row : Nat) (s t : State) : Prop where
  log : t.log = s.log
  flash : t.flash = s.flash
  alive : ∀ g, t.alive g = true → s.alive g = true
  powered : ∀ g o, (t.out g o).powered = true → (s.out g o).powered = true
  faultHold : ∀ (g : Grp) (o : Out), s.b F.DAC_STATUS_FAULT_HOLD g o = true → t.b F.DAC_STATUS_FAULT_HOLD g o = true
  pins : ∀ g : Grp, s.f F.PIN_STATE_STATE g = row → t.f F.PIN_STATE_STATE g = row

variable {row : Nat}

theorem WindsDown.frame : Frame (WindsDown row) where
  refl _ := ⟨rfl, rfl, fun _ h => h, fun _ _ h => h, fun _ _ h => h, fun _ h => h⟩
  trans h1 h2 := ⟨h2.log.trans h1.log, h2.flash.trans h1.flash, fun g h => h1.alive g (h2.alive g h),
    fun g o h => h1.powered g o (h2.powered g o h), fun g o h => h2.faultHold g o (h1.faultHold g o h),
    fun g h => h2.pins g (h1.pins g h)⟩

/-- What changes none of the stores that winding down speaks of winds down. -/
theorem WindsDown.of_eq {s t : State} (hregs : t.regs = s.regs) (hpwr : t.pwr = s.pwr) (hlog : t.log = s.log) (hflash : t.flash = s.flash)
    (houts : t.outs = s.outs) : WindsDown row s t where
  log := hlog
  flash := hflash
  alive g h := by rwa [State.alive, hpwr] at h
  powered g o h := by rwa [State.out, houts] at h
  faultHold g o h := by rwa [State.b, State.f, State.r, hregs]
  pins g h := by rwa [State.f, State.r, hregs]

/-- A change of the registers alone winds down where it leaves the fault holds and the pin rows so. -/
theorem Act.setF_windsDown_of {f : Fld} {v i j k : Nat} {s : State}
    (hh : ∀ (g : Grp) (o : Out), s.b F.DAC_STATUS_FAULT_HOLD g o = true →
      ((Act.setF f v i j k).run s).b F.DAC_STATUS_FAULT_HOLD g o = true)
    (hp : ∀ g : Grp, s.f F.PIN_STATE_STATE g = row → ((Act.setF f v i j k).run s).f F.PIN_STATE_STATE g = row) :
    WindsDown row s ((Act.setF f v i j k).run s) where
  log := Act.setF_log ..
  flash := Act.setF_flash ..
  alive g h := by simpa only [State.alive, Act.setF_pwr] using h
  powered g o h := by simpa only [State.out, Act.setF_outs] using h
  faultHold := hh
  pins := hp

theorem Act.setF_windsDown {f : Fld} (h : (f.spares F.DAC_STATUS_FAULT_HOLD && f.spares F.PIN_STATE_STATE) = true) (v i j k : Nat) :
    (Act.setF f v i j k).Keeps (WindsDown row) := by
  intro s
  obtain ⟨hh, hp⟩ := Bool.and_eq_true _ _ ▸ h
  refine Act.setF_windsDown_of (fun g o hs => ?_) fun g hs => ?_
  · rw [Act.setF_b_spared _ _ _ _ _ _ _ _ hh (by decide), hs]
  · rw [Act.setF_f_spared _ _ _ _ _ _ _ _ hp (by decide), hs]

theorem Act.faultHold_windsDown (i j k : Nat) : (Act.setB F.DAC_STATUS_FAULT_HOLD true i j k).Keeps (WindsDown row) := by
  intro s
  refine Act.setF_windsDown_of (fun g o hs => ?_) fun g hs => ?_
  · have hone : s.f F.DAC_STATUS_FAULT_HOLD g o = 1 := by simpa [State.b] using hs
    simp [State.b, Act.setF_f_stays i j k g o 0 s (by decide) (by decide) hone]
  · rw [Act.setF_f_spared _ _ _ _ _ _ _ _ (by decide) (by decide), hs]

theorem Act.pinState_windsDown (hrow : row < 4) (i j k : Nat) : (Act.setF F.PIN_STATE_STATE row i j k).Keeps (WindsDown row) := by
  intro s
  refine Act.setF_windsDown_of (fun g o hs => ?_) fun g hs => ?_
  · rw [Act.setF_b_spared _ _ _ _ _ _ _ _ (by decide) (by decide), hs]
  · exact Act.setF_f_stays i j k g 0 0 s (by decide) hrow hs

/-! ### The pins, the outputs and the comparators -/

theorem Act.putBit_keeps {P : State → State → Prop} {f : Fld} (h : ∀ v i j k, (Act.setF f v i j k).Keeps P) (b : Nat) (v : Bool)
    (i j k : Nat) : (Act.putBit f b v i j k).Keeps P := by
  cases v
  · exact Act.keeps_look fun _ => h _ _ _ _
  · exact Act.keeps_look fun _ => h _ _ _ _

/-- The registers that show the level and the drive of the pins. -/
def pinShows : List RegName := [.PIN_DRIVEN, .PIN_FIELD, .PIN_LEVEL]

theorem Act.pinRefresh_keeps {P : State → State → Prop} (hP : Frame P) (hseed : ∀ s n, P s { s with seed := n })
    (hset : ∀ f v i j k, f.name ∈ pinShows → (Act.setF f v i j k).Keeps P) (g : Grp) (p : Pin) : (Act.pinRefresh g p).Keeps P := by
  have hput : ∀ f : Fld, f.name ∈ pinShows → ∀ b v, (Act.putBit f b v g).Keeps P :=
    fun f hf b v => Act.putBit_keeps (fun v i j k => hset f v i j k hf) b v g 0 0
  refine Act.keeps_look fun s => Act.keeps_all hP ⟨hput _ (by decide) _ _, Act.keeps_when hP (hput _ (by decide) _ _), ?_⟩
  split
  · exact hput _ (by decide) _ _
  · exact Act.keeps_look fun _ => Act.keeps_andThen hP (fun s => hseed s _) (hput _ (by decide) _ _)

theorem Act.pinsRefresh_keeps {P : State → State → Prop} (hP : Frame P) (hseed : ∀ s n, P s { s with seed := n })
    (hset : ∀ f v i j k, f.name ∈ pinShows → (Act.setF f v i j k).Keeps P) (g : Grp) : (Act.pinsRefresh g).Keeps P :=
  Act.keeps_each hP _ fun p => Act.pinRefresh_keeps hP hseed hset g p

theorem Act.pinsRefresh_onlyLog (hl : pinShows ⊆ l) (g : Grp) : (Act.pinsRefresh g).Keeps (OnlyLog l) :=
  Act.pinsRefresh_keeps OnlyLog.frame OnlyLog.of_seed (fun _ v i j k hf => Act.setF_onlyLog (hl hf) v i j k) g

theorem pinShows_spares {f : Fld} (hf : f.name ∈ pinShows) :
    (f.spares F.DAC_STATUS_FAULT_HOLD && f.spares F.PIN_STATE_STATE) = true := by
  have hne : ∀ n ∈ pinShows, n ≠ .DAC_STATUS ∧ n ≠ .PIN_STATE := by decide
  obtain ⟨h1, h2⟩ := hne f.name hf
  simp [Fld.spares, F.DAC_STATUS_FAULT_HOLD, F.PIN_STATE_STATE, h1, h2]

theorem Act.pinRefresh_windsDown (g : Grp) (p : Pin) : (Act.pinRefresh g p).Keeps (WindsDown row) :=
  Act.pinRefresh_keeps WindsDown.frame (fun _ _ => .of_eq rfl rfl rfl rfl rfl)
    (fun _ v i j k hf => Act.setF_windsDown (pinShows_spares hf) v i j k) g p

theorem Act.pinsRefresh_windsDown (g : Grp) : (Act.pinsRefresh g).Keeps (WindsDown row) :=
  Act.keeps_each WindsDown.frame _ (Act.pinRefresh_windsDown g)

theorem Act.setPin_windsDown (g : Grp) (p : Pin) (x : PinSt → PinSt) : (Act.setPin g p x).Keeps (WindsDown row) :=
  fun _ => .of_eq rfl rfl rfl rfl rfl

theorem Act.setKmp_windsDown (g : Grp) (k : Kmp) (x : CmpSt → CmpSt) : (Act.setKmp g k x).Keeps (WindsDown row) :=
  fun _ => .of_eq rfl rfl rfl rfl rfl

theorem Act.setMon_windsDown (g : Grp) (x : MonSt → MonSt) : (Act.setMon g x).Keeps (WindsDown row) :=
  fun _ => .of_eq rfl rfl rfl rfl rfl

theorem Act.setOut_out (g : Grp) (o : Out) (x : OutSt → OutSt) (s : State) (g' : Grp) (o' : Out) :
    ((Act.setOut g o x).run s).out g' o' = if g = g' ∧ o = o' then x (s.out g o) else s.out g' o' := by
  simp only [State.out, Act.setOut_outs, Fin.getElem_fin, Vector.getElem_set, ← Fin.ext_iff]
  by_cases hg : g = g'
  · subst hg
    by_cases ho : o = o'
    · simp [ho]
    · simp [ho, Fin.val_inj]
  · simp [hg]

theorem Act.setOut_windsDown (g : Grp) (o : Out) {x : OutSt → OutSt} (hx : ∀ y, (x y).powered = true → y.powered = true) :
    (Act.setOut g o x).Keeps (WindsDown row) := fun s =>
  { log := rfl, flash := rfl, alive := fun _ h => h, faultHold := fun _ _ h => h, pins := fun _ h => h
    powered := fun g' o' h => by
      rw [Act.setOut_out] at h
      split at h
      · next e => obtain ⟨rfl, rfl⟩ := e; exact hx _ h
      · exact h }

theorem Act.outUpdate_windsDown (g : Grp) (o : Out) : (Act.outUpdate g o).Keeps (WindsDown row) := by
  refine Act.keeps_all WindsDown.frame ⟨?sync, ?range, ?shows⟩
  case sync => exact Act.keeps_look fun s => Act.keeps_when WindsDown.frame (Act.setOut_windsDown g o fun _ h => h)
  case range =>
    refine Act.keeps_look fun s => ?_
    dsimp only
    split
    · exact Act.keeps_all WindsDown.frame ⟨Act.setOut_windsDown g o fun _ h => h, Act.setF_windsDown (by decide) _ _ _ _⟩
    · exact Act.keeps_skip WindsDown.frame
  case shows =>
    exact Act.keeps_look fun s => Act.keeps_all WindsDown.frame
      ⟨Act.setF_windsDown (by decide) _ _ _ _, Act.setF_windsDown (by decide) _ _ _ _,
        Act.keeps_when WindsDown.frame (Act.setOut_windsDown g o fun _ h => h)⟩

theorem Act.outFault_windsDown (g : Grp) (o : Out) (cause : Nat) : (Act.outFault g o cause).Keeps (WindsDown row) :=
  Act.keeps_all WindsDown.frame ⟨Act.keeps_look fun _ => Act.setF_windsDown (by decide) _ _ _ _, Act.faultHold_windsDown g o 0,
    Act.setOut_windsDown g o fun _ h => h, Act.outUpdate_windsDown g o⟩

/-- R64: an output of a lost group loses its supply. -/
def Act.outOff (g : Grp) (o : Out) : Act := .all [
  .setOut g o fun x => { x with powered := false, gateDelay := false, phase := 0, endNv := false },
  .setB F.DAC_STATUS_RANGE_BUSY false g o, .outUpdate g o]

theorem Act.outOff_windsDown (g : Grp) (o : Out) : (Act.outOff g o).Keeps (WindsDown row) :=
  Act.keeps_all WindsDown.frame ⟨Act.setOut_windsDown g o fun _ h => absurd h Bool.false_ne_true, Act.setF_windsDown (by decide) _ _ _ _,
    Act.outUpdate_windsDown g o⟩

/-- R310, R311: a hand-over of the spare core in progress is discarded. -/
def Act.rolesLost (g : Grp) : Act := .look fun s => .when (s.f F.DAC_SPARE_ROLE g == 1)
  (.all [
    if s.mon[g].coreReturn then .setF F.DAC_SPARE_ROLE 3 g
    else .all [.setF F.DAC_SPARE_ROLE 0 g, .setF F.DAC_SPARE_SERVES 15 g],
    .repairing])

theorem Act.rolesLost_windsDown (g : Grp) : (Act.rolesLost g).Keeps (WindsDown row) := by
  refine Act.keeps_look fun s => Act.keeps_when WindsDown.frame <| Act.keeps_all WindsDown.frame
    ⟨?_, Act.keeps_look fun _ => Act.setF_windsDown (by decide) _ _ _ _⟩
  split
  · exact Act.setF_windsDown (by decide) _ _ _ _
  · exact Act.keeps_all WindsDown.frame ⟨Act.setF_windsDown (by decide) _ _ _ _, Act.setF_windsDown (by decide) _ _ _ _⟩

theorem Act.outsLost_eq (g : Grp) : Act.outsLost g =
    .all [.each (List.finRange 8) (Act.outOff g), .rolesLost g, .setMon g fun m => { m with rbWait := [], coreReturn := false }] := rfl

theorem Act.outsLost_windsDown (g : Grp) : (Act.outsLost g).Keeps (WindsDown row) :=
  Act.keeps_all WindsDown.frame
    ⟨Act.keeps_each WindsDown.frame _ (Act.outOff_windsDown g), Act.rolesLost_windsDown g, Act.setMon_windsDown g _⟩

theorem Act.cmpLevel_windsDown (g : Grp) (k : Kmp) (v : Bool) : (Act.cmpLevel g k v).Keeps (WindsDown row) := by
  refine Act.keeps_look fun s => ?_
  split
  · exact Act.keeps_skip WindsDown.frame
  · refine Act.keeps_all WindsDown.frame ⟨Act.setF_windsDown (by decide) _ _ _ _,
      Act.putBit_keeps (Act.setF_windsDown (by decide)) _ _ _ _ _,
      Act.keeps_look fun _ => Act.setF_windsDown (by decide) _ _ _ _, ?_⟩
    exact Act.keeps_look fun _ => Act.keeps_each WindsDown.frame _ fun p =>
      Act.keeps_when WindsDown.frame (Act.pinRefresh_windsDown g p)

theorem Act.cmpOff_windsDown (g : Grp) (k : Kmp) : (Act.cmpOff g k).Keeps (WindsDown row) :=
  Act.keeps_look fun _ => Act.keeps_all WindsDown.frame ⟨Act.setKmp_windsDown g k _, Act.setF_windsDown (by decide) _ _ _ _,
    Act.setF_windsDown (by decide) _ _ _ _, Act.keeps_when WindsDown.frame (Act.cmpLevel_windsDown g k false)⟩

/-! ### One group after another -/

/-- Whatever the state before, the action leaves one of which `R` holds. -/
def Act.Brings (R : State → Prop) (a : Act) : Prop := ∀ s, R (a.run s)

section
variable {P : State → State → Prop} {R : State → Prop}

/-- What the first action brings about, and the others keep, holds at the end. -/
theorem Act.brings_head (hR : ∀ s t, P s t → R s → R t) {a : Act} {l : List Act} (ha : a.Brings R) (hl : (Act.all l).Keeps P) :
    (Act.all (a :: l)).Brings R := fun s => hR _ _ (hl _) (ha s)

theorem Act.brings_tail {a : Act} {l : List Act} (hl : (Act.all l).Brings R) : (Act.all (a :: l)).Brings R := fun _ => hl _

theorem Act.brings_look {f : State → Act} (h : ∀ s, (f s).Brings R) : (Act.look f).Brings R := fun s => h s s

theorem Act.brings_fresh {f : BitVec 64 → Act} (h : ∀ x, (f x).Brings R) : (Act.fresh f).Brings R := fun _ => h _ _

/-- What the action for one member brings about, and every action keeps, holds at the end. -/
theorem Act.brings_each (hR : ∀ s t, P s t → R s → R t) {α : Type} {l : List α} {f : α → Act}
    (keep : ∀ y, (f y).Keeps P) {x : α} (hx : x ∈ l) (hf : (f x).Brings R) : (Act.each l f).Brings R := by
  have hkeep : ∀ (l : List α) s, R s → R ((Act.each l f).run s) := by
    intro l
    induction l with
    | nil => exact fun _ h => h
    | cons y l ih => exact fun s h => ih _ (hR _ _ (keep y s) h)
  induction l with
  | nil => exact absurd hx List.not_mem_nil
  | cons y l ih =>
    rcases List.mem_cons.mp hx with rfl | hx
    · exact fun s => hkeep l _ (hf s)
    · exact fun s => ih hx _

end

/-- R61 step 4: the outputs of a group take their fault values. -/
def Act.failOuts (g : Grp) : Act := .each (List.finRange 8) fun o => .outFault g o 0

/-- R61 step 4: the pins of a group take their safe states. -/
def Act.failPins (g : Grp) : Act := .all [
  .each (List.finRange 20) fun p => .look fun t => .setPin g p fun x => { x with hold := t.pinDrive g p },
  .setF F.PIN_STATE_STATE 3 g, .pinsRefresh g]

/-- What the power-fail sequence does to the group `g`, which is alive or not. -/
def Act.failGroup (alive : Bool) (g : Grp) : Act := .all [.failOuts g, .when alive (.failPins g)]

theorem Act.failOuts_windsDown (g : Grp) : (Act.failOuts g).Keeps (WindsDown row) :=
  Act.keeps_each WindsDown.frame _ fun o => Act.outFault_windsDown g o 0

theorem Act.failPins_windsDown (g : Grp) : (Act.failPins g).Keeps (WindsDown 3) :=
  Act.keeps_all WindsDown.frame ⟨Act.keeps_each WindsDown.frame _ fun p => Act.keeps_look fun _ => Act.setPin_windsDown g p _,
    Act.pinState_windsDown (by decide) _ _ _, Act.pinsRefresh_windsDown g⟩

theorem Act.failGroup_windsDown (alive : Bool) (g : Grp) : (Act.failGroup alive g).Keeps (WindsDown 3) :=
  Act.keeps_all WindsDown.frame ⟨Act.failOuts_windsDown g, Act.keeps_when WindsDown.frame (Act.failPins_windsDown g)⟩

theorem valid_dacStatus (g : Grp) (o : Out) : RegRef.valid ⟨.DAC_STATUS, g, o, 0⟩ = true := by
  simp [RegRef.valid, RegName.row]

theorem valid_pinState (g : Grp) : RegRef.valid ⟨.PIN_STATE, g, 0, 0⟩ = true := by
  simp [RegRef.valid, RegName.row]

theorem WindsDown.stays_held (g : Grp) (o : Out) (s t : State) (h : WindsDown row s t)
    (hs : s.b F.DAC_STATUS_FAULT_HOLD g o = true) : t.b F.DAC_STATUS_FAULT_HOLD g o = true := h.faultHold g o hs

theorem WindsDown.stays_in_row (g : Grp) (s t : State) (h : WindsDown row s t) (hs : s.f F.PIN_STATE_STATE g = row) :
    t.f F.PIN_STATE_STATE g = row := h.pins g hs

theorem WindsDown.stays_lost (g : Grp) (s t : State) (h : WindsDown row s t) (hs : s.alive g = false) : t.alive g = false :=
  Bool.eq_false_iff.mpr fun ht => Bool.false_ne_true (hs.symm.trans (h.alive g ht))

theorem WindsDown.stays_unpowered (g : Grp) (o : Out) (s t : State) (h : WindsDown row s t) (hs : (s.out g o).powered = false) :
    (t.out g o).powered = false :=
  Bool.eq_false_iff.mpr fun ht => Bool.false_ne_true (hs.symm.trans (h.powered g o ht))

theorem Act.outFault_faultHold (g : Grp) (o : Out) (cause : Nat) :
    (Act.outFault g o cause).Brings fun t => t.b F.DAC_STATUS_FAULT_HOLD g o = true :=
  Act.brings_tail <| Act.brings_head (WindsDown.stays_held (row := 0) g o)
    (fun s => Act.setB_b_same F.DAC_STATUS_FAULT_HOLD true g o 0 s (valid_dacStatus g o) (by decide) rfl)
    (Act.keeps_all WindsDown.frame ⟨Act.setOut_windsDown g o fun _ h => h, Act.outUpdate_windsDown g o⟩)

theorem Act.failOuts_faultHold (g : Grp) (o : Out) : (Act.failOuts g).Brings fun t => t.b F.DAC_STATUS_FAULT_HOLD g o = true :=
  Act.brings_each (WindsDown.stays_held (row := 0) g o) (fun o => Act.outFault_windsDown g o 0) (List.mem_finRange o)
    (Act.outFault_faultHold g o 0)

theorem Act.failGroup_faultHold (alive : Bool) (g : Grp) (o : Out) :
    (Act.failGroup alive g).Brings fun t => t.b F.DAC_STATUS_FAULT_HOLD g o = true :=
  Act.brings_head (WindsDown.stays_held (row := 3) g o) (Act.failOuts_faultHold g o)
    (Act.keeps_cons WindsDown.frame (Act.keeps_when WindsDown.frame (Act.failPins_windsDown g)) (Act.keeps_nil WindsDown.frame))

/-- The pins of a group switch to a row and follow it. -/
theorem Act.pinsSwitch_state {row : Nat} (hrow : row < 4) (g : Grp) :
    (Act.all [.setF F.PIN_STATE_STATE row g, .pinsRefresh g]).Brings fun t => t.f F.PIN_STATE_STATE g = row := by
  refine Act.brings_head (WindsDown.stays_in_row g) (fun s => ?_)
    (Act.keeps_cons WindsDown.frame (Act.pinsRefresh_windsDown g) (Act.keeps_nil WindsDown.frame))
  exact (Act.setF_f_same F.PIN_STATE_STATE row g 0 0 s (valid_pinState g) (by decide)).trans (Nat.mod_eq_of_lt hrow)

theorem Act.failGroup_pins (g : Grp) : (Act.failGroup true g).Brings fun t => t.f F.PIN_STATE_STATE g = 3 :=
  Act.brings_tail (Act.brings_head (WindsDown.stays_in_row g) (Act.brings_tail (Act.pinsSwitch_state (by decide) g))
    (Act.keeps_nil WindsDown.frame))

theorem Act.logBounds_log (s : State) : (Act.logBounds.run s).log = s.log := by
  rw [Act.logBounds, Act.look_run]
  split
  · simp
  · rfl

theorem Act.powerFailRecord_queue : Act.powerFailRecord.Brings fun t => t.log.queue = [] := by
  refine Act.brings_fresh fun x => Act.brings_fresh fun y => Act.brings_look fun s => ?_
  refine Act.brings_head (P := fun s t => t.log = s.log) (fun _ _ h hs => h ▸ hs) (fun _ => rfl) ?_
  exact fun t => Act.logBounds_log t

/-- R61 step 4 for every group, `alive` naming those that are alive. -/
def Act.failGroups (alive : Grp → Bool) : Act := .groups fun g => .failGroup (alive g) g

theorem Act.powerFail_eq : Act.powerFail =
    .look fun s => .when (s.pwr.vinLow && s.pwr.dipSeen && s.dipOver && (s.pwr.life == .boot || s.up))
      (.all [.powerFailRecord, .failGroups s.alive, .setPwr fun p => { p with life := .failing }]) := rfl

theorem Act.failGroups_windsDown (alive : Grp → Bool) : (Act.failGroups alive).Keeps (WindsDown 3) :=
  Act.keeps_each WindsDown.frame _ fun g => Act.failGroup_windsDown (alive g) g

theorem Act.failGroups_faultHold (alive : Grp → Bool) (g : Grp) (o : Out) :
    (Act.failGroups alive).Brings fun t => t.b F.DAC_STATUS_FAULT_HOLD g o = true :=
  Act.brings_each (WindsDown.stays_held g o) (fun g => Act.failGroup_windsDown (alive g) g) (List.mem_finRange g)
    (Act.failGroup_faultHold (alive g) g o)

theorem Act.failGroups_pins (alive : Grp → Bool) (g : Grp) (h : alive g = true) :
    (Act.failGroups alive).Brings fun t => t.f F.PIN_STATE_STATE g = 3 :=
  Act.brings_each (WindsDown.stays_in_row g) (fun g => Act.failGroup_windsDown (alive g) g) (List.mem_finRange g)
    (h ▸ Act.failGroup_pins g)

/-! ### The collapse of the rails -/

/-- R64: what the collapse of the rails does to a group. -/
def Act.collapseGroup (g : Grp) : Act := .all [
  .setAlive g false, .outsLost g, .each (List.finRange 16) fun k => .cmpOff g k, .setF F.PIN_STATE_STATE 0 g, .pinsRefresh g]

theorem Act.setAlive_false_alive (g : Grp) (s : State) (g' : Grp) :
    ((Act.setAlive g false).run s).alive g' = if g = g' then false else s.alive g' := by
  simp [State.alive, Act.setAlive, Vector.getElem_set, Fin.ext_iff]

theorem Act.setAlive_false_windsDown (g : Grp) : (Act.setAlive g false).Keeps (WindsDown row) := fun s =>
  { log := rfl, flash := rfl, powered := fun _ _ h => h, faultHold := fun _ _ h => h, pins := fun _ h => h
    alive := fun g' h => by
      rw [Act.setAlive_false_alive] at h
      split at h
      · exact absurd h Bool.false_ne_true
      · exact h }

theorem Act.cmpsOff_windsDown (g : Grp) : (Act.each (List.finRange 16) fun k => Act.cmpOff g k).Keeps (WindsDown row) :=
  Act.keeps_each WindsDown.frame _ (Act.cmpOff_windsDown g)

/-- What follows the loss of the outputs of a group. -/
theorem Act.collapsePins_windsDown (g : Grp) : (Act.all [.each (List.finRange 16) fun k => .cmpOff g k,
    .setF F.PIN_STATE_STATE 0 g, .pinsRefresh g]).Keeps (WindsDown 0) :=
  Act.keeps_all WindsDown.frame ⟨Act.cmpsOff_windsDown g, Act.pinState_windsDown (by decide) _ _ _, Act.pinsRefresh_windsDown g⟩

theorem Act.collapseOuts_windsDown (g : Grp) : (Act.all [.outsLost g, .each (List.finRange 16) fun k => .cmpOff g k,
    .setF F.PIN_STATE_STATE 0 g, .pinsRefresh g]).Keeps (WindsDown 0) :=
  Act.keeps_cons WindsDown.frame (Act.outsLost_windsDown g) (Act.collapsePins_windsDown g)

theorem Act.collapseGroup_windsDown (g : Grp) : (Act.collapseGroup g).Keeps (WindsDown 0) :=
  Act.keeps_cons WindsDown.frame (Act.setAlive_false_windsDown g) (Act.collapseOuts_windsDown g)

theorem Act.outOff_powered (g : Grp) (o : Out) : (Act.outOff g o).Brings fun t => (t.out g o).powered = false :=
  Act.brings_head (WindsDown.stays_unpowered (row := 0) g o) (fun s => by simp [Act.setOut_out])
    (Act.keeps_all WindsDown.frame ⟨Act.setF_windsDown (by decide) _ _ _ _, Act.outUpdate_windsDown g o⟩)

theorem Act.outsLost_powered (g : Grp) (o : Out) : (Act.outsLost g).Brings fun t => (t.out g o).powered = false := by
  rw [Act.outsLost_eq]
  exact Act.brings_head (WindsDown.stays_unpowered (row := 0) g o)
    (Act.brings_each (WindsDown.stays_unpowered (row := 0) g o) (Act.outOff_windsDown g) (List.mem_finRange o) (Act.outOff_powered g o))
    (Act.keeps_all WindsDown.frame ⟨Act.rolesLost_windsDown g, Act.setMon_windsDown g _⟩)

theorem Act.collapseGroup_alive (g : Grp) : (Act.collapseGroup g).Brings fun t => t.alive g = false :=
  Act.brings_head (WindsDown.stays_lost g) (fun s => by simp [Act.setAlive_false_alive]) (Act.collapseOuts_windsDown g)

theorem Act.collapseGroup_powered (g : Grp) (o : Out) : (Act.collapseGroup g).Brings fun t => (t.out g o).powered = false :=
  Act.brings_tail (Act.brings_head (WindsDown.stays_unpowered g o) (Act.outsLost_powered g o) (Act.collapsePins_windsDown g))

theorem Act.collapseGroup_pins (g : Grp) : (Act.collapseGroup g).Brings fun t => t.f F.PIN_STATE_STATE g = 0 :=
  Act.brings_tail (Act.brings_tail (Act.brings_tail (Act.pinsSwitch_state (by decide) g)))

/-- R64 for every group. -/
def Act.collapseGroups : Act := .groups Act.collapseGroup

theorem Act.railsCollapse_eq : Act.railsCollapse = .look fun s => .when (s.pwr.life == .failing) (.all [.collapseGroups,
    .setFlash fun f => { f with nvBad := f.nvBad || decide (s.clk < f.nvUntil) },
    .setPwr fun p => { p with life := .collapsed, supplied := Vector.replicate 4 false }]) := rfl

theorem Act.collapseGroups_windsDown : Act.collapseGroups.Keeps (WindsDown 0) :=
  Act.keeps_each WindsDown.frame _ Act.collapseGroup_windsDown

theorem Act.collapseGroups_alive (g : Grp) : Act.collapseGroups.Brings fun t => t.alive g = false :=
  Act.brings_each (WindsDown.stays_lost g) Act.collapseGroup_windsDown (List.mem_finRange g) (Act.collapseGroup_alive g)

theorem Act.collapseGroups_pins (g : Grp) : Act.collapseGroups.Brings fun t => t.f F.PIN_STATE_STATE g = 0 :=
  Act.brings_each (WindsDown.stays_in_row g) Act.collapseGroup_windsDown (List.mem_finRange g) (Act.collapseGroup_pins g)

theorem Act.collapseGroups_powered (g : Grp) (o : Out) : Act.collapseGroups.Brings fun t => (t.out g o).powered = false :=
  Act.brings_each (WindsDown.stays_unpowered g o) Act.collapseGroup_windsDown (List.mem_finRange g) (Act.collapseGroup_powered g o)

/-! ### The dip filter and the power-fail sequence -/

theorem valid_sysPwr : RegRef.valid ⟨.SYS_PWR, 0, 0, 0⟩ = true := by decide

/-- A bit of the supply's register, set or cleared. -/
theorem Act.setB_sysPwr {f : Fld} (hf : f.name = .SYS_PWR) (hm : f.inMask = true) (hw : f.width = 1) (v : Bool) (s : State) :
    ((Act.setB f v).run s).b f = v := Act.setB_b_same f v 0 0 0 s (by rw [hf]; exact valid_sysPwr) hm hw

/-- R61: the boot ROM runs, or the supervisor. -/
theorem runs_eq {s : State} (h : s.pwr.life = .boot ∨ s.up = true) : (s.pwr.life == .boot || s.up) = true := by
  simpa using h

/-- An event that changes the supply and then one bit of the supply's register. -/
theorem Act.supplyBit_run (x : PwrSt → PwrSt) {f : Fld} (hf : f.name = .SYS_PWR) (hm : f.inMask = true) (hw : f.width = 1) (v : Bool)
    (s : State) : let t := (Act.all [.setPwr x, .setB f v]).run s
    t.pwr = x s.pwr ∧ t.b f = v ∧ RegsKept [⟨.SYS_PWR, 0, 0, 0⟩] s t ∧ t = { s with regs := t.regs, pwr := t.pwr } := by
  have honly := Act.setB_onlySysPwr hf v ((Act.setPwr x).run s)
  simp only [Act.all_cons_run, Act.all_nil_run]
  exact ⟨honly.pwr, Act.setB_sysPwr hf hm hw v _, honly.of_setPwr⟩

theorem vinFall_answers {s : State} (hruns : s.pwr.life = .boot ∨ s.up = true) : Answers .vinFall s fun t =>
    t.pwr.vinLow = true ∧ t.b F.SYS_PWR_VIN_OK = false ∧ RegsKept [⟨.SYS_PWR, 0, 0, 0⟩] s t ∧
    t = { s with regs := t.regs, pwr := t.pwr } := by
  have hrun : Act.vinFall.run s = (Act.all [.setPwr fun p => { p with vinLow := true, dipSeen := false, lowAt := s.clk },
      .setB F.SYS_PWR_VIN_OK false]).run s := by
    rw [Act.vinFall, Act.look_run, runs_eq hruns, Act.when_true_run]
  obtain ⟨hpwr, hok, hrest⟩ := Act.supplyBit_run (fun p => { p with vinLow := true, dipSeen := false, lowAt := s.clk })
    (f := F.SYS_PWR_VIN_OK) rfl (by decide) rfl false s
  refine ⟨_, rfl, ?_⟩
  rw [hrun]
  exact ⟨by rw [hpwr], hok, hrest⟩

theorem dipDetected_answers {s : State} (hruns : s.pwr.life = .boot ∨ s.up = true) (hlow : s.pwr.vinLow = true)
    (hseen : s.pwr.dipSeen = false) : Answers .dipDetected s fun t =>
    t.pwr.dipSeen = true ∧ t.b F.SYS_PWR_DIP = true ∧ Counted F.SYS_PWR_DIP_COUNT s t ∧ RegsKept [⟨.SYS_PWR, 0, 0, 0⟩] s t ∧
    t = { s with regs := t.regs, pwr := t.pwr } := by
  have hrun : Act.dipDetected.run s = (Act.count F.SYS_PWR_DIP_COUNT).run ((Act.setB F.SYS_PWR_DIP true).run
      ((Act.setPwr fun p => { p with dipSeen := true }).run s)) := by
    rw [Act.dipDetected, Act.look_run, runs_eq hruns, hlow, hseen]; rfl
  have honly := OnlySysPwr.frame.trans
    (Act.setB_onlySysPwr (f := F.SYS_PWR_DIP) rfl true ((Act.setPwr fun p => { p with dipSeen := true }).run s))
    (Act.count_onlySysPwr (f := F.SYS_PWR_DIP_COUNT) rfl _)
  refine ⟨_, rfl, ?_⟩
  rw [hrun]
  refine ⟨by rw [honly.pwr, Act.setPwr_run], ?_, ?_, honly.of_setPwr⟩
  · rw [Act.count_run, Act.setF_b_spared _ _ _ _ _ _ _ _ (by decide) (by decide)]
    exact Act.setB_sysPwr rfl (by decide) rfl true _
  · rw [Counted, Act.count_f_same _ _ _ _ valid_sysPwr (by decide), Act.setB_eq,
      Act.setF_f_spared _ _ _ _ _ _ _ _ (by decide) (by decide), Act.setPwr_f]

/-- The registers that an event of the supply and its entry of the fault log may change. -/
def supplyShows : List RegName := [.SYS_PWR, .FAULT_STATUS, .FAULT_EVENTS]

/-- An event of the supply that ends with an entry of the fault log: what it changed in the supply's register before stays. -/
theorem Act.whenLog_run {s₁ s₂ : State} (h : OnlySysPwr s₁ s₂) (c : Bool) (kind : Nat) (subject : Nat) (data : List Byte) :
    let t := (Act.when c (.log kind subject data)).run s₂
    OnlyLog supplyShows s₁ t ∧ (∀ f : Fld, f.name = .SYS_PWR → t.f f = s₂.f f) ∧ (c = true → Logged s₁ t kind) := by
  have hs₁ : OnlyLog supplyShows s₁ s₂ := h.onlyLog (by decide)
  cases c with
  | false => exact ⟨hs₁, fun _ _ => rfl, fun hc => absurd hc Bool.false_ne_true⟩
  | true =>
    have hlog : OnlyLog [.FAULT_STATUS, .FAULT_EVENTS] s₂ ((Act.log kind subject data).run s₂) :=
      Act.log_onlyLog (by decide) (by decide) kind subject data s₂
    refine ⟨OnlyLog.frame.trans hs₁ (Act.log_onlyLog (by decide) (by decide) kind subject data s₂), ?_, fun _ => ?_⟩
    · exact fun f hf => hlog.kept.f_eq (hf ▸ by decide) 0 0 0
    · rw [Logged, ← h.log]
      exact Act.log_logged kind subject data s₂

/-- An event that changes the supply, then one bit of the supply's register, and that the fault log may show. -/
theorem Act.supplyLog_run (x : PwrSt → PwrSt) {f : Fld} (hf : f.name = .SYS_PWR) (hm : f.inMask = true) (hw : f.width = 1) (v c : Bool)
    (kind subject : Nat) (data : List Byte) (s : State) :
    let t := (Act.all [.setPwr x, .setB f v, .when c (.log kind subject data)]).run s
    t.pwr = x s.pwr ∧ t.b f = v ∧ (c = true → Logged s t kind) ∧ NamesKept supplyShows s t ∧
    t = { s with regs := t.regs, pwr := t.pwr, log := t.log, seed := t.seed } := by
  obtain ⟨honly, hfld, hlogged⟩ :=
    Act.whenLog_run (Act.setB_onlySysPwr hf v ((Act.setPwr x).run s)) c kind subject data
  refine ⟨honly.pwr, ?_, hlogged, honly.of_setPwr⟩
  exact (congrArg (· == 1) (hfld f hf)).trans (Act.setB_sysPwr hf hm hw v _)

theorem dipEnd_answers {s : State} (micros : Nat) (hruns : s.pwr.life = .boot ∨ s.up = true) (hlow : s.pwr.vinLow = true)
    (hover : s.dipOver = false) : Answers (.dipEnd micros) s fun t =>
    t.pwr.vinLow = false ∧ t.pwr.dipSeen = false ∧ t.b F.SYS_PWR_VIN_OK = true ∧ (s.pwr.dipSeen = true → Logged s t 2) ∧
    NamesKept supplyShows s t ∧ t = { s with regs := t.regs, pwr := t.pwr, log := t.log, seed := t.seed } := by
  have hrun : (Act.dipEnd micros).run s = (Act.all [.setPwr fun p => { p with vinLow := false, dipSeen := false },
      .setB F.SYS_PWR_VIN_OK true, .when s.pwr.dipSeen (.log 2 0 (leBytes micros 4))]).run s := by
    rw [Act.dipEnd, Act.look_run, runs_eq hruns, hlow, hover]; rfl
  obtain ⟨hpwr, hrest⟩ := Act.supplyLog_run (fun p => { p with vinLow := false, dipSeen := false }) (f := F.SYS_PWR_VIN_OK)
    rfl (by decide) rfl true s.pwr.dipSeen 2 0 (leBytes micros 4) s
  refine ⟨_, rfl, ?_⟩
  rw [hrun]
  exact ⟨by rw [hpwr], by rw [hpwr], hrest⟩

theorem powerFailStart_answers {s : State} (hruns : s.pwr.life = .boot ∨ s.up = true) (hlow : s.pwr.vinLow = true)
    (hseen : s.pwr.dipSeen = true) (hover : s.dipOver = true) : Answers .powerFailStart s fun t =>
    t.pwr.life = .failing ∧ t.log.queue = [] ∧ (∀ (g : Grp) (o : Out), t.b F.DAC_STATUS_FAULT_HOLD g o = true) ∧
    ∀ g : Grp, s.alive g = true → t.f F.PIN_STATE_STATE g = 3 := by
  have hrun : Act.powerFail.run s = (Act.setPwr fun p => { p with life := .failing }).run
      ((Act.failGroups s.alive).run (Act.powerFailRecord.run s)) := by
    rw [Act.powerFail_eq, Act.look_run, runs_eq hruns, hlow, hseen, hover]; rfl
  refine ⟨_, rfl, ?_⟩
  rw [hrun]
  refine ⟨rfl, ?_, fun g o => Act.failGroups_faultHold s.alive g o _, fun g hg => Act.failGroups_pins s.alive g hg _⟩
  rw [Act.setPwr_log, (Act.failGroups_windsDown s.alive _).log, Act.powerFailRecord_queue]

theorem railsCollapse_answers {s : State} (hlife : s.pwr.life = .failing) : Answers .railsCollapse s fun t =>
    t.pwr.life = .collapsed ∧ t.flash.nvBad = (s.flash.nvBad || decide (s.clk < s.flash.nvUntil)) ∧
    ∀ g : Grp, t.alive g = false ∧ t.f F.PIN_STATE_STATE g = 0 ∧ ∀ o : Out, (t.out g o).powered = false := by
  have hrun : Act.railsCollapse.run s = (Act.setPwr fun p => { p with life := .collapsed, supplied := Vector.replicate 4 false }).run
      ((Act.setFlash fun f => { f with nvBad := f.nvBad || decide (s.clk < f.nvUntil) }).run (Act.collapseGroups.run s)) := by
    rw [Act.railsCollapse_eq, Act.look_run, hlife]; rfl
  have hkept := Act.collapseGroups_windsDown s
  have halive := fun g => Act.collapseGroups_alive g s
  have hpins := fun g => Act.collapseGroups_pins g s
  have hpowered := fun g o => Act.collapseGroups_powered g o s
  refine ⟨_, rfl, ?_⟩
  rw [hrun]
  generalize Act.collapseGroups.run s = u at hkept halive hpins hpowered
  exact ⟨rfl, congrArg (fun f : FlashSt => f.nvBad || decide (s.clk < f.nvUntil)) hkept.flash,
    fun g => ⟨halive g, hpins g, hpowered g⟩⟩

/-! ### VIN above its threshold, and the field supplies -/

/-- R60: up to the absolute maximum, VIN is noted; VIN_HIGH sets, with its entry, where the supervisor runs and the bit is 0. -/
theorem exec_vinHighRise {mv : Nat} (hmv : mv ≤ 100000) (s : State) : exec (.vinHighRise mv) s =
    .next ((Act.when (s.up && !s.b F.SYS_PWR_VIN_HIGH) (.all [.setB F.SYS_PWR_VIN_HIGH true, .log 3 0 (leBytes mv 4)])).run
      ((Act.setPwr fun p => { p with vinHigh := some mv }).run s)) := if_neg (Nat.not_lt.mpr hmv)

theorem vinHighRise_sets {s : State} {mv : Nat} (hmv : mv ≤ 100000) (hup : s.up = true) (hlow : s.b F.SYS_PWR_VIN_HIGH = false) :
    Answers (.vinHighRise mv) s fun t =>
      t.b F.SYS_PWR_VIN_HIGH = true ∧ t.pwr.vinHigh = some mv ∧ Logged s t 3 ∧ NamesKept supplyShows s t ∧
      t = { s with regs := t.regs, pwr := t.pwr, log := t.log, seed := t.seed } := by
  have hrun : exec (.vinHighRise mv) s = .next ((Act.all [.setPwr fun p => { p with vinHigh := some mv },
      .setB F.SYS_PWR_VIN_HIGH true, .when true (.log 3 0 (leBytes mv 4))]).run s) := by
    rw [exec_vinHighRise hmv, hup, hlow]; rfl
  obtain ⟨hpwr, hhigh, hlogged, hrest⟩ := Act.supplyLog_run (fun p => { p with vinHigh := some mv }) (f := F.SYS_PWR_VIN_HIGH)
    rfl (by decide) rfl true true 3 0 (leBytes mv 4) s
  exact ⟨_, hrun, hhigh, by rw [hpwr], hlogged rfl, hrest⟩

theorem vinHighRise_shown {s : State} {mv : Nat} (hmv : mv ≤ 100000) (h : s.up = false ∨ s.b F.SYS_PWR_VIN_HIGH = true) :
    Answers (.vinHighRise mv) s fun t => t = { s with pwr := { s.pwr with vinHigh := some mv } } := by
  have hshown : (s.up && !s.b F.SYS_PWR_VIN_HIGH) = false := by
    rcases h with h | h
    · rw [h, Bool.false_and]
    · rw [h, Bool.not_true, Bool.and_false]
  exact ⟨_, exec_vinHighRise hmv s, by rw [hshown, Act.when_false_run, Act.setPwr_run]⟩

theorem vinHighRise_beyond {s : State} {mv : Nat} (hmv : 100000 < mv) :
    exec (.vinHighRise mv) s = .fault .beyondAbsoluteMaximum := if_pos hmv

theorem vinHighFall_answers (s : State) : Answers .vinHighFall s fun t =>
    t.b F.SYS_PWR_VIN_HIGH = false ∧ t.pwr.vinHigh = none ∧ RegsKept [⟨.SYS_PWR, 0, 0, 0⟩] s t ∧
    t = { s with regs := t.regs, pwr := t.pwr } := by
  obtain ⟨hpwr, hhigh, hrest⟩ := Act.supplyBit_run (fun p => { p with vinHigh := none }) (f := F.SYS_PWR_VIN_HIGH)
    rfl (by decide) rfl false s
  exact ⟨_, rfl, hhigh, by rw [hpwr], hrest⟩

/-- R69: VFLD_OK of the group clears, with its entry, where it was set. -/
def Act.vfldClears (g : Grp) : Act :=
  .look fun s => .when (s.bit F.SYS_PWR_VFLD_OK g) (.all [.clrBit F.SYS_PWR_VFLD_OK g, .when s.up (.log 24 g [])])

theorem Act.vfldClears_run (g : Grp) (s : State) : let t := (Act.vfldClears g).run s
    OnlyLog supplyShows s t ∧ t.bit F.SYS_PWR_VFLD_OK g = false ∧
    (s.up = true → s.bit F.SYS_PWR_VFLD_OK g = true → Logged s t 24) := by
  rw [Act.vfldClears, Act.look_run]
  cases hbit : s.bit F.SYS_PWR_VFLD_OK g with
  | false => exact ⟨OnlyLog.frame.refl s, hbit, fun _ h => absurd h Bool.false_ne_true⟩
  | true =>
    obtain ⟨honly, hfld, hlogged⟩ :=
      Act.whenLog_run (Act.clrBit_onlySysPwr (f := F.SYS_PWR_VFLD_OK) rfl g s) s.up 24 g []
    refine ⟨honly, ?_, fun hup _ => hlogged hup⟩
    refine (congrArg (Nat.testBit · g) (hfld F.SYS_PWR_VFLD_OK rfl)).trans ?_
    exact Act.clrBit_bit_same F.SYS_PWR_VFLD_OK g 0 0 0 s valid_sysPwr (by decide) g.isLt

/-- The registers that a change of a field supply may change. -/
def vfldShows : List RegName := [.SYS_PWR, .FAULT_STATUS, .FAULT_EVENTS, .PIN_DRIVEN, .PIN_FIELD, .PIN_LEVEL]

theorem OnlyLog.mono {l m : List RegName} (h : l ⊆ m) {s t : State} (hst : OnlyLog l s t) : OnlyLog m s t :=
  ⟨fun n i j k hn => hst.kept n i j k fun hl => hn (h hl), hst.rest⟩

/-- The pins of a group follow their field supply: the registers that show them change, and the log stays. -/
theorem Act.pinsRefresh_run (g : Grp) (s : State) : let t := (Act.pinsRefresh g).run s
    OnlyLog pinShows s t ∧ t.log = s.log ∧ t.f F.SYS_PWR_VFLD_OK = s.f F.SYS_PWR_VFLD_OK :=
  have honly := Act.pinsRefresh_onlyLog (List.Subset.refl pinShows) g s
  ⟨honly, (Act.pinsRefresh_windsDown (row := 0) g s).log, honly.kept.f_eq (by decide) 0 0 0⟩

theorem vfldOk_of_setVfld {g : Grp} {v : Bool} {s t : State}
    (h : t.pwr = ((Act.setPwr fun p => { p with vfld := p.vfld.set g v }).run s).pwr) : t.vfldOk g = v := by
  rw [State.vfldOk, h]
  simp

theorem Act.vfldLow_eq (g : Grp) : Act.vfldLow g =
    .all [.setPwr fun p => { p with vfld := p.vfld.set g false }, .vfldClears g, .pinsRefresh g] := rfl

theorem vfldLow_answers (s : State) (g : Grp) : Answers (.vfldLow g) s fun t =>
    t.vfldOk g = false ∧ t.bit F.SYS_PWR_VFLD_OK g = false ∧
    (s.up = true → s.bit F.SYS_PWR_VFLD_OK g = true → Logged s t 24) ∧ NamesKept vfldShows s t ∧
    t = { s with regs := t.regs, pwr := t.pwr, log := t.log, seed := t.seed } := by
  obtain ⟨hclears, hbit, hlogged⟩ := Act.vfldClears_run g ((Act.setPwr fun p => { p with vfld := p.vfld.set g false }).run s)
  obtain ⟨hpins, hlog, hfld⟩ := Act.pinsRefresh_run g
    ((Act.vfldClears g).run ((Act.setPwr fun p => { p with vfld := p.vfld.set g false }).run s))
  have honly := OnlyLog.frame.trans (hclears.mono (m := vfldShows) (by decide)) (hpins.mono (by decide))
  refine ⟨_, rfl, ?_⟩
  rw [Act.vfldLow_eq, Act.all_cons_run, Act.all_cons_run, Act.all_cons_run, Act.all_nil_run]
  refine ⟨vfldOk_of_setVfld honly.pwr, ?_, fun hup hset => ?_, honly.of_setPwr⟩
  · rw [State.bit, hfld]; exact hbit
  · rw [Logged, hlog]; exact hlogged hup hset

/-- R69: VFLD_OK of the group sets where the supervisor runs. -/
def Act.vfldSets (g : Grp) : Act := .look fun s => .when s.up (.setBit F.SYS_PWR_VFLD_OK g)

theorem Act.vfldSets_run (g : Grp) (s : State) : let t := (Act.vfldSets g).run s
    OnlySysPwr s t ∧ (s.up = true → t.bit F.SYS_PWR_VFLD_OK g = true) := by
  rw [Act.vfldSets, Act.look_run]
  cases s.up with
  | false => exact ⟨OnlySysPwr.frame.refl s, fun h => absurd h Bool.false_ne_true⟩
  | true => exact ⟨Act.setBit_onlySysPwr (f := F.SYS_PWR_VFLD_OK) rfl g s,
      fun _ => Act.setBit_bit_same F.SYS_PWR_VFLD_OK g 0 0 0 s valid_sysPwr (by decide) g.isLt⟩

theorem Act.vfldReturn_eq (g : Grp) : Act.vfldReturn g =
    .all [.setPwr fun p => { p with vfld := p.vfld.set g true }, .vfldSets g, .pinsRefresh g] := rfl

theorem vfldReturn_answers (s : State) (g : Grp) : Answers (.vfldReturn g) s fun t =>
    t.vfldOk g = true ∧ (s.up = true → t.bit F.SYS_PWR_VFLD_OK g = true) ∧ NamesKept (.SYS_PWR :: pinShows) s t ∧
    t = { s with regs := t.regs, pwr := t.pwr, seed := t.seed } := by
  obtain ⟨hsets, hbit⟩ := Act.vfldSets_run g ((Act.setPwr fun p => { p with vfld := p.vfld.set g true }).run s)
  obtain ⟨hpins, hlog, hfld⟩ := Act.pinsRefresh_run g
    ((Act.vfldSets g).run ((Act.setPwr fun p => { p with vfld := p.vfld.set g true }).run s))
  have honly := OnlyLog.frame.trans (hsets.onlyLog (l := .SYS_PWR :: pinShows) (by decide)) (hpins.mono (by decide))
  obtain ⟨hkept, hrest⟩ := honly.of_setPwr
  refine ⟨_, rfl, ?_⟩
  rw [Act.vfldReturn_eq, Act.all_cons_run, Act.all_cons_run, Act.all_cons_run, Act.all_nil_run]
  refine ⟨vfldOk_of_setVfld honly.pwr, fun hup => ?_, hkept, hrest.trans ?_⟩
  · rw [State.bit, hfld]; exact hbit hup
  · rw [hlog, hsets.log, Act.setPwr_log]

/-- Settles O34: each event of the supply by the lemma about its command. -/
theorem supplyEvents : Obligations.SupplyEvents := by
  unfold Obligations.SupplyEvents
  intro s micros mv g
  exact ⟨vinFall_answers, dipDetected_answers, dipEnd_answers micros, powerFailStart_answers, railsCollapse_answers,
    fun hmv => ⟨vinHighRise_sets hmv, vinHighRise_shown hmv⟩, vinHighRise_beyond, vinHighFall_answers s, vfldLow_answers s g,
    vfldReturn_answers s g⟩

end Sys2Proof.Machine
end

section
/-! The end of a full load (R96, R99, R164), refuted. The statement bounds neither the offsets nor the values of the pairs that the loader
holds, and verification applies each pair as a write of the register it names. R88 confines the pairs of a checked frame to GRP offsets; a
held pair that names SYS.RESET ends the verification in a module reset (R82), which forgets the clock of the verification (R77). First what
the steps around that write leave alone, then the write, then the stream and the state that meet the statement's conditions. -/

namespace Sys2Proof.Machine

/-! ### What keeps one part of the state -/

/-- One part of the state is the same in both states. -/
def Same {α : Type} (part : State → α) (s t : State) : Prop := part t = part s

theorem Same.frame {α : Type} {part : State → α} : Frame (Same part) where
  refl _ := rfl
  trans h1 h2 := Eq.trans h2 h1

theorem Act.Keeps.same {α : Type} {part : State → α} {a : Act} (h : a.Keeps (Same part)) (s : State) : part (a.run s) = part s := h s

/-! ### What keeps the supply -/

theorem Act.setF_samePwr (f : Fld) (v i j k : Nat) : (Act.setF f v i j k).Keeps (Same State.pwr) := Act.setF_pwr f v i j k

theorem Act.setR_samePwr (n : RegName) (v : Word) (i j k : Nat) : (Act.setR n v i j k).Keeps (Same State.pwr) := Act.setR_pwr n v i j k

theorem Act.pinRefresh_samePwr (g : Grp) (p : Pin) : (Act.pinRefresh g p).Keeps (Same State.pwr) :=
  Act.pinRefresh_keeps (P := Same State.pwr) Same.frame (fun _ _ => rfl) (fun f v i j k _ => Act.setF_samePwr f v i j k) g p

theorem Act.pinsRefresh_samePwr (g : Grp) : (Act.pinsRefresh g).Keeps (Same State.pwr) :=
  Act.keeps_each Same.frame _ (Act.pinRefresh_samePwr g)

theorem Act.pinRowUpdate_samePwr (g : Grp) : (Act.pinRowUpdate g).Keeps (Same State.pwr) := by
  refine Act.keeps_look fun s => ?_
  split
  · exact Act.pinsRefresh_samePwr g
  · exact Act.keeps_all Same.frame
      ⟨Act.keeps_each Same.frame _ fun p => Act.setPin_pwr g p _, Act.setF_samePwr _ _ _ _ _, Act.pinsRefresh_samePwr g⟩

theorem Act.outUpdate_samePwr (g : Grp) (o : Out) : (Act.outUpdate g o).Keeps (Same State.pwr) := by
  refine Act.keeps_all Same.frame ⟨?sync, ?range, ?shows⟩
  case sync => exact Act.keeps_look fun _ => Act.keeps_when Same.frame (Act.setOut_pwr g o _)
  case range =>
    refine Act.keeps_look fun s => ?_
    dsimp only
    split
    · exact Act.keeps_all Same.frame ⟨Act.setOut_pwr g o _, Act.setF_samePwr _ _ _ _ _⟩
    · exact Act.keeps_skip Same.frame
  case shows =>
    exact Act.keeps_look fun _ => Act.keeps_all Same.frame
      ⟨Act.setF_samePwr _ _ _ _ _, Act.setF_samePwr _ _ _ _ _, Act.keeps_when Same.frame (Act.setOut_pwr g o _)⟩

theorem Act.outsUpdate_samePwr (g : Grp) : (Act.outsUpdate g).Keeps (Same State.pwr) :=
  Act.keeps_each Same.frame _ (Act.outUpdate_samePwr g)

theorem Act.outFault_samePwr (g : Grp) (o : Out) (cause : Nat) : (Act.outFault g o cause).Keeps (Same State.pwr) :=
  Act.keeps_all Same.frame
    ⟨Act.setBit_pwr _ _ _ _ _, Act.setF_samePwr _ _ _ _ _, Act.setOut_pwr g o _, Act.outUpdate_samePwr g o⟩

theorem Act.cmpLevel_samePwr (g : Grp) (k : Kmp) (v : Bool) : (Act.cmpLevel g k v).Keeps (Same State.pwr) := by
  refine Act.keeps_look fun s => ?_
  split
  · exact Act.keeps_skip Same.frame
  · refine Act.keeps_all Same.frame
      ⟨Act.setF_samePwr _ _ _ _ _, Act.putBit_pwr _ _ _ _ _ _, Act.count_pwr _ _ _ _ _, ?users⟩
    exact Act.keeps_look fun _ => Act.keeps_each Same.frame _ fun p => Act.keeps_when Same.frame (Act.pinRefresh_samePwr g p)

theorem Act.cmpFollow_samePwr (g : Grp) (k : Kmp) : (Act.cmpFollow g k).Keeps (Same State.pwr) := by
  refine Act.keeps_look fun s => ?_
  dsimp only
  split
  case isTrue => exact Act.keeps_skip Same.frame
  split
  case isTrue => exact Act.setKmp_pwr g k _
  split
  case isTrue =>
    exact Act.keeps_look fun _ => Act.keeps_all Same.frame ⟨Act.setKmp_pwr g k _, Act.setF_samePwr _ _ _ _ _,
      Act.setF_samePwr _ _ _ _ _, Act.keeps_when Same.frame (Act.cmpLevel_samePwr g k false)⟩
  case isFalse => exact Act.keeps_look fun _ => Act.setKmp_pwr g k _

theorem Act.cmpsFollow_samePwr (g : Grp) : (Act.cmpsFollow g).Keeps (Same State.pwr) :=
  Act.keeps_each Same.frame _ (Act.cmpFollow_samePwr g)

theorem Act.cellMirror_samePwr (g : Grp) : (Act.cellMirror g).Keeps (Same State.pwr) :=
  Act.keeps_look fun _ => Act.keeps_all Same.frame
    ⟨Act.keeps_each Same.frame _ fun _ => Act.keeps_all Same.frame
        ⟨Act.keeps_each Same.frame _ fun _ => Act.setR_samePwr _ _ _ _ _,
          Act.keeps_each Same.frame _ fun _ => Act.setR_samePwr _ _ _ _ _⟩,
      Act.keeps_each Same.frame _ fun _ => Act.setR_samePwr _ _ _ _ _,
      Act.keeps_each Same.frame _ fun _ => Act.setR_samePwr _ _ _ _ _⟩

theorem Act.cellsStart_samePwr (g : Grp) : (Act.cellsStart g).Keeps (Same State.pwr) := by
  refine Act.keeps_all Same.frame ⟨?fresh, ?active⟩
  case fresh => exact Act.keeps_each Same.frame _ fun _ => Act.keeps_look fun _ => Act.setCells_pwr g _
  case active =>
    have hcontrol : ∀ (c : Cell) (v : Bool), (Act.cellControl g c v).Keeps (Same State.pwr) := fun _ _ =>
      Act.keeps_look fun _ => Act.keeps_all Same.frame ⟨Act.setF_samePwr _ _ _ _ _, Act.setCells_pwr g _⟩
    exact Act.keeps_look fun _ => Act.keeps_each Same.frame _ fun c => Act.keeps_look fun _ =>
      Act.keeps_all Same.frame ⟨Act.setF_samePwr _ _ _ _ _, hcontrol c _⟩

theorem Act.cvMirror_samePwr (g : Grp) (n : Cv) : (Act.cvMirror g n).Keeps (Same State.pwr) :=
  Act.keeps_look fun _ => Act.keeps_all Same.frame
    ⟨Act.setR_samePwr _ _ _ _ _, Act.keeps_each Same.frame _ fun _ => Act.keeps_all Same.frame
      ⟨Act.setR_samePwr _ _ _ _ _, Act.setR_samePwr _ _ _ _ _⟩⟩

/-! ### A module reset forgets the clock of the verification -/

/-- R82 step 1: what a module reset makes of a group. -/
def Act.resetGroup (old : State) (g : Grp) : Act := .all [
  .setB F.REF_STATUS_INT_SETTLED (old.b F.REF_STATUS_INT_SETTLED g) g,
  .setB F.REF_STATUS_REF_SETTLED (old.b F.REF_STATUS_INT_SETTLED g) g,
  .when (old.alive g) (.each (List.finRange 8) fun o => .all [
    .setB F.DAC_STATUS_NV_HOLD true g o,
    if old.pwr.safePinLow then .outFault g o 0 else .outUpdate g o]),
  .when (old.alive g) (.slotBegins g),
  .pinRowUpdate g]

theorem Act.resetGroup_samePwr (old : State) (g : Grp) : (Act.resetGroup old g).Keeps (Same State.pwr) := by
  refine Act.keeps_all Same.frame ⟨Act.setF_samePwr _ _ _ _ _, Act.setF_samePwr _ _ _ _ _,
    Act.keeps_when Same.frame (Act.keeps_each Same.frame _ fun o => ?output),
    Act.keeps_when Same.frame (Act.keeps_look fun _ => Act.setMon_pwr g _), Act.pinRowUpdate_samePwr g⟩
  refine Act.keeps_all Same.frame ⟨Act.setF_samePwr _ _ _ _ _, ?_⟩
  split
  · exact Act.outFault_samePwr g o 0
  · exact Act.outUpdate_samePwr g o

theorem Act.moduleReset_secondVerify (cause : Nat) : (Act.moduleReset cause).Brings fun t => t.pwr.secondVerify = none := by
  refine Act.brings_look fun old => ?_
  -- of the eight actions the sixth forgets the clock, and the two after it keep the supply
  refine Act.brings_tail (Act.brings_tail (Act.brings_tail (Act.brings_tail (Act.brings_tail ?_))))
  refine Act.brings_head (P := Same State.pwr) (fun _ _ h hs => h ▸ hs) (fun _ => rfl) ?_
  exact Act.keeps_all Same.frame ⟨fun _ => rfl, Act.keeps_each Same.frame _ (Act.resetGroup_samePwr old)⟩

/-! ### The register write list -/

/-- R88, R164: what follows the pairs: the groups take their sets. -/
def Act.topologyGroups : Act := .each (List.finRange 4) fun g => .all [
  .cellLoaded g, .each (List.finRange 8) (Act.cvMirror g), .cmpsFollow g, .outsUpdate g, .pinsRefresh g]

theorem Act.topologyGroups_samePwr : Act.topologyGroups.Keeps (Same State.pwr) :=
  Act.keeps_each Same.frame _ fun g => Act.keeps_all Same.frame
    ⟨Act.keeps_all Same.frame ⟨Act.cellMirror_samePwr g, Act.cellsStart_samePwr g⟩,
      Act.keeps_each Same.frame _ (Act.cvMirror_samePwr g), Act.cmpsFollow_samePwr g, Act.outsUpdate_samePwr g,
      Act.pinsRefresh_samePwr g⟩

/-- R80: a pair that names SYS.RESET, with its KEY and MODULE. -/
def resetPair : Nat × Word := (0x80, 0xC3000001)

theorem topologyPair_resetPair : Act.topologyPair resetPair.1 resetPair.2 = .silent (.all [.accept, .moduleReset 1]) := by
  have hreg : lookupReg resetPair.1 = some ⟨.SYS_RESET, 0, 0, 0⟩ := by decide
  rw [Act.topologyPair, hreg]
  rfl

theorem Act.topologyApply_secondVerify {s : State} (hpairs : s.load.pairs = [resetPair]) :
    (Act.topologyApply.run s).pwr.secondVerify = none := by
  have hrun : Act.topologyApply.run s = Act.topologyGroups.run ((Act.topologyPair resetPair.1 resetPair.2).run s) := by
    rw [Act.topologyApply, Act.look_run, Act.all_cons_run, Act.all_cons_run, Act.all_nil_run, hpairs, Act.each_cons_run, Act.each_nil_run,
      Act.topologyGroups]
  rw [hrun, Act.topologyGroups_samePwr.same, topologyPair_resetPair, Act.silent, Act.look_run, Act.all_cons_run, Act.all_cons_run,
    Act.all_nil_run, Act.answer_pwr, Act.all_cons_run, Act.all_cons_run, Act.all_nil_run]
  exact Act.moduleReset_secondVerify 1 _

/-! ### The end of the load -/

/-- R96, R99: what the verification of a stream does ahead of the configured topology. -/
def Act.verifiedHead (img : List Byte) (slot : Fin 2) (again : Bool) : Act := .all [
  .setB F.CFG_STATUS_DONE true, .setB F.CFG_STATUS_CFGERR false,
  .setF F.CFG_BUILD_ID_BUILD_ID (hdrBuild img),
  .setF F.CFG_RESERVE_RESERVE (2 ^ 32 - 1 - hdrMask img),
  .setF F.CFG_RESERVE_LOADED_LOADED 0,
  .remapApply (hdrMask img),
  .setF F.SYS_START_SLOT slot, .setF F.SYS_START_PHASE 3,
  .when again (.upd fun t => { t with pwr := { t.pwr with secondVerify := some t.clk } }),
  .each (List.range 32) Act.regionInit]

theorem Act.log_sameLoad (kind subject : Nat) (data : List Byte) : (Act.log kind subject data).Keeps (Same State.load) := fun s =>
  have honly := Act.log_onlyLog (l := [.FAULT_STATUS, .FAULT_EVENTS]) (by decide) (by decide) kind subject data s
  (congrArg State.load honly.rest :)

theorem Act.remapApply_sameLoad (mask : Nat) : (Act.remapApply mask).Keeps (Same State.load) := by
  refine Act.keeps_look fun s => Act.keeps_each Same.frame _ fun e => ?_
  have hword : ∀ key v, (Act.setCfgWord key v).Keeps (Same State.load) := fun _ _ _ => rfl
  dsimp only
  split
  · exact Act.setBit_load _ _ _ _ _
  split
  · exact Act.log_sameLoad _ _ _
  · exact Act.keeps_all Same.frame
      ⟨Act.keeps_look fun _ => Act.keeps_each Same.frame _ fun _ => hword _ _,
        Act.keeps_look fun _ => Act.keeps_each Same.frame _ fun _ => hword _ _,
        Act.setBit_load _ _ _ _ _, Act.clrBit_load _ _ _ _ _⟩

theorem Act.verifiedHead_sameLoad (img : List Byte) (slot : Fin 2) (again : Bool) :
    (Act.verifiedHead img slot again).Keeps (Same State.load) :=
  Act.keeps_all Same.frame ⟨Act.setB_load _ _ _ _ _, Act.setB_load _ _ _ _ _, Act.setF_load _ _ _ _ _, Act.setF_load _ _ _ _ _,
    Act.setF_load _ _ _ _ _, Act.remapApply_sameLoad _, Act.setF_load _ _ _ _ _, Act.setF_load _ _ _ _ _,
    Act.keeps_when Same.frame fun _ => rfl, Act.keeps_each Same.frame _ fun _ _ => rfl⟩

theorem Act.fullVerified_run {s : State} {slot : Fin 2} {again : Bool} (hop : s.load.op = .full slot again)
    (hheader : s.load.header = true) (hframes : s.load.frames = hdrFrames s.load.stream)
    (hlength : 192 + 256 * hdrFrames s.load.stream ≤ s.load.stream.length)
    (htrailer : s.trailerCode s.load.stream (256 * hdrFrames s.load.stream) = 0) :
    (Act.fullVerified false).run s = Act.loadIdle.run ((Act.setFab fun f => { f with scrub := true }).run
      (Act.topologyApply.run ((Act.verifiedHead s.load.stream slot again).run s))) := by
  simp only [Act.fullVerified, Act.look_run, hop, hheader, hframes, htrailer, Nat.not_lt.mpr hlength, Act.verifiedHead,
    Act.all_cons_run, Act.all_nil_run, Bool.not_true, Bool.false_or, ne_eq, not_true_eq_false, decide_false, Bool.false_eq_true, if_false]

theorem Act.loadIdle_samePwr : Act.loadIdle.Keeps (Same State.pwr) :=
  Act.keeps_all Same.frame ⟨Act.setF_samePwr _ _ _ _ _, Act.setLoad_pwr _⟩

theorem fullVerified_resetPair {s : State} {slot : Fin 2} {again : Bool} (hop : s.load.op = .full slot again)
    (hheader : s.load.header = true) (hframes : s.load.frames = hdrFrames s.load.stream)
    (hlength : 192 + 256 * hdrFrames s.load.stream ≤ s.load.stream.length)
    (htrailer : s.trailerCode s.load.stream (256 * hdrFrames s.load.stream) = 0) (hpairs : s.load.pairs = [resetPair]) :
    ((Act.fullVerified false).run s).pwr.secondVerify = none := by
  have hheld : ((Act.verifiedHead s.load.stream slot again).run s).load.pairs = [resetPair] := by
    rw [(Act.verifiedHead_sameLoad _ slot again).same, hpairs]
  rw [Act.fullVerified_run hop hheader hframes hlength htrailer, Act.loadIdle_samePwr.same, Act.setFab_pwr]
  exact Act.topologyApply_secondVerify hheld

/-! ### The counterexample -/

/-- A big-endian number of 32 bytes. -/
def bytes32 (v : Nat) : List Byte := (leBytes v 32).reverse

/-- R84, R90: a stream without frames: a header of zeros, its digest, and the signature that the key and the nonce 1 give. -/
def zeroStream : List Byte :=
  List.replicate 64 0 ++ bytes32 0xF5A5FD42D16A20302798EF6ED309979B43003D2320D9F0E8EA9831A92759FB4B ++ bytes32 p256x ++
  bytes32 0x60BDCF36B29662772055D65436ADD88DFD1CBFF6A7AD8604EB7FA02C038F9890 ++ List.replicate 32 0

/-- The last step of a fallback load of that stream. The public key in every slot is the curve's base point, and the loader holds the
pair that names SYS.RESET. -/
def resetByPair : State := { State.reset with
  pwr := { PwrSt.initial with life := .up }
  flash := { State.reset.flash with signKeys := Vector.replicate 8 (p256x, p256y) }
  load := { State.reset.load with op := .full 0 true, stream := zeroStream, header := true, pairs := [resetPair] } }

theorem hdrFrames_zeroStream : hdrFrames zeroStream = 0 := by decide +kernel

theorem length_zeroStream : zeroStream.length = 192 := by decide +kernel

theorem trailerCode_zeroStream : resetByPair.trailerCode zeroStream 0 = 0 := by decide +kernel

/-- Refutes O47: the stream of the fallback load verifies at clock 0, but the module reset that the held pair brings about leaves no clock
of its verification. -/
theorem not_fullLoad : ¬ Obligations.FullLoad := by
  unfold Obligations.FullLoad
  intro h
  have hframes : resetByPair.load.frames = hdrFrames zeroStream := hdrFrames_zeroStream.symm
  have hlength : 192 + 256 * hdrFrames zeroStream ≤ zeroStream.length := by rw [hdrFrames_zeroStream, length_zeroStream]
  have htrailer : resetByPair.trailerCode zeroStream (256 * hdrFrames zeroStream) = 0 := by
    rw [hdrFrames_zeroStream]; exact trailerCode_zeroStream
  obtain ⟨-, hfull, -⟩ := h resetByPair 0 true false
  obtain ⟨-, -, -, -, hverified, -⟩ := hfull rfl
  obtain ⟨t, hexec, -, -, hclock, -⟩ := hverified rfl hframes hlength htrailer
  have ht : (Act.fullVerified false).run resetByPair = t := Host.Outcome.next.inj hexec
  have hlost := fullVerified_resetPair (s := resetByPair) rfl rfl hframes hlength htrailer rfl
  rw [ht, hclock] at hlost
  exact Option.some_ne_none _ hlost

end Sys2Proof.Machine
end

section
/-! Writes of the TIME block that are taken or refused (R132, R216, R218), and the pulses (R227). First what changes registers alone, then
the frame of a register write, then one lemma per case of each command. -/

namespace Sys2Proof.Machine

/-! ### What changes registers alone -/

/-- Nothing but registers has changed, and of those only what `p` names. -/
structure ChangesRegs (p : RegRef → Prop) (s t : State) : Prop where
  kept : ∀ n i j k, ¬ p ⟨n, i, j, k⟩ → t.r n i j k = s.r n i j k
  rest : t = { s with regs := t.regs }

section
variable {p : RegRef → Prop}

theorem ChangesRegs.frame : Frame (ChangesRegs p) where
  refl _ := ⟨fun _ _ _ _ _ => rfl, rfl⟩
  trans {_ _ u} h1 h2 := ⟨fun n i j k hn => (h2.kept n i j k hn).trans (h1.kept n i j k hn),
    h2.rest.trans (congrArg (fun x : State => { x with regs := u.regs }) h1.rest)⟩

theorem ChangesRegs.f_eq {s t : State} (h : ChangesRegs p s t) {f : Fld} {i j k : Nat} (hf : ¬ p ⟨f.name, i, j, k⟩) :
    t.f f i j k = s.f f i j k := congrArg f.of (h.kept f.name i j k hf)

theorem ChangesRegs.only {s t : State} (h : ChangesRegs p s t) : OnlyRegs s t := by
  have hresp : t.resp = s.resp := (congrArg State.resp h.rest :)
  rw [OnlyRegs, hresp]
  exact h.rest

theorem Act.setR_changesRegs {n : RegName} {i j k : Nat} (hp : p ⟨n, i, j, k⟩) (v : Word) : (Act.setR n v i j k).Keeps (ChangesRegs p) :=
  fun s =>
  { kept := fun _ _ _ _ hn => (Act.setR_r ..).trans (if_neg fun ⟨_, e⟩ => hn (e ▸ hp))
    rest := by
      simp only [Act.setR]
      split <;> rfl }

theorem Act.setF_changesRegs {f : Fld} {i j k : Nat} (hp : p ⟨f.name, i, j, k⟩) (v : Nat) : (Act.setF f v i j k).Keeps (ChangesRegs p) :=
  Act.keeps_look fun _ => Act.setR_changesRegs hp _

theorem Act.setB_changesRegs {f : Fld} {i j k : Nat} (hp : p ⟨f.name, i, j, k⟩) (v : Bool) :
    (Act.setB f v i j k).Keeps (ChangesRegs p) := Act.setF_changesRegs hp _

theorem Act.count_changesRegs {f : Fld} {i j k : Nat} (hp : p ⟨f.name, i, j, k⟩) (n : Nat) :
    (Act.count f n i j k).Keeps (ChangesRegs p) := Act.keeps_look fun _ => Act.setF_changesRegs hp _

/-- R132: all that the fabric's count of refused writes changes. -/
theorem Act.masterCount_changesRegs (src : Src) : (Act.masterCount src).Keeps (ChangesRegs fun r => r.name = .FAB_PORT_ERR) := by
  cases src
  case fabric d =>
    exact Act.keeps_look fun _ => Act.keeps_when ChangesRegs.frame (Act.count_changesRegs (p := fun r => r.name = .FAB_PORT_ERR) rfl 1)
  all_goals exact Act.keeps_skip ChangesRegs.frame

end

/-! ### A register write that is taken -/

theorem Act.writeTo_run {src : Src} {n : RegName} {i j k : Nat} {s : State} (h : s.takesReg src n i j k) (a : Act) :
    (Act.writeTo src n i j k a).run s = (Act.masterCount src).run (a.run s) := by
  obtain ⟨hup, hpermits⟩ := h
  simp only [Act.writeTo, Act.write, Act.reach, Act.look_run, hup, hpermits, if_true, Act.all_cons_run, Act.all_nil_run]

/-- Where the register's own rule accepts the write, nothing is counted. -/
theorem Act.writeTo_accepted {src : Src} {n : RegName} {i j k : Nat} {s : State} (h : s.takesReg src n i j k) {a : Act} {d : DWord}
    (hok : (a.run s).resp = .ok d) : (Act.writeTo src n i j k a).run s = a.run s := by
  rw [Act.writeTo_run h]
  cases src
  case fabric e => rw [Act.masterCount, Act.look_run, hok]; rfl
  all_goals rfl

/-- R218: the write is refused, and counted in TIDE.REFUSED. -/
def TideRefused (s t : State) : Prop :=
  t.resp = .error ∧ Counted F.TIDE_REFUSED_COUNT s t ∧ NamesKept [.TIDE_REFUSED, .FAB_PORT_ERR] s t ∧ OnlyRegs s t

theorem Act.writeTo_tideRefused {src : Src} {n : RegName} {i j k : Nat} {s : State} (h : s.takesReg src n i j k) {a : Act}
    (ha : a.run s = Act.tideRefuse.run s) : TideRefused s ((Act.writeTo src n i j k a).run s) := by
  rw [Act.writeTo_run h, ha]
  have hcount := Act.count_changesRegs (p := fun r => r.name = .TIDE_REFUSED) (f := F.TIDE_REFUSED_COUNT) (i := 0) (j := 0) (k := 0) rfl 1 s
  have hcounted := Act.count_f_same F.TIDE_REFUSED_COUNT 0 0 s (by decide) (by decide)
  have hmaster := Act.masterCount_changesRegs src (Act.tideRefuse.run s)
  have hresp : ((Act.masterCount src).run (Act.tideRefuse.run s)).resp = .error := congrArg State.resp hmaster.rest
  refine ⟨hresp, (hmaster.f_eq (by decide)).trans hcounted, fun n i j k hn => ?_, hmaster.rest.trans ?_⟩
  · rw [List.mem_cons, List.mem_singleton, not_or] at hn
    exact (hmaster.kept n i j k hn.2).trans (hcount.kept n i j k hn.1)
  · rw [hresp]
    exact congrArg (fun x : State => { x with resp := .error, regs := ((Act.masterCount src).run (Act.tideRefuse.run s)).regs }) hcount.rest

/-! ### RATE and CTRL -/

/-- A write of a TIME register that is taken: the register named has changed, what module time holds beside its registers, and the answer. -/
theorem ChangesRegs.accepted {l : List RegRef} {s u : State} (h : ChangesRegs (· ∈ l) s u) (x : TimeSt) (d : Resp) :
    let t : State := { u with tim := x, resp := d }
    RegsKept l s t ∧ t = { s with regs := t.regs, tim := t.tim, resp := t.resp } :=
  ⟨h.kept, congrArg (fun y : State => { y with tim := x, resp := d }) h.rest⟩

theorem unsigned_signed {w v : Nat} (hv : v < 2 ^ w) : unsigned w (signed w v) = v := by
  have hmod : (v : Int) % 2 ^ w = v := Int.emod_eq_of_lt (Int.natCast_nonneg v) (by exact_mod_cast hv)
  have hsigned : signed w v % 2 ^ w = v := by
    rw [signed, hmod]
    split
    · rw [Int.sub_emod_right, hmod]
    · exact hmod
  rw [unsigned, hsigned, Int.toNat_natCast]

/-- A field that fills its register is the register's word. -/
theorem Fld.of_full {f : Fld} (hlo : f.lo = 0) (hw : f.width = 32) (v : Word) : f.of v = v.toNat := by
  rw [Fld.of, hlo, hw, Nat.shiftRight_zero, Nat.mod_eq_of_lt v.isLt]

theorem Act.setF_full {f : Fld} (hlo : f.lo = 0) (hw : f.width = 32) (hm : f.inMask = true) (hr : RegRef.valid ⟨f.name, 0, 0, 0⟩ = true)
    (v : Word) (s : State) : ((Act.setF f v.toNat).run s).r f.name = v := by
  have hfld := Act.setF_f_same f v.toNat 0 0 0 s hr hm
  rw [State.f, Fld.of_full hlo hw, hw, Nat.mod_eq_of_lt v.isLt] at hfld
  exact BitVec.eq_of_toNat_eq hfld

theorem Act.setRate_run (v : Word) (s : State) : ∃ x,
    (Act.setRate (signed 32 v.toNat)).run s = { (Act.setF F.TIME_RATE_RATE v.toNat).run s with tim := x } := by
  rw [Act.setRate, unsigned_signed v.isLt]
  exact ⟨_, rfl⟩

theorem Act.timeRateWrite_run (v : Word) (s : State) : (Act.timeRateWrite v).run s =
    (if s.mode disciplined = true ∨ 5242880 < (signed 32 v.toNat).natAbs then Act.tideRefuse
      else .all [.setRate (signed 32 v.toNat), .accept]).run s := rfl

/-- R216, R218: outside DISCIPLINED, a RATE within its bounds is taken. -/
theorem timeRateWrite_taken {s : State} {src : Src} {v : Word} (htakes : s.takesReg src .TIME_RATE) (hmode : s.mode disciplined = false)
    (hrate : (signed 32 v.toNat).natAbs ≤ 5242880) : Answers (.timeRateWrite src v) s fun t =>
      t.resp = .ok 0 ∧ t.r .TIME_RATE = v ∧ t.clockStep = Config.clockUnits + signed 32 v.toNat ∧
      RegsKept [⟨.TIME_RATE, 0, 0, 0⟩] s t ∧ t = { s with regs := t.regs, tim := t.tim, resp := t.resp } := by
  have hrun : (Act.timeRateWrite v).run s = (Act.all [.setRate (signed 32 v.toNat), .accept]).run s := by
    rw [Act.timeRateWrite_run, hmode, if_neg (not_or.mpr ⟨Bool.false_ne_true, Nat.not_lt.mpr hrate⟩)]
  have honly := Act.setF_changesRegs (p := (· ∈ [(⟨.TIME_RATE, 0, 0, 0⟩ : RegRef)])) (f := F.TIME_RATE_RATE)
    (List.mem_singleton.mpr rfl) v.toNat s
  have hword := Act.setF_full (f := F.TIME_RATE_RATE) rfl rfl (by decide) (by decide) v s
  obtain ⟨x, hset⟩ := Act.setRate_run v s
  refine ⟨_, rfl, ?_⟩
  rw [Act.writeTo_accepted htakes (by rw [hrun]; rfl), hrun, Act.all_cons_run, hset]
  refine ⟨rfl, hword, ?_, honly.accepted x (.ok 0)⟩
  have hfld := (congrArg F.TIME_RATE_RATE.of hword).trans (Fld.of_full rfl rfl v)
  exact congrArg (fun n : Nat => (Config.clockUnits : Int) + signed 32 n) hfld

theorem timeRateWrite_refused {s : State} {src : Src} {v : Word} (htakes : s.takesReg src .TIME_RATE)
    (h : s.mode disciplined = true ∨ 5242880 < (signed 32 v.toNat).natAbs) : Answers (.timeRateWrite src v) s (TideRefused s) :=
  ⟨_, rfl, Act.writeTo_tideRefused htakes (by rw [Act.timeRateWrite_run, if_pos h])⟩

theorem timeCtrlWrite_taken {s : State} {src : Src} {v : Word} (htakes : s.takesReg src .TIME_CTRL) (hbw : F.TIME_CTRL_BW.of v ≠ 3)
    (hthresh : F.TIME_CTRL_STEP_THRESH.of v ≠ 0) : Answers (.timeCtrlWrite src v) s fun t =>
      t.resp = .ok 0 ∧ t.r .TIME_CTRL = v &&& RegName.mask .TIME_CTRL ∧
      (F.TIME_CTRL_PPS_OUT_EN.of v = 0 → t.tim.pps = false) ∧ (F.TIME_CTRL_PPS_OUT_EN.of v = 1 → t.tim = s.tim) ∧
      RegsKept [⟨.TIME_CTRL, 0, 0, 0⟩] s t ∧ t = { s with regs := t.regs, tim := t.tim, resp := t.resp } := by
  have hrun : Act.timeCtrl v = .all [.setR .TIME_CTRL v, .when (F.TIME_CTRL_PPS_OUT_EN.of v == 0) .ppsLow, .accept] :=
    if_neg (not_or.mpr ⟨hbw, hthresh⟩)
  have honly := Act.setR_changesRegs (p := (· ∈ [(⟨.TIME_CTRL, 0, 0, 0⟩ : RegRef)])) (List.mem_singleton.mpr rfl) v s
  have hword := Act.setR_r_same .TIME_CTRL v 0 0 0 s (by decide)
  refine ⟨_, rfl, ?_⟩
  rw [Act.writeTo_accepted htakes (by rw [hrun]; rfl), hrun, Act.all_cons_run, Act.all_cons_run, Act.all_cons_run, Act.all_nil_run]
  by_cases hoff : F.TIME_CTRL_PPS_OUT_EN.of v = 0
  · rw [hoff]
    exact ⟨rfl, hword, fun _ => rfl, fun h => absurd h (by decide), honly.accepted _ _⟩
  · rw [beq_false_of_ne hoff]
    exact ⟨rfl, hword, fun h => absurd h hoff, fun _ => (congrArg State.tim honly.rest :), honly.accepted _ _⟩

theorem timeCtrlWrite_refused {s : State} {src : Src} {v : Word} (htakes : s.takesReg src .TIME_CTRL)
    (h : F.TIME_CTRL_BW.of v = 3 ∨ F.TIME_CTRL_STEP_THRESH.of v = 0) : Answers (.timeCtrlWrite src v) s (TideRefused s) :=
  ⟨_, rfl, Act.writeTo_tideRefused htakes (congrArg (Act.run · s) (if_pos h))⟩

/-! ### The pulses -/

theorem ppsOutRise_answers {s : State} (hup : s.up = true) (hen : s.b F.TIME_CTRL_PPS_OUT_EN = true) (hsecond : s.tim.second = some s.clk) :
    Answers .ppsOutRise s fun t => t = { s with tim := { s.tim with pps := true, ppsEnd := s.clk + 1638400 } } := by
  refine ⟨_, rfl, ?_⟩
  rw [Act.ppsRise, Act.look_run, hup, hen, hsecond, beq_self_eq_true]
  rfl

theorem ppsOutFall_ends {s : State} (hpps : s.tim.pps = true) (hend : s.tim.ppsEnd ≤ s.clk) :
    Answers .ppsOutFall s fun t => t = { s with tim := { s.tim with pps := false } } := by
  refine ⟨_, rfl, ?_⟩
  rw [Act.ppsFall, Act.look_run, hpps, decide_eq_true hend]
  rfl

theorem ppsOutFall_waits {s : State} (hend : s.clk < s.tim.ppsEnd) : Answers .ppsOutFall s fun t => t = s := by
  refine ⟨_, rfl, ?_⟩
  rw [Act.ppsFall, Act.look_run, decide_eq_false (Nat.not_le.mpr hend), Bool.and_false, Act.when_false_run]

/-- The registers that a rising edge at S.PPS_IN may change. -/
def ppsInRegs : List RegRef := [⟨.TIME_PPS_CAP_LO, 0, 0, 0⟩, ⟨.TIME_PPS_CAP_HI, 0, 0, 0⟩, ⟨.TIME_EVENTS, 0, 0, 0⟩]

/-- R227: what a rising edge at S.PPS_IN records at `ns`. -/
def Act.ppsCapture (ns : Nat) : Act := .all [
  .setF F.TIME_PPS_CAP_LO_PPS_CAP ns, .setF F.TIME_PPS_CAP_HI_PPS_CAP (ns / 2 ^ 32), .setB F.TIME_EVENTS_PPS_IN true]

theorem Act.ppsIn_run {s : State} (hup : s.up = true) : Act.ppsIn.run s = (Act.ppsCapture s.ns).run s := by
  rw [Act.ppsIn, Act.look_run, hup, Act.when_true_run, Act.ppsCapture]

theorem Act.ppsCapture_changesRegs (ns : Nat) : (Act.ppsCapture ns).Keeps (ChangesRegs (· ∈ ppsInRegs)) :=
  Act.keeps_all ChangesRegs.frame
    ⟨Act.setF_changesRegs (by decide) _, Act.setF_changesRegs (by decide) _, Act.setB_changesRegs (by decide) _⟩

theorem ppsInEdge_answers {s : State} (hup : s.up = true) : Answers .ppsInEdge s fun t =>
    t.f F.TIME_PPS_CAP_LO_PPS_CAP = s.ns % 2 ^ 32 ∧ t.f F.TIME_PPS_CAP_HI_PPS_CAP = s.ns / 2 ^ 32 ∧
    t.b F.TIME_EVENTS_PPS_IN = true ∧
    RegsKept [⟨.TIME_PPS_CAP_LO, 0, 0, 0⟩, ⟨.TIME_PPS_CAP_HI, 0, 0, 0⟩, ⟨.TIME_EVENTS, 0, 0, 0⟩] s t ∧
    t = { s with regs := t.regs, resp := t.resp } := by
  have honly := Act.ppsCapture_changesRegs s.ns s
  have hhigh : s.ns / 2 ^ 32 < 2 ^ 32 := by rw [State.ns]; omega
  refine ⟨_, rfl, ?_⟩
  rw [Act.ppsIn_run hup]
  refine ⟨?low, ?high, ?edge, honly.kept, honly.only⟩
  all_goals rw [Act.ppsCapture, Act.all_cons_run, Act.all_cons_run, Act.all_cons_run, Act.all_nil_run, Act.setB_eq]
  case low =>
    simp (disch := decide) only [Act.setF_f_spared, Act.setF_f_same]
    rfl
  case high =>
    simp (disch := decide) only [Act.setF_f_spared, Act.setF_f_same]
    exact Nat.mod_eq_of_lt hhigh
  case edge => exact Act.setB_b_same F.TIME_EVENTS_PPS_IN true 0 0 0 _ (by decide) (by decide) rfl

end Sys2Proof.Machine
end

section
/-! What trackers and time contexts do when module time steps (R217, R220, R232, R248): the registers that show them and the context
memory may change, module time and the rest of the window do not. One lemma per operation, in the order of their definitions. -/

namespace Sys2Proof.Machine

/-! ### Bytes under the stores -/

theorem Act.setByte_byte_ne (a : Nat) (v : Byte) (s : State) {b : Nat} (h : b ≠ a) : ((Act.setByte a v).run s).byte b = s.byte b := by
  simp only [Act.setByte, State.byte]
  split
  · rw [Sparse.get_set, if_neg (Ne.symm h)]
  · rfl

theorem Act.setBytes_byte_outside (n a v : Nat) (s : State) {b : Nat} (h : b < a ∨ a + n ≤ b) :
    ((Act.setBytes a v n).run s).byte b = s.byte b := by
  induction n generalizing a v s with
  | zero => rfl
  | succ n ih => rw [Act.setBytes, Act.andThen_run, ih _ _ _ (by omega), Act.setByte_byte_ne _ _ _ (by omega)]

/-! ### The frame -/

/-- The registers of the trackers and of the scheduler that a jump may change. -/
def jumpShows : List RegName := [.TRK_PHASE_LO, .TRK_PHASE_HI, .TRK_VEL, .TRK_STATUS, .TRK_JUMP_FROM_LO, .TRK_JUMP_FROM_HI,
  .TRK_JUMP_TO_LO, .TRK_JUMP_TO_HI, .TRK_JUMP_TIME_LO, .TRK_JUMP_TIME_HI, .TRK_JUMP_CAUSE, .SCHED_TRK_EXTREME_LO,
  .SCHED_TRK_EXTREME_HI, .SCHED_TRK_CFG]

/-- Module time, the registers of others and the bytes outside the context memory (R242) are the same. -/
structure JumpsAlone (s t : State) : Prop where
  time : t.time = s.time
  kept : NamesKept jumpShows s t
  bytes : ∀ a, (a < 0x400000 ∨ 0x440000 ≤ a) → t.byte a = s.byte a

theorem JumpsAlone.frame : Frame JumpsAlone where
  refl _ := ⟨rfl, fun _ _ _ _ _ => rfl, fun _ _ => rfl⟩
  trans h1 h2 := ⟨h2.time.trans h1.time, fun n i j k hn => (h2.kept n i j k hn).trans (h1.kept n i j k hn),
    fun a ha => (h2.bytes a ha).trans (h1.bytes a ha)⟩

theorem JumpsAlone.of_eq {s t : State} (htime : t.time = s.time) (hregs : t.regs = s.regs) (hmem : t.mem = s.mem) : JumpsAlone s t where
  time := htime
  kept n i j k _ := by rw [State.r_eq, State.r_eq, hregs]
  bytes a _ := congrArg (Sparse.get memDefault · a) hmem

theorem Act.setF_jumpsAlone {f : Fld} (hf : f.name ∈ jumpShows) {v i j k : Nat} : (Act.setF f v i j k).Keeps JumpsAlone := fun s =>
  { time := Act.setF_time f v i j k s
    kept := fun n i' j' k' hn => Act.setF_r_ne f v i j k n i' j' k' s fun e => hn (e ▸ hf)
    bytes := fun a _ => congrArg (Sparse.get memDefault · a) (Act.setF_mem f v i j k s) }

theorem Act.setB_jumpsAlone {f : Fld} (hf : f.name ∈ jumpShows) {v : Bool} {i j k : Nat} : (Act.setB f v i j k).Keeps JumpsAlone :=
  Act.setF_jumpsAlone hf

theorem Act.setSched_jumpsAlone {x : SchedSt → SchedSt} : (Act.setSched x).Keeps JumpsAlone := fun _ => .of_eq rfl rfl rfl

theorem Act.setEng_jumpsAlone {e : Eng} {x : EngSt → EngSt} : (Act.setEng e x).Keeps JumpsAlone := fun _ => .of_eq rfl rfl rfl

theorem Act.setTrk_jumpsAlone {k : Trk} {x : TrkSt → TrkSt} : (Act.setTrk k x).Keeps JumpsAlone := fun _ => .of_eq rfl rfl rfl

theorem Act.keeps_each_mem {P : State → State → Prop} (hP : Frame P) {α : Type} {l : List α} {f : α → Act}
    (hf : ∀ x ∈ l, (f x).Keeps P) : (Act.each l f).Keeps P :=
  Act.keeps_all hP (List.forall_iff_forall_mem.mpr (List.forall_mem_map.mpr hf))

theorem Act.keeps_ite {P : State → State → Prop} {c : Prop} [Decidable c] {a b : Act} (ha : a.Keeps P) (hb : b.Keeps P) :
    (if c then a else b).Keeps P := by
  split
  · exact ha
  · exact hb

/-! ### Contexts -/

theorem lt_of_mem_armedCtx {s : State} {x : Nat} (h : x ∈ s.armedCtx) : x < 16384 := by
  obtain ⟨c, -, hc⟩ := List.mem_filterMap.mp h
  split at hc
  · injection hc with hx; omega
  · contradiction

theorem lt_of_mem_armedOn {s : State} {src x : Nat} (h : x ∈ s.armedOn src) : x < 16384 := lt_of_mem_armedCtx (List.mem_of_mem_filter h)

theorem Act.makeDecision_jumpsAlone {x outcome count due : Nat} : (Act.makeDecision x outcome count due).Keeps JumpsAlone :=
  Act.keeps_look fun _ => Act.keeps_ite Act.setSched_jumpsAlone <| Act.keeps_ite Act.setSched_jumpsAlone <|
    Act.keeps_all JumpsAlone.frame ⟨Act.setSched_jumpsAlone,
      Act.keeps_each JumpsAlone.frame _ fun _ => Act.keeps_when JumpsAlone.frame Act.setEng_jumpsAlone⟩

theorem Act.ctxForget_jumpsAlone {x : Nat} : (Act.ctxForget x).Keeps JumpsAlone := Act.setSched_jumpsAlone

section
variable {x : Nat} (hx : x < 16384)
include hx

/-- R242: the sixteen bytes of a context lie in the context memory. -/
theorem Act.setBytes_ctx_jumpsAlone {o n : Nat} {v : Nat} (ho : o + n ≤ 16) : (Act.setBytes (ctxOffset x + o) v n).Keeps JumpsAlone :=
  fun s =>
  { time := Act.setBytes_time n _ v s
    kept := fun n' i j k _ => by rw [State.r_eq, State.r_eq, Act.setBytes_regs]
    bytes := fun a ha => Act.setBytes_byte_outside n _ v s (by rw [ctxOffset]; omega) }

theorem Act.ctxClear_jumpsAlone : (Act.ctxClear x).Keeps JumpsAlone := Act.keeps_look fun s => fun t =>
  { time := Act.setByte_time _ _ t
    kept := fun n i j k _ => by rw [State.r_eq, State.r_eq, Act.setByte_regs]
    bytes := fun a ha => Act.setByte_byte_ne _ _ t (by rw [ctxOffset]; omega) }

theorem Act.setTarget_jumpsAlone {t : Int} : (Act.setTarget x t).Keeps JumpsAlone := Act.setBytes_ctx_jumpsAlone hx (o := 0) (by decide)

theorem Act.ctxHit_jumpsAlone {nm nj : Nat} {included : Bool} : (Act.ctxHit x nm nj included).Keeps JumpsAlone :=
  have hmade : ∀ {c n outcome due}, (Act.when c (.makeDecision x outcome n due)).Keeps JumpsAlone :=
    Act.keeps_when JumpsAlone.frame Act.makeDecision_jumpsAlone
  Act.keeps_look fun _ => Act.keeps_ite (Act.keeps_when JumpsAlone.frame (Act.ctxClear_jumpsAlone hx)) <|
    Act.keeps_ite hmade <| Act.keeps_all JumpsAlone.frame ⟨Act.makeDecision_jumpsAlone, hmade⟩

theorem Act.ctxAhead_jumpsAlone {e : Int} {reverse : Bool} : (Act.ctxAhead x e reverse).Keeps JumpsAlone :=
  Act.keeps_look fun _ => Act.keeps_when JumpsAlone.frame (Act.setTarget_jumpsAlone hx)

theorem Act.ctxSpan_jumpsAlone {a b : Int} {reverse jumped : Bool} : (Act.ctxSpan x a b reverse jumped).Keeps JumpsAlone :=
  Act.keeps_look fun _ => Act.keeps_when JumpsAlone.frame <| Act.keeps_ite
    (Act.keeps_all JumpsAlone.frame
      ⟨Act.setTarget_jumpsAlone hx, Act.setSched_jumpsAlone, Act.ctxHit_jumpsAlone hx, Act.ctxAhead_jumpsAlone hx⟩)
    (Act.keeps_all JumpsAlone.frame ⟨Act.ctxHit_jumpsAlone hx, Act.ctxAhead_jumpsAlone hx⟩)

theorem Act.timeJudge_jumpsAlone {m j : Int} : (Act.timeJudge x m j).Keeps JumpsAlone :=
  Act.keeps_look fun _ => Act.keeps_when JumpsAlone.frame
    (Act.keeps_all JumpsAlone.frame ⟨Act.ctxHit_jumpsAlone hx, Act.ctxAhead_jumpsAlone hx⟩)

theorem Act.armJudge_jumpsAlone {e : Int} {reverse : Bool} : (Act.armJudge x e reverse).Keeps JumpsAlone :=
  Act.keeps_look fun _ => Act.keeps_andThen JumpsAlone.frame Act.ctxForget_jumpsAlone <| Act.keeps_all JumpsAlone.frame
    ⟨Act.keeps_when JumpsAlone.frame (Act.ctxHit_jumpsAlone hx), Act.keeps_when JumpsAlone.frame (Act.ctxAhead_jumpsAlone hx)⟩

end

/-! ### The scheduler's view of a tracker -/

theorem lt_of_mem_judgedOn {s : State} {k x : Nat} (h : x ∈ s.judgedOn k) : x < 16384 := lt_of_mem_armedOn (List.mem_of_mem_filter h)

theorem Act.span_jumpsAlone {k : Nat} {a b : Int} {reverse jumped : Bool} : (Act.span k a b reverse jumped).Keeps JumpsAlone :=
  Act.keeps_look fun _ => Act.keeps_each_mem JumpsAlone.frame fun _ h => Act.ctxSpan_jumpsAlone (lt_of_mem_judgedOn h)

theorem Act.setExtreme_jumpsAlone {k : Nat} {e : Int} : (Act.setExtreme k e).Keeps JumpsAlone :=
  Act.keeps_all JumpsAlone.frame ⟨Act.setF_jumpsAlone (by decide), Act.setF_jumpsAlone (by decide)⟩

theorem Act.schedMove_jumpsAlone {k : Nat} {p : Int} {jumped : Bool} : (Act.schedMove k p jumped).Keeps JumpsAlone := by
  have hband : ∀ v, (Act.setB F.SCHED_TRK_CFG_IN_BAND v k).Keeps JumpsAlone := fun _ => Act.setB_jumpsAlone (by decide)
  refine Act.keeps_look fun s => Act.keeps_ite ?forward (Act.keeps_ite ?back (Act.keeps_when JumpsAlone.frame (hband true)))
  case forward => exact Act.keeps_all JumpsAlone.frame ⟨Act.span_jumpsAlone, Act.setExtreme_jumpsAlone, hband false⟩
  case back =>
    exact Act.keeps_all JumpsAlone.frame ⟨Act.setB_jumpsAlone (by decide),
      Act.keeps_ite Act.span_jumpsAlone (Act.keeps_all JumpsAlone.frame ⟨Act.span_jumpsAlone, Act.span_jumpsAlone⟩),
      Act.keeps_each_mem JumpsAlone.frame fun _ h => Act.ctxAhead_jumpsAlone (lt_of_mem_judgedOn h), Act.setExtreme_jumpsAlone,
      hband false⟩

theorem Act.judgeFresh_jumpsAlone {k : Nat} {p : Int} : (Act.judgeFresh k p).Keeps JumpsAlone := by
  refine Act.keeps_look fun s => Act.keeps_each_mem JumpsAlone.frame fun x h => Act.keeps_look fun t => ?_
  have hx := lt_of_mem_armedOn (List.mem_of_mem_filter h)
  dsimp only
  split
  · exact Act.keeps_all JumpsAlone.frame
      ⟨Act.armJudge_jumpsAlone hx, Act.ctxSpan_jumpsAlone hx, Act.ctxAhead_jumpsAlone hx⟩
  · exact Act.armJudge_jumpsAlone hx

theorem Act.schedJump_jumpsAlone {k : Fin 4} {f t : Int} : (Act.schedJump k f t).Keeps JumpsAlone :=
  Act.keeps_look fun _ => Act.keeps_when JumpsAlone.frame (Act.keeps_all JumpsAlone.frame
    ⟨Act.schedMove_jumpsAlone, Act.judgeFresh_jumpsAlone, Act.schedMove_jumpsAlone⟩)

theorem Act.schedTimeStep_jumpsAlone {old new : Nat} : (Act.schedTimeStep old new).Keeps JumpsAlone :=
  Act.keeps_look fun _ => Act.keeps_when JumpsAlone.frame <| Act.keeps_each_mem JumpsAlone.frame fun _ h => Act.keeps_look fun _ =>
    Act.keeps_ite (Act.keeps_skip JumpsAlone.frame) (Act.timeJudge_jumpsAlone (lt_of_mem_armedOn h))

/-! ### Trackers -/

theorem Act.setPhase_jumpsAlone {k : Trk} {p : Int} : (Act.setPhase k p).Keeps JumpsAlone :=
  Act.keeps_all JumpsAlone.frame ⟨Act.setF_jumpsAlone (by decide), Act.setF_jumpsAlone (by decide)⟩

theorem Act.setVel_jumpsAlone {k : Trk} {v : Int} : (Act.setVel k v).Keeps JumpsAlone :=
  Act.keeps_all JumpsAlone.frame ⟨Act.setF_jumpsAlone (by decide), Act.setB_jumpsAlone (by decide)⟩

theorem Act.trkPresent_jumpsAlone {k : Trk} : (Act.trkPresent k).Keeps JumpsAlone :=
  Act.keeps_look fun _ => Act.keeps_ite (Act.keeps_skip JumpsAlone.frame) <| Act.keeps_ite Act.setVel_jumpsAlone <|
    Act.keeps_ite (Act.keeps_all JumpsAlone.frame ⟨Act.setPhase_jumpsAlone, Act.setVel_jumpsAlone⟩) <|
    Act.keeps_all JumpsAlone.frame ⟨Act.setPhase_jumpsAlone, Act.setVel_jumpsAlone,
      Act.keeps_when JumpsAlone.frame (Act.setB_jumpsAlone (by decide))⟩

theorem Act.pushSeg_jumpsAlone {k : Trk} {t before phase vel : Int} {home : Bool} :
    (Act.pushSeg k t before phase vel home).Keeps JumpsAlone := Act.keeps_look fun _ => Act.setTrk_jumpsAlone

theorem Act.trkJump_jumpsAlone {k : Trk} {cause : Nat} {f t at_ before : Int} {count : Bool} :
    (Act.trkJump k cause f t at_ before count).Keeps JumpsAlone :=
  have hset : ∀ {g : Fld}, g.name ∈ jumpShows → ∀ v, (Act.setF g v k).Keeps JumpsAlone := fun hg _ => Act.setF_jumpsAlone hg
  Act.keeps_all JumpsAlone.frame ⟨hset (by decide) _, hset (by decide) _, hset (by decide) _, hset (by decide) _, hset (by decide) _,
    hset (by decide) _, hset (by decide) cause, Act.setB_jumpsAlone (by decide),
    Act.keeps_when JumpsAlone.frame (Act.keeps_look fun _ => hset (by decide) _), Act.trkPresent_jumpsAlone,
    Act.keeps_look fun _ => Act.schedJump_jumpsAlone⟩

theorem Act.trkTimeStep_jumpsAlone {before : Vector Int 4} : (Act.trkTimeStep before).Keeps JumpsAlone :=
  Act.keeps_each JumpsAlone.frame _ fun _ => Act.keeps_look fun _ => Act.keeps_when JumpsAlone.frame <| Act.keeps_all JumpsAlone.frame
    ⟨Act.pushSeg_jumpsAlone, Act.keeps_when JumpsAlone.frame Act.trkJump_jumpsAlone⟩

end Sys2Proof.Machine
end

section
/-! A write of TIME.STEP_HI (R217, R218): the record of the step, then the jump of what follows module time. Then the statement itself. -/

namespace Sys2Proof.Machine

/-- R217: module time takes the value `time`; LAST_STEP, STEP_STAMP and EVENTS record the step by `d`. -/
def Act.stepRecord (d : Int) (time : Nat) : Act := .all [
  .upd fun s => { s with time := time }, .anchor,
  .setF F.TIME_LAST_STEP_LO_LAST_STEP (unsigned 64 d), .setF F.TIME_LAST_STEP_HI_LAST_STEP (unsigned 64 d / 2 ^ 32),
  .setF F.TIME_STEP_STAMP_LO_STEP_STAMP (time / 4294967296), .setF F.TIME_STEP_STAMP_HI_STEP_STAMP (time / 4294967296 / 2 ^ 32),
  .setB F.TIME_EVENTS_STEPPED true, .count F.TIME_EVENTS_STEPS]

/-- R217: module time after a step by `d`. -/
def State.timeAfter (s : State) (d : Int) : Nat := (((s.time : Int) + d * 4294967296) % (79228162514264337593543950336 : Int)).toNat

theorem Act.timeStep_run (d : Int) (s : State) : (Act.timeStep d).run s =
    (Act.schedTimeStep s.ns (s.timeAfter d / 4294967296)).run
      ((Act.trkTimeStep s.timePhases).run ((Act.stepRecord d (s.timeAfter d)).run s)) := by
  simp only [Act.timeStep, Act.stepRecord, Act.look_run, Act.all_cons_run, Act.all_nil_run, State.timeAfter]

/-- What follows the record of a step is the jump of the trackers and of the time contexts. -/
theorem Act.timeStep_jumpsAlone (d : Int) (s : State) :
    JumpsAlone ((Act.stepRecord d (s.timeAfter d)).run s) ((Act.timeStep d).run s) := by
  rw [Act.timeStep_run]
  exact JumpsAlone.frame.trans (Act.trkTimeStep_jumpsAlone _) (Act.schedTimeStep_jumpsAlone _)

/-- What the record of a step by `d` to the module time `now` says, and what it leaves alone. -/
structure StepRecorded (d : Int) (now : Nat) (s t : State) : Prop where
  time : t.time = now
  lastLo : t.f F.TIME_LAST_STEP_LO_LAST_STEP = unsigned 64 d % 2 ^ 32
  lastHi : t.f F.TIME_LAST_STEP_HI_LAST_STEP = unsigned 64 d / 2 ^ 32 % 2 ^ 32
  stampLo : t.f F.TIME_STEP_STAMP_LO_STEP_STAMP = now / 4294967296 % 2 ^ 32
  stampHi : t.f F.TIME_STEP_STAMP_HI_STEP_STAMP = now / 4294967296 / 2 ^ 32 % 2 ^ 32
  stepped : t.b F.TIME_EVENTS_STEPPED = true
  counted : Counted F.TIME_EVENTS_STEPS s t
  rate : t.r .TIME_RATE = s.r .TIME_RATE
  bytes : BytesKept s t

theorem Act.stepRecord_recorded (d : Int) (now : Nat) (s : State) : StepRecorded d now s ((Act.stepRecord d now).run s) := by
  simp only [Act.stepRecord, Act.all_cons_run, Act.all_nil_run, Act.upd_run, Act.anchor, Act.look_run, Act.setB_eq]
  constructor
  case time => simp only [Act.count_time, Act.setF_time, Act.setTim_time]
  case stepped =>
    simp (disch := decide) only [State.b, Act.count_run, Act.setF_f_spared, Act.setF_f_same]
    rfl
  case counted =>
    rw [Counted, Act.count_f_same _ _ _ _ (by decide) (by decide)]
    simp (disch := decide) only [Act.setF_f_spared]
    rfl
  case rate =>
    simp (disch := decide) only [Act.count_run, Act.setF_r_ne, Act.setTim_r]
    rfl
  case bytes =>
    intro a
    simp only [State.byte, Act.count_mem, Act.setF_mem, Act.setTim_mem]
  all_goals -- LAST_STEP and STEP_STAMP: each field was stored, and what was stored after it spares it
    simp (disch := decide) only [Act.count_run, Act.setF_f_spared, Act.setF_f_same]
    rfl

/-- R217: the time after a step lies in the 96 bits of module time, of which 64 count nanoseconds. -/
theorem timeAfter_cast (s : State) (d : Int) : (s.timeAfter d : Int) = ((s.time : Int) + d * 2 ^ 32) % 2 ^ 96 :=
  Int.toNat_of_nonneg (Int.emod_nonneg _ (by decide))

theorem timeAfter_lt (s : State) (d : Int) : s.timeAfter d < 2 ^ 96 := by
  have hlt : (s.timeAfter d : Int) < 2 ^ 96 := timeAfter_cast s d ▸ Int.emod_lt_of_pos _ (by decide)
  exact_mod_cast hlt

theorem ns_eq_of_time {t : State} {now : Nat} (htime : t.time = now) (hnow : now < 2 ^ 96) : t.ns = now / 4294967296 := by
  rw [State.ns, htime]
  omega

/-- R218: the step that a write of STEP_HI applies. -/
def State.writtenStep (s : State) (v : Word) : Int := signed 64 (s.f F.TIME_STEP_LO_STEP + 2 ^ 32 * v.toNat)

theorem Act.timeStepWrite_taken_run {s : State} (hmode : s.mode disciplined = false) (v : Word) :
    (Act.timeStepWrite v).run s = { (Act.timeStep (s.writtenStep v)).run s with resp := .ok 0 } := by
  rw [Act.timeStepWrite, Act.look_run, if_neg (by rw [hmode]; exact Bool.false_ne_true), Act.all_cons_run, Act.all_cons_run, Act.all_nil_run,
    Act.accept, Act.answer_run, State.writtenStep]

theorem timeStepWrite_taken {s : State} {src : Src} {v : Word} (htakes : s.takesReg src .TIME_STEP_HI) (hmode : s.mode disciplined = false) :
    Answers (.timeStepWrite src v) s fun t =>
      let d := signed 64 (s.f F.TIME_STEP_LO_STEP + 2 ^ 32 * v.toNat)
      t.resp = .ok 0 ∧ (t.time : Int) = ((s.time : Int) + d * 2 ^ 32) % 2 ^ 96 ∧
      t.f F.TIME_LAST_STEP_LO_LAST_STEP = unsigned 64 d % 2 ^ 32 ∧ t.f F.TIME_LAST_STEP_HI_LAST_STEP = unsigned 64 d / 2 ^ 32 ∧
      t.f F.TIME_STEP_STAMP_LO_STEP_STAMP = t.ns % 2 ^ 32 ∧ t.f F.TIME_STEP_STAMP_HI_STEP_STAMP = t.ns / 2 ^ 32 ∧
      t.b F.TIME_EVENTS_STEPPED = true ∧ Counted F.TIME_EVENTS_STEPS s t ∧ t.r .TIME_RATE = s.r .TIME_RATE ∧
      ∀ a, (a < 0x400000 ∨ 0x440000 ≤ a) → t.byte a = s.byte a := by
  have hrun := Act.timeStepWrite_taken_run hmode v
  have hd : s.writtenStep v = signed 64 (s.f F.TIME_STEP_LO_STEP + 2 ^ 32 * v.toNat) := rfl
  rw [← hd]
  generalize s.writtenStep v = d at hrun
  have hrec := Act.stepRecord_recorded d (s.timeAfter d) s
  have hjump := Act.timeStep_jumpsAlone d s
  refine ⟨_, rfl, ?_⟩
  rw [Act.writeTo_accepted htakes (by rw [hrun]), hrun]
  generalize (Act.timeStep d).run s = t at hjump
  have hfld : ∀ {f : Fld}, f.name ∉ jumpShows → t.f f = ((Act.stepRecord d (s.timeAfter d)).run s).f f :=
    fun hf => hjump.kept.f_eq hf 0 0 0
  have hns : t.ns = s.timeAfter d / 4294967296 := ns_eq_of_time (hjump.time.trans hrec.time) (timeAfter_lt s d)
  have hhigh : t.ns / 2 ^ 32 < 2 ^ 32 := by rw [State.ns]; omega
  have hlast : unsigned 64 d / 2 ^ 32 < 2 ^ 32 := by rw [unsigned]; omega
  refine ⟨rfl, ?time, ?lastLo, ?lastHi, ?stampLo, ?stampHi, ?stepped, ?counted, ?rate, ?bytes⟩
  case time => exact (congrArg Nat.cast (hjump.time.trans hrec.time)).trans (timeAfter_cast s d)
  case lastLo => exact (hfld (by decide)).trans hrec.lastLo
  case lastHi => exact ((hfld (by decide)).trans hrec.lastHi).trans (Nat.mod_eq_of_lt hlast)
  case stampLo => exact ((hfld (by decide)).trans hrec.stampLo).trans (by rw [← hns]; rfl)
  case stampHi => exact ((hfld (by decide)).trans hrec.stampHi).trans (by rw [← hns]; exact Nat.mod_eq_of_lt hhigh)
  case stepped => exact (congrArg (· == 1) (hfld (f := F.TIME_EVENTS_STEPPED) (by decide))).trans hrec.stepped
  case counted => exact (hfld (by decide)).trans hrec.counted
  case rate => exact (hjump.kept .TIME_RATE 0 0 0 (by decide)).trans hrec.rate
  case bytes => exact fun a ha => (hjump.bytes a ha).trans (hrec.bytes a)

theorem timeStepWrite_refused {s : State} {src : Src} {v : Word} (htakes : s.takesReg src .TIME_STEP_HI)
    (hmode : s.mode disciplined = true) : Answers (.timeStepWrite src v) s (TideRefused s) :=
  ⟨_, rfl, Act.writeTo_tideRefused htakes (by rw [Act.timeStepWrite, Act.look_run, if_pos hmode])⟩

/-- Settles O37: each command of module time by the lemma about its case. -/
theorem moduleTime : Obligations.ModuleTime := by
  unfold Obligations.ModuleTime
  intro s src v
  exact ⟨timeStepWrite_taken, timeStepWrite_refused, timeRateWrite_taken, timeRateWrite_refused, timeCtrlWrite_taken,
    timeCtrlWrite_refused, ppsOutRise_answers, ppsOutFall_ends, ppsOutFall_waits, ppsInEdge_answers⟩

end Sys2Proof.Machine
end

section
-- One proof after another: elaborated side by side, the proofs of the whole text do not fit in the check's memory.
set_option Elab.async false
/-! The block as a whole (R11, R81): a step takes the command in front of the queue, and whatever command it takes, the stores keep their
canonical form. -/

namespace Sys2Proof.Machine

/-- Settles O58: `step` is a match on the queue. -/
theorem stepRunsFront : Obligations.StepRunsFront := by
  unfold Obligations.StepRunsFront
  intro s c rest h
  rw [step, h]

/-- Settles O59: the stores are empty, so that every read gives what an unlisted key reads as. -/
theorem resetState : Obligations.ResetState := by
  unfold Obligations.ResetState
  exact ⟨⟨rfl, rfl, rfl⟩, rfl, rfl, fun _ _ _ _ => rfl, fun _ => rfl, rfl, rfl⟩

/-- A command that is an action leaves the state as good as every action does. -/
theorem Act.good_of_done {a : Act} {s t : State} (h : a.done s = .next t) : Good s t :=
  Host.Outcome.next.inj h ▸ a.good s

/-- Every command that answers a next state is an action. -/
theorem exec_good {c : Instr} {s t : State} (h : exec c s = .next t) : Good s t := by
  cases c
  case vinHighRise mv =>
    by_cases hmv : 100000 < mv
    · rw [exec, execVinHighRise, if_pos hmv] at h
      contradiction
    · rw [exec, execVinHighRise, if_neg hmv] at h
      exact Act.good_of_done h
  all_goals exact Act.good_of_done h

theorem step_keeps_wf {s t : State} (hs : s.Wf) (h : s.steps t) : t.Wf := by
  rw [State.steps, step] at h
  split at h
  · exact (Act.good_of_done h).1 hs
  · exact (exec_good h).1 hs

/-- R11: in a canonical register file a register has no reserved bit set: an entry is checked, and no reset word sets one. -/
theorem Sparse.get_ok {κ β : Type} [DecidableEq κ] [DecidableEq β] {code : κ → Nat} {d : κ → β} {ok : κ → β → Bool} {l : List (κ × β)}
    (hl : Sparse.wf code d ok l = true) {k : κ} (hd : ok k (d k) = true) : ok k (Sparse.get d l k) = true := by
  induction l with
  | nil => exact hd
  | cons e l ih =>
    rw [Sparse.get]
    split
    · next hk => exact hk ▸ (Sparse.wf_head code d ok e l hl).1
    · exact ih (Sparse.wf_tail code d ok e l hl)

theorem RegName.reset_reserved (n : RegName) : n.reset &&& ~~~n.mask = 0 := by
  cases n <;> decide

theorem State.Wf.reserved {s : State} (hs : s.Wf) {n : RegName} {i j k : Nat} (hv : RegRef.valid ⟨n, i, j, k⟩ = true) :
    s.r n i j k &&& ~~~n.mask = 0 := by
  have hreset : RegRef.okWord ⟨n, i, j, k⟩ (RegRef.resetWord ⟨n, i, j, k⟩) = true := by
    rw [RegRef.okWord, hv, Bool.true_and]
    exact decide_eq_true n.reset_reserved
  have hok := Sparse.get_ok hs.1 hreset
  rw [RegRef.okWord, hv, Bool.true_and] at hok
  exact of_decide_eq_true hok

/-- Settles O60: every step is an action, which keeps the stores canonical, and a canonical register file holds no reserved bit. -/
theorem stepKeepsSafe : Obligations.StepKeepsSafe := by
  unfold Obligations.StepKeepsSafe
  intro s t hs hst
  have ht := step_keeps_wf hs hst
  exact ⟨ht, fun _ _ _ _ hv => ht.reserved hv⟩

end Sys2Proof.Machine
end

section
-- One proof after another: elaborated side by side, the proofs of the whole text do not fit in the check's memory.
set_option Elab.async false
/-! What an action may change: the registers named, the register instances listed, and the parts of the state listed. One rule for each
primitive action and each way to combine actions, so that the footprint of a function of the model is read off its definition. -/

namespace Sys2Proof.Machine

/-- An instance of a register exists where its numbers lie below the register's. -/
theorem RegRef.valid_of {n : RegName} {i j k : Nat} (hi : i < n.row.n1) (hj : j < n.row.n2 := by decide) (hk : k < n.row.n3 := by decide) :
    RegRef.valid ⟨n, i, j, k⟩ = true := by
  simp only [RegRef.valid, hi, hj, hk, decide_true, Bool.and_self]

/-! ### The parts of the state -/

/-- The parts of the state beside the queue and the registers. -/
inductive Part where
  | mem | latch | clk | time | seed | refused | resp | tx | pwr | log | harb | pins | cmps | outs | dds | mon | pol | pair | flash
  | eng | lim | sched | trk | tim | cells | mods | ovl | refs | conv | spare | cal | load | fab | rel | dma | ring | pcie
deriving DecidableEq

/-- The part is the same in both states. -/
def Part.Same (x : Part) (s t : State) : Prop :=
  match x with
  | .mem => t.mem = s.mem
  | .latch => t.latch = s.latch
  | .clk => t.clk = s.clk
  | .time => t.time = s.time
  | .seed => t.seed = s.seed
  | .refused => t.refused = s.refused
  | .resp => t.resp = s.resp
  | .tx => t.tx = s.tx
  | .pwr => t.pwr = s.pwr
  | .log => t.log = s.log
  | .harb => t.harb = s.harb
  | .pins => t.pins = s.pins
  | .cmps => t.cmps = s.cmps
  | .outs => t.outs = s.outs
  | .dds => t.dds = s.dds
  | .mon => t.mon = s.mon
  | .pol => t.pol = s.pol
  | .pair => t.pair = s.pair
  | .flash => t.flash = s.flash
  | .eng => t.eng = s.eng
  | .lim => t.lim = s.lim
  | .sched => t.sched = s.sched
  | .trk => t.trk = s.trk
  | .tim => t.tim = s.tim
  | .cells => t.cells = s.cells
  | .mods => t.mods = s.mods
  | .ovl => t.ovl = s.ovl
  | .refs => t.refs = s.refs
  | .conv => t.conv = s.conv
  | .spare => t.spare = s.spare
  | .cal => t.cal = s.cal
  | .load => t.load = s.load
  | .fab => t.fab = s.fab
  | .rel => t.rel = s.rel
  | .dma => t.dma = s.dma
  | .ring => t.ring = s.ring
  | .pcie => t.pcie = s.pcie

/-- The state `s` with the registers and the parts listed of `t`. -/
def State.withParts (ps : List Part) (s t : State) : State := { s with
  regs := t.regs
  mem := if Part.mem ∈ ps then t.mem else s.mem
  latch := if Part.latch ∈ ps then t.latch else s.latch
  clk := if Part.clk ∈ ps then t.clk else s.clk
  time := if Part.time ∈ ps then t.time else s.time
  seed := if Part.seed ∈ ps then t.seed else s.seed
  refused := if Part.refused ∈ ps then t.refused else s.refused
  resp := if Part.resp ∈ ps then t.resp else s.resp
  tx := if Part.tx ∈ ps then t.tx else s.tx
  pwr := if Part.pwr ∈ ps then t.pwr else s.pwr
  log := if Part.log ∈ ps then t.log else s.log
  harb := if Part.harb ∈ ps then t.harb else s.harb
  pins := if Part.pins ∈ ps then t.pins else s.pins
  cmps := if Part.cmps ∈ ps then t.cmps else s.cmps
  outs := if Part.outs ∈ ps then t.outs else s.outs
  dds := if Part.dds ∈ ps then t.dds else s.dds
  mon := if Part.mon ∈ ps then t.mon else s.mon
  pol := if Part.pol ∈ ps then t.pol else s.pol
  pair := if Part.pair ∈ ps then t.pair else s.pair
  flash := if Part.flash ∈ ps then t.flash else s.flash
  eng := if Part.eng ∈ ps then t.eng else s.eng
  lim := if Part.lim ∈ ps then t.lim else s.lim
  sched := if Part.sched ∈ ps then t.sched else s.sched
  trk := if Part.trk ∈ ps then t.trk else s.trk
  tim := if Part.tim ∈ ps then t.tim else s.tim
  cells := if Part.cells ∈ ps then t.cells else s.cells
  mods := if Part.mods ∈ ps then t.mods else s.mods
  ovl := if Part.ovl ∈ ps then t.ovl else s.ovl
  refs := if Part.refs ∈ ps then t.refs else s.refs
  conv := if Part.conv ∈ ps then t.conv else s.conv
  spare := if Part.spare ∈ ps then t.spare else s.spare
  cal := if Part.cal ∈ ps then t.cal else s.cal
  load := if Part.load ∈ ps then t.load else s.load
  fab := if Part.fab ∈ ps then t.fab else s.fab
  rel := if Part.rel ∈ ps then t.rel else s.rel
  dma := if Part.dma ∈ ps then t.dma else s.dma
  ring := if Part.ring ∈ ps then t.ring else s.ring
  pcie := if Part.pcie ∈ ps then t.pcie else s.pcie }

theorem Part.same_refl (x : Part) (s : State) : x.Same s s := by cases x <;> rfl

theorem Part.same_trans {x : Part} {s t u : State} (h1 : x.Same s t) (h2 : x.Same t u) : x.Same s u := by
  cases x <;> exact Eq.trans h2 h1

/-- A state that has taken over parts of another is the same in every other part. -/
theorem State.withParts_same {ps : List Part} {x : Part} (hx : x ∉ ps) (s t : State) : x.Same s (s.withParts ps t) := by
  cases x <;> exact if_neg hx

theorem eq_ite_of_kept {α : Type} {c : Prop} [Decidable c] {a b : α} (h : ¬ c → a = b) : a = if c then a else b := by
  by_cases hc : c
  · exact (if_pos hc).symm
  · rw [if_neg hc, h hc]

/-- A state whose other parts are the same has taken over nothing else. -/
theorem State.eq_withParts {ps : List Part} {s t : State} (hp : t.pending = s.pending) (h : ∀ x, x ∉ ps → x.Same s t) :
    t = s.withParts ps t := by
  obtain ⟨pending, regs, mem, latch, clk, time, seed, refused, resp, tx, pwr, log, harb, pins, cmps, outs, dds, mon, pol, pair, flash, eng, lim, sched, trk, tim, cells, mods, ovl, refs, conv, spare, cal, load, fab, rel, dma, ring, pcie⟩ := t
  rw [State.withParts, State.mk.injEq]
  exact ⟨hp, rfl, eq_ite_of_kept (h .mem), eq_ite_of_kept (h .latch), eq_ite_of_kept (h .clk), eq_ite_of_kept (h .time), eq_ite_of_kept (h .seed), eq_ite_of_kept (h .refused), eq_ite_of_kept (h .resp), eq_ite_of_kept (h .tx), eq_ite_of_kept (h .pwr), eq_ite_of_kept (h .log), eq_ite_of_kept (h .harb), eq_ite_of_kept (h .pins), eq_ite_of_kept (h .cmps), eq_ite_of_kept (h .outs), eq_ite_of_kept (h .dds), eq_ite_of_kept (h .mon), eq_ite_of_kept (h .pol), eq_ite_of_kept (h .pair), eq_ite_of_kept (h .flash), eq_ite_of_kept (h .eng), eq_ite_of_kept (h .lim), eq_ite_of_kept (h .sched), eq_ite_of_kept (h .trk), eq_ite_of_kept (h .tim), eq_ite_of_kept (h .cells), eq_ite_of_kept (h .mods), eq_ite_of_kept (h .ovl), eq_ite_of_kept (h .refs), eq_ite_of_kept (h .conv), eq_ite_of_kept (h .spare), eq_ite_of_kept (h .cal), eq_ite_of_kept (h .load), eq_ite_of_kept (h .fab), eq_ite_of_kept (h .rel), eq_ite_of_kept (h .dma), eq_ite_of_kept (h .ring), eq_ite_of_kept (h .pcie)⟩

/-! ### What a change touches -/

/-- Nothing has changed but registers with a name in `l`, the register instances in `rs` and the parts in `ps`. -/
structure Touches (l : List RegName) (rs : List RegRef) (ps : List Part) (s t : State) : Prop where
  regs : ∀ n i j k, n ∉ l → (⟨n, i, j, k⟩ : RegRef) ∉ rs → t.r n i j k = s.r n i j k
  parts : ∀ x, x ∉ ps → x.Same s t
  pending : t.pending = s.pending

section
variable {l l' : List RegName} {rs rs' : List RegRef} {ps ps' : List Part} {s t u : State}

theorem Touches.refl (s : State) : Touches l rs ps s s := ⟨fun _ _ _ _ _ _ => rfl, fun x _ => x.same_refl s, rfl⟩

theorem Touches.trans (h1 : Touches l rs ps s t) (h2 : Touches l rs ps t u) : Touches l rs ps s u :=
  ⟨fun n i j k hn hr => (h2.regs n i j k hn hr).trans (h1.regs n i j k hn hr),
    fun x hx => Part.same_trans (h1.parts x hx) (h2.parts x hx), h2.pending.trans h1.pending⟩

theorem Touches.mono (h : Touches l rs ps s t) (hl : l ⊆ l' := by decide) (hr : rs ⊆ rs' := by simp) (hp : ps ⊆ ps' := by decide) :
    Touches l' rs' ps' s t :=
  ⟨fun n i j k hn hr' => h.regs n i j k (fun h => hn (hl h)) (fun h => hr' (hr h)), fun x hx => h.parts x fun h => hx (hp h), h.pending⟩

theorem Touches.frame : Frame (Touches l rs ps) := ⟨Touches.refl, Touches.trans⟩

theorem Touches.rest (h : Touches l rs ps s t) : t = s.withParts ps t := State.eq_withParts h.pending h.parts

theorem Touches.namesKept (h : Touches l [] ps s t) : NamesKept l s t := fun n i j k hn => h.regs n i j k hn List.not_mem_nil

theorem Touches.regsKept (h : Touches [] rs ps s t) : RegsKept rs s t := fun n i j k hr => h.regs n i j k List.not_mem_nil hr

theorem Touches.r_eq (h : Touches l [] ps s t) {n : RegName} (i j k : Nat) (hn : n ∉ l := by decide) : t.r n i j k = s.r n i j k :=
  h.namesKept n i j k hn

theorem Touches.f_eq (h : Touches l [] ps s t) {f : Fld} (i j k : Nat) (hf : f.name ∉ l := by decide) : t.f f i j k = s.f f i j k :=
  congrArg f.of (h.r_eq i j k hf)

theorem Touches.b_eq (h : Touches l [] ps s t) {f : Fld} (i j k : Nat) (hf : f.name ∉ l := by decide) : t.b f i j k = s.b f i j k :=
  congrArg (· == 1) (h.f_eq i j k hf)

theorem Touches.bit_eq (h : Touches l [] ps s t) {f : Fld} (b i j k : Nat) (hf : f.name ∉ l := by decide) :
    t.bit f b i j k = s.bit f b i j k := congrArg (Nat.testBit · b) (h.f_eq i j k hf)

theorem Touches.bytesKept (h : Touches l rs ps s t) (hp : Part.mem ∉ ps := by decide) : BytesKept s t :=
  fun a => congrArg (Sparse.get memDefault · a) (h.parts .mem hp)

end

/-! ### What an action touches -/

/-- The action changes nothing but registers with a name in `l`, the register instances in `rs` and the parts in `ps`. -/
def Within (l : List RegName) (rs : List RegRef) (ps : List Part) (a : Act) : Prop := a.Keeps (Touches l rs ps)

namespace Within

section
variable {l l' : List RegName} {rs rs' : List RegRef} {ps ps' : List Part} {a b : Act}

theorem run (h : Within l rs ps a) (s : State) : Touches l rs ps s (a.run s) := h s

theorem mono (h : Within l rs ps a) (hl : l ⊆ l' := by decide) (hr : rs ⊆ rs' := by simp) (hp : ps ⊆ ps' := by decide) :
    Within l' rs' ps' a := fun s => (h s).mono hl hr hp

theorem skip : Within l rs ps .skip := Act.keeps_skip Touches.frame

theorem andThen (ha : Within l rs ps a) (hb : Within l rs ps b) : Within l rs ps (a.andThen b) := Act.keeps_andThen Touches.frame ha hb

theorem all {as : List Act} (h : as.Forall (Within l rs ps)) : Within l rs ps (.all as) := Act.keeps_all Touches.frame h

theorem look {f : State → Act} (h : ∀ s, Within l rs ps (f s)) : Within l rs ps (.look f) := Act.keeps_look h

theorem when {c : Bool} (h : Within l rs ps a) : Within l rs ps (.when c a) := Act.keeps_when Touches.frame h

theorem each {α : Type} {as : List α} {f : α → Act} (h : ∀ x, Within l rs ps (f x)) : Within l rs ps (.each as f) :=
  Act.keeps_each Touches.frame as h

theorem ite {c : Prop} [Decidable c] (ha : Within l rs ps a) (hb : Within l rs ps b) : Within l rs ps (if c then a else b) :=
  Act.keeps_ite ha hb

/-- A change of parts that are listed. -/
theorem upd {f : State → State} {hf : ∀ s, Good s (f s)} (h : ∀ s, f s = s.withParts ps (f s)) (hr : ∀ s, (f s).regs = s.regs) :
    Within l rs ps (.upd f hf) := fun s =>
  { regs := fun n i j k _ _ => by rw [Act.upd_run, State.r_eq, State.r_eq, hr]
    parts := fun x hx => by rw [Act.upd_run, h s]; exact State.withParts_same hx s _
    pending := (hf s).2 }

theorem setR_of {n : RegName} {v : Word} {i j k : Nat} (h : n ∈ l ∨ (⟨n, i, j, k⟩ : RegRef) ∈ rs) : Within l rs ps (.setR n v i j k) :=
  fun s =>
  { regs := fun n' i' j' k' hn hr => by
      rw [Act.setR_r, if_neg]
      intro e
      have hname : n = n' := congrArg RegRef.name e.2
      exact h.elim (fun hl => hn (hname ▸ hl)) fun hm => hr (e.2 ▸ hm)
    parts := fun x _ => by
      simp only [Act.setR]
      split
      · cases x <;> rfl
      · exact x.same_refl s
    pending := ((Act.setR n v i j k).good s).2 }

theorem setR {n : RegName} {v : Word} {i j k : Nat} (h : n ∈ l := by decide) : Within l rs ps (.setR n v i j k) := setR_of (.inl h)

theorem setF {f : Fld} {v i j k : Nat} (h : f.name ∈ l := by decide) : Within l rs ps (.setF f v i j k) := look fun _ => setR h

theorem setB {f : Fld} {v : Bool} {i j k : Nat} (h : f.name ∈ l := by decide) : Within l rs ps (.setB f v i j k) := setF h

theorem count {f : Fld} {n i j k : Nat} (h : f.name ∈ l := by decide) : Within l rs ps (.count f n i j k) := look fun _ => setF h

theorem setBit {f : Fld} {b i j k : Nat} (h : f.name ∈ l := by decide) : Within l rs ps (.setBit f b i j k) := look fun _ => setF h

theorem clrBit {f : Fld} {b i j k : Nat} (h : f.name ∈ l := by decide) : Within l rs ps (.clrBit f b i j k) := look fun _ => setF h

theorem putBit {f : Fld} {b : Nat} {v : Bool} {i j k : Nat} (h : f.name ∈ l := by decide) : Within l rs ps (.putBit f b v i j k) :=
  Act.putBit_keeps (fun _ _ _ _ => setF h) b v i j k

/-! A rule `…At` is for an instance that is listed. -/

theorem setRAt {n : RegName} {v : Word} {i j k : Nat} (h : (⟨n, i, j, k⟩ : RegRef) ∈ rs := by simp) :
    Within l rs ps (.setR n v i j k) := setR_of (.inr h)

theorem setFAt {f : Fld} {v i j k : Nat} (h : (⟨f.name, i, j, k⟩ : RegRef) ∈ rs := by simp +decide) : Within l rs ps (.setF f v i j k) :=
  look fun _ => setRAt h

theorem setBAt {f : Fld} {v : Bool} {i j k : Nat} (h : (⟨f.name, i, j, k⟩ : RegRef) ∈ rs := by simp +decide) :
    Within l rs ps (.setB f v i j k) := setFAt h

theorem countAt {f : Fld} {n i j k : Nat} (h : (⟨f.name, i, j, k⟩ : RegRef) ∈ rs := by simp +decide) :
    Within l rs ps (.count f n i j k) := look fun _ => setFAt h

theorem setBitAt {f : Fld} {b i j k : Nat} (h : (⟨f.name, i, j, k⟩ : RegRef) ∈ rs := by simp +decide) :
    Within l rs ps (.setBit f b i j k) := look fun _ => setFAt h

theorem clrBitAt {f : Fld} {b i j k : Nat} (h : (⟨f.name, i, j, k⟩ : RegRef) ∈ rs := by simp +decide) :
    Within l rs ps (.clrBit f b i j k) := look fun _ => setFAt h

theorem putBitAt {f : Fld} {b : Nat} {v : Bool} {i j k : Nat} (h : (⟨f.name, i, j, k⟩ : RegRef) ∈ rs := by simp +decide) :
    Within l rs ps (.putBit f b v i j k) := by
  cases v
  · exact clrBitAt h
  · exact setBitAt h

/-- A change of one part that is listed. -/
theorem updPart (x : Part) {f : State → State} {hf : ∀ s, Good s (f s)} (h : ∀ s, f s = s.withParts [x] (f s))
    (hr : ∀ s, (f s).regs = s.regs) (hx : x ∈ ps) : Within l rs ps (.upd f hf) :=
  (upd (ps := [x]) h hr).mono (List.Subset.refl l) (List.Subset.refl rs) (List.cons_subset.mpr ⟨hx, List.nil_subset ps⟩)

theorem answer {r : Resp} (h : Part.resp ∈ ps := by decide) : Within l rs ps (.answer r) :=
  updPart .resp (fun _ => rfl) (fun _ => rfl) h

theorem send {m : Tx} (h : Part.tx ∈ ps := by decide) : Within l rs ps (.send m) :=
  updPart .tx (fun _ => rfl) (fun _ => rfl) h

theorem setRing {x : RingSt → RingSt} (h : Part.ring ∈ ps := by decide) : Within l rs ps (.setRing x) :=
  updPart .ring (fun _ => rfl) (fun _ => rfl) h

theorem setLim {x : LimSt → LimSt} (h : Part.lim ∈ ps := by decide) : Within l rs ps (.setLim x) :=
  updPart .lim (fun _ => rfl) (fun _ => rfl) h

theorem setSched {x : SchedSt → SchedSt} (h : Part.sched ∈ ps := by decide) : Within l rs ps (.setSched x) :=
  updPart .sched (fun _ => rfl) (fun _ => rfl) h

theorem setTim {x : TimeSt → TimeSt} (h : Part.tim ∈ ps := by decide) : Within l rs ps (.setTim x) :=
  updPart .tim (fun _ => rfl) (fun _ => rfl) h

theorem setFab {x : FabSt → FabSt} (h : Part.fab ∈ ps := by decide) : Within l rs ps (.setFab x) :=
  updPart .fab (fun _ => rfl) (fun _ => rfl) h

theorem setLoad {x : LoadSt → LoadSt} (h : Part.load ∈ ps := by decide) : Within l rs ps (.setLoad x) :=
  updPart .load (fun _ => rfl) (fun _ => rfl) h

theorem setPol {x : PolSt → PolSt} (h : Part.pol ∈ ps := by decide) : Within l rs ps (.setPol x) :=
  updPart .pol (fun _ => rfl) (fun _ => rfl) h

theorem setDma {x : DmaSt → DmaSt} (h : Part.dma ∈ ps := by decide) : Within l rs ps (.setDma x) :=
  updPart .dma (fun _ => rfl) (fun _ => rfl) h

theorem setRel {x : RelocSt → RelocSt} (h : Part.rel ∈ ps := by decide) : Within l rs ps (.setRel x) :=
  updPart .rel (fun _ => rfl) (fun _ => rfl) h

theorem setPair {x : PairSt → PairSt} (h : Part.pair ∈ ps := by decide) : Within l rs ps (.setPair x) :=
  updPart .pair (fun _ => rfl) (fun _ => rfl) h

theorem setPwr {x : PwrSt → PwrSt} (h : Part.pwr ∈ ps := by decide) : Within l rs ps (.setPwr x) :=
  updPart .pwr (fun _ => rfl) (fun _ => rfl) h

theorem setFlash {x : FlashSt → FlashSt} (h : Part.flash ∈ ps := by decide) : Within l rs ps (.setFlash x) :=
  updPart .flash (fun _ => rfl) (fun _ => rfl) h

theorem setMon {g : Grp} {x : MonSt → MonSt} (h : Part.mon ∈ ps := by decide) : Within l rs ps (.setMon g x) :=
  updPart .mon (fun _ => rfl) (fun _ => rfl) h

theorem setCells {g : Grp} {x : CellsSt → CellsSt} (h : Part.cells ∈ ps := by decide) : Within l rs ps (.setCells g x) :=
  updPart .cells (fun _ => rfl) (fun _ => rfl) h

theorem setCal {g : Grp} {x : CalSt → CalSt} (h : Part.cal ∈ ps := by decide) : Within l rs ps (.setCal g x) :=
  updPart .cal (fun _ => rfl) (fun _ => rfl) h

theorem setRef {g : Grp} {x : RefSt → RefSt} (h : Part.refs ∈ ps := by decide) : Within l rs ps (.setRef g x) :=
  updPart .refs (fun _ => rfl) (fun _ => rfl) h

theorem setSpare {g : Grp} {x : SpareSt → SpareSt} (h : Part.spare ∈ ps := by decide) : Within l rs ps (.setSpare g x) :=
  updPart .spare (fun _ => rfl) (fun _ => rfl) h

theorem setEng {e : Eng} {x : EngSt → EngSt} (h : Part.eng ∈ ps := by decide) : Within l rs ps (.setEng e x) :=
  updPart .eng (fun _ => rfl) (fun _ => rfl) h

theorem setTrk {k : Trk} {x : TrkSt → TrkSt} (h : Part.trk ∈ ps := by decide) : Within l rs ps (.setTrk k x) :=
  updPart .trk (fun _ => rfl) (fun _ => rfl) h

theorem setPin {g : Grp} {k : Pin} {x : PinSt → PinSt} (h : Part.pins ∈ ps := by decide) : Within l rs ps (.setPin g k x) :=
  updPart .pins (fun _ => rfl) (fun _ => rfl) h

theorem setKmp {g : Grp} {k : Kmp} {x : CmpSt → CmpSt} (h : Part.cmps ∈ ps := by decide) : Within l rs ps (.setKmp g k x) :=
  updPart .cmps (fun _ => rfl) (fun _ => rfl) h

theorem setCv {g : Grp} {k : Cv} {x : ConvSt → ConvSt} (h : Part.conv ∈ ps := by decide) : Within l rs ps (.setCv g k x) :=
  updPart .conv (fun _ => rfl) (fun _ => rfl) h

theorem setDds {g : Grp} {k : DdsE} {x : DdsSt → DdsSt} (h : Part.dds ∈ ps := by decide) : Within l rs ps (.setDds g k x) :=
  updPart .dds (fun _ => rfl) (fun _ => rfl) h

theorem setOut {g : Grp} {k : Out} {x : OutSt → OutSt} (h : Part.outs ∈ ps := by decide) : Within l rs ps (.setOut g k x) :=
  updPart .outs (fun _ => rfl) (fun _ => rfl) h

theorem setOvl {g : Grp} {k : Mod} {x : List Overload → List Overload} (h : Part.ovl ∈ ps := by decide) : Within l rs ps (.setOvl g k x) :=
  updPart .ovl (fun _ => rfl) (fun _ => rfl) h

theorem setByte {x : Nat} {v : Byte} (h : Part.mem ∈ ps := by decide) : Within l rs ps (.setByte x v) := fun s =>
  { regs := fun n i j k _ _ => by rw [State.r_eq, State.r_eq, Act.setByte_regs]
    parts := fun y hy => by
      simp only [Act.setByte]
      split
      · cases y
        case mem => exact absurd h hy
        all_goals rfl
      · exact y.same_refl s
    pending := Act.setByte_pending x v s }

theorem setBytes {x v n : Nat} (h : Part.mem ∈ ps := by decide) : Within l rs ps (.setBytes x v n) := by
  induction n generalizing x v with
  | zero => exact skip
  | succ n ih => exact andThen (setByte h) ih

theorem fresh {f : BitVec 64 → Act} (hf : ∀ x, Within l rs ps (f x)) (h : Part.seed ∈ ps := by decide) : Within l rs ps (.fresh f) :=
  look fun _ => andThen (updPart .seed (fun _ => rfl) (fun _ => rfl) h) (hf _)

/-! ### Accesses -/

theorem reach (ha : Within l rs ps a) (h : Part.resp ∈ ps := by decide) : Within l rs ps (.reach a) := look fun _ => ite ha (answer h)

theorem accept (h : Part.resp ∈ ps := by decide) : Within l rs ps .accept := answer h

theorem store {n : RegName} {v : Word} {i j k : Nat} (h : n ∈ l := by decide) : Within l rs ps (.store n v i j k) := look fun _ => setR h

theorem storeAt {n : RegName} {v : Word} {i j k : Nat} (h : (⟨n, i, j, k⟩ : RegRef) ∈ rs := by simp) :
    Within l rs ps (.store n v i j k) := look fun _ => setRAt h

theorem refuse {f : Fld} {i j : Nat} (hf : f.name ∈ l := by decide) (h : Part.resp ∈ ps := by decide) :
    Within l rs ps (.refuse f i j) := all ⟨count hf, answer h⟩

theorem masterCount {src : Src} (h : .FAB_PORT_ERR ∈ l := by decide) : Within l rs ps (.masterCount src) := by
  cases src
  case fabric d => exact look fun _ => when (count h)
  all_goals exact skip

theorem write {src : Src} {off : Nat} (ha : Within l rs ps a) (hl : .FAB_PORT_ERR ∈ l := by decide)
    (h : Part.resp ∈ ps := by decide) : Within l rs ps (.write src off a) := reach (all ⟨ite ha (answer h), masterCount hl⟩) h

/-! ### The fault log -/

theorem logPending (hl : .FAULT_STATUS ∈ l := by decide) (hp : Part.seed ∈ ps := by decide) : Within l rs ps .logPending :=
  look fun _ => ite (setF hl) (fresh (fun _ => setF hl) hp)

theorem logMulti {kind subject : Nat} {parts : List (List Byte)} (hs : .FAULT_STATUS ∈ l := by decide) (he : .FAULT_EVENTS ∈ l := by decide)
    (hp : Part.log ∈ ps := by decide) (hseed : Part.seed ∈ ps := by decide) : Within l rs ps (.logMulti kind subject parts) :=
  have hlog : ∀ {f : State → State} {hf : ∀ s, Good s (f s)}, (∀ s, f s = s.withParts [.log] (f s)) → (∀ s, (f s).regs = s.regs) →
      Within l rs ps (.upd f hf) := fun h hr => updPart .log h hr hp
  look fun _ => ite
    (andThen (ite (hlog (fun _ => rfl) fun _ => rfl) skip) (andThen (hlog (fun _ => rfl) fun _ => rfl) (logPending hs hseed)))
    (andThen (hlog (fun _ => rfl) fun _ => rfl) (setB he))

theorem log {kind subject : Nat} {data : List Byte} (hs : .FAULT_STATUS ∈ l := by decide) (he : .FAULT_EVENTS ∈ l := by decide)
    (hp : Part.log ∈ ps := by decide) (hseed : Part.seed ∈ ps := by decide) : Within l rs ps (.log kind subject data) :=
  logMulti hs he hp hseed

end

end Within

end Sys2Proof.Machine
end

section
-- One proof after another: elaborated side by side, the proofs of the whole text do not fit in the check's memory.
set_option Elab.async false
/-! The step words (R261 to R268). -/

namespace Sys2Proof.Machine

/-! ### The slot of a word -/

/-- R262: a word whose wait is over begins: it takes the doorbell that it waited for, and its engine is RUNNING. -/
def Act.wordBegins (e : Eng) (w : StepWord) : Act :=
  .all [.when (w.wk == 1) (.setB F.ENG_STATUS_DB_PEND false e), .setF F.ENG_STATUS_STATE engRunning e]

theorem Act.stepSlot_run {s : State} {e : Eng} {w : StepWord} {op : Nat} (word : StepWord → Act) (h : s.slot e w) (hop : w.op = op) :
    (Act.stepSlot op e word).run s = (word w).run ((Act.wordBegins e w).run s) := by
  obtain ⟨hup, hreleased, hlive, hload, -, rfl, hbad, hover, -⟩ := h
  simp only [Act.stepSlot, Act.look_run, hup, hreleased, hlive, hload, hbad, hover, hop, Option.isNone_none, Bool.and_self, beq_self_eq_true,
    Act.when_true_run, if_true, Bool.false_eq_true, if_false, Act.wordBegins, Act.all_cons_run, Act.all_nil_run]

theorem valid_engStatus (e : Eng) : RegRef.valid ⟨.ENG_STATUS, e, 0, 0⟩ = true := RegRef.valid_of e.isLt

theorem valid_engD (e : Eng) {n : Nat} (hn : n < 16) : RegRef.valid ⟨.ENG_D, e, n, 0⟩ = true := RegRef.valid_of e.isLt hn

/-- What step words may change of one engine and leave alone of all else. -/
structure EngineAlone (e : Eng) (l : List RegRef) (s t : State) : Prop where
  regs : RegsKept (⟨.ENG_STATUS, e, 0, 0⟩ :: l) s t
  rest : t = { s with regs := t.regs, eng := t.eng }
  others : ∀ d : Eng, d ≠ e → t.eng[d] = s.eng[d]

variable {e : Eng} {l : List RegRef}

theorem EngineAlone.frame : Frame (EngineAlone e l) where
  refl _ := ⟨fun _ _ _ _ _ => rfl, rfl, fun _ _ => rfl⟩
  trans {_ _ u} h1 h2 := ⟨fun n i j k hn => (h2.regs n i j k hn).trans (h1.regs n i j k hn),
    h2.rest.trans (congrArg (fun x : State => { x with regs := u.regs, eng := u.eng }) h1.rest),
    fun d hd => (h2.others d hd).trans (h1.others d hd)⟩

theorem Touches.engineAlone {s t : State} (h : Touches [] (⟨.ENG_STATUS, e, 0, 0⟩ :: l) [] s t) : EngineAlone e l s t :=
  have heng : t.eng = s.eng := h.parts .eng (by decide)
  { regs := h.regsKept
    rest := by rw [heng]; exact h.rest
    others := fun _ _ => by rw [heng] }

theorem Act.setEng_engineAlone (x : EngSt → EngSt) : (Act.setEng e x).Keeps (EngineAlone e l) := fun s =>
  { regs := fun _ _ _ _ _ => rfl
    rest := rfl
    others := fun d hd => by
      simp only [Act.setEng_eng, Fin.getElem_fin]
      exact Vector.getElem_set_ne _ _ (fun h => hd (Fin.ext h.symm)) }

theorem Act.setEng_same (x : EngSt → EngSt) (s : State) : ((Act.setEng e x).run s).eng[e] = x s.eng[e] := by
  simp [Act.setEng_eng]

/-! ### The end of a word -/

theorem Act.setF_engStatus {f : Fld} (hf : f.name = .ENG_STATUS) (hm : f.inMask = true) (v : Nat) (s : State) :
    ((Act.setF f v e).run s).f f e = v % 2 ^ f.width :=
  Act.setF_f_same f v e 0 0 s (by rw [hf]; exact valid_engStatus e) hm

theorem Act.setF_engineAlone {f : Fld} (hf : f.name = .ENG_STATUS) (v : Nat) : (Act.setF f v e).Keeps (EngineAlone e l) := fun s =>
  have hin : Within [] (⟨.ENG_STATUS, e, 0, 0⟩ :: l) [] (.setF f v e) := Within.setFAt (hf ▸ List.mem_cons_self)
  (hin s).engineAlone

theorem EngineAlone.mono {l' : List RegRef} {s t : State} (h : EngineAlone e l s t) (hl : l ⊆ l') : EngineAlone e l' s t :=
  ⟨fun n i j k hn => h.regs n i j k fun hm => hn (List.cons_subset_cons _ hl hm), h.rest, h.others⟩

theorem EngineGoesOn.alone {s t : State} {pc : Nat} (h : EngineGoesOn s t e pc l) : EngineAlone e l s t :=
  have ⟨_, _, _, hregs, hrest, hothers⟩ := h
  ⟨hregs, hrest, hothers⟩

/-- What follows a change of the engine alone. -/
theorem EngineGoesOn.after {s u t : State} {pc : Nat} (h : EngineGoesOn u t e pc []) (hu : EngineAlone e l s u) :
    EngineGoesOn s t e pc l :=
  have hst := EngineAlone.frame.trans hu (h.alone.mono (List.nil_subset l))
  have ⟨hpc, hstate, htide, _⟩ := h
  ⟨hpc, hstate, htide, hst.regs, hst.rest, hst.others⟩

/-- What precedes a change that leaves the wait as it is. -/
theorem EngineGoesOn.setEng {s t : State} {pc : Nat} (h : EngineGoesOn s t e pc l) {x : EngSt → EngSt} (hx : ∀ y, (x y).tide = y.tide) :
    EngineGoesOn s ((Act.setEng e x).run t) e pc l :=
  have hst := EngineAlone.frame.trans h.alone (Act.setEng_engineAlone x t)
  have ⟨hpc, hstate, htide, _⟩ := h
  ⟨hpc, hstate, by rw [Act.setEng_same, hx, htide], hst.regs, hst.rest, hst.others⟩

/-- An engine goes to a word: it holds no wait, PC names the word, and the engine is RUNNING. -/
def Act.goTo (e : Eng) (pc : Nat) (x : EngSt → EngSt) : Act :=
  .all [.setEng e x, .setF F.ENG_STATUS_PC pc e, .setF F.ENG_STATUS_STATE engRunning e]

theorem Act.goTo_goesOn {pc : Nat} (hpc : pc < 16384) {x : EngSt → EngSt} (hx : ∀ y, (x y).tide = none) (s : State) :
    EngineGoesOn s ((Act.goTo e pc x).run s) e pc l := by
  have hkeeps : (Act.goTo e pc x).Keeps (EngineAlone e l) := Act.keeps_all EngineAlone.frame
    ⟨Act.setEng_engineAlone x, Act.setF_engineAlone rfl _, Act.setF_engineAlone rfl _⟩
  have halone := hkeeps s
  refine ⟨?pc, ?state, ?tide, halone.regs, halone.rest, halone.others⟩
  all_goals rw [Act.goTo, Act.all_cons_run, Act.all_cons_run, Act.all_cons_run, Act.all_nil_run]
  case pc =>
    rw [Act.setF_f_spared _ _ _ _ _ _ _ _ (by decide) (by decide), Act.setF_engStatus rfl (by decide)]
    exact Nat.mod_eq_of_lt hpc
  case state => exact Act.setF_engStatus rfl (by decide) _ _
  case tide =>
    rw [Act.setF_eng, Act.setF_eng, Act.setEng_same]
    exact hx _

theorem Act.branch_goesOn {pc : Nat} (hpc : pc < 16384) (s : State) : EngineGoesOn s ((Act.branch e pc).run s) e pc l := by
  rw [Act.branch, if_neg (Nat.not_le.mpr hpc)]
  exact Act.goTo_goesOn hpc (fun _ => rfl) s

theorem Act.wordEnds_run {s : State} (hstate : s.f F.ENG_STATUS_STATE e = engRunning) : (Act.wordEnds e).run s = (Act.engAdvance e).run s := by
  simp only [Act.wordEnds, Act.look_run, State.engState, hstate, engRunning, engHalted, engFaulted, reduceCtorEq, if_false, Nat.reduceEqDiff]

theorem Act.engAdvance_run {s : State} (hpc : s.f F.ENG_STATUS_PC e < 16383) (hhalting : s.eng[e].halting = false) :
    (Act.engAdvance e).run s = (Act.setEng e fun x => { x with halting := false }).run
      ((Act.goTo e (s.f F.ENG_STATUS_PC e + 1) fun x => { x with tide := none, tideHit := false, load := none }).run s) := by
  simp only [Act.engAdvance, Act.look_run, hhalting, if_neg (Nat.ne_of_lt hpc), Bool.false_eq_true, if_false, Act.goTo, Act.all_cons_run,
    Act.all_nil_run]

theorem Act.wordEnds_goesOn {s : State} (hstate : s.f F.ENG_STATUS_STATE e = engRunning) (hpc : s.f F.ENG_STATUS_PC e < 16383)
    (hhalting : s.eng[e].halting = false) : EngineGoesOn s ((Act.wordEnds e).run s) e (s.f F.ENG_STATUS_PC e + 1) l := by
  rw [Act.wordEnds_run hstate, Act.engAdvance_run hpc hhalting]
  exact (Act.goTo_goesOn (Nat.succ_lt_succ hpc) (fun _ => rfl) s).setEng fun _ => rfl

/-! ### The course of a word -/

/-- What a word finds in its course: its engine RUNNING at the word, and but for that nothing changed except the registers listed. -/
structure Midword (e : Eng) (l : List RegRef) (s u : State) : Prop where
  state : u.f F.ENG_STATUS_STATE e = engRunning
  pc : u.f F.ENG_STATUS_PC e = s.f F.ENG_STATUS_PC e
  depth : u.f F.ENG_STATUS_DEPTH e = s.f F.ENG_STATUS_DEPTH e
  touches : Touches [] (⟨.ENG_STATUS, e, 0, 0⟩ :: l) [] s u

theorem Midword.eng {s u : State} (h : Midword e l s u) : u.eng = s.eng := h.touches.parts .eng (by decide)

theorem Midword.r_eq {s u : State} (h : Midword e [] s u) {n : RegName} (i j k : Nat) (hn : n ≠ .ENG_STATUS := by decide) :
    u.r n i j k = s.r n i j k :=
  h.touches.regsKept n i j k (by simp [hn])

theorem Act.wordBegins_midword (w : StepWord) (s : State) : Midword e [] s ((Act.wordBegins e w).run s) := by
  have hin : Within [] [⟨.ENG_STATUS, e, 0, 0⟩] [] (Act.wordBegins e w) := .all ⟨.when .setBAt, .setFAt⟩
  have hfirst : ∀ f : Fld, F.ENG_STATUS_DB_PEND.spares f = true → f.inMask = true →
      ((Act.when (w.wk == 1) (.setB F.ENG_STATUS_DB_PEND false e)).run s).f f e = s.f f e := by
    intro f hf hm
    rw [Act.when_run]
    split
    · exact Act.setF_f_spared _ _ _ _ _ _ _ s hf hm
    · rfl
  refine ⟨?state, ?pc, ?depth, hin s⟩
  all_goals rw [Act.wordBegins, Act.all_cons_run, Act.all_cons_run, Act.all_nil_run]
  case state => exact Act.setF_engStatus rfl (by decide) _ _
  all_goals
    rw [Act.setF_f_spared _ _ _ _ _ _ _ _ (by decide) (by decide)]
    exact hfirst _ (by decide) (by decide)

/-- A change of other registers in the course of a word. -/
theorem Midword.trans {l' : List RegRef} {s u t : State} (h : Midword e l' s u) (ht : Touches [] l [] u t) (hl : l' ⊆ l)
    (hstatus : (⟨.ENG_STATUS, e, 0, 0⟩ : RegRef) ∉ l := by simp) : Midword e l s t :=
  have hkept : ∀ f : Fld, f.name = .ENG_STATUS → t.f f e = u.f f e := fun f hf =>
    congrArg f.of (ht.regsKept f.name e 0 0 (hf ▸ hstatus))
  { state := (hkept _ rfl).trans h.state
    pc := (hkept _ rfl).trans h.pc
    depth := (hkept _ rfl).trans h.depth
    touches := (h.touches.mono (hr := List.cons_subset_cons _ hl)).trans (ht.mono (hr := List.subset_cons_self _ l)) }

theorem Midword.mono {s u : State} (h : Midword e [] s u) (l : List RegRef) : Midword e l s u :=
  ⟨h.state, h.pc, h.depth, h.touches.mono (hr := List.cons_subset_cons _ (List.nil_subset l))⟩

/-- R268: where the slot began with no HALT owed and a word left, the word ends at the next one. -/
theorem Midword.ends {s u : State} (h : Midword e l s u) {w : StepWord} (hs : s.slot e w) :
    EngineGoesOn s ((Act.wordEnds e).run u) e (s.f F.ENG_STATUS_PC e + 1) l := by
  obtain ⟨-, -, -, -, hhalting, -, -, -, hpc⟩ := hs
  rw [← h.pc] at hpc ⊢
  exact (Act.wordEnds_goesOn h.state hpc (by rw [h.eng]; exact hhalting)).after h.touches.engineAlone

/-- What a register holds at the end of a word. -/
theorem EngineGoesOn.r_eq {s t : State} {pc : Nat} (h : EngineGoesOn s t e pc []) {n : RegName} (i j k : Nat)
    (hn : n ≠ .ENG_STATUS := by decide) : t.r n i j k = s.r n i j k := h.alone.regs n i j k (by simp [hn])

theorem Act.wordEnds_r {s u : State} (h : Midword e l s u) {w : StepWord} (hs : s.slot e w) {n : RegName} (i j k : Nat)
    (hn : n ≠ .ENG_STATUS := by decide) : ((Act.wordEnds e).run u).r n i j k = u.r n i j k := by
  obtain ⟨-, -, -, -, hhalting, -, -, -, hpc⟩ := hs
  exact (Act.wordEnds_goesOn (l := []) h.state (h.pc ▸ hpc) (by rw [h.eng]; exact hhalting)).r_eq i j k hn

theorem Act.setR_engD {n : Nat} (hn : n < 16) (v : Word) (s : State) : ((Act.setR .ENG_D v e n).run s).r .ENG_D e n = v := by
  rw [Act.setR_r_same _ _ _ _ _ _ (valid_engD e hn)]
  exact BitVec.and_allOnes

/-- A word that gives a register a value. -/
theorem Act.result_goesOn {s u : State} {w : StepWord} (hs : s.slot e w) (h : Midword e l s u) {n : Nat} (hn : n < 16) (v : Word)
    (hl : ⟨.ENG_D, e, n, 0⟩ ∈ l) (hstatus : (⟨.ENG_STATUS, e, 0, 0⟩ : RegRef) ∉ l := by simp) :
    ((Act.result e n v).run u).r .ENG_D e n = v ∧
    EngineGoesOn s ((Act.result e n v).run u) e (s.f F.ENG_STATUS_PC e + 1) l := by
  have hset : Within [] l [] (.setR .ENG_D v e n) := .setRAt hl
  have hmid := h.trans (hset u) (List.Subset.refl l) hstatus
  exact ⟨(Act.wordEnds_r hmid hs e n 0).trans (Act.setR_engD hn v u), hmid.ends hs⟩

theorem Act.result_r_ne {s u : State} {w : StepWord} (hs : s.slot e w) (h : Midword e l s u) {n m : Nat} (hne : n ≠ m) (v : Word)
    (hl : ⟨.ENG_D, e, n, 0⟩ ∈ l) (hstatus : (⟨.ENG_STATUS, e, 0, 0⟩ : RegRef) ∉ l := by simp) :
    ((Act.result e n v).run u).r .ENG_D e m = u.r .ENG_D e m := by
  have hset : Within [] l [] (.setR .ENG_D v e n) := .setRAt hl
  have hmid := h.trans (hset u) (List.Subset.refl l) hstatus
  exact (Act.wordEnds_r hmid hs e m 0).trans (Act.setR_r_ne_inst _ _ _ _ _ _ _ _ _ fun h => hne h.2.1)

theorem Act.result_r_name {s u : State} {w : StepWord} (hs : s.slot e w) (h : Midword e l s u) {n : Nat} (v : Word) (m : RegName)
    (hl : ⟨.ENG_D, e, n, 0⟩ ∈ l := by simp) (hm : m ≠ .ENG_STATUS := by decide) (hd : m ≠ .ENG_D := by decide)
    (hstatus : (⟨.ENG_STATUS, e, 0, 0⟩ : RegRef) ∉ l := by simp) :
    ((Act.result e n v).run u).r m = u.r m := by
  have hset : Within [] l [] (.setR .ENG_D v e n) := .setRAt hl
  have hmid := h.trans (hset u) (List.Subset.refl l) hstatus
  exact (Act.wordEnds_r hmid hs 0 0 0 hm).trans (Act.setR_r_ne _ _ _ _ _ _ _ _ _ _ hd.symm)

/-! ### What a word reads -/

section
variable {s u : State} (h : Midword e [] s u)
include h

theorem Midword.flags : u.flags = s.flags := h.r_eq 0 0 0

theorem Midword.flag (n : Nat) : u.flag n = s.flag n := by rw [State.flag, State.flag, h.flags]

theorem Midword.d (n : Nat) : u.d e n = s.d e n := by rw [State.d, State.d, h.r_eq]

theorem Midword.ns : u.ns = s.ns := congrArg (fun t => t / 4294967296 % 2 ^ 64) (h.touches.parts .time (by decide))

theorem Midword.phase (k : Nat) : u.phase k = s.phase k := by
  simp only [State.phase, State.f, h.r_eq k 0 0 (n := F.TRK_PHASE_LO_PHASE.name), h.r_eq k 0 0 (n := F.TRK_PHASE_HI_PHASE.name)]

theorem Midword.stepWord (n : Nat) : u.stepWord n = s.stepWord n := by
  have hbytes : ∀ n a, u.bytes a n = s.bytes a n := by
    intro n
    induction n with
    | zero => exact fun _ => rfl
    | succ n ih => exact fun a => by rw [State.bytes, State.bytes, ih, h.touches.bytesKept]
  rw [State.stepWord, State.stepWord, hbytes]

theorem Midword.tableIndex (a : Int) (n i k : Nat) : u.tableIndex a n i k = s.tableIndex a n i k := by
  induction k generalizing i with
  | zero => rfl
  | succ k ih => simp only [State.tableIndex, h.stepWord, ih]

end

/-! ### The step flags -/

theorem Act.setFlags_flags (v : Word) (s : State) : ((Act.setFlags v).run s).flags = v :=
  (Act.setR_r_same _ _ _ _ _ _ (by decide)).trans BitVec.and_allOnes

theorem Act.setFlag_flag {n m : Nat} (hn : n < 32) (hm : m < 32) (v : Bool) (s : State) :
    ((Act.setFlag n v).run s).flag m = if m = n then v else s.flag m := by
  have hbit : (BitVec.ofNat 32 (1 <<< n)).getLsbD m = decide (n = m) := by
    rw [BitVec.getLsbD_ofNat, Nat.one_shiftLeft, Nat.testBit_two_pow, decide_eq_true hm, Bool.true_and]
  rw [Act.setFlag, Act.look_run, State.flag, Act.setFlags_flags, State.flag, Nat.mod_eq_of_lt hm]
  by_cases hmn : m = n
  · subst hmn
    cases v <;> simp [hbit, hm]
  · have hoff : (BitVec.ofNat 32 (1 <<< n)).getLsbD m = false := by rw [hbit, decide_eq_false (Ne.symm hmn)]
    rw [if_neg hmn]
    cases v
    · simp only [Bool.false_eq_true, if_false, BitVec.getLsbD_and, BitVec.getLsbD_not, hoff, hm, decide_true, Bool.not_false, Bool.and_true]
    · simp only [if_true, BitVec.getLsbD_or, hoff, Bool.or_false]

/-- A word that gives a flag and a register their values. -/
theorem Act.flagResult_goesOn {s u : State} {w : StepWord} (hs : s.slot e w) (h : Midword e [] s u) {m n : Nat} (hm : m < 32) (hn : n < 16)
    (b : Bool) (v : Word) : let t := (Act.all [.setFlag m b, .result e n v]).run u
    t.r .ENG_D e n = v ∧ t.flag m = b ∧ (∀ k, k < 32 → k ≠ m → t.flag k = s.flag k) ∧
    EngineGoesOn s t e (s.f F.ENG_STATUS_PC e + 1) [⟨.ENG_D, e, n, 0⟩, ⟨.STEP_FLAG_SET, 0, 0, 0⟩] := by
  have hset : Within [] [⟨.ENG_D, e, n, 0⟩, ⟨.STEP_FLAG_SET, 0, 0, 0⟩] [] (.setFlag m b) := .look fun _ => .setRAt
  have hmid := h.trans (hset u) (List.nil_subset _)
  obtain ⟨hres, hgoes⟩ := Act.result_goesOn hs hmid hn v (by simp)
  have hflags : ∀ k, ((Act.result e n v).run ((Act.setFlag m b).run u)).flag k = ((Act.setFlag m b).run u).flag k := fun k =>
    congrArg (BitVec.getLsbD · (k % 32)) (Act.result_r_name hs hmid v .STEP_FLAG_SET)
  refine ⟨hres, (hflags m).trans ((Act.setFlag_flag hm hm b u).trans (if_pos rfl)), fun k hk hne => ?_, hgoes⟩
  exact (hflags k).trans ((Act.setFlag_flag hm hk b u).trans ((if_neg hne).trans (h.flag k)))

theorem bitsOf_lt (v lo w : Nat) : bitsOf v lo w < 2 ^ w := Nat.mod_lt _ (Nat.two_pow_pos w)

section
variable {s : State} {w : StepWord} (hs : s.slot e w)
include hs

theorem slot_ra : w.ra < 16 := by
  obtain ⟨-, -, -, -, -, rfl, -⟩ := hs
  exact bitsOf_lt ..

theorem slot_rb : w.rb < 16 := by
  obtain ⟨-, -, -, -, -, rfl, -⟩ := hs
  exact bitsOf_lt ..

theorem slot_bad : w.bad = false := by
  obtain ⟨-, -, -, -, -, -, hbad, -⟩ := hs
  exact hbad

/-- A word executes in its slot from where it has begun. -/
theorem Act.stepSlot_goes {op : Nat} {word : StepWord → Act} (hop : w.op = op) :
    ∃ u, Midword e [] s u ∧ (Act.stepSlot op e word).run s = (word w).run u :=
  ⟨_, Act.wordBegins_midword w s, Act.stepSlot_run word hs hop⟩

/-! ### Words that give values -/

theorem stepMovi_answers (hop : w.op = 0x02) : Answers (.stepMovi e) s fun t =>
    t.r .ENG_D e w.ra = BitVec.ofNat 32 w.imm ∧ EngineGoesOn s t e (s.f F.ENG_STATUS_PC e + 1) [⟨.ENG_D, e, w.ra, 0⟩] := by
  obtain ⟨u, hu, hrun⟩ := Act.stepSlot_goes hs (word := Act.wordMovi e) hop
  refine ⟨_, rfl, ?_⟩
  rw [hrun]
  exact Act.result_goesOn hs (hu.mono _) (slot_ra hs) _ (List.mem_singleton.mpr rfl)

theorem stepMov_answers (hop : w.op = 0x03) : Answers (.stepMov e) s fun t =>
    t.r .ENG_D e w.ra = s.r .ENG_D e w.rb ∧ EngineGoesOn s t e (s.f F.ENG_STATUS_PC e + 1) [⟨.ENG_D, e, w.ra, 0⟩] := by
  obtain ⟨u, hu, hrun⟩ := Act.stepSlot_goes hs (word := Act.wordMov e) hop
  refine ⟨_, rfl, ?_⟩
  rw [hrun, Act.wordMov, Act.look_run, hu.r_eq]
  exact Act.result_goesOn hs (hu.mono _) (slot_ra hs) _ (List.mem_singleton.mpr rfl)

theorem stepAdd_answers (hop : w.op = 0x04) : Answers (.stepAdd e) s fun t =>
    t.r .ENG_D e w.ra = saturate (s.d e w.ra + (if w.x = 1 then -s.d e w.rb else s.d e w.rb) + signed 32 w.imm) ∧
    EngineGoesOn s t e (s.f F.ENG_STATUS_PC e + 1) [⟨.ENG_D, e, w.ra, 0⟩] := by
  obtain ⟨u, hu, hrun⟩ := Act.stepSlot_goes hs (word := Act.wordAdd e) hop
  refine ⟨_, rfl, ?_⟩
  rw [hrun, Act.wordAdd, Act.look_run, hu.d, hu.d]
  exact Act.result_goesOn hs (hu.mono _) (slot_ra hs) _ (List.mem_singleton.mpr rfl)

theorem stepScale_answers (hop : w.op = 0x05) : Answers (.stepScale e) s fun t =>
    t.r .ENG_D e w.ra = saturate (roundDiv (s.d e w.rb * signed 32 w.imm) (2 ^ w.x)) ∧
    EngineGoesOn s t e (s.f F.ENG_STATUS_PC e + 1) [⟨.ENG_D, e, w.ra, 0⟩] := by
  obtain ⟨u, hu, hrun⟩ := Act.stepSlot_goes hs (word := Act.wordScale e) hop
  refine ⟨_, rfl, ?_⟩
  rw [hrun, Act.wordScale, Act.look_run, hu.d]
  exact Act.result_goesOn hs (hu.mono _) (slot_ra hs) _ (List.mem_singleton.mpr rfl)

theorem stepClock_answers (hop : w.op = 0x13) : Answers (.stepClock e) s fun t =>
    let v := unsigned 64 ((if w.x = 0 then (s.ns : Int) else s.phase (w.x - 1)) + signed 32 w.imm)
    t.r .ENG_D e w.ra = BitVec.ofNat 32 v ∧ t.r .ENG_D e (w.ra + 1) = BitVec.ofNat 32 (v / 2 ^ 32) ∧
    EngineGoesOn s t e (s.f F.ENG_STATUS_PC e + 1) [⟨.ENG_D, e, w.ra, 0⟩, ⟨.ENG_D, e, w.ra + 1, 0⟩] := by
  obtain ⟨u, hu, hrun⟩ := Act.stepSlot_goes hs (word := Act.wordClock e) hop
  have hra : w.ra + 1 < 16 := by
    have hbad := slot_bad hs
    have hlt := slot_ra hs
    simp only [StepWord.bad, hop, Bool.or_eq_false_iff, bne_eq_false_iff_eq] at hbad
    omega
  refine ⟨_, rfl, ?_⟩
  rw [hrun, Act.wordClock, Act.look_run, hu.ns, hu.phase]
  generalize unsigned 64 ((if w.x = 0 then (s.ns : Int) else s.phase (w.x - 1)) + signed 32 w.imm) = v
  have hset : Within [] [⟨.ENG_D, e, w.ra, 0⟩, ⟨.ENG_D, e, w.ra + 1, 0⟩] [] (.setR .ENG_D (BitVec.ofNat 32 v) e w.ra) := .setRAt
  have hmid := hu.trans (hset u) (List.nil_subset _)
  obtain ⟨hhigh, hgoes⟩ := Act.result_goesOn hs hmid hra (BitVec.ofNat 32 (v / 2 ^ 32)) (by simp)
  have hlow := (Act.result_r_ne hs hmid (Nat.succ_ne_self w.ra) (BitVec.ofNat 32 (v / 2 ^ 32)) (by simp)).trans
    (Act.setR_engD (slot_ra hs) (BitVec.ofNat 32 v) u)
  exact ⟨hlow, hhigh, hgoes⟩

theorem stepCmpt_answers (hop : w.op = 0x0A) : Answers (.stepCmpt e) s fun t =>
    let i := s.tableIndex (s.d e w.ra) (w.imm % 16384) 0 (w.imm / 2 ^ 24 + 1)
    t.r .ENG_D e w.rb = (match i with
      | some n => BitVec.ofNat 32 n
      | none => 0xFFFFFFFF) ∧
    t.flag (bitsOf w.imm 16 5) = i.isSome ∧
    (∀ n, n < 32 → n ≠ bitsOf w.imm 16 5 → t.flag n = s.flag n) ∧
    EngineGoesOn s t e (s.f F.ENG_STATUS_PC e + 1) [⟨.ENG_D, e, w.rb, 0⟩, ⟨.STEP_FLAG_SET, 0, 0, 0⟩] := by
  obtain ⟨u, hu, hrun⟩ := Act.stepSlot_goes hs (word := Act.wordCmpt e) hop
  refine ⟨_, rfl, ?_⟩
  rw [hrun, Act.wordCmpt, Act.look_run, hu.tableIndex, hu.d]
  exact Act.flagResult_goesOn hs hu (bitsOf_lt ..) (slot_rb hs) _ _

end

/-- Settles O1: each word by its lemma. -/
theorem stepWordsGiveValues : Obligations.StepWordsGiveValues := by
  unfold Obligations.StepWordsGiveValues
  intro s e w hs
  exact ⟨stepMovi_answers hs, stepMov_answers hs, stepAdd_answers hs, stepScale_answers hs, stepCmpt_answers hs, stepClock_answers hs⟩

end Sys2Proof.Machine
end

section
-- One proof after another: elaborated side by side, the proofs of the whole text do not fit in the check's memory.
set_option Elab.async false
/-! Step words that steer their engine (R261, R266, R268). -/

namespace Sys2Proof.Machine

variable {e : Eng}

theorem Act.setF_engStatus_spared {f g : Fld} (v : Nat) (s : State) (h : f.spares g = true := by decide)
    (hm : g.inMask = true := by decide) : ((Act.setF f v e).run s).f g e = s.f g e := Act.setF_f_spared _ _ _ _ _ _ _ s h hm

/-- R268: an engine becomes FAULTED, and keeps its PC and its stack. -/
theorem Act.engFault_faults (code : Nat) (s : State) (hcode : code < 32) : let t := (Act.engFault e code).run s
    t.f F.ENG_STATUS_STATE e = engFaulted ∧ t.f F.ENG_STATUS_FAULT e = code ∧ t.f F.ENG_STATUS_PC e = s.f F.ENG_STATUS_PC e ∧
    t.eng[e].stack = s.eng[e].stack := by
  have hlog : Within [.FAULT_STATUS, .FAULT_EVENTS] [] [.log, .seed]
      (.log 14 e (leBytes code 1 ++ leBytes (s.f F.ENG_STATUS_PC e) 2)) := .log
  have hkept := fun u => (hlog u).f_eq (f := F.ENG_STATUS_STATE) e 0 0
  have hcodes := fun u => (hlog u).f_eq (f := F.ENG_STATUS_FAULT) e 0 0
  have hpcs := fun u => (hlog u).f_eq (f := F.ENG_STATUS_PC) e 0 0
  have hengs : ∀ u, ((Act.log 14 e (leBytes code 1 ++ leBytes (s.f F.ENG_STATUS_PC e) 2)).run u).eng = u.eng :=
    fun u => (hlog u).parts .eng (by decide)
  intro t
  have ht : t = (Act.log 14 e (leBytes code 1 ++ leBytes (s.f F.ENG_STATUS_PC e) 2)).run ((Act.setBit F.STEP_EVENTS_FAULT e).run
    ((Act.setEng e fun x => { x with tide := none, tideHit := false, load := none, halting := false }).run
      ((Act.setF F.ENG_STATUS_FAULT code e).run ((Act.setF F.ENG_STATUS_STATE engFaulted e).run s)))) := rfl
  rw [ht]
  refine ⟨(hkept _).trans ?state, (hcodes _).trans ?code, (hpcs _).trans ?pc, ?stack⟩
  case stack => rw [hengs, Act.setBit_eng, Act.setEng_same, Act.setF_eng, Act.setF_eng]
  all_goals rw [Act.setBit_run, Act.setF_f_spared _ _ _ _ _ _ _ _ (by decide) (by decide), Act.setEng_f]
  case state => rw [Act.setF_engStatus_spared, Act.setF_engStatus rfl (by decide)]; rfl
  case code => rw [Act.setF_engStatus rfl (by decide)]; exact Nat.mod_eq_of_lt hcode
  case pc => rw [Act.setF_engStatus_spared, Act.setF_engStatus_spared]

theorem Midword.faults {s u : State} (h : Midword e [] s u) {code : Nat} (hcode : code < 32) : let t := (Act.engFault e code).run u
    t.f F.ENG_STATUS_STATE e = engFaulted ∧ t.f F.ENG_STATUS_FAULT e = code ∧ t.f F.ENG_STATUS_PC e = s.f F.ENG_STATUS_PC e ∧
    t.eng[e].stack = s.eng[e].stack := by
  obtain ⟨hstate, hfault, hpc, hstack⟩ := Act.engFault_faults (e := e) code u hcode
  exact ⟨hstate, hfault, hpc.trans h.pc, hstack.trans (by rw [h.eng])⟩

/-- The stack and its depth change before a branch. -/
theorem Midword.stackThenBranch {s u : State} (hu : Midword e [] s u) (stack : List Nat) {depth pc : Nat} (hdepth : depth < 16)
    (hpc : pc < 16384) (x : EngSt → EngSt) (hx : x s.eng[e] = { s.eng[e] with stack := stack }) :
    let t := (Act.all [.setEng e x, .setF F.ENG_STATUS_DEPTH depth e, .branch e pc]).run u
    t.eng[e].stack = stack ∧ t.f F.ENG_STATUS_DEPTH e = depth ∧ EngineGoesOn s t e pc [] := by
  have hset : EngineAlone e [] s ((Act.setF F.ENG_STATUS_DEPTH depth e).run ((Act.setEng e x).run u)) :=
    EngineAlone.frame.trans hu.touches.engineAlone
      (EngineAlone.frame.trans (Act.setEng_engineAlone x u) (Act.setF_engineAlone rfl depth _))
  refine ⟨?stack, ?depth, (Act.branch_goesOn hpc _).after hset⟩
  all_goals
    rw [Act.all_cons_run, Act.all_cons_run, Act.all_cons_run, Act.all_nil_run, Act.branch, if_neg (Nat.not_le.mpr hpc), Act.all_cons_run,
      Act.all_cons_run, Act.all_cons_run, Act.all_nil_run]
  case stack =>
    rw [Act.setF_eng, Act.setF_eng, Act.setEng_same, Act.setF_eng, Act.setEng_same, hu.eng, hx]
  case depth =>
    rw [Act.setF_engStatus_spared, Act.setF_engStatus_spared, Act.setEng_f, Act.setF_engStatus rfl (by decide)]
    exact Nat.mod_eq_of_lt hdepth

theorem Midword.stack {s u : State} (h : Midword e [] s u) : u.eng[e].stack = s.eng[e].stack := by rw [h.eng]

theorem Act.wordRet_run {u : State} {p : Nat} {l : List Nat} {w : StepWord} (h : u.eng[e].stack = p :: l) : (Act.wordRet e w).run u =
    (if 16384 ≤ p then Act.engFault e 3 else .all [.setEng e fun x => { x with stack := l },
      .setF F.ENG_STATUS_DEPTH (u.f F.ENG_STATUS_DEPTH e - 1) e, .branch e p]).run u := by
  rw [Act.wordRet, Act.look_run, h]

theorem Act.wordRet_empty_run {u : State} {w : StepWord} (h : u.eng[e].stack = []) : (Act.wordRet e w).run u = (Act.engFault e 2).run u := by
  rw [Act.wordRet, Act.look_run, h]

section
variable {s : State} {w : StepWord} (hs : s.slot e w)
include hs

theorem stepNop_answers (hop : w.op = 0x00) : Answers (.stepNop e) s fun t => EngineGoesOn s t e (s.f F.ENG_STATUS_PC e + 1) [] := by
  obtain ⟨u, hu, hrun⟩ := Act.stepSlot_goes hs (word := Act.wordNop e) hop
  exact ⟨_, rfl, hrun ▸ hu.ends hs⟩

theorem stepBr_answers (hop : w.op = 0x0C) : Answers (.stepBr e) s fun t =>
    EngineGoesOn s t e (if w.x.testBit 6 || s.flag (w.x % 32) == w.x.testBit 5 then w.imm % 16384 else s.f F.ENG_STATUS_PC e + 1) [] := by
  obtain ⟨u, hu, hrun⟩ := Act.stepSlot_goes hs (word := Act.wordBr e) hop
  refine ⟨_, rfl, ?_⟩
  rw [hrun, Act.wordBr, Act.look_run, hu.flag]
  split
  · exact (Act.branch_goesOn (Nat.mod_lt _ (by decide)) u).after hu.touches.engineAlone
  · exact hu.ends hs

/-- A word that gives one step flag a value. -/
theorem Midword.flagThenEnds {u : State} (hu : Midword e [] s u) {m : Nat} (hm : m < 32) (b : Bool) :
    let t := (Act.all [.setFlag m b, .wordEnds e]).run u
    t.flag m = b ∧ (∀ n, n < 32 → n ≠ m → t.flag n = s.flag n) ∧
    EngineGoesOn s t e (s.f F.ENG_STATUS_PC e + 1) [⟨.STEP_FLAG_SET, 0, 0, 0⟩] := by
  have hset : Within [] [⟨.STEP_FLAG_SET, 0, 0, 0⟩] [] (.setFlag m b) := .look fun _ => .setRAt
  have hmid := hu.trans (hset u) (List.nil_subset _)
  have hflags : ∀ k, ((Act.wordEnds e).run ((Act.setFlag m b).run u)).flag k = ((Act.setFlag m b).run u).flag k :=
    fun k => congrArg (BitVec.getLsbD · (k % 32)) (Act.wordEnds_r hmid hs 0 0 0)
  refine ⟨(hflags _).trans ((Act.setFlag_flag hm hm b u).trans (if_pos rfl)), fun n hn hne => ?_, hmid.ends hs⟩
  exact (hflags n).trans ((Act.setFlag_flag hm hn b u).trans ((if_neg hne).trans (hu.flag n)))

/-- A word that gives the step flags their values. -/
theorem Midword.flagsThenEnds {u : State} (hu : Midword e [] s u) (v : Word) : let t := (Act.all [.setFlags v, .wordEnds e]).run u
    t.flags = v ∧ EngineGoesOn s t e (s.f F.ENG_STATUS_PC e + 1) [⟨.STEP_FLAG_SET, 0, 0, 0⟩] :=
  have hset : Within [] [⟨.STEP_FLAG_SET, 0, 0, 0⟩] [] (.setFlags v) := .setRAt
  have hmid := hu.trans (hset u) (List.nil_subset _)
  ⟨(Act.wordEnds_r hmid hs 0 0 0).trans (Act.setFlags_flags v u), hmid.ends hs⟩

theorem stepCmp_answers (hop : w.op = 0x09) : Answers (.stepCmp e) s fun t =>
    t.flag (w.x % 32) = cmpCond (bitsOf w.x 5 3) (s.d e w.ra) (if w.x.testBit 8 then s.d e w.rb else signed 32 w.imm) ∧
    (∀ n, n < 32 → n ≠ w.x % 32 → t.flag n = s.flag n) ∧
    EngineGoesOn s t e (s.f F.ENG_STATUS_PC e + 1) [⟨.STEP_FLAG_SET, 0, 0, 0⟩] := by
  obtain ⟨u, hu, hrun⟩ := Act.stepSlot_goes hs (word := Act.wordCmp e) hop
  refine ⟨_, rfl, ?_⟩
  rw [hrun, Act.wordCmp, Act.look_run, hu.d, hu.d]
  exact hu.flagThenEnds hs (Nat.mod_lt _ (by decide)) _

theorem stepSetf_answers (hop : w.op = 0x0B) : Answers (.stepSetf e) s fun t =>
    t.flags = (if w.x = 0 then s.flags &&& ~~~BitVec.ofNat 32 w.imm else if w.x = 1 then s.flags ||| BitVec.ofNat 32 w.imm
      else s.flags ^^^ BitVec.ofNat 32 w.imm) ∧ EngineGoesOn s t e (s.f F.ENG_STATUS_PC e + 1) [⟨.STEP_FLAG_SET, 0, 0, 0⟩] := by
  obtain ⟨u, hu, hrun⟩ := Act.stepSlot_goes hs (word := Act.wordSetf e) hop
  refine ⟨_, rfl, ?_⟩
  rw [hrun, Act.wordSetf, Act.look_run, hu.flags]
  split
  · next h0 => simpa only [h0, if_true] using hu.flagsThenEnds hs _
  · next h1 => simpa only [h1, Nat.one_ne_zero, if_false, if_true] using hu.flagsThenEnds hs _
  · next h0 h1 => simpa only [if_neg h0, if_neg h1] using hu.flagsThenEnds hs _

theorem stepHalt_answers (hop : w.op = 0x01) : Answers (.stepHalt e) s fun t =>
    t.f F.ENG_STATUS_STATE e = engHalted ∧ t.f F.ENG_STATUS_PC e = s.f F.ENG_STATUS_PC e ∧ t.bit F.STEP_EVENTS_HALTED e = true ∧
    RegsKept [⟨.ENG_STATUS, e, 0, 0⟩, ⟨.STEP_EVENTS, 0, 0, 0⟩] s t ∧ BytesKept s t := by
  obtain ⟨u, hu, hrun⟩ := Act.stepSlot_goes hs (word := Act.wordHalt e) hop
  have hin : Within [] [⟨.ENG_STATUS, e, 0, 0⟩, ⟨.STEP_EVENTS, 0, 0, 0⟩] [.eng] (Act.wordHalt e w) := .all ⟨.setFAt, .setEng, .setBitAt⟩
  have hst := (hu.touches.mono (ps' := [.eng])).trans (hin u)
  refine ⟨_, rfl, ?_⟩
  rw [hrun]
  refine ⟨?state, ?pc, ?event, hst.regsKept, hst.bytesKept⟩
  all_goals rw [Act.wordHalt, Act.all_cons_run, Act.all_cons_run, Act.all_cons_run, Act.all_nil_run]
  case event => exact Act.setBit_bit_same _ _ _ _ _ _ (by decide) (by decide) e.isLt
  all_goals rw [Act.setBit_run, Act.setF_f_spared _ _ _ _ _ _ _ _ (by decide) (by decide), Act.setEng_f]
  case state => exact Act.setF_engStatus rfl (by decide) _ _
  case pc => exact (Act.setF_engStatus_spared _ _).trans hu.pc

/-! ### Calls and returns -/

theorem stepCall_answers (hop : w.op = 0x0D) (hdepth : s.f F.ENG_STATUS_DEPTH e < 8) : Answers (.stepCall e) s fun t =>
    t.eng[e].stack = (s.f F.ENG_STATUS_PC e + 1) :: s.eng[e].stack ∧ t.f F.ENG_STATUS_DEPTH e = s.f F.ENG_STATUS_DEPTH e + 1 ∧
    EngineGoesOn s t e (w.imm % 16384) [] := by
  obtain ⟨u, hu, hrun⟩ := Act.stepSlot_goes hs (word := Act.wordCall e) hop
  refine ⟨_, rfl, ?_⟩
  rw [hrun, Act.wordCall, Act.look_run, hu.depth, if_neg (Nat.not_le.mpr hdepth), hu.pc]
  exact hu.stackThenBranch _ (by omega) (Nat.mod_lt _ (by decide)) _ rfl

theorem stepCall_full (hop : w.op = 0x0D) (hdepth : 8 ≤ s.f F.ENG_STATUS_DEPTH e) : Answers (.stepCall e) s fun t =>
    t.f F.ENG_STATUS_STATE e = engFaulted ∧ t.f F.ENG_STATUS_FAULT e = 2 ∧ t.f F.ENG_STATUS_PC e = s.f F.ENG_STATUS_PC e ∧
    t.eng[e].stack = s.eng[e].stack := by
  obtain ⟨u, hu, hrun⟩ := Act.stepSlot_goes hs (word := Act.wordCall e) hop
  refine ⟨_, rfl, ?_⟩
  rw [hrun, Act.wordCall, Act.look_run, hu.depth, if_pos hdepth]
  exact hu.faults (by decide)

theorem stepRet_beyond (hop : w.op = 0x0E) (p : Nat) (l : List Nat) (hstack : s.eng[e].stack = p :: l) (hp : 16384 ≤ p) :
    Answers (.stepRet e) s fun t =>
      t.f F.ENG_STATUS_STATE e = engFaulted ∧ t.f F.ENG_STATUS_FAULT e = 3 ∧ t.f F.ENG_STATUS_PC e = s.f F.ENG_STATUS_PC e ∧
      t.eng[e].stack = s.eng[e].stack := by
  obtain ⟨u, hu, hrun⟩ := Act.stepSlot_goes hs (word := Act.wordRet e) hop
  refine ⟨_, rfl, ?_⟩
  rw [hrun, Act.wordRet_run (hu.stack.trans hstack), if_pos hp]
  exact hu.faults (by decide)

theorem stepRet_answers (hop : w.op = 0x0E) (p : Nat) (l : List Nat) (hstack : s.eng[e].stack = p :: l) (hp : p < 16384) :
    Answers (.stepRet e) s fun t =>
      t.eng[e].stack = l ∧ t.f F.ENG_STATUS_DEPTH e = s.f F.ENG_STATUS_DEPTH e - 1 ∧ EngineGoesOn s t e p [] := by
  obtain ⟨u, hu, hrun⟩ := Act.stepSlot_goes hs (word := Act.wordRet e) hop
  have hdepth : s.f F.ENG_STATUS_DEPTH e < 16 := Nat.mod_lt _ (by decide)
  refine ⟨_, rfl, ?_⟩
  rw [hrun, Act.wordRet_run (hu.stack.trans hstack), if_neg (Nat.not_le.mpr hp), hu.depth]
  exact hu.stackThenBranch l (by omega) hp _ rfl

theorem stepRet_empty (hop : w.op = 0x0E) (hstack : s.eng[e].stack = []) : Answers (.stepRet e) s fun t =>
    t.f F.ENG_STATUS_STATE e = engFaulted ∧ t.f F.ENG_STATUS_FAULT e = 2 ∧ t.f F.ENG_STATUS_PC e = s.f F.ENG_STATUS_PC e := by
  obtain ⟨u, hu, hrun⟩ := Act.stepSlot_goes hs (word := Act.wordRet e) hop
  refine ⟨_, rfl, ?_⟩
  rw [hrun, Act.wordRet_empty_run (hu.stack.trans hstack)]
  obtain ⟨hstate, hcode, hpc, -⟩ := hu.faults (code := 2) (by decide)
  exact ⟨hstate, hcode, hpc⟩

end

/-- Settles O2: each word by its lemma. -/
theorem stepWordsControlFlow : Obligations.StepWordsControlFlow := by
  unfold Obligations.StepWordsControlFlow
  intro s e w hs
  exact ⟨stepNop_answers hs, stepHalt_answers hs, stepCmp_answers hs, stepSetf_answers hs, stepBr_answers hs, stepCall_answers hs,
    stepCall_full hs, stepRet_beyond hs, stepRet_answers hs, stepRet_empty hs⟩

end Sys2Proof.Machine
end

section
-- One proof after another: elaborated side by side, the proofs of the whole text do not fit in the check's memory.
set_option Elab.async false
/-! Writes of registers that are taken or refused (R12, R30, R132). -/

namespace Sys2Proof.Machine

/-- A write that its register refuses and counts: nothing changes but the count, and the count of a fabric's master port. -/
def Refused (f : Fld) (i j : Nat) (s t : State) : Prop :=
  t.resp = .error ∧ Counted f s t i j ∧ NamesKept [f.name, .FAB_PORT_ERR] s t ∧ OnlyRegs s t

theorem Act.refuse_within (f : Fld) (i j : Nat) (src : Src) :
    Within [f.name, .FAB_PORT_ERR] [] [.resp] (.all [.refuse f i j, .masterCount src]) :=
  .all ⟨.refuse List.mem_cons_self, .masterCount (List.mem_cons_of_mem _ (List.mem_singleton.mpr rfl))⟩

theorem Act.masterCount_resp (src : Src) (s : State) : ((Act.masterCount src).run s).resp = s.resp :=
  have hin : Within [.FAB_PORT_ERR] [] [] (.masterCount src) := .masterCount
  (hin s).parts .resp (by decide)

theorem Act.masterCount_f (src : Src) {f : Fld} (i j k : Nat) (s : State) (hf : f.name ≠ .FAB_PORT_ERR) :
    ((Act.masterCount src).run s).f f i j k = s.f f i j k :=
  have hin : Within [.FAB_PORT_ERR] [] [] (.masterCount src) := .masterCount
  (hin s).f_eq i j k fun h => hf (List.mem_singleton.mp h)

theorem Act.writeTo_refused {src : Src} {n : RegName} {i j k : Nat} {s : State} (h : s.takesReg src n i j k) {a : Act} {f : Fld} {i' j' : Nat}
    (ha : a.run s = (Act.refuse f i' j').run s) (hv : RegRef.valid ⟨f.name, i', j', 0⟩ = true) (hm : f.inMask = true := by decide)
    (hf : f.name ≠ .FAB_PORT_ERR := by decide) : Refused f i' j' s ((Act.writeTo src n i j k a).run s) := by
  have hrun : (Act.writeTo src n i j k a).run s = (Act.all [.refuse f i' j', .masterCount src]).run s := by
    rw [Act.writeTo_run h, ha, Act.all_cons_run, Act.all_cons_run, Act.all_nil_run]
  have htouch := Act.refuse_within f i' j' src s
  rw [hrun]
  refine ⟨?resp, ?count, htouch.namesKept, htouch.rest⟩
  case resp => rw [Act.all_cons_run, Act.all_cons_run, Act.all_nil_run, Act.masterCount_resp]; rfl
  case count =>
    rw [Counted, Act.all_cons_run, Act.all_cons_run, Act.all_nil_run, Act.masterCount_f _ _ _ _ _ hf]
    exact Act.count_f_same f i' j' s hv hm

/-! ### Fields of a word that a register takes -/

theorem Fld.of_eq_of_bits {f : Fld} {v w : Word} (h : ∀ i, i < f.width → v.getLsbD (f.lo + i) = w.getLsbD (f.lo + i)) : f.of v = f.of w := by
  refine Nat.eq_of_testBit_eq fun i => ?_
  rw [Fld.testBit_of, Fld.testBit_of]
  by_cases hi : i < f.width
  · rw [h i hi]
  · rw [decide_eq_false hi, Bool.false_and, Bool.false_and]

theorem Fld.of_and_mask {f : Fld} (hm : f.inMask = true) (v : Word) : f.of (v &&& f.name.mask) = f.of v :=
  Fld.of_eq_of_bits fun i hi => by rw [BitVec.getLsbD_and, Fld.mask_getLsbD f hm i hi, Bool.and_true]

theorem Fld.of_put_same {f : Fld} (hm : f.inMask = true) (w : Word) (v : Nat) : f.of (f.put w v) = v % 2 ^ f.width := by
  refine Nat.eq_of_testBit_eq fun i => ?_
  simp only [Fld.inMask, Bool.and_eq_true, decide_eq_true_eq] at hm
  rw [Fld.testBit_of, Nat.testBit_mod_two_pow]
  by_cases hi : i < f.width
  · rw [Fld.put_getLsbD f w v _ (by omega), if_pos (by omega), Nat.add_sub_cancel_left]
  · rw [decide_eq_false hi, Bool.false_and, Bool.false_and]

theorem Fld.of_put_apart {f g : Fld} (ha : f.apart g = true) (hm : g.inMask = true) (w : Word) (v : Nat) : g.of (f.put w v) = g.of w := by
  simp only [Fld.inMask, Bool.and_eq_true, decide_eq_true_eq] at hm
  simp only [Fld.apart, decide_eq_true_eq] at ha
  refine Fld.of_eq_of_bits fun i hi => ?_
  rw [Fld.put_getLsbD f w v _ (by omega), if_neg (by omega)]

theorem Act.setR_f_at {f : Fld} {n : RegName} {i j k : Nat} (hv : RegRef.valid ⟨n, i, j, k⟩ = true) (v : Word) (s : State)
    (hf : f.name = n := by rfl) (hm : f.inMask = true := by decide) : ((Act.setR n v i j k).run s).f f i j k = f.of v := by
  subst hf
  rw [State.f, Act.setR_r_same _ _ _ _ _ _ hv, Fld.of_and_mask hm]

theorem Act.setR_f_ne {n : RegName} {f : Fld} (v : Word) (i j k i' j' k' : Nat) (s : State) (hf : n ≠ f.name := by decide) :
    ((Act.setR n v i j k).run s).f f i' j' k' = s.f f i' j' k' := congrArg f.of (Act.setR_r_ne _ _ _ _ _ _ _ _ _ _ hf)

theorem Act.setR_f_inst {n : RegName} {f : Fld} (v : Word) {i j k i' j' k' : Nat} (s : State) (h : ¬ (i = i' ∧ j = j' ∧ k = k'))
    (hf : f.name = n := by rfl) : ((Act.setR n v i j k).run s).f f i' j' k' = s.f f i' j' k' := by
  subst hf
  exact congrArg f.of (Act.setR_r_ne_inst _ _ _ _ _ _ _ _ _ h)

theorem State.b_false_of {s : State} {f : Fld} {i j k : Nat} (h : s.f f i j k = 0) : s.b f i j k = false := by rw [State.b, h]; rfl

/-! ### Mirrors -/

theorem State.Wf.and_mask {s : State} (hs : s.Wf) {n : RegName} {i j k : Nat} (hv : RegRef.valid ⟨n, i, j, k⟩ = true) :
    s.r n i j k &&& n.mask = s.r n i j k := by
  have hzero := hs.reserved hv
  refine BitVec.eq_of_getLsbD_eq fun b hb => ?_
  have hbit := congrArg (BitVec.getLsbD · b) hzero
  simp only [BitVec.getLsbD_and, BitVec.getLsbD_not, hb, decide_true, Bool.true_and, BitVec.ofNat_eq_ofNat, BitVec.getLsbD_zero] at hbit
  rw [BitVec.getLsbD_and]
  cases hm : n.mask.getLsbD b <;> simp_all

/-- A register takes the word of another one that has the same bits. -/
theorem Act.setR_mirror {s : State} (hs : s.Wf) {m n : RegName} {i j k : Nat} (hm : RegRef.valid ⟨m, i, j, k⟩ = true)
    (hn : RegRef.valid ⟨n, i, j, k⟩ = true) (t : State) (hmask : m.mask = n.mask := by decide) :
    ((Act.setR m (s.r n i j k) i j k).run t).r m i j k = s.r n i j k := by
  rw [Act.setR_r_same _ _ _ _ _ _ hm, hmask, hs.and_mask hn]

/-! ### Loops -/

/-- What the action for one member brings about, and those for the others keep, holds at the end. -/
theorem Act.brings_each_at {R : State → Prop} {α : Type} {l : List α} {f : α → Act} {x : α} (hx : x ∈ l) (hf : (f x).Brings R)
    (keep : ∀ y, y ≠ x → ∀ s, R s → R ((f y).run s)) : (Act.each l f).Brings R := by
  have hstep : ∀ y s, R s → R ((f y).run s) := fun y s h => by
    by_cases hy : y = x
    · exact hy ▸ hf s
    · exact keep y hy s h
  have hkeep : ∀ (l : List α) s, R s → R ((Act.each l f).run s) := by
    intro l
    induction l with
    | nil => exact fun _ h => h
    | cons y l ih => exact fun s h => ih _ (hstep y s h)
  induction l with
  | nil => exact absurd hx List.not_mem_nil
  | cons y l ih =>
    rcases List.mem_cons.mp hx with rfl | hx
    · exact fun s => hkeep l _ (hf s)
    · exact fun s => ih hx _

theorem Within.each_mem {l : List RegName} {rs : List RegRef} {ps : List Part} {α : Type} {as : List α} {f : α → Act}
    (h : ∀ x ∈ as, Within l rs ps (f x)) : Within l rs ps (.each as f) := Act.keeps_each_mem Touches.frame h

/-- Registers that are listed by their instances, listed by their names. -/
theorem Within.byName {l : List RegName} {rs : List RegRef} {ps : List Part} {a : Act} (h : Within [] rs ps a) (hl : ∀ r ∈ rs, r.name ∈ l) :
    Within l [] ps a := fun s =>
  ⟨fun n i j k hn _ => (h s).regs n i j k List.not_mem_nil fun hr => hn (hl _ hr), (h s).parts, (h s).pending⟩

theorem Within.thenAccept {l : List RegName} {rs : List RegRef} {ps : List Part} {a : Act} (h : Within l rs ps a) :
    Within l rs (.resp :: ps) (.all [a, .accept]) :=
  .all ⟨h.mono (List.Subset.refl l) (List.Subset.refl rs) (List.subset_cons_self _ ps), .accept List.mem_cons_self⟩

end Sys2Proof.Machine
end

section
-- One proof after another: elaborated side by side, the proofs of the whole text do not fit in the check's memory.
set_option Elab.async false
/-! What the shared operations of the converters do (R171 to R214): their requests, their records, and how they come to do something else. -/

namespace Sys2Proof.Machine

/-! ### Actions that leave a field alone -/

/-- The action leaves every instance of the field as it is. -/
def Leaves (f : Fld) (a : Act) : Prop := a.Keeps fun s t => ∀ i j k, t.f f i j k = s.f f i j k

namespace Leaves

variable {f : Fld} {a b : Act}

theorem frame : Frame fun s t : State => ∀ i j k, t.f f i j k = s.f f i j k :=
  ⟨fun _ _ _ _ => rfl, fun h1 h2 i j k => (h2 i j k).trans (h1 i j k)⟩

theorem skip : Leaves f .skip := Act.keeps_skip frame

theorem andThen (ha : Leaves f a) (hb : Leaves f b) : Leaves f (a.andThen b) := Act.keeps_andThen frame ha hb

theorem all {as : List Act} (h : as.Forall (Leaves f)) : Leaves f (.all as) := Act.keeps_all frame h

theorem look {x : State → Act} (h : ∀ s, Leaves f (x s)) : Leaves f (.look x) := Act.keeps_look h

theorem when {c : Bool} (h : Leaves f a) : Leaves f (.when c a) := Act.keeps_when frame h

theorem each {α : Type} {as : List α} {x : α → Act} (h : ∀ y, Leaves f (x y)) : Leaves f (.each as x) := Act.keeps_each frame as h

theorem ite {c : Prop} [Decidable c] (ha : Leaves f a) (hb : Leaves f b) : Leaves f (if c then a else b) := Act.keeps_ite ha hb

theorem setF {g : Fld} {v i j k : Nat} (h : g.spares f = true := by decide) (hm : f.inMask = true := by decide) :
    Leaves f (.setF g v i j k) := fun s i' j' k' => Act.setF_f_spared v i j k i' j' k' s h hm

theorem setB {g : Fld} {v : Bool} {i j k : Nat} (h : g.spares f = true := by decide) (hm : f.inMask = true := by decide) :
    Leaves f (.setB g v i j k) := setF h hm

theorem count {g : Fld} {n i j k : Nat} (h : g.spares f = true := by decide) (hm : f.inMask = true := by decide) :
    Leaves f (.count g n i j k) := look fun _ => setF h hm

theorem setBit {g : Fld} {b i j k : Nat} (h : g.spares f = true := by decide) (hm : f.inMask = true := by decide) :
    Leaves f (.setBit g b i j k) := look fun _ => setF h hm

theorem clrBit {g : Fld} {b i j k : Nat} (h : g.spares f = true := by decide) (hm : f.inMask = true := by decide) :
    Leaves f (.clrBit g b i j k) := look fun _ => setF h hm

theorem of_within {l : List RegName} {ps : List Part} (h : Within l [] ps a) (hf : f.name ∉ l := by decide) : Leaves f a :=
  fun s i j k => (h s).f_eq i j k hf

theorem upd {x : State → State} {hx : ∀ s, Good s (x s)} (h : ∀ s, (x s).regs = s.regs) : Leaves f (.upd x hx) := fun s i j k => by
  rw [Act.upd_run, State.f, State.f, State.r_eq, State.r_eq, h]

end Leaves

theorem Leaves.b {f : Fld} {a : Act} (h : Leaves f a) (s : State) (i j k : Nat) : (a.run s).b f i j k = s.b f i j k :=
  congrArg (· == 1) (h s i j k)

theorem Leaves.bit {f : Fld} {a : Act} (h : Leaves f a) (s : State) (b i j k : Nat) : (a.run s).bit f b i j k = s.bit f b i j k :=
  congrArg (Nat.testBit · b) (h s i j k)

theorem Act.all_f_head {f : Fld} {a : Act} {as : List Act} {s : State} {i j k : Nat} (h : Leaves f (.all as)) :
    ((Act.all (a :: as)).run s).f f i j k = (a.run s).f f i j k := by rw [Act.all_cons_run, h]

theorem Act.all_b_head {f : Fld} {a : Act} {as : List Act} {s : State} {i j k : Nat} (h : Leaves f (.all as)) :
    ((Act.all (a :: as)).run s).b f i j k = (a.run s).b f i j k := by rw [Act.all_cons_run, h.b]

theorem Act.all_bit_head {f : Fld} {a : Act} {as : List Act} {s : State} {b i j k : Nat} (h : Leaves f (.all as)) :
    ((Act.all (a :: as)).run s).bit f b i j k = (a.run s).bit f b i j k := by rw [Act.all_cons_run, h.bit]

/-! ### Values that fields take -/

section
variable {f : Fld} {n : RegName} {i j k : Nat} (hv : RegRef.valid ⟨n, i, j, k⟩ = true)
include hv

theorem Act.setF_f_at (v : Nat) (s : State) (hf : f.name = n := by rfl) (hm : f.inMask = true := by decide) :
    ((Act.setF f v i j k).run s).f f i j k = v % 2 ^ f.width := Act.setF_f_same f v i j k s (hf ▸ hv) hm

theorem Act.setB_b_at (v : Bool) (s : State) (hf : f.name = n := by rfl) (hm : f.inMask = true := by decide)
    (hw : f.width = 1 := by decide) : ((Act.setB f v i j k).run s).b f i j k = v := Act.setB_b_same f v i j k s (hf ▸ hv) hm hw

theorem Act.setBit_bit_at {b : Nat} (s : State) (hb : b < f.width) (hf : f.name = n := by rfl) (hm : f.inMask = true := by decide) :
    ((Act.setBit f b i j k).run s).bit f b i j k = true := Act.setBit_bit_same f b i j k s (hf ▸ hv) hm hb

theorem Act.clrBit_bit_at {b : Nat} (s : State) (hb : b < f.width) (hf : f.name = n := by rfl) (hm : f.inMask = true := by decide) :
    ((Act.clrBit f b i j k).run s).bit f b i j k = false := Act.clrBit_bit_same f b i j k s (hf ▸ hv) hm hb

end

theorem valid_cvStatus (g : Grp) (n : Cv) : RegRef.valid ⟨.CV_STATUS, g, n, 0⟩ = true := RegRef.valid_of g.isLt n.isLt
theorem valid_cvSeqState (g : Grp) (n : Cv) : RegRef.valid ⟨.CV_SEQ_STATE, g, n, 0⟩ = true := RegRef.valid_of g.isLt n.isLt
theorem valid_cvInjReq (g : Grp) (n : Cv) : RegRef.valid ⟨.CV_INJ_REQ, g, n, 0⟩ = true := RegRef.valid_of g.isLt n.isLt
theorem valid_cvRecords (g : Grp) (n : Cv) : RegRef.valid ⟨.CV_RECORDS, g, n, 0⟩ = true := RegRef.valid_of g.isLt n.isLt
theorem valid_cvCtrl (g : Grp) (n : Cv) : RegRef.valid ⟨.CV_CTRL, g, n, 0⟩ = true := RegRef.valid_of g.isLt n.isLt
theorem valid_cvPasses (g : Grp) (n : Cv) : RegRef.valid ⟨.CV_PASSES, g, n, 0⟩ = true := RegRef.valid_of g.isLt n.isLt
theorem valid_cvShadow (g : Grp) (n : Cv) : RegRef.valid ⟨.CV_SHADOW, g, n, 0⟩ = true := RegRef.valid_of g.isLt n.isLt

/-! ### What a converter holds beside its registers -/

/-- One element of a vector of vectors takes a value. -/
theorem getElem_set_set {α : Type} {p q : Nat} (v : Vector (Vector α q) p) (g g' : Fin p) (n n' : Fin q) (x : α) :
    (v.set g (v[g].set n x))[g'][n'] = if g = g' ∧ n = n' then x else v[g'][n'] := by
  simp only [Fin.getElem_fin, Vector.getElem_set, Fin.val_inj]
  by_cases hg : g = g'
  · subst hg
    by_cases hn : n = n'
    · simp [hn]
    · simp [hn, Fin.val_inj]
  · simp [hg]

theorem Act.setCv_cv (g g' : Grp) (n n' : Cv) (x : ConvSt → ConvSt) (s : State) :
    ((Act.setCv g n x).run s).cv g' n' = if g = g' ∧ n = n' then x (s.cv g n) else s.cv g' n' := getElem_set_set ..

theorem Act.setCv_cv_same (g : Grp) (n : Cv) (x : ConvSt → ConvSt) (s : State) : ((Act.setCv g n x).run s).cv g n = x (s.cv g n) :=
  (Act.setCv_cv ..).trans (if_pos ⟨rfl, rfl⟩)

theorem Act.setCv_cv_ne {g g' : Grp} {n n' : Cv} (x : ConvSt → ConvSt) (s : State) (h : ¬ (g = g' ∧ n = n')) :
    ((Act.setCv g n x).run s).cv g' n' = s.cv g' n' := (Act.setCv_cv ..).trans (if_neg h)

section
variable (v : Word) (f : Fld) (x b : Nat) (y : Bool) (i j k : Nat) (g : Grp) (n : Cv) (s : State)

@[simp] theorem Act.setR_cv (m : RegName) : ((Act.setR m v i j k).run s).cv g n = s.cv g n := by rw [State.cv, Act.setR_conv]; rfl

@[simp] theorem Act.setF_cv : ((Act.setF f x i j k).run s).cv g n = s.cv g n := Act.setR_cv ..

@[simp] theorem Act.setB_cv : ((Act.setB f y i j k).run s).cv g n = s.cv g n := Act.setR_cv ..

@[simp] theorem Act.setBit_cv : ((Act.setBit f b i j k).run s).cv g n = s.cv g n := Act.setR_cv ..

end

theorem Touches.cv {l : List RegName} {rs : List RegRef} {ps : List Part} {s t : State} (h : Touches l rs ps s t) (g : Grp) (n : Cv)
    (hp : Part.conv ∉ ps := by decide) : t.cv g n = s.cv g n := by
  have hconv : t.conv = s.conv := h.parts .conv hp
  rw [State.cv, State.cv, hconv]

/-- The state of a converter that comes to do something else at system clock `clk`. -/
def ConvSt.turned (x : ConvSt) (run : ConvRun) (next : ConvNext) (clk : Nat) : ConvSt := { x with
  run := run, next := next, began := clk, opened := none, dec := .clear, settle := 0
  front := match run with
    | .inj k => k
    | .off | .idle | .visit | .hold | .stopped | .restart | .unserved => x.front }

theorem Act.cvRun_run (g : Grp) (n : Cv) (run : ConvRun) (next : ConvNext) (s : State) :
    (Act.cvRun g n run next).run s = (Act.cvStatus g n).run ((Act.setCv g n (·.turned run next s.clk)).run s) := rfl

/-! ### Status -/

theorem Within.ovrNow {g : Grp} {m : Mod} {on : Bool} : Within [.CV_STATUS, .CV8_STATUS] [] [] (.ovrNow g m on) := .ite .setB (.when .setB)

theorem Within.ovrEnd {g : Grp} {m : Mod} : Within [.CV_STATUS, .CV8_STATUS] [] [.ovl] (.ovrEnd g m) := .look fun _ => .all ⟨.setOvl, Within.ovrNow.mono⟩

theorem Within.modStop {g : Grp} {m : Mod} : Within [.CV_STATUS, .CV8_STATUS] [] [.ovl] (.modStop g m) := .look fun _ => .when .ovrEnd

theorem Within.cvStatus {g : Grp} {n : Cv} : Within [.CV_STATUS, .CV_SEQ_STATE, .CV8_STATUS] [] [.ovl] (.cvStatus g n) :=
  .look fun _ => .all ⟨.setB, .setB, .setB, .when .setB, Within.modStop.mono⟩

theorem Within.cvRun {g : Grp} {n : Cv} {run : ConvRun} {next : ConvNext} :
    Within [.CV_STATUS, .CV_SEQ_STATE, .CV8_STATUS] [] [.ovl, .conv] (.cvRun g n run next) :=
  .look fun _ => .all ⟨.setCv, Within.cvStatus.mono⟩

theorem Within.visit {g : Grp} {n : Cv} {e : Nat} : Within [.CV_STATUS, .CV_SEQ_STATE, .CV8_STATUS] [] [.ovl, .conv] (.visit g n e) :=
  .all ⟨.setF, .look fun _ => .setF, .cvRun⟩

theorem Leaves.modStop {f : Fld} {g : Grp} {m : Mod} (h : F.CV_STATUS_OVR_NOW.spares f = true := by decide)
    (h8 : F.CV8_STATUS_OVR_NOW.spares f = true := by decide) (hm : f.inMask = true := by decide) : Leaves f (.modStop g m) :=
  .look fun _ => .when (.look fun _ => .all ⟨.upd fun _ => rfl, .ite (.setB h hm) (.when (.setB h8 hm))⟩)

/-- The field is none of those that follow what a converter does. -/
def Fld.outsideRun (f : Fld) : Bool :=
  F.CV_STATUS_RUNNING.spares f && F.CV_STATUS_INJ_ACTIVE.spares f && F.CV_SEQ_STATE_IDLE.spares f && F.CV8_STATUS_RUNNING.spares f &&
  F.CV_STATUS_OVR_NOW.spares f && F.CV8_STATUS_OVR_NOW.spares f && f.inMask

theorem Leaves.cvStatus {f : Fld} {g : Grp} {n : Cv} (h : f.outsideRun = true := by decide) : Leaves f (.cvStatus g n) := by
  simp only [Fld.outsideRun, Bool.and_eq_true] at h
  obtain ⟨⟨⟨⟨⟨⟨hrunning, hinj⟩, hidle⟩, hspare⟩, hovr⟩, hovr8⟩, hm⟩ := h
  exact .look fun _ => .all ⟨.setB hrunning hm, .setB hinj hm, .setB hidle hm, .when (.setB hspare hm), .modStop hovr hovr8 hm⟩

theorem Leaves.cvRun {f : Fld} {g : Grp} {n : Cv} {run : ConvRun} {next : ConvNext} (h : f.outsideRun = true := by decide) :
    Leaves f (.cvRun g n run next) := .look fun _ => .all ⟨.upd fun _ => rfl, .cvStatus h⟩

theorem Act.cvRun_cv_same (g : Grp) (n : Cv) (run : ConvRun) (next : ConvNext) (s : State) :
    ((Act.cvRun g n run next).run s).cv g n = (s.cv g n).turned run next s.clk := by
  rw [Act.cvRun_run, (Within.cvStatus _).cv, Act.setCv_cv_same]

theorem Act.cvRun_cv_ne {g g' : Grp} {n n' : Cv} (run : ConvRun) (next : ConvNext) (s : State) (h : ¬ (g = g' ∧ n = n')) :
    ((Act.cvRun g n run next).run s).cv g' n' = s.cv g' n' := by
  rw [Act.cvRun_run, (Within.cvStatus _).cv, Act.setCv_cv_ne _ _ h]

theorem Act.cvStatus_running (g : Grp) (n : Cv) (s : State) :
    ((Act.cvStatus g n).run s).b F.CV_STATUS_RUNNING g n = ((s.cv g n).run.works && !s.onSpare g n) := by
  rw [Act.cvStatus, Act.look_run]
  refine (Act.all_b_head ?_).trans (Act.setB_b_at (valid_cvStatus g n) _ _)
  exact .all ⟨.setB, .setB, .when .setB, .modStop⟩

theorem Act.cvStatus_injActive (g : Grp) (n : Cv) (s : State) :
    ((Act.cvStatus g n).run s).b F.CV_STATUS_INJ_ACTIVE g n = ((s.cv g n).run.injecting || (s.cv g n).run == .hold) := by
  rw [Act.cvStatus, Act.look_run, Act.all_cons_run]
  refine (Act.all_b_head ?_).trans (Act.setB_b_at (valid_cvStatus g n) _ _)
  exact .all ⟨.setB, .when .setB, .modStop⟩

theorem Act.cvRun_running (g : Grp) (n : Cv) (run : ConvRun) (next : ConvNext) (s : State) :
    ((Act.cvRun g n run next).run s).b F.CV_STATUS_RUNNING g n = (run.works && !s.onSpare g n) := by
  rw [Act.cvRun_run, Act.cvStatus_running, Act.setCv_cv_same]; rfl

theorem Act.cvRun_injActive (g : Grp) (n : Cv) (run : ConvRun) (next : ConvNext) (s : State) :
    ((Act.cvRun g n run next).run s).b F.CV_STATUS_INJ_ACTIVE g n = (run.injecting || run == .hold) := by
  rw [Act.cvRun_run, Act.cvStatus_injActive, Act.setCv_cv_same]; rfl

/-! ### A visit -/

/-- The words of a set in force follow from the registers of the sets and from what the converters hold. -/
theorem Touches.entryConversion {l : List RegName} {ps : List Part} {s t : State} (h : Touches l [] ps s t) (g : Grp) (n : Cv) (e : Nat)
    (hcv : ∀ m, t.cv g m = s.cv g m) (hpol : Part.pol ∉ ps := by decide) (hl : ∀ m ∈ [.CV_CTRL, .CV_ENTRY, .CVM_ENTRY, .CV_ENTRY_T, .CVM_ENTRY_T], m ∉ l := by decide) :
    t.entryConversion g n e = s.entryConversion g n e := by
  have hr : ∀ {m : RegName} (i j k : Nat), m ∈ [RegName.CV_CTRL, .CV_ENTRY, .CVM_ENTRY, .CV_ENTRY_T, .CVM_ENTRY_T] → t.r m i j k = s.r m i j k :=
    fun i j k hm => h.r_eq i j k (hl _ hm)
  have hgov : t.governor g n = s.governor g n := by
    rw [State.governor, State.governor, State.interleaved, State.interleaved, State.b, State.b, State.f, State.f, hr _ _ _ (by decide)]
  have hsec : t.pol = s.pol := h.parts .pol hpol
  have hin : ∀ i, t.reducedInput i = s.reducedInput i := fun i => by simp only [State.reducedInput, State.section, hsec]
  simp only [State.entryConversion, State.reducedConversion, State.seqWord, hcv, hgov, hin, hr (m := .CV_ENTRY) _ _ _ (by decide),
    hr (m := .CVM_ENTRY) _ _ _ (by decide), hr (m := .CV_ENTRY_T) _ _ _ (by decide), hr (m := .CVM_ENTRY_T) _ _ _ (by decide)]

theorem Act.visit_cv_same (g : Grp) (n : Cv) (e : Nat) (s : State) :
    ((Act.visit g n e).run s).cv g n = (s.cv g n).turned .visit .idle s.clk := by
  rw [Act.visit, Act.all_cons_run, Act.all_cons_run, Act.all_cons_run, Act.all_nil_run, Act.cvRun_cv_same, Act.look_run]
  simp only [State.cv, Act.setF_conv, Act.setF_clk]

theorem Act.visit_entry (g : Grp) (n : Cv) (e : Nat) (s : State) :
    ((Act.visit g n e).run s).f F.CV_STATUS_ENTRY g n = e % 16 := by
  rw [Act.visit]
  refine (Act.all_f_head ?_).trans (Act.setF_f_at (valid_cvStatus g n) _ _)
  exact .all ⟨.look fun _ => .setF, .cvRun⟩

theorem State.entryConversion_count_lt (s : State) (g : Grp) (n : Cv) (e : Nat) : (s.entryConversion g n e).count < 256 := by
  rw [State.entryConversion]
  split
  · exact (by decide : 0 < 256)
  · exact Nat.mod_lt _ (by decide)

theorem Act.visit_remain (g : Grp) (n : Cv) (e : Nat) (s : State) :
    ((Act.visit g n e).run s).f F.CV_SEQ_STATE_REMAIN g n = (s.entryConversion g n e).count + 1 := by
  have hset : Within [.CV_STATUS] [] [] (.setF F.CV_STATUS_ENTRY e g n) := .setF
  have hlt := s.entryConversion_count_lt g n e
  rw [Act.visit, Act.all_cons_run, Act.all_cons_run, Act.all_cons_run, Act.all_nil_run, Leaves.cvRun, Act.look_run,
    Act.setF_f_at (valid_cvSeqState g n), (hset s).entryConversion g n e fun m => (hset s).cv g m]
  exact Nat.mod_eq_of_lt (show _ < 512 by omega)

/-! ### Records -/

theorem Within.setBerth {l : List RegName} {rs : List RegRef} {ps : List Part} {b : Nat} {x : BerthSt → BerthSt}
    (h : Part.harb ∈ ps := by decide) : Within l rs ps (.setBerth b x) := fun s =>
  { regs := fun n i j k _ _ => by simp only [Act.setBerth]; split <;> rfl
    parts := fun y hy => by
      simp only [Act.setBerth]
      split
      · cases y
        case harb => exact absurd h hy
        all_goals rfl
      · exact y.same_refl s
    pending := by simp only [Act.setBerth]; split <;> rfl }

theorem Within.water {b : Nat} : Within [.HARB_STATUS] [] [] (.water b) :=
  .look fun _ => .all ⟨.when (.all ⟨.setB, .count⟩), .when (.all ⟨.setB, .count⟩), .setB, .setB⟩

theorem Within.commitPacket {b : Nat} {p : List HCell} : Within [.HARB_STATUS] [] [.harb] (.commitPacket b p) :=
  .look fun _ => .ite (.all ⟨.setBerth, .setB⟩) .setBerth

theorem Within.gapMark {b : Nat} : Within [.HARB_STATUS] [] [.harb] (.gapMark b) :=
  .look fun _ => .ite (.all ⟨.commitPacket, .setBerth, .setB, .setB, Within.water.mono⟩) .skip

theorem Within.dropItem {b : Nat} : Within [.HARB_STATUS, .HARB_COUNTS] [] [.harb] (.dropItem b) :=
  .look fun _ => .all ⟨.setBerth, .count, .setB⟩

theorem Within.moduleRecord {b : Nat} {c0 c1 : DWord} :
    Within [.HARB_STATUS, .HARB_COUNTS, .HARB_LOSS] [] [.harb] (.moduleRecord b c0 c1) :=
  .look fun _ => .ite .count (.andThen Within.gapMark.mono
    (.look fun _ => .ite (.andThen Within.commitPacket.mono Within.water.mono) Within.dropItem.mono))

theorem Within.storeRed {i : Nat} {c0 c1 : DWord} :
    Within [.SYS_RED_CELL0_LO, .SYS_RED_CELL0_HI, .SYS_RED_STAMP_LO, .SYS_RED_STAMP_HI] [] [] (.storeRed i c0 c1) :=
  .all ⟨.setR, .setR, .setR, .setR⟩

theorem Within.trkFeed {conv : Nat} {taps : Bool} {t : Int} {due : Nat} {x : Int} {flagged : Bool} {period : Nat} :
    Within [] [] [.trk] (.trkFeed conv taps t due x flagged period) := .each fun _ => .look fun _ => .when .setTrk

/-- The registers that a record may change. -/
abbrev recordNames : List RegName := [.CV_RECORDS, .SYS_RED_CELL0_LO, .SYS_RED_CELL0_HI, .SYS_RED_STAMP_LO, .SYS_RED_STAMP_HI, .HARB_STATUS, .HARB_COUNTS, .HARB_LOSS]

/-- The parts of the state that a record may change. -/
abbrev recordParts : List Part := [.harb, .lim, .trk, .conv]

theorem Within.record {g : Grp} {n : Cv} {x : Rec} {input : Option Nat} : Within recordNames [] recordParts (.record g n x input) :=
  .look fun _ => .all ⟨.setF, .when .count, .when (.look fun _ => Within.trkFeed.mono), .setLim,
    by cases input <;> [exact .skip; exact Within.storeRed.mono], .look fun _ => .when .setCv, .when Within.moduleRecord.mono⟩

theorem Within.failRecord {g : Grp} {n : Cv} {cause entry : Nat} {injected : Bool} :
    Within recordNames [] recordParts (.failRecord g n cause entry injected) := .look fun _ => .record

theorem Act.record_nextSeq (g : Grp) (n : Cv) (x : Rec) (input : Option Nat) (s : State) :
    ((Act.record g n x input).run s).f F.CV_RECORDS_NEXT_SEQ g n = (s.f F.CV_RECORDS_NEXT_SEQ g n + 1) % 65536 := by
  rw [Act.record, Act.look_run]
  refine (Act.all_f_head ?_).trans (Act.setF_f_at (valid_cvRecords g n) _ _)
  exact .all ⟨.when .count, .when (.of_within (ps := [.trk]) (.look fun _ => .trkFeed)), .of_within (l := []) (ps := [.lim]) .setLim,
    by cases input <;> [exact .skip; exact .of_within .storeRed], .look fun _ => .when (.upd fun _ => rfl), .when (.of_within .moduleRecord)⟩

/-- The converters hold what they did, but for the number of their last record in a berth. -/
def ConvsKept (s t : State) : Prop := ∀ g n, ∃ l, t.cv g n = { s.cv g n with landed := l }

theorem ConvsKept.frame : Frame ConvsKept where
  refl s g n := ⟨(s.cv g n).landed, rfl⟩
  trans h1 h2 g n := by
    obtain ⟨l, hl⟩ := h1 g n
    obtain ⟨l', hl'⟩ := h2 g n
    exact ⟨l', by rw [hl', hl]⟩

theorem Touches.convsKept {l : List RegName} {rs : List RegRef} {ps : List Part} {s t : State} (h : Touches l rs ps s t)
    (hp : Part.conv ∉ ps := by decide) : ConvsKept s t := fun g n => ⟨(s.cv g n).landed, h.cv g n hp⟩

theorem Act.setCv_landed (g : Grp) (n : Cv) (l : Option Nat) : (Act.setCv g n fun x => { x with landed := l }).Keeps ConvsKept := fun s g' n' => by
  by_cases h : g = g' ∧ n = n'
  · obtain ⟨rfl, rfl⟩ := h
    exact ⟨l, Act.setCv_cv_same _ _ _ _⟩
  · exact ⟨_, Act.setCv_cv_ne _ _ h⟩

theorem Act.record_convsKept (g : Grp) (n : Cv) (x : Rec) (input : Option Nat) : (Act.record g n x input).Keeps ConvsKept := by
  have hwithin : ∀ {a : Act}, Within recordNames [] [.harb, .lim, .trk] a → a.Keeps ConvsKept := fun h s => (h s).convsKept
  have hlanded : ∀ l, (Act.setCv g n fun x => { x with landed := l }).Keeps ConvsKept := Act.setCv_landed g n
  refine Act.keeps_look fun s => Act.keeps_all ConvsKept.frame ?_
  refine ⟨hwithin .setF, hwithin (.when .count), hwithin (.when (.look fun _ => Within.trkFeed.mono)), hwithin .setLim, ?red,
    Act.keeps_look fun t => Act.keeps_when ConvsKept.frame (hlanded _), hwithin (.when Within.moduleRecord.mono)⟩
  cases input
  · exact hwithin .skip
  · exact hwithin Within.storeRed.mono

theorem Act.failRecord_nextSeq (g : Grp) (n : Cv) (cause entry : Nat) (injected : Bool) (s : State) :
    ((Act.failRecord g n cause entry injected).run s).f F.CV_RECORDS_NEXT_SEQ g n = (s.f F.CV_RECORDS_NEXT_SEQ g n + 1) % 65536 := by
  rw [Act.failRecord, Act.look_run, Act.record_nextSeq]

theorem Act.failRecord_convsKept (g : Grp) (n : Cv) (cause entry : Nat) (injected : Bool) :
    (Act.failRecord g n cause entry injected).Keeps ConvsKept :=
  have hrecord : ∀ x input, (Act.record g n x input).Keeps ConvsKept := Act.record_convsKept g n
  Act.keeps_look fun _ => hrecord _ _

theorem ConvsKept.run {s t : State} (h : ConvsKept s t) (g : Grp) (n : Cv) : (t.cv g n).run = (s.cv g n).run := by
  obtain ⟨l, hl⟩ := h g n
  rw [hl]

end Sys2Proof.Machine
end

section
-- One proof after another: elaborated side by side, the proofs of the whole text do not fit in the check's memory.
set_option Elab.async false
/-! Requests to converters: what takes them, what waits for its acting edge, and what acts there (R199, R200, R206, R211, R467). -/

namespace Sys2Proof.Machine

variable {s : State} {src : Src} {g : Grp} {n : Cv}

/-! ### Start requests -/

/-- R467: a request that waits, before the write is answered. -/
theorem Act.actLater_waits (a : CvAct) (s : State) : WaitsForEdge s ((Act.accept).run ((Act.actLater g n a).run s)) g n a :=
  have hset : ∀ g' m, ((Act.accept).run ((Act.actLater g n a).run s)).cv g' m =
      ((Act.setCv g n fun x => { x with acts := x.acts ++ [(actingEdge s.clk, a)] }).run s).cv g' m := fun _ _ => rfl
  ⟨congrArg ConvSt.acts ((hset g n).trans (Act.setCv_cv_same ..)),
    fun m hm => (hset g m).trans (Act.setCv_cv_ne _ _ fun h => hm h.2.symm), rfl⟩

theorem Act.seqStart_run (h : s.takesStart g n) :
    (Act.seqCtl g n true false).run s = Act.accept.run ((Act.actLater g n .start).run s) := by
  obtain ⟨hreleased, hgov⟩ := h
  simp only [Act.seqCtl, Act.look_run, hreleased, hgov, bne_self_eq_false, Bool.not_true, Bool.false_and, Bool.or_self, Bool.false_eq_true,
    if_false, Act.all_cons_run, Act.all_nil_run, Act.when_run, if_true, Act.startRequest]

theorem seqStart_answers (hw : s.takesReg src .CV_SEQ_CTL g n) (h : s.takesStart g n) : Answers (.seqStart src g n) s fun t =>
    t.resp = .ok 0 ∧ t.regs = s.regs ∧ WaitsForEdge s t g n .start := by
  have hrun := Act.writeTo_accepted (d := 0) hw (a := Act.seqCtl g n true false) (by rw [Act.seqStart_run h]; rfl)
  refine ⟨_, rfl, ?_⟩
  rw [hrun, Act.seqStart_run h]
  exact ⟨rfl, rfl, Act.actLater_waits .start s⟩

theorem startActs_idle (hignores : s.ignoresRequests g n = false) (hidle : (s.cv g n).run = .idle) :
    let u := (Act.cvAct g n .start).run s
    (u.cv g n).run = .visit ∧ (u.cv g n).opened = none ∧ (u.cv g n).began = s.clk ∧ u.f F.CV_STATUS_ENTRY g n = 0 ∧
    u.f F.CV_SEQ_STATE_REMAIN g n = (s.entryConversion g n 0).count + 1 ∧
    NamesKept [.CV_STATUS, .CV_SEQ_STATE, .CV8_STATUS] s u ∧
    u = { s with regs := u.regs, conv := u.conv, ovl := u.ovl } := by
  have hrun : (Act.cvAct g n .start).run s = (Act.visit g n 0).run s := by
    rw [Act.cvAct, Act.startActs, Act.look_run, hignores, if_neg Bool.false_ne_true, if_pos hidle]
  have hin : Within [.CV_STATUS, .CV_SEQ_STATE, .CV8_STATUS] [] [.ovl, .conv] (.visit g n 0) := .visit
  have hcv := Act.visit_cv_same g n 0 s
  intro u
  rw [show u = _ from hrun]
  exact ⟨congrArg ConvSt.run hcv, congrArg ConvSt.opened hcv, congrArg ConvSt.began hcv, Act.visit_entry g n 0 s, Act.visit_remain g n 0 s,
    (hin s).namesKept, (hin s).rest⟩

/-! ### Advance requests -/

/-- One converter takes an advance request. -/
def Act.advanceTakes (g : Grp) (n : Cv) (edge : Nat) : Act :=
  .all [.setB F.CV_SEQ_STATE_ADV_PEND true g n, .setCv g n fun x => { x with advAt := edge }]

theorem Act.advanceTakes_advPend (m : Cv) (edge : Nat) (s : State) :
    ((Act.advanceTakes g m edge).run s).b F.CV_SEQ_STATE_ADV_PEND g n = (s.b F.CV_SEQ_STATE_ADV_PEND g n || decide (m = n)) := by
  have hset : ((Act.advanceTakes g m edge).run s).b F.CV_SEQ_STATE_ADV_PEND g n =
      ((Act.setB F.CV_SEQ_STATE_ADV_PEND true g m).run s).b F.CV_SEQ_STATE_ADV_PEND g n := rfl
  rw [hset]
  by_cases h : m = n
  · rw [h, Act.setB_b_at (valid_cvSeqState g n), decide_eq_true rfl, Bool.or_true]
  · rw [decide_eq_false h, Bool.or_false, State.b, Act.setB_eq, Act.setF_f_inst _ _ _ _ _ _ _ _ _ _ fun e => h (Fin.ext e.2.1)]
    rfl

theorem Act.advanceTakes_advAt (m : Cv) (edge : Nat) (s : State) :
    (((Act.advanceTakes g m edge).run s).cv g n).advAt = if m = n then edge else (s.cv g n).advAt := by
  have hset : ∀ t, ((Act.setCv g m fun x => { x with advAt := edge }).run t).cv g n =
      if g = g ∧ m = n then { t.cv g m with advAt := edge } else t.cv g n := fun t => Act.setCv_cv ..
  rw [Act.advanceTakes, Act.all_cons_run, Act.all_cons_run, Act.all_nil_run, hset]
  split
  · next h => rw [if_pos h.2]
  · next h => rw [if_neg fun e => h ⟨rfl, e⟩, State.cv, State.cv, Act.setB_eq, Act.setF_conv]

theorem Act.advanceRequest_run (h : s.advances g n) : (Act.advanceRequest g n).run s =
    (Act.each (s.governed g n) fun m => Act.advanceTakes g m (actingEdge s.clk)).run s := by
  obtain ⟨-, -, hignores, hvisit, hpend⟩ := h
  have hpass : (s.cv g n).passless = false := by simp [ConvSt.passless, ConvRun.injecting, hvisit]
  have hrestart : ((s.cv g n).run == .restart) = false := by rw [hvisit]; decide
  simp only [Act.advanceRequest, Act.look_run, hignores, hpass, hrestart, hpend, Bool.false_and, Bool.or_self, Bool.false_eq_true,
    if_false, Act.advanceTakes]

theorem Act.seqAdvance_run (h : s.advances g n) : (Act.seqCtl g n false true).run s =
    Act.accept.run ((Act.each (s.governed g n) fun m => Act.advanceTakes g m (actingEdge s.clk)).run s) := by
  rw [← Act.advanceRequest_run h]
  obtain ⟨hreleased, hgov, -⟩ := h
  simp only [Act.seqCtl, Act.look_run, hreleased, hgov, bne_self_eq_false, Bool.not_true, Bool.false_and, Bool.or_self, Bool.false_eq_true,
    if_false, Act.all_cons_run, Act.all_nil_run, Act.when_run, if_true]

theorem State.mem_governed (s : State) (g : Grp) (n : Cv) : n ∈ s.governed g n := by
  rw [State.governed]
  split
  · have hn : n = evenOf n ∨ n = oddOf n := by simp only [evenOf, oddOf, Fin.ext_iff]; omega
    simpa using hn
  · exact List.mem_singleton.mpr rfl

/-- A pair's converters, or the converter alone, take the advance request. -/
theorem Act.advanceTakes_each (l : List Cv) (edge : Nat) (s : State) :
    let t := (Act.each l fun m => Act.advanceTakes g m edge).run s
    (t.b F.CV_SEQ_STATE_ADV_PEND g n = (s.b F.CV_SEQ_STATE_ADV_PEND g n || decide (n ∈ l))) ∧
    (t.cv g n).advAt = if n ∈ l then edge else (s.cv g n).advAt := by
  induction l generalizing s with
  | nil => exact ⟨by simp [Act.each], by simp [Act.each]⟩
  | cons m l ih =>
    obtain ⟨hpend, hat⟩ := ih ((Act.advanceTakes g m edge).run s)
    refine ⟨hpend.trans ?_, hat.trans ?_⟩
    · rw [Act.advanceTakes_advPend]
      simp only [List.mem_cons, Bool.decide_or, Bool.or_assoc, eq_comm (a := n)]
    · rw [Act.advanceTakes_advAt]
      by_cases hl : n ∈ l <;> simp [hl, eq_comm]

theorem Within.advanceTakes {rs : List RegRef} {m : Cv} {edge : Nat} (h : (⟨.CV_SEQ_STATE, g, m, 0⟩ : RegRef) ∈ rs) :
    Within [] rs [.conv] (.advanceTakes g m edge) := .all ⟨.setBAt h, .setCv⟩

theorem Act.advanceTakes_within (s : State) (edge : Nat) :
    Within [] [⟨.CV_SEQ_STATE, g, evenOf n, 0⟩, ⟨.CV_SEQ_STATE, g, oddOf n, 0⟩] [.conv]
      (.each (s.governed g n) fun m => Act.advanceTakes g m edge) := by
  refine Within.each_mem fun m hm => ?_
  have hm' : m = evenOf n ∨ m = oddOf n := by
    rw [State.governed] at hm
    split at hm
    · simpa using hm
    · rw [List.mem_singleton.mp hm]
      simp only [evenOf, oddOf, Fin.ext_iff]
      omega
  exact .advanceTakes (by rcases hm' with rfl | rfl <;> simp)

theorem seqAdvance_answers (hw : s.takesReg src .CV_SEQ_CTL g n) (h : s.advances g n) : Answers (.seqAdvance src g n) s fun t =>
    t.resp = .ok 0 ∧ t.b F.CV_SEQ_STATE_ADV_PEND g n = true ∧ (t.cv g n).advAt = actingEdge s.clk ∧
    RegsKept [⟨.CV_SEQ_STATE, g, evenOf n, 0⟩, ⟨.CV_SEQ_STATE, g, oddOf n, 0⟩] s t ∧
    t = { s with regs := t.regs, conv := t.conv, resp := t.resp } := by
  have hrun := Act.writeTo_accepted (d := 0) hw (a := Act.seqCtl g n false true) (by rw [Act.seqAdvance_run h]; rfl)
  have hmem := s.mem_governed g n
  obtain ⟨hpend, hat⟩ := Act.advanceTakes_each (g := g) (n := n) (s.governed g n) (actingEdge s.clk) s
  have htouch := (Act.advanceTakes_within (g := g) (n := n) s (actingEdge s.clk)).thenAccept s
  refine ⟨_, rfl, ?_⟩
  rw [hrun, Act.seqAdvance_run h]
  refine ⟨rfl, hpend.trans ?_, hat.trans (if_pos hmem), htouch.regsKept, htouch.rest⟩
  rw [decide_eq_true hmem, Bool.or_true]

/-! ### Injected conversions -/

theorem slotsOf_two_pow (k : Fin 4) : slotsOf (2 ^ k.val) = [k] := by decide +revert

theorem slotsOf_zero : slotsOf 0 = [] := rfl

theorem slotMask_toNat (k : Fin 4) : (BitVec.ofNat 4 (2 ^ k.val)).toNat = 2 ^ k.val := by decide +revert

theorem slotBit_mod (k : Fin 4) : (0 ||| 1 <<< k.val) % 2 ^ 4 = 2 ^ k.val := by decide +revert

theorem Act.injReq_run (hreleased : s.released = true) (req can : Nat) :
    (Act.injReq g n req can).run s = (Act.all [.inject g n req, .cancel g n can, .accept]).run s := by
  simp only [Act.injReq, Act.look_run, hreleased, Bool.not_true, Bool.false_and, Bool.false_eq_true, if_false]

/-- A slot takes a request. -/
def Act.slotTakes (g : Grp) (n : Cv) (k : Fin 4) (edge : Nat) : Act :=
  .all [.setBit F.CV_INJ_REQ_PENDING k g n, .setCv g n fun y => { y with actAt := y.actAt.set k edge }]

theorem Act.injectSlot_run {k : Fin 4} (h : s.injects g n k) :
    (Act.injectSlot g n k).run s = (Act.slotTakes g n k (actingEdge s.clk)).run s := by
  obtain ⟨-, halive, hvisit, hstopping, henabled, hreduced, hgood, hnone⟩ := h
  have hparked : s.parkedOut g n = false := by
    simp only [State.parkedOut, State.parkedIdle, hvisit, hstopping]
    rfl
  have hbit : s.bit F.CV_INJ_REQ_PENDING k g n = false := by rw [State.bit, hnone, Nat.zero_testBit]
  simp only [Act.injectSlot, Act.look_run, halive, hvisit, henabled, hreduced, hparked, hgood, hnone, hbit, Bool.not_true, Bool.false_eq_true,
    if_false, reduceCtorEq, Act.slotTakes]

theorem Act.slotTakes_pending {k : Fin 4} (edge : Nat) (hnone : s.f F.CV_INJ_REQ_PENDING g n = 0) :
    ((Act.slotTakes g n k edge).run s).f F.CV_INJ_REQ_PENDING g n = 2 ^ k.val := by
  have hset : ((Act.slotTakes g n k edge).run s).f F.CV_INJ_REQ_PENDING g n =
      ((Act.setBit F.CV_INJ_REQ_PENDING k g n).run s).f F.CV_INJ_REQ_PENDING g n := rfl
  rw [hset, Act.setBit_run, hnone, Act.setF_f_at (valid_cvInjReq g n)]
  exact slotBit_mod k

theorem injectRequest_answers {k : Fin 4} (hw : s.takesReg src .CV_INJ_REQ g n) (h : s.injects g n k) :
    Answers (.injectRequest src g n (BitVec.ofNat 4 (2 ^ k.val))) s fun t =>
      t.resp = .ok 0 ∧ t.f F.CV_INJ_REQ_PENDING g n = 2 ^ k.val ∧ (t.cv g n).actAt[k] = actingEdge s.clk ∧
      RegsKept [⟨.CV_INJ_REQ, g, n, 0⟩] s t ∧ t = { s with regs := t.regs, conv := t.conv, resp := t.resp } := by
  have heffect : (Act.injReq g n (BitVec.ofNat 4 (2 ^ k.val)).toNat 0).run s =
      (Act.all [.slotTakes g n k (actingEdge s.clk), .accept]).run s := by
    simp only [Act.injReq_run h.1, slotMask_toNat, Act.inject, slotsOf_two_pow, Act.cancel, slotsOf_zero, Act.all_cons_run, Act.all_nil_run,
      Act.each_cons_run, Act.each_nil_run, Act.injectSlot_run h]
  have hrun := Act.writeTo_accepted (d := 0) hw (a := Act.injReq g n (BitVec.ofNat 4 (2 ^ k.val)).toNat 0) (by rw [heffect]; rfl)
  have hin : Within [] [⟨.CV_INJ_REQ, g, n, 0⟩] [.conv, .resp] (.all [.slotTakes g n k (actingEdge s.clk), .accept]) :=
    .all ⟨.all ⟨.setBitAt, .setCv⟩, .accept⟩
  have htouch := hin s
  have hcv : ((Act.slotTakes g n k (actingEdge s.clk)).run s).cv g n =
      { s.cv g n with actAt := (s.cv g n).actAt.set k (actingEdge s.clk) } := by
    rw [Act.slotTakes, Act.all_cons_run, Act.all_cons_run, Act.all_nil_run, Act.setCv_cv_same, State.cv, Act.setBit_conv]
    rfl
  obtain ⟨-, -, -, -, -, -, -, hnone⟩ := h
  refine ⟨_, rfl, ?_⟩
  rw [hrun, heffect]
  have hpending := Act.slotTakes_pending (k := k) (actingEdge s.clk) hnone
  have hedge : (((Act.slotTakes g n k (actingEdge s.clk)).run s).cv g n).actAt[k] = actingEdge s.clk := by rw [hcv]; simp
  exact ⟨rfl, hpending, hedge, htouch.regsKept, htouch.rest⟩

/-! ### Cancellations -/

theorem injectCancel_answers {k : Fin 4} (hw : s.takesReg src .CV_INJ_REQ g n) (hreleased : s.released = true)
    (hpend : s.bit F.CV_INJ_REQ_PENDING k g n = true) :
    AnswersThenModes (.injectCancel src g n (BitVec.ofNat 4 (2 ^ k.val))) s fun u =>
      u.resp = .ok 0 ∧ u.regs = s.regs ∧ WaitsForEdge s u g n (.cancel k (s.cv g n).actAt[k]) := by
  have heffect : (Act.injReq g n 0 (BitVec.ofNat 4 (2 ^ k.val)).toNat).run s =
      Act.accept.run ((Act.actLater g n (.cancel k (s.cv g n).actAt[k])).run s) := by
    rw [Act.injReq_run hreleased, slotMask_toNat]
    simp only [Act.inject, Act.cancel, slotsOf_zero, slotsOf_two_pow, Act.all_cons_run, Act.all_nil_run, Act.each_nil_run, Act.each_cons_run, Act.look_run,
      Act.when_run, hpend, if_true]
  have hrun := Act.writeTo_accepted (d := 0) hw (a := Act.injReq g n 0 (BitVec.ofNat 4 (2 ^ k.val)).toNat) (by rw [heffect]; rfl)
  refine ⟨_, rfl, ?_⟩
  rw [hrun, heffect]
  exact ⟨rfl, rfl, Act.actLater_waits _ s⟩

theorem Within.slotFree {k : Nat} : Within [.CV_INJ_REQ, .CAL_STATUS] [] [.spare] (.slotFree g n k) :=
  .all ⟨.clrBit, .look fun _ => .when (.all ⟨.setF, .setSpare⟩)⟩

theorem Act.slotFree_pending (k : Fin 4) (s : State) : ((Act.slotFree g n k).run s).bit F.CV_INJ_REQ_PENDING k g n = false := by
  rw [Act.slotFree]
  refine (Act.all_bit_head ?_).trans (Act.clrBit_bit_at (valid_cvInjReq g n) s k.isLt)
  exact .all (by exact .look fun _ => .when (.all ⟨.setF, .upd fun _ => rfl⟩))

/-- R211: a slot whose conversion is not in progress is cancelled: one record, and the slot is free. -/
theorem Act.cancel_visit_run {k : Fin 4} (hpend : s.bit F.CV_INJ_REQ_PENDING k g n = true) (hvisit : (s.cv g n).run = .visit) :
    (Act.cvAct g n (.cancel k (s.cv g n).actAt[k])).run s = (Act.slotFree g n k).run ((Act.failRecord g n 5 k true).run s) := by
  simp only [Act.cvAct, Act.cancelSlot, Act.look_run, beq_self_eq_true, Act.when_true_run, hpend, hvisit, Act.all_cons_run, Act.all_nil_run,
    reduceCtorEq, false_and, or_self, if_false, Act.skip_run]

theorem cancelActs_visit {k : Fin 4} (hpend : s.bit F.CV_INJ_REQ_PENDING k g n = true) (hvisit : (s.cv g n).run = .visit) :
    let u := (Act.cvAct g n (.cancel k (s.cv g n).actAt[k])).run s
    u.bit F.CV_INJ_REQ_PENDING k g n = false ∧ (u.cv g n).run = .visit ∧
    u.f F.CV_RECORDS_NEXT_SEQ g n = (s.f F.CV_RECORDS_NEXT_SEQ g n + 1) % 65536 := by
  have hfree := fun t => Within.slotFree (g := g) (n := n) (k := k) t
  intro u
  rw [show u = _ from Act.cancel_visit_run hpend hvisit]
  refine ⟨Act.slotFree_pending k _, ?run, ?seq⟩
  case run => rw [(hfree _).cv, (Act.failRecord_convsKept g n 5 k true s).run, hvisit]
  case seq => rw [(hfree _).f_eq, Act.failRecord_nextSeq]

/-- Settles O7: each request by its lemma. -/
theorem converterRequests : Obligations.ConverterRequests := by
  unfold Obligations.ConverterRequests
  intro s src g n
  exact ⟨seqStart_answers, startActs_idle, seqAdvance_answers, fun _ => injectRequest_answers, fun _ => injectCancel_answers,
    fun _ => cancelActs_visit⟩

end Sys2Proof.Machine
end

section
-- One proof after another: elaborated side by side, the proofs of the whole text do not fit in the check's memory.
set_option Elab.async false
/-! What the boundaries of converters, and the moves of work to and from the spare, may change (R196 to R205, R344, R424 to R429). -/

namespace Sys2Proof.Machine

/-- The registers that a boundary may change. -/
abbrev workNames : List RegName := [.CV_STATUS, .CV_SEQ_STATE, .CV8_STATUS, .CV_PASSES, .FAULT_STATUS, .FAULT_EVENTS, .FAULT_SPARE, .FAULT_CONV,
  .CAL_STATUS, .CAL_FAILS, .CELL_STATUS]

/-- The parts of the state that a boundary may change. -/
abbrev workParts : List Part := [.ovl, .conv, .spare, .cal, .mon, .log, .seed, .flash, .cells]

variable {g : Grp} {n : Cv}

namespace Within

theorem promotionReport : Within workNames [] workParts (.promotionReport g n) := by
  refine .look fun s => ?_
  split
  · exact .when (.all ⟨.updPart .spare (fun _ => rfl) (fun _ => rfl) (by decide), .look fun _ => .setB, .setB, .log⟩)
  · exact .skip

theorem promoteDecide {before : Nat} : Within workNames [] workParts (.promoteDecide g n before) :=
  .look fun _ => .all ⟨.setB, .setF, .setF, .setB, .setSpare⟩

theorem backgroundEnd {r : CalRun} {cause : Nat} : Within [.CAL_FAILS] [] [.cal] (.backgroundEnd g r cause) :=
  .look fun _ => .when (.ite .setCal (.all ⟨.setCal, .when (.ite .setBit .setBit)⟩))

theorem calEnd {cause : Nat} {stage : Bool} :
    Within [.FAULT_STATUS, .FAULT_EVENTS, .CAL_STATUS, .CAL_FAILS] [] [.cal, .log, .seed] (.calEnd g cause stage) := by
  refine .look fun s => ?_
  split
  · exact .skip
  · refine .all ⟨.logMulti, .setF, .setF, .setB, .ite .setB .setB, .when ?_, backgroundEnd.mono, .setCal⟩
    split
    · exact .setCal
    · exact .skip

theorem calFree {cause : Nat} {stage : Bool} : Within workNames [] workParts (.calFree g cause stage) :=
  .all ⟨calEnd.mono, .setF, .setB, modStop.mono, .setSpare⟩

theorem coreStandBack : Within [] [] [.mon] (.coreStandBack g) := .look fun _ => .when .setMon

theorem preempt : Within workNames [] workParts (.preempt g n) :=
  .look fun _ => .ite (.all ⟨calFree, coreStandBack.mono, promoteDecide⟩) (.all ⟨.setCal, .setF, .setSpare⟩)

theorem declareFailed {cause : Nat} : Within workNames [] workParts (.declareFailed g n cause) :=
  .look fun _ => .when (.all ⟨.setB, .setBit, .setB, .log, .updPart .flash (fun _ => rfl) (fun _ => rfl) (by decide),
    .when (.ite promoteDecide (.ite preempt (.ite (.ite (.all ⟨calEnd.mono, .setF, .setSpare⟩) (.when preempt)) .skip)))⟩)

theorem promoteLowest : Within workNames [] workParts (.promoteLowest g) := by
  refine .look fun _ => .when ?_
  split
  · exact promoteDecide
  · exact .skip

theorem calRangeCheck {r : CalRun} {cause : Nat} : Within workNames [] workParts (.calRangeCheck g r cause) :=
  .look fun _ => .when (.ite (.all ⟨.setCal, declareFailed⟩) .setCal)

theorem carry {spare : Bool} : Within workNames [] workParts (.carry g n spare) :=
  .all ⟨.setB, .when (.all ⟨.setB, modStop.mono⟩), cvStatus.mono, modStop.mono⟩

theorem spareTake {role : Nat} : Within workNames [] workParts (.spareTake g n role) :=
  .look fun _ => .all ⟨.setSpare, .setF, .setF, .setCv, carry, .ite (.all ⟨.setF, .look fun _ => .setCal⟩)
    (.all ⟨calEnd.mono, coreStandBack.mono, .setB, .setB, .log⟩)⟩

theorem spareBack {step : Bool} : Within workNames [] workParts (.spareBack g n step) := by
  refine .look fun _ => .all ⟨.setSpare, .setF, .setF, carry, .ite (.all ⟨calEnd.mono, .setCv, ?_⟩) (.all ⟨.setB, .setB, .log, .setCv⟩), ?_⟩
  · split
    · exact calRangeCheck
    · exact .skip
  · split
    · exact promoteDecide
    · exact promoteLowest

theorem spareMove {edge : Bool} : Within workNames [] workParts (.spareMove g n edge) := by
  refine .look fun _ => ?_
  dsimp only
  split
  · exact .skip
  · exact .when spareTake
  · exact .when spareBack

theorem cvStop {next : ConvNext} : Within workNames [] workParts (.cvStop g n next) :=
  .look fun _ => .all ⟨.setCv, .when .setF, cvRun.mono⟩

theorem resumeVisit : Within workNames [] workParts (.resumeVisit g n) := .all ⟨.setB, cvRun.mono⟩

theorem keepVisit {settle : Nat} : Within workNames [] workParts (.keepVisit g n settle) := .all ⟨.look fun _ => .setF, .setCv⟩

theorem goIdle : Within workNames [] workParts (.goIdle g n) :=
  .look fun _ => .ite (.all ⟨.setB, visit.mono⟩) (.all ⟨.setF, cvRun.mono⟩)

theorem proceed {next : ConvNext} {keep : Option Nat} : Within workNames [] workParts (.proceed g n next keep) := by
  cases next with
  | resume => exact .look fun _ => .ite cvStop resumeVisit
  | start e =>
    refine .look fun _ => .andThen spareMove (.look fun _ => .ite cvStop ?_)
    split
    · exact .ite visit.mono keepVisit
    · exact visit.mono
  | idle => exact .andThen spareMove (.look fun _ => .ite cvStop goIdle)

theorem follow {next : ConvNext} {keep : Option Nat} {wait : Bool} : Within workNames [] workParts (.follow g n next keep wait) := by
  refine .look fun _ => .ite cvStop ?_
  split
  · exact cvRun.mono
  · exact .ite cvRun.mono proceed

theorem pairHandover {keep : Option Nat} : Within workNames [] workParts (.pairHandover g n keep) := by
  refine .look fun _ => .when ?_
  split
  · exact .when .setCv
  · exact .all ⟨.setCv, .when visit.mono⟩

theorem factoryNow : Within [] [] [.cal, .conv] (.factoryNow g n) := .look fun _ => .when (.all ⟨.setCal, .setCv⟩)

theorem cvTake : Within [] [] [.conv] (.cvTake g n) := .look fun _ => .setCv

theorem cvTakeNow : Within [.CV_SEQ_STATE] [] [.conv] (.cvTakeNow g n) :=
  .look fun _ => .when (.all ⟨cvTake.mono, .look fun _ => .when .setB⟩)

theorem cellControl {c : Cell} {source : Bool} : Within [.CELL_STATUS] [] [.cells] (.cellControl g c source) :=
  .look fun _ => .all ⟨.setB, .setCells⟩

theorem cellsActive {on : Bool} : Within [.CELL_STATUS] [] [.cells] (.cellsActive g on) :=
  .each fun _ => .look fun _ => .all ⟨.setB, cellControl⟩

theorem cellTake : Within [.CELL_STATUS] [] [.cells] (.cellTake g) :=
  .look fun _ => .all ⟨.setCells, .each fun _ => .when (.look fun _ => .setCells), .look fun _ => cellsActive⟩

theorem boundary : Within workNames [] workParts (.boundary g n) :=
  .look fun _ => .andThen (.all ⟨.when cellTake.mono, .when cvTake.mono⟩)
    (.look fun _ => .all ⟨.when pairHandover, factoryNow.mono, .when .setB, .when .setCv, .when .setB, .setF, .when .setR, follow⟩)

theorem afterOutput : Within workNames [] workParts (.afterOutput g n) := .look fun _ => .ite boundary (.when cvStop)

end Within

end Sys2Proof.Machine
end

section
-- One proof after another: elaborated side by side, the proofs of the whole text do not fit in the check's memory.
set_option Elab.async false
/-! What comes to a converter by itself (R171, R184, R187, R196, R208 to R210, R56, R425). -/

namespace Sys2Proof.Machine

variable {s : State} {g : Grp} {n : Cv}

/-! ### Windows -/

theorem windowOpen_answers {t : Nat} (hup : s.up = true) (halive : s.alive g = true) (hclosed : (s.cv g n).opened = none)
    (hdue : s.windowDue g n = some t) (hfrom : t ≤ s.clk) (huntil : s.clk < t + 16) : Answers (.windowOpen g n) s fun u =>
      (u.cv g n).opened = some t ∧ (u.cv g n).dec = .clear ∧ (u.cv g n).run = (s.cv g n).run ∧ u = { s with conv := u.conv } ∧
      (s.asPair g n = true → (s.cv g n).run = .visit → n.val % 2 = 0 → (u.cv g n).grid = some ((s.cv g n).grid.getD t)) := by
  have hrun : (Act.windowOpen g n).run s = (Act.when (s.asPair g n && (s.cv g n).run == .visit && n.val % 2 == 0)
      (.setCv g n fun x => { x with grid := some (x.grid.getD t) })).run
        ((Act.setCv g n fun x => { x with opened := some t, dec := .clear }).run s) := by
    simp only [Act.windowOpen, Act.look_run, hdue, hup, halive, hclosed, hfrom, huntil, and_self, decide_true, Bool.and_self, beq_self_eq_true,
      Act.when_true_run, Act.all_cons_run, Act.all_nil_run]
  have hcv : (((Act.windowOpen g n).run s).cv g n) = { s.cv g n with
      opened := some t
      dec := .clear
      grid := if s.asPair g n && (s.cv g n).run == .visit && n.val % 2 == 0 then some ((s.cv g n).grid.getD t) else (s.cv g n).grid } := by
    rw [hrun, Act.when_run]
    split <;> simp only [Act.setCv_cv_same]
  have hin : Within [] [] [.conv] (.windowOpen g n) := by
    refine .look fun _ => ?_
    split
    · exact .when (.all ⟨.setCv, .when .setCv⟩)
    · exact .skip
  have hregs : ((Act.windowOpen g n).run s).regs = s.regs := by
    rw [hrun, Act.when_run]
    split <;> rfl
  refine ⟨_, rfl, congrArg ConvSt.opened hcv, congrArg ConvSt.dec hcv, by rw [hcv], ?rest, fun hpair hvisit heven => ?grid⟩
  case rest => exact (hin s).rest.trans (congrArg (fun r => ({ s with regs := r, conv := ((Act.windowOpen g n).run s).conv } : State)) hregs)
  case grid =>
    refine (congrArg ConvSt.grid hcv).trans ?_
    simp [hpair, hvisit, heven]

/-! ### Outputs -/

/-- R187: an output takes the next number of its converter. -/
def TakesNumber (g : Grp) (n : Cv) (s u : State) : Prop :=
  u.f F.CV_RECORDS_NEXT_SEQ g n = (s.f F.CV_RECORDS_NEXT_SEQ g n + 1) % 65536 ∧ u.clk = s.clk ∧ u.time = s.time

/-- A record, before what follows from it. -/
theorem Act.record_takesNumber {x : Rec} {input : Option Nat} {as : List Act} (h : Within workNames [] workParts (.all as)) (s : State) :
    TakesNumber g n s ((Act.all (.record g n x input :: as)).run s) := by
  have hrecord := Within.record (g := g) (n := n) (x := x) (input := input) s
  have hafter := h ((Act.record g n x input).run s)
  rw [Act.all_cons_run]
  exact ⟨(hafter.f_eq g n 0).trans (Act.record_nextSeq g n x input s), (hafter.parts .clk (by decide)).trans (hrecord.parts .clk (by decide)),
    (hafter.parts .time (by decide)).trans (hrecord.parts .time (by decide))⟩

/-- R178: whatever value settling gives an output. -/
theorem Act.filtered_any {P : State → Prop} {settling : Bool} {y : ℚ} {a : ℚ → Act} {s : State}
    (h : ∀ z k, P ((a z).run { s with seed := k })) : P ((Act.filtered settling y a).run s) := by
  cases settling
  · exact h y s.seed
  · exact h _ _

theorem Act.output_takesNumber {c : Nat} (hup : s.up = true) (halive : s.alive g = true) (hvisit : (s.cv g n).run = .visit)
    (hopen : (s.cv g n).opened = some c) (hinstant : s.outputInstant (s.entryConversion g n (s.f F.CV_STATUS_ENTRY g n)) c = true) :
    TakesNumber g n s ((Act.output g n).run s) := by
  rw [Act.output, Act.look_run]
  simp only [hopen, hup, halive, hvisit, hinstant, Bool.and_self, beq_self_eq_true, Act.when_true_run]
  refine Act.filtered_any (P := TakesNumber g n s) fun z k => Act.record_takesNumber ?_ { s with seed := k }
  exact .all ⟨.setCv, .setF, .promotionReport, .afterOutput⟩

theorem converterOutput_answers {c : Nat} (hup : s.up = true) (halive : s.alive g = true) (hvisit : (s.cv g n).run = .visit)
    (hopen : (s.cv g n).opened = some c) (hinstant : s.outputInstant (s.entryConversion g n (s.f F.CV_STATUS_ENTRY g n)) c = true) :
    AnswersThenModes (.converterOutput g n ()) s fun u =>
      u.f F.CV_RECORDS_NEXT_SEQ g n = (s.f F.CV_RECORDS_NEXT_SEQ g n + 1) % 65536 ∧ u.clk = s.clk ∧ u.time = s.time :=
  ⟨(Act.output g n).run s, rfl, Act.output_takesNumber hup halive hvisit hopen hinstant⟩

theorem Act.injectedOutput_frees {k : Fin 4} {c : Nat} (hup : s.up = true) (halive : s.alive g = true) (hinj : (s.cv g n).run = .inj k)
    (hopen : (s.cv g n).opened = some c) (hinstant : s.outputInstant (s.slotConversion g n k) c = true) :
    let u := (Act.injectedOutput g n).run s
    u.bit F.CV_INJ_REQ_PENDING k g n = false ∧ u.f F.CV_RECORDS_NEXT_SEQ g n = (s.f F.CV_RECORDS_NEXT_SEQ g n + 1) % 65536 := by
  intro u
  have hlast : ∀ a : State → Act, (∀ t, Within workNames [] workParts (a t)) →
      Within workNames [] workParts (.all [.promotionReport g n, .look a]) := fun a h => .all ⟨.promotionReport, .look h⟩
  have hafter : ∀ t : State, Within workNames [] workParts
      (if (t.cv g n).stopping then .cvStop g n (t.cv g n).next else .follow g n (t.cv g n).next none true) := fun _ => .ite .cvStop .follow
  have hu : u = (Act.injectedOutput g n).run s := rfl
  rw [Act.injectedOutput, Act.look_run] at hu
  simp only [hopen, hup, halive, hinj, hinstant, Bool.and_self, Act.when_true_run] at hu
  rw [hu, Act.all_cons_run, Act.all_cons_run, Act.all_cons_run]
  refine ⟨((hlast _ hafter) _).bit_eq k g n 0 |>.trans (Act.slotFree_pending k _), ((hlast _ hafter) _).f_eq g n 0 |>.trans ?_⟩
  rw [(Within.slotFree _).f_eq, Act.setCv_f, Act.record_nextSeq]

theorem injectedOutput_answers {k : Fin 4} {c : Nat} (hup : s.up = true) (halive : s.alive g = true) (hinj : (s.cv g n).run = .inj k)
    (hopen : (s.cv g n).opened = some c) (hinstant : s.outputInstant (s.slotConversion g n k) c = true) :
    AnswersThenModes (.injectedOutput g n ()) s fun u =>
      u.bit F.CV_INJ_REQ_PENDING k g n = false ∧ u.f F.CV_RECORDS_NEXT_SEQ g n = (s.f F.CV_RECORDS_NEXT_SEQ g n + 1) % 65536 :=
  ⟨(Act.injectedOutput g n).run s, rfl, Act.injectedOutput_frees hup halive hinj hopen hinstant⟩

/-! ### Slots that act -/

theorem injectAct_idle_answers {k : Fin 4} (hreleased : s.released = true) (hedge : s.clk % 16 = 0) (hparked : s.parkedOut g n = false)
    (hready : s.readySlot g n = some k) (hidle : (s.cv g n).run = .idle) : Answers (.injectAct g n) s fun t =>
      (t.cv g n).run = .inj k ∧ (t.cv g n).next = .idle ∧ t.b F.CV_STATUS_INJ_ACTIVE g n = true := by
  have hrun : (Act.injectAct g n).run s = (Act.cvRun g n (.inj k) .idle).run s := by
    simp only [Act.injectAct, Act.look_run, hreleased, hedge, hparked, hready, hidle, beq_self_eq_true, Bool.not_false, Bool.and_self,
      Act.when_true_run]
  have hcv := Act.cvRun_cv_same g n (.inj k) .idle s
  refine ⟨_, rfl, ?_⟩
  rw [hrun]
  exact ⟨congrArg ConvSt.run hcv, congrArg ConvSt.next hcv, Act.cvRun_injActive ..⟩

theorem injectAct_visit_answers {k : Fin 4} (hreleased : s.released = true) (hedge : s.clk % 16 = 0) (hparked : s.parkedOut g n = false)
    (hready : s.readySlot g n = some k) (hvisit : (s.cv g n).run = .visit)
    (hdefer : (s.entryConversion g n (s.f F.CV_STATUS_ENTRY g n)).defer = false) : Answers (.injectAct g n) s fun t =>
      (t.cv g n).run = .inj k ∧ (t.cv g n).next = .resume ∧ t.b F.CV_SEQ_STATE_INTERRUPTED g n = true := by
  have hrun : (Act.injectAct g n).run s =
      (Act.cvRun g n (.inj k) .resume).run ((Act.setB F.CV_SEQ_STATE_INTERRUPTED true g n).run s) := by
    simp only [Act.injectAct, Act.look_run, hreleased, hedge, hparked, hready, hvisit, hdefer, beq_self_eq_true, Bool.not_false, Bool.and_self,
      Act.when_true_run, Act.all_cons_run, Act.all_nil_run]
  have hcv := Act.cvRun_cv_same g n (.inj k) .resume ((Act.setB F.CV_SEQ_STATE_INTERRUPTED true g n).run s)
  refine ⟨_, rfl, ?_⟩
  rw [hrun]
  refine ⟨congrArg ConvSt.run hcv, congrArg ConvSt.next hcv, ?_⟩
  rw [Leaves.b (.cvRun), Act.setB_b_at (valid_cvSeqState g n)]

/-! ### The restart after REDUCED -/

theorem State.readySlot_none (h : s.slotPending g n = false) : s.readySlot g n = none := by
  have hzero : s.f F.CV_INJ_REQ_PENDING g n = 0 := by simpa [State.slotPending] using h
  simp [State.readySlot, State.bit, hzero, List.find?_eq_none]

theorem Act.spareMove_none (edge : Bool) (h : s.spare[g].move = .none) : (Act.spareMove g n edge).run s = s := by
  rw [Act.spareMove, Act.look_run]
  simp only [h, Act.skip_run]

/-- R196: entry `e` comes next where no slot is pending, nothing stops the converter and no work moves. -/
theorem Act.follow_start_run {e : Nat} {wait : Bool} (hpend : s.slotPending g n = false) (hstopping : (s.cv g n).stopping = false)
    (hmove : s.spare[g].move = .none) : (Act.follow g n (.start e) none wait).run s = (Act.visit g n e).run s := by
  simp only [Act.follow, Act.look_run, hpend, hstopping, Bool.and_self, Bool.and_false, Bool.false_eq_true, if_false, State.readySlot_none hpend,
    Act.proceed, Act.andThen_run, Act.spareMove_none false hmove]

theorem reducedExitRestart_answers (hrestart : (s.cv g n).run = .restart) (halive : s.alive g = true) (hparked : s.mode parked = false)
    (hpend : s.slotPending g n = false) (hstopping : (s.cv g n).stopping = false) (honce : s.seqOnce g n = false)
    (hmove : s.spare[g].move = .none) (hedge : s.restartEdge g n ≤ s.clk) : Answers (.reducedExitRestart g n) s fun t =>
      (t.cv g n).run = .visit ∧ t.f F.CV_STATUS_ENTRY g n = 0 ∧ NamesKept [.CV_STATUS, .CV_SEQ_STATE, .CV8_STATUS] s t := by
  have hrun : (Act.cvRestart g n).run s = (Act.visit g n 0).run s := by
    simp only [Act.cvRestart, Act.look_run, hrestart, halive, hparked, honce, hedge, beq_self_eq_true, decide_true, Bool.and_self,
      Act.when_true_run, Bool.false_and, Bool.false_eq_true, if_false, Act.follow_start_run hpend hstopping hmove]
  refine ⟨_, rfl, ?_⟩
  rw [hrun]
  exact ⟨congrArg ConvSt.run (Act.visit_cv_same g n 0 s), Act.visit_entry g n 0 s, (Within.visit s).namesKept⟩

/-! ### Accounting -/

/-- R212, R213: what a converter owed is accounted for: no slot is pending, and nothing of its sequence waits. -/
structure Accounted (g : Grp) (n : Cv) (s u : State) : Prop where
  pending : u.f F.CV_INJ_REQ_PENDING g n = 0
  startPend : u.b F.CV_SEQ_STATE_START_PEND g n = false
  advPend : u.b F.CV_SEQ_STATE_ADV_PEND g n = false
  remain : u.f F.CV_SEQ_STATE_REMAIN g n = 0
  touches : Touches (.CV_INJ_REQ :: .CV_SEQ_STATE :: recordNames) [] recordParts s u
  conv : ∃ l, u.cv g n = { s.cv g n with landed := l, startAt := none, stopping := false }

/-- The FAIL records of an accounting. -/
def Act.accountRecords (g : Grp) (n : Cv) (cause : Nat) (s : State) : Act := .all [
  match (s.cv g n).run with
    | .visit => .failRecord g n cause (s.f F.CV_STATUS_ENTRY g n) false
    | .inj k => .failRecord g n cause k true
    | .off | .idle | .hold | .stopped | .restart | .unserved => .skip,
  .each (slotsOf (s.f F.CV_INJ_REQ_PENDING g n)) (fun k => .when ((s.cv g n).run != .inj k) (.failRecord g n cause k true))]

theorem Act.account_run (cause : Nat) (s : State) : (Act.account g n cause).run s = (Act.all [
    .setF F.CV_INJ_REQ_PENDING 0 g n, .setB F.CV_SEQ_STATE_START_PEND false g n, .setB F.CV_SEQ_STATE_ADV_PEND false g n,
    .setB F.CV_SEQ_STATE_INTERRUPTED false g n, .setF F.CV_SEQ_STATE_REMAIN 0 g n,
    .setCv g n fun x => { x with startAt := none, stopping := false }]).run ((Act.accountRecords g n cause s).run s) := rfl

theorem Within.accountRecords {cause : Nat} : Within recordNames [] recordParts (.accountRecords g n cause s) := by
  refine .all ⟨?_, .each fun _ => .when .failRecord⟩
  split <;> first | exact .failRecord | exact .skip

theorem Act.accountRecords_convsKept (cause : Nat) (s : State) : (Act.accountRecords g n cause s).Keeps ConvsKept := by
  have hfail : ∀ entry injected, (Act.failRecord g n cause entry injected).Keeps ConvsKept := Act.failRecord_convsKept g n cause
  refine Act.keeps_all ConvsKept.frame ⟨?_, Act.keeps_each ConvsKept.frame _ fun _ => Act.keeps_when ConvsKept.frame (hfail _ _)⟩
  split
  · exact hfail _ _
  · exact hfail _ _
  all_goals exact Act.keeps_skip ConvsKept.frame

theorem Act.account_accounted (cause : Nat) (s : State) : Accounted g n s ((Act.account g n cause).run s) := by
  rw [Act.account_run]
  have hconv : ∃ l, ((Act.accountRecords g n cause s).run s).cv g n = { s.cv g n with landed := l } :=
    Act.accountRecords_convsKept cause s s g n
  have hrecords : Within (.CV_INJ_REQ :: .CV_SEQ_STATE :: recordNames) [] recordParts (.accountRecords g n cause s) := Within.accountRecords.mono
  have htouch := hrecords s
  generalize (Act.accountRecords g n cause s).run s = t at hconv htouch ⊢
  have hin : Within (.CV_INJ_REQ :: .CV_SEQ_STATE :: recordNames) [] recordParts (.all [
    .setF F.CV_INJ_REQ_PENDING 0 g n, .setB F.CV_SEQ_STATE_START_PEND false g n, .setB F.CV_SEQ_STATE_ADV_PEND false g n,
    .setB F.CV_SEQ_STATE_INTERRUPTED false g n, .setF F.CV_SEQ_STATE_REMAIN 0 g n,
    .setCv g n fun x => { x with startAt := none, stopping := false }]) := .all ⟨.setF, .setB, .setB, .setB, .setF, .setCv⟩
  refine ⟨?pending, ?startPend, ?advPend, ?remain, htouch.trans (hin t), ?conv⟩
  case pending =>
    refine (Act.all_f_head ?_).trans (Act.setF_f_at (valid_cvInjReq g n) _ _)
    exact .all ⟨.setB, .setB, .setB, .setF, .upd fun _ => rfl⟩
  case startPend =>
    rw [Act.all_cons_run]
    refine (Act.all_b_head ?_).trans (Act.setB_b_at (valid_cvSeqState g n) _ _)
    exact .all ⟨.setB, .setB, .setF, .upd fun _ => rfl⟩
  case advPend =>
    rw [Act.all_cons_run, Act.all_cons_run]
    refine (Act.all_b_head ?_).trans (Act.setB_b_at (valid_cvSeqState g n) _ _)
    exact .all ⟨.setB, .setF, .upd fun _ => rfl⟩
  case remain =>
    rw [Act.all_cons_run, Act.all_cons_run, Act.all_cons_run, Act.all_cons_run]
    refine (Act.all_f_head ?_).trans (Act.setF_f_at (valid_cvSeqState g n) _ _)
    exact .all (by exact .upd fun _ => rfl)
  case conv =>
    obtain ⟨l, hl⟩ := hconv
    refine ⟨l, ?_⟩
    rw [State.cv] at hl
    rw [Act.all_cons_run, Act.all_cons_run, Act.all_cons_run, Act.all_cons_run, Act.all_cons_run, Act.all_cons_run, Act.all_nil_run,
      Act.setCv_cv_same, State.cv, Act.setF_conv, Act.setB_conv, Act.setB_conv, Act.setB_conv, Act.setF_conv, hl]

theorem Leaves.cvTakeNow {f : Fld} (h : F.CV_SEQ_STATE_IDLE.spares f = true := by decide) (hm : f.inMask = true := by decide) :
    Leaves f (.cvTakeNow g n) :=
  .look fun _ => .when (.all ⟨.look fun _ => .upd fun _ => rfl, .look fun _ => .when (.setB h hm)⟩)

theorem Act.cvTakeNow_run (s : State) : (((Act.cvTakeNow g n).run s).cv g n).run = (s.cv g n).run := by
  rw [Act.cvTakeNow, Act.look_run, Act.when_run]
  split
  · rw [Act.all_cons_run, Act.all_cons_run, Act.all_nil_run, Act.look_run, Act.when_run]
    have htake : ((Act.cvTake g n).run s).cv g n = { s.cv g n with handed := true, handedAt := s.clk } := by
      rw [Act.cvTake, Act.look_run, Act.setCv_cv_same]
    split
    · rw [State.cv, Act.setB_conv, ← State.cv, htake]
    · rw [htake]
  · rfl

theorem convUnserved_answers (hserved : s.served g n = false) (hrun : (s.cv g n).run ≠ .unserved) (hpromote : s.spare[g].promote ≠ some n) :
    Answers (.convUnserved g n) s fun t =>
      (t.cv g n).run = .unserved ∧ t.f F.CV_INJ_REQ_PENDING g n = 0 ∧ t.b F.CV_SEQ_STATE_START_PEND g n = false ∧
      t.b F.CV_SEQ_STATE_ADV_PEND g n = false ∧ t.f F.CV_SEQ_STATE_REMAIN g n = 0 := by
  have hsteps : (Act.unserve g n).run s =
      (Act.cvTakeNow g n).run ((Act.cvRun g n .unserved .idle).run ((Act.account g n 6).run s)) := by
    simp only [Act.unserve, Act.look_run, hserved, bne_iff_ne.mpr hrun, beq_eq_false_iff_ne.mpr hpromote, Bool.not_false, Bool.and_self,
      Bool.false_and, Act.when_true_run, Act.all_cons_run, Act.all_nil_run]
  have hacc := Act.account_accounted (g := g) (n := n) 6 s
  refine ⟨_, rfl, ?_⟩
  rw [hsteps]
  refine ⟨?_, ?_, ?_, ?_, ?_⟩
  · rw [Act.cvTakeNow_run, Act.cvRun_cv_same]; rfl
  · rw [Leaves.cvTakeNow, Leaves.cvRun, hacc.pending]
  · rw [Leaves.b .cvTakeNow, Leaves.b .cvRun, hacc.startPend]
  · rw [Leaves.b .cvTakeNow, Leaves.b .cvRun, hacc.advPend]
  · rw [Leaves.cvTakeNow, Leaves.cvRun, hacc.remain]

/-- Settles O8: each event by its lemma. -/
theorem converterEvents : Obligations.ConverterEvents := by
  unfold Obligations.ConverterEvents
  intro s g n
  exact ⟨fun _ => windowOpen_answers, fun _ => converterOutput_answers, fun _ _ => injectedOutput_answers, fun _ => injectAct_idle_answers,
    fun _ => injectAct_visit_answers, reducedExitRestart_answers, convUnserved_answers⟩

end Sys2Proof.Machine
end

section
-- One proof after another: elaborated side by side, the proofs of the whole text do not fit in the check's memory.
set_option Elab.async false
/-! Writes of a converter's CTRL, and what acts at the edges that they wait for (R184, R198, R212, R467). -/

namespace Sys2Proof.Machine

variable {s : State} {src : Src} {g : Grp} {n : Cv} {v : Word}

/-! ### What other changes leave of a sequence -/

theorem Touches.mode {l : List RegName} {ps : List Part} {s t : State} (h : Touches l [] ps s t) (m : Nat)
    (hl : .SYS_MODE_EFF ∉ l := by decide) : t.mode m = s.mode m := by
  rw [State.mode, State.mode, State.inForce, State.inForce, h.f_eq (f := F.SYS_MODE_EFF_EFF) 0 0 0 hl,
    h.f_eq (f := F.SYS_MODE_EFF_SUSP) 0 0 0 hl]

theorem Touches.governor {l : List RegName} {ps : List Part} {s t : State} (h : Touches l [] ps s t) (g : Grp) (n : Cv)
    (hl : .CV_CTRL ∉ l := by decide) : t.governor g n = s.governor g n := by
  rw [State.governor, State.governor, State.interleaved, State.interleaved, h.b_eq (f := F.CV_CTRL_ILV) g (evenOf n) 0 hl]

theorem Touches.seqOnce {l : List RegName} {ps : List Part} {s t : State} (h : Touches l [] ps s t) (g : Grp) (n : Cv)
    (hreduced : (t.cv g n).reduced = (s.cv g n).reduced) (hhanded : ∀ m, (t.cv g m).handed = (s.cv g m).handed)
    (hctrl : .CV_CTRL ∉ l := by decide) (hseq : .CV_SEQ ∉ l := by decide) (hmirror : .CVM_SEQ ∉ l := by decide) :
    t.seqOnce g n = s.seqOnce g n := by
  simp only [State.seqOnce, State.seqWord, hreduced, h.governor g n hctrl, hhanded, h.r_eq _ _ _ hseq, h.r_eq _ _ _ hmirror]

/-! ### Writes of CTRL -/

/-- The word that CTRL takes. -/
def ctrlWord (n : Cv) (v : Word) : Word := F.CV_CTRL_ILV.put v (n.val % 2 == 0 && F.CV_CTRL_ILV.of v == 1).toNat

theorem ctrlWord_enable (n : Cv) (v : Word) : F.CV_CTRL_ENABLE.of (ctrlWord n v) = F.CV_CTRL_ENABLE.of v :=
  Fld.of_put_apart (by decide) (by decide) ..

theorem ctrlWord_berth (n : Cv) (v : Word) : F.CV_CTRL_BERTH.of (ctrlWord n v) = F.CV_CTRL_BERTH.of v :=
  Fld.of_put_apart (by decide) (by decide) ..

theorem ctrlWord_ilv (n : Cv) (v : Word) : F.CV_CTRL_ILV.of (ctrlWord n v) = (n.val % 2 == 0 && F.CV_CTRL_ILV.of v == 1).toNat := by
  rw [ctrlWord, Fld.of_put_same (by decide)]
  exact Nat.mod_eq_of_lt (Bool.toNat_lt _)

theorem Act.cvCtrl_run (hgov : s.governor g n = n) (hpair : ((n.val % 2 == 0 && F.CV_CTRL_ILV.of v == 1) != s.b F.CV_CTRL_ILV g n &&
    (s.b F.CV_CTRL_ENABLE g n || s.b F.CV_CTRL_ENABLE g (oddOf n) || F.CV_SEQ_LAST.of (s.seqWord g n .CV_SEQ .CVM_SEQ) != 0)) = false) :
    let t := (Act.setR .CV_CTRL (ctrlWord n v) g n).run s
    (Act.cvCtrl g n v).run s = Act.accept.run ((Act.when ((F.CV_CTRL_ENABLE.of v == 1) != s.b F.CV_CTRL_ENABLE g n) (.each (t.governed g n) fun m =>
      .actLater g m (if F.CV_CTRL_ENABLE.of v == 1 then .enable else .disable))).run t) := by
  simp only [Act.cvCtrl, Act.look_run, hgov, bne_self_eq_false, Bool.false_eq_true, if_false, hpair, Act.all_cons_run, Act.all_nil_run, ctrlWord]

theorem State.governor_alone (h : s.interleaved g n = false) : s.governor g n = n := by rw [State.governor, h, if_neg Bool.false_ne_true]

/-- A write that leaves a converter unpaired keeps it so. -/
theorem Act.setCtrl_interleaved (h : s.interleaved g n = false) (hilv : F.CV_CTRL_ILV.of v = 0) :
    ((Act.setR .CV_CTRL (ctrlWord n v) g n).run s).interleaved g n = false := by
  rw [State.interleaved]
  by_cases heven : n = evenOf n
  · rw [← heven, State.b, Act.setR_f_at (valid_cvCtrl g n), ctrlWord_ilv, hilv, show ((0 : Nat) == 1) = false from rfl, Bool.and_false]
    rfl
  · rw [State.b, Act.setR_f_inst _ _ fun e => heven (Fin.ext e.2.1)]
    exact h

/-- R467: a write that changes ENABLE of an unpaired converter. -/
theorem Act.cvSwitch (halone : s.interleaved g n = false) (hoff : s.b F.CV_CTRL_ILV g n = false) (hilv : F.CV_CTRL_ILV.of v = 0)
    (hchange : ((F.CV_CTRL_ENABLE.of v == 1) != s.b F.CV_CTRL_ENABLE g n) = true) :
    (Act.cvCtrl g n v).run s = Act.accept.run ((Act.actLater g n (if F.CV_CTRL_ENABLE.of v == 1 then .enable else .disable)).run
      ((Act.setR .CV_CTRL (ctrlWord n v) g n).run s)) := by
  have hgoverned : ((Act.setR .CV_CTRL (ctrlWord n v) g n).run s).governed g n = [n] := by
    rw [State.governed, State.asPair, Act.setCtrl_interleaved halone hilv, Bool.false_and, if_neg Bool.false_ne_true]
  have hpair : ((n.val % 2 == 0 && F.CV_CTRL_ILV.of v == 1) != s.b F.CV_CTRL_ILV g n) = false := by simp [hoff, hilv]
  rw [Act.cvCtrl_run (State.governor_alone halone) (by rw [hpair, Bool.false_and])]
  simp only [hgoverned, hchange, Act.when_true_run, Act.each_cons_run, Act.each_nil_run]

theorem Act.cvSwitch_waits (a : CvAct) : let u := Act.accept.run ((Act.actLater g n a).run ((Act.setR .CV_CTRL (ctrlWord n v) g n).run s))
    u.resp = .ok 0 ∧ u.f F.CV_CTRL_ENABLE g n = F.CV_CTRL_ENABLE.of v ∧ u.f F.CV_CTRL_BERTH g n = F.CV_CTRL_BERTH.of v ∧
    RegsKept [⟨.CV_CTRL, g, n, 0⟩] s u ∧ WaitsForEdge s u g n a := by
  have hin : Within [] [⟨.CV_CTRL, g, n, 0⟩] [.conv, .resp] (.all [.setR .CV_CTRL (ctrlWord n v) g n, .actLater g n a, .accept]) :=
    .all ⟨.setRAt, .look fun _ => .setCv, .accept⟩
  have htouch := hin s
  obtain ⟨hacts, hothers, -⟩ := Act.actLater_waits (g := g) (n := n) a ((Act.setR .CV_CTRL (ctrlWord n v) g n).run s)
  have henable : ((Act.setR .CV_CTRL (ctrlWord n v) g n).run s).f F.CV_CTRL_ENABLE g n = F.CV_CTRL_ENABLE.of v := by
    rw [Act.setR_f_at (valid_cvCtrl g n), ctrlWord_enable]
  have hberth : ((Act.setR .CV_CTRL (ctrlWord n v) g n).run s).f F.CV_CTRL_BERTH g n = F.CV_CTRL_BERTH.of v := by
    rw [Act.setR_f_at (valid_cvCtrl g n), ctrlWord_berth]
  intro u
  refine ⟨rfl, ?enable, ?berth, htouch.regsKept, ?acts, fun m hm => (hothers m hm).trans (Act.setR_cv ..), htouch.rest⟩
  case enable => exact henable
  case berth => exact hberth
  case acts => rw [Act.setR_cv, Act.setR_clk] at hacts; exact hacts

section
variable (hw : s.takesReg src .CV_CTRL g n) (halone : s.interleaved g n = false)
include hw halone

theorem cvEnable_answers (hoff : s.b F.CV_CTRL_ILV g n = false) (hen : F.CV_CTRL_ENABLE.of v = 1) (hilv : F.CV_CTRL_ILV.of v = 0) (hwas : s.b F.CV_CTRL_ENABLE g n = false) :
    AnswersThenModes (.cvEnable src g n v) s fun u =>
      u.resp = .ok 0 ∧ u.b F.CV_CTRL_ENABLE g n = true ∧ u.f F.CV_CTRL_BERTH g n = F.CV_CTRL_BERTH.of v ∧
      RegsKept [⟨.CV_CTRL, g, n, 0⟩] s u ∧ WaitsForEdge s u g n .enable := by
  have heffect := Act.cvSwitch (v := v) halone hoff hilv (by rw [hen, hwas]; rfl)
  rw [if_pos (by rw [hen]; rfl)] at heffect
  have hrun := Act.writeTo_accepted (d := 0) hw (a := Act.cvCtrl g n v) (by rw [heffect]; rfl)
  obtain ⟨hresp, henable, hberth, hregs, hwaits⟩ := Act.cvSwitch_waits (s := s) (g := g) (n := n) (v := v) .enable
  refine ⟨_, rfl, ?_⟩
  rw [hrun, heffect]
  exact ⟨hresp, by rw [State.b, henable, hen]; rfl, hberth, hregs, hwaits⟩

theorem cvDisable_answers (hoff : s.b F.CV_CTRL_ILV g n = false) (hen : F.CV_CTRL_ENABLE.of v = 0) (hilv : F.CV_CTRL_ILV.of v = 0) (hwas : s.b F.CV_CTRL_ENABLE g n = true) :
    AnswersThenModes (.cvDisable src g n v) s fun u =>
      u.resp = .ok 0 ∧ u.b F.CV_CTRL_ENABLE g n = false ∧ u.f F.CV_CTRL_BERTH g n = F.CV_CTRL_BERTH.of v ∧
      RegsKept [⟨.CV_CTRL, g, n, 0⟩] s u ∧ WaitsForEdge s u g n .disable := by
  have heffect := Act.cvSwitch (v := v) halone hoff hilv (by rw [hen, hwas]; rfl)
  rw [if_neg (by rw [hen]; decide)] at heffect
  have hrun := Act.writeTo_accepted (d := 0) hw (a := Act.cvCtrl g n v) (by rw [heffect]; rfl)
  obtain ⟨hresp, henable, hberth, hregs, hwaits⟩ := Act.cvSwitch_waits (s := s) (g := g) (n := n) (v := v) .disable
  refine ⟨_, rfl, ?_⟩
  rw [hrun, heffect]
  exact ⟨hresp, by rw [State.b, henable, hen]; rfl, hberth, hregs, hwaits⟩

theorem cvIlvWrite_answers (heven : n.val % 2 = 0) (hen : F.CV_CTRL_ENABLE.of v = 0) (hilv : F.CV_CTRL_ILV.of v = 1)
    (hwas : s.b F.CV_CTRL_ENABLE g n = false) (hodd : s.b F.CV_CTRL_ENABLE g (oddOf n) = false)
    (hlast : F.CV_SEQ_LAST.of (s.seqWord g n .CV_SEQ .CVM_SEQ) = 0) : AnswersThenModes (.cvIlvWrite src g n v) s fun u =>
        u.resp = .ok 0 ∧ u.interleaved g n = true ∧ RegsKept [⟨.CV_CTRL, g, n, 0⟩] s u ∧ OnlyRegs s u := by
  have hself : evenOf n = n := Fin.ext (by simp [evenOf, heven])
  have heffect : (Act.cvCtrl g n v).run s = Act.accept.run ((Act.setR .CV_CTRL (ctrlWord n v) g n).run s) := by
    rw [Act.cvCtrl_run (State.governor_alone halone) (by rw [hwas, hodd, hlast]; simp)]
    simp only [hen, hwas, show ((0 : Nat) == 1) = false from rfl, bne_self_eq_false, Act.when_false_run]
  have hrun := Act.writeTo_accepted (d := 0) hw (a := Act.cvCtrl g n v) (by rw [heffect]; rfl)
  have hin : Within [] [⟨.CV_CTRL, g, n, 0⟩] [.resp] (.all [.setR .CV_CTRL (ctrlWord n v) g n, .accept]) := .all ⟨.setRAt, .accept⟩
  have htouch := hin s
  have hfield : ((Act.setR .CV_CTRL (ctrlWord n v) g n).run s).f F.CV_CTRL_ILV g n = 1 := by
    rw [Act.setR_f_at (valid_cvCtrl g n), ctrlWord_ilv, heven, hilv]; rfl
  refine ⟨_, rfl, ?_⟩
  rw [hrun, heffect]
  refine ⟨rfl, ?_, htouch.regsKept, htouch.rest⟩
  rw [State.interleaved, hself, State.b]
  exact congrArg (· == 1) hfield

end

/-! ### The acting edges -/

theorem Within.seqReset : Within [.CV_SEQ_STATE, .CV_PASSES] [] [.conv] (.seqReset g n) := .all ⟨.setR, .setR, .setCv⟩

theorem Act.proceed_start_run {e : Nat} (hstopping : (s.cv g n).stopping = false) (hmove : s.spare[g].move = .none) :
    (Act.proceed g n (.start e) none).run s = (Act.visit g n e).run s := by
  simp only [Act.proceed, Act.look_run, Act.andThen_run, Act.spareMove_none false hmove, hstopping, Bool.false_eq_true, if_false]

/-- R198: what an enabling does before its visit of entry 0. -/
def Act.enableResets (g : Grp) (n : Cv) : Act :=
  .all [.seqReset g n, .setCv g n fun x => { x with grid := none }, .setCv g n fun x => { x with stopping := false }]

theorem Within.enableResets : Within [.CV_SEQ_STATE, .CV_PASSES] [] [.conv] (.enableResets g n) := .all ⟨.seqReset, .setCv, .setCv⟩

theorem Act.enableResets_seqState (s : State) : ((Act.enableResets g n).run s).r .CV_SEQ_STATE g n = 0 := by
  simp only [Act.enableResets, Act.seqReset, Act.all_cons_run, Act.all_nil_run, Act.setCv_r]
  rw [Act.setR_r_ne _ _ _ _ _ _ _ _ _ _ (by decide), Act.setR_r_same _ _ _ _ _ _ (valid_cvSeqState g n)]
  exact BitVec.zero_and

theorem Act.enableResets_passes (s : State) : ((Act.enableResets g n).run s).r .CV_PASSES g n = 0 := by
  simp only [Act.enableResets, Act.seqReset, Act.all_cons_run, Act.all_nil_run, Act.setCv_r]
  rw [Act.setR_r_same _ _ _ _ _ _ (valid_cvPasses g n)]
  exact BitVec.zero_and

theorem Act.cvStart_run (hparked : s.mode parked = false) (honce : s.seqOnce g n = false) (hmove : s.spare[g].move = .none) :
    (Act.cvStart g n).run s = (Act.visit g n 0).run ((Act.setCv g n fun x => { x with stopping := false }).run s) := by
  simp only [Act.cvStart, Act.look_run, hparked, honce, Bool.false_and, Bool.false_eq_true, if_false, Act.all_cons_run, Act.all_nil_run]
  exact Act.proceed_start_run (by rw [Act.setCv_cv_same]) hmove

/-- What `cvStart` looks at is the same after SEQ_STATE and PASSES have restarted. -/
theorem Act.seqReset_then (s : State) : let t := (Act.setCv g n fun x => { x with grid := none }).run ((Act.seqReset g n).run s)
    t.mode parked = s.mode parked ∧ t.seqOnce g n = s.seqOnce g n ∧ t.spare = s.spare := by
  intro t
  have hcv : ∀ m, t.cv g m = if n = m then { s.cv g n with startAt := none, advAt := 0, stopping := false, grid := none } else s.cv g m := by
    intro m
    simp only [t, Act.seqReset, Act.all_cons_run, Act.all_nil_run, Act.setCv_cv, Act.setR_cv, true_and, if_true]
    split <;> rfl
  have hgrid : Within [.CV_SEQ_STATE, .CV_PASSES] [] [.conv] (.setCv g n fun x => { x with grid := none }) := .setCv
  have htouch := (Within.seqReset (g := g) (n := n) s).trans (hgrid _)
  refine ⟨htouch.mode parked, htouch.seqOnce g n ?_ fun m => ?_, htouch.parts .spare (by decide)⟩
  · exact (congrArg ConvSt.reduced (hcv n)).trans (by rw [if_pos rfl])
  · refine (congrArg ConvSt.handed (hcv m)).trans ?_
    split
    · next h => rw [h]
    · rfl

theorem Act.cvEnable_run (hoff : (s.cv g n).run = .off) (halive : s.alive g = true) (hreleased : s.released = true)
    (hreduced : s.reducedOn = false) (hserved : s.served g n = true) (hparked : s.mode parked = false) (honce : s.seqOnce g n = false)
    (hcal : s.cal[g].run = none) (hmove : s.spare[g].move = .none) :
    (Act.cvEnable g n).run s = (Act.visit g n 0).run ((Act.enableResets g n).run s) := by
  have hholds : s.calHolds g n = false := by rw [State.calHolds, hcal]; rfl
  obtain ⟨hmode, hseq, hspare⟩ := Act.seqReset_then (g := g) (n := n) s
  simp only [Act.cvEnable, Act.look_run, hoff, halive, hreleased, hreduced, hholds, hserved, beq_self_eq_true, Bool.not_false, Bool.and_self,
    Act.when_true_run, Act.all_cons_run, Act.all_nil_run, Act.enableResets]
  exact Act.cvStart_run (hmode.trans hparked) (hseq.trans honce) (by rw [hspare]; exact hmove)

theorem enableActs (hoff : (s.cv g n).run = .off) (halive : s.alive g = true) (hreleased : s.released = true) (hreduced : s.reducedOn = false)
    (hserved : s.served g n = true) (hparked : s.mode parked = false) (honce : s.seqOnce g n = false) (hcal : s.cal[g].run = none)
    (hmove : s.spare[g].move = .none) : let u := (Act.cvAct g n .enable).run s
    (u.cv g n).run = .visit ∧ u.f F.CV_STATUS_ENTRY g n = 0 ∧ u.r .CV_PASSES g n = 0 ∧ u.b F.CV_SEQ_STATE_START_PEND g n = false ∧
    u.f F.CV_SEQ_STATE_MERGED g n = 0 ∧ u.f F.CV_SEQ_STATE_IGNORED g n = 0 ∧
    NamesKept [.CV_STATUS, .CV_SEQ_STATE, .CV_PASSES, .CV8_STATUS] s u := by
  have hresets := Act.enableResets_seqState (g := g) (n := n) s
  have hpasses := Act.enableResets_passes (g := g) (n := n) s
  have htouch : Touches [.CV_STATUS, .CV_SEQ_STATE, .CV_PASSES, .CV8_STATUS] [] [.ovl, .conv] s
      ((Act.visit g n 0).run ((Act.enableResets g n).run s)) := ((Within.enableResets s).mono).trans ((Within.visit _).mono)
  intro u
  rw [show u = _ from Act.cvEnable_run hoff halive hreleased hreduced hserved hparked honce hcal hmove]
  generalize (Act.enableResets g n).run s = t at hresets hpasses htouch ⊢
  have hzero : ∀ f : Fld, f.name = .CV_SEQ_STATE → t.f f g n = 0 := by
    intro f hf
    rw [State.f, hf, hresets]
    simp [Fld.of]
  have hleaves : ∀ f : Fld, f.name = .CV_SEQ_STATE → F.CV_SEQ_STATE_REMAIN.spares f = true → F.CV_STATUS_ENTRY.spares f = true →
      f.outsideRun = true → ((Act.visit g n 0).run t).f f g n = 0 := by
    intro f hf hremain hentry hrun
    have hmask : f.inMask = true := by
      simp only [Fld.outsideRun, Bool.and_eq_true] at hrun
      exact hrun.2
    have hvisit : Leaves f (.visit g n 0) := .all ⟨.setF hentry hmask, .look fun _ => .setF hremain hmask, .cvRun hrun⟩
    rw [hvisit, hzero f hf]
  refine ⟨congrArg ConvSt.run (Act.visit_cv_same g n 0 t), Act.visit_entry g n 0 t, ?_, ?_, ?_, ?_, htouch.namesKept⟩
  · rw [(Within.visit t).r_eq g n 0, hpasses]
  · exact State.b_false_of (hleaves _ rfl (by decide) (by decide) (by decide))
  · exact hleaves _ rfl (by decide) (by decide) (by decide)
  · exact hleaves _ rfl (by decide) (by decide) (by decide)

theorem Act.factoryNow_run (s : State) : (((Act.factoryNow g n).run s).cv g n).run = (s.cv g n).run := by
  have hcv : ∀ t : State, (((Act.setCv g n fun x => { x with factory := false, calStep := true }).run t).cv g n).run = (t.cv g n).run := by
    intro t
    rw [Act.setCv_cv_same]
  rw [Act.factoryNow, Act.look_run, Act.when_run]
  split
  · rw [Act.all_cons_run, Act.all_cons_run, Act.all_nil_run, hcv]; rfl
  · rfl

theorem disableActs (hreduced : (s.cv g n).reduced = false) (hserved : (s.cv g n).run ≠ .unserved) (hon : (s.cv g n).run ≠ .off)
    (hcal : s.cal[g].run = none) (hmove : s.spare[g].move = .none) : let u := (Act.cvAct g n .disable).run s
    (u.cv g n).run = .off ∧ u.f F.CV_INJ_REQ_PENDING g n = 0 ∧ u.b F.CV_STATUS_RUNNING g n = false ∧
    u.b F.CV_SEQ_STATE_START_PEND g n = false ∧ u.b F.CV_SEQ_STATE_ADV_PEND g n = false ∧ u.f F.CV_SEQ_STATE_REMAIN g n = 0 := by
  have hspare : ∀ t : State, t.spare = s.spare → (Act.spareMove g n true).run t = t := fun t ht =>
    Act.spareMove_none true (by rw [ht]; exact hmove)
  have hacc := Act.account_accounted (g := g) (n := n) 1 s
  have hkept : ((Act.factoryNow g n).run ((Act.cvTakeNow g n).run ((Act.cvRun g n .off .idle).run ((Act.account g n 1).run s)))).spare = s.spare :=
    ((Within.factoryNow _).parts .spare (by decide)).trans (((Within.cvTakeNow _).parts .spare (by decide)).trans
      (((Within.cvRun _).parts .spare (by decide)).trans (hacc.touches.parts .spare (by decide))))
  have hrun : (Act.cvAct g n .disable).run s =
      (Act.factoryNow g n).run ((Act.cvTakeNow g n).run ((Act.cvRun g n .off .idle).run ((Act.account g n 1).run s))) := by
    simp only [Act.cvAct, Act.cvDisable, Act.look_run, hreduced, bne_iff_ne.mpr hserved, bne_iff_ne.mpr hon, hcal, Option.any_none, Bool.not_false,
      Bool.true_or, Bool.and_self, Act.when_true_run, Act.when_false_run, Act.all_cons_run, Act.all_nil_run, hspare _ hkept]
  have hfactory : ∀ t : State, ∀ f : Fld, ((Act.factoryNow g n).run t).f f g n = t.f f g n := fun t f =>
    (Within.factoryNow t).f_eq g n 0 List.not_mem_nil
  intro u
  rw [show u = _ from hrun]
  refine ⟨?_, ?_, ?_, ?_, ?_, ?_⟩
  · rw [Act.factoryNow_run, Act.cvTakeNow_run, Act.cvRun_cv_same]; rfl
  · rw [hfactory, Leaves.cvTakeNow, Leaves.cvRun, hacc.pending]
  · rw [State.b, hfactory, ← State.b, Leaves.b .cvTakeNow, Act.cvRun_running]; rfl
  · rw [State.b, hfactory, ← State.b, Leaves.b .cvTakeNow, Leaves.b .cvRun, hacc.startPend]
  · rw [State.b, hfactory, ← State.b, Leaves.b .cvTakeNow, Leaves.b .cvRun, hacc.advPend]
  · rw [hfactory, Leaves.cvTakeNow, Leaves.cvRun, hacc.remain]

/-- Settles O9: each write, and each acting edge, by its lemma. -/
theorem converterControl : Obligations.ConverterControl := by
  unfold Obligations.ConverterControl
  intro s src g n v
  exact ⟨fun hw halone hoff => ⟨cvEnable_answers hw halone hoff, cvDisable_answers hw halone hoff, cvIlvWrite_answers hw halone⟩,
    enableActs, disableActs⟩

end Sys2Proof.Machine
end

section
-- One proof after another: elaborated side by side, the proofs of the whole text do not fit in the check's memory.
set_option Elab.async false
/-! Commits of converter sequences, and the mirror at their report (R192, R193, R201, R203). -/

namespace Sys2Proof.Machine

variable {s : State} {src : Src} {g : Grp} {n : Cv} {v : Word}

theorem Act.cvTakeNow_cv (s : State) : ((Act.cvTakeNow g n).run s).cv g n =
    if s.b F.CV_SHADOW_PENDING g n && !(s.cv g n).handed && s.noBoundary g n then { s.cv g n with handed := true, handedAt := s.clk }
    else s.cv g n := by
  have htake : ((Act.cvTake g n).run s).cv g n = { s.cv g n with handed := true, handedAt := s.clk } := by
    rw [Act.cvTake, Act.look_run, Act.setCv_cv_same]
  rw [Act.cvTakeNow, Act.look_run, Act.when_run]
  split
  · rw [Act.all_cons_run, Act.all_cons_run, Act.all_nil_run, Act.look_run, Act.when_run]
    split
    · rw [Act.setB_cv, htake]
    · exact htake
  · rfl

theorem Act.cvTakeNow_seqState (h : (s.cv g n).run ≠ .idle) : ((Act.cvTakeNow g n).run s).r .CV_SEQ_STATE g n = s.r .CV_SEQ_STATE g n := by
  have htake : (((Act.cvTake g n).run s).cv g n).run = (s.cv g n).run := by
    rw [Act.cvTake, Act.look_run, Act.setCv_cv_same]
  rw [Act.cvTakeNow, Act.look_run, Act.when_run]
  split
  · rw [Act.all_cons_run, Act.all_cons_run, Act.all_nil_run, Act.look_run, htake, beq_eq_false_iff_ne.mpr h, Act.when_false_run]
    rfl
  · rfl

theorem ConvSt.handed_taken (x : ConvSt) (b : Bool) (clk : Nat) :
    (if true && !x.handed && b then { x with handed := true, handedAt := clk } else x).handed = (x.handed || b) := by
  cases hx : x.handed <;> cases b <;> simp [hx]

/-- What a commit of a valid set does. -/
def Act.commitTakes (g : Grp) (n : Cv) (v : Word) (clk : Nat) : Act := .all [
  .setR .CV_COMMIT v g n, .setB F.CV_SHADOW_PENDING true g n, .setCv g n fun x => { x with commitAt := clk }, .cvTakeNow g n, .accept]

theorem Act.cvCommit_run (hpend : s.b F.CV_SHADOW_PENDING g n = false) (hgov : s.governor g n = n) (hgood : s.setBad g n = none) :
    (Act.cvCommit g n v).run s = (Act.commitTakes g n v s.clk).run s := by
  simp only [Act.cvCommit, Act.look_run, hpend, hgov, hgood, bne_self_eq_false, Bool.or_self, Bool.false_eq_true, if_false, Act.commitTakes]

theorem Within.commitTakes {clk : Nat} : Within [] [⟨.CV_COMMIT, g, n, 0⟩, ⟨.CV_SHADOW, g, n, 0⟩, ⟨.CV_SEQ_STATE, g, n, 0⟩] [.conv, .resp]
    (.commitTakes g n v clk) :=
  .all ⟨.setRAt, .setBAt, .setCv, .look fun _ => .when (.all ⟨.look fun _ => .setCv, .look fun _ => .when .setBAt⟩), .accept⟩

/-- The state in which a commit looks for a boundary. -/
theorem Act.commitTakes_run (clk : Nat) (s : State) : ∃ t, (Act.commitTakes g n v clk).run s = Act.accept.run ((Act.cvTakeNow g n).run t) ∧
    t.b F.CV_SHADOW_PENDING g n = true ∧ t.cv g n = { s.cv g n with commitAt := clk } ∧ t.r .CV_SEQ_STATE g n = s.r .CV_SEQ_STATE g n := by
  refine ⟨(Act.setCv g n fun x => { x with commitAt := clk }).run ((Act.setB F.CV_SHADOW_PENDING true g n).run ((Act.setR .CV_COMMIT v g n).run s)),
    ?_, ?_, ?_, ?_⟩
  · simp only [Act.commitTakes, Act.all_cons_run, Act.all_nil_run]
  · rw [State.b, Act.setCv_f, ← State.b, Act.setB_b_at (valid_cvShadow g n)]
  · rw [Act.setCv_cv_same, Act.setB_cv, Act.setR_cv]
  · rw [Act.setCv_r, Act.setB_eq, Act.setF_r_ne _ _ _ _ _ _ _ _ _ _ (by decide), Act.setR_r_ne _ _ _ _ _ _ _ _ _ _ (by decide)]

theorem cvCommit_answers (hw : s.takesReg src .CV_COMMIT g n) (hpend : s.b F.CV_SHADOW_PENDING g n = false) (hgov : s.governor g n = n)
    (hgood : s.setBad g n = none) : Answers (.cvCommit src g n v) s fun t =>
      t.resp = .ok 0 ∧ t.b F.CV_SHADOW_PENDING g n = true ∧ (t.cv g n).commitAt = s.clk ∧
      (t.cv g n).handed = ((s.cv g n).handed || s.noBoundary g n) ∧
      RegsKept [⟨.CV_COMMIT, g, n, 0⟩, ⟨.CV_SHADOW, g, n, 0⟩, ⟨.CV_SEQ_STATE, g, n, 0⟩] s t ∧
      ((s.cv g n).run ≠ .idle → t.r .CV_SEQ_STATE g n = s.r .CV_SEQ_STATE g n) ∧
      t = { s with regs := t.regs, conv := t.conv, resp := t.resp } := by
  have htouch := Within.commitTakes (g := g) (n := n) (v := v) (clk := s.clk) s
  obtain ⟨t, ht, hpending, hcv, hseq⟩ := Act.commitTakes_run (g := g) (n := n) (v := v) s.clk s
  have hrun := Act.writeTo_accepted (d := 0) hw (a := Act.cvCommit g n v) (by rw [Act.cvCommit_run hpend hgov hgood, ht]; rfl)
  have hbound : t.noBoundary g n = s.noBoundary g n := by simp only [State.noBoundary, hcv]
  have hleaves : Leaves F.CV_SHADOW_PENDING (.cvTakeNow g n) := .cvTakeNow
  have htaken := Act.cvTakeNow_cv (g := g) (n := n) t
  refine ⟨_, rfl, ?_⟩
  rw [hrun, Act.cvCommit_run hpend hgov hgood]
  refine ⟨by rw [ht]; rfl, ?pending, ?commitAt, ?handed, htouch.regsKept, fun hidle => ?seq, htouch.rest⟩
  all_goals rw [ht]
  case pending => exact (hleaves.b t g n 0).trans hpending
  case commitAt =>
    refine (congrArg ConvSt.commitAt htaken).trans ?_
    split <;> rw [hcv]
  case handed =>
    refine (congrArg ConvSt.handed htaken).trans ?_
    rw [hpending, hbound, hcv]
    exact ConvSt.handed_taken ..
  case seq => exact (Act.cvTakeNow_seqState (by rw [hcv]; exact hidle)).trans hseq

theorem cvCommit_pending (hw : s.takesReg src .CV_COMMIT g n) (hpend : s.b F.CV_SHADOW_PENDING g n = true) :
    Answers (.cvCommit src g n v) s (Refused F.CV_SHADOW_REFUSED g n s) := by
  refine ⟨_, rfl, Act.writeTo_refused hw ?_ (valid_cvShadow g n)⟩
  simp only [Act.cvCommit, Act.look_run, hpend, Bool.true_or, if_true, Act.cvRefuse]

theorem State.setBad_lt {i : Nat} (h : s.setBad g n = some i) : i < 64 := by
  have hlast : s.f F.CV_SEQ_LAST g n < 16 := Nat.mod_lt _ (by decide)
  have hmem := List.mem_of_mem_head? (Option.mem_def.mpr h)
  simp only [List.mem_append, List.mem_map, List.mem_filter, List.mem_range] at hmem
  rcases hmem with hmem | ⟨e, ⟨he, -⟩, rfl⟩
  · split at hmem <;> simp_all
  · omega

theorem cvCommit_invalid {i : Nat} (hw : s.takesReg src .CV_COMMIT g n) (hpend : s.b F.CV_SHADOW_PENDING g n = false)
    (hgov : s.governor g n = n) (hbad : s.setBad g n = some i) : Answers (.cvCommit src g n v) s fun t =>
      t.resp = .error ∧ Counted F.CV_SHADOW_REFUSED s t g n ∧ t.b F.CV_SHADOW_REJECTED g n = true ∧
      t.f F.CV_SHADOW_REJ_WORD g n = i ∧ NamesKept [.CV_SHADOW, .FAB_PORT_ERR] s t ∧ OnlyRegs s t := by
  have heffect : (Act.cvCommit g n v).run s =
      (Act.all [.cvRefuse g n, .setB F.CV_SHADOW_REJECTED true g n, .setF F.CV_SHADOW_REJ_WORD i g n]).run s := by
    simp only [Act.cvCommit, Act.look_run, hpend, hgov, hbad, bne_self_eq_false, Bool.or_self, Bool.false_eq_true, if_false]
  have hin : Within [.CV_SHADOW, .FAB_PORT_ERR] [] [.resp]
      (.all [.all [.cvRefuse g n, .setB F.CV_SHADOW_REJECTED true g n, .setF F.CV_SHADOW_REJ_WORD i g n], .masterCount src]) :=
    .all ⟨.all ⟨Within.refuse (f := F.CV_SHADOW_REFUSED), .setB, .setF⟩, .masterCount⟩
  have htouch := hin s
  have hmaster : ∀ t : State, ∀ f : Fld, f.name = .CV_SHADOW → ((Act.masterCount src).run t).f f g n = t.f f g n := fun t f hf =>
    Act.masterCount_f src g n 0 t (by rw [hf]; decide)
  have hcount : ((Act.cvRefuse g n).run s).f F.CV_SHADOW_REFUSED g n = min (s.f F.CV_SHADOW_REFUSED g n + 1) (2 ^ F.CV_SHADOW_REFUSED.width - 1) :=
    Act.count_f_same F.CV_SHADOW_REFUSED g n s (valid_cvShadow g n) (by decide)
  refine ⟨_, rfl, ?_⟩
  rw [Act.writeTo_run hw, heffect]
  refine ⟨?resp, ?count, ?rejected, ?word, htouch.namesKept, htouch.rest⟩
  case resp =>
    rw [Act.masterCount_resp, Act.all_cons_run, Act.all_cons_run, Act.all_cons_run, Act.all_nil_run, Act.setF_resp, Act.setB_resp]; rfl
  case count =>
    rw [Counted, hmaster _ _ rfl]
    refine (Act.all_f_head ?_).trans hcount
    exact .all ⟨.setB, .setF⟩
  case rejected =>
    rw [State.b, hmaster _ _ rfl, ← State.b, Act.all_cons_run]
    refine (Act.all_b_head ?_).trans (Act.setB_b_at (valid_cvShadow g n) _ _)
    exact .all (by exact .setF)
  case word =>
    rw [hmaster _ _ rfl, Act.all_cons_run, Act.all_cons_run, Act.all_cons_run, Act.all_nil_run, Act.setF_f_at (valid_cvShadow g n)]
    exact Nat.mod_eq_of_lt ((s.setBad_lt hbad).trans (by decide))

/-! ### The report -/

theorem valid_cvEntry (g : Grp) (n : Cv) {m : RegName} (hm : m ∈ [RegName.CV_ENTRY, .CV_ENTRY_T, .CVM_ENTRY, .CVM_ENTRY_T]) {e : Nat} (he : e < 16) :
    RegRef.valid ⟨m, g, n, e⟩ = true := by
  simp only [List.mem_cons, List.not_mem_nil, or_false] at hm
  rcases hm with rfl | rfl | rfl | rfl <;> exact RegRef.valid_of g.isLt n.isLt he

theorem valid_cvSeq (g : Grp) (n : Cv) {m : RegName} (hm : m ∈ [RegName.CV_SEQ, .CVM_SEQ]) : RegRef.valid ⟨m, g, n, 0⟩ = true := by
  simp only [List.mem_cons, List.not_mem_nil, or_false] at hm
  rcases hm with rfl | rfl <;> exact RegRef.valid_of g.isLt n.isLt

/-- One entry of the mirror takes its words. -/
def Act.mirrorEntry (s : State) (g : Grp) (n : Cv) (e : Nat) : Act :=
  .all [.setR .CVM_ENTRY (s.r .CV_ENTRY g n e) g n e, .setR .CVM_ENTRY_T (s.r .CV_ENTRY_T g n e) g n e]

theorem Act.mirrorEntry_brings (hs : s.Wf) {e : Nat} (he : e < 16) :
    (Act.each (List.range 16) (Act.mirrorEntry s g n)).Brings fun t =>
      t.r .CVM_ENTRY g n e = s.r .CV_ENTRY g n e ∧ t.r .CVM_ENTRY_T g n e = s.r .CV_ENTRY_T g n e := by
  refine Act.brings_each_at (List.mem_range.mpr he) (fun t => ⟨?_, ?_⟩) fun y hy t ht => ⟨?_, ?_⟩
  all_goals rw [Act.mirrorEntry, Act.all_cons_run, Act.all_cons_run, Act.all_nil_run]
  · rw [Act.setR_r_ne _ _ _ _ _ _ _ _ _ _ (by decide)]
    exact Act.setR_mirror hs (valid_cvEntry g n (by simp) he) (valid_cvEntry g n (by simp) he) t
  · exact Act.setR_mirror hs (valid_cvEntry g n (by simp) he) (valid_cvEntry g n (by simp) he) _
  · rw [Act.setR_r_ne _ _ _ _ _ _ _ _ _ _ (by decide), Act.setR_r_ne_inst _ _ _ _ _ _ _ _ _ fun h => hy h.2.2]
    exact ht.1
  · rw [Act.setR_r_ne_inst _ _ _ _ _ _ _ _ _ fun h => hy h.2.2, Act.setR_r_ne _ _ _ _ _ _ _ _ _ _ (by decide)]
    exact ht.2

theorem Within.mirrorEntries : Within [.CVM_ENTRY, .CVM_ENTRY_T] [] [] (.each (List.range 16) (Act.mirrorEntry s g n)) :=
  .each fun _ => .all ⟨.setR, .setR⟩

/-- What follows the mirror at a report. -/
def Act.reportEnds (g : Grp) (n : Cv) : Act := .all [
  .setCv g n fun x => { x with handed := false }, .setB F.CV_SHADOW_PENDING false g n, .setB F.CV_SHADOW_DONE true g n]

theorem Within.reportEnds : Within [.CV_SHADOW] [] [.conv] (.reportEnds g n) := .all ⟨.setCv, .setB, .setB⟩

theorem Act.reportEnds_run (s : State) : let t := (Act.reportEnds g n).run s
    t.b F.CV_SHADOW_PENDING g n = false ∧ t.b F.CV_SHADOW_DONE g n = true ∧ (t.cv g n).handed = false := by
  intro t
  rw [show t = (Act.reportEnds g n).run s from rfl, Act.reportEnds, Act.all_cons_run]
  refine ⟨(Act.all_b_head (.all (by exact .setB))).trans (Act.setB_b_at (valid_cvShadow g n) _ _), ?_, ?_⟩
  · rw [Act.all_cons_run, Act.all_cons_run, Act.all_nil_run, Act.setB_b_at (valid_cvShadow g n)]
  · rw [Act.all_cons_run, Act.all_cons_run, Act.all_nil_run, Act.setB_cv, Act.setB_cv, Act.setCv_cv_same]

theorem Act.cvReported_run (hhanded : (s.cv g n).handed = true) (hdue : (s.cv g n).handedAt + 12 ≤ s.clk) :
    (Act.cvReported g n).run s = (Act.reportEnds g n).run ((Act.each (List.range 16) (Act.mirrorEntry s g n)).run
      ((Act.setR .CVM_SEQ (s.r .CV_SEQ g n) g n).run s)) := by
  simp only [Act.cvReported, Act.cvMirror, Act.look_run, hhanded, hdue, decide_true, Bool.and_self, Act.when_true_run, Act.all_cons_run,
    Act.all_nil_run, Act.reportEnds]
  rfl

theorem sequenceHandoverReported_answers (hs : s.Wf) (hhanded : (s.cv g n).handed = true) (hdue : (s.cv g n).handedAt + 12 ≤ s.clk) :
    Answers (.sequenceHandoverReported g n) s fun t =>
    t.r .CVM_SEQ g n = s.r .CV_SEQ g n ∧
    (∀ e, e < 16 → t.r .CVM_ENTRY g n e = s.r .CV_ENTRY g n e ∧ t.r .CVM_ENTRY_T g n e = s.r .CV_ENTRY_T g n e) ∧
    t.b F.CV_SHADOW_PENDING g n = false ∧ t.b F.CV_SHADOW_DONE g n = true ∧ (t.cv g n).handed = false ∧
    NamesKept [.CVM_SEQ, .CVM_ENTRY, .CVM_ENTRY_T, .CV_SHADOW] s t ∧ t = { s with regs := t.regs, conv := t.conv } := by
  have hin : Within [.CVM_SEQ, .CVM_ENTRY, .CVM_ENTRY_T, .CV_SHADOW] [] [.conv] (.all [.setR .CVM_SEQ (s.r .CV_SEQ g n) g n,
      .each (List.range 16) (Act.mirrorEntry s g n), .reportEnds g n]) := .all ⟨.setR, Within.mirrorEntries.mono, Within.reportEnds.mono⟩
  have htouch := hin s
  have hseq := Act.setR_mirror hs (valid_cvSeq g n (m := .CVM_SEQ) (by simp)) (valid_cvSeq g n (m := .CV_SEQ) (by simp)) s
  refine ⟨_, rfl, ?_⟩
  rw [Act.cvReported_run hhanded hdue]
  rw [Act.all_cons_run, Act.all_cons_run, Act.all_cons_run, Act.all_nil_run] at htouch
  obtain ⟨hpending, hdone, hnot⟩ := Act.reportEnds_run (g := g) (n := n)
    ((Act.each (List.range 16) (Act.mirrorEntry s g n)).run ((Act.setR .CVM_SEQ (s.r .CV_SEQ g n) g n).run s))
  refine ⟨?seq, fun e he => ?entries, hpending, hdone, hnot, htouch.namesKept, htouch.rest⟩
  case seq => rw [(Within.reportEnds _).r_eq g n 0, (Within.mirrorEntries _).r_eq g n 0, hseq]
  case entries =>
    rw [(Within.reportEnds _).r_eq g n e, (Within.reportEnds _).r_eq g n e]
    exact Act.mirrorEntry_brings hs he _

/-- Settles O10: each commit, and its report, by its lemma. -/
theorem sequenceCommit : Obligations.SequenceCommit := by
  unfold Obligations.SequenceCommit
  intro s src g n v
  exact ⟨cvCommit_answers, cvCommit_pending, fun _ => cvCommit_invalid, sequenceHandoverReported_answers⟩

end Sys2Proof.Machine
end

section
-- One proof after another: elaborated side by side, the proofs of the whole text do not fit in the check's memory.
set_option Elab.async false
/-! Doorbells, and the writes that ring, start and halt step engines (R270 to R272). -/

namespace Sys2Proof.Machine

variable {s : State} {src : Src} {e : Eng} {v : Word}

theorem valid_engCounts (e : Eng) : RegRef.valid ⟨.ENG_COUNTS, e, 0, 0⟩ = true := RegRef.valid_of e.isLt

theorem Act.setEng_other {d : Eng} (x : EngSt → EngSt) (s : State) (h : d ≠ e) : ((Act.setEng e x).run s).eng[d] = s.eng[d] := by
  simp only [Act.setEng_eng, Fin.getElem_fin]
  exact Vector.getElem_set_ne _ _ fun he => h (Fin.ext he.symm)

/-! ### Starts -/

theorem Within.engStart : Within [] [⟨.ENG_STATUS, e, 0, 0⟩] [.eng] (.engStart e) := .look fun _ => .all ⟨.setFAt, .setFAt, .setFAt, .setFAt, .setEng⟩

/-- R271: a started engine is RUNNING at ENTRY, with an empty stack. -/
theorem Act.engStart_starts (s : State) : let t := (Act.engStart e).run s
    t.f F.ENG_STATUS_STATE e = engRunning ∧ t.f F.ENG_STATUS_PC e = s.f F.ENG_ENTRY_ENTRY e ∧ t.f F.ENG_STATUS_DEPTH e = 0 ∧
    t.f F.ENG_STATUS_FAULT e = 0 ∧ t.b F.ENG_STATUS_DB_PEND e = s.b F.ENG_STATUS_DB_PEND e ∧ t.eng[e].stack = [] ∧
    t.eng[e].rung = s.eng[e].rung ∧ ∀ d : Eng, d ≠ e → t.eng[d] = s.eng[d] := by
  have hentry : s.f F.ENG_ENTRY_ENTRY e < 2 ^ F.ENG_STATUS_PC.width := Nat.mod_lt _ (by decide)
  intro t
  rw [show t = (Act.engStart e).run s from rfl, Act.engStart, Act.look_run]
  refine ⟨?state, ?pc, ?depth, ?fault, ?pend, ?stack, ?rung, fun d hd => ?others⟩
  case state => exact (Act.all_f_head (by exact .all ⟨.setF, .setF, .setF, .upd fun _ => rfl⟩)).trans (Act.setF_f_at (valid_engStatus e) _ _)
  case pc =>
    rw [Act.all_cons_run]
    refine (Act.all_f_head (by exact .all ⟨.setF, .setF, .upd fun _ => rfl⟩)).trans ((Act.setF_f_at (valid_engStatus e) _ _).trans ?_)
    exact Nat.mod_eq_of_lt hentry
  case depth =>
    rw [Act.all_cons_run, Act.all_cons_run]
    exact (Act.all_f_head (by exact .all ⟨.setF, .upd fun _ => rfl⟩)).trans (Act.setF_f_at (valid_engStatus e) _ _)
  case fault =>
    rw [Act.all_cons_run, Act.all_cons_run, Act.all_cons_run]
    exact (Act.all_f_head (by exact .all (.upd fun _ => rfl))).trans (Act.setF_f_at (valid_engStatus e) _ _)
  case pend =>
    have hleaves : Leaves F.ENG_STATUS_DB_PEND (.engStart e) := .look fun _ => .all ⟨.setF, .setF, .setF, .setF, .upd fun _ => rfl⟩
    have hkept := hleaves.b s e 0 0
    rw [Act.engStart, Act.look_run] at hkept
    exact hkept
  all_goals
    rw [Act.all_cons_run, Act.all_cons_run, Act.all_cons_run, Act.all_cons_run, Act.all_cons_run, Act.all_nil_run]
  case stack => rw [Act.setEng_same]
  case rung => rw [Act.setEng_same, Act.setF_eng, Act.setF_eng, Act.setF_eng, Act.setF_eng]
  case others => rw [Act.setEng_other _ _ hd, Act.setF_eng, Act.setF_eng, Act.setF_eng, Act.setF_eng]

/-! ### Doorbells -/

/-- R270: what a doorbell does by the state of its engine. -/
def Act.ringActs (s : State) (e : Eng) : Act :=
  if s.engLive e then
    if s.b F.ENG_STATUS_DB_PEND e then .count F.ENG_COUNTS_MERGED 1 e else .setB F.ENG_STATUS_DB_PEND true e
  else if s.engState e = engFaulted then .count F.ENG_COUNTS_IGNORED 1 e
  else if s.b F.ENG_ENTRY_DB_START e && s.released then .engStart e
  else .setB F.ENG_STATUS_DB_PEND true e

theorem Act.ring_run (h : s.eng[e].rung ≠ some s.clk) :
    (Act.ring e).run s = (Act.ringActs s e).run ((Act.setEng e fun x => { x with rung := some s.clk }).run s) := by
  simp only [Act.ring, Act.look_run, if_neg h, Act.andThen_run, Act.ringActs]

theorem Act.ring_again (h : s.eng[e].rung = some s.clk) : (Act.ring e).run s = s := by
  rw [Act.ring, Act.look_run, if_pos h, Act.skip_run]

theorem Within.ringActs : Within [] [⟨.ENG_STATUS, e, 0, 0⟩, ⟨.ENG_COUNTS, e, 0, 0⟩] [.eng] (.ringActs s e) :=
  .ite (.ite .countAt .setBAt) (.ite .countAt (.ite Within.engStart.mono .setBAt))

theorem Within.ring : Within [] [⟨.ENG_STATUS, e, 0, 0⟩, ⟨.ENG_COUNTS, e, 0, 0⟩] [.eng] (.ring e) :=
  .look fun _ => .ite .skip (.andThen .setEng ringActs)

theorem Act.ringActs_eng (s t : State) : ((Act.ringActs s e).run t).eng[e].rung = t.eng[e].rung ∧
    ∀ d : Eng, d ≠ e → ((Act.ringActs s e).run t).eng[d] = t.eng[d] := by
  have hsame : ∀ {a : Act}, (a.run t).eng = t.eng → (a.run t).eng[e].rung = t.eng[e].rung ∧ ∀ d : Eng, d ≠ e → (a.run t).eng[d] = t.eng[d] :=
    fun h => ⟨by rw [h], fun _ _ => by rw [h]⟩
  rw [Act.ringActs]
  split
  · split
    · exact hsame (Act.count_eng ..)
    · exact hsame (Act.setB_eng ..)
  · split
    · exact hsame (Act.count_eng ..)
    · split
      · obtain ⟨-, -, -, -, -, -, hrung, hothers⟩ := Act.engStart_starts (e := e) t
        exact ⟨hrung, hothers⟩
      · exact hsame (Act.setB_eng ..)

theorem Act.ring_rung (s : State) : ((Act.ring e).run s).eng[e].rung = some s.clk ∧
    ∀ d : Eng, d ≠ e → ((Act.ring e).run s).eng[d] = s.eng[d] := by
  by_cases h : s.eng[e].rung = some s.clk
  · rw [Act.ring_again h]
    exact ⟨h, fun _ _ => rfl⟩
  · rw [Act.ring_run h]
    obtain ⟨hrung, hothers⟩ := Act.ringActs_eng (e := e) s ((Act.setEng e fun x => { x with rung := some s.clk }).run s)
    exact ⟨hrung.trans (by rw [Act.setEng_same]), fun d hd => (hothers d hd).trans (Act.setEng_other _ _ hd)⟩

theorem doorbellRing_answers (hup : s.up = true) (hrung : s.eng[e].rung ≠ some s.clk) : Answers (.doorbellRing e) s fun t =>
    t.eng[e].rung = some s.clk ∧ (∀ d : Eng, d ≠ e → t.eng[d] = s.eng[d]) ∧ BytesKept s t ∧
    RegsKept [⟨.ENG_STATUS, e, 0, 0⟩, ⟨.ENG_COUNTS, e, 0, 0⟩] s t ∧
    (s.engLive e = true → s.b F.ENG_STATUS_DB_PEND e = false → t.b F.ENG_STATUS_DB_PEND e = true) ∧
    (s.engLive e = true → s.b F.ENG_STATUS_DB_PEND e = true → Counted F.ENG_COUNTS_MERGED s t e) ∧
    (s.engState e = engFaulted → Counted F.ENG_COUNTS_IGNORED s t e) ∧
    (s.engState e = engHalted → s.b F.ENG_ENTRY_DB_START e = true → s.released = true →
      t.engState e = engRunning ∧ t.f F.ENG_STATUS_PC e = s.f F.ENG_ENTRY_ENTRY e ∧ t.eng[e].stack = []) ∧
    (s.engState e = engHalted → s.b F.ENG_ENTRY_DB_START e = false → t.b F.ENG_STATUS_DB_PEND e = true) := by
  have hexec : exec (.doorbellRing e) s = .next ((Act.ring e).run s) := by
    simp only [exec, execDoorbellRing, Act.done, Act.reach, Act.look_run, hup, if_true]
  obtain ⟨htakes, hothers⟩ := Act.ring_rung (e := e) s
  have htouch := Within.ring (e := e) s
  refine ⟨_, hexec, htakes, hothers, htouch.bytesKept, htouch.regsKept, ?_⟩
  rw [Act.ring_run hrung]
  have hcounts : ∀ f : Fld, f.name = .ENG_COUNTS → f.inMask = true → Counted f s ((Act.count f 1 e).run
      ((Act.setEng e fun x => { x with rung := some s.clk }).run s)) e := fun f hf hm =>
    (Act.count_f_same f e 0 _ (hf ▸ valid_engCounts e) hm).trans (by rw [Act.setEng_f])
  have hhalted : s.engState e = engHalted → s.engLive e = false ∧ s.engState e ≠ engFaulted := fun h => by
    simp [State.engLive, h, engHalted, engRunning, engWaiting, engFaulted]
  refine ⟨fun hlive hpend => ?_, fun hlive hpend => ?_, fun hfaulted => ?_, fun h hdb hreleased => ?_, fun h hdb => ?_⟩
  · rw [Act.ringActs, if_pos hlive, hpend, if_neg Bool.false_ne_true]
    exact Act.setB_b_at (valid_engStatus e) _ _
  · rw [Act.ringActs, if_pos hlive, if_pos hpend]
    exact hcounts _ rfl (by decide)
  · have hlive : s.engLive e = false := by simp [State.engLive, hfaulted, engRunning, engWaiting, engFaulted]
    rw [Act.ringActs, hlive, if_neg Bool.false_ne_true, if_pos hfaulted]
    exact hcounts _ rfl (by decide)
  · rw [Act.ringActs, (hhalted h).1, if_neg Bool.false_ne_true, if_neg (hhalted h).2, hdb, hreleased, Bool.and_self, if_pos rfl]
    obtain ⟨hstate, hpc, -, -, -, hstack, -⟩ := Act.engStart_starts (e := e) ((Act.setEng e fun x => { x with rung := some s.clk }).run s)
    exact ⟨hstate, hpc.trans (by rw [Act.setEng_f]), hstack⟩
  · rw [Act.ringActs, (hhalted h).1, if_neg Bool.false_ne_true, if_neg (hhalted h).2, hdb, Bool.false_and, if_neg Bool.false_ne_true]
    exact Act.setB_b_at (valid_engStatus e) _ _

theorem Act.doorbells_rung (v : Word) {d : Eng} (hd : v.getLsbD d = true) :
    (Act.each (List.finRange 8) fun e => .when (v.getLsbD e) (.ring e)).Brings fun t => t.eng[d].rung = some t.clk := by
  have hclk : ∀ (e : Eng) (s : State), ((Act.ring e).run s).clk = s.clk := fun e s => (Within.ring s).parts .clk (by decide)
  refine Act.brings_each_at (List.mem_finRange d) (fun s => ?_) fun e he s hs => ?_
  · rw [hd, Act.when_true_run, (Act.ring_rung s).1, hclk]
  · rw [Act.when_run]
    split
    · rw [(Act.ring_rung s).2 d (Ne.symm he), hclk, hs]
    · exact hs

theorem stepDoorbellWrite_answers (hw : s.takesReg src .STEP_DOORBELL) : Answers (.stepDoorbellWrite src v) s fun t =>
    t.resp = .ok 0 ∧ ∀ d : Eng, v.getLsbD d = true → t.eng[d].rung = some s.clk := by
  have hrun := Act.writeTo_accepted (d := 0) hw (a := Act.doorbells v) rfl
  have hclk : ((Act.each (List.finRange 8) fun e => .when (v.getLsbD e) (.ring e)).run s).clk = s.clk := by
    have hin : Within [.ENG_STATUS, .ENG_COUNTS] [] [.eng] (.each (List.finRange 8) fun e => .when (v.getLsbD e) (.ring e)) :=
      .each fun _ => .when (Within.ring.byName (by simp))
    exact (hin s).parts .clk (by decide)
  refine ⟨_, rfl, ?_⟩
  rw [hrun, Act.doorbells, Act.all_cons_run, Act.all_cons_run, Act.all_nil_run]
  refine ⟨rfl, fun d hd => ?_⟩
  exact (Act.doorbells_rung v hd s).trans (congrArg some hclk)

/-! ### Writes of ENG.CTRL -/

theorem engineRun_answers (hw : s.takesReg src .ENG_CTRL e) (hhalt : F.ENG_CTRL_HALT.of v = 0) (hgo : F.ENG_CTRL_RUN.of v = 1)
    (hlive : s.engLive e = false) (hreleased : s.released = true) : Answers (.engineRun src e v) s fun t =>
      t.resp = .ok 0 ∧ t.engState e = engRunning ∧ t.f F.ENG_STATUS_PC e = s.f F.ENG_ENTRY_ENTRY e ∧
      t.f F.ENG_STATUS_DEPTH e = 0 ∧ t.f F.ENG_STATUS_FAULT e = 0 ∧ t.b F.ENG_STATUS_DB_PEND e = false ∧ t.eng[e].stack = [] ∧
      RegsKept [⟨.ENG_STATUS, e, 0, 0⟩] s t ∧ BytesKept s t := by
  have heffect : (Act.engCtrl e v).run s = (Act.all [.setB F.ENG_STATUS_DB_PEND false e, .engStart e, .accept]).run s := by
    simp only [Act.engCtrl, Act.look_run, hhalt, hgo, hlive, hreleased, Nat.zero_ne_one, if_false, if_true, Bool.not_true, Bool.or_self,
      Bool.false_eq_true]
  have hrun := Act.writeTo_accepted (d := 0) hw (a := Act.engCtrl e v) (by rw [heffect]; rfl)
  have hin : Within [] [⟨.ENG_STATUS, e, 0, 0⟩] [.eng, .resp] (.all [.setB F.ENG_STATUS_DB_PEND false e, .engStart e, .accept]) :=
    .all ⟨.setBAt, Within.engStart.mono, .accept⟩
  have htouch := hin s
  obtain ⟨hstate, hpc, hdepth, hfault, hpend, hstack, -⟩ := Act.engStart_starts (e := e) ((Act.setB F.ENG_STATUS_DB_PEND false e).run s)
  refine ⟨_, rfl, ?_⟩
  rw [hrun, heffect]
  exact ⟨rfl, hstate, hpc.trans (by rw [Act.setB_eq, Act.setF_f_ne _ _ _ _ _ _ _ _ _ _ (by decide)]), hdepth, hfault,
    hpend.trans (Act.setB_b_at (valid_engStatus e) _ _), hstack, htouch.regsKept, htouch.bytesKept⟩

theorem engineHalt_answers (hw : s.takesReg src .ENG_CTRL e) (hhalt : F.ENG_CTRL_HALT.of v = 1) (hlive : s.engLive e = true)
    (hload : s.eng[e].load = none) : Answers (.engineHalt src e v) s fun t =>
      t.resp = .ok 0 ∧ t.engState e = engHalted ∧ t.f F.ENG_STATUS_PC e = s.f F.ENG_STATUS_PC e ∧
      RegsKept [⟨.ENG_STATUS, e, 0, 0⟩] s t ∧ BytesKept s t := by
  have heffect : (Act.engCtrl e v).run s = (Act.all [.setF F.ENG_STATUS_STATE engHalted e,
      .setEng e fun x => { x with tide := none, tideHit := false }, .accept]).run s := by
    simp only [Act.engCtrl, Act.look_run, hhalt, hlive, hload, if_true, Option.isSome_none, Bool.false_eq_true, and_false, if_false]
  have hrun := Act.writeTo_accepted (d := 0) hw (a := Act.engCtrl e v) (by rw [heffect]; rfl)
  have hin : Within [] [⟨.ENG_STATUS, e, 0, 0⟩] [.eng, .resp] (.all [.setF F.ENG_STATUS_STATE engHalted e,
      .setEng e fun x => { x with tide := none, tideHit := false }, .accept]) := .all ⟨.setFAt, .setEng, .accept⟩
  have htouch := hin s
  have hstate : ((Act.setF F.ENG_STATUS_STATE engHalted e).run s).f F.ENG_STATUS_STATE e = engHalted := Act.setF_f_at (valid_engStatus e) _ _
  have hpc : ((Act.setF F.ENG_STATUS_STATE engHalted e).run s).f F.ENG_STATUS_PC e = s.f F.ENG_STATUS_PC e := Act.setF_engStatus_spared _ _
  refine ⟨_, rfl, ?_⟩
  rw [hrun, heffect]
  exact ⟨rfl, hstate, hpc, htouch.regsKept, htouch.bytesKept⟩

/-- Settles O5: the doorbell and each write by its lemma. -/
theorem engineDoorbellsAndControl : Obligations.EngineDoorbellsAndControl := by
  unfold Obligations.EngineDoorbellsAndControl
  intro s e src v
  exact ⟨doorbellRing_answers, stepDoorbellWrite_answers, engineRun_answers, engineHalt_answers⟩

end Sys2Proof.Machine
end

section
-- One proof after another: elaborated side by side, the proofs of the whole text do not fit in the check's memory.
set_option Elab.async false
/-! Bytes of the addressed memories, and writes of the step flags and of step memory (R8, R12, R261, R272). -/

namespace Sys2Proof.Machine

variable {s : State} {src : Src}

/-! ### Bytes -/

theorem Act.setByte_byte_same {a : Nat} (ha : a < 16777216) (v : Byte) (s : State) : ((Act.setByte a v).run s).byte a = v := by
  simp only [Act.setByte, State.byte, if_pos ha, Sparse.get_set, if_true]

theorem Act.setBytes_succ_run (a v n : Nat) (s : State) :
    (Act.setBytes a v (n + 1)).run s = (Act.setBytes (a + 1) (v / 256) n).run ((Act.setByte a (BitVec.ofNat 8 v)).run s) := rfl

theorem State.bytes_congr {s t : State} {a n : Nat} (h : ∀ b, a ≤ b → b < a + n → t.byte b = s.byte b) : t.bytes a n = s.bytes a n := by
  induction n generalizing a with
  | zero => rfl
  | succ n ih => rw [State.bytes, State.bytes, h a (Nat.le_refl a) (by omega), ih fun b hb hb' => h b (by omega) (by omega)]

/-- R8: bytes read as the number that was stored there. -/
theorem Act.setBytes_bytes {a v n : Nat} (ha : a + n ≤ 16777216) (s : State) : ((Act.setBytes a v n).run s).bytes a n = v % 256 ^ n := by
  induction n generalizing a v s with
  | zero => rw [State.bytes, pow_zero, Nat.mod_one]
  | succ n ih =>
    rw [Act.setBytes_succ_run, State.bytes, Act.setBytes_byte_outside _ _ _ _ (Or.inl (Nat.lt_succ_self a)),
      Act.setByte_byte_same (by omega), ih (by omega), BitVec.toNat_ofNat, pow_succ' 256 n]
    exact Nat.mod_mul.symm

theorem Act.setBytes_keptBut (a v n : Nat) (s : State) : BytesKeptBut a n s ((Act.setBytes a v n).run s) :=
  fun _ hb => Act.setBytes_byte_outside n a v s hb

/-! ### Step flags -/

/-- A write of the step flags. -/
theorem Act.flagWrite_answers {n : RegName} (hw : s.takesReg src n) (set : Bool) (v : Word) :
    let t := (Act.writeTo src n 0 0 0 (.flagWrite set v)).run s
    t.resp = .ok 0 ∧ t.flags = (if set then s.flags ||| v else s.flags &&& ~~~v) ∧ RegsKept [⟨.STEP_FLAG_SET, 0, 0, 0⟩] s t ∧ OnlyRegs s t := by
  have hrun := Act.writeTo_accepted (d := 0) hw (a := Act.flagWrite set v) rfl
  have hin : Within [] [⟨.STEP_FLAG_SET, 0, 0, 0⟩] [.resp] (.flagWrite set v) := .look fun _ => .all ⟨.setRAt, .accept⟩
  have hflags := Act.setFlags_flags (if set then s.flags ||| v else s.flags &&& ~~~v) s
  intro t
  rw [show t = _ from hrun]
  exact ⟨rfl, hflags, (hin s).regsKept, (hin s).rest⟩

/-! ### Step memory -/

theorem stepOffset_room (w : Fin 16384) : stepOffset w + 8 ≤ 16777216 := by
  have hw := w.isLt
  simp only [stepOffset]
  omega

/-- Bytes that are stored and answered. -/
theorem Within.storesBytes {a v n : Nat} : Within [] [] [.mem, .resp] (.all [.setBytes a v n, .accept]) := .all ⟨.setBytes, .accept⟩

/-- A write that stores bytes and is answered. -/
theorem Act.write_bytes_run {off a v n : Nat} {x : Act} (hw : s.takes src off) (hx : x.run s = (Act.all [.setBytes a v n, .accept]).run s) :
    (Act.write src off x).run s = Act.accept.run ((Act.setBytes a v n).run s) := by
  obtain ⟨hup, hpermits⟩ := hw
  have hmaster : ∀ t : State, t.resp = .ok 0 → (Act.masterCount src).run t = t := by
    intro t ht
    cases src
    case fabric d => rw [Act.masterCount, Act.look_run, ht]; rfl
    all_goals rfl
  simp only [Act.write, Act.reach, Act.look_run, hup, hpermits, if_true, hx, Act.all_cons_run, Act.all_nil_run]
  exact hmaster _ rfl

/-- What a write of bytes leaves. -/
theorem Act.setBytes_answers {a v n : Nat} (ha : a + n ≤ 16777216) (s : State) : let t := Act.accept.run ((Act.setBytes a v n).run s)
    t.resp = .ok 0 ∧ t.bytes a n = v % 256 ^ n ∧ BytesKeptBut a n s t ∧ RegsKept [] s t := by
  have hsame : ∀ x k, (Act.accept.run ((Act.setBytes a v n).run s)).bytes x k = ((Act.setBytes a v n).run s).bytes x k :=
    fun x k => State.bytes_congr fun _ _ _ => rfl
  have htouch := Within.storesBytes (a := a) (v := v) (n := n) s
  exact ⟨rfl, (hsame a n).trans (Act.setBytes_bytes ha s), Act.setBytes_keptBut a v n s, htouch.regsKept⟩

section
variable {w : Fin 16384} {x : DWord} (hw : s.takes src (stepOffset w))
include hw

theorem stepMemoryWrite_both : Answers (.stepMemoryWrite src w x .both) s fun t =>
    t.resp = .ok 0 ∧ t.stepWord w = x ∧ BytesKeptBut (stepOffset w) 8 s t ∧ RegsKept [] s t := by
  obtain ⟨hresp, hbytes, hkept, hregs⟩ := Act.setBytes_answers (v := x.toNat) (stepOffset_room w) s
  refine ⟨_, rfl, ?_⟩
  rw [Act.write_bytes_run hw (x := .stepMemory w x .both) rfl]
  refine ⟨hresp, ?_, hkept, hregs⟩
  rw [State.stepWord, hbytes, show 256 ^ 8 = 2 ^ 64 from rfl, Nat.mod_eq_of_lt x.isLt, BitVec.ofNat_toNat, BitVec.setWidth_eq]

theorem stepMemoryWrite_lo (hnone : s.anyEngine = false) : Answers (.stepMemoryWrite src w x .lo) s fun t =>
    t.resp = .ok 0 ∧ s.bytes (stepOffset w + 4) 4 = t.bytes (stepOffset w + 4) 4 ∧ t.bytes (stepOffset w) 4 = x.toNat % 2 ^ 32 ∧
    BytesKeptBut (stepOffset w) 4 s t ∧ RegsKept [] s t := by
  have hroom := stepOffset_room w
  obtain ⟨hresp, hbytes, hkept, hregs⟩ := Act.setBytes_answers (n := 4) (v := x.toNat) (a := stepOffset w) (by omega) s
  have heffect : (Act.stepMemory w x .lo).run s = (Act.all [.setBytes (stepOffset w) x.toNat 4, .accept]).run s := by
    simp only [Act.stepMemory, Act.look_run, hnone, Bool.false_eq_true, if_false]
  refine ⟨_, rfl, ?_⟩
  rw [Act.write_bytes_run hw heffect]
  exact ⟨hresp, (State.bytes_congr fun b hb _ => hkept b (.inr hb)).symm, hbytes, hkept, hregs⟩

theorem stepMemoryWrite_hi (hnone : s.anyEngine = false) : Answers (.stepMemoryWrite src w x .hi) s fun t =>
    t.resp = .ok 0 ∧ t.bytes (stepOffset w + 4) 4 = x.toNat % 2 ^ 32 ∧ BytesKeptBut (stepOffset w + 4) 4 s t ∧ RegsKept [] s t := by
  have hroom := stepOffset_room w
  obtain ⟨hresp, hbytes, hkept, hregs⟩ := Act.setBytes_answers (n := 4) (v := x.toNat) (a := stepOffset w + 4) (by omega) s
  have heffect : (Act.stepMemory w x .hi).run s = (Act.all [.setBytes (stepOffset w + 4) x.toNat 4, .accept]).run s := by
    simp only [Act.stepMemory, Act.look_run, hnone, Bool.false_eq_true, if_false]
  refine ⟨_, rfl, ?_⟩
  rw [Act.write_bytes_run hw heffect]
  exact ⟨hresp, hbytes, hkept, hregs⟩

theorem stepMemoryWrite_refused (hany : s.anyEngine = true) (h : Half) (hhalf : h ≠ .both) :
    Answers (.stepMemoryWrite src w x h) s fun t => t.resp = .error ∧ Counted F.STEP_REFUSED_COUNT s t ∧ BytesKept s t := by
  have heffect : (Act.stepMemory w x h).run s = (Act.refuse F.STEP_REFUSED_COUNT).run s := by
    cases h
    case both => exact absurd rfl hhalf
    all_goals simp only [Act.stepMemory, Act.look_run, hany, if_true, Act.stepRefuse]
  have htouch := Act.refuse_within F.STEP_REFUSED_COUNT 0 0 src s
  have hrun : (Act.write src (stepOffset w) (.stepMemory w x h)).run s = (Act.all [.refuse F.STEP_REFUSED_COUNT, .masterCount src]).run s := by
    obtain ⟨hup, hpermits⟩ := hw
    simp only [Act.write, Act.reach, Act.look_run, hup, hpermits, if_true, Act.all_cons_run, Act.all_nil_run, heffect]
  refine ⟨_, rfl, ?_⟩
  rw [hrun]
  refine ⟨?resp, ?count, htouch.bytesKept⟩
  all_goals rw [Act.all_cons_run, Act.all_cons_run, Act.all_nil_run]
  case resp => rw [Act.masterCount_resp]; rfl
  case count =>
    rw [Counted, Act.masterCount_f _ _ _ _ _ (by decide)]
    exact Act.count_f_same _ 0 0 s (by decide) (by decide)

end

/-- Settles O6: each write by its lemma. -/
theorem stepFlagsAndMemory : Obligations.StepFlagsAndMemory := by
  unfold Obligations.StepFlagsAndMemory
  intro s src v w x
  exact ⟨fun hw => ⟨_, rfl, Act.flagWrite_answers hw true v⟩, fun hw => ⟨_, rfl, Act.flagWrite_answers hw false v⟩, stepMemoryWrite_both,
    fun hw hnone => ⟨stepMemoryWrite_lo hw hnone, stepMemoryWrite_hi hw hnone⟩, stepMemoryWrite_refused⟩

end Sys2Proof.Machine
end

section
-- One proof after another: elaborated side by side, the proofs of the whole text do not fit in the check's memory.
set_option Elab.async false
/-! Step words that reach beyond their engine (R262, R266, R268). -/

namespace Sys2Proof.Machine

variable {e : Eng} {s : State} {w : StepWord}

/-! ### The end of a word, wherever it ends -/

theorem State.cv_congr {s t : State} {g : Grp} {n : Cv} (h : t.conv = s.conv) : t.cv g n = s.cv g n := by rw [State.cv, State.cv, h]

theorem Within.engFault {code : Nat} :
    Within [.ENG_STATUS, .STEP_EVENTS, .FAULT_STATUS, .FAULT_EVENTS] [] [.eng, .log, .seed] (.engFault e code) :=
  .look fun _ => .all ⟨.setF, .setF, .setEng, .setBit, .log⟩

theorem Within.engAdvance :
    Within [.ENG_STATUS, .STEP_EVENTS, .FAULT_STATUS, .FAULT_EVENTS] [] [.eng, .log, .seed] (.engAdvance e) :=
  .look fun _ => .all ⟨.setEng, .ite engFault (.all ⟨.setF, .setF, .setEng⟩)⟩

theorem Within.wordEnds :
    Within [.ENG_STATUS, .STEP_EVENTS, .FAULT_STATUS, .FAULT_EVENTS] [] [.eng, .log, .seed] (.wordEnds e) :=
  .look fun _ => .ite (.ite engFault .setF) (.ite .skip engAdvance)

/-- A change that leaves the engine RUNNING at its word: the word ends at the next one. -/
theorem Midword.endsAfter {u v : State} (hu : Midword e [] s u) (hs : s.slot e w) (hstate : v.f F.ENG_STATUS_STATE e = u.f F.ENG_STATUS_STATE e)
    (hpc : v.f F.ENG_STATUS_PC e = u.f F.ENG_STATUS_PC e) (hhalt : v.eng[e].halting = u.eng[e].halting) :
    EngineGoesOn v ((Act.wordEnds e).run v) e (s.f F.ENG_STATUS_PC e + 1) [] := by
  obtain ⟨-, -, -, -, hhalting, -, -, -, hlast⟩ := hs
  rw [← hu.pc, ← hpc] at hlast ⊢
  exact Act.wordEnds_goesOn (hstate.trans hu.state) hlast (hhalt.trans (by rw [hu.eng]; exact hhalting))

theorem Midword.endsAfter_regs {u v : State} (hu : Midword e [] s u) (hs : s.slot e w) (hregs : v.r .ENG_STATUS e = u.r .ENG_STATUS e)
    (heng : v.eng = u.eng) : EngineGoesOn v ((Act.wordEnds e).run v) e (s.f F.ENG_STATUS_PC e + 1) [] :=
  hu.endsAfter hs (congrArg F.ENG_STATUS_STATE.of hregs) (congrArg F.ENG_STATUS_PC.of hregs) (by rw [heng])

/-! ### LOAD -/

theorem Midword.released {u : State} (hu : Midword e [] s u) : u.released = s.released :=
  congrArg PwrSt.released (hu.touches.parts .pwr (by decide))

theorem Midword.userPort {u : State} (hu : Midword e [] s u) (d : Die) : u.userPort d = s.userPort d := by
  simp only [State.userPort, hu.released, State.fclkLocked, State.bit, State.f, hu.r_eq _ _ _ (n := F.FAB_PORT_CLK.name),
    hu.r_eq _ _ _ (n := F.FAB_CLK_LOCK.name)]

theorem Act.engLoad_user_run {u : State} {ra x off : Nat} {d : Die} {a : Fin 65536} (hplace : placeOf off = .user d a) (hport : u.userPort d = true) :
    (Act.engLoad e ra x off).run u = (Act.userAccess (.engine e) d false a 0).run
      ((Act.setEng e fun q => { q with load := some (d, ra, x) }).run u) := by
  simp only [Act.engLoad, Act.look_run, hplace, hport, if_true, Act.all_cons_run, Act.all_nil_run]

/-- R131: a read of an engine joins the accesses of its die. -/
def FabSt.joined (f : FabSt) (e : Eng) (d : Die) (a clk : Nat) : FabSt :=
  { f with access := f.access.set d (f.access[d] ++ [⟨.engine e, false, a, 0, clk, none, 0⟩]) }

theorem Act.userAccess_engine_run {u : State} {d : Die} {a : Fin 65536} (hport : u.userPort d = true) :
    (Act.userAccess (.engine e) d false a 0).run u =
      (Act.setFab (·.joined e d a u.clk)).run u := by
  simp only [Act.userAccess, Act.look_run, hport, if_true, Act.all_cons_run, Act.all_nil_run, Act.skip_run, FabSt.joined]

/-! ### WR and WRI -/

theorem Act.engWrite_run {u : State} {off : Nat} {v : Word} (hoff : off % 4 = 0) : (Act.engWrite e off v).run u =
    let r := (Act.write32 (.engine e) off v none).run u
    (if r.resp = .ok 0 then Act.wordEnds e else Act.engFault e 4).run r := by
  simp only [Act.engWrite, hoff, ne_eq, not_true_eq_false, if_false, Act.andThen_run, Act.look_run]

/-! ### RING -/

theorem Act.ring_live {u : State} (hlive : u.engLive e = true) : let v := (Act.ring e).run u
    v.f F.ENG_STATUS_STATE e = u.f F.ENG_STATUS_STATE e ∧ v.f F.ENG_STATUS_PC e = u.f F.ENG_STATUS_PC e ∧
    v.eng[e].halting = u.eng[e].halting := by
  intro v
  by_cases h : u.eng[e].rung = some u.clk
  · rw [show v = u from Act.ring_again h]
    exact ⟨rfl, rfl, rfl⟩
  · have hv : v = (Act.ringActs u e).run ((Act.setEng e fun x => { x with rung := some u.clk }).run u) := Act.ring_run h
    have hleaves : ∀ f : Fld, F.ENG_COUNTS_MERGED.spares f = true → F.ENG_STATUS_DB_PEND.spares f = true → f.inMask = true →
        Leaves f (Act.ringActs u e) := fun f hcount hpend hm => by
      rw [Act.ringActs, if_pos hlive]
      exact .ite (.count hcount hm) (.setB hpend hm)
    have heng : v.eng = ((Act.setEng e fun x => { x with rung := some u.clk }).run u).eng := by
      rw [hv, Act.ringActs, if_pos hlive]
      split
      · exact Act.count_eng ..
      · exact Act.setB_eng ..
    refine ⟨?_, ?_, ?_⟩
    · rw [hv, hleaves _ (by decide) (by decide) (by decide), Act.setEng_f]
    · rw [hv, hleaves _ (by decide) (by decide) (by decide), Act.setEng_f]
    · rw [heng, Act.setEng_same]

theorem Act.ring_apart {u : State} {d : Eng} (hd : d ≠ e) : let v := (Act.ring d).run u
    v.f F.ENG_STATUS_STATE e = u.f F.ENG_STATUS_STATE e ∧ v.f F.ENG_STATUS_PC e = u.f F.ENG_STATUS_PC e ∧
    v.eng[e].halting = u.eng[e].halting := by
  have hregs : ((Act.ring d).run u).r .ENG_STATUS e = u.r .ENG_STATUS e :=
    (Within.ring u).regsKept .ENG_STATUS e 0 0 (by simpa using fun h => hd (Fin.ext h.symm))
  have heng := (Act.ring_rung (e := d) u).2 e hd.symm
  exact ⟨congrArg F.ENG_STATUS_STATE.of hregs, congrArg F.ENG_STATUS_PC.of hregs, by rw [heng]⟩

/-- The doorbells that engines have heard stay. -/
def RungKept (s t : State) : Prop := ∀ d : Eng, t.eng[d].rung = s.eng[d].rung

theorem RungKept.frame : Frame RungKept := ⟨fun _ _ => rfl, fun h1 h2 d => (h2 d).trans (h1 d)⟩

theorem Act.setEng_rungKept {x : EngSt → EngSt} (hx : ∀ y, (x y).rung = y.rung) : (Act.setEng e x).Keeps RungKept := fun s d => by
  by_cases h : d = e
  · rw [h, Act.setEng_same, hx]
  · rw [Act.setEng_other _ _ h]

theorem Within.rungKept {l : List RegName} {rs : List RegRef} {ps : List Part} {a : Act} (h : Within l rs ps a) (hp : Part.eng ∉ ps := by decide) :
    a.Keeps RungKept := fun s d => by rw [show (a.run s).eng = s.eng from (h s).parts .eng hp]

theorem Act.wordEnds_rungKept : (Act.wordEnds e).Keeps RungKept := by
  have hregs : ∀ {a : Act}, Within [.ENG_STATUS, .STEP_EVENTS, .FAULT_STATUS, .FAULT_EVENTS] [] [.log, .seed] a → a.Keeps RungKept := fun h => h.rungKept
  have hset : ∀ {x : EngSt → EngSt}, (∀ y, (x y).rung = y.rung) → (Act.setEng e x).Keeps RungKept := Act.setEng_rungKept
  have hfault : ∀ code, (Act.engFault e code).Keeps RungKept := fun code => Act.keeps_look fun s => Act.keeps_all RungKept.frame
    ⟨hregs .setF, hregs .setF, hset fun _ => rfl, hregs .setBit, hregs .log⟩
  have hadvance : (Act.engAdvance e).Keeps RungKept := Act.keeps_look fun s => Act.keeps_all RungKept.frame
    ⟨hset fun _ => rfl, Act.keeps_ite (hfault 3) (Act.keeps_all RungKept.frame ⟨hregs .setF, hregs .setF, hset fun _ => rfl⟩)⟩
  exact Act.keeps_look fun s => Act.keeps_ite (Act.keeps_ite (hfault 3) (hregs .setF)) (Act.keeps_ite (Act.keeps_skip RungKept.frame) hadvance)

section
variable (hs : s.slot e w)
include hs

theorem stepLoad_user_answers (hop : w.op = 0x06) (d : Die) (a : Fin 65536) (hplace : placeOf w.imm = .user d a) (hport : s.userPort d = true) :
    Answers (.stepLoad e) s fun t =>
      t.eng[e].load = some (d, w.ra, w.x) ∧ t.f F.ENG_STATUS_PC e = s.f F.ENG_STATUS_PC e ∧
      t.fab.access[d] = s.fab.access[d] ++ [⟨.engine e, false, a, 0, s.clk, none, 0⟩] ∧ RegsKept [⟨.ENG_STATUS, e, 0, 0⟩] s t := by
  obtain ⟨u, hu, hrun⟩ := Act.stepSlot_goes hs (word := Act.wordLoad e) hop
  have hfab : u.fab = s.fab := hu.touches.parts .fab (by decide)
  have hclk : u.clk = s.clk := hu.touches.parts .clk (by decide)
  have hsteps : (Act.wordLoad e w).run u = (Act.setFab (·.joined e d a u.clk)).run
      ((Act.setEng e fun q => { q with load := some (d, w.ra, w.x) }).run u) := by
    rw [Act.wordLoad, Act.engLoad_user_run hplace ((hu.userPort d).trans hport)]
    exact Act.userAccess_engine_run (u := (Act.setEng e fun q => { q with load := some (d, w.ra, w.x) }).run u) ((hu.userPort d).trans hport)
  refine ⟨_, rfl, ?_⟩
  rw [hrun, hsteps]
  refine ⟨?load, hu.pc, ?access, fun n i j k hn => hu.touches.regsKept n i j k hn⟩
  case load => exact congrArg EngSt.load (Act.setEng_same (e := e) (fun q => { q with load := some (d, w.ra, w.x) }) u)
  case access =>
    have hlist : u.fab.access[d] = s.fab.access[d] := by rw [hfab]
    rw [← hclk, ← hlist]
    exact Vector.getElem_set_self d.isLt

theorem stepLoad_answers (hop : w.op = 0x06) (hplace : ∀ d a, placeOf w.imm ≠ .user d a) :
    ∃ u, u = { s with regs := u.regs } ∧ RegsKept [⟨.ENG_STATUS, e, 0, 0⟩] s u ∧
    ∀ v, ((Act.busRead (.engine e) w.imm 4).run u).resp = .ok v →
      Answers (.stepLoad e) s fun t => t.r .ENG_D e w.ra = loadValue w.x (v.setWidth 32) := by
  obtain ⟨u, hu, hrun⟩ := Act.stepSlot_goes hs (word := Act.wordLoad e) hop
  refine ⟨u, hu.touches.rest, hu.touches.regsKept, fun v hv => ⟨_, rfl, ?_⟩⟩
  have hsteps : (Act.wordLoad e w).run u = (Act.result e w.ra (loadValue w.x (v.setWidth 32))).run ((Act.busRead (.engine e) w.imm 4).run u) := by
    rw [Act.wordLoad, Act.engLoad, Act.look_run]
    split
    · next d a h => exact absurd h (hplace d a)
    · rw [Act.andThen_run, Act.look_run, hv]
  rw [hrun, hsteps, Act.result, Act.all_cons_run, Act.all_cons_run, Act.all_nil_run]
  exact ((Within.wordEnds _).r_eq e w.ra 0).trans (Act.setR_engD (slot_ra hs) _ _)

theorem stepWr_answers (hop : w.op = 0x07) : ∃ u, u = { s with regs := u.regs } ∧ RegsKept [⟨.ENG_STATUS, e, 0, 0⟩] s u ∧
    let r := (Act.write32 (.engine e) w.imm (s.r .ENG_D e w.ra) none).run u
    exec (.stepWr e) s = .next (Act.modes.run ((if r.resp = .ok 0 then Act.wordEnds e else Act.engFault e 4).run r)) := by
  have haligned : w.imm % 4 = 0 := by
    have hbad := slot_bad hs
    simp only [StepWord.bad, hop, Bool.or_eq_false_iff, bne_eq_false_iff_eq] at hbad
    obtain ⟨-, -, haligned⟩ := hbad
    exact haligned
  obtain ⟨u, hu, hrun⟩ := Act.stepSlot_goes hs (word := Act.wordWr e) hop
  refine ⟨u, hu.touches.rest, hu.touches.regsKept, ?_⟩
  have hexec : exec (.stepWr e) s = .next (Act.modes.run ((Act.stepSlot 0x07 e (Act.wordWr e)).run s)) := rfl
  rw [hexec, hrun, Act.wordWr, Act.look_run, hu.r_eq, Act.engWrite_run haligned]

theorem stepWri_answers (hop : w.op = 0x08) (haligned : (s.r .ENG_D e w.rb).toNat % 4 = 0) :
    ∃ u, u = { s with regs := u.regs } ∧ RegsKept [⟨.ENG_STATUS, e, 0, 0⟩] s u ∧
    let r := (Act.write32 (.engine e) ((s.r .ENG_D e w.rb).toNat % 2 ^ 24) (BitVec.ofNat 32 w.imm) none).run u
    exec (.stepWri e) s = .next (Act.modes.run ((if r.resp = .ok 0 then Act.wordEnds e else Act.engFault e 4).run r)) := by
  obtain ⟨u, hu, hrun⟩ := Act.stepSlot_goes hs (word := Act.wordWri e) hop
  refine ⟨u, hu.touches.rest, hu.touches.regsKept, ?_⟩
  have hexec : exec (.stepWri e) s = .next (Act.modes.run ((Act.stepSlot 0x08 e (Act.wordWri e)).run s)) := rfl
  rw [hexec, hrun, Act.wordWri, Act.look_run, hu.r_eq, Act.engWrite_run (by omega)]

theorem Midword.ringThenEnds {u : State} (hu : Midword e [] s u) (d : Eng) : let t := (Act.wordEnds e).run ((Act.ring d).run u)
    (t.f F.ENG_STATUS_PC e = s.f F.ENG_STATUS_PC e + 1 ∧ t.f F.ENG_STATUS_STATE e = engRunning) ∧ t.eng[d].rung = some s.clk := by
  have hclk : u.clk = s.clk := hu.touches.parts .clk (by decide)
  have hkept : ((Act.ring d).run u).f F.ENG_STATUS_STATE e = u.f F.ENG_STATUS_STATE e ∧
      ((Act.ring d).run u).f F.ENG_STATUS_PC e = u.f F.ENG_STATUS_PC e ∧ ((Act.ring d).run u).eng[e].halting = u.eng[e].halting := by
    by_cases hd : d = e
    · rw [hd]
      exact Act.ring_live (by simp [State.engLive, State.engState, hu.state])
    · exact Act.ring_apart hd
  obtain ⟨hstate, hpc, hhalt⟩ := hkept
  obtain ⟨htpc, htstate, -⟩ := hu.endsAfter hs hstate hpc hhalt
  exact ⟨⟨htpc, htstate⟩, (Act.wordEnds_rungKept _ d).trans ((Act.ring_rung u).1.trans (congrArg some hclk))⟩

theorem stepRing_answers (hop : w.op = 0x12) : Answers (.stepRing e) s fun t =>
    (t.f F.ENG_STATUS_PC e = s.f F.ENG_STATUS_PC e + 1 ∧ t.f F.ENG_STATUS_STATE e = engRunning) ∧
    t.eng[(Fin.ofNat 8 (w.imm % 8) : Eng)].rung = some s.clk := by
  obtain ⟨u, hu, hrun⟩ := Act.stepSlot_goes hs (word := Act.wordRing e) hop
  refine ⟨_, rfl, ?_⟩
  rw [hrun, Act.wordRing, Act.all_cons_run, Act.all_cons_run, Act.all_nil_run]
  exact hu.ringThenEnds hs _

/-! ### Requests to converters -/

/-- A request that leaves the engine alone: its word ends after it, and nothing that a converter has is changed by that. -/
theorem Midword.requestThenEnds {u : State} (hu : Midword e [] s u) {l : List RegName} {rs : List RegRef} {ps : List Part} {a : Act}
    (ha : Touches l rs ps u (a.run u)) (hl : .ENG_STATUS ∉ l := by decide) (hrs : ∀ i j k, (⟨.ENG_STATUS, i, j, k⟩ : RegRef) ∉ rs := by simp)
    (hps : .eng ∉ ps := by decide) :
    let t := (Act.all [.silent a, .wordEnds e]).run u
    (t.f F.ENG_STATUS_PC e = s.f F.ENG_STATUS_PC e + 1 ∧ t.f F.ENG_STATUS_STATE e = engRunning) ∧ t.conv = (a.run u).conv ∧
    ∀ g n, t.r .CV_INJ_REQ g n = (a.run u).r .CV_INJ_REQ g n ∧ t.r .CV_SEQ_STATE g n = (a.run u).r .CV_SEQ_STATE g n := by
  have hregs : ((Act.silent a).run u).r .ENG_STATUS e = u.r .ENG_STATUS e := ha.regs _ _ _ _ hl (hrs e 0 0)
  have heng : ((Act.silent a).run u).eng = u.eng := ha.parts .eng hps
  have hends := Within.wordEnds (e := e) ((Act.silent a).run u)
  obtain ⟨hpc, hstate, -⟩ := hu.endsAfter_regs hs hregs heng
  exact ⟨⟨hpc, hstate⟩, hends.parts .conv (by decide), fun g n => ⟨hends.r_eq g n 0, hends.r_eq g n 0⟩⟩

end

section

variable {u : State} {g : Grp} {n : Cv} (hu : Midword e [] s u)
include hu

theorem Midword.conv : u.conv = s.conv := hu.touches.parts .conv (by decide)

theorem Midword.cv : u.cv g n = s.cv g n := by rw [State.cv, State.cv, hu.conv]

theorem Midword.reducedOn : u.reducedOn = s.reducedOn := by
  simp only [State.reducedOn, State.mode, State.inForce, State.f, hu.r_eq _ _ _ (n := F.SYS_MODE_EFF_EFF.name), hu.r_eq _ _ _ (n := F.SYS_MODE_EFF_SUSP.name)]

theorem Midword.alive : u.alive g = s.alive g := congrArg (fun p : PwrSt => p.alive[g]) (hu.touches.parts .pwr (by decide))

theorem Midword.governor : u.governor g n = s.governor g n := by
  rw [State.governor, State.governor, State.interleaved, State.b, State.f, hu.r_eq _ _ _ (n := F.CV_CTRL_ILV.name)]
  rfl

theorem Midword.cvEnabled : u.cvEnabled g n = s.cvEnabled g n := by
  simp only [State.cvEnabled, hu.governor, State.b, State.f, hu.r_eq _ _ _ (n := F.CV_CTRL_ENABLE.name)]

theorem Midword.takesStart (h : s.takesStart g n) : u.takesStart g n := ⟨hu.released.trans h.1, hu.governor.trans h.2⟩

theorem Midword.ignoresRequests (hvisit : (s.cv g n).run = .visit) : u.ignoresRequests g n = s.ignoresRequests g n := by
  have hidle : (ConvRun.visit == ConvRun.idle) = false := rfl
  simp only [State.ignoresRequests, State.parkedIdle, hu.cv, hvisit, hu.cvEnabled, hu.reducedOn, hu.alive, hidle, Bool.false_and]

theorem Midword.advances (h : s.advances g n) : u.advances g n := by
  obtain ⟨hreleased, hgov, hignores, hvisit, hpend⟩ := h
  refine ⟨hu.released.trans hreleased, hu.governor.trans hgov, (hu.ignoresRequests hvisit).trans hignores, (congrArg ConvSt.run hu.cv).trans hvisit, ?_⟩
  rw [State.b, State.f, hu.r_eq (n := F.CV_SEQ_STATE_ADV_PEND.name)]
  exact hpend

theorem Midword.injects {k : Fin 4} (h : s.injects g n k) : u.injects g n k := by
  obtain ⟨hreleased, halive, hvisit, hstopping, henabled, hreduced, hgood, hnone⟩ := h
  refine ⟨hu.released.trans hreleased, hu.alive.trans halive, (congrArg ConvSt.run hu.cv).trans hvisit,
    (congrArg ConvSt.stopping hu.cv).trans hstopping, hu.cvEnabled.trans henabled, hu.reducedOn.trans hreduced, ?_, ?_⟩
  · rw [hu.r_eq]
    exact hgood
  · rw [State.f, hu.r_eq (n := F.CV_INJ_REQ_PENDING.name)]
    exact hnone

end

theorem Within.actLater {g : Grp} {n : Cv} {a : CvAct} : Within [] [] [.conv] (.actLater g n a) := .look fun _ => .setCv

section

variable (hs : s.slot e w)
include hs

theorem Midword.injectThenEnds {u : State} (hu : Midword e [] s u) {g : Grp} {n : Cv} {k : Fin 4} (h : u.injects g n k) :
    let t := (Act.all [.silent (.injReq g n (2 ^ k.val) 0), .wordEnds e]).run u
    (t.f F.ENG_STATUS_PC e = s.f F.ENG_STATUS_PC e + 1 ∧ t.f F.ENG_STATUS_STATE e = engRunning) ∧ t.bit F.CV_INJ_REQ_PENDING k g n = true := by
  have hrequest : (Act.injReq g n (2 ^ k.val) 0).run u = (Act.all [.slotTakes g n k (actingEdge u.clk), .accept]).run u := by
    simp only [Act.injReq_run h.1, Act.inject, slotsOf_two_pow, Act.cancel, slotsOf_zero, Act.all_cons_run, Act.all_nil_run, Act.each_cons_run,
      Act.each_nil_run, Act.injectSlot_run h]
  have hin : Within [] [⟨.CV_INJ_REQ, g, n, 0⟩] [.conv, .resp] (.all [.slotTakes g n k (actingEdge u.clk), .accept]) :=
    .all ⟨.all ⟨.setBitAt, .setCv⟩, .accept⟩
  have htouch := hin u
  rw [← hrequest] at htouch
  obtain ⟨hgoes, -, hregs⟩ := hu.requestThenEnds hs htouch
  obtain ⟨-, -, -, -, -, -, -, hnone⟩ := h
  have hpending : ((Act.injReq g n (2 ^ k.val) 0).run u).f F.CV_INJ_REQ_PENDING g n = 2 ^ k.val := by
    have hset := Act.slotTakes_pending (k := k) (actingEdge u.clk) hnone
    rw [hrequest]
    exact hset
  refine ⟨hgoes, ?_⟩
  rw [State.bit, show State.f _ F.CV_INJ_REQ_PENDING g n = 2 ^ k.val from (congrArg F.CV_INJ_REQ_PENDING.of (hregs g n).1).trans hpending]
  exact Nat.testBit_two_pow_self

theorem Midword.advanceThenEnds {u : State} (hu : Midword e [] s u) {g : Grp} {n : Cv} (h : u.advances g n) :
    let t := (Act.all [.silent (.seqCtl g n false true), .wordEnds e]).run u
    (t.f F.ENG_STATUS_PC e = s.f F.ENG_STATUS_PC e + 1 ∧ t.f F.ENG_STATUS_STATE e = engRunning) ∧
    t.b F.CV_SEQ_STATE_ADV_PEND g n = true := by
  have htouch := (Act.advanceTakes_within (g := g) (n := n) u (actingEdge u.clk)).thenAccept u
  rw [Act.all_cons_run, Act.all_cons_run, Act.all_nil_run, ← Act.seqAdvance_run h] at htouch
  obtain ⟨hgoes, -, hregs⟩ := hu.requestThenEnds hs htouch
  obtain ⟨hpend, -⟩ := Act.advanceTakes_each (g := g) (n := n) (u.governed g n) (actingEdge u.clk) u
  rw [decide_eq_true (u.mem_governed g n), Bool.or_true] at hpend
  have hseq : ((Act.seqCtl g n false true).run u).b F.CV_SEQ_STATE_ADV_PEND g n = true := by
    rw [Act.seqAdvance_run h]
    exact hpend
  exact ⟨hgoes, (congrArg (fun r => F.CV_SEQ_STATE_ADV_PEND.of r == 1) (hregs g n).2).trans hseq⟩

theorem stepStart_answers (hop : w.op = 0x0F) (h : s.takesStart (paramConverter w.imm).1 (paramConverter w.imm).2) (hreduced : s.reducedOn = false) :
    Answers (.stepStart e) s fun t => (t.f F.ENG_STATUS_PC e = s.f F.ENG_STATUS_PC e + 1 ∧ t.f F.ENG_STATUS_STATE e = engRunning) ∧
      (t.cv (paramConverter w.imm).1 (paramConverter w.imm).2).acts =
        (s.cv (paramConverter w.imm).1 (paramConverter w.imm).2).acts ++ [(actingEdge s.clk, .start)] := by
  obtain ⟨u, hu, hrun⟩ := Act.stepSlot_goes hs (word := Act.wordStart e) hop
  have hclk : u.clk = s.clk := hu.touches.parts .clk (by decide)
  have haction : (Act.startAction (paramConverter w.imm).1 (paramConverter w.imm).2).run u =
      Act.accept.run ((Act.actLater (paramConverter w.imm).1 (paramConverter w.imm).2 .start).run u) := by
    rw [← Act.seqStart_run (hu.takesStart h)]
    simp only [Act.startAction, Act.look_run, hu.reducedOn, hreduced, Bool.false_and, Bool.false_eq_true, if_false]
  have htouch := Within.actLater (g := (paramConverter w.imm).1) (n := (paramConverter w.imm).2) (a := .start).thenAccept u
  rw [Act.all_cons_run, Act.all_cons_run, Act.all_nil_run, ← haction] at htouch
  obtain ⟨hgoes, hconv, -⟩ := hu.requestThenEnds hs htouch
  obtain ⟨hacts, -⟩ := Act.actLater_waits (g := (paramConverter w.imm).1) (n := (paramConverter w.imm).2) .start u
  rw [← haction, hu.cv, hclk] at hacts
  refine ⟨_, rfl, ?_⟩
  rw [hrun, Act.wordStart]
  exact ⟨hgoes, (congrArg ConvSt.acts (State.cv_congr hconv)).trans hacts⟩

theorem stepInject_answers (hop : w.op = 0x10)
    (h : s.injects (paramConverter w.imm).1 (paramConverter w.imm).2 (Fin.ofNat 4 (bitsOf w.imm 8 2))) : Answers (.stepInject e) s fun t =>
      (t.f F.ENG_STATUS_PC e = s.f F.ENG_STATUS_PC e + 1 ∧ t.f F.ENG_STATUS_STATE e = engRunning) ∧
      t.bit F.CV_INJ_REQ_PENDING (bitsOf w.imm 8 2) (paramConverter w.imm).1 (paramConverter w.imm).2 = true := by
  obtain ⟨u, hu, hrun⟩ := Act.stepSlot_goes hs (word := Act.wordInject e) hop
  refine ⟨_, rfl, ?_⟩
  have hslot : bitsOf w.imm 8 2 = (Fin.ofNat 4 (bitsOf w.imm 8 2)).val := (Nat.mod_eq_of_lt (bitsOf_lt w.imm 8 2)).symm
  obtain ⟨hgoes, hpend⟩ := hu.injectThenEnds hs (hu.injects h)
  rw [← hslot, ← Nat.one_shiftLeft] at hpend hgoes
  rw [hrun, Act.wordInject]
  exact ⟨hgoes, hpend⟩

theorem stepAdvance_answers (hop : w.op = 0x11) (h : s.advances (paramConverter w.imm).1 (paramConverter w.imm).2) :
    Answers (.stepAdvance e) s fun t => (t.f F.ENG_STATUS_PC e = s.f F.ENG_STATUS_PC e + 1 ∧ t.f F.ENG_STATUS_STATE e = engRunning) ∧
      t.b F.CV_SEQ_STATE_ADV_PEND (paramConverter w.imm).1 (paramConverter w.imm).2 = true := by
  obtain ⟨u, hu, hrun⟩ := Act.stepSlot_goes hs (word := Act.wordAdvance e) hop
  refine ⟨_, rfl, ?_⟩
  rw [hrun, Act.wordAdvance]
  exact hu.advanceThenEnds hs (hu.advances h)

end

/-- Settles O3: each word by its lemma. -/
theorem stepWordsReachOut : Obligations.StepWordsReachOut := by
  unfold Obligations.StepWordsReachOut
  intro s e w hs
  exact ⟨fun hop d a => stepLoad_user_answers hs hop d a, stepLoad_answers hs, stepWr_answers hs, stepWri_answers hs, stepRing_answers hs,
    stepStart_answers hs, stepInject_answers hs, stepAdvance_answers hs⟩

end Sys2Proof.Machine
end

section
-- One proof after another: elaborated side by side, the proofs of the whole text do not fit in the check's memory.
set_option Elab.async false
/-! Writes at the module bus (R30, R40) and the fault log (R417 to R420). -/

namespace Sys2Proof.Machine

/-! ### A write at a reserved offset -/

/-- A module in service whose groups are all lost. -/
def groupsLost : State := { Tests.live with pwr := { Tests.live.pwr with alive := Vector.replicate 4 false } }

/-- The answer that a command leaves. -/
def answerOf (c : Instr) (s : State) : Resp := match exec c s with
  | .next t => t.resp
  | _ => .none

theorem answerOf_lostTarget : answerOf (.registerWrite (.dma 0) 0x1FFFFC 0) groupsLost = .error := by decide +kernel

theorem answer_settled_groupsLost : (Act.settled.run { groupsLost with resp := .ok 0 }).resp = .ok 0 := by decide +kernel

/-- Refutes O56: a DMA write at a reserved offset in the block of a lost group is answered with an error (R19, R390), not taken. -/
theorem not_registerWrites : ¬ Obligations.RegisterWrites := by
  unfold Obligations.RegisterWrites
  intro h
  obtain ⟨-, -, hreserved, -⟩ := h groupsLost (.dma 0) 0x1FFFFC 0
  obtain ⟨u, hexec, hu⟩ := hreserved (by decide +kernel) (by decide) (by decide +kernel)
  have hanswer : answerOf (.registerWrite (.dma 0) 0x1FFFFC 0) groupsLost = .ok 0 := by
    rw [answerOf, hexec, hu]
    exact answer_settled_groupsLost
  rw [answerOf_lostTarget] at hanswer
  contradiction

/-! ### Queueing entries -/

variable {s : State} {kind subject : Nat} {parts : List (List Byte)}

theorem Leaves.answer {f : Fld} {r : Resp} : Leaves f (.answer r) := .upd fun _ => rfl

theorem Leaves.accept {f : Fld} : Leaves f .accept := .answer

/-- A state that has other parts alone. -/
theorem Touches.of_rest {l : List RegName} {rs : List RegRef} {ps : List Part} {s t : State} (h : t = s.withParts ps t) (hr : t.regs = s.regs) :
    Touches l rs ps s t :=
  { regs := fun n i j k _ _ => by rw [State.r_eq, State.r_eq, hr]
    parts := fun x hx => by rw [h]; exact State.withParts_same hx s _
    pending := by rw [h]; rfl }

theorem Touches.log {l : List RegName} {rs : List RegRef} (x : LogSt) : Touches l rs [.log, .seed] s { s with log := x } := .of_rest rfl rfl

/-- Nothing but registers and the fault log has changed. -/
theorem Touches.onlyRegsAndLog {l : List RegName} {rs : List RegRef} {t : State} (h : Touches l rs [.log, .seed] s t) : OnlyRegsAndLog s t :=
  (h.mono (ps' := [.resp, .log, .seed]) (List.Subset.refl l) (List.Subset.refl rs)).rest

theorem Act.logPending_within : Within [] [⟨.FAULT_STATUS, 0, 0, 0⟩] [.seed] .logPending :=
  .look fun _ => .ite .setFAt (.fresh fun _ => .setFAt)

theorem Act.logPending_value (h : s.log.queue.length < 256) :
    (Act.logPending.run s).f F.FAULT_STATUS_LOG_PENDING = s.log.queue.length := by
  rw [Act.logPending, Act.look_run, if_pos h]
  exact (Act.setF_f_same F.FAULT_STATUS_LOG_PENDING _ 0 0 0 s (by decide) (by decide)).trans (Nat.mod_eq_of_lt h)

/-- The log with the entries of one event at the end of its queue. -/
def LogSt.queued (l : LogSt) (s : State) (kind subject : Nat) (parts : List (List Byte)) : LogSt :=
  { l with queue := l.queue ++ logParts s kind subject parts, next := (l.next + parts.length) % 4294967296 }

theorem logQueue_answers {kind subject : BitVec 16} (hlost : s.log.lost = 0) (hroom : s.log.queue.length + parts.length ≤ 256) :
    Answers (.logEntryQueue kind subject parts) s fun t =>
      t.log = s.log.queued s kind.toNat subject.toNat parts ∧
      (t.log.queue.length < 256 → t.f F.FAULT_STATUS_LOG_PENDING = t.log.queue.length) ∧
      RegsKept [⟨.FAULT_STATUS, 0, 0, 0⟩] s t ∧ OnlyRegsAndLog s t := by
  have hrun : (Act.logMulti kind.toNat subject.toNat parts).run s =
      Act.logPending.run { s with log := s.log.queued s kind.toNat subject.toNat parts } := by
    simp only [Act.logMulti, Act.look_run, hlost, gt_iff_lt, Nat.lt_irrefl, decide_false, Bool.toNat_false, Nat.add_zero, hroom, if_true,
      Bool.false_eq_true, if_false, Act.andThen_run, Act.skip_run, Act.upd_run, LogSt.queued]
  have hpending := Act.logPending_within { s with log := s.log.queued s kind.toNat subject.toNat parts }
  have hlog := hpending.parts .log (by decide)
  have htouch := (Touches.log (l := []) (rs := [⟨.FAULT_STATUS, 0, 0, 0⟩]) (s.log.queued s kind.toNat subject.toNat parts)).trans hpending.mono
  refine ⟨_, rfl, ?_⟩
  rw [hrun]
  refine ⟨hlog, fun h => ?_, htouch.regsKept, htouch.onlyRegsAndLog⟩
  rw [hlog] at h ⊢
  exact Act.logPending_value h

theorem logLost_answers {kind subject : BitVec 16} (hfull : 256 < s.log.queue.length + parts.length + (if 0 < s.log.lost then 1 else 0)) :
    Answers (.logEntryQueue kind subject parts) s fun t =>
      t.log = { s.log with lost := s.log.lost + 1 } ∧ t.b F.FAULT_EVENTS_LOG_OVERFLOW = true ∧
      RegsKept [⟨.FAULT_EVENTS, 0, 0, 0⟩] s t ∧ OnlyRegsAndLog s t := by
  have hover : ¬ s.log.queue.length + parts.length + (decide (s.log.lost > 0)).toNat ≤ 256 := by
    by_cases hmore : 0 < s.log.lost
    · simpa [hmore] using hfull
    · simpa [hmore] using hfull
  have hrun : (Act.logMulti kind.toNat subject.toNat parts).run s =
      (Act.setB F.FAULT_EVENTS_LOG_OVERFLOW true).run { s with log := { s.log with lost := s.log.lost + 1 } } := by
    simp only [Act.logMulti, Act.look_run, if_neg hover, Act.andThen_run, Act.upd_run]
  have hin : Within [] [⟨.FAULT_EVENTS, 0, 0, 0⟩] [] (.setB F.FAULT_EVENTS_LOG_OVERFLOW true) := .setBAt
  have hset := hin { s with log := { s.log with lost := s.log.lost + 1 } }
  have htouch := (Touches.log (l := []) (rs := [⟨.FAULT_EVENTS, 0, 0, 0⟩]) { s.log with lost := s.log.lost + 1 }).trans hset.mono
  refine ⟨_, rfl, ?_⟩
  rw [hrun]
  exact ⟨hset.parts .log (by decide), Act.setB_b_same _ _ _ _ _ _ (by decide) (by decide) (by decide), htouch.regsKept,
    htouch.onlyRegsAndLog⟩

/-! ### Committing and reading entries -/

theorem Act.logBounds_within : Within [.LOG_OLDEST, .LOG_NEWEST] [] [] .logBounds := by
  refine .look fun s => ?_
  split
  · exact .all ⟨.setF, .setF⟩
  · exact .skip

/-- R419: the parts of an entry go from the queue to flash. -/
def LogSt.committed (l : LogSt) (e : LogEntry) : LogSt :=
  { l with flash := logAppend l.flash (l.queue.take e.parts), queue := l.queue.drop e.parts }

theorem LogSt.lost_of_moved (l : LogSt) (flash queue : List LogEntry) : { l with flash := flash, queue := queue }.lost = l.lost := rfl

theorem LogSt.committed_lost (l : LogSt) (e : LogEntry) : (l.committed e).lost = l.lost := by rw [LogSt.committed, LogSt.lost_of_moved]

theorem Act.logOverflow_none (h : s.log.lost = 0) : Act.logOverflow.run s = s := by
  rw [Act.logOverflow, Act.look_run, if_neg, Act.skip_run]
  rw [h]
  exact fun h => Nat.lt_irrefl 0 h.1

/-- R419: the parts of an entry go from the queue to flash. -/
def Act.commitParts (e : LogEntry) : Act := .upd fun s => { s with log := { s.log with
  flash := logAppend s.log.flash (s.log.queue.take e.parts)
  queue := s.log.queue.drop e.parts } }

theorem Act.commitParts_run (e : LogEntry) (s : State) : (Act.commitParts e).run s = { s with log := s.log.committed e } := by
  rw [Act.commitParts, Act.upd_run, LogSt.committed]

theorem Act.logCommit_run {e : LogEntry} {l : List LogEntry} (hqueue : s.log.queue = e :: l) :
    Act.logCommit.run s = (Act.all [.commitParts e, .logBounds, .logOverflow, .logPending]).run s := by
  rw [Act.logCommit, Act.look_run, hqueue]
  exact congrArg (fun a => (Act.all [a, .logBounds, .logOverflow, .logPending]).run s) rfl

theorem logCommit_answers {e : LogEntry} {l : List LogEntry} (hqueue : s.log.queue = e :: l) (hlost : s.log.lost = 0) :
    Answers .logEntryCommit s fun t =>
      t.log = s.log.committed e ∧ NamesKept [.LOG_OLDEST, .LOG_NEWEST, .FAULT_STATUS] s t ∧ OnlyRegsAndLog s t := by
  have hkept := s.log.committed_lost e
  have hcommit := Act.logCommit_run hqueue
  rw [Act.all_cons_run, Act.commitParts_run] at hcommit
  generalize s.log.committed e = x at hkept hcommit ⊢
  have hbounds := Act.logBounds_within { s with log := x }
  have hlog : (Act.logBounds.run { s with log := x }).log = x := hbounds.parts .log (by decide)
  have hnone := Act.logOverflow_none (s := Act.logBounds.run { s with log := x }) (by rw [hlog, hkept, hlost])
  have hpending : Within [.FAULT_STATUS] [] [.seed] .logPending := .logPending
  have htail := (hbounds.mono (l' := [.LOG_OLDEST, .LOG_NEWEST, .FAULT_STATUS]) (rs' := []) (ps' := [.seed])).trans (hpending _).mono
  have htouch := (Touches.log (s := s) (l := [.LOG_OLDEST, .LOG_NEWEST, .FAULT_STATUS]) (rs := []) x).trans htail.mono
  refine ⟨_, rfl, ?_⟩
  rw [hcommit, Act.all_cons_run, Act.all_cons_run, Act.all_cons_run, Act.all_nil_run, hnone]
  exact ⟨htail.parts .log (by decide), htouch.namesKept, htouch.onlyRegsAndLog⟩

theorem logCommit_empty (hqueue : s.log.queue = []) : Answers .logEntryCommit s fun t => t = s := by
  refine ⟨_, rfl, ?_⟩
  rw [Act.logCommit, Act.look_run, hqueue]
  rfl

/-- R420: LOG_DATA takes the image of an entry. -/
def Act.loadEntry (e : LogEntry) : Act :=
  .each (List.range 32) fun i => .setR .LOG_DATA (BitVec.ofNat 32 (leNat ((e.image.drop (4 * i)).take 4))) i

theorem Act.loadEntry_word (e : LogEntry) {i : Nat} (hi : i < 32) (s : State) :
    ((Act.loadEntry e).run s).r .LOG_DATA i = BitVec.ofNat 32 (leNat ((e.image.drop (4 * i)).take 4)) := by
  refine Act.brings_each_at (R := fun t => t.r .LOG_DATA i = _) (List.mem_range.mpr hi) (fun t => ?_) (fun y hy t h => ?_) s
  · exact (Act.setR_r_same .LOG_DATA _ i 0 0 t (RegRef.valid_of hi)).trans BitVec.and_allOnes
  · exact (Act.setR_r_ne_inst _ _ _ _ _ _ _ _ _ fun h => hy h.1).trans h

theorem logSel_found {src : Src} {v : Word} {e : LogEntry} (hw : s.takesReg src .LOG_SEL) (he : s.logEntry v.toNat = some e) :
    Answers (.logSelWrite src v) s fun t =>
      t.resp = .ok 0 ∧ t.r .LOG_SEL = v ∧ t.b F.LOG_STATUS_READY = true ∧ t.b F.LOG_STATUS_MISSING = false ∧
      (∀ i, i < 32 → t.r .LOG_DATA i = BitVec.ofNat 32 (leNat ((e.image.drop (4 * i)).take 4))) ∧
      NamesKept [.LOG_SEL, .LOG_STATUS, .LOG_DATA] s t ∧ OnlyRegs s t := by
  have hrun := Act.writeTo_accepted (d := 0) hw (a := .all [.logSelect v, .accept]) rfl
  have heffect : (Act.all [.logSelect v, .accept]).run s = (Act.all [.setF F.LOG_SEL_SEQ v.toNat, .loadEntry e,
      .setB F.LOG_STATUS_READY true, .setB F.LOG_STATUS_MISSING false, .accept]).run s := by
    simp only [Act.logSelect, Act.look_run, he, Act.all_cons_run, Act.all_nil_run, Act.andThen_run, Act.loadEntry]
  have hload : Within [.LOG_DATA] [] [] (.loadEntry e) := .each fun _ => .setR
  have hin : Within [.LOG_SEL, .LOG_STATUS, .LOG_DATA] [] [.resp] (.all [.setF F.LOG_SEL_SEQ v.toNat, .loadEntry e,
      .setB F.LOG_STATUS_READY true, .setB F.LOG_STATUS_MISSING false, .accept]) := .all ⟨.setF, hload.mono, .setB, .setB, .accept⟩
  have htail : Within [.LOG_STATUS] [] [.resp] (.all [.setB F.LOG_STATUS_READY true, .setB F.LOG_STATUS_MISSING false, .accept]) :=
    .all ⟨.setB, .setB, .accept⟩
  refine ⟨_, rfl, ?_⟩
  rw [hrun, heffect]
  refine ⟨rfl, ?sel, ?ready, ?missing, fun i hi => ?data, (hin s).namesKept, (hin s).rest⟩
  case sel =>
    rw [Act.all_cons_run, Act.all_cons_run, (htail _).r_eq 0 0 0, (hload _).r_eq 0 0 0]
    exact Act.setF_full rfl rfl (by decide) (by decide) v s
  case ready =>
    rw [Act.all_cons_run, Act.all_cons_run]
    refine (Act.all_b_head ?_).trans (Act.setB_b_same _ _ _ _ _ _ (by decide) (by decide) (by decide))
    exact .all ⟨.setB, .accept⟩
  case missing =>
    rw [Act.all_cons_run, Act.all_cons_run, Act.all_cons_run]
    refine (Act.all_b_head ?_).trans (Act.setB_b_same _ _ _ _ _ _ (by decide) (by decide) (by decide))
    exact .all (by exact .accept)
  case data =>
    rw [Act.all_cons_run, Act.all_cons_run, (htail _).r_eq i 0 0]
    exact Act.loadEntry_word e hi _

theorem logSel_missing {src : Src} {v : Word} (hw : s.takesReg src .LOG_SEL) (he : s.logEntry v.toNat = none) :
    Answers (.logSelWrite src v) s fun t =>
      t.resp = .ok 0 ∧ t.r .LOG_SEL = v ∧ t.b F.LOG_STATUS_READY = true ∧ t.b F.LOG_STATUS_MISSING = true ∧
      NamesKept [.LOG_SEL, .LOG_STATUS] s t ∧ OnlyRegs s t := by
  have hrun := Act.writeTo_accepted (d := 0) hw (a := .all [.logSelect v, .accept]) rfl
  have heffect : (Act.all [.logSelect v, .accept]).run s = (Act.all [.setF F.LOG_SEL_SEQ v.toNat, .setB F.LOG_STATUS_READY true,
      .setB F.LOG_STATUS_MISSING true, .accept]).run s := by
    simp only [Act.logSelect, Act.look_run, he, Act.all_cons_run, Act.all_nil_run, Act.andThen_run]
  have hin : Within [.LOG_SEL, .LOG_STATUS] [] [.resp] (.all [.setF F.LOG_SEL_SEQ v.toNat, .setB F.LOG_STATUS_READY true,
      .setB F.LOG_STATUS_MISSING true, .accept]) := .all ⟨.setF, .setB, .setB, .accept⟩
  have htail : Within [.LOG_STATUS] [] [.resp] (.all [.setB F.LOG_STATUS_READY true, .setB F.LOG_STATUS_MISSING true, .accept]) :=
    .all ⟨.setB, .setB, .accept⟩
  refine ⟨_, rfl, ?_⟩
  rw [hrun, heffect]
  refine ⟨rfl, ?sel, ?ready, ?missing, (hin s).namesKept, (hin s).rest⟩
  case sel =>
    rw [Act.all_cons_run, (htail _).r_eq 0 0 0]
    exact Act.setF_full rfl rfl (by decide) (by decide) v s
  case ready =>
    rw [Act.all_cons_run]
    refine (Act.all_b_head ?_).trans (Act.setB_b_same _ _ _ _ _ _ (by decide) (by decide) (by decide))
    exact .all ⟨.setB, .accept⟩
  case missing =>
    rw [Act.all_cons_run, Act.all_cons_run]
    refine (Act.all_b_head ?_).trans (Act.setB_b_same _ _ _ _ _ _ (by decide) (by decide) (by decide))
    exact .all (by exact .accept)

/-- Settles O57: each command by its lemma. -/
theorem faultLog : Obligations.FaultLog := by
  unfold Obligations.FaultLog
  intro s src v kind subject parts e l
  exact ⟨logQueue_answers, logLost_answers, logCommit_answers, logCommit_empty, fun hw => ⟨logSel_found hw, logSel_missing hw⟩⟩

end Sys2Proof.Machine
end

section
-- One proof after another: elaborated side by side, the proofs of the whole text do not fit in the check's memory.
set_option Elab.async false
/-! What fields hold after a row of actions: the store that names the field gives its value, and the other actions leave it. The side
conditions are closed facts about the register table, so that `simp +decide` reads a field off a row of actions. -/

namespace Sys2Proof.Machine

/-! ### Instances that exist -/

section
variable {p q r : Nat} {n : RegName} (a : Fin p) (b : Fin q) (c : Fin r)

@[simp] theorem RegRef.valid_one (h1 : p ≤ n.row.n1) (h2 : 0 < n.row.n2) (h3 : 0 < n.row.n3) : RegRef.valid ⟨n, a, 0, 0⟩ = true :=
  RegRef.valid_of (Nat.lt_of_lt_of_le a.isLt h1) h2 h3

@[simp] theorem RegRef.valid_two (h1 : p ≤ n.row.n1) (h2 : q ≤ n.row.n2) (h3 : 0 < n.row.n3) : RegRef.valid ⟨n, a, b, 0⟩ = true :=
  RegRef.valid_of (Nat.lt_of_lt_of_le a.isLt h1) (Nat.lt_of_lt_of_le b.isLt h2) h3

@[simp] theorem RegRef.valid_three (h1 : p ≤ n.row.n1) (h2 : q ≤ n.row.n2) (h3 : r ≤ n.row.n3) : RegRef.valid ⟨n, a, b, c⟩ = true :=
  RegRef.valid_of (Nat.lt_of_lt_of_le a.isLt h1) (Nat.lt_of_lt_of_le b.isLt h2) (Nat.lt_of_lt_of_le c.isLt h3)

end

/-! ### Stores -/

section
variable {f g : Fld} {i j k i' j' k' : Nat} (s : State)

@[simp] theorem Act.setB_f_spared (v : Bool) (h : f.spares g = true) (hm : g.inMask = true) :
    ((Act.setB f v i j k).run s).f g i' j' k' = s.f g i' j' k' := by
  rw [Act.setB_eq, Act.setF_f_spared _ _ _ _ _ _ _ _ h hm]

@[simp] theorem Act.count_f_spared (n : Nat) (h : f.spares g = true) (hm : g.inMask = true) :
    ((Act.count f n i j k).run s).f g i' j' k' = s.f g i' j' k' := by
  rw [Act.count_run, Act.setF_f_spared _ _ _ _ _ _ _ _ h hm]

@[simp] theorem Act.setBit_f_spared (b : Nat) (h : f.spares g = true) (hm : g.inMask = true) :
    ((Act.setBit f b i j k).run s).f g i' j' k' = s.f g i' j' k' := by
  rw [Act.setBit_run, Act.setF_f_spared _ _ _ _ _ _ _ _ h hm]

@[simp] theorem Act.clrBit_f_spared (b : Nat) (h : f.spares g = true) (hm : g.inMask = true) :
    ((Act.clrBit f b i j k).run s).f g i' j' k' = s.f g i' j' k' := by
  rw [Act.clrBit_run, Act.setF_f_spared _ _ _ _ _ _ _ _ h hm]

@[simp] theorem Act.setR_f_spared {n : RegName} (v : Word) (h : n ≠ g.name) : ((Act.setR n v i j k).run s).f g i' j' k' = s.f g i' j' k' :=
  Act.setR_f_ne v i j k i' j' k' s h

@[simp] theorem Act.setB_f_same (v : Bool) (hv : RegRef.valid ⟨f.name, i, j, k⟩ = true) (hm : f.inMask = true) (hw : f.width = 1) :
    ((Act.setB f v i j k).run s).f f i j k = v.toNat := by
  rw [Act.setB_eq, Act.setF_f_same f _ i j k s hv hm, hw]
  cases v <;> rfl

@[simp] theorem Act.count_f_counted (n : Nat) (hv : RegRef.valid ⟨f.name, i, j, k⟩ = true) (hm : f.inMask = true) :
    ((Act.count f n i j k).run s).f f i j k = min (s.f f i j k + n) (2 ^ f.width - 1) := by
  have hpos := Nat.two_pow_pos f.width
  rw [Act.count_run, Act.setF_f_same f _ i j k s hv hm]
  exact Nat.mod_eq_of_lt (by omega)

@[simp] theorem Act.setF_f_kept (v : Nat) (h : f.spares g = true) (hm : g.inMask = true) :
    ((Act.setF f v i j k).run s).f g i' j' k' = s.f g i' j' k' := Act.setF_f_spared _ _ _ _ _ _ _ _ h hm

@[simp] theorem Act.setF_f_stored (v : Nat) (hv : RegRef.valid ⟨f.name, i, j, k⟩ = true) (hm : f.inMask = true) :
    ((Act.setF f v i j k).run s).f f i j k = v % 2 ^ f.width := Act.setF_f_same f v i j k s hv hm

@[simp] theorem Act.setB_b_stored (v : Bool) (hv : RegRef.valid ⟨f.name, i, j, k⟩ = true) (hm : f.inMask = true) (hw : f.width = 1) :
    ((Act.setB f v i j k).run s).b f i j k = v := Act.setB_b_same f v i j k s hv hm hw

@[simp] theorem Act.setF_b_kept (v : Nat) (h : f.spares g = true) (hm : g.inMask = true) :
    ((Act.setF f v i j k).run s).b g i' j' k' = s.b g i' j' k' := congrArg (· == 1) (Act.setF_f_kept s v h hm)

@[simp] theorem Act.setB_b_kept (v : Bool) (h : f.spares g = true) (hm : g.inMask = true) :
    ((Act.setB f v i j k).run s).b g i' j' k' = s.b g i' j' k' := congrArg (· == 1) (Act.setB_f_spared s v h hm)

@[simp] theorem Act.count_b_kept (n : Nat) (h : f.spares g = true) (hm : g.inMask = true) :
    ((Act.count f n i j k).run s).b g i' j' k' = s.b g i' j' k' := congrArg (· == 1) (Act.count_f_spared s n h hm)

@[simp] theorem Act.setBit_b_kept (b : Nat) (h : f.spares g = true) (hm : g.inMask = true) :
    ((Act.setBit f b i j k).run s).b g i' j' k' = s.b g i' j' k' := congrArg (· == 1) (Act.setBit_f_spared s b h hm)

@[simp] theorem Act.clrBit_b_kept (b : Nat) (h : f.spares g = true) (hm : g.inMask = true) :
    ((Act.clrBit f b i j k).run s).b g i' j' k' = s.b g i' j' k' := congrArg (· == 1) (Act.clrBit_f_spared s b h hm)

@[simp] theorem Act.setR_b_spared {n : RegName} (v : Word) (h : n ≠ g.name) : ((Act.setR n v i j k).run s).b g i' j' k' = s.b g i' j' k' :=
  congrArg (· == 1) (Act.setR_f_spared s v h)

@[simp] theorem Act.setBit_bit_stored {b : Nat} (hv : RegRef.valid ⟨f.name, i, j, k⟩ = true) (hm : f.inMask = true) (hb : b < f.width) :
    ((Act.setBit f b i j k).run s).bit f b i j k = true := Act.setBit_bit_same f b i j k s hv hm hb

@[simp] theorem Act.clrBit_bit_stored {b : Nat} (hv : RegRef.valid ⟨f.name, i, j, k⟩ = true) (hm : f.inMask = true) (hb : b < f.width) :
    ((Act.clrBit f b i j k).run s).bit f b i j k = false := Act.clrBit_bit_same f b i j k s hv hm hb

@[simp] theorem Act.setR_r_stored {n : RegName} (v : Word) (hv : RegRef.valid ⟨n, i, j, k⟩ = true) :
    ((Act.setR n v i j k).run s).r n i j k = v &&& n.mask := Act.setR_r_same _ _ _ _ _ _ hv

end

@[simp] theorem Bool.toNat_beq_one (b : Bool) : (b.toNat == 1) = b := by cases b <;> rfl

end Sys2Proof.Machine
end

section
-- One proof after another: elaborated side by side, the proofs of the whole text do not fit in the check's memory.
set_option Elab.async false
/-! Inputs, references and overload events (R141, R142, R170, R180 to R182). -/

namespace Sys2Proof.Machine

section
variable {s : State} {src : Src} {g : Grp} {i : Ain} {v : Word}

/-! ### Input modes -/

theorem inpMode_answers (hw : s.takesReg src .INP_CFG g i) (h : s.taken g i = false ∨ F.INP_CFG_MODE.of v = s.f F.INP_CFG_MODE g i) :
    Answers (.inpModeWrite src g i v) s fun t =>
      t.resp = .ok 0 ∧ t.f F.INP_CFG_MODE g i = F.INP_CFG_MODE.of v ∧ RegsKept [⟨.INP_CFG, g, i, 0⟩] s t ∧ OnlyRegs s t := by
  have heffect : (Act.inpMode g i v).run s = (Act.all [.setR .INP_CFG v g i, .accept]).run s := by
    rcases h with h | h <;> simp [Act.inpMode, h]
  have hrun := Act.writeTo_accepted (d := 0) hw (a := Act.inpMode g i v) (by rw [heffect]; rfl)
  have hin : Within [] [⟨.INP_CFG, g, i, 0⟩] [.resp] (.all [.setR .INP_CFG v g i, .accept]) := .all ⟨.setRAt, .accept⟩
  refine ⟨_, rfl, ?_⟩
  rw [hrun, heffect]
  exact ⟨rfl, Act.setR_f_at (RegRef.valid_two g i (by decide) (by decide) (by decide)) v s, (hin s).regsKept, (hin s).rest⟩

theorem valid_inpRefused (g : Grp) : RegRef.valid ⟨.INP_REFUSED, g, 0, 0⟩ = true := RegRef.valid_one g (by decide) (by decide) (by decide)

theorem inpMode_refused (hw : s.takesReg src .INP_CFG g i) (htaken : s.taken g i = true) (hreduced : s.reducedOn = false)
    (hmode : F.INP_CFG_MODE.of v ≠ s.f F.INP_CFG_MODE g i) : Answers (.inpModeWrite src g i v) s fun t =>
      t.resp = .error ∧ t.f F.INP_CFG_MODE g i = s.f F.INP_CFG_MODE g i ∧ Counted F.INP_REFUSED_COUNT s t g ∧ OnlyRegs s t := by
  have heffect : (Act.inpMode g i v).run s = (Act.refuse F.INP_REFUSED_COUNT g).run s := by simp [Act.inpMode, htaken, hreduced, hmode]
  obtain ⟨hresp, hcount, hkept, honly⟩ := Act.writeTo_refused hw heffect (valid_inpRefused g)
  exact ⟨_, rfl, hresp, congrArg F.INP_CFG_MODE.of (hkept _ _ _ _ (by decide)), hcount, honly⟩

/-! ### References -/

theorem refSel_refused (hw : s.takesReg src .REF_CFG g) (hsel : F.REF_CFG_SEL.of v = 3) : Answers (.refSelWrite src g v) s fun t =>
    t.resp = .error ∧ t.f F.REF_CFG_SEL g = s.f F.REF_CFG_SEL g ∧ Counted F.INP_REFUSED_COUNT s t g ∧ OnlyRegs s t := by
  have heffect : (Act.refCfg g v).run s = (Act.refuse F.INP_REFUSED_COUNT g).run s := by rw [Act.refCfg, if_pos hsel]
  obtain ⟨hresp, hcount, hkept, honly⟩ := Act.writeTo_refused hw heffect (valid_inpRefused g)
  exact ⟨_, rfl, hresp, congrArg F.REF_CFG_SEL.of (hkept _ _ _ _ (by decide)), hcount, honly⟩

theorem Within.refSettled {on : Bool} : Within [] [⟨.REF_CFG, g, 0, 0⟩, ⟨.REF_STATUS, g, 0, 0⟩] [.refs] (.refSettled g on) :=
  .look fun _ => .all ⟨.when .setRef, .setBAt⟩

theorem Act.refSettled_value (on : Bool) (s : State) : ((Act.refSettled g on).run s).b F.REF_STATUS_REF_SETTLED g = on := by
  simp +decide [Act.refSettled]

theorem Act.refSettled_intAt (on : Bool) (s : State) : ((Act.refSettled g on).run s).refs[g].intAt = s.refs[g].intAt := by
  cases h : on && !s.b F.REF_STATUS_REF_SETTLED g <;> simp [Act.refSettled, h]

theorem Leaves.refSettled {f : Fld} {on : Bool} (h : F.REF_STATUS_REF_SETTLED.spares f = true := by decide) (hm : f.inMask = true := by decide) :
    Leaves f (.refSettled g on) := .look fun _ => .all ⟨.when (.upd fun _ => rfl), .setB h hm⟩

theorem Act.refSelect_answers {sel : Nat} (hne : sel ≠ s.f F.REF_CFG_SEL g) (hsel : sel < 4) : let t := (Act.refSelect g sel).run s
    t.f F.REF_CFG_SEL g = sel ∧ t.b F.REF_STATUS_REF_RANGE g = false ∧
    t.b F.REF_STATUS_REF_SETTLED g = (sel == 0 && s.b F.REF_STATUS_INT_SETTLED g) := by
  have hwidth : F.REF_CFG_SEL.width = 2 := rfl
  simp only [Act.refSelect, Act.look_run, bne_iff_ne.mpr hne, Act.when_true_run, Act.all_cons_run, Act.all_nil_run, Act.refSettled_value, and_true]
  rw [(Leaves.refSettled (f := F.REF_CFG_SEL)) _ g 0 0, (Leaves.refSettled (f := F.REF_STATUS_REF_RANGE)).b _ g 0 0]
  simp +decide [State.b, Nat.mod_eq_of_lt, hwidth, hsel]

theorem refSel_answers (hw : s.takesReg src .REF_CFG g) (hsel : F.REF_CFG_SEL.of v ≠ 3) (hne : F.REF_CFG_SEL.of v ≠ s.f F.REF_CFG_SEL g) :
    Answers (.refSelWrite src g v) s fun t =>
      t.resp = .ok 0 ∧ t.f F.REF_CFG_SEL g = F.REF_CFG_SEL.of v ∧ t.b F.REF_STATUS_REF_RANGE g = false ∧
      (t.b F.REF_STATUS_REF_SETTLED g ↔ F.REF_CFG_SEL.of v = 0 ∧ s.b F.REF_STATUS_INT_SETTLED g = true) ∧
      RegsKept [⟨.REF_CFG, g, 0, 0⟩, ⟨.REF_STATUS, g, 0, 0⟩] s t ∧ t = { s with regs := t.regs, refs := t.refs, resp := t.resp } := by
  have heffect : (Act.refCfg g v).run s = (Act.all [.refSelect g (F.REF_CFG_SEL.of v), .accept]).run s := by rw [Act.refCfg, if_neg hsel]
  have hrun := Act.writeTo_accepted (d := 0) hw (a := Act.refCfg g v) (by rw [heffect]; rfl)
  have hin : Within [] [⟨.REF_CFG, g, 0, 0⟩, ⟨.REF_STATUS, g, 0, 0⟩] [.refs] (.refSelect g (F.REF_CFG_SEL.of v)) :=
    .look fun _ => .when (.all ⟨.setFAt, .setBAt, .setRef, Within.refSettled⟩)
  have htouch := hin.thenAccept s
  obtain ⟨hval, hrange, hsettled⟩ := Act.refSelect_answers hne (Nat.mod_lt _ (by decide))
  refine ⟨_, rfl, ?_⟩
  rw [hrun, heffect]
  refine ⟨rfl, hval, hrange, ?_, htouch.regsKept, htouch.rest⟩
  rw [Act.all_cons_run, Act.all_cons_run, Act.all_nil_run, Leaves.accept.b, hsettled, Bool.and_eq_true, beq_iff_eq]

theorem intSettled_answers (halive : s.alive g = true) (hint : s.b F.REF_STATUS_INT_SETTLED g = false)
    (hdue : s.pwr.aliveAt[g] + 3276800 ≤ s.clk) : Answers (.intSettledTimer g) s fun t =>
      t.b F.REF_STATUS_INT_SETTLED g = true ∧ t.refs[g].intAt = s.clk ∧
      (s.f F.REF_CFG_SEL g = 0 → t.b F.REF_STATUS_REF_SETTLED g = true) ∧ RegsKept [⟨.REF_STATUS, g, 0, 0⟩] s t := by
  have hsettle : Within [] [⟨.REF_STATUS, g, 0, 0⟩] [.refs] (.refSettled g true) := .look fun _ => .all ⟨.when .setRef, .setBAt⟩
  have hin : Within [] [⟨.REF_STATUS, g, 0, 0⟩] [.refs] (.intSettled g) :=
    .look fun _ => .when (.all ⟨.setBAt, .setRef, .when hsettle⟩)
  have hrun : (Act.intSettled g).run s = (Act.all [.setB F.REF_STATUS_INT_SETTLED true g, .setRef g fun x => { x with intAt := s.clk },
      .when (s.f F.REF_CFG_SEL g == 0) (.refSettled g true)]).run s := by
    simp only [Act.intSettled, Act.look_run, halive, hint, hdue, Bool.not_false, decide_true, Bool.and_self, Act.when_true_run]
  refine ⟨_, rfl, ?int, ?at_, fun hsel => ?settled, (hin s).regsKept⟩
  all_goals rw [hrun]
  case int =>
    refine (Act.all_b_head (by exact .all ⟨.upd fun _ => rfl, .when .refSettled⟩)).trans ?_
    simp +decide
  case at_ =>
    rw [Act.all_cons_run, Act.all_cons_run, Act.all_cons_run, Act.all_nil_run]
    cases s.f F.REF_CFG_SEL g == 0
    · simp
    · rw [Act.when_true_run, Act.refSettled_intAt]
      simp
  case settled =>
    rw [hsel, Act.all_cons_run, Act.all_cons_run, Act.all_cons_run, Act.all_nil_run]
    exact Act.refSettled_value true _

end

/-! ### Overload events -/

section
variable {s : State} {g : Grp} {m : Mod} {p : Bool}

theorem Within.ovrBegin : Within [.CV_STATUS, .CV8_STATUS] [] [] (.ovrBegin g m) :=
  .all ⟨Within.ovrNow, .ite (.all ⟨.setB, .count⟩) (.when (.all ⟨.setB, .count⟩))⟩

theorem Act.setOvl_same (x : List Overload → List Overload) (s : State) : ((Act.setOvl g m x).run s).ovl[g][m] = x s.ovl[g][m] := by simp

theorem Act.ovrBegin_converter (n : Cv) (s : State) : let t := (Act.ovrBegin g (n.castLE (by decide))).run s
    t.b F.CV_STATUS_OVR_NOW g n = true ∧ t.b F.CV_STATUS_OVR g n = true ∧ Counted F.CV_STATUS_OVR_COUNT s t g n := by
  simp +decide [Act.ovrBegin, Act.ovrNow, Counted, State.b]

theorem Act.ovrBegin_spare (s : State) : let t := (Act.ovrBegin g 8).run s
    t.b F.CV8_STATUS_OVR_NOW g = true ∧ t.b F.CV8_STATUS_OVR g = true ∧ Counted F.CV8_STATUS_OVR_COUNT s t g := by
  simp +decide [Act.ovrBegin, Act.ovrNow, Counted, State.b]

theorem overloadDeclare_answers (hmay : s.mayDeclare g m p = true) (hnone : s.ovl[g][m] = []) : Answers (.overloadDeclare g m p) s fun t =>
    t.ovl[g][m] = [⟨s.clk, none, [(s.clk, p)]⟩] ∧
    (∀ n : Cv, m = n.castLE (by decide) → t.b F.CV_STATUS_OVR_NOW g n = true ∧ t.b F.CV_STATUS_OVR g n = true ∧
      Counted F.CV_STATUS_OVR_COUNT s t g n) ∧
    (m = 8 → t.b F.CV8_STATUS_OVR_NOW g = true ∧ t.b F.CV8_STATUS_OVR g = true ∧ Counted F.CV8_STATUS_OVR_COUNT s t g) ∧
    NamesKept [.CV_STATUS, .CV8_STATUS] s t ∧ t = { s with regs := t.regs, ovl := t.ovl } := by
  have hrun : (Act.ovrDeclare g m p).run s =
      (Act.ovrBegin g m).run ((Act.setOvl g m fun _ => [⟨s.clk, none, [(s.clk, p)]⟩]).run s) := by
    simp only [Act.ovrDeclare, Act.look_run, hmay, hnone, Act.when_true_run, Act.all_cons_run, Act.all_nil_run]
  have hset : Within [.CV_STATUS, .CV8_STATUS] [] [.ovl] (.setOvl g m fun _ => [⟨s.clk, none, [(s.clk, p)]⟩]) := .setOvl
  have hbegin := Within.ovrBegin (g := g) (m := m) ((Act.setOvl g m fun _ => [⟨s.clk, none, [(s.clk, p)]⟩]).run s)
  have htouch := (hset s).trans hbegin.mono
  refine ⟨_, rfl, ?_⟩
  rw [hrun]
  refine ⟨?ovl, fun n hn => ?converter, fun h8 => ?spare, htouch.namesKept, htouch.rest⟩
  case ovl => rw [hbegin.parts .ovl (by decide), Act.setOvl_same]
  case converter =>
    subst hn
    exact Act.ovrBegin_converter n _
  case spare =>
    subst h8
    exact Act.ovrBegin_spare _

theorem Act.ovrEnd_stopped (s : State) : ∀ e ∈ ((Act.ovrEnd g m).run s).ovl[g][m], e.stop ≠ none := by
  have hnow := Within.ovrNow (g := g) (m := m) (on := false)
  intro e he
  rw [Act.ovrEnd, Act.look_run, Act.all_cons_run, Act.all_cons_run, Act.all_nil_run, (hnow _).parts .ovl (by decide), Act.setOvl_same,
    List.mem_filter, List.mem_map] at he
  obtain ⟨⟨d, -, rfl⟩, -⟩ := he
  split
  · simp
  · assumption

theorem Act.ovrEnd_converter (n : Cv) (s : State) : let t := (Act.ovrEnd g (n.castLE (by decide))).run s
    t.b F.CV_STATUS_OVR_NOW g n = false ∧ t.b F.CV_STATUS_OVR g n = s.b F.CV_STATUS_OVR g n := by
  simp +decide [Act.ovrEnd, Act.ovrNow, State.b]

theorem Act.ovrEnd_spare (s : State) : ((Act.ovrEnd g 8).run s).b F.CV8_STATUS_OVR_NOW g = false := by
  simp +decide [Act.ovrEnd, Act.ovrNow]

theorem overloadEnd_answers (hover : s.ovrOver g m = true) : Answers (.overloadEventEnd g m) s fun t =>
    (∀ e ∈ t.ovl[g][m], e.stop ≠ none) ∧
    (∀ n : Cv, m = n.castLE (by decide) → t.b F.CV_STATUS_OVR_NOW g n = false ∧ t.b F.CV_STATUS_OVR g n = s.b F.CV_STATUS_OVR g n) ∧
    (m = 8 → t.b F.CV8_STATUS_OVR_NOW g = false) ∧
    NamesKept [.CV_STATUS, .CV8_STATUS] s t ∧ t = { s with regs := t.regs, ovl := t.ovl } := by
  have hrun : (Act.look fun t => .when (t.ovrOver g m) (Act.ovrEnd g m)).run s = (Act.ovrEnd g m).run s := by
    rw [Act.look_run, hover, Act.when_true_run]
  have htouch := Within.ovrEnd (g := g) (m := m) s
  refine ⟨_, rfl, ?_⟩
  rw [hrun]
  refine ⟨Act.ovrEnd_stopped s, fun n hn => ?converter, fun h8 => ?spare, htouch.namesKept, htouch.rest⟩
  case converter =>
    subst hn
    exact Act.ovrEnd_converter n s
  case spare =>
    subst h8
    exact Act.ovrEnd_spare s

end

/-- Settles O11: each write and each event by its lemma. -/
theorem inputsAndReferences : Obligations.InputsAndReferences := by
  unfold Obligations.InputsAndReferences
  intro s src g i m p v
  exact ⟨inpMode_answers, inpMode_refused, refSel_answers, refSel_refused, intSettled_answers, overloadDeclare_answers, overloadEnd_answers⟩

end Sys2Proof.Machine
end

section
-- One proof after another: elaborated side by side, the proofs of the whole text do not fit in the check's memory.
set_option Elab.async false
/-! The declared reference, the operating hours and the crystal (R338, R340, R348, R352). -/

namespace Sys2Proof.Machine

variable {s : State} {src : Src} {g : Grp} {v : Word}

theorem refDecl_answers (hw : s.takesReg src .CAL_REF_DECL g) (hidle : s.f F.CAL_STATUS_STATE g = 0)
    (hrange : F.CAL_REF_DECL_DECL.of v = 0 ∨ 1000000 ≤ F.CAL_REF_DECL_DECL.of v ∧ F.CAL_REF_DECL_DECL.of v ≤ 5000000) :
    Answers (.calRefDeclWrite src g v) s fun t =>
      t.resp = .ok 0 ∧ t.f F.CAL_REF_DECL_DECL g = F.CAL_REF_DECL_DECL.of v ∧ RegsKept [⟨.CAL_REF_DECL, g, 0, 0⟩] s t ∧ OnlyRegs s t := by
  have heffect : (Act.refDecl g v).run s = (Act.all [.setR .CAL_REF_DECL v g, .accept]).run s := by
    rw [Act.refDecl, Act.look_run, if_neg]
    omega
  have hrun := Act.writeTo_accepted (d := 0) hw (a := Act.refDecl g v) (by rw [heffect]; rfl)
  have hin : Within [] [⟨.CAL_REF_DECL, g, 0, 0⟩] [.resp] (.all [.setR .CAL_REF_DECL v g, .accept]) := .all ⟨.setRAt, .accept⟩
  refine ⟨_, rfl, ?_⟩
  rw [hrun, heffect]
  exact ⟨rfl, Act.setR_f_at (RegRef.valid_one g (by decide) (by decide) (by decide)) v s, (hin s).regsKept, (hin s).rest⟩

theorem refDecl_refused (hw : s.takesReg src .CAL_REF_DECL g) (hbad : s.f F.CAL_STATUS_STATE g ≠ 0 ∨ (0 < F.CAL_REF_DECL_DECL.of v ∧
    (F.CAL_REF_DECL_DECL.of v < 1000000 ∨ 5000000 < F.CAL_REF_DECL_DECL.of v))) : Answers (.calRefDeclWrite src g v) s fun t =>
      t.resp = .error ∧ Counted F.CAL_REFUSED_COUNT s t ∧ NamesKept [.CAL_REFUSED, .FAB_PORT_ERR] s t ∧ OnlyRegs s t := by
  have heffect : (Act.refDecl g v).run s = (Act.refuse F.CAL_REFUSED_COUNT).run s := by
    rw [Act.refDecl, Act.look_run, if_pos, Act.calRefuse]
    omega
  exact ⟨_, rfl, Act.writeTo_refused hw heffect (by decide)⟩

theorem hoursTick_answers (hup : s.up = true) (hdue : s.pwr.hourDue ≤ s.clk) : Answers .calHoursTick s fun t =>
    t.r .CAL_HOURS = s.r .CAL_HOURS + 1 ∧ RegsKept [⟨.CAL_HOURS, 0, 0, 0⟩] s t ∧
    t = { s with regs := t.regs, pwr := { s.pwr with hourDue := s.pwr.hourDue + 589824000000 } } := by
  have hin : Within [] [⟨.CAL_HOURS, 0, 0, 0⟩] [] (.setR .CAL_HOURS (s.r .CAL_HOURS + 1)) := .setRAt
  have hrun : Act.hoursTick.run s = { (Act.setR .CAL_HOURS (s.r .CAL_HOURS + 1)).run s with
      pwr := { ((Act.setR .CAL_HOURS (s.r .CAL_HOURS + 1)).run s).pwr with
        hourDue := ((Act.setR .CAL_HOURS (s.r .CAL_HOURS + 1)).run s).pwr.hourDue + 589824000000 } } := by
    simp only [Act.hoursTick, Act.look_run, hup, hdue, decide_true, Bool.and_self, Act.when_true_run, Act.all_cons_run, Act.all_nil_run, Act.upd_run]
  refine ⟨_, rfl, ?_⟩
  rw [hrun]
  refine ⟨?hours, (hin s).regsKept, ?rest⟩
  case hours => exact (Act.setR_r_same .CAL_HOURS _ 0 0 0 s (by decide)).trans BitVec.and_allOnes
  case rest =>
    rw [(hin s).rest]
    rfl

theorem xtal_answers (hup : s.up = true) : Answers (.xtalDeviationUpdate ()) s fun t =>
    t.b F.CAL_XTAL_VALID = decide (s.f F.TIME_STATE_STATE = 2) ∧
    (s.f F.TIME_STATE_STATE = 2 →
      t.f F.CAL_XTAL_DEV = unsigned 24 (clamp (-8388608) 8388607 (roundDiv (-s.rateMean * 1000) 262144))) ∧
    RegsKept [⟨.CAL_XTAL, 0, 0, 0⟩] s t ∧ OnlyRegs s t := by
  have hin : Within [] [⟨.CAL_XTAL, 0, 0, 0⟩] [.resp] .xtal := .look fun _ => .when (.ite (.all ⟨.setFAt, .setBAt⟩) .setBAt)
  refine ⟨_, rfl, ?valid, fun hlocked => ?dev, (hin s).regsKept, (hin s).rest⟩
  all_goals simp only [Act.xtal, Act.look_run, hup, Act.when_true_run]
  case valid =>
    split
    · next hlocked => simp +decide [hlocked]
    · next hlocked => simp +decide [hlocked]
  case dev =>
    have hwidth : F.CAL_XTAL_DEV.width = 24 := rfl
    rw [if_pos hlocked]
    generalize clamp (-8388608) 8388607 (roundDiv (-s.rateMean * 1000) 262144) = x
    have hx : unsigned 24 x < 2 ^ 24 := by rw [unsigned]; omega
    simp +decide [hwidth]
    omega

/-- Settles O14: each register by its lemma. -/
theorem calibrationRegisters : Obligations.CalibrationRegisters := by
  unfold Obligations.CalibrationRegisters
  intro s src g v
  exact ⟨fun hw => ⟨refDecl_answers hw, refDecl_refused hw⟩, hoursTick_answers, xtal_answers⟩

end Sys2Proof.Machine
end

section
-- One proof after another: elaborated side by side, the proofs of the whole text do not fit in the check's memory.
set_option Elab.async false
/-! How calibration runs begin and end (R338 to R350). -/

namespace Sys2Proof.Machine

/-! ### Values held for a key -/

theorem assoc_assocSet_same {κ β : Type} [DecidableEq κ] (l : List (κ × β)) (k : κ) (v : β) : assoc (assocSet l k v) k = some v := by
  simp [assocSet, assoc]

theorem assoc_assocDel_same {κ β : Type} [DecidableEq κ] (l : List (κ × β)) (k : κ) : assoc (assocDel l k) k = none := by
  induction l with
  | nil => rfl
  | cons e l ih => by_cases h : e.1 = k <;> simp_all [assocDel, assoc]

/-! ### The end of a run -/

section
variable {s : State} {g : Grp} {r : CalRun} {cause : Nat} {stage : Bool}

/-- R344, R349: a run has ended with a cause. -/
structure RunEnded (g : Grp) (cause : Nat) (stage : Bool) (t : State) : Prop where
  noRun : t.cal[g].run = none
  idle : t.f F.CAL_STATUS_STATE g = 0
  reason : t.f F.CAL_STATUS_CAUSE g = cause
  spareStage : t.b F.CAL_STATUS_SPARE_STAGE g = stage
  outcome : t.b (if cause = 0 then F.CAL_STATUS_DONE else F.CAL_STATUS_FAILED) g = true

/-- What leaves CAL.STATUS and the controllers alone leaves a run ended. -/
theorem RunEnded.kept {t u : State} (h : RunEnded g cause stage t) {l : List RegName} {ps : List Part} (hu : Touches l [] ps t u)
    (hl : .CAL_STATUS ∉ l := by decide) (hp : .cal ∉ ps := by decide) : RunEnded g cause stage u := by
  have hreg := hu.r_eq (n := .CAL_STATUS) g 0 0 hl
  have hcal : u.cal = t.cal := hu.parts .cal hp
  have houtcome : ∀ f : Fld, f.name = .CAL_STATUS → u.b f g = t.b f g := fun f hf => by rw [State.b, State.b, State.f, State.f, hf, hreg]
  exact
    { noRun := by rw [hcal]; exact h.noRun
      idle := (congrArg F.CAL_STATUS_STATE.of hreg).trans h.idle
      reason := (congrArg F.CAL_STATUS_CAUSE.of hreg).trans h.reason
      spareStage := (houtcome _ rfl).trans h.spareStage
      outcome := (houtcome _ (by split <;> rfl)).trans h.outcome }

/-- R344: an accepted set takes effect. -/
def Act.storeSet (g : Grp) (r : CalRun) (cause : Nat) : Act := .when (cause == 0) (match r.formed with
  | some f => .setCal g fun c => { c with sets := assocSet c.sets (calKey r.cls r.target) f }
  | none => .skip)

/-- R349: the fields of CAL.STATUS that a run's end writes. -/
def Act.reportRun (g : Grp) (cause : Nat) (stage : Bool) : Act := .all [.setF F.CAL_STATUS_STATE 0 g, .setF F.CAL_STATUS_CAUSE cause g,
  .setB F.CAL_STATUS_SPARE_STAGE stage g, if cause = 0 then .setB F.CAL_STATUS_DONE true g else .setB F.CAL_STATUS_FAILED true g]

/-- R344: the run is forgotten. -/
def Act.forgetRun (g : Grp) (r : CalRun) (cause : Nat) (stage : Bool) : Act := .setCal g fun c => { c with
  run := none
  fails := if r.cls = 0 ∧ (cause ≠ 8 ∨ stage) then assocDel c.fails (1000 + r.target) else c.fails }

theorem Act.calEnd_run (hr : s.cal[g].run = some r) : (Act.calEnd g cause stage).run s =
    (Act.all [.logMulti 21 (calKey r.cls r.target) (chunks 6 (s.runEntry g r cause)), .reportRun g cause stage, .storeSet g r cause,
      .backgroundEnd g r cause, .forgetRun g r cause stage]).run s := by
  rw [Act.calEnd, Act.look_run, hr]
  simp only [Act.all_cons_run, Act.all_nil_run, Act.reportRun, Act.storeSet, Act.forgetRun] <;> rfl

theorem Within.storeSet : Within [] [] [.cal] (.storeSet g r cause) := by
  refine .when ?_
  split
  · exact .setCal
  · exact .skip

theorem Act.reportRun_reports (hcause : cause < 32) (s : State) : let t := (Act.reportRun g cause stage).run s
    t.f F.CAL_STATUS_STATE g = 0 ∧ t.f F.CAL_STATUS_CAUSE g = cause ∧ t.b F.CAL_STATUS_SPARE_STAGE g = stage ∧
    t.b (if cause = 0 then F.CAL_STATUS_DONE else F.CAL_STATUS_FAILED) g = true := by
  have hwidth : F.CAL_STATUS_CAUSE.width = 5 := rfl
  by_cases h : cause = 0
  · subst h
    simp +decide [Act.reportRun]
  · simp +decide [Act.reportRun, h, hwidth, Nat.mod_eq_of_lt hcause]

theorem Act.calEnd_ends (hr : s.cal[g].run = some r) (hcause : cause < 32) : RunEnded g cause stage ((Act.calEnd g cause stage).run s) := by
  have htail : Within [.CAL_FAILS] [] [.cal] (.all [.storeSet g r cause, .backgroundEnd g r cause, .forgetRun g r cause stage]) :=
    .all ⟨Within.storeSet.mono, Within.backgroundEnd, .setCal⟩
  rw [Act.calEnd_run hr, Act.all_cons_run, Act.all_cons_run]
  generalize (Act.logMulti 21 (calKey r.cls r.target) (chunks 6 (s.runEntry g r cause))).run s = u
  obtain ⟨hstate, hcaus, hstage, houtcome⟩ := Act.reportRun_reports (g := g) (stage := stage) hcause u
  have hkept := (htail ((Act.reportRun g cause stage).run u)).r_eq (n := .CAL_STATUS) g 0 0
  exact
    { noRun := by simp [Act.forgetRun]
      idle := (congrArg F.CAL_STATUS_STATE.of hkept).trans hstate
      reason := (congrArg F.CAL_STATUS_CAUSE.of hkept).trans hcaus
      spareStage := (congrArg (fun w => F.CAL_STATUS_SPARE_STAGE.of w == 1) hkept).trans hstage
      outcome := by
        refine Eq.trans ?_ houtcome
        split
        · exact congrArg (fun w => F.CAL_STATUS_DONE.of w == 1) hkept
        · exact congrArg (fun w => F.CAL_STATUS_FAILED.of w == 1) hkept }

theorem Act.calFree_ends (hr : s.cal[g].run = some r) (hcause : cause < 32) : RunEnded g cause stage ((Act.calFree g cause stage).run s) :=
  have htail : Within [.CV_STATUS, .CV8_STATUS] [] [.ovl, .spare] (.all [.setF F.CV8_STATUS_ROLE 0 g, .setB F.CV8_STATUS_RUNNING false g, .modStop g 8,
      .setSpare g fun x => { x with move := .none }]) := .all ⟨.setF, .setB, Within.modStop.mono, .setSpare⟩
  (Act.calEnd_ends hr hcause).kept (htail _)

theorem Leaves.modStop_role : Leaves F.CV8_STATUS_ROLE (.modStop g 8) :=
  .look fun _ => .when (.look fun _ => .all ⟨.upd fun _ => rfl, .ite .setB (.when .setB)⟩)

theorem Act.calFree_role (s : State) : ((Act.calFree g cause stage).run s).f F.CV8_STATUS_ROLE g = 0 := by
  rw [Act.calFree, Act.all_cons_run]
  refine (Act.all_f_head (by exact .all ⟨.setB, Leaves.modStop_role, .upd fun _ => rfl⟩)).trans ?_
  simp +decide

theorem Act.calFree_move (s : State) : ((Act.calFree g cause stage).run s).spare[g].move = .none := by
  simp only [Act.calFree, Act.all_cons_run, Act.all_nil_run]
  simp

theorem Act.calEnd_calFree_fieldSet (cls item : Nat) (s : State) :
    ((Act.calFree g cause stage).run s).fieldSet g cls item = ((Act.calEnd g cause stage).run s).fieldSet g cls item := by
  have htail : Within [.CV_STATUS, .CV8_STATUS] [] [.ovl, .spare] (.all [.setF F.CV8_STATUS_ROLE 0 g, .setB F.CV8_STATUS_RUNNING false g, .modStop g 8,
      .setSpare g fun x => { x with move := .none }]) := .all ⟨.setF, .setB, Within.modStop.mono, .setSpare⟩
  rw [Act.calFree, Act.all_cons_run, State.fieldSet, (htail _).parts .cal (by decide), State.fieldSet]

/-- The field sets of the group's items are the same. -/
def SetsKept (g : Grp) (s t : State) : Prop := t.cal[g].sets = s.cal[g].sets

theorem SetsKept.frame : Frame (SetsKept g) := ⟨fun _ => rfl, fun h1 h2 => Eq.trans h2 h1⟩

theorem SetsKept.of_within {a : Act} {l : List RegName} {ps : List Part} (h : Within l [] ps a) (hp : .cal ∉ ps := by decide) :
    a.Keeps (SetsKept g) := fun s => by rw [SetsKept, (h s).parts .cal hp]

theorem Act.backgroundEnd_sets : (Act.backgroundEnd g r cause).Keeps (SetsKept g) := by
  have hfails : ∀ {b : Nat} {f : Fld}, f.name = .CAL_FAILS → (Act.setBit f b g).Keeps (SetsKept g) := fun hf =>
    SetsKept.of_within (l := [.CAL_FAILS]) (ps := []) (.setBit (by simp [hf]))
  refine Act.keeps_look fun _ => Act.keeps_when SetsKept.frame (Act.keeps_ite ?_ (Act.keeps_all SetsKept.frame ⟨?_, ?_⟩))
  · exact fun s => by simp [SetsKept]
  · exact fun s => by simp [SetsKept]
  · exact Act.keeps_when SetsKept.frame (Act.keeps_ite (hfails rfl) (hfails rfl))

/-- The sets after a run's end are those that storing the formed set leaves. -/
theorem Act.calEnd_fieldSet (hr : s.cal[g].run = some r) (cls item : Nat) : ((Act.calEnd g cause stage).run s).fieldSet g cls item =
    match r.formed with
    | some f => if cause = 0 then assoc (assocSet s.cal[g].sets (calKey r.cls r.target) f) (calKey cls item) else s.fieldSet g cls item
    | none => s.fieldSet g cls item := by
  have hhead : Within [.FAULT_STATUS, .FAULT_EVENTS, .CAL_STATUS] [] [.log, .seed]
      (.all [.logMulti 21 (calKey r.cls r.target) (chunks 6 (s.runEntry g r cause)), .reportRun g cause stage]) :=
    .all ⟨.logMulti, .all ⟨.setF, .setF, .setB, .ite .setB .setB⟩⟩
  have hcal := (hhead s).parts .cal (by decide)
  rw [Act.all_cons_run, Act.all_cons_run, Act.all_nil_run] at hcal
  rw [Act.calEnd_run hr]
  simp only [Act.all_cons_run, Act.all_nil_run]
  generalize (Act.reportRun g cause stage).run _ = u at hcal ⊢
  have hforget : ∀ v, ((Act.forgetRun g r cause stage).run v).cal[g].sets = v.cal[g].sets := fun v => by simp [Act.forgetRun]
  rw [State.fieldSet, hforget, show _ = _ from Act.backgroundEnd_sets _, State.fieldSet, ← hcal, Act.storeSet]
  cases r.formed
  · cases cause == 0 <;> rfl
  · by_cases h : cause = 0
    · simp [h]
    · simp [h, beq_false_of_ne h]

end

/-! ### The start of a run -/

section
variable {s : State} {src : Src} {g : Grp} {v : Word} {cls : Fin 3} {target : Fin 16} {back : Bool}

/-- R338: the reference that a class is traced to is declared. -/
abbrev State.traced (s : State) (g : Grp) (cls : Fin 3) : Prop := s.externalTrace cls = false ∨ s.f F.CAL_REF_DECL_DECL g ≠ 0

/-- R345: the run measures its target without the spare converter's help. -/
def State.direct (s : State) (g : Grp) (cls : Fin 3) (target : Fin 16) : Bool := cls == 0 && s.targetIdle g (cvOf target)

/-- R339, R344 to R346: a run has begun. -/
def RunBegun (g : Grp) (cls : Fin 3) (target : Fin 16) (direct back : Bool) (s u : State) : Prop :=
  (∃ r, u.cal[g].run = some r ∧ r.cls = cls.val ∧ r.target = target.val ∧ r.background = back ∧ r.index = 0) ∧
  u.f F.CAL_STATUS_STATE g = (if cls != 2 && !direct then 1 else 4) ∧ u.b F.CAL_STATUS_BACKGROUND g = back ∧
  u.f F.CAL_STATUS_LAST_CLASS g = cls.val ∧ u.f F.CAL_STATUS_LAST_TARGET g = target.val ∧
  (direct = false → u.f F.CV8_STATUS_ROLE g = 1 ∧ u.b F.CV8_STATUS_RUNNING g = true) ∧
  NamesKept [.CAL_CTRL, .CAL_STATUS, .CV8_STATUS] s u

/-- R344 to R347: what the start of a run sets up. -/
def Act.runBegins (g : Grp) (r : CalRun) (direct : Bool) : Act := .all [
  .setCal g fun c => { c with run := some r },
  .setF F.CAL_STATUS_STATE (if r.cls != 2 && !direct then 1 else 4) g, .readingBegins g,
  .setB F.CAL_STATUS_BACKGROUND r.background g, .setF F.CAL_STATUS_LAST_CLASS r.cls g, .setF F.CAL_STATUS_LAST_TARGET r.target g,
  .when (!direct) (.all [.setF F.CV8_STATUS_ROLE 1 g, .setB F.CV8_STATUS_RUNNING true g])]

/-- R341: the run of an item, with no reading. -/
def State.newRun (s : State) (g : Grp) (cls target : Nat) (back : Bool) : CalRun :=
  { cls := cls, target := target, background := back, paths := if cls = 0 then s.runPaths g (cvOf target) else [0]
    index := 0, refs := [], ofs := [], gains := [], temps := [], formed := none, verdict := none }

theorem Act.runStart_run (s : State) : (Act.runStart g cls target back).run s =
    (Act.all [.runBegins g (s.newRun g cls target back) (s.direct g cls target),
      .when (s.externalTrace cls && s.f F.CAL_REF_DECL_DECL g == 0) (.calFree g 3 (cls != 2 && !s.direct g cls target))]).run s := by
  have hcls : ∀ k : Fin 3, (cls.val == k.val) = (cls == k) := fun k => by
    rw [Bool.eq_iff_iff, beq_iff_eq, beq_iff_eq, Fin.ext_iff]
  have hzero : (cls.val == 0) = (cls == 0) := hcls 0
  have htwo : (cls.val != 2) = (cls != 2) := congrArg not (hcls 2)
  simp only [Act.runStart, Act.look_run, Act.all_cons_run, Act.all_nil_run, Act.runBegins, State.newRun, State.direct, hzero, htwo]

theorem Within.runBegins {r : CalRun} {direct : Bool} : Within [.CAL_STATUS, .CV8_STATUS] [] [.cal] (.runBegins g r direct) :=
  .all ⟨.setCal, .setF, .look fun _ => .setCal, .setB, .setF, .setF, .when (.all ⟨.setF, .setB⟩)⟩

theorem Act.runBegins_run (r : CalRun) (direct : Bool) (s : State) : ((Act.runBegins g r direct).run s).cal[g].run = some r := by
  cases direct <;> simp [Act.runBegins, Act.readingBegins]

theorem Act.runBegins_begun (direct : Bool) (s s' : State) (hs : NamesKept [.CAL_CTRL, .CAL_STATUS, .CV8_STATUS] s' s) :
    RunBegun g cls target direct back s' ((Act.runBegins g (s.newRun g cls target back) direct).run s) := by
  have hstate : F.CAL_STATUS_STATE.width = 3 := rfl
  have hclass : F.CAL_STATUS_LAST_CLASS.width = 2 := rfl
  have htarget : F.CAL_STATUS_LAST_TARGET.width = 4 := rfl
  have hrole : F.CV8_STATUS_ROLE.width = 2 := rfl
  have hcls : cls.val < 4 := by omega
  have hin := Within.runBegins (g := g) (r := s.newRun g cls target back) (direct := direct) s
  have htwo : (cls.val != 2) = (cls != 2) := by
    rw [Bool.eq_iff_iff, bne_iff_ne, bne_iff_ne, ne_eq, ne_eq, Fin.ext_iff]
    rfl
  refine ⟨⟨_, Act.runBegins_run .., rfl, rfl, rfl, rfl⟩, ?_, ?_, ?_, ?_, ?_, fun n i j k hn => ?_⟩
  · cases direct <;> cases h : cls != 2 <;> simp +decide [Act.runBegins, Act.readingBegins, State.newRun, hstate, htwo, h]
  · cases direct <;> simp +decide [Act.runBegins, Act.readingBegins, State.newRun]
  · cases direct <;> simp +decide [Act.runBegins, Act.readingBegins, State.newRun, hclass, hcls]
  · cases direct <;> simp +decide [Act.runBegins, Act.readingBegins, State.newRun, htarget]
  · rintro rfl
    simp +decide [Act.runBegins, Act.readingBegins, State.newRun, hrole]
  · exact (hin.mono (l' := [.CAL_CTRL, .CAL_STATUS, .CV8_STATUS]) (rs' := []) (ps' := [.cal])).namesKept n i j k hn |>.trans (hs n i j k hn)

theorem Act.runBegins_turn (r : CalRun) (direct : Bool) (s : State) : ((Act.runBegins g r direct).run s).cal[g].turn = s.cal[g].turn := by
  cases direct <;> simp [Act.runBegins, Act.readingBegins]

theorem Act.runStart_traced_run (htraced : s.traced g cls) : (Act.runStart g cls target back).run s =
    (Act.runBegins g (s.newRun g cls target back) (s.direct g cls target)).run s := by
  have hno : (s.externalTrace cls && s.f F.CAL_REF_DECL_DECL g == 0) = false := by
    rcases htraced with h | h
    · rw [h, Bool.false_and]
    · rw [beq_false_of_ne h, Bool.and_false]
  rw [Act.runStart_run, hno, Act.all_cons_run, Act.all_cons_run, Act.all_nil_run, Act.when_false_run]

theorem Act.runStart_begun (htraced : s.traced g cls) (s' : State) (hs : NamesKept [.CAL_CTRL, .CAL_STATUS, .CV8_STATUS] s' s) :
    RunBegun g cls target (s.direct g cls target) back s' ((Act.runStart g cls target back).run s) := by
  rw [Act.runStart_traced_run htraced]
  exact Act.runBegins_begun _ s s' hs

theorem Act.runStart_untraced (htraced : ¬ s.traced g cls) : let t := (Act.runStart g cls target back).run s
    RunEnded g 3 (cls != 2 && !s.direct g cls target) t ∧ t.f F.CV8_STATUS_ROLE g = 0 := by
  rw [not_or, Bool.not_eq_false, not_not] at htraced
  obtain ⟨htrace, hdecl⟩ := htraced
  have hrun : (Act.runStart g cls target back).run s = (Act.calFree g 3 (cls != 2 && !s.direct g cls target)).run
      ((Act.runBegins g (s.newRun g cls target back) (s.direct g cls target)).run s) := by
    rw [Act.runStart_run, htrace, hdecl, Act.all_cons_run, Act.all_cons_run, Act.all_nil_run, beq_self_eq_true, Bool.and_self, Act.when_true_run]
  rw [hrun]
  exact ⟨Act.calFree_ends (Act.runBegins_run ..) (by decide), Act.calFree_role _⟩

/-! ### The commands that start a run -/

/-- The command word stays in CAL.CTRL, but for the bits that act. -/
def State.calAsked (s : State) (g : Grp) (v : Word) : State := (Act.setR .CAL_CTRL (v &&& 0x3F0) g).run s

theorem State.calAsked_touches (s : State) (g : Grp) (v : Word) : Touches [.CAL_CTRL] [] [] s (s.calAsked g v) :=
  have hin : Within [.CAL_CTRL] [] [] (.setR .CAL_CTRL (v &&& 0x3F0) g) := .setR
  hin s

theorem Act.calCtrl_start_run (hmay : s.runMayStart g cls target = true) (hrun : F.CAL_CTRL_RUN.of v = 1) (habort : F.CAL_CTRL_ABORT.of v = 0)
    (hfactory : F.CAL_CTRL_FACTORY.of v = 0) (hcls : F.CAL_CTRL_CLASS.of v = cls.val) (htarget : F.CAL_CTRL_TARGET.of v = target.val) :
    (Act.calCtrl g v).run s = (Act.all [.runStart g cls target false, .accept]).run (s.calAsked g v) := by
  simp +decide [Act.calCtrl, State.calAsked, hmay, hrun, habort, hfactory, hcls, htarget]

theorem Touches.traced {u : State} (h : Touches [.CAL_CTRL] [] [.cal] s u) : u.traced g cls ↔ s.traced g cls := by
  rw [State.traced, State.traced, State.externalTrace, State.externalTrace, h.bit_eq (f := F.CAL_CFG_TRACE) cls 0 0 0,
    h.f_eq (f := F.CAL_REF_DECL_DECL) g 0 0]

theorem Touches.direct {u : State} (h : Touches [.CAL_CTRL] [] [.cal] s u) : u.direct g cls target = s.direct g cls target := by
  rw [State.direct, State.direct, State.targetIdle, State.targetIdle, h.cv]

theorem Touches.runStart_begun {u : State} (h : Touches [.CAL_CTRL] [] [.cal] s u) (htraced : s.traced g cls) :
    RunBegun g cls target (s.direct g cls target) back s ((Act.runStart g cls target back).run u) := by
  rw [← h.direct]
  exact Act.runStart_begun (h.traced.mpr htraced) s (h.mono (l' := [.CAL_CTRL, .CAL_STATUS, .CV8_STATUS]) (rs' := []) (ps' := [.cal])).namesKept

theorem RunBegun.accepted {direct : Bool} {u : State} (h : RunBegun g cls target direct back s u) :
    RunBegun g cls target direct back s (Act.accept.run u) := h

theorem calRun_answers (hw : s.takesReg src .CAL_CTRL g) (hmay : s.runMayStart g cls target = true) (hrun : F.CAL_CTRL_RUN.of v = 1)
    (habort : F.CAL_CTRL_ABORT.of v = 0) (hfactory : F.CAL_CTRL_FACTORY.of v = 0) (hcls : F.CAL_CTRL_CLASS.of v = cls.val)
    (htarget : F.CAL_CTRL_TARGET.of v = target.val) :
    (s.traced g cls → AnswersThenModes (.calRun src g v) s fun u => u.resp = .ok 0 ∧ RunBegun g cls target (s.direct g cls target) false s u) ∧
    (¬ s.traced g cls → AnswersThenModes (.calRun src g v) s fun u =>
      u.resp = .ok 0 ∧ u.cal[g].run = none ∧ u.f F.CAL_STATUS_STATE g = 0 ∧ u.f F.CAL_STATUS_CAUSE g = 3 ∧
      u.b F.CAL_STATUS_FAILED g = true ∧ u.f F.CV8_STATUS_ROLE g = 0) := by
  have heffect := Act.calCtrl_start_run hmay hrun habort hfactory hcls htarget
  have hwrite := Act.writeTo_accepted (d := 0) hw (a := Act.calCtrl g v) (by rw [heffect]; rfl)
  have hasked := (s.calAsked_touches g v).mono (l' := [.CAL_CTRL]) (rs' := []) (ps' := [.cal])
  rw [heffect] at hwrite
  refine ⟨fun htraced => ⟨_, rfl, ?_⟩, fun htraced => ⟨_, rfl, ?_⟩⟩
  all_goals
    rw [hwrite, Act.all_cons_run, Act.all_cons_run, Act.all_nil_run]
  · exact ⟨rfl, (hasked.runStart_begun htraced).accepted⟩
  · obtain ⟨hended, hrole⟩ := Act.runStart_untraced (target := target) (back := false) (mt hasked.traced.mp htraced)
    exact ⟨rfl, hended.noRun, hended.idle, hended.reason, hended.outcome, hrole⟩

theorem calBackground_answers (htarget : target.val < 8) (hturn : s.backgroundTurn g = some (cls.val * 8 + target.val)) (htraced : s.traced g cls) :
    AnswersThenModes (.calBackgroundStart g cls target) s fun u =>
      RunBegun g cls target (s.direct g cls target) true s u ∧ u.cal[g].turn = cls.val * 8 + target.val := by
  have hin : Within [.CAL_CTRL] [] [.cal] (.setCal g fun c => { c with turn := cls.val * 8 + target.val }) := .setCal
  have hset := hin s
  have heffect : (Act.backgroundStart g cls target).run s =
      (Act.runStart g cls target true).run ((Act.setCal g fun c => { c with turn := cls.val * 8 + target.val }).run s) := by
    simp [Act.backgroundStart, htarget, hturn]
  refine ⟨_, rfl, ?_⟩
  rw [heffect]
  refine ⟨hset.runStart_begun htraced, ?_⟩
  rw [Act.runStart_traced_run (hset.traced.mpr htraced), Act.runBegins_turn]
  simp

end

/-- Settles O12: the write of RUN, and the turn of the background. -/
theorem calibrationStarts : Obligations.CalibrationStarts := by
  unfold Obligations.CalibrationStarts
  intro s src g v cls target hmay
  exact ⟨fun hw => calRun_answers hw hmay, calBackground_answers⟩

end Sys2Proof.Machine
end

section
-- One proof after another: elaborated side by side, the proofs of the whole text do not fit in the check's memory.
set_option Elab.async false
/-! Calibration runs from reading to reading, and how they end (R341 to R343, R348, R350). -/

namespace Sys2Proof.Machine

variable {s : State} {src : Src} {g : Grp} {v : Word} {x : Int} {r : CalRun} {cause : Nat}

theorem Act.setCal_cal_same (f : CalSt → CalSt) (s : State) : ((Act.setCal g f).run s).cal[g] = f s.cal[g] := by simp

/-! ### The ends of a run -/

theorem Within.promoteLowest_apart : Within [.FAULT_STATUS, .CV8_STATUS, .FAULT_SPARE] [] [.spare] (.promoteLowest g) := by
  refine .look fun _ => .when ?_
  split
  · exact .look fun _ => .all ⟨.setB, .setF, .setF, .setB, .setSpare⟩
  · exact .skip

theorem Act.runFinish_spareStage (hr : s.cal[g].run = some r) (hstate : s.f F.CAL_STATUS_STATE g = 1) (hcause : cause < 32) :
    RunEnded g cause true ((Act.runFinish g cause).run s) := by
  have hrun : (Act.runFinish g cause).run s = (Act.promoteLowest g).run ((Act.calFree g cause true).run s) := by
    simp only [Act.runFinish, Act.look_run, hr, hstate, Nat.reduceEqDiff, if_false, if_true, Act.all_cons_run, Act.all_nil_run]
  rw [hrun]
  exact (Act.calFree_ends hr hcause).kept (Within.promoteLowest_apart _)

/-- R348: a run of a cell ends at once. -/
theorem Act.runFinish_cell_run (hr : s.cal[g].run = some r) (hstate : s.f F.CAL_STATUS_STATE g = 4 ∨ s.f F.CAL_STATUS_STATE g = 5) (hcls : r.cls = 2)
    (hrole : s.f F.DAC_SPARE_ROLE g ≠ 2) : (Act.runFinish g cause).run s = (Act.promoteLowest g).run ((Act.calFree g cause false).run s) := by
  have h6 : s.f F.CAL_STATUS_STATE g ≠ 6 := by omega
  have h1 : s.f F.CAL_STATUS_STATE g ≠ 1 := by omega
  have hbeq : (r.cls == 0) = false := beq_false_of_ne (by omega)
  have hcls0 : r.cls ≠ 0 := by omega
  simp only [Act.runFinish, Act.look_run, hr, h6, h1, if_false, hcls0, false_and, hrole, Act.runOver, hbeq, Act.calRangeCheck, Bool.false_and,
    Act.all_cons_run, Act.all_nil_run, Act.when_false_run]

theorem Act.runFinish_cell (hr : s.cal[g].run = some r) (hstate : s.f F.CAL_STATUS_STATE g = 4 ∨ s.f F.CAL_STATUS_STATE g = 5) (hcls : r.cls = 2)
    (hrole : s.f F.DAC_SPARE_ROLE g ≠ 2) (hcause : cause < 32) : RunEnded g cause false ((Act.runFinish g cause).run s) := by
  rw [Act.runFinish_cell_run hr hstate hcls hrole]
  exact (Act.calFree_ends hr hcause).kept (Within.promoteLowest_apart _)

/-- R344, R348: a converter's work is sent back before its run ends. -/
theorem Act.runFinish_back_run (hr : s.cal[g].run = some r) (hstate : s.f F.CAL_STATUS_STATE g = 4) (hcls : r.cls = 0)
    (hrole : s.f F.CV8_STATUS_ROLE g = 2) : (Act.runFinish g cause).run s =
      (Act.all [.setRun g fun r => { r with verdict := some cause }, .setF F.CAL_STATUS_STATE 6 g,
        .setSpare g fun x => { x with move := .back (cvOf r.target) (cause == 0), moveAt := s.clk }]).run s := by
  simp only [Act.runFinish, Act.look_run, hr, hstate, Nat.reduceEqDiff, if_false, hcls, hrole, and_self, if_true]

theorem Act.runFinish_back (hr : s.cal[g].run = some r) (hstate : s.f F.CAL_STATUS_STATE g = 4) (hcls : r.cls = 0)
    (hrole : s.f F.CV8_STATUS_ROLE g = 2) : let t := (Act.runFinish g cause).run s
    t.f F.CAL_STATUS_STATE g = 6 ∧ t.cal[g].run = some { r with verdict := some cause } ∧ t.spare[g].move = .back (cvOf r.target) (cause == 0) := by
  have htail : Within [.CAL_STATUS] [] [.spare] (.all [.setF F.CAL_STATUS_STATE 6 g,
      .setSpare g fun x => { x with move := .back (cvOf r.target) (cause == 0), moveAt := s.clk }]) := .all ⟨.setF, .setSpare⟩
  rw [Act.runFinish_back_run hr hstate hcls hrole, Act.all_cons_run]
  refine ⟨?_, ?_, ?_⟩
  · simp +decide
  · rw [(htail _).parts .cal (by decide), Act.setRun, Act.setCal_cal_same]
    exact congrArg (Option.map _) hr
  · simp

/-! ### Readings -/

theorem reading_answers (hr : s.cal[g].run = some r) (hdue : s.readingDue g = true) (hindex : r.index % (3 * r.paths.length + 1) ≠ 0)
    (hmore : r.index + 1 < s.runLength r) : AnswersThenModes (.calReading g x false) s fun u =>
      u.cal[g].run = some (r.take s.cal[g].temp x) ∧ u.cal[g].readAt = s.clk ∧ RegsKept [] s u := by
  have hrun : (Act.calReading g x false).run s =
      (Act.setRun g fun r => r.take s.cal[g].temp x).run ((Act.readingBegins g).run s) := by
    simp only [Act.calReading, Act.look_run, hr, hdue, beq_false_of_ne hindex, Act.when_true_run, Act.when_false_run, Act.all_cons_run, Act.all_nil_run,
      Bool.false_eq_true, if_false, ne_eq, not_true, Nat.not_le.mpr hmore, decide_false]
  have hin : Within [] [] [.cal] (.all [.readingBegins g, .setRun g fun r => r.take s.cal[g].temp x]) := .all ⟨.look fun _ => .setCal, .setCal⟩
  refine ⟨_, rfl, ?_⟩
  rw [hrun]
  refine ⟨?run, ?at_, (hin s).regsKept⟩
  all_goals rw [Act.setRun, Act.setCal_cal_same, Act.readingBegins, Act.look_run, Act.setCal_cal_same]
  case run => exact congrArg (Option.map _) hr

/-- R341: what a reading leaves, before its run goes on or ends. -/
def Act.readingTaken (g : Grp) (r : CalRun) (x temp : Int) : Act := .all [.readingBegins g,
  .when (r.index % (3 * r.paths.length + 1) == 0) (.setF F.CAL_REF_READ_READ (clamp 0 8388607 x).toNat g), .setRun g fun r => r.take temp x]

theorem Within.readingTaken {temp : Int} : Within [.CAL_REF_READ] [] [.cal] (.readingTaken g r x temp) :=
  .all ⟨.look fun _ => .setCal, .when .setF, .setCal⟩

theorem Act.readingTaken_run {temp : Int} (hr : s.cal[g].run = some r) :
    ((Act.readingTaken g r x temp).run s).cal[g].run = some (r.take temp x) := by
  have hmid : Within [.CAL_REF_READ] [] [] (.when (r.index % (3 * r.paths.length + 1) == 0) (.setF F.CAL_REF_READ_READ (clamp 0 8388607 x).toNat g)) :=
    .when .setF
  rw [Act.readingTaken, Act.all_cons_run, Act.all_cons_run, Act.all_cons_run, Act.all_nil_run, Act.setRun, Act.setCal_cal_same,
    (hmid _).parts .cal (by decide), Act.readingBegins, Act.look_run, Act.setCal_cal_same]
  exact congrArg (Option.map _) hr

theorem reading_overload (hr : s.cal[g].run = some r) (hdue : s.readingDue g = true) (hstate : s.f F.CAL_STATUS_STATE g = 1) :
    AnswersThenModes (.calReading g x true) s fun u =>
      u.cal[g].run = none ∧ u.f F.CAL_STATUS_STATE g = 0 ∧ u.f F.CAL_STATUS_CAUSE g = 7 ∧ u.b F.CAL_STATUS_FAILED g = true ∧
      u.b F.CAL_STATUS_SPARE_STAGE g = true := by
  have hrun : (Act.calReading g x true).run s = (Act.runFinish g 7).run ((Act.readingTaken g r x s.cal[g].temp).run s) := by
    simp only [Act.calReading, Act.look_run, hr, hdue, Act.when_true_run, Act.all_cons_run, Act.all_nil_run, Act.readingTaken, if_true, ne_eq,
      OfNat.ofNat_ne_zero, not_false_eq_true]
  have hstate' : ((Act.readingTaken g r x s.cal[g].temp).run s).f F.CAL_STATUS_STATE g = 1 :=
    ((Within.readingTaken s).f_eq g 0 0).trans hstate
  have hended := Act.runFinish_spareStage (cause := 7) (Act.readingTaken_run hr) hstate' (by decide)
  refine ⟨_, rfl, ?_⟩
  rw [hrun]
  exact ⟨hended.noRun, hended.idle, hended.reason, hended.outcome, hended.spareStage⟩

/-! ### ABORT -/

theorem State.calAsked_run (hr : s.cal[g].run = some r) : (s.calAsked g v).cal[g].run = some r := by
  rw [(s.calAsked_touches g v).parts .cal (by decide), hr]

theorem Act.calCtrl_abort_run (habort : F.CAL_CTRL_ABORT.of v = 1) (hfactory : F.CAL_CTRL_FACTORY.of v = 0) :
    (Act.calCtrl g v).run s = (Act.all [.runFinish g 15, .accept]).run (s.calAsked g v) := by
  simp +decide [Act.calCtrl, State.calAsked, habort, hfactory]

theorem calAbort_answers (hw : s.takesReg src .CAL_CTRL g) (habort : F.CAL_CTRL_ABORT.of v = 1) (hfactory : F.CAL_CTRL_FACTORY.of v = 0)
    (hr : s.cal[g].run = some r) :
    (s.f F.CAL_STATUS_STATE g = 1 → AnswersThenModes (.calAbort src g v) s fun u =>
      u.resp = .ok 0 ∧ u.cal[g].run = none ∧ u.f F.CAL_STATUS_STATE g = 0 ∧ u.f F.CAL_STATUS_CAUSE g = 15 ∧
      u.b F.CAL_STATUS_FAILED g = true) ∧
    (s.f F.CAL_STATUS_STATE g = 4 → r.cls = 2 → s.f F.DAC_SPARE_ROLE g ≠ 2 → AnswersThenModes (.calAbort src g v) s fun u =>
      u.resp = .ok 0 ∧ u.cal[g].run = none ∧ u.f F.CAL_STATUS_STATE g = 0 ∧ u.f F.CAL_STATUS_CAUSE g = 15) ∧
    (s.f F.CAL_STATUS_STATE g = 4 → r.cls = 0 → s.f F.CV8_STATUS_ROLE g = 2 → AnswersThenModes (.calAbort src g v) s fun u =>
      u.resp = .ok 0 ∧ u.f F.CAL_STATUS_STATE g = 6 ∧ u.cal[g].run = some { r with verdict := some 15 } ∧
      u.spare[g].move = .back (cvOf r.target) false) := by
  have heffect := Act.calCtrl_abort_run (s := s) (g := g) habort hfactory
  have hwrite := Act.writeTo_accepted (d := 0) hw (a := Act.calCtrl g v) (by rw [heffect]; rfl)
  rw [heffect, Act.all_cons_run, Act.all_cons_run, Act.all_nil_run] at hwrite
  have hasked := s.calAsked_touches g v
  have hrun := State.calAsked_run (v := v) hr
  have hstate : (s.calAsked g v).f F.CAL_STATUS_STATE g = s.f F.CAL_STATUS_STATE g := hasked.f_eq g 0 0
  refine ⟨fun h1 => ⟨_, rfl, ?_⟩, fun h4 hcls hrole => ⟨_, rfl, ?_⟩, fun h4 hcls hrole => ⟨_, rfl, ?_⟩⟩
  all_goals rw [hwrite]
  · have hended := Act.runFinish_spareStage (cause := 15) hrun (hstate.trans h1) (by decide)
    exact ⟨rfl, hended.noRun, hended.idle, hended.reason, hended.outcome⟩
  · have hspare : (s.calAsked g v).f F.DAC_SPARE_ROLE g = s.f F.DAC_SPARE_ROLE g := hasked.f_eq g 0 0
    have hended := Act.runFinish_cell (cause := 15) hrun (.inl (hstate.trans h4)) hcls (hspare ▸ hrole) (by decide)
    exact ⟨rfl, hended.noRun, hended.idle, hended.reason⟩
  · have hrole' : (s.calAsked g v).f F.CV8_STATUS_ROLE g = s.f F.CV8_STATUS_ROLE g := hasked.f_eq g 0 0
    obtain ⟨hsix, hverdict, hmove⟩ := Act.runFinish_back (cause := 15) hrun (hstate.trans h4) hcls (hrole'.trans hrole)
    exact ⟨rfl, hsix, hverdict, hmove⟩

/-! ### FACTORY -/

/-- R350: the item converts, so that its set waits for the converter. -/
def State.factoryWaits (s : State) (g : Grp) (cls target : Nat) : Bool :=
  cls == 0 && decide (target < 8) && (s.cv g (cvOf target)).run.works && !(s.cv g (cvOf target)).reduced && (s.fieldSet g 0 target).isSome

theorem Act.calCtrl_factory_run (habort : F.CAL_CTRL_ABORT.of v = 0) (hrun : F.CAL_CTRL_RUN.of v = 0) (hfactory : F.CAL_CTRL_FACTORY.of v = 1)
    (hidle : s.f F.CAL_STATUS_STATE g = 0) (htarget : F.CAL_CTRL_TARGET.of v < classSize (F.CAL_CTRL_CLASS.of v)) :
    (Act.calCtrl g v).run s = (Act.all [if (s.calAsked g v).factoryWaits g (F.CAL_CTRL_CLASS.of v) (F.CAL_CTRL_TARGET.of v) then
        .setCv g (cvOf (F.CAL_CTRL_TARGET.of v)) fun x => { x with factory := true }
      else .setCal g fun c => { c with sets := assocDel c.sets (calKey (F.CAL_CTRL_CLASS.of v) (F.CAL_CTRL_TARGET.of v)) }, .accept]).run
        (s.calAsked g v) := by
  simp only [Act.calCtrl, Act.look_run, habort, hrun, hfactory, hidle, Nat.reduceBEq, beq_self_eq_true, bne_self_eq_false, Bool.and_false, Bool.false_and,
    Bool.or_self, Bool.false_eq_true, if_false, Act.all_cons_run, Act.all_nil_run, Act.when_false_run, Act.when_true_run, Act.factorySet, htarget,
    decide_true, State.calAsked, State.factoryWaits]
  congr

theorem State.calAsked_factoryWaits (cls target : Nat) : (s.calAsked g v).factoryWaits g cls target = s.factoryWaits g cls target := by
  have h := s.calAsked_touches g v
  rw [State.factoryWaits, State.factoryWaits, h.cv, State.fieldSet, State.fieldSet, h.parts .cal (by decide)]

theorem calFactory_answers (hw : s.takesReg src .CAL_CTRL g) (habort : F.CAL_CTRL_ABORT.of v = 0) (hrun : F.CAL_CTRL_RUN.of v = 0)
    (hfactory : F.CAL_CTRL_FACTORY.of v = 1) (hidle : s.f F.CAL_STATUS_STATE g = 0)
    (htarget : F.CAL_CTRL_TARGET.of v < classSize (F.CAL_CTRL_CLASS.of v)) :
    (F.CAL_CTRL_CLASS.of v ≠ 0 ∨ (s.cv g (cvOf (F.CAL_CTRL_TARGET.of v))).run.works = false ∨
        (s.cv g (cvOf (F.CAL_CTRL_TARGET.of v))).reduced = true → AnswersThenModes (.calFactory src g v) s fun u =>
      u.resp = .ok 0 ∧ u.fieldSet g (F.CAL_CTRL_CLASS.of v) (F.CAL_CTRL_TARGET.of v) = none ∧ NamesKept [.CAL_CTRL] s u) ∧
    (F.CAL_CTRL_CLASS.of v = 0 → (s.cv g (cvOf (F.CAL_CTRL_TARGET.of v))).run.works = true →
      (s.cv g (cvOf (F.CAL_CTRL_TARGET.of v))).reduced = false → (s.fieldSet g 0 (F.CAL_CTRL_TARGET.of v)).isSome = true →
      AnswersThenModes (.calFactory src g v) s fun u =>
        u.resp = .ok 0 ∧ (u.cv g (cvOf (F.CAL_CTRL_TARGET.of v))).factory = true ∧
        u.fieldSet g 0 (F.CAL_CTRL_TARGET.of v) = s.fieldSet g 0 (F.CAL_CTRL_TARGET.of v)) := by
  have heffect := Act.calCtrl_factory_run habort hrun hfactory hidle htarget
  have hwrite := Act.writeTo_accepted (d := 0) hw (a := Act.calCtrl g v) (by rw [heffect]; rfl)
  have hasked := s.calAsked_touches g v
  rw [heffect, State.calAsked_factoryWaits, Act.all_cons_run, Act.all_cons_run, Act.all_nil_run] at hwrite
  generalize F.CAL_CTRL_TARGET.of v = target at htarget hwrite ⊢
  generalize F.CAL_CTRL_CLASS.of v = cls at htarget hwrite ⊢
  refine ⟨fun hrests => ⟨_, rfl, ?_⟩, fun hcls hworks hreduced hset => ⟨_, rfl, ?_⟩⟩
  all_goals rw [hwrite]
  · have hno : s.factoryWaits g cls target = false := by
      rcases hrests with h | h | h <;> simp [State.factoryWaits, h]
    have hin : Within [.CAL_CTRL] [] [.cal] (.setCal g fun c => { c with sets := assocDel c.sets (calKey cls target) }) := .setCal
    have htouch := (hasked.mono (rs' := []) (ps' := [.cal])).trans (hin _)
    have hnone : ((Act.setCal g fun c => { c with sets := assocDel c.sets (calKey cls target) }).run (s.calAsked g v)).fieldSet g cls target = none := by
      rw [State.fieldSet, Act.setCal_cal_same]
      exact assoc_assocDel_same _ _
    rw [hno, if_neg Bool.false_ne_true]
    exact ⟨rfl, hnone, htouch.namesKept⟩
  · have hyes : s.factoryWaits g cls target = true := by
      have h8 : target < 8 := by simpa [hcls, classSize] using htarget
      simp [State.factoryWaits, hcls, h8, hworks, hreduced, hset]
    have hset := Act.setCv_cv_same g (cvOf target) (fun x => { x with factory := true }) (s.calAsked g v)
    have hkept : (s.calAsked g v).fieldSet g 0 target = s.fieldSet g 0 target := by
      rw [State.fieldSet, hasked.parts .cal (by decide), State.fieldSet]
    rw [hyes, if_pos rfl]
    exact ⟨rfl, congrArg ConvSt.factory hset, hkept⟩

/-! ### Stored sets -/

theorem Act.runFinish_cell_fieldSet (hr : s.cal[g].run = some r) (hstate : s.f F.CAL_STATUS_STATE g = 5) (hcls : r.cls = 2)
    (hrole : s.f F.DAC_SPARE_ROLE g ≠ 2) (cls item : Nat) :
    ((Act.runFinish g cause).run s).fieldSet g cls item = ((Act.calEnd g cause false).run s).fieldSet g cls item := by
  rw [Act.runFinish_cell_run hr (.inr hstate) hcls hrole, State.fieldSet, (Within.promoteLowest_apart _).parts .cal (by decide), ← State.fieldSet,
    Act.calEnd_calFree_fieldSet]

theorem setStored_answers (f : FieldSet) (hr : s.cal[g].run = some r) (hstate : s.f F.CAL_STATUS_STATE g = 5) (hcls : r.cls = 2)
    (hrole : s.f F.DAC_SPARE_ROLE g ≠ 2) (hformed : r.formed = some f) :
    (AnswersThenModes (.calSetStored g true) s fun u =>
      u.cal[g].run = none ∧ u.f F.CAL_STATUS_STATE g = 0 ∧ u.f F.CAL_STATUS_CAUSE g = 0 ∧ u.b F.CAL_STATUS_DONE g = true ∧
      u.fieldSet g 2 r.target = some f) ∧
    (AnswersThenModes (.calSetStored g false) s fun u =>
      u.cal[g].run = none ∧ u.f F.CAL_STATUS_CAUSE g = 10 ∧ u.b F.CAL_STATUS_FAILED g = true ∧
      u.fieldSet g 2 r.target = s.fieldSet g 2 r.target) := by
  have hrun : ∀ good, (Act.setStored g good).run s = (Act.runFinish g (if good then 0 else 10)).run s := fun good => by
    rw [Act.setStored, Act.look_run, hstate, beq_self_eq_true, Act.when_true_run]
  refine ⟨⟨_, rfl, ?_⟩, ⟨_, rfl, ?_⟩⟩
  all_goals rw [hrun]
  · have hended := Act.runFinish_cell (cause := 0) hr (.inr hstate) hcls hrole (by decide)
    refine ⟨hended.noRun, hended.idle, hended.reason, hended.outcome, ?_⟩
    rw [if_pos rfl, Act.runFinish_cell_fieldSet hr hstate hcls hrole, Act.calEnd_fieldSet hr, hformed, hcls]
    exact assoc_assocSet_same _ _ _
  · have hended := Act.runFinish_cell (cause := 10) hr (.inr hstate) hcls hrole (by decide)
    refine ⟨hended.noRun, hended.reason, hended.outcome, ?_⟩
    rw [if_neg Bool.false_ne_true, Act.runFinish_cell_fieldSet hr hstate hcls hrole, Act.calEnd_fieldSet hr, hformed]
    rfl

/-- Settles O13: each command by its lemma. -/
theorem calibrationRuns : Obligations.CalibrationRuns := by
  unfold Obligations.CalibrationRuns
  intro s src g v x r
  exact ⟨reading_answers, reading_overload, calAbort_answers, calFactory_answers, setStored_answers⟩

end Sys2Proof.Machine
end

section
-- One proof after another: elaborated side by side, the proofs of the whole text do not fit in the check's memory.
set_option Elab.async false
/-! Failed converters: how they are declared and cleared (R424 to R426). -/

namespace Sys2Proof.Machine

variable {s : State} {src : Src} {g : Grp} {n : Cv} {v : Word}

/-! ### One bit of a mask -/

theorem Act.each_when_none {α : Type} {l : List α} {c : α → Bool} (f : α → Act) (hc : ∀ y ∈ l, c y = false) (s : State) :
    (Act.each l fun y => .when (c y) (f y)).run s = s := by
  induction l with
  | nil => rfl
  | cons y l ih => rw [Act.each_cons_run, hc y List.mem_cons_self, Act.when_false_run, ih fun z hz => hc z (List.mem_cons_of_mem _ hz)]

/-- Of the items of a list, the one that the condition picks acts alone. -/
theorem Act.each_when_one {α : Type} [DecidableEq α] {l : List α} {x : α} (hx : x ∈ l) (hnodup : l.Nodup) {c : α → Bool} (f : α → Act)
    (hc : ∀ y, c y = decide (y = x)) (s : State) : (Act.each l fun y => .when (c y) (f y)).run s = (f x).run s := by
  induction l generalizing s with
  | nil => exact absurd hx List.not_mem_nil
  | cons y l ih =>
    obtain ⟨hy, hl⟩ := List.nodup_cons.mp hnodup
    rw [Act.each_cons_run, hc]
    by_cases h : y = x
    · subst h
      rw [decide_eq_true rfl, Act.when_true_run]
      exact Act.each_when_none f (fun z hz => by rw [hc]; exact decide_eq_false fun hzy => hy (hzy ▸ hz)) _
    · have hmem : x ∈ l := (List.mem_cons.mp hx).resolve_left fun h' => h h'.symm
      rw [decide_eq_false h, Act.when_false_run, ih hmem hl]

theorem testBit_two_pow_eq {k : Nat} (m n : Fin k) : (2 ^ n.val).testBit m.val = decide (m = n) := by
  rw [Nat.testBit_two_pow, decide_eq_decide, Fin.ext_iff, eq_comm]

theorem testBit_or_shifted (x k : Nat) : (x ||| 1 <<< k).testBit k = true := by simp

theorem testBit_and_complement (x : Nat) (k : Fin 8) : (x &&& (255 - 1 <<< k.val)).testBit k.val = false := by
  have hclear : ∀ k : Fin 8, (255 - 1 <<< k.val).testBit k.val = false := by decide
  rw [Nat.testBit_and, hclear, Bool.and_false]

/-! ### A converter is declared failed -/

/-- A field that the log, and the runs and moves that end when a converter fails, do not write. -/
def Fld.outsideFailure (f : Fld) : Bool := f.inMask && F.FAULT_EVENTS_LOG_OVERFLOW.spares f && F.CV_STATUS_OVR_NOW.spares f &&
  decide (f.name ∉ [.FAULT_STATUS, .FAULT_SPARE, .CV8_STATUS, .CAL_STATUS, .CAL_FAILS])

theorem Leaves.logPending {f : Fld} (h : f.name ≠ .FAULT_STATUS) : Leaves f .logPending :=
  .of_within (l := [.FAULT_STATUS]) (ps := [.seed]) (.logPending) (by simpa using h)

theorem Leaves.logMulti {f : Fld} {kind subject : Nat} {parts : List (List Byte)} (h : F.FAULT_EVENTS_LOG_OVERFLOW.spares f = true)
    (hm : f.inMask = true) (hf : f.name ≠ .FAULT_STATUS) : Leaves f (.logMulti kind subject parts) :=
  .look fun _ => .ite (.andThen (.ite (.upd fun _ => rfl) .skip) (.andThen (.upd fun _ => rfl) (.logPending hf)))
    (.andThen (.upd fun _ => rfl) (.setB h hm))

section
variable {f : Fld} (h : f.outsideFailure = true)
include h

theorem Leaves.log_failure {kind subject : Nat} {data : List Byte} : Leaves f (.log kind subject data) := by
  simp only [Fld.outsideFailure, Bool.and_eq_true, decide_eq_true_eq, List.mem_cons, List.not_mem_nil, or_false, not_or] at h
  obtain ⟨⟨⟨hmask, hlog⟩, -⟩, hstatus, -⟩ := h
  exact .logMulti hlog hmask hstatus

theorem Leaves.promoteDecide_failure {before : Nat} : Leaves f (.promoteDecide g n before) := by
  have hin : Within [.FAULT_STATUS, .CV8_STATUS, .FAULT_SPARE] [] [.spare] (.promoteDecide g n before) :=
    .look fun _ => .all ⟨.setB, .setF, .setF, .setB, .setSpare⟩
  simp only [Fld.outsideFailure, Bool.and_eq_true, decide_eq_true_eq, List.mem_cons, List.not_mem_nil, or_false, not_or] at h
  exact .of_within hin (by simp [h])

theorem Leaves.calEnd_failure {cause : Nat} {stage : Bool} : Leaves f (.calEnd g cause stage) := by
  have hlog := h
  simp only [Fld.outsideFailure, Bool.and_eq_true, decide_eq_true_eq, List.mem_cons, List.not_mem_nil, or_false, not_or] at h
  obtain ⟨⟨⟨hmask, hoverflow⟩, -⟩, hstatus, -, -, hcal, hfails⟩ := h
  intro s
  cases hr : s.cal[g].run with
  | none =>
    intro i j k
    have hrun : (Act.calEnd g cause stage).run s = s := by simp only [Act.calEnd, Act.look_run, hr, Act.skip_run]
    rw [hrun]
  | some r =>
    have htail : Within [.CAL_STATUS, .CAL_FAILS] [] [.cal] (.all [.reportRun g cause stage, .storeSet g r cause, .backgroundEnd g r cause,
        .forgetRun g r cause stage]) :=
      .all ⟨.all ⟨.setF, .setF, .setB, .ite .setB .setB⟩, Within.storeSet.mono, Within.backgroundEnd.mono, .setCal⟩
    rw [Act.calEnd_run hr, Act.all_cons_run]
    exact Leaves.frame.trans (Leaves.logMulti hoverflow hmask hstatus s) (Leaves.of_within htail (by simp [hcal, hfails]) _)

theorem Leaves.calFree_failure {cause : Nat} {stage : Bool} : Leaves f (.calFree g cause stage) := by
  have hend := Leaves.calEnd_failure h (g := g) (cause := cause) (stage := stage)
  simp only [Fld.outsideFailure, Bool.and_eq_true, decide_eq_true_eq, List.mem_cons, List.not_mem_nil, or_false, not_or] at h
  obtain ⟨⟨⟨hmask, -⟩, hnow⟩, -, -, hspare, -⟩ := h
  have hset : Within [.CV8_STATUS] [] [.spare] (.all [.setF F.CV8_STATUS_ROLE 0 g, .setB F.CV8_STATUS_RUNNING false g]) := .all ⟨.setF, .setB⟩
  have hstop : Leaves f (.modStop g 8) :=
    .look fun _ => .when (.look fun _ => .all ⟨.upd fun _ => rfl, .ite (.setB hnow hmask) (.when (.of_within (l := [.CV8_STATUS]) (ps := []) .setB (by simpa using hspare)))⟩)
  exact .all ⟨hend, .of_within (l := [.CV8_STATUS]) (ps := []) .setF (by simpa using hspare),
    .of_within (l := [.CV8_STATUS]) (ps := []) .setB (by simpa using hspare), hstop, .upd fun _ => rfl⟩

theorem Leaves.preempt_failure : Leaves f (.preempt g n) := by
  have hmove : Within [.CAL_STATUS] [] [.cal, .spare] (.all [
      .setCal g fun c => { c with run := c.run.map fun r => { r with verdict := some 11 } }, .setF F.CAL_STATUS_STATE 6 g]) := .all ⟨.setCal, .setF⟩
  refine .look fun s => .ite (.all ⟨.calFree_failure h, .of_within .coreStandBack (by simp), .promoteDecide_failure h⟩) ?_
  simp only [Fld.outsideFailure, Bool.and_eq_true, decide_eq_true_eq, List.mem_cons, List.not_mem_nil, or_false, not_or] at h
  exact .all ⟨.upd fun _ => rfl, .of_within (l := [.CAL_STATUS]) (ps := []) .setF (by simp [h]), .upd fun _ => rfl⟩

end

/-- R424: the failure map of the flash takes the converter. -/
def Act.storeFailed (g : Grp) (n : Cv) : Act := .upd fun s => { s with flash := { s.flash with
  convFailed := s.flash.convFailed.set g (s.flash.convFailed[g] ||| 1 <<< n.val) } }

theorem Act.storeFailed_stored (s : State) : ((Act.storeFailed g n).run s).flash.convFailed[g].testBit n = true := by simp [Act.storeFailed]

theorem Within.storeFailed {l : List RegName} {rs : List RegRef} {ps : List Part} (h : Part.flash ∈ ps := by decide) :
    Within l rs ps (.storeFailed g n) := .updPart .flash (fun _ => rfl) (fun _ => rfl) h

theorem Leaves.storeFailed {f : Fld} : Leaves f (.storeFailed g n) := .upd fun _ => rfl

/-- R424: what a failure marks, before the spare is asked for. -/
def Act.markFailed (g : Grp) (n : Cv) (cause : Nat) : Act := .all [
  .setB F.CV_STATUS_FAILED true g n, .setBit F.FAULT_CONV_FAILED n g, .setB F.FAULT_EVENTS_CONV_FAILED true,
  .log 17 (convNo g n) (leBytes cause 1), .storeFailed g n]

/-- R426: the spare is asked for. -/
def Act.askSpare (g : Grp) (n : Cv) (s : State) : Act :=
  let role := s.f F.CV8_STATUS_ROLE g
  if role = 0 then .promoteDecide g n 0
  else if role = 1 then .preempt g n
  else if role = 2 then
    if s.f F.CV8_STATUS_SERVES g = n.val then .all [.calEnd g 11 false, .setF F.CV8_STATUS_ROLE 3 g, .setSpare g fun x => { x with move := .none }]
    else .when (s.spare[g].promote == none) (.preempt g n)
  else .skip

theorem Act.declareFailed_run (cause : Nat) (hfailed : s.b F.CV_STATUS_FAILED g n = false) :
    (Act.declareFailed g n cause).run s = (Act.when (s.mode repair) (.askSpare g n s)).run ((Act.markFailed g n cause).run s) := by
  simp only [Act.declareFailed, Act.look_run, hfailed, Bool.not_false, Act.when_true_run, Act.all_cons_run, Act.all_nil_run, Act.markFailed, Act.askSpare, Act.storeFailed]

theorem Within.askSpare : Within workNames [] [.ovl, .conv, .spare, .cal, .mon, .log, .seed] (.askSpare g n s) := by
  have hdecide : Within workNames [] [.ovl, .conv, .spare, .cal, .mon, .log, .seed] (.promoteDecide g n 0) :=
    .look fun _ => .all ⟨.setB, .setF, .setF, .setB, .setSpare⟩
  have hdecide1 : Within workNames [] [.ovl, .conv, .spare, .cal, .mon, .log, .seed] (.promoteDecide g n 1) :=
    .look fun _ => .all ⟨.setB, .setF, .setF, .setB, .setSpare⟩
  have hfree : ∀ stage, Within workNames [] [.ovl, .conv, .spare, .cal, .mon, .log, .seed] (.calFree g 11 stage) := fun _ =>
    .all ⟨Within.calEnd.mono, .setF, .setB, Within.modStop.mono, .setSpare⟩
  have hpreempt : Within workNames [] [.ovl, .conv, .spare, .cal, .mon, .log, .seed] (.preempt g n) :=
    .look fun _ => .ite (.all ⟨hfree _, Within.coreStandBack.mono, hdecide1⟩) (.all ⟨.setCal, .setF, .setSpare⟩)
  exact .ite hdecide (.ite hpreempt (.ite (.ite (.all ⟨Within.calEnd.mono, .setF, .setSpare⟩) (.when hpreempt)) .skip))

theorem Leaves.askSpare {f : Fld} (h : f.outsideFailure = true := by decide) : Leaves f (.askSpare g n s) := by
  have hspare : f.name ≠ .CV8_STATUS := by
    simp only [Fld.outsideFailure, Bool.and_eq_true, decide_eq_true_eq, List.mem_cons, not_or] at h
    exact h.2.2.2.1
  exact .ite (.promoteDecide_failure h) (.ite (.preempt_failure h) (.ite (.ite (.all ⟨.calEnd_failure h,
    .of_within (l := [.CV8_STATUS]) (ps := []) .setF (by simpa using hspare), .upd fun _ => rfl⟩) (.when (.preempt_failure h))) .skip))

/-- R424: what tells that a converter has failed. -/
def MarkedFailed (g : Grp) (n : Cv) (t : State) : Prop :=
  t.b F.CV_STATUS_FAILED g n = true ∧ t.bit F.FAULT_CONV_FAILED n g = true ∧ t.flash.convFailed[g].testBit n = true ∧
    t.b F.FAULT_EVENTS_CONV_FAILED = true

theorem Act.markFailed_marks (cause : Nat) (s : State) : MarkedFailed g n ((Act.markFailed g n cause).run s) := by
  rw [Act.markFailed]
  refine ⟨?failed, ?map, Act.storeFailed_stored _, ?event⟩
  case failed =>
    refine (Act.all_b_head (by exact .all ⟨.setBit, .setB, .log_failure (by decide), .storeFailed⟩)).trans ?_
    simp +decide
  case map =>
    rw [Act.all_cons_run]
    refine (Act.all_bit_head (by exact .all ⟨.setB, .log_failure (by decide), .storeFailed⟩)).trans ?_
    exact Act.setBit_bit_stored _ (RegRef.valid_one g (by decide) (by decide) (by decide)) (by decide) n.isLt
  case event =>
    rw [Act.all_cons_run, Act.all_cons_run]
    refine (Act.all_b_head (by exact .all ⟨.log_failure (by decide), .storeFailed⟩)).trans ?_
    simp +decide

theorem MarkedFailed.askSpare {t : State} (h : MarkedFailed g n t) : MarkedFailed g n ((Act.askSpare g n s).run t) := by
  obtain ⟨hfailed, hmap, hflash, hevent⟩ := h
  have hkept : ((Act.askSpare g n s).run t).flash = t.flash := (Within.askSpare t).parts .flash (by decide)
  exact ⟨((Leaves.askSpare).b t g n 0).trans hfailed, ((Leaves.askSpare).bit t n g 0 0).trans hmap, by rw [hkept]; exact hflash,
    ((Leaves.askSpare).b t 0 0 0).trans hevent⟩

theorem Act.markFailed_role (cause : Nat) (s : State) : ((Act.markFailed g n cause).run s).f F.CV8_STATUS_ROLE g = s.f F.CV8_STATUS_ROLE g := by
  have hin : Within [.CV_STATUS, .FAULT_CONV, .FAULT_EVENTS, .FAULT_STATUS] [] [.log, .seed, .flash] (.markFailed g n cause) :=
    .all ⟨.setB, .setBit, .setB, .log, .storeFailed⟩
  exact (hin s).f_eq g 0 0

theorem Act.promoteDecide_decides (before : Nat) (s : State) : let t := (Act.promoteDecide g n before).run s
    t.f F.CV8_STATUS_ROLE g = 3 ∧ t.f F.CV8_STATUS_SERVES g = n.val ∧ t.spare[g].promote = some n := by
  have hrole : F.CV8_STATUS_ROLE.width = 2 := rfl
  have hserves : F.CV8_STATUS_SERVES.width = 4 := rfl
  have hn : n.val < 16 := by omega
  simp +decide [Act.promoteDecide, hrole, hserves, hn]

/-- The whole of a declaration: the marks, and the promotion where REPAIR gives one. -/
theorem Act.declareFailed_declares (cause : Nat) (hfailed : s.b F.CV_STATUS_FAILED g n = false) : let u := (Act.declareFailed g n cause).run s
    MarkedFailed g n u ∧
    (s.mode repair = false → u.f F.CV8_STATUS_ROLE g = s.f F.CV8_STATUS_ROLE g) ∧
    (s.mode repair = true → s.f F.CV8_STATUS_ROLE g = 0 →
      u.f F.CV8_STATUS_ROLE g = 3 ∧ u.f F.CV8_STATUS_SERVES g = n.val ∧ u.spare[g].promote = some n) := by
  have hmarks := Act.markFailed_marks (g := g) (n := n) cause s
  intro u
  rw [show u = _ from Act.declareFailed_run cause hfailed]
  refine ⟨?_, fun hmode => ?_, fun hmode hrole => ?_⟩
  · rw [Act.when_run]
    split
    · exact hmarks.askSpare
    · exact hmarks
  · rw [hmode, Act.when_false_run, Act.markFailed_role]
  · rw [hmode, Act.when_true_run, Act.askSpare, if_pos hrole]
    exact Act.promoteDecide_decides ..

/-! ### The commands -/

theorem Act.faultConv_declare_run (hkey : F.FAULT_CONV_KEY.of v = 0xA7) (hdeclare : F.FAULT_CONV_DECLARE.of v = 2 ^ n.val)
    (hclear : F.FAULT_CONV_CLEAR.of v = 0) : (Act.faultConv g v).run s = (Act.all [.declareFailed g n 3, .accept]).run s := by
  simp only [Act.faultConv, Act.look_run, hkey, hdeclare, hclear]
  rw [if_neg (by simp)]
  simp only [Act.all_cons_run, Act.all_nil_run]
  rw [Act.each_when_one (List.mem_finRange n) (List.nodup_finRange 8) _ (fun m => testBit_two_pow_eq m n)]
  exact congrArg Act.accept.run (Act.each_when_none _ (fun _ _ => by simp) _)

theorem convDeclare_answers (hw : s.takesReg src .FAULT_CONV g) (hkey : F.FAULT_CONV_KEY.of v = 0xA7)
    (hdeclare : F.FAULT_CONV_DECLARE.of v = 2 ^ n.val) (hclear : F.FAULT_CONV_CLEAR.of v = 0) :
    AnswersThenModes (.convDeclare src g v) s fun u => u.resp = .ok 0 ∧
      u = Act.accept.run ((Act.declareFailed g n 3).run s) := by
  have heffect := Act.faultConv_declare_run (s := s) (g := g) hkey hdeclare hclear
  have hrun := Act.writeTo_accepted (d := 0) hw (a := Act.faultConv g v) (by rw [heffect]; rfl)
  refine ⟨_, rfl, ?_⟩
  rw [hrun, heffect]
  exact ⟨rfl, rfl⟩

/-- R424: a failed converter is cleared. -/
def Act.clearFailed (g : Grp) (n : Cv) : Act := .all [
  .setB F.CV_STATUS_FAILED false g n, .clrBit F.FAULT_CONV_FAILED n g,
  .upd fun s => { s with flash := { s.flash with
    convFailed := s.flash.convFailed.set g (s.flash.convFailed[g] &&& (255 - 1 <<< n.val)) } }]

theorem Act.clearFailed_clears (s : State) : let u := (Act.clearFailed g n).run s
    u.b F.CV_STATUS_FAILED g n = false ∧ u.bit F.FAULT_CONV_FAILED n g = false ∧ u.flash.convFailed[g].testBit n = false := by
  rw [Act.clearFailed]
  refine ⟨?failed, ?map, ?flash⟩
  case failed =>
    refine (Act.all_b_head (by exact .all ⟨.clrBit, .upd fun _ => rfl⟩)).trans ?_
    simp +decide
  case map =>
    rw [Act.all_cons_run]
    refine (Act.all_bit_head (by exact .all (.upd fun _ => rfl))).trans ?_
    exact Act.clrBit_bit_stored _ (RegRef.valid_one g (by decide) (by decide) (by decide)) (by decide) n.isLt
  case flash =>
    simp only [Act.all_cons_run, Act.all_nil_run, Act.upd_run, Fin.getElem_fin, Vector.getElem_set_self]
    exact testBit_and_complement _ n

theorem Act.faultConv_clear_run (hkey : F.FAULT_CONV_KEY.of v = 0xA7) (hdeclare : F.FAULT_CONV_DECLARE.of v = 0)
    (hclear : F.FAULT_CONV_CLEAR.of v = 2 ^ n.val) (hfailed : s.b F.CV_STATUS_FAILED g n = true) (hserved : (s.cv g n).run ≠ .unserved) :
    (Act.faultConv g v).run s = (Act.all [.clearFailed g n, .accept]).run s := by
  have hpick : ∀ m : Cv, ((2 ^ n.val).testBit m && s.b F.CV_STATUS_FAILED g m) = decide (m = n) := by
    intro m
    rw [testBit_two_pow_eq]
    by_cases h : m = n
    · simp [h, hfailed]
    · simp [h]
  have hin : Within [.CV_STATUS, .FAULT_CONV] [] [.flash] (.clearFailed g n) :=
    .all ⟨.setB, .clrBit, .updPart .flash (fun _ => rfl) (fun _ => rfl) (by decide)⟩
  have hserve : (((Act.clearFailed g n).run s).cv g n).run ≠ .unserved := by rw [(hin s).cv g n]; exact hserved
  simp only [Act.faultConv, Act.look_run, hkey, hdeclare, hclear]
  rw [if_neg (by simp)]
  simp only [Act.all_cons_run, Act.all_nil_run]
  rw [Act.each_when_one (List.mem_finRange n) (List.nodup_finRange 8) _ hpick, Act.each_when_none _ (fun _ _ => Nat.zero_testBit _)]
  have hrest : ∀ u : State, (u.cv g n).run ≠ .unserved → (Act.cvServe g n).run u = u := fun u hu => by
    simp only [Act.cvServe, Act.look_run, beq_false_of_ne hu, Act.when_false_run]
  simp only [Act.clearFailed, Act.all_cons_run, Act.all_nil_run] at hserve ⊢
  rw [hrest _ hserve]

theorem convClear_answers (hw : s.takesReg src .FAULT_CONV g) (hkey : F.FAULT_CONV_KEY.of v = 0xA7) (hdeclare : F.FAULT_CONV_DECLARE.of v = 0)
    (hclear : F.FAULT_CONV_CLEAR.of v = 2 ^ n.val) (hfailed : s.b F.CV_STATUS_FAILED g n = true) (hserved : (s.cv g n).run ≠ .unserved) :
    AnswersThenModes (.convClear src g v) s fun u =>
      u.resp = .ok 0 ∧ u.b F.CV_STATUS_FAILED g n = false ∧ u.bit F.FAULT_CONV_FAILED n g = false ∧
      u.flash.convFailed[g].testBit n = false ∧ NamesKept [.CV_STATUS, .FAULT_CONV] s u := by
  have heffect := Act.faultConv_clear_run (g := g) hkey hdeclare hclear hfailed hserved
  have hrun := Act.writeTo_accepted (d := 0) hw (a := Act.faultConv g v) (by rw [heffect]; rfl)
  have hin : Within [.CV_STATUS, .FAULT_CONV] [] [.flash, .resp] (.all [.clearFailed g n, .accept]) :=
    .all ⟨.all ⟨.setB, .clrBit, .updPart .flash (fun _ => rfl) (fun _ => rfl) (by decide)⟩, .accept⟩
  obtain ⟨hcleared, hmap, hflash⟩ := Act.clearFailed_clears (g := g) (n := n) s
  refine ⟨_, rfl, ?_⟩
  rw [hrun, heffect]
  exact ⟨rfl, hcleared, hmap, hflash, (hin s).namesKept⟩

/-- Settles O15. -/
theorem convertersFail : Obligations.ConvertersFail := by
  unfold Obligations.ConvertersFail
  intro s src g n v
  refine ⟨fun hw hkey hdeclare hclear hfailed => ?_, fun halive hfailed => ?_, convClear_answers, fun hw hkey => ?_⟩
  · obtain ⟨u, hexec, hresp, hu⟩ := convDeclare_answers hw hkey hdeclare hclear
    obtain ⟨⟨hmark, hmap, hflash, hevent⟩, hkept, hpromoted⟩ := Act.declareFailed_declares 3 hfailed
    subst hu
    exact ⟨_, hexec, hresp, hmark, hmap, hflash, hevent, hkept, hpromoted⟩
  · obtain ⟨⟨hmark, hmap, hflash, hevent⟩, hkept, hpromoted⟩ := Act.declareFailed_declares 1 hfailed
    refine ⟨_, rfl, ?_⟩
    rw [Act.look_run, halive, Act.when_true_run]
    exact ⟨hmark, hmap, hflash, hevent, hkept, hpromoted⟩
  · have heffect : (Act.faultConv g v).run s = (Act.refuse F.FAULT_REFUSED_COUNT).run s := by
      simp only [Act.faultConv, Act.look_run, ne_eq, hkey, not_false_eq_true, true_or, if_true]
    exact ⟨_, rfl, Act.writeTo_refused hw heffect (by decide)⟩

end Sys2Proof.Machine
end

section
-- One proof after another: elaborated side by side, the proofs of the whole text do not fit in the check's memory.
set_option Elab.async false
/-! The spare converter: promotion, return, and the moves of work (R425 to R429). -/

namespace Sys2Proof.Machine

variable {s : State} {src : Src} {g : Grp} {n : Cv} {v : Word}

/-! ### What carries a converter's work -/

theorem Within.carry_apart {spare : Bool} : Within [.CV_STATUS, .CV_SEQ_STATE, .CV8_STATUS] [] [.ovl] (.carry g n spare) :=
  .all ⟨.setB, .when (.all ⟨.setB, Within.modStop.mono⟩), Within.cvStatus, Within.modStop.mono⟩

theorem Leaves.carry {f : Fld} {spare : Bool} (hactive : F.CV_STATUS_SPARE_ACTIVE.spares f = true := by decide)
    (hrun : f.outsideRun = true := by decide) : Leaves f (.carry g n spare) := by
  have hfld := hrun
  simp only [Fld.outsideRun, Bool.and_eq_true] at hfld
  obtain ⟨⟨⟨⟨⟨⟨-, -⟩, -⟩, hrunning⟩, hovr⟩, hovr8⟩, hm⟩ := hfld
  exact .all ⟨.setB hactive hm, .when (.all ⟨.setB hrunning hm, .modStop hovr hovr8 hm⟩), .cvStatus hrun, .modStop hovr hovr8 hm⟩

theorem Act.carry_active (spare : Bool) (s : State) : ((Act.carry g n spare).run s).b F.CV_STATUS_SPARE_ACTIVE g n = spare := by
  rw [Act.carry]
  refine (Act.all_b_head (by exact .all ⟨.when (.all ⟨.setB, .modStop⟩), .cvStatus, .modStop⟩)).trans ?_
  simp +decide

theorem Within.promotionReport_apart : Within [.FAULT_STATUS, .FAULT_EVENTS] [] [.spare, .log, .seed] (.promotionReport g n) := by
  refine .look fun s => ?_
  split
  · exact .when (.all ⟨.updPart .spare (fun _ => rfl) (fun _ => rfl) (by decide), .look fun _ => .setB, .setB, .log⟩)
  · exact .skip

theorem Act.setSpare_same (f : SpareSt → SpareSt) (s : State) : ((Act.setSpare g f).run s).spare[g] = f s.spare[g] := by simp

/-- No promotion of the group is under way. -/
def NoPromotion (g : Grp) (s : State) : Prop := s.spare[g].promote = none

theorem Touches.noPromotion {l : List RegName} {rs : List RegRef} {ps : List Part} {s t : State} (h : Touches l rs ps s t) (hs : NoPromotion g s)
    (hp : Part.spare ∉ ps := by decide) : NoPromotion g t := by
  rw [NoPromotion, h.parts .spare hp]
  exact hs

theorem Act.promotionReport_noPromotion (hs : NoPromotion g s) : NoPromotion g ((Act.promotionReport g n).run s) := by
  have hlog : ∀ {c : Nat} {d : List Byte}, Within [.FAULT_STATUS, .FAULT_EVENTS] [] [.log, .seed]
      (.all [.repairing, .setB F.FAULT_EVENTS_PROMOTED true, .log 18 c d]) := .all ⟨.look fun _ => .setB, .setB, .log⟩
  rw [Act.promotionReport, Act.look_run]
  split
  · rw [Act.when_run]
    split
    · rw [Act.all_cons_run]
      exact (hlog _).noPromotion (by simpa [NoPromotion] using hs)
    · exact hs
  · exact hs

/-! ### The edge of a promotion -/

/-- R427 step 2: the spare begins to carry the work. -/
def Act.promoteBegins (g : Grp) (n : Cv) : Act := .all [
  .setSpare g fun x => { x with promote := none }, .setCv g n fun x => { x with calStep := true }, .carry g n true]

theorem Within.promoteBegins : Within [.CV_STATUS, .CV_SEQ_STATE, .CV8_STATUS] [] [.ovl, .conv, .spare] (.promoteBegins g n) :=
  .all ⟨.setSpare, .setCv, Within.carry_apart.mono⟩

theorem Act.promoteBegins_begins (s : State) : let t := (Act.promoteBegins g n).run s
    NoPromotion g t ∧ t.b F.CV_STATUS_SPARE_ACTIVE g n = true ∧ t.cv g n = { s.cv g n with calStep := true } := by
  have htail : Within [.CV_STATUS, .CV_SEQ_STATE, .CV8_STATUS] [] [.ovl, .conv]
      (.all [.setCv g n fun x => { x with calStep := true }, .carry g n true]) := .all ⟨.setCv, Within.carry_apart.mono⟩
  simp only [Act.promoteBegins, Act.all_cons_run, Act.all_nil_run]
  refine ⟨(htail _).noPromotion ?_, Act.carry_active .., ?_⟩
  · rw [NoPromotion, Act.setSpare_same]
  · rw [(Within.carry_apart _).cv, Act.setCv_cv_same]
    rfl

/-- R427: the work moves at its edge; the converter that converts nothing goes on as it was. -/
theorem promotion_idle_answers (hpromote : s.spare[g].promote = some n) (halive : s.alive g = true) (hrole : s.f F.CV8_STATUS_ROLE g = 3)
    (hserves : s.f F.CV8_STATUS_SERVES g = n.val) (hedge : actingEdge s.spare[g].promoteAt ≤ s.clk)
    (hrun : (s.cv g n).run = .idle ∨ (s.cv g n).run = .stopped ∨ (s.cv g n).run = .restart) : Answers (.sparePromotion g) s fun t =>
      t.spare[g].promote = none ∧ t.b F.CV_STATUS_SPARE_ACTIVE g n = true ∧ (t.cv g n).calStep = true ∧ (t.cv g n).run = (s.cv g n).run := by
  obtain ⟨hnone, hactive, hcv⟩ := Act.promoteBegins_begins (g := g) (n := n) s
  have htail : Within [.CV_STATUS, .CV_SEQ_STATE, .CV8_STATUS, .FAULT_STATUS, .FAULT_EVENTS] [] [.ovl, .spare, .log, .seed]
      (.all [.cvStatus g n, .promotionReport g n]) := .all ⟨Within.cvStatus.mono, Within.promotionReport_apart.mono⟩
  have hstatus := Within.cvStatus (g := g) (n := n) ((Act.promoteBegins g n).run s)
  have hpassive : (((Act.cvStatus g n).run ((Act.promoteBegins g n).run s)).cv g n).run = (s.cv g n).run := by rw [hstatus.cv g n, hcv]
  have heffect : (Act.promote g).run s = (Act.all [.cvStatus g n, .promotionReport g n]).run ((Act.promoteBegins g n).run s) := by
    simp only [Act.promoteBegins, Act.all_cons_run, Act.all_nil_run] at hpassive
    rcases hrun with hrun | hrun | hrun <;>
    · rw [hrun] at hpassive
      simp only [Act.promote, Act.promoteBegins, Act.look_run, hpromote, halive, hrole, hserves, hrun, Bool.and_self, beq_self_eq_true,
        Act.when_true_run, Act.all_cons_run, Act.all_nil_run, hpassive]
      rfl
  refine ⟨_, rfl, ?_⟩
  rw [Act.look_run, decide_eq_true hedge, Act.when_true_run, heffect]
  refine ⟨?_, ?_, ?_, ?_⟩
  · exact Act.promotionReport_noPromotion (hstatus.noPromotion hnone)
  · have hleft : Leaves F.CV_STATUS_SPARE_ACTIVE (.all [.cvStatus g n, .promotionReport g n]) := .all ⟨.cvStatus, .of_within .promotionReport_apart⟩
    exact (hleft.b _ g n 0).trans hactive
  · rw [(htail _).cv g n, hcv]
  · rw [(htail _).cv g n, hcv]

theorem Act.follow_resume_run {wait : Bool} (hpend : s.slotPending g n = false) (hstopping : (s.cv g n).stopping = false) :
    (Act.follow g n .resume none wait).run s = (Act.resumeVisit g n).run s := by
  simp only [Act.follow, Act.look_run, hpend, hstopping, Bool.and_self, Bool.and_false, Bool.false_eq_true, if_false, State.readySlot_none hpend,
    Act.proceed]

/-- R427: a visit in progress starts its window again. -/
theorem promotion_visit_answers (hpromote : s.spare[g].promote = some n) (halive : s.alive g = true) (hrole : s.f F.CV8_STATUS_ROLE g = 3)
    (hserves : s.f F.CV8_STATUS_SERVES g = n.val) (hedge : actingEdge s.spare[g].promoteAt ≤ s.clk)
    (hvisit : (s.cv g n).run = .visit) (hstopping : (s.cv g n).stopping = false) (hpend : s.slotPending g n = false) :
    Answers (.sparePromotion g) s fun t =>
      t.spare[g].promote = none ∧ t.b F.CV_STATUS_SPARE_ACTIVE g n = true ∧ (t.cv g n).calStep = true ∧
      (t.cv g n).run = .visit ∧ (t.cv g n).opened = none ∧ t.f F.CV_STATUS_ENTRY g n = s.f F.CV_STATUS_ENTRY g n := by
  obtain ⟨hnone, hactive, hcv⟩ := Act.promoteBegins_begins (g := g) (n := n) s
  have hleft : ∀ {f : Fld}, F.CV_SEQ_STATE_INTERRUPTED.spares f = true → f.outsideRun = true → f.inMask = true →
      Leaves f (.all [.setB F.CV_SEQ_STATE_INTERRUPTED true g n, .resumeVisit g n]) := fun h hrun hm => .all ⟨.setB h hm, .all ⟨.setB h hm, .cvRun hrun⟩⟩
  have hbegins : Leaves F.CV_STATUS_ENTRY (.promoteBegins g n) := .all ⟨.upd fun _ => rfl, .upd fun _ => rfl, .carry⟩
  have hsetB : Within [.CV_SEQ_STATE] [] [] (.setB F.CV_SEQ_STATE_INTERRUPTED true g n) := .setB
  have hresume : Within [.CV_STATUS, .CV_SEQ_STATE, .CV8_STATUS] [] [.ovl, .conv]
      (.all [.setB F.CV_SEQ_STATE_INTERRUPTED true g n, .resumeVisit g n]) := .all ⟨.setB, .all ⟨.setB, Within.cvRun⟩⟩
  have hresumed : ∀ u : State, ((Act.resumeVisit g n).run u).cv g n = (u.cv g n).turned .visit .idle u.clk := fun u => by
    rw [Act.resumeVisit, Act.all_cons_run, Act.all_cons_run, Act.all_nil_run, Act.cvRun_cv_same, Act.setB_cv, Act.setB_clk]
  have heffect : (Act.promote g).run s =
      (Act.all [.setB F.CV_SEQ_STATE_INTERRUPTED true g n, .resumeVisit g n]).run ((Act.promoteBegins g n).run s) := by
    have hpend' : ((Act.setB F.CV_SEQ_STATE_INTERRUPTED true g n).run ((Act.promoteBegins g n).run s)).slotPending g n = false := by
      rw [State.slotPending, (hsetB _).f_eq g n 0, (Within.promoteBegins s).f_eq g n 0]
      exact hpend
    have hstopping' : (((Act.setB F.CV_SEQ_STATE_INTERRUPTED true g n).run ((Act.promoteBegins g n).run s)).cv g n).stopping = false := by
      rw [Act.setB_cv, hcv]
      exact hstopping
    have hfollow := Act.follow_resume_run (wait := true) hpend' hstopping'
    simp only [Act.promoteBegins, Act.all_cons_run, Act.all_nil_run] at hfollow
    simp only [Act.promote, Act.promoteBegins, Act.look_run, hpromote, halive, hrole, hserves, hvisit, Bool.and_self, beq_self_eq_true,
      Act.when_true_run, Act.all_cons_run, Act.all_nil_run, hfollow, hresumed, ConvSt.turned, Bool.true_or, Bool.not_true, Act.when_false_run]
  refine ⟨_, rfl, ?_⟩
  rw [Act.look_run, decide_eq_true hedge, Act.when_true_run, heffect]
  have hend : ((Act.all [.setB F.CV_SEQ_STATE_INTERRUPTED true g n, .resumeVisit g n]).run ((Act.promoteBegins g n).run s)).cv g n =
      ({ s.cv g n with calStep := true } : ConvSt).turned .visit .idle ((Act.promoteBegins g n).run s).clk := by
    rw [Act.all_cons_run, Act.all_cons_run, Act.all_nil_run, hresumed, Act.setB_cv, Act.setB_clk, hcv]
  refine ⟨(hresume _).noPromotion hnone, ?_, ?_, ?_, ?_, ?_⟩
  · exact ((hleft (by decide) (by decide) (by decide)).b _ g n 0).trans hactive
  · rw [hend]; rfl
  · rw [hend]; rfl
  · rw [hend]; rfl
  · exact (hleft (by decide) (by decide) (by decide) _ g n 0).trans (hbegins s g n 0)

/-! ### PROMOTE and RETURN -/

/-- R428: the move that a write asks for waits. -/
def Act.spareAsked (g : Grp) (n : Cv) (move : SpareMove) (clk : Nat) : Act := .all [
  .setF F.FAULT_SPARE_TARGET n g, .setB F.FAULT_SPARE_PENDING true g, .setSpare g fun x => { x with move := move, moveAt := clk }, .accept]

theorem Act.spareAsked_asked (move : SpareMove) (s : State) : let u := (Act.spareAsked g n move s.clk).run s
    u.resp = .ok 0 ∧ u.b F.FAULT_SPARE_PENDING g = true ∧ u.spare[g].move = move ∧ u.spare[g].moveAt = s.clk ∧
      RegsKept [⟨.FAULT_SPARE, g, 0, 0⟩] s u ∧ u = { s with regs := u.regs, spare := u.spare, resp := u.resp } := by
  have hin : Within [] [⟨.FAULT_SPARE, g, 0, 0⟩] [.spare, .resp] (.spareAsked g n move s.clk) := .all ⟨.setFAt, .setBAt, .setSpare, .accept⟩
  have haccept : ∀ u : State, (Act.accept.run u).spare = u.spare := fun _ => rfl
  have hspare : ((Act.spareAsked g n move s.clk).run s).spare[g] = { s.spare[g] with move := move, moveAt := s.clk } := by
    simp only [Act.spareAsked, Act.all_cons_run, Act.all_nil_run, haccept, Act.setSpare_same, Act.setB_spare, Act.setF_spare]
  refine ⟨rfl, ?_, by rw [hspare], by rw [hspare], (hin s).regsKept, (hin s).rest⟩
  rw [Act.spareAsked, Act.all_cons_run]
  refine (Act.all_b_head (by exact .all ⟨.upd fun _ => rfl, .accept⟩)).trans ?_
  simp +decide

theorem sparePromote_answers (hw : s.takesReg src .FAULT_SPARE g) (hmode : s.mode repair = true) (halive : s.alive g = true)
    (hidle : s.b F.FAULT_SPARE_PENDING g = false) (htarget : F.FAULT_SPARE_TARGET.of v = n.val) (hpromote : F.FAULT_SPARE_PROMOTE.of v = 1)
    (hreturn : F.FAULT_SPARE_RETURN.of v = 0) (hrole : s.f F.CV8_STATUS_ROLE g = 0) : AnswersThenModes (.sparePromote src g v) s fun u =>
      u.resp = .ok 0 ∧ u.b F.FAULT_SPARE_PENDING g = true ∧ u.spare[g].move = .take n 3 ∧ u.spare[g].moveAt = s.clk ∧
        RegsKept [⟨.FAULT_SPARE, g, 0, 0⟩] s u ∧ u = { s with regs := u.regs, spare := u.spare, resp := u.resp } := by
  have heffect : (Act.faultSpare g v).run s = (Act.spareAsked g n (.take n 3) s.clk).run s := by
    simp only [Act.faultSpare, Act.look_run, htarget, Nat.mod_eq_of_lt n.isLt, hmode, halive, hidle, hpromote, hreturn, hrole]
    rfl
  have hrun := Act.writeTo_accepted (d := 0) hw (a := Act.faultSpare g v) (by rw [heffect]; rfl)
  refine ⟨_, rfl, ?_⟩
  rw [hrun, heffect]
  exact Act.spareAsked_asked _ s

theorem spareReturn_answers (hw : s.takesReg src .FAULT_SPARE g) (hmode : s.mode repair = true) (halive : s.alive g = true)
    (hidle : s.b F.FAULT_SPARE_PENDING g = false) (htarget : F.FAULT_SPARE_TARGET.of v = n.val) (hpromote : F.FAULT_SPARE_PROMOTE.of v = 0)
    (hreturn : F.FAULT_SPARE_RETURN.of v = 1) (hrole : s.f F.CV8_STATUS_ROLE g = 3) (hserves : s.f F.CV8_STATUS_SERVES g = n.val)
    (hfailed : s.b F.CV_STATUS_FAILED g n = false) (hnone : s.spare[g].promote = none) : AnswersThenModes (.spareReturn src g v) s fun u =>
      u.resp = .ok 0 ∧ u.b F.FAULT_SPARE_PENDING g = true ∧ u.spare[g].move = .back n true ∧ u.spare[g].moveAt = s.clk ∧
        RegsKept [⟨.FAULT_SPARE, g, 0, 0⟩] s u ∧ u = { s with regs := u.regs, spare := u.spare, resp := u.resp } := by
  have heffect : (Act.faultSpare g v).run s = (Act.spareAsked g n (.back n true) s.clk).run s := by
    simp only [Act.faultSpare, Act.look_run, htarget, Nat.mod_eq_of_lt n.isLt, hmode, halive, hidle, hpromote, hreturn, hrole, hserves, hfailed, hnone,
      beq_self_eq_true, Bool.and_self, Bool.not_false]
    rfl
  have hrun := Act.writeTo_accepted (d := 0) hw (a := Act.faultSpare g v) (by rw [heffect]; rfl)
  refine ⟨_, rfl, ?_⟩
  rw [hrun, heffect]
  exact Act.spareAsked_asked _ s

/-! ### The edge of a move -/

/-- R428: a converter without an entry boundary moves at its acting edge. -/
theorem Act.moveEdge_run {move : SpareMove} (hmove : s.spare[g].move = move) (hof : move = .take n 3 ∨ move = .back n true)
    (hrun : (s.cv g n).run = .off ∨ (s.cv g n).run = .idle ∨ (s.cv g n).run = .stopped) (hpend : s.slotPending g n = false)
    (hedge : actingEdge s.spare[g].moveAt ≤ s.clk) :
    (Act.moveEdge g).run s = if move = .take n 3 then (Act.spareTake g n 3).run s else (Act.spareBack g n true).run s := by
  have hpassive : ((s.cv g n).run == .off || (s.cv g n).run == .idle || (s.cv g n).run == .stopped) = true := by
    rcases hrun with h | h | h <;> rw [h] <;> rfl
  rcases hof with rfl | rfl
  · simp only [Act.moveEdge, Act.look_run, hmove, hpassive, hpend, hedge, Bool.not_false, Bool.and_self, decide_true, Act.when_true_run, Act.spareMove,
      Bool.true_or, if_true]
    rfl
  · simp only [Act.moveEdge, Act.look_run, hmove, hpassive, hpend, hedge, Bool.not_false, Bool.and_self, decide_true, Act.when_true_run, Act.spareMove,
      Bool.true_or, reduceCtorEq, if_false]

/-- R428: the spare's registers and its move as the work comes to it. -/
def Act.takeBegins (g : Grp) (n : Cv) : Act := .all [
  .setSpare g fun x => { x with move := .none }, .setF F.CV8_STATUS_ROLE 3 g, .setF F.CV8_STATUS_SERVES n g,
  .setCv g n fun x => { x with calStep := true }, .carry g n true]

/-- R428: what a promotion by software ends and reports. -/
def Act.takeReports (g : Grp) (n : Cv) (stage : Bool) (before : Nat) : Act := .all [
  .calEnd g 11 stage, .coreStandBack g, .setB F.FAULT_SPARE_PENDING false g, .setB F.FAULT_EVENTS_PROMOTED true,
  .log 18 (convNo g n) (leBytes before 1)]

theorem Act.spareTake_run (s : State) : (Act.spareTake g n 3).run s =
    (Act.takeReports g n (s.f F.CAL_STATUS_STATE g == 1) (s.f F.CV8_STATUS_ROLE g)).run ((Act.takeBegins g n).run s) := by
  simp only [Act.spareTake, Act.look_run, Act.takeReports, Act.takeBegins, Act.all_cons_run, Act.all_nil_run, Nat.reduceEqDiff,
    if_false]

theorem Act.takeBegins_begins (s : State) : let u := (Act.takeBegins g n).run s
    u.spare[g].move = .none ∧ u.b F.CV_STATUS_SPARE_ACTIVE g n = true ∧ u.f F.CV8_STATUS_ROLE g = 3 ∧ u.f F.CV8_STATUS_SERVES g = n.val := by
  have hrole : F.CV8_STATUS_ROLE.width = 2 := rfl
  have hserves : F.CV8_STATUS_SERVES.width = 4 := rfl
  have hn : n.val < 16 := by omega
  have htail : Within [.CV_STATUS, .CV_SEQ_STATE, .CV8_STATUS] [] [.ovl, .conv] (.all [.setF F.CV8_STATUS_ROLE 3 g, .setF F.CV8_STATUS_SERVES n g,
      .setCv g n fun x => { x with calStep := true }, .carry g n true]) := .all ⟨.setF, .setF, .setCv, Within.carry_apart.mono⟩
  rw [Act.takeBegins, Act.all_cons_run]
  refine ⟨?_, ?_, ?_, ?_⟩
  · rw [(htail _).parts .spare (by decide), Act.setSpare_same]
  · simp only [Act.all_cons_run, Act.all_nil_run]
    exact Act.carry_active ..
  · refine (Act.all_f_head (by exact .all ⟨.setF, .upd fun _ => rfl, .carry⟩)).trans ?_
    simp +decide [hrole]
  · rw [Act.all_cons_run]
    refine (Act.all_f_head (by exact .all ⟨.upd fun _ => rfl, .carry⟩)).trans ?_
    simp +decide [hserves, hn]

/-- R428: at the edge of PROMOTE the spare takes the work. -/
theorem Act.spareTake_promoted (s : State) : let u := (Act.spareTake g n 3).run s
    u.spare[g].move = .none ∧ u.b F.FAULT_SPARE_PENDING g = false ∧ u.b F.CV_STATUS_SPARE_ACTIVE g n = true ∧
      u.f F.CV8_STATUS_ROLE g = 3 ∧ u.f F.CV8_STATUS_SERVES g = n.val ∧ u.b F.FAULT_EVENTS_PROMOTED = true := by
  have htail : ∀ {stage before}, Within [.FAULT_STATUS, .FAULT_EVENTS, .FAULT_SPARE, .CAL_STATUS, .CAL_FAILS] [] [.cal, .mon, .log, .seed]
      (.takeReports g n stage before) := .all ⟨Within.calEnd.mono, Within.coreStandBack.mono, .setB, .setB, .log⟩
  obtain ⟨hmove, hactive, hrole, hserves⟩ := Act.takeBegins_begins (g := g) (n := n) s
  intro u
  rw [show u = _ from Act.spareTake_run s]
  refine ⟨?_, ?_, ((htail _).b_eq g n 0).trans hactive, ((htail _).f_eq g 0 0).trans hrole, ((htail _).f_eq g 0 0).trans hserves, ?_⟩
  · rw [(htail _).parts .spare (by decide), hmove]
  · rw [Act.takeReports, Act.all_cons_run, Act.all_cons_run]
    refine (Act.all_b_head (by exact .all ⟨.setB, .logMulti (by decide) (by decide) (by decide)⟩)).trans ?_
    simp +decide
  · rw [Act.takeReports, Act.all_cons_run, Act.all_cons_run, Act.all_cons_run]
    refine (Act.all_b_head (by exact .all (.log_failure (by decide)))).trans ?_
    simp +decide

/-- R428: the converter has its work again. -/
def Act.backBegins (g : Grp) (n : Cv) : Act := .all [
  .setSpare g fun x => { x with move := .none }, .setF F.CV8_STATUS_ROLE 0 g, .setF F.CV8_STATUS_SERVES 15 g, .carry g n false,
  .setB F.FAULT_SPARE_PENDING false g, .setB F.FAULT_EVENTS_RETURNED true, .log 19 (convNo g n) (leBytes 3 1),
  .setCv g n fun x => { x with calStep := true }]

/-- R428: the promotion that a return has made room for. -/
def Act.promoteNext (g : Grp) (waiting : Option Cv) : Act := match waiting with
  | some m => .promoteDecide g m 2
  | none => .promoteLowest g

theorem Act.spareBack_run (hrole : s.f F.CV8_STATUS_ROLE g = 3) : (Act.spareBack g n true).run s =
    (Act.promoteNext g s.spare[g].promote).run ((Act.backBegins g n).run s) := by
  rw [Act.spareBack, Act.look_run, hrole]
  simp only [Act.backBegins, Act.all_cons_run, Act.all_nil_run, Nat.reduceEqDiff, if_false]
  cases s.spare[g].promote <;> rfl

theorem Within.promoteNext {waiting : Option Cv} : Within [.FAULT_STATUS, .CV8_STATUS, .FAULT_SPARE] [] [.spare] (.promoteNext g waiting) := by
  cases waiting with
  | some m => exact .look fun _ => .all ⟨.setB, .setF, .setF, .setB, .setSpare⟩
  | none => exact .promoteLowest_apart

/-- No move of the group waits, and FAULT.GRP.SPARE names none. -/
def NoMove (g : Grp) (s : State) : Prop := s.spare[g].move = .none ∧ s.b F.FAULT_SPARE_PENDING g = false

theorem Act.promoteDecide_noMove (m : Cv) (before : Nat) (s : State) : NoMove g ((Act.promoteDecide g m before).run s) := by
  constructor
  · rw [Act.promoteDecide, Act.look_run]
    simp only [Act.all_cons_run, Act.all_nil_run, Act.setSpare_same]
  · rw [Act.promoteDecide, Act.look_run, Act.all_cons_run, Act.all_cons_run, Act.all_cons_run]
    refine (Act.all_b_head (by exact .all (.upd fun _ => rfl))).trans ?_
    simp +decide

theorem Act.promoteNext_noMove {waiting : Option Cv} (h : NoMove g s) : NoMove g ((Act.promoteNext g waiting).run s) := by
  cases waiting with
  | some m => exact Act.promoteDecide_noMove ..
  | none =>
    rw [Act.promoteNext, Act.promoteLowest, Act.look_run, Act.when_run]
    split
    · split
      · exact Act.promoteDecide_noMove ..
      · exact h
    · exact h

theorem Act.backBegins_begins (s : State) : let u := (Act.backBegins g n).run s
    NoMove g u ∧ u.b F.CV_STATUS_SPARE_ACTIVE g n = false ∧ (u.cv g n).calStep = true ∧ u.b F.FAULT_EVENTS_RETURNED = true := by
  have htail : Within [.CV_STATUS, .CV_SEQ_STATE, .CV8_STATUS, .FAULT_SPARE, .FAULT_EVENTS, .FAULT_STATUS] [] [.ovl, .conv, .log, .seed]
      (.all [.setF F.CV8_STATUS_ROLE 0 g, .setF F.CV8_STATUS_SERVES 15 g, .carry g n false,
        .setB F.FAULT_SPARE_PENDING false g, .setB F.FAULT_EVENTS_RETURNED true, .log 19 (convNo g n) (leBytes 3 1),
        .setCv g n fun x => { x with calStep := true }]) := .all ⟨.setF, .setF, Within.carry_apart.mono, .setB, .setB, .log, .setCv⟩
  rw [Act.backBegins, Act.all_cons_run]
  refine ⟨⟨?_, ?_⟩, ?_, ?_, ?_⟩
  · rw [(htail _).parts .spare (by decide), Act.setSpare_same]
  · rw [Act.all_cons_run, Act.all_cons_run, Act.all_cons_run]
    refine (Act.all_b_head (by exact .all ⟨.setB, .logMulti (by decide) (by decide) (by decide), .upd fun _ => rfl⟩)).trans ?_
    simp +decide
  · rw [Act.all_cons_run, Act.all_cons_run]
    refine (Act.all_b_head (by exact .all ⟨.setB, .setB, .log_failure (by decide), .upd fun _ => rfl⟩)).trans ?_
    exact Act.carry_active ..
  · simp only [Act.all_cons_run, Act.all_nil_run, Act.setCv_cv_same]
  · rw [Act.all_cons_run, Act.all_cons_run, Act.all_cons_run, Act.all_cons_run]
    refine (Act.all_b_head (by exact .all ⟨.log_failure (by decide), .upd fun _ => rfl⟩)).trans ?_
    simp +decide

/-- R428: at the edge of RETURN the converter carries its work again. -/
theorem Act.spareBack_returned (hrole : s.f F.CV8_STATUS_ROLE g = 3) : let u := (Act.spareBack g n true).run s
    u.spare[g].move = .none ∧ u.b F.FAULT_SPARE_PENDING g = false ∧ u.b F.CV_STATUS_SPARE_ACTIVE g n = false ∧
      (u.cv g n).calStep = true ∧ u.b F.FAULT_EVENTS_RETURNED = true := by
  obtain ⟨hmove, hactive, hstep, hevent⟩ := Act.backBegins_begins (g := g) (n := n) s
  have htail := Within.promoteNext (g := g) (waiting := s.spare[g].promote) ((Act.backBegins g n).run s)
  intro u
  rw [show u = _ from Act.spareBack_run hrole]
  obtain ⟨hnone, hpending⟩ := Act.promoteNext_noMove (waiting := s.spare[g].promote) hmove
  exact ⟨hnone, hpending, (htail.b_eq g n 0).trans hactive, by rw [htail.cv g n, hstep], (htail.b_eq 0 0 0).trans hevent⟩

/-- Settles O16. -/
theorem spareConverter : Obligations.SpareConverter := by
  unfold Obligations.SpareConverter
  intro s src g n v
  refine ⟨promotion_idle_answers, promotion_visit_answers, fun hw hmode halive hidle htarget =>
    ⟨sparePromote_answers hw hmode halive hidle htarget, spareReturn_answers hw hmode halive hidle htarget⟩,
    fun hrun hpend hedge => ⟨fun hmove => ?_, fun hmove hrole => ?_⟩⟩
  · rw [Act.moveEdge_run hmove (.inl rfl) hrun hpend hedge, if_pos rfl]
    exact Act.spareTake_promoted s
  · rw [Act.moveEdge_run hmove (.inr rfl) hrun hpend hedge, if_neg (by simp)]
    exact Act.spareBack_returned hrole

end Sys2Proof.Machine
end

section
-- One proof after another: elaborated side by side, the proofs of the whole text do not fit in the check's memory.
set_option Elab.async false
/-! The spare core of a group (R309, R310, R430). -/

namespace Sys2Proof.Machine

variable {s : State} {src : Src} {g : Grp} {o : Out} {v : Word}

theorem Act.setMon_same (f : MonSt → MonSt) (s : State) : ((Act.setMon g f).run s).mon[g] = f s.mon[g] := by simp

@[simp] theorem Act.accept_f {f : Fld} {i j k : Nat} (s : State) : (Act.accept.run s).f f i j k = s.f f i j k := rfl
@[simp] theorem Act.accept_r {n : RegName} {i j k : Nat} (s : State) : (Act.accept.run s).r n i j k = s.r n i j k := rfl

/-! ### Requests and returns -/

/-- R309: a hand-over that a write asks for. -/
def Act.coreAsked (g : Grp) (v : Word) (o : Nat) (back : Bool) : Act := .all [.setF F.DAC_SPARE_TARGET v.toNat g, .coreHandover g o back, .accept]

theorem Act.coreAsked_asked {o : Nat} {back : Bool} (ho : o < 16) (s : State) : let t := (Act.coreAsked g v o back).run s
    t.resp = .ok 0 ∧ t.f F.DAC_SPARE_ROLE g = 1 ∧ t.f F.DAC_SPARE_SERVES g = o ∧ t.b F.FAULT_STATUS_REPAIRING = true ∧
    t.mon[g].coreReturn = back ∧ t.mon[g].coreAt = s.clk ∧
    NamesKept [.DAC_SPARE, .FAULT_STATUS] s t ∧ t = { s with regs := t.regs, mon := t.mon, resp := t.resp } := by
  have hin : Within [.DAC_SPARE, .FAULT_STATUS] [] [.mon, .resp] (.coreAsked g v o back) :=
    .all ⟨.setF, .all ⟨.setF, .setF, .setB, .look fun _ => .setMon⟩, .accept⟩
  have hrole : F.DAC_SPARE_ROLE.width = 2 := rfl
  have hserves : F.DAC_SPARE_SERVES.width = 4 := rfl
  have haccept : ∀ u : State, (Act.accept.run u).mon = u.mon := fun _ => rfl
  have hmon : ((Act.coreAsked g v o back).run s).mon[g] = { s.mon[g] with coreReturn := back, coreAt := s.clk } := by
    simp only [Act.coreAsked, Act.coreHandover, Act.look_run, Act.all_cons_run, Act.all_nil_run, haccept, Act.setMon_same, Act.setB_mon, Act.setF_mon,
      Act.setB_clk, Act.setF_clk]
  refine ⟨rfl, ?_, ?_, ?_, by rw [hmon], by rw [hmon], (hin s).namesKept, (hin s).rest⟩
  · simp +decide [Act.coreAsked, Act.coreHandover, hrole]
  · simp +decide [Act.coreAsked, Act.coreHandover, hserves, ho]
  · simp +decide [Act.coreAsked, Act.coreHandover, State.b]

theorem Fld.of_lt (f : Fld) (v : Word) {k : Nat} (h : 2 ^ f.width ≤ k := by decide) : f.of v < k :=
  Nat.lt_of_lt_of_le (Nat.mod_lt _ (Nat.two_pow_pos _)) h

theorem Act.spareWrite_request_run (hmode : s.mode repair = true) (hreq : F.DAC_SPARE_REQ.of v = 1) (hreturn : F.DAC_SPARE_RETURN.of v = 0)
    (hrole : s.f F.DAC_SPARE_ROLE g = 0) :
    (Act.spareWrite g v).run s = (Act.coreAsked g v (F.DAC_SPARE_TARGET.of v) false).run s := by
  simp only [Act.spareWrite, Act.look_run, hmode, hreq, hreturn, hrole]
  rfl

theorem Act.spareWrite_return_run (hmode : s.mode repair = true) (hreq : F.DAC_SPARE_REQ.of v = 0) (hreturn : F.DAC_SPARE_RETURN.of v = 1)
    (hrole : s.f F.DAC_SPARE_ROLE g = 3) (hfailed : s.b F.DAC_STATUS_CORE_FAILED g (s.f F.DAC_SPARE_SERVES g) = false) :
    (Act.spareWrite g v).run s = (Act.coreAsked g v (s.f F.DAC_SPARE_SERVES g) true).run s := by
  simp only [Act.spareWrite, Act.look_run, hmode, hreq, hreturn, hrole, hfailed]
  rfl

theorem spareCoreReq_answers (hw : s.takesReg src .DAC_SPARE g) (hmode : s.mode repair = true) (hreq : F.DAC_SPARE_REQ.of v = 1)
    (hreturn : F.DAC_SPARE_RETURN.of v = 0) (hrole : s.f F.DAC_SPARE_ROLE g = 0) : Answers (.spareCoreReq src g v) s fun t =>
      t.resp = .ok 0 ∧ t.f F.DAC_SPARE_ROLE g = 1 ∧ t.f F.DAC_SPARE_SERVES g = F.DAC_SPARE_TARGET.of v ∧
      t.b F.FAULT_STATUS_REPAIRING = true ∧ t.mon[g].coreReturn = false ∧ t.mon[g].coreAt = s.clk ∧
      NamesKept [.DAC_SPARE, .FAULT_STATUS] s t ∧ t = { s with regs := t.regs, mon := t.mon, resp := t.resp } := by
  have heffect := Act.spareWrite_request_run hmode hreq hreturn hrole
  have hrun := Act.writeTo_accepted (d := 0) hw (a := Act.spareWrite g v) (by rw [heffect]; rfl)
  refine ⟨_, rfl, ?_⟩
  rw [hrun, heffect]
  exact Act.coreAsked_asked (F.DAC_SPARE_TARGET.of_lt v) s

theorem spareCoreReturn_answers (hw : s.takesReg src .DAC_SPARE g) (hmode : s.mode repair = true) (hreq : F.DAC_SPARE_REQ.of v = 0)
    (hreturn : F.DAC_SPARE_RETURN.of v = 1) (hrole : s.f F.DAC_SPARE_ROLE g = 3)
    (hfailed : s.b F.DAC_STATUS_CORE_FAILED g (s.f F.DAC_SPARE_SERVES g) = false) : Answers (.spareCoreReturn src g v) s fun t =>
      t.resp = .ok 0 ∧ t.f F.DAC_SPARE_ROLE g = 1 ∧ t.f F.DAC_SPARE_SERVES g = s.f F.DAC_SPARE_SERVES g ∧
      t.mon[g].coreReturn = true ∧ t.mon[g].coreAt = s.clk ∧ NamesKept [.DAC_SPARE, .FAULT_STATUS] s t := by
  have heffect := Act.spareWrite_return_run hmode hreq hreturn hrole hfailed
  have hrun := Act.writeTo_accepted (d := 0) hw (a := Act.spareWrite g v) (by rw [heffect]; rfl)
  obtain ⟨hresp, hone, hserves, -, hback, hat, hnames, -⟩ := Act.coreAsked_asked (v := v) (g := g) (back := true)
    (F.DAC_SPARE_SERVES.of_lt (s.r .DAC_SPARE g)) s
  refine ⟨_, rfl, ?_⟩
  rw [hrun, heffect]
  exact ⟨hresp, hone, hserves, hback, hat, hnames⟩

theorem spareCoreReq_refused (hw : s.takesReg src .DAC_SPARE g) (hmode : s.mode repair = false) (hreq : F.DAC_SPARE_REQ.of v = 1) :
    Answers (.spareCoreReq src g v) s fun t =>
      t.resp = .error ∧ Counted F.DAC_REFUSED_COUNT s t g ∧ NamesKept [.DAC_REFUSED, .FAB_PORT_ERR] s t ∧ OnlyRegs s t := by
  have heffect : (Act.spareWrite g v).run s = (Act.refuse F.DAC_REFUSED_COUNT g).run s := by
    simp only [Act.spareWrite, Act.look_run, hmode, hreq]
    rfl
  exact ⟨_, rfl, Act.writeTo_refused hw heffect (RegRef.valid_one g (by decide) (by decide) (by decide))⟩

/-! ### The switching edge -/

/-- R309: the registers and the event of the edge at which the amplifier input moves. -/
def Act.coreMoves (g : Grp) (o : Out) (back : Bool) : Act := .all [
  .setF F.DAC_SPARE_ROLE (if back then 0 else 3) g, .when back (.setF F.DAC_SPARE_SERVES 15 g), .setB F.DAC_STATUS_SPARE_ACTIVE (!back) g o,
  .repairing, if back then .setB F.FAULT_EVENTS_RETURNED true else .setB F.FAULT_EVENTS_PROMOTED true]

/-- R309: what follows at the edge: the log, the read-back and the interrupt line. -/
def Act.coreMoved (g : Grp) (o : Out) (back : Bool) (clk : Nat) : Act := .all [
  .log (if back then 19 else 18) (0x40 + g * 8 + o) (leBytes (if back then 3 else 0) 1), .setMon g fun m => { m with coreReturn := false },
  .setOut g ⟨o % 8, Nat.mod_lt _ (by decide)⟩ fun x => { x with changed := clk }, .once (16 + 8 * g + 2)]

theorem Act.coreEdge_run (halive : s.alive g = true) (hready : s.coreReady g = true) (hrole : s.f F.DAC_SPARE_ROLE g = 1)
    (hserves : s.f F.DAC_SPARE_SERVES g = o.val) (hbusy : s.b F.DAC_STATUS_RANGE_BUSY g o = false) :
    (Act.coreEdge g).run s = (Act.coreMoved g o s.mon[g].coreReturn s.clk).run ((Act.coreMoves g o s.mon[g].coreReturn).run s) := by
  simp only [Act.coreEdge, Act.look_run, hrole, OfNat.one_ne_ofNat, if_false, Act.coreSwitch, halive, hready, hserves, hbusy]
  rfl

theorem Act.coreMoves_moves (back : Bool) (s : State) : let u := (Act.coreMoves g o back).run s
    u.f F.DAC_SPARE_ROLE g = (if back then 0 else 3) ∧ u.b F.DAC_STATUS_SPARE_ACTIVE g o = !back ∧
      (if back then u.b F.FAULT_EVENTS_RETURNED else u.b F.FAULT_EVENTS_PROMOTED) = true := by
  have hrole : F.DAC_SPARE_ROLE.width = 2 := rfl
  cases back
  · simp +decide [Act.coreMoves, Act.repairing, State.b, hrole]
  · simp +decide [Act.coreMoves, Act.repairing, State.b, hrole]

theorem Within.coreMoved {back : Bool} {clk : Nat} : Within [.FAULT_STATUS, .FAULT_EVENTS] [] [.log, .seed, .mon, .outs, .ring] (.coreMoved g o back clk) :=
  .all ⟨.log, .setMon, .setOut, .updPart .ring (fun _ => rfl) (fun _ => rfl) (by decide)⟩

theorem Leaves.coreMoved {f : Fld} {back : Bool} {clk : Nat} (h : f.outsideFailure = true := by decide) : Leaves f (.coreMoved g o back clk) :=
  .all ⟨.log_failure h, .upd fun _ => rfl, .upd fun _ => rfl, .upd fun _ => rfl⟩

theorem Act.coreMoved_return (back : Bool) (clk : Nat) (s : State) : ((Act.coreMoved g o back clk).run s).mon[g].coreReturn = false := by
  have hin : Within [] [] [.outs, .ring] (.all [.setOut g ⟨o % 8, Nat.mod_lt _ (by decide)⟩ fun x => { x with changed := clk }, .once (16 + 8 * g + 2)]) :=
    .all ⟨.setOut, .updPart .ring (fun _ => rfl) (fun _ => rfl) (by decide)⟩
  rw [Act.coreMoved, Act.all_cons_run, Act.all_cons_run, (hin _).parts .mon (by decide), Act.setMon_same]

theorem spareCoreSwitch_answers (halive : s.alive g = true) (hready : s.coreReady g = true) (hrole : s.f F.DAC_SPARE_ROLE g = 1)
    (hserves : s.f F.DAC_SPARE_SERVES g = o.val) (hbusy : s.b F.DAC_STATUS_RANGE_BUSY g o = false) :
    AnswersThenModes (.spareCoreSwitch g) s fun u =>
      u.f F.DAC_SPARE_ROLE g = (if s.mon[g].coreReturn then 0 else 3) ∧ u.b F.DAC_STATUS_SPARE_ACTIVE g o = !s.mon[g].coreReturn ∧
      u.mon[g].coreReturn = false ∧
      (if s.mon[g].coreReturn then u.b F.FAULT_EVENTS_RETURNED else u.b F.FAULT_EVENTS_PROMOTED) = true := by
  obtain ⟨hto, hactive, hevent⟩ := Act.coreMoves_moves (g := g) (o := o) s.mon[g].coreReturn s
  refine ⟨_, rfl, ?_⟩
  rw [Act.coreEdge_run halive hready hrole hserves hbusy]
  refine ⟨?_, ?_, Act.coreMoved_return .., ?_⟩
  · rw [(Within.coreMoved _).f_eq g 0 0, hto]
  · rw [(Within.coreMoved _).b_eq g o 0, hactive]
  · rw [(Leaves.coreMoved).b, (Leaves.coreMoved).b, hevent]

/-! ### Failed cores -/

/-- R430: a failed core is cleared. -/
def Act.clearCore (g : Grp) (o : Out) : Act := .all [
  .setB F.DAC_STATUS_CORE_FAILED false g o, .clrBit F.FAULT_CORE_FAILED o g,
  .upd fun s => { s with flash := { s.flash with
    coreFailed := s.flash.coreFailed.set g (s.flash.coreFailed[g] &&& (255 - 1 <<< o.val)) } }]

theorem Act.clearCore_clears (s : State) : let u := (Act.clearCore g o).run s
    u.b F.DAC_STATUS_CORE_FAILED g o = false ∧ u.bit F.FAULT_CORE_FAILED o g = false ∧ u.flash.coreFailed[g].testBit o = false := by
  rw [Act.clearCore]
  refine ⟨?failed, ?map, ?flash⟩
  case failed =>
    refine (Act.all_b_head (by exact .all ⟨.clrBit, .upd fun _ => rfl⟩)).trans ?_
    simp +decide
  case map =>
    rw [Act.all_cons_run]
    refine (Act.all_bit_head (by exact .all (.upd fun _ => rfl))).trans ?_
    exact Act.clrBit_bit_stored _ (RegRef.valid_one g (by decide) (by decide) (by decide)) (by decide) o.isLt
  case flash =>
    simp only [Act.all_cons_run, Act.all_nil_run, Act.upd_run, Fin.getElem_fin, Vector.getElem_set_self]
    exact testBit_and_complement _ o

theorem coreClear_answers (hw : s.takesReg src .FAULT_CORE g) (hkey : F.FAULT_CORE_KEY.of v = 0xA7) (hclear : F.FAULT_CORE_CLEAR.of v = 2 ^ o.val) :
    Answers (.coreClear src g v) s fun t =>
      t.resp = .ok 0 ∧ t.b F.DAC_STATUS_CORE_FAILED g o = false ∧ t.bit F.FAULT_CORE_FAILED o g = false ∧
      t.flash.coreFailed[g].testBit o = false ∧
      RegsKept [⟨.DAC_STATUS, g, o, 0⟩, ⟨.FAULT_CORE, g, 0, 0⟩] s t ∧
      t = { s with regs := t.regs, flash := t.flash, resp := t.resp } := by
  have heffect : (Act.faultCore g v).run s = (Act.all [.clearCore g o, .accept]).run s := by
    simp only [Act.faultCore, hkey, hclear, ne_eq, not_true, if_false, Act.all_cons_run, Act.all_nil_run]
    rw [Act.each_when_one (List.mem_finRange o) (List.nodup_finRange 8) _ (fun m => testBit_two_pow_eq m o)]
    simp only [Act.clearCore, Act.all_cons_run, Act.all_nil_run]
  have hrun := Act.writeTo_accepted (d := 0) hw (a := Act.faultCore g v) (by rw [heffect]; rfl)
  have hin : Within [] [⟨.DAC_STATUS, g, o, 0⟩, ⟨.FAULT_CORE, g, 0, 0⟩] [.flash, .resp] (.all [.clearCore g o, .accept]) :=
    .all ⟨.all ⟨.setBAt, .clrBitAt, .updPart .flash (fun _ => rfl) (fun _ => rfl) (by decide)⟩, .accept⟩
  obtain ⟨hfailed, hmap, hflash⟩ := Act.clearCore_clears (g := g) (o := o) s
  refine ⟨_, rfl, ?_⟩
  rw [hrun, heffect]
  exact ⟨rfl, hfailed, hmap, hflash, (hin s).regsKept, (hin s).rest⟩

/-- Settles O17. -/
theorem spareCore : Obligations.SpareCore := by
  unfold Obligations.SpareCore
  intro s src g o v
  exact ⟨fun hw hmode => ⟨spareCoreReq_answers hw hmode, spareCoreReturn_answers hw hmode⟩, spareCoreReq_refused,
    spareCoreSwitch_answers, coreClear_answers⟩

end Sys2Proof.Machine
end

section
-- One proof after another: elaborated side by side, the proofs of the whole text do not fit in the check's memory.
set_option Elab.async false
/-! The cell set of a group, its control inputs, clipping and limiting (R143, R148, R152 to R163). -/

namespace Sys2Proof.Machine

variable {s : State} {src : Src} {g : Grp} {c : Cell} {i : Ain} {l : Bool} {v : Word}

theorem Act.setCells_same (f : CellsSt → CellsSt) (s : State) : ((Act.setCells g f).run s).cells[g] = f s.cells[g] := by simp

/-! ### Control sources, clipping and limiting -/

/-- R152: the level at a cell, of a level of its control source. -/
def State.levelAt (s : State) (g : Grp) (c : Cell) (l : Bool) : Bool := l != (F.CELL_CFG_CTL_INV.of (s.cellCfg g c) == 1)

/-- R153, R154: what the level makes of the cell. -/
def State.modeAt (s : State) (g : Grp) (c : Cell) (l : Bool) : CellMode :=
  cellModeOf (F.CELL_CFG_FUNC.of (s.cellCfg g c)) (F.CELL_CFG_SUBFN.of (s.cellCfg g c)) (s.levelAt g c l)

theorem Act.cellControl_run (s : State) : (Act.cellControl g c l).run s =
    (Act.all [.setB F.CELL_STATUS_CTL_LEVEL (s.levelAt g c l) g c,
      .setCells g fun x => { x with modes := x.modes.set c (s.modeAt g c l) }]).run s := rfl

theorem cellCtlChange_answers (hl : l = s.cellSource g c) : Answers (.cellCtlChange g c l) s fun t =>
    t.b F.CELL_STATUS_CTL_LEVEL g c = s.levelAt g c l ∧ t.cells[g].modes[c] = s.modeAt g c l ∧
    RegsKept [⟨.CELL_STATUS, g, c, 0⟩] s t ∧ t = { s with regs := t.regs, cells := t.cells } := by
  have hin : Within [] [⟨.CELL_STATUS, g, c, 0⟩] [.cells] (.all [.setB F.CELL_STATUS_CTL_LEVEL (s.levelAt g c l) g c,
      .setCells g fun x => { x with modes := x.modes.set c (s.modeAt g c l) }]) := .all ⟨.setBAt, .setCells⟩
  refine ⟨_, rfl, ?_⟩
  rw [Act.look_run, hl, beq_self_eq_true, Act.when_true_run, ← hl, Act.cellControl_run]
  refine ⟨?_, ?_, (hin s).regsKept, (hin s).rest⟩
  · simp +decide [State.b]
  · rw [Act.all_cons_run, Act.all_cons_run, Act.all_nil_run, Act.setCells_same]
    simp

theorem cellClipEntry_answers (hclips : s.cellClips g c = true) (hnow : s.b F.CELL_STATUS_CLIP_NOW g c = false) :
    Answers (.cellClipEntry g c) s fun t =>
      t.b F.CELL_STATUS_CLIP g c = true ∧ t.b F.CELL_STATUS_CLIP_NOW g c = true ∧ Counted F.CELL_STATUS_CLIP_COUNT s t g c ∧
      RegsKept [⟨.CELL_STATUS, g, c, 0⟩] s t ∧ OnlyRegs s t := by
  have hrun : (Act.clipEntry g c).run s = (Act.all [.setB F.CELL_STATUS_CLIP true g c, .setB F.CELL_STATUS_CLIP_NOW true g c,
      .count F.CELL_STATUS_CLIP_COUNT 1 g c]).run s := by
    rw [Act.clipEntry, Act.look_run, hclips, hnow, Bool.not_false, Bool.and_self, Act.when_true_run]
  have hin : Within [] [⟨.CELL_STATUS, g, c, 0⟩] [.resp] (.all [.setB F.CELL_STATUS_CLIP true g c, .setB F.CELL_STATUS_CLIP_NOW true g c,
      .count F.CELL_STATUS_CLIP_COUNT 1 g c]) := .all ⟨.setBAt, .setBAt, .countAt⟩
  refine ⟨_, rfl, ?_⟩
  rw [hrun]
  refine ⟨?_, ?_, ?_, (hin s).regsKept, (hin s).rest⟩
  all_goals simp +decide [State.b, Counted]

theorem cellClipExit_answers (hclips : s.cellClips g c = false) : Answers (.cellClipExit g c) s fun t =>
    t.b F.CELL_STATUS_CLIP_NOW g c = false ∧ t.b F.CELL_STATUS_CLIP g c = s.b F.CELL_STATUS_CLIP g c ∧
    RegsKept [⟨.CELL_STATUS, g, c, 0⟩] s t ∧ OnlyRegs s t := by
  have hin : Within [] [⟨.CELL_STATUS, g, c, 0⟩] [.resp] (.setB F.CELL_STATUS_CLIP_NOW false g c) := .setBAt
  refine ⟨_, rfl, ?_⟩
  rw [Act.clipExit, Act.look_run, hclips, Bool.not_false, Act.when_true_run]
  refine ⟨?_, ?_, (hin s).regsKept, (hin s).rest⟩
  all_goals simp +decide [State.b]

theorem limiterEntry_answers (halive : s.alive g = true) (hmode : s.inputMode g i = 1) (hlimiting : s.b F.INP_STATUS_LIMITING g i = false) :
    Answers (.limiterEntry g i) s fun t =>
      t.b F.INP_STATUS_LIMITING g i = true ∧ t.b F.INP_STATUS_LIMITED g i = true ∧ Counted F.INP_STATUS_LIMIT_COUNT s t g i ∧
      RegsKept [⟨.INP_STATUS, g, i, 0⟩] s t ∧ OnlyRegs s t := by
  have hrun : (Act.limiterEntry g i).run s = (Act.all [.setB F.INP_STATUS_LIMITING true g i, .setB F.INP_STATUS_LIMITED true g i,
      .count F.INP_STATUS_LIMIT_COUNT 1 g i]).run s := by
    rw [Act.limiterEntry, Act.look_run, halive, hmode, hlimiting, beq_self_eq_true, Bool.not_false, Bool.and_self, Bool.and_self,
      Act.when_true_run]
  have hin : Within [] [⟨.INP_STATUS, g, i, 0⟩] [.resp] (.all [.setB F.INP_STATUS_LIMITING true g i, .setB F.INP_STATUS_LIMITED true g i,
      .count F.INP_STATUS_LIMIT_COUNT 1 g i]) := .all ⟨.setBAt, .setBAt, .countAt⟩
  refine ⟨_, rfl, ?_⟩
  rw [hrun]
  refine ⟨?_, ?_, ?_, (hin s).regsKept, (hin s).rest⟩
  all_goals simp +decide [State.b, Counted]

theorem limiterExit_answers : Answers (.limiterExit g i) s fun t =>
    t.b F.INP_STATUS_LIMITING g i = false ∧ t.b F.INP_STATUS_FOLDBACK g i = false ∧ RegsKept [⟨.INP_STATUS, g, i, 0⟩] s t ∧ OnlyRegs s t := by
  have hin : Within [] [⟨.INP_STATUS, g, i, 0⟩] [.resp] (.limiterExit g i) := .all ⟨.setBAt, .setBAt⟩
  refine ⟨_, rfl, ?_, ?_, (hin s).regsKept, (hin s).rest⟩
  all_goals simp +decide [Act.limiterExit, State.b]

theorem limiterFoldback_answers (hlimiting : s.b F.INP_STATUS_LIMITING g i = true) : Answers (.limiterFoldback g i l) s fun t =>
    t.b F.INP_STATUS_FOLDBACK g i = l ∧ RegsKept [⟨.INP_STATUS, g, i, 0⟩] s t ∧ OnlyRegs s t := by
  have hrun : (Act.limiterFoldback g i l).run s = (Act.setB F.INP_STATUS_FOLDBACK l g i).run s := by
    cases l
    · rfl
    · rw [Act.limiterFoldback, Act.look_run, if_pos rfl, hlimiting, Act.when_true_run]
  have hin : Within [] [⟨.INP_STATUS, g, i, 0⟩] [.resp] (.setB F.INP_STATUS_FOLDBACK l g i) := .setBAt
  refine ⟨_, rfl, ?_⟩
  rw [hrun]
  exact ⟨by simp +decide, (hin s).regsKept, (hin s).rest⟩

/-- Settles O19. -/
theorem cellEvents : Obligations.CellEvents := by
  unfold Obligations.CellEvents
  intro s g c i l
  exact ⟨cellCtlChange_answers, cellClipEntry_answers, cellClipExit_answers, limiterEntry_answers, limiterExit_answers, limiterFoldback_answers⟩

end Sys2Proof.Machine
end

section
-- One proof after another: elaborated side by side, the proofs of the whole text do not fit in the check's memory.
set_option Elab.async false
/-! The cell set: its commit, its hand-over and its report (R148, R159 to R165). -/

namespace Sys2Proof.Machine

variable {s : State} {src : Src} {g : Grp} {c : Cell} {v : Word}

@[simp] theorem Act.setF_r_spared {f : Fld} {n : RegName} {x i j k i' j' k' : Nat} (h : f.name ≠ n) :
    ((Act.setF f x i j k).run s).r n i' j' k' = s.r n i' j' k' := Act.setF_r_ne _ _ _ _ _ _ _ _ _ _ h

@[simp] theorem Act.setB_r_spared {f : Fld} {n : RegName} {x : Bool} {i j k i' j' k' : Nat} (h : f.name ≠ n) :
    ((Act.setB f x i j k).run s).r n i' j' k' = s.r n i' j' k' := Act.setF_r_spared h

/-! ### The commit -/

theorem valid_cellShadow (g : Grp) : RegRef.valid ⟨.CELL_SHADOW, g, 0, 0⟩ = true := RegRef.valid_one g (by decide) (by decide) (by decide)

theorem Act.cellCommitRun_run (hrun : ((Act.cellCommit g v).run s).b F.CELL_SHADOW_PENDING g = false ∨ s.cal[g].run = none) :
    (Act.cellCommitRun g v).run s = (Act.cellCommit g v).run s := by
  rw [Act.cellCommitRun, Act.look_run, Act.andThen_run, Act.look_run]
  rcases hrun with hrun | hrun
  · rw [hrun, Bool.and_false, Bool.false_and, Act.when_false_run]
  · rw [hrun, Option.any_none, Bool.and_false, Act.when_false_run]

theorem cellCommit_answers (hw : s.takesReg src .CELL_COMMIT g) (hpend : s.b F.CELL_SHADOW_PENDING g = false)
    (hgood : s.cellSetBad g (some v) = none) (hcal : s.cal[g].run = none) : AnswersThenModes (.cellCommit src g v) s fun u =>
      u.resp = .ok 0 ∧ u.b F.CELL_SHADOW_PENDING g = true ∧ u.r .CELL_COMMIT g = v &&& 0x1F ∧ u.cells[g].commitAt = s.clk ∧
      RegsKept [⟨.CELL_COMMIT, g, 0, 0⟩, ⟨.CELL_SHADOW, g, 0, 0⟩] s u ∧ u = { s with regs := u.regs, cells := u.cells, resp := u.resp } := by
  have heffect : (Act.cellCommitRun g v).run s = (Act.all [.setR .CELL_COMMIT v g, .setB F.CELL_SHADOW_PENDING true g,
      .setCells g fun x => { x with commitAt := s.clk }, .accept]).run s := by
    rw [Act.cellCommitRun_run (.inr hcal)]
    simp only [Act.cellCommit, Act.look_run, hpend, hgood, Bool.false_eq_true, if_false]
  have hin : Within [] [⟨.CELL_COMMIT, g, 0, 0⟩, ⟨.CELL_SHADOW, g, 0, 0⟩] [.cells, .resp] (.all [.setR .CELL_COMMIT v g,
      .setB F.CELL_SHADOW_PENDING true g, .setCells g fun x => { x with commitAt := s.clk }, .accept]) := .all ⟨.setRAt, .setBAt, .setCells, .accept⟩
  have haccept : ∀ u : State, (Act.accept.run u).cells = u.cells := fun _ => rfl
  have hrun := Act.writeTo_accepted (d := 0) hw (a := Act.cellCommitRun g v) (by rw [heffect]; rfl)
  refine ⟨_, rfl, ?_⟩
  rw [hrun, heffect]
  refine ⟨rfl, ?_, ?_, ?_, (hin s).regsKept, (hin s).rest⟩
  · simp +decide [State.b]
  · have hmask : RegName.CELL_COMMIT.mask = 0x1F := rfl
    simp +decide [← hmask]
  · simp only [Act.all_cons_run, Act.all_nil_run, haccept, Act.setCells_same]

theorem State.cellBad_lt {i c : Nat} (hc : c < 12) (h : i ∈ s.cellBad g c) : i < 192 := by
  rw [State.cellBad] at h
  split at h
  · exact absurd h List.not_mem_nil
  · simp only [List.mem_filterMap, List.mem_cons, List.not_mem_nil, or_false] at h
    obtain ⟨e, he, hi⟩ := h
    have hword : e.1 < 8 := by rcases he with rfl | rfl | rfl | rfl | rfl | rfl | rfl <;> simp only [Nat.reduceLT]
    split at hi
    · cases hi; omega
    · exact absurd hi (by simp)

theorem State.cellSetBad_lt {i : Nat} (h : s.cellSetBad g (some v) = some i) : i < 1024 := by
  have hmem := List.mem_of_mem_head? (Option.mem_def.mpr h)
  simp only [List.mem_append, List.mem_flatMap, List.mem_map, List.mem_filter, List.mem_range] at hmem
  rcases hmem with ((⟨c, hc, hi⟩ | ⟨t, ⟨ht, -⟩, rfl⟩) | ⟨k, ⟨hk, -⟩, rfl⟩) | hmem
  · exact (State.cellBad_lt hc hi).trans (by decide)
  · omega
  · omega
  · split at hmem <;> simp_all

theorem cellCommit_invalid {i : Nat} (hw : s.takesReg src .CELL_COMMIT g) (hpend : s.b F.CELL_SHADOW_PENDING g = false)
    (hbad : s.cellSetBad g (some v) = some i) : AnswersThenModes (.cellCommit src g v) s fun u =>
      u.resp = .error ∧ u.b F.CELL_SHADOW_REJECTED g = true ∧ u.f F.CELL_SHADOW_REJ_WORD g = i ∧
      Counted F.CELL_SHADOW_REFUSED s u g ∧ NamesKept [.CELL_SHADOW, .FAB_PORT_ERR] s u ∧ OnlyRegs s u := by
  have hcommit : (Act.cellCommit g v).run s =
      (Act.all [.cellRefuse g, .setB F.CELL_SHADOW_REJECTED true g, .setF F.CELL_SHADOW_REJ_WORD i g]).run s := by
    simp only [Act.cellCommit, Act.look_run, hpend, hbad, Bool.false_eq_true, if_false]
  have hkept : Leaves F.CELL_SHADOW_PENDING (.all [.cellRefuse g, .setB F.CELL_SHADOW_REJECTED true g, .setF F.CELL_SHADOW_REJ_WORD i g]) :=
    .all ⟨.all ⟨.count, .answer⟩, .setB, .setF⟩
  have heffect := Act.cellCommitRun_run (s := s) (g := g) (v := v) (.inl (by rw [hcommit, hkept.b, hpend]))
  rw [hcommit] at heffect
  have hin : Within [.CELL_SHADOW, .FAB_PORT_ERR] [] [.resp]
      (.all [.all [.cellRefuse g, .setB F.CELL_SHADOW_REJECTED true g, .setF F.CELL_SHADOW_REJ_WORD i g], .masterCount src]) :=
    .all ⟨.all ⟨Within.refuse (f := F.CELL_SHADOW_REFUSED), .setB, .setF⟩, .masterCount⟩
  have hmaster : ∀ t : State, ∀ f : Fld, f.name = .CELL_SHADOW → ((Act.masterCount src).run t).f f g 0 = t.f f g 0 := fun t f hf =>
    Act.masterCount_f src g 0 0 t (by rw [hf]; decide)
  have hcount : ((Act.cellRefuse g).run s).f F.CELL_SHADOW_REFUSED g = min (s.f F.CELL_SHADOW_REFUSED g + 1) (2 ^ F.CELL_SHADOW_REFUSED.width - 1) :=
    Act.count_f_same F.CELL_SHADOW_REFUSED g 0 s (valid_cellShadow g) (by decide)
  refine ⟨_, rfl, ?_⟩
  rw [Act.writeTo_run hw, heffect]
  refine ⟨?resp, ?rejected, ?word, ?count, (hin s).namesKept, (hin s).rest⟩
  case resp =>
    rw [Act.masterCount_resp, Act.all_cons_run, Act.all_cons_run, Act.all_cons_run, Act.all_nil_run, Act.setF_resp, Act.setB_resp]; rfl
  case count =>
    rw [Counted, hmaster _ _ rfl]
    refine (Act.all_f_head ?_).trans hcount
    exact .all ⟨.setB, .setF⟩
  case rejected =>
    rw [State.b, hmaster _ _ rfl, ← State.b, Act.all_cons_run]
    refine (Act.all_b_head ?_).trans (Act.setB_b_at (valid_cellShadow g) _ _)
    exact .all (by exact .setF)
  case word =>
    rw [hmaster _ _ rfl, Act.all_cons_run, Act.all_cons_run, Act.all_cons_run, Act.all_nil_run, Act.setF_f_at (valid_cellShadow g)]
    exact Nat.mod_eq_of_lt ((s.cellSetBad_lt hbad).trans_le (by decide))

/-! ### The hand-over -/

/-- What the cells take up at a hand-over, one after another: their modes, their voltages and their CELL.STATUS. -/
def CellsTaken (g : Grp) (s t : State) : Prop :=
  (∃ m v, t.cells[g] = { s.cells[g] with modes := m, volts := v }) ∧ NamesKept [.CELL_STATUS] s t

theorem CellsTaken.frame : Frame (CellsTaken g) where
  refl s := ⟨⟨_, _, rfl⟩, fun _ _ _ _ _ => rfl⟩
  trans := by
    rintro s t u ⟨⟨m, v, h⟩, hr⟩ ⟨⟨m', v', h'⟩, hr'⟩
    exact ⟨⟨m', v', by rw [h', h]⟩, fun n i j k hn => (hr' n i j k hn).trans (hr n i j k hn)⟩

theorem CellsTaken.of_within {a : Act} (h : Within [.CELL_STATUS] [] [] a) (t : State) : CellsTaken g t (a.run t) :=
  ⟨⟨_, _, by rw [(h t).parts .cells (by decide)]⟩, (h t).namesKept⟩

theorem CellsTaken.setModes (m : CellsSt → Vector CellMode 12) : (Act.setCells g fun x => { x with modes := m x }).Keeps (CellsTaken g) := fun _ =>
  ⟨⟨_, _, Act.setCells_same _ _⟩, fun _ _ _ _ _ => rfl⟩

theorem CellsTaken.setVolts (m : CellsSt → Vector CellVolts 12) : (Act.setCells g fun x => { x with volts := m x }).Keeps (CellsTaken g) := fun _ =>
  ⟨⟨_, _, Act.setCells_same _ _⟩, fun _ _ _ _ _ => rfl⟩

theorem CellsTaken.fresh (c : Cell) : (Act.cellFresh g c).Keeps (CellsTaken g) := Act.keeps_look fun _ => .setVolts _

theorem CellsTaken.control (c : Cell) (l : Bool) : (Act.cellControl g c l).Keeps (CellsTaken g) :=
  Act.keeps_look fun _ => Act.keeps_all CellsTaken.frame ⟨CellsTaken.of_within .setB, .setModes _⟩

theorem CellsTaken.active (on : Bool) : (Act.cellsActive g on).Keeps (CellsTaken g) :=
  Act.keeps_each CellsTaken.frame _ fun _ => Act.keeps_look fun _ => Act.keeps_all CellsTaken.frame ⟨CellsTaken.of_within .setB, .control _ _⟩

theorem CellsTaken.word {t : State} (h : CellsTaken g s t) {shadow mirror : RegName} (i k : Nat) (hs : shadow ≠ .CELL_STATUS := by decide)
    (hm : mirror ≠ .CELL_STATUS := by decide) : t.cellWord g shadow mirror i k = s.cellWord g shadow mirror i k := by
  obtain ⟨⟨m, v, hcells⟩, hregs⟩ := h
  rw [State.cellWord, State.cellWord, hcells, hregs _ _ _ _ (by simpa using hs), hregs _ _ _ _ (by simpa using hm)]

theorem CellsTaken.func {t : State} (h : CellsTaken g s t) (c : Nat) : t.cellFunc g c = s.cellFunc g c := congrArg _ (h.word c 0)

theorem CellsTaken.activeOne (on : Bool) (d : Cell) (u : State) : CellsTaken g u ((Act.all [.setB F.CELL_STATUS_ACTIVE (on && u.cellFunc g d != 0) g d,
    .cellControl g d (u.cellSource g d)]).run u) := by
  have hkeeps : (Act.all [.setB F.CELL_STATUS_ACTIVE (on && u.cellFunc g d != 0) g d, .cellControl g d (u.cellSource g d)]).Keeps (CellsTaken g) :=
    Act.keeps_all CellsTaken.frame ⟨CellsTaken.of_within .setB, .control _ _⟩
  exact hkeeps u

/-- R165: the cell shows whether it has a function. -/
def ActiveShown (g : Grp) (on : Bool) (c : Cell) (t : State) : Prop := t.b F.CELL_STATUS_ACTIVE g c = (on && t.cellFunc g c != 0)

theorem Act.cellsActive_shows (on : Bool) : (Act.cellsActive g on).Brings (ActiveShown g on c) := by
  have hcontrol : ∀ d l (u : State), ((Act.cellControl g d l).run u).b F.CELL_STATUS_ACTIVE g c = u.b F.CELL_STATUS_ACTIVE g c := fun d l u =>
    Leaves.b (by exact .look fun _ => .all ⟨.setB, .upd fun _ => rfl⟩) u g c 0
  refine Act.brings_each_at (x := c) (List.mem_finRange c) (fun u => ?_) (fun d hd u hu => ?_)
  · have htaken := CellsTaken.activeOne (g := g) on c u
    rw [Act.look_run, ActiveShown, htaken.func, Act.all_cons_run, Act.all_cons_run, Act.all_nil_run, hcontrol]
    simp +decide
  · have htaken := CellsTaken.activeOne (g := g) on d u
    rw [Act.look_run, ActiveShown, htaken.func, Act.all_cons_run, Act.all_cons_run, Act.all_nil_run, hcontrol, ← hu]
    exact congrArg (· == 1) (Act.setF_f_inst _ _ _ _ _ _ _ _ _ _ fun h => hd (Fin.ext h.2.1))

/-- R161: the set takes effect, before the cells take it up. -/
def Act.setTaken (g : Grp) (old : State) : Act := .setCells g fun x => { x with
  handed := true, takenAt := old.clk, connected := false, sck := Vector.replicate 4 0
  held := Vector.ofFn fun t => x.held[t] || decide (old.r .CELL_TRACK g t ≠ old.trackWord g t) }

/-- R162: the cells whose FUNC changes start afresh. -/
def Act.cellsFresh (g : Grp) (old : State) : Act := .each (List.finRange 12) fun c =>
  .when (decide (F.CELL_CFG_FUNC.of (old.r .CELL_CFG g c) ≠ old.cellFunc g c)) (.cellFresh g c)

theorem CellsTaken.allFresh (old : State) : (Act.cellsFresh g old).Keeps (CellsTaken g) :=
  Act.keeps_each CellsTaken.frame _ fun c => Act.keeps_when CellsTaken.frame (CellsTaken.fresh c)

/-- A cell's voltages are those of a function that starts. -/
def StartsAfresh (g : Grp) (c : Cell) (t : State) : Prop :=
  t.cells[g].volts[c] = .rest (if t.cellFunc g c = 2 then t.cellInit g c else 0)

theorem Act.cellFresh_volts (c d : Cell) (s : State) : ((Act.cellFresh g d).run s).cells[g].volts[c] =
    if d = c then .rest (if s.cellFunc g d = 2 then s.cellInit g d else 0) else s.cells[g].volts[c] := by
  rw [Act.cellFresh, Act.look_run, Act.setCells_same]
  simp only [Fin.getElem_fin, Vector.getElem_set, Fin.ext_iff]

theorem Act.cellsFresh_changed (old : State) (h : F.CELL_CFG_FUNC.of (old.r .CELL_CFG g c) ≠ old.cellFunc g c) :
    (Act.cellsFresh g old).Brings (StartsAfresh g c) := by
  have hinit : ∀ d (u : State), ((Act.cellFresh g d).run u).cellInit g c = u.cellInit g c := fun d u =>
    congrArg (fun w => levelVolts (F.CELL_INIT_INIT.of w)) ((CellsTaken.fresh d u).word c 0)
  refine Act.brings_each_at (x := c) (List.mem_finRange c) (fun u => ?_) (fun d hd u hu => ?_)
  · rw [decide_eq_true h, Act.when_true_run, StartsAfresh, Act.cellFresh_volts, if_pos rfl, (CellsTaken.fresh c u).func, hinit]
  · rw [Act.when_run]
    split
    · rw [StartsAfresh, Act.cellFresh_volts, if_neg hd, (CellsTaken.fresh d u).func, hinit, hu]
    · exact hu

theorem Act.cellsFresh_same (old : State) (h : F.CELL_CFG_FUNC.of (old.r .CELL_CFG g c) = old.cellFunc g c) :
    (Act.cellsFresh g old).Keeps fun s t => t.cells[g].volts[c] = s.cells[g].volts[c] := by
  have hframe : Frame fun s t : State => t.cells[g].volts[c] = s.cells[g].volts[c] := ⟨fun _ => rfl, fun h1 h2 => Eq.trans h2 h1⟩
  refine Act.keeps_each hframe _ fun d u => ?_
  rw [Act.when_run]
  split
  · next hd =>
    have hne : d ≠ c := by rintro rfl; exact of_decide_eq_true hd h
    rw [Act.cellFresh_volts, if_neg hne]
  · rfl

theorem Act.cellsActive_volts (on : Bool) : (Act.cellsActive g on).Keeps fun s t => t.cells[g].volts = s.cells[g].volts := by
  have hframe : Frame fun s t : State => t.cells[g].volts = s.cells[g].volts := ⟨fun _ => rfl, fun h1 h2 => Eq.trans h2 h1⟩
  have hset : ∀ {w : Bool} {d : Cell}, (Act.setB F.CELL_STATUS_ACTIVE w g d).Keeps fun s t => t.cells[g].volts = s.cells[g].volts :=
    fun _ => by simp only [Act.setB_cells]
  refine Act.keeps_each hframe _ fun d => Act.keeps_look fun _ => Act.keeps_all hframe ⟨hset, fun u => ?_⟩
  show ((Act.cellControl g d _).run u).cells[g].volts = u.cells[g].volts
  rw [Act.cellControl_run, Act.all_cons_run, Act.all_cons_run, Act.all_nil_run, Act.setCells_same, Act.setB_cells]

theorem Act.cellTake_run (s : State) : (Act.cellTake g).run s =
    (Act.look fun u => .cellsActive g (u.alive g)).run ((Act.cellsFresh g s).run ((Act.setTaken g s).run s)) := by
  simp only [Act.cellTake, Act.look_run, Act.all_cons_run, Act.all_nil_run, Act.setTaken, Act.cellsFresh]

theorem cellHandover_answers (hedge : s.cellEdge g = true) : Answers (.cellHandover g) s fun t =>
    t.cells[g].handed = true ∧ t.cells[g].connected = false ∧ t.cells[g].takenAt = s.clk ∧ t.cells[g].sck = Vector.replicate 4 0 ∧
    (∀ k : Fin 24, t.cells[g].held[k] = (s.cells[g].held[k] || decide (s.r .CELL_TRACK g k ≠ s.trackWord g k))) ∧
    (∀ c : Cell, t.cells[g].volts[c] =
      if F.CELL_CFG_FUNC.of (s.r .CELL_CFG g c) = s.cellFunc g c then s.cells[g].volts[c]
      else .rest (if F.CELL_CFG_FUNC.of (s.r .CELL_CFG g c) = 2 then levelVolts (s.f F.CELL_INIT_INIT g c) else 0)) ∧
    (∀ c : Cell, t.b F.CELL_STATUS_ACTIVE g c = (F.CELL_CFG_FUNC.of (s.r .CELL_CFG g c) != 0)) ∧
    NamesKept [.CELL_STATUS] s t ∧ t = { s with regs := t.regs, cells := t.cells } := by
  have halive : s.alive g = true := by
    simp only [State.cellEdge, State.cellWaits, Bool.and_eq_true] at hedge
    exact hedge.1.1.1.1
  have htake := Within.cellTake (g := g) s
  have hset : ((Act.setTaken g s).run s).cells[g] = _ := Act.setCells_same _ s
  have hword : ∀ {shadow mirror : RegName} (i : Nat), ((Act.setTaken g s).run s).cellWord g shadow mirror i = s.r shadow g i := fun i => by
    rw [State.cellWord, hset, if_pos rfl]; rfl
  have hfresh := CellsTaken.allFresh (g := g) s ((Act.setTaken g s).run s)
  set u := (Act.cellsFresh g s).run ((Act.setTaken g s).run s) with hu
  have hin : Within [] [] [.cells] (.all [.setTaken g s, .cellsFresh g s]) := .all ⟨.setCells, .each fun _ => .when (.look fun _ => .setCells)⟩
  have hualive : u.alive g = true := by rw [State.alive, show u.pwr = s.pwr from (hin s).parts .pwr (by decide)]; exact halive
  have hactive := CellsTaken.active (g := g) true u
  obtain ⟨m, w, hcells⟩ := (CellsTaken.frame.trans hfresh hactive).1
  have hrun : (Act.cellTake g).run s = (Act.cellsActive g true).run u := by rw [Act.cellTake_run, Act.look_run, ← hu, hualive]
  refine ⟨_, rfl, ?_⟩
  rw [Act.cellHandover, Act.look_run, hedge, Act.when_true_run]
  refine ⟨?_, ?_, ?_, ?_, fun k => ?_, fun c => ?_, fun c => ?_, htake.namesKept, htake.rest⟩
  all_goals rw [hrun]
  · rw [hcells, hset]
  · rw [hcells, hset]
  · rw [hcells, hset]
  · rw [hcells, hset]
  · rw [hcells, hset]
    simp
  · rw [Act.cellsActive_volts]
    split
    · next h => rw [hu, Act.cellsFresh_same s h, hset]
    · next h =>
      have hstart : StartsAfresh g c u := Act.cellsFresh_changed s h _
      rw [hstart, hfresh.func, State.cellInit, hfresh.word, State.cellFunc, State.cellCfg, hword, hword]
      rfl
  · have hshown : ActiveShown g true c ((Act.cellsActive g true).run u) := Act.cellsActive_shows true u
    rw [hshown, hactive.func, hfresh.func, State.cellFunc, State.cellCfg, hword, Bool.true_and]

theorem trackDriverConnect_answers (hdue : s.cells[g].takenAt + 33 ≤ s.clk) : Answers (.trackDriverConnect g) s fun t =>
    t.cells[g].connected = true ∧ t.cells[g].held = Vector.replicate 24 false ∧ t = { s with cells := t.cells } := by
  have hrun : (Act.trackConnect g).run s = (Act.setCells g fun x => { x with connected := true, held := Vector.replicate 24 false }).run s := by
    rw [Act.trackConnect, Act.look_run, decide_eq_true hdue, Act.when_true_run]
  refine ⟨_, rfl, ?_⟩
  rw [hrun]
  refine ⟨?_, ?_, rfl⟩
  all_goals rw [Act.setCells_same]

/-! ### The report -/

/-- A write of another instance of any register leaves a register. -/
theorem Act.setR_r_other {m n : RegName} {i j k i' j' k' : Nat} (h : ¬ (i = i' ∧ j = j' ∧ k = k')) (s : State) :
    ((Act.setR m v i j k).run s).r n i' j' k' = s.r n i' j' k' := by
  rw [Act.setR_r, if_neg]
  intro e
  exact h (RegRef.mk.inj e.2).2

/-- What the action for one member brings about, and those for the other members keep, holds at the end. -/
theorem Act.brings_each_member {R : State → Prop} {α : Type} {l : List α} {f : α → Act} {x : α} (hx : x ∈ l) (hf : (f x).Brings R)
    (keep : ∀ y ∈ l, y ≠ x → ∀ s, R s → R ((f y).run s)) : (Act.each l f).Brings R := by
  have hstep : ∀ y ∈ l, ∀ s, R s → R ((f y).run s) := fun y hy s h => by
    by_cases hyx : y = x
    · exact hyx ▸ hf s
    · exact keep y hy hyx s h
  induction l with
  | nil => exact absurd hx List.not_mem_nil
  | cons y l ih =>
    intro s
    rw [Act.each_cons_run]
    rcases List.mem_cons.mp hx with rfl | hmem
    · have hkept : (Act.each l f).Keeps fun s t => R s → R t :=
        Act.keeps_each_mem ⟨fun _ h => h, fun h1 h2 h => h2 (h1 h)⟩ fun z hz s => hstep z (List.mem_cons_of_mem _ hz) s
      exact hkept _ (hf s)
    · exact ih hmem (fun z hz => keep z (List.mem_cons_of_mem _ hz)) (fun z hz => hstep z (List.mem_cons_of_mem _ hz)) _

/-- The words of one cell go to the mirror. -/
def Act.mirrorCell (s : State) (g : Grp) (c : Nat) : Act := .all [
  .each cellWords fun w => .setR w.2 (s.r w.1 g c) g c, .each (List.range 3) fun k => .setR .CELLM_IN (s.r .CELL_IN g c k) g c k]

/-- The words of other cells leave those of a cell. -/
theorem Act.mirrorCell_other {m : RegName} {c y k : Nat} (hy : y ≠ c) : (Act.mirrorCell s g y).Keeps fun t u => u.r m g c k = t.r m g c k := by
  have hframe : Frame fun t u : State => u.r m g c k = t.r m g c k := ⟨fun _ => rfl, fun h1 h2 => Eq.trans h2 h1⟩
  exact Act.keeps_all hframe ⟨Act.keeps_each hframe _ fun _ _ => Act.setR_r_other (fun h => hy h.2.1) _,
    Act.keeps_each hframe _ fun _ _ => Act.setR_r_other (fun h => hy h.2.1) _⟩

theorem valid_cellWord {w : RegName × RegName} (hw : w ∈ cellWords) (g : Grp) (c : Cell) :
    RegRef.valid ⟨w.1, g, c, 0⟩ = true ∧ RegRef.valid ⟨w.2, g, c, 0⟩ = true ∧ w.2.mask = w.1.mask ∧ w.2 ≠ .CELLM_IN := by
  simp only [cellWords, List.mem_cons, List.not_mem_nil, or_false] at hw
  rcases hw with rfl | rfl | rfl | rfl | rfl <;>
    exact ⟨RegRef.valid_of g.isLt c.isLt, RegRef.valid_of g.isLt c.isLt, rfl, by decide⟩

theorem cellWords_apart {w x : RegName × RegName} (hw : w ∈ cellWords) (hx : x ∈ cellWords) (h : x ≠ w) : x.2 ≠ w.2 := by
  have hall : ∀ w ∈ cellWords, ∀ x ∈ cellWords, x ≠ w → x.2 ≠ w.2 := by decide
  exact hall w hw x hx h

theorem Act.mirrorCells_word (hs : s.Wf) {w : RegName × RegName} (hw : w ∈ cellWords) (c : Cell) :
    (Act.each (List.range 12) (Act.mirrorCell s g)).Brings fun t => t.r w.2 g c = s.r w.1 g c := by
  obtain ⟨hvalid, hmirror, hmask, hin⟩ := valid_cellWord hw g c
  refine Act.brings_each_at (List.mem_range.mpr c.isLt) (fun t => ?_) fun y hy t ht => (Act.mirrorCell_other hy t).trans ht
  have htail : Within [.CELLM_IN] [] [] (.each (List.range 3) fun k => .setR .CELLM_IN (s.r .CELL_IN g c k) g c k) := .each fun _ => .setR
  rw [Act.mirrorCell, Act.all_cons_run, Act.all_cons_run, Act.all_nil_run, (htail _).r_eq g c 0 (by simpa using hin)]
  refine Act.brings_each_member (R := fun t => t.r w.2 g c = s.r w.1 g c) hw (fun t => ?_) (fun x hx hne t ht => ?_) t
  · exact (Act.setR_r_same _ _ _ _ _ _ hmirror).trans (by rw [hmask, hs.and_mask hvalid])
  · exact (Act.setR_r_ne _ _ _ _ _ _ _ _ _ _ (cellWords_apart hw hx hne)).trans ht

theorem Act.mirrorCells_in (hs : s.Wf) (c : Cell) {k : Nat} (hk : k < 3) :
    (Act.each (List.range 12) (Act.mirrorCell s g)).Brings fun t => t.r .CELLM_IN g c k = s.r .CELL_IN g c k := by
  refine Act.brings_each_at (List.mem_range.mpr c.isLt) (fun t => ?_) fun y hy t ht => (Act.mirrorCell_other hy t).trans ht
  rw [Act.mirrorCell, Act.all_cons_run, Act.all_cons_run, Act.all_nil_run]
  refine Act.brings_each_at (R := fun t => t.r .CELLM_IN g c k = s.r .CELL_IN g c k) (List.mem_range.mpr hk) (fun t => ?_) (fun x hx t ht => ?_) _
  · exact Act.setR_mirror hs (RegRef.valid_of g.isLt c.isLt hk) (RegRef.valid_of g.isLt c.isLt hk) t
  · exact (Act.setR_r_other (fun h => hx h.2.2) _).trans ht

/-- The tracks and the clocks of the set go to the mirror. -/
def Act.mirrorTracks (s : State) (g : Grp) : Act := .each (List.range 24) fun t => .setR .CELLM_TRACK (s.r .CELL_TRACK g t) g t
def Act.mirrorClocks (s : State) (g : Grp) : Act := .each (List.range 4) fun k => .setR .CELLM_SCK (s.r .CELL_SCK g k) g k

theorem Act.mirrorTracks_track (hs : s.Wf) {n : Nat} (hn : n < 24) :
    (Act.mirrorTracks s g).Brings fun t => t.r .CELLM_TRACK g n = s.r .CELL_TRACK g n :=
  Act.brings_each_at (List.mem_range.mpr hn)
    (fun t => Act.setR_mirror hs (RegRef.valid_of g.isLt hn) (RegRef.valid_of g.isLt hn) t)
    (fun _ hx _ ht => (Act.setR_r_other (fun h => hx h.2.1) _).trans ht)

theorem Act.mirrorClocks_clock (hs : s.Wf) {n : Nat} (hn : n < 4) :
    (Act.mirrorClocks s g).Brings fun t => t.r .CELLM_SCK g n = s.r .CELL_SCK g n :=
  Act.brings_each_at (List.mem_range.mpr hn)
    (fun t => Act.setR_mirror hs (RegRef.valid_of g.isLt hn) (RegRef.valid_of g.isLt hn) t)
    (fun _ hx _ ht => (Act.setR_r_other (fun h => hx h.2.1) _).trans ht)

/-- The set reopens. -/
def Act.setReopens (g : Grp) : Act := .all [
  .setCells g fun x => { x with handed := false }, .setB F.CELL_SHADOW_PENDING false g, .setB F.CELL_SHADOW_DONE true g]

theorem Act.setReopens_reopened (s : State) : let t := (Act.setReopens g).run s
    t.cells[g].handed = false ∧ t.b F.CELL_SHADOW_PENDING g = false ∧ t.b F.CELL_SHADOW_DONE g = true := by
  refine ⟨?_, ?_, ?_⟩
  · simp only [Act.setReopens, Act.all_cons_run, Act.all_nil_run, Act.setB_cells, Act.setCells_same]
  all_goals simp +decide [Act.setReopens, State.b]

theorem Within.mirrorTracks : Within [.CELLM_TRACK] [] [] (.mirrorTracks s g) := .each fun _ => .setR
theorem Within.mirrorClocks : Within [.CELLM_SCK] [] [] (.mirrorClocks s g) := .each fun _ => .setR
theorem Within.setReopens : Within [.CELL_SHADOW] [] [.cells] (.setReopens g) := .all ⟨.setCells, .setB, .setB⟩

theorem Act.cellReported_run (hhanded : s.cells[g].handed = true) (hdue : s.cells[g].takenAt + 12 ≤ s.clk) : (Act.cellReported g).run s =
    (Act.setReopens g).run ((Act.mirrorClocks s g).run ((Act.mirrorTracks s g).run ((Act.each (List.range 12) (Act.mirrorCell s g)).run s))) := by
  rw [Act.cellReported, Act.look_run, hhanded, decide_eq_true hdue, Bool.and_self, Act.when_true_run]
  rfl

theorem cellHandoverReported_answers (hs : s.Wf) (hhanded : s.cells[g].handed = true) (hdue : s.cells[g].takenAt + 12 ≤ s.clk) :
    Answers (.cellHandoverReported g) s fun t =>
    (∀ c : Cell, t.r .CELLM_CFG g c = s.r .CELL_CFG g c ∧ t.r .CELLM_FB g c = s.r .CELL_FB g c ∧
      t.r .CELLM_PARAM g c = s.r .CELL_PARAM g c ∧ t.r .CELLM_INIT g c = s.r .CELL_INIT g c ∧ t.r .CELLM_SC g c = s.r .CELL_SC g c ∧
      ∀ k, k < 3 → t.r .CELLM_IN g c k = s.r .CELL_IN g c k) ∧
    (∀ n, n < 24 → t.r .CELLM_TRACK g n = s.r .CELL_TRACK g n) ∧ (∀ k, k < 4 → t.r .CELLM_SCK g k = s.r .CELL_SCK g k) ∧
    t.cells[g].handed = false ∧ t.b F.CELL_SHADOW_PENDING g = false ∧ t.b F.CELL_SHADOW_DONE g = true := by
  have hkept : ∀ (u : State) {n : RegName} (j k : Nat), n ∉ [RegName.CELLM_TRACK, .CELLM_SCK, .CELL_SHADOW] →
      ((Act.setReopens g).run ((Act.mirrorClocks s g).run ((Act.mirrorTracks s g).run u))).r n g j k = u.r n g j k := fun u n j k hn => by
    have hn' := hn
    simp only [List.mem_cons, List.not_mem_nil, or_false, not_or] at hn'
    obtain ⟨htrack, hclock, hshadow⟩ := hn'
    rw [(Within.setReopens _).r_eq g j k (by simpa using hshadow), (Within.mirrorClocks _).r_eq g j k (by simpa using hclock),
      (Within.mirrorTracks _).r_eq g j k (by simpa using htrack)]
  have hword : ∀ w ∈ cellWords, ∀ c : Cell, ((Act.setReopens g).run ((Act.mirrorClocks s g).run ((Act.mirrorTracks s g).run
      ((Act.each (List.range 12) (Act.mirrorCell s g)).run s)))).r w.2 g c = s.r w.1 g c := fun w hw c =>
    (hkept _ c 0 (by revert w; decide)).trans (Act.mirrorCells_word hs hw c s)
  refine ⟨_, rfl, ?_⟩
  rw [Act.cellReported_run hhanded hdue]
  refine ⟨fun c => ⟨hword (.CELL_CFG, .CELLM_CFG) (by decide) c, hword (.CELL_FB, .CELLM_FB) (by decide) c,
    hword (.CELL_PARAM, .CELLM_PARAM) (by decide) c, hword (.CELL_INIT, .CELLM_INIT) (by decide) c, hword (.CELL_SC, .CELLM_SC) (by decide) c,
    fun k hk => (hkept _ c k (by decide)).trans (Act.mirrorCells_in hs c hk s)⟩, fun n hn => ?_, fun k hk => ?_, Act.setReopens_reopened _⟩
  · rw [(Within.setReopens _).r_eq g n 0, (Within.mirrorClocks _).r_eq g n 0]
    exact Act.mirrorTracks_track hs hn _
  · rw [(Within.setReopens _).r_eq g k 0]
    exact Act.mirrorClocks_clock hs hk _

/-- Settles O18. -/
theorem cellSet : Obligations.CellSet := by
  unfold Obligations.CellSet
  intro s src g v
  exact ⟨fun hw hpend => ⟨cellCommit_answers hw hpend, fun _ => cellCommit_invalid hw hpend⟩, cellHandover_answers, trackDriverConnect_answers,
    cellHandoverReported_answers⟩

end Sys2Proof.Machine
end

section
-- One proof after another: elaborated side by side, the proofs of the whole text do not fit in the check's memory.
set_option Elab.async false
/-! The outputs: what a write of VALUE, CFG or NV and the steps of a range change leave (R293 to R301, R308). -/

namespace Sys2Proof.Machine

variable {s : State} {src : Src} {g : Grp} {o : Out} {v : Word}

/-! ### Mirrored writes -/

/-- R438, R440: what an active partner queues for its standby. -/
def Act.mirrorLater (off : Nat) (v : Word) : Act :=
  .upd fun s => { s with pair := { s.pair with mirrorQ := s.pair.mirrorQ ++ [(BitVec.ofNat 24 off, v)] } }

theorem Act.mirrored_run {off : Nat} {a : Act} (h : s.standby = false) : (Act.mirrored src off v a).run s =
    (Act.when (s.pairRole == 1 && (a.run s).resp != .error) (.mirrorLater off v)).run (a.run s) := by
  rw [Act.mirrored, Act.look_run, h, Bool.false_and, if_neg Bool.false_ne_true, Act.andThen_run, Act.look_run]
  rfl

theorem Within.mirrorLater {l : List RegName} {rs : List RegRef} {ps : List Part} {off : Nat} (h : Part.pair ∈ ps := by decide) :
    Within l rs ps (.mirrorLater off v) := .updPart .pair (fun _ => rfl) (fun _ => rfl) h

/-- A write that is taken and mirrored: what the register's own rule does, and perhaps a queue entry. -/
theorem mirrored_taken {n : RegName} {i j k off : Nat} (hw : s.takesReg src n i j k) (hstandby : s.standby = false) {a : Act} {d : DWord}
    (hok : (a.run s).resp = .ok d) : ∃ c : Bool, (Act.writeTo src n i j k (.mirrored src off v a)).run s =
      (Act.when c (.mirrorLater off v)).run (a.run s) := by
  have hrun := Act.mirrored_run (src := src) (v := v) (off := off) (a := a) hstandby
  refine ⟨_, (Act.writeTo_accepted (d := d) hw ?_).trans hrun⟩
  rw [hrun, Act.when_run]
  split <;> exact hok

theorem mirrored_refused {n : RegName} {i j k off : Nat} (hw : s.takesReg src n i j k) (hstandby : s.standby = false) {a : Act} {f : Fld}
    {i' j' : Nat} (ha : a.run s = (Act.refuse f i' j').run s) (hv : RegRef.valid ⟨f.name, i', j', 0⟩ = true) (hm : f.inMask = true := by decide)
    (hf : f.name ≠ .FAB_PORT_ERR := by decide) : Refused f i' j' s ((Act.writeTo src n i j k (.mirrored src off v a)).run s) := by
  refine Act.writeTo_refused hw ?_ hv hm hf
  rw [Act.mirrored_run hstandby, ha]
  exact congrArg (fun c => (Act.when c (.mirrorLater off v)).run ((Act.refuse f i' j').run s)) (Bool.and_false _)

/-- R440: a standby takes no write but from its partner. -/
theorem mirrored_standby {n : RegName} {i j k off : Nat} (hw : s.takesReg src n i j k) (hstandby : s.standby = true) (hsrc : src ≠ .pair) (a : Act) :
    let t := (Act.writeTo src n i j k (.mirrored src off v a)).run s
    t.resp = .ok 0 ∧ Counted F.PAIR_COUNTS_DISCARDED s t ∧ RegsKept [⟨.PAIR_COUNTS, 0, 0, 0⟩] s t ∧ OnlyRegs s t := by
  have hrun : (Act.mirrored src off v a).run s = (Act.all [.count F.PAIR_COUNTS_DISCARDED, .accept]).run s := by
    rw [Act.mirrored, Act.look_run, hstandby, bne_iff_ne.mpr hsrc, Bool.and_self, if_pos rfl]
  have hin : Within [] [⟨.PAIR_COUNTS, 0, 0, 0⟩] [.resp] (.all [.count F.PAIR_COUNTS_DISCARDED, .accept]) := .all ⟨.countAt, .accept⟩
  intro t
  rw [show t = _ from (Act.writeTo_accepted (d := 0) hw (by rw [hrun]; rfl)).trans hrun]
  refine ⟨rfl, ?_, (hin s).regsKept, (hin s).rest⟩
  simp +decide [Counted]

/-! ### An output follows its registers -/

theorem Act.setOut_same (f : OutSt → OutSt) (s : State) : ((Act.setOut g o f).run s).out g o = f (s.out g o) :=
  (Act.setOut_out g o f s g o).trans (if_pos ⟨rfl, rfl⟩)

theorem Touches.out {l : List RegName} {rs : List RegRef} {ps : List Part} {s t : State} (h : Touches l rs ps s t) (g : Grp) (o : Out)
    (hp : Part.outs ∉ ps := by decide) : t.out g o = s.out g o := by
  rw [State.out, h.parts .outs hp]
  rfl

@[simp] theorem Act.setR_out {m : RegName} {i j k : Nat} : ((Act.setR m v i j k).run s).out g o = s.out g o := by rw [State.out, Act.setR_outs]; rfl
@[simp] theorem Act.setF_out {f : Fld} {x i j k : Nat} : ((Act.setF f x i j k).run s).out g o = s.out g o := Act.setR_out
@[simp] theorem Act.setB_out {f : Fld} {x : Bool} {i j k : Nat} : ((Act.setB f x i j k).run s).out g o = s.out g o := Act.setR_out

/-- The registers and the range that an output shows. -/
def Act.outShow (g : Grp) (o : Out) : Act := .look fun s => .all [
  .setB F.DAC_STATUS_RANGE_PEND
    (s.alive g && (s.out g o).phase == 0 && s.f F.DAC_CFG_RANGE g o != s.f F.DAC_STATUS_RANGE_NOW g o) g o,
  .setB F.DAC_STATUS_GATE_CLOSED (!s.gateOpen g o) g o,
  .when (s.outShows g o != (s.out g o).shown) (.setOut g o fun x => { x with shown := s.outShows g o, changed := s.clk })]

theorem Act.outUpdate_run (s : State) : (Act.outUpdate g o).run s = (Act.outShow g o).run ((Act.rangeGo g o).run ((Act.outSync g o).run s)) := by
  have heq : Act.outUpdate g o = .all [.outSync g o, .rangeGo g o, .outShow g o] := rfl
  rw [heq, Act.all_cons_run, Act.all_cons_run, Act.all_cons_run, Act.all_nil_run]

theorem Within.outSync : Within [] [] [.outs] (.outSync g o) := .look fun _ => .when .setOut

theorem Within.rangeGo : Within [] [⟨.DAC_STATUS, g, o, 0⟩] [.outs] (.rangeGo g o) := .look fun _ => .ite (.all ⟨.setOut, .setBAt⟩) .skip

theorem Within.outShow : Within [] [⟨.DAC_STATUS, g, o, 0⟩] [.outs] (.outShow g o) := .look fun _ => .all ⟨.setBAt, .setBAt, .when .setOut⟩

theorem Within.outUpdate : Within [] [⟨.DAC_STATUS, g, o, 0⟩] [.outs] (.outUpdate g o) := .all ⟨Within.outSync.mono, Within.rangeGo, Within.outShow⟩

/-- The fields of DAC.STATUS that an update writes. -/
def Fld.outsideUpdate (f : Fld) : Bool :=
  F.DAC_STATUS_RANGE_PEND.spares f && F.DAC_STATUS_GATE_CLOSED.spares f && F.DAC_STATUS_RANGE_BUSY.spares f && f.inMask

theorem Leaves.outUpdate {f : Fld} (h : f.outsideUpdate = true := by decide) : Leaves f (.outUpdate g o) := by
  simp only [Fld.outsideUpdate, Bool.and_eq_true] at h
  obtain ⟨⟨⟨hpend, hgate⟩, hbusy⟩, hm⟩ := h
  exact .all ⟨.look fun _ => .when (.upd fun _ => rfl), .look fun _ => .ite (.all ⟨.upd fun _ => rfl, .setB hbusy hm⟩) .skip,
    .look fun _ => .all ⟨.setB hpend hm, .setB hgate hm, .when (.upd fun _ => rfl)⟩⟩

section
variable {α : Type} (p : OutSt → α)

theorem Act.outSync_keeps (h : ∀ x w c, p { x with cfg := w, code := c } = p x) (s : State) :
    p (((Act.outSync g o).run s).out g o) = p (s.out g o) := by
  rw [Act.outSync, Act.look_run, Act.when_run]
  split
  · rw [Act.setOut_same, h]
  · rfl

theorem Act.outShow_keeps (h : ∀ x sh c, p { x with shown := sh, changed := c } = p x) (s : State) :
    p (((Act.outShow g o).run s).out g o) = p (s.out g o) := by
  rw [Act.outShow, Act.look_run, Act.all_cons_run, Act.all_cons_run, Act.all_cons_run, Act.all_nil_run, Act.when_run]
  split
  · rw [Act.setOut_same, h, Act.setB_out, Act.setB_out]
  · rw [Act.setB_out, Act.setB_out]

omit p in
theorem Act.outShow_out (s : State) : ∃ sh c, ((Act.outShow g o).run s).out g o = { s.out g o with shown := sh, changed := c } := by
  rw [Act.outShow, Act.look_run, Act.all_cons_run, Act.all_cons_run, Act.all_cons_run, Act.all_nil_run, Act.when_run]
  split
  · rw [Act.setOut_same, Act.setB_out, Act.setB_out]
    exact ⟨_, _, rfl⟩
  · rw [Act.setB_out, Act.setB_out]
    exact ⟨(s.out g o).shown, (s.out g o).changed, rfl⟩

theorem Act.rangeGo_keeps (h : ∀ x a b c, p { x with phase := a, from_ := b, target := c } = p x) (s : State) :
    p (((Act.rangeGo g o).run s).out g o) = p (s.out g o) := by
  simp only [Act.rangeGo, Act.look_run]
  split
  · rw [Act.all_cons_run, Act.all_cons_run, Act.all_nil_run, Act.setB_out, Act.setOut_same, h]
  · rfl

theorem Act.outUpdate_keeps (hsync : ∀ x w c, p { x with cfg := w, code := c } = p x)
    (hrange : ∀ x a b c, p { x with phase := a, from_ := b, target := c } = p x)
    (hshow : ∀ x sh c, p { x with shown := sh, changed := c } = p x) (s : State) :
    p (((Act.outUpdate g o).run s).out g o) = p (s.out g o) := by
  rw [Act.outUpdate_run, Act.outShow_keeps p hshow, Act.rangeGo_keeps p hrange, Act.outSync_keeps p hsync]

end

theorem Act.rangeGo_still (h : (s.out g o).phase ≠ 0 ∨ s.f F.DAC_CFG_RANGE g o = s.f F.DAC_STATUS_RANGE_NOW g o) : (Act.rangeGo g o).run s = s := by
  have hcond : (s.alive g && s.released && !s.outHeld g o && (s.out g o).phase == 0 && s.f F.DAC_CFG_RANGE g o != s.f F.DAC_STATUS_RANGE_NOW g o) = false := by
    rcases h with h | h
    · rw [beq_false_of_ne h, Bool.and_false, Bool.false_and]
    · rw [h, bne_self_eq_false, Bool.and_false]
  simp only [Act.rangeGo, Act.look_run, hcond, Bool.false_eq_true, if_false, Act.skip_run]

/-- No range change starts at the update. -/
theorem Act.outUpdate_still (h : (s.out g o).phase ≠ 0 ∨ s.f F.DAC_CFG_RANGE g o = s.f F.DAC_STATUS_RANGE_NOW g o) :
    (Act.outUpdate g o).run s = (Act.outShow g o).run ((Act.outSync g o).run s) := by
  have hsync := Within.outSync (g := g) (o := o) s
  rw [Act.outUpdate_run, Act.rangeGo_still]
  rcases h with h | h
  · exact .inl (by rw [Act.outSync_keeps OutSt.phase fun _ _ _ => rfl]; exact h)
  · exact .inr ((hsync.f_eq g o 0).trans (h.trans (hsync.f_eq g o 0).symm))

theorem Act.outUpdate_phase (h : (s.out g o).phase ≠ 0 ∨ s.f F.DAC_CFG_RANGE g o = s.f F.DAC_STATUS_RANGE_NOW g o) :
    (((Act.outUpdate g o).run s).out g o).phase = (s.out g o).phase := by
  rw [Act.outUpdate_still h, Act.outShow_keeps OutSt.phase fun _ _ _ => rfl, Act.outSync_keeps OutSt.phase fun _ _ _ => rfl]

theorem Act.outUpdate_busy (h : (s.out g o).phase ≠ 0 ∨ s.f F.DAC_CFG_RANGE g o = s.f F.DAC_STATUS_RANGE_NOW g o) :
    ((Act.outUpdate g o).run s).b F.DAC_STATUS_RANGE_BUSY g o = s.b F.DAC_STATUS_RANGE_BUSY g o := by
  have hshow : Leaves F.DAC_STATUS_RANGE_BUSY (.outShow g o) := .look fun _ => .all ⟨.setB, .setB, .when (.upd fun _ => rfl)⟩
  rw [Act.outUpdate_still h, hshow.b, (Within.outSync s).b_eq g o 0]

/-- R298: an output that nothing holds takes its VALUE. -/
theorem Act.outUpdate_code (hheld : s.outHeld g o = false) (hphase : (s.out g o).phase = 0) :
    (((Act.outUpdate g o).run s).out g o).code = BitVec.ofNat 16 (s.f F.DAC_VALUE_CODE g o) := by
  have hsync : (Act.outSync g o).run s = (Act.setOut g o fun x => { x with
      cfg := s.r .DAC_CFG g o, code := BitVec.ofNat 16 (s.f F.DAC_VALUE_CODE g o) }).run s := by
    simp only [Act.outSync, Act.look_run, hheld, hphase, Bool.not_false]
    exact Act.when_true_run _ _
  rw [Act.outUpdate_run, Act.outShow_keeps OutSt.code fun _ _ _ => rfl, Act.rangeGo_keeps OutSt.code fun _ _ _ _ => rfl, hsync, Act.setOut_same]

/-- R300: what the gate depends on. -/
theorem State.gateOpen_congr {t : State} (hpwr : t.pwr = s.pwr) (hpair : t.pair = s.pair)
    (hout : ∃ sh c, t.out g o = { s.out g o with shown := sh, changed := c }) (hrole : t.r .SYS_MODE_EFF = s.r .SYS_MODE_EFF)
    (hnv : t.r .DAC_NV g o = s.r .DAC_NV g o)
    (hstatus : ∀ f ∈ [F.DAC_STATUS_FAULT_HOLD, F.DAC_STATUS_NV_HOLD, F.DAC_STATUS_RANGE_NOW], t.f f g o = s.f f g o) :
    t.gateOpen g o = s.gateOpen g o := by
  obtain ⟨sh, c, hout⟩ := hout
  have hfault := hstatus F.DAC_STATUS_FAULT_HOLD (by simp)
  have hhold := hstatus F.DAC_STATUS_NV_HOLD (by simp)
  have hnow := hstatus F.DAC_STATUS_RANGE_NOW (by simp)
  have hfaultOpen : t.b F.DAC_NV_FAULT_OPEN g o = s.b F.DAC_NV_FAULT_OPEN g o := congrArg (fun w => F.DAC_NV_FAULT_OPEN.of w == 1) hnv
  have hnvOpen : t.b F.DAC_NV_PU_OPEN g o = s.b F.DAC_NV_PU_OPEN g o := congrArg (fun w => F.DAC_NV_PU_OPEN.of w == 1) hnv
  have hstandby : t.standby = s.standby := congrArg (fun w => decide (2 ≤ F.SYS_MODE_EFF_PAIR_ROLE.of w)) hrole
  have hfaultHold : t.faultHold g o = s.faultHold g o := congrArg (· == 1) hfault
  have hnvHold : t.nvHold g o = s.nvHold g o := congrArg (· == 1) hhold
  simp only [State.gateOpen, State.alive, hpwr, hpair, hout, hstandby, State.holdOpen, hfaultHold, hnvHold, hnow, hfaultOpen, hnvOpen]

/-- R300: an update shows the gate. -/
theorem Act.outUpdate_gate (s : State) : let t := (Act.outUpdate g o).run s
    t.b F.DAC_STATUS_GATE_CLOSED g o = !t.gateOpen g o := by
  intro t
  rw [show t = _ from Act.outUpdate_run s]
  generalize (Act.rangeGo g o).run ((Act.outSync g o).run s) = u
  have hkept : ∀ f ∈ [F.DAC_STATUS_FAULT_HOLD, F.DAC_STATUS_NV_HOLD, F.DAC_STATUS_RANGE_NOW], ((Act.outShow g o).run u).f f g o = u.f f g o := by
    intro f hf
    have hl : ∀ f ∈ [F.DAC_STATUS_FAULT_HOLD, F.DAC_STATUS_NV_HOLD, F.DAC_STATUS_RANGE_NOW],
        F.DAC_STATUS_RANGE_PEND.spares f = true ∧ F.DAC_STATUS_GATE_CLOSED.spares f = true ∧ f.inMask = true := by decide
    obtain ⟨hpend, hgate, hm⟩ := hl f hf
    have hleft : Leaves f (.outShow g o) := .look fun _ => .all ⟨.setB hpend hm, .setB hgate hm, .when (.upd fun _ => rfl)⟩
    exact hleft u g o 0
  have hin := (Within.outShow (g := g) (o := o)).byName (l := [.DAC_STATUS]) (by simp) u
  rw [State.gateOpen_congr (hin.parts .pwr (by decide)) (hin.parts .pair (by decide)) ?_ (hin.r_eq 0 0 0) (hin.r_eq g o 0) hkept]
  · rw [Act.outShow, Act.look_run, Act.all_cons_run]
    refine (Act.all_b_head (by exact .all (.when (.upd fun _ => rfl)))).trans ?_
    simp +decide
  · exact Act.outShow_out u

/-! ### VALUE -/

/-- R295, R298: what a VALUE write does before the output follows. -/
def Act.valueEnds (g : Grp) (o : Out) : Act := .look fun s =>
  let endFault := s.faultHold g o && s.f F.DAC_STATUS_FAULT_BY g o == 0
  let endNv := s.nvHold g o && s.released && !s.mode reducedMode && s.alive g && (s.out g o).powered
  if s.parkHold g o then .setOut g o fun x => { x with endFault := x.endFault || endFault, endNv := x.endNv || endNv }
  else .all [.when endFault (.setB F.DAC_STATUS_FAULT_HOLD false g o), .when endNv (.setB F.DAC_STATUS_NV_HOLD false g o)]

theorem Act.dacValueWrite_run (s : State) : (Act.dacValueWrite g o v).run s = (Act.all [.accept,
    .judgeLater (.setpoint (g * 8 + o) (F.DAC_VALUE_CODE.of v))]).run ((Act.outUpdate g o).run ((Act.valueEnds g o).run ((Act.setR .DAC_VALUE v g o).run s))) := by
  simp only [Act.dacValueWrite, Act.dacValue, Act.all_cons_run, Act.all_nil_run, Act.valueEnds]

theorem Within.valueEnds : Within [] [⟨.DAC_STATUS, g, o, 0⟩] [.outs] (.valueEnds g o) :=
  .look fun _ => .ite .setOut (.all ⟨.when .setBAt, .when .setBAt⟩)

theorem Act.valueEnds_free (hheld : s.outHeld g o = false) : (Act.valueEnds g o).run s = s := by
  simp only [State.outHeld, Bool.or_eq_false_iff] at hheld
  obtain ⟨⟨hfault, hnv⟩, hpark⟩ := hheld
  simp only [Act.valueEnds, Act.look_run, hfault, hnv, hpark, Bool.false_and, Bool.false_eq_true, if_false, Act.all_cons_run, Act.all_nil_run,
    Act.when_false_run]

theorem Within.judgeLater {l : List RegName} {rs : List RegRef} {ps : List Part} {c : LimCase} (h : Part.lim ∈ ps := by decide) :
    Within l rs ps (.judgeLater c) := .setLim h

theorem valid_dacValue (g : Grp) (o : Out) : RegRef.valid ⟨.DAC_VALUE, g, o, 0⟩ = true := RegRef.valid_of g.isLt o.isLt

theorem dacValueWrite_answers (hw : s.takesReg src .DAC_VALUE g o) (hstandby : s.standby = false) : Answers (.dacValueWrite src g o v) s fun t =>
    t.resp = .ok 0 ∧ t.f F.DAC_VALUE_CODE g o = F.DAC_VALUE_CODE.of v ∧
    t.lim.due = s.lim.due ++ [.setpoint (g.val * 8 + o.val) (F.DAC_VALUE_CODE.of v)] ∧
    RegsKept [⟨.DAC_VALUE, g, o, 0⟩, ⟨.DAC_STATUS, g, o, 0⟩] s t ∧
    t = { s with regs := t.regs, outs := t.outs, lim := t.lim, pair := t.pair, resp := t.resp } ∧
    (s.outHeld g o = false → (s.out g o).phase = 0 → (t.out g o).code = BitVec.ofNat 16 (F.DAC_VALUE_CODE.of v)) := by
  obtain ⟨c, hrun⟩ := mirrored_taken (v := v) (off := RegRef.offset ⟨.DAC_VALUE, g, o, 0⟩) (d := 0) hw hstandby
    (a := Act.dacValueWrite g o v) (by rw [Act.dacValueWrite_run]; rfl)
  have hset : ((Act.setR .DAC_VALUE v g o).run s).f F.DAC_VALUE_CODE g o = F.DAC_VALUE_CODE.of v := Act.setR_f_at (valid_dacValue g o) v s
  have hfollow : Within [] [⟨.DAC_STATUS, g, o, 0⟩] [.outs] (.all [.valueEnds g o, .outUpdate g o]) := .all ⟨Within.valueEnds, Within.outUpdate⟩
  have hin : Within [] [⟨.DAC_VALUE, g, o, 0⟩, ⟨.DAC_STATUS, g, o, 0⟩] [.outs, .lim, .pair, .resp] (.all [.dacValueWrite g o v, .when c (.mirrorLater
      (RegRef.offset ⟨.DAC_VALUE, g, o, 0⟩) v)]) :=
    .all ⟨.all ⟨.all ⟨.setRAt, Within.valueEnds.mono, Within.outUpdate.mono, .accept⟩, .judgeLater⟩, .when .mirrorLater⟩
  have hend : Within [] [] [.lim, .pair, .resp] (.all [.accept, .judgeLater (.setpoint (g * 8 + o) (F.DAC_VALUE_CODE.of v)), .when c (.mirrorLater
      (RegRef.offset ⟨.DAC_VALUE, g, o, 0⟩) v)]) := .all ⟨.accept, .judgeLater, .when .mirrorLater⟩
  have hlast : Within [] [] [.pair] (.when c (.mirrorLater (RegRef.offset ⟨.DAC_VALUE, g, o, 0⟩) v)) := .when .mirrorLater
  refine ⟨_, rfl, ?_⟩
  rw [hrun, Act.dacValueWrite_run]
  generalize hu : (Act.setR .DAC_VALUE v g o).run s = u
  have hset' : Within [] [⟨.DAC_VALUE, g, o, 0⟩] [] (.setR .DAC_VALUE v g o) := .setRAt
  have htaken := hset'.byName (l := [.DAC_VALUE]) (by simp) s
  have hfollowed := hfollow.byName (l := [.DAC_STATUS]) (by simp) u
  have hended := hend ((Act.all [.valueEnds g o, .outUpdate g o]).run u)
  have hwhole := hin s
  rw [hu] at hset htaken
  simp only [Act.dacValueWrite_run, Act.all_cons_run, Act.all_nil_run, hu] at hwhole hended hfollowed ⊢
  refine ⟨(hlast _).parts .resp (by decide), ?code, ?due, hwhole.regsKept, hwhole.rest, fun hheld hphase => ?driven⟩
  case code => exact (hended.f_eq g o 0).trans ((hfollowed.f_eq g o 0).trans hset)
  case due =>
    have hlim : u.lim = s.lim := htaken.parts .lim (by decide)
    have hkept : ((Act.outUpdate g o).run ((Act.valueEnds g o).run u)).lim = u.lim := hfollowed.parts .lim (by decide)
    have hjudged : ∀ w : State, ((Act.judgeLater (.setpoint (g * 8 + o) (F.DAC_VALUE_CODE.of v))).run (Act.accept.run w)).lim.due =
        w.lim.due ++ [.setpoint (g.val * 8 + o.val) (F.DAC_VALUE_CODE.of v)] := fun _ => rfl
    rw [(hlast _).parts .lim (by decide), hjudged, hkept, hlim]
  case driven =>
    have hheld' : u.outHeld g o = false := by
      rw [State.outHeld, State.faultHold, State.nvHold, State.parkHold, htaken.b_eq g o 0, htaken.b_eq g o 0, htaken.b_eq g o 0]
      exact hheld
    rw [hended.out g o, Act.valueEnds_free hheld', Act.outUpdate_code hheld' (by rw [htaken.out g o]; exact hphase), hset]

/-! ### CFG -/

theorem Within.dacCfg_taken {clk : Nat} : Within [] [⟨.DAC_CFG, g, o, 0⟩, ⟨.DAC_STATUS, g, o, 0⟩] [.outs, .pair, .resp] (.all [.setR .DAC_CFG v g o,
    .when (F.DAC_CFG_RB_TOL.of v == 0) (.setOut g o fun x => { x with changed := clk }), .outUpdate g o, .accept]) :=
  .all ⟨.setRAt, .when .setOut, Within.outUpdate.mono, .accept⟩

theorem dacCfgWrite_answers (hw : s.takesReg src .DAC_CFG g o) (hstandby : s.standby = false) (hrange : F.DAC_CFG_RANGE.of v ≠ 7)
    (hsrc : F.DAC_CFG_SRC.of v ≠ 3) (htrack : F.DAC_CFG_TRACK.of v < 24)
    (hfree : F.DAC_CFG_RANGE.of v = s.f F.DAC_CFG_RANGE g o ∨ s.b F.DAC_STATUS_RANGE_BUSY g o = false ∧ s.b F.DAC_STATUS_RANGE_PEND g o = false) :
    Answers (.dacCfgWrite src g o v) s fun t =>
      t.resp = .ok 0 ∧ t.r .DAC_CFG g o = v &&& RegName.mask .DAC_CFG ∧
      RegsKept [⟨.DAC_CFG, g, o, 0⟩, ⟨.DAC_STATUS, g, o, 0⟩] s t ∧
      t = { s with regs := t.regs, outs := t.outs, pair := t.pair, resp := t.resp } := by
  have hvalid : ¬ (F.DAC_CFG_RANGE.of v = 7 ∨ F.DAC_CFG_SRC.of v = 3 ∨ 24 ≤ F.DAC_CFG_TRACK.of v) := by omega
  have hidle : ¬ (F.DAC_CFG_RANGE.of v ≠ s.f F.DAC_CFG_RANGE g o ∧
      (s.b F.DAC_STATUS_RANGE_BUSY g o = true ∨ s.b F.DAC_STATUS_RANGE_PEND g o = true)) := by
    rcases hfree with h | ⟨hbusy, hpend⟩
    · exact fun hne => hne.1 h
    · simp [hbusy, hpend]
  have heffect : (Act.dacCfg g o v).run s = (Act.all [.setR .DAC_CFG v g o,
      .when (F.DAC_CFG_RB_TOL.of v == 0) (.setOut g o fun x => { x with changed := s.clk }), .outUpdate g o, .accept]).run s := by
    simp only [Act.dacCfg, Act.look_run, hvalid, hidle, if_false]
  obtain ⟨c, hrun⟩ := mirrored_taken (v := v) (off := RegRef.offset ⟨.DAC_CFG, g, o, 0⟩) (d := 0) hw hstandby
    (a := Act.dacCfg g o v) (by rw [heffect]; rfl)
  have hlast : Within [] [⟨.DAC_CFG, g, o, 0⟩, ⟨.DAC_STATUS, g, o, 0⟩] [.outs, .pair, .resp]
      (.when c (.mirrorLater (RegRef.offset ⟨.DAC_CFG, g, o, 0⟩) v)) := .when .mirrorLater
  have hupdate : Within [.DAC_STATUS] [] [.outs] (.outUpdate g o) := Within.outUpdate.byName (by simp)
  have htail : Within [.DAC_STATUS] [] [.outs, .pair, .resp] (.all [.when (F.DAC_CFG_RB_TOL.of v == 0) (.setOut g o fun x => { x with changed := s.clk }),
      .outUpdate g o, .accept, .when c (.mirrorLater (RegRef.offset ⟨.DAC_CFG, g, o, 0⟩) v)]) :=
    .all ⟨.when .setOut, hupdate.mono, .accept, .when .mirrorLater⟩
  have htouch := Touches.frame.trans (Within.dacCfg_taken (g := g) (o := o) (v := v) (clk := s.clk) s) (hlast _)
  refine ⟨_, rfl, ?_⟩
  rw [hrun, heffect]
  refine ⟨((Within.when (.mirrorLater (l := []) (rs := []) (ps := [.pair])) _).parts .resp (by decide)).trans rfl, ?_, htouch.regsKept, htouch.rest⟩
  have hset := Act.setR_r_same (n := .DAC_CFG) v g o 0 s (RegRef.valid_of g.isLt o.isLt)
  exact ((htail _).r_eq g o 0).trans hset

theorem dacCfgWrite_invalid (hw : s.takesReg src .DAC_CFG g o) (hstandby : s.standby = false)
    (hbad : F.DAC_CFG_RANGE.of v = 7 ∨ F.DAC_CFG_SRC.of v = 3 ∨ 24 ≤ F.DAC_CFG_TRACK.of v) :
    Answers (.dacCfgWrite src g o v) s (Refused F.DAC_REFUSED_COUNT g 0 s) := by
  refine ⟨_, rfl, mirrored_refused hw hstandby ?_ (RegRef.valid_one g (by decide) (by decide) (by decide))⟩
  simp only [Act.dacCfg, Act.look_run, hbad, if_true]

/-! ### The steps of a range change -/

theorem rangeStep_zero (hphase : (s.out g o).phase = 1) : Answers (.rangeChangeStep g o) s fun t =>
    (t.out g o).phase = 2 ∧ RegsKept [⟨.DAC_STATUS, g, o, 0⟩] s t ∧ t = { s with regs := t.regs, outs := t.outs } := by
  have hrun : (Act.rangeStep g o).run s = (Act.all [.setOut g o fun x => { x with phase := 2 }, .outUpdate g o]).run s := by
    simp only [Act.rangeStep, Act.look_run, hphase]
  have hin : Within [] [⟨.DAC_STATUS, g, o, 0⟩] [.outs] (.all [.setOut g o fun x => { x with phase := 2 }, .outUpdate g o]) :=
    .all ⟨.setOut, Within.outUpdate⟩
  have hset : (((Act.setOut g o fun x => { x with phase := 2 }).run s).out g o).phase = 2 := by rw [Act.setOut_same]
  refine ⟨_, rfl, ?_⟩
  rw [hrun]
  refine ⟨?_, (hin s).regsKept, (hin s).rest⟩
  rw [Act.all_cons_run, Act.all_cons_run, Act.all_nil_run, Act.outUpdate_phase (.inl (by rw [hset]; decide)), hset]

theorem rangeStep_class (hphase : (s.out g o).phase = 2) (htarget : (s.out g o).target < 7) : Answers (.rangeChangeStep g o) s fun t =>
    (t.out g o).phase = 3 ∧ t.f F.DAC_STATUS_RANGE_NOW g o = (s.out g o).target ∧
    RegsKept [⟨.DAC_STATUS, g, o, 0⟩] s t ∧ t = { s with regs := t.regs, outs := t.outs } := by
  have hrun : (Act.rangeStep g o).run s = (Act.all [.setOut g o fun x => { x with phase := 3 },
      .setF F.DAC_STATUS_RANGE_NOW (s.out g o).target g o, .outUpdate g o]).run s := by
    simp only [Act.rangeStep, Act.look_run, hphase]
  have hin : Within [] [⟨.DAC_STATUS, g, o, 0⟩] [.outs] (.all [.setOut g o fun x => { x with phase := 3 },
      .setF F.DAC_STATUS_RANGE_NOW (s.out g o).target g o, .outUpdate g o]) := .all ⟨.setOut, .setFAt, Within.outUpdate⟩
  have hwidth : F.DAC_STATUS_RANGE_NOW.width = 3 := rfl
  have hset : (((Act.setF F.DAC_STATUS_RANGE_NOW (s.out g o).target g o).run ((Act.setOut g o fun x => { x with phase := 3 }).run s)).out g o).phase = 3 := by
    rw [Act.setF_out, Act.setOut_same]
  refine ⟨_, rfl, ?_⟩
  rw [hrun]
  refine ⟨?_, ?_, (hin s).regsKept, (hin s).rest⟩
  all_goals rw [Act.all_cons_run, Act.all_cons_run, Act.all_cons_run, Act.all_nil_run]
  · rw [Act.outUpdate_phase (.inl (by rw [hset]; decide)), hset]
  · rw [Leaves.outUpdate]
    simp +decide [hwidth]
    omega

theorem rangeStep_end (hphase : (s.out g o).phase = 3) (hrange : s.f F.DAC_CFG_RANGE g o = s.f F.DAC_STATUS_RANGE_NOW g o) :
    Answers (.rangeChangeStep g o) s fun t =>
      (t.out g o).phase = 0 ∧ t.b F.DAC_STATUS_RANGE_BUSY g o = false ∧
      RegsKept [⟨.DAC_STATUS, g, o, 0⟩] s t ∧ t = { s with regs := t.regs, outs := t.outs } := by
  have hrun : (Act.rangeStep g o).run s = (Act.all [.setOut g o fun x => { x with phase := 0, changed := s.clk },
      .setB F.DAC_STATUS_RANGE_BUSY false g o, .outUpdate g o]).run s := by
    simp only [Act.rangeStep, Act.look_run, hphase]
  have hin : Within [] [⟨.DAC_STATUS, g, o, 0⟩] [.outs] (.all [.setOut g o fun x => { x with phase := 0, changed := s.clk },
      .setB F.DAC_STATUS_RANGE_BUSY false g o, .outUpdate g o]) := .all ⟨.setOut, .setBAt, Within.outUpdate⟩
  have hsame : ((Act.setB F.DAC_STATUS_RANGE_BUSY false g o).run ((Act.setOut g o fun x => { x with phase := 0, changed := s.clk }).run s)).f
      F.DAC_CFG_RANGE g o = ((Act.setB F.DAC_STATUS_RANGE_BUSY false g o).run
        ((Act.setOut g o fun x => { x with phase := 0, changed := s.clk }).run s)).f F.DAC_STATUS_RANGE_NOW g o := by
    simp +decide [hrange]
  refine ⟨_, rfl, ?_⟩
  rw [hrun]
  refine ⟨?_, ?_, (hin s).regsKept, (hin s).rest⟩
  all_goals rw [Act.all_cons_run, Act.all_cons_run, Act.all_cons_run, Act.all_nil_run]
  · rw [Act.outUpdate_phase (.inr hsame), Act.setB_out, Act.setOut_same]
  · rw [Act.outUpdate_busy (.inr hsame)]
    simp +decide

/-! ### NV -/

/-- R297: the flash with an output's new range. -/
def State.flashWithRange (s : State) (g : Grp) (o : Out) (range : Nat) : FlashSt := { s.flash with
  nv := s.nvArea.set (g.val * 8 + o.val) { s.nvArea[g.val * 8 + o.val] with range := range }, nvBad := false, nvUntil := s.clk + 16384000 }

theorem State.flashWithRange_congr {t : State} {range : Nat} (hflash : t.flash = s.flash) (hclk : t.clk = s.clk) :
    t.flashWithRange g o range = s.flashWithRange g o range := by simp only [State.flashWithRange, State.nvArea, hflash, hclk]

/-- R297: the area in flash is rewritten. -/
def Act.nvStored (g : Grp) (o : Out) (range : Nat) : Act := .upd fun s => { s with flash := s.flashWithRange g o range }

theorem Act.nvRange_run (hrange : F.DAC_NV_NV_RANGE.of v ≠ 7) : (Act.nvRange g o v).run s =
    (Act.all [.setF F.DAC_NV_NV_RANGE v.toNat g o, .nvStored g o (F.DAC_NV_NV_RANGE.of v), .accept]).run s := by
  rw [Act.nvRange, if_neg hrange]
  rfl

theorem nvRangeWrite_answers (hw : s.takesReg src .DAC_NV g o) (hrange : F.DAC_NV_NV_RANGE.of v ≠ 7) : Answers (.nvRangeWrite src g o v) s fun t =>
    t.resp = .ok 0 ∧ t.f F.DAC_NV_NV_RANGE g o = F.DAC_NV_NV_RANGE.of v ∧ t.flash = s.flashWithRange g o (F.DAC_NV_NV_RANGE.of v) ∧
    RegsKept [⟨.DAC_NV, g, o, 0⟩] s t ∧ t = { s with regs := t.regs, flash := t.flash, resp := t.resp } := by
  have heffect := Act.nvRange_run (s := s) (g := g) (o := o) hrange
  have hin : Within [] [⟨.DAC_NV, g, o, 0⟩] [.flash, .resp] (.all [.setF F.DAC_NV_NV_RANGE v.toNat g o,
      .nvStored g o (F.DAC_NV_NV_RANGE.of v), .accept]) := .all ⟨.setFAt, .updPart .flash (fun _ => rfl) (fun _ => rfl) (by decide), .accept⟩
  have hrun := Act.writeTo_accepted (d := 0) hw (a := Act.nvRange g o v) (by rw [heffect]; rfl)
  have hvalid : RegRef.valid ⟨.DAC_NV, g, o, 0⟩ = true := RegRef.valid_of g.isLt o.isLt
  refine ⟨_, rfl, ?_⟩
  rw [hrun, heffect]
  refine ⟨rfl, ?_, ?_, (hin s).regsKept, (hin s).rest⟩
  · refine (Act.all_f_head (by exact .all ⟨.upd fun _ => rfl, .accept⟩)).trans ?_
    rw [Act.setF_f_at hvalid]
    rfl
  · have hset : ∀ u : State, (Act.accept.run ((Act.nvStored g o (F.DAC_NV_NV_RANGE.of v)).run u)).flash = u.flashWithRange g o (F.DAC_NV_NV_RANGE.of v) :=
      fun _ => rfl
    rw [Act.all_cons_run, Act.all_cons_run, Act.all_cons_run, Act.all_nil_run, hset]
    exact State.flashWithRange_congr (Act.setF_flash ..) (Act.setF_clk ..)

theorem nvRangeWrite_invalid (hw : s.takesReg src .DAC_NV g o) (hrange : F.DAC_NV_NV_RANGE.of v = 7) :
    Answers (.nvRangeWrite src g o v) s (Refused F.DAC_REFUSED_COUNT g 0 s) := by
  refine ⟨_, rfl, Act.writeTo_refused hw ?_ (RegRef.valid_one g (by decide) (by decide) (by decide))⟩
  simp only [Act.nvRange, hrange, if_true]

theorem nvGateClose_answers (hdelay : (s.out g o).gateDelay = true) (hdue : (s.out g o).gateFrom + 32768 ≤ s.clk) :
    Answers (.nvGateClose g o) s fun t =>
      (t.out g o).gateDelay = false ∧ t.b F.DAC_STATUS_GATE_CLOSED g o = !t.gateOpen g o ∧
      RegsKept [⟨.DAC_STATUS, g, o, 0⟩] s t ∧ t = { s with regs := t.regs, outs := t.outs } := by
  have hrun : (Act.nvGateClose g o).run s = (Act.all [.setOut g o fun x => { x with gateDelay := false }, .outUpdate g o]).run s := by
    rw [Act.nvGateClose, Act.look_run, hdelay, decide_eq_true hdue, Bool.and_self, Act.when_true_run]
  have hin : Within [] [⟨.DAC_STATUS, g, o, 0⟩] [.outs] (.all [.setOut g o fun x => { x with gateDelay := false }, .outUpdate g o]) :=
    .all ⟨.setOut, Within.outUpdate⟩
  have htouch := hin s
  have hgate := Act.outUpdate_gate (g := g) (o := o) ((Act.setOut g o fun x => { x with gateDelay := false }).run s)
  refine ⟨_, rfl, ?_⟩
  rw [hrun]
  simp only [Act.all_cons_run, Act.all_nil_run] at htouch ⊢
  refine ⟨?_, hgate, htouch.regsKept, htouch.rest⟩
  rw [Act.outUpdate_keeps OutSt.gateDelay (fun _ _ _ => rfl) (fun _ _ _ _ => rfl) (fun _ _ _ => rfl), Act.setOut_same]

/-! ### Read-back -/

theorem rbFaultClear_answers (hw : s.takesReg src .DAC_STATUS g o) (hclear : F.DAC_STATUS_RB_FAULT.of v = 1)
    (hfault : s.b F.DAC_STATUS_RB_FAULT g o = true) : Answers (.rbFaultClear src g o v) s fun t =>
      t.resp = .ok 0 ∧ t.b F.DAC_STATUS_RB_FAULT g o = false ∧ t.f F.DAC_STATUS_RB_RUN g o = 0 ∧
      t.f F.DAC_STATUS_RB_CAUSE g o = 0 ∧ t.bit F.DAC_STATUS_FAULT_BY 2 g o = false ∧
      t.b F.DAC_STATUS_FAULT_HOLD g o = s.b F.DAC_STATUS_FAULT_HOLD g o ∧
      RegsKept [⟨.DAC_STATUS, g, o, 0⟩] s t ∧ t = { s with regs := t.regs, mon := t.mon, resp := t.resp } := by
  have heffect : (Act.rbClear g o v).run s = (Act.all [.setB F.DAC_STATUS_RB_FAULT false g o, .setF F.DAC_STATUS_RB_RUN 0 g o,
      .setF F.DAC_STATUS_RB_CAUSE 0 g o, .setMon g fun m => { m with rbWait := m.rbWait.filter (fun x => !(decide (x = o))) },
      .clrBit F.DAC_STATUS_FAULT_BY 2 g o, .accept]).run s := by
    rw [Act.rbClear, Act.look_run, Act.andThen_run, hclear, hfault, beq_self_eq_true, Bool.and_self, Act.when_true_run]
    simp only [Act.all_cons_run, Act.all_nil_run, Act.outFaultEnd]
  have hin : Within [] [⟨.DAC_STATUS, g, o, 0⟩] [.mon, .resp] (.all [.setB F.DAC_STATUS_RB_FAULT false g o, .setF F.DAC_STATUS_RB_RUN 0 g o,
      .setF F.DAC_STATUS_RB_CAUSE 0 g o, .setMon g fun m => { m with rbWait := m.rbWait.filter (fun x => !(decide (x = o))) },
      .clrBit F.DAC_STATUS_FAULT_BY 2 g o, .accept]) := .all ⟨.setBAt, .setFAt, .setFAt, .setMon, .clrBitAt, .accept⟩
  have hrun := Act.writeTo_accepted (d := 0) hw (a := Act.rbClear g o v) (by rw [heffect]; rfl)
  refine ⟨_, rfl, ?_⟩
  rw [hrun, heffect]
  refine ⟨rfl, ?_, ?_, ?_, ?_, ?_, (hin s).regsKept, (hin s).rest⟩
  · simp +decide [State.b]
  · simp +decide
  · simp +decide
  · simp only [Act.all_cons_run, Act.all_nil_run]
    exact Act.clrBit_bit_stored _ (RegRef.valid_of g.isLt o.isLt) (by decide) (by decide)
  · simp +decide [State.b]

/-- Settles O20. -/
theorem outputWrites : Obligations.OutputWrites := by
  unfold Obligations.OutputWrites
  intro s src g o v
  exact ⟨dacValueWrite_answers, fun hw hstandby hsrc => ⟨_, rfl, mirrored_standby hw hstandby hsrc _⟩, dacCfgWrite_answers, dacCfgWrite_invalid,
    rangeStep_zero, rangeStep_class, rangeStep_end, nvRangeWrite_answers, nvRangeWrite_invalid, nvGateClose_answers, rbFaultClear_answers⟩

end Sys2Proof.Machine
end

section
-- One proof after another: elaborated side by side, the proofs of the whole text do not fit in the check's memory.
set_option Elab.async false
/-! The DDS engines (R302 to R305). -/

namespace Sys2Proof.Machine

variable {s : State} {src : Src} {g : Grp} {e : DdsE} {v : Word}

theorem Act.setDds_same (f : DdsSt → DdsSt) (s : State) : ((Act.setDds g e f).run s).ddsE g e = f (s.ddsE g e) :=
  (getElem_set_set s.dds g g e e _).trans (if_pos ⟨rfl, rfl⟩)

theorem Touches.ddsE {l : List RegName} {rs : List RegRef} {ps : List Part} {s t : State} (h : Touches l rs ps s t) (g : Grp) (e : DdsE)
    (hp : Part.dds ∉ ps := by decide) : t.ddsE g e = s.ddsE g e := by
  rw [State.ddsE, h.parts .dds hp]
  rfl

/-! ### APPLY -/

theorem valid_ddsStatus (g : Grp) (e : DdsE) : RegRef.valid ⟨.DDS_STATUS, g, e, 0⟩ = true := RegRef.valid_of g.isLt e.isLt

theorem ddsApply_answers (hw : s.takesReg src .DDS_APPLY g e) (hstandby : s.standby = false) (hpend : s.b F.DDS_STATUS_PENDING g e = false)
    (hvalid : s.ddsInvalid g e = false) : Answers (.ddsApply src g e v) s fun t =>
      t.resp = .ok 0 ∧ t.b F.DDS_STATUS_PENDING g e = true ∧ (t.ddsE g e).atWrap = (F.DDS_APPLY_AT.of v == 1) ∧
      RegsKept [⟨.DDS_APPLY, g, e, 0⟩, ⟨.DDS_STATUS, g, e, 0⟩] s t ∧
      t = { s with regs := t.regs, dds := t.dds, pair := t.pair, resp := t.resp } := by
  have heffect : (Act.ddsApply g e v).run s = (Act.all [.setR .DDS_APPLY v g e, .setDds g e fun d => { d with atWrap := F.DDS_APPLY_AT.of v == 1 },
      .setB F.DDS_STATUS_PENDING true g e, .accept]).run s := by
    simp only [Act.ddsApply, Act.look_run, hpend, hvalid, Bool.false_eq_true, if_false]
  obtain ⟨c, hrun⟩ := mirrored_taken (v := v) (off := RegRef.offset ⟨.DDS_APPLY, g, e, 0⟩) (d := 0) hw hstandby
    (a := Act.ddsApply g e v) (by rw [heffect]; rfl)
  have hin : Within [] [⟨.DDS_APPLY, g, e, 0⟩, ⟨.DDS_STATUS, g, e, 0⟩] [.dds, .pair, .resp] (.all [.setR .DDS_APPLY v g e,
      .setDds g e fun d => { d with atWrap := F.DDS_APPLY_AT.of v == 1 }, .setB F.DDS_STATUS_PENDING true g e, .accept]) :=
    .all ⟨.setRAt, .setDds, .setBAt, .accept⟩
  have hlast : Within [] [⟨.DDS_APPLY, g, e, 0⟩, ⟨.DDS_STATUS, g, e, 0⟩] [.dds, .pair, .resp]
      (.when c (.mirrorLater (RegRef.offset ⟨.DDS_APPLY, g, e, 0⟩) v)) := .when .mirrorLater
  have hpair : Within [] [] [.pair] (.when c (.mirrorLater (RegRef.offset ⟨.DDS_APPLY, g, e, 0⟩) v)) := .when .mirrorLater
  have htail : Within [.DDS_STATUS] [] [.resp] (.all [.setB F.DDS_STATUS_PENDING true g e, .accept]) := .all ⟨.setB, .accept⟩
  have htouch := Touches.frame.trans (hin s) (hlast _)
  refine ⟨_, rfl, ?_⟩
  rw [hrun, heffect]
  refine ⟨((hpair _).parts .resp (by decide)).trans rfl, ?_, ?_, htouch.regsKept, htouch.rest⟩
  · rw [(hpair _).b_eq g e 0]
    simp +decide [State.b]
  · rw [(hpair _).ddsE g e, Act.all_cons_run, Act.all_cons_run, (htail _).ddsE g e, Act.setDds_same]

theorem ddsApply_invalid (hw : s.takesReg src .DDS_APPLY g e) (hstandby : s.standby = false) (hpend : s.b F.DDS_STATUS_PENDING g e = false)
    (hinvalid : s.ddsInvalid g e = true) : Answers (.ddsApply src g e v) s fun t =>
      t.resp = .error ∧ t.b F.DDS_STATUS_PENDING g e = false ∧ t.b F.DDS_STATUS_REJECTED g e = true ∧
      Counted F.DDS_STATUS_REFUSED s t g e ∧ NamesKept [.DDS_STATUS, .FAB_PORT_ERR] s t := by
  have heffect : (Act.ddsApply g e v).run s = (Act.all [.count F.DDS_STATUS_REFUSED 1 g e, .answer .error, .setB F.DDS_STATUS_REJECTED true g e]).run s := by
    simp only [Act.ddsApply, Act.look_run, hpend, hinvalid, Bool.false_eq_true, if_false, if_true]
    rfl
  have hresp : ((Act.ddsApply g e v).run s).resp = .error := by rw [heffect]; simp
  have hrun : (Act.mirrored src (RegRef.offset ⟨.DDS_APPLY, g, e, 0⟩) v (Act.ddsApply g e v)).run s = (Act.ddsApply g e v).run s := by
    rw [Act.mirrored_run hstandby, hresp]
    exact congrArg (fun c => (Act.when c (.mirrorLater _ v)).run ((Act.ddsApply g e v).run s)) (Bool.and_false _)
  have hin : Within [.DDS_STATUS, .FAB_PORT_ERR] [] [.resp] (.all [.count F.DDS_STATUS_REFUSED 1 g e, .answer .error,
      .setB F.DDS_STATUS_REJECTED true g e, .masterCount src]) := .all ⟨.count, .answer, .setB, .masterCount⟩
  have hmaster : ∀ t : State, ∀ f : Fld, f.name = .DDS_STATUS → ((Act.masterCount src).run t).f f g e = t.f f g e := fun t f hf =>
    Act.masterCount_f src g e 0 t (by rw [hf]; decide)
  have htouch := hin s
  simp only [Act.all_cons_run, Act.all_nil_run] at htouch
  refine ⟨_, rfl, ?_⟩
  rw [Act.writeTo_run hw, hrun, heffect]
  refine ⟨?_, ?_, ?_, ?_, ?_⟩
  · rw [Act.masterCount_resp, ← heffect, hresp]
  · rw [State.b] at hpend ⊢
    rw [hmaster _ _ rfl]
    simp +decide [hpend]
  · rw [State.b, hmaster _ _ rfl]
    simp +decide
  · rw [Counted, hmaster _ _ rfl]
    simp +decide
  · simp only [Act.all_cons_run, Act.all_nil_run]
    exact htouch.namesKept

/-! ### The hand-over -/

theorem valid_ddsWord (g : Grp) (e : DdsE) {n : RegName} (hn : n.row.n1 = 4 ∧ n.row.n2 = 4 ∧ n.row.n3 = 1) : RegRef.valid ⟨n, g, e, 0⟩ = true :=
  RegRef.valid_of (by rw [hn.1]; exact g.isLt) (by rw [hn.2.1]; exact e.isLt) (by rw [hn.2.2]; decide)

/-- R304: the words of a shadow set and their mirrors. -/
def ddsWords : List (RegName × RegName) := [(.DDS_FTW_LO, .DDSM_FTW_LO), (.DDS_FTW_HI, .DDSM_FTW_HI), (.DDS_AMP, .DDSM_AMP),
  (.DDS_PHASE, .DDSM_PHASE), (.DDS_FOLLOW, .DDSM_FOLLOW), (.DDS_RATIO, .DDSM_RATIO)]

theorem Act.ddsTake_run (s : State) : (Act.ddsTake g e).run s = (Act.each ddsWords fun w => .setR w.2 (s.r w.1 g e) g e).run s := rfl

theorem Act.ddsWords_word (hs : s.Wf) {w : RegName × RegName} (hw : w ∈ ddsWords) :
    (Act.each ddsWords fun w => .setR w.2 (s.r w.1 g e) g e).Brings fun t => t.r w.2 g e = s.r w.1 g e := by
  have hrows : ∀ w ∈ ddsWords, (w.1.row.n1 = 4 ∧ w.1.row.n2 = 4 ∧ w.1.row.n3 = 1) ∧ (w.2.row.n1 = 4 ∧ w.2.row.n2 = 4 ∧ w.2.row.n3 = 1) ∧
      w.2.mask = w.1.mask := by decide
  have hapart : ∀ w ∈ ddsWords, ∀ x ∈ ddsWords, x ≠ w → x.2 ≠ w.2 := by decide
  obtain ⟨hshadow, hmirror, hmask⟩ := hrows w hw
  refine Act.brings_each_member hw (fun t => ?_) fun x hx hne t ht => ?_
  · exact (Act.setR_r_same _ _ _ _ _ _ (valid_ddsWord g e hmirror)).trans (by rw [hmask, hs.and_mask (valid_ddsWord g e hshadow)])
  · exact (Act.setR_r_ne _ _ _ _ _ _ _ _ _ _ (hapart w hw x hx hne)).trans ht

theorem ddsHandover_answers (hs : s.Wf) (halive : s.alive g = true) (hpend : s.b F.DDS_STATUS_PENDING g e = true)
    (hdue : s.ddsEdgeDue g e = true) : Answers (.ddsHandover g e) s fun t =>
    t.r .DDSM_FTW_LO g e = s.r .DDS_FTW_LO g e ∧ t.r .DDSM_FTW_HI g e = s.r .DDS_FTW_HI g e ∧
    t.r .DDSM_AMP g e = s.r .DDS_AMP g e ∧ t.r .DDSM_PHASE g e = s.r .DDS_PHASE g e ∧
    t.r .DDSM_FOLLOW g e = s.r .DDS_FOLLOW g e ∧ t.r .DDSM_RATIO g e = s.r .DDS_RATIO g e ∧
    t.b F.DDS_STATUS_PENDING g e = false ∧ t.b F.DDS_STATUS_DONE g e = true ∧ OnlyRegs s t := by
  have hrun : (Act.ddsHandover g e).run s = (Act.all [.ddsTake g e, .setB F.DDS_STATUS_PENDING false g e, .setB F.DDS_STATUS_DONE true g e]).run s := by
    rw [Act.ddsHandover, Act.look_run, halive, hpend, hdue]
    rfl
  have htail : Within [.DDS_STATUS] [] [] (.all [.setB F.DDS_STATUS_PENDING false g e, .setB F.DDS_STATUS_DONE true g e]) := .all ⟨.setB, .setB⟩
  have hin : Within [.DDSM_FTW_LO, .DDSM_FTW_HI, .DDSM_AMP, .DDSM_PHASE, .DDSM_FOLLOW, .DDSM_RATIO, .DDS_STATUS] [] [.resp]
      (.all [.ddsTake g e, .setB F.DDS_STATUS_PENDING false g e, .setB F.DDS_STATUS_DONE true g e]) :=
    .all ⟨.look fun _ => .all ⟨.setR, .setR, .setR, .setR, .setR, .setR⟩, .setB, .setB⟩
  have hword : ∀ w ∈ ddsWords, ((Act.all [.ddsTake g e, .setB F.DDS_STATUS_PENDING false g e, .setB F.DDS_STATUS_DONE true g e]).run s).r w.2 g e =
      s.r w.1 g e := by
    intro w hw
    have hother : w.2 ∉ [RegName.DDS_STATUS] := by revert w; decide
    rw [Act.all_cons_run, (htail _).r_eq g e 0 hother, Act.ddsTake_run]
    exact Act.ddsWords_word hs hw s
  refine ⟨_, rfl, ?_⟩
  rw [hrun]
  refine ⟨hword (.DDS_FTW_LO, .DDSM_FTW_LO) (by decide), hword (.DDS_FTW_HI, .DDSM_FTW_HI) (by decide), hword (.DDS_AMP, .DDSM_AMP) (by decide),
    hword (.DDS_PHASE, .DDSM_PHASE) (by decide), hword (.DDS_FOLLOW, .DDSM_FOLLOW) (by decide), hword (.DDS_RATIO, .DDSM_RATIO) (by decide),
    ?_, ?_, (hin s).rest⟩
  all_goals rw [Act.all_cons_run]; simp +decide [State.b]

/-! ### ENABLE, FOLLOW and clipping -/

theorem ddsEnable_answers (hw : s.takesReg src .DDS_CTRL g e) (hon : F.DDS_CTRL_ENABLE.of v = 1) (hoff : s.b F.DDS_CTRL_ENABLE g e = false) :
    Answers (.ddsEnableWrite src g e v) s fun t =>
      t.resp = .ok 0 ∧ t.b F.DDS_CTRL_ENABLE g e = true ∧ (t.ddsE g e).acc = 0 ∧ t.b F.DDS_STATUS_RUNNING g e = !s.mode parked ∧
      RegsKept [⟨.DDS_CTRL, g, e, 0⟩, ⟨.DDS_STATUS, g, e, 0⟩] s t ∧ t = { s with regs := t.regs, dds := t.dds, resp := t.resp } := by
  have heffect : (Act.ddsEnable g e v).run s = (Act.all [.setDds g e fun d => { d with acc := 0 }, .setR .DDS_CTRL v g e,
      .setB F.DDS_STATUS_RUNNING (!s.mode parked) g e, .accept]).run s := by
    rw [Act.ddsEnable, Act.look_run, hon, hoff]
    rfl
  have hrun := Act.writeTo_accepted (d := 0) hw (a := Act.ddsEnable g e v) (by rw [heffect]; rfl)
  have hin : Within [] [⟨.DDS_CTRL, g, e, 0⟩, ⟨.DDS_STATUS, g, e, 0⟩] [.dds, .resp] (.all [.setDds g e fun d => { d with acc := 0 },
      .setR .DDS_CTRL v g e, .setB F.DDS_STATUS_RUNNING (!s.mode parked) g e, .accept]) := .all ⟨.setDds, .setRAt, .setBAt, .accept⟩
  have htail : Within [.DDS_CTRL, .DDS_STATUS] [] [.resp] (.all [.setR .DDS_CTRL v g e, .setB F.DDS_STATUS_RUNNING (!s.mode parked) g e, .accept]) :=
    .all ⟨.setR, .setB, .accept⟩
  refine ⟨_, rfl, ?_⟩
  rw [hrun, heffect]
  refine ⟨rfl, ?_, ?_, ?_, (hin s).regsKept, (hin s).rest⟩
  · rw [Act.all_cons_run]
    refine (Act.all_b_head (by exact .all ⟨.setB, .accept⟩)).trans ?_
    rw [State.b, Act.setR_f_at (RegRef.valid_of g.isLt e.isLt), hon]
    rfl
  · rw [Act.all_cons_run, (htail _).ddsE g e, Act.setDds_same]
  · simp +decide [State.b]

theorem ddsFollow_answers (hon : s.ddsOn g e = true) (hfollows : s.ddsFollows g e = true) (hparked : s.mode parked = false) :
    Answers (.ddsFollowUpdate g e) s fun t =>
    let k := s.f F.DDSM_FOLLOW_TRK g e
    let ratio := s.f F.DDSM_RATIO_RATIO g e
    t.ddsPhase g e = ((s.f F.TRK_PHASE_LO_PHASE k + 2 ^ 32 * s.f F.TRK_PHASE_HI_PHASE k) * ratio +
      s.f F.DDSM_PHASE_PHASE_OFS g e * 2 ^ 32) % 2 ^ 48 ∧
    (t.ddsE g e).step = signed 32 (s.f F.TRK_VEL_VEL k) * ratio * 65536 ∧ t = { s with dds := t.dds } := by
  have hrun : (Act.ddsFollowUpdate g e).run s = (Act.setDds g e fun d => { d with
      follow := (s.f F.TRK_PHASE_LO_PHASE (s.f F.DDSM_FOLLOW_TRK g e) + 2 ^ 32 * s.f F.TRK_PHASE_HI_PHASE (s.f F.DDSM_FOLLOW_TRK g e)) *
        s.f F.DDSM_RATIO_RATIO g e % 2 ^ 48 * 100000000
      step := signed 32 (s.f F.TRK_VEL_VEL (s.f F.DDSM_FOLLOW_TRK g e)) * s.f F.DDSM_RATIO_RATIO g e * 65536 }).run s := by
    simp only [Act.ddsFollowUpdate, Act.look_run, hon, hfollows, hparked, Bool.not_false, Bool.and_self, if_true]
  refine ⟨_, rfl, ?_⟩
  rw [hrun]
  refine ⟨?_, by rw [Act.setDds_same], rfl⟩
  rw [State.ddsPhase, Act.setDds_same, State.ddsFollows, State.b, Act.setDds_f, ← State.b, ← State.ddsFollows, hfollows, Act.setDds_f]
  simp only [if_true]
  rw [Nat.mul_div_cancel _ (by decide), Nat.mod_add_mod]

theorem ddsClip_answers (hon : s.ddsOn g e = true) (hclamped : s.ddsSample g e < 0 ∨ 0xFFFF < s.ddsSample g e) :
    Answers (.ddsSampleClip g e) s fun t =>
      t.b F.DDS_STATUS_CLIP g e = true ∧ (t.ddsCode g e = 0 ∨ t.ddsCode g e = 0xFFFF) ∧ RegsKept [⟨.DDS_STATUS, g, e, 0⟩] s t ∧ OnlyRegs s t := by
  have hrun : (Act.ddsClip g e).run s = (Act.setB F.DDS_STATUS_CLIP true g e).run s := by
    simp only [Act.ddsClip, Act.look_run, hon, hclamped, decide_true, Bool.and_self, Act.when_true_run]
  have hin : Within [] [⟨.DDS_STATUS, g, e, 0⟩] [.resp] (.setB F.DDS_STATUS_CLIP true g e) := .setBAt
  have hname : Within [.DDS_STATUS] [] [] (.setB F.DDS_STATUS_CLIP true g e) := .setB
  have hcode : ((Act.setB F.DDS_STATUS_CLIP true g e).run s).ddsCode g e = s.ddsCode g e := by
    simp +decide [State.ddsCode, State.ddsOn, State.alive, State.ddsSample, State.ddsPhase, State.ddsE, State.ddsFollows, State.b]
  refine ⟨_, rfl, ?_⟩
  rw [hrun]
  refine ⟨by simp +decide, ?_, (hin s).regsKept, (hin s).rest⟩
  rw [hcode, State.ddsCode, if_pos hon, clamp]
  rcases hclamped with h | h
  · exact .inl (by rw [if_pos h]; rfl)
  · exact .inr (by rw [if_neg (by omega), if_pos h]; rfl)

/-- Settles O21. -/
theorem ddsEngines : Obligations.DdsEngines := by
  unfold Obligations.DdsEngines
  intro s src g e v
  exact ⟨fun hw hstandby hpend => ⟨ddsApply_answers hw hstandby hpend, ddsApply_invalid hw hstandby hpend⟩, ddsHandover_answers,
    ddsEnable_answers, ddsFollow_answers, ddsClip_answers⟩

end Sys2Proof.Machine
end

section
-- One proof after another: elaborated side by side, the proofs of the whole text do not fit in the check's memory.
set_option Elab.async false
/-! The pins: what they show of their drivers, their configuration, the stored output bits, the lock, and what comes from outside
(R321 to R331). -/

namespace Sys2Proof.Machine

variable {s : State} {src : Src} {g : Grp} {p : Pin} {v : Word}

/-! ### One bit of a field -/

@[simp] theorem Act.putBit_bit_stored {f : Fld} {b i j k : Nat} (x : Bool) (s : State) (hv : RegRef.valid ⟨f.name, i, j, k⟩ = true)
    (hm : f.inMask = true) (hb : b < f.width) : ((Act.putBit f b x i j k).run s).bit f b i j k = x := by
  cases x
  · exact Act.clrBit_bit_stored s hv hm hb
  · exact Act.setBit_bit_stored s hv hm hb

theorem Leaves.putBit {f h : Fld} {b i j k : Nat} {x : Bool} (hs : f.spares h = true := by decide) (hm : h.inMask = true := by decide) :
    Leaves h (.putBit f b x i j k) := by
  cases x
  · exact .clrBit hs hm
  · exact .setBit hs hm

/-! ### What a pin drives -/

theorem Act.setPin_same (f : PinSt → PinSt) (s : State) : ((Act.setPin g p f).run s).pin g p = f (s.pin g p) :=
  (getElem_set_set s.pins g g p p _).trans (if_pos ⟨rfl, rfl⟩)

theorem Touches.pin {l : List RegName} {rs : List RegRef} {ps : List Part} {s t : State} (h : Touches l rs ps s t) (g : Grp) (p : Pin)
    (hp : Part.pins ∉ ps := by decide) : t.pin g p = s.pin g p := by
  rw [State.pin, h.parts .pins hp]
  rfl

/-- The outlets of the logic dies and the hold latch of a pin are the same. -/
def PinSt.SameOutlets (x y : PinSt) : Prop := y.fab0 = x.fab0 ∧ y.fab1 = x.fab1 ∧ y.hold = x.hold

/-- The registers that a pin's driver follows. -/
abbrev driveNames : List RegName := [.PIN_STATE, .SYS_MODE_EFF, .PIN_P_CFG, .PIN_DP_CFG, .PIN_OUT, .CMP_STATUS]

section
variable {l : List RegName} {ps : List Part} {s t : State}

theorem Touches.pinCfg (h : Touches l [] ps s t) (g : Grp) (p : Pin) (hp : .PIN_P_CFG ∉ l := by decide) (hdp : .PIN_DP_CFG ∉ l := by decide) :
    t.pinCfg g p = s.pinCfg g p := by
  simp only [State.pinCfg, h.r_eq _ _ _ hp, h.r_eq _ _ _ hdp]

/-- What a pin drives follows its registers, its outlets and its hold latch. -/
theorem Touches.pinDrive (h : Touches l [] ps s t) (g : Grp) (p : Pin) (hout : (s.pin g p).SameOutlets (t.pin g p))
    (hpol : Part.pol ∉ ps := by decide) (hl : ∀ n ∈ driveNames, n ∉ l := by decide) : t.pinDrive g p = s.pinDrive g p := by
  obtain ⟨h0, h1, hhold⟩ := hout
  have hf : ∀ {f : Fld} (i j k : Nat), f.name ∈ driveNames → t.f f i j k = s.f f i j k := fun i j k hn => h.f_eq i j k (hl _ hn)
  have hcfg : t.pinCfg g p = s.pinCfg g p := h.pinCfg g p (hl _ (by decide)) (hl _ (by decide))
  have hfunc : t.pinFunc g p = s.pinFunc g p := by rw [State.pinFunc, hcfg, State.pinFunc]
  have hbyte : ∀ ty, t.pinByte ty g p = s.pinByte ty g p := fun ty => by
    rw [State.pinByte, State.pinByte, State.section, State.section, h.parts .pol hpol]
  have hcmp : ∀ k, t.cmpF g k = s.cmpF g k := fun k => congrArg (· == 1) (hf _ _ _ (by decide))
  have hrole : t.standby = s.standby := by
    rw [State.standby, State.standby, State.pairRole, State.pairRole, hf 0 0 0 (by decide)]
  have hstored : t.bit F.PIN_OUT_OUT p g = s.bit F.PIN_OUT_OUT p g := congrArg (Nat.testBit · p) (hf _ _ _ (by decide))
  have hdrive : t.pinFuncDrive g p = s.pinFuncDrive g p := by
    rw [State.pinFuncDrive, State.pinFuncDrive, hfunc, hcfg, hcmp, hstored, h0, h1]
  rw [State.pinDrive, State.pinDrive, hf _ _ _ (by decide), hrole, hdrive, hbyte, hbyte, hhold]

end

/-! ### What a pin shows -/

/-- The level that a pin reads. -/
def Act.showLevel (g : Grp) (p : Pin) : Option Bool → Act
  | some b => .putBit F.PIN_LEVEL_LEVEL p b g
  | none => .fresh fun x => .putBit F.PIN_LEVEL_LEVEL p (x.getLsbD 0) g

theorem Act.pinRefresh_run (s : State) : (Act.pinRefresh g p).run s = (Act.all [.putBit F.PIN_DRIVEN_DRIVEN p (s.pinDrive g p).isSome g,
    .when (decide (p.val < 16)) (.putBit F.PIN_FIELD_NO_VFLD p
      (F.PIN_P_CFG_CLASS.of (s.pinCfg g p) == 1 && s.pinDrive g p == some true && !s.vfldOk g) g), .showLevel g p (s.pinLevel g p)]).run s := by
  cases h : s.pinLevel g p <;> simp only [Act.pinRefresh, Act.look_run, h, Act.showLevel]

theorem Within.showLevel {x : Option Bool} : Within [.PIN_LEVEL] [] [.seed] (.showLevel g p x) := by
  cases x
  case none => exact Within.fresh (f := fun x => .putBit F.PIN_LEVEL_LEVEL p (x.getLsbD 0) g) fun _ => .putBit
  case some b => exact .putBit

theorem Within.pinRefresh : Within [.PIN_DRIVEN, .PIN_FIELD, .PIN_LEVEL] [] [.seed] (.pinRefresh g p) := fun s => by
  have hin : Within [.PIN_DRIVEN, .PIN_FIELD, .PIN_LEVEL] [] [.seed] (.all [.putBit F.PIN_DRIVEN_DRIVEN p (s.pinDrive g p).isSome g,
      .when (decide (p.val < 16)) (.putBit F.PIN_FIELD_NO_VFLD p
        (F.PIN_P_CFG_CLASS.of (s.pinCfg g p) == 1 && s.pinDrive g p == some true && !s.vfldOk g) g), .showLevel g p (s.pinLevel g p)]) :=
    .all ⟨.putBit, .when .putBit, Within.showLevel.mono⟩
  rw [Act.pinRefresh_run]
  exact hin s

/-- A level that the spec gives needs no choice. -/
theorem Act.pinRefresh_specified {b : Bool} (h : s.pinLevel g p = some b) :
    Touches [.PIN_DRIVEN, .PIN_FIELD, .PIN_LEVEL] [] [] s ((Act.pinRefresh g p).run s) ∧
    ((Act.pinRefresh g p).run s).bit F.PIN_LEVEL_LEVEL p g = b := by
  have hin : Within [.PIN_DRIVEN, .PIN_FIELD, .PIN_LEVEL] [] [] (.all [.putBit F.PIN_DRIVEN_DRIVEN p (s.pinDrive g p).isSome g,
      .when (decide (p.val < 16)) (.putBit F.PIN_FIELD_NO_VFLD p
        (F.PIN_P_CFG_CLASS.of (s.pinCfg g p) == 1 && s.pinDrive g p == some true && !s.vfldOk g) g), .showLevel g p (some b)]) :=
    .all ⟨.putBit, .when .putBit, .putBit⟩
  rw [Act.pinRefresh_run, h]
  refine ⟨hin s, ?_⟩
  rw [Act.all_cons_run, Act.all_cons_run, Act.all_cons_run, Act.all_nil_run]
  exact Act.putBit_bit_stored _ _ (RegRef.valid_of g.isLt) (by decide) p.isLt

theorem Act.pinRefresh_driven (s : State) : ((Act.pinRefresh g p).run s).bit F.PIN_DRIVEN_DRIVEN p g = (s.pinDrive g p).isSome := by
  rw [Act.pinRefresh_run]
  refine (Act.all_bit_head ?_).trans (Act.putBit_bit_stored _ s (RegRef.valid_of g.isLt) (by decide) p.isLt)
  exact .all ⟨.when .putBit, .of_within Within.showLevel⟩

theorem Leaves.pinRefresh_overload : Leaves F.PIN_FIELD_OVERLOAD (.pinRefresh g p) := fun s i j k => by
  have hkeeps : Leaves F.PIN_FIELD_OVERLOAD (.all [.putBit F.PIN_DRIVEN_DRIVEN p (s.pinDrive g p).isSome g,
      .when (decide (p.val < 16)) (.putBit F.PIN_FIELD_NO_VFLD p
        (F.PIN_P_CFG_CLASS.of (s.pinCfg g p) == 1 && s.pinDrive g p == some true && !s.vfldOk g) g), .showLevel g p (s.pinLevel g p)]) :=
    .all ⟨.putBit, .when .putBit, .of_within Within.showLevel⟩
  rw [Act.pinRefresh_run]
  exact hkeeps s i j k

theorem Act.pinRefresh_pinDrive (s : State) : ((Act.pinRefresh g p).run s).pinDrive g p = s.pinDrive g p := by
  have hin := Within.pinRefresh (g := g) (p := p) s
  exact hin.pinDrive g p (by rw [hin.pin g p]; exact ⟨rfl, rfl, rfl⟩)

theorem Within.pinsRefresh : Within [.PIN_DRIVEN, .PIN_FIELD, .PIN_LEVEL] [] [.seed] (.pinsRefresh g) := .each fun _ => Within.pinRefresh

/-! ### Configuration -/

/-- The CFG word of a pin is a register of the pins or of the pairs. -/
theorem pinCfg_reg (g : Grp) (p : Pin) : ∃ n j, n ∈ [RegName.PIN_P_CFG, .PIN_DP_CFG] ∧ RegRef.valid ⟨n, g, j, 0⟩ = true ∧
    pinCfgOffset g p = RegRef.offset ⟨n, g, j, 0⟩ ∧ (∀ s : State, s.pinCfg g p = s.r n g j) ∧ ∀ v, Act.setPinCfg g p v = .setR n v g j := by
  have hp := p.isLt
  by_cases h : p.val < 16
  · exact ⟨.PIN_P_CFG, p, by decide, RegRef.valid_of g.isLt h, if_pos h, fun _ => if_pos h, fun _ => if_pos h⟩
  · exact ⟨.PIN_DP_CFG, p - 16, by decide, RegRef.valid_of g.isLt (show p.val - 16 < 4 by omega), if_neg h, fun _ => if_neg h, fun _ => if_neg h⟩

theorem pinFuncWrite_answers (hw : s.takes src (pinCfgOffset g p)) (hgood : s.pinCfgBad g p v = false) :
    Answers (.pinFuncWrite src g p v) s fun t =>
      t.resp = .ok 0 ∧ t.pinFunc g p = F.PIN_P_CFG_FUNC.of v ∧ t.bit F.PIN_DRIVEN_DRIVEN p g = (t.pinDrive g p).isSome ∧
      NamesKept [.PIN_P_CFG, .PIN_DP_CFG, .PIN_DRIVEN, .PIN_FIELD, .PIN_LEVEL] s t ∧
      t = { s with regs := t.regs, seed := t.seed, resp := t.resp } := by
  obtain ⟨n, j, hn, hvalid, hoff, hcfg, hset⟩ := pinCfg_reg g p
  have heffect : (Act.pinCfgWrite g p v).run s = (Act.all [.setR n v g j, .pinRefresh g p, .accept]).run s := by
    rw [Act.pinCfgWrite, Act.look_run, hgood, hset]
    rfl
  have hrun : (Act.write src (pinCfgOffset g p) (Act.pinCfgWrite g p v)).run s = (Act.pinCfgWrite g p v).run s := by
    rw [hoff] at hw ⊢
    exact Act.writeTo_accepted (d := 0) hw (by rw [heffect]; rfl)
  have hin : Within [.PIN_P_CFG, .PIN_DP_CFG, .PIN_DRIVEN, .PIN_FIELD, .PIN_LEVEL] [] [.seed, .resp]
      (.all [.setR n v g j, .pinRefresh g p, .accept]) :=
    .all ⟨.setR ((by decide : [RegName.PIN_P_CFG, .PIN_DP_CFG] ⊆ [.PIN_P_CFG, .PIN_DP_CFG, .PIN_DRIVEN, .PIN_FIELD, .PIN_LEVEL]) hn),
      Within.pinRefresh.mono, .accept⟩
  have hfunc : F.PIN_P_CFG_FUNC.of (v &&& n.mask) = F.PIN_P_CFG_FUNC.of v := by
    rcases List.mem_pair.mp hn with rfl | rfl
    · exact Fld.of_and_mask (f := F.PIN_P_CFG_FUNC) (by decide) v
    · exact Fld.of_and_mask (f := F.PIN_DP_CFG_FUNC) (by decide) v
  refine ⟨_, rfl, ?_⟩
  rw [hrun, heffect]
  refine ⟨rfl, ?_, ?_, (hin s).namesKept, (hin s).rest⟩
  · have hkept : Within [.PIN_DRIVEN, .PIN_FIELD, .PIN_LEVEL] [] [.seed, .resp] (.all [.pinRefresh g p, .accept]) :=
      .all ⟨Within.pinRefresh.mono, .accept⟩
    rw [State.pinFunc, Act.all_cons_run, (hkept _).pinCfg g p, hcfg, Act.setR_r_stored _ _ hvalid, hfunc]
  · rw [Act.all_cons_run, Act.all_cons_run, Act.all_cons_run, Act.all_nil_run]
    exact (Act.pinRefresh_driven _).trans (congrArg Option.isSome (Act.pinRefresh_pinDrive _).symm)

theorem pinFuncWrite_refused (hw : s.takes src (pinCfgOffset g p)) (hbad : s.pinCfgBad g p v = true) :
    Answers (.pinFuncWrite src g p v) s (Refused F.PIN_REFUSED_COUNT g 0 s) := by
  obtain ⟨n, j, hn, hvalid, hoff, hcfg, hset⟩ := pinCfg_reg g p
  have heffect : (Act.pinCfgWrite g p v).run s = (Act.refuse F.PIN_REFUSED_COUNT g).run s := by
    rw [Act.pinCfgWrite, Act.look_run, hbad]
    rfl
  refine ⟨_, rfl, ?_⟩
  rw [hoff] at hw ⊢
  exact Act.writeTo_refused hw heffect (RegRef.valid_of g.isLt)

/-! ### The stored output bits -/

/-- What a write of the stored output bits leaves, where bit `q` is to be `b q`. -/
def OutBits (g : Grp) (s : State) (b : Pin → Bool) (t : State) : Prop :=
  t.resp = .ok 0 ∧ (∀ q : Pin, t.bit F.PIN_OUT_OUT q g = b q) ∧ NamesKept [.PIN_OUT, .PIN_DRIVEN, .PIN_FIELD, .PIN_LEVEL] s t ∧
  t = { s with regs := t.regs, seed := t.seed, pair := t.pair, resp := t.resp }

theorem Act.pinOutPut_bits {n : RegName} {off x : Nat} {a : Act} {b : Pin → Bool} (hw : s.takesReg src n g) (hstandby : s.standby = false)
    (ha : a.run s = (Act.pinOutPut g x).run s) (hb : ∀ q : Pin, x.testBit q = b q) :
    OutBits g s b ((Act.writeTo src n g 0 0 (.mirrored src off v a)).run s) := by
  obtain ⟨c, hrun⟩ := mirrored_taken (v := v) (off := off) (d := 0) hw hstandby (a := a) (by rw [ha]; rfl)
  have hin : Within [.PIN_OUT, .PIN_DRIVEN, .PIN_FIELD, .PIN_LEVEL] [] [.seed, .pair, .resp] (.pinOutPut g x) :=
    .all ⟨.setF, Within.pinsRefresh.mono, .accept⟩
  have hlast : Within [] [] [.pair] (.when c (.mirrorLater off v)) := .when .mirrorLater
  have htouch := Touches.frame.trans (hin s) (hlast _).mono
  rw [hrun, ha]
  refine ⟨((hlast _).parts .resp (by decide)).trans rfl, fun q => ?_, htouch.namesKept, htouch.rest⟩
  have hset : ((Act.pinOutPut g x).run s).f F.PIN_OUT_OUT g = x % 2 ^ 20 := by
    refine (Act.all_f_head (by exact .all ⟨.of_within Within.pinsRefresh, .of_within (l := []) (ps := [.resp]) .accept⟩)).trans ?_
    exact Act.setF_f_at (n := .PIN_OUT) (RegRef.valid_of g.isLt) x s
  rw [(hlast _).bit_eq q g 0 0, State.bit, hset, Nat.testBit_mod_two_pow, decide_eq_true q.isLt, Bool.true_and, hb]

theorem State.bit_eq_getLsbD {s : State} {f : Fld} {n : RegName} {w b i j k : Nat} (hb : b < w) (hf : f = ⟨n, 0, w⟩ := by rfl) :
    s.bit f b i j k = (s.r n i j k).getLsbD b := by
  subst hf
  rw [State.bit, State.f, Fld.testBit_of, decide_eq_true hb, Bool.true_and, Nat.zero_add]

theorem pinOut_answers (hstandby : s.standby = false) :
    (s.takesReg src .PIN_OUT g → Answers (.pinOutWrite src g v) s (OutBits g s fun q => v.getLsbD q)) ∧
    (s.takesReg src .PIN_OUT_SET g → Answers (.pinOutSet src g v) s (OutBits g s fun q => s.bit F.PIN_OUT_OUT q g || v.getLsbD q)) ∧
    (s.takesReg src .PIN_OUT_CLR g → Answers (.pinOutClr src g v) s (OutBits g s fun q => s.bit F.PIN_OUT_OUT q g && !v.getLsbD q)) ∧
    (s.takesReg src .PIN_OUT_TGL g → Answers (.pinOutTgl src g v) s (OutBits g s fun q => s.bit F.PIN_OUT_OUT q g != v.getLsbD q)) := by
  have hbit : ∀ q : Pin, s.bit F.PIN_OUT_OUT q g = (s.r .PIN_OUT g).getLsbD q := fun q => State.bit_eq_getLsbD q.isLt
  have hlt : ∀ q : Pin, q.val < 32 := fun q => Nat.lt_trans q.isLt (by decide)
  refine ⟨fun hw => ⟨_, rfl, Act.pinOutPut_bits (x := v.toNat) hw hstandby rfl fun q => rfl⟩,
    fun hw => ⟨_, rfl, Act.pinOutPut_bits (x := s.f F.PIN_OUT_OUT g ||| v.toNat) hw hstandby rfl fun q => Nat.testBit_or ..⟩,
    fun hw => ⟨_, rfl, Act.pinOutPut_bits (x := (s.r .PIN_OUT g &&& ~~~v).toNat) hw hstandby rfl fun q => ?_⟩,
    fun hw => ⟨_, rfl, Act.pinOutPut_bits (x := (s.r .PIN_OUT g ^^^ v).toNat) hw hstandby rfl fun q => ?_⟩⟩
  · rw [BitVec.testBit_toNat, BitVec.getLsbD_and, BitVec.getLsbD_not, hbit, decide_eq_true (hlt q), Bool.true_and]
  · rw [BitVec.testBit_toNat, BitVec.getLsbD_xor, hbit]

/-! ### The lock -/

theorem pinLockWrite_step {n : Nat} (hw : s.takesReg src .PIN_LOCK g) (hn : n < 4)
    (heffect : (Act.pinLock g v).run s = (Act.all [.setF F.PIN_LOCKED_STEP n g, .accept]).run s) :
    Answers (.pinLockWrite src g v) s fun t =>
      t.resp = .ok 0 ∧ t.f F.PIN_LOCKED_STEP g = n ∧ t.f F.PIN_LOCKED_LOCKED g = s.f F.PIN_LOCKED_LOCKED g ∧
      RegsKept [⟨.PIN_LOCKED, g, 0, 0⟩] s t ∧ OnlyRegs s t := by
  have hrun := Act.writeTo_accepted (d := 0) hw (a := Act.pinLock g v) (by rw [heffect]; rfl)
  have hin : Within [] [⟨.PIN_LOCKED, g, 0, 0⟩] [.resp] (.all [.setF F.PIN_LOCKED_STEP n g, .accept]) := .all ⟨.setFAt, .accept⟩
  have hwidth : F.PIN_LOCKED_STEP.width = 2 := rfl
  refine ⟨_, rfl, ?_⟩
  rw [hrun, heffect]
  refine ⟨rfl, ?_, ?_, (hin s).regsKept, (hin s).rest⟩
  · simpa +decide [hwidth] using hn
  · simp +decide

theorem pinLockWrite_locks (hw : s.takesReg src .PIN_LOCK g) (hstep : s.f F.PIN_LOCKED_STEP g = 2) (hv : v.toNat < 2 ^ 20) :
    Answers (.pinLockWrite src g v) s fun t =>
      t.resp = .ok 0 ∧ t.f F.PIN_LOCKED_STEP g = 0 ∧ (∀ q : Pin, t.pinLocked g q = (s.pinLocked g q || v.getLsbD q)) ∧
      NamesKept [.PIN_LOCKED, .SYS_LOCKS] s t ∧ OnlyRegs s t := by
  have heffect : (Act.pinLock g v).run s = (Act.all [.setF F.PIN_LOCKED_LOCKED (s.f F.PIN_LOCKED_LOCKED g ||| v.toNat) g,
      .setF F.PIN_LOCKED_STEP 0 g, .locksUpdate g, .accept]).run s := by
    simp only [Act.pinLock, Act.look_run, hstep, hv, if_true]
  have hrun := Act.writeTo_accepted (d := 0) hw (a := Act.pinLock g v) (by rw [heffect]; rfl)
  have hlocks : Within [.SYS_LOCKS] [] [] (.locksUpdate g) := .look fun _ => .putBit
  have hin : Within [.PIN_LOCKED, .SYS_LOCKS] [] [.resp] (.all [.setF F.PIN_LOCKED_LOCKED (s.f F.PIN_LOCKED_LOCKED g ||| v.toNat) g,
      .setF F.PIN_LOCKED_STEP 0 g, .locksUpdate g, .accept]) := .all ⟨.setF, .setF, hlocks.mono, .accept⟩
  have hlast : Within [.SYS_LOCKS] [] [.resp] (.all [.locksUpdate g, .accept]) := .all ⟨hlocks.mono, .accept⟩
  have hwidth : F.PIN_LOCKED_LOCKED.width = 20 := rfl
  refine ⟨_, rfl, ?_⟩
  rw [hrun, heffect]
  refine ⟨rfl, ?_, fun q => ?_, (hin s).namesKept, (hin s).rest⟩
  · rw [Act.all_cons_run, Act.all_cons_run, (hlast _).f_eq g 0 0]
    simp +decide
  · rw [State.pinLocked, Act.all_cons_run, Act.all_cons_run, (hlast _).bit_eq q g 0 0, State.bit]
    simp +decide only [Act.setF_f_kept, Act.setF_f_stored, RegRef.valid_one, hwidth, Nat.testBit_mod_two_pow, Nat.testBit_or,
      decide_eq_true q.isLt, Bool.true_and]
    rfl

theorem pinLockWrite_wrong (hw : s.takesReg src .PIN_LOCK g) (hstep : s.f F.PIN_LOCKED_STEP g = 1) (hv : v ≠ 0x5A) :
    Answers (.pinLockWrite src g v) s fun t =>
      t.resp = .error ∧ Counted F.PIN_REFUSED_COUNT s t g ∧ t.f F.PIN_LOCKED_LOCKED g = s.f F.PIN_LOCKED_LOCKED g := by
  have heffect : (Act.pinLock g v).run s = (Act.all [.count F.PIN_REFUSED_COUNT 1 g, .answer .error,
      .setF F.PIN_LOCKED_STEP (if v = 0xA5 then 1 else 0) g]).run s := by
    simp only [Act.pinLock, Act.look_run, hstep, if_neg hv]
    rfl
  refine ⟨_, rfl, ?_⟩
  rw [Act.writeTo_run hw, heffect]
  refine ⟨?_, ?_, ?_⟩
  · rw [Act.masterCount_resp]
    simp
  · rw [Counted, Act.masterCount_f _ _ _ _ _ (by decide)]
    simp +decide
  · rw [Act.masterCount_f _ _ _ _ _ (by decide)]
    simp +decide

/-- Settles O23. -/
theorem pinWrites : Obligations.PinWrites := by
  unfold Obligations.PinWrites
  intro s src g p v
  refine ⟨pinFuncWrite_answers, pinFuncWrite_refused, pinOut_answers, fun hw => ⟨fun hstep hv => pinLockWrite_step hw (by decide) ?_,
    fun hstep hv => pinLockWrite_step hw (by decide) ?_, pinLockWrite_locks hw, pinLockWrite_wrong hw⟩⟩
  · simp only [Act.pinLock, Act.look_run, hstep, hv, if_true]
  · simp only [Act.pinLock, Act.look_run, hstep, hv, if_true]

/-! ### What comes from outside -/

theorem fieldOverload_answers {p : GPin} (hclass : F.PIN_P_CFG_CLASS.of (s.pinCfg g (p.castLE (by decide))) = 1)
    (hdrive : s.pinDrive g (p.castLE (by decide)) = some true) (hvfld : s.vfldOk g = true)
    (hon : (s.pin g (p.castLE (by decide))).tripped = false) : Answers (.fieldOverload g p) s fun t =>
      (t.pin g (p.castLE (by decide))).tripped = true ∧ (t.pin g (p.castLE (by decide))).tripAt = s.clk ∧
      t.bit F.PIN_FIELD_OVERLOAD p g = true ∧ t = { s with regs := t.regs, pins := t.pins, log := t.log, seed := t.seed } := by
  generalize hq : (p.castLE (by decide) : Pin) = q at *
  have hrun : (Act.fieldOverload g p).run s = (Act.all [.setPin g q fun x => { x with tripped := true, tripAt := s.clk },
      .when (!s.bit F.PIN_FIELD_OVERLOAD p g) (.log 23 (g * 16 + p) []), .setBit F.PIN_FIELD_OVERLOAD p g, .pinRefresh g q]).run s := by
    rw [Act.fieldOverload, Act.look_run]
    simp only [hq]
    rw [if_pos ⟨hclass, hdrive, hvfld, by rw [hon]; rfl⟩]
  have hlater : Within [.PIN_DRIVEN, .PIN_FIELD, .PIN_LEVEL, .FAULT_STATUS, .FAULT_EVENTS] [] [.seed, .log]
      (.all [.when (!s.bit F.PIN_FIELD_OVERLOAD p g) (.log 23 (g * 16 + p) []), .setBit F.PIN_FIELD_OVERLOAD p g, .pinRefresh g q]) :=
    .all ⟨.when .log, .setBit, Within.pinRefresh.mono⟩
  have hin : Within [.PIN_DRIVEN, .PIN_FIELD, .PIN_LEVEL, .FAULT_STATUS, .FAULT_EVENTS] [] [.pins, .log, .seed]
      (.all [.setPin g q fun x => { x with tripped := true, tripAt := s.clk }, .when (!s.bit F.PIN_FIELD_OVERLOAD p g) (.log 23 (g * 16 + p) []),
        .setBit F.PIN_FIELD_OVERLOAD p g, .pinRefresh g q]) := .all ⟨.setPin, .when .log, .setBit, Within.pinRefresh.mono⟩
  refine ⟨_, rfl, ?_⟩
  rw [hrun]
  refine ⟨?_, ?_, ?_, (hin s).rest⟩
  · rw [Act.all_cons_run, (hlater _).pin g q, Act.setPin_same]
  · rw [Act.all_cons_run, (hlater _).pin g q, Act.setPin_same]
  · rw [Act.all_cons_run, Act.all_cons_run]
    refine (Act.all_bit_head (by exact .all Leaves.pinRefresh_overload)).trans ?_
    exact Act.setBit_bit_stored _ (RegRef.valid_of g.isLt) (by decide) p.isLt

section
variable {p : GPin} (htripped : (s.pin g (p.castLE (by decide))).tripped = true)
  (hdrive : s.pinDrive g (p.castLE (by decide)) = some true) (hdue : (s.pin g (p.castLE (by decide))).tripAt + 16384000 ≤ s.clk)
include htripped hdrive hdue

theorem fieldRetry_fails : Answers (.fieldRetry g p true) s fun t =>
    Counted F.PIN_DP_STATUS_OVL_COUNT s t g ∧ (t.pin g (p.castLE (by decide))).tripped = true ∧
    (t.pin g (p.castLE (by decide))).tripAt = s.clk ∧ RegsKept [⟨.PIN_DP_STATUS, g, 0, 0⟩] s t ∧ t = { s with regs := t.regs, pins := t.pins } := by
  generalize hq : (p.castLE (by decide) : Pin) = q at *
  have hrun : (Act.fieldRetry g p true).run s =
      (Act.all [.count F.PIN_DP_STATUS_OVL_COUNT 1 g, .setPin g q fun x => { x with tripAt := s.clk }]).run s := by
    rw [Act.fieldRetry, Act.look_run]
    simp only [hq]
    rw [if_pos ⟨htripped, hdrive, hdue⟩, if_pos trivial]
  have hcount : Within [.PIN_DP_STATUS] [] [] (.count F.PIN_DP_STATUS_OVL_COUNT 1 g) := .count
  have hin : Within [] [⟨.PIN_DP_STATUS, g, 0, 0⟩] [.pins]
      (.all [.count F.PIN_DP_STATUS_OVL_COUNT 1 g, .setPin g q fun x => { x with tripAt := s.clk }]) := .all ⟨.countAt, .setPin⟩
  refine ⟨_, rfl, ?_⟩
  rw [hrun]
  refine ⟨?_, ?_, ?_, (hin s).regsKept, (hin s).rest⟩
  · simp +decide [Counted]
  · rw [Act.all_cons_run, Act.all_cons_run, Act.all_nil_run, Act.setPin_same, (hcount s).pin g q, htripped]
  · rw [Act.all_cons_run, Act.all_cons_run, Act.all_nil_run, Act.setPin_same]

theorem fieldRetry_ends : Answers (.fieldRetry g p false) s fun t =>
    (t.pin g (p.castLE (by decide))).tripped = false ∧ NamesKept [.PIN_DRIVEN, .PIN_FIELD, .PIN_LEVEL] s t ∧
    t = { s with regs := t.regs, pins := t.pins, seed := t.seed } := by
  generalize hq : (p.castLE (by decide) : Pin) = q at *
  have hrun : (Act.fieldRetry g p false).run s = (Act.all [.setPin g q fun x => { x with tripped := false }, .pinRefresh g q]).run s := by
    rw [Act.fieldRetry, Act.look_run]
    simp only [hq]
    rw [if_pos ⟨htripped, hdrive, hdue⟩, if_neg Bool.false_ne_true]
  have hin : Within [.PIN_DRIVEN, .PIN_FIELD, .PIN_LEVEL] [] [.pins, .seed]
      (.all [.setPin g q fun x => { x with tripped := false }, .pinRefresh g q]) := .all ⟨.setPin, Within.pinRefresh.mono⟩
  refine ⟨_, rfl, ?_⟩
  rw [hrun]
  refine ⟨?_, (hin s).namesKept, (hin s).rest⟩
  rw [Act.all_cons_run, Act.all_cons_run, Act.all_nil_run, (Within.pinRefresh _).pin g q, Act.setPin_same]

end

/-! ### A level from outside -/

/-- R321: what an outside source sets at a pin, at system clock `clk`. -/
def PinSt.outside (x : PinSt) (level : Option Bool) (clk : Nat) : PinSt :=
  { x with ext := level, extAt := if x.ext.isSome = level.isSome then x.extAt else clk }

theorem Act.pinOutside_pin (level : Option Bool) (s : State) : ((Act.pinOutside g p level).run s).pin g p = (s.pin g p).outside level s.clk := by
  rw [Act.pinOutside, Act.look_run, Act.setPin_same, PinSt.outside]

theorem Within.pinOutside {l : List RegName} {rs : List RegRef} {level : Option Bool} : Within l rs [.pins] (.pinOutside g p level) :=
  .look fun _ => .setPin

/-- R324: a pair whose fail-safe begins. -/
theorem pairFailsafe_answers {d : Dp} (halive : s.alive g = true) : Answers (.pairFailsafe g d) s fun t =>
    t.bit F.PIN_DP_STATUS_FS_NOW d g = true ∧ t.bit F.PIN_DP_STATUS_FS d g = true ∧ (t.pin g ⟨16 + d.val, by omega⟩).ext = none ∧
    (s.pinFunc g ⟨16 + d.val, by omega⟩ ≠ 0 → s.pinDrive g ⟨16 + d.val, by omega⟩ = none →
      t.bit F.PIN_LEVEL_LEVEL (16 + d.val) g = true) := by
  generalize hq : (⟨16 + d.val, by omega⟩ : Pin) = q at *
  have hqv : q.val = 16 + d.val := by rw [← hq]
  have hrun : (Act.pairFailsafe g d).run s = (Act.all [.pinOutside g q none, .setBit F.PIN_DP_STATUS_FS_NOW d g,
      .setBit F.PIN_DP_STATUS_FS d g, .pinRefresh g q]).run s := by
    have hkept : ((Act.pinOutside g q none).run s).alive g = s.alive g := rfl
    rw [Act.pairFailsafe, Act.andThen_run, Act.look_run, hq, hkept, halive, Act.when_true_run]
    rfl
  have hlater : Within [.PIN_DP_STATUS] [] [] (.all [.setBit F.PIN_DP_STATUS_FS_NOW d g, .setBit F.PIN_DP_STATUS_FS d g]) := .all ⟨.setBit, .setBit⟩
  have hshow : Within [.PIN_DRIVEN, .PIN_FIELD, .PIN_LEVEL] [] [.seed] (.pinRefresh g q) := Within.pinRefresh
  have hsplit : ∀ a b c e : Act, (Act.all [a, b, c, e]).run s = e.run ((Act.all [b, c]).run (a.run s)) := fun a b c e => rfl
  have hbefore : ((Act.all [.setBit F.PIN_DP_STATUS_FS_NOW d g, .setBit F.PIN_DP_STATUS_FS d g]).run ((Act.pinOutside g q none).run s)).pin g q =
      (s.pin g q).outside none s.clk := by rw [(hlater _).pin g q, Act.pinOutside_pin]
  refine ⟨_, rfl, ?_⟩
  rw [hrun]
  refine ⟨?_, ?_, ?_, fun hfunc hdrive => ?_⟩
  · rw [hsplit, (hshow _).bit_eq d g 0 0, Act.all_cons_run, Leaves.bit (.all (by exact .setBit))]
    exact Act.setBit_bit_stored _ (RegRef.valid_of g.isLt) (by decide) d.isLt
  · rw [hsplit, (hshow _).bit_eq d g 0 0, Act.all_cons_run, Act.all_cons_run, Act.all_nil_run]
    exact Act.setBit_bit_stored _ (RegRef.valid_of g.isLt) (by decide) d.isLt
  · rw [hsplit, (hshow _).pin g q, hbefore]
    rfl
  · have houtside : Within [.PIN_DP_STATUS] [] [.pins] (.pinOutside g q none) := Within.pinOutside
    have htouch := Touches.frame.trans (houtside s) ((hlater _).mono)
    rw [hsplit]
    generalize (Act.all [.setBit F.PIN_DP_STATUS_FS_NOW d g, .setBit F.PIN_DP_STATUS_FS d g]).run ((Act.pinOutside g q none).run s) = t
      at hbefore htouch ⊢
    have hdrive' : t.pinDrive g q = none := by
      rw [htouch.pinDrive g q (by rw [hbefore]; exact ⟨rfl, rfl, rfl⟩), hdrive]
    have hfunc' : t.pinFunc g q ≠ 0 := by rwa [State.pinFunc, htouch.pinCfg g q]
    have hlevel : t.pinLevel g q = some true := by
      rw [State.pinLevel, if_neg hfunc', hbefore, State.pinHeld, if_pos (by omega), hdrive', if_pos (by omega)]
      rfl
    have hbit := (Act.pinRefresh_specified hlevel).2
    rwa [hqv] at hbit

/-- R321: the level that an outside source sets is read, where the pin has a function. -/
theorem State.pinLevel_outside {t : State} {l : Bool} (h : (t.pin g p).ext = some l) : t.pinLevel g p = some (t.pinFunc g p != 0 && l) := by
  rw [State.pinLevel, h]
  by_cases hfunc : t.pinFunc g p = 0
  · rw [if_pos hfunc, hfunc]
    rfl
  · rw [if_neg hfunc, bne_iff_ne.mpr hfunc, Bool.true_and]

theorem pinLevelChange_answers (l : Bool) : Answers (.pinLevelChange g p (some l)) s fun t =>
    (t.pin g p).ext = some l ∧ t.bit F.PIN_LEVEL_LEVEL p g = (s.pinFunc g p != 0 && l) ∧
    (16 ≤ p.val → t.bit F.PIN_DP_STATUS_FS_NOW (p.val - 16) g = false) ∧
    NamesKept [.PIN_DRIVEN, .PIN_FIELD, .PIN_LEVEL, .PIN_DP_STATUS] s t ∧ t = { s with regs := t.regs, pins := t.pins } := by
  have hp := p.isLt
  have hclear : Within [.PIN_DP_STATUS] [] [] (.when (decide (16 ≤ p.val)) (.clrBit F.PIN_DP_STATUS_FS_NOW (p - 16) g)) := .when .clrBit
  have hrun : (Act.pinExternal g p (some l)).run s = (Act.pinRefresh g p).run
      ((Act.when (decide (16 ≤ p.val)) (.clrBit F.PIN_DP_STATUS_FS_NOW (p - 16) g)).run ((Act.pinOutside g p (some l)).run s)) := by
    by_cases h : 16 ≤ p.val
    · rw [Act.pinExternal, dif_pos h, decide_eq_true h, Act.when_true_run]
      rfl
    · rw [Act.pinExternal, dif_neg h, decide_eq_false h]
      rfl
  have houtside : Within [.PIN_DP_STATUS] [] [.pins] (.pinOutside g p (some l)) := Within.pinOutside
  have hfs : 16 ≤ p.val → ((Act.when (decide (16 ≤ p.val)) (.clrBit F.PIN_DP_STATUS_FS_NOW (p - 16) g)).run
      ((Act.pinOutside g p (some l)).run s)).bit F.PIN_DP_STATUS_FS_NOW (p.val - 16) g = false := fun h => by
    rw [decide_eq_true h, Act.when_true_run]
    exact Act.clrBit_bit_stored _ (RegRef.valid_of g.isLt) (by decide) (show p.val - 16 < 4 by omega)
  have hpin := Eq.trans ((hclear _).pin g p) (Act.pinOutside_pin (g := g) (p := p) (some l) s)
  have htouch := Touches.frame.trans (houtside s) (hclear _).mono
  refine ⟨_, rfl, ?_⟩
  rw [hrun]
  generalize (Act.when (decide (16 ≤ p.val)) (.clrBit F.PIN_DP_STATUS_FS_NOW (p - 16) g)).run ((Act.pinOutside g p (some l)).run s) = t
    at hpin htouch hfs ⊢
  obtain ⟨hshow, hlevel⟩ := Act.pinRefresh_specified (State.pinLevel_outside (t := t) (g := g) (p := p) (l := l) (by rw [hpin]; rfl))
  have hall := Touches.frame.trans (htouch.mono (l' := [.PIN_DRIVEN, .PIN_FIELD, .PIN_LEVEL, .PIN_DP_STATUS]) (rs' := []) (ps' := [.pins])) hshow.mono
  refine ⟨?_, ?_, fun h => ?_, hall.namesKept, hall.rest⟩
  · rw [hshow.pin g p, hpin]
    rfl
  · rw [hlevel, State.pinFunc, htouch.pinCfg g p, State.pinFunc]
  · rw [hshow.bit_eq _ _ _ _, hfs h]

/-- Settles O24. -/
theorem pinEvents : Obligations.PinEvents := by
  unfold Obligations.PinEvents
  intro s g p d q l
  exact ⟨fieldOverload_answers, fun htripped hdrive hdue => ⟨fieldRetry_fails htripped hdrive hdue, fieldRetry_ends htripped hdrive hdue⟩,
    pairFailsafe_answers, pinLevelChange_answers l⟩

end Sys2Proof.Machine
end

section
-- One proof after another: elaborated side by side, the proofs of the whole text do not fit in the check's memory.
set_option Elab.async false
/-! The comparators: their configuration, their raw level and their filter (R313 to R319). -/

namespace Sys2Proof.Machine

variable {s : State} {src : Src} {g : Grp} {k : Kmp} {v : Word}

theorem Act.setKmp_same (f : CmpSt → CmpSt) (s : State) : ((Act.setKmp g k f).run s).kmp g k = f (s.kmp g k) :=
  (getElem_set_set s.cmps g g k k _).trans (if_pos ⟨rfl, rfl⟩)

theorem Touches.kmp {l : List RegName} {rs : List RegRef} {ps : List Part} {s t : State} (h : Touches l rs ps s t) (g : Grp) (k : Kmp)
    (hp : Part.cmps ∉ ps := by decide) : t.kmp g k = s.kmp g k := by
  rw [State.kmp, h.parts .cmps hp]
  rfl

@[simp] theorem Act.accept_kmp (s : State) : (Act.accept.run s).kmp g k = s.kmp g k := rfl

/-! ### The level of a comparator -/

/-- The registers that a change of a comparator's level may change. -/
abbrev levelNames : List RegName := [.CMP_STATUS, .CMP_LEVELS, .PIN_DRIVEN, .PIN_FIELD, .PIN_LEVEL]

theorem Within.cmpUsers : Within [.PIN_DRIVEN, .PIN_FIELD, .PIN_LEVEL] [] [.seed] (.cmpUsers g k) :=
  .look fun _ => .each fun _ => .when Within.pinRefresh

theorem Within.cmpLevel {x : Bool} : Within levelNames [] [.seed] (.cmpLevel g k x) :=
  .look fun _ => .ite .skip (.all ⟨.setB, .putBit, .count, Within.cmpUsers.mono⟩)

theorem Leaves.cmpLevel {f : Fld} {x : Bool} (hf : f.name = .CMP_STATUS := by rfl)
    (h : (F.CMP_STATUS_LEVEL.spares f && F.CMP_STATUS_EDGES.spares f && F.CMP_LEVELS_LEVELS.spares f && f.inMask) = true := by decide) :
    Leaves f (.cmpLevel g k x) := by
  simp only [Bool.and_eq_true] at h
  obtain ⟨⟨⟨hlevel, hedges⟩, hlevels⟩, hm⟩ := h
  exact .look fun _ => .ite .skip (.all ⟨.setB hlevel hm, .putBit hlevels hm, .count hedges hm, .of_within Within.cmpUsers (by rw [hf]; decide)⟩)

theorem Act.cmpLevel_cmpF (x : Bool) (s : State) : ((Act.cmpLevel g k x).run s).cmpF g k = x := by
  rw [Act.cmpLevel, Act.look_run]
  split
  · assumption
  · refine (Act.all_b_head ?_).trans (Act.setB_b_at (n := .CMP_STATUS) (RegRef.valid_of g.isLt k.isLt) _ _)
    exact .all ⟨.putBit, .count, .of_within Within.cmpUsers⟩

/-- R315: a change of the level is counted. -/
theorem Act.cmpLevel_edges {x : Bool} (h : s.cmpF g k ≠ x) : Counted F.CMP_STATUS_EDGES s ((Act.cmpLevel g k x).run s) g k := by
  have hset : Within [.CMP_STATUS, .CMP_LEVELS] [] [] (.all [.setB F.CMP_STATUS_LEVEL x g k, .putBit F.CMP_LEVELS_LEVELS k x g]) := .all ⟨.setB, .putBit⟩
  have hkept : Leaves F.CMP_STATUS_EDGES (.all [.setB F.CMP_STATUS_LEVEL x g k, .putBit F.CMP_LEVELS_LEVELS k x g]) := .all ⟨.setB, .putBit⟩
  have hrun : (Act.cmpLevel g k x).run s = (Act.cmpUsers g k).run ((Act.count F.CMP_STATUS_EDGES 1 g k).run
      ((Act.all [.setB F.CMP_STATUS_LEVEL x g k, .putBit F.CMP_LEVELS_LEVELS k x g]).run s)) := by
    rw [Act.cmpLevel, Act.look_run, if_neg h]
    rfl
  rw [Counted, hrun, (Within.cmpUsers _).f_eq g k 0, Act.count_f_same _ _ _ _ (RegRef.valid_of g.isLt k.isLt) (by decide), hkept s]

/-- R315: the level that at least N of the last M samples have. -/
def State.majority (s : State) (g : Grp) (k : Kmp) : Bool :=
  if s.f F.CMP_CFG_N g k ≤ (s.kmp g k).samples.count true then true
  else if s.f F.CMP_CFG_N g k ≤ (s.kmp g k).samples.count false then false
  else s.cmpF g k

theorem Act.cmpMajority_run (s : State) : (Act.cmpMajority g k).run s = (Act.cmpLevel g k (s.majority g k)).run s := by
  simp only [Act.cmpMajority, Act.look_run, State.majority]
  split
  · rfl
  · split
    · rfl
    · rw [Act.cmpLevel, Act.look_run, if_pos rfl]

theorem Within.cmpMajority : Within levelNames [] [.seed] (.cmpMajority g k) := fun s => by
  rw [Act.cmpMajority_run]
  exact Within.cmpLevel s

theorem Leaves.cmpMajority {f : Fld} (hf : f.name = .CMP_STATUS := by rfl)
    (h : (F.CMP_STATUS_LEVEL.spares f && F.CMP_STATUS_EDGES.spares f && F.CMP_LEVELS_LEVELS.spares f && f.inMask) = true := by decide) :
    Leaves f (.cmpMajority g k) := fun s => by
  rw [Act.cmpMajority_run]
  exact Leaves.cmpLevel hf h s

/-! ### Configuration -/

theorem Within.cmpOff : Within levelNames [] [.cmps, .seed] (.cmpOff g k) :=
  .look fun _ => .all ⟨.setKmp, .setB, .setB, .when Within.cmpLevel.mono⟩

theorem Within.cmpEdgeWaits {l : List RegName} {r : CmpRun} : Within l [] [.cmps] (.cmpEdgeWaits g k r) := .look fun _ => .setKmp

theorem Within.cmpFollow : Within levelNames [] [.cmps, .seed] (.cmpFollow g k) :=
  .look fun _ => .ite .skip (.ite .setKmp (.ite Within.cmpOff ((Within.cmpEdgeWaits (l := [])).mono)))

/-- What a CFG word that is taken does to the set that governs the comparator. -/
def Act.cmpCfgFollow (g : Grp) (k : Kmp) (again : Bool) : Act := if again then .cmpEdgeWaits g k .nv else .cmpFollow g k

theorem Within.cmpCfgFollow {again : Bool} : Within levelNames [] [.cmps, .seed] (.cmpCfgFollow g k again) := .ite (Within.cmpEdgeWaits (l := [])).mono Within.cmpFollow

theorem Act.cmpFollow_enabled (hoff : (s.kmp g k).run = .off) (hwant : (s.kmp g k).want = none) (hwanted : s.cmpWanted g k = .configured) :
    (Act.cmpFollow g k).run s = (Act.setKmp g k fun x => { x with want := some (.configured, s.clk) }).run s := by
  simp only [Act.cmpFollow, Act.look_run, hoff, hwant, hwanted]
  rfl

theorem State.cmpWanted_configured (halive : s.alive g = true) (hreleased : s.released = true) (hfull : s.mode reducedMode = false)
    (hon : s.b F.CMP_CFG_ENABLE g k = true) : s.cmpWanted g k = .configured := by
  rw [State.cmpWanted, halive, hfull, hreleased, hon]
  rfl

theorem cmpCfgWrite_answers (hw : s.takesReg src .CMP_CFG g k) (hgood : s.cmpCfgRefused g k v = false) :
    Answers (.cmpCfgWrite src g k v) s fun t =>
      t.resp = .ok 0 ∧ t.r .CMP_CFG g k = v &&& RegName.mask .CMP_CFG ∧
      ((s.kmp g k).run = .off → (s.kmp g k).want = none → s.alive g = true → s.released = true → s.mode reducedMode = false →
        F.CMP_CFG_ENABLE.of v = 1 → (t.kmp g k).want = some (.configured, s.clk) ∧ (t.kmp g k).run = .off) := by
  obtain ⟨again, hagain⟩ : ∃ again : Bool, again = decide ((s.kmp g k).run = .nv ∧ (s.r .CMP_CFG g k ^^^ v) &&& 0x003FFFF6 ≠ 0) := ⟨_, rfl⟩
  have heffect : (Act.cmpCfg g k v).run s = (Act.all [.setR .CMP_CFG v g k, .cmpCfgFollow g k again, .accept]).run s := by
    rw [Act.cmpCfg, Act.look_run, hgood, if_neg Bool.false_ne_true, Act.cmpCfgFollow, hagain]
    simp only [decide_eq_true_eq]
  have hrun := Act.writeTo_accepted (d := 0) hw (a := Act.cmpCfg g k v) (by rw [heffect]; rfl)
  have hset : Within [.CMP_CFG] [] [] (.setR .CMP_CFG v g k) := .setR
  have hlater : Within levelNames [] [.cmps, .seed, .resp] (.all [.cmpCfgFollow g k again, .accept]) := .all ⟨Within.cmpCfgFollow.mono, .accept⟩
  refine ⟨_, rfl, ?_⟩
  rw [hrun, heffect]
  refine ⟨rfl, ?_, fun hoff hwant halive hreleased hfull hon => ?_⟩
  · rw [Act.all_cons_run, (hlater _).r_eq g k 0, Act.setR_r_stored _ _ (RegRef.valid_of g.isLt k.isLt)]
  · have hnot : again = false := by rw [hagain, hoff]; exact decide_eq_false fun h => absurd h.1 (by decide)
    have hkmp := (hset s).kmp g k
    have hwanted : ((Act.setR .CMP_CFG v g k).run s).cmpWanted g k = .configured := by
      refine State.cmpWanted_configured ?_ ?_ ?_ ?_
      · rw [State.alive, (hset s).parts .pwr (by decide)]; exact halive
      · rw [State.released, (hset s).parts .pwr (by decide)]; exact hreleased
      · rw [(hset s).mode, hfull]
      · rw [State.b, Act.setR_f_at (RegRef.valid_of g.isLt k.isLt), hon]; rfl
    have hclk : ((Act.setR .CMP_CFG v g k).run s).clk = s.clk := (hset s).parts .clk (by decide)
    have hfollow := Act.cmpFollow_enabled (by rw [hkmp, hoff]) (by rw [hkmp, hwant]) hwanted
    have hend : ((Act.all [.setR .CMP_CFG v g k, .cmpCfgFollow g k again, .accept]).run s).kmp g k =
        { s.kmp g k with want := some (.configured, s.clk) } := by
      rw [hnot, Act.all_cons_run, Act.all_cons_run, Act.cmpCfgFollow, if_neg Bool.false_ne_true, hfollow, hclk, Act.all_cons_run,
        Act.all_nil_run, Act.accept_kmp, Act.setKmp_same, hkmp]
    rw [hend]
    exact ⟨rfl, hoff⟩

theorem cmpCfgWrite_refused (hw : s.takesReg src .CMP_CFG g k) (hbad : s.cmpCfgRefused g k v = true) :
    Answers (.cmpCfgWrite src g k v) s (Refused F.CMP_REFUSED_COUNT g 0 s) := by
  refine ⟨_, rfl, Act.writeTo_refused hw ?_ (RegRef.valid_of g.isLt)⟩
  rw [Act.cmpCfg, Act.look_run, hbad, if_pos rfl]

/-! ### Thresholds -/

theorem cmpThresholdWrite_thr (hw : s.takesReg src .CMP_THR g k)
    (hrule : cmpRule (s.f F.CMP_CFG_MODE g k) (signed 14 (F.CMP_THR_A.of v)) (signed 14 (F.CMP_THR_B.of v)) (s.f F.CMP_HYST_HYST g k) = true) :
    Answers (.cmpThresholdWrite src g k false v) s fun t =>
      t.resp = .ok 0 ∧ t.r .CMP_THR g k = v &&& RegName.mask .CMP_THR ∧
      ((s.kmp g k).run = .configured → (t.kmp g k).thrAt = some s.clk) ∧
      RegsKept [⟨.CMP_THR, g, k, 0⟩] s t ∧ t = { s with regs := t.regs, cmps := t.cmps, resp := t.resp } := by
  have heffect : (Act.cmpThr g k false v).run s = (Act.all [.setR .CMP_THR v g k,
      .when ((s.kmp g k).run == .configured) (.setKmp g k fun x => { x with thrAt := some s.clk }), .accept]).run s := by
    have hkeeps : cmpRule (s.f F.CMP_CFG_MODE g k) (signed 14 (F.CMP_THR_A.of v)) (signed 14 (F.CMP_THR_B.of v)) (s.cmpConfigured g k).hyst = true := hrule
    simp only [Act.cmpThr, Act.look_run, Bool.false_eq_true, if_false, hkeeps, Bool.not_true]
  have hrun := Act.writeTo_accepted (d := 0) hw (a := Act.cmpThr g k false v) (by rw [heffect]; rfl)
  have hin : Within [] [⟨.CMP_THR, g, k, 0⟩] [.cmps, .resp] (.all [.setR .CMP_THR v g k,
      .when ((s.kmp g k).run == .configured) (.setKmp g k fun x => { x with thrAt := some s.clk }), .accept]) :=
    .all ⟨.setRAt, .when .setKmp, .accept⟩
  have hlater : Within [] [] [.cmps, .resp] (.all [.when ((s.kmp g k).run == .configured) (.setKmp g k fun x => { x with thrAt := some s.clk }),
      .accept]) := .all ⟨.when .setKmp, .accept⟩
  refine ⟨_, rfl, ?_⟩
  rw [show (Act.writeTo src (if false = true then .CMP_HYST else .CMP_THR) g k 0 (Act.cmpThr g k false v)).run s = _ from hrun, heffect]
  refine ⟨rfl, ?_, fun hconf => ?_, (hin s).regsKept, (hin s).rest⟩
  · rw [Act.all_cons_run, (hlater _).r_eq g k 0, Act.setR_r_stored _ _ (RegRef.valid_of g.isLt k.isLt)]
  · rw [Act.all_cons_run, Act.all_cons_run, Act.all_cons_run, Act.all_nil_run, hconf, beq_self_eq_true, Act.when_true_run, Act.accept_kmp,
      Act.setKmp_same]

theorem cmpThresholdWrite_hyst (hw : s.takesReg src .CMP_HYST g k)
    (hrule : cmpRule (s.f F.CMP_CFG_MODE g k) (signed 14 (s.f F.CMP_THR_A g k)) (signed 14 (s.f F.CMP_THR_B g k)) (F.CMP_HYST_HYST.of v) = true) :
    Answers (.cmpThresholdWrite src g k true v) s fun t =>
      t.resp = .ok 0 ∧ t.f F.CMP_HYST_HYST g k = F.CMP_HYST_HYST.of v ∧ RegsKept [⟨.CMP_HYST, g, k, 0⟩] s t := by
  have heffect : (Act.cmpThr g k true v).run s = (Act.all [.setR .CMP_HYST v g k,
      .when ((s.kmp g k).run == .configured) (.setKmp g k fun x => { x with thrAt := some s.clk }), .accept]).run s := by
    have hkeeps : cmpRule (s.f F.CMP_CFG_MODE g k) (s.cmpConfigured g k).a (s.cmpConfigured g k).b (F.CMP_HYST_HYST.of v) = true := hrule
    simp only [Act.cmpThr, Act.look_run, if_true, hkeeps, Bool.not_true, Bool.false_eq_true, if_false]
  have hrun := Act.writeTo_accepted (d := 0) hw (a := Act.cmpThr g k true v) (by rw [heffect]; rfl)
  have hin : Within [] [⟨.CMP_HYST, g, k, 0⟩] [.cmps, .resp] (.all [.setR .CMP_HYST v g k,
      .when ((s.kmp g k).run == .configured) (.setKmp g k fun x => { x with thrAt := some s.clk }), .accept]) :=
    .all ⟨.setRAt, .when .setKmp, .accept⟩
  have hlater : Within [] [] [.cmps, .resp] (.all [.when ((s.kmp g k).run == .configured) (.setKmp g k fun x => { x with thrAt := some s.clk }),
      .accept]) := .all ⟨.when .setKmp, .accept⟩
  refine ⟨_, rfl, ?_⟩
  rw [show (Act.writeTo src (if true = true then .CMP_HYST else .CMP_THR) g k 0 (Act.cmpThr g k true v)).run s = _ from hrun, heffect]
  refine ⟨rfl, ?_, (hin s).regsKept⟩
  rw [Act.all_cons_run, (hlater _).f_eq g k 0, Act.setR_f_at (RegRef.valid_of g.isLt k.isLt)]

/-! ### The raw level -/

/-- R314: the raw level that a running comparator takes. -/
def State.rawLevel (s : State) (g : Grp) (k : Kmp) : Bool := (s.cmpNow g k).getD (s.b F.CMP_STATUS_RAW g k)

theorem Within.cmpRaw : Within [] [⟨.CMP_STATUS, g, k, 0⟩] [] (.cmpRaw g k) := .look fun s => .when (by
  cases s.cmpNow g k
  · exact .skip
  · exact .setBAt)

theorem Act.cmpRaw_raw (hruns : (s.kmp g k).run ≠ .off) : ((Act.cmpRaw g k).run s).b F.CMP_STATUS_RAW g k = s.rawLevel g k := by
  rw [Act.cmpRaw, Act.look_run, bne_iff_ne.mpr hruns, Act.when_true_run, State.rawLevel]
  cases s.cmpNow g k
  · rfl
  · exact Act.setB_b_at (n := .CMP_STATUS) (RegRef.valid_of g.isLt k.isLt) _ _

theorem Leaves.cmpRaw {f : Fld} (h : F.CMP_STATUS_RAW.spares f = true := by decide) (hm : f.inMask = true := by decide) :
    Leaves f (.cmpRaw g k) := .look fun s => .when (by
  cases s.cmpNow g k
  · exact .skip
  · exact .setB h hm)

theorem cmpRawChange_answers (hruns : (s.kmp g k).run ≠ .off) : Answers (.cmpRawChange g k ()) s fun t =>
    let c := s.kmp g k
    t.b F.CMP_STATUS_RAW g k = (cmpCall (s.f F.CMP_CFG_MODE g k) c.a c.b c.hyst (s.cmpInput g k)).getD (s.b F.CMP_STATUS_RAW g k) ∧
    RegsKept [⟨.CMP_STATUS, g, k, 0⟩] s t ∧ OnlyRegs s t :=
  ⟨_, rfl, Act.cmpRaw_raw hruns, (Within.cmpRaw s).regsKept, ((Within.cmpRaw s).mono (l' := []) (rs' := [⟨.CMP_STATUS, g, k, 0⟩]) (ps' := [.resp])).rest⟩

/-! ### The filter -/

/-- The filter edge of a comparator has passed. -/
def Act.edgePasses (g : Grp) (k : Kmp) (clk : Nat) : Act := .setKmp g k fun x => { x with edgeAt := some clk }

section
variable (hdue : s.cmpEdgeDue g k = true)
include hdue

theorem Act.cmpFilter_sampling (hruns : (s.kmp g k).run ≠ .off) (hwant : (s.kmp g k).want = none) :
    (Act.cmpFilter g k).run s = (Act.cmpSample g k).run ((Act.cmpThrTake g k).run ((Act.edgePasses g k s.clk).run s)) := by
  simp only [Act.cmpFilter, Act.look_run, hdue, Act.when_true_run, Act.andThen_run, hwant, bne_iff_ne.mpr hruns, Act.edgePasses,
    Act.all_cons_run, Act.all_nil_run]

theorem Act.cmpFilter_enabling {r : CmpRun} {n : Nat} {c : CmpSet} (hwant : (s.kmp g k).want = some (r, n)) (hset : s.cmpSet g k r = some c) :
    (Act.cmpFilter g k).run s = (Act.cmpPreset g k r c).run ((Act.edgePasses g k s.clk).run s) := by
  simp only [Act.cmpFilter, Act.look_run, hdue, Act.when_true_run, Act.andThen_run, hwant, hset, Act.edgePasses]

end

/-- The raw level is sampled. -/
def CmpSt.sampled (c : CmpSt) (raw : Bool) (m : Nat) : CmpSt := { c with samples := (raw :: c.samples).take m }

/-- What the filter samples. -/
def Act.takeSample (g : Grp) (k : Kmp) : Act := .look fun s =>
  .setKmp g k fun c => c.sampled (s.b F.CMP_STATUS_RAW g k) (s.f F.CMP_CFG_M g k)

theorem Act.cmpSample_run (s : State) : (Act.cmpSample g k).run s =
    (Act.cmpMajority g k).run ((Act.takeSample g k).run ((Act.cmpRaw g k).run s)) := rfl

theorem Within.takeSample : Within [] [] [.cmps] (.takeSample g k) := .look fun _ => .setKmp

/-- What a running filter samples, and the state it judges. -/
theorem Act.cmpSample_sampled (hruns : (s.kmp g k).run ≠ .off) :
    ∃ t, (Act.cmpSample g k).run s = (Act.cmpLevel g k (t.majority g k)).run t ∧
      t.kmp g k = (s.kmp g k).sampled (s.rawLevel g k) (s.f F.CMP_CFG_M g k) ∧ (∀ j, t.f F.CMP_CFG_N g j = s.f F.CMP_CFG_N g j) ∧
      t.cmpF g k = s.cmpF g k ∧ t.f F.CMP_STATUS_EDGES g k = s.f F.CMP_STATUS_EDGES g k := by
  have hraw : Within [.CMP_STATUS] [] [] (.cmpRaw g k) := Within.cmpRaw.byName (by simp)
  refine ⟨(Act.takeSample g k).run ((Act.cmpRaw g k).run s), (Act.cmpSample_run s).trans (Act.cmpMajority_run _), ?_, fun j => ?_, ?_, ?_⟩
  · rw [Act.takeSample, Act.look_run, Act.setKmp_same, (hraw s).kmp g k, Act.cmpRaw_raw hruns, (hraw s).f_eq g k 0]
  · rw [(Within.takeSample _).f_eq g j 0, (hraw s).f_eq g j 0]
  · exact ((Within.takeSample _).b_eq g k 0).trans (Leaves.b Leaves.cmpRaw s g k 0)
  · exact ((Within.takeSample _).f_eq g k 0).trans ((Leaves.cmpRaw (g := g) (k := k) (f := F.CMP_STATUS_EDGES)) s g k 0)

theorem Within.cmpThrTake : Within [] [] [.cmps] (.cmpThrTake g k) := .look fun _ => .when .setKmp

theorem cmpFilterChange_samples (hdue : s.cmpEdgeDue g k = true) (hruns : (s.kmp g k).run ≠ .off) (hwant : (s.kmp g k).want = none)
    (hthr : (s.kmp g k).thrAt = none) : Answers (.cmpFilterChange g k) s fun t =>
      let l := (s.cmpNow g k).getD (s.b F.CMP_STATUS_RAW g k)
      let w := (l :: (s.kmp g k).samples).take (s.f F.CMP_CFG_M g k)
      let n := s.f F.CMP_CFG_N g k
      (t.kmp g k).samples = w ∧ (t.kmp g k).edgeAt = some s.clk ∧
      t.cmpF g k = (if n ≤ w.count true then true else if n ≤ w.count false then false else s.cmpF g k) ∧
      (t.cmpF g k ≠ s.cmpF g k → Counted F.CMP_STATUS_EDGES s t g k) := by
  obtain ⟨u, hu⟩ : ∃ u, u = (Act.edgePasses g k s.clk).run s := ⟨_, rfl⟩
  have hedge : u.kmp g k = { s.kmp g k with edgeAt := some s.clk } := hu ▸ Act.setKmp_same _ s
  have htake : (Act.cmpThrTake g k).run u = u := by
    rw [Act.cmpThrTake, Act.look_run, hedge, hthr]
    rfl
  have hraw : u.rawLevel g k = s.rawLevel g k := by
    rw [State.rawLevel, State.cmpNow, hedge, hu]
    rfl
  have hf : ∀ f i j, u.f f i j = s.f f i j := fun f i j => by rw [hu]; rfl
  obtain ⟨t, hrun, hkmp, hn, hlevel, hedges⟩ := Act.cmpSample_sampled (s := u) (g := g) (k := k) (by rw [hedge]; exact hruns)
  rw [hraw, hedge, hf] at hkmp
  have hmajority : t.majority g k = (if s.f F.CMP_CFG_N g k ≤ (((s.rawLevel g k) :: (s.kmp g k).samples).take (s.f F.CMP_CFG_M g k)).count true then true
      else if s.f F.CMP_CFG_N g k ≤ (((s.rawLevel g k) :: (s.kmp g k).samples).take (s.f F.CMP_CFG_M g k)).count false then false
      else s.cmpF g k) := by
    have hcmpF : u.cmpF g k = s.cmpF g k := congrArg (· == 1) (hf _ _ _)
    rw [State.majority, hn, hf, hkmp, hlevel, hcmpF]
    rfl
  refine ⟨_, rfl, ?_⟩
  rw [Act.cmpFilter_sampling hdue hruns hwant, ← hu, htake, hrun]
  have hcmpF : t.cmpF g k = s.cmpF g k := hlevel.trans (congrArg (· == 1) (hf _ _ _))
  have hnew := Act.cmpLevel_cmpF (g := g) (k := k) (t.majority g k) t
  have hkept := (Within.cmpLevel (g := g) (k := k) (x := t.majority g k) t).kmp g k
  refine ⟨?_, ?_, hnew.trans hmajority, fun hne => ?_⟩
  · rw [hkept, hkmp]
    rfl
  · rw [hkept, hkmp]
    rfl
  have hcount := Act.cmpLevel_edges (s := t) (x := t.majority g k) fun h => hne (by rw [hnew, ← h, hcmpF])
  rwa [Counted, hedges, hf] at hcount

theorem cmpFilterChange_thresholds (hdue : s.cmpEdgeDue g k = true) (hruns : (s.kmp g k).run ≠ .off) (hwant : (s.kmp g k).want = none)
    {c : Nat} (hthr : (s.kmp g k).thrAt = some c) (hlater : c + 164 ≤ s.clk) : Answers (.cmpFilterChange g k) s fun t =>
      (t.kmp g k).a = signed 14 (s.f F.CMP_THR_A g k) ∧ (t.kmp g k).b = signed 14 (s.f F.CMP_THR_B g k) ∧
      (t.kmp g k).hyst = s.f F.CMP_HYST_HYST g k ∧ (t.kmp g k).thrAt = none := by
  obtain ⟨u, hu⟩ : ∃ u, u = (Act.edgePasses g k s.clk).run s := ⟨_, rfl⟩
  have hedge : u.kmp g k = { s.kmp g k with edgeAt := some s.clk } := hu ▸ Act.setKmp_same _ s
  have hclk : u.clk = s.clk := by rw [hu]; rfl
  have hconf : u.cmpConfigured g k = s.cmpConfigured g k := by rw [hu]; rfl
  have htake : ((Act.cmpThrTake g k).run u).kmp g k = { s.kmp g k with
      edgeAt := some s.clk, a := (s.cmpConfigured g k).a, b := (s.cmpConfigured g k).b, hyst := (s.cmpConfigured g k).hyst, thrAt := none } := by
    have hdue' : ((some c).any fun t => decide (t + 164 ≤ s.clk)) = true := decide_eq_true hlater
    rw [Act.cmpThrTake, Act.look_run, hedge, hclk, hthr, hdue', Act.when_true_run, Act.setKmp_same, hedge, hconf]
  obtain ⟨t, hrun, hkmp, -⟩ := Act.cmpSample_sampled (s := (Act.cmpThrTake g k).run u) (g := g) (k := k) (by rw [htake]; exact hruns)
  refine ⟨_, rfl, ?_⟩
  rw [Act.cmpFilter_sampling hdue hruns hwant, ← hu, hrun]
  beta_reduce
  rw [(Within.cmpLevel _).kmp g k, hkmp, htake]
  exact ⟨rfl, rfl, rfl, rfl⟩

/-! ### The enabling edge -/

/-- The set that takes over. -/
def Act.takeSet (g : Grp) (k : Kmp) (r : CmpRun) (c : CmpSet) : Act :=
  .setKmp g k fun x => { x with run := r, a := c.a, b := c.b, hyst := c.hyst, want := none, thrAt := none }

/-- R316: the samples that stand at INIT, and the one of the enabling edge. -/
def Act.presetSamples (g : Grp) (k : Kmp) (init : Bool) : Act := .look fun s => .all [
  .setKmp g k fun x => { x with samples := (s.cmpNow g k).getD init :: List.replicate (s.f F.CMP_CFG_M g k - 1) init },
  .setB F.CMP_STATUS_IN_BAND_AT_START (s.cmpNow g k).isNone g k, .setB F.CMP_STATUS_RAW ((s.cmpNow g k).getD init) g k]

theorem Act.cmpPreset_eq (r : CmpRun) (c : CmpSet) : Act.cmpPreset g k r c = .all [.takeSet g k r c, .cmpLevel g k c.init,
    .presetSamples g k c.init, .setB F.CMP_STATUS_ACTIVE true g k, .setB F.CMP_STATUS_NV_SET (r == .nv) g k, .cmpMajority g k] := rfl

theorem Within.presetSamples {x : Bool} : Within [.CMP_STATUS] [] [.cmps] (.presetSamples g k x) := .look fun _ => .all ⟨.setKmp, .setB, .setB⟩

/-- One sample among equal ones never outvotes them where two are asked for. -/
theorem majority_preset {n m : Nat} (x init : Bool) (hn : 2 ≤ n) :
    (if n ≤ (x :: List.replicate m init).count true then true else if n ≤ (x :: List.replicate m init).count false then false else init) = init := by
  have hcount : (x :: List.replicate m init).count (!init) ≤ 1 := by
    rw [List.count_cons, List.count_replicate, if_neg (by simp)]
    split <;> simp
  cases init
  · rw [if_neg (show ¬ n ≤ List.count true _ by exact fun h => absurd (Nat.le_trans h hcount) (by omega))]
    exact ite_self _
  · split
    · rfl
    · exact if_neg fun h => absurd (Nat.le_trans h hcount) (by omega)

theorem cmpFilterChange_enables {r : CmpRun} {c : CmpSet} {n : Nat} (hdue : s.cmpEdgeDue g k = true) (hwant : (s.kmp g k).want = some (r, n))
    (hset : s.cmpSet g k r = some c) (hn : 2 ≤ s.f F.CMP_CFG_N g k) : Answers (.cmpFilterChange g k) s fun t =>
      (t.kmp g k).run = r ∧ (t.kmp g k).a = c.a ∧ (t.kmp g k).b = c.b ∧ (t.kmp g k).hyst = c.hyst ∧
      t.b F.CMP_STATUS_ACTIVE g k = true ∧ t.b F.CMP_STATUS_NV_SET g k = (r == .nv) ∧ t.cmpF g k = c.init := by
  obtain ⟨u, hu⟩ : ∃ u, u = (Act.cmpLevel g k c.init).run ((Act.takeSet g k r c).run ((Act.edgePasses g k s.clk).run s)) := ⟨_, rfl⟩
  obtain ⟨w, hw⟩ : ∃ w, w = (Act.all [.setB F.CMP_STATUS_ACTIVE true g k, .setB F.CMP_STATUS_NV_SET (r == .nv) g k]).run
      ((Act.presetSamples g k c.init).run u) := ⟨_, rfl⟩
  have hrun : (Act.cmpFilter g k).run s = (Act.cmpLevel g k (w.majority g k)).run w := by
    rw [Act.cmpFilter_enabling hdue hwant hset, Act.cmpPreset_eq, hw, hu, ← Act.cmpMajority_run]
    rfl
  have hsets : Within [.CMP_STATUS] [] [] (.all [.setB F.CMP_STATUS_ACTIVE true g k, .setB F.CMP_STATUS_NV_SET (r == .nv) g k]) := .all ⟨.setB, .setB⟩
  have hcfg : Within levelNames [] [.cmps, .seed] (.all [.edgePasses g k s.clk, .takeSet g k r c, .cmpLevel g k c.init, .presetSamples g k c.init,
      .setB F.CMP_STATUS_ACTIVE true g k, .setB F.CMP_STATUS_NV_SET (r == .nv) g k]) :=
    .all ⟨.setKmp, .setKmp, Within.cmpLevel.mono, Within.presetSamples.mono, .setB, .setB⟩
  have hN : w.f F.CMP_CFG_N g k = s.f F.CMP_CFG_N g k := by
    have h := (hcfg s).f_eq (f := F.CMP_CFG_N) g k 0
    rw [hw, hu]
    exact h
  have huF : u.cmpF g k = c.init := hu ▸ Act.cmpLevel_cmpF _ _
  have hlevelKept : Leaves F.CMP_STATUS_LEVEL (.all [.presetSamples g k c.init, .setB F.CMP_STATUS_ACTIVE true g k,
      .setB F.CMP_STATUS_NV_SET (r == .nv) g k]) := .all ⟨.look fun _ => .all ⟨.upd fun _ => rfl, .setB, .setB⟩, .setB, .setB⟩
  have hwF : w.cmpF g k = c.init := by
    rw [← huF, hw]
    exact hlevelKept.b u g k 0
  have hukmp : u.kmp g k = { s.kmp g k with edgeAt := some s.clk, run := r, a := c.a, b := c.b, hyst := c.hyst, want := none, thrAt := none } := by
    rw [hu, (Within.cmpLevel _).kmp g k, Act.takeSet, Act.setKmp_same, Act.edgePasses, Act.setKmp_same]
  have hwkmp : w.kmp g k = { u.kmp g k with
      samples := (u.cmpNow g k).getD c.init :: List.replicate (u.f F.CMP_CFG_M g k - 1) c.init } := by
    have hband : Within [.CMP_STATUS] [] [] (.all [.setB F.CMP_STATUS_IN_BAND_AT_START (u.cmpNow g k).isNone g k,
        .setB F.CMP_STATUS_RAW ((u.cmpNow g k).getD c.init) g k]) := .all ⟨.setB, .setB⟩
    rw [hw, (hsets _).kmp g k, Act.presetSamples, Act.look_run, Act.all_cons_run, (hband _).kmp g k, Act.setKmp_same]
  have hmajority : w.majority g k = c.init := by
    rw [State.majority, hN, hwkmp, hwF]
    exact majority_preset _ _ hn
  refine ⟨_, rfl, ?_⟩
  rw [hrun, hmajority]
  beta_reduce
  rw [(Within.cmpLevel _).kmp g k, hwkmp, hukmp, Act.cmpLevel_cmpF, Leaves.b Leaves.cmpLevel, Leaves.b Leaves.cmpLevel, hw]
  refine ⟨rfl, rfl, rfl, rfl, ?_, ?_, rfl⟩
  · simp +decide [State.b]
  · simp +decide [State.b]

/-- Settles O22. -/
theorem comparators : Obligations.Comparators := by
  unfold Obligations.Comparators
  intro s src g k v
  exact ⟨cmpCfgWrite_answers, cmpCfgWrite_refused, cmpThresholdWrite_thr, cmpThresholdWrite_hyst, cmpRawChange_answers,
    fun hdue hruns hwant => ⟨cmpFilterChange_samples hdue hruns hwant, fun c => cmpFilterChange_thresholds hdue hruns hwant⟩,
    fun r c n => cmpFilterChange_enables⟩

end Sys2Proof.Machine
end

section
-- One proof after another: elaborated side by side, the proofs of the whole text do not fit in the check's memory.
set_option Elab.async false
/-! What sending over the ring touches: the ring's own state, what goes out, and the count of requests without a target (R396 to R411). -/

namespace Sys2Proof.Machine

namespace Within

section
variable {l : List RegName} {rs : List RegRef} {p : Port} {words : List DWord} {dst : BitVec 6} {use : RingUse}

theorem setLane {c : Fin 2} {x : RingLane → RingLane} : Within l rs [.ring, .tx] (.setLane p c x) := .setRing

theorem launch {c : Fin 2} : Within l rs [.ring, .tx] (.launch p c words) := .look fun _ => .all ⟨setLane, .send⟩

theorem drainLane {c : Fin 2} {k : Nat} : Within l rs [.ring, .tx] (.drainLane p c k) := by
  induction k with
  | zero => exact .skip
  | succ k ih =>
    refine .look fun s => ?_
    split
    · exact .skip
    · exact .when (.all ⟨setLane, launch, ih⟩)

theorem enqueue : Within l rs [.ring, .tx] (.enqueue p words) := .all ⟨setLane, drainLane⟩

theorem transmit {ps : List Part} {dead : Act} (hdead : Within l rs ps dead) (hring : [Part.ring, .tx] ⊆ ps := by decide) :
    Within l rs ps (.transmit p words dead) :=
  have hqueue : ∀ q w, Within l rs ps (.enqueue q w) := fun _ _ => enqueue.mono (List.Subset.refl l) (List.Subset.refl rs) hring
  .look fun _ => .ite (hqueue _ _) (.ite .skip (.ite hdead (hqueue _ _)))

theorem sendReply : Within l rs [.ring, .tx] (.sendReply words) := by
  refine .look fun s => ?_
  split
  · exact transmit .skip
  · exact .skip

theorem keep {src : BitVec 6} {tag : Nat} {answer : Option (List DWord)} : Within l rs [.ring, .tx] (.keep src tag answer) :=
  .look fun _ => .setRing

theorem complete {h : PkHead} {w1 status : Nat} {data : List DWord} : Within [.COLYS_COUNTS] [] [.ring, .tx] (.complete h w1 status data) :=
  .look fun _ => .when (.all ⟨.when .count, sendReply⟩)

theorem deadPacket : Within [.COLYS_COUNTS] [] [.ring, .tx] (.deadPacket words) := .look fun _ => .ite .skip (.ite .setRing complete)

theorem dispatch : Within [.COLYS_COUNTS] [] [.ring, .tx] (.dispatch words) := by
  refine .look fun s => .ite .setRing ?_
  split
  · exact transmit deadPacket
  · exact deadPacket

theorem issue : Within [.COLYS_COUNTS] [] [.ring, .tx] (.issue dst use words) := .look fun _ => .all ⟨.setRing, dispatch⟩

theorem heldIssue {held : List (BitVec 6 × RingUse × List DWord)} : Within [.COLYS_COUNTS] [] [.ring, .tx] (.heldIssue held) := by
  induction held with
  | nil => exact .skip
  | cons x held ih =>
    obtain ⟨dst, use, words⟩ := x
    exact .look fun _ => .ite (.all ⟨.setRing, issue, ih⟩) .skip

theorem request : Within [.COLYS_COUNTS] [] [.ring, .tx] (.request dst use words) := .all ⟨.setRing, .look fun _ => heldIssue⟩

end

end Within

end Sys2Proof.Machine
end

section
-- One proof after another: elaborated side by side, the proofs of the whole text do not fit in the check's memory.
set_option Elab.async false
/-! SAFE: how it enters and how it ends (R281, R282). -/

namespace Sys2Proof.Machine

variable {s : State} {src : Src} {v : Word}

/-! ### What entering SAFE touches -/

theorem Within.pinRowUpdate {g : Grp} : Within [.PIN_STATE, .PIN_DRIVEN, .PIN_FIELD, .PIN_LEVEL] [] [.pins, .seed] (.pinRowUpdate g) :=
  .look fun _ => .ite Within.pinsRefresh.mono (.all ⟨.each fun _ => .setPin, .setF, Within.pinsRefresh.mono⟩)

theorem Within.pinRows : Within [.PIN_STATE, .PIN_DRIVEN, .PIN_FIELD, .PIN_LEVEL] [] [.pins, .seed] .pinRows := .each fun _ => pinRowUpdate

theorem Within.outFault {g : Grp} {o : Out} {cause : Nat} : Within [] [⟨.DAC_STATUS, g, o, 0⟩] [.outs] (.outFault g o cause) :=
  .all ⟨.setBitAt, .setBAt, .setOut, Within.outUpdate⟩

theorem Within.outFault_byName {g : Grp} {o : Out} {cause : Nat} : Within [.DAC_STATUS] [] [.outs] (.outFault g o cause) :=
  outFault.byName (by simp)

/-- Every output takes its fault state. -/
def Act.outsFault : Act := .each (List.finRange 4) fun g => .each (List.finRange 8) fun o => .outFault g o 0

theorem Within.outsFault : Within [.DAC_STATUS] [] [.outs] .outsFault := .each fun _ => .each fun _ => outFault_byName

/-- R281: what entering SAFE does where SAFE is not in force. -/
def Act.safeActs (s : State) : Act := .all [.setB F.LIMIT_SAFE_ACTIVE true, .log 12 0 (leBytes (s.f F.LIMIT_SAFE_CAUSE) 1), .outsFault, .pinRows,
  .when (s.mode paired && s.b F.PAIR_CFG_PAIR_EN)
    (.request (BitVec.ofNat 6 (s.f F.PAIR_CFG_PARTNER)) .other (s.maintWords (BitVec.ofNat 6 (s.f F.PAIR_CFG_PARTNER)) 2 0))]

theorem Act.safeEnter_run (cause : Nat) (s : State) : (Act.safeEnter cause).run s =
    (if s.b F.LIMIT_SAFE_ACTIVE then Act.skip else .safeActs ((Act.setBit F.LIMIT_SAFE_CAUSE cause).run s)).run
      ((Act.setBit F.LIMIT_SAFE_CAUSE cause).run s) := by
  have hactive : ((Act.setBit F.LIMIT_SAFE_CAUSE cause).run s).b F.LIMIT_SAFE_ACTIVE = s.b F.LIMIT_SAFE_ACTIVE :=
    Act.setBit_b_kept s cause (by decide) (by decide)
  rw [Act.safeEnter, Act.andThen_run, Act.look_run, hactive]
  rfl

/-- The registers that entering SAFE may change. -/
abbrev safeNames : List RegName :=
  [.LIMIT_SAFE, .FAULT_STATUS, .FAULT_EVENTS, .DAC_STATUS, .PIN_STATE, .PIN_DRIVEN, .PIN_FIELD, .PIN_LEVEL, .COLYS_COUNTS]

/-- The parts of the state that entering SAFE may change. -/
abbrev safeParts : List Part := [.log, .seed, .outs, .pins, .ring, .tx]

theorem Within.safeActs (s : State) : Within safeNames [] safeParts (.safeActs s) :=
  .all ⟨.setB, .log, Within.outsFault.mono, Within.pinRows.mono, .when Within.request.mono⟩

theorem Within.safeEnter {cause : Nat} : Within safeNames [] safeParts (.safeEnter cause) := fun s => by
  have hset : Within safeNames [] safeParts (.setBit F.LIMIT_SAFE_CAUSE cause) := .setBit
  have hacts : Within safeNames [] safeParts (if s.b F.LIMIT_SAFE_ACTIVE then Act.skip else .safeActs ((Act.setBit F.LIMIT_SAFE_CAUSE cause).run s)) :=
    .ite .skip (Within.safeActs _)
  rw [Act.safeEnter_run]
  exact Touches.frame.trans (hset s) (hacts _)

/-! ### What entering SAFE leaves -/

theorem Leaves.safeActs {f : Fld} (hf : f.name = .LIMIT_SAFE := by rfl)
    (h : (F.LIMIT_SAFE_ACTIVE.spares f && f.inMask) = true := by decide) : Leaves f (.safeActs s) := by
  simp only [Bool.and_eq_true] at h
  obtain ⟨hactive, hm⟩ := h
  have hother : ∀ {l : List RegName} {ps : List Part} {a : Act}, Within l [] ps a → .LIMIT_SAFE ∉ l → Leaves f a :=
    fun hw hl => .of_within hw (by rw [hf]; exact hl)
  have hlog : Within [.FAULT_STATUS, .FAULT_EVENTS] [] [.log, .seed] (.log 12 0 (leBytes (s.f F.LIMIT_SAFE_CAUSE) 1)) := .log
  exact .all ⟨.setB hactive hm, hother hlog (by decide), hother Within.outsFault (by decide), hother Within.pinRows (by decide),
    .when (hother Within.request (by decide))⟩

theorem Act.safeActs_active (s t : State) : ((Act.safeActs s).run t).b F.LIMIT_SAFE_ACTIVE = true := by
  have hlog : Within [.FAULT_STATUS, .FAULT_EVENTS] [] [.log, .seed] (.log 12 0 (leBytes (s.f F.LIMIT_SAFE_CAUSE) 1)) := .log
  refine (Act.all_b_head ?_).trans (Act.setB_b_same _ _ _ _ _ _ (by decide) (by decide) (by decide))
  exact .all ⟨.of_within hlog, .of_within Within.outsFault, .of_within Within.pinRows, .when (.of_within Within.request)⟩

theorem Act.safeEnter_active (cause : Nat) (s : State) : ((Act.safeEnter cause).run s).b F.LIMIT_SAFE_ACTIVE = true := by
  rw [Act.safeEnter_run]
  split
  · rw [Act.skip_run, Act.setBit_b_kept _ _ (by decide) (by decide)]
    assumption
  · exact Act.safeActs_active _ _

theorem Leaves.safeEnter {f : Fld} {cause : Nat} (hf : f.name = .LIMIT_SAFE := by rfl)
    (h : (F.LIMIT_SAFE_CAUSE.spares f && F.LIMIT_SAFE_ACTIVE.spares f && f.inMask) = true := by decide) : Leaves f (.safeEnter cause) := by
  simp only [Bool.and_eq_true] at h
  obtain ⟨⟨hcause, hactive⟩, hm⟩ := h
  refine fun s => ?_
  have hset : Leaves f (.setBit F.LIMIT_SAFE_CAUSE cause) := .setBit hcause hm
  have hacts : Leaves f (if s.b F.LIMIT_SAFE_ACTIVE then Act.skip else .safeActs ((Act.setBit F.LIMIT_SAFE_CAUSE cause).run s)) :=
    .ite .skip (Leaves.safeActs hf (by rw [hactive, hm]; rfl))
  rw [Act.safeEnter_run]
  exact fun i j k => (hacts _ i j k).trans (hset s i j k)

theorem Act.safeEnter_cause {cause : Nat} (hcause : cause < 5) (s : State) : ((Act.safeEnter cause).run s).bit F.LIMIT_SAFE_CAUSE cause = true := by
  have hacts : Leaves F.LIMIT_SAFE_CAUSE (if s.b F.LIMIT_SAFE_ACTIVE then Act.skip else .safeActs ((Act.setBit F.LIMIT_SAFE_CAUSE cause).run s)) :=
    .ite .skip Leaves.safeActs
  rw [Act.safeEnter_run, hacts.bit]
  exact Act.setBit_bit_stored s (by decide) (by decide) hcause

/-- An output holds its fault state for SAFE. -/
def SafeHeld (g : Grp) (o : Out) (t : State) : Prop := t.b F.DAC_STATUS_FAULT_HOLD g o = true ∧ t.bit F.DAC_STATUS_FAULT_BY 0 g o = true

theorem Touches.safeHeld {l : List RegName} {rs : List RegRef} {ps : List Part} {s t : State} {g : Grp} {o : Out} (h : Touches l rs ps s t)
    (hl : .DAC_STATUS ∉ l) (hr : ⟨.DAC_STATUS, g, o, 0⟩ ∉ rs) (hs : SafeHeld g o s) : SafeHeld g o t := by
  have hr' : t.r .DAC_STATUS g o = s.r .DAC_STATUS g o := h.regs _ _ _ _ hl hr
  have hf : ∀ f : Fld, f.name = .DAC_STATUS → t.f f g o = s.f f g o := fun f hf => by rw [State.f, State.f, hf, hr']
  obtain ⟨hhold, hby⟩ := hs
  refine ⟨?_, ?_⟩
  · rw [State.b, hf _ rfl]; exact hhold
  · rw [State.bit, hf _ rfl]; exact hby

theorem Act.outFault_safeHeld (g : Grp) (o : Out) : (Act.outFault g o 0).Brings (SafeHeld g o) := fun s => by
  refine ⟨?_, ?_⟩
  · rw [Act.outFault, Act.all_cons_run]
    refine (Act.all_b_head ?_).trans (Act.setB_b_at (n := .DAC_STATUS) (RegRef.valid_of g.isLt o.isLt) _ _)
    exact .all ⟨.upd fun _ => rfl, Leaves.outUpdate⟩
  · refine (Act.all_bit_head ?_).trans (Act.setBit_bit_at (n := .DAC_STATUS) (RegRef.valid_of g.isLt o.isLt) _ (by decide))
    exact .all ⟨.setB, .upd fun _ => rfl, Leaves.outUpdate⟩

/-- The fault state of another output leaves this one alone. -/
theorem Act.outFault_other {g g' : Grp} {o o' : Out} {cause : Nat} (h : ¬ (g' = g ∧ o' = o)) (s : State) (hs : SafeHeld g o s) :
    SafeHeld g o ((Act.outFault g' o' cause).run s) := by
  refine (Within.outFault s).safeHeld (by decide) ?_ hs
  rw [List.mem_singleton, RegRef.mk.injEq, Fin.val_inj, Fin.val_inj]
  exact fun ⟨_, hg, ho, _⟩ => h ⟨hg.symm, ho.symm⟩

theorem Act.outsFault_safeHeld (g : Grp) (o : Out) : Act.outsFault.Brings (SafeHeld g o) := by
  refine Act.brings_each_at (List.mem_finRange g) ?_ fun g' hg s hs => ?_
  · exact Act.brings_each_at (List.mem_finRange o) (Act.outFault_safeHeld g o) fun o' ho s hs => Act.outFault_other (fun h => ho h.2) s hs
  · have hin : Within [] ((List.finRange 8).map fun o' => ⟨.DAC_STATUS, g', o'.val, 0⟩) [.outs]
        (.each (List.finRange 8) fun o' => .outFault g' o' 0) := .each fun o' => Within.outFault.mono (hr := by simp)
    refine (hin s).safeHeld (by decide) ?_ hs
    rw [List.mem_map]
    rintro ⟨o', -, heq⟩
    rw [RegRef.mk.injEq, Fin.val_inj] at heq
    exact hg heq.2.1

theorem Act.safeEnter_holds {cause : Nat} (hnot : s.b F.LIMIT_SAFE_ACTIVE = false) (g : Grp) (o : Out) :
    SafeHeld g o ((Act.safeEnter cause).run s) := by
  rw [Act.safeEnter_run, hnot, if_neg Bool.false_ne_true, Act.safeActs]
  generalize (Act.setBit F.LIMIT_SAFE_CAUSE cause).run s = t
  have hlater : Within [.PIN_STATE, .PIN_DRIVEN, .PIN_FIELD, .PIN_LEVEL, .COLYS_COUNTS] [] [.pins, .seed, .ring, .tx] (.all [.pinRows,
      .when (t.mode paired && t.b F.PAIR_CFG_PAIR_EN)
        (.request (BitVec.ofNat 6 (t.f F.PAIR_CFG_PARTNER)) .other (t.maintWords (BitVec.ofNat 6 (t.f F.PAIR_CFG_PARTNER)) 2 0))]) :=
    .all ⟨Within.pinRows.mono, .when Within.request.mono⟩
  rw [Act.all_cons_run, Act.all_cons_run, Act.all_cons_run]
  exact (hlater _).safeHeld (by decide) List.not_mem_nil (Act.outsFault_safeHeld g o _)

/-- R281: what stands once SAFE has entered on a cause. -/
def SafeEntered (s : State) (cause : Nat) (t : State) : Prop :=
  t.b F.LIMIT_SAFE_ACTIVE = true ∧ t.bit F.LIMIT_SAFE_CAUSE cause = true ∧
  (s.b F.LIMIT_SAFE_ACTIVE = false → ∀ (g : Grp) (o : Out),
    t.b F.DAC_STATUS_FAULT_HOLD g o = true ∧ t.bit F.DAC_STATUS_FAULT_BY 0 g o = true)

theorem Act.safeEnter_entered {cause : Nat} {u : State} (hcause : cause < 5) (hu : u.b F.LIMIT_SAFE_ACTIVE = s.b F.LIMIT_SAFE_ACTIVE) :
    SafeEntered s cause ((Act.safeEnter cause).run u) :=
  ⟨Act.safeEnter_active cause u, Act.safeEnter_cause hcause u, fun hnot g o => Act.safeEnter_holds (hu.trans hnot) g o⟩

/-! ### The pin -/

/-- R281, R282: the level of S.SAFE_N. -/
def Act.safePin (low : Bool) : Act := .upd fun s => { s with pwr := { s.pwr with safePinLow := low } }

theorem safePinLow_answers (hup : s.up = true) : Answers .safePinLow s fun t =>
    t.b F.LIMIT_SAFE_PIN = true ∧ t.pwr.safePinLow = true ∧ SafeEntered s 0 t := by
  have hrun : Act.safePinLow.run s = (Act.safeEnter 0).run ((Act.setB F.LIMIT_SAFE_PIN true).run ((Act.safePin true).run s)) := by
    have hkept : ((Act.safePin true).run s).up = s.up := rfl
    rw [Act.safePinLow, Act.all_cons_run, Act.all_cons_run, Act.all_nil_run, Act.look_run]
    exact (congrArg (fun c => (Act.when c (.all [.setB F.LIMIT_SAFE_PIN true, .safeEnter 0])).run ((Act.safePin true).run s)) (hkept.trans hup)).trans rfl
  have hset : Within [.LIMIT_SAFE] [] [] (.setB F.LIMIT_SAFE_PIN true) := .setB
  refine ⟨_, rfl, ?_⟩
  rw [hrun]
  refine ⟨?_, ?_, Act.safeEnter_entered (by decide) ?_⟩
  · rw [Leaves.b Leaves.safeEnter]
    exact Act.setB_b_stored _ _ (by decide) (by decide) rfl
  · rw [(Within.safeEnter _).parts .pwr (by decide), (hset _).parts .pwr (by decide)]
    rfl
  · rw [Act.setB_b_kept _ _ (by decide) (by decide)]
    rfl

theorem safePinHigh_answers (hup : s.up = true) : Answers .safePinHigh s fun t =>
    t.b F.LIMIT_SAFE_PIN = false ∧ t.b F.LIMIT_SAFE_ACTIVE = s.b F.LIMIT_SAFE_ACTIVE ∧ t.pwr.safePinLow = false ∧
    RegsKept [⟨.LIMIT_SAFE, 0, 0, 0⟩] s t ∧ t = { s with regs := t.regs, pwr := t.pwr } := by
  have hrun : Act.safePinHigh.run s = (Act.setB F.LIMIT_SAFE_PIN false).run ((Act.safePin false).run s) := by
    have hkept : ((Act.safePin false).run s).up = s.up := rfl
    rw [Act.safePinHigh, Act.all_cons_run, Act.all_cons_run, Act.all_nil_run, Act.look_run]
    exact (congrArg (fun c => (Act.when c (.setB F.LIMIT_SAFE_PIN false)).run ((Act.safePin false).run s)) (hkept.trans hup)).trans rfl
  have hpin : Within [] [⟨.LIMIT_SAFE, 0, 0, 0⟩] [.pwr] (.safePin false) := .upd (fun _ => rfl) fun _ => rfl
  have hset : Within [] [⟨.LIMIT_SAFE, 0, 0, 0⟩] [] (.setB F.LIMIT_SAFE_PIN false) := .setBAt
  have htouch := (hpin s).trans (hset _).mono
  refine ⟨_, rfl, ?_⟩
  rw [hrun]
  refine ⟨Act.setB_b_stored _ _ (by decide) (by decide) rfl, ?_, ?_, htouch.regsKept, htouch.rest⟩
  · rw [Act.setB_b_kept _ _ (by decide) (by decide)]
    rfl
  · rw [(hset _).parts .pwr (by decide)]
    rfl

/-! ### ENTER, RELEASE and the causes -/

/-- R282: the causes that a write names are cleared. -/
def Act.causesClear (s : State) (v : Word) : Act := .setF F.LIMIT_SAFE_CAUSE (s.f F.LIMIT_SAFE_CAUSE &&& (31 - F.LIMIT_SAFE_CAUSE.of v))

section
variable (hw : s.takesReg src .LIMIT_SAFE)
include hw

theorem safeEnterWrite_answers (henter : F.LIMIT_SAFE_ENTER.of v = 1) : Answers (.safeEnterWrite src v) s fun t =>
    t.resp = .ok 0 ∧ SafeEntered s 3 t := by
  have heffect : (Act.safeWrite v).run s = Act.accept.run ((Act.safeEnter 3).run ((Act.causesClear s v).run s)) := by
    simp only [Act.safeWrite, Act.look_run, henter, beq_self_eq_true, if_true, Act.all_cons_run, Act.all_nil_run, Act.causesClear]
  have hrun := Act.writeTo_accepted (d := 0) hw (a := Act.safeWrite v) (by rw [heffect]; rfl)
  refine ⟨_, rfl, ?_⟩
  rw [hrun, heffect]
  exact ⟨rfl, Act.safeEnter_entered (by decide) (Act.setF_b_kept s _ (by decide) (by decide))⟩

theorem safeCauseClear_answers (henter : F.LIMIT_SAFE_ENTER.of v = 0) (hrelease : F.LIMIT_SAFE_RELEASE.of v = 0) :
    Answers (.safeCauseClear src v) s fun t =>
      t.resp = .ok 0 ∧ t.f F.LIMIT_SAFE_CAUSE = s.f F.LIMIT_SAFE_CAUSE &&& (31 - F.LIMIT_SAFE_CAUSE.of v) ∧
      t.b F.LIMIT_SAFE_ACTIVE = s.b F.LIMIT_SAFE_ACTIVE ∧ RegsKept [⟨.LIMIT_SAFE, 0, 0, 0⟩] s t ∧ OnlyRegs s t := by
  have heffect : (Act.safeWrite v).run s = (Act.all [.causesClear s v, .accept]).run s := by
    simp only [Act.safeWrite, Act.look_run, henter, hrelease, Act.causesClear]
    rfl
  have hrun := Act.writeTo_accepted (d := 0) hw (a := Act.safeWrite v) (by rw [heffect]; rfl)
  have hin : Within [] [⟨.LIMIT_SAFE, 0, 0, 0⟩] [.resp] (.all [.causesClear s v, .accept]) := .all ⟨.setFAt, .accept⟩
  have hlt : s.f F.LIMIT_SAFE_CAUSE &&& (31 - F.LIMIT_SAFE_CAUSE.of v) < 2 ^ 5 :=
    Nat.lt_of_le_of_lt Nat.and_le_right (show 31 - F.LIMIT_SAFE_CAUSE.of v < 32 by omega)
  refine ⟨_, rfl, ?_⟩
  rw [hrun, heffect]
  refine ⟨rfl, ?_, ?_, (hin s).regsKept, (hin s).rest⟩
  · exact (Act.setF_f_at (n := .LIMIT_SAFE) (by decide) _ s).trans (Nat.mod_eq_of_lt hlt)
  · exact Act.setF_b_kept s _ (by decide) (by decide)

theorem safeRelease_refused (henter : F.LIMIT_SAFE_ENTER.of v = 0) (hrelease : F.LIMIT_SAFE_RELEASE.of v = 1) (hend : s.safeMayEnd = false) :
    Answers (.safeRelease src v) s (Refused F.LIMIT_REFUSED_COUNT 0 0 s) := by
  refine ⟨_, rfl, Act.writeTo_refused hw ?_ (by decide)⟩
  simp only [Act.safeWrite, Act.look_run, henter, hrelease, hend]
  rfl

/-- An output that SAFE no longer holds: the cause is gone, the fault state stays until a write of VALUE. -/
def SafeFreed (g : Grp) (o : Out) (hold : Bool) (t : State) : Prop :=
  t.bit F.DAC_STATUS_FAULT_BY 0 g o = false ∧ t.b F.DAC_STATUS_FAULT_HOLD g o = hold

omit hw in
theorem Leaves.outFaultEnd_hold {g : Grp} {o : Out} {cause : Nat} : Leaves F.DAC_STATUS_FAULT_HOLD (.outFaultEnd g o cause) := .clrBit

omit hw in
theorem Act.outFaultEnd_freed {g g' : Grp} {o o' : Out} {t : State} (ht : t.bit F.DAC_STATUS_FAULT_BY 0 g o = false) :
    ((Act.outFaultEnd g' o' 0).run t).bit F.DAC_STATUS_FAULT_BY 0 g o = false := by
  by_cases h : g' = g ∧ o' = o
  · obtain ⟨rfl, rfl⟩ := h
    exact Act.clrBit_bit_stored t (RegRef.valid_of g'.isLt o'.isLt) (by decide) (by decide)
  · have hin : Within [] [⟨.DAC_STATUS, g', o', 0⟩] [] (.outFaultEnd g' o' 0) := .clrBitAt
    have hkept := (hin t).regs .DAC_STATUS g o 0 List.not_mem_nil (by
      rw [List.mem_singleton, RegRef.mk.injEq, Fin.val_inj, Fin.val_inj]
      exact fun ⟨_, hg, ho, _⟩ => h ⟨hg.symm, ho.symm⟩)
    rw [State.bit, State.f, show F.DAC_STATUS_FAULT_BY.name = .DAC_STATUS from rfl, hkept]
    exact ht

/-- Every output loses the cause SAFE. -/
def Act.outsFaultEnd : Act := .each (List.finRange 4) fun g => .each (List.finRange 8) fun o => .outFaultEnd g o 0

omit hw in
theorem Act.outsFaultEnd_freed (g : Grp) (o : Out) : Act.outsFaultEnd.Brings fun t => t.bit F.DAC_STATUS_FAULT_BY 0 g o = false := by
  have hrow : ∀ g' : Grp, (Act.each (List.finRange 8) fun o' => .outFaultEnd g' o' 0).Keeps
      (fun s t => s.bit F.DAC_STATUS_FAULT_BY 0 g o = false → t.bit F.DAC_STATUS_FAULT_BY 0 g o = false) := fun g' =>
    Act.keeps_each ⟨fun _ h => h, fun h1 h2 h => h2 (h1 h)⟩ _ fun o' t ht => Act.outFaultEnd_freed ht
  refine Act.brings_each_at (List.mem_finRange g) ?_ fun g' _ t ht => hrow g' t ht
  exact Act.brings_each_at (List.mem_finRange o) (fun t => Act.clrBit_bit_stored t (RegRef.valid_of g.isLt o.isLt) (by decide) (by decide))
    fun o' _ t ht => Act.outFaultEnd_freed ht

theorem safeRelease_answers (henter : F.LIMIT_SAFE_ENTER.of v = 0) (hrelease : F.LIMIT_SAFE_RELEASE.of v = 1) (hend : s.safeMayEnd = true) :
    Answers (.safeRelease src v) s fun t =>
      t.resp = .ok 0 ∧ t.b F.LIMIT_SAFE_ACTIVE = false ∧ ∀ (g : Grp) (o : Out),
        t.bit F.DAC_STATUS_FAULT_BY 0 g o = false ∧ t.b F.DAC_STATUS_FAULT_HOLD g o = s.b F.DAC_STATUS_FAULT_HOLD g o := by
  have heffect : (Act.safeWrite v).run s = (Act.all [.causesClear s v, .setB F.LIMIT_SAFE_ACTIVE false, .outsFaultEnd, .pinRows, .accept]).run s := by
    simp only [Act.safeWrite, Act.look_run, henter, hrelease, hend, Act.safeEnd, Act.all_cons_run, Act.all_nil_run, Act.causesClear,
      Act.outsFaultEnd, Nat.reduceBEq, Bool.false_eq_true, if_false, if_true]
  have hrun := Act.writeTo_accepted (d := 0) hw (a := Act.safeWrite v) (by rw [heffect]; rfl)
  have houts : Within [.DAC_STATUS] [] [] .outsFaultEnd := .each fun _ => .each fun _ => .clrBit
  have hlater : Within [.PIN_STATE, .PIN_DRIVEN, .PIN_FIELD, .PIN_LEVEL] [] [.pins, .seed, .resp] (.all [.pinRows, .accept]) :=
    .all ⟨Within.pinRows.mono, .accept⟩
  have hhold : Leaves F.DAC_STATUS_FAULT_HOLD (.all [.causesClear s v, .setB F.LIMIT_SAFE_ACTIVE false, .outsFaultEnd, .pinRows, .accept]) :=
    .all ⟨.setF, .setB, .each fun _ => .each fun _ => Leaves.outFaultEnd_hold, .of_within Within.pinRows, .upd fun _ => rfl⟩
  refine ⟨_, rfl, ?_⟩
  rw [hrun, heffect]
  refine ⟨rfl, ?_, fun g o => ⟨?_, hhold.b s g o 0⟩⟩
  · rw [Act.all_cons_run]
    refine (Act.all_b_head (by exact .all ⟨.of_within houts, .of_within Within.pinRows, .upd fun _ => rfl⟩)).trans ?_
    exact Act.setB_b_stored _ _ (by decide) (by decide) rfl
  · rw [Act.all_cons_run, Act.all_cons_run, Act.all_cons_run, (hlater _).bit_eq 0 g o 0]
    exact Act.outsFaultEnd_freed g o _

end

/-- Settles O27. -/
theorem safeState : Obligations.SafeState := by
  unfold Obligations.SafeState
  intro s src v
  exact ⟨safePinLow_answers, safePinHigh_answers, fun hw => ⟨safeEnterWrite_answers hw, safeRelease_answers hw, safeRelease_refused hw,
    safeCauseClear_answers hw⟩⟩

end Sys2Proof.Machine
end

section
-- One proof after another: elaborated side by side, the proofs of the whole text do not fit in the check's memory.
set_option Elab.async false
/-! The limit monitors: what they judge, how they trip, and how their words are written (R273 to R279). -/

namespace Sys2Proof.Machine

variable {s : State} {src : Src} {m : Monitor} {v : Word}

/-! ### One evaluation -/

theorem valid_tripped (m : Monitor) : RegRef.valid ⟨.LIMIT_TRIPPED, m.val / 32, 0, 0⟩ = true :=
  RegRef.valid_of (show m.val / 32 < 4 from Nat.div_lt_of_lt_mul m.isLt)

/-- R275: the entry of a trip in the log; the value is left open for a trip by staleness. -/
def Act.tripEntry (s : State) (m run : Nat) : Option Int → Act
  | some x => .log 11 m (leBytes (unsigned 32 x) 4 ++ leBytes run 1 ++ leBytes (s.r .MON_ACT m).toNat 4)
  | none => .fresh fun v => .log 11 m (leBytes v.toNat 4 ++ leBytes run 1 ++ leBytes (s.r .MON_ACT m).toNat 4)

/-- R275: the entry in the log and the actions of a trip. -/
def Act.tripActs (s : State) (m : Nat) (value : Option Int) (run : Nat) : Act := .all [.tripEntry s m run value,
  .when (s.b F.MON_ACT_SAFE m) (.safeEnter 1),
  .when (s.b F.MON_ACT_OUT m) (.each (List.finRange 8) fun o =>
    .when (s.bit F.MON_ACT_OUT_MASK o m) (.outFault ⟨s.f F.MON_ACT_OUT_GRP m % 4, Nat.mod_lt _ (by decide)⟩ o 1)),
  .when (s.b F.MON_ACT_DOORBELL m) (.ring ⟨s.f F.MON_ACT_ENGINE m % 8, Nat.mod_lt _ (by decide)⟩)]

theorem Act.trip_run (m : Nat) (value : Option Int) (run : Nat) (s : State) : (Act.trip m value run).run s =
    (Act.all [.setF F.LIMIT_STAT_STATE 3 m, .setBit F.LIMIT_TRIPPED_TRIPPED (m % 32) (m / 32), .count F.LIMIT_STAT_TRIPS 1 m,
      .tripActs s m value run]).run s := by
  cases value <;> rfl

/-- The registers that the actions of a trip may change. -/
abbrev tripNames : List RegName := [.LIMIT_SAFE, .FAULT_STATUS, .FAULT_EVENTS, .DAC_STATUS, .PIN_STATE, .PIN_DRIVEN, .PIN_FIELD, .PIN_LEVEL,
  .COLYS_COUNTS, .ENG_STATUS, .ENG_COUNTS]

/-- The parts of the state that the actions of a trip may change. -/
abbrev tripParts : List Part := [.log, .seed, .outs, .pins, .ring, .tx, .eng]

theorem Within.tripActs {s : State} {m : Nat} {value : Option Int} {run : Nat} : Within tripNames [] tripParts (.tripActs s m value run) := by
  have hring : ∀ e : Eng, Within tripNames [] tripParts (.ring e) := fun e =>
    (Within.ring.byName (l := [.ENG_STATUS, .ENG_COUNTS]) (by simp)).mono
  refine .all ⟨?_, .when Within.safeEnter.mono, .when (.each fun _ => .when Within.outFault_byName.mono), .when (hring _)⟩
  cases value
  case none => exact Within.fresh (f := fun v => .log 11 m (leBytes v.toNat 4 ++ leBytes run 1 ++ leBytes (s.r .MON_ACT m).toNat 4)) fun _ => .log
  case some x => exact .log

theorem Act.tripActs_safe {s t : State} {m : Nat} {value : Option Int} {run : Nat} (h : s.b F.MON_ACT_SAFE m = true) :
    ((Act.tripActs s m value run).run t).b F.LIMIT_SAFE_ACTIVE = true := by
  have hring : ∀ e : Eng, Within [.ENG_STATUS, .ENG_COUNTS] [] [.eng] (.ring e) := fun e => Within.ring.byName (by simp)
  rw [Act.tripActs, Act.all_cons_run, h, Act.all_cons_run, Act.when_true_run, Leaves.b (by
    exact .all ⟨.when (.each fun _ => .when (.of_within Within.outFault_byName)), .when (.of_within (hring _))⟩)]
  exact Act.safeEnter_active 1 _

/-- R275: what an evaluation does to the registers. -/
def Act.verdict (s : State) (m : Monitor) (value : Option Int) (bad : Bool) : Act :=
  if bad then .all [.setF F.LIMIT_STAT_RUN (min (s.f F.LIMIT_STAT_RUN m + 1) 255) m,
    if s.tripped m then .skip
    else if s.f F.MON_CFG_COUNT m ≤ min (s.f F.LIMIT_STAT_RUN m + 1) 255 then .trip m value (min (s.f F.LIMIT_STAT_RUN m + 1) 255)
    else .setF F.LIMIT_STAT_STATE 2 m]
  else .all [.setF F.LIMIT_STAT_RUN 0 m, .when (!s.tripped m) (.setF F.LIMIT_STAT_STATE 1 m)]

/-- R273: the limits after an evaluation. -/
def LimSt.judged (x : LimSt) (m : Monitor) (bad : Bool) (clk : Nat) : LimSt :=
  { x with within := x.within.set m (!bad), seen := x.seen.set m clk }

theorem Act.evaluate_run (value : Option Int) (bad : Bool) (s : State) : (Act.evaluate m value bad).run s =
    (Act.verdict s m value bad).run ((Act.setLim fun x => x.judged m bad s.clk).run s) := rfl

theorem Within.trip {m : Nat} {value : Option Int} {run : Nat} :
    Within (.LIMIT_STAT :: .LIMIT_TRIPPED :: tripNames) [] tripParts (.trip m value run) := fun s => by
  have hin : Within (.LIMIT_STAT :: .LIMIT_TRIPPED :: tripNames) [] tripParts (.all [.setF F.LIMIT_STAT_STATE 3 m,
      .setBit F.LIMIT_TRIPPED_TRIPPED (m % 32) (m / 32), .count F.LIMIT_STAT_TRIPS 1 m, .tripActs s m value run]) :=
    .all ⟨.setF, .setBit, .count, Within.tripActs.mono⟩
  rw [Act.trip_run]
  exact hin s

theorem Leaves.trip {f : Fld} {m : Nat} {value : Option Int} {run : Nat} (hf : f.name = .LIMIT_STAT := by rfl)
    (h : (F.LIMIT_STAT_STATE.spares f && F.LIMIT_TRIPPED_TRIPPED.spares f && F.LIMIT_STAT_TRIPS.spares f && f.inMask) = true := by decide) :
    Leaves f (.trip m value run) := fun s => by
  simp only [Bool.and_eq_true] at h
  obtain ⟨⟨⟨hstate, htripped⟩, htrips⟩, hm⟩ := h
  have hacts : Leaves f (.all [.setF F.LIMIT_STAT_STATE 3 m, .setBit F.LIMIT_TRIPPED_TRIPPED (m % 32) (m / 32), .count F.LIMIT_STAT_TRIPS 1 m,
      .tripActs s m value run]) :=
    .all ⟨.setF hstate hm, .setBit htripped hm, .count htrips hm, .of_within Within.tripActs (by rw [hf]; decide)⟩
  rw [Act.trip_run]
  exact hacts s

theorem Within.verdict {value : Option Int} {bad : Bool} :
    Within (.LIMIT_STAT :: .LIMIT_TRIPPED :: tripNames) [] tripParts (.verdict s m value bad) :=
  .ite (.all ⟨.setF, .ite .skip (.ite .trip .setF)⟩) (.all ⟨.setF, .when .setF⟩)

theorem Leaves.verdict_stale {value : Option Int} {bad : Bool} : Leaves F.LIMIT_STAT_STALE (.verdict s m value bad) :=
  .ite (.all ⟨.setF, .ite .skip (.ite Leaves.trip .setF)⟩) (.all ⟨.setF, .when .setF⟩)

theorem valid_limitStat (m : Monitor) : RegRef.valid ⟨.LIMIT_STAT, m.val, 0, 0⟩ = true := RegRef.valid_of m.isLt

theorem Act.verdict_run_same (value : Option Int) (bad : Bool) (t : State) : ((Act.verdict s m value bad).run t).f F.LIMIT_STAT_RUN m =
    if bad then min (s.f F.LIMIT_STAT_RUN m + 1) 255 else 0 := by
  cases bad
  · refine (Act.all_f_head (by exact .all (by exact .when .setF))).trans ?_
    exact Act.setF_f_at (valid_limitStat m) _ _
  · refine (Act.all_f_head (by exact .all (by exact .ite .skip (.ite Leaves.trip .setF)))).trans ?_
    exact (Act.setF_f_at (valid_limitStat m) _ _).trans (Nat.mod_eq_of_lt (Nat.lt_of_le_of_lt (Nat.min_le_right _ _) (by decide : 255 < 256)))

/-- R275: what a trip leaves. -/
theorem Act.trip_trips (value : Option Int) (run : Nat) (t : State) : let u := (Act.trip m value run).run t
    u.tripped m = true ∧ u.f F.LIMIT_STAT_STATE m = 3 ∧ Counted F.LIMIT_STAT_TRIPS t u m ∧
    (t.b F.MON_ACT_SAFE m = true → u.b F.LIMIT_SAFE_ACTIVE = true) := by
  have hacts := Within.tripActs (s := t) (m := m) (value := value) (run := run)
  intro u
  have hu : u = (Act.tripActs t m value run).run ((Act.all [.setF F.LIMIT_STAT_STATE 3 m,
      .setBit F.LIMIT_TRIPPED_TRIPPED (m.val % 32) (m.val / 32), .count F.LIMIT_STAT_TRIPS 1 m]).run t) := Act.trip_run m value run t
  rw [hu]
  refine ⟨?_, ?_, ?_, fun hsafe => Act.tripActs_safe hsafe⟩
  · have htail : Leaves F.LIMIT_TRIPPED_TRIPPED (.all [.count F.LIMIT_STAT_TRIPS 1 m]) := .all (by exact .count)
    rw [State.tripped, (hacts _).bit_eq _ _ _ _, Act.all_cons_run, Act.all_cons_run, htail.bit]
    exact Act.setBit_bit_stored _ (valid_tripped m) (by decide) (show m.val % 32 < 32 from Nat.mod_lt _ (by decide))
  · have htail : Leaves F.LIMIT_STAT_STATE (.all [.setBit F.LIMIT_TRIPPED_TRIPPED (m.val % 32) (m.val / 32), .count F.LIMIT_STAT_TRIPS 1 m]) :=
      .all ⟨.setBit, .count⟩
    rw [(hacts _).f_eq _ _ _, Act.all_f_head htail]
    exact Act.setF_f_at (valid_limitStat m) _ _
  · have hhead : Leaves F.LIMIT_STAT_TRIPS (.all [.setF F.LIMIT_STAT_STATE 3 m, .setBit F.LIMIT_TRIPPED_TRIPPED (m.val % 32) (m.val / 32)]) :=
      .all ⟨.setF, .setBit⟩
    have hkept := hhead t m 0 0
    simp only [Act.all_cons_run, Act.all_nil_run] at hkept ⊢
    rw [Counted, (hacts _).f_eq _ _ _, Act.count_f_same _ _ _ _ (valid_limitStat m) (by decide), hkept]

/-- What one more violation, or none, leaves of a monitor. -/
structure Judged (m : Monitor) (bad : Bool) (s t : State) : Prop where
  lim : t.lim = s.lim.judged m bad s.clk
  run : t.f F.LIMIT_STAT_RUN m = if bad then min (s.f F.LIMIT_STAT_RUN m + 1) 255 else 0
  stale : t.b F.LIMIT_STAT_STALE m = s.b F.LIMIT_STAT_STALE m
  trips : bad = true → s.tripped m = false → s.f F.MON_CFG_COUNT m ≤ min (s.f F.LIMIT_STAT_RUN m + 1) 255 →
    t.tripped m = true ∧ t.f F.LIMIT_STAT_STATE m = 3 ∧ Counted F.LIMIT_STAT_TRIPS s t m ∧
      (s.b F.MON_ACT_SAFE m = true → t.b F.LIMIT_SAFE_ACTIVE = true)
  stays : bad = false ∨ min (s.f F.LIMIT_STAT_RUN m + 1) 255 < s.f F.MON_CFG_COUNT m → t.tripped m = s.tripped m
  violated : bad = true → s.tripped m = false → min (s.f F.LIMIT_STAT_RUN m + 1) 255 < s.f F.MON_CFG_COUNT m → t.f F.LIMIT_STAT_STATE m = 2

theorem Act.evaluate_judged (value : Option Int) (bad : Bool) (s : State) : Judged m bad s ((Act.evaluate m value bad).run s) := by
  obtain ⟨t, ht⟩ : ∃ t, t = (Act.setLim fun x => x.judged m bad s.clk).run s := ⟨_, rfl⟩
  have hset : Within [] [] [.lim] (.setLim fun x => x.judged m bad s.clk) := .setLim
  have htouch : Touches [] [] [.lim] s t := ht ▸ hset s
  have hverdict := Within.verdict (s := s) (m := m) (value := value) (bad := bad)
  rw [Act.evaluate_run, ← ht]
  refine ⟨?lim, Act.verdict_run_same value bad t, ?stale, ?trips, ?stays, ?violated⟩
  case lim => rw [(hverdict t).parts .lim (by decide), ht]; rfl
  case stale => rw [Leaves.b Leaves.verdict_stale, htouch.b_eq _ _ _]
  case trips =>
    intro hbad hnot hcount
    have hrun : (Act.verdict s m value bad).run t =
        (Act.trip m value (min (s.f F.LIMIT_STAT_RUN m + 1) 255)).run ((Act.setF F.LIMIT_STAT_RUN (min (s.f F.LIMIT_STAT_RUN m + 1) 255) m).run t) := by
      rw [Act.verdict, hbad, if_pos rfl, hnot, if_neg Bool.false_ne_true, if_pos hcount, Act.all_cons_run, Act.all_cons_run, Act.all_nil_run]
    have hstat : Within [.LIMIT_STAT] [] [] (.setF F.LIMIT_STAT_RUN (min (s.f F.LIMIT_STAT_RUN m + 1) 255) m) := .setF
    obtain ⟨htripped, hstate, htrips, hsafe⟩ := Act.trip_trips (m := m) value (min (s.f F.LIMIT_STAT_RUN m + 1) 255)
      ((Act.setF F.LIMIT_STAT_RUN (min (s.f F.LIMIT_STAT_RUN m + 1) 255) m).run t)
    rw [hrun]
    refine ⟨htripped, hstate, ?_, fun h => hsafe ?_⟩
    · rwa [Counted, Act.setF_f_kept _ _ (by decide) (by decide), htouch.f_eq _ _ _] at htrips
    · rw [(hstat t).b_eq _ _ _, htouch.b_eq _ _ _, h]
  case stays =>
    intro h
    have hleaves : Leaves F.LIMIT_TRIPPED_TRIPPED (.verdict s m value bad) := by
      rcases h with rfl | hcount
      · exact .all ⟨.setF, .when .setF⟩
      · rw [Act.verdict, if_neg (Nat.not_le.mpr hcount)]
        exact .ite (.all ⟨.setF, .ite .skip .setF⟩) (.all ⟨.setF, .when .setF⟩)
    rw [State.tripped, hleaves.bit, htouch.bit_eq _ _ _ _, State.tripped]
  case violated =>
    intro hbad hnot hcount
    rw [Act.verdict, hbad, if_pos rfl, hnot, if_neg Bool.false_ne_true, if_neg (Nat.not_le.mpr hcount), Act.all_cons_run, Act.all_cons_run,
      Act.all_nil_run]
    exact Act.setF_f_at (valid_limitStat m) _ _

/-! ### What waits for the end of a system clock -/

/-- R273, R275: what a monitor holds after it has judged. -/
def Judges (s : State) (m : Monitor) (bad : Bool) (u : State) : Prop :=
  u.lim.due = [] ∧ u.lim.within[m] = !bad ∧ u.f F.LIMIT_STAT_RUN m = (if bad then min (s.f F.LIMIT_STAT_RUN m + 1) 255 else 0) ∧
  (bad = true → s.tripped m = false → s.f F.MON_CFG_COUNT m ≤ min (s.f F.LIMIT_STAT_RUN m + 1) 255 →
    u.tripped m = true ∧ u.f F.LIMIT_STAT_STATE m = 3) ∧
  (bad = false ∨ min (s.f F.LIMIT_STAT_RUN m + 1) 255 < s.f F.MON_CFG_COUNT m → u.tripped m = s.tripped m)

theorem LimSt.judged_within (x : LimSt) (m : Monitor) (bad : Bool) (clk : Nat) : (x.judged m bad clk).within[m] = !bad := by
  simp [LimSt.judged]

theorem LimSt.judged_seen (x : LimSt) (m : Monitor) (bad : Bool) (clk : Nat) : (x.judged m bad clk).seen[m] = clk := by
  simp [LimSt.judged]

theorem Judged.judges {bad : Bool} {s t u : State} (h : Judged m bad t u) (hdue : t.lim.due = [])
    (hrun : t.f F.LIMIT_STAT_RUN m = s.f F.LIMIT_STAT_RUN m) (htripped : t.tripped m = s.tripped m)
    (hcount : t.f F.MON_CFG_COUNT m = s.f F.MON_CFG_COUNT m) : Judges s m bad u := by
  obtain ⟨hlim, hrun', -, htrips, hstays, -⟩ := h
  rw [hrun, hcount, htripped] at htrips hstays
  rw [hrun] at hrun'
  refine ⟨?_, ?_, hrun', fun hbad hnot hle => ?_, hstays⟩
  · rw [hlim]; exact hdue
  · rw [hlim]; exact LimSt.judged_within ..
  · obtain ⟨h1, h2, -⟩ := htrips hbad hnot hle
    exact ⟨h1, h2⟩

theorem monitorOf_self (m : Monitor) : monitorOf m.val = m := Fin.ext (Nat.mod_eq_of_lt m.isLt)

/-- R285: what waited is taken. -/
def Act.dueTaken : Act := .setLim fun x => { x with due := [] }

theorem limitsTurn_record {r : RecView} (hlive : s.limitsLive = true) (honly : s.enabledMonitors = [m.val]) (hdue : s.lim.due = [.record r])
    (hevaluates : s.evaluates m r = true) :
    Judges s m (r.ovr && s.b F.MON_CFG_OVR_VIOL m || s.violates m r.sample) (Act.limitsTurn.run s) := by
  have hrun : Act.limitsTurn.run s = (Act.evaluate m (some r.sample) (r.ovr && s.b F.MON_CFG_OVR_VIOL m || s.violates m r.sample)).run
      ((Act.setB F.LIMIT_STAT_STALE false m).run (Act.dueTaken.run s)) := by
    have hlive' : (Act.dueTaken.run s).limitsLive = true := hlive
    have honly' : (Act.dueTaken.run s).enabledMonitors = [m.val] := honly
    have hevaluates' : (Act.dueTaken.run s).evaluates m r = true := hevaluates
    have hsame : ((Act.dueTaken.run s).b F.MON_CFG_OVR_VIOL m, (Act.dueTaken.run s).violates m r.sample) =
        (s.b F.MON_CFG_OVR_VIOL m, s.violates m r.sample) := rfl
    obtain ⟨hovr, hviolates⟩ := Prod.mk.injEq .. ▸ hsame
    rw [Act.limitsTurn, Act.look_run, Act.andThen_run, hdue, Act.each_cons_run, Act.each_nil_run]
    change (Act.monitorRecord r).run (Act.dueTaken.run s) = _
    rw [Act.monitorRecord]
    generalize Act.dueTaken.run s = u at *
    rw [Act.look_run, hlive', Act.when_true_run, honly', Act.each_cons_run, Act.each_nil_run, Act.look_run, hevaluates', Act.when_true_run,
      Act.all_cons_run, Act.all_cons_run, Act.all_nil_run, monitorOf_self, hovr, hviolates]
  have hstale : Within [.LIMIT_STAT] [] [] (.setB F.LIMIT_STAT_STALE false m) := .setB
  rw [hrun]
  refine (Act.evaluate_judged _ _ _).judges ?_ ?_ ?_ ?_
  · rw [(hstale _).parts .lim (by decide)]; rfl
  · rw [Act.setB_f_spared _ _ (by decide) (by decide)]; rfl
  · rw [State.tripped, (hstale _).bit_eq _ _ _ _]; rfl
  · rw [(hstale _).f_eq _ _ _]; rfl

theorem limitsTurn_setpoint {c : Nat} (hlive : s.limitsLive = true) (honly : s.enabledMonitors = [m.val])
    (hdue : s.lim.due = [.setpoint (s.f F.MON_CFG_SRC m) c]) (hkind : s.b F.MON_CFG_KIND m = true) :
    Judges s m (s.violates m c) (Act.limitsTurn.run s) := by
  have hrun : Act.limitsTurn.run s = (Act.evaluate m (some (c : Int)) (s.violates m c)).run (Act.dueTaken.run s) := by
    have hlive' : (Act.dueTaken.run s).limitsLive = true := hlive
    have honly' : (Act.dueTaken.run s).enabledMonitors = [m.val] := honly
    have hkind' : (Act.dueTaken.run s).b F.MON_CFG_KIND m = true := hkind
    have hsrc : (Act.dueTaken.run s).f F.MON_CFG_SRC m = s.f F.MON_CFG_SRC m := rfl
    have hviolates : (Act.dueTaken.run s).violates m c = s.violates m c := rfl
    rw [Act.limitsTurn, Act.look_run, Act.andThen_run, hdue, Act.each_cons_run, Act.each_nil_run]
    change (Act.monitorSetpoint (s.f F.MON_CFG_SRC m) c).run (Act.dueTaken.run s) = _
    rw [Act.monitorSetpoint]
    generalize Act.dueTaken.run s = u at *
    rw [Act.look_run, hlive', Act.when_true_run, honly', Act.each_cons_run, Act.each_nil_run, Act.look_run, hkind', hsrc, beq_self_eq_true,
      Bool.and_self, Act.when_true_run, monitorOf_self, hviolates]
  rw [hrun]
  exact (Act.evaluate_judged _ _ _).judges rfl rfl rfl rfl

theorem monitorStale_answers (hlive : s.limitsLive = true) (hon : s.b F.MON_CFG_ENABLE m = true) (hkind : s.b F.MON_CFG_KIND m = false)
    (hstale : s.f F.MON_CFG_STALE m ≠ 0) (hdue : s.staleAt m ≤ s.clk) : Answers (.monitorStale m) s fun t =>
      let run := min (s.f F.LIMIT_STAT_RUN m + 1) 255
      t.lim.seen[m] = s.clk ∧
      t.b F.LIMIT_STAT_STALE m = true ∧ t.f F.LIMIT_STAT_RUN m = run ∧ t.lim.within[m] = false ∧
      (s.tripped m = false → s.f F.MON_CFG_COUNT m ≤ run →
        t.tripped m = true ∧ t.f F.LIMIT_STAT_STATE m = 3 ∧ Counted F.LIMIT_STAT_TRIPS s t m ∧
        (s.b F.MON_ACT_SAFE m = true → t.b F.LIMIT_SAFE_ACTIVE = true)) ∧
      (s.tripped m = false → run < s.f F.MON_CFG_COUNT m → t.tripped m = false ∧ t.f F.LIMIT_STAT_STATE m = 2) := by
  have hrun : (Act.monitorStale m).run s = (Act.evaluate m none true).run ((Act.setB F.LIMIT_STAT_STALE true m).run s) := by
    rw [Act.monitorStale, Act.look_run, hlive, hon, hkind, bne_iff_ne.mpr hstale, decide_eq_true hdue]
    rfl
  have hset : Within [.LIMIT_STAT] [] [] (.setB F.LIMIT_STAT_STALE true m) := .setB
  obtain ⟨hlim, hruns, hstays, htrips, hkept, hviolated⟩ := Act.evaluate_judged (m := m) none true ((Act.setB F.LIMIT_STAT_STALE true m).run s)
  have hrunKept : ((Act.setB F.LIMIT_STAT_STALE true m).run s).f F.LIMIT_STAT_RUN m = s.f F.LIMIT_STAT_RUN m :=
    Act.setB_f_spared s _ (by decide) (by decide)
  have htripped : ((Act.setB F.LIMIT_STAT_STALE true m).run s).tripped m = s.tripped m := (hset s).bit_eq _ _ _ _
  have hcount : ((Act.setB F.LIMIT_STAT_STALE true m).run s).f F.MON_CFG_COUNT m = s.f F.MON_CFG_COUNT m := (hset s).f_eq _ _ _
  have htripsKept : ((Act.setB F.LIMIT_STAT_STALE true m).run s).f F.LIMIT_STAT_TRIPS m = s.f F.LIMIT_STAT_TRIPS m :=
    Act.setB_f_spared s _ (by decide) (by decide)
  have hclk : ((Act.setB F.LIMIT_STAT_STALE true m).run s).clk = s.clk := (hset s).parts .clk (by decide)
  rw [hrunKept] at hruns
  rw [hrunKept, htripped, hcount] at htrips hkept hviolated
  refine ⟨_, rfl, ?_⟩
  rw [hrun]
  refine ⟨?_, ?_, hruns, ?_, fun hnot hle => ?_, fun hnot hlt => ⟨?_, hviolated rfl hnot hlt⟩⟩
  · rw [hlim, LimSt.judged_seen, hclk]
  · rw [hstays]
    exact Act.setB_b_at (valid_limitStat m) _ _
  · rw [hlim, LimSt.judged_within]; rfl
  · obtain ⟨h1, h2, h3, h4⟩ := htrips rfl hnot hle
    rw [Counted, htripsKept] at h3
    exact ⟨h1, h2, h3, fun h => h4 (by rw [(hset s).b_eq _ _ _, h])⟩
  · rw [hkept (.inr hlt), hnot]

/-! ### Writes of TRIPPED -/

theorem Within.outCauses : Within [.DAC_STATUS] [] [] .outCauses := .each fun _ => .each fun _ => .look fun _ => .when .clrBit

/-- Of the members of a list, the one that does not leave the state alone acts. -/
theorem Act.each_one {α : Type} [DecidableEq α] {l : List α} {x : α} (hx : x ∈ l) (hnodup : l.Nodup) {f : α → Act}
    (hskip : ∀ y, y ≠ x → ∀ s, (f y).run s = s) (s : State) : (Act.each l f).run s = (f x).run s := by
  induction l generalizing s with
  | nil => exact absurd hx List.not_mem_nil
  | cons y l ih =>
    obtain ⟨hy, hl⟩ := List.nodup_cons.mp hnodup
    have hnone : ∀ (l : List α), x ∉ l → ∀ s, (Act.each l f).run s = s := by
      intro l
      induction l with
      | nil => exact fun _ _ => rfl
      | cons z l ih =>
        intro hz s
        obtain ⟨hzx, hl⟩ := not_or.mp (fun h => hz (List.mem_cons.mpr h))
        rw [Act.each_cons_run, hskip z (Ne.symm hzx), ih hl]
    rw [Act.each_cons_run]
    by_cases h : y = x
    · subst h
      exact hnone l hy _
    · rw [hskip y h]
      exact ih ((List.mem_cons.mp hx).resolve_left (Ne.symm h)) hl s

/-- R275: a TRIPPED bit clears, and the state of its monitor with it. -/
def Act.tripClears (s : State) (i : Fin 4) (b : Fin 32) (m : Monitor) : Act := .all [.clrBit F.LIMIT_TRIPPED_TRIPPED b i, .setF F.LIMIT_STAT_RUN 0 m,
  .setF F.LIMIT_STAT_STATE (if s.b F.MON_CFG_ENABLE m then 1 else 0) m]

theorem Act.trippedClear_run {i : Fin 4} {b : Fin 32} (hm : m = monitorOf (32 * i + b)) (s : State) :
    (Act.trippedClear i (BitVec.ofNat 32 (2 ^ b.val))).run s =
      (Act.all [.when (s.tripped m && s.lim.within[m] && !s.b F.LIMIT_STAT_STALE m) (.tripClears s i b m), .outCauses, .accept]).run s := by
  subst hm
  have hbit : ∀ y : Fin 32, (BitVec.ofNat 32 (2 ^ b.val)).getLsbD y = decide (y = b) := fun y => by
    rw [BitVec.getLsbD_ofNat, decide_eq_true y.isLt, Bool.true_and, Nat.testBit_two_pow]
    exact decide_eq_decide.mpr ⟨fun h => Fin.ext h.symm, fun h => h ▸ rfl⟩
  rw [Act.trippedClear, Act.all_cons_run, Act.each_one (List.mem_finRange b) (List.nodup_finRange 32) fun y hy t => ?_, Act.look_run]
  · simp only [hbit, decide_true, Bool.true_and]
    rfl
  · rw [Act.look_run, hbit, decide_eq_false hy]
    rfl

theorem monitorOf_val (i : Fin 4) (b : Fin 32) : (monitorOf (32 * i + b)).val = 32 * i.val + b.val :=
  Nat.mod_eq_of_lt (show 32 * i.val + b.val < 128 by omega)

theorem State.tripped_at (s : State) (i : Fin 4) (b : Fin 32) :
    s.tripped (monitorOf (32 * i + b)) = s.bit F.LIMIT_TRIPPED_TRIPPED b i := by
  rw [State.tripped, monitorOf_val, Nat.mul_add_mod, Nat.mod_eq_of_lt b.isLt, Nat.mul_add_div (by decide), Nat.div_eq_of_lt b.isLt, Nat.add_zero]

section
variable {i : Fin 4} {b : Fin 32} (hm : m = monitorOf (32 * i + b)) (hw : s.takesReg src .LIMIT_TRIPPED i) (htripped : s.tripped m = true)
include hm hw htripped

theorem trippedClear_clears (hwithin : s.lim.within[m] = true) (hstale : s.b F.LIMIT_STAT_STALE m = false) :
    Answers (.trippedClear src i (BitVec.ofNat 32 (2 ^ b.val))) s fun t =>
      t.resp = .ok 0 ∧ t.tripped m = false ∧ t.f F.LIMIT_STAT_RUN m = 0 ∧
      t.f F.LIMIT_STAT_STATE m = (if s.b F.MON_CFG_ENABLE m then 1 else 0) ∧
      NamesKept [.LIMIT_TRIPPED, .LIMIT_STAT, .DAC_STATUS] s t ∧ OnlyRegs s t := by
  have hat : ∀ t : State, t.tripped m = t.bit F.LIMIT_TRIPPED_TRIPPED b i := fun t => hm ▸ t.tripped_at i b
  have heffect : (Act.trippedClear i (BitVec.ofNat 32 (2 ^ b.val))).run s = (Act.all [.tripClears s i b m, .outCauses, .accept]).run s := by
    rw [Act.trippedClear_run hm, htripped, hwithin, hstale]
    rfl
  have hrun := Act.writeTo_accepted (d := 0) hw (a := Act.trippedClear i (BitVec.ofNat 32 (2 ^ b.val))) (by rw [heffect]; rfl)
  have hlast : Within [.DAC_STATUS] [] [.resp] (.all [.outCauses, .accept]) := .all ⟨Within.outCauses.mono, .accept⟩
  have hin : Within [.LIMIT_TRIPPED, .LIMIT_STAT, .DAC_STATUS] [] [.resp] (.all [.tripClears s i b m, .outCauses, .accept]) :=
    .all ⟨.all ⟨.clrBit, .setF, .setF⟩, Within.outCauses.mono, .accept⟩
  have hstate : (if s.b F.MON_CFG_ENABLE m then 1 else 0) < 4 := by split <;> decide
  refine ⟨_, rfl, ?_⟩
  rw [hrun, heffect]
  refine ⟨rfl, ?_, ?_, ?_, (hin s).namesKept, (hin s).rest⟩
  · rw [hat, Act.all_cons_run, (hlast _).bit_eq _ _ _ _, Act.tripClears, Act.all_bit_head (by exact .all ⟨.setF, .setF⟩)]
    exact Act.clrBit_bit_stored s (RegRef.valid_of i.isLt) (by decide) b.isLt
  · rw [Act.all_cons_run, (hlast _).f_eq _ _ _, Act.tripClears, Act.all_cons_run, Act.all_f_head (by exact .all (by exact .setF))]
    exact Act.setF_f_at (valid_limitStat m) _ _
  · rw [Act.all_cons_run, (hlast _).f_eq _ _ _, Act.tripClears, Act.all_cons_run, Act.all_cons_run, Act.all_cons_run, Act.all_nil_run]
    exact (Act.setF_f_at (valid_limitStat m) _ _).trans (Nat.mod_eq_of_lt hstate)

theorem trippedClear_keeps (hnot : s.lim.within[m] = false ∨ s.b F.LIMIT_STAT_STALE m = true) :
    Answers (.trippedClear src i (BitVec.ofNat 32 (2 ^ b.val))) s fun t =>
      t.resp = .ok 0 ∧ t.tripped m = true ∧ NamesKept [.DAC_STATUS] s t ∧ OnlyRegs s t := by
  have heffect : (Act.trippedClear i (BitVec.ofNat 32 (2 ^ b.val))).run s = (Act.all [.outCauses, .accept]).run s := by
    have hstays : (s.lim.within[m] && !s.b F.LIMIT_STAT_STALE m) = false := by
      rcases hnot with h | h
      · rw [h, Bool.false_and]
      · rw [h, Bool.not_true, Bool.and_false]
    rw [Act.trippedClear_run hm, Bool.and_assoc, hstays, Bool.and_false]
    rfl
  have hrun := Act.writeTo_accepted (d := 0) hw (a := Act.trippedClear i (BitVec.ofNat 32 (2 ^ b.val))) (by rw [heffect]; rfl)
  have hin : Within [.DAC_STATUS] [] [.resp] (.all [.outCauses, .accept]) := .all ⟨Within.outCauses.mono, .accept⟩
  refine ⟨_, rfl, ?_⟩
  rw [hrun, heffect]
  refine ⟨rfl, ?_, (hin s).namesKept, (hin s).rest⟩
  rw [State.tripped, (hin s).bit_eq _ _ _ _]
  exact htripped

end

/-- Settles O25. -/
theorem monitorEvaluations : Obligations.MonitorEvaluations := by
  unfold Obligations.MonitorEvaluations
  intro s src m i b
  exact ⟨fun r => limitsTurn_record, fun c => limitsTurn_setpoint, monitorStale_answers,
    fun hw htripped => ⟨trippedClear_clears rfl hw htripped, trippedClear_keeps rfl hw htripped⟩⟩

/-! ### The words of a monitor -/

theorem Within.monitorState : Within [.LIMIT_STAT] [] [.lim] (.monitorState m) :=
  .look fun _ => .ite (.all ⟨.setLim, .setF, .setF⟩) (.ite (.all ⟨.setF, .setF⟩) .skip)

theorem valid_monReg (r : MonReg) (m : Monitor) : RegRef.valid ⟨monRegName r, m.val, 0, 0⟩ = true := by
  cases r <;> exact RegRef.valid_of m.isLt

theorem monRegName_other (r : MonReg) : monRegName r ∉ [RegName.LIMIT_STAT, .DAC_STATUS] := by cases r <;> decide

theorem monitorWrite_answers {r : MonReg} (hw : s.takesReg src (monRegName r) m) (hvalid : ((s.monWords m).put r v).invalid = false)
    (hlock : s.limitLocked = false ∨ (s.monWords m).tightens ((s.monWords m).put r v) = true) : Answers (.monitorWrite src m r v) s fun t =>
      t.resp = .ok 0 ∧ t.r (monRegName r) m = v &&& (monRegName r).mask ∧
      NamesKept [monRegName r, .LIMIT_STAT, .DAC_STATUS] s t ∧ t = { s with regs := t.regs, lim := t.lim, resp := t.resp } := by
  have hfree : (s.limitLocked && !(s.monWords m).tightens ((s.monWords m).put r v)) = false := by
    rcases hlock with h | h
    · rw [h, Bool.false_and]
    · rw [h, Bool.not_true, Bool.and_false]
  have heffect : (Act.monitorWrite m r v).run s = (Act.all [.setR (monRegName r) v m, .monitorState m, .outCauses, .accept]).run s := by
    simp only [Act.monitorWrite, Act.look_run, hvalid, hfree, Bool.or_self, Bool.false_eq_true, if_false]
  have hrun := Act.writeTo_accepted (d := 0) hw (a := Act.monitorWrite m r v) (by rw [heffect]; rfl)
  have hlater : Within [.LIMIT_STAT, .DAC_STATUS] [] [.lim, .resp] (.all [.monitorState m, .outCauses, .accept]) :=
    .all ⟨Within.monitorState.mono, Within.outCauses.mono, .accept⟩
  have hset : Within [monRegName r, .LIMIT_STAT, .DAC_STATUS] [] [.lim, .resp] (.setR (monRegName r) v m) := .setR List.mem_cons_self
  have htouch := (hset s).trans ((hlater _).mono (l' := [monRegName r, .LIMIT_STAT, .DAC_STATUS]) (rs' := []) (ps' := [.lim, .resp])
    (List.subset_cons_self _ _))
  refine ⟨_, rfl, ?_⟩
  rw [hrun, heffect, Act.all_cons_run]
  refine ⟨rfl, ?_, htouch.namesKept, htouch.rest⟩
  rw [(hlater _).r_eq _ _ _ (monRegName_other r), Act.setR_r_stored _ _ (valid_monReg r m)]

theorem monitorWrite_refused {r : MonReg} (hw : s.takesReg src (monRegName r) m)
    (hbad : ((s.monWords m).put r v).invalid = true ∨ s.limitLocked = true ∧ (s.monWords m).tightens ((s.monWords m).put r v) = false) :
    Answers (.monitorWrite src m r v) s (Refused F.LIMIT_REFUSED_COUNT 0 0 s) := by
  refine ⟨_, rfl, Act.writeTo_refused hw ?_ (by decide)⟩
  have hcond : (((s.monWords m).put r v).invalid || s.limitLocked && !(s.monWords m).tightens ((s.monWords m).put r v)) = true := by
    rcases hbad with h | ⟨hlocked, htightens⟩
    · rw [h, Bool.true_or]
    · rw [hlocked, htightens, Bool.not_false, Bool.and_self, Bool.or_true]
  simp only [Act.monitorWrite, Act.look_run, hcond, if_true, Act.limitRefuse]

theorem limitLock_locks (hw : s.takesReg src .LIMIT_LOCK) (hkey : F.LIMIT_LOCK_KEY.of v = 0x3C) : Answers (.limitLock src v) s fun t =>
    t.resp = .ok 0 ∧ t.limitLocked = true ∧ t.b F.SYS_LOCKS_LIMIT = true ∧
    RegsKept [⟨.LIMIT_LOCK, 0, 0, 0⟩, ⟨.SYS_LOCKS, 0, 0, 0⟩] s t ∧ OnlyRegs s t := by
  have heffect : (Act.limitLock v).run s = (Act.all [.setB F.LIMIT_LOCK_LOCKED true, .setB F.SYS_LOCKS_LIMIT true, .accept]).run s := by
    rw [Act.limitLock, if_pos hkey]
    rfl
  have hrun := Act.writeTo_accepted (d := 0) hw (a := Act.limitLock v) (by rw [heffect]; rfl)
  have hin : Within [] [⟨.LIMIT_LOCK, 0, 0, 0⟩, ⟨.SYS_LOCKS, 0, 0, 0⟩] [.resp] (.all [.setB F.LIMIT_LOCK_LOCKED true,
      .setB F.SYS_LOCKS_LIMIT true, .accept]) := .all ⟨.setBAt, .setBAt, .accept⟩
  refine ⟨_, rfl, ?_⟩
  rw [hrun, heffect]
  refine ⟨rfl, ?_, ?_, (hin s).regsKept, (hin s).rest⟩
  · simp +decide [State.limitLocked, State.b]
  · simp +decide [State.b]

theorem limitLock_refused (hw : s.takesReg src .LIMIT_LOCK) (hkey : F.LIMIT_LOCK_KEY.of v ≠ 0x3C) : Answers (.limitLock src v) s fun t =>
    t.resp = .error ∧ t.limitLocked = s.limitLocked ∧ Counted F.LIMIT_REFUSED_COUNT s t ∧ OnlyRegs s t := by
  obtain ⟨hresp, hcount, hnames, honly⟩ := Act.writeTo_refused hw (a := Act.limitLock v) (f := F.LIMIT_REFUSED_COUNT)
    (by rw [Act.limitLock, if_neg hkey, Act.limitRefuse]) (by decide)
  refine ⟨_, rfl, hresp, ?_, hcount, honly⟩
  rw [State.limitLocked, State.b, State.f, hnames _ _ _ _ (by decide)]
  rfl

/-- Settles O26. -/
theorem monitorWrites : Obligations.MonitorWrites := by
  unfold Obligations.MonitorWrites
  intro s src m r v
  exact ⟨fun hw => ⟨monitorWrite_answers hw, monitorWrite_refused hw⟩, fun hw => ⟨limitLock_locks hw, limitLock_refused hw⟩⟩

end Sys2Proof.Machine
end

section
-- One proof after another: elaborated side by side, the proofs of the whole text do not fit in the check's memory.
set_option Elab.async false
/-! Resets: what a module reset, a fabric reset and a group reset leave (R80 to R83). -/

namespace Sys2Proof.Machine

variable {s : State} {src : Src} {v : Word} {g : Grp}

/-! ### What a reset clears -/

theorem Sparse.get_filter {κ β : Type} [DecidableEq κ] [DecidableEq β] (d : κ → β) (keep : κ → Bool) (l : List (κ × β)) (k : κ) :
    Sparse.get d (l.filter fun e => keep e.1) k = if keep k then Sparse.get d l k else d k := by
  induction l with
  | nil => simp [Sparse.get]
  | cons e l ih =>
    by_cases hk : e.1 = k
    · subst hk
      by_cases he : keep e.1 <;> simp [Sparse.get, he, ih]
    · by_cases he : keep e.1 <;> simp [Sparse.get, he, ih, hk]

/-- R81: a register that is not kept takes its reset value. -/
theorem Act.clearRegs_r (keep : RegName → Bool) (s : State) {n : RegName} (i j k : Nat) (hn : keep n = false) :
    ((Act.clearRegs keep).run s).r n i j k = n.reset :=
  (Sparse.get_filter RegRef.resetWord (fun x => keep x.name) s.regs _).trans (if_neg (by rw [hn]; exact Bool.false_ne_true))

theorem Within.unretireAll : Within [.FAULT_RETIRED] [] [.flash] .unretireAll :=
  .look fun _ => .all ⟨.each fun _ => .clrBit, .upd (fun _ => rfl) fun _ => rfl⟩

theorem Within.flashFields {old : State} : Within [.STEP_POL_STATUS, .SYS_PWR] [] [] (.flashFields old) := .all ⟨.setF, .setF, .setB⟩

/-- R81: the reset of registers and memories, ahead of what flash and the cause give. -/
def Act.clearStores (warm : Bool) : Act := .all [
  .unretireAll,
  .clearRegs fun n => flashRegs.contains n || (warm && linkRegs.contains n),
  .clearMem fun a => warm && decide (0xA8000 ≤ a ∧ a < 0xAA000),
  .clearHarb, .clearWork]

/-- R81: what flash and the cause of the reset give. -/
def Act.resetMarks (cause : Nat) (old : State) : Act := .all [.flashFields old, .setF F.SYS_RST_CAUSE_CAUSE cause]

theorem Act.clearAll_run (warm : Bool) (cause : Nat) (s : State) :
    (Act.clearAll warm cause).run s = (Act.resetMarks cause s).run ((Act.clearStores warm).run s) := rfl

theorem Within.resetMarks {cause : Nat} {old : State} : Within [.STEP_POL_STATUS, .SYS_PWR, .SYS_RST_CAUSE] [] [] (.resetMarks cause old) :=
  .all ⟨Within.flashFields.mono, .setF⟩

/-- What a reset of registers and memories leaves. -/
structure Cleared (warm : Bool) (s t : State) : Prop where
  regs : ∀ n i j k, n ∉ flashRegs → (warm = true → n ∉ linkRegs) → t.r n i j k = n.reset
  mem : t.mem = s.mem.filter fun e => warm && decide (0xA8000 ≤ e.1 ∧ e.1 < 0xAA000)
  harb : t.harb = []
  clk : t.clk = 0
  time : t.time = 0
  pwr : t.pwr = s.pwr
  log : t.log = { s.log with resets := (s.log.resets + 1) % 256 }
  flash : t.flash.slots = s.flash.slots ∧ t.flash.nv = s.flash.nv ∧ t.flash.nvBad = s.flash.nvBad
  pol : t.pol.slots = s.pol.slots

theorem Act.clearStores_cleared (warm : Bool) (s : State) : Cleared warm s ((Act.clearStores warm).run s) := by
  have hun : Within [.FAULT_RETIRED] [] [.flash] .unretireAll := Within.unretireAll
  have hflash : (Act.unretireAll.run s).flash.slots = s.flash.slots ∧ (Act.unretireAll.run s).flash.nv = s.flash.nv ∧
      (Act.unretireAll.run s).flash.nvBad = s.flash.nvBad := by
    have hclear : Within [.FAULT_RETIRED] [] [] (.each s.flash.unretire fun r => .clrBit F.FAULT_RETIRED_RETIRED r) := .each fun _ => .clrBit
    have hsame : ((Act.each s.flash.unretire fun r => .clrBit F.FAULT_RETIRED_RETIRED r).run s).flash = s.flash := (hclear s).parts .flash (by decide)
    rw [Act.unretireAll, Act.look_run, Act.all_cons_run, Act.all_cons_run, Act.all_nil_run, Act.upd_run]
    generalize (Act.each s.flash.unretire fun r => .clrBit F.FAULT_RETIRED_RETIRED r).run s = t at hsame ⊢
    rw [← hsame]
    exact ⟨rfl, rfl, rfl⟩
  have hrun : (Act.clearStores warm).run s = Act.clearWork.run ((Act.all [
      .clearRegs fun n => flashRegs.contains n || (warm && linkRegs.contains n),
      .clearMem fun a => warm && decide (0xA8000 ≤ a ∧ a < 0xAA000), .clearHarb]).run (Act.unretireAll.run s)) := rfl
  have hmem : (Act.unretireAll.run s).mem = s.mem := (hun s).parts .mem (by decide)
  have hpwr : (Act.unretireAll.run s).pwr = s.pwr := (hun s).parts .pwr (by decide)
  have hlog : (Act.unretireAll.run s).log = s.log := (hun s).parts .log (by decide)
  have hpol : (Act.unretireAll.run s).pol = s.pol := (hun s).parts .pol (by decide)
  rw [hrun]
  generalize Act.unretireAll.run s = u at *
  exact {
    regs := fun n i j k hn hlink => by
      have hkeep : (flashRegs.contains n || (warm && linkRegs.contains n)) = false := by
        rw [Bool.or_eq_false_iff]
        refine ⟨by simpa using hn, ?_⟩
        cases warm
        · rfl
        · simpa using hlink rfl
      exact Act.clearRegs_r (fun n => flashRegs.contains n || (warm && linkRegs.contains n)) u i j k hkeep
    mem := by rw [← hmem]; rfl
    harb := rfl
    clk := rfl
    time := rfl
    pwr := by rw [← hpwr]; rfl
    log := by rw [← hlog]; rfl
    flash := hflash
    pol := by rw [← hpol]; rfl }

/-! ### A module reset -/

theorem Within.nvLoad : Within [.DAC_NV, .DAC_NV_CODES] [] [] .nvLoad :=
  .each fun _ => .each fun _ => .look fun _ => .all ⟨.setF, .setB, .setB, .setF, .setF⟩

theorem Within.nvResetFields : Within [.DAC_CFG, .DAC_VALUE, .DAC_STATUS] [] [.outs] .nvResetFields :=
  .each fun _ => .each fun _ => .look fun _ => .all ⟨.setOut, .setF, .setF, .setF⟩

theorem Within.slotBegins {l : List RegName} : Within l [] [.mon] (.slotBegins g) := .look fun _ => .setMon

/-- The registers that a group shows after a reset. -/
abbrev resetGroupNames : List RegName := [.REF_STATUS, .DAC_STATUS, .PIN_STATE, .PIN_DRIVEN, .PIN_FIELD, .PIN_LEVEL]

theorem Within.outUpdate_byName {o : Out} : Within [.DAC_STATUS] [] [.outs] (.outUpdate g o) := Within.outUpdate.byName (by simp)

theorem Within.resetGroup {old : State} : Within resetGroupNames [] [.outs, .mon, .pins, .seed] (.resetGroup old g) := by
  refine .all ⟨.setB, .setB, .when (.each fun o => .all ⟨.setB, ?_⟩), .when (Within.slotBegins (l := [])).mono, Within.pinRowUpdate.mono⟩
  split
  · exact Within.outFault_byName.mono
  · exact Within.outUpdate_byName.mono

/-- R82: the supply's part of a module reset. -/
def PwrSt.reset (p : PwrSt) (clk : Nat) : PwrSt := { p with
  life := .boot, warm := true, startRef := 0, dipSeen := p.dipSeen, failures := Vector.replicate 4 []
  restartDue := Vector.ofFn fun g => p.restartDue[g] || !p.supplied[g]
  mapped := Vector.replicate 4 false
  restored := false, released := false, secondVerify := none, modeWritten := false, hourDue := p.hourDue - clk
  lowAt := p.lowAt - clk, aliveAt := p.aliveAt.map fun t => t - clk }

/-- R82: what ends on the ring with a module reset. -/
def Act.resetRing : Act := .upd fun s => { s with
  ring := { s.ring with
    reqs := [], issued := s.ring.issued.map (fun e => (e.1, 0)), kept := s.ring.kept.map (fun e => (e.1, e.2.1, 0, e.2.2.2))
    applied := [], hostQ := [], gaveUp := false, dup := [], failed := [], held := [], evMask := 0, evDue := false, once := 0 } }

/-- R82: what a module reset does before the supply's part, once everything is cleared. -/
def Act.resetFields (old : State) : Act := .all [.setFlash fun f => { f with nvUntil := old.flash.nvUntil - old.clk }, .nvLoad, .nvResetFields,
  .setF F.SYS_PWR_GRP_PWR_OK (old.f F.SYS_PWR_GRP_PWR_OK)]

/-- R82: what a module reset does after the supply's part. -/
def Act.resetWorld (old : State) : Act := .all [.resetRing, .groups fun g => .resetGroup old g]

theorem Act.moduleReset_run (cause : Nat) (s : State) : (Act.moduleReset cause).run s =
    (Act.resetWorld s).run ((Act.setPwr fun p => p.reset s.clk).run ((Act.resetFields s).run ((Act.clearAll true cause).run s))) := rfl

theorem Within.resetFields {old : State} :
    Within [.DAC_NV, .DAC_NV_CODES, .DAC_CFG, .DAC_VALUE, .DAC_STATUS, .SYS_PWR] [] [.flash, .outs] (.resetFields old) :=
  .all ⟨.setFlash, Within.nvLoad.mono, Within.nvResetFields.mono, .setF⟩

theorem Within.resetWorld {old : State} : Within resetGroupNames [] [.ring, .outs, .mon, .pins, .seed] (.resetWorld old) :=
  .all ⟨.upd (fun _ => rfl) fun _ => rfl, .each fun _ => Within.resetGroup.mono⟩

/-- The registers that a module reset writes once everything is cleared. -/
abbrev resetNames : List RegName := [.STEP_POL_STATUS, .SYS_PWR, .SYS_RST_CAUSE, .DAC_NV, .DAC_NV_CODES, .DAC_CFG, .DAC_VALUE, .DAC_STATUS,
  .REF_STATUS, .PIN_STATE, .PIN_DRIVEN, .PIN_FIELD, .PIN_LEVEL]

/-- What a module reset writes once everything is cleared. -/
theorem Act.moduleReset_touches (cause : Nat) (s : State) :
    Touches resetNames [] [.flash, .outs, .pwr, .ring, .mon, .pins, .seed] ((Act.clearStores true).run s) ((Act.moduleReset cause).run s) := by
  have hpwr : Within resetNames [] [.pwr] (.setPwr fun p => p.reset s.clk) := .setPwr
  rw [Act.moduleReset_run, Act.clearAll_run]
  exact (((Within.resetMarks _).mono.trans (Within.resetFields _).mono).trans (hpwr _).mono).trans (Within.resetWorld _).mono

theorem Act.moduleReset_pwr (cause : Nat) (s : State) : ((Act.moduleReset cause).run s).pwr = s.pwr.reset s.clk := by
  have hbefore : ((Act.resetFields s).run ((Act.clearAll true cause).run s)).pwr = s.pwr := by
    rw [(Within.resetFields _).parts .pwr (by decide), Act.clearAll_run, (Within.resetMarks _).parts .pwr (by decide),
      (Act.clearStores_cleared true s).pwr]
  rw [Act.moduleReset_run, (Within.resetWorld _).parts .pwr (by decide)]
  exact congrArg (PwrSt.reset · s.clk) hbefore

theorem Act.moduleReset_cause {cause : Nat} (hcause : cause < 16) (s : State) :
    ((Act.moduleReset cause).run s).f F.SYS_RST_CAUSE_CAUSE = cause := by
  have hpwr : Within [] [] [.pwr] (.setPwr fun p => p.reset s.clk) := .setPwr
  rw [Act.moduleReset_run, (Within.resetWorld _).f_eq _ _ _, (hpwr _).f_eq _ _ _, (Within.resetFields _).f_eq _ _ _, Act.clearAll_run,
    Act.resetMarks, Act.all_cons_run, Act.all_cons_run, Act.all_nil_run]
  exact (Act.setF_f_same _ _ _ _ _ _ (by decide) (by decide)).trans (Nat.mod_eq_of_lt hcause)

theorem Act.sysReset_module (hkey : F.SYS_RESET_KEY.of v = 0xC3) (hmodule : F.SYS_RESET_MODULE.of v = 1) (s : State) :
    (Act.sysReset v).run s = (Act.moduleReset 1).run (Act.accept.run s) := by
  rw [Act.sysReset, if_neg (not_not.mpr hkey), if_pos hmodule, Act.all_cons_run, Act.all_cons_run, Act.all_nil_run]

theorem Act.moduleReset_resp (cause : Nat) (s : State) : ((Act.moduleReset cause).run s).resp = s.resp := by
  have hun : Within [.FAULT_RETIRED] [] [.flash] .unretireAll := Within.unretireAll
  rw [(Act.moduleReset_touches cause s).parts .resp (by decide), ← (hun s).parts .resp (by decide)]
  rfl

theorem moduleReset_resets (hw : s.takesReg src .SYS_RESET) (hkey : F.SYS_RESET_KEY.of v = 0xC3) (hmodule : F.SYS_RESET_MODULE.of v = 1) :
    Answers (.moduleReset src v) s fun t =>
      t.pwr.life = .boot ∧ t.pwr.warm = true ∧ t.clk = 0 ∧ t.time = 0 ∧ t.released = false ∧ t.f F.SYS_RST_CAUSE_CAUSE = 1 ∧
      t.harb = [] ∧ (∀ g, t.alive g = s.alive g ∧ t.pwr.supplied[g] = s.pwr.supplied[g]) ∧ t.log.flash = s.log.flash := by
  have heffect := Act.sysReset_module hkey hmodule s
  have hrun := Act.writeTo_accepted (d := 0) hw (a := Act.sysReset v) (by rw [heffect, Act.moduleReset_resp]; rfl)
  have hclear := Act.clearStores_cleared true (Act.accept.run s)
  have htouch := Act.moduleReset_touches 1 (Act.accept.run s)
  have hpwr := Act.moduleReset_pwr 1 (Act.accept.run s)
  have hcause := Act.moduleReset_cause (cause := 1) (by decide) (Act.accept.run s)
  refine ⟨_, rfl, ?_⟩
  rw [hrun, heffect]
  generalize (Act.moduleReset 1).run (Act.accept.run s) = t at *
  refine ⟨?_, ?_, (htouch.parts .clk (by decide)).trans hclear.clk, (htouch.parts .time (by decide)).trans hclear.time, ?_, hcause,
    (htouch.parts .harb (by decide)).trans hclear.harb, fun g => ⟨?_, ?_⟩, ?_⟩
  · rw [hpwr]; rfl
  · rw [hpwr]; rfl
  · rw [State.released, hpwr]; rfl
  · rw [State.alive, hpwr]; rfl
  · rw [hpwr]; rfl
  · rw [show t.log = _ from htouch.parts .log (by decide), hclear.log]; rfl

theorem moduleReset_badKey (hw : s.takesReg src .SYS_RESET) (hkey : F.SYS_RESET_KEY.of v ≠ 0xC3) : Answers (.moduleReset src v) s fun t =>
    t.resp = .error ∧ NamesKept [.FAB_PORT_ERR] s t ∧ t = { s with regs := t.regs, refused := s.refused + 1, resp := t.resp } := by
  have hcount : Within [.FAB_PORT_ERR] [] [] (.masterCount src) := .masterCount
  have htouch := hcount (Act.refuseUncounted.run s)
  have hrest := htouch.rest
  refine ⟨_, rfl, ?_⟩
  rw [Act.writeTo_run hw, Act.sysReset, if_pos hkey]
  refine ⟨(Act.masterCount_resp src _).trans rfl, htouch.namesKept, ?_⟩
  generalize (Act.masterCount src).run (Act.refuseUncounted.run s) = t at hrest ⊢
  have hresp : t.resp = .error := congrArg State.resp hrest
  rw [hresp]
  exact hrest

/-! ### A fabric reset -/

/-- Configuration words and block RAM are the same. -/
def FabricKept (s t : State) : Prop := t.fab.bram = s.fab.bram ∧ t.fab.cfg = s.fab.cfg

theorem FabricKept.frame : Frame FabricKept := ⟨fun _ => ⟨rfl, rfl⟩, fun h1 h2 => ⟨h2.1.trans h1.1, h2.2.trans h1.2⟩⟩

/-- R81: every flip-flop takes its initial value. -/
def Act.regionsInit : Act := .each (List.range 32) Act.regionInit

theorem Within.regionsInit : Within [] [] [.fab] .regionsInit := .each fun _ => .look fun _ => .setFab

theorem Act.regionsInit_kept : Act.regionsInit.Keeps FabricKept := Act.keeps_each FabricKept.frame _ fun _ _ => ⟨rfl, rfl⟩

theorem Act.sysReset_fabric (hkey : F.SYS_RESET_KEY.of v = 0xC3) (hmodule : F.SYS_RESET_MODULE.of v = 0)
    (hfabric : F.SYS_RESET_FABRIC.of v = 1) (hgroup : F.SYS_RESET_GROUP.of v = 0) (s : State) : (Act.sysReset v).run s =
      Act.accept.run ((Act.all [.setFab fun f => { f with bridge := [] }, .setB F.SYS_RST_CAUSE_FABRIC_RST true]).run (Act.regionsInit.run s)) := by
  have hnone : ∀ t : State, (Act.groups fun g => .when ((F.SYS_RESET_GROUP.of v).testBit g) (.groupReset g)).run t = t := fun t =>
    Act.each_when_none _ (fun g _ => by rw [hgroup, Nat.zero_testBit]) t
  rw [Act.sysReset, if_neg (not_not.mpr hkey), hmodule, if_neg (by decide), hfabric, beq_self_eq_true]
  simp only [Act.all_cons_run, Act.all_nil_run, Act.when_true_run, hnone, Act.fabricReset, Act.regionsInit]

theorem fabricReset_answers (hw : s.takesReg src .SYS_RESET) (hkey : F.SYS_RESET_KEY.of v = 0xC3) (hmodule : F.SYS_RESET_MODULE.of v = 0)
    (hfabric : F.SYS_RESET_FABRIC.of v = 1) (hgroup : F.SYS_RESET_GROUP.of v = 0) : Answers (.fabricReset src v) s fun t =>
      t.resp = .ok 0 ∧ t.b F.SYS_RST_CAUSE_FABRIC_RST = true ∧ t.fab.bram = s.fab.bram ∧ t.fab.cfg = s.fab.cfg ∧
      t.fab.bridge = [] ∧ RegsKept [⟨.SYS_RST_CAUSE, 0, 0, 0⟩] s t := by
  have heffect := Act.sysReset_fabric hkey hmodule hfabric hgroup s
  have hrun := Act.writeTo_accepted (d := 0) hw (a := Act.sysReset v) (by rw [heffect]; rfl)
  obtain ⟨hbram, hcfg⟩ := Act.regionsInit_kept s
  have hregions := Within.regionsInit s
  have hmarks : Within [] [⟨.SYS_RST_CAUSE, 0, 0, 0⟩] [.fab, .resp] (.all [.setFab fun f => { f with bridge := [] },
      .setB F.SYS_RST_CAUSE_FABRIC_RST true]) := .all ⟨.setFab, .setBAt⟩
  have haccept : Within [] [⟨.SYS_RST_CAUSE, 0, 0, 0⟩] [.fab, .resp] .accept := .accept
  refine ⟨_, rfl, ?_⟩
  rw [hrun, heffect]
  generalize Act.regionsInit.run s = u at hbram hcfg hregions
  have htouch := (hregions.mono (l' := []) (rs' := [⟨.SYS_RST_CAUSE, 0, 0, 0⟩]) (ps' := [.fab, .resp])).trans ((hmarks u).trans (haccept _))
  have hset : Within [.SYS_RST_CAUSE] [] [] (.setB F.SYS_RST_CAUSE_FABRIC_RST true) := .setB
  have hanswer : Within [] [] [.resp] .accept := .accept
  have hfab : (Act.accept.run ((Act.all [.setFab fun f => { f with bridge := [] }, .setB F.SYS_RST_CAUSE_FABRIC_RST true]).run u)).fab =
      { u.fab with bridge := [] } := by
    rw [(hanswer _).parts .fab (by decide), Act.all_cons_run, Act.all_cons_run, Act.all_nil_run, (hset _).parts .fab (by decide)]
    rfl
  refine ⟨rfl, ?_, (congrArg FabSt.bram hfab).trans hbram, (congrArg FabSt.cfg hfab).trans hcfg, congrArg FabSt.bridge hfab, htouch.regsKept⟩
  rw [State.b, Act.accept_f, ← State.b, Act.all_cons_run, Act.all_cons_run, Act.all_nil_run]
  exact Act.setB_b_stored _ _ (by decide) (by decide) rfl

end Sys2Proof.Machine
end

section
-- One proof after another: elaborated side by side, the proofs of the whole text do not fit in the check's memory.
set_option Elab.async false
/-! What a register without a behaviour of its own holds after a write (R12), and the watchdog (R283, R284). -/

namespace Sys2Proof.Machine

variable {s : State} {src : Src} {v : Word}

/-! ### Words by the access codes of their fields -/

theorem RegName.getLsbD_applyWrite (n : RegName) (old v : Word) {i : Nat} (hi : i < 32) : (n.applyWrite old v).getLsbD i =
    (((((old.getLsbD i && !(n.maskOf fun a => a == .rw || a == .rwl || a == .wc).getLsbD i) ||
      (v.getLsbD i && (n.maskOf fun a => a == .rw || a == .rwl || a == .wc).getLsbD i)) &&
      !((n.maskOf fun a => a == .w1c).getLsbD i && v.getLsbD i)) || ((n.maskOf fun a => a == .w1s).getLsbD i && v.getLsbD i)) ^^
      ((n.maskOf fun a => a == .w1t).getLsbD i && v.getLsbD i)) := by
  simp only [RegName.applyWrite, BitVec.getLsbD_xor, BitVec.getLsbD_or, BitVec.getLsbD_and, BitVec.getLsbD_not, hi, decide_true, Bool.true_and]

/-- Every bit of the field is stored as written. -/
def Fld.storedBits (f : Fld) : Bool := (List.range f.width).all fun i => decide (f.lo + i < 32) &&
  (f.name.maskOf fun a => a == .rw || a == .rwl || a == .wc).getLsbD (f.lo + i) && !(f.name.maskOf fun a => a == .w1c).getLsbD (f.lo + i) &&
  !(f.name.maskOf fun a => a == .w1s).getLsbD (f.lo + i) && !(f.name.maskOf fun a => a == .w1t).getLsbD (f.lo + i)

/-- Every bit of the field is cleared by a write of 1. -/
def Fld.clearedBits (f : Fld) : Bool := (List.range f.width).all fun i => decide (f.lo + i < 32) &&
  !(f.name.maskOf fun a => a == .rw || a == .rwl || a == .wc).getLsbD (f.lo + i) && (f.name.maskOf fun a => a == .w1c).getLsbD (f.lo + i) &&
  !(f.name.maskOf fun a => a == .w1s).getLsbD (f.lo + i) && !(f.name.maskOf fun a => a == .w1t).getLsbD (f.lo + i)

theorem Fld.of_applyWrite_stored {f : Fld} (h : f.storedBits = true) (old v : Word) : f.of (f.name.applyWrite old v) = f.of v := by
  refine Fld.of_eq_of_bits fun i hi => ?_
  have hbit := List.all_eq_true.mp h i (List.mem_range.mpr hi)
  simp only [Bool.and_eq_true, decide_eq_true_eq, Bool.not_eq_true'] at hbit
  obtain ⟨⟨⟨⟨hlt, hstore⟩, hclear⟩, hset⟩, htoggle⟩ := hbit
  rw [RegName.getLsbD_applyWrite _ _ _ hlt, hstore, hclear, hset, htoggle]
  simp

theorem Fld.testBit_applyWrite_cleared {f : Fld} (h : f.clearedBits = true) (old v : Word) (i : Nat) :
    (f.of (f.name.applyWrite old v)).testBit i = ((f.of old).testBit i && !(f.of v).testBit i) := by
  rw [Fld.testBit_of, Fld.testBit_of, Fld.testBit_of]
  by_cases hi : i < f.width
  · have hbit := List.all_eq_true.mp h i (List.mem_range.mpr hi)
    simp only [Bool.and_eq_true, decide_eq_true_eq, Bool.not_eq_true'] at hbit
    obtain ⟨⟨⟨⟨hlt, hstore⟩, hclear⟩, hset⟩, htoggle⟩ := hbit
    rw [RegName.getLsbD_applyWrite _ _ _ hlt, hstore, hclear, hset, htoggle]
    simp [hi]
  · simp [hi]

theorem Fld.of_eq_one_of_width (f : Fld) (hf : f.width = 1) (v : Word) : (f.of v == 1) = (f.of v).testBit 0 := by
  have hlt := f.of_lt v (k := 2) (by rw [hf]; decide)
  rw [Nat.testBit_zero, Nat.mod_eq_of_lt hlt]
  rfl

/-! ### Kicks and writes (R12, R283) -/

theorem watchdogKick_reloads (hw : s.takesReg src .LIMIT_WDOG_KICK) (hkey : F.LIMIT_WDOG_KICK_KEY.of v = 0x96) :
    Answers (.watchdogKick src v) s fun t => t.resp = .ok 0 ∧ t.lim.wdogRef = (if kickSource src then s.clk else s.lim.wdogRef) ∧
      t = { s with lim := t.lim, resp := t.resp } := by
  have heffect : (Act.wdogKick src v).run s = (Act.all [.when (kickSource src) .wdogReload, .accept]).run s := by rw [Act.wdogKick, if_pos hkey]
  have hrun := Act.writeTo_accepted (d := 0) hw (a := Act.wdogKick src v) (by rw [heffect]; rfl)
  refine ⟨_, rfl, ?_⟩
  rw [hrun, heffect]
  refine ⟨rfl, ?_, ?_⟩
  · cases kickSource src <;> rfl
  · cases kickSource src <;> rfl

theorem watchdogKick_refused (hw : s.takesReg src .LIMIT_WDOG_KICK) (hkey : F.LIMIT_WDOG_KICK_KEY.of v ≠ 0x96) :
    Answers (.watchdogKick src v) s fun t =>
      t.resp = .error ∧ t.lim.wdogRef = s.lim.wdogRef ∧ Counted F.LIMIT_REFUSED_COUNT s t ∧ OnlyRegs s t := by
  obtain ⟨hresp, hcount, -, honly⟩ := Act.writeTo_refused hw (a := Act.wdogKick src v) (f := F.LIMIT_REFUSED_COUNT)
    (by rw [Act.wdogKick, if_neg hkey, Act.limitRefuse]) (by decide)
  exact ⟨_, rfl, hresp, by rw [honly], hcount, honly⟩

/-- R283: the write clears EXPIRED or names another TIMEOUT. -/
def State.wdogRestarts (s : State) (v : Word) : Bool :=
  F.LIMIT_WDOG_EXPIRED.of v == 1 || F.LIMIT_WDOG_TIMEOUT.of v != s.f F.LIMIT_WDOG_TIMEOUT

theorem wdogWrite_stores (hw : s.takesReg src .LIMIT_WDOG) (haction : F.LIMIT_WDOG_ACTION.of v ≠ 3) (hlock : s.limitLocked = false) :
    Answers (.wdogWrite src v) s fun t =>
      t.resp = .ok 0 ∧ t.f F.LIMIT_WDOG_TIMEOUT = F.LIMIT_WDOG_TIMEOUT.of v ∧ t.f F.LIMIT_WDOG_ACTION = F.LIMIT_WDOG_ACTION.of v ∧
      t.b F.LIMIT_WDOG_EXPIRED = (s.b F.LIMIT_WDOG_EXPIRED && F.LIMIT_WDOG_EXPIRED.of v == 0) ∧
      t.lim.wdogRef = (if F.LIMIT_WDOG_EXPIRED.of v = 1 ∨ F.LIMIT_WDOG_TIMEOUT.of v ≠ s.f F.LIMIT_WDOG_TIMEOUT then s.clk
        else s.lim.wdogRef) ∧
      RegsKept [⟨.LIMIT_WDOG, 0, 0, 0⟩] s t ∧ t = { s with regs := t.regs, lim := t.lim, resp := t.resp } := by
  have hcond : ¬ (F.LIMIT_WDOG_ACTION.of v = 3 ∨ (s.limitLocked && !(F.LIMIT_WDOG_TIMEOUT.of v == s.f F.LIMIT_WDOG_TIMEOUT &&
      F.LIMIT_WDOG_ACTION.of v == s.f F.LIMIT_WDOG_ACTION)) = true) := by
    rw [hlock, Bool.false_and]
    exact fun h => h.elim haction Bool.false_ne_true
  have heffect : (Act.wdogWrite v).run s = Act.accept.run ((Act.setR .LIMIT_WDOG (RegName.applyWrite .LIMIT_WDOG (s.r .LIMIT_WDOG) v)).run
      ((Act.when (s.wdogRestarts v) .wdogReload).run s)) := by
    rw [Act.wdogWrite, Act.look_run, if_neg hcond, Act.all_cons_run, Act.all_cons_run, Act.all_cons_run, Act.all_nil_run]
    show Act.accept.run ((Act.store .LIMIT_WDOG v).run ((Act.when (s.wdogRestarts v) .wdogReload).run s)) = _
    cases s.wdogRestarts v <;> rfl
  have hrun := Act.writeTo_accepted (d := 0) hw (a := Act.wdogWrite v) (by rw [heffect]; rfl)
  have hreload : Within [] [⟨.LIMIT_WDOG, 0, 0, 0⟩] [.lim, .resp] (.when (s.wdogRestarts v) .wdogReload) := .when (.look fun _ => .setLim)
  have hset : Within [] [⟨.LIMIT_WDOG, 0, 0, 0⟩] [.lim, .resp]
      (.setR .LIMIT_WDOG (RegName.applyWrite .LIMIT_WDOG (s.r .LIMIT_WDOG) v)) := .setRAt
  have haccept : Within [] [⟨.LIMIT_WDOG, 0, 0, 0⟩] [.lim, .resp] .accept := .accept
  have htouch := ((hreload s).trans (hset _)).trans (haccept _)
  have hfield (f : Fld) (hf : f.name = .LIMIT_WDOG) (hm : f.inMask = true) (u : State) :
      (Act.accept.run ((Act.setR .LIMIT_WDOG (RegName.applyWrite .LIMIT_WDOG (s.r .LIMIT_WDOG) v)).run u)).f f =
        f.of (RegName.applyWrite .LIMIT_WDOG (s.r .LIMIT_WDOG) v) := by
    rw [Act.accept_f]
    exact Act.setR_f_at (by decide) _ _ hf hm
  refine ⟨_, rfl, ?_⟩
  rw [hrun, heffect]
  refine ⟨rfl, ?_, ?_, ?_, ?_, htouch.regsKept, htouch.rest⟩
  · exact (hfield F.LIMIT_WDOG_TIMEOUT rfl (by decide) _).trans (Fld.of_applyWrite_stored (f := F.LIMIT_WDOG_TIMEOUT) (by decide) _ _)
  · exact (hfield F.LIMIT_WDOG_ACTION rfl (by decide) _).trans (Fld.of_applyWrite_stored (f := F.LIMIT_WDOG_ACTION) (by decide) _ _)
  · have hclears : (F.LIMIT_WDOG_EXPIRED.of v == 0) = !(F.LIMIT_WDOG_EXPIRED.of v).testBit 0 := by
      have hlt := F.LIMIT_WDOG_EXPIRED.of_lt v (k := 2)
      rw [Nat.testBit_zero, Nat.mod_eq_of_lt hlt]
      rcases Nat.lt_succ_iff_lt_or_eq.mp hlt with h | h
      · rw [Nat.lt_one_iff.mp h]; rfl
      · rw [h]; rfl
    have hbit := Fld.testBit_applyWrite_cleared (f := F.LIMIT_WDOG_EXPIRED) (by decide) (s.r .LIMIT_WDOG) v 0
    rw [State.b, hfield F.LIMIT_WDOG_EXPIRED rfl (by decide) _, Fld.of_eq_one_of_width _ rfl, hclears, State.b, State.f,
      Fld.of_eq_one_of_width _ rfl]
    exact hbit
  · have hkept : (Act.accept.run ((Act.setR .LIMIT_WDOG (RegName.applyWrite .LIMIT_WDOG (s.r .LIMIT_WDOG) v)).run
        ((Act.when (s.wdogRestarts v) .wdogReload).run s))).lim = ((Act.when (s.wdogRestarts v) .wdogReload).run s).lim := rfl
    rw [hkept]
    have hiff : (s.wdogRestarts v = true) ↔ (F.LIMIT_WDOG_EXPIRED.of v = 1 ∨ F.LIMIT_WDOG_TIMEOUT.of v ≠ s.f F.LIMIT_WDOG_TIMEOUT) := by
      rw [State.wdogRestarts, Bool.or_eq_true, beq_iff_eq, bne_iff_ne]
    rw [← if_congr hiff rfl rfl]
    cases s.wdogRestarts v <;> rfl

theorem wdogWrite_refused (hw : s.takesReg src .LIMIT_WDOG) (haction : F.LIMIT_WDOG_ACTION.of v = 3) : Answers (.wdogWrite src v) s fun t =>
    t.resp = .error ∧ t.r .LIMIT_WDOG = s.r .LIMIT_WDOG ∧ Counted F.LIMIT_REFUSED_COUNT s t ∧ OnlyRegs s t := by
  obtain ⟨hresp, hcount, hnames, honly⟩ := Act.writeTo_refused hw (a := Act.wdogWrite v) (f := F.LIMIT_REFUSED_COUNT)
    (by rw [Act.wdogWrite, Act.look_run, if_pos (.inl haction), Act.limitRefuse]) (by decide)
  exact ⟨_, rfl, hresp, hnames _ _ _ _ (by decide), hcount, honly⟩

/-! ### The expiry (R283, R284) -/

theorem Within.engFault_at {d : Eng} {code : Nat} :
    Within [.STEP_EVENTS, .FAULT_STATUS, .FAULT_EVENTS] [⟨.ENG_STATUS, d, 0, 0⟩] [.eng, .log, .seed] (.engFault d code) :=
  .look fun _ => .all ⟨.setFAt, .setFAt, .setEng, .setBit, .log⟩

/-- R268, R284: the engine is FAULTED with the code. -/
def FaultedWith (e : Eng) (code : Nat) (t : State) : Prop := t.engState e = engFaulted ∧ t.f F.ENG_STATUS_FAULT e = code

/-- R284: every engine faults with the code. -/
def Act.enginesFault (code : Nat) : Act := .each (List.finRange 8) fun e => .engFault e code

theorem Act.enginesFault_faults {code : Nat} (hcode : code < 32) (e : Eng) : (Act.enginesFault code).Brings (FaultedWith e code) := by
  refine Act.brings_each_at (List.mem_finRange e) (fun s => ?_) fun d hd s hs => ?_
  · obtain ⟨hstate, hfault, -⟩ := Act.engFault_faults (e := e) code s hcode
    exact ⟨hstate, hfault⟩
  · have hword : ((Act.engFault d code).run s).r .ENG_STATUS e = s.r .ENG_STATUS e :=
      (Within.engFault_at s).regs _ _ _ _ (by decide) fun h => hd (Fin.ext (RegRef.mk.inj (List.mem_singleton.mp h)).2.1.symm)
    exact ⟨(congrArg F.ENG_STATUS_STATE.of hword).trans hs.1, (congrArg F.ENG_STATUS_FAULT.of hword).trans hs.2⟩

theorem Within.enginesFault {code : Nat} :
    Within [.ENG_STATUS, .STEP_EVENTS, .FAULT_STATUS, .FAULT_EVENTS] [] [.eng, .log, .seed] (.enginesFault code) :=
  .each fun _ => .look fun _ => .all ⟨.setF, .setF, .setEng, .setBit, .log⟩

/-- R284: EXPIRED and the event of an expiry. -/
def Act.wdogExpired (action : Nat) : Act := .all [.setB F.LIMIT_WDOG_EXPIRED true, .log 13 0 (leBytes action 1)]

theorem Act.wdogExpired_expired (action : Nat) (s : State) : ((Act.wdogExpired action).run s).b F.LIMIT_WDOG_EXPIRED = true := by
  have hlog : Within [.FAULT_STATUS, .FAULT_EVENTS] [] [.log, .seed] (.log 13 0 (leBytes action 1)) := .log
  rw [Act.wdogExpired, Act.all_cons_run, Act.all_cons_run, Act.all_nil_run, (hlog _).b_eq _ _ _]
  exact Act.setB_b_stored _ _ (by decide) (by decide) rfl

section
variable (hruns : s.wdogRuns = true) (hdue : s.wdogDue = true)
include hruns hdue

theorem Act.wdogExpire_safe {reset : Act} (haction : s.f F.LIMIT_WDOG_ACTION = 0) : (Act.wdogExpire reset).run s =
    (Act.safeEnter 2).run ((Act.wdogExpired 0).run s) := by
  simp only [Act.wdogExpire, Act.look_run, hruns, hdue, haction, Bool.and_self, Bool.not_true, Bool.false_eq_true, if_false, Act.all_cons_run,
    Act.all_nil_run, Act.wdogExpired]

theorem Act.wdogExpire_fault {reset : Act} (haction : s.f F.LIMIT_WDOG_ACTION = 1) : (Act.wdogExpire reset).run s =
    (Act.enginesFault 5).run ((Act.safeEnter 2).run ((Act.wdogExpired 1).run s)) := by
  simp only [Act.wdogExpire, Act.look_run, hruns, hdue, haction, Bool.and_self, Bool.not_true, Bool.false_eq_true, if_false, Act.all_cons_run,
    Act.all_nil_run, Act.wdogExpired, Act.enginesFault]

theorem Act.wdogExpire_reset {reset : Act} (haction : s.f F.LIMIT_WDOG_ACTION = 2) : (Act.wdogExpire reset).run s =
    reset.run ((Act.wdogExpired 2).run s) := by
  simp only [Act.wdogExpire, Act.look_run, hruns, hdue, haction, Bool.and_self, Bool.not_true, Bool.false_eq_true, if_false, Act.all_cons_run,
    Act.all_nil_run, Act.wdogExpired]

theorem watchdogExpiry_safe (haction : s.f F.LIMIT_WDOG_ACTION ≤ 1) : Answers .watchdogExpiry s fun t =>
    t.b F.LIMIT_WDOG_EXPIRED = true ∧ t.b F.LIMIT_SAFE_ACTIVE = true ∧ t.bit F.LIMIT_SAFE_CAUSE 2 = true ∧
    (s.f F.LIMIT_WDOG_ACTION = 1 → ∀ e : Eng, t.engState e = engFaulted ∧ t.f F.ENG_STATUS_FAULT e = 5) := by
  have hentered (u : State) : ((Act.safeEnter 2).run ((Act.wdogExpired (s.f F.LIMIT_WDOG_ACTION)).run u)).b F.LIMIT_WDOG_EXPIRED = true := by
    rw [(Within.safeEnter _).b_eq _ _ _]
    exact Act.wdogExpired_expired _ u
  refine ⟨_, rfl, ?_⟩
  rcases Nat.le_one_iff_eq_zero_or_eq_one.mp haction with hzero | hone
  · rw [Act.wdogExpire_safe hruns hdue hzero]
    rw [hzero] at hentered
    exact ⟨hentered s, Act.safeEnter_active 2 _, Act.safeEnter_cause (by decide) _, fun h => absurd (hzero.symm.trans h) (by decide)⟩
  · rw [Act.wdogExpire_fault hruns hdue hone]
    rw [hone] at hentered
    refine ⟨?_, ?_, ?_, fun _ e => Act.enginesFault_faults (by decide) e _⟩
    · rw [(Within.enginesFault _).b_eq _ _ _]
      exact hentered s
    · rw [(Within.enginesFault _).b_eq _ _ _]
      exact Act.safeEnter_active 2 _
    · rw [(Within.enginesFault _).bit_eq _ _ _ _]
      exact Act.safeEnter_cause (by decide) _

theorem watchdogExpiry_resets (haction : s.f F.LIMIT_WDOG_ACTION = 2) : Answers .watchdogExpiry s fun t =>
    t.pwr.life = .boot ∧ t.pwr.warm = true ∧ t.f F.SYS_RST_CAUSE_CAUSE = 3 ∧ t.b F.LIMIT_WDOG_EXPIRED = false := by
  refine ⟨_, rfl, ?_⟩
  rw [Act.wdogExpire_reset hruns hdue haction]
  generalize (Act.wdogExpired 2).run s = u
  have hclear := Act.clearStores_cleared true u
  have htouch := Act.moduleReset_touches 3 u
  refine ⟨?_, ?_, Act.moduleReset_cause (by decide) u, ?_⟩
  · rw [Act.moduleReset_pwr]; rfl
  · rw [Act.moduleReset_pwr]; rfl
  · rw [htouch.b_eq _ _ _]
    exact State.b_false_of ((congrArg F.LIMIT_WDOG_EXPIRED.of (hclear.regs .LIMIT_WDOG 0 0 0 (by decide) (by decide))).trans (by decide))

end

/-- Settles O28. -/
theorem watchdog : Obligations.Watchdog := by
  unfold Obligations.Watchdog
  intro s src v
  exact ⟨fun hw => ⟨watchdogKick_reloads hw, watchdogKick_refused hw⟩, wdogWrite_stores, wdogWrite_refused,
    fun hruns hdue => ⟨watchdogExpiry_safe hruns hdue, watchdogExpiry_resets hruns hdue⟩⟩

end Sys2Proof.Machine
end

section
-- One proof after another: elaborated side by side, the proofs of the whole text do not fit in the check's memory.
set_option Elab.async false
/-! What judging contexts, holding trackers and presenting a tracker may change (R240 to R259). -/

namespace Sys2Proof.Machine

/-- The parts of the state that judging a context may change. -/
abbrev judgeParts : List Part := [.mem, .sched, .eng]

/-- The registers that judging a phase may change. -/
abbrev phaseNames : List RegName := [.SCHED_TRK_CFG, .SCHED_TRK_EXTREME_LO, .SCHED_TRK_EXTREME_HI]

/-- The registers that presenting a tracker, and its loss, may change. -/
abbrev trackNames : List RegName := [.SCHED_TRK_CFG, .SCHED_TRK_EXTREME_LO, .SCHED_TRK_EXTREME_HI, .TRK_PHASE_LO, .TRK_PHASE_HI, .TRK_VEL, .TRK_STATUS]

/-- The parts of the state that the loss of a tracker may change. -/
abbrev trackParts : List Part := [.mem, .sched, .eng, .trk]

variable {x : Nat} {k : Trk}

namespace Within

theorem setTarget {t : Int} : Within [] [] [.mem] (.setTarget x t) := .setBytes

theorem makeDecision {outcome count due : Nat} : Within [] [] [.sched, .eng] (.makeDecision x outcome count due) :=
  .look fun _ => .ite .setSched (.ite .setSched (.all ⟨.setSched, .each fun _ => .when .setEng⟩))

theorem ctxClear : Within [] [] [.mem] (.ctxClear x) := .look fun _ => .setByte

theorem ctxForget : Within [] [] [.sched] (.ctxForget x) := .setSched

theorem ctxHit {nm nj : Nat} {included : Bool} : Within [] [] judgeParts (.ctxHit x nm nj included) :=
  .look fun _ => .ite (.when ctxClear.mono) (.ite (.when makeDecision.mono) (.all ⟨makeDecision.mono, .when makeDecision.mono⟩))

theorem ctxAhead {e : Int} {reverse : Bool} : Within [] [] [.mem] (.ctxAhead x e reverse) := .look fun _ => .when setTarget

theorem ctxSpan {a b : Int} {reverse jumped : Bool} : Within [] [] judgeParts (.ctxSpan x a b reverse jumped) :=
  .look fun _ => .when (.ite (.all ⟨setTarget.mono, .setSched, ctxHit, ctxAhead.mono⟩) (.all ⟨ctxHit, ctxAhead.mono⟩))

theorem armJudge {e : Int} {reverse : Bool} : Within [] [] judgeParts (.armJudge x e reverse) :=
  .look fun _ => .andThen ctxForget.mono (.all ⟨.when ctxHit, .when ctxAhead.mono⟩)

theorem span {n : Nat} {a b : Int} {reverse jumped : Bool} : Within [] [] judgeParts (.span n a b reverse jumped) :=
  .look fun _ => .each fun _ => ctxSpan

theorem setExtreme {n : Nat} {e : Int} : Within [.SCHED_TRK_EXTREME_LO, .SCHED_TRK_EXTREME_HI] [] [] (.setExtreme n e) := .all ⟨.setF, .setF⟩

theorem schedMove {n : Nat} {p : Int} {jumped : Bool} : Within phaseNames [] judgeParts (.schedMove n p jumped) :=
  .look fun _ => .ite (.all ⟨span.mono, setExtreme.mono, .setB⟩)
    (.ite (.all ⟨.setB, .ite span.mono (.all ⟨span.mono, span.mono⟩), .each fun _ => ctxAhead.mono, setExtreme.mono, .setB⟩) (.when .setB))

theorem judgeFresh {n : Nat} {p : Int} : Within [] [] judgeParts (.judgeFresh n p) := by
  refine .look fun s => .each fun y => .look fun t => ?_
  dsimp only
  split
  · exact .all ⟨armJudge, ctxSpan, ctxAhead.mono⟩
  · exact armJudge

theorem judgePhase {n : Fin 4} : Within phaseNames [] judgeParts (.judgePhase n) :=
  .look fun _ => .when (.all ⟨schedMove, judgeFresh.mono⟩)

theorem holdTracker {n : Fin 4} {first : Bool} : Within phaseNames [] judgeParts (.holdTracker n first) :=
  .look fun _ => .andThen judgePhase .setSched

theorem trkHold {first : Bool} : Within trackNames [] trackParts (.trkHold k first) := .look fun _ => .when holdTracker.mono

theorem setPhase {p : Int} : Within [.TRK_PHASE_LO, .TRK_PHASE_HI] [] [] (.setPhase k p) := .all ⟨.setF, .setF⟩

theorem setVel {v : Int} : Within [.TRK_VEL, .TRK_STATUS] [] [] (.setVel k v) := .all ⟨.setF, .setB⟩

theorem trkPresent : Within [.TRK_PHASE_LO, .TRK_PHASE_HI, .TRK_VEL, .TRK_STATUS] [] [] (.trkPresent k) :=
  .look fun _ => .ite .skip (.ite setVel.mono (.ite (.all ⟨setPhase.mono, setVel.mono⟩) (.all ⟨setPhase.mono, setVel.mono, .when .setB⟩)))

theorem pushSeg {t before phase vel : Int} {home : Bool} : Within [] [] [.trk] (.pushSeg k t before phase vel home) := .look fun _ => .setTrk

theorem trkEnterLost : Within trackNames [] trackParts (.trkEnterLost k) :=
  .look fun _ => .all ⟨trkPresent.mono, trkHold, .setF, .setB, .when .setB, .setTrk, .look fun _ => pushSeg.mono, trkPresent.mono⟩

theorem trkEnterHold : Within trackNames [] trackParts (.trkEnterHold k) :=
  .look fun _ => .all ⟨trkHold, .setF, .setB, .setTrk, trkPresent.mono⟩

theorem trkLose : Within trackNames [] trackParts (.trkLose k) := .look fun _ => .all ⟨trkEnterHold, .when trkEnterLost⟩

theorem trkGroupLost {g : Grp} : Within trackNames [] trackParts (.trkGroupLost g) :=
  .each fun _ => .look fun _ => .when (.ite trkEnterLost trkLose)

end Within

end Sys2Proof.Machine
end

section
-- One proof after another: elaborated side by side, the proofs of the whole text do not fit in the check's memory.
set_option Elab.async false
/-! Group supplies, dies that come alive and are lost, and group resets (R64, R68 to R70, R83). -/

namespace Sys2Proof.Machine

variable {s t : State} {src : Src} {v : Word} {g : Grp} {o : Out} {n : Cv}

/-! ### Outputs of a lost or a fresh die -/

/-- The output has its supply and its gate delay so. -/
def Supplied (g : Grp) (o : Out) (powered delay : Bool) (t : State) : Prop := (t.out g o).powered = powered ∧ (t.out g o).gateDelay = delay

/-- The output has its supply and its gate delay so, and its gate is open. -/
def Floats (g : Grp) (o : Out) (powered delay : Bool) (t : State) : Prop :=
  Supplied g o powered delay t ∧ t.b F.DAC_STATUS_GATE_CLOSED g o = false

section
variable {powered delay : Bool}

theorem State.gateOpen_of_supplied (h : Supplied g o powered delay t) (hopen : powered = false ∨ delay = true) : t.gateOpen g o = true := by
  obtain ⟨hpowered, hdelay⟩ := h
  rcases hopen with rfl | rfl
  · simp [State.gateOpen, hpowered]
  · simp [State.gateOpen, hdelay]

theorem Act.outUpdate_supplied (h : Supplied g o powered delay s) : Supplied g o powered delay ((Act.outUpdate g o).run s) :=
  ⟨(Act.outUpdate_keeps OutSt.powered (fun _ _ _ => rfl) (fun _ _ _ _ => rfl) (fun _ _ _ => rfl) s).trans h.1,
    (Act.outUpdate_keeps OutSt.gateDelay (fun _ _ _ => rfl) (fun _ _ _ _ => rfl) (fun _ _ _ => rfl) s).trans h.2⟩

theorem Act.outUpdate_floats (hopen : powered = false ∨ delay = true) (h : Supplied g o powered delay s) :
    Floats g o powered delay ((Act.outUpdate g o).run s) := by
  have hsupplied := Act.outUpdate_supplied h
  refine ⟨hsupplied, ?_⟩
  rw [Act.outUpdate_gate, State.gateOpen_of_supplied hsupplied hopen, Bool.not_true]

theorem Act.setOut_supplied {x : OutSt → OutSt} (hx : ∀ y, (x y).powered = y.powered ∧ (x y).gateDelay = y.gateDelay)
    (h : Supplied g o powered delay s) : Supplied g o powered delay ((Act.setOut g o x).run s) := by
  rw [Supplied, Act.setOut_same]
  exact ⟨(hx _).1.trans h.1, (hx _).2.trans h.2⟩

theorem Act.outFault_floats {cause : Nat} (hopen : powered = false ∨ delay = true) (h : Supplied g o powered delay s) :
    Floats g o powered delay ((Act.outFault g o cause).run s) := by
  rw [Act.outFault, Act.all_cons_run, Act.all_cons_run, Act.all_cons_run, Act.all_cons_run, Act.all_nil_run]
  refine Act.outUpdate_floats hopen (Act.setOut_supplied (fun _ => ⟨rfl, rfl⟩) ?_)
  rw [Supplied, Act.setB_out, Act.setBit, Act.look_run, Act.setF_out]
  exact h

theorem Act.faultOrUpdate_floats {safe : Bool} (hopen : powered = false ∨ delay = true) (h : Supplied g o powered delay s) :
    Floats g o powered delay ((if safe then Act.outFault g o 0 else .outUpdate g o).run s) := by
  split
  · exact Act.outFault_floats hopen h
  · exact Act.outUpdate_floats hopen h

theorem Act.outPark_floats (hopen : powered = false ∨ delay = true) (h : Floats g o powered delay s) :
    Floats g o powered delay ((Act.outPark g o).run s) := by
  rw [Act.outPark, Act.look_run, Act.when_run]
  split
  · rw [Act.all_cons_run, Act.all_cons_run, Act.all_cons_run, Act.all_nil_run]
    refine Act.outUpdate_floats hopen ?_
    rw [Supplied, Act.setB_out]
    exact Act.setOut_supplied (fun _ => ⟨rfl, rfl⟩) h.1
  · exact h

end

/-- R72, R298, R299: an output of a die that comes alive takes its NV power-up value, with its gate open. -/
def Act.nvApplyOut (g : Grp) (o : Out) : Act := .look fun s => .all [
  .setOut g o fun x => { x with powered := true, gateDelay := true, gateFrom := s.clk, phase := 0, endFault := false, endNv := false },
  .setB F.DAC_STATUS_RANGE_BUSY false g o,
  .setF F.DAC_STATUS_RANGE_NOW (s.out g o).nvRange g o,
  .setB F.DAC_STATUS_NV_HOLD true g o, .setB F.DAC_STATUS_PARK_HOLD false g o,
  if s.b F.LIMIT_SAFE_ACTIVE then .outFault g o 0 else .outUpdate g o,
  .when (s.mode parked) (.outPark g o)]

theorem Act.nvApplyOut_floats : (Act.nvApplyOut g o).Brings (Floats g o true true) := fun s => by
  simp only [Act.nvApplyOut, Act.look_run, Act.all_cons_run, Act.all_nil_run]
  have hsupplied : Supplied g o true true ((Act.setB F.DAC_STATUS_PARK_HOLD false g o).run ((Act.setB F.DAC_STATUS_NV_HOLD true g o).run
      ((Act.setF F.DAC_STATUS_RANGE_NOW (s.out g o).nvRange g o).run ((Act.setB F.DAC_STATUS_RANGE_BUSY false g o).run
      ((Act.setOut g o fun x => { x with powered := true, gateDelay := true, gateFrom := s.clk, phase := 0, endFault := false, endNv := false }).run
        s))))) := by
    rw [Supplied, Act.setB_out, Act.setB_out, Act.setF_out, Act.setB_out, Act.setOut_same]
    exact ⟨rfl, rfl⟩
  have hfloats := Act.faultOrUpdate_floats (safe := s.b F.LIMIT_SAFE_ACTIVE) (.inr rfl) hsupplied
  cases s.mode parked
  · exact hfloats
  · exact Act.outPark_floats (.inr rfl) hfloats

theorem Act.outOff_floats : (Act.outOff g o).Brings (Floats g o false false) := fun s => by
  rw [Act.outOff, Act.all_cons_run, Act.all_cons_run, Act.all_cons_run, Act.all_nil_run]
  refine Act.outUpdate_floats (.inl rfl) ?_
  rw [Supplied, Act.setB_out, Act.setOut_same]
  exact ⟨rfl, rfl⟩

/-! ### One output beside another -/

/-- The output and its status are the same. -/
def OutKept (g : Grp) (o : Out) (s t : State) : Prop := t.out g o = s.out g o ∧ t.r .DAC_STATUS g o = s.r .DAC_STATUS g o

theorem OutKept.frame : Frame (OutKept g o) := ⟨fun _ => ⟨rfl, rfl⟩, fun h1 h2 => ⟨h2.1.trans h1.1, h2.2.trans h1.2⟩⟩

theorem OutKept.floats {powered delay : Bool} (h : OutKept g o s t) (hs : Floats g o powered delay s) : Floats g o powered delay t := by
  obtain ⟨⟨hpowered, hdelay⟩, hgate⟩ := hs
  exact ⟨⟨(congrArg OutSt.powered h.1).trans hpowered, (congrArg OutSt.gateDelay h.1).trans hdelay⟩,
    (congrArg (fun w => F.DAC_STATUS_GATE_CLOSED.of w == 1) h.2).trans hgate⟩

section
variable {g' : Grp} {o' : Out} (hother : ¬ (g' = g ∧ o' = o))
include hother

theorem Act.setOut_outKept {x : OutSt → OutSt} : (Act.setOut g' o' x).Keeps (OutKept g o) := fun s =>
  ⟨by rw [Act.setOut_out, if_neg hother], rfl⟩

theorem Act.setF_outKept {f : Fld} {x : Nat} : (Act.setF f x g' o').Keeps (OutKept g o) := fun s =>
  ⟨Act.setF_out, Act.setR_r_other (fun h => hother ⟨Fin.ext h.1, Fin.ext h.2.1⟩) s⟩

theorem Act.outUpdate_outKept : (Act.outUpdate g' o').Keeps (OutKept g o) := by
  have hset : ∀ x, (Act.setOut g' o' x).Keeps (OutKept g o) := fun x => Act.setOut_outKept hother
  have hfield : ∀ f x, (Act.setF f x g' o').Keeps (OutKept g o) := fun f x => Act.setF_outKept hother
  refine Act.keeps_all OutKept.frame ⟨Act.keeps_look fun _ => Act.keeps_when OutKept.frame (hset _), Act.keeps_look fun _ =>
    Act.keeps_ite (Act.keeps_all OutKept.frame ⟨hset _, hfield _ _⟩) (Act.keeps_skip OutKept.frame), Act.keeps_look fun _ =>
    Act.keeps_all OutKept.frame ⟨hfield _ _, hfield _ _, Act.keeps_when OutKept.frame (hset _)⟩⟩

theorem Act.outOff_outKept : (Act.outOff g' o').Keeps (OutKept g o) :=
  Act.keeps_all OutKept.frame ⟨Act.setOut_outKept hother, Act.setF_outKept hother, Act.outUpdate_outKept hother⟩

theorem Act.nvApplyOut_outKept : (Act.nvApplyOut g' o').Keeps (OutKept g o) := by
  have hset : ∀ x, (Act.setOut g' o' x).Keeps (OutKept g o) := fun x => Act.setOut_outKept hother
  have hfield : ∀ f x, (Act.setF f x g' o').Keeps (OutKept g o) := fun f x => Act.setF_outKept hother
  have hupdate : (Act.outUpdate g' o').Keeps (OutKept g o) := Act.outUpdate_outKept hother
  refine Act.keeps_look fun _ => Act.keeps_all OutKept.frame ⟨hset _, hfield _ _, hfield _ _, hfield _ _, hfield _ _, Act.keeps_ite ?_ hupdate,
    Act.keeps_when OutKept.frame (Act.keeps_look fun _ => Act.keeps_when OutKept.frame (Act.keeps_all OutKept.frame ⟨hset _, hfield _ _, hupdate⟩))⟩
  exact Act.keeps_all OutKept.frame ⟨Act.keeps_look fun _ => hfield _ _, hfield _ _, hset _, hupdate⟩

end

theorem Act.nvApply_floats : (Act.nvApply g).Brings (Floats g o true true) :=
  Act.brings_each_at (List.mem_finRange o) Act.nvApplyOut_floats fun _ hne s hs =>
    (Act.nvApplyOut_outKept (fun h => hne h.2) s).floats hs

theorem Act.outsOff_floats : (Act.each (List.finRange 8) (Act.outOff g)).Brings (Floats g o false false) :=
  Act.brings_each_at (List.mem_finRange o) Act.outOff_floats fun _ hne s hs => (Act.outOff_outKept (fun h => hne h.2) s).floats hs

theorem Touches.floats {l : List RegName} {rs : List RegRef} {ps : List Part} {powered delay : Bool} (h : Touches l rs ps s t)
    (hs : Floats g o powered delay s) (hl : .DAC_STATUS ∉ l := by decide) (hr : (⟨.DAC_STATUS, g, o, 0⟩ : RegRef) ∉ rs := by simp)
    (hp : Part.outs ∉ ps := by decide) : Floats g o powered delay t :=
  OutKept.floats ⟨h.out g o hp, h.regs _ _ _ _ hl hr⟩ hs

/-! ### What a group's loss changes -/

/-- The registers that the loss of a group, and its coming alive, may change. -/
abbrev groupNames : List RegName := [.CV_STATUS, .CV_SEQ_STATE, .CV8_STATUS, .CV_PASSES, .FAULT_STATUS, .FAULT_EVENTS, .FAULT_SPARE, .FAULT_CONV,
  .FAULT_CORE, .CAL_STATUS, .CAL_FAILS, .CELL_STATUS, .CELL_SHADOW, .CV_RECORDS, .SYS_RED_CELL0_LO, .SYS_RED_CELL0_HI, .SYS_RED_STAMP_LO,
  .SYS_RED_STAMP_HI, .HARB_STATUS, .HARB_COUNTS, .HARB_LOSS, .CV_INJ_REQ, .CV_SHADOW, .CVM_SEQ, .CVM_ENTRY, .CVM_ENTRY_T, .DAC_STATUS, .DAC_SPARE,
  .REF_CFG, .REF_STATUS, .CMP_STATUS, .CMP_LEVELS, .PIN_STATE, .PIN_DRIVEN, .PIN_FIELD, .PIN_LEVEL, .PIN_DP_STATUS, .SCHED_TRK_CFG,
  .SCHED_TRK_EXTREME_LO, .SCHED_TRK_EXTREME_HI, .TRK_PHASE_LO, .TRK_PHASE_HI, .TRK_VEL, .TRK_STATUS, .SYS_START]

/-- The parts of the state, beside the supplies, that the loss of a group, and its coming alive, may change. -/
abbrev groupParts : List Part := [.ovl, .conv, .spare, .cal, .mon, .log, .seed, .flash, .cells, .harb, .lim, .trk, .outs, .refs, .cmps, .pins, .mem, .sched,
  .eng]

namespace Within

theorem account {cause : Nat} : Within groupNames [] groupParts (.account g n cause) := by
  refine .look fun s => .all ⟨?_, .each fun _ => .when failRecord.mono, .setF, .setB, .setB, .setB, .setF, .setCv⟩
  cases (s.cv g n).run
  case visit => exact failRecord.mono
  case inj => exact failRecord.mono
  all_goals exact .skip

theorem cvSetLost : Within [.CVM_SEQ, .CVM_ENTRY, .CVM_ENTRY_T, .CV_SHADOW] [] [.conv] (.cvSetLost g n) :=
  .look fun _ => .all ⟨.when (.look fun _ => .all ⟨.setR, .each fun _ => .all ⟨.setR, .setR⟩⟩), .setCv, .setB⟩

theorem cvLost : Within groupNames [] groupParts (.cvLost g n) :=
  .all ⟨account, cvSetLost.mono, factoryNow.mono, .setCv, .look fun _ => .when cvRun.mono⟩

theorem calLost : Within (.DAC_SPARE :: .DAC_STATUS :: workNames) [] [.ovl, .spare, .cal, .mon, .log, .seed] (.calLost g) := by
  have hdecide : ∀ m before, Within workNames [] [.ovl, .spare, .cal, .mon, .log, .seed] (.promoteDecide g m before) := fun m before =>
    .look fun _ => .all ⟨.setB, .setF, .setF, .setB, .setSpare⟩
  have hfree : ∀ cause stage, Within workNames [] [.ovl, .spare, .cal, .mon, .log, .seed] (.calFree g cause stage) := fun cause stage =>
    .all ⟨calEnd.mono, .setF, .setB, modStop.mono, .setSpare⟩
  refine .all ⟨.look fun s => .when (.all ⟨.setB, .setF, .setF, ?core⟩),
    .look fun s => .when (.all ⟨.when carry_apart.mono, .setF, (hfree _ _).mono, coreStandBack.mono, ?spare⟩)⟩
  case core =>
    cases s.spare[g].core with
    | some m => exact .all ⟨.setSpare, .all ⟨.setF, .setF, .setB, .look fun _ => .setMon⟩⟩
    | none => exact .skip
  case spare =>
    cases s.spare[g].promote with
    | some m => exact (hdecide _ _).mono
    | none => exact promoteLowest_apart.mono

theorem cellsLost : Within [.CELL_SHADOW, .CELL_STATUS] [] [.cells] (.cellsLost g) := .all ⟨.setCells, .setB, cellsActive.mono⟩

theorem refSettled_byName {on : Bool} : Within [.REF_CFG, .REF_STATUS] [] [.refs] (.refSettled g on) := refSettled.byName (by simp)

theorem refsLost : Within [.REF_CFG, .REF_STATUS] [] [.refs] (.refsLost g) :=
  .all ⟨.look fun _ => .when (.all ⟨refSettled_byName, .setB, .count, .setRef⟩), .setB⟩

theorem rolesLost : Within [.DAC_SPARE, .FAULT_STATUS] [] [] (.rolesLost g) :=
  .look fun _ => .when (.all ⟨.ite .setF (.all ⟨.setF, .setF⟩), .look fun _ => .setB⟩)

theorem outOff : Within [.DAC_STATUS] [] [.outs] (.outOff g o) := .all ⟨.setOut, .setB, outUpdate_byName⟩

theorem outsLost : Within [.DAC_STATUS, .DAC_SPARE, .FAULT_STATUS] [] [.outs, .mon] (.outsLost g) :=
  .all ⟨.each fun _ => outOff.mono, rolesLost.mono, .setMon⟩

theorem cmpsFollow : Within levelNames [] [.cmps, .seed] (.cmpsFollow g) := .each fun _ => cmpFollow

end Within

/-- R205: every converter of a group is lost. -/
def Act.convsLost (g : Grp) : Act := .each (List.finRange 8) fun n => .cvLost g n

/-- The overload events of a group end. -/
def Act.ovlsClear (g : Grp) : Act := .each (List.finRange 10) fun m => .setOvl g m fun _ => []

/-- R19, R64, R83: what follows the loss of the die. -/
def Act.lostWork (g : Grp) : Act := .all [
  .convsLost g,
  .calLost g, .cellsLost g, .refsLost g, .outsLost g, .cmpsFollow g, .trkGroupLost g,
  .ovlsClear g, .pinRowUpdate g]

theorem Within.convsLost : Within groupNames [] groupParts (.convsLost g) := .each fun _ => cvLost

theorem Within.ovlsClear : Within [] [] [.ovl] (.ovlsClear g) := .each fun _ => .setOvl

theorem Within.lostWork : Within groupNames [] groupParts (.lostWork g) :=
  .all ⟨convsLost, calLost.mono, cellsLost.mono, refsLost.mono, outsLost.mono, cmpsFollow.mono, trkGroupLost.mono, ovlsClear.mono, pinRowUpdate.mono⟩

theorem Act.groupLost_run (s : State) : (Act.groupLost g).run s = (Act.when (s.alive g) (.all [.setAlive g false, .lostWork g])).run s := by
  simp only [Act.groupLost, Act.look_run, Act.lostWork, Act.convsLost, Act.ovlsClear, Act.when_run, Act.all_cons_run, Act.all_nil_run]

theorem Within.groupLost : Within groupNames [] (.pwr :: groupParts) (.groupLost g) := fun s => by
  have hin : Within groupNames [] (.pwr :: groupParts) (.when (s.alive g) (.all [.setAlive g false, .lostWork g])) :=
    .when (.all ⟨.look fun _ => .setPwr, Within.lostWork.mono⟩)
  rw [Act.groupLost_run]
  exact hin s

theorem Act.groupLost_alive_run (halive : s.alive g = true) : (Act.groupLost g).run s = (Act.lostWork g).run ((Act.setAlive g false).run s) := by
  rw [Act.groupLost_run, halive, Act.when_true_run, Act.all_cons_run, Act.all_cons_run, Act.all_nil_run]

theorem Act.groupLost_pwr (s : State) : ((Act.groupLost g).run s).pwr = { s.pwr with alive := s.pwr.alive.set g false } := by
  cases halive : s.alive g
  · have hsame : s.pwr.alive.set g false = s.pwr.alive := by
      rw [← show s.pwr.alive[g.val] = false from halive, Vector.set_getElem_self]
    rw [Act.groupLost_run, halive, hsame]
    rfl
  · rw [Act.groupLost_alive_run halive, (Within.lostWork _).parts .pwr (by decide)]
    rfl

/-! ### What a lost group is left with -/

/-- The converter governs nothing. -/
def Stopped (g : Grp) (n : Cv) (t : State) : Prop := (t.cv g n).run = .off ∨ (t.cv g n).run = .unserved

theorem Act.cvLost_stops : (Act.cvLost g n).Brings (Stopped g n) := fun s => by
  rw [Act.cvLost, Act.all_cons_run, Act.all_cons_run, Act.all_cons_run, Act.all_cons_run, Act.all_cons_run, Act.all_nil_run, Act.look_run]
  generalize (Act.setCv g n _).run _ = u
  cases hrun : (u.cv g n).run
  case unserved => exact .inr hrun
  all_goals
    refine .inl ?_
    exact congrArg ConvSt.run (Act.cvRun_cv_same g n .off .idle u)

/-- The converter's run is the same. -/
def RunKept (g : Grp) (n : Cv) (s t : State) : Prop := (t.cv g n).run = (s.cv g n).run

theorem RunKept.frame : Frame (RunKept g n) := ⟨fun _ => rfl, fun h1 h2 => h2.trans h1⟩

theorem Within.runKept {l : List RegName} {rs : List RegRef} {ps : List Part} {a : Act} (h : Within l rs ps a) (hp : Part.conv ∉ ps := by decide) :
    a.Keeps (RunKept g n) := fun s => congrArg ConvSt.run ((h s).cv g n hp)

section
variable {m : Cv} (hne : m ≠ n)
include hne

theorem Act.setCv_runKept {x : ConvSt → ConvSt} : (Act.setCv g m x).Keeps (RunKept g n) := fun s =>
  congrArg ConvSt.run (Act.setCv_cv_ne x s fun h => hne h.2)

theorem Act.cvRun_runKept {run : ConvRun} {next : ConvNext} : (Act.cvRun g m run next).Keeps (RunKept g n) := fun s =>
  congrArg ConvSt.run (Act.cvRun_cv_ne run next s fun h => hne h.2)

theorem Act.account_runKept {cause : Nat} : (Act.account g m cause).Keeps (RunKept g n) := fun s => by
  have hfield : ∀ f x, (Act.setF f x g m).Keeps (RunKept g n) := fun _ _ _ => by rw [RunKept, Act.setF_cv]
  have hlater : (Act.all [.setF F.CV_INJ_REQ_PENDING 0 g m, .setB F.CV_SEQ_STATE_START_PEND false g m, .setB F.CV_SEQ_STATE_ADV_PEND false g m,
      .setB F.CV_SEQ_STATE_INTERRUPTED false g m, .setF F.CV_SEQ_STATE_REMAIN 0 g m,
      .setCv g m fun x => { x with startAt := none, stopping := false }]).Keeps (RunKept g n) :=
    Act.keeps_all RunKept.frame ⟨hfield _ _, hfield _ _, hfield _ _, hfield _ _, hfield _ _, Act.setCv_runKept hne⟩
  have hrecords : RunKept g n s ((Act.accountRecords g m cause s).run s) := (Act.accountRecords_convsKept cause s s).run g n
  rw [Act.account_run]
  exact RunKept.frame.trans hrecords (hlater _)

theorem Act.cvLost_runKept : (Act.cvLost g m).Keeps (RunKept g n) := by
  have hset : ∀ x, (Act.setCv g m x).Keeps (RunKept g n) := fun x => Act.setCv_runKept hne
  have hmirror : Within [.CVM_SEQ, .CVM_ENTRY, .CVM_ENTRY_T] [] [] (.cvMirror g m) := .look fun _ => .all ⟨.setR, .each fun _ => .all ⟨.setR, .setR⟩⟩
  have hpending : Within [.CV_SHADOW] [] [] (.setB F.CV_SHADOW_PENDING false g m) := .setB
  have hcal : ∀ x, Within [] [] [.cal] (.setCal g x) := fun _ => .setCal
  exact Act.keeps_all RunKept.frame ⟨Act.account_runKept hne,
    Act.keeps_look fun _ => Act.keeps_all RunKept.frame ⟨Act.keeps_when RunKept.frame hmirror.runKept, hset _, hpending.runKept⟩,
    Act.keeps_look fun _ => Act.keeps_when RunKept.frame (Act.keeps_all RunKept.frame ⟨(hcal _).runKept, hset _⟩),
    hset _, Act.keeps_look fun _ => Act.keeps_when RunKept.frame (Act.cvRun_runKept hne)⟩

end

theorem Act.convsLost_stop : (Act.convsLost g).Brings (Stopped g n) :=
  Act.brings_each_at (List.mem_finRange n) Act.cvLost_stops fun _ hne s hs => by
    rw [Stopped, show ((Act.run _ s).cv g n).run = _ from Act.cvLost_runKept hne s]
    exact hs

theorem Act.pinRowUpdate_row (s : State) : ((Act.pinRowUpdate g).run s).f F.PIN_STATE_STATE g = s.pinRow g := by
  have hrefresh : Within [.PIN_DRIVEN, .PIN_FIELD, .PIN_LEVEL] [] [.seed] (.pinsRefresh g) := Within.pinsRefresh
  have hrow : s.pinRow g < 4 := by
    rw [State.pinRow]
    split
    · decide
    · split
      · decide
      · split <;> decide
  rw [Act.pinRowUpdate, Act.look_run]
  by_cases h : s.pinRow g = s.f F.PIN_STATE_STATE g
  · rw [if_pos h, (hrefresh _).f_eq _ _ _, h]
  · rw [if_neg h, Act.all_cons_run]
    exact Act.pinsSwitch_state hrow g _

/-- R64, R83: what a lost group is left with. -/
structure Lost (g : Grp) (t : State) : Prop where
  outs : ∀ o, Floats g o false false t
  pins : t.f F.PIN_STATE_STATE g = 0
  reference : t.b F.REF_STATUS_INT_SETTLED g = false
  convs : ∀ n, Stopped g n t

/-- What follows the converters' loss. -/
def Act.lostLater (g : Grp) : Act := .all [.calLost g, .cellsLost g, .refsLost g, .outsLost g, .cmpsFollow g, .trkGroupLost g, .ovlsClear g]

theorem Act.lostWork_run (s : State) : (Act.lostWork g).run s = (Act.pinRowUpdate g).run ((Act.lostLater g).run ((Act.convsLost g).run s)) := by
  simp only [Act.lostWork, Act.lostLater, Act.all_cons_run, Act.all_nil_run]

theorem Within.lostLater : Within groupNames [] [.ovl, .spare, .cal, .mon, .log, .seed, .cells, .refs, .outs, .cmps, .mem, .sched, .eng, .trk]
    (.lostLater g) :=
  .all ⟨calLost.mono, cellsLost.mono, refsLost.mono, outsLost.mono, cmpsFollow.mono, trkGroupLost.mono, ovlsClear.mono⟩

theorem Act.lostLater_run (s : State) : ∃ u, (Act.lostLater g).run s =
    (Act.all [.cmpsFollow g, .trkGroupLost g, .ovlsClear g]).run ((Act.outsLost g).run ((Act.refsLost g).run u)) :=
  ⟨(Act.cellsLost g).run ((Act.calLost g).run s), by simp only [Act.lostLater, Act.all_cons_run, Act.all_nil_run]⟩

theorem Act.outsLost_run (s : State) : (Act.outsLost g).run s = (Act.all [.rolesLost g,
    .setMon g fun m => { m with rbWait := [], coreReturn := false }]).run ((Act.each (List.finRange 8) (Act.outOff g)).run s) := by
  simp only [Act.outsLost_eq, Act.all_cons_run, Act.all_nil_run]

theorem Within.lostAfterOuts : Within (trackNames ++ levelNames) [] [.ovl, .cmps, .mem, .sched, .eng, .trk, .seed]
    (.all [.cmpsFollow g, .trkGroupLost g, .ovlsClear g]) := .all ⟨cmpsFollow.mono, trkGroupLost.mono, ovlsClear.mono⟩

theorem Act.lostLater_floats : (Act.lostLater g).Brings (Floats g o false false) := fun s => by
  have hroles : Within [.DAC_SPARE, .FAULT_STATUS] [] [.mon] (.all [.rolesLost g, .setMon g fun m => { m with rbWait := [], coreReturn := false }]) :=
    .all ⟨Within.rolesLost.mono, .setMon⟩
  obtain ⟨u, hrun⟩ := Act.lostLater_run (g := g) s
  rw [hrun, Act.outsLost_run]
  exact (Within.lostAfterOuts _).floats ((hroles _).floats (Act.outsOff_floats _))

theorem Act.lostLater_reference : (Act.lostLater g).Brings fun t => t.b F.REF_STATUS_INT_SETTLED g = false := fun s => by
  beta_reduce
  obtain ⟨u, hrun⟩ := Act.lostLater_run (g := g) s
  rw [hrun, (Within.lostAfterOuts _).b_eq _ _ _, (Within.outsLost _).b_eq _ _ _, Act.refsLost, Act.all_cons_run, Act.all_cons_run, Act.all_nil_run]
  exact Act.setB_b_stored _ _ (RegRef.valid_of g.isLt) (by decide) rfl

theorem Act.lostWork_lost (halive : s.alive g = false) : Lost g ((Act.lostWork g).run s) := by
  rw [Act.lostWork_run]
  exact {
    outs := fun o => (Within.pinRowUpdate _).floats (Act.lostLater_floats _)
    pins := by
      have hkept : ((Act.lostLater g).run ((Act.convsLost g).run s)).alive g = false := by
        rw [State.alive, (Within.lostLater _).parts .pwr (by decide), (Within.convsLost _).parts .pwr (by decide)]
        exact halive
      rw [Act.pinRowUpdate_row, State.pinRow, hkept]
      rfl
    reference := ((Within.pinRowUpdate _).b_eq _ _ _).trans (Act.lostLater_reference _)
    convs := fun n => by
      rw [Stopped, (Within.pinRowUpdate _).cv g n, (Within.lostLater _).cv g n]
      exact Act.convsLost_stop s }

/-! ### A die that comes alive -/

/-- The registers that the work of a group may change. -/
abbrev serveNames : List RegName := workNames ++ levelNames

/-- The parts of the state that the work of a group may change. -/
abbrev serveParts : List Part := .cmps :: workParts

namespace Within

theorem cellsStart : Within [.CELL_STATUS] [] [.cells] (.cellsStart g) :=
  .all ⟨.each fun _ => .look fun _ => .setCells, .look fun _ => cellsActive⟩

theorem cvStart : Within workNames [] workParts (.cvStart g n) := .look fun _ => .ite cvStop (.all ⟨.setCv, proceed⟩)

theorem cvEnable : Within workNames [] workParts (.cvEnable g n) := .look fun _ => .when (.all ⟨seqReset.mono, .setCv, cvStart⟩)

theorem reducedStart : Within workNames [] workParts (.reducedStart g n) :=
  .look fun _ => .when (.all ⟨.setCv, .ite cvStop visit.mono⟩)

theorem cvReturn : Within workNames [] workParts (.cvReturn g n) :=
  .look fun _ => .all ⟨.setCv, .ite reducedStart (.ite cvEnable spareMove)⟩

theorem cvServe : Within workNames [] workParts (.cvServe g n) :=
  .look fun _ => .when (.ite reducedStart (.all ⟨cvRun.mono, .when cvEnable⟩))

theorem promote : Within workNames [] workParts (.promote g) := by
  refine .look fun s => ?_
  cases s.spare[g].promote with
  | none => exact .skip
  | some m =>
    refine .when (.all ⟨.setSpare, .setCv, carry, ?_, .look fun _ => .when promotionReport⟩)
    cases (s.cv g m).run
    case visit => exact .all ⟨.setB, follow⟩
    case inj => exact follow
    case hold => exact follow
    case unserved => exact cvServe
    case off => exact .when cvEnable
    all_goals exact cvStatus.mono

theorem groupServes : Within serveNames [] serveParts (.groupServes g) :=
  .look fun _ => .when (.all ⟨.when cellsStart.mono, promote.mono, .each fun _ => cvReturn.mono, promoteLowest.mono, cmpsFollow.mono⟩)

theorem restoreFailed : Within [.FAULT_CONV, .CV_STATUS, .CV_SEQ_STATE, .CV8_STATUS] [] [.ovl, .conv] (.restoreFailed g) := by
  refine .look fun s => .all ⟨.setF, .each fun _ => .all ⟨.setB, cvRun.mono⟩, ?_⟩
  split
  · exact .all ⟨.setF, .setF, .setB, cvRun.mono⟩
  · exact .skip

theorem restoreCores : Within [.FAULT_CORE, .DAC_STATUS, .DAC_SPARE] [] [] (.restoreCores g) := by
  refine .look fun s => .all ⟨.setF, .each fun _ => .setB, ?_⟩
  split
  · exact .all ⟨.setF, .setF, .setB⟩
  · exact .skip

theorem restoreMap : Within groupNames [] (.pwr :: groupParts) (.restoreMap g) :=
  .look fun _ => .when (.all ⟨restoreFailed.mono, restoreCores.mono, .setPwr⟩)

theorem nvBad : Within [.SYS_START, .FAULT_STATUS, .FAULT_EVENTS] [] [.log, .seed] .nvBad := .look fun _ => .when (.all ⟨.setB, .log⟩)

theorem nvApply : Within [.DAC_STATUS] [] [.outs] (.nvApply g) :=
  .each fun _ => .look fun _ => .all ⟨.setOut, .setB, .setF, .setB, .setB, .ite outFault_byName outUpdate_byName,
    .when (.look fun _ => .when (.all ⟨.setOut, .setB, outUpdate_byName⟩))⟩

theorem pinsAlive : Within [.PIN_DP_STATUS, .PIN_STATE, .PIN_DRIVEN, .PIN_FIELD, .PIN_LEVEL] [] [.pins, .seed] (.pinsAlive g) := by
  have hlevel : ∀ p level, Within [] [] [.pins] (.pinOutside g p level) := fun _ _ => pinOutside
  exact .look fun _ => .all ⟨.each fun _ => .when (.andThen (hlevel _ _).mono (.look fun _ => .when (.all ⟨.setBit, .setBit, pinRefresh.mono⟩))),
    pinRowUpdate.mono⟩

end Within

theorem Act.restoreMap_pwr (s : State) : ((Act.restoreMap g).run s).pwr = { s.pwr with mapped := s.pwr.mapped.set g true } := by
  rw [Act.restoreMap, Act.look_run]
  cases hmapped : s.pwr.mapped[g]
  · have hcores : Within groupNames [] groupParts (.all [.restoreFailed g, .restoreCores g]) := .all ⟨Within.restoreFailed.mono, Within.restoreCores.mono⟩
    have hkept := (hcores s).parts .pwr (by decide)
    rw [Act.all_cons_run, Act.all_cons_run, Act.all_nil_run] at hkept
    rw [Bool.not_false, Act.when_true_run, Act.all_cons_run, Act.all_cons_run, Act.all_cons_run, Act.all_nil_run]
    exact congrArg (fun p : PwrSt => { p with mapped := p.mapped.set g true }) hkept
  · have hsame : s.pwr.mapped.set g true = s.pwr.mapped := by
      rw [← show s.pwr.mapped[g.val] = true from hmapped, Vector.set_getElem_self]
    rw [hsame]
    rfl

/-- R70 steps 4 and 5: what a die that comes alive does once its outputs have their values. -/
def Act.aliveLater (g : Grp) : Act := .all [.slotBegins g, .groupServes g]

theorem Within.aliveLater : Within serveNames [] serveParts (.aliveLater g) := .all ⟨(slotBegins (l := [])).mono, groupServes⟩

/-- R70 steps 4 and 5: the die is alive, the failure map is restored, and NV values are applied. -/
def Act.aliveEarly (g : Grp) : Act := .all [.setAlive g true, .restoreMap g, .nvBad, .nvApply g, .pinsAlive g]

theorem Within.aliveEarly : Within groupNames [] (.pwr :: groupParts) (.aliveEarly g) :=
  .all ⟨.look fun _ => .setPwr, restoreMap, nvBad.mono, nvApply.mono, pinsAlive.mono⟩

theorem Act.aliveEarly_run (s : State) : (Act.aliveEarly g).run s = (Act.pinsAlive g).run ((Act.nvApply g).run (Act.nvBad.run ((Act.restoreMap g).run
    ((Act.setAlive g true).run s)))) := by
  simp only [Act.aliveEarly, Act.all_cons_run, Act.all_nil_run]

theorem Act.aliveEarly_alive (s : State) : ((Act.aliveEarly g).run s).alive g = true ∧ ((Act.aliveEarly g).run s).pwr.mapped[g] = true := by
  have hpwr : ((Act.aliveEarly g).run s).pwr =
      { ((Act.setAlive g true).run s).pwr with mapped := ((Act.setAlive g true).run s).pwr.mapped.set g true } := by
    rw [Act.aliveEarly_run, (Within.pinsAlive _).parts .pwr (by decide), (Within.nvApply _).parts .pwr (by decide),
      (Within.nvBad _).parts .pwr (by decide), Act.restoreMap_pwr]
  rw [State.alive, hpwr]
  simp [Act.setAlive]

theorem Act.aliveEarly_floats : (Act.aliveEarly g).Brings (Floats g o true true) := fun s => by
  rw [Act.aliveEarly_run]
  exact (Within.pinsAlive _).floats (Act.nvApply_floats _)

theorem Act.groupAlive_run (hup : s.up = true) (hsupplied : s.pwr.supplied[g] = true) (hdead : s.alive g = false) : (Act.groupAlive g).run s =
    (Act.aliveLater g).run ((Act.setF F.MON_STATUS_SLOT 0 g).run ((Act.aliveEarly g).run s)) := by
  simp only [Act.groupAlive, Act.look_run, hup, hsupplied, hdead, Bool.not_false, Bool.and_self, Act.when_true_run, Act.aliveLater, Act.all_cons_run,
    Act.all_nil_run, Act.aliveEarly_run]

theorem groupAlive_answers (hup : s.up = true) (hsupplied : s.pwr.supplied[g] = true) (hdead : s.alive g = false) :
    AnswersThenModes (.groupAlive g) s fun u => u.alive g = true ∧ u.r .SYS_PWR = s.r .SYS_PWR ∧ u.pwr.mapped[g] = true ∧ u.f F.MON_STATUS_SLOT g = 0 ∧
      ∀ o : Out, (u.out g o).powered = true ∧ (u.out g o).gateDelay = true ∧ u.b F.DAC_STATUS_GATE_CLOSED g o = false := by
  have hslot : Within (.MON_STATUS :: serveNames) [] serveParts (.setF F.MON_STATUS_SLOT 0 g) := .setF
  have hearly := Within.aliveEarly (g := g) s
  obtain ⟨halive, hmapped⟩ := Act.aliveEarly_alive (g := g) s
  have hfloats := fun o : Out => Act.aliveEarly_floats (g := g) (o := o) s
  refine ⟨(Act.groupAlive g).run s, rfl, ?_⟩
  rw [Act.groupAlive_run hup hsupplied hdead]
  generalize (Act.aliveEarly g).run s = u at hearly halive hmapped hfloats ⊢
  have hlater := (hslot u).trans (Within.aliveLater (g := g) _).mono
  refine ⟨?_, (hlater.r_eq _ _ _).trans (hearly.r_eq _ _ _), ?_, ?_, fun o => ?_⟩
  · rw [State.alive, hlater.parts .pwr (by decide)]
    exact halive
  · rw [hlater.parts .pwr (by decide)]
    exact hmapped
  · rw [(Within.aliveLater _).f_eq _ _ _]
    exact Act.setF_f_same _ _ _ _ _ _ (RegRef.valid_of g.isLt) (by decide)
  · obtain ⟨⟨hpowered, hdelay⟩, hgate⟩ := hlater.floats (hfloats o)
    exact ⟨hpowered, hdelay, hgate⟩

theorem groupLost_answers (halive : s.alive g = true) : AnswersThenModes (.groupLost g) s fun u =>
    u.alive g = false ∧ (∀ o : Out, (u.out g o).powered = false ∧ u.b F.DAC_STATUS_GATE_CLOSED g o = false) ∧
    u.f F.PIN_STATE_STATE g = 0 ∧ u.b F.REF_STATUS_INT_SETTLED g = false ∧ ∀ n : Cv, (u.cv g n).run = .off ∨ (u.cv g n).run = .unserved := by
  have hdead : ((Act.setAlive g false).run s).alive g = false := by simp [Act.setAlive_false_alive]
  have hlost := Act.lostWork_lost hdead
  have hpwr := Act.groupLost_pwr (g := g) s
  refine ⟨(Act.groupLost g).run s, rfl, ?_⟩
  rw [← Act.groupLost_alive_run halive] at hlost
  generalize (Act.groupLost g).run s = u at hlost hpwr ⊢
  refine ⟨?_, fun o => ?_, hlost.pins, hlost.reference, hlost.convs⟩
  · rw [State.alive, hpwr]
    simp
  · obtain ⟨⟨hpowered, -⟩, hgate⟩ := hlost.outs o
    exact ⟨hpowered, hgate⟩

/-! ### Supplies -/

theorem groupSupplyStart_answers (hup : s.up = true) (hstarted : s.started (2457600 + 655360 * g) = true) (hfail : s.bit F.SYS_PWR_GRP_FAIL g = false)
    (hoff : s.pwr.supplied[g] = false) : Answers (.groupSupplyStart g) s fun t =>
      t.pwr.supplied[g] = true ∧ t.bit F.SYS_PWR_GRP_PWR_OK g = true ∧ RegsKept [⟨.SYS_PWR, 0, 0, 0⟩] s t ∧
      t = { s with regs := t.regs, pwr := t.pwr } := by
  have hrun : (Act.groupSupply g).run s = (Act.all [.setPwr fun p => { p with supplied := p.supplied.set g true },
      .setBit F.SYS_PWR_GRP_PWR_OK g]).run s := by
    rw [Act.groupSupply, Act.look_run, hup, hstarted, hfail, hoff]
    rfl
  have hin : Within [] [⟨.SYS_PWR, 0, 0, 0⟩] [.pwr] (.all [.setPwr fun p => { p with supplied := p.supplied.set g true },
      .setBit F.SYS_PWR_GRP_PWR_OK g]) := .all ⟨.setPwr, .setBitAt⟩
  refine ⟨_, rfl, ?_⟩
  rw [hrun]
  refine ⟨?_, ?_, (hin s).regsKept, (hin s).rest⟩
  · simp [Act.setBit]
  · rw [Act.all_cons_run, Act.all_cons_run, Act.all_nil_run]
    exact Act.setBit_bit_at (n := .SYS_PWR) valid_sysPwr _ (by fin_cases g <;> decide)

/-- R68: what a restart writes. -/
theorem Within.groupRestart {cause : Nat} : Within [.SYS_PWR, .SYS_RST_CAUSE, .FAULT_STATUS, .FAULT_EVENTS] [] [.pwr, .log, .seed] (.groupRestart g cause) :=
  .all ⟨.setPwr, .setBit, .setBit, .log⟩

theorem Act.groupRestart_restarts (cause : Nat) (s : State) : let t := (Act.groupRestart g cause).run s
    t.pwr = { s.pwr with supplied := s.pwr.supplied.set g true, restartDue := s.pwr.restartDue.set g false } ∧
    t.bit F.SYS_PWR_GRP_PWR_OK g = true ∧ t.bit F.SYS_RST_CAUSE_GRP_RESTART g = true := by
  have hlog : Within [.FAULT_STATUS, .FAULT_EVENTS] [] [.log, .seed] (.log 5 g (leBytes cause 1)) := .log
  have hcause : Within [.SYS_RST_CAUSE] [] [] (.setBit F.SYS_RST_CAUSE_GRP_RESTART g) := .setBit
  have hok : Within [.SYS_PWR] [] [] (.setBit F.SYS_PWR_GRP_PWR_OK g) := .setBit
  intro t
  have ht : t = (Act.log 5 g (leBytes cause 1)).run ((Act.setBit F.SYS_RST_CAUSE_GRP_RESTART g).run ((Act.setBit F.SYS_PWR_GRP_PWR_OK g).run
      ((Act.setPwr fun p => { p with supplied := p.supplied.set g true, restartDue := p.restartDue.set g false }).run s))) := by
    simp only [t, Act.groupRestart, Act.all_cons_run, Act.all_nil_run]
  rw [ht]
  refine ⟨?_, ?_, ?_⟩
  · rw [(hlog _).parts .pwr (by decide), (hcause _).parts .pwr (by decide), (hok _).parts .pwr (by decide)]
    rfl
  · rw [(hlog _).bit_eq _ _ _ _, (hcause _).bit_eq _ _ _ _]
    exact Act.setBit_bit_at (n := .SYS_PWR) valid_sysPwr _ (by fin_cases g <;> decide)
  · rw [(hlog _).bit_eq _ _ _ _]
    exact Act.setBit_bit_at (n := .SYS_RST_CAUSE) (RegRef.valid_of (by decide)) _ (by fin_cases g <;> decide)

theorem groupRestart_answers (hup : s.up = true) (hdue : s.restartNow g = true) : Answers (.groupRestart g) s fun t =>
    t.pwr.supplied[g] = true ∧ t.pwr.restartDue[g] = false ∧ t.bit F.SYS_PWR_GRP_PWR_OK g = true ∧
    t.bit F.SYS_RST_CAUSE_GRP_RESTART g = true ∧ NamesKept [.SYS_PWR, .SYS_RST_CAUSE, .FAULT_STATUS, .FAULT_EVENTS] s t ∧
    t = { s with regs := t.regs, pwr := t.pwr, log := t.log, seed := t.seed } := by
  have hrun : (Act.look fun t => .when (t.up && t.restartNow g) (.groupRestart g 0)).run s = (Act.groupRestart g 0).run s := by
    rw [Act.look_run, hup, hdue, Bool.and_self, Act.when_true_run]
  have htouch := Within.groupRestart (g := g) (cause := 0) s
  obtain ⟨hpwr, hok, hcause⟩ := Act.groupRestart_restarts (g := g) 0 s
  refine ⟨_, rfl, ?_⟩
  rw [hrun]
  refine ⟨?_, ?_, hok, hcause, htouch.namesKept, htouch.rest⟩
  · rw [hpwr]; simp
  · rw [hpwr]; simp

/-- R68: the failures of the group's rails within 10 s. -/
def State.recentFailures (s : State) (g : Grp) : List Nat := s.pwr.failures[g].filter fun t => decide (s.clk ≤ t + 1638400000)

/-- R68: the supplies after a failed rail, with the failures `l` within 10 s. -/
def PwrSt.railFailed (p : PwrSt) (g : Grp) (l : List Nat) (latch : Bool) : PwrSt :=
  { p with supplied := p.supplied.set g false, failures := p.failures.set g l, restartDue := p.restartDue.set g (!latch) }

/-- R68: what a failed rail does once the group is lost. -/
def Act.railLater (g : Grp) (rails : Nat) (l : List Nat) (latch : Bool) : Act := .all [
  .when latch (.setBit F.SYS_PWR_GRP_FAIL g), .setPwr fun p => p.railFailed g l latch,
  .look fun t => .log 4 g (leBytes rails 1 ++ leBytes l.length 1 ++ leBytes (t.f F.SYS_PWR_GRP_FAIL) 1)]

theorem Act.railFail_run {rails : Nat} (hlife : s.pwr.life = .boot ∨ s.up = true) (hsupplied : s.pwr.supplied[g] = true) :
    (Act.railFail g rails).run s = (Act.railLater g rails (s.clk :: s.recentFailures g) (decide (2 ≤ (s.recentFailures g).length))).run
      ((Act.groupLost g).run ((Act.clrBit F.SYS_PWR_GRP_PWR_OK g).run s)) := by
  have hcond : ((s.pwr.life == .boot || s.up) && s.pwr.supplied[g]) = true := by
    rw [hsupplied, Bool.and_true, Bool.or_eq_true, beq_iff_eq]
    exact hlife
  have hlatch : decide (3 ≤ (s.clk :: s.recentFailures g).length) = decide (2 ≤ (s.recentFailures g).length) := by
    rw [List.length_cons, decide_eq_decide]
    omega
  rw [← hlatch]
  simp only [Act.railFail, Act.look_run, hcond, Act.when_true_run, Act.all_cons_run, Act.all_nil_run, Act.railLater, State.recentFailures]
  rfl

theorem Act.railLater_fails {rails : Nat} {l : List Nat} {latch : Bool} (s : State) : let t := (Act.railLater g rails l latch).run s
    t.pwr = s.pwr.railFailed g l latch ∧
    t.bit F.SYS_PWR_GRP_PWR_OK g = s.bit F.SYS_PWR_GRP_PWR_OK g ∧ (latch = true → t.bit F.SYS_PWR_GRP_FAIL g = true) := by
  have hlatch : Within [.SYS_PWR] [] [] (.when latch (.setBit F.SYS_PWR_GRP_FAIL g)) := .when .setBit
  have hleaves : Leaves F.SYS_PWR_GRP_PWR_OK (.when latch (.setBit F.SYS_PWR_GRP_FAIL g)) := .when .setBit
  have hlog : ∀ d, Within [.FAULT_STATUS, .FAULT_EVENTS] [] [.log, .seed] (.log 4 g d) := fun _ => .log
  have hpwr : ∀ x, Within [] [] [.pwr] (.setPwr x) := fun _ => .setPwr
  intro t
  have ht : t = (Act.log 4 g (leBytes rails 1 ++ leBytes l.length 1 ++
      leBytes (((Act.setPwr fun p => p.railFailed g l latch).run ((Act.when latch (.setBit F.SYS_PWR_GRP_FAIL g)).run s)).f F.SYS_PWR_GRP_FAIL) 1)).run
      ((Act.setPwr fun p => p.railFailed g l latch).run ((Act.when latch (.setBit F.SYS_PWR_GRP_FAIL g)).run s)) := by
    simp only [t, Act.railLater, Act.all_cons_run, Act.all_nil_run, Act.look_run]
  rw [ht]
  refine ⟨?_, ?_, fun h => ?_⟩
  · rw [(hlog _ _).parts .pwr (by decide)]
    exact congrArg (PwrSt.railFailed · g l latch) ((hlatch s).parts .pwr (by decide))
  · rw [(hlog _ _).bit_eq _ _ _ _, (hpwr _ _).bit_eq _ _ _ _, hleaves.bit]
  · rw [(hlog _ _).bit_eq _ _ _ _, (hpwr _ _).bit_eq _ _ _ _, h, Act.when_true_run]
    exact Act.setBit_bit_at (n := .SYS_PWR) valid_sysPwr _ (by fin_cases g <;> decide)

theorem groupRailFail_answers {rails : BitVec 4} (hlife : s.pwr.life = .boot ∨ s.up = true) (hsupplied : s.pwr.supplied[g] = true) :
    AnswersThenModes (.groupRailFail g rails) s fun u =>
      u.alive g = false ∧ u.pwr.supplied[g] = false ∧ u.bit F.SYS_PWR_GRP_PWR_OK g = false ∧
      (2 ≤ (s.recentFailures g).length → u.bit F.SYS_PWR_GRP_FAIL g = true ∧ u.pwr.restartDue[g] = false) ∧
      ((s.recentFailures g).length < 2 → u.pwr.restartDue[g] = true) := by
  have hok : ((Act.groupLost g).run ((Act.clrBit F.SYS_PWR_GRP_PWR_OK g).run s)).bit F.SYS_PWR_GRP_PWR_OK g = false := by
    rw [(Within.groupLost _).bit_eq _ _ _ _]
    exact Act.clrBit_bit_at (n := .SYS_PWR) valid_sysPwr _ (by fin_cases g <;> decide)
  have hpwr := Act.groupLost_pwr (g := g) ((Act.clrBit F.SYS_PWR_GRP_PWR_OK g).run s)
  refine ⟨(Act.railFail g rails.toNat).run s, rfl, ?_⟩
  rw [Act.railFail_run hlife hsupplied]
  generalize (Act.groupLost g).run ((Act.clrBit F.SYS_PWR_GRP_PWR_OK g).run s) = u at hok hpwr ⊢
  obtain ⟨hlater, hkept, hfail⟩ := Act.railLater_fails (g := g) (rails := rails.toNat) (l := s.clk :: s.recentFailures g)
    (latch := decide (2 ≤ (s.recentFailures g).length)) u
  generalize (Act.railLater g rails.toNat _ _).run u = t at hlater hkept hfail ⊢
  refine ⟨?_, ?_, hkept.trans hok, fun h => ⟨hfail (decide_eq_true h), ?_⟩, fun h => ?_⟩
  · rw [State.alive, hlater, hpwr]; simp [PwrSt.railFailed]
  · rw [hlater]; simp [PwrSt.railFailed]
  · rw [hlater]; simp [PwrSt.railFailed, h]
  · rw [hlater]; simp [PwrSt.railFailed, h]

/-- Settles O35. -/
theorem groupSupplies : Obligations.GroupSupplies := by
  unfold Obligations.GroupSupplies
  intro s g rails
  exact ⟨groupSupplyStart_answers, groupAlive_answers, groupRailFail_answers, groupLost_answers, groupRestart_answers⟩

/-! ### A group reset -/

/-- R83: what a group reset clears once the group is lost. -/
def Act.resetClears (g : Grp) : Act := .all [.clrBit F.SYS_PWR_GRP_PWR_OK g, .clrBit F.SYS_PWR_GRP_FAIL g,
  .setPwr fun p => { p with failures := p.failures.set g [] }, .setR .PIN_LOCKED 0 g, .locksUpdate g]

theorem Act.groupReset_run (s : State) : (Act.groupReset g).run s = (Act.groupRestart g 1).run ((Act.resetClears g).run ((Act.groupLost g).run s)) := by
  simp only [Act.groupReset, Act.resetClears, Act.all_cons_run, Act.all_nil_run]

theorem Act.sysReset_group (hkey : F.SYS_RESET_KEY.of v = 0xC3) (hmodule : F.SYS_RESET_MODULE.of v = 0) (hfabric : F.SYS_RESET_FABRIC.of v = 0)
    (hgroup : F.SYS_RESET_GROUP.of v = 2 ^ g.val) (s : State) : (Act.sysReset v).run s = Act.accept.run ((Act.groupReset g).run s) := by
  have hone : (Act.groups fun g => .when ((F.SYS_RESET_GROUP.of v).testBit g) (.groupReset g)).run s = (Act.groupReset g).run s :=
    Act.each_when_one (List.mem_finRange g) (List.nodup_finRange 4) Act.groupReset (fun y => by
      rw [hgroup, Nat.testBit_two_pow]
      exact decide_eq_decide.mpr ⟨fun h => Fin.ext h.symm, fun h => (congrArg Fin.val h).symm⟩) s
  rw [Act.sysReset, if_neg (not_not.mpr hkey), if_neg (by rw [hmodule]; decide), hfabric, Act.all_cons_run, Act.all_cons_run, Act.all_cons_run,
    Act.all_nil_run]
  exact congrArg Act.accept.run hone

theorem Act.resetClears_clears (s : State) : let t := (Act.resetClears g).run s
    t.pwr = { s.pwr with failures := s.pwr.failures.set g [] } ∧ t.r .PIN_LOCKED g = 0 ∧ t.bit F.SYS_PWR_GRP_FAIL g = false := by
  have hclear : Within [.SYS_PWR] [] [] (.all [.clrBit F.SYS_PWR_GRP_PWR_OK g, .clrBit F.SYS_PWR_GRP_FAIL g]) := .all ⟨.clrBit, .clrBit⟩
  have hpwr : Within [] [] [.pwr] (.setPwr fun p => { p with failures := p.failures.set g [] }) := .setPwr
  have hlock : Within [.PIN_LOCKED] [] [] (.setR .PIN_LOCKED 0 g) := .setR
  have hlocks : Within [.SYS_LOCKS] [] [] (.locksUpdate g) := .look fun _ => .putBit
  intro t
  have ht : t = (Act.locksUpdate g).run ((Act.setR .PIN_LOCKED 0 g).run ((Act.setPwr fun p => { p with failures := p.failures.set g [] }).run
      ((Act.all [.clrBit F.SYS_PWR_GRP_PWR_OK g, .clrBit F.SYS_PWR_GRP_FAIL g]).run s))) := by
    simp only [t, Act.resetClears, Act.all_cons_run, Act.all_nil_run]
  rw [ht]
  refine ⟨?_, ?_, ?_⟩
  · rw [(hlocks _).parts .pwr (by decide), (hlock _).parts .pwr (by decide)]
    exact congrArg (fun p : PwrSt => { p with failures := p.failures.set g [] }) ((hclear s).parts .pwr (by decide))
  · rw [(hlocks _).r_eq _ _ _, Act.setR_r_stored _ _ (RegRef.valid_of g.isLt)]
    rfl
  · rw [(hlocks _).bit_eq _ _ _ _, (hlock _).bit_eq _ _ _ _, (hpwr _).bit_eq _ _ _ _, Act.all_cons_run, Act.all_cons_run, Act.all_nil_run]
    exact Act.clrBit_bit_at (n := .SYS_PWR) valid_sysPwr _ (by fin_cases g <;> decide)

theorem Leaves.groupRestart_fail {cause : Nat} : Leaves F.SYS_PWR_GRP_FAIL (.groupRestart g cause) :=
  .all ⟨.upd fun _ => rfl, .setBit, .setBit, .of_within (l := [.FAULT_STATUS, .FAULT_EVENTS]) (ps := [.log, .seed]) .log⟩

theorem groupReset_answers (hw : s.takesReg src .SYS_RESET) (hkey : F.SYS_RESET_KEY.of v = 0xC3) (hmodule : F.SYS_RESET_MODULE.of v = 0)
    (hfabric : F.SYS_RESET_FABRIC.of v = 0) (hgroup : F.SYS_RESET_GROUP.of v = 2 ^ g.val) : AnswersThenModes (.groupReset src v) s fun u =>
      u.resp = .ok 0 ∧ u.alive g = false ∧ u.pwr.supplied[g] = true ∧ u.r .PIN_LOCKED g = 0 ∧
      u.bit F.SYS_PWR_GRP_FAIL g = false ∧ u.bit F.SYS_PWR_GRP_PWR_OK g = true ∧ u.bit F.SYS_RST_CAUSE_GRP_RESTART g = true := by
  have heffect := Act.sysReset_group hkey hmodule hfabric hgroup s
  have hrun := Act.writeTo_accepted (d := 0) hw (a := Act.sysReset v) (by rw [heffect]; rfl)
  have hlost := Act.groupLost_pwr (g := g) s
  refine ⟨(Act.writeTo src .SYS_RESET 0 0 0 (Act.sysReset v)).run s, rfl, ?_⟩
  rw [hrun, heffect, Act.groupReset_run]
  generalize (Act.groupLost g).run s = u at hlost ⊢
  obtain ⟨hclears, hlocked, hfail⟩ := Act.resetClears_clears (g := g) u
  generalize (Act.resetClears g).run u = w at hclears hlocked hfail ⊢
  obtain ⟨hpwr, hok, hcause⟩ := Act.groupRestart_restarts (g := g) 1 w
  have hkept := (Within.groupRestart (g := g) (cause := 1) w).r_eq (n := .PIN_LOCKED) g 0 0
  have hleft := Leaves.groupRestart_fail (g := g) (cause := 1)
  refine ⟨rfl, ?_, ?_, hkept.trans hlocked, ?_, hok, hcause⟩
  · show ((Act.groupRestart g 1).run w).alive g = false
    rw [State.alive, hpwr, hclears, hlost]; simp
  · show ((Act.groupRestart g 1).run w).pwr.supplied[g] = true
    rw [hpwr]; simp
  · exact (hleft.bit w g 0 0 0).trans hfail

/-- Settles O36. -/
theorem resets : Obligations.Resets := by
  unfold Obligations.Resets
  intro s src v g hw
  exact ⟨moduleReset_resets hw, moduleReset_badKey hw, fabricReset_answers hw, groupReset_answers hw⟩

end Sys2Proof.Machine
end

section
-- One proof after another: elaborated side by side, the proofs of the whole text do not fit in the check's memory.
set_option Elab.async false
/-! What requests and replies leave of the ring (R397 to R401). -/

namespace Sys2Proof.Machine

theorem Within.ring_eq {l : List RegName} {rs : List RegRef} {ps : List Part} {a : Act} (h : Within l rs ps a) (s : State)
    (hp : Part.ring ∉ ps := by decide) : (a.run s).ring = s.ring := (h s).parts .ring hp

/-- The ring without its lanes. -/
def RingSt.offLanes (r : RingSt) : RingSt := { r with lanes := RingSt.initial.lanes }

/-- The ring is the same but for its lanes. -/
def LanesOnly (s t : State) : Prop := t.ring.offLanes = s.ring.offLanes

namespace LanesOnly

variable {p : Port} {words : List DWord}

theorem frame : Frame LanesOnly := ⟨fun _ => rfl, fun h1 h2 => h2.trans h1⟩

theorem of_within {l : List RegName} {rs : List RegRef} {ps : List Part} {a : Act} (h : Within l rs ps a) (hp : Part.ring ∉ ps := by decide) :
    a.Keeps LanesOnly := fun s => congrArg RingSt.offLanes (h.ring_eq s hp)

theorem setLane {c : Fin 2} {x : RingLane → RingLane} : (Act.setLane p c x).Keeps LanesOnly := fun _ => rfl

theorem launch {c : Fin 2} : (Act.launch p c words).Keeps LanesOnly := Act.keeps_look fun _ => Act.keeps_all frame ⟨setLane, fun _ => rfl⟩

theorem drainLane {c : Fin 2} {k : Nat} : (Act.drainLane p c k).Keeps LanesOnly := by
  induction k with
  | zero => exact Act.keeps_skip frame
  | succ k ih =>
    refine Act.keeps_look fun s => ?_
    split
    · exact Act.keeps_skip frame
    · exact Act.keeps_when frame (Act.keeps_all frame ⟨setLane, launch, ih⟩)

theorem enqueue : (Act.enqueue p words).Keeps LanesOnly := Act.keeps_all frame ⟨setLane, drainLane⟩

theorem sendReply : (Act.sendReply words).Keeps LanesOnly := by
  have hqueue : ∀ q w, (Act.enqueue q w).Keeps LanesOnly := fun _ _ => enqueue
  refine Act.keeps_look fun s => ?_
  split
  · exact Act.keeps_look fun _ => Act.keeps_ite (hqueue _ _) (Act.keeps_ite (Act.keeps_skip frame)
      (Act.keeps_ite (Act.keeps_skip frame) (hqueue _ _)))
  · exact Act.keeps_skip frame

theorem complete {h : PkHead} {w1 status : Nat} {data : List DWord} : (Act.complete h w1 status data).Keeps LanesOnly :=
  have hcount : Within [.COLYS_COUNTS] [] [] (.count F.COLYS_COUNTS_NO_TARGET) := .count
  Act.keeps_look fun _ => Act.keeps_when frame (Act.keeps_all frame ⟨Act.keeps_when frame (of_within hcount), sendReply⟩)

end LanesOnly

/-- The ring without its lanes, the requests that found no way and the packets for host memory. -/
def RingSt.offPath (r : RingSt) : RingSt := { r with lanes := RingSt.initial.lanes, hostQ := [], failed := [] }

/-- The ring is the same but for the packets on their way. -/
def PathKept (s t : State) : Prop := t.ring.offPath = s.ring.offPath

namespace PathKept

variable {p : Port} {words : List DWord}

theorem frame : Frame PathKept := ⟨fun _ => rfl, fun h1 h2 => h2.trans h1⟩

theorem of_lanes {a : Act} (h : a.Keeps LanesOnly) : a.Keeps PathKept := fun s =>
  congrArg (fun r : RingSt => ({ r with hostQ := [], failed := [] } : RingSt)) (h s)

theorem transmit {dead : Act} (hdead : dead.Keeps PathKept) : (Act.transmit p words dead).Keeps PathKept :=
  have hqueue : ∀ q w, (Act.enqueue q w).Keeps PathKept := fun _ _ => of_lanes .enqueue
  Act.keeps_look fun _ => Act.keeps_ite (hqueue _ _) (Act.keeps_ite (Act.keeps_skip frame) (Act.keeps_ite hdead (hqueue _ _)))

theorem deadPacket : (Act.deadPacket words).Keeps PathKept :=
  Act.keeps_look fun _ => Act.keeps_ite (Act.keeps_skip frame) (Act.keeps_ite (fun _ => rfl) (of_lanes .complete))

theorem dispatch : (Act.dispatch words).Keeps PathKept := by
  refine Act.keeps_look fun s => Act.keeps_ite (fun _ => rfl) ?_
  split
  · exact transmit deadPacket
  · exact deadPacket

end PathKept

/-- What a packet on its way, a request and its answer leave as it is. -/
def RingSt.aside (r : RingSt) : RingSt :=
  { r with lanes := RingSt.initial.lanes, tag := 0, issued := [], reqs := [], kept := [], hostQ := [], failed := [], held := [] }

/-- The ring is the same but for packets and requests. -/
def RingAside (s t : State) : Prop := t.ring.aside = s.ring.aside

theorem RingAside.frame : Frame RingAside := ⟨fun _ => rfl, fun h1 h2 => h2.trans h1⟩

theorem RingAside.bypass {s t : State} (h : RingAside s t) : t.ring.bypass = s.ring.bypass :=
  show t.ring.aside.bypass = s.ring.aside.bypass from congrArg RingSt.bypass h

theorem Within.ringAside {l : List RegName} {rs : List RegRef} {ps : List Part} {a : Act} (h : Within l rs ps a) (hp : Part.ring ∉ ps := by decide) :
    a.Keeps RingAside := fun s => congrArg RingSt.aside (h.ring_eq s hp)

namespace RingAside

variable {p : Port} {words : List DWord} {dst : BitVec 6} {use : RingUse}

theorem of_path {a : Act} (h : a.Keeps PathKept) : a.Keeps RingAside := fun s =>
  congrArg (fun r : RingSt => ({ r with tag := 0, issued := [], reqs := [], kept := [], held := [] } : RingSt)) (h s)

theorem setRing {x : RingSt → RingSt} (h : ∀ r, (x r).aside = r.aside := by intro; rfl) : (Act.setRing x).Keeps RingAside := fun _ => h _

theorem setLane {c : Fin 2} {x : RingLane → RingLane} : (Act.setLane p c x).Keeps RingAside := setRing

theorem sendReply : (Act.sendReply words).Keeps RingAside := of_path (.of_lanes .sendReply)

theorem transmit {dead : Act} (hdead : dead.Keeps RingAside) : (Act.transmit p words dead).Keeps RingAside :=
  have hqueue : ∀ q w, (Act.enqueue q w).Keeps RingAside := fun _ _ => of_path (.of_lanes .enqueue)
  Act.keeps_look fun _ => Act.keeps_ite (hqueue _ _) (Act.keeps_ite (Act.keeps_skip frame) (Act.keeps_ite hdead (hqueue _ _)))

theorem complete {h : PkHead} {w1 status : Nat} {data : List DWord} : (Act.complete h w1 status data).Keeps RingAside :=
  of_path (.of_lanes .complete)

theorem deadPacket : (Act.deadPacket words).Keeps RingAside := of_path .deadPacket

theorem dispatch : (Act.dispatch words).Keeps RingAside := of_path .dispatch

theorem issue : (Act.issue dst use words).Keeps RingAside := Act.keeps_look fun _ => Act.keeps_all frame ⟨setRing, dispatch⟩

theorem heldIssue {held : List (BitVec 6 × RingUse × List DWord)} : (Act.heldIssue held).Keeps RingAside := by
  induction held with
  | nil => exact Act.keeps_skip frame
  | cons x held ih => exact Act.keeps_look fun _ => Act.keeps_ite (Act.keeps_all frame ⟨setRing, issue, ih⟩) (Act.keeps_skip frame)

theorem request : (Act.request dst use words).Keeps RingAside := Act.keeps_all frame ⟨setRing, Act.keeps_look fun _ => heldIssue⟩

theorem safeEnter {cause : Nat} : (Act.safeEnter cause).Keeps RingAside := fun s => by
  have hset : Within [.LIMIT_SAFE] [] [] (.setBit F.LIMIT_SAFE_CAUSE cause) := .setBit
  have hactive : Within [.LIMIT_SAFE] [] [] (.setB F.LIMIT_SAFE_ACTIVE true) := .setB
  have hlog : ∀ d, Within [.FAULT_STATUS, .FAULT_EVENTS] [] [.log, .seed] (.log 12 0 d) := fun _ => .log
  have hacts : ∀ t, (Act.safeActs t).Keeps RingAside := fun t =>
    Act.keeps_all frame ⟨hactive.ringAside, (hlog _).ringAside, Within.outsFault.ringAside, Within.pinRows.ringAside, Act.keeps_when frame request⟩
  have hentered : (if s.b F.LIMIT_SAFE_ACTIVE then Act.skip else .safeActs ((Act.setBit F.LIMIT_SAFE_CAUSE cause).run s)).Keeps RingAside :=
    Act.keeps_ite (Act.keeps_skip frame) (hacts _)
  rw [Act.safeEnter_run]
  exact frame.trans (Within.ringAside hset (by decide) s) (hentered _)

end RingAside

end Sys2Proof.Machine
end

section
-- One proof after another: elaborated side by side, the proofs of the whole text do not fit in the check's memory.
set_option Elab.async false
/-! A supply reset and the first step of start-up (R70, R81). -/

namespace Sys2Proof.Machine

variable {s t : State} {g : Grp} {o : Out}

/-- What every action for a member keeps true, the loop keeps true. -/
theorem Act.each_preserves {R : State → Prop} {α : Type} {l : List α} {f : α → Act} (h : ∀ y s, R s → R ((f y).run s)) (s : State) (hs : R s) :
    R ((Act.each l f).run s) :=
  Act.keeps_each (P := fun s t => R s → R t) ⟨fun _ h => h, fun h1 h2 h => h2 (h1 h)⟩ l h s hs

/-! ### The NV values after a reset -/

/-- R72: the NV registers of an output show the area in flash. -/
def Act.nvLoadOut (g : Grp) (o : Out) : Act := .look fun s => .all [
  .setF F.DAC_NV_NV_RANGE (s.nvOf g o).range g o, .setB F.DAC_NV_PU_OPEN (s.nvOf g o).puOpen g o,
  .setB F.DAC_NV_FAULT_OPEN (s.nvOf g o).faultOpen g o, .setF F.DAC_NV_CODES_PU_CODE (s.nvOf g o).pu g o,
  .setF F.DAC_NV_CODES_FAULT_CODE (s.nvOf g o).fault g o]

/-- The NV registers of an output show the area in flash. -/
def NvShown (g : Grp) (o : Out) (t : State) : Prop :=
  t.f F.DAC_NV_NV_RANGE g o = (t.nvOf g o).range % 8 ∧ t.f F.DAC_NV_CODES_PU_CODE g o = (t.nvOf g o).pu % 65536

theorem State.nvOf_congr (h : t.flash = s.flash) : t.nvOf g o = s.nvOf g o := by rw [State.nvOf, State.nvOf, State.nvArea, State.nvArea, h]

theorem NvShown.kept (hs : NvShown g o s) (hflash : t.flash = s.flash) (hnv : t.r .DAC_NV g o = s.r .DAC_NV g o)
    (hcodes : t.r .DAC_NV_CODES g o = s.r .DAC_NV_CODES g o) : NvShown g o t := by
  rw [NvShown, State.nvOf_congr hflash]
  exact ⟨(congrArg F.DAC_NV_NV_RANGE.of hnv).trans hs.1, (congrArg F.DAC_NV_CODES_PU_CODE.of hcodes).trans hs.2⟩

theorem Within.nvLoadOut : Within [] [⟨.DAC_NV, g, o, 0⟩, ⟨.DAC_NV_CODES, g, o, 0⟩] [] (.nvLoadOut g o) :=
  .look fun _ => .all ⟨.setFAt, .setBAt, .setBAt, .setFAt, .setFAt⟩

theorem Act.nvLoadOut_shown : (Act.nvLoadOut g o).Brings (NvShown g o) := fun s => by
  have hflash : ((Act.nvLoadOut g o).run s).flash = s.flash := (Within.nvLoadOut s).parts .flash (by decide)
  rw [NvShown, State.nvOf_congr hflash]
  rw [Act.nvLoadOut, Act.look_run]
  refine ⟨?_, ?_⟩
  · exact (Act.all_f_head (by exact .all ⟨.setB, .setB, .setF, .setF⟩)).trans (Act.setF_f_at (n := .DAC_NV) (RegRef.valid_of g.isLt o.isLt) _ _)
  · rw [Act.all_cons_run, Act.all_cons_run, Act.all_cons_run]
    exact (Act.all_f_head (by exact .all (show List.Forall _ [_] from .setF))).trans (Act.setF_f_at (n := .DAC_NV_CODES) (RegRef.valid_of g.isLt o.isLt) _ _)

theorem Act.nvLoad_shown : Act.nvLoad.Brings (NvShown g o) := by
  have hother : ∀ (g' : Grp) (o' : Out), ¬ (g' = g ∧ o' = o) → ∀ s, NvShown g o s → NvShown g o ((Act.nvLoadOut g' o').run s) := fun g' o' hne s hs => by
    have hreg : ∀ n, ((Act.nvLoadOut g' o').run s).r n g o = s.r n g o := fun n =>
      (Within.nvLoadOut s).regs n g o 0 List.not_mem_nil fun h => by
        simp only [List.mem_cons, List.not_mem_nil, or_false, RegRef.mk.injEq, Fin.val_inj] at h
        rcases h with ⟨-, hg, ho, -⟩ | ⟨-, hg, ho, -⟩ <;> exact hne ⟨hg.symm, ho.symm⟩
    exact hs.kept ((Within.nvLoadOut s).parts .flash (by decide)) (hreg _) (hreg _)
  refine Act.brings_each_at (List.mem_finRange g) ?_ fun g' hg s hs => ?_
  · exact Act.brings_each_at (List.mem_finRange o) Act.nvLoadOut_shown fun o' ho => hother g o' fun h => ho h.2
  · exact Act.each_preserves (fun o' => hother g' o' fun h => hg h.1) s hs

/-- R295, R297: an output's registers take the NV power-up values. -/
def Act.nvFieldsOut (g : Grp) (o : Out) : Act := .look fun s => .all [
  .setOut g o fun x => { x with nvRange := s.f F.DAC_NV_NV_RANGE g o },
  .setF F.DAC_CFG_RANGE (s.f F.DAC_NV_NV_RANGE g o) g o, .setF F.DAC_VALUE_CODE (s.f F.DAC_NV_CODES_PU_CODE g o) g o,
  .setF F.DAC_STATUS_RANGE_NOW (s.f F.DAC_NV_NV_RANGE g o) g o]

/-- The output's VALUE is its power-up code. -/
def PuShown (g : Grp) (o : Out) (t : State) : Prop := t.f F.DAC_VALUE_CODE g o = t.f F.DAC_NV_CODES_PU_CODE g o % 65536

theorem Within.nvFieldsOut : Within [] [⟨.DAC_CFG, g, o, 0⟩, ⟨.DAC_VALUE, g, o, 0⟩, ⟨.DAC_STATUS, g, o, 0⟩] [.outs] (.nvFieldsOut g o) :=
  .look fun _ => .all ⟨.setOut, .setFAt, .setFAt, .setFAt⟩

theorem Act.nvFieldsOut_shown : (Act.nvFieldsOut g o).Brings (PuShown g o) := fun s => by
  have hcode : ((Act.nvFieldsOut g o).run s).f F.DAC_NV_CODES_PU_CODE g o = s.f F.DAC_NV_CODES_PU_CODE g o :=
    congrArg F.DAC_NV_CODES_PU_CODE.of ((Within.nvFieldsOut s).regs .DAC_NV_CODES _ _ _ List.not_mem_nil (by simp))
  rw [PuShown, hcode, Act.nvFieldsOut, Act.look_run, Act.all_cons_run, Act.all_cons_run]
  exact (Act.all_f_head (by exact .all (show List.Forall _ [_] from .setF))).trans (Act.setF_f_at (n := .DAC_VALUE) (RegRef.valid_of g.isLt o.isLt) _ _)

theorem Act.nvResetFields_shown : Act.nvResetFields.Brings (PuShown g o) := by
  have hother : ∀ (g' : Grp) (o' : Out), ¬ (g' = g ∧ o' = o) → ∀ s, PuShown g o s → PuShown g o ((Act.nvFieldsOut g' o').run s) := fun g' o' hne s hs => by
    have hreg : ∀ n, ((Act.nvFieldsOut g' o').run s).r n g o = s.r n g o := fun n =>
      (Within.nvFieldsOut s).regs n g o 0 List.not_mem_nil fun h => by
        simp only [List.mem_cons, List.not_mem_nil, or_false, RegRef.mk.injEq, Fin.val_inj] at h
        rcases h with ⟨-, hg, ho, -⟩ | ⟨-, hg, ho, -⟩ | ⟨-, hg, ho, -⟩ <;> exact hne ⟨hg.symm, ho.symm⟩
    rw [PuShown, State.f, State.f, hreg, hreg]
    exact hs
  refine Act.brings_each_at (List.mem_finRange g) ?_ fun g' hg s hs => ?_
  · exact Act.brings_each_at (List.mem_finRange o) Act.nvFieldsOut_shown fun o' ho => hother g o' fun h => ho h.2
  · exact Act.each_preserves (fun o' => hother g' o' fun h => hg h.1) s hs

/-! ### A supply reset -/

/-- R70 step 1: the supply is back, and a rewrite of the NV area that it interrupted is over. -/
def Act.supplyBack : Act := .all [.setPwr fun p => { p with vinLow := false }, .setFlash fun f => { f with nvUntil := 0 }]

/-- R70 step 1: what a new supply gives beside the registers. -/
def Act.supplyWorld (head : Bool) (addr : BitVec 6) : Act := .upd fun s => { s with
  pwr := { PwrSt.initial with
    life := .boot, module := addr, headStrap := head, safePinLow := s.pwr.safePinLow
    vinHigh := s.pwr.vinHigh, vfld := s.pwr.vfld }
  outs := State.reset.outs, cells := State.reset.cells, mods := State.reset.mods
  cal := s.cal.map fun c => { c with temp := 0 }
  ring := RingSt.initial, pcie := State.reset.pcie
  log := { s.log with queue := [], lost := 0, next := ((s.log.flash.getLast?).map fun e => (e.seq + 1) % 4294967296).getD 0 } }

theorem Act.supplyStart_run (cause : Nat) (head : Bool) (addr : BitVec 6) (s : State) : (Act.supplyStart cause head addr).run s =
    Act.nvResetFields.run (Act.nvLoad.run ((Act.supplyWorld head addr).run ((Act.resetMarks cause (Act.supplyBack.run s)).run
      ((Act.clearStores false).run (Act.supplyBack.run s))))) := by
  simp only [Act.supplyStart, Act.supplyBack, Act.all_cons_run, Act.all_nil_run, Act.clearAll_run, Act.supplyWorld]

/-- The registers that a supply reset gives their values once everything is cleared. -/
abbrev supplyNames : List RegName := [.STEP_POL_STATUS, .SYS_PWR, .SYS_RST_CAUSE, .DAC_NV, .DAC_NV_CODES, .DAC_CFG, .DAC_VALUE, .DAC_STATUS]

theorem Within.supplyWorld {head : Bool} {addr : BitVec 6} :
    Within [] [] [.pwr, .outs, .cells, .mods, .cal, .ring, .pcie, .log] (.supplyWorld head addr) := .upd (fun _ => rfl) fun _ => rfl

/-- R70 step 1, R81: what a supply reset leaves. -/
structure Fresh (head : Bool) (addr : BitVec 6) (cause : Nat) (s t : State) : Prop where
  regs : ∀ n i j k, n ∉ flashRegs → n ∉ supplyNames → t.r n i j k = n.reset
  pwr : ∃ vfld vinHigh pin, t.pwr =
    { PwrSt.initial with life := .boot, module := addr, headStrap := head, safePinLow := pin, vinHigh := vinHigh, vfld := vfld }
  times : t.clk = 0 ∧ t.time = 0
  cause : t.f F.SYS_RST_CAUSE_CAUSE = cause
  harb : t.harb = []
  mem : t.mem = []
  log : t.log.flash = s.log.flash ∧ t.log.queue = []
  flash : t.flash.slots = s.flash.slots ∧ t.flash.nv = s.flash.nv ∧ t.flash.nvBad = s.flash.nvBad
  pol : t.pol.slots = s.pol.slots
  nv : ∀ g o, NvShown g o t ∧ PuShown g o t

theorem Act.supplyStart_fresh {cause : Nat} (hcause : cause < 16) (head : Bool) (addr : BitVec 6) (s : State) :
    Fresh head addr cause s ((Act.supplyStart cause head addr).run s) := by
  have hnv := fun u (g : Grp) (o : Out) => Act.nvLoad_shown (g := g) (o := o) u
  have hpu := fun u (g : Grp) (o : Out) => Act.nvResetFields_shown (g := g) (o := o) u
  have hmark : ∀ u v : State, ((Act.resetMarks cause u).run v).f F.SYS_RST_CAUSE_CAUSE = cause := fun u v => by
    rw [Act.resetMarks, Act.all_cons_run, Act.all_cons_run, Act.all_nil_run]
    exact (Act.setF_f_same _ _ _ _ _ _ (by decide) (by decide)).trans (Nat.mod_eq_of_lt hcause)
  have hback : (Act.supplyBack.run s).log = s.log ∧ (Act.supplyBack.run s).flash = { s.flash with nvUntil := 0 } ∧
    (Act.supplyBack.run s).pol = s.pol := ⟨rfl, rfl, rfl⟩
  rw [Act.supplyStart_run]
  generalize Act.supplyBack.run s = u at hback ⊢
  obtain ⟨hlog, hflash, hpol⟩ := hback
  have hclear := Act.clearStores_cleared false u
  generalize (Act.clearStores false).run u = v at hclear ⊢
  have hmarks := Within.resetMarks (cause := cause) (old := u) v
  have hcause := hmark u v
  generalize (Act.resetMarks cause u).run v = w at hmarks hcause ⊢
  have hworld := Within.supplyWorld (head := head) (addr := addr) w
  have hworldPwr : ∃ vfld vinHigh pin, ((Act.supplyWorld head addr).run w).pwr =
    { PwrSt.initial with life := .boot, module := addr, headStrap := head, safePinLow := pin, vinHigh := vinHigh, vfld := vfld } := ⟨_, _, _, rfl⟩
  have hworldLog : ((Act.supplyWorld head addr).run w).log.flash = w.log.flash ∧ ((Act.supplyWorld head addr).run w).log.queue = [] := ⟨rfl, rfl⟩
  generalize (Act.supplyWorld head addr).run w = x at hworld hworldPwr hworldLog ⊢
  have hload := Within.nvLoad x
  have hshown := hnv x
  generalize Act.nvLoad.run x = y at hload hshown ⊢
  have hfields := Within.nvResetFields y
  have hputs := hpu y
  generalize Act.nvResetFields.run y = t at hfields hputs ⊢
  have htouch : Touches supplyNames [] [.pwr, .outs, .cells, .mods, .cal, .ring, .pcie, .log] v t :=
    ((hmarks.mono).trans hworld.mono).trans (hload.mono.trans hfields.mono)
  obtain ⟨hslots, hnvArea, hbad⟩ := hclear.flash
  exact {
    regs := fun n i j k hn hnames => (htouch.r_eq i j k hnames).trans (hclear.regs n i j k hn fun h => absurd h Bool.false_ne_true)
    pwr := by
      rw [hfields.parts .pwr (by decide), hload.parts .pwr (by decide)]
      exact hworldPwr
    times := ⟨(htouch.parts .clk (by decide)).trans hclear.clk, (htouch.parts .time (by decide)).trans hclear.time⟩
    cause := by rw [hfields.f_eq _ _ _, hload.f_eq _ _ _, hworld.f_eq _ _ _, hcause]
    harb := (htouch.parts .harb (by decide)).trans hclear.harb
    mem := by
      rw [htouch.parts .mem (by decide), hclear.mem]
      simp
    log := by
      rw [hfields.parts .log (by decide), hload.parts .log (by decide), hworldLog.1, hmarks.parts .log (by decide), hclear.log, hlog]
      exact ⟨rfl, hworldLog.2⟩
    flash := by
      rw [htouch.parts .flash (by decide), hslots, hnvArea, hbad, hflash]
      exact ⟨rfl, rfl, rfl⟩
    pol := by rw [htouch.parts .pol (by decide), hclear.pol, hpol]
    nv := fun g o => ⟨(hshown g o).kept (hfields.parts .flash (by decide)) (hfields.r_eq _ _ _) (hfields.r_eq _ _ _), hputs g o⟩ }

/-- R81: what `Obligations.SupplyResets` says of a supply reset. -/
theorem Fresh.resets {head : Bool} {addr : BitVec 6} {cause : Nat} (h : Fresh head addr cause s t) :
    t.pwr.life = .boot ∧ t.up = false ∧ t.pwr.module = addr ∧ t.pwr.headStrap = head ∧ t.clk = 0 ∧ t.time = 0 ∧
    t.released = false ∧ (∀ g, t.alive g = false) ∧ t.f F.SYS_RST_CAUSE_CAUSE = cause ∧ t.harb = [] ∧ (∀ b, t.byte b = 0) ∧
    t.log.flash = s.log.flash ∧ t.log.queue = [] ∧ t.flash.slots = s.flash.slots ∧ t.pol.slots = s.pol.slots ∧
    (∀ (g : Grp) (o : Out), t.f F.DAC_NV_NV_RANGE g o = (s.nvOf g o).range % 8 ∧ t.f F.DAC_VALUE_CODE g o = (s.nvOf g o).pu % 65536) ∧
    (∀ n i j k, n ∉ flashRegs → n ∉ supplyNames → t.r n i j k = n.reset) := by
  obtain ⟨vfld, vinHigh, pin, hpwr⟩ := h.pwr
  obtain ⟨hclk, htime⟩ := h.times
  obtain ⟨hkept, hqueue⟩ := h.log
  obtain ⟨hslots, hnv, hbad⟩ := h.flash
  have harea : ∀ g o, t.nvOf g o = s.nvOf g o := fun g o => by rw [State.nvOf, State.nvOf, State.nvArea, State.nvArea, hnv, hbad]
  refine ⟨?_, ?_, ?_, ?_, hclk, htime, ?_, fun g => ?_, h.cause, h.harb, fun b => ?_, hkept, hqueue, hslots, h.pol, fun g o => ?_, h.regs⟩
  · rw [hpwr]
  · rw [State.up, hpwr]; rfl
  · rw [hpwr]
  · rw [hpwr]
  · rw [State.released, hpwr]; rfl
  · rw [State.alive, hpwr]
    simp [PwrSt.initial]
  · rw [State.byte, h.mem]; rfl
  · obtain ⟨⟨hrange, hcode⟩, hvalue⟩ := h.nv g o
    rw [hrange, hvalue, hcode, harea]
    exact ⟨rfl, Nat.mod_mod _ _⟩

theorem supplyPowerOn_answers (head : Bool) (addr : BitVec 6) (hlife : s.pwr.life = .off ∨ s.pwr.life = .collapsed) :
    Answers (.supplyPowerOn head addr) s (Fresh head addr 0 s) := by
  have hcond : (s.pwr.life == .off || s.pwr.life == .collapsed) = true := by simpa using hlife
  have hrun : (Act.look fun t => .when (t.pwr.life == .off || t.pwr.life == .collapsed) (.supplyStart 0 head addr)).run s =
      (Act.supplyStart 0 head addr).run s := by
    rw [Act.look_run, hcond, Act.when_true_run]
  refine ⟨_, rfl, ?_⟩
  rw [hrun]
  exact Act.supplyStart_fresh (by decide) head addr s

theorem powerFailRestart_answers (head : Bool) (addr : BitVec 6) (hlife : s.pwr.life = .failing ∨ s.pwr.life = .collapsed) :
    Answers (.powerFailRestart head addr) s (Fresh head addr 4 s) := by
  have hcond : (s.pwr.life == .failing || s.pwr.life == .collapsed) = true := by simpa using hlife
  have hrun : (Act.look fun t => .when (t.pwr.life == .failing || t.pwr.life == .collapsed) (.supplyStart 4 head addr)).run s =
      (Act.supplyStart 4 head addr).run s := by
    rw [Act.look_run, hcond, Act.when_true_run]
  refine ⟨_, rfl, ?_⟩
  rw [hrun]
  exact Act.supplyStart_fresh (by decide) head addr s

/-! ### The first step of start-up -/

/-- The registers that a policy image in force may change. -/
abbrev policyNames : List RegName := [.STEP_POL_STATUS, .STEP_POL_INFO, .SYS_START, .MON_CFG, .MON_LO, .MON_HI, .MON_ACT, .LIMIT_WDOG, .LIMIT_STAT,
  .CAL_CFG, .CAL_TOL, .CAL_WINDOW, .CAL_INTERVAL, .PAIR_CFG]

namespace Within

variable {plain : List Byte}

theorem policySteps : Within [] [] [.mem] (.policySteps plain) := .each fun _ => .each fun _ => .setBytes

theorem policyLimits : Within [.MON_CFG, .MON_LO, .MON_HI, .MON_ACT, .LIMIT_WDOG] [] [] (.policyLimits plain) := by
  rw [Act.policyLimits]
  split
  · exact .skip
  · exact .all ⟨.each fun _ => .all ⟨.setR, .setR, .setR, .setR⟩, .look fun _ => .when .setR⟩

theorem policyCal : Within [.CAL_CFG, .CAL_TOL, .CAL_WINDOW, .CAL_INTERVAL] [] [] (.policyCal plain) := by
  rw [Act.policyCal]
  split
  · exact .skip
  · exact .all ⟨.setF, .setF, .setF, .setF, .setF, .setF⟩

theorem policyPair : Within [.PAIR_CFG] [] [] (.policyPair plain) := by
  rw [Act.policyPair]
  split
  · exact .setR
  · exact .all ⟨.setF, .setF, .setF⟩

theorem monitorState_at {m : Nat} : Within [.LIMIT_STAT] [] [.lim] (.monitorState m) :=
  .look fun _ => .ite (.all ⟨.setLim, .setF, .setF⟩) (.ite (.all ⟨.setF, .setF⟩) .skip)

theorem monitorsLive : Within [.LIMIT_STAT] [] [.lim] .monitorsLive := .look fun _ => .when (.each fun _ => monitorState_at)

theorem policyTake {img : List Byte} : Within policyNames [] [.pol, .mem, .lim] (.policyTake img) :=
  .look fun _ => .all ⟨.setPol, .setB, .setF, policySteps.mono, policyLimits.mono, policyCal.mono, policyPair.mono, monitorsLive.mono⟩

theorem policyStart : Within policyNames [] [.pol, .mem, .lim] .policyStart :=
  .look fun _ => .ite policyTake (.ite (.all ⟨.setB, policyTake⟩) .skip)

theorem vinHighShows : Within [.SYS_PWR, .FAULT_STATUS, .FAULT_EVENTS] [] [.log, .seed] .vinHighShows := by
  refine .look fun s => ?_
  split
  · exact .when (.all ⟨.setB, .log⟩)
  · exact .skip

end Within

/-- R70 step 2: the module knows its number and its place. -/
def Act.upIdentity (module : BitVec 6) (head : Bool) : Act := .all [
  .setPwr fun p => { p with life := .up }, .setF F.SYS_START_PHASE 1,
  .setF F.SYS_INST_MODULE module.toNat, .setB F.SYS_INST_HEAD head, .setB F.SYS_INST_HEAD_STRAP head,
  .setF F.COLYS_ID_MODULE module.toNat, .setB F.COLYS_ID_HEAD_STRAP head, .setB F.COLYS_ID_HEAD head]

/-- R70 step 2, R82 step 3: the ports train. -/
def Act.upPorts (bypass : Bool) : Act := .all [
  .when bypass (.each [0, 1] fun p => .setF F.PORT_STATUS_STATE portTraining p), .setRing fun r => { r with bypass := false }]

/-- R60, R69, R75, R429: SAFE by its pin, the field supplies, and the failure maps of living groups. -/
def Act.upFollows (s : State) : Act := .all [
  .policyStart, .when s.pwr.safePinLow (.all [.setB F.LIMIT_SAFE_PIN true, .safeEnter 0]), .vinHighShows,
  .groups fun g => .when s.pwr.vfld[g] (.setBit F.SYS_PWR_VFLD_OK g),
  .groups fun g => .when (s.alive g) (.all [.restoreMap g, .nvBad, .pinRowUpdate g])]

theorem Act.supervisorUp_run (hlife : s.pwr.life = .boot) (hstarted : s.started 2457600 = true) : Act.supervisorUp.run s =
    (Act.upFollows s).run ((Act.upPorts s.ring.bypass).run ((Act.upIdentity s.pwr.module s.pwr.headStrap).run s)) := by
  have hcond : (s.pwr.life == .boot && s.started 2457600) = true := by rw [hlife, hstarted]; rfl
  simp only [Act.supervisorUp, Act.look_run, hcond, Act.when_true_run, Act.upFollows, Act.upPorts, Act.upIdentity, Act.all_cons_run, Act.all_nil_run]

/-- The registers that the rest of the first step of start-up may change. -/
abbrev upNames : List RegName := policyNames ++ safeNames ++ groupNames ++ [.SYS_PWR]

/-- The parts of the state that the rest of the first step of start-up may change. -/
abbrev upParts : List Part := [.pol, .mem, .lim] ++ safeParts ++ .pwr :: groupParts

theorem Within.upFollows : Within upNames [] upParts (.upFollows s) :=
  .all ⟨Within.policyStart.mono, .when (.all ⟨.setB, Within.safeEnter.mono⟩), Within.vinHighShows.mono, .each fun _ => .when .setBit,
    .each fun _ => .when (.all ⟨Within.restoreMap.mono, Within.nvBad.mono, Within.pinRowUpdate.mono⟩)⟩

/-- The life of the supervisor and the ring's bypass are the same. -/
def UpKept (s t : State) : Prop := t.pwr.life = s.pwr.life ∧ t.ring.bypass = s.ring.bypass

theorem UpKept.frame : Frame UpKept := ⟨fun _ => ⟨rfl, rfl⟩, fun h1 h2 => ⟨h2.1.trans h1.1, h2.2.trans h1.2⟩⟩

theorem Within.upKept {l : List RegName} {rs : List RegRef} {ps : List Part} {a : Act} (h : Within l rs ps a) (hp : Part.pwr ∉ ps := by decide)
    (hring : Part.ring ∉ ps := by decide) : a.Keeps UpKept := fun s =>
  ⟨congrArg PwrSt.life ((h s).parts .pwr hp), congrArg RingSt.bypass ((h s).parts .ring hring)⟩

theorem Act.upFollows_kept : (Act.upFollows s).Keeps UpKept := by
  have hpin : Within [.LIMIT_SAFE] [] [] (.setB F.LIMIT_SAFE_PIN true) := .setB
  have hvfld : ∀ g : Nat, Within [.SYS_PWR] [] [] (.setBit F.SYS_PWR_VFLD_OK g) := fun _ => .setBit
  have hsafe : (Act.safeEnter 0).Keeps UpKept := fun t =>
    ⟨congrArg PwrSt.life ((Within.safeEnter t).parts .pwr (by decide)), (RingAside.safeEnter t).bypass⟩
  have hmap : ∀ g, (Act.restoreMap g).Keeps UpKept := fun g t =>
    ⟨by rw [Act.restoreMap_pwr], congrArg RingSt.bypass ((Within.restoreMap t).parts .ring (by decide))⟩
  exact Act.keeps_all UpKept.frame ⟨Within.policyStart.upKept, Act.keeps_when UpKept.frame (Act.keeps_all UpKept.frame ⟨hpin.upKept, hsafe⟩),
    Within.vinHighShows.upKept, Act.keeps_each UpKept.frame _ fun g => Act.keeps_when UpKept.frame (hvfld g).upKept,
    Act.keeps_each UpKept.frame _ fun g => Act.keeps_when UpKept.frame
      (Act.keeps_all UpKept.frame ⟨hmap g, Within.nvBad.upKept, Within.pinRowUpdate.upKept⟩)⟩

theorem Act.upIdentity_shows (module : BitVec 6) (head : Bool) (s : State) : let t := (Act.upIdentity module head).run s
    t.pwr.life = .up ∧ t.f F.SYS_INST_MODULE = module.toNat ∧ t.b F.SYS_INST_HEAD = head ∧ t.f F.COLYS_ID_MODULE = module.toNat := by
  have hinst : F.SYS_INST_MODULE.width = 6 := rfl
  have hid : F.COLYS_ID_MODULE.width = 6 := rfl
  intro t
  have ht : t = (Act.upIdentity module head).run s := rfl
  simp only [Act.upIdentity, Act.all_cons_run, Act.all_nil_run] at ht
  rw [ht]
  refine ⟨?_, ?_, ?_, ?_⟩
  · simp
  · simpa +decide [hinst] using module.isLt
  · simp +decide [State.b]
  · simpa +decide [hid] using module.isLt

theorem supervisorUp_answers (hlife : s.pwr.life = .boot) (hstarted : s.started 2457600 = true) : Answers .supervisorUp s fun t =>
    t.up = true ∧ t.ring.bypass = false ∧ t.f F.SYS_INST_MODULE = s.pwr.module.toNat ∧ t.b F.SYS_INST_HEAD = s.pwr.headStrap ∧
    t.f F.COLYS_ID_MODULE = s.pwr.module.toNat := by
  have hports : Within [.PORT_STATUS] [] [.ring] (.upPorts s.ring.bypass) := .all ⟨.when (.each fun _ => .setF), .setRing⟩
  obtain ⟨hup, hmodule, hhead, hid⟩ := Act.upIdentity_shows s.pwr.module s.pwr.headStrap s
  refine ⟨_, rfl, ?_⟩
  rw [Act.supervisorUp_run hlife hstarted]
  generalize (Act.upIdentity s.pwr.module s.pwr.headStrap).run s = u at hup hmodule hhead hid ⊢
  have hbypass : ((Act.upPorts s.ring.bypass).run u).ring.bypass = false := rfl
  have htouch := hports u
  generalize (Act.upPorts s.ring.bypass).run u = v at hbypass htouch ⊢
  have hfollows := Within.upFollows (s := s) v
  obtain ⟨hlifeKept, hbypassKept⟩ := Act.upFollows_kept (s := s) v
  generalize (Act.upFollows s).run v = t at hfollows hlifeKept hbypassKept ⊢
  refine ⟨?_, hbypassKept.trans hbypass, ?_, ?_, ?_⟩
  · rw [State.up, hlifeKept, htouch.parts .pwr (by decide), hup]
    rfl
  · rw [hfollows.f_eq _ _ _, htouch.f_eq _ _ _, hmodule]
  · rw [hfollows.b_eq _ _ _, htouch.b_eq _ _ _, hhead]
  · rw [hfollows.f_eq _ _ _, htouch.f_eq _ _ _, hid]

/-- Settles O33. -/
theorem supplyResets : Obligations.SupplyResets := by
  unfold Obligations.SupplyResets
  intro s head addr
  refine ⟨fun hlife => ?_, fun hlife => ?_, supervisorUp_answers⟩
  · obtain ⟨t, hexec, ht⟩ := supplyPowerOn_answers head addr hlife
    exact ⟨t, hexec, ht.resets⟩
  · obtain ⟨t, hexec, ht⟩ := powerFailRestart_answers head addr hlife
    exact ⟨t, hexec, ht.resets⟩

end Sys2Proof.Machine
end

section
-- One proof after another: elaborated side by side, the proofs of the whole text do not fit in the check's memory.
set_option Elab.async false
/-! Requests for modes and the evaluation of the in-force set (R44 to R56). -/

namespace Sys2Proof.Machine

variable {s : State} {src : Src} {v : Word} {g : Grp} {o : Out} {n : Cv} {x : Nat}

/-! ### What entering and leaving a mode may change -/

/-- The registers that the effects of a mode may change, but for the pair's role in SYS.MODE_EFF. -/
abbrev modeNames : List RegName := groupNames ++ [.FAB_CAP_STATUS, .DDS_STATUS, .TIME_STATE, .TIME_EVENTS, .SCHED_STATUS, .DAC_CFG, .PAIR_STATUS]

/-- The parts of the state that the effects of a mode may change. -/
abbrev modeParts : List Part := groupParts ++ [.dma, .fab, .tim, .pair]

namespace Within

theorem barriers : Within [] [] [.dma] .barriers := .look fun _ => .when (.each fun _ => .look fun _ => .when .setDma)

theorem captureParked : Within [.FAB_CAP_STATUS] [] [.fab] .captureParked := .look fun _ => .when (.all ⟨.setF, .setB, .setF, .setFab⟩)

theorem cvPark : Within workNames [] workParts (.cvPark g n) := by
  refine .look fun s => .when ?_
  cases (s.cv g n).run
  case visit => exact .setCv
  case inj => exact .setCv
  case hold => exact cvStop
  all_goals exact .skip

theorem cvReduce : Within modeNames [] modeParts (.cvReduce g n) :=
  .look fun _ => .when (.all ⟨account.mono, .setCv, cvTakeNow.mono, factoryNow.mono, .setCv, .when reducedStart.mono⟩)

theorem resumeWith {next : ConvNext} : Within workNames [] workParts (.resumeWith g n next) :=
  .look fun _ => .ite follow (.ite (.all ⟨.setR, .setB, follow⟩) (.all ⟨.setF, follow⟩))

theorem cvUnpark : Within workNames [] workParts (.cvUnpark g n) :=
  .look fun _ => .andThen .setCv (.when (.ite (.all ⟨cvTake.mono, resumeWith⟩) follow))

theorem cvUnreduce : Within workNames [] workParts (.cvUnreduce g n) :=
  .look fun _ => .when (.all ⟨.setCv, seqReset.mono, .setF, .ite .skip (.ite cvRun.mono (.all ⟨cvRun.mono, spareMove⟩))⟩)

theorem ddsPark {on : Bool} : Within [.DDS_STATUS] [] [] (.ddsPark g on) := .each fun _ => .look fun _ => .setB

theorem timeState : Within [.TIME_STATE, .TIME_EVENTS] [] [] (.timeState x) := .look fun _ => .all ⟨.setF, .when .setB, .when .setB⟩

theorem discipline {on : Bool} : Within [.TIME_STATE, .TIME_EVENTS] [] [.tim] (.discipline on) :=
  .ite (.all ⟨timeState.mono, .setTim⟩) timeState.mono

theorem timeArm : Within [] [] judgeParts (.timeArm x) := .look fun _ => .when armJudge

theorem timeJudge {m j : Int} : Within [] [] judgeParts (.timeJudge x m j) := .look fun _ => .when (.all ⟨ctxHit, ctxAhead.mono⟩)

theorem endTrackerHold {k : Fin 4} : Within phaseNames [] judgeParts (.endTrackerHold k) := by
  refine .look fun s => ?_
  split
  · exact .when (.all ⟨.setSched, .ite (.all ⟨setExtreme.mono, .setB, .setB, .each fun _ => armJudge.mono⟩) (.all ⟨schedMove, judgeFresh.mono⟩)⟩)
  · exact .skip

theorem holdModes : Within (.SCHED_STATUS :: phaseNames) [] judgeParts .holdModes :=
  .look fun _ => .all ⟨.when (.each fun _ => judgePhase.mono), .when .setB, .when .setB⟩

theorem holdsEnd : Within (.SCHED_STATUS :: phaseNames) [] judgeParts .holdsEnd :=
  .look fun _ => .when (.all ⟨.when (.all ⟨.setB, .each fun _ => .look fun _ => .ite timeArm.mono timeJudge.mono⟩), .when .setB,
    .when (.each fun _ => .look fun _ => .when (.all ⟨schedMove.mono, judgeFresh.mono⟩)), .each fun _ => endTrackerHold.mono⟩)

theorem outsPark : Within [.DAC_STATUS] [] [.outs] (.outsPark g) :=
  .each fun _ => .look fun _ => .when (.all ⟨.setOut, .setB, outUpdate_byName⟩)

theorem outsReduced : Within [.DAC_STATUS] [] [.outs] (.outsReduced g) :=
  .each fun _ => .look fun _ => .when (.all ⟨.setB, .setOut, outUpdate_byName⟩)

theorem outsUnpark : Within [.DAC_STATUS] [] [.outs] (.outsUnpark g) :=
  .each fun _ => .look fun _ => .when (.all ⟨.setB, .when .setB, .when .setB, .setOut, outUpdate_byName⟩)

theorem pairField : Within [.DAC_STATUS, .PIN_DRIVEN, .PIN_FIELD, .PIN_LEVEL] [] [.outs, .seed] .pairField :=
  .each fun _ => .all ⟨.each fun _ => outUpdate_byName.mono, pinsRefresh.mono⟩

theorem trkModes : Within trackNames [] trackParts .trkModes := .each fun _ => .look fun _ => .when trkLose

theorem calFail {cause : Nat} : Within workNames [] workParts (.calFail g cause) := by
  refine .look fun s => .when (.all ⟨.when carry, .setF, calFree, coreStandBack.mono, ?_⟩)
  cases s.spare[g].promote with
  | some m => exact promoteDecide
  | none => exact promoteLowest

theorem parkedEnters : Within modeNames [] modeParts .parkedEnters :=
  .all ⟨holdModes.mono, pinRows.mono, .each fun _ => outsPark.mono, .each fun _ => ddsPark.mono, .each fun _ => .each fun _ => cvPark.mono,
    captureParked.mono, trkModes.mono⟩

theorem parkedLeaves : Within modeNames [] modeParts .parkedLeaves :=
  .all ⟨.each fun _ => .each fun _ => cvUnpark.mono, holdsEnd.mono, pinRows.mono, .each fun _ => outsUnpark.mono, .each fun _ => ddsPark.mono⟩

theorem reducedEnters : Within modeNames [] modeParts .reducedEnters :=
  .all ⟨trkModes.mono, .each fun _ => calFail.mono, .each fun _ => .each fun _ => cvReduce, .each fun _ => outsReduced.mono,
    .each fun _ => cmpsFollow.mono, barriers.mono⟩

theorem reducedLeaves : Within modeNames [] modeParts .reducedLeaves :=
  .all ⟨.each fun _ => .each fun _ => cvUnreduce.mono, .each fun _ => cmpsFollow.mono⟩

theorem pairYield : Within [.PAIR_STATUS] [] [] .pairYield := .look fun _ => .when .setB

end Within

/-! ### What the evaluation leaves in SYS.MODE_EFF -/

/-- What the effects of a mode leave alone beside their registers and parts: the set in force and its suspensions. -/
structure ModeKept (s t : State) : Prop where
  touches : Touches (.SYS_MODE_EFF :: modeNames) [] modeParts s t
  eff : t.f F.SYS_MODE_EFF_EFF = s.f F.SYS_MODE_EFF_EFF
  susp : t.f F.SYS_MODE_EFF_SUSP = s.f F.SYS_MODE_EFF_SUSP

theorem ModeKept.frame : Frame ModeKept :=
  ⟨fun _ => ⟨.refl _, rfl, rfl⟩, fun h1 h2 => ⟨h1.touches.trans h2.touches, h2.eff.trans h1.eff, h2.susp.trans h1.susp⟩⟩

theorem Within.modeKept {l : List RegName} {ps : List Part} {a : Act} (h : Within l [] ps a) (hl : l ⊆ modeNames := by decide)
    (hp : ps ⊆ modeParts := by decide) : a.Keeps ModeKept := fun s => by
  have heff : RegName.SYS_MODE_EFF ∉ l := fun hin => absurd (hl hin) (by decide)
  exact ⟨(h s).mono (List.subset_cons_of_subset _ hl) (List.Subset.refl _) hp, (h s).f_eq _ _ _ heff, (h s).f_eq _ _ _ heff⟩

namespace ModeKept

theorem pairRole : (Act.pairRole x).Keeps ModeKept := by
  have hset : (Act.setF F.SYS_MODE_EFF_PAIR_ROLE x).Keeps ModeKept := fun s =>
    have hin : Within (.SYS_MODE_EFF :: modeNames) [] modeParts (.setF F.SYS_MODE_EFF_PAIR_ROLE x) := .setF
    ⟨hin s, Act.setF_f_spared _ _ _ _ _ _ _ s (by decide) (by decide), Act.setF_f_spared _ _ _ _ _ _ _ s (by decide) (by decide)⟩
  have hrole : Within [.PAIR_STATUS] [] [] (.setF F.PAIR_STATUS_ROLE x) := .setF
  exact Act.keeps_look fun _ => Act.keeps_when frame (Act.keeps_all frame ⟨hset, hrole.modeKept, Within.pairField.modeKept⟩)

theorem pairEnter : Act.pairEnter.Keeps ModeKept := by
  have hset : ∀ f, Within [] [] [.pair] (.setPair f) := fun _ => .setPair
  have hflag : ∀ f b, f.name = .PAIR_STATUS → Within [.PAIR_STATUS] [] [] (.setB f b) := fun f b hf => .setB (by rw [hf]; decide)
  exact Act.keeps_look fun _ => Act.keeps_when frame (Act.keeps_all frame ⟨(hset _).modeKept, (hflag _ _ rfl).modeKept, (hflag _ _ rfl).modeKept,
    (hflag _ _ rfl).modeKept, pairRole⟩)

theorem pairLeave : Act.pairLeave.Keeps ModeKept := by
  have hset : ∀ f, Within [] [] [.pair] (.setPair f) := fun _ => .setPair
  have hflag : ∀ f b, f.name = .PAIR_STATUS → Within [.PAIR_STATUS] [] [] (.setB f b) := fun f b hf => .setB (by rw [hf]; decide)
  have hopen : Within [.DAC_CFG] [] [.outs] (.each (List.finRange 4) fun g => .each (List.finRange 8) fun o => .all [
      .setB F.DAC_CFG_GATE_OPEN true g o, .setOut g o fun x => { x with cfg := F.DAC_CFG_GATE_OPEN.put x.cfg 1 }]) :=
    .each fun _ => .each fun _ => .all ⟨.setB, .setOut⟩
  exact Act.keeps_look fun _ => Act.keeps_all frame ⟨Act.keeps_when frame hopen.modeKept, (hset _).modeKept, (hflag _ _ rfl).modeKept,
    (hflag _ _ rfl).modeKept, (hflag _ _ rfl).modeKept, (hflag _ _ rfl).modeKept, pairRole, Within.pairField.modeKept⟩

theorem pairStandby : Act.pairStandby.Keeps ModeKept :=
  have hrole : ∀ m, (Act.pairRole m).Keeps ModeKept := fun _ => pairRole
  Act.keeps_look fun _ => hrole _

theorem modeEffects {on off : Nat} : (Act.modeEffects on off).Keeps ModeKept := by
  have hdiscipline : ∀ b, (Act.discipline b).Keeps ModeKept := fun _ => Within.discipline.modeKept
  have hlowest : (Act.groups .promoteLowest).Keeps ModeKept := Act.keeps_each frame _ fun _ => Within.promoteLowest.modeKept
  exact Act.keeps_all frame ⟨Act.keeps_when frame Within.reducedLeaves.modeKept, Act.keeps_when frame Within.parkedLeaves.modeKept,
    Act.keeps_when frame Within.parkedEnters.modeKept, Act.keeps_when frame Within.reducedEnters.modeKept, Act.keeps_when frame (hdiscipline _),
    Act.keeps_when frame (hdiscipline _), Act.keeps_when frame Within.holdsEnd.modeKept, Act.keeps_when frame Within.holdModes.modeKept,
    Act.keeps_when frame hlowest, Act.keeps_when frame pairEnter, Act.keeps_when frame pairLeave,
    Act.keeps_look fun _ => Act.keeps_when frame pairStandby⟩

end ModeKept

/-! ### The evaluation (R44 to R48) -/

/-- R47: SYS.MODE_EFF after the evaluation in `s`. -/
def Act.modesShown (s : State) : Act := .all [
  .setF F.SYS_MODE_EFF_EFF s.modeEff, .setF F.SYS_MODE_EFF_SUSP s.modeSusp, .setB F.SYS_MODE_EFF_REDUCED_FORCED s.forced]

/-- R48: the record of a change. -/
def Act.modesRecord (s : State) (now : Nat) : Act := .all [
  .setF F.SYS_MODE_CHG_CHG (s.f F.SYS_MODE_CHG_CHG ||| (now ^^^ s.inForce)), .count F.SYS_MODE_CHG_COUNT,
  .setR .SYS_MODE_STAMP_LO (BitVec.ofNat 32 s.ns), .setR .SYS_MODE_STAMP_HI (BitVec.ofNat 32 (s.ns / 2 ^ 32))]

/-- R252, R442: what follows every evaluation. -/
def Act.modesLater (s : State) (now : Nat) : Act := .all [
  .when (s.released && !now.testBit phaseRun && !s.b F.SCHED_STATUS_HOLD_PHASE) .holdModes, .when (s.modeEff &&& 0x88 != 0) .pairYield, .barriers]

/-- R47: the set in force after the evaluation. -/
def State.modesNow (s : State) : Nat := s.modeEff &&& (255 - s.modeSusp)

/-- R48: what a change of the set in force does. -/
def Act.modesChange (s : State) : Act := .all [
  .setF F.SYS_MODE_CHG_CHG (s.f F.SYS_MODE_CHG_CHG ||| (s.modesNow ^^^ s.inForce)), .count F.SYS_MODE_CHG_COUNT,
  .setR .SYS_MODE_STAMP_LO (BitVec.ofNat 32 s.ns), .setR .SYS_MODE_STAMP_HI (BitVec.ofNat 32 (s.ns / 2 ^ 32)),
  .modeEffects (s.modesNow &&& (255 - s.inForce)) (s.inForce &&& (255 - s.modesNow))]

theorem Act.modesChange_run (u : State) : (Act.modesChange s).run u =
    (Act.modeEffects (s.modesNow &&& (255 - s.inForce)) (s.inForce &&& (255 - s.modesNow))).run ((Act.modesRecord s s.modesNow).run u) := by
  simp only [Act.modesChange, Act.modesRecord, Act.all_cons_run, Act.all_nil_run]

theorem Act.modes_run (hup : s.up = true) : Act.modes.run s =
    (Act.modesLater s s.modesNow).run ((Act.when (s.modesNow != s.inForce) (.modesChange s)).run ((Act.modesShown s).run s)) := by
  simp only [Act.modes, Act.look_run, hup, Act.when_true_run, Act.modesLater, Act.modesChange, Act.modesShown, State.modesNow,
    Act.all_cons_run, Act.all_nil_run]

theorem ModeKept.later {now : Nat} : (Act.modesLater s now).Keeps ModeKept :=
  Act.keeps_all frame ⟨Act.keeps_when frame Within.holdModes.modeKept, Act.keeps_when frame Within.pairYield.modeKept, Within.barriers.modeKept⟩

theorem Within.modesShown : Within [.SYS_MODE_EFF] [] [] (.modesShown s) := .all ⟨.setF, .setF, .setB⟩

theorem Within.modesRecord {now : Nat} : Within [.SYS_MODE_CHG, .SYS_MODE_STAMP_LO, .SYS_MODE_STAMP_HI] [] [] (.modesRecord s now) :=
  .all ⟨.setF, .count, .setR, .setR⟩

/-- The registers that an evaluation may change. -/
abbrev evaluatedNames : List RegName := [.SYS_MODE_EFF, .SYS_MODE_CHG, .SYS_MODE_STAMP_LO, .SYS_MODE_STAMP_HI] ++ modeNames

theorem ModeKept.byName {t : State} (h : ModeKept s t) : Touches evaluatedNames [] modeParts s t := h.touches.mono

theorem Act.modes_touches (s : State) : Touches evaluatedNames [] modeParts s (Act.modes.run s) := by
  have hchange : Touches evaluatedNames [] modeParts ((Act.modesShown s).run s)
      ((Act.when (s.modesNow != s.inForce) (.modesChange s)).run ((Act.modesShown s).run s)) := by
    rw [Act.when_run]
    split
    · rw [Act.modesChange_run]
      exact (Within.modesRecord _).mono.trans (ModeKept.modeEffects _).byName
    · exact .refl _
  cases hup : s.up
  · have hstill : Act.modes.run s = s := by
      rw [Act.modes, Act.look_run, hup]
      rfl
    rw [hstill]
    exact .refl _
  · rw [Act.modes_run hup]
    exact ((Within.modesShown s).mono.trans hchange).trans (ModeKept.later _).byName

theorem State.modeEff_lt (s : State) : s.modeEff < 256 := by
  have hrequest : s.f ⟨.SYS_MODE, 0, 8⟩ < 2 ^ 8 := Fld.of_lt _ _
  rw [State.modeEff]
  split
  · decide
  · split
    · exact Nat.or_lt_two_pow hrequest (by decide)
    · exact hrequest

theorem State.modeSusp_lt (s : State) : s.modeSusp < 256 := by
  have hand : ∀ (c : Bool) a b, b < 2 ^ 8 → (if c = true then a &&& b else 0) < 2 ^ 8 := fun c a b hb => by
    cases c
    · exact Nat.two_pow_pos 8
    · exact Nat.lt_of_le_of_lt Nat.and_le_right hb
  rw [State.modeSusp]
  refine Nat.or_lt_two_pow (n := 8) (Nat.or_lt_two_pow (n := 8) ?_ (hand _ _ _ (by decide))) (hand _ _ _ (by decide))
  split <;> decide

theorem Act.modesShown_shows (s : State) : ((Act.modesShown s).run s).f F.SYS_MODE_EFF_EFF = s.modeEff ∧
    ((Act.modesShown s).run s).f F.SYS_MODE_EFF_SUSP = s.modeSusp := by
  have heff : F.SYS_MODE_EFF_EFF.width = 8 := rfl
  have hsusp : F.SYS_MODE_EFF_SUSP.width = 8 := rfl
  rw [Act.modesShown, Act.all_cons_run, Act.all_cons_run, Act.all_cons_run, Act.all_nil_run]
  exact ⟨by simpa +decide [heff] using s.modeEff_lt, by simpa +decide [hsusp] using s.modeSusp_lt⟩

/-- What an evaluation leaves in SYS.MODE_EFF. -/
theorem Act.modes_shows (hup : s.up = true) : (Act.modes.run s).f F.SYS_MODE_EFF_EFF = s.modeEff ∧
    (Act.modes.run s).f F.SYS_MODE_EFF_SUSP = s.modeSusp := by
  obtain ⟨heff, hsusp⟩ := Act.modesShown_shows s
  have hchange : ∀ u, ((Act.when (s.modesNow != s.inForce) (.modesChange s)).run u).f F.SYS_MODE_EFF_EFF = u.f F.SYS_MODE_EFF_EFF ∧
      ((Act.when (s.modesNow != s.inForce) (.modesChange s)).run u).f F.SYS_MODE_EFF_SUSP = u.f F.SYS_MODE_EFF_SUSP := fun u => by
    rw [Act.when_run]
    split
    · rw [Act.modesChange_run]
      have heffects := ModeKept.modeEffects (on := s.modesNow &&& (255 - s.inForce)) (off := s.inForce &&& (255 - s.modesNow))
        ((Act.modesRecord s s.modesNow).run u)
      exact ⟨heffects.eff.trans ((Within.modesRecord u).f_eq _ _ _), heffects.susp.trans ((Within.modesRecord u).f_eq _ _ _)⟩
    · exact ⟨rfl, rfl⟩
  rw [Act.modes_run hup]
  have hlater := ModeKept.later (s := s) (now := s.modesNow) ((Act.when (s.modesNow != s.inForce) (.modesChange s)).run ((Act.modesShown s).run s))
  exact ⟨hlater.eff.trans ((hchange _).1.trans heff), hlater.susp.trans ((hchange _).2.trans hsusp)⟩

/-- Where the set in force stays, its record stays. -/
theorem Act.modes_unchanged (hup : s.up = true) (hsame : s.modesNow = s.inForce) : Touches (.SYS_MODE_EFF :: modeNames) [] modeParts s (Act.modes.run s) := by
  rw [Act.modes_run hup, hsame, bne_self_eq_false, Act.when_run]
  exact (Within.modesShown s).mono.trans (ModeKept.later _).touches

/-- R48: the record of a change. -/
theorem Act.modesRecord_records {now : Nat} (hnow : now < 256) (s u : State) (hu : u.r .SYS_MODE_CHG = s.r .SYS_MODE_CHG) :
    let t := (Act.modesRecord s now).run u
    t.f F.SYS_MODE_CHG_CHG = s.f F.SYS_MODE_CHG_CHG ||| (now ^^^ s.inForce) ∧ Counted F.SYS_MODE_CHG_COUNT s t ∧
    t.r .SYS_MODE_STAMP_LO = BitVec.ofNat 32 s.ns ∧ t.r .SYS_MODE_STAMP_HI = BitVec.ofNat 32 (s.ns / 2 ^ 32) := by
  have hwidth : F.SYS_MODE_CHG_CHG.width = 8 := rfl
  have hforce : s.inForce < 2 ^ 8 := Nat.lt_of_le_of_lt Nat.and_le_left (Fld.of_lt _ _)
  have hchg : s.f F.SYS_MODE_CHG_CHG ||| (now ^^^ s.inForce) < 2 ^ 8 := Nat.or_lt_two_pow (Fld.of_lt _ _) (Nat.xor_lt_two_pow hnow hforce)
  have hcount : u.f F.SYS_MODE_CHG_COUNT = s.f F.SYS_MODE_CHG_COUNT := congrArg F.SYS_MODE_CHG_COUNT.of hu
  have hstamps : ∀ w, Within [.SYS_MODE_STAMP_LO, .SYS_MODE_STAMP_HI] [] [] (.all [.setR .SYS_MODE_STAMP_LO (BitVec.ofNat 32 s.ns),
      .setR .SYS_MODE_STAMP_HI w]) := fun _ => .all ⟨.setR, .setR⟩
  have hleft : Leaves F.SYS_MODE_CHG_CHG (.count F.SYS_MODE_CHG_COUNT) := .count
  intro t
  have ht : t = (Act.all [.setR .SYS_MODE_STAMP_LO (BitVec.ofNat 32 s.ns), .setR .SYS_MODE_STAMP_HI (BitVec.ofNat 32 (s.ns / 2 ^ 32))]).run
      ((Act.count F.SYS_MODE_CHG_COUNT).run ((Act.setF F.SYS_MODE_CHG_CHG (s.f F.SYS_MODE_CHG_CHG ||| (now ^^^ s.inForce))).run u)) := by
    simp only [t, Act.modesRecord, Act.all_cons_run, Act.all_nil_run]
  rw [ht]
  refine ⟨?_, ?_, ?_, ?_⟩
  · rw [(hstamps _ _).f_eq _ _ _, hleft, Act.setF_f_same _ _ _ _ _ _ (by decide) (by decide)]
    exact Nat.mod_eq_of_lt hchg
  · rw [Counted, (hstamps _ _).f_eq _ _ _, ← hcount, Act.count_f_same _ _ _ _ (by decide) (by decide),
      Act.setF_f_spared _ _ _ _ _ _ _ _ (by decide) (by decide)]
  · rw [Act.all_cons_run, Act.all_cons_run, Act.all_nil_run, Act.setR_r_ne _ _ _ _ _ _ _ _ _ _ (by decide), Act.setR_r_stored _ _ (by decide)]
    exact BitVec.and_allOnes
  · rw [Act.all_cons_run, Act.all_cons_run, Act.all_nil_run, Act.setR_r_stored _ _ (by decide)]
    exact BitVec.and_allOnes

theorem State.modesNow_lt (s : State) : s.modesNow < 256 := Nat.lt_of_le_of_lt Nat.and_le_left s.modeEff_lt

theorem Act.modes_changed (hup : s.up = true) (hother : s.modesNow ≠ s.inForce) : let t := Act.modes.run s
    t.f F.SYS_MODE_CHG_CHG = s.f F.SYS_MODE_CHG_CHG ||| (s.modesNow ^^^ s.inForce) ∧ Counted F.SYS_MODE_CHG_COUNT s t ∧
    t.r .SYS_MODE_STAMP_LO = BitVec.ofNat 32 s.ns ∧ t.r .SYS_MODE_STAMP_HI = BitVec.ofNat 32 (s.ns / 2 ^ 32) := by
  obtain ⟨hchg, hcount, hlo, hhi⟩ := Act.modesRecord_records s.modesNow_lt s ((Act.modesShown s).run s) ((Within.modesShown s).r_eq _ _ _)
  intro t
  rw [show t = _ from Act.modes_run hup, bne_iff_ne.mpr hother, Act.when_true_run, Act.modesChange_run]
  generalize (Act.modesRecord s s.modesNow).run ((Act.modesShown s).run s) = u at hchg hcount hlo hhi ⊢
  have heffects := (ModeKept.frame.trans (ModeKept.modeEffects (on := s.modesNow &&& (255 - s.inForce)) (off := s.inForce &&& (255 - s.modesNow)) u)
    (ModeKept.later (s := s) (now := s.modesNow) _)).touches
  rw [Counted, heffects.f_eq _ _ _, heffects.f_eq _ _ _, heffects.r_eq _ _ _, heffects.r_eq _ _ _]
  exact ⟨hchg, hcount, hlo, hhi⟩

/-- Settles O30. -/
theorem modesInForce : Obligations.ModesInForce := by
  unfold Obligations.ModesInForce
  intro s hup t request now eff
  have heff : s.modeEff = eff := by
    simp only [eff, request, State.modeEff, State.forced, Bool.not_eq_true', bne_iff_ne, ne_eq]
    split
    · rfl
    · by_cases hforce : s.f F.SYS_MODE_EFF_FORCE_CAUSE = 0 <;> simp [hforce]
  obtain ⟨hshown, hsusp⟩ := Act.modes_shows hup
  have htouch := Act.modes_touches s
  refine ⟨hshown.trans heff, hsusp, htouch.r_eq _ _ _, congrArg PwrSt.released (htouch.parts .pwr (by decide)), htouch.parts .clk (by decide),
    htouch.parts .time (by decide), fun hsame => ?_, fun hother => Act.modes_changed hup hother⟩
  have hkept := Act.modes_unchanged hup hsame
  exact ⟨hkept.r_eq _ _ _, hkept.r_eq _ _ _, hkept.r_eq _ _ _⟩

/-! ### A request (R45, R46) -/

/-- R43 to R46: the request, ahead of its evaluation. -/
def Act.modeRequested (v : Word) : Act := .all [.store .SYS_MODE v, .upd fun s => { s with pwr := { s.pwr with modeWritten := true } }, .accept]

/-- Settles O29. -/
theorem modeRequest : Obligations.ModeRequest := by
  unfold Obligations.ModeRequest
  intro s src v hw
  have heffect : (Act.sysMode v).run s = Act.modes.run ((Act.modeRequested v).run s) := by
    simp only [Act.sysMode, Act.modeRequested, Act.all_cons_run, Act.all_nil_run]
  have hin : Within [] [⟨.SYS_MODE, 0, 0, 0⟩] [.pwr, .resp] (.modeRequested v) := .all ⟨.storeAt, .upd (fun _ => rfl) fun _ => rfl, .accept⟩
  have hresp : ((Act.sysMode v).run s).resp = .ok 0 := by
    rw [heffect, (Act.modes_touches _).parts .resp (by decide)]
    rfl
  refine ⟨(Act.modeRequested v).run s, ?_, rfl, ?_, (hin s).regsKept, (hin s).rest⟩
  · rw [← heffect, ← Act.writeTo_accepted hw hresp]
    rfl
  · have hstored : ((Act.modeRequested v).run s).f ⟨.SYS_MODE, 0, 8⟩ = Fld.of ⟨.SYS_MODE, 0, 8⟩ (RegName.applyWrite .SYS_MODE (s.r .SYS_MODE) v) :=
      Act.setR_f_at (f := ⟨.SYS_MODE, 0, 8⟩) (by decide) _ _ rfl (by decide)
    rw [hstored, Fld.of_applyWrite_stored (f := ⟨.SYS_MODE, 0, 8⟩) (by decide)]
    show (v.toNat >>> 0) % 256 = _
    rw [Nat.shiftRight_zero]

end Sys2Proof.Machine
end

section
-- One proof after another: elaborated side by side, the proofs of the whole text do not fit in the check's memory.
set_option Elab.async false
/-! The slots of the monitor converter (R306 to R309). -/

namespace Sys2Proof.Machine

variable {s : State} {g : Grp} {o : Out}

namespace Within

theorem runOver {cause : Nat} : Within workNames [] workParts (.runOver g cause) := by
  refine .look fun s => ?_
  split
  · exact .skip
  · exact .all ⟨calFree, .when (.all ⟨.when .setCv, .when cvEnable⟩), calRangeCheck, promoteLowest⟩

theorem runFinish {cause : Nat} : Within workNames [] workParts (.runFinish g cause) := by
  refine .look fun s => ?_
  split
  · exact .skip
  · exact .ite .skip (.ite (.all ⟨calFree, promoteLowest⟩) (.ite (.all ⟨.setCal, .setF, .setSpare⟩)
      (.ite (.all ⟨.setCal, .setF, coreStandBack.mono⟩) runOver)))

theorem rbFault {expected value : Int} : Within [.DAC_STATUS, .FAULT_STATUS, .FAULT_EVENTS] [] [.log, .seed, .mon, .outs] (.rbFault g o expected value) :=
  .all ⟨.setB, .setF, .count, .log, .setMon, outFault_byName.mono⟩

theorem readback {value : Int} : Within [.DAC_STATUS, .FAULT_STATUS, .FAULT_EVENTS] [] [.log, .seed, .mon, .outs] (.readback g o value) :=
  .look fun _ => .andThen .setB (.when (.all ⟨.setB, .setF, .when rbFault⟩))

theorem refLost : Within [.REF_CFG, .REF_STATUS] [] [.refs] (.refLost g) :=
  .look fun _ => .when (.all ⟨refSettled_byName, .setB, .count, .setRef⟩)

theorem refReading {value : Int} {taken : Nat} : Within [.REF_CFG, .REF_STATUS] [] [.refs] (.refReading g value taken) :=
  .look fun _ => .all ⟨.setF, .setB, .when (.ite (.when refLost) (.all ⟨.setRef, .when (.all ⟨.setRef, refSettled_byName⟩)⟩))⟩

theorem coreCheck {value : Int} : Within [.DAC_STATUS, .DAC_SPARE, .FAULT_STATUS, .FAULT_CORE] [] [.mon, .flash] (.coreCheck g value) := by
  refine .look fun s => ?_
  split
  · exact .skip
  · exact .when (.all ⟨.setMon, .setF, .when (.all ⟨.setB, .setBit, .updPart .flash (fun _ => rfl) (fun _ => rfl) (by decide)⟩),
      .when (.all ⟨.setF, .setF, .setB, .look fun _ => .setMon⟩)⟩)

theorem coreReading {value : Int} : Within groupNames [] groupParts (.coreReading g value) := by
  refine .look fun s => .andThen coreCheck.mono (.look fun t => ?_)
  split
  · exact .ite (.all ⟨runFinish.mono, .setSpare⟩) (.all ⟨calFree.mono, promoteLowest.mono⟩)
  · exact .skip

end Within

/-! ### The slot's reading -/

/-- R306 to R309: what the reading of a slot is for. -/
def Act.slotUse (g : Grp) (slot : Nat) (value : Int) (vref : Int) (taken : Nat) : Act :=
  if h : slot < 8 then .readback g ⟨slot, h⟩ value
  else if slot = 8 then .refReading g vref taken
  else if slot = 9 then .setCal g fun c => { c with temp := dieTemperature value }
  else if slot = 13 then .coreReading g value
  else .skip

theorem Within.slotUse {slot : Nat} {value vref : Int} {taken : Nat} : Within groupNames [] groupParts (.slotUse g slot value vref taken) := by
  rw [Act.slotUse]
  split
  · exact Within.readback.mono
  · split
    · exact Within.refReading.mono
    · split
      · exact .setCal
      · split
        · exact Within.coreReading
        · exact .skip

/-- R306: the next slot is named, and the cycle counted after the last. -/
def Act.slotCount (g : Grp) (slot cycles : Nat) : Act :=
  .all [.setF F.MON_STATUS_SLOT (slot + 1) g, .when (slot == 15) (.setF F.MON_STATUS_CYCLES (cycles + 1) g)]

theorem Act.monitorSlot_run (hdue : s.slotDue g = true) : (Act.monitorSlot g).run s =
    (Act.slotBegins g).run ((Act.slotCount g (s.f F.MON_STATUS_SLOT g) (s.f F.MON_STATUS_CYCLES g)).run
      ((Act.slotUse g (s.f F.MON_STATUS_SLOT g) (s.slotValue g) (refMicrovolts (s.f F.REF_CFG_SEL g) (s.slotValue g)) (s.slotWindow g)).run
      ((Act.monRead g (s.f F.MON_STATUS_SLOT g) s.mon[g].node (s.slotValue g) (s.slotOverload g).isSome).run s))) := by
  simp only [Act.monitorSlot, Act.look_run, hdue, Act.when_true_run, Act.slotCount, Act.slotUse, Act.all_cons_run, Act.all_nil_run]

theorem Within.monRead {slot node : Nat} {x : Int} {ovr : Bool} : Within [.MON_READ] [] [] (.monRead g slot node x ovr) := .all ⟨.setF, .setB, .setF⟩

theorem unsigned_lt (w : Nat) (x : Int) : unsigned w x < 2 ^ w := by
  have hpos : (0 : Int) < 2 ^ w := by positivity
  have hlt := Int.emod_lt_of_pos x hpos
  have hnonneg := Int.emod_nonneg x hpos.ne'
  rw [unsigned]
  zify
  rw [Int.toNat_of_nonneg hnonneg]
  exact hlt

theorem Act.monRead_shows {slot node : Nat} {x : Int} {ovr : Bool} (hslot : slot < 16) (s : State) : let t := (Act.monRead g slot node x ovr).run s
    t.f F.MON_READ_SAMPLE g slot = unsigned 24 x ∧ t.b F.MON_READ_OVR g slot = ovr ∧ t.f F.MON_READ_NODE g slot = node % 2 ^ F.MON_READ_NODE.width := by
  have hvalid : RegRef.valid ⟨.MON_READ, g, slot, 0⟩ = true := RegRef.valid_of g.isLt hslot
  have hname : F.MON_READ_SAMPLE.name = .MON_READ := rfl
  have hsample := unsigned_lt 24 x
  intro t
  have ht : t = (Act.setF F.MON_READ_NODE node g slot).run ((Act.setB F.MON_READ_OVR ovr g slot).run ((Act.setF F.MON_READ_SAMPLE (unsigned 24 x) g slot).run s)) := by
    simp only [t, Act.monRead, Act.all_cons_run, Act.all_nil_run]
  rw [ht]
  refine ⟨?_, ?_, ?_⟩
  · rw [Act.setF_f_spared _ _ _ _ _ _ _ _ (by decide) (by decide), Act.setB_eq, Act.setF_f_spared _ _ _ _ _ _ _ _ (by decide) (by decide),
      Act.setF_f_same _ _ _ _ _ _ hvalid (by decide)]
    exact Nat.mod_eq_of_lt hsample
  · rw [State.b, Act.setF_f_spared _ _ _ _ _ _ _ _ (by decide) (by decide)]
    exact Act.setB_b_same F.MON_READ_OVR ovr _ _ _ _ hvalid (by decide) rfl
  · exact Act.setF_f_same _ _ _ _ _ _ hvalid (by decide)

theorem Act.slotCount_counts {slot : Nat} (s : State) : let t := (Act.slotCount g slot (s.f F.MON_STATUS_CYCLES g)).run s
    t.f F.MON_STATUS_SLOT g = (slot + 1) % 16 ∧
    t.f F.MON_STATUS_CYCLES g = (s.f F.MON_STATUS_CYCLES g + (if slot = 15 then 1 else 0)) % 65536 := by
  have hvalid : RegRef.valid ⟨.MON_STATUS, g, 0, 0⟩ = true := RegRef.valid_of g.isLt
  have hcycles : s.f F.MON_STATUS_CYCLES g < 65536 := Fld.of_lt _ _
  have hleft : Leaves F.MON_STATUS_SLOT (.when (slot == 15) (.setF F.MON_STATUS_CYCLES (s.f F.MON_STATUS_CYCLES g + 1) g)) := .when .setF
  intro t
  have ht : t = (Act.when (slot == 15) (.setF F.MON_STATUS_CYCLES (s.f F.MON_STATUS_CYCLES g + 1) g)).run ((Act.setF F.MON_STATUS_SLOT (slot + 1) g).run s) := by
    simp only [t, Act.slotCount, Act.all_cons_run, Act.all_nil_run]
  rw [ht]
  refine ⟨(hleft _ _ _ _).trans (Act.setF_f_same _ _ _ _ _ _ hvalid (by decide)), ?_⟩
  rw [Act.when_run]
  by_cases hlast : slot = 15
  · rw [if_pos (beq_iff_eq.mpr hlast), if_pos hlast]
    exact Act.setF_f_same _ _ _ _ _ _ hvalid (by decide)
  · rw [if_neg (by simpa using hlast), if_neg hlast, Act.setF_f_spared _ _ _ _ _ _ _ _ (by decide) (by decide)]
    exact (Nat.mod_eq_of_lt hcycles).symm

theorem State.slotNode_slotBegins (s : State) : ((Act.slotBegins g).run s).slotNode g = s.slotNode g := by
  simp only [State.slotNode, Act.slotBegins, Act.look_run, Act.setMon_f, Act.setMon_same]

/-- Settles O31. -/
theorem monitorConverter : Obligations.MonitorConverter := by
  unfold Obligations.MonitorConverter
  intro s g hdue
  have hslot : s.f F.MON_STATUS_SLOT g < 16 := Fld.of_lt _ _
  obtain ⟨hsample, hovr, hnode⟩ := Act.monRead_shows (g := g) (node := s.mon[g].node) (x := s.slotValue g) (ovr := (s.slotOverload g).isSome) hslot s
  have hread := Within.monRead (g := g) (slot := s.f F.MON_STATUS_SLOT g) (node := s.mon[g].node) (x := s.slotValue g) (ovr := (s.slotOverload g).isSome) s
  refine ⟨(Act.monitorSlot g).run s, rfl, ?_⟩
  rw [Act.monitorSlot_run hdue]
  generalize (Act.monRead g (s.f F.MON_STATUS_SLOT g) s.mon[g].node (s.slotValue g) (s.slotOverload g).isSome).run s = t at hsample hovr hnode hread ⊢
  have huse := Within.slotUse (g := g) (slot := s.f F.MON_STATUS_SLOT g) (value := s.slotValue g)
    (vref := refMicrovolts (s.f F.REF_CFG_SEL g) (s.slotValue g)) (taken := s.slotWindow g) t
  have htemp : s.f F.MON_STATUS_SLOT g = 9 → ((Act.slotUse g (s.f F.MON_STATUS_SLOT g) (s.slotValue g)
      (refMicrovolts (s.f F.REF_CFG_SEL g) (s.slotValue g)) (s.slotWindow g)).run t).cal[g].temp = dieTemperature (s.slotValue g) := fun h => by
    rw [h, Act.slotUse]
    simp
  generalize (Act.slotUse g (s.f F.MON_STATUS_SLOT g) (s.slotValue g) (refMicrovolts (s.f F.REF_CFG_SEL g) (s.slotValue g)) (s.slotWindow g)).run t = u
    at huse htemp ⊢
  have hcycles : s.f F.MON_STATUS_CYCLES g = u.f F.MON_STATUS_CYCLES g := ((huse.f_eq _ _ _).trans (hread.f_eq _ _ _)).symm
  have hcount : Within [.MON_STATUS] [] [] (.slotCount g (s.f F.MON_STATUS_SLOT g) (u.f F.MON_STATUS_CYCLES g)) := .all ⟨.setF, .when .setF⟩
  have hcounted := hcount u
  obtain ⟨hnext, hcycled⟩ := Act.slotCount_counts (g := g) (slot := s.f F.MON_STATUS_SLOT g) u
  intro slot
  rw [hcycles]
  generalize (Act.slotCount g (s.f F.MON_STATUS_SLOT g) (u.f F.MON_STATUS_CYCLES g)).run u = w at hcounted hnext hcycled ⊢
  have hbegins := Within.slotBegins (l := []) (g := g) w
  have hmon : ((Act.slotBegins g).run w).mon[g] = { w.mon[g] with slotStart := (w.clk + 15) / 16 * 16, node := w.slotNode g, dec := .clear } := by
    rw [Act.slotBegins, Act.look_run, Act.setMon_same]
  have hclk : w.clk = s.clk := (hcounted.parts .clk (by decide)).trans ((huse.parts .clk (by decide)).trans (hread.parts .clk (by decide)))
  refine ⟨?_, ?_, ?_, ?_, ?_, fun h => ?_, ?_, ?_, ?_⟩
  · rw [hbegins.f_eq _ _ _, hcounted.f_eq _ _ _, huse.f_eq _ _ _, hsample]
  · rw [hbegins.b_eq _ _ _, hcounted.b_eq _ _ _, huse.b_eq _ _ _, hovr]
  · rw [hbegins.f_eq _ _ _, hcounted.f_eq _ _ _, huse.f_eq _ _ _, hnode]
  · rw [hbegins.f_eq _ _ _, hnext]
  · rw [hbegins.f_eq _ _ _, hcycled]
  · rw [hbegins.parts .cal (by decide), hcounted.parts .cal (by decide), htemp h]
  · rw [hmon, hclk]
  · rw [hmon, State.slotNode_slotBegins]
  · rw [hmon]

end Sys2Proof.Machine
end

section
-- One proof after another: elaborated side by side, the proofs of the whole text do not fit in the check's memory.
set_option Elab.async false
/-! Paired modules: heartbeats, roles, take-over and mirrored writes (R437 to R442). -/

namespace Sys2Proof.Machine

variable {s t : State} {src : Src} {v : Word} {a : PairAnswer} {n : Nat}

/-! ### The role -/

/-- The registers that a change of the role may change. -/
abbrev roleNames : List RegName := [.SYS_MODE_EFF, .PAIR_STATUS, .DAC_STATUS, .PIN_DRIVEN, .PIN_FIELD, .PIN_LEVEL]

theorem Within.pairRole : Within roleNames [] [.outs, .seed] (.pairRole n) := .look fun _ => .when (.all ⟨.setF, .setF, pairField.mono⟩)

theorem Within.pairStandby : Within roleNames [] [.outs, .seed] .pairStandby := .look fun _ => .pairRole

/-- Every field of PAIR.STATUS but the role stays. -/
theorem Leaves.pairRole {f : Fld} (hf : f.name = .PAIR_STATUS := by rfl) (h : F.PAIR_STATUS_ROLE.spares f = true := by decide)
    (hm : f.inMask = true := by decide) : Leaves f (.pairRole n) := by
  have hmode : Leaves f (.setF F.SYS_MODE_EFF_PAIR_ROLE n) :=
    .of_within (l := [.SYS_MODE_EFF]) (ps := []) .setF (by rw [hf]; decide)
  exact .look fun _ => .when (.all ⟨hmode, .setF h hm, .of_within Within.pairField (by rw [hf]; decide)⟩)

theorem Leaves.pairStandby {f : Fld} (hf : f.name = .PAIR_STATUS := by rfl) (h : F.PAIR_STATUS_ROLE.spares f = true := by decide)
    (hm : f.inMask = true := by decide) : Leaves f .pairStandby :=
  have hrole : ∀ m, Leaves f (.pairRole m) := fun _ => Leaves.pairRole hf h hm
  .look fun _ => hrole _

theorem Act.pairRole_role (hn : n < 4) (s : State) : ((Act.pairRole n).run s).pairRole = n := by
  have hstatus : Within [.PAIR_STATUS, .DAC_STATUS, .PIN_DRIVEN, .PIN_FIELD, .PIN_LEVEL] [] [.outs, .seed]
      (.all [.setF F.PAIR_STATUS_ROLE n, .pairField]) := .all ⟨.setF, Within.pairField.mono⟩
  rw [Act.pairRole, Act.look_run, Act.when_run]
  by_cases h : n = s.pairRole
  · rw [if_neg (by simpa using h)]
    exact h.symm
  · rw [if_pos (by simpa using h), Act.all_cons_run, State.pairRole, (hstatus _).f_eq _ _ _, Act.setF_f_same _ _ _ _ _ _ (by decide) (by decide)]
    exact Nat.mod_eq_of_lt hn

theorem Act.pairStandby_role (s : State) : (Act.pairStandby.run s).pairRole = 2 ∨ (Act.pairStandby.run s).pairRole = 3 := by
  rw [Act.pairStandby, Act.look_run]
  split
  · exact .inl (Act.pairRole_role (by decide) s)
  · exact .inr (Act.pairRole_role (by decide) s)

theorem Touches.pairRole {l : List RegName} {ps : List Part} (h : Touches l [] ps s t) (hl : .SYS_MODE_EFF ∉ l := by decide) :
    t.pairRole = s.pairRole := h.f_eq _ _ _ hl

/-! ### Heartbeats (R438) -/

theorem Within.heartbeatSend : Within [.COLYS_COUNTS] [] [.ring, .tx] .heartbeatSend := .look fun _ => Within.request

theorem heartbeat_silent (hpairing : s.pairing = true) : AnswersThenModes (.pairHeartbeat none) s fun u =>
    u.b F.PAIR_STATUS_PARTNER_SEEN = false ∧ u.pairRole = s.pairRole := by
  have hrun : (Act.heartbeat none).run s = Act.heartbeatSend.run ((Act.setB F.PAIR_STATUS_PARTNER_SEEN false).run s) := by
    simp only [Act.heartbeat, Act.look_run, hpairing, Act.when_true_run, Act.all_cons_run, Act.all_nil_run]
  have hseen : Within [.PAIR_STATUS] [] [] (.setB F.PAIR_STATUS_PARTNER_SEEN false) := .setB
  refine ⟨(Act.heartbeat none).run s, rfl, ?_⟩
  rw [hrun]
  refine ⟨?_, (Within.heartbeatSend _).pairRole.trans (hseen s).pairRole⟩
  rw [(Within.heartbeatSend _).b_eq _ _ _]
  exact Act.setB_b_stored _ _ (by decide) (by decide) rfl

/-- R437: the partner's answer names another build or another policy. -/
def State.pairDiffers (s : State) (a : PairAnswer) : Bool := a.build != s.r .CFG_BUILD_ID || a.policy != s.r .STEP_POL_INFO

theorem Within.pairHear : Within [.PAIR_STATUS, .FAULT_EVENTS] [] [.pair] (.pairHear a) :=
  .look fun _ => .all ⟨.setB, .setPair, .when .setB, .setB, .when .setF⟩

/-- R437 to R439: what the partner's answer shows. -/
def Heard (differs : Bool) (t : State) : Prop := t.b F.PAIR_STATUS_PARTNER_SEEN = true ∧ t.b F.PAIR_STATUS_MISMATCH = differs

theorem Act.pairHear_heard (s : State) : Heard (s.pairDiffers a) ((Act.pairHear a).run s) := by
  have hsynced : ∀ c x, Leaves F.PAIR_STATUS_MISMATCH (.when c (.setF F.PAIR_STATUS_SYNCED x)) := fun _ _ => .when .setF
  rw [Act.pairHear, Act.look_run]
  refine ⟨?_, ?_⟩
  · rw [Act.all_cons_run]
    refine (Leaves.b (by exact .all ⟨.upd fun _ => rfl, .when .setB, .setB, .when .setF⟩) _ _ _ _).trans ?_
    exact Act.setB_b_stored _ _ (by decide) (by decide) rfl
  · rw [Act.all_cons_run, Act.all_cons_run, Act.all_cons_run, Act.all_cons_run, Act.all_cons_run, Act.all_nil_run, (hsynced _ _).b]
    exact Act.setB_b_stored _ _ (by decide) (by decide) rfl

theorem Heard.kept {differs : Bool} {b : Act} (hs : Heard differs s) (hseen : Leaves F.PAIR_STATUS_PARTNER_SEEN b)
    (hmismatch : Leaves F.PAIR_STATUS_MISMATCH b) : Heard differs (b.run s) := ⟨(hseen.b _ _ _ _).trans hs.1, (hmismatch.b _ _ _ _).trans hs.2⟩

/-- R439, R442: what a module does on its partner's answer. -/
def Act.heartbeatActs (role : Nat) : Act := .look fun t =>
  if t.pairRole = 1 then
    if t.b F.PAIR_STATUS_YIELD then .when (role == 1) (.all [
      .setB F.PAIR_STATUS_YIELD false, .pairStandby])
    else if t.pair.planned then .when (decide (2 ≤ role)) (.all [
      .setPair fun p => { p with currentHeld := false, planned := false }, .logPair 2 1 2, .pairField])
    else .when (role == 1 && decide (t.partner.toNat < t.ownNumber.toNat)) .pairStandby
  else .when (t.pair.heard && t.standby) .pairStandby

theorem Within.logPair {old new cause : Nat} : Within [.FAULT_STATUS, .FAULT_EVENTS] [] [.log, .seed] (.logPair old new cause) := .look fun _ => .log

theorem Leaves.heartbeatActs {f : Fld} {role : Nat} (hf : f.name = .PAIR_STATUS := by rfl) (h : F.PAIR_STATUS_ROLE.spares f = true := by decide)
    (hy : F.PAIR_STATUS_YIELD.spares f = true := by decide) (hm : f.inMask = true := by decide) : Leaves f (.heartbeatActs role) :=
  .look fun _ => .ite (.ite (.when (.all ⟨.setB hy hm, Leaves.pairStandby hf h hm⟩)) (.ite (.when (.all ⟨.upd fun _ => rfl,
    .of_within Within.logPair (by rw [hf]; decide), .of_within Within.pairField (by rw [hf]; decide)⟩)) (.when (Leaves.pairStandby hf h hm))))
    (.when (Leaves.pairStandby hf h hm))

theorem heartbeat_heard (hpairing : s.pairing = true) : AnswersThenModes (.pairHeartbeat (some a)) s (Heard (s.pairDiffers a)) := by
  have hrun : (Act.heartbeat (some a)).run s =
      Act.heartbeatSend.run ((Act.heartbeatActs (F.PAIR_STATUS_ROLE.of a.status)).run ((Act.pairHear a).run s)) := by
    simp only [Act.heartbeat, Act.heartbeatActs, Act.look_run, hpairing, Act.when_true_run, Act.all_cons_run, Act.all_nil_run]
  refine ⟨(Act.heartbeat (some a)).run s, rfl, ?_⟩
  rw [hrun]
  exact ((Act.pairHear_heard s).kept Leaves.heartbeatActs Leaves.heartbeatActs).kept (.of_within Within.heartbeatSend) (.of_within Within.heartbeatSend)

/-! ### The role is decided (R439) -/

section
variable (hpairing : s.pairing = true) (hstandby : s.standby = true)
include hpairing hstandby

theorem roleDecide_silent (hsilent : s.silentFor 1638400 = true) : AnswersThenModes (.pairRoleDecide none) s fun u =>
    u.pairRole = 1 ∧ u.pair.heard = true := by
  have hrun : (Act.roleDecide none).run s = (Act.pairRole 1).run ((Act.setPair fun p => { p with heard := true }).run s) := by
    simp only [Act.roleDecide, Act.look_run, hpairing, hstandby, hsilent, Bool.and_self, Act.when_true_run, Act.all_cons_run, Act.all_nil_run]
  refine ⟨(Act.roleDecide none).run s, rfl, ?_⟩
  rw [hrun]
  refine ⟨Act.pairRole_role (by decide) _, ?_⟩
  rw [(Within.pairRole _).parts .pair (by decide)]
  rfl

/-- R439: the first answer is heard. -/
def Act.firstHeard (a : PairAnswer) : Act := .all [.setPair fun p => { p with heard := true }, .pairHear a]

theorem roleDecide_run (hfirst : s.pair.heard = false) : (Act.roleDecide (some a)).run s =
    (if F.PAIR_STATUS_ROLE.of a.status != 1 && ((s.f F.PAIR_CFG_PREF == prefActive && F.PAIR_CFG_PREF.of a.cfg != prefActive) ||
        (s.f F.PAIR_CFG_PREF == F.PAIR_CFG_PREF.of a.cfg && decide (s.ownNumber.toNat < s.partner.toNat))) &&
        !(s.mode reducedMode && F.PAIR_STATUS_ROLE.of a.status == 2) then Act.pairRole 1 else .pairStandby).run ((Act.firstHeard a).run s) := by
  simp only [Act.roleDecide, Act.look_run, hpairing, hstandby, hfirst, Bool.and_self, Bool.not_false, Act.when_true_run, Act.all_cons_run,
    Act.all_nil_run, Act.firstHeard]

omit hpairing hstandby in
theorem Act.firstHeard_heard (s : State) : ((Act.firstHeard a).run s).pair.heard = true := by
  have hseen : ∀ u : State, ((Act.setB F.PAIR_STATUS_PARTNER_SEEN true).run u).pair = u.pair := fun _ => Act.setF_pair _ _ _ _ _ _
  have hrest : ∀ u : State, ((Act.pairHear a).run u).pair.heard = u.pair.heard := fun u => by
    have hlast : Within [.PAIR_STATUS, .FAULT_EVENTS] [] [] (.all [
        .when (u.pairDiffers a && !u.b F.PAIR_STATUS_MISMATCH) (.setB F.FAULT_EVENTS_PAIR_MISMATCH true),
        .setB F.PAIR_STATUS_MISMATCH (u.pairDiffers a),
        .when u.standby (.setF F.PAIR_STATUS_SYNCED (F.PAIR_STATUS_SYNCED.of a.status))]) := .all ⟨.when .setB, .setB, .when .setF⟩
    rw [Act.pairHear, Act.look_run, Act.all_cons_run, Act.all_cons_run]
    refine (congrArg PairSt.heard ((hlast _).parts .pair (by decide))).trans ?_
    change ((Act.setB F.PAIR_STATUS_PARTNER_SEEN true).run u).pair.heard = u.pair.heard
    rw [hseen]
  rw [Act.firstHeard, Act.all_cons_run, Act.all_cons_run, Act.all_nil_run, hrest]
  rfl

theorem roleDecide_active (hfirst : s.pair.heard = false) (hreduced : s.mode reducedMode = false) (hrole : F.PAIR_STATUS_ROLE.of a.status ≠ 1)
    (hpref : s.f F.PAIR_CFG_PREF = F.PAIR_CFG_PREF.of a.cfg) (hnumber : s.ownNumber.toNat < s.partner.toNat) :
    AnswersThenModes (.pairRoleDecide (some a)) s fun u => u.pairRole = 1 ∧ u.pair.heard = true := by
  have hcond : (F.PAIR_STATUS_ROLE.of a.status != 1 && ((s.f F.PAIR_CFG_PREF == prefActive && F.PAIR_CFG_PREF.of a.cfg != prefActive) ||
        (s.f F.PAIR_CFG_PREF == F.PAIR_CFG_PREF.of a.cfg && decide (s.ownNumber.toNat < s.partner.toNat))) &&
        !(s.mode reducedMode && F.PAIR_STATUS_ROLE.of a.status == 2)) = true := by
    simp [hrole, hpref, hnumber, hreduced]
  refine ⟨(Act.roleDecide (some a)).run s, rfl, ?_⟩
  rw [roleDecide_run hpairing hstandby hfirst, if_pos hcond]
  refine ⟨Act.pairRole_role (by decide) _, ?_⟩
  rw [(Within.pairRole _).parts .pair (by decide)]
  exact Act.firstHeard_heard s

theorem roleDecide_standby (hfirst : s.pair.heard = false) (hrole : F.PAIR_STATUS_ROLE.of a.status = 1) :
    AnswersThenModes (.pairRoleDecide (some a)) s fun u => u.pairRole = 2 ∨ u.pairRole = 3 := by
  refine ⟨(Act.roleDecide (some a)).run s, rfl, ?_⟩
  rw [roleDecide_run hpairing hstandby hfirst, if_neg (by simp [hrole])]
  exact Act.pairStandby_role _

end

/-! ### Take-overs (R441, R442) -/

section
variable (hpairing : s.pairing = true) (hready : s.pairRole = 2)
include hpairing hready

/-- R441: a module whose partner is lost. -/
def PairSt.alone (p : PairSt) : PairSt := { p with partner := 0, mirrorQ := [], behind := false }

/-- R441: what a take-over records. -/
def Act.takeoverRecord : Act := .all [.setB F.FAULT_EVENTS_TAKEOVER true, .setB F.FAULT_EVENTS_PARTNER_LOST true, .count F.PAIR_COUNTS_TAKEOVERS,
  .setB F.PAIR_STATUS_PARTNER_SEEN false, .setPair PairSt.alone]

omit hpairing hready in
theorem Act.takeoverRecord_records (s : State) : let u := Act.takeoverRecord.run s
    u.b F.FAULT_EVENTS_TAKEOVER = true ∧ u.b F.FAULT_EVENTS_PARTNER_LOST = true ∧ Counted F.PAIR_COUNTS_TAKEOVERS s u ∧
    u.b F.PAIR_STATUS_PARTNER_SEEN = false := by
  have hlost : Leaves F.FAULT_EVENTS_TAKEOVER (.all [.setB F.FAULT_EVENTS_PARTNER_LOST true, .count F.PAIR_COUNTS_TAKEOVERS,
      .setB F.PAIR_STATUS_PARTNER_SEEN false, .setPair PairSt.alone]) := .all ⟨.setB, .count, .setB, .upd fun _ => rfl⟩
  have hcount : Leaves F.FAULT_EVENTS_PARTNER_LOST (.all [.count F.PAIR_COUNTS_TAKEOVERS, .setB F.PAIR_STATUS_PARTNER_SEEN false,
      .setPair PairSt.alone]) := .all ⟨.count, .setB, .upd fun _ => rfl⟩
  have hseen : Leaves F.PAIR_COUNTS_TAKEOVERS (.all [.setB F.PAIR_STATUS_PARTNER_SEEN false, .setPair PairSt.alone]) :=
    .all ⟨.setB, .upd fun _ => rfl⟩
  have hevents : ((Act.setB F.FAULT_EVENTS_PARTNER_LOST true).run ((Act.setB F.FAULT_EVENTS_TAKEOVER true).run s)).f F.PAIR_COUNTS_TAKEOVERS =
      s.f F.PAIR_COUNTS_TAKEOVERS :=
    (Act.setF_f_kept _ 1 (by decide) (by decide)).trans (Act.setF_f_kept s 1 (by decide) (by decide))
  refine ⟨?_, ?_, ?_, ?_⟩
  · rw [Act.takeoverRecord, Act.all_cons_run, hlost.b]
    exact Act.setB_b_stored _ _ (by decide) (by decide) rfl
  · rw [Act.takeoverRecord, Act.all_cons_run, Act.all_cons_run, hcount.b]
    exact Act.setB_b_stored _ _ (by decide) (by decide) rfl
  · rw [Counted, Act.takeoverRecord, Act.all_cons_run, Act.all_cons_run, Act.all_cons_run, hseen, ← hevents]
    exact Act.count_f_same F.PAIR_COUNTS_TAKEOVERS 0 0 _ (by decide) (by decide)
  · rw [Act.takeoverRecord, Act.all_cons_run, Act.all_cons_run, Act.all_cons_run, Act.all_cons_run, Act.all_cons_run, Act.all_nil_run]
    exact Act.setB_b_stored _ _ (by decide) (by decide) rfl

theorem takeover_takes (hlost : s.partnerLost = true) : AnswersThenModes .takeover s fun u =>
    u.pairRole = 1 ∧ u.b F.FAULT_EVENTS_TAKEOVER = true ∧ u.b F.FAULT_EVENTS_PARTNER_LOST = true ∧
    Counted F.PAIR_COUNTS_TAKEOVERS s u ∧ u.b F.PAIR_STATUS_PARTNER_SEEN = false := by
  have hrun : Act.takeover.run s = (Act.logPair 2 1 1).run ((Act.pairRole 1).run (Act.takeoverRecord.run s)) := by
    simp only [Act.takeover, Act.look_run, hpairing, hready, hlost, beq_self_eq_true, Bool.and_self, Act.when_true_run, Act.all_cons_run, Act.all_nil_run,
      Act.takeoverRecord]
    rfl
  obtain ⟨htaken, hlostSet, hcounted, hunseen⟩ := Act.takeoverRecord_records s
  have hlog : ∀ f : Fld, f.outsideFailure = true → Leaves f (.logPair 2 1 1) := fun f hf => .look fun _ => .log_failure hf
  have hrole := fun u => Within.pairRole (n := 1) u
  refine ⟨Act.takeover.run s, rfl, ?_⟩
  rw [hrun]
  refine ⟨?_, ?_, ?_, ?_, ?_⟩
  · exact ((hlog _ (by decide)) _ _ _ _).trans (Act.pairRole_role (by decide) _)
  · rw [(hlog _ (by decide)).b, (hrole _).b_eq _ _ _, htaken]
  · rw [(hlog _ (by decide)).b, (hrole _).b_eq _ _ _, hlostSet]
  · rw [Counted, hlog _ (by decide), (hrole _).f_eq _ _ _]
    exact hcounted
  · have hseen : Leaves F.PAIR_STATUS_PARTNER_SEEN (.pairRole 1) := Leaves.pairRole
    rw [(hlog _ (by decide)).b, hseen.b, hunseen]

omit hpairing hready in
theorem takeover_waits (hheard : s.partnerLost = false) : AnswersThenModes .takeover s fun u => u = s := by
  refine ⟨Act.takeover.run s, rfl, ?_⟩
  rw [Act.takeover, Act.look_run, hheard, Bool.and_false]
  rfl

/-- R442: a standby that takes over while its partner yields. -/
def PairSt.taking (p : PairSt) : PairSt := { p with currentHeld := true, planned := true, mirrorQ := [], behind := false }

theorem yieldSeen_takes (hyields : s.pair.yields = true) : AnswersThenModes .pairYieldSeen s fun u =>
    u.pairRole = 1 ∧ u.pair.currentHeld = true ∧ Counted F.PAIR_COUNTS_TAKEOVERS s u := by
  have hrun : Act.yieldSeen.run s = (Act.pairRole 1).run ((Act.setPair PairSt.taking).run ((Act.count F.PAIR_COUNTS_TAKEOVERS).run s)) := by
    simp only [Act.yieldSeen, Act.look_run, hpairing, hready, hyields, beq_self_eq_true, Bool.and_self, Act.when_true_run, Act.all_cons_run, Act.all_nil_run]
    rfl
  refine ⟨Act.yieldSeen.run s, rfl, ?_⟩
  rw [hrun]
  refine ⟨Act.pairRole_role (by decide) _, ?_, ?_⟩
  · rw [(Within.pairRole _).parts .pair (by decide)]
    rfl
  · rw [Counted, (Within.pairRole _).f_eq _ _ _]
    exact Act.count_f_same F.PAIR_COUNTS_TAKEOVERS 0 0 s (by decide) (by decide)

end

/-! ### A planned take-over asked for, and mirrored writes (R438, R442) -/

section
variable (hpairing : s.pairing = true)
include hpairing

section
variable (hw : s.takesReg src .PAIR_CTRL) (hbit : v.getLsbD 0 = true)
include hw hbit

theorem pairSwap_yields (hactive : s.pairRole = 1) (hpartner : s.pair.partner = 2) : AnswersThenModes (.pairSwap src v) s fun u =>
    u.resp = .ok 0 ∧ u.b F.PAIR_STATUS_YIELD = true ∧ RegsKept [⟨.PAIR_STATUS, 0, 0, 0⟩] s u ∧ OnlyRegs s u := by
  have heffect : (Act.pairCtrl v).run s = (Act.all [.setB F.PAIR_STATUS_YIELD true, .accept]).run s := by
    simp only [Act.pairCtrl, Act.look_run, hbit, hpairing, hactive, hpartner, Bool.not_true, Bool.false_eq_true, if_false, beq_self_eq_true, Bool.and_self,
      if_true]
  have hrun := Act.writeTo_accepted (d := 0) hw (a := Act.pairCtrl v) (by rw [heffect]; rfl)
  have hin : Within [] [⟨.PAIR_STATUS, 0, 0, 0⟩] [.resp] (.all [.setB F.PAIR_STATUS_YIELD true, .accept]) := .all ⟨.setBAt, .accept⟩
  refine ⟨(Act.writeTo src .PAIR_CTRL 0 0 0 (Act.pairCtrl v)).run s, rfl, ?_⟩
  rw [hrun, heffect]
  refine ⟨rfl, ?_, (hin s).regsKept, (hin s).rest⟩
  rw [Act.all_cons_run, Act.all_cons_run, Act.all_nil_run, State.b, Act.accept_f]
  exact Act.setB_b_stored s true (by decide) (by decide) rfl

omit hpairing in
theorem pairSwap_refused (hnot : s.pairRole ≠ 1 ∨ s.pair.partner ≠ 2) : AnswersThenModes (.pairSwap src v) s fun u =>
    u.resp = .error ∧ Counted F.FAULT_REFUSED_COUNT s u ∧ NamesKept [.FAULT_REFUSED, .FAB_PORT_ERR] s u ∧ OnlyRegs s u := by
  have hcond : (s.pairing && s.pairRole == 1 && s.pair.partner == 2) = false := by
    rcases hnot with h | h
    · rw [beq_false_of_ne h, Bool.and_false, Bool.false_and]
    · rw [beq_false_of_ne h, Bool.and_false]
  exact ⟨_, rfl, Act.writeTo_refused hw (a := Act.pairCtrl v) (f := F.FAULT_REFUSED_COUNT)
    (by simp only [Act.pairCtrl, Act.look_run, hbit, hcond, Bool.not_true, Bool.false_eq_true, if_false, Act.faultRefuse]) (by decide)⟩

end

/-- R438: the oldest mirrored write is done, acknowledged or not. -/
def PairSt.mirrored (p : PairSt) (l : List (BitVec 24 × Word)) (acked : Bool) : PairSt := { p with mirrorQ := l, behind := p.behind || !acked }

theorem mirrorWrite_answers {off : BitVec 24} {acked : Bool} {l : List (BitVec 24 × Word)} (hqueue : s.pair.mirrorQ = (off, v) :: l)
    (hactive : s.pairRole = 1) : Answers (.pairMirrorWrite off v acked) s fun t =>
      t.pair.mirrorQ = l ∧ t.b F.PAIR_STATUS_SYNCED = (!s.pair.behind && acked) ∧ NamesKept [.PAIR_STATUS, .COLYS_COUNTS] s t := by
  have hrun : (Act.mirrorWrite off v acked).run s = (Act.all [.setPair fun p => p.mirrored l acked,
      .request s.partner .other (s.writeWords s.partner off.toNat v), .look fun t => .setB F.PAIR_STATUS_SYNCED (!t.pair.behind)]).run s := by
    simp only [Act.mirrorWrite, Act.look_run, hqueue, hpairing, hactive, beq_self_eq_true, Bool.and_self, Act.when_true_run, PairSt.mirrored]
  have hin : Within [.PAIR_STATUS, .COLYS_COUNTS] [] [.pair, .ring, .tx] (.all [.setPair fun p => p.mirrored l acked,
      .request s.partner .other (s.writeWords s.partner off.toNat v), .look fun t => .setB F.PAIR_STATUS_SYNCED (!t.pair.behind)]) :=
    .all ⟨.setPair, Within.request.mono, .look fun _ => .setB⟩
  refine ⟨(Act.mirrorWrite off v acked).run s, rfl, ?_⟩
  rw [hrun]
  refine ⟨?_, ?_, (hin s).namesKept⟩
  all_goals rw [Act.all_cons_run, Act.all_cons_run, Act.all_cons_run, Act.all_nil_run, Act.look_run]
  · exact congrArg PairSt.mirrorQ ((Act.setF_pair _ _ _ _ _ _).trans ((Within.request _).parts .pair (by decide)))
  · refine (Act.setB_b_stored _ _ (by decide) (by decide) rfl).trans ?_
    rw [(Within.request _).parts .pair (by decide)]
    change (!(s.pair.behind || !acked)) = _
    rw [Bool.not_or, Bool.not_not]

end

/-- Settles O32: the heartbeat, the role that the first answer decides, the take-over, the yield and the mirrored writes are one lemma each; a
change of the role writes the role and leaves every other field of FAULT.PAIR_STATUS (`Leaves.pairRole`). -/
theorem pairs : Obligations.Pairs := by
  intro s src a off v acked hpairing
  refine ⟨heartbeat_silent hpairing, heartbeat_heard hpairing, fun hstandby hsilent => roleDecide_silent hpairing hstandby hsilent,
    fun hstandby hfirst hreduced hrole hpref hnumber => roleDecide_active hpairing hstandby hfirst hreduced hrole hpref hnumber,
    fun hstandby hfirst hrole => roleDecide_standby hpairing hstandby hfirst hrole, fun hready => ⟨?_, ?_, ?_⟩, fun hw hbit => ⟨?_, ?_⟩,
    fun l hqueue hactive => mirrorWrite_answers hpairing hqueue hactive⟩
  · exact fun hlost => takeover_takes hpairing hready hlost
  · exact fun hheard => takeover_waits hheard
  · exact fun hyields => yieldSeen_takes hpairing hready hyields
  · exact fun hactive hpartner => pairSwap_yields hpairing hw hbit hactive hpartner
  · exact fun hnot => pairSwap_refused hw hbit hnot

end Sys2Proof.Machine
end

section
-- One proof after another: elaborated side by side, the proofs of the whole text do not fit in the check's memory.
set_option Elab.async false
/-! A step on an empty queue: one system clock (R20). -/

namespace Sys2Proof.Machine

variable {s t : State} {g : Grp} {k : Kmp} {c : Cell} {e : DdsE}

/-! ### The analogue side of a group turns (R146 to R158) -/

theorem Within.cmpRaw_byName : Within [.CMP_STATUS] [] [] (.cmpRaw g k) := Within.cmpRaw.byName (by simp)

theorem Within.cmpSample : Within levelNames [] [.cmps, .seed] (.cmpSample g k) :=
  .all ⟨Within.cmpRaw_byName.mono, .look fun _ => .all ⟨.setKmp, Within.cmpMajority.mono⟩⟩

theorem Within.cmpPreset {r : CmpRun} {x : CmpSet} : Within levelNames [] [.cmps, .seed] (.cmpPreset g k r x) :=
  .all ⟨.setKmp, Within.cmpLevel.mono, .look fun _ => .all ⟨.setKmp, .setB, .setB⟩, .setB, .setB, Within.cmpMajority.mono⟩

theorem Within.cmpFilter : Within levelNames [] [.cmps, .seed] (.cmpFilter g k) := .look fun s => .when <| .andThen .setKmp <| by
  split
  · split
    · exact Within.cmpPreset
    · exact Within.cmpOff
  · exact .when (.all ⟨Within.cmpThrTake.mono, Within.cmpSample⟩)

theorem Within.cmpsTurn : Within levelNames [] [.cmps, .seed] (.cmpsTurn g) :=
  .look fun _ => .when (.each fun _ => .all ⟨Within.cmpRaw_byName.mono, Within.cmpFilter⟩)

theorem Within.clipTurn : Within [.CELL_STATUS] [] [.cells] (.clipTurn g c) :=
  .look fun _ => .all ⟨.look fun _ => .when (.all ⟨.setB, .setB, .count⟩), .when (.look fun _ => .when .setB), .setCells⟩

/-- The registers that the analogue side of the groups and the DDS engines report in. -/
abbrev turnNames : List RegName := [.DDS_STATUS, .CMP_STATUS, .CMP_LEVELS, .CELL_STATUS, .PIN_DRIVEN, .PIN_FIELD, .PIN_LEVEL]

/-- The parts of the state that the analogue side of the groups and the DDS engines move. -/
abbrev turnParts : List Part := [.dds, .cells, .cmps, .seed]

theorem Within.analogTurn : Within turnNames [] turnParts (.analogTurn g) := .look fun _ => .when (.all
  ⟨.look fun _ => .setCells, .look fun _ => .setCells, Within.cmpsTurn.mono, .each fun _ => .look fun _ => .when Within.cellControl.mono,
    .look fun _ => .setCells, .look fun _ => .when .setCells, .each fun _ => Within.clipTurn.mono⟩)

theorem Within.ddsEdge : Within [.DDS_STATUS] [] [.dds] (.ddsEdge g e) :=
  .look fun _ => .when (.all ⟨.setDds, .look fun _ => .when .setB⟩)

/-- R302, R146: the DDS engines advance and the analogue side of the groups turns, after `n` edges of the conversion clock. -/
def Act.groupsTurn (n : Nat) : Act :=
  .all [.each (List.finRange 4) fun g => .each (List.finRange 4) fun e => .ddsAdvance g e n, .groups .analogTurn]

theorem Within.groupsTurn {n : Nat} : Within turnNames [] turnParts (.groupsTurn n) :=
  .all ⟨.each fun _ => .each fun _ => .each fun _ => Within.ddsEdge.mono, .each fun _ => Within.analogTurn⟩

/-! ### What waits for its edge -/

theorem Act.each_skip {α : Type} {f : α → Act} (hf : ∀ x, (f x).run s = s) : ∀ l : List α, (Act.each l f).run s = s
  | [] => Act.each_nil_run f s
  | x :: l => by rw [Act.each_cons_run, hf, Act.each_skip hf l]

theorem Act.limitsTurn_idle (h : s.lim.due = []) : Act.limitsTurn.run s = s := by
  rw [Act.limitsTurn, Act.look_run, h, Act.andThen_run, Act.each_nil_run]
  change { s with lim := { s.lim with due := [] } } = s
  rw [← h]

theorem Act.cvEdge_idle {n : Cv} (h : (s.cv g n).acts = []) : (Act.cvEdge g n).run s = s := by
  rw [Act.cvEdge, Act.look_run, h]
  rfl

theorem Act.moveEdge_idle (h : s.spare[g].move = .none) : (Act.moveEdge g).run s = s := by
  rw [Act.moveEdge, Act.look_run]
  dsimp only
  rw [h]
  rfl

/-- What waits for its last moment, in a state where nothing waits. -/
theorem Act.edges_idle (hdue : s.lim.due = []) (hacts : ∀ (g : Grp) (n : Cv), (s.cv g n).acts = [])
    (hmove : ∀ g : Grp, s.spare[g].move = .none) : (Act.all [.limitsTurn, .converters .cvEdge, .groups .moveEdge]).run s = s := by
  have hcv : (Act.converters .cvEdge).run s = s := by
    rw [Act.converters, Act.groups, Act.each_skip fun g => Act.each_skip (fun n => Act.cvEdge_idle (hacts g n)) _]
  rw [Act.all_cons_run, Act.limitsTurn_idle hdue, Act.all_cons_run, hcv, Act.all_cons_run, Act.all_nil_run]
  rw [Act.groups, Act.each_skip fun g => Act.moveEdge_idle (hmove g)]

/-! ### The tick -/

/-- What the supervisor does by itself in a system clock. -/
def Act.supervisorTurn : Act :=
  .all [.ptpTurn, .groups .modEdge, .trksPresent, .gathered, .fabricTurn, .autoLoad, .settleOnce, .modes]

theorem step_empty (h : s.pending = []) : step s = .next (Act.tick.run s) := by
  rw [step, h]
  rfl

theorem Act.tick_idle (h : s.pwr.life = .off ∨ s.pwr.life = .collapsed) : Act.tick.run s = s := by
  have hcond : (s.pwr.life != .off && s.pwr.life != .collapsed) = false := by
    rcases h with h | h <;> rw [h] <;> rfl
  rw [Act.tick, Act.look_run, hcond]
  rfl

/-- The state after the clock, the DDS engines and the analogue side of the groups have turned. -/
def State.turned (s : State) : State := (Act.groupsTurn (conversionEdges s.clk)).run s.clockTurn

theorem Act.tick_run (hoff : s.pwr.life ≠ .off) (hcollapsed : s.pwr.life ≠ .collapsed) (hdue : s.lim.due = [])
    (hacts : ∀ (g : Grp) (n : Cv), (s.cv g n).acts = []) (hmove : ∀ g : Grp, s.spare[g].move = .none) :
    Act.tick.run s = (Act.when s.up .supervisorTurn).run s.turned := by
  have hedges : (Act.when s.up (.all [.limitsTurn, .converters .cvEdge, .groups .moveEdge])).run s = s := by
    rw [Act.when_run, Act.edges_idle hdue hacts hmove, ite_self]
  rw [Act.tick, Act.look_run, bne_iff_ne.mpr hoff, bne_iff_ne.mpr hcollapsed, Bool.and_self, Act.when_true_run, Act.all_cons_run, hedges]
  simp only [Act.all_cons_run, Act.all_nil_run, Act.upd_run, State.turned, Act.groupsTurn, Act.supervisorTurn]

theorem State.turned_touches (s : State) : Touches turnNames [] turnParts s.clockTurn s.turned := Within.groupsTurn _

/-- Settles O38: where nothing waits for its edge, the actions before the clock change nothing (`Act.edges_idle`), and what follows the clock
up to the supervisor's turn stays within the registers it reports in (`State.turned_touches`). -/
theorem emptyQueueTicks : Obligations.EmptyQueueTicks := by
  refine fun s => ⟨fun hempty hidle => ?_, fun hempty hoff hcollapsed hdue hacts hmove => ⟨s.turned, ?_, ?_, fun hdown => ?_, fun hup => ?_⟩⟩
  · rw [step_empty hempty, Act.tick_idle hidle]
  · exact s.turned_touches.rest
  · exact s.turned_touches.namesKept
  · rw [step_empty hempty, Act.tick_run hoff hcollapsed hdue hacts hmove, hdown]
    rfl
  · rw [step_empty hempty, Act.tick_run hoff hcollapsed hdue hacts hmove, hup]
    rfl

end Sys2Proof.Machine
end

section
-- One proof after another: elaborated side by side, the proofs of the whole text do not fit in the check's memory.
set_option Elab.async false
/-! The PTP port of the head, time over the ring, and link delays (R221 to R226, R403). -/

namespace Sys2Proof.Machine

variable {s t : State} {src : Src} {v : Word} {p : Port} {h : PtpHead} {seq : BitVec 16} {log : BitVec 8} {origin : BitVec 64} {corr d : Int}
  {k : TimePkt} {m n : Nat}

/-! ### Holdover (R222, R225) -/

/-- The registers that a servo's state shows in. -/
abbrev holdNames : List RegName := [.TIME_STATE, .TIME_EVENTS, .TIME_RATE]

theorem Within.holdover : Within holdNames [] [.tim] .holdover :=
  .look fun _ => .all ⟨Within.timeState.mono, .when (.all ⟨.setF, .look fun _ => .setTim⟩), .setTim⟩

/-- The servo holds over: its event shows, and RATE is the mean of its last values, or stays. -/
def HeldOver (s t : State) : Prop :=
  t.f F.TIME_STATE_STATE = timeHoldover ∧ t.b F.TIME_EVENTS_HOLDOVER = true ∧
  (s.tim.rates ≠ [] → t.f F.TIME_RATE_RATE = unsigned 32 (meanOf s.tim.rates)) ∧ (s.tim.rates = [] → t.r .TIME_RATE = s.r .TIME_RATE)

theorem Act.timeState_holdover (hstate : s.f F.TIME_STATE_STATE ≠ timeHoldover) :
    ((Act.timeState timeHoldover).run s).f F.TIME_STATE_STATE = timeHoldover ∧ ((Act.timeState timeHoldover).run s).b F.TIME_EVENTS_HOLDOVER = true := by
  have hrun : (Act.timeState timeHoldover).run s = (Act.setB F.TIME_EVENTS_HOLDOVER true).run ((Act.setF F.TIME_STATE_STATE timeHoldover).run s) := by
    rw [Act.timeState, Act.look_run, Act.all_cons_run, Act.all_cons_run, Act.all_cons_run, Act.all_nil_run, bne_iff_ne.mpr hstate]
    rfl
  rw [hrun]
  exact ⟨(Act.setF_f_kept _ _ (by decide) (by decide)).trans (Act.setF_f_stored _ _ (by decide) (by decide)),
    Act.setB_b_stored _ _ (by decide) (by decide) rfl⟩

/-- RATE is frozen at the mean of the last values, where there are any. -/
def Act.rateMean (l : List Int) : Act := .when (l != []) (.all [.setF F.TIME_RATE_RATE (unsigned 32 (meanOf l)), .anchor])

theorem Within.rateMean {l : List Int} : Within [.TIME_RATE] [] [.tim] (.rateMean l) := .when (.all ⟨.setF, .look fun _ => .setTim⟩)

theorem Act.rateMean_rate {l : List Int} (hl : l ≠ []) (s : State) : ((Act.rateMean l).run s).f F.TIME_RATE_RATE = unsigned 32 (meanOf l) := by
  have hanchor : Leaves F.TIME_RATE_RATE .anchor := .of_within (l := []) (ps := [.tim]) (.look fun _ => .setTim)
  rw [Act.rateMean, bne_iff_ne.mpr hl, Act.when_true_run, Act.all_cons_run, Act.all_cons_run, Act.all_nil_run, hanchor,
    Act.setF_f_stored _ _ (by decide) (by decide)]
  exact Nat.mod_eq_of_lt (unsigned_lt 32 _)

theorem Act.holdover_holds (hstate : s.f F.TIME_STATE_STATE ≠ timeHoldover) : HeldOver s (Act.holdover.run s) := by
  have hrun : Act.holdover.run s = (Act.setTim fun t => { t with near := 0, far := 0, fresh := true }).run ((Act.rateMean s.tim.rates).run
      ((Act.timeState timeHoldover).run s)) := by
    simp only [Act.holdover, Act.rateMean, Act.look_run, Act.all_cons_run, Act.all_nil_run]
  obtain ⟨hheld, hevent⟩ := Act.timeState_holdover hstate
  have hrate := fun u => Within.rateMean (l := s.tim.rates) u
  rw [hrun]
  refine ⟨?_, ?_, fun hl => ?_, fun hl => ?_⟩
  · rw [Act.setTim_f, (hrate _).f_eq _ _ _, hheld]
  · rw [State.b, Act.setTim_f, (hrate _).f_eq _ _ _]
    exact hevent
  · rw [Act.setTim_f, Act.rateMean_rate hl]
  · rw [Act.setTim_r, hl]
    exact (Within.timeState s).r_eq _ _ _

theorem ptpHoldover_answers (hhead : s.head = true) (hup : s.up = true) (hservo : s.mode disciplined = true)
    (hstate : s.f F.TIME_STATE_STATE ≠ timeHoldover) (hlate : s.tim.syncAt + s.receiptClocks s.announceLog ≤ s.clk) :
    Answers .ptpHoldoverTimeout s fun t =>
      t.f F.TIME_STATE_STATE = timeHoldover ∧ t.b F.TIME_EVENTS_HOLDOVER = true ∧
      (s.tim.rates ≠ [] → t.f F.TIME_RATE_RATE = unsigned 32 (meanOf s.tim.rates)) ∧ (s.tim.rates = [] → t.r .TIME_RATE = s.r .TIME_RATE) ∧
      NamesKept [.TIME_STATE, .TIME_EVENTS, .TIME_RATE] s t ∧ t = { s with regs := t.regs, tim := t.tim } := by
  have hrun : Act.ptpTimeout.run s = Act.holdover.run s := by
    simp only [Act.ptpTimeout, Act.look_run, hhead, hup, hservo, bne_iff_ne.mpr hstate, hlate, decide_true, Bool.and_self, Act.when_true_run]
  obtain ⟨hheld, hevent, hmean, hkept⟩ := Act.holdover_holds hstate
  refine ⟨Act.ptpTimeout.run s, rfl, ?_⟩
  rw [hrun]
  exact ⟨hheld, hevent, hmean, hkept, (Within.holdover s).namesKept, (Within.holdover s).rest⟩

theorem ringHoldover_answers (hhead : s.head = false) (hup : s.up = true) (hservo : s.mode disciplined = true)
    (hstate : s.f F.TIME_STATE_STATE ≠ timeHoldover) (hlate : ∀ i : Fin 2, s.tim.heardAt[i] + 1638400 ≤ s.clk) :
    Answers .ringTimeHoldover s fun t =>
      t.f F.TIME_STATE_STATE = timeHoldover ∧ t.b F.TIME_EVENTS_HOLDOVER = true ∧
      NamesKept [.TIME_STATE, .TIME_EVENTS, .TIME_RATE] s t ∧ t = { s with regs := t.regs, tim := t.tim } := by
  have hrun : Act.ringHoldover.run s = Act.holdover.run s := by
    simp only [Act.ringHoldover, Act.look_run, hhead, hup, hservo, bne_iff_ne.mpr hstate, hlate 0, hlate 1, and_self, decide_true, Bool.not_false,
      Bool.and_self, Act.when_true_run]
  obtain ⟨hheld, hevent, -, -⟩ := Act.holdover_holds hstate
  refine ⟨Act.ringHoldover.run s, rfl, ?_⟩
  rw [hrun]
  exact ⟨hheld, hevent, (Within.holdover s).namesKept, (Within.holdover s).rest⟩

/-! ### The PTP port (R221 to R223) -/

theorem Act.ptpPort_free (hfree : s.mode disciplined = false) : (Act.ptpPort n).run s = (Act.setF F.TIME_PTP_STATUS_PORT_STATE n).run s := by
  simp only [Act.ptpPort, Act.look_run, hfree, Bool.false_and, Act.all_cons_run, Act.all_nil_run]
  rfl

theorem Act.ptpOffset_free (hfree : s.mode disciplined = false) : (Act.ptpOffset d).run s = (Act.setOffset d).run s := by
  simp only [Act.ptpOffset, Act.look_run, hfree, Act.andThen_run]
  rfl

/-- R221: what a one-step Sync tells of itself. -/
def Act.syncSeen (log : BitVec 8) (now : Nat) : Act := .all [
  .setTim fun t => { t with syncAt := now }, .setB F.TIME_PTP_STATUS_TWO_STEP false, .setF F.TIME_PTP_STATUS_LOG_SYNC log.toNat]

theorem Within.syncSeen : Within [.TIME_PTP_STATUS] [] [.tim] (.syncSeen log n) := .all ⟨.setTim, .setB, .setF⟩

/-- R221: a measured offset where module time is not disciplined. -/
def Act.measured (d t1 t2 : Int) : Act := .all [.setTim fun t => { t with last := some (t1, t2) }, .setF F.TIME_PTP_STATUS_PORT_STATE ptpSlave, .setOffset d]

theorem Act.ptpMeasure_free {t1 t2 : Int} (hfree : s.mode disciplined = false) (hdelay : s.tim.delayKnown = true) :
    (Act.ptpMeasure t1 t2).run s = (Act.measured (t1 + s.f F.TIME_PTP_DELAY_DELAY - t2) t1 t2).run s := by
  have hlast : ((Act.setTim fun t => { t with last := some (t1, t2) }).run s).mode disciplined = false := hfree
  have hport : ∀ u : State, u.mode disciplined = false → ((Act.setF F.TIME_PTP_STATUS_PORT_STATE ptpSlave).run u).mode disciplined = false := fun u hu =>
    (((.setF : Within [.TIME_PTP_STATUS] [] [] _) u).mode _).trans hu
  simp only [Act.ptpMeasure, Act.measured, Act.look_run, hdelay, Act.all_cons_run, Act.all_nil_run, Act.when_true_run]
  rw [Act.ptpPort_free hlast, Act.ptpOffset_free (hport _ hlast)]

/-- R221: what a one-step Sync tells where module time is not disciplined. -/
def Act.syncTake (log : BitVec 8) (now : Nat) (d t1 t2 : Int) : Act := .andThen (.syncSeen log now) (.measured d t1 t2)

/-- R221: the port takes the messages of its parent. -/
def State.fromParent (s : State) (h : PtpHead) : Prop := s.head = true ∧ s.up = true ∧ h.domain.toNat = s.f F.TIME_PTP_CFG_DOMAIN ∧
  h.transport = s.b F.TIME_PTP_CFG_TRANSPORT ∧ h.sender.toNat = s.parent ∧ 8 ≤ s.f F.TIME_PTP_STATUS_PORT_STATE

theorem sync_run (hparent : s.fromParent h) (hdelay : s.tim.delayKnown = true) (hfree : s.mode disciplined = false) :
    (Act.ptpReceive (.sync h seq false log origin corr)).run s =
      (Act.syncTake log s.clk (origin.toNat + corr + s.f F.TIME_PTP_DELAY_DELAY - s.ptpStamp) (origin.toNat + corr) s.ptpStamp).run s := by
  obtain ⟨hhead, hup, hdomain, htransport, hsender, hport⟩ := hparent
  have hport1 : (s.f F.TIME_PTP_STATUS_PORT_STATE == 1) = false := beq_false_of_ne (by omega)
  have hseen := Within.syncSeen (log := log) (n := s.clk) s
  have hkept : ((Act.syncSeen log s.clk).run s).tim.delayKnown = true := hdelay
  have hrun : (Act.ptpReceive (.sync h seq false log origin corr)).run s =
      (Act.ptpMeasure (origin.toNat + corr) s.ptpStamp).run ((Act.syncSeen log s.clk).run s) := by
    simp only [Act.ptpReceive, Act.syncSeen, Act.look_run, ptpHead, hhead, hup, hdomain, htransport, hsender, hport, hport1, beq_self_eq_true, decide_true,
      Bool.and_self, Act.when_true_run, Act.andThen_run, Act.when_false_run, Bool.false_eq_true, if_false, Act.all_cons_run, Act.all_nil_run]
  rw [hrun, Act.ptpMeasure_free ((hseen.mode _).trans hfree) hkept, hseen.f_eq _ _ _]
  rfl

theorem sync_answers (hparent : s.fromParent h) (hdelay : s.tim.delayKnown = true) (hfree : s.mode disciplined = false) :
    Answers (.ptpMessageReceive (.sync h seq false log origin corr)) s fun t =>
      t.tim.syncAt = s.clk ∧ t.f F.TIME_PTP_STATUS_PORT_STATE = 9 ∧ t.b F.TIME_PTP_STATUS_TWO_STEP = false ∧ t.f F.TIME_PTP_STATUS_LOG_SYNC = log.toNat ∧
      t.f F.TIME_OFFSET_OFFSET = unsigned 32 (clamp (-2147483648) 2147483647
        (origin.toNat + corr + s.f F.TIME_PTP_DELAY_DELAY - (s.ns - s.ns % 8 : Nat))) ∧
      RegsKept [⟨.TIME_PTP_STATUS, 0, 0, 0⟩, ⟨.TIME_OFFSET, 0, 0, 0⟩] s t ∧ t = { s with regs := t.regs, tim := t.tim } := by
  have hin : ∀ d t1 t2, Within [] [⟨.TIME_PTP_STATUS, 0, 0, 0⟩, ⟨.TIME_OFFSET, 0, 0, 0⟩] [.tim] (.syncTake log s.clk d t1 t2) := fun _ _ _ =>
    .andThen (.all ⟨.setTim, .setBAt, .setFAt⟩) (.all ⟨.setTim, .setFAt, .setFAt⟩)
  refine ⟨(Act.ptpReceive (.sync h seq false log origin corr)).run s, rfl, ?_⟩
  rw [sync_run hparent hdelay hfree]
  refine ⟨rfl, ?_, ?_, ?_, ?_, (hin _ _ _ s).regsKept, (hin _ _ _ s).rest⟩ <;>
    simp only [Act.syncTake, Act.syncSeen, Act.measured, Act.setOffset, Act.andThen_run, Act.all_cons_run, Act.all_nil_run]
  · simp +decide
  · simp +decide [State.b]
  · simp +decide
    exact Nat.mod_eq_of_lt log.isLt
  · rw [Act.setF_f_stored _ _ (by decide) (by decide)]
    exact Nat.mod_eq_of_lt (unsigned_lt 32 _)

theorem sync_ignored (hdomain : h.domain.toNat ≠ s.f F.TIME_PTP_CFG_DOMAIN) :
    Answers (.ptpMessageReceive (.sync h seq false log origin corr)) s fun t => t = s := by
  refine ⟨(Act.ptpReceive (.sync h seq false log origin corr)).run s, rfl, ?_⟩
  rw [Act.ptpReceive, Act.look_run]
  simp only [ptpHead, beq_false_of_ne hdomain, Bool.and_false, Bool.false_and, Act.when_false_run]

theorem Within.ptpPort : Within [.TIME_PTP_STATUS, .TIME_STATE, .TIME_EVENTS, .TIME_RATE] [] [.tim] (.ptpPort n) :=
  .look fun _ => .all ⟨.setF, .when Within.holdover.mono, .when Within.timeState.mono⟩

/-- R223: the port starts anew under a new configuration. -/
def Act.ptpRestart (v : Word) : Act := .all [.setR .TIME_PTP_CFG v, .ptpPort 1, .ptpAnew, .setTim fun t => { t with masters := [] }]

/-- R223: a LOCKED servo passes to HOLDOVER. -/
def Act.unlock : Act := .look fun s => .when (s.f F.TIME_STATE_STATE == timeLocked) .holdover

theorem Within.unlock : Within holdNames [] [.tim] .unlock := .look fun _ => .when Within.holdover

theorem Act.unlock_masters : Act.unlock.Keeps (Same fun s => s.tim.masters) := by
  have hstate : (Act.timeState timeHoldover).Keeps (Same fun s => s.tim.masters) := fun s =>
    congrArg TimeSt.masters ((Within.timeState s).parts .tim (by decide))
  have hrate : ∀ n, (Act.setF F.TIME_RATE_RATE n).Keeps (Same fun s => s.tim.masters) := fun _ s => congrArg TimeSt.masters (Act.setF_tim _ _ _ _ _ s)
  exact Act.keeps_look fun _ => Act.keeps_when Same.frame (Act.keeps_look fun _ => Act.keeps_all Same.frame
    ⟨hstate, Act.keeps_when Same.frame (Act.keeps_all Same.frame ⟨hrate _, Act.keeps_look fun _ _ => rfl⟩), fun _ => rfl⟩)

theorem Act.unlock_state (hstate : s.f F.TIME_STATE_STATE = timeLocked ∨ s.f F.TIME_STATE_STATE = timeHoldover) :
    (Act.unlock.run s).f F.TIME_STATE_STATE = timeHoldover := by
  rw [Act.unlock, Act.look_run]
  rcases hstate with h | h
  · rw [h]
    exact (Act.holdover_holds (by rw [h]; decide)).1
  · rw [h]
    exact h

theorem Act.ptpPort_port (hn : n < 16) (s : State) : ((Act.ptpPort n).run s).f F.TIME_PTP_STATUS_PORT_STATE = n := by
  have hrest : ∀ c d, Leaves F.TIME_PTP_STATUS_PORT_STATE (.all [.when c .holdover, .when d (.timeState timeAcquiring)]) := fun _ _ =>
    .all ⟨.when (.of_within Within.holdover), .when (.of_within Within.timeState)⟩
  rw [Act.ptpPort, Act.look_run, Act.all_cons_run, hrest, Act.setF_f_stored _ _ (by decide) (by decide)]
  exact Nat.mod_eq_of_lt hn

/-- R222: a port that leaves SLAVE keeps LOCKED, or passes to HOLDOVER. -/
theorem Act.ptpPort_locked (hlocked : s.f F.TIME_STATE_STATE = timeLocked) (hn : n ≠ ptpSlave) :
    ((Act.ptpPort n).run s).f F.TIME_STATE_STATE = timeLocked ∨ ((Act.ptpPort n).run s).f F.TIME_STATE_STATE = timeHoldover := by
  have hkept : ((Act.setF F.TIME_PTP_STATUS_PORT_STATE n).run s).f F.TIME_STATE_STATE = timeLocked :=
    (Act.setF_f_kept _ _ (by decide) (by decide)).trans hlocked
  rw [Act.ptpPort, Act.look_run]
  dsimp only
  rw [beq_false_of_ne hn, Bool.and_false, Bool.false_and, Act.all_cons_run, Act.all_cons_run, Act.all_cons_run, Act.all_nil_run,
    Act.when_false_run, Act.when_run]
  split
  · exact .inr (Act.holdover_holds (by rw [hkept]; decide)).1
  · exact .inl hkept

section
variable (hw : s.takesReg src .TIME_PTP_CFG)
include hw

theorem ptpCfg_answers (hhead : s.head = true) (hlow : 2 ≤ F.TIME_PTP_CFG_ANN_TIMEOUT.of v) (hhigh : F.TIME_PTP_CFG_ANN_TIMEOUT.of v ≤ 10) :
    Answers (.ptpCfgWrite src v) s fun t =>
      t.resp = .ok 0 ∧ t.r .TIME_PTP_CFG = v &&& RegName.mask .TIME_PTP_CFG ∧ t.f F.TIME_PTP_STATUS_PORT_STATE = 1 ∧
      t.tim.masters = [] ∧ (s.f F.TIME_STATE_STATE = timeLocked → t.f F.TIME_STATE_STATE = timeHoldover) := by
  have heffect : (Act.ptpCfg v).run s = Act.accept.run (Act.unlock.run ((Act.ptpRestart v).run s)) := by
    have hvalid : ¬(F.TIME_PTP_CFG_ANN_TIMEOUT.of v < 2 ∨ 10 < F.TIME_PTP_CFG_ANN_TIMEOUT.of v) := by omega
    simp only [Act.ptpCfg, Act.ptpRestart, Act.unlock, Act.look_run, hhead, Bool.not_true, Bool.false_eq_true, if_false, hvalid, Act.all_cons_run,
      Act.all_nil_run]
  have hrun := Act.writeTo_accepted (d := 0) hw (a := Act.ptpCfg v) (by rw [heffect]; rfl)
  have hunlock := fun u => Within.unlock u
  refine ⟨_, rfl, ?_⟩
  rw [hrun, heffect]
  refine ⟨rfl, ?_, ?_, ?_, fun hlocked => ?_⟩
  · have hrest : Within [.TIME_PTP_STATUS, .TIME_STATE, .TIME_EVENTS, .TIME_RATE] [] [.tim]
        (.all [.ptpPort 1, .ptpAnew, .setTim fun t => { t with masters := [] }]) := .all ⟨Within.ptpPort, .setTim, .setTim⟩
    rw [Act.accept_r, (hunlock _).r_eq (n := .TIME_PTP_CFG) _ _ _, Act.ptpRestart, Act.all_cons_run, (hrest _).r_eq (n := .TIME_PTP_CFG) _ _ _]
    exact Act.setR_r_stored _ _ (by decide)
  · rw [Act.accept_f, (hunlock _).f_eq _ _ _, Act.ptpRestart, Act.all_cons_run, Act.all_cons_run, Act.all_cons_run, Act.all_cons_run, Act.all_nil_run]
    exact Act.ptpPort_port (by decide) _
  · refine (Act.unlock_masters _).trans ?_
    rw [Act.ptpRestart, Act.all_cons_run, Act.all_cons_run, Act.all_cons_run, Act.all_cons_run, Act.all_nil_run]
    rfl
  · rw [Act.accept_f]
    refine Act.unlock_state ?_
    rw [Act.ptpRestart, Act.all_cons_run, Act.all_cons_run, Act.all_cons_run, Act.all_cons_run, Act.all_nil_run]
    have hlast : ∀ u, ((Act.setTim fun t => { t with masters := [] }).run (Act.ptpAnew.run u)).f F.TIME_STATE_STATE = u.f F.TIME_STATE_STATE := fun _ => rfl
    have hset : ((Act.setR .TIME_PTP_CFG v).run s).f F.TIME_STATE_STATE = timeLocked := (Act.setR_f_spared s v (by decide)).trans hlocked
    rw [hlast]
    exact Act.ptpPort_locked hset (by decide)

theorem ptpCfg_reserved (hhead : s.head = false) : Answers (.ptpCfgWrite src v) s fun t => t = { s with resp := .ok 0 } := by
  have heffect : (Act.ptpCfg v).run s = Act.accept.run s := by
    rw [Act.ptpCfg, Act.look_run, hhead]
    rfl
  refine ⟨_, rfl, ?_⟩
  rw [Act.writeTo_accepted (d := 0) hw (a := Act.ptpCfg v) (by rw [heffect]; rfl), heffect]
  rfl

theorem ptpCfg_refused (hhead : s.head = true) (hbad : F.TIME_PTP_CFG_ANN_TIMEOUT.of v < 2 ∨ 10 < F.TIME_PTP_CFG_ANN_TIMEOUT.of v) :
    Answers (.ptpCfgWrite src v) s fun t =>
      t.resp = .error ∧ Counted F.TIDE_REFUSED_COUNT s t ∧ NamesKept [.TIDE_REFUSED, .FAB_PORT_ERR] s t ∧ OnlyRegs s t := by
  refine ⟨_, rfl, Act.writeTo_refused hw (a := Act.ptpCfg v) (f := F.TIDE_REFUSED_COUNT) ?_ (by decide)⟩
  rw [Act.ptpCfg, Act.look_run, hhead]
  dsimp only
  rw [if_neg (by decide), if_pos hbad, Act.tideRefuse]

end

theorem delayReqSend_answers (hhead : s.head = true) (hup : s.up = true)
    (hfollows : s.b F.TIME_PTP_CFG_DELAY_MECH = true ∨ 8 ≤ s.f F.TIME_PTP_STATUS_PORT_STATE) : Answers .ptpDelayReqSend s fun t =>
      t.tx = s.tx ++ [.ptpRequest (s.b F.TIME_PTP_CFG_DELAY_MECH) s.tim.seq] ∧
      t.tim.req = some (s.tim.seq, ((s.ns - s.ns % 8 : Nat) : Int)) ∧ t.tim.seq = (s.tim.seq + 1) % 65536 ∧
      t = { s with tx := t.tx, tim := t.tim } := by
  have hcond : (s.head && s.up && (s.b F.TIME_PTP_CFG_DELAY_MECH || decide (ptpUncalibrated ≤ s.f F.TIME_PTP_STATUS_PORT_STATE))) = true := by
    simpa [hhead, hup] using hfollows
  have hrun : Act.ptpRequest.run s = (Act.all [.send (.ptpRequest (s.b F.TIME_PTP_CFG_DELAY_MECH) s.tim.seq), .setTim fun t =>
      { t with req := some (s.tim.seq, s.ptpStamp), resp := none, seq := (s.tim.seq + 1) % 65536 }]).run s := by
    rw [Act.ptpRequest, Act.look_run]
    dsimp only
    rw [hcond, Act.when_true_run]
  refine ⟨Act.ptpRequest.run s, rfl, ?_⟩
  rw [hrun]
  exact ⟨rfl, rfl, rfl, rfl⟩

/-! ### Time over the ring (R224 to R226) -/

theorem laneOf_timeWords (src : BitVec 6) (x : TimePkt) : laneOf (timeWords src x) = 1 := by
  have hmaint : ∀ src : BitVec 6, (headOf (timeWords src ⟨0, 0, 0, false, false, 0, 0, 0⟩)).maint = true := by decide
  have hsame : headOf (timeWords src x) = headOf (timeWords src ⟨0, 0, 0, false, false, 0, 0, 0⟩) := rfl
  rw [laneOf, hsame, hmaint]
  rfl

theorem State.lane_setLane (s : State) (p : Port) (c : Fin 2) (f : RingLane → RingLane) : ((Act.setLane p c f).run s).lane p c = f (s.lane p c) := by
  simp only [State.lane, Act.setLane, Act.setRing, Act.upd_run, Fin.getElem_fin, Vector.getElem_set_self]

/-- R396, R400: a packet whose link and class are free goes out at once. -/
theorem Act.enqueue_sends {words : List DWord} {c : Fin 2} (hlane : laneOf words = c) (hup : s.portUp p = true) (hqueue : (s.lane p c).queue = [])
    (hretry : (s.lane p c).retry.length < 512) :
    ((Act.enqueue p words).run s).tx = s.tx ++ [.packet p (words ++ [trailer words (s.lane p c).next])] := by
  have hwaits : (((Act.setLane p c fun l => { l with queue := l.queue ++ [words] }).run s).lane p c).queue = [words] := by
    rw [State.lane_setLane, hqueue]
    rfl
  have hroom : (((Act.setLane p c fun l => { l with queue := l.queue ++ [words] }).run s).portUp p &&
      decide ((((Act.setLane p c fun l => { l with queue := l.queue ++ [words] }).run s).lane p c).retry.length < 512)) = true := by
    rw [State.lane_setLane, Bool.and_eq_true]
    exact ⟨hup, decide_eq_true hretry⟩
  rw [Act.enqueue, hlane, Act.all_cons_run, Act.all_cons_run, Act.all_nil_run, Act.drainLane, Act.look_run, hwaits]
  dsimp only
  rw [hroom, Act.when_true_run, Act.all_cons_run, Act.all_cons_run, Act.all_cons_run, Act.all_nil_run, Act.launch, Act.look_run, State.lane_setLane,
    State.lane_setLane]
  rfl

theorem Act.drainLane_regs {c : Fin 2} : ∀ n, (Act.drainLane p c n).Keeps (Same State.regs)
  | 0 => Act.keeps_skip Same.frame
  | n + 1 => Act.keeps_look fun s => by
    cases (s.lane p c).queue with
    | nil => exact Act.keeps_skip Same.frame
    | cons w rest => exact Act.keeps_when Same.frame (Act.keeps_all Same.frame
        ⟨fun _ => rfl, Act.keeps_look fun _ => Act.keeps_all Same.frame ⟨fun _ => rfl, fun _ => rfl⟩, Act.drainLane_regs n⟩)

theorem Act.enqueue_rest {words : List DWord} (s : State) : (Act.enqueue p words).run s =
    { s with ring := ((Act.enqueue p words).run s).ring, tx := ((Act.enqueue p words).run s).tx } := by
  have hregs : (Act.enqueue p words).Keeps (Same State.regs) := Act.keeps_all Same.frame ⟨fun _ => rfl, Act.drainLane_regs 1⟩
  have hrest := (Within.enqueue (l := []) (rs := []) (p := p) (words := words) s).rest
  rw [State.withParts, hregs s] at hrest
  exact hrest

/-- R224: the time packet that the head sends on a port. -/
def State.timePkt (s : State) (p : Port) : TimePkt := ⟨BitVec.ofNat 64 s.ns, BitVec.ofNat 32 (s.hopDelay p), 1, s.b F.TIME_STATE_UTC_VALID,
  s.b F.TIME_STATE_ARB, BitVec.ofNat 2 (s.f F.TIME_STATE_STATE), BitVec.ofNat 16 (s.f F.TIME_STATE_UTC_OFFSET), 0⟩

theorem timePacketSend_run (hhead : s.head = true) (hup : s.up = true) (hmilli : s.tim.milli = some s.clk) (hport : s.portUp p = true)
    (hother : s.portUp (otherPort p) = false) : Act.timePacketSend.run s = (Act.enqueue p (timeWords s.ownNumber (s.timePkt p))).run s := by
  have hrun : Act.timePacketSend.run s = (Act.each [Port.west, Port.east] fun p =>
      .when (s.portUp p) (.enqueue p (timeWords s.ownNumber (s.timePkt p)))).run s := by
    simp only [Act.timePacketSend, Act.look_run, hhead, hup, hmilli, beq_self_eq_true, Bool.and_self, Act.when_true_run, State.timePkt]
  rw [hrun, Act.each_cons_run, Act.each_cons_run, Act.each_nil_run]
  cases p with
  | west => rw [hport, show s.portUp .east = false from hother, Act.when_true_run, Act.when_false_run]
  | east => rw [hport, show s.portUp .west = false from hother, Act.when_true_run, Act.when_false_run]

theorem timePacketSend_answers (hhead : s.head = true) (hup : s.up = true) (hmilli : s.tim.milli = some s.clk) (hport : s.portUp p = true)
    (hother : s.portUp (otherPort p) = false) (hqueue : (s.lane p 1).queue = []) (hretry : (s.lane p 1).retry.length < 512) :
    Answers .timePacketSend s fun t => ∃ x : TimePkt,
      x.ns = BitVec.ofNat 64 s.ns ∧ x.acc = BitVec.ofNat 32 (s.hopDelay p) ∧ x.hops = 1 ∧ x.arb = s.b F.TIME_STATE_ARB ∧
      x.utcValid = s.b F.TIME_STATE_UTC_VALID ∧ x.utc.toNat = s.f F.TIME_STATE_UTC_OFFSET ∧ x.state.toNat = s.f F.TIME_STATE_STATE ∧
      t.tx = s.tx ++ [.packet p (timeWords s.ownNumber x ++ [trailer (timeWords s.ownNumber x) (s.lane p 1).next])] ∧
      t = { s with ring := t.ring, tx := t.tx } := by
  have hutc : s.f F.TIME_STATE_UTC_OFFSET < 2 ^ 16 := Fld.of_lt _ _
  have hstate : s.f F.TIME_STATE_STATE < 2 ^ 2 := Fld.of_lt _ _
  refine ⟨Act.timePacketSend.run s, rfl, s.timePkt p, rfl, rfl, rfl, rfl, rfl, Nat.mod_eq_of_lt hutc, Nat.mod_eq_of_lt hstate, ?_, ?_⟩
  all_goals rw [timePacketSend_run hhead hup hmilli hport hother]
  · exact Act.enqueue_sends (laneOf_timeWords _ _) hport hqueue hretry
  · exact Act.enqueue_rest s

/-- R224: a time packet is heard on a port. -/
def State.timeHeard (s : State) (p : Port) (k : TimePkt) : State := { s with tim := { s.tim with
  heard := s.tim.heard.set (portIndex p) (some k.hops.toNat), heardAt := s.tim.heardAt.set (portIndex p) s.clk } }

/-- R224: what a time packet on the port that time is taken from tells of the head's time. -/
def Act.timeSeen (p : Port) (k : TimePkt) : Act := .all [
  .setF F.TIME_RING_HOPS k.hops.toNat, .setF F.TIME_RING_FROM (portIndex p).val,
  .setB F.TIME_STATE_UTC_VALID k.utcValid, .setB F.TIME_STATE_ARB k.arb, .setF F.TIME_STATE_UTC_OFFSET k.utc.toNat]

theorem Within.timeSeen : Within [.TIME_RING, .TIME_STATE] [] [] (.timeSeen p k) := .all ⟨.setF, .setF, .setB, .setB, .setF⟩

/-- R225: the offset of a module's time from the time of a packet. -/
def State.ringOffset (s : State) (k : TimePkt) : Int := ((k.ns.toNat * 16 + k.acc.toNat : Nat) : Int) / 16 - s.ns

theorem State.timeDirection_congr (hclk : t.clk = s.clk) (htim : t.tim = s.tim) : t.timeDirection = s.timeDirection := by
  rw [State.timeDirection, State.timeDirection, State.hopsFrom, State.hopsFrom, State.hopsFrom, State.hopsFrom, hclk, htim]

theorem Act.ringOffset_free (hfree : s.mode disciplined = false) : (Act.ringOffset d).run s = (Act.setOffset d).run s := by
  simp only [Act.ringOffset, Act.look_run, hfree, Act.andThen_run]
  rfl

theorem Within.timeForward {l : List RegName} : Within l [] [.ring, .tx] (.timeForward p k) := .look fun _ => .when Within.enqueue

/-- R224, R225: what a time packet tells the module that forwards it, where its time is not disciplined. -/
theorem timePacket_run (hhead : s.head = false) (hup : s.up = true) (hfree : s.mode disciplined = false)
    (hdirection : (s.timeHeard p k).timeDirection = p) : (Act.timePacket p k).run s =
      (Act.setOffset (s.ringOffset k)).run ((Act.timeSeen p k).run (((Act.timeForward p k).run s).timeHeard p k)) := by
  have hforward := Within.timeForward (l := []) (p := p) (k := k) s
  have hclk : ((Act.timeForward p k).run s).clk = s.clk := hforward.parts .clk (by decide)
  have htim : ((Act.timeForward p k).run s).tim = s.tim := hforward.parts .tim (by decide)
  have htime : ((Act.timeForward p k).run s).time = s.time := hforward.parts .time (by decide)
  have hheard : (((Act.timeForward p k).run s).timeHeard p k).timeDirection = p := by
    refine (State.timeDirection_congr (s := s.timeHeard p k) (t := ((Act.timeForward p k).run s).timeHeard p k) hclk ?_).trans hdirection
    rw [State.timeHeard, State.timeHeard, htim, hclk]
  have hset : ((Act.setTim fun t => { t with heard := t.heard.set (portIndex p) (some k.hops.toNat),
                                             heardAt := t.heardAt.set (portIndex p) s.clk }).run ((Act.timeForward p k).run s)) =
      ((Act.timeForward p k).run s).timeHeard p k := by
    rw [Act.setTim_run, State.timeHeard, hclk]
  have hns : (((Act.timeForward p k).run s).timeHeard p k).ns = s.ns := by
    rw [State.ns, State.ns]
    exact congrArg (· / 4294967296 % 2 ^ 64) htime
  have hseen : ((Act.timeSeen p k).run (((Act.timeForward p k).run s).timeHeard p k)).mode disciplined = false :=
    ((Within.timeSeen _).mode _).trans ((hforward.mode _).trans hfree)
  rw [← Act.ringOffset_free hseen]
  simp only [Act.timePacket, Act.look_run, hhead, hup, Bool.not_false, Act.when_true_run, Act.andThen_run, hset, hheard, beq_self_eq_true, hns,
    Act.timeSeen, State.ringOffset, Act.all_cons_run, Act.all_nil_run]

theorem timePacket_answers (hhead : s.head = false) (hup : s.up = true) (hfree : s.mode disciplined = false)
    (hdirection : (s.timeHeard p k).timeDirection = p) : Answers (.timePacketReceive p k) s fun t =>
      t.f F.TIME_RING_HOPS = k.hops.toNat ∧ t.f F.TIME_RING_FROM = (portIndex p).val ∧
      t.b F.TIME_STATE_ARB = k.arb ∧ t.b F.TIME_STATE_UTC_VALID = k.utcValid ∧ t.f F.TIME_STATE_UTC_OFFSET = k.utc.toNat ∧
      t.f F.TIME_OFFSET_OFFSET = unsigned 32 (clamp (-2147483648) 2147483647
        (((k.ns.toNat * 16 + k.acc.toNat : Nat) : Int) / 16 - s.ns)) ∧
      t.time = s.time ∧ NamesKept [.TIME_RING, .TIME_STATE, .TIME_OFFSET] s t := by
  have hforward := Within.timeForward (l := [.TIME_RING, .TIME_STATE, .TIME_OFFSET]) (p := p) (k := k) s
  have hoffset : ∀ d, Within [.TIME_RING, .TIME_STATE, .TIME_OFFSET] [] [] (.setOffset d) := fun _ => .setF
  have hseen : Within [.TIME_RING, .TIME_STATE, .TIME_OFFSET] [] [] (.timeSeen p k) := Within.timeSeen.mono
  refine ⟨(Act.timePacket p k).run s, rfl, ?_⟩
  rw [timePacket_run hhead hup hfree hdirection]
  refine ⟨?_, ?_, ?_, ?_, ?_, ?_, ?_, ?_⟩
  case refine_7 =>
    exact ((hoffset _ _).parts .time (by decide)).trans (((hseen _).parts .time (by decide)).trans (hforward.parts .time (by decide)))
  case refine_8 => exact fun n i j k hn => ((hoffset _ _).namesKept n i j k hn).trans (((hseen _).namesKept n i j k hn).trans (hforward.namesKept n i j k hn))
  all_goals simp only [Act.setOffset, Act.timeSeen, State.ringOffset, Act.all_cons_run, Act.all_nil_run]
  · simp +decide
    exact Nat.mod_eq_of_lt k.hops.isLt
  · simp +decide
    exact Nat.mod_eq_of_lt (portIndex p).isLt
  · simp +decide
  · simp +decide
  · simp +decide
    exact Nat.mod_eq_of_lt k.utc.isLt
  · rw [Act.setF_f_stored _ _ (by decide) (by decide)]
    exact Nat.mod_eq_of_lt (unsigned_lt 32 _)

theorem timePacket_head (hhead : s.head = true) : Answers (.timePacketReceive p k) s fun t => t = s := by
  refine ⟨(Act.timePacket p k).run s, rfl, ?_⟩
  rw [Act.timePacket, Act.look_run, hhead]
  rfl

/-! ### Link delays (R403) -/

theorem Act.fresh_run {x : BitVec 64 → Act} (s : State) : (Act.fresh x).run s = (x (Config.freeValue s.seed)).run { s with seed := s.seed + 1 } := rfl

theorem linkDelay_answers (hup : s.up = true) (hport : s.portUp p = true) : Answers (.linkDelayMeasure p) s fun t => ∃ n,
    t.ring.delayT1[portIndex p] = some n ∧ t.tx = s.tx ++ [.delayReq p n] ∧ t = { s with ring := t.ring, tx := t.tx, seed := t.seed } := by
  have hcond : ∀ n, (({ s with seed := n } : State).up && ({ s with seed := n } : State).portUp p) = true := fun n => by
    rw [Bool.and_eq_true]
    exact ⟨hup, hport⟩
  refine ⟨(Act.delayMeasure p).run s, rfl, State.laneTime s (Config.freeValue s.seed).toNat, ?_⟩
  rw [Act.delayMeasure, Act.fresh_run, Act.look_run]
  dsimp only
  rw [hcond, Act.when_true_run]
  exact ⟨Vector.getElem_set_self _, rfl, rfl⟩

theorem delayReq_answers {t1 : BitVec 80} (hup : s.up = true) (hport : s.portUp p = true) : Answers (.delayReq p t1) s fun t => ∃ m n,
    m ≤ n ∧ t.tx = s.tx ++ [.delayResp p t1.toNat m n] ∧ t = { s with tx := t.tx, seed := t.seed } := by
  have hcond : ∀ n, (({ s with seed := n } : State).up && ({ s with seed := n } : State).portUp p) = true := fun n => by
    rw [Bool.and_eq_true]
    exact ⟨hup, hport⟩
  refine ⟨(Act.delayReq p t1.toNat).run s, rfl, s.laneTime (Config.freeValue s.seed).toNat,
    s.laneTime (Config.freeValue s.seed).toNat + (Config.freeValue (s.seed + 1)).toNat % 2 ^ 32 * 32768, Nat.le_add_right _ _, ?_⟩
  rw [Act.delayReq, Act.fresh_run, Act.fresh_run, Act.look_run]
  dsimp only
  rw [hcond, Act.when_true_run]
  exact ⟨rfl, rfl⟩

/-- R403: the field that holds the delay of a port's link. -/
def hopField : Port → Fld
  | .west => F.TIME_HOP_DELAY_WEST
  | .east => F.TIME_HOP_DELAY_EAST

theorem State.hopDelay_eq (s : State) (p : Port) : s.hopDelay p = s.f (hopField p) := by cases p <;> rfl

/-- R403: a link delay is taken into the mean of the last ones. -/
def Act.delayTaken (p : Port) (l : List Int) : Act := .all [
  .setRing fun r => { r with delayT1 := r.delayT1.set (portIndex p) none },
  .setTim fun t => { t with links := t.links.set (portIndex p) l },
  .setF (hopField p) (clamp 0 65535 (meanOf l)).toNat]

theorem Act.delayTaken_takes (p : Port) (l : List Int) (s : State) : let t := (Act.delayTaken p l).run s
    t.ring.delayT1[portIndex p] = none ∧ t.tim.links[portIndex p] = l ∧ t.hopDelay p = (clamp 0 65535 (meanOf l)).toNat ∧
    t.hopDelay (otherPort p) = s.hopDelay (otherPort p) ∧ RegsKept [⟨.TIME_HOP_DELAY, 0, 0, 0⟩] s t := by
  have hclamp : (clamp 0 65535 (meanOf l)).toNat < 2 ^ 16 := by
    rw [clamp]
    split
    · decide
    · split
      · decide
      · omega
  intro t
  have ht : t = (Act.setF (hopField p) (clamp 0 65535 (meanOf l)).toNat).run ((Act.setTim fun t => { t with links := t.links.set (portIndex p) l }).run
      ((Act.setRing fun r => { r with delayT1 := r.delayT1.set (portIndex p) none }).run s)) := by
    simp only [t, Act.delayTaken, Act.all_cons_run, Act.all_nil_run]
  refine ⟨?_, ?_, ?_, ?_, ?_⟩
  · rw [ht, Act.setF_ring]
    exact Vector.getElem_set_self _
  · rw [ht, Act.setF_tim]
    exact Vector.getElem_set_self _
  · rw [State.hopDelay_eq, ht, Act.setF_f_stored _ _ (by cases p <;> decide) (by cases p <;> decide)]
    cases p <;> exact Nat.mod_eq_of_lt hclamp
  · rw [State.hopDelay_eq, State.hopDelay_eq, ht, Act.setF_f_kept _ _ (by cases p <;> decide) (by cases p <;> decide)]
    rfl
  · have hin : Within [] [⟨.TIME_HOP_DELAY, 0, 0, 0⟩] [.ring, .tim] (.delayTaken p l) := .all ⟨.setRing, .setTim, by cases p <;> exact .setFAt⟩
    exact (hin s).regsKept

/-- R403: the link delay that an answer measures, in units of 1/16 ns. -/
def State.linkDelay (s : State) (t1 t2 t3 : Nat) : Int := (((s.laneTime (Config.freeValue s.seed).toNat : Int) - t1) - ((t3 : Int) - t2)) / 2 / 4096

theorem delayResp_answers {t1 t2 t3 : BitVec 80} (hup : s.up = true) (hwaits : s.ring.delayT1[portIndex p] = some t1.toNat) :
    Answers (.delayResp p t1 t2 t3) s fun t =>
    t.ring.delayT1[portIndex p] = none ∧ (∃ d, t.tim.links[portIndex p] = (d :: s.tim.links[portIndex p]).take 16) ∧
    t.hopDelay p = (clamp 0 65535 (meanOf t.tim.links[portIndex p])).toNat ∧ t.hopDelay (otherPort p) = s.hopDelay (otherPort p) ∧
    RegsKept [⟨.TIME_HOP_DELAY, 0, 0, 0⟩] s t := by
  have hrun : (Act.delayResp p t1.toNat t2.toNat t3.toNat).run s =
      (Act.delayTaken p ((s.linkDelay t1.toNat t2.toNat t3.toNat :: s.tim.links[portIndex p]).take 16)).run { s with seed := s.seed + 1 } := by
    have hcond : (({ s with seed := s.seed + 1 } : State).up && s.ring.delayT1[portIndex p] == some t1.toNat) = true := by
      rw [hwaits, beq_self_eq_true, Bool.and_true]
      exact hup
    rw [Act.delayResp.eq_def, Act.fresh_run, Act.look_run]
    dsimp only
    rw [hcond, Act.when_true_run, Act.delayTaken]
    cases p <;> rfl
  obtain ⟨hdone, hlinks, hdelay, hother, hkept⟩ := Act.delayTaken_takes p
    ((s.linkDelay t1.toNat t2.toNat t3.toNat :: s.tim.links[portIndex p]).take 16) { s with seed := s.seed + 1 }
  refine ⟨(Act.delayResp p t1.toNat t2.toNat t3.toNat).run s, rfl, ?_⟩
  rw [hrun]
  exact ⟨hdone, ⟨_, hlinks⟩, by rw [hlinks]; exact hdelay, hother, hkept⟩

/-- Settles O39: each source of time, each time packet and each delay message is one lemma; where module time is not disciplined a measured
offset only shows in TIME.OFFSET, and HOLDOVER is entered by one action (`Act.holdover_holds`). -/
theorem timeSources : Obligations.TimeSources := by
  intro s src v p h seq log origin corr k t1 t2 t3
  refine ⟨?_, fun hdomain => sync_ignored hdomain, fun hhead hup hservo hstate hlate => ptpHoldover_answers hhead hup hservo hstate hlate,
    fun hw hhead hlow hhigh => ptpCfg_answers hw hhead hlow hhigh, fun hw hhead => ptpCfg_reserved hw hhead,
    fun hw hhead hbad => ptpCfg_refused hw hhead hbad, fun hhead hup hfollows => delayReqSend_answers hhead hup hfollows, ?_, ?_,
    fun hhead => timePacket_head hhead, fun hhead hup hservo hstate hlate => ringHoldover_answers hhead hup hservo hstate hlate,
    fun hup hport => linkDelay_answers hup hport, fun hup hport => delayReq_answers hup hport, fun hup hwaits => delayResp_answers hup hwaits⟩
  · exact fun hhead hup hdomain htransport hsender hport hdelay hfree =>
      sync_answers ⟨hhead, hup, hdomain, htransport, hsender, hport⟩ hdelay hfree
  · exact fun hhead hup hmilli hport hother hqueue hretry => timePacketSend_answers hhead hup hmilli hport hother hqueue hretry
  · exact fun hhead hup hfree hdirection => timePacket_answers hhead hup hfree hdirection

end Sys2Proof.Machine
end

section
-- One proof after another: elaborated side by side, the proofs of the whole text do not fit in the check's memory.
set_option Elab.async false
/-! What a tracker presents, and how it locks, holds, homes and moves (R228 to R238). -/

namespace Sys2Proof.Machine

variable {s t : State} {k : Trk} {p x : Int}

/-! ### 64-bit phases -/

theorem signed64_range (n : Nat) : -9223372036854775808 ≤ signed 64 n ∧ signed 64 n < 9223372036854775808 := by
  rw [signed]
  split <;> omega

theorem signed64_unsigned (hlow : -9223372036854775808 ≤ x) (hhigh : x < 9223372036854775808) : signed 64 (unsigned 64 x) = x := by
  rw [signed, unsigned]
  split <;> omega

theorem signed64_unsigned_signed (n : Nat) : signed 64 (unsigned 64 (signed 64 n)) = signed 64 n :=
  signed64_unsigned (signed64_range n).1 (signed64_range n).2

/-- R228: the registers of a tracker. -/
theorem valid_trk {n : RegName} (h : n ∈ [.TRK_CTRL, .TRK_STATUS, .TRK_PHASE_LO, .TRK_PHASE_HI, .TRK_VEL, .TRK_JUMP_TO_LO, .TRK_JUMP_TO_HI,
    .TRK_JUMP_CAUSE] := by decide) : RegRef.valid ⟨n, k, 0, 0⟩ = true := by
  have hvalid : ∀ n ∈ [RegName.TRK_CTRL, .TRK_STATUS, .TRK_PHASE_LO, .TRK_PHASE_HI, .TRK_VEL, .TRK_JUMP_TO_LO, .TRK_JUMP_TO_HI, .TRK_JUMP_CAUSE],
      ∀ k : Trk, RegRef.valid ⟨n, k, 0, 0⟩ = true := by decide
  exact hvalid n h k

theorem State.phase_setPhase (s : State) (k : Trk) (p : Int) : ((Act.setPhase k p).run s).phase k = signed 64 (unsigned 64 p) := by
  have hu := unsigned_lt 64 p
  have hlo : ((Act.setPhase k p).run s).f F.TRK_PHASE_LO_PHASE k = unsigned 64 p % 2 ^ 32 := by
    rw [Act.setPhase, Act.all_f_head (.all (show List.Forall _ [_] from .setF))]
    exact Act.setF_f_at (n := .TRK_PHASE_LO) valid_trk _ _
  have hhi : ((Act.setPhase k p).run s).f F.TRK_PHASE_HI_PHASE k = unsigned 64 p / 2 ^ 32 % 2 ^ 32 := by
    rw [Act.setPhase, Act.all_cons_run, Act.all_cons_run, Act.all_nil_run]
    exact Act.setF_f_at (n := .TRK_PHASE_HI) valid_trk _ _
  rw [State.phase, hlo, hhi]
  congr 1
  omega

/-! ### What is presented (R228) -/

theorem Act.trkPresent_search (h : s.trkLock k = lockSearch) :
    (Act.trkPresent k).run s = (Act.setVel k 0).run ((Act.setPhase k (s.homeValue k)).run s) := by
  simp +decide only [Act.trkPresent, Act.look_run, h, if_false, if_true, Act.all_cons_run, Act.all_nil_run]

theorem Act.trkPresent_lost (h : s.trkLock k = lockLost) : (Act.trkPresent k).run s = (Act.setVel k 0).run s := by
  simp +decide only [Act.trkPresent, Act.look_run, h, if_false, if_true]

theorem Act.trkPresent_locked (h : s.trkLock k = lockLocked) :
    (Act.trkPresent k).run s = (Act.setVel k (s.trkVel k)).run ((Act.setPhase k (s.trkPresented k)).run s) := by
  have hheld : (lockLocked == lockHold) = false := rfl
  simp +decide only [Act.trkPresent, Act.look_run, h, hheld, if_false, Act.all_cons_run, Act.all_nil_run, Bool.false_and, Act.when_false_run]

section
variable {f : Fld} (hf : f.name = .TRK_STATUS := by rfl) (hsat : F.TRK_STATUS_VEL_SAT.spares f = true := by decide)
  (hm : f.inMask = true := by decide)
include hf hsat hm

theorem Leaves.setVel : Leaves f (.setVel k x) := .all ⟨.of_within (l := [.TRK_VEL]) (ps := []) .setF (by rw [hf]; decide), .setB hsat hm⟩

omit hsat hm in
theorem Leaves.setPhase : Leaves f (.setPhase k x) := .of_within Within.setPhase (by rw [hf]; decide)

theorem Leaves.trkPresent (hhomed : F.TRK_STATUS_HOMED.spares f = true := by decide) : Leaves f (.trkPresent k) :=
  have hvel : ∀ v, Leaves f (.setVel k v) := fun _ => Leaves.setVel hf hsat hm
  have hphase : ∀ v, Leaves f (.setPhase k v) := fun _ => Leaves.setPhase hf
  .look fun _ => .ite .skip (.ite (hvel _) (.ite (.all ⟨hphase _, hvel _⟩) (.all ⟨hphase _, hvel _, .when (.setB hhomed hm)⟩)))

end

theorem Act.setVel_zero (s : State) : ((Act.setVel k 0).run s).f F.TRK_VEL_VEL k = 0 := by
  rw [Act.setVel, Act.all_f_head (.all (show List.Forall _ [_] from .of_within (l := [.TRK_STATUS]) (ps := []) .setB))]
  exact Act.setF_f_at (n := .TRK_VEL) valid_trk _ _

theorem State.phase_setVel (s : State) (k : Trk) (v : Int) : ((Act.setVel k v).run s).phase k = s.phase k := by
  have hvel := Within.setVel (k := k) (v := v) s
  rw [State.phase, State.phase, hvel.f_eq _ _ _, hvel.f_eq _ _ _]

/-! ### The scheduler's part (R251, R252) -/

theorem Within.schedJump {a b : Int} : Within phaseNames [] judgeParts (.schedJump k a b) :=
  .look fun _ => .when (.all ⟨Within.schedMove, Within.judgeFresh.mono, Within.schedMove⟩)

theorem Within.holdBack {l : List RegName} : Within l [] [.sched] (.holdBack k p) := .look fun s => by
  cases s.sched.trk[k] with
  | free => exact .skip
  | held first back => exact .setSched

/-- What a tracker holds beside its registers stays. -/
theorem Act.setTrk_same (k : Trk) (f : TrkSt → TrkSt) (s : State) : ((Act.setTrk k f).run s).trk[k] = f s.trk[k] := Vector.getElem_set_self _

/-! ### A jump of what is presented (R232) -/

/-- R232: the record of a jump. -/
def Act.jumpMarks (k : Trk) (cause : Nat) (f t at_ : Int) (count : Bool) : Act := .all [
  .setF F.TRK_JUMP_FROM_LO_JUMP_FROM (unsigned 64 f) k, .setF F.TRK_JUMP_FROM_HI_JUMP_FROM (unsigned 64 f / 2 ^ 32) k,
  .setF F.TRK_JUMP_TO_LO_JUMP_TO (unsigned 64 t) k, .setF F.TRK_JUMP_TO_HI_JUMP_TO (unsigned 64 t / 2 ^ 32) k,
  .setF F.TRK_JUMP_TIME_LO_JUMP_TIME (unsigned 64 (at_ / 4294967296)) k,
  .setF F.TRK_JUMP_TIME_HI_JUMP_TIME (unsigned 64 (at_ / 4294967296) / 2 ^ 32) k,
  .setF F.TRK_JUMP_CAUSE_JUMP_CAUSE cause k, .setB F.TRK_STATUS_JUMPED true k,
  .when count (.count F.TRK_STATUS_JUMP_COUNT 1 k)]

/-- The registers that record a jump. -/
abbrev jumpNames : List RegName := [.TRK_JUMP_FROM_LO, .TRK_JUMP_FROM_HI, .TRK_JUMP_TO_LO, .TRK_JUMP_TO_HI, .TRK_JUMP_TIME_LO, .TRK_JUMP_TIME_HI,
  .TRK_JUMP_CAUSE, .TRK_STATUS]

theorem Within.jumpMarks {cause : Nat} {f t at_ : Int} {count : Bool} : Within jumpNames [] [] (.jumpMarks k cause f t at_ count) :=
  .all ⟨.setF, .setF, .setF, .setF, .setF, .setF, .setF, .setB, .when .count⟩

theorem Act.trkJump_run {cause : Nat} {f t at_ before : Int} {count : Bool} (s : State) : (Act.trkJump k cause f t at_ before count).run s =
    (Act.look fun u => .schedJump k before (u.phase k)).run ((Act.trkPresent k).run ((Act.jumpMarks k cause f t at_ count).run s)) := by
  simp only [Act.trkJump, Act.jumpMarks, Act.all_cons_run, Act.all_nil_run]

theorem Leaves.jumpMarks {g : Fld} {cause : Nat} {f t at_ : Int} {count : Bool} (hg : g.name = .TRK_STATUS := by rfl)
    (hjumped : F.TRK_STATUS_JUMPED.spares g = true := by decide) (hcount : F.TRK_STATUS_JUMP_COUNT.spares g = true := by decide)
    (hm : g.inMask = true := by decide) : Leaves g (.jumpMarks k cause f t at_ count) := by
  have hother : ∀ {h : Fld} {v : Nat}, h.name ≠ .TRK_STATUS → Leaves g (.setF h v k) := fun {h} {v} hne =>
    .of_within (l := [h.name]) (ps := []) (.setF (h := List.mem_singleton.mpr rfl)) (by rw [hg]; simpa using hne.symm)
  exact .all ⟨hother (by decide), hother (by decide), hother (by decide), hother (by decide), hother (by decide), hother (by decide),
    hother (by decide), .setB hjumped hm, .when (.count hcount hm)⟩

/-- What the record of a jump to `t` says. -/
structure JumpMarked (k : Trk) (cause : Nat) (t : Int) (s u : State) : Prop where
  jumped : u.b F.TRK_STATUS_JUMPED k = true
  cause : u.f F.TRK_JUMP_CAUSE_JUMP_CAUSE k = cause
  count : Counted F.TRK_STATUS_JUMP_COUNT s u k
  low : u.f F.TRK_JUMP_TO_LO_JUMP_TO k = unsigned 64 t % 2 ^ 32
  high : u.f F.TRK_JUMP_TO_HI_JUMP_TO k = unsigned 64 t / 2 ^ 32

theorem Act.jumpMarks_marks {cause : Nat} {f t at_ : Int} (hcause : cause < 8) (s : State) :
    JumpMarked k cause t s ((Act.jumpMarks k cause f t at_ true).run s) := by
  have hu := unsigned_lt 64 t
  constructor
  case jumped => simp +decide [Act.jumpMarks]
  case cause =>
    simp +decide [Act.jumpMarks]
    exact Nat.mod_eq_of_lt hcause
  case count => simp +decide [Act.jumpMarks, Counted]
  case low =>
    simp +decide [Act.jumpMarks]
    rfl
  case high =>
    have hhigh : unsigned 64 t / 2 ^ 32 < 2 ^ 32 := by omega
    simp +decide [Act.jumpMarks]
    exact Nat.mod_eq_of_lt hhigh

/-! ### Homing (R237) -/

/-- R237: the marks of a home event. -/
def Act.homeMarks (k : Trk) (auto : Bool) : Act :=
  .all [.setB F.TRK_STATUS_HOMED true k, .setB F.TRK_STATUS_HOME_DONE true k, .when (!auto) (.setB F.TRK_STATUS_ARMED false k)]

theorem Within.homeMarks {auto : Bool} : Within [.TRK_STATUS] [] [] (.homeMarks k auto) := .all ⟨.setB, .setB, .when .setB⟩

theorem Leaves.homeMarks {f : Fld} {auto : Bool} (h1 : F.TRK_STATUS_HOMED.spares f = true := by decide)
    (h2 : F.TRK_STATUS_HOME_DONE.spares f = true := by decide) (h3 : F.TRK_STATUS_ARMED.spares f = true := by decide)
    (hm : f.inMask = true := by decide) : Leaves f (.homeMarks k auto) := .all ⟨.setB h1 hm, .setB h2 hm, .when (.setB h3 hm)⟩

theorem Act.homeMarks_marks (auto : Bool) (s : State) : let t := (Act.homeMarks k auto).run s
    t.b F.TRK_STATUS_HOMED k = true ∧ t.b F.TRK_STATUS_HOME_DONE k = true ∧
    t.b F.TRK_STATUS_ARMED k = (s.b F.TRK_STATUS_ARMED k && auto) := by
  cases auto <;> simp +decide [Act.homeMarks]

/-- The phase of a tracker just before a home event `age` system clocks ago (R237). -/
def State.homeOld (s : State) (k : Trk) (age : Int) : Int :=
  if age = 0 then s.trkPresented k
  else if s.trkSrc k = srcTime then s.phaseAgo k age else segPhase (s.clk - age) none s.trk[k].segs

/-- The phase of a tracker just after a home event (R237). -/
def State.homeNew (s : State) (k : Trk) (age : Int) : Int :=
  if s.b F.TRK_HOME_CFG_KEEP_FRAC k then s.homeValue k / 4294967296 * 4294967296 + s.homeOld k age % 4294967296 else s.homeValue k

/-- R237: the phase of a tracker is moved by `d`. -/
def TrkSt.moved (x : TrkSt) (d dp : Int) (clk : Nat) : TrkSt :=
  { x with pos := x.pos + dp, org := x.org + dp, offset := x.offset + d, floor := x.floor + d, hist := x.hist.map (fun e => (e.1, e.2 + dp)), homed := some clk }

/-- R237: a home event moves what a tracker holds. -/
def Act.homeMove (k : Trk) (t old new d dp : Int) (clk : Nat) (vel : Int) : Act :=
  .all [.setTrk k fun x => x.moved d dp clk, .pushSeg k t old new vel true]

theorem Act.homeAt_run (k : Trk) (age : Int) (s : State) : (Act.homeAt k age none).run s =
    (Act.trkJump k 1 (s.homeOld k age) (s.homeNew k age) (s.timeAgo age) (s.phase k)).run
      ((Act.homeMarks k (s.b F.TRK_HOME_CFG_AUTO_ARM k)).run ((Act.homeMove k (s.clk - age) (s.homeOld k age) (s.homeNew k age)
        (s.homeNew k age - s.homeOld k age) ((s.homeNew k age - s.homeOld k age) * s.trkDen k) s.clk s.trk[k].vel).run s)) := by
  simp only [Act.homeAt, Act.homeMarks, Act.homeMove, TrkSt.moved, State.homeOld, State.homeNew, Act.look_run, Act.all_cons_run, Act.all_nil_run, Option.getD_none,
    Option.isSome_none, Option.isNone_none, Int.sub_zero, Bool.false_eq_true, if_false]
  rfl

/-- What a home event of a locked tracker shows (R237). -/
structure HomedAt (k : Trk) (new : Int) (s t : State) : Prop where
  homed : t.b F.TRK_STATUS_HOMED k = true
  done : t.b F.TRK_STATUS_HOME_DONE k = true
  armed : t.b F.TRK_STATUS_ARMED k = (s.b F.TRK_STATUS_ARMED k && s.b F.TRK_HOME_CFG_AUTO_ARM k)
  jumped : t.b F.TRK_STATUS_JUMPED k = true
  cause : t.f F.TRK_JUMP_CAUSE_JUMP_CAUSE k = 1
  count : Counted F.TRK_STATUS_JUMP_COUNT s t k
  low : t.f F.TRK_JUMP_TO_LO_JUMP_TO k = unsigned 64 new % 2 ^ 32
  high : t.f F.TRK_JUMP_TO_HI_JUMP_TO k = unsigned 64 new / 2 ^ 32

/-- What a jump of a locked tracker presents and shows the scheduler changes these registers. -/
abbrev shownNames : List RegName := [.TRK_PHASE_LO, .TRK_PHASE_HI, .TRK_VEL, .SCHED_TRK_CFG, .SCHED_TRK_EXTREME_LO, .SCHED_TRK_EXTREME_HI, .TRK_STATUS]

/-- R232: what a jump presents, and what the scheduler makes of it. -/
def Act.jumpShown (k : Trk) (before : Int) : Act := .all [.trkPresent k, .look fun u => .schedJump k before (u.phase k)]

theorem Within.jumpShown {before : Int} : Within shownNames [] judgeParts (.jumpShown k before) :=
  .all ⟨Within.trkPresent.mono, .look fun _ => Within.schedJump.mono⟩

theorem Leaves.jumpShown {f : Fld} {before : Int} (hf : f.name = .TRK_STATUS := by rfl) (hsat : F.TRK_STATUS_VEL_SAT.spares f = true := by decide)
    (hm : f.inMask = true := by decide) (hhomed : F.TRK_STATUS_HOMED.spares f = true := by decide) : Leaves f (.jumpShown k before) :=
  have hjump : ∀ a b, Leaves f (.schedJump k a b) := fun _ _ => .of_within Within.schedJump (by rw [hf]; decide)
  .all ⟨Leaves.trkPresent hf hsat hm hhomed, .look fun _ => hjump _ _⟩

theorem Act.trkPresent_homed (h : s.trkLock k = lockLocked) : ((Act.trkPresent k).run s).b F.TRK_STATUS_HOMED k = s.b F.TRK_STATUS_HOMED k := by
  have hvel : ∀ v, Leaves F.TRK_STATUS_HOMED (.setVel k v) := fun _ => Leaves.setVel
  have hphase : ∀ v, Leaves F.TRK_STATUS_HOMED (.setPhase k v) := fun _ => Leaves.setPhase
  rw [Act.trkPresent_locked h, (hvel _).b, (hphase _).b]

/-- A home event up to the record of its jump. -/
def Act.homeRecord (k : Trk) (age : Int) (s : State) : Act := .all [
  .homeMove k (s.clk - age) (s.homeOld k age) (s.homeNew k age) (s.homeNew k age - s.homeOld k age)
    ((s.homeNew k age - s.homeOld k age) * s.trkDen k) s.clk s.trk[k].vel,
  .homeMarks k (s.b F.TRK_HOME_CFG_AUTO_ARM k),
  .jumpMarks k 1 (s.homeOld k age) (s.homeNew k age) (s.timeAgo age) true]

theorem Act.homeAt_record (k : Trk) (age : Int) (s : State) :
    (Act.homeAt k age none).run s = (Act.jumpShown k (s.phase k)).run ((Act.homeRecord k age s).run s) := by
  rw [Act.homeAt_run, Act.trkJump_run]
  simp only [Act.jumpShown, Act.homeRecord, Act.all_cons_run, Act.all_nil_run]

theorem Within.homeMove {t old new d dp vel : Int} {clk : Nat} {l : List RegName} : Within l [] [.trk] (.homeMove k t old new d dp clk vel) :=
  .all ⟨.setTrk, .look fun _ => .setTrk⟩

theorem Act.homeRecord_homed (k : Trk) (age : Int) (s : State) : HomedAt k (s.homeNew k age) s ((Act.homeRecord k age s).run s) := by
  have hmove := Within.homeMove (k := k) (t := s.clk - age) (old := s.homeOld k age) (new := s.homeNew k age) (d := s.homeNew k age - s.homeOld k age)
    (dp := (s.homeNew k age - s.homeOld k age) * s.trkDen k) (clk := s.clk) (vel := s.trk[k].vel) (l := []) s
  obtain ⟨hhomed, hdone, harmed⟩ := Act.homeMarks_marks (k := k) (s.b F.TRK_HOME_CFG_AUTO_ARM k)
    ((Act.homeMove k (s.clk - age) (s.homeOld k age) (s.homeNew k age) (s.homeNew k age - s.homeOld k age)
      ((s.homeNew k age - s.homeOld k age) * s.trkDen k) s.clk s.trk[k].vel).run s)
  have hcounted : ∀ auto, Leaves F.TRK_STATUS_JUMP_COUNT (.homeMarks k auto) := fun _ => Leaves.homeMarks
  rw [Act.homeRecord, Act.all_cons_run, Act.all_cons_run, Act.all_cons_run, Act.all_nil_run]
  obtain ⟨hjumped, hcause, hcount, hlow, hhigh⟩ := Act.jumpMarks_marks (k := k) (cause := 1) (f := s.homeOld k age) (t := s.homeNew k age)
    (at_ := s.timeAgo age) (by decide) ((Act.homeMarks k (s.b F.TRK_HOME_CFG_AUTO_ARM k)).run
      ((Act.homeMove k (s.clk - age) (s.homeOld k age) (s.homeNew k age) (s.homeNew k age - s.homeOld k age)
        ((s.homeNew k age - s.homeOld k age) * s.trkDen k) s.clk s.trk[k].vel).run s))
  constructor
  case homed => exact (Leaves.b Leaves.jumpMarks _ _ _ _).trans hhomed
  case done => exact (Leaves.b Leaves.jumpMarks _ _ _ _).trans hdone
  case armed =>
    refine (Leaves.b Leaves.jumpMarks _ _ _ _).trans (harmed.trans ?_)
    rw [hmove.b_eq _ _ _]
  case jumped => exact hjumped
  case cause => exact hcause
  case count =>
    rw [Counted, hcounted, hmove.f_eq _ _ _] at hcount
    exact hcount
  case low => exact hlow
  case high => exact hhigh

theorem Within.homeRecord {age : Int} : Within jumpNames [] [.trk] (.homeRecord k age s) :=
  .all ⟨Within.homeMove, Within.homeMarks.mono, Within.jumpMarks.mono⟩

theorem Act.homeRecord_lock (k : Trk) (age : Int) (s : State) : ((Act.homeRecord k age s).run s).trkLock k = s.trkLock k := by
  have hlock : Leaves F.TRK_STATUS_LOCK (.homeRecord k age s) := .all ⟨.of_within (Within.homeMove (l := [])), Leaves.homeMarks, Leaves.jumpMarks⟩
  exact hlock _ _ _ _

theorem Act.homeAt_homed (hlock : s.trkLock k = lockLocked) (age : Int) :
    HomedAt k (s.homeNew k age) s ((Act.homeAt k age none).run s) := by
  obtain ⟨hhomed, hdone, harmed, hjumped, hcause, hcount, hlow, hhigh⟩ := Act.homeRecord_homed k age s
  have hshown := Within.jumpShown (k := k) (before := s.phase k) ((Act.homeRecord k age s).run s)
  have hstatus : ∀ {f : Fld}, Leaves f (.jumpShown k (s.phase k)) → ∀ i, ((Act.jumpShown k (s.phase k)).run ((Act.homeRecord k age s).run s)).b f i =
      ((Act.homeRecord k age s).run s).b f i := fun h i => h.b _ _ _ _
  rw [Act.homeAt_record]
  constructor
  case homed =>
    have hjump : Leaves F.TRK_STATUS_HOMED (.look fun u => .schedJump k (s.phase k) (u.phase k)) := .look fun _ => .of_within Within.schedJump
    rw [Act.jumpShown, Act.all_cons_run, Act.all_cons_run, Act.all_nil_run, hjump.b, Act.trkPresent_homed ((Act.homeRecord_lock k age s).trans hlock), hhomed]
  case done => exact (hstatus Leaves.jumpShown _).trans hdone
  case armed => exact (hstatus Leaves.jumpShown _).trans harmed
  case jumped => exact (hstatus Leaves.jumpShown _).trans hjumped
  case cause => exact (hshown.f_eq _ _ _).trans hcause
  case count =>
    have hkept : Leaves F.TRK_STATUS_JUMP_COUNT (.jumpShown k (s.phase k)) := Leaves.jumpShown
    exact (hkept _ _ _ _).trans hcount
  case low => exact (hshown.f_eq _ _ _).trans hlow
  case high => exact (hshown.f_eq _ _ _).trans hhigh

/-! ### What is presented moves with what is held (R230) -/

/-- What a tracker holds has moved by `d` of its phase. -/
structure Shifted (k : Trk) (d : Int) (s t : State) : Prop where
  cfg : t.r .TRK_CFG k = s.r .TRK_CFG k
  per : t.r .TRK_PER_CYCLE k = s.r .TRK_PER_CYCLE k
  dir : t.trkRev k = s.trkRev k
  lock : t.trkLock k = s.trkLock k
  clk : t.clk = s.clk
  time : t.time = s.time
  pos : t.trk[k].pos = s.trk[k].pos + d * s.trkDen k
  floor : t.trk[k].floor = s.trk[k].floor + d
  instant : t.trk[k].at_ = s.trk[k].at_
  vel : t.trk[k].vel = s.trk[k].vel
  start : t.trk[k].t0 = s.trk[k].t0

theorem trkDen_pos (s : State) (k : Trk) : 0 < s.trkDen k := by
  rw [State.trkDen]
  split <;> omega

theorem Shifted.trkSrc {d : Int} (h : Shifted k d s t) : t.trkSrc k = s.trkSrc k := congrArg F.TRK_CFG_SRC.of h.cfg

theorem Shifted.trkDen {d : Int} (h : Shifted k d s t) : t.trkDen k = s.trkDen k := by
  have hper : t.f F.TRK_PER_CYCLE_PER_CYCLE k = s.f F.TRK_PER_CYCLE_PER_CYCLE k := congrArg F.TRK_PER_CYCLE_PER_CYCLE.of h.per
  rw [State.trkDen, State.trkDen, h.trkSrc, hper]

theorem Shifted.predict {d : Int} (h : Shifted k d s t) (at_ : Int) : t.predict k at_ = s.predict k at_ + d := by
  have hden := trkDen_pos s k
  have hsplit : (s.trk[k].pos + d * s.trkDen k) * 2500 + clamp (-2147483648) 2147483647 s.trk[k].vel * s.trkDen k * (at_ - s.trk[k].at_) =
      s.trk[k].pos * 2500 + clamp (-2147483648) 2147483647 s.trk[k].vel * s.trkDen k * (at_ - s.trk[k].at_) + d * (s.trkDen k * 2500) := by ring
  rw [State.predict, State.predict, h.trkDen, h.pos, h.vel, h.instant, hsplit, Int.add_mul_ediv_right _ _ (by omega)]

theorem Shifted.timePhase {d : Int} (h : Shifted k d s t) (hsrc : s.trkSrc k = srcTime) (at_ : Int) : t.timePhase k at_ = s.timePhase k at_ + d := by
  have hper : t.f F.TRK_PER_CYCLE_PER_CYCLE k = s.f F.TRK_PER_CYCLE_PER_CYCLE k := congrArg F.TRK_PER_CYCLE_PER_CYCLE.of h.per
  have hinvert : t.b F.TRK_CFG_INVERT k = s.b F.TRK_CFG_INVERT k := congrArg (F.TRK_CFG_INVERT.of · == 1) h.cfg
  have hden : s.trkDen k = 1 := if_pos (.inr hsrc)
  simp only [State.timePhase, hper, hinvert, h.pos, h.start, hden]
  split <;> omega

/-- R230: the next count of an encoder or a mains tracker moves with its position. -/
theorem nextCount_shift {a d den : Int} (hden : 0 < den) : -((-(a + d * den - 4294967296 + 1)) / den) = -((-(a - 4294967296 + 1)) / den) + d ∧
    (a + d * den + 4294967296 - 1) / den = (a + 4294967296 - 1) / den + d := by
  have hback : -(a + d * den - 4294967296 + 1) = -(a - 4294967296 + 1) + -d * den := by ring
  have hforward : a + d * den + 4294967296 - 1 = a + 4294967296 - 1 + d * den := by ring
  rw [hback, hforward, Int.add_mul_ediv_right _ _ (by omega), Int.add_mul_ediv_right _ _ (by omega)]
  omega

theorem Shifted.trkPresented {d : Int} (h : Shifted k d s t) : t.trkPresented k = s.trkPresented k + d := by
  have hden : (0 : Int) < s.trkDen k := by exact_mod_cast trkDen_pos s k
  obtain ⟨hback, hforward⟩ := nextCount_shift (a := s.trk[k].pos) (d := d) hden
  simp only [State.trkPresented, h.trkSrc, h.trkDen, h.lock, h.dir, h.pos, h.floor, h.clk, h.time, h.predict, hback, hforward]
  split
  · next hsrc => exact h.timePhase hsrc _
  · split <;> split <;> omega

theorem Act.homeRecord_shifted (k : Trk) (age : Int) (s : State) :
    Shifted k (s.homeNew k age - s.homeOld k age) s ((Act.homeRecord k age s).run s) := by
  have hin := Within.homeRecord (k := k) (age := age) (s := s) s
  have hdir : Leaves F.TRK_STATUS_DIR (.homeRecord k age s) := .all ⟨.of_within (Within.homeMove (l := [])), Leaves.homeMarks, Leaves.jumpMarks⟩
  have hmarks : ((Act.homeRecord k age s).run s).trk = ((Act.homeMove k (s.clk - age) (s.homeOld k age) (s.homeNew k age)
      (s.homeNew k age - s.homeOld k age) ((s.homeNew k age - s.homeOld k age) * s.trkDen k) s.clk s.trk[k].vel).run s).trk := by
    rw [Act.homeRecord, Act.all_cons_run, Act.all_cons_run, Act.all_cons_run, Act.all_nil_run]
    exact ((Within.jumpMarks _).parts .trk (by decide)).trans ((Within.homeMarks _).parts .trk (by decide))
  constructor
  case cfg => exact hin.r_eq _ _ _
  case per => exact hin.r_eq _ _ _
  case dir => exact hdir.b _ _ _ _
  case lock => exact Act.homeRecord_lock k age s
  case clk => exact hin.parts .clk (by decide)
  case time => exact hin.parts .time (by decide)
  all_goals rw [hmarks, Act.homeMove, Act.all_cons_run, Act.all_cons_run, Act.all_nil_run, Act.pushSeg, Act.look_run, Act.setTrk_same, Act.setTrk_same]
  all_goals rfl

theorem State.phase_of_names {l : List RegName} {ps : List Part} (h : Touches l [] ps s t) (hlo : .TRK_PHASE_LO ∉ l := by decide)
    (hhi : .TRK_PHASE_HI ∉ l := by decide) : t.phase k = s.phase k := by
  rw [State.phase, State.phase, h.f_eq (f := F.TRK_PHASE_LO_PHASE) _ _ _ hlo, h.f_eq (f := F.TRK_PHASE_HI_PHASE) _ _ _ hhi]

theorem Act.trkPresent_phase (h : s.trkLock k = lockLocked) :
    ((Act.trkPresent k).run s).phase k = signed 64 (unsigned 64 (s.trkPresented k)) := by
  rw [Act.trkPresent_locked h, State.phase_setVel, State.phase_setPhase]

/-- R237: HOME_NOW presents the new phase at once. -/
theorem Act.homeAt_phase (hlock : s.trkLock k = lockLocked) :
    ((Act.homeAt k 0 none).run s).phase k = signed 64 (unsigned 64 (s.homeNew k 0)) := by
  have hold : s.homeOld k 0 = s.trkPresented k := if_pos rfl
  have hpresented := (Act.homeRecord_shifted k 0 s).trkPresented
  have hjump : Within phaseNames [] judgeParts (.look fun u => .schedJump k (s.phase k) (u.phase k)) := .look fun _ => Within.schedJump
  rw [Act.homeAt_record, Act.jumpShown, Act.all_cons_run, Act.all_cons_run, Act.all_nil_run, State.phase_of_names (hjump _),
    Act.trkPresent_phase ((Act.homeRecord_lock k 0 s).trans hlock), hpresented, hold, add_sub_cancel]

/-! ### Holding and losing the source (R236) -/

theorem Act.trkEnterHold_holds (s : State) : ((Act.trkEnterHold k).run s).trkLock k = lockHold ∧
    ((Act.trkEnterHold k).run s).b F.TRK_STATUS_LOCK_LOST k = true := by
  have hlast : ∀ x, Leaves F.TRK_STATUS_LOCK (.all [.setB F.TRK_STATUS_LOCK_LOST true k, .setTrk k x, .trkPresent k]) := fun _ =>
    .all ⟨.setB, .upd fun _ => rfl, Leaves.trkPresent⟩
  have hlost : ∀ x, Leaves F.TRK_STATUS_LOCK_LOST (.all [.setTrk k x, .trkPresent k]) := fun _ => .all ⟨.upd fun _ => rfl, Leaves.trkPresent⟩
  refine ⟨?_, ?_⟩
  · rw [Act.trkEnterHold, Act.look_run, Act.all_cons_run, State.trkLock, Act.all_f_head (hlast _)]
    exact Act.setF_f_at (n := .TRK_STATUS) valid_trk _ _
  · rw [Act.trkEnterHold, Act.look_run, Act.all_cons_run, Act.all_cons_run, Act.all_b_head (hlost _)]
    exact Act.setB_b_at (n := .TRK_STATUS) valid_trk _ _

/-- R236: what a tracker in LOST holds. -/
def TrkSt.lost (x : TrkSt) : TrkSt := { x with good := 0, bad := 0, hist := [], vel := 0, crossing := none, demod := [], angle := none }

/-- R236: what LOST leaves in TRK.STATUS. -/
def Act.lostMarks (k : Trk) (scale : Bool) : Act := .all [.setF F.TRK_STATUS_LOCK lockLost k, .setB F.TRK_STATUS_LOCK_LOST true k,
  .when (!scale) (.setB F.TRK_STATUS_HOMED false k)]

/-- R236: the phase of a tracker in LOST freezes in its history. -/
def Act.lostHistory (k : Trk) : Act := .all [.setTrk k TrkSt.lost, .look fun s => .pushSeg k s.clk (s.phase k) (s.phase k) 0]

theorem Within.lostHistory {l : List RegName} : Within l [] [.trk] (.lostHistory k) := .all ⟨.setTrk, .look fun _ => .look fun _ => .setTrk⟩

theorem Act.trkEnterLost_run (s : State) : (Act.trkEnterLost k).run s = (Act.trkPresent k).run ((Act.lostHistory k).run
    ((Act.lostMarks k (s.trkSrc k == srcScale)).run ((Act.trkHold k (!(s.trkSrc k == srcScale))).run ((Act.trkPresent k).run s)))) := by
  simp only [Act.trkEnterLost, Act.lostMarks, Act.lostHistory, Act.look_run, Act.all_cons_run, Act.all_nil_run]
  rfl

theorem Act.lostMarks_marks (scale : Bool) (s : State) : let t := (Act.lostMarks k scale).run s
    t.trkLock k = lockLost ∧ t.b F.TRK_STATUS_LOCK_LOST k = true ∧ t.b F.TRK_STATUS_HOMED k = (scale && s.b F.TRK_STATUS_HOMED k) := by
  cases scale <;> simp +decide [Act.lostMarks, State.trkLock]

theorem Act.trkPresent_homed_scale (h : s.trkSrc k = srcScale) : ((Act.trkPresent k).run s).b F.TRK_STATUS_HOMED k = s.b F.TRK_STATUS_HOMED k := by
  have hvel : ∀ v, Leaves F.TRK_STATUS_HOMED (.setVel k v) := fun _ => Leaves.setVel
  have hphase : ∀ v, Leaves F.TRK_STATUS_HOMED (.setPhase k v) := fun _ => Leaves.setPhase
  have hcond : ∀ (st : Nat) c, ((st == lockHold) && (s.trkSrc k != srcScale) && c) = false := fun _ _ => by
    rw [h, bne_self_eq_false, Bool.and_false, Bool.false_and]
  have hkept : Leaves F.TRK_STATUS_HOMED (if s.trkLock k = lockOff then .skip else if s.trkLock k = lockLost then .setVel k 0
      else if s.trkLock k = lockSearch then .all [.setPhase k (s.homeValue k), .setVel k 0]
      else .all [.setPhase k (s.trkPresented k), .setVel k (s.trkVel k), .when false (.setB F.TRK_STATUS_HOMED false k)]) :=
    .ite .skip (.ite (hvel _) (.ite (.all ⟨hphase _, hvel _⟩) (.all ⟨hphase _, hvel _, fun _ _ _ _ => rfl⟩)))
  rw [Act.trkPresent, Act.look_run]
  dsimp only
  rw [hcond, hkept.b]

/-- What the loss of a tracker leaves (R236). -/
structure SourceLost (k : Trk) (s t : State) : Prop where
  lock : t.trkLock k = lockLost
  lost : t.b F.TRK_STATUS_LOCK_LOST k = true
  vel : t.f F.TRK_VEL_VEL k = 0
  homed : s.trkSrc k ≠ srcScale → t.b F.TRK_STATUS_HOMED k = false
  scale : s.trkSrc k = srcScale → t.b F.TRK_STATUS_HOMED k = s.b F.TRK_STATUS_HOMED k

theorem Act.trkEnterLost_lost (s : State) : SourceLost k s ((Act.trkEnterLost k).run s) := by
  have hhistory := Within.lostHistory (k := k) (l := [])
  obtain ⟨hlock, hlost, hhomed⟩ := Act.lostMarks_marks (k := k) (s.trkSrc k == srcScale)
    ((Act.trkHold k (!(s.trkSrc k == srcScale))).run ((Act.trkPresent k).run s))
  have hvel : Leaves F.TRK_STATUS_LOCK (.setVel k 0) := Leaves.setVel
  have hvelLost : Leaves F.TRK_STATUS_LOCK_LOST (.setVel k 0) := Leaves.setVel
  have hvelHomed : Leaves F.TRK_STATUS_HOMED (.setVel k 0) := Leaves.setVel
  have hshown : (Act.trkEnterLost k).run s = (Act.setVel k 0).run ((Act.lostHistory k).run
      ((Act.lostMarks k (s.trkSrc k == srcScale)).run ((Act.trkHold k (!(s.trkSrc k == srcScale))).run ((Act.trkPresent k).run s)))) := by
    rw [Act.trkEnterLost_run, Act.trkPresent_lost]
    exact ((hhistory _).f_eq _ _ _).trans hlock
  rw [hshown]
  constructor
  case lock => exact (hvel _ _ _ _).trans (((hhistory _).f_eq _ _ _).trans hlock)
  case lost => exact (hvelLost.b _ _ _ _).trans (((hhistory _).b_eq _ _ _).trans hlost)
  case vel => exact Act.setVel_zero _
  case homed =>
    intro hsrc
    rw [hvelHomed.b, (hhistory _).b_eq _ _ _, hhomed, beq_false_of_ne hsrc, Bool.false_and]
  case scale =>
    intro hsrc
    have hhold : ∀ first, Within phaseNames [] judgeParts (.trkHold k first) := fun _ => .look fun _ => .when Within.holdTracker
    rw [hvelHomed.b, (hhistory _).b_eq _ _ _, hhomed, hsrc, beq_self_eq_true, Bool.true_and, (hhold _ _).b_eq _ _ _, Act.trkPresent_homed_scale hsrc]

/-- R236: a tracker whose source is gone is in HOLD, or where HOLD_TIME is 0 in LOST. -/
theorem Act.trkLose_lock (s : State) : ((Act.trkLose k).run s).trkLock k = (if s.f F.TRK_TIMING_HOLD_TIME k = 0 then lockLost else lockHold) ∧
    ((Act.trkLose k).run s).b F.TRK_STATUS_LOCK_LOST k = true := by
  obtain ⟨hlock, hlost⟩ := Act.trkEnterHold_holds (k := k) s
  rw [Act.trkLose, Act.look_run, Act.all_cons_run, Act.all_cons_run, Act.all_nil_run, Act.when_run]
  by_cases hzero : s.f F.TRK_TIMING_HOLD_TIME k = 0
  · have hentered := Act.trkEnterLost_lost (k := k) ((Act.trkEnterHold k).run s)
    rw [if_pos hzero, if_pos (beq_iff_eq.mpr hzero)]
    exact ⟨hentered.lock, hentered.lost⟩
  · rw [if_neg hzero, if_neg (by simpa using hzero)]
    exact ⟨hlock, hlost⟩

/-! ### Moving and locking (R230, R233, R234) -/

/-- R230: what a locked tracker that moves to `pos` at instant `t` holds beside its history. -/
structure MovedTo (k : Trk) (t pos : Int) (s u : State) : Prop where
  lock : u.trkLock k = s.trkLock k
  stopped : u.b F.TRK_STATUS_STOPPED k = false
  pos : u.trk[k].pos = pos
  instant : u.trk[k].at_ = t
  a : u.trk[k].a = s.trk[k].a
  b : u.trk[k].b = s.trk[k].b
  period : u.trk[k].period = s.trk[k].period
  crossing : u.trk[k].crossing = s.trk[k].crossing
  inbox : u.trk[k].inbox = s.trk[k].inbox
  bad : u.trk[k].bad = s.trk[k].bad

theorem Act.trkMove_moves {t pos : Int} {vel : Option Int} (s : State) : MovedTo k t pos s ((Act.trkMove k t pos vel).run s) := by
  have hpresent := Within.trkPresent (k := k)
  have hdir : ∀ c v, Within [.TRK_STATUS, .TRK_COUNTS] [] [] (.when c (.all [.setB F.TRK_STATUS_DIR v k, .count F.TRK_COUNTS_REVERSALS 1 k])) :=
    fun _ _ => .when (.all ⟨.setB, .count⟩)
  have hmoved : ∀ c v (u : State), ((Act.setB F.TRK_STATUS_STOPPED false k).run ((Act.when c (.all [.setB F.TRK_STATUS_DIR v k,
      .count F.TRK_COUNTS_REVERSALS 1 k])).run u)).trk = u.trk := fun c v u => (Act.setF_trk _ _ _ _ _ _).trans ((hdir c v u).parts .trk (by decide))
  constructor
  case lock =>
    have hkept : Leaves F.TRK_STATUS_LOCK (.trkMove k t pos vel) := .look fun _ =>
      .all ⟨.when (.all ⟨.setB, .of_within (l := [.TRK_COUNTS]) (ps := []) .count⟩), .setB, .upd fun _ => rfl, .look fun _ => .upd fun _ => rfl,
        Leaves.trkPresent⟩
    exact hkept _ _ _ _
  case stopped =>
    have hkept : Leaves F.TRK_STATUS_STOPPED (.trkPresent k) := Leaves.trkPresent
    rw [Act.trkMove, Act.look_run]
    dsimp only
    rw [Act.all_cons_run, Act.all_b_head (.all (by exact ⟨.upd fun _ => rfl, .look fun _ => .upd fun _ => rfl, Leaves.trkPresent⟩))]
    exact Act.setB_b_at (n := .TRK_STATUS) valid_trk _ _
  all_goals
    rw [Act.trkMove, Act.look_run]
    dsimp only
    rw [Act.all_cons_run, Act.all_cons_run, Act.all_cons_run, Act.all_cons_run, Act.all_cons_run, Act.all_nil_run, (hpresent _).parts .trk (by decide),
      Act.pushSeg, Act.look_run, Act.setTrk_same, Act.setTrk_same, hmoved]

/-! ### First lock (R233) -/

/-- R233: what a tracker that takes its first measured value holds. -/
def TrkSt.first (x : TrkSt) (t pos p : Int) : TrkSt :=
  { x with pos := pos, at_ := t, floor := p, hist := [(t, pos)], vel := 0, bad := 0, good := 0 }

/-- R233: a tracker takes its first measured value, before it is presented. -/
def Act.firstTaken (k : Trk) (t pos p before : Int) : Act :=
  .all [.setF F.TRK_STATUS_LOCK lockLocked k, .setTrk k fun x => x.first t pos p, .pushSeg k t before p 0]

theorem Act.trkFirstLock_run (t pos : Int) (s : State) : (Act.trkFirstLock k t pos).run s =
    (Act.holdBack k (pos / (s.trkDen k : Int))).run ((Act.trkPresent k).run
      ((Act.firstTaken k t pos (pos / (s.trkDen k : Int)) (s.phase k)).run s)) := by
  simp only [Act.trkFirstLock, Act.firstTaken, TrkSt.first, Act.look_run, Act.all_cons_run, Act.all_nil_run]

theorem Within.firstTaken {t pos before : Int} : Within [.TRK_STATUS] [] [.trk] (.firstTaken k t pos p before) :=
  .all ⟨.setF, .setTrk, .look fun _ => .setTrk⟩

theorem Act.firstTaken_takes (t pos before : Int) (s : State) : let u := (Act.firstTaken k t pos p before).run s
    u.trkLock k = lockLocked ∧ u.trk[k].pos = pos ∧ u.trk[k].vel = 0 ∧ u.trk[k].floor = p := by
  refine ⟨?_, ?_⟩
  · rw [State.trkLock, Act.firstTaken, Act.all_cons_run, Act.all_cons_run, Act.all_cons_run, Act.all_nil_run, Act.pushSeg, Act.look_run, Act.setTrk_f,
      Act.setTrk_f]
    exact Act.setF_f_at (n := .TRK_STATUS) valid_trk _ _
  · rw [Act.firstTaken, Act.all_cons_run, Act.all_cons_run, Act.all_cons_run, Act.all_nil_run, Act.pushSeg, Act.look_run, Act.setTrk_same, Act.setTrk_same]
    exact ⟨rfl, rfl, rfl⟩

/-- R230, R233: an encoder that locks at HOME_VALUE presents it. -/
theorem trkPresented_home {h : Int} (hsrc : s.trkSrc k = srcEncoder) (hlock : s.trkLock k = lockLocked) (hpos : s.trk[k].pos = h * s.trkDen k)
    (hvel : s.trk[k].vel = 0) (hfloor : s.trk[k].floor = h) : s.trkPresented k = h := by
  have hden : (0 : Int) < s.trkDen k := by exact_mod_cast trkDen_pos s k
  have hpredict : s.predict k s.clk = h := by
    have hzero : clamp (-2147483648) 2147483647 0 = 0 := rfl
    rw [State.predict, hpos, hvel, hzero]
    rw [zero_mul, zero_mul, add_zero, mul_assoc, Int.mul_ediv_cancel _ (by omega)]
  obtain ⟨hback, hforward⟩ := nextCount_shift (a := 0) (d := h) hden
  rw [zero_add] at hback hforward
  have hbelow : -((-(0 - 4294967296 + 1)) / (s.trkDen k : Int)) ≤ 0 := by
    have := Int.ediv_nonneg (a := -(0 - 4294967296 + 1)) (by decide) hden.le
    omega
  have habove : 0 ≤ (0 + 4294967296 - 1) / (s.trkDen k : Int) := Int.ediv_nonneg (by decide) hden.le
  have hsrcs : ¬ srcEncoder = srcTime := by decide
  simp only [State.trkPresented, hsrc, hlock, hpredict, hpos, hfloor, hback, hforward, hsrcs, if_false, true_or, and_self, if_true]
  split <;> omega

theorem State.trkDen_of_names {l : List RegName} {ps : List Part} (h : Touches l [] ps s t) (hcfg : .TRK_CFG ∉ l := by decide)
    (hper : .TRK_PER_CYCLE ∉ l := by decide) : t.trkDen k = s.trkDen k := by
  rw [State.trkDen, State.trkDen, State.trkSrc, State.trkSrc, h.f_eq (f := F.TRK_CFG_SRC) _ _ _ hcfg,
    h.f_eq (f := F.TRK_PER_CYCLE_PER_CYCLE) _ _ _ hper]

/-- What an encoder that takes HOME_VALUE as its first value shows (R233). -/
theorem Act.trkFirstLock_home (hsrc : s.trkSrc k = srcEncoder) (t : Int) : let u := (Act.trkFirstLock k t (s.homeValue k * s.trkDen k)).run s
    u.trkLock k = lockLocked ∧ u.phase k = s.homeValue k := by
  have hden : (0 : Int) < s.trkDen k := by exact_mod_cast trkDen_pos s k
  have hin := Within.firstTaken (k := k) (t := t) (pos := s.homeValue k * s.trkDen k) (p := s.homeValue k) (before := s.phase k) s
  obtain ⟨hlock, hpos, hvel, hfloor⟩ := Act.firstTaken_takes (k := k) (p := s.homeValue k) t (s.homeValue k * s.trkDen k) (s.phase k) s
  have hback := Within.holdBack (k := k) (p := s.homeValue k) (l := [])
  have hsrcKept : ((Act.firstTaken k t (s.homeValue k * s.trkDen k) (s.homeValue k) (s.phase k)).run s).trkSrc k = s.trkSrc k := hin.f_eq _ _ _
  have hper := State.trkDen_of_names (k := k) hin
  rw [Act.trkFirstLock_run, Int.mul_ediv_cancel _ hden.ne']
  refine ⟨?_, ?_⟩
  · have hkept : Leaves F.TRK_STATUS_LOCK (.trkPresent k) := Leaves.trkPresent
    exact ((hback _).f_eq _ _ _).trans ((hkept _ _ _ _).trans hlock)
  · rw [State.phase_of_names (hback _), Act.trkPresent_phase hlock,
      trkPresented_home (hsrcKept.trans hsrc) hlock (by rw [hpos, hper]) hvel hfloor]
    exact signed64_unsigned_signed _

end Sys2Proof.Machine
end

section
-- One proof after another: elaborated side by side, the proofs of the whole text do not fit in the check's memory.
set_option Elab.async false
/-! The phase trackers: their enable, homing, holds and source events (R228 to R238). -/

namespace Sys2Proof.Machine

variable {s t : State} {src : Src} {k : Trk} {v : Word} {a b : Bool} {ev : TrkEvent}

/-- The registers that enabling, disabling and losing a tracker may change. -/
abbrev trackerNames : List RegName := [.TRK_CTRL, .TRK_STATUS, .TRK_PHASE_LO, .TRK_PHASE_HI, .TRK_VEL, .SCHED_TRK_CFG, .SCHED_TRK_EXTREME_LO,
    .SCHED_TRK_EXTREME_HI]

/-! ### ENABLE (R233, R240) -/

/-- The bytes outside the context memory stay. -/
def OutsideKept (s t : State) : Prop := ∀ a, (a < 0x400000 ∨ 0x440000 ≤ a) → t.byte a = s.byte a

theorem OutsideKept.frame : Frame OutsideKept := ⟨fun _ _ _ => rfl, fun h1 h2 a ha => (h2 a ha).trans (h1 a ha)⟩

theorem OutsideKept.of_mem (h : t.mem = s.mem) : OutsideKept s t := fun a _ => congrArg (Sparse.get memDefault · a) h

theorem Act.Keeps.outside {x : Act} (h : x.Keeps JumpsAlone) : x.Keeps OutsideKept := fun s => (h s).bytes

theorem Act.judgePhase_jumpsAlone {n : Fin 4} : (Act.judgePhase n).Keeps JumpsAlone :=
  Act.keeps_look fun _ => Act.keeps_when JumpsAlone.frame (Act.keeps_all JumpsAlone.frame ⟨Act.schedMove_jumpsAlone, Act.judgeFresh_jumpsAlone⟩)

theorem Act.trkHold_jumpsAlone {first : Bool} : (Act.trkHold k first).Keeps JumpsAlone :=
  Act.keeps_look fun _ => Act.keeps_when JumpsAlone.frame (Act.keeps_look fun _ =>
    Act.keeps_andThen JumpsAlone.frame Act.judgePhase_jumpsAlone Act.setSched_jumpsAlone)

theorem Act.trkStart_outside : (Act.trkStart k).Keeps OutsideKept := by
  have hset : ∀ f v, (Act.setF f v k).Keeps OutsideKept := fun f v s => .of_mem (Act.setF_mem f v k 0 0 s)
  exact Act.keeps_look fun _ => Act.keeps_all OutsideKept.frame ⟨hset _ _, fun _ => .of_mem rfl, Act.keeps_look fun _ _ => .of_mem rfl, hset _ _, hset _ _,
    hset _ _, hset _ _, Act.trkHold_jumpsAlone.outside, Act.trkPresent_jumpsAlone.outside⟩

/-- R233: the marks of a tracker that starts to search. -/
def Act.searchMarks (k : Trk) (rev : Bool) : Act := .all [.setF F.TRK_STATUS_LOCK lockSearch k, .setB F.TRK_STATUS_HOMED false k,
  .setB F.TRK_STATUS_STOPPED false k, .setB F.TRK_STATUS_DIR rev k]

theorem Within.trkHold_phase {first : Bool} : Within phaseNames [] judgeParts (.trkHold k first) := .look fun _ => .when Within.holdTracker

theorem Act.searchMarks_marks (rev : Bool) (s : State) : let t := (Act.searchMarks k rev).run s
    t.trkLock k = lockSearch ∧ t.b F.TRK_STATUS_HOMED k = false := by
  simp +decide [Act.searchMarks, State.trkLock]

/-- R233: what a tracker that starts to search at HOME_VALUE holds. -/
def TrkSt.searching (x : TrkSt) (pos hv : Int) (clk time : Nat) : TrkSt :=
  { pos := pos, at_ := clk, floor := hv, hist := [], vel := 0, a := false, b := false,
    bad := 0, good := 0, angle := none, org := 0, crossing := none, period := 0, offset := 0,
    t0 := time, demod := [], inbox := [], lastIn := clk, spacing := 0, sinD := .clear, cosD := .clear
    holdFrom := 0, holdAt := 0, homed := none, segs := x.segs }

/-- R233: a tracker is enabled, before its lock state changes. -/
def Act.trkEnabled (k : Trk) (s : State) : Act := .all [.setB F.TRK_CTRL_ENABLE true k,
  .setTrk k fun x => x.searching (s.homeValue k * s.trkDen k) (s.homeValue k) s.clk s.time, .pushSeg k s.clk (s.phase k) (s.homeValue k) 0]

theorem Within.trkEnabled : Within [.TRK_CTRL] [] [.trk] (.trkEnabled k s) := .all ⟨.setB, .setTrk, .look fun _ => .setTrk⟩

theorem Act.trkEnabled_enabled (s : State) : ((Act.trkEnabled k s).run s).b F.TRK_CTRL_ENABLE k = true := by
  rw [Act.trkEnabled, Act.all_b_head (.all (by exact ⟨.upd fun _ => rfl, .look fun _ => .upd fun _ => rfl⟩))]
  exact Act.setB_b_at (n := .TRK_CTRL) valid_trk _ _

theorem Act.trkStart_run (s : State) : (Act.trkStart k).run s = (Act.trkPresent k).run ((Act.trkHold k true).run
    ((Act.searchMarks k (s.trkSrc k == srcTime && s.b F.TRK_CFG_INVERT k)).run ((Act.trkEnabled k s).run s))) := by
  simp only [Act.trkStart, Act.trkEnabled, Act.searchMarks, TrkSt.searching, Act.look_run, Act.all_cons_run, Act.all_nil_run]

/-- What enabling a tracker leaves (R233). -/
structure Started (k : Trk) (s t : State) : Prop where
  enabled : t.b F.TRK_CTRL_ENABLE k = true
  phase : t.phase k = s.homeValue k
  lock : t.trkLock k = lockSearch
  homed : t.b F.TRK_STATUS_HOMED k = false
  vel : t.f F.TRK_VEL_VEL k = 0
  kept : NamesKept trackerNames s t
  bytes : OutsideKept s t

theorem Within.searchMarks {rev : Bool} : Within [.TRK_STATUS] [] [] (.searchMarks k rev) := .all ⟨.setF, .setB, .setB, .setB⟩

theorem Within.trkStart : Within trackerNames [] trackParts (.trkStart k) := fun s => by
  rw [Act.trkStart_run]
  exact ((((Within.trkEnabled s).mono).trans ((Within.searchMarks _).mono)).trans ((Within.trkHold _).mono)).trans ((Within.trkPresent _).mono)

theorem Act.trkStart_started (s : State) : Started k s ((Act.trkStart k).run s) := by
  obtain ⟨hlock, hhomed⟩ := Act.searchMarks_marks (k := k) (s.trkSrc k == srcTime && s.b F.TRK_CFG_INVERT k) ((Act.trkEnabled k s).run s)
  have hmarks := Within.searchMarks (k := k) (rev := s.trkSrc k == srcTime && s.b F.TRK_CFG_INVERT k) ((Act.trkEnabled k s).run s)
  have hhold := Within.trkHold_phase (k := k) (first := true) ((Act.searchMarks k (s.trkSrc k == srcTime && s.b F.TRK_CFG_INVERT k)).run
    ((Act.trkEnabled k s).run s))
  have hpresent := Within.trkPresent (k := k)
  have hlocked := (hhold.f_eq _ _ _).trans hlock
  have hvelLock : Leaves F.TRK_STATUS_LOCK (.trkPresent k) := Leaves.trkPresent
  have hvel : ∀ x, Leaves F.TRK_STATUS_HOMED (.setVel k x) := fun _ => Leaves.setVel
  have hphase : ∀ x, Leaves F.TRK_STATUS_HOMED (.setPhase k x) := fun _ => Leaves.setPhase
  constructor
  case kept => exact (Within.trkStart s).namesKept
  case bytes => exact Act.trkStart_outside s
  all_goals rw [Act.trkStart_run]
  case enabled =>
    rw [(hpresent _).b_eq _ _ _, hhold.b_eq _ _ _, hmarks.b_eq _ _ _]
    exact Act.trkEnabled_enabled s
  case lock => exact (hvelLock _ _ _ _).trans hlocked
  all_goals rw [Act.trkPresent_search hlocked]
  case phase =>
    have hvalue : ((Act.trkHold k true).run ((Act.searchMarks k (s.trkSrc k == srcTime && s.b F.TRK_CFG_INVERT k)).run
        ((Act.trkEnabled k s).run s))).homeValue k = s.homeValue k := by
      have hin := ((Within.trkEnabled (k := k) (s := s) s).mono (l' := trackerNames) (rs' := [])).trans ((hmarks.mono).trans (hhold.mono (ps' := trackParts)))
      rw [State.homeValue, State.homeValue, hin.f_eq _ _ _, hin.f_eq _ _ _]
    rw [State.phase_setVel, State.phase_setPhase, hvalue]
    exact signed64_unsigned_signed _
  case homed =>
    rw [(hvel _).b, (hphase _).b, hhold.b_eq _ _ _]
    exact hhomed
  case vel => exact Act.setVel_zero _

/-- R233, R237 to R240: what a write of TRK.CTRL that is taken asks for. -/
def Act.ctrlActs (k : Trk) (start stop home disarm arm : Bool) : Act := .all [.when start (.trkStart k), .when stop (.trkStop k), .when home (.home k 0),
  .when disarm (.setB F.TRK_STATUS_ARMED false k), .when arm (.setB F.TRK_STATUS_ARMED true k)]

theorem Act.trkCtrl_run {on was home disarm arm : Bool} (hon : (F.TRK_CTRL_ENABLE.of v == 1) = on) (hwas : s.b F.TRK_CTRL_ENABLE k = was)
    (hhome : (F.TRK_CTRL_HOME_NOW.of v == 1) = home) (hdisarm : (F.TRK_CTRL_DISARM.of v == 1) = disarm) (harm : (F.TRK_CTRL_ARM.of v == 1) = arm)
    (hstart : (on && !was && (!s.released || !s.trkValid k)) = false) (hlock : (home && !(on && was && s.trkLock k == lockLocked)) = false)
    (hsrc : (arm && s.f F.TRK_HOME_CFG_HOME_SRC k == 0) = false) :
    (Act.trkCtrl k v).run s = Act.accept.run ((Act.ctrlActs k (on && !was) (!on && was) home disarm arm).run s) := by
  rw [Act.trkCtrl, Act.look_run]
  dsimp only
  rw [hon, hwas, hhome, hdisarm, harm, hstart, hlock, hsrc, if_neg (by decide)]
  simp only [Act.ctrlActs, Act.all_cons_run, Act.all_nil_run]

/-- R237: DISARM, where a write asks for it. -/
def Act.homeDisarm (k : Trk) (c : Bool) : Act := .when c (.setB F.TRK_STATUS_ARMED false k)

theorem Within.homeDisarm {c : Bool} : Within [.TRK_STATUS] [] [] (.homeDisarm k c) := .when .setB

theorem Leaves.homeDisarm {f : Fld} {c : Bool} (h : F.TRK_STATUS_ARMED.spares f = true := by decide) (hm : f.inMask = true := by decide) :
    Leaves f (.homeDisarm k c) := .when (.setB h hm)

/-- R237: without KEEP_FRAC a home event jumps to HOME_VALUE. -/
theorem unsigned_homeNew {age : Int} (hwhole : s.b F.TRK_HOME_CFG_KEEP_FRAC k = false) :
    unsigned 64 (s.homeNew k age) % 2 ^ 32 = s.f F.TRK_HOME_VALUE_LO_HOME_VALUE k ∧
    unsigned 64 (s.homeNew k age) / 2 ^ 32 = s.f F.TRK_HOME_VALUE_HI_HOME_VALUE k := by
  have hlo : s.f F.TRK_HOME_VALUE_LO_HOME_VALUE k < 2 ^ 32 := Fld.of_lt _ _
  have hhi : s.f F.TRK_HOME_VALUE_HI_HOME_VALUE k < 2 ^ 32 := Fld.of_lt _ _
  rw [State.homeNew, hwhole, if_neg (by decide), State.homeValue, unsigned_signed (by omega)]
  omega

/-- The write asks neither for HOME_NOW nor for an arming or a disarming. -/
def QuietCtrl (v : Word) : Prop := F.TRK_CTRL_HOME_NOW.of v = 0 ∧ F.TRK_CTRL_ARM.of v = 0 ∧ F.TRK_CTRL_DISARM.of v = 0

section
variable (hw : s.takesReg src .TRK_CTRL k)
include hw

theorem enable_answers (hquiet : QuietCtrl v) (hon : F.TRK_CTRL_ENABLE.of v = 1) (hwas : s.b F.TRK_CTRL_ENABLE k = false) (hreleased : s.released = true)
    (hvalid : s.trkValid k = true) : Answers (.trackerEnable src k v) s fun t =>
      t.resp = .ok 0 ∧ t.b F.TRK_CTRL_ENABLE k = true ∧ t.phase k = s.homeValue k ∧
      t.trkLock k = lockSearch ∧ t.b F.TRK_STATUS_HOMED k = false ∧ t.f F.TRK_VEL_VEL k = 0 ∧
      NamesKept trackerNames s t ∧ ∀ a, (a < 0x400000 ∨ 0x440000 ≤ a) → t.byte a = s.byte a := by
  obtain ⟨hhome, harm, hdisarm⟩ := hquiet
  have heffect : (Act.trkCtrl k v).run s = Act.accept.run ((Act.trkStart k).run s) := by
    rw [Act.trkCtrl_run (on := true) (was := false) (home := false) (disarm := false) (arm := false) (by rw [hon]; rfl) hwas (by rw [hhome]; rfl)
      (by rw [hdisarm]; rfl) (by rw [harm]; rfl) (by rw [hreleased, hvalid]; rfl) rfl rfl]
    rfl
  have hrun := Act.writeTo_accepted (d := 0) hw (a := Act.trkCtrl k v) (by rw [heffect]; rfl)
  obtain ⟨henabled, hphase, hlock, hhomed, hvel, hkept, hbytes⟩ := Act.trkStart_started (k := k) s
  refine ⟨_, rfl, ?_⟩
  rw [hrun, heffect]
  generalize (Act.trkStart k).run s = u at henabled hphase hlock hhomed hvel hkept hbytes
  exact ⟨rfl, henabled, hphase, hlock, hhomed, hvel, hkept, hbytes⟩

theorem disable_answers (hquiet : QuietCtrl v) (hoff : F.TRK_CTRL_ENABLE.of v = 0) (hwas : s.b F.TRK_CTRL_ENABLE k = true) :
    Answers (.trackerEnable src k v) s fun t =>
      t.resp = .ok 0 ∧ t.b F.TRK_CTRL_ENABLE k = false ∧ t.trkLock k = lockOff ∧ NamesKept trackerNames s t := by
  obtain ⟨hhome, harm, hdisarm⟩ := hquiet
  have heffect : (Act.trkCtrl k v).run s = Act.accept.run ((Act.trkStop k).run s) := by
    rw [Act.trkCtrl_run (on := false) (was := true) (home := false) (disarm := false) (arm := false) (by rw [hoff]; rfl) hwas (by rw [hhome]; rfl)
      (by rw [hdisarm]; rfl) (by rw [harm]; rfl) rfl rfl rfl]
    rfl
  have hrun := Act.writeTo_accepted (d := 0) hw (a := Act.trkCtrl k v) (by rw [heffect]; rfl)
  have hin : Within trackerNames [] trackParts (.trkStop k) := .look fun _ =>
    .all ⟨Within.trkPresent.mono, Within.trkHold.mono, .setB, .setF, .look fun _ => .look fun _ => .setTrk⟩
  refine ⟨_, rfl, ?_⟩
  rw [hrun, heffect]
  refine ⟨rfl, ?_, ?_, (hin s).namesKept⟩
  · rw [State.b, Act.accept_f, ← State.b, Act.trkStop, Act.look_run, Act.all_cons_run, Act.all_cons_run, Act.all_b_head (.all (by
      exact ⟨.of_within (l := [.TRK_STATUS]) (ps := []) .setF, .look fun _ => .look fun _ => .upd fun _ => rfl⟩))]
    exact Act.setB_b_at (n := .TRK_CTRL) valid_trk _ _
  · rw [State.trkLock, Act.accept_f, Act.trkStop, Act.look_run, Act.all_cons_run, Act.all_cons_run, Act.all_cons_run, Act.all_cons_run,
      Act.all_cons_run, Act.all_nil_run, Act.look_run, Act.pushSeg, Act.look_run, Act.setTrk_f]
    exact Act.setF_f_at (n := .TRK_STATUS) valid_trk _ _

theorem enable_refused (hon : F.TRK_CTRL_ENABLE.of v = 1) (hwas : s.b F.TRK_CTRL_ENABLE k = false)
    (hbad : s.released = false ∨ s.trkValid k = false) : Answers (.trackerEnable src k v) s fun t =>
      t.resp = .error ∧ Counted F.TIDE_REFUSED_COUNT s t ∧ NamesKept [.TIDE_REFUSED, .FAB_PORT_ERR] s t ∧ OnlyRegs s t := by
  have hcond : (!s.released || !s.trkValid k) = true := by rcases hbad with h | h <;> simp [h]
  refine ⟨_, rfl, Act.writeTo_refused hw (a := Act.trkCtrl k v) (f := F.TIDE_REFUSED_COUNT) ?_ (by decide)⟩
  rw [Act.trkCtrl, Act.look_run]
  dsimp only
  rw [if_pos (by rw [hon, hwas, hcond]; rfl), Act.tideRefuse]

theorem homeNow_answers (hon : F.TRK_CTRL_ENABLE.of v = 1) (hhome : F.TRK_CTRL_HOME_NOW.of v = 1) (harm : F.TRK_CTRL_ARM.of v = 0)
    (hwas : s.b F.TRK_CTRL_ENABLE k = true) (hlock : s.trkLock k = lockLocked) (hfirst : s.trk[k].homed ≠ some s.clk) :
    Answers (.homeNow src k v) s fun t =>
      t.resp = .ok 0 ∧ t.b F.TRK_STATUS_HOMED k = true ∧ t.b F.TRK_STATUS_HOME_DONE k = true ∧ t.b F.TRK_STATUS_JUMPED k = true ∧
      t.f F.TRK_JUMP_CAUSE_JUMP_CAUSE k = 1 ∧ Counted F.TRK_STATUS_JUMP_COUNT s t k ∧
      (s.b F.TRK_HOME_CFG_KEEP_FRAC k = false → t.f F.TRK_JUMP_TO_LO_JUMP_TO k = s.f F.TRK_HOME_VALUE_LO_HOME_VALUE k ∧
        t.f F.TRK_JUMP_TO_HI_JUMP_TO k = s.f F.TRK_HOME_VALUE_HI_HOME_VALUE k ∧ t.phase k = s.homeValue k) := by
  have heffect : (Act.trkCtrl k v).run s = Act.accept.run ((Act.homeDisarm k (F.TRK_CTRL_DISARM.of v == 1)).run ((Act.homeAt k 0 none).run s)) := by
    have hrun : (Act.home k 0).run s = (Act.homeAt k 0 none).run s := by rw [Act.home, Act.look_run, if_pos hfirst]
    rw [Act.trkCtrl_run (on := true) (was := true) (home := true) (disarm := F.TRK_CTRL_DISARM.of v == 1) (arm := false) (by rw [hon]; rfl) hwas
      (by rw [hhome]; rfl) rfl (by rw [harm]; rfl) rfl (by rw [hlock]; rfl) rfl, ← hrun]
    rfl
  have hrun := Act.writeTo_accepted (d := 0) hw (a := Act.trkCtrl k v) (by rw [heffect]; rfl)
  have hdisarm := Within.homeDisarm (k := k) (c := F.TRK_CTRL_DISARM.of v == 1)
  obtain ⟨hhomed, hdone, -, hjumped, hcause, hcount, hlow, hhigh⟩ := Act.homeAt_homed (k := k) hlock 0
  have hphase := Act.homeAt_phase (k := k) hlock
  refine ⟨_, rfl, ?_⟩
  rw [hrun, heffect]
  generalize (Act.homeAt k 0 none).run s = u at hhomed hdone hjumped hcause hcount hlow hhigh hphase
  refine ⟨rfl, ?_, ?_, ?_, ?_, ?_, fun hwhole => ⟨?_, ?_, ?_⟩⟩
  · exact (Leaves.b Leaves.homeDisarm _ _ _ _).trans hhomed
  · exact (Leaves.b Leaves.homeDisarm _ _ _ _).trans hdone
  · exact (Leaves.b Leaves.homeDisarm _ _ _ _).trans hjumped
  · exact ((hdisarm u).f_eq _ _ _).trans hcause
  · have hkept : Leaves F.TRK_STATUS_JUMP_COUNT (.homeDisarm k (F.TRK_CTRL_DISARM.of v == 1)) := Leaves.homeDisarm
    exact (hkept _ _ _ _).trans hcount
  · exact ((hdisarm u).f_eq _ _ _).trans (hlow.trans (unsigned_homeNew hwhole).1)
  · exact ((hdisarm u).f_eq _ _ _).trans (hhigh.trans (unsigned_homeNew hwhole).2)
  · refine (State.phase_of_names (hdisarm u)).trans (hphase.trans ?_)
    rw [State.homeNew, hwhole]
    exact signed64_unsigned_signed _

theorem homeArm_answers (hhome : F.TRK_CTRL_HOME_NOW.of v = 0) (harm : F.TRK_CTRL_ARM.of v = 1)
    (hsame : (F.TRK_CTRL_ENABLE.of v == 1) = s.b F.TRK_CTRL_ENABLE k) (hsrc : s.f F.TRK_HOME_CFG_HOME_SRC k ≠ 0) :
    Answers (.homeArm src k v) s fun t =>
      t.resp = .ok 0 ∧ t.b F.TRK_STATUS_ARMED k = true ∧ RegsKept [⟨.TRK_STATUS, k, 0, 0⟩] s t ∧ OnlyRegs s t := by
  have heffect : (Act.trkCtrl k v).run s = (Act.all [.homeDisarm k (F.TRK_CTRL_DISARM.of v == 1), .setB F.TRK_STATUS_ARMED true k, .accept]).run s := by
    rw [Act.trkCtrl_run (home := false) (arm := true) hsame rfl (by rw [hhome]; rfl) rfl (by rw [harm]; rfl) (by cases s.b F.TRK_CTRL_ENABLE k <;> rfl) rfl
      (by rw [beq_false_of_ne hsrc]; rfl), Bool.and_not_self, Bool.not_and_self]
    rfl
  have hrun := Act.writeTo_accepted (d := 0) hw (a := Act.trkCtrl k v) (by rw [heffect]; rfl)
  have hin : Within [] [⟨.TRK_STATUS, k, 0, 0⟩] [.resp] (.all [.homeDisarm k (F.TRK_CTRL_DISARM.of v == 1), .setB F.TRK_STATUS_ARMED true k, .accept]) :=
    .all ⟨.when .setBAt, .setBAt, .accept⟩
  refine ⟨_, rfl, ?_⟩
  rw [hrun, heffect]
  refine ⟨rfl, ?_, (hin s).regsKept, (hin s).rest⟩
  rw [Act.all_cons_run, Act.all_cons_run, Act.all_cons_run, Act.all_nil_run, State.b, Act.accept_f]
  exact Act.setB_b_at (n := .TRK_STATUS) valid_trk _ _

theorem homeArm_refused (harm : F.TRK_CTRL_ARM.of v = 1) (hsrc : s.f F.TRK_HOME_CFG_HOME_SRC k = 0) : Answers (.homeArm src k v) s fun t =>
      t.resp = .error ∧ Counted F.TIDE_REFUSED_COUNT s t ∧ NamesKept [.TIDE_REFUSED, .FAB_PORT_ERR] s t ∧ OnlyRegs s t := by
  refine ⟨_, rfl, Act.writeTo_refused hw (a := Act.trkCtrl k v) (f := F.TIDE_REFUSED_COUNT) ?_ (by decide)⟩
  rw [Act.trkCtrl, Act.look_run]
  dsimp only
  rw [harm, hsrc, beq_self_eq_true, beq_self_eq_true, Bool.and_self, Bool.or_true, if_pos rfl, Act.tideRefuse]

theorem homeDisarm_answers (hhome : F.TRK_CTRL_HOME_NOW.of v = 0) (harm : F.TRK_CTRL_ARM.of v = 0) (hdisarm : F.TRK_CTRL_DISARM.of v = 1)
    (hsame : (F.TRK_CTRL_ENABLE.of v == 1) = s.b F.TRK_CTRL_ENABLE k) : Answers (.homeDisarm src k v) s fun t =>
      t.resp = .ok 0 ∧ t.b F.TRK_STATUS_ARMED k = false ∧ RegsKept [⟨.TRK_STATUS, k, 0, 0⟩] s t ∧ OnlyRegs s t := by
  have heffect : (Act.trkCtrl k v).run s = (Act.all [.setB F.TRK_STATUS_ARMED false k, .accept]).run s := by
    rw [Act.trkCtrl_run (home := false) (arm := false) (disarm := true) hsame rfl (by rw [hhome]; rfl) (by rw [hdisarm]; rfl) (by rw [harm]; rfl)
      (by cases s.b F.TRK_CTRL_ENABLE k <;> rfl) rfl rfl, Bool.and_not_self, Bool.not_and_self]
    rfl
  have hrun := Act.writeTo_accepted (d := 0) hw (a := Act.trkCtrl k v) (by rw [heffect]; rfl)
  have hin : Within [] [⟨.TRK_STATUS, k, 0, 0⟩] [.resp] (.all [.setB F.TRK_STATUS_ARMED false k, .accept]) := .all ⟨.setBAt, .accept⟩
  refine ⟨_, rfl, ?_⟩
  rw [hrun, heffect]
  refine ⟨rfl, ?_, (hin s).regsKept, (hin s).rest⟩
  rw [Act.all_cons_run, Act.all_cons_run, Act.all_nil_run, State.b, Act.accept_f]
  exact Act.setB_b_at (n := .TRK_STATUS) valid_trk _ _

end

/-! ### Lock, hold and loss (R233, R236) -/

theorem absolute_locks (hlock : s.trkLock k = lockSearch) (hsrc : s.trkSrc k = srcTime ∨ s.trkSrc k = srcScale) :
    let u := (Act.trkAbsolute k).run s
    u.trkLock k = lockLocked ∧ u.b F.TRK_STATUS_HOMED k = true ∧ NamesKept trackerNames s u := by
  have hcond : (s.trkLock k == lockSearch && (s.trkSrc k == srcTime || s.trkSrc k == srcScale)) = true := by simpa [hlock] using hsrc
  have hback : ∀ p, Within [] [] [.sched] (.holdBack k p) := fun _ => Within.holdBack
  have hpresent : Leaves F.TRK_STATUS_LOCK (.trkPresent k) := Leaves.trkPresent
  have hin : Within trackerNames [] trackParts (.all [.setF F.TRK_STATUS_LOCK lockLocked k, .setB F.TRK_STATUS_HOMED true k, .trkPresent k,
      .look fun s => .holdBack k (s.phase k)]) := .all ⟨.setF, .setB, Within.trkPresent.mono, .look fun _ => (Within.holdBack (l := [])).mono⟩
  have hmarks : ((Act.setB F.TRK_STATUS_HOMED true k).run ((Act.setF F.TRK_STATUS_LOCK lockLocked k).run s)).trkLock k = lockLocked :=
    (Act.setF_f_kept _ _ (by decide) (by decide)).trans (Act.setF_f_at (n := .TRK_STATUS) valid_trk _ _)
  rw [Act.trkAbsolute, Act.look_run, hcond, Act.when_true_run]
  refine ⟨?_, ?_, (hin s).namesKept⟩
  all_goals rw [Act.all_cons_run, Act.all_cons_run, Act.all_cons_run, Act.all_cons_run, Act.all_nil_run, Act.look_run]
  · exact ((hback _ _).f_eq _ _ _).trans ((hpresent _ _ _ _).trans hmarks)
  · rw [(hback _ _).b_eq _ _ _, Act.trkPresent_homed hmarks]
    exact Act.setB_b_at (n := .TRK_STATUS) valid_trk _ _

theorem holdEntry_answers (hlock : s.trkLock k = lockLocked) (hsilent : s.sourceSilent k = true) : Answers (.trackerHoldEntry k) s fun t =>
    t.trkLock k = (if s.f F.TRK_TIMING_HOLD_TIME k = 0 then lockLost else lockHold) ∧ t.b F.TRK_STATUS_LOCK_LOST k = true ∧
    NamesKept trackerNames s t := by
  have hrun : (Act.trkHoldEntry k).run s = (Act.trkLose k).run s := by
    rw [Act.trkHoldEntry, Act.look_run, hlock, hsilent, beq_self_eq_true, Bool.and_self, Act.when_true_run]
  have hin : Within trackerNames [] trackParts (.trkLose k) := Within.trkLose.mono
  obtain ⟨hlost, hmark⟩ := Act.trkLose_lock (k := k) s
  refine ⟨(Act.trkHoldEntry k).run s, rfl, ?_⟩
  rw [hrun]
  exact ⟨hlost, hmark, (hin s).namesKept⟩

theorem holdTimeout_answers (hlock : s.trkLock k = lockHold) (hlate : s.trk[k].holdAt + s.f F.TRK_TIMING_HOLD_TIME k * 163840 ≤ s.clk) :
    Answers (.trackerHoldTimeout k) s fun t =>
    t.trkLock k = lockLost ∧ t.b F.TRK_STATUS_LOCK_LOST k = true ∧ t.f F.TRK_VEL_VEL k = 0 ∧
    (s.trkSrc k ≠ srcScale → t.b F.TRK_STATUS_HOMED k = false) ∧
    (s.trkSrc k = srcScale → t.b F.TRK_STATUS_HOMED k = s.b F.TRK_STATUS_HOMED k) ∧ NamesKept trackerNames s t := by
  have hrun : (Act.trkHoldTimeout k).run s = (Act.trkEnterLost k).run s := by
    rw [Act.trkHoldTimeout, Act.look_run, hlock, decide_eq_true hlate, beq_self_eq_true, Bool.and_self, Act.when_true_run]
  have hin : Within trackerNames [] trackParts (.trkEnterLost k) := Within.trkEnterLost.mono
  obtain ⟨hlost, hmark, hvel, hhomed, hscale⟩ := Act.trkEnterLost_lost (k := k) s
  refine ⟨(Act.trkHoldTimeout k).run s, rfl, ?_⟩
  rw [hrun]
  exact ⟨hlost, hmark, hvel, hhomed, hscale, (hin s).namesKept⟩

/-! ### Encoders (R234) -/

section
variable (hsrc : s.trkSrc k = srcEncoder)
include hsrc

theorem encoderLost_answers (hlock : s.trkLock k = lockLocked)
    (hlost : (s.pairFor (s.f F.TRK_CFG_SEL_A k) true 164 || s.pairFor (s.f F.TRK_CFG_SEL_B k) true 164) = true) :
    Answers (.encoderFailsafeLost k) s fun t =>
      t.trkLock k = lockLost ∧ t.b F.TRK_STATUS_HOMED k = false ∧ t.f F.TRK_VEL_VEL k = 0 ∧ NamesKept trackerNames s t := by
  have hrun : (Act.encoderLost k).run s = (Act.trkEnterLost k).run s := by
    rw [Act.encoderLost, Act.look_run, hlock, hlost, hsrc, beq_self_eq_true, beq_self_eq_true, Bool.and_self, Bool.and_self, Act.when_true_run]
  have hin : Within trackerNames [] trackParts (.trkEnterLost k) := Within.trkEnterLost.mono
  obtain ⟨hlostNow, -, hvel, hhomed, -⟩ := Act.trkEnterLost_lost (k := k) s
  refine ⟨(Act.encoderLost k).run s, rfl, ?_⟩
  rw [hrun]
  exact ⟨hlostNow, hhomed (by rw [hsrc]; decide), hvel, (hin s).namesKept⟩

omit hsrc in
theorem Within.trkFirstLock {x pos : Int} : Within trackerNames [] trackParts (.trkFirstLock k x pos) :=
  .look fun _ => .all ⟨.setF, .setTrk, .look fun _ => .setTrk, Within.trkPresent.mono, (Within.holdBack (l := [])).mono⟩

theorem encoderLock_answers (hlock : s.trkLock k = lockSearch) (ha : s.pairFor (s.f F.TRK_CFG_SEL_A k) false 0 = true)
    (hb : s.pairFor (s.f F.TRK_CFG_SEL_B k) false 0 = true) : Answers (.encoderValidLock k) s fun t =>
      t.trkLock k = lockLocked ∧ t.phase k = s.homeValue k ∧ NamesKept trackerNames s t := by
  have hrun : (Act.encoderLock k).run s = (Act.trkFirstLock k s.clk (s.homeValue k * s.trkDen k)).run s := by
    have hsearch : ¬ lockSearch = lockLost := by decide
    simp only [Act.encoderLock, Act.look_run, hlock, hsrc, hsearch, if_false, ha, hb, beq_self_eq_true, Bool.true_or, Bool.and_self, Act.when_true_run]
  obtain ⟨hlocked, hphase⟩ := Act.trkFirstLock_home hsrc s.clk
  refine ⟨(Act.encoderLock k).run s, rfl, ?_⟩
  rw [hrun]
  exact ⟨hlocked, hphase, (Within.trkFirstLock s).namesKept⟩

/-- R234: an encoder that stops holds its presented phase. -/
def TrkSt.stopped (x : TrkSt) (p : Int) : TrkSt := { x with vel := 0, floor := p }

omit hsrc in
/-- R234: a stopped encoder presents the velocity 0. -/
theorem trkVel_stopped (h : s.trkSrc k = srcEncoder) (hstopped : s.b F.TRK_STATUS_STOPPED k = true) : s.trkVel k = 0 := by
  rw [State.trkVel, h, hstopped]
  rfl

/-- R230: an encoder stops, before it is presented. -/
def Act.stopMarks (k : Trk) (p now : Int) : Act :=
  .all [.setB F.TRK_STATUS_STOPPED true k, .setTrk k fun x => x.stopped p, .pushSeg k now p p 0]

omit hsrc in
theorem Within.stopMarks {p now : Int} : Within [.TRK_STATUS] [] [.trk] (.stopMarks k p now) := .all ⟨.setB, .setTrk, .look fun _ => .setTrk⟩

omit hsrc in
theorem Act.stopMarks_stopped (p now : Int) (s : State) : ((Act.stopMarks k p now).run s).b F.TRK_STATUS_STOPPED k = true ∧
    ((Act.stopMarks k p now).run s).trkLock k = s.trkLock k := by
  rw [Act.stopMarks, Act.all_cons_run, Act.all_cons_run, Act.all_cons_run, Act.all_nil_run, Act.pushSeg, Act.look_run, State.b, State.trkLock, Act.setTrk_f,
    Act.setTrk_f, Act.setTrk_f, Act.setTrk_f]
  exact ⟨Act.setB_b_at (n := .TRK_STATUS) valid_trk _ _, Act.setF_f_kept _ _ (by decide) (by decide)⟩

theorem encoderStop_answers (hlock : s.trkLock k = lockLocked) (hlate : s.trk[k].at_ + s.f F.TRK_TIMING_STOP_TIME k * 16384 ≤ s.clk) :
    Answers (.encoderStopTimeout k) s fun t =>
      t.b F.TRK_STATUS_STOPPED k = true ∧ t.f F.TRK_VEL_VEL k = 0 ∧ t.trkLock k = lockLocked ∧ NamesKept trackerNames s t := by
  have hrun : (Act.encoderStop k).run s = (Act.trkPresent k).run ((Act.stopMarks k (s.trkPresented k) s.clk).run s) := by
    simp only [Act.encoderStop, Act.look_run, hlock, hsrc, beq_self_eq_true, decide_eq_true hlate, Bool.and_self, Act.when_true_run, Act.all_cons_run,
      Act.all_nil_run, Act.stopMarks, TrkSt.stopped]
  have hin : Within trackerNames [] trackParts (.encoderStop k) :=
    .look fun _ => .when (.all ⟨.setB, .setTrk, .look fun _ => .setTrk, Within.trkPresent.mono⟩)
  obtain ⟨hstopped, hkept⟩ := Act.stopMarks_stopped (k := k) (s.trkPresented k) s.clk s
  have hsource : ((Act.stopMarks k (s.trkPresented k) s.clk).run s).trkSrc k = srcEncoder := ((Within.stopMarks s).f_eq _ _ _).trans hsrc
  have hlocked := hkept.trans hlock
  refine ⟨(Act.encoderStop k).run s, rfl, ?_, ?_, ?_, (hin s).namesKept⟩
  all_goals rw [hrun]
  · have hpresent : Leaves F.TRK_STATUS_STOPPED (.trkPresent k) := Leaves.trkPresent
    exact (hpresent.b _ _ _ _).trans hstopped
  · rw [Act.trkPresent_locked hlocked, trkVel_stopped hsource hstopped]
    exact Act.setVel_zero _
  · have hpresent : Leaves F.TRK_STATUS_LOCK (.trkPresent k) := Leaves.trkPresent
    exact (hpresent _ _ _ _).trans hlocked

theorem quadEvent_error (hlock : s.trkLock k ≠ lockOff) (ha : a ≠ s.trk[k].a) (hb : b ≠ s.trk[k].b) :
    Answers (.trackerSourceEvent k (.quad a b false)) s fun t =>
      t.b F.TRK_STATUS_QERR k = true ∧ Counted F.TRK_STATUS_QERR_COUNT s t k ∧ t.b F.TRK_STATUS_HOMED k = false ∧
      t.trk[k] = { s.trk[k] with a := a, b := b } ∧ RegsKept [⟨.TRK_STATUS, k, 0, 0⟩] s t := by
  have hrun : (Act.trkEvent k (.quad a b false)).run s = (Act.all [.setTrk k fun x => { x with a := a, b := b }, .setB F.TRK_STATUS_QERR true k,
      .count F.TRK_STATUS_QERR_COUNT 1 k, .setB F.TRK_STATUS_HOMED false k]).run s := by
    simp only [Act.trkEvent, Act.look_run, bne_iff_ne.mpr hlock, hsrc, beq_self_eq_true, Act.when_true_run, Act.quadEvent, ne_eq, ha, hb,
      not_false_eq_true, and_self, if_true]
  have hin : Within [] [⟨.TRK_STATUS, k, 0, 0⟩] [.trk] (.all [.setTrk k fun x => { x with a := a, b := b }, .setB F.TRK_STATUS_QERR true k,
      .count F.TRK_STATUS_QERR_COUNT 1 k, .setB F.TRK_STATUS_HOMED false k]) := .all ⟨.setTrk, .setBAt, .countAt, .setBAt⟩
  refine ⟨(Act.trkEvent k (.quad a b false)).run s, rfl, ?_⟩
  rw [hrun]
  refine ⟨?_, ?_, ?_, ?_, (hin s).regsKept⟩
  · simp +decide
  · simp +decide [Counted]
  · simp +decide
  · rw [Act.all_cons_run, Act.all_cons_run, Act.all_cons_run, Act.all_cons_run, Act.all_nil_run]
    exact (congrArg (·[k]) ((Act.setF_trk _ _ _ _ _ _).trans ((Act.count_trk _ _ _ _ _ _).trans (Act.setF_trk _ _ _ _ _ _)))).trans
      (Act.setTrk_same _ _ _)

omit hsrc in
theorem quadStep_ne_zero {a0 b0 : Bool} (hone : a = a0 ↔ b ≠ b0) : quadStep a0 b0 a b ≠ 0 := by
  revert hone
  cases a <;> cases b <;> cases a0 <;> cases b0 <;> decide

/-- R234: the levels of an encoder change. -/
def TrkSt.levels (x : TrkSt) (a b : Bool) : TrkSt := { x with a := a, b := b }

omit hsrc in
/-- R234: what a quadrature edge of a locked encoder does, where Z is low. -/
theorem Act.quadEvent_run (hlock : s.trkLock k = lockLocked) (hone : a = s.trk[k].a ↔ b ≠ s.trk[k].b) (hstraight : s.b F.TRK_CFG_INVERT k = false) :
    (Act.quadEvent k a b false).run s = (Act.trkMove k (s.clk - fieldAge)
      (s.trk[k].pos + quadStep s.trk[k].a s.trk[k].b a b * 4294967296)).run ((Act.setTrk k fun x => x.levels a b).run s) := by
  have hstep := bne_iff_ne.mpr (quadStep_ne_zero hone)
  have hnot : ¬(a ≠ s.trk[k].a ∧ b ≠ s.trk[k].b) := fun h => h.1 (hone.mpr h.2)
  have hz : ∀ u : State, u.zQualifies k false = false := fun u => by
    rw [State.zQualifies]
    simp only [Bool.and_false, Bool.false_and]
  rw [Act.quadEvent, Act.look_run]
  dsimp only
  rw [if_neg hnot, hstraight, if_neg (by decide), hstep, hlock]
  simp only [beq_self_eq_true, Bool.and_self, Act.when_true_run, Act.all_cons_run, Act.all_nil_run, Act.look_run, hz, Bool.false_and, Act.when_false_run,
    TrkSt.levels]

theorem quadEvent_moves (hlock : s.trkLock k = lockLocked) (hone : a = s.trk[k].a ↔ b ≠ s.trk[k].b) (hstraight : s.b F.TRK_CFG_INVERT k = false) :
    Answers (.trackerSourceEvent k (.quad a b false)) s fun t =>
        t.trk[k].pos = s.trk[k].pos + quadStep s.trk[k].a s.trk[k].b a b * 2 ^ 32 ∧ t.trk[k].at_ = s.clk - 12 ∧
        t.trk[k].a = a ∧ t.trk[k].b = b ∧ t.b F.TRK_STATUS_STOPPED k = false ∧ t.trkLock k = lockLocked := by
  have hrun : (Act.trkEvent k (.quad a b false)).run s = (Act.quadEvent k a b false).run s := by
    have hnot : (s.trkLock k != lockOff) = true := by rw [hlock]; rfl
    simp only [Act.trkEvent, Act.look_run, hnot, hsrc, beq_self_eq_true, Act.when_true_run]
  have hmoved := Act.trkMove_moves (k := k) (t := s.clk - fieldAge) (pos := s.trk[k].pos + quadStep s.trk[k].a s.trk[k].b a b * 4294967296) (vel := none)
    ((Act.setTrk k fun x => x.levels a b).run s)
  have hheld := Act.setTrk_same k (fun x => x.levels a b) s
  refine ⟨(Act.trkEvent k (.quad a b false)).run s, rfl, ?_⟩
  rw [hrun, Act.quadEvent_run hlock hone hstraight]
  refine ⟨hmoved.pos, hmoved.instant, hmoved.a.trans ?_, hmoved.b.trans ?_, hmoved.stopped, hmoved.lock.trans hlock⟩
  · rw [hheld]
    rfl
  · rw [hheld]
    rfl

end

/-! ### Mains and scales (R234) -/

/-- R234: a crossing of the mains is remembered. -/
def TrkSt.crossed (x : TrkSt) (t : Int) : TrkSt := { x with crossing := some t }

/-- R234: the last period of the mains. -/
def TrkSt.timed (x : TrkSt) (d : Nat) : TrkSt := { x with period := d }

theorem crossing_answers {c : Int} (hsrc : s.trkSrc k = srcMains) (hlock : s.trkLock k = lockLocked) (hedge : a ≠ s.b F.TRK_CFG_INVERT k)
    (hlevel : a = s.cmpLevelOf (s.f F.TRK_CFG_SEL_A k)) (hlast : s.trk[k].crossing = some c) :
    let d := ((s.clk : Int) - 12 - c).toNat
    163840 ≤ d → d ≤ 16384000 → 3 * s.trk[k].period ≤ 4 * d → 4 * d ≤ 5 * s.trk[k].period →
    Answers (.trackerSourceEvent k (.crossing a)) s fun t =>
      t.trk[k].pos = s.trk[k].pos + 2 ^ 32 ∧ t.trk[k].at_ = s.clk - 12 ∧ t.trk[k].period = d ∧
      t.trk[k].crossing = some ((s.clk : Int) - 12) ∧ t.trkLock k = lockLocked := by
  intro d hmin hmax hearly hlate
  have hcounts : ¬(a = s.b F.TRK_CFG_INVERT k ∨ a ≠ s.cmpLevelOf (s.f F.TRK_CFG_SEL_A k)) := fun h => h.elim hedge fun h => h hlevel
  have hgood : decide (163840 ≤ ((s.clk : Int) - 12 - c).toNat ∧ ((s.clk : Int) - 12 - c).toNat ≤ 16384000) = true := decide_eq_true ⟨hmin, hmax⟩
  have hnew : ¬(lockLocked = lockSearch ∨ lockLocked = lockLost) := by decide
  have hheld : ¬ lockLocked = lockHold := by decide
  have hnotEarly : ¬ 4 * ((s.clk : Int) - 12 - c).toNat < 3 * s.trk[k].period := Nat.not_lt.mpr hearly
  have hnotLate : ¬ 5 * s.trk[k].period < 4 * ((s.clk : Int) - 12 - c).toNat := Nat.not_lt.mpr hlate
  have hrun : (Act.trkEvent k (.crossing a)).run s = (Act.trkMove k (s.clk - 12) (s.trk[k].pos + 4294967296) (some (s.mainsSpeed k d))).run
      ((Act.setTrk k fun x => x.timed d).run ((Act.setTrk k fun x => x.crossed (s.clk - 12)).run s)) := by
    have hnot : (lockLocked != lockOff) = true := rfl
    simp only [Act.trkEvent, Act.look_run, hnot, hsrc, beq_self_eq_true, Act.when_true_run, Act.crossingEvent, hcounts, if_false, hlast, hlock, hnew, hheld, fieldAge,
      hgood, hnotEarly, hnotLate, decide_false, Bool.not_true, Bool.and_false, Bool.or_self, Bool.false_eq_true, Act.all_cons_run, Act.all_nil_run]
    rfl
  have hmoved := Act.trkMove_moves (k := k) (t := s.clk - 12) (pos := s.trk[k].pos + 4294967296) (vel := some (s.mainsSpeed k d))
    ((Act.setTrk k fun x => x.timed d).run ((Act.setTrk k fun x => x.crossed (s.clk - 12)).run s))
  refine ⟨(Act.trkEvent k (.crossing a)).run s, rfl, ?_⟩
  rw [hrun]
  refine ⟨hmoved.pos, hmoved.instant, hmoved.period.trans ?_, hmoved.crossing.trans ?_, hmoved.lock.trans hlock⟩
  · rw [Act.setTrk_same]
    rfl
  · rw [Act.setTrk_same, Act.setTrk_same]
    rfl

/-- R234: an output of a scale is taken. -/
def TrkSt.received (x : TrkSt) (l : List TrkIn) : TrkSt := { x with inbox := l }

/-- R234: an output of a scale is good. -/
def TrkSt.steady (x : TrkSt) : TrkSt := { x with bad := 0 }

theorem scale_answers {e : TrkIn} {l : List TrkIn} (hsrc : s.trkSrc k = srcScale) (hlock : s.trkLock k = lockLocked) (hinbox : s.trk[k].inbox = e :: l)
    (hdue : e.due ≤ s.clk) (hgood : e.flagged = false) (hstraight : s.b F.TRK_CFG_INVERT k = false) :
    Answers (.trackerSourceEvent k .output) s fun t =>
      t.trk[k].inbox = l ∧ t.trk[k].bad = 0 ∧ t.trk[k].at_ = e.at_ ∧
      t.trk[k].pos = e.x * signed 32 (s.f F.TRK_PER_CYCLE_PER_CYCLE k) + s.trk[k].offset := by
  have hrun : (Act.trkEvent k .output).run s = (Act.trkMove k e.at_ (e.x * signed 32 (s.f F.TRK_PER_CYCLE_PER_CYCLE k) + s.trk[k].offset)).run
      ((Act.setTrk k TrkSt.steady).run ((Act.setTrk k fun x => x.received l).run s)) := by
    have hnot : (lockLocked != lockOff) = true := rfl
    simp only [Act.trkEvent, Act.look_run, hnot, hsrc, beq_self_eq_true, Act.when_true_run, Act.scaleEvent, hinbox, decide_eq_true hdue, Act.andThen_run, hgood,
      hstraight, hlock, Bool.false_eq_true, if_false, if_true, Act.all_cons_run, Act.all_nil_run]
    rfl
  have hmoved := Act.trkMove_moves (k := k) (t := e.at_) (pos := e.x * signed 32 (s.f F.TRK_PER_CYCLE_PER_CYCLE k) + s.trk[k].offset) (vel := none)
    ((Act.setTrk k TrkSt.steady).run ((Act.setTrk k fun x => x.received l).run s))
  refine ⟨(Act.trkEvent k .output).run s, rfl, ?_⟩
  rw [hrun]
  refine ⟨hmoved.inbox.trans ?_, hmoved.bad.trans ?_, hmoved.instant, hmoved.pos⟩
  · rw [Act.setTrk_same, Act.setTrk_same]
    rfl
  · rw [Act.setTrk_same]
    rfl

/-! ### Homing by an edge, and a disabled tracker -/

theorem homeEdge_answers (hsource : 2 ≤ s.f F.TRK_HOME_CFG_HOME_SRC k) (hedge : a ≠ s.b F.TRK_HOME_CFG_HOME_EDGE k) (hlevel : a = s.homeLevel k)
    (hallowed : s.homeAllowed k = true) (hfirst : s.trk[k].homed ≠ some s.clk) : Answers (.trackerSourceEvent k (.home a)) s fun t =>
      t.b F.TRK_STATUS_HOMED k = true ∧ t.b F.TRK_STATUS_HOME_DONE k = true ∧ t.f F.TRK_JUMP_CAUSE_JUMP_CAUSE k = 1 ∧
      t.b F.TRK_STATUS_ARMED k = s.b F.TRK_HOME_CFG_AUTO_ARM k ∧
      (s.b F.TRK_HOME_CFG_KEEP_FRAC k = false → t.f F.TRK_JUMP_TO_LO_JUMP_TO k = s.f F.TRK_HOME_VALUE_LO_HOME_VALUE k ∧
        t.f F.TRK_JUMP_TO_HI_JUMP_TO k = s.f F.TRK_HOME_VALUE_HI_HOME_VALUE k) := by
  have hparts := hallowed
  rw [State.homeAllowed, Bool.and_eq_true, Bool.and_eq_true, beq_iff_eq] at hparts
  obtain ⟨⟨harmed, hlock⟩, -⟩ := hparts
  have hrun : (Act.trkEvent k (.home a)).run s = (Act.homeAt k fieldAge none).run s := by
    have hnot : (s.trkLock k != lockOff) = true := by rw [hlock]; rfl
    simp only [Act.trkEvent, Act.look_run, hnot, decide_eq_true hsource, bne_iff_ne.mpr hedge, ← hlevel, hallowed, beq_self_eq_true, Bool.and_self,
      Act.when_true_run, Act.home, ne_eq, hfirst, not_false_eq_true, if_true]
  obtain ⟨hhomed, hdone, harmedNow, -, hcause, -, hlow, hhigh⟩ := Act.homeAt_homed (k := k) hlock fieldAge
  refine ⟨(Act.trkEvent k (.home a)).run s, rfl, ?_⟩
  rw [hrun]
  refine ⟨hhomed, hdone, hcause, harmedNow.trans ?_, fun hwhole => ⟨hlow.trans (unsigned_homeNew hwhole).1, hhigh.trans (unsigned_homeNew hwhole).2⟩⟩
  rw [harmed, Bool.true_and]

theorem sourceEvent_off (hlock : s.trkLock k = lockOff) : Answers (.trackerSourceEvent k ev) s fun t => t = s := by
  refine ⟨(Act.trkEvent k ev).run s, rfl, ?_⟩
  rw [Act.trkEvent, Act.look_run, hlock]
  rfl

/-- Settles O40: each command of a tracker is one lemma. A home event moves position and floor alike, so that what is presented moves by the
same phase (`Shifted.trkPresented`), and an encoder that locks at HOME_VALUE presents it (`trkPresented_home`). -/
theorem trackers : Obligations.Trackers := by
  intro s src k v a b ev names quiet same
  refine ⟨fun hw hquiet hon hwas hreleased hvalid => enable_answers hw hquiet hon hwas hreleased hvalid,
    fun hlock hsrc => absolute_locks hlock hsrc, fun hw hquiet hoff hwas => disable_answers hw hquiet hoff hwas,
    fun hw hon hwas hbad => enable_refused hw hon hwas hbad, ?_, ?_, fun hw hhome harm hsame => ⟨?_, ?_⟩, ?_,
    fun hlock hsilent => holdEntry_answers hlock hsilent, fun hlock hlate => holdTimeout_answers hlock hlate,
    fun hsrc => ⟨?_, ?_, ?_, ?_, ?_⟩, ?_, ?_, fun hlock => sourceEvent_off hlock⟩
  · exact fun hw hon hhome harm hwas hlock hfirst => homeNow_answers hw hon hhome harm hwas hlock hfirst
  · exact fun hsource hedge hlevel hallowed hfirst => homeEdge_answers hsource hedge hlevel hallowed hfirst
  · exact fun hsrc => homeArm_answers hw hhome harm hsame hsrc
  · exact fun hsrc => homeArm_refused hw harm hsrc
  · exact fun hw hhome harm hdisarm hsame => homeDisarm_answers hw hhome harm hdisarm hsame
  · exact fun hlock hlost => encoderLost_answers hsrc hlock hlost
  · exact fun hlock ha hb => encoderLock_answers hsrc hlock ha hb
  · exact fun hlock hlate => encoderStop_answers hsrc hlock hlate
  · exact fun hlock ha hb => quadEvent_error hsrc hlock ha hb
  · exact fun hlock hone hstraight => quadEvent_moves hsrc hlock hone hstraight
  · exact fun c hsrc hlock hedge hlevel hlast => crossing_answers hsrc hlock hedge hlevel hlast
  · exact fun e l hsrc hlock hinbox hdue hgood hstraight => scale_answers hsrc hlock hinbox hdue hgood hstraight

end Sys2Proof.Machine
end

section
-- One proof after another: elaborated side by side, the proofs of the whole text do not fit in the check's memory.
set_option Elab.async false
/-! Contexts: their arming and disarming, the intervals and the settings of a tracker (R242 to R259). -/

namespace Sys2Proof.Machine

variable {s t : State} {src : Src} {x : Ctx} {v : DWord} {w : Word} {k : Trk} {i : Fin 256}

/-! ### Writes at an offset -/

theorem Act.write_run {off : Nat} (h : s.takes src off) (a : Act) : (Act.write src off a).run s = (Act.masterCount src).run (a.run s) := by
  obtain ⟨hup, hpermits⟩ := h
  simp only [Act.write, Act.reach, Act.look_run, hup, hpermits, if_true, Act.all_cons_run, Act.all_nil_run]

/-- Where the memory's own rule accepts the write, nothing is counted. -/
theorem Act.write_accepted {off : Nat} (h : s.takes src off) {a : Act} {d : DWord} (hok : (a.run s).resp = .ok d) :
    (Act.write src off a).run s = a.run s := by
  rw [Act.write_run h]
  cases src
  case fabric e => rw [Act.masterCount, Act.look_run, hok]; rfl
  all_goals rfl

theorem Act.write_refused {off : Nat} (h : s.takes src off) {a : Act} {f : Fld} (ha : a.run s = (Act.refuse f 0 0).run s)
    (hv : RegRef.valid ⟨f.name, 0, 0, 0⟩ = true) (hm : f.inMask = true := by decide) (hf : f.name ≠ .FAB_PORT_ERR := by decide) :
    Refused f 0 0 s ((Act.write src off a).run s) := by
  have hrun : (Act.write src off a).run s = (Act.all [.refuse f 0 0, .masterCount src]).run s := by
    rw [Act.write_run h, ha, Act.all_cons_run, Act.all_cons_run, Act.all_nil_run]
  have htouch := Act.refuse_within f 0 0 src s
  rw [hrun]
  refine ⟨?resp, ?count, htouch.namesKept, htouch.rest⟩
  case resp => rw [Act.all_cons_run, Act.all_cons_run, Act.all_nil_run, Act.masterCount_resp]; rfl
  case count =>
    rw [Counted, Act.all_cons_run, Act.all_cons_run, Act.all_nil_run, Act.masterCount_f _ _ _ _ _ hf]
    exact Act.count_f_same f 0 0 s hv hm

/-- The registers stay as they are stored. -/
theorem Touches.rest_of_regs {l : List RegName} {rs : List RegRef} {ps : List Part} (h : Touches l rs ps s t) (hregs : t.regs = s.regs) :
    t = { s.withParts ps t with regs := s.regs } := by
  have hrest := h.rest
  rw [State.withParts, hregs] at hrest
  exact hrest

/-! ### Arming and disarming (R244 to R246) -/

theorem ctxOffset_room (x : Ctx) : ctxOffset x + 16 ≤ 16777216 := by
  have hx := x.isLt
  rw [ctxOffset]
  omega

/-- R245: a context is armed. -/
def Act.ctxArm (x o n v ctl : Nat) (s : State) : Act := .all [.setBytes (ctxOffset x + o) v n, .setSched fun c => { c with
  fresh := c.fresh ++ [x], arms := assocSet c.arms x (s.clk, s.heldPosition (ctlSrc ctl)) }, .accept]

theorem Act.ctxArm_arms {o n a ctl : Nat} (ho : o + n ≤ 16) (s : State) : let t := (Act.ctxArm x o n a ctl s).run s
    t.resp = .ok 0 ∧ t.bytes (ctxOffset x + o) n = a % 256 ^ n ∧
    t.sched = { s.sched with fresh := s.sched.fresh ++ [x.val], arms := assocSet s.sched.arms x (s.clk, s.heldPosition (ctlSrc ctl)) } ∧
    BytesKeptBut (ctxOffset x + o) n s t ∧ t = { s with mem := t.mem, sched := t.sched, resp := t.resp } := by
  have hroom := ctxOffset_room x
  have hin : Within [] [] [.mem, .sched, .resp] (.ctxArm x o n a ctl s) := .all ⟨.setBytes, .setSched, .accept⟩
  have hsched : ((Act.setBytes (ctxOffset x + o) a n).run s).sched = s.sched := Act.setBytes_sched _ _ _ _
  intro t
  have ht : t = Act.accept.run ((Act.setSched fun c => { c with
      fresh := c.fresh ++ [x.val], arms := assocSet c.arms x (s.clk, s.heldPosition (ctlSrc ctl)) }).run
        ((Act.setBytes (ctxOffset x + o) a n).run s)) := by
    simp only [t, Act.ctxArm, Act.all_cons_run, Act.all_nil_run]
  refine ⟨?_, ?_, ?_, ?_, ?_⟩
  · rw [ht]
    rfl
  · refine (State.bytes_congr fun _ _ _ => ?_).trans (Act.setBytes_bytes (a := ctxOffset x + o) (v := a) (by omega) s)
    rw [ht]
    rfl
  · rw [ht, ← hsched]
    rfl
  · intro b hb
    rw [ht]
    exact Act.setBytes_keptBut _ _ _ s b hb
  · exact (hin s).rest_of_regs ((congrArg State.regs ht).trans (Act.setBytes_regs _ _ _ _))


/-- R246: a context is disarmed. -/
def Act.ctxDisarm (x o n v : Nat) : Act := .all [.disarm x, .setBytes (ctxOffset x + o) v n, .accept]

theorem Within.disarm {l : List RegName} {rs : List RegRef} {y : Nat} : Within l rs [.sched] (.disarm y) :=
  .look fun _ => .andThen (.look fun _ => .setSched) .setSched

theorem Act.ctxDisarm_disarms {o n a : Nat} (ho : o + n ≤ 16) (s : State) : let t := (Act.ctxDisarm x o n a).run s
    t.resp = .ok 0 ∧ t.bytes (ctxOffset x + o) n = a % 256 ^ n ∧ t.sched.queue = s.sched.queue.filter (fun d => d.ctx != x.val) ∧
    t.sched.recs.length = s.sched.recs.length + 1 ∧
    BytesKeptBut (ctxOffset x + o) n s t ∧ t = { s with mem := t.mem, sched := t.sched, resp := t.resp } := by
  have hroom := ctxOffset_room x
  have hdisarm : Within [] [] [.sched] (.disarm x) := .disarm
  have hin : Within [] [] [.mem, .sched, .resp] (.ctxDisarm x o n a) := .all ⟨hdisarm.mono, .setBytes, .accept⟩
  intro t
  generalize hu : (Act.disarm x).run s = u
  have ht : t = Act.accept.run ((Act.setBytes (ctxOffset x + o) a n).run u) := by
    simp only [t, Act.ctxDisarm, Act.all_cons_run, Act.all_nil_run, hu]
  have hsched : t.sched = u.sched := (congrArg State.sched ht).trans (Act.setBytes_sched _ _ _ _)
  have hkept : BytesKeptBut (ctxOffset x + o) n u t := by
    intro b hb
    rw [ht]
    exact Act.setBytes_keptBut _ _ _ u b hb
  refine ⟨?_, ?_, ?_, ?_, ?_, ?_⟩
  · rw [ht]
    rfl
  · refine (State.bytes_congr fun _ _ _ => ?_).trans (Act.setBytes_bytes (a := ctxOffset x + o) (v := a) (by omega) u)
    rw [ht]
    rfl
  · rw [hsched, ← hu]
    rfl
  · rw [hsched, ← hu]
    exact List.length_append
  · intro b hb
    rw [hkept b hb, ← hu]
    rfl
  · exact (hin s).rest_of_regs ((congrArg State.regs ht).trans ((Act.setBytes_regs _ _ _ _).trans (hu ▸ rfl)))

/-! ### Writes at the control word (R245, R246) -/

/-- A write that gives a context the control word `ctl` and the parameter `param`. -/
def Act.ctlPut (x o n v param ctl : Nat) (s : State) : Act :=
  if ctlArm (s.ctxCtl x) then
    if ctlArm ctl then .schedRefuse else .ctxDisarm x o n v
  else if ctlArm ctl then
    if ctxBad s.interval param ctl then .schedRefuse else .ctxArm x o n v ctl s
  else .all [.setBytes (ctxOffset x + o) v n, .accept]

theorem Act.ctlWrite_narrow_run : (Act.ctlWrite x v false).run s =
    (Act.ctlPut x 12 4 (v.toNat % 2 ^ 32) (s.ctxParam x) (v.toNat % 2 ^ 32) s).run s := by
  have hctl : v.toNat % 2 ^ 32 / 2 ^ (8 * (12 - 12)) % 2 ^ 32 = v.toNat % 2 ^ 32 := by omega
  simp only [Act.ctlWrite, Bool.false_eq_true, if_false, Act.ctxWrite, Act.look_run, hctl, Act.ctlPut, Act.ctxArm, Act.ctxDisarm,
    show decide (12 < 12 + 4) = true from rfl, if_true, Bool.not_true, Bool.false_or, Bool.true_and,
    if_neg (show ¬ (12 ≤ 8 ∧ 8 < 12 + 4) by decide)]

theorem Act.ctlWrite_wide_run : (Act.ctlWrite x v true).run s =
    (Act.ctlPut x 8 8 v.toNat (v.toNat % 2 ^ 32) (v.toNat / 2 ^ 32) s).run s := by
  have hv := v.isLt
  have hctl : v.toNat / 2 ^ (8 * (12 - 8)) % 2 ^ 32 = v.toNat / 2 ^ 32 := by omega
  have hparam : v.toNat / 2 ^ (8 * (8 - 8)) % 2 ^ 32 = v.toNat % 2 ^ 32 := by omega
  simp only [Act.ctlWrite, if_true, Act.ctxWrite, Act.look_run, hctl, hparam, Act.ctlPut, Act.ctxArm, Act.ctxDisarm,
    show decide (12 < 8 + 8) = true from rfl, Bool.not_true, Bool.false_or, Bool.true_and, if_pos (show 8 ≤ 8 ∧ 8 < 8 + 8 by decide)]

theorem State.bytes_add (s : State) (a m n : Nat) : s.bytes a (m + n) = s.bytes a m + 256 ^ m * s.bytes (a + m) n := by
  induction m generalizing a with
  | zero => simp [State.bytes]
  | succ m ih =>
    rw [show m + 1 + n = (m + n) + 1 by omega, State.bytes, State.bytes, ih, show a + 1 + m = a + (m + 1) by omega, pow_succ']
    ring

theorem State.bytes_lt (s : State) (a n : Nat) : s.bytes a n < 256 ^ n := by
  induction n generalizing a with
  | zero => exact Nat.one_pos
  | succ n ih =>
    have hbyte := (s.byte a).isLt
    have hrest := ih (a + 1)
    rw [State.bytes, pow_succ']
    omega

/-- The two words of a 64-bit write at PARAM. -/
theorem State.ctx_of_wide {n : Nat} (hn : n < 2 ^ 64) (h : t.bytes (ctxOffset x + 8) 8 = n % 256 ^ 8) :
    t.ctxCtl x = n / 2 ^ 32 ∧ t.ctxParam x = n % 2 ^ 32 := by
  have hsplit := t.bytes_add (ctxOffset x + 8) 4 4
  have hlow := t.bytes_lt (ctxOffset x + 8) 4
  rw [show 4 + 4 = 8 from rfl, h] at hsplit
  have hctl : t.ctxCtl x = t.bytes (ctxOffset x + 8 + 4) 4 := rfl
  have hparam : t.ctxParam x = t.bytes (ctxOffset x + 8) 4 := rfl
  omega

section
variable (hw : s.takes src (ctxOffset x + 12))
include hw

theorem contextArmingWrite_arms (hoff : ctlArm (s.ctxCtl x) = false) (harm : ctlArm (v.toNat % 2 ^ 32) = true)
    (hgood : ctxBad s.interval (s.ctxParam x) (v.toNat % 2 ^ 32) = false) : Answers (.contextArmingWrite src x v false) s fun t =>
      t.resp = .ok 0 ∧ t.ctxCtl x = v.toNat % 2 ^ 32 ∧ t.sched = { s.sched with
        fresh := s.sched.fresh ++ [x.val]
        arms := assocSet s.sched.arms x (s.clk, s.heldPosition (ctlSrc (v.toNat % 2 ^ 32))) } ∧
      BytesKeptBut (ctxOffset x + 12) 4 s t ∧ t = { s with mem := t.mem, sched := t.sched, resp := t.resp } := by
  have heffect : (Act.ctlWrite x v false).run s = (Act.ctxArm x 12 4 (v.toNat % 2 ^ 32) (v.toNat % 2 ^ 32) s).run s := by
    rw [Act.ctlWrite_narrow_run, Act.ctlPut, hoff, harm, hgood]
    rfl
  obtain ⟨hresp, hbytes, hsched, hkept, hrest⟩ := Act.ctxArm_arms (x := x) (o := 12) (n := 4) (a := v.toNat % 2 ^ 32)
    (ctl := v.toNat % 2 ^ 32) (by decide) s
  rw [← heffect] at hresp hbytes hsched hkept hrest
  refine ⟨(Act.write src (ctxOffset x + 12) (.ctlWrite x v false)).run s, rfl, ?_⟩
  rw [Act.write_accepted hw hresp]
  exact ⟨hresp, hbytes.trans (Nat.mod_mod _ _), hsched, hkept, hrest⟩

theorem contextArmingWrite_refused (hbad : ctlArm (s.ctxCtl x) = true ∨ ctxBad s.interval (s.ctxParam x) (v.toNat % 2 ^ 32) = true)
    (harm : ctlArm (v.toNat % 2 ^ 32) = true) : Answers (.contextArmingWrite src x v false) s fun t =>
      t.resp = .error ∧ Counted F.SCHED_REFUSED_COUNT s t ∧ NamesKept [.SCHED_REFUSED, .FAB_PORT_ERR] s t ∧ OnlyRegs s t := by
  have heffect : (Act.ctlWrite x v false).run s = (Act.refuse F.SCHED_REFUSED_COUNT).run s := by
    rw [Act.ctlWrite_narrow_run, Act.ctlPut, harm]
    rcases hbad with hon | hbad
    · rw [hon]
      rfl
    · rw [hbad]
      cases ctlArm (s.ctxCtl x) <;> rfl
  exact ⟨_, rfl, Act.write_refused hw heffect (by decide)⟩

theorem contextDisarm_disarms (hon : ctlArm (s.ctxCtl x) = true) (hoff : ctlArm (v.toNat % 2 ^ 32) = false) :
    Answers (.contextDisarm src x v false) s fun t =>
      t.resp = .ok 0 ∧ t.ctxCtl x = v.toNat % 2 ^ 32 ∧ t.sched.queue = s.sched.queue.filter (fun d => d.ctx != x.val) ∧
      t.sched.recs.length = s.sched.recs.length + 1 ∧ BytesKeptBut (ctxOffset x + 12) 4 s t ∧
      t = { s with mem := t.mem, sched := t.sched, resp := t.resp } := by
  have heffect : (Act.ctlWrite x v false).run s = (Act.ctxDisarm x 12 4 (v.toNat % 2 ^ 32)).run s := by
    rw [Act.ctlWrite_narrow_run, Act.ctlPut, hon, hoff]
    rfl
  obtain ⟨hresp, hbytes, hqueue, hrecs, hkept, hrest⟩ := Act.ctxDisarm_disarms (x := x) (o := 12) (n := 4) (a := v.toNat % 2 ^ 32)
    (by decide) s
  rw [← heffect] at hresp hbytes hqueue hrecs hkept hrest
  refine ⟨(Act.write src (ctxOffset x + 12) (.ctlWrite x v false)).run s, rfl, ?_⟩
  rw [Act.write_accepted hw hresp]
  exact ⟨hresp, hbytes.trans (Nat.mod_mod _ _), hqueue, hrecs, hkept, hrest⟩

end

theorem contextArmingWrite_wide (hw : s.takes src (ctxOffset x + 8)) (hoff : ctlArm (s.ctxCtl x) = false)
    (harm : ctlArm (v.toNat / 2 ^ 32) = true) (hgood : ctxBad s.interval (v.toNat % 2 ^ 32) (v.toNat / 2 ^ 32) = false) :
    Answers (.contextArmingWrite src x v true) s fun t =>
      t.resp = .ok 0 ∧ t.ctxCtl x = v.toNat / 2 ^ 32 ∧ t.ctxParam x = v.toNat % 2 ^ 32 ∧
      t.sched = { s.sched with
        fresh := s.sched.fresh ++ [x.val]
        arms := assocSet s.sched.arms x (s.clk, s.heldPosition (ctlSrc (v.toNat / 2 ^ 32))) } ∧
      BytesKeptBut (ctxOffset x + 8) 8 s t ∧ t = { s with mem := t.mem, sched := t.sched, resp := t.resp } := by
  have heffect : (Act.ctlWrite x v true).run s = (Act.ctxArm x 8 8 v.toNat (v.toNat / 2 ^ 32) s).run s := by
    rw [Act.ctlWrite_wide_run, Act.ctlPut, hoff, harm, hgood]
    rfl
  obtain ⟨hresp, hbytes, hsched, hkept, hrest⟩ := Act.ctxArm_arms (x := x) (o := 8) (n := 8) (a := v.toNat) (ctl := v.toNat / 2 ^ 32)
    (by decide) s
  rw [← heffect] at hresp hbytes hsched hkept hrest
  obtain ⟨hctl, hparam⟩ := State.ctx_of_wide v.isLt hbytes
  refine ⟨(Act.write src (ctxOffset x + 8) (.ctlWrite x v true)).run s, rfl, ?_⟩
  rw [Act.write_accepted hw hresp]
  exact ⟨hresp, hctl, hparam, hsched, hkept, hrest⟩

/-! ### Intervals (R244, R254, R259) -/

theorem assoc_assocSet_ne {κ β : Type} [DecidableEq κ] (l : List (κ × β)) {j k : κ} (v : β) (h : j ≠ k) :
    assoc (assocSet l k v) j = assoc l j := by
  have hfilter : assoc (l.filter fun e => !(decide (e.1 = k))) j = assoc l j := by
    induction l with
    | nil => rfl
    | cons e l ih =>
      by_cases he : e.1 = k
      · rw [List.filter_cons_of_neg (by simp [he]), ih, assoc, if_neg fun hj => h (hj.symm.trans he)]
      · rw [List.filter_cons_of_pos (by simp [he]), assoc, assoc, ih]
  rw [assocSet, assoc, if_neg h.symm, hfilter]

section
variable (hw : s.takesReg src .SCHED_REPEAT_HI i)
include hw

theorem repeatWrite_zero (hi : i.val = 0) : Answers (.schedRepeatWrite src i w) s fun t => t = { s with resp := .ok 0 } := by
  have heffect : (Act.repeatWrite i w).run s = Act.accept.run s := by
    rw [Act.repeatWrite, Act.look_run, if_pos hi]
  have hrun := Act.writeTo_accepted (d := 0) hw (a := Act.repeatWrite i w) (by rw [heffect]; rfl)
  refine ⟨_, rfl, ?_⟩
  rw [hrun, heffect]
  rfl

/-- R259: the entry takes effect. -/
def Act.repeatTakes (i n : Nat) (w : Word) (s : State) : Act := .all [.setR .SCHED_REPEAT_HI w i, .setSched fun c => { c with
    intervals := assocSet c.intervals i n, was := s.keepIntervals i }, .accept]

theorem repeatWrite_takes (hi : i.val ≠ 0) {n : Nat} (hn : n = s.f F.SCHED_REPEAT_LO_INTERVAL i + 2 ^ 32 * w.toNat)
    (hused : n ≠ 0 ∨ s.repeatUsed i = false) : Answers (.schedRepeatWrite src i w) s fun t =>
      t.resp = .ok 0 ∧ t.interval i = n ∧ (∀ j, j ≠ i.val → t.interval j = s.interval j) ∧
      RegsKept [⟨.SCHED_REPEAT_HI, i, 0, 0⟩] s t ∧ t = { s with regs := t.regs, sched := t.sched, resp := t.resp } := by
  have hfree : ¬ (n = 0 ∧ s.repeatUsed i = true) := by
    rintro ⟨h0, hu⟩
    rcases hused with h | h
    · exact h h0
    · exact Bool.false_ne_true (h.symm.trans hu)
  have heffect : (Act.repeatWrite i w).run s = (Act.repeatTakes i n w s).run s := by
    rw [Act.repeatWrite, Act.look_run, if_neg hi, ← hn, if_neg hfree, Act.repeatTakes]
  have hin : Within [] [⟨.SCHED_REPEAT_HI, i, 0, 0⟩] [.sched, .resp] (.repeatTakes i n w s) :=
    .all ⟨.setRAt, .setSched, .accept⟩
  have hrun := Act.writeTo_accepted (d := 0) hw (a := Act.repeatWrite i w) (by rw [heffect]; rfl)
  have hset : ((Act.repeatTakes i n w s).run s).sched.intervals = assocSet s.sched.intervals i n := by
    simp only [Act.repeatTakes, Act.all_cons_run, Act.all_nil_run]
    exact congrArg (assocSet ·.intervals i.val n) (Act.setR_sched _ _ _ _ _ s)
  refine ⟨_, rfl, ?_⟩
  rw [hrun, heffect]
  refine ⟨rfl, ?_, fun j hj => ?_, (hin s).regsKept, (hin s).rest⟩
  · rw [State.interval, hset, assoc_assocSet_same]
    rfl
  · rw [State.interval, hset, assoc_assocSet_ne _ _ hj]
    rfl

theorem repeatWrite_refused (hi : i.val ≠ 0) (hn : s.f F.SCHED_REPEAT_LO_INTERVAL i + 2 ^ 32 * w.toNat = 0)
    (hused : s.repeatUsed i = true) : Answers (.schedRepeatWrite src i w) s fun t =>
      t.resp = .error ∧ Counted F.SCHED_REFUSED_COUNT s t ∧ NamesKept [.SCHED_REFUSED, .FAB_PORT_ERR] s t ∧ OnlyRegs s t := by
  have heffect : (Act.repeatWrite i w).run s = (Act.refuse F.SCHED_REFUSED_COUNT).run s := by
    rw [Act.repeatWrite, Act.look_run, if_neg hi, if_pos ⟨hn, hused⟩, Act.schedRefuse]
  exact ⟨_, rfl, Act.writeTo_refused hw heffect (by decide)⟩

end

/-! ### The settings of a tracker -/

theorem schedTrkWrite_hyst (hw : s.takesReg src .SCHED_TRK_HYST k) (hnone : s.armedOn (k + 1) = []) :
    Answers (.schedTrkWrite src k false w) s fun t =>
      t.resp = .ok 0 ∧ t.r .SCHED_TRK_HYST k = w &&& RegName.mask .SCHED_TRK_HYST ∧ RegsKept [⟨.SCHED_TRK_HYST, k, 0, 0⟩] s t ∧
      OnlyRegs s t := by
  have heffect : (Act.schedTrkWrite k false w).run s = (Act.all [.setR .SCHED_TRK_HYST w k, .accept]).run s := by
    rw [Act.schedTrkWrite, Act.look_run, hnone]
    rfl
  have hin : Within [] [⟨.SCHED_TRK_HYST, k, 0, 0⟩] [.resp] (.all [.setR .SCHED_TRK_HYST w k, .accept]) :=
    .all ⟨.setRAt, .accept⟩
  have hrun := Act.writeTo_accepted (d := 0) hw (a := Act.schedTrkWrite k false w) (by rw [heffect]; rfl)
  refine ⟨_, rfl, ?_⟩
  rw [if_neg Bool.false_ne_true, hrun, heffect]
  exact ⟨rfl, Act.setR_r_same _ _ _ _ _ s (RegRef.valid_one k (by decide) (by decide) (by decide)), (hin s).regsKept, (hin s).rest⟩

theorem schedTrkWrite_cfg (hw : s.takesReg src .SCHED_TRK_CFG k) (hnone : s.armedOn (k + 1) = []) :
    Answers (.schedTrkWrite src k true w) s fun t =>
      t.resp = .ok 0 ∧ t.f F.SCHED_TRK_CFG_HOLD_FIRE k = F.SCHED_TRK_CFG_HOLD_FIRE.of w ∧
      t.b F.SCHED_TRK_CFG_DIR k = s.b F.SCHED_TRK_CFG_DIR k ∧ RegsKept [⟨.SCHED_TRK_CFG, k, 0, 0⟩] s t ∧ OnlyRegs s t := by
  have heffect : (Act.schedTrkWrite k true w).run s =
      (Act.all [.setF F.SCHED_TRK_CFG_HOLD_FIRE (F.SCHED_TRK_CFG_HOLD_FIRE.of w) k, .accept]).run s := by
    rw [Act.schedTrkWrite, Act.look_run, hnone]
    rfl
  have hin : Within [] [⟨.SCHED_TRK_CFG, k, 0, 0⟩] [.resp]
      (.all [.setF F.SCHED_TRK_CFG_HOLD_FIRE (F.SCHED_TRK_CFG_HOLD_FIRE.of w) k, .accept]) :=
    .all ⟨.setFAt, .accept⟩
  have hrun := Act.writeTo_accepted (d := 0) hw (a := Act.schedTrkWrite k true w) (by rw [heffect]; rfl)
  have hvalid : RegRef.valid ⟨.SCHED_TRK_CFG, k, 0, 0⟩ = true := RegRef.valid_one k (by decide) (by decide) (by decide)
  refine ⟨_, rfl, ?_⟩
  rw [if_pos rfl, hrun, heffect]
  refine ⟨rfl, ?_, ?_, (hin s).regsKept, (hin s).rest⟩
  · rw [Act.all_cons_run, Act.all_cons_run, Act.all_nil_run, Act.accept_f]
    refine (Act.setF_f_same _ _ k 0 0 s hvalid (by decide)).trans (Nat.mod_eq_of_lt (Fld.of_lt _ w))
  · simp +decide [State.b]

theorem schedTrkWrite_refused (hw : s.takesReg src .SCHED_TRK_HYST k) (hsome : s.armedOn (k + 1) ≠ []) :
    Answers (.schedTrkWrite src k false w) s fun t =>
      t.resp = .error ∧ Counted F.SCHED_REFUSED_COUNT s t ∧ NamesKept [.SCHED_REFUSED, .FAB_PORT_ERR] s t ∧ OnlyRegs s t := by
  have heffect : (Act.schedTrkWrite k false w).run s = (Act.refuse F.SCHED_REFUSED_COUNT).run s := by
    rw [Act.schedTrkWrite, Act.look_run, if_pos (bne_iff_ne.mpr hsome), Act.schedRefuse]
  exact ⟨_, rfl, Act.writeTo_refused hw heffect (by decide)⟩

/-- Settles O41: a write at the control word by what the context was and what the word says, an interval by its entry, a tracker's
settings by what is armed on it. -/
theorem eventContexts : Obligations.EventContexts := by
  intro s src x v i w k
  refine ⟨fun hw hoff harm => ⟨contextArmingWrite_arms hw hoff harm, fun hbad => contextArmingWrite_refused hw (.inr hbad) harm⟩,
    contextArmingWrite_wide, fun hw hon => ⟨contextDisarm_disarms hw hon, contextArmingWrite_refused hw (.inl hon)⟩, ?intervals,
    schedTrkWrite_hyst, schedTrkWrite_cfg, schedTrkWrite_refused⟩
  case intervals => exact fun hw => ⟨repeatWrite_zero hw, fun hi => repeatWrite_takes hw hi rfl, repeatWrite_refused hw⟩

end Sys2Proof.Machine
end

section
-- One proof after another: elaborated side by side, the proofs of the whole text do not fit in the check's memory.
set_option Elab.async false
/-! What a berth holds after the operations on it (R356 to R363). -/

namespace Sys2Proof.Machine

variable {s t : State} {b : Nat} {c0 c1 : DWord} {p : List HCell}

/-! ### The contents of a berth -/

theorem Act.setBerth_same (hb : b < 1024) (x : BerthSt → BerthSt) (s : State) : ((Act.setBerth b x).run s).berth b = x (s.berth b) := by
  simp only [Act.setBerth, if_pos hb, State.berth]
  rw [Sparse.get_set, if_pos rfl]

@[simp] theorem Act.setBerth_regs (x : BerthSt → BerthSt) (s : State) : ((Act.setBerth b x).run s).regs = s.regs := by
  simp only [Act.setBerth]
  split <;> rfl

@[simp] theorem Act.setBerth_f (x : BerthSt → BerthSt) (s : State) (f : Fld) (i j k : Nat) :
    ((Act.setBerth b x).run s).f f i j k = s.f f i j k := by
  rw [State.f, State.f, State.r_eq, State.r_eq, Act.setBerth_regs]

@[simp] theorem Act.setBerth_b (x : BerthSt → BerthSt) (s : State) (f : Fld) (i j k : Nat) :
    ((Act.setBerth b x).run s).b f i j k = s.b f i j k := congrArg (· == 1) (Act.setBerth_f x s f i j k)

theorem State.berth_congr (h : t.harb = s.harb) (b : Nat) : t.berth b = s.berth b := by rw [State.berth, State.berth, h]

/-- What leaves the berths alone leaves each of them. -/
theorem Within.berth_eq {l : List RegName} {rs : List RegRef} {ps : List Part} {a : Act} (h : Within l rs ps a) (s : State) (b : Nat)
    (hp : Part.harb ∉ ps := by decide) : (a.run s).berth b = s.berth b := State.berth_congr ((h s).parts .harb hp) b

/-! ### The room that the pool leaves -/

theorem Sparse.filter_erase {κ β : Type} [DecidableEq κ] {keep : κ × β → Bool} {k : κ} (h : ∀ e, e.1 = k → keep e = false) (l : List (κ × β)) :
    (Sparse.erase l k).filter keep = l.filter keep := by
  induction l with
  | nil => rfl
  | cons e l ih =>
    by_cases he : e.1 = k
    · rw [Sparse.erase, if_pos he, ih, List.filter_cons_of_neg (by simp [h e he])]
    · rw [Sparse.erase, if_neg he, List.filter_cons, List.filter_cons, ih]

theorem Sparse.filter_insert {κ β : Type} {code : κ → Nat} {keep : κ × β → Bool} {k : κ} {v : β} (h : keep (k, v) = false) (l : List (κ × β)) :
    (Sparse.insert code l k v).filter keep = l.filter keep := by
  induction l with
  | nil => rw [Sparse.insert, List.filter_cons_of_neg (by simp [h])]
  | cons e l ih =>
    rw [Sparse.insert]
    split
    · rw [List.filter_cons_of_neg (by simp [h])]
    · rw [List.filter_cons, List.filter_cons, ih]

/-- What picks no entry of a key does not see a value stored there. -/
theorem Sparse.filter_set {κ β : Type} [DecidableEq κ] [DecidableEq β] {code : κ → Nat} {d : κ → β} {keep : κ × β → Bool} {k : κ}
    (h : ∀ e, e.1 = k → keep e = false) (v : β) (l : List (κ × β)) : (Sparse.set code d l k v).filter keep = l.filter keep := by
  rw [Sparse.set]
  split
  · exact Sparse.filter_erase h l
  · rw [Sparse.filter_insert (h _ rfl), Sparse.filter_erase h]

theorem Act.setR_enabledBerths {n : RegName} (hn : n ≠ .HARB_CFG) (v : Word) (i j k : Nat) (s : State) :
    ((Act.setR n v i j k).run s).enabledBerths = s.enabledBerths := by
  have hkeep : ∀ e : RegRef × Word, e.1 = ⟨n, i, j, k⟩ → (e.1.name == .HARB_CFG && F.HARB_CFG_ENABLE.of e.2 == 1) = false := by
    rintro e he
    rw [he, beq_eq_false_iff_ne.mpr hn, Bool.false_and]
  simp only [Act.setR]
  split
  · exact congrArg (List.map fun e => e.1.i) (Sparse.filter_set hkeep _ _)
  · rfl

/-- The room for a packet, by the berths, the reserves and the capacities. -/
theorem State.berthRoom_congr {n : Nat} (hharb : t.harb = s.harb) (hon : t.enabledBerths = s.enabledBerths)
    (hsize : ∀ i, t.r .HARB_SIZE i = s.r .HARB_SIZE i) : t.berthRoom b n = s.berthRoom b n := by
  have hmin : ∀ i, t.berthMin i = s.berthMin i := fun i => congrArg F.HARB_SIZE_MIN.of (hsize i)
  have hcap : t.berthCap b = s.berthCap b := congrArg (F.HARB_SIZE_CAP_M1.of · + 1) (hsize b)
  simp only [State.berthRoom, State.poolUnclaimed, State.poolFree, State.berth, hharb, hon, hmin, hcap]
  rfl

/-! ### Packets and records -/

/-- A packet stands behind what the berth held; a side with a clock of its own does not see it yet. -/
theorem Act.commitPacket_commits (hb : b < 1024) (s : State) : let t := (Act.commitPacket b p).run s
    (t.berth b).cells = (s.berth b).cells ++ p ∧ (t.berth b).opens = (s.berth b).opens ∧ (t.berth b).gap = (s.berth b).gap ∧
    (t.berth b).hidden = (if s.berthSync b then (s.berth b).hidden
      else (s.berth b).hidden ++ [(p.length, s.sideEdges (s.f F.HARB_CFG_CCLK b))]) := by
  have hnotice : Within [.HARB_STATUS] [] [] (Act.all [.setB F.HARB_STATUS_NOTICE true b]) := .all .setB
  by_cases hsync : s.berthSync b = true
  · simp only [Act.commitPacket, Act.look_run, if_pos hsync]
    rw [Act.all_cons_run, hnotice.berth_eq, Act.setBerth_same hb]
    exact ⟨rfl, rfl, rfl, rfl⟩
  · simp only [Act.commitPacket, Act.look_run, if_neg hsync]
    rw [Act.setBerth_same hb]
    exact ⟨rfl, rfl, rfl, rfl⟩

theorem Act.gapMark_skip (h : (s.berth b).gap = 0) : (Act.gapMark b).run s = s := by
  simp [Act.gapMark, h]

/-- R359, R370: a record that its berth does not take is an orphan. -/
theorem Act.moduleRecord_orphan (h : s.berthTakesRecords b = false) : (Act.moduleRecord b c0 c1).run s = (Act.orphan b).run s := by
  rw [Act.moduleRecord, Act.look_run, h]
  rfl

theorem valid_harbLoss (hb : b < 1024) : RegRef.valid ⟨.HARB_LOSS, b, 0, 0⟩ = true := RegRef.valid_of (n := .HARB_LOSS) hb

theorem Act.orphan_counts (hb : b < 1024) (s : State) : Counted F.HARB_LOSS_ORPHANS s ((Act.orphan b).run s) b :=
  Act.count_f_same _ b 0 s (valid_harbLoss hb) (by decide)

/-- R356: a record goes in whole where there is room and no gap mark is due. -/
theorem Act.moduleRecord_cells (hb : b < 1024) (htakes : s.berthTakesRecords b = true) (hgap : (s.berth b).gap = 0) (hroom : s.berthRoom b 2 = true) :
    (((Act.moduleRecord b c0 c1).run s).berth b).cells = (s.berth b).cells ++ packetCells false [c0, c1] := by
  have hrun : (Act.moduleRecord b c0 c1).run s = (Act.water b).run ((Act.commitPacket b (packetCells false [c0, c1])).run s) := by
    simp [Act.moduleRecord, htakes, Act.gapMark_skip hgap, hroom, hgap]
  rw [hrun, Within.water.berth_eq]
  exact (Act.commitPacket_commits hb s).1

end Sys2Proof.Machine
end

section
-- One proof after another: elaborated side by side, the proofs of the whole text do not fit in the check's memory.
set_option Elab.async false
/-! Judging a time context, the end of the holds, the issue of decisions, records and marks (R247 to R258). -/

namespace Sys2Proof.Machine

variable {s t : State} {x : Nat} {d : Decision}

/-! ### Contexts are found by what the memory and the scheduler hold -/

theorem State.armedOn_congr (h : t.mem = s.mem) (n : Nat) : t.armedOn n = s.armedOn n := by
  have hbyte : ∀ a, t.byte a = s.byte a := fun a => congrArg (Sparse.get memDefault · a) h
  have hctl : ∀ y, t.ctxCtl y = s.ctxCtl y := fun y => State.bytes_congr fun a _ _ => hbyte a
  simp only [State.armedOn, State.armedCtx, hctl, h]

theorem State.judgedOn_nil {n : Nat} (h : s.armedOn (n + 1) = []) : s.judgedOn n = [] := by rw [State.judgedOn, h, List.filter_nil]

/-! ### Trackers that no armed context names -/

theorem Act.span_none {n : Nat} {a c : Int} {reverse jumped : Bool} (h : s.armedOn (n + 1) = []) : (Act.span n a c reverse jumped).run s = s := by
  rw [Act.span, Act.look_run, State.judgedOn_nil h]
  rfl

theorem Act.judgeFresh_none {n : Nat} {p : Int} (h : s.armedOn (n + 1) = []) : (Act.judgeFresh n p).run s = s := by
  rw [Act.judgeFresh, Act.look_run, h]
  rfl

/-- Where no context is armed on a tracker, its phase and its settings alone move. -/
def UnnamedMoves (n : Nat) (s t : State) : Prop := s.armedOn (n + 1) = [] → Touches phaseNames [] [] s t

theorem UnnamedMoves.frame (n : Nat) : Frame (UnnamedMoves n) where
  refl s _ := Touches.refl s
  trans h1 h2 h := (h1 h).trans (h2 ((State.armedOn_congr ((h1 h).parts .mem (by decide)) _).trans h))

theorem Within.unnamed {n : Nat} {a : Act} (h : Within phaseNames [] [] a) : a.Keeps (UnnamedMoves n) := fun s _ => h s

theorem Act.span_unnamed {n : Nat} {a c : Int} {reverse jumped : Bool} : (Act.span n a c reverse jumped).Keeps (UnnamedMoves n) := by
  intro s h
  rw [Act.span_none h]
  exact Touches.refl s

theorem Act.schedMove_unnamed {n : Nat} {p : Int} {jumped : Bool} : (Act.schedMove n p jumped).Keeps (UnnamedMoves n) := by
  intro s h
  have hframe := UnnamedMoves.frame n
  have hextreme : (Act.setExtreme n p).Keeps (UnnamedMoves n) := Within.unnamed Within.setExtreme.mono
  have hset : ∀ f : Fld, f.name = .SCHED_TRK_CFG → ∀ c, (Act.setB f c n).Keeps (UnnamedMoves n) :=
    fun f hf c => Within.unnamed (.setB (by rw [hf]; decide))
  simp only [Act.schedMove, Act.look_run, State.judgedOn_nil h]
  refine Act.keeps_ite (P := UnnamedMoves n) ?ahead (Act.keeps_ite ?back (Act.keeps_when hframe (hset _ rfl _))) s h
  case ahead => exact Act.keeps_all hframe ⟨Act.span_unnamed, hextreme, hset _ rfl _⟩
  case back =>
    refine Act.keeps_all hframe ⟨hset _ rfl _, Act.keeps_ite Act.span_unnamed ?_, Act.keeps_nil hframe, hextreme, hset _ rfl _⟩
    exact Act.keeps_all hframe ⟨Act.span_unnamed, Act.span_unnamed⟩

theorem Act.judgePhase_unnamed {k : Fin 4} : (Act.judgePhase k).Keeps (UnnamedMoves k) :=
  Act.keeps_look fun _ => Act.keeps_when (UnnamedMoves.frame k) (Act.keeps_all (UnnamedMoves.frame k) ⟨Act.schedMove_unnamed,
    fun s h => by rw [Act.judgeFresh_none h]; exact Touches.refl s⟩)

/-- Where no context is armed on any tracker, the phases and the settings of the trackers alone move. -/
def PhasesMove (s t : State) : Prop := (∀ k : Fin 4, s.armedOn (k + 1) = []) → Touches phaseNames [] [] s t

theorem PhasesMove.frame : Frame PhasesMove where
  refl s _ := Touches.refl s
  trans h1 h2 h := (h1 h).trans (h2 fun k => (State.armedOn_congr ((h1 h).parts .mem (by decide)) _).trans (h k))

theorem Act.judgePhases_move : (Act.each (List.finRange 4) Act.judgePhase).Keeps PhasesMove :=
  Act.keeps_each PhasesMove.frame _ fun k t ht => Act.judgePhase_unnamed t (ht k)

/-! ### A one-shot time context whose point is reached (R248) -/

theorem Act.holdsEnd_skip (hall : s.b F.SCHED_STATUS_HOLD_ALL = false) (hphase : s.b F.SCHED_STATUS_HOLD_PHASE = false)
    (hfree : ∀ k : Trk, s.sched.trk[k] = .free) : Act.holdsEnd.run s = s := by
  have htrk : ∀ k : Fin 4, (Act.endTrackerHold k).run s = s := fun k => by
    rw [Act.endTrackerHold, Act.look_run, hfree k]
    rfl
  rw [Act.holdsEnd, Act.look_run]
  cases s.released
  · rfl
  simp only [hall, hphase, Bool.false_and, Bool.or_self, Act.when_true_run, Act.all_cons_run, Act.all_nil_run, Act.when_false_run]
  exact Act.each_skip htrk _

/-- R253: a decision made where none waits. -/
theorem Act.makeDecision_queue (hqueue : s.sched.queue = []) (hgather : s.sched.gather = []) : let t := (Act.makeDecision x 0 1 s.clk).run s
    t.sched = { s.sched with queue := [⟨x, s.clk, s.ns, 0, 1⟩] } ∧ t.mem = s.mem := by
  have hengines : Within [] [] [.eng] (Act.each (List.finRange 8) fun e => .when (s.eng[e].tide == some x) (.setEng e fun q => { q with tideHit := true })) :=
    .each fun _ => .when .setEng
  have hrun : (Act.makeDecision x 0 1 s.clk).run s = (Act.each (List.finRange 8) fun e => .when (s.eng[e].tide == some x)
      (.setEng e fun q => { q with tideHit := true })).run ((Act.setSched fun c => { c with
        queue := insertDecision ⟨x, s.clk, s.ns, 0, 1⟩ c.queue }).run s) := by
    simp [Act.makeDecision, State.ctxWaits, hqueue, hgather, assoc]
  have htouch := hengines ((Act.setSched fun c => { c with queue := insertDecision ⟨x, s.clk, s.ns, 0, 1⟩ c.queue }).run s)
  intro t
  refine ⟨?_, ?_⟩
  · rw [show t.sched = _ from (congrArg State.sched hrun).trans (htouch.parts .sched (by decide)), Act.setSched_sched]
    simp only [hqueue, insertDecision]
  · exact (congrArg State.mem hrun).trans (htouch.parts .mem (by decide))

theorem points_reached {a n : Int} (h : a ≤ n) : points a 0 (a - 1) n false = 1 := by
  rw [points, if_neg Bool.false_ne_true, pointsForward, if_neg (by omega), if_pos rfl, decide_eq_true (by omega)]
  rfl

theorem points_none {a c n : Int} (h : n ≤ c) : points a 0 c n false = 0 := by
  rw [points, if_neg Bool.false_ne_true, pointsForward, if_pos h]

theorem Act.ctxAhead_once {e : Int} {reverse : Bool} (h : s.ctxInterval x = 0) : (Act.ctxAhead x e reverse).run s = s := by
  simp [Act.ctxAhead, h]

/-- What a context is, where the memory and what the scheduler keeps of it stay. -/
theorem State.ctxInterval_congr (hmem : t.mem = s.mem) (hwas : t.sched.was = s.sched.was) (hintervals : t.sched.intervals = s.sched.intervals) :
    t.ctxInterval x = s.ctxInterval x := by
  have hctl : t.ctxCtl x = s.ctxCtl x := State.bytes_congr fun a _ _ => congrArg (Sparse.get memDefault · a) hmem
  simp only [State.ctxInterval, State.ctxNewest, State.interval, hctl, hwas, hintervals]

/-- R248, R253: the point of a one-shot context gives one decision. -/
theorem Act.timeJudge_once (honce : s.ctxInterval x = 0) (hqueue : s.sched.queue = []) (hgather : s.sched.gather = [])
    (hreached : s.ctxTarget x ≤ s.ns) : let t := (Act.timeJudge x s.ns s.ns).run s
    t.sched = { s.sched with queue := [⟨x, s.clk, s.ns, 0, 1⟩] } ∧ t.mem = s.mem := by
  obtain ⟨hsched, hmem⟩ := Act.makeDecision_queue (x := x) hqueue hgather
  have honce' : ((Act.makeDecision x 0 1 s.clk).run s).ctxInterval x = 0 :=
    (State.ctxInterval_congr hmem (by rw [hsched]) (by rw [hsched])).trans honce
  have hrun : (Act.timeJudge x s.ns s.ns).run s = (Act.makeDecision x 0 1 s.clk).run s := by
    simp only [Act.timeJudge, Act.look_run, honce, points_reached hreached, points_none (Int.le_max_right _ _), State.ctxDone, hqueue,
      List.any_nil, Bool.false_and, Bool.not_false, Bool.true_and, Act.ctxHit, Bool.not_true,
      if_neg Bool.false_ne_true]
    exact Act.ctxAhead_once honce'
  rw [hrun]
  exact ⟨hsched, hmem⟩

theorem Act.judgeTime_once (hreleased : s.released = true) (hall : s.b F.SCHED_STATUS_HOLD_ALL = false) (hone : s.armedOn 0 = [x])
    (hold : s.ctxFresh x = false) : Act.judgeTime.run s = (Act.timeJudge x s.ns s.ns).run s := by
  simp only [Act.judgeTime, Act.look_run, State.schedHeld, hreleased, hall, hone, Bool.not_true, Bool.or_self, Bool.not_false,
    Act.when_true_run]
  rw [Act.each_cons_run, Act.each_nil_run, Act.look_run, hold]
  rfl

section
variable (hreleased : s.released = true)
include hreleased

theorem contextJudge_decides (hall : s.b F.SCHED_STATUS_HOLD_ALL = false) (hphase : s.b F.SCHED_STATUS_HOLD_PHASE = false)
    (hfree : ∀ k : Trk, s.sched.trk[k] = .free) (harmed : s.armedCtx = [x]) (hsrc : ctlSrc (s.ctxCtl x) = 0) (hold : s.ctxFresh x = false)
    (honce : s.ctxInterval x = 0) (hqueue : s.sched.queue = []) (hgather : s.sched.gather = []) (hreached : s.ctxTarget x ≤ s.ns) :
    Answers .contextJudge s fun t => t.sched.queue = [⟨x, s.clk, s.ns, 0, 1⟩] ∧ BytesKept s t := by
  have hone : s.armedOn 0 = [x] := by simp [State.armedOn, harmed, hsrc]
  have hnone : ∀ k : Fin 4, s.armedOn (k + 1) = [] := fun k => by simp [State.armedOn, harmed, hsrc]
  obtain ⟨hsched, hmem⟩ := Act.timeJudge_once honce hqueue hgather hreached
  have hrun : Act.judge.run s = (Act.each (List.finRange 4) Act.judgePhase).run ((Act.timeJudge x s.ns s.ns).run s) := by
    rw [Act.judge, Act.look_run, hreleased, Act.when_true_run, Act.all_cons_run, Act.holdsEnd_skip hall hphase hfree, Act.all_cons_run,
      Act.judgeTime_once hreleased hall hone hold, Act.all_cons_run, Act.all_nil_run]
  have htouch := Act.judgePhases_move ((Act.timeJudge x s.ns s.ns).run s) fun k => (State.armedOn_congr hmem _).trans (hnone k)
  refine ⟨_, congrArg Host.Outcome.next hrun, ?_, fun a => ?_⟩
  · rw [htouch.parts .sched (by decide), hsched]
  · exact congrArg (Sparse.get memDefault · a) ((htouch.parts .mem (by decide)).trans hmem)

/-! ### The end of the holds (R252) -/

end

/-- R252: what follows where holds were taken off. -/
def Act.afterHolds (c : Bool) : List Act := [
  .when c (.each (List.finRange 4) fun k => .look fun s =>
    .when (!s.phaseHeld k) (.all [.schedMove k (s.phase k) true, .judgeFresh k (s.phase k)])),
  .each (List.finRange 4) Act.endTrackerHold]

theorem Leaves.afterHolds {f : Fld} {c : Bool} (hf : f.name = .SCHED_STATUS) : (Act.afterHolds c).Forall (Leaves f) :=
  ⟨.of_within (l := phaseNames) (.when (.each fun _ => .look fun _ => .when (.all ⟨.schedMove, Within.judgeFresh.mono⟩))) (by rw [hf]; decide),
    .of_within (l := phaseNames) (.each fun _ => .endTrackerHold) (by rw [hf]; decide)⟩

theorem valid_schedStatus : RegRef.valid ⟨.SCHED_STATUS, 0, 0, 0⟩ = true := by decide

theorem schedHoldEnd_all (hreleased : s.released = true) (hall : s.b F.SCHED_STATUS_HOLD_ALL = true) (hmode : s.mode parked = false) :
    Answers .schedHoldEnd s fun t => t.b F.SCHED_STATUS_HOLD_ALL = false := by
  refine ⟨_, rfl, ?_⟩
  rw [Act.holdsEnd, Act.look_run, hreleased, Act.when_true_run, hall, hmode, Bool.not_false, Bool.and_true]
  refine (Act.all_b_head (.all (List.forall_cons _ _ _ |>.mpr ⟨.when .setB, Leaves.afterHolds rfl⟩))).trans ?_
  rw [Act.when_true_run]
  refine (Act.all_b_head (.all (show List.Forall _ [_] from ?_))).trans (Act.setB_b_at valid_schedStatus _ _)
  exact .of_within (l := []) (.each fun _ => .look fun _ => .ite .timeArm .timeJudge)

theorem schedHoldEnd_phase (hreleased : s.released = true) (hphase : s.b F.SCHED_STATUS_HOLD_PHASE = true) (hmode : s.mode phaseRun = true) :
    Answers .schedHoldEnd s fun t => t.b F.SCHED_STATUS_HOLD_PHASE = false := by
  refine ⟨_, rfl, ?_⟩
  rw [Act.holdsEnd, Act.look_run, hreleased, Act.when_true_run, hphase, hmode, Bool.and_true, Act.all_cons_run]
  exact (Act.all_b_head (.all (Leaves.afterHolds rfl))).trans (Act.setB_b_at valid_schedStatus _ _)

/-! ### The issue of a decision (R254 to R256) -/

/-- What an issued decision leaves beside its record: a one-shot context disarms, and its events show. -/
def Act.decidedShows (d : Decision) (outcome slip : Nat) (armed : Bool) : Act := .all [
  .when (!armed) (.all [.ctxClear d.ctx, .ctxForget d.ctx]),
  .when (outcome == 1) (.all [.setB F.SCHED_EVENTS_LATE true, .count F.SCHED_EVENTS_LATE_COUNT]),
  .when (outcome == 2) (.all [.setB F.SCHED_EVENTS_MISSED true, .count F.SCHED_EVENTS_MISSED_COUNT]),
  .when (outcome == 3) (.all [.setB F.SCHED_EVENTS_FAILED true, .count F.SCHED_RECORDS_FAILS]),
  .when (slip != 0) (.all [.setB F.SCHED_EVENTS_SLIPPED true, .count F.SCHED_EVENTS_SLIP_COUNT])]

theorem Act.decided_run (d : Decision) (outcome cause : Nat) (s : State) :
    (Act.decided d outcome cause).run s = (Act.decidedShows d outcome (s.clk - d.due) (s.ctxInterval d.ctx != 0)).run
      ((Act.when (outcome != 0 || ctlReport (s.ctxCtl d.ctx) || s.clk - d.due != 0)
        (.schedRecord d.ctx outcome cause (s.clk - d.due) d.count (s.ctxInterval d.ctx != 0) d.ns)).run s) := by
  simp only [Act.decided, Act.look_run, Act.decidedShows, Act.all_cons_run, Act.all_nil_run]

/-- The decisions that wait and the records on their way. -/
abbrev SchedKept : State → State → Prop := Same fun s => (s.sched.queue, s.sched.recs)

theorem Within.schedKept {l : List RegName} {rs : List RegRef} {ps : List Part} {a : Act} (h : Within l rs ps a)
    (hp : Part.sched ∉ ps := by decide) : a.Keeps SchedKept :=
  fun s => congrArg (fun c : SchedSt => (c.queue, c.recs)) ((h s).parts .sched hp)

theorem Act.decidedShows_schedKept {outcome slip : Nat} {armed : Bool} : (Act.decidedShows d outcome slip armed).Keeps SchedKept := by
  have hevent : ∀ {c : Bool} {f g : Fld}, (Act.when c (.all [.setB f true, .count g])).Keeps SchedKept := fun {c f g} =>
    Within.schedKept (l := [f.name, g.name]) (rs := []) (ps := [])
      (.when (.all ⟨.setB List.mem_cons_self, .count (List.mem_cons_of_mem _ List.mem_cons_self)⟩))
  exact Act.keeps_all Same.frame ⟨Act.keeps_when Same.frame (Act.keeps_all Same.frame ⟨Within.ctxClear.schedKept, fun _ => rfl⟩),
    hevent, hevent, hevent, hevent⟩

theorem Act.decided_sched {outcome cause : Nat} (h : outcome ≠ 0) (s : State) : let t := (Act.decided d outcome cause).run s
    t.sched.queue = s.sched.queue ∧ t.sched.recs.length = s.sched.recs.length + 1 := by
  have hrecorded : (outcome != 0 || ctlReport (s.ctxCtl d.ctx) || s.clk - d.due != 0) = true := by simp [h]
  have hkept := (Act.decidedShows_schedKept (d := d) (outcome := outcome) (slip := s.clk - d.due) (armed := s.ctxInterval d.ctx != 0)).same
    ((Act.schedRecord d.ctx outcome cause (s.clk - d.due) d.count (s.ctxInterval d.ctx != 0) d.ns).run s)
  obtain ⟨hqueue, hrecs⟩ := Prod.mk.inj hkept
  rw [Act.decided_run, hrecorded, Act.when_true_run]
  exact ⟨hqueue, (congrArg List.length hrecs).trans List.length_append⟩

/-- R256: a decision that acts, is not reported and issues in its clock leaves no record and no event. -/
theorem Act.decided_silent {cause : Nat} (hreport : ctlReport (s.ctxCtl d.ctx) = false) (hdue : d.due = s.clk) :
    let t := (Act.decided d 0 cause).run s
    t.sched.queue = s.sched.queue ∧ t.sched.recs = s.sched.recs ∧ t.regs = s.regs := by
  have hrun : (Act.decided d 0 cause).run s = (Act.when (!(s.ctxInterval d.ctx != 0)) (.all [.ctxClear d.ctx, .ctxForget d.ctx])).run s := by
    rw [Act.decided_run, hreport, hdue, Nat.sub_self]
    rfl
  rw [hrun]
  cases s.ctxInterval d.ctx != 0
  · have hclear : (Act.ctxClear d.ctx).Keeps SchedKept := Within.ctxClear.schedKept
    obtain ⟨hqueue, hrecs⟩ := Prod.mk.inj (hclear s)
    exact ⟨hqueue, hrecs, Act.setByte_regs _ _ s⟩
  · exact ⟨rfl, rfl, rfl⟩

/-- An event shows and counts. -/
theorem Act.event_shows {f g : Fld} {n m : RegName} (hn : RegRef.valid ⟨n, 0, 0, 0⟩ = true) (hm : RegRef.valid ⟨m, 0, 0, 0⟩ = true) (s : State)
    (hf : f.name = n := by rfl) (hg : g.name = m := by rfl) (hfm : f.inMask = true := by decide) (hgm : g.inMask = true := by decide)
    (hgf : g.spares f = true := by decide) (hfg : f.spares g = true := by decide) (hw : f.width = 1 := by rfl) :
    let t := (Act.all [.setB f true, .count g]).run s
    t.b f = true ∧ Counted g s t := by
  refine ⟨(Act.all_b_head (.all (show List.Forall _ [_] from .count hgf hfm))).trans (Act.setB_b_at hn _ _ hf hfm hw), ?_⟩
  have hkept : Leaves g (.setB f true) := .setB hfg hgm
  rw [Counted, Act.all_cons_run, Act.all_cons_run, Act.all_nil_run, ← hkept s 0 0 0]
  exact Act.count_f_same g 0 0 _ (hg ▸ hm) hgm

theorem Leaves.ctxDone {f : Fld} {armed : Bool} : Leaves f (.when (!armed) (.all [.ctxClear d.ctx, .ctxForget d.ctx])) :=
  .of_within (l := []) (ps := [.mem, .sched]) (.when (.all ⟨Within.ctxClear.mono, Within.ctxForget.mono⟩)) List.not_mem_nil

/-- An event of a decision is not overwritten by what else its issue shows. -/
theorem Act.decided_event {f g : Fld} {slip : Nat} {armed : Bool} (hevent : ∀ s : State, let t := (Act.all [.setB f true, .count g]).run s
      t.b f = true ∧ Counted g s t) (s : State)
    (hf : F.SCHED_EVENTS_SLIPPED.spares f = true ∧ F.SCHED_EVENTS_SLIP_COUNT.spares f = true ∧ f.inMask = true := by decide)
    (hg : F.SCHED_EVENTS_SLIPPED.spares g = true ∧ F.SCHED_EVENTS_SLIP_COUNT.spares g = true ∧ g.inMask = true := by decide) :
    let t := (Act.all [.when (!armed) (.all [.ctxClear d.ctx, .ctxForget d.ctx]), .all [.setB f true, .count g],
      .when (slip != 0) (.all [.setB F.SCHED_EVENTS_SLIPPED true, .count F.SCHED_EVENTS_SLIP_COUNT])]).run s
    t.b f = true ∧ Counted g s t := by
  have hslip : ∀ x : Fld, F.SCHED_EVENTS_SLIPPED.spares x = true ∧ F.SCHED_EVENTS_SLIP_COUNT.spares x = true ∧ x.inMask = true →
      Leaves x (.when (slip != 0) (.all [.setB F.SCHED_EVENTS_SLIPPED true, .count F.SCHED_EVENTS_SLIP_COUNT])) :=
    fun x ⟨h1, h2, hm⟩ => .when (.all ⟨.setB h1 hm, .count h2 hm⟩)
  have hdone : Leaves g (.when (!armed) (.all [.ctxClear d.ctx, .ctxForget d.ctx])) := .ctxDone
  obtain ⟨hset, hcount⟩ := hevent ((Act.when (!armed) (.all [.ctxClear d.ctx, .ctxForget d.ctx])).run s)
  rw [Counted, hdone] at hcount
  rw [Act.all_cons_run, Act.all_cons_run, Act.all_cons_run, Act.all_nil_run]
  exact ⟨((hslip f hf).b ..).trans hset, (hslip g hg ..).trans hcount⟩

theorem Act.decidedShows_missed {slip : Nat} {armed : Bool} (s : State) : let t := (Act.decidedShows d 2 slip armed).run s
    t.b F.SCHED_EVENTS_MISSED = true ∧ Counted F.SCHED_EVENTS_MISSED_COUNT s t := by
  have h := Act.decided_event (d := d) (slip := slip) (armed := armed)
    (Act.event_shows (f := F.SCHED_EVENTS_MISSED) (g := F.SCHED_EVENTS_MISSED_COUNT) (n := .SCHED_EVENTS) (m := .SCHED_EVENTS) (by decide) (by decide)) s
  simp only [Act.all_cons_run, Act.all_nil_run] at h
  simpa only [Act.decidedShows, Act.all_cons_run, Act.all_nil_run, Nat.reduceBEq, Act.when_true_run, Act.when_false_run] using h

theorem Act.decidedShows_failed {slip : Nat} {armed : Bool} (s : State) : let t := (Act.decidedShows d 3 slip armed).run s
    t.b F.SCHED_EVENTS_FAILED = true ∧ Counted F.SCHED_RECORDS_FAILS s t := by
  have h := Act.decided_event (d := d) (slip := slip) (armed := armed)
    (Act.event_shows (f := F.SCHED_EVENTS_FAILED) (g := F.SCHED_RECORDS_FAILS) (n := .SCHED_EVENTS) (m := .SCHED_RECORDS) (by decide) (by decide)) s
  simp only [Act.all_cons_run, Act.all_nil_run] at h
  simpa only [Act.decidedShows, Act.all_cons_run, Act.all_nil_run, Nat.reduceBEq, Act.when_true_run, Act.when_false_run] using h

theorem Within.decided {outcome cause : Nat} : Within [.SCHED_EVENTS, .SCHED_RECORDS] [] [.mem, .sched] (.decided d outcome cause) :=
  .look fun _ => .all ⟨.when (.look fun _ => .setSched), .when (.all ⟨Within.ctxClear.mono, Within.ctxForget.mono⟩), .when (.all ⟨.setB, .count⟩),
    .when (.all ⟨.setB, .count⟩), .when (.all ⟨.setB, .count⟩), .when (.all ⟨.setB, .count⟩)⟩

/-- What issuing the only decision of the queue leaves of the scheduler. -/
def SchedSt.issuing (c : SchedSt) (now : Nat) : SchedSt :=
  { c with queue := [], issued := (now, (if c.issued.1 = now then c.issued.2 else 0) + 1) }

/-- R254: the only decision of the queue is issued. -/
theorem Act.issueUpTo_one (hqueue : s.sched.queue = [d]) (hused : (if s.sched.issued.1 = s.clk then s.sched.issued.2 else 0) < 4) {t : State}
    (ht : (Act.issueOne d).run { s with sched := s.sched.issuing s.clk } = t) (hempty : t.sched.queue = []) :
    (Act.issueUpTo 4).run s = t := by
  rw [Act.issueUpTo, Act.look_run]
  simp only [hqueue, decide_eq_true hused, Act.when_true_run, Act.all_cons_run, Act.all_nil_run]
  change (Act.issueUpTo 3).run ((Act.issueOne d).run { s with sched := s.sched.issuing s.clk }) = t
  rw [ht, Act.issueUpTo, Act.look_run, hempty]
  rfl

section
variable (hqueue : s.sched.queue = [d]) (hused : (if s.sched.issued.1 = s.clk then s.sched.issued.2 else 0) < 4)
include hqueue hused

/-- The issue of a decision, up to the evaluation of the modes. -/
theorem decisionIssue_of {P : State → Prop} {t : State} (ht : (Act.issueOne d).run { s with sched := s.sched.issuing s.clk } = t)
    (hempty : t.sched.queue = []) (hP : P t) : AnswersThenModes .decisionIssue s P := by
  refine ⟨t, ?_, hP⟩
  rw [← Act.issueUpTo_one hqueue hused ht hempty]
  rfl

theorem decisionIssue_missed (houtcome : d.outcome = 2) : AnswersThenModes .decisionIssue s fun u =>
    u.sched.queue = [] ∧ u.b F.SCHED_EVENTS_MISSED = true ∧ Counted F.SCHED_EVENTS_MISSED_COUNT s u ∧
    u.sched.recs.length = s.sched.recs.length + 1 ∧ u.eng = s.eng := by
  generalize hu : ({ s with sched := s.sched.issuing s.clk } : State) = u
  have hrun : (Act.issueOne d).run u = (Act.decided d 2 0).run u := by rw [Act.issueOne, Act.look_run, if_pos houtcome]
  obtain ⟨hempty, hrecs⟩ := Act.decided_sched (d := d) (outcome := 2) (cause := 0) (by decide) u
  have heng := (Within.decided (d := d) (outcome := 2) (cause := 0) u).parts .eng (by decide)
  obtain ⟨hmissed, hcount⟩ := Act.decidedShows_missed (d := d) (slip := u.clk - d.due) (armed := u.ctxInterval d.ctx != 0)
    ((Act.when (2 != 0 || ctlReport (u.ctxCtl d.ctx) || u.clk - d.due != 0)
      (.schedRecord d.ctx 2 0 (u.clk - d.due) d.count (u.ctxInterval d.ctx != 0) d.ns)).run u)
  rw [← Act.decided_run] at hmissed hcount
  refine decisionIssue_of hqueue hused (hu ▸ hrun) (hempty.trans (hu ▸ rfl)) ⟨hempty.trans (hu ▸ rfl), hmissed, ?_, hrecs.trans (hu ▸ rfl), heng.trans (hu ▸ rfl)⟩
  exact hcount.trans (hu ▸ rfl)

theorem decisionIssue_lost {g : Grp} (houtcome : d.outcome = 0)
    (hgroup : actionGroup (ctlAction (s.ctxCtl d.ctx)) (s.ctxParam d.ctx) = some g) (hlost : s.alive g = false) :
    AnswersThenModes .decisionIssue s fun u =>
      u.sched.queue = [] ∧ u.b F.SCHED_EVENTS_FAILED = true ∧ Counted F.SCHED_RECORDS_FAILS s u ∧
      u.sched.recs.length = s.sched.recs.length + 1 := by
  generalize hu : ({ s with sched := s.sched.issuing s.clk } : State) = u
  have hgroup' : actionGroup (ctlAction (u.ctxCtl d.ctx)) (u.ctxParam d.ctx) = some g := hu ▸ hgroup
  have hlost' : u.alive g = false := hu ▸ hlost
  have hrun : (Act.issueOne d).run u = (Act.decided d 3 2).run u := by
    simp only [Act.issueOne, Act.look_run, houtcome, hgroup', hlost']
    rfl
  obtain ⟨hempty, hrecs⟩ := Act.decided_sched (d := d) (outcome := 3) (cause := 2) (by decide) u
  obtain ⟨hfailed, hcount⟩ := Act.decidedShows_failed (d := d) (slip := u.clk - d.due) (armed := u.ctxInterval d.ctx != 0)
    ((Act.when (3 != 0 || ctlReport (u.ctxCtl d.ctx) || u.clk - d.due != 0)
      (.schedRecord d.ctx 3 2 (u.clk - d.due) d.count (u.ctxInterval d.ctx != 0) d.ns)).run u)
  rw [← Act.decided_run] at hfailed hcount
  refine decisionIssue_of hqueue hused (hu ▸ hrun) (hempty.trans (hu ▸ rfl)) ⟨hempty.trans (hu ▸ rfl), hfailed, ?_, hrecs.trans (hu ▸ rfl)⟩
  exact hcount.trans (hu ▸ rfl)

theorem decisionIssue_rings (houtcome : d.outcome = 0) (haction : ctlAction (s.ctxCtl d.ctx) = 8) (hreport : ctlReport (s.ctxCtl d.ctx) = false)
    (hdue : d.due = s.clk) {e : Eng} (he : e = Fin.ofNat 8 (s.ctxParam d.ctx)) (hrung : s.eng[e].rung ≠ some s.clk)
    (hlive : s.engLive e = true) (hidle : s.b F.ENG_STATUS_DB_PEND e = false) :
    AnswersThenModes .decisionIssue s fun u =>
      u.sched.queue = [] ∧ u.b F.ENG_STATUS_DB_PEND e = true ∧ u.sched.recs = s.sched.recs ∧ u.r .SCHED_EVENTS = s.r .SCHED_EVENTS := by
  generalize hu : ({ s with sched := s.sched.issuing s.clk } : State) = u
  have hring : (Act.ring e).run u = (Act.setB F.ENG_STATUS_DB_PEND true e).run ((Act.setEng e fun x => { x with rung := some u.clk }).run u) := by
    have hrung' : u.eng[e].rung ≠ some u.clk := hu ▸ hrung
    have hlive' : u.engLive e = true := hu ▸ hlive
    have hidle' : u.b F.ENG_STATUS_DB_PEND e = false := hu ▸ hidle
    rw [Act.ring_run hrung', Act.ringActs, if_pos hlive', hidle', if_neg Bool.false_ne_true]
  generalize hv : Act.accept.run ((Act.ring e).run u) = v
  have hvin : Touches [] [⟨.ENG_STATUS, e, 0, 0⟩, ⟨.ENG_COUNTS, e, 0, 0⟩] [.eng, .resp] u v := by
    have hin : Within [] [⟨.ENG_STATUS, e, 0, 0⟩, ⟨.ENG_COUNTS, e, 0, 0⟩] [.eng, .resp] (.all [.ring e, .accept]) :=
      .all ⟨Within.ring.mono, .accept⟩
    rw [← hv]
    exact hin u
  have haction' : ctlAction (u.ctxCtl d.ctx) = 8 := hu ▸ haction
  have hparam : Fin.ofNat 8 (u.ctxParam d.ctx) = e := by rw [he, ← hu]; rfl
  have hrun : (Act.issueOne d).run u = (Act.answer u.resp).run ((Act.decided d 0 0).run v) := by
    have hresp : v.resp = .ok 0 := hv ▸ rfl
    simp only [Act.issueOne, Act.look_run, houtcome, haction', actionGroup, Act.schedAct, Act.all_cons_run, Act.all_nil_run, hparam,
      if_neg (show ¬ 0 = 2 by decide), if_neg Bool.false_ne_true, hv, hresp, if_true]
  have hctl : v.ctxCtl d.ctx = s.ctxCtl d.ctx :=
    State.bytes_congr fun a _ _ => congrArg (Sparse.get memDefault · a) ((hvin.parts .mem (by decide)).trans (hu ▸ rfl))
  have hclk : v.clk = s.clk := (hvin.parts .clk (by decide)).trans (hu ▸ rfl)
  have hsched : v.sched = u.sched := hvin.parts .sched (by decide)
  obtain ⟨hempty, hrecs, hregs⟩ := Act.decided_silent (d := d) (cause := 0) (s := v) (by rw [hctl]; exact hreport) (by rw [hclk]; exact hdue)
  rw [hsched] at hempty hrecs
  have hword : ∀ n i j k, ((Act.decided d 0 0).run v).r n i j k = v.r n i j k := fun n i j k => by rw [State.r_eq, State.r_eq, hregs]
  refine decisionIssue_of hqueue hused ((congrArg (Act.issueOne d).run hu).trans hrun) (hempty.trans (hu ▸ rfl))
    ⟨hempty.trans (hu ▸ rfl), ?_, hrecs.trans (hu ▸ rfl), ?_⟩
  · have hpend : v.b F.ENG_STATUS_DB_PEND e = true := by
      rw [← hv, hring]
      exact Act.setB_b_at (valid_engStatus e) _ _
    rw [← hpend, State.b, State.b, State.f, State.f]
    exact congrArg (fun w => F.ENG_STATUS_DB_PEND.of w == 1) (hword ..)
  · exact (hword ..).trans ((hvin.regs _ _ _ _ (by simp) (by simp)).trans (hu ▸ rfl))

end

/-! ### Records and marks on their way to their berths (R256, R258) -/

section
variable {at_ b c0 c1 : Nat} {l : List (Nat × Nat × Nat × Nat)} {w0 w1 : DWord}

/-- A packet of two cells reaches its berth, or is an orphan. -/
structure Delivered (b : Nat) (w0 w1 : DWord) (s t : State) : Prop where
  sched : t.sched = s.sched
  records : t.f F.SCHED_RECORDS_NEXT_SEQ = s.f F.SCHED_RECORDS_NEXT_SEQ
  orphan : b < 1024 → s.berthTakesRecords b = false → Counted F.HARB_LOSS_ORPHANS s t b ∧ t.harb = s.harb
  lands : b < 1024 → s.berthTakesRecords b = true → (s.berth b).gap = 0 → s.berthRoom b 2 = true →
    (t.berth b).cells = (s.berth b).cells ++ packetCells false [w0, w1]

theorem Act.moduleRecord_delivers (s : State) : Delivered b w0 w1 s ((Act.moduleRecord b w0 w1).run s) where
  sched := (Within.moduleRecord s).parts .sched (by decide)
  records := (Within.moduleRecord s).f_eq 0 0 0
  orphan hb hno := by
    rw [Act.moduleRecord_orphan hno]
    exact ⟨Act.orphan_counts hb s, Act.count_harb ..⟩
  lands hb htakes hgap hroom := Act.moduleRecord_cells hb htakes hgap hroom

theorem completionRecord_delivers (hrecs : s.sched.recs = (at_, b, c0, c1) :: l) (hdue : at_ + 16 ≤ s.clk) :
    Answers .completionRecord s fun t =>
      t.sched = { s.sched with recs := l } ∧
      t.f F.SCHED_RECORDS_NEXT_SEQ = (s.f F.SCHED_RECORDS_NEXT_SEQ + 1) % 65536 ∧
      (b < 1024 → s.berthTakesRecords b = false → Counted F.HARB_LOSS_ORPHANS s t b ∧ t.harb = s.harb) ∧
      (b < 1024 → s.berthTakesRecords b = true → (s.berth b).gap = 0 → s.berthRoom b 2 = true →
        (t.berth b).cells = (s.berth b).cells ++ packetCells false
          [BitVec.ofNat 64 (c0 + s.f F.SCHED_RECORDS_NEXT_SEQ * 2 ^ 48), BitVec.ofNat 64 c1]) := by
  generalize hu : (Act.setF F.SCHED_RECORDS_NEXT_SEQ ((s.f F.SCHED_RECORDS_NEXT_SEQ + 1) % 65536)).run
    ((Act.setSched fun c => { c with recs := l }).run s) = u
  have hin : Touches [.SCHED_RECORDS] [] [.sched] s u := by
    have hset : Within [.SCHED_RECORDS] [] [.sched] (.all [.setSched fun c => { c with recs := l },
      .setF F.SCHED_RECORDS_NEXT_SEQ ((s.f F.SCHED_RECORDS_NEXT_SEQ + 1) % 65536)]) := .all ⟨.setSched, .setF⟩
    rw [← hu]
    exact hset s
  have hrun : Act.completionRecord.run s =
      (Act.moduleRecord b (BitVec.ofNat 64 (c0 + s.f F.SCHED_RECORDS_NEXT_SEQ * 2 ^ 48)) (BitVec.ofNat 64 c1)).run u := by
    rw [Act.completionRecord, Act.look_run, hrecs]
    simp only [decide_eq_true hdue, Act.when_true_run, Act.all_cons_run, Act.all_nil_run, hu]
  have hsched : u.sched = { s.sched with recs := l } := hu ▸ Act.setF_sched ..
  have hseq : u.f F.SCHED_RECORDS_NEXT_SEQ = (s.f F.SCHED_RECORDS_NEXT_SEQ + 1) % 65536 := by
    rw [← hu, Act.setF_f_same _ _ _ _ _ _ (by decide) (by decide)]
    exact Nat.mod_mod _ _
  have hharb : u.harb = s.harb := hin.parts .harb (by decide)
  have hon : u.enabledBerths = s.enabledBerths := hu ▸ Act.setR_enabledBerths (by decide) ..
  have htakes : u.berthTakesRecords b = s.berthTakesRecords b := by
    simp only [State.berthTakesRecords, State.berthOn, State.b, hin.f_eq b 0 0 (f := F.HARB_CFG_ENABLE),
      hin.f_eq b 0 0 (f := F.HARB_STATUS_BROKEN), hin.f_eq b 0 0 (f := F.HARB_CFG_PCLK)]
  have hroom : u.berthRoom b 2 = s.berthRoom b 2 := State.berthRoom_congr hharb hon fun i => hin.r_eq i 0 0
  have hloss : u.f F.HARB_LOSS_ORPHANS b = s.f F.HARB_LOSS_ORPHANS b := hin.f_eq b 0 0
  have hout := Act.moduleRecord_delivers (b := b) (w0 := BitVec.ofNat 64 (c0 + s.f F.SCHED_RECORDS_NEXT_SEQ * 2 ^ 48)) (w1 := BitVec.ofNat 64 c1) u
  have horphan := hout.orphan
  have hlands := hout.lands
  rw [Counted, htakes, hharb, hloss] at horphan
  rw [htakes, hroom, State.berth_congr hharb b] at hlands
  refine ⟨_, congrArg Host.Outcome.next hrun, hout.sched.trans hsched, hout.records.trans hseq, horphan, hlands⟩

theorem schedMark_delivers (hmarks : s.sched.marks = (at_, b, c0, c1) :: l) (hdue : at_ + 16 ≤ s.clk) : Answers .schedMark s fun t =>
    t.sched = { s.sched with marks := l } ∧
    (b < 1024 → s.berthTakesRecords b = false → Counted F.HARB_LOSS_ORPHANS s t b ∧ t.harb = s.harb) ∧
    (b < 1024 → s.berthTakesRecords b = true → (s.berth b).gap = 0 → s.berthRoom b 2 = true →
      (t.berth b).cells = (s.berth b).cells ++ packetCells false [BitVec.ofNat 64 c0, BitVec.ofNat 64 c1]) := by
  have hrun : Act.markRecord.run s = (Act.moduleRecord b (BitVec.ofNat 64 c0) (BitVec.ofNat 64 c1)).run
      ((Act.setSched fun c => { c with marks := l }).run s) := by
    rw [Act.markRecord, Act.look_run, hmarks]
    simp only [decide_eq_true hdue, Act.when_true_run, Act.all_cons_run, Act.all_nil_run]
  have hout := Act.moduleRecord_delivers (b := b) (w0 := BitVec.ofNat 64 c0) (w1 := BitVec.ofNat 64 c1)
    ((Act.setSched fun c => { c with marks := l }).run s)
  exact ⟨_, congrArg Host.Outcome.next hrun, hout.sched, hout.orphan, hout.lands⟩

end

/-- Settles O42: judging, the end of the holds, the issue of the decision that waits, and the records and marks that are due. -/
theorem scheduler : Obligations.Scheduler := by
  intro s x d at_ b c0 c1 l
  refine ⟨fun hreset => ⟨_, rfl, ?reset⟩, contextJudge_decides, schedHoldEnd_all, schedHoldEnd_phase, fun hqueue => ⟨s, ?empty, rfl⟩,
    fun hqueue hused => ⟨decisionIssue_missed hqueue hused, fun houtcome haction hreport hdue hrung hlive _ hidle =>
      decisionIssue_rings hqueue hused houtcome haction hreport hdue rfl hrung hlive hidle, fun g => decisionIssue_lost hqueue hused⟩,
    completionRecord_delivers, schedMark_delivers⟩
  case reset =>
    rw [Act.judge, Act.look_run, hreset]
    rfl
  case empty =>
    have hrun : (Act.issueUpTo 4).run s = s := by
      rw [Act.issueUpTo, Act.look_run, hqueue]
      rfl
    exact congrArg (fun u => Host.Outcome.next (Act.modes.run u)) hrun

end Sys2Proof.Machine
end

section
-- One proof after another: elaborated side by side, the proofs of the whole text do not fit in the check's memory.
set_option Elab.async false
/-! Packets at a berth (R356 to R367). -/

namespace Sys2Proof.Machine

/-- A berth that is not listed in the canonical form: its second entry, which no read sees, holds the whole pool. -/
def poolHeldTwice : State := { (Act.setR .HARB_CFG 1 0).run Tests.live with
  harb := [(0, BerthSt.empty), (0, { BerthSt.empty with unseen := [(262144, 0)] })] }

/-- The gap count of berth 0 that a command leaves. -/
def gapOf (c : Instr) (s : State) : Nat := match exec c s with
  | .next t => (t.berth 0).gap
  | _ => 0

theorem gapOf_push : gapOf (.harbourPush .host 0 .both 0) poolHeldTwice = 0 := by decide +kernel

theorem poolHeldTwice_full : poolHeldTwice.berthRoom 0 1 = false := by decide +kernel

/-- Refutes O43: in a state that lists a berth twice (no state that a step leaves does), the drop at the full berth replaces both entries, which
gives the pool its cells back, and the gap mark goes in with the drop itself: the pending gap count is 0 and not 1. -/
theorem not_harbourPackets : ¬ Obligations.HarbourPackets := by
  unfold Obligations.HarbourPackets
  intro h
  obtain ⟨-, -, hdrop, -⟩ := h poolHeldTwice .host 0 0 0 ⟨0, false, false⟩ []
  obtain ⟨t, hexec, -, hgap, -⟩ := hdrop (by decide +kernel) (by decide +kernel) poolHeldTwice_full (by decide +kernel)
  have hone : gapOf (.harbourPush .host 0 .both 0) poolHeldTwice = 1 := by
    rw [gapOf, hexec]
    exact hgap
  rw [gapOf_push] at hone
  contradiction

end Sys2Proof.Machine
end

section
-- One proof after another: elaborated side by side, the proofs of the whole text do not fit in the check's memory.
set_option Elab.async false
/-! What a berth's sides see, gap marks, delivery and the registers of a berth (R355 to R370). -/

namespace Sys2Proof.Machine

variable {s : State} {src : Src} {b : Berth} {v : Word} {n : Nat × Nat} {l : List (Nat × Nat)} {d : Die} {c : HCell} {m : List HCell}

theorem valid_harb {r : RegName} (h : r ∈ [.HARB_CFG, .HARB_SIZE, .HARB_WATER, .HARB_STATUS, .HARB_COUNTS, .HARB_LOSS]) (b : Berth) :
    RegRef.valid ⟨r, b, 0, 0⟩ = true := by
  refine RegRef.valid_one b ?_ ?_ ?_ <;> revert r <;> decide

/-! ### The registers that the acts on a berth touch, at the berth alone -/

namespace Within

theorem waterAt {x : Nat} : Within [] [⟨.HARB_STATUS, x, 0, 0⟩] [] (.water x) :=
  .look fun _ => .all ⟨.when (.all ⟨.setBAt, .countAt⟩), .when (.all ⟨.setBAt, .countAt⟩), .setBAt, .setBAt⟩

theorem commitPacketAt {x : Nat} {p : List HCell} : Within [] [⟨.HARB_STATUS, x, 0, 0⟩] [.harb] (.commitPacket x p) :=
  .look fun _ => .ite (.all ⟨.setBerth, .setBAt⟩) .setBerth

theorem gapMarkAt {x : Nat} : Within [] [⟨.HARB_STATUS, x, 0, 0⟩] [.harb] (.gapMark x) :=
  .look fun _ => .ite (.all ⟨commitPacketAt, .setBerth, .setBAt, .setBAt, waterAt.mono⟩) .skip

theorem freeHeadAt {x k : Nat} : Within [] [⟨.HARB_STATUS, x, 0, 0⟩] [.harb] (.freeHead x k) :=
  .look fun _ => .all ⟨.setBerth, waterAt.mono, .when gapMarkAt⟩

end Within

theorem Leaves.water {f : Fld} {x : Nat} (h : f ∈ [F.HARB_STATUS_NOTICE, F.HARB_STATUS_GAP_PEND, F.HARB_STATUS_GAP_SENT, F.HARB_STATUS_BROKEN]) :
    Leaves f (.water x) := by
  have hspare : ∀ g ∈ [F.HARB_STATUS_HIGH_WATER, F.HARB_STATUS_HIGH_CROSS, F.HARB_STATUS_LOW_WATER, F.HARB_STATUS_LOW_CROSS,
      F.HARB_STATUS_HIGH_NOW, F.HARB_STATUS_LOW_NOW], g.spares f = true := by revert f; decide
  have hm : f.inMask = true := by revert f; decide
  have hsp := List.forall_iff_forall_mem.mpr hspare
  obtain ⟨h1, h2, h3, h4, h5, h6⟩ := hsp
  exact .look fun _ => .all ⟨.when (.all ⟨.setB h1 hm, .count h2 hm⟩), .when (.all ⟨.setB h3 hm, .count h4 hm⟩), .setB h5 hm, .setB h6 hm⟩

/-! ### What one side sees of the other (R360, R372) -/

theorem pointerCrossing_producer (hgap : (s.berth b).gap = 0) (hunseen : (s.berth b).unseen = n :: l)
    (hcrosses : s.crosses b (s.f F.HARB_CFG_PCLK b) n.2 = true) : Answers (.pointerCrossing b true) s fun t =>
      t.berth b = { s.berth b with unseen := l } ∧ RegsKept [⟨.HARB_STATUS, b, 0, 0⟩] s t ∧ t = { s with regs := t.regs, harb := t.harb } := by
  have hin : Within [] [⟨.HARB_STATUS, b, 0, 0⟩] [.harb] (.crossing b true) := by
    refine .look fun s => ?_
    rw [if_pos rfl]
    split
    · exact .skip
    · exact .when (.all ⟨.setBerth, Within.waterAt.mono, Within.gapMarkAt⟩)
  have hset := Act.setBerth_same b.isLt (fun q => { q with unseen := l }) s
  have hwater : (((Act.water b).run ((Act.setBerth b fun q => { q with unseen := l }).run s)).berth b) = { s.berth b with unseen := l } :=
    (Within.water.berth_eq _ _).trans hset
  have hrun : (Act.crossing b true).run s = (Act.water b).run ((Act.setBerth b fun q => { q with unseen := l }).run s) := by
    simp only [Act.crossing, Act.look_run, if_true, hunseen, hcrosses, Act.when_true_run, Act.all_cons_run, Act.all_nil_run]
    exact Act.gapMark_skip ((congrArg BerthSt.gap hwater).trans hgap)
  refine ⟨_, rfl, ?_, (hin s).regsKept, (hin s).rest⟩
  rw [hrun]
  exact hwater

theorem pointerCrossing_consumer (hhidden : (s.berth b).hidden = n :: l) (hcrosses : s.crosses b (s.f F.HARB_CFG_CCLK b) n.2 = true) :
    Answers (.pointerCrossing b false) s fun t =>
      t.berth b = { s.berth b with hidden := l } ∧ t.b F.HARB_STATUS_NOTICE b = true ∧ RegsKept [⟨.HARB_STATUS, b, 0, 0⟩] s t ∧
      t = { s with regs := t.regs, harb := t.harb } := by
  have hin : Within [] [⟨.HARB_STATUS, b, 0, 0⟩] [.harb] (.crossing b false) := by
    refine .look fun s => ?_
    rw [if_neg Bool.false_ne_true]
    split
    · exact .skip
    · exact .when (.all ⟨.setBerth, .setBAt, Within.waterAt.mono⟩)
  have hnotice : Within [.HARB_STATUS] [] [] (.setB F.HARB_STATUS_NOTICE true b) := .setB
  have hkept : Leaves F.HARB_STATUS_NOTICE (.water b) := .water (by simp)
  have hrun : (Act.crossing b false).run s = (Act.water b).run ((Act.setB F.HARB_STATUS_NOTICE true b).run
      ((Act.setBerth b fun q => { q with hidden := l }).run s)) := by
    simp only [Act.crossing, Act.look_run, Bool.false_eq_true, if_false, hhidden, hcrosses, Act.when_true_run, Act.all_cons_run, Act.all_nil_run]
  refine ⟨_, rfl, ?_, ?_, (hin s).regsKept, (hin s).rest⟩
  · rw [hrun, Within.water.berth_eq, hnotice.berth_eq, Act.setBerth_same b.isLt]
  · rw [hrun, hkept.b]
    exact Act.setB_b_at (valid_harb (r := .HARB_STATUS) (by simp) b) _ _

theorem pointerCrossing_held (h : s.berthOn b = false ∨ s.portClockRuns (s.f F.HARB_CFG_CCLK b) = false) :
    Answers (.pointerCrossing b false) s fun t => t = s := by
  have hcrosses : ∀ sel e, s.crosses b sel e = false := fun sel e => by rcases h with h | h <;> simp [State.crosses, h]
  refine ⟨_, rfl, ?_⟩
  rw [Act.crossing, Act.look_run, if_neg Bool.false_ne_true]
  split
  · rfl
  · rw [hcrosses]
    rfl

/-! ### The gap mark (R363) -/

theorem gapMarkWrite_answers (hon : s.berthOn b = true) (hgap : 0 < (s.berth b).gap) (hroom : s.berthRoom b 2 = true) :
    Answers (.gapMarkWrite b) s fun t =>
      (t.berth b).cells = (s.berth b).cells ++ packetCells true
        [BitVec.ofNat 64 ((s.berth b).gap + 0x3E * 2 ^ 36), BitVec.ofNat 64 (s.berth b).gapTime] ∧
      (t.berth b).gap = 0 ∧ t.b F.HARB_STATUS_GAP_PEND b = false ∧ t.b F.HARB_STATUS_GAP_SENT b = true ∧
      RegsKept [⟨.HARB_STATUS, b, 0, 0⟩] s t ∧ t = { s with regs := t.regs, harb := t.harb } := by
  have hin : Within [] [⟨.HARB_STATUS, b, 0, 0⟩] [.harb] (.gapMark b) := .gapMarkAt
  generalize hp : packetCells true [BitVec.ofNat 64 ((s.berth b).gap + 0x3E * 2 ^ 36), BitVec.ofNat 64 (s.berth b).gapTime] = p
  generalize hu : (Act.commitPacket b p).run s = u
  have hmarks : Within [.HARB_STATUS] [] [] (.all [.setB F.HARB_STATUS_GAP_PEND false b, .setB F.HARB_STATUS_GAP_SENT true b, .water b]) :=
    .all ⟨.setB, .setB, .water⟩
  have hrun : (Act.gapMark b).run s = (Act.all [.setB F.HARB_STATUS_GAP_PEND false b, .setB F.HARB_STATUS_GAP_SENT true b, .water b]).run
      ((Act.setBerth b fun q => { q with gap := 0, gapTime := 0 }).run u) := by
    simp only [Act.gapMark, Act.look_run, hon, decide_eq_true hgap, hroom, Bool.and_self, if_true, Act.all_cons_run, Act.all_nil_run, hp, hu]
  have hpend : Leaves F.HARB_STATUS_GAP_PEND (.all [.setB F.HARB_STATUS_GAP_SENT true b, .water b]) := .all ⟨.setB, .water (by simp)⟩
  have hsent : Leaves F.HARB_STATUS_GAP_SENT (.all [.water b]) := .all (show List.Forall _ [_] from .water (by simp))
  have hcells := (Act.commitPacket_commits (p := p) b.isLt s).1
  rw [hu] at hcells
  refine ⟨_, rfl, ?_, ?_, ?_, ?_, (hin s).regsKept, (hin s).rest⟩
  · rw [hrun, hmarks.berth_eq, Act.setBerth_same b.isLt]
    exact hcells
  · rw [hrun, hmarks.berth_eq, Act.setBerth_same b.isLt]
  · rw [hrun]
    exact (Act.all_b_head hpend).trans (Act.setB_b_at (valid_harb (r := .HARB_STATUS) (by simp) b) _ _)
  · rw [hrun, Act.all_cons_run]
    exact (Act.all_b_head hsent).trans (Act.setB_b_at (valid_harb (r := .HARB_STATUS) (by simp) b) _ _)

/-! ### Delivery to the fabric (R359) -/

theorem fabricDelivery_writes (hdie : s.deliveryDie b = some d) (hon : s.berthOn b = true) (hlevel : 0 < (s.berth b).cLevel)
    (hcells : (s.berth b).cells = c :: m) (hport : s.userPort d = true) (hidle : s.delivering b = false) :
    Answers (.fabricDelivery b ()) s fun t =>
      (∃ x y, t.fab.access[d] = s.fab.access[d] ++ [x, y] ∧
        x.write = true ∧ x.addr = s.f F.HARB_CFG_DADDR b % 65536 ∧ x.v = c.data.setWidth 32 ∧
        y.write = true ∧ y.addr = (s.f F.HARB_CFG_DADDR b + highRegister c) % 65536 ∧ y.v = (c.data >>> 32).setWidth 32) ∧
      t.delivering b = true ∧ t = { s with fab := t.fab } := by
  refine ⟨_, rfl, ?_⟩
  have hhead : (s.berth b).cells.head? = some c := by rw [hcells]; rfl
  simp only [Act.fabricDelivery, Act.look_run, hdie, hhead, hon, decide_eq_true hlevel, hport, hidle, Bool.and_self, Bool.not_false, Act.when_true_run]
  refine ⟨⟨_, _, Vector.getElem_set_self _, rfl, rfl, rfl, rfl, rfl, rfl⟩, ?_, rfl⟩
  simp [State.delivering, Act.setFab]

/-- R361, R364: cells are freed at the head; no gap mark is due. -/
theorem Act.freeHead_frees {k : Nat} (hgap : (s.berth b).gap = 0) : ∃ u, ((Act.freeHead b k).run s).berth b = { s.berth b with
    cells := (s.berth b).cells.drop k, unseen := u } := by
  refine ⟨if s.berthSync b then (s.berth b).unseen else (s.berth b).unseen ++ [(k, s.sideEdges (s.f F.HARB_CFG_PCLK b))], ?_⟩
  rw [Act.freeHead, Act.look_run, Act.all_cons_run, Act.all_cons_run, Act.all_cons_run, Act.all_nil_run]
  generalize hu : (Act.setBerth b fun q => { q with
    cells := q.cells.drop k
    unseen := if s.berthSync b then q.unseen else q.unseen ++ [(k, s.sideEdges (s.f F.HARB_CFG_PCLK b))] }).run s = u
  have hset : ((Act.water b).run u).berth b = { s.berth b with
      cells := (s.berth b).cells.drop k
      unseen := if s.berthSync b then (s.berth b).unseen else (s.berth b).unseen ++ [(k, s.sideEdges (s.f F.HARB_CFG_PCLK b))] } := by
    rw [Within.water.berth_eq, ← hu, Act.setBerth_same b.isLt]
  cases hsync : s.berthSync b
  · rw [hsync] at hset
    exact hset
  · rw [hsync] at hset
    rw [Act.when_true_run, Act.gapMark_skip ((congrArg BerthSt.gap hset).trans hgap)]
    exact hset

theorem deliveryEnd_pops (hon : s.berthOn b = true) (hlevel : 0 < (s.berth b).cLevel) (hcells : (s.berth b).cells = c :: m)
    (hgap : (s.berth b).gap = 0) :
    ((Act.deliveryEnd b c true).run s).berth b = { s.berth b with
        cells := m, unseen := (((Act.deliveryEnd b c true).run s).berth b).unseen } ∧
      (Act.deliveryEnd b c false).run s = s := by
  have hrun : (Act.deliveryEnd b c true).run s = (Act.freeHead b 1).run s := by simp [Act.deliveryEnd, hon, hlevel, hcells]
  obtain ⟨u, hfree⟩ := Act.freeHead_frees (k := 1) hgap
  refine ⟨?_, rfl⟩
  rw [hrun, hfree, hcells]
  rfl

/-! ### The registers of a berth (R355, R359, R361, R369, R370) -/

/-- What a write of CFG changes. -/
theorem Within.berthCfgTaken {x : Act} (hx : Within [] [⟨.HARB_CFG, b, 0, 0⟩, ⟨.HARB_STATUS, b, 0, 0⟩] [.harb, .resp] x) :
    Within [] [⟨.HARB_CFG, b, 0, 0⟩, ⟨.HARB_STATUS, b, 0, 0⟩] [.harb, .resp]
      (.all [.setR .HARB_CFG v b, x, .setB F.HARB_STATUS_BROKEN false b, .accept]) := .all ⟨.setRAt, hx, .setBAt, .accept⟩

section
variable (hw : s.takesReg src .HARB_CFG b) (hpclk : F.HARB_CFG_PCLK.of v ≠ 3) (hcclk : F.HARB_CFG_CCLK.of v ≠ 3)
  (hsync : F.HARB_CFG_SYNC.of v = 1 → F.HARB_CFG_PCLK.of v = F.HARB_CFG_CCLK.of v)

theorem Within.enableBerth : Within [] [⟨.HARB_STATUS, b, 0, 0⟩] [.harb] (.enableBerth b) :=
  .all ⟨.setBerth, .setBAt, .look fun _ => .all ⟨.setBAt, .setBAt⟩⟩

theorem Act.enableBerth_empty (s : State) : ((Act.enableBerth b).run s).berth b = BerthSt.empty := by
  have hmarks : Within [.HARB_STATUS] [] [] (.all [.setB F.HARB_STATUS_GAP_PEND false b, .look fun s => .all [
    .setB F.HARB_STATUS_HIGH_NOW (decide (s.f F.HARB_WATER_HWM b = 0)) b, .setB F.HARB_STATUS_LOW_NOW true b]]) :=
    .all ⟨.setB, .look fun _ => .all ⟨.setB, .setB⟩⟩
  rw [Act.enableBerth, Act.all_cons_run, hmarks.berth_eq, Act.setBerth_same b.isLt]

include hpclk hcclk hsync

/-- The write says what a CFG may say. -/
theorem Act.berthCfg_run (hon : F.HARB_CFG_ENABLE.of v = 0 ∨ s.b F.HARB_CFG_ENABLE b = false) :
    (Act.berthCfg b v).run s = (if (F.HARB_CFG_ENABLE.of v == 1) && !s.b F.HARB_CFG_ENABLE b && decide (cellsInPool < s.reserveSum + s.berthMin b)
      then Act.harbRefuse else .all [
        .when (s.berthOn b && !(F.HARB_CFG_ENABLE.of v == 1)) (.freeBerth b false),
        .setR .HARB_CFG v b,
        .when ((F.HARB_CFG_ENABLE.of v == 1) && (!s.b F.HARB_CFG_ENABLE b || s.b F.HARB_STATUS_BROKEN b)) (.enableBerth b),
        .setB F.HARB_STATUS_BROKEN false b,
        .accept]).run s := by
  have hboth : (s.b F.HARB_CFG_ENABLE b && (F.HARB_CFG_ENABLE.of v == 1)) = false := by
    rcases hon with h | h
    · rw [h]
      exact Bool.and_false _
    · rw [h, Bool.false_and]
  have hmatch : (F.HARB_CFG_SYNC.of v == 1 && F.HARB_CFG_PCLK.of v != F.HARB_CFG_CCLK.of v) = false := by
    by_cases h : F.HARB_CFG_SYNC.of v = 1
    · rw [hsync h, bne_self_eq_false, Bool.and_false]
    · rw [beq_eq_false_iff_ne.mpr h, Bool.false_and]
  simp only [Act.berthCfg, Act.look_run, beq_eq_false_iff_ne.mpr hpclk, beq_eq_false_iff_ne.mpr hcclk, Bool.or_self, hmatch, hboth, Bool.false_and,
    Bool.false_eq_true, if_false]

include hw

theorem berthCfg_enables (hon : F.HARB_CFG_ENABLE.of v = 1) (hwas : s.b F.HARB_CFG_ENABLE b = false)
    (hfits : s.reserveSum + s.berthMin b ≤ cellsInPool) : Answers (.berthCfgWrite src b v) s fun t =>
      t.resp = .ok 0 ∧ t.r .HARB_CFG b = v &&& RegName.mask .HARB_CFG ∧ t.berth b = BerthSt.empty ∧
      t.b F.HARB_STATUS_BROKEN b = false ∧ RegsKept [⟨.HARB_CFG, b, 0, 0⟩, ⟨.HARB_STATUS, b, 0, 0⟩] s t := by
  have hin := Within.berthCfgTaken (b := b) (v := v) (x := .enableBerth b) Within.enableBerth.mono
  have heffect : (Act.berthCfg b v).run s = (Act.all [.setR .HARB_CFG v b, .enableBerth b, .setB F.HARB_STATUS_BROKEN false b, .accept]).run s := by
    rw [Act.berthCfg_run hpclk hcclk hsync (.inr hwas), hon, hwas, decide_eq_false (by omega)]
    simp only [BEq.rfl, Bool.not_true, Bool.and_false, Bool.not_false, Bool.and_true, Bool.false_eq_true, if_false, Act.all_cons_run, Act.when_false_run,
      Bool.true_or, Act.when_true_run]
  have hrun := Act.writeTo_accepted (d := 0) hw (a := Act.berthCfg b v) (by rw [heffect]; rfl)
  have hbroken : Within [.HARB_STATUS] [] [.resp] (.all [.setB F.HARB_STATUS_BROKEN false b, .accept]) := .all ⟨.setB, .accept⟩
  have hempty : Within [.HARB_STATUS] [] [.harb] (.enableBerth b) := Within.enableBerth.byName (by simp)
  have hkept : Within [.HARB_STATUS] [] [.harb, .resp] (.all [.enableBerth b, .setB F.HARB_STATUS_BROKEN false b, .accept]) :=
    .all ⟨hempty.mono, .setB, .accept⟩
  refine ⟨_, rfl, ?_⟩
  rw [hrun, heffect]
  refine ⟨rfl, ?_, ?_, ?_, (hin s).regsKept⟩
  · rw [Act.all_cons_run, (hkept _).r_eq]
    exact Act.setR_r_same _ _ _ _ _ s (valid_harb (r := .HARB_CFG) (by simp) b)
  · rw [Act.all_cons_run, Act.all_cons_run, hbroken.berth_eq]
    exact Act.enableBerth_empty _
  · rw [Act.all_cons_run, Act.all_cons_run]
    exact (Act.all_b_head (.all (show List.Forall _ [_] from .accept))).trans (Act.setB_b_at (valid_harb (r := .HARB_STATUS) (by simp) b) _ _)

theorem berthCfg_crowded (hon : F.HARB_CFG_ENABLE.of v = 1) (hwas : s.b F.HARB_CFG_ENABLE b = false)
    (hfull : cellsInPool < s.reserveSum + s.berthMin b) : Answers (.berthCfgWrite src b v) s fun t =>
      t.resp = .error ∧ Counted F.HARB_REFUSED_COUNT s t ∧ NamesKept [.HARB_REFUSED, .FAB_PORT_ERR] s t ∧ OnlyRegs s t := by
  have heffect : (Act.berthCfg b v).run s = (Act.refuse F.HARB_REFUSED_COUNT).run s := by
    rw [Act.berthCfg_run hpclk hcclk hsync (.inr hwas), hon, hwas, decide_eq_true hfull]
    rfl
  exact ⟨_, rfl, Act.writeTo_refused hw heffect (by decide)⟩

/-- R370: what the freeing of a berth leaves. -/
def BerthSt.freed (q : BerthSt) : BerthSt := { BerthSt.empty with lastPop := q.lastPop, tags := q.tags }

omit hw hpclk hcclk hsync in
theorem Within.freeBerth {broken : Bool} : Within [.HARB_LOSS, .FAULT_STATUS, .FAULT_EVENTS, .HARB_STATUS] [] [.harb, .log, .seed] (.freeBerth b broken) :=
  .look fun _ => .all ⟨.count, .log, .setBerth, .setB, .setB, .setB⟩

omit hw hpclk hcclk hsync in
theorem Act.freeBerth_frees (broken : Bool) (s : State) : let t := (Act.freeBerth b broken).run s
    t.berth b = (s.berth b).freed ∧ t.f F.HARB_LOSS_DISCARDED b = min (s.f F.HARB_LOSS_DISCARDED b +
      (((s.berth b).cells.filter (·.last)).length + (s.berth b).opens.length + (s.berth b).gap)) 65535 := by
  have hmarks : Within [.HARB_STATUS] [] [] (.all [.setB F.HARB_STATUS_GAP_PEND false b, .setB F.HARB_STATUS_HIGH_NOW false b,
    .setB F.HARB_STATUS_LOW_NOW false b]) := .all ⟨.setB, .setB, .setB⟩
  have hlog : ∀ data, Within [.FAULT_STATUS, .FAULT_EVENTS] [] [.log, .seed] (.log 22 b data) := fun data => .log
  have hcount : ∀ k, Within [.HARB_LOSS] [] [] (.count F.HARB_LOSS_DISCARDED k b) := fun k => .count
  have hrest : ∀ data (x : BerthSt → BerthSt), Leaves F.HARB_LOSS_DISCARDED (.all [.log 22 b data, .setBerth b x,
      .setB F.HARB_STATUS_GAP_PEND false b, .setB F.HARB_STATUS_HIGH_NOW false b, .setB F.HARB_STATUS_LOW_NOW false b]) := fun data x =>
    .all ⟨.of_within (hlog data), .of_within (l := []) (ps := [.harb]) .setBerth, .setB, .setB, .setB⟩
  simp only [Act.freeBerth, Act.look_run]
  refine ⟨?_, ?_⟩
  · rw [Act.all_cons_run, Act.all_cons_run, Act.all_cons_run, hmarks.berth_eq, Act.setBerth_same b.isLt, (hlog _).berth_eq, (hcount _).berth_eq]
    rfl
  · rw [Act.all_f_head (hrest _ _), Act.count_f_counted (hv := valid_harb (r := .HARB_LOSS) (by simp) b) (hm := by decide)]
    rfl

theorem berthCfg_disables (hoff : F.HARB_CFG_ENABLE.of v = 0) (hwas : s.berthOn b = true) : Answers (.berthCfgWrite src b v) s fun t =>
      t.resp = .ok 0 ∧ t.r .HARB_CFG b = v &&& RegName.mask .HARB_CFG ∧ (t.berth b).pLevel = 0 ∧ (t.berth b).gap = 0 ∧
      t.f F.HARB_LOSS_DISCARDED b = min (s.f F.HARB_LOSS_DISCARDED b +
        (((s.berth b).cells.filter (·.last)).length + (s.berth b).opens.length + (s.berth b).gap)) 65535 := by
  have heffect : (Act.berthCfg b v).run s = (Act.all [.freeBerth b false, .setR .HARB_CFG v b, .setB F.HARB_STATUS_BROKEN false b, .accept]).run s := by
    rw [Act.berthCfg_run hpclk hcclk hsync (.inl hoff), hoff, hwas]
    simp only [Nat.reduceBEq, Bool.false_and, Bool.not_false, Bool.and_true, Bool.false_eq_true, if_false, Act.all_cons_run, Act.when_false_run,
      Act.when_true_run]
  have hrun := Act.writeTo_accepted (d := 0) hw (a := Act.berthCfg b v) (by rw [heffect]; rfl)
  have hrest : Within [.HARB_CFG, .HARB_STATUS] [] [.resp] (.all [.setR .HARB_CFG v b, .setB F.HARB_STATUS_BROKEN false b, .accept]) :=
    .all ⟨.setR, .setB, .accept⟩
  have hmarks : Within [.HARB_STATUS] [] [.resp] (.all [.setB F.HARB_STATUS_BROKEN false b, .accept]) := .all ⟨.setB, .accept⟩
  obtain ⟨hberth, hlost⟩ := Act.freeBerth_frees (b := b) false s
  refine ⟨_, rfl, ?_⟩
  rw [hrun, heffect, Act.all_cons_run]
  have hfreed := (hrest.berth_eq ((Act.freeBerth b false).run s) b).trans hberth
  refine ⟨rfl, ?_, by rw [hfreed]; rfl, by rw [hfreed]; rfl, ((hrest _).f_eq b 0 0).trans hlost⟩
  rw [Act.all_cons_run, (hmarks _).r_eq]
  exact Act.setR_r_same _ _ _ _ _ _ (valid_harb (r := .HARB_CFG) (by simp) b)

end

theorem berthCfg_refused (hw : s.takesReg src .HARB_CFG b) (h : F.HARB_CFG_PCLK.of v = 3 ∨ F.HARB_CFG_CCLK.of v = 3) :
    Answers (.berthCfgWrite src b v) s fun t =>
      t.resp = .error ∧ Counted F.HARB_REFUSED_COUNT s t ∧ NamesKept [.HARB_REFUSED, .FAB_PORT_ERR] s t ∧ OnlyRegs s t := by
  have hbad : (F.HARB_CFG_PCLK.of v == 3 || F.HARB_CFG_CCLK.of v == 3) = true := by rcases h with h | h <;> simp [h]
  have heffect : (Act.berthCfg b v).run s = (Act.refuse F.HARB_REFUSED_COUNT).run s := by
    simp only [Act.berthCfg, Act.look_run, hbad, if_true, Act.harbRefuse]
  exact ⟨_, rfl, Act.writeTo_refused hw heffect (by decide)⟩

theorem berthSize_takes (hw : s.takesReg src .HARB_SIZE b) (hoff : s.b F.HARB_CFG_ENABLE b = false) (hcap : 1 ≤ F.HARB_SIZE_CAP_M1.of v)
    (hmin : F.HARB_SIZE_MIN.of v ≤ F.HARB_SIZE_CAP_M1.of v + 1) : Answers (.berthSizeWrite src b v) s fun t =>
      t.resp = .ok 0 ∧ t.r .HARB_SIZE b = v &&& RegName.mask .HARB_SIZE ∧ RegsKept [⟨.HARB_SIZE, b, 0, 0⟩] s t ∧ OnlyRegs s t := by
  have heffect : (Act.berthSize b v).run s = (Act.all [.setR .HARB_SIZE v b, .accept]).run s := by
    simp only [Act.berthSize, Act.look_run, hoff, Bool.false_and, Bool.false_eq_true, if_false]
    rw [if_neg (by omega)]
  have hin : Within [] [⟨.HARB_SIZE, b, 0, 0⟩] [.resp] (.all [.setR .HARB_SIZE v b, .accept]) := .all ⟨.setRAt, .accept⟩
  have hrun := Act.writeTo_accepted (d := 0) hw (a := Act.berthSize b v) (by rw [heffect]; rfl)
  refine ⟨_, rfl, ?_⟩
  rw [hrun, heffect]
  exact ⟨rfl, Act.setR_r_same _ _ _ _ _ s (valid_harb (r := .HARB_SIZE) (by simp) b), (hin s).regsKept, (hin s).rest⟩

theorem berthSize_refused (hw : s.takesReg src .HARB_SIZE b)
    (h : F.HARB_SIZE_CAP_M1.of v = 0 ∨ F.HARB_SIZE_CAP_M1.of v + 1 < F.HARB_SIZE_MIN.of v) : Answers (.berthSizeWrite src b v) s fun t =>
      t.resp = .error ∧ Counted F.HARB_REFUSED_COUNT s t ∧ NamesKept [.HARB_REFUSED, .FAB_PORT_ERR] s t ∧ OnlyRegs s t := by
  have heffect : (Act.berthSize b v).run s = (Act.refuse F.HARB_REFUSED_COUNT).run s := by
    simp only [Act.berthSize, Act.look_run, Act.harbRefuse]
    rw [if_pos (by omega)]
  exact ⟨_, rfl, Act.writeTo_refused hw heffect (by decide)⟩

theorem berthWater_takes (hw : s.takesReg src .HARB_WATER b) (horder : F.HARB_WATER_LWM.of v < F.HARB_WATER_HWM.of v)
    (hcap : F.HARB_WATER_HWM.of v ≤ s.berthCap b) : Answers (.berthWaterWrite src b v) s fun t =>
      t.resp = .ok 0 ∧ t.r .HARB_WATER b = v &&& RegName.mask .HARB_WATER ∧ RegsKept [⟨.HARB_WATER, b, 0, 0⟩] s t ∧ OnlyRegs s t := by
  have heffect : (Act.berthWater b v).run s = (Act.all [.setR .HARB_WATER v b, .accept]).run s := by
    rw [Act.berthWater, Act.look_run, if_neg (by omega)]
  have hin : Within [] [⟨.HARB_WATER, b, 0, 0⟩] [.resp] (.all [.setR .HARB_WATER v b, .accept]) := .all ⟨.setRAt, .accept⟩
  have hrun := Act.writeTo_accepted (d := 0) hw (a := Act.berthWater b v) (by rw [heffect]; rfl)
  refine ⟨_, rfl, ?_⟩
  rw [hrun, heffect]
  exact ⟨rfl, Act.setR_r_same _ _ _ _ _ s (valid_harb (r := .HARB_WATER) (by simp) b), (hin s).regsKept, (hin s).rest⟩

theorem berthWater_refused (hw : s.takesReg src .HARB_WATER b)
    (h : F.HARB_WATER_HWM.of v ≤ F.HARB_WATER_LWM.of v ∨ s.berthCap b < F.HARB_WATER_HWM.of v) : Answers (.berthWaterWrite src b v) s fun t =>
      t.resp = .error ∧ Counted F.HARB_REFUSED_COUNT s t ∧ NamesKept [.HARB_REFUSED, .FAB_PORT_ERR] s t ∧ OnlyRegs s t := by
  have heffect : (Act.berthWater b v).run s = (Act.refuse F.HARB_REFUSED_COUNT).run s := by
    rw [Act.berthWater, Act.look_run, if_pos h, Act.harbRefuse]
  exact ⟨_, rfl, Act.writeTo_refused hw heffect (by decide)⟩

/-- Settles O44: each act on a berth changes what it says of that berth, and marks it in its STATUS register. -/
theorem harbourBerths : Obligations.HarbourBerths := by
  intro s src b v n l d
  refine ⟨fun hgap => ⟨pointerCrossing_producer hgap, pointerCrossing_consumer⟩, pointerCrossing_held, gapMarkWrite_answers, ?delivery, ?cfg,
    berthCfg_refused, berthSize_takes, berthSize_refused, berthWater_takes, berthWater_refused⟩
  case delivery =>
    exact fun c m hdie hon hlevel hcells => ⟨fabricDelivery_writes hdie hon hlevel hcells, deliveryEnd_pops hon hlevel hcells⟩
  case cfg =>
    exact fun hw hpclk hcclk hsync => ⟨berthCfg_enables hw hpclk hcclk hsync, berthCfg_crowded hw hpclk hcclk hsync,
      berthCfg_disables hw hpclk hcclk hsync⟩

end Sys2Proof.Machine
end

section
-- One proof after another: elaborated side by side, the proofs of the whole text do not fit in the check's memory.
set_option Elab.async false
/-! What the acts on a DMA channel change (R374 to R391). -/

namespace Sys2Proof.Machine

variable {s t : State} {c : Chan} {b : DmaBurst} {j : DmaJob} {x : DmaTag} {tag : Nat}

/-! ### A channel's state -/

theorem valid_dma {r : RegName} (h : r ∈ [.DMA_CTRL, .DMA_RATE, .DMA_DESC_LO, .DMA_DESC_HI, .DMA_STATUS, .DMA_LAST, .DMA_COUNTS, .DMA_REMAIN]) (c : Chan) :
    RegRef.valid ⟨r, c, 0, 0⟩ = true := by
  refine RegRef.valid_one c ?_ ?_ ?_ <;> revert r <;> decide

theorem Act.dmaState_same {n : Nat} (hn : n < 8) (s : State) : ((Act.dmaState c n).run s).dmaState c = n :=
  (Act.setF_f_same _ _ _ _ _ s (valid_dma (r := .DMA_STATUS) (by simp) c) (by decide)).trans (Nat.mod_eq_of_lt hn)

theorem Act.setCh_ch (f : DmaCh → DmaCh) (s : State) : ((Act.setCh c f).run s).ch c = f (s.ch c) := Vector.getElem_set_self _

theorem Act.setCh_tags (f : DmaCh → DmaCh) (s : State) : ((Act.setCh c f).run s).dma.tags = s.dma.tags := rfl

theorem State.ch_congr (h : t.dma = s.dma) (c : Chan) : t.ch c = s.ch c := by rw [State.ch, State.ch, h]

section
variable {l : List RegName} {rs : List RegRef} {ps : List Part} {a : Act}

/-- What leaves the DMA engine alone leaves each channel. -/
theorem Within.ch_eq (h : Within l rs ps a) (s : State) (c : Chan) (hp : Part.dma ∉ ps := by decide) : (a.run s).ch c = s.ch c :=
  State.ch_congr ((h s).parts .dma hp) c

theorem Within.tags_eq (h : Within l rs ps a) (s : State) (hp : Part.dma ∉ ps := by decide) : (a.run s).dma.tags = s.dma.tags :=
  congrArg DmaSt.tags ((h s).parts .dma hp)

theorem Within.setCh {f : DmaCh → DmaCh} (h : Part.dma ∈ ps := by decide) : Within l rs ps (.setCh c f) := .setDma h

end

namespace Within

theorem dmaState {n : Nat} : Within [.DMA_STATUS] [] [] (.dmaState c n) := .setF

theorem outstanding : Within [.DMA_STATUS] [] [] (.outstanding c) := .look fun _ => .setF

theorem setDesc {a : Nat} : Within [.DMA_DESC_LO, .DMA_DESC_HI] [] [] (.setDesc c a) := .all ⟨.setF, .setF⟩

theorem setJob {id : Nat} {f : DmaJob → DmaJob} : Within [] [] [.dma] (.setJob c id f) := .setCh

theorem dmaAdd {d : DmaDesc} {code : Nat} : Within [] [] [.dma] (.dmaAdd c d code) := .look fun _ => .setCh

theorem dmaRequest {use : RingUse} {write : Bool} {a n : Nat} {data : List Byte} :
    Within [.COLYS_COUNTS] [] [.ring, .tx] (.dmaRequest use write a n data) := .look fun _ => .request

theorem abortAnswered : Within [.MNT_STATUS, .COLYS_COUNTS] [] [.dma, .ring, .tx] (.abortAnswered c) :=
  .look fun _ => .all ⟨.setCh, .each fun _ => .ite (.all ⟨.setB, .setF⟩) (.all ⟨(Within.keep (l := []) (rs := [])).mono, Within.complete.mono⟩)⟩

theorem dmaEnd : Within [.DMA_STATUS, .MNT_STATUS, .COLYS_COUNTS] [] [.dma, .ring, .tx] (.dmaEnd c) :=
  .all ⟨.setCh, dmaState.mono, outstanding.mono, abortAnswered.mono⟩

theorem dmaFail {id code : Nat} : Within [.DMA_STATUS] [] [.dma] (.dmaFail c id code) := .all ⟨.setCh, .look fun _ => .when dmaState.mono⟩

theorem dmaDescError {a : Nat} : Within [.DMA_DESC_LO, .DMA_DESC_HI, .DMA_STATUS] [] [.dma] (.dmaDescError c a) :=
  .all ⟨setDesc.mono, dmaAdd.mono, dmaState.mono⟩

theorem dmaHalf {n : Nat} : Within [.DMA_STATUS] [] [.dma] (.dmaHalf c j n) := .when (.all ⟨.setB, setJob.mono⟩)

theorem dmaComplete : Within [.DMA_DESC_LO, .DMA_DESC_HI, .DMA_STATUS] [] [.dma] (.dmaComplete c j) :=
  .all ⟨setJob.mono, .when .setB, .ite dmaState.mono (.ite (.all ⟨setDesc.mono, dmaState.mono⟩) dmaDescError)⟩

theorem dmaCheck : Within [.DMA_DESC_LO, .DMA_DESC_HI, .DMA_STATUS] [] [.dma] (.dmaCheck c) := by
  refine .look fun s => ?_
  split
  · exact .when dmaComplete
  · exact .skip

end Within

theorem Leaves.dmaState {f : Fld} {n : Nat} (h : F.DMA_STATUS_STATE.spares f = true := by decide) (hm : f.inMask = true := by decide) :
    Leaves f (.dmaState c n) := .setF h hm

theorem Leaves.outstanding {f : Fld} (h : F.DMA_STATUS_OUTSTANDING.spares f = true := by decide) (hm : f.inMask = true := by decide) :
    Leaves f (.outstanding c) := .look fun _ => .setF h hm

theorem Leaves.abortAnswered {f : Fld} (h : f.name = .DMA_STATUS := by rfl) : Leaves f (.abortAnswered c) :=
  .of_within Within.abortAnswered (by rw [h]; decide)

theorem Leaves.dmaEnd {f : Fld} (hname : f.name = .DMA_STATUS := by rfl) (h1 : F.DMA_STATUS_STATE.spares f = true := by decide)
    (h2 : F.DMA_STATUS_OUTSTANDING.spares f = true := by decide) (hm : f.inMask = true := by decide) : Leaves f (.dmaEnd c) :=
  .all ⟨.of_within (l := []) (ps := [.dma]) .setCh (by simp), .dmaState h1 hm, .outstanding h2 hm, .abortAnswered hname⟩

/-! ### What a channel holds -/

/-- The tags that are held, the descriptors of a channel and the abort that it has not ended. -/
def State.owed (s : State) (c : Chan) : List (Nat × DmaTag) × List DmaJob × Option Nat := (s.dma.tags, (s.ch c).jobs, (s.ch c).abort)

theorem Within.owed {l : List RegName} {rs : List RegRef} {ps : List Part} {a : Act} (h : Within l rs ps a) (hp : Part.dma ∉ ps := by decide) :
    a.Keeps (Same (State.owed · c)) := fun s => by
  simp only [Same, State.owed, h.tags_eq s hp, h.ch_eq s c hp]

theorem Act.abortAnswered_owed : (Act.abortAnswered c).Keeps (Same (State.owed · c)) := by
  have hanswer : ∀ (own : BitVec 6) (e : BitVec 6 × BitVec 16), Within [.MNT_STATUS, .COLYS_COUNTS] [] [.ring, .tx]
      (if e.1 == own then .all [.setB F.MNT_STATUS_BUSY false, .setF F.MNT_STATUS_STATUS 0] else
        .all [.keep e.1 e.2.toNat (some (completionWords own { kind := pkMaint, maint := true, dst := own, src := e.1, tag := e.2.toNat } 6 0 [])),
          .complete { kind := pkMaint, maint := true, dst := own, src := e.1, tag := e.2.toNat } 6 0 []]) := fun own e =>
    .ite (.all ⟨.setB, .setF⟩) (.all ⟨Within.keep, Within.complete.mono⟩)
  refine Act.keeps_look fun s => Act.keeps_all Same.frame ⟨fun t => ?_, Act.keeps_each Same.frame _ fun e => (hanswer _ e).owed⟩
  simp only [Same, State.owed, Act.setCh_ch]
  rfl

/-- R388: what the end of a channel leaves. -/
theorem Act.dmaEnd_ends (s : State) : let t := (Act.dmaEnd c).run s
    t.dmaState c = dmaIdle ∧ t.owed c = (s.dma.tags, [], none) := by
  have hrest : Leaves F.DMA_STATUS_STATE (.all [.outstanding c, .abortAnswered c]) := .all ⟨.outstanding, .abortAnswered⟩
  have howed : (Act.all [.dmaState c dmaIdle, .outstanding c, .abortAnswered c]).Keeps (Same (State.owed · c)) :=
    Act.keeps_all Same.frame ⟨Within.dmaState.owed, Within.outstanding.owed, Act.abortAnswered_owed⟩
  refine ⟨?_, ?_⟩
  · rw [Act.dmaEnd, Act.all_cons_run]
    exact (Act.all_f_head hrest).trans (Act.dmaState_same (by decide) _)
  · rw [Act.dmaEnd, Act.all_cons_run]
    refine (howed _).trans ?_
    simp only [State.owed, Act.setCh_ch]
    rfl

/-! ### Commands of the engine -/

theorem Act.silent_run (a : Act) (s : State) : (Act.silent a).run s = { a.run s with resp := s.resp } := by
  rw [Act.silent, Act.look_run, Act.all_cons_run, Act.all_cons_run, Act.all_nil_run]
  rfl

/-- What a command of the engine does, ahead of what follows it. -/
theorem answersThenSettled_of {i : Instr} {a : Act} (hexec : exec i s = .next ((Act.ringDone a).run s)) {P : State → Prop} {t : State}
    (ht : a.run s = t) (hP : P t) : AnswersThenSettled i s P := by
  refine ⟨t, ?_, hP⟩
  rw [hexec, ← ht, Act.ringDone, Act.all_cons_run, Act.all_cons_run, Act.all_nil_run]

end Sys2Proof.Machine
end

section
-- One proof after another: elaborated side by side, the proofs of the whole text do not fit in the check's memory.
set_option Elab.async false
/-! Descriptors, bursts and their answers, and the STATUS word of the last descriptor (R376 to R388). -/

namespace Sys2Proof.Machine

variable {s t : State} {c : Chan} {w : List DWord} {tag : Fin 256} {ok : Bool} {j : DmaJob} {b : DmaBurst} {x : DmaTag}

/-! ### Descriptors (R376, R379, R386) -/

theorem Act.dmaAdd_adds {d : DmaDesc} {code : Nat} (hnone : (s.ch c).jobs = []) : let t := (Act.dmaAdd c d code).run s
    (t.ch c).jobs.map DmaJob.desc = [d] ∧ (t.ch c).jobs.map DmaJob.code = [code] := by
  simp only [Act.dmaAdd, Act.look_run, Act.setCh_ch, hnone, List.nil_append, List.map_cons, List.map_nil, and_self]

theorem Act.dmaDescError_stops {a : Nat} (hnone : (s.ch c).jobs = []) : let t := (Act.dmaDescError c a).run s
    t.dmaState c = dmaDrain ∧ (t.ch c).jobs.map DmaJob.code = [codeDescError] := by
  have hdesc : Within [.DMA_DESC_LO, .DMA_DESC_HI] [] [] (.setDesc c a) := .setDesc
  have hjobs : (((Act.setDesc c a).run s).ch c).jobs = [] := by rw [hdesc.ch_eq, hnone]
  rw [Act.dmaDescError, Act.all_cons_run, Act.all_cons_run, Act.all_cons_run, Act.all_nil_run]
  refine ⟨Act.dmaState_same (by decide) _, ?_⟩
  rw [Within.dmaState.ch_eq]
  exact (Act.dmaAdd_adds hjobs).2

/-- R379, R389: what a descriptor that was read leaves. -/
theorem Act.dmaFetched_run {d : DmaDesc} (hnone : (s.ch c).jobs = []) (habort : (s.ch c).abort = none) : let t := (Act.dmaFetched c d).run s
    (d.bad = false → s.b F.DMA_CTRL_TRIG_EN c = false →
      t.dmaState c = dmaRun ∧ t.f F.DMA_REMAIN_REMAIN c = d.len % 2 ^ 20 ∧ (t.ch c).jobs.map DmaJob.desc = [d]) ∧
    (d.bad = true → t.dmaState c = dmaDrain ∧ (t.ch c).jobs.map DmaJob.code = [codeBadDesc]) := by
  have hremain : Within [.DMA_REMAIN] [] [] (.setF F.DMA_REMAIN_REMAIN d.len c) := .setF
  have hgoing : ((s.ch c).abort.isSome || (s.ch c).jobs.any fun j => j.code != 0) = false := by rw [hnone, habort]; rfl
  refine ⟨fun hgood htrig => ?_, fun hbad => ?_⟩
  · have hrun : (Act.dmaFetched c d).run s = (Act.all [.dmaAdd c d codeOk, .setF F.DMA_REMAIN_REMAIN d.len c, .dmaState c dmaRun]).run s := by
      simp only [Act.dmaFetched, Act.look_run, hgoing, hgood, htrig, Bool.false_eq_true, if_false, ne_eq, not_true]
    rw [hrun, Act.all_cons_run, Act.all_cons_run, Act.all_cons_run, Act.all_nil_run]
    refine ⟨Act.dmaState_same (by decide) _, ?_, ?_⟩
    · rw [show ∀ u : State, ((Act.dmaState c dmaRun).run u).f F.DMA_REMAIN_REMAIN c = u.f F.DMA_REMAIN_REMAIN c from
        fun u => (Within.dmaState u).f_eq c 0 0]
      exact Act.setF_f_same _ _ _ _ _ _ (valid_dma (r := .DMA_REMAIN) (by simp) c) (by decide)
    · rw [Within.dmaState.ch_eq, hremain.ch_eq]
      exact (Act.dmaAdd_adds hnone).1
  · have hrun : (Act.dmaFetched c d).run s = (Act.all [.dmaAdd c d codeBadDesc, .setF F.DMA_REMAIN_REMAIN d.len c, .dmaState c dmaDrain]).run s := by
      simp only [Act.dmaFetched, Act.look_run, hgoing, hbad, Bool.false_eq_true, if_false, if_true]
      rfl
    rw [hrun, Act.all_cons_run, Act.all_cons_run, Act.all_cons_run, Act.all_nil_run]
    refine ⟨Act.dmaState_same (by decide) _, ?_⟩
    rw [Within.dmaState.ch_eq, hremain.ch_eq]
    exact (Act.dmaAdd_adds hnone).2

theorem dmaDescOf_len (a : Nat) (w : List DWord) : (dmaDescOf a w).len % 2 ^ 20 = (dmaDescOf a w).len := Nat.mod_mod _ _

section
variable (hfetch : s.dmaState c = dmaFetch)
include hfetch

theorem descriptorFetch_reads (haddr : dmaDescAddrOk (s.dmaDesc c) = true) (haway : s.dmaHere (s.dmaDesc c) = false) (hwords : w.length = 4)
    (hnone : (s.ch c).jobs = []) (habort : (s.ch c).abort = none) :
    let d := dmaDescOf (s.dmaDesc c) w
    (d.bad = false → s.b F.DMA_CTRL_TRIG_EN c = false → AnswersThenSettled (.dmaDescriptorFetch c w) s fun u =>
      u.dmaState c = dmaRun ∧ u.f F.DMA_REMAIN_REMAIN c = d.len ∧ (u.ch c).jobs.map DmaJob.desc = [d]) ∧
     (d.bad = true → AnswersThenSettled (.dmaDescriptorFetch c w) s fun u =>
      u.dmaState c = dmaDrain ∧ (u.ch c).jobs.map DmaJob.code = [codeBadDesc]) := by
  have hrequest : Within [.COLYS_COUNTS] [] [.ring, .tx] (.dmaRequest .other false (s.dmaDesc c) 32 []) := .dmaRequest
  generalize hv : (Act.dmaRequest .other false (s.dmaDesc c) 32 []).run s = v
  have hch : v.ch c = s.ch c := hv ▸ hrequest.ch_eq s c
  have htrig : v.b F.DMA_CTRL_TRIG_EN c = s.b F.DMA_CTRL_TRIG_EN c := by rw [State.b, State.b, ← hv, (hrequest s).f_eq c 0 0]
  have hrun : (Act.dmaFetchRun c w).run s = { (Act.dmaFetched c (dmaDescOf (s.dmaDesc c) w)).run v with resp := s.resp } := by
    rw [Act.dmaFetchRun, Act.look_run]
    simp only [hfetch, beq_self_eq_true, Act.when_true_run, Act.silent_run, haddr, Bool.not_true, Bool.false_eq_true, if_false, haway, hwords,
      if_true, Act.all_cons_run, Act.all_nil_run, hv]
  obtain ⟨hgood, hbad⟩ := Act.dmaFetched_run (d := dmaDescOf (s.dmaDesc c) w) (s := v) (c := c) (by rw [hch, hnone]) (by rw [hch, habort])
  rw [htrig, dmaDescOf_len] at hgood
  exact ⟨fun h1 h2 => answersThenSettled_of rfl hrun (hgood h1 h2), fun h => answersThenSettled_of rfl hrun (hbad h)⟩

theorem descriptorFetch_refused (haddr : dmaDescAddrOk (s.dmaDesc c) = false) (hnone : (s.ch c).jobs = []) :
    AnswersThenSettled (.dmaDescriptorFetch c w) s fun u => u.dmaState c = dmaDrain ∧ (u.ch c).jobs.map DmaJob.code = [codeDescError] := by
  have hrun : (Act.dmaFetchRun c w).run s = { (Act.dmaDescError c (s.dmaDesc c)).run s with resp := s.resp } := by
    rw [Act.dmaFetchRun, Act.look_run]
    simp only [hfetch, beq_self_eq_true, Act.when_true_run, Act.silent_run, haddr, Bool.not_false, if_true]
  have hstops := Act.dmaDescError_stops (c := c) (a := s.dmaDesc c) hnone
  exact answersThenSettled_of rfl hrun hstops

end

theorem descriptorFetch_idle (h : s.dmaState c ≠ dmaFetch) : AnswersThenSettled (.dmaDescriptorFetch c w) s fun u => u = s := by
  refine answersThenSettled_of rfl ?_ rfl
  rw [Act.dmaFetchRun, Act.look_run, beq_eq_false_iff_ne.mpr h]
  rfl

/-! ### The issue of a burst (R382, R387) -/

theorem burstIssue_none (h : s.dmaOrder.findSome? (fun c => (s.dmaEligible c).map fun x => (c, x)) = none) :
    AnswersThenSettled .dmaBurstIssue s fun u => u = s := by
  refine answersThenSettled_of rfl ?_ rfl
  rw [Act.dmaBurstIssue, Act.look_run, h]
  cases s.dma.servedAt != some s.clk <;> rfl

theorem burstIssue_served (h : s.dma.servedAt = some s.clk) : AnswersThenSettled .dmaBurstIssue s fun u => u = s := by
  refine answersThenSettled_of rfl ?_ rfl
  rw [Act.dmaBurstIssue, Act.look_run, h, bne_self_eq_false]
  rfl

/-- R382, R387: what the issue of a burst changes in the engine. -/
def Act.dmaTaken (c : Chan) (j : DmaJob) (b : DmaBurst) (tokens tag : Nat) (now : Nat) : Act := .all [
  .setCh c fun x => { x with tokens := tokens, tokenClk := now },
  .setDma fun d => { d with served := c, servedAt := some now, tags := (tag, ⟨c, j.id, b.use, b.addr, b.pos, b.n, now, none, false⟩) :: d.tags },
  .setJob c j.id fun j => j.issued b]

theorem burstIssue_reads (hclk : s.dma.servedAt ≠ some s.clk)
    (hnext : s.dmaOrder.findSome? (fun c => (s.dmaEligible c).map fun x => (c, x)) = some (c, j, b)) (haway : s.dmaHere b.addr = false)
    (huse : b.use = .read) : AnswersThenSettled .dmaBurstIssue s fun u =>
      u.dma.served = c.val ∧ u.dma.servedAt = some s.clk ∧ u.dma.tags = (s.dmaFreeTag, ⟨c, j.id, .read, b.addr, b.pos, b.n, s.clk, none, false⟩) :: s.dma.tags ∧
      (u.ch c).tokens = s.dmaTokens c - (if s.f F.DMA_RATE_RATE c = 0 then 0 else 256 * beatCount b.addr b.n) ∧ u.resp = s.resp := by
  generalize htokens : s.dmaTokens c - (if s.f F.DMA_RATE_RATE c = 0 then 0 else 256 * beatCount b.addr b.n) = left
  generalize hv : (Act.dmaTaken c j b left s.dmaFreeTag s.clk).run s = v
  have hrest : Within [.DMA_STATUS, .COLYS_COUNTS] [] [.ring, .tx]
      (.all [.outstanding c, .dmaRequest (.dma s.dmaFreeTag) false b.addr b.n b.data]) := .all ⟨Within.outstanding.mono, Within.dmaRequest.mono⟩
  have hwrite : (b.use == .write) = false := by rw [huse]; rfl
  have hrun : Act.dmaBurstIssue.run s = { (Act.all [.outstanding c, .dmaRequest (.dma s.dmaFreeTag) false b.addr b.n b.data]).run v with
      resp := s.resp } := by
    rw [Act.dmaBurstIssue, Act.look_run, hnext, bne_iff_ne.mpr hclk, Act.when_true_run, Act.silent_run, Act.dmaIssue, Act.look_run]
    simp only [haway, Bool.false_eq_true, if_false, hwrite, Bool.false_and, Act.all_cons_run, Act.all_nil_run, Act.when_false_run, htokens]
    rw [← hv]
    simp only [Act.dmaTaken, Act.all_cons_run, Act.all_nil_run]
  have hdma : ((Act.all [.outstanding c, .dmaRequest (.dma s.dmaFreeTag) false b.addr b.n b.data]).run v).dma = v.dma :=
    (hrest v).parts .dma (by decide)
  refine answersThenSettled_of rfl hrun ⟨?_, ?_, ?_, ?_, rfl⟩
  · exact (congrArg DmaSt.served hdma).trans (hv ▸ rfl)
  · exact (congrArg DmaSt.servedAt hdma).trans (hv ▸ rfl)
  · exact (congrArg DmaSt.tags hdma).trans (by rw [← hv, ← huse]; rfl)
  · refine (congrArg DmaCh.tokens (State.ch_congr hdma c)).trans ?_
    have htoken : (v.ch c).tokens = left := by
      rw [← hv]
      simp only [Act.dmaTaken, Act.all_cons_run, Act.all_nil_run, Act.setJob, Act.setCh_ch]
      exact congrArg DmaCh.tokens (Act.setCh_ch (fun x => { x with tokens := left, tokenClk := s.clk }) s)
    exact htoken

/-! ### The answer of a burst (R380, R382, R385) -/

/-- The tags alone. -/
abbrev TagsKept : State → State → Prop := Same fun s => s.dma.tags

theorem Within.tagsKept {l : List RegName} {rs : List RegRef} {ps : List Part} {a : Act} (h : Within l rs ps a) (hp : Part.dma ∉ ps := by decide) :
    a.Keeps TagsKept := fun s => h.tags_eq s hp

theorem Act.setJob_tagsKept {id : Nat} {f : DmaJob → DmaJob} : (Act.setJob c id f).Keeps TagsKept := fun _ => rfl

theorem Act.dmaFail_tagsKept {id code : Nat} : (Act.dmaFail c id code).Keeps TagsKept :=
  Act.keeps_all Same.frame ⟨fun _ => rfl, Act.keeps_look fun _ => Act.keeps_when Same.frame Within.dmaState.tagsKept⟩

theorem Act.dmaHalf_tagsKept {n : Nat} : (Act.dmaHalf c j n).Keeps TagsKept :=
  have hset : (Act.setB F.DMA_STATUS_HALF true c).Keeps TagsKept := fun _ => congrArg DmaSt.tags (Act.setB_dma ..)
  Act.keeps_when Same.frame (Act.keeps_all Same.frame ⟨hset, Act.setJob_tagsKept⟩)

theorem Act.dmaDescError_tagsKept {a : Nat} : (Act.dmaDescError c a).Keeps TagsKept :=
  Act.keeps_all Same.frame ⟨Within.setDesc.tagsKept, fun _ => rfl, Within.dmaState.tagsKept⟩

theorem Act.dmaComplete_tagsKept : (Act.dmaComplete c j).Keeps TagsKept := by
  have hset : (Act.when (j.desc.bit 28) (.setB F.DMA_STATUS_DONE true c)).Keeps TagsKept :=
    Act.keeps_when Same.frame fun _ => congrArg DmaSt.tags (Act.setB_dma ..)
  refine Act.keeps_all Same.frame ⟨Act.setJob_tagsKept, hset, Act.keeps_ite Within.dmaState.tagsKept (Act.keeps_ite ?_ Act.dmaDescError_tagsKept)⟩
  exact Act.keeps_all Same.frame ⟨Within.setDesc.tagsKept, Within.dmaState.tagsKept⟩

theorem Act.dmaCheck_tagsKept : (Act.dmaCheck c).Keeps TagsKept := by
  refine Act.keeps_look fun s => ?_
  split
  · exact Act.keeps_when Same.frame Act.dmaComplete_tagsKept
  · exact Act.keeps_skip Same.frame

theorem Act.dmaSettle_tagsKept {status : Nat} {bytes : List Byte} : (Act.dmaSettle x status bytes).Keeps TagsKept := by
  have hremain : ∀ (d : Bool) v c, (Act.when d (.setF F.DMA_REMAIN_REMAIN v c)).Keeps TagsKept := fun d v c =>
    Act.keeps_when Same.frame fun _ => congrArg DmaSt.tags (Act.setF_dma ..)
  refine Act.keeps_look fun s => ?_
  dsimp only
  split
  · exact Act.keeps_skip Same.frame
  split
  · exact Act.keeps_ite Act.dmaFail_tagsKept (Act.keeps_all Same.frame ⟨Act.setJob_tagsKept, hremain _ _ _⟩)
  · refine Act.keeps_ite Act.dmaFail_tagsKept ?_
    split
    · exact Act.setJob_tagsKept
    · exact Act.dmaFail_tagsKept
  · refine Act.keeps_ite Act.dmaFail_tagsKept ?_
    split
    · exact Act.setJob_tagsKept
    · exact Act.dmaFail_tagsKept
  · exact Act.keeps_ite Act.dmaFail_tagsKept (Act.keeps_when Same.frame (Act.keeps_all Same.frame
      ⟨Act.setJob_tagsKept, Act.keeps_when Same.frame Act.dmaHalf_tagsKept⟩))
  · exact Act.keeps_ite Act.dmaFail_tagsKept (Act.keeps_all Same.frame ⟨Act.setJob_tagsKept, Act.dmaHalf_tagsKept⟩)

/-- R382: an answer frees its tag; one that was abandoned is counted. -/
theorem Act.dmaReturn_frees {n status : Nat} {bytes : List Byte} (htag : assoc s.dma.tags n = some x) : let u := (Act.dmaReturn n status bytes).run s
    assoc u.dma.tags n = none ∧ (x.dead = true → Counted F.DMA_COUNTS_LATE_DISCARD s u x.chan) := by
  have hrun : (Act.dmaReturn n status bytes).run s = (if x.dead then Act.count F.DMA_COUNTS_LATE_DISCARD 1 x.chan
      else .all [.outstanding x.chan, .dmaSettle x status bytes, .dmaCheck x.chan]).run
        ((Act.setDma fun d => { d with tags := assocDel d.tags n }).run s) := by
    simp only [Act.dmaReturn, Act.look_run, htag, Act.all_cons_run, Act.all_nil_run]
  have hcount : (Act.count F.DMA_COUNTS_LATE_DISCARD 1 x.chan).Keeps TagsKept := fun _ => congrArg DmaSt.tags (Act.count_dma ..)
  have hkept : (if x.dead then Act.count F.DMA_COUNTS_LATE_DISCARD 1 x.chan
      else .all [.outstanding x.chan, .dmaSettle x status bytes, .dmaCheck x.chan]).Keeps TagsKept :=
    Act.keeps_ite hcount (Act.keeps_all Same.frame ⟨Within.outstanding.tagsKept, Act.dmaSettle_tagsKept, Act.dmaCheck_tagsKept⟩)
  refine ⟨?_, fun hdead => ?_⟩
  · rw [hrun, hkept.same]
    exact assoc_assocDel_same _ _
  · rw [hrun, if_pos hdead]
    exact Act.count_f_same _ _ _ _ (valid_dma (r := .DMA_COUNTS) (by simp) x.chan) (by decide)

theorem burstComplete_unknown (h : assoc s.dma.tags tag.val = none) : AnswersThenSettled (.dmaBurstComplete tag ok w) s fun u => u = s := by
  refine answersThenSettled_of rfl ?_ rfl
  rw [Act.dmaBurstComplete, Act.look_run, h]
  rfl

theorem Within.dmaForget {l : List RegName} {rs : List RegRef} {n : Nat} : Within l rs [.ring] (.dmaForget n) := .setRing

theorem burstComplete_frees (htag : assoc s.dma.tags tag.val = some x) (hwhere : x.local_.isSome = true ∨ s.dmaHere x.addr = false) :
    AnswersThenSettled (.dmaBurstComplete tag ok w) s fun u =>
      assoc u.dma.tags tag.val = none ∧ (x.dead = true → Counted F.DMA_COUNTS_LATE_DISCARD s u x.chan) := by
  cases hlocal : x.local_ with
  | some r =>
    have hrun : (Act.dmaBurstComplete tag ok w).run s = (Act.dmaReturn tag (!r.1).toNat (r.2.take x.n)).run s := by
      rw [Act.dmaBurstComplete, Act.look_run, htag]
      simp only [hlocal]
    exact answersThenSettled_of rfl hrun (Act.dmaReturn_frees htag)
  | none =>
    have haway : s.dmaHere x.addr = false := by
      rcases hwhere with h | h
      · rw [hlocal] at h
        exact absurd h Bool.false_ne_true
      · exact h
    have hrun : (Act.dmaBurstComplete tag ok w).run s = (Act.dmaReturn tag (!ok).toNat (unpackBytes x.addr x.n w)).run ((Act.dmaForget tag).run s) := by
      rw [Act.dmaBurstComplete, Act.look_run, htag]
      simp only [hlocal, haway, Bool.not_false, Act.when_true_run, Act.all_cons_run, Act.all_nil_run]
    exact answersThenSettled_of rfl hrun (Act.dmaReturn_frees (s := (Act.dmaForget tag).run s) htag)

/-- An answer that settles what its tag was held for. -/
theorem Act.dmaReturn_live {n status : Nat} {bytes : List Byte} (htag : assoc s.dma.tags n = some x) (hlive : x.dead = false) :
    (Act.dmaReturn n status bytes).run s = (Act.dmaCheck x.chan).run ((Act.dmaSettle x status bytes).run
      ((Act.outstanding x.chan).run ((Act.setDma fun d => { d with tags := assocDel d.tags n }).run s))) := by
  simp only [Act.dmaReturn, Act.look_run, htag, hlive, Bool.false_eq_true, if_false, Act.all_cons_run, Act.all_nil_run]

/-- A descriptor with bytes still to write does not complete. -/
theorem Act.dmaCheck_waits (hjobs : (s.ch c).jobs = [j]) (h : j.done = true ∨ j.code ≠ 0 ∨ j.sent < j.desc.len) : (Act.dmaCheck c).run s = s := by
  rw [Act.dmaCheck, Act.look_run, State.dmaJob, hjobs]
  cases hdone : j.done with
  | true => simp [hdone]
  | false =>
    have hgoing : (j.code == 0 && j.sent == j.desc.len) = false := by
      rcases h with h | h | h
      · rw [hdone] at h
        exact absurd h Bool.false_ne_true
      · rw [beq_eq_false_iff_ne.mpr h, Bool.false_and]
      · rw [beq_eq_false_iff_ne.mpr (Nat.ne_of_lt h), Bool.and_false]
    simp [hdone, hgoing]

theorem Act.dmaSettle_reads {bytes : List Byte} (huse : x.use = .read) (hjobs : (s.ch x.chan).jobs = [j]) (hid : j.id = x.desc) (hdone : j.done = false)
    (hlength : bytes.length = x.n) : let u := (Act.dmaSettle x 0 bytes).run s
    (u.ch x.chan).jobs = [{ j with got := j.got ++ [(x.pos, bytes)] }] ∧
    u.f F.DMA_REMAIN_REMAIN x.chan = s.f F.DMA_REMAIN_REMAIN x.chan - x.n := by
  have hset : Within [.DMA_REMAIN] [] [] (.setF F.DMA_REMAIN_REMAIN (s.f F.DMA_REMAIN_REMAIN x.chan - x.n) x.chan) := .setF
  have hfind : (s.ch x.chan).jobs.find? (fun k => k.id == x.desc) = some j := by rw [hjobs]; simp [hid]
  have hrun : (Act.dmaSettle x 0 bytes).run s = (Act.setF F.DMA_REMAIN_REMAIN (s.f F.DMA_REMAIN_REMAIN x.chan - x.n) x.chan).run
      ((Act.setJob x.chan j.id fun k => { k with got := k.got ++ [(x.pos, bytes)] }).run s) := by
    rw [Act.dmaSettle, Act.look_run]
    simp [hfind, huse, hlength, hdone]
  have hlt : s.f F.DMA_REMAIN_REMAIN x.chan < 2 ^ 20 := Fld.of_lt _ _
  refine ⟨?_, ?_⟩
  · rw [hrun, hset.ch_eq, Act.setJob, Act.setCh_ch]
    simp only [hjobs, List.map_cons, List.map_nil, if_true]
  · rw [hrun, Act.setF_f_same _ _ _ _ _ _ (valid_dma (r := .DMA_REMAIN) (by simp) x.chan) (by decide)]
    exact Nat.mod_eq_of_lt (by show _ < 2 ^ 20; omega)

theorem burstComplete_reads (htag : assoc s.dma.tags tag.val = some x) (huse : x.use = .read) (hlive : x.dead = false) (hlocal : x.local_ = none)
    (haway : s.dmaHere x.addr = false) (hjobs : (s.ch x.chan).jobs = [j]) (hid : j.id = x.desc) (hsent : j.sent < j.desc.len)
    (hdone : j.done = false) (hlength : (unpackBytes x.addr x.n w).length = x.n) :
    AnswersThenSettled (.dmaBurstComplete tag true w) s fun u =>
      (u.ch x.chan).jobs = [{ j with got := j.got ++ [(x.pos, unpackBytes x.addr x.n w)] }] ∧
      u.f F.DMA_REMAIN_REMAIN x.chan = s.f F.DMA_REMAIN_REMAIN x.chan - x.n := by
  generalize hv : (Act.outstanding x.chan).run ((Act.setDma fun d => { d with tags := assocDel d.tags tag.val }).run ((Act.dmaForget tag).run s)) = v
  have hch : v.ch x.chan = s.ch x.chan := by rw [← hv, Within.outstanding.ch_eq]; rfl
  have hremain : v.f F.DMA_REMAIN_REMAIN x.chan = s.f F.DMA_REMAIN_REMAIN x.chan := by
    rw [← hv]
    exact (Within.outstanding _).f_eq x.chan 0 0
  obtain ⟨hgot, hleft⟩ := Act.dmaSettle_reads (s := v) (bytes := unpackBytes x.addr x.n w) huse (by rw [hch, hjobs]) hid hdone hlength
  rw [hremain] at hleft
  have hrun : (Act.dmaBurstComplete tag true w).run s = (Act.dmaSettle x 0 (unpackBytes x.addr x.n w)).run v := by
    rw [Act.dmaBurstComplete, Act.look_run, htag]
    simp only [hlocal, haway, Bool.not_false, Bool.not_true, Bool.toNat_false, Act.when_true_run, Act.all_cons_run, Act.all_nil_run]
    rw [Act.dmaReturn_live (s := (Act.dmaForget tag).run s) htag hlive, hv]
    exact Act.dmaCheck_waits hgot (.inr (.inr hsent))
  exact answersThenSettled_of rfl hrun ⟨hgot, hleft⟩

/-! ### The time-out of a burst (R385) -/

/-- R386: a descriptor of a channel where the descriptor `id` has failed. -/
def DmaJob.failing (id code : Nat) (k : DmaJob) : DmaJob :=
  if k.id ≠ id then k.stop codeAborted else if k.code = 0 then { k with code := code } else k

theorem Act.dmaFail_fails {code : Nat} (hjobs : (s.ch c).jobs = [j]) (hcode : j.code = 0) (hstate : s.dmaState c ≠ dmaFetch) :
    let u := (Act.dmaFail c j.id code).run s
    (u.ch c).jobs = [{ j with code := code }] ∧ u.dmaState c = dmaDrain := by
  generalize hv : (Act.setCh c fun x => { x with jobs := x.jobs.map (DmaJob.failing j.id code) }).run s = v
  have hstate' : v.dmaState c = s.dmaState c := hv ▸ rfl
  have hrun : (Act.dmaFail c j.id code).run s = (Act.dmaState c dmaDrain).run v := by
    have hlook : (Act.look fun s => .when (s.dmaState c != dmaFetch) (.dmaState c dmaDrain)).run v = (Act.dmaState c dmaDrain).run v := by
      rw [Act.look_run, hstate', bne_iff_ne.mpr hstate, Act.when_true_run]
    rw [← hlook, ← hv]
    rfl
  rw [hrun]
  refine ⟨?_, Act.dmaState_same (by decide) v⟩
  rw [Within.dmaState.ch_eq, ← hv, Act.setCh_ch, hjobs]
  simp [DmaJob.failing, hcode]

theorem transactionTimeout_frees (htag : assoc s.dma.tags tag.val = some x) (hlate : x.at_ + 163840 ≤ s.clk) :
    AnswersThenSettled (.dmaTransactionTimeout tag) s fun u =>
      assoc u.dma.tags tag.val = none ∧
      (x.dead = false → x.use = .read → (s.ch x.chan).jobs = [j] → j.id = x.desc → j.code = 0 → s.dmaState x.chan = dmaRun →
        (u.ch x.chan).jobs = [{ j with code := codeTimeout }] ∧ u.dmaState x.chan = dmaDrain) := by
  cases hdead : x.dead with
  | true =>
    have hrun : (Act.dmaTimeout tag).run s = (Act.setDma fun d => { d with tags := assocDel d.tags tag.val }).run ((Act.dmaForget tag).run s) := by
      rw [Act.dmaTimeout, Act.look_run, htag]
      simp only [decide_eq_true hlate, Act.when_true_run, Act.all_cons_run, Act.all_nil_run, hdead, if_true]
    exact answersThenSettled_of rfl hrun ⟨assoc_assocDel_same _ _, fun h => absurd h (by simp)⟩
  | false =>
    have hrun : (Act.dmaTimeout tag).run s = (Act.dmaReturn tag 3 []).run ((Act.dmaForget tag).run s) := by
      rw [Act.dmaTimeout, Act.look_run, htag]
      simp only [decide_eq_true hlate, Act.when_true_run, Act.all_cons_run, Act.all_nil_run, hdead, Bool.false_eq_true, if_false]
    refine answersThenSettled_of rfl hrun ⟨(Act.dmaReturn_frees (s := (Act.dmaForget tag).run s) htag).1, fun _ huse hjobs hid hcode hstate => ?_⟩
    generalize hv : (Act.outstanding x.chan).run ((Act.setDma fun d => { d with tags := assocDel d.tags tag.val }).run ((Act.dmaForget tag).run s)) = v
    have hch : v.ch x.chan = s.ch x.chan := by rw [← hv, Within.outstanding.ch_eq]; rfl
    have hrunning : v.dmaState x.chan = dmaRun := by
      have hkept : Leaves F.DMA_STATUS_STATE (.outstanding x.chan) := .outstanding
      rw [← hv]
      exact (hkept _ _ _ _).trans hstate
    have hfind : (v.ch x.chan).jobs.find? (fun k => k.id == x.desc) = some j := by rw [hch, hjobs]; simp [hid]
    have hsettle : (Act.dmaSettle x 3 []).run v = (Act.dmaFail x.chan j.id codeTimeout).run v := by
      rw [Act.dmaSettle, Act.look_run]
      simp [hfind, huse, dmaCode]
    obtain ⟨hfailed, hdrain⟩ := Act.dmaFail_fails (s := v) (c := x.chan) (code := codeTimeout) (by rw [hch, hjobs]) hcode (by rw [hrunning]; decide)
    rw [Act.dmaReturn_live (s := (Act.dmaForget tag).run s) htag hdead, hv, hsettle,
      Act.dmaCheck_waits hfailed (.inr (.inl (by show codeTimeout ≠ 0; decide)))]
    exact ⟨hfailed, hdrain⟩

/-! ### The STATUS word of the last descriptor (R385, R388) -/

/-- The STATUS word goes into LAST, and over the ring into a descriptor elsewhere. -/
def Act.dmaPutAway (c : Chan) (a : Nat) (v : Word) : Act :=
  .all [.setR .DMA_LAST v c, .count F.DMA_COUNTS_ENDED 1 c, .dmaRequest .other true a 4 (leBytes v.toNat 4)]

theorem Within.dmaPutAway {a : Nat} {v : Word} : Within [.DMA_LAST, .DMA_COUNTS, .COLYS_COUNTS] [] [.ring, .tx] (.dmaPutAway c a v) :=
  .all ⟨.setR, .count, Within.dmaRequest.mono⟩

theorem Act.dmaPut_away {a : Nat} {v : Word} (haway : s.dmaHere a = false) : (Act.dmaPut c a v true).run s = (Act.dmaPutAway c a v).run s := by
  rw [Act.dmaPut.eq_def, Act.look_run]
  dsimp only
  rw [if_neg (by rw [haway]; decide), Act.dmaPutAway]
  simp only [Act.all_cons_run, Act.all_nil_run]
  rfl

theorem Act.dmaPutAway_puts (a : Nat) (v : Word) (s : State) : let u := (Act.dmaPutAway c a v).run s
    u.r .DMA_LAST c = v &&& RegName.mask .DMA_LAST ∧ Counted F.DMA_COUNTS_ENDED s u c := by
  have hrequest : Within [.COLYS_COUNTS] [] [.ring, .tx] (.all [.dmaRequest .other true a 4 (leBytes v.toNat 4)]) :=
    .all (show List.Forall _ [_] from .dmaRequest)
  have hrest : Within [.DMA_COUNTS, .COLYS_COUNTS] [] [.ring, .tx] (.all [.count F.DMA_COUNTS_ENDED 1 c,
      .dmaRequest .other true a 4 (leBytes v.toNat 4)]) := .all ⟨.count, Within.dmaRequest.mono⟩
  have hkept : Within [.DMA_LAST] [] [] (.setR .DMA_LAST v c) := .setR
  refine ⟨?_, ?_⟩
  · rw [Act.dmaPutAway, Act.all_cons_run, (hrest _).r_eq]
    exact Act.setR_r_same _ _ _ _ _ _ (valid_dma (r := .DMA_LAST) (by simp) c)
  · rw [Counted, Act.dmaPutAway, Act.all_cons_run, Act.all_cons_run, (hrequest _).f_eq c 0 0,
      Act.count_f_same _ _ _ _ (valid_dma (r := .DMA_COUNTS) (by simp) c) (by decide), (hkept s).f_eq c 0 0]

theorem Act.dmaSettled_ends (hstate : s.dmaState c = dmaDrain) (hjobs : (s.ch c).jobs = []) (habort : (s.ch c).abort = none) :
    (Act.dmaSettled c false).run s = (Act.dmaEnd c).run s := by
  rw [Act.dmaSettled, Act.look_run]
  simp only [hstate, beq_self_eq_true, Act.when_true_run, Bool.false_eq_true, if_false, hjobs, habort, Option.isSome_none, Act.when_false_run,
    Act.all_cons_run, Act.all_nil_run]

/-- The descriptors of a channel after the oldest has ended. -/
def Act.dmaDropped (c : Chan) : Act := .setCh c fun x => { x with jobs := [] }

theorem statusWriteback_ends (hjobs : (s.ch c).jobs = [j]) (hdone : j.done = true) (hcode : j.code = 0) (hacked : j.acked = j.desc.len)
    (hbusy : s.dmaBusy c j.id = false) (hstate : s.dmaState c = dmaDrain) (habort : (s.ch c).abort = none)
    (haway : s.dmaHere (j.desc.addr + 28) = false) : AnswersThenSettled (.dmaStatusWriteback c true) s fun u =>
      u.r .DMA_LAST c = dmaStatusWord 0 codeOk ∧ Counted F.DMA_COUNTS_ENDED s u c ∧ u.dmaState c = dmaIdle ∧ (u.ch c).jobs = [] ∧
      u.b F.DMA_STATUS_ERROR c = s.b F.DMA_STATUS_ERROR c := by
  have hstatus : j.status = (0, 0) := by simp [DmaJob.status, hcode, hacked]
  generalize hv : (Act.dmaDropped c).run s = v
  generalize hu : (Act.dmaPutAway c (j.desc.addr + 28) (dmaStatusWord 0 codeOk)).run v = u
  have hdrop : Within [] [] [.dma] (.dmaDropped c) := .setCh
  have hvs := hdrop s
  have hin := Within.dmaPutAway (c := c) (a := j.desc.addr + 28) (v := dmaStatusWord 0 codeOk) v
  obtain ⟨hlast, hcount⟩ := Act.dmaPutAway_puts (c := c) (j.desc.addr + 28) (dmaStatusWord 0 codeOk) v
  rw [hv] at hvs
  rw [hu] at hin hlast hcount
  have hch : u.ch c = { s.ch c with jobs := [] } := by
    rw [State.ch_congr (hin.parts .dma (by decide)), ← hv]
    exact Act.setCh_ch _ _
  have hstate' : u.dmaState c = dmaDrain := (hin.f_eq c 0 0).trans ((hvs.f_eq c 0 0).trans hstate)
  have haway' : v.dmaHere (j.desc.addr + 28) = false := by rw [← hv]; exact haway
  have hrun : (Act.dmaStatus c true).run s = { (Act.dmaEnd c).run u with resp := s.resp } := by
    rw [Act.dmaStatus, Act.look_run, hjobs]
    simp only [hdone, Bool.true_or, hbusy, Bool.not_false, Bool.and_self, Act.when_true_run, Act.silent_run, Act.all_cons_run, Act.all_nil_run,
      hcode, if_neg (show ¬ 0 = codeDescError by decide), hstatus, bne_self_eq_false, Bool.false_and, Act.when_false_run]
    rw [show (Act.setCh c fun x => { x with jobs := [] }).run s = v from hv, Act.dmaPut_away haway', hu,
      Act.dmaSettled_ends hstate' (by rw [hch]) (by rw [hch, habort])]
  have hend := Within.dmaEnd (c := c) u
  obtain ⟨hidle, howed⟩ := Act.dmaEnd_ends (c := c) u
  have herror : Leaves F.DMA_STATUS_ERROR (.dmaEnd c) := .dmaEnd
  have herr := herror.b u c 0 0
  generalize (Act.dmaEnd c).run u = w at hrun hend hidle howed herr
  refine answersThenSettled_of rfl hrun ⟨(hend.r_eq c 0 0).trans (hlast.trans (by decide)), ?_, hidle, congrArg (fun o => o.2.1) howed, ?_⟩
  · exact (hend.f_eq c 0 0).trans (hcount.trans (by rw [hvs.f_eq c 0 0]))
  · exact herr.trans (by rw [State.b, State.b, hin.f_eq c 0 0, hvs.f_eq c 0 0])

/-- Settles O46: a descriptor by its bytes, a burst by the channel that is due, an answer by what its tag was held for. -/
theorem dmaTransfers : Obligations.DmaTransfers := by
  intro s c w tag ok j b x
  exact ⟨descriptorFetch_reads, descriptorFetch_refused, descriptorFetch_idle, burstIssue_none, burstIssue_served, burstIssue_reads,
    burstComplete_unknown, burstComplete_frees, burstComplete_reads, transactionTimeout_frees, statusWriteback_ends⟩

end Sys2Proof.Machine
end

section
-- One proof after another: elaborated side by side, the proofs of the whole text do not fit in the check's memory.
set_option Elab.async false
/-! A region load from the library (R102 to R104). -/

namespace Sys2Proof.Machine

/-- No load is in progress, yet the hold that a load's target had is still noted: no end of a load leaves that note. The library entries are
valid, and no region is held or a reserve. -/
def holdNoted : State := { (Tests.live.withKey Tests.regionImgKey).put F.CFG_LIB_VALID_VALID 0xFFFFFFFF with
  flash := { (Tests.live.withKey Tests.regionImgKey).flash with lib := Vector.replicate 32 Tests.regionImg }
  load := { Tests.live.load with held := true } }

/-- START of a region load of library entry 31 into region 0. -/
def loadEntry31 : Word := F.CFG_CTRL_START.put (F.CFG_CTRL_LIB_INDEX.put 0 31) 1

/-- The state of configuration that a command leaves. -/
def cfgStateOf (c : Instr) (s : State) : Nat := match exec c s with
  | .next t => t.cfgState
  | _ => 2

/-- The header names a region that is neither held nor a reserve (R105), so the load of it ends. -/
theorem cfgStateOf_load : cfgStateOf (.cfgRegionLoad .host loadEntry31) holdNoted = 0 := by decide +kernel

theorem holdNoted_header : holdNoted.headerCode ((holdNoted.flash.lib[Fin.ofNat 32 (F.CFG_CTRL_LIB_INDEX.of loadEntry31)]).take 64) 2
    (some (F.CFG_CTRL_TARGET.of loadEntry31)) = 0 := by decide +kernel

/-- Refutes O48: the check of a header reads the hold that the load in progress noted. In a state without a load where such a note stands
(no state that a step leaves has it), the header passes with the note; the start of the load replaces the note before its own check, and
the load fails. -/
theorem not_configuration : ¬ Obligations.Configuration := by
  unfold Obligations.Configuration
  intro h
  obtain ⟨hstart, -⟩ := h holdNoted .host loadEntry31 false false 0 0 0 0 0
  obtain ⟨hregion, -⟩ := hstart (by decide +kernel) (by decide +kernel) (by decide +kernel) (by decide +kernel) (by decide +kernel)
  obtain ⟨-, -, hlib, -⟩ := hregion (by decide +kernel) (by decide +kernel)
  obtain ⟨t, hexec, -, hstate, -⟩ := hlib (by decide +kernel) (by decide +kernel) (by decide +kernel) holdNoted_header
  have htwo : cfgStateOf (.cfgRegionLoad .host loadEntry31) holdNoted = 2 := by
    rw [cfgStateOf, hexec]
    exact hstate
  rw [cfgStateOf_load] at htwo
  contradiction

end Sys2Proof.Machine
end

section
-- One proof after another: elaborated side by side, the proofs of the whole text do not fit in the check's memory.
set_option Elab.async false
/-! Policy images: programming, activating, aborting and checking them (R286 to R290). -/

namespace Sys2Proof.Machine

variable {s : State} {src : Src} {v : Word} {code : Nat}

/-- The registers of a policy operation. -/
abbrev polRefs : List RegRef := [⟨.STEP_POL_STATUS, 0, 0, 0⟩, ⟨.STEP_POL_CTRL, 0, 0, 0⟩]

/-- The operation has ended with a code. -/
def PolEnded (code : Nat) (t : State) : Prop := t.polState = 0 ∧ t.f F.STEP_POL_STATUS_POL_ERR = code % 32 ∧
  t.b F.STEP_POL_STATUS_FAILED = true ∧ t.pol.buffer = []

theorem Within.polEnd : Within [] [⟨.STEP_POL_STATUS, 0, 0, 0⟩] [.pol] (.polEnd code) :=
  .all ⟨.setFAt, .setPol, .setFAt, .ite .setBAt .setBAt⟩

theorem Act.polEnd_ends (hcode : code ≠ 0) (s : State) : PolEnded code ((Act.polEnd code).run s) := by
  simp +decide [PolEnded, Act.polEnd, State.polState, State.b, hcode]
  rfl

theorem Act.polEnd_regs (code : Nat) (s : State) : RegsKept polRefs s ((Act.polEnd code).run s) := by
  have hin : Within [] polRefs [.pol] (.polEnd code) := Within.polEnd.mono
  exact (hin s).regsKept

theorem Act.polEnd_slots (code : Nat) (s : State) : ((Act.polEnd code).run s).pol.slots = s.pol.slots := by
  simp +decide [Act.polEnd]
  split <;> rfl

theorem Act.polEnd_inForce (code : Nat) (s : State) : ((Act.polEnd code).run s).pol.inForce = s.pol.inForce := by
  simp +decide [Act.polEnd]
  split <;> rfl

/-! ### Writes of STEP.POL_CTRL -/

theorem Act.store_f_stored {f : Fld} {i j k : Nat} (hv : RegRef.valid ⟨f.name, i, j, k⟩ = true) (v : Word) (s : State)
    (h : f.storedBits = true := by decide) (hm : f.inMask = true := by decide) : ((Act.store f.name v i j k).run s).f f i j k = f.of v := by
  rw [Act.store, Act.look_run, Act.setR_f_at hv _ _ rfl hm]
  exact Fld.of_applyWrite_stored h _ _

/-- The slot that a word of STEP.POL_CTRL names. -/
abbrev polSlotOf (v : Word) : Fin 2 := Fin.ofNat 2 (F.STEP_POL_CTRL_SLOT.of v)

theorem polSlotOf_val (v : Word) : (polSlotOf v).val = F.STEP_POL_CTRL_SLOT.of v := Nat.mod_eq_of_lt (F.STEP_POL_CTRL_SLOT.of_lt v)

theorem Act.polCtrl_starts (habort : F.STEP_POL_CTRL_ABORT.of v = 0) (hend : F.STEP_POL_CTRL_END_OF_SOURCE.of v = 0)
    (hstart : F.STEP_POL_CTRL_START.of v = 1) (hidle : s.polState = 0) : (Act.polCtrl v).run s = (Act.polStart v).run s := by
  simp only [Act.polCtrl, Act.look_run, habort, hend, hstart, hidle, ne_eq, not_true_eq_false, if_false, if_true, zero_ne_one]

theorem Act.polCtrl_stores (habort : F.STEP_POL_CTRL_ABORT.of v = 0) (hend : F.STEP_POL_CTRL_END_OF_SOURCE.of v = 0)
    (hstart : F.STEP_POL_CTRL_START.of v = 0) : (Act.polCtrl v).run s = (Act.all [.store .STEP_POL_CTRL v, .accept]).run s := by
  simp only [Act.polCtrl, Act.look_run, habort, hend, hstart, if_false, zero_ne_one]

theorem Act.polCtrl_aborts (habort : F.STEP_POL_CTRL_ABORT.of v = 1) : (Act.polCtrl v).run s =
    (Act.all [.store .STEP_POL_CTRL v, .accept, .when (s.polState != 0) (.polEnd errAborted)]).run s := by
  simp only [Act.polCtrl, Act.look_run, habort, if_true]

/-- An action after which a word of STEP.POL_CTRL stands stored. -/
abbrev Act.polStored (v : Word) (a : Act) : Act := .all [.store .STEP_POL_CTRL v, .accept, a]

theorem Act.polStored_f {f : Fld} {a : Act} (ha : Leaves f a) (hf : f.name = .STEP_POL_CTRL) (h : f.storedBits = true) (hm : f.inMask = true)
    (s : State) : ((Act.polStored v a).run s).f f = f.of v := by
  rw [Act.all_cons_run, Act.all_cons_run, Act.all_cons_run, Act.all_nil_run, ha, Act.accept_f, ← hf]
  exact Act.store_f_stored (hf ▸ by decide) _ _ h hm

theorem Act.polStored_run (v : Word) (a : Act) (s : State) :
    (Act.polStored v a).run s = a.run ((Act.all [.store .STEP_POL_CTRL v, .accept]).run s) := rfl

theorem Act.polStored_resp {rs : List RegRef} {ps : List Part} {a : Act} (ha : Within [] rs ps a) (v : Word) (s : State)
    (hp : Part.resp ∉ ps := by decide) : ((Act.polStored v a).run s).resp = .ok 0 := by
  rw [Act.polStored_run]
  exact (ha _).parts .resp hp

theorem Act.polStored_ends (hcode : code ≠ 0) (v : Word) (s : State) : PolEnded code ((Act.polStored v (.polEnd code)).run s) :=
  Act.polEnd_ends hcode _

theorem Act.polStored_rest {rs : List RegRef} {ps : List Part} {a : Act} (ha : Within [] rs ps a) (hc : (⟨.STEP_POL_CTRL, 0, 0, 0⟩ : RegRef) ∈ rs)
    (hp : Part.resp ∈ ps) : Within [] rs ps (.polStored v a) := .all ⟨.storeAt hc, .accept hp, ha⟩

/-- Programming has begun: the slot is empty and not valid. -/
def Act.polReceive (slot : Fin 2) : Act := .all [.clrBit F.STEP_POL_STATUS_VALID slot,
  .setPol fun p => { p with buffer := [], ended := false, slot := slot, slots := p.slots.set slot [] }, .setF F.STEP_POL_STATUS_STATE 1]

theorem policyProgram_starts (hw : s.takesReg src .STEP_POL_CTRL) (habort : F.STEP_POL_CTRL_ABORT.of v = 0)
    (hend : F.STEP_POL_CTRL_END_OF_SOURCE.of v = 0) (hstart : F.STEP_POL_CTRL_START.of v = 1) (hidle : s.polState = 0)
    (hop : F.STEP_POL_CTRL_OP.of v = 0) : Answers (.policyProgram src v) s fun t =>
      t.resp = .ok 0 ∧ t.polState = 1 ∧ t.bit F.STEP_POL_STATUS_VALID (F.STEP_POL_CTRL_SLOT.of v) = false ∧ t.pol.buffer = [] ∧
      t.pol.slots[polSlotOf v] = [] ∧ t.f F.STEP_POL_CTRL_SLOT = F.STEP_POL_CTRL_SLOT.of v ∧ RegsKept polRefs s t := by
  have heffect : (Act.polCtrl v).run s = (Act.polStored v (.polReceive (polSlotOf v))).run s := by
    rw [Act.polCtrl_starts habort hend hstart hidle, Act.polStart, Act.look_run, hop]
    rfl
  have hreceive : Within [] polRefs [.pol, .resp] (.polReceive (polSlotOf v)) := .all ⟨.clrBitAt, .setPol, .setFAt⟩
  have htouch := Act.polStored_rest (v := v) hreceive (by simp) (by decide) s
  have hslot : Leaves F.STEP_POL_CTRL_SLOT (.polReceive (polSlotOf v)) := .all ⟨.clrBit, .upd fun _ => rfl, .setF⟩
  have hrun := Act.writeTo_accepted (d := 0) hw (a := Act.polCtrl v) (by rw [heffect]; rfl)
  refine ⟨_, rfl, ?_⟩
  rw [hrun, heffect]
  refine ⟨rfl, ?_, ?_, rfl, ?_, Act.polStored_f hslot rfl (by decide) (by decide) s, htouch.regsKept⟩
  · simp +decide [Act.polReceive, State.polState]
  · have hlt : (polSlotOf v).val < F.STEP_POL_STATUS_VALID.width := (polSlotOf v).isLt
    rw [← polSlotOf_val, Act.polStored_run, Act.polReceive, Act.all_bit_head]
    · exact Act.clrBit_bit_same _ _ _ _ _ _ (by decide) (by decide) hlt
    · exact .all ⟨.upd fun _ => rfl, .setF⟩
  · simp [Act.polReceive]

/-- Activation of a valid slot has begun. -/
def Act.polCheck (slot : Fin 2) : Act := .all [.setPol fun p => { p with slot := slot }, .setF F.STEP_POL_STATUS_STATE 3]

theorem policyActivate_starts (hw : s.takesReg src .STEP_POL_CTRL) (habort : F.STEP_POL_CTRL_ABORT.of v = 0)
    (hend : F.STEP_POL_CTRL_END_OF_SOURCE.of v = 0) (hstart : F.STEP_POL_CTRL_START.of v = 1) (hidle : s.polState = 0)
    (hop : F.STEP_POL_CTRL_OP.of v = 1) (hvalid : s.bit F.STEP_POL_STATUS_VALID (F.STEP_POL_CTRL_SLOT.of v) = true) :
    Answers (.policyActivate src v) s fun t =>
      t.resp = .ok 0 ∧ t.polState = 3 ∧ t.f F.STEP_POL_CTRL_SLOT = F.STEP_POL_CTRL_SLOT.of v ∧ t.pol = { s.pol with slot := polSlotOf v } ∧
      RegsKept polRefs s t := by
  have heffect : (Act.polCtrl v).run s = (Act.polStored v (.polCheck (polSlotOf v))).run s := by
    rw [← polSlotOf_val] at hvalid
    rw [Act.polCtrl_starts habort hend hstart hidle, Act.polStart, Act.look_run, hop]
    show (Act.all [_, _, _, if s.bit F.STEP_POL_STATUS_VALID (polSlotOf v).val = true then _ else _]).run s = _
    rw [if_pos hvalid]
    rfl
  have hcheck : Within [] polRefs [.pol, .resp] (.polCheck (polSlotOf v)) := .all ⟨.setPol, .setFAt⟩
  have htouch := Act.polStored_rest (v := v) hcheck (by simp) (by decide) s
  have hslot : Leaves F.STEP_POL_CTRL_SLOT (.polCheck (polSlotOf v)) := .all ⟨.upd fun _ => rfl, .setF⟩
  have hrun := Act.writeTo_accepted (d := 0) hw (a := Act.polCtrl v) (by rw [heffect]; rfl)
  refine ⟨_, rfl, ?_⟩
  rw [hrun, heffect]
  refine ⟨rfl, ?_, Act.polStored_f hslot rfl (by decide) (by decide) s, ?_, htouch.regsKept⟩
  · simp +decide [Act.polCheck, State.polState]
  · rfl

theorem policyActivate_fails (hw : s.takesReg src .STEP_POL_CTRL) (habort : F.STEP_POL_CTRL_ABORT.of v = 0)
    (hend : F.STEP_POL_CTRL_END_OF_SOURCE.of v = 0) (hstart : F.STEP_POL_CTRL_START.of v = 1) (hidle : s.polState = 0)
    (hop : F.STEP_POL_CTRL_OP.of v = 1) (hvalid : s.bit F.STEP_POL_STATUS_VALID (F.STEP_POL_CTRL_SLOT.of v) = false) :
    Answers (.policyActivate src v) s fun t => t.resp = .ok 0 ∧ PolEnded errSlotEmpty t ∧ RegsKept polRefs s t := by
  have heffect : (Act.polCtrl v).run s = (Act.polEnd errSlotEmpty).run ((Act.polStored v (.setPol fun p => { p with slot := polSlotOf v })).run s) := by
    rw [← polSlotOf_val] at hvalid
    rw [Act.polCtrl_starts habort hend hstart hidle, Act.polStart, Act.look_run, hop]
    show (Act.all [_, _, _, if s.bit F.STEP_POL_STATUS_VALID (polSlotOf v).val = true then _ else _]).run s = _
    rw [if_neg (by rw [hvalid]; exact Bool.false_ne_true)]
    rfl
  have hstored := Act.polStored_rest (rs := polRefs) (ps := [.pol, .resp]) (v := v) (a := .setPol fun p => { p with slot := polSlotOf v })
    .setPol (by simp) (by decide) s
  have hend : Within [] polRefs [.pol, .resp] (.polEnd errSlotEmpty) := Within.polEnd.mono
  have htouch := hstored.trans (hend _)
  have hresp : ((Act.polCtrl v).run s).resp = .ok 0 := by
    rw [heffect]
    exact (Within.polEnd _).parts .resp (by decide)
  have hrun := Act.writeTo_accepted (d := 0) hw (a := Act.polCtrl v) hresp
  refine ⟨_, rfl, ?_⟩
  rw [hrun]
  refine ⟨hresp, ?_, ?_⟩
  · rw [heffect]
    exact Act.polEnd_ends (by decide) _
  · rw [heffect]
    exact htouch.regsKept

theorem polCtrl_refused (hw : s.takesReg src .STEP_POL_CTRL) (hrun : (Act.polCtrl v).run s = Act.stepRefuse.run s) :
    Refused F.STEP_REFUSED_COUNT 0 0 s ((Act.writeTo src .STEP_POL_CTRL 0 0 0 (.polCtrl v)).run s) :=
  Act.writeTo_refused hw hrun (by decide)

theorem policyProgram_unknown (hw : s.takesReg src .STEP_POL_CTRL) (habort : F.STEP_POL_CTRL_ABORT.of v = 0)
    (hend : F.STEP_POL_CTRL_END_OF_SOURCE.of v = 0) (hstart : F.STEP_POL_CTRL_START.of v = 1) (hidle : s.polState = 0)
    (hop : 2 ≤ F.STEP_POL_CTRL_OP.of v) : Answers (.policyProgram src v) s (Refused F.STEP_REFUSED_COUNT 0 0 s) := by
  refine ⟨_, rfl, polCtrl_refused hw ?_⟩
  rw [Act.polCtrl_starts habort hend hstart hidle, Act.polStart, Act.look_run]
  generalize F.STEP_POL_CTRL_OP.of v = n at hop
  match n, hop with
  | n + 2, _ => rfl

theorem policyProgram_busy (hw : s.takesReg src .STEP_POL_CTRL) (habort : F.STEP_POL_CTRL_ABORT.of v = 0)
    (hend : F.STEP_POL_CTRL_END_OF_SOURCE.of v = 0) (hstart : F.STEP_POL_CTRL_START.of v = 1) (hbusy : s.polState ≠ 0) :
    Answers (.policyProgram src v) s (Refused F.STEP_REFUSED_COUNT 0 0 s) := by
  refine ⟨_, rfl, polCtrl_refused hw ?_⟩
  simp only [Act.polCtrl, Act.look_run, habort, hend, hstart, hbusy, ne_eq, not_false_eq_true, if_false, if_true, zero_ne_one]

theorem policyProgram_stores (hw : s.takesReg src .STEP_POL_CTRL) (habort : F.STEP_POL_CTRL_ABORT.of v = 0)
    (hend : F.STEP_POL_CTRL_END_OF_SOURCE.of v = 0) (hstart : F.STEP_POL_CTRL_START.of v = 0) : Answers (.policyProgram src v) s fun t =>
      t.resp = .ok 0 ∧ t.f F.STEP_POL_CTRL_SLOT = F.STEP_POL_CTRL_SLOT.of v ∧ t.f F.STEP_POL_CTRL_OP = F.STEP_POL_CTRL_OP.of v ∧
      RegsKept [⟨.STEP_POL_CTRL, 0, 0, 0⟩] s t ∧ OnlyRegs s t := by
  have heffect : (Act.polCtrl v).run s = (Act.polStored v .skip).run s := Act.polCtrl_stores habort hend hstart
  have htouch := Act.polStored_rest (rs := [⟨.STEP_POL_CTRL, 0, 0, 0⟩]) (ps := [.resp]) (v := v) (a := .skip) .skip (by simp) (by decide) s
  have hrun := Act.writeTo_accepted (d := 0) hw (a := Act.polCtrl v) (by rw [heffect]; rfl)
  refine ⟨_, rfl, ?_⟩
  rw [hrun, heffect]
  exact ⟨rfl, Act.polStored_f .skip rfl (by decide) (by decide) s, Act.polStored_f .skip rfl (by decide) (by decide) s, htouch.regsKept, htouch.rest⟩

/-! ### ABORT and the end of the source -/

theorem policyAbort_ends (hw : s.takesReg src .STEP_POL_CTRL) (habort : F.STEP_POL_CTRL_ABORT.of v = 1) : Answers (.policyAbort src v) s fun t =>
    t.resp = .ok 0 ∧ t.f F.STEP_POL_CTRL_SLOT = F.STEP_POL_CTRL_SLOT.of v ∧ t.f F.STEP_POL_CTRL_OP = F.STEP_POL_CTRL_OP.of v ∧
    (s.polState ≠ 0 → PolEnded errAborted t ∧ RegsKept polRefs s t) ∧
    (s.polState = 0 → RegsKept [⟨.STEP_POL_CTRL, 0, 0, 0⟩] s t ∧ OnlyRegs s t) := by
  have heffect : (Act.polCtrl v).run s = (Act.polStored v (.when (s.polState != 0) (.polEnd errAborted))).run s := Act.polCtrl_aborts habort
  have hend : Within [] [⟨.STEP_POL_STATUS, 0, 0, 0⟩] [.pol] (.when (s.polState != 0) (.polEnd errAborted)) := .when .polEnd
  have hf {f : Fld} (hf : f.name = .STEP_POL_CTRL) (h : f.storedBits = true) (hm : f.inMask = true) :
      ((Act.polStored v (.when (s.polState != 0) (.polEnd errAborted))).run s).f f = f.of v :=
    Act.polStored_f (.of_within (hend.byName (l := [.STEP_POL_STATUS]) (by simp)) (by rw [hf]; decide)) hf h hm s
  have hresp : ((Act.polCtrl v).run s).resp = .ok 0 := by
    rw [heffect]
    exact (hend _).parts .resp (by decide)
  have hrun := Act.writeTo_accepted (d := 0) hw (a := Act.polCtrl v) hresp
  refine ⟨_, rfl, ?_⟩
  rw [hrun]
  refine ⟨hresp, by rw [heffect]; exact hf rfl (by decide) (by decide), by rw [heffect]; exact hf rfl (by decide) (by decide), fun hbusy => ?_, fun hidle => ?_⟩
  · have htouch := Act.polStored_rest (v := v) (hend.mono (rs' := polRefs) (ps' := [.pol, .resp])) (by simp) (by decide) s
    rw [heffect]
    refine ⟨?_, htouch.regsKept⟩
    rw [Act.all_cons_run, Act.all_cons_run, Act.all_cons_run, Act.all_nil_run, bne_iff_ne.mpr hbusy]
    exact Act.polEnd_ends (by decide) _
  · have hnone : (Act.polCtrl v).run s = (Act.polStored v .skip).run s := by rw [heffect, hidle]; rfl
    have htouch := Act.polStored_rest (rs := [⟨.STEP_POL_CTRL, 0, 0, 0⟩]) (ps := [.resp]) (v := v) (a := .skip) .skip (by simp) (by decide) s
    rw [hnone]
    exact ⟨htouch.regsKept, htouch.rest⟩

theorem Act.polCtrl_ends (habort : F.STEP_POL_CTRL_ABORT.of v = 0) (hend : F.STEP_POL_CTRL_END_OF_SOURCE.of v = 1) : (Act.polCtrl v).run s =
    (if s.polState = 1 then Act.polStored v (if s.pol.whole then .setF F.STEP_POL_STATUS_STATE 2 else .polEnd errTruncated)
      else if s.polState = 2 then .all [.store .STEP_POL_CTRL v, .accept] else .stepRefuse).run s := by
  simp only [Act.polCtrl, Act.look_run, habort, hend, zero_ne_one, if_false, if_true]

theorem policyEndOfSource_whole (hw : s.takesReg src .STEP_POL_CTRL) (habort : F.STEP_POL_CTRL_ABORT.of v = 0)
    (hend : F.STEP_POL_CTRL_END_OF_SOURCE.of v = 1) (hstate : s.polState = 1) (hwhole : s.pol.whole = true) :
    Answers (.policyEndOfSource src v) s fun t => t.resp = .ok 0 ∧ t.polState = 2 ∧ t.pol = s.pol := by
  have heffect : (Act.polCtrl v).run s = (Act.polStored v (.setF F.STEP_POL_STATUS_STATE 2)).run s := by
    rw [Act.polCtrl_ends habort hend, if_pos hstate, if_pos hwhole]
  have hrun := Act.writeTo_accepted (d := 0) hw (a := Act.polCtrl v) (by rw [heffect]; rfl)
  refine ⟨_, rfl, ?_⟩
  rw [hrun, heffect]
  refine ⟨rfl, ?_, rfl⟩
  simp +decide [State.polState]

theorem policyEndOfSource_short (hw : s.takesReg src .STEP_POL_CTRL) (habort : F.STEP_POL_CTRL_ABORT.of v = 0)
    (hend : F.STEP_POL_CTRL_END_OF_SOURCE.of v = 1) (hstate : s.polState = 1) (hwhole : s.pol.whole = false) :
    Answers (.policyEndOfSource src v) s fun t => t.resp = .ok 0 ∧ PolEnded errTruncated t ∧ RegsKept polRefs s t := by
  have heffect : (Act.polCtrl v).run s = (Act.polStored v (.polEnd errTruncated)).run s := by
    rw [Act.polCtrl_ends habort hend, if_pos hstate, if_neg (by rw [hwhole]; exact Bool.false_ne_true)]
  have htouch := Act.polStored_rest (v := v) (Within.polEnd (code := errTruncated).mono (rs' := polRefs) (ps' := [.pol, .resp])) (by simp)
    (by decide) s
  have hresp := Act.polStored_resp (Within.polEnd (code := errTruncated)) v s
  have hrun := Act.writeTo_accepted (d := 0) hw (a := Act.polCtrl v) (heffect ▸ hresp)
  refine ⟨_, rfl, ?_⟩
  rw [hrun, heffect]
  exact ⟨hresp, Act.polStored_ends (by decide) v s, htouch.regsKept⟩

theorem policyEndOfSource_again (hw : s.takesReg src .STEP_POL_CTRL) (habort : F.STEP_POL_CTRL_ABORT.of v = 0)
    (hend : F.STEP_POL_CTRL_END_OF_SOURCE.of v = 1) (hstate : s.polState = 2) : Answers (.policyEndOfSource src v) s fun t =>
      t.resp = .ok 0 ∧ RegsKept [⟨.STEP_POL_CTRL, 0, 0, 0⟩] s t ∧ OnlyRegs s t := by
  have heffect : (Act.polCtrl v).run s = (Act.polStored v .skip).run s := by
    rw [Act.polCtrl_ends habort hend, if_neg (by rw [hstate]; decide), if_pos hstate]
    rfl
  have htouch := Act.polStored_rest (rs := [⟨.STEP_POL_CTRL, 0, 0, 0⟩]) (ps := [.resp]) (v := v) (a := .skip) .skip (by simp) (by decide) s
  have hrun := Act.writeTo_accepted (d := 0) hw (a := Act.polCtrl v) (by rw [heffect]; rfl)
  refine ⟨_, rfl, ?_⟩
  rw [hrun, heffect]
  exact ⟨rfl, htouch.regsKept, htouch.rest⟩

theorem policyEndOfSource_refused (hw : s.takesReg src .STEP_POL_CTRL) (habort : F.STEP_POL_CTRL_ABORT.of v = 0)
    (hend : F.STEP_POL_CTRL_END_OF_SOURCE.of v = 1) (h1 : s.polState ≠ 1) (h2 : s.polState ≠ 2) :
    Answers (.policyEndOfSource src v) s (Refused F.STEP_REFUSED_COUNT 0 0 s) :=
  ⟨_, rfl, polCtrl_refused hw (by rw [Act.polCtrl_ends habort hend, if_neg h1, if_neg h2])⟩

/-! ### The bytes of an image -/

/-- Four more bytes of the image. -/
def Act.polTake (v : Word) : Act := .setPol fun p => { p with buffer := p.buffer ++ leBytes v.toNat 4 }

theorem Act.polData_run (v : Word) (hstate : s.polState = 1) : (Act.polData v).run s =
    let t := (Act.all [.accept, .polTake v]).run s
    (if t.pol.buffer.length = 64 ∧ t.polHeaderCode (t.pol.buffer.take 64) ≠ 0 then Act.polEnd (t.polHeaderCode (t.pol.buffer.take 64))
      else .when t.pol.whole (.setF F.STEP_POL_STATUS_STATE 2)).run t := by
  rw [Act.polData, Act.look_run, if_neg (fun h => h hstate)]
  rfl

theorem polDataWrite_takes (hw : s.takesReg src .STEP_POL_DATA) (hstate : s.polState = 1) (hlen : s.pol.buffer.length + 4 ≠ 64) :
    Answers (.polDataWrite src v) s fun t =>
      t.resp = .ok 0 ∧ t.pol = { s.pol with buffer := s.pol.buffer ++ leBytes v.toNat 4 } ∧
      t.polState = (if t.pol.whole then 2 else 1) ∧ RegsKept [⟨.STEP_POL_STATUS, 0, 0, 0⟩] s t ∧
      t = { s with regs := t.regs, pol := t.pol, resp := t.resp } := by
  have heffect := Act.polData_run v hstate
  generalize hu : (Act.all [.accept, .polTake v]).run s = u at heffect
  have hpol : u.pol = { s.pol with buffer := s.pol.buffer ++ leBytes v.toNat 4 } := by rw [← hu]; rfl
  have hnot : ¬ (u.pol.buffer.length = 64 ∧ u.polHeaderCode (u.pol.buffer.take 64) ≠ 0) := by
    rw [hpol]
    exact fun h => hlen (by simpa [leBytes] using h.1)
  dsimp only at heffect
  rw [if_neg hnot] at heffect
  have hbegin : Within [] [⟨.STEP_POL_STATUS, 0, 0, 0⟩] [.pol, .resp] (.all [.accept, .polTake v]) := .all ⟨.accept, .setPol⟩
  have hend : Within [] [⟨.STEP_POL_STATUS, 0, 0, 0⟩] [] (.when u.pol.whole (.setF F.STEP_POL_STATUS_STATE 2)) := .when .setFAt
  have htouch := (hu ▸ hbegin s).trans ((hend u).mono)
  have hkept : ((Act.polData v).run s).pol = u.pol := by
    rw [heffect]
    exact (hend u).parts .pol (by decide)
  have hresp : ((Act.polData v).run s).resp = .ok 0 := by
    rw [heffect]
    exact ((hend u).parts .resp (by decide)).trans (by rw [← hu]; rfl)
  have hrun := Act.writeTo_accepted (d := 0) hw (a := Act.polData v) hresp
  refine ⟨_, rfl, ?_⟩
  rw [hrun]
  refine ⟨hresp, hkept.trans hpol, ?_, ?_, ?_⟩
  · rw [hkept, heffect]
    cases u.pol.whole
    · exact (by rw [← hu]; exact hstate : u.polState = 1)
    · exact Act.setF_f_same F.STEP_POL_STATUS_STATE 2 0 0 0 u (by decide) (by decide)
  · rw [heffect]
    exact htouch.regsKept
  · rw [heffect]
    exact htouch.rest

theorem polDataWrite_refused (hw : s.takesReg src .STEP_POL_DATA) (hstate : s.polState ≠ 1) :
    Answers (.polDataWrite src v) s (Refused F.STEP_REFUSED_COUNT 0 0 s) := by
  refine ⟨_, rfl, Act.writeTo_refused hw (a := Act.polData v) ?_ (by decide)⟩
  rw [Act.polData, Act.look_run, if_pos hstate]
  rfl

/-! ### The end of the checks -/

/-- The image received stands in its slot. -/
def Act.polKept (slot : Fin 2) (img : List Byte) : Act := .all [
  .setPol fun p => { p with slots := p.slots.set slot img }, .setBit F.STEP_POL_STATUS_VALID slot, .polEnd 0]

theorem policyVerified_keeps (hstate : s.polState = 2) (hcode : s.polCode (s.pol.buffer.take (hdrLength s.pol.buffer)) = 0) :
    AnswersThenSettled .policyVerified s fun u =>
      u.pol.slots[s.polSlot] = s.pol.buffer.take (hdrLength s.pol.buffer) ∧ u.bit F.STEP_POL_STATUS_VALID s.polSlot = true ∧
      u.b F.STEP_POL_STATUS_DONE = true ∧ u.polState = 0 ∧ u.pol.inForce = s.pol.inForce := by
  have hrun : Act.policyVerified.run s = (Act.polKept s.polSlot (s.pol.buffer.take (hdrLength s.pol.buffer))).run s := by
    simp only [Act.policyVerified, Act.look_run, hstate, hcode, ne_eq, not_true_eq_false, if_false, if_true, Act.polKept]
  refine answersThenSettled_of rfl hrun ⟨?_, ?_, ?_, ?_, rfl⟩
  · simp [Act.polKept, Act.polEnd]
  · have hlt : s.polSlot.val < F.STEP_POL_STATUS_VALID.width := s.polSlot.isLt
    rw [Act.polKept, Act.all_cons_run, Act.all_bit_head]
    · exact Act.setBit_bit_same _ _ _ _ _ _ (by decide) (by decide) hlt
    · exact .all (by exact .all ⟨.setF, .upd fun _ => rfl, .setF, .ite .setB .setB⟩)
  · simp +decide [Act.polKept, Act.polEnd, State.b]
  · simp +decide [Act.polKept, Act.polEnd, State.polState]

theorem policyVerified_rejects (hstate : s.polState = 2) (hcode : s.polCode (s.pol.buffer.take (hdrLength s.pol.buffer)) ≠ 0) :
    AnswersThenSettled .policyVerified s fun u =>
      (PolEnded (s.polCode (s.pol.buffer.take (hdrLength s.pol.buffer))) u ∧ RegsKept polRefs s u) ∧ u.pol.slots = s.pol.slots := by
  have hrun : Act.policyVerified.run s = (Act.polEnd (s.polCode (s.pol.buffer.take (hdrLength s.pol.buffer)))).run s := by
    simp only [Act.policyVerified, Act.look_run, hstate, hcode, ne_eq, not_false_eq_true, if_true]
  exact answersThenSettled_of rfl hrun ⟨⟨Act.polEnd_ends hcode s, Act.polEnd_regs _ s⟩, Act.polEnd_slots _ s⟩

theorem policyVerified_denies (hstate : s.polState = 3) (hcode : s.polCode s.pol.slots[s.polSlot] ≠ 0) :
    AnswersThenSettled .policyVerified s fun u =>
      (PolEnded (s.polCode s.pol.slots[s.polSlot]) u ∧ RegsKept polRefs s u) ∧
      u.f F.STEP_POL_STATUS_ACTIVE_SLOT = s.f F.STEP_POL_STATUS_ACTIVE_SLOT := by
  have hrun : Act.policyVerified.run s = (Act.polEnd (s.polCode s.pol.slots[s.polSlot])).run s := by
    simp only [Act.policyVerified, Act.look_run, hstate, hcode, ne_eq, not_false_eq_true, if_true, if_false, Nat.reduceEqDiff]
  have hactive : Leaves F.STEP_POL_STATUS_ACTIVE_SLOT (.polEnd (s.polCode s.pol.slots[s.polSlot])) :=
    .all ⟨.setF, .upd fun _ => rfl, .setF, .ite .setB .setB⟩
  exact answersThenSettled_of rfl hrun ⟨⟨Act.polEnd_ends hcode s, Act.polEnd_regs _ s⟩, hactive s 0 0 0⟩

/-- The slot is the active one from now on. -/
def Act.polActive (slot : Fin 2) (plain : List Byte) : Act := .all [.setF F.STEP_POL_STATUS_ACTIVE_SLOT slot, .policyNv plain, .polEnd 0]

theorem Within.policyNv {plain : List Byte} : Within [] [] [.flash] (.policyNv plain) := by
  rw [Act.policyNv]
  split
  · exact .skip
  · exact .upd (fun _ => rfl) fun _ => rfl

theorem Act.polActive_inForce (slot : Fin 2) (plain : List Byte) (s : State) : ((Act.polActive slot plain).run s).pol.inForce = s.pol.inForce := by
  have hnv := (Within.policyNv (plain := plain) ((Act.setF F.STEP_POL_STATUS_ACTIVE_SLOT slot).run s)).parts .pol (by decide)
  rw [Act.polActive, Act.all_cons_run, Act.all_cons_run, Act.all_cons_run, Act.all_nil_run, Act.polEnd_inForce]
  exact congrArg PolSt.inForce hnv

theorem policyVerified_activates (hstate : s.polState = 3) (hcode : s.polCode s.pol.slots[s.polSlot] = 0)
    (hnot : s.released = false ∨ s.f F.SYS_MODE_EFF_FORCE_CAUSE ≠ 3) : AnswersThenSettled .policyVerified s fun u =>
      u.f F.STEP_POL_STATUS_ACTIVE_SLOT = s.polSlot.val ∧ u.b F.STEP_POL_STATUS_DONE = true ∧ u.polState = 0 ∧
      u.pol.inForce = s.pol.inForce ∧ RegsKept [⟨.STEP_POL_STATUS, 0, 0, 0⟩] s u := by
  have honce : (s.released && s.f F.SYS_MODE_EFF_FORCE_CAUSE == 3) = false := by
    rcases hnot with h | h
    · rw [h, Bool.false_and]
    · rw [beq_false_of_ne h, Bool.and_false]
  have hrun : Act.policyVerified.run s = (Act.polActive s.polSlot
      (s.polPlain (s.pol.slots[s.polSlot].take (hdrLength s.pol.slots[s.polSlot])))).run s := by
    simp only [Act.policyVerified, Act.look_run, hstate, hcode, honce, ne_eq, not_true_eq_false, if_true, if_false, Nat.reduceEqDiff, Act.polActive,
      Act.all_cons_run, Act.all_nil_run, Act.when_false_run]
  generalize s.polPlain (s.pol.slots[s.polSlot].take (hdrLength s.pol.slots[s.polSlot])) = plain at hrun
  have hin : Within [] [⟨.STEP_POL_STATUS, 0, 0, 0⟩] [.flash, .pol] (.polActive s.polSlot plain) :=
    .all ⟨.setFAt, Within.policyNv.mono, Within.polEnd.mono⟩
  have hlt : s.polSlot.val < 2 ^ F.STEP_POL_STATUS_ACTIVE_SLOT.width := s.polSlot.isLt
  refine answersThenSettled_of rfl hrun ⟨?_, ?_, ?_, ?_, (hin s).regsKept⟩
  · rw [Act.polActive, Act.all_f_head]
    · exact (Act.setF_f_same _ _ _ _ _ _ (by decide) (by decide)).trans (Nat.mod_eq_of_lt hlt)
    exact .all ⟨.of_within Within.policyNv, .all ⟨.setF, .upd fun _ => rfl, .setF, .ite .setB .setB⟩⟩
  · simp +decide [Act.polActive, Act.polEnd, State.b]
  · simp +decide [Act.polActive, Act.polEnd, State.polState]
  · exact Act.polActive_inForce _ _ s

/-- Settles O50: each command by its lemma. -/
theorem policyImages : Obligations.PolicyImages := by
  unfold Obligations.PolicyImages
  intro s src v
  refine ⟨fun hw habort hend hstart => ⟨policyProgram_starts hw habort hend hstart, fun hidle hop =>
      ⟨policyActivate_starts hw habort hend hstart hidle hop, fun hvalid => ?_⟩, policyProgram_unknown hw habort hend hstart,
      policyProgram_busy hw habort hend hstart⟩, fun hw habort => ⟨fun hbusy => ?_, ?_, fun hidle => ?_⟩,
    fun hw habort hend => ⟨policyEndOfSource_whole hw habort hend, fun hstate hwhole => ?_, policyEndOfSource_again hw habort hend,
      policyEndOfSource_refused hw habort hend⟩, policyProgram_stores, polDataWrite_takes, polDataWrite_refused,
    fun hstate => ⟨policyVerified_keeps hstate, fun hcode => ?_⟩, fun hstate => ⟨fun hcode => ?_, policyVerified_activates hstate⟩⟩
  · obtain ⟨t, hexec, hresp, ⟨h1, h2, h3, h4⟩, hregs⟩ := policyActivate_fails hw habort hend hstart hidle hop hvalid
    exact ⟨t, hexec, hresp, h1, h2, h3, h4, hregs⟩
  · obtain ⟨t, hexec, hresp, -, -, hends, -⟩ := policyAbort_ends hw habort
    obtain ⟨⟨h1, h2, h3, h4⟩, hregs⟩ := hends hbusy
    exact ⟨t, hexec, hresp, h1, h2, h3, h4, hregs⟩
  · obtain ⟨t, hexec, -, hslot, hop, -⟩ := policyAbort_ends hw habort
    exact ⟨t, hexec, hslot, hop⟩
  · obtain ⟨t, hexec, hresp, -, -, -, hrest⟩ := policyAbort_ends hw habort
    exact ⟨t, hexec, hresp, hrest hidle⟩
  · obtain ⟨t, hexec, hresp, ⟨h1, h2, h3, h4⟩, hregs⟩ := policyEndOfSource_short hw habort hend hstate hwhole
    exact ⟨t, hexec, hresp, h1, h2, h3, h4, hregs⟩
  · obtain ⟨u, hexec, ⟨⟨h1, h2, h3, h4⟩, hregs⟩, hslots⟩ := policyVerified_rejects hstate hcode
    exact ⟨u, hexec, ⟨h1, h2, h3, h4, hregs⟩, hslots⟩
  · obtain ⟨u, hexec, ⟨⟨h1, h2, h3, h4⟩, hregs⟩, hactive⟩ := policyVerified_denies hstate hcode
    exact ⟨u, hexec, ⟨h1, h2, h3, h4, hregs⟩, hactive⟩

end Sys2Proof.Machine
end

section
-- One proof after another: elaborated side by side, the proofs of the whole text do not fit in the check's memory.
set_option Elab.async false
/-! Region reset and region relocation (R423, R431 to R436). -/

namespace Sys2Proof.Machine

variable {s : State} {src : Src} {v : Word} {a b r result : Nat}

/-! ### What the steps of a relocation touch -/

theorem Within.regionInit : Within [] [] [.fab] (.regionInit r) := .look fun _ => .setFab
theorem Within.setCfgWord {k : Nat} {w : DWord} : Within [] [] [.fab] (.setCfgWord k w) := .setFab
theorem Within.copyInbound {d x y : Nat} : Within [] [] [.fab] (.copyInbound d x y) := .look fun _ => .each fun _ => .setCfgWord
theorem Within.moveOutbound {d x y : Nat} : Within [] [] [.fab] (.moveOutbound d x y) := .look fun _ => .each fun _ => .setCfgWord
theorem Within.copyRams : Within [] [] [.fab] (.copyRams a b) := .look fun _ => .each fun _ => .setFab
theorem Within.moveState : Within [] [] [.fab] (.moveState a b) := .setFab
theorem Within.moveTables : Within [] [] [.fab] (.moveTables a b) := .look fun _ => .each fun _ => .setCfgWord
theorem Within.repairing : Within [.FAULT_STATUS] [] [] .repairing := .look fun _ => .setB

/-- The registers that the failure of a relocation writes. -/
abbrev relocNames : List RegName := [.RELOC_STATUS, .FAULT_EVENTS, .FAULT_STATUS]

theorem Within.relocFail : Within relocNames [] [.log, .seed, .rel] (.relocFail a b result) :=
  .look fun _ => .all ⟨.setF, .setF, .setB, Within.log, .setRel, Within.repairing.mono⟩

theorem State.relSrc_lt (s : State) : s.relSrc < 32 := F.RELOC_STATUS_SRC.of_lt _
theorem State.relDst_lt (s : State) : s.relDst < 32 := F.RELOC_STATUS_DST.of_lt _

theorem Act.repairing_shows (h : 2 ≤ s.f F.RELOC_STATUS_STATE) : (Act.repairing.run s).b F.FAULT_STATUS_REPAIRING = true := by
  rw [Act.repairing, Act.look_run, State.repairGoing, decide_eq_true h, Bool.or_true]
  exact Act.setB_b_same _ _ _ _ _ _ (by decide) (by decide) (by decide)

/-! ### The start -/

theorem State.oneClock_congr {t : State} (h : t.fab = s.fab) (r : Nat) : t.oneClock r = s.oneClock r := by
  simp only [State.oneClock, State.clocksSelected, State.clockSelects, State.usedUnits, State.unitWord, State.regionWord, State.cfgWord, h]

/-- The registers and the clock of a relocation from `a` into `b`. -/
def Act.relocMarks (a b clk : Nat) : Act := .all [.setF F.RELOC_STATUS_STATE relCopying, .setF F.RELOC_STATUS_SRC a, .setF F.RELOC_STATUS_DST b,
  .setF F.RELOC_STATUS_HCLK clk]

theorem Within.relocMarks {clk : Nat} : Within [.RELOC_STATUS] [] [] (.relocMarks a b clk) := .all ⟨.setF, .setF, .setF, .setF⟩

/-- What a relocation from `a` into `b` shows once it has started. -/
def RelocMarked (a b clk : Nat) (t : State) : Prop :=
  t.relState = relCopying ∧ t.relSrc = a % 32 ∧ t.relDst = b % 32 ∧ t.f F.RELOC_STATUS_HCLK = clk % 8

theorem Act.relocMarks_marked (clk : Nat) (s : State) : RelocMarked a b clk ((Act.relocMarks a b clk).run s) := by
  refine ⟨?_, ?_, ?_, ?_⟩
  · simp +decide [Act.relocMarks, State.relState]
  · simp +decide [Act.relocMarks, State.relSrc]
    rfl
  · simp +decide [Act.relocMarks, State.relDst]
    rfl
  · simp +decide [Act.relocMarks]
    rfl

theorem RelocMarked.of_touches {l : List RegName} {ps : List Part} {clk : Nat} {t : State} (h : RelocMarked a b clk s) (ht : Touches l [] ps s t)
    (hl : .RELOC_STATUS ∉ l := by decide) : RelocMarked a b clk t := by
  obtain ⟨hstate, hsrc, hdst, hclk⟩ := h
  exact ⟨(ht.f_eq 0 0 0 hl).trans hstate, (ht.f_eq 0 0 0 hl).trans hsrc, (ht.f_eq 0 0 0 hl).trans hdst, (ht.f_eq 0 0 0 hl).trans hclk⟩

theorem Act.relocBegin_run (a b : Nat) (s : State) : (Act.relocBegin a b).run s =
    (Act.all [.repairing, .barriers]).run ((Act.copyInbound (a / 16) (a % 16) (b % 16)).run
      ((Act.setRel fun _ => ⟨s.clk, 0, false, 0, none⟩).run ((Act.relocMarks a b (((s.oneClock a).map Fin.val).getD 0)).run s))) := by
  simp only [Act.relocBegin, Act.relocMarks, Act.look_run, Act.all_cons_run, Act.all_nil_run]

theorem Act.relocBegin_begun (a b : Nat) (s : State) : let t := (Act.relocBegin a b).run s
    RelocMarked a b (((s.oneClock a).map Fin.val).getD 0) t ∧ t.rel = ⟨s.clk, 0, false, 0, none⟩ ∧ t.b F.FAULT_STATUS_REPAIRING = true := by
  have hmarks := Act.relocMarks_marked (a := a) (b := b) (((s.oneClock a).map Fin.val).getD 0) s
  rw [Act.relocBegin_run]
  generalize (Act.relocMarks a b (((s.oneClock a).map Fin.val).getD 0)).run s = t1 at hmarks
  have hrel : Within [] [] [.rel] (.setRel fun _ => ⟨s.clk, 0, false, 0, none⟩) := .setRel
  have hset : ((Act.setRel fun _ => ⟨s.clk, 0, false, 0, none⟩).run t1).rel = ⟨s.clk, 0, false, 0, none⟩ := rfl
  have hmarks := hmarks.of_touches (hrel t1)
  generalize (Act.setRel fun _ => ⟨s.clk, 0, false, 0, none⟩).run t1 = t2 at hset hmarks
  have hcopy := Within.copyInbound (d := a / 16) (x := a % 16) (y := b % 16) t2
  have hset := (hcopy.parts .rel (by decide)).trans hset
  have hmarks := hmarks.of_touches hcopy
  generalize (Act.copyInbound (a / 16) (a % 16) (b % 16)).run t2 = t3 at hset hmarks
  have htail : Within [.FAULT_STATUS] [] [.dma] (.all [.repairing, .barriers]) := .all ⟨Within.repairing.mono, Within.barriers.mono⟩
  refine ⟨hmarks.of_touches (htail t3), ((htail t3).parts .rel (by decide)).trans hset, ?_⟩
  obtain ⟨hstate, -, -, -⟩ := hmarks
  rw [Act.all_cons_run]
  have hbarriers : Within [] [] [.dma] (.all [.barriers]) := .all (by exact Within.barriers)
  exact ((hbarriers _).b_eq 0 0 0).trans (Act.repairing_shows (Nat.le_of_eq hstate.symm))

theorem relocStart_starts (hw : s.takesReg src .RELOC_CTRL) (habort : v.getLsbD 13 = false) (hstart : v.getLsbD 12 = true)
    (hbar : s.relocBar (F.RELOC_CTRL_SRC.of v) (F.RELOC_CTRL_DST.of v) = 0) : AnswersThenModes (.relocStart src v) s fun u =>
      u.resp = .ok 0 ∧ u.relState = relCopying ∧ u.relSrc = F.RELOC_CTRL_SRC.of v ∧ u.relDst = F.RELOC_CTRL_DST.of v ∧
      u.rel = ⟨s.clk, 0, false, 0, none⟩ ∧ u.f F.RELOC_STATUS_HCLK = ((s.oneClock (F.RELOC_CTRL_SRC.of v)).map Fin.val).getD 0 ∧
      u.b F.FAULT_STATUS_REPAIRING = true := by
  have heffect : (Act.relocCtrl v).run s = Act.accept.run ((Act.relocBegin (F.RELOC_CTRL_SRC.of v) (F.RELOC_CTRL_DST.of v)).run
      ((Act.store .RELOC_CTRL v).run s)) := by
    simp only [Act.relocCtrl, Act.look_run, habort, hstart, hbar, Bool.false_eq_true, if_false, Bool.not_true, ne_eq, not_true_eq_false,
      Act.all_cons_run, Act.all_nil_run]
  have hrun := Act.writeTo_accepted (d := 0) hw (a := Act.relocCtrl v) (by rw [heffect]; rfl)
  have hstore : Within [.RELOC_CTRL] [] [] (.store .RELOC_CTRL v) := .store
  obtain ⟨hmarks, hrel, hrepair⟩ := Act.relocBegin_begun (F.RELOC_CTRL_SRC.of v) (F.RELOC_CTRL_DST.of v) ((Act.store .RELOC_CTRL v).run s)
  have hclock : ((Act.store .RELOC_CTRL v).run s).clk = s.clk := (hstore s).parts .clk (by decide)
  rw [State.oneClock_congr ((hstore s).parts .fab (by decide))] at hmarks
  rw [hclock] at hrel
  have haccept : Within [] [] [.resp] .accept := .accept
  refine ⟨_, rfl, ?_⟩
  rw [hrun, heffect]
  generalize (Act.relocBegin (F.RELOC_CTRL_SRC.of v) (F.RELOC_CTRL_DST.of v)).run ((Act.store .RELOC_CTRL v).run s) = t at hmarks hrel hrepair
  obtain ⟨hstate, hsrc, hdst, hclk⟩ := hmarks.of_touches (haccept t)
  have hlt : ((s.oneClock (F.RELOC_CTRL_SRC.of v)).map Fin.val).getD 0 < 8 := by
    cases s.oneClock (F.RELOC_CTRL_SRC.of v) with
    | none => decide
    | some i => exact i.isLt
  exact ⟨rfl, hstate, hsrc.trans (Nat.mod_eq_of_lt (F.RELOC_CTRL_SRC.of_lt v)), hdst.trans (Nat.mod_eq_of_lt (F.RELOC_CTRL_DST.of_lt v)), hrel,
    hclk.trans (Nat.mod_eq_of_lt hlt), ((haccept t).b_eq 0 0 0).trans hrepair⟩

theorem State.relocBar_lt (s : State) (a b : Nat) : s.relocBar a b < 16 := by
  unfold State.relocBar
  split_ifs <;> decide

theorem relocStart_refused (hw : s.takesReg src .RELOC_CTRL) (habort : v.getLsbD 13 = false) (hstart : v.getLsbD 12 = true)
    (hbar : s.relocBar (F.RELOC_CTRL_SRC.of v) (F.RELOC_CTRL_DST.of v) ≠ 0) : AnswersThenModes (.relocStart src v) s fun u =>
      (u.resp = .error ∧ Counted F.FAULT_REFUSED_COUNT s u) ∧
      u.f F.RELOC_STATUS_RESULT = s.relocBar (F.RELOC_CTRL_SRC.of v) (F.RELOC_CTRL_DST.of v) ∧ u.relState = s.relState ∧
      NamesKept [.RELOC_STATUS, .FAULT_REFUSED, .FAB_PORT_ERR] s u ∧ OnlyRegs s u := by
  have heffect : (Act.relocCtrl v).run s = (Act.all [.setF F.RELOC_STATUS_RESULT (s.relocBar (F.RELOC_CTRL_SRC.of v) (F.RELOC_CTRL_DST.of v)),
      .faultRefuse]).run s := by
    simp only [Act.relocCtrl, Act.look_run, habort, hstart, hbar, Bool.false_eq_true, if_false, Bool.not_true, ne_eq, not_false_eq_true, if_true]
  have hlt := s.relocBar_lt (F.RELOC_CTRL_SRC.of v) (F.RELOC_CTRL_DST.of v)
  generalize s.relocBar (F.RELOC_CTRL_SRC.of v) (F.RELOC_CTRL_DST.of v) = bar at heffect hlt
  have hrun : (Act.writeTo src .RELOC_CTRL 0 0 0 (.relocCtrl v)).run s =
      (Act.all [.faultRefuse, .masterCount src]).run ((Act.setF F.RELOC_STATUS_RESULT bar).run s) := by
    rw [Act.writeTo_run hw, heffect]
    rfl
  have hset : Within [.RELOC_STATUS, .FAULT_REFUSED, .FAB_PORT_ERR] [] [.resp] (.setF F.RELOC_STATUS_RESULT bar) := .setF
  have hrefuse : Within [.FAULT_REFUSED, .FAB_PORT_ERR] [] [.resp] (.all [.faultRefuse, .masterCount src]) := Act.refuse_within F.FAULT_REFUSED_COUNT 0 0 src
  have htouch := (hset s).trans ((hrefuse _).mono)
  refine ⟨_, rfl, ?_⟩
  rw [hrun]
  refine ⟨⟨?_, ?_⟩, ?_, ?_, htouch.namesKept, htouch.rest⟩
  · rw [Act.all_cons_run, Act.all_cons_run, Act.all_nil_run, Act.masterCount_resp]
    rfl
  · rw [Counted, Act.all_cons_run, Act.all_cons_run, Act.all_nil_run, Act.masterCount_f _ _ _ _ _ (by decide)]
    have hcount := Act.count_f_same F.FAULT_REFUSED_COUNT 0 0 ((Act.setF F.RELOC_STATUS_RESULT bar).run s) (by decide) (by decide)
    rw [Act.setF_f_spared _ _ _ _ _ _ _ _ (by decide) (by decide)] at hcount
    exact hcount
  · exact ((hrefuse _).f_eq 0 0 0).trans ((Act.setF_f_same _ _ _ _ _ _ (by decide) (by decide)).trans (Nat.mod_eq_of_lt hlt))
  · exact ((hrefuse _).f_eq 0 0 0).trans (Act.setF_f_spared _ _ _ _ _ _ _ _ (by decide) (by decide))

/-! ### The relocation fails -/

/-- The result of a relocation that failed is in its registers. -/
def Act.relocResult (result : Nat) : Act := .all [.setF F.RELOC_STATUS_STATE relIdle, .setF F.RELOC_STATUS_RESULT result,
  .setB F.FAULT_EVENTS_RELOC_FAILED true]

/-- What follows the result: the log entry, and FAULT.STATUS.REPAIRING. -/
def Act.relocReport (a b result micros : Nat) : Act := .all [.logReloc a b result micros, .setRel fun x => { x with auto := none }, .repairing]

theorem Act.relocFail_run (a b result : Nat) (s : State) : (Act.relocFail a b result).run s =
    (Act.relocReport a b result (if s.relState = relCopying ∨ s.relState = relWaiting then s.relMicros else 0)).run
      ((Act.relocResult result).run s) := by
  simp only [Act.relocFail, Act.relocReport, Act.relocResult, Act.look_run, Act.all_cons_run, Act.all_nil_run]

theorem Leaves.relocReport {f : Fld} {micros : Nat} (h : F.FAULT_EVENTS_LOG_OVERFLOW.spares f = true := by decide) (hm : f.inMask = true := by decide)
    (hf : f.name ≠ .FAULT_STATUS := by decide) : Leaves f (.relocReport a b result micros) :=
  .all ⟨.logMulti h hm hf, .upd fun _ => rfl, .of_within Within.repairing (by simpa using hf)⟩

/-- A relocation has failed with a result. -/
def RelocFailed (result : Nat) (t : State) : Prop :=
  t.relState = relIdle ∧ t.f F.RELOC_STATUS_RESULT = result ∧ t.b F.FAULT_EVENTS_RELOC_FAILED = true

theorem Act.relocFail_fails (hr : result < 16) (s : State) : RelocFailed result ((Act.relocFail a b result).run s) := by
  rw [Act.relocFail_run]
  generalize (if s.relState = relCopying ∨ s.relState = relWaiting then s.relMicros else 0) = micros
  have hstate : ((Act.relocResult result).run s).relState = relIdle := by simp +decide [Act.relocResult, State.relState]
  have hresult : ((Act.relocResult result).run s).f F.RELOC_STATUS_RESULT = result := by
    simp +decide [Act.relocResult]
    exact Nat.mod_eq_of_lt hr
  have hevent : ((Act.relocResult result).run s).b F.FAULT_EVENTS_RELOC_FAILED = true := by simp +decide [Act.relocResult, State.b]
  have hleaves : ∀ {f : Fld}, F.FAULT_EVENTS_LOG_OVERFLOW.spares f = true → f.inMask = true → f.name ≠ .FAULT_STATUS →
      Leaves f (.relocReport a b result micros) := fun h hm hf => .relocReport h hm hf
  exact ⟨(hleaves (by decide) (by decide) (by decide) _ 0 0 0).trans hstate, (hleaves (by decide) (by decide) (by decide) _ 0 0 0).trans hresult,
    ((hleaves (by decide) (by decide) (by decide)).b _ 0 0 0).trans hevent⟩

/-- The target of a relocation that ends before the edge is held, with nothing loaded. -/
def Act.relocDrop (b : Nat) : Act := .all [.regionInit b, .setFab fun f => { f with bram := tabDrop f.bram (b * 4096) 4096 },
  .setBit F.CFG_HOLD_HOLD b, .clrBit F.CFG_RESERVE_LOADED_LOADED b]

/-- The relocation of `s` has ended before its edge. -/
def RelocBroken (result : Nat) (s t : State) : Prop := RelocFailed result t ∧ t.bit F.CFG_HOLD_HOLD s.relDst = true ∧
  t.bit F.CFG_RESERVE_LOADED_LOADED s.relDst = false ∧ t.fab.cfg = s.fab.cfg

theorem Act.relocDrop_cfg (b : Nat) (s : State) : ((Act.relocDrop b).run s).fab.cfg = s.fab.cfg := by
  have hbits : Within [.CFG_HOLD, .CFG_RESERVE_LOADED] [] [] (.all [.setBit F.CFG_HOLD_HOLD b, .clrBit F.CFG_RESERVE_LOADED_LOADED b]) :=
    .all ⟨.setBit, .clrBit⟩
  have hfab : ∀ u : State, ((Act.all [.setBit F.CFG_HOLD_HOLD b, .clrBit F.CFG_RESERVE_LOADED_LOADED b]).run u).fab = u.fab := fun u =>
    (hbits u).parts .fab (by decide)
  rw [Act.relocDrop, Act.all_cons_run, Act.all_cons_run, hfab]
  rfl

theorem Act.relocBreak_breaks (hrel : s.relocating = true) (hr : result < 16) : RelocBroken result s ((Act.relocBreak result).run s) := by
  have hrun : (Act.relocBreak result).run s = (Act.relocFail s.relSrc s.relDst result).run ((Act.relocDrop s.relDst).run s) := by
    rw [Act.relocBreak, Act.look_run, hrel]
    rfl
  have hlt := s.relDst_lt
  have hhold : ((Act.relocDrop s.relDst).run s).bit F.CFG_HOLD_HOLD s.relDst = true := by
    rw [Act.relocDrop, Act.all_cons_run, Act.all_cons_run, Act.all_bit_head]
    · exact Act.setBit_bit_same F.CFG_HOLD_HOLD s.relDst 0 0 0 _ (by decide) (by decide) hlt
    · exact .all (by exact .clrBit)
  have hloaded : ((Act.relocDrop s.relDst).run s).bit F.CFG_RESERVE_LOADED_LOADED s.relDst = false := by
    rw [Act.relocDrop, Act.all_cons_run, Act.all_cons_run, Act.all_cons_run, Act.all_cons_run, Act.all_nil_run]
    exact Act.clrBit_bit_same F.CFG_RESERVE_LOADED_LOADED s.relDst 0 0 0 _ (by decide) (by decide) hlt
  have hcfg := Act.relocDrop_cfg s.relDst s
  rw [hrun]
  generalize (Act.relocDrop s.relDst).run s = t at hhold hloaded hcfg
  have hfail := Within.relocFail (a := s.relSrc) (b := s.relDst) (result := result) t
  exact ⟨Act.relocFail_fails hr t, (hfail.bit_eq s.relDst 0 0 0).trans hhold, (hfail.bit_eq s.relDst 0 0 0).trans hloaded,
    (congrArg FabSt.cfg (hfail.parts .fab (by decide))).trans hcfg⟩

theorem RelocBroken.of_store (h : RelocBroken result ((Act.store .RELOC_CTRL v).run s) t) : RelocBroken result s t := by
  have hstore : Within [.RELOC_CTRL] [] [] (.store .RELOC_CTRL v) := .store
  have hdst : ((Act.store .RELOC_CTRL v).run s).relDst = s.relDst := (hstore s).f_eq 0 0 0
  have hfab := (hstore s).parts .fab (by decide)
  obtain ⟨hfailed, hhold, hloaded, hcfg⟩ := h
  rw [hdst] at hhold hloaded
  exact ⟨hfailed, hhold, hloaded, hcfg.trans (congrArg FabSt.cfg hfab)⟩

theorem Act.relocCtrl_aborts (habort : v.getLsbD 13 = true) (hstate : s.relState ≠ relLoading) : (Act.relocCtrl v).run s =
    Act.accept.run ((Act.relocBreak 9).run ((Act.store .RELOC_CTRL v).run s)) := by
  have hstore : Within [.RELOC_CTRL] [] [] (.store .RELOC_CTRL v) := .store
  have hsame : ((Act.store .RELOC_CTRL v).run s).relState = s.relState := (hstore s).f_eq 0 0 0
  simp only [Act.relocCtrl, Act.look_run, habort, if_true, Act.all_cons_run, Act.all_nil_run, Act.relocAbort, hsame, hstate, if_false]

theorem State.relocating_congr {t : State} (hregs : t.f F.RELOC_STATUS_STATE = s.f F.RELOC_STATUS_STATE) (hrel : t.rel = s.rel) :
    t.relocating = s.relocating := by rw [State.relocating, State.relocating, hregs, hrel]

theorem relocAbort_breaks (hw : s.takesReg src .RELOC_CTRL) (habort : v.getLsbD 13 = true) (hrel : s.relocating = true)
    (hstate : s.relState ≠ relLoading) : Answers (.relocAbort src v) s fun t => t.resp = .ok 0 ∧ RelocBroken 9 s t := by
  have heffect := Act.relocCtrl_aborts habort hstate
  have hrun := Act.writeTo_accepted (d := 0) hw (a := Act.relocCtrl v) (by rw [heffect]; rfl)
  have hstore : Within [.RELOC_CTRL] [] [] (.store .RELOC_CTRL v) := .store
  have hsame := State.relocating_congr ((hstore s).f_eq 0 0 0) ((hstore s).parts .rel (by decide))
  have hbroken := (Act.relocBreak_breaks (result := 9) (hsame.trans hrel) (by decide)).of_store
  refine ⟨_, rfl, ?_⟩
  rw [hrun, heffect]
  exact ⟨rfl, hbroken⟩

theorem relocAbort_idle (hw : s.takesReg src .RELOC_CTRL) (habort : v.getLsbD 13 = true) (hrel : s.relocating = false)
    (hstate : s.relState ≠ relLoading) : Answers (.relocAbort src v) s fun t =>
      t.resp = .ok 0 ∧ RegsKept [⟨.RELOC_CTRL, 0, 0, 0⟩] s t ∧ OnlyRegs s t := by
  have hstore : Within [] [⟨.RELOC_CTRL, 0, 0, 0⟩] [.resp] (.store .RELOC_CTRL v) := .storeAt
  have hnames : Within [.RELOC_CTRL] [] [] (.store .RELOC_CTRL v) := .store
  have hsame := State.relocating_congr ((hnames s).f_eq 0 0 0) ((hnames s).parts .rel (by decide))
  have heffect : (Act.relocCtrl v).run s = Act.accept.run ((Act.store .RELOC_CTRL v).run s) := by
    rw [Act.relocCtrl_aborts habort hstate, Act.relocBreak, Act.look_run, hsame.trans hrel, Act.when_false_run]
  have hrun := Act.writeTo_accepted (d := 0) hw (a := Act.relocCtrl v) (by rw [heffect]; rfl)
  have haccept : Within [] [⟨.RELOC_CTRL, 0, 0, 0⟩] [.resp] .accept := .accept
  have htouch := (hstore s).trans (haccept _)
  refine ⟨_, rfl, ?_⟩
  rw [hrun, heffect]
  exact ⟨rfl, htouch.regsKept, htouch.rest⟩

theorem relocStalled_breaks (hrel : s.relocating = true) (hlate : s.relocLate = true) : Answers .relocStalled s (RelocBroken 8 s) := by
  have hrun : Act.relocStalled.run s = (Act.relocBreak 8).run s := by rw [Act.relocStalled, Act.look_run, hlate, Act.when_true_run]
  refine ⟨_, rfl, ?_⟩
  rw [hrun]
  exact Act.relocBreak_breaks hrel (by decide)

theorem relocStalled_waits (h : s.relocating = false ∨ s.relocLate = false) : Answers .relocStalled s fun t => t = s := by
  refine ⟨_, rfl, ?_⟩
  rw [Act.relocStalled, Act.look_run]
  rcases h with h | h
  · rw [Act.relocBreak]
    cases s.relocLate
    · rfl
    · rw [Act.when_true_run, Act.look_run, h, Act.when_false_run]
  · rw [h, Act.when_false_run]

/-! ### The steps of a relocation -/

theorem relocCopyDone_waits (hstate : s.relState = relCopying) : Answers .relocCopyDone s fun t =>
    t.relState = relWaiting ∧ t.rel = { s.rel with copied := s.clk } ∧ RegsKept [⟨.RELOC_STATUS, 0, 0, 0⟩] s t ∧
    t = { s with regs := t.regs, rel := t.rel, fab := t.fab } := by
  have hrun : Act.relocCopied.run s = (Act.setRel fun x => { x with copied := s.clk }).run
      ((Act.setF F.RELOC_STATUS_STATE relWaiting).run ((Act.copyRams s.relSrc s.relDst).run s)) := by
    simp only [Act.relocCopied, Act.look_run, hstate, beq_self_eq_true, Act.when_true_run, Act.all_cons_run, Act.all_nil_run]
  have hcopy := Within.copyRams (a := s.relSrc) (b := s.relDst) s
  have htail : Within [] [⟨.RELOC_STATUS, 0, 0, 0⟩] [.rel, .fab] (.all [.setF F.RELOC_STATUS_STATE relWaiting,
      .setRel fun x => { x with copied := s.clk }]) := .all ⟨.setFAt, .setRel⟩
  have htouch := (hcopy.mono (l' := []) (rs' := [⟨.RELOC_STATUS, 0, 0, 0⟩]) (ps' := [.rel, .fab])).trans (htail _)
  have hrel := hcopy.parts .rel (by decide)
  refine ⟨_, rfl, ?_⟩
  rw [hrun]
  generalize (Act.copyRams s.relSrc s.relDst).run s = u at htouch hrel
  refine ⟨?_, ?_, htouch.regsKept, htouch.rest⟩
  · exact Act.setF_f_same F.RELOC_STATUS_STATE relWaiting 0 0 0 u (by decide) (by decide)
  · show ({ u.rel with copied := s.clk } : RelocSt) = _
    rw [hrel]

theorem relocHandover_hands (hstate : s.relState = relWaiting) (hover : s.rel.over_ = false)
    (hclk : s.fclkLocked (s.f F.RELOC_STATUS_HCLK) = true) (hdue : s.rel.copied + 4 ≤ s.clk) : Answers .relocHandover s fun t =>
      t.rel.over_ = true ∧ t.bit F.CFG_HOLD_HOLD s.relDst = false ∧ t.relState = relWaiting ∧ RegsKept [⟨.CFG_HOLD, 0, 0, 0⟩] s t ∧
      t = { s with regs := t.regs, rel := t.rel, fab := t.fab } := by
  have hrun : Act.relocHandover.run s = (Act.all [.clrBit F.CFG_HOLD_HOLD s.relDst, .setRel fun x => { x with over_ := true, edgeAt := s.clk }]).run
      ((Act.all [.copyRams s.relSrc s.relDst, .moveState s.relSrc s.relDst, .moveTables s.relSrc s.relDst,
        .moveOutbound (s.relSrc / 16) (s.relSrc % 16) (s.relDst % 16)]).run s) := by
    simp only [Act.relocHandover, Act.look_run, hstate, hover, hclk, decide_eq_true hdue, beq_self_eq_true, Bool.not_false, Bool.and_self,
      Act.when_true_run, Act.all_cons_run, Act.all_nil_run]
  have hmove : Within [] [] [.fab] (.all [.copyRams s.relSrc s.relDst, .moveState s.relSrc s.relDst, .moveTables s.relSrc s.relDst,
      .moveOutbound (s.relSrc / 16) (s.relSrc % 16) (s.relDst % 16)]) := .all ⟨.copyRams, .moveState, .moveTables, .moveOutbound⟩
  have hfree : Within [] [⟨.CFG_HOLD, 0, 0, 0⟩] [.rel, .fab] (.all [.clrBit F.CFG_HOLD_HOLD s.relDst,
      .setRel fun x => { x with over_ := true, edgeAt := s.clk }]) := .all ⟨.clrBitAt, .setRel⟩
  have htouch := ((hmove s).mono (l' := []) (rs' := [⟨.CFG_HOLD, 0, 0, 0⟩]) (ps' := [.rel, .fab])).trans (hfree _)
  have hkept := (hmove s).f_eq (f := F.RELOC_STATUS_STATE) 0 0 0
  refine ⟨_, rfl, ?_⟩
  rw [hrun]
  generalize (Act.all [.copyRams s.relSrc s.relDst, .moveState s.relSrc s.relDst, .moveTables s.relSrc s.relDst,
    .moveOutbound (s.relSrc / 16) (s.relSrc % 16) (s.relDst % 16)]).run s = u at htouch hkept
  refine ⟨rfl, Act.clrBit_bit_same F.CFG_HOLD_HOLD s.relDst 0 0 0 u (by decide) (by decide) s.relDst_lt, ?_, htouch.regsKept, htouch.rest⟩
  exact ((hfree.byName (l := [.CFG_HOLD]) (by simp) u).f_eq 0 0 0).trans (hkept.trans hstate)

/-! ### The retirement of the source -/

/-- The source is held and retired, and the target is no reserve any more. -/
def Act.relocSwap (a b : Nat) : Act := .all [.setBit F.CFG_HOLD_HOLD a, .regionInit a, .setBit F.FAULT_RETIRED_RETIRED a,
  .clrBit F.CFG_RESERVE_RESERVE b, .clrBit F.CFG_RESERVE_LOADED_LOADED b]

/-- Flash names the replacement. -/
def Act.relocStored (a b : Nat) : Act := .upd fun s => { s with flash := { s.flash with
  retired := assocSet s.flash.retired a b, unretire := s.flash.unretire.filter (fun x => x != a) } }

/-- The entries of FAULT.RELOC_LIB follow. -/
def Act.relocLibs (a b lib valid : Nat) : Act := .all [.setF F.RELOC_LIB_LIB lib b, .setF F.RELOC_LIB_VALID valid b,
  .setB F.RELOC_LIB_REPLACED true a, .setF F.RELOC_LIB_REPLACED_BY b a, .setF F.RELOC_LIB_HOLDS 0 b, .setB F.RELOC_LIB_HOLDS_VALID false b]

/-- The relocation has ended well. -/
def Act.relocDone : Act := .all [.setF F.RELOC_STATUS_STATE relIdle, .setF F.RELOC_STATUS_RESULT 0, .setB F.FAULT_EVENTS_RELOC_DONE true]

theorem Act.relocRetire_run (hstate : s.relState = relWaiting) (hover : s.rel.over_ = true) (hdue : s.rel.edgeAt + 12 ≤ s.clk) :
    Act.relocRetire.run s = (Act.all [.repairing, .logReloc s.relSrc s.relDst 0 s.relMicros]).run (Act.relocDone.run
      ((Act.relocLibs s.relSrc s.relDst (s.f F.RELOC_LIB_LIB s.relSrc) (s.f F.RELOC_LIB_VALID s.relSrc)).run
        ((Act.relocStored s.relSrc s.relDst).run ((Act.relocSwap s.relSrc s.relDst).run s)))) := by
  simp only [Act.relocRetire, Act.look_run, hstate, hover, decide_eq_true hdue, beq_self_eq_true, Bool.and_self, Act.when_true_run,
    Act.relocSwap, Act.relocStored, Act.relocLibs, Act.relocDone, Act.all_cons_run, Act.all_nil_run]

theorem Within.relocSwap : Within [.CFG_HOLD, .FAULT_RETIRED, .CFG_RESERVE, .CFG_RESERVE_LOADED] [] [.fab] (.relocSwap a b) :=
  .all ⟨.setBit, Within.regionInit.mono, .setBit, .clrBit, .clrBit⟩
theorem Within.relocStored : Within [] [] [.flash] (.relocStored a b) := .updPart .flash (fun _ => rfl) (fun _ => rfl) (by decide)
theorem Within.relocLibs {lib valid : Nat} : Within [.RELOC_LIB] [] [] (.relocLibs a b lib valid) := .all ⟨.setF, .setF, .setB, .setF, .setF, .setB⟩
theorem Within.relocDone : Within [.RELOC_STATUS, .FAULT_EVENTS] [] [] .relocDone := .all ⟨.setF, .setF, .setB⟩

/-- The regions as the retirement leaves them. -/
def RelocSwapped (a b : Nat) (t : State) : Prop := t.bit F.CFG_HOLD_HOLD a = true ∧ t.retired a = true ∧
  t.bit F.CFG_RESERVE_RESERVE b = false ∧ t.bit F.CFG_RESERVE_LOADED_LOADED b = false

theorem Act.relocSwap_swapped (ha : a < 32) (hb : b < 32) (s : State) : RelocSwapped a b ((Act.relocSwap a b).run s) := by
  refine ⟨?_, ?_, ?_, ?_⟩
  · rw [Act.relocSwap, Act.all_bit_head]
    · exact Act.setBit_bit_same F.CFG_HOLD_HOLD a 0 0 0 _ (by decide) (by decide) ha
    · exact .all ⟨.of_within Within.regionInit, .setBit, .clrBit, .clrBit⟩
  · rw [State.retired, Act.relocSwap, Act.all_cons_run, Act.all_cons_run, Act.all_bit_head]
    · exact Act.setBit_bit_same F.FAULT_RETIRED_RETIRED a 0 0 0 _ (by decide) (by decide) ha
    · exact .all ⟨.clrBit, .clrBit⟩
  · rw [Act.relocSwap, Act.all_cons_run, Act.all_cons_run, Act.all_cons_run, Act.all_bit_head]
    · exact Act.clrBit_bit_same F.CFG_RESERVE_RESERVE b 0 0 0 _ (by decide) (by decide) hb
    · exact .all (by exact .clrBit)
  · rw [Act.relocSwap, Act.all_cons_run, Act.all_cons_run, Act.all_cons_run, Act.all_cons_run, Act.all_cons_run, Act.all_nil_run]
    exact Act.clrBit_bit_same F.CFG_RESERVE_LOADED_LOADED b 0 0 0 _ (by decide) (by decide) hb

/-- FAULT.RELOC_LIB as the retirement leaves it. -/
def RelocListed (a b lib : Nat) (t : State) : Prop :=
  t.f F.RELOC_LIB_REPLACED_BY a = b ∧ t.b F.RELOC_LIB_REPLACED a = true ∧ t.f F.RELOC_LIB_LIB b = lib

theorem Act.relocLibs_listed {lib valid : Nat} (ha : a < 32) (hb : b < 32) (hlib : lib < 32) (s : State) :
    RelocListed a b lib ((Act.relocLibs a b lib valid).run s) := by
  have hva : RegRef.valid ⟨.RELOC_LIB, a, 0, 0⟩ = true := RegRef.valid_of ha
  have hvb : RegRef.valid ⟨.RELOC_LIB, b, 0, 0⟩ = true := RegRef.valid_of hb
  refine ⟨?_, ?_, ?_⟩
  · rw [Act.relocLibs, Act.all_cons_run, Act.all_cons_run, Act.all_cons_run, Act.all_f_head]
    · exact (Act.setF_f_same F.RELOC_LIB_REPLACED_BY b a 0 0 _ hva (by decide)).trans (Nat.mod_eq_of_lt hb)
    · exact .all ⟨.setF, .setB⟩
  · rw [Act.relocLibs, Act.all_cons_run, Act.all_cons_run, Act.all_b_head]
    · exact Act.setB_b_same F.RELOC_LIB_REPLACED true a 0 0 _ hva (by decide) (by decide)
    · exact .all ⟨.setF, .setF, .setB⟩
  · rw [Act.relocLibs, Act.all_f_head]
    · exact (Act.setF_f_same F.RELOC_LIB_LIB lib b 0 0 _ hvb (by decide)).trans (Nat.mod_eq_of_lt hlib)
    · exact .all ⟨.setF, .setB, .setF, .setF, .setB⟩

theorem relocRetire_retires (hstate : s.relState = relWaiting) (hover : s.rel.over_ = true) (hdue : s.rel.edgeAt + 12 ≤ s.clk) :
    AnswersThenModes .relocRetire s fun u =>
      (u.relState = relIdle ∧ u.f F.RELOC_STATUS_RESULT = 0 ∧ u.b F.FAULT_EVENTS_RELOC_DONE = true) ∧ RelocSwapped s.relSrc s.relDst u ∧
      RelocListed s.relSrc s.relDst (s.f F.RELOC_LIB_LIB s.relSrc) u ∧ assoc u.flash.retired s.relSrc = some s.relDst := by
  have hswap := Act.relocSwap_swapped s.relSrc_lt s.relDst_lt s
  refine ⟨_, rfl, ?_⟩
  rw [Act.relocRetire_run hstate hover hdue]
  generalize (Act.relocSwap s.relSrc s.relDst).run s = t1 at hswap
  have hflash : assoc ((Act.relocStored s.relSrc s.relDst).run t1).flash.retired s.relSrc = some s.relDst := assoc_assocSet_same _ _ _
  have hst := Within.relocStored (a := s.relSrc) (b := s.relDst) t1
  generalize (Act.relocStored s.relSrc s.relDst).run t1 = t2 at hflash hst
  have hlibs := Act.relocLibs_listed (valid := s.f F.RELOC_LIB_VALID s.relSrc) s.relSrc_lt s.relDst_lt
    (show s.f F.RELOC_LIB_LIB s.relSrc < 32 from F.RELOC_LIB_LIB.of_lt _) t2
  have hlb := Within.relocLibs (a := s.relSrc) (b := s.relDst) (lib := s.f F.RELOC_LIB_LIB s.relSrc) (valid := s.f F.RELOC_LIB_VALID s.relSrc) t2
  generalize (Act.relocLibs s.relSrc s.relDst (s.f F.RELOC_LIB_LIB s.relSrc) (s.f F.RELOC_LIB_VALID s.relSrc)).run t2 = t3 at hlibs hlb
  have hdone := Within.relocDone t3
  have hends : (Act.relocDone.run t3).relState = relIdle ∧ (Act.relocDone.run t3).f F.RELOC_STATUS_RESULT = 0 ∧
      (Act.relocDone.run t3).b F.FAULT_EVENTS_RELOC_DONE = true := by
    refine ⟨?_, ?_, ?_⟩
    · simp +decide [Act.relocDone, State.relState]
    · simp +decide [Act.relocDone]
    · simp +decide [Act.relocDone, State.b]
  generalize Act.relocDone.run t3 = t4 at hdone hends
  have htail : Within [.FAULT_STATUS, .FAULT_EVENTS] [] [.log, .seed] (.all [.repairing, .logReloc s.relSrc s.relDst 0 s.relMicros]) :=
    .all ⟨Within.repairing.mono, Within.log⟩
  have hevent : Leaves F.FAULT_EVENTS_RELOC_DONE (.all [.repairing, .logReloc s.relSrc s.relDst 0 s.relMicros]) :=
    .all ⟨.of_within Within.repairing, .logMulti (by decide) (by decide) (by decide)⟩
  have htail := htail t4
  obtain ⟨hidle, hresult, hdone4⟩ := hends
  obtain ⟨hhold, hretired, hreserve, hloaded⟩ := hswap
  obtain ⟨hby, hreplaced, hlib⟩ := hlibs
  have hsame : Touches [.RELOC_LIB, .RELOC_STATUS, .FAULT_EVENTS, .FAULT_STATUS] [] [.flash, .log, .seed] t1 _ :=
    ((hst.mono.trans hlb.mono).trans hdone.mono).trans htail.mono
  have hlist : Touches [.RELOC_STATUS, .FAULT_EVENTS, .FAULT_STATUS] [] [.log, .seed] t3 _ := hdone.mono.trans htail.mono
  refine ⟨⟨(htail.f_eq 0 0 0).trans hidle, (htail.f_eq 0 0 0).trans hresult, (hevent.b t4 0 0 0).trans hdone4⟩,
    ⟨(hsame.bit_eq _ 0 0 0).trans hhold, (hsame.bit_eq _ 0 0 0).trans hretired, (hsame.bit_eq _ 0 0 0).trans hreserve,
      (hsame.bit_eq _ 0 0 0).trans hloaded⟩,
    ⟨(hlist.f_eq _ 0 0).trans hby, (hlist.b_eq _ 0 0).trans hreplaced, (hlist.f_eq _ 0 0).trans hlib⟩, ?_⟩
  have hkept := (hlist.parts .flash (by decide)).trans (hlb.parts .flash (by decide))
  rw [hkept]
  exact hflash

/-! ### Relocation without a request -/

/-- A region waits until its reserve is loaded. -/
def Act.relocAwaits (r n : Reg) : Act := .all [.setF F.RELOC_STATUS_STATE relLoading, .setF F.RELOC_STATUS_SRC r, .setF F.RELOC_STATUS_DST n,
  .setRel fun x => { x with auto := some r }]

theorem Act.relocAwaits_load {r n : Reg} : ((Act.relocAwaits r n).run s).load = s.load :=
  have hin : Within [.RELOC_STATUS] [] [.rel] (.relocAwaits r n) := .all ⟨.setF, .setF, .setF, .setRel⟩
  (hin s).parts .load (by decide)

section
variable {r : Reg} (hon : s.b F.FAULT_CFG_AUTO_RELOC = true) (hrepair : s.mode repair = true) (hflag : s.flagged r = true)
  (hvalid : s.b F.RELOC_LIB_VALID r = true) (hidle : s.relState = relIdle) (hforced : s.b F.SYS_MODE_EFF_REDUCED_FORCED = false)
include hon hrepair hflag hvalid hidle hforced

theorem autoReloc_parked (hparked : s.mode parked = true) : Answers (.autoReloc r) s (RelocFailed 3) := by
  have hrun : (Act.autoReloc r).run s = (Act.relocFail r r 3).run s := by
    simp only [Act.autoReloc, Act.look_run, hon, hrepair, hflag, hvalid, hidle, hforced, hparked, beq_self_eq_true, Bool.and_self, Act.when_true_run,
      if_true, Bool.false_eq_true, if_false]
  refine ⟨_, rfl, ?_⟩
  rw [hrun]
  exact Act.relocFail_fails (by decide) s

theorem autoReloc_none (hparked : s.mode parked = false) (hnone : s.reservesOf r = []) : Answers (.autoReloc r) s (RelocFailed 4) := by
  have hrun : (Act.autoReloc r).run s = (Act.relocFail r r 4).run s := by
    simp only [Act.autoReloc, Act.look_run, hon, hrepair, hflag, hvalid, hidle, hforced, hparked, hnone, beq_self_eq_true, Bool.and_self,
      Act.when_true_run, Bool.false_eq_true, if_false, List.find?_nil]
  refine ⟨_, rfl, ?_⟩
  rw [hrun]
  exact Act.relocFail_fails (by decide) s

theorem autoReloc_loads (n : Reg) (hparked : s.mode parked = false) (hone : s.reservesOf r = [n.val])
    (hloaded : s.bit F.CFG_RESERVE_LOADED_LOADED n = false) (hbusy : s.load.op ≠ .none) : Answers (.autoReloc r) s fun t =>
      t.relState = relLoading ∧ t.relSrc = r ∧ t.relDst = n ∧ t.rel.auto = some r := by
  have hauto : (Act.autoReloc r).run s = Act.autoLoad.run ((Act.relocAwaits r n).run s) := by
    simp only [Act.autoReloc, Act.look_run, hon, hrepair, hflag, hvalid, hidle, hforced, hparked, hone, hloaded, beq_self_eq_true, Bool.and_self,
      Act.when_true_run, Bool.false_eq_true, if_false, List.find?_cons, List.find?_nil, Bool.false_and, Bool.not_false, Act.relocAwaits,
      Act.all_cons_run, Act.all_nil_run]
  have hload : ((Act.relocAwaits r n).run s).load = s.load := Act.relocAwaits_load
  have hwaits : Act.autoLoad.run ((Act.relocAwaits r n).run s) = (Act.relocAwaits r n).run s := by
    have hset : ((Act.relocAwaits r n).run s).rel.auto = some r := rfl
    rw [Act.autoLoad, Act.look_run, hset]
    dsimp only
    rw [hload, beq_eq_false_iff_ne.mpr hbusy, Bool.and_false, Act.when_false_run]
  refine ⟨_, rfl, ?_⟩
  rw [hauto, hwaits]
  refine ⟨?_, ?_, ?_, rfl⟩
  · simp +decide [Act.relocAwaits, State.relState]
  · simp +decide [Act.relocAwaits, State.relSrc]
    exact Nat.mod_eq_of_lt r.isLt
  · simp +decide [Act.relocAwaits, State.relDst]
    exact Nat.mod_eq_of_lt n.isLt
end

theorem autoReloc_waits {r : Reg} (h : s.b F.FAULT_CFG_AUTO_RELOC = false ∨ s.flagged r = false ∨ s.relState ≠ relIdle) :
    Answers (.autoReloc r) s fun t => t = s := by
  refine ⟨_, rfl, ?_⟩
  have hoff : (s.b F.FAULT_CFG_AUTO_RELOC && s.mode repair && s.flagged r && s.b F.RELOC_LIB_VALID r && s.relState == relIdle) = false := by
    rcases h with h | h | h
    · rw [h, Bool.false_and, Bool.false_and, Bool.false_and, Bool.false_and]
    · rw [h, Bool.and_false, Bool.false_and, Bool.false_and]
    · rw [beq_false_of_ne h, Bool.and_false]
  rw [Act.autoReloc, Act.look_run, hoff, Act.when_false_run]

/-! ### Region resets -/

theorem Act.regionReset_free (hload : s.loadingRegion r = false) (hrel : s.relocating = false) :
    (Act.regionReset r).run s = (Act.when (!s.regionHeld r && !s.retired r) (.regionInit r)).run s := by
  simp only [Act.regionReset, Act.look_run, hload, hrel, Bool.false_and, Act.all_cons_run, Act.all_nil_run, Act.when_false_run]

section
variable (hw : s.takesReg src .REGION_RESET) (hkey : F.REGION_RESET_KEY.of v = 0xC3)
include hw hkey

theorem Act.regionResetWrite_resets (hreset : F.REGION_RESET_RESET.of v = 1) (hunretire : F.REGION_RESET_UNRETIRE.of v = 0) :
    (Act.writeTo src .REGION_RESET 0 0 0 (.regionResetWrite v)).run s =
      Act.accept.run ((Act.regionReset (F.REGION_RESET_REGION.of v)).run s) := by
  have heffect : (Act.regionResetWrite v).run s = Act.accept.run ((Act.regionReset (F.REGION_RESET_REGION.of v)).run s) := by
    simp only [Act.regionResetWrite, Act.look_run, hkey, hreset, hunretire, ne_eq, not_true_eq_false, if_false, beq_self_eq_true,
      Act.all_cons_run, Act.all_nil_run, Act.when_true_run]
    rfl
  rw [Act.writeTo_accepted (d := 0) hw (a := Act.regionResetWrite v) (by rw [heffect]; rfl), heffect]

theorem regionReset_starts (hreset : F.REGION_RESET_RESET.of v = 1) (hunretire : F.REGION_RESET_UNRETIRE.of v = 0)
    (hload : s.loadingRegion (F.REGION_RESET_REGION.of v) = false) (hrel : s.relocating = false)
    (hheld : s.regionHeld (F.REGION_RESET_REGION.of v) = false) (hretired : s.retired (F.REGION_RESET_REGION.of v) = false) :
    Answers (.regionReset src v) s fun t => t = { (Act.regionInit (F.REGION_RESET_REGION.of v)).run s with resp := .ok 0 } := by
  refine ⟨_, rfl, ?_⟩
  rw [Act.regionResetWrite_resets hw hkey hreset hunretire, Act.regionReset_free hload hrel, hheld, hretired]
  rfl

theorem regionReset_spares (hreset : F.REGION_RESET_RESET.of v = 1) (hunretire : F.REGION_RESET_UNRETIRE.of v = 0)
    (hload : s.loadingRegion (F.REGION_RESET_REGION.of v) = false) (hrel : s.relocating = false)
    (hheld : s.regionHeld (F.REGION_RESET_REGION.of v) = true ∨ s.retired (F.REGION_RESET_REGION.of v) = true) :
    Answers (.regionReset src v) s fun t => t = { s with resp := .ok 0 } := by
  refine ⟨_, rfl, ?_⟩
  have hno : (!s.regionHeld (F.REGION_RESET_REGION.of v) && !s.retired (F.REGION_RESET_REGION.of v)) = false := by
    rcases hheld with h | h
    · rw [h, Bool.not_true, Bool.false_and]
    · rw [h, Bool.not_true, Bool.and_false]
  rw [Act.regionResetWrite_resets hw hkey hreset hunretire, Act.regionReset_free hload hrel, hno]
  rfl

/-- The region is among those that the next start reference unretires. -/
def Act.unretireNext (r : Nat) : Act :=
  .upd fun s => { s with flash := { s.flash with unretire := r :: s.flash.unretire.filter (fun x => x != r) } }

theorem unretire_records (hreset : F.REGION_RESET_RESET.of v = 0) (hunretire : F.REGION_RESET_UNRETIRE.of v = 1)
    (hretired : s.retired (F.REGION_RESET_REGION.of v) = true) : Answers (.unretire src v) s fun t =>
      t.resp = .ok 0 ∧ t.flash.unretire.contains (F.REGION_RESET_REGION.of v) = true ∧ t = { s with flash := t.flash, resp := t.resp } := by
  have heffect : (Act.regionResetWrite v).run s = (Act.all [.unretireNext (F.REGION_RESET_REGION.of v), .accept]).run s := by
    simp only [Act.regionResetWrite, Act.look_run, hkey, hreset, hunretire, hretired, ne_eq, not_true_eq_false, if_false, beq_self_eq_true,
      Bool.and_self, Act.all_cons_run, Act.all_nil_run, Act.when_true_run, Act.unretireNext]
    rfl
  have hrun := Act.writeTo_accepted (d := 0) hw (a := Act.regionResetWrite v) (by rw [heffect]; rfl)
  refine ⟨_, rfl, ?_⟩
  rw [hrun, heffect]
  refine ⟨rfl, ?_, rfl⟩
  show (F.REGION_RESET_REGION.of v :: _).contains (F.REGION_RESET_REGION.of v) = true
  rw [List.contains_cons, beq_self_eq_true, Bool.true_or]
end

theorem regionReset_refused (hw : s.takesReg src .REGION_RESET) (hkey : F.REGION_RESET_KEY.of v ≠ 0xC3) :
    Answers (.regionReset src v) s fun t => (t.resp = .error ∧ Counted F.FAULT_REFUSED_COUNT s t) ∧ OnlyRegs s t := by
  obtain ⟨hresp, hcount, -, honly⟩ := Act.writeTo_refused hw (a := Act.regionResetWrite v) (f := F.FAULT_REFUSED_COUNT)
    (by rw [Act.regionResetWrite, Act.look_run, if_pos hkey, Act.faultRefuse]) (by decide)
  exact ⟨_, rfl, ⟨hresp, hcount⟩, honly⟩

/-- Settles O51: each command by its lemma. -/
theorem relocation : Obligations.Relocation := by
  unfold Obligations.Relocation
  intro s src v r
  refine ⟨fun hw habort hstart => ⟨relocStart_starts hw habort hstart, fun hbar => ?_⟩,
    fun hw habort => ⟨fun hrel hstate => ?_, relocAbort_idle hw habort⟩, relocCopyDone_waits, fun hrel hlate => ?_, relocStalled_waits,
    relocHandover_hands, fun hstate hover hdue _ => ?_, fun hon hrepair hflag hvalid hidle =>
      ⟨fun hforced hparked => ?_, fun hforced hparked hnone => ?_, fun n hforced hparked hone hloaded hbusy =>
        autoReloc_loads hon hrepair hflag hvalid hidle hforced n hparked hone hloaded hbusy⟩,
    autoReloc_waits, fun hw => ⟨regionReset_starts hw, regionReset_spares hw, unretire_records hw, regionReset_refused hw⟩⟩
  · obtain ⟨u, hexec, ⟨hresp, hcount⟩, hresult, hstate, hnames, honly⟩ := relocStart_refused hw habort hstart hbar
    exact ⟨u, hexec, ⟨hresp, hcount⟩, hresult, hstate, hnames, honly⟩
  · obtain ⟨t, hexec, hresp, ⟨h1, h2, h3⟩, h4, h5, h6⟩ := relocAbort_breaks hw habort hrel hstate
    exact ⟨t, hexec, hresp, h1, h2, h3, h4, h5, h6⟩
  · obtain ⟨t, hexec, ⟨h1, h2, h3⟩, h4, h5, h6⟩ := relocStalled_breaks hrel hlate
    exact ⟨t, hexec, h1, h2, h3, h4, h5, h6⟩
  · obtain ⟨u, hexec, ⟨h1, h2, h3⟩, ⟨h4, h5, h6, h7⟩, ⟨h8, h9, h10⟩, h11⟩ := relocRetire_retires hstate hover hdue
    exact ⟨u, hexec, h1, h2, h3, h4, h5, h6, h7, h8, h9, h10, h11⟩
  · obtain ⟨t, hexec, hstate, hresult, hevent⟩ := autoReloc_parked hon hrepair hflag hvalid hidle hforced hparked
    exact ⟨t, hexec, hresult, hevent, hstate⟩
  · obtain ⟨t, hexec, hstate, hresult, hevent⟩ := autoReloc_none hon hrepair hflag hvalid hidle hforced hparked hnone
    exact ⟨t, hexec, hresult, hevent, hstate⟩

end Sys2Proof.Machine
end

section
-- One proof after another: elaborated side by side, the proofs of the whole text do not fit in the check's memory.
set_option Elab.async false
/-! The fabric's meetings with the module (R116 to R135). -/

namespace Sys2Proof.Machine

variable {s : State} {src : Src} {v : Word} {i : Fclk} {r : Reg} {k : Fin 4} {n : Fin 1024} {d : Die} {a : Fin 65536} {e : Eng} {t8 : Fin 8}
  {p : PortAccess} {l : List PortAccess} {c : Capture}

/-! ### Fabric clocks and block RAM -/

theorem Act.setBit_bit_apart {f : Fld} {b b' i j k : Nat} (hne : b' ≠ b) (hb : b' < f.width) (hv : RegRef.valid ⟨f.name, i, j, k⟩ = true)
    (hm : f.inMask = true) (s : State) : ((Act.setBit f b i j k).run s).bit f b' i j k = s.bit f b' i j k := by
  have hone : (1 <<< b).testBit b' = false := by rw [Nat.one_shiftLeft, Nat.testBit_two_pow_of_ne hne.symm]
  rw [State.bit, Act.setBit_run, Act.setF_f_same f _ i j k s hv hm, Nat.testBit_mod_two_pow, decide_eq_true hb, Bool.true_and, Nat.testBit_or, hone,
    Bool.or_false, State.bit]

theorem fclkLock_locks (hon : (s.synthWord i).getLsbD 31 = true) : Answers (.fclkLock i) s fun t =>
    t.fclkLocked i = true ∧ t.fab.phase[i] = 0 ∧ (∀ j : Fclk, j ≠ i → t.fclkLocked j = s.fclkLocked j) ∧
    RegsKept [⟨.FAB_CLK, 0, 0, 0⟩] s t ∧ t = { s with regs := t.regs, fab := t.fab } := by
  have hrun : (Act.fclkLock i).run s = (Act.setFab fun f => { f with phase := f.phase.set i 0 }).run ((Act.setBit F.FAB_CLK_LOCK i).run s) := by
    rw [Act.fclkLock, Act.look_run, hon]
    rfl
  have hin : Within [] [⟨.FAB_CLK, 0, 0, 0⟩] [.fab] (.all [.setBit F.FAB_CLK_LOCK i, .setFab fun f => { f with phase := f.phase.set i 0 }]) :=
    .all ⟨.setBitAt, .setFab⟩
  refine ⟨_, rfl, ?_⟩
  rw [hrun]
  refine ⟨Act.setBit_bit_same F.FAB_CLK_LOCK i 0 0 0 s (by decide) (by decide) i.isLt, ?_, fun j hj => ?_, (hin s).regsKept, (hin s).rest⟩
  · exact Vector.getElem_set_self _
  · exact Act.setBit_bit_apart (fun h => hj (Fin.ext h)) j.isLt (by decide) (by decide) s

theorem fclkLock_off (hoff : (s.synthWord i).getLsbD 31 = false) : Answers (.fclkLock i) s fun t => t = s := by
  refine ⟨_, rfl, ?_⟩
  rw [Act.fclkLock, Act.look_run, hoff, Act.when_false_run]

theorem fclkLost_shows (hon : s.fclkLocked i = true) : Answers (.fclkLost i) s fun t =>
    t.fclkLocked i = false ∧ t.bit F.FAB_CLK_LOST i = true ∧ NamesKept [.FAB_CLK, .FAULT_STATUS, .FAULT_EVENTS] s t ∧ OnlyRegsAndLog s t := by
  have hrun : (Act.fclkLost i).run s = (Act.all [.clrBit F.FAB_CLK_LOCK i, .setBit F.FAB_CLK_LOST i, .log 9 i []]).run s := by
    rw [Act.fclkLost, Act.look_run, hon, Act.when_true_run]
  have hin : Within [.FAB_CLK, .FAULT_STATUS, .FAULT_EVENTS] [] [.resp, .log, .seed] (.all [.clrBit F.FAB_CLK_LOCK i, .setBit F.FAB_CLK_LOST i, .log 9 i []]) :=
    .all ⟨.clrBit, .setBit, .log⟩
  have hlog : Within [.FAULT_STATUS, .FAULT_EVENTS] [] [.log, .seed] (.all [.log 9 i []]) := .all (by exact .log)
  refine ⟨_, rfl, ?_⟩
  rw [hrun]
  refine ⟨?_, ?_, (hin s).namesKept, (hin s).rest⟩
  · rw [State.fclkLocked, Act.all_bit_head]
    · exact Act.clrBit_bit_same F.FAB_CLK_LOCK i 0 0 0 s (by decide) (by decide) i.isLt
    · exact .all ⟨.setBit, .of_within hlog⟩
  · rw [Act.all_cons_run, Act.all_bit_head]
    · exact Act.setBit_bit_same F.FAB_CLK_LOST i 0 0 0 _ (by decide) (by decide) i.isLt
    · exact .of_within hlog

theorem bramEcc_corrects : Answers (.bramEccEvent r k n false) s fun t =>
    Counted F.FAB_BRAM_ECC_CORRECTED s t (r / 16) ∧ t.bit F.FAB_BRAM_ECC_FLAG_FLAG (r % 16) (r / 16) = true ∧
    RegsKept [⟨.FAB_BRAM_ECC, r / 16, 0, 0⟩, ⟨.FAB_BRAM_ECC_FLAG, r / 16, 0, 0⟩] s t ∧ OnlyRegs s t := by
  have hrun : (Act.bramEcc r k n false).run s =
      (Act.setBit F.FAB_BRAM_ECC_FLAG_FLAG (r.val % 16) (r.val / 16)).run ((Act.count F.FAB_BRAM_ECC_CORRECTED 1 (r.val / 16)).run s) := rfl
  have hdie : r.val / 16 < 2 := by omega
  have hcount := Act.count_f_same F.FAB_BRAM_ECC_CORRECTED (r.val / 16) 0 s (RegRef.valid_of hdie) (by decide)
  have hin : Within [] [⟨.FAB_BRAM_ECC, r.val / 16, 0, 0⟩, ⟨.FAB_BRAM_ECC_FLAG, r.val / 16, 0, 0⟩] [.resp]
      (.all [.count F.FAB_BRAM_ECC_CORRECTED 1 (r.val / 16), .setBit F.FAB_BRAM_ECC_FLAG_FLAG (r.val % 16) (r.val / 16)]) := .all ⟨.countAt, .setBitAt⟩
  refine ⟨_, rfl, ?_⟩
  rw [hrun]
  refine ⟨?_, Act.setBit_bit_same _ _ _ _ _ _ (RegRef.valid_of hdie) (by decide) (Nat.mod_lt _ (by decide)), (hin s).regsKept, (hin s).rest⟩
  have hflag : Leaves F.FAB_BRAM_ECC_CORRECTED (.setBit F.FAB_BRAM_ECC_FLAG_FLAG (r.val % 16) (r.val / 16)) := .setBit
  exact (hflag _ _ 0 0).trans hcount

/-- The word of a block RAM that a double-bit error leaves in the array, and on the output of the read. -/
def FabSt.flipped (f : FabSt) (key out : Nat) (y : Word) : FabSt := { f with bram := tabSet 0 f.bram key y, ramRead := tabSet 0 f.ramRead out y.toNat }

/-- The record of a double-bit error. -/
def Act.bramRecord (r : Reg) (k : Fin 4) (n : Fin 1024) : Act := .all [.count F.FAB_BRAM_ECC_UNCORRECTABLE 1 (r.val / 16),
  .setBit F.FAB_BRAM_ECC_FLAG_FLAG (r.val % 16) (r.val / 16), .log 10 r (leBytes k 1 ++ leBytes n 2)]

theorem Act.bramEcc_run (r : Reg) (k : Fin 4) (n : Fin 1024) (s : State) : ∃ y, (Act.bramEcc r k n true).run s =
    (Act.bramRecord r k n).run { s with seed := s.seed + 1, fab := s.fab.flipped (r.val * 4096 + k.val * 1024 + n.val) (r.val * 4 + k.val) y } :=
  ⟨twoFlips (Config.freeValue s.seed) (tabGet 0 s.fab.bram (r.val * 4096 + k.val * 1024 + n.val)), rfl⟩

theorem bramEcc_flips : Answers (.bramEccEvent r k n true) s fun t =>
    Counted F.FAB_BRAM_ECC_UNCORRECTABLE s t (r / 16) ∧ t.bit F.FAB_BRAM_ECC_FLAG_FLAG (r % 16) (r / 16) = true ∧
    NamesKept [.FAB_BRAM_ECC, .FAB_BRAM_ECC_FLAG, .FAULT_STATUS, .FAULT_EVENTS] s t ∧
    (∃ y : Word, t.fab.bram = tabSet 0 s.fab.bram (r.val * 4096 + k.val * 1024 + n.val) y ∧
      t.fab.ramRead = tabSet 0 s.fab.ramRead (r.val * 4 + k.val) y.toNat) ∧
    t = { s with regs := t.regs, log := t.log, seed := t.seed, fab := { s.fab with bram := t.fab.bram, ramRead := t.fab.ramRead } } := by
  obtain ⟨y, hrun⟩ := Act.bramEcc_run r k n s
  have hdie : r.val / 16 < 2 := by omega
  have hin : Within [.FAB_BRAM_ECC, .FAB_BRAM_ECC_FLAG, .FAULT_STATUS, .FAULT_EVENTS] [] [.log, .seed] (.bramRecord r k n) := .all ⟨.count, .setBit, .log⟩
  have hlog : Within [.FAULT_STATUS, .FAULT_EVENTS] [] [.log, .seed] (.log 10 r (leBytes k 1 ++ leBytes n 2)) := .log
  refine ⟨_, rfl, ?_⟩
  rw [hrun]
  generalize hu : { s with seed := s.seed + 1, fab := s.fab.flipped (r.val * 4096 + k.val * 1024 + n.val) (r.val * 4 + k.val) y } = u
  have htouch := hin u
  have hregs : ∀ f i, u.f f i = s.f f i := fun _ _ => by rw [← hu]; rfl
  have hfab : ((Act.bramRecord r k n).run u).fab = s.fab.flipped (r.val * 4096 + k.val * 1024 + n.val) (r.val * 4 + k.val) y :=
    (htouch.parts .fab (by decide)).trans (by rw [← hu])
  refine ⟨?_, ?_, ?_, ⟨y, by rw [hfab]; rfl, by rw [hfab]; rfl⟩, ?_⟩
  · have hcount := Act.count_f_same F.FAB_BRAM_ECC_UNCORRECTABLE (r.val / 16) 0 u (RegRef.valid_of hdie) (by decide)
    rw [hregs] at hcount
    rw [Counted, Act.bramRecord, Act.all_f_head]
    · exact hcount
    · exact .all ⟨.setBit, .of_within hlog⟩
  · rw [Act.bramRecord, Act.all_cons_run, Act.all_bit_head]
    · exact Act.setBit_bit_same _ _ _ _ _ _ (RegRef.valid_of hdie) (by decide) (Nat.mod_lt _ (by decide))
    · exact .all (by exact .of_within hlog)
  · exact fun m i j k hm => (htouch.namesKept m i j k hm).trans (by rw [← hu]; rfl)
  · have hrest := htouch.rest
    have hparts : ((Act.bramRecord r k n).run u).fab = { s.fab with
      bram := ((Act.bramRecord r k n).run u).fab.bram, ramRead := ((Act.bramRecord r k n).run u).fab.ramRead } := by rw [hfab]; rfl
    rw [← hparts]
    refine hrest.trans ?_
    rw [htouch.parts .fab (by decide)]
    subst hu
    rfl

/-! ### User registers -/

/-- An access joins those of its die. -/
def Act.accessJoins (d : Die) (x : PortAccess) : Act := .setFab fun f => { f with access := f.access.set d (f.access[d] ++ [x]) }

theorem Act.userAccess_open {write : Bool} (hopen : s.userPort d = true) (hsrc : ∀ e, src ≠ .engine e) : (Act.userAccess src d write a v).run s =
    (Act.all [.accessJoins d ⟨src, write, a, v, s.clk, none, 0⟩, .answer .none]).run s := by
  simp only [Act.userAccess, Act.look_run, hopen, if_true]
  cases src with
  | engine e => exact absurd rfl (hsrc e)
  | _ => rfl

theorem userRegisterWrite_waits (hopen : s.userPort d = true) (hsrc : ∀ e, src ≠ .engine e) (hw : s.takes src (userOffset d a)) :
    Answers (.userRegisterAccess src d true a v) s fun t =>
      t.resp = .none ∧ t.fab.access[d] = s.fab.access[d] ++ [⟨src, true, a, v, s.clk, none, 0⟩] ∧ t = { s with fab := t.fab, resp := t.resp } := by
  have hnone : ∀ t : State, t.resp = .none → (Act.masterCount src).run t = t := fun t ht => by
    cases src with
    | fabric d =>
      show (Act.when (t.resp == .error) _).run t = t
      rw [ht]
      rfl
    | _ => rfl
  have hrun : exec (.userRegisterAccess src d true a v) s = .next ((Act.all [.accessJoins d ⟨src, true, a, v, s.clk, none, 0⟩, .answer .none]).run s) := by
    show Host.Outcome.next ((Act.write src (userOffset d a) (.userAccess src d true a v)).run s) = _
    rw [Act.write_run hw, Act.userAccess_open hopen hsrc, hnone _ rfl]
  refine ⟨_, hrun, rfl, ?_, rfl⟩
  exact Vector.getElem_set_self _

theorem userRegisterRead_waits (hopen : s.userPort d = true) (hsrc : ∀ e, src ≠ .engine e) (hup : s.up = true) :
    Answers (.userRegisterAccess src d false a v) s fun t =>
      t.resp = .none ∧ t.fab.access[d] = s.fab.access[d] ++ [⟨src, false, a, v, s.clk, none, 0⟩] ∧ t = { s with fab := t.fab, resp := t.resp } := by
  have hrun : exec (.userRegisterAccess src d false a v) s = .next ((Act.all [.accessJoins d ⟨src, false, a, v, s.clk, none, 0⟩, .answer .none]).run s) := by
    show Host.Outcome.next ((Act.reach (.userAccess src d false a v)).run s) = _
    rw [Act.reach, Act.look_run, if_pos hup, Act.userAccess_open hopen hsrc]
  refine ⟨_, hrun, rfl, ?_, rfl⟩
  exact Vector.getElem_set_self _

theorem userRegisterRead_refused (hclosed : s.userPort d = false) (hup : s.up = true) :
    Answers (.userRegisterAccess src d false a v) s fun t => t = { s with resp := .error } := by
  have hrun : exec (.userRegisterAccess src d false a v) s = .next ((Act.answer .error).run s) := by
    show Host.Outcome.next ((Act.reach (.userAccess src d false a v)).run s) = _
    unfold Act.userAccess
    rw [Act.reach, Act.look_run, if_pos hup, Act.look_run, hclosed, if_neg Bool.false_ne_true]
  exact ⟨_, hrun, rfl⟩

/-! ### The end of an access -/

/-- The registers and the parts that the end of a LOAD touches. -/
abbrev loadNames : List RegName := [.ENG_D, .ENG_STATUS, .STEP_EVENTS, .FAULT_STATUS, .FAULT_EVENTS]

theorem Within.engLoadEnd {w : Option Word} : Within loadNames [] [.eng, .log, .seed] (.engLoadEnd e w) := by
  refine .look fun s => ?_
  split
  · exact .all ⟨.setR, Within.engAdvance.mono⟩
  · exact Within.engFault.mono
  · exact .skip

theorem Within.jobPart {id pos : Nat} {r : Resp} : Within [] [] [.fab] (.jobPart id pos r) := .setFab

/-- The accesses that wait after one has gone: the next begins now. -/
def accessNext (clk : Nat) : List PortAccess → List PortAccess
  | [] => []
  | b :: m => { b with at_ := clk } :: m

theorem accessNext_addr (clk : Nat) (l : List PortAccess) : (accessNext clk l).map PortAccess.addr = l.map PortAccess.addr := by
  cases l <;> rfl

/-- The word that an answer holds. -/
def respWord (r : Resp) : Option Word := match r with
  | .ok v => some (BitVec.ofNat 32 v.toNat)
  | _ => none

/-- The answer of an access goes to the burst it belongs to, or to its source. -/
def Act.jobAnswer (job : Option (Nat × Nat)) (r : Resp) : Act := match job with
  | some (id, pos) => .jobPart id pos r
  | none => .answer r

/-- The answer of an access goes to who waits for it. -/
def Act.accessAnswer (x : PortAccess) (r : Resp) : Act := match x.src with
  | .engine e => .engLoadEnd e (respWord r)
  | _ => .jobAnswer x.job r

theorem Act.accessEnd_run {r : Resp} (hfirst : s.fab.access[d] = p :: l) : (Act.accessEnd d r).run s =
    (Act.accessAnswer p r).run ((Act.setFab fun f => { f with access := f.access.set d (accessNext s.clk l) }).run s) := by
  have hanswer : (match p.src with
      | .engine e => Act.engLoadEnd e (match r with
        | .ok v => some (BitVec.ofNat 32 v.toNat)
        | _ => none)
      | _ => match p.job with
        | some (id, pos) => .jobPart id pos r
        | none => .answer r) = Act.accessAnswer p r := by
    unfold Act.accessAnswer
    cases p.src with
    | engine e => rfl
    | _ => rfl
  unfold Act.accessEnd
  rw [Act.look_run, hfirst]
  dsimp only
  rw [Act.all_cons_run, Act.all_cons_run, Act.all_nil_run]
  cases l with
  | nil => exact congrArg (fun a : Act => a.run _) hanswer
  | cons b m => exact congrArg (fun a : Act => a.run _) hanswer

/-- The accesses that wait at a die stay the same. -/
theorem Act.accessAnswer_keeps (x : PortAccess) (r : Resp) : (Act.accessAnswer x r).Keeps (Same fun s => s.fab.access) := by
  have hload : ∀ e w, (Act.engLoadEnd e w).Keeps (Same fun s => s.fab.access) := fun e w s =>
    congrArg FabSt.access ((Within.engLoadEnd (e := e) (w := w) s).parts .fab (by decide))
  have hjob : ∀ job, (Act.jobAnswer job r).Keeps (Same fun s => s.fab.access) := fun job => by
    cases job with
    | none => exact fun _ => rfl
    | some x => exact fun _ => rfl
  unfold Act.accessAnswer
  split
  · exact hload _ _
  · exact hjob _

theorem Within.accessAnswer {r : Resp} : Within loadNames [] [.fab, .eng, .log, .seed, .resp] (.accessAnswer p r) := by
  have hjob : ∀ job, Within loadNames [] [.fab, .eng, .log, .seed, .resp] (.jobAnswer job r) := fun job => by
    cases job with
    | none => exact .answer
    | some x => exact Within.jobPart.mono
  unfold Act.accessAnswer
  split
  · exact Within.engLoadEnd.mono
  · exact hjob _

theorem Act.accessAnswer_resp {r : Resp} (hsrc : ∀ e, p.src ≠ .engine e) (hjob : p.job = none) : Act.accessAnswer p r = .answer r := by
  unfold Act.accessAnswer
  rw [hjob]
  cases h : p.src with
  | engine e => exact absurd h (hsrc e)
  | _ => rfl

/-! ### Bursts that have ended -/

/-- The registers and the parts that the end of a burst touches. -/
abbrev burstNames : List RegName := [.COLYS_COUNTS, .HOST_ERR_ADDR, .HOST_ERRS, .HARB_STATUS]
abbrev burstParts : List Part := [.fab, .dma, .ring, .tx, .resp, .harb]

theorem Within.hostEnd {bytes off status : Nat} {write : Bool} {data : DWord} :
    Within [.HOST_ERR_ADDR, .HOST_ERRS] [] [.resp, .tx] (.hostEnd bytes write off status data) := by
  have hcount : Within [.HOST_ERR_ADDR, .HOST_ERRS] [] [.resp, .tx] (.count (if write then F.HOST_ERRS_WR_ERR else F.HOST_ERRS_RD_ERR)) := by
    cases write
    · exact .count
    · exact .count
  exact .look fun _ => .when (.ite (.all ⟨.answer, .when .send⟩) (.all ⟨.setF, .setF, hcount, .all ⟨.answer, .when .send⟩⟩))

theorem Within.reply {h : PkHead} {w1 status : Nat} {data : List DWord} : Within [.COLYS_COUNTS] [] [.ring, .tx] (.reply h w1 status data) :=
  .look fun _ => .all ⟨Within.keep, Within.complete⟩

theorem Within.freeHead {b m : Nat} : Within [.HARB_STATUS] [] [.harb] (.freeHead b m) := Within.freeHeadAt.byName (by simp)

theorem Within.jobEnd (j : BusJob) : Within burstNames [] burstParts (.jobEnd j) := by
  unfold Act.jobEnd
  dsimp only
  split
  · exact Within.reply.mono
  · exact Within.hostEnd.mono
  · exact .skip
  · exact .look fun _ => .when Within.freeHead.mono

theorem Act.jobEnd_access (j : BusJob) : (Act.jobEnd j).Keeps (Same fun s => s.fab.access) := fun s => by
  have hin : Within [.COLYS_COUNTS, .HOST_ERR_ADDR, .HOST_ERRS, .HARB_STATUS] [] [.dma, .ring, .tx, .resp, .harb] (.jobEnd j) := by
    unfold Act.jobEnd
    dsimp only
    split
    · exact Within.reply.mono
    · exact Within.hostEnd.mono
    · exact .skip
    · exact .look fun _ => .when Within.freeHead.mono
  exact congrArg FabSt.access ((hin s).parts .fab (by decide))

theorem Within.dmaCollect : Within [] [] [.fab, .dma] .dmaCollect := by
  refine .look fun _ => .each fun j => ?_
  split
  · exact .all ⟨.setFab, .setDma⟩
  · exact .skip

theorem Act.dmaCollect_access : Act.dmaCollect.Keeps (Same fun s => s.fab.access) := by
  refine Act.keeps_look fun _ => Act.keeps_each Same.frame _ fun j => ?_
  split
  · exact fun _ => rfl
  · exact fun _ => rfl

theorem Within.collect : Within burstNames [] burstParts .collect :=
  .all ⟨Within.dmaCollect.mono, .look fun _ => .each fun j => .all ⟨.setFab, Within.jobEnd j⟩⟩

theorem Act.collect_access : Act.collect.Keeps (Same fun s => s.fab.access) :=
  Act.keeps_all Same.frame ⟨Act.dmaCollect_access, Act.keeps_look fun _ => Act.keeps_each Same.frame _ fun j =>
    Act.keeps_all Same.frame ⟨fun _ => rfl, Act.jobEnd_access j⟩⟩

theorem Act.collect_idle (h : s.fab.jobs = []) : Act.collect.run s = s := by
  have hdma : Act.dmaCollect.run s = s := by
    rw [Act.dmaCollect, Act.look_run, h]
    rfl
  rw [Act.collect, Act.all_cons_run, Act.all_cons_run, Act.all_nil_run, hdma, Act.look_run, h]
  rfl

theorem Act.accessEnd_addr {r : Resp} (hfirst : s.fab.access[d] = p :: l) :
    ((Act.collect.run ((Act.accessEnd d r).run s)).fab.access[d]).map PortAccess.addr = l.map PortAccess.addr := by
  have hend : ∀ u : State, (Act.collect.run ((Act.accessAnswer p r).run u)).fab.access = u.fab.access := fun u =>
    (Act.collect_access _).trans (Act.accessAnswer_keeps p r u)
  rw [Act.accessEnd_run hfirst, hend, ← accessNext_addr s.clk l]
  exact congrArg (List.map PortAccess.addr) (Vector.getElem_set_self _)

theorem Act.accessEnd_resp {r : Resp} (hfirst : s.fab.access[d] = p :: l) (hsrc : ∀ e, p.src ≠ .engine e) (hjob : p.job = none)
    (hjobs : s.fab.jobs = []) : (Act.collect.run ((Act.accessEnd d r).run s)).resp = r := by
  rw [Act.accessEnd_run hfirst, Act.accessAnswer_resp hsrc hjob, Act.collect_idle (by exact hjobs)]
  rfl

theorem userRegisterReady_ends (hfirst : s.fab.access[d] = p :: l) : AnswersThenSettled (.userRegisterReady d v) s fun u =>
    (u.fab.access[d]).map PortAccess.addr = l.map PortAccess.addr ∧
    ((∀ e, p.src ≠ .engine e) → p.job = none → s.fab.jobs = [] → u.resp = .ok (if p.write then 0 else v.setWidth 64)) := by
  have hrun : (Act.all [.userReady d v, .collect]).run s =
      Act.collect.run ((Act.accessEnd d (.ok (if p.write then 0 else BitVec.ofNat 64 v.toNat))).run s) := by
    rw [Act.all_cons_run, Act.all_cons_run, Act.all_nil_run, Act.userReady, Act.look_run, hfirst]
  refine answersThenSettled_of rfl hrun ⟨Act.accessEnd_addr hfirst, fun hsrc hjob hjobs => ?_⟩
  rw [Act.accessEnd_resp hfirst hsrc hjob hjobs, BitVec.ofNat_toNat]

theorem userRegisterTimeout_early (hlate : s.accessLate d = false) : AnswersThenSettled (.userRegisterTimeout d) s fun u => u = s := by
  refine answersThenSettled_of rfl (t := s) ?_ rfl
  rw [Act.look_run, hlate, Act.when_false_run]

theorem Within.dmaWindowTimeout : Within [.DMA_STATUS] [] [.dma] (.dmaWindowTimeout d) := by
  unfold Act.dmaWindowTimeout
  refine .look fun s => ?_
  split
  · split
    · split
      · split
        · split
          · exact .when Within.dmaFail
          · exact .skip
        · exact .skip
      · exact .skip
    · exact .skip
  · exact .skip

theorem Within.accessEnd {r : Resp} : Within loadNames [] [.fab, .eng, .log, .seed, .resp] (.accessEnd d r) := fun s => by
  cases hfirst : s.fab.access[d] with
  | nil =>
    have hskip : (Act.accessEnd d r).run s = s := by
      unfold Act.accessEnd
      rw [Act.look_run, hfirst]
      rfl
    rw [hskip]
    exact Touches.refl s
  | cons p l =>
    have hnext : Within loadNames [] [.fab, .eng, .log, .seed, .resp] (.setFab fun f => { f with access := f.access.set d (accessNext s.clk l) }) :=
      .setFab
    rw [Act.accessEnd_run hfirst]
    exact (hnext s).trans (Within.accessAnswer _)

theorem userRegisterTimeout_late (hfirst : s.fab.access[d] = p :: l) (hlate : s.accessLate d = true) :
    AnswersThenSettled (.userRegisterTimeout d) s fun u =>
      Counted F.FAB_PORT_ERR_TIMEOUTS s u d ∧ (u.fab.access[d]).map PortAccess.addr = l.map PortAccess.addr ∧
      ((∀ e, p.src ≠ .engine e) → p.job = none → s.fab.jobs = [] → u.resp = .error) := by
  have hrun : (Act.look fun t => .when (t.accessLate d) (.all [.dmaWindowTimeout d, .userTimeout d, .collect])).run s =
      Act.collect.run ((Act.accessEnd d .error).run ((Act.count F.FAB_PORT_ERR_TIMEOUTS 1 d).run ((Act.dmaWindowTimeout d).run s))) := by
    simp only [Act.look_run, hlate, Act.when_true_run, Act.userTimeout, Act.all_cons_run, Act.all_nil_run]
  have hwindow := Within.dmaWindowTimeout (d := d) s
  generalize (Act.dmaWindowTimeout d).run s = t at hrun hwindow
  have hcount : Within [.FAB_PORT_ERR] [] [] (.count F.FAB_PORT_ERR_TIMEOUTS 1 d) := .count
  have hcounted := Act.count_f_same F.FAB_PORT_ERR_TIMEOUTS d 0 t (RegRef.valid_of d.isLt) (by decide)
  have hfab := ((hcount t).parts .fab (by decide)).trans (hwindow.parts .fab (by decide))
  rw [hwindow.f_eq _ 0 0] at hcounted
  generalize (Act.count F.FAB_PORT_ERR_TIMEOUTS 1 d).run t = w at hrun hcounted hfab
  have hfirst : w.fab.access[d] = p :: l := by rw [hfab]; exact hfirst
  refine answersThenSettled_of rfl hrun ⟨?_, Act.accessEnd_addr hfirst, fun hsrc hjob hjobs => Act.accessEnd_resp hfirst hsrc hjob (by rw [hfab]; exact hjobs)⟩
  exact ((Within.collect _).f_eq _ 0 0).trans (((Within.accessEnd w).f_eq _ 0 0).trans hcounted)

/-! ### The master port -/

theorem Act.masterIssued_free (hfree : s.fab.master[d] = none) (b : Act) : (Act.masterIssued d b).run s = b.run s := by
  rw [Act.masterIssued, Act.look_run, hfree]

/-- What a write of the master port leaves, after the write itself. -/
def Act.masterDone (d : Die) : Act := .look fun t => .setFab fun f => { f with
  master := f.master.set d none, masterErr := f.masterErr.set d (t.resp == .error) }

theorem Act.masterWrite_run {off : Nat} {x : DWord} (hrel : s.released = true) (halign : off % 4 = 0) : (Act.masterWrite d off x false).run s =
    (Act.masterDone d).run ((Act.write32 (.fabric d) off (x.setWidth 32) none).run s) := by
  have hbus : (Act.busWrite (.fabric d) off 4 x).run s = (Act.write32 (.fabric d) off (x.setWidth 32) none).run s := by
    rw [Act.busWrite, if_pos ⟨rfl, halign⟩]
  unfold Act.masterWrite
  rw [Act.look_run, hrel, Act.when_true_run, Bool.false_and, if_neg Bool.false_ne_true, if_neg Bool.false_ne_true, Act.all_cons_run,
    Act.all_cons_run, Act.all_nil_run, hbus]
  rfl

theorem masterPortWrite_writes {addr : BitVec 24} {x : DWord} (hrel : s.released = true) (hfree : s.fab.master[d] = none)
    (halign : addr.toNat % 4 = 0) : AnswersThenSettled (.masterPortWrite d addr x false) s fun u =>
      u.regs = ((Act.write32 (.fabric d) addr.toNat (x.setWidth 32) none).run s).regs ∧ u.fab.masterErr[d] = (u.resp == .error) := by
  refine answersThenSettled_of rfl ((Act.masterIssued_free hfree _).trans (Act.masterWrite_run hrel halign)) ⟨rfl, ?_⟩
  exact Vector.getElem_set_self _

theorem masterPortWrite_refused {addr : BitVec 24} {x : DWord} (hrel : s.released = true) (hup : s.up = true) (hfree : s.fab.master[d] = none)
    (hno : permits (.fabric d) addr.toNat = false) (halign : addr.toNat % 4 = 0) : AnswersThenSettled (.masterPortWrite d addr x false) s fun u =>
      u.resp = .error ∧ u.fab.masterErr[d] = true ∧ Counted F.FAB_PORT_ERR_MASTER_REFUSED s u d ∧ RegsKept [⟨.FAB_PORT_ERR, d, 0, 0⟩] s u := by
  have hwrite : (Act.write32 (.fabric d) addr.toNat (x.setWidth 32) none).run s =
      (Act.count F.FAB_PORT_ERR_MASTER_REFUSED 1 d).run ((Act.answer .error).run s) := by
    simp only [Act.write32, Act.write, Act.reach, Act.look_run, hup, hno, if_true, Bool.false_eq_true, if_false, Act.all_cons_run, Act.all_nil_run]
    rfl
  have hcount : Within [] [⟨.FAB_PORT_ERR, d, 0, 0⟩] [.resp] (.all [.answer .error, .count F.FAB_PORT_ERR_MASTER_REFUSED 1 d]) :=
    .all ⟨.answer, .countAt⟩
  have hresp : ((Act.count F.FAB_PORT_ERR_MASTER_REFUSED 1 d).run ((Act.answer .error).run s)).resp = .error := Act.count_resp ..
  have hrun := (Act.masterIssued_free hfree _).trans (Act.masterWrite_run (d := d) (x := x) hrel halign)
  rw [hwrite] at hrun
  refine answersThenSettled_of rfl hrun ⟨hresp, ?_, ?_, (hcount s).regsKept⟩
  · refine (Vector.getElem_set_self _).trans ?_
    rw [hresp]
    rfl
  · exact Act.count_f_same F.FAB_PORT_ERR_MASTER_REFUSED d 0 ((Act.answer .error).run s) (RegRef.valid_of d.isLt) (by decide)

theorem masterPortWrite_unreleased {addr : BitVec 24} {x : DWord} (hrel : s.released = false) :
    AnswersThenSettled (.masterPortWrite d addr x false) s fun u => u = s := by
  have hnone : ∀ off w wide, (Act.masterWrite d off w wide).run s = s := fun off w wide => by
    unfold Act.masterWrite
    rw [Act.look_run, hrel, Act.when_false_run]
  refine answersThenSettled_of rfl (t := s) ?_ rfl
  unfold Act.masterIssued
  rw [Act.look_run]
  split
  · exact hnone _ _ _
  · exact hnone _ _ _

/-! ### Doorbell outlets and taps -/

theorem doorbellOutlet_rings (hrel : s.released = true) (hrung : s.eng[e].rung ≠ some s.clk) (hlive : s.engLive e = true)
    (hpend : s.b F.ENG_STATUS_DB_PEND e = false) : Answers (.doorbellOutletRise d e) s fun t =>
      t.b F.ENG_STATUS_DB_PEND e = true ∧ RegsKept [⟨.ENG_STATUS, e, 0, 0⟩] s t := by
  have hrun : (Act.look fun t => .when t.released (.ring e)).run s = (Act.setB F.ENG_STATUS_DB_PEND true e).run
      ((Act.setEng e fun x => { x with rung := some s.clk }).run s) := by
    rw [Act.look_run, hrel, Act.when_true_run, Act.ring_run hrung, Act.ringActs, if_pos hlive, if_neg (by rw [hpend]; exact Bool.false_ne_true)]
  have hin : Within [] [⟨.ENG_STATUS, e, 0, 0⟩] [.eng] (.all [.setEng e fun x => { x with rung := some s.clk }, .setB F.ENG_STATUS_DB_PEND true e]) :=
    .all ⟨.setEng, .setBAt⟩
  refine ⟨_, rfl, ?_⟩
  rw [hrun]
  exact ⟨Act.setB_b_same F.ENG_STATUS_DB_PEND true e 0 0 _ (RegRef.valid_of e.isLt) (by decide) (by decide), (hin s).regsKept⟩

theorem doorbellOutlet_unreleased (hrel : s.released = false) : Answers (.doorbellOutletRise d e) s fun t => t = s := by
  refine ⟨_, rfl, ?_⟩
  rw [Act.look_run, hrel, Act.when_false_run]

/-- R129: the tap takes the modulator that its register now names. -/
def Act.tapTracks (d : Die) (t8 : Fin 8) : Act := .look fun s => .setFab fun f =>
  let i := Fin.ofNat 16 (d.val * 8 + t8.val)
  { f with taps := f.taps.set i { f.taps[i] with spare := (s.tapModulator d t8).2 == 8 } }

theorem Act.tapTracks_fab (s : State) : ((Act.tapTracks d t8).run s).fab = { s.fab with taps := ((Act.tapTracks d t8).run s).fab.taps } := rfl

theorem tapConfig_stores (hw : s.takesReg src .FAB_TAP d t8) (hconv : F.FAB_TAP_CONV.of v < 36) : Answers (.tapConfigWrite src d t8 v) s fun t =>
    t.resp = .ok 0 ∧ t.r .FAB_TAP d t8 = v &&& RegName.mask .FAB_TAP ∧ RegsKept [⟨.FAB_TAP, d, t8, 0⟩] s t ∧
    t = { s with regs := t.regs, resp := t.resp, fab := { s.fab with taps := t.fab.taps } } := by
  have heffect : (Act.tapWrite d t8 v).run s = (Act.all [.setR .FAB_TAP v d t8, .tapTracks d t8, .accept]).run s := by
    unfold Act.tapWrite
    rw [if_neg (by omega)]
    rfl
  have hin : Within [] [⟨.FAB_TAP, d, t8, 0⟩] [.fab, .resp] (.all [.setR .FAB_TAP v d t8, .tapTracks d t8, .accept]) :=
    .all ⟨.setRAt, .look fun _ => .setFab, .accept⟩
  have hset : ((Act.setR .FAB_TAP v d t8).run s).r .FAB_TAP d t8 = v &&& RegName.mask .FAB_TAP :=
    Act.setR_r_same _ _ _ _ _ _ (RegRef.valid_of d.isLt t8.isLt)
  have hfab : ((Act.all [.setR .FAB_TAP v d t8, .tapTracks d t8, .accept]).run s).fab =
      { s.fab with taps := ((Act.all [.setR .FAB_TAP v d t8, .tapTracks d t8, .accept]).run s).fab.taps } := by
    have hsame : ((Act.setR .FAB_TAP v d t8).run s).fab = s.fab := Act.setR_fab ..
    rw [← hsame]
    exact Act.tapTracks_fab _
  have hrun := Act.writeTo_accepted (d := 0) hw (a := Act.tapWrite d t8 v) (by rw [heffect]; rfl)
  refine ⟨_, rfl, ?_⟩
  rw [hrun, heffect]
  refine ⟨rfl, hset, (hin s).regsKept, ?_⟩
  rw [← hfab]
  exact (hin s).rest

theorem tapConfig_refused (hw : s.takesReg src .FAB_TAP d t8) (hconv : 36 ≤ F.FAB_TAP_CONV.of v) :
    Answers (.tapConfigWrite src d t8 v) s (Refused F.FAB_CAP_STATUS_CAP_REFUSED 0 0 s) :=
  ⟨_, rfl, Act.writeTo_refused hw (by unfold Act.tapWrite; rw [if_pos hconv]) (by decide)⟩

/-! ### Captures -/

theorem Act.captureCtrl_starts (hstart : F.FAB_CAP_CTRL_START.of v = 1) : (Act.captureCtrl v).run s =
    (Act.look fun t => .when (t.resp != .error) (.store .FAB_CAP_CTRL v)).run ((Act.captureStart (F.FAB_CAP_CTRL_SCOPE.of v)
      (F.FAB_CAP_CTRL_REGION.of v) (F.FAB_CAP_CTRL_CLK.of v)).run s) := by
  simp only [Act.captureCtrl, hstart, Act.all_cons_run, Act.all_nil_run, Bool.false_and, beq_self_eq_true, Act.when_true_run, Act.when_false_run,
    Nat.reduceBEq]

theorem Act.captureCtrl_arms (hstart : F.FAB_CAP_CTRL_START.of v = 0) (harm : F.FAB_CAP_CTRL_ARM.of v = 1) : (Act.captureCtrl v).run s =
    (Act.look fun t => .when (t.resp != .error) (.store .FAB_CAP_CTRL v)).run ((Act.captureArm (F.FAB_CAP_CTRL_SCOPE.of v)
      (F.FAB_CAP_CTRL_REGION.of v) (F.FAB_CAP_CTRL_CLK.of v)).run s) := by
  simp only [Act.captureCtrl, hstart, harm, Act.all_cons_run, Act.all_nil_run, Bool.and_true, beq_self_eq_true, Act.when_true_run,
    Act.when_false_run, Nat.reduceBEq, Bool.and_false]

/-- A capture waits in a state of FAB.CAP_STATUS. -/
def Act.captureWaits (c : Capture) (state : Nat) : Act := .all [.setFab fun f => { f with capture := some c }, .setF F.FAB_CAP_STATUS_STATE state, .accept]

section
variable {scope region clk : Nat}

theorem Act.captureStart_waits (hidle : s.f F.FAB_CAP_STATUS_STATE = 0) (hscope : scope ≠ 3) (hparked : s.mode parked = false) :
    (Act.captureStart scope region clk).run s = (Act.captureWaits ⟨scope, region, clk, s.clk,
      s.scopeMoves ⟨scope, region, clk, s.clk, false, false⟩, false⟩ 1).run s := by
  unfold Act.captureStart
  rw [Act.look_run, if_neg (fun h => h.elim (fun h => h hidle) hscope), hparked, if_neg Bool.false_ne_true]
  rfl

theorem Act.captureStart_parked (hidle : s.f F.FAB_CAP_STATUS_STATE = 0) (hscope : scope ≠ 3) (hparked : s.mode parked = true) :
    (Act.captureStart scope region clk).run s = Act.accept.run ((Act.captureEnd 1).run s) := by
  unfold Act.captureStart
  rw [Act.look_run, if_neg (fun h => h.elim (fun h => h hidle) hscope), hparked, if_pos rfl]
  rfl

theorem Act.captureStart_refuses (hno : s.f F.FAB_CAP_STATUS_STATE ≠ 0 ∨ scope = 3) :
    (Act.captureStart scope region clk).run s = (Act.refuse F.FAB_CAP_STATUS_CAP_REFUSED).run s := by
  unfold Act.captureStart
  rw [Act.look_run, if_pos hno]

theorem Act.captureArm_waits (hidle : s.f F.FAB_CAP_STATUS_STATE = 0) (hscope : scope ≠ 3) :
    (Act.captureArm scope region clk).run s = (Act.captureWaits ⟨scope, region, clk, s.clk, false, false⟩ 2).run s := by
  unfold Act.captureArm
  rw [Act.look_run, if_neg (fun h => h.elim (fun h => h hidle) hscope)]
  rfl

end

theorem captureCtrl_waits {state : Nat} (hw : s.takesReg src .FAB_CAP_CTRL) (hstate : state < 4)
    (hrun : (Act.captureCtrl v).run s = (Act.look fun t => .when (t.resp != .error) (.store .FAB_CAP_CTRL v)).run ((Act.captureWaits c state).run s)) :
    let t := (Act.writeTo src .FAB_CAP_CTRL 0 0 0 (.captureCtrl v)).run s
    t.resp = .ok 0 ∧ t.f F.FAB_CAP_STATUS_STATE = state ∧ t.fab.capture = some c := by
  have heffect : (Act.captureCtrl v).run s = (Act.store .FAB_CAP_CTRL v).run ((Act.captureWaits c state).run s) := hrun
  have hstore : Within [.FAB_CAP_CTRL] [] [] (.store .FAB_CAP_CTRL v) := .store
  have hshown : ((Act.captureWaits c state).run s).f F.FAB_CAP_STATUS_STATE = state := by
    rw [Act.captureWaits, Act.all_cons_run, Act.all_cons_run, Act.all_cons_run, Act.all_nil_run, Act.accept_f]
    exact (Act.setF_f_same F.FAB_CAP_STATUS_STATE state 0 0 0 _ (by decide) (by decide)).trans (Nat.mod_eq_of_lt hstate)
  have hcapture : ((Act.captureWaits c state).run s).fab.capture = some c := rfl
  have hkept := hstore ((Act.captureWaits c state).run s)
  have hresp : ((Act.captureCtrl v).run s).resp = .ok 0 := by rw [heffect]; exact hkept.parts .resp (by decide)
  intro t
  have ht : t = (Act.store .FAB_CAP_CTRL v).run ((Act.captureWaits c state).run s) := (Act.writeTo_accepted hw hresp).trans heffect
  rw [ht]
  exact ⟨heffect ▸ hresp, (hkept.f_eq 0 0 0).trans hshown, (congrArg FabSt.capture (hkept.parts .fab (by decide))).trans hcapture⟩

section
variable (hw : s.takesReg src .FAB_CAP_CTRL)
include hw

theorem captureStart_begins (hstart : F.FAB_CAP_CTRL_START.of v = 1) (hidle : s.f F.FAB_CAP_STATUS_STATE = 0)
    (hscope : F.FAB_CAP_CTRL_SCOPE.of v ≠ 3) (hparked : s.mode parked = false) : Answers (.captureStart src v) s fun t =>
      t.resp = .ok 0 ∧ t.f F.FAB_CAP_STATUS_STATE = 1 ∧ t.fab.capture.map Capture.scope = some (F.FAB_CAP_CTRL_SCOPE.of v) ∧
      t.fab.capture.map Capture.region = some (F.FAB_CAP_CTRL_REGION.of v) ∧ t.fab.capture.map Capture.at_ = some s.clk := by
  have hrun := Act.captureCtrl_starts (s := s) hstart
  rw [Act.captureStart_waits hidle hscope hparked] at hrun
  obtain ⟨hresp, hstate, hcapture⟩ := captureCtrl_waits hw (by decide) hrun
  refine ⟨_, rfl, hresp, hstate, ?_, ?_, ?_⟩
  · rw [hcapture]; rfl
  · rw [hcapture]; rfl
  · rw [hcapture]; rfl

theorem captureArm_waits (hstart : F.FAB_CAP_CTRL_START.of v = 0) (harm : F.FAB_CAP_CTRL_ARM.of v = 1)
    (hidle : s.f F.FAB_CAP_STATUS_STATE = 0) (hscope : F.FAB_CAP_CTRL_SCOPE.of v ≠ 3) : Answers (.captureArm src v) s fun t =>
      t.resp = .ok 0 ∧ t.f F.FAB_CAP_STATUS_STATE = 2 ∧ t.fab.capture.map Capture.scope = some (F.FAB_CAP_CTRL_SCOPE.of v) := by
  have hrun := Act.captureCtrl_arms (s := s) hstart harm
  rw [Act.captureArm_waits hidle hscope] at hrun
  obtain ⟨hresp, hstate, hcapture⟩ := captureCtrl_waits hw (by decide) hrun
  refine ⟨_, rfl, hresp, hstate, ?_⟩
  rw [hcapture]
  rfl

theorem captureStart_refused (hstart : F.FAB_CAP_CTRL_START.of v = 1) (hno : s.f F.FAB_CAP_STATUS_STATE ≠ 0 ∨ F.FAB_CAP_CTRL_SCOPE.of v = 3) :
    Answers (.captureStart src v) s (Refused F.FAB_CAP_STATUS_CAP_REFUSED 0 0 s) := by
  refine ⟨_, rfl, Act.writeTo_refused hw ?_ (by decide)⟩
  rw [Act.captureCtrl_starts hstart, Act.captureStart_refuses hno]
  rfl

theorem captureStart_parked (hstart : F.FAB_CAP_CTRL_START.of v = 1) (hidle : s.f F.FAB_CAP_STATUS_STATE = 0)
    (hscope : F.FAB_CAP_CTRL_SCOPE.of v ≠ 3) (hparked : s.mode parked = true) : Answers (.captureStart src v) s fun t =>
      t.resp = .ok 0 ∧ t.f F.FAB_CAP_STATUS_STATE = 0 ∧ t.b F.FAB_CAP_STATUS_DONE = true ∧ t.f F.FAB_CAP_STATUS_RESULT = 1 := by
  have heffect : (Act.captureCtrl v).run s = (Act.store .FAB_CAP_CTRL v).run (Act.accept.run ((Act.captureEnd 1).run s)) := by
    rw [Act.captureCtrl_starts hstart, Act.captureStart_parked hidle hscope hparked]
    rfl
  have hstore : Within [.FAB_CAP_CTRL] [] [] (.store .FAB_CAP_CTRL v) := .store
  have hkept := hstore (Act.accept.run ((Act.captureEnd 1).run s))
  have hresp : ((Act.captureCtrl v).run s).resp = .ok 0 := by rw [heffect]; exact hkept.parts .resp (by decide)
  refine ⟨_, rfl, ?_⟩
  rw [Act.writeTo_accepted (d := 0) hw (a := Act.captureCtrl v) hresp, heffect]
  refine ⟨heffect ▸ hresp, (hkept.f_eq 0 0 0).trans ?_, (hkept.b_eq 0 0 0).trans ?_, (hkept.f_eq 0 0 0).trans ?_⟩
  · simp +decide [Act.captureEnd]
  · simp +decide [Act.captureEnd, State.b]
  · simp +decide [Act.captureEnd]

end

theorem captureTrigger_samples (hcapture : s.fab.capture = some c) (hstate : s.f F.FAB_CAP_STATUS_STATE = 2) : Answers .captureTrigger s fun t =>
    t = { s with fab := { s.fab with capture := some { c with trigger := true } } } := by
  refine ⟨_, rfl, ?_⟩
  unfold Act.captureTrigger
  rw [Act.look_run, hcapture]
  dsimp only
  rw [hstate]
  rfl

theorem captureTrigger_idle (hstate : s.f F.FAB_CAP_STATUS_STATE = 0) : Answers .captureTrigger s fun t => t = s := by
  refine ⟨_, rfl, ?_⟩
  unfold Act.captureTrigger
  rw [Act.look_run]
  split
  · rw [hstate]
    rfl
  · rfl

/-- The capture waits for the end of a relocation. -/
def Act.captureDefers (c : Capture) : Act := .all [.setFab fun f => { f with capture := some { c with deferred := true } },
  .setF F.FAB_CAP_STATUS_STATE 1]

/-- A capture whose trigger is up is taken at this edge, or waits for the end of a relocation. -/
theorem Act.captureEdge_run {edge : Bool} (hcapture : s.fab.capture = some c) (hfires : s.captureFires c = true)
    (hedge : (if edge then s.fclkLocked c.clk else s.f F.FAB_CAP_STATUS_STATE == 1 && decide (c.at_ + 328 ≤ s.clk)) = true) :
    (Act.captureEdge edge).run s = (if s.scopeMoves c then Act.captureDefers c
      else .snapshot c (if !edge then 2 else if c.deferred then 3 else 0)).run s := by
  unfold Act.captureEdge
  rw [Act.look_run, hcapture]
  dsimp only
  rw [hfires, hedge]
  rfl

theorem Within.captureDefers : Within [] [⟨.FAB_CAP_STATUS, 0, 0, 0⟩] [.fab] (.captureDefers c) := .all ⟨.setFab, .setFAt⟩

theorem Act.captureDefers_run (s : State) : (Act.captureDefers c).run s =
    (Act.setF F.FAB_CAP_STATUS_STATE 1 0 0 0).run ((Act.setFab fun f => { f with capture := some { c with deferred := true } }).run s) := by
  rw [Act.captureDefers, Act.all_cons_run, Act.all_cons_run, Act.all_nil_run]

theorem Act.captureDefers_fab (s : State) :
    ((Act.captureDefers c).run s).fab = { s.fab with capture := some { c with deferred := true } } := by
  rw [Act.captureDefers_run, Act.setF_fab]
  rfl

theorem Act.captureDefers_state (s : State) : ((Act.captureDefers c).run s).f F.FAB_CAP_STATUS_STATE = 1 := by
  rw [Act.captureDefers_run]
  generalize (Act.setFab fun f => { f with capture := some { c with deferred := true } }).run s = t
  exact Act.setF_f_same F.FAB_CAP_STATUS_STATE 1 0 0 0 t (by decide) (by decide)

theorem captureSnapshot_defers (hcapture : s.fab.capture = some c) (hfires : s.captureFires c = true) (hmoves : s.scopeMoves c = true)
    (hclk : s.fclkLocked c.clk = true) : Answers .captureSnapshot s fun t =>
      t.f F.FAB_CAP_STATUS_STATE = 1 ∧ t.fab.capture = some { c with deferred := true } ∧ RegsKept [⟨.FAB_CAP_STATUS, 0, 0, 0⟩] s t ∧
      t = { s with regs := t.regs, fab := { s.fab with capture := t.fab.capture } } := by
  have hrun := Act.captureEdge_run (edge := true) hcapture hfires hclk
  rw [if_pos hmoves] at hrun
  have htouch := (Within.captureDefers (c := c)) s
  have hstate := Act.captureDefers_state (c := c) s
  have hfab := Act.captureDefers_fab (c := c) s
  refine ⟨_, rfl, ?_⟩
  rw [hrun]
  generalize (Act.captureDefers c).run s = t at htouch hstate hfab
  refine ⟨hstate, by rw [hfab], htouch.regsKept, ?_⟩
  have hsame : t.fab = { s.fab with capture := t.fab.capture } := by rw [hfab]
  rw [← hsame]
  exact htouch.rest

theorem captureSnapshot_waits (hcapture : s.fab.capture = some c) (hfires : s.captureFires c = false) : Answers .captureSnapshot s fun t => t = s := by
  refine ⟨_, rfl, ?_⟩
  unfold Act.captureEdge
  rw [Act.look_run, hcapture]
  dsimp only
  rw [hfires, Bool.false_and, Act.when_false_run]

/-! ### The snapshot -/

/-- The bytes of the addressed memories below the readback of the fabric stay the same. -/
def BelowKept (s t : State) : Prop := ∀ b, b < 0x240000 → t.byte b = s.byte b

theorem BelowKept.frame : Frame BelowKept := ⟨fun _ _ _ => rfl, fun h1 h2 b hb => (h2 b hb).trans (h1 b hb)⟩

theorem Act.setBytes_below {x w m : Nat} (hx : 0x240000 ≤ x) : (Act.setBytes x w m).Keeps BelowKept := fun s b hb =>
  Act.setBytes_keptBut x w m s b (.inl (by omega))

theorem Act.captureRegion_below (r : Nat) : (Act.captureRegion r).Keeps BelowKept := by
  unfold Act.captureRegion
  refine Act.keeps_look fun s => Act.keeps_all BelowKept.frame ⟨Act.keeps_each BelowKept.frame _ fun k => Act.setBytes_below (by omega),
    Act.keeps_each BelowKept.frame _ fun k => Act.keeps_all BelowKept.frame ⟨Act.setBytes_below (by omega), Act.setBytes_below (by omega),
      Act.setBytes_below (by omega), Act.setBytes_below (by omega)⟩, Act.keeps_each BelowKept.frame _ fun k => Act.setBytes_below (by omega)⟩

theorem Within.captureRegion {x : Nat} : Within [] [] [.mem] (.captureRegion x) := by
  unfold Act.captureRegion
  exact .look fun _ => .all ⟨.each fun _ => .setBytes, .each fun _ => .all ⟨.setBytes, .setBytes, .setBytes, .setBytes⟩, .each fun _ => .setBytes⟩

/-- A capture has been taken with a result. -/
def CaptureTaken (s t : State) (result : Nat) : Prop :=
  t.f F.FAB_CAP_STATUS_STATE = 0 ∧ t.b F.FAB_CAP_STATUS_DONE = true ∧ t.f F.FAB_CAP_STATUS_RESULT = result ∧
  t.f F.FAB_CAP_STATUS_SEQ = (s.f F.FAB_CAP_STATUS_SEQ + 1) % 65536 ∧ t.r .FAB_CAP_STAMP_LO = BitVec.ofNat 32 s.ns ∧
  t.r .FAB_CAP_STAMP_HI = BitVec.ofNat 32 (s.ns / 2 ^ 32) ∧ t.fab.capture = none ∧
  NamesKept [.FAB_CAP_STATUS, .FAB_CAP_STAMP_LO, .FAB_CAP_STAMP_HI] s t ∧ BelowKept s t

/-- The number and the stamp of a capture, and its end. -/
def Act.captureStamps (seq ns result : Nat) : Act := .all [.setF F.FAB_CAP_STATUS_SEQ (seq + 1),
  .setR .FAB_CAP_STAMP_LO (BitVec.ofNat 32 ns), .setR .FAB_CAP_STAMP_HI (BitVec.ofNat 32 (ns / 2 ^ 32)), .captureEnd result]

theorem Act.snapshot_taken (result : Nat) (hr : result < 4) (s : State) : CaptureTaken s ((Act.snapshot c result).run s) result := by
  have hrun : (Act.snapshot c result).run s = (Act.captureStamps (s.f F.FAB_CAP_STATUS_SEQ) s.ns result).run
      ((Act.each (((scopeRegions c.scope c.region).map s.actingRegion).dedup) Act.captureRegion).run s) := by
    simp only [Act.snapshot, Act.captureStamps, Act.look_run, Act.all_cons_run, Act.all_nil_run]
  have hregions : Within [] [] [.mem] (.each (((scopeRegions c.scope c.region).map s.actingRegion).dedup) Act.captureRegion) := .each fun _ => .captureRegion
  have hbelow : BelowKept s ((Act.each (((scopeRegions c.scope c.region).map s.actingRegion).dedup) Act.captureRegion).run s) :=
    Act.keeps_each BelowKept.frame _ Act.captureRegion_below s
  have hregions := hregions s
  rw [hrun]
  generalize (Act.each (((scopeRegions c.scope c.region).map s.actingRegion).dedup) Act.captureRegion).run s = t at hregions hbelow
  have hend : Within [.FAB_CAP_STATUS] [] [.fab] (.captureEnd result) := .all ⟨.setF, .setB, .setF, .setFab⟩
  have hin : Within [.FAB_CAP_STATUS, .FAB_CAP_STAMP_LO, .FAB_CAP_STAMP_HI] [] [.fab] (.captureStamps (s.f F.FAB_CAP_STATUS_SEQ) s.ns result) :=
    .all ⟨.setF, .setR, .setR, hend.mono⟩
  have hstamps := hin t
  refine ⟨?_, ?_, ?_, ?_, ?_, ?_, ?_, fun n i j k hn => (hstamps.namesKept n i j k hn).trans (hregions.namesKept n i j k List.not_mem_nil), ?_⟩
  · simp +decide [Act.captureStamps, Act.captureEnd]
  · simp +decide [Act.captureStamps, Act.captureEnd, State.b]
  · simp +decide [Act.captureStamps, Act.captureEnd]
    exact Nat.mod_eq_of_lt (show result < 2 ^ 3 by omega)
  · simp +decide [Act.captureStamps, Act.captureEnd]
    rfl
  · simp +decide [Act.captureStamps, Act.captureEnd, Act.setR_r_ne]
    exact BitVec.and_allOnes
  · simp +decide [Act.captureStamps, Act.captureEnd]
    exact BitVec.and_allOnes
  · rfl
  · exact fun b hb => (hstamps.bytesKept (by decide) b).trans (hbelow b hb)

theorem captureSnapshot_takes (hcapture : s.fab.capture = some c) (hfires : s.captureFires c = true) (hstill : s.scopeMoves c = false)
    (hclk : s.fclkLocked c.clk = true) : Answers .captureSnapshot s fun t => CaptureTaken s t (if c.deferred then 3 else 0) := by
  have hrun := Act.captureEdge_run (edge := true) hcapture hfires hclk
  rw [if_neg (by rw [hstill]; exact Bool.false_ne_true)] at hrun
  have hresult : (if c.deferred then 3 else 0) < 4 := by split <;> decide
  refine ⟨_, rfl, ?_⟩
  rw [hrun]
  exact Act.snapshot_taken _ hresult s

theorem captureNoClock_takes (hcapture : s.fab.capture = some c) (hfires : s.captureFires c = true) (hstill : s.scopeMoves c = false)
    (hstate : s.f F.FAB_CAP_STATUS_STATE = 1) (hlate : c.at_ + 328 ≤ s.clk) : Answers .captureNoClock s fun t => CaptureTaken s t 2 := by
  have hrun := Act.captureEdge_run (edge := false) hcapture hfires (by rw [hstate, decide_eq_true hlate]; rfl)
  rw [if_neg (by rw [hstill]; exact Bool.false_ne_true)] at hrun
  refine ⟨_, rfl, ?_⟩
  rw [hrun]
  exact Act.snapshot_taken 2 (by decide) s

/-- Settles O49: each command by its lemma. -/
theorem fabricPorts : Obligations.FabricPorts := by
  unfold Obligations.FabricPorts
  intro s src v w i r k n d a e t8 p l c addr x
  exact ⟨fclkLock_locks, fclkLock_off, fclkLost_shows, bramEcc_corrects, bramEcc_flips,
    fun hopen hsrc => ⟨userRegisterWrite_waits hopen hsrc, userRegisterRead_waits hopen hsrc⟩, userRegisterRead_refused,
    fun hfirst => ⟨userRegisterReady_ends hfirst, userRegisterTimeout_early, userRegisterTimeout_late hfirst⟩,
    fun hrel hup hfree => ⟨fun _ => masterPortWrite_writes hrel hfree, masterPortWrite_refused hrel hup hfree⟩, masterPortWrite_unreleased,
    doorbellOutlet_rings, doorbellOutlet_unreleased, fun hw => ⟨tapConfig_stores hw, tapConfig_refused hw⟩,
    fun hw => ⟨fun hstart hidle hscope => ⟨captureStart_begins hw hstart hidle hscope, captureStart_parked hw hstart hidle hscope⟩,
      captureStart_refused hw, captureArm_waits hw⟩,
    fun hcapture => ⟨captureTrigger_samples hcapture, captureSnapshot_defers hcapture, captureSnapshot_waits hcapture,
      fun hfires hstill => ⟨captureSnapshot_takes hcapture hfires hstill, captureNoClock_takes hcapture hfires hstill⟩⟩, captureTrigger_idle⟩

end Sys2Proof.Machine
end

section
-- One proof after another: elaborated side by side, the proofs of the whole text do not fit in the check's memory.
set_option Elab.async false
/-! The link level of the ring: packets that arrive, acknowledgements, resends and the state of a port (R399, R400, R405). -/

namespace Sys2Proof.Machine

variable {s : State} {p q : Port} {c d : Fin 2} {words : List DWord} {width : Fin 8} {partner : BitVec 6}

/-! ### Lanes -/

theorem lanes_set (v : Vector (Vector RingLane 2) 2) (i j : Fin 2) (x : RingLane → RingLane) :
    ((v.set i (v[i].set c (x v[i][c])))[j])[d] = if i = j ∧ c = d then x v[j][d] else v[j][d] := by
  simp only [Fin.getElem_fin, Fin.ext_iff]
  by_cases hi : i.val = j.val
  · simp only [hi, Vector.getElem_set_self, true_and]
    rw [Vector.getElem_set]
    split
    · next hc => simp only [hc]
    · rfl
  · simp only [Vector.getElem_set_ne _ _ hi, if_neg fun h : i.val = j.val ∧ c.val = d.val => hi h.1]

theorem Act.setLane_lane (x : RingLane → RingLane) (s : State) :
    ((Act.setLane p c x).run s).lane q d = if p = q ∧ c = d then x (s.lane q d) else s.lane q d := by
  have hports : portIndex p = portIndex q ↔ p = q := by cases p <;> cases q <;> decide
  exact (lanes_set s.ring.lanes (portIndex p) (portIndex q) x).trans (by simp only [hports]; rfl)

theorem Act.setLane_other (x : RingLane → RingLane) (s : State) (h : ¬(p = q ∧ c = d)) :
    ((Act.setLane p c x).run s).lane q d = s.lane q d := by
  rw [Act.setLane_lane, if_neg h]

theorem Act.setLane_f (x : RingLane → RingLane) (s : State) (f : Fld) (i j k : Nat) : ((Act.setLane p c x).run s).f f i j k = s.f f i j k := rfl

theorem Act.setLane_tx (x : RingLane → RingLane) (s : State) : ((Act.setLane p c x).run s).tx = s.tx := rfl

theorem otherPort_ne (p : Port) : otherPort p ≠ p := by cases p <;> decide

/-- A lane expects the same LSEQ. -/
def ExpectKept (p : Port) (c : Fin 2) (s t : State) : Prop := (t.lane p c).expect = (s.lane p c).expect

namespace ExpectKept

theorem frame : Frame (ExpectKept q d) := ⟨fun _ => rfl, fun h1 h2 => h2.trans h1⟩

theorem of_within {l : List RegName} {rs : List RegRef} {ps : List Part} {a : Act} (h : Within l rs ps a) (hp : Part.ring ∉ ps := by decide) :
    a.Keeps (ExpectKept q d) := fun s => by
  rw [ExpectKept, State.lane, State.lane, (h s).parts .ring hp]

theorem setLane {x : RingLane → RingLane} (hx : ∀ l, (x l).expect = l.expect := by intro; rfl) : (Act.setLane p c x).Keeps (ExpectKept q d) := fun s => by
  rw [ExpectKept, Act.setLane_lane]
  split
  · exact hx _
  · rfl

theorem launch : (Act.launch p c words).Keeps (ExpectKept q d) := Act.keeps_look fun _ => Act.keeps_all frame ⟨setLane, fun _ => rfl⟩

theorem drainLane {k : Nat} : (Act.drainLane p c k).Keeps (ExpectKept q d) := by
  induction k with
  | zero => exact Act.keeps_skip frame
  | succ k ih =>
    refine Act.keeps_look fun s => ?_
    split
    · exact Act.keeps_skip frame
    · exact Act.keeps_when frame (Act.keeps_all frame ⟨setLane, launch, ih⟩)

theorem drainAll : (Act.drainAll p c).Keeps (ExpectKept q d) := Act.keeps_look fun _ => drainLane

theorem enqueue : (Act.enqueue p words).Keeps (ExpectKept q d) := Act.keeps_all frame ⟨setLane, drainLane⟩

end ExpectKept

theorem Within.drainAll {l : List RegName} {rs : List RegRef} : Within l rs [.ring, .tx] (.drainAll p c) := .look fun _ => .drainLane

theorem Act.drainAll_empty (h : (s.lane p c).queue = []) : (Act.drainAll p c).run s = s := by
  rw [Act.drainAll, Act.look_run, h]
  rfl

/-! ### Packets that arrive -/

/-- R399: a packet whose trailer is right. -/
def PacketGood (words : List DWord) : Prop :=
  packetOk words.dropLast = true ∧ (words.getLastD 0).toNat / 2 ^ 42 = 0 ∧
    (packetCrc words.dropLast (bitsOf (words.getLastD 0).toNat 32 10)).toNat = (words.getLastD 0).toNat % 2 ^ 32

/-- The class that a packet's answer names. -/
def clsOf (words : List DWord) : RingCls := if laneOf words.dropLast = 1 then .maint else .data

/-- What a receiver makes of a packet. -/
def Act.linkTakes (p : Port) (words : List DWord) (s : State) : Act :=
  let body := words.dropLast
  let lseq := bitsOf (words.getLastD 0).toNat 32 10
  let c := laneOf body
  let cls := if c = 1 then RingCls.maint else .data
  let x := s.lane p c
  let last := (x.expect + 1023) % 1024
  let nak : Act := .when (!x.refusing) (.all [.setLane p c fun x => { x with refusing := true }, .send (.link p cls false last)])
  if !packetOk body || (words.getLastD 0).toNat / 2 ^ 42 != 0 || (packetCrc body lseq).toNat != (words.getLastD 0).toNat % 2 ^ 32 then
    .all [.count F.PORT_ERRS_CRC_ERR 1 (portIndex p), nak]
  else if lseq = x.expect then .all [
    .setLane p c fun x => { x with expect := (lseq + 1) % 1024, refusing := false }, .send (.link p cls true lseq), .packet p body]
  else if (x.expect + 1024 - lseq) % 1024 ≤ 512 then .when (!x.refusing) (.send (.link p cls true last))
  else nak

theorem Act.linkReceive_run (s : State) : (Act.linkReceive p words).run s =
    (Act.when (s.present && !s.ring.bypass && s.portUp p) (.linkTakes p words s)).run s := rfl

theorem Act.linkReceive_open (hpresent : s.present = true) (hbypass : s.ring.bypass = false) (hup : s.portUp p = true) :
    (Act.linkReceive p words).run s = (Act.linkTakes p words s).run s := by
  rw [Act.linkReceive_run, hpresent, hbypass, hup]
  rfl

theorem packetGood_iff : PacketGood words ↔ (!packetOk words.dropLast || (words.getLastD 0).toNat / 2 ^ 42 != 0 ||
    (packetCrc words.dropLast (bitsOf (words.getLastD 0).toNat 32 10)).toNat != (words.getLastD 0).toNat % 2 ^ 32) = false := by
  simp only [PacketGood, Bool.or_eq_false_iff, Bool.not_eq_false', bne_eq_false_iff_eq, and_assoc]

/-- A damaged packet is counted and answered with NAK. -/
def Act.linkRefuses (p : Port) (c : Fin 2) (cls : RingCls) (n : Nat) : Act := .all [.count F.PORT_ERRS_CRC_ERR 1 (portIndex p),
  .all [.setLane p c fun x => { x with refusing := true }, .send (.link p cls false n)]]

theorem Within.linkRefuses {cls : RingCls} {n : Nat} : Within [] [⟨.PORT_ERRS, portIndex p, 0, 0⟩] [.ring, .tx] (.linkRefuses p c cls n) :=
  .all ⟨.countAt, .all ⟨.setLane, .send⟩⟩

theorem Act.linkRefuses_refuses {cls : RingCls} {n : Nat} (s : State) : let u := (Act.linkRefuses p c cls n).run s
    Counted F.PORT_ERRS_CRC_ERR s u (portIndex p) ∧ (u.lane p c).refusing = true ∧ u.tx = s.tx ++ [.link p cls false n] := by
  intro u
  rw [show u = (Act.linkRefuses p c cls n).run s from rfl, Act.linkRefuses, Act.all_cons_run, Act.all_cons_run, Act.all_nil_run, Act.all_cons_run,
    Act.all_cons_run, Act.all_nil_run]
  have hcount := Act.count_f_same F.PORT_ERRS_CRC_ERR (portIndex p) 0 s (RegRef.valid_of (portIndex p).isLt) (by decide)
  have htx := Act.count_tx F.PORT_ERRS_CRC_ERR 1 (portIndex p) 0 0 s
  generalize (Act.count F.PORT_ERRS_CRC_ERR 1 (portIndex p)).run s = t at hcount htx
  refine ⟨?_, ?_, ?_⟩
  · rw [Counted, Act.send_f, Act.setLane_f]
    exact hcount
  · exact congrArg RingLane.refusing (State.lane_setLane t p c fun x => { x with refusing := true })
  · rw [Act.send_tx, Act.setLane_tx, htx]

/-- The lane of a class whose next packet has arrived. -/
def RingLane.took (n : Nat) (x : RingLane) : RingLane := { x with expect := (n + 1) % 1024, refusing := false }

/-- What a receiver does with the next packet of its class. -/
def Act.linkNext (p : Port) (words : List DWord) : Act := .all [
  .setLane p (laneOf words.dropLast) (RingLane.took (bitsOf (words.getLastD 0).toNat 32 10)),
  .send (.link p (clsOf words) true (bitsOf (words.getLastD 0).toNat 32 10))]

theorem Act.linkNext_lane (s : State) : ((Act.linkNext p words).run s).lane p (laneOf words.dropLast) =
    (s.lane p (laneOf words.dropLast)).took (bitsOf (words.getLastD 0).toNat 32 10) := State.lane_setLane s p (laneOf words.dropLast) (RingLane.took _)

theorem Act.linkNext_other (s : State) (h : q ≠ p) : ((Act.linkNext p words).run s).lane q c = s.lane q c :=
  Act.setLane_other (RingLane.took _) s fun hp => h hp.1.symm

section
variable (hpresent : s.present = true) (hbypass : s.ring.bypass = false) (hup : s.portUp p = true)
include hpresent hbypass hup

theorem packetReceive_damaged (hbad : ¬PacketGood words) (hopen : (s.lane p (laneOf words.dropLast)).refusing = false) :
    AnswersThenSettled (.ringPacketReceive p words) s fun u =>
      Counted F.PORT_ERRS_CRC_ERR s u (portIndex p) ∧ (u.lane p (laneOf words.dropLast)).refusing = true ∧
      u.tx = s.tx ++ [.link p (clsOf words) false (((s.lane p (laneOf words.dropLast)).expect + 1023) % 1024)] ∧
      RegsKept [⟨.PORT_ERRS, portIndex p, 0, 0⟩] s u ∧ u = { s with regs := u.regs, ring := u.ring, tx := u.tx } := by
  have hrun : (Act.linkReceive p words).run s =
      (Act.linkRefuses p (laneOf words.dropLast) (clsOf words) (((s.lane p (laneOf words.dropLast)).expect + 1023) % 1024)).run s := by
    rw [Act.linkReceive_open hpresent hbypass hup, Act.linkTakes, if_pos (Bool.eq_true_of_not_eq_false (mt packetGood_iff.mpr hbad)), hopen]
    rfl
  generalize (((s.lane p (laneOf words.dropLast)).expect + 1023) % 1024) = n at hrun
  generalize clsOf words = cls at hrun
  generalize laneOf words.dropLast = c at hrun
  have htouch := Within.linkRefuses (p := p) (c := c) (cls := cls) (n := n) s
  obtain ⟨hcount, hlane, htx⟩ := Act.linkRefuses_refuses (p := p) (c := c) (cls := cls) (n := n) s
  exact answersThenSettled_of rfl hrun ⟨hcount, hlane, htx, htouch.regsKept, htouch.rest⟩

theorem packetReceive_again (hgood : PacketGood words) (hnew : bitsOf (words.getLastD 0).toNat 32 10 ≠ (s.lane p (laneOf words.dropLast)).expect)
    (hold : ((s.lane p (laneOf words.dropLast)).expect + 1024 - bitsOf (words.getLastD 0).toNat 32 10) % 1024 ≤ 512)
    (hopen : (s.lane p (laneOf words.dropLast)).refusing = false) : AnswersThenSettled (.ringPacketReceive p words) s fun u =>
      u = { s with tx := s.tx ++ [.link p (clsOf words) true (((s.lane p (laneOf words.dropLast)).expect + 1023) % 1024)] } := by
  refine answersThenSettled_of rfl ?_ rfl
  rw [Act.linkReceive_open hpresent hbypass hup, Act.linkTakes,
    if_neg (by rw [packetGood_iff.mp hgood]; exact Bool.false_ne_true), if_neg hnew, if_pos hold, hopen, Bool.not_false, Act.when_true_run]
  rfl

theorem packetReceive_next (hgood : PacketGood words) (hnext : bitsOf (words.getLastD 0).toNat 32 10 = (s.lane p (laneOf words.dropLast)).expect)
    (htime : (headOf words.dropLast).kind ≠ pkTime) : (Act.linkReceive p words).run s =
      (if (headOf words.dropLast).bcast then Act.skip
        else if (headOf words.dropLast).dst = s.ownNumber then .execute words.dropLast
        else if (headOf words.dropLast).src = s.ownNumber ∧ !(headOf words.dropLast).rr then .deadPacket words.dropLast
        else .transmit (otherPort p) words.dropLast (.deadPacket words.dropLast)).run ((Act.linkNext p words).run s) := by
  rw [Act.linkReceive_open hpresent hbypass hup, Act.linkTakes,
    if_neg (by rw [packetGood_iff.mp hgood]; exact Bool.false_ne_true), if_pos hnext, Act.all_cons_run, Act.all_cons_run, Act.all_cons_run,
    Act.all_nil_run, Act.packet, Act.look_run]
  dsimp only
  rw [if_neg htime]
  rfl

theorem packetReceive_everyone (hgood : PacketGood words) (hnext : bitsOf (words.getLastD 0).toNat 32 10 = (s.lane p (laneOf words.dropLast)).expect)
    (htime : (headOf words.dropLast).kind ≠ pkTime) (hcast : (headOf words.dropLast).bcast = true) :
    AnswersThenSettled (.ringPacketReceive p words) s fun u => u.lane p (laneOf words.dropLast) =
      { s.lane p (laneOf words.dropLast) with expect := (bitsOf (words.getLastD 0).toNat 32 10 + 1) % 1024, refusing := false } ∧
      u.tx = s.tx ++ [.link p (clsOf words) true (bitsOf (words.getLastD 0).toNat 32 10)] ∧ u = { s with ring := u.ring, tx := u.tx } := by
  have hrun := packetReceive_next hpresent hbypass hup hgood hnext htime
  rw [if_pos hcast, Act.skip_run] at hrun
  exact answersThenSettled_of rfl hrun ⟨Act.linkNext_lane s, rfl, rfl⟩

theorem packetReceive_passes (hgood : PacketGood words) (hnext : bitsOf (words.getLastD 0).toNat 32 10 = (s.lane p (laneOf words.dropLast)).expect)
    (htime : (headOf words.dropLast).kind ≠ pkTime) (hcast : (headOf words.dropLast).bcast = false)
    (hdst : (headOf words.dropLast).dst ≠ s.ownNumber) (hsrc : (headOf words.dropLast).src ≠ s.ownNumber) (hother : s.portUp (otherPort p) = true)
    (hqueue : (s.lane (otherPort p) (laneOf words.dropLast)).queue = [])
    (hretry : (s.lane (otherPort p) (laneOf words.dropLast)).retry.length < 512) :
    AnswersThenSettled (.ringPacketReceive p words) s fun u =>
      u.tx = s.tx ++ [.link p (clsOf words) true (bitsOf (words.getLastD 0).toNat 32 10),
        .packet (otherPort p) (words.dropLast ++ [trailer words.dropLast (s.lane (otherPort p) (laneOf words.dropLast)).next])] ∧
      (u.lane p (laneOf words.dropLast)).expect = (bitsOf (words.getLastD 0).toNat 32 10 + 1) % 1024 ∧
      u = { s with ring := u.ring, tx := u.tx } := by
  have hrun := packetReceive_next hpresent hbypass hup hgood hnext htime
  have hlane : ((Act.linkNext p words).run s).lane (otherPort p) (laneOf words.dropLast) = s.lane (otherPort p) (laneOf words.dropLast) :=
    Act.linkNext_other s (otherPort_ne p)
  have hexpect := congrArg RingLane.expect (Act.linkNext_lane (p := p) (words := words) s)
  have htx : ((Act.linkNext p words).run s).tx = s.tx ++ [.link p (clsOf words) true (bitsOf (words.getLastD 0).toNat 32 10)] := rfl
  have hsame : (Act.linkNext p words).run s = { s with ring := ((Act.linkNext p words).run s).ring, tx := ((Act.linkNext p words).run s).tx } := rfl
  have hport : ((Act.linkNext p words).run s).portUp (otherPort p) = true := hother
  rw [if_neg (by rw [hcast]; exact Bool.false_ne_true), if_neg hdst, if_neg fun h => hsrc h.1, Act.transmit, Act.look_run] at hrun
  dsimp only at hrun
  generalize (Act.linkNext p words).run s = t at hrun hlane hexpect htx hsame hport
  rw [if_pos (by rw [State.linkAlive, hport]; rfl)] at hrun
  have hsends := Act.enqueue_sends (words := words.dropLast) rfl hport (hlane ▸ hqueue) (hlane ▸ hretry)
  have hkept : ExpectKept p (laneOf words.dropLast) t ((Act.enqueue (otherPort p) words.dropLast).run t) := ExpectKept.enqueue t
  have hrest := Act.enqueue_rest (p := otherPort p) (words := words.dropLast) t
  refine answersThenSettled_of rfl hrun ⟨?_, hkept.trans hexpect, ?_⟩
  · rw [hsends, htx, hlane, List.append_assoc]
    rfl
  · rw [hrest, hsame]

end

theorem packetReceive_closed (h : s.present = false ∨ s.ring.bypass = true ∨ s.portUp p = false) :
    AnswersThenSettled (.ringPacketReceive p words) s fun u => u = s := by
  have hclosed : (s.present && !s.ring.bypass && s.portUp p) = false := by
    rcases h with h | h | h <;> simp [h]
  refine answersThenSettled_of rfl ?_ rfl
  rw [Act.linkReceive_run, hclosed, Act.when_false_run]

/-! ### Acknowledgements and resends -/

theorem Act.ringAck_run {lseq : Nat} (hqueue : (s.lane p c).queue = []) : (Act.ringAck p c lseq).run s =
    (Act.setLane p c fun l => { l with retry := ackDrop l.retry lseq }).run s := by
  rw [Act.ringAck, Act.all_cons_run, Act.all_cons_run, Act.all_nil_run]
  refine Act.drainAll_empty ?_
  rw [State.lane_setLane]
  exact hqueue

theorem ringAck_drops {cls : RingCls} {lseq : BitVec 10} (hqueue : (s.lane p (laneClass cls)).queue = []) :
    AnswersThenSettled (.ringAck p cls lseq) s fun u =>
      u.lane p (laneClass cls) = { s.lane p (laneClass cls) with retry := ackDrop (s.lane p (laneClass cls)).retry lseq.toNat } ∧
      u = { s with ring := u.ring } :=
  answersThenSettled_of rfl (Act.ringAck_run hqueue) ⟨State.lane_setLane .., rfl⟩

theorem Act.sendEach_run {α : Type} (x : α → Tx) (l : List α) (s : State) :
    (Act.each l fun e => .send (x e)).run s = { s with tx := s.tx ++ l.map x } := by
  induction l generalizing s with
  | nil => simp only [Act.each_nil_run, List.map_nil, List.append_nil]
  | cons e l ih =>
    rw [Act.each_cons_run, ih, Act.send_run, List.map_cons]
    simp only [List.append_assoc, List.singleton_append]

/-- What a port sends again. -/
def resends (p : Port) (l : List RingSent) : List Tx := l.map fun e => .packet p (e.words ++ [trailer e.words e.lseq])

/-- R400: a class sends its retry buffer again at the clock `now`. -/
def Act.resendActs (p : Port) (c : Fin 2) (l : List RingSent) (now : Nat) : Act := .all [
  .count F.PORT_ERRS_RETRIES 1 (portIndex p),
  .setLane p c fun x => { x with retry := x.retry.map fun e => { e with times := e.times + 1, at_ := now } },
  .each l fun e => .send (.packet p (e.words ++ [trailer e.words e.lseq]))]

theorem Within.resendActs {l : List RingSent} {now : Nat} : Within [] [⟨.PORT_ERRS, portIndex p, 0, 0⟩] [.ring, .tx] (.resendActs p c l now) :=
  .all ⟨.countAt, .setLane, .each fun _ => .send⟩

theorem Act.resendActs_sends (l : List RingSent) (now : Nat) (s : State) : let u := (Act.resendActs p c l now).run s
    u.tx = s.tx ++ resends p l ∧ Counted F.PORT_ERRS_RETRIES s u (portIndex p) ∧
    (u.lane p c).retry = (s.lane p c).retry.map fun e => { e with times := e.times + 1, at_ := now } := by
  intro u
  rw [show u = (Act.resendActs p c l now).run s from rfl, Act.resendActs, Act.all_cons_run, Act.all_cons_run, Act.all_cons_run, Act.all_nil_run,
    Act.sendEach_run]
  have hcount := Act.count_f_same F.PORT_ERRS_RETRIES (portIndex p) 0 s (RegRef.valid_of (portIndex p).isLt) (by decide)
  have htx := Act.count_tx F.PORT_ERRS_RETRIES 1 (portIndex p) 0 0 s
  have hring := Act.count_ring F.PORT_ERRS_RETRIES 1 (portIndex p) 0 0 s
  generalize (Act.count F.PORT_ERRS_RETRIES 1 (portIndex p)).run s = t at hcount htx hring
  have hlane : s.lane p c = t.lane p c := by rw [State.lane, State.lane, hring]
  refine ⟨?_, hcount, ?_⟩
  · rw [← htx]
    rfl
  · rw [hlane]
    exact congrArg RingLane.retry (State.lane_setLane t p c fun x =>
      { x with retry := x.retry.map fun e => { e with times := e.times + 1, at_ := now } })

theorem Act.resend_run (hup : s.portUp p = true) (hsome : (s.lane p c).retry ≠ []) : (Act.resend p c).run s =
    (Act.when ((s.lane p c).retry.any fun e => decide (7 ≤ e.times)) (.linkDown p)).run ((Act.resendActs p c (s.lane p c).retry s.clk).run s) := by
  have hsome : ((s.lane p c).retry != []) = true := by rw [bne_iff_ne]; exact hsome
  rw [Act.resend, Act.look_run]
  dsimp only
  rw [hup, hsome, Bool.and_true, Act.when_true_run]
  rfl

theorem Act.resend_calm (hup : s.portUp p = true) (hsome : (s.lane p c).retry ≠ [])
    (hcalm : ((s.lane p c).retry.any fun e => decide (7 ≤ e.times)) = false) :
    (Act.resend p c).run s = (Act.resendActs p c (s.lane p c).retry s.clk).run s := by
  rw [Act.resend_run hup hsome, hcalm, Act.when_false_run]

theorem Act.resend_empty (h : (s.lane p c).retry = []) : (Act.resend p c).run s = s := by
  rw [Act.resend, Act.look_run]
  dsimp only
  rw [h, bne_self_eq_false, Bool.and_false, Act.when_false_run]

theorem ringNak_resends {cls : RingCls} {lseq : BitVec 10} (hqueue : (s.lane p (laneClass cls)).queue = []) (hup : s.portUp p = true)
    (hcalm : ackDrop (s.lane p (laneClass cls)).retry lseq.toNat ≠ [] ∧
      ((ackDrop (s.lane p (laneClass cls)).retry lseq.toNat).any fun e => decide (7 ≤ e.times)) = false) :
    AnswersThenSettled (.ringNak p cls lseq) s fun u =>
      u.tx = s.tx ++ resends p (ackDrop (s.lane p (laneClass cls)).retry lseq.toNat) ∧ Counted F.PORT_ERRS_RETRIES s u (portIndex p) ∧
      (u.lane p (laneClass cls)).retry =
        (ackDrop (s.lane p (laneClass cls)).retry lseq.toNat).map (fun e => { e with times := e.times + 1, at_ := s.clk }) ∧
      RegsKept [⟨.PORT_ERRS, portIndex p, 0, 0⟩] s u := by
  have hrun : (Act.all [.ringAck p (laneClass cls) lseq.toNat, .resend p (laneClass cls)]).run s = (Act.resend p (laneClass cls)).run
      ((Act.setLane p (laneClass cls) fun l => { l with retry := ackDrop l.retry lseq.toNat }).run s) := by
    rw [Act.all_cons_run, Act.all_cons_run, Act.all_nil_run, Act.ringAck_run hqueue]
  have hretry : (((Act.setLane p (laneClass cls) fun l => { l with retry := ackDrop l.retry lseq.toNat }).run s).lane p (laneClass cls)).retry =
      ackDrop (s.lane p (laneClass cls)).retry lseq.toNat := by rw [State.lane_setLane]
  have hset : Within [] [⟨.PORT_ERRS, portIndex p, 0, 0⟩] [.ring, .tx] (.setLane p (laneClass cls) fun l => { l with retry := ackDrop l.retry lseq.toNat }) := .setLane
  have hset := hset s
  have hup : ((Act.setLane p (laneClass cls) fun l => { l with retry := ackDrop l.retry lseq.toNat }).run s).portUp p = true := hup
  have hclk : ((Act.setLane p (laneClass cls) fun l => { l with retry := ackDrop l.retry lseq.toNat }).run s).clk = s.clk := rfl
  have htx : ((Act.setLane p (laneClass cls) fun l => { l with retry := ackDrop l.retry lseq.toNat }).run s).tx = s.tx := rfl
  have hcount : ((Act.setLane p (laneClass cls) fun l => { l with retry := ackDrop l.retry lseq.toNat }).run s).f F.PORT_ERRS_RETRIES (portIndex p) =
    s.f F.PORT_ERRS_RETRIES (portIndex p) := rfl
  generalize (Act.setLane p (laneClass cls) fun l => { l with retry := ackDrop l.retry lseq.toNat }).run s = t at *
  rw [← hretry] at hcalm ⊢
  rw [Act.resend_calm hup hcalm.1 hcalm.2] at hrun
  obtain ⟨hsends, hcounted, hlane⟩ := Act.resendActs_sends (p := p) (c := laneClass cls) (t.lane p (laneClass cls)).retry t.clk t
  refine answersThenSettled_of rfl hrun ⟨hsends.trans (by rw [htx]), ?_, ?_, (hset.trans (Within.resendActs t)).regsKept⟩
  · rw [Counted, ← hcount]
    exact hcounted
  · rw [← hclk]
    exact hlane

theorem retryTimeout_early {cls : RingCls} (h : s.ackLate p (laneClass cls) = false) :
    AnswersThenSettled (.ringRetryTimeout p cls) s fun u => u = s := by
  refine answersThenSettled_of rfl ?_ rfl
  rw [Act.look_run, h, Act.when_false_run]

theorem State.ackLate_some (h : s.ackLate p c = true) : (s.lane p c).retry ≠ [] := fun hnil => by
  rw [State.ackLate, hnil] at h
  exact Bool.false_ne_true h

theorem retryTimeout_resends {cls : RingCls} (hup : s.portUp p = true)
    (hcalm : ((s.lane p (laneClass cls)).retry.any fun e => decide (7 ≤ e.times)) = false) (h : s.ackLate p (laneClass cls) = true) :
    AnswersThenSettled (.ringRetryTimeout p cls) s fun u => u.tx = s.tx ++ resends p (s.lane p (laneClass cls)).retry ∧
      Counted F.PORT_ERRS_RETRIES s u (portIndex p) ∧ RegsKept [⟨.PORT_ERRS, portIndex p, 0, 0⟩] s u := by
  obtain ⟨hsends, hcounted, -⟩ := Act.resendActs_sends (p := p) (c := laneClass cls) (s.lane p (laneClass cls)).retry s.clk s
  refine answersThenSettled_of rfl ?_ ⟨hsends, hcounted, (Within.resendActs s).regsKept⟩
  rw [Act.look_run, h, Act.when_true_run, Act.resend_calm hup (State.ackLate_some h) hcalm]

/-! ### Ports -/

theorem linkPause_pauses (hup : s.portUp p = true) : Answers (.linkPause p) s fun t =>
    t.portState p = portPaused ∧ t.ring.lost[portIndex p] = some s.clk ∧ RegsKept [⟨.PORT_STATUS, portIndex p, 0, 0⟩] s t ∧
    t = { s with regs := t.regs, ring := t.ring } := by
  have hrun : (Act.linkPause p).run s = (Act.setRing fun r => { r with lost := r.lost.set (portIndex p) (some s.clk) }).run
      ((Act.setF F.PORT_STATUS_STATE portPaused (portIndex p)).run s) := by
    rw [Act.linkPause, Act.look_run]
    dsimp only
    rw [hup, Act.when_true_run, Act.all_cons_run, Act.all_cons_run, Act.all_nil_run]
  have hset : Within [] [⟨.PORT_STATUS, portIndex p, 0, 0⟩] [.ring] (.setF F.PORT_STATUS_STATE portPaused (portIndex p)) := .setFAt
  have hlost : Within [] [⟨.PORT_STATUS, portIndex p, 0, 0⟩] [.ring] (.setRing fun r => { r with lost := r.lost.set (portIndex p) (some s.clk) }) := .setRing
  have hstate := Act.setF_f_same F.PORT_STATUS_STATE portPaused (portIndex p) 0 0 s (RegRef.valid_of (portIndex p).isLt) (by decide)
  have hset := hset s
  generalize (Act.setF F.PORT_STATUS_STATE portPaused (portIndex p)).run s = t at hrun hset hstate
  have htouch := hset.trans (hlost t)
  rw [← hrun] at htouch
  refine ⟨_, rfl, ?_, ?_, htouch.regsKept, htouch.rest⟩
  · rw [State.portState, hrun]
    exact hstate
  · rw [hrun]
    simp only [Act.setRing_ring, Fin.getElem_fin, Vector.getElem_set_self]

theorem State.linkAlive_of_up (h : s.portUp p = true) : s.linkAlive p = true := by
  rw [State.linkAlive, h]
  rfl

theorem State.linkAlive_of_paused (h : s.portState p = portPaused) : s.linkAlive p = true := by
  rw [State.linkAlive, h]
  exact Bool.or_true _

/-- R405: what a port shows as its link goes down at the clock `now`. -/
def Act.linkShowsDown (p : Port) (now : Nat) : Act := .all [
  .setF F.PORT_STATUS_STATE portDown (portIndex p), .setF F.PORT_STATUS_WIDTH 0 (portIndex p), .setF F.PORT_STATUS_PARTNER 0 (portIndex p),
  .setB F.PORT_STATUS_PARTNER_VALID false (portIndex p), .count F.PORT_LINKS_DOWNS 1 (portIndex p), .setB F.COLYS_EVENTS_BREAK true,
  .setTim fun t => { t with heard := t.heard.set (portIndex p) none },
  .setRing fun r => { r with lost := r.lost.set (portIndex p) (some now) }]

/-- R406: the lanes of a port start anew, and its packets are turned back. -/
def Act.linkTurnsBack (p : Port) (l : List (List DWord)) : Act := .all [
  .each [1, 0] fun c => .setLane p c fun _ => ⟨0, 0, [], [], false⟩,
  .each l fun w => .transmit p w (.deadPacket w)]

theorem Act.linkDown_run (h : s.linkAlive p = true) : (Act.linkDown p).run s =
    (Act.linkTurnsBack p (((s.lane p 1).retry.map RingSent.words ++ (s.lane p 1).queue) ++
      ((s.lane p 0).retry.map RingSent.words ++ (s.lane p 0).queue))).run ((Act.linkShowsDown p s.clk).run s) := by
  rw [Act.linkDown, Act.look_run]
  dsimp only
  rw [h, Act.when_true_run]
  simp only [Act.linkTurnsBack, Act.linkShowsDown, Act.all_cons_run, Act.all_nil_run]

theorem Within.linkShowsDown {now : Nat} : Within [.PORT_STATUS, .PORT_LINKS, .COLYS_EVENTS] [] [.tim, .ring] (.linkShowsDown p now) :=
  .all ⟨.setF, .setF, .setF, .setB, .count, .setB, .setTim, .setRing⟩

theorem Within.linkTurnsBack {l : List (List DWord)} : Within [.COLYS_COUNTS] [] [.ring, .tx] (.linkTurnsBack p l) :=
  .all ⟨.each fun _ => .setLane, .each fun _ => .transmit .deadPacket⟩

theorem RingAside.linkTurnsBack {l : List (List DWord)} : (Act.linkTurnsBack p l).Keeps RingAside :=
  Act.keeps_all frame ⟨Act.keeps_each frame _ fun _ => setLane, Act.keeps_each frame _ fun _ => transmit deadPacket⟩

/-- What a link that has gone down leaves. -/
structure LinkDowned (p : Port) (s u : State) : Prop where
  state : u.portState p = portDown
  width : u.f F.PORT_STATUS_WIDTH (portIndex p) = 0
  partner : u.b F.PORT_STATUS_PARTNER_VALID (portIndex p) = false
  downs : Counted F.PORT_LINKS_DOWNS s u (portIndex p)
  break_ : u.b F.COLYS_EVENTS_BREAK = true
  heard : u.tim.heard[portIndex p] = none
  lost : u.ring.lost[portIndex p] = some s.clk
  bypass : u.ring.bypass = s.ring.bypass
  touches : Touches [.PORT_STATUS, .PORT_LINKS, .COLYS_EVENTS, .COLYS_COUNTS] [] [.tim, .ring, .tx] s u

theorem Act.linkShowsDown_shows (s : State) : LinkDowned p s ((Act.linkShowsDown p s.clk).run s) where
  state := by simp +decide [Act.linkShowsDown, State.portState]
  width := by simp +decide [Act.linkShowsDown]
  partner := by simp +decide [Act.linkShowsDown, State.b]
  downs := by simp +decide [Act.linkShowsDown, Counted]
  break_ := by simp +decide [Act.linkShowsDown, State.b]
  heard := by simp only [Act.linkShowsDown, Act.all_cons_run, Act.all_nil_run, Act.setRing_run, Act.setTim_tim, Fin.getElem_fin, Vector.getElem_set_self]
  lost := by simp only [Act.linkShowsDown, Act.all_cons_run, Act.all_nil_run, Act.setRing_ring, Fin.getElem_fin, Vector.getElem_set_self]
  bypass := by
    simp only [Act.linkShowsDown, Act.all_cons_run, Act.all_nil_run, Act.setRing_ring, Act.setTim_run, Act.setB_ring, Act.count_ring, Act.setF_ring]
  touches := (Within.linkShowsDown s).mono

theorem Act.linkDown_downs (h : s.linkAlive p = true) : LinkDowned p s ((Act.linkDown p).run s) := by
  rw [Act.linkDown_run h]
  have hshows := Act.linkShowsDown_shows (p := p) s
  generalize (Act.linkShowsDown p s.clk).run s = t at hshows
  generalize (((s.lane p 1).retry.map RingSent.words ++ (s.lane p 1).queue) ++ ((s.lane p 0).retry.map RingSent.words ++ (s.lane p 0).queue)) = l
  have htouch := (Within.linkTurnsBack (p := p) (l := l)) t
  have haside := (RingAside.linkTurnsBack (p := p) (l := l)) t
  generalize (Act.linkTurnsBack p l).run t = u at htouch haside
  exact {
    state := (htouch.f_eq (portIndex p) 0 0).trans hshows.state
    width := (htouch.f_eq (portIndex p) 0 0).trans hshows.width
    partner := (htouch.b_eq (portIndex p) 0 0).trans hshows.partner
    downs := (htouch.f_eq (portIndex p) 0 0).trans hshows.downs
    break_ := (htouch.b_eq 0 0 0).trans hshows.break_
    heard := (congrArg (fun x : TimeSt => x.heard[portIndex p]) (htouch.parts .tim (by decide))).trans hshows.heard
    lost := (congrArg (fun x : RingSt => x.lost[portIndex p]) haside).trans hshows.lost
    bypass := haside.bypass.trans hshows.bypass
    touches := hshows.touches.trans htouch.mono }

theorem retryTimeout_downs {cls : RingCls} (hup : s.portUp p = true)
    (hmany : ((s.lane p (laneClass cls)).retry.any fun e => decide (7 ≤ e.times)) = true) (h : s.ackLate p (laneClass cls) = true) :
    AnswersThenSettled (.ringRetryTimeout p cls) s fun u =>
      u.portState p = portDown ∧ Counted F.PORT_LINKS_DOWNS s u (portIndex p) ∧ u.b F.COLYS_EVENTS_BREAK = true := by
  have hrun : (Act.look fun t => .when (t.ackLate p (laneClass cls)) (.resend p (laneClass cls))).run s =
      (Act.linkDown p).run ((Act.resendActs p (laneClass cls) (s.lane p (laneClass cls)).retry s.clk).run s) := by
    rw [Act.look_run, h, Act.when_true_run, Act.resend_run hup (State.ackLate_some h), hmany, Act.when_true_run]
  have htouch := (Within.resendActs (p := p) (c := laneClass cls) (l := (s.lane p (laneClass cls)).retry) (now := s.clk) s).regsKept
  generalize (Act.resendActs p (laneClass cls) (s.lane p (laneClass cls)).retry s.clk).run s = t at hrun htouch
  have hup : t.portUp p = true := by
    rw [State.portUp, State.portState, State.f, htouch _ _ _ _ (by simp +decide)]
    exact hup
  have hdown := Act.linkDown_downs (State.linkAlive_of_up hup)
  refine answersThenSettled_of rfl hrun ⟨hdown.state, hdown.downs.trans ?_, hdown.break_⟩
  rw [State.f, htouch _ _ _ _ (by simp +decide)]
  rfl

theorem linkDown_over (h : s.pauseOver p = true) : AnswersThenSettled (.linkDown p) s fun u =>
    u.portState p = portDown ∧ u.f F.PORT_STATUS_WIDTH (portIndex p) = 0 ∧ u.b F.PORT_STATUS_PARTNER_VALID (portIndex p) = false ∧
    Counted F.PORT_LINKS_DOWNS s u (portIndex p) ∧ u.b F.COLYS_EVENTS_BREAK = true ∧ u.tim.heard[portIndex p] = none := by
  have hpaused : s.portState p = portPaused := beq_iff_eq.mp (Bool.and_eq_true_iff.mp h).1
  have hdown := Act.linkDown_downs (State.linkAlive_of_paused hpaused)
  refine answersThenSettled_of rfl ?_ ⟨hdown.state, hdown.width, hdown.partner, hdown.downs, hdown.break_, hdown.heard⟩
  rw [h, Act.when_true_run]

theorem linkDown_early (h : s.pauseOver p = false) : AnswersThenSettled (.linkDown p) s fun u => u = s := by
  refine answersThenSettled_of rfl ?_ rfl
  rw [h, Act.when_false_run]

/-! ### Ports that train -/

/-- What a port shows as its link trains. -/
def Act.linkShowsTrained (p : Port) (width : Nat) (partner : BitVec 6) : Act := .all [
  .setF F.PORT_STATUS_WIDTH width (portIndex p), .setF F.PORT_STATUS_PARTNER partner.toNat (portIndex p),
  .setB F.PORT_STATUS_PARTNER_VALID true (portIndex p)]

/-- The registers of a link that comes up again. -/
def Act.linkReturns (p : Port) (rejoin : Bool) : Act := .all [
  .when rejoin (.setB F.COLYS_EVENTS_REJOIN true), .setF F.PORT_STATUS_STATE portIsUp (portIndex p),
  .setRing fun r => { r with lost := r.lost.set (portIndex p) none }]

/-- A lane starts anew, with the packets that wait. -/
def Act.laneAnew (p : Port) (c : Fin 2) : Act := .all [
  .setLane p c fun l => { l with expect := 0, next := 0, retry := [], refusing := false }, .drainAll p c]

/-- A link comes up with a fresh LSEQ. -/
def Act.linkFresh (p : Port) (rejoin : Bool) : Act := .all [.linkReturns p rejoin, .laneAnew p 1, .laneAnew p 0]

theorem Act.linkUp_run {width : Nat} (hpresent : s.present = true) (hbypass : s.ring.bypass = false) (hwidth : laneWidth width = true)
    (hdown : s.portUp p = false) : (Act.linkUp p width partner).run s =
      (if s.portState p = portPaused then .linkResumes p else .linkFresh p (s.ring.lost[portIndex p]).isSome : Act).run
        ((Act.linkShowsTrained p width partner).run s) := by
  rw [Act.linkUp, Act.look_run]
  dsimp only
  rw [hpresent, hbypass, hwidth, hdown, Bool.not_false, Bool.and_true, Bool.and_true, Bool.and_true, Act.when_true_run]
  simp only [Act.linkShowsTrained, Act.all_cons_run, Act.all_nil_run]
  split
  · rfl
  · simp only [Act.linkFresh, Act.linkReturns, Act.laneAnew, Act.all_cons_run, Act.all_nil_run, Act.each_cons_run, Act.each_nil_run]

theorem Within.linkShowsTrained {width : Nat} : Within [.PORT_STATUS] [] [] (.linkShowsTrained p width partner) := .all ⟨.setF, .setF, .setB⟩

theorem Within.laneAnew {l : List RegName} {rs : List RegRef} : Within l rs [.ring, .tx] (.laneAnew p c) := .all ⟨.setLane, .drainAll⟩

theorem Within.linkReturns {rejoin : Bool} : Within [.COLYS_EVENTS, .PORT_STATUS] [] [.ring] (.linkReturns p rejoin) :=
  .all ⟨.when .setB, .setF, .setRing⟩

/-- R405: the state and the number of pauses of a link that is up again after one. -/
def Act.linkShowsUp (p : Port) : Act := .all [
  .setF F.PORT_STATUS_STATE portIsUp (portIndex p), .count F.PORT_LINKS_PAUSES 1 (portIndex p),
  .setRing fun r => { r with lost := r.lost.set (portIndex p) none }]

theorem Act.linkShowsUp_lane (s : State) : ((Act.linkShowsUp p).run s).lane q c = s.lane q c := by
  rw [State.lane, State.lane]
  simp only [Act.linkShowsUp, Act.all_cons_run, Act.all_nil_run, Act.setRing_ring, Act.count_ring, Act.setF_ring]

/-- A link without packets to send again is up again with what waits. -/
theorem Act.linkResumes_run (h0 : (s.lane p 0).retry = []) (h1 : (s.lane p 1).retry = []) : (Act.linkResumes p).run s =
    (Act.all [.drainAll p 1, .drainAll p 0]).run ((Act.linkShowsUp p).run s) := by
  have hlane1 := Act.linkShowsUp_lane (p := p) (q := p) (c := 1) s
  have hlane0 := Act.linkShowsUp_lane (p := p) (q := p) (c := 0) s
  have hrun : (Act.linkResumes p).run s =
      (Act.all [.resend p 1, .resend p 0, .drainAll p 1, .drainAll p 0]).run ((Act.linkShowsUp p).run s) := by
    simp only [Act.linkResumes, Act.linkShowsUp, Act.all_cons_run, Act.all_nil_run]
  have hresend1 : (Act.resend p 1).run ((Act.linkShowsUp p).run s) = (Act.linkShowsUp p).run s := Act.resend_empty (by rw [hlane1]; exact h1)
  have hresend0 : (Act.resend p 0).run ((Act.linkShowsUp p).run s) = (Act.linkShowsUp p).run s := Act.resend_empty (by rw [hlane0]; exact h0)
  rw [hrun, Act.all_cons_run, Act.all_cons_run, hresend1, hresend0]

theorem Within.linkShowsUp : Within [.PORT_STATUS, .PORT_LINKS] [] [.ring] (.linkShowsUp p) := .all ⟨.setF, .count, .setRing⟩

/-- What a link that is up again after a pause leaves. -/
structure LinkResumed (p : Port) (s u : State) : Prop where
  state : u.portState p = portIsUp
  width : u.f F.PORT_STATUS_WIDTH (portIndex p) = s.f F.PORT_STATUS_WIDTH (portIndex p)
  degraded : u.b F.PORT_STATUS_DEGRADED (portIndex p) = s.b F.PORT_STATUS_DEGRADED (portIndex p)
  pauses : Counted F.PORT_LINKS_PAUSES s u (portIndex p)
  expect : ∀ c, (u.lane p c).expect = (s.lane p c).expect
  touches : Touches [.PORT_STATUS, .PORT_LINKS] [] [.ring, .tx] s u

theorem Act.linkResumes_resumes (h0 : (s.lane p 0).retry = []) (h1 : (s.lane p 1).retry = []) : LinkResumed p s ((Act.linkResumes p).run s) := by
  rw [Act.linkResumes_run h0 h1]
  have hdrains : Within [] [] [.ring, .tx] (.all [.drainAll p 1, .drainAll p 0]) := .all ⟨.drainAll, .drainAll⟩
  have hexpect : ∀ c, (Act.all [.drainAll p 1, .drainAll p 0]).Keeps (ExpectKept p c) :=
    fun c => Act.keeps_all ExpectKept.frame ⟨ExpectKept.drainAll, ExpectKept.drainAll⟩
  have htouch := hdrains ((Act.linkShowsUp p).run s)
  exact {
    state := (htouch.f_eq (portIndex p) 0 0).trans (by simp +decide [Act.linkShowsUp])
    width := (htouch.f_eq (portIndex p) 0 0).trans (by simp +decide [Act.linkShowsUp])
    degraded := (htouch.b_eq (portIndex p) 0 0).trans (by simp +decide [Act.linkShowsUp, State.b])
    pauses := (htouch.f_eq (portIndex p) 0 0).trans (by simp +decide [Act.linkShowsUp])
    expect := fun c => (hexpect c _).trans (congrArg RingLane.expect (Act.linkShowsUp_lane s))
    touches := (Within.linkShowsUp s).mono.trans htouch.mono }

/-- What a link that has come up with a fresh LSEQ leaves. -/
structure LinkFreshed (p : Port) (rejoin : Bool) (s u : State) : Prop where
  state : u.portState p = portIsUp
  width : u.f F.PORT_STATUS_WIDTH (portIndex p) = s.f F.PORT_STATUS_WIDTH (portIndex p)
  partner : u.f F.PORT_STATUS_PARTNER (portIndex p) = s.f F.PORT_STATUS_PARTNER (portIndex p)
  valid : u.b F.PORT_STATUS_PARTNER_VALID (portIndex p) = s.b F.PORT_STATUS_PARTNER_VALID (portIndex p)
  expect0 : (u.lane p 0).expect = 0
  expect1 : (u.lane p 1).expect = 0
  rejoins : rejoin = true → u.b F.COLYS_EVENTS_REJOIN = true
  events : u.b F.COLYS_EVENTS_BREAK = s.b F.COLYS_EVENTS_BREAK
  touches : Touches [.PORT_STATUS, .COLYS_EVENTS] [] [.ring, .tx] s u

theorem Act.laneAnew_expect (s : State) : (((Act.laneAnew p c).run s).lane p c).expect = 0 := by
  rw [Act.laneAnew, Act.all_cons_run, Act.all_cons_run, Act.all_nil_run]
  have hlane := State.lane_setLane s p c fun l => { l with expect := 0, next := 0, retry := [], refusing := false }
  have hkept : ∀ t, ExpectKept p c t ((Act.drainAll p c).run t) := fun t => ExpectKept.drainAll t
  exact (hkept _).trans (congrArg RingLane.expect hlane)

theorem Act.laneAnew_other (h : c ≠ d) (s : State) : (((Act.laneAnew p c).run s).lane p d).expect = (s.lane p d).expect := by
  rw [Act.laneAnew, Act.all_cons_run, Act.all_cons_run, Act.all_nil_run]
  have hlane := Act.setLane_other (p := p) (q := p) (c := c) (d := d) (fun l => { l with expect := 0, next := 0, retry := [], refusing := false }) s fun hc => h hc.2
  have hkept : ∀ t, ExpectKept p d t ((Act.drainAll p c).run t) := fun t => ExpectKept.drainAll t
  exact (hkept _).trans (congrArg RingLane.expect hlane)

theorem Act.linkFresh_freshes (rejoin : Bool) (s : State) : LinkFreshed p rejoin s ((Act.linkFresh p rejoin).run s) := by
  have hrun : (Act.linkFresh p rejoin).run s = (Act.laneAnew p 0).run ((Act.laneAnew p 1).run ((Act.linkReturns p rejoin).run s)) := by
    simp only [Act.linkFresh, Act.all_cons_run, Act.all_nil_run]
  have hanew : Within [] [] [.ring, .tx] (.all [.laneAnew p 1, .laneAnew p 0]) := .all ⟨.laneAnew, .laneAnew⟩
  have htouch := hanew ((Act.linkReturns p rejoin).run s)
  rw [Act.all_cons_run, Act.all_cons_run, Act.all_nil_run, ← hrun] at htouch
  exact {
    state := (htouch.f_eq (portIndex p) 0 0).trans (by cases rejoin <;> simp +decide [Act.linkReturns])
    width := (htouch.f_eq (portIndex p) 0 0).trans (by cases rejoin <;> simp +decide [Act.linkReturns])
    partner := (htouch.f_eq (portIndex p) 0 0).trans (by cases rejoin <;> simp +decide [Act.linkReturns])
    valid := (htouch.b_eq (portIndex p) 0 0).trans (by cases rejoin <;> simp +decide [Act.linkReturns, State.b])
    expect0 := by rw [hrun, Act.laneAnew_expect]
    expect1 := by rw [hrun, Act.laneAnew_other (by decide), Act.laneAnew_expect]
    rejoins := fun h => (htouch.b_eq 0 0 0).trans (by simp +decide [h, Act.linkReturns, State.b])
    events := (htouch.b_eq 0 0 0).trans (by cases rejoin <;> simp +decide [Act.linkReturns, State.b])
    touches := (Within.linkReturns s).mono.trans htouch.mono }

theorem width_lt (width : Fin 8) : width.val % 2 ^ F.PORT_STATUS_WIDTH.width = width.val := Nat.mod_eq_of_lt width.isLt

theorem partner_lt (partner : BitVec 6) : partner.toNat % 2 ^ F.PORT_STATUS_PARTNER.width = partner.toNat := Nat.mod_eq_of_lt partner.isLt

/-- What a link that trains shows before it is up. -/
structure LinkTraining (p : Port) (width : Fin 8) (partner : BitVec 6) (s u : State) : Prop where
  width : u.f F.PORT_STATUS_WIDTH (portIndex p) = width.val
  partner : u.f F.PORT_STATUS_PARTNER (portIndex p) = partner.toNat
  valid : u.b F.PORT_STATUS_PARTNER_VALID (portIndex p) = true
  touches : Touches [.PORT_STATUS] [] [] s u

theorem LinkTraining.lane (h : LinkTraining p width partner s u) : u.lane q c = s.lane q c := by
  rw [State.lane, State.lane, h.touches.parts .ring (by decide)]

theorem Act.linkShowsTrained_shows (s : State) : LinkTraining p width partner s ((Act.linkShowsTrained p width partner).run s) where
  width := Eq.trans (by simp +decide [Act.linkShowsTrained]) (width_lt width)
  partner := Eq.trans (by simp +decide [Act.linkShowsTrained]) (partner_lt partner)
  valid := by simp +decide [Act.linkShowsTrained, State.b]
  touches := Within.linkShowsTrained s

theorem State.pauseOver_paused (h : s.pauseOver p = true) : s.portState p = portPaused := beq_iff_eq.mp (Bool.and_eq_true_iff.mp h).1

theorem State.pauseOver_of_state (h : s.portState p ≠ portPaused) : s.pauseOver p = false := by
  rw [State.pauseOver, beq_eq_false_iff_ne.mpr h, Bool.false_and]

theorem Act.linkTrained_run {width : Nat} : (Act.linkTrained p width partner).run s =
    (Act.linkUp p width partner).run ((Act.when (s.pauseOver p) (.linkDown p)).run s) := by
  rw [Act.linkTrained, Act.all_cons_run, Act.all_cons_run, Act.all_nil_run, Act.look_run]

section
variable (hpresent : s.present = true) (hbypass : s.ring.bypass = false) (hwidth : laneWidth width = true)
include hpresent hbypass hwidth

/-- A link that was not paused comes up with a fresh LSEQ. -/
theorem Act.linkUp_freshes (hup : s.portUp p = false) (hstate : s.portState p ≠ portPaused) : ∃ t, LinkTraining p width partner s t ∧
    LinkFreshed p (s.ring.lost[portIndex p]).isSome t ((Act.linkUp p width partner).run s) := by
  have hrun := Act.linkUp_run (p := p) (partner := partner) hpresent hbypass hwidth hup
  rw [if_neg hstate] at hrun
  rw [hrun]
  exact ⟨_, Act.linkShowsTrained_shows s, Act.linkFresh_freshes _ _⟩

theorem linkTrained_fresh (hup : s.portUp p = false) (hstate : s.portState p ≠ portPaused) :
    AnswersThenSettled (.linkTrained p width partner) s fun u =>
      u.portState p = portIsUp ∧ u.f F.PORT_STATUS_WIDTH (portIndex p) = width.val ∧ u.f F.PORT_STATUS_PARTNER (portIndex p) = partner.toNat ∧
      u.b F.PORT_STATUS_PARTNER_VALID (portIndex p) = true ∧ (u.lane p 0).expect = 0 ∧ (u.lane p 1).expect = 0 ∧
      ((s.ring.lost[portIndex p]).isSome = true → u.b F.COLYS_EVENTS_REJOIN = true) := by
  obtain ⟨t, htrains, hfresh⟩ := Act.linkUp_freshes (partner := partner) hpresent hbypass hwidth hup hstate
  refine answersThenSettled_of rfl ?_ ⟨hfresh.state, hfresh.width.trans htrains.width, hfresh.partner.trans htrains.partner,
    hfresh.valid.trans htrains.valid, hfresh.expect0, hfresh.expect1, hfresh.rejoins⟩
  rw [Act.linkTrained_run, State.pauseOver_of_state hstate, Act.when_false_run]

theorem linkTrained_resumes (hup : s.portUp p = false) (hstate : s.portState p = portPaused) (hover : s.pauseOver p = false)
    (h0 : (s.lane p 0).retry = []) (h1 : (s.lane p 1).retry = []) : AnswersThenSettled (.linkTrained p width partner) s fun u =>
      u.portState p = portIsUp ∧ u.f F.PORT_STATUS_WIDTH (portIndex p) = width.val ∧ Counted F.PORT_LINKS_PAUSES s u (portIndex p) ∧
      (u.lane p 0).expect = (s.lane p 0).expect := by
  have hrun := Act.linkUp_run (p := p) (partner := partner) hpresent hbypass hwidth hup
  rw [if_pos hstate] at hrun
  have htrains := Act.linkShowsTrained_shows (p := p) (width := width) (partner := partner) s
  generalize (Act.linkShowsTrained p width partner).run s = t at hrun htrains
  have hresumes := Act.linkResumes_resumes (s := t) (p := p) (by rw [htrains.lane]; exact h0) (by rw [htrains.lane]; exact h1)
  refine answersThenSettled_of rfl (t := (Act.linkResumes p).run t) ?_ ⟨hresumes.state, hresumes.width.trans htrains.width,
    hresumes.pauses.trans ?_, (hresumes.expect 0).trans (by rw [htrains.lane])⟩
  · rw [Act.linkTrained_run, hover, Act.when_false_run, hrun]
  · rw [htrains.touches.f_eq (portIndex p) 0 0]

theorem linkTrained_rejoins (hover : s.pauseOver p = true) : AnswersThenSettled (.linkTrained p width partner) s fun u =>
    u.portState p = portIsUp ∧ Counted F.PORT_LINKS_DOWNS s u (portIndex p) ∧ u.b F.COLYS_EVENTS_BREAK = true ∧
    u.b F.COLYS_EVENTS_REJOIN = true ∧ (u.lane p 0).expect = 0 := by
  have hdown := Act.linkDown_downs (State.linkAlive_of_paused (State.pauseOver_paused hover))
  have hrun : (Act.linkTrained p width partner).run s = (Act.linkUp p width partner).run ((Act.linkDown p).run s) := by
    rw [Act.linkTrained_run, hover, Act.when_true_run]
  generalize (Act.linkDown p).run s = v at hdown hrun
  have hpresent : v.present = true := by
    rw [State.present, hdown.touches.parts .pwr (by decide)]
    exact hpresent
  have hclosed : v.portUp p = false := by rw [State.portUp, hdown.state]; rfl
  obtain ⟨t, htrains, hfresh⟩ := Act.linkUp_freshes (s := v) (partner := partner) hpresent (hdown.bypass.trans hbypass) hwidth hclosed
    (by rw [hdown.state]; decide)
  refine answersThenSettled_of rfl hrun ⟨hfresh.state, ?_, ?_, hfresh.rejoins (by rw [hdown.lost]; rfl), hfresh.expect0⟩
  · exact (hfresh.touches.f_eq (portIndex p) 0 0).trans ((htrains.touches.f_eq (portIndex p) 0 0).trans hdown.downs)
  · exact hfresh.events.trans ((htrains.touches.b_eq 0 0 0).trans hdown.break_)

end

/-- What a port shows as a lane fails. -/
def Act.laneShowsFailed (p : Port) (width : Nat) : Act := .all [
  .setF F.PORT_STATUS_WIDTH width (portIndex p), .setB F.PORT_STATUS_DEGRADED true (portIndex p), .setB F.COLYS_EVENTS_DEGRADED true]

theorem Within.laneShowsFailed {width : Nat} : Within [.PORT_STATUS, .COLYS_EVENTS] [] [] (.laneShowsFailed p width) := .all ⟨.setF, .setB, .setB⟩

theorem laneFail_retrains (halive : s.linkAlive p = true) (hwidth : laneWidth width = true)
    (hless : width.val < s.f F.PORT_STATUS_WIDTH (portIndex p)) (h0 : (s.lane p 0).retry = []) (h1 : (s.lane p 1).retry = []) :
    AnswersThenSettled (.laneFailRetrain p width) s fun u =>
      u.portState p = portIsUp ∧ u.f F.PORT_STATUS_WIDTH (portIndex p) = width.val ∧ u.b F.PORT_STATUS_DEGRADED (portIndex p) = true ∧
      u.b F.COLYS_EVENTS_DEGRADED = true ∧ Counted F.PORT_LINKS_PAUSES s u (portIndex p) := by
  have hrun : (Act.laneFail p width).run s = (Act.linkResumes p).run ((Act.laneShowsFailed p width).run s) := by
    rw [Act.laneFail, Act.look_run]
    dsimp only
    rw [halive, hwidth, decide_eq_true hless, Bool.and_true, Bool.and_true, Act.when_true_run]
    simp only [Act.laneShowsFailed, Act.all_cons_run, Act.all_nil_run]
  have htouch := Within.laneShowsFailed (p := p) (width := width) s
  have hwidth : ((Act.laneShowsFailed p width).run s).f F.PORT_STATUS_WIDTH (portIndex p) = width.val :=
    Eq.trans (by simp +decide [Act.laneShowsFailed]) (width_lt width)
  have hdegraded : ((Act.laneShowsFailed p width).run s).b F.PORT_STATUS_DEGRADED (portIndex p) = true := by simp +decide [Act.laneShowsFailed, State.b]
  have hevent : ((Act.laneShowsFailed p width).run s).b F.COLYS_EVENTS_DEGRADED = true := by simp +decide [Act.laneShowsFailed, State.b]
  generalize (Act.laneShowsFailed p width).run s = t at hrun htouch hwidth hdegraded hevent
  have hlane : ∀ c, t.lane p c = s.lane p c := fun c => by rw [State.lane, State.lane, htouch.parts .ring (by decide)]
  have hresumes := Act.linkResumes_resumes (s := t) (p := p) (by rw [hlane]; exact h0) (by rw [hlane]; exact h1)
  refine answersThenSettled_of rfl hrun ⟨hresumes.state, hresumes.width.trans hwidth, hresumes.degraded.trans hdegraded,
    (hresumes.touches.b_eq 0 0 0).trans hevent, hresumes.pauses.trans ?_⟩
  rw [htouch.f_eq (portIndex p) 0 0]

theorem bypassClose_closes (h : s.pwr.life = .collapsed ∨ s.pwr.life = .off) :
    Answers .bypassClose s fun t => t = { s with ring := { s.ring with bypass := true } } := by
  have hlife : (s.pwr.life == .collapsed || s.pwr.life == .off) = true := by
    rcases h with h | h <;> rw [h] <;> rfl
  refine ⟨_, rfl, ?_⟩
  rw [hlife, Act.when_true_run]
  rfl

/-- Settles O52: each command by its lemma. -/
theorem ringLinks : Obligations.RingLinks := by
  unfold Obligations.RingLinks
  intro s p words cls lseq width partner
  exact ⟨fun hpresent hbypass hup => ⟨packetReceive_damaged hpresent hbypass hup, packetReceive_again hpresent hbypass hup,
      packetReceive_everyone hpresent hbypass hup, packetReceive_passes hpresent hbypass hup⟩, packetReceive_closed, ringAck_drops, ringNak_resends,
    retryTimeout_early, fun hup hcalm => retryTimeout_resends hup hcalm.2, retryTimeout_downs, linkPause_pauses, linkDown_over, linkDown_early,
    fun hpresent hbypass hwidth hup => ⟨linkTrained_fresh hpresent hbypass hwidth hup, linkTrained_resumes hpresent hbypass hwidth hup,
      linkTrained_rejoins hpresent hbypass hwidth⟩, laneFail_retrains, bypassClose_closes⟩

end Sys2Proof.Machine
end

section
-- One proof after another: elaborated side by side, the proofs of the whole text do not fit in the check's memory.
set_option Elab.async false
/-! Requests that time out, the census and the map, event masks, and the lines and messages of the head (R394, R401, R404, R413). -/

namespace Sys2Proof.Machine

variable {s : State} {src : Src} {p : Port} {tag : BitVec 16} {q : RingReq} {order : List (BitVec 6)} {closed : Bool} {seq : BitVec 8}
  {head m : BitVec 6} {mask : BitVec 48} {ev : BitVec 16} {v : Word} {bytes off : Nat}

/-! ### Requests that time out -/

theorem requestTimeout_early (h : s.requestLate tag.toNat = false) : AnswersThenSettled (.ringRequestTimeout tag) s fun u => u = s := by
  refine answersThenSettled_of rfl ?_ rfl
  rw [Act.look_run, h, Act.when_false_run]

/-- The requests that wait without those of a TAG. -/
def RingSt.without (tag : Nat) (r : RingSt) : RingSt := { r with reqs := r.reqs.filter fun q => q.tag != tag }

theorem Act.reqEnd_run {n status : Nat} {data : List DWord} (hfind : s.ring.reqs.find? (fun q => q.tag == n) = some q) :
    (Act.reqEnd n status data).run s = (match q.use with
      | .mnt => Act.mntEnd status data
      | .host n w off => .hostEnd n w off status <|
          if n = 4 ∧ !w ∧ regReadable (off % 2 ^ 24) then data.headD 0 &&& 0xFFFFFFFF
          else BitVec.ofNat 64 (leNat (unpackBytes off n data))
      | .dma t => match assoc s.dma.tags t with
        | some x => .dmaReturn t status (unpackBytes x.addr x.n data)
        | none => .skip
      | .heartbeat => .when (status == 2) (.setPair fun p => { p with gone := true })
      | .other => .skip).run ((Act.setRing (RingSt.without n)).run s) := by
  unfold Act.reqEnd
  rw [Act.look_run, hfind]
  rfl

theorem requestTimeout_run (hfind : s.ring.reqs.find? (fun q => q.tag == tag.toNat) = some q) (hlate : q.at_ + 163840 ≤ s.clk) :
    (Act.look fun t => .when (t.requestLate tag.toNat) (.reqEnd tag.toNat 3 [])).run s = (Act.reqEnd tag.toNat 3 []).run s := by
  have hreq : s.requestLate tag.toNat = true := List.any_eq_true.mpr ⟨q, List.mem_of_find?_eq_some hfind, by
    have htag := List.find?_some (p := fun q : RingReq => q.tag == tag.toNat) hfind
    rw [Bool.and_eq_true]
    exact ⟨htag, decide_eq_true hlate⟩⟩
  rw [Act.look_run, hreq, Act.when_true_run]

/-- The words of a MAINT operation's answer. -/
def Act.mntData (data : List DWord) : Act := .all [.setR .MNT_DATA ((data.headD 0).setWidth 32),
  .each (List.range 16) fun n => .all [
    .setR .MNT_BUF ((data.getD n 0).setWidth 32) (2 * n), .setR .MNT_BUF ((data.getD n 0 >>> 32).setWidth 32) (2 * n + 1)]]

theorem Within.mntData {data : List DWord} : Within [.MNT_DATA, .MNT_BUF] [] [] (.mntData data) := .all ⟨.setR, .each fun _ => .all ⟨.setR, .setR⟩⟩

theorem Within.mntEnd {status : Nat} {data : List DWord} : Within [.MNT_STATUS, .MNT_DATA, .MNT_BUF] [] [] (.mntEnd status data) :=
  .all ⟨.setB, .setF, .setR, .each fun _ => .all ⟨.setR, .setR⟩⟩

theorem Act.mntEnd_ends {status : Nat} {data : List DWord} (hstatus : status < 8) (s : State) :
    ((Act.mntEnd status data).run s).b F.MNT_STATUS_BUSY = false ∧ ((Act.mntEnd status data).run s).f F.MNT_STATUS_STATUS = status := by
  have hrun : (Act.mntEnd status data).run s =
      (Act.mntData data).run ((Act.setF F.MNT_STATUS_STATUS status).run ((Act.setB F.MNT_STATUS_BUSY false).run s)) := by
    simp only [Act.mntEnd, Act.mntData, Act.all_cons_run, Act.all_nil_run]
  have htouch := Within.mntData (data := data) ((Act.setF F.MNT_STATUS_STATUS status).run ((Act.setB F.MNT_STATUS_BUSY false).run s))
  rw [← hrun] at htouch
  refine ⟨(htouch.b_eq 0 0 0).trans ?_, (htouch.f_eq 0 0 0).trans ?_⟩
  · simp +decide [State.b]
  · exact (Act.setF_f_same F.MNT_STATUS_STATUS status 0 0 0 _ (by decide) (by decide)).trans (Nat.mod_eq_of_lt hstatus)

/-- A host read that ends without data. -/
def Act.hostFails (off status : Nat) : Act := .all [
  .setF F.HOST_ERR_ADDR_ADDR off, .setF F.HOST_ERR_ADDR_STATUS status, .count F.HOST_ERRS_RD_ERR,
  .all [.answer .error, .send (.hostAnswer .error)]]

theorem Act.hostEnd_fails {status : Nat} {data : DWord} (hacting : s.acting = true) (hmode : s.b F.HOST_CTRL_ERR_MODE = true) (hstatus : status ≠ 0) :
    (Act.hostEnd bytes false off status data).run s = (Act.hostFails off status).run s := by
  rw [Act.hostEnd, Act.look_run]
  dsimp only
  rw [hacting, Act.when_true_run, if_neg hstatus, hmode]
  rfl

theorem Act.hostFails_shows {status : Nat} (hstatus : status < 4) (s : State) : let u := (Act.hostFails off status).run s
    u.resp = .error ∧ u.tx = s.tx ++ [.hostAnswer .error] ∧ u.f F.HOST_ERR_ADDR_STATUS = status ∧ u.f F.HOST_ERR_ADDR_ADDR = off % 2 ^ 30 ∧
    Counted F.HOST_ERRS_RD_ERR s u ∧ u.ring = s.ring := by
  have hin : Within [.HOST_ERR_ADDR, .HOST_ERRS] [] [.resp, .tx] (.hostFails off status) := .all ⟨.setF, .setF, .count, .all ⟨.answer, .send⟩⟩
  refine ⟨rfl, ?_, ?_, ?_, ?_, (hin s).parts .ring (by decide)⟩
  · simp [Act.hostFails]
  · simp +decide [Act.hostFails]
    exact Nat.mod_eq_of_lt (show status < 2 ^ 2 by omega)
  · simp +decide [Act.hostFails]
    rfl
  · rw [Counted]
    simp +decide [Act.hostFails]

section
variable (hfind : s.ring.reqs.find? (fun q => q.tag == tag.toNat) = some q) (hlate : q.at_ + 163840 ≤ s.clk)
include hfind hlate

theorem requestTimeout_other (huse : q.use = .other) : AnswersThenSettled (.ringRequestTimeout tag) s fun u =>
    u = { s with ring := { s.ring with reqs := s.ring.reqs.filter fun q => q.tag != tag.toNat } } := by
  refine answersThenSettled_of rfl (requestTimeout_run hfind hlate) ?_
  rw [Act.reqEnd_run hfind, huse]
  rfl

theorem requestTimeout_mnt (huse : q.use = .mnt) : AnswersThenSettled (.ringRequestTimeout tag) s fun u =>
    u.b F.MNT_STATUS_BUSY = false ∧ u.f F.MNT_STATUS_STATUS = 3 ∧ u.ring.reqs = s.ring.reqs.filter fun q => q.tag != tag.toNat := by
  have hrun := requestTimeout_run hfind hlate
  rw [Act.reqEnd_run hfind, huse] at hrun
  have hends := Act.mntEnd_ends (status := 3) (data := []) (by decide) ((Act.setRing (RingSt.without tag.toNat)).run s)
  have htouch := Within.mntEnd (status := 3) (data := []) ((Act.setRing (RingSt.without tag.toNat)).run s)
  exact answersThenSettled_of rfl hrun ⟨hends.1, hends.2, congrArg RingSt.reqs (htouch.parts .ring (by decide))⟩

theorem requestTimeout_host (huse : q.use = .host bytes false off) (hacting : s.acting = true) (hmode : s.b F.HOST_CTRL_ERR_MODE = true) :
    AnswersThenSettled (.ringRequestTimeout tag) s fun u =>
      u.resp = .error ∧ u.tx = s.tx ++ [.hostAnswer .error] ∧ u.f F.HOST_ERR_ADDR_STATUS = 3 ∧ u.f F.HOST_ERR_ADDR_ADDR = off % 2 ^ 30 ∧
      Counted F.HOST_ERRS_RD_ERR s u ∧ u.ring.reqs = s.ring.reqs.filter fun q => q.tag != tag.toNat := by
  have hrun := requestTimeout_run hfind hlate
  rw [Act.reqEnd_run hfind, huse] at hrun
  dsimp only at hrun
  rw [Act.hostEnd_fails (s := (Act.setRing (RingSt.without tag.toNat)).run s) hacting hmode (by decide)] at hrun
  obtain ⟨hresp, htx, hstatus, haddr, hcount, hring⟩ := Act.hostFails_shows (off := off) (status := 3) (by decide)
    ((Act.setRing (RingSt.without tag.toNat)).run s)
  exact answersThenSettled_of rfl hrun ⟨hresp, htx, hstatus, haddr, hcount, congrArg RingSt.reqs hring⟩

end

theorem requestTimeout_none (hfind : s.ring.reqs.find? (fun q => q.tag == tag.toNat) = none) :
    AnswersThenSettled (.ringRequestTimeout tag) s fun u => u = s := by
  refine requestTimeout_early (List.any_eq_false.mpr fun q hq hlate => ?_)
  exact List.find?_eq_none.mp hfind q hq (Bool.and_eq_true_iff.mp hlate).1

/-! ### The census -/

theorem censusSend_sends (hup : s.up = true) (hacting : s.acting = true) (hport : s.portUp .east = true) :
    Answers .censusSend s fun t => t = { s with tx := s.tx ++ [.census .east [s.ownNumber]] } := by
  refine ⟨_, rfl, ?_⟩
  rw [Act.censusSend, Act.look_run, hup, hacting, hport]
  rfl

theorem censusSend_idle (hacting : s.acting = false) : Answers .censusSend s fun t => t = s := by
  refine ⟨_, rfl, ?_⟩
  rw [Act.censusSend, Act.look_run, hacting, Bool.and_false, Bool.false_and, Act.when_false_run]

/-- The list of a census as it leaves a module. -/
def State.censusList (s : State) (p : Port) (order : List (BitVec 6)) : List (BitVec 6) :=
  if p = .west then order ++ [s.ownNumber] else order

/-- What goes on of a census. -/
def State.censusOnward (s : State) (p : Port) (order : List (BitVec 6)) : Act :=
  if s.portUp (otherPort p) then .send (.census (otherPort p) (s.censusList p order))
  else .when (p == .west && s.portUp p) (.send (.census p (s.censusList p order)))

/-- R394: a head gives up its role. -/
def Act.headGivesUp (onward : Act) : Act := .all [
  .setRing fun r => { r with gaveUp := true }, .setB F.COLYS_ID_HEAD false, .setB F.SYS_INST_HEAD false,
  .setB F.COLYS_EVENTS_HEAD_CONFLICT true, onward]

section
variable (hup : s.up = true) (hport : s.portUp p = true)
include hup hport

theorem Act.census_run : (Act.census p order).run s = (if s.acting then
      match order.head? with
      | some h => Act.when (decide (h.toNat < s.ownNumber.toNat)) (.headGivesUp (s.censusOnward p order))
      | none => .skip
    else s.censusOnward p order).run s := by
  unfold Act.census
  rw [Act.look_run]
  dsimp only
  rw [hup, hport, Bool.and_true, Act.when_true_run]
  simp only [State.censusOnward, State.censusList, Act.headGivesUp, beq_iff_eq, hport] <;> rfl

theorem census_passes (hacting : s.acting = false) (hother : s.portUp (otherPort p) = true) : Answers (.census p order) s fun t =>
    t = { s with tx := s.tx ++ [.census (otherPort p) (if p = .west then order ++ [s.ownNumber] else order)] } := by
  refine ⟨_, rfl, ?_⟩
  rw [Act.census_run hup hport, hacting, if_neg Bool.false_ne_true, State.censusOnward, if_pos hother]
  rfl

theorem census_yields (hacting : s.acting = true) (hhead : order.head? = some m) (hless : m.toNat < s.ownNumber.toNat) :
    Answers (.census p order) s fun t => t.ring.gaveUp = true ∧ t.acting = false ∧ t.head = false ∧ t.b F.COLYS_EVENTS_HEAD_CONFLICT = true ∧
      NamesKept [.COLYS_ID, .SYS_INST, .COLYS_EVENTS] s t := by
  have hrun : (Act.census p order).run s = (Act.headGivesUp (s.censusOnward p order)).run s := by
    rw [Act.census_run hup hport, hacting, if_pos rfl, hhead]
    dsimp only
    rw [decide_eq_true hless, Act.when_true_run]
  have honward : Within [.COLYS_ID, .SYS_INST, .COLYS_EVENTS] [] [.ring, .tx] (s.censusOnward p order) := .ite .send (.when .send)
  have htouch : Within [.COLYS_ID, .SYS_INST, .COLYS_EVENTS] [] [.ring, .tx] (.headGivesUp (s.censusOnward p order)) :=
    .all ⟨.setRing, .setB, .setB, .setB, honward⟩
  have hsends : Within [] [] [.tx] (s.censusOnward p order) := .ite .send (.when .send)
  refine ⟨_, rfl, ?_⟩
  rw [hrun]
  refine ⟨?_, ?_, ?_, ?_, (htouch s).namesKept⟩
  all_goals rw [Act.headGivesUp, Act.all_cons_run, Act.all_cons_run, Act.all_cons_run, Act.all_cons_run, Act.all_cons_run, Act.all_nil_run]
  · exact (congrArg RingSt.gaveUp ((hsends _).parts .ring (by decide))).trans (by simp only [Act.setB_ring, Act.setRing_ring])
  · exact ((hsends _).b_eq 0 0 0).trans (by simp +decide [State.b])
  · exact ((hsends _).b_eq 0 0 0).trans (by simp +decide [State.b])
  · exact ((hsends _).b_eq 0 0 0).trans (by simp +decide [State.b])

theorem census_ends (hacting : s.acting = true) (hhead : order.head? = some m) (hle : s.ownNumber.toNat ≤ m.toNat) :
    Answers (.census p order) s fun t => t = s := by
  refine ⟨_, rfl, ?_⟩
  rw [Act.census_run hup hport, hacting, if_pos rfl, hhead]
  dsimp only
  rw [decide_eq_false (by omega), Act.when_false_run]

end

/-! ### Maps -/

theorem routeWord_mask (own : BitVec 6) (order : List (BitVec 6)) (closed : Bool) (m : BitVec 6) :
    routeWord own order closed m &&& RegName.COLYS_ROUTE.mask = routeWord own order closed m := by
  have hmask : RegName.COLYS_ROUTE.mask = 0xFF := by decide
  have hsmall : (routeWord own order closed m).toNat < 2 ^ 8 := by
    unfold routeWord
    split
    · have hport := Bool.toNat_le (ringHops order.length closed (order.idxOf own) (order.idxOf m)).2
      rw [BitVec.toNat_ofNat]
      omega
    · decide
  refine BitVec.eq_of_toNat_eq ?_
  rw [hmask, BitVec.toNat_and]
  exact (Nat.and_two_pow_sub_one_eq_mod _ 8).trans (Nat.mod_eq_of_lt hsmall)

/-- The routes of a map. -/
def Act.setRoutes (own : BitVec 6) (order : List (BitVec 6)) (closed : Bool) (l : List Nat) : Act :=
  .each l fun m => .setR .COLYS_ROUTE (routeWord own order closed (BitVec.ofNat 6 m)) m

theorem Act.setRoutes_r {own : BitVec 6} {l : List Nat} {n : Nat} (hn : n < 64) (hl : n ∈ l) (s : State) :
    ((Act.setRoutes own order closed l).run s).r .COLYS_ROUTE n = routeWord own order closed (BitVec.ofNat 6 n) := by
  have hvalid : RegRef.valid ⟨.COLYS_ROUTE, n, 0, 0⟩ = true := RegRef.valid_of hn
  have hothers : ∀ (l : List Nat) (s : State), n ∉ l → ((Act.setRoutes own order closed l).run s).r .COLYS_ROUTE n = s.r .COLYS_ROUTE n := by
    intro l
    induction l with
    | nil => intro s _; rfl
    | cons m l ih =>
      intro s hnot
      obtain ⟨hm, hrest⟩ := not_or.mp (fun h => hnot (List.mem_cons.mpr h))
      rw [Act.setRoutes, Act.each_cons_run]
      exact (ih _ hrest).trans (Act.setR_r_ne_inst _ _ _ _ _ _ _ _ _ fun h => hm h.1.symm)
  induction l generalizing s with
  | nil => exact absurd hl List.not_mem_nil
  | cons m l ih =>
    rw [Act.setRoutes, Act.each_cons_run]
    by_cases hmem : n ∈ l
    · exact ih hmem _
    · have hm : n = m := (List.mem_cons.mp hl).resolve_right hmem
      subst hm
      exact (hothers l _ hmem).trans ((Act.setR_r_same _ _ _ _ _ _ hvalid).trans (routeWord_mask ..))

/-- What a map stores besides its routes. -/
def Act.setMap (seq : Nat) (head : BitVec 6) (order : List (BitVec 6)) (closed isolated : Bool) : Act := .all [
  .setR .COLYS_RING (BitVec.ofNat 32 (ringWord head order closed + seq % 256 * 65536)),
  .setB F.COLYS_ID_ISOLATED isolated,
  .when (order.any fun m => decide (2 ≤ order.count m)) (.setB F.COLYS_EVENTS_DUP_ADDR true),
  .setRing fun r => { r with dup := twice head order, evDue := true }]

theorem Act.takeMap_run {seq : Nat} : (Act.takeMap seq head order closed).run s =
    (Act.setMap seq head order closed (!s.acting && decide (2 ≤ order.count s.ownNumber))).run
      ((Act.setRoutes s.ownNumber order closed (List.range 64)).run
        ((Act.when (!s.sameMap head order closed) (.setB F.COLYS_EVENTS_MAP_CHANGED true)).run s)) := by
  simp only [Act.takeMap, Act.look_run, Act.setMap, Act.setRoutes, Act.all_cons_run, Act.all_nil_run]

/-- A map is in force, with its head and its sequence number. -/
structure Mapped (own : BitVec 6) (order : List (BitVec 6)) (closed : Bool) (u : State) (head : BitVec 6) (seq : Nat) : Prop where
  size : u.f F.COLYS_RING_SIZE = order.length % 128
  closed_ : u.b F.COLYS_RING_CLOSED = closed
  head_ : u.f F.COLYS_RING_HEAD = head.toNat
  known : u.b F.COLYS_RING_HEAD_KNOWN = true
  seq_ : u.f F.COLYS_RING_MAP_SEQ = seq
  due : u.ring.evDue = true
  routes : ∀ k : BitVec 6, u.r .COLYS_ROUTE k.toNat = routeWord own order closed k

/-- The word of COLYS.RING, by its fields. -/
theorem ringWord_of {seq : Nat} {f : Fld} (hw : seq < 256) :
    f.of (BitVec.ofNat 32 (ringWord head order closed + seq % 256 * 65536)) =
      (order.length % 128 + closed.toNat * 128 + head.toNat * 256 + 16384 + seq * 65536) / 2 ^ f.lo % 2 ^ f.width := by
  have hhead := head.isLt
  have hclosed := Bool.toNat_le closed
  have hsum : (order.length % 128 + closed.toNat * 128 + head.toNat * 256 + 16384 + seq * 65536) % 2 ^ 32 =
      order.length % 128 + closed.toNat * 128 + head.toNat * 256 + 16384 + seq * 65536 := Nat.mod_eq_of_lt (by omega)
  rw [Fld.of, BitVec.toNat_ofNat, Nat.shiftRight_eq_div_pow, Nat.mod_eq_of_lt hw, ringWord, hsum]

theorem Act.setMap_f {seq : Nat} {isolated : Bool} {f : Fld} (hname : f.name = .COLYS_RING) (hm : f.inMask = true)
    (hseq : seq < 256) (s : State) : ((Act.setMap seq head order closed isolated).run s).f f =
      (order.length % 128 + closed.toNat * 128 + head.toNat * 256 + 16384 + seq * 65536) / 2 ^ f.lo % 2 ^ f.width := by
  have hrest : Within [.COLYS_ID, .COLYS_EVENTS] [] [.ring] (.all [.setB F.COLYS_ID_ISOLATED isolated,
      .when (order.any fun m => decide (2 ≤ order.count m)) (.setB F.COLYS_EVENTS_DUP_ADDR true),
      .setRing fun r => { r with dup := twice head order, evDue := true }]) := .all ⟨.setB, .when .setB, .setRing⟩
  rw [Act.setMap, Act.all_cons_run, (hrest _).f_eq 0 0 0 (by rw [hname]; decide), Act.setR_f_at (by decide) _ _ hname hm,
    ringWord_of hseq]

theorem Within.setMap {seq : Nat} {isolated : Bool} : Within [.COLYS_RING, .COLYS_ID, .COLYS_EVENTS] [] [.ring]
    (.setMap seq head order closed isolated) := .all ⟨.setR, .setB, .when .setB, .setRing⟩

theorem Within.takeMap {seq : Nat} : Within [.COLYS_RING, .COLYS_ROUTE, .COLYS_ID, .COLYS_EVENTS] [] [.ring] (.takeMap seq head order closed) :=
  .look fun _ => .all ⟨.when .setB, .each fun _ => .setR, .setR, .setB, .when .setB, .setRing⟩

theorem Act.takeMap_maps {seq : Nat} (hseq : seq < 256) (s : State) :
    Mapped s.ownNumber order closed ((Act.takeMap seq head order closed).run s) head seq ∧
    ((Act.takeMap seq head order closed).run s).b F.COLYS_ID_ISOLATED = (!s.acting && decide (2 ≤ order.count s.ownNumber)) := by
  rw [Act.takeMap_run]
  generalize (Act.when (!s.sameMap head order closed) (.setB F.COLYS_EVENTS_MAP_CHANGED true)).run s = t
  generalize (!s.acting && decide (2 ≤ order.count s.ownNumber)) = isolated
  generalize s.ownNumber = own
  have hhead := head.isLt
  have hclosed := Bool.toNat_le closed
  have hfield : ∀ f : Fld, f.name = .COLYS_RING → f.inMask = true →
      ((Act.setMap seq head order closed isolated).run ((Act.setRoutes own order closed (List.range 64)).run t)).f f =
        (order.length % 128 + closed.toNat * 128 + head.toNat * 256 + 16384 + seq * 65536) / 2 ^ f.lo % 2 ^ f.width :=
    fun f hname hm => Act.setMap_f hname hm hseq _
  refine ⟨⟨?_, ?_, ?_, ?_, ?_, rfl, fun k => ?_⟩, ?_⟩
  · refine (hfield F.COLYS_RING_SIZE rfl (by decide)).trans ?_
    show _ / 2 ^ 0 % 2 ^ 7 = _
    omega
  · rw [State.b, hfield F.COLYS_RING_CLOSED rfl (by decide)]
    show (_ / 2 ^ 7 % 2 ^ 1 == 1) = _
    rw [show (order.length % 128 + closed.toNat * 128 + head.toNat * 256 + 16384 + seq * 65536) / 2 ^ 7 % 2 ^ 1 = closed.toNat by omega,
      Bool.toNat_beq_one]
  · refine (hfield F.COLYS_RING_HEAD rfl (by decide)).trans ?_
    show _ / 2 ^ 8 % 2 ^ 6 = _
    omega
  · rw [State.b, hfield F.COLYS_RING_HEAD_KNOWN rfl (by decide), beq_iff_eq]
    show _ / 2 ^ 14 % 2 ^ 1 = _
    omega
  · refine (hfield F.COLYS_RING_MAP_SEQ rfl (by decide)).trans ?_
    show _ / 2 ^ 16 % 2 ^ 8 = _
    omega
  · rw [(Within.setMap _).r_eq k.toNat 0 0, Act.setRoutes_r k.isLt (List.mem_range.mpr k.isLt), BitVec.ofNat_toNat, BitVec.setWidth_eq]
  · rw [Act.setMap, Act.all_cons_run, Act.all_b_head (by exact .all ⟨.when .setB, .upd fun _ => rfl⟩)]
    exact Act.setB_b_same F.COLYS_ID_ISOLATED isolated 0 0 0 _ (by decide) (by decide) rfl

/-- The parts of a `Mapped` as the statements list them. -/
theorem Mapped.fields {own : BitVec 6} {u : State} {n : Nat} (h : Mapped own order closed u head n) :
    u.f F.COLYS_RING_SIZE = order.length % 128 ∧ u.b F.COLYS_RING_CLOSED = closed ∧ u.f F.COLYS_RING_HEAD = head.toNat ∧
    u.b F.COLYS_RING_HEAD_KNOWN = true ∧ u.f F.COLYS_RING_MAP_SEQ = n ∧ u.ring.evDue = true ∧
    ∀ k : BitVec 6, u.r .COLYS_ROUTE k.toNat = routeWord own order closed k :=
  ⟨h.size, h.closed_, h.head_, h.known, h.seq_, h.due, h.routes⟩

/-- What is sent leaves a map in force. -/
theorem Mapped.of_touches {own : BitVec 6} {t u : State} {n : Nat} (h : Mapped own order closed t head n) (htouch : Touches [] [] [.tx] t u) :
    Mapped own order closed u head n where
  size := (htouch.f_eq 0 0 0).trans h.size
  closed_ := (htouch.b_eq 0 0 0).trans h.closed_
  head_ := (htouch.f_eq 0 0 0).trans h.head_
  known := (htouch.b_eq 0 0 0).trans h.known
  seq_ := (htouch.f_eq 0 0 0).trans h.seq_
  due := (congrArg RingSt.evDue (htouch.parts .ring (by decide))).trans h.due
  routes := fun k => (htouch.r_eq k.toNat 0 0).trans (h.routes k)

theorem mapBroadcast_maps (hup : s.up = true) (hacting : s.acting = true) (hown : order.contains s.ownNumber = true)
    (hnew : (s.b F.COLYS_RING_HEAD_KNOWN && s.sameMap s.ownNumber order closed) = false) :
    AnswersThenSettled (.ringMapBroadcast order closed) s fun u =>
      Mapped s.ownNumber order closed u s.ownNumber ((s.f F.COLYS_RING_MAP_SEQ + 1) % 256) := by
  have hrun : (Act.mapBroadcast order closed).run s = (Act.each [Port.west, Port.east] fun p =>
      .when (s.portUp p) (.send (.map p ((s.f F.COLYS_RING_MAP_SEQ + 1) % 256) s.ownNumber order closed))).run
        ((Act.takeMap ((s.f F.COLYS_RING_MAP_SEQ + 1) % 256) s.ownNumber order closed).run s) := by
    rw [Act.mapBroadcast, Act.look_run]
    dsimp only
    rw [hup, hacting, hown, hnew, Bool.and_true, Bool.and_true, Act.when_true_run]
    rfl
  have hsends : Within [] [] [.tx] (.each [Port.west, Port.east] fun p =>
      .when (s.portUp p) (.send (.map p ((s.f F.COLYS_RING_MAP_SEQ + 1) % 256) s.ownNumber order closed))) := .each fun _ => .when .send
  obtain ⟨hmap, -⟩ := Act.takeMap_maps (order := order) (closed := closed) (head := s.ownNumber)
    (Nat.mod_lt (s.f F.COLYS_RING_MAP_SEQ + 1) (by decide : 0 < 256)) s
  exact answersThenSettled_of rfl hrun (hmap.of_touches (hsends _))

theorem Act.mapSend_run (on : Bool) (x : Tx) (s : State) : (Act.when on (.send x)).run s = { s with tx := s.tx ++ if on then [x] else [] } := by
  cases on
  · rw [Act.when_false_run, if_neg Bool.false_ne_true, List.append_nil]
  · rw [Act.when_true_run, if_pos rfl]
    rfl

section
variable (hup : s.up = true) (hport : s.portUp p = true) (hacting : s.acting = false)
include hup hport hacting

theorem Act.mapPacket_run : (Act.mapPacket p seq.toNat head order closed).run s =
    (Act.when (s.portUp (otherPort p)) (.send (.map (otherPort p) seq.toNat head order closed))).run
      ((Act.when (!(s.b F.COLYS_RING_HEAD_KNOWN && s.f F.COLYS_RING_MAP_SEQ == seq.toNat)) (.takeMap seq.toNat head order closed)).run s) := by
  rw [Act.mapPacket, Act.look_run]
  dsimp only
  rw [hup, hport, hacting, Bool.and_true, Bool.not_false, Bool.and_true, Act.when_true_run, Act.all_cons_run, Act.all_cons_run, Act.all_nil_run]

theorem map_takes (hnew : (s.b F.COLYS_RING_HEAD_KNOWN && s.f F.COLYS_RING_MAP_SEQ == seq.toNat) = false) :
    AnswersThenSettled (.map p seq head order closed) s fun u =>
      Mapped s.ownNumber order closed u head seq.toNat ∧ u.b F.COLYS_ID_ISOLATED = decide (2 ≤ order.count s.ownNumber) ∧
      u.tx = s.tx ++ (if s.portUp (otherPort p) then [.map (otherPort p) seq.toNat head order closed] else []) := by
  have hrun := Act.mapPacket_run (seq := seq) (head := head) (order := order) (closed := closed) hup hport hacting
  rw [hnew, Bool.not_false, Act.when_true_run] at hrun
  obtain ⟨hmap, hisolated⟩ := Act.takeMap_maps (order := order) (closed := closed) (head := head) seq.isLt s
  have htx := (Within.takeMap (seq := seq.toNat) (head := head) (order := order) (closed := closed) s).parts .tx (by decide)
  generalize (Act.takeMap seq.toNat head order closed).run s = t at hrun hmap hisolated htx
  have hsend : Within [] [] [.tx] (.when (s.portUp (otherPort p)) (.send (.map (otherPort p) seq.toNat head order closed))) := .when .send
  refine answersThenSettled_of rfl hrun ⟨hmap.of_touches (hsend t), ((hsend t).b_eq 0 0 0).trans ?_, ?_⟩
  · rw [hisolated, hacting, Bool.not_false, Bool.true_and]
  · rw [Act.mapSend_run]
    exact congrArg (· ++ _) htx

theorem map_known (hknown : (s.b F.COLYS_RING_HEAD_KNOWN && s.f F.COLYS_RING_MAP_SEQ == seq.toNat) = true) :
    AnswersThenSettled (.map p seq head order closed) s fun u =>
      u = { s with tx := s.tx ++ (if s.portUp (otherPort p) then [.map (otherPort p) seq.toNat head order closed] else []) } := by
  have hrun := Act.mapPacket_run (seq := seq) (head := head) (order := order) (closed := closed) hup hport hacting
  rw [hknown, Bool.not_true, Act.when_false_run, Act.mapSend_run] at hrun
  exact answersThenSettled_of rfl hrun rfl

end

/-! ### Lines and masks -/

section
variable {k l : Nat}

theorem valid_colysMap (hk : k < 64) (hl : l < 48) : RegRef.valid ⟨.COLYS_MAP, k, l, 0⟩ = true := RegRef.valid_of hk hl

theorem Within.msix {names : List RegName} {rs : List RegRef} {x : Nat} : Within names rs [.tx, .mem] (.msix x) := .look fun _ => .ite .send .setByte

theorem Within.raiseLine : Within [] [⟨.COLYS_MAP, k, l, 0⟩] [.tx, .mem] (.raiseLine k l) := .look fun _ => .when (.all ⟨.setBAt, .msix⟩)

theorem Within.raiseLines {ls : List Nat} : Within [.COLYS_MAP] [] [.tx, .mem] (.each ls fun l => .raiseLine k l) :=
  .each fun _ => .look fun _ => .when (.all ⟨.setB, .msix⟩)

/-- R413: a line that may raise its message is not armed after it. -/
theorem Act.raiseLine_disarms (hk : k < 64) (hl : l < 48) (h : s.b F.COLYS_MAP_EN k l = true ∨ s.b F.COLYS_MAP_ARMED k l = false) :
    ((Act.raiseLine k l).run s).b F.COLYS_MAP_ARMED k l = false := by
  rw [Act.raiseLine, Act.look_run]
  cases harmed : s.b F.COLYS_MAP_ARMED k l with
  | false => rw [Bool.and_false, Act.when_false_run, harmed]
  | true =>
    rw [harmed] at h
    rw [h.resolve_right (by decide), Bool.and_true, Act.when_true_run, Act.all_cons_run, Act.all_cons_run, Act.all_nil_run]
    have hmsix : ∀ x, Within [] [] [.tx, .mem] (.msix x) := fun _ => .msix
    rw [(hmsix _ _).b_eq k l 0]
    exact Act.setB_b_same F.COLYS_MAP_ARMED false k l 0 s (valid_colysMap hk hl) (by decide) rfl

theorem Act.raiseLine_enabled {i j : Nat} : ((Act.raiseLine k l).run s).b F.COLYS_MAP_EN i j = s.b F.COLYS_MAP_EN i j := by
  have hleaves : Leaves F.COLYS_MAP_EN (.raiseLine k l) :=
    .look fun _ => .when (.all ⟨.setB, .of_within (l := []) (ps := [.tx, .mem]) .msix⟩)
  exact hleaves.b s i j 0

theorem Act.raiseLine_keepsDisarmed {j : Nat} (hk : k < 64) (hj : j < 48) (h : s.b F.COLYS_MAP_ARMED k j = false) :
    ((Act.raiseLine k l).run s).b F.COLYS_MAP_ARMED k j = false := by
  by_cases hl : j = l
  · subst hl
    exact Act.raiseLine_disarms hk hj (.inr h)
  · have hother := (Within.raiseLine (k := k) (l := l) s).regsKept .COLYS_MAP k j 0 (by simp [hl])
    rw [State.b, State.f]
    exact (congrArg (fun w => F.COLYS_MAP_ARMED.of w == 1) hother).trans h

theorem Act.raiseLines_keepsDisarmed {j : Nat} (hk : k < 64) (hj : j < 48) (ls : List Nat) (s : State)
    (h : s.b F.COLYS_MAP_ARMED k j = false) : ((Act.each ls fun l => .raiseLine k l).run s).b F.COLYS_MAP_ARMED k j = false := by
  induction ls generalizing s with
  | nil => exact h
  | cons l ls ih =>
    rw [Act.each_cons_run]
    exact ih _ (Act.raiseLine_keepsDisarmed hk hj h)

theorem Act.raiseLines_disarms {j : Nat} (hk : k < 64) (hj : j < 48) {ls : List Nat} (hmem : j ∈ ls) (s : State)
    (h : s.b F.COLYS_MAP_EN k j = true ∨ s.b F.COLYS_MAP_ARMED k j = false) :
    ((Act.each ls fun l => .raiseLine k l).run s).b F.COLYS_MAP_ARMED k j = false := by
  induction ls generalizing s with
  | nil => exact absurd hmem List.not_mem_nil
  | cons l ls ih =>
    rw [Act.each_cons_run]
    cases List.mem_cons.mp hmem with
    | inl hl =>
      subst hl
      exact Act.raiseLines_keepsDisarmed hk hj ls _ (Act.raiseLine_disarms hk hj h)
    | inr hl => exact ih hl _ (h.imp (fun hen => by rw [Act.raiseLine_enabled, hen]) fun hd => Act.raiseLine_keepsDisarmed hk hj hd)

end

/-- The lines that rise with a mask. -/
def State.rises (s : State) (m mask : Nat) : List Nat := (List.range 48).filter fun l => mask.testBit l && !s.eventState m l

theorem Act.takeMask_run {k x : Nat} : (Act.takeMask k x).run s = (Act.each (s.rises k x) fun l => .raiseLine k l).run
    ((Act.setF F.EVT_STATE_HI_MASK (x / 2 ^ 32) k).run ((Act.setF F.EVT_STATE_LO_MASK x k).run s)) := by
  simp only [Act.takeMask, Act.look_run, Act.all_cons_run, Act.all_nil_run, State.rises]

theorem Within.takeMask {k x : Nat} : Within [.EVT_STATE_LO, .EVT_STATE_HI, .COLYS_MAP] [] [.tx, .mem] (.takeMask k x) :=
  .look fun _ => .all ⟨.setF, .setF, Within.raiseLines.mono⟩

theorem Act.takeMask_takes (mask : BitVec 48) (m : BitVec 6) (s : State) : let t := (Act.takeMask m.toNat mask.toNat).run s
    t.f F.EVT_STATE_LO_MASK m.toNat = mask.toNat % 2 ^ 32 ∧ t.f F.EVT_STATE_HI_MASK m.toNat = mask.toNat / 2 ^ 32 ∧
    ∀ l, l < 48 → mask.toNat.testBit l = true → s.eventState m.toNat l = false → s.b F.COLYS_MAP_EN m.toNat l = true →
      t.b F.COLYS_MAP_ARMED m.toNat l = false := by
  intro t
  have hhigh : mask.toNat / 2 ^ 32 < 2 ^ 16 := Nat.div_lt_of_lt_mul mask.isLt
  have ht : t = (Act.takeMask m.toNat mask.toNat).run s := rfl
  rw [ht, Act.takeMask_run]
  refine ⟨?_, ?_, fun l hl hbit hstate hen => ?_⟩
  · rw [(Within.raiseLines _).f_eq m.toNat 0 0, Act.setF_f_kept _ _ (by decide) (by decide)]
    exact Act.setF_f_same F.EVT_STATE_LO_MASK mask.toNat m.toNat 0 0 s (RegRef.valid_of m.isLt) (by decide)
  · rw [(Within.raiseLines _).f_eq m.toNat 0 0]
    exact (Act.setF_f_same F.EVT_STATE_HI_MASK _ m.toNat 0 0 _ (RegRef.valid_of m.isLt) (by decide)).trans (Nat.mod_eq_of_lt hhigh)
  · have hrises : l ∈ s.rises m.toNat mask.toNat := List.mem_filter.mpr ⟨List.mem_range.mpr hl, by rw [hbit, hstate]; rfl⟩
    refine Act.raiseLines_disarms m.isLt hl hrises _ (.inl ?_)
    rw [Act.setF_b_kept _ _ (by decide) (by decide), Act.setF_b_kept _ _ (by decide) (by decide), hen]

/-! ### Events -/

/-- R404: the sequence number is newer than the last one applied for the module. -/
def State.eventNewer (s : State) (m : BitVec 6) (n : Nat) : Bool :=
  match assoc s.ring.applied m with
  | some x => newerSeq n x
  | none => true

theorem Act.eventApply_run {x n : Nat} : (Act.eventApply m x n).run s = (Act.when (s.up && s.acting && s.eventNewer m n) (.all [
    .setRing fun r => { r with applied := assocSet r.applied m n }, .takeMask m.toNat x])).run s := rfl

theorem eventApply_applies (hup : s.up = true) (hacting : s.acting = true)
    (hnewer : ∀ n, assoc s.ring.applied m = some n → newerSeq ev.toNat n = true) : Answers (.eventApply m mask ev) s fun t =>
      assoc t.ring.applied m = some ev.toNat ∧ t.f F.EVT_STATE_LO_MASK m.toNat = mask.toNat % 2 ^ 32 ∧
      t.f F.EVT_STATE_HI_MASK m.toNat = mask.toNat / 2 ^ 32 ∧
      ∀ l, l < 48 → mask.toNat.testBit l = true → s.eventState m.toNat l = false → s.b F.COLYS_MAP_EN m.toNat l = true →
        t.b F.COLYS_MAP_ARMED m.toNat l = false := by
  have hnew : s.eventNewer m ev.toNat = true := by
    unfold State.eventNewer
    cases happlied : assoc s.ring.applied m with
    | none => rfl
    | some n => exact hnewer n happlied
  have hrun : (Act.eventApply m mask.toNat ev.toNat).run s = (Act.takeMask m.toNat mask.toNat).run
      ((Act.setRing fun r => { r with applied := assocSet r.applied m ev.toNat }).run s) := by
    rw [Act.eventApply_run, hup, hacting, hnew, Bool.and_true, Bool.and_true, Act.when_true_run, Act.all_cons_run, Act.all_cons_run, Act.all_nil_run]
  obtain ⟨hlo, hhi, hlines⟩ := Act.takeMask_takes mask m ((Act.setRing fun r => { r with applied := assocSet r.applied m ev.toNat }).run s)
  have hring := (Within.takeMask (k := m.toNat) (x := mask.toNat) ((Act.setRing fun r => { r with applied := assocSet r.applied m ev.toNat }).run s)).parts
    .ring (by decide)
  refine ⟨_, rfl, ?_⟩
  rw [hrun]
  refine ⟨?_, hlo, hhi, hlines⟩
  exact (congrArg (fun r : RingSt => assoc r.applied m) hring).trans (assoc_assocSet_same ..)

theorem eventApply_discards (h : s.acting = false ∨ ∃ n, assoc s.ring.applied m = some n ∧ newerSeq ev.toNat n = false) :
    Answers (.eventApply m mask ev) s fun t => t = s := by
  have hclosed : (s.up && s.acting && s.eventNewer m ev.toNat) = false := by
    rcases h with hacting | ⟨n, happlied, hold⟩
    · rw [hacting, Bool.and_false, Bool.false_and]
    · unfold State.eventNewer
      rw [happlied]
      dsimp only
      rw [hold, Bool.and_false]
  refine ⟨_, rfl, ?_⟩
  rw [Act.eventApply_run, hclosed, Act.when_false_run]

/-- The mask of a module has been sent. -/
def EventSent (s u : State) : Prop :=
  u.ring.evSeq = (s.ring.evSeq + 1) % 65536 ∧ u.ring.evMask = s.pendingMask ∧ u.ring.evDue = false ∧ u.ring.once = 0

/-- What the events of a module leave of the ring's own account of them. -/
def EventsKept (s t : State) : Prop :=
  t.ring.evSeq = s.ring.evSeq ∧ t.ring.evMask = s.ring.evMask ∧ t.ring.evDue = s.ring.evDue ∧ t.ring.once = s.ring.once

theorem EventsKept.frame : Frame EventsKept := ⟨fun _ => ⟨rfl, rfl, rfl, rfl⟩, fun h1 h2 =>
  ⟨h2.1.trans h1.1, h2.2.1.trans h1.2.1, h2.2.2.1.trans h1.2.2.1, h2.2.2.2.trans h1.2.2.2⟩⟩

theorem EventsKept.of_aside {t : State} (h : RingAside s t) : EventsKept s t :=
  ⟨show t.ring.aside.evSeq = s.ring.aside.evSeq from congrArg RingSt.evSeq h, show t.ring.aside.evMask = s.ring.aside.evMask from congrArg RingSt.evMask h,
    show t.ring.aside.evDue = s.ring.aside.evDue from congrArg RingSt.evDue h, show t.ring.aside.once = s.ring.aside.once from congrArg RingSt.once h⟩

theorem EventsKept.sendReply {words : List DWord} : (Act.sendReply words).Keeps EventsKept := fun s => of_aside (RingAside.sendReply s)

theorem EventsKept.takeMask {k x : Nat} : (Act.takeMask k x).Keeps EventsKept := fun s => by
  have hring : ((Act.takeMask k x).run s).ring = s.ring := (Within.takeMask s).parts .ring (by decide)
  rw [EventsKept, hring]
  exact ⟨rfl, rfl, rfl, rfl⟩

theorem EventsKept.eventApply {x n : Nat} : (Act.eventApply m x n).Keeps EventsKept :=
  Act.keeps_look fun _ => Act.keeps_when frame (Act.keeps_all frame ⟨fun _ => ⟨rfl, rfl, rfl, rfl⟩, takeMask⟩)

theorem Act.eventSend_sends (hup : s.up = true) (hknown : s.acting = true ∨ s.b F.COLYS_RING_HEAD_KNOWN = true) :
    EventSent s (Act.eventSend.run s) := by
  have hopen : (s.up && (s.acting || s.b F.COLYS_RING_HEAD_KNOWN)) = true := by
    rw [hup, Bool.true_and, Bool.or_eq_true]
    exact hknown
  rw [Act.eventSend, Act.look_run]
  dsimp only
  rw [hopen, Act.when_true_run, Act.all_cons_run, Act.all_cons_run, Act.all_nil_run]
  have hkept : ∀ words : List DWord, (if s.acting = true then Act.eventApply s.ownNumber s.pendingMask ((s.ring.evSeq + 1) % 65536)
      else .sendReply words).Keeps EventsKept := fun _ => Act.keeps_ite .eventApply .sendReply
  exact hkept _ _

theorem eventMaskChange_sends (hdue : s.pendingMask ≠ s.ring.evMask ∨ s.ring.evDue = true ∨ s.ring.once ≠ 0) (hup : s.up = true)
    (hknown : s.acting = true ∨ s.b F.COLYS_RING_HEAD_KNOWN = true) : AnswersThenSettled .eventMaskChange s fun u =>
      u.ring.evSeq = (s.ring.evSeq + 1) % 65536 ∧ u.ring.evMask = s.pendingMask ∧ u.ring.evDue = false ∧ u.ring.once = 0 := by
  have hcalls : (s.pendingMask != s.ring.evMask || s.ring.evDue || s.ring.once != 0) = true := by
    simp only [Bool.or_eq_true, bne_iff_ne, ne_eq]
    tauto
  refine answersThenSettled_of rfl ?_ (Act.eventSend_sends hup hknown)
  rw [hcalls, Act.when_true_run]

theorem eventMaskChange_idle (hmask : s.pendingMask = s.ring.evMask) (hdue : s.ring.evDue = false) (honce : s.ring.once = 0) :
    AnswersThenSettled .eventMaskChange s fun u => u = s := by
  refine answersThenSettled_of rfl ?_ rfl
  rw [hmask, hdue, honce, bne_self_eq_false, bne_self_eq_false]
  rfl

/-! ### EVT_ACK -/

/-- A line is armed, and raised at once where it is still pending. -/
def Act.armLine (s : State) (k l : Nat) : Act := .all [.setB F.COLYS_MAP_ARMED true k l, .when (s.eventState k l) (.raiseLine k l)]

theorem evtAck_run (hw : s.takesReg src .EVT_ACK) : (Act.writeTo src .EVT_ACK 0 0 0 (.evtAck v)).run s = (Act.evtAck v).run s :=
  Act.writeTo_accepted (d := 0) hw rfl

theorem Act.evtAck_open (hacting : s.acting = true) (hl : F.EVT_ACK_LINE.of v < 48) : (Act.evtAck v).run s =
    Act.accept.run ((Act.armLine s (F.EVT_ACK_MODULE.of v) (F.EVT_ACK_LINE.of v)).run s) := by
  rw [Act.evtAck, Act.look_run]
  dsimp only
  rw [hacting, decide_eq_true hl, Bool.and_true, Act.all_cons_run, Act.when_true_run, Act.all_cons_run, Act.all_nil_run]
  rfl

theorem evtModule_lt (v : Word) : F.EVT_ACK_MODULE.of v < 64 := Nat.mod_lt _ (by decide)

section
variable (hw : s.takesReg src .EVT_ACK)
include hw

theorem evtAck_arms (hacting : s.acting = true) (hl : F.EVT_ACK_LINE.of v < 48)
    (hquiet : s.eventState (F.EVT_ACK_MODULE.of v) (F.EVT_ACK_LINE.of v) = false) : Answers (.evtAck src v) s fun t =>
      t.resp = .ok 0 ∧ t.b F.COLYS_MAP_ARMED (F.EVT_ACK_MODULE.of v) (F.EVT_ACK_LINE.of v) = true ∧
      RegsKept [⟨.COLYS_MAP, F.EVT_ACK_MODULE.of v, F.EVT_ACK_LINE.of v, 0⟩] s t ∧ OnlyRegs s t := by
  have hrun := (evtAck_run (v := v) hw).trans (Act.evtAck_open hacting hl)
  have hk := evtModule_lt v
  generalize F.EVT_ACK_MODULE.of v = k at *
  generalize F.EVT_ACK_LINE.of v = l at *
  rw [Act.armLine, hquiet, Act.all_cons_run, Act.all_cons_run, Act.all_nil_run, Act.when_false_run] at hrun
  have hset : Within [] [⟨.COLYS_MAP, k, l, 0⟩] [.resp] (.all [.setB F.COLYS_MAP_ARMED true k l, .accept]) := .all ⟨.setBAt, .accept⟩
  have htouch := hset s
  rw [Act.all_cons_run, Act.all_cons_run, Act.all_nil_run] at htouch
  refine ⟨_, rfl, ?_⟩
  rw [hrun]
  exact ⟨rfl, Act.setB_b_same F.COLYS_MAP_ARMED true k l 0 s (valid_colysMap hk hl) (by decide) rfl, htouch.regsKept, htouch.rest⟩

theorem evtAck_raises (hacting : s.acting = true) (hl : F.EVT_ACK_LINE.of v < 48)
    (hpending : s.eventState (F.EVT_ACK_MODULE.of v) (F.EVT_ACK_LINE.of v) = true)
    (hen : s.b F.COLYS_MAP_EN (F.EVT_ACK_MODULE.of v) (F.EVT_ACK_LINE.of v) = true) (hopen : s.msixOpen = true)
    (hmask : s.vectorMasked (s.f F.COLYS_MAP_VECTOR (F.EVT_ACK_MODULE.of v) (F.EVT_ACK_LINE.of v)) = false) :
    Answers (.evtAck src v) s fun t =>
      t.resp = .ok 0 ∧ t.b F.COLYS_MAP_ARMED (F.EVT_ACK_MODULE.of v) (F.EVT_ACK_LINE.of v) = false ∧
      t.tx = s.tx ++ [.msix (s.f F.COLYS_MAP_VECTOR (F.EVT_ACK_MODULE.of v) (F.EVT_ACK_LINE.of v))] := by
  have hrun := (evtAck_run (v := v) hw).trans (Act.evtAck_open hacting hl)
  have hk := evtModule_lt v
  generalize F.EVT_ACK_MODULE.of v = k at *
  generalize F.EVT_ACK_LINE.of v = l at *
  have hset : Within [.COLYS_MAP] [] [] (.setB F.COLYS_MAP_ARMED true k l) := .setB
  have hset := hset s
  have harmed := Act.setB_b_same F.COLYS_MAP_ARMED true k l 0 s (valid_colysMap hk hl) (by decide) rfl
  have hen : ((Act.setB F.COLYS_MAP_ARMED true k l).run s).b F.COLYS_MAP_EN k l = true :=
    (Act.setB_b_kept s true (by decide) (by decide)).trans hen
  have hvector := Act.setB_f_spared (f := F.COLYS_MAP_ARMED) (g := F.COLYS_MAP_VECTOR) (i := k) (j := l) (k := 0) (i' := k) (j' := l) (k' := 0) s true
    (by decide) (by decide)
  rw [Act.armLine, hpending, Act.all_cons_run, Act.all_cons_run, Act.all_nil_run, Act.when_true_run] at hrun
  generalize (Act.setB F.COLYS_MAP_ARMED true k l).run s = t at hrun hset harmed hen hvector
  have hdown : Within [.COLYS_MAP] [] [] (.setB F.COLYS_MAP_ARMED false k l) := .setB
  have hboth := hset.trans (hdown t)
  have hopen : (((Act.setB F.COLYS_MAP_ARMED false k l).run t).msixOpen &&
      !((Act.setB F.COLYS_MAP_ARMED false k l).run t).vectorMasked (t.f F.COLYS_MAP_VECTOR k l)) = true := by
    rw [State.msixOpen, hboth.parts .pcie (by decide), hboth.b_eq 0 0 0, hboth.b_eq 0 0 0, State.vectorMasked, hboth.bytesKept, hvector]
    rw [State.msixOpen] at hopen
    rw [State.vectorMasked] at hmask
    rw [hopen, hmask]
    rfl
  have hraise : (Act.raiseLine k l).run t =
      (Act.send (.msix (t.f F.COLYS_MAP_VECTOR k l))).run ((Act.setB F.COLYS_MAP_ARMED false k l).run t) := by
    rw [Act.raiseLine, Act.look_run, hen, harmed, Bool.and_true, Act.when_true_run, Act.all_cons_run, Act.all_cons_run, Act.all_nil_run,
      Act.msix, Act.look_run, if_pos hopen]
  refine ⟨_, rfl, ?_⟩
  rw [hrun]
  refine ⟨rfl, Act.raiseLine_disarms hk hl (.inl hen), ?_⟩
  rw [hraise, ← hvector]
  exact congrArg (· ++ _) (hboth.parts .tx (by decide))

theorem evtAck_idle (h : s.acting = false ∨ 48 ≤ F.EVT_ACK_LINE.of v) : Answers (.evtAck src v) s fun t => t = { s with resp := .ok 0 } := by
  have hclosed : (s.acting && decide (F.EVT_ACK_LINE.of v < 48)) = false := by
    rcases h with h | h
    · rw [h, Bool.false_and]
    · rw [decide_eq_false (by omega), Bool.and_false]
  refine ⟨_, rfl, ?_⟩
  rw [evtAck_run hw, Act.evtAck, Act.look_run]
  dsimp only
  rw [hclosed, Act.all_cons_run, Act.when_false_run]
  rfl

end

/-- Settles O53: each command by its lemma. -/
theorem ringMaps : Obligations.RingMaps := by
  unfold Obligations.RingMaps
  intro s src p tag q order closed seq head m mask ev v bytes off
  refine ⟨requestTimeout_early, fun hfind hlate => ⟨requestTimeout_other hfind hlate, requestTimeout_mnt hfind hlate, requestTimeout_host hfind hlate⟩,
    requestTimeout_none, censusSend_sends, censusSend_idle,
    fun hup hport => ⟨census_passes hup hport, census_yields hup hport, census_ends hup hport⟩, fun hup hacting hown hnew => ?_,
    fun hup hport hacting => ⟨fun hnew => ?_, map_known hup hport hacting⟩, eventMaskChange_sends, eventMaskChange_idle, eventApply_applies,
    eventApply_discards, fun hw => ⟨evtAck_arms hw, evtAck_raises hw, evtAck_idle hw⟩⟩
  · obtain ⟨u, hexec, hmap⟩ := mapBroadcast_maps hup hacting hown hnew
    exact ⟨u, hexec, hmap.fields⟩
  · obtain ⟨u, hexec, hmap, hrest⟩ := map_takes (seq := seq) (head := head) (order := order) (closed := closed) hup hport hacting hnew
    exact ⟨u, hexec, hmap.fields, hrest⟩

end Sys2Proof.Machine
end

section
-- One proof after another: elaborated side by side, the proofs of the whole text do not fit in the check's memory.
set_option Elab.async false
/-! Maintenance operations and MNT_CMD (R402, R414, R422). -/

namespace Sys2Proof.Machine

variable {s : State} {src : Src} {m origin : BitVec 6} {tag : BitVec 16} {off : BitVec 24} {arg v : Word} {d : DWord} {e : LogEntry} {c : Chan}

/-! ### What leaves the power state -/

theorem Within.samePwr {l : List RegName} {rs : List RegRef} {ps : List Part} {a : Act} (h : Within l rs ps a) (hp : Part.pwr ∉ ps := by decide) :
    a.Keeps (Same State.pwr) := fun s => (h s).parts .pwr hp

section
variable {b : Berth}

/-- The registers and the parts that a read of a port touches. -/
abbrev portNames : List RegName := [.HARB_LOSS, .FAULT_STATUS, .FAULT_EVENTS, .HARB_STATUS, .HARB_ECC, .HARB_COUNTS, .HARB_REFUSED]
abbrev portParts : List Part := [.harb, .log, .seed, .resp]

theorem Within.breakBerth : Within portNames [] portParts (.breakBerth b) := by
  have hfree : Within portNames [] portParts (.freeBerth b true) := Within.freeBerth.mono
  exact .all ⟨hfree, .setB, .count⟩

theorem Within.popCell {k : PushSrc} {ecc : Ecc} : Within portNames [] portParts (.popCell k b ecc) := by
  have hfree : Within portNames [] portParts (.freeHead b 1) := Within.freeHead.mono
  refine .look fun s => ?_
  dsimp only
  split
  · split
    · exact .andThen .breakBerth (.fresh fun _ => .answer)
    · exact .all ⟨.when .count, .when (.all ⟨.count, .setB⟩), .setBerth, hfree, .answer⟩
  · exact .all ⟨.setB, .count, .setBerth, .answer⟩

theorem Within.harbRefuse : Within portNames [] portParts .harbRefuse := .refuse

theorem Within.portPop {h : Half} {ecc : Ecc} : Within portNames [] portParts (.portPop src b h ecc) := by
  refine .look fun s => .ite .harbRefuse ?_
  cases h with
  | both => exact .popCell
  | lo => exact .andThen .popCell (.look fun _ => .all ⟨.setBerth, .answer⟩)
  | hi =>
    dsimp only
    split
    · exact .answer
    · exact .all ⟨.setBerth, .answer⟩

theorem Within.portPeek {h : Half} {ecc : Ecc} : Within portNames [] portParts (.portPeek src b h ecc) := by
  have hlow : ∀ (h : Half) (v : DWord), Within portNames [] portParts (.all [.when (ecc == .single) (.count F.HARB_ECC_CORRECTED),
      .when (ecc == .double) (.all [.count F.HARB_ECC_UNCORRECTABLE]),
      .when (h == Half.lo) (.setBerth b fun q => { q with peekHi := assocSet q.peekHi (pushSrcOf src) ((v >>> 32).setWidth 32) }),
      .answer (.ok (halfOf h v))]) := fun _ _ => .all ⟨.when .count, .when (.all (by exact .count)), .when .setBerth, .answer⟩
  refine .look fun s => .ite .harbRefuse ?_
  cases h with
  | hi =>
    dsimp only
    split
    · exact .answer
    · exact .all ⟨.setBerth, .answer⟩
  | both => exact .ite (.andThen .breakBerth (.fresh fun _ => .answer)) (hlow _ _)
  | lo => exact .ite (.andThen .breakBerth (.fresh fun _ => .answer)) (hlow _ _)

theorem Within.readPort {p : Nat} : Within portNames [] portParts (.readPort src b p) := by
  refine .look fun s => ?_
  split
  · exact .portPop
  · exact .portPop
  · exact .portPeek
  · exact .portPeek
  · exact .ite .answer .harbRefuse
  · exact .answer

end

theorem Act.readReg_samePwr (r : RegRef) : (Act.readReg r).Keeps (Same State.pwr) := by
  refine Act.keeps_look fun s => Act.keeps_ite (fun _ => rfl) ?_
  split
  · exact Act.keeps_all Same.frame ⟨fun _ => rfl, fun _ => rfl⟩
  · exact Act.keeps_all Same.frame ⟨fun _ => rfl, Act.setR_samePwr _ _ _ _ _, fun _ => rfl⟩

theorem Act.userAccess_samePwr (die : Die) (a : Fin 65536) (job : Option (Nat × Nat)) :
    (Act.userAccess src die false a 0 job).Keeps (Same State.pwr) := by
  refine Act.keeps_look fun s => Act.keeps_ite ?_ (fun _ => rfl)
  refine Act.keeps_all Same.frame ⟨fun _ => rfl, ?_⟩
  cases src with
  | engine e => exact Act.keeps_skip Same.frame
  | _ => exact fun _ => rfl

theorem Act.readBytes_samePwr (a n : Nat) : (Act.readBytes a n).Keeps (Same State.pwr) := Act.keeps_look fun _ _ => rfl

theorem Act.read32_samePwr (a : Nat) (job : Option (Nat × Nat)) : (Act.read32 src a job).Keeps (Same State.pwr) := by
  refine Act.keeps_look fun s => ?_
  cases placeOf a with
  | reg r =>
    dsimp only
    split
    · exact Act.keeps_ite (Act.readReg_samePwr r) fun _ => rfl
    · exact Act.readReg_samePwr r
  | user die x => exact Act.userAccess_samePwr die x job
  | context x o => exact Act.readBytes_samePwr _ _
  | step w high => exact Act.readBytes_samePwr _ _
  | memory x => exact Act.keeps_ite (fun _ => rfl) (Act.readBytes_samePwr _ _)
  | readback x => exact Act.keeps_ite (fun _ => rfl) (Act.readBytes_samePwr _ _)
  | port b p => exact Within.readPort.samePwr
  | reserved => exact fun _ => rfl

section
variable {r code pos result : Nat}

theorem Within.logReloc {a b x y : Nat} : Within [.FAULT_STATUS, .FAULT_EVENTS] [] [.log, .seed] (.logReloc a b x y) := .log

theorem Act.loadFail_samePwr : (Act.loadFail code pos).Keeps (Same State.pwr) := by
  have hlog : ∀ n x, Within [.FAULT_STATUS, .FAULT_EVENTS] [] [.log, .seed] (.log 7 n x) := fun _ _ => .log
  have hauto : ∀ r b, Within [.RELOC_STATUS, .FAULT_STATUS, .FAULT_EVENTS] [] [.log, .seed, .rel] (.all [
      .setF F.RELOC_STATUS_STATE 0, .setF F.RELOC_STATUS_RESULT 10, .repairing, .setB F.FAULT_EVENTS_RELOC_FAILED true, .logReloc r b 10 0,
      .upd fun u => { u with rel := { u.rel with auto := none } }]) := fun _ _ =>
    .all ⟨.setF, .setF, Within.repairing.mono, .setB, Within.logReloc.mono, .updPart .rel (fun _ => rfl) (fun _ => rfl) (by decide)⟩
  refine Act.keeps_look fun s => Act.keeps_all Same.frame
    ⟨Act.setF_samePwr _ _ _ _ _, Act.setF_samePwr _ _ _ _ _, Act.setB_pwr _ _ _ _ _, ?_, Act.loadIdle_samePwr⟩
  split
  · refine Act.keeps_all Same.frame ⟨(hlog _ _).samePwr, Act.keeps_when Same.frame (Act.keeps_look fun t => ?_)⟩
    split
    · exact (hauto _ _).samePwr
    · exact Act.keeps_skip Same.frame
  · exact Act.keeps_when Same.frame (hlog _ _).samePwr
  · exact Act.keeps_skip Same.frame

theorem Act.fullFail_samePwr {slot : Fin 2} {again : Bool} : (Act.fullFail slot again code pos).Keeps (Same State.pwr) := by
  have hlog : ∀ n x, Within [.FAULT_STATUS, .FAULT_EVENTS] [] [.log, .seed] (.log 7 n x) := fun _ _ => .log
  have hstate : ∀ n, Within [.CFG_STATUS] [] [] (.cfgState n) := fun _ => .setF
  refine Act.keeps_look fun s => Act.keeps_all Same.frame ⟨Act.setB_pwr _ _ _ _ _, Act.setF_samePwr _ _ _ _ _, Act.setF_samePwr _ _ _ _ _,
    Act.setF_samePwr _ _ _ _ _, Act.setB_pwr _ _ _ _ _, (hlog _ _).samePwr, fun _ => rfl, Act.loadIdle_samePwr, Act.keeps_ite ?_ ?_⟩
  · exact Act.keeps_all Same.frame ⟨(hstate 1).samePwr, fun _ => rfl⟩
  · exact Act.keeps_all Same.frame ⟨Act.setF_samePwr _ _ _ _ _, Act.setF_samePwr _ _ _ _ _, Act.setB_pwr _ _ _ _ _, fun _ => rfl,
      Act.keeps_each Same.frame _ Act.cmpsFollow_samePwr⟩

theorem Act.loadAbort_samePwr : Act.loadAbort.Keeps (Same State.pwr) := by
  refine Act.keeps_look fun s => ?_
  split
  · exact Act.keeps_skip Same.frame
  · exact Act.fullFail_samePwr
  · exact Act.keeps_all Same.frame ⟨Act.keeps_when Same.frame (Act.keeps_all Same.frame
      ⟨fun _ => rfl, fun _ => rfl, Act.setBit_pwr _ _ _ _ _, Act.clrBit_pwr _ _ _ _ _⟩), Act.loadFail_samePwr⟩
  · exact Act.loadFail_samePwr

theorem Act.relocBreak_samePwr : (Act.relocBreak result).Keeps (Same State.pwr) :=
  Act.keeps_look fun _ => Act.keeps_when Same.frame (Act.keeps_all Same.frame
    ⟨fun _ => rfl, fun _ => rfl, Act.setBit_pwr _ _ _ _ _, Act.clrBit_pwr _ _ _ _ _, Within.relocFail.samePwr⟩)

theorem Act.regionReset_samePwr : (Act.regionReset r).Keeps (Same State.pwr) :=
  Act.keeps_look fun _ => Act.keeps_all Same.frame ⟨Act.keeps_when Same.frame Act.loadAbort_samePwr,
    Act.keeps_when Same.frame Act.relocBreak_samePwr, Act.keeps_look fun _ => Act.keeps_when Same.frame Within.regionInit.samePwr⟩

end

/-! ### Answers -/

theorem Act.maintAnswer_own {n op status : Nat} {data : List DWord} (h : origin = s.ownNumber) :
    (Act.maintAnswer origin n op status data).run s = (Act.mntEnd status data).run s := by
  rw [Act.maintAnswer, Act.look_run, if_pos (beq_iff_eq.mpr h)]

/-- A MAINT operation of this head has ended with a STATUS. -/
def MntEnded (u : State) (status : Nat) : Prop := u.b F.MNT_STATUS_BUSY = false ∧ u.f F.MNT_STATUS_STATUS = status

theorem mntWord_full (n : Nat) (hn : n < 32) (w : Word) (s : State) : ((Act.setR .MNT_BUF w n).run s).r .MNT_BUF n = w := by
  rw [Act.setR_r_same _ _ _ _ _ _ (RegRef.valid_of hn)]
  exact BitVec.and_allOnes

theorem Act.mntEnd_data {status : Nat} {data : List DWord} (s : State) :
    ((Act.mntEnd status data).run s).r .MNT_DATA = (data.headD 0).setWidth 32 := by
  have hrun : (Act.mntEnd status data).run s = (Act.each (List.range 16) fun n => .all [
      .setR .MNT_BUF ((data.getD n 0).setWidth 32) (2 * n), .setR .MNT_BUF ((data.getD n 0 >>> 32).setWidth 32) (2 * n + 1)]).run
      ((Act.setR .MNT_DATA ((data.headD 0).setWidth 32)).run ((Act.setF F.MNT_STATUS_STATUS status).run ((Act.setB F.MNT_STATUS_BUSY false).run s))) := by
    simp only [Act.mntEnd, Act.all_cons_run, Act.all_nil_run]
  have hbuf : Within [.MNT_BUF] [] [] (.each (List.range 16) fun n => .all [
      .setR .MNT_BUF ((data.getD n 0).setWidth 32) (2 * n), .setR .MNT_BUF ((data.getD n 0 >>> 32).setWidth 32) (2 * n + 1)]) :=
    .each fun _ => .all ⟨.setR, .setR⟩
  rw [hrun, (hbuf _).r_eq 0 0 0, Act.setR_r_same _ _ _ _ _ _ (by decide)]
  exact BitVec.and_allOnes

/-- The first word of the answer stands in the first word of MNT_BUF. -/
theorem Act.mntEnd_buf {status : Nat} {data : List DWord} (s : State) :
    ((Act.mntEnd status data).run s).r .MNT_BUF = (data.headD 0).setWidth 32 := by
  have hhead : data.getD 0 0 = data.headD 0 := by cases data <;> rfl
  have hlater : ∀ l : List Nat, 0 ∉ l → ∀ t, ((Act.each l fun n => .all [
      .setR .MNT_BUF ((data.getD n 0).setWidth 32) (2 * n), .setR .MNT_BUF ((data.getD n 0 >>> 32).setWidth 32) (2 * n + 1)]).run t).r .MNT_BUF =
      t.r .MNT_BUF := by
    intro l
    induction l with
    | nil => exact fun _ _ => rfl
    | cons n l ih =>
      intro hnot t
      obtain ⟨hn, hl⟩ := not_or.mp fun h => hnot (List.mem_cons.mpr h)
      rw [Act.each_cons_run, ih hl, Act.all_cons_run, Act.all_cons_run, Act.all_nil_run, Act.setR_r_ne_inst _ _ _ _ _ _ _ _ _ (by omega),
        Act.setR_r_ne_inst _ _ _ _ _ _ _ _ _ (by omega)]
  rw [Act.mntEnd, Act.all_cons_run, Act.all_cons_run, Act.all_cons_run, Act.all_cons_run, Act.all_nil_run, List.range_eq_range',
    List.range'_succ, Act.each_cons_run, hlater _ (by simp), Act.all_cons_run, Act.all_cons_run, Act.all_nil_run,
    Act.setR_r_ne_inst _ _ _ _ _ _ _ _ _ (by omega), hhead]
  exact mntWord_full 0 (by decide) _ _

/-! ### Operations -/

theorem State.present_of_up (hup : s.up = true) : s.present = true := by
  have hlife : s.pwr.life = .up := beq_iff_eq.mp hup
  rw [State.present, hlife]
  rfl

theorem Act.maintAnswer_ends {n op status : Nat} {data : List DWord} {t : State} (hstatus : status < 8) (h : origin = t.ownNumber) :
    MntEnded ((Act.maintAnswer origin n op status data).run t) status := by
  rw [Act.maintAnswer_own h]
  exact Act.mntEnd_ends hstatus t

/-- What a module that serves makes of an operation. -/
def Act.maintServes (s : State) (origin : BitVec 6) (n op x : Nat) : Act :=
  match op with
  | 0 =>
    if regReadable (x % 2 ^ 24) then (Act.read32 .ring (x % 2 ^ 24) none).andThen <| .look fun t => match t.resp with
      | .ok d => .maintAnswer origin n op 0 [d]
      | _ => .maintAnswer origin n op 1 []
    else .maintAnswer origin n op 1 []
  | 1 => match s.logEntry (x % 2 ^ 32) with
    | some e => .maintAnswer origin n op 0 (entryBeats e)
    | none => .maintAnswer origin n op 1 []
  | 2 => .all [.safeEnter 4, .maintAnswer origin n op 0 []]
  | 3 => if 32 ≤ x then .maintAnswer origin n op 1 [] else .all [.regionReset x, .maintAnswer origin n op 0 []]
  | 4 => if x % 4 ≠ 0 ∨ 0x1000 ≤ x then .maintAnswer origin n op 1 []
    else (Act.captureCtrl (BitVec.ofNat 32 (x + 1))).andThen <| .look fun t =>
      .maintAnswer origin n op (if t.resp == .error then 1 else 0) []
  | 5 => if x ≠ 0xC3 then .maintAnswer origin n op 1 [] else .all [.maintAnswer origin n op 0 [], .moduleReset 2]
  | 6 => if h : x < 64 then .all [
      .setCh ⟨x, h⟩ fun y => { y with waiters := y.waiters ++ [(origin, BitVec.ofNat 16 n)] }, .dmaAbort ⟨x, h⟩]
    else .maintAnswer origin n op 1 []
  | _ => .maintAnswer origin n op 1 []

theorem Act.maintServes_unknown {n op x : Nat} (hop : 11 ≤ op) : Act.maintServes s origin n op x = .maintAnswer origin n op 1 [] := by
  unfold Act.maintServes
  split
  case h_8 => rfl
  all_goals omega

/-- An operation of this head that is refused ends with STATUS 1. -/
theorem maint_refused {i : Instr} {n op x : Nat} (hexec : exec i s = .next ((Act.ringDone (.maintRun s.ownNumber n op x)).run s))
    (hrun : (Act.maintRun s.ownNumber n op x).run s = (Act.maintAnswer s.ownNumber n op 1 []).run s) :
    AnswersThenSettled i s fun u => MntEnded u 1 :=
  answersThenSettled_of hexec hrun (Act.maintAnswer_ends (by decide) rfl)

section
variable (hup : s.up = true) (hfree : s.b F.COLYS_ID_ISOLATED = false)
include hup hfree

theorem Act.maintRun_serves {n op x : Nat} : (Act.maintRun origin n op x).run s = (Act.maintServes s origin n op x).run s := by
  unfold Act.maintRun Act.maintServes
  rw [Act.look_run]
  dsimp only
  rw [State.present_of_up hup, hup, hfree, if_neg (by decide), if_neg (by decide)] <;> rfl

theorem regRead_reads (hreads : regReadable off.toNat = true) (hd : ((Act.read32 .ring off.toNat none).run s).resp = .ok d) :
    AnswersThenSettled (.regRead s.ownNumber tag off) s fun u => MntEnded u 0 ∧ u.r .MNT_DATA = d.setWidth 32 := by
  have hrun := Act.maintRun_serves (origin := s.ownNumber) (n := tag.toNat) (op := 0) (x := off.toNat) hup hfree
  have hkept : ((Act.read32 .ring off.toNat none).run s).pwr = s.pwr := Act.read32_samePwr off.toNat none s
  rw [Act.maintServes, Nat.mod_eq_of_lt off.isLt, if_pos hreads, Act.andThen_run, Act.look_run, hd] at hrun
  generalize (Act.read32 .ring off.toNat none).run s = t at hrun hkept
  have hown : s.ownNumber = t.ownNumber := by rw [State.ownNumber, State.ownNumber, hkept]
  refine answersThenSettled_of rfl hrun ⟨Act.maintAnswer_ends (by decide) hown, ?_⟩
  dsimp only
  rw [Act.maintAnswer_own hown]
  exact Act.mntEnd_data t

theorem regRead_refused (hreads : regReadable off.toNat = false) :
    AnswersThenSettled (.regRead s.ownNumber tag off) s fun u => MntEnded u 1 := by
  refine maint_refused rfl ((Act.maintRun_serves hup hfree).trans ?_)
  rw [Act.maintServes, Nat.mod_eq_of_lt off.isLt, hreads]
  rfl

theorem logRead_reads (hentry : s.logEntry arg.toNat = some e) : AnswersThenSettled (.logRead s.ownNumber tag arg) s fun u =>
    MntEnded u 0 ∧ u.r .MNT_BUF = ((entryBeats e).headD 0).setWidth 32 := by
  have hrun := Act.maintRun_serves (origin := s.ownNumber) (n := tag.toNat) (op := 1) (x := arg.toNat) hup hfree
  rw [Act.maintServes, Nat.mod_eq_of_lt arg.isLt, hentry] at hrun
  refine answersThenSettled_of rfl hrun ⟨Act.maintAnswer_ends (by decide) rfl, ?_⟩
  dsimp only
  rw [Act.maintAnswer_own rfl]
  exact Act.mntEnd_buf s

theorem Act.logRead_misses (hentry : s.logEntry arg.toNat = none) :
    (Act.maintRun origin tag.toNat 1 arg.toNat).run s = (Act.maintAnswer origin tag.toNat 1 1 []).run s := by
  refine (Act.maintRun_serves hup hfree).trans ?_
  rw [Act.maintServes, Nat.mod_eq_of_lt arg.isLt, hentry]

theorem logRead_missing (hentry : s.logEntry arg.toNat = none) : AnswersThenSettled (.logRead s.ownNumber tag arg) s fun u => MntEnded u 1 :=
  maint_refused rfl (Act.logRead_misses hup hfree hentry)

end

/-! ### The completion of another module's operation -/

theorem LanesOnly.kept {t : State} (h : LanesOnly s t) : t.ring.kept = s.ring.kept :=
  show t.ring.offLanes.kept = s.ring.offLanes.kept from congrArg RingSt.kept h

theorem Act.maintAnswer_keeps {n op status : Nat} {data : List DWord} (h : origin ≠ s.ownNumber) :
    ((Act.maintAnswer origin n op status data).run s).ring.kept.head? = some (origin, n, s.clk, some (completionWords s.ownNumber
      { kind := pkMaint, maint := true, dst := s.ownNumber, src := origin, tag := n } op status data)) := by
  have hother : (origin == s.ownNumber) = false := beq_eq_false_iff_ne.mpr h
  rw [Act.maintAnswer, Act.look_run, hother, if_neg Bool.false_ne_true, Act.all_cons_run, Act.all_cons_run, Act.all_nil_run]
  generalize completionWords s.ownNumber { kind := pkMaint, maint := true, dst := s.ownNumber, src := origin, tag := n } op status data = words
  rw [LanesOnly.kept (LanesOnly.complete _)]
  rfl

theorem logRead_answers (hup : s.up = true) (hfree : s.b F.COLYS_ID_ISOLATED = false) (hentry : s.logEntry arg.toNat = none)
    (hm : m ≠ s.ownNumber) : AnswersThenSettled (.logRead m tag arg) s fun u =>
      u.ring.kept.head? = some (m, tag.toNat, s.clk, some (completionWords s.ownNumber
        { kind := pkMaint, maint := true, dst := s.ownNumber, src := m, tag := tag.toNat } 1 1 [])) :=
  answersThenSettled_of rfl (Act.logRead_misses hup hfree hentry) (Act.maintAnswer_keeps hm)

/-! ### Operations that act -/

/-- A capture has been taken up by FAB.CAP_CTRL. -/
theorem Act.captureTaken {w : Word} {x : Capture} {t : State} (s : State)
    (ht : t = (Act.look fun t => .when (t.resp != .error) (.store .FAB_CAP_CTRL w)).run ((Act.captureWaits x 1).run s)) :
    t.resp = .ok 0 ∧ t.f F.FAB_CAP_STATUS_STATE = 1 ∧ t.fab.capture = some x ∧ t.pwr = s.pwr := by
  have heffect : t = (Act.store .FAB_CAP_CTRL w).run ((Act.captureWaits x 1).run s) := ht
  have hstore : Within [.FAB_CAP_CTRL] [] [] (.store .FAB_CAP_CTRL w) := .store
  have hwaits : Within [.FAB_CAP_STATUS] [] [.fab, .resp] (.captureWaits x 1) := .all ⟨.setFab, .setF, .accept⟩
  have hstate : ((Act.captureWaits x 1).run s).f F.FAB_CAP_STATUS_STATE = 1 := by
    rw [Act.captureWaits, Act.all_cons_run, Act.all_cons_run, Act.all_cons_run, Act.all_nil_run, Act.accept_f]
    exact Act.setF_f_same F.FAB_CAP_STATUS_STATE 1 0 0 0 _ (by decide) (by decide)
  have hresp : ((Act.captureWaits x 1).run s).resp = .ok 0 := rfl
  have hcapture : ((Act.captureWaits x 1).run s).fab.capture = some x := rfl
  have hpwr := (hwaits s).parts .pwr (by decide)
  have hkept := hstore ((Act.captureWaits x 1).run s)
  rw [← heffect] at hkept
  exact ⟨(hkept.parts .resp (by decide)).trans hresp, (hkept.f_eq 0 0 0).trans hstate,
    (congrArg FabSt.capture (hkept.parts .fab (by decide))).trans hcapture, (hkept.parts .pwr (by decide)).trans hpwr⟩

section
variable (hup : s.up = true) (hfree : s.b F.COLYS_ID_ISOLATED = false)
include hup hfree

theorem maintSafe_enters : AnswersThenSettled (.maintSafe s.ownNumber tag) s fun u =>
    MntEnded u 0 ∧ u.b F.LIMIT_SAFE_ACTIVE = true ∧ u.bit F.LIMIT_SAFE_CAUSE 4 = true := by
  have hrun := Act.maintRun_serves (origin := s.ownNumber) (n := tag.toNat) (op := 2) (x := 0) hup hfree
  rw [Act.maintServes, Act.all_cons_run, Act.all_cons_run, Act.all_nil_run] at hrun
  have hkept : ((Act.safeEnter 4).run s).pwr = s.pwr := (Within.safeEnter s).parts .pwr (by decide)
  have hactive := Act.safeEnter_active 4 s
  have hcause := Act.safeEnter_cause (cause := 4) (by decide) s
  generalize (Act.safeEnter 4).run s = t at hrun hkept hactive hcause
  have hown : s.ownNumber = t.ownNumber := by rw [State.ownNumber, State.ownNumber, hkept]
  rw [Act.maintAnswer_own hown] at hrun
  have htouch := Within.mntEnd (status := 0) (data := []) t
  exact answersThenSettled_of rfl hrun ⟨Act.mntEnd_ends (by decide) t, (htouch.b_eq 0 0 0).trans hactive, (htouch.bit_eq 4 0 0 0).trans hcause⟩

theorem maintRegionReset_refused (harg : 32 ≤ arg.toNat) : AnswersThenSettled (.maintRegionReset s.ownNumber tag arg) s fun u => MntEnded u 1 := by
  refine maint_refused rfl ((Act.maintRun_serves hup hfree).trans ?_)
  rw [Act.maintServes, if_pos harg]

theorem maintRegionReset_resets (harg : arg.toNat < 32) : AnswersThenSettled (.maintRegionReset s.ownNumber tag arg) s fun u =>
    MntEnded u 0 ∧ (s.loadingRegion arg.toNat = false → s.relocating = false → s.regionHeld arg.toNat = false → s.retired arg.toNat = false →
      u.fab = ((Act.regionInit arg.toNat).run s).fab) := by
  have hrun := Act.maintRun_serves (origin := s.ownNumber) (n := tag.toNat) (op := 3) (x := arg.toNat) hup hfree
  rw [Act.maintServes, if_neg (Nat.not_le.mpr harg), Act.all_cons_run, Act.all_cons_run, Act.all_nil_run] at hrun
  have hkept : ((Act.regionReset arg.toNat).run s).pwr = s.pwr := Act.regionReset_samePwr s
  have hown : s.ownNumber = ((Act.regionReset arg.toNat).run s).ownNumber := by rw [State.ownNumber, State.ownNumber, hkept]
  rw [Act.maintAnswer_own hown] at hrun
  refine answersThenSettled_of rfl hrun ⟨Act.mntEnd_ends (by decide) _, fun hload hrel hheld hretired => ?_⟩
  rw [(Within.mntEnd _).parts .fab (by decide), Act.regionReset_free hload hrel, hheld, hretired, Bool.not_false, Bool.and_true, Act.when_true_run]

theorem maintCapture_refused (harg : arg.toNat % 4 ≠ 0 ∨ 0x1000 ≤ arg.toNat) :
    AnswersThenSettled (.maintCapture s.ownNumber tag arg) s fun u => MntEnded u 1 := by
  refine maint_refused rfl ((Act.maintRun_serves hup hfree).trans ?_)
  rw [Act.maintServes, if_pos harg]

theorem maintCapture_starts (halign : arg.toNat % 4 = 0) (hsmall : arg.toNat < 0x1000) (hscope : F.FAB_CAP_CTRL_SCOPE.of arg ≠ 3)
    (hidle : s.f F.FAB_CAP_STATUS_STATE = 0) (hparked : s.mode parked = false) :
    AnswersThenSettled (.maintCapture s.ownNumber tag arg) s fun u =>
      MntEnded u 0 ∧ u.f F.FAB_CAP_STATUS_STATE = 1 ∧ u.fab.capture.map Capture.scope = some (F.FAB_CAP_CTRL_SCOPE.of arg) := by
  have hrun := Act.maintRun_serves (origin := s.ownNumber) (n := tag.toNat) (op := 4) (x := arg.toNat) hup hfree
  have hnat : (BitVec.ofNat 32 (arg.toNat + 1)).toNat = arg.toNat + 1 := by
    rw [BitVec.toNat_ofNat]
    omega
  have hstart : F.FAB_CAP_CTRL_START.of (BitVec.ofNat 32 (arg.toNat + 1)) = 1 := by
    show (_ >>> 0) % 2 ^ 1 = 1
    rw [hnat, Nat.shiftRight_zero]
    omega
  have hsame : F.FAB_CAP_CTRL_SCOPE.of (BitVec.ofNat 32 (arg.toNat + 1)) = F.FAB_CAP_CTRL_SCOPE.of arg := by
    show (_ >>> 2) % 2 ^ 2 = (_ >>> 2) % 2 ^ 2
    rw [hnat, Nat.shiftRight_eq_div_pow, Nat.shiftRight_eq_div_pow]
    omega
  rw [Act.maintServes, if_neg (by omega), Act.andThen_run, Act.look_run, Act.captureCtrl_starts hstart,
    Act.captureStart_waits hidle (hsame ▸ hscope) hparked, hsame] at hrun
  generalize BitVec.ofNat 32 (arg.toNat + 1) = w at hrun
  generalize hc : (⟨F.FAB_CAP_CTRL_SCOPE.of arg, F.FAB_CAP_CTRL_REGION.of w, F.FAB_CAP_CTRL_CLK.of w, s.clk,
    s.scopeMoves ⟨F.FAB_CAP_CTRL_SCOPE.of arg, F.FAB_CAP_CTRL_REGION.of w, F.FAB_CAP_CTRL_CLK.of w, s.clk, false, false⟩, false⟩ : Capture) = c at hrun
  obtain ⟨t, ht⟩ : ∃ t, t = (Act.look fun t => .when (t.resp != .error) (.store .FAB_CAP_CTRL w)).run ((Act.captureWaits c 1).run s) := ⟨_, rfl⟩
  rw [← ht] at hrun
  obtain ⟨hresp, hstate, hcapture, hpwr⟩ := Act.captureTaken (w := w) (x := c) s ht
  have hown : s.ownNumber = t.ownNumber := by rw [State.ownNumber, State.ownNumber, hpwr]
  rw [hresp, Act.maintAnswer_own hown] at hrun
  have htouch := Within.mntEnd (status := 0) (data := []) t
  refine answersThenSettled_of rfl hrun ⟨Act.mntEnd_ends (by decide) t, (htouch.f_eq 0 0 0).trans hstate, ?_⟩
  exact (congrArg (fun f : FabSt => f.capture.map Capture.scope) (htouch.parts .fab (by decide))).trans (by rw [hcapture, ← hc]; rfl)

theorem maintModuleReset_refused (harg : arg.toNat ≠ 0xC3) :
    AnswersThenSettled (.maintModuleReset s.ownNumber tag arg) s fun u => MntEnded u 1 ∧ u.pwr = s.pwr := by
  have hrun := Act.maintRun_serves (origin := s.ownNumber) (n := tag.toNat) (op := 5) (x := arg.toNat) hup hfree
  rw [Act.maintServes, if_pos harg, Act.maintAnswer_own rfl] at hrun
  exact answersThenSettled_of rfl hrun ⟨Act.mntEnd_ends (by decide) s, (Within.mntEnd s).parts .pwr (by decide)⟩

theorem maintModuleReset_resets (harg : arg.toNat = 0xC3) : AnswersThenSettled (.maintModuleReset s.ownNumber tag arg) s fun u =>
    u.pwr.life = .boot ∧ u.up = false ∧ u.f F.SYS_RST_CAUSE_CAUSE = 2 := by
  have hrun := Act.maintRun_serves (origin := s.ownNumber) (n := tag.toNat) (op := 5) (x := arg.toNat) hup hfree
  rw [Act.maintServes, if_neg (not_not.mpr harg), Act.all_cons_run, Act.all_cons_run, Act.all_nil_run] at hrun
  generalize (Act.maintAnswer s.ownNumber tag.toNat 5 0 []).run s = t at hrun
  have hlife : ((Act.moduleReset 2).run t).pwr.life = .boot := by
    rw [Act.moduleReset_pwr]
    rfl
  refine answersThenSettled_of rfl hrun ⟨hlife, ?_, Act.moduleReset_cause (by decide) t⟩
  rw [State.up, hlife]
  rfl

theorem maintDmaAbort_refused (harg : 64 ≤ arg.toNat) : AnswersThenSettled (.maintDmaAbort s.ownNumber tag arg) s fun u => MntEnded u 1 := by
  refine maint_refused rfl ((Act.maintRun_serves hup hfree).trans ?_)
  rw [Act.maintServes, dif_neg (Nat.not_lt.mpr harg)]

/-- The abort of a channel is answered to who has asked for it. -/
def DmaCh.asked (origin : BitVec 6) (tag : BitVec 16) (x : DmaCh) : DmaCh := { x with waiters := x.waiters ++ [(origin, tag)] }

theorem Act.maintDmaAbort_run (harg : arg.toNat = c.val) : (Act.maintRun origin tag.toNat 6 arg.toNat).run s =
    (Act.dmaAbort c).run ((Act.setCh c (DmaCh.asked origin tag)).run s) := by
  refine (Act.maintRun_serves hup hfree).trans ?_
  have hlt : arg.toNat < 64 := harg ▸ c.isLt
  have hchan : (⟨arg.toNat, hlt⟩ : Chan) = c := Fin.ext harg
  rw [Act.maintServes, dif_pos hlt, Act.all_cons_run, Act.all_cons_run, Act.all_nil_run, hchan, BitVec.ofNat_toNat, BitVec.setWidth_eq]
  rfl

theorem maintDmaAbort_drains (harg : arg.toNat = c.val) (hstate : s.dmaState c = dmaRun) (habort : (s.ch c).abort = none) :
    AnswersThenSettled (.maintDmaAbort s.ownNumber tag arg) s fun u =>
      u.dmaState c = dmaDrain ∧ (u.ch c).abort = some s.clk ∧ (u.ch c).waiters = (s.ch c).waiters ++ [(s.ownNumber, tag)] := by
  have hrun := Act.maintDmaAbort_run (origin := s.ownNumber) (tag := tag) hup hfree harg
  have hch := Act.setCh_ch (c := c) (DmaCh.asked s.ownNumber tag) s
  have hstate : ((Act.setCh c (DmaCh.asked s.ownNumber tag)).run s).dmaState c = dmaRun := hstate
  have hclk : ((Act.setCh c (DmaCh.asked s.ownNumber tag)).run s).clk = s.clk := rfl
  generalize (Act.setCh c (DmaCh.asked s.ownNumber tag)).run s = t at hrun hch hstate hclk
  have habort : (t.ch c).abort.isSome = false := by
    rw [hch]
    exact congrArg Option.isSome habort
  have heffect : (Act.dmaAbort c).run t = (Act.dmaState c dmaDrain).run
      ((Act.setCh c fun x => { x with abort := some t.clk, jobs := x.jobs.map (DmaJob.stop codeAborted) }).run t) := by
    rw [Act.dmaAbort, Act.look_run, hstate]
    dsimp only
    rw [if_neg (by decide), if_neg (by decide), habort, if_neg Bool.false_ne_true, Act.all_cons_run, Act.all_cons_run, Act.all_nil_run]
    rfl
  have hset := Act.setCh_ch (c := c) (fun x => { x with abort := some t.clk, jobs := x.jobs.map (DmaJob.stop codeAborted) }) t
  rw [heffect] at hrun
  generalize (Act.setCh c fun x => { x with abort := some t.clk, jobs := x.jobs.map (DmaJob.stop codeAborted) }).run t = u at hrun hset
  have hkept : ((Act.dmaState c dmaDrain).run u).ch c = u.ch c := by rw [Within.dmaState.ch_eq]
  refine answersThenSettled_of rfl hrun ⟨Act.dmaState_same (by decide) u, ?_, ?_⟩
  · rw [hkept, hset, hclk]
  · rw [hkept, hset, hch]
    rfl

theorem maintDmaAbort_idle (harg : arg.toNat = c.val) (hstate : s.dmaState c = dmaIdle) (hnone : (s.ch c).waiters = []) :
    AnswersThenSettled (.maintDmaAbort s.ownNumber tag arg) s fun u => MntEnded u 0 ∧ (u.ch c).waiters = [] := by
  have hrun := Act.maintDmaAbort_run (origin := s.ownNumber) (tag := tag) hup hfree harg
  have hch := Act.setCh_ch (c := c) (DmaCh.asked s.ownNumber tag) s
  have hstate : ((Act.setCh c (DmaCh.asked s.ownNumber tag)).run s).dmaState c = dmaIdle := hstate
  have hown : ((Act.setCh c (DmaCh.asked s.ownNumber tag)).run s).ownNumber = s.ownNumber := rfl
  generalize (Act.setCh c (DmaCh.asked s.ownNumber tag)).run s = t at hrun hch hstate hown
  have hwaiters : (t.ch c).waiters = [(s.ownNumber, tag)] := by
    rw [hch]
    exact congrArg (· ++ [(s.ownNumber, tag)]) hnone
  have heffect : (Act.dmaAbort c).run t = (Act.setF F.MNT_STATUS_STATUS 0).run ((Act.setB F.MNT_STATUS_BUSY false).run
      ((Act.setCh c fun x => { x with waiters := [] }).run t)) := by
    rw [Act.dmaAbort, Act.look_run, hstate]
    dsimp only
    rw [if_neg (by decide), if_pos rfl, Act.abortAnswered, Act.look_run, hwaiters, hown]
    dsimp only
    rw [Act.all_cons_run, Act.all_cons_run, Act.all_nil_run, Act.each_cons_run, Act.each_nil_run, if_pos (beq_self_eq_true _), Act.all_cons_run,
      Act.all_cons_run, Act.all_nil_run]
  rw [heffect] at hrun
  have hset := Act.setCh_ch (c := c) (fun x => { x with waiters := [] }) t
  generalize (Act.setCh c fun x => { x with waiters := [] }).run t = u at hrun hset
  have hmarks : Within [.MNT_STATUS] [] [] (.all [.setB F.MNT_STATUS_BUSY false, .setF F.MNT_STATUS_STATUS 0]) := .all ⟨.setB, .setF⟩
  have hkept := hmarks.ch_eq u c
  rw [Act.all_cons_run, Act.all_cons_run, Act.all_nil_run] at hkept
  refine answersThenSettled_of rfl hrun ⟨⟨by simp +decide [State.b], ?_⟩, by rw [hkept, hset]⟩
  exact Act.setF_f_same F.MNT_STATUS_STATUS 0 0 0 0 _ (by decide) (by decide)

end

theorem maintSafe_absent (hlife : s.pwr.life = .off ∨ s.pwr.life = .collapsed) : AnswersThenSettled (.maintSafe m tag) s fun u => u = s := by
  have habsent : s.present = false := by
    rcases hlife with h | h <;> rw [State.present, h] <;> rfl
  refine answersThenSettled_of rfl ?_ rfl
  unfold Act.maintRun
  rw [Act.look_run]
  dsimp only
  rw [habsent]
  rfl

/-! ### MNT_CMD -/

section
variable (hw : s.takesReg src .MNT_CMD)
include hw

theorem mntCmd_absent (hacting : s.acting = false) : AnswersThenSettled (.mntCmd src v) s fun u => u = { s with resp := .ok 0 } := by
  have heffect : (Act.mntCmd v).run s = Act.accept.run s := by
    rw [Act.mntCmd, Act.look_run, hacting]
    rfl
  have hrun := Act.writeTo_accepted (d := 0) hw (a := Act.mntCmd v) (by rw [heffect]; rfl)
  exact answersThenSettled_of rfl (hrun.trans heffect) rfl

theorem mntCmd_busy (hacting : s.acting = true) (hbusy : s.b F.MNT_STATUS_BUSY = true) : AnswersThenSettled (.mntCmd src v) s fun u =>
    u.resp = .error ∧ Counted F.COLYS_REFUSED_COUNT s u ∧ NamesKept [.COLYS_REFUSED, .FAB_PORT_ERR] s u ∧ OnlyRegs s u := by
  have heffect : (Act.mntCmd v).run s = (Act.refuse F.COLYS_REFUSED_COUNT).run s := by
    rw [Act.mntCmd, Act.look_run, hacting]
    dsimp only
    rw [hbusy]
    rfl
  exact answersThenSettled_of rfl rfl (Act.writeTo_refused hw heffect (by decide))

/-- MNT_STATUS as an operation begins. -/
def Act.mntBegins : Act := .all [.setF F.MNT_STATUS_STATUS 0, .setB F.MNT_STATUS_BUSY true]

omit hw in
theorem Act.mntBegins_shows (s : State) : (Act.mntBegins.run s).b F.MNT_STATUS_BUSY = true ∧ (Act.mntBegins.run s).f F.MNT_STATUS_STATUS = 0 := by
  refine ⟨by simp +decide [Act.mntBegins, State.b], ?_⟩
  rw [Act.mntBegins, Act.all_f_head (by exact .all (by exact .setB))]
  exact Act.setF_f_same F.MNT_STATUS_STATUS 0 0 0 0 s (by decide) (by decide)

omit hw in
theorem Within.mntBegins : Within [.MNT_STATUS] [] [] .mntBegins := .all ⟨.setF, .setB⟩

omit hw in
theorem Act.mntCmd_free (hacting : s.acting = true) (hidle : s.b F.MNT_STATUS_BUSY = false) : (Act.mntCmd v).run s =
    Act.accept.run ((if BitVec.ofNat 6 (F.MNT_CMD_DST.of v) == s.ownNumber then
        if 7 ≤ F.MNT_CMD_OP.of v ∧ F.MNT_CMD_OP.of v ≤ 10 then Act.setRing fun r =>
          { r with reqs := r.reqs ++ [⟨r.tag, BitVec.ofNat 6 (F.MNT_CMD_DST.of v), .mnt, s.clk⟩], tag := (r.tag + 1) % 65536 }
        else .maintRun (BitVec.ofNat 6 (F.MNT_CMD_DST.of v)) 0 (F.MNT_CMD_OP.of v) (s.r .MNT_ARG).toNat
      else .request (BitVec.ofNat 6 (F.MNT_CMD_DST.of v)) .mnt
        (s.maintWords (BitVec.ofNat 6 (F.MNT_CMD_DST.of v)) (F.MNT_CMD_OP.of v) (s.r .MNT_ARG).toNat)).run (Act.mntBegins.run s)) := by
  rw [Act.mntCmd, Act.look_run, hacting]
  dsimp only
  rw [hidle, if_neg (by decide), if_neg Bool.false_ne_true]
  simp only [Act.mntBegins, Act.all_cons_run, Act.all_nil_run]

theorem mntCmd_sends (hacting : s.acting = true) (hidle : s.b F.MNT_STATUS_BUSY = false)
    (hdst : BitVec.ofNat 6 (F.MNT_CMD_DST.of v) ≠ s.ownNumber) : AnswersThenSettled (.mntCmd src v) s fun u =>
      u.resp = .ok 0 ∧ u.b F.MNT_STATUS_BUSY = true ∧ u.f F.MNT_STATUS_STATUS = 0 := by
  have heffect := Act.mntCmd_free (v := v) hacting hidle
  rw [beq_eq_false_iff_ne.mpr hdst, if_neg Bool.false_ne_true] at heffect
  have hrun := Act.writeTo_accepted (d := 0) hw (a := Act.mntCmd v) (by rw [heffect]; rfl)
  have hrequest : ∀ words, Within [.COLYS_COUNTS] [] [.ring, .tx] (.request (BitVec.ofNat 6 (F.MNT_CMD_DST.of v)) .mnt words) := fun _ => .request
  obtain ⟨hbusy, hstatus⟩ := Act.mntBegins_shows s
  have htouch := hrequest (s.maintWords (BitVec.ofNat 6 (F.MNT_CMD_DST.of v)) (F.MNT_CMD_OP.of v) (s.r .MNT_ARG).toNat) (Act.mntBegins.run s)
  refine answersThenSettled_of rfl (hrun.trans heffect) ⟨rfl, ?_, ?_⟩
  · exact (htouch.b_eq 0 0 0).trans hbusy
  · exact (htouch.f_eq 0 0 0).trans hstatus

theorem mntCmd_unknown (hacting : s.acting = true) (hidle : s.b F.MNT_STATUS_BUSY = false) (hfree : s.b F.COLYS_ID_ISOLATED = false)
    (hdst : BitVec.ofNat 6 (F.MNT_CMD_DST.of v) = s.ownNumber) (hop : 11 ≤ F.MNT_CMD_OP.of v) :
    AnswersThenSettled (.mntCmd src v) s fun u => u.resp = .ok 0 ∧ MntEnded u 1 := by
  have heffect := Act.mntCmd_free (v := v) hacting hidle
  rw [beq_iff_eq.mpr hdst, if_pos rfl, if_neg (by omega)] at heffect
  have hbegins := Within.mntBegins s
  generalize Act.mntBegins.run s = t at heffect hbegins
  have hup : t.up = true := by
    rw [State.up, hbegins.parts .pwr (by decide)]
    exact hw.1
  have hown : BitVec.ofNat 6 (F.MNT_CMD_DST.of v) = t.ownNumber := by
    rw [hdst, State.ownNumber, State.ownNumber, hbegins.parts .pwr (by decide)]
  rw [Act.maintRun_serves hup ((hbegins.b_eq 0 0 0).trans hfree), Act.maintServes_unknown hop, Act.maintAnswer_own hown] at heffect
  have hends := Act.mntEnd_ends (status := 1) (data := []) (by decide) t
  generalize (Act.mntEnd 1 []).run t = u at heffect hends
  have hrun := Act.writeTo_accepted (d := 0) hw (a := Act.mntCmd v) (by rw [heffect]; rfl)
  exact answersThenSettled_of rfl (hrun.trans heffect) ⟨rfl, hends⟩

end

/-- Settles O54: each operation by its lemma. -/
theorem maintenance : Obligations.Maintenance := by
  unfold Obligations.Maintenance
  intro s src m tag off arg v d e
  exact ⟨fun hup hfree => ⟨regRead_reads hup hfree, regRead_refused hup hfree, logRead_reads hup hfree, logRead_missing hup hfree,
      logRead_answers hup hfree, maintSafe_enters hup hfree, maintRegionReset_refused hup hfree, maintRegionReset_resets hup hfree,
      maintCapture_refused hup hfree, maintCapture_starts hup hfree, maintModuleReset_refused hup hfree, maintModuleReset_resets hup hfree,
      maintDmaAbort_refused hup hfree, fun _ => maintDmaAbort_drains hup hfree, fun _ => maintDmaAbort_idle hup hfree⟩, maintSafe_absent,
    fun hw => ⟨mntCmd_absent hw, mntCmd_busy hw, mntCmd_sends hw, mntCmd_unknown hw⟩⟩

end Sys2Proof.Machine
end

section
-- One proof after another: elaborated side by side, the proofs of the whole text do not fit in the check's memory.
set_option Elab.async false
/-! The host port and the Ethernet port of the head (R410 to R415). -/

namespace Sys2Proof.Machine

variable {s : State} {m : BitVec 6} {off : BitVec 24} {bytes : Nat} {write ok on : Bool} {v : DWord} {words : List DWord} {rest : List (List DWord)}
  {data : List DWord} {speed : Fin 4} {width : Fin 32} {f : EthFrame}

/-! ### Accesses that are not taken -/

theorem hostAccess_absent (hacting : s.acting = false) : AnswersThenSettled (.hostAccess m off bytes write v) s fun u => u = { s with resp := .noTarget } := by
  refine answersThenSettled_of rfl ?_ rfl
  rw [Act.hostAccess, Act.look_run, hacting]
  rfl

section
variable (hacting : s.acting = true) (hbad : bytes ≠ 4 ∧ bytes ≠ 8 ∨ off.toNat % bytes ≠ 0)
include hacting hbad

theorem Act.hostAccess_bad : (Act.hostAccess m off.toNat bytes write v).run s =
    (Act.all [.answer .error, if write then .count F.HOST_ERRS_WR_ERR else .send (.hostAnswer .error)]).run s := by
  rw [Act.hostAccess, Act.look_run, hacting]
  dsimp only
  rw [if_neg (by decide), if_pos hbad]

theorem hostAccess_badWrite : AnswersThenSettled (.hostAccess m off bytes true v) s fun u =>
    u.resp = .error ∧ Counted F.HOST_ERRS_WR_ERR s u ∧ RegsKept [⟨.HOST_ERRS, 0, 0, 0⟩] s u ∧ OnlyRegs s u := by
  have hin : Within [] [⟨.HOST_ERRS, 0, 0, 0⟩] [.resp] (.all [.answer .error, .count F.HOST_ERRS_WR_ERR]) := .all ⟨.answer, .countAt⟩
  refine answersThenSettled_of rfl (Act.hostAccess_bad (write := true) hacting hbad) ⟨?_, ?_, (hin s).regsKept, (hin s).rest⟩
  · simp
  · rw [Counted]
    simp +decide

theorem hostAccess_badRead : AnswersThenSettled (.hostAccess m off bytes false v) s fun u =>
    u = { s with resp := .error, tx := s.tx ++ [.hostAnswer .error] } :=
  answersThenSettled_of rfl (Act.hostAccess_bad hacting hbad) rfl

end

/-! ### Accesses of other modules -/

/-- An issued request waits for its answer under its TAG. -/
theorem Act.issue_run {dst : BitVec 6} {use : RingUse} : ∃ w, (Act.issue dst use words).run s = (Act.dispatch w).run ((Act.setRing fun r => { r with
    tag := (s.ring.tag + 1) % 65536
    issued := (s.ring.tag, s.clk) :: r.issued.filter (fun e => decide (s.clk < e.2 + 163840))
    reqs := r.reqs ++ [⟨s.ring.tag, dst, use, s.clk⟩] }).run s) := by
  rw [Act.issue, Act.look_run, Act.all_cons_run, Act.all_cons_run, Act.all_nil_run]
  exact ⟨_, rfl⟩

theorem Act.issue_issues {dst : BitVec 6} {use : RingUse} : let u := (Act.issue dst use words).run s
    u.ring.reqs = s.ring.reqs ++ [⟨s.ring.tag, dst, use, s.clk⟩] ∧ u.ring.tag = (s.ring.tag + 1) % 65536 ∧ u.ring.held = s.ring.held := by
  obtain ⟨w, hrun⟩ := Act.issue_run (s := s) (words := words) (dst := dst) (use := use)
  dsimp only
  rw [hrun]
  generalize ht : (Act.setRing _).run s = t
  have hkept : ((Act.dispatch w).run t).ring.offPath = t.ring.offPath := PathKept.dispatch t
  refine ⟨(congrArg RingSt.reqs hkept).trans ?_, (congrArg RingSt.tag hkept).trans ?_, (congrArg RingSt.held hkept).trans ?_⟩
  all_goals
    rw [← ht]
    rfl

/-- R401: a request with nothing before it goes out at once. -/
theorem Act.request_issues {dst : BitVec 6} {use : RingUse} (hsome : words ≠ []) (hheld : s.ring.held = []) (htag : s.tagFree s.ring.tag = true)
    (hfree : s.requestHeld dst use = false) : let u := (Act.request dst use words).run s
    u.ring.reqs = s.ring.reqs ++ [⟨s.ring.tag, dst, use, s.clk⟩] ∧ u.ring.tag = (s.ring.tag + 1) % 65536 ∧ u.ring.held = [] := by
  obtain ⟨t, ht⟩ : ∃ t, t = (Act.setRing fun r => { r with held := r.held ++ [(dst, use, words)] }).run s := ⟨_, rfl⟩
  obtain ⟨v, hv⟩ : ∃ v, v = (Act.setRing fun r => { r with held := [] }).run t := ⟨_, rfl⟩
  have hwaits : t.ring.held = [(dst, use, words)] := by
    rw [ht, Act.setRing_ring, hheld]
    rfl
  have hopen : (words != [] && t.tagFree t.ring.tag && !t.requestHeld dst use) = true := by
    have htag' : t.tagFree t.ring.tag = true := by
      rw [ht]
      exact htag
    have hfree' : t.requestHeld dst use = false := by
      rw [ht]
      exact hfree
    rw [htag', hfree', bne_iff_ne.mpr hsome]
    rfl
  have hrun : (Act.request dst use words).run s = (Act.issue dst use words).run v := by
    rw [Act.request, Act.all_cons_run, Act.all_cons_run, Act.all_nil_run, ← ht, Act.look_run, hwaits, Act.heldIssue, Act.look_run, if_pos hopen,
      Act.all_cons_run, Act.all_cons_run, Act.all_cons_run, Act.all_nil_run, ← hv, Act.heldIssue, Act.skip_run]
  obtain ⟨hreqs, htags, hheld⟩ := Act.issue_issues (s := v) (words := words) (dst := dst) (use := use)
  dsimp only
  rw [hrun]
  rw [hv, ht] at hreqs htags hheld ⊢
  exact ⟨hreqs, htags, hheld⟩

theorem hostAccess_requests (hacting : s.acting = true) (hsize : bytes = 4 ∨ bytes = 8) (halign : off.toNat % bytes = 0) (hm : m ≠ s.ownNumber)
    (hheld : s.ring.held = []) (htag : s.tagFree s.ring.tag = true)
    (hfree : s.requestHeld m (.host bytes write (m.toNat * 2 ^ 24 + off.toNat)) = false) :
    AnswersThenSettled (.hostAccess m off bytes write v) s fun u =>
      u.resp = .none ∧ u.ring.reqs = s.ring.reqs ++ [⟨s.ring.tag, m, .host bytes write (m.toNat * 2 ^ 24 + off.toNat), s.clk⟩] ∧
      u.ring.tag = (s.ring.tag + 1) % 65536 ∧ u.ring.held = [] := by
  have hgood : ¬(bytes ≠ 4 ∧ bytes ≠ 8 ∨ off.toNat % bytes ≠ 0) := by omega
  have hrun : ∃ words, words ≠ [] ∧ (Act.hostAccess m off.toNat bytes write v).run s =
      (Act.request m (.host bytes write (m.toNat * 2 ^ 24 + off.toNat)) words).run { s with resp := .none } := by
    rw [Act.hostAccess, Act.look_run, hacting]
    dsimp only
    rw [if_neg (by decide), if_neg hgood, if_neg hm]
    split
    · exact ⟨_, List.cons_ne_nil _ _, rfl⟩
    · exact ⟨_, List.cons_ne_nil _ _, rfl⟩
  obtain ⟨words, hsome, hrun⟩ := hrun
  obtain ⟨hreqs, htags, hnone⟩ := Act.request_issues (s := { s with resp := .none }) (use := .host bytes write (m.toNat * 2 ^ 24 + off.toNat))
    hsome hheld htag hfree
  have hrequest : Within [.COLYS_COUNTS] [] [.ring, .tx] (.request m (.host bytes write (m.toNat * 2 ^ 24 + off.toNat)) words) := .request
  exact answersThenSettled_of rfl hrun ⟨(hrequest _).parts .resp (by decide), hreqs, htags, hnone⟩

/-! ### The endpoint -/

theorem Within.clearMem {keep : Nat → Bool} {l : List RegName} {rs : List RegRef} {ps : List Part} (h : Part.mem ∈ ps := by decide) :
    Within l rs ps (.clearMem keep) := .updPart .mem (fun _ => rfl) (fun _ => rfl) h

/-- The map of a line is at its reset value. -/
def State.lineReset (s : State) (k l : Nat) : Prop := s.b F.COLYS_MAP_EN k l = false ∧ s.b F.COLYS_MAP_ARMED k l = true

/-- The map of a line takes its reset value. -/
def Act.resetLine (k l : Nat) : Act := .all [.setB F.COLYS_MAP_EN false k l, .setB F.COLYS_MAP_ARMED true k l]

theorem Act.resetLine_resets {k l : Nat} (hk : k < 64) (hl : l < 48) : (Act.resetLine k l).Brings (State.lineReset · k l) := fun s => by
  rw [Act.resetLine, Act.all_cons_run, Act.all_cons_run, Act.all_nil_run]
  refine ⟨?_, Act.setB_b_same F.COLYS_MAP_ARMED true k l 0 _ (valid_colysMap hk hl) (by decide) rfl⟩
  rw [Act.setB_b_kept _ _ (by decide) (by decide)]
  exact Act.setB_b_same F.COLYS_MAP_EN false k l 0 s (valid_colysMap hk hl) (by decide) rfl

theorem Act.resetLine_keeps {k l k' l' : Nat} (hk : k < 64) (hl : l < 48) :
    (Act.resetLine k' l').Keeps fun s t => s.lineReset k l → t.lineReset k l := fun s h => by
  by_cases hsame : k' = k ∧ l' = l
  · rw [hsame.1, hsame.2]
    exact Act.resetLine_resets hk hl s
  · have hin : Within [] [⟨.COLYS_MAP, k', l', 0⟩] [] (.resetLine k' l') := .all ⟨.setBAt, .setBAt⟩
    have hkept := (hin s).regsKept .COLYS_MAP k l 0 (by
      simp only [List.mem_singleton, RegRef.mk.injEq, not_and]
      intro _ hk' hl'
      exact absurd ⟨hk'.symm, hl'.symm⟩ hsame)
    obtain ⟨hen, harmed⟩ := h
    exact ⟨(congrArg (fun w => F.COLYS_MAP_EN.of w == 1) hkept).trans hen, (congrArg (fun w => F.COLYS_MAP_ARMED.of w == 1) hkept).trans harmed⟩

/-- The maps of all lines take their reset values. -/
def Act.resetLines : Act := .each (List.range 64) fun k => .each (List.range 48) fun l => .all [
  .setB F.COLYS_MAP_EN false k l, .setB F.COLYS_MAP_ARMED true k l]

theorem Act.resetLines_resets {k l : Nat} (hk : k < 64) (hl : l < 48) : Act.resetLines.Brings (State.lineReset · k l) :=
  have hframe : Frame fun s t : State => s.lineReset k l → t.lineReset k l := ⟨fun _ h => h, fun h1 h2 h => h2 (h1 h)⟩
  Act.brings_each (P := fun s t => s.lineReset k l → t.lineReset k l) (fun _ _ h => h)
    (fun _ => Act.keeps_each hframe _ fun _ => Act.resetLine_keeps hk hl) (List.mem_range.mpr hk)
    (Act.brings_each (P := fun s t => s.lineReset k l → t.lineReset k l) (fun _ _ h => h) (fun _ => Act.resetLine_keeps hk hl) (List.mem_range.mpr hl)
      (Act.resetLine_resets hk hl))

/-- R412: the vectors of the endpoint take their reset values. -/
def Act.resetVectors : Act := .all [.clearMem fun a => !decide (0xA8000 ≤ a ∧ a < 0xAA000), .each (List.range 256) fun v => .setByte (vectorControl v) 1]

/-- R412: the endpoint masters no bus and is in full power. -/
def Act.resetStatus : Act := .all [.setB F.HOST_STATUS_BME false, .setB F.HOST_STATUS_D3HOT false]

/-- What a reset does besides: the host's requests end without an answer. -/
theorem Act.endpointReset_run (hacting : s.acting = true) (hqueue : s.ring.hostQ = []) : ∃ x y,
    Act.endpointReset.run s =
      (Act.setFab y).run ((Act.setRing x).run (Act.resetLines.run (Act.resetVectors.run (Act.resetStatus.run { s with pcie := ⟨false, false, 128⟩ })))) := by
  rw [Act.endpointReset, Act.resetLines, Act.resetVectors, Act.resetStatus, Act.look_run, hacting, Act.when_true_run, hqueue]
  generalize List.range 64 = modules, List.range 48 = lines, List.range 256 = vectors
  repeat rw [Act.all_cons_run]
  rw [Act.each_nil_run, Act.all_nil_run, Act.all_nil_run, Act.all_nil_run, Act.upd_run]
  exact ⟨_, _, rfl⟩

/-- What a reset of the endpoint leaves. -/
def EndpointReset (u : State) : Prop := u.pcie = ⟨false, false, 128⟩ ∧ u.b F.HOST_STATUS_BME = false ∧ u.b F.HOST_STATUS_D3HOT = false ∧
  ∀ (k : Fin 64) (l : Fin 48), u.b F.COLYS_MAP_EN k l = false ∧ u.b F.COLYS_MAP_ARMED k l = true

theorem Act.resetStatus_resets : (Act.resetStatus.run s).b F.HOST_STATUS_BME = false ∧ (Act.resetStatus.run s).b F.HOST_STATUS_D3HOT = false := by
  constructor
  · simp +decide [Act.resetStatus, State.b]
  · rw [Act.resetStatus, Act.all_cons_run, Act.all_cons_run, Act.all_nil_run]
    exact Act.setB_b_same F.HOST_STATUS_D3HOT false 0 0 0 _ (by decide) (by decide) rfl

theorem Act.endpointReset_resets (hacting : s.acting = true) (hqueue : s.ring.hostQ = []) : EndpointReset (Act.endpointReset.run s) := by
  obtain ⟨x, y, hrun⟩ := Act.endpointReset_run hacting hqueue
  have hstatus : Within [.HOST_STATUS] [] [] .resetStatus := .all ⟨.setB, .setB⟩
  have hvectors : Within [] [] [.mem] .resetVectors := .all ⟨.clearMem, .each fun _ => .setByte⟩
  have hlines : Within [.COLYS_MAP] [] [] .resetLines := .each fun _ => .each fun _ => .all ⟨.setB, .setB⟩
  have hhost : Within [] [] [.ring, .fab] (.all [.setRing x, .setFab y]) := .all ⟨.setRing, .setFab⟩
  have hpcie := (hstatus { s with pcie := ⟨false, false, 128⟩ }).parts .pcie (by decide)
  obtain ⟨hbme, hd3⟩ := Act.resetStatus_resets (s := { s with pcie := ⟨false, false, 128⟩ })
  generalize Act.resetStatus.run { s with pcie := ⟨false, false, 128⟩ } = t at hrun hpcie hbme hd3
  have hmaps := hlines (Act.resetVectors.run t)
  have hresets := fun (k : Fin 64) (l : Fin 48) => Act.resetLines_resets k.isLt l.isLt (Act.resetVectors.run t)
  generalize Act.resetLines.run (Act.resetVectors.run t) = u at hrun hmaps hresets
  have hend : Touches [] [] [.ring, .fab] u (Act.endpointReset.run s) := by
    rw [hrun]
    exact hhost u
  have htouch := ((hvectors t).mono (l' := [.COLYS_MAP]) (rs' := []) (ps' := [.mem, .ring, .fab]).trans hmaps.mono).trans hend.mono
  refine ⟨(htouch.parts .pcie (by decide)).trans hpcie, (htouch.b_eq 0 0 0).trans hbme, (htouch.b_eq 0 0 0).trans hd3, fun k l => ?_⟩
  obtain ⟨hen, harmed⟩ := hresets k l
  exact ⟨(hend.b_eq k l 0).trans hen, (hend.b_eq k l 0).trans harmed⟩

theorem endpoint_resets (hacting : s.acting = true) (hqueue : s.ring.hostQ = []) (c : Instr) (hc : c = .pcieFlr ∨ c = .pcieReset) :
    AnswersThenSettled c s EndpointReset := by
  rcases hc with rfl | rfl <;> exact answersThenSettled_of rfl rfl (Act.endpointReset_resets hacting hqueue)

theorem endpoint_absent (hacting : s.acting = false) (c : Instr) (hc : c = .pcieFlr ∨ c = .pcieReset) : AnswersThenSettled c s fun u => u = s := by
  have hrun : Act.endpointReset.run s = s := by
    unfold Act.endpointReset
    rw [Act.look_run, hacting, Act.when_false_run]
  rcases hc with rfl | rfl <;> exact answersThenSettled_of rfl hrun rfl

/-! ### Configuration requests -/

theorem Within.msixPending {l : List RegName} {rs : List RegRef} : Within l rs [.mem, .tx, .pcie] .msixPending :=
  .look fun _ => .when (.each fun _ => .look fun _ => .when (.all ⟨.setByte, .send⟩))

theorem msixPending_pcie (s : State) : (Act.msixPending.run s).pcie = s.pcie := by
  have hin : Within [] [] [.mem, .tx] .msixPending := .look fun _ => .when (.each fun _ => .look fun _ => .when (.all ⟨.setByte, .send⟩))
  exact (hin s).parts .pcie (by decide)

/-- R410, R412, R413: what a configuration request sets. -/
def Act.pcieSets (w : PcieCfg) : Act :=
  match w with
  | .busMaster on => .setB F.HOST_STATUS_BME on
  | .power d3hot => .setB F.HOST_STATUS_D3HOT d3hot
  | .msix enable mask => .upd fun s => { s with pcie := { s.pcie with msix := enable, fmask := mask } }
  | .maxPayload big => .upd fun s => { s with pcie := { s.pcie with payload := if big then 256 else 128 } }

section
variable (hup : s.endpointUp = true)
include hup

theorem Act.pcieConfig_run (w : PcieCfg) : (Act.pcieConfig w).run s = Act.msixPending.run ((Act.pcieSets w).run s) := by
  unfold Act.pcieConfig
  rw [Act.look_run, hup, Act.when_true_run, Act.all_cons_run, Act.all_cons_run, Act.all_nil_run]
  cases w <;> rfl

theorem pcieConfig_busMaster : Answers (.pcieConfigWrite (.busMaster on)) s fun t =>
    t.b F.HOST_STATUS_BME = on ∧ RegsKept [⟨.HOST_STATUS, 0, 0, 0⟩] s t := by
  have hset : Within [] [⟨.HOST_STATUS, 0, 0, 0⟩] [.mem, .tx, .pcie] (.setB F.HOST_STATUS_BME on) := .setBAt
  refine ⟨_, rfl, ?_⟩
  rw [Act.pcieConfig_run hup]
  exact ⟨((Within.msixPending (l := []) (rs := []) _).b_eq 0 0 0).trans (Act.setB_b_same F.HOST_STATUS_BME on 0 0 0 s (by decide) (by decide) rfl),
    ((hset s).trans (Within.msixPending _)).regsKept⟩

theorem pcieConfig_power : Answers (.pcieConfigWrite (.power on)) s fun t =>
    t.b F.HOST_STATUS_D3HOT = on ∧ RegsKept [⟨.HOST_STATUS, 0, 0, 0⟩] s t := by
  have hset : Within [] [⟨.HOST_STATUS, 0, 0, 0⟩] [.mem, .tx, .pcie] (.setB F.HOST_STATUS_D3HOT on) := .setBAt
  refine ⟨_, rfl, ?_⟩
  rw [Act.pcieConfig_run hup]
  exact ⟨((Within.msixPending (l := []) (rs := []) _).b_eq 0 0 0).trans (Act.setB_b_same F.HOST_STATUS_D3HOT on 0 0 0 s (by decide) (by decide) rfl),
    ((hset s).trans (Within.msixPending _)).regsKept⟩

theorem pcieConfig_msix : Answers (.pcieConfigWrite (.msix on ok)) s fun t =>
    t.pcie = { s.pcie with msix := on, fmask := ok } ∧ RegsKept [] s t := by
  refine ⟨_, rfl, ?_⟩
  rw [Act.pcieConfig_run hup]
  exact ⟨msixPending_pcie _, (Within.msixPending (l := []) _).regsKept⟩

theorem pcieConfig_payload : Answers (.pcieConfigWrite (.maxPayload on)) s fun t =>
    t.pcie = { s.pcie with payload := if on then 256 else 128 } ∧ RegsKept [] s t := by
  refine ⟨_, rfl, ?_⟩
  rw [Act.pcieConfig_run hup]
  exact ⟨msixPending_pcie _, (Within.msixPending (l := []) _).regsKept⟩

end

theorem pcieConfig_absent (hdown : s.endpointUp = false) (w : PcieCfg) : Answers (.pcieConfigWrite w) s fun t => t = s := by
  refine ⟨_, rfl, ?_⟩
  unfold Act.pcieConfig
  rw [Act.look_run, hdown, Act.when_false_run]

/-! ### Links -/

theorem pcieLink_shows (hacting : s.acting = true) : Answers (.pcieLinkChange on speed width) s fun t =>
    t.b F.HOST_STATUS_LINK_UP = on ∧ t.f F.HOST_STATUS_SPEED = (if on then speed.val else 0) ∧
    t.f F.HOST_STATUS_WIDTH = (if on then width.val else 0) ∧ RegsKept [⟨.HOST_STATUS, 0, 0, 0⟩] s t ∧ OnlyRegs s t := by
  have hin : Within [] [⟨.HOST_STATUS, 0, 0, 0⟩] [.resp] (.all [.setB F.HOST_STATUS_LINK_UP on,
      .setF F.HOST_STATUS_SPEED (if on then speed.val else 0), .setF F.HOST_STATUS_WIDTH (if on then width.val else 0)]) :=
    .all ⟨.setBAt, .setFAt, .setFAt⟩
  have hspeed : (if on then speed.val else 0) < 2 ^ 2 := by split <;> omega
  have hwidth : (if on then width.val else 0) < 2 ^ 5 := by split <;> omega
  have hrun : (Act.pcieLink on speed width).run s = (Act.all [.setB F.HOST_STATUS_LINK_UP on,
      .setF F.HOST_STATUS_SPEED (if on then speed.val else 0), .setF F.HOST_STATUS_WIDTH (if on then width.val else 0)]).run s := by
    rw [Act.pcieLink, Act.look_run, hacting, Act.when_true_run]
  refine ⟨_, rfl, ?_⟩
  rw [hrun]
  generalize (if on then speed.val else 0) = x at *
  generalize (if on then width.val else 0) = y at *
  refine ⟨?_, ?_, ?_, (hin s).regsKept, (hin s).rest⟩
  · simp +decide [State.b]
  · rw [Act.all_cons_run, Act.all_f_head (by exact .all (by exact .setF))]
    exact (Act.setF_f_same F.HOST_STATUS_SPEED x 0 0 0 _ (by decide) (by decide)).trans (Nat.mod_eq_of_lt hspeed)
  · rw [Act.all_cons_run, Act.all_cons_run, Act.all_cons_run, Act.all_nil_run]
    exact (Act.setF_f_same F.HOST_STATUS_WIDTH y 0 0 0 _ (by decide) (by decide)).trans (Nat.mod_eq_of_lt hwidth)

/-- The registers that the Ethernet port shows with its link, and PTP with it. -/
abbrev ethNames : List RegName := [.ETH_STATUS, .TIME_PTP_STATUS, .TIME_STATE, .TIME_EVENTS, .TIME_RATE]

theorem Within.ptpLink : Within [.TIME_PTP_STATUS, .TIME_STATE, .TIME_EVENTS, .TIME_RATE] [] [.tim] (.ptpLink on) :=
  .look fun _ => .when (.ite (.when .ptpPort) (.all ⟨.ptpPort, .setTim, .setTim⟩))

theorem Act.ptpLink_down (hhead : s.head = true) : let t := (Act.ptpLink false).run s
    t.f F.TIME_PTP_STATUS_PORT_STATE = 2 ∧ t.tim.masters = [] := by
  have hrun : (Act.ptpLink false).run s = (Act.setTim fun t => { t with masters := [] }).run (Act.ptpAnew.run ((Act.ptpPort 2).run s)) := by
    rw [Act.ptpLink, Act.look_run, hhead, Act.when_true_run, if_neg (by decide), Act.all_cons_run, Act.all_cons_run, Act.all_cons_run,
      Act.all_nil_run]
  have hport := Act.ptpPort_port (n := 2) (by decide) s
  dsimp only
  rw [hrun]
  generalize (Act.ptpPort 2).run s = t at hport
  exact ⟨hport, rfl⟩

theorem Act.ptpLink_up (hhead : s.head = true) (hfaulty : s.f F.TIME_PTP_STATUS_PORT_STATE = 2) :
    ((Act.ptpLink true).run s).f F.TIME_PTP_STATUS_PORT_STATE = 1 := by
  rw [Act.ptpLink, Act.look_run, hhead, hfaulty]
  exact Act.ptpPort_port (by decide) s

/-- What the Ethernet port shows of its link. -/
def Act.ethShows (on ok : Bool) : Act := .all [.setB F.ETH_STATUS_LINK_UP on, .setB F.ETH_STATUS_MDIX ok]

theorem ethLink_shows (hacting : s.acting = true) : Answers (.ethLinkChange on ok) s fun t =>
    t.b F.ETH_STATUS_LINK_UP = on ∧ t.b F.ETH_STATUS_MDIX = ok ∧
    (s.head = true → on = false → t.f F.TIME_PTP_STATUS_PORT_STATE = 2 ∧ t.tim.masters = []) ∧
    (s.head = true → on = true → s.f F.TIME_PTP_STATUS_PORT_STATE = 2 → t.f F.TIME_PTP_STATUS_PORT_STATE = 1) ∧
    NamesKept [.ETH_STATUS, .TIME_PTP_STATUS, .TIME_STATE, .TIME_EVENTS, .TIME_RATE] s t ∧ t = { s with regs := t.regs, tim := t.tim } := by
  have hrun : exec (.ethLinkChange on ok) s = .next ((Act.ptpLink on).run ((Act.ethShows on ok).run s)) := by
    show (Act.when s.acting (.all [.setB F.ETH_STATUS_LINK_UP on, .setB F.ETH_STATUS_MDIX ok, .ptpLink on])).done s = _
    rw [hacting, Act.done, Act.when_true_run]
    rfl
  have hshows : Within [.ETH_STATUS] [] [] (.ethShows on ok) := .all ⟨.setB, .setB⟩
  have hshows := hshows s
  have hlink : ((Act.ethShows on ok).run s).b F.ETH_STATUS_LINK_UP = on := by simp +decide [Act.ethShows, State.b]
  have hmdix : ((Act.ethShows on ok).run s).b F.ETH_STATUS_MDIX = ok := by
    rw [Act.ethShows, Act.all_cons_run, Act.all_cons_run, Act.all_nil_run]
    exact Act.setB_b_same F.ETH_STATUS_MDIX ok 0 0 0 _ (by decide) (by decide) rfl
  have hhead : ((Act.ethShows on ok).run s).head = s.head := hshows.b_eq 0 0 0
  have hport := hshows.f_eq (f := F.TIME_PTP_STATUS_PORT_STATE) 0 0 0
  refine ⟨_, hrun, ?_⟩
  generalize (Act.ethShows on ok).run s = t at hshows hlink hmdix hhead hport
  have htouch := Within.ptpLink (on := on) t
  have hboth := (hshows.mono (l' := ethNames) (rs' := []) (ps' := [.tim])).trans htouch.mono
  refine ⟨(htouch.b_eq 0 0 0).trans hlink, (htouch.b_eq 0 0 0).trans hmdix, fun hs hdown => ?_, fun hs hup hfaulty => ?_, hboth.namesKept, hboth.rest⟩
  · rw [hdown]
    exact Act.ptpLink_down (hhead.trans hs)
  · rw [hup]
    exact Act.ptpLink_up (hhead.trans hs) (hport.trans hfaulty)

/-! ### Frames -/

section
variable (hup : s.up = true) (hacting : s.acting = true) (hlink : s.b F.ETH_STATUS_LINK_UP = true)
include hup hacting hlink

theorem ethFrame_arp {asker : BitVec 48} (hip : s.r .ETH_IP_ADDR ≠ 0) : Answers (.ethFrameReceive (.arp (s.r .ETH_IP_ADDR) asker)) s fun t =>
    t = { s with tx := s.tx ++ [.arpReply asker] } := by
  refine ⟨_, rfl, ?_⟩
  unfold Act.ethFrame
  rw [Act.look_run, hup, hacting, hlink, Bool.and_true, Bool.and_true, Act.when_true_run]
  dsimp only
  rw [if_pos ⟨hip, rfl⟩]
  rfl

theorem ethFrame_echo {from_ : BitVec 32} {echo : List Byte} (hip : s.r .ETH_IP_ADDR ≠ 0) :
    Answers (.ethFrameReceive (.echo (s.r .ETH_IP_ADDR) from_ echo)) s fun t => t = { s with tx := s.tx ++ [.echoReply from_ echo] } := by
  refine ⟨_, rfl, ?_⟩
  unfold Act.ethFrame
  rw [Act.look_run, hup, hacting, hlink, Bool.and_true, Bool.and_true, Act.when_true_run]
  dsimp only
  rw [if_pos ⟨hip, rfl⟩]
  rfl

theorem ethFrame_other : Answers (.ethFrameReceive .other) s fun t =>
    Counted F.ETH_STATUS_DISCARDS s t ∧ RegsKept [⟨.ETH_STATUS, 0, 0, 0⟩] s t ∧ OnlyRegs s t := by
  have hin : Within [] [⟨.ETH_STATUS, 0, 0, 0⟩] [.resp] (.count F.ETH_STATUS_DISCARDS) := .countAt
  have hrun : (Act.ethFrame .other).run s = (Act.count F.ETH_STATUS_DISCARDS).run s := by
    unfold Act.ethFrame
    rw [Act.look_run, hup, hacting, hlink, Bool.and_true, Bool.and_true, Act.when_true_run]
  refine ⟨_, rfl, ?_⟩
  rw [hrun]
  exact ⟨Act.count_f_same F.ETH_STATUS_DISCARDS 0 0 s (by decide) (by decide), (hin s).regsKept, (hin s).rest⟩

end

theorem ethFrame_absent (h : s.up = false ∨ s.acting = false ∨ s.b F.ETH_STATUS_LINK_UP = false) :
    Answers (.ethFrameReceive f) s fun t => t = s := by
  have hclosed : (s.up && s.acting && s.b F.ETH_STATUS_LINK_UP) = false := by
    rcases h with h | h | h <;> simp [h]
  refine ⟨_, rfl, ?_⟩
  unfold Act.ethFrame
  rw [Act.look_run, hclosed, Act.when_false_run]

/-! ### Packets for host memory -/

/-- More may have been sent. -/
def TxGrows (s t : State) : Prop := ∃ l, t.tx = s.tx ++ l

namespace TxGrows

variable {p : Port} {c : Fin 2}

theorem frame : Frame TxGrows := ⟨fun s => ⟨[], (List.append_nil s.tx).symm⟩, fun ⟨l1, h1⟩ ⟨l2, h2⟩ => ⟨l1 ++ l2, by rw [h2, h1, List.append_assoc]⟩⟩

theorem of_within {l : List RegName} {rs : List RegRef} {ps : List Part} {a : Act} (h : Within l rs ps a) (hp : Part.tx ∉ ps := by decide) :
    a.Keeps TxGrows := fun s => ⟨[], by rw [List.append_nil]; exact (h s).parts .tx hp⟩

theorem setRing {x : RingSt → RingSt} : (Act.setRing x).Keeps TxGrows := fun s => ⟨[], (List.append_nil s.tx).symm⟩

theorem setLane {x : RingLane → RingLane} : (Act.setLane p c x).Keeps TxGrows := setRing

theorem send {x : Tx} : (Act.send x).Keeps TxGrows := fun _ => ⟨[x], rfl⟩

theorem drainLane {n : Nat} : (Act.drainLane p c n).Keeps TxGrows := by
  have hlaunch : ∀ w, (Act.launch p c w).Keeps TxGrows := fun w => Act.keeps_look fun _ => Act.keeps_all frame ⟨setLane, send⟩
  induction n with
  | zero => exact Act.keeps_skip frame
  | succ n ih =>
    refine Act.keeps_look fun s => ?_
    split
    · exact Act.keeps_skip frame
    · exact Act.keeps_when frame (Act.keeps_all frame ⟨setLane, hlaunch _, ih⟩)

theorem sendReply : (Act.sendReply words).Keeps TxGrows := by
  have hqueue : ∀ q w, (Act.enqueue q w).Keeps TxGrows := fun _ _ => Act.keeps_all frame ⟨setLane, drainLane⟩
  refine Act.keeps_look fun s => ?_
  split
  · exact Act.keeps_look fun _ => Act.keeps_ite (hqueue _ _) (Act.keeps_ite (Act.keeps_skip frame)
      (Act.keeps_ite (Act.keeps_skip frame) (hqueue _ _)))
  · exact Act.keeps_skip frame

theorem reply {h : PkHead} {w1 status : Nat} : (Act.reply h w1 status data).Keeps TxGrows :=
  have hcount : Within [.COLYS_COUNTS] [] [] (.count F.COLYS_COUNTS_NO_TARGET) := .count
  Act.keeps_look fun _ => Act.keeps_all frame ⟨Act.keeps_look fun _ => setRing,
    Act.keeps_look fun _ => Act.keeps_when frame (Act.keeps_all frame ⟨Act.keeps_when frame (of_within hcount), sendReply⟩)⟩

end TxGrows

theorem LanesOnly.hostQ {t : State} (h : LanesOnly s t) : t.ring.hostQ = s.ring.hostQ :=
  show t.ring.offLanes.hostQ = s.ring.offLanes.hostQ from congrArg RingSt.hostQ h

theorem Act.reply_hostQ {h : PkHead} {w1 status : Nat} : (Act.reply h w1 status data).Keeps (Same fun s => s.ring.hostQ) :=
  Act.keeps_look fun _ => Act.keeps_all Same.frame ⟨Act.keeps_look fun _ _ => rfl, fun s => LanesOnly.hostQ (LanesOnly.complete s)⟩

theorem hostMaster_idle (hqueue : s.ring.hostQ = []) : AnswersThenSettled (.hostBusMaster ok data) s fun u => u = s := by
  refine answersThenSettled_of rfl ?_ rfl
  unfold Act.hostMaster
  rw [Act.look_run, hqueue]
  rfl

/-- The accesses of a packet that writes host memory. -/
def hostWrites (s : State) (words : List DWord) : List Tx :=
  (hostPieces s.pcie.payload 32 (word1 words % 2 ^ 60 / 8 * 8) (hostBytes words).length).map fun p =>
    Tx.busWrite p.1 (((hostBytes words).drop (p.1 - word1 words % 2 ^ 60 / 8 * 8)).take p.2)

/-- What is done with another module's packet for host memory. -/
def Act.hostServes (s : State) (words : List DWord) (ok : Bool) (data : List DWord) : Act :=
  let h := headOf words
  let base := word1 words % 2 ^ 60 / 8 * 8
  let skip := enablesLow (h.be 0)
  let len := 8 * h.beats - skip - enablesHigh (h.be (h.beats - 1))
  if !s.acting || !s.b F.HOST_STATUS_BME || s.b F.HOST_STATUS_D3HOT then .reply h (word1 words) 1 []
  else if h.kind = pkWrite then .all [
    .each (hostPieces s.pcie.payload 32 base (hostBytes words).length) fun p =>
      .send (.busWrite p.1 (((hostBytes words).drop (p.1 - base)).take p.2)),
    .reply h (word1 words) 0 []]
  else .all [
    .each (hostPieces 512 32 (base + skip) len) fun p => .send (.busRead p.1 p.2),
    if ok ∧ data.length = h.beats then .reply h (word1 words) 0 data else .reply h (word1 words) 1 []]

theorem Act.hostMaster_run (hqueue : s.ring.hostQ = words :: rest) (hsrc : (headOf words).src ≠ s.ownNumber) :
    (Act.hostMaster ok data).run s = (Act.hostServes s words ok data).run ((Act.setRing fun r => { r with hostQ := rest }).run s) := by
  unfold Act.hostMaster
  rw [Act.look_run, hqueue]
  dsimp only
  rw [Act.andThen_run, Act.hostServes, if_neg hsrc, if_neg hsrc, if_neg hsrc]

section
variable (hqueue : s.ring.hostQ = words :: rest) (hsrc : (headOf words).src ≠ s.ownNumber)
include hqueue hsrc

theorem hostMaster_takes : AnswersThenSettled (.hostBusMaster ok data) s fun u => u.ring.hostQ = rest := by
  have hserves : (Act.hostServes s words ok data).Keeps (Same fun s => s.ring.hostQ) := by
    have hsends : ∀ (l : List (Nat × Nat)) (x : Nat × Nat → Tx), (Act.each l fun p => .send (x p)).Keeps (Same fun s => s.ring.hostQ) :=
      fun l x => Act.keeps_each Same.frame _ fun _ _ => rfl
    refine Act.keeps_ite Act.reply_hostQ (Act.keeps_ite (Act.keeps_all Same.frame ⟨hsends _ _, Act.reply_hostQ⟩)
      (Act.keeps_all Same.frame ⟨hsends _ _, Act.keeps_ite Act.reply_hostQ Act.reply_hostQ⟩))
  exact answersThenSettled_of rfl (Act.hostMaster_run hqueue hsrc) (hserves _)

theorem hostMaster_writes (hacting : s.acting = true) (hbme : s.b F.HOST_STATUS_BME = true) (hd3 : s.b F.HOST_STATUS_D3HOT = false)
    (hkind : (headOf words).kind = pkWrite) : AnswersThenSettled (.hostBusMaster ok data) s fun u => ∃ l, u.tx = s.tx ++ hostWrites s words ++ l := by
  have hrun := Act.hostMaster_run (ok := ok) (data := data) hqueue hsrc
  rw [Act.hostServes, hacting, hbme, hd3, if_neg (by decide), if_pos hkind, Act.all_cons_run, Act.all_cons_run, Act.all_nil_run, Act.sendEach_run] at hrun
  exact answersThenSettled_of rfl hrun (TxGrows.reply _)

end

end Sys2Proof.Machine
end

section
-- One proof after another: elaborated side by side, the proofs of the whole text do not fit in the check's memory.
set_option Elab.async false
/-! A host access of the head's own window (R40, R411), and the host port as a whole. -/

namespace Sys2Proof.Machine

variable {s t : State} {off n o pos : Nat} {write : Bool} {src : Src} {d v : DWord} {p : BusPart} {use : BusUse} {j : BusJob}

/-! ### Bytes -/

theorem leNat_leBytes (x : Nat) : leNat (leBytes x n) = x % 256 ^ n := by
  induction n generalizing x with
  | zero => rw [leBytes, leNat, pow_zero, Nat.mod_one]
  | succ n ih =>
    rw [leBytes, leNat, ih, BitVec.toNat_ofNat]
    exact (Nat.mod_mul (a := 256)).symm.trans (by rw [Nat.pow_succ'])

/-- The word in four bytes. -/
theorem ofNat_leNat_leBytes (w : Word) : BitVec.ofNat 64 (leNat (leBytes w.toNat 4)) = w.setWidth 64 := by
  apply BitVec.eq_of_toNat_eq
  rw [leNat_leBytes, BitVec.toNat_ofNat, BitVec.toNat_setWidth]
  omega

/-! ### A burst of one word -/

/-- R40: four bytes from the odd word of a pair are one access. -/
theorem busParts_oddWord {data : List Byte} (hodd : off % 8 = 4) :
    busParts 2 off 4 0 data = [⟨off, 4, 0, BitVec.ofNat 64 (leNat (data.take 4))⟩] := by
  rw [busParts, if_neg (by decide), if_neg (by omega), busParts, if_pos rfl]

/-- The access that a part of a burst makes. -/
def Act.partAccess (src : Src) (id : Nat) (write : Bool) (p : BusPart) : Act :=
  if write then .busWrite src p.off p.n p.data (some (id, p.pos)) else .busRead src p.off p.n (some (id, p.pos))

theorem Act.busPart_answered {id : Nat} (ht : (Act.partAccess src id write p).run s = t) (hd : t.resp = .ok d) (hword : p.n ≠ 8) :
    (Act.busPart src id write p).run s = (Act.jobPart id p.pos (.ok d)).run t := by
  have hrun : (Act.busPart src id write p).run s = (Act.look fun s => match s.resp with
      | .none => .skip
      | .ok d => .all [.jobPart id p.pos (.ok d), .when (p.words == 2) (.jobPart id (p.pos + 1) (.ok (d >>> 32)))]
      | _ => .each (List.range p.words) fun _ => .jobPart id p.pos .error).run t := by
    rw [← ht]
    rfl
  rw [hrun, Act.look_run, hd]
  dsimp only
  rw [BusPart.words, if_neg hword, Act.all_cons_run, Act.all_cons_run, Act.all_nil_run]
  rfl

/-- The burst of one part that is alone under way. -/
def State.bursting (s : State) (use : BusUse) : State :=
  { s with fab := { s.fab with nextJob := s.fab.nextJob + 1, jobs := [⟨s.fab.nextJob, use, 1, false, []⟩] } }

/-- The burst has ended. -/
def State.burstOver (s : State) : State := { s with fab := { s.fab with jobs := [] } }

theorem Act.jobPart_only {id : Nat} (hjobs : t.fab.jobs = [⟨id, use, 1, false, []⟩]) :
    ((Act.jobPart id pos (.ok d)).run t).fab.jobs = [⟨id, use, 0, false, [(pos, d.setWidth 32)]⟩] := by
  rw [Act.jobPart, Act.setFab_fab, hjobs]
  dsimp only
  rw [List.map_cons, List.map_nil, if_neg (by simp)]
  rfl

/-- R411: a burst of the host whose accesses have all ended is answered. -/
theorem Act.collect_host {bytes : Nat} (hjobs : t.fab.jobs = [j]) (hdone : j.left = 0) (huse : j.use = .host bytes write o) :
    Act.collect.run t = (Act.hostEnd bytes write o j.bad.toNat (BitVec.ofNat 64 (leNat (j.bytes (bytes / 4))))).run t.burstOver := by
  have hended : ([j].filter fun k => k.left == 0) = [j] := by simp [hdone]
  have hdma : Act.dmaCollect.run t = t := by
    rw [Act.dmaCollect, Act.look_run, hjobs, hended, Act.each_cons_run, Act.each_nil_run, huse]
    rfl
  have hrun : Act.collect.run t = (Act.jobEnd j).run ((Act.setFab fun f => { f with jobs := f.jobs.filter (fun k => k.id != j.id) }).run t) := by
    rw [Act.collect, Act.all_cons_run, Act.all_cons_run, Act.all_nil_run, hdma, Act.look_run, hjobs, hended, Act.each_cons_run, Act.each_nil_run,
      Act.all_cons_run, Act.all_cons_run, Act.all_nil_run]
  have hgone : (Act.setFab fun f => { f with jobs := f.jobs.filter (fun k => k.id != j.id) }).run t = t.burstOver := by
    rw [Act.setFab_run, hjobs, State.burstOver]
    simp
  rw [hrun, hgone, Act.jobEnd, huse]

theorem Act.hostBurst_run {bytes : Nat} (hjobs : s.fab.jobs = []) (hpos : p.pos = 0) (hword : p.n = 4) (hbytes : bytes / 4 = 1)
    (ht : (Act.partAccess src s.fab.nextJob write p).run (s.bursting (.host bytes write o)) = t) (hd : t.resp = .ok d)
    (hkept : t.fab.jobs = (s.bursting (.host bytes write o)).fab.jobs) :
    Act.collect.run ((Act.busBurst (.host bytes write o) src write [p]).run s) =
      (Act.hostEnd bytes write o 0 ((d.setWidth 32 : Word).setWidth 64)).run t.burstOver := by
  have hwords : p.words = 1 := by rw [BusPart.words, hword]; rfl
  have hstart : (Act.setFab fun f => { f with
      nextJob := s.fab.nextJob + 1
      jobs := f.jobs ++ [⟨s.fab.nextJob, .host bytes write o, ([p].map BusPart.words).sum, false, []⟩] }).run s = s.bursting (.host bytes write o) := by
    rw [Act.setFab_run, hjobs, List.map_singleton, List.sum_singleton, hwords]
    rfl
  rw [Act.busBurst, Act.look_run, Act.all_cons_run, Act.all_cons_run, Act.all_nil_run, hstart, Act.each_cons_run, Act.each_nil_run,
    Act.busPart_answered ht hd (by omega), Act.collect_host (Act.jobPart_only hkept) rfl rfl, hpos, hbytes]
  have hover : ((Act.jobPart s.fab.nextJob 0 (.ok d)).run t).burstOver = t.burstOver := rfl
  have hdata : BitVec.ofNat 64 (leNat ((⟨s.fab.nextJob, .host bytes write o, 0, false, [(0, d.setWidth 32)]⟩ : BusJob).bytes 1)) =
      (d.setWidth 32 : Word).setWidth 64 := by
    rw [← ofNat_leNat_leBytes, BusJob.bytes]
    simp [assoc]
  rw [hover, hdata]
  rfl

/-! ### The argument of MNT_CMD, a register of the head's own window -/

theorem mntArg_placed : placeOf (RegRef.offset ⟨.MNT_ARG, 0, 0, 0⟩) = .reg ⟨.MNT_ARG, 0, 0, 0⟩ := by decide +kernel

theorem mntArg_aligned : RegRef.offset ⟨.MNT_ARG, 0, 0, 0⟩ % 4 = 0 := by decide

theorem mntArg_readable (w : Word) : RegName.readable .MNT_ARG w = w := by
  rw [RegName.readable, show RegName.maskOf .MNT_ARG (fun a => a == .wo) = 0 by decide]
  exact BitVec.and_allOnes

theorem mntArg_applyWrite (w v : Word) : RegName.applyWrite .MNT_ARG w v = v := by
  have hof : ∀ w : Word, Fld.of ⟨.MNT_ARG, 0, 32⟩ w = w.toNat := fun w => by
    rw [Fld.of, Nat.shiftRight_zero]
    exact Nat.mod_eq_of_lt w.isLt
  have hstored := Fld.of_applyWrite_stored (f := ⟨.MNT_ARG, 0, 32⟩) (by decide) w v
  rw [hof, hof] at hstored
  exact BitVec.eq_of_toNat_eq hstored

theorem Within.readReg {r : RegRef} {l : List RegName} (hr : r.name ∈ l := by decide) : Within l [] [.latch, .resp] (.readReg r) := by
  refine .look fun s => .ite .answer ?_
  dsimp only
  split
  · exact .all ⟨.updPart .latch (fun _ => rfl) (fun _ => rfl) (by decide), .answer⟩
  · exact .all ⟨.updPart .latch (fun _ => rfl) (fun _ => rfl) (by decide), .setR hr, .answer⟩

section
variable {id : Nat} (hacting : s.acting = true) (hup : s.up = true)
include hacting hup

theorem Act.hostWrites_mntArg : (Act.partAccess .host id true ⟨RegRef.offset ⟨.MNT_ARG, 0, 0, 0⟩, 4, 0, d⟩).run s =
    (Act.all [.store .MNT_ARG (d.setWidth 32), .accept]).run s := by
  have hpresent : s.absent ⟨.MNT_ARG, 0, 0, 0⟩ = false := by
    rw [State.absent, hacting]
    rfl
  have hplace : (Act.place32 .host (RegRef.offset ⟨.MNT_ARG, 0, 0, 0⟩) (d.setWidth 32) (some (id, 0))).run s =
      (Act.all [.store .MNT_ARG (d.setWidth 32), .accept]).run s := by
    rw [Act.place32, Act.look_run, mntArg_placed, show s.lostTarget .host _ = false from rfl, if_neg (by decide)]
    dsimp only
    rw [hpresent, if_neg (by decide)]
    rfl
  have htaken : (Act.writeTo .host .MNT_ARG 0 0 0 (.place32 .host (RegRef.offset ⟨.MNT_ARG, 0, 0, 0⟩) (d.setWidth 32) (some (id, 0)))).run s = _ :=
    Act.writeTo_accepted (d := 0) ⟨hup, rfl⟩ (by rw [hplace]; rfl)
  rw [Act.partAccess, if_pos rfl, Act.busWrite, if_pos (by exact ⟨rfl, mntArg_aligned⟩), Act.write32, ← hplace, ← htaken]
  rfl

theorem Act.hostReads_mntArg (hlatch : assoc s.latch ⟨.MNT_ARG, 0, 0, 0⟩ = none) : ∃ t,
    (Act.partAccess .host id false ⟨RegRef.offset ⟨.MNT_ARG, 0, 0, 0⟩, 4, 0, d⟩).run s = t ∧ t.resp = .ok ((s.r .MNT_ARG).setWidth 64) ∧
    t.fab = s.fab ∧ t.tx = s.tx ∧ t.acting = s.acting := by
  have hpresent : s.absent ⟨.MNT_ARG, 0, 0, 0⟩ = false := by
    rw [State.absent, hacting]
    rfl
  have hin : Within [.MNT_ARG] [] [.latch, .resp] (.readReg ⟨.MNT_ARG, 0, 0, 0⟩) := .readReg
  have hrun : (Act.partAccess .host id false ⟨RegRef.offset ⟨.MNT_ARG, 0, 0, 0⟩, 4, 0, d⟩).run s = (Act.readReg ⟨.MNT_ARG, 0, 0, 0⟩).run s := by
    rw [Act.partAccess, if_neg (by decide), Act.busRead, Act.reach, Act.look_run, hup, if_pos rfl, if_pos (by exact ⟨rfl, mntArg_aligned⟩), Act.read32, Act.look_run,
      mntArg_placed]
    rfl
  refine ⟨_, hrun, ?_, (hin s).parts .fab (by decide), (hin s).parts .tx (by decide), (hin s).b_eq 0 0 0⟩
  have hanswers : ∃ t : State, (Act.readReg ⟨.MNT_ARG, 0, 0, 0⟩).run s = (Act.answer (.ok ((RegName.readable .MNT_ARG (s.r .MNT_ARG)).setWidth 64))).run t := by
    rw [Act.readReg, Act.look_run]
    dsimp only
    rw [hpresent, if_neg (by decide), hlatch]
    dsimp only
    rw [Act.all_cons_run, Act.all_cons_run, Act.all_cons_run, Act.all_nil_run]
    exact ⟨_, rfl⟩
  obtain ⟨t, ht⟩ := hanswers
  rw [ht, mntArg_readable]
  rfl

end

/-! ### The access as a whole -/

theorem Act.hostEnd_write {bytes : Nat} (hacting : s.acting = true) : (Act.hostEnd bytes true o 0 d).run s = { s with resp := .ok 0 } := by
  rw [Act.hostEnd, Act.look_run, hacting]
  rfl

theorem Act.hostEnd_read {bytes : Nat} (hacting : s.acting = true) : (Act.hostEnd bytes false o 0 d).run s =
    { s with resp := .ok d, tx := s.tx ++ [.hostAnswer (.ok d)] } := by
  rw [Act.hostEnd, Act.look_run, hacting]
  rfl

section
variable {off : BitVec 24} {v : DWord} (hacting : s.acting = true) (hup : s.up = true) (hjobs : s.fab.jobs = [])
  (hoff : off.toNat = RegRef.offset ⟨.MNT_ARG, 0, 0, 0⟩)
include hacting hup hjobs hoff

omit hup in
theorem Act.hostAccess_ownWord (write : Bool) : ∃ d : DWord, d.setWidth 32 = v.setWidth 32 ∧
    (Act.hostAccess s.ownNumber off.toNat 4 write v).run s = Act.collect.run
      ((Act.busBurst (.host 4 write (s.ownNumber.toNat * 2 ^ 24 + off.toNat)) .host write [⟨off.toNat, 4, 0, d⟩]).run { s with resp := .none }) := by
  refine ⟨BitVec.ofNat 64 (leNat (leBytes v.toNat 4)), ?_, ?_⟩
  · apply BitVec.eq_of_toNat_eq
    rw [leNat_leBytes, BitVec.toNat_setWidth, BitVec.toNat_setWidth, BitVec.toNat_ofNat]
    omega
  · have hwaits : s.hostWriting = false := by
      rw [State.hostWriting, hjobs]
      rfl
    rw [Act.hostAccess, Act.look_run, hacting]
    dsimp only
    rw [if_neg (by decide), if_neg (by rw [hoff]; decide), if_pos rfl, hwaits, Bool.and_false, if_neg (by decide),
      busParts_oddWord (by rw [hoff]; decide), Act.all_cons_run, Act.all_cons_run, Act.all_cons_run, Act.all_nil_run, Act.answer_run]
    rfl

theorem hostAccess_writesArg : AnswersThenSettled (.hostAccess s.ownNumber off 4 true v) s fun u =>
    u.resp = .ok 0 ∧ u.r .MNT_ARG = v.setWidth 32 ∧ RegsKept [⟨.MNT_ARG, 0, 0, 0⟩] s u ∧ u.tx = s.tx := by
  obtain ⟨d, hd, hrun⟩ := Act.hostAccess_ownWord (v := v) hacting hjobs hoff true
  have hin : Within [] [⟨.MNT_ARG, 0, 0, 0⟩] [.resp] (.all [.store .MNT_ARG (d.setWidth 32), .accept]) := .all ⟨.look fun _ => .setRAt, .answer⟩
  obtain ⟨b, hb⟩ : ∃ b, b = ({ s with resp := .none } : State).bursting (.host 4 true (s.ownNumber.toNat * 2 ^ 24 + off.toNat)) := ⟨_, rfl⟩
  have hstored : ((Act.all [.store .MNT_ARG (d.setWidth 32), .accept]).run b).r .MNT_ARG = v.setWidth 32 := by
    have hset : ((Act.all [.store .MNT_ARG (d.setWidth 32), .accept]).run b).r .MNT_ARG = ((Act.store .MNT_ARG (d.setWidth 32)).run b).r .MNT_ARG := rfl
    rw [hset, Act.store, Act.look_run, mntArg_applyWrite, Act.setR_r_same _ _ _ _ _ _ (by decide), hd]
    exact BitVec.and_allOnes
  have haccess := Act.hostWrites_mntArg (s := b) (d := d) (id := s.fab.nextJob) (by rw [hb]; exact hacting) (by rw [hb]; exact hup)
  have htouch := hin b
  have hresp : ((Act.all [.store .MNT_ARG (d.setWidth 32), .accept]).run b).resp = .ok 0 := rfl
  generalize (Act.all [.store .MNT_ARG (d.setWidth 32), .accept]).run b = t at haccess htouch hstored hresp
  rw [← hoff, hb] at haccess
  rw [hb] at htouch
  have hfab : t.fab = _ := htouch.parts .fab (by decide)
  have hanswered := hrun.trans (Act.hostBurst_run (by exact hjobs) rfl rfl rfl haccess hresp (congrArg FabSt.jobs hfab))
  have hhead : t.burstOver.acting = true := (congrArg (fun w => F.COLYS_ID_HEAD.of w == 1) (htouch.regsKept .COLYS_ID 0 0 0 (by decide))).trans hacting
  rw [Act.hostEnd_write hhead] at hanswered
  exact answersThenSettled_of rfl hanswered ⟨rfl, hstored, htouch.regsKept, htouch.parts .tx (by decide)⟩

theorem hostAccess_readsArg (hlatch : assoc s.latch ⟨.MNT_ARG, 0, 0, 0⟩ = none) : AnswersThenSettled (.hostAccess s.ownNumber off 4 false v) s fun u =>
    u.resp = .ok ((s.r .MNT_ARG).setWidth 64) ∧ u.tx = s.tx ++ [.hostAnswer (.ok ((s.r .MNT_ARG).setWidth 64))] := by
  obtain ⟨d, -, hrun⟩ := Act.hostAccess_ownWord (v := v) hacting hjobs hoff false
  obtain ⟨t, haccess, hresp, hfab, htx, hhead⟩ := Act.hostReads_mntArg (d := d) (id := s.fab.nextJob)
    (s := ({ s with resp := .none } : State).bursting (.host 4 false (s.ownNumber.toNat * 2 ^ 24 + off.toNat))) hacting hup hlatch
  rw [← hoff] at haccess
  have hanswered := hrun.trans (Act.hostBurst_run (by exact hjobs) rfl rfl rfl haccess hresp (congrArg FabSt.jobs hfab))
  have hword : (((s.r .MNT_ARG).setWidth 64).setWidth 32 : Word) = s.r .MNT_ARG := BitVec.setWidth_setWidth_of_le _ (by decide) |>.trans (BitVec.setWidth_eq _)
  rw [Act.hostEnd_read (s := t.burstOver) (hhead.trans hacting)] at hanswered
  refine answersThenSettled_of rfl hanswered ⟨?_, ?_⟩
  · exact congrArg (fun w : Word => Resp.ok (w.setWidth 64)) hword
  · exact congrArg₂ (fun l (w : Word) => l ++ [Tx.hostAnswer (.ok (w.setWidth 64))]) htx hword

end

/-! ### The host port -/

/-- Settles O55: what the host, the endpoint's configuration and the Ethernet port bring, each stated with its own lemma. -/
theorem hostAndEthernet : Obligations.HostAndEthernet := by
  unfold Obligations.HostAndEthernet
  intro s m off bytes write ok v words rest data on speed width f asker from_ echo
  dsimp only
  refine ⟨hostAccess_absent, fun ha hbad => ⟨hostAccess_badWrite ha hbad, hostAccess_badRead ha hbad⟩, hostAccess_requests,
    fun ha hup hjobs hoff => ⟨hostAccess_writesArg ha hup hjobs hoff, hostAccess_readsArg ha hup hjobs hoff⟩, hostMaster_idle,
    fun hqueue hsrc => ⟨hostMaster_takes hqueue hsrc, hostMaster_writes hqueue hsrc⟩, endpoint_resets, endpoint_absent,
    fun hup => ⟨pcieConfig_busMaster hup, pcieConfig_power hup, pcieConfig_msix hup, pcieConfig_payload hup⟩, pcieConfig_absent,
    fun ha => ⟨pcieLink_shows ha, ethLink_shows ha⟩,
    fun hup ha hlink => ⟨ethFrame_arp hup ha hlink, ethFrame_echo hup ha hlink, ethFrame_other hup ha hlink⟩, ethFrame_absent⟩

end Sys2Proof.Machine
end

section
-- One proof after another: elaborated side by side, the proofs of the whole text do not fit in the check's memory.
set_option Elab.async false
/-! What a write can do to the tags of the DMA engine (R382, R388): it leaves them as they are, or it is a reset, which frees them all. A burst
gets its tag nowhere but at its issue. -/

namespace Sys2Proof.Machine

/-- The DMA engine has the tags it had, or none. -/
def TagsHeld (s t : State) : Prop := t.dma.tags = s.dma.tags ∨ t.dma.tags = []

theorem TagsHeld.frame : Frame TagsHeld := ⟨fun _ => .inl rfl, fun h1 h2 => h2.elim (fun h => h1.imp h.trans h.trans) .inr⟩

/-- The action takes tags from none of the channels, or from all. -/
def HoldsTags (a : Act) : Prop := a.Keeps TagsHeld

namespace HoldsTags

variable {a b : Act} {s : State} {g : Grp} {n : Cv} {k : Trk} {c : Chan} {v : Word} {src : Src}

theorem skip : HoldsTags .skip := Act.keeps_skip TagsHeld.frame

theorem andThen (ha : HoldsTags a) (hb : HoldsTags b) : HoldsTags (a.andThen b) := Act.keeps_andThen TagsHeld.frame ha hb

theorem all {as : List Act} (h : as.Forall HoldsTags) : HoldsTags (.all as) := Act.keeps_all TagsHeld.frame h

theorem look {x : State → Act} (h : ∀ s, HoldsTags (x s)) : HoldsTags (.look x) := Act.keeps_look h

theorem when {c : Bool} (h : HoldsTags a) : HoldsTags (.when c a) := Act.keeps_when TagsHeld.frame h

theorem each {α : Type} {as : List α} {x : α → Act} (h : ∀ y, HoldsTags (x y)) : HoldsTags (.each as x) := Act.keeps_each TagsHeld.frame as h

theorem ite {c : Prop} [Decidable c] (ha : HoldsTags a) (hb : HoldsTags b) : HoldsTags (if c then a else b) := Act.keeps_ite ha hb

theorem dite {c : Prop} [Decidable c] {x : c → Act} {y : ¬c → Act} (hx : ∀ h, HoldsTags (x h)) (hy : ∀ h, HoldsTags (y h)) :
    HoldsTags (if h : c then x h else y h) := by
  split
  · exact hx _
  · exact hy _

theorem within {l : List RegName} {rs : List RegRef} {ps : List Part} (h : Within l rs ps a) (hp : Part.dma ∉ ps := by decide) : HoldsTags a :=
  fun s => .inl (h.tags_eq s hp)

/-- An action on another part of the state, or on another field of the engine. -/
theorem own (h : ∀ s : State, (a.run s).dma.tags = s.dma.tags) : HoldsTags a := fun s => .inl (h s)

theorem setR {n : RegName} {i j k : Nat} : HoldsTags (.setR n v i j k) := within (Within.setR (l := [n]) (rs := []) (ps := []) (List.mem_singleton_self n))

theorem setF {f : Fld} {x i j k : Nat} : HoldsTags (.setF f x i j k) := look fun _ => setR

theorem setB {f : Fld} {x : Bool} {i j k : Nat} : HoldsTags (.setB f x i j k) := setF

theorem count {f : Fld} {x i j k : Nat} : HoldsTags (.count f x i j k) := look fun _ => setF

theorem setBit {f : Fld} {x i j k : Nat} : HoldsTags (.setBit f x i j k) := look fun _ => setF

theorem clrBit {f : Fld} {x i j k : Nat} : HoldsTags (.clrBit f x i j k) := look fun _ => setF

theorem putBit {f : Fld} {b : Nat} {x : Bool} {i j k : Nat} : HoldsTags (.putBit f b x i j k) := Act.putBit_keeps (fun _ _ _ _ => setF) b x i j k

theorem store {n : RegName} {i j k : Nat} : HoldsTags (.store n v i j k) := look fun _ => setR

theorem answer {r : Resp} : HoldsTags (.answer r) := own fun _ => rfl

theorem accept : HoldsTags .accept := answer

theorem refuse {f : Fld} {i j : Nat} : HoldsTags (.refuse f i j) := all ⟨count, answer⟩

theorem log {x y : Nat} {z : List Byte} : HoldsTags (.log x y z) :=
  within (Within.log (l := [.FAULT_STATUS, .FAULT_EVENTS]) (rs := []) (ps := [.log, .seed]))

theorem masterCount : HoldsTags (.masterCount src) := by
  cases src with
  | fabric d => exact look fun _ => when count
  | _ => exact skip

theorem write {x : Nat} (h : HoldsTags a) : HoldsTags (.write src x a) := look fun _ => ite (all ⟨ite h answer, masterCount⟩) answer

/-! ### The Harbour's ports and berths, and the pins -/

section
variable {b : Nat} {k : PushSrc} {d : DWord} {last : Bool}

theorem setBerth {x : BerthSt → BerthSt} : HoldsTags (.setBerth b x) := within (Within.setBerth (l := []) (rs := []) (ps := [.harb]))

theorem harbRefuse : HoldsTags .harbRefuse := within Within.harbRefuse

theorem pushCell : HoldsTags (.pushCell b k d last) := by
  have hgap : HoldsTags (.gapMark b) := within Within.gapMark
  have hwater : HoldsTags (.water b) := within Within.water
  exact look fun _ => ite count (ite (when (setBerth)) (andThen hgap (look fun _ => ite
    (ite (all ⟨setBerth, within Within.commitPacket, hwater⟩) (all ⟨setBerth, hwater⟩)) (all ⟨setBerth, within Within.dropItem, hgap, hwater⟩))))

theorem portPush {h : Half} : HoldsTags (.portPush src b last h d) := by
  refine look fun s => ?_
  cases h with
  | both => exact andThen answer pushCell
  | lo => exact all ⟨answer, setBerth⟩
  | hi =>
    dsimp only
    split
    · exact harbRefuse
    · exact all ⟨answer, setBerth, pushCell⟩

theorem dropRest : HoldsTags (.dropRest b) := by
  have hfree : ∀ n, HoldsTags (.freeHead b n) := fun _ => within Within.freeHead
  exact look fun _ => ite harbRefuse (ite (all ⟨count, answer⟩) (all ⟨hfree _, answer⟩))

theorem writePort {w : Berth} {p : Nat} : HoldsTags (.writePort src w p d) := by
  unfold Act.writePort
  split
  · exact portPush
  · exact portPush
  · exact portPush
  · exact portPush
  · exact dropRest
  · exact accept

theorem berthCfg : HoldsTags (.berthCfg b v) := by
  have hfree : HoldsTags (.freeBerth b false) := look fun _ => all ⟨count, log, setBerth, setB, setB, setB⟩
  have henable : HoldsTags (.enableBerth b) := all ⟨setBerth, setB, look fun _ => all ⟨setB, setB⟩⟩
  exact look fun _ => ite harbRefuse (ite harbRefuse (ite harbRefuse (ite harbRefuse (all ⟨when hfree, setR, when henable, setB, accept⟩))))

theorem berthSize : HoldsTags (.berthSize b v) := look fun _ => ite harbRefuse (ite harbRefuse (all ⟨setR, accept⟩))

theorem berthWater : HoldsTags (.berthWater b v) := look fun _ => ite harbRefuse (all ⟨setR, accept⟩)

end

theorem pinCfgWrite {p : Pin} : HoldsTags (.pinCfgWrite g p v) := look fun _ => ite refuse (all ⟨ite setR setR, within Within.pinRefresh, accept⟩)

theorem pinOutPut {x : Nat} : HoldsTags (.pinOutPut g x) := all ⟨setF, within Within.pinsRefresh, accept⟩

theorem locksUpdate : HoldsTags (.locksUpdate g) := look fun _ => putBit

theorem pinLock : HoldsTags (.pinLock g v) := by
  have hrestart : HoldsTags (.all [.refuse F.PIN_REFUSED_COUNT g, .setF F.PIN_LOCKED_STEP (if v = 0xA5 then 1 else 0) g]) := all ⟨refuse, setF⟩
  refine look fun s => ?_
  dsimp only
  split
  · exact ite (all ⟨setF, accept⟩) hrestart
  · exact ite (all ⟨setF, accept⟩) hrestart
  · exact ite (all ⟨setF, setF, locksUpdate, accept⟩) hrestart

/-! ### Comparators, DDS engines and outputs -/

theorem mirrored {off : Nat} (h : HoldsTags a) : HoldsTags (.mirrored src off v a) :=
  look fun _ => ite (all ⟨count, accept⟩) (andThen h (look fun _ => when (own fun _ => rfl)))

theorem cmpCfg {x : Kmp} : HoldsTags (.cmpCfg g x v) :=
  look fun _ => ite refuse (all ⟨setR, ite (within (Within.cmpEdgeWaits (l := []))) (within Within.cmpFollow), accept⟩)

theorem cmpThr {x : Kmp} {hyst : Bool} : HoldsTags (.cmpThr g x hyst v) :=
  look fun _ => ite refuse (all ⟨ite setR setR, when (own fun _ => rfl), accept⟩)

section
variable {e : DdsE}

theorem ddsShadow {w : RegName} {bit : Nat} : HoldsTags (.ddsShadow w bit g e v) := look fun _ => ite refuse (all ⟨setR, own fun _ => rfl, accept⟩)

theorem ddsApply : HoldsTags (.ddsApply g e v) :=
  look fun _ => ite refuse (ite (all ⟨refuse, setB⟩) (all ⟨setR, own fun _ => rfl, setB, accept⟩))

theorem ddsEnable : HoldsTags (.ddsEnable g e v) := look fun _ => all ⟨when (own fun _ => rfl), setR, setB, accept⟩

end

section
variable {o : Out} {x : Nat}

theorem outFaultEnd : HoldsTags (.outFaultEnd g o x) := clrBit

theorem dacValue : HoldsTags (.dacValue g o v) :=
  all ⟨setR, look fun _ => ite (own fun _ => rfl) (all ⟨when setB, when setB⟩), within Within.outUpdate, accept⟩

theorem dacValueWrite : HoldsTags (.dacValueWrite g o v) := all ⟨dacValue, own fun _ => rfl⟩

theorem dacCfg : HoldsTags (.dacCfg g o v) :=
  look fun _ => ite refuse (ite refuse (all ⟨setR, when (own fun _ => rfl), within Within.outUpdate, accept⟩))

theorem nvRange : HoldsTags (.nvRange g o v) := ite refuse (all ⟨setF, own fun _ => rfl, accept⟩)

theorem coreHandover {back : Bool} : HoldsTags (.coreHandover g x back) := all ⟨setF, setF, setB, look fun _ => own fun _ => rfl⟩

theorem rbClear : HoldsTags (.rbClear g o v) := look fun _ => andThen (when (all ⟨setB, setF, setF, own fun _ => rfl, outFaultEnd⟩)) accept

theorem spareWrite : HoldsTags (.spareWrite g v) :=
  look fun _ => ite refuse (ite refuse (all ⟨setF, when coreHandover, when coreHandover, accept⟩))

end

/-! ### Step engines, limits and the scheduler -/

theorem engCtrl {e : Eng} : HoldsTags (.engCtrl e v) :=
  look fun _ => ite (ite (all ⟨own fun _ => rfl, accept⟩) (ite (all ⟨setF, own fun _ => rfl, accept⟩) accept))
    (ite (ite refuse (all ⟨setB, within Within.engStart, accept⟩)) accept)

theorem ring {e : Eng} : HoldsTags (.ring e) := within Within.ring

theorem doorbells : HoldsTags (.doorbells v) := all ⟨each fun _ => when ring, accept⟩

theorem flagWrite {set : Bool} : HoldsTags (.flagWrite set v) := look fun _ => all ⟨setR, accept⟩

theorem setBytes {x y z : Nat} : HoldsTags (.setBytes x y z) := within (Within.setBytes (l := []) (rs := []) (ps := [.mem]))

theorem stepMemory {w : Nat} {d : DWord} {h : Half} : HoldsTags (.stepMemory w d h) := by
  refine look fun s => ?_
  cases h with
  | both => exact all ⟨setBytes, accept⟩
  | lo => exact ite refuse (all ⟨setBytes, accept⟩)
  | hi => exact ite refuse (all ⟨setBytes, accept⟩)

theorem engData {e : Eng} {r : Nat} : HoldsTags (.engData e r v) := look fun _ => ite refuse (all ⟨setR, accept⟩)

theorem safeEnter {x : Nat} : HoldsTags (.safeEnter x) := within Within.safeEnter

theorem safeWrite : HoldsTags (.safeWrite v) := by
  have hend : HoldsTags .safeEnd := all ⟨setB, each fun _ => each fun _ => outFaultEnd, within Within.pinRows⟩
  exact look fun _ => ite (all ⟨setF, safeEnter, accept⟩) (ite (ite (all ⟨setF, hend, accept⟩) refuse) (all ⟨setF, accept⟩))

theorem outCauses : HoldsTags .outCauses := within Within.outCauses

theorem trippedClear {i : Fin 4} : HoldsTags (.trippedClear i v) :=
  all ⟨each fun _ => look fun _ => when (all ⟨clrBit, setF, setF⟩), outCauses, accept⟩

theorem monitorWrite {m : Nat} {r : MonReg} : HoldsTags (.monitorWrite m r v) := by
  have hstate : HoldsTags (.monitorState m) := look fun _ => ite (all ⟨own fun _ => rfl, setF, setF⟩) (ite (all ⟨setF, setF⟩) skip)
  exact look fun _ => ite refuse (all ⟨setR, hstate, outCauses, accept⟩)

theorem limitLock : HoldsTags (.limitLock v) := ite (all ⟨all ⟨setB, setB⟩, accept⟩) refuse

theorem wdogReload : HoldsTags .wdogReload := look fun _ => own fun _ => rfl

theorem wdogKick : HoldsTags (.wdogKick src v) := ite (all ⟨when wdogReload, accept⟩) refuse

theorem wdogWrite : HoldsTags (.wdogWrite v) := look fun _ => ite refuse (all ⟨when wdogReload, store, accept⟩)

theorem ctxWrite {x o n y : Nat} : HoldsTags (.ctxWrite x o n y) :=
  look fun _ => ite (ite refuse (all ⟨within (Within.disarm (l := []) (rs := [])), setBytes, accept⟩))
    (ite (ite refuse (all ⟨setBytes, own fun _ => rfl, accept⟩)) (all ⟨setBytes, accept⟩))

theorem repeatWrite {i : Nat} : HoldsTags (.repeatWrite i v) := look fun _ => ite accept (ite refuse (all ⟨setR, own fun _ => rfl, accept⟩))

theorem schedTrkWrite {cfg : Bool} : HoldsTags (.schedTrkWrite k cfg v) :=
  look fun _ => ite refuse (ite (all ⟨setF, accept⟩) (all ⟨setR, accept⟩))

/-! ### Trackers and module time -/

theorem pushSeg {a b : Int} {t x : Int} {y : Bool} : HoldsTags (.pushSeg k t a b x y) := within Within.pushSeg

theorem trkPresent : HoldsTags (.trkPresent k) := within Within.trkPresent

theorem trkJump {x : Nat} {f t p q : Int} {y : Bool} : HoldsTags (.trkJump k x f t p q y) :=
  all ⟨setF, setF, setF, setF, setF, setF, setF, setB, when count, trkPresent, look fun _ => within Within.schedJump⟩

theorem homeAt {x : Int} {y : Option Int} : HoldsTags (.homeAt k x y) :=
  look fun _ => all ⟨own fun _ => rfl, pushSeg, setB, setB, when setB, trkJump⟩

theorem home {x : Int} : HoldsTags (.home k x) := by
  refine look fun s => ite homeAt ?_
  split
  · exact when homeAt
  · exact skip

theorem trkStop : HoldsTags (.trkStop k) := look fun _ => all ⟨trkPresent, within Within.trkHold, setB, setF, look fun _ => pushSeg⟩

theorem trkCtrl : HoldsTags (.trkCtrl k v) :=
  look fun _ => ite refuse (all ⟨when (within Within.trkStart), when trkStop, when home, when setB, when setB, accept⟩)

theorem trkConfig {w : RegName} : HoldsTags (.trkConfig w k v) := look fun _ => ite refuse (all ⟨setR, accept⟩)

theorem anchor : HoldsTags .anchor := look fun _ => own fun _ => rfl

theorem timeStep {x : Int} : HoldsTags (.timeStep x) := by
  have hjudge : ∀ x m j, HoldsTags (.timeJudge x m j) := fun _ _ _ => within Within.timeJudge
  have htrk : ∀ w, HoldsTags (.trkTimeStep w) := fun _ => each fun _ => look fun _ => when (all ⟨pushSeg, when trkJump⟩)
  have hsched : ∀ x y, HoldsTags (.schedTimeStep x y) := fun _ _ => look fun _ => when (each fun _ => look fun _ => ite skip (hjudge _ _ _))
  exact look fun _ => all ⟨own fun _ => rfl, anchor, setF, setF, setF, setF, setB, count, htrk _, hsched _ _⟩

theorem timeStepWrite : HoldsTags (.timeStepWrite v) := look fun _ => ite refuse (all ⟨timeStep, accept⟩)

theorem timeRateWrite : HoldsTags (.timeRateWrite v) := look fun _ => ite refuse (all ⟨all ⟨setF, own fun _ => rfl, anchor⟩, accept⟩)

theorem ptpCfg : HoldsTags (.ptpCfg v) :=
  look fun _ => ite accept (ite refuse (all ⟨setR, within Within.ptpPort, own fun _ => rfl, own fun _ => rfl,
    look fun _ => when (within Within.holdover), accept⟩))

theorem timeCtrl : HoldsTags (.timeCtrl v) := ite refuse (all ⟨setR, when (own fun _ => rfl), accept⟩)

/-! ### Cells, references, converters and calibration -/

theorem cellShadow {w : RegName} {i j : Nat} : HoldsTags (.cellShadow w g i j v) := look fun _ => ite refuse (all ⟨setR, accept⟩)

theorem cellCommit : HoldsTags (.cellCommit g v) := by
  refine look fun s => ite refuse ?_
  split
  · exact all ⟨refuse, setB, setF⟩
  · exact all ⟨setR, setB, own fun _ => rfl, accept⟩

theorem runFinish {x : Nat} : HoldsTags (.runFinish g x) := within Within.runFinish

theorem cellCommitRun : HoldsTags (.cellCommitRun g v) := look fun _ => andThen cellCommit (look fun _ => when runFinish)

theorem cellCtl {x : Cell} : HoldsTags (.cellCtl g x v) := all ⟨setR, look fun _ => when (within Within.cellControl), accept⟩

theorem refCfg : HoldsTags (.refCfg g v) :=
  ite refuse (all ⟨look fun _ => when (all ⟨setF, setB, own fun _ => rfl, within Within.refSettled⟩), accept⟩)

theorem inpMode {i : Ain} : HoldsTags (.inpMode g i v) := look fun _ => ite refuse (all ⟨setR, accept⟩)

theorem actLater {x : CvAct} : HoldsTags (.actLater g n x) := within Within.actLater

theorem cvShadow {w : RegName} {e : Nat} : HoldsTags (.cvShadow w g n e v) := look fun _ => ite refuse (all ⟨setR, accept⟩)

theorem cvCommit : HoldsTags (.cvCommit g n v) := by
  refine look fun s => ite refuse ?_
  split
  · exact all ⟨refuse, setB, setF⟩
  · exact all ⟨setR, setB, own fun _ => rfl, within Within.cvTakeNow, accept⟩

theorem advanceRequest : HoldsTags (.advanceRequest g n) :=
  look fun _ => ite count (ite count (each fun _ => all ⟨setB, own fun _ => rfl⟩))

theorem injectSlot {x : Fin 4} : HoldsTags (.injectSlot g n x) := by
  have hfail : ∀ cause b, HoldsTags (.failRecord g n cause x b) := fun _ _ => within Within.failRecord
  exact look fun _ => ite (hfail _ _) (ite (hfail _ _) (ite (hfail _ _) (ite (hfail _ _) (ite (hfail _ _) (ite (hfail _ _) (ite (hfail _ _)
    (ite count (all ⟨setBit, own fun _ => rfl⟩))))))))

theorem injReq {x y : Nat} : HoldsTags (.injReq g n x y) :=
  look fun _ => ite refuse (all ⟨each fun _ => injectSlot, each fun _ => look fun _ => when actLater, accept⟩)

theorem seqCtl {x y : Bool} : HoldsTags (.seqCtl g n x y) := look fun _ => ite refuse (all ⟨when actLater, when advanceRequest, accept⟩)

theorem injWrite {x : Nat} : HoldsTags (.injWrite g n x v) := look fun _ => ite refuse (all ⟨setR, accept⟩)

theorem cvCtrl : HoldsTags (.cvCtrl g n v) :=
  look fun _ => ite refuse (ite refuse (all ⟨setR, look fun _ => when (each fun _ => actLater), accept⟩))

theorem faultConv : HoldsTags (.faultConv g v) :=
  look fun _ => ite refuse (all ⟨each fun _ => when (within Within.declareFailed),
    each fun _ => when (all ⟨setB, clrBit, own fun _ => rfl, within Within.cvServe⟩), accept⟩)

theorem faultSpare : HoldsTags (.faultSpare g v) := look fun _ => ite refuse (all ⟨setF, when (all ⟨setB, own fun _ => rfl⟩), accept⟩)

theorem faultCore : HoldsTags (.faultCore g v) := ite refuse (all ⟨each fun _ => when (all ⟨setB, clrBit, own fun _ => rfl⟩), accept⟩)

theorem runStart {x y : Nat} {z : Bool} : HoldsTags (.runStart g x y z) :=
  look fun _ => all ⟨own fun _ => rfl, setF, look fun _ => own fun _ => rfl, setB, setF, setF, when (all ⟨setF, setB⟩), when (within Within.calFree)⟩

theorem calCtrl : HoldsTags (.calCtrl g v) := by
  have hfactory : ∀ x y, HoldsTags (.factorySet g x y) := fun _ _ => look fun _ => when (ite (own fun _ => rfl) (own fun _ => rfl))
  exact look fun _ => ite refuse (all ⟨setR, when runFinish, when (hfactory _ _), when runStart, accept⟩)

theorem refDecl : HoldsTags (.refDecl g v) := look fun _ => ite refuse (all ⟨setR, accept⟩)

/-! ### Configuration and policy images -/

section
variable {x y : Nat}

theorem repairing : HoldsTags .repairing := within Within.repairing

theorem logReloc {a b : Nat} : HoldsTags (.logReloc a b x y) := within Within.logReloc

theorem loadIdle : HoldsTags .loadIdle := all ⟨setF, own fun _ => rfl⟩

theorem loadFail : HoldsTags (.loadFail x y) := by
  have hauto : ∀ r b, HoldsTags (.all [.setF F.RELOC_STATUS_STATE 0, .setF F.RELOC_STATUS_RESULT 10, .repairing,
      .setB F.FAULT_EVENTS_RELOC_FAILED true, .logReloc r b 10 0, .upd fun u => { u with rel := { u.rel with auto := none } }]) := fun _ _ =>
    all ⟨setF, setF, repairing, setB, logReloc, own fun _ => rfl⟩
  refine look fun s => all ⟨setF, setF, setB, ?_, loadIdle⟩
  split
  · refine all ⟨log, when (look fun t => ?_)⟩
    split
    · exact hauto _ _
    · exact skip
  · exact when log
  · exact skip

theorem fullFail {slot : Fin 2} {again : Bool} : HoldsTags (.fullFail slot again x y) := by
  have hcmps : HoldsTags .cmpsFollowAll := each fun _ => each fun _ => within Within.cmpFollow
  exact look fun _ => all ⟨setB, setF, setF, setF, setB, log, own fun _ => rfl, loadIdle,
    ite (all ⟨setF, own fun _ => rfl⟩) (all ⟨setF, setF, setB, own fun _ => rfl, hcmps⟩)⟩

theorem loadHeader : HoldsTags .loadHeader := look fun _ => when (ite loadFail (own fun _ => rfl))

theorem byteArrives : HoldsTags .byteArrives := look fun _ => own fun _ => rfl

theorem regionStart {host auto : Bool} {lib : Fin 32} {target : Reg} : HoldsTags (.regionStart host auto lib target) :=
  look fun _ => all ⟨byteArrives, setF, setF, own fun _ => rfl, when (ite loadHeader loadFail)⟩

theorem programStart : HoldsTags (.programStart x) := by
  have hmark : HoldsTags (.markFlash x false) := ite setB (ite setB putBit)
  exact all ⟨byteArrives, setF, setF, hmark, own fun _ => rfl, own fun _ => rfl⟩

theorem regionInit : HoldsTags (.regionInit x) := within Within.regionInit

theorem loadAbort : HoldsTags .loadAbort := by
  refine look fun s => ?_
  split
  · exact skip
  · exact fullFail
  · exact all ⟨when (all ⟨own fun _ => rfl, regionInit, setBit, clrBit⟩), loadFail⟩
  · exact loadFail

theorem cfgStart : HoldsTags (.cfgStart v) := by
  refine look fun s => ?_
  dsimp only
  split
  · exact ite refuse (ite (all ⟨refuse, setF, setB⟩) (all ⟨store, accept, regionStart⟩))
  · exact ite refuse (all ⟨store, accept, programStart⟩)
  · exact refuse

theorem cfgCtrl : HoldsTags (.cfgCtrl v) := by
  have hends : HoldsTags .sourceEnds := look fun _ => all ⟨own fun _ => rfl, when loadFail⟩
  exact look fun _ => ite (ite (all ⟨accept, loadAbort⟩) (ite (all ⟨accept, hends⟩) refuse)) (ite refuse (ite cfgStart (all ⟨store, accept⟩)))

theorem cfgData : HoldsTags (.cfgData v) := by
  refine look fun s => ite refuse (all ⟨accept, byteArrives, own fun _ => rfl, when loadHeader, look fun t => ?_⟩)
  split
  · exact when setF
  · exact skip

theorem cfgHold : HoldsTags (.cfgHold v) := look fun _ => all ⟨setR, each fun _ => regionInit, accept⟩

theorem keyRevoke : HoldsTags (.keyRevoke v) := look fun _ => ite refuse (all ⟨setF, accept⟩)

theorem polEnd : HoldsTags (.polEnd x) := within Within.polEnd

theorem polStart : HoldsTags (.polStart v) := by
  refine look fun s => ?_
  dsimp only
  split
  · exact all ⟨store, accept, clrBit, own fun _ => rfl, setF⟩
  · exact all ⟨store, accept, own fun _ => rfl, ite setF polEnd⟩
  · exact refuse

theorem polCtrl : HoldsTags (.polCtrl v) :=
  look fun _ => ite (all ⟨store, accept, when polEnd⟩) (ite (ite (all ⟨store, accept, ite setF polEnd⟩) (ite (all ⟨store, accept⟩) refuse))
    (ite (ite refuse polStart) (all ⟨store, accept⟩)))

theorem polData : HoldsTags (.polData v) :=
  look fun _ => ite refuse (all ⟨accept, own fun _ => rfl, look fun _ => ite polEnd (when setF)⟩)

end

/-! ### The fabric and relocation -/

section
variable {d : Die} {x y z : Nat}

theorem userAccess {write : Bool} {job : Option (Nat × Nat)} : HoldsTags (.userAccess src d write x v job) := by
  refine look fun s => ite (all ⟨own fun _ => rfl, ?_⟩) answer
  split
  · exact skip
  · exact answer

theorem tapWrite {t : Fin 8} : HoldsTags (.tapWrite d t v) := ite refuse (all ⟨setR, look fun _ => own fun _ => rfl, accept⟩)

theorem captureCtrl : HoldsTags (.captureCtrl v) := by
  have hend : HoldsTags (.captureEnd 1) := all ⟨setF, setB, setF, own fun _ => rfl⟩
  have hstart : ∀ x y z, HoldsTags (.captureStart x y z) := fun _ _ _ => look fun _ => ite refuse (ite (all ⟨hend, accept⟩) (all ⟨own fun _ => rfl, setF, accept⟩))
  have harm : ∀ x y z, HoldsTags (.captureArm x y z) := fun _ _ _ => look fun _ => ite refuse (all ⟨own fun _ => rfl, setF, accept⟩)
  exact all ⟨when accept, when (hstart _ _ _), when (harm _ _ _), look fun _ => when store⟩

theorem relocBreak : HoldsTags (.relocBreak x) :=
  look fun _ => when (all ⟨regionInit, own fun _ => rfl, setBit, clrBit, within Within.relocFail⟩)

theorem relocAbort : HoldsTags .relocAbort := by
  refine look fun s => ite (all ⟨within Within.relocFail, ?_⟩) relocBreak
  split
  · exact loadAbort
  · exact skip

theorem barriers : HoldsTags .barriers := look fun _ => when (each fun _ => look fun _ => when (own fun _ => rfl))

theorem relocCtrl : HoldsTags (.relocCtrl v) := by
  have hbegin : ∀ x y, HoldsTags (.relocBegin x y) := fun _ _ =>
    look fun _ => all ⟨setF, setF, setF, setF, own fun _ => rfl, within Within.copyInbound, repairing, barriers⟩
  exact look fun _ => ite (all ⟨store, relocAbort, accept⟩) (ite (all ⟨store, accept⟩) (ite (all ⟨setF, refuse⟩) (all ⟨store, hbegin _ _, accept⟩)))

theorem regionReset : HoldsTags (.regionReset x) := look fun _ => all ⟨when loadAbort, when relocBreak, look fun _ => when regionInit⟩

theorem regionResetWrite : HoldsTags (.regionResetWrite v) :=
  look fun _ => ite refuse (all ⟨when regionReset, when (own fun _ => rfl), accept⟩)

end

/-! ### The DMA engine -/

theorem dmaState {x : Nat} : HoldsTags (.dmaState c x) := setF

theorem keep {x : BitVec 6} {y : Nat} {z : Option (List DWord)} : HoldsTags (.keep x y z) := within (Within.keep (l := []) (rs := []))

theorem complete {h : PkHead} {x y : Nat} {z : List DWord} : HoldsTags (.complete h x y z) := within Within.complete

theorem abortAnswered : HoldsTags (.abortAnswered c) := by
  exact look fun _ => all ⟨own fun _ => rfl, each fun _ => ite (all ⟨setB, setF⟩) (all ⟨keep, complete⟩)⟩

theorem dmaEnd : HoldsTags (.dmaEnd c) := all ⟨own fun _ => rfl, dmaState, look fun _ => setF, abortAnswered⟩

theorem dmaAbort : HoldsTags (.dmaAbort c) := look fun _ => ite dmaEnd (ite abortAnswered (ite skip (all ⟨own fun _ => rfl, when dmaState⟩)))

theorem dmaConsume : HoldsTags (.dmaConsume c) := look fun _ => when (all ⟨when setF, dmaState⟩)

theorem dmaTrigger : HoldsTags (.dmaTrigger c) := look fun _ => ite (all ⟨count, dmaConsume, accept⟩) refuse

theorem dmaCtrl : HoldsTags (.dmaCtrl c v) :=
  look fun _ => ite refuse (all ⟨when setF, store, when dmaAbort, when (all ⟨own fun _ => rfl, dmaState⟩), when dmaTrigger, accept⟩)

theorem dmaRate : HoldsTags (.dmaRate c v) := look fun _ => ite refuse (all ⟨own fun _ => rfl, store, accept⟩)

theorem dmaDescWrite {high : Bool} : HoldsTags (.dmaDescWrite c high v) := look fun _ => ite refuse (all ⟨setR, accept⟩)

theorem dmaTriggers {x : Nat} : HoldsTags (.dmaTriggers x v) :=
  all ⟨accept, each fun _ => look fun _ => ite (all ⟨count, dmaConsume⟩) refuse⟩

/-! ### Modes and resets -/

theorem modeEffects {x y : Nat} : HoldsTags (.modeEffects x y) := by
  have hreduce : ∀ g n, HoldsTags (.cvReduce g n) := fun _ _ =>
    look fun _ => when (all ⟨within Within.account, own fun _ => rfl, within Within.cvTakeNow, within Within.factoryNow, own fun _ => rfl,
      when (within Within.reducedStart)⟩)
  have hfail : ∀ g n, HoldsTags (.calFail g n) := fun _ _ => within Within.calFail
  have hddsPark : ∀ g on, HoldsTags (.ddsPark g on) := fun _ _ => within Within.ddsPark
  have hfollow : ∀ g, HoldsTags (.cmpsFollow g) := fun _ => within Within.cmpsFollow
  have hdiscipline : ∀ on, HoldsTags (.discipline on) := fun _ => within Within.discipline
  have hrole : ∀ m, HoldsTags (.pairRole m) := fun _ => within Within.pairRole
  have hrows : HoldsTags .pinRows := within Within.pinRows
  have htrk : HoldsTags .trkModes := within Within.trkModes
  have hholds : HoldsTags .holdModes := within Within.holdModes
  have hends : HoldsTags .holdsEnd := within Within.holdsEnd
  have hreducedLeaves : HoldsTags .reducedLeaves := all ⟨each fun _ => each fun _ => within Within.cvUnreduce, each fun _ => hfollow _⟩
  have hreducedEnters : HoldsTags .reducedEnters :=
    all ⟨htrk, each fun _ => hfail _ _, each fun _ => each fun _ => hreduce _ _, each fun _ => within Within.outsReduced, each fun _ => hfollow _, barriers⟩
  have hparkedLeaves : HoldsTags .parkedLeaves :=
    all ⟨each fun _ => each fun _ => within Within.cvUnpark, hends, hrows, each fun _ => within Within.outsUnpark, each fun _ => hddsPark _ _⟩
  have hparkedEnters : HoldsTags .parkedEnters :=
    all ⟨hholds, hrows, each fun _ => within Within.outsPark, each fun _ => hddsPark _ _, each fun _ => each fun _ => within Within.cvPark,
      within Within.captureParked, htrk⟩
  have hpairEnter : HoldsTags .pairEnter := look fun _ => when (all ⟨own fun _ => rfl, setB, setB, setB, hrole _⟩)
  have hpairLeave : HoldsTags .pairLeave := look fun _ => all ⟨when (each fun _ => each fun _ => all ⟨setB, own fun _ => rfl⟩), own fun _ => rfl,
    setB, setB, setB, setB, hrole _, within Within.pairField⟩
  exact all ⟨when hreducedLeaves, when hparkedLeaves, when hparkedEnters, when hreducedEnters, when (hdiscipline _), when (hdiscipline _), when hends,
    when hholds, when (each fun _ => within Within.promoteLowest), when hpairEnter, when hpairLeave, look fun _ => when (within Within.pairStandby)⟩

theorem modes : HoldsTags .modes :=
  look fun _ => when (all ⟨setF, setF, setB, when (all ⟨setF, count, setR, setR, modeEffects⟩), when (within Within.holdModes),
    when (within Within.pairYield), barriers⟩)

theorem sysMode : HoldsTags (.sysMode v) := all ⟨store, own fun _ => rfl, accept, modes⟩

/-- R70: a module reset frees every tag. -/
theorem clearWork : HoldsTags .clearWork := fun _ => .inr rfl

theorem moduleReset {x : Nat} : HoldsTags (.moduleReset x) := by
  have hclear : ∀ w x, HoldsTags (.clearAll w x) := fun _ _ =>
    look fun _ => all ⟨within Within.unretireAll, own fun _ => rfl, within (Within.clearMem (l := []) (rs := []) (ps := [.mem])), own fun _ => rfl,
      clearWork, within Within.flashFields, setF⟩
  have hfault : ∀ g o x, HoldsTags (.outFault g o x) := fun _ _ _ => within Within.outFault
  exact look fun _ => all ⟨hclear _ _, own fun _ => rfl, within Within.nvLoad, within Within.nvResetFields, setF, own fun _ => rfl, own fun _ => rfl,
    each fun _ => all ⟨setB, setB, when (each fun _ => all ⟨setB, ite (hfault _ _ _) (within Within.outUpdate)⟩),
      when (within (Within.slotBegins (l := []))), within Within.pinRowUpdate⟩⟩

theorem sysReset : HoldsTags (.sysReset v) := by
  have hfabric : HoldsTags .fabricReset := all ⟨each fun _ => regionInit, own fun _ => rfl, setB⟩
  have hgroup : ∀ g, HoldsTags (.groupReset g) := fun _ =>
    all ⟨within Within.groupLost, clrBit, clrBit, own fun _ => rfl, setR, locksUpdate, within Within.groupRestart⟩
  exact ite (all ⟨own fun _ => rfl, answer⟩) (ite (all ⟨accept, moduleReset⟩) (all ⟨when hfabric, each fun _ => when (hgroup _), accept⟩))

/-! ### The head -/

theorem evtAck : HoldsTags (.evtAck v) := look fun _ => all ⟨when (all ⟨setB, when (within Within.raiseLine)⟩), accept⟩

theorem read32 {x : Nat} {job : Option (Nat × Nat)} : HoldsTags (.read32 src x job) := by
  have hreg : ∀ r, HoldsTags (.readReg r) := fun r => within (Within.readReg (l := [r.name]) (List.mem_singleton_self _))
  have hbytes : ∀ a n, HoldsTags (.readBytes a n) := fun _ _ => look fun _ => answer
  refine look fun s => ?_
  cases placeOf x with
  | reg r =>
    dsimp only
    split
    · exact ite (hreg r) answer
    · exact hreg r
  | user d a => exact userAccess
  | context y o => exact hbytes _ _
  | step w high => exact hbytes _ _
  | memory a => exact ite answer (hbytes _ _)
  | readback a => exact ite answer (hbytes _ _)
  | port b p => exact within Within.readPort
  | reserved => exact answer

theorem maintRun {origin : BitVec 6} {x y z : Nat} : HoldsTags (.maintRun origin x y z) := by
  have hdone : ∀ st data, HoldsTags (.maintAnswer origin x y st data) := fun _ _ =>
    look fun _ => ite (within Within.mntEnd) (all ⟨keep, complete⟩)
  refine look fun s => ?_
  dsimp only
  refine ite skip (ite (hdone _ _) ?_)
  split
  · refine ite (andThen read32 (look fun t => ?_)) (hdone _ _)
    split
    · exact hdone _ _
    · exact hdone _ _
  · split
    · exact hdone _ _
    · exact hdone _ _
  · exact all ⟨safeEnter, hdone _ _⟩
  · exact ite (hdone _ _) (all ⟨regionReset, hdone _ _⟩)
  · exact ite (hdone _ _) (andThen captureCtrl (look fun _ => hdone _ _))
  · exact ite (hdone _ _) (all ⟨hdone _ _, moduleReset⟩)
  · exact dite (fun _ => all ⟨own fun _ => rfl, dmaAbort⟩) fun _ => hdone _ _
  · exact hdone _ _

theorem mntCmd : HoldsTags (.mntCmd v) := by
  have hrequest : ∀ d u w, HoldsTags (.request d u w) := fun _ _ _ => within Within.request
  exact look fun _ => ite accept (ite refuse (all ⟨setF, setB, ite (ite (own fun _ => rfl) maintRun) (hrequest _ _ _), accept⟩))

theorem pairCtrl : HoldsTags (.pairCtrl v) := look fun _ => ite accept (ite (all ⟨setB, accept⟩) refuse)

theorem logSelect : HoldsTags (.logSelect v) := by
  refine look fun s => andThen setF ?_
  split
  · exact all ⟨each fun _ => setR, setB, setB⟩
  · exact all ⟨setB, setB⟩

/-! ### Accesses -/

theorem regWrite {r : RegRef} : HoldsTags (.regWrite src r v) := by
  have hplain : ∀ (n : RegName) i j k, HoldsTags (.all [.store n v i j k, .accept]) := fun _ _ _ _ => all ⟨store, accept⟩
  obtain ⟨n, i, j, k⟩ := r
  cases n
  case SYS_MODE => exact sysMode
  case SYS_RESET => exact sysReset
  case CFG_CTRL => exact cfgCtrl
  case CFG_DATA => exact cfgData
  case CFG_HOLD => exact cfgHold
  case CFG_KEY_REVOKE => exact keyRevoke
  case TIME_CTRL => exact timeCtrl
  case TIME_RATE => exact timeRateWrite
  case TIME_STEP_LO => exact all ⟨setR, accept⟩
  case TIME_STEP_HI => exact timeStepWrite
  case TIME_PTP_CFG => exact ptpCfg
  case TRK_CTRL => exact trkCtrl
  case TRK_CFG | TRK_PER_CYCLE | TRK_TIMING | TRK_HOME_CFG | TRK_CARRIER => exact trkConfig
  case SCHED_TRK_HYST | SCHED_TRK_CFG => exact schedTrkWrite
  case SCHED_REPEAT_LO => exact ite accept (all ⟨setR, accept⟩)
  case SCHED_REPEAT_HI => exact repeatWrite
  case ENG_CTRL => exact engCtrl
  case ENG_D => exact engData
  case STEP_FLAG_SET | STEP_FLAG_CLR => exact flagWrite
  case STEP_DOORBELL => exact doorbells
  case STEP_POL_CTRL => exact polCtrl
  case STEP_POL_DATA => exact polData
  case MON_CFG | MON_LO | MON_HI | MON_ACT => exact monitorWrite
  case LIMIT_TRIPPED => exact trippedClear
  case LIMIT_LOCK => exact limitLock
  case LIMIT_SAFE => exact safeWrite
  case LIMIT_WDOG => exact wdogWrite
  case LIMIT_WDOG_KICK => exact wdogKick
  case CAL_CTRL => exact calCtrl
  case CAL_REF_DECL => exact refDecl
  case CAL_VIEW_SEL | CAL_CFG | CAL_TOL | CAL_WINDOW => exact ite refuse (hplain _ _ _ _)
  case HARB_CFG => exact berthCfg
  case HARB_SIZE => exact berthSize
  case HARB_WATER => exact berthWater
  case DMA_CTRL => exact dmaCtrl
  case DMA_RATE => exact dmaRate
  case DMA_DESC_LO | DMA_DESC_HI => exact dmaDescWrite
  case DMA_TRIGGER_LO | DMA_TRIGGER_HI => exact dmaTriggers
  case MNT_CMD => exact mntCmd
  case EVT_ACK => exact evtAck
  case FAULT_CONV => exact faultConv
  case FAULT_SPARE => exact faultSpare
  case FAULT_CORE => exact faultCore
  case RELOC_CTRL => exact relocCtrl
  case REGION_RESET => exact regionResetWrite
  case LOG_SEL => exact all ⟨logSelect, accept⟩
  case PAIR_CTRL => exact pairCtrl
  case INP_CFG => exact inpMode
  case REF_CFG => exact refCfg
  case CELL_CFG | CELL_IN | CELL_FB | CELL_PARAM | CELL_INIT | CELL_SC | CELL_TRACK | CELL_SCK => exact cellShadow
  case CELL_CTL => exact cellCtl
  case CELL_COMMIT => exact cellCommitRun
  case CV_CTRL => exact cvCtrl
  case CV_SEQ | CV_ENTRY | CV_ENTRY_T => exact cvShadow
  case CV_SEQ_CTL => exact seqCtl
  case CV_INJ => exact injWrite
  case CV_INJ_REQ => exact injReq
  case CV_COMMIT => exact cvCommit
  case DAC_CFG => exact mirrored dacCfg
  case DAC_VALUE => exact mirrored dacValueWrite
  case DAC_STATUS => exact rbClear
  case DAC_NV => exact nvRange
  case DAC_SPARE => exact spareWrite
  case DDS_CTRL => exact ddsEnable
  case DDS_FTW_LO | DDS_FTW_HI | DDS_AMP | DDS_PHASE | DDS_FOLLOW | DDS_RATIO => exact mirrored ddsShadow
  case DDS_APPLY => exact mirrored ddsApply
  case CMP_CFG => exact cmpCfg
  case CMP_THR | CMP_HYST => exact cmpThr
  case PIN_P_CFG | PIN_DP_CFG => exact pinCfgWrite
  case PIN_OUT => exact mirrored pinOutPut
  case PIN_OUT_SET | PIN_OUT_CLR | PIN_OUT_TGL => exact mirrored (look fun _ => pinOutPut)
  case PIN_LOCK => exact pinLock
  case FAB_TAP => exact tapWrite
  case FAB_CAP_CTRL => exact captureCtrl
  all_goals exact hplain _ _ _ _

theorem write32 {x : Nat} {job : Option (Nat × Nat)} : HoldsTags (.write32 src x v job) := by
  have hplace : HoldsTags (.place32 src x v job) := by
    refine look fun s => ite answer ?_
    cases placeOf x with
    | reg r => exact ite accept regWrite
    | user d a => exact userAccess
    | context y o => exact ctxWrite
    | step w high => exact stepMemory
    | memory a => exact ite (all ⟨when (all ⟨setBytes, within (Within.msixPending (l := []) (rs := []))⟩), accept⟩) (all ⟨setBytes, accept⟩)
    | readback a => exact accept
    | port b p => exact writePort
    | reserved => exact accept
  exact write hplace

theorem refuseAt {x : Nat} : HoldsTags (.refuseAt x) := by
  have huncounted : HoldsTags .refuseUncounted := all ⟨own fun _ => rfl, answer⟩
  unfold Act.refuseAt
  dsimp only
  split
  case h_1 => exact huncounted
  case h_13 =>
    refine ite (ite ?_ (ite ?_ (ite ?_ (ite ?_ (ite ?_ (ite ?_ (ite ?_ huncounted))))))) (ite ?_ (ite ?_ (ite ?_ (ite ?_ answer))))
    all_goals exact refuse
  all_goals exact refuse

/-- A write of one word. -/
theorem writeWord {x : Nat} {d : DWord} : HoldsTags (.busWrite src x 4 d) := by
  by_cases halign : x % 4 = 0
  · rw [Act.busWrite, if_pos ⟨rfl, halign⟩]
    exact write32
  · rw [Act.busWrite, if_neg (fun h => halign h.2), if_neg (fun h => absurd h.1 (by decide))]
    exact look fun _ => ite (all ⟨refuseAt, masterCount⟩) answer

theorem dmaPut {x : Nat} {ok : Bool} : HoldsTags (.dmaPut c x v ok) := by
  refine look fun s => all ⟨setR, count, ite ?_ ?_⟩
  · refine andThen writeWord (look fun t => ?_)
    cases t.resp with
    | error | noTarget => exact setB
    | _ => exact skip
  · exact all ⟨within Within.dmaRequest, when setB⟩

end HoldsTags

end Sys2Proof.Machine
end

section
-- One proof after another: elaborated side by side, the proofs of the whole text do not fit in the check's memory.
set_option Elab.async false
/-! The commands of a DMA channel (R382, R386 to R389): START, ABORT, triggers, pacing, and the end of an abort that does not drain. -/

namespace Sys2Proof.Machine

variable {s : State} {src : Src} {c : Chan} {v : Word}

/-! ### Words of CH.CTRL -/

/-- R382: MAX_OUT lies within its range, and TRIG_EN changes in IDLE alone. -/
def State.dmaFits (s : State) (c : Chan) (v : Word) : Prop :=
  1 ≤ F.DMA_CTRL_MAX_OUT.of v ∧ F.DMA_CTRL_MAX_OUT.of v ≤ 32 ∧ (F.DMA_CTRL_TRIG_EN.of v = s.f F.DMA_CTRL_TRIG_EN c ∨ s.dmaState c = dmaIdle)

/-- A word of CH.CTRL is stored; a change of TRIG_EN drops the triggers that wait. -/
def Act.dmaStored (c : Chan) (v : Word) (changes : Bool) : Act := .all [.when changes (.setF F.DMA_STATUS_TRIG_PEND 0 c), .store .DMA_CTRL v c]

/-- What a word of CH.CTRL does beside. -/
def Act.dmaActs (c : Chan) (v : Word) : Act := .all [
  .when (v.getLsbD 1) (.dmaAbort c), .when (v.getLsbD 0 && !v.getLsbD 1) (.all [.setCh c fun x => { x with abort := none }, .dmaState c dmaFetch])]

theorem Act.dmaCtrl_taken (hfits : s.dmaFits c v) (htrigger : v.getLsbD 2 = false)
    (hstart : v.getLsbD 0 = true → v.getLsbD 1 = false → s.dmaState c = dmaIdle ∨ s.dmaState c = dmaHalted) : ∃ changes,
    (Act.dmaCtrl c v).run s = Act.accept.run ((Act.dmaActs c v).run ((Act.dmaStored c v changes).run s)) := by
  obtain ⟨hone, hmax, hkept⟩ := hfits
  refine ⟨F.DMA_CTRL_TRIG_EN.of v != s.f F.DMA_CTRL_TRIG_EN c, ?_⟩
  rw [Act.dmaCtrl, Act.look_run]
  dsimp only
  rw [htrigger, if_neg]
  · rw [Act.dmaActs, Act.dmaStored]
    simp only [Act.all_cons_run, Act.all_nil_run, Act.when_false_run]
  · simp only [Bool.false_and, Bool.or_false, Bool.or_eq_true, Bool.and_eq_true, beq_iff_eq, bne_iff_ne, decide_eq_true_eq, Bool.not_eq_true',
      not_or, not_and]
    refine ⟨⟨⟨by omega, by omega⟩, fun hne => ?_⟩, fun h => ?_⟩
    · exact not_not.mpr (hkept.resolve_left hne)
    · obtain ⟨⟨hon, hoff⟩, hnot⟩ := h
      exact not_not.mpr ((hstart hon hoff).resolve_left hnot)

theorem dmaStart_refused (hw : s.takesReg src .DMA_CTRL c) (hbad : F.DMA_CTRL_MAX_OUT.of v = 0 ∨ 32 < F.DMA_CTRL_MAX_OUT.of v ∨
      v.getLsbD 0 = true ∧ v.getLsbD 1 = false ∧ s.dmaState c ≠ dmaIdle ∧ s.dmaState c ≠ dmaHalted) :
    Answers (.dmaStart src c v) s fun t =>
      t.resp = .error ∧ Counted F.DMA_REFUSED_COUNT s t ∧ NamesKept [.DMA_REFUSED, .FAB_PORT_ERR] s t ∧ OnlyRegs s t := by
  have hrefused : (Act.dmaCtrl c v).run s = (Act.refuse F.DMA_REFUSED_COUNT).run s := by
    rw [Act.dmaCtrl, Act.look_run]
    dsimp only
    rw [if_pos]
    · rfl
    · simp only [Bool.or_eq_true, Bool.and_eq_true, beq_iff_eq, bne_iff_ne, decide_eq_true_eq, Bool.not_eq_true']
      rcases hbad with h | h | ⟨hon, hoff, hidle, hhalted⟩
      · exact .inl (.inl (.inl (.inl h)))
      · exact .inl (.inl (.inl (.inr h)))
      · exact .inl (.inr ⟨⟨⟨hon, hoff⟩, hidle⟩, hhalted⟩)
  exact ⟨_, rfl, Act.writeTo_refused hw hrefused (by decide)⟩

/-! ### START and ABORT -/

/-- The registers of a channel that its commands change. -/
abbrev commandRegs (c : Chan) : List RegRef := [⟨.DMA_CTRL, c, 0, 0⟩, ⟨.DMA_STATUS, c, 0, 0⟩]

theorem Within.dmaStored {changes : Bool} : Within [] (commandRegs c) [] (.dmaStored c v changes) := .all ⟨.when .setFAt, .look fun _ => .setRAt⟩

theorem Act.dmaStored_field {changes : Bool} {f : Fld} (hname : f.name = .DMA_CTRL := by rfl) (hstored : f.storedBits = true := by decide)
    (hm : f.inMask = true := by decide) : ((Act.dmaStored c v changes).run s).f f c = f.of v := by
  rw [Act.dmaStored, Act.all_cons_run, Act.all_cons_run, Act.all_nil_run, ← hname]
  exact Act.store_f_stored (by rw [hname]; exact valid_dma (by simp) c) v _ hstored hm

theorem Act.dmaStored_state {changes : Bool} : ((Act.dmaStored c v changes).run s).dmaState c = s.dmaState c := by
  have hin : Leaves F.DMA_STATUS_STATE (.dmaStored c v changes) := .all ⟨.when .setF, .of_within (l := [.DMA_CTRL]) (ps := []) (.look fun _ => .setR)⟩
  exact hin s c 0 0

theorem Act.dmaStored_ch {changes : Bool} : ((Act.dmaStored c v changes).run s).ch c = s.ch c := Within.dmaStored.ch_eq s c

/-- START acts on a channel that may start. -/
def Act.dmaStarts (c : Chan) : Act := .all [.setCh c fun x => { x with abort := none }, .dmaState c dmaFetch]

theorem Act.dmaStarts_starts : ((Act.dmaStarts c).run s).dmaState c = dmaFetch ∧ (((Act.dmaStarts c).run s).ch c).abort = none := by
  rw [Act.dmaStarts, Act.all_cons_run, Act.all_cons_run, Act.all_nil_run, Within.dmaState.ch_eq, Act.setCh_ch]
  exact ⟨Act.dmaState_same (by decide) _, rfl⟩

theorem dmaStart_starts (hw : s.takesReg src .DMA_CTRL c) (hfits : s.dmaFits c v) (hstart : v.getLsbD 0 = true) (habort : v.getLsbD 1 = false)
    (htrigger : v.getLsbD 2 = false) (hstate : s.dmaState c = dmaIdle ∨ s.dmaState c = dmaHalted) : Answers (.dmaStart src c v) s fun t =>
      t.resp = .ok 0 ∧ t.dmaState c = dmaFetch ∧ t.f F.DMA_CTRL_MAX_OUT c = F.DMA_CTRL_MAX_OUT.of v ∧
      t.f F.DMA_CTRL_PRIO c = F.DMA_CTRL_PRIO.of v ∧ t.f F.DMA_CTRL_TRIG_EN c = F.DMA_CTRL_TRIG_EN.of v ∧ (t.ch c).abort = none ∧
      RegsKept (commandRegs c) s t ∧ t = { s with regs := t.regs, dma := t.dma, resp := t.resp } := by
  obtain ⟨changes, hrun⟩ := Act.dmaCtrl_taken hfits htrigger fun _ _ => hstate
  rw [Act.dmaActs, hstart, habort, Bool.not_false, Bool.and_self, Act.all_cons_run, Act.all_cons_run, Act.all_nil_run, Act.when_false_run,
    Act.when_true_run, ← Act.dmaStarts] at hrun
  have hstored := Within.dmaStored (c := c) (v := v) (changes := changes) s
  have hfield := fun (f : Fld) h1 h2 h3 => Act.dmaStored_field (s := s) (c := c) (v := v) (changes := changes) (f := f) h1 h2 h3
  generalize (Act.dmaStored c v changes).run s = u at hrun hstored hfield
  have hin : Within [] (commandRegs c) [.dma] (.dmaStarts c) := .all ⟨.setCh, .setFAt⟩
  have hleaves : Within [.DMA_STATUS] [] [.dma] (.dmaStarts c) := .all ⟨.setCh, .setF⟩
  obtain ⟨hfetch, hch⟩ := Act.dmaStarts_starts (s := u) (c := c)
  have htouch := (hstored.mono (ps' := [.dma])).trans (hin u)
  have hctrl := fun (f : Fld) (hf : f.name ∉ [RegName.DMA_STATUS]) => (hleaves u).f_eq (f := f) c 0 0 hf
  generalize (Act.dmaStarts c).run u = t at hrun hfetch hch htouch hctrl
  refine ⟨Act.accept.run t, ?_, rfl, hfetch, (hctrl _ (by decide)).trans (hfield _ rfl (by decide) (by decide)),
    (hctrl _ (by decide)).trans (hfield _ rfl (by decide) (by decide)), (hctrl _ (by decide)).trans (hfield _ rfl (by decide) (by decide)), hch,
    htouch.regsKept, ?_⟩
  · show Host.Outcome.next ((Act.writeTo src .DMA_CTRL c 0 0 (Act.dmaCtrl c v)).run s) = _
    rw [Act.writeTo_accepted (d := 0) hw (by rw [hrun]; rfl), hrun]
  · have hrest := htouch.rest
    rw [hrest]
    rfl

section
variable (hw : s.takesReg src .DMA_CTRL c) (hfits : s.dmaFits c v) (hbit : v.getLsbD 1 = true) (htrigger : v.getLsbD 2 = false)
include hw hfits hbit htrigger

/-- R388: ABORT acts on the channel once the word is stored. -/
theorem dmaAbort_acts : ∃ changes, exec (.dmaAbort src c v) s = .next (Act.accept.run ((Act.dmaAbort c).run ((Act.dmaStored c v changes).run s))) := by
  obtain ⟨changes, hrun⟩ := Act.dmaCtrl_taken hfits htrigger fun _ h => absurd (hbit.symm.trans h) (by decide)
  rw [Act.dmaActs, hbit, Bool.not_true, Bool.and_false, Act.all_cons_run, Act.all_cons_run, Act.all_nil_run, Act.when_true_run,
    Act.when_false_run] at hrun
  refine ⟨changes, ?_⟩
  show Host.Outcome.next ((Act.writeTo src .DMA_CTRL c 0 0 (Act.dmaCtrl c v)).run s) = _
  rw [Act.writeTo_accepted (d := 0) hw (by rw [hrun]; rfl), hrun]

theorem dmaAbort_halted (hstate : s.dmaState c = dmaHalted) : Answers (.dmaAbort src c v) s fun t =>
    t.resp = .ok 0 ∧ t.dmaState c = dmaIdle ∧ (t.ch c).jobs = [] := by
  obtain ⟨changes, hrun⟩ := dmaAbort_acts hw hfits hbit htrigger
  have hends : (Act.dmaAbort c).run ((Act.dmaStored c v changes).run s) = (Act.dmaEnd c).run ((Act.dmaStored c v changes).run s) := by
    rw [Act.dmaAbort, Act.look_run, Act.dmaStored_state, hstate]
    rfl
  rw [hends] at hrun
  obtain ⟨hidle, howed⟩ := Act.dmaEnd_ends (c := c) ((Act.dmaStored c v changes).run s)
  generalize (Act.dmaEnd c).run ((Act.dmaStored c v changes).run s) = t at hrun hidle howed
  exact ⟨_, hrun, rfl, hidle, congrArg (fun x => x.2.1) howed⟩

/-- What ABORT does to a channel that runs: nothing further of it is issued. -/
def Act.dmaStops (c : Chan) (now : Nat) : Act := .setCh c fun x => { x with abort := some now, jobs := x.jobs.map (DmaJob.stop codeAborted) }

omit hw hfits hbit htrigger in
theorem Act.dmaStops_ch {now : Nat} (s : State) : ((Act.dmaStops c now).run s).ch c =
    { s.ch c with abort := some now, jobs := (s.ch c).jobs.map (DmaJob.stop codeAborted) } := Act.setCh_ch _ s

omit hw hfits hbit htrigger in
theorem Act.dmaStored_runs {changes : Bool} (hrunning : s.dmaState c ≠ dmaHalted ∧ s.dmaState c ≠ dmaIdle) (hfree : (s.ch c).abort = none) :
    (Act.dmaAbort c).run ((Act.dmaStored c v changes).run s) =
      (Act.when (s.dmaState c != dmaFetch) (.dmaState c dmaDrain)).run ((Act.dmaStops c s.clk).run ((Act.dmaStored c v changes).run s)) := by
  obtain ⟨hhalted, hidle⟩ := hrunning
  rw [Act.dmaAbort, Act.look_run, Act.dmaStored_state, Act.dmaStored_ch, hfree]
  dsimp only
  rw [if_neg hhalted, if_neg hidle, if_neg (by decide), Act.all_cons_run, Act.all_cons_run, Act.all_nil_run,
    show ((Act.dmaStored c v changes).run s).clk = s.clk from (Within.dmaStored (c := c) (v := v) (changes := changes) s).parts .clk (by decide)]
  rfl

theorem dmaAbort_drains (hstate : s.dmaState c = dmaRun ∨ s.dmaState c = dmaWaitTrig) (hfree : (s.ch c).abort = none) :
    Answers (.dmaAbort src c v) s fun t => t.resp = .ok 0 ∧ t.dmaState c = dmaDrain ∧ (t.ch c).abort = some s.clk ∧ RegsKept (commandRegs c) s t := by
  obtain ⟨changes, hrun⟩ := dmaAbort_acts hw hfits hbit htrigger
  have hrunning : s.dmaState c ≠ dmaHalted ∧ s.dmaState c ≠ dmaIdle ∧ s.dmaState c ≠ dmaFetch := by
    rcases hstate with h | h <;> rw [h] <;> decide
  obtain ⟨hhalted, hidle, hfetch⟩ := hrunning
  have hstored := Within.dmaStored (c := c) (v := v) (changes := changes) s
  rw [Act.dmaStored_runs ⟨hhalted, hidle⟩ hfree, bne_iff_ne.mpr hfetch, Act.when_true_run] at hrun
  generalize (Act.dmaStored c v changes).run s = u at hrun hstored
  have hstops : Within [] (commandRegs c) [.dma] (.dmaStops c s.clk) := .setCh
  have hdrain : Within [] (commandRegs c) [] (.dmaState c dmaDrain) := .setFAt
  have htouch := ((hstored.mono (ps' := [.dma])).trans (hstops u)).trans (hdrain _).mono
  have habort := hdrain.ch_eq ((Act.dmaStops c s.clk).run u) c
  rw [Act.dmaStops_ch] at habort
  refine ⟨_, hrun, rfl, Act.dmaState_same (by decide) _, congrArg DmaCh.abort habort, htouch.regsKept⟩

theorem dmaAbort_waits (hstate : s.dmaState c = dmaFetch) (hfree : (s.ch c).abort = none) : Answers (.dmaAbort src c v) s fun t =>
    t.resp = .ok 0 ∧ t.dmaState c = dmaFetch ∧ (t.ch c).abort = some s.clk := by
  obtain ⟨changes, hrun⟩ := dmaAbort_acts hw hfits hbit htrigger
  have hkept := (Act.dmaStored_state (s := s) (c := c) (v := v) (changes := changes)).trans hstate
  rw [Act.dmaStored_runs (by rw [hstate]; decide) hfree, hstate, bne_self_eq_false, Act.when_false_run] at hrun
  generalize (Act.dmaStored c v changes).run s = u at hrun hkept
  exact ⟨_, hrun, rfl, hkept, congrArg DmaCh.abort (Act.dmaStops_ch u)⟩

end

/-! ### Triggers -/

section
variable (hw : s.takes src (if c.val < 32 then 0x91000 else 0x91004))
include hw

theorem dmaTrigger_run {t : State} (ht : (Act.dmaTrigger c).run s = t) (hok : t.resp = .ok 0) : exec (.dmaTrigger src c) s = .next t := by
  show Host.Outcome.next ((Act.write src (if c.val < 32 then 0x91000 else 0x91004) (Act.dmaTrigger c)).run s) = _
  rw [Act.write_accepted hw (by rw [ht]; exact hok), ht]

omit hw in
/-- R389: the trigger is counted. -/
theorem Act.trigger_counts (htaken : s.triggerTaken c = true) : let u := (Act.count F.DMA_STATUS_TRIG_PEND 1 c).run s
    u.f F.DMA_STATUS_TRIG_PEND c = s.f F.DMA_STATUS_TRIG_PEND c + 1 ∧ u.dmaState c = s.dmaState c ∧ u.b F.DMA_CTRL_TRIG_EN c = true ∧
    Touches [] [⟨.DMA_STATUS, c, 0, 0⟩] [] s u := by
  obtain ⟨hon, hroom⟩ := Bool.and_eq_true_iff.mp htaken
  have hless : s.f F.DMA_STATUS_TRIG_PEND c < 255 := of_decide_eq_true hroom
  have hname : Within [.DMA_STATUS] [] [] (.count F.DMA_STATUS_TRIG_PEND 1 c) := .count
  have hat : Within [] [⟨.DMA_STATUS, c, 0, 0⟩] [] (.count F.DMA_STATUS_TRIG_PEND 1 c) := .countAt
  refine ⟨?_, Leaves.count (f := F.DMA_STATUS_STATE) (by decide) (by decide) s c 0 0, ((hname s).b_eq c 0 0).trans hon, hat s⟩
  rw [Act.count_f_same F.DMA_STATUS_TRIG_PEND c 0 s (valid_dma (by simp [F.DMA_STATUS_TRIG_PEND]) c) (by decide)]
  exact Nat.min_eq_left (by show _ ≤ 255; omega)

/-- The descriptor that waited runs, and so many triggers go on waiting. -/
def Act.dmaRuns (c : Chan) (n : Nat) : Act := .all [.setF F.DMA_STATUS_TRIG_PEND n c, .dmaState c dmaRun]

omit hw in
theorem Act.dmaRuns_runs {n : Nat} (hn : n < 256) : ((Act.dmaRuns c n).run s).f F.DMA_STATUS_TRIG_PEND c = n ∧
    ((Act.dmaRuns c n).run s).dmaState c = dmaRun := by
  rw [Act.dmaRuns, Act.all_cons_run, Act.all_cons_run, Act.all_nil_run]
  refine ⟨?_, Act.dmaState_same (by decide) _⟩
  rw [Leaves.dmaState (f := F.DMA_STATUS_TRIG_PEND) (by decide) (by decide) _ c 0 0,
    Act.setF_f_same F.DMA_STATUS_TRIG_PEND n c 0 0 s (valid_dma (by simp [F.DMA_STATUS_TRIG_PEND]) c) (by decide)]
  exact Nat.mod_eq_of_lt hn

theorem dmaTrigger_pends (htaken : s.triggerTaken c = true) (hstate : s.dmaState c ≠ dmaWaitTrig) : Answers (.dmaTrigger src c) s fun t =>
    t.resp = .ok 0 ∧ t.f F.DMA_STATUS_TRIG_PEND c = s.f F.DMA_STATUS_TRIG_PEND c + 1 ∧ RegsKept [⟨.DMA_STATUS, c, 0, 0⟩] s t ∧ OnlyRegs s t := by
  obtain ⟨hpend, hkept, -, htouch⟩ := Act.trigger_counts htaken
  have hrun : (Act.dmaTrigger c).run s = (Act.all [.count F.DMA_STATUS_TRIG_PEND 1 c, .accept]).run s := by
    rw [Act.dmaTrigger, Act.look_run, if_pos htaken, Act.all_cons_run, Act.all_cons_run, Act.all_cons_run, Act.all_cons_run, Act.all_cons_run,
      Act.all_nil_run, Act.all_nil_run, Act.dmaConsume, Act.look_run, hkept, beq_eq_false_iff_ne.mpr hstate, Bool.false_and, Act.when_false_run]
  refine ⟨_, dmaTrigger_run hw hrun rfl, rfl, ?_⟩
  exact ⟨hpend, htouch.regsKept, by
    have hrest := htouch.rest
    rw [Act.all_cons_run, hrest]
    rfl⟩

theorem dmaTrigger_runs (htaken : s.triggerTaken c = true) (hstate : s.dmaState c = dmaWaitTrig) : Answers (.dmaTrigger src c) s fun t =>
    t.resp = .ok 0 ∧ t.dmaState c = dmaRun ∧ t.f F.DMA_STATUS_TRIG_PEND c = s.f F.DMA_STATUS_TRIG_PEND c ∧
    RegsKept [⟨.DMA_STATUS, c, 0, 0⟩] s t ∧ OnlyRegs s t := by
  obtain ⟨hpend, hkept, hon, htouch⟩ := Act.trigger_counts htaken
  obtain ⟨u, hu⟩ : ∃ u, u = (Act.count F.DMA_STATUS_TRIG_PEND 1 c).run s := ⟨_, rfl⟩
  rw [← hu] at hpend hkept hon htouch
  have hin : Within [] [⟨.DMA_STATUS, c, 0, 0⟩] [] (.dmaRuns c (s.f F.DMA_STATUS_TRIG_PEND c)) := .all ⟨.setFAt, .setFAt⟩
  obtain ⟨hpends, hruns⟩ := Act.dmaRuns_runs (c := c) (s := u) (show s.f F.DMA_STATUS_TRIG_PEND c < 256 from Fld.of_lt _ _)
  have hboth := htouch.trans (hin u)
  obtain ⟨w, hw'⟩ : ∃ w, w = (Act.dmaRuns c (s.f F.DMA_STATUS_TRIG_PEND c)).run u := ⟨_, rfl⟩
  rw [← hw'] at hboth hpends hruns
  have hconsume : (Act.dmaConsume c).run u = w := by
    rw [Act.dmaConsume, Act.look_run, hkept, hstate, hon, hpend, Nat.add_sub_cancel, decide_eq_true (Nat.le_add_left 1 _), hw']
    rfl
  have hrun : (Act.dmaTrigger c).run s = Act.accept.run w := by
    rw [Act.dmaTrigger, Act.look_run, if_pos htaken, Act.all_cons_run, Act.all_cons_run, Act.all_cons_run, Act.all_nil_run, ← hu, hconsume]
  exact ⟨_, dmaTrigger_run hw hrun rfl, rfl, hruns, hpends, hboth.regsKept, by
    have hrest := hboth.rest
    rw [hrest]
    rfl⟩

theorem dmaTrigger_refused (htaken : s.triggerTaken c = false) : Answers (.dmaTrigger src c) s fun t =>
    t.resp = .error ∧ Counted F.DMA_REFUSED_COUNT s t ∧ NamesKept [.DMA_REFUSED, .FAB_PORT_ERR] s t ∧ OnlyRegs s t := by
  have hrefused : (Act.dmaTrigger c).run s = (Act.refuse F.DMA_REFUSED_COUNT).run s := by
    rw [Act.dmaTrigger, Act.look_run, htaken, if_neg (by decide)]
    rfl
  exact ⟨_, rfl, Act.write_refused hw hrefused (by decide)⟩

end

/-! ### Pacing -/

/-- A word of CH.RATE is stored, the tokens gained so far counted first. -/
def Act.ratePaces (c : Chan) (v : Word) (tokens now : Nat) : Act := .all [
  .setCh c fun x => { x with tokens := tokens, tokenClk := now }, .store .DMA_RATE v c]

theorem Act.ratePaces_field {tokens now : Nat} {f : Fld} (hname : f.name = .DMA_RATE := by rfl) (hstored : f.storedBits = true := by decide)
    (hm : f.inMask = true := by decide) : ((Act.ratePaces c v tokens now).run s).f f c = f.of v := by
  rw [Act.ratePaces, Act.all_cons_run, Act.all_cons_run, Act.all_nil_run, ← hname]
  exact Act.store_f_stored (by rw [hname]; exact valid_dma (by simp) c) v _ hstored hm

theorem Act.ratePaces_ch {tokens now : Nat} : ((Act.ratePaces c v tokens now).run s).ch c = { s.ch c with tokens := tokens, tokenClk := now } := by
  have hstore : Within [.DMA_RATE] [] [] (.store .DMA_RATE v c) := .look fun _ => .setR
  rw [Act.ratePaces, Act.all_cons_run, Act.all_cons_run, Act.all_nil_run, hstore.ch_eq, Act.setCh_ch]

section
variable (hw : s.takesReg src .DMA_RATE c)
include hw

theorem dmaRateWrite_paces (hrate : F.DMA_RATE_RATE.of v ≤ 256) (hdeep : 1 ≤ F.DMA_RATE_DEPTH.of v) (hdepth : F.DMA_RATE_DEPTH.of v ≤ 16) :
    Answers (.dmaRateWrite src c v) s fun t =>
      t.resp = .ok 0 ∧ t.f F.DMA_RATE_RATE c = F.DMA_RATE_RATE.of v ∧ t.f F.DMA_RATE_DEPTH c = F.DMA_RATE_DEPTH.of v ∧
      (t.ch c).tokens = s.dmaTokens c ∧ RegsKept [⟨.DMA_RATE, c, 0, 0⟩] s t ∧ t = { s with regs := t.regs, dma := t.dma, resp := t.resp } := by
  have hin : Within [] [⟨.DMA_RATE, c, 0, 0⟩] [.dma] (.ratePaces c v (s.dmaTokens c) s.clk) := .all ⟨.setCh, .look fun _ => .setRAt⟩
  obtain ⟨u, hu⟩ : ∃ u, u = (Act.ratePaces c v (s.dmaTokens c) s.clk).run s := ⟨_, rfl⟩
  have hrun : (Act.dmaRate c v).run s = Act.accept.run u := by
    rw [Act.dmaRate, Act.look_run, if_neg (by omega), hu]
    rfl
  have htouch := hin s
  have hfield := fun (f : Fld) h1 h2 h3 =>
    Act.ratePaces_field (s := s) (c := c) (v := v) (tokens := s.dmaTokens c) (now := s.clk) (f := f) h1 h2 h3
  have hch := Act.ratePaces_ch (s := s) (c := c) (v := v) (tokens := s.dmaTokens c) (now := s.clk)
  rw [← hu] at htouch hch
  simp only [← hu] at hfield
  refine ⟨Act.accept.run u, ?_, rfl, hfield _ rfl (by decide) (by decide), hfield _ rfl (by decide) (by decide), congrArg DmaCh.tokens hch,
    htouch.regsKept, ?_⟩
  · show Host.Outcome.next ((Act.writeTo src .DMA_RATE c 0 0 (Act.dmaRate c v)).run s) = _
    rw [Act.writeTo_accepted (d := 0) hw (by rw [hrun]; rfl), hrun]
  · have hrest := htouch.rest
    rw [hrest]
    rfl

theorem dmaRateWrite_refused (hbad : 256 < F.DMA_RATE_RATE.of v ∨ F.DMA_RATE_DEPTH.of v = 0 ∨ 16 < F.DMA_RATE_DEPTH.of v) :
    Answers (.dmaRateWrite src c v) s fun t =>
      t.resp = .error ∧ Counted F.DMA_REFUSED_COUNT s t ∧ NamesKept [.DMA_REFUSED, .FAB_PORT_ERR] s t ∧ OnlyRegs s t := by
  have hrefused : (Act.dmaRate c v).run s = (Act.refuse F.DMA_REFUSED_COUNT).run s := by
    rw [Act.dmaRate, Act.look_run, if_pos hbad]
    rfl
  exact ⟨_, rfl, Act.writeTo_refused hw hrefused (by decide)⟩

end

/-! ### An abort that does not drain -/

theorem TagsHeld.of_eq {t : State} (h : t.dma.tags = s.dma.tags) : TagsHeld s t := .inl h

theorem TagsHeld.none {t : State} (h : TagsHeld s t) (hnone : s.dmaTags c = []) : t.dmaTags c = [] := by
  rcases h with h | h
  · rw [State.dmaTags, h]
    exact hnone
  · rw [State.dmaTags, h, List.filter_nil]

/-- R388: the tags of the channel are abandoned. -/
def Act.dmaAbandons (c : Chan) : Act :=
  .setDma fun d => { d with tags := d.tags.map fun e => if e.2.chan = c then (e.1, { e.2 with dead := true }) else e }

theorem Act.dmaAbandons_tags : ((Act.dmaAbandons c).run s).dmaTags c = [] := by
  have htags : ((Act.dmaAbandons c).run s).dma.tags = s.dma.tags.map fun e => if e.2.chan = c then (e.1, { e.2 with dead := true }) else e := rfl
  rw [State.dmaTags, htags, List.filter_eq_nil_iff]
  intro e he
  obtain ⟨x, -, rfl⟩ := List.mem_map.mp he
  by_cases hchan : x.2.chan = c
  · rw [if_pos hchan]
    simp
  · rw [if_neg hchan]
    simp [hchan]

/-- What is still written for a channel whose tags are abandoned: the STATUS words of its descriptors. -/
def Act.dmaReports (s : State) (c : Chan) : Act := .all [
  .outstanding c,
  .each ((s.ch c).jobs.filter fun j => j.code != codeDescError) fun j => .dmaPut c (j.desc.addr + 28) (dmaStatusWord j.status.1 codeUndrained) true,
  .when (s.dmaState c == dmaFetch) (.fresh fun v => .dmaPut c (s.dmaDesc c + 28) (dmaStatusWord v.toNat codeUndrained) true)]

theorem HoldsTags.dmaReports : HoldsTags (.dmaReports s c) :=
  .all ⟨.look fun _ => .setF, .each fun _ => .dmaPut, .when (.look fun _ => .andThen (.own fun _ => rfl) .dmaPut)⟩

theorem Act.dmaUndrained_run {t : Nat} (habort : (s.ch c).abort = some t) (hlate : t + 8192 ≤ s.clk) : (Act.dmaUndrained c).run s =
    { (Act.dmaEnd c).run ((Act.setB F.DMA_STATUS_ABORTED true c).run ((Act.dmaReports s c).run ((Act.dmaAbandons c).run s))) with resp := s.resp } := by
  rw [Act.dmaUndrained, Act.look_run, habort, Option.any_some, decide_eq_true hlate, Act.when_true_run, Act.silent_run]
  simp only [Act.dmaReports, Act.dmaAbandons, Act.all_cons_run, Act.all_nil_run]

theorem dmaUndrained_ends : ∀ t, (s.ch c).abort = some t → t + 8192 ≤ s.clk → AnswersThenSettled (.dmaUndrained c) s fun u =>
    u.b F.DMA_STATUS_ABORTED c = true ∧ u.dmaState c = dmaIdle ∧ (u.ch c).jobs = [] ∧ (u.ch c).abort = none ∧ u.dmaTags c = [] := by
  intro t habort hlate
  have hrun := Act.dmaUndrained_run habort hlate
  have hnone : ((Act.dmaReports s c).run ((Act.dmaAbandons c).run s)).dmaTags c = [] := (HoldsTags.dmaReports _).none Act.dmaAbandons_tags
  generalize (Act.dmaReports s c).run ((Act.dmaAbandons c).run s) = u at hrun hnone
  have hset : Within [.DMA_STATUS] [] [] (.setB F.DMA_STATUS_ABORTED true c) := .setB
  have haborted := Act.setB_b_same F.DMA_STATUS_ABORTED true c 0 0 u (valid_dma (by simp [F.DMA_STATUS_ABORTED]) c) (by decide) rfl
  have htags := hset.tags_eq u
  generalize (Act.setB F.DMA_STATUS_ABORTED true c).run u = w at hrun haborted htags
  have hshown := (Leaves.dmaEnd (c := c) (f := F.DMA_STATUS_ABORTED)).b w c 0 0
  obtain ⟨hidle, howed⟩ := Act.dmaEnd_ends (c := c) w
  generalize (Act.dmaEnd c).run w = x at hrun hshown hidle howed
  refine answersThenSettled_of rfl hrun ⟨hshown.trans haborted, hidle, congrArg (fun y => y.2.1) howed, congrArg (fun y => y.2.2) howed, ?_⟩
  exact (TagsHeld.of_eq ((congrArg Prod.fst howed).trans htags)).none hnone

theorem dmaUndrained_idle (habort : (s.ch c).abort = none) : AnswersThenSettled (.dmaUndrained c) s fun u => u = s := by
  refine answersThenSettled_of rfl ?_ rfl
  rw [Act.dmaUndrained, Act.look_run, habort, Option.any_none, Act.when_false_run]

/-! ### The commands of a channel -/

/-- Settles O45: each command of a channel does what its own lemma says. The tags of an abort that does not drain stay abandoned while the
STATUS words are written, because no write gives out a tag. -/
theorem dmaCommands : Obligations.DmaCommands := by
  unfold Obligations.DmaCommands
  intro s src c v
  dsimp only
  exact ⟨dmaStart_starts, dmaStart_refused,
    fun hw hfits hbit htrigger => ⟨dmaAbort_halted hw hfits hbit htrigger, dmaAbort_drains hw hfits hbit htrigger,
      dmaAbort_waits hw hfits hbit htrigger⟩,
    dmaUndrained_ends, dmaUndrained_idle,
    fun hw => ⟨dmaTrigger_pends hw, dmaTrigger_runs hw, dmaTrigger_refused hw⟩, dmaRateWrite_paces, dmaRateWrite_refused⟩

end Sys2Proof.Machine
end
